-- ==== Sys2Proof/Word.lean ====
section
/-!
DEFINITION. The machine's words: registers are 32 bits wide (R7), memory is bytes (R4).
-/
namespace Sys2Proof

/-- A register word (R7). -/
abbrev Word := BitVec 32

/-- A byte of memory or of a frame (R4). -/
abbrev Byte := BitVec 8

end Sys2Proof
end

