-- ==== Sys2Proof/Syntax/Operands.lean ====
section
/-!
DEFINITION. The types the commands' operands are made of: masts, triads, units, boot findings and the like (R10, R14).
-/
namespace Sys2Proof

/-- The four masts, encoded A = 0, B = 1, C = 2, J = 3 (R10). -/
inductive Mast where
  | a | b | c | j
  deriving DecidableEq, Repr

/-- The mast code of R10. -/
def Mast.code : Mast → Nat
  | .a => 0 | .b => 1 | .c => 2 | .j => 3

/-- The mast a two-bit field names (R10). -/
def Mast.ofCode (n : Nat) : Mast :=
  match n % 4 with
  | 0 => .a | 1 => .b | 2 => .c | _ => .j

/-- The four masts in the order of R10. -/
def Mast.all : List Mast := [.a, .b, .c, .j]

/-- The three lane positions (R100). -/
inductive LanePos where
  | a | b | c
  deriving DecidableEq, Repr

/-- The position code of R103 and `LM_SELF`: A 0, B 1, C 2. -/
def LanePos.code : LanePos → Nat
  | .a => 0 | .b => 1 | .c => 2

/-- The position a two-bit field names; 3 is none (R103) and is not asked here. -/
def LanePos.ofCode (n : Nat) : LanePos :=
  match n with
  | 0 => .a | 1 => .b | _ => .c

/-- The two triads of a mast (R74). -/
inductive Triad where
  | p | c
  deriving DecidableEq, Repr

/-- 0 Triad P, 1 Triad C (R95, R97). -/
def Triad.code : Triad → Nat
  | .p => 0 | .c => 1

/-- One value for each mast. -/
structure Per (α : Type) where
  a : α
  b : α
  c : α
  j : α
  deriving DecidableEq, Repr

/-- The value held for mast `m`. -/
def Per.get {α : Type} (p : Per α) : Mast → α
  | .a => p.a | .b => p.b | .c => p.c | .j => p.j

/-- The same values with that of mast `m` replaced. -/
def Per.set {α : Type} (p : Per α) (m : Mast) (v : α) : Per α :=
  match m with
  | .a => { p with a := v } | .b => { p with b := v } | .c => { p with c := v } | .j => { p with j := v }

/-- The same value for every mast. -/
def Per.all {α : Type} (v : α) : Per α := ⟨v, v, v, v⟩

/-- Apply `f` to the value of every mast. -/
def Per.map {α β : Type} (p : Per α) (f : Mast → α → β) : Per β :=
  ⟨f .a p.a, f .b p.b, f .c p.c, f .j p.j⟩

/-- The masts whose flag is set, in the order of R10. -/
def Per.masts (p : Per Bool) : List Mast := Mast.all.filter fun m => p.get m

/-- Bit n set where mast n's flag is set (R10). -/
def Per.mask (p : Per Bool) : Nat :=
  (if p.a then 1 else 0) + (if p.b then 2 else 0) + (if p.c then 4 else 0) + (if p.j then 8 else 0)

/-- An item: header fields of R134 and the value bytes. `crc` is the tag's bits 63:32 as carried. -/
structure Item where
  source : Nat
  seq : Nat
  crc : Nat
  esec : Nat
  ens : Nat
  len : Nat
  trunc : Bool
  filled : Bool
  value : List Byte
  deriving DecidableEq, Repr

/-- One page record of a checkpoint round (R122), as received from a survivor: its fields with MAGIC and the reserved bytes.
`pcrc` is the record's field; the digest of an end-of-final-round record stands in DATA bytes 0 to 7. -/
structure PageRecord where
  magic : Nat := 0x434B5054
  reserved : Nat := 0
  kind : Nat
  region : Nat
  page : Nat
  cycle : Nat
  round : Nat
  pcrc : Nat
  data : List Byte
  deriving DecidableEq, Repr

/-- Who reads a memory word, coded as in `MI_LASTSYN.SOURCE`: Triad P 1, Triad C 2, block or DMA 3. -/
inductive MemSource where
  | triadP | triadC | block
  deriving DecidableEq, Repr

/-- The source code of `MI_LASTSYN`. -/
def MemSource.code : MemSource → Nat
  | .triadP => 1 | .triadC => 2 | .block => 3

/-- The triad a source stands for, if it is one. -/
def MemSource.triad : MemSource → Option Triad
  | .triadP => some .p
  | .triadC => some .c
  | .block => none

/-- Where an access finds a word: in the memory itself, or in the L2 of a triad, clean or dirty (R382). -/
inductive MemPlace where
  | memory
  | l2 (t : Triad) (dirty : Bool)
  deriving DecidableEq, Repr

/-- What a particle or wear has done to the word, beside what the state already holds: nothing, one bit inverted (0 to 71),
two or more, or the two valid-bit copies disagree (R379). -/
inductive MemFinding where
  | clean
  | single (bit : Nat)
  | wide
  | validSplit
  deriving DecidableEq, Repr

/-- A condition of a mast's own supervision (R76): the crystal, a PLL, a supply rail (0 core, 1 I/O, 2 DRAM), or the die
temperature in quarter degrees Celsius. -/
inductive MastFault where
  | crystal
  | pll
  | rail (n : Nat)
  | die (quarters : Int)
  deriving DecidableEq, Repr

/-- What an Announce message says of its grandmaster (R155): the two priorities, the clock quality, and the steps removed. -/
structure Announce where
  priority1 : Nat
  cls : Nat
  accuracy : Nat
  variance : Nat
  priority2 : Nat
  steps : Nat
  deriving DecidableEq, Repr

/-- What a PTP or gPTP message carries (R155): a Sync with its Follow_Up, and the offset in nanoseconds the servo measures by it where
the path delay is known; or an Announce. -/
inductive PtpBody where
  | sync (offset : Option Int)
  | announce (a : Announce)
  deriving DecidableEq, Repr

/-- A symbol-table entry (R275): index, address, size in bytes, type code, bounds and flags. -/
structure Symbol where
  index : Nat
  addr : Nat
  size : Nat
  typ : Nat
  least : Int
  most : Int
  locked : Bool
  retained : Bool
  deriving DecidableEq, Repr

/-- One symbol of a change request: its index, the size and type code of the value, and the value (R289). -/
structure ChangeItem where
  index : Nat
  size : Nat
  typ : Nat
  value : Int
  deriving DecidableEq, Repr

/-- What one mast reads in its boot-token window (R50, R51): whether the SPI device answered, the five bytes of the seal word
in shift order, and the bytes of the slot image. -/
structure KeyRead where
  answered : Bool
  sealWord : List Byte
  image : List Byte
  deriving DecidableEq, Repr

/-- What the firmware finds in its settings at step 7 of R29 (R403 to R405): the items migrated and defaulted where the
schema changed, the items whose conversion failed, the mast whose store was repaired, whether all took defaults, the store
image the firmware writes where it carries the settings, and the register words the settings hold. (DESIGN CHOICE, log entry 69) -/
structure SettingsFinding where
  carried : Nat × Nat
  failed : List Nat
  repaired : Option Mast
  reset : Bool
  store : List Byte
  words : List (Nat × Nat)
  deriving DecidableEq, Repr

/-- What a start finds in its surroundings: which masts pass step 3 of R29 (with the memory checkers that failed, R386), what each
reads from the slot key, the slot-id pins, the OTP contents (serial, key slots, revocation bits), the pushbutton, the settings,
the application's symbol table
and its retained variables' initial values, and the step that overran, if any. (DESIGN CHOICE, log entry 20) -/
structure BootEnv where
  selftest : Per Bool
  checkers : Per Nat
  keys : Per KeyRead
  pins : Nat
  serial : Nat
  otpKeys : List (List Byte)
  revoked : Nat
  button : Bool
  settings : SettingsFinding
  symbols : List Symbol
  initial : List Byte
  statics : List Byte
  constants : List Byte
  overran : Nat
  deriving DecidableEq, Repr

/-- What a wake finds (R40 step 4): which of the woken masts pass their self-tests, which memory checkers fail (R386), and the seal
word each mast reads. -/
structure WakeFinding where
  selftest : Per Bool
  checkers : Per Nat
  seals : Per (List Byte)
  deriving DecidableEq, Repr

/-- What the jury mast finds as it starts on the join path or the turn path: its self-tests, what it reads from the slot key,
whether the survivors' two copies of the slot image are identical (R54), and whether the transfer and its flash write on the
turn path go well (R400). (DESIGN CHOICE, log entry 57) -/
structure JuryFinding where
  selftest : Bool
  key : KeyRead
  copies : Bool
  turn : Bool
  deriving DecidableEq, Repr

/-- A frame a mast forms for a transmit unit (R115): its number on the unit, the item it carries, the bytes without FCS (on a
network plane the model forms them from the item, R146, R303), its launch time in network-time nanoseconds if it has one, its
traffic class and port on a network plane, the identifier of its transmit timestamp entry if it asks for one (R161), and whether it
is sent on its own port only (R333). -/
structure TxFrame where
  seq : Nat
  item : Item
  bytes : List Byte
  launch : Option Nat
  port : Nat
  cls : Nat
  stamp : Option Nat
  portOnly : Bool := false
  deriving DecidableEq, Repr

end Sys2Proof
end

