-- ==== Sys2Proof/Syntax.lean ====
section
/-!
DEFINITION. The commands: one constructor for each row of the command table, in the table's order (R446 and the rule each
docstring names). The first operand of every command is the local time, in nanoseconds since power-on, at which it acts.
-/
namespace Sys2Proof

/-- The commands that reach the module. -/
inductive Instr where
  /-- `REGISTER_WRITE` (R9): A write to a register field that has no row of its own takes effect according to the field's
  type. -/
  | registerWrite (t : Nat) (m : Mast) (tr : Triad) (addr : Nat) (value : Word)
  /-- `MISALIGNED_REGISTER_ACCESS` (R7): A register access that is not an aligned 32-bit read or write completes with a
  bus error and has no effect. -/
  | misalignedRegisterAccess (t : Nat) (m : Mast) (tr : Triad) (addr size : Nat)
  /-- `UNMAPPED_ACCESS` (R78): An access to an address outside every range of the address map completes with a bus error. -/
  | unmappedAccess (t : Nat) (m : Mast) (tr : Triad) (addr : Nat)
  /-- `READ_ONLY_REGION_WRITE` (R77): A triad write to boot ROM or NOR flash completes with a bus error and has no effect. -/
  | readOnlyRegionWrite (t : Nat) (m : Mast) (tr : Triad) (addr : Nat)
  /-- `RESERVED_AREA_WRITE` (R79): A triad write to the event log, the slot-image copy or the silence record completes
  with a bus error. -/
  | reservedAreaWrite (t : Nat) (m : Mast) (tr : Triad) (addr : Nat)
  /-- `TRIAD_C_FENCED_WRITE` (R80): A Triad C write below the SRAM or DRAM fence is refused with a bus error. -/
  | triadCFencedWrite (t : Nat) (m : Mast) (addr : Nat)
  /-- `SUMMARY_EVENT_PERIOD_END` (R447): The 1 s period of a summary event ends and the event is raised once with the
  count of occurrences. -/
  | summaryEventPeriodEnd (t code key : Nat)
  /-- `ACTION_INSTANT` (R165): Module time reaches an action instant: commands and combined writes take effect, images are
  committed, intake is decided and released, and the interfaces act. -/
  | actionInstant (t : Nat)
  /-- `COMMIT_POINT` (R108): 50 µs before each action instant the masts exchange image digests and decide the commit. -/
  | commitPoint (t : Nat)
  /-- `OUTPUT_IMAGE_SUBMIT` (R17): A mast submits the tagged output image of a cycle for the lane vote. -/
  | outputImageSubmit (t : Nat) (m : Mast) (items : List Item) (done : Nat)
  /-- `CYCLE_END_MARK` (R124): Triad P writes LM_CYCEND after cleaning, marking its retained state complete and starting
  the retained write. -/
  | cycleEndMark (t : Nat) (m : Mast) (cycle : Nat)
  /-- `POWER_ON` (R29): The logic supply rises through 16.8 V after being off and the module runs BOOT. -/
  | powerOn (t : Nat) (env : BootEnv)
  /-- `BOOT_TOKEN_WINDOW_END` (R50): The 40 ms boot-token window of a mast ends and the token is taken back. -/
  | bootTokenWindowEnd (t : Nat) (m : Mast)
  /-- `AUTOSTART` (R29): With autostart and no inhibit the module starts the application into RUN after STOP. -/
  | autostart (t : Nat)
  /-- `BUTTON_CONTACT_CLOSE` (R43): The reset pushbutton contact closes. -/
  | buttonContactClose (t : Nat)
  /-- `BUTTON_DEBOUNCE_EXPIRY` (R43): After 50 ms of closure the press is debounced and the module is held in reset. -/
  | buttonDebounceExpiry (t : Nat)
  /-- `BUTTON_CONTACT_RELEASE` (R43): The button is released before 10 s and BOOT begins with BUTTON recorded. -/
  | buttonContactRelease (t : Nat) (env : BootEnv)
  /-- `BUTTON_STUCK_EXPIRY` (R43): The button stays closed for 10 s, is treated as stuck and BOOT begins. -/
  | buttonStuckExpiry (t : Nat) (env : BootEnv)
  /-- `BUTTON_OPEN_EXPIRY` (R43): The ignored button has been open for 1 s and is accepted again. -/
  | buttonOpenExpiry (t : Nat)
  /-- `RECOVERY_BREAK_BEGIN` (R31): A break condition on the service port begins within the recovery window and autostart
  is withheld. -/
  | recoveryBreakBegin (t : Nat)
  /-- `RECOVERY_BREAK_EXPIRY` (R31): The break reaches 2 s and the module passes to RECOVERY. -/
  | recoveryBreakExpiry (t : Nat)
  /-- `RECOVERY_BREAK_END` (R31): The break ends early and autostart proceeds. -/
  | recoveryBreakEnd (t : Nat)
  /-- `START` (R46): Agreed START command takes the module from STOP to RUN with a chosen restart. -/
  | start (t : Nat) (writers : Per Bool)
  /-- `START_COLD` (R46): Agreed START_COLD command starts RUN with a cold restart. -/
  | startCold (t : Nat) (writers : Per Bool)
  /-- `STOP` (R46): Agreed STOP command takes RUN or HOLD to STOP. -/
  | stop (t : Nat) (writers : Per Bool)
  /-- `HOLD` (R46): Agreed HOLD command halts the application at its cycle end with outputs held. -/
  | hold (t : Nat) (writers : Per Bool)
  /-- `RESUME` (R46): Agreed RESUME command continues the application from HOLD. -/
  | resume (t : Nat) (writers : Per Bool)
  /-- `STANDBY` (R38): Agreed STANDBY command runs the STANDBY entry sequence. -/
  | standby (t : Nat) (writers : Per Bool)
  /-- `SERVICE` (R46): Agreed SERVICE command from an authenticated session takes STOP to SERVICE. -/
  | service (t : Nat) (writers : Per Bool)
  /-- `LEAVE` (R46): Agreed LEAVE command takes SERVICE to STOP and releases forces. -/
  | leave (t : Nat) (writers : Per Bool)
  /-- `RESET` (R46): Agreed RESET command performs a module reset. -/
  | reset (t : Nat) (writers : Per Bool) (env : BootEnv)
  /-- `HOLD_TIMEOUT` (R27): After 600 s in HOLD the module goes to STOP. -/
  | holdTimeout (t : Nat)
  /-- `WAKE_EVENT` (R40): An enabled wake source fires in STANDBY and the wake sequence runs. -/
  | wakeEvent (t src : Nat) (f : WakeFinding) (millis : Nat) (env : BootEnv)
  /-- `STANDBY_MAST_FAULT` (R41): The awake mast finds a fault of its own in STANDBY and a full BOOT follows. -/
  | standbyMastFault (t : Nat) (env : BootEnv)
  /-- `SEAL_POLL` (R67): Once per second the seal word is polled and compared with the value agreed at BOOT. -/
  | sealPoll (t : Nat) (word : List Byte)
  /-- `APP_FETCH_REQUEST` (R70): In STOP with APP_MISMATCH and FETCH_EN the module requests the application from the rack
  master, and repeats every 10 s. -/
  | appFetchRequest (t : Nat)
  /-- `APP_FETCH_SERVE` (R70): The rack master receives a fetch request and serves the application if it has that hash. -/
  | appFetchServe (t slot : Nat) (hash : List Byte)
  /-- `APP_FETCH_RECEIVED` (R70): A fetched image arrives, is verified and activated as an update. -/
  | appFetchReceived (t : Nat) (refused whole : Bool) (image : List Byte) (bad : Per Bool) (f : JuryFinding) (env : BootEnv)
  /-- `MAST_SUPERVISION_FAULT` (R76): A mast's clock, PLL, supply rail or die temperature leaves its limit and the mast
  goes fail-silent. -/
  | mastSupervisionFault (t : Nat) (m : Mast) (f : MastFault)
  /-- `DIE_TEMPERATURE_CROSSING` (R76): A die temperature rises above 145 °C or falls below 140 °C. -/
  | dieTemperatureCrossing (t : Nat) (m : Mast) (quarters : Int)
  /-- `TRIAD_VOTE_DISAGREE` (R84): The voter finds a core in the minority, starting a resync, or no majority, a triad fault. -/
  | triadVoteDisagree (t : Nat) (m : Mast) (tr : Triad) (x y z : BitVec 64)
  /-- `VOTER_HALF_MISMATCH` (R89): The two voter halves disagree: triad fault 0x01. -/
  | voterHalfMismatch (t : Nat) (m : Mast) (tr : Triad) (bit : Nat)
  /-- `DELAY_STAGE_PARITY_ERROR` (R90): A delay-stage parity error gives triad fault 0x02 or 0x03. -/
  | delayStageParityError (t : Nat) (m : Mast) (tr : Triad) (output : Bool) (core stage group : Nat)
  /-- `RESYNC_SELFTEST_DONE` (R85): The minority core's self-test completes; a failure fails the resync. -/
  | resyncSelftestDone (t : Nat) (m : Mast) (tr : Triad) (pass : Bool)
  /-- `RESYNC_POINT` (R85): At an instruction boundary the state is copied and all three cores restart. -/
  | resyncPoint (t : Nat) (m : Mast) (tr : Triad) (crcOk : Bool)
  /-- `LOCKSTEP_TIMEOUT` (R87): A core stays out of lockstep for more than 1 ms: triad fault 0x08. -/
  | lockstepTimeout (t : Nat) (m : Mast) (tr : Triad)
  /-- `LAST_WORD_RECEIVED` (R93): A mast receives another mast's last word. -/
  | lastWordReceived (t : Nat) (obs snd : Mast) (record : List Byte)
  /-- `TD_INJECT_OUTPUT_BIT` (R97): Agreed injection of an inverted core output bit for one cycle. -/
  | tdInjectOutputBit (t : Nat) (writers : Per Bool) (target : Mast) (tr : Triad) (core : Nat)
  /-- `TD_INJECT_INPUT_PARITY` (R97): Agreed injection of a parity error in input delay stage 1. -/
  | tdInjectInputParity (t : Nat) (writers : Per Bool) (target : Mast) (tr : Triad) (core : Nat)
  /-- `TD_INJECT_OUTPUT_PARITY` (R97): Agreed injection of a parity error in output delay stage 1. -/
  | tdInjectOutputParity (t : Nat) (writers : Per Bool) (target : Mast) (tr : Triad) (core : Nat)
  /-- `TD_INJECT_VOTER` (R97): Agreed inversion of one bit of voter half V2. -/
  | tdInjectVoter (t : Nat) (writers : Per Bool) (target : Mast) (tr : Triad) (core : Nat)
  /-- `TD_SILCLR` (R95): A keyed write in SERVICE or STOP clears the silence record's VALID byte. -/
  | tdSilclr (t : Nat) (m : Mast) (value : Word)
  /-- `HEARTBEAT_SEND` (R103): Every 250 µs a mast sends an HB1 beat and toggles its HB2 lines. -/
  | heartbeatSend (t : Nat) (m : Mast)
  /-- `HB1_BEAT_RECEIVED` (R104): An HB1 beat arrives and is checked; its VIEW and commit decision are evaluated. -/
  | hb1BeatReceived (t : Nat) (obs peer : Mast) (bytes : List Byte)
  /-- `HB2_EDGE` (R104): An edge on an HB2 line counts as a beat. -/
  | hb2Edge (t : Nat) (obs peer : Mast)
  /-- `HEARTBEAT_MISSED` (R104): An expected beat's window ends without it; paths go down and losses are decided. -/
  | heartbeatMissed (t : Nat) (obs peer : Mast) (hb1 hb2 : Bool)
  /-- `ISOLATION_POWER_CHECK` (R113): 250 µs after the loss the lost mast's rails are checked and the jury mast is powered
  if called for. -/
  | isolationPowerCheck (t percent : Nat) (f : JuryFinding)
  /-- `JOIN_READY` (R119): The jury mast's firmware writes LM_JOINCTL.READY and the bulk round starts. -/
  | joinReady (t : Nat) (value : Word)
  /-- `JOIN_READY_TIMEOUT` (R125): READY not written 600 ms after onset: the join fails. -/
  | joinReadyTimeout (t : Nat)
  /-- `JOIN_ENTRY_TIMEOUT` (R125): J has not entered by 700 ms plus one cycle: the join fails. -/
  | joinEntryTimeout (t : Nat)
  /-- `CHECKPOINT_PAGE_RECORD` (R125): A checkpoint page record arrives at the jury mast and is compared with its twin. -/
  | checkpointPageRecord (t : Nat) (survivor : Mast) (r : PageRecord)
  /-- `FRAME_DIGEST_DEPOSIT` (R115): A mast forms a frame, checks its tag and deposits its digest with the selector. -/
  | frameDigestDeposit (t : Nat) (m : Mast) (u : Nat) (f : TxFrame)
  /-- `FRAME_UNCONFIRMED_TIMEOUT` (R115): A frame not confirmed within 100 µs or by its launch time is discarded by the
  owner. -/
  | frameUnconfirmedTimeout (t u seq port cls : Nat)
  /-- `FRAME_LAUNCH` (R310): An eligible frame starts on its port and the selector checks its bytes against the digests. -/
  | frameLaunch (t u port : Nat) (damaged : Bool)
  /-- `NORMAL_HANDOVER` (R117): At the unit's next boundary the selector passes the new preferred owner, break-before-make. -/
  | normalHandover (t u : Nat)
  /-- `ITEM_ARRIVAL` (R135): An entry item arrives at a mast, its tag is checked and it is staged. -/
  | itemArrival (t : Nat) (m : Mast) (item : Item)
  /-- `PROPOSAL_SEND` (R136): A mast sends a proposal message when 120 tags gather, 10 µs pass, or CLOSE at an action
  instant. -/
  | proposalSend (t : Nat) (m : Mast) (close : Bool)
  /-- `PROPOSAL_RECEIVED` (R136): A proposal message arrives; a PSEQ gap triggers a re-request. -/
  | proposalReceived (t : Nat) (obs : Mast) (bytes : List Byte)
  /-- `CLOSE_TIMEOUT` (R136): A peer's CLOSE has not arrived 4 µs after the action instant. -/
  | closeTimeout (t : Nat) (obs peer : Mast)
  /-- `FILL_RECEIVED` (R138): A filled item arrives over the cross-link and is checked. -/
  | fillReceived (t : Nat) (m : Mast) (item : Item)
  /-- `FILL_DEADLINE` (R139): Fills not complete by k + 40 µs or above 8 KiB make the mast go fail-silent. -/
  | fillDeadline (t : Nat) (m : Mast)
  /-- `INTAKE_RELEASE` (R140): The release for an action instant completes: items ordered, rings and input image published. -/
  | intakeRelease (t : Nat)
  /-- `READ_ANSWER_TIMEOUT` (R142): No agreement on a rack-bus read answer within 20 µs: the read completes with a bus error. -/
  | readAnswerTimeout (t tag : Nat)
  /-- `PTP_MESSAGE` (R155): An agreed PTP or gPTP message is processed by the clock servo. -/
  | ptpMessage (t gm port proto : Nat) (body : PtpBody)
  /-- `TIME_SOURCE_LOST` (R449): The time source is lost and the servo enters HOLDOVER. -/
  | timeSourceLost (t : Nat)
  /-- `TB_OFFSET_WRITE` (R157): An agreed offset is slewed, replacing any remainder, or refused beyond the step limit. -/
  | tbOffsetWrite (t : Nat) (writers : Per Bool) (value : Word)
  /-- `FORCED_STEP` (R158): A forced step in SERVICE or STOP sets the timebase and re-phases the action instants. -/
  | forcedStep (t : Nat) (writers : Per Bool) (key : Nat)
  /-- `INITIAL_ACQUISITION` (R158): A one-time initial acquisition step is made in UNSET or ACQUIRING. -/
  | initialAcquisition (t : Nat) (writers : Per Bool) (key : Nat)
  /-- `TIME_BAND_CHECK` (R153): A mast found outside the time band at two consecutive checks yields its units and goes
  fail-silent. -/
  | timeBandCheck (t : Nat) (m : Mast) (offset : Int)
  /-- `TB_TSQPOP` (R161): A read takes the oldest transmit timestamp entry into the holding registers. -/
  | tbTsqpop (t : Nat) (m : Mast) (tr : Triad) (port : Nat)
  /-- `TB_NOWNS_READ` (R150): Reading TB_NOWNS latches the seconds for the next two reads. -/
  | tbNownsRead (t : Nat) (m : Mast) (tr : Triad)
  /-- `TB_POSLO_READ` (R170): Reading the position low word latches the high word. -/
  | tbPosloRead (t : Nat) (m : Mast) (tr : Triad) (ax : Nat)
  /-- `EDGE_LOG_QUERY` (R174): A GO write queries the edge log for the counter at a given time. -/
  | edgeLogQuery (t : Nat) (m : Mast) (value : Word)
  /-- `TACHO_EDGE` (R170): A decoded tachometer edge updates counters, comparators and the supervisor. -/
  | tachoEdge (t ax channel : Nat) (order : Bool)
  /-- `TIME_COMPARATOR_FIRE` (R176): A time comparator's target is reached and its actions are carried out. -/
  | timeComparatorFire (t : Nat) (m : Mast)
  /-- `TB_CMPCFG_WRITE` (R178): A comparator configuration write arms, disarms or is refused. -/
  | tbCmpcfgWrite (t : Nat) (m : Mast) (n : Nat) (value : Word)
  /-- `FB_SLOT_TRANSMIT` (R209): At a module slot's start its DATA, NULL or TEST frame is sent on both channels. -/
  | fbSlotTransmit (t b slot : Nat) (damaged : Per Bool)
  /-- `FB_FRAME_RECEIVED` (R202): A door-bus frame is received, classified and, if accepted in a node slot, formed into an
  item. -/
  | fbFrameReceived (t b ch at' : Nat) (ofs : Int) (f : List Byte) (extra own : Bool)
  /-- `FB_SLOT_REPORT` (R203): At the end of the last slot the slot report of each channel is formed. -/
  | fbSlotReport (t b : Nat)
  /-- `FB_INTEGRATE_DONE` (R200): After 8 cycles sent the bus passes from INTEGRATE to NORMAL. -/
  | fbIntegrateDone (t b : Nat)
  /-- `FB_RECOVER_DONE` (R200): After 2 cycles sent the bus passes from RECOVER to NORMAL. -/
  | fbRecoverDone (t b : Nat)
  /-- `FB_TEST_ON` (R200): Agreed write of FB_CTRL.TEST = 1 in SERVICE puts the bus in TEST. -/
  | fbTestOn (t b : Nat) (writers : Per Bool)
  /-- `FB_TEST_OFF` (R200): Agreed write of FB_CTRL.TEST = 0 takes the bus to RECOVER. -/
  | fbTestOff (t b : Nat) (writers : Per Bool)
  /-- `FB_NODE_LOST` (R205): A node delivers nothing for NODE_TIMEOUT cycles and is lost. -/
  | fbNodeLost (t b node : Nat)
  /-- `FB_NODE_EXCLUDED` (R207): A node's fourth consecutive violation excludes it. -/
  | fbNodeExcluded (t b node : Nat)
  /-- `FB_NODE_READMITTED` (R208): An excluded node's fourth accepted cycle after probation readmits it. -/
  | fbNodeReadmitted (t b node : Nat)
  /-- `FB_GRANT_WITHDRAW` (R213): No frame after 4 CYCLE_START frames carried the grant: it is withdrawn. -/
  | fbGrantWithdraw (t b slot : Nat)
  /-- `FB_GRANT_IDLE_EXPIRY` (R215): No frame accepted for RELEASE_CYCLES cycles ends the grant. -/
  | fbGrantIdleExpiry (t b slot : Nat)
  /-- `FB_CHANNEL_FAULT` (R219): No frame accepted on one channel for 16 cycles while the other accepts. -/
  | fbChannelFault (t b ch : Nat)
  /-- `COMMAND_FRAME_SEND` (R221): Every 50 µs each mast sends its command frame to the field engine. -/
  | commandFrameSend (t : Nat) (m : Mast) (damaged : List Nat)
  /-- `COMMAND_FRAME_RECEIVED` (R229): The field engine takes ON_CUR from a valid command frame. -/
  | commandFrameReceived (t : Nat) (m : Mast) (bytes : List Byte)
  /-- `CONFIG_FRAME_RECEIVED` (R223): The field engine receives a configuration frame and adopts the configuration when
  two links agree. -/
  | configFrameReceived (t : Nat) (m : Mast) (bytes : List Byte)
  /-- `INPUT_FRAME_SEND` (R224): Every 50 µs the field engine sends an input frame with up to 7 items on each link. -/
  | inputFrameSend (t : Nat)
  /-- `INPUT_FRAME_RECEIVED` (R224): A mast receives an input frame from the field engine. -/
  | inputFrameReceived (t : Nat) (m : Mast) (bytes : List Byte)
  /-- `CURRENT_LIMIT_EXPIRY` (R230): An output has been in current limit for 10 ms. -/
  | currentLimitExpiry (t o millis : Nat)
  /-- `THERMAL_TRIP` (R232): A switch reaches Tj 175 °C and all switches of the output open. -/
  | thermalTrip (t o : Nat)
  /-- `THERMAL_RETRY` (R232): 100 ms after a trip the switches return to their commands. -/
  | thermalRetry (t o : Nat)
  /-- `READBACK_CHECK` (R235): 2 ms after a command change the sensing is compared with the commands. -/
  | readbackCheck (t o : Nat) (rb : Bool) (mid branches : Nat) (excess limit : Bool)
  /-- `SWITCH_TEST_START` (R237): The regime schedules a branch test of an output. -/
  | switchTestStart (t o branch : Nat)
  /-- `TEST_STEP_END` (R237): A 100 µs test step ends and the midpoint is judged. -/
  | testStepEnd (t : Nat) (mid rb : Bool)
  /-- `DARK_PULSE_START` (R238): In DUPLEX an on output's single conducting branch is opened at its fraction of the second. -/
  | darkPulseStart (t o : Nat)
  /-- `DARK_PULSE_END` (R238): The dark pulse ends when current and midpoint fall, or at 300 µs with a fault. -/
  | darkPulseEnd (t : Nat) (current mid : Bool)
  /-- `LINK_SILENCE_DETECT` (R240): A command link loses idle, gets a bad frame or misses a frame and becomes silent. -/
  | linkSilenceDetect (t : Nat) (m : Mast) (rejected : Bool)
  /-- `LINK_SILENCE_TIMEOUT` (R240): The silence timeout expires and the position takes its silence states. -/
  | linkSilenceTimeout (t : Nat) (m : Mast)
  /-- `MAST_INPUT_FRAME_TIMEOUT` (R241): A mast without valid input frames for the silence timeout requests fail-silent. -/
  | mastInputFrameTimeout (t : Nat) (m : Mast)
  /-- `INPUT_FILTER_ACCEPT` (R244): A new raw input level held for the filter time is accepted and an item formed. -/
  | inputFilterAccept (t index : Nat) (level : Bool)
  /-- `INPUT_INVALID` (R243): The two samplers disagree for longer than the filter time and the input becomes invalid. -/
  | inputInvalid (t index : Nat)
  /-- `PAIR_DISCREPANCY_TIMEOUT` (R245): The discrepancy time plus filter time passes without the other contact and the
  pair enters DISCREPANCY. -/
  | pairDiscrepancyTimeout (t p : Nat)
  /-- `FIELD_SUPPLY_CHANGE` (R247): A field supply becomes low, missing or normal after its 1 ms filter. -/
  | fieldSupplyChange (t n st : Nat)
  /-- `QUEUED_CHANGE_CLEAR` (R234): A CLEAR write clears a fired queued change at the next action instant. -/
  | queuedChangeClear (t : Nat) (m : Mast) (n : Nat)
  /-- `ZERO_SPEED_DECLARE` (R254): No edge for T_ZERO: zero speed is declared and standstill points recorded. -/
  | zeroSpeedDeclare (t : Nat)
  /-- `SLIP_END_EXPIRY` (R255): The axle difference stays within bound for 200 ms and slip ends. -/
  | slipEndExpiry (t : Nat)
  /-- `ODO_SLIP_EXPIRY` (R256): Slip persists for ODO_TIME and an odometry fault is latched. -/
  | odoSlipExpiry (t : Nat)
  /-- `SPEED_CONFIRM_EXPIRY` (R262): V stays above a limit for CONFIRM_MS and a speed violation is latched. -/
  | speedConfirmExpiry (t n : Nat)
  /-- `LIMIT_DELAY_EXPIRY` (R261): DELAY_MS after selection a speed limit becomes supervised. -/
  | limitDelayExpiry (t n : Nat)
  /-- `SP_ACK_WRITE` (R267): An agreed keyed SP_ACK write acknowledges the named latches at the action instant. -/
  | spAckWrite (t : Nat) (writers : Per Bool) (value : Word)
  /-- `SP_REFCLR_WRITE` (R258): An agreed keyed SP_REFCLR write invalidates the berth reference. -/
  | spRefclrWrite (t : Nat) (writers : Per Bool) (value : Word)
  /-- `APP_CYCLE_START` (R276): An application cycle starts on a new release, applying forces and changes before the
  program runs. -/
  | appCycleStart (t : Nat) (m : Mast)
  /-- `CYCLE_LIMIT_EXPIRY` (R286): The cycle time reaches CYCLE_LIMIT_MS. -/
  | cycleLimitExpiry (t : Nat) (m : Mast)
  /-- `APPLICATION_EXCEPTION` (R287): A Triad P exception halts the program on that mast. -/
  | applicationException (t : Nat) (m : Mast) (code addr : Nat)
  /-- `ONLINE_CHANGE_REQUEST` (R289): An agreed change request is checked and accepted or refused. -/
  | onlineChangeRequest (t : Nat) (auth : Bool) (hash : Nat) (items : List ChangeItem)
  /-- `RETAIN_WRITE_DONE` (R296): A retained-bank write completes and is verified, or is repeated once. -/
  | retainWriteDone (t : Nat) (m : Mast) (good : Bool)
  /-- `SC_WATCHDOG_EXPIRY` (R321): No safe-container message accepted within WATCHDOG_MS. -/
  | scWatchdogExpiry (t index : Nat)
  /-- `NETWORK_FRAME_RECEIVED` (R313): A frame on a port passes FCS, address, PRP discard, classification, policing and
  admission and becomes an item. -/
  | networkFrameReceived (t p : Nat) (f : List Byte) (fcsOk : Bool)
  /-- `PRP_ENTRY_FORGET` (R304): A duplicate-discard entry is forgotten after 400 ms. -/
  | prpEntryForget (t iface mac seq : Nat)
  /-- `LINK_CHANGE` (R302): A port's link goes up, down or resolves to half duplex. -/
  | linkChange (t p speed : Nat) (half energy : Bool)
  /-- `PD_PUBLISH` (R307): A publication is queued with launch time every PERIOD action instants. -/
  | pdPublish (t telegram : Nat)
  /-- `PD_PULL_REQUEST` (R307): A Pull request is answered with the dataset, or with Me in STOP and SERVICE. -/
  | pdPullRequest (t telegram : Nat)
  /-- `MD_REQUEST` (R309): An MD request opens a session, or is refused at the session limit. -/
  | mdRequest (t comId : Nat)
  /-- `MD_REPLY_TIMEOUT` (R309): A reply or confirm does not come within REPLY_TIMEOUT_MS. -/
  | mdReplyTimeout (t session : Nat)
  /-- `RING_PRODUCE` (R330): A PROD write on a software-produced ring rings its doorbell, or is discarded. -/
  | ringProduce (t : Nat) (m : Mast) (n value : Nat)
  /-- `RING_CONSUME` (R330): A CONS write on a hardware-produced ring frees slots, or is discarded. -/
  | ringConsume (t : Nat) (m : Mast) (n value : Nat)
  /-- `POOL_RETURN` (R335): A QM_POOLRET write returns a buffer, or is discarded. -/
  | poolReturn (t : Nat) (m : Mast) (index : Nat)
  /-- `TRANSMIT_DESCRIPTOR` (R333): A block takes a transmit descriptor, checks it and its tag, and writes STATUS. -/
  | transmitDescriptor (t : Nat) (m : Mast) (n outcome : Nat)
  /-- `DMA_DOORBELL` (R342): A doorbell starts, marks pending or re-reads a channel's descriptor, or is ignored. -/
  | dmaDoorbell (t : Nat) (m : Mast) (n : Nat)
  /-- `DMA_DESCRIPTOR_COMPLETE` (R342): A descriptor completes: status, completion record, and next load or park. -/
  | dmaDescriptorComplete (t : Nat) (m : Mast) (n : Nat) (rack : List Byte)
  /-- `DMA_TARGET_ERROR` (R340): A target response error stops the channel with BUSERR target. -/
  | dmaTargetError (t : Nat) (m : Mast) (n written : Nat) (rack : List Byte)
  /-- `DMA_STOPPED_CLEAR` (R342): Writing 1 to DM_STAT.STOPPED returns the channel to IDLE. -/
  | dmaStoppedClear (t : Nat) (m : Mast) (n : Nat)
  /-- `CACHE_CLEAN` (R346): QM_CMOP CLEAN writes dirty lines in the range to memory. -/
  | cacheClean (t : Nat) (m : Mast) (tr : Triad) (dirty : List (Nat × List Byte))
  /-- `CACHE_INVALIDATE` (R346): QM_CMOP INVALIDATE discards lines in the range. -/
  | cacheInvalidate (t : Nat) (m : Mast) (tr : Triad) (dirty : List (Nat × List Byte))
  /-- `CACHE_CLEAN_INVALIDATE` (R346): QM_CMOP CLEAN_INVALIDATE cleans and discards lines in the range. -/
  | cacheCleanInvalidate (t : Nat) (m : Mast) (tr : Triad) (dirty : List (Nat × List Byte))
  /-- `CACHE_OP_DONE` (R346): A cache operation completes and BUSY clears. -/
  | cacheOpDone (t : Nat) (m : Mast) (tr : Triad)
  /-- `BARRIER` (R346): A read of QM_BARRIER returns once earlier writes and cache operations are complete. -/
  | barrier (t : Nat) (m : Mast) (tr : Triad)
  /-- `RACK_OUTBOUND_ACCESS` (R353): A triad access to an outbound window becomes rack transactions, or a bus error. -/
  | rackOutboundAccess (t : Nat) (m : Mast) (tr : Triad) (addr size : Nat) (write : Bool) (value : Nat)
  /-- `RACK_TARGET_RETRY` (R357): A target answers retry and the transaction is repeated after 2 idle clocks. -/
  | rackTargetRetry (t : Nat)
  /-- `RACK_TRANSACTION_COMPLETE` (R357): An outbound transaction completes with ACK, error or parity result. -/
  | rackTransactionComplete (t : Nat) (ack : Bool) (ad : Nat) (parityOk : Bool)
  /-- `RACK_TRANSACTION_TIMEOUT` (R357): A transaction not acknowledged within 20 µs ends with result 3. -/
  | rackTransactionTimeout (t : Nat)
  /-- `RACK_UNCONFIRMED_TIMEOUT` (R355): A transaction not confirmed within 100 µs is not made. -/
  | rackUnconfirmedTimeout (t : Nat)
  /-- `BB_PWEPOP` (R360): A read takes the oldest posted-write error entry. -/
  | bbPwepop (t : Nat) (tr : Triad)
  /-- `RACK_INBOUND_WRITE` (R362): A card writes an inbound window, is acknowledged and an item is formed, or gets retry
  or error. -/
  | rackInboundWrite (t raddr be ad : Nat) (parityOk : Bool)
  /-- `RACK_INBOUND_READ` (R363): A card reads an inbound window and is answered from the voted exposed page. -/
  | rackInboundRead (t raddr : Nat)
  /-- `EXPOSE_COMMIT` (R363): A BB_EXPCOMMIT write commits shadow pages for copy at an agreed action instant. -/
  | exposeCommit (t : Nat) (m : Mast) (mask seq : Nat)
  /-- `EXPOSE_COPY_DONE` (R363): The shadow-to-live copy of exposed pages completes. -/
  | exposeCopyDone (t : Nat)
  /-- `INT_LINE_POLL` (R364): Every POLL_US the interrupt lines are sampled and a change forms an item. -/
  | intLinePoll (t levels : Nat)
  /-- `SIDEBAND_POLL` (R365): Every 1 ms the side-band status words are read. -/
  | sidebandPoll (t : Nat) (results : List (Nat × Nat))
  /-- `STAY_LINK_FRAME_RECEIVED` (R368): A ring frame arrives, is checked, forwarded or delivered as an item. -/
  | stayLinkFrameReceived (t : Nat) (f : List Byte) (upstream residence : Nat)
  /-- `PRESENCE_SEND` (R369): Every 1 ms a joined module sends PRESENCE. -/
  | presenceSend (t : Nat)
  /-- `MEMBER_TIMEOUT` (R369): No PRESENCE for 3 ms: the module ceases to be a member and a master is elected if needed. -/
  | memberTimeout (t slot : Nat)
  /-- `MASTER_TAKEOVER` (R369): A lower-rank member, a member for 64 action instants, takes over as master. -/
  | masterTakeover (t slot : Nat)
  /-- `RING_WRAP` (R367): A link without idle for 10 µs makes the neighbours wrap the ring. -/
  | ringWrap (t neighbour lost : Nat)
  /-- `RING_UNWRAP` (R367): 1 s after the link returns the wrap is undone. -/
  | ringUnwrap (t neighbour returned : Nat)
  /-- `LINKDELAY_EXCHANGE` (R370): Every 100 ms a LINKDELAY exchange measures each link's delay. -/
  | linkdelayExchange (t up down : Nat)
  /-- `SHARED_BLOCK_SEND` (R371): A queued shared-variable block is sent as fragments in its cycle. -/
  | sharedBlockSend (t : Nat)
  /-- `MEMORY_READ` (R380): A read of SRAM, DRAM, L2, MRAM or flash is checked and corrected, or found uncorrectable. -/
  | memoryRead (t : Nat) (m : Mast) (src : MemSource) (place : MemPlace) (addr : Nat) (found : MemFinding)
  /-- `MEMORY_PARTIAL_WRITE` (R377): A write under 8 bytes is done as read, merge and write of the word. -/
  | memoryPartialWrite (t : Nat) (m : Mast) (tr : Triad) (addr : Nat) (bytes : List Byte) (found : MemFinding)
  /-- `SCRUB_WORD` (R383): The scrubber visits the next word at its even rate. -/
  | scrubWord (t : Nat) (m : Mast) (dram : Bool) (found : MemFinding)
  /-- `MI_INJECT_SINGLE` (R387): Agreed injection inverts one check bit of a word. -/
  | miInjectSingle (t : Nat) (writers : Per Bool) (target : Mast) (dram : Bool) (bit : Nat)
  /-- `MI_INJECT_DOUBLE` (R387): Agreed injection inverts two check bits of a word. -/
  | miInjectDouble (t : Nat) (writers : Per Bool) (target : Mast) (dram : Bool) (bit : Nat)
  /-- `BEGIN` (R398): Agreed BEGIN checks a container header and opens an update session on the inactive slot. -/
  | begin (t : Nat) (writers : Per Bool)
  /-- `WRITE` (R398): Agreed WRITE checks and writes one block. -/
  | write (t : Nat) (writers : Per Bool)
  /-- `UPDATE_READBACK` (R398): After the last block the region is read back, digests compared and the other region prepared. -/
  | updateReadback (t : Nat) (bad : Per Bool) (differ : Bool)
  /-- `ABORT` (R399): Agreed ABORT ends the session and invalidates the region. -/
  | abort (t : Nat) (writers : Per Bool)
  /-- `UPDATE_IDLE_TIMEOUT` (R399): 600 s without a session command aborts the session. -/
  | updateIdleTimeout (t : Nat)
  /-- `ACTIVATE` (R400): Agreed ACTIVATE runs the jury turn, writes TRIAL boot records and resets. -/
  | activate (t : Nat) (writers : Per Bool) (f : JuryFinding) (lost : Option Mast) (env : BootEnv)
  /-- `ACTIVATE_NO_JURY` (R400): Agreed ACTIVATE_NO_JURY activates without the jury turn. -/
  | activateNoJury (t : Nat) (writers : Per Bool) (env : BootEnv)
  /-- `CONFIRM` (R402): Agreed CONFIRM in RUN writes STATE CONFIRMED. -/
  | confirm (t : Nat) (writers : Per Bool)
  /-- `CONFIRM_WINDOW_EXPIRY` (R402): UP_RUNSEC reaches CONFIRM_S: fall-back to the previous slot and reset. -/
  | confirmWindowExpiry (t : Nat) (env : BootEnv)
  /-- `REVOKE` (R397): Agreed REVOKE in SERVICE sets a key slot's revocation bit, or is refused. -/
  | revoke (t : Nat) (writers : Per Bool)
  /-- `KEYPROG` (R397): Agreed KEYPROG in SERVICE writes a customer key into an empty slot. -/
  | keyprog (t : Nat) (writers : Per Bool)
  /-- `SETTINGS` (R403): Agreed SETTINGS writes the store image into the older settings bank. -/
  | settings (t : Nat) (writers : Per Bool)
  /-- `RECOVERY_DOWNLOAD` (R406): In RECOVERY a container is received over XMODEM or TFTP, verified and activated, and
  BOOT follows. -/
  | recoveryDownload (t via : Nat) (fw app : List Byte) (bad : Per Bool) (f : JuryFinding) (env : BootEnv)
  /-- `SYSLOG_EXPORT` (R414): The formatter sends an exported log entry as a syslog datagram when a token is available. -/
  | syslogExport (t : Nat)
  /-- `SERVICE_LINE_RECEIVED` (R418): A complete service-port line reaches every active mast and is parsed. -/
  | serviceLineReceived (t : Nat) (line : List Byte)
  /-- `MON_HELP` (R421): Lists commands or one command's syntax. -/
  | monHelp (t : Nat)
  /-- `MON_ID` (R421): Shows module identity and versions. -/
  | monId (t : Nat)
  /-- `MON_STATUS` (R421): Shows mode, lane, owners, inhibits and times. -/
  | monStatus (t : Nat)
  /-- `MON_LOG` (R421): Shows log entries. -/
  | monLog (t : Nat)
  /-- `MON_REG` (R421): Shows register words. -/
  | monReg (t : Nat)
  /-- `MON_IO` (R421): Shows field I/O registers. -/
  | monIo (t : Nat)
  /-- `MON_BUS` (R421): Shows a door bus's registers and node table. -/
  | monBus (t : Nat)
  /-- `MON_NET` (R421): Shows a network port's registers. -/
  | monNet (t : Nat)
  /-- `MON_TIME` (R421): Shows timebase registers. -/
  | monTime (t : Nat)
  /-- `MON_SUP` (R421): Shows supervisor registers and the sealed record. -/
  | monSup (t : Nat)
  /-- `MON_MEM` (R421): Shows memory-integrity registers and temperatures. -/
  | monMem (t : Nat)
  /-- `MON_KEYS` (R421): Shows key slot status. -/
  | monKeys (t : Nat)
  /-- `MON_AUTH` (R420): Draws and shows a challenge for a key entry. -/
  | monAuth (t : Nat)
  /-- `MON_RESP` (R420): A signed answer is verified and the session opens, or fails. -/
  | monResp (t : Nat)
  /-- `MON_LOGOUT` (R420): Ends the session. -/
  | monLogout (t : Nat)
  /-- `MON_START` (R421): Writes START or START_COLD to MC_CMD. -/
  | monStart (t : Nat)
  /-- `MON_STOP` (R421): Writes STOP to MC_CMD. -/
  | monStop (t : Nat)
  /-- `MON_HOLD` (R421): Writes HOLD to MC_CMD. -/
  | monHold (t : Nat)
  /-- `MON_RESUME` (R421): Writes RESUME to MC_CMD. -/
  | monResume (t : Nat)
  /-- `MON_STANDBY` (R421): Writes STANDBY to MC_CMD. -/
  | monStandby (t : Nat)
  /-- `MON_RESET` (R421): Writes RESET to MC_CMD. -/
  | monReset (t : Nat) (env : BootEnv)
  /-- `MON_SERVICE` (R421): Writes SERVICE to MC_CMD. -/
  | monService (t : Nat)
  /-- `MON_LEAVE` (R421): Writes LEAVE to MC_CMD. -/
  | monLeave (t : Nat)
  /-- `MON_FORCE` (R292): Sets a force on a symbol, or refuses it. -/
  | monForce (t : Nat)
  /-- `MON_UNFORCE` (R294): Releases one or all forces. -/
  | monUnforce (t : Nat)
  /-- `MON_SET` (R421): Sends a change request of up to 16 symbols. -/
  | monSet (t : Nat)
  /-- `MON_OUT` (R421): Forces or frees an output in SERVICE. -/
  | monOut (t : Nat)
  /-- `MON_BUSTEST` (R421): Sets or clears a bus's TEST state. -/
  | monBustest (t : Nat)
  /-- `MON_INJECT` (R421): Requests a triad or memory fault injection. -/
  | monInject (t : Nat)
  /-- `MON_STEP` (R421): Requests a forced time step. -/
  | monStep (t : Nat)
  /-- `MON_SILCLR` (R421): Clears the silence record. -/
  | monSilclr (t : Nat)
  /-- `MON_SYSLOG` (R421): Sets syslog destination, rate or severity, or turns export off. -/
  | monSyslog (t : Nat) (store : List Byte)
  /-- `MON_UPDATE` (R421): Receives a container and runs BEGIN and WRITE for every block. -/
  | monUpdate (t : Nat)
  /-- `MON_ACTIVATE` (R421): Issues ACTIVATE or ACTIVATE_NO_JURY. -/
  | monActivate (t : Nat) (f : JuryFinding) (lost : Option Mast) (env : BootEnv)
  /-- `MON_ABORT` (R421): Issues ABORT. -/
  | monAbort (t : Nat)
  /-- `MON_CONFIRM` (R421): Issues CONFIRM. -/
  | monConfirm (t : Nat)
  /-- `MON_KEY` (R421): Programs or revokes a customer key. -/
  | monKey (t : Nat)
  /-- `AUTH_CHALLENGE_EXPIRY` (R420): A challenge expires after 120 s. -/
  | authChallengeExpiry (t : Nat)
  /-- `SESSION_IDLE_TIMEOUT` (R420): 600 s without a line ends the session. -/
  | sessionIdleTimeout (t : Nat)
  /-- `AUTH_LOCKOUT_END` (R420): The 60 s auth lockout ends. -/
  | authLockoutEnd (t : Nat)
  /-- `SUPPLY_LOW_EXPIRY` (R423): The logic supply has been below 16.8 V for 100 ms. -/
  | supplyLowExpiry (t mv : Nat)
  /-- `SUPPLY_OVER_EXPIRY` (R424): The supply has stayed above 30.2 V for 1 s. -/
  | supplyOverExpiry (t mv : Nat)
  /-- `SUPPLY_OVER_REPEAT` (R424): Each further minute above 30.2 V raises SUPPLY_OVER again. -/
  | supplyOverRepeat (t mv : Nat)
  /-- `SUPPLY_INTERRUPTION_BEGIN` (R425): The supply falls below 14.4 V or rises above 36 V and the module runs from the
  hold-up store. -/
  | supplyInterruptionBegin (t mv : Nat)
  /-- `SUPPLY_INTERRUPTION_END` (R425): The supply returns before the store is exhausted: ridden through. -/
  | supplyInterruptionEnd (t mv lowest : Nat)
  /-- `HOLDUP_CHARGED` (R425): The hold-up store reaches full charge and READY is set. -/
  | holdupCharged (t : Nat)
  /-- `HOLDUP_EXHAUSTED` (R426): The store reaches its end voltage and the module powers down. -/
  | holdupExhausted (t : Nat)
  /-- `RAIL_TEMP_CROSSING` (R442): A rail exceeds 125 °C or both fall below 120 °C. -/
  | railTempCrossing (t : Nat) (left right : Int)
  /-- `TACH_SUPPLY_LIMIT` (R437): A tachometer supply in current limit for 10 ms is switched off for 1 s. -/
  | tachSupplyLimit (t ax : Nat)
  /-- `TACH_SUPPLY_RETRY` (R437): After 1 s the tachometer supply is retried. -/
  | tachSupplyRetry (t ax : Nat)
  /-- `POWER_DOWN_WAIT_EXPIRY` (R426): The 100 ms unpowered wait after a power-down ends while the supply lies above 16.8
  V, and the module starts as from power-on. -/
  | powerDownWaitExpiry (t : Nat) (env : BootEnv)
  /-- `LOGIC_SUPPLY_THRESHOLD` (R424): The logic supply crosses 16.8 V, 30.2 V or 29.8 V, starting or cancelling the
  SUPPLY_LOW or SUPPLY_OVER excursion timing. -/
  | logicSupplyThreshold (t mv : Nat)
  /-- `OVERRATE_END` (R171): An axle's edges within the last 1 s fall to 110 000 or fewer, and the axle leaves over-rate. -/
  | overrateEnd (t ax : Nat)
  /-- `EDGE_LOG_QUERY_DONE` (R174): An edge-log query completes within 2 µs of GO and TB_PQCTL.RESULT leaves busy. -/
  | edgeLogQueryDone (t : Nat) (m : Mast)
  /-- `UPDATE_BLOCK_WRITTEN` (R398): The flash write of an update block completes and UP_STAT.BUSY clears. -/
  | updateBlockWritten (t : Nat)
  /-- `SERVICE_TRANSFER_BLOCK` (R420): An XMODEM-1K block of a file transfer arrives on the service port. -/
  | serviceTransferBlock (t : Nat) (f : List Byte)
  /-- `PROPOSAL_REREQUEST` (R136): A mast receives a peer's request for a missing proposal message and sends it again. -/
  | proposalRerequest (t : Nat) (m : Mast) (pseq : Nat)
  /-- `FILL_REQUEST` (R138): A mast holding an agreed item, or a timestamp entry, receives a fill request and sends the
  header and value. -/
  | fillRequest (t : Nat) (holder peer : Mast) (source seq : Nat)
  /-- `PAGE_RECORD_REQUEST` (R125): A survivor receives the jury mast's request for a page record again and resends it. -/
  | pageRecordRequest (t : Nat) (survivor : Mast) (region page : Nat)
  deriving DecidableEq, Repr

end Sys2Proof
end

