-- ==== Sys2Proof/Decode.lean ====
section
/-!
DEFINITION. The command a word spells. The command table gives bits to none of its rows (every row's fields are empty): a
command reaches the module as an event, not as a word.
-/
namespace Sys2Proof

/-- The command that the low `nbits` bits of `w` spell: none, since no row of the table has bits. -/
def decodeTableWord (_nbits _w : Nat) : Option Instr := none

end Sys2Proof
end

