-- ==== Sys2Proof/Config.lean ====
section
/-!
DEFINITION. What an implementation fixes and the manual does not give: free values and outside functions.

Every constant here is opaque and has no body: no proof can evaluate it, so a claim holds whatever it is.
-/
namespace Sys2Proof.Config

/-- The byte the boot ROM holds at an offset (R77 gives the range, no contents). -/
opaque romByte : Nat → Byte

/-- SHA-384 (R51, R68, R393): a published function the manual names and does not define. (DESIGN CHOICE, log entry 22) -/
opaque sha384 : List Byte → List Byte

/-- ECDSA P-384 verification over SHA-384 (R396, R420): key x‖y, message, signature r‖s. (DESIGN CHOICE, log entry 22) -/
opaque ecdsaVerify : List Byte → List Byte → List Byte → Bool

/-- HMAC-SHA-384 of the safe container (R318): key, message. (DESIGN CHOICE, log entry 22) -/
opaque hmac : List Byte → List Byte → List Byte

/-- The rate in ppb at which a remaining offset is slewed, before the bound of R157 is applied; asked anew each time. (DESIGN CHOICE, log entry 23) -/
opaque slewPpb : Nat → Nat

/-- The 16 random bytes of a challenge (R420), asked anew for each. (DESIGN CHOICE, log entry 22) -/
opaque challenge : Nat → List Byte

/-- How a silence record packs the delay stage, the bit group and the core (R90 and R95 name them and give no layout). (DESIGN CHOICE, log entry 23) -/
opaque stageDetail : Nat → Nat → Nat → BitVec 32

/-- The fixed latency of a command link in nanoseconds (R224). (DESIGN CHOICE, log entry 23) -/
opaque linkLatency : Nat

/-- PCRC of a block-state page (R121 names its contents and gives no layout): page index, and the count of the asking. (DESIGN CHOICE, log entry 23) -/
opaque blockPcrc : Nat → Nat → BitVec 32

/-- A value the manual leaves unstated after an operation that goes on; asked anew each time. (DESIGN CHOICE, log entry 23) -/
opaque freeValue : Nat → BitVec 64

end Sys2Proof.Config
end

