-- ==== Sys2Proof/Machine/Crc.lean ====
section
/-!
DEFINITION. The two cyclic checks the module uses: CRC-32C (R63: polynomial 0x1EDC_6F41) and CRC-64/ECMA-182.

PRESUMED (log entry 11): the bit order, the initial value and the final inversion are those of the published checks of
these names; the manual gives the names and the first polynomial only.
-/
namespace Sys2Proof.Machine

/-- One bit step of CRC-32C, least significant bit first. -/
def crc32cBit (c : BitVec 32) : BitVec 32 :=
  if c.toNat % 2 = 1 then (c >>> 1) ^^^ 0x82F63B78#32 else c >>> 1

/-- One byte of CRC-32C. -/
def crc32cByte (c : BitVec 32) (b : Byte) : BitVec 32 :=
  let x := c ^^^ b.setWidth 32
  crc32cBit (crc32cBit (crc32cBit (crc32cBit (crc32cBit (crc32cBit (crc32cBit (crc32cBit x)))))))

/-- CRC-32C of a byte list. (PRESUMED, log entry 11) -/
def crc32c (bs : List Byte) : BitVec 32 := bs.foldl crc32cByte 0xFFFFFFFF#32 ^^^ 0xFFFFFFFF#32

/-- One bit step of the IEEE 802.3 CRC-32 (the check of a TRDP header, R308), least significant bit first. -/
def crc32Bit (c : BitVec 32) : BitVec 32 :=
  if c.toNat % 2 = 1 then (c >>> 1) ^^^ 0xEDB88320#32 else c >>> 1

/-- One byte of the IEEE 802.3 CRC-32. -/
def crc32Byte (c : BitVec 32) (b : Byte) : BitVec 32 :=
  let x := c ^^^ b.setWidth 32
  crc32Bit (crc32Bit (crc32Bit (crc32Bit (crc32Bit (crc32Bit (crc32Bit (crc32Bit x)))))))

/-- IEEE 802.3 CRC-32 of a byte list. (PRESUMED, log entry 21) -/
def crc32 (bs : List Byte) : BitVec 32 := bs.foldl crc32Byte 0xFFFFFFFF#32 ^^^ 0xFFFFFFFF#32

/-- One bit step of CRC-64/ECMA-182, most significant bit first. -/
def crc64Bit (c : BitVec 64) : BitVec 64 :=
  if 2 ^ 63 ≤ c.toNat then (c <<< 1) ^^^ 0x42F0E1EBA9EA3693#64 else c <<< 1

/-- One byte of CRC-64/ECMA-182. -/
def crc64Byte (c : BitVec 64) (b : Byte) : BitVec 64 :=
  let x := c ^^^ (b.setWidth 64 <<< 56)
  crc64Bit (crc64Bit (crc64Bit (crc64Bit (crc64Bit (crc64Bit (crc64Bit (crc64Bit x)))))))

/-- CRC-64/ECMA-182 of a byte list. (PRESUMED, log entry 11) -/
def crc64 (bs : List Byte) : BitVec 64 := bs.foldl crc64Byte 0#64

end Sys2Proof.Machine
end

