-- ==== Sys2Proof/Machine/EventTable.lean ====
section
/-!
DEFINITION. Event codes (R11 and the event tables of every chapter), their names and their severities (R413).
-/
namespace Sys2Proof.Machine

/-- LANE_STATE (05_lane_redundancy.md): Previous lane state; new lane state. -/
def evLaneState : Nat := 0x0101
/-- HB_WARN (05_lane_redundancy.md): Peer mast; path, 1 HB1 or 2 HB2. -/
def evHbWarn : Nat := 0x0102
/-- HB_RESTORED (05_lane_redundancy.md): Peer mast; path. -/
def evHbRestored : Nat := 0x0103
/-- MAST_LOST (05_lane_redundancy.md): Mast; LM_LOSS.CAUSE. -/
def evMastLost : Nat := 0x0104
/-- PAIR_LOSS (05_lane_redundancy.md): Mast kept; mast lost. -/
def evPairLoss : Nat := 0x0105
/-- MAST_ISOLATED (05_lane_redundancy.md): Mast; microseconds from the loss to rails down. -/
def evMastIsolated : Nat := 0x0106
/-- ISOLATE_POWER_FAIL (05_lane_redundancy.md): Mast; rail voltage in percent of nominal. -/
def evIsolatePowerFail : Nat := 0x0107
/-- JOIN_START (05_lane_redundancy.md): Target position; checkpoint pages. -/
def evJoinStart : Nat := 0x0108
/-- JOIN_DONE (05_lane_redundancy.md): Target position; milliseconds from the onset. -/
def evJoinDone : Nat := 0x0109
/-- JOIN_FAILED (05_lane_redundancy.md): Reason of R125; phase reached. -/
def evJoinFailed : Nat := 0x010A
/-- JOIN_DEFERRED (05_lane_redundancy.md): Final-round pages; LM_FINALMAX. -/
def evJoinDeferred : Nat := 0x010B
/-- OWNER_CHANGE (05_lane_redundancy.md): Unit; bits 1:0 new owner, bits 9:8 old owner, bit 16 forced. -/
def evOwnerChange : Nat := 0x010C
/-- OWNER_DEPOSED (05_lane_redundancy.md): Unit; mast. -/
def evOwnerDeposed : Nat := 0x010D
/-- TX_UNCONFIRMED (05_lane_redundancy.md): Unit; frames discarded since the last such event. -/
def evTxUnconfirmed : Nat := 0x010E
/-- DUPLEX_DISAGREE (05_lane_redundancy.md): Object: 1 image, 2 decision, 3 owner vote, 4 checkpoint digest; bits 31:0 of the cycle. -/
def evDuplexDisagree : Nat := 0x010F
/-- SAFE_ENTER (05_lane_redundancy.md): Cause of R127; lane state before. -/
def evSafeEnter : Nat := 0x0110
/-- CKPT_RETRY (05_lane_redundancy.md): Region and page packed as region × 65 536 + page; survivor mast. -/
def evCkptRetry : Nat := 0x0111
/-- INTAKE_SINGLE (06_intake_and_tags.md): Source id; sequence. -/
def evIntakeSingle : Nat := 0x0120
/-- INTAKE_NOAGREE (06_intake_and_tags.md): Source id; sequence. -/
def evIntakeNoagree : Nat := 0x0121
/-- TAG_ARRIVAL_FAIL (06_intake_and_tags.md): Source id; mast. -/
def evTagArrivalFail : Nat := 0x0122
/-- INTAKE_FILL_FAIL (06_intake_and_tags.md): Mast; bytes required. -/
def evIntakeFillFail : Nat := 0x0123
/-- INTAKE_GAP (06_intake_and_tags.md): Source id; sequence expected. -/
def evIntakeGap : Nat := 0x0124
/-- TAG_EXIT_FAIL (06_intake_and_tags.md): Source id; mast. -/
def evTagExitFail : Nat := 0x0125
/-- TAG_EXIT_AGREED (06_intake_and_tags.md): Source id; sequence. -/
def evTagExitAgreed : Nat := 0x0126
/-- INTAKE_STAGE_FULL (06_intake_and_tags.md): Mast; items dropped. -/
def evIntakeStageFull : Nat := 0x0127
/-- PROPOSAL_LATE (06_intake_and_tags.md): Mast; bits 31:0 of the action instant. -/
def evProposalLate : Nat := 0x0128
/-- CORE_RESYNC (04_masts_and_triads.md): WHO; duration in µs. -/
def evCoreResync : Nat := 0x0201
/-- RESYNC_FAILED (04_masts_and_triads.md): WHO; 1 self-test, 2 state-copy CRC, 3 minority again within 1 ms. -/
def evResyncFailed : Nat := 0x0202
/-- MAST_SILENT (04_masts_and_triads.md): WHO; cause code of R96. -/
def evMastSilent : Nat := 0x0203
/-- INJECT_DONE (04_masts_and_triads.md): TD_INJSTAT.LAST; 0. -/
def evInjectDone : Nat := 0x0204
/-- SILENCE_RECORD (04_masts_and_triads.md): WHO; cause code of R96. -/
def evSilenceRecord : Nat := 0x0205
/-- FENCE_VIOLATION (04_masts_and_triads.md): Address written; 0. -/
def evFenceViolation : Nat := 0x0206
/-- MI_CORRECTED (15_memory_integrity.md): MI_LASTSYN.MEM × 256 + MI_LASTSYN.SOURCE; address. -/
def evMiCorrected : Nat := 0x0301
/-- MI_UNCORRECTABLE (15_memory_integrity.md): Memory × 256 + source, coded as for MI_CORRECTED; address. -/
def evMiUncorrectable : Nat := 0x0302
/-- MI_REPEAT (15_memory_integrity.md): Memory; address. -/
def evMiRepeat : Nat := 0x0303
/-- MI_SELFTEST_FAIL (15_memory_integrity.md): Bit of MI_SELFTEST that failed; pattern number. -/
def evMiSelftestFail : Nat := 0x0304
/-- MI_L2_REFETCH (15_memory_integrity.md): Triad, 0 P or 1 C; address. -/
def evMiL2Refetch : Nat := 0x0305
/-- MI_INJECT_DONE (15_memory_integrity.md): MI_INJECT bits 17:0 of the value used; address. -/
def evMiInjectDone : Nat := 0x0306
/-- TIME_ACQUIRED (07_timebase_and_position.md): Source; step in ms, signed, clamped. -/
def evTimeAcquired : Nat := 0x0401
/-- TIME_STEP_REFUSED (07_timebase_and_position.md): Offset in µs, signed, clamped; TB_STEPLIM. -/
def evTimeStepRefused : Nat := 0x0402
/-- TIME_STEPPED (07_timebase_and_position.md): Step in µs, signed, clamped; mode. -/
def evTimeStepped : Nat := 0x0403
/-- TIME_LOCKED (07_timebase_and_position.md): Source; offset in ns at lock. -/
def evTimeLocked : Nat := 0x0404
/-- TIME_HOLDOVER (07_timebase_and_position.md): Source lost; 0. -/
def evTimeHoldover : Nat := 0x0405
/-- GM_CHANGE (07_timebase_and_position.md): Bits 31:0 of the new clock identity; port. -/
def evGmChange : Nat := 0x0406
/-- TIME_CONFIG (07_timebase_and_position.md): Offset of the field in the TIME section; value. -/
def evTimeConfig : Nat := 0x0407
/-- TIME_BAND (07_timebase_and_position.md): Mast; offset in ns. -/
def evTimeBand : Nat := 0x0408
/-- TXTS_OVERFLOW (07_timebase_and_position.md): Port; OVFCNT. -/
def evTxtsOverflow : Nat := 0x0409
/-- AI_STRETCHED (07_timebase_and_position.md): Interval in µs; 1 forced step, 2 acquisition. -/
def evAiStretched : Nat := 0x040A
/-- AI_RACK_MISMATCH (07_timebase_and_position.md): Master's cycle in µs; own cycle in µs. -/
def evAiRackMismatch : Nat := 0x040B
/-- TACHO_QERR (07_timebase_and_position.md): Axle; errors in the last item. -/
def evTachoQerr : Nat := 0x040C
/-- TACHO_OVERRATE (07_timebase_and_position.md): Axle; edges in the last second. -/
def evTachoOverrate : Nat := 0x040D
/-- POS_REPAIRED (07_timebase_and_position.md): Axle; mast. -/
def evPosRepaired : Nat := 0x040E
/-- CMP_FIRED (07_timebase_and_position.md): Comparator; bits 3:0 of TB_CMPSTn. -/
def evCmpFired : Nat := 0x040F
/-- CMP_LATE (07_timebase_and_position.md): Comparator; ns late, saturating. -/
def evCmpLate : Nat := 0x0410
/-- CMP_DISAGREE (07_timebase_and_position.md): Comparator; bit mask of masts that fired. -/
def evCmpDisagree : Nat := 0x0411
/-- CMP_ARM_REFUSED (07_timebase_and_position.md): Comparator; reason 1 to 5. -/
def evCmpArmRefused : Nat := 0x0412
/-- NP_LINK (12_network_ports.md): Port; 0 down, 1 100 Mbit/s, 2 1000 Mbit/s. -/
def evNpLink : Nat := 0x0501
/-- NP_PLANE (12_network_ports.md): Plane; 1 down, 0 restored. -/
def evNpPlane : Nat := 0x0502
/-- NP_PRP_WRONG_LAN (12_network_ports.md): Port; bits 31:0 of the source MAC address. -/
def evNpPrpWrongLan : Nat := 0x0503
/-- NP_POLICED (12_network_ports.md): Port × 256 + class; frames dropped in the last second. -/
def evNpPoliced : Nat := 0x0504
/-- NP_ADMISSION (12_network_ports.md): Port × 256 + class; frames dropped in the last second. -/
def evNpAdmission : Nat := 0x0505
/-- NP_RX_TRUNC (12_network_ports.md): Source id; LEN at entry. -/
def evNpRxTrunc : Nat := 0x0506
/-- NP_TX_LATE (12_network_ports.md): Port × 256 + class; 1 late, 2 gate. -/
def evNpTxLate : Nat := 0x0507
/-- NP_CONFIG (12_network_ports.md): Offset of the field in the NETWORK section; value. -/
def evNpConfig : Nat := 0x0508
/-- NP_ARP_CONFLICT (12_network_ports.md): IPv4 address; port. -/
def evNpArpConflict : Nat := 0x0509
/-- NP_PD_REJECT (12_network_ports.md): ComId; 1 header CRC, 2 topography, 3 length. -/
def evNpPdReject : Nat := 0x050A
/-- NP_MD_LIMIT (12_network_ports.md): ComId; sessions open. -/
def evNpMdLimit : Nat := 0x050B
/-- SC_REJECT (12_network_ports.md): CONN_ID; reason of R320. -/
def evScReject : Nat := 0x050C
/-- SC_TIMEOUT (12_network_ports.md): CONN_ID; milliseconds since the last accepted message. -/
def evScTimeout : Nat := 0x050D
/-- SC_RESTORED (12_network_ports.md): CONN_ID; 0. -/
def evScRestored : Nat := 0x050E
/-- FB_STATE (08_flanirax_door_bus.md): Bus; previous state × 256 + new state. -/
def evFbState : Nat := 0x0601
/-- FB_CONFIG (08_flanirax_door_bus.md): Bus; section offset of the field. -/
def evFbConfig : Nat := 0x0602
/-- FB_NODE_EXCLUDED (08_flanirax_door_bus.md): Bus; node. -/
def evFbNodeExcluded : Nat := 0x0603
/-- FB_NODE_READMITTED (08_flanirax_door_bus.md): Bus; node. -/
def evFbNodeReadmitted : Nat := 0x0604
/-- FB_NODE_LOST (08_flanirax_door_bus.md): Bus; node. -/
def evFbNodeLost : Nat := 0x0605
/-- FB_NODE_UP (08_flanirax_door_bus.md): Bus; node. -/
def evFbNodeUp : Nat := 0x0606
/-- FB_CLAIM_GRANTED (08_flanirax_door_bus.md): Bus; node × 256 + slot. -/
def evFbClaimGranted : Nat := 0x0607
/-- FB_CLAIM_REFUSED (08_flanirax_door_bus.md): Bus; node × 256 + reason, 5 for withdrawn. -/
def evFbClaimRefused : Nat := 0x0608
/-- FB_CLAIM_COLLISION (08_flanirax_door_bus.md): Bus; cycle count. -/
def evFbClaimCollision : Nat := 0x0609
/-- FB_GRANT_RELEASED (08_flanirax_door_bus.md): Bus; node × 256 + slot. -/
def evFbGrantReleased : Nat := 0x060A
/-- FB_CH_DIFFER (08_flanirax_door_bus.md): Bus; slot. -/
def evFbChDiffer : Nat := 0x060B
/-- FB_CHANNEL_FAULT (08_flanirax_door_bus.md): Bus; channel, 0 X or 1 Y. -/
def evFbChannelFault : Nat := 0x060C
/-- FB_CS_MISSED (08_flanirax_door_bus.md): Bus; cycle count. -/
def evFbCsMissed : Nat := 0x060D
/-- FB_OUT_LEN (08_flanirax_door_bus.md): Bus; slot. -/
def evFbOutLen : Nat := 0x060E
/-- FB_SECOND_MASTER (08_flanirax_door_bus.md): Bus; channel. -/
def evFbSecondMaster : Nat := 0x060F
/-- DM_DESC_ERR (13_queues_and_dma.md): Channel; descriptor address. -/
def evDmDescErr : Nat := 0x0701
/-- DM_ALIGN (13_queues_and_dma.md): Channel; descriptor address. -/
def evDmAlign : Nat := 0x0702
/-- DM_BUSERR (13_queues_and_dma.md): Channel × 256 + 3 region or 4 target; descriptor address. -/
def evDmBuserr : Nat := 0x0703
/-- DM_DB_IGNORED (13_queues_and_dma.md): Channel; DM_STATn.STATE. -/
def evDmDbIgnored : Nat := 0x0704
/-- QM_RING_FULL (13_queues_and_dma.md): Ring; items dropped in the last second. -/
def evQmRingFull : Nat := 0x0705
/-- QM_INDEX_ERR (13_queues_and_dma.md): Ring, or 0x100 for the pool; value written. -/
def evQmIndexErr : Nat := 0x0706
/-- QM_POOL_EMPTY (13_queues_and_dma.md): Items refused in the last second; 0. -/
def evQmPoolEmpty : Nat := 0x0707
/-- QM_CM_ERR (13_queues_and_dma.md): Triad, 0 P or 1 C; length. -/
def evQmCmErr : Nat := 0x0708
/-- QM_DESC_ERR (13_queues_and_dma.md): Ring; descriptor slot. -/
def evQmDescErr : Nat := 0x0709
/-- FI_CONFIG (09_field_io.md): Offset of the field in the FIELD section; value. -/
def evFiConfig : Nat := 0x0801
/-- FI_ENGINE_CFG (09_field_io.md): Bit mask of links that delivered a configuration; 0. -/
def evFiEngineCfg : Nat := 0x0802
/-- FI_LINK_SILENT (09_field_io.md): Link; position, 3 if unconnected. -/
def evFiLinkSilent : Nat := 0x0803
/-- FI_LINK_ERR (09_field_io.md): Link; frames rejected in the last second. -/
def evFiLinkErr : Nat := 0x0804
/-- FI_INPUT_INVALID (09_field_io.md): Input; 0. -/
def evFiInputInvalid : Nat := 0x0805
/-- FI_PAIR_DISCREPANCY (09_field_io.md): Pair; state left, 1 WAIT_ON, 3 WAIT_OFF, 5 invalid input. -/
def evFiPairDiscrepancy : Nat := 0x0806
/-- FI_PAIR_CLEARED (09_field_io.md): Pair; 0. -/
def evFiPairCleared : Nat := 0x0807
/-- FI_SWITCH_FAULT (09_field_io.md): Output; switch bit × 256 + kind (1 conducts when open, 2 no conduction, 3 no branch, 4 test step failed). For kind 2 the switch bit names the upper switch of the branch, and for kind 3 it is 0xFF (R235).. -/
def evFiSwitchFault : Nat := 0x0808
/-- FI_OPEN_LOAD (09_field_io.md): Output; branch. -/
def evFiOpenLoad : Nat := 0x0809
/-- FI_EXT_FEED (09_field_io.md): Output; 0. -/
def evFiExtFeed : Nat := 0x080A
/-- FI_THERMAL (09_field_io.md): Output; retry count. -/
def evFiThermal : Nat := 0x080B
/-- FI_OUT_LOCKED (09_field_io.md): Output; 0. -/
def evFiOutLocked : Nat := 0x080C
/-- FI_CURRENT_LIMIT (09_field_io.md): Output; milliseconds in limit, saturating. -/
def evFiCurrentLimit : Nat := 0x080D
/-- FI_SUPPLY (09_field_io.md): Supply, 0 FSUP_IN, 1 to 3 FSUP1 to FSUP3; 0 normal, 1 low, 2 missing. -/
def evFiSupply : Nat := 0x080E
/-- FI_TEST_DISCARDED (09_field_io.md): Output; 1 de-energise, 2 energise, 3 lane state changed (R451). -/
def evFiTestDiscarded : Nat := 0x080F
/-- FI_QCHG_FIRED (09_field_io.md): Queued change; comparator. -/
def evFiQchgFired : Nat := 0x0810
/-- FI_QCHG_NONE (09_field_io.md): ARG; comparator. -/
def evFiQchgNone : Nat := 0x0811
/-- FI_XBAR (09_field_io.md): Position; link connected, 0xFF for none. -/
def evFiXbar : Nat := 0x0812
/-- FI_QUEUE_FULL (09_field_io.md): Items not formed; 0. -/
def evFiQueueFull : Nat := 0x0813
/-- SP_PARAMS_LOADED (10_safety_supervisor.md): PARAM_SET_ID; LENGTH. -/
def evSpParamsLoaded : Nat := 0x0901
/-- SP_PARAM_ERROR (10_safety_supervisor.md): Offset of the field; value. -/
def evSpParamError : Nat := 0x0902
/-- SP_ZERO (10_safety_supervisor.md): 1 declared, 0 lost; axle that moved, 0 if declared. -/
def evSpZero : Nat := 0x0903
/-- SP_BERTH_REF (10_safety_supervisor.md): Bits 31:0 of the axle 1 reference; bits 31:0 of the axle 2 reference. -/
def evSpBerthRef : Nat := 0x0904
/-- SP_BERTH_LOST (10_safety_supervisor.md): Reason of R258; D. -/
def evSpBerthLost : Nat := 0x0905
/-- SP_SLS_VIOLATION (10_safety_supervisor.md): Limit; V in mm/s. -/
def evSpSlsViolation : Nat := 0x0906
/-- SP_SLP_VIOLATION (10_safety_supervisor.md): Window; r_1. -/
def evSpSlpViolation : Nat := 0x0907
/-- SP_DIR_VIOLATION (10_safety_supervisor.md): Axle; distance against the permitted sense. -/
def evSpDirViolation : Nat := 0x0908
/-- SP_SLIP (10_safety_supervisor.md): 1 start, 0 end; |v_1 − v_2| in mm/s. -/
def evSpSlip : Nat := 0x0909
/-- SP_ODO_FAULT (10_safety_supervisor.md): 1 persistent slip, 2 over-rate, 3 quadrature errors, 4 gap; axle, 0 for persistent slip, which concerns both axles. -/
def evSpOdoFault : Nat := 0x090A
/-- SP_ACK (10_safety_supervisor.md): Latches cleared; 1 application, 2 input pair. -/
def evSpAck : Nat := 0x090B
/-- SP_ACK_REFUSED (10_safety_supervisor.md): Latches refused; source as for SP_ACK. -/
def evSpAckRefused : Nat := 0x090C
/-- SP_DISAGREE (10_safety_supervisor.md): Mast; differing bits of SP_STAT and SP_LATCH, packed as SP_LATCH × 256 + SP_STAT bits 7:0. -/
def evSpDisagree : Nat := 0x090D
/-- BB_CONFIG (14_rack_bridge_and_stay_link.md): Offset of the field in the BRIDGE section; value. -/
def evBbConfig : Nat := 0x0A01
/-- BB_POSTED_FAIL (14_rack_bridge_and_stay_link.md): Window × 256 + result; rack address. -/
def evBbPostedFail : Nat := 0x0A02
/-- BB_PWEQ_OVERFLOW (14_rack_bridge_and_stay_link.md): OVFCNT; 0. -/
def evBbPweqOverflow : Nat := 0x0A03
/-- BB_OUT_FAIL (14_rack_bridge_and_stay_link.md): Window × 256 + result; rack address. -/
def evBbOutFail : Nat := 0x0A04
/-- BB_SIDEBAND (14_rack_bridge_and_stay_link.md): Word; new value. -/
def evBbSideband : Nat := 0x0A05
/-- BB_EXPOSE_MISMATCH (14_rack_bridge_and_stay_link.md): Window; offset. -/
def evBbExposeMismatch : Nat := 0x0A06
/-- BB_INBOUND_PARITY (14_rack_bridge_and_stay_link.md): Window; offset. -/
def evBbInboundParity : Nat := 0x0A07
/-- UP_BEGIN (16_images_and_update.md): KIND; VERSION. -/
def evUpBegin : Nat := 0x0B01
/-- UP_REJECTED (16_images_and_update.md): Reason; block. -/
def evUpRejected : Nat := 0x0B02
/-- UP_WRITTEN (16_images_and_update.md): KIND; blocks. -/
def evUpWritten : Nat := 0x0B03
/-- UP_ABORTED (16_images_and_update.md): Cause: 1 command, 2 loss or join, 3 mode, 4 reset, 5 idle; PHASE. -/
def evUpAborted : Nat := 0x0B04
/-- UP_ACTIVATED (16_images_and_update.md): Slot; firmware VERSION. -/
def evUpActivated : Nat := 0x0B05
/-- UP_JURY_TURN (16_images_and_update.md): Mast; 0 done, or reason. -/
def evUpJuryTurn : Nat := 0x0B06
/-- UP_CONFIRMED (16_images_and_update.md): Slot; UP_RUNSEC. -/
def evUpConfirmed : Nat := 0x0B07
/-- UP_FALLBACK (16_images_and_update.md): Slot rejected; 1 window expired, 2 starts exhausted. -/
def evUpFallback : Nat := 0x0B08
/-- UP_MIGRATED (16_images_and_update.md): Items migrated; items defaulted. -/
def evUpMigrated : Nat := 0x0B09
/-- UP_MIGRATE_FAIL (16_images_and_update.md): Item ID; 0. -/
def evUpMigrateFail : Nat := 0x0B0A
/-- UP_SETTINGS_REPAIRED (16_images_and_update.md): Mast; 0. -/
def evUpSettingsRepaired : Nat := 0x0B0B
/-- UP_SETTINGS_RESET (16_images_and_update.md): Schema found; schema of the image. -/
def evUpSettingsReset : Nat := 0x0B0C
/-- UP_KEY_PROGRAMMED (16_images_and_update.md): Slot; first 4 bytes of the key. -/
def evUpKeyProgrammed : Nat := 0x0B0D
/-- UP_KEY_REVOKED (16_images_and_update.md): Slot; 0. -/
def evUpKeyRevoked : Nat := 0x0B0E
/-- UP_RECOVERY (16_images_and_update.md): 1 service port, 2 Ethernet; bytes received. -/
def evUpRecovery : Nat := 0x0B0F
/-- MODE_CHANGE (02_modes_and_start.md): Previous mode; new mode. -/
def evModeChange : Nat := 0x0C01
/-- RUN_REFUSED (02_modes_and_start.md): MC_INHIBIT value; command code. -/
def evRunRefused : Nat := 0x0C02
/-- HOLD_TIMEOUT (02_modes_and_start.md): Seconds in HOLD; 0. -/
def evHoldTimeout : Nat := 0x0C03
/-- RESTART (02_modes_and_start.md): MC_RESTART.TYPE; MC_RESTART.COLD_REASON. -/
def evRestart : Nat := 0x0C04
/-- RETAIN_REPAIRED (02_modes_and_start.md): Mast rewritten; 0. -/
def evRetainRepaired : Nat := 0x0C05
/-- CMD_DISCARDED (02_modes_and_start.md): Code; MC_CMDSTAT.RESULT. -/
def evCmdDiscarded : Nat := 0x0C06
/-- CYCLE_OVERRUN (11_application_execution.md): Bits 31:0 of the cycle; cycle time in 10 µs. -/
def evCycleOverrun : Nat := 0x0C07
/-- APP_FAULT (11_application_execution.md): MC_APPFAULT.CODE; program address. -/
def evAppFault : Nat := 0x0C08
/-- OLC_APPLIED (11_application_execution.md): Apply cycle, bits 31:0; symbols changed. -/
def evOlcApplied : Nat := 0x0C09
/-- OLC_REFUSED (11_application_execution.md): Status of R289; first symbol index concerned. -/
def evOlcRefused : Nat := 0x0C0A
/-- FORCE_SET (11_application_execution.md): Symbol index; MC_FORCE.COUNT. -/
def evForceSet : Nat := 0x0C0B
/-- FORCE_RELEASED (11_application_execution.md): Symbol index, 0xFFFF for all; cause: 1 command, 2 session end, 3 SERVICE left, 4 STANDBY, 5 cold restart. -/
def evForceReleased : Nat := 0x0C0C
/-- STATION_LOST (11_application_execution.md): Station; LOSSES. -/
def evStationLost : Nat := 0x0C0D
/-- STATION_BACK (11_application_execution.md): Station; action instants lost, saturating. -/
def evStationBack : Nat := 0x0C0E
/-- RETAIN_WRITE_FAIL (11_application_execution.md): Bank; mast. -/
def evRetainWriteFail : Nat := 0x0C0F
/-- APP_DESCRIPTOR (11_application_execution.md): Offset of the field; value. -/
def evAppDescriptor : Nat := 0x0C10
/-- FORCE_REFUSED (11_application_execution.md): Symbol index; status of R289. -/
def evForceRefused : Nat := 0x0C11
/-- MON_SESSION (17_log_and_monitor.md): 1 opened, 0 ended; key entry. -/
def evMonSession : Nat := 0x0C20
/-- MON_AUTH_FAIL (17_log_and_monitor.md): SV_STAT.FAILS; 1 if locked. -/
def evMonAuthFail : Nat := 0x0C21
/-- MON_COMMAND (17_log_and_monitor.md): Command word; result. -/
def evMonCommand : Nat := 0x0C22
/-- SYSLOG_DROPPED (17_log_and_monitor.md): Entries dropped in the last second; EL_DROP.LOST. -/
def evSyslogDropped : Nat := 0x0C23
/-- POWER_ON (02_modes_and_start.md): 0; 0. -/
def evPowerOn : Nat := 0x0D01
/-- MODULE_RESET (02_modes_and_start.md): MC_RSTCAUSE value; 0. -/
def evModuleReset : Nat := 0x0D02
/-- RESET_STUCK (02_modes_and_start.md): Milliseconds pressed; 0. -/
def evResetStuck : Nat := 0x0D03
/-- STANDBY_ENTER (02_modes_and_start.md): Checkpoint size in bytes; 0. -/
def evStandbyEnter : Nat := 0x0D04
/-- STANDBY_REFUSED (02_modes_and_start.md): Reason: 1 no agreement, 2 conditions; 0. -/
def evStandbyRefused : Nat := 0x0D05
/-- WAKE (02_modes_and_start.md): MC_WAKESRC bits 3:0; WAKE_MS. -/
def evWake : Nat := 0x0D06
/-- WAKE_FAILED (02_modes_and_start.md): Failed step of R40; 0. -/
def evWakeFailed : Nat := 0x0D07
/-- BOOT_LATE (02_modes_and_start.md): TO_STOP; step that overran. -/
def evBootLate : Nat := 0x0D08
/-- BOOT_FALLBACK (02_modes_and_start.md): Slot started; slot that failed. -/
def evBootFallback : Nat := 0x0D09
/-- MAST_TEMP_HIGH (04_masts_and_triads.md): Mast; die temperature in °C. -/
def evMastTempHigh : Nat := 0x0D10
/-- SUPPLY_LOW (18_electrical_mechanical.md): Voltage in mV; milliseconds below 16.8 V. -/
def evSupplyLow : Nat := 0x0D11
/-- SUPPLY_INTERRUPT (18_electrical_mechanical.md): Duration in µs; lowest voltage in mV. -/
def evSupplyInterrupt : Nat := 0x0D12
/-- SUPPLY_OVER (18_electrical_mechanical.md): Highest voltage in mV; duration in ms. -/
def evSupplyOver : Nat := 0x0D13
/-- HOLDUP_FAIL (18_electrical_mechanical.md): Store voltage in mV; 0. -/
def evHoldupFail : Nat := 0x0D14
/-- INTERFACE_TEMP (18_electrical_mechanical.md): Rail, 1 or 2; temperature in °C. -/
def evInterfaceTemp : Nat := 0x0D15
/-- TACH_SUPPLY (18_electrical_mechanical.md): Axle; 0. -/
def evTachSupply : Nat := 0x0D16
/-- SLOTKEY_READ (03_slot_key_and_seal.md): SL_KEYSTAT.AGREE; TOTAL_LEN. -/
def evSlotkeyRead : Nat := 0x0E01
/-- SLOTKEY_ABSENT (03_slot_key_and_seal.md): Bit mask of masts that found no key; 0. -/
def evSlotkeyAbsent : Nat := 0x0E02
/-- SLOTKEY_DIGEST (03_slot_key_and_seal.md): Bit mask of masts in agreement, 0 if none; 0. -/
def evSlotkeyDigest : Nat := 0x0E03
/-- SLOTKEY_FORMAT (03_slot_key_and_seal.md): Section type, 0 for header or directory; reason code of R58. -/
def evSlotkeyFormat : Nat := 0x0E04
/-- SLOTKEY_CRC (03_slot_key_and_seal.md): Section type, 0 for header and directory; computed CRC-32C. -/
def evSlotkeyCrc : Nat := 0x0E05
/-- SLOTKEY_IDENTITY (03_slot_key_and_seal.md): SL_SLOTID.PINS; SL_SLOTID.IMAGE. -/
def evSlotkeyIdentity : Nat := 0x0E06
/-- SLOTKEY_SECTION_IGNORED (03_slot_key_and_seal.md): Section type; LENGTH. -/
def evSlotkeySectionIgnored : Nat := 0x0E07
/-- SEAL_MISMATCH (03_slot_key_and_seal.md): Switch value; seal code. -/
def evSealMismatch : Nat := 0x0E08
/-- SEAL_READ (03_slot_key_and_seal.md): Framing byte read; mast. -/
def evSealRead : Nat := 0x0E09
/-- SEAL_CHANGED (03_slot_key_and_seal.md): Previous switch value; new switch value. -/
def evSealChanged : Nat := 0x0E0A
/-- SLOTKEY_FROM_LANE (03_slot_key_and_seal.md): Mast that joined; 0. -/
def evSlotkeyFromLane : Nat := 0x0E0B
/-- APP_MISMATCH (03_slot_key_and_seal.md): First 4 bytes of APP_HASH; first 4 bytes of the application hash present, 0 if none. -/
def evAppMismatch : Nat := 0x0E0C
/-- APP_FETCH_OK (03_slot_key_and_seal.md): Rack master's slot id; APP_VERSION. -/
def evAppFetchOk : Nat := 0x0E0D
/-- APP_FETCH_FAILED (03_slot_key_and_seal.md): Reason of R71; SL_APPFETCH.ATTEMPTS. -/
def evAppFetchFailed : Nat := 0x0E0E
/-- SL_JOINED (14_rack_bridge_and_stay_link.md): Slot; members. -/
def evSlJoined : Nat := 0x0E10
/-- SL_LEFT (14_rack_bridge_and_stay_link.md): Slot; members. -/
def evSlLeft : Nat := 0x0E11
/-- SL_MASTER (14_rack_bridge_and_stay_link.md): New master's slot; old master's slot, 0 for none. -/
def evSlMaster : Nat := 0x0E12
/-- SL_WRAP (14_rack_bridge_and_stay_link.md): Neighbour's slot; 1 wrapped, 0 restored. -/
def evSlWrap : Nat := 0x0E13
/-- SL_SLOT_CONFLICT (14_rack_bridge_and_stay_link.md): Slot; 0. -/
def evSlSlotConflict : Nat := 0x0E14
/-- SL_SHARE_LIMIT (14_rack_bridge_and_stay_link.md): Total SHARE_LEN; own SHARE_LEN. -/
def evSlShareLimit : Nat := 0x0E15
/-- SL_CONFIG (14_rack_bridge_and_stay_link.md): Offset of the field in the STAY_LINK section; value. -/
def evSlConfig : Nat := 0x0E16
/-- SL_CRC (14_rack_bridge_and_stay_link.md): Upstream neighbour's slot; errors in the last second. -/
def evSlCrc : Nat := 0x0E17

/-- Name and severity (R413) of each event with high byte 0x01 (R11). -/
def eventRows01 : List (Nat × String × Nat) :=
  [(evLaneState, "LANE_STATE", 5),
   (evHbWarn, "HB_WARN", 6),
   (evHbRestored, "HB_RESTORED", 6),
   (evMastLost, "MAST_LOST", 2),
   (evPairLoss, "PAIR_LOSS", 6),
   (evMastIsolated, "MAST_ISOLATED", 4),
   (evIsolatePowerFail, "ISOLATE_POWER_FAIL", 2),
   (evJoinStart, "JOIN_START", 5),
   (evJoinDone, "JOIN_DONE", 5),
   (evJoinFailed, "JOIN_FAILED", 2),
   (evJoinDeferred, "JOIN_DEFERRED", 4),
   (evOwnerChange, "OWNER_CHANGE", 5),
   (evOwnerDeposed, "OWNER_DEPOSED", 6),
   (evTxUnconfirmed, "TX_UNCONFIRMED", 6),
   (evDuplexDisagree, "DUPLEX_DISAGREE", 4),
   (evSafeEnter, "SAFE_ENTER", 2),
   (evCkptRetry, "CKPT_RETRY", 6),
   (evIntakeSingle, "INTAKE_SINGLE", 6),
   (evIntakeNoagree, "INTAKE_NOAGREE", 6),
   (evTagArrivalFail, "TAG_ARRIVAL_FAIL", 4),
   (evIntakeFillFail, "INTAKE_FILL_FAIL", 4),
   (evIntakeGap, "INTAKE_GAP", 6),
   (evTagExitFail, "TAG_EXIT_FAIL", 4),
   (evTagExitAgreed, "TAG_EXIT_AGREED", 6),
   (evIntakeStageFull, "INTAKE_STAGE_FULL", 4),
   (evProposalLate, "PROPOSAL_LATE", 4)]

/-- Name and severity (R413) of each event with high byte 0x02 (R11). -/
def eventRows02 : List (Nat × String × Nat) :=
  [(evCoreResync, "CORE_RESYNC", 6),
   (evResyncFailed, "RESYNC_FAILED", 4),
   (evMastSilent, "MAST_SILENT", 2),
   (evInjectDone, "INJECT_DONE", 6),
   (evSilenceRecord, "SILENCE_RECORD", 6),
   (evFenceViolation, "FENCE_VIOLATION", 6)]

/-- Name and severity (R413) of each event with high byte 0x03 (R11). -/
def eventRows03 : List (Nat × String × Nat) :=
  [(evMiCorrected, "MI_CORRECTED", 6),
   (evMiUncorrectable, "MI_UNCORRECTABLE", 2),
   (evMiRepeat, "MI_REPEAT", 6),
   (evMiSelftestFail, "MI_SELFTEST_FAIL", 4),
   (evMiL2Refetch, "MI_L2_REFETCH", 6),
   (evMiInjectDone, "MI_INJECT_DONE", 6)]

/-- Name and severity (R413) of each event with high byte 0x04 (R11). -/
def eventRows04 : List (Nat × String × Nat) :=
  [(evTimeAcquired, "TIME_ACQUIRED", 6),
   (evTimeStepRefused, "TIME_STEP_REFUSED", 4),
   (evTimeStepped, "TIME_STEPPED", 6),
   (evTimeLocked, "TIME_LOCKED", 6),
   (evTimeHoldover, "TIME_HOLDOVER", 6),
   (evGmChange, "GM_CHANGE", 6),
   (evTimeConfig, "TIME_CONFIG", 3),
   (evTimeBand, "TIME_BAND", 6),
   (evTxtsOverflow, "TXTS_OVERFLOW", 4),
   (evAiStretched, "AI_STRETCHED", 6),
   (evAiRackMismatch, "AI_RACK_MISMATCH", 4),
   (evTachoQerr, "TACHO_QERR", 4),
   (evTachoOverrate, "TACHO_OVERRATE", 4),
   (evPosRepaired, "POS_REPAIRED", 6),
   (evCmpFired, "CMP_FIRED", 6),
   (evCmpLate, "CMP_LATE", 4),
   (evCmpDisagree, "CMP_DISAGREE", 4),
   (evCmpArmRefused, "CMP_ARM_REFUSED", 4)]

/-- Name and severity (R413) of each event with high byte 0x05 (R11). -/
def eventRows05 : List (Nat × String × Nat) :=
  [(evNpLink, "NP_LINK", 6),
   (evNpPlane, "NP_PLANE", 6),
   (evNpPrpWrongLan, "NP_PRP_WRONG_LAN", 6),
   (evNpPoliced, "NP_POLICED", 6),
   (evNpAdmission, "NP_ADMISSION", 6),
   (evNpRxTrunc, "NP_RX_TRUNC", 6),
   (evNpTxLate, "NP_TX_LATE", 4),
   (evNpConfig, "NP_CONFIG", 3),
   (evNpArpConflict, "NP_ARP_CONFLICT", 6),
   (evNpPdReject, "NP_PD_REJECT", 4),
   (evNpMdLimit, "NP_MD_LIMIT", 6),
   (evScReject, "SC_REJECT", 4),
   (evScTimeout, "SC_TIMEOUT", 4),
   (evScRestored, "SC_RESTORED", 6)]

/-- Name and severity (R413) of each event with high byte 0x06 (R11). -/
def eventRows06 : List (Nat × String × Nat) :=
  [(evFbState, "FB_STATE", 5),
   (evFbConfig, "FB_CONFIG", 3),
   (evFbNodeExcluded, "FB_NODE_EXCLUDED", 6),
   (evFbNodeReadmitted, "FB_NODE_READMITTED", 6),
   (evFbNodeLost, "FB_NODE_LOST", 4),
   (evFbNodeUp, "FB_NODE_UP", 6),
   (evFbClaimGranted, "FB_CLAIM_GRANTED", 6),
   (evFbClaimRefused, "FB_CLAIM_REFUSED", 4),
   (evFbClaimCollision, "FB_CLAIM_COLLISION", 6),
   (evFbGrantReleased, "FB_GRANT_RELEASED", 6),
   (evFbChDiffer, "FB_CH_DIFFER", 6),
   (evFbChannelFault, "FB_CHANNEL_FAULT", 6),
   (evFbCsMissed, "FB_CS_MISSED", 6),
   (evFbOutLen, "FB_OUT_LEN", 6),
   (evFbSecondMaster, "FB_SECOND_MASTER", 6)]

/-- Name and severity (R413) of each event with high byte 0x07 (R11). -/
def eventRows07 : List (Nat × String × Nat) :=
  [(evDmDescErr, "DM_DESC_ERR", 4),
   (evDmAlign, "DM_ALIGN", 6),
   (evDmBuserr, "DM_BUSERR", 4),
   (evDmDbIgnored, "DM_DB_IGNORED", 6),
   (evQmRingFull, "QM_RING_FULL", 4),
   (evQmIndexErr, "QM_INDEX_ERR", 4),
   (evQmPoolEmpty, "QM_POOL_EMPTY", 6),
   (evQmCmErr, "QM_CM_ERR", 4),
   (evQmDescErr, "QM_DESC_ERR", 4)]

/-- Name and severity (R413) of each event with high byte 0x08 (R11). -/
def eventRows08 : List (Nat × String × Nat) :=
  [(evFiConfig, "FI_CONFIG", 3),
   (evFiEngineCfg, "FI_ENGINE_CFG", 6),
   (evFiLinkSilent, "FI_LINK_SILENT", 6),
   (evFiLinkErr, "FI_LINK_ERR", 4),
   (evFiInputInvalid, "FI_INPUT_INVALID", 6),
   (evFiPairDiscrepancy, "FI_PAIR_DISCREPANCY", 6),
   (evFiPairCleared, "FI_PAIR_CLEARED", 6),
   (evFiSwitchFault, "FI_SWITCH_FAULT", 3),
   (evFiOpenLoad, "FI_OPEN_LOAD", 6),
   (evFiExtFeed, "FI_EXT_FEED", 6),
   (evFiThermal, "FI_THERMAL", 6),
   (evFiOutLocked, "FI_OUT_LOCKED", 3),
   (evFiCurrentLimit, "FI_CURRENT_LIMIT", 6),
   (evFiSupply, "FI_SUPPLY", 6),
   (evFiTestDiscarded, "FI_TEST_DISCARDED", 6),
   (evFiQchgFired, "FI_QCHG_FIRED", 6),
   (evFiQchgNone, "FI_QCHG_NONE", 6),
   (evFiXbar, "FI_XBAR", 6),
   (evFiQueueFull, "FI_QUEUE_FULL", 4)]

/-- Name and severity (R413) of each event with high byte 0x09 (R11). -/
def eventRows09 : List (Nat × String × Nat) :=
  [(evSpParamsLoaded, "SP_PARAMS_LOADED", 6),
   (evSpParamError, "SP_PARAM_ERROR", 4),
   (evSpZero, "SP_ZERO", 6),
   (evSpBerthRef, "SP_BERTH_REF", 6),
   (evSpBerthLost, "SP_BERTH_LOST", 4),
   (evSpSlsViolation, "SP_SLS_VIOLATION", 3),
   (evSpSlpViolation, "SP_SLP_VIOLATION", 3),
   (evSpDirViolation, "SP_DIR_VIOLATION", 3),
   (evSpSlip, "SP_SLIP", 6),
   (evSpOdoFault, "SP_ODO_FAULT", 3),
   (evSpAck, "SP_ACK", 6),
   (evSpAckRefused, "SP_ACK_REFUSED", 4),
   (evSpDisagree, "SP_DISAGREE", 4)]

/-- Name and severity (R413) of each event with high byte 0x0A (R11). -/
def eventRows0A : List (Nat × String × Nat) :=
  [(evBbConfig, "BB_CONFIG", 3),
   (evBbPostedFail, "BB_POSTED_FAIL", 4),
   (evBbPweqOverflow, "BB_PWEQ_OVERFLOW", 4),
   (evBbOutFail, "BB_OUT_FAIL", 4),
   (evBbSideband, "BB_SIDEBAND", 6),
   (evBbExposeMismatch, "BB_EXPOSE_MISMATCH", 4),
   (evBbInboundParity, "BB_INBOUND_PARITY", 6)]

/-- Name and severity (R413) of each event with high byte 0x0B (R11). -/
def eventRows0B : List (Nat × String × Nat) :=
  [(evUpBegin, "UP_BEGIN", 6),
   (evUpRejected, "UP_REJECTED", 4),
   (evUpWritten, "UP_WRITTEN", 6),
   (evUpAborted, "UP_ABORTED", 6),
   (evUpActivated, "UP_ACTIVATED", 5),
   (evUpJuryTurn, "UP_JURY_TURN", 6),
   (evUpConfirmed, "UP_CONFIRMED", 5),
   (evUpFallback, "UP_FALLBACK", 3),
   (evUpMigrated, "UP_MIGRATED", 6),
   (evUpMigrateFail, "UP_MIGRATE_FAIL", 4),
   (evUpSettingsRepaired, "UP_SETTINGS_REPAIRED", 6),
   (evUpSettingsReset, "UP_SETTINGS_RESET", 6),
   (evUpKeyProgrammed, "UP_KEY_PROGRAMMED", 6),
   (evUpKeyRevoked, "UP_KEY_REVOKED", 6),
   (evUpRecovery, "UP_RECOVERY", 6)]

/-- Name and severity (R413) of each event with high byte 0x0C (R11). -/
def eventRows0C : List (Nat × String × Nat) :=
  [(evModeChange, "MODE_CHANGE", 5),
   (evRunRefused, "RUN_REFUSED", 4),
   (evHoldTimeout, "HOLD_TIMEOUT", 4),
   (evRestart, "RESTART", 5),
   (evRetainRepaired, "RETAIN_REPAIRED", 6),
   (evCmdDiscarded, "CMD_DISCARDED", 6),
   (evCycleOverrun, "CYCLE_OVERRUN", 3),
   (evAppFault, "APP_FAULT", 3),
   (evOlcApplied, "OLC_APPLIED", 6),
   (evOlcRefused, "OLC_REFUSED", 4),
   (evForceSet, "FORCE_SET", 6),
   (evForceReleased, "FORCE_RELEASED", 6),
   (evStationLost, "STATION_LOST", 4),
   (evStationBack, "STATION_BACK", 6),
   (evRetainWriteFail, "RETAIN_WRITE_FAIL", 4),
   (evAppDescriptor, "APP_DESCRIPTOR", 6),
   (evForceRefused, "FORCE_REFUSED", 4),
   (evMonSession, "MON_SESSION", 5),
   (evMonAuthFail, "MON_AUTH_FAIL", 3),
   (evMonCommand, "MON_COMMAND", 5),
   (evSyslogDropped, "SYSLOG_DROPPED", 6)]

/-- Name and severity (R413) of each event with high byte 0x0D (R11). -/
def eventRows0D : List (Nat × String × Nat) :=
  [(evPowerOn, "POWER_ON", 6),
   (evModuleReset, "MODULE_RESET", 6),
   (evResetStuck, "RESET_STUCK", 4),
   (evStandbyEnter, "STANDBY_ENTER", 6),
   (evStandbyRefused, "STANDBY_REFUSED", 4),
   (evWake, "WAKE", 6),
   (evWakeFailed, "WAKE_FAILED", 4),
   (evBootLate, "BOOT_LATE", 4),
   (evBootFallback, "BOOT_FALLBACK", 6),
   (evMastTempHigh, "MAST_TEMP_HIGH", 6),
   (evSupplyLow, "SUPPLY_LOW", 6),
   (evSupplyInterrupt, "SUPPLY_INTERRUPT", 4),
   (evSupplyOver, "SUPPLY_OVER", 6),
   (evHoldupFail, "HOLDUP_FAIL", 4),
   (evInterfaceTemp, "INTERFACE_TEMP", 6),
   (evTachSupply, "TACH_SUPPLY", 6)]

/-- Name and severity (R413) of each event with high byte 0x0E (R11). -/
def eventRows0E : List (Nat × String × Nat) :=
  [(evSlotkeyRead, "SLOTKEY_READ", 6),
   (evSlotkeyAbsent, "SLOTKEY_ABSENT", 3),
   (evSlotkeyDigest, "SLOTKEY_DIGEST", 3),
   (evSlotkeyFormat, "SLOTKEY_FORMAT", 3),
   (evSlotkeyCrc, "SLOTKEY_CRC", 3),
   (evSlotkeyIdentity, "SLOTKEY_IDENTITY", 3),
   (evSlotkeySectionIgnored, "SLOTKEY_SECTION_IGNORED", 6),
   (evSealMismatch, "SEAL_MISMATCH", 3),
   (evSealRead, "SEAL_READ", 6),
   (evSealChanged, "SEAL_CHANGED", 6),
   (evSlotkeyFromLane, "SLOTKEY_FROM_LANE", 3),
   (evAppMismatch, "APP_MISMATCH", 3),
   (evAppFetchOk, "APP_FETCH_OK", 6),
   (evAppFetchFailed, "APP_FETCH_FAILED", 4),
   (evSlJoined, "SL_JOINED", 6),
   (evSlLeft, "SL_LEFT", 6),
   (evSlMaster, "SL_MASTER", 6),
   (evSlWrap, "SL_WRAP", 6),
   (evSlSlotConflict, "SL_SLOT_CONFLICT", 6),
   (evSlShareLimit, "SL_SHARE_LIMIT", 6),
   (evSlConfig, "SL_CONFIG", 3),
   (evSlCrc, "SL_CRC", 6)]

/-- The event rows of the block a code names by its high byte (R11). -/
def eventRows (code : Nat) : List (Nat × String × Nat) :=
  match code / 256 with
  | 0x01 => eventRows01
  | 0x02 => eventRows02
  | 0x03 => eventRows03
  | 0x04 => eventRows04
  | 0x05 => eventRows05
  | 0x06 => eventRows06
  | 0x07 => eventRows07
  | 0x08 => eventRows08
  | 0x09 => eventRows09
  | 0x0A => eventRows0A
  | 0x0B => eventRows0B
  | 0x0C => eventRows0C
  | 0x0D => eventRows0D
  | 0x0E => eventRows0E
  | _ => []

/-- The RFC 5424 severity of an event, by the first matching row of R413; a code no table lists is informational. -/
def severityOf (code : Nat) : Nat :=
  match (eventRows code).find? (fun r => r.1 == code) with
  | some r => r.2.2
  | none => 6

/-- The event's name, the MSGID of its syslog message (R415). -/
def eventName (code : Nat) : String :=
  match (eventRows code).find? (fun r => r.1 == code) with
  | some r => r.2.1
  | none => ""

end Sys2Proof.Machine
end

