-- ==== Sys2Proof/Machine/Flags.lean ====
section
/-!
DEFINITION. Bit fields, saturating counters, byte order and signed reading of words (R4, R7, the *saturating* counters of
every register table).
-/
namespace Sys2Proof.Machine

/-- Bits `hi:lo` of a word as a number. -/
def getBits (w : Word) (hi lo : Nat) : Nat := w.toNat / 2 ^ lo % 2 ^ (hi + 1 - lo)

/-- The word with bits `hi:lo` replaced by the low bits of `v`. -/
def setBits (w : Word) (hi lo v : Nat) : Word :=
  BitVec.ofNat 32 (w.toNat / 2 ^ (hi + 1) * 2 ^ (hi + 1) + v % 2 ^ (hi + 1 - lo) * 2 ^ lo + w.toNat % 2 ^ lo)

/-- Bit `n` of a number. -/
def bitOf (v n : Nat) : Bool := v / 2 ^ n % 2 == 1

/-- The number with bit `n` set to `b`. -/
def withBit (v n : Nat) (b : Bool) : Nat :=
  if bitOf v n = b then v else if b then v + 2 ^ n else v - 2 ^ n

/-- A counter that stays at its greatest value. -/
def satAdd (cap cur n : Nat) : Nat := min cap (cur + n)

/-- 1 for true, 0 for false. -/
def b2n (b : Bool) : Nat := if b then 1 else 0

/-- Little-endian number of a byte list (R4). -/
def leNat : List Byte → Nat
  | [] => 0
  | b :: bs => b.toNat + 256 * leNat bs

/-- The `n` little-endian bytes of a number (R4). -/
def natLe : Nat → Nat → List Byte
  | 0, _ => []
  | n + 1, v => BitVec.ofNat 8 v :: natLe n (v / 256)

/-- The number of a byte list whose first byte is the most significant. -/
def beNat (bs : List Byte) : Nat := leNat bs.reverse

/-- The `n` bytes of a number, most significant first. -/
def natBe (n v : Nat) : List Byte := (natLe n v).reverse

/-- The `len` bytes of a list from offset `off` on. -/
def slice (bs : List Byte) (off len : Nat) : List Byte := (bs.drop off).take len

/-- The little-endian number of `len` bytes at offset `off`. -/
def fieldAt (bs : List Byte) (off len : Nat) : Nat := leNat (slice bs off len)

/-- The two's-complement reading of the low `w` bits. -/
def signed (w v : Nat) : Int :=
  let u := v % 2 ^ w
  if 2 ^ (w - 1) ≤ u then (u : Int) - (2 ^ w : Nat) else (u : Int)

/-- The low `w` bits of an integer in two's complement. -/
def unsigned (w : Nat) (i : Int) : Nat := (i % (2 ^ w : Nat)).toNat

/-- Does every byte of the list read zero? -/
def allZero (bs : List Byte) : Bool := bs.all (fun b => b == 0)

end Sys2Proof.Machine
end

