-- ==== Sys2Proof/Machine/RegTable.lean ====
section
/-!
DEFINITION. The register map: every register table of the manual's chapters 02 to 18, as data.

One row per register name; `count` copies lie `stride` bytes apart from `base` (R21 gives the block bases).
A field carries its bits, its type (R9), its reset value and, where its description gives one, the range a write must
keep to (R446). Reserved bits carry no field: they read as zero (R8). Where the manual's Reset column names a source
instead of a number (slot image, cause, record, OTP, per mast), the number here is 0 and BOOT loads the value.
-/
namespace Sys2Proof.Machine

/-- The register field types of R9. -/
inductive FieldType where
  | ro | rw | wo | w1c | rwl | rws
  deriving DecidableEq, Repr

/-- Who holds a register: one copy per mast (*local*), one copy for the module read alike on every active mast
(*agreed*, R98), or one copy per triad. -/
inductive RegScope where
  | perMast | agreed | perTriad
  deriving DecidableEq, Repr

/-- One field of a register table: `hi:lo`, type, reset value and the least and greatest value a write may put there. -/
structure RegField where
  name : String
  hi : Nat
  lo : Nat
  ty : FieldType
  reset : Nat
  least : Nat := 0
  most : Nat := 0xFFFFFFFF
  deriving DecidableEq, Repr

/-- One register table. `comb` marks a register whose writes the chapter calls *combined* (R45). -/
structure RegRow where
  name : String
  base : Nat
  count : Nat
  stride : Nat
  scope : RegScope
  comb : Bool
  fields : List RegField
  deriving DecidableEq, Repr

/-- Registers of the MC_ block (R21), from 02_modes_and_start.md. -/
def regsMc0 : List RegRow :=
  [
   ⟨"MC_ID", 0xE0000000, 1, 0x4, .perMast, false,
     [⟨"HWTYPE", 31, 16, .ro, 18480, 0, 0xFFFFFFFF⟩, ⟨"ISSUE", 15, 8, .ro, 1, 0, 0xFFFFFFFF⟩, ⟨"MAST", 1, 0, .ro, 0, 0, 0xFFFFFFFF⟩]⟩,
   ⟨"MC_MODE", 0xE0000004, 1, 0x4, .agreed, false,
     [⟨"CHANGES", 31, 16, .ro, 0, 0, 0xFFFFFFFF⟩, ⟨"LANE", 9, 8, .ro, 0, 0, 0xFFFFFFFF⟩, ⟨"PREV", 6, 4, .ro, 0, 0, 0xFFFFFFFF⟩, ⟨"MODE", 2, 0, .ro, 0, 0, 0xFFFFFFFF⟩]⟩,
   ⟨"MC_CMD", 0xE0000008, 1, 0x4, .perMast, true,
     [⟨"KEY", 31, 16, .wo, 0, 0, 0xFFFFFFFF⟩, ⟨"CODE", 7, 0, .wo, 0, 0, 0xFFFFFFFF⟩]⟩,
   ⟨"MC_CMDSTAT", 0xE000000C, 1, 0x4, .perMast, false,
     [⟨"REASON", 23, 16, .ro, 255, 0, 0xFFFFFFFF⟩, ⟨"RESULT", 10, 8, .ro, 0, 0, 0xFFFFFFFF⟩, ⟨"LAST_CODE", 7, 0, .ro, 0, 0, 0xFFFFFFFF⟩]⟩,
   ⟨"MC_CTRL", 0xE0000010, 1, 0x4, .agreed, false,
     [⟨"HOLD_PERMIT", 2, 2, .ro, 0, 0, 0xFFFFFFFF⟩, ⟨"COLD_ONLY", 1, 1, .rwl, 0, 0, 0xFFFFFFFF⟩, ⟨"AUTOSTART", 0, 0, .rwl, 0, 0, 0xFFFFFFFF⟩]⟩,
   ⟨"MC_INHIBIT", 0xE0000014, 1, 0x4, .agreed, false,
     [⟨"BREAK", 6, 6, .ro, 0, 0, 0xFFFFFFFF⟩, ⟨"CONFIG", 5, 5, .ro, 1, 0, 0xFFFFFFFF⟩, ⟨"SERVICE", 4, 4, .ro, 0, 0, 0xFFFFFFFF⟩, ⟨"SLOTKEY", 3, 3, .ro, 0, 0, 0xFFFFFFFF⟩, ⟨"NO_APP", 2, 2, .ro, 0, 0, 0xFFFFFFFF⟩, ⟨"APP_MISMATCH", 1, 1, .ro, 0, 0, 0xFFFFFFFF⟩, ⟨"SEAL", 0, 0, .ro, 0, 0, 0xFFFFFFFF⟩]⟩,
   ⟨"MC_STOPCAUSE", 0xE0000018, 1, 0x4, .agreed, false,
     [⟨"CAUSE", 7, 0, .ro, 0, 0, 0xFFFFFFFF⟩]⟩,
   ⟨"MC_RSTCAUSE", 0xE000001C, 1, 0x4, .agreed, false,
     [⟨"STUCK_SEEN", 8, 8, .rws, 0, 0, 0xFFFFFFFF⟩, ⟨"STANDBY_FAULT", 4, 4, .ro, 0, 0, 0xFFFFFFFF⟩, ⟨"IMAGE", 3, 3, .ro, 0, 0, 0xFFFFFFFF⟩, ⟨"SOFTWARE", 2, 2, .ro, 0, 0, 0xFFFFFFFF⟩, ⟨"BUTTON", 1, 1, .ro, 0, 0, 0xFFFFFFFF⟩, ⟨"POR", 0, 0, .ro, 0, 0, 0xFFFFFFFF⟩]⟩,
   ⟨"MC_BUTTON", 0xE0000020, 1, 0x4, .agreed, false,
     [⟨"IGNORED", 1, 1, .ro, 0, 0, 0xFFFFFFFF⟩, ⟨"PRESSED", 0, 0, .ro, 0, 0, 0xFFFFFFFF⟩]⟩,
   ⟨"MC_BOOTTIME", 0xE0000024, 1, 0x4, .agreed, false,
     [⟨"TO_RUN", 31, 16, .ro, 0, 0, 0xFFFFFFFF⟩, ⟨"TO_STOP", 15, 0, .ro, 0, 0, 0xFFFFFFFF⟩]⟩,
   ⟨"MC_RESTART", 0xE0000028, 1, 0x4, .agreed, false,
     [⟨"COLD_REASON", 15, 8, .ro, 0, 0, 0xFFFFFFFF⟩, ⟨"TYPE", 1, 0, .ro, 0, 0, 0xFFFFFFFF⟩]⟩,
   ⟨"MC_WAKECFG", 0xE000002C, 1, 0x4, .agreed, false,
     [⟨"RESUME_RUN", 5, 5, .ro, 0, 0, 0xFFFFFFFF⟩, ⟨"TO_STOP", 4, 4, .rwl, 0, 0, 0xFFFFFFFF⟩, ⟨"TIMER_EN", 3, 3, .rwl, 0, 0, 0xFFFFFFFF⟩, ⟨"PHY3_EN", 2, 2, .rwl, 0, 0, 0xFFFFFFFF⟩, ⟨"PHY1_EN", 1, 1, .rwl, 1, 0, 0xFFFFFFFF⟩, ⟨"WAKEN_EN", 0, 0, .rwl, 1, 0, 0xFFFFFFFF⟩]⟩]

/-- Registers of the MC_ block (R21), from 02_modes_and_start.md, 11_application_execution.md. -/
def regsMc1 : List RegRow :=
  [
   ⟨"MC_WAKESEC_LO", 0xE0000030, 1, 0x4, .agreed, false,
     [⟨"SEC_LO", 31, 0, .rwl, 0, 0, 0xFFFFFFFF⟩]⟩,
   ⟨"MC_WAKESEC_HI", 0xE0000034, 1, 0x4, .agreed, false,
     [⟨"SEC_HI", 31, 0, .rwl, 0, 0, 0xFFFFFFFF⟩]⟩,
   ⟨"MC_WAKESRC", 0xE0000038, 1, 0x4, .agreed, false,
     [⟨"WAKE_MS", 31, 16, .ro, 0, 0, 0xFFFFFFFF⟩, ⟨"TIMER", 3, 3, .w1c, 0, 0, 0xFFFFFFFF⟩, ⟨"PHY3", 2, 2, .w1c, 0, 0, 0xFFFFFFFF⟩, ⟨"PHY1", 1, 1, .w1c, 0, 0, 0xFFFFFFFF⟩, ⟨"WAKEN", 0, 0, .w1c, 0, 0, 0xFFFFFFFF⟩]⟩,
   ⟨"MC_BOOTDROP", 0xE0000040, 4, 0x4, .agreed, false,
     [⟨"COUNT", 31, 0, .ro, 0, 0, 0xFFFFFFFF⟩]⟩,
   ⟨"MC_BOOTARP", 0xE0000050, 1, 0x4, .agreed, false,
     [⟨"ICMP_DROP", 31, 16, .ro, 0, 0, 0xFFFFFFFF⟩, ⟨"ARP_DROP", 15, 0, .ro, 0, 0, 0xFFFFFFFF⟩]⟩,
   ⟨"MC_APPSTAT", 0xE0000100, 1, 0x4, .agreed, false,
     [⟨"STATE", 19, 16, .ro, 0, 0, 0xFFFFFFFF⟩, ⟨"FBS", 10, 0, .ro, 0, 0, 0xFFFFFFFF⟩]⟩,
   ⟨"MC_CYCNUM_LO", 0xE0000104, 1, 0x4, .agreed, false,
     [⟨"NUM", 31, 0, .ro, 0, 0, 0xFFFFFFFF⟩]⟩,
   ⟨"MC_CYCNUM_HI", 0xE0000108, 1, 0x4, .agreed, false,
     [⟨"NUM", 31, 0, .ro, 0, 0, 0xFFFFFFFF⟩]⟩,
   ⟨"MC_CYCTIME", 0xE000010C, 1, 0x4, .agreed, false,
     [⟨"MAX", 31, 16, .ro, 0, 0, 0xFFFFFFFF⟩, ⟨"LAST", 15, 0, .ro, 0, 0, 0xFFFFFFFF⟩]⟩,
   ⟨"MC_CYCLIM", 0xE0000110, 1, 0x4, .agreed, false,
     [⟨"LIMIT_MS", 7, 0, .ro, 100, 0, 0xFFFFFFFF⟩]⟩,
   ⟨"MC_CYCWAIT", 0xE0000114, 1, 0x4, .agreed, false,
     [⟨"COMMIT", 31, 16, .ro, 0, 0, 0xFFFFFFFF⟩, ⟨"RELEASE", 15, 0, .ro, 0, 0, 0xFFFFFFFF⟩]⟩,
   ⟨"MC_APPFAULT", 0xE0000118, 1, 0x4, .agreed, false,
     [⟨"MASTS", 19, 16, .ro, 0, 0, 0xFFFFFFFF⟩, ⟨"CODE", 15, 0, .ro, 0, 0, 0xFFFFFFFF⟩]⟩]

/-- Registers of the MC_ block (R21), from 11_application_execution.md, 18_electrical_mechanical.md. -/
def regsMc2 : List RegRow :=
  [
   ⟨"MC_APPFAULTPC", 0xE000011C, 1, 0x4, .agreed, false,
     [⟨"ADDR", 31, 0, .ro, 0, 0, 0xFFFFFFFF⟩]⟩,
   ⟨"MC_FORCE", 0xE0000120, 1, 0x4, .agreed, false,
     [⟨"SETS", 31, 16, .ro, 0, 0, 0xFFFFFFFF⟩, ⟨"COUNT", 8, 0, .ro, 0, 0, 0xFFFFFFFF⟩]⟩,
   ⟨"MC_OLC", 0xE0000124, 1, 0x4, .agreed, false,
     [⟨"APPLIED", 31, 16, .ro, 0, 0, 0xFFFFFFFF⟩, ⟨"PENDING", 11, 8, .ro, 0, 0, 0xFFFFFFFF⟩, ⟨"LAST", 7, 0, .ro, 0, 0, 0xFFFFFFFF⟩]⟩,
   ⟨"MC_RETAIN", 0xE0000128, 1, 0x4, .perMast, false,
     [⟨"WRITES", 31, 16, .ro, 0, 0, 0xFFFFFFFF⟩, ⟨"FAILED", 3, 3, .ro, 0, 0, 0xFFFFFFFF⟩, ⟨"BUSY", 2, 2, .ro, 0, 0, 0xFFFFFFFF⟩, ⟨"BANK", 1, 1, .ro, 0, 0, 0xFFFFFFFF⟩, ⟨"VALID", 0, 0, .ro, 0, 0, 0xFFFFFFFF⟩]⟩,
   ⟨"MC_STATIONS", 0xE000012C, 1, 0x4, .agreed, false,
     [⟨"LOSSES", 31, 16, .ro, 0, 0, 0xFFFFFFFF⟩, ⟨"LOST", 15, 8, .ro, 0, 0, 0xFFFFFFFF⟩, ⟨"CONFIGURED", 7, 0, .ro, 0, 0, 0xFFFFFFFF⟩]⟩,
   ⟨"MC_SUPPLY", 0xE0000200, 1, 0x4, .agreed, false,
     [⟨"MIN", 31, 16, .ro, 65535, 0, 0xFFFFFFFF⟩, ⟨"VOLT", 15, 0, .ro, 0, 0, 0xFFFFFFFF⟩]⟩,
   ⟨"MC_SUPPLYEV", 0xE0000204, 1, 0x4, .agreed, false,
     [⟨"LOW", 31, 24, .ro, 0, 0, 0xFFFFFFFF⟩, ⟨"RIDDEN", 23, 16, .ro, 0, 0, 0xFFFFFFFF⟩, ⟨"LONGEST_US", 15, 0, .ro, 0, 0, 0xFFFFFFFF⟩]⟩,
   ⟨"MC_HOLDUP", 0xE0000208, 1, 0x4, .agreed, false,
     [⟨"FAIL", 17, 17, .ro, 0, 0, 0xFFFFFFFF⟩, ⟨"READY", 16, 16, .ro, 0, 0, 0xFFFFFFFF⟩, ⟨"STORE", 15, 0, .ro, 0, 0, 0xFFFFFFFF⟩]⟩,
   ⟨"MC_IFTEMP", 0xE000020C, 1, 0x4, .agreed, false,
     [⟨"RAIL2", 31, 16, .ro, 0, 0, 0xFFFFFFFF⟩, ⟨"RAIL1", 15, 0, .ro, 0, 0, 0xFFFFFFFF⟩]⟩]

/-- All registers of the MC_ block. -/
def regsMc : List RegRow := regsMc0 ++ regsMc1 ++ regsMc2

/-- Registers of the LM_ block (R21), from 05_lane_redundancy.md. -/
def regsLm0 : List RegRow :=
  [
   ⟨"LM_STAT", 0xE0010000, 1, 0x4, .agreed, false,
     [⟨"JOIN_PHASE", 27, 24, .ro, 0, 0, 0xFFFFFFFF⟩, ⟨"ISOLATED", 23, 20, .ro, 0, 0, 0xFFFFFFFF⟩, ⟨"ACTIVE", 19, 16, .ro, 7, 0, 0xFFFFFFFF⟩, ⟨"SPARE", 12, 12, .ro, 1, 0, 0xFFFFFFFF⟩, ⟨"POS_C", 9, 8, .ro, 2, 0, 0xFFFFFFFF⟩, ⟨"POS_B", 7, 6, .ro, 1, 0, 0xFFFFFFFF⟩, ⟨"POS_A", 5, 4, .ro, 0, 0, 0xFFFFFFFF⟩, ⟨"LANE", 1, 0, .ro, 0, 0, 0xFFFFFFFF⟩]⟩,
   ⟨"LM_SELF", 0xE0010004, 1, 0x4, .perMast, false,
     [⟨"POSITION", 5, 4, .ro, 0, 0, 0xFFFFFFFF⟩, ⟨"MAST", 1, 0, .ro, 0, 0, 0xFFFFFFFF⟩]⟩,
   ⟨"LM_HBSTAT", 0xE0010008, 1, 0x4, .perMast, false,
     [⟨"PEER", 15, 0, .ro, 0, 0, 0xFFFFFFFF⟩]⟩,
   ⟨"LM_HBMISS", 0xE0010010, 4, 0x4, .perMast, false,
     [⟨"HB2", 31, 16, .ro, 0, 0, 0xFFFFFFFF⟩, ⟨"HB1", 15, 0, .ro, 0, 0, 0xFFFFFFFF⟩]⟩,
   ⟨"LM_CMTCYC", 0xE0010020, 1, 0x4, .agreed, false,
     [⟨"CYCLE", 31, 0, .ro, 0, 0, 0xFFFFFFFF⟩]⟩,
   ⟨"LM_CMTDIG_LO", 0xE0010024, 1, 0x4, .agreed, false,
     [⟨"DIG_LO", 31, 0, .ro, 0, 0, 0xFFFFFFFF⟩]⟩,
   ⟨"LM_CMTDIG_HI", 0xE0010028, 1, 0x4, .agreed, false,
     [⟨"DIG_HI", 31, 0, .ro, 0, 0, 0xFFFFFFFF⟩]⟩,
   ⟨"LM_VOTE", 0xE001002C, 1, 0x4, .agreed, false,
     [⟨"NOCOMMIT", 31, 16, .ro, 0, 0, 0xFFFFFFFF⟩, ⟨"POS_C", 5, 4, .ro, 0, 0, 0xFFFFFFFF⟩, ⟨"POS_B", 3, 2, .ro, 0, 0, 0xFFFFFFFF⟩, ⟨"POS_A", 1, 0, .ro, 0, 0, 0xFFFFFFFF⟩]⟩,
   ⟨"LM_OWNER", 0xE0010030, 1, 0x4, .agreed, false,
     [⟨"PENDING", 23, 16, .ro, 0, 0, 0xFFFFFFFF⟩, ⟨"OWNER", 15, 0, .ro, 43332, 0, 0xFFFFFFFF⟩]⟩,
   ⟨"LM_OWNPREF", 0xE0010034, 1, 0x4, .agreed, false,
     [⟨"PREF", 15, 0, .rwl, 43332, 0, 0xFFFFFFFF⟩]⟩,
   ⟨"LM_TXABORT", 0xE0010040, 8, 0x4, .agreed, false,
     [⟨"UNCONFIRMED", 31, 16, .ro, 0, 0, 0xFFFFFFFF⟩, ⟨"MISMATCH", 15, 0, .ro, 0, 0, 0xFFFFFFFF⟩]⟩,
   ⟨"LM_HANDOVER", 0xE0010060, 1, 0x4, .agreed, false,
     [⟨"FORCED", 31, 24, .ro, 0, 0, 0xFFFFFFFF⟩, ⟨"NORMAL", 23, 16, .ro, 0, 0, 0xFFFFFFFF⟩, ⟨"LAST_FROM", 9, 8, .ro, 0, 0, 0xFFFFFFFF⟩, ⟨"LAST_UNIT", 7, 5, .ro, 0, 0, 0xFFFFFFFF⟩, ⟨"LAST_FORCED", 4, 4, .ro, 0, 0, 0xFFFFFFFF⟩, ⟨"LAST_TO", 1, 0, .ro, 0, 0, 0xFFFFFFFF⟩]⟩]

/-- Registers of the LM_ block (R21), from 05_lane_redundancy.md. -/
def regsLm1 : List RegRow :=
  [
   ⟨"LM_LOSS", 0xE0010064, 1, 0x4, .agreed, false,
     [⟨"COUNT", 31, 24, .ro, 0, 0, 0xFFFFFFFF⟩, ⟨"CAUSE", 15, 8, .ro, 0, 0, 0xFFFFFFFF⟩, ⟨"POSITION", 5, 4, .ro, 0, 0, 0xFFFFFFFF⟩, ⟨"MAST", 1, 0, .ro, 0, 0, 0xFFFFFFFF⟩]⟩,
   ⟨"LM_LOSSSEC", 0xE0010068, 1, 0x4, .agreed, false,
     [⟨"SEC", 31, 0, .ro, 0, 0, 0xFFFFFFFF⟩]⟩,
   ⟨"LM_LOSSNS", 0xE001006C, 1, 0x4, .agreed, false,
     [⟨"NSEC", 29, 0, .ro, 0, 0, 0xFFFFFFFF⟩]⟩,
   ⟨"LM_JOIN", 0xE0010070, 1, 0x4, .agreed, false,
     [⟨"ELAPSED", 31, 16, .ro, 0, 0, 0xFFFFFFFF⟩, ⟨"FAIL_REASON", 15, 8, .ro, 0, 0, 0xFFFFFFFF⟩, ⟨"TARGET", 5, 4, .ro, 0, 0, 0xFFFFFFFF⟩, ⟨"PHASE", 3, 0, .ro, 0, 0, 0xFFFFFFFF⟩]⟩,
   ⟨"LM_JOINSTAT", 0xE0010074, 1, 0x4, .agreed, false,
     [⟨"JOINS", 31, 24, .ro, 0, 0, 0xFFFFFFFF⟩, ⟨"FAILS", 23, 16, .ro, 0, 0, 0xFFFFFFFF⟩, ⟨"DEFERRED", 15, 8, .ro, 0, 0, 0xFFFFFFFF⟩, ⟨"FINAL_PAGES", 7, 0, .ro, 0, 0, 0xFFFFFFFF⟩]⟩,
   ⟨"LM_CTRL", 0xE0010078, 1, 0x4, .agreed, false,
     [⟨"SPARE_EN", 0, 0, .rwl, 1, 0, 0xFFFFFFFF⟩]⟩,
   ⟨"LM_JOINCTL", 0xE001007C, 1, 0x4, .perMast, false,
     [⟨"KEY", 31, 16, .wo, 0, 0, 0xFFFFFFFF⟩, ⟨"READY", 0, 0, .wo, 0, 0, 0xFFFFFFFF⟩]⟩,
   ⟨"LM_CKBASE", 0xE0010080, 7, 0x4, .agreed, false,
     [⟨"BASE", 31, 12, .rwl, 0, 0, 0xFFFFFFFF⟩]⟩,
   ⟨"LM_CKLEN", 0xE00100A0, 7, 0x4, .agreed, false,
     [⟨"PAGES", 10, 0, .rwl, 0, 0, 1008⟩]⟩,
   ⟨"LM_CKSTAT", 0xE00100C0, 1, 0x4, .agreed, false,
     [⟨"DIRTY_MAX", 31, 16, .ro, 0, 0, 0xFFFFFFFF⟩, ⟨"TOTAL", 10, 0, .ro, 16, 0, 0xFFFFFFFF⟩]⟩,
   ⟨"LM_FINALMAX", 0xE00100C4, 1, 0x4, .agreed, false,
     [⟨"PAGES", 15, 0, .ro, 32, 0, 0xFFFFFFFF⟩]⟩,
   ⟨"LM_CYCEND", 0xE00100C8, 1, 0x4, .perMast, false,
     [⟨"CYCLE", 31, 0, .wo, 0, 0, 0xFFFFFFFF⟩]⟩]

/-- Registers of the LM_ block (R21), from 05_lane_redundancy.md. -/
def regsLm2 : List RegRow :=
  [
   ⟨"LM_CYCGO", 0xE00100CC, 1, 0x4, .perMast, false,
     [⟨"GO", 0, 0, .ro, 1, 0, 0xFFFFFFFF⟩]⟩,
   ⟨"LM_CKCYC", 0xE00100D0, 1, 0x4, .agreed, false,
     [⟨"CYCLE", 31, 0, .ro, 0, 0, 0xFFFFFFFF⟩]⟩]

/-- All registers of the LM_ block. -/
def regsLm : List RegRow := regsLm0 ++ regsLm1 ++ regsLm2

/-- Registers of the TD_ block (R21), from 04_masts_and_triads.md. -/
def regsTd0 : List RegRow :=
  [
   ⟨"TD_ID", 0xE0020000, 1, 0x4, .agreed, false,
     [⟨"CORES", 31, 24, .ro, 3, 0, 0xFFFFFFFF⟩, ⟨"STAGGER1", 23, 16, .ro, 2, 0, 0xFFFFFFFF⟩, ⟨"STAGGER2", 15, 8, .ro, 4, 0, 0xFFFFFFFF⟩, ⟨"REV", 7, 0, .ro, 1, 0, 0xFFFFFFFF⟩]⟩,
   ⟨"TD_CTRL", 0xE0020004, 1, 0x4, .agreed, false,
     [⟨"RESYNC_LIMIT", 4, 0, .rwl, 4, 2, 16⟩]⟩,
   ⟨"TD_INJECT", 0xE0020008, 1, 0x4, .perMast, true,
     [⟨"KEY", 31, 24, .wo, 0, 0, 0xFFFFFFFF⟩, ⟨"MAST", 17, 16, .wo, 0, 0, 0xFFFFFFFF⟩, ⟨"TRIAD", 12, 12, .wo, 0, 0, 0xFFFFFFFF⟩, ⟨"CORE", 9, 8, .wo, 0, 0, 0xFFFFFFFF⟩, ⟨"KIND", 3, 0, .wo, 0, 0, 0xFFFFFFFF⟩]⟩,
   ⟨"TD_STAT", 0xE002000C, 1, 0x4, .perMast, false,
     [⟨"SILREC_VALID", 16, 16, .ro, 0, 0, 0xFFFFFFFF⟩, ⟨"OUT_C", 11, 10, .ro, 0, 0, 0xFFFFFFFF⟩, ⟨"STATE_C", 9, 8, .ro, 0, 0, 0xFFFFFFFF⟩, ⟨"OUT_P", 3, 2, .ro, 0, 0, 0xFFFFFFFF⟩, ⟨"STATE_P", 1, 0, .ro, 0, 0, 0xFFFFFFFF⟩]⟩,
   ⟨"TD_CLKSTAT", 0xE0020010, 1, 0x4, .perMast, false,
     [⟨"RC_OK", 2, 2, .ro, 1, 0, 0xFFFFFFFF⟩, ⟨"XTAL_OK", 1, 1, .ro, 1, 0, 0xFFFFFFFF⟩, ⟨"PLL_LOCK", 0, 0, .ro, 1, 0, 0xFFFFFFFF⟩]⟩,
   ⟨"TD_HEALTH", 0xE0020014, 1, 0x4, .perMast, false,
     [⟨"VDDR_OK", 19, 19, .ro, 1, 0, 0xFFFFFFFF⟩, ⟨"VIO_OK", 18, 18, .ro, 1, 0, 0xFFFFFFFF⟩, ⟨"VCORE_OK", 17, 17, .ro, 1, 0, 0xFFFFFFFF⟩, ⟨"TEMP_WARN", 16, 16, .ro, 0, 0, 0xFFFFFFFF⟩, ⟨"TEMP", 15, 0, .ro, 0, 0, 0xFFFFFFFF⟩]⟩,
   ⟨"TD_FENCE", 0xE0020018, 1, 0x4, .agreed, false,
     [⟨"DRAM", 22, 16, .rwl, 0, 0, 64⟩, ⟨"SRAM", 7, 0, .rwl, 0, 0, 178⟩]⟩,
   ⟨"TD_RESYNC", 0xE0020020, 4, 0x4, .agreed, false,
     [⟨"C", 31, 16, .ro, 0, 0, 0xFFFFFFFF⟩, ⟨"P", 15, 0, .ro, 0, 0, 0xFFFFFFFF⟩]⟩,
   ⟨"TD_LASTRS", 0xE0020030, 1, 0x4, .agreed, false,
     [⟨"DURATION", 31, 16, .ro, 0, 0, 0xFFFFFFFF⟩, ⟨"KIND", 15, 12, .ro, 0, 0, 0xFFFFFFFF⟩, ⟨"WHO", 11, 0, .ro, 0, 0, 0xFFFFFFFF⟩]⟩,
   ⟨"TD_RSFAIL", 0xE0020034, 1, 0x4, .agreed, false,
     [⟨"J", 31, 24, .ro, 0, 0, 0xFFFFFFFF⟩, ⟨"C", 23, 16, .ro, 0, 0, 0xFFFFFFFF⟩, ⟨"B", 15, 8, .ro, 0, 0, 0xFFFFFFFF⟩, ⟨"A", 7, 0, .ro, 0, 0, 0xFFFFFFFF⟩]⟩,
   ⟨"TD_INJSTAT", 0xE0020038, 1, 0x4, .agreed, false,
     [⟨"RESULT", 18, 16, .ro, 0, 0, 0xFFFFFFFF⟩, ⟨"LAST", 15, 0, .ro, 0, 0, 0xFFFFFFFF⟩]⟩,
   ⟨"TD_TEMPALL", 0xE002003C, 1, 0x4, .agreed, false,
     [⟨"J", 31, 24, .ro, 0, 0, 0xFFFFFFFF⟩, ⟨"C", 23, 16, .ro, 0, 0, 0xFFFFFFFF⟩, ⟨"B", 15, 8, .ro, 0, 0, 0xFFFFFFFF⟩, ⟨"A", 7, 0, .ro, 0, 0, 0xFFFFFFFF⟩]⟩]

/-- Registers of the TD_ block (R21), from 04_masts_and_triads.md. -/
def regsTd1 : List RegRow :=
  [
   ⟨"TD_SILREC", 0xE0020040, 8, 0x4, .perMast, false,
     [⟨"WORD", 31, 0, .ro, 0, 0, 0xFFFFFFFF⟩]⟩,
   ⟨"TD_SILCLR", 0xE0020060, 1, 0x4, .perMast, false,
     [⟨"KEY", 31, 16, .wo, 0, 0, 0xFFFFFFFF⟩]⟩]

/-- All registers of the TD_ block. -/
def regsTd : List RegRow := regsTd0 ++ regsTd1

/-- Registers of the MI_ block (R21), from 15_memory_integrity.md. -/
def regsMi0 : List RegRow :=
  [
   ⟨"MI_STAT", 0xE0030000, 1, 0x4, .perMast, false,
     [⟨"DRAM_RUN", 2, 2, .ro, 0, 0, 0xFFFFFFFF⟩, ⟨"SRAM_RUN", 1, 1, .ro, 0, 0, 0xFFFFFFFF⟩, ⟨"SELFTEST_OK", 0, 0, .ro, 0, 0, 0xFFFFFFFF⟩]⟩,
   ⟨"MI_SCRUBSRAM", 0xE0030004, 1, 0x4, .agreed, false,
     [⟨"PASS_S", 9, 0, .rwl, 8, 1, 600⟩]⟩,
   ⟨"MI_SCRUBDRAM", 0xE0030008, 1, 0x4, .agreed, false,
     [⟨"PASS_S", 16, 0, .rwl, 900, 60, 86400⟩]⟩,
   ⟨"MI_SRAMPOS", 0xE003000C, 1, 0x4, .perMast, false,
     [⟨"ADDR", 31, 3, .ro, 0, 0, 0xFFFFFFFF⟩]⟩,
   ⟨"MI_DRAMPOS", 0xE0030010, 1, 0x4, .perMast, false,
     [⟨"ADDR", 31, 3, .ro, 0, 0, 0xFFFFFFFF⟩]⟩,
   ⟨"MI_PASSES", 0xE0030014, 1, 0x4, .perMast, false,
     [⟨"SRAM", 31, 16, .ro, 0, 0, 0xFFFFFFFF⟩, ⟨"DRAM", 15, 0, .ro, 0, 0, 0xFFFFFFFF⟩]⟩,
   ⟨"MI_CESRAM", 0xE0030018, 1, 0x4, .perMast, false,
     [⟨"COUNT", 31, 0, .ro, 0, 0, 0xFFFFFFFF⟩]⟩,
   ⟨"MI_CEDRAM", 0xE003001C, 1, 0x4, .perMast, false,
     [⟨"COUNT", 31, 0, .ro, 0, 0, 0xFFFFFFFF⟩]⟩,
   ⟨"MI_CEOTHER", 0xE0030020, 1, 0x4, .perMast, false,
     [⟨"L2", 31, 24, .ro, 0, 0, 0xFFFFFFFF⟩, ⟨"MRAM", 23, 16, .ro, 0, 0, 0xFFFFFFFF⟩, ⟨"FLASH", 15, 8, .ro, 0, 0, 0xFFFFFFFF⟩]⟩,
   ⟨"MI_LASTCE", 0xE0030024, 1, 0x4, .perMast, false,
     [⟨"ADDR", 31, 0, .ro, 0, 0, 0xFFFFFFFF⟩]⟩,
   ⟨"MI_LASTSYN", 0xE0030028, 1, 0x4, .perMast, false,
     [⟨"MEM", 31, 28, .ro, 0, 0, 0xFFFFFFFF⟩, ⟨"SOURCE", 27, 24, .ro, 0, 0, 0xFFFFFFFF⟩, ⟨"BIT", 7, 0, .ro, 0, 0, 0xFFFFFFFF⟩]⟩,
   ⟨"MI_REPEAT", 0xE003002C, 1, 0x4, .perMast, false,
     [⟨"WORDS", 31, 16, .ro, 0, 0, 0xFFFFFFFF⟩]⟩]

/-- Registers of the MI_ block (R21), from 15_memory_integrity.md. -/
def regsMi1 : List RegRow :=
  [
   ⟨"MI_SELFTEST", 0xE0030030, 1, 0x4, .perMast, false,
     [⟨"PASS", 4, 0, .ro, 0, 0, 0xFFFFFFFF⟩]⟩,
   ⟨"MI_INJECT", 0xE0030034, 1, 0x4, .perMast, true,
     [⟨"KEY", 31, 24, .wo, 0, 0, 0xFFFFFFFF⟩, ⟨"MAST", 17, 16, .wo, 0, 0, 0xFFFFFFFF⟩, ⟨"MEM", 12, 12, .wo, 0, 0, 0xFFFFFFFF⟩, ⟨"BIT", 11, 8, .wo, 0, 0, 0xFFFFFFFF⟩, ⟨"KIND", 1, 0, .wo, 0, 0, 0xFFFFFFFF⟩]⟩,
   ⟨"MI_INJADDR", 0xE0030038, 1, 0x4, .agreed, true,
     [⟨"ADDR", 31, 3, .rwl, 0, 0, 0xFFFFFFFF⟩]⟩,
   ⟨"MI_INJSTAT", 0xE003003C, 1, 0x4, .agreed, false,
     [⟨"RESULT", 2, 0, .ro, 0, 0, 0xFFFFFFFF⟩]⟩,
   ⟨"MI_CEALL", 0xE0030040, 1, 0x4, .agreed, false,
     [⟨"J", 31, 24, .ro, 0, 0, 0xFFFFFFFF⟩, ⟨"C", 23, 16, .ro, 0, 0, 0xFFFFFFFF⟩, ⟨"B", 15, 8, .ro, 0, 0, 0xFFFFFFFF⟩, ⟨"A", 7, 0, .ro, 0, 0, 0xFFFFFFFF⟩]⟩]

/-- All registers of the MI_ block. -/
def regsMi : List RegRow := regsMi0 ++ regsMi1

/-- Registers of the TB_ block (R21), from 07_timebase_and_position.md. -/
def regsTb0 : List RegRow :=
  [
   ⟨"TB_STAT", 0xE0040000, 1, 0x4, .agreed, false,
     [⟨"GMCHG", 23, 16, .ro, 0, 0, 0xFFFFFFFF⟩, ⟨"ACQ_DONE", 10, 10, .ro, 0, 0, 0xFFFFFFFF⟩, ⟨"PORT", 9, 8, .ro, 0, 0, 0xFFFFFFFF⟩, ⟨"SRC", 6, 4, .ro, 0, 0, 0xFFFFFFFF⟩, ⟨"STATE", 2, 0, .ro, 0, 0, 0xFFFFFFFF⟩]⟩,
   ⟨"TB_STEPLIM", 0xE0040004, 1, 0x4, .agreed, true,
     [⟨"LIMIT_US", 19, 0, .rwl, 0, 1, 1000000⟩]⟩,
   ⟨"TB_RATE", 0xE0040008, 1, 0x4, .agreed, true,
     [⟨"PPB", 31, 0, .rw, 0, 0, 0xFFFFFFFF⟩]⟩,
   ⟨"TB_OFFSET", 0xE004000C, 1, 0x4, .perMast, true,
     [⟨"NS", 31, 0, .wo, 0, 0, 0xFFFFFFFF⟩]⟩,
   ⟨"TB_SLEWREM", 0xE0040010, 1, 0x4, .agreed, false,
     [⟨"NS", 31, 0, .ro, 0, 0, 0xFFFFFFFF⟩]⟩,
   ⟨"TB_STEPNS", 0xE0040014, 1, 0x4, .agreed, true,
     [⟨"VALUE", 31, 0, .rw, 0, 0, 0xFFFFFFFF⟩]⟩,
   ⟨"TB_STEPSLO", 0xE0040018, 1, 0x4, .agreed, true,
     [⟨"VALUE", 31, 0, .rw, 0, 0, 0xFFFFFFFF⟩]⟩,
   ⟨"TB_STEPSHI", 0xE004001C, 1, 0x4, .agreed, true,
     [⟨"VALUE", 31, 0, .rw, 0, 0, 0xFFFFFFFF⟩]⟩,
   ⟨"TB_STEPCMD", 0xE0040020, 1, 0x4, .perMast, true,
     [⟨"KEY", 31, 16, .wo, 0, 0, 0xFFFFFFFF⟩, ⟨"KIND", 1, 0, .wo, 0, 0, 0xFFFFFFFF⟩]⟩,
   ⟨"TB_NOWNS", 0xE0040024, 1, 0x4, .perMast, false,
     [⟨"VALUE", 31, 0, .ro, 0, 0, 0xFFFFFFFF⟩]⟩,
   ⟨"TB_NOWSLO", 0xE0040028, 1, 0x4, .perMast, false,
     [⟨"VALUE", 31, 0, .ro, 0, 0, 0xFFFFFFFF⟩]⟩,
   ⟨"TB_NOWSHI", 0xE004002C, 1, 0x4, .perMast, false,
     [⟨"VALUE", 31, 0, .ro, 0, 0, 0xFFFFFFFF⟩]⟩]

/-- Registers of the TB_ block (R21), from 07_timebase_and_position.md. -/
def regsTb1 : List RegRow :=
  [
   ⟨"TB_INCR_INT", 0xE0040030, 1, 0x4, .perMast, false,
     [⟨"NS", 7, 0, .ro, 4, 0, 0xFFFFFFFF⟩]⟩,
   ⟨"TB_INCR_FRAC", 0xE0040034, 1, 0x4, .perMast, false,
     [⟨"FRAC", 31, 0, .ro, 0, 0, 0xFFFFFFFF⟩]⟩,
   ⟨"TB_LANE", 0xE0040038, 1, 0x4, .perMast, false,
     [⟨"TRIM", 31, 16, .ro, 0, 0, 0xFFFFFFFF⟩, ⟨"OFS", 15, 0, .ro, 0, 0, 0xFFFFFFFF⟩]⟩,
   ⟨"TB_BAND", 0xE004003C, 1, 0x4, .agreed, false,
     [⟨"EXCESS", 31, 16, .ro, 0, 0, 0xFFFFFFFF⟩, ⟨"OUT", 3, 0, .ro, 0, 0, 0xFFFFFFFF⟩]⟩,
   ⟨"TB_AINUM_LO", 0xE0040040, 1, 0x4, .agreed, false,
     [⟨"NUM", 31, 0, .ro, 0, 0, 0xFFFFFFFF⟩]⟩,
   ⟨"TB_AINUM_HI", 0xE0040044, 1, 0x4, .agreed, false,
     [⟨"NUM", 31, 0, .ro, 0, 0, 0xFFFFFFFF⟩]⟩,
   ⟨"TB_AICYCLE", 0xE0040048, 1, 0x4, .agreed, false,
     [⟨"CYCLE_US", 14, 0, .ro, 2000, 0, 0xFFFFFFFF⟩]⟩,
   ⟨"TB_AIOFFSET", 0xE004004C, 1, 0x4, .agreed, false,
     [⟨"OFFSET_NS", 24, 0, .ro, 0, 0, 0xFFFFFFFF⟩]⟩,
   ⟨"TB_AISTAT", 0xE0040050, 1, 0x4, .agreed, false,
     [⟨"LAST_US", 31, 16, .ro, 0, 0, 0xFFFFFFFF⟩, ⟨"COUNT", 15, 0, .ro, 0, 0, 0xFFFFFFFF⟩]⟩,
   ⟨"TB_HOLD", 0xE0040054, 1, 0x4, .agreed, false,
     [⟨"SEC", 31, 0, .ro, 0, 0, 0xFFFFFFFF⟩]⟩,
   ⟨"TB_AIBIAS_LO", 0xE0040058, 1, 0x4, .agreed, false,
     [⟨"BIAS", 31, 0, .ro, 0, 0, 0xFFFFFFFF⟩]⟩,
   ⟨"TB_AIBIAS_HI", 0xE004005C, 1, 0x4, .agreed, false,
     [⟨"BIAS", 31, 0, .ro, 0, 0, 0xFFFFFFFF⟩]⟩]

/-- Registers of the TB_ block (R21), from 07_timebase_and_position.md. -/
def regsTb2 : List RegRow :=
  [
   ⟨"TB_TSQSTAT", 0xE0040100, 4, 0x20, .perMast, false,
     [⟨"OVFCNT", 31, 16, .ro, 0, 0, 0xFFFFFFFF⟩, ⟨"OVF", 8, 8, .w1c, 0, 0, 0xFFFFFFFF⟩, ⟨"COUNT", 4, 0, .ro, 0, 0, 0xFFFFFFFF⟩]⟩,
   ⟨"TB_TSQPOP", 0xE0040104, 4, 0x20, .perMast, false,
     [⟨"VALID", 31, 31, .ro, 0, 0, 0xFFFFFFFF⟩, ⟨"ID", 15, 0, .ro, 0, 0, 0xFFFFFFFF⟩]⟩,
   ⟨"TB_TSQNS", 0xE0040108, 4, 0x20, .perMast, false,
     [⟨"VALUE", 31, 0, .ro, 0, 0, 0xFFFFFFFF⟩]⟩,
   ⟨"TB_TSQSLO", 0xE004010C, 4, 0x20, .perMast, false,
     [⟨"VALUE", 31, 0, .ro, 0, 0, 0xFFFFFFFF⟩]⟩,
   ⟨"TB_TSQSHI", 0xE0040110, 4, 0x20, .perMast, false,
     [⟨"VALUE", 31, 0, .ro, 0, 0, 0xFFFFFFFF⟩]⟩,
   ⟨"TB_POSLO", 0xE0040200, 2, 0x20, .perMast, false,
     [⟨"POS", 31, 0, .ro, 0, 0, 0xFFFFFFFF⟩]⟩,
   ⟨"TB_POSHI", 0xE0040204, 2, 0x20, .perMast, false,
     [⟨"POS", 15, 0, .ro, 0, 0, 0xFFFFFFFF⟩]⟩,
   ⟨"TB_AXSTAT", 0xE0040208, 2, 0x20, .agreed, false,
     [⟨"QERR", 31, 16, .ro, 0, 0, 0xFFFFFFFF⟩, ⟨"REPAIRS", 15, 8, .ro, 0, 0, 0xFFFFFFFF⟩, ⟨"GAP", 4, 4, .w1c, 0, 0, 0xFFFFFFFF⟩, ⟨"OVERRATE", 3, 3, .w1c, 0, 0, 0xFFFFFFFF⟩, ⟨"DIR", 1, 0, .ro, 0, 0, 0xFFFFFFFF⟩]⟩,
   ⟨"TB_EDGES", 0xE004020C, 2, 0x20, .agreed, false,
     [⟨"COUNT", 31, 0, .ro, 0, 0, 0xFFFFFFFF⟩]⟩,
   ⟨"TB_PQCTL", 0xE0040240, 1, 0x4, .perMast, false,
     [⟨"GO", 31, 31, .wo, 0, 0, 0xFFFFFFFF⟩, ⟨"AXLE", 16, 16, .rw, 0, 0, 0xFFFFFFFF⟩, ⟨"RESULT", 1, 0, .ro, 0, 0, 0xFFFFFFFF⟩]⟩,
   ⟨"TB_PQSEC", 0xE0040244, 1, 0x4, .perMast, false,
     [⟨"VALUE", 31, 0, .rw, 0, 0, 0xFFFFFFFF⟩]⟩,
   ⟨"TB_PQNS", 0xE0040248, 1, 0x4, .perMast, false,
     [⟨"VALUE", 31, 0, .rw, 0, 0, 0xFFFFFFFF⟩]⟩]

/-- Registers of the TB_ block (R21), from 07_timebase_and_position.md. -/
def regsTb3 : List RegRow :=
  [
   ⟨"TB_PQRESLO", 0xE004024C, 1, 0x4, .perMast, false,
     [⟨"POS", 31, 0, .ro, 0, 0, 0xFFFFFFFF⟩]⟩,
   ⟨"TB_PQRESHI", 0xE0040250, 1, 0x4, .perMast, false,
     [⟨"POS", 31, 0, .ro, 0, 0, 0xFFFFFFFF⟩]⟩,
   ⟨"TB_CMPFIRED_LO", 0xE0040300, 1, 0x4, .agreed, false,
     [⟨"FIRED", 31, 0, .ro, 0, 0, 0xFFFFFFFF⟩]⟩,
   ⟨"TB_CMPFIRED_HI", 0xE0040304, 1, 0x4, .agreed, false,
     [⟨"FIRED", 31, 0, .ro, 0, 0, 0xFFFFFFFF⟩]⟩,
   ⟨"TB_CMPLOCAL_LO", 0xE0040308, 1, 0x4, .perMast, false,
     [⟨"FIRED", 31, 0, .w1c, 0, 0, 0xFFFFFFFF⟩]⟩,
   ⟨"TB_CMPLOCAL_HI", 0xE004030C, 1, 0x4, .perMast, false,
     [⟨"FIRED", 31, 0, .w1c, 0, 0, 0xFFFFFFFF⟩]⟩,
   ⟨"TB_CMPCFG", 0xE0041000, 64, 0x20, .perMast, false,
     [⟨"ARG", 31, 24, .rw, 0, 0, 0xFFFFFFFF⟩, ⟨"DMACH", 20, 16, .rw, 0, 0, 0xFFFFFFFF⟩, ⟨"PERIODIC", 15, 15, .rw, 0, 0, 0xFFFFFFFF⟩, ⟨"IRQ_C", 14, 14, .rw, 0, 0, 0xFFFFFFFF⟩, ⟨"IRQ_P", 13, 13, .rw, 0, 0, 0xFFFFFFFF⟩, ⟨"LOG", 12, 12, .rw, 0, 0, 0xFFFFFFFF⟩, ⟨"DBUS", 11, 11, .rw, 0, 0, 0xFFFFFFFF⟩, ⟨"OUT", 10, 10, .rw, 0, 0, 0xFFFFFFFF⟩, ⟨"DMA", 9, 9, .rw, 0, 0, 0xFFFFFFFF⟩, ⟨"EVT", 8, 8, .rw, 0, 0, 0xFFFFFFFF⟩, ⟨"PAST", 7, 7, .rw, 0, 0, 0xFFFFFFFF⟩, ⟨"DIR", 6, 5, .rw, 0, 0, 0xFFFFFFFF⟩, ⟨"REL", 4, 4, .rw, 0, 0, 0xFFFFFFFF⟩, ⟨"SRC", 3, 1, .rw, 0, 0, 0xFFFFFFFF⟩, ⟨"ARM", 0, 0, .rw, 0, 0, 0xFFFFFFFF⟩]⟩,
   ⟨"TB_CMPT0", 0xE0041004, 64, 0x20, .perMast, false,
     [⟨"VALUE", 31, 0, .rw, 0, 0, 0xFFFFFFFF⟩]⟩,
   ⟨"TB_CMPT1", 0xE0041008, 64, 0x20, .perMast, false,
     [⟨"VALUE", 31, 0, .rw, 0, 0, 0xFFFFFFFF⟩]⟩,
   ⟨"TB_CMPT2", 0xE004100C, 64, 0x20, .perMast, false,
     [⟨"VALUE", 31, 0, .rw, 0, 0, 0xFFFFFFFF⟩]⟩,
   ⟨"TB_CMPPER", 0xE0041010, 64, 0x20, .perMast, false,
     [⟨"NS", 31, 0, .rw, 0, 0, 0xFFFFFFFF⟩]⟩,
   ⟨"TB_CMPST", 0xE0041014, 64, 0x20, .perMast, false,
     [⟨"FIRES", 31, 16, .ro, 0, 0, 0xFFFFFFFF⟩, ⟨"REASON", 15, 8, .ro, 0, 0, 0xFFFFFFFF⟩, ⟨"STEPPED", 3, 3, .w1c, 0, 0, 0xFFFFFFFF⟩, ⟨"MISSED", 2, 2, .w1c, 0, 0, 0xFFFFFFFF⟩, ⟨"LATE", 1, 1, .w1c, 0, 0, 0xFFFFFFFF⟩, ⟨"FIRED", 0, 0, .w1c, 0, 0, 0xFFFFFFFF⟩]⟩]

/-- Registers of the TB_ block (R21), from 07_timebase_and_position.md. -/
def regsTb4 : List RegRow :=
  [
   ⟨"TB_CMPFNS", 0xE0041018, 64, 0x20, .perMast, false,
     [⟨"VALUE", 31, 0, .ro, 0, 0, 0xFFFFFFFF⟩]⟩,
   ⟨"TB_CMPFS", 0xE004101C, 64, 0x20, .perMast, false,
     [⟨"VALUE", 31, 0, .ro, 0, 0, 0xFFFFFFFF⟩]⟩]

/-- All registers of the TB_ block. -/
def regsTb : List RegRow := regsTb0 ++ regsTb1 ++ regsTb2 ++ regsTb3 ++ regsTb4

/-- Registers of the NP_ block (R21), from 12_network_ports.md. -/
def regsNp0 : List RegRow :=
  [
   ⟨"NP_CTRL", 0xE0050000, 4, 0x1000, .perMast, false,
     [⟨"RX_IRQ", 0, 0, .rw, 0, 0, 0xFFFFFFFF⟩]⟩,
   ⟨"NP_STAT", 0xE0050004, 4, 0x1000, .agreed, false,
     [⟨"DUPLEXFAIL", 31, 16, .ro, 0, 0, 0xFFFFFFFF⟩, ⟨"GCL", 7, 7, .ro, 0, 0, 0xFFFFFFFF⟩, ⟨"ENERGY", 6, 6, .ro, 0, 0, 0xFFFFFFFF⟩, ⟨"MODE", 5, 4, .ro, 0, 0, 0xFFFFFFFF⟩, ⟨"SPEED", 3, 2, .ro, 0, 0, 0xFFFFFFFF⟩, ⟨"ENABLED", 0, 0, .ro, 0, 0, 0xFFFFFFFF⟩]⟩,
   ⟨"NP_RXOK", 0xE0050008, 4, 0x1000, .agreed, false,
     [⟨"COUNT", 31, 0, .ro, 0, 0, 0xFFFFFFFF⟩]⟩,
   ⟨"NP_RXERR", 0xE005000C, 4, 0x1000, .agreed, false,
     [⟨"FCS", 31, 16, .ro, 0, 0, 0xFFFFFFFF⟩, ⟨"LENGTH", 15, 8, .ro, 0, 0, 0xFFFFFFFF⟩, ⟨"UNSUP", 7, 0, .ro, 0, 0, 0xFFFFFFFF⟩]⟩,
   ⟨"NP_RXTRUNC", 0xE0050010, 4, 0x1000, .agreed, false,
     [⟨"COUNT", 15, 0, .ro, 0, 0, 0xFFFFFFFF⟩]⟩,
   ⟨"NP_TRUNCLAST", 0xE0050014, 4, 0x1000, .agreed, false,
     [⟨"SOURCE", 31, 16, .ro, 0, 0, 0xFFFFFFFF⟩, ⟨"LEN", 15, 0, .ro, 0, 0, 0xFFFFFFFF⟩]⟩,
   ⟨"NP_PRP", 0xE0050018, 4, 0x1000, .agreed, false,
     [⟨"DUPS", 31, 16, .ro, 0, 0, 0xFFFFFFFF⟩, ⟨"WRONGLAN", 15, 0, .ro, 0, 0, 0xFFFFFFFF⟩]⟩,
   ⟨"NP_TXOK", 0xE005001C, 4, 0x1000, .agreed, false,
     [⟨"COUNT", 31, 0, .ro, 0, 0, 0xFFFFFFFF⟩]⟩,
   ⟨"NP_TXLATE", 0xE0050020, 4, 0x1000, .agreed, false,
     [⟨"LATE", 31, 16, .ro, 0, 0, 0xFFFFFFFF⟩, ⟨"GATE", 15, 0, .ro, 0, 0, 0xFFFFFFFF⟩]⟩,
   ⟨"NP_ADMIT", 0xE0050024, 4, 0x1000, .agreed, false,
     [⟨"PEAK", 31, 16, .ro, 0, 0, 0xFFFFFFFF⟩, ⟨"LAST", 15, 0, .ro, 0, 0, 0xFFFFFFFF⟩]⟩,
   ⟨"NP_RXCLS1_", 0xE0050100, 8, 0x4, .agreed, false,
     [⟨"COUNT", 31, 0, .ro, 0, 0, 0xFFFFFFFF⟩]⟩,
   ⟨"NP_POLDROP1_", 0xE0050120, 8, 0x4, .agreed, false,
     [⟨"COUNT", 31, 0, .ro, 0, 0, 0xFFFFFFFF⟩]⟩]

/-- Registers of the NP_ block (R21), from 12_network_ports.md. -/
def regsNp1 : List RegRow :=
  [
   ⟨"NP_ADMDROP1_", 0xE0050140, 8, 0x4, .agreed, false,
     [⟨"COUNT", 31, 0, .ro, 0, 0, 0xFFFFFFFF⟩]⟩,
   ⟨"NP_RXCLS2_", 0xE0051100, 8, 0x4, .agreed, false,
     [⟨"COUNT", 31, 0, .ro, 0, 0, 0xFFFFFFFF⟩]⟩,
   ⟨"NP_POLDROP2_", 0xE0051120, 8, 0x4, .agreed, false,
     [⟨"COUNT", 31, 0, .ro, 0, 0, 0xFFFFFFFF⟩]⟩,
   ⟨"NP_ADMDROP2_", 0xE0051140, 8, 0x4, .agreed, false,
     [⟨"COUNT", 31, 0, .ro, 0, 0, 0xFFFFFFFF⟩]⟩,
   ⟨"NP_RXCLS3_", 0xE0052100, 8, 0x4, .agreed, false,
     [⟨"COUNT", 31, 0, .ro, 0, 0, 0xFFFFFFFF⟩]⟩,
   ⟨"NP_POLDROP3_", 0xE0052120, 8, 0x4, .agreed, false,
     [⟨"COUNT", 31, 0, .ro, 0, 0, 0xFFFFFFFF⟩]⟩,
   ⟨"NP_ADMDROP3_", 0xE0052140, 8, 0x4, .agreed, false,
     [⟨"COUNT", 31, 0, .ro, 0, 0, 0xFFFFFFFF⟩]⟩,
   ⟨"NP_RXCLS4_", 0xE0053100, 8, 0x4, .agreed, false,
     [⟨"COUNT", 31, 0, .ro, 0, 0, 0xFFFFFFFF⟩]⟩,
   ⟨"NP_POLDROP4_", 0xE0053120, 8, 0x4, .agreed, false,
     [⟨"COUNT", 31, 0, .ro, 0, 0, 0xFFFFFFFF⟩]⟩,
   ⟨"NP_ADMDROP4_", 0xE0053140, 8, 0x4, .agreed, false,
     [⟨"COUNT", 31, 0, .ro, 0, 0, 0xFFFFFFFF⟩]⟩,
   ⟨"NP_PD", 0xE005F000, 1, 0x4, .agreed, false,
     [⟨"SUBS", 31, 16, .ro, 0, 0, 0xFFFFFFFF⟩, ⟨"PUBS", 15, 0, .ro, 0, 0, 0xFFFFFFFF⟩]⟩,
   ⟨"NP_PDREJ", 0xE005F004, 1, 0x4, .agreed, false,
     [⟨"TOPO", 31, 16, .ro, 0, 0, 0xFFFFFFFF⟩, ⟨"LENGTH", 15, 8, .ro, 0, 0, 0xFFFFFFFF⟩, ⟨"HCRC", 7, 0, .ro, 0, 0, 0xFFFFFFFF⟩]⟩]

/-- Registers of the NP_ block (R21), from 12_network_ports.md. -/
def regsNp2 : List RegRow :=
  [
   ⟨"NP_MD", 0xE005F008, 1, 0x4, .agreed, false,
     [⟨"REFUSED", 31, 16, .ro, 0, 0, 0xFFFFFFFF⟩, ⟨"OPEN", 8, 0, .ro, 0, 0, 0xFFFFFFFF⟩]⟩,
   ⟨"NP_SC", 0xE005F00C, 1, 0x4, .agreed, false,
     [⟨"TIMEOUTS", 31, 16, .ro, 0, 0, 0xFFFFFFFF⟩, ⟨"VALID", 15, 0, .ro, 0, 0, 0xFFFFFFFF⟩]⟩,
   ⟨"NP_SCREJ", 0xE005F010, 1, 0x4, .agreed, false,
     [⟨"CODE", 31, 16, .ro, 0, 0, 0xFFFFFFFF⟩, ⟨"OTHER", 15, 0, .ro, 0, 0, 0xFFFFFFFF⟩]⟩,
   ⟨"NP_ARP", 0xE005F014, 1, 0x4, .agreed, false,
     [⟨"CONFLICTS", 31, 24, .ro, 0, 0, 0xFFFFFFFF⟩, ⟨"ENTRIES", 8, 0, .ro, 0, 0, 0xFFFFFFFF⟩]⟩,
   ⟨"NP_ICMP", 0xE005F018, 1, 0x4, .agreed, false,
     [⟨"DROPPED", 31, 0, .ro, 0, 0, 0xFFFFFFFF⟩]⟩]

/-- All registers of the NP_ block. -/
def regsNp : List RegRow := regsNp0 ++ regsNp1 ++ regsNp2

/-- Registers of the FB_ block (R21), from 08_flanirax_door_bus.md. -/
def regsFb0 : List RegRow :=
  [
   ⟨"FB_CTRL", 0xE0060000, 2, 0x800, .perMast, false,
     [⟨"RX_IRQ", 3, 3, .rw, 0, 0, 0xFFFFFFFF⟩, ⟨"TEST", 1, 1, .rwl, 0, 0, 0xFFFFFFFF⟩, ⟨"PRESENT", 0, 0, .ro, 0, 0, 0xFFFFFFFF⟩]⟩,
   ⟨"FB_STAT", 0xE0060004, 2, 0x800, .agreed, false,
     [⟨"CYCLE", 31, 16, .ro, 0, 0, 0xFFFFFFFF⟩, ⟨"ACTIVE", 15, 8, .ro, 0, 0, 0xFFFFFFFF⟩, ⟨"YFAULT", 4, 4, .ro, 0, 0, 0xFFFFFFFF⟩, ⟨"XFAULT", 3, 3, .ro, 0, 0, 0xFFFFFFFF⟩, ⟨"STATE", 2, 0, .ro, 0, 0, 0xFFFFFFFF⟩]⟩,
   ⟨"FB_SCHED", 0xE0060008, 2, 0x800, .agreed, false,
     [⟨"SCHED_ID", 31, 0, .ro, 0, 0, 0xFFFFFFFF⟩]⟩,
   ⟨"FB_SHAPE", 0xE006000C, 2, 0x800, .agreed, false,
     [⟨"NODE_TIMEOUT", 31, 24, .ro, 0, 0, 0xFFFFFFFF⟩, ⟨"CLAIM_SLOT", 23, 16, .ro, 0, 0, 0xFFFFFFFF⟩, ⟨"N_NODES", 15, 8, .ro, 0, 0, 0xFFFFFFFF⟩, ⟨"N_SLOTS", 7, 0, .ro, 0, 0, 0xFFFFFFFF⟩]⟩,
   ⟨"FB_ERRX", 0xE0060010, 2, 0x800, .agreed, false,
     [⟨"CRC", 31, 16, .ro, 0, 0, 0xFFFFFFFF⟩, ⟨"LENGTH", 15, 8, .ro, 0, 0, 0xFFFFFFFF⟩, ⟨"ECHO", 7, 0, .ro, 0, 0, 0xFFFFFFFF⟩]⟩,
   ⟨"FB_ERRY", 0xE0060014, 2, 0x800, .agreed, false,
     [⟨"CRC", 31, 16, .ro, 0, 0, 0xFFFFFFFF⟩, ⟨"LENGTH", 15, 8, .ro, 0, 0, 0xFFFFFFFF⟩, ⟨"ECHO", 7, 0, .ro, 0, 0, 0xFFFFFFFF⟩]⟩,
   ⟨"FB_EMPTY", 0xE0060018, 2, 0x800, .agreed, false,
     [⟨"COUNT", 31, 0, .ro, 0, 0, 0xFFFFFFFF⟩]⟩,
   ⟨"FB_TIMING", 0xE006001C, 2, 0x800, .agreed, false,
     [⟨"EARLY", 31, 16, .ro, 0, 0, 0xFFFFFFFF⟩, ⟨"LATE", 15, 0, .ro, 0, 0, 0xFFFFFFFF⟩]⟩,
   ⟨"FB_STALE", 0xE0060020, 2, 0x800, .agreed, false,
     [⟨"FOREIGN", 31, 16, .ro, 0, 0, 0xFFFFFFFF⟩, ⟨"STALE", 15, 0, .ro, 0, 0, 0xFFFFFFFF⟩]⟩,
   ⟨"FB_MERGE", 0xE0060024, 2, 0x800, .agreed, false,
     [⟨"SINGLE", 31, 16, .ro, 0, 0, 0xFFFFFFFF⟩, ⟨"DIFFER", 15, 0, .ro, 0, 0, 0xFFFFFFFF⟩]⟩,
   ⟨"FB_EXCL_LO", 0xE0060028, 2, 0x800, .agreed, false,
     [⟨"NODES", 31, 0, .ro, 0, 0, 0xFFFFFFFF⟩]⟩,
   ⟨"FB_EXCL_HI", 0xE006002C, 2, 0x800, .agreed, false,
     [⟨"NODES", 31, 0, .ro, 0, 0, 0xFFFFFFFF⟩]⟩]

/-- Registers of the FB_ block (R21), from 08_flanirax_door_bus.md. -/
def regsFb1 : List RegRow :=
  [
   ⟨"FB_CLAIM", 0xE0060030, 2, 0x800, .agreed, false,
     [⟨"GRANTS", 31, 24, .ro, 0, 0, 0xFFFFFFFF⟩, ⟨"REFUSED", 23, 16, .ro, 0, 0, 0xFFFFFFFF⟩, ⟨"WITHDRAWN", 15, 8, .ro, 0, 0, 0xFFFFFFFF⟩, ⟨"COLLISIONS", 7, 0, .ro, 0, 0, 0xFFFFFFFF⟩]⟩,
   ⟨"FB_LASTCLAIM", 0xE0060034, 2, 0x800, .agreed, false,
     [⟨"RESULT", 31, 24, .ro, 0, 0, 0xFFFFFFFF⟩, ⟨"REASON", 23, 16, .ro, 0, 0, 0xFFFFFFFF⟩, ⟨"SLOT", 15, 8, .ro, 0, 0, 0xFFFFFFFF⟩, ⟨"NODE", 7, 0, .ro, 0, 0, 0xFFFFFFFF⟩]⟩,
   ⟨"FB_TXLATE", 0xE0060038, 2, 0x800, .agreed, false,
     [⟨"X", 31, 16, .ro, 0, 0, 0xFFFFFFFF⟩, ⟨"Y", 15, 0, .ro, 0, 0, 0xFFFFFFFF⟩]⟩,
   ⟨"FB_RECOV", 0xE006003C, 2, 0x800, .agreed, false,
     [⟨"CSMISS", 31, 16, .ro, 0, 0, 0xFFFFFFFF⟩, ⟨"RECOVERS", 15, 0, .ro, 0, 0, 0xFFFFFFFF⟩]⟩,
   ⟨"FB_SUPP", 0xE0060040, 2, 0x800, .agreed, false,
     [⟨"OUTLEN", 31, 16, .ro, 0, 0, 0xFFFFFFFF⟩, ⟨"SUPPRESSED", 15, 0, .ro, 0, 0, 0xFFFFFFFF⟩]⟩,
   ⟨"FB_PRE", 0xE0060044, 2, 0x800, .agreed, false,
     [⟨"COUNT", 31, 0, .ro, 0, 0, 0xFFFFFFFF⟩]⟩,
   ⟨"FB_SLOTRPT0_", 0xE0060080, 16, 0x4, .agreed, false,
     [⟨"CODES", 31, 0, .ro, 0, 0, 0xFFFFFFFF⟩]⟩,
   ⟨"FB_NODE0_", 0xE0060100, 64, 0x4, .agreed, false,
     [⟨"AGE", 31, 24, .ro, 0, 0, 0xFFFFFFFF⟩, ⟨"GRANT", 23, 16, .ro, 0, 0, 0xFFFFFFFF⟩, ⟨"OFS", 15, 8, .ro, 0, 0, 0xFFFFFFFF⟩, ⟨"VIOL", 7, 4, .ro, 0, 0, 0xFFFFFFFF⟩, ⟨"LATECOMER", 3, 3, .ro, 0, 0, 0xFFFFFFFF⟩, ⟨"STATE", 2, 0, .ro, 0, 0, 0xFFFFFFFF⟩]⟩,
   ⟨"FB_SLOTRPT1_", 0xE0060880, 16, 0x4, .agreed, false,
     [⟨"CODES", 31, 0, .ro, 0, 0, 0xFFFFFFFF⟩]⟩,
   ⟨"FB_NODE1_", 0xE0060900, 64, 0x4, .agreed, false,
     [⟨"AGE", 31, 24, .ro, 0, 0, 0xFFFFFFFF⟩, ⟨"GRANT", 23, 16, .ro, 0, 0, 0xFFFFFFFF⟩, ⟨"OFS", 15, 8, .ro, 0, 0, 0xFFFFFFFF⟩, ⟨"VIOL", 7, 4, .ro, 0, 0, 0xFFFFFFFF⟩, ⟨"LATECOMER", 3, 3, .ro, 0, 0, 0xFFFFFFFF⟩, ⟨"STATE", 2, 0, .ro, 0, 0, 0xFFFFFFFF⟩]⟩]

/-- All registers of the FB_ block. -/
def regsFb : List RegRow := regsFb0 ++ regsFb1

/-- Registers of the DM_ block (R21), from 13_queues_and_dma.md. -/
def regsDm0 : List RegRow :=
  [
   ⟨"DM_CTRL", 0xE0070000, 32, 0x40, .perMast, false,
     [⟨"IRQ_C", 5, 5, .rw, 0, 0, 0xFFFFFFFF⟩, ⟨"IRQ_P", 4, 4, .rw, 0, 0, 0xFFFFFFFF⟩, ⟨"PRIO", 3, 2, .rw, 0, 0, 0xFFFFFFFF⟩, ⟨"STRICT", 1, 1, .rw, 0, 0, 0xFFFFFFFF⟩, ⟨"ENABLE", 0, 0, .rw, 0, 0, 0xFFFFFFFF⟩]⟩,
   ⟨"DM_HEAD", 0xE0070004, 32, 0x40, .perMast, false,
     [⟨"ADDR", 31, 6, .rw, 0, 0, 0xFFFFFFFF⟩]⟩,
   ⟨"DM_DB", 0xE0070008, 32, 0x40, .perMast, false,
     [⟨"RING", 0, 0, .wo, 0, 0, 0xFFFFFFFF⟩]⟩,
   ⟨"DM_STAT", 0xE007000C, 32, 0x40, .perMast, false,
     [⟨"STOPPED", 15, 15, .w1c, 0, 0, 0xFFFFFFFF⟩, ⟨"ERR", 10, 8, .ro, 0, 0, 0xFFFFFFFF⟩, ⟨"DBPEND", 3, 3, .ro, 0, 0, 0xFFFFFFFF⟩, ⟨"STATE", 2, 0, .ro, 0, 0, 0xFFFFFFFF⟩]⟩,
   ⟨"DM_CUR", 0xE0070010, 32, 0x40, .perMast, false,
     [⟨"ADDR", 31, 6, .ro, 0, 0, 0xFFFFFFFF⟩]⟩,
   ⟨"DM_DONE", 0xE0070014, 32, 0x40, .perMast, false,
     [⟨"BYTES", 31, 0, .ro, 0, 0, 0xFFFFFFFF⟩]⟩,
   ⟨"DM_HOLD", 0xE0070018, 32, 0x40, .perMast, false,
     [⟨"FILL", 5, 0, .ro, 0, 0, 0xFFFFFFFF⟩]⟩,
   ⟨"DM_SRLO", 0xE0070020, 32, 0x40, .perMast, false,
     [⟨"ADDR", 31, 0, .rwl, 4294967295, 0, 0xFFFFFFFF⟩]⟩,
   ⟨"DM_SRHI", 0xE0070024, 32, 0x40, .perMast, false,
     [⟨"ADDR", 31, 0, .rwl, 0, 0, 0xFFFFFFFF⟩]⟩,
   ⟨"DM_DRLO", 0xE0070028, 32, 0x40, .perMast, false,
     [⟨"ADDR", 31, 0, .rwl, 4294967295, 0, 0xFFFFFFFF⟩]⟩,
   ⟨"DM_DRHI", 0xE007002C, 32, 0x40, .perMast, false,
     [⟨"ADDR", 31, 0, .rwl, 0, 0, 0xFFFFFFFF⟩]⟩,
   ⟨"DM_CNT", 0xE0070030, 32, 0x40, .perMast, false,
     [⟨"IGNORED", 31, 16, .ro, 0, 0, 0xFFFFFFFF⟩, ⟨"DESCS", 15, 0, .ro, 0, 0, 0xFFFFFFFF⟩]⟩]

/-- Registers of the DM_ block (R21), from 13_queues_and_dma.md. -/
def regsDm1 : List RegRow :=
  [
   ⟨"DM_ACTIVE", 0xE0071000, 1, 0x4, .perMast, false,
     [⟨"RUN", 31, 0, .ro, 0, 0, 0xFFFFFFFF⟩]⟩,
   ⟨"DM_STOPPED", 0xE0071004, 1, 0x4, .perMast, false,
     [⟨"STOP", 31, 0, .ro, 0, 0, 0xFFFFFFFF⟩]⟩]

/-- All registers of the DM_ block. -/
def regsDm : List RegRow := regsDm0 ++ regsDm1

/-- Registers of the FI_ block (R21), from 09_field_io.md. -/
def regsFi0 : List RegRow :=
  [
   ⟨"FI_STAT", 0xE0080000, 1, 0x4, .agreed, false,
     [⟨"REGIME", 17, 16, .ro, 2, 0, 0xFFFFFFFF⟩, ⟨"SILENT", 15, 12, .ro, 0, 0, 0xFFFFFFFF⟩, ⟨"VALID", 11, 8, .ro, 0, 0, 0xFFFFFFFF⟩, ⟨"CONFIGURED", 0, 0, .ro, 0, 0, 0xFFFFFFFF⟩]⟩,
   ⟨"FI_XBAR", 0xE0080004, 1, 0x4, .agreed, false,
     [⟨"NOLINK", 8, 6, .ro, 0, 0, 0xFFFFFFFF⟩, ⟨"POS_C", 5, 4, .ro, 2, 0, 0xFFFFFFFF⟩, ⟨"POS_B", 3, 2, .ro, 1, 0, 0xFFFFFFFF⟩, ⟨"POS_A", 1, 0, .ro, 0, 0, 0xFFFFFFFF⟩]⟩,
   ⟨"FI_CFGCRC", 0xE0080008, 1, 0x4, .agreed, false,
     [⟨"CRC", 31, 0, .ro, 0, 0, 0xFFFFFFFF⟩]⟩,
   ⟨"FI_CFG", 0xE008000C, 1, 0x4, .agreed, false,
     [⟨"TEST_ROUND", 31, 16, .ro, 10, 0, 0xFFFFFFFF⟩, ⟨"TIMEOUT", 15, 0, .ro, 50, 0, 0xFFFFFFFF⟩]⟩,
   ⟨"FI_SUPPLY", 0xE0080010, 1, 0x4, .agreed, false,
     [⟨"CHANGES", 31, 16, .ro, 0, 0, 0xFFFFFFFF⟩, ⟨"STATE", 7, 0, .ro, 0, 0, 0xFFFFFFFF⟩]⟩,
   ⟨"FI_IN_LO", 0xE0080014, 1, 0x4, .agreed, false,
     [⟨"LEVEL", 31, 0, .ro, 0, 0, 0xFFFFFFFF⟩]⟩,
   ⟨"FI_IN_HI", 0xE0080018, 1, 0x4, .agreed, false,
     [⟨"LEVEL", 31, 0, .ro, 0, 0, 0xFFFFFFFF⟩]⟩,
   ⟨"FI_INV_LO", 0xE008001C, 1, 0x4, .agreed, false,
     [⟨"INVALID", 31, 0, .ro, 0, 0, 0xFFFFFFFF⟩]⟩,
   ⟨"FI_INV_HI", 0xE0080020, 1, 0x4, .agreed, false,
     [⟨"INVALID", 31, 0, .ro, 0, 0, 0xFFFFFFFF⟩]⟩,
   ⟨"FI_PAIR", 0xE0080024, 1, 0x4, .agreed, false,
     [⟨"ON", 23, 0, .ro, 0, 0, 0xFFFFFFFF⟩]⟩,
   ⟨"FI_PAIRDISC", 0xE0080028, 1, 0x4, .agreed, false,
     [⟨"DISC", 23, 0, .ro, 0, 0, 0xFFFFFFFF⟩]⟩,
   ⟨"FI_OUT_RB", 0xE008002C, 1, 0x4, .agreed, false,
     [⟨"RB", 23, 0, .ro, 0, 0, 0xFFFFFFFF⟩]⟩]

/-- Registers of the FI_ block (R21), from 09_field_io.md. -/
def regsFi1 : List RegRow :=
  [
   ⟨"FI_OUT_CMD", 0xE0080030, 1, 0x4, .perMast, false,
     [⟨"ON", 23, 0, .ro, 0, 0, 0xFFFFFFFF⟩]⟩,
   ⟨"FI_OUT_VOTED", 0xE0080034, 1, 0x4, .agreed, false,
     [⟨"ON", 23, 0, .ro, 0, 0, 0xFFFFFFFF⟩]⟩,
   ⟨"FI_SUPV", 0xE0080038, 1, 0x4, .agreed, false,
     [⟨"FORCED", 23, 0, .ro, 0, 0, 0xFFFFFFFF⟩]⟩,
   ⟨"FI_SVC_EN", 0xE008003C, 1, 0x4, .agreed, false,
     [⟨"EN", 23, 0, .rwl, 0, 0, 0xFFFFFFFF⟩]⟩,
   ⟨"FI_SVC_VAL", 0xE0080040, 1, 0x4, .agreed, false,
     [⟨"VAL", 23, 0, .rwl, 0, 0, 0xFFFFFFFF⟩]⟩,
   ⟨"FI_TEST", 0xE0080044, 1, 0x4, .agreed, false,
     [⟨"DONE", 31, 16, .ro, 0, 0, 0xFFFFFFFF⟩, ⟨"FAILED", 15, 8, .ro, 0, 0, 0xFFFFFFFF⟩, ⟨"DISCARDED", 7, 0, .ro, 0, 0, 0xFFFFFFFF⟩]⟩,
   ⟨"FI_LINK", 0xE0080048, 1, 0x4, .perMast, false,
     [⟨"RXERR", 31, 16, .ro, 0, 0, 0xFFFFFFFF⟩, ⟨"ENGERR", 15, 0, .ro, 0, 0, 0xFFFFFFFF⟩]⟩,
   ⟨"FI_QCTL", 0xE0080100, 16, 0x10, .perMast, false,
     [⟨"CLEAR", 2, 2, .wo, 0, 0, 0xFFFFFFFF⟩, ⟨"FIRED", 1, 1, .ro, 0, 0, 0xFFFFFFFF⟩, ⟨"ARMED", 0, 0, .rw, 0, 0, 0xFFFFFFFF⟩]⟩,
   ⟨"FI_QMASK", 0xE0080104, 16, 0x10, .perMast, false,
     [⟨"BITS", 23, 0, .rw, 0, 0, 0xFFFFFFFF⟩]⟩,
   ⟨"FI_QVAL", 0xE0080108, 16, 0x10, .perMast, false,
     [⟨"BITS", 23, 0, .rw, 0, 0, 0xFFFFFFFF⟩]⟩,
   ⟨"FI_OUT", 0xE0080200, 24, 0x4, .agreed, false,
     [⟨"RETRIES", 31, 28, .ro, 0, 0, 0xFFFFFFFF⟩, ⟨"SWFAULT", 27, 22, .ro, 0, 0, 0xFFFFFFFF⟩, ⟨"SILENCE", 21, 20, .ro, 0, 0, 0xFFFFFFFF⟩, ⟨"LASTTEST", 19, 16, .ro, 0, 0, 0xFFFFFFFF⟩, ⟨"DARK", 15, 15, .ro, 0, 0, 0xFFFFFFFF⟩, ⟨"OPENLOAD", 11, 11, .ro, 0, 0, 0xFFFFFFFF⟩, ⟨"EXTFEED", 10, 10, .ro, 0, 0, 0xFFFFFFFF⟩, ⟨"CLIM", 9, 9, .ro, 0, 0, 0xFFFFFFFF⟩, ⟨"LOCKED", 8, 8, .ro, 0, 0, 0xFFFFFFFF⟩, ⟨"MID", 7, 5, .ro, 0, 0, 0xFFFFFFFF⟩, ⟨"RB", 4, 4, .ro, 0, 0, 0xFFFFFFFF⟩, ⟨"THERM", 3, 3, .ro, 0, 0, 0xFFFFFFFF⟩, ⟨"BRANCHES", 2, 0, .ro, 0, 0, 0xFFFFFFFF⟩]⟩]

/-- All registers of the FI_ block. -/
def regsFi : List RegRow := regsFi0 ++ regsFi1

/-- Registers of the SP_ block (R21), from 10_safety_supervisor.md. -/
def regsSp0 : List RegRow :=
  [
   ⟨"SP_STAT", 0xE0090000, 1, 0x4, .agreed, false,
     [⟨"DIR_SEL", 7, 7, .ro, 0, 0, 0xFFFFFFFF⟩, ⟨"ODO", 6, 6, .ro, 0, 0, 0xFFFFFFFF⟩, ⟨"SLIP", 5, 5, .ro, 0, 0, 0xFFFFFFFF⟩, ⟨"BERTH", 4, 4, .ro, 0, 0, 0xFFFFFFFF⟩, ⟨"ZERO", 3, 3, .ro, 0, 0, 0xFFFFFFFF⟩, ⟨"LATCHED", 2, 2, .ro, 0, 0, 0xFFFFFFFF⟩, ⟨"SELFTEST", 1, 1, .ro, 0, 0, 0xFFFFFFFF⟩, ⟨"ACTIVE", 0, 0, .ro, 0, 0, 0xFFFFFFFF⟩]⟩,
   ⟨"SP_LATCH", 0xE0090004, 1, 0x4, .agreed, false,
     [⟨"ODO", 13, 13, .ro, 0, 0, 0xFFFFFFFF⟩, ⟨"DIR", 12, 12, .ro, 0, 0, 0xFFFFFFFF⟩, ⟨"WIN", 11, 8, .ro, 0, 0, 0xFFFFFFFF⟩, ⟨"SLS", 7, 0, .ro, 0, 0, 0xFFFFFFFF⟩]⟩,
   ⟨"SP_ACK", 0xE0090008, 1, 0x4, .perMast, true,
     [⟨"KEY", 31, 16, .wo, 0, 0, 0xFFFFFFFF⟩, ⟨"MASK", 13, 0, .wo, 0, 0, 0xFFFFFFFF⟩]⟩,
   ⟨"SP_WINDOW", 0xE009000C, 1, 0x4, .agreed, false,
     [⟨"INRANGE", 7, 4, .ro, 0, 0, 0xFFFFFFFF⟩, ⟨"PERMIT", 3, 0, .ro, 0, 0, 0xFFFFFFFF⟩]⟩,
   ⟨"SP_SLSACT", 0xE0090010, 1, 0x4, .agreed, false,
     [⟨"EXCEEDED", 23, 16, .ro, 0, 0, 0xFFFFFFFF⟩, ⟨"SUPERVISED", 15, 8, .ro, 0, 0, 0xFFFFFFFF⟩, ⟨"SELECTED", 7, 0, .ro, 0, 0, 0xFFFFFFFF⟩]⟩,
   ⟨"SP_SLSSEL", 0xE0090014, 1, 0x4, .agreed, true,
     [⟨"SEL", 7, 0, .rw, 0, 0, 0xFFFFFFFF⟩]⟩,
   ⟨"SP_DIRSEL", 0xE0090018, 1, 0x4, .agreed, true,
     [⟨"DOWN", 1, 1, .rw, 0, 0, 0xFFFFFFFF⟩, ⟨"UP", 0, 0, .rw, 0, 0, 0xFFFFFFFF⟩]⟩,
   ⟨"SP_REFCLR", 0xE009001C, 1, 0x4, .perMast, true,
     [⟨"KEY", 31, 16, .wo, 0, 0, 0xFFFFFFFF⟩]⟩,
   ⟨"SP_SPEED", 0xE0090020, 1, 0x4, .perMast, false,
     [⟨"V2", 31, 16, .ro, 0, 0, 0xFFFFFFFF⟩, ⟨"V1", 15, 0, .ro, 0, 0, 0xFFFFFFFF⟩]⟩,
   ⟨"SP_VSUP", 0xE0090024, 1, 0x4, .agreed, false,
     [⟨"VMAX", 31, 16, .ro, 0, 0, 0xFFFFFFFF⟩, ⟨"V", 15, 0, .ro, 0, 0, 0xFFFFFFFF⟩]⟩,
   ⟨"SP_REF1LO", 0xE0090028, 1, 0x4, .agreed, false,
     [⟨"VALUE", 31, 0, .ro, 0, 0, 0xFFFFFFFF⟩]⟩,
   ⟨"SP_REF1HI", 0xE009002C, 1, 0x4, .agreed, false,
     [⟨"VALUE", 31, 0, .ro, 0, 0, 0xFFFFFFFF⟩]⟩]

/-- Registers of the SP_ block (R21), from 10_safety_supervisor.md. -/
def regsSp1 : List RegRow :=
  [
   ⟨"SP_REF2LO", 0xE0090030, 1, 0x4, .agreed, false,
     [⟨"VALUE", 31, 0, .ro, 0, 0, 0xFFFFFFFF⟩]⟩,
   ⟨"SP_REF2HI", 0xE0090034, 1, 0x4, .agreed, false,
     [⟨"VALUE", 31, 0, .ro, 0, 0, 0xFFFFFFFF⟩]⟩,
   ⟨"SP_REL1", 0xE0090038, 1, 0x4, .agreed, false,
     [⟨"REL", 31, 0, .ro, 0, 0, 0xFFFFFFFF⟩]⟩,
   ⟨"SP_REL2", 0xE009003C, 1, 0x4, .agreed, false,
     [⟨"REL", 31, 0, .ro, 0, 0, 0xFFFFFFFF⟩]⟩,
   ⟨"SP_DISC", 0xE0090040, 1, 0x4, .agreed, false,
     [⟨"D", 31, 0, .ro, 0, 0, 0xFFFFFFFF⟩]⟩,
   ⟨"SP_FORCE", 0xE0090044, 1, 0x4, .perMast, false,
     [⟨"FORCED", 23, 0, .ro, 0, 0, 0xFFFFFFFF⟩]⟩,
   ⟨"SP_DESIG", 0xE0090048, 1, 0x4, .agreed, false,
     [⟨"OUTPUTS", 23, 0, .ro, 0, 0, 0xFFFFFFFF⟩]⟩,
   ⟨"SP_PARAMID", 0xE009004C, 1, 0x4, .agreed, false,
     [⟨"ID", 31, 0, .ro, 0, 0, 0xFFFFFFFF⟩]⟩,
   ⟨"SP_COUNT", 0xE0090050, 1, 0x4, .agreed, false,
     [⟨"VIOLATIONS", 31, 16, .ro, 0, 0, 0xFFFFFFFF⟩, ⟨"ACKS", 15, 8, .ro, 0, 0, 0xFFFFFFFF⟩, ⟨"REFUSED", 7, 0, .ro, 0, 0, 0xFFFFFFFF⟩]⟩,
   ⟨"SP_LASTV", 0xE0090054, 1, 0x4, .agreed, false,
     [⟨"REACT_US", 31, 16, .ro, 0, 0, 0xFFFFFFFF⟩, ⟨"KIND", 15, 8, .ro, 0, 0, 0xFFFFFFFF⟩, ⟨"INDEX", 7, 0, .ro, 0, 0, 0xFFFFFFFF⟩]⟩,
   ⟨"SP_DISAG", 0xE0090058, 1, 0x4, .agreed, false,
     [⟨"COUNT", 31, 16, .ro, 0, 0, 0xFFFFFFFF⟩, ⟨"MASTS", 3, 0, .ro, 0, 0, 0xFFFFFFFF⟩]⟩]

/-- All registers of the SP_ block. -/
def regsSp : List RegRow := regsSp0 ++ regsSp1

/-- Registers of the BB_ block (R21), from 14_rack_bridge_and_stay_link.md. -/
def regsBb0 : List RegRow :=
  [
   ⟨"BB_CTRL", 0xE00A0000, 1, 0x4, .agreed, false,
     [⟨"INT_MASK", 15, 8, .rwl, 0, 0, 0xFFFFFFFF⟩, ⟨"POLL_US", 7, 0, .rwl, 10, 1, 255⟩]⟩,
   ⟨"BB_STAT", 0xE00A0004, 1, 0x4, .agreed, false,
     [⟨"POSTED", 13, 8, .ro, 0, 0, 0xFFFFFFFF⟩, ⟨"OUT_PEND", 4, 4, .ro, 0, 0, 0xFFFFFFFF⟩, ⟨"STATE", 1, 0, .ro, 0, 0, 0xFFFFFFFF⟩]⟩,
   ⟨"BB_INTLVL", 0xE00A0008, 1, 0x4, .agreed, false,
     [⟨"LEVEL", 7, 0, .ro, 0, 0, 0xFFFFFFFF⟩]⟩,
   ⟨"BB_OUTERR", 0xE00A000C, 1, 0x4, .agreed, false,
     [⟨"TIMEOUT", 31, 24, .ro, 0, 0, 0xFFFFFFFF⟩, ⟨"TARGET", 23, 16, .ro, 0, 0, 0xFFFFFFFF⟩, ⟨"PARITY", 15, 8, .ro, 0, 0, 0xFFFFFFFF⟩, ⟨"NOWIN", 7, 0, .ro, 0, 0, 0xFFFFFFFF⟩]⟩,
   ⟨"BB_RETRY", 0xE00A0010, 1, 0x4, .agreed, false,
     [⟨"GIVEN", 31, 16, .ro, 0, 0, 0xFFFFFFFF⟩, ⟨"RECEIVED", 15, 0, .ro, 0, 0, 0xFFFFFFFF⟩]⟩,
   ⟨"BB_INCNT", 0xE00A0014, 1, 0x4, .agreed, false,
     [⟨"WRITES", 31, 16, .ro, 0, 0, 0xFFFFFFFF⟩, ⟨"READS", 15, 0, .ro, 0, 0, 0xFFFFFFFF⟩]⟩,
   ⟨"BB_PWESTAT", 0xE00A0018, 1, 0x4, .agreed, false,
     [⟨"OVFCNT", 31, 16, .ro, 0, 0, 0xFFFFFFFF⟩, ⟨"OVF", 8, 8, .w1c, 0, 0, 0xFFFFFFFF⟩, ⟨"COUNT", 4, 0, .ro, 0, 0, 0xFFFFFFFF⟩]⟩,
   ⟨"BB_PWEPOP", 0xE00A001C, 1, 0x4, .agreed, false,
     [⟨"VALID", 31, 31, .ro, 0, 0, 0xFFFFFFFF⟩, ⟨"WINDOW", 11, 8, .ro, 0, 0, 0xFFFFFFFF⟩, ⟨"RESULT", 2, 0, .ro, 0, 0, 0xFFFFFFFF⟩]⟩,
   ⟨"BB_PWEADDR", 0xE00A0020, 1, 0x4, .agreed, false,
     [⟨"VALUE", 31, 0, .ro, 0, 0, 0xFFFFFFFF⟩]⟩,
   ⟨"BB_PWETAGLO", 0xE00A0024, 1, 0x4, .agreed, false,
     [⟨"VALUE", 31, 0, .ro, 0, 0, 0xFFFFFFFF⟩]⟩,
   ⟨"BB_PWETAGHI", 0xE00A0028, 1, 0x4, .agreed, false,
     [⟨"VALUE", 31, 0, .ro, 0, 0, 0xFFFFFFFF⟩]⟩,
   ⟨"BB_PWESEC", 0xE00A002C, 1, 0x4, .agreed, false,
     [⟨"VALUE", 31, 0, .ro, 0, 0, 0xFFFFFFFF⟩]⟩]

/-- Registers of the BB_ block (R21), from 14_rack_bridge_and_stay_link.md. -/
def regsBb1 : List RegRow :=
  [
   ⟨"BB_PWENS", 0xE00A0030, 1, 0x4, .agreed, false,
     [⟨"VALUE", 31, 0, .ro, 0, 0, 0xFFFFFFFF⟩]⟩,
   ⟨"BB_EXPCOMMIT", 0xE00A0034, 1, 0x4, .perMast, true,
     [⟨"MASK", 19, 16, .wo, 0, 0, 0xFFFFFFFF⟩, ⟨"SEQ", 15, 0, .wo, 0, 0, 0xFFFFFFFF⟩]⟩,
   ⟨"BB_EXPSTAT", 0xE00A0038, 1, 0x4, .agreed, false,
     [⟨"MISMATCH", 31, 16, .ro, 0, 0, 0xFFFFFFFF⟩, ⟨"SEQ", 15, 0, .ro, 0, 0, 0xFFFFFFFF⟩]⟩,
   ⟨"BB_SBVAL", 0xE00A0080, 32, 0x4, .agreed, false,
     [⟨"VALUE", 31, 0, .ro, 0, 0, 0xFFFFFFFF⟩]⟩,
   ⟨"BB_SBADDR", 0xE00A0100, 32, 0x4, .agreed, false,
     [⟨"ADDR", 31, 2, .rwl, 0, 0, 0xFFFFFFFF⟩]⟩,
   ⟨"BB_OWIN_BASE", 0xE00A0200, 16, 0x8, .agreed, false,
     [⟨"RBASE", 31, 26, .rwl, 0, 0, 0xFFFFFFFF⟩]⟩,
   ⟨"BB_OWIN_CFG", 0xE00A0204, 16, 0x8, .agreed, false,
     [⟨"WIDTH", 5, 4, .rwl, 2, 0, 2⟩, ⟨"POSTED", 2, 2, .rwl, 0, 0, 0xFFFFFFFF⟩, ⟨"RULE", 1, 1, .rwl, 0, 0, 0xFFFFFFFF⟩, ⟨"ENABLE", 0, 0, .rwl, 0, 0, 0xFFFFFFFF⟩]⟩,
   ⟨"BB_IWIN_BASE", 0xE00A0280, 4, 0x8, .agreed, false,
     [⟨"RBASE", 31, 12, .rwl, 0, 0, 0xFFFFFFFF⟩]⟩,
   ⟨"BB_IWIN_CFG", 0xE00A0284, 4, 0x8, .agreed, false,
     [⟨"RULE", 1, 1, .rwl, 0, 0, 0xFFFFFFFF⟩, ⟨"ENABLE", 0, 0, .rwl, 0, 0, 0xFFFFFFFF⟩]⟩,
   ⟨"BB_EXPOSE0_", 0xE00A8000, 1024, 0x4, .perMast, false,
     [⟨"DATA", 31, 0, .rw, 0, 0, 0xFFFFFFFF⟩]⟩,
   ⟨"BB_EXPOSE1_", 0xE00A9000, 1024, 0x4, .perMast, false,
     [⟨"DATA", 31, 0, .rw, 0, 0, 0xFFFFFFFF⟩]⟩,
   ⟨"BB_EXPOSE2_", 0xE00AA000, 1024, 0x4, .perMast, false,
     [⟨"DATA", 31, 0, .rw, 0, 0, 0xFFFFFFFF⟩]⟩]

/-- Registers of the BB_ block (R21), from 14_rack_bridge_and_stay_link.md. -/
def regsBb2 : List RegRow :=
  [
   ⟨"BB_EXPOSE3_", 0xE00AB000, 1024, 0x4, .perMast, false,
     [⟨"DATA", 31, 0, .rw, 0, 0, 0xFFFFFFFF⟩]⟩]

/-- All registers of the BB_ block. -/
def regsBb : List RegRow := regsBb0 ++ regsBb1 ++ regsBb2

/-- Registers of the EL_ block (R21), from 17_log_and_monitor.md. -/
def regsEl0 : List RegRow :=
  [
   ⟨"EL_STAT", 0xE00B0000, 1, 0x4, .agreed, false,
     [⟨"WRAPPED", 16, 16, .ro, 0, 0, 0xFFFFFFFF⟩, ⟨"COUNT", 12, 0, .ro, 0, 0, 0xFFFFFFFF⟩]⟩,
   ⟨"EL_HEADSEQ", 0xE00B0004, 1, 0x4, .agreed, false,
     [⟨"SEQ", 31, 0, .ro, 0, 0, 0xFFFFFFFF⟩]⟩,
   ⟨"EL_FIRSTSEQ", 0xE00B0008, 1, 0x4, .agreed, false,
     [⟨"SEQ", 31, 0, .ro, 0, 0, 0xFFFFFFFF⟩]⟩,
   ⟨"EL_EXPORT", 0xE00B000C, 1, 0x4, .agreed, false,
     [⟨"ENABLE", 31, 31, .rwl, 0, 0, 0xFFFFFFFF⟩, ⟨"SEVMAX", 18, 16, .rwl, 6, 2, 7⟩, ⟨"RATE", 9, 0, .rwl, 200, 1, 1000⟩]⟩,
   ⟨"EL_DEST", 0xE00B0010, 1, 0x4, .agreed, false,
     [⟨"IP", 31, 0, .rwl, 0, 0, 0xFFFFFFFF⟩]⟩,
   ⟨"EL_DESTPORT", 0xE00B0014, 1, 0x4, .agreed, false,
     [⟨"IF", 17, 16, .rwl, 1, 1, 2⟩, ⟨"PORT", 15, 0, .rwl, 514, 0, 0xFFFFFFFF⟩]⟩,
   ⟨"EL_SENT", 0xE00B0018, 1, 0x4, .agreed, false,
     [⟨"COUNT", 31, 0, .ro, 0, 0, 0xFFFFFFFF⟩]⟩,
   ⟨"EL_DROP", 0xE00B001C, 1, 0x4, .agreed, false,
     [⟨"LOST", 31, 16, .ro, 0, 0, 0xFFFFFFFF⟩, ⟨"DROPPED", 15, 0, .ro, 0, 0, 0xFFFFFFFF⟩]⟩]

/-- All registers of the EL_ block. -/
def regsEl : List RegRow := regsEl0

/-- Registers of the UP_ block (R21), from 16_images_and_update.md. -/
def regsUp0 : List RegRow :=
  [
   ⟨"UP_STAT", 0xE00C0000, 1, 0x4, .agreed, false,
     [⟨"BLOCKS", 23, 16, .ro, 0, 0, 0xFFFFFFFF⟩, ⟨"PHASE", 10, 8, .ro, 0, 0, 0xFFFFFFFF⟩, ⟨"TRIES", 5, 4, .ro, 0, 0, 0xFFFFFFFF⟩, ⟨"BUSY", 3, 3, .ro, 0, 0, 0xFFFFFFFF⟩, ⟨"KIND", 2, 2, .ro, 0, 0, 0xFFFFFFFF⟩, ⟨"TRIAL", 1, 1, .ro, 0, 0, 0xFFFFFFFF⟩, ⟨"ACTIVE", 0, 0, .ro, 0, 0, 0xFFFFFFFF⟩]⟩,
   ⟨"UP_CMD", 0xE00C0004, 1, 0x4, .perMast, true,
     [⟨"KEY", 31, 16, .wo, 0, 0, 0xFFFFFFFF⟩, ⟨"CODE", 7, 0, .wo, 0, 0, 0xFFFFFFFF⟩]⟩,
   ⟨"UP_CMDSTAT", 0xE00C0008, 1, 0x4, .agreed, false,
     [⟨"REASON", 23, 16, .ro, 0, 0, 0xFFFFFFFF⟩, ⟨"RESULT", 10, 8, .ro, 0, 0, 0xFFFFFFFF⟩, ⟨"LAST_CODE", 7, 0, .ro, 0, 0, 0xFFFFFFFF⟩]⟩,
   ⟨"UP_SRCADDR", 0xE00C000C, 1, 0x4, .perMast, false,
     [⟨"ADDR", 31, 3, .rw, 0, 0, 0xFFFFFFFF⟩]⟩,
   ⟨"UP_BLKIDX", 0xE00C0010, 1, 0x4, .perMast, false,
     [⟨"INDEX", 7, 0, .rw, 0, 0, 0xFFFFFFFF⟩]⟩,
   ⟨"UP_CTRL", 0xE00C0014, 1, 0x4, .agreed, false,
     [⟨"CONFIRM_S", 11, 0, .rwl, 300, 30, 3600⟩]⟩,
   ⟨"UP_RUNSEC", 0xE00C0018, 1, 0x4, .agreed, false,
     [⟨"SEC", 31, 0, .ro, 0, 0, 0xFFFFFFFF⟩]⟩,
   ⟨"UP_LASTERR", 0xE00C001C, 1, 0x4, .agreed, false,
     [⟨"REASON", 31, 24, .ro, 0, 0, 0xFFFFFFFF⟩, ⟨"MASTS", 23, 20, .ro, 0, 0, 0xFFFFFFFF⟩, ⟨"BLOCK", 7, 0, .ro, 0, 0, 0xFFFFFFFF⟩]⟩,
   ⟨"UP_FWVER0", 0xE00C0020, 1, 0x4, .agreed, false,
     [⟨"VERSION", 31, 0, .ro, 0, 0, 0xFFFFFFFF⟩]⟩,
   ⟨"UP_FWVER1", 0xE00C0024, 1, 0x4, .agreed, false,
     [⟨"VERSION", 31, 0, .ro, 0, 0, 0xFFFFFFFF⟩]⟩,
   ⟨"UP_APPVER0", 0xE00C0028, 1, 0x4, .agreed, false,
     [⟨"VERSION", 31, 0, .ro, 0, 0, 0xFFFFFFFF⟩]⟩,
   ⟨"UP_APPVER1", 0xE00C002C, 1, 0x4, .agreed, false,
     [⟨"VERSION", 31, 0, .ro, 0, 0, 0xFFFFFFFF⟩]⟩]

/-- Registers of the UP_ block (R21), from 16_images_and_update.md. -/
def regsUp1 : List RegRow :=
  [
   ⟨"UP_KEYSTAT", 0xE00C0030, 1, 0x4, .agreed, false,
     [⟨"REVOKED", 13, 8, .ro, 0, 0, 0xFFFFFFFF⟩, ⟨"PRESENT", 5, 0, .ro, 0, 0, 0xFFFFFFFF⟩]⟩,
   ⟨"UP_KEYSEL", 0xE00C0034, 1, 0x4, .agreed, false,
     [⟨"SLOT", 2, 0, .rwl, 0, 0, 5⟩]⟩,
   ⟨"UP_SERIAL_LO", 0xE00C0038, 1, 0x4, .agreed, false,
     [⟨"SERIAL", 31, 0, .ro, 0, 0, 0xFFFFFFFF⟩]⟩,
   ⟨"UP_SERIAL_HI", 0xE00C003C, 1, 0x4, .agreed, false,
     [⟨"SERIAL", 31, 0, .ro, 0, 0, 0xFFFFFFFF⟩]⟩,
   ⟨"UP_SCHEMA", 0xE00C0040, 1, 0x4, .agreed, false,
     [⟨"IMAGE", 31, 16, .ro, 0, 0, 0xFFFFFFFF⟩, ⟨"FOUND", 15, 0, .ro, 0, 0, 0xFFFFFFFF⟩]⟩,
   ⟨"UP_SETSTAT", 0xE00C0044, 1, 0x4, .agreed, false,
     [⟨"DEFAULTED", 31, 16, .ro, 0, 0, 0xFFFFFFFF⟩, ⟨"MIGRATED", 15, 0, .ro, 0, 0, 0xFFFFFFFF⟩]⟩,
   ⟨"UP_APPHASH", 0xE00C0080, 12, 0x4, .agreed, false,
     [⟨"WORD", 31, 0, .ro, 0, 0, 0xFFFFFFFF⟩]⟩]

/-- All registers of the UP_ block. -/
def regsUp : List RegRow := regsUp0 ++ regsUp1

/-- Registers of the SL_ block (R21), from 03_slot_key_and_seal.md, 14_rack_bridge_and_stay_link.md. -/
def regsSl0 : List RegRow :=
  [
   ⟨"SL_STAT", 0xE00D0000, 1, 0x4, .agreed, false,
     [⟨"MEMBERS", 19, 16, .ro, 0, 0, 0xFFFFFFFF⟩, ⟨"MASTER", 12, 8, .ro, 0, 0, 0xFFFFFFFF⟩, ⟨"WRAPPED", 2, 2, .ro, 0, 0, 0xFFFFFFFF⟩, ⟨"ROLE", 1, 0, .ro, 0, 0, 0xFFFFFFFF⟩]⟩,
   ⟨"SL_MEMBERS", 0xE00D0004, 1, 0x4, .agreed, false,
     [⟨"SLOTS", 31, 1, .ro, 0, 0, 0xFFFFFFFF⟩]⟩,
   ⟨"SL_LINKDLY", 0xE00D0008, 1, 0x4, .agreed, false,
     [⟨"DOWN", 31, 16, .ro, 0, 0, 0xFFFFFFFF⟩, ⟨"UP", 15, 0, .ro, 0, 0, 0xFFFFFFFF⟩]⟩,
   ⟨"SL_TIMEOFS", 0xE00D000C, 1, 0x4, .agreed, false,
     [⟨"NS", 31, 0, .ro, 0, 0, 0xFFFFFFFF⟩]⟩,
   ⟨"SL_SHARE", 0xE00D0010, 1, 0x4, .agreed, false,
     [⟨"TOTAL", 31, 16, .ro, 0, 0, 0xFFFFFFFF⟩, ⟨"OWN", 15, 0, .ro, 0, 0, 0xFFFFFFFF⟩]⟩,
   ⟨"SL_FRAMES", 0xE00D0014, 1, 0x4, .agreed, false,
     [⟨"CRC", 31, 16, .ro, 0, 0, 0xFFFFFFFF⟩, ⟨"DROPPED", 15, 0, .ro, 0, 0, 0xFFFFFFFF⟩]⟩,
   ⟨"SL_ELECT", 0xE00D0018, 1, 0x4, .agreed, false,
     [⟨"ELECTIONS", 31, 24, .ro, 0, 0, 0xFFFFFFFF⟩, ⟨"WRAPS", 23, 16, .ro, 0, 0, 0xFFFFFFFF⟩]⟩,
   ⟨"SL_BULK", 0xE00D001C, 1, 0x4, .agreed, false,
     [⟨"BYTES", 31, 0, .ro, 0, 0, 0xFFFFFFFF⟩]⟩,
   ⟨"SL_KEYSTAT", 0xE00D0800, 1, 0x4, .agreed, false,
     [⟨"REASON", 31, 24, .ro, 0, 0, 0xFFFFFFFF⟩, ⟨"SEAL_CHANGED", 15, 15, .w1c, 0, 0, 0xFFFFFFFF⟩, ⟨"SEAL_OK", 14, 14, .ro, 0, 0, 0xFFFFFFFF⟩, ⟨"FROM_LANE", 13, 13, .ro, 0, 0, 0xFFFFFFFF⟩, ⟨"IDENTITY_OK", 12, 12, .ro, 0, 0, 0xFFFFFFFF⟩, ⟨"FORMAT_OK", 11, 11, .ro, 0, 0, 0xFFFFFFFF⟩, ⟨"AGREE", 7, 4, .ro, 0, 0, 0xFFFFFFFF⟩, ⟨"PRESENT", 0, 0, .ro, 0, 0, 0xFFFFFFFF⟩]⟩,
   ⟨"SL_SLOTID", 0xE00D0804, 1, 0x4, .agreed, false,
     [⟨"IMAGE", 12, 8, .ro, 0, 0, 0xFFFFFFFF⟩, ⟨"PINS", 4, 0, .ro, 0, 0, 0xFFFFFFFF⟩]⟩,
   ⟨"SL_SEALSW", 0xE00D0808, 1, 0x4, .agreed, false,
     [⟨"VALUE", 31, 0, .ro, 0, 0, 0xFFFFFFFF⟩]⟩,
   ⟨"SL_SEALCRC", 0xE00D080C, 1, 0x4, .agreed, false,
     [⟨"CRC", 31, 0, .ro, 0, 0, 0xFFFFFFFF⟩]⟩]

/-- Registers of the SL_ block (R21), from 03_slot_key_and_seal.md. -/
def regsSl1 : List RegRow :=
  [
   ⟨"SL_SEALNOW", 0xE00D0810, 1, 0x4, .agreed, false,
     [⟨"VALUE", 31, 0, .ro, 0, 0, 0xFFFFFFFF⟩]⟩,
   ⟨"SL_SEALFRM", 0xE00D0814, 1, 0x4, .agreed, false,
     [⟨"FRAME", 7, 0, .ro, 0, 0, 0xFFFFFFFF⟩]⟩,
   ⟨"SL_IMGLEN", 0xE00D0818, 1, 0x4, .agreed, false,
     [⟨"TOTAL_LEN", 19, 0, .ro, 0, 0, 0xFFFFFFFF⟩]⟩,
   ⟨"SL_CFGVER", 0xE00D081C, 1, 0x4, .agreed, false,
     [⟨"VERSION", 31, 0, .ro, 0, 0, 0xFFFFFFFF⟩]⟩,
   ⟨"SL_DIGEST", 0xE00D0820, 12, 0x4, .agreed, false,
     [⟨"WORD", 31, 0, .ro, 0, 0, 0xFFFFFFFF⟩]⟩,
   ⟨"SL_APPFETCH", 0xE00D0850, 1, 0x4, .agreed, false,
     [⟨"ATTEMPTS", 31, 16, .ro, 0, 0, 0xFFFFFFFF⟩, ⟨"LAST_REASON", 10, 8, .ro, 0, 0, 0xFFFFFFFF⟩, ⟨"STATE", 1, 0, .ro, 0, 0, 0xFFFFFFFF⟩]⟩,
   ⟨"SL_IMGADDR", 0xE00D0854, 1, 0x4, .perMast, false,
     [⟨"ADDR", 31, 0, .ro, 280231936, 0, 0xFFFFFFFF⟩]⟩]

/-- All registers of the SL_ block. -/
def regsSl : List RegRow := regsSl0 ++ regsSl1

/-- Registers of the SV_ block (R21), from 17_log_and_monitor.md. -/
def regsSv0 : List RegRow :=
  [
   ⟨"SV_STAT", 0xE00E0000, 1, 0x4, .agreed, false,
     [⟨"IDLE", 31, 16, .ro, 0, 0, 0xFFFFFFFF⟩, ⟨"FAILS", 15, 8, .ro, 0, 0, 0xFFFFFFFF⟩, ⟨"KEY", 4, 2, .ro, 0, 0, 0xFFFFFFFF⟩, ⟨"LOCKED", 1, 1, .ro, 0, 0, 0xFFFFFFFF⟩, ⟨"SESSION", 0, 0, .ro, 0, 0, 0xFFFFFFFF⟩]⟩,
   ⟨"SV_LINES", 0xE00E0004, 1, 0x4, .agreed, false,
     [⟨"LINES", 31, 16, .ro, 0, 0, 0xFFFFFFFF⟩, ⟨"DISCARDED", 15, 0, .ro, 0, 0, 0xFFFFFFFF⟩]⟩,
   ⟨"SV_UART", 0xE00E0008, 1, 0x4, .agreed, false,
     [⟨"FRAMING", 31, 16, .ro, 0, 0, 0xFFFFFFFF⟩, ⟨"OVERRUN", 15, 0, .ro, 0, 0, 0xFFFFFFFF⟩]⟩,
   ⟨"SV_AUTH", 0xE00E000C, 1, 0x4, .agreed, false,
     [⟨"OPENED", 31, 16, .ro, 0, 0, 0xFFFFFFFF⟩, ⟨"FAILED", 15, 0, .ro, 0, 0, 0xFFFFFFFF⟩]⟩]

/-- All registers of the SV_ block. -/
def regsSv : List RegRow := regsSv0

/-- Registers of the QM_ block (R21), from 13_queues_and_dma.md. -/
def regsQm0 : List RegRow :=
  [
   ⟨"QM_RING_BASE", 0xE00F0000, 128, 0x10, .perMast, false,
     [⟨"BASE", 31, 5, .rwl, 0, 0, 0xFFFFFFFF⟩]⟩,
   ⟨"QM_RING_CFG", 0xE00F0004, 128, 0x10, .perMast, false,
     [⟨"ENABLE", 7, 7, .rwl, 0, 0, 0xFFFFFFFF⟩, ⟨"IRQ", 6, 5, .rwl, 0, 0, 0xFFFFFFFF⟩, ⟨"SIZE", 3, 0, .rwl, 4, 4, 12⟩]⟩,
   ⟨"QM_RING_PROD", 0xE00F0008, 128, 0x10, .perMast, false,
     [⟨"PROD", 15, 0, .rw, 0, 0, 0xFFFFFFFF⟩]⟩,
   ⟨"QM_RING_CONS", 0xE00F000C, 128, 0x10, .perMast, false,
     [⟨"CONS", 15, 0, .rw, 0, 0, 0xFFFFFFFF⟩]⟩,
   ⟨"QM_RINGSTAT", 0xE00F0800, 128, 0x4, .perMast, false,
     [⟨"OVERFLOW", 31, 16, .ro, 0, 0, 0xFFFFFFFF⟩, ⟨"IDXERR", 15, 0, .ro, 0, 0, 0xFFFFFFFF⟩]⟩,
   ⟨"QM_POOLBASE", 0xE00F0C00, 1, 0x4, .perMast, false,
     [⟨"BASE", 31, 11, .rwl, 0, 0, 0xFFFFFFFF⟩]⟩,
   ⟨"QM_POOLCFG", 0xE00F0C04, 1, 0x4, .perMast, false,
     [⟨"ENABLE", 31, 31, .rwl, 0, 0, 0xFFFFFFFF⟩, ⟨"COUNT", 13, 0, .rwl, 0, 256, 8192⟩]⟩,
   ⟨"QM_POOLSTAT", 0xE00F0C08, 1, 0x4, .perMast, false,
     [⟨"EMPTY", 31, 16, .ro, 0, 0, 0xFFFFFFFF⟩, ⟨"FREE", 13, 0, .ro, 0, 0, 0xFFFFFFFF⟩]⟩,
   ⟨"QM_POOLRET", 0xE00F0C0C, 1, 0x4, .perMast, false,
     [⟨"INDEX", 12, 0, .wo, 0, 0, 0xFFFFFFFF⟩]⟩,
   ⟨"QM_CMBASE", 0xE00F0D00, 1, 0x4, .perTriad, false,
     [⟨"ADDR", 31, 0, .rw, 0, 0, 0xFFFFFFFF⟩]⟩,
   ⟨"QM_CMLEN", 0xE00F0D04, 1, 0x4, .perTriad, false,
     [⟨"LEN", 31, 0, .rw, 0, 0, 0xFFFFFFFF⟩]⟩,
   ⟨"QM_CMOP", 0xE00F0D08, 1, 0x4, .perTriad, false,
     [⟨"OP", 1, 0, .wo, 0, 0, 0xFFFFFFFF⟩]⟩]

/-- Registers of the QM_ block (R21), from 13_queues_and_dma.md. -/
def regsQm1 : List RegRow :=
  [
   ⟨"QM_CMSTAT", 0xE00F0D0C, 1, 0x4, .perTriad, false,
     [⟨"ERR", 1, 1, .w1c, 0, 0, 0xFFFFFFFF⟩, ⟨"BUSY", 0, 0, .ro, 0, 0, 0xFFFFFFFF⟩]⟩,
   ⟨"QM_BARRIER", 0xE00F0D10, 1, 0x4, .perTriad, false,
     [⟨"ZERO", 31, 0, .ro, 0, 0, 0xFFFFFFFF⟩]⟩]

/-- All registers of the QM_ block. -/
def regsQm : List RegRow := regsQm0 ++ regsQm1

/-- Registers of the IT_ block (R21), from 06_intake_and_tags.md. -/
def regsIt0 : List RegRow :=
  [
   ⟨"IT_CTRL", 0xE0100000, 1, 0x4, .perMast, false,
     [⟨"GAP_EVT", 1, 1, .rwl, 1, 0, 0xFFFFFFFF⟩, ⟨"REL_IRQ", 0, 0, .rw, 0, 0, 0xFFFFFFFF⟩]⟩,
   ⟨"IT_RELCNT", 0xE0100004, 1, 0x4, .agreed, false,
     [⟨"COUNT", 31, 0, .ro, 0, 0, 0xFFFFFFFF⟩]⟩,
   ⟨"IT_RELSTAT", 0xE0100008, 1, 0x4, .perMast, false,
     [⟨"ITEMS", 31, 16, .ro, 0, 0, 0xFFFFFFFF⟩, ⟨"LATENCY", 15, 8, .ro, 0, 0, 0xFFFFFFFF⟩, ⟨"PENDING", 0, 0, .ro, 0, 0, 0xFFFFFFFF⟩]⟩,
   ⟨"IT_HELD", 0xE010000C, 1, 0x4, .agreed, false,
     [⟨"HELD", 15, 0, .ro, 0, 0, 0xFFFFFFFF⟩]⟩,
   ⟨"IT_DISCARD", 0xE0100010, 1, 0x4, .agreed, false,
     [⟨"NOAGREE", 31, 16, .ro, 0, 0, 0xFFFFFFFF⟩, ⟨"SINGLE", 15, 0, .ro, 0, 0, 0xFFFFFFFF⟩]⟩,
   ⟨"IT_ARRIVAL", 0xE0100014, 1, 0x4, .perMast, false,
     [⟨"TAGFAIL", 31, 16, .ro, 0, 0, 0xFFFFFFFF⟩, ⟨"STAGEFULL", 15, 0, .ro, 0, 0, 0xFFFFFFFF⟩]⟩,
   ⟨"IT_FILL", 0xE0100018, 1, 0x4, .perMast, false,
     [⟨"ITEMS", 31, 16, .ro, 0, 0, 0xFFFFFFFF⟩, ⟨"MAXBYTES", 15, 0, .ro, 0, 0, 0xFFFFFFFF⟩]⟩,
   ⟨"IT_GAP", 0xE010001C, 1, 0x4, .agreed, false,
     [⟨"GAPS", 15, 0, .ro, 0, 0, 0xFFFFFFFF⟩]⟩,
   ⟨"IT_EXIT", 0xE0100020, 1, 0x4, .agreed, false,
     [⟨"AGREED", 31, 16, .ro, 0, 0, 0xFFFFFFFF⟩, ⟨"SINGLE", 15, 0, .ro, 0, 0, 0xFFFFFFFF⟩]⟩,
   ⟨"IT_LASTERR", 0xE0100024, 1, 0x4, .agreed, false,
     [⟨"SOURCE", 31, 16, .ro, 0, 0, 0xFFFFFFFF⟩, ⟨"SEQ", 15, 0, .ro, 0, 0, 0xFFFFFFFF⟩]⟩,
   ⟨"IT_ERRKIND", 0xE0100028, 1, 0x4, .agreed, false,
     [⟨"MASTS", 11, 8, .ro, 0, 0, 0xFFFFFFFF⟩, ⟨"KIND", 7, 0, .ro, 0, 0, 0xFFFFFFFF⟩]⟩,
   ⟨"IT_PEER", 0xE010002C, 1, 0x4, .perMast, false,
     [⟨"LATE", 15, 0, .ro, 0, 0, 0xFFFFFFFF⟩]⟩]

/-- All registers of the IT_ block. -/
def regsIt : List RegRow := regsIt0

/-- The registers of the block whose 64 KiB window holds `addr` (R21). -/
def blockRows (addr : Nat) : List RegRow :=
  match (addr - 0xE0000000) / 0x10000 with
  | 0 => regsMc
  | 1 => regsLm
  | 2 => regsTd
  | 3 => regsMi
  | 4 => regsTb
  | 5 => regsNp
  | 6 => regsFb
  | 7 => regsDm
  | 8 => regsFi
  | 9 => regsSp
  | 10 => regsBb
  | 11 => regsEl
  | 12 => regsUp
  | 13 => regsSl
  | 14 => regsSv
  | 15 => regsQm
  | 16 => regsIt
  | _ => []

/-- Does the register row `r` have a copy at `addr`? -/
def RegRow.holds (r : RegRow) (addr : Nat) : Bool :=
  r.base ≤ addr && (addr - r.base) % r.stride == 0 && (addr - r.base) / r.stride < r.count

/-- The register that occupies `addr`, if any (R8: an offset no register occupies reads as zero). -/
def findReg (addr : Nat) : Option RegRow :=
  if 0xE0000000 ≤ addr then (blockRows addr).find? (fun r => r.holds addr) else none

/-- The word a register row reads as after module reset: its fields' reset values (R9). (DESIGN CHOICE, log entry 3) -/
def RegRow.resetWord (r : RegRow) : Word :=
  r.fields.foldl (fun w f => w ||| BitVec.ofNat 32 (f.reset <<< f.lo)) 0

end Sys2Proof.Machine
end

