-- ==== Sys2Proof/Machine/RegNames.lean ====
section
/-!
DEFINITION. Names for the registers and their fields, taken from the same tables as Machine/RegTable.lean:
`r…` is a register's (first copy's) address, `f…` one of its fields.
-/
namespace Sys2Proof.Machine

/-- A register field by address and bit range. -/
structure Fld where
  addr : Nat
  hi : Nat
  lo : Nat
  deriving DecidableEq, Repr

/-- The same field of the copy `off` bytes further on. -/
def Fld.plus (f : Fld) (off : Nat) : Fld := ⟨f.addr + off, f.hi, f.lo⟩

def rMcId : Nat := 0xE0000000
def fMcIdHwtype : Fld := ⟨0xE0000000, 31, 16⟩
def fMcIdIssue : Fld := ⟨0xE0000000, 15, 8⟩
def fMcIdMast : Fld := ⟨0xE0000000, 1, 0⟩
def rMcMode : Nat := 0xE0000004
def fMcModeChanges : Fld := ⟨0xE0000004, 31, 16⟩
def fMcModeLane : Fld := ⟨0xE0000004, 9, 8⟩
def fMcModePrev : Fld := ⟨0xE0000004, 6, 4⟩
def fMcModeMode : Fld := ⟨0xE0000004, 2, 0⟩
def rMcCmd : Nat := 0xE0000008
def fMcCmdKey : Fld := ⟨0xE0000008, 31, 16⟩
def fMcCmdCode : Fld := ⟨0xE0000008, 7, 0⟩
def rMcCmdstat : Nat := 0xE000000C
def fMcCmdstatReason : Fld := ⟨0xE000000C, 23, 16⟩
def fMcCmdstatResult : Fld := ⟨0xE000000C, 10, 8⟩
def fMcCmdstatLastCode : Fld := ⟨0xE000000C, 7, 0⟩
def rMcCtrl : Nat := 0xE0000010
def fMcCtrlHoldPermit : Fld := ⟨0xE0000010, 2, 2⟩
def fMcCtrlColdOnly : Fld := ⟨0xE0000010, 1, 1⟩
def fMcCtrlAutostart : Fld := ⟨0xE0000010, 0, 0⟩
def rMcInhibit : Nat := 0xE0000014
def fMcInhibitBreak : Fld := ⟨0xE0000014, 6, 6⟩
def fMcInhibitConfig : Fld := ⟨0xE0000014, 5, 5⟩
def fMcInhibitService : Fld := ⟨0xE0000014, 4, 4⟩
def fMcInhibitSlotkey : Fld := ⟨0xE0000014, 3, 3⟩
def fMcInhibitNoApp : Fld := ⟨0xE0000014, 2, 2⟩
def fMcInhibitAppMismatch : Fld := ⟨0xE0000014, 1, 1⟩
def fMcInhibitSeal : Fld := ⟨0xE0000014, 0, 0⟩
def rMcStopcause : Nat := 0xE0000018
def fMcStopcauseCause : Fld := ⟨0xE0000018, 7, 0⟩
def rMcRstcause : Nat := 0xE000001C
def fMcRstcauseStuckSeen : Fld := ⟨0xE000001C, 8, 8⟩
def fMcRstcauseStandbyFault : Fld := ⟨0xE000001C, 4, 4⟩
def fMcRstcauseImage : Fld := ⟨0xE000001C, 3, 3⟩
def fMcRstcauseSoftware : Fld := ⟨0xE000001C, 2, 2⟩
def fMcRstcauseButton : Fld := ⟨0xE000001C, 1, 1⟩
def fMcRstcausePor : Fld := ⟨0xE000001C, 0, 0⟩
def rMcButton : Nat := 0xE0000020
def fMcButtonIgnored : Fld := ⟨0xE0000020, 1, 1⟩
def fMcButtonPressed : Fld := ⟨0xE0000020, 0, 0⟩
def rMcBoottime : Nat := 0xE0000024
def fMcBoottimeToRun : Fld := ⟨0xE0000024, 31, 16⟩
def fMcBoottimeToStop : Fld := ⟨0xE0000024, 15, 0⟩
def rMcRestart : Nat := 0xE0000028
def fMcRestartColdReason : Fld := ⟨0xE0000028, 15, 8⟩
def fMcRestartType : Fld := ⟨0xE0000028, 1, 0⟩
def rMcWakecfg : Nat := 0xE000002C
def fMcWakecfgResumeRun : Fld := ⟨0xE000002C, 5, 5⟩
def fMcWakecfgToStop : Fld := ⟨0xE000002C, 4, 4⟩
def fMcWakecfgTimerEn : Fld := ⟨0xE000002C, 3, 3⟩
def fMcWakecfgPhy3En : Fld := ⟨0xE000002C, 2, 2⟩
def fMcWakecfgPhy1En : Fld := ⟨0xE000002C, 1, 1⟩
def fMcWakecfgWakenEn : Fld := ⟨0xE000002C, 0, 0⟩
def rMcWakesecLo : Nat := 0xE0000030
def fMcWakesecLoSecLo : Fld := ⟨0xE0000030, 31, 0⟩
def rMcWakesecHi : Nat := 0xE0000034
def fMcWakesecHiSecHi : Fld := ⟨0xE0000034, 31, 0⟩
def rMcWakesrc : Nat := 0xE0000038
def fMcWakesrcWakeMs : Fld := ⟨0xE0000038, 31, 16⟩
def fMcWakesrcTimer : Fld := ⟨0xE0000038, 3, 3⟩
def fMcWakesrcPhy3 : Fld := ⟨0xE0000038, 2, 2⟩
def fMcWakesrcPhy1 : Fld := ⟨0xE0000038, 1, 1⟩
def fMcWakesrcWaken : Fld := ⟨0xE0000038, 0, 0⟩
def rMcBootdrop : Nat := 0xE0000040
def fMcBootdropCount : Fld := ⟨0xE0000040, 31, 0⟩
def rMcBootarp : Nat := 0xE0000050
def fMcBootarpIcmpDrop : Fld := ⟨0xE0000050, 31, 16⟩
def fMcBootarpArpDrop : Fld := ⟨0xE0000050, 15, 0⟩
def rSlKeystat : Nat := 0xE00D0800
def fSlKeystatReason : Fld := ⟨0xE00D0800, 31, 24⟩
def fSlKeystatSealChanged : Fld := ⟨0xE00D0800, 15, 15⟩
def fSlKeystatSealOk : Fld := ⟨0xE00D0800, 14, 14⟩
def fSlKeystatFromLane : Fld := ⟨0xE00D0800, 13, 13⟩
def fSlKeystatIdentityOk : Fld := ⟨0xE00D0800, 12, 12⟩
def fSlKeystatFormatOk : Fld := ⟨0xE00D0800, 11, 11⟩
def fSlKeystatAgree : Fld := ⟨0xE00D0800, 7, 4⟩
def fSlKeystatPresent : Fld := ⟨0xE00D0800, 0, 0⟩
def rSlSlotid : Nat := 0xE00D0804
def fSlSlotidImage : Fld := ⟨0xE00D0804, 12, 8⟩
def fSlSlotidPins : Fld := ⟨0xE00D0804, 4, 0⟩
def rSlSealsw : Nat := 0xE00D0808
def fSlSealswValue : Fld := ⟨0xE00D0808, 31, 0⟩
def rSlSealcrc : Nat := 0xE00D080C
def fSlSealcrcCrc : Fld := ⟨0xE00D080C, 31, 0⟩
def rSlSealnow : Nat := 0xE00D0810
def fSlSealnowValue : Fld := ⟨0xE00D0810, 31, 0⟩
def rSlSealfrm : Nat := 0xE00D0814
def fSlSealfrmFrame : Fld := ⟨0xE00D0814, 7, 0⟩
def rSlImglen : Nat := 0xE00D0818
def fSlImglenTotalLen : Fld := ⟨0xE00D0818, 19, 0⟩
def rSlCfgver : Nat := 0xE00D081C
def fSlCfgverVersion : Fld := ⟨0xE00D081C, 31, 0⟩
def rSlDigest : Nat := 0xE00D0820
def fSlDigestWord : Fld := ⟨0xE00D0820, 31, 0⟩
def rSlAppfetch : Nat := 0xE00D0850
def fSlAppfetchAttempts : Fld := ⟨0xE00D0850, 31, 16⟩
def fSlAppfetchLastReason : Fld := ⟨0xE00D0850, 10, 8⟩
def fSlAppfetchState : Fld := ⟨0xE00D0850, 1, 0⟩
def rSlImgaddr : Nat := 0xE00D0854
def fSlImgaddrAddr : Fld := ⟨0xE00D0854, 31, 0⟩
def rTdId : Nat := 0xE0020000
def fTdIdCores : Fld := ⟨0xE0020000, 31, 24⟩
def fTdIdStagger1 : Fld := ⟨0xE0020000, 23, 16⟩
def fTdIdStagger2 : Fld := ⟨0xE0020000, 15, 8⟩
def fTdIdRev : Fld := ⟨0xE0020000, 7, 0⟩
def rTdCtrl : Nat := 0xE0020004
def fTdCtrlResyncLimit : Fld := ⟨0xE0020004, 4, 0⟩
def rTdInject : Nat := 0xE0020008
def fTdInjectKey : Fld := ⟨0xE0020008, 31, 24⟩
def fTdInjectMast : Fld := ⟨0xE0020008, 17, 16⟩
def fTdInjectTriad : Fld := ⟨0xE0020008, 12, 12⟩
def fTdInjectCore : Fld := ⟨0xE0020008, 9, 8⟩
def fTdInjectKind : Fld := ⟨0xE0020008, 3, 0⟩
def rTdStat : Nat := 0xE002000C
def fTdStatSilrecValid : Fld := ⟨0xE002000C, 16, 16⟩
def fTdStatOutC : Fld := ⟨0xE002000C, 11, 10⟩
def fTdStatStateC : Fld := ⟨0xE002000C, 9, 8⟩
def fTdStatOutP : Fld := ⟨0xE002000C, 3, 2⟩
def fTdStatStateP : Fld := ⟨0xE002000C, 1, 0⟩
def rTdClkstat : Nat := 0xE0020010
def fTdClkstatRcOk : Fld := ⟨0xE0020010, 2, 2⟩
def fTdClkstatXtalOk : Fld := ⟨0xE0020010, 1, 1⟩
def fTdClkstatPllLock : Fld := ⟨0xE0020010, 0, 0⟩
def rTdHealth : Nat := 0xE0020014
def fTdHealthVddrOk : Fld := ⟨0xE0020014, 19, 19⟩
def fTdHealthVioOk : Fld := ⟨0xE0020014, 18, 18⟩
def fTdHealthVcoreOk : Fld := ⟨0xE0020014, 17, 17⟩
def fTdHealthTempWarn : Fld := ⟨0xE0020014, 16, 16⟩
def fTdHealthTemp : Fld := ⟨0xE0020014, 15, 0⟩
def rTdFence : Nat := 0xE0020018
def fTdFenceDram : Fld := ⟨0xE0020018, 22, 16⟩
def fTdFenceSram : Fld := ⟨0xE0020018, 7, 0⟩
def rTdResync : Nat := 0xE0020020
def fTdResyncC : Fld := ⟨0xE0020020, 31, 16⟩
def fTdResyncP : Fld := ⟨0xE0020020, 15, 0⟩
def rTdLastrs : Nat := 0xE0020030
def fTdLastrsDuration : Fld := ⟨0xE0020030, 31, 16⟩
def fTdLastrsKind : Fld := ⟨0xE0020030, 15, 12⟩
def fTdLastrsWho : Fld := ⟨0xE0020030, 11, 0⟩
def rTdRsfail : Nat := 0xE0020034
def fTdRsfailJ : Fld := ⟨0xE0020034, 31, 24⟩
def fTdRsfailC : Fld := ⟨0xE0020034, 23, 16⟩
def fTdRsfailB : Fld := ⟨0xE0020034, 15, 8⟩
def fTdRsfailA : Fld := ⟨0xE0020034, 7, 0⟩
def rTdInjstat : Nat := 0xE0020038
def fTdInjstatResult : Fld := ⟨0xE0020038, 18, 16⟩
def fTdInjstatLast : Fld := ⟨0xE0020038, 15, 0⟩
def rTdTempall : Nat := 0xE002003C
def fTdTempallJ : Fld := ⟨0xE002003C, 31, 24⟩
def fTdTempallC : Fld := ⟨0xE002003C, 23, 16⟩
def fTdTempallB : Fld := ⟨0xE002003C, 15, 8⟩
def fTdTempallA : Fld := ⟨0xE002003C, 7, 0⟩
def rTdSilrec : Nat := 0xE0020040
def fTdSilrecWord : Fld := ⟨0xE0020040, 31, 0⟩
def rTdSilclr : Nat := 0xE0020060
def fTdSilclrKey : Fld := ⟨0xE0020060, 31, 16⟩
def rLmStat : Nat := 0xE0010000
def fLmStatJoinPhase : Fld := ⟨0xE0010000, 27, 24⟩
def fLmStatIsolated : Fld := ⟨0xE0010000, 23, 20⟩
def fLmStatActive : Fld := ⟨0xE0010000, 19, 16⟩
def fLmStatSpare : Fld := ⟨0xE0010000, 12, 12⟩
def fLmStatPosC : Fld := ⟨0xE0010000, 9, 8⟩
def fLmStatPosB : Fld := ⟨0xE0010000, 7, 6⟩
def fLmStatPosA : Fld := ⟨0xE0010000, 5, 4⟩
def fLmStatLane : Fld := ⟨0xE0010000, 1, 0⟩
def rLmSelf : Nat := 0xE0010004
def fLmSelfPosition : Fld := ⟨0xE0010004, 5, 4⟩
def fLmSelfMast : Fld := ⟨0xE0010004, 1, 0⟩
def rLmHbstat : Nat := 0xE0010008
def fLmHbstatPeer : Fld := ⟨0xE0010008, 15, 0⟩
def rLmHbmiss : Nat := 0xE0010010
def fLmHbmissHb2 : Fld := ⟨0xE0010010, 31, 16⟩
def fLmHbmissHb1 : Fld := ⟨0xE0010010, 15, 0⟩
def rLmCmtcyc : Nat := 0xE0010020
def fLmCmtcycCycle : Fld := ⟨0xE0010020, 31, 0⟩
def rLmCmtdigLo : Nat := 0xE0010024
def fLmCmtdigLoDigLo : Fld := ⟨0xE0010024, 31, 0⟩
def rLmCmtdigHi : Nat := 0xE0010028
def fLmCmtdigHiDigHi : Fld := ⟨0xE0010028, 31, 0⟩
def rLmVote : Nat := 0xE001002C
def fLmVoteNocommit : Fld := ⟨0xE001002C, 31, 16⟩
def fLmVotePosC : Fld := ⟨0xE001002C, 5, 4⟩
def fLmVotePosB : Fld := ⟨0xE001002C, 3, 2⟩
def fLmVotePosA : Fld := ⟨0xE001002C, 1, 0⟩
def rLmOwner : Nat := 0xE0010030
def fLmOwnerPending : Fld := ⟨0xE0010030, 23, 16⟩
def fLmOwnerOwner : Fld := ⟨0xE0010030, 15, 0⟩
def rLmOwnpref : Nat := 0xE0010034
def fLmOwnprefPref : Fld := ⟨0xE0010034, 15, 0⟩
def rLmTxabort : Nat := 0xE0010040
def fLmTxabortUnconfirmed : Fld := ⟨0xE0010040, 31, 16⟩
def fLmTxabortMismatch : Fld := ⟨0xE0010040, 15, 0⟩
def rLmHandover : Nat := 0xE0010060
def fLmHandoverForced : Fld := ⟨0xE0010060, 31, 24⟩
def fLmHandoverNormal : Fld := ⟨0xE0010060, 23, 16⟩
def fLmHandoverLastFrom : Fld := ⟨0xE0010060, 9, 8⟩
def fLmHandoverLastUnit : Fld := ⟨0xE0010060, 7, 5⟩
def fLmHandoverLastForced : Fld := ⟨0xE0010060, 4, 4⟩
def fLmHandoverLastTo : Fld := ⟨0xE0010060, 1, 0⟩
def rLmLoss : Nat := 0xE0010064
def fLmLossCount : Fld := ⟨0xE0010064, 31, 24⟩
def fLmLossCause : Fld := ⟨0xE0010064, 15, 8⟩
def fLmLossPosition : Fld := ⟨0xE0010064, 5, 4⟩
def fLmLossMast : Fld := ⟨0xE0010064, 1, 0⟩
def rLmLosssec : Nat := 0xE0010068
def fLmLosssecSec : Fld := ⟨0xE0010068, 31, 0⟩
def rLmLossns : Nat := 0xE001006C
def fLmLossnsNsec : Fld := ⟨0xE001006C, 29, 0⟩
def rLmJoin : Nat := 0xE0010070
def fLmJoinElapsed : Fld := ⟨0xE0010070, 31, 16⟩
def fLmJoinFailReason : Fld := ⟨0xE0010070, 15, 8⟩
def fLmJoinTarget : Fld := ⟨0xE0010070, 5, 4⟩
def fLmJoinPhase : Fld := ⟨0xE0010070, 3, 0⟩
def rLmJoinstat : Nat := 0xE0010074
def fLmJoinstatJoins : Fld := ⟨0xE0010074, 31, 24⟩
def fLmJoinstatFails : Fld := ⟨0xE0010074, 23, 16⟩
def fLmJoinstatDeferred : Fld := ⟨0xE0010074, 15, 8⟩
def fLmJoinstatFinalPages : Fld := ⟨0xE0010074, 7, 0⟩
def rLmCtrl : Nat := 0xE0010078
def fLmCtrlSpareEn : Fld := ⟨0xE0010078, 0, 0⟩
def rLmJoinctl : Nat := 0xE001007C
def fLmJoinctlKey : Fld := ⟨0xE001007C, 31, 16⟩
def fLmJoinctlReady : Fld := ⟨0xE001007C, 0, 0⟩
def rLmCkbase : Nat := 0xE0010080
def fLmCkbaseBase : Fld := ⟨0xE0010080, 31, 12⟩
def rLmCklen : Nat := 0xE00100A0
def fLmCklenPages : Fld := ⟨0xE00100A0, 10, 0⟩
def rLmCkstat : Nat := 0xE00100C0
def fLmCkstatDirtyMax : Fld := ⟨0xE00100C0, 31, 16⟩
def fLmCkstatTotal : Fld := ⟨0xE00100C0, 10, 0⟩
def rLmFinalmax : Nat := 0xE00100C4
def fLmFinalmaxPages : Fld := ⟨0xE00100C4, 15, 0⟩
def rLmCycend : Nat := 0xE00100C8
def fLmCycendCycle : Fld := ⟨0xE00100C8, 31, 0⟩
def rLmCycgo : Nat := 0xE00100CC
def fLmCycgoGo : Fld := ⟨0xE00100CC, 0, 0⟩
def rLmCkcyc : Nat := 0xE00100D0
def fLmCkcycCycle : Fld := ⟨0xE00100D0, 31, 0⟩
def rItCtrl : Nat := 0xE0100000
def fItCtrlGapEvt : Fld := ⟨0xE0100000, 1, 1⟩
def fItCtrlRelIrq : Fld := ⟨0xE0100000, 0, 0⟩
def rItRelcnt : Nat := 0xE0100004
def fItRelcntCount : Fld := ⟨0xE0100004, 31, 0⟩
def rItRelstat : Nat := 0xE0100008
def fItRelstatItems : Fld := ⟨0xE0100008, 31, 16⟩
def fItRelstatLatency : Fld := ⟨0xE0100008, 15, 8⟩
def fItRelstatPending : Fld := ⟨0xE0100008, 0, 0⟩
def rItHeld : Nat := 0xE010000C
def fItHeldHeld : Fld := ⟨0xE010000C, 15, 0⟩
def rItDiscard : Nat := 0xE0100010
def fItDiscardNoagree : Fld := ⟨0xE0100010, 31, 16⟩
def fItDiscardSingle : Fld := ⟨0xE0100010, 15, 0⟩
def rItArrival : Nat := 0xE0100014
def fItArrivalTagfail : Fld := ⟨0xE0100014, 31, 16⟩
def fItArrivalStagefull : Fld := ⟨0xE0100014, 15, 0⟩
def rItFill : Nat := 0xE0100018
def fItFillItems : Fld := ⟨0xE0100018, 31, 16⟩
def fItFillMaxbytes : Fld := ⟨0xE0100018, 15, 0⟩
def rItGap : Nat := 0xE010001C
def fItGapGaps : Fld := ⟨0xE010001C, 15, 0⟩
def rItExit : Nat := 0xE0100020
def fItExitAgreed : Fld := ⟨0xE0100020, 31, 16⟩
def fItExitSingle : Fld := ⟨0xE0100020, 15, 0⟩
def rItLasterr : Nat := 0xE0100024
def fItLasterrSource : Fld := ⟨0xE0100024, 31, 16⟩
def fItLasterrSeq : Fld := ⟨0xE0100024, 15, 0⟩
def rItErrkind : Nat := 0xE0100028
def fItErrkindMasts : Fld := ⟨0xE0100028, 11, 8⟩
def fItErrkindKind : Fld := ⟨0xE0100028, 7, 0⟩
def rItPeer : Nat := 0xE010002C
def fItPeerLate : Fld := ⟨0xE010002C, 15, 0⟩
def rTbStat : Nat := 0xE0040000
def fTbStatGmchg : Fld := ⟨0xE0040000, 23, 16⟩
def fTbStatAcqDone : Fld := ⟨0xE0040000, 10, 10⟩
def fTbStatPort : Fld := ⟨0xE0040000, 9, 8⟩
def fTbStatSrc : Fld := ⟨0xE0040000, 6, 4⟩
def fTbStatState : Fld := ⟨0xE0040000, 2, 0⟩
def rTbSteplim : Nat := 0xE0040004
def fTbSteplimLimitUs : Fld := ⟨0xE0040004, 19, 0⟩
def rTbRate : Nat := 0xE0040008
def fTbRatePpb : Fld := ⟨0xE0040008, 31, 0⟩
def rTbOffset : Nat := 0xE004000C
def fTbOffsetNs : Fld := ⟨0xE004000C, 31, 0⟩
def rTbSlewrem : Nat := 0xE0040010
def fTbSlewremNs : Fld := ⟨0xE0040010, 31, 0⟩
def rTbStepns : Nat := 0xE0040014
def fTbStepnsValue : Fld := ⟨0xE0040014, 31, 0⟩
def rTbStepslo : Nat := 0xE0040018
def fTbStepsloValue : Fld := ⟨0xE0040018, 31, 0⟩
def rTbStepshi : Nat := 0xE004001C
def fTbStepshiValue : Fld := ⟨0xE004001C, 31, 0⟩
def rTbStepcmd : Nat := 0xE0040020
def fTbStepcmdKey : Fld := ⟨0xE0040020, 31, 16⟩
def fTbStepcmdKind : Fld := ⟨0xE0040020, 1, 0⟩
def rTbNowns : Nat := 0xE0040024
def fTbNownsValue : Fld := ⟨0xE0040024, 31, 0⟩
def rTbNowslo : Nat := 0xE0040028
def fTbNowsloValue : Fld := ⟨0xE0040028, 31, 0⟩
def rTbNowshi : Nat := 0xE004002C
def fTbNowshiValue : Fld := ⟨0xE004002C, 31, 0⟩
def rTbIncrInt : Nat := 0xE0040030
def fTbIncrIntNs : Fld := ⟨0xE0040030, 7, 0⟩
def rTbIncrFrac : Nat := 0xE0040034
def fTbIncrFracFrac : Fld := ⟨0xE0040034, 31, 0⟩
def rTbLane : Nat := 0xE0040038
def fTbLaneTrim : Fld := ⟨0xE0040038, 31, 16⟩
def fTbLaneOfs : Fld := ⟨0xE0040038, 15, 0⟩
def rTbBand : Nat := 0xE004003C
def fTbBandExcess : Fld := ⟨0xE004003C, 31, 16⟩
def fTbBandOut : Fld := ⟨0xE004003C, 3, 0⟩
def rTbAinumLo : Nat := 0xE0040040
def fTbAinumLoNum : Fld := ⟨0xE0040040, 31, 0⟩
def rTbAinumHi : Nat := 0xE0040044
def fTbAinumHiNum : Fld := ⟨0xE0040044, 31, 0⟩
def rTbAicycle : Nat := 0xE0040048
def fTbAicycleCycleUs : Fld := ⟨0xE0040048, 14, 0⟩
def rTbAioffset : Nat := 0xE004004C
def fTbAioffsetOffsetNs : Fld := ⟨0xE004004C, 24, 0⟩
def rTbAistat : Nat := 0xE0040050
def fTbAistatLastUs : Fld := ⟨0xE0040050, 31, 16⟩
def fTbAistatCount : Fld := ⟨0xE0040050, 15, 0⟩
def rTbHold : Nat := 0xE0040054
def fTbHoldSec : Fld := ⟨0xE0040054, 31, 0⟩
def rTbAibiasLo : Nat := 0xE0040058
def fTbAibiasLoBias : Fld := ⟨0xE0040058, 31, 0⟩
def rTbAibiasHi : Nat := 0xE004005C
def fTbAibiasHiBias : Fld := ⟨0xE004005C, 31, 0⟩
def rTbTsqstat : Nat := 0xE0040100
def fTbTsqstatOvfcnt : Fld := ⟨0xE0040100, 31, 16⟩
def fTbTsqstatOvf : Fld := ⟨0xE0040100, 8, 8⟩
def fTbTsqstatCount : Fld := ⟨0xE0040100, 4, 0⟩
def rTbTsqpop : Nat := 0xE0040104
def fTbTsqpopValid : Fld := ⟨0xE0040104, 31, 31⟩
def fTbTsqpopId : Fld := ⟨0xE0040104, 15, 0⟩
def rTbTsqns : Nat := 0xE0040108
def fTbTsqnsValue : Fld := ⟨0xE0040108, 31, 0⟩
def rTbTsqslo : Nat := 0xE004010C
def fTbTsqsloValue : Fld := ⟨0xE004010C, 31, 0⟩
def rTbTsqshi : Nat := 0xE0040110
def fTbTsqshiValue : Fld := ⟨0xE0040110, 31, 0⟩
def rTbPoslo : Nat := 0xE0040200
def fTbPosloPos : Fld := ⟨0xE0040200, 31, 0⟩
def rTbPoshi : Nat := 0xE0040204
def fTbPoshiPos : Fld := ⟨0xE0040204, 15, 0⟩
def rTbAxstat : Nat := 0xE0040208
def fTbAxstatQerr : Fld := ⟨0xE0040208, 31, 16⟩
def fTbAxstatRepairs : Fld := ⟨0xE0040208, 15, 8⟩
def fTbAxstatGap : Fld := ⟨0xE0040208, 4, 4⟩
def fTbAxstatOverrate : Fld := ⟨0xE0040208, 3, 3⟩
def fTbAxstatDir : Fld := ⟨0xE0040208, 1, 0⟩
def rTbEdges : Nat := 0xE004020C
def fTbEdgesCount : Fld := ⟨0xE004020C, 31, 0⟩
def rTbPqctl : Nat := 0xE0040240
def fTbPqctlGo : Fld := ⟨0xE0040240, 31, 31⟩
def fTbPqctlAxle : Fld := ⟨0xE0040240, 16, 16⟩
def fTbPqctlResult : Fld := ⟨0xE0040240, 1, 0⟩
def rTbPqsec : Nat := 0xE0040244
def fTbPqsecValue : Fld := ⟨0xE0040244, 31, 0⟩
def rTbPqns : Nat := 0xE0040248
def fTbPqnsValue : Fld := ⟨0xE0040248, 31, 0⟩
def rTbPqreslo : Nat := 0xE004024C
def fTbPqresloPos : Fld := ⟨0xE004024C, 31, 0⟩
def rTbPqreshi : Nat := 0xE0040250
def fTbPqreshiPos : Fld := ⟨0xE0040250, 31, 0⟩
def rTbCmpfiredLo : Nat := 0xE0040300
def fTbCmpfiredLoFired : Fld := ⟨0xE0040300, 31, 0⟩
def rTbCmpfiredHi : Nat := 0xE0040304
def fTbCmpfiredHiFired : Fld := ⟨0xE0040304, 31, 0⟩
def rTbCmplocalLo : Nat := 0xE0040308
def fTbCmplocalLoFired : Fld := ⟨0xE0040308, 31, 0⟩
def rTbCmplocalHi : Nat := 0xE004030C
def fTbCmplocalHiFired : Fld := ⟨0xE004030C, 31, 0⟩
def rTbCmpcfg : Nat := 0xE0041000
def fTbCmpcfgArg : Fld := ⟨0xE0041000, 31, 24⟩
def fTbCmpcfgDmach : Fld := ⟨0xE0041000, 20, 16⟩
def fTbCmpcfgPeriodic : Fld := ⟨0xE0041000, 15, 15⟩
def fTbCmpcfgIrqC : Fld := ⟨0xE0041000, 14, 14⟩
def fTbCmpcfgIrqP : Fld := ⟨0xE0041000, 13, 13⟩
def fTbCmpcfgLog : Fld := ⟨0xE0041000, 12, 12⟩
def fTbCmpcfgDbus : Fld := ⟨0xE0041000, 11, 11⟩
def fTbCmpcfgOut : Fld := ⟨0xE0041000, 10, 10⟩
def fTbCmpcfgDma : Fld := ⟨0xE0041000, 9, 9⟩
def fTbCmpcfgEvt : Fld := ⟨0xE0041000, 8, 8⟩
def fTbCmpcfgPast : Fld := ⟨0xE0041000, 7, 7⟩
def fTbCmpcfgDir : Fld := ⟨0xE0041000, 6, 5⟩
def fTbCmpcfgRel : Fld := ⟨0xE0041000, 4, 4⟩
def fTbCmpcfgSrc : Fld := ⟨0xE0041000, 3, 1⟩
def fTbCmpcfgArm : Fld := ⟨0xE0041000, 0, 0⟩
def rTbCmpt0 : Nat := 0xE0041004
def fTbCmpt0Value : Fld := ⟨0xE0041004, 31, 0⟩
def rTbCmpt1 : Nat := 0xE0041008
def fTbCmpt1Value : Fld := ⟨0xE0041008, 31, 0⟩
def rTbCmpt2 : Nat := 0xE004100C
def fTbCmpt2Value : Fld := ⟨0xE004100C, 31, 0⟩
def rTbCmpper : Nat := 0xE0041010
def fTbCmpperNs : Fld := ⟨0xE0041010, 31, 0⟩
def rTbCmpst : Nat := 0xE0041014
def fTbCmpstFires : Fld := ⟨0xE0041014, 31, 16⟩
def fTbCmpstReason : Fld := ⟨0xE0041014, 15, 8⟩
def fTbCmpstStepped : Fld := ⟨0xE0041014, 3, 3⟩
def fTbCmpstMissed : Fld := ⟨0xE0041014, 2, 2⟩
def fTbCmpstLate : Fld := ⟨0xE0041014, 1, 1⟩
def fTbCmpstFired : Fld := ⟨0xE0041014, 0, 0⟩
def rTbCmpfns : Nat := 0xE0041018
def fTbCmpfnsValue : Fld := ⟨0xE0041018, 31, 0⟩
def rTbCmpfs : Nat := 0xE004101C
def fTbCmpfsValue : Fld := ⟨0xE004101C, 31, 0⟩
def rFbCtrl : Nat := 0xE0060000
def fFbCtrlRxIrq : Fld := ⟨0xE0060000, 3, 3⟩
def fFbCtrlTest : Fld := ⟨0xE0060000, 1, 1⟩
def fFbCtrlPresent : Fld := ⟨0xE0060000, 0, 0⟩
def rFbStat : Nat := 0xE0060004
def fFbStatCycle : Fld := ⟨0xE0060004, 31, 16⟩
def fFbStatActive : Fld := ⟨0xE0060004, 15, 8⟩
def fFbStatYfault : Fld := ⟨0xE0060004, 4, 4⟩
def fFbStatXfault : Fld := ⟨0xE0060004, 3, 3⟩
def fFbStatState : Fld := ⟨0xE0060004, 2, 0⟩
def rFbSched : Nat := 0xE0060008
def fFbSchedSchedId : Fld := ⟨0xE0060008, 31, 0⟩
def rFbShape : Nat := 0xE006000C
def fFbShapeNodeTimeout : Fld := ⟨0xE006000C, 31, 24⟩
def fFbShapeClaimSlot : Fld := ⟨0xE006000C, 23, 16⟩
def fFbShapeNNodes : Fld := ⟨0xE006000C, 15, 8⟩
def fFbShapeNSlots : Fld := ⟨0xE006000C, 7, 0⟩
def rFbErrx : Nat := 0xE0060010
def fFbErrxCrc : Fld := ⟨0xE0060010, 31, 16⟩
def fFbErrxLength : Fld := ⟨0xE0060010, 15, 8⟩
def fFbErrxEcho : Fld := ⟨0xE0060010, 7, 0⟩
def rFbErry : Nat := 0xE0060014
def fFbErryCrc : Fld := ⟨0xE0060014, 31, 16⟩
def fFbErryLength : Fld := ⟨0xE0060014, 15, 8⟩
def fFbErryEcho : Fld := ⟨0xE0060014, 7, 0⟩
def rFbEmpty : Nat := 0xE0060018
def fFbEmptyCount : Fld := ⟨0xE0060018, 31, 0⟩
def rFbTiming : Nat := 0xE006001C
def fFbTimingEarly : Fld := ⟨0xE006001C, 31, 16⟩
def fFbTimingLate : Fld := ⟨0xE006001C, 15, 0⟩
def rFbStale : Nat := 0xE0060020
def fFbStaleForeign : Fld := ⟨0xE0060020, 31, 16⟩
def fFbStaleStale : Fld := ⟨0xE0060020, 15, 0⟩
def rFbMerge : Nat := 0xE0060024
def fFbMergeSingle : Fld := ⟨0xE0060024, 31, 16⟩
def fFbMergeDiffer : Fld := ⟨0xE0060024, 15, 0⟩
def rFbExclLo : Nat := 0xE0060028
def fFbExclLoNodes : Fld := ⟨0xE0060028, 31, 0⟩
def rFbExclHi : Nat := 0xE006002C
def fFbExclHiNodes : Fld := ⟨0xE006002C, 31, 0⟩
def rFbClaim : Nat := 0xE0060030
def fFbClaimGrants : Fld := ⟨0xE0060030, 31, 24⟩
def fFbClaimRefused : Fld := ⟨0xE0060030, 23, 16⟩
def fFbClaimWithdrawn : Fld := ⟨0xE0060030, 15, 8⟩
def fFbClaimCollisions : Fld := ⟨0xE0060030, 7, 0⟩
def rFbLastclaim : Nat := 0xE0060034
def fFbLastclaimResult : Fld := ⟨0xE0060034, 31, 24⟩
def fFbLastclaimReason : Fld := ⟨0xE0060034, 23, 16⟩
def fFbLastclaimSlot : Fld := ⟨0xE0060034, 15, 8⟩
def fFbLastclaimNode : Fld := ⟨0xE0060034, 7, 0⟩
def rFbTxlate : Nat := 0xE0060038
def fFbTxlateX : Fld := ⟨0xE0060038, 31, 16⟩
def fFbTxlateY : Fld := ⟨0xE0060038, 15, 0⟩
def rFbRecov : Nat := 0xE006003C
def fFbRecovCsmiss : Fld := ⟨0xE006003C, 31, 16⟩
def fFbRecovRecovers : Fld := ⟨0xE006003C, 15, 0⟩
def rFbSupp : Nat := 0xE0060040
def fFbSuppOutlen : Fld := ⟨0xE0060040, 31, 16⟩
def fFbSuppSuppressed : Fld := ⟨0xE0060040, 15, 0⟩
def rFbPre : Nat := 0xE0060044
def fFbPreCount : Fld := ⟨0xE0060044, 31, 0⟩
def rFbSlotrpt0 : Nat := 0xE0060080
def fFbSlotrpt0Codes : Fld := ⟨0xE0060080, 31, 0⟩
def rFbSlotrpt1 : Nat := 0xE0060880
def fFbSlotrpt1Codes : Fld := ⟨0xE0060880, 31, 0⟩
def rFbNode0 : Nat := 0xE0060100
def fFbNode0Age : Fld := ⟨0xE0060100, 31, 24⟩
def fFbNode0Grant : Fld := ⟨0xE0060100, 23, 16⟩
def fFbNode0Ofs : Fld := ⟨0xE0060100, 15, 8⟩
def fFbNode0Viol : Fld := ⟨0xE0060100, 7, 4⟩
def fFbNode0Latecomer : Fld := ⟨0xE0060100, 3, 3⟩
def fFbNode0State : Fld := ⟨0xE0060100, 2, 0⟩
def rFbNode1 : Nat := 0xE0060900
def fFbNode1Age : Fld := ⟨0xE0060900, 31, 24⟩
def fFbNode1Grant : Fld := ⟨0xE0060900, 23, 16⟩
def fFbNode1Ofs : Fld := ⟨0xE0060900, 15, 8⟩
def fFbNode1Viol : Fld := ⟨0xE0060900, 7, 4⟩
def fFbNode1Latecomer : Fld := ⟨0xE0060900, 3, 3⟩
def fFbNode1State : Fld := ⟨0xE0060900, 2, 0⟩
def rFiStat : Nat := 0xE0080000
def fFiStatRegime : Fld := ⟨0xE0080000, 17, 16⟩
def fFiStatSilent : Fld := ⟨0xE0080000, 15, 12⟩
def fFiStatValid : Fld := ⟨0xE0080000, 11, 8⟩
def fFiStatConfigured : Fld := ⟨0xE0080000, 0, 0⟩
def rFiXbar : Nat := 0xE0080004
def fFiXbarNolink : Fld := ⟨0xE0080004, 8, 6⟩
def fFiXbarPosC : Fld := ⟨0xE0080004, 5, 4⟩
def fFiXbarPosB : Fld := ⟨0xE0080004, 3, 2⟩
def fFiXbarPosA : Fld := ⟨0xE0080004, 1, 0⟩
def rFiCfgcrc : Nat := 0xE0080008
def fFiCfgcrcCrc : Fld := ⟨0xE0080008, 31, 0⟩
def rFiCfg : Nat := 0xE008000C
def fFiCfgTestRound : Fld := ⟨0xE008000C, 31, 16⟩
def fFiCfgTimeout : Fld := ⟨0xE008000C, 15, 0⟩
def rFiSupply : Nat := 0xE0080010
def fFiSupplyChanges : Fld := ⟨0xE0080010, 31, 16⟩
def fFiSupplyState : Fld := ⟨0xE0080010, 7, 0⟩
def rFiInLo : Nat := 0xE0080014
def fFiInLoLevel : Fld := ⟨0xE0080014, 31, 0⟩
def rFiInHi : Nat := 0xE0080018
def fFiInHiLevel : Fld := ⟨0xE0080018, 31, 0⟩
def rFiInvLo : Nat := 0xE008001C
def fFiInvLoInvalid : Fld := ⟨0xE008001C, 31, 0⟩
def rFiInvHi : Nat := 0xE0080020
def fFiInvHiInvalid : Fld := ⟨0xE0080020, 31, 0⟩
def rFiPair : Nat := 0xE0080024
def fFiPairOn : Fld := ⟨0xE0080024, 23, 0⟩
def rFiPairdisc : Nat := 0xE0080028
def fFiPairdiscDisc : Fld := ⟨0xE0080028, 23, 0⟩
def rFiOutRb : Nat := 0xE008002C
def fFiOutRbRb : Fld := ⟨0xE008002C, 23, 0⟩
def rFiOutCmd : Nat := 0xE0080030
def fFiOutCmdOn : Fld := ⟨0xE0080030, 23, 0⟩
def rFiOutVoted : Nat := 0xE0080034
def fFiOutVotedOn : Fld := ⟨0xE0080034, 23, 0⟩
def rFiSupv : Nat := 0xE0080038
def fFiSupvForced : Fld := ⟨0xE0080038, 23, 0⟩
def rFiSvcEn : Nat := 0xE008003C
def fFiSvcEnEn : Fld := ⟨0xE008003C, 23, 0⟩
def rFiSvcVal : Nat := 0xE0080040
def fFiSvcValVal : Fld := ⟨0xE0080040, 23, 0⟩
def rFiTest : Nat := 0xE0080044
def fFiTestDone : Fld := ⟨0xE0080044, 31, 16⟩
def fFiTestFailed : Fld := ⟨0xE0080044, 15, 8⟩
def fFiTestDiscarded : Fld := ⟨0xE0080044, 7, 0⟩
def rFiLink : Nat := 0xE0080048
def fFiLinkRxerr : Fld := ⟨0xE0080048, 31, 16⟩
def fFiLinkEngerr : Fld := ⟨0xE0080048, 15, 0⟩
def rFiQctl : Nat := 0xE0080100
def fFiQctlClear : Fld := ⟨0xE0080100, 2, 2⟩
def fFiQctlFired : Fld := ⟨0xE0080100, 1, 1⟩
def fFiQctlArmed : Fld := ⟨0xE0080100, 0, 0⟩
def rFiQmask : Nat := 0xE0080104
def fFiQmaskBits : Fld := ⟨0xE0080104, 23, 0⟩
def rFiQval : Nat := 0xE0080108
def fFiQvalBits : Fld := ⟨0xE0080108, 23, 0⟩
def rFiOut : Nat := 0xE0080200
def fFiOutRetries : Fld := ⟨0xE0080200, 31, 28⟩
def fFiOutSwfault : Fld := ⟨0xE0080200, 27, 22⟩
def fFiOutSilence : Fld := ⟨0xE0080200, 21, 20⟩
def fFiOutLasttest : Fld := ⟨0xE0080200, 19, 16⟩
def fFiOutDark : Fld := ⟨0xE0080200, 15, 15⟩
def fFiOutOpenload : Fld := ⟨0xE0080200, 11, 11⟩
def fFiOutExtfeed : Fld := ⟨0xE0080200, 10, 10⟩
def fFiOutClim : Fld := ⟨0xE0080200, 9, 9⟩
def fFiOutLocked : Fld := ⟨0xE0080200, 8, 8⟩
def fFiOutMid : Fld := ⟨0xE0080200, 7, 5⟩
def fFiOutRb : Fld := ⟨0xE0080200, 4, 4⟩
def fFiOutTherm : Fld := ⟨0xE0080200, 3, 3⟩
def fFiOutBranches : Fld := ⟨0xE0080200, 2, 0⟩
def rSpStat : Nat := 0xE0090000
def fSpStatDirSel : Fld := ⟨0xE0090000, 7, 7⟩
def fSpStatOdo : Fld := ⟨0xE0090000, 6, 6⟩
def fSpStatSlip : Fld := ⟨0xE0090000, 5, 5⟩
def fSpStatBerth : Fld := ⟨0xE0090000, 4, 4⟩
def fSpStatZero : Fld := ⟨0xE0090000, 3, 3⟩
def fSpStatLatched : Fld := ⟨0xE0090000, 2, 2⟩
def fSpStatSelftest : Fld := ⟨0xE0090000, 1, 1⟩
def fSpStatActive : Fld := ⟨0xE0090000, 0, 0⟩
def rSpLatch : Nat := 0xE0090004
def fSpLatchOdo : Fld := ⟨0xE0090004, 13, 13⟩
def fSpLatchDir : Fld := ⟨0xE0090004, 12, 12⟩
def fSpLatchWin : Fld := ⟨0xE0090004, 11, 8⟩
def fSpLatchSls : Fld := ⟨0xE0090004, 7, 0⟩
def rSpAck : Nat := 0xE0090008
def fSpAckKey : Fld := ⟨0xE0090008, 31, 16⟩
def fSpAckMask : Fld := ⟨0xE0090008, 13, 0⟩
def rSpWindow : Nat := 0xE009000C
def fSpWindowInrange : Fld := ⟨0xE009000C, 7, 4⟩
def fSpWindowPermit : Fld := ⟨0xE009000C, 3, 0⟩
def rSpSlsact : Nat := 0xE0090010
def fSpSlsactExceeded : Fld := ⟨0xE0090010, 23, 16⟩
def fSpSlsactSupervised : Fld := ⟨0xE0090010, 15, 8⟩
def fSpSlsactSelected : Fld := ⟨0xE0090010, 7, 0⟩
def rSpSlssel : Nat := 0xE0090014
def fSpSlsselSel : Fld := ⟨0xE0090014, 7, 0⟩
def rSpDirsel : Nat := 0xE0090018
def fSpDirselDown : Fld := ⟨0xE0090018, 1, 1⟩
def fSpDirselUp : Fld := ⟨0xE0090018, 0, 0⟩
def rSpRefclr : Nat := 0xE009001C
def fSpRefclrKey : Fld := ⟨0xE009001C, 31, 16⟩
def rSpSpeed : Nat := 0xE0090020
def fSpSpeedV2 : Fld := ⟨0xE0090020, 31, 16⟩
def fSpSpeedV1 : Fld := ⟨0xE0090020, 15, 0⟩
def rSpVsup : Nat := 0xE0090024
def fSpVsupVmax : Fld := ⟨0xE0090024, 31, 16⟩
def fSpVsupV : Fld := ⟨0xE0090024, 15, 0⟩
def rSpRef1lo : Nat := 0xE0090028
def fSpRef1loValue : Fld := ⟨0xE0090028, 31, 0⟩
def rSpRef1hi : Nat := 0xE009002C
def fSpRef1hiValue : Fld := ⟨0xE009002C, 31, 0⟩
def rSpRef2lo : Nat := 0xE0090030
def fSpRef2loValue : Fld := ⟨0xE0090030, 31, 0⟩
def rSpRef2hi : Nat := 0xE0090034
def fSpRef2hiValue : Fld := ⟨0xE0090034, 31, 0⟩
def rSpRel1 : Nat := 0xE0090038
def fSpRel1Rel : Fld := ⟨0xE0090038, 31, 0⟩
def rSpRel2 : Nat := 0xE009003C
def fSpRel2Rel : Fld := ⟨0xE009003C, 31, 0⟩
def rSpDisc : Nat := 0xE0090040
def fSpDiscD : Fld := ⟨0xE0090040, 31, 0⟩
def rSpForce : Nat := 0xE0090044
def fSpForceForced : Fld := ⟨0xE0090044, 23, 0⟩
def rSpDesig : Nat := 0xE0090048
def fSpDesigOutputs : Fld := ⟨0xE0090048, 23, 0⟩
def rSpParamid : Nat := 0xE009004C
def fSpParamidId : Fld := ⟨0xE009004C, 31, 0⟩
def rSpCount : Nat := 0xE0090050
def fSpCountViolations : Fld := ⟨0xE0090050, 31, 16⟩
def fSpCountAcks : Fld := ⟨0xE0090050, 15, 8⟩
def fSpCountRefused : Fld := ⟨0xE0090050, 7, 0⟩
def rSpLastv : Nat := 0xE0090054
def fSpLastvReactUs : Fld := ⟨0xE0090054, 31, 16⟩
def fSpLastvKind : Fld := ⟨0xE0090054, 15, 8⟩
def fSpLastvIndex : Fld := ⟨0xE0090054, 7, 0⟩
def rSpDisag : Nat := 0xE0090058
def fSpDisagCount : Fld := ⟨0xE0090058, 31, 16⟩
def fSpDisagMasts : Fld := ⟨0xE0090058, 3, 0⟩
def rMcAppstat : Nat := 0xE0000100
def fMcAppstatState : Fld := ⟨0xE0000100, 19, 16⟩
def fMcAppstatFbs : Fld := ⟨0xE0000100, 10, 0⟩
def rMcCycnumLo : Nat := 0xE0000104
def fMcCycnumLoNum : Fld := ⟨0xE0000104, 31, 0⟩
def rMcCycnumHi : Nat := 0xE0000108
def fMcCycnumHiNum : Fld := ⟨0xE0000108, 31, 0⟩
def rMcCyctime : Nat := 0xE000010C
def fMcCyctimeMax : Fld := ⟨0xE000010C, 31, 16⟩
def fMcCyctimeLast : Fld := ⟨0xE000010C, 15, 0⟩
def rMcCyclim : Nat := 0xE0000110
def fMcCyclimLimitMs : Fld := ⟨0xE0000110, 7, 0⟩
def rMcCycwait : Nat := 0xE0000114
def fMcCycwaitCommit : Fld := ⟨0xE0000114, 31, 16⟩
def fMcCycwaitRelease : Fld := ⟨0xE0000114, 15, 0⟩
def rMcAppfault : Nat := 0xE0000118
def fMcAppfaultMasts : Fld := ⟨0xE0000118, 19, 16⟩
def fMcAppfaultCode : Fld := ⟨0xE0000118, 15, 0⟩
def rMcAppfaultpc : Nat := 0xE000011C
def fMcAppfaultpcAddr : Fld := ⟨0xE000011C, 31, 0⟩
def rMcForce : Nat := 0xE0000120
def fMcForceSets : Fld := ⟨0xE0000120, 31, 16⟩
def fMcForceCount : Fld := ⟨0xE0000120, 8, 0⟩
def rMcOlc : Nat := 0xE0000124
def fMcOlcApplied : Fld := ⟨0xE0000124, 31, 16⟩
def fMcOlcPending : Fld := ⟨0xE0000124, 11, 8⟩
def fMcOlcLast : Fld := ⟨0xE0000124, 7, 0⟩
def rMcRetain : Nat := 0xE0000128
def fMcRetainWrites : Fld := ⟨0xE0000128, 31, 16⟩
def fMcRetainFailed : Fld := ⟨0xE0000128, 3, 3⟩
def fMcRetainBusy : Fld := ⟨0xE0000128, 2, 2⟩
def fMcRetainBank : Fld := ⟨0xE0000128, 1, 1⟩
def fMcRetainValid : Fld := ⟨0xE0000128, 0, 0⟩
def rMcStations : Nat := 0xE000012C
def fMcStationsLosses : Fld := ⟨0xE000012C, 31, 16⟩
def fMcStationsLost : Fld := ⟨0xE000012C, 15, 8⟩
def fMcStationsConfigured : Fld := ⟨0xE000012C, 7, 0⟩
def rNpCtrl : Nat := 0xE0050000
def fNpCtrlRxIrq : Fld := ⟨0xE0050000, 0, 0⟩
def rNpStat : Nat := 0xE0050004
def fNpStatDuplexfail : Fld := ⟨0xE0050004, 31, 16⟩
def fNpStatGcl : Fld := ⟨0xE0050004, 7, 7⟩
def fNpStatEnergy : Fld := ⟨0xE0050004, 6, 6⟩
def fNpStatMode : Fld := ⟨0xE0050004, 5, 4⟩
def fNpStatSpeed : Fld := ⟨0xE0050004, 3, 2⟩
def fNpStatEnabled : Fld := ⟨0xE0050004, 0, 0⟩
def rNpRxok : Nat := 0xE0050008
def fNpRxokCount : Fld := ⟨0xE0050008, 31, 0⟩
def rNpRxerr : Nat := 0xE005000C
def fNpRxerrFcs : Fld := ⟨0xE005000C, 31, 16⟩
def fNpRxerrLength : Fld := ⟨0xE005000C, 15, 8⟩
def fNpRxerrUnsup : Fld := ⟨0xE005000C, 7, 0⟩
def rNpRxtrunc : Nat := 0xE0050010
def fNpRxtruncCount : Fld := ⟨0xE0050010, 15, 0⟩
def rNpTrunclast : Nat := 0xE0050014
def fNpTrunclastSource : Fld := ⟨0xE0050014, 31, 16⟩
def fNpTrunclastLen : Fld := ⟨0xE0050014, 15, 0⟩
def rNpPrp : Nat := 0xE0050018
def fNpPrpDups : Fld := ⟨0xE0050018, 31, 16⟩
def fNpPrpWronglan : Fld := ⟨0xE0050018, 15, 0⟩
def rNpTxok : Nat := 0xE005001C
def fNpTxokCount : Fld := ⟨0xE005001C, 31, 0⟩
def rNpTxlate : Nat := 0xE0050020
def fNpTxlateLate : Fld := ⟨0xE0050020, 31, 16⟩
def fNpTxlateGate : Fld := ⟨0xE0050020, 15, 0⟩
def rNpAdmit : Nat := 0xE0050024
def fNpAdmitPeak : Fld := ⟨0xE0050024, 31, 16⟩
def fNpAdmitLast : Fld := ⟨0xE0050024, 15, 0⟩
def rNpRxcls1 : Nat := 0xE0050100
def fNpRxcls1Count : Fld := ⟨0xE0050100, 31, 0⟩
def rNpRxcls2 : Nat := 0xE0051100
def fNpRxcls2Count : Fld := ⟨0xE0051100, 31, 0⟩
def rNpRxcls3 : Nat := 0xE0052100
def fNpRxcls3Count : Fld := ⟨0xE0052100, 31, 0⟩
def rNpRxcls4 : Nat := 0xE0053100
def fNpRxcls4Count : Fld := ⟨0xE0053100, 31, 0⟩
def rNpPoldrop1 : Nat := 0xE0050120
def fNpPoldrop1Count : Fld := ⟨0xE0050120, 31, 0⟩
def rNpPoldrop2 : Nat := 0xE0051120
def fNpPoldrop2Count : Fld := ⟨0xE0051120, 31, 0⟩
def rNpPoldrop3 : Nat := 0xE0052120
def fNpPoldrop3Count : Fld := ⟨0xE0052120, 31, 0⟩
def rNpPoldrop4 : Nat := 0xE0053120
def fNpPoldrop4Count : Fld := ⟨0xE0053120, 31, 0⟩
def rNpAdmdrop1 : Nat := 0xE0050140
def fNpAdmdrop1Count : Fld := ⟨0xE0050140, 31, 0⟩
def rNpAdmdrop2 : Nat := 0xE0051140
def fNpAdmdrop2Count : Fld := ⟨0xE0051140, 31, 0⟩
def rNpAdmdrop3 : Nat := 0xE0052140
def fNpAdmdrop3Count : Fld := ⟨0xE0052140, 31, 0⟩
def rNpAdmdrop4 : Nat := 0xE0053140
def fNpAdmdrop4Count : Fld := ⟨0xE0053140, 31, 0⟩
def rNpPd : Nat := 0xE005F000
def fNpPdSubs : Fld := ⟨0xE005F000, 31, 16⟩
def fNpPdPubs : Fld := ⟨0xE005F000, 15, 0⟩
def rNpPdrej : Nat := 0xE005F004
def fNpPdrejTopo : Fld := ⟨0xE005F004, 31, 16⟩
def fNpPdrejLength : Fld := ⟨0xE005F004, 15, 8⟩
def fNpPdrejHcrc : Fld := ⟨0xE005F004, 7, 0⟩
def rNpMd : Nat := 0xE005F008
def fNpMdRefused : Fld := ⟨0xE005F008, 31, 16⟩
def fNpMdOpen : Fld := ⟨0xE005F008, 8, 0⟩
def rNpSc : Nat := 0xE005F00C
def fNpScTimeouts : Fld := ⟨0xE005F00C, 31, 16⟩
def fNpScValid : Fld := ⟨0xE005F00C, 15, 0⟩
def rNpScrej : Nat := 0xE005F010
def fNpScrejCode : Fld := ⟨0xE005F010, 31, 16⟩
def fNpScrejOther : Fld := ⟨0xE005F010, 15, 0⟩
def rNpArp : Nat := 0xE005F014
def fNpArpConflicts : Fld := ⟨0xE005F014, 31, 24⟩
def fNpArpEntries : Fld := ⟨0xE005F014, 8, 0⟩
def rNpIcmp : Nat := 0xE005F018
def fNpIcmpDropped : Fld := ⟨0xE005F018, 31, 0⟩
def rQmRingBase : Nat := 0xE00F0000
def fQmRingBaseBase : Fld := ⟨0xE00F0000, 31, 5⟩
def rQmRingCfg : Nat := 0xE00F0004
def fQmRingCfgEnable : Fld := ⟨0xE00F0004, 7, 7⟩
def fQmRingCfgIrq : Fld := ⟨0xE00F0004, 6, 5⟩
def fQmRingCfgSize : Fld := ⟨0xE00F0004, 3, 0⟩
def rQmRingProd : Nat := 0xE00F0008
def fQmRingProdProd : Fld := ⟨0xE00F0008, 15, 0⟩
def rQmRingCons : Nat := 0xE00F000C
def fQmRingConsCons : Fld := ⟨0xE00F000C, 15, 0⟩
def rQmRingstat : Nat := 0xE00F0800
def fQmRingstatOverflow : Fld := ⟨0xE00F0800, 31, 16⟩
def fQmRingstatIdxerr : Fld := ⟨0xE00F0800, 15, 0⟩
def rQmPoolbase : Nat := 0xE00F0C00
def fQmPoolbaseBase : Fld := ⟨0xE00F0C00, 31, 11⟩
def rQmPoolcfg : Nat := 0xE00F0C04
def fQmPoolcfgEnable : Fld := ⟨0xE00F0C04, 31, 31⟩
def fQmPoolcfgCount : Fld := ⟨0xE00F0C04, 13, 0⟩
def rQmPoolstat : Nat := 0xE00F0C08
def fQmPoolstatEmpty : Fld := ⟨0xE00F0C08, 31, 16⟩
def fQmPoolstatFree : Fld := ⟨0xE00F0C08, 13, 0⟩
def rQmPoolret : Nat := 0xE00F0C0C
def fQmPoolretIndex : Fld := ⟨0xE00F0C0C, 12, 0⟩
def rQmCmbase : Nat := 0xE00F0D00
def fQmCmbaseAddr : Fld := ⟨0xE00F0D00, 31, 0⟩
def rQmCmlen : Nat := 0xE00F0D04
def fQmCmlenLen : Fld := ⟨0xE00F0D04, 31, 0⟩
def rQmCmop : Nat := 0xE00F0D08
def fQmCmopOp : Fld := ⟨0xE00F0D08, 1, 0⟩
def rQmCmstat : Nat := 0xE00F0D0C
def fQmCmstatErr : Fld := ⟨0xE00F0D0C, 1, 1⟩
def fQmCmstatBusy : Fld := ⟨0xE00F0D0C, 0, 0⟩
def rQmBarrier : Nat := 0xE00F0D10
def fQmBarrierZero : Fld := ⟨0xE00F0D10, 31, 0⟩
def rDmCtrl : Nat := 0xE0070000
def fDmCtrlIrqC : Fld := ⟨0xE0070000, 5, 5⟩
def fDmCtrlIrqP : Fld := ⟨0xE0070000, 4, 4⟩
def fDmCtrlPrio : Fld := ⟨0xE0070000, 3, 2⟩
def fDmCtrlStrict : Fld := ⟨0xE0070000, 1, 1⟩
def fDmCtrlEnable : Fld := ⟨0xE0070000, 0, 0⟩
def rDmHead : Nat := 0xE0070004
def fDmHeadAddr : Fld := ⟨0xE0070004, 31, 6⟩
def rDmDb : Nat := 0xE0070008
def fDmDbRing : Fld := ⟨0xE0070008, 0, 0⟩
def rDmStat : Nat := 0xE007000C
def fDmStatStopped : Fld := ⟨0xE007000C, 15, 15⟩
def fDmStatErr : Fld := ⟨0xE007000C, 10, 8⟩
def fDmStatDbpend : Fld := ⟨0xE007000C, 3, 3⟩
def fDmStatState : Fld := ⟨0xE007000C, 2, 0⟩
def rDmCur : Nat := 0xE0070010
def fDmCurAddr : Fld := ⟨0xE0070010, 31, 6⟩
def rDmDone : Nat := 0xE0070014
def fDmDoneBytes : Fld := ⟨0xE0070014, 31, 0⟩
def rDmHold : Nat := 0xE0070018
def fDmHoldFill : Fld := ⟨0xE0070018, 5, 0⟩
def rDmSrlo : Nat := 0xE0070020
def fDmSrloAddr : Fld := ⟨0xE0070020, 31, 0⟩
def rDmSrhi : Nat := 0xE0070024
def fDmSrhiAddr : Fld := ⟨0xE0070024, 31, 0⟩
def rDmDrlo : Nat := 0xE0070028
def fDmDrloAddr : Fld := ⟨0xE0070028, 31, 0⟩
def rDmDrhi : Nat := 0xE007002C
def fDmDrhiAddr : Fld := ⟨0xE007002C, 31, 0⟩
def rDmCnt : Nat := 0xE0070030
def fDmCntIgnored : Fld := ⟨0xE0070030, 31, 16⟩
def fDmCntDescs : Fld := ⟨0xE0070030, 15, 0⟩
def rDmActive : Nat := 0xE0071000
def fDmActiveRun : Fld := ⟨0xE0071000, 31, 0⟩
def rDmStopped : Nat := 0xE0071004
def fDmStoppedStop : Fld := ⟨0xE0071004, 31, 0⟩
def rBbCtrl : Nat := 0xE00A0000
def fBbCtrlIntMask : Fld := ⟨0xE00A0000, 15, 8⟩
def fBbCtrlPollUs : Fld := ⟨0xE00A0000, 7, 0⟩
def rBbStat : Nat := 0xE00A0004
def fBbStatPosted : Fld := ⟨0xE00A0004, 13, 8⟩
def fBbStatOutPend : Fld := ⟨0xE00A0004, 4, 4⟩
def fBbStatState : Fld := ⟨0xE00A0004, 1, 0⟩
def rBbIntlvl : Nat := 0xE00A0008
def fBbIntlvlLevel : Fld := ⟨0xE00A0008, 7, 0⟩
def rBbOuterr : Nat := 0xE00A000C
def fBbOuterrTimeout : Fld := ⟨0xE00A000C, 31, 24⟩
def fBbOuterrTarget : Fld := ⟨0xE00A000C, 23, 16⟩
def fBbOuterrParity : Fld := ⟨0xE00A000C, 15, 8⟩
def fBbOuterrNowin : Fld := ⟨0xE00A000C, 7, 0⟩
def rBbRetry : Nat := 0xE00A0010
def fBbRetryGiven : Fld := ⟨0xE00A0010, 31, 16⟩
def fBbRetryReceived : Fld := ⟨0xE00A0010, 15, 0⟩
def rBbIncnt : Nat := 0xE00A0014
def fBbIncntWrites : Fld := ⟨0xE00A0014, 31, 16⟩
def fBbIncntReads : Fld := ⟨0xE00A0014, 15, 0⟩
def rBbPwestat : Nat := 0xE00A0018
def fBbPwestatOvfcnt : Fld := ⟨0xE00A0018, 31, 16⟩
def fBbPwestatOvf : Fld := ⟨0xE00A0018, 8, 8⟩
def fBbPwestatCount : Fld := ⟨0xE00A0018, 4, 0⟩
def rBbPwepop : Nat := 0xE00A001C
def fBbPwepopValid : Fld := ⟨0xE00A001C, 31, 31⟩
def fBbPwepopWindow : Fld := ⟨0xE00A001C, 11, 8⟩
def fBbPwepopResult : Fld := ⟨0xE00A001C, 2, 0⟩
def rBbPweaddr : Nat := 0xE00A0020
def fBbPweaddrValue : Fld := ⟨0xE00A0020, 31, 0⟩
def rBbPwetaglo : Nat := 0xE00A0024
def fBbPwetagloValue : Fld := ⟨0xE00A0024, 31, 0⟩
def rBbPwetaghi : Nat := 0xE00A0028
def fBbPwetaghiValue : Fld := ⟨0xE00A0028, 31, 0⟩
def rBbPwesec : Nat := 0xE00A002C
def fBbPwesecValue : Fld := ⟨0xE00A002C, 31, 0⟩
def rBbPwens : Nat := 0xE00A0030
def fBbPwensValue : Fld := ⟨0xE00A0030, 31, 0⟩
def rBbExpcommit : Nat := 0xE00A0034
def fBbExpcommitMask : Fld := ⟨0xE00A0034, 19, 16⟩
def fBbExpcommitSeq : Fld := ⟨0xE00A0034, 15, 0⟩
def rBbExpstat : Nat := 0xE00A0038
def fBbExpstatMismatch : Fld := ⟨0xE00A0038, 31, 16⟩
def fBbExpstatSeq : Fld := ⟨0xE00A0038, 15, 0⟩
def rBbSbval : Nat := 0xE00A0080
def fBbSbvalValue : Fld := ⟨0xE00A0080, 31, 0⟩
def rBbSbaddr : Nat := 0xE00A0100
def fBbSbaddrAddr : Fld := ⟨0xE00A0100, 31, 2⟩
def rBbOwinBase : Nat := 0xE00A0200
def fBbOwinBaseRbase : Fld := ⟨0xE00A0200, 31, 26⟩
def rBbOwinCfg : Nat := 0xE00A0204
def fBbOwinCfgWidth : Fld := ⟨0xE00A0204, 5, 4⟩
def fBbOwinCfgPosted : Fld := ⟨0xE00A0204, 2, 2⟩
def fBbOwinCfgRule : Fld := ⟨0xE00A0204, 1, 1⟩
def fBbOwinCfgEnable : Fld := ⟨0xE00A0204, 0, 0⟩
def rBbIwinBase : Nat := 0xE00A0280
def fBbIwinBaseRbase : Fld := ⟨0xE00A0280, 31, 12⟩
def rBbIwinCfg : Nat := 0xE00A0284
def fBbIwinCfgRule : Fld := ⟨0xE00A0284, 1, 1⟩
def fBbIwinCfgEnable : Fld := ⟨0xE00A0284, 0, 0⟩
def rBbExpose0 : Nat := 0xE00A8000
def fBbExpose0Data : Fld := ⟨0xE00A8000, 31, 0⟩
def rBbExpose1 : Nat := 0xE00A9000
def fBbExpose1Data : Fld := ⟨0xE00A9000, 31, 0⟩
def rBbExpose2 : Nat := 0xE00AA000
def fBbExpose2Data : Fld := ⟨0xE00AA000, 31, 0⟩
def rBbExpose3 : Nat := 0xE00AB000
def fBbExpose3Data : Fld := ⟨0xE00AB000, 31, 0⟩
def rSlStat : Nat := 0xE00D0000
def fSlStatMembers : Fld := ⟨0xE00D0000, 19, 16⟩
def fSlStatMaster : Fld := ⟨0xE00D0000, 12, 8⟩
def fSlStatWrapped : Fld := ⟨0xE00D0000, 2, 2⟩
def fSlStatRole : Fld := ⟨0xE00D0000, 1, 0⟩
def rSlMembers : Nat := 0xE00D0004
def fSlMembersSlots : Fld := ⟨0xE00D0004, 31, 1⟩
def rSlLinkdly : Nat := 0xE00D0008
def fSlLinkdlyDown : Fld := ⟨0xE00D0008, 31, 16⟩
def fSlLinkdlyUp : Fld := ⟨0xE00D0008, 15, 0⟩
def rSlTimeofs : Nat := 0xE00D000C
def fSlTimeofsNs : Fld := ⟨0xE00D000C, 31, 0⟩
def rSlShare : Nat := 0xE00D0010
def fSlShareTotal : Fld := ⟨0xE00D0010, 31, 16⟩
def fSlShareOwn : Fld := ⟨0xE00D0010, 15, 0⟩
def rSlFrames : Nat := 0xE00D0014
def fSlFramesCrc : Fld := ⟨0xE00D0014, 31, 16⟩
def fSlFramesDropped : Fld := ⟨0xE00D0014, 15, 0⟩
def rSlElect : Nat := 0xE00D0018
def fSlElectElections : Fld := ⟨0xE00D0018, 31, 24⟩
def fSlElectWraps : Fld := ⟨0xE00D0018, 23, 16⟩
def rSlBulk : Nat := 0xE00D001C
def fSlBulkBytes : Fld := ⟨0xE00D001C, 31, 0⟩
def rMiStat : Nat := 0xE0030000
def fMiStatDramRun : Fld := ⟨0xE0030000, 2, 2⟩
def fMiStatSramRun : Fld := ⟨0xE0030000, 1, 1⟩
def fMiStatSelftestOk : Fld := ⟨0xE0030000, 0, 0⟩
def rMiScrubsram : Nat := 0xE0030004
def fMiScrubsramPassS : Fld := ⟨0xE0030004, 9, 0⟩
def rMiScrubdram : Nat := 0xE0030008
def fMiScrubdramPassS : Fld := ⟨0xE0030008, 16, 0⟩
def rMiSrampos : Nat := 0xE003000C
def fMiSramposAddr : Fld := ⟨0xE003000C, 31, 3⟩
def rMiDrampos : Nat := 0xE0030010
def fMiDramposAddr : Fld := ⟨0xE0030010, 31, 3⟩
def rMiPasses : Nat := 0xE0030014
def fMiPassesSram : Fld := ⟨0xE0030014, 31, 16⟩
def fMiPassesDram : Fld := ⟨0xE0030014, 15, 0⟩
def rMiCesram : Nat := 0xE0030018
def fMiCesramCount : Fld := ⟨0xE0030018, 31, 0⟩
def rMiCedram : Nat := 0xE003001C
def fMiCedramCount : Fld := ⟨0xE003001C, 31, 0⟩
def rMiCeother : Nat := 0xE0030020
def fMiCeotherL2 : Fld := ⟨0xE0030020, 31, 24⟩
def fMiCeotherMram : Fld := ⟨0xE0030020, 23, 16⟩
def fMiCeotherFlash : Fld := ⟨0xE0030020, 15, 8⟩
def rMiLastce : Nat := 0xE0030024
def fMiLastceAddr : Fld := ⟨0xE0030024, 31, 0⟩
def rMiLastsyn : Nat := 0xE0030028
def fMiLastsynMem : Fld := ⟨0xE0030028, 31, 28⟩
def fMiLastsynSource : Fld := ⟨0xE0030028, 27, 24⟩
def fMiLastsynBit : Fld := ⟨0xE0030028, 7, 0⟩
def rMiRepeat : Nat := 0xE003002C
def fMiRepeatWords : Fld := ⟨0xE003002C, 31, 16⟩
def rMiSelftest : Nat := 0xE0030030
def fMiSelftestPass : Fld := ⟨0xE0030030, 4, 0⟩
def rMiInject : Nat := 0xE0030034
def fMiInjectKey : Fld := ⟨0xE0030034, 31, 24⟩
def fMiInjectMast : Fld := ⟨0xE0030034, 17, 16⟩
def fMiInjectMem : Fld := ⟨0xE0030034, 12, 12⟩
def fMiInjectBit : Fld := ⟨0xE0030034, 11, 8⟩
def fMiInjectKind : Fld := ⟨0xE0030034, 1, 0⟩
def rMiInjaddr : Nat := 0xE0030038
def fMiInjaddrAddr : Fld := ⟨0xE0030038, 31, 3⟩
def rMiInjstat : Nat := 0xE003003C
def fMiInjstatResult : Fld := ⟨0xE003003C, 2, 0⟩
def rMiCeall : Nat := 0xE0030040
def fMiCeallJ : Fld := ⟨0xE0030040, 31, 24⟩
def fMiCeallC : Fld := ⟨0xE0030040, 23, 16⟩
def fMiCeallB : Fld := ⟨0xE0030040, 15, 8⟩
def fMiCeallA : Fld := ⟨0xE0030040, 7, 0⟩
def rUpStat : Nat := 0xE00C0000
def fUpStatBlocks : Fld := ⟨0xE00C0000, 23, 16⟩
def fUpStatPhase : Fld := ⟨0xE00C0000, 10, 8⟩
def fUpStatTries : Fld := ⟨0xE00C0000, 5, 4⟩
def fUpStatBusy : Fld := ⟨0xE00C0000, 3, 3⟩
def fUpStatKind : Fld := ⟨0xE00C0000, 2, 2⟩
def fUpStatTrial : Fld := ⟨0xE00C0000, 1, 1⟩
def fUpStatActive : Fld := ⟨0xE00C0000, 0, 0⟩
def rUpCmd : Nat := 0xE00C0004
def fUpCmdKey : Fld := ⟨0xE00C0004, 31, 16⟩
def fUpCmdCode : Fld := ⟨0xE00C0004, 7, 0⟩
def rUpCmdstat : Nat := 0xE00C0008
def fUpCmdstatReason : Fld := ⟨0xE00C0008, 23, 16⟩
def fUpCmdstatResult : Fld := ⟨0xE00C0008, 10, 8⟩
def fUpCmdstatLastCode : Fld := ⟨0xE00C0008, 7, 0⟩
def rUpSrcaddr : Nat := 0xE00C000C
def fUpSrcaddrAddr : Fld := ⟨0xE00C000C, 31, 3⟩
def rUpBlkidx : Nat := 0xE00C0010
def fUpBlkidxIndex : Fld := ⟨0xE00C0010, 7, 0⟩
def rUpCtrl : Nat := 0xE00C0014
def fUpCtrlConfirmS : Fld := ⟨0xE00C0014, 11, 0⟩
def rUpRunsec : Nat := 0xE00C0018
def fUpRunsecSec : Fld := ⟨0xE00C0018, 31, 0⟩
def rUpLasterr : Nat := 0xE00C001C
def fUpLasterrReason : Fld := ⟨0xE00C001C, 31, 24⟩
def fUpLasterrMasts : Fld := ⟨0xE00C001C, 23, 20⟩
def fUpLasterrBlock : Fld := ⟨0xE00C001C, 7, 0⟩
def rUpFwver0 : Nat := 0xE00C0020
def fUpFwver0Version : Fld := ⟨0xE00C0020, 31, 0⟩
def rUpFwver1 : Nat := 0xE00C0024
def fUpFwver1Version : Fld := ⟨0xE00C0024, 31, 0⟩
def rUpAppver0 : Nat := 0xE00C0028
def fUpAppver0Version : Fld := ⟨0xE00C0028, 31, 0⟩
def rUpAppver1 : Nat := 0xE00C002C
def fUpAppver1Version : Fld := ⟨0xE00C002C, 31, 0⟩
def rUpKeystat : Nat := 0xE00C0030
def fUpKeystatRevoked : Fld := ⟨0xE00C0030, 13, 8⟩
def fUpKeystatPresent : Fld := ⟨0xE00C0030, 5, 0⟩
def rUpKeysel : Nat := 0xE00C0034
def fUpKeyselSlot : Fld := ⟨0xE00C0034, 2, 0⟩
def rUpSerialLo : Nat := 0xE00C0038
def fUpSerialLoSerial : Fld := ⟨0xE00C0038, 31, 0⟩
def rUpSerialHi : Nat := 0xE00C003C
def fUpSerialHiSerial : Fld := ⟨0xE00C003C, 31, 0⟩
def rUpSchema : Nat := 0xE00C0040
def fUpSchemaImage : Fld := ⟨0xE00C0040, 31, 16⟩
def fUpSchemaFound : Fld := ⟨0xE00C0040, 15, 0⟩
def rUpSetstat : Nat := 0xE00C0044
def fUpSetstatDefaulted : Fld := ⟨0xE00C0044, 31, 16⟩
def fUpSetstatMigrated : Fld := ⟨0xE00C0044, 15, 0⟩
def rUpApphash : Nat := 0xE00C0080
def fUpApphashWord : Fld := ⟨0xE00C0080, 31, 0⟩
def rElStat : Nat := 0xE00B0000
def fElStatWrapped : Fld := ⟨0xE00B0000, 16, 16⟩
def fElStatCount : Fld := ⟨0xE00B0000, 12, 0⟩
def rElHeadseq : Nat := 0xE00B0004
def fElHeadseqSeq : Fld := ⟨0xE00B0004, 31, 0⟩
def rElFirstseq : Nat := 0xE00B0008
def fElFirstseqSeq : Fld := ⟨0xE00B0008, 31, 0⟩
def rElExport : Nat := 0xE00B000C
def fElExportEnable : Fld := ⟨0xE00B000C, 31, 31⟩
def fElExportSevmax : Fld := ⟨0xE00B000C, 18, 16⟩
def fElExportRate : Fld := ⟨0xE00B000C, 9, 0⟩
def rElDest : Nat := 0xE00B0010
def fElDestIp : Fld := ⟨0xE00B0010, 31, 0⟩
def rElDestport : Nat := 0xE00B0014
def fElDestportIf : Fld := ⟨0xE00B0014, 17, 16⟩
def fElDestportPort : Fld := ⟨0xE00B0014, 15, 0⟩
def rElSent : Nat := 0xE00B0018
def fElSentCount : Fld := ⟨0xE00B0018, 31, 0⟩
def rElDrop : Nat := 0xE00B001C
def fElDropLost : Fld := ⟨0xE00B001C, 31, 16⟩
def fElDropDropped : Fld := ⟨0xE00B001C, 15, 0⟩
def rSvStat : Nat := 0xE00E0000
def fSvStatIdle : Fld := ⟨0xE00E0000, 31, 16⟩
def fSvStatFails : Fld := ⟨0xE00E0000, 15, 8⟩
def fSvStatKey : Fld := ⟨0xE00E0000, 4, 2⟩
def fSvStatLocked : Fld := ⟨0xE00E0000, 1, 1⟩
def fSvStatSession : Fld := ⟨0xE00E0000, 0, 0⟩
def rSvLines : Nat := 0xE00E0004
def fSvLinesLines : Fld := ⟨0xE00E0004, 31, 16⟩
def fSvLinesDiscarded : Fld := ⟨0xE00E0004, 15, 0⟩
def rSvUart : Nat := 0xE00E0008
def fSvUartFraming : Fld := ⟨0xE00E0008, 31, 16⟩
def fSvUartOverrun : Fld := ⟨0xE00E0008, 15, 0⟩
def rSvAuth : Nat := 0xE00E000C
def fSvAuthOpened : Fld := ⟨0xE00E000C, 31, 16⟩
def fSvAuthFailed : Fld := ⟨0xE00E000C, 15, 0⟩
def rMcSupply : Nat := 0xE0000200
def fMcSupplyMin : Fld := ⟨0xE0000200, 31, 16⟩
def fMcSupplyVolt : Fld := ⟨0xE0000200, 15, 0⟩
def rMcSupplyev : Nat := 0xE0000204
def fMcSupplyevLow : Fld := ⟨0xE0000204, 31, 24⟩
def fMcSupplyevRidden : Fld := ⟨0xE0000204, 23, 16⟩
def fMcSupplyevLongestUs : Fld := ⟨0xE0000204, 15, 0⟩
def rMcHoldup : Nat := 0xE0000208
def fMcHoldupFail : Fld := ⟨0xE0000208, 17, 17⟩
def fMcHoldupReady : Fld := ⟨0xE0000208, 16, 16⟩
def fMcHoldupStore : Fld := ⟨0xE0000208, 15, 0⟩
def rMcIftemp : Nat := 0xE000020C
def fMcIftempRail2 : Fld := ⟨0xE000020C, 31, 16⟩
def fMcIftempRail1 : Fld := ⟨0xE000020C, 15, 0⟩

end Sys2Proof.Machine
end

