-- ==== Sys2Proof/Machine/RegFile.lean ====
section
/-!
DEFINITION. The register file: every register's stored word, as one canonical list.

A key is a copy (which mast's, the module's, or which triad's) and an address. A key that is not listed reads as the
register's reset word (R9), so the file after module reset is the empty list; keys rise strictly and no entry equals
its reset word, so equal files are equal lists.
-/
namespace Sys2Proof.Machine

/-- Which copy of a register: mast `m`'s, the agreed one of the module (R98), or a triad's. (DESIGN CHOICE, log entry 8) -/
inductive Copy where
  | mast (m : Mast)
  | agreed
  | triad (m : Mast) (t : Triad)
  deriving DecidableEq, Repr

/-- The copy's number in a key. -/
def Copy.num : Copy → Nat
  | .mast m => m.code
  | .agreed => 4
  | .triad m t => 5 + 2 * m.code + t.code

/-- The key of a copy's register at `addr`. -/
def regKey (c : Copy) (addr : Nat) : Nat := c.num * 2 ^ 32 + addr

/-- The word a key reads as while nothing else is stored there: the register's reset word (R9), zero where no register
lies (R8). -/
def resetOfKey (k : Nat) : Word :=
  match findReg (k % 2 ^ 32) with
  | some r => r.resetWord
  | none => 0

/-- The stored words that differ from their reset words, keys strictly rising. (DESIGN CHOICE, log entry 32) -/
structure RegFile where
  cells : List (Nat × Word) := []
  deriving DecidableEq, Repr

/-- The stored word under a key in a list of cells, if listed. -/
def cellLookup {β : Type} : List (Nat × β) → Nat → Option β
  | [], _ => none
  | (k, v) :: rest, q => if q = k then some v else cellLookup rest q

/-- Remove a key, wherever it stands. -/
def cellErase {β : Type} : List (Nat × β) → Nat → List (Nat × β)
  | [], _ => []
  | (k, v) :: rest, q => if q = k then cellErase rest q else (k, v) :: cellErase rest q

/-- Store a value under a key, keeping the keys rising. -/
def cellInsert {β : Type} : List (Nat × β) → Nat → β → List (Nat × β)
  | [], q, v => [(q, v)]
  | (k, w) :: rest, q, v =>
    if q < k then (q, v) :: (k, w) :: rest
    else if q = k then (k, v) :: rest
    else (k, w) :: cellInsert rest q v

/-- Store a value under a key that reads as `d` while it is not listed: storing `d` removes the entry. -/
def cellPut {β : Type} [DecidableEq β] (l : List (Nat × β)) (q : Nat) (d v : β) : List (Nat × β) :=
  match l with
  | [] => if v = d then [] else [(q, v)]
  | c :: rest => if v = d then cellErase (c :: rest) q else cellInsert (c :: rest) q v

/-- The word under a key. -/
def RegFile.get (f : RegFile) (k : Nat) : Word :=
  match cellLookup f.cells k with
  | some w => w
  | none => resetOfKey k

/-- Store a word; storing the reset word removes the entry. -/
def RegFile.set (f : RegFile) (k : Nat) (w : Word) : RegFile :=
  ⟨cellPut f.cells k (resetOfKey k) w⟩

/-- Keys rise strictly. -/
def cellsSorted {β : Type} : List (Nat × β) → Bool
  | [] => true
  | [_] => true
  | (k, _) :: (k', v') :: rest => decide (k < k') && cellsSorted ((k', v') :: rest)

/-- The canonical form: keys strictly rising and no entry equal to its reset word. -/
def RegFile.wf (f : RegFile) : Bool :=
  cellsSorted f.cells && f.cells.all (fun c => c.2 != resetOfKey c.1)

end Sys2Proof.Machine
end

