-- ==== Sys2Proof/Machine/Parts/Base.lean ====
section
/-!
DEFINITION. Parts of the state: modes, masts with their triads and memories, module control, and the event log.
-/
namespace Sys2Proof.Machine

/-- The eight modes (R23). -/
inductive Mode where
  | boot | recovery | service | stop | run | hold | standby | safe
  deriving DecidableEq, Repr

/-- The mode code of R23. -/
def Mode.code : Mode → Nat
  | .boot => 0 | .recovery => 1 | .service => 2 | .stop => 3 | .run => 4 | .hold => 5 | .standby => 6 | .safe => 7

/-- The lane states (R101). -/
inductive Lane where
  | triplex | duplex | joining
  deriving DecidableEq, Repr

/-- The lane-state code of R101. -/
def Lane.code : Lane → Nat
  | .triplex => 0 | .duplex => 1 | .joining => 2

/-- A resync in progress (R85): the core that is out, when it first left lockstep, when this attempt started, and whether its
self-test has passed. -/
structure Resync where
  core : Nat
  firstOut : Nat
  began : Nat
  tested : Bool
  deriving DecidableEq, Repr

/-- A triad's voting state (R84 to R87). -/
structure TriadState where
  /-- The resync under way; none while the triad is triple. -/
  resync : Option Resync := none
  /-- Times at which resyncs started, newest first (the 1 s count of R87). -/
  starts : List Nat := []
  /-- Failed resyncs, newest first: core and time (R87). -/
  fails : List (Nat × Nat) := []
  /-- Restored cores, newest first, each with its restart time and the start of its resync (the 1 ms of R86). -/
  restored : List (Nat × Nat × Nat) := []
  /-- The last voted output vector that passed the check stage to the L2 and the fabric (R83). -/
  passed : BitVec 64 := 0
  deriving DecidableEq, Repr

/-- How the fabric last answered a triad's access: completed with a value, or with a bus error (R7, R78). -/
inductive BusAnswer where
  | idle
  | done (value : Nat)
  | busError
  deriving DecidableEq, Repr

/-- One mast's memories: SRAM, MRAM, NOR flash and DRAM in one list of listed bytes in canonical form, the SRAM words whose
valid bits are set (R378), and the words whose check bits or cells are inverted (R376, R387). -/
structure Memory where
  /-- Listed bytes, addresses strictly rising, none equal to what an unlisted byte reads as. -/
  cells : List Host.Cell := []
  /-- Addresses (multiples of 8) of SRAM words whose valid bits are set, strictly rising. -/
  valid : List (Nat × Unit) := []
  /-- Word address and the inverted bit positions (0 to 63 data, 64 to 71 check bits). -/
  errs : List (Nat × List Nat) := []
  deriving DecidableEq, Repr

/-- One mast as a unit of power, clock and memory (R74 to R98). (DESIGN CHOICE, log entry 31) -/
structure MastState where
  powered : Bool := false
  /-- The fail-silent gate has closed (R92). -/
  silent : Bool := false
  /-- Both triads are held in reset (R92). -/
  held : Bool := false
  /-- The lane managers' isolation gate is open (R111). -/
  isolated : Bool := false
  triadP : TriadState := {}
  triadC : TriadState := {}
  /-- Die temperature in quarter degrees Celsius (`TD_HEALTH.TEMP`). -/
  dieTemp : Int := 0
  answerP : BusAnswer := .idle
  answerC : BusAnswer := .idle
  mem : Memory := {}
  /-- The 64 most recently corrected words with their counts, newest first (R381). -/
  corrected : List (Nat × Nat) := []
  /-- The SRAM and the DRAM scrubber are running (R383, R385). -/
  sramScrub : Bool := false
  dramScrub : Bool := false
  /-- The DRAM is in self-refresh (R37). -/
  selfRefresh : Bool := false
  /-- The last word sent on the cross-links as the gate closed (R93). -/
  lastWord : Option (List Byte) := none
  /-- The boot-token window is granted to this mast (R50). -/
  token : Bool := false
  /-- Blocks that have interrupted each triad since module reset: see `State.interrupt`. -/
  irqP : List Nat := []
  irqC : List Nat := []
  deriving DecidableEq, Repr

/-- The state of one triad of the mast. -/
def MastState.triad (m : MastState) : Triad → TriadState
  | .p => m.triadP | .c => m.triadC

/-- The mast with one triad's state replaced. -/
def MastState.setTriad (m : MastState) (t : Triad) (x : TriadState) : MastState :=
  match t with
  | .p => { m with triadP := x }
  | .c => { m with triadC := x }

/-- The last bus answer given to a triad. -/
def MastState.answer (m : MastState) : Triad → BusAnswer
  | .p => m.answerP | .c => m.answerC

/-- The mast with the bus answer of one triad replaced. -/
def MastState.setAnswer (m : MastState) (t : Triad) (x : BusAnswer) : MastState :=
  match t with
  | .p => { m with answerP := x }
  | .c => { m with answerC := x }

/-- A mast whose transmit sides, votes and triads work: powered, not silent, not isolated. -/
def MastState.alive (m : MastState) : Bool := m.powered && !m.silent && !m.isolated

/-- One write that waits for the action instant (R45): the mast, the address and the value of that mast's last write. -/
structure CombWrite where
  mast : Mast
  addr : Nat
  value : Word
  deriving DecidableEq, Repr

/-- An event that waits for the next action instant (R98, R411), timestamp in network-time nanoseconds. -/
structure Event where
  stamp : Nat
  code : Nat
  source : Nat
  arg1 : Nat
  arg2 : Nat
  /-- Raised before step 7 of R29 and held by the ROM. -/
  held : Bool
  deriving DecidableEq, Repr

/-- A written log entry (R410). -/
structure LogEntry where
  seq : Nat
  event : Event
  deriving DecidableEq, Repr

/-- When an ordinary limited event was last raised for a source (R447), by the timebase that measures its limit. -/
structure LimitMark where
  code : Nat
  key : Nat
  at' : Nat
  deriving DecidableEq, Repr

/-- An open 1 s period of a summary event for a source (R447); `began` by the timebase that measures it. -/
structure SummaryPeriod where
  /-- The masts that raise it; 0 for the module's voting masts. -/
  src : Nat
  code : Nat
  key : Nat
  began : Nat
  count : Nat
  deriving DecidableEq, Repr

/-- A datagram of the export (R132, R414, R415): its message, where it goes (`EL_DEST`, `EL_DESTPORT`), and the transmit ring and
source id by which it is queued; it leaves from UDP port 514. -/
structure SyslogDatagram where
  text : String := ""
  dest : Nat := 0
  destPort : Nat := 0
  iface : Nat := 0
  ring : Nat := 0
  source : Nat := 0
  deriving DecidableEq, Repr

/-- The event log and its export (R409 to R416). (DESIGN CHOICE, log entry 31) -/
structure LogPart where
  due : List Event := []
  /-- Entries held, oldest first, at most 4 096 (R409, R411). -/
  entries : List LogEntry := []
  /-- SEQ of the newest entry, 0 while empty. -/
  seq : Nat := 0
  limits : List LimitMark := []
  periods : List SummaryPeriod := []
  /-- SEQs neither sent nor passed over (R414), oldest first. -/
  unsent : List Nat := []
  /-- Export tokens held, in 10⁻⁹ of a message (R416), and when they were last counted. -/
  tokens : Nat := 200000000000
  tokensAt : Nat := 0
  /-- Export has begun: STOP has been entered at step 11 of R29 (R414). -/
  begun : Bool := false
  /-- The last datagram sent (R414, R415). -/
  message : SyslogDatagram := {}
  deriving DecidableEq, Repr

/-- The boot token, the slot key's agreed reads and the fetch of the application (R50 to R71). (DESIGN CHOICE, log entry 31) -/
structure KeyPart where
  /-- Window of the boot token: 0 none, 1 to 3 for A, B and C, with the time it was granted. -/
  window : Nat := 0
  windowFrom : Nat := 0
  /-- The agreed slot image's bytes; empty without one. -/
  image : List Byte := []
  /-- The five bytes of the seal word agreed at BOOT. -/
  sealWord : List Byte := []
  /-- Seal codes and image digest recorded in MRAM at STANDBY entry (R38). -/
  recorded : Option (Nat × Nat) := none
  /-- Last poll's five bytes; empty before the first. -/
  lastPoll : List Byte := []
  lastPollAt : Nat := 0
  /-- A poll since BOOT has shown a changed switch value or a seal read fault (R67, R441). -/
  tampered : Bool := false
  /-- A fetch is waiting or running (R70): the last request's time and the rack master it went to. -/
  fetchAt : Option Nat := none
  fetchMaster : Nat := 0
  /-- The last request this module answered as rack master: the asking slot, and whether it serves the application. -/
  served : Option (Nat × Bool) := none
  deriving DecidableEq, Repr

end Sys2Proof.Machine
end

