-- ==== Sys2Proof/Machine/Parts/AppParts.lean ====
section
/-!
DEFINITION. Parts of the state: the application program, forces, on-line change and retained banks (R275 to R300). The banks
themselves stand in each mast's MRAM (R295).
-/
namespace Sys2Proof.Machine

/-- The checked application descriptor (R275); regions as base address and pages. -/
structure AppDescriptor where
  nFb : Nat
  limitMs : Nat
  nStations : Nat
  inLen : Nat
  retainLen : Nat
  regions : List (Nat × Nat)
  deriving DecidableEq, Repr

/-- An accepted change request (R289, R290): symbol and value pairs, and the apply cycle. -/
structure ChangeReq where
  pairs : List (Nat × Int)
  applyCycle : Nat
  deriving DecidableEq, Repr

/-- A mast's retained area (R296): the write under way (target bank, whether it is the repeat, the cycle it shows and
the data taken from the shadow), and the digest of the shadow as it was last written. -/
structure RetainMast where
  writing : Option (Nat × Bool × Nat × List Byte) := none
  written : Option Nat := none
  deriving DecidableEq, Repr

/-- The application's course (`MC_APPSTAT.STATE`). -/
inductive AppRun where
  | none | stopped | running | held | faulted
  deriving DecidableEq, Repr

/-- The code of `MC_APPSTAT.STATE`. -/
def AppRun.code : AppRun → Nat
  | .none => 0 | .stopped => 1 | .running => 2 | .held => 3 | .faulted => 4

/-- A remote station's standing (R282, R283): its state code, losses, smallest age, and the action instants it has been lost. -/
structure Station where
  index : Nat
  state : Nat := 0
  losses : Nat := 0
  age : Nat := 65535
  gone : Nat := 0
  deriving DecidableEq, Repr

/-- The application. -/
structure AppPart where
  desc : Option AppDescriptor := Option.none
  symbols : List Symbol := []
  /-- Initial values of the retained variables, from the image (R298). -/
  initial : List Byte := []
  /-- Initial values of the static variables and instances, and the constants, from the image (R297, R298). -/
  statics : List Byte := []
  constants : List Byte := []
  /-- SHA-384 image hash of the verified application, and its VERSION. -/
  hash : List Byte := []
  version : Nat := 0
  run : AppRun := .none
  /-- Number of the last cycle started (R277) and, per mast, the cycle in progress. -/
  cycle : Nat := 0
  inCycle : Per (Option Nat) := Per.all Option.none
  /-- The last cycle each mast started, and the last whose image it has submitted. -/
  last : Per Nat := Per.all 0
  sub : Per Nat := Per.all 0
  /-- Local time at which each mast started its cycle, and what the last completed one took. -/
  cycleFrom : Per Nat := Per.all 0
  took : Per Nat := Per.all 0
  /-- Action instant on whose release each mast started its last cycle; none after START or RESUME (R276). -/
  startedOn : Per (Option Nat) := Per.all Option.none
  /-- Local time of each mast's last cycle end. -/
  endedAt : Per (Option Nat) := Per.all Option.none
  /-- Masts whose program has been halted by an overrun or a fault (R286, R287). -/
  halted : Per Bool := Per.all false
  /-- Action instant of the newest complete release (R140), and the local time of its completion. -/
  released : Option Nat := Option.none
  releasedAt : Nat := 0
  /-- HOLD was commanded: the program halts at the end of the current cycle (R288). -/
  halting : Bool := false
  /-- Masts found overrunning, with the time taken (R286), and faults reported: cycle, code, address (R287). -/
  overran : Per (Option Nat) := Per.all Option.none
  faults : Per (Option (Nat × Nat × Nat)) := Per.all Option.none
  /-- Forces in place: symbol and value (R292); the monitor session set them. -/
  forces : List (Nat × Int) := []
  /-- Releases that take effect at the next action instant: a symbol or none for all, with the cause (R294). -/
  releases : List (Option Nat × Nat) := []
  changes : List ChangeReq := []
  /-- The values applied at the start of a cycle: its number and the pairs (R290). -/
  applied : Nat × List (Nat × Int) := (0, [])
  /-- Changed values in force: symbol and value (R290, R291). -/
  values : List (Nat × Int) := []
  retain : Per RetainMast := Per.all {}
  /-- Hashes of the applications started in this module before (R35). -/
  started : List (List Byte) := []
  /-- A wake from STANDBY has happened with no START and no module reset since (R35). -/
  resumeNext : Bool := false
  /-- The checkpoint taken at STANDBY entry: cycle and image in force, and each mast's digest (R38, R41). -/
  checkpoint : Option (Nat × List Item) := Option.none
  ckDigest : Per (Option Nat) := Per.all Option.none
  /-- The listed bytes of the checkpoint's regions, as each mast wrote them. -/
  ckCells : Per (List Host.Cell) := Per.all []
  stations : List Station := []
  /-- The published input image, by offset, and the copy the cycle in progress runs on (R279). -/
  image : List (Nat × List Byte) := []
  copied : List (Nat × List Byte) := []
  deriving DecidableEq, Repr

end Sys2Proof.Machine
end

