-- ==== Sys2Proof/Machine/Parts/FbParts.lean ====
section
/-!
DEFINITION. Parts of the state: the two Flanirax door buses (R182 to R219).
-/
namespace Sys2Proof.Machine

/-- Slot kinds of the slot table (R197). -/
inductive SlotKind where
  | cycleStart | masterOut | nodeIn | spareIn | spareOut | claim
  deriving DecidableEq, Repr

/-- One slot-table entry (R197); OFFSET in units of 100 ns. -/
structure FbSlot where
  slot : Nat
  kind : SlotKind
  node : Nat
  payload : Nat
  offset : Nat
  gated : Bool
  link : Nat
  deriving DecidableEq, Repr

/-- A loaded FLANIRAX section (R195 to R197). Nodes: id and whether it is a late-comer. -/
structure FbSchedule where
  schedId : Nat
  nodeTimeout : Nat
  cycleUs : Nat
  releaseCycles : Nat
  claimSlot : Nat
  nodes : List (Nat × Bool)
  slots : List FbSlot
  deriving DecidableEq, Repr

/-- Bus states (R199). -/
inductive BusState where
  | off | integrate | normal | test | recover
  deriving DecidableEq, Repr

/-- The code of R199. -/
def BusState.code : BusState → Nat
  | .off => 0 | .integrate => 1 | .normal => 2 | .test => 3 | .recover => 4

/-- A node's standing (R205, R207, R208 and the register `FB_NODEb_n`). -/
structure FbNode where
  node : Nat
  late : Bool
  /-- 1 silent, 2 active, 3 excluded, 4 on probation, 5 granted and awaiting its first frame. -/
  state : Nat := 1
  viol : Nat := 0
  age : Nat := 0
  ofs : Int := 0
  /-- Consecutive cycles without DATA or NULL in any of its slots. -/
  quiet : Nat := 0
  /-- Cycles still ignored up to the eighth after the first CYCLE_START with its EXCLUDED bit, and accepted cycles in a row
  since. -/
  ignore : Nat := 0
  okRow : Nat := 0
  /-- The cycle under release has been judged for the node. -/
  judged : Bool := false
  deriving DecidableEq, Repr

/-- A grant of a SPARE_IN slot (R212 to R215). -/
structure FbGrant where
  slot : Nat
  node : Nat
  /-- CYCLE_START frames that have carried it; accepted a frame yet; cycles without an accepted frame, counted before the
  first one only once four CYCLE_STARTs have carried the grant. -/
  carried : Nat := 0
  /-- Number of the action instant whose CYCLE_START carried it first: it takes effect there (R213). -/
  first : Option Nat := none
  seen : Bool := false
  idle : Nat := 0
  /-- The cycle under release has been judged for the grant. -/
  judged : Bool := false
  deriving DecidableEq, Repr

/-- What is known of one slot: the last input data delivered (R205), or the output data sent (R209, R210). -/
structure FbSlotData where
  slot : Nat
  /-- Input: the last DATA payload, its cycle, cycles since, and the STATUS, CHANNELS and NODE of the last release. -/
  data : List Byte := []
  cycle : Nat := 0
  age : Nat := 0
  status : Nat := 2
  channels : Nat := 0
  node : Nat := 0
  /-- Output: the last DATA sent since STOP; a gated slot's held and released values. -/
  sent : Option (List Byte) := none
  held : Option (List Byte) := none
  gate : Option (List Byte) := none
  deriving DecidableEq, Repr

/-- A claim answer that goes out in a CYCLE_START (R187, R212): status, node, argument, and the cycle that carries it. -/
structure ClaimAnswer where
  status : Nat
  node : Nat
  arg : Nat
  deriving DecidableEq, Repr

/-- One door bus. -/
structure FbBus where
  sched : Option FbSchedule := none
  state : BusState := .off
  /-- The state in which the current cycle began: it governs how the cycle's frames are judged. -/
  cycState : BusState := .off
  /-- The slot reports of the current cycle are formed. -/
  reported : Bool := false
  /-- Cycles sent in INTEGRATE or RECOVER. -/
  sentCycles : Nat := 0
  /-- Number of the action instant the current cycle began at. -/
  cycle : Nat := 0
  /-- The CYCLE_START of the current cycle was launched on X, on Y. -/
  csX : Bool := false
  csY : Bool := false
  nodes : List FbNode := []
  grants : List FbGrant := []
  slots : List FbSlotData := []
  /-- Codes of R203 seen so far in the current cycle on X and Y: slot and code. -/
  codesX : List (Nat × Nat) := []
  codesY : List (Nat × Nat) := []
  /-- Channel and slot of the codes that a foreign CYCLE_START, counted when it was heard (R206), has left. -/
  counted : List (Nat × Nat) := []
  /-- Nanoseconds from the cycle's start up to which the receiver of X, of Y ignores the medium (R185). -/
  ignoreX : Int := 0
  ignoreY : Int := 0
  /-- Answer for the next CYCLE_START (R212): that of the release under way. -/
  answer : Option ClaimAnswer := none
  /-- Withdrawals not yet announced (R213), oldest first. -/
  withdrawn : List ClaimAnswer := []
  /-- Cycles in a row without an accepted frame on X, on Y, while the other accepted one. -/
  deafX : Nat := 0
  deafY : Nat := 0
  /-- The channels of the cycle under release have been judged. -/
  judgedX : Bool := false
  judgedY : Bool := false
  /-- Bytes of the last CYCLE_START frame formed, and of the last frame sent in an own slot. -/
  csFrame : List Byte := []
  lastSent : List Byte := []
  deriving DecidableEq, Repr

/-- Both buses. (DESIGN CHOICE, log entry 127) -/
structure FbPart where
  bus0 : FbBus := {}
  bus1 : FbBus := {}
  deriving DecidableEq, Repr

end Sys2Proof.Machine
end

