-- ==== Sys2Proof/Machine/Parts/FieldParts.lean ====
section
/-!
DEFINITION. Parts of the state: the field engine and the masts' field I/O blocks (R220 to R249).
-/
namespace Sys2Proof.Machine

/-- A pair entry of the FIELD section (R248). -/
structure PairEntry where
  kind : Nat := 0
  inA : Nat := 0
  inB : Nat := 0
  discMs : Nat := 0
  deriving DecidableEq, Repr

/-- The FIELD section (R248). -/
structure FieldConfig where
  timeout : Nat
  testRound : Nat
  fsupUsed : Nat
  /-- Filter times of inputs 1 to 48 in 0.1 ms. -/
  filters : List Nat
  pairs : List PairEntry
  /-- Per output: silence state and NO_LOAD. -/
  outputs : List (Nat × Bool)
  deriving DecidableEq, Repr

/-- One command link at the field engine (R221 to R224, R240). -/
structure FieldLink where
  valid : Bool := false
  /-- Silent since this local time; its timeout has expired. -/
  silent : Option Nat := none
  expired : Bool := false
  /-- Sequence of the last frame; ON_CUR, ON_AI, time field and local arrival time of the last command frame. -/
  seq : Option Nat := none
  onCur : Nat := 0
  onAi : Nat := 0
  time : Nat := 0
  at' : Nat := 0
  lane : Nat := 0
  cfgCrc : Nat := 0
  /-- The configuration frames delivered: index and 32 bytes. -/
  config : List (Nat × List Byte) := []
  /-- Next SEQ of the input frames sent on the link (R224). -/
  outSeq : Nat := 0
  deriving DecidableEq, Repr

/-- One lane position of the output networks (R226, R227, R240). -/
structure FieldPos where
  /-- The mast whose link the crossbar connects. -/
  link : Option Mast
  /-- The commands it holds: bit o − 1 for output o. -/
  cmd : Nat := 0
  /-- No command source since this local time (silent link, or link lost by isolation); silence states taken. -/
  lostAt : Option Nat := none
  silence : Bool := false
  /-- Its link has been connected anew and has sent no valid command frame since (R227). -/
  fresh : Bool := false
  deriving DecidableEq, Repr

/-- One output at the field engine (R230 to R239, R246). -/
structure FieldOut where
  voted : Bool := false
  /-- Local time of the last change of any command of the output (R235). -/
  changed : Nat := 0
  limitFrom : Option Nat := none
  clim : Bool := false
  /-- Thermally off since; retries in a row; locked off, and whether its voted command has been off since (R232). -/
  tripped : Option Nat := none
  retries : Nat := 0
  locked : Bool := false
  wasOff : Bool := false
  openLoad : Bool := false
  extFeed : Bool := false
  swFault : Nat := 0
  /-- Diagnosed without a conducting branch (R235, kind 3). -/
  noBranch : Bool := false
  rb : Bool := false
  mid : Nat := 0
  branches : Nat := 0
  /-- Local time at which each branch last showed current. -/
  carried : List (Option Nat) := [none, none, none]
  testBranch : Nat := 0
  testResult : Nat := 0
  testDark : Bool := false
  /-- Period of the test regime in which each branch was last tested (R238). -/
  tested : List (Option Nat) := [none, none, none]
  deriving DecidableEq, Repr

/-- The steps of a test (R237, R238). -/
inductive TestStep where
  | n1 | n2 | n3 | o1 | o2 | o3 | dark
  deriving DecidableEq, Repr

/-- A test or dark pulse under way; `energise` notes a demand to energise that waits for the step's end (R239), `held` the positions'
commands before it. -/
structure FieldTest where
  out : Nat
  branch : Nat
  step : TestStep
  began : Nat
  energise : Bool := false
  held : List Bool := []
  deriving DecidableEq, Repr

/-- One input (R243, R244). -/
structure FieldIn where
  level : Bool := false
  invalid : Bool := false
  /-- Entry time of the filtered level, module-time nanoseconds. -/
  entry : Nat := 0
  deriving DecidableEq, Repr

/-- States of a pair (R245). -/
inductive PairState where
  | off | waitOn | on | waitOff | discrepancy
  deriving DecidableEq, Repr

/-- The state code of R245. -/
def PairState.code : PairState → Nat
  | .off => 0 | .waitOn => 1 | .on => 2 | .waitOff => 3 | .discrepancy => 4

/-- A pair's standing: its state, the contact that moved first (0 IN_A, 1 IN_B), the start of the discrepancy timer in
field-engine time. -/
structure FieldPair where
  state : PairState := .off
  first : Nat := 0
  start : Nat := 0
  deriving DecidableEq, Repr


/-- One mast's field I/O block. -/
structure FieldMast where
  /-- SEQ of the next frame to the field engine, and the last command frame sent. -/
  seq : Nat := 0
  lastFrame : List Byte := []
  /-- Fired queued changes in force, latest first; those whose CLEAR waits for the action instant (R234). -/
  fired : List Nat := []
  clearing : List Nat := []
  /-- Commands last placed per output, for the repeat of R148. -/
  placed : Nat := 0
  /-- When the last valid input frame was received, and its SEQ (R241). -/
  heard : Nat := 0
  inSeq : Option Nat := none
  /-- CFGCRC of that frame (R223, R224). -/
  engineCrc : Nat := 0
  /-- Next configuration frame to send while none is adopted (R223). -/
  cfgIndex : Nat := 0
  deriving DecidableEq, Repr

/-- The field engine and the field I/O blocks. -/
structure FieldPart where
  /-- Checked FIELD section with its 496 bytes; none where it failed or was not read (R249). -/
  fsec : Option FieldConfig := none
  body : List Byte := []
  /-- The field engine has power (R220, R37). -/
  powered : Bool := false
  /-- The configuration the field engine has adopted, with its CRC (R223). -/
  adopted : Option FieldConfig := none
  adoptedCrc : Nat := 0
  links : Per FieldLink := Per.all {}
  posA : FieldPos := { link := some .a }
  posB : FieldPos := { link := some .b }
  posC : FieldPos := { link := some .c }
  outs : List FieldOut := List.replicate 24 {}
  test : Option FieldTest := none
  /-- 0 invisible, 1 dark pulse, 2 suspended (R238). -/
  regime : Nat := 2
  ins : List FieldIn := List.replicate 48 {}
  pairs : List FieldPair := List.replicate 24 {}
  /-- FSUP_IN, FSUP1 to FSUP3: 0 normal, 1 low, 2 missing (R247). -/
  supplies : List Nat := [0, 0, 0, 0]
  /-- Local time at which FSUP_IN was last missing no longer (R243). -/
  backAt : Nat := 0
  /-- Items waiting in the field engine, oldest first, at most 512 (R225), and whether one was not formed. -/
  queue : List Item := []
  queueFull : Bool := false
  notFormed : Nat := 0
  /-- Next sequence per source of the field engine. -/
  seqs : List (Nat × Nat) := []
  /-- The field engine's time and the local time it was formed at (R224). -/
  time : Nat := 0
  timeAt : Nat := 0
  /-- The items of the last input frame sent (R224). -/
  sent : List Item := []
  masts : Per FieldMast := Per.all {}
  /-- Released levels: input, level, invalid; released pair values and states. -/
  relIns : List (Nat × Bool × Bool) := []
  relPairs : List (Nat × Bool × Nat) := []
  deriving DecidableEq, Repr

/-- One position of the output networks. -/
def FieldPart.pos (f : FieldPart) : LanePos → FieldPos
  | .a => f.posA | .b => f.posB | .c => f.posC

/-- The field with one position replaced. -/
def FieldPart.setPos (f : FieldPart) (p : LanePos) (x : FieldPos) : FieldPart :=
  match p with
  | .a => { f with posA := x } | .b => { f with posB := x } | .c => { f with posC := x }

end Sys2Proof.Machine
end

