-- ==== Sys2Proof/Machine/Parts/LaneParts.lean ====
section
/-!
DEFINITION. Parts of the state: the lane manager, the join, transmit units, and the intake (R100 to R149).
-/
namespace Sys2Proof.Machine

/-- One heartbeat path from one mast to another (R104, R105). -/
structure HbPath where
  /-- Consecutive beats received since the last miss, up to 4. -/
  good : Nat := 0
  /-- Consecutive missed beats, up to 4. -/
  missed : Nat := 0
  down : Bool := false
  /-- When the last beat was received, or its window last renewed. -/
  last : Nat := 0
  deriving DecidableEq, Repr

/-- What an observer knows of a peer through its beats (R103 to R107). -/
structure HbLink where
  hb1 : HbPath := {}
  hb2 : HbPath := {}
  /-- The VIEW, OWNERS, COMMIT and CDIG fields of the last valid HB1 beat. -/
  view : Nat := 0
  owners : Nat := 0
  commit : Nat := 0
  cdig : Nat := 0
  /-- Module time at which that beat was sent. -/
  sent : Nat := 0
  /-- Consecutive beats whose VIEW lists the observer as isolated (R107). -/
  listed : Nat := 0
  deriving DecidableEq, Repr

/-- An output image a mast has submitted and that is not yet committed (R108, R278). -/
structure Submitted where
  cycle : Nat
  digest : Nat
  items : List Item
  /-- Module time at which it was submitted, and the commit points at which it has been pending. -/
  time : Nat
  points : Nat
  deriving DecidableEq, Repr

/-- A commit decision that takes effect at the next action instant (R108). -/
structure Decision where
  cycle : Nat
  digest : Nat
  items : List Item
  deriving DecidableEq, Repr

/-- Isolation of a lost mast under way (R112): the mast, its position, the onset (module time) of its loss, and the local
times of the onset and of the decision. -/
structure Isolation where
  mast : Mast
  pos : LanePos
  onset : Nat
  from' : Nat
  decided : Nat
  deriving DecidableEq, Repr

/-- A join under way or ended (R119 to R125). -/
structure Join where
  target : LanePos
  onset : Nat
  /-- 1 to 8 per R119, 9 failed. -/
  phase : Nat
  /-- Local time at which the jury mast's power switch closed, and the steps of R119 its ROM has taken since: 1 started, 2
  self-tests passed and links up, 3 slot key read, 4 images verified; with what it finds in them. -/
  poweredAt : Nat := 0
  rom : Nat := 4
  find : Option JuryFinding := none
  /-- READY was written (R119 step 7). -/
  ready : Bool := false
  /-- Survivors whose bulk round has ended. -/
  bulkEnded : Per Bool := Per.all false
  round : Nat := 0
  /-- Mapped pages written since the last round was taken, from the start of the bulk round on (R121, R119 step 9), and the pages
  of the round under way. -/
  written : List (Nat × Nat) := []
  roundPages : List (Nat × Nat) := []
  /-- Records received that wait for their twin: survivor, record. -/
  waiting : List (Mast × PageRecord) := []
  /-- PCRC of the pages J has accepted: region, page, pcrc. -/
  pages : List (Nat × Nat × Nat) := []
  /-- Requests made so far for a page: region, page, count. -/
  requests : List (Nat × Nat × Nat) := []
  /-- Survivors that hold Triad P at a cycle end (step 10), with the cycle. -/
  holding : Per (Option Nat) := Per.all none
  /-- T1 has passed: the final round is under way; the number of pages accepted in it. -/
  final : Bool := false
  finalPages : Nat := 0
  /-- Survivors' checkpoint digests received with the final round's end. -/
  digests : Per (Option Nat) := Per.all none
  /-- J's copy equals the agreed checkpoint. -/
  matched : Bool := false
  ended : Option Nat := none
  reason : Nat := 0
  deriving DecidableEq, Repr

/-- A frame queued on a transmit unit with the digests deposited for it (R115). -/
structure UnitFrame where
  frame : TxFrame
  /-- When the first mast formed it. -/
  formed : Nat
  deposits : Per (Option Nat)
  /-- The bytes each mast has formed. -/
  copies : Per (Option TxFrame)
  deriving DecidableEq, Repr

/-- A frame on the medium that ends with a good FCS unless it is cut (R94, R118), and the local time at which it ends. -/
structure WireFrame where
  frame : UnitFrame
  upTo : Nat
  deriving DecidableEq, Repr

/-- A frame the owner has taken from a unit's queue (R115): the digest of the bytes passed (none where they were damaged), or
that it was discarded, and the digests of the masts so far. -/
structure SentFrame where
  seq : Nat
  port : Nat
  cls : Nat
  owner : Mast
  passed : Option Nat
  discarded : Bool
  deposits : Per (Option Nat)
  deriving DecidableEq, Repr

/-- One of the eight transmit units (R114 to R118). -/
structure TxUnit where
  owner : Mast
  /-- A normal handover waits for the unit's boundary. -/
  pendingTo : Option Mast := none
  queue : List UnitFrame := []
  /-- Frames discarded unconfirmed since the last TX_UNCONFIRMED. -/
  unconfirmed : Nat := 0
  /-- Frames that left with a good FCS and frames cut with a bad one. -/
  sentGood : Nat := 0
  sentBad : Nat := 0
  /-- Frames on the medium, and frames taken from the queue for which digests are still to come. -/
  wire : List WireFrame := []
  gone : List SentFrame := []
  deriving DecidableEq, Repr

/-- The lane (R100 to R130). (DESIGN CHOICE, log entry 127) -/
structure LanePart where
  lane : Lane := .triplex
  /-- Mast holding each position. -/
  posA : Mast := .a
  posB : Mast := .b
  posC : Mast := .c
  /-- Masts that vote. -/
  active : Per Bool := ⟨true, true, true, false⟩
  isolated : Per Bool := Per.all false
  spare : Bool := true
  hb : Per (Per HbLink) := Per.all (Per.all {})
  beatSeq : Per Nat := Per.all 0
  /-- The last HB1 beat each mast sent (R103) and the level of its HB2 lines. -/
  beatOut : Per (List Byte) := Per.all []
  hb2Level : Per Bool := Per.all false
  images : Per (Option Submitted) := Per.all none
  decision : Option Decision := none
  /-- The last commit point that was held, by the index of its action instant on the grid. -/
  lastPoint : Option Nat := none
  /-- The last commit decision: low words of cycle and digest, and its module time (R110). -/
  decided : Option (Nat × Nat × Nat) := none
  /-- Module time of the last change of owners. -/
  ownersAt : Nat := 0
  /-- Local time of the last commit's action instant. -/
  committedAt : Nat := 0
  /-- A mast that missed a committed cycle, with that cycle and digest (R109, third row). -/
  late : Option (Mast × Nat × Nat) := none
  /-- The committed image in force; empty is the all-off image (R17, R298). -/
  inForce : List Item := []
  isolation : Option Isolation := none
  join : Option Join := none
  units : List TxUnit :=
    [{ owner := .a }, { owner := .b }, { owner := .a }, { owner := .b }, { owner := .b }, { owner := .c }, { owner := .c }, { owner := .c }]
  /-- The selectors pass nothing: every mode but SERVICE, STOP, RUN and HOLD (R23). -/
  mute : Bool := true
  /-- CYCGO.GO per mast (R119 step 10). -/
  go : Per Bool := Per.all true
  /-- Application cycle of the last cycle-end mark of each mast (R124). -/
  cycEnd : Per (Option Nat) := Per.all none
  /-- Mapped pages written in the current application cycle. -/
  dirtyNow : List (Nat × Nat) := []
  /-- The page record each survivor last sent again (R125), and the end record of the round it last sent (R122). -/
  pageOut : Per (Option PageRecord) := Per.all none
  endOut : Per (Option PageRecord) := Per.all none
  deriving DecidableEq, Repr

/-- One item staged on a mast (R135): the item and how often it has been held over (R137). -/
structure Staged where
  item : Item
  heldOver : Nat
  /-- Arrival time on that mast. -/
  arrived : Nat
  /-- Proposed to the peers already. -/
  proposed : Bool
  /-- Pool buffer that holds it (R335). -/
  buffer : Option Nat
  deriving DecidableEq, Repr

/-- A missing item a mast has to fill (R138). -/
structure FillNeed where
  source : Nat
  seq : Nat
  crc : Nat
  bytes : Nat
  /-- Holders in lane-position order; the first is asked first. -/
  holders : List Mast
  done : Bool
  deriving DecidableEq, Repr

/-- What one mast's intake holds (R135 to R144). -/
structure IntakeMast where
  staged : List Staged := []
  /-- Tags each peer has proposed, with bits 31:0 of the number of the action instant proposed for. -/
  heard : Per (List (Nat × Nat)) := Per.all []
  /-- Bits 31:0 of the action instant's number that the last CLOSE from each peer named. -/
  closed : Per (Option Nat) := Per.all none
  /-- PSEQ expected from each peer and messages to ask for again. -/
  pseqIn : Per Nat := Per.all 0
  missingMsg : List (Mast × Nat) := []
  pseqOut : Nat := 0
  lastProposal : Nat := 0
  /-- Proposal messages sent, by PSEQ, newest first, kept for a repeat (R136). -/
  sent : List (Nat × List Byte) := []
  fills : List FillNeed := []
  fillBytes : Nat := 0
  /-- The copy last sent to a peer as a fill (R138): the peer and the item. -/
  fillOut : Option (Mast × Item) := none
  deriving DecidableEq, Repr

/-- The intake of the module (R131 to R149). -/
structure IntakePart where
  masts : Per IntakeMast := Per.all {}
  /-- Items agreed for the instant under way and not yet released, in the order of R140. -/
  agreed : List Item := []
  /-- The instant under way: its number and the local time it fell on; none before the first. -/
  instant : Option (Nat × Nat) := none
  releasePending : Bool := false
  /-- Items released at the last instant, in order. -/
  released : List Item := []
  /-- Source and sequence of the items agreed or discarded on every mast at the last two action instants, with the instant's number:
  a later copy of one is no candidate (R137). -/
  past : List (Nat × Nat × Nat) := []
  /-- Expected next sequence of each source numbered by the entry logic (R143), sorted by source. -/
  expected : List (Nat × Nat) := []
  /-- Exit failures reported since the last instant: mast, source, sequence (R148). -/
  exitFails : List (Mast × Nat × Nat) := []
  /-- Items the entry logic has formed since the last action instant, in order (R131), and the next sequence of each source
  it numbers. -/
  fan : List Item := []
  entrySeq : List (Nat × Nat) := []
  deriving DecidableEq, Repr

end Sys2Proof.Machine
end

