-- ==== Sys2Proof/Machine/Parts/NetParts.lean ====
section
/-!
DEFINITION. Parts of the state: network ports, TRDP and safe connections (R301 to R325).
-/
namespace Sys2Proof.Machine

/-- An interface entry (R324). -/
structure NetIface where
  mode : Nat := 0
  mac : Nat := 0
  ip : Nat := 0
  mask : Nat := 0
  gateway : Nat := 0
  vlan : Nat := 0
  deriving DecidableEq, Repr

/-- One traffic class of a port: its entry (R324), its policer's tokens in 10⁻⁴ bit and when they were last counted (R314),
and the items of its reservation used for this action instant (R315). -/
structure NetClass where
  rate : Nat := 0
  burst : Nat := 6
  reserve : Nat := 0
  thresh : Nat := 100
  buf : Nat := 12
  tokens : Nat := 0
  tokensAt : Nat := 0
  used : Nat := 0
  deriving DecidableEq, Repr

/-- A gate entry (R311, R324). -/
structure GclEntry where
  gates : Nat
  interval : Nat
  deriving DecidableEq, Repr

/-- A port's entry and its standing. -/
structure NetPort where
  speeds : Nat := 0
  budget : Nat := 64
  pcpMap : Nat := 0
  untagged : Nat := 0
  gcl : List GclEntry := []
  classes : List NetClass := []
  /-- Items taken from the shared pool for this action instant (R315). -/
  pool : Nat := 0
  deriving DecidableEq, Repr

/-- An entry of the duplicate-discard table (R304). -/
structure PrpEntry where
  mac : Nat
  seq : Nat
  at' : Nat
  deriving DecidableEq, Repr

/-- A PD entry (R324) with what the machine keeps for it: for a publication the action instants until it is next sent, for
a subscription the last dataset placed, its release time and whether it is fresh (R281, R308). -/
structure PdEntry where
  comId : Nat
  dir : Nat
  station : Nat
  iface : Nat
  flags : Nat
  peer : Nat
  period : Nat
  timeoutMs : Nat
  phaseUs : Nat
  len : Nat
  telegram : Nat
  sc : Nat
  wait : Nat := 0
  data : Option (List Byte) := none
  at' : Nat := 0
  /-- Action instants since the release that last carried the telegram, and the TRDP sequence of that receipt (R281). -/
  age : Nat := 0
  seq : Nat := 0
  deriving DecidableEq, Repr

/-- An MD entry (R324). -/
structure MdEntry where
  comId : Nat
  peer : Nat
  kind : Nat
  iface : Nat
  timeoutMs : Nat
  maxLen : Nat
  deriving DecidableEq, Repr

/-- An open MD session (R309): its ComId, when it was opened and its reply timeout. -/
structure MdSession where
  id : Nat
  comId : Nat
  opened : Nat
  timeoutMs : Nat
  deriving DecidableEq, Repr

/-- The message a mast last formed on a send connection (R319): sequence, FLAGS and data, the input time of its cycle, and its
bytes. -/
structure ScSent where
  seq : Nat
  flags : Nat
  data : List Byte
  time : Nat
  bytes : List Byte
  deriving DecidableEq, Repr

/-- A safe connection's entry (R324) and standing (R319 to R321). -/
structure SafeConn where
  connId : Nat
  dir : Nat
  maxGap : Nat
  maxAge : Nat
  watchdog : Nat
  key : List Byte
  /-- Receive: sequence and bytes of the last accepted message, and whether the next is accepted whatever its sequence, as after
  STOP, a START or a watchdog expiry; repeats counted (R320). -/
  last : Option (Nat × List Byte) := none
  anySeq : Bool := true
  repeats : Nat := 0
  /-- The data in force: SAFE_REQ and the producer's input time of the last accepted message. -/
  safeReq : Bool := true
  prodTime : Nat := 0
  /-- Local time of the last acceptance, and whether the watchdog has expired since. -/
  acceptedAt : Nat := 0
  expired : Bool := true
  ever : Bool := false
  /-- Send: what each mast formed last. -/
  sent : Per (Option ScSent) := Per.all none
  deriving DecidableEq, Repr

/-- What a frame the module itself answers with is (R305, R307, R309): ARP replies and gratuitous ARPs, ICMP replies, Me and
Pp telegrams. Kept for the outside, since the last action instant. -/
inductive NetReply where
  | arp (iface : Nat) (gratuitous : Bool)
  | icmpEcho (port : Nat)
  | icmpUnreachable (port : Nat)
  | pdPull (telegram : Nat) (data : List Byte)
  | me (comId : Nat)
  deriving DecidableEq, Repr

/-- The network. (DESIGN CHOICE, log entry 127) -/
structure NetPart where
  enabled : Bool := false
  ifaces : List NetIface := []
  ports : List NetPort := []
  mcast : List Nat := []
  pd : List PdEntry := []
  md : List MdEntry := []
  sc : List SafeConn := []
  icmpRate : Nat := 100
  prp : List (List PrpEntry) := [[], []]
  /-- Next PRP sequence number of each interface, as each mast counts it (R303). -/
  prpOut : Per (Nat × Nat) := Per.all (0, 0)
  /-- ARP entries of each interface: address and MAC. -/
  arp : List (List (Nat × Nat)) := [[], []]
  /-- ICMP and ARP replies of the current second per port: when it began and how many. -/
  icmp : List (Nat × Nat) := [(0, 0), (0, 0), (0, 0), (0, 0)]
  arpReplies : List (Nat × Nat) := [(0, 0), (0, 0), (0, 0), (0, 0)]
  sessions : List MdSession := []
  nextSession : Nat := 0
  replies : List NetReply := []
  /-- Publications queued with their launch times (R307): telegram, launch time, dataset. -/
  publish : List (Nat × Nat × List Byte) := []
  /-- Topography counters the train inauguration reports to Triad C: ETB and operational (R306, R324). -/
  topo : Nat × Nat := (0, 0)
  deriving DecidableEq, Repr

end Sys2Proof.Machine
end

