-- ==== Sys2Proof/Machine/Parts/PanelParts.lean ====
section
/-!
DEFINITION. Parts of the state: the logic supply, the pushbutton, the recovery break, STANDBY and the service monitor
(R31, R37 to R44, R414 to R445).
-/
namespace Sys2Proof.Machine

/-- The logic supply, the hold-up store, the tachometer supplies and the rail temperatures (R423 to R426, R437, R442).
Voltages in mV, times in local nanoseconds. -/
structure SupplyPart where
  volt : Nat := 0
  /-- Below 16.8 V since, and reported; above 30.2 V since, the highest voltage of the excursion, and when it was last reported. -/
  lowFrom : Option Nat := none
  lowTold : Bool := false
  overFrom : Option Nat := none
  overMax : Nat := 0
  overTold : Option Nat := none
  /-- The interruption under way: its start and its lowest voltage. -/
  cut : Option (Nat × Nat) := none
  /-- Interruptions ridden through that the next action instant reports: length in ns and lowest voltage. -/
  ridden : List (Nat × Nat) := []
  store : Nat := 0
  full : Bool := false
  /-- Step 9 of R29 has looked at the store (R425). -/
  checked : Bool := false
  /-- INTERFACE_TEMP has been raised and both rails have not been below 120 °C since. -/
  railsOver : Bool := false
  /-- Tachometer supplies of axles 1 and 2: switched off since. -/
  tach1 : Option Nat := none
  tach2 : Option Nat := none
  deriving DecidableEq, Repr

/-- The reset pushbutton and the recovery break (R31, R43, R44). -/
structure PanelPart where
  /-- The contact is closed, or open, since. -/
  closed : Option Nat := none
  opened : Option Nat := none
  /-- The module is held in reset by a debounced press. -/
  holding : Bool := false
  /-- A break that began in the window, since. -/
  breakFrom : Option Nat := none
  /-- AUTOSTART is set and the start after BOOT has not been made or dropped yet (R29 step 12). -/
  autoDue : Bool := false
  /-- The step of R29 that overran, if one did (R48). -/
  overran : Nat := 0
  /-- Local time at which the LED of each network port last went dark for a frame (R441). -/
  dark : List (Option Nat) := [none, none, none, none]
  deriving DecidableEq, Repr

/-- STANDBY (R37 to R42). -/
structure StandbyPart where
  /-- The timer of `MC_WAKESEC` counts for this STANDBY (R38). -/
  timer : Bool := false
  deriving DecidableEq, Repr

/-- A file that is being received on the service port (R421): 1 a container, 2 a customer key for a slot; the number of the next
XMODEM block. -/
structure Transfer where
  kind : Nat
  slot : Nat
  bytes : List Byte := []
  next : Nat := 1
  deriving DecidableEq, Repr

/-- The answer to the last line: its command word as a little-endian number of its characters, the number n of `ERR n` (0 for
OK), and what it shows: address and word of each register, or other numbers under their own keys. -/
structure MonAnswer where
  word : Nat := 0
  result : Nat := 0
  shown : List (Nat × Nat) := []
  deriving DecidableEq, Repr

/-- The service port and its sessions (R417 to R421). -/
structure MonPart where
  /-- The open session: key entry, and when its last line or block came. -/
  session : Option (Nat × Nat) := none
  /-- The challenge outstanding: key entry, the 16 bytes, and when it was drawn. -/
  challenge : Option (Nat × List Byte × Nat) := none
  /-- Times of failed answers within the last 60 s, and the time from which `auth` is refused. -/
  fails : List Nat := []
  lockedAt : Option Nat := none
  /-- Lines that wait for an answer, oldest first, at most four. -/
  waiting : List (List Byte) := []
  /-- The characters of the last line, as the module echoed them (R417). -/
  echo : List Byte := []
  transfer : Option Transfer := none
  answer : MonAnswer := {}
  deriving DecidableEq, Repr

end Sys2Proof.Machine
end

