-- ==== Sys2Proof/Machine/Parts/QueueParts.lean ====
section
/-!
DEFINITION. Parts of the state: the receive pool, DMA channels and cache operations of a mast (R335 to R347). Ring indices,
channel states and counts stand in their registers.
-/
namespace Sys2Proof.Machine

/-- A DMA channel's loaded descriptor (R337) and what it still has to do with it. -/
structure DmaChannel where
  n : Nat
  /-- Address of the descriptor loaded and its 64 bytes as read at load. -/
  addr : Nat := 0
  bytes : List Byte := []
  /-- A completion record that waits for a slot of the ring, with the state code to take then (R331). -/
  record : Option (List Byte × Nat) := none
  /-- Completions since module reset (R343). -/
  count : Nat := 0
  deriving DecidableEq, Repr

/-- A cache operation in progress (R346): its kind, range, and the dirty lines it has to write, with their bytes. -/
structure CacheOp where
  op : Nat
  base : Nat
  len : Nat
  dirty : List (Nat × List Byte)
  deriving DecidableEq, Repr

/-- A triad's cache-maintenance unit: the operation in progress, and whether a read of `QM_BARRIER` waits (R346). -/
structure CacheUnit where
  op : Option CacheOp := none
  barrier : Bool := false
  deriving DecidableEq, Repr

/-- One mast's queue manager. -/
structure QueueMast where
  channels : List DmaChannel := []
  /-- Free pool buffers in the order in which they were freed, and those in use. -/
  free : List Nat := []
  inUse : List Nat := []
  cacheP : CacheUnit := {}
  cacheC : CacheUnit := {}
  deriving DecidableEq, Repr

/-- The cache unit of a triad. -/
def QueueMast.cache (q : QueueMast) : Triad → CacheUnit
  | .p => q.cacheP | .c => q.cacheC

/-- The mast's queue manager with one cache unit replaced. -/
def QueueMast.setCache (q : QueueMast) (t : Triad) (u : CacheUnit) : QueueMast :=
  match t with
  | .p => { q with cacheP := u }
  | .c => { q with cacheC := u }

/-- A channel of the mast, as it stands. -/
def QueueMast.channel (q : QueueMast) (n : Nat) : DmaChannel :=
  (q.channels.find? fun c => c.n == n).getD { n := n }

/-- Replace a channel. -/
def QueueMast.setChannel (q : QueueMast) (c : DmaChannel) : QueueMast :=
  { q with channels := c :: q.channels.filter fun d => d.n != c.n }

end Sys2Proof.Machine
end

