-- ==== Sys2Proof/Machine/Parts/RackParts.lean ====
section
/-!
DEFINITION. Parts of the state: the rack bus bridge and the stay link (R350 to R373).
-/
namespace Sys2Proof.Machine

/-- One outbound transaction waiting or under way (R353 to R357), in program order. -/
structure OutTx where
  /-- Access it belongs to, the byte offset of its first byte in that access, its byte count, and whether it is the last. -/
  access : Nat
  off : Nat
  count : Nat
  last : Bool
  window : Nat
  /-- Window offset of its first byte. -/
  x : Nat
  raddr : Nat
  /-- 0 read, 1 non-posted write, 2 posted write (R358). -/
  kind : Nat
  item : Item
  /-- Masts that have deposited its digest, and the triad of each that waits for the access. -/
  deposits : Per Bool
  waiting : Per (Option Triad)
  formed : Nat
  /-- When the owner first asserted `RB_REQ_N` for it (R357). -/
  req : Option Nat := none
  /-- Local time at which its bus transaction ended and its answer was formed (R142). -/
  ended : Nat := 0
  /-- The agreed answer: data and result (R142). -/
  agreed : Option (Nat × Nat) := none
  deriving DecidableEq, Repr

/-- An access whose answers are being gathered: its read bytes so far, whether a transaction of it failed, and who waits. -/
structure OutAccess where
  access : Nat
  value : Nat := 0
  failed : Bool := false
  deriving DecidableEq, Repr

/-- An answer item of a read or non-posted write that waits for agreement (R142). -/
structure RackAnswer where
  item : Item
  holders : Per Bool
  arrived : Nat
  deriving DecidableEq, Repr

/-- An entry of the posted-write error queue (R360). -/
structure PweEntry where
  window : Nat
  result : Nat
  raddr : Nat
  tag : Nat
  time : Nat
  deriving DecidableEq, Repr

/-- How the bridge last answered an inbound access: not selected, acknowledged (with read data), retry, error. -/
inductive InAnswer where
  | notSelected
  | ack (data : Nat)
  | retry
  | error
  deriving DecidableEq, Repr

/-- The rack bus bridge. (DESIGN CHOICE, log entry 127) -/
structure BridgePart where
  txs : List OutTx := []
  accesses : List OutAccess := []
  /-- Transactions done on the bus whose answers are not agreed yet. -/
  done : List OutTx := []
  answers : List RackAnswer := []
  nextAccess : Nat := 0
  /-- Sequence of the next transaction of each window, and of the side-band reads (R355, R365). -/
  seqs : List (Nat × Nat) := []
  sbSeq : Nat := 0
  pwe : List PweEntry := []
  /-- Live copies of the exposed pages: byte offset in the four pages and word (R363). -/
  live : Per (List (Nat × Word)) := Per.all []
  /-- Commit written by each mast since the last copy: page mask and sequence. -/
  commits : Per (Option (Nat × Nat)) := Per.all none
  copying : Option (Nat × Nat) := none
  /-- Inbound writes accepted and not yet released (R362). -/
  inbuf : Nat := 0
  lastIn : InAnswer := .notSelected
  intSample : Nat := 0
  /-- N_SB of the BRIDGE section. -/
  nSb : Nat := 0
  /-- Last value and result of each side-band word. -/
  sideband : List (Nat × Nat × Nat) := []
  deriving DecidableEq, Repr

/-- A member of the stay-link ring as its PRESENCE frames show it (R369). -/
structure SlMember where
  slot : Nat
  rank : Nat
  master : Nat
  shareLen : Nat
  cycleUs : Nat
  offsetNs : Nat
  /-- When its last PRESENCE frame arrived, and the number of action instants it has been a member. -/
  heard : Nat
  instants : Nat
  deriving DecidableEq, Repr

/-- Fragments of a block that is being received (R368). -/
structure SlBlock where
  typ : Nat
  src : Nat
  dst : Nat
  frags : Nat
  parts : List (Nat × List Byte)
  deriving DecidableEq, Repr

/-- A block queued on ring 119 by the masts (R371): its value and the masts that have queued it. -/
structure SlQueued where
  value : List Byte
  deposits : Per Bool
  deriving DecidableEq, Repr

/-- The stay link. (DESIGN CHOICE, log entry 127) -/
structure StayPart where
  /-- JOIN of the STAY_LINK section (R373). -/
  join : Bool := true
  conflict : Bool := false
  members : List SlMember := []
  /-- This module's own count of action instants as a member. -/
  ownInstants : Nat := 0
  /-- MASTER_PREF of the slot image (R369), and when the module joined the ring. -/
  pref : Bool := false
  joinedAt : Nat := 0
  /-- Next SEQ per frame type (R368). -/
  seqs : List (Nat × Nat) := []
  blocks : List SlBlock := []
  queued : List SlQueued := []
  sentThisCycle : Bool := false
  /-- Does the sum of SHARE_LEN pass the limit of R371, as last reported? -/
  shareOver : Bool := false
  /-- Neighbour slots towards which the ring is folded (R367). -/
  wraps : List Nat := []
  /-- Frames sent by this module and frames forwarded, newest first, at most 64 of each. -/
  sent : List (List Byte) := []
  forwarded : List (List Byte) := []
  deriving DecidableEq, Repr

end Sys2Proof.Machine
end

