-- ==== Sys2Proof/Machine/Parts/SupParts.lean ====
section
/-!
DEFINITION. Parts of the state: the safety supervisors (R252 to R272).
-/
namespace Sys2Proof.Machine

/-- A speed-limit entry of the sealed parameters (R271). -/
structure SpLimitEntry where
  mms : Nat := 0
  pair : Nat := 0
  always : Bool := false
  appSel : Bool := false
  delayMs : Nat := 0
  mask : Nat := 0
  deriving DecidableEq, Repr

/-- A window entry of the sealed parameters (R271). -/
structure SpWindowEntry where
  low : Int := 0
  high : Int := 0
  mask : Nat := 0
  used : Bool := false
  reqZero : Bool := false
  deriving DecidableEq, Repr

/-- The sealed parameters (R271). -/
structure SpParams where
  step1 : Nat
  step2 : Nat
  dirSign : Nat
  refInput : Nat
  refEdge : Nat
  confirmMs : Nat
  tZeroMs : Nat
  stillDist : Nat
  slipMin : Nat
  slipPct : Nat
  odoTimeS : Nat
  discAbs : Nat
  discRel : Nat
  ackMode : Nat
  ackPair : Nat
  odoMask : Nat
  dirMask : Nat
  dirTol : Nat
  pairUp : Nat
  pairDown : Nat
  dirApp : Bool
  limits : List SpLimitEntry
  windows : List SpWindowEntry
  setId : Nat
  deriving DecidableEq, Repr

/-- What a supervisor keeps per axle: the speed at the last edge in 0.1 mm/s, the local times of the last edges in either
direction, upward and downward, and the standstill point, direction reference and berth reference in counter units. -/
structure SpAxle where
  speed : Nat := 0
  last : Option Nat := none
  lastUp : Option Nat := none
  lastDown : Option Nat := none
  still : Int := 0
  dirRef : Int := 0
  ref : Int := 0
  /-- Local times of quadrature errors within the last second. -/
  qerrs : List Nat := []
  deriving DecidableEq, Repr

/-- A limit's standing (R261, R262): when it became selected, whether it is supervised, and the crossing under confirmation. -/
structure SpLimit where
  selected : Option Nat := none
  supervised : Bool := false
  crossing : Option Nat := none
  deriving DecidableEq, Repr

/-- One mast's supervisor. -/
structure SpMast where
  active : Bool := false
  selftest : Bool := false
  ax1 : SpAxle := {}
  ax2 : SpAxle := {}
  zero : Bool := false
  /-- Activation, from which T_ZERO counts until the first edge (R254). -/
  activated : Nat := 0
  /-- Slip or slide holds since; since when the difference has been back within its bound (R255). -/
  slip : Option Nat := none
  within : Option Nat := none
  berth : Bool := false
  /-- Bit w − 1: window w permitted at the last evaluation (R259). -/
  permit : Nat := 0
  limits : List SpLimit := List.replicate 8 {}
  dirUp : Bool := false
  dirDown : Bool := false
  latchSls : Nat := 0
  latchWin : Nat := 0
  latchDir : Bool := false
  latchOdo : Bool := false
  /-- Consecutive action instants at which its contribution has differed (R269). -/
  differs : Nat := 0
  deriving DecidableEq, Repr

/-- The supervisors. -/
structure SupPart where
  params : Option SpParams := none
  masts : Per SpMast := Per.all {}
  /-- REF_INPUT's previous released item: level and validity (R257). -/
  refPrev : Option (Bool × Bool) := none
  /-- ACK_PAIR's last released value, and a change from off to on that takes effect at the next action instant (R267). -/
  ackPrev : Bool := false
  ackPending : Bool := false
  /-- Crossing of the last violation whose first forced command frame has not left yet (`SP_LASTV`). -/
  react : Option Nat := none
  /-- Text of the sign-off record (R271). -/
  record : List Byte := []
  deriving DecidableEq, Repr

end Sys2Proof.Machine
end

