-- ==== Sys2Proof/Machine/Parts/TimeParts.lean ====
section
/-!
DEFINITION. Parts of the state: timebases and the clock servo, transmit timestamps, path position and comparators
(R150 to R181).
-/
namespace Sys2Proof.Machine

/-- A transmit timestamp entry (R161): the descriptor's identifier, the module time in nanoseconds and the CRC-32C. (DEDUCED, log entry 131) -/
structure TxStamp where
  id : Nat
  time : Nat
  crc : Nat
  deriving DecidableEq, Repr

/-- One port's transmit timestamps (R161): captured ones that wait for the next release, as each mast has its copy, and every
mast's queue of at most 16. -/
structure StampQueue where
  captured : Per (List TxStamp) := Per.all []
  queue : Per (List TxStamp) := Per.all []
  deriving DecidableEq, Repr

/-- A grandmaster that Announce messages have named on a port (R155), and the local time of the last. -/
structure Heard where
  gm : Nat
  port : Nat
  ann : Announce
  at' : Nat
  deriving DecidableEq, Repr

/-- Timebases, servo and action instants. Timebases count 2⁻³² ns (R150). -/
structure TimePart where
  tb : Per Nat := Per.all 0
  /-- Step 9 of R29 has seeded the timebases (R156). -/
  seeded : Bool := false
  /-- Nanoseconds fraction still to be slewed, in 2⁻³² ns, signed (R157). -/
  slew : Int := 0
  /-- Lane trim of each mast in units of 10 ppb (R152), and what it has still to move the timebase by, in 2⁻³² ns, signed. -/
  trim : Per Int := Per.all 0
  left : Per Int := Per.all 0
  /-- Consecutive checks at which the mast's strobe lay outside the band (R153). -/
  outside : Per Nat := Per.all 0
  /-- Timebase counts by which the common increment has carried module time on since the last action instant (R167). -/
  ran : Nat := 0
  /-- Grandmaster identity followed, and consecutive measurements within 1 µs (R156). -/
  gm : Option Nat := none
  within : Nat := 0
  /-- The time source, once one was measured: the servo may lose it (R449). -/
  following : Bool := false
  /-- Local time at which HOLDOVER or REFUSED was entered (`TB_HOLD`). -/
  heldFrom : Option Nat := none
  /-- Last UTC offset received by PTP (R415). -/
  utcOffset : Option Int := none
  /-- Index of the last action instant on the grid, its module time and its local time (R165, R167). -/
  lastIndex : Option Nat := none
  lastAiTime : Nat := 0
  lastAiLocal : Nat := 0
  aiNumber : Nat := 0
  aiBias : Nat := 0
  /-- A step has been made since the last action instant: 1 forced, 2 acquisition (R167). -/
  stepped : Option Nat := none
  stamps : List StampQueue := [{}, {}, {}, {}]
  /-- The rack's action instant differs (R168). -/
  rackMismatch : Bool := false
  /-- The source is the stay link (PROTOCOL of the TIME section): 0 none, 1 IEEE 1588, 2 IEEE 802.1AS, 3 stay link. -/
  protocol : Nat := 0
  /-- PORT_ROLE of ports 1 to 4, and the acceptable grandmasters, any if empty (R169). -/
  roles : List Nat := [0, 0, 0, 0]
  accept : List Nat := []
  /-- DOMAIN, DELAY_MECH, TRANSPORT, PRIORITY1 and PRIORITY2, LOG_SYNC, LOG_ANNOUNCE and LOG_DELAY, ANN_TIMEOUT and ASYM of the TIME
  section (R155, R169). -/
  domain : Nat := 0
  delayMech : Nat := 1
  transport : Nat := 1
  priority1 : Nat := 0
  priority2 : Nat := 0
  logSync : Int := 0
  logAnnounce : Int := 0
  logDelay : Int := 0
  annTimeout : Nat := 2
  asym : List Int := []
  /-- Grandmasters heard of, each with the port and what it last announced (R155), and the port of the one followed. -/
  heard : List Heard := []
  gmPort : Nat := 0
  /-- Local time of the last Sync with which the servo measured, and of the last valid TIME frame of the rack master (R449). -/
  syncAt : Nat := 0
  frameAt : Nat := 0
  deriving DecidableEq, Repr

/-- One mast's counter of one axle in 2⁻²⁴ × 0.1 mm (R170), its agreed position (R173), edge log (R174, newest first) and the
times of its repairs. -/
structure AxleCounter where
  counter : Int := 0
  agreed : Int := 0
  log : List (Nat × Int) := []
  /-- The counter before the oldest logged edge. -/
  base : Int := 0
  repairs : List Nat := []
  deriving DecidableEq, Repr

/-- The shared tachometer front end's account of one axle (R171, R172). -/
structure TachoFront where
  net : Int := 0
  edges : Nat := 0
  qerrs : Nat := 0
  /-- Over-rate was entered since the last item, and the QERRS of that item (R171, R181). -/
  overSeen : Bool := false
  lastQerrs : Nat := 0
  /-- Time of the later edge of the last two of equal direction (R172). -/
  pairAt : Option Nat := none
  /-- Module time of the last edge, and of the last edge in each direction. -/
  last : Option Nat := none
  lastUp : Option Nat := none
  lastDown : Option Nat := none
  period : Nat := 0xFFFFFFFF
  dirChanged : Bool := false
  lastDir : Nat := 0
  /-- Local times of the last edges on channels A and B. -/
  lastA : Option Nat := none
  lastB : Option Nat := none
  /-- Local times of the edges within the last second, newest first. -/
  recent : List Nat := []
  overRate : Bool := false
  /-- Local time at which the last over-rate ended (R266). -/
  overEnd : Option Nat := none
  seq : Nat := 0
  deriving DecidableEq, Repr

/-- A comparator's standing against its target per axle (R176, SRC 4): 0 not across, 1 across upward, 2 across downward. -/
structure CmpAcross where
  n : Nat
  ax1 : Nat
  ax2 : Nat
  deriving DecidableEq, Repr

/-- A firing on one mast that waits for agreement (R179). -/
structure Firing where
  n : Nat
  mast : Mast
  time : Nat
  /-- Action instants since the firing. -/
  instants : Nat
  /-- The output record that ARG named where DBUS was set in the firing tick (R177). -/
  dbus : Option Nat := none
  deriving DecidableEq, Repr

/-- Position, edge logs and comparators. -/
structure PosPart where
  ax1 : Per AxleCounter := Per.all {}
  ax2 : Per AxleCounter := Per.all {}
  front1 : TachoFront := {}
  front2 : TachoFront := {}
  /-- The front end counts: from step 8 of R29, not in STANDBY (R34, R175). -/
  counting : Bool := false
  /-- Module time at which counting began (R172). -/
  began : Nat := 0
  across : Per (List CmpAcross) := Per.all []
  firings : List Firing := []
  /-- Last agreed fire time of each comparator (R179, R280). -/
  agreedFire : List (Nat × Nat) := []
  /-- Edge-log queries under way per mast: local time at which GO was written (answer within 2 µs). -/
  query : Per (Option Nat) := Per.all none
  deriving DecidableEq, Repr

end Sys2Proof.Machine
end

