-- ==== Sys2Proof/Machine/Parts/UpdateParts.lean ====
section
/-!
DEFINITION. Parts of the state: images, keys and the update session (R389 to R406).
-/
namespace Sys2Proof.Machine

/-- A boot record (R391). -/
structure BootRecord where
  seq : Nat
  active : Nat
  trial : Bool
  tries : Nat
  reject : Nat
  /-- First 8 bytes of the image hashes of firmware 0, application 0, firmware 1, application 1. -/
  digests : List Nat
  deriving DecidableEq, Repr

/-- An open update session (R398): container kind (1 firmware, 2 application), version and blocks, the blocks written, and the
block whose flash write is under way. -/
structure UpSession where
  kind : Nat
  version : Nat
  blocks : Nat
  written : List Nat := []
  writing : Option Nat := none
  /-- When its last command came (R399). -/
  last : Nat
  deriving DecidableEq, Repr

/-- Images and updates. -/
structure UpdatePart where
  /-- OTP contents, equal in all four masts (R396): x‖y of each key slot (empty where unprogrammed), revocation bits, and the
  unit serial; none before the first power-on. -/
  keys : List (List Byte) := List.replicate 6 []
  revoked : Nat := 0
  serial : Nat := 0
  otpRead : Bool := false
  session : Option UpSession := none
  /-- Time spent in RUN since the latest start, in nanoseconds, before the present stay in RUN (R402). -/
  runBefore : Nat := 0
  deriving DecidableEq, Repr

end Sys2Proof.Machine
end

