-- ==== Sys2Proof/Machine/State.lean ====
section
/-!
DEFINITION. The machine's state: everything the manual gives the module, as plain data, with the queue of commands that wait.
-/
namespace Sys2Proof.Machine

/-- Reasons the machine could stop with a fault. None of the commands of this model raises one: the manual reports its
faults as state (bus answers, events, silent masts, SAFE). (DESIGN CHOICE, log entry 12) -/
inductive Fault where
  /-- Raised by no command (safe: nothing stops here). -/
  | none
  deriving DecidableEq, Repr

/-- Reasons a command is refused. (DESIGN CHOICE, log entry 12) -/
inductive Refusal where
  /-- Raised only by an arm of `exec` whose command has no meaning yet; safe, since nothing is claimed of it. -/
  | notModelled (mnemonic : String)
  deriving DecidableEq, Repr

/-- Module control: mode, start, button and supply (R23 to R48). (DESIGN CHOICE, log entry 31) -/
structure Control where
  mode : Mode := .boot
  prev : Mode := .boot
  changes : Nat := 0
  /-- Local time at which the mode was entered. -/
  since : Nat := 0
  /-- Local time from which the times of R29 count: power-on, or the release of reset. -/
  bootFrom : Nat := 0
  /-- How much later the steps of R29 from step 6 on come where the other slot had to be started (R30). -/
  late : Nat := 0
  /-- The logic is powered (R29 step 1, R426); unpowered since. -/
  on : Bool := false
  offAt : Option Nat := none
  deriving DecidableEq, Repr

/-- The whole module. (DESIGN CHOICE, log entry 24) (DESIGN CHOICE, log entry 127) -/
structure State where
  /-- Local time in nanoseconds (R5). -/
  now : Nat := 0
  /-- Commands that wait, first in first out. -/
  pending : List Instr := []
  /-- Register words; an agreed register is one word for the module (R98). -/
  regs : RegFile := {}
  /-- The agreed registers as the last action instant published them (R98); none before the first. -/
  shown : Option RegFile := none
  /-- Writes that wait for the action instant (R45), the last one of each mast and register. -/
  writes : List CombWrite := []
  ctl : Control := {}
  masts : Per MastState := Per.all {}
  log : LogPart := {}
  key : KeyPart := {}
  lane : LanePart := {}
  intake : IntakePart := {}
  time : TimePart := {}
  pos : PosPart := {}
  fb : FbPart := {}
  app : AppPart := {}
  queue : Per QueueMast := Per.all {}
  bridge : BridgePart := {}
  stay : StayPart := {}
  net : NetPart := {}
  sup : SupPart := {}
  field : FieldPart := {}
  upd : UpdatePart := {}
  supply : SupplyPart := {}
  panel : PanelPart := {}
  standby : StandbyPart := {}
  mon : MonPart := {}
  /-- Counter for the values the manual leaves free: the model's own. -/
  free : Nat := 0
  deriving DecidableEq, Repr

/-- The machine right after reset. (DESIGN CHOICE, log entry 3) (DESIGN CHOICE, log entry 4) (DESIGN CHOICE, log entry 24) (DESIGN CHOICE, log entry 31) -/
def State.reset : State := {}

end Sys2Proof.Machine
end

