-- ==== Sys2Proof/Machine/Ops.lean ====
section
/-!
DEFINITION. The named operations every command is built from: the clock, registers, events, memory and going fail-silent.
-/
namespace Sys2Proof.Machine

/-- A command's outcome. -/
abbrev Result := Host.Outcome State Fault Refusal

/-- The state as it stands, with nothing the command could do. (DEDUCED, log entry 5) -/
def ok (s : State) : Result := .next s

/-- Nanoseconds in a microsecond, a millisecond and a second. -/
def us : Nat := 1000
def ms : Nat := 1000000
def sec : Nat := 1000000000

/-! ## Registers -/

/-- The stored word of a register's copy. -/
def State.reg (s : State) (c : Copy) (addr : Nat) : Word := s.regs.get (regKey c addr)

/-- Store a register's copy. -/
def State.setReg (s : State) (c : Copy) (addr : Nat) (w : Word) : State :=
  { s with regs := s.regs.set (regKey c addr) w }

/-- A register field. -/
def State.getF (s : State) (c : Copy) (f : Fld) : Nat := getBits (s.reg c f.addr) f.hi f.lo

/-- Set a register field. -/
def State.putF (s : State) (c : Copy) (f : Fld) (v : Nat) : State :=
  s.setReg c f.addr (setBits (s.reg c f.addr) f.hi f.lo v)

/-- Add to a counter field that saturates at its greatest value. -/
def State.incF (s : State) (c : Copy) (f : Fld) (n : Nat) : State :=
  s.putF c f (satAdd (2 ^ (f.hi + 1 - f.lo) - 1) (s.getF c f) n)

/-- Add to a counter field that wraps. -/
def State.wrapF (s : State) (c : Copy) (f : Fld) (n : Nat) : State :=
  s.putF c f ((s.getF c f + n) % 2 ^ (f.hi + 1 - f.lo))

/-- Raise a field to a value if that is greater than what it holds. -/
def State.maxF (s : State) (c : Copy) (f : Fld) (v : Nat) : State :=
  s.putF c f (max (s.getF c f) (min (2 ^ (f.hi + 1 - f.lo) - 1) v))

/-! ## Masts, positions and modes -/

/-- Replace one mast's state. -/
def State.setMast (s : State) (m : Mast) (x : MastState) : State :=
  { s with masts := s.masts.set m x }

/-- One mast's state. -/
def State.mast (s : State) (m : Mast) : MastState := s.masts.get m

/-- The masts that vote, in the order of R10. -/
def State.voters (s : State) : List Mast := s.lane.active.masts

/-- Does the mast vote? -/
def State.votes (s : State) (m : Mast) : Bool := s.lane.active.get m

/-- The mast that holds a lane position (R100). -/
def LanePart.holder (l : LanePart) : LanePos → Mast
  | .a => l.posA | .b => l.posB | .c => l.posC

/-- The lane position a mast holds, if any. -/
def LanePart.posOf (l : LanePart) (m : Mast) : Option LanePos :=
  if l.posA = m then some .a else if l.posB = m then some .b else if l.posC = m then some .c else none

/-- The voting masts in the order of their lane positions A, B, C. -/
def LanePart.inOrder (l : LanePart) : List Mast :=
  [l.posA, l.posB, l.posC].filter fun m => l.active.get m

/-- One transmit unit (R114). -/
def State.unit (s : State) (u : Nat) : TxUnit := (s.lane.units[u]?).getD { owner := .a }

/-- Replace a transmit unit. -/
def State.setUnit (s : State) (u : Nat) (x : TxUnit) : State :=
  { s with lane := { s.lane with units := s.lane.units.set u x } }

/-- Does the selector of a unit pass its owner's frames (R15, R114): the owner works, and at least two masts drive it on their
vote lines? A mast that does not work drives none (R92, R111). -/
def State.owned (s : State) (u : Nat) : Bool :=
  let o := (s.unit u).owner
  s.votes o && (s.mast o).alive && decide (2 ≤ (s.voters.filter fun m => (s.mast m).alive).length)

/-- Is the logic running: not before power-on, not in reset? -/
def State.inMode (s : State) (l : List Mode) : Bool := l.contains s.ctl.mode

/-- The mode in force before a change that takes effect at this same instant: the one an RWL field's write is judged by (R45). (DESIGN CHOICE, log entry 7) -/
def State.modeBefore (s : State) : Mode := if s.ctl.since = s.now then s.ctl.prev else s.ctl.mode

/-- May RWL fields be written now: SERVICE or STOP (R9, R45)? (DESIGN CHOICE, log entry 7) -/
def State.unlocked (s : State) : Bool := [Mode.service, .stop].contains s.modeBefore

/-! ## Time -/

/-- Middle of three. -/
def median3 (x y z : Nat) : Nat := max (min x y) (min (max x y) z)

/-- Module time in nanoseconds (R151): the median of three active timebases, the mean of two rounded down; in STANDBY the awake
mast's (R37). (DEDUCED, log entry 16) -/
def State.moduleTime (s : State) : Nat :=
  match (s.voters.filter fun m => (s.masts.get m).powered).map s.time.tb.get with
  | [x, y, z] => median3 x y z / 2 ^ 32
  | [x, y] => (x + y) / 2 / 2 ^ 32
  | [x] => x / 2 ^ 32
  | _ => 0

/-- The common rate correction in ppb, signed (R157). -/
def State.ratePpb (s : State) : Int := signed 32 (s.getF .agreed fTbRatePpb)

/-- How far a slew may go during `base` of nominal advance (R157): the free slew rate, held within ±200 ppm less the rate
correction. (DESIGN CHOICE, log entry 23) -/
def State.slewCap (s : State) (base : Nat) : Nat :=
  base * min (Config.slewPpb s.free) (200000 - s.ratePpb.natAbs) / 1000000000

/-- The part of the remaining offset that is slewed away during `base` of nominal advance. -/
def State.slewPart (s : State) (base : Nat) : Int :=
  if s.time.slew = 0 then 0
  else if 0 ≤ s.time.slew then min s.time.slew (s.slewCap base) else max s.time.slew (-(s.slewCap base : Int))

/-- Timebase counts of 2⁻³² ns in the 250 MHz ticks between two local times (R150). -/
def tickCount (a b : Nat) : Nat := (b / 4 - a / 4) * (4 * 2 ^ 32)

/-- Local time of a step of R29 from step 6 on, given in milliseconds (R30). (DESIGN CHOICE, log entry 18) -/
def Control.stepAt (c : Control) (k : Nat) : Nat := c.bootFrom + c.late + k * ms

/-- Local time at which step 9 of R29 begins: the timebases are seeded at seconds 0 (R29, R156). (DEDUCED, log entry 17) -/
def Control.seedAt (c : Control) : Nat := c.stepAt 1050

/-- Does the clock pass step 9 of R29 on its way to a local time? (DEDUCED, log entry 17) -/
def State.seeds (s : State) (upTo : Nat) : Bool :=
  s.ctl.on && !s.panel.holding && s.ctl.mode == .boot && !s.time.seeded && decide (s.ctl.seedAt ≤ upTo)

/-- How far the lane trim of a mast moves its timebase during `base` of nominal advance (R150, R152): at the rate of the trim, no
further than the offset it removes. -/
def State.trimPart (s : State) (base : Nat) (m : Mast) : Int :=
  let far := base * (s.time.trim.get m).natAbs / 100000000
  if 0 ≤ s.time.left.get m then min (s.time.left.get m) far else max (s.time.left.get m) (-(far : Int))

/-- The clock runs on to local time `t` (never back): every powered mast's timebase adds its increment once per 4 ns tick
(R150): nominal value, common rate and slew (R157), and its own lane trim until its offset is removed (R152). At step 9 of R29 every timebase starts from seconds 0. (DESIGN CHOICE, log entry 1) (DEDUCED, log entry 5) (DEDUCED, log entry 16) (DEDUCED, log entry 25) -/
def State.advance (s : State) (t : Nat) : State :=
  let upTo := max s.now t
  let base := tickCount s.now upTo
  let part := s.slewPart base
  let gain := (base : Int) + (base : Int) * s.ratePpb / 1000000000 + part
  let seeds := s.seeds upTo
  let step := fun (m : Mast) (v : Nat) =>
    if seeds then tickCount s.ctl.seedAt upTo else ((v : Int) + gain + s.trimPart base m).toNat
  let left := s.time.left.map fun m v => if seeds then 0 else v - s.trimPart base m
  { s with
    now := upTo
    free := if s.time.slew = 0 then s.free else s.free + 1
    time := { s.time with
      seeded := s.time.seeded || seeds
      tb := s.time.tb.map fun m v => if (s.masts.get m).powered then step m v else v
      left := left
      ran := if seeds then 0 else s.time.ran + gain.toNat
      trim := s.time.trim.map fun m v => if left.get m = 0 then 0 else v
      slew := s.time.slew - part } }

/-! ## Events (R98, R411, R447) -/

/-- Is an event raised now held by the ROM: before step 7 of R29 (R48)? (DEDUCED, log entry 16) (DEDUCED, log entry 105) -/
def State.heldNow (s : State) : Bool := s.ctl.mode == .boot && decide (s.now < s.ctl.stepAt 420)

/-- Raise an event from the masts of a mask, with a timestamp of its own. -/
def State.raiseAt (s : State) (stamp src code a1 a2 : Nat) (held : Bool) : State :=
  { s with log := { s.log with due := s.log.due ++ [⟨stamp, code, src, a1 % 2 ^ 32, a2 % 2 ^ 32, held⟩] } }

/-- Raise an event from the masts of a mask at module time. -/
def State.raiseBy (s : State) (src code a1 a2 : Nat) : State :=
  s.raiseAt s.moduleTime src code a1 a2 s.heldNow

/-- Raise an event of one mast. -/
def State.raiseM (s : State) (m : Mast) (code a1 a2 : Nat) : State := s.raiseBy (2 ^ m.code) code a1 a2

/-- Raise an event of the module: every voting mast raises it. -/
def State.raise (s : State) (code a1 a2 : Nat) : State := s.raiseBy s.lane.active.mask code a1 a2

/-- What the timebase that measures a limit reads, in nanoseconds (R447): that of the one mast that raises the event, module
time where several do. -/
def State.clockOf (s : State) (src : Nat) : Nat :=
  match Mast.all.filter fun m => bitOf src m.code with
  | [m] => s.time.tb.get m / 2 ^ 32
  | _ => s.moduleTime

/-- Has 1 s passed on a timebase since it read `from'` (R447)? A timebase that a step has put back past that counts as later.
(DESIGN CHOICE, log entry 116) -/
def secondPassed (from' clock : Nat) : Bool := decide (from' + sec ≤ clock ∨ clock < from')

/-- Was the limited event raised for this source within the last second (R447)? (DESIGN CHOICE, log entry 116) -/
def State.limited (s : State) (src code key : Nat) : Bool :=
  s.log.limits.any fun l => l.code == code && l.key == key && !secondPassed l.at' (s.clockOf src)

/-- Note that a limited event has been raised for a source now. -/
def State.markLimit (s : State) (src code key : Nat) : State :=
  { s with log := { s.log with
    limits := ⟨code, key, s.clockOf src⟩ :: s.log.limits.filter fun l => !(l.code == code && l.key == key) } }

/-- Raise an ordinary limited event (R447): only if at least 1 s lies between this and its previous raise for the source. (DESIGN CHOICE, log entry 116) -/
def State.raiseLimited (s : State) (src key code a1 a2 : Nat) : State :=
  if s.limited src code key then s else (s.raiseBy src code a1 a2).markLimit src code key

/-- One occurrence of a summary event for a source (R447): the first opens a period of 1 s, later ones are counted. `src` is
the mask of masts that will raise it, 0 for the voting masts. (DEDUCED, log entry 14) -/
def State.noteSummary (s : State) (src code key : Nat) : State :=
  if s.log.periods.any fun p => p.src == src && p.code == code && p.key == key then
    { s with log := { s.log with
      periods := s.log.periods.map fun p =>
        if p.src == src && p.code == code && p.key == key then { p with count := p.count + 1 } else p } }
  else
    { s with log := { s.log with periods := s.log.periods ++ [⟨src, code, key, s.clockOf src, 1⟩] } }

/-- A block interrupts the triads of a mast that a two-bit field names (1 Triad P, 2 Triad C, 3 both; R332): the source is
noted for the triad until module reset. (DESIGN CHOICE, log entry 15) -/
def State.interrupt (s : State) (m : Mast) (which source : Nat) : State :=
  let add := fun (l : List Nat) => if l.contains source then l else l ++ [source]
  let x := s.mast m
  s.setMast m { x with
    irqP := if bitOf which 0 then add x.irqP else x.irqP
    irqC := if bitOf which 1 then add x.irqC else x.irqC }

/-! ## Memory (R77, R376 to R379) -/

/-- The regions of a mast's address map (R77, R78). -/
inductive Region where
  | rom | sram | mram | flash | dram | bridge | register | unoccupied | nowhere
  deriving DecidableEq, Repr

/-- The region an address lies in (R77, R78). -/
def regionOf (a : Nat) : Region :=
  if a ≤ 0x0000FFFF then .rom
  else if 0x10000000 ≤ a ∧ a ≤ 0x10BFFFFF then .sram
  else if 0x20000000 ≤ a ∧ a ≤ 0x200FFFFF then .mram
  else if 0x30000000 ≤ a ∧ a ≤ 0x33FFFFFF then .flash
  else if 0x40000000 ≤ a ∧ a ≤ 0x7FFFFFFF then .dram
  else if 0x80000000 ≤ a ∧ a ≤ 0xBFFFFFFF then .bridge
  else if 0xE0000000 ≤ a ∧ a ≤ 0xE010FFFF then .register
  else if 0xE0110000 ≤ a ∧ a ≤ 0xFFFFFFFF then .unoccupied
  else .nowhere

/-- The reserved areas of R79. -/
def reservedArea (a : Nat) : Bool :=
  decide (0x10B20000 ≤ a ∧ a ≤ 0x10BFFFFF) || decide (0x200FFFE0 ≤ a ∧ a ≤ 0x200FFFFF)

/-- Do two byte ranges overlap? (DEDUCED, log entry 101) -/
def rangesMeet (a n b m : Nat) : Bool := decide (0 < n ∧ 0 < m ∧ a < b + m ∧ b < a + n)

/-- Does a region lie where R121 allows it? -/
def regionAllowed (base pages : Nat) : Bool :=
  let last := base + pages * 4096 - 1
  base % 4096 == 0 && regionOf base == regionOf last &&
    match regionOf base with
    | .sram => decide (last < 0x10B20000)
    | .mram => decide (last < 0x200FF000)
    | .dram => true
    | _ => false

/-- Does a checkpoint map keep R121: every region that holds pages allowed, no two meeting, no more than 1 008 pages? (DEDUCED, log entry 101) -/
def mapAllowed (l : List (Nat × Nat)) : Bool :=
  decide ((l.map fun r => r.2).sum ≤ 1008) &&
  l.zipIdx.all fun x => x.1.2 == 0 || (regionAllowed x.1.1 x.1.2 &&
    l.zipIdx.all fun y => y.2 ≤ x.2 || !rangesMeet x.1.1 (x.1.2 * 4096) y.1.1 (y.1.2 * 4096))

/-- What a byte nothing has written reads as: ROM contents are free, SRAM and DRAM read zero (R378, R379), erased flash
reads 0xFF (R49), and MRAM zero. (DESIGN CHOICE, log entry 4) -/
def unlistedByte (a : Nat) : Byte :=
  match regionOf a with
  | .rom => Config.romByte a
  | .flash => 0xFF
  | _ => 0

/-- Read one byte of a mast's memory. -/
def Memory.readByte (m : Memory) (a : Nat) : Byte :=
  match cellLookup m.cells a with
  | some b => b
  | none => unlistedByte a

/-- Write one byte; writing what an unlisted byte reads as removes the entry. -/
def Memory.writeByte (m : Memory) (a : Nat) (b : Byte) : Memory :=
  { m with cells := cellPut m.cells a (unlistedByte a) b }

/-- Read `n` bytes. -/
def Memory.readBytes (m : Memory) (a n : Nat) : List Byte := (List.range n).map fun i => m.readByte (a + i)

/-- Write a list of bytes. -/
def Memory.writeBytes : Memory → Nat → List Byte → Memory
  | m, _, [] => m
  | m, a, b :: bs => Memory.writeBytes (m.writeByte a b) (a + 1) bs

/-- Store listed bytes one after another, each at its address. -/
def Memory.putCells (m : Memory) (l : List Host.Cell) : Memory := l.foldl (fun m c => m.writeByte c.1 c.2) m

/-- The canonical form: addresses rise strictly, no entry equals what the address reads as unlisted, and the valid words
rise strictly. -/
def Memory.wf (m : Memory) : Bool :=
  cellsSorted m.cells && m.cells.all (fun c => c.2 != unlistedByte c.1) && cellsSorted m.valid

/-- The 64-bit word an address lies in (R376). -/
def wordAddr (a : Nat) : Nat := a / 8 * 8

/-- Are the valid bits of the SRAM word set (R378)? -/
def Memory.isValid (m : Memory) (a : Nat) : Bool := (cellLookup m.valid (wordAddr a)).isSome

/-- Set the valid bit of an SRAM word (R378). -/
def Memory.markValid (m : Memory) (a : Nat) : Memory :=
  if regionOf a = .sram then { m with valid := cellInsert m.valid (wordAddr a) () } else m

/-- Set the valid bits of every SRAM word that `n` bytes from `a` on touch. -/
def Memory.markRange (m : Memory) (a n : Nat) : Memory :=
  if n = 0 ∨ regionOf a ≠ .sram then m
  else (List.range ((a + n + 7) / 8 - a / 8)).foldl (fun m i => m.markValid (wordAddr a + 8 * i)) m

/-- The inverted bit positions of a word (R376, R387). -/
def Memory.errAt (m : Memory) (a : Nat) : List Nat :=
  match m.errs.find? (fun e => e.1 == wordAddr a) with
  | some e => e.2
  | none => []

/-- Set the inverted bit positions of a word. -/
def Memory.setErr (m : Memory) (a : Nat) (bits : List Nat) : Memory :=
  let rest := m.errs.filter fun e => e.1 != wordAddr a
  { m with errs := if bits = [] then rest else (wordAddr a, bits) :: rest }

/-- Clear every SRAM valid bit in one operation (R378): every SRAM word reads zero with correct check bits. -/
def Memory.clearSram (m : Memory) : Memory :=
  { cells := m.cells.filter fun c => regionOf c.1 != .sram
    valid := []
    errs := m.errs.filter fun e => regionOf e.1 != .sram }

/-- The DRAM zero-fill of step 7 of R29 (R379). -/
def Memory.clearDram (m : Memory) : Memory :=
  { m with
    cells := m.cells.filter fun c => regionOf c.1 != .dram
    errs := m.errs.filter fun e => regionOf e.1 != .dram }

/-- Replace one mast's memory. -/
def State.setMem (s : State) (m : Mast) (x : Memory) : State :=
  s.setMast m { s.mast m with mem := x }

/-- Store bytes in one mast's memory as hardware does, setting SRAM valid bits. -/
def State.store (s : State) (m : Mast) (a : Nat) (bs : List Byte) : State :=
  s.setMem m (((s.mast m).mem.writeBytes a bs).markRange a bs.length)

/-! ## Going fail-silent (R92 to R96) -/

/-- The WHO field (R95): mast, triad and core. (DEDUCED, log entry 96) -/
def whoOf (m : Mast) (t : Triad) (core : Nat) : Nat := m.code + 16 * t.code + 256 * core

/-- Where the silence record lies in MRAM (R95). -/
def silenceAddr : Nat := 0x200FFFE0

/-- The 32 bytes of a silence record (R95): VALID, CAUSE, WHO, time, DETAIL and SILENCES, with its CRC. (DESIGN CHOICE, log entry 120) -/
def silenceBytes (valid cause who stamp detail silences : Nat) : List Byte :=
  let body := natLe 2 0x5352 ++ natLe 1 valid ++ natLe 1 cause ++ natLe 4 who ++ natLe 8 (stamp / sec)
    ++ natLe 4 (stamp % sec) ++ natLe 4 detail ++ natLe 4 silences
  body ++ natLe 4 (crc32c body).toNat

/-- SILENCES as the MRAM record of a mast holds it. -/
def Memory.silences (m : Memory) : Nat := leNat (m.readBytes (silenceAddr + 0x18) 4)

/-- A transmit unit's frames in progress are cut: they end with a bad FCS and stand first in the queue again (R94, R118). -/
def TxUnit.cut (x : TxUnit) (now : Nat) : TxUnit :=
  let cut := (x.wire.filter fun w => decide (now < w.upTo)).map WireFrame.frame
  let back := fun (g : SentFrame) => cut.any fun f => f.frame.seq == g.seq && f.frame.port == g.port && f.frame.cls == g.cls
  { x with
    wire := [], queue := cut ++ x.queue, gone := x.gone.filter fun g => !back g
    sentGood := x.sentGood - cut.length, sentBad := x.sentBad + cut.length }

/-- A network port's frame was cut: it does not count as sent (`NP_TXOK`), and its timestamp is not taken (R161). -/
def State.uncount (s : State) (f : TxFrame) : State :=
  let s := s.wrapF .agreed (fNpTxokCount.plus (0x1000 * (f.port - 1))) (2 ^ 32 - 1)
  match f.stamp with
  | none => s
  | some id =>
    { s with time := { s.time with
      stamps := s.time.stamps.mapIdx fun i (q : StampQueue) =>
        if i + 1 = f.port then { q with captured := q.captured.map fun _ l => l.filter fun e => e.id != id % 65536 } else q } }

/-- The frames in progress on a unit are cut. -/
def State.cutUnit (s : State) (u : Nat) : State :=
  let x := s.unit u
  let cut := x.wire.filter fun w => decide (s.now < w.upTo)
  let s := s.setUnit u (x.cut s.now)
  if u < 2 then cut.foldl (fun s w => s.uncount w.frame.frame) s else s

/-- Every frame a mast is transmitting as owner is cut (R94, R118). (DEDUCED, log entry 53) -/
def State.cutFrames (s : State) (m : Mast) : State :=
  (List.range 8).foldl (fun s u => if (s.unit u).owner = m then s.cutUnit u else s) s

/-- Mast `m` goes fail-silent (R92): its gate closes, which cuts the frames it is transmitting (R94), both triads are held in reset, the silence record is written to its MRAM
(R95), its seconds and nanoseconds those of module time, and goes out in the last word (R93). A mast that is not powered or is
silent already stays as it is. (DESIGN CHOICE, log entry 120) -/
def State.goSilent (s : State) (m : Mast) (cause who detail : Nat) : State :=
  let x := s.mast m
  if !x.powered || x.silent then s
  else
    let record := silenceBytes 1 cause who s.moduleTime detail (satAdd 0xFFFFFFFF x.mem.silences 1)
    let closed := s.setMast m { x with
      silent := true
      held := true
      token := false
      lastWord := some record
      mem := x.mem.writeBytes silenceAddr record }
    closed.cutFrames m

/-- A block of mast `m` requests fail-silent: cause 0x0C, DETAIL the block's event code (R92, R96). (DEDUCED, log entry 96) -/
def State.requestSilent (s : State) (m : Mast) (eventCode : Nat) : State :=
  s.goSilent m 0x0C (whoOf m .p 0) eventCode

/-- A valid silence record is copied to `TD_SILREC` and reported as a mast's ROM starts (R95). -/
def State.bootSilence (s : State) (m : Mast) : State :=
  let b := (s.mast m).mem.readBytes silenceAddr 32
  if fieldAt b 0 2 = 0x5352 ∧ fieldAt b 2 1 = 1 ∧ fieldAt b 0x1C 4 = (crc32c (b.take 0x1C)).toNat then
    let s := (List.range 8).foldl (fun s k => s.putF (.mast m) (fTdSilrecWord.plus (4 * k)) (fieldAt b (4 * k) 4)) s
    (s.putF (.mast m) fTdStatSilrecValid 1).raiseM m evSilenceRecord (fieldAt b 4 4) (fieldAt b 3 1)
  else s

/-- Answer a triad's bus access (R7, R78). -/
def State.answer (s : State) (m : Mast) (t : Triad) (a : BusAnswer) : State :=
  s.setMast m ((s.mast m).setAnswer t a)

end Sys2Proof.Machine
end

