-- ==== Sys2Proof/Machine/Items.lean ====
section
/-!
DEFINITION. Items and their tags (R132 to R134).
-/
namespace Sys2Proof.Machine

/-- Is the source id one of those R132 allocates? -/
def validSource (n : Nat) : Bool :=
  (0x0101 ≤ n && n ≤ 0x0130) || (0x0141 ≤ n && n ≤ 0x0158) || (0x0161 ≤ n && n ≤ 0x0178) || n == 0x0180 ||
  n == 0x0201 || n == 0x0202 ||
  (0x1100 ≤ n && n ≤ 0x14FF && n % 256 ≤ 7) || (0x2000 ≤ n && n ≤ 0x21FF) ||
  (0x3000 ≤ n && n ≤ 0x300F) || (0x3010 ≤ n && n ≤ 0x3013) || (0x3020 ≤ n && n ≤ 0x303F) || n == 0x3040 ||
  (0x4001 ≤ n && n ≤ 0x401F) || (0x8001 ≤ n && n ≤ 0x8018) ||
  (0xA000 ≤ n && n ≤ 0xA1FF && n % 256 ≤ 127) || (0xC000 ≤ n && n ≤ 0xCFFF) || (0xD000 ≤ n && n ≤ 0xD0FF) ||
  (0xE000 ≤ n && n ≤ 0xE01F) || n == 0xE100 || (0xE200 ≤ n && n ≤ 0xE20F) || n == 0xE210

/-- A source that an entry point of the module produces. -/
def entrySource (n : Nat) : Bool := validSource n && decide (n < 0x8000)

/-- A network-frame or door-bus source: its value waits in the receive pool (R135). -/
def pooledSource (n : Nat) : Bool := validSource n && decide (0x1000 ≤ n ∧ n < 0x3000)

/-- A source whose sequence the entry logic counts (R143): every entry source but door-bus frames. -/
def countedSource (n : Nat) : Bool := entrySource n && !decide (0x2000 ≤ n ∧ n < 0x3000)

end Sys2Proof.Machine

namespace Sys2Proof
open Sys2Proof.Machine

/-- The bytes the tag's CRC covers, in the order of R134. -/
def Item.crcBytes (i : Item) : List Byte :=
  natLe 2 i.seq ++ natLe 2 i.source ++ natLe 4 i.esec ++ natLe 4 i.ens ++ natLe 2 i.len ++ i.value

/-- The CRC its content gives (R133). -/
def Item.goodCrc (i : Item) : Nat := (crc32c i.crcBytes).toNat

/-- The 64-bit tag (R133). -/
def Item.tag (i : Item) : Nat := i.crc * 2 ^ 32 + i.source * 2 ^ 16 + i.seq

/-- The tag check (R132, R133, R135). -/
def Item.tagOk (i : Item) : Bool := validSource i.source && i.crc == i.goodCrc && i.value.length == i.len

/-- The FLAGS field (R134). -/
def Item.flags (i : Item) : Nat := b2n i.trunc + 2 * b2n i.filled

/-- The 24-byte header (R134). -/
def Item.header (i : Item) : List Byte :=
  natLe 2 i.seq ++ natLe 2 i.source ++ natLe 4 i.crc ++ natLe 4 i.esec ++ natLe 4 i.ens ++ natLe 2 i.len
    ++ natLe 2 i.flags ++ natLe 4 0

/-- Header and value (R134). -/
def Item.bytes (i : Item) : List Byte := i.header ++ i.value

/-- The item a header and its value spell. -/
def Item.ofBytes (h value : List Byte) : Item :=
  { seq := fieldAt h 0 2, source := fieldAt h 2 2, crc := fieldAt h 4 4, esec := fieldAt h 8 4, ens := fieldAt h 12 4,
    len := fieldAt h 16 2, trunc := bitOf (fieldAt h 18 2) 0, filled := bitOf (fieldAt h 18 2) 1, value := value }

/-- Form an item with its tag, entry time in network-time nanoseconds (R131, R133). -/
def Item.form (source seq time : Nat) (value : List Byte) : Item :=
  let i : Item := { source := source, seq := seq % 65536, crc := 0, esec := time / sec % 2 ^ 32, ens := time % sec,
                    len := value.length, trunc := false, filled := false, value := value }
  { i with crc := i.goodCrc }

/-- Entry time in nanoseconds. -/
def Item.time (i : Item) : Nat := i.esec * sec + i.ens

/-- The order of R140: entry time, then source id, then sequence. -/
def Item.before (x y : Item) : Bool :=
  if x.time ≠ y.time then decide (x.time < y.time)
  else if x.source ≠ y.source then decide (x.source < y.source) else decide (x.seq ≤ y.seq)

end Sys2Proof

namespace Sys2Proof.Machine

/-- Insert an item into a list ordered by R140. -/
def insertItem (i : Item) : List Item → List Item
  | [] => [i]
  | x :: rest => if i.before x then i :: x :: rest else x :: insertItem i rest

/-- Order items by R140. -/
def orderItems : List Item → List Item
  | [] => []
  | i :: rest => insertItem i (orderItems rest)

/-- The digest of a list of items with their tags (R108, R146). -/
def itemsDigest (l : List Item) : Nat := (crc64 (l.flatMap Item.bytes)).toNat

end Sys2Proof.Machine
end

