-- ==== Sys2Proof/Machine/MemoryInt.lean ====
section
/-!
DEFINITION. Memory accesses and memory integrity: the bus errors of R7, R77 to R80, and R376 to R388.
-/
namespace Sys2Proof.Machine

/-- A triad that executes: its mast is powered, not silent and not held in reset, and in STANDBY it is clock-gated (R37, R92). -/
def State.triadRuns (s : State) (m : Mast) : Bool :=
  (s.mast m).powered && !(s.mast m).silent && !(s.mast m).held && s.ctl.mode != .standby

/-- Does the Triad C fence refuse a write to `a` (R80)? -/
def State.fenced (s : State) (a : Nat) : Bool :=
  (regionOf a == .sram && decide (a < 0x10000000 + s.getF .agreed fTdFenceSram * 0x10000)) ||
  (regionOf a == .dram && decide (a < 0x40000000 + s.getF .agreed fTdFenceDram * 0x1000000))

/-- The checkpoint page an address lies in, as region and page, by the map of `LM_CKBASE` and `LM_CKLEN` (R121). -/
def State.ckPage (s : State) (a : Nat) : Option (Nat × Nat) :=
  (List.range 7).findSome? fun r =>
    let base := s.getF .agreed (fLmCkbaseBase.plus (4 * r)) * 4096
    let pages := s.getF .agreed (fLmCklenPages.plus (4 * r))
    if base ≤ a ∧ a < base + pages * 4096 then some (r, (a - base) / 4096) else none

/-- A page once in a list of pages. -/
def addPage (pg : Nat × Nat) (l : List (Nat × Nat)) : List (Nat × Nat) := if l.contains pg then l else l ++ [pg]

/-- A join marks a page written after its bulk round starts, for the rounds that follow (R121). -/
def Join.mark (j : Join) (pg : Nat × Nat) : Join :=
  if 5 ≤ j.phase ∧ j.phase ≤ 7 then { j with written := addPage pg j.written } else j

/-- A write through the fabric marks its checkpoint page (R121): for the count of the application cycle, and as dirty for the rounds
of a join. -/
def State.markDirty (s : State) (a : Nat) : State :=
  match s.ckPage a with
  | none => s
  | some pg =>
    { s with lane := { s.lane with
      dirtyNow := addPage pg s.lane.dirtyNow
      join := s.lane.join.map fun j => j.mark pg } }

/-- Memory number of `MI_LASTSYN.MEM` for a place and an address. -/
def memNumber (p : MemPlace) (a : Nat) : Nat :=
  match p with
  | .l2 .p _ => 2
  | .l2 .c _ => 3
  | .memory =>
    match regionOf a with
    | .sram => 0
    | .dram => 1
    | .mram => 4
    | _ => 5

/-- The byte of `TD_`/`MI_` per-mast registers that packs A in bits 7:0 up to J in bits 31:24. -/
def byteOf (addr : Nat) (m : Mast) : Fld := ⟨addr, 8 * m.code + 7, 8 * m.code⟩

/-- Keep the 64 most recently corrected words (R381). -/
def bumpCorrected (l : List (Nat × Nat)) (a : Nat) : List (Nat × Nat) :=
  let n := match l.find? (fun e => e.1 == a) with | some e => e.2 | none => 0
  ((a, n + 1) :: l.filter fun e => e.1 != a).take 64

/-- How often a word has been corrected. -/
def correctedCount (l : List (Nat × Nat)) (a : Nat) : Nat :=
  match l.find? (fun e => e.1 == a) with | some e => e.2 | none => 0

/-- A single-bit error was corrected (R380, R381): counted, recorded, reported and, but in flash, written back. -/
def State.corrected (s : State) (m : Mast) (mem source a bit : Nat) : State :=
  let c := Copy.mast m
  let s := if mem = 0 then s.incF c fMiCesramCount 1
    else if mem = 1 then s.incF c fMiCedramCount 1
    else if mem = 4 then s.incF c fMiCeotherMram 1
    else if mem = 5 then s.incF c fMiCeotherFlash 1
    else s.incF c fMiCeotherL2 1
  let s := s.putF c fMiLastceAddr (wordAddr a)
  let s := ((s.putF c fMiLastsynMem mem).putF c fMiLastsynSource source).putF c fMiLastsynBit bit
  let s := s.raiseLimited (2 ^ m.code) (16 * m.code + mem) evMiCorrected (mem * 256 + source) (wordAddr a)
  if mem ≤ 1 then
    let s := if s.votes m then s.incF .agreed (byteOf rMiCeall m) 1 else s
    let s := s.setMast m { s.mast m with
      corrected := bumpCorrected (s.mast m).corrected (wordAddr a), mem := (s.mast m).mem.setErr a [] }
    if correctedCount (s.mast m).corrected (wordAddr a) = 4 then
      (s.incF c fMiRepeatWords 1).raiseM m evMiRepeat mem (wordAddr a)
    else s
  else if mem = 4 then s.setMem m ((s.mast m).mem.setErr a [])
  else s

/-- An uncorrectable error (R382): MI_UNCORRECTABLE, and the mast requests fail-silent with DETAIL 0x0302. -/
def State.uncorrectable (s : State) (m : Mast) (mem source a : Nat) : State :=
  (s.raiseM m evMiUncorrectable (mem * 256 + source) a).requestSilent m evMiUncorrectable

/-- Bits in error when a word is read: those the state holds and what the finding adds. -/
def errorBits (held : List Nat) : MemFinding → List Nat
  | .clean => held
  | .single b => if held.contains b then held.filter (· != b) else b :: held
  | _ => held ++ [0, 1]

/-- What the check of one word of memory gives (R376 to R379, R382). -/
inductive Checked where
  | good
  | fixed (bit : Nat)
  | lost
  deriving DecidableEq, Repr

/-- Check a word as the memory controller does. An SRAM word with a clear valid bit is never in error (R378), except when
its valid-bit copies disagree (R379). -/
def checkWord (mem : Memory) (a : Nat) (f : MemFinding) : Checked :=
  if f = .validSplit then (if regionOf a = .sram then .lost else .good)
  else if regionOf a = .sram ∧ mem.isValid a = false then .good
  else
    match errorBits (mem.errAt a) f with
    | [] => .good
    | [b] => .fixed b
    | _ => .lost

/-- The 64-bit word at an address as a number. -/
def Memory.readWord (m : Memory) (a : Nat) : Nat := leNat (m.readBytes (wordAddr a) 8)

/-- Deliver a read word to the triad that asked, if a triad asked. -/
def State.deliver (s : State) (m : Mast) (src : MemSource) (v : Nat) : State :=
  match src.triad with
  | some t => s.answer m t (.done v)
  | none => s

/-- A read of SRAM, DRAM, MRAM, flash or ROM, or of a line that the L2 cache holds (R376 to R382). -/
def State.memoryRead (s : State) (m : Mast) (src : MemSource) (place : MemPlace) (addr : Nat) (found : MemFinding) : State :=
  let c := Copy.mast m
  let mem := (s.mast m).mem
  match place with
  | .memory =>
    match checkWord mem addr found with
    | .good => s.deliver m src (mem.readWord addr)
    | .fixed b => (s.corrected m (memNumber place addr) src.code addr b).deliver m src (mem.readWord addr)
    | .lost => s.uncorrectable m (memNumber place addr) src.code addr
  | .l2 tr dirty =>
    match found with
    | .clean => s.deliver m src (mem.readWord addr)
    | .single b => (s.corrected m (memNumber place addr) src.code addr b).deliver m src (mem.readWord addr)
    | _ =>
      if dirty then s.uncorrectable m (memNumber place addr) src.code addr
      else ((s.incF c fMiCeotherL2 1).raiseM m evMiL2Refetch tr.code addr).deliver m src (mem.readWord addr)

/-- MEMORY_PARTIAL_WRITE (R377, R378): fewer than 8 bytes of an SRAM or DRAM word, carried out as a read, a merge and a
write of the whole word; an uncorrectable read leaves the word unwritten. MRAM takes the bytes as they are. In register space
an aligned 32-bit write is a REGISTER_WRITE, ignored where no block lies, and any other gets a bus error (R7, R21). -/
def execMemoryPartialWrite (t : Nat) (m : Mast) (tr : Triad) (addr : Nat) (bytes : List Byte) (found : MemFinding)
    (s : State) : Result :=
  let s := s.advance t
  if !s.triadRuns m then ok s
  else if bytes.length = 0 ∨ 8 ≤ bytes.length ∨ wordAddr addr ≠ wordAddr (addr + bytes.length - 1) then ok s
  else if reservedArea addr || reservedArea (addr + bytes.length - 1) then ok (s.answer m tr .busError)
  else if tr = .c ∧ s.fenced addr then
    ok ((s.raiseM m evFenceViolation addr 0).answer m tr .busError)
  else
    let mem := (s.mast m).mem
    match regionOf addr with
    | .sram | .dram =>
      match checkWord mem addr found with
      | .lost => ok (s.uncorrectable m (memNumber .memory addr) (tr.code + 1) addr)
      | .fixed b =>
        let s := s.corrected m (memNumber .memory addr) (tr.code + 1) addr b
        ok (((s.store m addr bytes).markDirty addr).answer m tr (.done 0))
      | .good => ok (((s.store m addr bytes).markDirty addr).answer m tr (.done 0))
    | .mram => ok (((s.store m addr bytes).markDirty addr).answer m tr (.done 0))
    | .rom | .flash | .nowhere => ok (s.answer m tr .busError)
    | .unoccupied =>
      if addr % 4 = 0 ∧ bytes.length = 4 then ok (s.answer m tr (.done 0)) else ok (s.answer m tr .busError)
    | .register => if addr % 4 = 0 ∧ bytes.length = 4 then ok s else ok (s.answer m tr .busError)
    | .bridge => ok s

/-- First address and size of a scrubbed memory (R376, R383). -/
def scrubBase (dram : Bool) : Nat := if dram then 0x40000000 else 0x10000000
def scrubSize (dram : Bool) : Nat := if dram then 0x40000000 else 0xC00000

/-- The scrubber's position after a word (R383): ascending, wrapping from the highest address. -/
def State.scrubNext (s : State) (m : Mast) (dram : Bool) (a : Nat) : State :=
  let c := Copy.mast m
  let pos := if dram then fMiDramposAddr else fMiSramposAddr
  let passes := if dram then fMiPassesDram else fMiPassesSram
  if a + 8 < scrubBase dram + scrubSize dram then s.putF c pos ((a + 8) / 8)
  else (s.putF c pos (scrubBase dram / 8)).incF c passes 1

/-- SCRUB_WORD (R383, R384): the scrubber reads the next word, treats it under R380 or R382, and moves on. SRAM words with
clear valid bits are skipped. -/
def execScrubWord (t : Nat) (m : Mast) (dram : Bool) (found : MemFinding) (s : State) : Result :=
  let s := s.advance t
  let x := s.mast m
  let running := if dram then x.dramScrub else x.sramScrub
  if !x.powered || x.silent || !running then ok s
  else
    let a := s.getF (.mast m) (if dram then fMiDramposAddr else fMiSramposAddr) * 8
    match checkWord x.mem a found with
    | .good => ok (s.scrubNext m dram a)
    | .fixed b => ok ((s.corrected m (b2n dram) 4 a b).scrubNext m dram a)
    | .lost => ok (s.uncorrectable m (b2n dram) 4 a)

/-- How many of the voting masts wrote (R45). -/
def State.agreeing (s : State) (writers : Per Bool) : Nat := (s.voters.filter fun m => writers.get m).length

/-- Is an agreement of writers reached: at least two voting masts (R45)? -/
def State.agreed (s : State) (writers : Per Bool) : Bool := decide (2 ≤ s.agreeing writers)

/-- The agreed memory injection (R387) with KIND 1 or 2: bit BIT of the check bits, and for KIND 2 the next modulo 8. (DEDUCED, log entry 95) -/
def State.memInject (s : State) (target : Mast) (dram : Bool) (bit kind addr : Nat) : State :=
  let mem := (s.mast target).mem
  let inside := decide (regionOf addr = if dram then Region.dram else Region.sram)
  let valid := dram || mem.isValid addr
  if s.ctl.mode ≠ .service ∨ !inside ∨ !valid ∨ !(s.mast target).powered ∨ (kind ≠ 1 ∧ kind ≠ 2) ∨ 8 ≤ bit then
    s.putF .agreed fMiInjstatResult 2
  else
    let flip := fun (l : List Nat) (b : Nat) => if l.contains b then l.filter (· != b) else l ++ [b]
    let errs := flip (mem.errAt addr) (64 + bit)
    let errs := if kind = 2 then flip errs (64 + (bit + 1) % 8) else errs
    let value := kind + 256 * bit + 4096 * b2n dram + 65536 * target.code
    ((s.setMem target (mem.setErr addr errs)).putF .agreed fMiInjstatResult 1).raise evMiInjectDone value (wordAddr addr)

/-- MI_INJECT_SINGLE (R387): agreed injection of one inverted check bit at the address in `MI_INJADDR`. -/
def execMiInjectSingle (t : Nat) (writers : Per Bool) (target : Mast) (dram : Bool) (bit : Nat) (s : State) : Result :=
  let s := s.advance t
  if !s.agreed writers then ok (s.putF .agreed fMiInjstatResult 3)
  else ok (s.memInject target dram bit 1 (s.getF .agreed fMiInjaddrAddr * 8))

/-- MI_INJECT_DOUBLE (R387): agreed injection of two inverted check bits. -/
def execMiInjectDouble (t : Nat) (writers : Per Bool) (target : Mast) (dram : Bool) (bit : Nat) (s : State) : Result :=
  let s := s.advance t
  if !s.agreed writers then ok (s.putF .agreed fMiInjstatResult 3)
  else ok (s.memInject target dram bit 2 (s.getF .agreed fMiInjaddrAddr * 8))

/-- MISALIGNED_REGISTER_ACCESS (R7, R21): an access to register space that is not an aligned 32-bit one gets a bus error. -/
def execMisalignedRegisterAccess (t : Nat) (m : Mast) (tr : Triad) (addr size : Nat) (s : State) : Result :=
  let s := s.advance t
  if !s.triadRuns m then ok s
  else if (regionOf addr = .register ∨ regionOf addr = .unoccupied) ∧ (addr % 4 ≠ 0 ∨ size ≠ 4) then
    ok (s.answer m tr .busError)
  else ok s

/-- UNMAPPED_ACCESS (R78): an address in none of the ranges of R77 gets a bus error and no effect. -/
def execUnmappedAccess (t : Nat) (m : Mast) (tr : Triad) (addr : Nat) (s : State) : Result :=
  let s := s.advance t
  if s.triadRuns m && regionOf addr == .nowhere then ok (s.answer m tr .busError) else ok s

/-- READ_ONLY_REGION_WRITE (R77): a write to ROM or flash gets a bus error and no effect. -/
def execReadOnlyRegionWrite (t : Nat) (m : Mast) (tr : Triad) (addr : Nat) (s : State) : Result :=
  let s := s.advance t
  if s.triadRuns m && (regionOf addr == .rom || regionOf addr == .flash) then ok (s.answer m tr .busError) else ok s

/-- RESERVED_AREA_WRITE (R72, R79): a triad write to a reserved area gets a bus error and no effect. -/
def execReservedAreaWrite (t : Nat) (m : Mast) (tr : Triad) (addr : Nat) (s : State) : Result :=
  let s := s.advance t
  if s.triadRuns m && reservedArea addr then ok (s.answer m tr .busError) else ok s

/-- TRIAD_C_FENCED_WRITE (R80): a Triad C write below the fence gets a bus error, and FENCE_VIOLATION is raised. -/
def execTriadCFencedWrite (t : Nat) (m : Mast) (addr : Nat) (s : State) : Result :=
  let s := s.advance t
  if s.triadRuns m && s.fenced addr then ok ((s.raiseM m evFenceViolation addr 0).answer m .c .busError) else ok s

/-- Raise a summary event whose period has ended (R447), with the arguments its table gives. (DEDUCED, log entry 14) -/
def State.raiseSummary (s : State) (p : SummaryPeriod) : State :=
  let src := if p.src = 0 then s.lane.active.mask else p.src
  if p.code = evQmPoolEmpty then s.raiseBy src p.code p.count 0
  else if p.code = evSyslogDropped then s.raiseBy src p.code p.count (s.getF .agreed fElDropLost)
  else s.raiseBy src p.code p.key p.count

/-- SUMMARY_EVENT_PERIOD_END (R447): the 1 s period of a summary event ends; the event is raised once with the count. (DEDUCED, log entry 14) -/
def execSummaryEventPeriodEnd (t : Nat) (code key : Nat) (s : State) : Result :=
  let s := s.advance t
  let gone := fun (p : SummaryPeriod) => p.code == code && p.key == key && secondPassed p.began (s.clockOf p.src)
  let ended := s.log.periods.filter gone
  let s := { s with log := { s.log with periods := s.log.periods.filter fun p => !gone p } }
  ok (ended.foldl State.raiseSummary s)

end Sys2Proof.Machine
end

