-- ==== Sys2Proof/Machine/Queues.lean ====
section
/-!
DEFINITION. Rings, the receive pool, DMA channels, cache operations and the barrier (R328 to R347).
-/
namespace Sys2Proof.Machine

/-! ## Rings (R328 to R332) -/

/-- Rings written by a triad (R328). -/
def ringSoft (n : Nat) : Bool := n < 32 || n == 116 || n == 119

/-- Rings written by a block (R328). -/
def ringHard (n : Nat) : Bool :=
  (32 ≤ n && n ≤ 98) || (104 ≤ n && n ≤ 106) || n == 112 || n == 114 || n == 115 || n == 118 || n == 120

/-- Rings the firmware owns (R328). (DEDUCED, log entry 94) -/
def ringOwned (n : Nat) : Bool := 122 ≤ n && n ≤ 127

/-- The field of ring `n` for a field of ring 0. -/
def ringF (f : Fld) (n : Nat) : Fld := f.plus (0x10 * n)

/-- Is the ring enabled on this mast? -/
def State.ringOn (s : State) (m : Mast) (n : Nat) : Bool := s.getF (.mast m) (ringF fQmRingCfgEnable n) == 1

/-- SIZE of a ring (R329). -/
def State.ringSize (s : State) (m : Mast) (n : Nat) : Nat := 2 ^ s.getF (.mast m) (ringF fQmRingCfgSize n)

/-- The producer and the consumer index. -/
def State.ringProd (s : State) (m : Mast) (n : Nat) : Nat := s.getF (.mast m) (ringF fQmRingProdProd n)
def State.ringCons (s : State) (m : Mast) (n : Nat) : Nat := s.getF (.mast m) (ringF fQmRingConsCons n)

/-- Descriptors in the ring, for given indices (R329). -/
def usedOf (prod cons : Nat) : Nat := (prod + 65536 - cons) % 65536

/-- Address of the slot of stream position `i` (R329). -/
def State.ringSlot (s : State) (m : Mast) (n i : Nat) : Nat :=
  s.getF (.mast m) (ringF fQmRingBaseBase n) * 32 + 32 * (i % s.ringSize m n)

/-- Is an address one a ring array, a pool buffer or a DMA descriptor may lie at (R329, R335)? (DESIGN CHOICE, log entry 38) -/
def inRam (a : Nat) : Bool := (regionOf a == .sram && decide (a < 0x10B20000)) || regionOf a == .dram

/-- Hardware stores bytes in a mast's memory through the fabric: the page is marked for a join (R121). (DESIGN CHOICE, log entry 38) -/
def State.fabricStore (s : State) (m : Mast) (a : Nat) (bs : List Byte) : State :=
  if inRam a then ((s.store m a bs).markDirty a).markDirty (a + bs.length - 1) else s

/-- A descriptor padded to 32 bytes. -/
def pad32 (bs : List Byte) : List Byte := (bs ++ List.replicate 32 0).take 32

/-- Is a ring full (R329)? -/
def State.ringFull (s : State) (m : Mast) (n : Nat) : Bool :=
  usedOf (s.ringProd m n) (s.ringCons m n) == s.ringSize m n

/-- A block writes a descriptor and advances PROD; the ring is enabled and not full. The triads it names are interrupted
(R332). (DESIGN CHOICE, log entry 38) -/
def State.ringPush (s : State) (m : Mast) (n : Nat) (desc : List Byte) : State :=
  let p := s.ringProd m n
  let s := s.fabricStore m (s.ringSlot m n p) (pad32 desc)
  let s := s.putF (.mast m) (ringF fQmRingProdProd n) ((p + 1) % 65536)
  s.interrupt m (s.getF (.mast m) (ringF fQmRingCfgIrq n)) n

/-- A drop at a full ring (R331). -/
def State.ringDrop (s : State) (m : Mast) (n : Nat) : State :=
  (s.incF (.mast m) (fQmRingstatOverflow.plus (4 * n)) 1).noteSummary (2 ^ m.code) evQmRingFull n

/-- A discarded index write (R330). -/
def State.indexError (s : State) (m : Mast) (n value : Nat) : State :=
  (s.incF (.mast m) (fQmRingstatIdxerr.plus (4 * n)) 1).raiseLimited (2 ^ m.code) (n * 4 + m.code) evQmIndexErr n value

/-! ## The receive pool (R335, R336) -/

/-- Show the number of free buffers. -/
def State.showPool (s : State) (m : Mast) : State :=
  s.putF (.mast m) fQmPoolstatFree (s.queue.get m).free.length

/-- Replace one mast's queue manager. -/
def State.setQueue (s : State) (m : Mast) (q : QueueMast) : State := { s with queue := s.queue.set m q }

/-- Enabling the receive pool frees every buffer, in index order (R335). (DEDUCED, log entry 94) -/
def State.poolEnable (s : State) (m : Mast) : State :=
  (s.setQueue m { s.queue.get m with
    free := List.range (s.getF (.mast m) fQmPoolcfgCount), inUse := [] }).showPool m

/-- Address of a pool buffer. -/
def State.bufferAddr (s : State) (m : Mast) (i : Nat) : Nat := s.getF (.mast m) fQmPoolbaseBase * 2048 + 2048 * i

/-- No buffer is free: the item counts as not received (R336). -/
def State.poolEmpty (s : State) (m : Mast) : State :=
  (s.incF (.mast m) fQmPoolstatEmpty 1).noteSummary (2 ^ m.code) evQmPoolEmpty 0

/-- Take the buffer that has been free longest and write an item into it. -/
def State.takeBuffer (s : State) (m : Mast) (i : Item) : Option Nat × State :=
  match (s.queue.get m).free with
  | [] => (none, s.poolEmpty m)
  | b :: rest =>
    let q := s.queue.get m
    let s := (s.setQueue m { q with free := rest, inUse := b :: q.inUse }).showPool m
    (some b, s.fabricStore m (s.bufferAddr m b) i.bytes)

/-- A buffer becomes free again. -/
def State.freeBuffer (s : State) (m : Mast) (b : Nat) : State :=
  let q := s.queue.get m
  if q.inUse.contains b then
    (s.setQueue m { q with free := q.free ++ [b], inUse := q.inUse.filter (· != b) }).showPool m
  else s

/-- Free the buffer an item holds, if any. -/
def State.freeHeld (s : State) (m : Mast) : Option Nat → State
  | some b => s.freeBuffer m b
  | none => s

/-- The receive descriptor of an item in a pool buffer (R334). -/
def receiveDescriptor (addr : Nat) (i : Item) (ai index : Nat) : List Byte :=
  natLe 4 addr ++ natLe 2 i.len ++ natLe 2 i.source ++ natLe 2 i.seq ++ natLe 2 i.flags ++ natLe 4 i.esec
    ++ natLe 4 i.ens ++ natLe 4 ai ++ natLe 2 index

/-- An agreed item goes to a hardware-produced ring on one mast (R140, R331, R334, R335): in the buffer it holds, or in one
taken now. A full ring drops it and frees the buffer. -/
def State.ringItem (s : State) (m : Mast) (n : Nat) (i : Item) (held : Option Nat) (ai : Nat) : State :=
  if !s.ringOn m n then s.freeHeld m held
  else if s.ringFull m n then (s.ringDrop m n).freeHeld m held
  else
    match held with
    | some b => s.ringPush m n (receiveDescriptor (s.bufferAddr m b) i ai b)
    | none =>
      match s.takeBuffer m i with
      | (some b, s) => s.ringPush m n (receiveDescriptor (s.bufferAddr m b) i ai b)
      | (none, s) => s

/-! ## DMA channels (R337 to R345) -/

/-- The field of channel `n` for a field of channel 0. -/
def dmaF (f : Fld) (n : Nat) : Fld := f.plus (0x40 * n)

/-- A channel's state code. -/
def State.dmaState (s : State) (m : Mast) (n : Nat) : Nat := s.getF (.mast m) (dmaF fDmStatState n)

/-- Set a channel's state and the bits that show it (`DM_ACTIVE`, `DM_STOPPED`, `DM_STATn.STOPPED`). -/
def State.setDma (s : State) (m : Mast) (n st : Nat) : State :=
  let c := Copy.mast m
  let s := s.putF c (dmaF fDmStatState n) st
  let s := s.putF c (dmaF fDmStatStopped n) (b2n (st == 4))
  let s := s.putF c fDmActiveRun (withBit (s.getF c fDmActiveRun) n (st == 1 || st == 3))
  s.putF c fDmStoppedStop (withBit (s.getF c fDmStoppedStop) n (st == 4))

/-- Byte addresses of a walk in walk order (R338). -/
def walkBytes (base : Int) (w c0 c1 c2 : Nat) (s0 s1 s2 : Int) : List Nat :=
  (List.range c2).flatMap fun (i2 : Nat) => (List.range c1).flatMap fun (i1 : Nat) => (List.range c0).flatMap fun (i0 : Nat) =>
    (List.range w).map fun (k : Nat) => (base + i0 * s0 + i1 * s1 + i2 * s2 + k).toNat

/-- One side of a descriptor (R337): width code, base, counts and steps. -/
structure Walk where
  code : Nat
  base : Nat
  counts : List Nat
  steps : List Int
  deriving DecidableEq, Repr

/-- The source side of a descriptor's bytes. -/
def srcWalk (d : List Byte) : Walk :=
  { code := fieldAt d 4 4 % 8, base := fieldAt d 8 4,
    counts := [fieldAt d 0xC 2, fieldAt d 0xE 2, fieldAt d 0x10 2],
    steps := [signed 32 (fieldAt d 0x14 4), signed 32 (fieldAt d 0x18 4), signed 32 (fieldAt d 0x1C 4)] }

/-- The destination side. -/
def dstWalk (d : List Byte) : Walk :=
  { code := fieldAt d 4 4 / 16 % 8, base := fieldAt d 0x20 4,
    counts := [fieldAt d 0x24 2, fieldAt d 0x26 2, fieldAt d 0x28 2],
    steps := [signed 32 (fieldAt d 0x2C 4), signed 32 (fieldAt d 0x30 4), signed 32 (fieldAt d 0x34 4)] }

/-- Element width in bytes. -/
def Walk.width (w : Walk) : Nat := 2 ^ w.code

/-- The walk's length in bytes (R338). -/
def Walk.length (w : Walk) : Nat := w.width * w.counts.foldl (· * ·) 1

/-- The walk's byte addresses in order. -/
def Walk.bytes (w : Walk) : List Nat :=
  match w.counts, w.steps with
  | [c0, c1, c2], [s0, s1, s2] => walkBytes w.base w.width c0 c1 c2 s0 s1 s2
  | _, _ => []

/-- Lowest and highest byte of the walk, from its lowest and highest element (R339). -/
def Walk.low (w : Walk) : Int :=
  (w.counts.zip w.steps).foldl (fun a p => a + min 0 (((p.1 : Int) - 1) * p.2)) w.base
def Walk.high (w : Walk) : Int :=
  (w.counts.zip w.steps).foldl (fun a p => a + max 0 (((p.1 : Int) - 1) * p.2)) w.base + (w.width - 1 : Nat)

/-- Does the walk's extent meet an address range? -/
def Walk.meets (w : Walk) (lo hi : Nat) : Bool := decide (w.low ≤ hi ∧ (lo : Int) ≤ w.high)

/-- The DESC check of R339 on a descriptor's bytes. -/
def descOk (addr : Nat) (d : List Byte) : Bool :=
  let ctrl := fieldAt d 4 4
  addr % 64 == 0 && (regionOf addr == .sram || regionOf addr == .dram) &&
  fieldAt d 0 4 / 2 % 32 == 0 && bitOf ctrl 3 == false && bitOf ctrl 7 == false && ctrl / 1024 == 0 &&
  fieldAt d 0x12 2 == 0 && fieldAt d 0x2A 2 == 0 &&
  decide ((srcWalk d).code ≤ 4) && decide ((dstWalk d).code ≤ 4) &&
  !(srcWalk d).counts.contains 0 && !(dstWalk d).counts.contains 0 &&
  (srcWalk d).length == (dstWalk d).length && decide ((srcWalk d).length ≤ 0xFFFFFFFF)

/-- Is every step and the base a multiple of the width? -/
def Walk.aligned (w : Walk) : Bool := w.base % w.width == 0 && w.steps.all fun i => i % (w.width : Nat) == 0

/-- Does a walk lie within the channel's region for its side (R339)? -/
def State.inRegion (s : State) (m : Mast) (n : Nat) (lo hi : Fld) (w : Walk) : Bool :=
  decide (0 ≤ w.low ∧ w.high ≤ 0xFFFFFFFF ∧ (s.getF (.mast m) (dmaF lo n) : Int) ≤ w.low ∧
    w.high ≤ (s.getF (.mast m) (dmaF hi n) : Int))

/-- The checks of R339 at load: the result code of the first failure, 0 for none. -/
def State.dmaCheck (s : State) (m : Mast) (n addr : Nat) (d : List Byte) : Nat :=
  let src := srcWalk d
  let dst := dstWalk d
  if !descOk addr d then 1
  else if s.getF (.mast m) (dmaF fDmCtrlStrict n) = 1 ∧ !(src.code == dst.code && src.aligned && dst.aligned) then 2
  else if !(s.inRegion m n fDmSrloAddr fDmSrhiAddr src && s.inRegion m n fDmDrloAddr fDmDrhiAddr dst) then 3
  else if src.meets 0xE0000000 0xE010FFFF || dst.meets 0xE0000000 0xE010FFFF || dst.meets 0 0xFFFF ||
      dst.meets 0x30000000 0x33FFFFFF || dst.meets 0x10B20000 0x10BFFFFF || dst.meets 0x200FFFE0 0x200FFFFF then 3
  else 0

/-- The completion record (R343). -/
def State.completionRecord (s : State) (addr status user bytes count : Nat) : List Byte :=
  natLe 4 addr ++ natLe 4 status ++ natLe 4 user ++ natLe 4 bytes ++ natLe 4 (s.moduleTime / sec)
    ++ natLe 4 (s.moduleTime % sec) ++ natLe 4 count

/-- Interrupt the triads `DM_CTRLn` names. -/
def State.dmaInterrupt (s : State) (m : Mast) (n : Nat) : State :=
  s.interrupt m (s.getF (.mast m) (dmaF fDmCtrlIrqP n) + 2 * s.getF (.mast m) (dmaF fDmCtrlIrqC n)) (0x100 + n)

/-- Write a descriptor's STATUS word (R337), if it lies in memory. -/
def State.dmaStatus (s : State) (m : Mast) (addr status : Nat) : State := s.fabricStore m (addr + 0x3C) (natLe 4 status)

/-- A channel enters the state `st`, writing a completion record first if it has one; a full ring makes it wait
(R331, R342). A ring that is not enabled takes no record. -/
def State.dmaRecord (s : State) (m : Mast) (n : Nat) (record : Option (List Byte)) (st : Nat) : State × Bool :=
  match record with
  | none => (s.setDma m n st, true)
  | some r =>
    if !s.ringOn m (64 + n) then (s.setDma m n st, true)
    else if s.ringFull m (64 + n) then
      let q := s.queue.get m
      ((s.setQueue m (q.setChannel { q.channel n with record := some (r, st) })).setDma m n 3, false)
    else ((s.ringPush m (64 + n) r).setDma m n st, true)

/-- The event of a stop (R342, R349). -/
def State.dmaStopEvent (s : State) (m : Mast) (n result addr : Nat) : State :=
  if result = 1 then s.raiseM m evDmDescErr n addr
  else if result = 2 then s.raiseM m evDmAlign n addr
  else s.raiseM m evDmBuserr (n * 256 + result) addr

/-- The channel stops with a result (R339, R340, R342). -/
def State.dmaStop (s : State) (m : Mast) (n result bytes : Nat) : State :=
  let c := Copy.mast m
  let ch := (s.queue.get m).channel n
  let status := 1 + 2 * result
  let s := s.dmaStatus m ch.addr status
  let s := (s.putF c (dmaF fDmDoneBytes n) bytes).putF c (dmaF fDmHoldFill n) 0
  let s := (s.putF c (dmaF fDmStatErr n) result).dmaStopEvent m n result ch.addr
  let s := (s.dmaRecord m n
    (some (s.completionRecord ch.addr status (fieldAt ch.bytes 0x38 4) bytes ch.count)) 4).1
  s.dmaInterrupt m n

/-- The channel loads the descriptor at an address and checks it (R339): it runs, or stops with the first failure. -/
def State.dmaLoad (s : State) (m : Mast) (n addr : Nat) : State :=
  let c := Copy.mast m
  let d := (s.mast m).mem.readBytes addr 64
  let q := s.queue.get m
  let s := s.setQueue m (q.setChannel { q.channel n with addr := addr, bytes := d })
  let s := (s.putF c (dmaF fDmCurAddr n) (addr / 64)).putF c (dmaF fDmDoneBytes n) 0
  match s.dmaCheck m n addr d with
  | 0 => s.setDma m n 1
  | r => s.dmaStop m n r 0

/-- A parked channel reads the NEXT word of its descriptor again (R342): a linked descriptor is loaded. -/
def State.dmaReread (s : State) (m : Mast) (n : Nat) : State :=
  let ch := (s.queue.get m).channel n
  let next := leNat ((s.mast m).mem.readBytes ch.addr 4)
  if next % 2 = 1 then s.setDma m n 2 else s.dmaLoad m n (next / 64 * 64)

/-- A doorbell (R342). -/
def State.dmaDoorbell (s : State) (m : Mast) (n : Nat) : State :=
  let c := Copy.mast m
  let st := s.dmaState m n
  let ignored := (s.incF c (dmaF fDmCntIgnored n) 1).raiseLimited (2 ^ m.code) (4 * n + m.code) evDmDbIgnored n st
  if st = 0 then
    if s.getF c (dmaF fDmCtrlEnable n) = 1 then s.dmaLoad m n (s.getF c (dmaF fDmHeadAddr n) * 64) else ignored
  else if st = 4 then ignored
  else if st = 2 then s.dmaReread m n
  else s.putF c (dmaF fDmStatDbpend n) 1

/-- After a completed descriptor (R342): load the next, or park; a pending doorbell makes it read NEXT again. -/
def State.dmaGoOn (s : State) (m : Mast) (n : Nat) : State :=
  let c := Copy.mast m
  let next := fieldAt ((s.queue.get m).channel n).bytes 0 4
  if next % 2 = 0 then s.dmaLoad m n (next / 64 * 64)
  else if s.getF c (dmaF fDmStatDbpend n) = 1 then ((s.putF c (dmaF fDmStatDbpend n) 0).setDma m n 2).dmaReread m n
  else s.setDma m n 2

/-- The bytes a walk reads; those of bridge windows come from the rack (R338). -/
def gather (mem : Memory) : List Nat → List Byte → List Byte
  | [], _ => []
  | a :: rest, rack =>
    if regionOf a = .bridge then rack.headD 0 :: gather mem rest rack.tail
    else mem.readByte a :: gather mem rest rack

/-- Store the bytes of a walk one by one, in walk order (R338). -/
def State.scatter (s : State) (m : Mast) : List Nat → List Byte → State
  | a :: as, b :: bs => State.scatter (s.fabricStore m a [b]) m as bs
  | _, _ => s

/-- Move the first `k` bytes of a channel's descriptor. (DESIGN CHOICE, log entry 30) -/
def State.dmaMove (s : State) (m : Mast) (d : List Byte) (k : Nat) (rack : List Byte) : State :=
  s.scatter m ((dstWalk d).bytes.take k) (gather (s.mast m).mem (srcWalk d).bytes rack)

/-- Is a mast's engine working: powered, not silent, not held? -/
def State.engineRuns (s : State) (m : Mast) : Bool := s.triadRuns m

/-- DMA_DOORBELL (R342): 1 written to `DM_DBn`. -/
def execDmaDoorbell (t : Nat) (m : Mast) (n : Nat) (s : State) : Result :=
  let s := s.advance t
  if s.engineRuns m && n < 32 then ok (s.dmaDoorbell m n) else ok s

/-- DMA_DESCRIPTOR_COMPLETE (R338, R342, R343): the whole walk has been moved. `rack` gives the bytes of source elements in
bridge windows. (DESIGN CHOICE, log entry 30) -/
def execDmaDescriptorComplete (t : Nat) (m : Mast) (n : Nat) (rack : List Byte) (s : State) : Result :=
  let s := s.advance t
  if !s.engineRuns m || s.dmaState m n != 1 || 32 ≤ n then ok s
  else
    let c := Copy.mast m
    let ch := (s.queue.get m).channel n
    let len := (dstWalk ch.bytes).length
    let s := (s.dmaMove m ch.bytes len rack).dmaStatus m ch.addr 1
    let s := (s.putF c (dmaF fDmDoneBytes n) len).incF c (dmaF fDmCntDescs n) 1
    let count := (ch.count + 1) % 2 ^ 32
    let q := s.queue.get m
    let s := s.setQueue m (q.setChannel { ch with count := count })
    let ctrl := fieldAt ch.bytes 4 4
    let s := if bitOf ctrl 9 then s.dmaInterrupt m n else s
    let record := if bitOf ctrl 8 then some (s.completionRecord ch.addr 1 (fieldAt ch.bytes 0x38 4) len count) else none
    match s.dmaRecord m n record 1 with
    | (s, true) => ok (s.dmaGoOn m n)
    | (s, false) => ok s

/-- DMA_TARGET_ERROR (R340): the target answers with an error after `written` destination bytes. -/
def execDmaTargetError (t : Nat) (m : Mast) (n written : Nat) (rack : List Byte) (s : State) : Result :=
  let s := s.advance t
  if !s.engineRuns m || s.dmaState m n != 1 || 32 ≤ n then ok s
  else
    let ch := (s.queue.get m).channel n
    let w := (dstWalk ch.bytes).width
    let k := min (written / w * w) (dstWalk ch.bytes).length
    ok ((s.dmaMove m ch.bytes k rack).dmaStop m n 4 k)

/-- DMA_STOPPED_CLEAR (R342): 1 written to `DM_STATn.STOPPED`. -/
def execDmaStoppedClear (t : Nat) (m : Mast) (n : Nat) (s : State) : Result :=
  let s := s.advance t
  if s.engineRuns m && s.dmaState m n == 4 && n < 32 then
    ok (((s.putF (.mast m) (dmaF fDmStatErr n) 0).putF (.mast m) (dmaF fDmStatDbpend n) 0).setDma m n 0)
  else ok s

/-- SAFE, the STANDBY entry and module reset take every channel to IDLE (R342). -/
def State.dmaIdle (s : State) (m : Mast) : State :=
  (List.range 32).foldl (fun s n =>
    if s.dmaState m n = 0 then s
    else
      let c := Copy.mast m
      let q := s.queue.get m
      let s := s.setQueue m (q.setChannel { q.channel n with record := none })
      (((s.putF c (dmaF fDmHoldFill n) 0).putF c (dmaF fDmStatDbpend n) 0).putF c (dmaF fDmStatErr n) 0).setDma m n 0) s

/-! ## Index writes (R330) -/

/-- RING_PRODUCE (R330): a PROD write by a triad. -/
def execRingProduce (t : Nat) (m : Mast) (n value : Nat) (s : State) : Result :=
  let s := s.advance t
  if !s.triadRuns m || ringOwned n || 128 ≤ n then ok s
  else
    let v := value % 65536
    let used := usedOf (s.ringProd m n) (s.ringCons m n)
    let next := usedOf v (s.ringCons m n)
    if ringSoft n && s.ringOn m n && decide (used ≤ next ∧ next ≤ s.ringSize m n) then
      ok (s.putF (.mast m) (ringF fQmRingProdProd n) v)
    else ok (s.indexError m n value)

/-- A waiting completion record gets the freed slot (R331). -/
def State.dmaResume (s : State) (m : Mast) (n : Nat) : State :=
  let q := s.queue.get m
  match (q.channel n).record with
  | none => s
  | some (r, st) =>
    let s := s.setQueue m (q.setChannel { q.channel n with record := none })
    match s.dmaRecord m n (some r) st with
    | (s, true) => if st = 1 then s.dmaGoOn m n else s
    | (s, false) => s

/-- RING_CONSUME (R330): a CONS write by a triad on a hardware-produced ring. -/
def execRingConsume (t : Nat) (m : Mast) (n value : Nat) (s : State) : Result :=
  let s := s.advance t
  if !s.triadRuns m || ringOwned n || 128 ≤ n then ok s
  else
    let v := value % 65536
    let used := usedOf (s.ringProd m n) (s.ringCons m n)
    if ringHard n && s.ringOn m n && decide (usedOf v (s.ringCons m n) ≤ used) then
      let s := s.putF (.mast m) (ringF fQmRingConsCons n) v
      if 64 ≤ n ∧ n ≤ 95 ∧ s.dmaState m (n - 64) = 3 ∧ !s.ringFull m n then ok (s.dmaResume m (n - 64)) else ok s
    else ok (s.indexError m n value)

/-- POOL_RETURN (R335). -/
def execPoolReturn (t : Nat) (m : Mast) (index : Nat) (s : State) : Result :=
  let s := s.advance t
  if !s.triadRuns m then ok s
  else if (s.queue.get m).inUse.contains (index % 8192) then ok (s.freeBuffer m (index % 8192))
  else ok (s.raiseLimited (2 ^ m.code) (0x100 * 4 + m.code) evQmIndexErr 0x100 index)

/-! ## Transmit descriptors (R333) -/

/-- Record the last failed item (`IT_LASTERR`, `IT_ERRKIND`). -/
def State.itErr (s : State) (source seq masts kind : Nat) : State :=
  let s := (s.putF .agreed fItLasterrSource source).putF .agreed fItLasterrSeq seq
  (s.putF .agreed fItErrkindMasts masts).putF .agreed fItErrkindKind kind

/-- A mast's exit check of an item has failed (R148): reported for the next action instant. -/
def State.exitFail (s : State) (m : Mast) (i : Item) : State :=
  if s.intake.exitFails.contains (m, i.source, i.seq) then s
  else
    let s := s.raiseM m evTagExitFail i.source m.code
    { s with intake := { s.intake with exitFails := s.intake.exitFails ++ [(m, i.source, i.seq)] } }

/-- LEN of a descriptor of a ring (R333, R361, R371). -/
def State.txLenOk (s : State) (n len : Nat) : Bool :=
  if n < 32 then decide (14 ≤ len ∧ len ≤ 1518)
  else if n = 116 then decide (9 ≤ len ∧ len ≤ 1032)
  else decide (1 ≤ len ∧ len ≤ s.getF .agreed fSlShareOwn)

/-- The item a transmit descriptor names, as read from the mast's memory. -/
def State.txItem (s : State) (m : Mast) (d : List Byte) : Item :=
  let mem := (s.mast m).mem
  let buf := fieldAt d 0 4
  Item.ofBytes (mem.readBytes buf 24) (mem.readBytes (buf + 24) (fieldAt d 4 2))

/-- LEN of the value of an item for ring 116: eight bytes and the count the value names, 1 to 1024 (R361). -/
def queuedLenOk (n : Nat) (value : List Byte) : Bool := n != 116 || value.length == 8 + fieldAt value 4 2

/-- The checks of a transmit descriptor (R333, R147): 0 for none failed, 5 descriptor error, 6 tag failed. -/
def State.txCheck (s : State) (m : Mast) (n : Nat) (d : List Byte) : Nat :=
  let i := s.txItem m d
  let buf := fieldAt d 0 4
  if !s.txLenOk n (fieldAt d 4 2) || 16 ≤ fieldAt d 8 4 || sec ≤ fieldAt d 0x10 4 || buf % 8 != 0
      || i.len != fieldAt d 4 2 || !queuedLenOk n i.value then 5
  else if !i.tagOk then 6 else 0

/-! ## Cache operations and the barrier (R346) -/

/-- Is an address cached: SRAM, flash, ROM or DRAM? -/
def cachedRegion (a : Nat) : Bool := [Region.rom, .sram, .flash, .dram].contains (regionOf a)

/-- The dirty lines of a range that the operation has to write to memory: all of them for CLEAN and CLEAN_INVALIDATE, those
lying only partly in the range for INVALIDATE. Lines outside the range are not touched. -/
def linesToWrite (op base len : Nat) (dirty : List (Nat × List Byte)) : List (Nat × List Byte) :=
  dirty.filter fun l =>
    let lo := l.1 / 64 * 64
    cachedRegion lo && decide (lo < base + len ∧ base < lo + 64) && (op != 2 || decide (lo < base ∨ base + len < lo + 64))

/-- A dirty line of a triad goes to memory as any write of the triad does: a bus error, and nothing stored, in a reserved area (R79)
or, from Triad C, below the fence, with FENCE_VIOLATION (R80). -/
def State.lineStore (s : State) (m : Mast) (tr : Triad) (a : Nat) (line : List Byte) : State :=
  if reservedArea a then s.answer m tr .busError
  else if tr = .c ∧ s.fenced a then (s.raiseM m evFenceViolation a 0).answer m tr .busError
  else s.fabricStore m a line

/-- A write of `QM_CMOP` (R346). `dirty` gives the dirty lines of the triad's caches, address and 64 bytes each. -/
def State.cacheStart (s : State) (m : Mast) (tr : Triad) (op : Nat) (dirty : List (Nat × List Byte)) : State :=
  let c := Copy.triad m tr
  let base := s.getF c fQmCmbaseAddr
  let len := s.getF c fQmCmlenLen
  if len = 0 then s
  else if 16 * 2 ^ 20 < len then (s.putF c fQmCmstatErr 1).raiseM m evQmCmErr tr.code len
  else
    let q := s.queue.get m
    let before := match (q.cache tr).op with | some o => o.dirty | none => []
    let s := s.setQueue m (q.setCache tr { q.cache tr with
      op := some ⟨op, base, len, before ++ linesToWrite op base len dirty⟩ })
    s.putF c fQmCmstatBusy 1

/-- CACHE_CLEAN (R346). (DESIGN CHOICE, log entry 30) -/
def execCacheClean (t : Nat) (m : Mast) (tr : Triad) (dirty : List (Nat × List Byte)) (s : State) : Result :=
  let s := s.advance t
  if s.triadRuns m then ok (s.cacheStart m tr 1 dirty) else ok s

/-- CACHE_INVALIDATE (R346). (DESIGN CHOICE, log entry 30) -/
def execCacheInvalidate (t : Nat) (m : Mast) (tr : Triad) (dirty : List (Nat × List Byte)) (s : State) : Result :=
  let s := s.advance t
  if s.triadRuns m then ok (s.cacheStart m tr 2 dirty) else ok s

/-- CACHE_CLEAN_INVALIDATE (R346). (DESIGN CHOICE, log entry 30) -/
def execCacheCleanInvalidate (t : Nat) (m : Mast) (tr : Triad) (dirty : List (Nat × List Byte)) (s : State) : Result :=
  let s := s.advance t
  if s.triadRuns m then ok (s.cacheStart m tr 3 dirty) else ok s

/-- CACHE_OP_DONE (R346): the lines are in memory, BUSY clears, and a waiting barrier read returns 0. -/
def execCacheOpDone (t : Nat) (m : Mast) (tr : Triad) (s : State) : Result :=
  let s := s.advance t
  let q := s.queue.get m
  match (q.cache tr).op with
  | none => ok s
  | some o =>
    if !s.triadRuns m then ok s
    else
      let s := o.dirty.foldl (fun s l => s.lineStore m tr (l.1 / 64 * 64) (l.2.take 64)) s
      let s := (s.setQueue m (q.setCache tr {})).putF (.triad m tr) fQmCmstatBusy 0
      if (q.cache tr).barrier then ok (s.answer m tr (.done 0)) else ok s

/-- BARRIER (R346): a read of `QM_BARRIER` returns 0 once the triad's earlier cache operations are complete. -/
def execBarrier (t : Nat) (m : Mast) (tr : Triad) (s : State) : Result :=
  let s := s.advance t
  let q := s.queue.get m
  if !s.triadRuns m then ok s
  else if (q.cache tr).op.isSome then
    ok ((s.setQueue m (q.setCache tr { q.cache tr with barrier := true })).answer m tr .idle)
  else ok (s.answer m tr (.done 0))

end Sys2Proof.Machine
end

