-- ==== Sys2Proof/Machine/Bridge.lean ====
section
/-!
DEFINITION. The rack bus bridge (R350 to R366).
-/
namespace Sys2Proof.Machine

/-! ## Entry (R131) -/

/-- Next sequence of a source the entry logic numbers. -/
def IntakePart.nextSeq (p : IntakePart) (source : Nat) : Nat :=
  match p.entrySeq.find? (fun e => e.1 == source) with
  | some e => e.2
  | none => 0

/-- The entry logic forms an item with its entry time and tag, and fans it out to every powered mast (R131). (DEDUCED, log entry 37) -/
def State.formItem (s : State) (source time : Nat) (value : List Byte) : State :=
  let seq := s.intake.nextSeq source
  { s with intake := { s.intake with
    fan := s.intake.fan ++ [Item.form source seq time value]
    entrySeq := (source, (seq + 1) % 65536) :: s.intake.entrySeq.filter fun e => e.1 != source } }

/-! ## Outbound transactions (R353 to R358) -/

/-- Is the bridge open (R352)? -/
def State.bridgeOpen (s : State) : Bool := s.getF .agreed fBbStatState == 2

/-- Fields of window `w`. -/
def owinF (f : Fld) (w : Nat) : Fld := f.plus (8 * w)

/-- Width of an outbound window in bytes (R353). -/
def State.owinWidth (s : State) (w : Nat) : Nat := 2 ^ s.getF .agreed (owinF fBbOwinCfgWidth w)

/-- RBASE of an outbound window. -/
def State.owinBase (s : State) (w : Nat) : Nat := s.getF .agreed (owinF fBbOwinBaseRbase w) * 2 ^ 26

/-- The rack offset of a window offset under a byte rule (R354): unchanged, or with its low two bits inverted. -/
def ruleOf (dataInv : Bool) (x : Nat) : Nat := if dataInv then x / 4 * 4 + (3 - x % 4) else x

/-- The lowest rack offset of `n` bytes from window offset `x`. -/
def lowestRule (dataInv : Bool) (x n : Nat) : Nat :=
  (List.range n).foldl (fun a k => min a (ruleOf dataInv (x + k))) (ruleOf dataInv x)

/-- The pieces of an access of `n` bytes at window offset `x`, cut at multiples of the width: byte in the access, length. -/
def pieces (width x n : Nat) : List (Nat × Nat) :=
  ((List.range n).filter fun k => k == 0 || (x + k) % width == 0).map fun k => (k, min (n - k) (width - (x + k) % width))

/-- Next sequence of a window's transactions (R355). -/
def BridgePart.nextSeq (b : BridgePart) (w : Nat) : Nat :=
  match b.seqs.find? (fun e => e.1 == w) with
  | some e => e.2
  | none => 0

/-- The value of an outbound transaction's item: the rack address, the kind, the byte count and the bytes written. -/
def outValue (raddr kind count : Nat) (bytes : List Byte) : List Byte :=
  natLe 4 raddr ++ natLe 1 kind ++ natLe 1 count ++ natLe 2 0 ++ bytes

/-- The entries of the posted-write buffer: at most the first 32 posted writes (R356). -/
def BridgePart.posted (b : BridgePart) : Nat := min 32 (b.txs.filter fun t => t.kind == 2).length

/-- Show the bridge's fill and whether a transaction is under way (R359). -/
def State.showBridge (s : State) : State :=
  (s.putF .agreed fBbStatPosted s.bridge.posted).putF .agreed fBbStatOutPend
    (b2n (match s.bridge.txs with | x :: _ => x.req.isSome | [] => false))

/-- The owner of unit 6 requests the bus for the first transaction once it and a second voting mast have deposited it (R355, R356),
where the selector passes its owner (R15). -/
def State.bridgeKick (s : State) : State :=
  match s.bridge.txs with
  | x :: rest =>
    if x.req.isNone ∧ s.owned 6 ∧ x.deposits.get (s.unit 6).owner ∧ 2 ≤ (s.voters.filter fun m => x.deposits.get m).length then
      ({ s with bridge := { s.bridge with txs := { x with req := some s.now } :: rest } }).showBridge
    else s.showBridge
  | [] => s.showBridge

/-- Answer the triads that wait for a transaction's access, on every mast. -/
def State.answerWaiting (s : State) (w : Per (Option Triad)) (a : BusAnswer) : State :=
  Mast.all.foldl (fun s m => match w.get m with | some tr => s.answer m tr a | none => s) s

/-- Posted writes that have entered the buffer of 32 complete for their triads (R356). -/
def State.postedComplete (s : State) : State :=
  let first := (s.bridge.txs.filter fun t => t.kind == 2).take 32
  let s := (first.filter fun t => t.last).foldl (fun s t => s.answerWaiting t.waiting (.done 0)) s
  { s with bridge := { s.bridge with
    txs := s.bridge.txs.map fun t => if first.contains t then { t with waiting := Per.all none } else t } }

/-- The value gathered for an access. -/
def BridgePart.accessOf (b : BridgePart) (n : Nat) : OutAccess :=
  (b.accesses.find? fun a => a.access == n).getD { access := n }

/-- How an access whose last transaction has its agreed answer completes. -/
def OutAccess.answer (a : OutAccess) : BusAnswer := if a.failed then .busError else .done a.value

/-- A mast issues one transaction (R355): it forms the item, checks its tag (R147) and deposits the digest of the transaction already
waiting, or the bridge forms a new one. `access` is the access the transaction belongs to if it is new. -/
def State.outDeposit (s : State) (m : Mast) (tr : Option Triad) (access w x off count : Nat) (last : Bool)
    (kind : Nat) (bytes : List Byte) : State :=
  let raddr := s.owinBase w + lowestRule (s.getF .agreed (owinF fBbOwinCfgRule w) == 1) x count
  let value := outValue raddr kind count bytes
  let same := fun (t : OutTx) => t.window == w && t.item.value == value && !t.deposits.get m
  match s.bridge.done.find? same with
  | some t =>
    let t' := { t with deposits := t.deposits.set m true, waiting := t.waiting.set m (if last then tr else none) }
    let s := { s with bridge := { s.bridge with
      done := s.bridge.done.map fun u => if u = t then t' else u } }
    match t.agreed, last, tr with
    | some _, true, some tr => s.answer m tr (s.bridge.accessOf t.access).answer
    | _, _, _ => s
  | none =>
    match s.bridge.txs.find? same with
    | some t =>
      let t' := { t with deposits := t.deposits.set m true, waiting := t.waiting.set m (if last then tr else none) }
      { s with bridge := { s.bridge with txs := s.bridge.txs.map fun u => if u = t then t' else u } }
    | none =>
      let seq := s.bridge.nextSeq w
      let item := Item.form (0xE200 + w) seq 0 value
      if !item.tagOk then s.exitFail m item
      else
      { s with bridge := { s.bridge with
        txs := s.bridge.txs ++ [{
          access := access, off := off, count := count, last := last, window := w, x := x, raddr := raddr, kind := kind,
          item := item,
          deposits := (Per.all false).set m true,
          waiting := (Per.all none).set m (if last then tr else none), formed := s.now }]
        seqs := (w, (seq + 1) % 65536) :: s.bridge.seqs.filter fun e => e.1 != w } }

/-- A mast issues an access to an enabled window of the open bridge: all its transactions, in ascending order (R353). (DEDUCED, log entry 37) -/
def State.outAccess (s : State) (m : Mast) (tr : Option Triad) (w x : Nat) (kind : Nat) (width : Nat) (bytes : List Byte)
    (n : Nat) : State :=
  let access := s.bridge.nextAccess
  let cut := pieces width x n
  let s := cut.foldl (fun s p =>
    s.outDeposit m tr access w (x + p.1) p.1 p.2 (p.1 + p.2 == n) kind (slice bytes p.1 p.2)) s
  ({ s with bridge := { s.bridge with nextAccess := access + 1 } }).postedComplete.bridgeKick

/-- RACK_OUTBOUND_ACCESS (R353, R355, R356): a triad reads or writes 1 to 8 bytes in an outbound window. -/
def execRackOutboundAccess (t : Nat) (m : Mast) (tr : Triad) (addr size : Nat) (write : Bool) (value : Nat) (s : State) :
    Result :=
  let s := s.advance t
  if !s.triadRuns m || regionOf addr != .bridge then ok s
  else
    let w := (addr - 0x80000000) / 0x04000000
    let x := (addr - 0x80000000) % 0x04000000
    if !s.bridgeOpen || s.getF .agreed (owinF fBbOwinCfgEnable w) != 1 || decide (4 < x % 4 + size) || size == 0 then
      let s := if s.voters.head? = some m then s.incF .agreed fBbOuterrNowin 1 else s
      ok (s.answer m tr .busError)
    else
      let kind := if write then (if s.getF .agreed (owinF fBbOwinCfgPosted w) = 1 then 2 else 1) else 0
      let s := s.answer m tr .idle
      ok (s.outAccess m (some tr) w x kind (s.owinWidth w) (if write then natLe size value else []) size)

/-- Add one to the field of `BB_OUTERR` that counts a result (R357). (DEDUCED, log entry 37) -/
def State.countOutErr (s : State) (result : Nat) : State :=
  if result = 1 then s.incF .agreed fBbOuterrTarget 1
  else if result = 2 then s.incF .agreed fBbOuterrParity 1
  else if 3 ≤ result then s.incF .agreed fBbOuterrTimeout 1
  else s

/-- The answer item's value (R358). -/
def answerValue (data result kind raddr tag : Nat) : List Byte :=
  natLe 4 data ++ natLe 1 result ++ natLe 1 kind ++ natLe 2 0 ++ natLe 4 raddr ++ natLe 8 tag

/-- The first transaction ends with a result (R357, R358). -/
def State.outFinish (s : State) (x : OutTx) (data result : Nat) : State :=
  let s := if result = 0 then s
    else (s.countOutErr result).raiseLimited s.lane.active.mask x.window evBbOutFail (x.window * 256 + result) x.raddr
  let s := { s with bridge := { s.bridge with
    txs := s.bridge.txs.tail
    done := if x.kind = 2 then s.bridge.done else s.bridge.done ++ [{ x with ended := s.now }] } }
  let s := if x.kind ≠ 2 ∨ result ≠ 0 then
      s.formItem (0x3000 + x.window) s.moduleTime (answerValue data result x.kind x.raddr x.item.tag)
    else s
  s.postedComplete.bridgeKick

/-- The bytes of read data on `RB_AD` that a transaction asked for, in memory order after the byte rule (R354, R358). -/
def readBack (dataInv : Bool) (x : OutTx) (ad : Nat) : Nat :=
  leNat ((List.range x.count).map fun k =>
    BitVec.ofNat 8 (ad / 2 ^ (24 - 8 * (ruleOf dataInv (x.x + k) % 4))))

/-- RACK_TRANSACTION_COMPLETE (R357): the target acknowledged, or answered with error; read data have good parity or not. -/
def execRackTransactionComplete (t : Nat) (ack : Bool) (ad : Nat) (parityOk : Bool) (s : State) : Result :=
  let s := s.advance t
  match s.bridge.txs with
  | [] => ok s
  | x :: _ =>
    if x.req.isNone || !s.owned 6 then ok s
    else if !ack then ok (s.outFinish x 0 1)
    else if x.kind = 0 ∧ !parityOk then ok (s.outFinish x 0 2)
    else
      let data := if x.kind = 0 then readBack (s.getF .agreed (owinF fBbOwinCfgRule x.window) == 1) x ad else 0
      ok (s.outFinish x data 0)

/-- RACK_TARGET_RETRY (R357): the target answers with retry; the transaction is repeated while the 20 µs allow it. -/
def execRackTargetRetry (t : Nat) (s : State) : Result :=
  let s := s.advance t
  match s.bridge.txs with
  | [] => ok s
  | x :: _ =>
    match x.req with
    | none => ok s
    | some from' =>
      let s := s.incF .agreed fBbRetryReceived 1
      if from' + 20 * us ≤ s.now then ok (s.outFinish x 0 3) else ok s

/-- RACK_TRANSACTION_TIMEOUT (R357): not acknowledged within 20 µs of the first request. -/
def execRackTransactionTimeout (t : Nat) (s : State) : Result :=
  let s := s.advance t
  match s.bridge.txs with
  | [] => ok s
  | x :: _ =>
    match x.req with
    | none => ok s
    | some from' => if from' + 20 * us ≤ s.now then ok (s.outFinish x 0 3) else ok s

/-- RACK_UNCONFIRMED_TIMEOUT (R355, R357): not confirmed by a second mast within 100 µs. -/
def execRackUnconfirmedTimeout (t : Nat) (s : State) : Result :=
  let s := s.advance t
  match s.bridge.txs with
  | [] => ok s
  | x :: _ => if x.req.isNone ∧ x.formed + 100 * us ≤ s.now then ok (s.outFinish x 0 4) else ok s

/-! ## Answers (R142) -/

/-- Is an answer item one of a read or non-posted write: not held for the action instant (R142)? -/
def directAnswer (i : Item) : Bool := decide (0x3000 ≤ i.source ∧ i.source ≤ 0x300F) && fieldAt i.value 5 1 != 2

/-- The transaction an answer item names by its TAG field completes on every mast that waits for it. -/
def State.answerAgreed (s : State) (tag data result : Nat) : State :=
  match s.bridge.done.find? (fun x => x.item.tag == tag) with
  | none => s
  | some x =>
    let a := s.bridge.accessOf x.access
    let a := { a with value := a.value + data * 256 ^ x.off, failed := a.failed || result != 0 }
    let s := { s with bridge := { s.bridge with
      accesses := a :: s.bridge.accesses.filter fun b => b.access != x.access
      done := s.bridge.done.map fun u => if u = x then { u with agreed := some (data, result) } else u } }
    if x.last then s.answerWaiting x.waiting a.answer else s

/-- An answer has been agreed (R142): the voting masts that do not hold it take it as a fill (R138), and a later copy of it is no
candidate (R137). -/
def State.answerTaken (s : State) (holders : Per Bool) (i : Item) : State :=
  let s : State := { s with intake := { s.intake with past := (i.source, i.seq, s.time.aiNumber) :: s.intake.past } }
  s.voters.foldl (fun s m => if holders.get m then s else s.incF (.mast m) fItFillItems 1) s

/-- An answer item arrives at a mast with a correct tag (R142): two voting masts that hold it agree at once. -/
def State.answerArrives (s : State) (m : Mast) (i : Item) : State :=
  let known := s.bridge.answers.any fun a => a.item.tag == i.tag
  let s : State := if known then
      { s with bridge := { s.bridge with
        answers := s.bridge.answers.map fun (a : RackAnswer) =>
          if a.item.tag == i.tag then { a with holders := a.holders.set m true } else a } }
    else { s with bridge := { s.bridge with answers := s.bridge.answers ++ [⟨i, (Per.all false).set m true, s.now⟩] } }
  let held := s.bridge.answers.find? fun a =>
    a.item.tag == i.tag && decide (2 ≤ (s.voters.filter fun v => a.holders.get v).length)
  match held with
  | none => s
  | some a =>
    let rest := s.bridge.answers.filter fun b => !(b.item.source == i.source && b.item.seq == i.seq)
    let s := ({ s with bridge := { s.bridge with answers := rest } }).answerTaken a.holders i
    s.answerAgreed (fieldAt i.value 12 8) (fieldAt i.value 0 4) (fieldAt i.value 4 1)

/-- The copies of a transaction's answer item that masts hold without agreement, by the TAG field (R358). -/
def BridgePart.answersTo (b : BridgePart) (tag : Nat) : List RackAnswer :=
  b.answers.filter fun a => fieldAt a.item.value 12 8 == tag

/-- Copies of one answer that differ on the masts (R137 second row): discarded, counted and raised. -/
def State.answersDiffer (s : State) (l : List RackAnswer) : State :=
  if l.length < 2 then s
  else
    l.foldl (fun s a =>
      let s := (s.incF .agreed fItDiscardNoagree 1).itErr a.item.source a.item.seq a.holders.mask 2
      s.raiseLimited s.lane.active.mask a.item.source evIntakeNoagree a.item.source a.item.seq) s

/-- READ_ANSWER_TIMEOUT (R142): no agreement within 20 µs after the answer of a transaction was formed; what the masts hold of it
is discarded, and the read completes with a bus error on every mast. -/
def execReadAnswerTimeout (t : Nat) (tag : Nat) (s : State) : Result :=
  let s := s.advance t
  match s.bridge.done.find? (fun x => x.item.tag == tag && x.agreed.isNone && decide (x.ended + 20 * us ≤ s.now)) with
  | none => ok s
  | some _ =>
    let l := s.bridge.answersTo tag
    let s := s.answersDiffer l
    ok (({ s with bridge := { s.bridge with answers := s.bridge.answers.filter fun a => !l.contains a } }).answerAgreed tag 0 1)

/-! ## The posted-write error queue (R360) -/

/-- Show the number of entries. -/
def State.showPwe (s : State) : State := s.putF .agreed fBbPwestatCount s.bridge.pwe.length

/-- A failed posted write's answer item is released: it enters the queue, or is discarded at a full one (R360). -/
def State.pweEnter (s : State) (i : Item) : State :=
  let w := i.source % 16
  let e : PweEntry := ⟨w, fieldAt i.value 4 1, fieldAt i.value 8 4, fieldAt i.value 12 8, i.time⟩
  if 16 ≤ s.bridge.pwe.length then
    let s := (s.incF .agreed fBbPwestatOvfcnt 1).putF .agreed fBbPwestatOvf 1
    s.raise evBbPweqOverflow (s.getF .agreed fBbPwestatOvfcnt) 0
  else
    let s := ({ s with bridge := { s.bridge with pwe := s.bridge.pwe ++ [e] } }).showPwe
    s.raiseLimited s.lane.active.mask w evBbPostedFail (w * 256 + e.result) e.raddr

/-- BB_PWEPOP (R360): the masts' read takes the oldest entry into the holding registers and returns the word to triad `tr`
of every mast that runs. -/
def execBbPwepop (t : Nat) (tr : Triad) (s : State) : Result :=
  let s := s.advance t
  let s := match s.bridge.pwe with
    | [] => s.setReg .agreed rBbPwepop 0
    | e :: rest =>
      let s := ({ s with bridge := { s.bridge with pwe := rest } }).showPwe
      let s := ((s.putF .agreed fBbPwepopValid 1).putF .agreed fBbPwepopWindow e.window).putF .agreed fBbPwepopResult e.result
      let s := ((s.putF .agreed fBbPweaddrValue e.raddr).putF .agreed fBbPwetagloValue e.tag).putF .agreed fBbPwetaghiValue
        (e.tag / 2 ^ 32)
      (s.putF .agreed fBbPwesecValue (e.time / sec)).putF .agreed fBbPwensValue (e.time % sec)
  let v := (s.reg .agreed rBbPwepop).toNat
  ok (s.voters.foldl (fun s m => if s.triadRuns m then s.answer m tr (.done v) else s) s)

/-! ## Inbound windows (R359, R362, R363) -/

/-- The enabled inbound window a rack address lies in. -/
def State.inWindow (s : State) (raddr : Nat) : Option Nat :=
  (List.range 4).find? fun w =>
    s.getF .agreed (owinF fBbIwinCfgEnable w) == 1 && s.getF .agreed (owinF fBbIwinBaseRbase w) == raddr / 4096

/-- Record how the bridge answered an inbound access. -/
def State.inAnswer (s : State) (a : InAnswer) : State :=
  let s := if a = .retry then s.incF .agreed fBbRetryGiven 1 else s
  { s with bridge := { s.bridge with lastIn := a } }

/-- Does the bridge answer retry to every access (R352 Starting, R359)? -/
def State.inRetry (s : State) : Bool := s.getF .agreed fBbStatState == 1 || s.getF .agreed fBbStatOutPend == 1

/-- Is the bridge selected by accesses to its windows: open, or starting with an image that has passed the checks of R58, which
end by 310 ms of BOOT (R34, R352)? -/
def State.inSelected (s : State) : Bool :=
  s.bridgeOpen || (s.getF .agreed fBbStatState == 1 && s.getF .agreed fSlKeystatFormatOk == 1
    && (s.ctl.mode != .boot || decide (s.ctl.bootFrom + 310 * ms ≤ s.now)))

/-- The window offsets of the enabled bytes with the bytes on `RB_AD`, in memory order (R354, R362). `be` bit 3 stands for
bits 31:24. -/
def inBytes (dataInv : Bool) (x be ad : Nat) : List (Nat × Byte) :=
  let lanes := (List.range 4).filter fun k => bitOf be (3 - k)
  let l := lanes.map fun k => (ruleOf dataInv (x / 4 * 4 + k), (BitVec.ofNat 8 (ad / 2 ^ (24 - 8 * k)) : Byte))
  if dataInv then l.reverse else l

/-- RACK_INBOUND_WRITE (R352, R359, R362): a card writes with byte enables `be` (1 enabled) and `RB_AD` = `ad`. -/
def execRackInboundWrite (t : Nat) (raddr be ad : Nat) (parityOk : Bool) (s : State) : Result :=
  let s := s.advance t
  match s.inWindow raddr with
  | none => ok (s.inAnswer .notSelected)
  | some w =>
    if !s.inSelected then ok (s.inAnswer .notSelected)
    else if s.inRetry || decide (64 ≤ s.bridge.inbuf) then ok (s.inAnswer .retry)
    else if !parityOk then
      ok ((s.inAnswer .error).raiseLimited s.lane.active.mask w evBbInboundParity w (raddr % 4096))
    else
      let l := inBytes (s.getF .agreed (owinF fBbIwinCfgRule w) == 1) (raddr % 4096) be ad
      let low := match l with | e :: _ => e.1 | [] => raddr % 4096
      let value := natLe 2 low ++ natLe 1 l.length ++ natLe 1 0 ++ ((l.map Prod.snd) ++ [0, 0, 0, 0]).take 4
      let s := (s.inAnswer (.ack 0)).incF .agreed fBbIncntWrites 1
      let s := { s with bridge := { s.bridge with inbuf := s.bridge.inbuf + 1 } }
      ok (s.formItem (0x3010 + w) s.moduleTime value)

/-- A word of a mast's live page. -/
def BridgePart.liveWord (b : BridgePart) (m : Mast) (off : Nat) : Word := (cellLookup (b.live.get m) off).getD 0

/-- What the voting masts' live copies show at an offset: the majority in TRIPLEX, the common value otherwise (R363). -/
def State.exposed (s : State) (off : Nat) : Option Word :=
  match s.voters.map fun m => s.bridge.liveWord m off with
  | [x, y, z] => some ((x &&& y) ||| (x &&& z) ||| (y &&& z))
  | [x, y] => if x = y then some x else none
  | [x] => some x
  | _ => none

/-- A word as `RB_AD` carries it under a byte rule (R350, R354). -/
def onBus (dataInv : Bool) (w : Word) : Nat := if dataInv then w.toNat else beNat (natLe 4 w.toNat)

/-- RACK_INBOUND_READ (R352, R359, R363): a card reads a word of an inbound window's exposed page. -/
def execRackInboundRead (t : Nat) (raddr : Nat) (s : State) : Result :=
  let s := s.advance t
  match s.inWindow raddr with
  | none => ok (s.inAnswer .notSelected)
  | some w =>
    let copied := match s.bridge.copying with | some c => bitOf c.1 w | none => false
    let off := 4096 * w + raddr % 4096 / 4 * 4
    if !s.inSelected then ok (s.inAnswer .notSelected)
    else if s.inRetry || copied then ok (s.inAnswer .retry)
    else
      match s.exposed off with
      | some v =>
        ok ((s.inAnswer (.ack (onBus (s.getF .agreed (owinF fBbIwinCfgRule w) == 1) v))).incF .agreed fBbIncntReads 1)
      | none =>
        let s := (s.inAnswer .error).incF .agreed fBbExpstatMismatch 1
        ok (s.raiseLimited s.lane.active.mask w evBbExposeMismatch w (raddr % 4096))

/-- A shadow word is written (`BB_EXPOSEw`, R363): discarded and counted between the mast's commit of the page and the copy. -/
def State.shadowWrite (s : State) (m : Mast) (addr : Nat) (v : Word) : State :=
  let page := (addr - rBbExpose0) / 4096
  let closed := match s.bridge.commits.get m with | some c => bitOf c.1 page | none => false
  if closed then s.incF .agreed fBbExpstatMismatch 1 else s.setReg (.mast m) addr v

/-- EXPOSE_COMMIT (R363): a mast writes `BB_EXPCOMMIT`. -/
def execExposeCommit (t : Nat) (m : Mast) (mask seq : Nat) (s : State) : Result :=
  let s := s.advance t
  if s.triadRuns m then
    ok { s with bridge := { s.bridge with commits := s.bridge.commits.set m (some (mask % 16, seq % 65536)) } }
  else ok s

/-- The commit that enough voting masts share: two in TRIPLEX, both otherwise (R363). -/
def State.agreedCommit (s : State) : Option (Nat × Nat) :=
  s.voters.findSome? fun m =>
    match s.bridge.commits.get m with
    | some c => if 2 ≤ (s.voters.filter fun v => s.bridge.commits.get v == some c).length then some c else none
    | none => none

/-- At an action instant, agreed pages begin to be copied (R363); answered accesses are forgotten. -/
def State.bridgeAtInstant (s : State) : State :=
  let done := s.bridge.done.filter fun x => x.agreed.isNone
  let s := { s with bridge := { s.bridge with
    done := done
    accesses := s.bridge.accesses.filter fun a =>
      done.any (fun x => x.access == a.access) || s.bridge.txs.any fun x => x.access == a.access } }
  match s.bridge.copying, s.agreedCommit with
  | none, some c => { s with bridge := { s.bridge with copying := some c } }
  | _, _ => s

/-- The live words of a mast after its shadow pages of a mask are copied (R363). -/
def State.copiedLive (s : State) (mask : Nat) (m : Mast) : List (Nat × Word) :=
  let kept := (s.bridge.live.get m).filter fun e => !bitOf mask (e.1 / 4096)
  let offs := (List.range 4096).filter fun k => bitOf mask (4 * k / 4096)
  offs.foldl (fun l k =>
    let v := s.reg (.mast m) (rBbExpose0 + 4 * k)
    if v = 0 then l else cellInsert l (4 * k) v) kept

/-- EXPOSE_COPY_DONE (R363): the shadow pages are live, and `BB_EXPSTAT.SEQ` shows the sequence copied. -/
def execExposeCopyDone (t : Nat) (s : State) : Result :=
  let s := s.advance t
  match s.bridge.copying with
  | none => ok s
  | some c =>
    let live := s.bridge.live.map fun m l => if s.votes m then s.copiedLive c.1 m else l
    let s := { s with bridge := { s.bridge with
      copying := none, live := live
      commits := s.bridge.commits.map fun _ x => if x = some c then none else x } }
    ok (s.putF .agreed fBbExpstatSeq c.2)

/-! ## Interrupt lines and side-band words (R364, R365) -/

/-- INT_LINE_POLL (R364): the lines are sampled (bit n: INTn asserted). -/
def execIntLinePoll (t : Nat) (levels : Nat) (s : State) : Result :=
  let s := s.advance t
  if !s.bridgeOpen then ok s
  else
    let v := levels % 256
    let changed := (BitVec.ofNat 8 v ^^^ BitVec.ofNat 8 s.bridge.intSample).toNat
    let seen := (BitVec.ofNat 8 changed &&& BitVec.ofNat 8 (s.getF .agreed fBbCtrlIntMask)).toNat
    let s := { s with bridge := { s.bridge with intSample := v } }
    if seen = 0 then ok s else ok (s.formItem 0x3040 s.moduleTime [BitVec.ofNat 8 v, BitVec.ofNat 8 changed, 0, 0])

/-- One side-band word's read (R365): failures counted, a changed value or result forms an item. -/
def State.sideband (s : State) (n value result : Nat) : State :=
  let s := { s with bridge := { s.bridge with sbSeq := (s.bridge.sbSeq + 1) % 65536 } }
  let s := s.countOutErr result
  let v := if result = 0 then value % 2 ^ 32 else 0
  let before : Nat × Nat := match s.bridge.sideband.find? (fun e => e.1 == n) with | some e => e.2 | none => (0, 0)
  if before = (v, result) then s
  else
    let s := { s with bridge := { s.bridge with
      sideband := (n, v, result) :: s.bridge.sideband.filter fun e => e.1 != n } }
    s.formItem (0x3020 + n) s.moduleTime (natLe 4 v ++ natLe 1 result ++ natLe 3 0)

/-- SIDEBAND_POLL (R365): the words are read in order; `results` gives each word's value and result. -/
def execSidebandPoll (t : Nat) (results : List (Nat × Nat)) (s : State) : Result :=
  let s := s.advance t
  if !s.bridgeOpen then ok s
  else
    ok ((results.take 32).zipIdx.foldl (fun s e =>
      if e.2 < s.bridge.nSb then s.sideband e.2 e.1.1 e.1.2 else s) s)

/-- What the release of a bridge item does beside its ring (R360, R362, R364, R365). -/
def State.bridgeRelease (s : State) (i : Item) : State :=
  if 0x3000 ≤ i.source ∧ i.source ≤ 0x300F then s.pweEnter i
  else if 0x3010 ≤ i.source ∧ i.source ≤ 0x3013 then
    { s with bridge := { s.bridge with inbuf := s.bridge.inbuf - 1 } }
  else if 0x3020 ≤ i.source ∧ i.source ≤ 0x303F then
    let n := i.source - 0x3020
    let s := s.putF .agreed (fBbSbvalValue.plus (4 * n)) (fieldAt i.value 0 4)
    s.raiseLimited s.lane.active.mask n evBbSideband n (fieldAt i.value 0 4)
  else if i.source = 0x3040 then s.putF .agreed fBbIntlvlLevel (fieldAt i.value 0 1)
  else s

/-- SAFE and the STANDBY entry end every outbound transaction: the accesses that wait complete with a bus error (R352). -/
def State.bridgeClose (s : State) (st : Nat) : State :=
  let s := (s.bridge.txs ++ s.bridge.done).foldl (fun s x =>
    if x.agreed.isNone then s.answerWaiting x.waiting .busError else s) s
  ({ s with bridge := { s.bridge with txs := [], done := [], answers := [], accesses := [], copying := none } }).showBridge.putF
    .agreed fBbStatState st

/-- A posted write taken from ring 116 on one mast (R361): its data as transactions of the window's width. -/
def State.queuedWrite (s : State) (m : Mast) (i : Item) : State :=
  let w := i.source % 16
  let x := fieldAt i.value 0 4
  let n := fieldAt i.value 4 2
  if s.bridgeOpen && s.getF .agreed (owinF fBbOwinCfgEnable w) == 1 then
    s.outAccess m none w x 2 (s.owinWidth w) (slice i.value 8 n) n
  else s

end Sys2Proof.Machine
end

