-- ==== Sys2Proof/Machine/Intake.lean ====
section
/-!
DEFINITION. Intake: arrival, proposals, agreement, fills and exit failures (R135 to R148). The release itself stands in
Machine/Release.lean.
-/
namespace Sys2Proof.Machine

/-- Replace one mast's intake. -/
def State.setIntake (s : State) (m : Mast) (x : IntakeMast) : State :=
  { s with intake := { s.intake with masts := s.intake.masts.set m x } }

/-! ## Arrival (R135, R144, R317, R336) -/

/-- Receive-buffer size in bytes of a network source's class (R317). -/
def State.netBuf (s : State) (source : Nat) : Nat :=
  match s.net.ports[source / 256 % 16 - 1]? with
  | some p => match p.classes[source % 256]? with | some c => c.buf * 128 | none => 1536
  | none => 1536

/-- An item that fails the arrival check counts as not received by this mast (R135). -/
def State.arrivalFail (s : State) (m : Mast) (i : Item) : State :=
  let s := (s.incF (.mast m) fItArrivalTagfail 1).itErr i.source i.seq (2 ^ m.code) 3
  s.raiseLimited (2 ^ m.code) (i.source * 4 + m.code) evTagArrivalFail i.source m.code

/-- A network frame longer than its class's buffer (R317): written truncated and never proposed; counted once. (DEDUCED, log entry 37) -/
def State.arrivalTrunc (s : State) (m : Mast) (i : Item) : State :=
  let cut := { i with trunc := true, value := i.value.take (s.netBuf i.source) }
  let s := match s.takeBuffer m cut with
    | (some b, s) => s.freeBuffer m b
    | (none, s) => s
  if s.voters.head? = some m then
    let off := 0x1000 * (i.source / 256 % 16 - 1)
    let s := s.incF .agreed (fNpRxtruncCount.plus off) 1
    let s := (s.putF .agreed (fNpTrunclastSource.plus off) i.source).putF .agreed (fNpTrunclastLen.plus off) i.len
    s.raiseLimited s.lane.active.mask i.source evNpRxTrunc i.source i.len
  else s

/-- Stage an item that has passed its check. -/
def State.stage (s : State) (m : Mast) (i : Item) (buffer : Option Nat) : State :=
  let x := s.intake.masts.get m
  s.setIntake m { x with staged := x.staged ++ [⟨i, 0, s.now, false, buffer⟩] }

/-- Does a mast hold an item of a source and sequence already: staged, or a read answer that waits (R135)? -/
def State.holdsSame (s : State) (m : Mast) (i : Item) : Bool :=
  ((s.intake.masts.get m).staged.any fun e => e.item.source == i.source && e.item.seq == i.seq) ||
    s.bridge.answers.any fun a => a.holders.get m && a.item.source == i.source && a.item.seq == i.seq

/-- Has the item of a source and sequence been released, or discarded on every mast, lately (R137)? -/
def IntakePart.isPast (p : IntakePart) (i : Item) : Bool := p.past.any fun e => e.1 == i.source && e.2.1 == i.seq

/-- An item arrives at a mast (R135): its tag is checked and it is staged, in a pool buffer if its source has one. A copy of an item
that has been released or discarded on every mast is no candidate any more (R137). INTAKE_STAGE_FULL carries the mast's running
count of dropped items. (DESIGN CHOICE, log entry 129) -/
def State.arrive (s : State) (m : Mast) (i : Item) : State :=
  let x := s.intake.masts.get m
  if decide (0x1000 ≤ i.source ∧ i.source < 0x2000) && decide (s.netBuf i.source < i.value.length) then s.arrivalTrunc m i
  else if !i.tagOk || s.holdsSame m i then s.arrivalFail m i
  else if s.intake.isPast i then s
  else if directAnswer i then s.answerArrives m i
  else if 8192 ≤ x.staged.length then
    let s := (s.incF (.mast m) fItArrivalStagefull 1).itErr i.source i.seq (2 ^ m.code) 7
    s.raiseM m evIntakeStageFull m.code (s.getF (.mast m) fItArrivalStagefull)
  else if pooledSource i.source then
    match s.takeBuffer m i with
    | (some b, s) => s.stage m i (some b)
    | (none, s) => s
  else s.stage m i none

/-- Has the jury mast come at least to a step of its ROM and a phase of its join? -/
def State.juryAt (s : State) (rom phase : Nat) : Bool :=
  match s.lane.join with
  | some j => j.ended.isNone && decide (rom ≤ j.rom ∧ phase ≤ j.phase)
  | none => false

/-- Does a mast receive items: it runs, and votes or joins from step 4 of R119 (R141)? (DEDUCED, log entry 33) -/
def State.intakes (s : State) (m : Mast) : Bool := s.triadRuns m && (s.votes m || (m == .j && s.juryAt 2 3))

/-- Does a mast propose: a voting one, the jury mast from phase 5 (R141)? -/
def State.proposes (s : State) (m : Mast) : Bool := s.triadRuns m && (s.votes m || (m == .j && s.juryAt 4 5))

/-- ITEM_ARRIVAL (R135). -/
def execItemArrival (t : Nat) (m : Mast) (i : Item) (s : State) : Result :=
  let s := s.advance t
  if s.intakes m && !s.inMode [.boot, .recovery, .standby, .safe] then ok (s.arrive m i) else ok s

/-! ## Proposals (R136) -/

/-- The SENDER byte of a mast (R103). -/
def State.senderByte (s : State) (m : Mast) : Nat :=
  m.code + 16 * (match s.lane.posOf m with | some p => p.code | none => 3)

/-- The bytes of a proposal message (R136). -/
def proposalBytes (sender ai pseq : Nat) (close : Bool) (tags : List Nat) : List Byte :=
  let body := natLe 1 0x49 ++ natLe 1 sender ++ natLe 2 tags.length ++ natLe 4 ai ++ natLe 2 pseq ++ natLe 1 (b2n close)
    ++ natLe 5 0 ++ tags.flatMap (natLe 8)
  body ++ natLe 4 (crc32c body).toNat

/-- Mark the first `n` unproposed items of a staging list as proposed. -/
def markProposed : Nat → List Staged → List Staged
  | 0, l => l
  | _, [] => []
  | n + 1, x :: rest => if x.proposed then x :: markProposed (n + 1) rest else { x with proposed := true } :: markProposed n rest

/-- PROPOSAL_SEND (R136): up to 120 tags gathered since the last message; with CLOSE at an action instant, for that instant. -/
def execProposalSend (t : Nat) (m : Mast) (close : Bool) (s : State) : Result :=
  let s := s.advance t
  if !s.proposes m then ok s
  else
    let x := s.intake.masts.get m
    let new := (x.staged.filter fun e => !e.proposed).take 120
    let full := decide (120 ≤ new.length)
    if !close && !full && decide (s.now < x.lastProposal + 10 * us) then ok s
    else
      let ai := if close then s.time.aiNumber else s.time.aiNumber + 1
      let bytes := proposalBytes (s.senderByte m) (ai % 2 ^ 32) x.pseqOut close (new.map fun e => e.item.tag)
      ok (s.setIntake m { x with
        staged := markProposed 120 x.staged
        pseqOut := (x.pseqOut + 1) % 65536
        lastProposal := s.now
        sent := ((x.pseqOut, bytes) :: x.sent).take 128 })

/-- The tags of a proposal message. -/
def proposalTags (bs : List Byte) : List Nat := (List.range (fieldAt bs 2 2)).map fun k => fieldAt bs (0x10 + 8 * k) 8

/-- Is a proposal message well formed and from a peer (R136)? -/
def proposalOk (obs : Mast) (bs : List Byte) : Bool :=
  let n := fieldAt bs 2 2
  fieldAt bs 0 1 == 0x49 && decide (n ≤ 120) && bs.length == 0x14 + 8 * n &&
  fieldAt bs (0x10 + 8 * n) 4 == (crc32c (bs.take (0x10 + 8 * n))).toNat && Mast.ofCode (fieldAt bs 1 1) != obs

/-- The proposal numbers missing between the expected one and one received ahead. -/
def missingBetween (expected got : Nat) : List Nat :=
  (List.range (usedOf got expected)).map fun k => (expected + k) % 65536

/-- PROPOSAL_RECEIVED (R136): the tags are noted; a gap in PSEQ makes the receiver ask for the missing messages. -/
def execProposalReceived (t : Nat) (obs : Mast) (bytes : List Byte) (s : State) : Result :=
  let s := s.advance t
  if !s.triadRuns obs || !proposalOk obs bytes then ok s
  else
    let snd := Mast.ofCode (fieldAt bytes 1 1)
    let x := s.intake.masts.get obs
    let p := fieldAt bytes 8 2
    let exp := x.pseqIn.get snd
    let late := x.missingMsg.contains (snd, p)
    let ahead := usedOf p exp
    if !late && decide (32768 ≤ ahead) then ok s
    else
      let x := { x with heard := x.heard.set snd (x.heard.get snd ++ (proposalTags bytes).map fun g => (g, fieldAt bytes 4 4)) }
      let x := if bitOf (fieldAt bytes 10 1) 0 then { x with closed := x.closed.set snd (some (fieldAt bytes 4 4)) } else x
      if late then ok (s.setIntake obs { x with missingMsg := x.missingMsg.filter (· != (snd, p)) })
      else
        ok (s.setIntake obs { x with
          pseqIn := x.pseqIn.set snd ((p + 1) % 65536)
          missingMsg := x.missingMsg ++ (missingBetween exp p).map fun q => (snd, q) })

/-- PROPOSAL_REREQUEST (R136): a peer asks for a message again, and gets it as it was. -/
def execProposalRerequest (t : Nat) (m : Mast) (pseq : Nat) (s : State) : Result :=
  let s := s.advance t
  let x := s.intake.masts.get m
  match s.proposes m, x.sent.find? (fun e => e.1 == pseq) with
  | true, some e => ok (s.setIntake m { x with sent := (e :: x.sent.filter (· != e)).take 128 })
  | _, _ => ok s

/-! ## Agreement (R137, R138, R141) -/

/-- Where a mast holds a tag. -/
def IntakeMast.holds (x : IntakeMast) (tag : Nat) : Bool := x.staged.any fun e => e.item.tag == tag

/-- The voting masts that hold a tag, in lane-position order. (DEDUCED, log entry 33) -/
def State.holders (s : State) (tag : Nat) : List Mast := s.lane.inOrder.filter fun m => (s.intake.masts.get m).holds tag

/-- The staged items of the voting masts, each tag once. -/
def State.candidates (s : State) : List Staged :=
  (s.voters.flatMap fun m => (s.intake.masts.get m).staged).foldl
    (fun l e => if l.any fun x => x.item.tag == e.item.tag then l else l ++ [e]) []

/-- How R137 decides one candidate tag; `rival` is a copy that differs from an agreed one: its mast is filled (R138). -/
inductive Verdict where
  | agreed | rival | differing | heldOver | single
  deriving DecidableEq, Repr

/-- Is the tag held over already on the mast that holds it? -/
def State.overBefore (s : State) (tag : Nat) : Bool :=
  s.voters.any fun m => (s.intake.masts.get m).staged.any fun e => e.item.tag == tag && e.heldOver != 0

/-- The first matching row of R137 for a candidate; two items of one source and sequence are never both released. (DEDUCED, log entry 33) -/
def State.verdict (s : State) (all : List Staged) (i : Item) : Verdict :=
  let same := all.filter fun x => x.item.source == i.source && x.item.seq == i.seq
  if s.intake.isPast i then .rival
  else if 2 ≤ (s.holders i.tag).length then .agreed
  else if same.any fun x => decide (2 ≤ (s.holders x.item.tag).length) then .rival
  else if 2 ≤ same.length then .differing
  else if s.overBefore i.tag then .single else .heldOver

/-- Remove a tag from the staging stores of some masts, freeing its buffers. -/
def State.unstageOn (s : State) (who : List Mast) (tag : Nat) : State :=
  who.foldl (fun s m =>
    match (s.intake.masts.get m).staged.find? (fun e => e.item.tag == tag) with
    | none => s
    | some e =>
      let x := s.intake.masts.get m
      (s.setIntake m { x with staged := x.staged.filter (· != e) }).freeHeld m e.buffer) s

/-- Remove a tag from every mast's staging store. -/
def State.unstage (s : State) (tag : Nat) : State := s.unstageOn Mast.all tag

/-- Hold a tag over to the next action instant on the masts that have proposed it. -/
def State.holdOver (s : State) (who : List Mast) (tag : Nat) : State :=
  { s with intake := { s.intake with masts := s.intake.masts.map fun m x =>
    { x with staged := x.staged.map fun e =>
      if e.item.tag = tag && who.contains m then { e with heldOver := e.heldOver + 1 } else e } } }

/-- No later copy of an item is a candidate (R137). -/
def State.markPast (s : State) (i : Item) : State :=
  { s with intake := { s.intake with past := (i.source, i.seq, s.time.aiNumber) :: s.intake.past } }

/-- The mask of a list of masts. -/
def maskOf (l : List Mast) : Nat := (l.map fun m => 2 ^ m.code).foldl (· + ·) 0

/-- Carry out the verdict on one candidate; `src` are the masts that have proposed it. `IT_DISCARD.NOAGREE` counts every differing
tag. (DESIGN CHOICE, log entry 130) -/
def State.applyVerdict (s : State) (v : Verdict) (src : List Mast) (i : Item) : State :=
  match v with
  | .agreed => s.markPast i
  | .heldOver => s.holdOver src i.tag
  | .rival => s.unstage i.tag
  | .single =>
    let s := (s.incF .agreed fItDiscardSingle 1).itErr i.source i.seq (maskOf src) 1
    (s.raiseLimited s.lane.active.mask i.source evIntakeSingle i.source i.seq).unstageOn src i.tag
  | .differing =>
    let s := (s.incF .agreed fItDiscardNoagree 1).itErr i.source i.seq (maskOf src) 2
    ((s.raiseLimited s.lane.active.mask i.source evIntakeNoagree i.source i.seq).unstage i.tag).markPast i

/-- What a voting mast has to fill for an agreed item it lacks (R138). -/
def State.needOf (s : State) (m : Mast) (i : Item) : List FillNeed :=
  if (s.intake.masts.get m).holds i.tag then []
  else [⟨i.source, i.seq, i.crc, 24 + i.len, s.holders i.tag, false⟩]

/-- Was a proposal made for an action instant before the last one? -/
def proposedLongAgo (ai now : Nat) : Bool :=
  let age := (now % 2 ^ 32 + 2 ^ 32 - ai) % 2 ^ 32
  decide (2 ≤ age ∧ age < 2 ^ 31)

/-- Note the fills every voting mast needs for the agreed items (R138), and the jury mast until it enters, outside the limit
(R141). -/
def State.noteFills (s : State) : State :=
  (s.voters ++ if s.votes .j || !s.intakes .j then [] else [Mast.j]).foldl (fun s m =>
    let needs := s.intake.agreed.flatMap (s.needOf m)
    let bytes := if s.votes m then (needs.map FillNeed.bytes).foldl (· + ·) 0 else 0
    let x := s.intake.masts.get m
    let heard := x.heard.map fun _ (l : List (Nat × Nat)) => l.filter fun e => !proposedLongAgo e.2 s.time.aiNumber
    ((s.setIntake m { x with fills := needs, fillBytes := bytes, heard := heard }).maxF
      (.mast m) fItFillMaxbytes bytes).putF (.mast m) fItRelstatPending 1) s

/-- The agreement of an action instant (R137, R141): every candidate decided in the order of R140, fills noted, the release
pending. The jury mast's proposals are not counted. -/
def State.intakeDecide (s : State) : State :=
  let all := s.candidates
  let verdicts := (orderItems (all.map Staged.item)).map fun i => (s.verdict all i, s.holders i.tag, i)
  let agreed := (verdicts.filter fun v => v.1 == .agreed).map fun v => v.2.2
  let held := (verdicts.filter fun v => v.1 == .heldOver).length
  let recent := s.intake.past.filter fun e => decide (s.time.aiNumber ≤ e.2.2 + 2)
  let s : State := { s with intake := { s.intake with past := recent } }
  let s := verdicts.foldl (fun s v => s.applyVerdict v.1 v.2.1 v.2.2) s
  let s := { s with intake := { s.intake with
    agreed := agreed, instant := some (s.time.aiNumber, s.now), releasePending := true, fan := [] } }
  (s.putF .agreed fItHeldHeld (min 65535 held)).noteFills

/-- What becomes of an agreed item that a mast has proposed too late: the other proposers' rows of R137. -/
def State.lateVerdict (s : State) (all : List Staged) (i : Item) (src : List Mast) : Verdict :=
  let same := all.filter fun x => x.item.source == i.source && x.item.seq == i.seq
  if 2 ≤ same.length then .differing
  else if src.any fun m => (s.intake.masts.get m).staged.any fun e => e.item.tag == i.tag && e.heldOver != 0 then .single
  else .heldOver

/-- An agreed item is decided again without a mast that has not proposed it in time (R136): its own copy stays for the next
action instant. -/
def State.withoutPeer (s : State) (all : List Staged) (peer : Mast) (i : Item) : State :=
  let src := (s.holders i.tag).filter fun m => m != peer
  let v := s.lateVerdict all i src
  let past := s.intake.past.filter fun e => !(e.1 == i.source && e.2.1 == i.seq)
  let s : State := { s with intake := { s.intake with past := past } }
  let s := s.applyVerdict v src i
  if v = .heldOver then s.incF .agreed fItHeldHeld 1 else s

/-- CLOSE_TIMEOUT (R136, R137): a peer's CLOSE for the action instant has not come within 4 µs after it: what the observer has not
heard it propose counts as not proposed by it, and what no longer has two proposals is decided without it. -/
def execCloseTimeout (t : Nat) (obs peer : Mast) (s : State) : Result :=
  let s := s.advance t
  match s.intake.instant with
  | none => ok s
  | some (k, at') =>
    let x := s.intake.masts.get obs
    if !s.triadRuns obs || obs == peer || !s.intake.releasePending || x.closed.get peer == some (k % 2 ^ 32)
        || decide (s.now < at' + 4 * us) then
      ok s
    else
      let s := s.incF (.mast obs) fItPeerLate 1
      let s := s.raiseM obs evProposalLate peer.code (k % 2 ^ 32)
      let s := s.setIntake obs { x with closed := x.closed.set peer (some (k % 2 ^ 32)) }
      let early := fun (i : Item) => (x.heard.get peer).any fun e => e.1 == i.tag
      let lost := s.intake.agreed.filter fun i =>
        decide ((s.holders i.tag).contains peer) && !early i && decide ((s.holders i.tag).length ≤ 2)
      let all := s.candidates
      let s := lost.foldl (fun s i => s.withoutPeer all peer i) s
      ok { s with intake := { s.intake with
        agreed := s.intake.agreed.filter fun i => !lost.contains i
        masts := s.intake.masts.map fun _ y => { y with
          fills := y.fills.filter fun f => !lost.any fun i => i.source == f.source && i.seq == f.seq } } }

/-! ## Fills (R138, R139) -/

/-- FILL_REQUEST (R138): a holder is asked for an agreed item, and sends its header and value. -/
def execFillRequest (t : Nat) (holder peer : Mast) (source seq : Nat) (s : State) : Result :=
  let s := s.advance t
  let x := s.intake.masts.get holder
  match s.triadRuns holder, x.staged.find? (fun e => e.item.source == source && e.item.seq == seq) with
  | true, some e => ok (s.setIntake holder { x with fillOut := some (peer, e.item) })
  | _, _ => ok s

/-- A need is met, or its next holder is asked. -/
def FillNeed.next (f : FillNeed) (good : Bool) : FillNeed :=
  if good then { f with done := true } else { f with holders := f.holders.tail }

/-- FILL_RECEIVED (R138, R336): the copy of an agreed item a mast lacks arrives; a copy that fails its tag check is taken
from the other holder, and one that finds no buffer is not taken. -/
def execFillReceived (t : Nat) (m : Mast) (i : Item) (s : State) : Result :=
  let s := s.advance t
  let x := s.intake.masts.get m
  match x.fills.find? (fun f => f.source == i.source && f.seq == i.seq && !f.done && f.holders != []) with
  | none => ok s
  | some f =>
    let i := { i with filled := true }
    let put := fun (s : State) (g : FillNeed) (st : List Staged) =>
      let x := s.intake.masts.get m
      s.setIntake m { x with fills := x.fills.map fun h => if h = f then g else h, staged := x.staged ++ st }
    if !s.triadRuns m then ok s
    else if !(i.tagOk && i.crc == f.crc) then ok (put s (f.next false) [])
    else
      match s.takeBuffer m i with
      | (none, s) => ok (put s { f with holders := [] } [])
      | (some b, s) =>
        ok ((put s (f.next true) [⟨i, 0, s.now, true, some b⟩]).incF (.mast m) fItFillItems 1)

/-- Can a mast not be filled: above 8 KiB, or a need not met (R139)? -/
def IntakeMast.fillFailed (x : IntakeMast) : Bool := decide (8192 < x.fillBytes) || x.fills.any fun f => !f.done

/-- FILL_DEADLINE (R139): 40 µs after the action instant. -/
def execFillDeadline (t : Nat) (m : Mast) (s : State) : Result :=
  let s := s.advance t
  match s.intake.instant with
  | none => ok s
  | some (_, at') =>
    let x := s.intake.masts.get m
    if s.triadRuns m && s.votes m && s.intake.releasePending && x.fillFailed &&
        (decide (at' + 40 * us ≤ s.now) || decide (8192 < x.fillBytes)) then
      let s := (s.raiseM m evIntakeFillFail m.code x.fillBytes).itErr
        (match x.fills with | f :: _ => f.source | [] => 0) (match x.fills with | f :: _ => f.seq | [] => 0) (2 ^ m.code) 8
      ok (s.requestSilent m evIntakeFillFail)
    else ok s

/-! ## Exit failures (R148) -/

/-- At an action instant the failures the masts have reported are compared (R148): a mast that alone failed an item goes
fail-silent; an item failed by two or more is discarded everywhere, in the queues and in the image in force. -/
def State.exitAtInstant (s : State) : State :=
  let keys := s.intake.exitFails.foldl (fun (l : List (Nat × Nat)) e => if l.contains e.2 then l else l ++ [e.2]) []
  let s' := keys.foldl (fun (st : State) (k : Nat × Nat) =>
    let who := (s.intake.exitFails.filter fun e => e.2 == k).map Prod.fst
    match who with
    | [m] => ((st.incF .agreed fItExitSingle 1).itErr k.1 k.2 (2 ^ m.code) 5).requestSilent m evTagExitFail
    | _ =>
      let st := ((st.incF .agreed fItExitAgreed 1).itErr k.1 k.2 (maskOf who) 6).raise evTagExitAgreed k.1 k.2
      let drop := fun (u : TxUnit) =>
        { u with queue := u.queue.filter fun f => !(f.frame.item.source == k.1 && f.frame.item.seq == k.2) }
      { st with lane := { st.lane with
        units := st.lane.units.map drop
        inForce := st.lane.inForce.filter fun i => !(i.source == k.1 && i.seq == k.2) } }) s
  { s' with intake := { s'.intake with exitFails := [] } }

end Sys2Proof.Machine
end

