-- ==== Sys2Proof/Machine/FieldEngine.lean ====
section
/-!
DEFINITION. The field engine: commands, output networks, protection, tests, inputs, pairs and supplies (R224 to R249, R451).
-/
namespace Sys2Proof.Machine

/-! ## Commands of a mast (R228, R234) -/

/-- The command an output item carries, if the item is well formed (R228). -/
def outputValue (i : Item) : Option Bool :=
  if i.value.length = 4 ∧ fieldAt i.value 0 4 ≤ 1 then some (fieldAt i.value 0 4 == 1) else none

/-- The commands an output image gives, as a mask (R228, priority 5). -/
def imageMask (items : List Item) : Nat :=
  (List.range 24).foldl (fun a o =>
    match items.find? (fun i => i.source == 0x8001 + o) with
    | some i => if outputValue i = some true then a + 2 ^ o else a
    | none => a) 0

/-- Replace the bits of a 24-bit mask that `sel` selects by those of `val`. -/
def maskedTake (sel val cur : Nat) : Nat :=
  ((BitVec.ofNat 24 sel &&& BitVec.ofNat 24 val) ||| (~~~BitVec.ofNat 24 sel &&& BitVec.ofNat 24 cur)).toNat

/-- The fired queued changes of a mast over a base of commands; the one fired latest stands first (R234). -/
def State.withFired (s : State) (m : Mast) (base : Nat) : Nat :=
  (s.field.masts.get m).fired.reverse.foldl (fun cur n =>
    maskedTake (s.getF (.mast m) (fFiQmaskBits.plus (0x10 * n))) (s.getF (.mast m) (fFiQvalBits.plus (0x10 * n))) cur) base

/-- The commands priorities 2 to 5 of R228 give a mast, over the commands `base` of the image in force. -/
def State.demandOn (s : State) (m : Mast) (base : Nat) : Nat :=
  match s.ctl.mode with
  | .run | .hold => s.withFired m base
  | .service => maskedTake (s.getF .agreed fFiSvcEnEn) (s.getF .agreed fFiSvcValVal) 0
  | _ => 0

/-- The mast's *demand* (R260) with the image `items` in force. -/
def State.demandOf (s : State) (m : Mast) (items : List Item) : Nat := s.demandOn m (imageMask items)

/-- A mast's demand now. -/
def State.demand (s : State) (m : Mast) : Nat := s.demandOf m s.lane.inForce

/-- A comparator fires the queued change `arg` of a mast (R234). (DEDUCED, log entry 115) -/
def State.queuedFire (s : State) (m : Mast) (arg cmp : Nat) : State :=
  let c := Copy.mast m
  if 15 < arg ∨ s.getF c (fFiQctlArmed.plus (0x10 * arg)) = 0 then s.raiseM m evFiQchgNone arg cmp
  else
    let x := s.field.masts.get m
    let s := { s with field := { s.field with
      masts := s.field.masts.set m { x with fired := arg :: x.fired.filter (· != arg) } } }
    let s := (s.putF c (fFiQctlArmed.plus (0x10 * arg)) 0).putF c (fFiQctlFired.plus (0x10 * arg)) 1
    s.raiseM m evFiQchgFired arg cmp

/-- Queued changes of a mast are cleared. (DEDUCED, log entry 115) -/
def State.queuedDrop (s : State) (m : Mast) (l : List Nat) : State :=
  let x := s.field.masts.get m
  let s := { s with field := { s.field with
    masts := s.field.masts.set m { x with fired := x.fired.filter fun n => !l.contains n, clearing := [] } } }
  l.foldl (fun s n => s.putF (.mast m) (fFiQctlFired.plus (0x10 * n)) 0) s

/-- Leaving RUN or HOLD clears every queued change (R234). -/
def State.queuedClearAll (s : State) : State :=
  Mast.all.foldl (fun s m => s.queuedDrop m (s.field.masts.get m).fired) s

/-- QUEUED_CHANGE_CLEAR (R234): CLEAR written; the change goes at the next action instant. (DEDUCED, log entry 115) -/
def execQueuedChangeClear (t : Nat) (m : Mast) (n : Nat) (s : State) : Result :=
  let s := s.advance t
  if s.triadRuns m && n < 16 then
    let x := s.field.masts.get m
    ok { s with field := { s.field with masts := s.field.masts.set m { x with clearing := x.clearing ++ [n] } } }
  else ok s

/-! ## The FIELD section (R248) -/

/-- Read the body of the FIELD section (R248). -/
def parseField (b : List Byte) : FieldConfig :=
  { timeout := fieldAt b 2 2, testRound := fieldAt b 4 2, fsupUsed := fieldAt b 8 1,
    filters := (List.range 48).map fun i => fieldAt b (0x10 + 4 * i) 1,
    pairs := (List.range 24).map fun p =>
      let o := 0xD0 + 8 * p
      ⟨fieldAt b o 1, fieldAt b (o + 1) 1, fieldAt b (o + 2) 1, fieldAt b (o + 4) 2⟩,
    outputs := (List.range 24).map fun o => (fieldAt b (0x190 + 4 * o) 1, bitOf (fieldAt b (0x191 + 4 * o) 1) 0) }

/-- The silence timeout in nanoseconds, 5 ms by default (R240). -/
def State.silenceTimeout (s : State) : Nat := s.getF .agreed fFiCfgTimeout * 100000

/-! ## Time and items (R224, R225) -/

/-- The field engine's time (R224): from its last forming on, with its own clock's deviation of at most ±100 ppm once a
frame period has passed without frames. (DESIGN CHOICE, log entry 28) -/
def State.engineTime (s : State) : Nat :=
  let d := s.now - s.field.timeAt
  if d ≤ 50 * us then s.field.time + d
  else s.field.time + d + d * ((Config.freeValue s.free).toNat % 201) / 1000000 - d * 100 / 1000000

/-- Mean of two, rounded down, median of three, the only one (R224). (DESIGN CHOICE, log entry 28) -/
def combineTimes : List Nat → Option Nat
  | [x, y, z] => some (median3 x y z)
  | [x, y] => some ((x + y) / 2)
  | [x] => some x
  | _ => none

/-- The field engine forms its time again from the connected links' frames of this period (R224). (DESIGN CHOICE, log entry 28) -/
def State.formEngineTime (s : State) : State :=
  let f := s.field
  let times := [f.posA, f.posB, f.posC].flatMap fun p =>
    match p.link with
    | some m =>
      let l := f.links.get m
      if l.valid && decide (s.now < l.at' + 50 * us) then [l.time + (s.now - l.at')] else []
    | none => []
  match combineTimes times with
  | some v => { s with field := { f with time := v, timeAt := s.now } }
  | none => s

/-- The field engine forms an item, or marks that its queue was full (R225). -/
def State.fieldItem (s : State) (source time : Nat) (value : List Byte) : State :=
  let f := s.field
  if 512 ≤ f.queue.length then { s with field := { f with queueFull := true, notFormed := f.notFormed + 1 } }
  else
    let seq := match f.seqs.find? (fun e => e.1 == source) with | some e => e.2 | none => 0
    { s with field := { f with
      queue := f.queue ++ [Item.form source seq time value]
      seqs := (source, (seq + 1) % 65536) :: f.seqs.filter fun e => e.1 != source } }

/-! ## Outputs (R226, R230 to R233, R246) -/

/-- One output. -/
def State.out (s : State) (o : Nat) : FieldOut := (s.field.outs[o - 1]?).getD {}

/-- Replace one output (1 to 24). -/
def State.setOut (s : State) (o : Nat) (x : FieldOut) : State :=
  { s with field := { s.field with outs := s.field.outs.set (o - 1) x } }

/-- Silence state of an output: 0 OFF, 1 ON, 2 HOLD (R240). -/
def State.silenceOf (s : State) (o : Nat) : Nat :=
  match s.field.adopted with
  | some c => match c.outputs[o - 1]? with | some x => x.1 | none => 0
  | none => 0

/-- A position's effective command of output `o`: its command, or its silence state (R226, R240); none without power (R220). -/
def State.commands (s : State) (p : LanePos) (o : Nat) : Bool :=
  let x := s.field.pos p
  if !s.field.powered then false
  else if x.silence then (if s.silenceOf o = 0 then false else if s.silenceOf o = 1 then true else bitOf x.cmd (o - 1))
  else bitOf x.cmd (o - 1)

/-- The voted command of an output (R233). -/
def State.votedOn (s : State) (o : Nat) : Bool :=
  decide (2 ≤ ([LanePos.a, .b, .c].filter fun p => s.commands p o).length)

/-- Upper and lower position of a branch (R226). -/
def branchOf : Nat → LanePos × LanePos
  | 0 => (.a, .b)
  | 1 => (.b, .c)
  | _ => (.c, .a)

/-- The switches of a branch that a test step closes, upper and lower (R237); none in a dark pulse (R238). -/
def TestStep.closed : TestStep → Bool × Bool
  | .n1 => (false, true) | .n2 => (false, false) | .n3 => (true, false)
  | .o1 => (false, false) | .o2 => (true, false) | .o3 => (false, true)
  | .dark => (false, false)

/-- The commands the positions A, B and C act on for an output: while a demand to energise waits in DUPLEX, those before it (R239). -/
def State.acted (s : State) (o : Nat) : List Bool :=
  let now := [LanePos.a, .b, .c].map fun p => s.commands p o
  match s.field.test with
  | some x => if x.out = o ∧ x.energise ∧ s.field.regime = 1 then x.held else now
  | none => now

/-- The positions of the upper and the lower switch of branch `j` of an output, closed or open (R220, R226): all open without power
and in a thermal trip or lock (R232); as a test sets them; else as their positions command. -/
def State.switches (s : State) (o j : Nat) : Bool × Bool :=
  let x := s.out o
  let at' := fun (p : LanePos) => (s.acted o)[p.code]?.getD false
  if !s.field.powered || x.tripped.isSome || x.locked then (false, false)
  else
    match s.field.test with
    | some y => if y.out = o ∧ y.branch = j then y.step.closed else (at' (branchOf j).1, at' (branchOf j).2)
    | none => (at' (branchOf j).1, at' (branchOf j).2)

/-- Is the output's group supply there (R247)? -/
def State.groupFed (s : State) (o : Nat) : Bool := s.field.supplies[(o - 1) / 8 + 1]? != some 2

/-- Is the output energised: fed, with a branch whose switches are both closed (R226, R247)? -/
def State.energised (s : State) (o : Nat) : Bool :=
  s.groupFed o && (List.range 3).any fun j => (s.switches o j).1 && (s.switches o j).2

/-- Is the output's group supply normal (R235, R247)? Outputs 1 to 8 are FSUP1, and so on. -/
def State.groupOk (s : State) (o : Nat) : Bool := s.field.supplies[(o - 1) / 8 + 1]? == some 0

/-- The value of a read-back item (R246). -/
def outputItemValue (x : FieldOut) : List Byte :=
  let state := b2n x.voted + 2 * b2n x.clim + 4 * b2n x.tripped.isSome + 8 * b2n x.locked + 16 * b2n x.openLoad
    + 32 * b2n x.extFeed
  natLe 1 (b2n x.rb) ++ natLe 1 (x.mid % 8 + 8 * (x.branches % 8)) ++ natLe 1 state ++ natLe 1 x.swFault
    ++ natLe 1 (x.testBranch % 4 + 4 * (x.testResult % 4) + 16 * b2n x.testDark) ++ natLe 1 x.retries ++ natLe 2 0

/-- Form the read-back item of an output (R246). -/
def State.outItem (s : State) (o : Nat) : State := s.fieldItem (0x0160 + o) s.engineTime (outputItemValue (s.out o))

/-- A test ends discarded (R239, R451). -/
def State.discardTest (s : State) (reason : Nat) : State :=
  match s.field.test with
  | none => s
  | some x =>
    let o := s.out x.out
    let s := { s with field := { s.field with test := none } }
    let s := s.setOut x.out { o with testBranch := x.branch, testResult := 3, testDark := x.step == .dark }
    let s := s.incF .agreed fFiTestDiscarded 1
    (s.raiseLimited s.lane.active.mask x.out evFiTestDiscarded x.out reason).outItem x.out

/-- What the change of an output's voted command brings (R232, R239, R246); `before` are the positions' commands before it. -/
def State.votedChange (s : State) (o : Nat) (on : Bool) (before : List Bool) : State :=
  let x := s.out o
  let x := { x with voted := on }
  let x := if on then (if x.locked && x.wasOff then { x with locked := false, wasOff := false, retries := 0 } else x)
           else { x with retries := 0, wasOff := x.locked }
  let s := s.setOut o x
  let s := match s.field.test with
    | some y =>
      if y.out ≠ o then s
      else if !on then s.discardTest 1
      else { s with field := { s.field with test := some { y with energise := true, held := before } } }
    | none => s
  s.outItem o

/-- Form every voted command again after a change of commands (R233). `before` are the commands before the change. -/
def State.revote (s : State) (before : Nat → List Bool) : State :=
  (List.range 24).foldl (fun s k =>
    let o := k + 1
    let now := [LanePos.a, .b, .c].map fun p => s.commands p o
    let s := if now = before o then s else s.setOut o { s.out o with changed := s.now }
    let on := s.votedOn o
    if on = (s.out o).voted then s else s.votedChange o on (before o)) s

/-- The positions' commands of every output. -/
def State.allCommands (s : State) (o : Nat) : List Bool := [LanePos.a, .b, .c].map fun p => s.commands p o

/-- A position takes commands; none while no configuration is adopted (R223, R229). A link connected anew is used from then on
(R227). -/
def State.posTake (s : State) (p : LanePos) (cmd : Nat) : State :=
  let before := s.allCommands
  let cmd := if s.field.adopted.isSome then cmd % 2 ^ 24 else 0
  let x := s.field.pos p
  let x := if x.fresh then { x with fresh := false, silence := false, lostAt := none } else x
  ({ s with field := s.field.setPos p { x with cmd := cmd } }).revote before

/-- The position a mast's link is connected to. -/
def FieldPart.posOfLink (f : FieldPart) (m : Mast) : Option LanePos :=
  if f.posA.link = some m then some .a else if f.posB.link = some m then some .b
  else if f.posC.link = some m then some .c else none

/-- At an action instant every connected position takes the ON_AI of its last valid frame, if that arrived after the
previous action instant (R229). (DEDUCED, log entry 99) -/
def State.fieldAtInstant (s : State) (previous : Nat) : State :=
  let s := [LanePos.a, .b, .c].foldl (fun (s : State) p =>
    match (s.field.pos p).link with
    | some m =>
      let l := s.field.links.get m
      let x := s.field.pos p
      if l.valid && !l.expired && !x.silence && !x.fresh && decide (previous < l.at') then s.posTake p l.onAi else s
    | none => s) s
  Mast.all.foldl (fun s m => s.queuedDrop m (s.field.masts.get m).clearing) s

/-! ## Crossbar, links and silence (R227, R240) -/

/-- Show the crossbar and the links. -/
def State.showField (s : State) : State :=
  let f := s.field
  let num := fun (p : FieldPos) (d : Nat) => match p.link with | some m => m.code | none => d
  let c := Copy.agreed
  let s := s.putF c fFiXbarPosA (num f.posA (s.getF c fFiXbarPosA))
  let s := s.putF c fFiXbarPosB (num f.posB (s.getF c fFiXbarPosB))
  let s := s.putF c fFiXbarPosC (num f.posC (s.getF c fFiXbarPosC))
  let s := s.putF c fFiXbarNolink (b2n f.posA.link.isNone + 2 * b2n f.posB.link.isNone + 4 * b2n f.posC.link.isNone)
  let bits := fun (g : FieldLink → Bool) => maskOf (Mast.all.filter fun m => g (f.links.get m))
  let s := (s.putF c fFiStatValid (bits FieldLink.valid)).putF c fFiStatSilent (bits FieldLink.expired)
  (s.putF c fFiStatRegime f.regime).putF c fFiStatConfigured (b2n f.adopted.isSome)

/-- The crossbar connects a link to a position, or none (R227): the link is used from its first valid command frame on, and until
then the position's silence counts or holds. (DEDUCED, log entry 99) -/
def State.crossbar (s : State) (p : LanePos) (link : Option Mast) : State :=
  let x := s.field.pos p
  let x := match link with
    | some _ => { x with link := link, fresh := true }
    | none => { x with link := none, fresh := false, lostAt := some (x.lostAt.getD s.now) }
  let before := s.allCommands
  let s := { s with field := s.field.setPos p x }
  let s := match link with
    | some m =>
      let l := s.field.links.get m
      let l := { l with expired := false, silent := none }
      { s with field := { s.field with links := s.field.links.set m l } }
    | none => s
  ((s.revote before).raise evFiXbar p.code (match link with | some m => m.code | none => 0xFF)).showField

/-- The test regime follows the lane state (R238); a test under way when it changes is discarded (R451). -/
def State.fieldRegime (s : State) : State :=
  let r := if s.field.adopted.isNone ∨ s.ctl.mode = .safe then 2
    else match s.lane.lane with | .triplex => 0 | .duplex => 1 | .joining => 2
  if r = s.field.regime then s
  else ({ s with field := { s.field with regime := r } }).discardTest 3 |>.showField

/-- A link falls silent (R240). (DEDUCED, log entry 100) -/
def State.linkSilent (s : State) (m : Mast) : State :=
  let l := s.field.links.get m
  let l := { l with valid := false, silent := some (l.silent.getD s.now) }
  let s := { s with field := { s.field with links := s.field.links.set m l } }
  let s := match s.field.posOfLink m with
    | some p =>
      let x := s.field.pos p
      { s with field := s.field.setPos p { x with lostAt := some (x.lostAt.getD s.now) } }
    | none => s
  s.showField

/-- A frame of a link is rejected (R240, `FI_LINK.ENGERR`). -/
def State.linkReject (s : State) (m : Mast) : State :=
  ((s.incF (.mast m) fFiLinkEngerr 1).noteSummary 0 evFiLinkErr m.code).linkSilent m

/-- LINK_SILENCE_DETECT (R240): idle symbols lost, a frame rejected or an expected frame missing. -/
def execLinkSilenceDetect (t : Nat) (m : Mast) (rejected : Bool) (s : State) : Result :=
  let s := s.advance t
  if !s.field.powered then ok s
  else if rejected then ok (s.linkReject m) else ok (s.linkSilent m)

/-- Positions whose source has been missing for the silence timeout take their silence states (R240). -/
def State.positionTimeouts (s : State) : State :=
  [LanePos.a, .b, .c].foldl (fun s p =>
    let x := s.field.pos p
    match x.lostAt with
    | some a =>
      if a + s.silenceTimeout ≤ s.now ∧ !x.silence then
        let before := s.allCommands
        ({ s with field := s.field.setPos p { x with silence := true } }).revote before
      else s
    | none => s) s

/-- LINK_SILENCE_TIMEOUT (R240): the timeout of a silent link, or of a position that lost its link, expires. -/
def execLinkSilenceTimeout (t : Nat) (m : Mast) (s : State) : Result :=
  let s := s.advance t
  if !s.field.powered then ok s
  else
    let l := s.field.links.get m
    let due := match l.silent with | some a => decide (a + s.silenceTimeout ≤ s.now) && !l.expired | none => false
    let s := if due then
        let s := { s with field := { s.field with links := s.field.links.set m { l with expired := true } } }
        let pos := match s.field.posOfLink m with | some p => p.code | none => 3
        s.raiseBy (maskOf (s.voters.filter (· != m))) evFiLinkSilent m.code pos
      else s
    ok (s.positionTimeouts.showField)

/-! ## Protection and read-back (R230 to R236) -/

/-- CURRENT_LIMIT_EXPIRY (R230): the output has been in current limit for 10 ms. -/
def execCurrentLimitExpiry (t : Nat) (o millis : Nat) (s : State) : Result :=
  let s := s.advance t
  if o = 0 ∨ 24 < o ∨ !s.field.powered ∨ millis < 10 ∨ (s.out o).clim then ok s
  else
    let s := s.setOut o { s.out o with clim := true }
    ok ((s.raiseLimited s.lane.active.mask o evFiCurrentLimit o (min 0xFFFFFFFF millis)).outItem o)

/-- THERMAL_TRIP (R232): every switch of the output opens; after the tenth retry the output is locked off. -/
def execThermalTrip (t : Nat) (o : Nat) (s : State) : Result :=
  let s := s.advance t
  let x := s.out o
  if o = 0 ∨ 24 < o ∨ !s.field.powered ∨ x.tripped.isSome ∨ x.locked then ok s
  else
    let s := s.raise evFiThermal o x.retries
    if 10 ≤ x.retries then
      ok (((s.setOut o { x with locked := true, wasOff := false }).raise evFiOutLocked o 0).outItem o)
    else ok ((s.setOut o { x with tripped := some s.now }).outItem o)

/-- THERMAL_RETRY (R232): after 100 ms the switches return to their commands. -/
def execThermalRetry (t : Nat) (o : Nat) (s : State) : Result :=
  let s := s.advance t
  let x := s.out o
  match x.tripped with
  | some a =>
    if o = 0 ∨ 24 < o ∨ s.now < a + 100 * ms then ok s
    else ok ((s.setOut o { x with tripped := none, retries := if x.voted then min 10 (x.retries + 1) else 0 }).outItem o)
  | none => ok s

/-- Record switch faults and raise their event (R235, R236): `bits` recorded, `named` the switch named, with its kind. -/
def State.switchFault (s : State) (o bits named kind : Nat) : State :=
  let x := s.out o
  let new := (BitVec.ofNat 6 x.swFault ||| BitVec.ofNat 6 bits).toNat
  (s.setOut o { x with swFault := new }).raise evFiSwitchFault o (named * 256 + kind)

/-- The branches of an output whose faulty finding is new: for each, the switch bits to record. -/
def newBranches (x : FieldOut) (found : Nat → Bool) (bits : Nat → Nat) : List Nat :=
  (List.range 3).filter fun j => found j &&
    ((BitVec.ofNat 6 x.swFault &&& BitVec.ofNat 6 (bits j)).toNat != bits j)

/-- The diagnoses of R235 on what was sensed; `excess` says that the output current exceeds 15 mA,
`limit` that the output is in current limit. -/
def State.diagnose (s : State) (o : Nat) (excess limit : Bool) : State :=
  let x := s.out o
  let cmds := s.allCommands o
  if !cmds.contains true then
    let s := (newBranches x (bitOf x.mid) fun j => 2 ^ (2 * j)).foldl (fun s j => s.switchFault o (2 ^ (2 * j)) (2 * j) 1) s
    let ext := x.rb && x.mid % 8 == 0
    let s := if ext && !x.extFeed then s.raise evFiExtFeed o 0 else s
    s.setOut o { s.out o with extFeed := ext, noBranch := false }
  else if x.voted then
    let dead := !x.rb && !limit
    let s := if dead && !x.noBranch then s.raise evFiSwitchFault o (0xFF * 256 + 3) else s
    let s := s.setOut o { s.out o with noBranch := dead, extFeed := false }
    let silentBranch := fun j => excess && s.commands (branchOf j).1 o && s.commands (branchOf j).2 o && !bitOf x.branches j
    (newBranches x silentBranch fun j => 3 * 2 ^ (2 * j)).foldl
      (fun s j => s.switchFault o (3 * 2 ^ (2 * j)) (2 * j) 2) s
  else s

/-- READBACK_CHECK (R235, R246): the field engine senses read-back, midpoints, branch currents (each branch above 5 mA),
whether the output current exceeds 15 mA and whether the output is in current limit, and compares them with the commands. -/
def execReadbackCheck (t : Nat) (o : Nat) (rb : Bool) (mid branches : Nat) (excess limit : Bool) (s : State) : Result :=
  let s := s.advance t
  if o = 0 ∨ 24 < o ∨ !s.field.powered then ok s
  else
    let x := s.out o
    let testing := match s.field.test with | some y => y.out == o | none => false
    if testing then ok s
    else
      let y := { x with
        rb := rb, mid := mid % 8, branches := branches % 8, clim := x.clim && limit
        carried := (List.range 3).map fun j => if bitOf branches j then some s.now else (x.carried[j]?).getD none }
      let s := s.setOut o y
      let s := if s.groupOk o && decide (x.changed + 2 * ms ≤ s.now) then s.diagnose o excess limit else s
      let z := s.out o
      if outputItemValue z = outputItemValue x then ok s else ok (s.outItem o)

/-! ## Tests (R237 to R239) -/

/-- Does a branch conduct: both switches closed, neither recorded faulty (R236, R237)? -/
def State.conducts (s : State) (o j : Nat) : Bool :=
  (s.switches o j).1 && (s.switches o j).2 && (s.out o).swFault / 4 ^ j % 4 == 0

/-- Has the branch carried current within the last 50 ms (R237)? -/
def State.hasCarried (s : State) (o j : Nat) : Bool :=
  match (s.out o).carried[j]? with
  | some (some a) => decide (s.now ≤ a + 50 * ms)
  | _ => false

/-- Has an output's fraction of the second come (R238, regime 1)? (DESIGN CHOICE, log entry 135) -/
def State.testTurn (s : State) (o : Nat) : Bool :=
  let from' := (o - 1) * (40 * ms) + 900 * us
  let f := s.moduleTime % sec
  decide (from' ≤ f ∧ f < from' + 40 * ms)

/-- The period of the test regime: the second in regime 1, else the TEST_ROUND (R238). (DESIGN CHOICE, log entry 135) -/
def State.testPeriod (s : State) : Nat :=
  if s.field.regime = 1 then 2 * (s.moduleTime / sec) + 1
  else match s.field.adopted with
    | some c => 2 * (s.moduleTime / (c.testRound * sec))
    | none => 0

/-- May the field engine test a branch of an output now (R238, R247)? (DESIGN CHOICE, log entry 135) -/
def State.mayTest (s : State) (o branch : Nat) : Bool :=
  s.field.powered && s.field.adopted.isSome && s.ctl.mode != .safe && s.field.test.isNone && s.groupFed o &&
  (s.out o).tripped.isNone && !(s.out o).locked && decide (1 ≤ o ∧ o ≤ 24) && decide (branch < 3) &&
  (s.field.regime != 1 || s.testTurn o) && (s.out o).tested[branch]? != some (some s.testPeriod)

/-- A test of a branch begins (R237, R238). -/
def State.beginTest (s : State) (o branch : Nat) (st : TestStep) : State :=
  let x := s.out o
  let s := s.setOut o { x with tested := x.tested.set branch (some s.testPeriod) }
  { s with field := { s.field with test := some { out := o, branch := branch, step := st, began := s.now } } }

/-- SWITCH_TEST_START (R237, R238): the regime schedules a branch of an output; it is tested where the preconditions hold. -/
def execSwitchTestStart (t : Nat) (o branch : Nat) (s : State) : Result :=
  let s := s.advance t
  if !s.mayTest o branch then ok s
  else
    if (s.out o).voted then
      let others := ((List.range 3).filter (· != branch)).any fun j => s.conducts o j && s.hasCarried o j
      if s.field.regime ≠ 2 ∧ others then ok (s.beginTest o branch .n1) else ok s
    else if s.commands (branchOf branch).1 o || s.commands (branchOf branch).2 o then ok s
    else ok (s.beginTest o branch .o1)

/-- A test ends passed or failed (R237, R246). -/
def State.endTest (s : State) (x : FieldTest) (passed : Bool) : State :=
  let s := { s with field := { s.field with test := none } }
  let s := s.setOut x.out { s.out x.out with
    testBranch := x.branch, testResult := if passed then 1 else 2, testDark := x.step == .dark }
  let s := s.wrapF .agreed fFiTestDone 1
  (if passed then s else s.incF .agreed fFiTestFailed 1).outItem x.out

/-- A step fails (R237): the failing switch (0 upper, 1 lower) is recorded with kind 4 and the test ends. -/
def State.failTest (s : State) (x : FieldTest) (lower : Nat) : State :=
  let bit := 2 * x.branch + lower
  (s.switchFault x.out (2 ^ bit) bit 4).endTest x false

/-- Go on to a test's next step. -/
def State.nextStep (s : State) (x : FieldTest) (st : TestStep) : State :=
  { s with field := { s.field with test := some { x with step := st, began := s.now } } }

/-- TEST_STEP_END (R237, R239): a 100 µs step ends with the midpoint and the read-back as sensed. Which switch a failed N2
names the manual does not say: the value is free. -/
def execTestStepEnd (t : Nat) (mid rb : Bool) (s : State) : Result :=
  let s := s.advance t
  match s.field.test with
  | none => ok s
  | some x =>
    if x.step = .dark ∨ s.now < x.began + 100 * us then ok s
    else if x.energise then ok (s.discardTest 2)
    else
      match x.step with
      | .n1 => if mid then ok (s.nextStep x .n2) else ok (s.failTest x 1)
      | .n2 =>
        if !mid then ok (s.nextStep x .n3)
        else ok ({ s with free := s.free + 1 }.failTest x ((Config.freeValue s.free).toNat % 2))
      | .n3 => if mid then ok (s.endTest x true) else ok (s.failTest x 0)
      | .o1 => if mid then ok (s.nextStep x .o2) else ok (s.failTest x 1)
      | .o2 => if !mid then ok (s.failTest x 0) else if rb then ok (s.failTest x 1) else ok (s.nextStep x .o3)
      | .o3 =>
        let noLoad := match s.field.adopted with
          | some c => (match c.outputs[x.out - 1]? with | some e => e.2 | none => false)
          | none => false
        if mid && !noLoad then
          ok (((s.setOut x.out { s.out x.out with openLoad := true }).raise evFiOpenLoad x.out x.branch).endTest x true)
        else ok ((s.setOut x.out { s.out x.out with openLoad := false }).endTest x true)
      | .dark => ok s

/-- DARK_PULSE_START (R238): in DUPLEX, an output voted on with one conducting branch opens it. -/
def execDarkPulseStart (t : Nat) (o : Nat) (s : State) : Result :=
  let s := s.advance t
  let on := (List.range 3).filter fun j => s.conducts o j
  match s.field.regime == 1 && (s.out o).voted, on with
  | true, [j] => if s.mayTest o j then ok (s.beginTest o j .dark) else ok s
  | _, _ => ok s

/-- DARK_PULSE_END (R238): the pulse ends once current and midpoint are low, after at least 50 µs, or at 300 µs with a
kind 4 fault of the upper switch. -/
def execDarkPulseEnd (t : Nat) (current mid : Bool) (s : State) : Result :=
  let s := s.advance t
  match s.field.test with
  | none => ok s
  | some x =>
    if x.step ≠ .dark ∨ s.now < x.began + 50 * us then ok s
    else if !current && !mid then ok (s.endTest x true)
    else if x.began + 300 * us ≤ s.now then ok (s.failTest x 0)
    else ok s

/-! ## Inputs, pairs and supplies (R243 to R247) -/

/-- One input. -/
def State.inp (s : State) (i : Nat) : FieldIn := (s.field.ins[i - 1]?).getD {}

/-- An input's filter time in nanoseconds (R244). -/
def State.filterTime (s : State) (i : Nat) : Nat :=
  match s.field.adopted with
  | some c => ((c.filters[i - 1]?).getD 1) * 100 * us
  | none => 100 * us

/-- One pair. -/
def State.pair (s : State) (p : Nat) : FieldPair := (s.field.pairs[p - 1]?).getD {}

/-- A pair's entry. -/
def State.pairEntry (s : State) (p : Nat) : PairEntry :=
  match s.field.adopted with
  | some c => (c.pairs[p - 1]?).getD {}
  | none => {}

/-- Milliseconds between the entry times of a pair's contacts, saturating (R245). -/
def State.pairGap (s : State) (e : PairEntry) : Nat :=
  let a := (s.inp e.inA).entry
  let b := (s.inp e.inB).entry
  min 65535 ((max a b - min a b) / ms)

/-- A pair takes a state, forming its item with an entry time (R245). -/
def State.setPair (s : State) (p : Nat) (x : FieldPair) (time : Nat) : State :=
  let s := { s with field := { s.field with pairs := s.field.pairs.set (p - 1) x } }
  s.fieldItem (0x0140 + p) time
    (natLe 1 (b2n (x.state == .on)) ++ natLe 1 x.state.code ++ natLe 2 (s.pairGap (s.pairEntry p)))

/-- A pair enters DISCREPANCY (R245); `left` is the state left, 5 for an invalid input. (DEDUCED, log entry 114) -/
def State.pairDiscrepancy (s : State) (p left time : Nat) : State :=
  if (s.pair p).state = .discrepancy then s
  else (s.setPair p { s.pair p with state := .discrepancy } time).raise evFiPairDiscrepancy p left

/-- A pair acts on a filtered change of one of its contacts (0 IN_A, 1 IN_B), with that contact's entry time (R245). (DEDUCED, log entry 114) -/
def State.pairChange (s : State) (p contact time : Nat) : State :=
  let e := s.pairEntry p
  let x := s.pair p
  let a := s.inp e.inA
  let b := s.inp e.inB
  let aSafe := !a.level
  let bSafe := if e.kind = 2 then b.level else !b.level
  let thisSafe := if contact = 0 then aSafe else bSafe
  let limit := x.start + e.discMs * ms
  match x.state with
  | .off => if thisSafe then s else s.setPair p ⟨.waitOn, contact, time⟩ time
  | .waitOn =>
    if contact = x.first then (if thisSafe then s.setPair p { x with state := .off } time else s)
    else if thisSafe then s
    else if time ≤ limit then s.setPair p { x with state := .on } time
    else s.pairDiscrepancy p 1 limit
  | .on => if thisSafe then s.setPair p ⟨.waitOff, contact, time⟩ time else s
  | .waitOff =>
    if aSafe && bSafe then (if time ≤ limit then s.setPair p { x with state := .off } time else s.pairDiscrepancy p 3 limit)
    else s
  | .discrepancy =>
    if aSafe && bSafe && !a.invalid && !b.invalid then
      (s.setPair p { x with state := .off } time).raise evFiPairCleared p 0
    else s

/-- The pair an input belongs to, with the contact it is (R245). -/
def State.pairOf (s : State) (i : Nat) : Option (Nat × Nat) :=
  (List.range 24).findSome? fun k =>
    let e := s.pairEntry (k + 1)
    if e.kind = 0 then none else if e.inA = i then some (k + 1, 0) else if e.inB = i then some (k + 1, 1) else none

/-- An input's level or validity changes: its item is formed (R243, R244). (DEDUCED, log entry 85) -/
def State.inputChange (s : State) (i : Nat) (x : FieldIn) : State :=
  let s := { s with field := { s.field with ins := s.field.ins.set (i - 1) x } }
  s.fieldItem (0x0100 + i) x.entry (natLe 1 (b2n x.level) ++ natLe 1 (b2n x.invalid) ++ natLe 2 0)

/-- INPUT_FILTER_ACCEPT (R243, R244, R245): both samplers have shown a level at every sample for the filter time. -/
def execInputFilterAccept (t : Nat) (i : Nat) (level : Bool) (s : State) : Result :=
  let s := s.advance t
  let x := s.inp i
  if i = 0 ∨ 48 < i ∨ !s.field.powered ∨ s.field.supplies[0]? = some 2 ∨ (x.level = level ∧ !x.invalid)
      ∨ s.now < s.field.backAt + s.filterTime i then ok s
  else
    let entry := (s.engineTime - s.filterTime i) / (10 * us) * (10 * us)
    let s := s.inputChange i ⟨level, false, entry⟩
    match s.pairOf i with
    | some (p, c) => ok (s.pairChange p c entry)
    | none => ok s

/-- An input becomes invalid (R243): its filtered value is 0, and its pair goes to DISCREPANCY (R245). (DEDUCED, log entry 85) -/
def State.inputInvalid (s : State) (i : Nat) : State :=
  if (s.inp i).invalid then s
  else
    let time := s.engineTime
    let s := (s.inputChange i ⟨false, true, time⟩).raise evFiInputInvalid i 0
    match s.pairOf i with
    | some (p, _) => s.pairDiscrepancy p 5 time
    | none => s

/-- INPUT_INVALID (R243): the samplers have disagreed for longer than the filter time. -/
def execInputInvalid (t : Nat) (i : Nat) (s : State) : Result :=
  let s := s.advance t
  if i = 0 ∨ 48 < i ∨ !s.field.powered then ok s else ok (s.inputInvalid i)

/-- PAIR_DISCREPANCY_TIMEOUT (R245): the discrepancy time and the longer filter time have passed. -/
def execPairDiscrepancyTimeout (t : Nat) (p : Nat) (s : State) : Result :=
  let s := s.advance t
  let e := s.pairEntry p
  let x := s.pair p
  let limit := x.start + e.discMs * ms
  if p = 0 ∨ 24 < p ∨ !s.field.powered ∨ s.engineTime < limit + max (s.filterTime e.inA) (s.filterTime e.inB) then ok s
  else if x.state = .waitOn then ok (s.pairDiscrepancy p 1 limit)
  else if x.state = .waitOff then ok (s.pairDiscrepancy p 3 limit)
  else ok s

/-- FIELD_SUPPLY_CHANGE (R247): a supply (0 FSUP_IN, 1 to 3) takes a state (0 normal, 1 low, 2 missing). -/
def execFieldSupplyChange (t : Nat) (n st : Nat) (s : State) : Result :=
  let s := s.advance t
  if 3 < n ∨ 2 < st ∨ !s.field.powered ∨ s.field.supplies[n]? = some st then ok s
  else
    let back := if n = 0 ∧ s.field.supplies[0]? = some 2 then s.now else s.field.backAt
    let s := { s with field := { s.field with supplies := s.field.supplies.set n st, backAt := back } }
    let s := s.incF .agreed fFiSupplyChanges 1
    let byte0 := (s.field.supplies.zipIdx.map fun e => e.1 * 4 ^ e.2).foldl (· + ·) 0
    let mark := s.field.queueFull && decide (s.field.queue.length < 512)
    let s := s.fieldItem 0x0180 s.engineTime (natLe 1 byte0 ++ natLe 1 (128 * b2n mark) ++ natLe 2 0)
    let s := if mark then { s with field := { s.field with queueFull := false } } else s
    let used := match s.field.adopted with | some c => bitOf c.fsupUsed n | none => false
    let s := if used then s.raise evFiSupply n st else s
    if n = 0 ∧ st = 2 then ok ((List.range 48).foldl (fun s k => s.inputInvalid (k + 1)) s) else ok s

end Sys2Proof.Machine
end

