-- ==== Sys2Proof/Machine/Supervisor.lean ====
section
/-!
DEFINITION. The safety supervisors (R252 to R270). Speeds are in 0.1 mm/s, positions in 2⁻²⁴ × 0.1 mm; intervals between
edges are measured on the local clock.
-/
namespace Sys2Proof.Machine

/-- Position units per 0.1 mm (R170). -/
def posUnit : Nat := 2 ^ 24

/-- One mast's counter of axle 1 or 2. -/
def State.axle (s : State) (m : Mast) (ax : Nat) : AxleCounter := if ax = 1 then s.pos.ax1.get m else s.pos.ax2.get m

/-- Replace one mast's counter of an axle. -/
def State.setAxle (s : State) (m : Mast) (ax : Nat) (x : AxleCounter) : State :=
  if ax = 1 then { s with pos := { s.pos with ax1 := s.pos.ax1.set m x } }
  else { s with pos := { s.pos with ax2 := s.pos.ax2.set m x } }

/-- What an edge-log query answers (R174). -/
inductive LogAnswer where
  | value (v : Int)
  | tooOld
  | future
  deriving DecidableEq, Repr

/-- The counter value after the last logged edge at or before a module time (R174). -/
def AxleCounter.query (a : AxleCounter) (asked now : Nat) : LogAnswer :=
  if now < asked then .future
  else if asked + 500 * ms < now then .tooOld
  else match a.log.find? (fun e => decide (e.1 ≤ asked)) with
    | some e => .value e.2
    | none => .value a.base

/-- One mast's supervisor. -/
def State.sp (s : State) (m : Mast) : SpMast := s.sup.masts.get m

/-- Replace one mast's supervisor. -/
def State.setSp (s : State) (m : Mast) (x : SpMast) : State := { s with sup := { s.sup with masts := s.sup.masts.set m x } }

/-- A supervisor's account of an axle. -/
def SpMast.ax (x : SpMast) (n : Nat) : SpAxle := if n = 1 then x.ax1 else x.ax2

/-- Replace a supervisor's account of an axle. -/
def SpMast.setAx (x : SpMast) (n : Nat) (a : SpAxle) : SpMast := if n = 1 then { x with ax1 := a } else { x with ax2 := a }

/-- STEP of an axle (R271). (DEDUCED, log entry 85) -/
def SpParams.step (p : SpParams) (ax : Nat) : Nat := if ax = 1 then p.step1 else p.step2

/-- The masts whose supervisors are active (R25). -/
def State.spMasts (s : State) : List Mast := Mast.all.filter fun m => s.triadRuns m && (s.sp m).active

/-! ## Speeds (R253) -/

/-- STEP divided by an interval in nanoseconds, in 0.1 mm/s. (DEDUCED, log entry 29) -/
def speedOf (step dt : Nat) : Nat := step * sec / (posUnit * max 1 dt)

/-- The axle speed at a local time: the lower of its last value and STEP over the time since the last edge (R253). (DEDUCED, log entry 29) -/
def SpMast.speedAt (x : SpMast) (p : SpParams) (ax now : Nat) : Nat :=
  let a := x.ax ax
  match a.last with
  | some l => if l < now then min a.speed (speedOf (p.step ax) (now - l)) else a.speed
  | none => 0

/-- The supervised speed V (R253). -/
def SpMast.vAt (x : SpMast) (p : SpParams) (now : Nat) : Nat := max (x.speedAt p 1 now) (x.speedAt p 2 now)

/-- |v₁ − v₂| (R255). -/
def SpMast.diffAt (x : SpMast) (p : SpParams) (now : Nat) : Nat :=
  max (x.speedAt p 1 now) (x.speedAt p 2 now) - min (x.speedAt p 1 now) (x.speedAt p 2 now)

/-- Does the difference exceed the larger of SLIP_MIN and SLIP_PCT percent of V (R255)? -/
def SpMast.slipping (x : SpMast) (p : SpParams) (now : Nat) : Bool :=
  decide (max (p.slipMin * 10 * 100) (p.slipPct * x.vAt p now) < 100 * x.diffAt p now)

/-! ## Positions and windows (R257 to R260) -/

/-- An axle's relative position on a mast, in counter units (R257). -/
def State.relPos (s : State) (m : Mast) (ax : Nat) : Int := (s.axle m ax).counter - ((s.sp m).ax ax).ref

/-- The position discrepancy in counter units (R258). -/
def State.discrepancy (s : State) (m : Mast) : Nat := (s.relPos m 1 - s.relPos m 2).natAbs

/-- Counter units as 0.1 mm, rounded down. -/
def toTenths (v : Int) : Int := v / (posUnit : Nat)

/-- Do both relative positions lie within a window (R259)? -/
def State.inWindowRange (s : State) (m : Mast) (w : SpWindowEntry) : Bool :=
  let inside := fun (v : Int) => decide (w.low * (posUnit : Nat) ≤ v ∧ v ≤ w.high * (posUnit : Nat))
  inside (s.relPos m 1) && inside (s.relPos m 2)

/-- Is a window permitted (R259)? -/
def State.permitted (s : State) (m : Mast) (w : SpWindowEntry) : Bool :=
  w.used && (s.sp m).berth && s.inWindowRange m w && (!w.reqZero || (s.sp m).zero)

/-- Bit k set where the k-th entry satisfies a test. -/
def bitsOf {α : Type} (l : List α) (f : α → Bool) : Nat :=
  (l.zipIdx.map fun e => if f e.1 then 2 ^ e.2 else 0).foldl (· + ·) 0

/-- Do two masks share a bit? -/
def masksMeet (a b : Nat) : Bool := BitVec.ofNat 32 a &&& BitVec.ofNat 32 b != 0

/-- The union of two masks. -/
def maskOr (a b : Nat) : Nat := (BitVec.ofNat 32 a ||| BitVec.ofNat 32 b).toNat

/-- Note the crossing of a violation for `SP_LASTV` (R265): its kind and index, the reaction still to be measured. -/
def State.noteViolation (s : State) (crossing kind index : Nat) : State :=
  let s := (s.putF .agreed fSpLastvKind kind).putF .agreed fSpLastvIndex index
  { s with sup := { s.sup with react := some crossing } }

/-- Evaluate the windows of a mast (R259, R260): a window that ceases to be permitted while the demand for an output of its
mask is on is latched. -/
def State.evalWindows (s : State) (m : Mast) : State :=
  match s.sup.params with
  | none => s
  | some p =>
    let x := s.sp m
    let now := bitsOf p.windows (s.permitted m)
    let s := p.windows.zipIdx.foldl (fun s e =>
      let w := e.1
      let k := e.2
      if bitOf x.permit k && !bitOf now k && !bitOf x.latchWin k && masksMeet w.mask (s.demand m) then
        let y := s.sp m
        let s := s.setSp m { y with latchWin := withBit y.latchWin k true }
        (s.raiseM m evSpSlpViolation (k + 1) (unsigned 32 (toTenths (s.relPos m 1)))).noteViolation s.now 2 (k + 1)
      else s) s
    s.setSp m { s.sp m with permit := now }

/-- The berth reference becomes invalid (R258); a failed query is reported in any case (R257). (DEDUCED, log entry 100) -/
def State.berthLost (s : State) (m : Mast) (reason : Nat) : State :=
  if (s.sp m).berth ∨ reason = 4 then
    let d := s.discrepancy m / posUnit
    ((s.setSp m { s.sp m with berth := false }).raiseM m evSpBerthLost reason d).evalWindows m
  else s

/-- D exceeds its bound (R258, reason 2). (DEDUCED, log entry 102) -/
def State.checkDiscrepancy (s : State) (m : Mast) : State :=
  match s.sup.params with
  | none => s
  | some p =>
    let far := max (s.relPos m 1).natAbs (s.relPos m 2).natAbs
    if (s.sp m).berth ∧ p.discAbs * posUnit * 1000 + p.discRel * far < 1000 * s.discrepancy m then s.berthLost m 2 else s

/-- An odometry fault is latched (R256): outputs forced off, the berth reference invalid. -/
def State.odoFault (s : State) (m : Mast) (kind axle : Nat) : State :=
  let x := s.sp m
  if x.latchOdo then s
  else
    let s := (s.setSp m { x with latchOdo := true }).raiseM m evSpOdoFault kind axle
    (s.noteViolation s.now 4 axle).berthLost m 1

/-! ## Forces (R252, R259, R262, R264, R265) -/

/-- The outputs a mast's supervisor forces off. -/
def State.forceMask (s : State) (m : Mast) : Nat :=
  match s.sup.params with
  | none => 0
  | some p =>
    let x := s.sp m
    if !x.active then 0
    else
      let a := p.limits.zipIdx.foldl (fun a e => if bitOf x.latchSls e.2 then maskOr a e.1.mask else a) 0
      let a := p.windows.zipIdx.foldl (fun a e =>
        if e.1.used && (!bitOf x.permit e.2 || bitOf x.latchWin e.2) then maskOr a e.1.mask else a) a
      let a := if x.latchDir then maskOr a p.dirMask else a
      if x.latchOdo then maskOr a p.odoMask else a

/-- The designated safety outputs (R272). -/
def SpParams.designated (p : SpParams) : Nat :=
  let a := p.limits.foldl (fun a l => if l.mms = 0 then a else maskOr a l.mask) (maskOr p.odoMask p.dirMask)
  p.windows.foldl (fun a w => if w.used then maskOr a w.mask else a) a

/-- Show this mast's forces. -/
def State.showForce (s : State) (m : Mast) : State := s.putF (.mast m) fSpForceForced (s.forceMask m)

/-! ## Edges (R253 to R256, R262, R264) -/

/-- The speed limits are judged at a moment (R262): crossings begin, or are cancelled; with CONFIRM_MS 0 they latch. -/
def State.latchSpeed (s : State) (m : Mast) (n v crossing : Nat) : State :=
  let x := s.sp m
  if bitOf x.latchSls (n - 1) then s
  else
    ((s.setSp m { x with latchSls := withBit x.latchSls (n - 1) true }).raiseM m evSpSlsViolation n (v / 10)).noteViolation
      crossing 1 n

/-- Judge one limit of a mast now (R262). -/
def State.judgeLimit (s : State) (m : Mast) (p : SpParams) (k : Nat) : State :=
  let x := s.sp m
  let v := x.vAt p s.now
  match p.limits[k]?, x.limits[k]? with
  | some e, some l =>
    if l.supervised ∧ e.mms * 10 < v then
      match l.crossing with
      | some _ => s
      | none =>
        let s := s.setSp m { x with limits := x.limits.set k { l with crossing := some s.now } }
        if p.confirmMs = 0 then s.latchSpeed m (k + 1) v s.now else s
    else s.setSp m { x with limits := x.limits.set k { l with crossing := none } }
  | _, _ => s

/-- Judge every limit of a mast now. -/
def State.judgeLimits (s : State) (m : Mast) (p : SpParams) : State :=
  (List.range 8).foldl (fun s k => s.judgeLimit m p k) s

/-- Slip or slide begins, comes back within its bound, or exceeds it again (R255). (DEDUCED, log entry 100) -/
def State.judgeSlip (s : State) (m : Mast) (p : SpParams) : State :=
  let x := s.sp m
  if x.slipping p s.now then
    match x.slip with
    | some _ => s.setSp m { x with within := none }
    | none =>
      (s.setSp m { x with slip := some s.now, within := none }).raiseLimited (2 ^ m.code) (2 * m.code) evSpSlip 1
        (x.diffAt p s.now / 10)
  else if x.slip.isSome ∧ x.within.isNone then s.setSp m { x with within := some s.now }
  else s

/-- Direction supervision at an edge (R264): references follow the permitted sense; too far against it is a violation. -/
def State.judgeDirection (s : State) (m : Mast) (p : SpParams) (ax : Nat) : State :=
  let x := s.sp m
  if !x.dirUp ∧ !x.dirDown then s
  else
    let c := (s.axle m ax).counter
    let a := x.ax ax
    let ref := if x.dirUp && !x.dirDown then max a.dirRef c else if x.dirDown && !x.dirUp then min a.dirRef c else a.dirRef
    let against : Int := if x.dirUp && x.dirDown then (c - ref).natAbs else if x.dirUp then ref - c else c - ref
    let s := s.setSp m (x.setAx ax { a with dirRef := ref })
    if (p.dirTol * posUnit : Nat) < against ∧ !x.latchDir then
      let y := s.sp m
      ((s.setSp m { y with latchDir := true }).raiseM m evSpDirViolation ax (unsigned 32 (toTenths against))).noteViolation
        s.now 3 ax
    else s

/-- Zero speed is lost when an axle moves further than STILL_DIST from its standstill point (R254). -/
def State.judgeStill (s : State) (m : Mast) (p : SpParams) (ax : Nat) : State :=
  let x := s.sp m
  if x.zero ∧ p.stillDist * posUnit < ((s.axle m ax).counter - (x.ax ax).still).natAbs then
    (s.setSp m { x with zero := false }).raiseM m evSpZero 0 ax
  else s

/-- The new account of an axle after an edge: its speed from the previous edge of the same direction, or of either
direction where there is none, and 0 at the first edge (R253). -/
def SpAxle.edge (a : SpAxle) (step now : Nat) (up : Bool) : SpAxle :=
  let same := if up then a.lastUp else a.lastDown
  let before := match same with | some t => some t | none => a.last
  { a with
    speed := match before with | some t => speedOf step (now - t) | none => 0
    last := some now
    lastUp := if up then some now else a.lastUp
    lastDown := if up then a.lastDown else some now }

/-- A decoded edge as one mast's supervisor judges it (R253 to R264); the counter has moved already. (DEDUCED, log entry 85) -/
def State.spEdgeOn (s : State) (m : Mast) (p : SpParams) (ax : Nat) (up : Bool) : State :=
  let x := s.sp m
  let s := s.setSp m (x.setAx ax ((x.ax ax).edge (p.step ax) s.now up))
  let s := s.judgeStill m p ax
  let s := (s.judgeSlip m p).judgeLimits m p
  let s := (s.judgeDirection m p ax).checkDiscrepancy m
  (s.evalWindows m).showForce m

/-- Every active supervisor judges an edge. (DEDUCED, log entry 29) -/
def State.spEdge (s : State) (ax : Nat) (up : Bool) : State :=
  match s.sup.params with
  | none => s
  | some p => s.spMasts.foldl (fun s m => s.spEdgeOn m p ax up) s

/-- Every active supervisor judges a quadrature error (R256): 16 within any second are an odometry fault. -/
def State.spQerr (s : State) (ax : Nat) : State :=
  s.spMasts.foldl (fun s m =>
    let x := s.sp m
    let a := x.ax ax
    let q := s.now :: a.qerrs.filter fun t => decide (s.now < t + sec)
    let s := s.setSp m (x.setAx ax { a with qerrs := q })
    if 16 ≤ q.length then (s.odoFault m 3 ax).showForce m else s) s

/-- Every active supervisor judges an entry into over-rate (R256). -/
def State.spOverrate (s : State) (ax : Nat) : State :=
  s.spMasts.foldl (fun s m => (s.odoFault m 2 ax).showForce m) s

/-! ## Timers (R254 to R256, R261, R262) -/

/-- The local time from which T_ZERO counts: the last edge of either axle, or activation (R254). -/
def SpMast.quietFrom (x : SpMast) : Nat :=
  let t := fun (a : SpAxle) => a.last.getD x.activated
  max x.activated (max (t x.ax1) (t x.ax2))

/-- ZERO_SPEED_DECLARE (R254): neither axle has had an edge for T_ZERO. -/
def execZeroSpeedDeclare (t : Nat) (s : State) : Result :=
  let s := s.advance t
  match s.sup.params with
  | none => ok s
  | some p =>
    ok (s.spMasts.foldl (fun s m =>
      let x := s.sp m
      if !x.zero ∧ x.quietFrom + p.tZeroMs * ms ≤ s.now then
        let x := { x with zero := true }
        let x := x.setAx 1 { x.ax1 with still := (s.axle m 1).counter }
        let x := x.setAx 2 { x.ax2 with still := (s.axle m 2).counter }
        (((s.setSp m x).raiseM m evSpZero 1 0).evalWindows m).showForce m
      else s) s)

/-- Has the difference stayed within its bound for 200 ms (R255)? -/
def SpMast.slipOver (x : SpMast) (p : SpParams) (now : Nat) : Bool :=
  !x.slipping p now &&
  (match x.within with
   | some w => decide (w + 200 * ms ≤ now)
   | none => decide (x.quietFrom + 200 * ms ≤ now) && !x.slipping p (now - 200 * ms))

/-- SLIP_END_EXPIRY (R255). -/
def execSlipEndExpiry (t : Nat) (s : State) : Result :=
  let s := s.advance t
  match s.sup.params with
  | none => ok s
  | some p =>
    ok (s.spMasts.foldl (fun s m =>
      let x := s.sp m
      if x.slip.isSome && x.slipOver p s.now then
        (s.setSp m { x with slip := none, within := none }).raiseLimited (2 ^ m.code) (2 * m.code + 1) evSpSlip 0
          (x.diffAt p s.now / 10)
      else s) s)

/-- ODO_SLIP_EXPIRY (R256): slip or slide has held for ODO_TIME without interruption. -/
def execOdoSlipExpiry (t : Nat) (s : State) : Result :=
  let s := s.advance t
  match s.sup.params with
  | none => ok s
  | some p =>
    ok (s.spMasts.foldl (fun s m =>
      match (s.sp m).slip with
      | some from' => if from' + p.odoTimeS * sec ≤ s.now then (s.odoFault m 1 0).showForce m else s
      | none => s) s)

/-- SPEED_CONFIRM_EXPIRY (R262): V has stayed above a limit for CONFIRM_MS since the crossing. -/
def execSpeedConfirmExpiry (t : Nat) (n : Nat) (s : State) : Result :=
  let s := s.advance t
  match s.sup.params with
  | none => ok s
  | some p =>
    ok (s.spMasts.foldl (fun s m =>
      let x := s.sp m
      match p.limits[n - 1]?, x.limits[n - 1]? with
      | some e, some l =>
        match l.crossing with
        | some c =>
          let v := x.vAt p s.now
          if v ≤ e.mms * 10 ∨ !l.supervised then
            s.setSp m { x with limits := x.limits.set (n - 1) { l with crossing := none } }
          else if c + p.confirmMs * ms ≤ s.now then (s.latchSpeed m n v c).showForce m
          else s
        | none => s
      | _, _ => s) s)

/-- LIMIT_DELAY_EXPIRY (R261, R262): DELAY_MS after its selection a limit becomes supervised; a limit exceeded already has
its crossing now. -/
def execLimitDelayExpiry (t : Nat) (n : Nat) (s : State) : Result :=
  let s := s.advance t
  match s.sup.params with
  | none => ok s
  | some p =>
    ok (s.spMasts.foldl (fun s m =>
      let x := s.sp m
      match p.limits[n - 1]?, x.limits[n - 1]? with
      | some e, some l =>
        match l.selected with
        | some a =>
          if !l.supervised ∧ a + e.delayMs * ms ≤ s.now then
            ((s.setSp m { x with limits := x.limits.set (n - 1) { l with supervised := true } }).judgeLimit m p (n - 1)).showForce m
          else s
        | none => s
      | _, _ => s) s)

/-! ## Acknowledgement (R266, R267) -/

/-- The latches a supervisor holds, in the layout of `SP_LATCH`. -/
def SpMast.latches (x : SpMast) : Nat :=
  x.latchSls + 256 * x.latchWin + 4096 * b2n x.latchDir + 8192 * b2n x.latchOdo

/-- Has the axle shown no over-rate within the last second (R266)? -/
def TachoFront.calm (f : TachoFront) (now : Nat) : Bool :=
  !f.overRate && (match f.overEnd with | some t => decide (t + sec ≤ now) | none => true)

/-- Is a latch's condition clear on a mast (R266)? -/
def State.latchClear (s : State) (m : Mast) (p : SpParams) (bit : Nat) : Bool :=
  let x := s.sp m
  if bit < 8 then
    match p.limits[bit]?, x.limits[bit]? with
    | some e, some l => !l.supervised || decide (x.vAt p s.now ≤ e.mms * 10)
    | _, _ => true
  else if bit < 12 then
    match p.windows[bit - 8]? with
    | some w => s.permitted m w || !masksMeet w.mask (s.demand m)
    | none => true
  else if bit = 12 then x.zero
  else
    x.zero && x.slip.isNone && s.pos.front1.calm s.now && s.pos.front2.calm s.now &&
    [x.ax1, x.ax2].all fun a => a.qerrs.all fun t => decide (t + sec ≤ s.now)

/-- Clear one latch of a supervisor; clearing a direction violation takes its references again (R266). -/
def State.clearLatch (s : State) (m : Mast) (bit : Nat) : State :=
  let x := s.sp m
  if bit < 8 then s.setSp m { x with latchSls := withBit x.latchSls bit false }
  else if bit < 12 then s.setSp m { x with latchWin := withBit x.latchWin (bit - 8) false }
  else if bit = 12 then
    let x := { x with latchDir := false }
    let x := x.setAx 1 { x.ax1 with dirRef := (s.axle m 1).counter }
    s.setSp m (x.setAx 2 { x.ax2 with dirRef := (s.axle m 2).counter })
  else s.setSp m { x with latchOdo := false }

/-- Acknowledge the latches of a mask at an action instant (R266, R267); `source` 1 application, 2 input pair. -/
def State.acknowledge (s : State) (mask source : Nat) : State :=
  match s.sup.params with
  | none => s
  | some p =>
    let step := fun (acc : State × Nat × Nat) (e : Mast × Nat) =>
      let s := acc.1
      if !bitOf mask e.2 || !bitOf (s.sp e.1).latches e.2 then acc
      else if s.latchClear e.1 p e.2 then (s.clearLatch e.1 e.2, withBit acc.2.1 e.2 true, acc.2.2)
      else (s, acc.2.1, withBit acc.2.2 e.2 true)
    let all := (s.spMasts.filter s.votes).flatMap fun m => (List.range 14).map fun b => (m, b)
    let r := all.foldl step (s, 0, 0)
    let s := r.1
    let s := if r.2.1 ≠ 0 then (s.raise evSpAck r.2.1 source).incF .agreed fSpCountAcks 1 else s
    let s := if r.2.2 ≠ 0 then
        (s.raiseLimited s.lane.active.mask 0 evSpAckRefused r.2.2 source).incF .agreed fSpCountRefused 1
      else s
    s.spMasts.foldl (fun s m => s.showForce m) s

/-- SP_ACK_WRITE (R267): at the action instant, an agreed write with the right key, where ACK_MODE allows it. -/
def execSpAckWrite (t : Nat) (writers : Per Bool) (value : Word) (s : State) : Result :=
  let s := s.advance t
  match s.sup.params with
  | none => ok s
  | some p =>
    if s.agreed writers && getBits value 31 16 == 0x5341 && (p.ackMode == 1 || p.ackMode == 3) then
      ok (s.acknowledge (getBits value 13 0) 1)
    else ok s

/-- SP_REFCLR_WRITE (R258): at the action instant, an agreed write with the right key invalidates the berth reference. -/
def execSpRefclrWrite (t : Nat) (writers : Per Bool) (value : Word) (s : State) : Result :=
  let s := s.advance t
  if s.agreed writers && getBits value 31 16 == 0x5243 then
    ok (s.spMasts.foldl (fun s m => (s.berthLost m 3).showForce m) s)
  else ok s

/-! ## Released items (R257, R267) -/

/-- A released item of REF_INPUT shows the sealed edge (R257): every supervisor takes its reference from its edge log, or
loses it. -/
def State.spReference (s : State) (time : Nat) : State :=
  s.spMasts.foldl (fun s m =>
    let x := s.sp m
    match (s.axle m 1).query time s.moduleTime, (s.axle m 2).query time s.moduleTime with
    | .value v1, .value v2 =>
      if x.latchOdo then (s.berthLost m 4).showForce m
      else
        let x := { x with berth := true }
        let x := (x.setAx 1 { x.ax1 with ref := v1 })
        let s := s.setSp m (x.setAx 2 { x.ax2 with ref := v2 })
        let s := s.raiseM m evSpBerthRef (unsigned 32 (toTenths v1)) (unsigned 32 (toTenths v2))
        ((s.checkDiscrepancy m).evalWindows m).showForce m
    | _, _ => (s.berthLost m 4).showForce m) s

/-- A released field-input item, as the supervisors see it (R257). -/
def State.spInput (s : State) (input : Nat) (level valid : Bool) (time : Nat) : State :=
  match s.sup.params with
  | none => s
  | some p =>
    if input ≠ p.refInput then s
    else
      let edge := match s.sup.refPrev with
        | some (l, true) => valid && (if p.refEdge = 1 then !l && level else l && !level)
        | _ => false
      let s := { s with sup := { s.sup with refPrev := some (level, valid) } }
      if edge then s.spReference time else s

/-- A released pair value (R267): a change of ACK_PAIR from off to on acknowledges every latch at the next action instant. -/
def State.spPair (s : State) (pair : Nat) (on : Bool) : State :=
  match s.sup.params with
  | none => s
  | some p =>
    if pair ≠ p.ackPair ∨ (p.ackMode ≠ 2 ∧ p.ackMode ≠ 3) then s
    else { s with sup := { s.sup with
      ackPending := s.sup.ackPending || (on && !s.sup.ackPrev), ackPrev := on } }

/-! ## The action instant (R261, R263, R268, R269) -/

/-- Is a pair on in the latest released intake? -/
def State.pairOn (s : State) (p : Nat) : Bool := p != 0 && s.field.relPairs.any fun e => e.1 == p && e.2.1

/-- Selection of a limit (R261). -/
def State.limitSelected (s : State) (n : Nat) (e : SpLimitEntry) : Bool :=
  e.mms != 0 && (e.always || s.pairOn e.pair || (e.appSel && bitOf (s.getF .agreed fSpSlsselSel) (n - 1)))

/-- A mast's selections at an action instant (R261, R263). -/
def State.spSelect (s : State) (m : Mast) (p : SpParams) : State :=
  let s := (List.range 8).foldl (fun s k =>
    let x := s.sp m
    match p.limits[k]?, x.limits[k]? with
    | some e, some l =>
      let sel := s.limitSelected (k + 1) e
      let l' : SpLimit :=
        if !sel then {} else if l.selected.isSome then l
        else { selected := some s.now, supervised := e.delayMs == 0, crossing := none }
      (s.setSp m { x with limits := x.limits.set k l' }).judgeLimit m p k
    | _, _ => s) s
  let x := s.sp m
  let up := s.pairOn p.pairUp || (p.dirApp && s.getF .agreed fSpDirselUp == 1)
  let down := s.pairOn p.pairDown || (p.dirApp && s.getF .agreed fSpDirselDown == 1)
  if up = x.dirUp ∧ down = x.dirDown then s
  else
    let x := { x with dirUp := up, dirDown := down }
    let x := x.setAx 1 { x.ax1 with dirRef := (s.axle m 1).counter }
    s.setSp m (x.setAx 2 { x.ax2 with dirRef := (s.axle m 2).counter })

/-- Permissive flags a mast contributes (R268): active, self-test, zero speed, berth reference; per window in range and
permitted; per limit not exceeded. -/
def State.spPermissive (s : State) (m : Mast) (p : SpParams) : List Bool :=
  let x := s.sp m
  [x.active, x.selftest, x.zero, x.berth] ++ (List.range 4).map (fun k =>
      match p.windows[k]? with | some w => w.used && x.berth && s.inWindowRange m w | none => false) ++
    (List.range 4).map (fun k => bitOf x.permit k) ++
    (List.range 8).map fun k => match p.limits[k]?, x.limits[k]? with
      | some e, some l => !(l.supervised && decide (e.mms * 10 < x.vAt p s.now))
      | _, _ => true

/-- Restrictive flags a mast contributes (R268): slip, odometry fault, direction selected; the 14 latches; per limit selected
and supervised. -/
def State.spRestrictive (s : State) (m : Mast) : List Bool :=
  let x := s.sp m
  [x.slip.isSome, x.latchOdo, x.dirUp || x.dirDown] ++ (List.range 14).map (bitOf x.latches) ++
    (x.limits.map fun l => l.selected.isSome) ++ x.limits.map fun l => l.supervised

/-- Combine flags (R268): by majority of three; of two, `and` where permissive, `or` where restrictive. -/
def combineFlags (permissive : Bool) (l : List (List Bool)) : List Bool :=
  match l with
  | [x, y, z] => (x.zip (y.zip z)).map fun e => (e.1 && e.2.1) || (e.1 && e.2.2) || (e.2.1 && e.2.2)
  | [x, y] => (x.zip y).map fun e => if permissive then e.1 && e.2 else e.1 || e.2
  | [x] => x
  | _ => []

/-- The flags `i` to `i + n − 1` as a number. -/
def flagsAt (l : List Bool) (i n : Nat) : Nat := bitsOf ((l.drop i).take n) id

/-- `SP_STAT` and `SP_LATCH` of given flags. -/
def statOf (pm rs : List Bool) : Nat :=
  flagsAt pm 0 2 + 4 * b2n (flagsAt rs 3 14 != 0) + 8 * flagsAt pm 2 2 + 32 * flagsAt rs 0 3

/-- How many bits of a mask of 14 are set. -/
def countBits (v : Nat) : Nat := ((List.range 14).filter (bitOf v)).length

/-- V of the combination: median, higher of two (R268). -/
def combineSpeed : List Nat → Nat
  | [x, y, z] => median3 x y z
  | [x, y] => max x y
  | [x] => x
  | _ => 0

/-- The 48 bits of a counter value for a pair of registers: LO and HI (R170). -/
def State.putPos (s : State) (c : Copy) (lo hi : Nat) (v : Int) : State :=
  let u := unsigned 48 (toTenths v)
  (s.setReg c lo (BitVec.ofNat 32 u)).setReg c hi (BitVec.ofNat 32 (u / 2 ^ 32))

/-- Clamp to 32 signed bits (`SP_REL`). -/
def clamp32 (v : Int) : Nat := unsigned 32 (max (-(2 ^ 31 : Nat)) (min (2 ^ 31 - 1 : Nat) v))

/-- The agreed registers of R268 from the contributing masts. -/
def State.spPublish (s : State) (p : SpParams) (who : List Mast) : State :=
  let pm := combineFlags true (who.map fun m => s.spPermissive m p)
  let rs := combineFlags false (who.map fun m => s.spRestrictive m)
  let before := (s.reg .agreed rSpLatch).toNat
  let latch := flagsAt rs 3 14
  let new := countBits (BitVec.ofNat 14 latch &&& ~~~BitVec.ofNat 14 before).toNat
  let s := s.setReg .agreed rSpStat (BitVec.ofNat 32 (statOf pm rs))
  let s := (s.setReg .agreed rSpLatch (BitVec.ofNat 32 latch)).incF .agreed fSpCountViolations new
  let s := (s.putF .agreed fSpWindowInrange (flagsAt pm 4 4)).putF .agreed fSpWindowPermit (flagsAt pm 8 4)
  let s := (s.putF .agreed fSpSlsactExceeded (255 - flagsAt pm 12 8)).putF .agreed fSpSlsactSelected (flagsAt rs 17 8)
  let s := s.putF .agreed fSpSlsactSupervised (flagsAt rs 25 8)
  let v := min 65535 (combineSpeed (who.map fun m => (s.sp m).vAt p s.now) / 10)
  let s := (s.putF .agreed fSpVsupV v).maxF .agreed fSpVsupVmax v
  match (s.lane.inOrder.filter who.contains).head? with
  | none => s
  | some m =>
    let x := s.sp m
    let s := (s.putPos .agreed rSpRef1lo rSpRef1hi x.ax1.ref).putPos .agreed rSpRef2lo rSpRef2hi x.ax2.ref
    let rel := fun ax => if x.berth then clamp32 (toTenths (s.relPos m ax)) else 0
    let s := (s.putF .agreed fSpRel1Rel (rel 1)).putF .agreed fSpRel2Rel (rel 2)
    s.putF .agreed fSpDiscD (min 0xFFFFFFFF (s.discrepancy m / posUnit))

/-- The flags of a mast's contribution that differ from the combined ones, packed as SP_DISAGREE carries them. Of two
contributing masts only the one holding the permissive value is named (R269). -/
def State.spDiffer (s : State) (p : SpParams) (who : List Mast) (m : Mast) : Nat :=
  let pm := combineFlags true (who.map fun m => s.spPermissive m p)
  let rs := combineFlags false (who.map fun m => s.spRestrictive m)
  let mine := statOf (s.spPermissive m p) (s.spRestrictive m)
  let x := (BitVec.ofNat 8 (statOf pm rs) ^^^ BitVec.ofNat 8 mine).toNat
  let y := (BitVec.ofNat 14 (flagsAt rs 3 14) ^^^ BitVec.ofNat 14 (s.sp m).latches).toNat
  y * 256 + x

/-- Disagreement of a mast at an action instant (R269): the third in a row raises SP_DISAGREE, and in TRIPLEX the mast
requests fail-silent. -/
def State.spDisagree (s : State) (p : SpParams) (who : List Mast) (m : Mast) : State :=
  let d := s.spDiffer p who m
  let x := s.sp m
  let n := if d = 0 then 0 else x.differs + 1
  let s := s.setSp m { x with differs := n }
  let s := s.putF .agreed fSpDisagMasts (withBit (s.getF .agreed fSpDisagMasts) m.code (d != 0))
  if n = 3 then
    let s := (s.raise evSpDisagree m.code d).incF .agreed fSpDisagCount 1
    if who.length = 3 then s.requestSilent m evSpDisagree else s
  else s

/-- The supervisors at an action instant: the pending input acknowledgement, selections, the agreed status and
disagreements. -/
def State.spAtInstant (s : State) : State :=
  match s.sup.params with
  | none => s
  | some p =>
    let s := if s.sup.ackPending then
        ({ s with sup := { s.sup with ackPending := false } }).acknowledge 0x3FFF 2
      else s
    let s := s.spMasts.foldl (fun s m => (s.spSelect m p).showForce m) s
    let who := s.spMasts.filter s.votes
    let s := s.spMasts.foldl (fun s m =>
      (s.putF (.mast m) fSpSpeedV1 (min 65535 ((s.sp m).speedAt p 1 s.now / 10))).putF (.mast m) fSpSpeedV2
        (min 65535 ((s.sp m).speedAt p 2 s.now / 10))) s
    let s := s.spPublish p who
    let s := who.foldl (fun s m => s.spDisagree p who m) s
    let bits := (List.range 24).filter fun o => decide (2 ≤ (who.filter fun m => bitOf (s.forceMask m) o).length)
    s.putF .agreed fFiSupvForced ((bits.map fun o => 2 ^ o).foldl (· + ·) 0)

/-! ## Activation (R252, R254, R258, R270) -/

/-- A mast's supervisor is activated at BOOT or wake, its self-test passed: nothing latched, no reference (reason 5). -/
def State.spActivate (s : State) (m : Mast) : State :=
  let s := s.setSp m { active := true, selftest := true, activated := s.now }
  (s.raiseM m evSpBerthLost 5 0).showForce m

/-- The supervisors stop: STANDBY, RECOVERY or SAFE (R25). -/
def State.spStop (s : State) : State :=
  let s := { s with sup := { s.sup with masts := s.sup.masts.map fun _ x => { x with active := false } } }
  let s := s.putF .agreed fSpStatActive 0
  Mast.all.foldl (fun s m => s.showForce m) s

/-- The supervisor state the jury mast takes over, with the position counters and logs (R270). -/
def State.spCopy (s : State) (src dst : Mast) : State :=
  let s := s.setSp dst { s.sp src with differs := 0 }
  (s.setAxle dst 1 { s.axle src 1 with repairs := [] }).setAxle dst 2 { s.axle src 2 with repairs := [] }

end Sys2Proof.Machine
end

