-- ==== Sys2Proof/Machine/FieldFrames.lean ====
section
/-!
DEFINITION. Frames between the masts and the field engine, and what a released field item shows (R221 to R225, R228, R229,
R240, R241).
-/
namespace Sys2Proof.Machine

/-- Do all outputs have to stay off: no accepted FIELD section, or a supervisor that is not active (R249, R272)? -/
def State.outputsHeld (s : State) (m : Mast) : Bool := s.field.fsec.isNone || !(s.sp m).active

/-- Outputs of an image whose item fails the exit check or is malformed (R147, R228). -/
def badOutputs (items : List Item) : List Nat :=
  (List.range 24).filter fun o =>
    items.any fun i => i.source == 0x8001 + o && !(i.tagOk && (outputValue i).isSome)

/-- The commands of a mast's position (R228): the demand, the image giving way to the previous command where its item failed the
check (R148), and nothing the supervisor forces off. -/
def State.positionCommands (s : State) (m : Mast) (items : List Item) (bad : List Nat) : Nat :=
  if s.outputsHeld m then 0
  else
    let badMask := (bad.map fun o => 2 ^ o).foldl (· + ·) 0
    let inForce := s.inMode [.run, .hold]
    let base := if inForce then maskedTake badMask (s.field.masts.get m).placed (imageMask items) else imageMask items
    let d := s.demandOn m base
    maskedTake (s.forceMask m) 0 d

/-- The CRC of the FIELD section a mast holds (R222). -/
def State.ownCfgCrc (s : State) : Nat := if s.field.fsec.isSome then (crc32c s.field.body).toNat else 0

/-- The LANE byte (R222). -/
def State.laneByte (s : State) : Nat :=
  let allOff := !s.inMode [.run, .hold] && !(s.ctl.mode == .service && s.getF .agreed fFiSvcEnEn != 0)
  s.lane.lane.code + 4 * b2n allOff + 8 * b2n (s.lane.lane == .duplex)

/-- A command frame (R222). -/
def commandFrame (sender seq time onCur onAi lane cfg : Nat) : List Byte :=
  let body := natLe 1 0x43 ++ natLe 1 sender ++ natLe 2 seq ++ natLe 4 (time / sec) ++ natLe 4 (time % sec)
    ++ natLe 4 onCur ++ natLe 4 onAi ++ natLe 1 lane ++ natLe 3 0 ++ natLe 4 cfg
  body ++ natLe 4 (crc32c body).toNat

/-- A configuration frame (R223). -/
def configFrame (sender seq index : Nat) (fsec : List Byte) : List Byte :=
  let body := natLe 1 0x47 ++ natLe 1 sender ++ natLe 2 seq ++ natLe 1 index ++ natLe 3 0
    ++ ((slice fsec (32 * index) 32) ++ List.replicate 32 0).take 32
  body ++ natLe 4 (crc32c body).toNat

/-- Command links carry configured frames only from step 8 of R29 on (R34, R223). -/
def State.linksConfigured (s : State) : Bool := s.ctl.mode != .boot || decide (s.ctl.stepAt 1050 ≤ s.now)

/-- COMMAND_FRAME_SEND (R221 to R223, R228, R229): a mast forms its frame of this 50 µs period. `damaged` lists outputs
(0 for output 1) whose item fails this mast's exit check. -/
def execCommandFrameSend (t : Nat) (m : Mast) (damaged : List Nat) (s : State) : Result :=
  let s := s.advance t
  if !s.field.powered || !(s.mast m).alive || !s.linksConfigured then ok s
  else
    let x := s.field.masts.get m
    let sender := s.senderByte m
    let put := fun (s : State) (y : FieldMast) => { s with field := { s.field with masts := s.field.masts.set m y } }
    let cfg := s.ownCfgCrc
    if s.field.fsec.isSome && x.engineCrc != cfg then
      ok (put s { x with seq := (x.seq + 1) % 65536, cfgIndex := (x.cfgIndex + 1) % 16,
                         lastFrame := configFrame sender x.seq x.cfgIndex s.field.body })
    else
      let next := match s.lane.decision with | some d => d.items | none => s.lane.inForce
      let bad := badOutputs s.lane.inForce ++ damaged
      let cur := s.positionCommands m s.lane.inForce bad
      let ai := if s.lane.decision.isSome then s.positionCommands m next (badOutputs next ++ damaged) else cur
      let failed := if s.inMode [.run, .hold] then next.filter fun i =>
          decide (0x8001 ≤ i.source ∧ i.source ≤ 0x8018) && (badOutputs next ++ damaged).contains (i.source - 0x8001)
        else []
      let s := failed.foldl (fun s i => s.exitFail m i) s
      let s := match s.sup.react with
        | some c =>
          if s.forceMask m = 0 then s
          else { (s.putF .agreed fSpLastvReactUs (min 65535 ((s.now - c) / us))) with sup := { s.sup with react := none } }
        | none => s
      let frame := commandFrame sender x.seq (s.time.tb.get m / 2 ^ 32) cur ai s.laneByte cfg
      ok ((put s { x with seq := (x.seq + 1) % 65536, lastFrame := frame, placed := cur }).putF (.mast m) fFiOutCmdOn cur)

/-- Is a frame of the right type, length, sender and CRC (R221, R240)? -/
def frameOk (m : Mast) (typ len : Nat) (bs : List Byte) : Bool :=
  bs.length == len && fieldAt bs 0 1 == typ && Mast.ofCode (fieldAt bs 1 1) == m &&
  fieldAt bs (len - 4) 4 == (crc32c (bs.take (len - 4))).toNat

/-- Does SEQ advance by 1 (R240)? The first frame of a link sets it. -/
def FieldLink.seqOk (l : FieldLink) (seq : Nat) : Bool :=
  match l.seq with
  | some q => (q + 1) % 65536 == seq
  | none => true

/-- A valid frame ends a silence whose timeout has not expired (R240). -/
def State.linkHeard (s : State) (m : Mast) (l : FieldLink) : State :=
  let l := { l with valid := true, silent := if l.expired then l.silent else none }
  let s := { s with field := { s.field with links := s.field.links.set m l } }
  match s.field.posOfLink m with
  | some p =>
    let x := s.field.pos p
    if l.expired ∨ x.silence ∨ x.fresh then s else { s with field := s.field.setPos p { x with lostAt := none } }
  | none => s

/-- The 496 bytes a link's 16 configuration frames deliver, if all have come (R223). (DEDUCED, log entry 36) -/
def FieldLink.delivered (l : FieldLink) : Option (List Byte) :=
  if (List.range 16).all fun i => l.config.any fun e => e.1 == i then
    some (((List.range 16).flatMap fun i => match l.config.find? (fun e => e.1 == i) with | some e => e.2 | none => []).take 496)
  else none

/-- The field engine adopts a configuration when two assigned links have delivered it alike, and the CFGCRC of their command
frames, where they have sent any, is its CRC (R223). (DEDUCED, log entry 36) -/
def State.tryAdopt (s : State) : State :=
  if s.field.adopted.isSome then s
  else
    let links := [s.field.posA, s.field.posB, s.field.posC].filterMap FieldPos.link
    let given := links.filterMap fun m =>
      let l := s.field.links.get m
      match l.delivered with
      | some b => if l.cfgCrc = 0 ∨ l.cfgCrc = (crc32c b).toNat then some b else none
      | none => none
    match given.find? (fun b => decide (2 ≤ (given.filter (· == b)).length)) with
    | some b =>
      let c := parseField b
      let crc := (crc32c b).toNat
      let s := { s with field := { s.field with adopted := some c, adoptedCrc := crc } }
      let s := (s.putF .agreed fFiCfgcrcCrc crc).putF .agreed fMcInhibitConfig 0
      let s := c.outputs.zipIdx.foldl (fun s e => s.putF .agreed (fFiOutSilence.plus (4 * e.2)) e.1.1) s
      s.fieldRegime.showField
    | none => s

/-- CONFIG_FRAME_RECEIVED (R223). (DEDUCED, log entry 36) -/
def execConfigFrameReceived (t : Nat) (m : Mast) (bytes : List Byte) (s : State) : Result :=
  let s := s.advance t
  if !s.field.powered then ok s
  else
    let l := s.field.links.get m
    let seq := fieldAt bytes 2 2
    let i := fieldAt bytes 4 1
    if !frameOk m 0x47 44 bytes || !l.seqOk seq || decide (15 < i) then
      ok ({ s with field := { s.field with links := s.field.links.set m { l with seq := none } } }.linkReject m)
    else
      let l := { l with seq := some seq, config := (i, slice bytes 8 32) :: l.config.filter fun e => e.1 != i }
      ok ((s.linkHeard m l).tryAdopt.showField)

/-- COMMAND_FRAME_RECEIVED (R224, R227, R229, R240): the field engine checks a frame and, where the link is connected and in
use, the position takes its ON_CUR. -/
def execCommandFrameReceived (t : Nat) (m : Mast) (bytes : List Byte) (s : State) : Result :=
  let s := s.advance t
  if !s.field.powered then ok s
  else
    let l := s.field.links.get m
    let seq := fieldAt bytes 2 2
    if !frameOk m 0x43 32 bytes || !l.seqOk seq then
      ok ({ s with field := { s.field with links := s.field.links.set m { l with seq := none } } }.linkReject m)
    else
      let l := { l with
        seq := some seq, at' := s.now, time := fieldAt bytes 4 4 * sec + fieldAt bytes 8 4 + Config.linkLatency
        onCur := fieldAt bytes 0xC 4, onAi := fieldAt bytes 0x10 4, lane := fieldAt bytes 0x14 1, cfgCrc := fieldAt bytes 0x18 4 }
      let s := (s.linkHeard m l).tryAdopt.formEngineTime
      match s.field.posOfLink m with
      | some p =>
        let x := s.field.pos p
        if l.expired || (x.silence && !x.fresh) then ok s.showField else ok (s.posTake p l.onCur).showField
      | none => ok s.showField

/-- STATUS of an input frame (R224). -/
def State.inputStatus (s : State) : Nat :=
  (s.reg .agreed rFiStat).toNat / 256 % 256 + 256 * ((s.reg .agreed rFiXbar).toNat % 64)
    + 2 ^ 16 * b2n s.field.adopted.isSome + 2 ^ 17 * s.field.regime

/-- An input frame (R224). -/
def State.inputFrame (s : State) (link seq : Nat) (items : List Item) : List Byte :=
  let body := natLe 1 0x52 ++ natLe 1 link ++ natLe 2 seq ++ natLe 4 s.inputStatus ++ natLe 4 s.field.adoptedCrc
    ++ natLe 1 items.length ++ natLe 3 0 ++ items.flatMap Item.bytes
  body ++ natLe 4 (crc32c body).toNat

/-- INPUT_FRAME_SEND (R224, R225): up to 7 queued items leave on every powered link. -/
def execInputFrameSend (t : Nat) (s : State) : Result :=
  let s := s.advance t
  if !s.field.powered then ok s
  else
    ok { s with field := { s.field with
      sent := s.field.queue.take 7
      queue := s.field.queue.drop 7
      links := s.field.links.map fun m l =>
        if (s.mast m).powered then { l with outSeq := (l.outSeq + 1) % 65536 } else l } }

/-- The items of a frame, one after another. -/
def parseItems : Nat → List Byte → List Item
  | 0, _ => []
  | n + 1, bs =>
    let len := fieldAt bs 0x10 2
    Item.ofBytes (bs.take 24) (slice bs 24 len) :: parseItems n (bs.drop (24 + len))

/-- INPUT_FRAME_RECEIVED (R224, R135, R241): a mast checks its input frame; its items arrive, and a mast whose link the
STATUS shows silent requests fail-silent. -/
def execInputFrameReceived (t : Nat) (m : Mast) (bytes : List Byte) (s : State) : Result :=
  let s := s.advance t
  if !(s.mast m).alive then ok s
  else
    let n := bytes.length
    if n < 20 || fieldAt bytes 0 1 != 0x52 || fieldAt bytes 1 1 != m.code || 7 < fieldAt bytes 12 1 ||
        fieldAt bytes (n - 4) 4 != (crc32c (bytes.take (n - 4))).toNat then
      ok (s.incF (.mast m) fFiLinkRxerr 1)
    else
      let x := s.field.masts.get m
      let s := { s with field := { s.field with
        masts := s.field.masts.set m { x with
          heard := s.now, inSeq := some (fieldAt bytes 2 2), engineCrc := fieldAt bytes 8 4 } } }
      let items := parseItems (fieldAt bytes 12 1) (bytes.drop 16)
      let s := if s.intakes m then items.foldl (fun s i => s.arrive m i) s else s
      if bitOf (fieldAt bytes 4 4) (4 + m.code) ∧ s.votes m then ok (s.requestSilent m evFiLinkSilent) else ok s

/-- MAST_INPUT_FRAME_TIMEOUT (R241): no valid input frame for the silence timeout. -/
def execMastInputFrameTimeout (t : Nat) (m : Mast) (s : State) : Result :=
  let s := s.advance t
  if s.field.powered && (s.mast m).alive && s.votes m &&
      decide ((s.field.masts.get m).heard + s.silenceTimeout ≤ s.now) then
    ok (s.requestSilent m evFiLinkSilent)
  else ok s

/-- Set one bit of a LO/HI register pair (input 1 is bit 0 of LO). -/
def State.putInputBit (s : State) (lo hi : Nat) (i : Nat) (b : Bool) : State :=
  let a := if i ≤ 32 then lo else hi
  s.setReg .agreed a (BitVec.ofNat 32 (withBit (s.reg .agreed a).toNat ((i - 1) % 32) b))

/-- What a released field item shows in the agreed registers, and to the supervisors (R243 to R247, R257, R267). -/
def State.fieldRelease (s : State) (i : Item) : State :=
  let v := i.value
  if 0x0101 ≤ i.source ∧ i.source ≤ 0x0130 then
    let n := i.source - 0x0100
    let level := fieldAt v 0 1 % 2 == 1
    let inv := fieldAt v 1 1 % 2 == 1
    let s := (s.putInputBit rFiInLo rFiInHi n level).putInputBit rFiInvLo rFiInvHi n inv
    let s := { s with field := { s.field with relIns := (n, level, inv) :: s.field.relIns.filter fun e => e.1 != n } }
    s.spInput n level (!inv) i.time
  else if 0x0141 ≤ i.source ∧ i.source ≤ 0x0158 then
    let n := i.source - 0x0140
    let on := fieldAt v 0 1 == 1
    let st := fieldAt v 1 1
    let s := s.putF .agreed fFiPairOn (withBit (s.getF .agreed fFiPairOn) (n - 1) on)
    let s := s.putF .agreed fFiPairdiscDisc (withBit (s.getF .agreed fFiPairdiscDisc) (n - 1) (st == 4))
    let s := { s with field := { s.field with relPairs := (n, on, st) :: s.field.relPairs.filter fun e => e.1 != n } }
    s.spPair n on
  else if 0x0161 ≤ i.source ∧ i.source ≤ 0x0178 then
    let n := i.source - 0x0160
    let put := fun (s : State) (f : Fld) (x : Nat) => s.putF .agreed (f.plus (4 * (n - 1))) x
    let st := fieldAt v 2 1
    let tst := fieldAt v 4 1
    let s := s.putF .agreed fFiOutRbRb (withBit (s.getF .agreed fFiOutRbRb) (n - 1) (bitOf (fieldAt v 0 1) 0))
    let s := s.putF .agreed fFiOutVotedOn (withBit (s.getF .agreed fFiOutVotedOn) (n - 1) (bitOf st 0))
    let s := put (put (put s fFiOutRb (fieldAt v 0 1)) fFiOutMid (fieldAt v 1 1)) fFiOutBranches (fieldAt v 1 1 / 8)
    let s := put (put (put s fFiOutClim (st / 2)) fFiOutTherm (st / 4)) fFiOutLocked (st / 8)
    let s := put (put (put s fFiOutOpenload (st / 16)) fFiOutExtfeed (st / 32)) fFiOutSwfault (fieldAt v 3 1)
    put (put (put s fFiOutLasttest tst) fFiOutDark (tst / 16)) fFiOutRetries (fieldAt v 5 1)
  else if i.source = 0x0180 then
    let s := s.putF .agreed fFiSupplyState (fieldAt v 0 1)
    if bitOf (fieldAt v 1 1) 7 then s.raiseLimited s.lane.active.mask 0 evFiQueueFull s.field.notFormed 0 else s
  else s

end Sys2Proof.Machine
end

