-- ==== Sys2Proof/Machine/Time.lean ====
section
/-!
DEFINITION. Network time: the clock servo, steps, transmit timestamps, comparators and the action instant's grid
(R150 to R169, R176 to R179).
-/
namespace Sys2Proof.Machine

/-- A signed value clamped to a 32-bit event argument (R181). -/
def clampArg (v : Int) : Nat := unsigned 32 (max (-(2 ^ 31 : Nat) : Int) (min v ((2 ^ 31 - 1 : Nat) : Int)))

/-- The servo states of `TB_STAT.STATE` (R156). -/
def tbUnset : Nat := 0
def tbAcquiring : Nat := 1
def tbLocked : Nat := 2
def tbHoldover : Nat := 3
def tbRefused : Nat := 4

/-- The servo's state (R156). -/
def State.servo (s : State) : Nat := s.getF .agreed fTbStatState

/-- The servo takes a state; HOLDOVER and REFUSED note when they were entered (`TB_HOLD`). -/
def State.setServo (s : State) (st : Nat) : State :=
  let s := s.putF .agreed fTbStatState st
  { s with time := { s.time with heldFrom := if st = tbHoldover ∨ st = tbRefused then some s.now else none } }

/-- The step limit in nanoseconds. -/
def State.stepLimit (s : State) : Nat := s.getF .agreed fTbSteplimLimitUs * 1000

/-- An offset beyond the step limit is refused (R156, R157): nothing is applied and the rate is held. -/
def State.refuseStep (s : State) (off : Int) : State :=
  (s.setServo tbRefused).raise evTimeStepRefused (clampArg (off.tdiv 1000)) (s.getF .agreed fTbSteplimLimitUs)

/-- The servo measures an offset from its source (R156). (DEDUCED, log entry 98) -/
def State.measured (s : State) (src : Nat) (off : Int) : State :=
  let s := s.putF .agreed fTbStatSrc src
  let s := { s with time := { s.time with following := true } }
  let beyond := decide (s.stepLimit < off.natAbs)
  let st := s.servo
  if st = tbUnset then (s.setServo tbAcquiring).raise evTimeAcquired src (clampArg (off.tdiv 1000000))
  else if st = tbAcquiring then
    if beyond && s.getF .agreed fTbStatAcqDone == 1 then s.refuseStep off
    else if off.natAbs ≤ 1000 then
      let n := s.time.within + 1
      let s := { s with time := { s.time with within := n } }
      if 16 ≤ n then (s.setServo tbLocked).raise evTimeLocked src (clampArg off) else s
    else { s with time := { s.time with within := 0 } }
  else if st = tbRefused then if beyond then s else s.setServo tbLocked
  else if beyond then s.refuseStep off
  else if st = tbHoldover then s.setServo tbLocked
  else s

/-- 2 to the power of a signed logarithm of seconds, in nanoseconds. -/
def logNs (l : Int) : Nat := if 0 ≤ l then sec * 2 ^ l.toNat else sec / 2 ^ l.natAbs

/-- The order of the default best master clock algorithm (R155): priority 1, class, accuracy, variance, priority 2, identity, steps
removed, port; the lesser list is better. (PRESUMED, log entry 132) -/
def Heard.rank (h : Heard) : List Nat :=
  [h.ann.priority1, h.ann.cls, h.ann.accuracy, h.ann.variance, h.ann.priority2, h.gm, h.ann.steps, h.port]

/-- Is a list of numbers before another of the same length? -/
def listBefore : List Nat → List Nat → Bool
  | x :: xs, y :: ys => decide (x < y) || (x == y && listBefore xs ys)
  | _, _ => false

/-- The clock identity of the module: the EUI-64 of interface 1's MAC address. (PRESUMED, log entry 132) -/
def State.ownClock (s : State) : Nat :=
  let mac := match s.net.ifaces[0]? with | some i => i.mac | none => 0
  mac / 2 ^ 24 * 2 ^ 40 + 0xFFFE * 2 ^ 24 + mac % 2 ^ 24

/-- The module's own clock as the algorithm ranks it: default quality. (PRESUMED, log entry 132) -/
def State.ownRankPtp (s : State) : List Nat :=
  [s.time.priority1, 248, 0xFE, 0xFFFF, s.time.priority2, s.ownClock, 0, 0]

/-- Does an announced grandmaster stand: heard within ANN_TIMEOUT announce intervals (R449)? -/
def State.heardNow (s : State) (h : Heard) : Bool := decide (s.now < h.at' + s.time.annTimeout * logNs s.time.logAnnounce)

/-- The best of a list of grandmasters. -/
def bestHeard : List Heard → Option Heard
  | [] => none
  | h :: rest =>
    match bestHeard rest with
    | none => some h
    | some b => if listBefore b.rank h.rank then some b else some h

/-- The grandmaster the best master clock algorithm takes across the four ports (R155): the best one that stands, on a slave-only
port, or on any other where it is better than the module's own clock. (PRESUMED, log entry 132) -/
def State.bestMaster (s : State) : Option Heard :=
  bestHeard (s.time.heard.filter fun h => s.heardNow h &&
    (s.time.roles[h.port - 1]?.getD 0 == 3 || listBefore h.rank s.ownRankPtp))

/-- The module follows a grandmaster (R156): a change raises GM_CHANGE. -/
def State.followMaster (s : State) (h : Heard) : State :=
  let s := s.putF .agreed fTbStatPort (h.port - 1)
  let s :=
    match s.time.gm with
    | none => s
    | some g => if g = h.gm then s else (s.incF .agreed fTbStatGmchg 1).raise evGmChange h.gm h.port
  let at' := if s.time.gm = some h.gm then s.time.syncAt else s.now
  { s with time := { s.time with gm := some h.gm, gmPort := h.port, syncAt := at' } }

/-- An Announce message is noted, and the best master clock algorithm runs. -/
def State.announced (s : State) (gm port : Nat) (a : Announce) : State :=
  let rest := s.time.heard.filter fun h => !(h.gm == gm && h.port == port)
  let s : State := { s with time := { s.time with heard := ⟨gm, port, a, s.now⟩ :: rest } }
  match s.bestMaster with
  | some h => s.followMaster h
  | none => s

/-- PTP_MESSAGE (R155, R156): an agreed message of grandmaster `gm` on `port` by protocol `proto` (1 IEEE 1588, 2 IEEE
802.1AS): an Announce, or a Sync with its Follow_Up that lets the servo measure an offset in nanoseconds. Only the grandmaster and
the port the algorithm has taken are measured. (DESIGN CHOICE, log entry 26) -/
def execPtpMessage (t : Nat) (gm port proto : Nat) (body : PtpBody) (s : State) : Result :=
  let s := s.advance t
  let role := s.time.roles[port - 1]?.getD 0
  if s.ctl.mode = .boot ∨ s.ctl.mode = .standby ∨ s.voters = [] ∨ s.time.protocol ≠ proto ∨ proto = 0 ∨ 2 < proto ∨ s.getF .agreed fSlStatRole = 1
    ∨ (role ≠ 1 ∧ role ≠ 3) ∨ (s.time.accept ≠ [] ∧ !s.time.accept.contains gm)
  then ok s
  else
    match body with
    | .announce a => ok (s.announced gm port a)
    | .sync offset =>
      if s.time.gm ≠ some gm ∨ s.time.gmPort ≠ port then ok s
      else
        let s := { s with time := { s.time with syncAt := s.now } }
        match offset with
        | some off => ok (s.measured proto off)
        | none => ok s

/-- The time source is lost (R449, R156). (DESIGN CHOICE, log entry 26) -/
def State.sourceLost (s : State) : State :=
  let s := { s with time := { s.time with following := false, within := 0 } }
  if s.servo = tbLocked ∨ s.servo = tbRefused then
    (s.setServo tbHoldover).raise evTimeHoldover (s.getF .agreed fTbStatSrc) 0
  else s

/-- Has the followed source been lost (R449): three Sync intervals without a Sync of the grandmaster, its announce receipt timeout
with no other grandmaster to take, or on the stay link three cycles without a TIME frame? -/
def State.lossDue (s : State) : Bool :=
  if s.getF .agreed fTbStatSrc = 3 then decide (s.time.frameAt + 3 * max 1 (s.getF .agreed fTbAicycleCycleUs * 1000) ≤ s.now)
  else decide (s.time.syncAt + 3 * logNs s.time.logSync ≤ s.now) ||
    (!(s.time.heard.any fun h => some h.gm == s.time.gm && s.heardNow h) && s.bestMaster.isNone)

/-- TIME_SOURCE_LOST (R449): a condition of R449 has come about. -/
def execTimeSourceLost (t : Nat) (s : State) : Result :=
  let s := s.advance t
  if s.time.following && s.lossDue then ok s.sourceLost else ok s

/-- TB_OFFSET_WRITE (R157): the value the masts in `writers` have written takes effect at the action instant; not in STANDBY (R42),
and not in a module that takes no time source (R450). -/
def execTbOffsetWrite (t : Nat) (writers : Per Bool) (value : Word) (s : State) : Result :=
  let s := s.advance t
  if !s.agreed writers ∨ s.ctl.mode = .standby ∨ s.time.protocol = 0 then ok s
  else
    let v := value.toInt
    if s.stepLimit < v.natAbs then ok (s.refuseStep v)
    else
      let s := { s with time := { s.time with slew := v * (2 ^ 32 : Nat) } }
      ok (s.putF .agreed fTbSlewremNs value.toNat)

/-! ## Comparators (R176 to R179) -/

/-- Comparator `n`'s field. -/
def cmpF (f : Fld) (n : Nat) : Fld := f.plus (0x20 * n)

/-- A comparator field of mast `m`. -/
def State.cmp (s : State) (m : Mast) (n : Nat) (f : Fld) : Nat := s.getF (.mast m) (cmpF f n)

/-- A mast's timebase in nanoseconds. -/
def State.tbNs (s : State) (m : Mast) : Nat := s.time.tb.get m / 2 ^ 32

/-- A time target in nanoseconds. -/
def State.cmpTime (s : State) (m : Mast) (n : Nat) : Nat :=
  (s.cmp m n fTbCmpt2Value * 2 ^ 32 + s.cmp m n fTbCmpt1Value) * sec + s.cmp m n fTbCmpt0Value % 2 ^ 30

/-- A position target in counter units. (DEDUCED, log entry 27) -/
def State.cmpPos (s : State) (m : Mast) (n : Nat) : Int :=
  signed 48 (s.cmp m n fTbCmpt1Value % 65536 * 2 ^ 32 + s.cmp m n fTbCmpt0Value) * (posUnit : Nat)

/-- Set a comparator's time target. -/
def State.setCmpTime (s : State) (m : Mast) (n v : Nat) : State :=
  let c := Copy.mast m
  let s := s.putF c (cmpF fTbCmpt0Value n) (v % sec)
  let s := s.putF c (cmpF fTbCmpt1Value n) (v / sec % 2 ^ 32)
  s.putF c (cmpF fTbCmpt2Value n) (v / sec / 2 ^ 32)

/-- The EVT action (R177): the local bit, the fire time, the interrupts and CMP_FIRED. -/
def State.cmpEvent (s : State) (m : Mast) (n time : Nat) : State :=
  let c := Copy.mast m
  let f : Fld := if n < 32 then ⟨rTbCmplocalLo, n, n⟩ else ⟨rTbCmplocalHi, n - 32, n - 32⟩
  let s := s.putF c f 1
  let s := s.putF c (cmpF fTbCmpfnsValue n) (time % sec)
  let s := s.putF c (cmpF fTbCmpfsValue n) (time / sec % 2 ^ 32)
  let s := s.interrupt m (s.cmp m n fTbCmpcfgIrqP + 2 * s.cmp m n fTbCmpcfgIrqC) (0x200 + n)
  if s.cmp m n fTbCmpcfgLog = 1 then
    s.raiseM m evCmpFired n (getBits (s.reg c (rTbCmpst + 0x20 * n)) 3 0)
  else s

/-- A comparator fires (R177): its status, its actions, and its re-arming. The firing is kept for the agreement of R179. -/
def State.cmpFire (s : State) (m : Mast) (n time : Nat) (stepped late : Bool) : State :=
  let c := Copy.mast m
  let s := s.putF c (cmpF fTbCmpstFired n) 1
  let s := s.incF c (cmpF fTbCmpstFires n) 1
  let s := if stepped then s.putF c (cmpF fTbCmpstStepped n) 1 else s
  let s := if late then s.putF c (cmpF fTbCmpstLate n) 1 else s
  let s :=
    if s.cmp m n fTbCmpcfgPeriodic = 1 && s.cmp m n fTbCmpcfgSrc == 1 then
      s.setCmpTime m n (s.cmpTime m n + s.cmp m n fTbCmpperNs)
    else s.putF c (cmpF fTbCmpcfgArm n) 0
  let s := if s.cmp m n fTbCmpcfgEvt = 1 then s.cmpEvent m n time else s
  let s := if s.cmp m n fTbCmpcfgDma = 1 then s.dmaDoorbell m (s.cmp m n fTbCmpcfgDmach) else s
  let s := if s.cmp m n fTbCmpcfgOut = 1 then s.queuedFire m (s.cmp m n fTbCmpcfgArg) n else s
  let dbus := if s.cmp m n fTbCmpcfgDbus = 1 then some (s.cmp m n fTbCmpcfgArg) else none
  { s with pos := { s.pos with firings := s.pos.firings ++ [⟨n, m, time, 0, dbus⟩] } }

/-- Is a comparator armed on module time? -/
def State.cmpTimed (s : State) (m : Mast) (n : Nat) : Bool :=
  s.cmp m n fTbCmpcfgArm == 1 && s.cmp m n fTbCmpcfgSrc == 1

/-- TIME_COMPARATOR_FIRE (R176, R177): the mast's timebase has reached targets; they fire in ascending number. -/
def execTimeComparatorFire (t : Nat) (m : Mast) (s : State) : Result :=
  let s := s.advance t
  if !s.triadRuns m then ok s
  else
    ok ((List.range 64).foldl (fun s n =>
      if s.cmpTimed m n && decide (s.cmpTime m n ≤ s.tbNs m) then s.cmpFire m n (s.tbNs m) false false else s) s)

/-- A forward step from `before` to `after` passes time targets (R178): each fires once, and a periodic one goes on at the
first period boundary after the step. -/
def State.cmpStep (s : State) (m : Mast) (before after : Nat) : State :=
  (List.range 64).foldl (fun s n =>
    let target := s.cmpTime m n
    if s.cmpTimed m n && decide (before < target ∧ target ≤ after) then
      let s := s.cmpFire m n after true false
      if s.cmp m n fTbCmpcfgPeriodic = 1 then
        let p := max 1 (s.cmp m n fTbCmpperNs)
        s.setCmpTime m n (target + ((after - target) / p + 1) * p)
      else s
    else s) s

/-- Why arming is refused (R178): 0 where it is not. -/
def State.armReason (s : State) (m : Mast) (n : Nat) : Nat :=
  let src := s.cmp m n fTbCmpcfgSrc
  if s.cmp m n fTbCmpcfgRel = 1 ∧ !(s.sp m).berth then 2
  else if 2 ≤ src ∧ src ≤ 5 ∧ s.cmp m n fTbCmpcfgDir = 0 then 3
  else if src = 0 ∨ 5 < src then 4
  else if s.cmp m n fTbCmpcfgPeriodic = 1 ∧ (s.cmp m n fTbCmpperNs < 1000 ∨ 4000000000 < s.cmp m n fTbCmpperNs) then 5
  else 0

/-- Arming is refused, or a write while armed is discarded (R178). (DEDUCED, log entry 27) -/
def State.cmpRefuse (s : State) (m : Mast) (n reason : Nat) : State :=
  (s.putF (.mast m) (cmpF fTbCmpstReason n) reason).raiseM m evCmpArmRefused n reason

/-- The comparator is armed: a time target already past fires at once or is missed (R178). (DEDUCED, log entry 27) -/
def State.cmpArm (s : State) (m : Mast) (n : Nat) : State :=
  let c := Copy.mast m
  let s := s.putF c (cmpF fTbCmpcfgArm n) 1
  let keep := (s.pos.across.get m).filter fun e => e.n != n
  let s : State := { s with pos := { s.pos with across := s.pos.across.set m keep } }
  let now : Nat := s.tbNs m
  let target : Nat := s.cmpTime m n
  if s.cmpTimed m n && decide (target < now) then
    if s.cmp m n fTbCmpcfgPast = 0 then
      let s := s.cmpFire m n now false true
      s.raiseLimited (2 ^ m.code) (m.code * 64 + n) evCmpLate n (min 0xFFFFFFFF (now - target))
    else (s.putF c (cmpF fTbCmpstMissed n) 1).putF c (cmpF fTbCmpcfgArm n) 0
  else s

/-- The bits of `TB_CMPCFG` that are fields, without ARM. -/
def cmpCfgMask : Word := 0xFF1FFFFE

/-- A disarm: a comparator whose target is reached in this tick fires first (R178). -/
def State.cmpDisarm (s : State) (m : Mast) (n : Nat) : State :=
  let s := if s.cmpTimed m n && decide (s.cmpTime m n ≤ s.tbNs m) then s.cmpFire m n (s.tbNs m) false false else s
  s.putF (.mast m) (cmpF fTbCmpcfgArm n) 0

/-- TB_CMPCFG_WRITE (R178): a write arms, disarms or is refused. (DEDUCED, log entry 27) -/
def execTbCmpcfgWrite (t : Nat) (m : Mast) (n : Nat) (value : Word) (s : State) : Result :=
  let s := s.advance t
  if !s.triadRuns m || 63 < n then ok s
  else
    let c := Copy.mast m
    let old := s.reg c (rTbCmpcfg + 0x20 * n)
    if getBits old 0 0 = 1 then
      if value &&& cmpCfgMask ≠ old &&& cmpCfgMask then ok (s.cmpRefuse m n 1)
      else if getBits value 0 0 = 0 then ok (s.cmpDisarm m n) else ok s
    else
      let s := s.setReg c (rTbCmpcfg + 0x20 * n) (value &&& cmpCfgMask)
      if getBits value 0 0 = 0 then ok s
      else
        let r := s.armReason m n
        if r = 0 then ok (s.cmpArm m n) else ok (s.cmpRefuse m n r)

/-- Does a firing count on a voting mast (R179)? The firings of comparator `n` that do. -/
def State.countedFirings (s : State) (n : Nat) : List Firing :=
  s.pos.firings.filter fun f => f.n == n && s.votes f.mast

/-- Have voting masts enough firings of comparator `n` (R179)? -/
def State.firedAgreed (s : State) (n : Nat) : Bool :=
  let masts := s.voters.filter fun m => (s.countedFirings n).any fun f => f.mast == m
  decide (2 ≤ masts.length)

/-- The fire time published with an agreed firing: the agreeing mast in the earliest lane position (R179). -/
def State.agreedTime (s : State) (n : Nat) : Nat :=
  match s.lane.inOrder.findSome? (fun m => (s.countedFirings n).find? fun f => f.mast == m) with
  | some f => f.time
  | none => 0

/-- Comparators agreed at this action instant, ascending. -/
def State.newlyFired (s : State) : List Nat := (List.range 64).filter s.firedAgreed

/-- A firing that has set no bit by its second action instant raises CMP_DISAGREE, once per comparator (R179). -/
def State.cmpDisagree (s : State) : State :=
  let old := s.pos.firings.filter fun f => decide (1 ≤ f.instants) && s.votes f.mast
  (List.range 64).foldl (fun s n =>
    let masts := Mast.all.filter fun m => old.any fun f => f.n == n && f.mast == m
    if masts = [] then s else s.raise evCmpDisagree n ((masts.map fun m => 2 ^ m.code).foldl (· + ·) 0)) s

/-- The comparators' part of an action instant (R179): `TB_CMPFIRED` is rewritten. -/
def State.cmpAtInstant (s : State) : State :=
  let fired := s.newlyFired
  let bits := fun (lo : Nat) => (fired.filter fun n => decide (lo ≤ n ∧ n < lo + 32)).foldl (fun v n => v + 2 ^ (n - lo)) 0
  let s := s.putF .agreed fTbCmpfiredLoFired (bits 0)
  let s := s.putF .agreed fTbCmpfiredHiFired (bits 32)
  let times := fired.map fun n => (n, s.agreedTime n)
  let rest := s.pos.agreedFire.filter fun e => !fired.contains e.1
  let left := s.pos.firings.filter fun f => !(fired.contains f.n && s.votes f.mast)
  let s := { s with pos := { s.pos with firings := left, agreedFire := times ++ rest } }
  let s := s.cmpDisagree
  let kept := (s.pos.firings.filter fun f => f.instants == 0).map fun f => { f with instants := 1 }
  { s with pos := { s.pos with firings := kept } }

/-! ## Steps (R158) -/

/-- The step target in nanoseconds. -/
def State.stepTarget (s : State) : Nat :=
  (s.getF .agreed fTbStepshiValue * 2 ^ 32 + s.getF .agreed fTbStepsloValue) * sec
    + s.getF .agreed fTbStepnsValue % 2 ^ 30

/-- Every powered mast's timebase steps by the same amount; time comparators that a forward step passes fire. (DESIGN CHOICE, log entry 26) (DEDUCED, log entry 98) -/
def State.stepBy (s : State) (delta : Int) (kind : Nat) : State :=
  let old := s.time.tb
  let tb := old.map fun m v => if (s.masts.get m).powered then ((v : Int) + delta * (2 ^ 32 : Nat)).toNat else v
  let s := { s with time := { s.time with tb := tb, stepped := some kind } }
  let s := s.putF .agreed fTbStatAcqDone 1
  let s := s.raise evTimeStepped (clampArg (delta.tdiv 1000)) s.ctl.mode.code
  Mast.all.foldl (fun s m =>
    if s.triadRuns m then s.cmpStep m (old.get m / 2 ^ 32) (tb.get m / 2 ^ 32) else s) s

/-- The step to the target registers. -/
def State.stepToTarget (s : State) (kind : Nat) : State :=
  s.stepBy ((s.stepTarget : Int) - s.moduleTime) kind

/-- FORCED_STEP (R158): `TB_STEPCMD` with KIND 1, in SERVICE or STOP; any other step command is discarded. (DEDUCED, log entry 95) -/
def execForcedStep (t : Nat) (writers : Per Bool) (key : Nat) (s : State) : Result :=
  let s := s.advance t
  if s.agreed writers && key == 0x5453 && s.inMode [.service, .stop] then
    let s := s.stepToTarget 1
    if tbLocked ≤ s.servo then ok (s.setServo tbLocked) else ok s
  else ok s

/-- INITIAL_ACQUISITION (R158): `TB_STEPCMD` with KIND 2, once after each module reset, in UNSET or ACQUIRING. (DEDUCED, log entry 98) -/
def execInitialAcquisition (t : Nat) (writers : Per Bool) (key : Nat) (s : State) : Result :=
  let s := s.advance t
  if s.agreed writers && key == 0x5453 && decide (s.servo ≤ tbAcquiring) && s.getF .agreed fTbStatAcqDone == 0 then
    ok (s.stepToTarget 2)
  else ok s

/-! ## Transmit timestamps and latching reads (R150, R161) -/

/-- Offset of a port's timestamp registers. -/
def tsqF (f : Fld) (port : Nat) : Fld := f.plus (0x20 * (port - 1))

/-- The CRC-32C of a timestamp entry over its identifier, seconds and nanoseconds (R161). (DEDUCED, log entry 131) -/
def stampCrc (id time : Nat) : Nat := (crc32c (natLe 2 id ++ natLe 8 (time / sec) ++ natLe 4 (time % sec))).toNat

/-- Is a copy of an entry intact? -/
def TxStamp.intact (e : TxStamp) : Bool := e.crc == stampCrc e.id e.time

/-- A frame with TSREQ has been sent on a port (R161): every mast has its entry, which waits for the next release. -/
def State.captureStamp (s : State) (port id time : Nat) : State :=
  let e : TxStamp := ⟨id % 65536, time, stampCrc (id % 65536) time⟩
  let l := s.time.stamps.mapIdx fun i (q : StampQueue) =>
    if i + 1 = port then { q with captured := q.captured.map fun _ l => l ++ [e] } else q
  { s with time := { s.time with stamps := l } }

/-- Put one entry into a mast's queue, or count it as discarded (R161). -/
def State.pushStamp (s : State) (m : Mast) (port : Nat) (e : TxStamp) : State :=
  let c := Copy.mast m
  match s.time.stamps[port - 1]? with
  | none => s
  | some q =>
    if 16 ≤ (q.queue.get m).length then
      let s := s.incF c (tsqF fTbTsqstatOvfcnt port) 1
      let s := s.putF c (tsqF fTbTsqstatOvf port) 1
      s.raiseLimited s.lane.active.mask port evTxtsOverflow port (s.getF c (tsqF fTbTsqstatOvfcnt port))
    else
      let q := { q with queue := q.queue.set m (q.queue.get m ++ [e]) }
      let s := { s with time := { s.time with stamps := s.time.stamps.set (port - 1) q } }
      s.putF c (tsqF fTbTsqstatCount port) (q.queue.get m).length

/-- A mast's entry number `k` of those captured: its own copy, or where that fails its CRC the one of the mast in the earliest lane
position whose copy is intact (R161, R138). -/
def State.stampOf (s : State) (q : StampQueue) (m : Mast) (k : Nat) : Option TxStamp :=
  let copy := fun (v : Mast) => ((q.captured.get v)[k]?).filter TxStamp.intact
  match copy m with
  | some e => some e
  | none => s.lane.inOrder.findSome? copy

/-- The release makes the entries captured before the action instant visible in every voting mast's queues (R161). -/
def State.releaseStamps (s : State) : State :=
  let early := fun (e : TxStamp) => decide (e.time ≤ s.time.lastAiTime)
  [1, 2, 3, 4].foldl (fun s port =>
    match s.time.stamps[port - 1]? with
    | none => s
    | some q =>
      let s := s.voters.foldl (fun s m =>
        (List.range (q.captured.get m).length).foldl (fun s k =>
          match (s.stampOf q m k).filter early with
          | some e => s.pushStamp m port e
          | none => s) s) s
      let l := s.time.stamps.mapIdx fun i (q : StampQueue) =>
        if i + 1 = port then { q with captured := q.captured.map fun _ l => l.filter fun e => !early e } else q
      { s with time := { s.time with stamps := l } }) s

/-- TB_TSQPOP (R161): the read takes the oldest entry into the holding registers. -/
def execTbTsqpop (t : Nat) (m : Mast) (tr : Triad) (port : Nat) (s : State) : Result :=
  let s := s.advance t
  if !s.triadRuns m then ok s
  else
    let c := Copy.mast m
    match s.time.stamps[port - 1]? with
    | none => ok s
    | some q =>
      match q.queue.get m with
      | [] => ok ((s.setReg c (rTbTsqpop + 0x20 * (port - 1)) 0).answer m tr (.done 0))
      | e :: rest =>
        let q := { q with queue := q.queue.set m rest }
        let s := { s with time := { s.time with stamps := s.time.stamps.set (port - 1) q } }
        let s := s.putF c (tsqF fTbTsqstatCount port) rest.length
        let s := s.putF c (tsqF fTbTsqnsValue port) (e.time % sec)
        let s := s.putF c (tsqF fTbTsqsloValue port) (e.time / sec % 2 ^ 32)
        let s := s.putF c (tsqF fTbTsqshiValue port) (e.time / sec / 2 ^ 32)
        let w := 2 ^ 31 + e.id
        let s := s.setReg c (rTbTsqpop + 0x20 * (port - 1)) (BitVec.ofNat 32 w)
        ok (s.answer m tr (.done w))

/-- TB_NOWNS_READ (R150): the read latches the seconds for the next two reads. (DEDUCED, log entry 102) -/
def execTbNownsRead (t : Nat) (m : Mast) (tr : Triad) (s : State) : Result :=
  let s := s.advance t
  if !s.triadRuns m then ok s
  else
    let c := Copy.mast m
    let now := s.tbNs m
    let s := s.putF c fTbNownsValue (now % sec)
    let s := s.putF c fTbNowsloValue (now / sec % 2 ^ 32)
    let s := s.putF c fTbNowshiValue (now / sec / 2 ^ 32)
    ok (s.answer m tr (.done (now % sec)))

/-- A position counter in whole 0.1 mm, as a 48-bit register value (R170). -/
def posWord (v : Int) : Nat := unsigned 48 (v / (posUnit : Nat))

/-- TB_POSLO_READ (R170): the read latches the high word. -/
def execTbPosloRead (t : Nat) (m : Mast) (tr : Triad) (ax : Nat) (s : State) : Result :=
  let s := s.advance t
  if !s.triadRuns m || !(ax == 1 || ax == 2) then ok s
  else
    let c := Copy.mast m
    let v := posWord (s.axle m ax).counter
    let s := s.putF c (fTbPosloPos.plus (0x20 * (ax - 1))) (v % 2 ^ 32)
    let s := s.putF c (fTbPoshiPos.plus (0x20 * (ax - 1))) (v / 2 ^ 32)
    ok (s.answer m tr (.done (v % 2 ^ 32)))

/-! ## The edge log's queries (R174) -/

/-- EDGE_LOG_QUERY (R174): a write of `TB_PQCTL`; GO starts a query. -/
def execEdgeLogQuery (t : Nat) (m : Mast) (value : Word) (s : State) : Result :=
  let s := s.advance t
  if !s.triadRuns m then ok s
  else
    let c := Copy.mast m
    let s := s.putF c fTbPqctlAxle (getBits value 16 16)
    if getBits value 31 31 = 0 then ok s
    else
      let s := s.putF c fTbPqctlResult 0
      ok { s with pos := { s.pos with query := s.pos.query.set m (some s.now) } }

/-- The time a mast asks for (`TB_PQSEC`, `TB_PQNS`): the register holds bits 31:0 of the seconds, and the rest are those of `now`. -/
def State.askedTime (s : State) (m : Mast) (now : Nat) : Nat :=
  (now / sec / 2 ^ 32 * 2 ^ 32 + s.getF (.mast m) fTbPqsecValue) * sec + s.getF (.mast m) fTbPqnsValue % 2 ^ 30

/-- A query's answer is shown (R174). -/
def State.answerQuery (s : State) (m : Mast) (a : LogAnswer) : State :=
  let c := Copy.mast m
  match a with
  | .future => s.putF c fTbPqctlResult 3
  | .tooOld => s.putF c fTbPqctlResult 2
  | .value v =>
    ((s.putF c fTbPqresloPos (posWord v % 2 ^ 32)).putF c fTbPqreshiPos (posWord v / 2 ^ 32)).putF c fTbPqctlResult 1

/-- EDGE_LOG_QUERY_DONE (R174): the query's answer is ready. -/
def execEdgeLogQueryDone (t : Nat) (m : Mast) (s : State) : Result :=
  let s := s.advance t
  match s.pos.query.get m with
  | none => ok s
  | some _ =>
    let s : State := { s with pos := { s.pos with query := s.pos.query.set m none } }
    let now := s.moduleTime
    ok (s.answerQuery m ((s.axle m (1 + s.getF (.mast m) fTbPqctlAxle)).query (s.askedTime m now) now))

/-! ## The action instant's grid (R165, R167) -/

/-- The cycle in nanoseconds and its offset. -/
def State.aiCycle (s : State) : Nat := max 1 (s.getF .agreed fTbAicycleCycleUs * 1000)
def State.aiOffset (s : State) : Nat := s.getF .agreed fTbAioffsetOffsetNs

/-- The last grid point at or before module time: its index and the local time it fell on (R165); none before step 9 of R29. -/
def State.gridPoint (s : State) : Option (Nat × Nat) :=
  let now := s.moduleTime
  if !s.time.seeded || decide (now < s.aiOffset) then none
  else
    let n := (now - s.aiOffset) / s.aiCycle
    some (n, s.now - (now - (s.aiOffset + n * s.aiCycle)))

/-- Is an action instant due at this state (R165, R167)? Its index and local time. (DEDUCED, log entry 10) -/
def State.aiDue (s : State) : Option (Nat × Nat) :=
  match s.gridPoint with
  | none => none
  | some (n, at') =>
    match s.time.lastIndex with
    | none => some (n, at')
    | some l =>
      if s.time.stepped.isSome then
        if s.time.lastAiLocal + s.aiCycle ≤ at' then some (n, at') else none
      else if l < n then some (n, at') else none

/-- Does a step make the interval that ends on grid point `n` longer than CYCLE (R167): has the increment alone carried the time on
by more than that since the last action instant? -/
def State.stretched (s : State) (n : Nat) : Bool :=
  let past := s.moduleTime - (s.aiOffset + n * s.aiCycle)
  s.time.stepped.isSome && s.time.lastIndex.isSome && decide ((s.aiCycle + past + 1) * 2 ^ 32 ≤ s.time.ran)

/-- The time part of an action instant on grid point `n` that fell at local time `at'` (R165, R167): the number, the bias
after a backward step, and a stretched interval. -/
def State.aiTick (s : State) (n at' : Nat) : State :=
  let first := s.time.lastIndex.isNone
  let number := n + s.time.aiBias
  let bias := if !first && decide (number ≤ s.time.aiNumber) then s.time.aiBias + (s.time.aiNumber + 1 - number) else s.time.aiBias
  let gap := at' - s.time.lastAiLocal
  let s : State :=
    match s.time.stepped with
    | none => s
    | some kind =>
      if s.stretched n then
        let s := s.incF .agreed fTbAistatCount 1
        let s := s.putF .agreed fTbAistatLastUs (min 0xFFFF (gap / 1000))
        s.raise evAiStretched (gap / 1000) kind
      else s
  let past := s.moduleTime - (s.aiOffset + n * s.aiCycle)
  let s := { s with time := { s.time with
    ran := past * 2 ^ 32
    lastIndex := some n, lastAiTime := s.aiOffset + n * s.aiCycle, lastAiLocal := at', aiNumber := n + bias, aiBias := bias,
    stepped := none } }
  let s := s.putF .agreed fTbAinumLoNum ((n + bias) % 2 ^ 32)
  let s := s.putF .agreed fTbAinumHiNum ((n + bias) / 2 ^ 32)
  let s := s.putF .agreed fTbAibiasLoBias (bias % 2 ^ 32)
  let s := s.putF .agreed fTbAibiasHiBias (bias / 2 ^ 32)
  let s := s.putF .agreed fTbSlewremNs (unsigned 32 (s.time.slew.tdiv (2 ^ 32 : Nat)))
  s.putF .agreed fTbHoldSec
    (match s.time.heldFrom with
     | some h => (s.now - h) / sec
     | none => 0)

/-! ## Position at the action instant and at release (R170 to R173) -/

/-- The value of an axle item (R172). -/
def tachoValue (f : TachoFront) (last : Nat) : List Byte :=
  natLe 4 (unsigned 32 f.net) ++ natLe 4 (min 0xFFFFFFFF f.edges) ++ natLe 4 (last / sec % 2 ^ 32) ++ natLe 4 (last % sec)
    ++ natLe 4 f.period ++ natLe 2 (b2n (0 < f.qerrs) + 2 * b2n (f.overRate || f.overSeen) + 4 * b2n f.dirChanged)
    ++ natLe 2 (min 0xFFFF f.qerrs)

/-- The front end of an axle. -/
def PosPart.front (p : PosPart) (ax : Nat) : TachoFront := if ax = 1 then p.front1 else p.front2

/-- Replace the front end of an axle. -/
def PosPart.setFront (p : PosPart) (ax : Nat) (f : TachoFront) : PosPart :=
  if ax = 1 then { p with front1 := f } else { p with front2 := f }

/-- The front end forms an axle's item at the action instant and fans it out (R172). -/
def State.tachoItem (s : State) (ax : Nat) : State :=
  let f := s.pos.front ax
  let last := f.last.getD s.pos.began
  let fresh := match f.pairAt with | some p => decide (s.moduleTime ≤ p + sec) | none => false
  let period := if fresh then f.period else 0xFFFFFFFF
  let item := Item.form (0x0200 + ax) f.seq last (tachoValue { f with period := period } last)
  let f' := { f with net := 0, edges := 0, qerrs := 0, lastQerrs := min 0xFFFF f.qerrs, overSeen := false, dirChanged := false, seq := (f.seq + 1) % 65536 }
  { s with
    pos := s.pos.setFront ax f'
    intake := { s.intake with fan := s.intake.fan ++ [item] } }

/-- Both axle items, while the front end counts (R172, R175). -/
def State.tachoAtInstant (s : State) : State :=
  if s.pos.counting then (s.tachoItem 1).tachoItem 2 else s

/-- The counter after the last edge at or before a time, looked up in the edge log. -/
def AxleCounter.at (a : AxleCounter) (time : Nat) : Int :=
  match a.log.find? (fun e => decide (e.1 ≤ time)) with
  | some e => e.2
  | none => a.base

/-- Counter extremes (R170). -/
def posMax : Int := (2 ^ 47 : Nat) * (posUnit : Nat) - 1
def posMin : Int := -((2 ^ 47 : Nat) * (posUnit : Nat) : Int)
def clampPos (v : Int) : Int := max posMin (min posMax v)

/-- A mast compares its counter with the agreed position at a released item's last edge, and repairs a difference; two repairs
within 1 s, of either axle, make it go fail-silent (R173). -/
def State.posRepair (s : State) (m : Mast) (ax last : Nat) (agreed : Int) : State :=
  let a := { s.axle m ax with agreed := agreed }
  let diff := agreed - a.at last
  if diff = 0 then s.setAxle m ax a
  else
    let times := ((s.axle m 1).repairs ++ (s.axle m 2).repairs).filter fun t => decide (s.now < t + sec)
    let a := { a with
      counter := clampPos (a.counter + diff)
      log := a.log.map fun e => if last ≤ e.1 then (e.1, e.2 + diff) else e
      base := if a.log.any (fun e => decide (e.1 ≤ last)) then a.base else a.base + diff
      repairs := s.now :: a.repairs.filter fun t => decide (s.now < t + sec) }
    let s := s.setAxle m ax a
    let s := s.incF .agreed (fTbAxstatRepairs.plus (0x20 * (ax - 1))) 1
    let s := s.raiseM m evPosRepaired ax m.code
    if times ≠ [] then s.requestSilent m evPosRepaired else s

/-- The release of an axle item (R173): the agreed position, and every voting mast's repair; a jury mast takes its own from the
block state. -/
def State.posRelease (s : State) (i : Item) : State :=
  match s.sup.params with
  | none => s
  | some p =>
    let ax := i.source - 0x0200
    let net := signed 32 (fieldAt i.value 0 4)
    let last := fieldAt i.value 8 4 * sec + fieldAt i.value 12 4
    Mast.all.foldl (fun s m =>
      if s.votes m && !(s.mast m).silent then
        s.posRepair m ax last (clampPos ((s.axle m ax).agreed + net * (p.step ax : Nat)))
      else s) s

end Sys2Proof.Machine
end

