-- ==== Sys2Proof/Machine/Flanirax.lean ====
section
/-!
DEFINITION. The Flanirax door buses (R182 to R217).
-/
namespace Sys2Proof.Machine

/-! ## Buses, slots and registers -/

/-- A bus. -/
def State.bus (s : State) (b : Nat) : FbBus := if b = 0 then s.fb.bus0 else s.fb.bus1

/-- Replace a bus. -/
def State.setBus (s : State) (b : Nat) (x : FbBus) : State :=
  if b = 0 then { s with fb := { s.fb with bus0 := x } } else { s with fb := { s.fb with bus1 := x } }

/-- Bus `b`'s copy of a register field. -/
def fbF (f : Fld) (b : Nat) : Fld := f.plus (0x800 * b)

/-- The slot-table entry of a slot id. -/
def FbBus.slot (x : FbBus) (n : Nat) : Option FbSlot :=
  match x.sched with
  | none => none
  | some sc => sc.slots.find? fun e => e.slot == n

/-- The node's entry. -/
def FbBus.node (x : FbBus) (n : Nat) : Option FbNode := x.nodes.find? fun e => e.node == n

/-- Replace a node's entry. -/
def FbBus.setNode (x : FbBus) (n : FbNode) : FbBus :=
  { x with nodes := x.nodes.map fun e => if e.node == n.node then n else e }

/-- The grant of a slot. -/
def FbBus.grant (x : FbBus) (slot : Nat) : Option FbGrant := x.grants.find? fun g => g.slot == slot

/-- Replace a grant. -/
def FbBus.setGrant (x : FbBus) (g : FbGrant) : FbBus :=
  { x with grants := x.grants.map fun e => if e.slot == g.slot then g else e }

/-- What is kept of a slot. -/
def FbBus.slotData (x : FbBus) (n : Nat) : FbSlotData := (x.slots.find? fun e => e.slot == n).getD { slot := n }

/-- Replace what is kept of a slot. -/
def FbBus.setSlot (x : FbBus) (d : FbSlotData) : FbBus :=
  { x with slots := d :: x.slots.filter fun e => e.slot != d.slot }

/-- Slots a node sends in: a node slot, a spare or the claim slot. -/
def SlotKind.nodeSide : SlotKind → Bool
  | .nodeIn | .spareIn | .claim => true
  | _ => false

/-- The slots of a node: its NODE_IN slots and the spare it has been granted. -/
def FbBus.slotsOf (x : FbBus) (n : Nat) : List Nat :=
  (match x.sched with
   | none => []
   | some sc => (sc.slots.filter fun e => e.kind == .nodeIn && e.node == n).map fun e => e.slot)
  ++ (x.grants.filter fun g => g.node == n).map fun g => g.slot

/-- Is the node excluded or on probation (R207, R208)? -/
def FbBus.excluded (x : FbBus) (n : Nat) : Bool :=
  match x.node n with
  | some e => e.state == 3 || e.state == 4
  | none => false

/-- The EXCLUDED field: bit n − 1 for node n. -/
def FbBus.exclMask (x : FbBus) : Nat :=
  ((x.nodes.filter fun e => e.state == 3 || e.state == 4).map fun e => 2 ^ (e.node - 1)).foldl (· + ·) 0

/-- Show a bus's nodes in its registers. -/
def State.showNodes (s : State) (b : Nat) : State :=
  let x := s.bus b
  let s := x.nodes.foldl (fun s e =>
    let a := (if b = 0 then rFbNode0 else rFbNode1) + 4 * (e.node - 1)
    let g := match x.grants.find? fun g => g.node == e.node with
      | some g => g.slot
      | none => 0
    let ofs := unsigned 8 (max (-127) (min 127 (e.ofs.tdiv 10)))
    s.setReg .agreed a (BitVec.ofNat 32 (min 255 e.age * 2 ^ 24 + g * 2 ^ 16 + ofs * 2 ^ 8 + min 4 e.viol * 16
      + b2n e.late * 8 + e.state))) s
  let s := s.putF .agreed (fbF fFbStatActive b) (x.nodes.filter fun e => e.state == 2).length
  let s := s.putF .agreed (fbF fFbExclLoNodes b) (x.exclMask % 2 ^ 32)
  s.putF .agreed (fbF fFbExclHiNodes b) (x.exclMask / 2 ^ 32)

/-- A bus takes a state (R199, R200). -/
def State.fbState (s : State) (b : Nat) (st : BusState) : State :=
  let x := s.bus b
  if x.state = st then s
  else
    let s := s.raise evFbState b (x.state.code * 256 + st.code)
    let s := if st = .recover then s.incF .agreed (fbF fFbRecovRecovers b) 1 else s
    let s := s.setBus b { x with state := st, sentCycles := 0 }
    s.putF .agreed (fbF fFbStatState b) st.code

/-! ## The section (R195 to R198) -/

/-- The slot kind of a code (R197). -/
def slotKindOf (n : Nat) : Option SlotKind :=
  match n with
  | 0 => some .cycleStart | 1 => some .masterOut | 2 => some .nodeIn | 3 => some .spareIn | 4 => some .spareOut
  | 5 => some .claim | _ => none

/-- Slot length in units of 100 ns (R190). -/
def slotLength (payload : Nat) : Nat := (19 + payload) * 8 + 20

/-- Read the body of a FLANIRAX section (R195 to R197). -/
def parseFb (b : List Byte) : FbSchedule :=
  let nn := fieldAt b 3 1
  { schedId := fieldAt b 8 4, nodeTimeout := fieldAt b 6 1, cycleUs := fieldAt b 0xC 2, releaseCycles := fieldAt b 0xE 2,
    claimSlot := fieldAt b 5 1,
    nodes := (List.range nn).map fun i => (fieldAt b (0x40 + 8 * i) 1, fieldAt b (0x41 + 8 * i) 1 == 2),
    slots := (List.range (fieldAt b 4 1)).map fun i =>
      let o := 0x40 + 8 * nn + 12 * i
      { slot := fieldAt b o 1, kind := (slotKindOf (fieldAt b (o + 1) 1)).getD .claim, node := fieldAt b (o + 2) 1,
        payload := fieldAt b (o + 3) 1, offset := fieldAt b (o + 4) 4, gated := bitOf (fieldAt b (o + 8) 1) 0,
        link := fieldAt b (o + 9) 1 } }

/-- How often an element occurs. -/
def countIn (l : List Nat) (n : Nat) : Nat := (l.filter fun x => x == n).length

/-- The checks of the header's fields and of the node table (R195, R196): offending offsets. Where two entries name one thing,
the later of them offends. -/
def fbHeaderErrors (bus : Nat) (b : List Byte) : List Nat :=
  let nn := fieldAt b 3 1
  let nodes := (List.range nn).map fun i => fieldAt b (0x40 + 8 * i) 1
  let bad := fun (c : Bool) (o : Nat) => if c then [o] else []
  bad (fieldAt b 0 2 != 1) 0 ++ bad (fieldAt b 2 1 != bus) 2 ++ bad (decide (64 < nn)) 3
    ++ bad (fieldAt b 4 1 == 0 || decide (128 < fieldAt b 4 1)) 4 ++ bad (decide (127 < fieldAt b 5 1)) 5
    ++ bad (decide (fieldAt b 6 1 < 2)) 6 ++ bad (fieldAt b 7 1 != 0) 7 ++ bad (fieldAt b 8 4 == 0) 8
    ++ bad (decide (fieldAt b 0xE 2 < 16)) 0xE ++ bad (!allZero (slice b 0x10 48)) 0x10
    ++ (List.range nn).flatMap fun i =>
      let o := 0x40 + 8 * i
      bad (fieldAt b o 1 == 0 || decide (64 < fieldAt b o 1) || (nodes.take i).contains (fieldAt b o 1)) o
        ++ bad (fieldAt b (o + 1) 1 == 0 || decide (2 < fieldAt b (o + 1) 1)) (o + 1)
        ++ bad (!allZero (slice b (o + 2) 6)) (o + 2)

/-- The checks of one slot entry (R197, R198). (DEDUCED, log entry 34) -/
def fbSlotErrors (b : List Byte) (sc : FbSchedule) (cycleUs : Nat) (i : Nat) (e : FbSlot) : List Nat :=
  let o := 0x40 + 8 * fieldAt b 3 1 + 12 * i
  let bad := fun (c : Bool) (k : Nat) => if c then [o + k] else []
  let kind := fieldAt b (o + 1) 1
  let earlier := sc.slots.take i
  let fixed := sc.nodes.any fun n => n.1 == e.node && !n.2
  let same := (earlier.filter fun x => x.kind == e.kind && x.node == e.node).length
  let prev := sc.slots[i - 1]?
  bad (decide (127 < e.slot) || (earlier.any fun x => x.slot == e.slot) || (i == 0 && e.slot != 0)) 0
    ++ bad (decide (5 < kind) || (i == 0) != (kind == 0) || 
        (kind == 5 && (e.slot != sc.claimSlot || earlier.any fun x => x.kind == .claim))) 1
    ++ bad (if kind == 1 || kind == 2 then !fixed || decide (4 ≤ same) else e.node != 0) 2
    ++ bad (decide (32 < e.payload) || (kind == 0 && e.payload != 32) || (kind == 5 && e.payload != 8)) 3
    ++ bad ((i == 0 && e.offset != 0) ||
        (match prev with
         | some p => i != 0 && decide (e.offset < p.offset + slotLength p.payload)
         | none => false) ||
        (i + 1 == sc.slots.length && decide ((cycleUs - 60) * 10 < e.offset + slotLength e.payload))) 4
    ++ bad (decide (1 < fieldAt b (o + 8) 1) || (e.gated && ((kind != 1 && kind != 4) || decide (e.offset < 600)))) 8
    ++ bad (if kind == 3 then e.link != 0 &&
          (!(sc.slots.any fun x => x.slot == e.link && x.kind == .spareOut)
           || earlier.any fun x => x.kind == .spareIn && x.link == e.link)
        else e.link != 0) 9
    ++ bad (fieldAt b (o + 10) 2 != 0) 10

/-- The first offending offset of a section body whose LENGTH is right (R198), if any; CYCLE_US must equal that of the TIME
section. -/
def checkFb (bus cycleUs : Nat) (b : List Byte) : Option Nat :=
  let sc := parseFb b
  let head := fbHeaderErrors bus b
  let cyc := if fieldAt b 0xC 2 != cycleUs then [0xC] else []
  let claims := (sc.slots.filter fun e => e.kind == .claim).length
  let claim := if (sc.claimSlot != 0 && claims == 0)
      || (sc.slots.any (fun e => e.kind == .spareIn) && claims == 0) then [5] else []
  (head ++ cyc ++ claim ++ (sc.slots.mapIdx fun i e => fbSlotErrors b sc cycleUs i e).flatten).head?

/-- Load a checked section into a bus. -/
def State.fbLoad (s : State) (b : Nat) (sc : FbSchedule) : State :=
  let s := s.setBus b { sched := some sc, nodes := sc.nodes.map fun n => { node := n.1, late := n.2 } }
  let s := Mast.all.foldl (fun s m => s.putF (.mast m) (fbF fFbCtrlPresent b) 1) s
  let s := s.putF .agreed (fbF fFbSchedSchedId b) sc.schedId
  let s := s.putF .agreed (fbF fFbShapeNodeTimeout b) sc.nodeTimeout
  let s := s.putF .agreed (fbF fFbShapeClaimSlot b) sc.claimSlot
  let s := s.putF .agreed (fbF fFbShapeNNodes b) sc.nodes.length
  let s := s.putF .agreed (fbF fFbShapeNSlots b) sc.slots.length
  s.showNodes b

/-! ## Frames the module sends (R185 to R187, R201, R209, R210) -/

/-- Preamble and start delimiter (R184). -/
def fbPreamble : List Byte := [0x55, 0x55, 0xD5]

/-- A frame on the wire from its envelope on, if it has a frame start (R184). -/
def fbEnvelope (f : List Byte) : Option (List Byte) := if f.take 3 = fbPreamble then some (f.drop 3) else none

/-- The bytes of a frame on the wire (R184, R185). -/
def fbFrame (node slot cycle typ state sched : Nat) (payload : List Byte) : List Byte :=
  let head := natLe 1 node ++ natLe 1 slot ++ natLe 2 cycle ++ natLe 1 typ ++ natLe 1 payload.length ++ natLe 1 state
    ++ natLe 1 0 ++ natLe 4 sched
  fbPreamble ++ head ++ natLe 4 (crc32c (head ++ payload)).toNat ++ payload

/-- Can a channel's owner send: the units are not muted, and two votes name a live owner (R15, R114, R216)? -/
def State.channelLive (s : State) (b ch : Nat) : Bool := !s.lane.mute && s.owned (2 + 2 * b + ch)

/-- The CYCLE_START answer and the grants after it (R212, R213): a new answer, else a withdrawal not yet announced, else a grant not
yet used and not yet carried four times. -/
def FbBus.nextAnswer (x : FbBus) : ClaimAnswer :=
  match x.answer, x.withdrawn with
  | some a, _ => a
  | none, a :: _ => a
  | none, [] =>
    match x.grants.find? fun g => !g.seen && decide (g.carried < 4) with
    | some g => ⟨1, g.node, g.slot⟩
    | none => ⟨0, 0, 0⟩

/-- A grant after the CYCLE_START of instant `n` that carries answer `a`, or was missed (R213). (DEDUCED, log entry 112) -/
def FbGrant.carry (g : FbGrant) (a : ClaimAnswer) (missed : Bool) (n : Nat) : FbGrant :=
  if a.status = 1 ∧ g.node = a.node ∧ g.slot = a.arg ∧ !missed then
    { g with carried := g.carried + 1, judged := false, first := match g.first with | some c => some c | none => some n }
  else { g with judged := false }

/-- The payload of CYCLE_START (R187). -/
def State.csPayload (s : State) (b : Nat) (a : ClaimAnswer) : List Byte :=
  let x := s.bus b
  let time := s.time.lastAiTime
  natLe 1 (match x.sched with
    | some sc => sc.nodeTimeout
    | none => 0) ++ natLe 1 a.status ++ natLe 1 a.node ++ natLe 1 a.arg
    ++ natLe 4 (time / sec % 2 ^ 32) ++ natLe 4 (time % sec) ++ natLe 2 (s.aiCycle / 250000)
    ++ natLe 1 (s.getF .agreed fSlStatMaster) ++ natLe 1 0 ++ natLe 8 x.exclMask ++ natLe 8 0

/-- The frame start of a cycle (R189, R200, R216): CYCLE_START is formed, launched on each channel whose owner lives, and a
miss is counted. -/
def State.fbCycleStart (s : State) (b : Nat) (stretched : Bool) : State :=
  let x := s.bus b
  let liveX := s.channelLive b 0
  let liveY := s.channelLive b 1
  let missed := !liveX && !liveY
  let s := if liveX then s else s.incF .agreed (fbF fFbTxlateX b) 1
  let s := if liveY then s else s.incF .agreed (fbF fFbTxlateY b) 1
  let s := if missed then
      (s.incF .agreed (fbF fFbRecovCsmiss b) 1).raise evFbCsMissed b (s.time.aiNumber % 65536)
    else s
  let s := if x.state = .normal ∧ (missed ∨ stretched) then s.fbState b .recover else s
  let x := s.bus b
  let a := x.nextAnswer
  let s := s.setBus b x
  let payload := s.csPayload b a
  let sent := if (x.state = .integrate ∨ x.state = .recover) ∧ !missed then x.sentCycles + 1 else x.sentCycles
  let x := { x with
    cycState := x.state, reported := false, sentCycles := sent, cycle := s.time.aiNumber, csX := liveX, csY := liveY,
    codesX := [], codesY := [], counted := [], ignoreX := 0, ignoreY := 0, answer := none
    withdrawn := if x.answer.isNone && !missed then x.withdrawn.drop 1 else x.withdrawn
    grants := x.grants.map fun g => g.carry a missed s.time.aiNumber
    nodes := x.nodes.map fun n => { n with judged := false }
    judgedX := false, judgedY := false
    csFrame := fbFrame 0 0 (s.time.aiNumber % 65536) 1 x.state.code
      (match x.sched with
       | some sc => sc.schedId
       | none => 0) payload }
  (s.setBus b x).putF .agreed (fbF fFbStatCycle b) (s.time.aiNumber % 65536)

/-- Released gates (R210): the value waiting in a gated slot is the one sent from now on. -/
def State.fbGate (s : State) (arg : Nat) : State :=
  let b := arg / 128
  let x := s.bus b
  match x.slot (arg % 128) with
  | none => s
  | some e =>
    let d := x.slotData e.slot
    if e.gated && d.held.isSome then s.setBus b (x.setSlot { d with gate := d.held, held := none }) else s

/-- A committed image's door-bus items (R209, R210): wrong lengths are counted once, gated values wait for a release. -/
def State.fbCommit (s : State) (items : List Item) : State :=
  items.foldl (fun s i =>
    if 0xA000 ≤ i.source ∧ i.source ≤ 0xA1FF then
      let b := (i.source - 0xA000) / 256
      let x := s.bus b
      match x.slot (i.source % 256) with
      | none => s
      | some e =>
        if !(e.kind == .masterOut || e.kind == .spareOut) then s
        else if i.len ≠ e.payload then
          let s := s.incF .agreed (fbF fFbSuppOutlen b) 1
          s.raiseLimited s.lane.active.mask (b * 128 + e.slot) evFbOutLen b e.slot
        else if e.gated then s.setBus b (x.setSlot { x.slotData e.slot with held := some i.value })
        else s
    else s) s

/-- What a module slot carries: TEST, DATA or NULL, and the DATA then remembered as sent (R201, R209, R210). -/
def State.slotContent (s : State) (b : Nat) (e : FbSlot) : Nat × List Byte :=
  let x := s.bus b
  let d := x.slotData e.slot
  let orNull := fun (v : Option (List Byte)) =>
    match v with
    | some v => (2, v)
    | none => (3, [])
  if x.state = .test then (6, (List.range e.payload).map fun i => BitVec.ofNat 8 i)
  else if !s.inMode [.run, .hold] then (3, [])
  else if e.gated then orNull d.gate
  else
    match s.lane.inForce.find? fun i => i.source == 0xA000 + 0x100 * b + e.slot with
    | none => (3, [])
    | some i => if i.len = e.payload then (2, i.value) else orNull d.sent

/-- Entering STOP forgets what was sent and released in the module's slots (R209, R210). -/
def State.fbForget (s : State) : State :=
  [0, 1].foldl (fun s b =>
    let x := s.bus b
    s.setBus b { x with slots := x.slots.map fun d => { d with sent := none, held := none, gate := none } }) s

/-! ## Reception (R202, R203, R206) -/

/-- The length a type must have in a slot (R186, R203); none where the type is not listed. -/
def typeLen (payload typ : Nat) : Option Nat :=
  match typ with
  | 1 => some 32 | 2 => some payload | 3 => some 0 | 4 => some 8 | 5 => some 0 | 6 => some payload | _ => none

/-- May this node send this type in the slot (R186, R197, R211)? -/
def FbBus.allowed (x : FbBus) (e : FbSlot) (node typ : Nat) : Bool :=
  match e.kind with
  | .nodeIn => node == e.node && (typ == 2 || typ == 3)
  | .spareIn =>
    match x.grant e.slot with
    | some g => g.first.isSome && node == g.node && (typ == 2 || typ == 3 || typ == 5)
    | none => false
  | .claim => typ == 4 && decide (1 ≤ node ∧ node ≤ 64)
  | _ => false

/-- The report code of an accepted type (R203). -/
def acceptedCode (typ : Nat) : Nat :=
  match typ with
  | 2 => 1 | 3 => 2 | 4 => 0xB | _ => 0xC

/-- The report code of a frame whose CRC is right, judged against the slot it names; `rel` is its frame start against that
slot's start in nanoseconds, `extra` that the line stayed active after its declared end (R203). -/
def FbBus.judge (x : FbBus) (sched : Nat) (e : FbSlot) (f : List Byte) (rel : Int) (extra : Bool) : Nat :=
  let typ := fieldAt f 4 1
  let len := fieldAt f 5 1
  let wrongLen := match typeLen e.payload typ with
    | some n => len != n
    | none => false
  if wrongLen || extra then 7
  else if fieldAt f 2 2 ≠ x.cycle % 65536 ∨ fieldAt f 8 4 ≠ sched then 8
  else if !x.allowed e (fieldAt f 0 1) typ then 9
  else if rel < -1000 then 4
  else if 1000 < rel then 5
  else acceptedCode typ

/-- Does a frame's CRC agree (R185)? -/
def fbCrcOk (f : List Byte) : Bool :=
  decide (16 ≤ f.length) && decide (16 + fieldAt f 5 1 ≤ f.length) &&
    fieldAt f 12 4 == (crc32c (slice f 0 12 ++ slice f 16 (fieldAt f 5 1))).toNat

/-- Note a slot's code on a channel: the first frame of a slot counts. -/
def FbBus.noteCode (x : FbBus) (ch slot code : Nat) : FbBus :=
  if ch = 0 then { x with codesX := if x.codesX.any (fun c => c.1 == slot) then x.codesX else x.codesX ++ [(slot, code)] }
  else { x with codesY := if x.codesY.any (fun c => c.1 == slot) then x.codesY else x.codesY ++ [(slot, code)] }

/-- Has the slot a code on the channel already? -/
def FbBus.coded (x : FbBus) (ch slot : Nat) : Bool := (if ch = 0 then x.codesX else x.codesY).any fun c => c.1 == slot

/-- An accepted frame becomes an item at entry (R202). (DEDUCED, log entry 41) -/
def State.fbItem (s : State) (b ch : Nat) (e : FbSlot) (code : Nat) (rel : Int) (f : List Byte) : State :=
  let x := s.bus b
  let value := natLe 1 code ++ natLe 1 0 ++ natLe 2 (unsigned 16 rel) ++ f.take (16 + fieldAt f 5 1)
  let item := Item.form (0x2000 + 0x100 * b + 0x80 * ch + e.slot) (x.cycle % 65536)
    (s.time.lastAiTime + e.offset * 100) value
  { s with intake := { s.intake with fan := s.intake.fan ++ [item] } }

/-- The echo comparison of the module's own frames (R201). -/
def State.fbEcho (s : State) (b ch : Nat) (f : List Byte) : State :=
  let x := s.bus b
  let sent := if fieldAt f 4 1 = 0 ∧ fieldAt f 7 1 = 1 then x.csFrame else x.lastSent
  if f = x.csFrame ∨ f = sent then s
  else s.incF .agreed (fbF (if ch = 0 then fFbErrxEcho else fFbErryEcho) b) 1

/-- A foreign CYCLE_START (R206): counted when it is heard. -/
def State.fbSecondMaster (s : State) (b ch : Nat) : State :=
  (s.raiseLimited s.lane.active.mask b evFbSecondMaster b ch).incF .agreed (fbF fFbStaleForeign b) 1

/-- Nanoseconds from the cycle's start to the end of a slot (R190). -/
def FbSlot.endsAt (e : FbSlot) : Int := (e.offset + slotLength e.payload) * 100

/-- Up to when a channel's receiver ignores the medium. -/
def FbBus.ignored (x : FbBus) (ch : Nat) : Int := if ch = 0 then x.ignoreX else x.ignoreY

/-- After LEN above 32 the receiver ignores the medium to the end of the slot it is in (R185). -/
def FbBus.ignoreSlot (x : FbBus) (ch at' : Nat) : FbBus :=
  match x.slot at' with
  | none => x
  | some e => if ch = 0 then { x with ignoreX := e.endsAt } else { x with ignoreY := e.endsAt }

/-- Energy without a frame start: a collision in the claim slot (R203), nothing elsewhere. -/
def State.fbNoise (s : State) (b ch at' : Nat) : State :=
  let x := s.bus b
  match x.slot at' with
  | some e => if e.kind == .claim && !x.reported then s.setBus b (x.noteCode ch at' 0xA) else s
  | none => s

/-- A frame heard while a cycle runs, from its envelope on: classified, and an item where it is accepted (R202, R203). `here` is its
frame start against the cycle's, in nanoseconds. -/
def State.fbHear (s : State) (b ch at' : Nat) (here : Int) (sc : FbSchedule) (f : List Byte) (extra : Bool) : State :=
  let long := decide (32 < fieldAt f 5 1)
  let crcOk := fbCrcOk f
  let second := crcOk && !long && fieldAt f 4 1 == 1
  let s := if second then s.fbSecondMaster b ch else s
  let s := if long then s.setBus b ((s.bus b).ignoreSlot ch at') else s
  let x := s.bus b
  let slot := if long || crcOk then fieldAt f 1 1 else at'
  match x.slot slot with
  | none => s
  | some e =>
    if !e.kind.nodeSide || x.reported then s
    else
      let normal := x.cycState == .normal
      let s := if normal then s else s.incF .agreed (fbF fFbSuppSuppressed b) 1
      if x.coded ch slot then s
      else
        let rel : Int := here - e.offset * 100
        let code := if long then 7 else if !crcOk then 6 else x.judge sc.schedId e f rel extra
        let good := code == 1 || code == 2 || code == 0xB || code == 0xC
        let code := if e.kind == .claim && !good then 0xA else code
        let x := x.noteCode ch slot code
        let s := s.setBus b (if second && code == 9 then { x with counted := (ch, slot) :: x.counted } else x)
        if good && normal then s.fbItem b ch e code rel f else s

/-- FB_FRAME_RECEIVED (R184, R185, R199 to R203, R206): bytes heard on a channel, from the preamble on. The frame started `ofs`
nanoseconds after the start of slot `at'`; `extra` says that the line stayed active more than 800 ns after its declared end, `own`
that the module's selector was sending it. -/
def execFbFrameReceived (t : Nat) (b ch at' : Nat) (ofs : Int) (f : List Byte) (extra own : Bool) (s : State) : Result :=
  let s := s.advance t
  let x := s.bus b
  if 1 < b ∨ 1 < ch ∨ !(s.voters.any fun m => (s.mast m).powered) then ok s
  else
    match fbEnvelope f, x.sched, x.state with
    | none, none, _ => ok s
    | none, some _, .off => ok s
    | none, some _, _ => ok (if own then s else s.fbNoise b ch at')
    | some _, _, .off => ok (s.incF .agreed (fbF fFbPreCount b) 1)
    | some _, none, _ => ok s
    | some g, some sc, _ =>
      let start : Int := match x.slot at' with | some e => (e.offset : Int) * 100 | none => 0
      if own then ok (s.fbEcho b ch f)
      else if start + ofs < x.ignored ch then ok s
      else ok (s.fbHear b ch at' (start + ofs) sc g extra)

/-- The code of each slot 0 to 127 in a channel's report (R203). -/
def FbBus.reportCodes (x : FbBus) (ch : Nat) : List Nat :=
  (List.range 128).map fun n =>
    match x.slot n with
    | none => 0
    | some e =>
      if !e.kind.nodeSide then 0
      else match (if ch = 0 then x.codesX else x.codesY).find? fun c => c.1 == n with
        | some c => c.2
        | none => 3

/-- Two codes a byte, the even slot low. -/
def packCodes : List Nat → List Byte
  | a :: b :: rest => BitVec.ofNat 8 (a + 16 * b) :: packCodes rest
  | _ => []

/-- Count the codes of a channel's report (R203, R219 and the counters of the register tables). -/
def State.countCodes (s : State) (b ch : Nat) (codes : List Nat) : State :=
  let n := countIn codes
  let timing := (s.bus b).cycState == .normal
  let s := s.incF .agreed (fbF (if ch = 0 then fFbErrxCrc else fFbErryCrc) b) (n 6)
  let s := s.incF .agreed (fbF (if ch = 0 then fFbErrxLength else fFbErryLength) b) (n 7)
  let s := s.incF .agreed (fbF fFbTimingEarly b) (if timing then n 4 else 0)
  let s := s.incF .agreed (fbF fFbTimingLate b) (if timing then n 5 else 0)
  let s := s.incF .agreed (fbF fFbStaleStale b) (n 8)
  s.incF .agreed (fbF fFbStaleForeign b) (n 9 - ((s.bus b).counted.filter fun c => c.1 == ch).length)

/-- The register nibble of a slot: the X code, or the Y code where X is empty and Y is not. -/
def shownCode (x y : Nat) : Nat := if x = 3 ∧ y ≠ 3 then y else x

/-- FB_SLOT_REPORT (R203): at the end of the last slot each channel's report is formed and fanned out. -/
def execFbSlotReport (t : Nat) (b : Nat) (s : State) : Result :=
  let s := s.advance t
  let x := s.bus b
  if x.state = .off ∨ x.reported ∨ x.sched.isNone ∨ 1 < b then ok s
  else
    let cx := x.reportCodes 0
    let cy := x.reportCodes 1
    let s := (s.countCodes b 0 cx).countCodes b 1 cy
    let empty := ((cx.zip cy).mapIdx fun i c =>
      match x.slot i with
      | some e => e.kind.nodeSide && e.kind != .claim && c.1 == 3 && c.2 == 3
      | none => false).filter id
    let s := s.incF .agreed (fbF fFbEmptyCount b) empty.length
    let shown := (cx.zip cy).map fun c => shownCode c.1 c.2
    let s := (List.range 16).foldl (fun s i =>
      s.setReg .agreed ((if b = 0 then rFbSlotrpt0 else rFbSlotrpt1) + 4 * i)
        (BitVec.ofNat 32 (leNat (packCodes (shown.drop (8 * i) |>.take 8))))) s
    let report := fun (ch : Nat) (codes : List Nat) =>
      Item.form (0x2000 + 0x100 * b + 0x80 * ch) (x.cycle % 65536) s.time.lastAiTime
        (natLe 2 (x.cycle % 65536) ++ natLe 1 x.cycState.code ++ natLe 1 0 ++ packCodes codes)
    let s := s.setBus b { x with reported := true }
    ok { s with intake := { s.intake with fan := s.intake.fan ++ [report 0 cx, report 1 cy] } }

/-! ## States by count and by command (R200) -/

/-- FB_INTEGRATE_DONE (R200): 8 cycles have been sent. -/
def execFbIntegrateDone (t : Nat) (b : Nat) (s : State) : Result :=
  let s := s.advance t
  if b < 2 ∧ (s.bus b).state = .integrate ∧ 8 ≤ (s.bus b).sentCycles then ok (s.fbState b .normal) else ok s

/-- FB_RECOVER_DONE (R200): 2 cycles have been sent. -/
def execFbRecoverDone (t : Nat) (b : Nat) (s : State) : Result :=
  let s := s.advance t
  if b < 2 ∧ (s.bus b).state = .recover ∧ 2 ≤ (s.bus b).sentCycles then ok (s.fbState b .normal) else ok s

/-- Put `FB_CTRL.TEST` on every active mast. -/
def State.putTest (s : State) (b v : Nat) : State :=
  Mast.all.foldl (fun s m => if s.votes m then s.putF (.mast m) (fbF fFbCtrlTest b) v else s) s

/-- Is TEST set, as the voting masts hold it? -/
def State.testSet (s : State) (b : Nat) : Bool := s.voters.any fun m => s.getF (.mast m) (fbF fFbCtrlTest b) == 1

/-- FB_TEST_ON (R200): the agreed write of TEST = 1 (R45, R46). -/
def execFbTestOn (t : Nat) (b : Nat) (writers : Per Bool) (s : State) : Result :=
  let s := s.advance t
  if s.agreed writers && s.unlocked && decide (b < 2) then
    let s := s.putTest b 1
    if s.ctl.mode = .service ∧ (s.bus b).state = .normal then ok (s.fbState b .test) else ok s
  else ok s

/-- FB_TEST_OFF (R200): the agreed write of TEST = 0. -/
def execFbTestOff (t : Nat) (b : Nat) (writers : Per Bool) (s : State) : Result :=
  let s := s.advance t
  if s.agreed writers && s.unlocked && decide (b < 2) then
    let s := s.putTest b 0
    if (s.bus b).state = .test then ok (s.fbState b .recover) else ok s
  else ok s

/-- Leaving SERVICE takes a bus in TEST to RECOVER (R200). -/
def State.fbLeaveService (s : State) : State :=
  [0, 1].foldl (fun s b => if (s.bus b).state = .test then s.fbState b .recover else s) s

/-- STOP reached at the end of BOOT or of a wake starts a loaded bus (R200). -/
def State.fbStart (s : State) : State :=
  [0, 1].foldl (fun s b => if (s.bus b).sched.isSome ∧ (s.bus b).state = .off then s.fbState b .integrate else s) s

/-- Both buses stop (R28, R38, R200). -/
def State.fbOff (s : State) : State :=
  [0, 1].foldl (fun s b =>
    let s := s.fbState b .off
    s.setBus b { s.bus b with cycState := .off }) s

/-- The door buses' part of an action instant (R189, R200, R210): gates, TEST, and the next cycle's start. -/
def State.fbAtInstant (s : State) (gates : List Nat) (stretched : Bool) : State :=
  let s := gates.foldl State.fbGate s
  [0, 1].foldl (fun s b =>
    let x := s.bus b
    if x.state = .off then s
    else
      let s := if x.state = .normal ∧ s.ctl.mode = .service ∧ s.testSet b then s.fbState b .test else s
      s.fbCycleStart b stretched) s

/-! ## The release: merge, nodes, grants and claims (R204 to R215) -/

/-- What the agreed items of a bus say of the cycle just ended (R204): its reports' codes by channel, the accepted frames, and
whether the cycle was NORMAL. -/
structure FbView where
  codesX : List Nat
  codesY : List Nat
  normal : Bool
  cycle : Nat
  /-- Channel, slot and item value of each accepted frame. -/
  frames : List (Nat × Nat × List Byte)
  deriving DecidableEq, Repr

/-- The 128 codes of a report's value. -/
def unpackCodes (v : List Byte) : List Nat := (v.drop 4).flatMap fun b => [b.toNat % 16, b.toNat / 16]

/-- The view of bus `b` at the release under way; none without an agreed report. -/
def State.fbView (s : State) (b : Nat) : Option FbView :=
  let rep := fun (ch : Nat) => s.intake.agreed.find? fun i => i.source == 0x2000 + 0x100 * b + 0x80 * ch
  let frames := s.intake.agreed.filterMap fun i =>
    if i.source / 256 = 0x20 + b ∧ i.source % 128 ≠ 0 then some (i.source / 128 % 2, i.source % 128, i.value) else none
  let codes := fun (r : Option Item) =>
    match r with
    | some i => unpackCodes i.value
    | none => []
  match rep 0, rep 1 with
  | none, none => none
  | rx, ry =>
    let v := match rx with
      | some i => i.value
      | none => match ry with
        | some i => i.value
        | none => []
    some { codesX := codes rx, codesY := codes ry, normal := fieldAt v 2 1 == 2, cycle := fieldAt v 0 2, frames := frames }

/-- The accepted item value of a slot on a channel. -/
def FbView.got (v : FbView) (ch slot : Nat) : Option (List Byte) :=
  match v.frames.find? fun f => f.1 == ch && f.2.1 == slot with
  | some f => some f.2.2
  | none => none

/-- Was anything accepted in the slot on either channel? -/
def FbView.any (v : FbView) (slot : Nat) : Bool := (v.got 0 slot).isSome || (v.got 1 slot).isSome

/-- An accepted item value of the slot, channel X first. -/
def FbView.one (v : FbView) (slot : Nat) : Option (List Byte) :=
  match v.got 0 slot with
  | some x => some x
  | none => v.got 1 slot

/-- The frame the slot delivers (R204): none where the channels differ. -/
def FbView.delivered (v : FbView) (slot : Nat) : Option (List Byte) :=
  match v.got 0 slot, v.got 1 slot with
  | some a, some b => if a.drop 4 = b.drop 4 then some a else none
  | _, _ => v.one slot

/-- Was the slot reported early or late on a channel? -/
def FbView.timing (v : FbView) (slot : Nat) : Bool :=
  let c := fun (l : List Nat) => l[slot]?.getD 0
  [4, 5].contains (c v.codesX) || [4, 5].contains (c v.codesY)

/-- What a cycle's release does to a node (R205, R207, R208). -/
inductive NodeTurn where
  | same | up | lost | excluded | readmitted
  deriving DecidableEq, Repr

/-- A node after a cycle, and its turn. (DEDUCED, log entry 40) -/
def FbBus.nodeNext (x : FbBus) (v : FbView) (n : FbNode) : FbNode × NodeTurn :=
  let slots := x.slotsOf n.node
  let acc := slots.any v.any
  let data := slots.any fun s =>
    match v.delivered s with
    | some f => fieldAt f 0 1 == 1 || fieldAt f 0 1 == 2
    | none => false
  let timeout := match x.sched with
    | some sc => sc.nodeTimeout
    | none => 0
  let ofs := match slots.findSome? v.one with
    | some f => signed 16 (fieldAt f 2 2)
    | none => n.ofs
  let n := { n with age := if acc then 0 else n.age + 1, ofs := ofs, judged := true }
  if slots == [] then (n, .same)
  else if n.state = 3 ∨ n.state = 4 then
    if 0 < n.ignore then ({ n with ignore := n.ignore - 1, state := if n.ignore = 1 then 4 else 3 }, .same)
    else
      let row := if acc then n.okRow + 1 else 0
      if 4 ≤ row then ({ n with state := 2, viol := 0, okRow := 0, quiet := 0 }, .readmitted)
      else ({ n with state := 4, okRow := row }, .same)
  else
    let viol := if acc then 0 else if v.normal && slots.any v.timing then n.viol + 1 else n.viol
    let quiet := if data then 0 else n.quiet + 1
    let n := { n with viol := viol, quiet := quiet }
    if 4 ≤ viol then ({ n with state := 3, ignore := 9, okRow := 0 }, .excluded)
    else if acc ∧ (n.state = 1 ∨ n.state = 5) then ({ n with state := 2 }, .up)
    else if n.state = 2 ∧ timeout ≤ quiet then ({ n with state := 1 }, .lost)
    else (n, .same)

/-- Judge one node for the cycle under release, unless it has been judged. (DEDUCED, log entry 40) -/
def State.fbJudgeNode (s : State) (b : Nat) (v : FbView) (node : Nat) : State :=
  let x := s.bus b
  match x.node node with
  | none => s
  | some n =>
    if n.judged then s
    else
      let r := x.nodeNext v n
      let s := s.setBus b (x.setNode r.1)
      match r.2 with
      | .same => s
      | .up =>
        let s :=
          match x.grants.find? fun g => g.node == node with
          | some g => if n.state = 5 then s.raise evFbClaimGranted b (node * 256 + g.slot) else s
          | none => s
        s.raise evFbNodeUp b node
      | .lost => s.raise evFbNodeLost b node
      | .excluded => s.raise evFbNodeExcluded b node
      | .readmitted => s.raise evFbNodeReadmitted b node

/-- Note the last claim answer (`FB_LASTCLAIM`). -/
def State.lastClaim (s : State) (b result reason slot node : Nat) : State :=
  s.setReg .agreed (rFbLastclaim + 0x800 * b) (BitVec.ofNat 32 (result * 2 ^ 24 + reason * 2 ^ 16 + slot * 256 + node))

/-- A grant ends: the slot is spare again and its node silent. (DEDUCED, log entry 112) -/
def FbBus.dropGrant (x : FbBus) (g : FbGrant) : FbBus :=
  let x := { x with grants := x.grants.filter fun e => e.slot != g.slot }
  match x.node g.node with
  | some n => if n.state = 2 ∨ n.state = 5 then x.setNode { n with state := 1 } else x
  | none => x

/-- What a cycle's release does to a grant (R213, R215). -/
inductive GrantTurn where
  | same | released | idle | withdrawn
  deriving DecidableEq, Repr

/-- A grant after a cycle, and its turn. (DEDUCED, log entry 40) -/
def FbBus.grantNext (x : FbBus) (v : FbView) (g : FbGrant) : FbGrant × GrantTurn :=
  let limit := match x.sched with
    | some sc => sc.releaseCycles
    | none => 0
  let g := { g with judged := true }
  match v.one g.slot with
  | some f => ({ g with seen := true, idle := 0 }, if fieldAt f 0 1 = 0xC then .released else .same)
  | none =>
    if g.seen then ({ g with idle := g.idle + 1 }, if limit ≤ g.idle + 1 then .idle else .same)
    else if g.carried < 4 then (g, .same)
    else ({ g with idle := g.idle + 1 }, if 0 < g.idle then .withdrawn else .same)

/-- Judge one grant for the cycle under release, unless it has been judged. (DEDUCED, log entry 40) -/
def State.fbJudgeGrant (s : State) (b : Nat) (v : FbView) (slot : Nat) : State :=
  let x := s.bus b
  match x.grant slot with
  | none => s
  | some g =>
    if g.judged then s
    else
      let r := x.grantNext v g
      match r.2 with
      | .same => s.setBus b (x.setGrant r.1)
      | .withdrawn =>
        let s := s.setBus b { (x.dropGrant g) with withdrawn := x.withdrawn ++ [⟨4, g.node, g.slot⟩] }
        let s := s.incF .agreed (fbF fFbClaimWithdrawn b) 1
        let s := s.lastClaim b 4 0 g.slot g.node
        s.raise evFbClaimRefused b (g.node * 256 + 5)
      | _ =>
        let s := s.setBus b (x.dropGrant g)
        let s := s.lastClaim b 5 0 g.slot g.node
        s.raise evFbGrantReleased b (g.node * 256 + g.slot)

/-- Judge a channel for the cycle under release (the faults of `FB_STAT`). (DEDUCED, log entry 40) -/
def State.fbJudgeChannel (s : State) (b : Nat) (v : FbView) (ch : Nat) : State :=
  let x := s.bus b
  let judged := if ch = 0 then x.judgedX else x.judgedY
  if judged || !v.normal then s
  else
    let mine := v.frames.any fun f => f.1 == ch
    let other := v.frames.any fun f => f.1 != ch
    let old := if ch = 0 then x.deafX else x.deafY
    let deaf := if mine then 0 else if other then old + 1 else old
    let x := if ch = 0 then { x with deafX := deaf, judgedX := true } else { x with deafY := deaf, judgedY := true }
    let s := s.setBus b x
    let f := fbF (if ch = 0 then fFbStatXfault else fFbStatYfault) b
    if mine then s.putF .agreed f 0
    else if deaf = 16 ∧ old = 15 then (s.putF .agreed f 1).raise evFbChannelFault b ch
    else s

/-- Is a release under way, with a report of bus `b` agreed? Its view. (DEDUCED, log entry 40) -/
def State.fbReleasing (s : State) (b : Nat) : Option FbView :=
  if s.intake.releasePending ∧ b < 2 then s.fbView b else none

/-- A node's event at the release under way, where that is its turn. -/
def State.nodeEvent (s : State) (b node : Nat) (turn : NodeTurn) : State :=
  match s.fbReleasing b, (s.bus b).node node with
  | some v, some n =>
    if !n.judged && ((s.bus b).nodeNext v n).2 == turn then (s.fbJudgeNode b v node).showNodes b else s
  | _, _ => s

/-- A grant's event at the release under way, where that is its turn. -/
def State.grantEvent (s : State) (b slot : Nat) (turn : GrantTurn) : State :=
  match s.fbReleasing b, (s.bus b).grant slot with
  | some v, some g =>
    if !g.judged && ((s.bus b).grantNext v g).2 == turn then (s.fbJudgeGrant b v slot).showNodes b else s
  | _, _ => s

/-- FB_NODE_LOST (R205). -/
def execFbNodeLost (t : Nat) (b node : Nat) (s : State) : Result := ok ((s.advance t).nodeEvent b node .lost)

/-- FB_NODE_EXCLUDED (R207). -/
def execFbNodeExcluded (t : Nat) (b node : Nat) (s : State) : Result := ok ((s.advance t).nodeEvent b node .excluded)

/-- FB_NODE_READMITTED (R208). -/
def execFbNodeReadmitted (t : Nat) (b node : Nat) (s : State) : Result := ok ((s.advance t).nodeEvent b node .readmitted)

/-- FB_GRANT_WITHDRAW (R213). (DEDUCED, log entry 112) -/
def execFbGrantWithdraw (t : Nat) (b slot : Nat) (s : State) : Result := ok ((s.advance t).grantEvent b slot .withdrawn)

/-- FB_GRANT_IDLE_EXPIRY (R215). (DEDUCED, log entry 112) -/
def execFbGrantIdleExpiry (t : Nat) (b slot : Nat) (s : State) : Result := ok ((s.advance t).grantEvent b slot .idle)

/-- FB_CHANNEL_FAULT (R219 and `FB_STAT`): the channel's sixteenth such cycle is under release. -/
def execFbChannelFault (t : Nat) (b ch : Nat) (s : State) : Result :=
  let s := s.advance t
  match s.fbReleasing b with
  | some v =>
    let old := if ch = 0 then (s.bus b).deafX else (s.bus b).deafY
    if ch < 2 ∧ old = 15 ∧ !(v.frames.any fun f => f.1 == ch) ∧ (v.frames.any fun f => f.1 != ch) then
      ok (s.fbJudgeChannel b v ch)
    else ok s
  | none => ok s

/-- The STATUS and CHANNELS of a slot at a release, and the frame delivered (R204, R205). -/
def FbBus.merge (x : FbBus) (v : FbView) (e : FbSlot) (node : Nat) : Nat × Nat × Option (List Byte) :=
  let fx := v.got 0 e.slot
  let fy := v.got 1 e.slot
  let ch := b2n fx.isSome + 2 * b2n fy.isSome
  let status := fun (f : List Byte) => if fieldAt f 0 1 = 1 then 0 else 1
  let code := fun (l : List Nat) => l[e.slot]?.getD 0
  let rejected := fun (c : Nat) => decide (4 ≤ c ∧ c ≤ 9)
  if !v.normal then (7, 0, none)
  else if e.kind == .spareIn && node == 0 then (6, ch, none)
  else if x.excluded node then (4, ch, none)
  else
    match fx, fy with
    | some a, some b => if a.drop 4 = b.drop 4 then (status a, ch, some a) else (5, ch, none)
    | some a, none => (status a, ch, some a)
    | none, some b => (status b, ch, some b)
    | none, none => (if rejected (code v.codesX) || rejected (code v.codesY) then 3 else 2, ch, none)

/-- The 40-byte slot record (R205). (DEDUCED, log entry 41) -/
def FbSlotData.record (d : FbSlotData) : List Byte :=
  natLe 1 d.status ++ natLe 1 d.channels ++ natLe 2 (min 65535 d.age) ++ natLe 2 d.cycle ++ natLe 1 d.node
    ++ natLe 1 d.data.length ++ (d.data ++ List.replicate 32 0).take 32

/-- Was the grant in force in the cycle before that of instant `n`, whose release is under way (R213)? -/
def FbGrant.inForce (g : FbGrant) (n : Nat) : Bool :=
  match g.first with
  | some c => decide (c < n)
  | none => false

/-- Merge one input slot (R204, R205). -/
def State.fbMergeSlot (s : State) (b : Nat) (v : FbView) (e : FbSlot) : State :=
  let x := s.bus b
  let node := if e.kind == .nodeIn then e.node else
    match x.grant e.slot with
    | some g => if g.inForce x.cycle then g.node else 0
    | none => 0
  let (status, ch, frame) := x.merge v e node
  let s := if frame.isSome ∧ (ch = 1 ∨ ch = 2) then s.incF .agreed (fbF fFbMergeSingle b) 1 else s
  let s := if status = 5 then
      (s.incF .agreed (fbF fFbMergeDiffer b) 1).raiseLimited s.lane.active.mask (b * 128 + e.slot) evFbChDiffer b e.slot
    else s
  let d := x.slotData e.slot
  let d := { d with status := status, channels := ch, node := node }
  let d :=
    match frame with
    | some f =>
      if status = 0 then { d with data := f.drop 20, cycle := v.cycle, age := 0 } else { d with age := d.age + 1 }
    | none => { d with age := d.age + 1 }
  s.setBus b (x.setSlot d)

/-- The claim slot's decision (R212). -/
def State.fbClaim (s : State) (b : Nat) (v : FbView) : State :=
  let x := s.bus b
  match x.sched with
  | none => s
  | some sc =>
    if sc.claimSlot = 0 ∨ !v.normal then s
    else
      let cx := v.got 0 sc.claimSlot
      let cy := v.got 1 sc.claimSlot
      let hit := fun (l : List Nat) => l[sc.claimSlot]?.getD 0 == 0xA
      let clash := match cx, cy with
        | none, none => hit v.codesX || hit v.codesY
        | some p, some q => p.drop 4 != q.drop 4
        | _, _ => false
      if clash then
        let s := s.setBus b { x with answer := some ⟨2, 0, 0⟩ }
        let s := s.incF .agreed (fbF fFbClaimCollisions b) 1
        (s.lastClaim b 2 0 0 0).raise evFbClaimCollision b v.cycle
      else
        match v.one sc.claimSlot with
        | none => s
        | some f =>
          let node := fieldAt f 4 1
          let want := fieldAt f 20 1
          let late := match x.node node with
            | some n => n.late
            | none => false
          let spare := match x.slot want with
            | some e => e.kind == .spareIn
            | none => false
          let other := x.grants.any fun g => g.node == node && g.slot != want
          let taken := x.grants.any fun g => g.slot == want && g.node != node
          let reason := if x.state ≠ .normal then 4 else if !late then 1 else if other then 3
            else if !spare || taken then 2 else 0
          if reason ≠ 0 then
            let s := s.setBus b { x with answer := some ⟨3, node, reason⟩ }
            let s := s.incF .agreed (fbF fFbClaimRefused b) 1
            (s.lastClaim b 3 reason want node).raise evFbClaimRefused b (node * 256 + reason)
          else
            let before := (x.grant want).bind fun g => g.first
            let g : FbGrant := { slot := want, node := node, first := before }
            let x := { x with grants := g :: x.grants.filter (fun e => e.slot != want), answer := some ⟨1, node, want⟩ }
            let x := match x.node node with
              | some n => x.setNode { n with state := if n.state = 3 ∨ n.state = 4 then n.state else 5 }
              | none => x
            let s := s.setBus b x
            let s := s.incF .agreed (fbF fFbClaimGrants b) 1
            s.lastClaim b 1 0 want node

/-- The release of a bus's items (R204 to R215), by every mast's controller alike: channels, nodes, grants, the merge of every
input slot, and the claim. -/
def State.fbRelease (s : State) (b : Nat) : State :=
  match s.fbView b, (s.bus b).sched with
  | some v, some sc =>
    let s := (s.fbJudgeChannel b v 0).fbJudgeChannel b v 1
    let s := sc.nodes.foldl (fun s n => s.fbJudgeNode b v n.1) s
    let s := (sc.slots.filter fun e => e.kind == .nodeIn || e.kind == .spareIn).foldl (fun s e => s.fbMergeSlot b v e) s
    let s := sc.slots.foldl (fun s e => s.fbJudgeGrant b v e.slot) s
    let s := (s.fbClaim b v).showNodes b
    s.voters.foldl (fun s m =>
      if s.getF (.mast m) (fbF fFbCtrlRxIrq b) = 1 then s.interrupt m 3 (0x300 + b) else s) s
  | _, _ => s

end Sys2Proof.Machine
end

