-- ==== Sys2Proof/Machine/Network.lean ====
section
/-!
DEFINITION. Network ports, TRDP and safe connections (R33, R301 to R325).
-/
namespace Sys2Proof.Machine

/-! ## The NETWORK section (R323 to R325) -/

/-- An offset and size where the condition holds. (DEDUCED, log entry 108) -/
def badField (c : Bool) (o n : Nat) : List (Nat × Nat) := if c then [(o, n)] else []

/-- Nonzero reserved bytes. -/
def badZero (b : List Byte) (o n : Nat) : List (Nat × Nat) := badField (!allZero (slice b o n)) o n

/-- A value outside its range. -/
def badRange (b : List Byte) (o n least most : Nat) : List (Nat × Nat) :=
  badField (decide (fieldAt b o n < least) || decide (most < fieldAt b o n)) o n

/-- Where the tables begin (R323): GCL, MCAST, PD, MD, SC and the end. -/
structure NetLayout where
  gcl : Nat
  mcast : Nat
  pd : Nat
  md : Nat
  sc : Nat
  len : Nat
  deriving DecidableEq, Repr

/-- The layout the counts of a NETWORK section imply. -/
def netLayout (b : List Byte) : NetLayout :=
  let g := 0x1C0
  let m := g + 8 * fieldAt b 2 1
  let p := m + 4 * fieldAt b 3 1
  let d := p + 24 * fieldAt b 4 2
  let c := d + 16 * fieldAt b 6 2
  ⟨g, m, p, d, c, c + 48 * fieldAt b 8 2⟩

/-- One class of a port entry. -/
def parseClass (b : List Byte) (o : Nat) : NetClass :=
  { rate := fieldAt b o 2, burst := fieldAt b (o + 2) 2, reserve := fieldAt b (o + 4) 2, thresh := fieldAt b (o + 6) 1,
    buf := fieldAt b (o + 7) 1, tokens := fieldAt b (o + 2) 2 * 256 * 8 * 10000 }

/-- One port entry with its gate list. -/
def parsePort (b : List Byte) (p : Nat) : NetPort :=
  let o := 0x80 + 80 * p
  { speeds := fieldAt b o 1, budget := fieldAt b (o + 2) 2, pcpMap := fieldAt b (o + 4) 4, untagged := fieldAt b (o + 8) 1,
    gcl := (List.range (fieldAt b (o + 10) 1)).map fun i =>
      let g := 0x1C0 + 8 * (fieldAt b (o + 9) 1 + i)
      ⟨fieldAt b g 1, fieldAt b (g + 4) 4⟩,
    classes := (List.range 8).map fun c => parseClass b (o + 0x10 + 8 * c) }

/-- One interface entry; the MAC address in wire order. -/
def parseIface (b : List Byte) (i : Nat) : NetIface :=
  let o := 0x40 + 32 * i
  { mode := fieldAt b o 1, mac := beNat (slice b (o + 2) 6), ip := fieldAt b (o + 8) 4, mask := fieldAt b (o + 12) 4,
    gateway := fieldAt b (o + 16) 4, vlan := fieldAt b (o + 20) 2 }

/-- One PD entry. -/
def parsePd (b : List Byte) (o : Nat) : PdEntry :=
  { comId := fieldAt b o 4, dir := fieldAt b (o + 4) 1, station := fieldAt b (o + 5) 1, iface := fieldAt b (o + 6) 1,
    flags := fieldAt b (o + 7) 1, peer := fieldAt b (o + 8) 4, period := fieldAt b (o + 12) 2,
    timeoutMs := fieldAt b (o + 14) 2, phaseUs := fieldAt b (o + 16) 2, len := fieldAt b (o + 18) 2,
    telegram := fieldAt b (o + 20) 2, sc := fieldAt b (o + 22) 2 }

/-- One MD entry. -/
def parseMd (b : List Byte) (o : Nat) : MdEntry :=
  { comId := fieldAt b o 4, peer := fieldAt b (o + 4) 4, kind := fieldAt b (o + 8) 1, iface := fieldAt b (o + 9) 1,
    timeoutMs := fieldAt b (o + 10) 2, maxLen := fieldAt b (o + 12) 2 }

/-- One SC entry. -/
def parseSc (b : List Byte) (o : Nat) : SafeConn :=
  { connId := fieldAt b o 4, dir := fieldAt b (o + 4) 1, maxGap := fieldAt b (o + 6) 2, maxAge := fieldAt b (o + 8) 2,
    watchdog := fieldAt b (o + 10) 2, key := slice b (o + 16) 32 }

/-- Read the body of the NETWORK section. -/
def parseNetwork (b : List Byte) : NetPart :=
  let l := netLayout b
  { enabled := true
    ifaces := (List.range 2).map (parseIface b)
    ports := (List.range 4).map (parsePort b)
    mcast := (List.range (fieldAt b 3 1)).map fun i => fieldAt b (l.mcast + 4 * i) 4
    pd := (List.range (fieldAt b 4 2)).map fun i => parsePd b (l.pd + 24 * i)
    md := (List.range (fieldAt b 6 2)).map fun i => parseMd b (l.md + 16 * i)
    sc := (List.range (fieldAt b 8 2)).map fun i => parseSc b (l.sc + 48 * i)
    icmpRate := fieldAt b 10 2 }

/-- Nanoseconds a publication's frame takes on the slowest enabled speed of its interface's ports (R302, R307): preamble,
headers, PRP trailer, FCS and inter-frame gap round the dataset. -/
def pdFrameNs (n : NetPart) (e : PdEntry) : Nat :=
  let slow := n.ports.mapIdx fun p (q : NetPort) => p % 2 + 1 == e.iface && bitOf q.speeds 0
  (8 + 14 + 4 + 28 + 40 + e.len + 6 + 4 + 12) * (if slow.any id then 80 else 8)

/-- Offending fields of the interfaces and ports. -/
def netPortErrors (b : List Byte) (cycleUs : Nat) (n : NetPart) : List (Nat × Nat) :=
  ((List.range 2).flatMap fun i =>
    let o := 0x40 + 32 * i
    badRange b o 1 0 2 ++ badZero b (o + 1) 1 ++ badField (bitOf (fieldAt b (o + 2) 1) 0) (o + 2) 6
      ++ badRange b (o + 20) 2 0 4094 ++ badZero b (o + 22) 10) ++
  (n.ports.mapIdx fun p (q : NetPort) =>
    let o := 0x80 + 80 * p
    badRange b o 1 0 3 ++ badZero b (o + 1) 1 ++ badRange b (o + 2) 2 64 2048
      ++ badField ((List.range 8).any fun k => bitOf q.pcpMap (4 * k + 3)) (o + 4) 4
      ++ badRange b (o + 8) 1 0 7
      ++ badField (decide (fieldAt b 2 1 < fieldAt b (o + 9) 1 + fieldAt b (o + 10) 1)) (o + 9) 1
      ++ badRange b (o + 10) 1 0 32 ++ badZero b (o + 11) 5
      ++ ((List.range 8).flatMap fun c =>
        let k := o + 0x10 + 8 * c
        badRange b (k + 2) 2 6 1024 ++ badRange b (k + 6) 1 1 100 ++ badRange b (k + 7) 1 1 12)
      ++ badField (decide (q.budget < (q.classes.map fun c => c.reserve).foldl (· + ·) 0)) (o + 2) 2
      ++ badField (q.gcl != [] && (q.gcl.map fun g => g.interval).foldl (· + ·) 0 != cycleUs * 1000) (o + 9) 1).flatten
  ++ badField (decide (6144 < (n.ports.map fun q => q.budget).foldl (· + ·) 0)) 0x82 2

/-- Does the SC index of an entry name no connection of its direction? -/
def scIndexBad (n : NetPart) (e : PdEntry) : Bool :=
  if e.sc = 0xFFFF then false
  else match n.sc[e.sc]? with
    | some c => c.dir != e.dir
    | none => true

/-- Offending fields of the tables. (DEDUCED, log entry 34) -/
def netTableErrors (b : List Byte) (cycleUs : Nat) (n : NetPart) : List (Nat × Nat) :=
  let l := netLayout b
  let telegrams := n.pd.map fun e => e.telegram
  ((List.range (fieldAt b 2 1)).flatMap fun i =>
    badZero b (l.gcl + 8 * i + 1) 3 ++ badField (decide (fieldAt b (l.gcl + 8 * i + 4) 4 < 2000)) (l.gcl + 8 * i + 4) 4) ++
  (n.pd.mapIdx fun i (e : PdEntry) =>
    let o := l.pd + 24 * i
    badRange b (o + 4) 1 1 2 ++ badField (e.dir == 2 && e.station == 0) (o + 5) 1 ++ badRange b (o + 6) 1 1 2
      ++ badRange b (o + 7) 1 0 3 ++ badField (e.dir == 1 && (e.period == 0 || decide (10000 < e.period))) (o + 12) 2
      ++ badField (e.dir == 2 && (e.timeoutMs == 0 || decide (60000 < e.timeoutMs))) (o + 14) 2
      ++ badField (e.dir == 1 && (decide (e.phaseUs < 200)
          || decide (cycleUs * 1000 < e.phaseUs * 1000 + pdFrameNs n e + 100000))) (o + 16) 2
      ++ badRange b (o + 18) 2 0 1432
      ++ badField (decide (4095 < e.telegram) || (telegrams.take i).contains e.telegram) (o + 20) 2
      ++ badField (scIndexBad n e) (o + 22) 2).flatten ++
  ((List.range (fieldAt b 6 2)).flatMap fun i =>
    let o := l.md + 16 * i
    badRange b (o + 8) 1 1 2 ++ badRange b (o + 9) 1 1 2 ++ badRange b (o + 10) 2 10 60000 ++ badRange b (o + 12) 2 0 1432
      ++ badZero b (o + 14) 2) ++
  ((List.range (fieldAt b 8 2)).flatMap fun i =>
    let o := l.sc + 48 * i
    badField (fieldAt b o 4 == 0) o 4 ++ badRange b (o + 4) 1 1 2 ++ badZero b (o + 5) 1 ++ badRange b (o + 6) 2 1 1000
      ++ badRange b (o + 8) 2 2 10000
      ++ badField (decide (fieldAt b (o + 10) 2 < fieldAt b (o + 8) 2) || decide (60000 < fieldAt b (o + 10) 2)) (o + 10) 2
      ++ badZero b (o + 12) 4)

/-- The first offending field of a NETWORK section whose LENGTH is right (R325): its offset and value. (DEDUCED, log entry 108) -/
def checkNetwork (cycleUs : Nat) (b : List Byte) : Option (Nat × Nat) :=
  let n := parseNetwork b
  let head := badField (fieldAt b 0 2 != 1) 0 2 ++ badRange b 2 1 0 128 ++ badRange b 3 1 0 64 ++ badRange b 4 2 0 4096
    ++ badRange b 6 2 0 256 ++ badRange b 8 2 0 512 ++ badRange b 10 2 1 1000 ++ badZero b 12 52
  match (head ++ netPortErrors b cycleUs n ++ netTableErrors b cycleUs n).head? with
  | some (o, k) => some (o, fieldAt b o k)
  | none => none

/-! ## Ports -/

/-- Port `p`'s copy of a register field. -/
def npF (f : Fld) (p : Nat) : Fld := f.plus (0x1000 * (p - 1))

/-- Port `p`'s copy of a per-class register field. -/
def npC (f : Fld) (p c : Nat) : Fld := f.plus (0x1000 * (p - 1) + 4 * c)

/-- The interface of a port (R301): ports 1 and 3 belong to interface 1. -/
def ifaceOf (p : Nat) : Nat := (p - 1) % 2

/-- The plane of a port (R301). -/
def planeOf (p : Nat) : Nat := (p - 1) / 2 + 1

/-- The port's entry. -/
def NetPart.port (n : NetPart) (p : Nat) : NetPort := n.ports[p - 1]?.getD {}

/-- The interface's entry. -/
def NetPart.iface (n : NetPart) (p : Nat) : NetIface := n.ifaces[ifaceOf p]?.getD {}

/-- Is the port configured and enabled (R301, R324)? -/
def NetPart.portEnabled (n : NetPart) (p : Nat) : Bool :=
  n.enabled && decide (1 ≤ p ∧ p ≤ 4) && (n.port p).speeds != 0 &&
    ((n.iface p).mode == 1 || ((n.iface p).mode == 2 && planeOf p == 1))

/-- A frame on a network port darkens its LED, at most every 60 ms (R441). -/
def State.darken (s : State) (p : Nat) : State :=
  match s.panel.dark[p - 1]?.getD none with
  | some d => if s.now < d + 60 * ms then s else { s with panel := { s.panel with dark := s.panel.dark.set (p - 1) (some s.now) } }
  | none => { s with panel := { s.panel with dark := s.panel.dark.set (p - 1) (some s.now) } }

/-- Replace a port's entry. -/
def State.setPort (s : State) (p : Nat) (q : NetPort) : State :=
  { s with net := { s.net with ports := s.net.ports.set (p - 1) q } }

/-- Load a checked section (step 8 of R29). -/
def State.netLoad (s : State) (n : NetPart) : State :=
  let s : State := { s with net := { n with topo := s.net.topo } }
  let s := [1, 2, 3, 4].foldl (fun s p =>
    let s := s.putF .agreed (npF fNpStatEnabled p) (b2n (n.portEnabled p))
    let s := s.putF .agreed (npF fNpStatMode p) (n.iface p).mode
    s.putF .agreed (npF fNpStatGcl p) (b2n ((n.port p).gcl != []))) s
  let s := s.putF .agreed fNpPdSubs (n.pd.filter fun e => e.dir == 2).length
  s.putF .agreed fNpPdPubs (n.pd.filter fun e => e.dir == 1).length

/-- Is the link of a port up? -/
def State.linkUp (s : State) (p : Nat) : Bool := s.getF .agreed (npF fNpStatSpeed p) != 0

/-- Are both ports of a plane down? -/
def State.planeDown (s : State) (plane : Nat) : Bool := !s.linkUp (2 * plane - 1) && !s.linkUp (2 * plane)

/-- LINK_CHANGE (R302): the link resolves to speed 0 down, 1 100 Mbit/s, 2 1000 Mbit/s, or to half duplex; `energy` is the
link energy detected. In STANDBY only the energy detectors of ports 1 and 3 work (R23, R37). -/
def execLinkChange (t : Nat) (p speed : Nat) (half energy : Bool) (s : State) : Result :=
  let s := s.advance t
  if !s.net.portEnabled p || decide (2 < speed) then ok s
  else if s.ctl.mode = .standby then
    ok (if p = 1 ∨ p = 3 then s.putF .agreed (npF fNpStatEnergy p) (b2n energy) else s)
  else
    let s := s.putF .agreed (npF fNpStatEnergy p) (b2n energy)
    let s := if half then s.incF .agreed (npF fNpStatDuplexfail p) 1 else s
    let up := !half && ((speed == 1 && bitOf (s.net.port p).speeds 0) || (speed == 2 && bitOf (s.net.port p).speeds 1))
    let v := if up then speed else 0
    if s.getF .agreed (npF fNpStatSpeed p) = v then ok s
    else
      let plane := planeOf p
      let was := s.planeDown plane
      let s := (s.putF .agreed (npF fNpStatSpeed p) v).raise evNpLink p v
      if s.planeDown plane = was then ok s else ok (s.raise evNpPlane plane (b2n (s.planeDown plane)))

/-! ## Frames (R33, R304, R305, R313 to R315). Field places of Ethernet, IPv4, ARP, ICMP, UDP, PRP and TRDP are those of
their published standards. -/

/-- Offset of the EtherType's payload: after a VLAN tag if there is one. (PRESUMED, log entry 21) -/
def l3Of (f : List Byte) : Nat := if beNat (slice f 12 2) = 0x8100 then 18 else 14

/-- EtherType after any VLAN tag. (PRESUMED, log entry 21) -/
def etherType (f : List Byte) : Nat := beNat (slice f (l3Of f - 2) 2)

/-- A big-endian field of a frame. -/
def beAt (f : List Byte) (o n : Nat) : Nat := beNat (slice f o n)

/-- PRP redundancy control trailer: sequence and LAN code, where the frame carries one (R303, R304). (PRESUMED, log entry 21) -/
def prpTrailer (f : List Byte) : Option (Nat × Nat) :=
  let o := f.length - 6
  if f.length < l3Of f + 6 then none
  else if beAt f (o + 4) 2 = 0x88FB ∧ beAt f (o + 2) 2 % 4096 = f.length - l3Of f then
    some (beAt f o 2, beAt f (o + 2) 2 / 4096)
  else none

/-- Is it a PTP or gPTP frame (R155): EtherType 0x88F7, or UDP to port 319 or 320? -/
def isPtp (f : List Byte) : Bool :=
  let o := l3Of f
  etherType f == 0x88F7 ||
    (etherType f == 0x0800 && beAt f (o + 9) 1 == 17 && (beAt f (o + 22) 2 == 319 || beAt f (o + 22) 2 == 320))

/-- Is the destination one of the interface's addresses, broadcast, a joined group, or a PTP group (R313 step 2)? -/
def NetPart.forMe (n : NetPart) (p : Nat) (f : List Byte) : Bool :=
  let d := beAt f 0 6
  d == (n.iface p).mac || d == 0xFFFFFFFFFFFF || n.mcast.any (fun g => d == 0x01005E000000 + g % 2 ^ 23)
    || (isPtp f && bitOf (d / 2 ^ 40) 0)

/-- Is the IPv4 destination the interface's address, a broadcast or a group: the module does not route (R305)? -/
def ipForMe (i : NetIface) (d : Nat) : Bool :=
  d == i.ip || d == 0xFFFFFFFF || d / 2 ^ 28 == 0xE || d == (BitVec.ofNat 32 i.ip ||| ~~~BitVec.ofNat 32 i.mask).toNat

/-- Is the protocol one the interface supports (R305)? -/
def supported (i : NetIface) (f : List Byte) : Bool :=
  let o := l3Of f
  let vlan := if o = 18 then beAt f 14 2 % 4096 else 0
  let ip := beAt f o 1 == 0x45 && beAt f (o + 6) 2 % 16384 == 0 && ipForMe i (beAt f (o + 16) 4) &&
    (beAt f (o + 9) 1 == 1 || beAt f (o + 9) 1 == 2 ||
      (beAt f (o + 9) 1 == 17 && [17224, 17225, 319, 320].contains (beAt f (o + 22) 2)))
  (vlan == i.vlan || vlan == 0) && (etherType f == 0x88F7 || etherType f == 0x0806 || (etherType f == 0x0800 && ip))

/-- Is it UDP to the interface's address on a port nobody listens to (R305)? -/
def udpUnreachable (i : NetIface) (f : List Byte) : Bool :=
  let o := l3Of f
  etherType f == 0x0800 && beAt f o 1 == 0x45 && beAt f (o + 9) 1 == 17 && beAt f (o + 16) 4 == i.ip
    && !([17224, 17225, 319, 320].contains (beAt f (o + 22) 2))

/-- Is it an ICMP echo request to the interface? -/
def isEcho (i : NetIface) (f : List Byte) : Bool :=
  let o := l3Of f
  etherType f == 0x0800 && beAt f (o + 9) 1 == 1 && beAt f (o + 20) 1 == 8 && beAt f (o + 16) 4 == i.ip

/-- Is it an ARP request for the interface's address? -/
def isArpFor (i : NetIface) (f : List Byte) : Bool :=
  let o := l3Of f
  etherType f == 0x0806 && beAt f (o + 6) 2 == 1 && beAt f (o + 24) 4 == i.ip && beAt f (o + 14) 4 != i.ip

/-- May one more reply be sent in the current second (R33, R305)? The list with the reply counted, or none. -/
def rateTake (l : List (Nat × Nat)) (p now limit : Nat) : Option (List (Nat × Nat)) :=
  let e := l[p - 1]?.getD (0, 0)
  let e := if sec + e.1 ≤ now then (now, 0) else e
  if e.2 < limit then some (l.set (p - 1) (e.1, e.2 + 1)) else none

/-- Are the limits of R33 in force: until 1 s after STOP is entered at the end of BOOT? -/
def State.bootLimits (s : State) : Bool :=
  s.ctl.mode == .boot ||
    decide (s.now < s.ctl.bootFrom + s.getF .agreed fMcBoottimeToStop * ms + sec)

/-- Does the module send on its network ports (R23, R28, R33)? -/
def State.netSends (s : State) : Bool := s.inMode [.boot, .service, .stop, .run, .hold]

/-- Note a reply that leaves the module. -/
def State.noteReply (s : State) (r : NetReply) : State := { s with net := { s.net with replies := s.net.replies ++ [r] } }

/-- Note a reply of the module; in a mode whose transmitters are off or silent there is none (R23, R28). -/
def State.netReply (s : State) (r : NetReply) : State :=
  if s.netSends then s.noteReply r else s

/-- An ICMP reply, within its limit (R33, R305). -/
def State.icmpReply (s : State) (p : Nat) (r : NetReply) : State :=
  if !s.netSends then s else
  let boot := s.bootLimits
  match rateTake s.net.icmp p s.now (if boot then 10 else s.net.icmpRate) with
  | some l => { s with net := { s.net with icmp := l } }.netReply r
  | none => if boot then s.incF .agreed fMcBootarpIcmpDrop 1 else s.incF .agreed fNpIcmpDropped 1

/-- An ARP reply, limited only by R33. -/
def State.arpReply (s : State) (p : Nat) : State :=
  if !s.netSends then s
  else if !s.bootLimits then s.netReply (.arp (ifaceOf p + 1) false)
  else
    match rateTake s.net.arpReplies p s.now 10 with
    | some l => { s with net := { s.net with arpReplies := l } }.netReply (.arp (ifaceOf p + 1) false)
    | none => s.incF .agreed fMcBootarpArpDrop 1

/-- Learn the sender of an ARP frame: 256 entries per interface, the oldest gives way (R305). (DEDUCED, log entry 42) -/
def State.arpLearn (s : State) (p : Nat) (f : List Byte) : State :=
  let i := ifaceOf p
  let o := l3Of f
  let ip := beAt f (o + 14) 4
  let old := ((s.net.arp[i]?).getD []).filter fun e => e.1 != ip
  let s : State := { s with net := { s.net with arp := s.net.arp.set i (((ip, beAt f (o + 8) 6) :: old).take 256) } }
  s.putF .agreed fNpArpEntries ((s.net.arp.map fun l => l.length).foldl (· + ·) 0)

/-- What the module itself does with an ARP or ICMP frame it has taken in (R305). (DEDUCED, log entry 42) -/
def State.netAnswer (s : State) (p : Nat) (f : List Byte) : State :=
  let i := s.net.iface p
  let o := l3Of f
  if etherType f = 0x0806 then
    if beAt f (o + 14) 4 = i.ip then
      (s.incF .agreed fNpArpConflicts 1).raise evNpArpConflict i.ip p
    else
      let s := s.arpLearn p f
      if isArpFor i f then s.arpReply p else s
  else if isEcho i f then s.icmpReply p (.icmpEcho p)
  else s

/-- Tokens of a class at this time, in 10⁻⁴ bit (R314). (DEDUCED, log entry 44) -/
def NetClass.refilled (c : NetClass) (now : Nat) : Nat :=
  min (c.burst * 256 * 8 * 10000) (c.tokens + c.rate * (now - c.tokensAt))

/-- The policer (R314): the class with its tokens counted, and whether the frame passes. (DEDUCED, log entry 44) -/
def NetClass.police (c : NetClass) (now bytes : Nat) : NetClass × Bool :=
  if c.rate = 0 then (c, true)
  else
    let have' := c.refilled now
    let cost := bytes * 8 * 10000
    if have' < cost then ({ c with tokens := have', tokensAt := now }, false)
    else ({ c with tokens := have' - cost, tokensAt := now }, true)

/-- The shared pool of a port (R315). -/
def NetPort.poolSize (q : NetPort) : Nat := q.budget - (q.classes.map fun c => c.reserve).foldl (· + ·) 0

/-- Admission of a frame of class `c` (R315): the port with the item counted, or none. -/
def NetPort.letIn (q : NetPort) (c : Nat) : Option NetPort :=
  let e := q.classes[c]?.getD {}
  if e.used < e.reserve then some { q with classes := q.classes.set c { e with used := e.used + 1 } }
  else if q.pool * 100 < e.thresh * q.poolSize then some { q with pool := q.pool + 1 }
  else none

/-- The class of a frame (R313 step 4). -/
def NetPort.classOf (q : NetPort) (f : List Byte) : Nat :=
  if isPtp f then 7
  else if l3Of f = 18 then q.pcpMap / 2 ^ (4 * (beAt f 14 2 / 8192)) % 8
  else q.untagged

/-- Steps 4 to 7 of R313: class, policer, admission and the item. `len` is the length as received. -/
def State.netAdmit (s : State) (p : Nat) (f : List Byte) (len : Nat) : State :=
  let q := s.net.port p
  let c := q.classOf f
  let (e, pass) := (q.classes[c]?.getD {}).police s.now len
  let q := { q with classes := q.classes.set c e }
  let s := s.setPort p q
  if !pass then (s.incF .agreed (npC fNpPoldrop1Count p c) 1).noteSummary 0 evNpPoliced (p * 256 + c)
  else
    match q.letIn c with
    | none => (s.incF .agreed (npC fNpAdmdrop1Count p c) 1).noteSummary 0 evNpAdmission (p * 256 + c)
    | some q =>
      let s := s.setPort p q
      let s := s.incF .agreed (npC fNpRxcls1Count p c) 1
      let s := s.maxF .agreed (npF fNpAdmitPeak p) q.pool
      let s := s.wrapF .agreed (npF fNpRxokCount p) 1
      let s := s.formItem (0x1000 + 0x100 * p + c) s.moduleTime f
      s.netAnswer p f

/-- A frame padded to the 60 bytes of R333. -/
def padFrame (f : List Byte) : List Byte := f ++ List.replicate (60 - f.length) 0

/-- A frame with its PRP redundancy control trailer (R303): sequence number, LAN A or B with the size from the payload on, and the
suffix. -/
def withTrailer (f : List Byte) (seq plane : Nat) : List Byte :=
  let size := f.length + 6 - l3Of f
  f ++ natBe 2 seq ++ natBe 2 ((if plane = 1 then 0xA else 0xB) * 4096 + size % 4096) ++ natBe 2 0x88FB

/-- The ports on which a frame for a port leaves (R301, R303, R333): both of its interface where that is a PRP node, unless it is
sent on its own port only or is a PTP or gPTP frame. -/
def NetPart.sendPorts (n : NetPart) (p : Nat) (portOnly : Bool) (f : List Byte) : List Nat :=
  if portOnly || isPtp f || (n.iface p).mode != 1 then [p] else [ifaceOf p + 1, ifaceOf p + 3]

/-- Step 3 of R313 (R304): the frame without its trailer, or none for a duplicate. -/
def State.prpDiscard (s : State) (p : Nat) (f : List Byte) : Option (List Byte) × State :=
  match (if isPtp f then none else prpTrailer f) with
  | none => (some f, s)
  | some (seq, lan) =>
    let s := if lan = (if planeOf p = 1 then 0xA else 0xB) then s
      else (s.incF .agreed (npF fNpPrpWronglan p) 1).raiseLimited s.lane.active.mask p evNpPrpWrongLan p (beAt f 6 6)
    let i := ifaceOf p
    let mac := beAt f 6 6
    let table := (s.net.prp[i]?.getD []).filter fun e => decide (s.now < e.at' + 400 * ms)
    if table.any fun e => e.mac == mac && e.seq == seq then (none, s.incF .agreed (npF fNpPrpDups p) 1)
    else
      (some (f.take (f.length - 6)),
        { s with net := { s.net with prp := s.net.prp.set i ((⟨mac, seq, s.now⟩ :: table).take 1024) } })

/-- A frame during BOOT (R33): counted and discarded, or from step 8 on an ARP or echo request answered. (DEDUCED, log entry 42) -/
def State.bootFrame (s : State) (p : Nat) (f : List Byte) (fcsOk : Bool) : State :=
  let i := s.net.iface p
  let drop := s.incF .agreed (fMcBootdropCount.plus (4 * (p - 1))) 1
  if s.now < s.ctl.stepAt 1050 ∨ !fcsOk ∨ !s.net.portEnabled p then drop
  else if isArpFor i f then s.arpReply p
  else if isEcho i f && beAt f 0 6 == i.mac then s.icmpReply p (.icmpEcho p)
  else drop

/-- The interface the ROMs serve in RECOVERY (R406): 192.168.48.1/24 on port 1, without PRP. -/
def recoveryIface (i : NetIface) : NetIface := { i with ip := 0xC0A83001, mask := 0xFFFFFF00, vlan := 0, mode := 0 }

/-- A frame in RECOVERY (R23, R406): the ROMs answer ARP and ICMP echo on port 1; the other ports are not in use. -/
def State.recoveryFrame (s : State) (p : Nat) (f : List Byte) (fcsOk : Bool) : State :=
  let i := recoveryIface (s.net.iface 1)
  if p ≠ 1 ∨ !fcsOk ∨ f.length + 4 < 64 ∨ 1528 < f.length + 4 then s
  else if isArpFor i f then s.noteReply (.arp 1 false)
  else if isEcho i f && beAt f 0 6 == i.mac then s.noteReply (.icmpEcho 1)
  else s

/-- NETWORK_FRAME_RECEIVED (R33, R313): a frame from its destination address to the byte before its FCS. -/
def execNetworkFrameReceived (t : Nat) (p : Nat) (f : List Byte) (fcsOk : Bool) (s : State) : Result :=
  let s := s.advance t
  if p = 0 ∨ 4 < p ∨ s.voters.all (fun m => !(s.mast m).powered) ∨ s.ctl.mode = .standby then ok s
  else if s.ctl.mode = .recovery then ok (s.recoveryFrame p f fcsOk)
  else if s.ctl.mode = .boot ∧ s.now < s.ctl.stepAt 1150 then ok (s.bootFrame p f fcsOk)
  else if !s.net.portEnabled p then ok s
  else
  let s := s.darken p
  if !fcsOk then ok (s.incF .agreed (npF fNpRxerrFcs p) 1)
  else if f.length + 4 < 64 ∨ 1528 < f.length + 4 then ok (s.incF .agreed (npF fNpRxerrLength p) 1)
  else if !s.net.forMe p f then ok s
  else
    match s.prpDiscard p f with
    | (none, s) => ok s
    | (some g, s) =>
      let i := s.net.iface p
      if !supported i g then
        let s := s.incF .agreed (npF fNpRxerrUnsup p) 1
        ok (if udpUnreachable i g then s.icmpReply p (.icmpUnreachable p) else s)
      else ok (s.netAdmit p g (f.length + 4))

/-- PRP_ENTRY_FORGET (R304): an entry of the duplicate-discard table has reached its forget time. -/
def execPrpEntryForget (t : Nat) (iface mac seq : Nat) (s : State) : Result :=
  let s := s.advance t
  let l := (s.net.prp[iface - 1]?.getD []).filter fun e =>
    !(e.mac == mac && e.seq == seq && decide (e.at' + 400 * ms ≤ s.now))
  if iface = 0 then ok s else ok { s with net := { s.net with prp := s.net.prp.set (iface - 1) l } }

/-! ## Process data (R281, R306 to R308) -/

/-- The dataset of a telegram in the image in force (R307). (PRESUMED, log entry 21) -/
def State.dataset (s : State) (telegram : Nat) : Option (List Byte) :=
  match s.lane.inForce.find? fun i => i.source == 0xC000 + telegram with
  | some i => some i.value
  | none => none

/-- Is the publication's station lost (R283)? A publication is addressed to the stations whose telegrams its PEER sends. -/
def State.pdHeld (s : State) (e : PdEntry) : Bool :=
  s.net.pd.any fun x => x.dir == 2 && x.peer != 0 && x.peer == e.peer &&
    s.app.stations.any fun a => a.index == x.station && a.state == 3 && a.gone != 0

/-- Replace a PD entry by telegram. -/
def State.setPd (s : State) (e : PdEntry) : State :=
  { s with net := { s.net with pd := s.net.pd.map fun x => if x.telegram == e.telegram then e else x } }

/-- Queue a dataset for a launch time (R307). -/
def State.pdQueue (s : State) (telegram launch : Nat) (data : List Byte) : State :=
  { s with net := { s.net with publish := s.net.publish ++ [(telegram, launch, data)] } }

/-- PD_PUBLISH (R283, R307): a publication whose turn it is is queued for the action instant plus PHASE_US. -/
def execPdPublish (t : Nat) (telegram : Nat) (s : State) : Result :=
  let s := s.advance t
  match s.net.pd.find? fun e => e.telegram == telegram && e.dir == 1 with
  | none => ok s
  | some e =>
    if e.wait ≠ 0 ∨ !s.inMode [.run, .hold] then ok s
    else
      let s := s.setPd { e with wait := e.period }
      match s.dataset telegram with
      | some d => if s.pdHeld e then ok s else ok (s.pdQueue telegram (s.time.lastAiTime + e.phaseUs * us) d)
      | none => ok s

/-- PD_PULL_REQUEST (R307): a Pull request is answered at the next PHASE_US of the telegram, or with Me in STOP and
SERVICE. -/
def execPdPullRequest (t : Nat) (telegram : Nat) (s : State) : Result :=
  let s := s.advance t
  match s.net.pd.find? fun e => e.telegram == telegram && e.dir == 1 && bitOf e.flags 1 with
  | none => ok s
  | some e =>
    if s.inMode [.stop, .service] then ok (s.netReply (.me e.comId))
    else if !s.inMode [.run, .hold] then ok s
    else
      match s.dataset telegram with
      | none => ok s
      | some d =>
        let here := s.time.lastAiTime + e.phaseUs * us
        let launch := if s.moduleTime < here then here else here + s.aiCycle
        ok ((s.pdQueue telegram launch d).netReply (.pdPull telegram d))

/-- Offset of the TRDP header in a frame. (PRESUMED, log entry 21) -/
def trdpOf (f : List Byte) : Nat := l3Of f + 28

/-- The subscription a released frame matches (R308): UDP port 17224, ComId and source address, on its interface. -/
def State.pdMatch (s : State) (source : Nat) (f : List Byte) : Option PdEntry :=
  let o := l3Of f
  if etherType f = 0x0800 ∧ beAt f (o + 9) 1 = 17 ∧ beAt f (o + 22) 2 = 17224 then
    s.net.pd.find? fun e => e.dir == 2 && e.comId == beAt f (trdpOf f + 8) 4 &&
      (e.peer == 0 || e.peer == beAt f (o + 12) 4) && e.iface == ifaceOf (source / 256 % 16) + 1
  else none

/-- Count and raise a rejected PD frame (R308). -/
def State.pdReject (s : State) (e : PdEntry) (reason : Nat) : State :=
  let f := if reason = 1 then fNpPdrejHcrc else if reason = 2 then fNpPdrejTopo else fNpPdrejLength
  (s.incF .agreed f 1).raiseLimited s.lane.active.mask e.comId evNpPdReject e.comId reason

/-- A released frame that matches a subscription is placed, or discarded and counted (R281, R308). -/
def State.pdPlace (s : State) (i : Item) (e : PdEntry) : State :=
  let f := i.value
  let h := trdpOf f
  let topo := fun (v own : Nat) => v != 0 && v != own
  let len := beAt f (h + 20) 4
  if leNat (slice f (h + 36) 4) ≠ (crc32 (slice f h 36)).toNat then s.pdReject e 1
  else if topo (beAt f (h + 12) 4) s.net.topo.1 || topo (beAt f (h + 16) 4) s.net.topo.2 then s.pdReject e 2
  else if len ≠ e.len then s.pdReject e 3
  else s.setPd { e with data := some (slice f (h + 40) len), at' := i.time, age := 0, seq := beAt f h 4 }

/-! ## Message data (R309) -/

/-- Show the open sessions. -/
def State.showMd (s : State) : State := s.putF .agreed fNpMdOpen s.net.sessions.length

/-- MD_REQUEST (R309): a request of a ComId opens a session, or is answered with Me at the limit. -/
def execMdRequest (t : Nat) (comId : Nat) (s : State) : Result :=
  let s := s.advance t
  match s.net.md.find? fun e => e.comId == comId with
  | none => ok s
  | some e =>
    if 256 ≤ s.net.sessions.length then
      let s := (s.incF .agreed fNpMdRefused 1).netReply (.me comId)
      ok (s.raise evNpMdLimit comId s.net.sessions.length)
    else
      let n := s.net.nextSession
      let x : MdSession := ⟨n, comId, s.now, e.timeoutMs⟩
      let s : State := { s with net := { s.net with sessions := s.net.sessions ++ [x], nextSession := n + 1 } }
      ok s.showMd

/-- MD_REPLY_TIMEOUT (R309): no reply or confirm came within REPLY_TIMEOUT_MS; the session ends. -/
def execMdReplyTimeout (t : Nat) (session : Nat) (s : State) : Result :=
  let s := s.advance t
  let late := fun (e : MdSession) => e.id == session && decide (e.opened + e.timeoutMs * ms ≤ s.now)
  let s : State := { s with net := { s.net with sessions := s.net.sessions.filter fun e => !late e } }
  ok s.showMd

/-! ## Safe connections (R318 to R321) -/

/-- Replace a safe connection. -/
def State.setSc (s : State) (i : Nat) (c : SafeConn) : State := { s with net := { s.net with sc := s.net.sc.set i c } }

/-- Does the servo's state let a receiver judge age (R320 reason 8)? -/
def State.scTimeOk (s : State) : Bool :=
  s.servo == tbLocked || (s.servo == tbHoldover &&
    match s.time.heldFrom with
    | some h => decide (s.now ≤ h + 60 * sec)
    | none => false)

/-- A container is rejected (R320). -/
def State.scReject (s : State) (connId reason : Nat) : State :=
  (s.incF .agreed (if reason = 3 then fNpScrejCode else fNpScrejOther) 1).raiseLimited s.lane.active.mask connId
    evScReject connId reason

/-- The producer's input time in a container, in nanoseconds with seconds modulo 2³². -/
def containerTime (b : List Byte) : Nat := beAt b 12 4 * sec + beAt b 16 4

/-- What the checks of R320 after the code make of a container: none to accept it, 0 for a repeat, else the reason. (DEDUCED, log entry 45) -/
def SafeConn.judge (c : SafeConn) (b : List Byte) (aiTime : Nat) : Option Nat :=
  let seq := beAt b 8 4
  let now := aiTime / sec % 2 ^ 32 * sec + aiTime % sec
  let sent := containerTime b
  let order := match c.last with
    | none => none
    | some (old, bytes) =>
      let ahead := (seq + 2 ^ 32 - old) % 2 ^ 32
      if c.anySeq then none
      else if ahead = 0 ∧ bytes = b then some 0
      else if ahead = 0 ∨ 2 ^ 31 ≤ ahead then some 4
      else if c.maxGap < ahead then some 5
      else none
  match order with
  | some r => some r
  | none =>
    if now + ms < sent then some 7
    else if c.maxAge * ms < now - sent then some 6
    else none

/-- A message is accepted on connection `k` (R320, R321). -/
def State.scAccept (s : State) (k : Nat) (c : SafeConn) (b : List Byte) : State :=
  let s := if c.expired && c.ever then s.raise evScRestored c.connId 0 else s
  s.setSc k { c with
    last := some (beAt b 8 4, b), anySeq := false, safeReq := bitOf (fieldAt b 1 1) 0, prodTime := containerTime b,
    acceptedAt := s.now, expired := false, ever := true }

/-- A received container is checked in the cycle whose input image carries it (R320); `b` is the telegram's dataset. (DEDUCED, log entry 45) -/
def State.scReceive (s : State) (b : List Byte) (aiTime : Nat) : State :=
  let id := beAt b 4 4
  if !s.scTimeOk then s.scReject id 8
  else
    match s.net.sc.findIdx? fun c => c.dir == 2 && c.connId == id with
    | none => s.scReject id 1
    | some k =>
      match s.net.sc[k]? with
      | none => s
      | some c =>
        let len := beAt b 2 2
        if fieldAt b 0 1 ≠ 1 then s.scReject id 1
        else if b.length ≠ 0x24 + len ∨ 1024 < len then s.scReject id 2
        else if slice b (0x14 + len) 16 ≠ (Config.hmac c.key (b.take (0x14 + len))).take 16 then s.scReject id 3
        else
          match c.judge b aiTime with
          | some 0 => s.setSc k { c with repeats := c.repeats + 1 }
          | some r => s.scReject id r
          | none => s.scAccept k c b

/-- Is a receive connection's data valid at an input image (R321)? -/
def SafeConn.valid (c : SafeConn) (aiTime : Nat) : Bool :=
  let now := aiTime / sec % 2 ^ 32 * sec + aiTime % sec
  !c.expired && !c.safeReq && c.last.isSome && decide (now ≤ c.prodTime + c.maxAge * ms)

/-- SC_WATCHDOG_EXPIRY (R321): no message has been accepted on connection `i` for WATCHDOG_MS. (DEDUCED, log entry 45) -/
def execScWatchdogExpiry (t : Nat) (i : Nat) (s : State) : Result :=
  let s := s.advance t
  match s.net.sc[i]? with
  | none => ok s
  | some c =>
    if c.dir = 2 ∧ !c.expired ∧ c.acceptedAt + c.watchdog * ms ≤ s.now then
      let s := s.setSc i { c with expired := true, anySeq := true }
      let s := s.incF .agreed fNpScTimeouts 1
      ok (s.raise evScTimeout c.connId ((s.now - c.acceptedAt) / ms))
    else ok s

/-- STOP and START forget the sequence of every receive connection (R320). -/
def State.scForget (s : State) : State :=
  { s with net := { s.net with sc := s.net.sc.map fun c => { c with anySeq := true } } }

/-- A container's bytes (R318): the fields, the data, and the code under the connection's key. -/
def SafeConn.container (c : SafeConn) (flags seq time : Nat) (data : List Byte) : List Byte :=
  let b := natBe 1 1 ++ natBe 1 flags ++ natBe 2 data.length ++ natBe 4 c.connId ++ natBe 4 seq ++ natBe 4 (time / sec)
    ++ natBe 4 (time % sec) ++ data
  b ++ (Config.hmac c.key b).take 16

/-- Must a sender form a new message (R319): no message yet, other data or FLAGS, or the last would be older than MAX_AGE_MS / 2
by the next cycle? (DESIGN CHOICE, log entry 133) -/
def SafeConn.renews (c : SafeConn) (old : Option ScSent) (flags : Nat) (data : List Byte) (time cycle : Nat) : Bool :=
  match old with
  | none => true
  | some x => x.flags != flags || x.data != data || decide (c.maxAge * ms < 2 * (time + cycle - x.time))

/-- The message mast `m` sends on a connection in the cycle of input time `time` (R319). (DESIGN CHOICE, log entry 133) -/
def SafeConn.message (c : SafeConn) (m : Mast) (flags : Nat) (data : List Byte) (time cycle : Nat) : ScSent :=
  let old := c.sent.get m
  let seq := match old with | some x => (x.seq + 1) % 2 ^ 32 | none => 1
  match old, c.renews old flags data time cycle with
  | some x, false => x
  | _, _ => { seq := seq, flags := flags, data := data, time := time, bytes := c.container flags seq time data }

/-- The send connection a publication's item goes out on: its index and entry. -/
def State.scOf (s : State) (i : Item) : Option (Nat × SafeConn) :=
  match s.net.pd.find? fun e => 0xC000 + e.telegram == i.source && e.dir == 1 && bitOf e.flags 0 with
  | none => none
  | some e =>
    match s.net.sc[e.sc]? with
    | some c => if c.dir = 1 then some (e.sc, c) else none
    | none => none

/-- A mast's runtime forms the containers of its image (R319): the program's value of a SAFE publication is a FLAGS byte and the
data, and the container takes its place in the item, tagged anew. (DESIGN CHOICE, log entry 133) -/
def State.scSend (s : State) (m : Mast) : List Item → List Item × State
  | [] => ([], s)
  | i :: rest =>
    match s.scOf i with
    | none => let (l, s) := s.scSend m rest; (i :: l, s)
    | some (k, c) =>
      let flags := fieldAt i.value 0 1 % 2
      let x := c.message m flags (i.value.drop 1) s.time.lastAiTime s.aiCycle
      let y : Item := { i with value := x.bytes, len := x.bytes.length }
      let y : Item := if i.tagOk then { y with crc := y.goodCrc } else y
      let (l, s) := (s.setSc k { c with sent := c.sent.set m (some x) }).scSend m rest
      (y :: l, s)

/-- Is a subscription's telegram VALID (R281, R321)? -/
def State.pdValid (s : State) (e : PdEntry) : Bool :=
  if bitOf e.flags 0 then
    match s.net.sc[e.sc]? with
    | some c => c.valid s.time.lastAiTime
    | none => false
  else e.data.isSome && decide (e.age * s.aiCycle ≤ e.timeoutMs * ms)

/-! ## Action instants, STOP and launch (R305, R307, R310 to R312, R315) -/

/-- The network's part of an action instant: admission restarts, publications come nearer, and last instant's replies and
publications are gone. -/
def State.netAtInstant (s : State) : State :=
  let s := [1, 2, 3, 4].foldl (fun s p => s.putF .agreed (npF fNpAdmitLast p) (s.net.port p).pool) s
  let fresh := fun (q : NetPort) => { q with pool := 0, classes := q.classes.map fun c => { c with used := 0 } }
  let s : State := { s with net := { s.net with
    ports := s.net.ports.map fresh
    pd := s.net.pd.map fun e => { e with wait := e.wait - 1 }
    replies := [], publish := [] } }
  s.putF .agreed fNpScValid (s.net.sc.filter fun c => c.dir == 2 && c.valid s.time.lastAiTime).length

/-- Entering STOP: a gratuitous ARP on each interface in use (R305), sequences forgotten (R320), publications due at once,
subscriptions not received since (R281), and no station heard of (R282). -/
def State.netEnterStop (s : State) : State :=
  let s := s.net.ifaces.mapIdx (fun i (e : NetIface) => (i, e)) |>.foldl (fun s e =>
    if s.net.enabled && e.2.mode != 0 then s.netReply (.arp (e.1 + 1) true) else s) s
  let s := s.scForget
  let stations := s.app.stations.map fun a => { a with state := 0, gone := 0 }
  { s with
    net := { s.net with pd := s.net.pd.map fun e => { e with data := none, age := 65535, wait := 0 } }
    app := { s.app with stations := stations } }

/-- The gate list at `off` nanoseconds after the action instant (R311): gates open, and nanoseconds until the entry ends. (DEDUCED, log entry 47) -/
def gatesAt : List GclEntry → Nat → Option (Nat × Nat)
  | [], _ => none
  | g :: rest, off => if off < g.interval then some (g.gates, g.interval - off) else gatesAt rest (off - g.interval)

/-- Is the gate of a class open for the next `need` nanoseconds, counted from `off` after the action instant (R310)? Entries
that follow with the gate still open count on. (DEDUCED, log entry 47) -/
def gateOpenFor : Nat → List GclEntry → Nat → Nat → Nat → Bool
  | 0, _, _, _, _ => false
  | fuel + 1, l, c, off, need =>
    match gatesAt l off with
    | none => false
    | some (g, left) => bitOf g c && (decide (need ≤ left) || gateOpenFor fuel l c (off + left) (need - left))

/-- Time one byte takes on a port. -/
def State.byteNs (s : State) (p : Nat) : Nat := if s.getF .agreed (npF fNpStatSpeed p) = 1 then 80 else 8

/-- Time a frame of `bytes` bytes without FCS takes on a port, with its inter-frame gap. -/
def State.frameNs (s : State) (p bytes : Nat) : Nat :=
  (8 + bytes + 4 + 12) * s.byteNs p

/-- Could a frame of class `c` start on the port at module time `now` (R310, R311)? (DEDUCED, log entry 47) -/
def State.gateAllows (s : State) (p c bytes now : Nat) : Bool :=
  let q := s.net.port p
  q.gcl == [] || gateOpenFor 66 (q.gcl ++ q.gcl) c ((now - s.time.lastAiTime) % s.aiCycle) (s.frameNs p bytes)

end Sys2Proof.Machine
end

