-- ==== Sys2Proof/Machine/StayLink.lean ====
section
/-!
DEFINITION. The stay link (R163, R164, R168, R367 to R373).
-/
namespace Sys2Proof.Machine

/-- This module's slot: its slot-id pins. -/
def State.ownSlot (s : State) : Nat := s.getF .agreed fSlSlotidPins

/-- Ring roles of `SL_STAT.ROLE`. -/
def State.slRole (s : State) : Nat := s.getF .agreed fSlStatRole

/-- The rack master's slot, 0 for none. -/
def State.slMaster (s : State) : Nat := s.getF .agreed fSlStatMaster

/-- A rank (R369): the slot number, plus 32 without MASTER_PREF. -/
def rankOf (slot : Nat) (pref : Bool) : Nat := slot + if pref then 0 else 32

/-- This module's rank. -/
def State.ownRank (s : State) : Nat := rankOf s.ownSlot s.stay.pref

/-- Slots and ranks of the members, this module included while it has joined. -/
def State.ranks (s : State) : List (Nat × Nat) :=
  (if s.slRole = 0 then [] else [(s.ownSlot, s.ownRank)]) ++ s.stay.members.map fun m => (m.slot, m.rank)

/-- Is the slot a member? -/
def State.slIsMember (s : State) (slot : Nat) : Bool := s.ranks.any fun r => r.1 == slot

/-- Insert a pair by ascending first component. -/
def insertPair (x : Nat × Nat) : List (Nat × Nat) → List (Nat × Nat)
  | [] => [x]
  | y :: rest => if x.1 ≤ y.1 then x :: y :: rest else y :: insertPair x rest

/-- Slot and SHARE_LEN of every member, by ascending slot. -/
def State.shares (s : State) : List (Nat × Nat) :=
  let own := if s.slRole = 0 then [] else [(s.ownSlot, s.getF .agreed fSlShareOwn)]
  (own ++ s.stay.members.map fun m => (m.slot, m.shareLen)).foldr insertPair []

/-- The sum of the members' SHARE_LEN (R371). -/
def State.shareTotal (s : State) : Nat := (s.shares.map fun e => e.2).foldl (· + ·) 0

/-- Show the members (`SL_STAT`, `SL_MEMBERS`, `SL_SHARE`); a sum of SHARE_LEN that comes to pass the limit is reported (R371).
(DEDUCED, log entry 111) (DEDUCED, log entry 111) -/
def State.showMembers (s : State) : State :=
  let s := s.putF .agreed fSlStatMembers s.ranks.length
  let s := s.setReg .agreed fSlMembersSlots.addr (BitVec.ofNat 32 ((s.ranks.map fun r => 2 ^ r.1).foldl (· + ·) 0))
  let s := s.putF .agreed fSlShareTotal ((s.shareTotal + 1023) / 1024)
  let is := decide (65536 < s.shareTotal)
  if is = s.stay.shareOver then s
  else
    let s : State := { s with stay := { s.stay with shareOver := is } }
    if is then s.raise evSlShareLimit s.shareTotal (s.getF .agreed fSlShareOwn) else s

/-- The bytes of a ring frame (R368). -/
def slFrame (typ src dst seq frag frags : Nat) (corr : Int) (payload : List Byte) : List Byte :=
  let body := natLe 1 typ ++ natLe 1 src ++ natLe 1 dst ++ natLe 1 0 ++ natLe 2 seq ++ natLe 2 payload.length
    ++ natLe 2 frag ++ natLe 2 frags ++ natLe 4 (unsigned 32 corr) ++ payload
  body ++ natLe 4 (crc32c body).toNat

/-- Send one ring frame of this module (R367, R368), by the owner of unit 7 where the selector passes it (R15). -/
def State.slSend (s : State) (typ dst frag frags : Nat) (payload : List Byte) : State :=
  if !s.owned 7 then s else
  let seq := match s.stay.seqs.find? fun e => e.1 == typ with
    | some e => e.2
    | none => 0
  let f := slFrame typ s.ownSlot dst seq frag frags 0 payload
  { s with stay := { s.stay with
    sent := (f :: s.stay.sent).take 64
    seqs := (typ, (seq + 1) % 65536) :: s.stay.seqs.filter fun e => e.1 != typ } }

/-- The TIME payload (R370), launched at the last action instant or at once by a new master. -/
def State.slTimePayload (s : State) (time : Nat) : List Byte :=
  natLe 8 s.time.aiNumber ++ natLe 8 (time / sec) ++ natLe 4 (time % sec) ++ natLe 1 s.servo ++ natLe 3 0

/-- A fetch attempt fails (R71). (DEDUCED, log entry 77) -/
def State.fetchFails (s : State) (reason : Nat) : State :=
  let s := (s.putF .agreed fSlAppfetchLastReason reason).putF .agreed fSlAppfetchState 1
  s.raise evAppFetchFailed reason (s.getF .agreed fSlAppfetchAttempts)

/-- A change of master interrupts a transfer under way (R71). (DEDUCED, log entry 77) -/
def State.fetchInterrupted (s : State) : State := if s.getF .agreed fSlAppfetchState = 2 then s.fetchFails 3 else s

/-- A change of master (R71, R164, R369). -/
def State.slSetMaster (s : State) (slot : Nat) : State :=
  let old := s.slMaster
  if old = slot then s
  else
    let s := s.fetchInterrupted
    let s := (s.raise evSlMaster slot old).incF .agreed fSlElectElections 1
    let s := s.putF .agreed fSlStatMaster slot
    if slot = s.ownSlot then
      let s := (s.putF .agreed fSlStatRole 2).putF .agreed fSlTimeofsNs 0
      s.slSend 1 0 0 1 (s.slTimePayload s.moduleTime)
    else s.putF .agreed fSlStatRole 1

/-- The member of lowest rank. (DEDUCED, log entry 111) -/
def lowestRank : List (Nat × Nat) → Option Nat
  | [] => none
  | r :: rest =>
    match lowestRank rest with
    | none => some r.1
    | some b => match rest.find? fun e => e.1 == b with
      | some e => if r.2 ≤ e.2 then some r.1 else some b
      | none => some r.1

/-- A module that finds no master, or the master no longer a member, takes the one the members name, or elects the member of
lowest rank (R369). (DEDUCED, log entry 111) -/
def State.slElect (s : State) : State :=
  if s.slRole = 0 ∨ (s.slMaster ≠ 0 ∧ s.slIsMember s.slMaster) then s
  else
    match s.stay.members.find? fun m => m.master != 0 && s.slIsMember m.master with
    | some m => s.slSetMaster m.master
    | none =>
      match lowestRank s.ranks with
      | some slot => s.slSetMaster slot
      | none => s

/-- The module leaves bypass and joins the ring at step 10 of R29 (R34, R369). -/
def State.slJoin (s : State) : State :=
  if !s.stay.join || s.stay.conflict || s.slRole != 0 then s
  else
    let s := s.putF .agreed fSlStatRole 1
    let s : State := { s with stay := { s.stay with joinedAt := s.now, ownInstants := 0 } }
    (s.showMembers).raise evSlJoined s.ownSlot 1

/-- The module goes into bypass (R367). -/
def State.slBypass (s : State) : State :=
  let s := (s.putF .agreed fSlStatRole 0).putF .agreed fSlStatMaster 0
  let s : State := { s with stay := { s.stay with members := [], blocks := [], queued := [] } }
  s.showMembers

/-- Has the module's own cycle or offset, or its free-running time, kept it from the master's action instant (R168, R450)? -/
def State.slMismatch (s : State) (m : SlMember) : State :=
  let differs := m.cycleUs != s.getF .agreed fTbAicycleCycleUs || m.offsetNs != s.aiOffset || s.time.protocol == 0
  if m.slot = s.slMaster ∧ differs ∧ !s.time.rackMismatch then
    let s : State := { s with time := { s.time with rackMismatch := true } }
    (s.putF .agreed fMcInhibitSlotkey 1).raise evAiRackMismatch m.cycleUs (s.getF .agreed fTbAicycleCycleUs)
  else s

/-- A PRESENCE frame of another module (R369). (DEDUCED, log entry 111) -/
def State.slPresence (s : State) (f : List Byte) : State :=
  let src := fieldAt f 1 1
  let p := f.drop 16
  let old := s.stay.members.find? fun m => m.slot == src
  let x : SlMember := {
    slot := src, rank := fieldAt p 0 1, master := fieldAt p 1 1, shareLen := fieldAt p 2 2, cycleUs := fieldAt p 4 4,
    offsetNs := fieldAt p 8 4, heard := s.now, instants := match old with
      | some m => m.instants
      | none => 0 }
  let s : State := { s with stay := { s.stay with members := x :: s.stay.members.filter fun m => m.slot != src } }
  let s := s.showMembers
  let s := if old.isNone then s.raise evSlJoined src s.ranks.length else s
  let s := if s.slMaster = 0 then (if x.master != 0 && s.slIsMember x.master then s.slSetMaster x.master else s)
    else if x.master = src ∧ src ≠ s.slMaster ∧
        (s.ranks.any fun r => r.1 == s.slMaster && decide (x.rank < r.2)) then s.slSetMaster src
    else s
  s.slMismatch x

/-- A TIME frame of the master (R163, R370): the offset enters the servo, and the number's bias is the master's. -/
def State.slTime (s : State) (f : List Byte) : State :=
  let p := f.drop 16
  let time := fieldAt p 8 8 * sec + fieldAt p 16 4
  let corr := signed 32 (fieldAt f 0xC 4) + s.getF .agreed fSlLinkdlyUp
  let off := (time : Int) + corr - s.moduleTime
  let st := fieldAt p 20 1
  let s := s.putF .agreed fSlTimeofsNs (clampArg off)
  if s.time.protocol = 0 ∨ s.time.rackMismatch ∨ (s.servo = tbUnset ∧ st ≠ tbLocked ∧ st ≠ tbHoldover) then s
  else
    let index := (time - s.aiOffset) / s.aiCycle
    let s : State := { s with time := { s.time with aiBias := fieldAt p 0 8 - index, frameAt := s.now } }
    s.measured 3 off

/-- An item of a received frame or block, released to ring 118 (R368). (DEDUCED, log entry 39) -/
def State.slItem (s : State) (f payload : List Byte) : State :=
  s.formItem (0x4000 + fieldAt f 1 1) s.moduleTime (f.take 16 ++ payload)

/-- A fragment of a SHARED or BULK block (R368): the block becomes one item when all its fragments have arrived. -/
def State.slFragment (s : State) (f payload : List Byte) : State :=
  let typ := fieldAt f 0 1
  let src := fieldAt f 1 1
  let n := fieldAt f 0xA 2
  let k := fieldAt f 8 2
  let key := fun (b : SlBlock) => b.typ == typ && b.src == src && b.dst == fieldAt f 2 1
  let b : SlBlock := (s.stay.blocks.find? key).getD { typ := typ, src := src, dst := fieldAt f 2 1, frags := n, parts := [] }
  let b : SlBlock := { b with frags := n, parts := if k = 0 then [(0, payload)] else (k, payload) :: b.parts.filter fun e => e.1 != k }
  let rest := s.stay.blocks.filter fun e => !key e
  if (List.range n).all fun i => b.parts.any fun e => e.1 == i then
    let whole := (List.range n).flatMap fun i =>
      match b.parts.find? fun e => e.1 == i with
      | some e => e.2
      | none => []
    let s : State := { s with stay := { s.stay with blocks := rest } }
    s.slItem f whole
  else { s with stay := { s.stay with blocks := b :: rest } }

/-- A passing frame goes on (R367, R370): a TIME frame's CORR takes the residence and the upstream delay. -/
def State.slForward (s : State) (f : List Byte) (residence : Nat) : State :=
  let len := fieldAt f 6 2
  let out := if fieldAt f 0 1 = 1 then
      slFrame 1 (fieldAt f 1 1) (fieldAt f 2 1) (fieldAt f 4 2) (fieldAt f 8 2) (fieldAt f 0xA 2)
        (signed 32 (fieldAt f 0xC 4) + residence + s.getF .agreed fSlLinkdlyUp) (slice f 16 len)
    else f
  { s with stay := { s.stay with forwarded := (out :: s.stay.forwarded).take 64 } }

/-- A frame with this module's slot as sender that it has not sent (R369): another module has its slot number. -/
def State.slConflict (s : State) : State :=
  if s.stay.conflict then s
  else
    let s := s.slBypass
    let s : State := { s with stay := { s.stay with conflict := true } }
    s.raise evSlSlotConflict s.ownSlot 0

/-- Deliver a frame for this module (R368). (DEDUCED, log entry 39) -/
def State.slDeliver (s : State) (f payload : List Byte) : State :=
  let src := fieldAt f 1 1
  match fieldAt f 0 1 with
  | 1 => if src = s.slMaster ∧ s.slRole = 1 then (s.slTime f).slItem f payload else s.slItem f payload
  | 2 => (s.slPresence f).slItem f payload
  | 3 => s.slFragment f payload
  | 4 => (s.wrapF .agreed fSlBulkBytes payload.length).slFragment f payload
  | _ => s

/-- STAY_LINK_FRAME_RECEIVED (R367 to R370): a frame from the upstream neighbour at slot `upstream`; `residence` is the time in
nanoseconds it stays in the interface. -/
def execStayLinkFrameReceived (t : Nat) (f : List Byte) (upstream residence : Nat) (s : State) : Result :=
  let s := s.advance t
  let len := fieldAt f 6 2
  let body := f.take (16 + len)
  let good := decide (20 + len ≤ f.length) && decide (len ≤ 1024) && fieldAt f (16 + len) 4 == (crc32c body).toNat
  let mine := fieldAt f 1 1 == s.ownSlot
  if s.slRole = 0 then
    if good && mine && fieldAt f 0 1 == 2 && s.stay.join && s.ctl.mode != .safe && s.ctl.mode != .standby &&
        !s.stay.sent.contains f then ok s.slConflict
    else ok s
  else if !good then ok ((s.incF .agreed fSlFramesCrc 1).noteSummary 0 evSlCrc upstream)
  else if mine then
    if fieldAt f 0 1 = 2 ∧ !s.stay.sent.contains f then ok s.slConflict else ok s
  else
    let s := s.slForward f residence
    let dst := fieldAt f 2 1
    if dst = 0 ∨ dst = s.ownSlot then ok (s.slDeliver f (slice f 16 len)) else ok s

/-- PRESENCE_SEND (R369): every 1 ms; a module that has heard of no master for 3 ms elects one first. -/
def execPresenceSend (t : Nat) (s : State) : Result :=
  let s := s.advance t
  if s.slRole = 0 then ok s
  else
    let s := if s.stay.joinedAt + 3 * ms ≤ s.now then s.slElect else s
    ok (s.slSend 2 0 0 1 (natLe 1 s.ownRank ++ natLe 1 s.slMaster ++ natLe 2 (s.getF .agreed fSlShareOwn)
      ++ natLe 4 (s.getF .agreed fTbAicycleCycleUs) ++ natLe 4 s.aiOffset))

/-- MEMBER_TIMEOUT (R369, R449): no PRESENCE of a member for 3 ms. -/
def execMemberTimeout (t : Nat) (slot : Nat) (s : State) : Result :=
  let s := s.advance t
  match s.stay.members.find? fun m => m.slot == slot with
  | none => ok s
  | some m =>
    if s.now < m.heard + 3 * ms then ok s
    else
      let s : State := { s with stay := { s.stay with members := s.stay.members.filter fun m => m.slot != slot } }
      let s := s.showMembers
      let s := s.raise evSlLeft slot s.ranks.length
      if s.slMaster = slot then
        let s := if s.getF .agreed fTbStatSrc = 3 then s.sourceLost else s
        ok s.slElect
      else ok s

/-- MASTER_TAKEOVER (R369): a member of lower rank than the running master, a member for 64 action instants, takes over. -/
def execMasterTakeover (t : Nat) (slot : Nat) (s : State) : Result :=
  let s := s.advance t
  let lower := fun (rank : Nat) => s.ranks.any fun r => r.1 == s.slMaster && decide (rank < r.2)
  if s.slRole = 0 ∨ s.slMaster = 0 ∨ slot = s.slMaster then ok s
  else if slot = s.ownSlot then
    if 64 ≤ s.stay.ownInstants && lower s.ownRank && !s.time.rackMismatch then ok (s.slSetMaster slot) else ok s
  else
    match s.stay.members.find? fun m => m.slot == slot with
    | some m => if 64 ≤ m.instants && lower m.rank then ok (s.slSetMaster slot) else ok s
    | none => ok s

/-- RING_WRAP (R367): the link towards a neighbour has lost its idle symbols for 10 µs; `lost` frames were in flight on it. -/
def execRingWrap (t : Nat) (neighbour lost : Nat) (s : State) : Result :=
  let s := s.advance t
  if s.slRole = 0 ∨ s.stay.wraps.contains neighbour then ok s
  else
    let s : State := { s with stay := { s.stay with wraps := neighbour :: s.stay.wraps } }
    let s := (s.putF .agreed fSlStatWrapped 1).incF .agreed fSlElectWraps 1
    ok ((s.incF .agreed fSlFramesDropped lost).raise evSlWrap neighbour 1)

/-- RING_UNWRAP (R367): 1 s after the link towards a neighbour returned, at local time `returned`. -/
def execRingUnwrap (t : Nat) (neighbour returned : Nat) (s : State) : Result :=
  let s := s.advance t
  if !s.stay.wraps.contains neighbour || decide (s.now < returned + sec) then ok s
  else
    let s : State := { s with stay := { s.stay with wraps := s.stay.wraps.filter (· != neighbour) } }
    let s := s.putF .agreed fSlStatWrapped (b2n (s.stay.wraps != []))
    ok (s.raise evSlWrap neighbour 0)

/-- LINKDELAY_EXCHANGE (R370): every 100 ms the delays of both links are measured. -/
def execLinkdelayExchange (t : Nat) (up down : Nat) (s : State) : Result :=
  let s := s.advance t
  if s.slRole = 0 then ok s
  else ok ((s.putF .agreed fSlLinkdlyUp (min 65535 up)).putF .agreed fSlLinkdlyDown (min 65535 down))

/-- A mast queues a shared-variable block from ring 119 (R115, R371). -/
def State.slQueue (s : State) (m : Mast) (value : List Byte) : State :=
  let rec go : List SlQueued → List SlQueued
    | [] => [{ value := value, deposits := (Per.all false).set m true }]
    | q :: rest =>
      if q.value = value ∧ !q.deposits.get m then { q with deposits := q.deposits.set m true } :: rest else q :: go rest
  { s with stay := { s.stay with queued := go s.stay.queued } }

/-- Do the shares up to and including this module's slot fit into the cycle (R371)? -/
def State.shareFits (s : State) : Bool :=
  decide (((s.shares.filter fun e => decide (e.1 ≤ s.ownSlot)).map fun e => e.2).foldl (· + ·) 0 ≤ 65536)

/-- SHARED_BLOCK_SEND (R371): the block queued first and confirmed by a second mast is sent as fragments, one block a cycle. -/
def execSharedBlockSend (t : Nat) (s : State) : Result :=
  let s := s.advance t
  match s.stay.queued with
  | [] => ok s
  | q :: rest =>
    if s.slRole = 0 ∨ s.stay.sentThisCycle ∨ !s.owned 7 ∨ (s.voters.filter fun m => q.deposits.get m).length < 2 ∨ !s.shareFits
    then ok s
    else
      let n := (q.value.length + 1023) / 1024
      let s : State := { s with stay := { s.stay with queued := rest, sentThisCycle := true } }
      ok ((List.range n).foldl (fun s k => s.slSend 3 0 k n (slice q.value (1024 * k) 1024)) s)

/-- The stay link's part of an action instant (R369 to R371). -/
def State.slAtInstant (s : State) : State :=
  if s.slRole = 0 then s
  else
    let s : State := { s with stay := { s.stay with
      ownInstants := s.stay.ownInstants + 1, sentThisCycle := false
      members := s.stay.members.map fun m => { m with instants := m.instants + 1 } } }
    if s.slRole = 2 then s.slSend 1 0 0 1 (s.slTimePayload s.time.lastAiTime) else s

/-- The first offending field of a 16-byte STAY_LINK body (R373): offset and value. (DEDUCED, log entry 108) -/
def checkStay (b : List Byte) : Option (Nat × Nat) :=
  if fieldAt b 0 2 ≠ 1 then some (0, fieldAt b 0 2)
  else if 16384 < fieldAt b 2 2 then some (2, fieldAt b 2 2)
  else if 1 < fieldAt b 4 1 then some (4, fieldAt b 4 1)
  else if !allZero (slice b 5 11) then some (5, fieldAt b 5 4)
  else none

/-- Load the values of the STAY_LINK section (R373). -/
def State.slLoad (s : State) (b : List Byte) : State :=
  let s : State := { s with stay := { s.stay with join := bitOf (fieldAt b 4 1) 0 } }
  s.putF .agreed fSlShareOwn (fieldAt b 2 2)

end Sys2Proof.Machine
end

