-- ==== Sys2Proof/Machine/Sections.lean ====
section
/-!
DEFINITION. The sections of the slot image as their owning blocks check and load them at step 8 of R29 (R57, R169, R198, R249,
R271, R272, R325, R366, R373, R448).
-/
namespace Sys2Proof.Machine

/-- A finding of a block: the offset of the offending field and its value; R448 gives the offset of a wrong LENGTH. -/
abbrev Finding := Option (Nat × Nat)

/-- The first offending field of a list, with its value read from the body. (DEDUCED, log entry 34) (DEDUCED, log entry 108) -/
def firstBad (b : List Byte) (l : List (Nat × Nat)) : Finding :=
  match l.head? with
  | some (o, n) => some (o, fieldAt b o n)
  | none => none

/-- The finding of a wrong LENGTH (R448): offset 0xFFFFFFFF and the directory's LENGTH. -/
def badLength (b : List Byte) : Finding := some (0xFFFFFFFF, b.length)

/-! ## TIME (R169) -/

/-- Is a signed byte within a range? -/
def signedIn (v : Nat) (least most : Int) : Bool := decide (least ≤ signed 8 v ∧ signed 8 v ≤ most)

/-- The checks of the TIME section. -/
def checkTime (b : List Byte) : Finding :=
  if b.length ≠ 64 + 8 * fieldAt b 0x1C 2 then badLength b
  else
    let cycle := fieldAt b 0x14 4
    firstBad b (badField (fieldAt b 0 2 != 1) 0 2 ++ badRange b 2 1 0 3
      ++ badField (decide (127 < fieldAt b 3 1) || (fieldAt b 2 1 == 2 && fieldAt b 3 1 != 0)) 3 1
      ++ badRange b 4 1 1 2 ++ badRange b 5 1 1 2
      ++ badField (!signedIn (fieldAt b 8 1) (-7) 1) 8 1 ++ badField (!signedIn (fieldAt b 9 1) (-3) 4) 9 1
      ++ badField (!signedIn (fieldAt b 0xA 1) (-7) 5) 0xA 1 ++ badRange b 0xB 1 2 10
      ++ ((List.range 4).flatMap fun p => badRange b (0xC + p) 1 0 3)
      ++ badRange b 0x10 4 1 1000000
      ++ badField (decide (cycle < 1000) || decide (20000 < cycle) || cycle % 250 != 0) 0x14 4
      ++ badField (decide (cycle * 1000 ≤ fieldAt b 0x18 4)) 0x18 4
      ++ badRange b 0x1C 2 0 16 ++ badZero b 0x1E 2 ++ badZero b 0x28 24)

/-- Load the TIME section: the servo's limits, the action-instant cycle and the final-round limit (R123). -/
def State.timeLoad (s : State) (b : List Byte) : State :=
  let s : State := { s with time := { s.time with
    protocol := fieldAt b 2 1, roles := (List.range 4).map fun p => fieldAt b (0xC + p) 1
    accept := (List.range (fieldAt b 0x1C 2)).map fun i => beNat (slice b (0x40 + 8 * i) 8)
    domain := fieldAt b 3 1, delayMech := fieldAt b 4 1, transport := fieldAt b 5 1
    priority1 := fieldAt b 6 1, priority2 := fieldAt b 7 1
    logSync := signed 8 (fieldAt b 8 1), logAnnounce := signed 8 (fieldAt b 9 1), logDelay := signed 8 (fieldAt b 0xA 1)
    annTimeout := fieldAt b 0xB 1
    asym := (List.range 4).map fun p => signed 16 (fieldAt b (0x20 + 2 * p) 2) } }
  let s := s.putF .agreed fTbSteplimLimitUs (fieldAt b 0x10 4)
  let s := s.putF .agreed fTbAicycleCycleUs (fieldAt b 0x14 4)
  let s := s.putF .agreed fTbAioffsetOffsetNs (fieldAt b 0x18 4)
  s.putF .agreed fLmFinalmaxPages (16 * fieldAt b 0x14 4 / 1000)

/-! ## BRIDGE (R366) -/

/-- One window entry's offset, number, byte 1 and RBASE. (DEDUCED, log entry 35) -/
def bridgeEntries (b : List Byte) (o n : Nat) : List (Nat × Nat × Nat × Nat) :=
  (List.range n).map fun i => (o + 8 * i, fieldAt b (o + 8 * i) 1, fieldAt b (o + 8 * i + 1) 1, fieldAt b (o + 8 * i + 4) 4)

/-- Entries that repeat what an earlier one occupies. (DEDUCED, log entry 34) -/
def repeatedEntries {α : Type} [BEq α] (key : Nat × Nat × Nat × Nat → α) : List (Nat × Nat × Nat × Nat) → List Nat
  | [] => []
  | e :: rest => ((rest.filter fun f => key f == key e).map fun f => f.1) ++ repeatedEntries key rest

/-- The checks of the BRIDGE section. Windows overlap where two entries name one local window, or two inbound entries claim
the same rack addresses. (DEDUCED, log entry 35) -/
def checkBridge (b : List Byte) : Finding :=
  let nO := fieldAt b 2 1
  let nI := fieldAt b 3 1
  let nS := fieldAt b 4 1
  if b.length ≠ 16 + 8 * nO + 8 * nI + 4 * nS then badLength b
  else
    let outs := bridgeEntries b 0x10 nO
    let ins := bridgeEntries b (0x10 + 8 * nO) nI
    let sb := 0x10 + 8 * nO + 8 * nI
    firstBad b (badField (fieldAt b 0 2 != 1) 0 2 ++ badRange b 2 1 0 16 ++ badRange b 3 1 0 4 ++ badRange b 4 1 0 32
      ++ badRange b 5 1 1 255 ++ badZero b 7 9
      ++ (outs.flatMap fun e => badField (decide (15 < e.2.1)) e.1 1
        ++ badField (decide (15 < e.2.2.1) || e.2.2.1 / 4 == 3) (e.1 + 1) 1 ++ badZero b (e.1 + 2) 2
        ++ badField (e.2.2.2 % 2 ^ 26 != 0) (e.1 + 4) 4)
      ++ (ins.flatMap fun e => badField (decide (3 < e.2.1)) e.1 1 ++ badField (decide (1 < e.2.2.1)) (e.1 + 1) 1
        ++ badZero b (e.1 + 2) 2 ++ badField (e.2.2.2 % 4096 != 0) (e.1 + 4) 4)
      ++ ((List.range nS).flatMap fun i => badField (fieldAt b (sb + 4 * i) 4 % 4 != 0) (sb + 4 * i) 4)
      ++ ((repeatedEntries (fun e => e.2.1) outs ++ repeatedEntries (fun e => e.2.1) ins).map fun o => (o, 1))
      ++ ((repeatedEntries (fun e => e.2.2.2) ins).map fun o => (o + 4, 4)))

/-- Load the windows of the BRIDGE section, polling and side-band addresses. -/
def State.bridgeLoad (s : State) (b : List Byte) : State :=
  let nO := fieldAt b 2 1
  let nI := fieldAt b 3 1
  let nS := fieldAt b 4 1
  let s := (s.putF .agreed fBbCtrlPollUs (fieldAt b 5 1)).putF .agreed fBbCtrlIntMask (fieldAt b 6 1)
  let s := (bridgeEntries b 0x10 nO).foldl (fun s e =>
    let w := e.2.1
    let s := s.putF .agreed (owinF fBbOwinBaseRbase w) (e.2.2.2 / 2 ^ 26)
    let s := s.putF .agreed (owinF fBbOwinCfgRule w) (e.2.2.1 % 2)
    let s := s.putF .agreed (owinF fBbOwinCfgPosted w) (e.2.2.1 / 2 % 2)
    let s := s.putF .agreed (owinF fBbOwinCfgWidth w) (e.2.2.1 / 4)
    s.putF .agreed (owinF fBbOwinCfgEnable w) 1) s
  let s := (bridgeEntries b (0x10 + 8 * nO) nI).foldl (fun s e =>
    let w := e.2.1
    let s := s.putF .agreed (owinF fBbIwinBaseRbase w) (e.2.2.2 / 4096)
    let s := s.putF .agreed (owinF fBbIwinCfgRule w) (e.2.2.1 % 2)
    s.putF .agreed (owinF fBbIwinCfgEnable w) 1) s
  let sb := 0x10 + 8 * nO + 8 * nI
  let s := (List.range nS).foldl (fun s i => s.putF .agreed (fBbSbaddrAddr.plus (4 * i)) (fieldAt b (sb + 4 * i) 4 / 4)) s
  { s with bridge := { s.bridge with nSb := nS } }

/-! ## SAFETY_PARAMS (R62, R271, R272) -/

/-- Read the sealed parameters. -/
def parseSafety (b : List Byte) : SpParams :=
  { step1 := fieldAt b 0x10 4, step2 := fieldAt b 0x14 4, dirSign := fieldAt b 0x18 1, refInput := fieldAt b 0x19 1
    refEdge := fieldAt b 0x1A 1, confirmMs := fieldAt b 0x1B 1, tZeroMs := fieldAt b 0x1C 2, stillDist := fieldAt b 0x1E 2
    slipMin := fieldAt b 0x20 2, slipPct := fieldAt b 0x22 1, odoTimeS := fieldAt b 0x23 1, discAbs := fieldAt b 0x24 4
    discRel := fieldAt b 0x28 2, ackMode := fieldAt b 0x2A 1, ackPair := fieldAt b 0x2B 1, odoMask := fieldAt b 0x2C 4
    dirMask := fieldAt b 0x30 4, dirTol := fieldAt b 0x34 4, pairUp := fieldAt b 0x38 1, pairDown := fieldAt b 0x39 1
    dirApp := bitOf (fieldAt b 0x3A 1) 0
    limits := (List.range 8).map fun k =>
      let o := 0x40 + 16 * k
      { mms := fieldAt b o 2, pair := fieldAt b (o + 2) 1, appSel := bitOf (fieldAt b (o + 3) 1) 0
        always := bitOf (fieldAt b (o + 3) 1) 1, delayMs := fieldAt b (o + 4) 2, mask := fieldAt b (o + 8) 4 }
    windows := (List.range 4).map fun w =>
      let o := 0xC0 + 16 * w
      { low := signed 32 (fieldAt b o 4), high := signed 32 (fieldAt b (o + 4) 4), mask := fieldAt b (o + 8) 4
        used := bitOf (fieldAt b (o + 12) 1) 0, reqZero := bitOf (fieldAt b (o + 12) 1) 1 }
    setId := fieldAt b 4 4 }

/-- Does a FIELD section configure the pair? -/
def FieldConfig.hasPair (f : FieldConfig) (p : Nat) : Bool :=
  match f.pairs[p - 1]? with
  | some e => p != 0 && e.kind != 0
  | none => false

/-- Is an input a member of a used pair? -/
def FieldConfig.inPair (f : FieldConfig) (i : Nat) : Bool :=
  f.pairs.any fun e => e.kind != 0 && (e.inA == i || e.inB == i)

/-- The checks of the SAFETY_PARAMS body against the pairs of the FIELD section (R272). (DEDUCED, log entry 108) -/
def checkSafety (f : FieldConfig) (b : List Byte) : Finding :=
  if fieldAt b 2 2 ≠ b.length ∨ fieldAt b 2 2 < 256 ∨ 4096 < fieldAt b 2 2 then some (2, fieldAt b 2 2)
  else
    let p := parseSafety b
    let pairOk := fun (o : Nat) (none : Bool) =>
      let n := fieldAt b o 1
      badField (!(if n = 0 then none else f.hasPair n)) o 1
    let mask := fun (o : Nat) => badField (decide (2 ^ 24 ≤ fieldAt b o 4)) o 4
    firstBad b (badField (fieldAt b 0 2 != 1) 0 2 ++ badZero b 8 8 ++ badRange b 0x10 4 1 0xFFFFFFFF
      ++ badRange b 0x14 4 1 0xFFFFFFFF ++ badRange b 0x18 1 0 3
      ++ badField (decide (fieldAt b 0x19 1 < 1) || decide (48 < fieldAt b 0x19 1) || f.inPair p.refInput) 0x19 1
      ++ badRange b 0x1A 1 1 2 ++ badRange b 0x1B 1 0 8 ++ badRange b 0x1C 2 100 5000 ++ badRange b 0x1E 2 10 5000
      ++ badRange b 0x20 2 10 5000 ++ badRange b 0x22 1 1 50 ++ badRange b 0x23 1 1 60 ++ badRange b 0x24 4 10 100000
      ++ badRange b 0x28 2 0 100 ++ badRange b 0x2A 1 1 3 ++ pairOk 0x2B (p.ackMode == 1) ++ mask 0x2C ++ mask 0x30
      ++ badRange b 0x34 4 10 100000 ++ pairOk 0x38 true ++ pairOk 0x39 true ++ badRange b 0x3A 1 0 1 ++ badZero b 0x3B 5
      ++ ((List.range 8).flatMap fun k =>
        let o := 0x40 + 16 * k
        let used := fieldAt b o 2 != 0
        (if used then pairOk (o + 2) true else []) ++ badRange b (o + 3) 1 0 3
          ++ (if used then badRange b (o + 4) 2 0 60000 else []) ++ badZero b (o + 6) 2
          ++ mask (o + 8) ++ badZero b (o + 12) 4)
      ++ ((List.range 4).flatMap fun w =>
        let o := 0xC0 + 16 * w
        let e := p.windows[w]?.getD {}
        badField (e.used && decide (e.high ≤ e.low)) (o + 4) 4 ++ mask (o + 8) ++ badRange b (o + 12) 1 0 3
          ++ badZero b (o + 13) 3))

/-- Load the sealed parameters into the supervisors and activate them on the masts of a list (R252). -/
def State.safetyLoad (s : State) (b : List Byte) (who : List Mast) : State :=
  let p := parseSafety b
  let s : State := { s with sup := { s.sup with params := some p, record := b.drop 256 } }
  let s := (s.putF .agreed fSpDesigOutputs p.designated).putF .agreed fSpParamidId p.setId
  let s := who.foldl (fun s m => s.spActivate m) s
  s.raise evSpParamsLoaded p.setId b.length

/-! ## FIELD (R248, R249, R242) -/

/-- The checks of the FIELD section against the designated safety outputs. (DEDUCED, log entry 108) -/
def checkField (designated : Nat) (b : List Byte) : Finding :=
  if b.length ≠ 496 then badLength b
  else
    let f := parseField b
    firstBad b (badField (fieldAt b 0 2 != 1) 0 2 ++ badRange b 2 2 5 1000 ++ badRange b 4 2 1 60 ++ badZero b 6 2
      ++ badRange b 8 1 0 15 ++ badZero b 9 7
      ++ ((List.range 48).flatMap fun i => badRange b (0x10 + 4 * i) 1 1 250 ++ badZero b (0x11 + 4 * i) 3)
      ++ ((List.range 24).flatMap fun k =>
        let o := 0xD0 + 8 * k
        let e := f.pairs[k]?.getD {}
        let taken := fun (i : Nat) => (f.pairs.take k).any fun x => x.kind != 0 && (x.inA == i || x.inB == i)
        let inOk := fun (i : Nat) => decide (1 ≤ i ∧ i ≤ 48) && !taken i
        badRange b o 1 0 2
          ++ (if e.kind = 0 then []
              else badField (!inOk e.inA) (o + 1) 1 ++ badField (!inOk e.inB || e.inA == e.inB) (o + 2) 1)
          ++ badZero b (o + 3) 1 ++ (if e.kind = 0 then [] else badRange b (o + 4) 2 5 2000) ++ badZero b (o + 6) 2)
      ++ ((List.range 24).flatMap fun k =>
        let o := 0x190 + 4 * k
        badField (decide (2 < fieldAt b o 1) || (bitOf designated k && fieldAt b o 1 != 0)) o 1
          ++ badRange b (o + 1) 1 0 1 ++ badZero b (o + 2) 2))

/-- Load the FIELD section into the masts' field I/O blocks. -/
def State.fieldLoad (s : State) (b : List Byte) : State :=
  let f := parseField b
  let s : State := { s with field := { s.field with fsec := some f, body := b } }
  (s.putF .agreed fFiCfgTimeout f.timeout).putF .agreed fFiCfgTestRound f.testRound

/-! ## Lengths of the other sections (R448) -/

/-- A FLANIRAX section: LENGTH 64 + 8 × N_NODES + 12 × N_SLOTS, then its fields. -/
def fbFinding (bus cycleUs : Nat) (b : List Byte) : Option Nat :=
  if b.length ≠ 64 + 8 * fieldAt b 3 1 + 12 * fieldAt b 4 1 then some 0xFFFFFFFF else checkFb bus cycleUs b

/-- A NETWORK section. -/
def netFinding (cycleUs : Nat) (b : List Byte) : Finding :=
  if b.length ≠ (netLayout b).len then badLength b else checkNetwork cycleUs b

/-- A STAY_LINK section: LENGTH 16. -/
def stayFinding (b : List Byte) : Finding := if b.length ≠ 16 then badLength b else checkStay b

end Sys2Proof.Machine
end

