-- ==== Sys2Proof/Machine/Update.lean ====
section
/-!
DEFINITION. Images, boot records, keys, settings and update sessions (R389 to R405).
-/
namespace Sys2Proof.Machine

/-! ## Boot records (R389, R391) -/

/-- Address of boot-record copy 0 or 1. -/
def recordAddr (copy : Nat) : Nat := 0x33000000 + 0x10000 * copy

/-- Read a boot record if it is valid. -/
def parseRecord (b : List Byte) : Option BootRecord :=
  if fieldAt b 0 4 = 0x44425054 ∧ fieldAt b 0x3C 4 = (crc32c (b.take 0x3C)).toNat then
    some { seq := fieldAt b 4 4, active := fieldAt b 8 1 % 2, trial := fieldAt b 9 1 == 2, tries := fieldAt b 10 1,
           reject := fieldAt b 11 1, digests := [fieldAt b 12 8, fieldAt b 20 8, fieldAt b 28 8, fieldAt b 36 8] }
  else none

/-- The bytes of a boot record. -/
def recordBytes (r : BootRecord) : List Byte :=
  let body := natLe 4 0x44425054 ++ natLe 4 r.seq ++ natLe 1 r.active ++ natLe 1 (if r.trial then 2 else 1)
    ++ natLe 1 r.tries ++ natLe 1 r.reject ++ r.digests.flatMap (natLe 8) ++ natLe 16 0
  body ++ natLe 4 (crc32c body).toNat

/-- The newer valid record of a mast's flash, with the number of its copy. -/
def Memory.record (m : Memory) : Option (Nat × BootRecord) :=
  match parseRecord (m.readBytes (recordAddr 0) 64), parseRecord (m.readBytes (recordAddr 1) 64) with
  | some a, some b => if a.seq < b.seq then some (1, b) else some (0, a)
  | some a, none => some (0, a)
  | none, some b => some (1, b)
  | none, none => none

/-- Write a record into the copy that does not hold the newer valid one, SEQ one higher. -/
def Memory.writeRecord (m : Memory) (r : BootRecord) : Memory :=
  match m.record with
  | some (k, old) => m.writeBytes (recordAddr (1 - k)) (recordBytes { r with seq := (old.seq + 1) % 2 ^ 32 })
  | none => m.writeBytes (recordAddr 0) (recordBytes { r with seq := 1 })

/-- The record of a mast, or that of a mast without one: slot 0, confirmed, no images. -/
def State.recordOf (s : State) (m : Mast) : BootRecord :=
  match (s.mast m).mem.record with
  | some (_, r) => r
  | none => { seq := 0, active := 0, trial := false, tries := 0, reject := 0, digests := [0, 0, 0, 0] }

/-- Write a changed record on every mast of a list. -/
def State.changeRecord (s : State) (l : List Mast) (f : BootRecord → BootRecord) : State :=
  l.foldl (fun s m => s.setMem m ((s.mast m).mem.writeRecord (f (s.recordOf m)))) s

/-- Show the record in `UP_STAT`, as the first voting mast holds it. (DEDUCED, log entry 76) -/
def State.showRecord (s : State) : State :=
  match s.voters with
  | [] => s
  | m :: _ =>
    let r := s.recordOf m
    let s := s.putF .agreed fUpStatActive r.active
    let s := s.putF .agreed fUpStatTrial (b2n r.trial)
    s.putF .agreed fUpStatTries (if r.trial then r.tries else 0)

/-- The active slot. (DEDUCED, log entry 76) -/
def State.activeSlot (s : State) : Nat := s.getF .agreed fUpStatActive

/-- Is the boot record in TRIAL? -/
def State.inTrial (s : State) : Bool := s.getF .agreed fUpStatTrial == 1

/-! ## Containers (R389, R393 to R395) -/

/-- Start of a slot's region: kind 1 firmware, 2 application. -/
def regionBase (slot kind : Nat) : Nat := 0x30000000 + slot * 0x1800000 + if kind = 2 then 0x1000000 else 0

/-- Size of a region. -/
def regionSize (kind : Nat) : Nat := if kind = 2 then 0x800000 else 0x1000000

/-- A container's header and block table, as read from memory. -/
def Memory.head (m : Memory) (a : Nat) : List Byte :=
  m.readBytes a (0x1000 + 64 * leNat (m.readBytes (a + 0x12) 2))

/-- Number of blocks of a container head. -/
def headBlocks (h : List Byte) : Nat := fieldAt h 0x12 2

/-- LEN of a block. -/
def blockLen (h : List Byte) (i : Nat) : Nat := fieldAt h (0x1000 + 64 * i + 4) 4

/-- The image hash (R394): header bytes before SIG, and the block table. -/
def imageHash (h : List Byte) : List Byte := Config.sha384 (h.take 0xFA0 ++ slice h 0x1000 (64 * headBlocks h))

/-- Is a key slot programmed, unrevoked and of the kind for the image (R395 check 6)? -/
def UpdatePart.keyFits (u : UpdatePart) (slot kind : Nat) : Bool :=
  (u.keys[slot]?.getD []) != [] && !bitOf u.revoked slot && (if kind = 1 then decide (slot < 4) else slot == 4 || slot == 5)

/-- Fields in range and reserved fields zero (R393, R395 check 5). -/
def headConsistent (h : List Byte) (kind : Nat) : Bool :=
  let n := headBlocks h
  let len := fieldAt h 0x14 4
  let most := if kind = 1 then 255 else 127
  decide (1 ≤ n ∧ n ≤ most ∧ 65536 * (n - 1) + 1 ≤ len ∧ len ≤ 65536 * n ∧ fieldAt h 0xB 1 ≤ 64)
    && (kind == 1 || fieldAt h 0x10 2 == 0)
    && allZero (slice h 0x20 32) && allZero (slice h 0x280 3360)
    && allZero (slice h (0x40 + 8 * fieldAt h 0xB 1) (8 * (64 - fieldAt h 0xB 1)))
    && (List.range n).all fun i =>
      blockLen h i == (if i + 1 = n then len - 65536 * (n - 1) else 65536) && allZero (slice h (0x1000 + 64 * i + 0x38) 8)

/-- Checks 1 to 7 of R395 on a container head: the reason of the first failure, 0 if none. -/
def UpdatePart.checkHead (u : UpdatePart) (h : List Byte) (kind : Nat) : Nat :=
  let serials := (List.range (fieldAt h 0xB 1)).map fun i => fieldAt h (0x40 + 8 * i) 8
  let key := fieldAt h 0xA 1
  if fieldAt h 0 4 ≠ 0x494D5054 ∨ fieldAt h 4 2 ≠ 1 then 1
  else if fieldAt h 6 2 ≠ 0x4830 ∨ fieldAt h 8 1 ≠ kind then 2
  else if 1 < fieldAt h 9 1 then 3
  else if serials ≠ [] ∧ !serials.contains u.serial then 4
  else if !headConsistent h kind then 5
  else if !u.keyFits key kind then 6
  else if !Config.ecdsaVerify (u.keys[key]?.getD []) (h.take 0xFA0 ++ slice h 0x1000 (64 * headBlocks h)) (slice h 0xFA0 96) then 7
  else 0

/-- Checks 8 and 9 of R395 on a block's bytes. -/
def checkBlock (h : List Byte) (i : Nat) (b : List Byte) : Nat :=
  if fieldAt h (0x1000 + 64 * i) 4 ≠ (crc32c b).toNat then 8
  else if slice h (0x1000 + 64 * i + 8) 48 ≠ Config.sha384 b then 9
  else 0

/-- Checks 1 to 9 on a container that stands in memory at `a`. -/
def State.checkContainer (s : State) (m : Mast) (a kind : Nat) : Nat :=
  let mem := (s.mast m).mem
  let h := mem.head a
  let r := s.upd.checkHead h kind
  if r ≠ 0 then r
  else
    match (List.range (headBlocks h)).find? fun i => checkBlock h i (mem.readBytes (a + 0x10000 + 65536 * i) (blockLen h i)) != 0 with
    | some i => checkBlock h i (mem.readBytes (a + 0x10000 + 65536 * i) (blockLen h i))
    | none => 0

/-- The image hash of a slot's region on a mast, if the container there is valid. -/
def State.regionHash (s : State) (m : Mast) (slot kind : Nat) : Option (List Byte) :=
  let a := regionBase slot kind
  if s.checkContainer m a kind = 0 then some (imageHash ((s.mast m).mem.head a)) else none

/-- VERSION of a slot's region, 0 if it is not valid. -/
def State.regionVersion (s : State) (m : Mast) (slot kind : Nat) : Nat :=
  if (s.regionHash m slot kind).isSome then leNat ((s.mast m).mem.readBytes (regionBase slot kind + 0xC) 4) else 0

/-- First 8 bytes of a hash, as DIGESTS holds them. -/
def digest8 (h : Option (List Byte)) : Nat :=
  match h with
  | some b => fieldAt b 0 8
  | none => 0

/-- Show the versions in the slots (R391 `UP_FWVER`, `UP_APPVER`), as the first voting mast finds them. -/
def State.showVersions (s : State) : State :=
  match s.voters with
  | [] => s
  | m :: _ =>
    let s := s.putF .agreed fUpFwver0Version (s.regionVersion m 0 1)
    let s := s.putF .agreed fUpFwver1Version (s.regionVersion m 1 1)
    let s := s.putF .agreed fUpAppver0Version (s.regionVersion m 0 2)
    s.putF .agreed fUpAppver1Version (s.regionVersion m 1 2)

/-- Show the key slots. -/
def State.showKeys (s : State) : State :=
  let present := ((List.range 6).filter fun i => s.upd.keys[i]?.getD [] != []).map fun i => 2 ^ i
  let s := s.putF .agreed fUpKeystatPresent (present.foldl (· + ·) 0)
  s.putF .agreed fUpKeystatRevoked s.upd.revoked

/-- Erase a range of a mast's flash: every byte reads 0xFF. -/
def Memory.erase (m : Memory) (a n : Nat) : Memory :=
  { m with cells := m.cells.filter fun c => !(decide (a ≤ c.1) && decide (c.1 < a + n)) }

/-! ## Commands (R397 to R402) -/

/-- Report an update command's outcome. -/
def State.upDone (s : State) (code result reason : Nat) : State :=
  let s := s.putF .agreed fUpCmdstatLastCode code
  let s := s.putF .agreed fUpCmdstatResult result
  s.putF .agreed fUpCmdstatReason reason

/-- Do the writers hold equal values in a parameter register (R398)? -/
def State.paramsEqual (s : State) (writers : Per Bool) (addr : Nat) : Bool :=
  match s.voters.filter fun m => writers.get m with
  | [] => false
  | m :: rest => rest.all fun k => s.reg (.mast k) addr == s.reg (.mast m) addr

/-- The source address of a mast (`UP_SRCADDR`). -/
def State.srcAddr (s : State) (m : Mast) : Nat := s.getF (.mast m) fUpSrcaddrAddr * 8

/-- Note the last failure. -/
def State.upError (s : State) (reason block : Nat) (masts : List Mast) : State :=
  let s := s.putF .agreed fUpLasterrReason reason
  let s := s.putF .agreed fUpLasterrMasts ((masts.map fun m => 2 ^ m.code).foldl (· + ·) 0)
  s.putF .agreed fUpLasterrBlock block

/-- The gate every update command passes (R45, R397 to R402): agreement with equal parameters, and a mode that allows it. The
state with the outcome where it does not pass. (DEDUCED, log entry 75) -/
def State.upGate (s : State) (writers : Per Bool) (code : Nat) (modes : List Mode) (params : List Nat) : Option State :=
  if !s.agreed writers || !params.all (s.paramsEqual writers) then some (s.upDone code 4 0)
  else if !s.inMode modes then some (s.upDone code 2 0)
  else none

/-- The modes in which a session may run (R399). -/
def upModes : List Mode := [.service, .stop, .run, .hold]

/-- Give the session a new standing and show it. -/
def State.setSession (s : State) (x : Option UpSession) : State :=
  let s : State := { s with upd := { s.upd with session := x } }
  match x with
  | none => (s.putF .agreed fUpStatBusy 0).putF .agreed fUpStatBlocks 0
  | some x => (s.putF .agreed fUpStatBusy (b2n x.writing.isSome)).putF .agreed fUpStatBlocks (min 255 x.written.length)

/-- Set PHASE. -/
def State.setPhase (s : State) (p : Nat) : State := s.putF .agreed fUpStatPhase p

/-- The first reason other than 0 that a check gives on a voting mast, and the masts that fail. -/
def State.checkMasts (s : State) (f : Mast → Nat) : Nat × List Mast :=
  let bad := s.voters.filter fun m => f m != 0
  (match bad with
   | [] => 0
   | m :: _ => f m, bad)

/-- BEGIN past its gate (R398, R399), the container's header and table taken from `head` on each mast: checks 1 to 7 on every
voting mast; the region of the inactive slot is erased and takes header and table. (DEDUCED, log entry 75) -/
def State.upBegin (s : State) (head : Mast → List Byte) : State :=
  if s.upd.session.isSome then s.upDone 1 3 14
  else if s.inTrial then s.upDone 1 3 15
  else
    let kindOf := fun (m : Mast) => if fieldAt (head m) 8 1 = 2 then 2 else 1
    let (r, bad) := s.checkMasts fun m => s.upd.checkHead (head m) (kindOf m)
    if r ≠ 0 then (s.upError r 0 bad).upDone 1 3 r
    else
      match s.voters with
      | [] => s
      | m :: _ =>
        let kind := kindOf m
        let h := head m
        let a := regionBase (1 - s.activeSlot) kind
        let s := s.voters.foldl (fun s m => s.setMem m (((s.mast m).mem.erase a (regionSize kind)).writeBytes a (head m))) s
        let s := s.setSession (some { kind := kind, version := fieldAt h 0xC 4, blocks := headBlocks h, last := s.now })
        let s := (s.setPhase 1).putF .agreed fUpStatKind (kind - 1)
        (s.raise evUpBegin kind (fieldAt h 0xC 4)).upDone 1 1 0

/-- BEGIN (R398, R399), the container at `UP_SRCADDR`. (DEDUCED, log entry 75) -/
def execBegin (t : Nat) (writers : Per Bool) (s : State) : Result :=
  let s := s.advance t
  match s.upGate writers 1 upModes [rUpSrcaddr] with
  | some s => ok s
  | none => ok (s.upBegin fun m => (s.mast m).mem.head (s.srcAddr m))

/-- WRITE of block `i` past its gate (R398), the bytes from `source` on each mast with the length the table gives: checks 8
and 9, then its flash write starts. -/
def State.upWrite (s : State) (m : Mast) (i : Nat) (source : Mast → Nat → List Byte) : State :=
  match s.upd.session with
  | none => s.upDone 8 3 13
  | some x =>
    let x := { x with last := s.now }
    let a := regionBase (1 - s.activeSlot) x.kind
    let h := (s.mast m).mem.head a
    if x.writing.isSome ∨ s.getF .agreed fUpStatPhase ≠ 1 then s.upDone 8 3 14
    else if x.blocks ≤ i then (s.upError 5 i s.voters).upDone 8 3 5
    else if x.written.contains i then (s.setSession (some x)).upDone 8 1 0
    else
      let block := fun (m : Mast) => source m (blockLen h i)
      let (r, bad) := s.checkMasts fun m => checkBlock h i (block m)
      if r ≠ 0 then
        let s := ((s.setSession (some x)).upError r i bad).upDone 8 3 r
        s.raiseLimited s.lane.active.mask 0 evUpRejected r i
      else
        let s := s.voters.foldl (fun s m => s.setMem m ((s.mast m).mem.writeBytes (a + 0x10000 + 65536 * i) (block m))) s
        (s.setSession (some { x with writing := some i })).upDone 8 1 0

/-- WRITE (R398): block `UP_BLKIDX` at `UP_SRCADDR`. (DEDUCED, log entry 75) -/
def execWrite (t : Nat) (writers : Per Bool) (s : State) : Result :=
  let s := s.advance t
  match s.upGate writers 8 upModes [rUpSrcaddr, rUpBlkidx] with
  | some s => ok s
  | none =>
    match s.voters.filter fun m => writers.get m with
    | m :: _ =>
      ok (s.upWrite m (s.getF (.mast m) fUpBlkidxIndex) fun m n => (s.mast m).mem.readBytes (s.srcAddr m) n)
    | [] => ok s

/-- The flash write under way completes and BUSY clears (R398). -/
def State.blockWritten (s : State) : State :=
  match s.upd.session with
  | some x =>
    match x.writing with
    | some i => s.setSession (some { x with written := x.written ++ [i], writing := none })
    | none => s
  | none => s

/-- UPDATE_BLOCK_WRITTEN (R398). -/
def execUpdateBlockWritten (t : Nat) (s : State) : Result := ok (s.advance t).blockWritten

/-- The DIGESTS entry of a slot's region. -/
def digestIndex (slot kind : Nat) : Nat := 2 * slot + (kind - 1)

/-- The session is aborted (R399): the region's DIGESTS entry is zeroed. Cause 1 command, 2 loss or join, 3 mode, 4 reset,
5 idle. -/
def State.upAbort (s : State) (cause : Nat) : State :=
  match s.upd.session with
  | none => s
  | some x =>
    let s := s.raise evUpAborted cause (s.getF .agreed fUpStatPhase)
    let k := digestIndex (1 - s.activeSlot) x.kind
    let s := s.changeRecord s.voters fun r => { r with digests := r.digests.set k 0 }
    ((s.setSession none).setPhase 0).putF .agreed fUpCmdstatReason 13

/-- The region is read back on every mast after its last block (R398 steps 3 and 4); `bad` names the masts whose check 10
fails, `differ` says that image hashes or read-back digests differ between masts. -/
def State.readback (s : State) (bad : Per Bool) (differ : Bool) : State :=
  match s.upd.session with
  | none => s
  | some x =>
    if s.getF .agreed fUpStatPhase ≠ 1 ∨ x.writing.isSome ∨ !(List.range x.blocks).all (fun i => x.written.contains i) then s
    else
      let failed := s.voters.filter fun m => bad.get m
      let reason := if failed ≠ [] then 10 else if differ then 11 else 0
      if reason ≠ 0 then
        let s := (s.upError reason 0 (if reason = 10 then failed else s.voters)).putF .agreed fUpCmdstatReason reason
        (s.setSession none).setPhase 0
      else
        let slot := 1 - s.activeSlot
        let other := 3 - x.kind
        let s := (s.setPhase 3).raise evUpWritten x.kind x.blocks
        let s := s.voters.foldl (fun s m =>
          let mem := (s.mast m).mem
          let src := regionBase s.activeSlot other
          let dst := regionBase slot other
          if s.regionHash m slot other = s.regionHash m s.activeSlot other then s
          else
            let moved := mem.cells.filter fun c => decide (src ≤ c.1) && decide (c.1 < src + regionSize other)
            s.setMem m ((mem.erase dst (regionSize other)).putCells (moved.map fun c => (c.1 - src + dst, c.2)))) s
        let s := s.changeRecord s.voters fun r => { r with reject := withBit r.reject slot false }
        let s := s.voters.foldl (fun s m =>
          let a := digest8 (s.regionHash m slot 1)
          let b := digest8 (s.regionHash m slot 2)
          s.changeRecord [m] fun r =>
            { r with digests := (r.digests.set (digestIndex slot 1) a).set (digestIndex slot 2) b }) s
        s.showVersions.setPhase 4

/-- UPDATE_READBACK (R398 steps 3 and 4). -/
def execUpdateReadback (t : Nat) (bad : Per Bool) (differ : Bool) (s : State) : Result := ok ((s.advance t).readback bad differ)

/-- ABORT (R399). (DEDUCED, log entry 75) -/
def execAbort (t : Nat) (writers : Per Bool) (s : State) : Result :=
  let s := s.advance t
  match s.upGate writers 2 upModes [] with
  | some s => ok s
  | none => if s.upd.session.isSome then ok ((s.upAbort 1).upDone 2 1 0) else ok (s.upDone 2 3 13)

/-- UPDATE_IDLE_TIMEOUT (R399): 600 s without a command of the session. -/
def execUpdateIdleTimeout (t : Nat) (s : State) : Result :=
  let s := s.advance t
  match s.upd.session with
  | some x => if x.last + 600 * sec ≤ s.now then ok (s.upAbort 5) else ok s
  | none => ok s

/-- Nanoseconds spent in RUN since the latest start (R402). -/
def State.runTime (s : State) : Nat := s.upd.runBefore + if s.ctl.mode = .run then s.now - s.ctl.since else 0

/-- `UP_RUNSEC` (R402): 0 outside TRIAL. -/
def State.runSec (s : State) : Nat := if s.inTrial then s.runTime / sec else 0

/-- CONFIRM (R402): accepted in RUN only; every active mast writes STATE CONFIRMED. -/
def execConfirm (t : Nat) (writers : Per Bool) (s : State) : Result :=
  let s := s.advance t
  match s.upGate writers 5 [.run] [] with
  | some s => ok s
  | none =>
    if !s.inTrial then ok (s.upDone 5 3 0)
    else
      let n := s.runSec
      let s := s.changeRecord s.voters fun r => { r with trial := false, tries := 0 }
      let s := (s.raise evUpConfirmed s.activeSlot n).showRecord
      ok ((s.putF .agreed fUpRunsecSec 0).upDone 5 1 0)

/-- Key slots of the same kind as a slot. -/
def sameKind (slot : Nat) : List Nat := if slot < 4 then [0, 1, 2, 3] else [4, 5]

/-- Would revoking a slot leave no unrevoked key of its kind, or does its key verify an image of the active slot (R397)? -/
def State.revokeRefused (s : State) (slot : Nat) : Bool :=
  let left := (sameKind slot).any fun i => i != slot && s.upd.keys[i]?.getD [] != [] && !bitOf s.upd.revoked i
  let used := s.voters.any fun m => [1, 2].any fun kind =>
    let a := regionBase s.activeSlot kind
    s.checkContainer m a kind == 0 && leNat ((s.mast m).mem.readBytes (a + 0xA) 1) == slot
  !left || used

/-- REVOKE (R397): in SERVICE with no session open. -/
def execRevoke (t : Nat) (writers : Per Bool) (s : State) : Result :=
  let s := s.advance t
  match s.upGate writers 6 [.service] [] with
  | some s => ok s
  | none =>
    let slot := s.getF .agreed fUpKeyselSlot
    if s.upd.session.isSome then ok (s.upDone 6 3 14)
    else if 5 < slot ∨ s.revokeRefused slot then ok (s.upDone 6 3 16)
    else
      let s : State := { s with upd := { s.upd with revoked := withBit s.upd.revoked slot true } }
      ok ((s.showKeys.raise evUpKeyRevoked slot 0).upDone 6 1 0)

/-- KEYPROG past its gate (R397): no session open, an empty customer slot; `key` is x‖y. -/
def State.keyProgram (s : State) (slot : Nat) (key : List Byte) : State :=
  if s.upd.session.isSome then s.upDone 7 3 14
  else if !(slot == 4 || slot == 5) || s.upd.keys[slot]?.getD [] != [] then s.upDone 7 3 0
  else
    let s : State := { s with upd := { s.upd with keys := s.upd.keys.set slot key } }
    (s.showKeys.raise evUpKeyProgrammed slot (fieldAt key 0 4)).upDone 7 1 0

/-- KEYPROG (R397): in SERVICE with no session open, into an empty customer slot. -/
def execKeyprog (t : Nat) (writers : Per Bool) (s : State) : Result :=
  let s := s.advance t
  match s.upGate writers 7 [.service] [rUpSrcaddr] with
  | some s => ok s
  | none =>
    match s.voters.filter fun m => writers.get m with
    | m :: _ => ok (s.keyProgram (s.getF .agreed fUpKeyselSlot) ((s.mast m).mem.readBytes (s.srcAddr m) 96))
    | [] => ok s

/-! ## A container that has come as a whole (R70, R421) -/

/-- Header and block table of a container's bytes. -/
def headOf (c : List Byte) : List Byte := c.take (0x1000 + 64 * headBlocks c)

/-- BEGIN and WRITE of every block of a container, each block's flash write done before the next (R398). -/
def State.writeContainer (s : State) (c : List Byte) : State :=
  let busy := s.upd.session.isSome
  let s := s.upBegin fun _ => headOf c
  match busy || s.upd.session.isNone, s.voters with
  | false, m :: _ =>
    (List.range (headBlocks c)).foldl (fun s i => (s.upWrite m i fun _ n => slice c (0x10000 + 65536 * i) n).blockWritten) s
  | _, _ => s

/-- Does the session hold every block of its container? -/
def State.allWritten (s : State) : Bool :=
  match s.upd.session with
  | some x => (List.range x.blocks).all fun i => x.written.contains i
  | none => false

/-! ## Settings (R403 to R405) -/

/-- Address of a settings bank. -/
def bankAddr (k : Nat) : Nat := 0x33020000 + 0x100000 * k

/-- A bank's SEQ and SCHEMA, where its header and its records check (R403). -/
def Memory.bank (m : Memory) (k : Nat) : Option (Nat × Nat) :=
  let h := m.readBytes (bankAddr k) 32
  let len := fieldAt h 12 4
  let records := m.readBytes (bankAddr k + 32) len
  if fieldAt h 0 4 = 0x54535054 ∧ fieldAt h 28 4 = (crc32c (h.take 28)).toNat ∧ len ≤ 0x100000 - 40 ∧
      leNat (m.readBytes (bankAddr k + 32 + len) 8) = (crc64 records).toNat then
    some (fieldAt h 8 4, fieldAt h 4 2)
  else none

/-- The bank to write next: the one without a valid store, else the older one. -/
def Memory.olderBank (m : Memory) : Nat :=
  match m.bank 0, m.bank 1 with
  | none, _ => 0
  | some _, none => 1
  | some a, some b => if a.1 ≤ b.1 then 0 else 1

/-- The newest valid bank's SCHEMA, 0 without one. (DESIGN CHOICE, log entry 69) -/
def Memory.newestSchema (m : Memory) : Nat :=
  match m.bank 0, m.bank 1 with
  | some a, some b => if b.1 ≤ a.1 then a.2 else b.2
  | some a, none => a.2
  | none, some b => b.2
  | none, none => 0

/-- A store image goes into the older bank of every mast (R403). -/
def State.writeStore (s : State) (store : Mast → List Byte) : State :=
  s.voters.foldl (fun s m =>
    let mem := (s.mast m).mem
    let a := bankAddr mem.olderBank
    s.setMem m ((mem.erase a 0x100000).writeBytes a ((store m).take 0x100000))) s

/-- SETTINGS (R403): the store image at `UP_SRCADDR` goes into the older bank of every mast. (DESIGN CHOICE, log entry 69) -/
def execSettings (t : Nat) (writers : Per Bool) (s : State) : Result :=
  let s := s.advance t
  match s.upGate writers 9 upModes [rUpSrcaddr] with
  | some s => ok s
  | none =>
    let store := fun (m : Mast) =>
      let mem := (s.mast m).mem
      mem.readBytes (s.srcAddr m) (min 0x100000 (40 + leNat (mem.readBytes (s.srcAddr m + 12) 4)))
    ok ((s.writeStore store).upDone 9 1 0)

end Sys2Proof.Machine
end

