-- ==== Sys2Proof/Machine/ModeOps.lean ====
section
/-!
DEFINITION. Changing the mode: what every entry into and exit from a mode brings with it (R23 to R28, R294).
-/
namespace Sys2Proof.Machine

/-- Show the application's course (`MC_APPSTAT`). -/
def State.setRun (s : State) (r : AppRun) : State :=
  let s : State := { s with app := { s.app with run := r } }
  s.putF .agreed fMcAppstatState r.code

/-- The program stops (R26, R286): nothing is in progress, uncommitted images are discarded and the all-off image is in force. -/
def State.appStop (s : State) : State :=
  let run : AppRun := match s.app.run with
    | .none => .none
    | .faulted => .faulted
    | _ => .stopped
  let s : State := { s with
    app := { s.app with inCycle := Per.all none, startedOn := Per.all none, halting := false,
                        endedAt := Per.all none, halted := Per.all false, overran := Per.all none, faults := Per.all none }
    lane := { s.lane with images := Per.all none, decision := none, late := none, inForce := [] } }
  s.setRun run

/-- Ask for a release of one force or of all at the next action instant (R294); until then START is refused. -/
def State.askRelease (s : State) (symbol : Option Nat) (cause : Nat) : State :=
  let held := match symbol with
    | some i => s.app.forces.any fun f => f.1 == i
    | none => s.app.forces != []
  if !held then s
  else
    let s : State := { s with app := { s.app with releases := s.app.releases ++ [(symbol, cause)] } }
    if symbol.isNone ∧ (cause = 2 ∨ cause = 3) then s.putF .agreed fMcInhibitService 1 else s

/-- The monitor session ends (R420): forces that it set are released (R294). -/
def State.endSession (s : State) : State :=
  match s.mon.session with
  | none => s
  | some (key, _) =>
    let s : State := { s with mon := { s.mon with session := none, transfer := none } }
    let s := ((s.putF .agreed fSvStatSession 0).putF .agreed fSvStatKey 0).putF .agreed fSvStatIdle 0
    (s.raise evMonSession 0 key).askRelease none 2

/-- The register words of one mast's copies are lost. -/
def RegFile.dropMast (f : RegFile) (m : Mast) : RegFile :=
  ⟨f.cells.filter fun c => !([m.code, 5 + 2 * m.code, 6 + 2 * m.code].contains (c.1 / 2 ^ 32))⟩

/-- A mast loses its power (R112, R125): everything in it but MRAM, flash and OTP is gone, and its peers' `LM_HBSTAT` shows 0 for it
(R128). -/
def State.cutPower (s : State) (m : Mast) : State :=
  let x := s.mast m
  let off : MastState := { mem := x.mem.clearSram.clearDram, isolated := x.isolated, dieTemp := x.dieTemp }
  let s : State := s.setMast m off
  let s := Mast.all.foldl (fun s (obs : Mast) => s.putF (.mast obs) ⟨rLmHbstat, 4 * m.code + 3, 4 * m.code⟩ 0) s
  { s with
    regs := s.regs.dropMast m
    writes := s.writes.filter fun w => w.mast != m
    queue := s.queue.set m {}
    intake := { s.intake with masts := s.intake.masts.set m {} }
    sup := { s.sup with masts := s.sup.masts.set m {} } }

/-- The join under way is given up on the way to SAFE (R102): the jury mast is powered off. (DEDUCED, log entry 55) -/
def State.abandonJoin (s : State) : State :=
  let idle := fun (s : State) => (s.putF .agreed fLmJoinPhase 0).putF .agreed fLmStatJoinPhase 0
  match s.lane.join with
  | none => idle s
  | some j =>
    let s : State := { s with lane := { s.lane with join := none, go := Per.all true } }
    if j.ended.isSome then s else idle (s.cutPower .j)

/-- What leaving a mode brings: leaving STOP ends the fetch of the application (R70). -/
def State.leaveMode (s : State) : State :=
  match s.ctl.mode with
  | .run => { s with upd := { s.upd with runBefore := s.upd.runBefore + (s.now - s.ctl.since) } }
  | .service =>
    let s := (s.putF .agreed fFiSvcEnEn 0).putF .agreed fFiSvcValVal 0
    s.fbLeaveService.askRelease none 3
  | .stop => ({ s with key := { s.key with fetchAt := none } }).putF .agreed fSlAppfetchState 0
  | _ => s

/-- What entering a mode brings: outputs (R24, R26), buses (R200), the bridge (R352), the stay link (R367), the supervisors
(R25), sessions (R399, R420) and transmitters (R23). -/
def State.enterMode (s : State) (m : Mode) : State :=
  match m with
  | .stop => (s.appStop.queuedClearAll.fbForget).netEnterStop
  | .service => s.appStop.queuedClearAll.fbForget
  | .run | .hold | .boot => s
  | .standby =>
    let s := (s.appStop.queuedClearAll.fbOff.slBypass.spStop).bridgeClose 0
    Mast.all.foldl State.dmaIdle (s.upAbort 3).endSession
  | .safe =>
    let s := (s.appStop.queuedClearAll.fbOff.slBypass.spStop).bridgeClose 3
    let s := Mast.all.foldl State.dmaIdle (s.upAbort 3).endSession
    s.abandonJoin.fieldRegime
  | .recovery =>
    let s := (s.appStop.queuedClearAll.fbOff.slBypass.spStop).bridgeClose 0
    (s.upAbort 3).endSession

/-- The module changes its mode (R27): counted, shown and logged. Nothing happens if it is in that mode already. -/
def State.changeMode (s : State) (m : Mode) : State :=
  if s.ctl.mode = m then s
  else
    let from' := s.ctl.mode
    let s := s.leaveMode
    let mute := !([Mode.service, .stop, .run, .hold].contains m)
    let s : State := { s with
      ctl := { s.ctl with prev := from', mode := m, since := s.now, changes := satAdd 65535 s.ctl.changes 1 }
      lane := { s.lane with mute := mute } }
    let s := (s.putF .agreed fMcModeMode m.code).putF .agreed fMcModePrev from'.code
    let s := (s.putF .agreed fMcModeChanges s.ctl.changes).raise evModeChange from'.code m.code
    s.enterMode m

/-- The module enters STOP with a cause (`MC_STOPCAUSE`). -/
def State.enterStop (s : State) (cause : Nat) : State := (s.changeMode .stop).putF .agreed fMcStopcauseCause cause

/-- The modes from which the lane's faults lead to SAFE (R27). (DEDUCED, log entry 52) -/
def safeFrom : List Mode := [.boot, .service, .stop, .run, .hold]

/-- The module enters SAFE at once with a cause of R127. (DEDUCED, log entry 55) -/
def State.enterSafe (s : State) (cause : Nat) : State :=
  if s.inMode safeFrom then (s.raise evSafeEnter cause s.lane.lane.code).changeMode .safe else s

/-- The module enters RECOVERY at once (R27). -/
def State.enterRecovery (s : State) : State := s.changeMode .recovery

end Sys2Proof.Machine
end

