-- ==== Sys2Proof/Machine/SlotKey.lean ====
section
/-!
DEFINITION. The slot key: how a mast's read is digested, how reads are compared, and the checks of the image (R49 to R63).
-/
namespace Sys2Proof.Machine

/-! ## Reading (R51, R52) -/

/-- The slot-image header as a mast reads it first (R51); bytes never programmed read as erased flash (R49). -/
def keyHeader (r : KeyRead) : List Byte := (r.image.take 32) ++ List.replicate (32 - r.image.length) 0xFF

/-- The bytes a mast reads (R51): TOTAL_LEN of them, at most 786 432; bytes never programmed read as erased flash (R49). -/
def keyBytes (r : KeyRead) : List Byte :=
  let n := min (fieldAt (keyHeader r) 8 4) 786432
  (r.image.take n) ++ List.replicate (n - r.image.length) 0xFF

/-- The five bytes of the seal word as shifted in; an unanswered or short read shows zeros (R64). -/
def sealBytes (w : List Byte) : List Byte := (w.take 5) ++ List.replicate (5 - w.length) 0

/-- The slot-key digest over a seal word and image bytes (R51). -/
def keyDigest (word image : List Byte) : List Byte := Config.sha384 (sealBytes word ++ [0, 0, 0] ++ image)

/-- The framing byte of a seal word. (DEDUCED, log entry 67) -/
def sealFrame (w : List Byte) : Nat := fieldAt (sealBytes w) 0 1

/-- The switch value of a seal word (R63, R64). -/
def sealValue (w : List Byte) : Nat := beNat ((sealBytes w).drop 1)

/-- The masts of a list that read with a mast's digest. -/
def sameKey (keys : Per KeyRead) (l : List Mast) (m : Mast) : List Mast :=
  let d := fun (x : Mast) => keyDigest (keys.get x).sealWord (keyBytes (keys.get x))
  l.filter fun x => (keys.get x).answered && d x == d m

/-- The masts that agree on the slot image (R52): those of the first answering mast whose digest at least one other gives. (DEDUCED, log entry 66) -/
def keyAgreed (keys : Per KeyRead) (l : List Mast) : List Mast :=
  match l.find? fun m => (keys.get m).answered && decide (2 ≤ (sameKey keys l m).length) with
  | some m => sameKey keys l m
  | none => []

/-- No mast finds a key (R52): no identity returned, or the framing wrong, on all of them. -/
def keyAbsent (keys : Per KeyRead) (l : List Mast) : Bool :=
  l.all (fun m => !(keys.get m).answered) || l.all (fun m => sealFrame (keys.get m).sealWord != 0xA5)

/-- The read that the comparison accepts (R52), if two masts' digests agree. -/
def keyTaken (keys : Per KeyRead) (l : List Mast) : Option KeyRead :=
  if keyAbsent keys l then none
  else match keyAgreed keys l with
  | m :: _ => some (keys.get m)
  | [] => none

/-! ## The image (R55 to R62) -/

/-- A directory entry: type, MUST_UNDERSTAND, offset, length, CRC (R56). -/
structure KeySection where
  typ : Nat
  must : Bool
  offset : Nat
  length : Nat
  crc : Nat
  deriving DecidableEq, Repr

/-- The directory. -/
def keyDirectory (img : List Byte) : List KeySection :=
  (List.range (fieldAt img 0xC 2)).map fun k =>
    let e := slice img (0x20 + 16 * k) 16
    { typ := fieldAt e 0 2, must := bitOf (fieldAt e 2 2) 0, offset := fieldAt e 4 4, length := fieldAt e 8 4, crc := fieldAt e 12 4 }

/-- The section types: type, required, least and greatest length (R57). -/
def keyTypes : List (Nat × Bool × Nat × Nat) :=
  [(0x0001, true, 64, 64), (0x0002, true, 16, 16), (0x0003, true, 64, 64), (0x0004, true, 256, 4096),
   (0x0010, true, 64, 262144), (0x0011, true, 64, 4096), (0x0020, false, 64, 32768), (0x0021, false, 64, 32768),
   (0x0030, true, 64, 16384), (0x0040, false, 16, 8192), (0x0041, false, 16, 4096), (0x0060, false, 0, 262144)]

/-- The body of a section of a type, if the image has one. -/
def keyBody (img : List Byte) (typ : Nat) : Option (List Byte) :=
  ((keyDirectory img).find? fun e => e.typ == typ).map fun e => slice img e.offset e.length

/-- The container of a type, if it is known. -/
def keyContainer (typ : Nat) : Option (Nat × Nat) := (keyTypes.find? fun k => k.1 == typ).map fun k => (k.2.2.1, k.2.2.2)

/-- The first section that breaks check 8 (R58). -/
def keyOverlap (img : List Byte) (dir : List KeySection) : Option KeySection :=
  let total := fieldAt img 8 4
  let head := 0x20 + 16 * fieldAt img 0xC 2
  (List.range dir.length).findSome? fun i =>
    match dir[i]? with
    | none => none
    | some e =>
      let meets := (List.range dir.length).any fun j =>
        match dir[j]? with
        | some f => i != j && rangesMeet e.offset e.length f.offset f.length
        | none => false
      if total < e.offset + e.length ∨ rangesMeet e.offset e.length 0 head ∨ meets then some e else none

/-- The first type that appears twice. -/
def keyRepeated : List KeySection → Option Nat
  | [] => none
  | e :: rest => if rest.any fun f => f.typ == e.typ then some e.typ else keyRepeated rest

/-- A failed check of R58: its reason, the section type (0 for header and directory) and, for a CRC, the one computed. (DEDUCED, log entry 110) -/
structure KeyFault where
  reason : Nat
  typ : Nat
  crc : Nat := 0
  deriving DecidableEq, Repr

/-- Does a name hold ASCII bytes and end in at least one zero byte (R59)? -/
def nameOk (b : List Byte) : Bool :=
  b.all (fun c => decide (c.toNat < 128)) && b.any (fun c => c == 0) && allZero (b.dropWhile fun c => c != 0)

/-- Check 14 of R58: the first of IDENTITY, CONTROL and APP_BINDING with a value out of range or a reserved field not zero
(R59, R60, R68). (DEDUCED, log entry 110) -/
def keyBodyFault (img : List Byte) : Option Nat :=
  let id := (keyBody img 1).getD []
  let control := (keyBody img 2).getD []
  let app := (keyBody img 3).getD []
  let slot := fieldAt id 0 1
  if slot < 1 ∨ 31 < slot ∨ !allZero (slice id 1 3) ∨ !nameOk (slice id 8 32) ∨ !allZero (slice id 0x28 24) then some 1
  else if 7 < fieldAt control 0 4 ∨ !allZero (slice control 4 12) then some 2
  else if 1 < fieldAt app 0x34 4 ∨ !allZero (slice app 0x38 8) then some 3
  else none

/-- Checks 1 to 14 of R58 in their order: the first that fails. (DEDUCED, log entry 110) -/
def checkKey (img : List Byte) : Option KeyFault :=
  let total := fieldAt img 8 4
  let count := fieldAt img 0xC 2
  let dir := keyDirectory img
  let headCrc := (crc32c (slice img 0 0x1C ++ slice img 0x20 (16 * count))).toNat
  let known := fun (e : KeySection) => (keyContainer e.typ).isSome
  let outside := fun (e : KeySection) =>
    match keyContainer e.typ with
    | some c => decide (e.length < c.1 ∨ c.2 < e.length)
    | none => false
  let missing := keyTypes.find? fun k => k.2.1 && !dir.any fun e => e.typ == k.1
  let bodyCrc := fun (e : KeySection) => (crc32c (slice img e.offset e.length)).toNat
  if fieldAt img 0 4 ≠ 0x4B535054 then some ⟨1, 0, 0⟩
  else if fieldAt img 4 2 ≠ 1 then some ⟨2, 0, 0⟩
  else if fieldAt img 6 2 ≠ 0x4830 then some ⟨3, 0, 0⟩
  else if 1 < fieldAt img 0xE 1 then some ⟨4, 0, 0⟩
  else if total < 128 ∨ 786432 < total then some ⟨5, 0, 0⟩
  else if count < 4 ∨ 32 < count ∨ total < 0x20 + 16 * count then some ⟨6, 0, 0⟩
  else if fieldAt img 0x1C 4 ≠ headCrc then some ⟨7, 0, headCrc⟩
  else match keyOverlap img dir with
  | some e => some ⟨8, e.typ, 0⟩
  | none => match dir.find? outside with
  | some e => some ⟨9, e.typ, 0⟩
  | none => match keyRepeated dir with
  | some typ => some ⟨10, typ, 0⟩
  | none => match missing with
  | some k => some ⟨11, k.1, 0⟩
  | none => match dir.find? fun e => !known e && e.must with
  | some e => some ⟨12, e.typ, 0⟩
  | none => match dir.find? fun e => e.crc != bodyCrc e with
  | some e => some ⟨13, e.typ, bodyCrc e⟩
  | none => (keyBodyFault img).map fun typ => ⟨14, typ, 0⟩

/-- IDENTITY.SLOT_ID of an image (R59). -/
def keySlotId (img : List Byte) : Nat := match keyBody img 1 with | some b => fieldAt b 0 1 | none => 0

/-- Sections that are skipped (R58). -/
def keyIgnored (img : List Byte) : List KeySection := (keyDirectory img).filter fun e => (keyContainer e.typ).isNone

/-- The seal code of a SAFETY_PARAMS body (R63): over bytes 0 to LENGTH − 1. -/
def sealCode (b : List Byte) : Nat := (crc32c (b.take (fieldAt b 2 2))).toNat

/-- Where a mast's copy of the slot image starts (`SL_IMGADDR`). -/
def imageAddr : Nat := 0x10B40000

/-- Put the image into a mast's SRAM (R51). -/
def State.placeImage (s : State) (m : Mast) (img : List Byte) : State :=
  let mem := (s.mast m).mem
  let words := (List.range ((img.length + 7) / 8)).map fun k => imageAddr + 8 * k
  let mem := words.foldl (fun (x : Memory) a => x.markValid a) (mem.writeBytes imageAddr img)
  s.setMem m mem

/-! ## The jury mast's read (R54) -/

/-- Does the jury mast's own read give the digest agreed at BOOT? (DEDUCED, log entry 58) -/
def State.juryRead (s : State) (k : KeyRead) : Bool :=
  s.key.image != [] && k.answered && keyDigest k.sealWord (keyBytes k) == keyDigest s.key.sealWord s.key.image

/-- A mast's SRAM copy of the slot image. -/
def State.imageCopy (s : State) (m : Mast) : List Byte := (s.mast m).mem.readBytes imageAddr s.key.image.length

/-- Do the survivors' SRAM copies agree, with the digest agreed at BOOT over the seal word agreed at BOOT (R54)? -/
def State.copiesAgree (s : State) : Bool :=
  match s.voters.map s.imageCopy with
  | [x, y] => x == y && keyDigest s.key.sealWord x == keyDigest s.key.sealWord s.key.image
  | _ => false

/-- The jury mast gets the slot image, by its own read or from the survivors; none when neither path gives the agreed digest. (DEDUCED, log entry 58) -/
def State.juryImage (s : State) (k : KeyRead) (copies : Bool) : Option State :=
  if s.key.image = [] then none
  else if s.juryRead k then some (s.placeImage .j s.key.image)
  else if copies && s.copiesAgree then
    let s := (s.placeImage .j s.key.image).putF .agreed fSlKeystatFromLane 1
    some (s.raise evSlotkeyFromLane Mast.j.code 0)
  else none

end Sys2Proof.Machine
end

