-- ==== Sys2Proof/Machine/Log.lean ====
section
/-!
DEFINITION. The event log at action instants and its export as syslog (R409 to R416).
-/
namespace Sys2Proof.Machine

/-! ## Writing the log (R409 to R411) -/

/-- Order of due events: those the ROM held, which are written as the firmware starts (R48), then by timestamp, code and
source (R411). (DEDUCED, log entry 13) -/
def Event.before (x y : Event) : Bool :=
  if x.held ≠ y.held then x.held
  else if x.stamp ≠ y.stamp then decide (x.stamp < y.stamp)
  else if x.code ≠ y.code then decide (x.code < y.code) else decide (x.source ≤ y.source)

/-- Insert an event into an ordered list, behind its equals. -/
def insertEvent (e : Event) : List Event → List Event
  | [] => [e]
  | x :: rest => if e.before x && !(x.before e) then e :: x :: rest else x :: insertEvent e rest

/-- Order events by R411. -/
def orderEvents (l : List Event) : List Event := l.foldl (fun acc e => insertEvent e acc) []

/-- One event raised by several masts is one entry that names them all (R410): it joins an equal one that other masts raised. (DEDUCED, log entry 13) (DEDUCED, log entry 105) -/
def joinEvent : List Event → Event → List Event
  | [], e => [e]
  | x :: rest, e =>
    if { x with source := e.source } = e ∧ (BitVec.ofNat 4 x.source &&& BitVec.ofNat 4 e.source) = 0 then
      { x with source := x.source + e.source } :: rest
    else x :: joinEvent rest e

/-- The sequence number after one (R409). -/
def nextSeq (n : Nat) : Nat := if n = 0xFFFFFFFF then 0x1000 else n + 1

/-- The 32 bytes of a log entry (R410). -/
def entryBytes (x : LogEntry) : List Byte :=
  let e := x.event
  natLe 4 x.seq ++ natLe 4 (e.stamp % sec) ++ natLe 8 (e.stamp / sec) ++ natLe 2 e.code ++ natLe 1 (e.source % 16)
    ++ natLe 1 (severityOf e.code) ++ natLe 4 e.arg1 ++ natLe 4 e.arg2 ++ natLe 2 (b2n e.held) ++ natLe 2 0

/-- Where the entry with a sequence number lies (R409). -/
def entryAddr (seq : Nat) : Nat := 0x10B20000 + 32 * (seq % 4096)

/-- An entry is written to ring 120 of a mast (R328, R414). -/
def State.exportPush (s : State) (m : Mast) (x : LogEntry) : State :=
  if !s.ringOn m 120 then s
  else if s.ringFull m 120 then s.ringDrop m 120
  else s.ringPush m 120 (entryBytes x)

/-- One event enters the log of every active mast (R98, R409 to R411). -/
def State.logEvent (s : State) (e : Event) : State :=
  let x : LogEntry := ⟨nextSeq s.log.seq, e⟩
  let full := decide (4096 ≤ s.log.entries.length)
  let gone := if full then (s.log.entries.take 1).map LogEntry.seq else []
  let entries := (if full then s.log.entries.drop 1 else s.log.entries) ++ [x]
  let running := s.log.begun && s.getF .agreed fElExportEnable == 1
  let unsent := (if running then s.log.unsent else s.log.unsent.filter fun n => !gone.contains n) ++ [x.seq]
  let s : State := { s with log := { s.log with entries := entries, seq := x.seq, unsent := unsent } }
  let s := (s.putF .agreed fElHeadseqSeq x.seq).putF .agreed fElStatCount entries.length
  let s := s.putF .agreed fElFirstseqSeq (match entries with | y :: _ => y.seq | [] => 0)
  let s := if full then s.putF .agreed fElStatWrapped 1 else s
  (s.voters.filter fun m => (s.mast m).powered).foldl (fun s m => (s.store m (entryAddr x.seq) (entryBytes x)).exportPush m x) s

/-- The log's part of an action instant (R411). (DEDUCED, log entry 13) (DEDUCED, log entry 105) -/
def State.logAtInstant (s : State) : State :=
  (orderEvents (s.log.due.foldl joinEvent [])).foldl State.logEvent { s with log := { s.log with due := [] } }

/-! ## The syslog message (R415) -/

/-- One hexadecimal digit, capital. -/
def hexDigit (n : Nat) : Char := if n < 10 then Char.ofNat (48 + n) else Char.ofNat (55 + n)

/-- The `k` low hexadecimal digits of a number. -/
def hexFixed : Nat → Nat → List Char
  | 0, _ => []
  | k + 1, n => hexFixed k (n / 16) ++ [hexDigit (n % 16)]

/-- Digits a number of at most 32 bits needs in hexadecimal, at least one. -/
def hexLen (n : Nat) : Nat := ((List.range 8).reverse.find? fun k => decide (16 ^ k ≤ n)).getD 0 + 1

/-- A number in hexadecimal without leading zeros. -/
def hexText (n : Nat) : String := "0x" ++ String.ofList (hexFixed (hexLen n) n)

/-- The `k` low decimal digits of a number. -/
def decFixed : Nat → Nat → List Char
  | 0, _ => []
  | k + 1, n => decFixed k (n / 10) ++ [Char.ofNat (48 + n % 10)]

/-- Decimal digits of a number of at most 64 bits, without leading zeros. -/
def decText (n : Nat) : String :=
  let k := ((List.range 20).reverse.find? fun k => decide (10 ^ k ≤ n)).getD 0 + 1
  String.ofList (decFixed k n)

/-- Year, month and day of a day number counted from 1 January 1970. (PRESUMED, log entry 106) -/
def civilDate (days : Nat) : Nat × Nat × Nat :=
  let z := days + 719468
  let era := z / 146097
  let doe := z % 146097
  let yoe := (doe - doe / 1460 + doe / 36524 - doe / 146096) / 365
  let doy := doe - (365 * yoe + yoe / 4 - yoe / 100)
  let mp := (5 * doy + 2) / 153
  let d := doy - (153 * mp + 2) / 5 + 1
  let m := if mp < 10 then mp + 3 else mp - 9
  let y := yoe + era * 400 + if m ≤ 2 then 1 else 0
  (y, m, d)

/-- TIMESTAMP (R415). (PRESUMED, log entry 106) -/
def State.timestampText (s : State) (stamp : Nat) : String :=
  match s.time.utcOffset with
  | none => "-"
  | some ofs =>
    if s.servo = tbUnset then "-"
    else
      let utc := ((stamp / sec : Nat) : Int) - ofs
      let u := utc.toNat
      let date := civilDate (u / 86400)
      let day := u % 86400
      let two := fun (n : Nat) => decFixed 2 n
      String.ofList (decFixed 4 date.1 ++ ['-'] ++ two date.2.1 ++ ['-'] ++ two date.2.2 ++ ['T'] ++ two (day / 3600) ++ [':']
        ++ two (day / 60 % 60) ++ [':'] ++ two (day % 60) ++ ['.'] ++ decFixed 6 (stamp % sec / 1000) ++ ['Z'])

/-- SLOT_NAME of the accepted image (R59), up to its first zero byte. -/
def State.slotName (s : State) : String :=
  match keyBody s.key.image 1 with
  | none => ""
  | some b => String.ofList (((slice b 8 32).takeWhile fun c => c != 0).map fun c => Char.ofNat c.toNat)

/-- RACK_ID of the accepted image. -/
def State.rackId (s : State) : Nat := match keyBody s.key.image 1 with | some b => fieldAt b 4 4 | none => 0

/-- HOSTNAME (R415). -/
def State.hostText (s : State) : String :=
  if s.slotName = "" then "tpm48-r" ++ decText s.rackId ++ "-s" ++ decText (s.getF .agreed fSlSlotidImage) else s.slotName

/-- The message of an entry (R415). (DEDUCED, log entry 46) -/
def State.syslogText (s : State) (x : LogEntry) : String :=
  let e := x.event
  "<" ++ decText (128 + severityOf e.code) ++ ">1 " ++ s.timestampText e.stamp ++ " " ++ s.hostText ++ " TPM48 - "
    ++ eventName e.code ++ " - seq=" ++ decText x.seq ++ " t=" ++ decText (e.stamp / sec) ++ "."
    ++ String.ofList (decFixed 9 (e.stamp % sec)) ++ " code=0x" ++ String.ofList (hexFixed 4 e.code) ++ " src=" ++ hexText e.source
    ++ " a1=" ++ hexText e.arg1 ++ " a2=" ++ hexText e.arg2

/-! ## Export (R414, R416) -/

/-- Count the tokens that have come in (R416), in 10⁻⁹ of a message. -/
def State.refillTokens (s : State) : State :=
  let rate := s.getF .agreed fElExportRate
  let tokens := min (rate * sec) (s.log.tokens + rate * (s.now - s.log.tokensAt))
  { s with log := { s.log with tokens := tokens, tokensAt := s.now } }

/-- Is export running (R414)? -/
def State.exporting (s : State) : Bool :=
  s.log.begun && s.getF .agreed fElExportEnable == 1 && s.inMode [.service, .stop, .run, .hold]

/-- The entry with a sequence number, while the log holds it. -/
def LogPart.entry (l : LogPart) (seq : Nat) : Option LogEntry := l.entries.find? fun x => x.seq == seq

/-- Entries above SEVMAX at the front of the list are passed over (R414). -/
def State.passOver (s : State) : State :=
  let above := fun (n : Nat) =>
    match s.log.entry n with
    | some x => decide (s.getF .agreed fElExportSevmax < severityOf x.event.code)
    | none => false
  { s with log := { s.log with unsent := s.log.unsent.dropWhile above } }

/-- The datagram of an entry (R414): to the journal of `EL_DEST`, on class 1 of the plane-1 port of the interface, whose ring gives
the source id (R132, R328). (DEDUCED, log entry 46) -/
def State.datagram (s : State) (x : LogEntry) : SyslogDatagram :=
  let i := s.getF .agreed fElDestportIf
  let ring := 8 * (i - 1) + 1
  { text := s.syslogText x, dest := s.getF .agreed fElDestIp, destPort := s.getF .agreed fElDestportPort, iface := i, ring := ring
    source := 0xE000 + ring }

/-- Send one message. (DEDUCED, log entry 46) -/
def State.sendEntry (s : State) (x : LogEntry) (cost : Nat) : State :=
  let s : State := { s with log := { s.log with message := s.datagram x, tokens := s.log.tokens - cost } }
  s.wrapF .agreed fElSentCount 1

/-- SYSLOG_EXPORT (R414 to R416): the formatter takes the oldest entry that it has neither sent nor passed over. -/
def execSyslogExport (t : Nat) (s : State) : Result :=
  let s := s.advance t
  if !s.exporting then ok s
  else
    let s := s.refillTokens.passOver
    match s.log.unsent with
    | [] => ok s
    | n :: rest =>
      let s : State := { s with log := { s.log with unsent := rest } }
      match s.log.entry n with
      | none => ok (s.incF .agreed fElDropLost 1)
      | some x =>
        if x.event.code = evSyslogDropped then ok (s.sendEntry x 0)
        else if sec ≤ s.log.tokens then ok (s.sendEntry x sec)
        else ok ((s.incF .agreed fElDropDropped 1).noteSummary 0 evSyslogDropped 0)

end Sys2Proof.Machine
end

