-- ==== Sys2Proof/Machine/Lane.lean ====
section
/-!
DEFINITION. The lane manager: transmit owners, losses and isolation, heartbeats, and the commit of output images
(R100 to R118, R127 to R130).
-/
namespace Sys2Proof.Machine

/-! ## Lane state and positions (R100 to R102) -/

/-- The position a mast shows in `LM_SELF`: its own, or the target while it joins; 3 for none. -/
def LanePart.shownPos (l : LanePart) (m : Mast) : Nat :=
  match l.posOf m, l.join with
  | some p, _ => p.code
  | none, some j => if m = .j then j.target.code else 3
  | none, none => 3

/-- Show the lane's state (`LM_STAT`, `LM_SELF`, `MC_MODE.LANE`). (DESIGN CHOICE, log entry 32) -/
def State.showLane (s : State) : State :=
  let l := s.lane
  let c := Copy.agreed
  let s := ((s.putF c fLmStatIsolated l.isolated.mask).putF c fLmStatActive l.active.mask).putF c fLmStatSpare (b2n l.spare)
  let s := ((s.putF c fLmStatPosA l.posA.code).putF c fLmStatPosB l.posB.code).putF c fLmStatPosC l.posC.code
  let s := (s.putF c fLmStatLane l.lane.code).putF c fMcModeLane l.lane.code
  Mast.all.foldl (fun s m =>
    if (s.mast m).powered then (s.putF (.mast m) fLmSelfPosition (l.shownPos m)).putF (.mast m) fLmSelfMast m.code else s) s

/-- The lane state changes (R102). -/
def State.setLane (s : State) (new : Lane) : State :=
  if s.lane.lane = new then s.showLane
  else
    let old := s.lane.lane
    let s : State := { s with lane := { s.lane with lane := new } }
    (s.raise evLaneState old.code new.code).fieldRegime.showLane

/-- Show the join's phase (`LM_JOIN.PHASE` and its copy). -/
def State.showPhase (s : State) (p : Nat) : State := (s.putF .agreed fLmJoinPhase p).putF .agreed fLmStatJoinPhase p

/-! ## Transmit owners (R114, R117, R118) -/

/-- The lane position after one, in the order A, B, C, A. -/
def nextPos : LanePos → LanePos
  | .a => .b | .b => .c | .c => .a

/-- Is the mast at a position active? -/
def LanePart.posActive (l : LanePart) (p : LanePos) : Bool := l.active.get (l.holder p)

/-- The partner of a unit (R114). -/
def partnerUnit (u : Nat) : Option Nat := if 6 ≤ u then none else if u % 2 = 0 then some (u + 1) else some (u - 1)

/-- The preferred position of a unit in `LM_OWNPREF`. -/
def prefPos (pref u : Nat) : LanePos := LanePos.ofCode (pref / 4 ^ u % 4)

/-- The position a displaced unit passes to, with the owners settled so far (R114). -/
def LanePart.placeUnit (l : LanePart) (pref : Nat) (own : List (Option LanePos)) (u : Nat) : List (Option LanePos) :=
  match own[u]? with
  | some none =>
    let p := prefPos pref u
    let found := [nextPos p, nextPos (nextPos p)].filter l.posActive
    let busy := match partnerUnit u with
      | some v => (own[v]?).join
      | none => none
    own.set u ((found.filter (fun q => some q ≠ busy) ++ found).head?)
  | _ => own

/-- The position that owns each unit (R114): the preferred one where it is active, then the displaced units in order. -/
def LanePart.ownerPositions (l : LanePart) (pref : Nat) : List (Option LanePos) :=
  let direct := (List.range 8).map fun u => if l.posActive (prefPos pref u) then some (prefPos pref u) else none
  (List.range 8).foldl (l.placeUnit pref) direct

/-- The mast that should own a unit. -/
def State.rightOwner (s : State) (u : Nat) : Option Mast :=
  ((s.lane.ownerPositions (s.getF .agreed fLmOwnprefPref))[u]?).join.map s.lane.holder

/-- The owner of a unit that a mast drives on its vote lines (R15, R114): a voting mast that works names the one it has computed. -/
def State.ownerVote (s : State) (u : Nat) (m : Mast) : Option Mast :=
  if s.votes m && (s.mast m).alive then s.rightOwner u else none

/-- The owner at least two masts vote for (R15, R114). -/
def State.votedOwner (s : State) (u : Nat) : Option Mast :=
  Mast.all.find? fun o => decide (2 ≤ (Mast.all.filter fun m => s.ownerVote u m == some o).length)

/-- Show the owners (`LM_OWNER`). (DESIGN CHOICE, log entry 32) -/
def State.showOwners (s : State) : State :=
  let own := (List.range 8).map fun u => (s.unit u).owner.code * 4 ^ u
  let pend := (List.range 8).map fun u => if (s.unit u).pendingTo.isSome then 2 ^ u else 0
  (s.putF .agreed fLmOwnerOwner own.sum).putF .agreed fLmOwnerPending pend.sum

/-- A unit passes to a new owner (R117, R118). -/
def State.handOver (s : State) (u : Nat) (next : Mast) (forced : Bool) : State :=
  let old := (s.unit u).owner
  let s := s.setUnit u { s.unit u with owner := next, pendingTo := none }
  let s : State := { s with lane := { s.lane with ownersAt := s.moduleTime } }
  let c := Copy.agreed
  let s := s.incF c (if forced then fLmHandoverForced else fLmHandoverNormal) 1
  let s := ((s.putF c fLmHandoverLastFrom old.code).putF c fLmHandoverLastUnit u).putF c fLmHandoverLastForced (b2n forced)
  let s := s.putF c fLmHandoverLastTo next.code
  let s := (s.raise evOwnerChange u (next.code + 256 * old.code + 65536 * b2n forced)).showOwners
  if u = 6 then s.bridgeKick else s

/-- A normal handover that waits for a mast that votes no more goes to the unit's owner of R114 instead (R117). -/
def State.retarget (s : State) (u : Nat) : State :=
  let x := s.unit u
  match x.pendingTo with
  | none => s
  | some next =>
    if s.votes next then s
    else
      let right := s.rightOwner u
      (s.setUnit u { x with pendingTo := if right = some x.owner then none else right }).showOwners

/-- Forced handovers of every unit a mast owns (R112 step 1, R118): its frames in progress are cut, and the owner the other masts
vote for starts with them. -/
def State.forcedHandovers (s : State) (lost : Mast) : State :=
  let s := s.cutFrames lost
  (List.range 8).foldl (fun s u =>
    let s := if (s.unit u).owner = lost then
        match s.votedOwner u with
        | some right => s.handOver u right true
        | none => s
      else s
    s.retarget u) s

/-- Units whose right owner is another mast wait for a normal handover (R117). -/
def State.normalHandovers (s : State) : State :=
  ((List.range 8).foldl (fun s u =>
    let x := s.unit u
    let right := s.rightOwner u
    s.setUnit u { x with pendingTo := if right = some x.owner then none else right }) s).showOwners

/-- Is the unit at a boundary: no frame in progress on it (R117)? -/
def TxUnit.atBoundary (x : TxUnit) (now : Nat) : Bool := x.wire.all fun w => decide (w.upTo ≤ now)

/-- NORMAL_HANDOVER (R117): at the unit's next boundary the selector passes the new owner; no frame is cut. -/
def execNormalHandover (t : Nat) (u : Nat) (s : State) : Result :=
  let s := s.advance t
  match (s.unit u).pendingTo with
  | some next => if u < 8 ∧ s.votes next ∧ (s.unit u).atBoundary s.now then ok (s.handOver u next false) else ok s
  | none => ok s

/-! ## Losses and isolation (R102, R111 to R113, R125) -/

/-- When a mast went fail-silent, in module time, by its own record (R95); `other` for a mast that is not silent. (DEDUCED, log entry 49) -/
def State.onsetOf (s : State) (m : Mast) (other : Nat) : Nat :=
  if (s.mast m).silent then
    let b := (s.mast m).mem.readBytes silenceAddr 32
    fieldAt b 8 8 * sec + fieldAt b 16 4
  else other

/-- Record a loss (`LM_LOSS`) and raise MAST_LOST on the other voting masts (R102, R105). (DEDUCED, log entry 49) -/
def State.noteLoss (s : State) (m : Mast) (cause onset : Nat) : State :=
  let pos := match s.lane.posOf m with | some p => p.code | none => 0
  let c := Copy.agreed
  let s := ((s.incF c fLmLossCount 1).putF c fLmLossCause cause).putF c fLmLossPosition pos
  let s := ((s.putF c fLmLossMast m.code).putF c fLmLosssecSec (onset / sec)).putF c fLmLossnsNsec (onset % sec)
  s.raiseBy (s.lane.active.set m false).mask evMastLost m.code cause

/-- A unit's queue without the frames and digests of a mast that no longer votes. -/
def TxUnit.without (x : TxUnit) (m : Mast) : TxUnit :=
  let queue := x.queue.map fun f => { f with deposits := f.deposits.set m none, copies := f.copies.set m none }
  { x with queue := queue.filter fun f => Mast.all.any fun v => (f.copies.get v).isSome }

/-- What the program and the images of a mast that no longer votes leave behind. (DEDUCED, log entry 55) -/
def State.dropMast (s : State) (m : Mast) : State :=
  let l := { s.lane with units := s.lane.units.map fun (x : TxUnit) => x.without m }
  let late := match l.late with
    | some x => if x.1 = m then none else some x
    | none => none
  { s with
    lane := { l with active := l.active.set m false, images := l.images.set m none, late := late }
    app := { s.app with inCycle := s.app.inCycle.set m none, startedOn := s.app.startedOn.set m none
                        overran := s.app.overran.set m none, faults := s.app.faults.set m none } }

/-- Will the jury mast be powered once the isolation is confirmed (R102)? (DESIGN CHOICE, log entry 126) -/
def State.spareReady (s : State) : Bool :=
  s.lane.lane == .duplex && s.lane.spare && s.getF .agreed fLmCtrlSpareEn == 1 && s.inMode safeFrom

/-- The onset of a loss begins a join where the jury mast will be powered (R119 step 1): phase 1, with its target. -/
def State.joinAhead (s : State) (p : LanePos) : State :=
  if s.spareReady then
    let c := Copy.agreed
    (((s.putF c fLmJoinTarget p.code).putF c fLmJoinFailReason 0).putF c fLmJoinElapsed 0).showPhase 1
  else s

/-- The module has lost a mast while in TRIPLEX (R102, R112 steps 1 and 2): DUPLEX, the gate opened, owners by force. -/
def State.loseTriplex (s : State) (m : Mast) (cause onset : Nat) : State :=
  match s.lane.posOf m with
  | none => s
  | some p =>
    let from' := s.now - (s.moduleTime - onset)
    let s := (s.noteLoss m cause onset).dropMast m
    let iso : Isolation := ⟨m, p, onset, from', s.now⟩
    let s : State := { s with lane := { s.lane with isolated := s.lane.isolated.set m true, isolation := some iso } }
    let s := s.setMast m { s.mast m with isolated := true }
    let s := ((s.setLane .duplex).forcedHandovers m).crossbar p none
    (s.joinAhead p).upAbort 2

/-- A loss takes effect (R102): in DUPLEX and JOINING the module enters SAFE, cause 3. -/
def State.applyLoss (s : State) (m : Mast) (cause onset : Nat) : State :=
  if !s.votes m || !s.inMode safeFrom then s
  else if s.lane.lane = .triplex then s.loseTriplex m cause onset
  else (s.noteLoss m cause onset).enterSafe 3

/-- Losses decided together (R102): two of them lead to SAFE, cause 2. -/
def State.applyLosses (s : State) (l : List (Mast × Nat × Nat)) : State :=
  match l with
  | [] => s
  | [(m, cause, onset)] => s.applyLoss m cause onset
  | _ => (l.foldl (fun s x => s.noteLoss x.1 x.2.1 x.2.2) s).enterSafe 2

/-- The two masts of DUPLEX or JOINING disagree (R102, R127 cause 4). -/
def State.disagree (s : State) (object cycle : Nat) : State := (s.raise evDuplexDisagree object cycle).enterSafe 4

/-- A join fails (R125): the jury mast is powered off, the lane is DUPLEX without spare, and no hold remains. -/
def State.joinFail (s : State) (reason : Nat) : State :=
  match s.lane.join with
  | none => s
  | some j =>
    if j.ended.isSome then s
    else
      let elapsed := (s.now - j.onset) / ms
      let s := s.raise evJoinFailed reason j.phase
      let done : Join := { j with phase := 9, ended := some s.now, reason := reason }
      let s : State := { s with lane := { s.lane with join := some done, spare := false, go := Per.all true } }
      let s := Mast.all.foldl (fun s m => s.putF (.mast m) fLmCycgoGo 1) s
      let c := Copy.agreed
      let s := ((s.putF c fLmJoinElapsed (min 65535 elapsed)).putF c fLmJoinFailReason reason).incF c fLmJoinstatFails 1
      ((s.cutPower .j).showPhase 9).setLane .duplex

/-! ## Heartbeats (R103 to R107) -/

/-- Beats are sent and watched (R102: not in STANDBY). -/
def State.beating (s : State) : Bool := s.ctl.on && !s.inMode [.standby]

/-- The jury mast is being brought in and its links run (R119 step 4). -/
def State.joining (s : State) : Bool :=
  match s.lane.join with
  | some j => j.ended.isNone && (s.mast .j).powered && decide (2 ≤ j.rom)
  | none => false

/-- A mast whose beats are expected: a voting one, or the jury mast while it joins. -/
def State.beats (s : State) (m : Mast) : Bool := s.votes m || (m == .j && s.joining)

/-- The beats one mast keeps of another. -/
def State.hbLink (s : State) (obs peer : Mast) : HbLink := (s.lane.hb.get obs).get peer

/-- Replace them, and show them (`LM_HBSTAT`). -/
def State.setHb (s : State) (obs peer : Mast) (x : HbLink) : State :=
  let row := (s.lane.hb.get obs).set peer x
  let s : State := { s with lane := { s.lane with hb := s.lane.hb.set obs row } }
  let up := b2n (!x.hb1.down) + 2 * b2n (!x.hb2.down) + 4 * b2n (x.hb1.down != x.hb2.down) + 8 * b2n (x.hb1.down && x.hb2.down)
  let nibble := if (s.mast peer).powered then up else 0
  s.putF (.mast obs) ⟨rLmHbstat, 4 * peer.code + 3, 4 * peer.code⟩ nibble

/-- Does a mast find a peer lost on both paths (R103, R105)? -/
def State.finds (s : State) (obs peer : Mast) : Bool :=
  let x := s.hbLink obs peer
  obs != peer && x.hb1.down && x.hb2.down

/-- Does an observer declare a peer lost (R105)? -/
def State.declares (s : State) (obs peer : Mast) : Bool :=
  s.votes obs && (s.mast obs).alive && s.beats peer && s.finds obs peer

/-- Does a mast watch its peers' beats: one whose own are expected, or one the others have isolated that has not gone silent and
has power (R107, R118 step 4)? -/
def State.watches (s : State) (m : Mast) : Bool :=
  (s.mast m).powered && !(s.mast m).silent && (s.beats m || s.lane.isolated.get m)

/-- Are beats of a peer awaited: one whose beats are expected, or one isolated, whose beats come no more (R103, R104, R111)? -/
def State.awaited (s : State) (peer : Mast) : Bool := s.beats peer || s.lane.isolated.get peer

/-- The VIEW field of a mast (R103). -/
def State.viewOf (s : State) (m : Mast) : Nat :=
  let lost := (Mast.all.map fun p => if s.finds m p then 2 ^ p.code else 0).sum
  s.lane.active.mask + 16 * s.lane.isolated.mask + 256 * s.lane.lane.code + 4096 * lost

/-- The HB1 beat a mast sends (R103). -/
def State.hb1Bytes (s : State) (m : Mast) : List Byte :=
  let pos := match s.lane.posOf m with | some p => p.code | none => 3
  let dec := match s.lane.decided with | some d => (d.1, d.2.1) | none => (0, 0)
  let time := s.moduleTime
  let body := natLe 1 0x48 ++ natLe 1 (m.code + 16 * pos) ++ natLe 2 (s.lane.beatSeq.get m) ++ natLe 4 (s.viewOf m)
    ++ natLe 4 (s.getF .agreed fLmOwnerOwner) ++ natLe 4 dec.1 ++ natLe 4 dec.2 ++ natLe 4 (time / sec) ++ natLe 4 (time % sec)
  body ++ natLe 4 (crc32c body).toNat

/-- HEARTBEAT_SEND (R103): a mast sends its HB1 beat and toggles its HB2 lines. -/
def execHeartbeatSend (t : Nat) (m : Mast) (s : State) : Result :=
  let s := s.advance t
  if !s.beating || !s.beats m || !(s.mast m).alive then ok s
  else
    let bytes := s.hb1Bytes m
    ok { s with lane := { s.lane with
      beatOut := s.lane.beatOut.set m bytes
      beatSeq := s.lane.beatSeq.set m ((s.lane.beatSeq.get m + 1) % 65536)
      hb2Level := s.lane.hb2Level.set m (!s.lane.hb2Level.get m) } }

/-- A beat comes on a path (R104, R105): within its window it counts; a path that is down counts anew from any beat. Also
answers whether the path has come up again. (DEDUCED, log entry 48) -/
def HbPath.beat (p : HbPath) (now : Nat) (renew : Bool) : HbPath × Bool :=
  let inside := decide (p.last + 240 * us ≤ now ∧ now ≤ p.last + 260 * us)
  if p.down then
    let good := if inside then p.good + 1 else 1
    if 4 ≤ good then ({ good := 4, missed := 0, down := false, last := now }, true)
    else ({ p with good := good, last := now }, false)
  else if inside then ({ p with good := min 4 (p.good + 1), missed := 0, last := now }, false)
  else (if renew then { p with last := now } else p, false)

/-- A window ends without its beat (R104, R105). Also answers whether the path has just gone down. (DEDUCED, log entry 48) -/
def HbPath.miss (p : HbPath) : HbPath × Bool :=
  let missed := min 4 (p.missed + 1)
  ({ good := 0, missed := missed, down := p.down || missed == 4, last := p.last + 250 * us }, !p.down && missed == 4)

/-- A mast's loss takes effect in TRIPLEX (R105): both others declare it, or one does and the third's VIEW confirms it. -/
def State.lossAgreed (s : State) (m : Mast) : Bool :=
  let seen := fun (x third : Mast) => !s.declares x third && bitOf (s.hbLink x third).view (12 + m.code)
  match s.voters.filter fun x => x != m with
  | [x, y] => (s.declares x m && (s.declares y m || seen x y)) || (s.declares y m && seen y x)
  | _ => false

/-- A mast that declares both other active masts lost in TRIPLEX goes fail-silent (R107). (DEDUCED, log entry 52) -/
def State.alone (s : State) : State :=
  s.voters.foldl (fun s x =>
    match s.voters.filter fun y => y != x with
    | [y, z] => if s.declares x y && s.declares x z then s.requestSilent x evMastLost else s
    | _ => s) s

/-- A mast the others have isolated that still has power goes fail-silent once it finds both of them lost (R118 step 4). -/
def State.outcastAlone (s : State) (m : Mast) : State :=
  if s.lane.isolated.get m && s.voters != [] && s.voters.all (s.finds m) then s.requestSilent m evMastLost else s

/-- The pair of active masts that declare each other lost while the third, by its own beats and their VIEWs, receives both
(R106), the earlier position first. (DEDUCED, log entry 52) -/
def State.pairLoss (s : State) : Option (Mast × Mast) :=
  let pairs := match s.lane.inOrder with
    | [x, y, z] => [(x, y, z), (x, z, y), (y, z, x)]
    | _ => []
  (pairs.find? fun p =>
    let x := p.1; let y := p.2.1; let z := p.2.2
    s.declares x y && s.declares y x && !s.declares z x && !s.declares z y &&
    bitOf (s.hbLink z x).view (12 + y.code) && bitOf (s.hbLink z y).view (12 + x.code)).map fun p => (p.1, p.2.1)

/-- The jury mast is declared lost during its join (R125 reason 7). -/
def State.juryLost (s : State) : Bool :=
  match s.voters with
  | [x, y] => s.joining && ((s.declares x .j && (s.declares y .j || bitOf (s.hbLink x y).view 15))
                || (s.declares y .j && bitOf (s.hbLink y x).view 15))
  | _ => false

/-- Module time of the last beat that came from a peer, as the first voting mast knows it. (DEDUCED, log entry 48) -/
def State.lastBeat (s : State) (m : Mast) : Nat :=
  let seen := (s.voters.filter fun x => x != m).map fun x => max (s.hbLink x m).hb1.last (s.hbLink x m).hb2.last
  s.moduleTime - (s.now - seen.foldl min s.now)

/-- Decide losses from what the masts find (R102, R105 to R107). (DEDUCED, log entry 52) -/
def State.judgeBeats (s : State) : State :=
  if !s.inMode safeFrom then s
  else
    match s.lane.lane, s.voters with
    | .triplex, v =>
      match v.filter s.lossAgreed, s.pairLoss with
      | [], some (kept, lost) => (s.raise evPairLoss kept.code lost.code).applyLoss lost 7 (s.onsetOf lost s.moduleTime)
      | [], none => s.alone
      | l, _ => (s.alone).applyLosses (l.map fun m => (m, 1, s.onsetOf m (s.lastBeat m)))
    | _, [x, y] =>
      if s.declares x y then (s.noteLoss y 1 (s.onsetOf y (s.lastBeat y))).enterSafe 5
      else if s.declares y x then (s.noteLoss x 1 (s.onsetOf x (s.lastBeat x))).enterSafe 5
      else if s.juryLost then s.joinFail 7
      else s
    | _, _ => s

/-- The field of `LM_HBMISS` an observer counts a peer's missed beats in. (DEDUCED, log entry 48) -/
def hbMiss (f : Fld) (peer : Mast) : Fld := f.plus (4 * peer.code)

/-- HEARTBEAT_MISSED (R104 to R107): the windows of the named paths end without a beat. -/
def execHeartbeatMissed (t : Nat) (obs peer : Mast) (hb1 hb2 : Bool) (s : State) : Result :=
  let s := s.advance t
  let x := s.hbLink obs peer
  let one := hb1 && decide (x.hb1.last + 260 * us ≤ s.now)
  let two := hb2 && decide (x.hb2.last + 260 * us ≤ s.now)
  if !s.beating || obs == peer || !s.watches obs || !s.awaited peer || !(one || two) then ok s
  else
    let p := if one then x.hb1.miss else (x.hb1, false)
    let q := if two then x.hb2.miss else (x.hb2, false)
    let s := if one then s.incF (.mast obs) (hbMiss fLmHbmissHb1 peer) 1 else s
    let s := if two then s.incF (.mast obs) (hbMiss fLmHbmissHb2 peer) 1 else s
    let s := s.setHb obs peer { x with hb1 := p.1, hb2 := q.1 }
    let told := s.beats obs && s.beats peer
    let s := if told && p.2 && !q.1.down then s.raiseM obs evHbWarn peer.code 1 else s
    let s := if told && q.2 && !p.1.down then s.raiseM obs evHbWarn peer.code 2 else s
    ok (s.outcastAlone obs).judgeBeats

/-- Is the beat one that its receiver counts (R104)? -/
def hb1Good (peer : Mast) (b : List Byte) : Bool :=
  b.length == 32 && fieldAt b 0 1 == 0x48 && fieldAt b 1 1 % 4 == peer.code && fieldAt b 0x1C 4 == (crc32c (b.take 0x1C)).toNat

/-- A peer's last beat that was sent after the last decision names another one (R110). (DEDUCED, log entry 50) -/
def State.otherDecision (s : State) (obs peer : Mast) : Bool :=
  match s.lane.decided with
  | none => false
  | some (cycle, digest, at') =>
    let x := s.hbLink obs peer
    decide (at' ≤ x.sent) && !(x.commit == cycle && x.cdig == digest)

/-- A peer's last beat was sent after the last decision and names the same one. (DEDUCED, log entry 50) -/
def State.sameDecision (s : State) (obs peer : Mast) : Bool :=
  match s.lane.decided with
  | none => false
  | some (cycle, digest, at') =>
    let x := s.hbLink obs peer
    decide (at' ≤ x.sent) && x.commit == cycle && x.cdig == digest

/-- Compare decisions and owner votes after a beat (R110, R127). (DEDUCED, log entry 50) -/
def State.judgeDecisions (s : State) (obs : Mast) : State :=
  if !s.votes obs || !s.inMode safeFrom then s
  else
    match s.lane.lane, s.voters.filter fun x => x != obs with
    | .triplex, [p, q] =>
      let now := s.moduleTime
      if s.otherDecision obs p && s.sameDecision obs q then s.applyLoss p 5 now
      else if s.otherDecision obs q && s.sameDecision obs p then s.applyLoss q 5 now
      else if s.otherDecision obs p && s.otherDecision obs q && (s.hbLink obs p).commit == (s.hbLink obs q).commit
          && (s.hbLink obs p).cdig == (s.hbLink obs q).cdig then s.applyLoss obs 5 now
      else s
    | .triplex, _ => s
    | _, [p] =>
      if s.otherDecision obs p then s.disagree 2 (s.getF .agreed fLmCmtcycCycle)
      else if decide (s.lane.ownersAt < (s.hbLink obs p).sent) && (s.hbLink obs p).owners % 65536 != s.getF .agreed fLmOwnerOwner then
        s.disagree 3 (s.getF .agreed fLmCmtcycCycle)
      else s
    | _, _ => s

/-- HB1_BEAT_RECEIVED (R104 to R107, R110): an observer receives a beat on its link to a peer. The gate of an isolated peer is
open: no beat comes from it (R111). Beats that list the observer as isolated are counted for each peer, from its last beat that
does not, and the counts of all peers together (R107). (DESIGN CHOICE, log entry 125) -/
def execHb1BeatReceived (t : Nat) (obs peer : Mast) (bytes : List Byte) (s : State) : Result :=
  let s := s.advance t
  if !s.beating || obs == peer || !s.watches obs || s.lane.isolated.get peer || !hb1Good peer bytes then ok s
  else
    let x := s.hbLink obs peer
    let p := x.hb1.beat s.now true
    let view := fieldAt bytes 4 4
    let listed := if bitOf view (4 + obs.code) then x.listed + 1 else 0
    let x := { x with hb1 := p.1, view := view, owners := fieldAt bytes 8 4, commit := fieldAt bytes 12 4, cdig := fieldAt bytes 16 4
                      sent := fieldAt bytes 20 4 * sec + fieldAt bytes 24 4, listed := min 2 listed }
    let s := s.setHb obs peer x
    let s := if p.2 then s.raiseM obs evHbRestored peer.code 1 else s
    let told := (Mast.all.map fun m => if m = obs then 0 else (s.hbLink obs m).listed).sum
    if 2 ≤ told then ok (s.requestSilent obs evMastLost)
    else ok (s.judgeBeats.judgeDecisions obs)

/-- HB2_EDGE (R104): an edge on the line from a peer. -/
def execHb2Edge (t : Nat) (obs peer : Mast) (s : State) : Result :=
  let s := s.advance t
  if !s.beating || obs == peer || !s.watches obs || s.lane.isolated.get peer then ok s
  else
    let x := s.hbLink obs peer
    let p := x.hb2.beat s.now false
    let s := s.setHb obs peer { x with hb2 := p.1 }
    let s := if p.2 then s.raiseM obs evHbRestored peer.code 2 else s
    ok s.judgeBeats

/-! ## The commit of output images (R108, R109) -/

/-- The time all working masts' own timebases have reached (R166). -/
def State.slowest (s : State) : Nat :=
  (((s.voters.filter fun m => (s.mast m).alive).map s.tbNs).min?).getD 0

/-- The commit point that is due (R108): the index of the action instant that follows within 50 µs by every mast's own timebase
(R166), once for each. (DEDUCED, log entry 54) -/
def State.commitDue (s : State) : Option Nat :=
  let now := s.slowest + 50 * us
  if now < s.aiOffset then none
  else
    let k := (now - s.aiOffset) / s.aiCycle
    if s.lane.lastPoint = some k then none else some k

/-- A working mast's uncommitted image. -/
def State.image (s : State) (m : Mast) : Option Submitted := if (s.mast m).alive then s.lane.images.get m else none

/-- Does a mast present an image of the cycle? -/
def State.presents (s : State) (n : Nat) (m : Mast) : Bool :=
  match s.image m with
  | some x => x.cycle == n
  | none => false

/-- The digest a mast presents, 0 without an image. -/
def State.digestOf (s : State) (m : Mast) : Nat := match s.image m with | some x => x.digest | none => 0

/-- Commit points at which a mast's image has been pending. -/
def State.pointsOf (s : State) (m : Mast) : Nat := match s.image m with | some x => x.points | none => 0

/-- When a mast submitted its image. -/
def State.submittedAt (s : State) (m : Mast) : Nat := match s.image m with | some x => x.time | none => s.moduleTime

/-- A vote code of `LM_VOTE`: 0 agreed, 1 differed, 2 missing, 3 no mast. (DEDUCED, log entry 51) -/
def State.voteCode (s : State) (n : Nat) (have' : List Mast) (m : Mast) : Nat :=
  if !s.votes m then 3
  else if !s.presents n m then 2
  else if have'.length ≤ 1 || have'.any (fun x => x != m && s.digestOf x == s.digestOf m) then 0 else 1

/-- Show the comparison (`LM_VOTE`). (DEDUCED, log entry 51) -/
def State.showVote (s : State) (n : Nat) (have' : List Mast) : State :=
  let c := Copy.agreed
  let code := s.voteCode n have'
  ((s.putF c fLmVotePosA (code s.lane.posA)).putF c fLmVotePosB (code s.lane.posB)).putF c fLmVotePosC (code s.lane.posC)

/-- An image was pending and none is committed. (DEDUCED, log entry 51) -/
def State.noCommit (s : State) : State := s.incF .agreed fLmVoteNocommit 1

/-- Image n as a mast presents it is committed; the decision takes effect at the action instant (R108). -/
def State.commitImage (s : State) (m : Mast) : State :=
  match s.image m with
  | none => s
  | some x =>
    { s with lane := { s.lane with
      decision := some ⟨x.cycle, x.digest, x.items⟩
      decided := some (x.cycle % 2 ^ 32, x.digest % 2 ^ 32, s.moduleTime) } }

/-- The rows of R109 in TRIPLEX for the oldest uncommitted cycle; `have'` are the masts that present it, in lane order. -/
def State.commitTriplex (s : State) (n : Nat) (have' : List Mast) : State :=
  let d := s.digestOf
  match have' with
  | [x, y, z] =>
    if d x = d y ∧ d y = d z then s.commitImage x
    else if d x = d y then (s.commitImage x).applyLoss z 2 (s.onsetOf z (s.submittedAt z))
    else if d x = d z then (s.commitImage x).applyLoss y 2 (s.onsetOf y (s.submittedAt y))
    else if d y = d z then (s.commitImage y).applyLoss x 2 (s.onsetOf x (s.submittedAt x))
    else s.noCommit.enterSafe 1
  | [x, y] =>
    match s.voters.filter fun m => m != x && m != y with
    | [z] =>
      if d x = d y then
        let s := s.commitImage x
        { s with lane := { s.lane with late := some (z, n, d x) } }
      else if 2 ≤ min (s.pointsOf x) (s.pointsOf y) then
        ((s.noCommit).applyLoss z 3 (s.onsetOf z s.moduleTime)).disagree 1 n
      else s.noCommit
    | _ => s
  | [x] =>
    let s := s.noCommit
    if 3 ≤ s.pointsOf x then s.applyLoss x 4 (s.onsetOf x (s.submittedAt x)) else s
  | _ => s

/-- The rule of R109 in DUPLEX and JOINING. -/
def State.commitDuplex (s : State) (n : Nat) (have' : List Mast) : State :=
  match have' with
  | [x, y] => if s.digestOf x = s.digestOf y then s.commitImage x else s.noCommit.disagree 1 n
  | [x] => if 2 ≤ s.pointsOf x then s.noCommit.disagree 1 n else s.noCommit
  | _ => s

/-- A mast that missed a committed cycle has presented an equal image by now, or is voted out (R109, third row). -/
def State.checkLate (s : State) : State :=
  match s.lane.late with
  | none => s
  | some (m, n, digest) =>
    let s : State := { s with lane := { s.lane with late := none } }
    let s' := s
    if s.presents n m && s.digestOf m == digest then { s' with lane := { s.lane with images := s.lane.images.set m none } }
    else s.applyLoss m 3 (s.onsetOf m s.moduleTime)

/-- One more commit point has passed for every pending image. (DEDUCED, log entry 54) -/
def LanePart.countPoint (l : LanePart) : LanePart :=
  { l with images := l.images.map fun _ x => x.map fun y => { y with points := y.points + 1 } }

/-- The oldest uncommitted cycle of which an image is present. -/
def State.oldestCycle (s : State) : Option Nat :=
  (s.voters.filterMap fun m => (s.image m).map Submitted.cycle).min?

/-- COMMIT_POINT (R108, R109). (DEDUCED, log entry 54) -/
def execCommitPoint (t : Nat) (s : State) : Result :=
  let s := s.advance t
  match s.commitDue with
  | none => ok s
  | some k =>
    let s : State := { s with lane := { s.lane with lastPoint := some k } }
    if !s.inMode [.run, .hold] then ok s
    else
      let s := s.checkLate
      if !s.inMode [.run, .hold] then ok s
      else
        let s : State := { s with lane := s.lane.countPoint }
        match s.oldestCycle with
        | none => ok s
        | some n =>
          let have' := s.lane.inOrder.filter (s.presents n)
          let s := s.showVote n have'
          if s.lane.lane = .triplex then ok (s.commitTriplex n have') else ok (s.commitDuplex n have')

/-- The last commit decision takes effect at the action instant (R108, R17). -/
def State.commitAtInstant (s : State) : State :=
  match s.lane.decision with
  | none => s
  | some d =>
    let gone := fun (_ : Mast) (x : Option Submitted) =>
      match x with
      | some y => if y.cycle = d.cycle then none else some y
      | none => none
    let images := s.lane.images.map gone
    let s : State := { s with lane := { s.lane with
      decision := none, inForce := d.items, committedAt := s.now, images := images } }
    let c := Copy.agreed
    let s := (s.putF c fLmCmtcycCycle (d.cycle % 2 ^ 32)).putF c fLmCmtdigLoDigLo (d.digest % 2 ^ 32)
    (s.putF c fLmCmtdigHiDigHi (d.digest / 2 ^ 32)).fbCommit d.items

end Sys2Proof.Machine
end

