-- ==== Sys2Proof/Machine/Join.lean ====
section
/-!
DEFINITION. Isolation of a lost mast, the jury mast's join with its checkpoint, and the time band (R112, R113, R119 to R126,
R152 to R154).
-/
namespace Sys2Proof.Machine

/-! ## Power for a mast (R29, R119) -/

/-- A mast is powered with its SRAM cleared and its scrubbers running (R378, R385). -/
def State.powerMast (s : State) (m : Mast) : State :=
  let x := s.mast m
  let on : MastState := { powered := true, mem := x.mem.clearSram.clearDram, dieTemp := x.dieTemp, sramScrub := true, dramScrub := true }
  (s.setMast m on).putF (.mast m) fMcIdMast m.code

/-- Both heartbeat links between two masts start anew at a local time (R119 step 4). -/
def State.startBeats (s : State) (x y : Mast) (at' : Nat) : State :=
  let p : HbPath := { last := at' }
  (s.setHb x y { hb1 := p, hb2 := p }).setHb y x { hb1 := p, hb2 := p }

/-! ## Start of a join (R112 step 4, R119 steps 2 to 6, R401) -/

/-- The slot of the jury mast whose images equal those the survivors run (R401). -/
def State.jurySlot (s : State) : Option Nat :=
  match s.voters with
  | [] => none
  | m :: _ =>
    let fw := s.regionHash m s.activeSlot 1
    let app := s.regionHash m s.activeSlot 2
    [0, 1].find? fun k => s.regionHash .j k 1 == fw && s.regionHash .j k 2 == app

/-- The jury mast's boot record is made to match the survivors' with the slot it starts (R401). -/
def State.juryRecord (s : State) (slot : Nat) : State :=
  match s.voters with
  | [] => s
  | m :: _ =>
    let r := { s.recordOf m with active := slot }
    let own := s.recordOf .j
    if own.active = r.active ∧ own.trial = r.trial ∧ own.tries = r.tries ∧ own.reject = r.reject ∧ own.digests = r.digests then s
    else s.setMem .j ((s.mast .j).mem.writeRecord r)

/-- Replace the join under way. -/
def State.setJoin (s : State) (j : Join) : State := { s with lane := { s.lane with join := some j } }

/-- The jury mast's power switch closes (R112 step 4, R119 step 2). (DESIGN CHOICE, log entry 57) (DEDUCED, log entry 58) -/
def State.startJoin (s : State) (pos : LanePos) (onset : Nat) (f : JuryFinding) : State :=
  let c := Copy.agreed
  let s := s.powerMast .j
  let s := s.setJoin { target := pos, onset := onset, phase := 2, poweredAt := s.now, rom := 0, find := some f }
  let s := ((s.putF c fLmJoinTarget pos.code).putF c fLmJoinFailReason 0).putF c fLmJoinElapsed ((s.now - onset) / ms)
  let s := (s.showPhase 2).setLane .joining
  s.raise evJoinStart pos.code (s.getF c fLmCkstatTotal)

/-- Milliseconds from the closing of the power switch to each step of the jury mast's ROM (R119 steps 3 to 6). -/
def romAt : Nat → Nat
  | 0 => 30
  | 1 => 180
  | 2 => 220
  | _ => 440

/-- The jury mast's links to the survivors are up (R119 step 4): its timebase steps to module time (R154) and beats are expected. -/
def State.juryLinks (s : State) : State :=
  let s : State := { s with time := { s.time with
    tb := s.time.tb.set .j (s.moduleTime * 2 ^ 32), trim := s.time.trim.set .j 0, left := s.time.left.set .j 0 } }
  s.voters.foldl (fun s m => s.startBeats m .j s.now) s

/-- The next step of the jury mast's ROM (R119 steps 3 to 6): it starts and reads its own silence record (R95), its self-tests, its
slot key, its images. -/
def State.romStep (s : State) (j : Join) (f : JuryFinding) : State :=
  match j.rom with
  | 0 => ((s.setJoin { j with rom := 1, phase := 3 }).showPhase 3).bootSilence .j
  | 1 => if f.selftest then (s.setJoin { j with rom := 2 }).juryLinks else s.joinFail 1
  | 2 =>
    match s.juryImage f.key f.copies with
    | none => s.joinFail 2
    | some s => s.setJoin { j with rom := 3 }
  | _ =>
    match s.jurySlot with
    | none => s.joinFail 3
    | some k => ((s.juryRecord k).setJoin { j with rom := 4, phase := 4, find := none }).showPhase 4

/-- The steps of the jury mast's ROM that are due, or all that are left. (DESIGN CHOICE, log entry 57) -/
def State.juryRom (s : State) (all : Bool) : State :=
  (List.range 4).foldl (fun s _ =>
    match s.lane.join with
    | none => s
    | some j =>
      match j.find with
      | none => s
      | some f => if j.ended.isNone && (all || decide (j.poweredAt + romAt j.rom * ms ≤ s.now)) then s.romStep j f else s) s

/-- The jury mast is not started: no join is ahead any more. -/
def State.noJoin (s : State) : State := if s.lane.join.isNone then s.showPhase 0 else s

/-- ISOLATION_POWER_CHECK (R112 steps 3 and 4, R113): the lost mast's rails, in percent of nominal, 250 µs after the loss.
`LM_CTRL.SPARE_EN` decides here, once, whether the jury mast is powered: set later it starts no join. (DESIGN CHOICE, log entry 57) (DESIGN CHOICE, log entry 126) -/
def execIsolationPowerCheck (t : Nat) (percent : Nat) (f : JuryFinding) (s : State) : Result :=
  let s := s.advance t
  match s.lane.isolation with
  | none => ok s
  | some i =>
    if s.now < i.decided + 250 * us then ok s
    else
      let s : State := { s with lane := { s.lane with isolation := none } }
      if percent < 10 then
        let s := (s.cutPower i.mast).raise evMastIsolated i.mast.code ((s.now - i.decided) / us)
        if s.spareReady then ok (s.startJoin i.pos i.from' f) else ok s.noJoin
      else
        let s := s.raise evIsolatePowerFail i.mast.code percent
        let s : State := { s with lane := { s.lane with spare := false } }
        ok s.noJoin.showLane

/-! ## Readiness and time limits (R119 step 7, R120, R125, R154) -/

/-- Is a mast's timebase within the band about module time (R153)? -/
def State.inBand (s : State) (m : Mast) : Bool :=
  let x := s.time.tb.get m / 2 ^ 32
  let y := s.moduleTime
  decide (x ≤ y + 100 ∧ y ≤ x + 100)

/-- JOIN_READY (R119 step 7, R154): the jury mast's firmware writes `LM_JOINCTL`; the steps of its ROM lie before it. Every page
written from now on is dirty (R121). -/
def execJoinReady (t : Nat) (value : Word) (s : State) : Result :=
  let s := s.advance t
  let s := if getBits value 31 16 = 0x4A4E ∧ getBits value 0 0 = 1 then s.juryRom true else s
  match s.lane.join with
  | none => ok s
  | some j =>
    if j.phase ≠ 4 ∨ getBits value 31 16 ≠ 0x4A4E ∨ getBits value 0 0 ≠ 1 then ok s
    else if j.onset + 600 * ms < s.now then ok (s.joinFail 4)
    else if !s.inBand .j then ok (s.joinFail 8)
    else
      ok ((s.setJoin { j with phase := 5, ready := true, written := [] }).showPhase 5)

/-- JOIN_READY_TIMEOUT (R125 reason 4). -/
def execJoinReadyTimeout (t : Nat) (s : State) : Result :=
  let s := (s.advance t).juryRom false
  match s.lane.join with
  | none => ok s
  | some j => if j.ended.isNone ∧ !j.ready ∧ j.onset + 600 * ms ≤ s.now then ok (s.joinFail 4) else ok s

/-- JOIN_ENTRY_TIMEOUT (R125 reason 5). -/
def execJoinEntryTimeout (t : Nat) (s : State) : Result :=
  let s := s.advance t
  match s.lane.join with
  | none => ok s
  | some j => if j.ended.isNone ∧ j.onset + 700 * ms + s.aiCycle ≤ s.now then ok (s.joinFail 5) else ok s

/-! ## Checkpoint pages (R121, R122, R125) -/

/-- Pages of a region: those of the map, 16 of block state (R121). -/
def State.ckPages (s : State) (region : Nat) : Nat :=
  if region = 7 then 16 else if region < 7 then s.getF .agreed (fLmCklenPages.plus (4 * region)) else 0

/-- Where a page of a region starts in memory. -/
def State.ckAddr (s : State) (region page : Nat) : Nat :=
  s.getF .agreed (fLmCkbaseBase.plus (4 * region)) * 4096 + page * 4096

/-- The pages of some regions in map order. -/
def State.pagesOf (s : State) (regions : List Nat) : List (Nat × Nat) :=
  regions.flatMap fun r => (List.range (s.ckPages r)).map fun p => (r, p)

/-- Every mapped page in map order, the block state last (R122). -/
def State.ckMap (s : State) : List (Nat × Nat) := s.pagesOf [0, 1, 2, 3, 4, 5, 6, 7]

/-- The pages the checkpoint of a join holds: all of them in RUN; else the lane area, region 5 (R297), and the block state (R126). -/
def State.joinMap (s : State) : List (Nat × Nat) := if s.ctl.mode = .run then s.ckMap else s.pagesOf [5, 7]

/-- The checkpoint digest over page CRCs (R122). -/
def ckDigestOf (pcrcs : List Nat) : Nat := (crc64 (pcrcs.flatMap (natLe 4))).toNat

/-- The digest over the pages the jury mast has assembled; none while one is missing. (DEDUCED, log entry 56) -/
def State.assembled (s : State) (j : Join) : Option Nat :=
  let crcs := s.joinMap.map fun p => (j.pages.find? fun x => x.1 == p.1 && x.2.1 == p.2).map fun x => x.2.2
  if crcs.all Option.isSome then some (ckDigestOf (crcs.map fun c => c.getD 0)) else none

/-- A page as a survivor reads it: its data and its PCRC (R122). The block state's contents have no layout in the manual: its PCRC
is a free value and its data is not shown. -/
def State.ckRead (s : State) (m : Mast) (region page : Nat) : List Byte × Nat :=
  if region = 7 then ([], (Config.blockPcrc page s.free).toNat)
  else
    let data := (s.mast m).mem.readBytes (s.ckAddr region page) 4096
    (data, (crc32c data).toNat)

/-- The checkpoint digest a survivor computes from its own pages (R122). -/
def State.ckDigest (s : State) (m : Mast) : Nat := ckDigestOf (s.joinMap.map fun p => (s.ckRead m p.1 p.2).2)

/-- The end record a survivor sends after a round (R122): KIND 3, or KIND 4 with its checkpoint digest. -/
def State.endRecord (s : State) (j : Join) (m : Mast) (final : Bool) : PageRecord :=
  let data := if final then natLe 8 (s.ckDigest m) ++ List.replicate 4088 0 else List.replicate 4096 0
  { kind := if final then 4 else 3, region := 0, page := 0, cycle := s.app.cycle % 2 ^ 32, round := j.round
    pcrc := (crc32c data).toNat, data := data }

/-- Every survivor ends a round. -/
def State.sendEnds (s : State) (j : Join) (final : Bool) : State :=
  let out := s.lane.endOut.map fun m r => if s.votes m && (s.mast m).alive then some (s.endRecord j m final) else r
  { s with lane := { s.lane with endOut := out }, free := s.free + 1 }

/-- A page is asked for again (R125): at most three times, then the join fails. (DEDUCED, log entry 56) -/
def State.retryPage (s : State) (j : Join) (survivor : Mast) (region page : Nat) : State :=
  let before := match j.requests.find? fun x => x.1 == region && x.2.1 == page with | some x => x.2.2 | none => 0
  if 3 ≤ before then s.joinFail 6
  else
    let rest := j.requests.filter fun x => !(x.1 == region && x.2.1 == page)
    let waiting := j.waiting.filter fun w => !(w.2.region == region && w.2.page == page)
    let s := s.setJoin { j with requests := (region, page, before + 1) :: rest, waiting := waiting }
    s.raise evCkptRetry (region * 65536 + page) survivor.code

/-- The jury mast accepts a page both survivors have sent alike. -/
def State.acceptPage (s : State) (j : Join) (r : PageRecord) : State :=
  let rest := j.pages.filter fun x => !(x.1 == r.region && x.2.1 == r.page)
  let waiting := j.waiting.filter fun w => !(w.2.region == r.region && w.2.page == r.page)
  let round := if j.final then addPage (r.region, r.page) j.roundPages else j.roundPages
  let n := if j.final then round.length else j.finalPages
  let s := s.setJoin { j with pages := (r.region, r.page, r.pcrc) :: rest, waiting := waiting, roundPages := round, finalPages := n }
  if r.region = 7 then s else s.store .j (s.ckAddr r.region r.page) r.data

/-- A page record (KIND 1 or 2) arrives at the jury mast. -/
def State.pageArrives (s : State) (j : Join) (survivor : Mast) (r : PageRecord) : State :=
  if s.ckPages r.region ≤ r.page then s
  else if r.data.length ≠ 4096 ∨ r.pcrc ≠ (crc32c r.data).toNat then s.retryPage j survivor r.region r.page
  else
    match j.waiting.find? fun w => w.1 != survivor && w.2.region == r.region && w.2.page == r.page && w.2.round == r.round with
    | none =>
      let others := j.waiting.filter fun w => !(w.1 == survivor && w.2.region == r.region && w.2.page == r.page)
      s.setJoin { j with waiting := others ++ [(survivor, r)] }
    | some w => if w.2.data = r.data then s.acceptPage j r else s.retryPage j survivor r.region r.page

/-- An end record of a round (KIND 3). (DEDUCED, log entry 56) -/
def State.roundEnds (s : State) (j : Join) (survivor : Mast) : State :=
  let ended := j.bulkEnded.set survivor true
  if s.voters.all ended.get then
    let phase := if j.phase = 5 then 6 else j.phase
    (s.setJoin { j with bulkEnded := Per.all false, phase := phase, round := j.round + 1, requests := [] }).showPhase phase
  else s.setJoin { j with bulkEnded := ended }

/-- An end record of the final round (KIND 4) with the survivor's checkpoint digest. (DEDUCED, log entry 56) -/
def State.finalEnds (s : State) (j : Join) (survivor : Mast) (digest : Nat) : State :=
  let digests := j.digests.set survivor (some digest)
  let j := { j with digests := digests }
  let s := s.setJoin j
  match s.voters.map digests.get with
  | [some x, some y] =>
    if x ≠ y then s.disagree 4 (s.getF .agreed fLmCmtcycCycle)
    else if s.assembled j = some x then s.setJoin { j with matched := true }
    else s.joinFail 6
  | _ => s

/-- Is an end record whole: its PCRC matches its DATA, and a digest is followed by zeros (R122, R125)? -/
def endGood (r : PageRecord) : Bool :=
  r.data.length == 4096 && r.pcrc == (crc32c r.data).toNat && (r.kind == 3 || allZero (r.data.drop 8))

/-- CHECKPOINT_PAGE_RECORD (R122, R125): a record of a survivor arrives at the jury mast; what does not carry MAGIC and zeros in the
reserved bytes is no record. -/
def execCheckpointPageRecord (t : Nat) (survivor : Mast) (r : PageRecord) (s : State) : Result :=
  let s := s.advance t
  match s.lane.join with
  | none => ok s
  | some j =>
    if !s.joining || !s.votes survivor || j.phase < 5 || 7 < j.phase || r.magic != 0x434B5054 || r.reserved != 0 then ok s
    else if (r.kind = 3 ∨ (r.kind = 4 ∧ j.final)) ∧ !endGood r then ok (s.retryPage j survivor r.region r.page)
    else if r.kind = 1 ∨ r.kind = 2 then ok (s.pageArrives j survivor r)
    else if r.kind = 3 then ok (s.roundEnds j survivor)
    else if r.kind = 4 ∧ j.final then ok (s.finalEnds j survivor (fieldAt r.data 0 8))
    else ok s

/-- PAGE_RECORD_REQUEST (R125): a survivor resends a page. -/
def execPageRecordRequest (t : Nat) (survivor : Mast) (region page : Nat) (s : State) : Result :=
  let s := s.advance t
  match s.lane.join with
  | none => ok s
  | some j =>
    if !s.joining || !s.votes survivor || !(s.mast survivor).alive || j.phase < 5 || 7 < j.phase || s.ckPages region ≤ page then ok s
    else
      let x := s.ckRead survivor region page
      let r : PageRecord := { kind := if j.phase = 5 then 1 else 2, region := region, page := page, cycle := s.app.cycle % 2 ^ 32
                              round := j.round, pcrc := x.2, data := x.1 }
      ok { s with lane := { s.lane with pageOut := s.lane.pageOut.set survivor (some r) }, free := s.free + 1 }

/-! ## Action instants of a join (R119 steps 9 to 11, R123, R126) -/

/-- Do the survivors stand at a cycle boundary: held at a cycle end, or no program cycle runs (R126)? -/
def State.atBoundary (s : State) (j : Join) : Bool :=
  if s.ctl.mode = .run then s.voters.all fun m => (j.holding.get m).isSome
  else s.voters.all fun m => (s.app.inCycle.get m).isNone

/-- Release the hold at T2. -/
def State.releaseHold (s : State) : State :=
  let s : State := { s with lane := { s.lane with go := Per.all true } }
  Mast.all.foldl (fun s m => s.putF (.mast m) fLmCycgoGo 1) s

/-- A cycle end is held (R119 step 10). -/
def State.holdAt (s : State) (m : Mast) (cycle : Nat) : State :=
  match s.lane.join with
  | none => s
  | some j =>
    if j.phase ≠ 6 ∨ !s.joining then s
    else
      let s := s.setJoin { j with holding := j.holding.set m (some cycle) }
      let s : State := { s with lane := { s.lane with go := s.lane.go.set m false } }
      s.putF (.mast m) fLmCycgoGo 0

/-- T1: the final round begins, with the pages written since the last one and the end records (R119 step 10, R122). -/
def State.joinBoundary (s : State) (j : Join) : State :=
  let cycle := match s.voters.filterMap j.holding.get with | c :: _ => c | [] => s.app.cycle
  let s := s.setJoin { j with phase := 7, final := true, digests := Per.all none, matched := false, requests := [], waiting := []
                              roundPages := j.written, finalPages := j.written.length, written := [] }
  let s := s.sendEnds j true
  let s : State := { s with lane := { s.lane with go := s.lane.active.map fun _ v => !v } }
  let s := s.voters.foldl (fun s m => s.putF (.mast m) fLmCycgoGo 0) s
  (s.putF .agreed fLmCkcycCycle (cycle % 2 ^ 32)).showPhase 7

/-- Register addresses whose words the jury mast does not take over: module control, lane, triads and memory integrity. -/
def ownBlock (a : Nat) : Bool := decide (a < 0xE0040000)

/-- The jury mast's copies of the per-mast registers of the survivors' blocks (R121, R128). -/
def RegFile.copyMast (f : RegFile) (src dst : Mast) : RegFile :=
  let taken := f.cells.filter fun c => c.1 / 2 ^ 32 == src.code && !ownBlock (c.1 % 2 ^ 32)
  let kept := f.cells.filter fun c => !(c.1 / 2 ^ 32 == dst.code && !ownBlock (c.1 % 2 ^ 32))
  taken.foldl (fun f c => f.set (c.1 % 2 ^ 32 + dst.code * 2 ^ 32) c.2) ⟨kept⟩

/-- The block state passes from one mast to another (R121, R128, R270), with the items held over and the pool buffers they wait in
(R141). -/
def State.copyBlocks (s : State) (src dst : Mast) : State :=
  let s := s.spCopy src dst
  let i := s.intake.masts.get src
  let own := s.intake.masts.get dst
  let mine : IntakeMast := { own with
    staged := i.staged.map fun e => { e with proposed := own.staged.any fun x => x.item.tag == e.item.tag && x.proposed }
    fills := [], fillBytes := 0 }
  let s := i.staged.foldl (fun s e =>
    match e.buffer with
    | some b => s.fabricStore dst (s.bufferAddr src b) e.item.bytes
    | none => s) s
  { s with
    regs := s.regs.copyMast src dst
    queue := s.queue.set dst (s.queue.get src)
    net := { s.net with prpOut := s.net.prpOut.set dst (s.net.prpOut.get src)
                        sc := s.net.sc.map fun c => { c with sent := c.sent.set dst (c.sent.get src) } }
    intake := { s.intake with masts := s.intake.masts.set dst mine }
    field := { s.field with masts := s.field.masts.set dst { s.field.masts.get dst with
      fired := (s.field.masts.get src).fired, clearing := (s.field.masts.get src).clearing } }
    pos := { s.pos with across := s.pos.across.set dst (s.pos.across.get src) }
    time := { s.time with outside := s.time.outside.set dst 0 }
    app := { s.app with
      last := s.app.last.set dst (s.app.last.get src)
      sub := s.app.sub.set dst (s.app.sub.get src)
      inCycle := s.app.inCycle.set dst none
      startedOn := s.app.startedOn.set dst (s.app.startedOn.get src)
      retain := s.app.retain.set dst {} } }

/-- T2: the jury mast enters in the target position (R119 step 11). -/
def State.enterJury (s : State) (j : Join) : State :=
  let elapsed := (s.now - j.onset) / ms
  let l := s.lane
  let l := match j.target with
    | .a => { l with posA := .j }
    | .b => { l with posB := .j }
    | .c => { l with posC := .j }
  let s := match s.voters with | m :: _ => s.copyBlocks m .j | [] => s
  let done : Join := { j with phase := 8, ended := some s.now }
  let s : State := { s with lane := { l with active := l.active.set .j true, spare := false, join := some done
                                             images := l.images.set .j none } }
  let s := (s.setLane .triplex).crossbar j.target (some .j)
  let s := s.normalHandovers.releaseHold
  let c := Copy.agreed
  let s := ((s.putF c fLmJoinElapsed (min 65535 elapsed)).incF c fLmJoinstatJoins 1).putF c fLmJoinstatFinalPages (min 255 j.finalPages)
  (s.showPhase 8).raise evJoinDone j.target.code elapsed

/-- A trailing round begins (R119 step 9): the pages written since the last round, and the end records. -/
def State.trailingRound (s : State) (j : Join) : State :=
  (s.setJoin { j with requests := [], roundPages := j.written, written := [] }).sendEnds j false

/-- The final round did not complete, or held too many pages (R123): the hold ends and a new one is taken, with its pages again. -/
def State.deferJoin (s : State) (j : Join) (pages : Bool) : State :=
  let c := Copy.agreed
  let s := if pages then
      ((s.incF c fLmJoinstatDeferred 1).putF c fLmJoinstatFinalPages (min 255 j.finalPages)).raise evJoinDeferred j.finalPages
        (s.getF c fLmFinalmaxPages)
    else s
  let s := s.setJoin { j with phase := 6, final := false, finalPages := 0, holding := Per.all none, digests := Per.all none
                              matched := false, waiting := [], requests := []
                              written := j.roundPages.foldl (fun l p => addPage p l) j.written, roundPages := [] }
  (s.releaseHold).showPhase 6

/-- What a join's rounds and its end bring at an action instant. -/
def State.roundsAtInstant (s : State) : State :=
  match s.lane.join with
  | none => s
  | some j =>
    if !s.joining then s
    else
      if j.phase = 7 then
        if s.getF .agreed fLmFinalmaxPages < j.finalPages then s.deferJoin j true
        else if j.matched then s.enterJury j
        else s.deferJoin j false
      else if j.phase = 6 then
        if s.atBoundary j then s.joinBoundary j else s.trailingRound j
      else s

/-- A join at an action instant: its time, the steps of the jury mast's ROM, and its rounds. -/
def State.joinAtInstant (s : State) : State :=
  match s.lane.join with
  | none => s
  | some j =>
    if j.ended.isSome then s
    else ((s.putF .agreed fLmJoinElapsed (min 65535 ((s.now - j.onset) / ms))).juryRom false).roundsAtInstant

/-! ## The time band (R152, R153) -/

/-- A mast yields every unit it owns (R153, R117). (DEDUCED, log entry 103) -/
def State.yieldUnits (s : State) (m : Mast) : State :=
  let l := { s.lane with active := s.lane.active.set m false }
  let own := l.ownerPositions (s.getF .agreed fLmOwnprefPref)
  (List.range 8).foldl (fun s u =>
    match (own[u]?).join with
    | some p => if (s.unit u).owner = m then s.handOver u (l.holder p) false else s
    | none => s) s

/-- A mast's strobe is measured `offset` ns from module time (R152): its timebase stands there, with two voting masts the other as
far on the other side of their mean (R151), and all of it is still to be trimmed away. (DEDUCED, log entry 25) -/
def State.placeStrobe (s : State) (m : Mast) (offset : Int) : State :=
  let centre := s.moduleTime
  let at' := fun (tb : Nat) (o : Int) => if ((tb / 2 ^ 32 : Nat) : Int) = centre + o then tb else ((centre + o) * (2 ^ 32 : Nat)).toNat
  let tb := s.time.tb.set m (at' (s.time.tb.get m) offset)
  let tb := match s.votes m, s.voters.filter fun v => v != m with
    | true, [v] => tb.set v (at' (tb.get v) (-offset))
    | _, _ => tb
  { s with time := { s.time with tb := tb, left := s.time.left.set m (-(offset * (2 ^ 32 : Nat))) } }

/-- TIME_BAND_CHECK (R152, R153): a mast's strobe is measured `offset` ns from module time; its lane trim is set to remove that
within 100 µs, at no more than ±100 ppm. (DEDUCED, log entry 25) (DEDUCED, log entry 103) -/
def execTimeBandCheck (t : Nat) (m : Mast) (offset : Int) (s : State) : Result :=
  let s := s.advance t
  if !(s.mast m).alive then ok s
  else
    let c := Copy.mast m
    let s := s.placeStrobe m offset
    let trim := max (-10000) (min 10000 (-(offset * 1000)))
    let shown := max (-32767) (min 32767 offset)
    let s := (s.putF c fTbLaneOfs (unsigned 16 shown)).putF c fTbLaneTrim (unsigned 16 trim)
    let out := decide (offset < -100 ∨ 100 < offset)
    let n := if out then min 2 (s.time.outside.get m + 1) else 0
    let s : State := { s with time := { s.time with outside := s.time.outside.set m n, trim := s.time.trim.set m trim } }
    let flag : Fld := ⟨fTbBandOut.addr, m.code, m.code⟩
    if !s.votes m || n < 2 then ok (if n = 0 then s.putF .agreed flag 0 else s)
    else
      let s := (s.putF .agreed flag 1).incF .agreed fTbBandExcess 1
      let s := s.raise evTimeBand m.code (unsigned 32 offset)
      if s.lane.lane = .triplex then ok ((s.yieldUnits m).requestSilent m evTimeBand)
      else
        match s.lane.inOrder with
        | [_, later] => ok (s.requestSilent later evTimeBand)
        | _ => ok s

end Sys2Proof.Machine
end

