-- ==== Sys2Proof/Machine/Application.lean ====
section
/-!
DEFINITION. The application program: cycles, output images, faults, on-line change, forces and retained banks (R17, R124,
R275 to R297).
-/
namespace Sys2Proof.Machine

/-! ## Symbols, forces and changes (R289 to R294) -/

/-- A symbol-table entry by its index. -/
def AppPart.symbol (a : AppPart) (i : Nat) : Option Symbol := a.symbols.find? fun x => x.index == i

/-- Is the symbol forced? -/
def AppPart.forced (a : AppPart) (i : Nat) : Bool := a.forces.any fun f => f.1 == i

/-- Show the forces in place. -/
def State.showForces (s : State) : State := s.putF .agreed fMcForceCount s.app.forces.length

/-- Why a value cannot be given to a symbol, 0 if it can (statuses of R289). (DEDUCED, log entry 60) -/
def AppPart.valueStatus (a : AppPart) (i : Nat) (v : Int) : Nat :=
  match a.symbol i with
  | none => 2
  | some x => if x.locked then 6 else if v < x.least ∨ x.most < v then 4 else 0

/-- Set a force (R292, R293): the status of R289, 0 when it is set. -/
def State.forceSymbol (s : State) (i : Nat) (v : Int) : State × Nat :=
  let status := match s.app.valueStatus i v with
    | 0 => if !s.app.forced i && decide (256 ≤ s.app.forces.length) then 10 else 0
    | r => r
  if status ≠ 0 then (s.raise evForceRefused i status, status)
  else
    let rest := s.app.forces.filter fun f => f.1 != i
    let s : State := { s with app := { s.app with forces := rest ++ [(i, v)] } }
    let s := (s.incF .agreed fMcForceSets 1).showForces
    (s.raise evForceSet i s.app.forces.length, 0)

/-- A release of one force or of all takes effect (R294). -/
def State.releaseForce (s : State) (symbol : Option Nat) (cause : Nat) : State :=
  let rest := match symbol with
    | some i => s.app.forces.filter fun f => f.1 != i
    | none => []
  if rest.length = s.app.forces.length then s
  else
    let s : State := { s with app := { s.app with forces := rest } }
    s.showForces.raise evForceReleased (symbol.getD 0xFFFF) cause

/-- Releases asked for take effect at the action instant, and START is free again (R294). -/
def State.forcesAtInstant (s : State) : State :=
  let l := s.app.releases
  let s : State := { s with app := { s.app with releases := [] } }
  (l.foldl (fun s r => s.releaseForce r.1 r.2) s).putF .agreed fMcInhibitService 0

/-- The status of one item of a change request (R289). (DEDUCED, log entry 60) -/
def AppPart.changeStatus (a : AppPart) (x : ChangeItem) : Nat :=
  match a.symbol x.index with
  | none => 2
  | some y =>
    if y.locked then 6
    else if y.size ≠ x.size ∨ y.typ ≠ x.typ then 3
    else if x.value < y.least ∨ y.most < x.value then 4
    else if a.forced x.index then 1
    else 0

/-- The status of a whole request and the first symbol concerned (R289). (DEDUCED, log entry 60) -/
def State.requestStatus (s : State) (auth : Bool) (hash : Nat) (l : List ChangeItem) : Nat × Nat :=
  let first := match l with | x :: _ => x.index | [] => 0
  if !auth then (9, first)
  else if !s.inMode [.run, .hold] then (5, first)
  else if hash ≠ fieldAt s.app.hash 0 8 then (7, first)
  else if 8 ≤ s.app.changes.length then (8, first)
  else if 16 < l.length then (3, first)
  else
    match l.find? fun x => s.app.changeStatus x != 0 with
    | some x => (s.app.changeStatus x, x.index)
    | none => (0, first)

/-- Show the pending requests. -/
def State.showChanges (s : State) : State := s.putF .agreed fMcOlcPending s.app.changes.length

/-- A request is refused. -/
def State.refuseChange (s : State) (status symbol : Nat) : State :=
  (s.putF .agreed fMcOlcLast status).raise evOlcRefused status symbol

/-- An agreed change request is checked, and accepted with its apply cycle or refused (R289, R290); answers the status. -/
def State.changeRequest (s : State) (auth : Bool) (hash : Nat) (l : List ChangeItem) : State × Nat :=
  let r := s.requestStatus auth hash l
  if r.1 ≠ 0 then (s.refuseChange r.1 r.2, r.1)
  else
    let req : ChangeReq := ⟨l.map fun x => (x.index, x.value), s.app.cycle + 1⟩
    (({ s with app := { s.app with changes := s.app.changes ++ [req] } }).showChanges, 0)

/-- ONLINE_CHANGE_REQUEST (R289). -/
def execOnlineChangeRequest (t : Nat) (auth : Bool) (hash : Nat) (items : List ChangeItem) (s : State) : Result :=
  let s := s.advance t
  if s.app.desc.isNone then ok s else ok (s.changeRequest auth hash items).1

/-- A pending request comes to its apply cycle (R290, R292): a symbol forced meanwhile refuses it. Answers the pairs to write. -/
def State.applyRequest (s : State) (r : ChangeReq) : State × List (Nat × Int) :=
  match r.pairs.find? fun p => s.app.forced p.1 with
  | some p => (s.refuseChange 1 p.1, [])
  | none =>
    let kept := s.app.values.filter fun v => !(r.pairs.any fun p => p.1 == v.1)
    let s : State := { s with app := { s.app with values := kept ++ r.pairs } }
    let s := (s.putF .agreed fMcOlcLast 0).incF .agreed fMcOlcApplied 1
    (s.raise evOlcApplied r.applyCycle r.pairs.length, r.pairs)

/-- What the start of cycle `n` writes before the program runs, settled once for all masts: due changes, then forces. -/
def State.dueWrites (s : State) (n : Nat) : State × List (Nat × Int) :=
  if s.app.applied.1 = n then (s, s.app.applied.2)
  else
    let due := s.app.changes.filter fun r => decide (r.applyCycle ≤ n)
    let later := s.app.changes.filter fun r => !decide (r.applyCycle ≤ n)
    let s : State := { s with app := { s.app with changes := later } }
    let x := due.foldl (fun (x : State × List (Nat × Int)) r =>
      let y := x.1.applyRequest r
      (y.1, x.2 ++ y.2)) (s.showChanges, [])
    let pairs := x.2 ++ x.1.app.forces
    ({ x.1 with app := { x.1.app with applied := (n, pairs) } }, pairs)

/-- Write values of symbols into a mast's memory. -/
def State.writeSymbols (s : State) (m : Mast) (l : List (Nat × Int)) : State :=
  l.foldl (fun s p =>
    match s.app.symbol p.1 with
    | some x => (s.store m x.addr (natLe x.size (unsigned (8 * x.size) p.2))).markDirty x.addr
    | none => s) s

/-! ## Cycles (R276 to R279) -/

/-- May the next cycle of a mast start (R276)? -/
def State.mayStart (s : State) (m : Mast) : Bool :=
  let newer := match s.app.startedOn.get m, s.app.released with
    | _, none => false
    | none, some _ => true
    | some a, some b => decide (a < b)
  s.ctl.mode == .run && s.app.run == .running && s.votes m && (s.mast m).alive && !s.app.halted.get m
    && (s.app.inCycle.get m).isNone && newer && s.lane.go.get m

/-- Is a mast the first voting one, whose cycle the module's registers show? -/
def State.leads (s : State) (m : Mast) : Bool := s.lane.inOrder.head? == some m

/-- The safe containers of the input image are checked in the cycle that takes it (R320). -/
def State.checkContainers (s : State) : State :=
  s.net.pd.foldl (fun s e =>
    match e.data with
    | some d => if e.dir == 2 && bitOf e.flags 0 then s.scReceive d s.time.lastAiTime else s
    | none => s) s

/-- APP_CYCLE_START (R276, R277, R279, R290, R292): a mast starts its next cycle on the newest release. -/
def execAppCycleStart (t : Nat) (m : Mast) (s : State) : Result :=
  let s := s.advance t
  if !s.mayStart m then ok s
  else
    let n := s.app.last.get m + 1
    let waited := match s.app.endedAt.get m with | some e => decide (e < s.app.releasedAt) | none => false
    let s := if s.leads m && waited then s.incF .agreed fMcCycwaitRelease 1 else s
    let first := decide (s.app.cycle < n)
    let s : State := { s with app := { s.app with
      cycle := max s.app.cycle n
      last := s.app.last.set m n
      inCycle := s.app.inCycle.set m (some n)
      cycleFrom := s.app.cycleFrom.set m s.now
      startedOn := s.app.startedOn.set m s.app.released
      copied := s.app.image } }
    let s := (s.putF .agreed fMcCycnumLoNum (s.app.cycle % 2 ^ 32)).putF .agreed fMcCycnumHiNum (s.app.cycle / 2 ^ 32)
    let s := if first then s.checkContainers else s
    let x := s.dueWrites n
    ok (x.1.writeSymbols m x.2)

/-- The overrun limit in nanoseconds (R275, R286). -/
def State.cycleLimit (s : State) : Nat := s.getF .agreed fMcCyclimLimitMs * ms

/-- A mast's program is found overrunning (R286): it presents no image. -/
def State.overrun (s : State) (m : Mast) (took : Nat) : State :=
  { s with app := { s.app with overran := s.app.overran.set m (some took), halted := s.app.halted.set m true } }

/-- The late mast of R109 presents an equal image of the committed cycle. -/
def State.lateEqual (s : State) (m : Mast) (n digest : Nat) : Bool := s.lane.late == some (m, n, digest)

/-- OUTPUT_IMAGE_SUBMIT (R17, R108, R278, R319): a mast submits the image of its cycle; `done` is the local time at which the program
completed. -/
def execOutputImageSubmit (t : Nat) (m : Mast) (items : List Item) (done : Nat) (s : State) : Result :=
  let s := s.advance t
  match s.app.inCycle.get m with
  | none => ok s
  | some n =>
    if !s.inMode [.run, .hold] || !s.votes m || !(s.mast m).alive || s.app.halted.get m || s.app.sub.get m == n
        || (s.lane.images.get m).isSome then ok s
    else
      let took := done - s.app.cycleFrom.get m
      if s.cycleLimit ≤ took then ok (s.overrun m took)
      else
        let s := if s.leads m then
            let c := Copy.agreed
            let s := (s.putF c fMcCyctimeLast (min 65535 (took / 10000))).maxF c fMcCyctimeMax (took / 10000)
            if done < s.lane.committedAt then s.incF c fMcCycwaitCommit 1 else s
          else s
        let (items, s) := s.scSend m items
        let digest := itemsDigest items
        let s : State := { s with app := { s.app with sub := s.app.sub.set m n, took := s.app.took.set m took } }
        if s.lateEqual m n digest then ok { s with lane := { s.lane with late := none } }
        else
          let x : Submitted := ⟨n, digest, items, s.moduleTime, 0⟩
          ok { s with lane := { s.lane with images := s.lane.images.set m (some x) } }

/-- CYCLE_LIMIT_EXPIRY (R286): a mast's cycle time reaches the limit. (DEDUCED, log entry 62) -/
def execCycleLimitExpiry (t : Nat) (m : Mast) (s : State) : Result :=
  let s := s.advance t
  match s.app.inCycle.get m with
  | none => ok s
  | some n =>
    if s.app.halted.get m || s.app.sub.get m == n || decide (s.now < s.app.cycleFrom.get m + s.cycleLimit) then ok s
    else ok (s.overrun m s.cycleLimit)

/-- APPLICATION_EXCEPTION (R287): a Triad P exception halts the program on a mast. -/
def execApplicationException (t : Nat) (m : Mast) (code addr : Nat) (s : State) : Result :=
  let s := s.advance t
  match s.app.inCycle.get m with
  | none => ok s
  | some n =>
    if s.app.halted.get m || !s.triadRuns m then ok s
    else ok { s with app := { s.app with
      faults := s.app.faults.set m (some (n, code, addr)), halted := s.app.halted.set m true } }

/-- How many masts must find an overrun or a fault (R286, R287). (DEDUCED, log entry 62) -/
def State.faultQuorum (s : State) : Nat := if s.lane.lane = .triplex then 2 else 1

/-- The fault that enough masts report in one cycle: the masts, and the first one's code and address. (DEDUCED, log entry 62) -/
def State.agreedFault (s : State) : Option (List Mast × Nat × Nat) :=
  s.lane.inOrder.findSome? fun m =>
    match s.app.faults.get m with
    | none => none
    | some (n, code, addr) =>
      let same := s.voters.filter fun x => match s.app.faults.get x with | some f => f.1 == n | none => false
      if s.faultQuorum ≤ same.length then some (same, code, addr) else none

/-- Overruns and faults at an action instant (R286, R287). -/
def State.appAtInstant (s : State) : State :=
  if !s.inMode [.run, .hold] then s
  else
    let c := Copy.agreed
    match s.agreedFault with
    | some (l, code, addr) =>
      let s := ((s.putF c fMcAppfaultMasts (maskOf l)).putF c fMcAppfaultCode code).putF c fMcAppfaultpcAddr addr
      ((s.raise evAppFault code addr).setRun .faulted).enterStop 6
    | none =>
      let s : State := { s with app := { s.app with faults := Per.all none } }
      let late := s.lane.inOrder.filterMap fun m => s.app.overran.get m
      match late with
      | took :: _ =>
        if s.faultQuorum ≤ late.length then
          (s.raise evCycleOverrun (s.app.cycle % 2 ^ 32) (took / 10000)).enterStop 3
        else s
      | [] => s

/-! ## Retained banks (R295, R296) -/

/-- Where a bank starts. -/
def retainAddr (bank : Nat) : Nat := 0x20000000 + bank * 0x78000

/-- The SEQ of a bank if it is valid (R295). -/
def Memory.retainSeq (mem : Memory) (bank : Nat) : Option Nat :=
  let h := mem.readBytes (retainAddr bank) 0x50
  let len := fieldAt h 8 4
  if fieldAt h 0 4 = 0x52544E52 ∧ fieldAt h 0x4C 4 = (crc32c (h.take 0x4C)).toNat ∧ len ≤ 491440
      ∧ fieldAt h 0x40 8 = (crc64 (mem.readBytes (retainAddr bank + 0x50) len)).toNat then some (fieldAt h 4 4)
  else none

/-- The bank that holds the retained copy (R295). -/
def Memory.retained (mem : Memory) : Option Nat :=
  match mem.retainSeq 0, mem.retainSeq 1 with
  | some a, some b => some (if a < b then 1 else 0)
  | some _, none => some 0
  | none, some _ => some 1
  | none, none => none

/-- Show a mast's retained banks. -/
def State.showRetain (s : State) (m : Mast) : State :=
  let r := (s.mast m).mem.retained
  let c := Copy.mast m
  let s := (s.putF c fMcRetainValid (b2n r.isSome)).putF c fMcRetainBank (r.getD 0)
  s.putF c fMcRetainBusy (b2n (s.app.retain.get m).writing.isSome)

/-- Write a bank: data first, header last. (DEDUCED, log entry 61) -/
def Memory.writeBank (mem : Memory) (bank cycle : Nat) (hash data : List Byte) : Memory :=
  let seq := match mem.retained with
    | some k => (mem.retainSeq k).getD 0 + 1
    | none => 1
  let body := natLe 4 0x52544E52 ++ natLe 4 seq ++ natLe 4 data.length ++ natLe 4 cycle ++ hash.take 48
    ++ List.replicate (48 - hash.length) 0 ++ natLe 8 (crc64 data).toNat ++ natLe 4 0
  (mem.writeBytes (retainAddr bank + 0x50) data).writeBytes (retainAddr bank) (body ++ natLe 4 (crc32c body).toNat)

/-- The retained shadow of a mast (R296, R297: region 1). -/
def State.shadow (s : State) (m : Mast) (d : AppDescriptor) : List Byte :=
  match d.regions[1]? with
  | some r => (s.mast m).mem.readBytes r.1 d.retainLen
  | none => []

/-- A retained write starts at a cycle end at which the shadow has changed (R296). -/
def State.startRetain (s : State) (m : Mast) (cycle : Nat) : State :=
  match s.app.desc with
  | none => s
  | some d =>
    let r := s.app.retain.get m
    if d.retainLen = 0 ∨ r.writing.isSome then s
    else
      let data := s.shadow m d
      let digest := (crc64 data).toNat
      if r.written = some digest then s
      else
        let bank := match (s.mast m).mem.retained with | some k => 1 - k | none => 0
        let x : RetainMast := { r with writing := some (bank, false, cycle % 2 ^ 32, data) }
        ({ s with app := { s.app with retain := s.app.retain.set m x } }).putF (.mast m) fMcRetainBusy 1

/-- RETAIN_WRITE_DONE (R296): the bank write completes and verifies, or fails and is repeated once. (DEDUCED, log entry 61) -/
def execRetainWriteDone (t : Nat) (m : Mast) (good : Bool) (s : State) : Result :=
  let s := s.advance t
  let r := s.app.retain.get m
  let c := Copy.mast m
  match r.writing with
  | none => ok s
  | some (bank, again, cycle, data) =>
    if !(s.mast m).powered then ok s
    else if good then
      let s := s.setMem m ((s.mast m).mem.writeBank bank cycle s.app.hash data)
      let x : RetainMast := { writing := none, written := some (crc64 data).toNat }
      let s : State := { s with app := { s.app with retain := s.app.retain.set m x } }
      ok (((s.incF c fMcRetainWrites 1).putF c fMcRetainFailed 0).showRetain m)
    else
      let s := s.setMem m ((s.mast m).mem.writeBytes (retainAddr bank + 0x50) data)
      let s := s.raise evRetainWriteFail bank m.code
      let x : RetainMast := { r with writing := if again then none else some (bank, true, cycle, data) }
      let s : State := { s with app := { s.app with retain := s.app.retain.set m x } }
      ok (if again then (s.putF c fMcRetainFailed 1).showRetain m else s)

/-! ## Cycle ends (R123, R124, R288) -/

/-- The program is halted for HOLD once no cycle is in progress (R288). -/
def State.settleHold (s : State) : State :=
  if s.app.halting && s.voters.all (fun m => (s.app.inCycle.get m).isNone) then
    ({ s with app := { s.app with halting := false } }).setRun .held
  else s

/-- CYCLE_END_MARK (R124, R119 step 10, R296): Triad P writes `LM_CYCEND`. -/
def execCycleEndMark (t : Nat) (m : Mast) (cycle : Nat) (s : State) : Result :=
  let s := s.advance t
  match s.app.inCycle.get m with
  | none => ok s
  | some n =>
    if !s.votes m || !(s.mast m).alive || s.app.sub.get m != n || n % 2 ^ 32 != cycle % 2 ^ 32 then ok s
    else
      let s : State := { s with
        app := { s.app with inCycle := s.app.inCycle.set m none, endedAt := s.app.endedAt.set m (some s.now) }
        lane := { s.lane with cycEnd := s.lane.cycEnd.set m (some n) } }
      let s := if s.leads m then
          let s := s.maxF .agreed fLmCkstatDirtyMax s.lane.dirtyNow.length
          { s with lane := { s.lane with dirtyNow := [] } }
        else s
      ok ((s.startRetain m n).holdAt m n).settleHold

end Sys2Proof.Machine
end

