-- ==== Sys2Proof/Machine/Writes.lean ====
section
/-!
DEFINITION. What a written word does to a register by the types of its fields (R9, R446).
-/
namespace Sys2Proof.Machine

/-- Does software set the field's value? -/
def FieldType.holds (t : FieldType) : Bool := t == .rw || t == .rwl

/-- Does a written word keep every writable field within its range (R446)? -/
def RegRow.inRange (r : RegRow) (w : Word) : Bool :=
  r.fields.all fun f =>
    !(f.ty.holds || f.ty == .wo) || (decide (f.least ≤ getBits w f.hi f.lo) && decide (getBits w f.hi f.lo ≤ f.most))

/-- Take over the fields of the given types from a written word. -/
def RegRow.take (r : RegRow) (types : List FieldType) (old w : Word) : Word :=
  r.fields.foldl (fun x f => if types.contains f.ty then setBits x f.hi f.lo (getBits w f.hi f.lo) else x) old

/-- Clear the bits of W1C fields that are written as 1, and set those of RWS fields (R9). -/
def RegRow.bitwise (r : RegRow) (old w : Word) : Word :=
  r.fields.foldl (fun x f =>
    match f.ty with
    | .w1c => setBits x f.hi f.lo (BitVec.ofNat 32 (getBits x f.hi f.lo) &&& ~~~(BitVec.ofNat 32 (getBits w f.hi f.lo))).toNat
    | .rws => setBits x f.hi f.lo (BitVec.ofNat 32 (getBits x f.hi f.lo) ||| BitVec.ofNat 32 (getBits w f.hi f.lo)).toNat
    | _ => x) old

/-- The copies of a register that a value for the whole module goes to. (DEDUCED, log entry 9) -/
def State.copiesOf (s : State) (r : RegRow) : List Copy :=
  match r.scope with
  | .agreed => [.agreed]
  | .perMast => s.voters.map .mast
  | .perTriad => s.voters.flatMap fun m => [.triad m .p, .triad m .c]

/-- The firmware sets a register's software fields in every copy. (DESIGN CHOICE, log entry 8) -/
def State.loadWord (s : State) (addr : Nat) (w : Word) : State :=
  match findReg addr with
  | none => s
  | some r =>
    if r.inRange w then
      (s.copiesOf r).foldl (fun s c => s.setReg c addr (r.take [.rw, .rwl] (s.reg c addr) w)) s
    else s

end Sys2Proof.Machine
end

