-- ==== Sys2Proof/Machine/Boot.lean ====
section
/-!
DEFINITION. The start of the module: what module reset and power-on leave, and the steps of BOOT (R27, R29 to R36, R48, R52, R58,
R65, R69, R392, R404, R405).

The steps up to step 9 are worked out when the start is commanded; each one's events carry the time at which the manual makes
the step.
-/
namespace Sys2Proof.Machine

/-! ## What a reset leaves -/

/-- A mast without power: MRAM, flash and temperature remain. (DEDUCED, log entry 70) -/
def MastState.cold (x : MastState) : MastState := { mem := x.mem.clearSram.clearDram, dieTemp := x.dieTemp }

/-- The machine as a reset leaves it before anything starts: what is held without power, the supply and the pushbutton
remain. -/
def State.bare (s : State) : State :=
  let z : State := State.reset
  let masts := s.masts.map fun _ x => x.cold
  let upd : UpdatePart := { keys := s.upd.keys, revoked := s.upd.revoked, serial := s.upd.serial, otpRead := s.upd.otpRead }
  let supply : SupplyPart := { s.supply with checked := false, tach1 := none, tach2 := none }
  let panel : PanelPart := { closed := s.panel.closed, opened := s.panel.opened }
  let app : AppPart := { started := s.app.started }
  { z with now := s.now, pending := s.pending, free := s.free, masts := masts, upd := upd, supply := supply, panel := panel, app := app }

/-- Show the hold-up store (`MC_HOLDUP`). -/
def State.showHoldup (s : State) : State :=
  (s.putF .agreed fMcHoldupReady (b2n s.supply.full)).putF .agreed fMcHoldupStore (min 65535 (s.supply.store / 10))

/-- Registers that module reset leaves as they are (R47, R9, R442). (DEDUCED, log entry 70) -/
def keptThroughReset : List Fld :=
  [fMcRstcauseStuckSeen, fMcButtonIgnored, fMcButtonPressed, fLmJoinstatJoins]

/-- Do something as it stands `k` milliseconds after the release of reset, or as much later as R30 lets that step come. -/
def State.during (s : State) (k : Nat) (f : State → State) : State :=
  let now := s.now
  let tb := s.time.tb
  let ahead := tb.map fun m v => if (s.masts.get m).powered then (s.ctl.stepAt k - s.ctl.bootFrom) * 2 ^ 32 else v
  let s : State := { s with now := s.ctl.stepAt k, time := { s.time with tb := ahead } }
  let s := f s
  { s with now := now, time := { s.time with tb := tb } }

/-! ## Steps 1 to 3: power, silence records, self-tests -/

/-- Converters of A, B and C and the field engine start (steps 1 and 2). (DEDUCED, log entry 70) -/
def State.bootPower (s : State) : State :=
  let s : State := { s with
    ctl := { s.ctl with on := true, mode := .boot, prev := .boot, bootFrom := s.now, since := s.now }
    field := { s.field with powered := true } }
  let s := [Mast.a, .b, .c].foldl State.powerMast s
  s.showLane.showHoldup

/-- A mast's ROM tests its memory checkers (R386). (DESIGN CHOICE, log entry 65) -/
def State.bootCheckers (s : State) (checkers : Per Nat) (m : Mast) : State :=
  let bad := checkers.get m % 32
  let s := (s.putF (.mast m) fMiSelftestPass (31 - bad)).putF (.mast m) fMiStatSelftestOk (b2n (bad == 0))
  (List.range 5).foldl (fun s k =>
    if bitOf bad k then { s.raiseM m evMiSelftestFail k (Config.freeValue s.free).toNat with free := s.free + 1 } else s) s

/-- Does a mast pass step 3 of R29? -/
def bootPasses (env : BootEnv) (m : Mast) : Bool := env.selftest.get m && env.checkers.get m % 32 == 0

/-- A mast that fails a start step, or is in a minority, is isolated (R30); its rails are checked 250 µs later. (DEDUCED, log entry 66) -/
def State.bootIsolate (s : State) (m : Mast) : State :=
  match s.lane.posOf m with
  | none => s
  | some p =>
    let iso : Isolation := ⟨m, p, s.moduleTime, s.now, s.now⟩
    let s : State := { s with lane := { s.lane with
      active := s.lane.active.set m false, isolated := s.lane.isolated.set m true, isolation := some iso } }
    let s := s.setMast m { s.mast m with isolated := true }
    (s.setLane .duplex).crossbar p none

/-- One of A, B and C passes: the others are isolated and powered off, and only then the jury mast starts with it in the first
failed mast's position (R20, R30). (DEDUCED, log entry 63) -/
def State.bootPair (s : State) (m : Mast) (env : BootEnv) : State :=
  let lost := [Mast.a, .b, .c].filter fun x => x != m
  let s := lost.foldl (fun s x => (s.setMast x { s.mast x with isolated := true }).cutPower x) s
  let isolated := lost.foldl (fun (x : Per Bool) k => x.set k true) (Per.all false)
  let s : State := { s with lane := { s.lane with active := (Per.all false).set m true, isolated := isolated } }
  let s := ((s.powerMast .j).bootSilence .j).bootCheckers env.checkers .j
  if !bootPasses env .j then s.changeMode .safe
  else
    let l := s.lane
    let l := match lost with
      | .a :: _ => { l with posA := .j }
      | .b :: _ => { l with posB := .j }
      | _ => { l with posC := .j }
    let active := ((Per.all false).set m true).set .j true
    let s : State := { s with lane := { l with active := active, spare := false } }
    let s := [LanePos.a, .b, .c].foldl (fun s p =>
      s.crossbar p (if s.lane.active.get (s.lane.holder p) then some (s.lane.holder p) else none)) s
    s.setLane .duplex

/-- The self-tests of step 3 and what they decide (R30). (DESIGN CHOICE, log entry 18) (DEDUCED, log entry 63) -/
def State.bootSelftests (s : State) (env : BootEnv) : State :=
  let s := [Mast.a, .b, .c].foldl (fun s m => s.bootCheckers env.checkers m) s
  match [Mast.a, .b, .c].filter (bootPasses env) with
  | [_, _, _] => s
  | [x, y] =>
    match [Mast.a, .b, .c].filter fun m => m != x && m != y with
    | [z] => s.bootIsolate z
    | _ => s
  | [x] => s.bootPair x env
  | _ => s.changeMode .safe

/-! ## Step 5: boot records and the firmware image (R30, R392) -/

/-- Are two records alike but for their sequence numbers? (DEDUCED, log entry 64) -/
def BootRecord.same (x y : BootRecord) : Bool := { x with seq := 0 } == { y with seq := 0 }

/-- A mast's newer valid record. (DEDUCED, log entry 64) -/
def State.heldRecord (s : State) (m : Mast) : Option BootRecord := (s.mast m).mem.record.map fun r => r.2

/-- Does a mast hold a record like another's? -/
def State.holdsRecord (s : State) (r : BootRecord) (m : Mast) : Bool :=
  match s.heldRecord m with
  | some x => x.same r
  | none => false

/-- The record that at least two masts hold (R392). (DEDUCED, log entry 64) -/
def State.adoptedRecord (s : State) : Option BootRecord :=
  (s.voters.filterMap s.heldRecord).find? fun r => decide (2 ≤ (s.voters.filter (s.holdsRecord r)).length)

/-- A TRIAL record at a start (R392): a start is used up, or the other slot is taken. -/
def BootRecord.start (r : BootRecord) : BootRecord :=
  if !r.trial then r
  else if 1 ≤ r.tries then { r with tries := r.tries - 1 }
  else { r with active := 1 - r.active, trial := false, reject := withBit r.reject r.active true }

/-- The boot records at the start of step 5. -/
def State.bootRecords (s : State) : State :=
  let s := match s.adoptedRecord with
    | some r =>
      let others := s.voters.filter fun m => !s.holdsRecord r m
      s.changeRecord others fun _ => r
    | none => s
  let trial := s.voters.filter fun m => (s.recordOf m).trial
  let ends := trial.filter fun m => (s.recordOf m).tries == 0
  let s := match ends with
    | m :: _ => s.raiseBy (maskOf ends) evUpFallback (s.recordOf m).active 2
    | [] => s
  (s.changeRecord trial BootRecord.start).showRecord

/-- The masts that hold the same valid image in the slot each would start. -/
def State.sameImage (s : State) (kind : Nat) (slotOf : Mast → Nat) : List Mast :=
  let hash := fun (m : Mast) => s.regionHash m (slotOf m) kind
  match s.voters.find? fun m => (hash m).isSome && decide (2 ≤ (s.voters.filter fun x => hash x == hash m).length) with
  | some m => s.voters.filter fun x => hash x == hash m
  | none => []

/-- Where three masts vote, the one outside the agreeing pair is isolated (R30). (DEDUCED, log entry 66) -/
def State.bootMinority (s : State) (agreed : List Mast) : State :=
  match s.voters.filter fun m => !agreed.contains m with
  | [m] => if agreed.length = 2 then s.bootIsolate m else s
  | _ => s

/-- The firmware image is verified and its digests compared; the other slot is tried; else RECOVERY. (DESIGN CHOICE, log entry 18) -/
def State.bootFirmware (s : State) : State :=
  let active := fun (m : Mast) => (s.recordOf m).active
  let other := fun (m : Mast) => 1 - (s.recordOf m).active
  match s.sameImage 1 active, s.sameImage 1 other with
  | m :: l, _ => (s.putF .agreed fUpStatActive (active m)).bootMinority (m :: l)
  | [], m :: l =>
    let s : State := { s with ctl := { s.ctl with late := 500 * ms } }
    ((s.raise evBootFallback (other m) (active m)).putF .agreed fUpStatActive (other m)).bootMinority (m :: l)
  | [], [] => s.enterRecovery

/-! ## Step 4: the slot key (R51, R52, R58) -/

/-- Set inhibits. -/
def State.inhibit (s : State) (f : Fld) : State := s.putF .agreed f 1

/-- The checks of the accepted image and what they leave in the slot-key registers (R58). -/
def State.bootFormat (s : State) (r : KeyRead) (pins : Nat) : State :=
  let img := s.key.image
  let fault := checkKey (if img.length < 32 then keyHeader r else img)
  let known := match fault with | some f => decide (13 ≤ f.reason) | none => true
  let s := if known then (keyIgnored img).foldl (fun s e => s.raise evSlotkeySectionIgnored e.typ e.length) s else s
  match fault with
  | some f =>
    let s := (s.putF .agreed fSlKeystatReason f.reason).inhibit fMcInhibitSlotkey
    if f.reason = 7 ∨ f.reason = 13 then s.raise evSlotkeyCrc f.typ f.crc else s.raise evSlotkeyFormat f.typ f.reason
  | none =>
    let slot := keySlotId img
    let s := (s.putF .agreed fSlKeystatFormatOk 1).putF .agreed fSlSlotidImage slot
    if slot = pins then s.putF .agreed fSlKeystatIdentityOk 1
    else ((s.putF .agreed fSlKeystatReason 15).inhibit fMcInhibitSlotkey).raise evSlotkeyIdentity pins slot

/-- The agreed image is taken: registers and SRAM copies. -/
def State.acceptKey (s : State) (r : KeyRead) (agreed : List Mast) : State :=
  let img := keyBytes r
  let digest := keyDigest r.sealWord img
  let s := s.putF .agreed fSlKeystatAgree (maskOf agreed)
  let s := (s.putF .agreed fSlImglenTotalLen (fieldAt (keyHeader r) 8 4)).putF .agreed fSlCfgverVersion (fieldAt (keyHeader r) 0x10 4)
  let s := (List.range 12).foldl (fun s k => s.putF .agreed (fSlDigestWord.plus (4 * k)) (fieldAt digest (4 * k) 4)) s
  let s : State := { s with key := { s.key with image := img } }
  let s := s.voters.foldl (fun s m => s.placeImage m img) s
  s.raise evSlotkeyRead (maskOf agreed) (fieldAt (keyHeader r) 8 4)

/-- The reads of the slot key and their comparison (R52, R64). Where no two reads agree, the switch value shown and the word the
polls are held against are those of the first mast that read an answer. (DEDUCED, log entry 66) (DEDUCED, log entry 67) (DESIGN CHOICE, log entry 118) -/
def State.bootKey (s : State) (env : BootEnv) : State :=
  let v := s.voters
  let found := v.filter fun m => (env.keys.get m).answered
  let agreed := keyAgreed env.keys v
  let shown := match agreed ++ found ++ v with | m :: _ => env.keys.get m | [] => ⟨false, [], []⟩
  let s := (s.putF .agreed fSlKeystatPresent (b2n (decide (2 ≤ found.length)))).putF .agreed fSlSlotidPins (env.pins % 32)
  let s := s.putF .agreed fSlSealswValue (sealValue shown.sealWord)
  let s : State := { s with key := { s.key with sealWord := sealBytes shown.sealWord, lastPoll := sealBytes shown.sealWord } }
  let s := v.foldl (fun s m =>
    let w := (env.keys.get m).sealWord
    if sealFrame w ≠ 0xA5 then s.raise evSealRead (sealFrame w) m.code else s) s
  if keyAbsent env.keys v then
    ((s.raise evSlotkeyAbsent (maskOf v) 0).inhibit fMcInhibitSlotkey).inhibit fMcInhibitSeal
  else if agreed = [] then (s.raise evSlotkeyDigest 0 0).inhibit fMcInhibitSlotkey
  else
    let s := if agreed.length = v.length then s else (s.raise evSlotkeyDigest (maskOf agreed) 0).bootMinority agreed
    s.acceptKey shown agreed

/-- All checks of R58 have passed: sections may be loaded. -/
def State.slotOk (s : State) : Bool := s.getF .agreed fSlKeystatFormatOk == 1 && s.getF .agreed fSlKeystatIdentityOk == 1

/-! ## Step 7: settings and the application (R275, R404, R405) -/

/-- A range of one mast's memory is copied from another's. -/
def Memory.takeRange (m src : Memory) (a n : Nat) : Memory :=
  let inside := fun (k : Nat) => decide (a ≤ k) && decide (k < a + n)
  let kept : Memory := { m with cells := m.cells.filter fun c => !inside c.1 }
  kept.putCells (src.cells.filter fun c => inside c.1)

/-- Write a store image into the older bank of a mast. -/
def Memory.writeStore (m : Memory) (b : List Byte) : Memory :=
  let a := bankAddr m.olderBank
  (m.erase a 0x100000).writeBytes a (b.take 0x100000)

/-- The firmware takes its settings. (DESIGN CHOICE, log entry 69) -/
def State.bootSettings (s : State) (f : SettingsFinding) : State :=
  match s.voters with
  | [] => s
  | m :: _ =>
    let mem := (s.mast m).mem
    let image := leNat (mem.readBytes (regionBase s.activeSlot 1 + 0x10) 2)
    let found := mem.newestSchema
    let s := (s.putF .agreed fUpSchemaImage image).putF .agreed fUpSchemaFound found
    let own := [mem.bank 0, mem.bank 1].any fun b => match b with | some x => x.2 == image | none => false
    let s := if own then s
      else
        let s := (s.putF .agreed fUpSetstatMigrated (min 65535 f.carried.1)).putF .agreed fUpSetstatDefaulted (min 65535 f.carried.2)
        let s := s.voters.foldl (fun s x => s.setMem x ((s.mast x).mem.writeStore f.store)) s
        f.failed.foldl (fun s i => s.raise evUpMigrateFail i 0) (s.raise evUpMigrated f.carried.1 f.carried.2)
    let s := match f.repaired with
      | none => s
      | some x =>
        match s.voters.filter fun y => y != x with
        | y :: _ => (s.setMem x ((s.mast x).mem.takeRange (s.mast y).mem (bankAddr 0) 0x200000)).raise evUpSettingsRepaired x.code 0
        | [] => s
    let s := if f.reset then
        let s := s.voters.foldl (fun s x => s.setMem x ((s.mast x).mem.writeStore f.store)) s
        s.raise evUpSettingsReset found image
      else s
    f.words.foldl (fun s w => s.loadWord w.1 (BitVec.ofNat 32 w.2)) s

/-- The checks of the application descriptor (R275, R121), in the order of its offsets. (DEDUCED, log entry 104) -/
def checkDescriptor (d : List Byte) : Finding :=
  let base := fun (r : Nat) => fieldAt d (0x20 + 8 * r) 4
  let pages := fun (r : Nat) => fieldAt d (0x24 + 8 * r) 4
  let total := fun (r : Nat) => ((List.range (r + 1)).map pages).sum
  let meets := fun (r : Nat) => (List.range r).any fun q => rangesMeet (base r) (pages r * 4096) (base q) (pages q * 4096)
  firstBad d (badField (fieldAt d 0 4 != 0x41505044) 0 4 ++ badField (fieldAt d 4 2 != 1) 4 2 ++ badRange d 6 2 1 1024
    ++ badRange d 8 2 5 100 ++ badRange d 0xA 2 0 255 ++ badRange d 0xC 4 21512 262144 ++ badRange d 0x10 4 0 491440
    ++ badZero d 0x1A 2 ++ badZero d 0x1C 4
    ++ ((List.range 7).flatMap fun r =>
      if pages r = 0 then []
      else badField (!regionAllowed (base r) (pages r) || meets r) (0x20 + 8 * r) 4
        ++ badField (decide (1008 < total r)) (0x24 + 8 * r) 4)
    ++ badZero d 0x58 8)

/-- A checked descriptor. -/
def parseDescriptor (d : List Byte) : AppDescriptor :=
  { nFb := fieldAt d 6 2, limitMs := fieldAt d 8 2, nStations := fieldAt d 0xA 2, inLen := fieldAt d 0xC 4
    retainLen := fieldAt d 0x10 4
    regions := (List.range 7).map fun r => (fieldAt d (0x20 + 8 * r) 4, fieldAt d (0x24 + 8 * r) 4) }

/-- The firmware takes a verified application with its checked descriptor. -/
def State.takeApp (s : State) (d : AppDescriptor) (env : BootEnv) : State :=
  let c := Copy.agreed
  let s := d.regions.zipIdx.foldl (fun s r =>
    (s.putF c (fLmCkbaseBase.plus (4 * r.2)) (r.1.1 / 4096)).putF c (fLmCklenPages.plus (4 * r.2)) r.1.2) s
  let s := s.putF c fLmCkstatTotal (16 + (d.regions.map fun r => r.2).sum)
  let s := (s.putF c fMcAppstatFbs d.nFb).putF c fMcCyclimLimitMs d.limitMs
  let stations := (List.range d.nStations).map fun i => ({ index := i + 1 } : Station)
  let s : State := { s with app := { s.app with
    desc := some d, symbols := env.symbols, initial := env.initial, statics := env.statics, constants := env.constants, stations := stations } }
  (s.putF c fMcStationsConfigured d.nStations).setRun .stopped

/-- The application image is verified and its descriptor checked (step 7 of R29). (DEDUCED, log entry 104) -/
def State.bootApplication (s : State) (env : BootEnv) : State :=
  let slot := s.activeSlot
  match s.sameImage 2 fun _ => slot with
  | [] => s.inhibit fMcInhibitNoApp
  | m :: l =>
    let s := s.bootMinority (m :: l)
    let hash := (s.regionHash m slot 2).getD []
    let a := regionBase slot 2
    let d := (s.mast m).mem.readBytes (a + 0x10000) 0x60
    let s := (List.range 12).foldl (fun s k => s.putF .agreed (fUpApphashWord.plus (4 * k)) (fieldAt hash (4 * k) 4)) s
    let s : State := { s with app := { s.app with hash := hash, version := s.regionVersion m slot 2 } }
    match checkDescriptor d with
    | some x => (s.raise evAppDescriptor x.1 x.2).inhibit fMcInhibitNoApp
    | none => s.takeApp (parseDescriptor d) env

/-- The OTP contents, read once, and what `UP_` shows of the images. -/
def State.bootOtp (s : State) (env : BootEnv) : State :=
  let s : State := if s.upd.otpRead then s
    else { s with upd := { s.upd with keys := env.otpKeys.take 6 ++ List.replicate (6 - env.otpKeys.length) [],
                                      revoked := env.revoked % 64, serial := env.serial % 2 ^ 64, otpRead := true } }
  let s := (s.putF .agreed fUpSerialLoSerial (s.upd.serial % 2 ^ 32)).putF .agreed fUpSerialHiSerial (s.upd.serial / 2 ^ 32)
  s.showKeys

/-! ## Step 8: the configuration (R58, R60, R65, R69, R448) -/

/-- A block's configuration event with the inhibit it sets. -/
def State.badSection (s : State) (ev a1 a2 : Nat) : State := (s.raise ev a1 a2).inhibit fMcInhibitSlotkey

/-- Load a section: its check, its event, and its loading. (DEDUCED, log entry 68) -/
def State.loadSection (s : State) (typ ev : Nat) (check : List Byte → Finding) (load : State → List Byte → State) : State :=
  match keyBody s.key.image typ with
  | none => s
  | some b =>
    match check b with
    | some x => s.badSection ev x.1 x.2
    | none => load s b

/-- Load a door bus's section. -/
def State.loadBus (s : State) (b cycleUs : Nat) : State :=
  match keyBody s.key.image (0x20 + b) with
  | none => s
  | some body =>
    match fbFinding b cycleUs body with
    | some o => s.badSection evFbConfig b o
    | none => s.fbLoad b (parseFb body)

/-- The seal is checked, then the sealed parameters go to the supervisors (R65, R272); the FIELD section is loaded unless one of
its own checks fails (R223, R249). (DEDUCED, log entry 68) -/
def State.loadSafety (s : State) : State :=
  let sb := (keyBody s.key.image 4).getD []
  let fb := (keyBody s.key.image 0x30).getD []
  let code := sealCode sb
  let value := sealValue s.key.sealWord
  let s := s.putF .agreed fSlSealcrcCrc code
  let designated := (parseSafety sb).designated
  let s := match checkField designated fb with
    | some x => s.badSection evFiConfig x.1 x.2
    | none => s.fieldLoad fb
  if sealFrame s.key.sealWord ≠ 0xA5 ∨ value ≠ code then (s.raise evSealMismatch value code).inhibit fMcInhibitSeal
  else
    let s := s.putF .agreed fSlKeystatSealOk 1
    match checkSafety (parseField fb) sb with
    | some x => s.badSection evSpParamError x.1 x.2
    | none => s.safetyLoad sb s.voters

/-- CONTROL's flags (R60). -/
def State.loadControl (s : State) : State :=
  let flags := fieldAt ((keyBody s.key.image 2).getD []) 0 4
  let s := (s.putF .agreed fMcCtrlAutostart (flags % 2)).putF .agreed fMcCtrlHoldPermit (flags / 2 % 2)
  { s with
    stay := { s.stay with pref := bitOf flags 2 }
    panel := { s.panel with autoDue := bitOf flags 0 } }

/-- The expected application is compared (R69). (DEDUCED, log entry 104) -/
def State.loadBinding (s : State) : State :=
  let want := ((keyBody s.key.image 3).getD []).take 48
  let have' := if s.app.desc.isSome then s.app.hash else []
  if want = have' then s
  else (s.raise evAppMismatch (fieldAt want 0 4) (fieldAt have' 0 4)).inhibit fMcInhibitAppMismatch

/-- The slot image's sections go to their blocks. (DEDUCED, log entry 68) -/
def State.bootConfig (s : State) : State :=
  if !s.slotOk then s
  else
    let s := s.loadSection 0x11 evTimeConfig checkTime State.timeLoad
    let cycleUs := s.getF .agreed fTbAicycleCycleUs
    let s := s.loadSection 0x10 evNpConfig (netFinding cycleUs) fun s b => s.netLoad (parseNetwork b)
    let s := (s.loadBus 0 cycleUs).loadBus 1 cycleUs
    let s := s.loadSection 0x40 evBbConfig checkBridge fun s b => (s.bridgeLoad b).putF .agreed fBbStatState 1
    let s := s.loadSection 0x41 evSlConfig stayFinding State.slLoad
    s.loadSafety.loadControl.loadBinding

/-! ## Step 9: lane alignment -/

/-- The first owner vote (R29 step 9, R114). -/
def State.firstOwners (s : State) : State :=
  ((List.range 8).foldl (fun s u =>
    match s.rightOwner u with
    | some m => s.setUnit u { s.unit u with owner := m, pendingTo := none }
    | none => s) s).showOwners

/-- Heartbeats run between the voting masts from a local time on. (DEDUCED, log entry 48) -/
def State.firstBeats (s : State) (at' : Nat) : State :=
  let v := s.voters
  v.foldl (fun s x => (v.filter fun y => decide (x.code < y.code)).foldl (fun s y => s.startBeats x y at') s) s

/-- Owners, heartbeats, tachometers and the step that overran. -/
def State.bootLane (s : State) (env : BootEnv) : State :=
  let s := s.firstOwners.firstBeats (s.ctl.stepAt 1150)
  { s with
    pos := { s.pos with counting := true, began := 0 }
    panel := { s.panel with overran := env.overran } }

/-! ## The whole start -/

/-- The interface grants the boot token to mast A at 180 ms (R50, R51). -/
def State.grantToken (s : State) : State :=
  let key : KeyPart := { s.key with windowFrom := s.ctl.bootFrom + 180 * ms }
  ({ s with key := key }).setMast .a { s.mast .a with token := s.votes .a }

/-- The checks of the image that the comparison took; they are complete by 310 ms (R58). -/
def State.bootChecks (s : State) (taken : Option KeyRead) (pins : Nat) : State :=
  match taken with
  | some r => s.during 310 fun s => s.bootFormat r pins
  | none => s

/-- BOOT from the release of reset up to step 9 (R29). (DESIGN CHOICE, log entry 18) -/
def State.bootRun (s : State) (env : BootEnv) : State :=
  let s := s.during 30 fun s => [Mast.a, .b, .c].foldl State.bootSilence s
  let s := s.bootOtp env
  let s := s.during 180 fun s => (s.bootSelftests env)
  if s.ctl.mode ≠ .boot then s
  else
    let s := s.grantToken
    let s := s.during 180 State.bootRecords
    let taken := keyTaken env.keys s.voters
    let s := (s.during 300 fun s => s.bootKey env).bootChecks taken (env.pins % 32)
    let s := s.during 419 State.bootFirmware
    if s.ctl.mode ≠ .boot then s
    else
      let s := s.during 850 fun s => ((s.bootSettings env.settings).bootApplication env).showVersions
      let s := s.during 1050 State.bootConfig
      s.bootLane env

/-- A module reset (R27): its cause is recorded and BOOT runs. (DESIGN CHOICE, log entry 20) (DEDUCED, log entry 72) -/
def State.moduleReset (s : State) (cause : Fld) (env : BootEnv) : State :=
  let old := s.upAbort 4
  let s := keptThroughReset.foldl (fun s f => s.putF .agreed f (old.getF .agreed f)) old.bare
  let s := (s.putF .agreed cause 1).bootPower
  (s.raise evModuleReset (s.reg .agreed rMcRstcause).toNat 0).bootRun env

/-- A button found closed for as long as a stuck one, or at power-on (R43, R44). -/
def State.stuckButton (s : State) (millis : Nat) : State :=
  let s := (s.putF .agreed fMcRstcauseStuckSeen 1).putF .agreed fMcButtonIgnored 1
  s.raise evResetStuck millis 0

/-- The module starts from power-on (R29, R44, R426). -/
def State.powerUp (s : State) (env : BootEnv) : State :=
  let s := s.bare
  let panel : PanelPart := { closed := if env.button then some s.now else none, opened := if env.button then none else some s.now }
  let s : State := { s with panel := panel, supply := { s.supply with volt := max 16800 s.supply.volt, cut := none } }
  let s := (s.putF .agreed fMcRstcausePor 1).bootPower
  let s := s.raise evPowerOn 0 0
  let s := if env.button then (s.putF .agreed fMcButtonPressed 1).stuckButton 0 else s
  s.bootRun env

/-- POWER_ON (R29): the logic supply rises through 16.8 V after at least 100 ms without. (DESIGN CHOICE, log entry 20) -/
def execPowerOn (t : Nat) (env : BootEnv) (s : State) : Result :=
  let s := s.advance t
  let waited := match s.ctl.offAt with | some o => decide (o + 100 * ms ≤ s.now) | none => true
  if s.ctl.on || !waited then ok s else ok (s.powerUp env)

/-- BOOT_TOKEN_WINDOW_END (R50): the boot token goes from mast to mast in windows of 40 ms from 180 ms on and is taken back
at 300 ms. -/
def execBootTokenWindowEnd (t : Nat) (m : Mast) (s : State) : Result :=
  let s := s.advance t
  let give := fun (s : State) (x : Mast) (b : Bool) => s.setMast x { s.mast x with token := b }
  let window := m.code + 1
  if s.ctl.mode ≠ .boot ∨ m = .j ∨ s.key.window ≠ m.code ∨ s.now < s.ctl.bootFrom + (180 + 40 * window) * ms then ok s
  else
    let s := give s m false
    let next := Mast.ofCode window
    let s := if window < 3 ∧ s.votes next ∧ (s.mast next).alive then give s next true else s
    ok { s with key := { s.key with window := window, windowFrom := s.now } }

end Sys2Proof.Machine
end

