-- ==== Sys2Proof/Machine/Supply.lean ====
section
/-!
DEFINITION. The logic supply, the hold-up store, power-down, the rail temperatures and the tachometer supplies (R423 to R426, R437,
R442, R445).
-/
namespace Sys2Proof.Machine

/-- The time for which a condition has held, in ns. -/
def State.since (s : State) (o : Option Nat) : Nat := s.now - o.getD s.now

/-- What a voltage begins and ends of the excursions of R423 and R424. An excursion above 30.2 V that has been reported ends
below 29.8 V, one that has not ends at 30.2 V. (DEDUCED, log entry 71) -/
def SupplyPart.judge (x : SupplyPart) (mv now : Nat) : SupplyPart :=
  let x := { x with volt := mv }
  let x := if mv < 16800 then { x with lowFrom := some (x.lowFrom.getD now) } else { x with lowFrom := none, lowTold := false }
  if 30200 < mv then { x with overFrom := some (x.overFrom.getD now), overMax := max x.overMax mv }
  else if mv < 29800 ∨ x.overTold.isNone then { x with overFrom := none, overTold := none, overMax := 0 }
  else x

/-- Step 9 of R29 looks at the hold-up store (R425). (DEDUCED, log entry 71) -/
def State.holdupCheck (s : State) : State :=
  if s.supply.checked || !s.ctl.on || s.panel.holding || decide (s.now < s.ctl.stepAt 1050) then s
  else
    let s : State := { s with supply := { s.supply with checked := true } }
    if s.supply.full then s else (s.putF .agreed fMcHoldupFail 1).raise evHoldupFail s.supply.store 0

/-- The lowest voltage outside interruptions is noted (`MC_SUPPLY.MIN`). -/
def State.noteVolt (s : State) (mv : Nat) : State :=
  if s.supply.cut.isSome then s else s.putF .agreed fMcSupplyMin (min (s.getF .agreed fMcSupplyMin) (mv / 10))

/-- LOGIC_SUPPLY_THRESHOLD (R423, R424): the logic supply crosses 16.8 V, 30.2 V or 29.8 V. -/
def execLogicSupplyThreshold (t : Nat) (mv : Nat) (s : State) : Result :=
  let s := s.advance t
  let s : State := { s with supply := s.supply.judge mv s.now }
  if s.ctl.on then ok (s.noteVolt mv) else ok s

/-- SUPPLY_LOW_EXPIRY (R423): below 16.8 V for 100 ms. (DEDUCED, log entry 71) -/
def execSupplyLowExpiry (t : Nat) (mv : Nat) (s : State) : Result :=
  let s := s.advance t
  if !s.ctl.on || s.supply.lowFrom.isNone || s.supply.lowTold || decide (s.since s.supply.lowFrom < 100 * ms) then ok s
  else
    let s : State := { s with supply := { s.supply with lowTold := true, volt := mv } }
    let s := s.noteVolt mv
    if s.limited s.lane.active.mask evSupplyLow 0 then ok s
    else ok ((s.incF .agreed fMcSupplyevLow 1).raiseLimited s.lane.active.mask 0 evSupplyLow mv (s.since s.supply.lowFrom / ms))

/-- SUPPLY_OVER with the highest voltage and the time above 30.2 V so far (R424). -/
def State.tellOver (s : State) (mv : Nat) : State :=
  let most := max s.supply.overMax mv
  let s : State := { s with supply := { s.supply with overTold := some s.now, overMax := most, volt := mv } }
  s.raise evSupplyOver most (s.since s.supply.overFrom / ms)

/-- SUPPLY_OVER_EXPIRY (R424): above 30.2 V for 1 s. -/
def execSupplyOverExpiry (t : Nat) (mv : Nat) (s : State) : Result :=
  let s := s.advance t
  if !s.ctl.on || s.supply.overFrom.isNone || s.supply.overTold.isSome || decide (s.since s.supply.overFrom < sec) then ok s
  else ok (s.tellOver mv)

/-- SUPPLY_OVER_REPEAT (R424): a further minute above 30.2 V. -/
def execSupplyOverRepeat (t : Nat) (mv : Nat) (s : State) : Result :=
  let s := s.advance t
  if !s.ctl.on || s.supply.overTold.isNone || decide (s.supply.volt ≤ 30200) || decide (s.since s.supply.overTold < 60 * sec) then ok s
  else ok (s.tellOver mv)

/-- SUPPLY_INTERRUPTION_BEGIN (R425): below 14.4 V or above 36 V; the converters run from the store. -/
def execSupplyInterruptionBegin (t : Nat) (mv : Nat) (s : State) : Result :=
  let s := s.advance t
  if (14400 ≤ mv ∧ mv ≤ 36000) ∨ s.supply.cut.isSome then ok s
  else
    let s := s.holdupCheck
    let s : State := { s with supply := { s.supply.judge mv s.now with cut := some (s.now, mv), full := false } }
    ok (if s.ctl.on then s.showHoldup else s)

/-- SUPPLY_INTERRUPTION_END (R425): the supply returns; `lowest` is the lowest voltage of the interruption. -/
def execSupplyInterruptionEnd (t : Nat) (mv lowest : Nat) (s : State) : Result :=
  let s := s.advance t
  match s.supply.cut with
  | none => ok s
  | some (from', low) =>
    if mv < 14400 ∨ 36000 < mv then ok s
    else
      let entry := (s.now - from', min low lowest)
      let ridden := if s.ctl.on then s.supply.ridden ++ [entry] else s.supply.ridden
      let s : State := { s with supply := { s.supply.judge mv s.now with cut := none, ridden := ridden } }
      ok (if s.ctl.on then s.noteVolt mv else s)

/-- HOLDUP_CHARGED (R425): the store reaches full charge at 45 V. -/
def execHoldupCharged (t : Nat) (s : State) : Result :=
  let s := s.advance t
  if !s.ctl.on || s.supply.cut.isSome then ok s
  else
    let s := s.holdupCheck
    ok ({ s with supply := { s.supply with full := true, store := 45000 } }).showHoldup

/-- The module powers down (R426): masts and field engine lose power, and with it everything volatile. (DEDUCED, log entry 72) -/
def State.powerDown (s : State) : State :=
  let s := (s.upAbort 4).bare
  { s with
    ctl := { s.ctl with on := false, offAt := some s.now }
    supply := { s.supply with full := false, store := 24000, ridden := [] } }

/-- HOLDUP_EXHAUSTED (R426): the store reaches 24 V during an interruption. -/
def execHoldupExhausted (t : Nat) (s : State) : Result :=
  let s := s.advance t
  if !s.ctl.on || s.supply.cut.isNone then ok s else ok s.powerDown

/-- POWER_DOWN_WAIT_EXPIRY (R426): 100 ms unpowered have passed and the supply lies above 16.8 V. -/
def execPowerDownWaitExpiry (t : Nat) (env : BootEnv) (s : State) : Result :=
  let s := s.advance t
  match s.ctl.offAt with
  | none => ok s
  | some o =>
    if s.ctl.on || decide (s.now < o + 100 * ms) || decide (s.supply.volt ≤ 16800) then ok s else ok (s.powerUp env)

/-- RAIL_TEMP_CROSSING (R442): the rails' temperatures in quarter degrees Celsius. (DEDUCED, log entry 109) -/
def execRailTempCrossing (t : Nat) (left right : Int) (s : State) : Result :=
  let s := s.advance t
  if !s.ctl.on then ok s
  else
    let s := (s.putF .agreed fMcIftempRail1 (unsigned 16 left)).putF .agreed fMcIftempRail2 (unsigned 16 right)
    let rail := if 500 < left then some (1, left) else if 500 < right then some (2, right) else none
    match s.supply.railsOver, rail with
    | false, some (n, v) =>
      ok ((({ s with supply := { s.supply with railsOver := true } } : State)).raise evInterfaceTemp n (unsigned 32 (v / 4)))
    | hot, _ =>
      let hot := hot && !(decide (left < 480) && decide (right < 480))
      ok { s with supply := { s.supply with railsOver := hot } }

/-- A tachometer supply is off since. -/
def SupplyPart.tach (x : SupplyPart) (ax : Nat) : Option Nat := if ax = 1 then x.tach1 else x.tach2

/-- Switch a tachometer supply. -/
def SupplyPart.setTach (x : SupplyPart) (ax : Nat) (o : Option Nat) : SupplyPart :=
  if ax = 1 then { x with tach1 := o } else { x with tach2 := o }

/-- Are the tachometer supplies powered: from step 8 of R29 and not in STANDBY (R437, R175)? -/
def State.tachOn (s : State) : Bool :=
  s.ctl.on && s.pos.counting && s.ctl.mode != .standby && (s.ctl.mode != .boot || decide (s.ctl.stepAt 850 ≤ s.now))

/-- TACH_SUPPLY_LIMIT (R437): an axle's supply has been in current limit for more than 10 ms. -/
def execTachSupplyLimit (t : Nat) (ax : Nat) (s : State) : Result :=
  let s := s.advance t
  if !s.tachOn || !(ax == 1 || ax == 2) || (s.supply.tach ax).isSome then ok s
  else
    let s : State := { s with supply := s.supply.setTach ax (some s.now) }
    ok (s.raiseLimited s.lane.active.mask ax evTachSupply ax 0)

/-- TACH_SUPPLY_RETRY (R437): after 1 s the supply is switched on again. -/
def execTachSupplyRetry (t : Nat) (ax : Nat) (s : State) : Result :=
  let s := s.advance t
  if s.since (s.supply.tach ax) < sec then ok s else ok { s with supply := s.supply.setTach ax none }

/-- The supply at an action instant: `MC_SUPPLY`, and the interruptions ridden through since the last one (R425). -/
def State.supplyAtInstant (s : State) : State :=
  let s := s.holdupCheck
  let s := (s.putF .agreed fMcSupplyVolt (min 65535 (s.supply.volt / 10))).noteVolt s.supply.volt
  let l := s.supply.ridden
  let s : State := { s with supply := { s.supply with ridden := [] } }
  l.foldl (fun s x =>
    let s := (s.incF .agreed fMcSupplyevRidden 1).maxF .agreed fMcSupplyevLongestUs (x.1 / us)
    s.raise evSupplyInterrupt (x.1 / us) x.2) s

end Sys2Proof.Machine
end

