-- ==== Sys2Proof/Machine/Panel.lean ====
section
/-!
DEFINITION. The reset pushbutton and the recovery break (R31, R43, R44).
-/
namespace Sys2Proof.Machine

/-! ## The pushbutton -/

/-- BUTTON_CONTACT_CLOSE (R43): the contact closes. -/
def execButtonContactClose (t : Nat) (s : State) : Result :=
  let s := s.advance t
  if s.panel.closed.isSome then ok s
  else ok { s with panel := { s.panel with closed := some s.now, opened := none } }

/-- The causes of a reset, which stand until BOOT overwrites them (R47). -/
def resetCauses : List Fld :=
  [fMcRstcausePor, fMcRstcauseButton, fMcRstcauseSoftware, fMcRstcauseImage, fMcRstcauseStandbyFault]

/-- The module is held in reset while the button stays closed (R43): nothing runs, and what module reset keeps is kept, the last
cause with it (R47). (DEDUCED, log entry 78) -/
def State.holdReset (s : State) : State :=
  let old := s.upAbort 4
  let s := (keptThroughReset ++ resetCauses).foldl (fun s f => s.putF .agreed f (old.getF .agreed f)) old.bare
  { s with
    ctl := { s.ctl with on := true, bootFrom := s.now, since := s.now }
    panel := { s.panel with holding := true } }

/-- BUTTON_DEBOUNCE_EXPIRY (R43, R44): the contact has been closed for 50 ms. -/
def execButtonDebounceExpiry (t : Nat) (s : State) : Result :=
  let s := s.advance t
  if !s.ctl.on || s.panel.closed.isNone || decide (s.since s.panel.closed < 50 * ms) then ok s
  else
    let s := s.putF .agreed fMcButtonPressed 1
    if s.getF .agreed fMcButtonIgnored = 1 ∨ s.panel.holding then ok s else ok s.holdReset

/-- The button has been held for 10 s: treated as stuck, with BOOT (R43). (DEDUCED, log entry 78) -/
def State.stuckReset (s : State) (env : BootEnv) : State :=
  (s.moduleReset fMcRstcauseButton env).stuckButton (s.since s.panel.closed / ms)

/-- BUTTON_CONTACT_RELEASE (R43): the contact opens; a press of less than 10 s that was debounced resets the module. -/
def execButtonContactRelease (t : Nat) (env : BootEnv) (s : State) : Result :=
  let s := s.advance t
  if s.panel.closed.isNone then ok s
  else
    let s := if !s.panel.holding then s
      else if s.since s.panel.closed < 10 * sec then s.moduleReset fMcRstcauseButton env
      else s.stuckReset env
    let s : State := { s with panel := { s.panel with closed := none, opened := some s.now } }
    ok (s.putF .agreed fMcButtonPressed 0)

/-- BUTTON_STUCK_EXPIRY (R43): the contact is still closed after 10 s. -/
def execButtonStuckExpiry (t : Nat) (env : BootEnv) (s : State) : Result :=
  let s := s.advance t
  if !s.panel.holding || decide (s.since s.panel.closed < 10 * sec) then ok s else ok (s.stuckReset env)

/-- BUTTON_OPEN_EXPIRY (R43): an ignored button has been open for 1 s. -/
def execButtonOpenExpiry (t : Nat) (s : State) : Result :=
  let s := s.advance t
  if s.panel.opened.isNone || decide (s.since s.panel.opened < sec) then ok s
  else ok (s.putF .agreed fMcButtonIgnored 0)

/-! ## The recovery break -/

/-- The release of reset (R29 step 2): 30 ms after power-on, at once in a module reset. (DEDUCED, log entry 78) -/
def State.releasedFrom (s : State) : Nat :=
  if s.getF .agreed fMcRstcausePor = 1 then s.ctl.bootFrom + 30 * ms else s.ctl.bootFrom

/-- RECOVERY_BREAK_BEGIN (R31): a break on the service port begins within 500 ms of the release of reset. -/
def execRecoveryBreakBegin (t : Nat) (s : State) : Result :=
  let s := s.advance t
  if !s.ctl.on || s.panel.holding || s.ctl.mode != .boot || s.panel.breakFrom.isSome
      || decide (s.releasedFrom + 500 * ms < s.now) then ok s
  else
    let s : State := { s with panel := { s.panel with breakFrom := some (max s.now s.releasedFrom) } }
    ok (s.putF .agreed fMcInhibitBreak 1)

/-- The break is over. -/
def State.endBreak (s : State) : State :=
  ({ s with panel := { s.panel with breakFrom := none } }).putF .agreed fMcInhibitBreak 0

/-- RECOVERY_BREAK_EXPIRY (R31): the break has lasted 2 s; the module passes to RECOVERY at once. -/
def execRecoveryBreakExpiry (t : Nat) (s : State) : Result :=
  let s := s.advance t
  match s.panel.breakFrom with
  | none => ok s
  | some b =>
    if s.now < b + 2 * sec ∨ !s.inMode [.boot, .stop] then ok s else ok s.endBreak.enterRecovery

/-- RECOVERY_BREAK_END (R31): the break ends; autostart is free again. -/
def execRecoveryBreakEnd (t : Nat) (s : State) : Result :=
  let s := s.advance t
  if s.panel.breakFrom.isNone then ok s else ok s.endBreak

end Sys2Proof.Machine
end

