-- ==== Sys2Proof/Machine/Commands.lean ====
section
/-!
DEFINITION. The mode commands (R26, R27, R45, R46) and what a start into RUN brings with it (R35, R36, R298).
-/
namespace Sys2Proof.Machine

/-! ## Agreement and results -/

/-- Do action instants come: not before step 9 of R29, in reset, in RECOVERY or in STANDBY? (DEDUCED, log entry 78) -/
def State.instants (s : State) : Bool :=
  s.ctl.on && !s.panel.holding && s.time.seeded && !s.inMode [.recovery, .standby]

/-- The outcome of a mode command on every voting mast (`MC_CMDSTAT`). -/
def State.mcDone (s : State) (code result reason : Nat) : State :=
  s.voters.foldl (fun s m =>
    let c := Copy.mast m
    ((s.putF c fMcCmdstatLastCode code).putF c fMcCmdstatResult result).putF c fMcCmdstatReason reason) s

/-- The gate every mode command passes (R27, R45, R46): agreement of the masts that wrote it, then a mode that lists it. The
state with the outcome where it does not pass. (DEDUCED, log entry 87) -/
def State.mcGate (s : State) (writers : Per Bool) (code : Nat) (modes : List Mode) : Option State :=
  if s.agreeing writers = 0 || !s.instants then some s
  else if !s.agreed writers then some ((s.mcDone code 4 0xFF).raise evCmdDiscarded code 4)
  else if !s.inMode modes then some (s.mcDone code 2 0xFF)
  else none

/-! ## The restart (R35, R36, R298) -/

/-- Application hash, digest, cycle and data of a mast's retained copy (R295). -/
def Memory.retainedCopy (m : Memory) : Option (List Byte × Nat × Nat × List Byte) :=
  m.retained.map fun k =>
    let a := retainAddr k
    (m.readBytes (a + 0x10) 48, leNat (m.readBytes (a + 0x40) 8), leNat (m.readBytes (a + 0xC) 4),
      m.readBytes (a + 0x50) (leNat (m.readBytes (a + 8) 4)))

/-- A mast's retained copy. -/
def State.retainedCopy (s : State) (m : Mast) : Option (List Byte × Nat × Nat × List Byte) := (s.mast m).mem.retainedCopy

/-- Does a mast's retained copy belong to the loaded application? -/
def State.ownRetained (s : State) (m : Mast) : Bool :=
  match s.retainedCopy m with
  | some r => r.1 == s.app.hash
  | none => false

/-- Digest of a mast's retained copy of the loaded application. -/
def State.retainedDigest (s : State) (m : Mast) : Option Nat :=
  if s.ownRetained m then (s.retainedCopy m).map fun r => r.2.1 else none

/-- The masts whose retained copies of the loaded application agree, at least two of them. -/
def State.retainedPair (s : State) : List Mast :=
  let like := fun (m : Mast) => s.voters.filter fun x => (s.retainedDigest x).isSome && s.retainedDigest x == s.retainedDigest m
  match s.voters.find? fun m => decide (2 ≤ (like m).length) with
  | some m => like m
  | none => []

/-- The restart of the first matching row of R35: type and reason of a cold one. Where only some masts' copies belong to another
application, its row is taken when fewer than two copies belong to the loaded one and not all valid ones do. (DESIGN CHOICE, log entry 117) -/
def State.restartOf (s : State) (cold : Bool) : Nat × Nat :=
  let valid := s.voters.filter fun m => (s.retainedCopy m).isSome
  let own := valid.filter s.ownRetained
  if cold then (1, 1)
  else if s.getF .agreed fMcCtrlColdOnly = 1 then (1, 2)
  else if s.app.resumeNext then (3, 0)
  else if !s.app.started.contains s.app.hash then (1, 6)
  else if own.length < 2 ∧ own.length < valid.length then (1, 4)
  else if valid.length < 2 then (1, 3)
  else if s.retainedPair = [] then (1, 5)
  else (2, 0)

/-- The retained shadow of a mast takes new contents. -/
def State.setShadow (s : State) (m : Mast) (data : List Byte) : State :=
  match s.app.desc with
  | none => s
  | some d =>
    let s := match d.regions[1]? with
      | some r => if d.retainLen = 0 then s else s.store m r.1 (data.take d.retainLen)
      | none => s
    let x : RetainMast := { written := some (crc64 (data.take d.retainLen)).toNat }
    { s with app := { s.app with retain := s.app.retain.set m x } }

/-- Initial values of the retained variables, as long as the descriptor says (R298). (DEDUCED, log entry 82) -/
def AppPart.initialData (a : AppPart) : List Byte :=
  match a.desc with
  | none => []
  | some d => a.initial.take d.retainLen ++ List.replicate (d.retainLen - a.initial.length) 0

/-- A region of a mast's memory takes the contents the application image gives it; bytes beyond them read zero. -/
def State.setRegion (s : State) (m : Mast) (r : Nat × Nat) (data : List Byte) : State :=
  let n := r.2 * 4096
  let inside := fun (a : Nat) => decide (r.1 ≤ a ∧ a < r.1 + n)
  let mem := (s.mast m).mem
  let kept : Memory := { mem with cells := mem.cells.filter fun c => !inside c.1 }
  s.setMem m ((kept.writeBytes r.1 (data.take n)).markRange r.1 n)

/-- Every cold and every warm restart gives static variables and instances (region 0) their initial values and constants
(region 2) their values in the image, on every voting mast (R36, R297, R298). -/
def State.initRegions (s : State) : State :=
  match s.app.desc with
  | none => s
  | some d =>
    [(0, s.app.statics), (2, s.app.constants)].foldl (fun s x =>
      match d.regions[x.1]? with
      | some r => if r.2 = 0 then s else s.voters.foldl (fun s m => s.setRegion m r x.2) s
      | none => s) s

/-- A cold restart (R36, R294, R298): initial values, both retained banks rewritten, forces and changes released. (DEDUCED, log entry 82) -/
def State.coldStart (s : State) : State :=
  let s := s.releaseForce none 5
  let data := s.app.initialData
  let cycle := s.app.cycle % 2 ^ 32
  let s : State := { s with app := { s.app with changes := [], values := [] } }
  let s := s.initRegions
  let s := s.voters.foldl (fun s m =>
    let mem := (s.mast m).mem
    let mem := (mem.writeBank 0 cycle s.app.hash data).writeBank 1 cycle s.app.hash data
    ((s.setMem m mem).setShadow m data).showRetain m) s
  s.showChanges

/-- Is a symbol RETAINED? -/
def AppPart.isRetained (a : AppPart) (i : Nat) : Bool :=
  match a.symbol i with
  | some x => x.retained
  | none => false

/-- A warm restart (R36, R291, R298): the agreed retained copy is loaded, and a minority's retained area is rewritten from it. -/
def State.warmStart (s : State) : State :=
  let pair := s.retainedPair
  let s : State := { s with app := { s.app with values := s.app.values.filter fun v => s.app.isRetained v.1 } }
  let s := s.initRegions
  match pair with
  | [] => s
  | lead :: _ =>
    match s.retainedCopy lead with
    | none => s
    | some (hash, _, cycle, data) =>
      s.voters.foldl (fun s m =>
        let s := if pair.contains m then s
          else
            let bank := match (s.mast m).mem.retained with | some k => 1 - k | none => 0
            ((s.setMem m ((s.mast m).mem.writeBank bank cycle hash data)).showRetain m).raise evRetainRepaired m.code 0
        s.setShadow m data) s

/-- A resume (R36, R298): cycle number and image in force of the checkpoint; its regions stand in memory since the wake. -/
def State.resumeStart (s : State) : State :=
  match s.app.checkpoint with
  | none => s
  | some (cycle, image) =>
    { s with
      app := { s.app with cycle := cycle }
      lane := { s.lane with inForce := image } }

/-- Milliseconds since BOOT began. -/
def State.bootMillis (s : State) : Nat := (s.now - s.ctl.bootFrom) / ms

/-- The start into RUN (R27, R35). (DEDUCED, log entry 82) -/
def State.beginRun (s : State) (cold : Bool) : State :=
  let r := s.restartOf cold
  let s := s.changeMode .run
  let s := if r.1 = 1 then s.coldStart else if r.1 = 2 then s.warmStart else s.resumeStart
  let n := s.app.cycle
  let started := if s.app.started.contains s.app.hash then s.app.started else s.app.hash :: s.app.started
  let s : State := { s with
    app := { s.app with
      started := started, resumeNext := false, last := Per.all n, sub := Per.all n, inCycle := Per.all none
      startedOn := Per.all none, endedAt := Per.all none, halted := Per.all false, overran := Per.all none
      faults := Per.all none, halting := false }
    upd := { s.upd with runBefore := 0 }
    panel := { s.panel with autoDue := false } }
  let c := Copy.agreed
  let s := ((s.putF c fMcRestartType r.1).putF c fMcRestartColdReason r.2).raise evRestart r.1 r.2
  let s := (s.putF c fMcCycnumLoNum (n % 2 ^ 32)).putF c fMcCycnumHiNum (n / 2 ^ 32)
  let s := if s.getF c fMcBoottimeToRun = 0 then s.putF c fMcBoottimeToRun (max 1 (min 65535 s.bootMillis)) else s
  s.scForget.setRun .running

/-- The lowest set bit of `MC_INHIBIT`, 0xFF if none. -/
def lowestInhibit (w : Nat) : Nat := ((List.range 7).find? fun i => bitOf w i).getD 0xFF

/-- `MC_INHIBIT` as a number. -/
def State.inhibits (s : State) : Nat := (s.reg .agreed rMcInhibit).toNat

/-- START and START_COLD in STOP (R27, R46). (DEDUCED, log entry 95) -/
def State.startCommand (s : State) (cold : Bool) (code : Nat) : State :=
  let w := s.inhibits
  if w ≠ 0 then (s.mcDone code 3 (lowestInhibit w)).raise evRunRefused w code
  else (s.mcDone code 1 0xFF).beginRun cold

/-! ## The commands -/

/-- START (R46, R27). -/
def execStart (t : Nat) (writers : Per Bool) (s : State) : Result :=
  let s := s.advance t
  match s.mcGate writers 1 [.stop] with
  | some s => ok s
  | none => ok (s.startCommand false 1)

/-- START_COLD (R46, R27). -/
def execStartCold (t : Nat) (writers : Per Bool) (s : State) : Result :=
  let s := s.advance t
  match s.mcGate writers 2 [.stop] with
  | some s => ok s
  | none => ok (s.startCommand true 2)

/-- STOP (R46, R27). -/
def execStop (t : Nat) (writers : Per Bool) (s : State) : Result :=
  let s := s.advance t
  match s.mcGate writers 3 [.run, .hold] with
  | some s => ok s
  | none => ok ((s.mcDone 3 1 0xFF).enterStop 2)

/-- HOLD (R46, R27, R288): permitted by the slot image, with zero speed reported. -/
def execHold (t : Nat) (writers : Per Bool) (s : State) : Result :=
  let s := s.advance t
  match s.mcGate writers 4 [.run] with
  | some s => ok s
  | none =>
    if s.getF .agreed fMcCtrlHoldPermit = 0 ∨ s.getF .agreed fSpStatZero = 0 then ok (s.mcDone 4 3 0xFF)
    else
      let s := (s.mcDone 4 1 0xFF).changeMode .hold
      ok ({ s with app := { s.app with halting := true } }).settleHold

/-- RESUME (R46, R27, R288): the application continues from the halted cycle boundary. -/
def execResume (t : Nat) (writers : Per Bool) (s : State) : Result :=
  let s := s.advance t
  match s.mcGate writers 5 [.hold] with
  | some s => ok s
  | none =>
    let s := (s.mcDone 5 1 0xFF).changeMode .run
    ok (({ s with app := { s.app with halting := false, startedOn := Per.all none } }).setRun .running)

/-- SERVICE (R46, R27): in STOP, from an authenticated monitor session only. (DEDUCED, log entry 80) -/
def execService (t : Nat) (writers : Per Bool) (s : State) : Result :=
  let s := s.advance t
  match s.mcGate writers 7 [.stop] with
  | some s => ok s
  | none => if s.mon.session.isNone then ok (s.mcDone 7 2 0xFF) else ok ((s.mcDone 7 1 0xFF).changeMode .service)

/-- LEAVE (R46, R27): the forces are released with it (R294). -/
def execLeave (t : Nat) (writers : Per Bool) (s : State) : Result :=
  let s := s.advance t
  match s.mcGate writers 8 [.service] with
  | some s => ok s
  | none => ok ((s.mcDone 8 1 0xFF).enterStop 7)

/-- RESET (R46, R27): a module reset. -/
def execReset (t : Nat) (writers : Per Bool) (env : BootEnv) (s : State) : Result :=
  let s := s.advance t
  match s.mcGate writers 9 [.stop, .service] with
  | some s => ok s
  | none => ok (s.moduleReset fMcRstcauseSoftware env)

/-! ## Mode changes at action instants without a command -/

/-- HOLD ends after 600 s (R27). (DESIGN CHOICE, log entry 7) -/
def State.holdTimeout (s : State) : State :=
  if s.ctl.mode ≠ .hold ∨ s.now < s.ctl.since + 600 * sec then s
  else (s.raise evHoldTimeout ((s.now - s.ctl.since) / sec) 0).enterStop 4

/-- HOLD_TIMEOUT (R27). -/
def execHoldTimeout (t : Nat) (s : State) : Result := ok (s.advance t).holdTimeout

/-- The start at the end of BOOT (R27, R29 step 12, R31): in STOP since BOOT, with no break in progress. (DEDUCED, log entry 81) -/
def State.autostart (s : State) : State :=
  if s.ctl.mode ≠ .stop ∨ s.ctl.prev ≠ .boot ∨ !s.panel.autoDue ∨ s.panel.breakFrom.isSome ∨ !s.instants then s
  else
    let due := s.getF .agreed fMcCtrlAutostart == 1
    let s : State := { s with panel := { s.panel with autoDue := false } }
    let w := s.inhibits
    if !due then s
    else if w ≠ 0 then s.raise evRunRefused w 1
    else s.beginRun false

/-- AUTOSTART (R29, R27). (DEDUCED, log entry 81) -/
def execAutostart (t : Nat) (s : State) : Result := ok (s.advance t).autostart

end Sys2Proof.Machine
end

