-- ==== Sys2Proof/Machine/RegisterWrite.lean ====
section
/-!
DEFINITION. Register reads and writes: what a read shows, what a write does at once, and what the agreed write of an interval
does at its action instant (R7 to R9, R45, R78, R446).
-/
namespace Sys2Proof.Machine

/-! ## Reading -/

/-- The increment of a mast's timebase in 2⁻³² ns (R150): nominal, common rate and lane trim. -/
def State.increment (s : State) (m : Mast) : Nat :=
  let base : Int := (4 * 2 ^ 32 : Nat)
  (base + base * s.ratePpb / 1000000000 + base * (s.time.trim.get m * 10) / 1000000000).toNat

/-- `MI_STAT` of a mast. -/
def State.miStat (s : State) (m : Mast) : Word :=
  let x := s.mast m
  setBits (setBits (s.reg (.mast m) rMiStat) 2 2 (b2n x.dramScrub)) 1 1 (b2n x.sramScrub)

/-- `SV_STAT`: its idle time, failed answers and lock as they stand now. (DESIGN CHOICE, log entry 93) (DEDUCED, log entry 103) -/
def State.svStat (s : State) : Word :=
  let w := s.reg .agreed rSvStat
  let idle := match s.mon.session with
    | some (_, last) => min 65535 ((s.now - last) / sec)
    | none => 0
  let fails := (s.mon.fails.filter fun f => decide (s.now < f + 60 * sec)).length
  setBits (setBits (setBits w 31 16 idle) 15 8 (min 255 fails)) 1 1 (b2n s.mon.lockedAt.isSome)

/-- The word of an agreed register as a read shows it: what the last action instant published (R98, R128), for the mode
registers (R47) and before the first action instant what stands. (DESIGN CHOICE, log entry 8) -/
def State.agreedWord (s : State) (addr : Nat) : Word :=
  match s.shown with
  | none => s.reg .agreed addr
  | some f => if addr < 0xE0000100 ∨ !s.instants then s.reg .agreed addr else f.get (regKey .agreed addr)

/-- The word a read of a register shows a triad (R8, R9). (DESIGN CHOICE, log entry 8) (DESIGN CHOICE, log entry 32) (DEDUCED, log entry 102) -/
def State.readReg (s : State) (m : Mast) (tr : Triad) (addr : Nat) : Word :=
  match findReg addr with
  | none => 0
  | some r =>
    let w := match r.scope with
      | .agreed => s.agreedWord addr
      | .perMast => s.reg (.mast m) addr
      | .perTriad => s.reg (.triad m tr) addr
    if r.name = "MC_ID" then setBits w 1 0 m.code
    else if r.name = "TB_NOWNS" then BitVec.ofNat 32 (s.tbNs m % sec)
    else if r.name = "TB_INCR_INT" then BitVec.ofNat 32 (s.increment m / 2 ^ 32 % 256)
    else if r.name = "TB_INCR_FRAC" then BitVec.ofNat 32 (s.increment m)
    else if r.name = "TB_POSLO" then
      BitVec.ofNat 32 (posWord (s.axle m (if addr = rTbPoslo then 1 else 2)).counter)
    else if r.name = "TB_LANE" then setBits w 31 16 (unsigned 16 (s.time.trim.get m))
    else if r.name = "MI_STAT" then s.miStat m
    else if r.name = "UP_RUNSEC" then BitVec.ofNat 32 s.runSec
    else if r.name = "SV_STAT" then s.svStat
    else if r.name = "BB_SBADDR" ∧ s.bridge.nSb ≤ (addr - rBbSbaddr) / 4 then 0
    else w

/-! ## A write at once -/

/-- Registers whose write is a command of its own: nothing of it happens here. (DESIGN CHOICE, log entry 6) -/
def ownRow (name : String) : Bool :=
  ["TB_CMPCFG", "QM_RING_PROD", "QM_RING_CONS", "DM_STAT"].contains name

/-- Registers whose combined write is a command of its own. (DESIGN CHOICE, log entry 6) -/
def ownCombined (name : String) : Bool :=
  ["TD_INJECT", "MI_INJECT", "TB_OFFSET", "TB_STEPCMD", "SP_ACK", "SP_REFCLR", "BB_EXPCOMMIT", "FB_CTRL"].contains name

/-- Does software set a field of the register through the combination of R45? -/
def RegRow.combines (r : RegRow) : Bool := r.comb || r.fields.any fun f => f.ty == .rwl

/-- The part of a written word that is combined. -/
def RegRow.combinedPart (r : RegRow) (w : Word) : Word := if r.comb then w else r.take [.rwl] 0 w

/-- Is the write discarded at once beyond R446: an owner preference of 3, a rate beyond 200 000 ppb or of a free-running module (R117,
R157, R450), a
hardware-owned ring (R328), or a queued change or DMA head that may not be written now (R234, R342)? (DEDUCED, log entry 87) -/
def State.discarded (s : State) (m : Mast) (r : RegRow) (addr : Nat) (w : Word) : Bool :=
  if r.name = "LM_OWNPREF" then (List.range 8).any fun u => getBits w (2 * u + 1) (2 * u) == 3
  else if r.name = "TB_RATE" then decide (200000 < (signed 32 w.toNat).natAbs) || s.time.protocol == 0
  else if ["QM_RING_BASE", "QM_RING_CFG"].contains r.name then ringOwned ((addr - rQmRingBase) / 16)
  else if ["FI_QMASK", "FI_QVAL"].contains r.name then
    s.getF (.mast m) (fFiQctlArmed.plus ((addr - rFiQctl) / 16 * 16)) == 1
  else if r.name = "DM_HEAD" then s.dmaState m ((addr - rDmHead) / 64) != 0
  else if r.name = "BB_SBADDR" then decide (s.bridge.nSb ≤ (addr - rBbSbaddr) / 4)
  else false

/-- Is the address a comparator's target or period (R178)? -/
def cmpTarget (name : String) : Bool := ["TB_CMPT0", "TB_CMPT1", "TB_CMPT2", "TB_CMPPER"].contains name

/-- The part of a write that acts at once: RW fields that are not combined, W1C and RWS fields (R9). -/
def State.writeNow (s : State) (m : Mast) (tr : Triad) (r : RegRow) (addr : Nat) (w : Word) : State :=
  let c := match r.scope with
    | .agreed => Copy.agreed
    | .perMast => Copy.mast m
    | .perTriad => Copy.triad m tr
  let old := s.reg c addr
  s.setReg c addr (r.bitwise (r.take (if r.comb then [] else [.rw]) old w) w)

/-- The write waits for the action instant in place of the mast's earlier one (R45). -/
def State.writeLater (s : State) (m : Mast) (addr : Nat) (w : Word) : State :=
  let rest := s.writes.filter fun x => !(x.mast == m && x.addr == addr)
  { s with writes := rest ++ [⟨m, addr, w⟩] }

/-- A write of `MC_CMD` or `UP_CMD` (R46): a wrong key is refused with result 5; a code that is no command waits for its
refusal. The command codes are commands of their own. -/
def State.commandWrite (s : State) (m : Mast) (addr : Nat) (w : Word) : State :=
  let code := getBits w 7 0
  let mc := decide (addr = rMcCmd)
  if getBits w 31 16 ≠ (if mc then 0x4D43 else 0x5550) then
    if mc then
      let c := Copy.mast m
      ((s.putF c fMcCmdstatLastCode code).putF c fMcCmdstatResult 5).putF c fMcCmdstatReason 0xFF
    else s.upDone code 5 0
  else if 1 ≤ code ∧ code ≤ 9 then s
  else s.writeLater m addr w

/-- A keyed injection written with a wrong key has no effect but its result code (R97, R387). -/
def badInjectKey (addr : Nat) (w : Word) : Bool :=
  (addr == rTdInject && getBits w 31 24 != 0x54) || (addr == rMiInject && getBits w 31 24 != 0x4D)

/-- The result code of a wrong key (`TD_INJSTAT`, `MI_INJSTAT`). -/
def State.showBadKey (s : State) (addr : Nat) (w : Word) : State :=
  if addr = rTdInject then
    (s.putF .agreed fTdInjstatResult 4).putF .agreed fTdInjstatLast (getBits w 17 8 * 16 + getBits w 3 0)
  else s.putF .agreed fMiInjstatResult 4

/-- A write by a triad of mast `m` to an occupied register. (DESIGN CHOICE, log entry 6) -/
def State.writeReg (s : State) (m : Mast) (tr : Triad) (r : RegRow) (addr : Nat) (w : Word) : State :=
  if r.name = "MC_CMD" ∨ r.name = "UP_CMD" then s.commandWrite m addr w
  else if badInjectKey addr w then s.showBadKey addr w
  else if !r.inRange w || s.discarded m r addr w || ownRow r.name then s
  else if cmpTarget r.name && s.cmp m ((addr - 0xE0041000) / 32) fTbCmpcfgArm == 1 then
    s.cmpRefuse m ((addr - 0xE0041000) / 32) 1
  else if ["BB_EXPOSE0_", "BB_EXPOSE1_", "BB_EXPOSE2_", "BB_EXPOSE3_"].contains r.name then s.shadowWrite m addr w
  else
    let s := s.writeNow m tr r addr w
    if r.combines && !ownCombined r.name then s.writeLater m addr w else s

/-- Does the address lie in register space: a block or the unoccupied space above the blocks (R7, R21)? -/
def registerSpace (a : Nat) : Bool := regionOf a == .register || regionOf a == .unoccupied

/-- REGISTER_WRITE (R7 to R9, R21, R45, R446): a 32-bit write in register space. Where no register lies the write is ignored,
and one that is not aligned gets a bus error. -/
def execRegisterWrite (t : Nat) (m : Mast) (tr : Triad) (addr : Nat) (value : Word) (s : State) : Result :=
  let s := s.advance t
  if !s.triadRuns m || !registerSpace addr then ok s
  else if addr % 4 ≠ 0 then ok (s.answer m tr .busError)
  else
    let s := s.answer m tr (.done 0)
    match findReg addr with
    | none => ok s
    | some r => ok (s.writeReg m tr r addr value)

/-- Registers whose read is a command of its own (R150, R170). -/
def ownRead (name : String) : Bool := ["TB_NOWNS", "TB_POSLO"].contains name

/-- A read of register space by a triad (R6 to R8, R21): an aligned one shows the word of the triad's own mast, zero where no
register lies; any other gets a bus error. -/
def State.registerRead (s : State) (m : Mast) (src : MemSource) (addr : Nat) : State :=
  match src.triad with
  | none => s
  | some tr =>
    if addr % 4 ≠ 0 then s.answer m tr .busError
    else if (match findReg addr with | some r => ownRead r.name | none => false) then s
    else s.answer m tr (.done (s.readReg m tr addr).toNat)

/-- MEMORY_READ (R7, R8, R21, R376 to R382): a word of memory is checked and delivered, delivered corrected, or costs the mast;
a register's word is shown. (DESIGN CHOICE, log entry 30) -/
def execMemoryRead (t : Nat) (m : Mast) (src : MemSource) (place : MemPlace) (addr : Nat) (found : MemFinding)
    (s : State) : Result :=
  let s := s.advance t
  if !s.triadRuns m then ok s
  else if registerSpace addr then ok (s.registerRead m src addr)
  else if [Region.sram, .dram, .mram, .flash, .rom].contains (regionOf addr) then ok (s.memoryRead m src place addr found)
  else ok s

/-! ## Combination at the action instant (R45) -/

/-- The writes of voting masts to one address since the last action instant. (DESIGN CHOICE, log entry 7) -/
def State.writesTo (s : State) (addr : Nat) : List CombWrite :=
  s.writes.filter fun x => x.addr == addr && s.votes x.mast && (s.mast x.mast).alive

/-- The value at least two voting masts have written, compared over the combined part. -/
def State.agreedValue (s : State) (r : RegRow) (addr : Nat) : Option Word :=
  let l := (s.writesTo addr).map fun x => r.combinedPart x.value
  l.find? fun w => decide (2 ≤ (l.filter (· == w)).length)

/-- What enabling a ring or the pool brings (R329, R335); `was` is the enable bit before. (DESIGN CHOICE, log entry 7) -/
def State.enabled (s : State) (r : RegRow) (addr : Nat) (was : Mast → Nat) : State :=
  let bit := if r.name = "QM_RING_CFG" then 7 else 31
  s.voters.foldl (fun s m =>
    let on := s.getF (.mast m) ⟨addr, bit, bit⟩
    if r.name = "QM_RING_CFG" then
      if was m = 0 ∧ on = 1 then
        (s.setReg (.mast m) (addr + 4) 0).setReg (.mast m) (addr + 8) 0
      else s
    else if was m = 0 ∧ on = 1 then s.poolEnable m
    else if on = 0 then (s.setQueue m { s.queue.get m with free := [], inUse := [] }).showPool m
    else s) s

/-- Mapped pages with the 16 of the block state (`LM_CKSTAT.TOTAL`). -/
def State.showTotal (s : State) : State :=
  s.putF .agreed fLmCkstatTotal (16 + ((List.range 7).map fun k => s.getF .agreed (fLmCklenPages.plus (4 * k))).sum)

/-- The checkpoint map as base and pages of its seven regions (R121). -/
def State.checkpointMap (s : State) : List (Nat × Nat) :=
  (List.range 7).map fun k =>
    (s.getF .agreed (fLmCkbaseBase.plus (4 * k)) * 4096, s.getF .agreed (fLmCklenPages.plus (4 * k)))

/-- Would an agreed write break the rules of the checkpoint map (R121)? (DEDUCED, log entry 101) -/
def State.breaksMap (s : State) (r : RegRow) (addr : Nat) (w : Word) : Bool :=
  ["LM_CKBASE", "LM_CKLEN"].contains r.name && !mapAllowed (s.setReg .agreed addr w).checkpointMap

/-- An agreed value is written (R45, R9): its RWL fields only in SERVICE and STOP, combined RW fields in any mode. (DEDUCED, log entry 9) -/
def State.writeAgreed (s : State) (r : RegRow) (addr : Nat) (w : Word) : State :=
  if r.name = "MC_CMD" then s.mcDone (getBits w 7 0) 2 0xFF
  else if r.name = "UP_CMD" then s.upDone (getBits w 7 0) 2 0
  else if s.breaksMap r addr w then s
  else
    let types : List FieldType :=
      (if s.unlocked then [.rwl] else []) ++ (if r.comb then [.rw] else [])
    let before := s
    let s := (s.copiesOf r).foldl (fun s c => s.setReg c addr (r.take types (s.reg c addr) w)) s
    if r.name = "LM_OWNPREF" then s.normalHandovers
    else if r.name = "LM_CKLEN" then s.showTotal
    else if r.name = "QM_RING_CFG" then s.enabled r addr fun m => before.getF (.mast m) ⟨addr, 7, 7⟩
    else if r.name = "QM_POOLCFG" then s.enabled r addr fun m => before.getF (.mast m) ⟨addr, 31, 31⟩
    else s

/-- A value that was not agreed is discarded; for the two command registers that is reported (R45). -/
def State.writeDisagreed (s : State) (r : RegRow) (l : List CombWrite) : State :=
  let code := match l with
    | x :: _ => getBits x.value 7 0
    | [] => 0
  if l = [] then s
  else if r.name = "MC_CMD" then (s.mcDone code 4 0xFF).raise evCmdDiscarded code 4
  else if r.name = "UP_CMD" then s.upDone code 4 0
  else s

/-- The combined writes of one address. -/
def State.combine (s : State) (addr : Nat) : State :=
  match findReg addr with
  | none => s
  | some r =>
    match s.agreedValue r addr with
    | some w => s.writeAgreed r addr w
    | none => s.writeDisagreed r (s.writesTo addr)

/-- The addresses with waiting writes, each once. -/
def State.writtenTo (s : State) : List Nat :=
  s.writes.foldl (fun l x => if l.contains x.addr then l else l ++ [x.addr]) []

/-- The combined writes of the interval that ends at this action instant (R45). -/
def State.combineAll (s : State) : State :=
  let s' := s.writtenTo.foldl State.combine s
  { s' with writes := [] }

end Sys2Proof.Machine
end

