-- ==== Sys2Proof/Machine/Release.lean ====
section
/-!
DEFINITION. The release of an action instant: sequence gaps, rings, process data, stations and the input image (R140, R143,
R279 to R283).
-/
namespace Sys2Proof.Machine

/-! ## Sequence gaps (R143) -/

/-- One released item against the expected sequence of its source. The directly agreed read answers of R142 are released outside
this order: they do not pass here and leave the expected sequence of their source. (DESIGN CHOICE, log entry 128) -/
def State.gapCheck (s : State) (i : Item) : State :=
  if !countedSource i.source then s
  else
    let want := cellLookup s.intake.expected i.source
    let s : State := { s with intake := { s.intake with
      expected := cellInsert s.intake.expected i.source ((i.seq + 1) % 65536) } }
    match want with
    | none => s
    | some w =>
      if w = i.seq then s
      else
        let s := (s.incF .agreed fItGapGaps 1).itErr i.source i.seq s.lane.active.mask 4
        let on := maskOf (s.voters.filter fun m => s.getF (.mast m) fItCtrlGapEvt == 1)
        if on = 0 then s else s.raiseLimited on i.source evIntakeGap i.source w

/-! ## Rings (R140, R328) -/

/-- Does a door-bus item's value hold an accepted CLAIM or RELEASE frame (R203 codes, R205)? -/
def claimItem (i : Item) : Bool := [0xB, 0xC].contains (fieldAt i.value 0 1)

/-- The ring an agreed item's descriptor goes to, if any (R328). -/
def ringOf (i : Item) : Option Nat :=
  let n := i.source
  if 0x1100 ≤ n ∧ n ≤ 0x14FF then some (32 + 8 * (n / 256 % 16 - 1) + n % 8)
  else if 0x0101 ≤ n ∧ n ≤ 0x0180 then some 112
  else if 0x3010 ≤ n ∧ n ≤ 0x3013 then some 114
  else if 0x3020 ≤ n ∧ n ≤ 0x3040 then some 115
  else if 0x4001 ≤ n ∧ n ≤ 0x401F then some 118
  else if 0x2000 ≤ n ∧ n ≤ 0x21FF then
    let b := n / 256 % 16
    if n % 128 = 0 then some (97 + 8 * b) else if claimItem i then some (98 + 8 * b) else none
  else none

/-- A network frame the intake places itself: its subscription (R308). -/
def State.subscribed (s : State) (i : Item) : Option PdEntry :=
  if 0x1100 ≤ i.source ∧ i.source ≤ 0x14FF then s.pdMatch i.source i.value else none

/-- The masts whose rings and input image a release fills: the voting ones, and the jury mast from step 8 of R119. -/
def State.receivers (s : State) : List Mast :=
  Mast.all.filter fun m => s.intakes m &&
    (s.votes m || (match s.lane.join with | some j => decide (5 ≤ j.phase) | none => false))

/-- Buffer a mast holds for an item. -/
def State.heldBuffer (s : State) (m : Mast) (i : Item) : Option Nat :=
  match (s.intake.masts.get m).staged.find? (fun e => e.item.tag == i.tag) with
  | some e => e.buffer
  | none => none

/-- Forget a staged item without freeing its buffer: the ring has it now. -/
def State.forgetStaged (s : State) (m : Mast) (i : Item) : State :=
  let x := s.intake.masts.get m
  s.setIntake m { x with staged := x.staged.filter fun e => e.item.tag != i.tag }

/-- One agreed item goes to its ring on every receiver; other masts drop their copy. -/
def State.releaseRing (s : State) (ai : Nat) (who : List Mast) (i : Item) : State :=
  let ring := if (s.subscribed i).isSome then none else ringOf i
  match ring with
  | none => s.unstage i.tag
  | some n =>
    let s := who.foldl (fun s m => ((s.forgetStaged m i).ringItem m n i (s.heldBuffer m i) ai)) s
    s.unstage i.tag

/-- The slot records of a bus as items on ring 96 + 8 b (R205). (DEDUCED, log entry 41) -/
def State.slotRecords (s : State) (ai : Nat) (who : List Mast) (b : Nat) : State :=
  match s.fbView b, (s.bus b).sched with
  | some v, some sc =>
    (sc.slots.filter fun e => e.kind == .nodeIn || e.kind == .spareIn).foldl (fun s e =>
      let i := Item.form (0x2000 + 0x100 * b + e.slot) v.cycle s.time.lastAiTime ((s.bus b).slotData e.slot).record
      who.foldl (fun s m => s.ringItem m (96 + 8 * b) i none ai) s) s
  | _, _ => s

/-- Triad C is interrupted where frames came into a port's rings (`NP_CTRLp.RX_IRQ`). -/
def State.portInterrupts (s : State) (who : List Mast) (l : List Item) : State :=
  [1, 2, 3, 4].foldl (fun s p =>
    if l.any fun i => i.source / 256 == 0x10 + p then
      who.foldl (fun s m => if s.getF (.mast m) (npF fNpCtrlRxIrq p) = 1 then s.interrupt m 2 (0x500 + p) else s) s
    else s) s

/-! ## Process data and stations (R281 to R283) -/

/-- One more action instant lies behind every subscribed telegram (R281). -/
def State.ageTelegrams (s : State) : State :=
  { s with net := { s.net with pd := s.net.pd.map fun e =>
    if e.dir == 2 then { e with age := min 65535 (e.age + 1) } else e } }

/-- The frames of the release that match a subscription are placed (R308). (DEDUCED, log entry 43) -/
def State.placeTelegrams (s : State) (l : List Item) : State :=
  l.foldl (fun s i => match s.subscribed i with | some e => s.pdPlace i e | none => s) s

/-- A station's standing at a release (R282, R283), with the change to report: 1 lost, 2 back. (DEDUCED, log entry 43) -/
def Station.next (a : Station) (ages : List Nat) (valid : List Bool) : Station × Nat :=
  if valid = [] then (a, 0)
  else
    let a := { a with age := ages.foldl min 65535 }
    if valid.any id then
      if a.state = 0 ∨ a.state = 3 then ({ a with state := 4, gone := 0 }, if a.gone = 0 then 0 else 2)
      else ({ a with state := if valid.all id then 1 else 2 }, 0)
    else if a.state = 0 then ({ a with state := 3, gone := 0 }, 0)
    else if a.state = 3 then ({ a with gone := if a.gone = 0 then 0 else min 0xFFFFFFFF (a.gone + 1) }, 0)
    else ({ a with state := 3, gone := 1, losses := satAdd 65535 a.losses 1 }, 1)

/-- Judge one station at the release. (DEDUCED, log entry 43) -/
def State.judgeStation (s : State) (a : Station) : State :=
  let mine := s.net.pd.filter fun e => e.dir == 2 && e.station == a.index
  let r := a.next (mine.map fun e => e.age) (mine.map s.pdValid)
  let put := fun (x : Station) => if x.index == a.index then r.1 else x
  let s : State := { s with app := { s.app with stations := s.app.stations.map put } }
  if r.2 = 1 then
    (s.incF .agreed fMcStationsLosses 1).raiseLimited s.lane.active.mask a.index evStationLost a.index r.1.losses
  else if r.2 = 2 then s.raiseLimited s.lane.active.mask a.index evStationBack a.index a.gone
  else s

/-- Every station at the release. -/
def State.judgeStations (s : State) : State :=
  let s := s.app.stations.foldl State.judgeStation s
  s.putF .agreed fMcStationsLost (s.app.stations.filter fun a => a.state == 3).length

/-! ## The input image (R279 to R282) -/

/-- A telegram's 16-byte status and its data (R281). (DEDUCED, log entry 43) -/
def State.telegramBytes (s : State) (e : PdEntry) : List Byte :=
  let data := e.data.getD []
  natLe 2 e.age ++ natLe 1 (b2n (s.pdValid e) + 2 * b2n e.data.isNone) ++ natLe 1 e.station ++ natLe 4 e.seq
    ++ natLe 4 (e.at' / sec) ++ natLe 4 (e.at' % sec) ++ data ++ List.replicate (e.len - data.length) 0

/-- A station's 8-byte status (R282). -/
def Station.bytes (a : Station) : List Byte :=
  natLe 1 a.state ++ natLe 1 0 ++ natLe 2 a.losses ++ natLe 2 a.age ++ natLe 2 0

/-- The bytes of a section of the published image, `n` zeros if it has none. -/
def AppPart.fsec (a : AppPart) (off n : Nat) : List Byte :=
  match a.image.find? fun e => e.1 == off with
  | some e => e.2
  | none => List.replicate n 0

/-- Replace bytes of a list from an offset on. -/
def patchBytes (bs : List Byte) (off : Nat) (v : List Byte) : List Byte :=
  bs.take off ++ v ++ bs.drop (off + v.length)

/-- Patch a section with the values of released items: `f` names an item's offset in the section. -/
def patchItems (bs : List Byte) (l : List Item) (n : Nat) (f : Item → Option Nat) : List Byte :=
  l.foldl (fun bs i => match f i with | some o => patchBytes bs o (i.value.take n) | none => bs) bs

/-- Field inputs and pairs as released (R280). -/
def FieldPart.inputBytes (f : FieldPart) : List Byte :=
  (List.range 48).map fun i =>
    match f.relIns.find? fun e => e.1 == i + 1 with
    | some e => BitVec.ofNat 8 (b2n e.2.1 + 2 * b2n e.2.2)
    | none => 0
def FieldPart.pairBytes (f : FieldPart) : List Byte :=
  (List.range 24).flatMap fun p =>
    match f.relPairs.find? fun e => e.1 == p + 1 with
    | some e => [BitVec.ofNat 8 (b2n e.2.1), BitVec.ofNat 8 e.2.2]
    | none => [0, 0]

/-- The supervisor section (R268, R280). -/
def State.supervisorBytes (s : State) : List Byte :=
  ([0xE0090000, 0xE0090004, 0xE009000C, 0xE0090010, 0xE0090024, 0xE0090038, 0xE009003C, 0xE0090040].flatMap fun a =>
    natLe 4 (s.reg .agreed a).toNat) ++ List.replicate 16 0

/-- The comparator section (R280). -/
def State.comparatorBytes (s : State) : List Byte :=
  natLe 4 (s.getF .agreed fTbCmpfiredLoFired) ++ natLe 4 (s.getF .agreed fTbCmpfiredHiFired) ++
    (List.range 64).flatMap fun n =>
      let t := match s.pos.agreedFire.find? fun e => e.1 == n with
        | some e => e.2
        | none => 0
      natLe 4 (t % sec) ++ natLe 4 (t / sec)

/-- The slot records of a bus, by offset (R205, R280). -/
def State.slotSections (s : State) (b : Nat) : List (Nat × List Byte) :=
  match (s.bus b).sched with
  | none => []
  | some sc => (sc.slots.filter fun e => e.kind == .nodeIn || e.kind == .spareIn).map fun e =>
      (0x200 + 0x2800 * b + 40 * e.slot, ((s.bus b).slotData e.slot).record)

/-- The header (R279) for a release number, with the offsets of the process-data and station sections. -/
def State.imageHeader (s : State) (ai pd st : Nat) : List Byte :=
  let t := s.time.lastAiTime
  natLe 8 ai ++ natLe 8 (t / sec) ++ natLe 4 (t % sec) ++ natLe 1 s.ctl.mode.code ++ natLe 1 s.lane.lane.code
    ++ natLe 1 s.servo ++ natLe 1 0 ++ natLe 8 (s.app.cycle + 1) ++ natLe 4 pd ++ natLe 4 st ++ List.replicate 24 0

/-- Which read-back or tachometer item patches a section, and where. -/
def readBackAt (i : Item) : Option Nat :=
  if 0x0161 ≤ i.source ∧ i.source ≤ 0x0178 then some (8 * (i.source - 0x0161)) else none
def supplyAt (i : Item) : Option Nat := if i.source = 0x0180 then some 0 else none
def tachoAt (i : Item) : Option Nat :=
  if i.source = 0x0201 then some 0 else if i.source = 0x0202 then some 24 else none

/-- The input image of a release (R279 to R282), by offset. -/
def State.inputImage (s : State) (ai : Nat) (l : List Item) : List (Nat × List Byte) :=
  let pd := (s.net.pd.filter fun e => e.dir == 2).flatMap s.telegramBytes
  let ofsPd := 0x5408
  let ofsSt := ofsPd + pd.length
  [(0x000, s.imageHeader ai ofsPd ofsSt), (0x040, s.field.inputBytes), (0x070, s.field.pairBytes),
   (0x0A0, patchItems (s.app.fsec 0x0A0 192) l 8 readBackAt),
   (0x160, patchItems (s.app.fsec 0x160 4) l 4 supplyAt),
   (0x1A0, patchItems (s.app.fsec 0x1A0 48) l 24 tachoAt),
   (0x1D0, s.supervisorBytes)] ++ s.slotSections 0 ++ s.slotSections 1 ++
  [(0x5200, s.comparatorBytes), (ofsPd, pd), (ofsSt, s.app.stations.flatMap Station.bytes)]

/-! ## The release (R140) -/

/-- What an agreed item does at its release beside its ring. -/
def State.releaseItem (s : State) (i : Item) : State :=
  let s := if i.source = 0x0201 ∨ i.source = 0x0202 then s.posRelease i else s
  (s.fieldRelease i).bridgeRelease i

/-- The release completes on every mast that takes it: `ai` is the action instant's number, `at'` its local time. (DESIGN CHOICE, log entry 128) -/
def State.completeRelease (s : State) (ai at' : Nat) : State :=
  let l := s.intake.agreed
  let who := s.receivers
  let s := l.foldl State.gapCheck s
  let s := s.ageTelegrams.placeTelegrams l
  let s := (s.fbRelease 0).fbRelease 1
  let s := ((l.foldl (fun s i => s.releaseRing ai who i) s).slotRecords ai who 0).slotRecords ai who 1
  let s := (l.foldl State.releaseItem s).releaseStamps.judgeStations
  let s := s.portInterrupts who (l.filter fun i => (s.subscribed i).isNone)
  let image := s.inputImage ai l
  let s := who.foldl (fun s m =>
    let c := Copy.mast m
    let s := s.putF c fItRelstatItems (min 65535 l.length)
    let s := (s.putF c fItRelstatLatency (min 255 ((s.now - at') / us))).putF c fItRelstatPending 0
    if s.getF c fItCtrlRelIrq = 1 then s.interrupt m 3 0x400 else s) s
  let s := s.wrapF .agreed fItRelcntCount 1
  { s with
    intake := { s.intake with releasePending := false, released := l, agreed := [] }
    app := { s.app with released := some ai, releasedAt := s.now, image := image } }

/-- INTAKE_RELEASE (R140): the release of the last action instant completes, once every voting mast that still runs has been
filled (R138, R139). -/
def execIntakeRelease (t : Nat) (s : State) : Result :=
  let s := s.advance t
  match s.intake.instant with
  | none => ok s
  | some (ai, at') =>
    let waits := s.voters.any fun m => s.triadRuns m && (s.intake.masts.get m).fillFailed
    if !s.intake.releasePending || waits || s.inMode [.boot, .recovery, .standby, .safe] then ok s
    else ok (s.completeRelease ai at')

end Sys2Proof.Machine
end

