-- ==== Sys2Proof/Machine/Triads.lean ====
section
/-!
DEFINITION. Masts and triads: supervision, the vote, resynchronisation, the voting hardware's own faults, the last word and
fault injection (R76, R81 to R99).
-/
namespace Sys2Proof.Machine

/-- Bitwise majority of the three aligned vectors (R83). -/
def majority (x y z : BitVec 64) : BitVec 64 := (x &&& y) ||| (x &&& z) ||| (y &&& z)

/-- Number of the lowest set bit, 64 for zero. -/
def lowestBit (v : BitVec 64) : Nat := ((List.range 64).find? fun i => bitOf v.toNat i).getD 64

/-- The cores that differ from the majority (R84). -/
def minorityCores (x y z : BitVec 64) : List Nat :=
  let m := majority x y z
  (if x = m then [] else [0]) ++ (if y = m then [] else [1]) ++ (if z = m then [] else [2])

/-- The output vectors of the two cores that run while `out` is in resync. -/
def runningPair (out : Nat) (x y z : BitVec 64) : BitVec 64 × BitVec 64 :=
  if out = 0 then (y, z) else if out = 1 then (x, z) else (x, y)

/-- A triad of mast `m` declares a triad fault: the mast goes fail-silent (R87, R92). (DEDUCED, log entry 96) -/
def State.triadFault (s : State) (m : Mast) (tr : Triad) (cause core detail : Nat) : State :=
  s.goSilent m cause (whoOf m tr core) detail

/-- Show a triad's state in `TD_STAT`. -/
def State.showTriad (s : State) (m : Mast) (tr : Triad) : State :=
  let c := Copy.mast m
  let r := ((s.mast m).triad tr).resync
  let st := if r.isSome then 1 else 0
  let out := match r with | some x => x.core | none => 0
  match tr with
  | .p => (s.putF c fTdStatStateP st).putF c fTdStatOutP out
  | .c => (s.putF c fTdStatStateC st).putF c fTdStatOutC out

/-- Replace the state of one triad. -/
def State.setTriad (s : State) (m : Mast) (tr : Triad) (x : TriadState) : State :=
  (s.setMast m ((s.mast m).setTriad tr x)).showTriad m tr

/-- A resync of `core` starts (R85 step 1); too many within 1 s are a triad fault (R87, cause 0x07). -/
def State.startResync (s : State) (m : Mast) (tr : Triad) (core firstOut : Nat) : State :=
  let x := (s.mast m).triad tr
  let starts := s.now :: x.starts.filter fun a => decide (s.now < a + sec)
  let others := x.restored.filter fun r => r.1 != core
  let s := s.setTriad m tr { x with resync := some ⟨core, firstOut, s.now, false⟩, starts := starts, restored := others }
  if s.getF .agreed fTdCtrlResyncLimit < starts.length then s.triadFault m tr 0x07 core 0 else s

/-- The field of `TD_RSFAIL` of a mast. -/
def rsfailOf (m : Mast) : Fld := byteOf rTdRsfail m

/-- A resync of `core` has failed (R86): RESYNC_FAILED; the second of one core within 1 s is a triad fault (R87, 0x06),
otherwise a new resync of the same core starts at once. (DEDUCED, log entry 97) (DESIGN CHOICE, log entry 121) -/
def State.failResync (s : State) (m : Mast) (tr : Triad) (core firstOut began kind : Nat) : State :=
  let x := (s.mast m).triad tr
  let again := x.fails.any fun f => f.1 == core && decide (s.now < f.2 + sec)
  let s := s.setTriad m tr { x with fails := (core, s.now) :: x.fails }
  let s := s.raiseM m evResyncFailed (whoOf m tr core) kind
  let s := s.incF .agreed (rsfailOf m) 1
  let s := ((s.putF .agreed fTdLastrsDuration (min 65535 ((s.now - began) / us))).putF .agreed fTdLastrsKind 2).putF
    .agreed fTdLastrsWho (whoOf m tr core)
  if again then s.triadFault m tr 0x06 core 0 else s.startResync m tr core firstOut

/-- A core of a triple triad is found in the minority (R84, R85): within 1 ms of its restart that is a failed resync
(R86), whose duration counts from that restart, otherwise a resync begins. (DESIGN CHOICE, log entry 121) -/
def State.minority (s : State) (m : Mast) (tr : Triad) (core : Nat) : State :=
  match ((s.mast m).triad tr).restored.find? fun r => r.1 == core && decide (s.now ≤ r.2.1 + ms) with
  | some (_, at', firstOut) => s.failResync m tr core firstOut at' 3
  | none => s.startResync m tr core s.now

/-- The voted vector of a cycle passes the check stage to the L2 and the fabric (R83). -/
def State.passOn (s : State) (m : Mast) (tr : Triad) (v : BitVec 64) : State :=
  s.setMast m ((s.mast m).setTriad tr { (s.mast m).triad tr with passed := v })

/-- TRIAD_VOTE_DISAGREE (R83 to R87): the voter compares the three aligned output vectors of one cycle and passes on their majority;
of a cycle in which the triad declares a fault nothing is passed on. -/
def execTriadVoteDisagree (t : Nat) (m : Mast) (tr : Triad) (x y z : BitVec 64) (s : State) : Result :=
  let s := s.advance t
  if !s.triadRuns m then ok s
  else
    match ((s.mast m).triad tr).resync with
    | some r =>
      let p := runningPair r.core x y z
      if p.1 = p.2 then ok (s.passOn m tr p.1) else ok (s.triadFault m tr 0x05 r.core (lowestBit (p.1 ^^^ p.2)))
    | none =>
      match minorityCores x y z with
      | [] => ok (s.passOn m tr x)
      | [core] => ok ((s.passOn m tr (majority x y z)).minority m tr core)
      | _ => ok (s.triadFault m tr 0x04 0 (lowestBit ((x ^^^ y) ||| (x ^^^ z))))

/-- RESYNC_SELFTEST_DONE (R85 step 2, R86). -/
def execResyncSelftestDone (t : Nat) (m : Mast) (tr : Triad) (pass : Bool) (s : State) : Result :=
  let s := s.advance t
  if !s.triadRuns m then ok s
  else
    match ((s.mast m).triad tr).resync with
    | none => ok s
    | some r =>
      if r.tested then ok s
      else if pass then
        ok (s.setTriad m tr { (s.mast m).triad tr with resync := some { r with tested := true } })
      else ok (s.failResync m tr r.core r.firstOut r.began 1)

/-- The resync count of one triad in `TD_RESYNC0` to `TD_RESYNC3`. -/
def resyncCount (m : Mast) : Triad → Fld
  | .p => fTdResyncP.plus (4 * m.code)
  | .c => fTdResyncC.plus (4 * m.code)

/-- RESYNC_POINT (R85 steps 3 and 4): the state is copied and all three cores restart, or the copy's CRC is wrong.
`TD_RESYNC0` to `TD_RESYNC3` count the completed ones. (DEDUCED, log entry 97) (DESIGN CHOICE, log entry 122) -/
def execResyncPoint (t : Nat) (m : Mast) (tr : Triad) (crcOk : Bool) (s : State) : Result :=
  let s := s.advance t
  if !s.triadRuns m then ok s
  else
    match ((s.mast m).triad tr).resync with
    | none => ok s
    | some r =>
      if !r.tested then ok s
      else if crcOk then
        let took := (s.now - r.began) / us
        let s := s.setTriad m tr { (s.mast m).triad tr with resync := none, restored :=
          (r.core, s.now, r.firstOut) :: ((s.mast m).triad tr).restored.filter fun x => x.1 != r.core }
        let s := s.raiseM m evCoreResync (whoOf m tr r.core) took
        let s := s.incF .agreed (resyncCount m tr) 1
        let s := (s.putF .agreed fTdLastrsDuration (min 65535 took)).putF .agreed fTdLastrsKind 1
        ok (s.putF .agreed fTdLastrsWho (whoOf m tr r.core))
      else ok (s.failResync m tr r.core r.firstOut r.began 2)

/-- LOCKSTEP_TIMEOUT (R87): a core out of lockstep for more than 1 ms since step 1 of its first resync. -/
def execLockstepTimeout (t : Nat) (m : Mast) (tr : Triad) (s : State) : Result :=
  let s := s.advance t
  match ((s.mast m).triad tr).resync with
  | none => ok s
  | some r =>
    if s.triadRuns m ∧ r.firstOut + ms < s.now then ok (s.triadFault m tr 0x08 r.core 0) else ok s

/-- VOTER_HALF_MISMATCH (R89, R91): V1 and V2 differ, first in bit `bit`. -/
def execVoterHalfMismatch (t : Nat) (m : Mast) (tr : Triad) (bit : Nat) (s : State) : Result :=
  let s := s.advance t
  if s.triadRuns m then ok (s.triadFault m tr 0x01 0 bit) else ok s

/-- DELAY_STAGE_PARITY_ERROR (R90): in a stage of the input or output path of a core. -/
def execDelayStageParityError (t : Nat) (m : Mast) (tr : Triad) (output : Bool) (core stage group : Nat) (s : State) :
    Result :=
  let s := s.advance t
  if s.triadRuns m then
    ok (s.triadFault m tr (if output then 0x03 else 0x02) core (Config.stageDetail stage group core).toNat)
  else ok s

/-- A mast's die reads a temperature in quarter degrees (R76): above 145 °C MAST_TEMP_HIGH is raised, once until the die has
fallen below 140 °C. -/
def State.dieReads (s : State) (m : Mast) (quarters : Int) : State :=
  let c := Copy.mast m
  let s := (s.setMast m { s.mast m with dieTemp := quarters }).putF c fTdHealthTemp (unsigned 16 quarters)
  if 580 < quarters ∧ s.getF c fTdHealthTempWarn = 0 then
    (s.putF c fTdHealthTempWarn 1).raiseM m evMastTempHigh m.code (unsigned 32 (quarters / 4))
  else if quarters < 560 then s.putF c fTdHealthTempWarn 0
  else s

/-- `TD_TEMPALL` as an action instant shows it (R98): the die temperatures of the voting masts, 0 for the others. -/
def State.showTemps (s : State) : State :=
  Mast.all.foldl (fun s m =>
    s.putF .agreed (byteOf rTdTempall m)
      (if s.votes m && (s.mast m).alive then (max 1 (min 255 ((s.mast m).dieTemp / 4 + 64))).toNat else 0)) s

/-- A die above 160 °C makes its mast fail-silent (R76). -/
def State.dieLimit (s : State) (m : Mast) (quarters : Int) : State :=
  if 640 < quarters then s.goSilent m 0x0B (whoOf m .p 0) 0 else s

/-- MAST_SUPERVISION_FAULT (R76, R92, R427): the mast's own supervision of clock, supply and temperature. -/
def execMastSupervisionFault (t : Nat) (m : Mast) (f : MastFault) (s : State) : Result :=
  let s := s.advance t
  let c := Copy.mast m
  let who := whoOf m .p 0
  if !(s.mast m).powered || (s.mast m).silent then ok s
  else
    match f with
    | .crystal => ok ((s.putF c fTdClkstatXtalOk 0).goSilent m 0x09 who 0)
    | .pll => ok ((s.putF c fTdClkstatPllLock 0).goSilent m 0x09 who 0)
    | .rail n =>
      let s := if n = 0 then s.putF c fTdHealthVcoreOk 0 else if n = 1 then s.putF c fTdHealthVioOk 0 else s.putF c fTdHealthVddrOk 0
      ok (s.goSilent m 0x0A who 0)
    | .die q => if 640 < q then ok ((s.dieReads m q).dieLimit m q) else ok s

/-- DIE_TEMPERATURE_CROSSING (R76, R92): a new die temperature in quarter degrees of a mast that is not silent. -/
def execDieTemperatureCrossing (t : Nat) (m : Mast) (quarters : Int) (s : State) : Result :=
  let s := s.advance t
  if !(s.mast m).powered || (s.mast m).silent then ok s else ok ((s.dieReads m quarters).dieLimit m quarters)

/-- LAST_WORD_RECEIVED (R93): a mast receives the last word that a silent mast has sent and raises MAST_SILENT with the record's
contents; nothing else changes. What is not the sender's record is a corrupted word, which raises nothing. (DEDUCED, log entry 123) -/
def execLastWordReceived (t : Nat) (obs snd : Mast) (record : List Byte) (s : State) : Result :=
  let s := s.advance t
  if (s.mast obs).alive && obs != snd && (s.mast snd).silent && (s.mast snd).lastWord == some record then
    ok (s.raiseM obs evMastSilent (fieldAt record 4 4) (fieldAt record 3 1))
  else ok s

/-- `TD_INJSTAT.LAST` of a `TD_INJECT` value (its bits 17:8 and 3:0). -/
def injectLast (target : Mast) (tr : Triad) (core kind : Nat) : Nat :=
  (target.code * 256 + tr.code * 16 + core) * 16 + kind

/-- What each kind of injection does to the target (R97). -/
def State.injectEffect (s : State) (m : Mast) (tr : Triad) (core kind : Nat) : State :=
  if !s.triadRuns m then s
  else if kind = 1 then
    match ((s.mast m).triad tr).resync with
    | none => s.minority m tr core
    | some r =>
      if r.core = core then s
      else (s.triadFault m tr 0x05 r.core ((Config.freeValue s.free).toNat % 64))
  else if kind = 2 then s.triadFault m tr 0x02 core (Config.stageDetail 1 0 core).toNat
  else if kind = 3 then s.triadFault m tr 0x03 core (Config.stageDetail 1 0 core).toNat
  else s.triadFault m tr 0x01 0 ((Config.freeValue s.free).toNat % 64)

/-- The agreed injection of R97 at the action instant. A core number above 2 puts the write outside its range (R446); only
KIND 1 reports it as refused. (DEDUCED, log entry 95) -/
def State.triadInject (s : State) (target : Mast) (tr : Triad) (core kind : Nat) : State :=
  if 2 < core ∧ kind ≠ 1 then s
  else
    let s := s.putF .agreed fTdInjstatLast (injectLast target tr core kind)
    if s.ctl.mode ≠ .service ∨ kind = 0 ∨ 4 < kind ∨ 2 < core then s.putF .agreed fTdInjstatResult 2
    else
      let s := s.putF .agreed fTdInjstatResult 1
      let s := s.raise evInjectDone (injectLast target tr core kind) 0
      { s.injectEffect target tr core kind with free := s.free + 1 }

/-- An injection asked for by the masts in `writers` (R45, R97): want of agreement is reported before a mode that does not allow it. (DESIGN CHOICE, log entry 124) -/
def State.askInject (s : State) (writers : Per Bool) (target : Mast) (tr : Triad) (core kind : Nat) : State :=
  if !s.agreed writers then
    (s.putF .agreed fTdInjstatResult 3).putF .agreed fTdInjstatLast (injectLast target tr core kind)
  else s.triadInject target tr core kind

/-- TD_INJECT_OUTPUT_BIT (R97, KIND 1). -/
def execTdInjectOutputBit (t : Nat) (writers : Per Bool) (target : Mast) (tr : Triad) (core : Nat) (s : State) : Result :=
  ok ((s.advance t).askInject writers target tr core 1)

/-- TD_INJECT_INPUT_PARITY (R97, KIND 2). -/
def execTdInjectInputParity (t : Nat) (writers : Per Bool) (target : Mast) (tr : Triad) (core : Nat) (s : State) : Result :=
  ok ((s.advance t).askInject writers target tr core 2)

/-- TD_INJECT_OUTPUT_PARITY (R97, KIND 3). -/
def execTdInjectOutputParity (t : Nat) (writers : Per Bool) (target : Mast) (tr : Triad) (core : Nat) (s : State) : Result :=
  ok ((s.advance t).askInject writers target tr core 3)

/-- TD_INJECT_VOTER (R97, KIND 4). -/
def execTdInjectVoter (t : Nat) (writers : Per Bool) (target : Mast) (tr : Triad) (core : Nat) (s : State) : Result :=
  ok ((s.advance t).askInject writers target tr core 4)

/-- Clear VALID in a mast's silence record and recompute its CRC; SILENCES is not changed (R95, `TD_SILCLR`). -/
def Memory.clearSilence (m : Memory) : Memory :=
  let body := m.readBytes silenceAddr 2 ++ [0] ++ m.readBytes (silenceAddr + 3) 25
  m.writeBytes silenceAddr (body ++ natLe 4 (crc32c body).toNat)

/-- A write to `TD_SILCLR` by one mast: the correct key in SERVICE or STOP clears that mast's record. -/
def State.silClr (s : State) (m : Mast) (value : Word) : State :=
  if getBits value 31 16 = 0x5443 ∧ (s.ctl.mode = .service ∨ s.ctl.mode = .stop) then s.setMem m (s.mast m).mem.clearSilence
  else s

/-- TD_SILCLR (R95). -/
def execTdSilclr (t : Nat) (m : Mast) (value : Word) (s : State) : Result :=
  let s := s.advance t
  if s.triadRuns m then ok (s.silClr m value) else ok s

end Sys2Proof.Machine
end

