-- ==== Sys2Proof/Machine/ActionInstant.lean ====
section
/-!
DEFINITION. The action instant (R26, R29, R165): everything that happens on it, in one order.
-/
namespace Sys2Proof.Machine

/-- Gated door-bus records an agreed firing releases (R177, R210). -/
def State.gatesFired (s : State) : List Nat :=
  s.newlyFired.filterMap fun n =>
    s.lane.inOrder.findSome? fun m => (s.countedFirings n).findSome? fun f => if f.mast = m then f.dbus else none

/-- Step 10 of R29: the bridge opens and the stay link leaves bypass (R34, R352). (DEDUCED, log entry 19) -/
def State.openInterfaces (s : State) : State :=
  let due := s.inMode [.service, .stop, .run, .hold] || (s.ctl.mode == .boot && decide (s.ctl.stepAt 1150 ≤ s.now))
  if !due then s
  else
    let s := if s.getF .agreed fBbStatState = 1 then s.putF .agreed fBbStatState 2 else s
    s.slJoin

/-- The field engine has been sent a configuration and has adopted none by the end of step 10 (R223). -/
def State.engineUnconfigured (s : State) : State :=
  if s.field.fsec.isNone || s.field.adopted.isSome then s
  else s.raise evFiEngineCfg (maskOf (Mast.all.filter fun m => (s.field.links.get m).delivered.isSome)) 0

/-- Step 11 of R29: STOP at the first action instant from 1 200 ms on. (DEDUCED, log entry 19) -/
def State.reachStop (s : State) : State :=
  if s.ctl.mode ≠ .boot ∨ s.now < s.ctl.stepAt 1200 then s
  else
    let s := s.engineUnconfigured.enterStop 1
    let took := min 65535 s.bootMillis
    let s := s.putF .agreed fMcBoottimeToStop took
    let s := if 1200 < took then s.raise evBootLate took s.panel.overran else s
    { s with log := { s.log with begun := true } }

/-- Mode changes at an action instant that no command asks for (R27): the end of BOOT, of HOLD without zero speed, and of
SERVICE without a session. -/
def State.modeAtInstant (s : State) : State :=
  match s.ctl.mode with
  | .boot => s.reachStop
  | .service => if s.mon.session.isNone then s.enterStop 7 else s
  | .hold => if s.getF .agreed fSpStatZero = 0 then s.enterStop 5 else s
  | _ => s

/-- The agreed registers as this action instant shows them (R98, R128). -/
def State.publish (s : State) : State :=
  { s with shown := some ⟨s.regs.cells.filter fun c => c.1 / 2 ^ 32 == Copy.agreed.num⟩ }

/-- Everything that happens on the action instant of grid point `n` at local time `at'`. (DEDUCED, log entry 10) -/
def State.instant (s : State) (n at' : Nat) : State :=
  let previous := s.time.lastAiLocal
  let long := s.stretched n
  let s := (s.aiTick n at').combineAll
  let boot := s.ctl.mode == .boot
  let s := s.modeAtInstant.joinAtInstant.appAtInstant.forcesAtInstant.commitAtInstant.intakeDecide
  let gates := s.gatesFired
  let s := ((s.netAtInstant.openInterfaces.slAtInstant.bridgeAtInstant).fbAtInstant gates long).fieldAtInstant previous
  let s := if boot && s.ctl.mode == .stop then s.fbStart else s
  s.spAtInstant.exitAtInstant.cmpAtInstant.tachoAtInstant.supplyAtInstant.logAtInstant.showTemps.publish

/-- Have two active masts signalled a grid point on their lines, each by its own timebase: the second of three edges, the later of
two (R166)? -/
def State.twoEdges (s : State) (n : Nat) : Bool :=
  let edge := fun (m : Mast) => (s.mast m).alive && decide (s.aiOffset + n * s.aiCycle ≤ s.tbNs m)
  decide (2 ≤ (s.voters.filter edge).length)

/-- ACTION_INSTANT (R165, R166): the grid point module time has reached, once two masts have signalled it, if it has not been an
action instant yet. -/
def execActionInstant (t : Nat) (s : State) : Result :=
  let s := s.advance t
  match s.instants, s.aiDue with
  | true, some (n, at') => if s.twoEdges n then ok (s.instant n at') else ok s
  | _, _ => ok s

end Sys2Proof.Machine
end

