-- ==== Sys2Proof/Machine/UpdateReset.lean ====
section
/-!
DEFINITION. Update commands that end in a module reset, the jury turn, and the ROM's download in RECOVERY (R400 to R402, R406).
-/
namespace Sys2Proof.Machine

/-! ## The jury turn (R400) -/

/-- The mast in position C steps aside: isolated as planned, not lost, and powered off. (DESIGN CHOICE, log entry 73) -/
def State.stepAside (s : State) : State :=
  let m := s.lane.posC
  let s := s.dropMast m
  let s : State := { s with lane := { s.lane with isolated := s.lane.isolated.set m true } }
  let s := s.setMast m { s.mast m with isolated := true }
  (((s.setLane .duplex).forcedHandovers m).crossbar .c none).cutPower m

/-- Slot `k` of the jury mast takes both containers of a mast's slot `k`. -/
def State.juryWrites (s : State) (k : Nat) : State :=
  match s.voters with
  | [] => s
  | m :: _ => s.setMem .j ((s.mast .j).mem.takeRange (s.mast m).mem (regionBase k 1) 0x1800000)

/-- The jury turn for slot `k` (R400 steps 2 to 5): the state after it, and whether the jury mast holds the images. (DESIGN CHOICE, log entry 73) -/
def State.juryTurn (s : State) (k : Nat) (f : JuryFinding) : State × Bool :=
  let m := s.lane.posC
  let s := s.stepAside
  if f.selftest && f.turn then ((s.juryWrites k).raise evUpJuryTurn m.code 0, true)
  else (s.raise evUpJuryTurn m.code 12, false)

/-- The session is over without having been aborted. (DEDUCED, log entry 72) (DEDUCED, log entry 74) -/
def State.endUpdate (s : State) : State := (s.setSession none).setPhase 0

/-- TRIAL records that make slot `k` active with three starts (R400 step 6). -/
def State.trialRecords (s : State) (k : Nat) : State :=
  s.changeRecord s.voters fun r => { r with active := k, trial := true, tries := 3 }

/-- Boot records, what is told besides, and module reset (R70, R400 steps 6 and 7). -/
def State.activateSlot (s : State) (told : State → State) (k : Nat) (env : BootEnv) : State :=
  let version := match s.voters with | m :: _ => s.regionVersion m k 1 | [] => 0
  (told ((s.trialRecords k).raise evUpActivated k version)).endUpdate.moduleReset fMcRstcauseImage env

/-- Activation of the inactive slot past its gate (R400): with the jury turn unless it is skipped. A mast lost during the turn
costs the lane; a turn that fails leaves the boot records as they are. -/
def State.activateWith (s : State) (told : State → State) (code : Nat) (skip : Bool) (f : JuryFinding) (lost : Option Mast)
    (env : BootEnv) : State :=
  if s.upd.session.isNone then s.upDone code 3 13
  else if s.getF .agreed fUpStatPhase ≠ 4 then s.upDone code 3 14
  else
    let k := 1 - s.activeSlot
    if skip || s.lane.isolated.masts != [] then (s.upDone code 1 0).activateSlot told k env
    else
      match lost with
      | some m => (s.stepAside).applyLoss m 1 s.moduleTime
      | none =>
        let x := s.juryTurn k f
        if x.2 then (x.1.upDone code 1 0).activateSlot told k env
        else (x.1.upDone code 3 12).endUpdate.moduleReset fMcRstcauseImage env

/-- Activation by a command (R400), with nothing told besides. (DESIGN CHOICE, log entry 73) -/
def State.activate (s : State) (code : Nat) (skip : Bool) (f : JuryFinding) (lost : Option Mast) (env : BootEnv) : State :=
  s.activateWith id code skip f lost env

/-- ACTIVATE (R400). (DESIGN CHOICE, log entry 73) -/
def execActivate (t : Nat) (writers : Per Bool) (f : JuryFinding) (lost : Option Mast) (env : BootEnv) (s : State) : Result :=
  let s := s.advance t
  match s.upGate writers 3 [.service, .stop] [] with
  | some s => ok s
  | none => ok (s.activate 3 false f lost env)

/-- ACTIVATE_NO_JURY (R400): SERVICE only, without the jury turn. -/
def execActivateNoJury (t : Nat) (writers : Per Bool) (env : BootEnv) (s : State) : Result :=
  let s := s.advance t
  match s.upGate writers 4 [.service] [] with
  | some s => ok s
  | none => ok (s.activate 4 true ⟨false, ⟨false, [], []⟩, false, false⟩ none env)

/-- CONFIRM_WINDOW_EXPIRY (R402): `UP_RUNSEC` reaches CONFIRM_S without a CONFIRM. -/
def execConfirmWindowExpiry (t : Nat) (env : BootEnv) (s : State) : Result :=
  let s := s.advance t
  if s.ctl.mode ≠ .run ∨ !s.inTrial ∨ s.runSec < s.getF .agreed fUpCtrlConfirmS then ok s
  else
    let k := s.activeSlot
    let back := fun (r : BootRecord) => { r with active := 1 - k, trial := false, tries := 0, reject := withBit r.reject k true }
    ok (((s.changeRecord s.voters back).raise evUpFallback k 1).moduleReset fMcRstcauseImage env)

/-! ## The download in RECOVERY (R406) -/

/-- A mast keeps a container that passes R395 in a slot's region. (DEDUCED, log entry 74) -/
def State.keepContainer (s : State) (m : Mast) (slot kind : Nat) (c : List Byte) : State :=
  let a := regionBase slot kind
  let s' := s.setMem m (((s.mast m).mem.erase a (regionSize kind)).writeBytes a (c.take (regionSize kind)))
  if s'.checkContainer m a kind = 0 then s' else s

/-- RECOVERY_DOWNLOAD (R406): a firmware container, and an application container or none, come over the service port (1) or
Ethernet port 1 (2); `bad` names the masts whose flash writes fail. (DEDUCED, log entry 74) -/
def execRecoveryDownload (t : Nat) (via : Nat) (fw app : List Byte) (bad : Per Bool) (f : JuryFinding) (env : BootEnv) (s : State) :
    Result :=
  let s := s.advance t
  if s.ctl.mode ≠ .recovery then ok s
  else
    let active := s.activeSlot
    let verified := fun (k : Nat) => s.sameImage 1 (fun _ => k) != []
    let slot := if verified active || verified (1 - active) then 1 - active else 0
    let s := (s.voters.filter fun m => !bad.get m).foldl (fun s m =>
      let s := s.keepContainer m slot 1 fw
      if app = [] then s else s.keepContainer m slot 2 app) s
    let good := fun (kind : Nat) (c : List Byte) =>
      decide (2 ≤ (s.voters.filter fun m => s.regionHash m slot kind == some (imageHash (headOf c))).length)
    if !(good 1 fw && (app == [] || good 2 app)) then ok s
    else
      let x := if s.lane.isolated.masts = [] then s.juryTurn slot f else (s, true)
      let s := if x.2 then x.1.trialRecords slot else x.1
      ok ((s.moduleReset fMcRstcauseImage env).raise evUpRecovery via (fw.length + app.length))

end Sys2Proof.Machine
end

