-- ==== Sys2Proof/Machine/Fetch.lean ====
section
/-!
DEFINITION. The seal word's poll and the fetch of the application from the rack master (R53, R67, R70, R71).
-/
namespace Sys2Proof.Machine

/-- SEAL_POLL (R67): the mast in position A reads the seal word. (DEDUCED, log entry 67) (DEDUCED, log entry 79) -/
def execSealPoll (t : Nat) (word : List Byte) (s : State) : Result :=
  let s := s.advance t
  let m := s.lane.posA
  let due := decide (s.ctl.bootFrom + 300 * ms ≤ s.now) && (s.key.lastPollAt == 0 || decide (s.key.lastPollAt + sec ≤ s.now))
  if !s.ctl.on || s.inMode [.standby, .recovery] || !(s.mast m).alive || !due then ok s
  else
    let old := s.key.lastPoll
    let w := sealBytes word
    let s : State := { s with key := { s.key with lastPoll := w, lastPollAt := s.now } }
    let s := (s.putF .agreed fSlSealnowValue (sealValue w)).putF .agreed fSlSealfrmFrame (sealFrame w)
    let bad := sealFrame w != 0xA5
    if !bad && sealValue w == sealValue s.key.sealWord then ok s
    else
      let s : State := { s with key := { s.key with tampered := true } }
      let s := s.putF .agreed fSlKeystatSealChanged 1
      if w = old ∨ (bad ∧ sealFrame old ≠ 0xA5) then ok s
      else if bad then ok (s.raise evSealRead (sealFrame w) m.code)
      else ok (s.raise evSealChanged (sealValue old) (sealValue w))

/-- Is the application to be fetched (R70)? -/
def State.fetching (s : State) : Bool :=
  s.ctl.mode == .stop && s.getF .agreed fMcInhibitAppMismatch == 1 && fieldAt ((keyBody s.key.image 3).getD []) 0x34 4 % 2 == 1

/-- The application hash that the slot image asks for (R68). -/
def State.wantedApp (s : State) : List Byte := ((keyBody s.key.image 3).getD []).take 48

/-- APP_FETCH_REQUEST (R70, R71, R372): the application is asked for at the first action instant after STOP and every 10 s, in a
BULK frame to the rack master whose payload is APP_HASH. (DEDUCED, log entry 77) (DESIGN CHOICE, log entry 119) -/
def execAppFetchRequest (t : Nat) (s : State) : Result :=
  let s := s.advance t
  let due := match s.key.fetchAt with
    | some a => decide (a + 10 * sec ≤ s.now)
    | none => decide (s.ctl.since < s.time.lastAiLocal)
  if !s.fetching || !due || s.getF .agreed fSlAppfetchState == 3 then ok s
  else
    let s : State := { s with key := { s.key with fetchAt := some s.now, fetchMaster := s.slMaster } }
    let s := s.incF .agreed fSlAppfetchAttempts 1
    if s.slRole ≠ 1 ∨ s.slMaster = 0 ∨ s.slMaster = s.ownSlot then ok (s.fetchFails 1)
    else ok ((s.slSend 4 s.slMaster 0 1 s.wantedApp).putF .agreed fSlAppfetchState 2)

/-- APP_FETCH_SERVE (R70): as rack master the module is asked for an application by its hash. (DESIGN CHOICE, log entry 119) -/
def execAppFetchServe (t : Nat) (slot : Nat) (hash : List Byte) (s : State) : Result :=
  let s := s.advance t
  if s.slRole ≠ 2 then ok s
  else
    let has := s.app.desc.isSome && s.app.hash == hash
    ok { s with key := { s.key with served := some (slot, has) } }

/-- The reason of R71 for a reason of R395 or R398 that stopped the update. (DEDUCED, log entry 77) -/
def fetchReason (reason : Nat) : Nat :=
  if reason = 8 then 3 else if reason = 10 ∨ reason = 11 then 5 else 4

/-- APP_FETCH_RECEIVED (R70, R71): the rack master's answer: refused, or the image's bytes, whole or interrupted; the flash
writes of the masts in `bad` fail. A whole image is written, verified and activated like an update; one that comes while another
update session is open counts as interrupted. (DEDUCED, log entry 77) -/
def execAppFetchReceived (t : Nat) (refused whole : Bool) (image : List Byte) (bad : Per Bool) (f : JuryFinding) (env : BootEnv)
    (s : State) : Result :=
  let s := s.advance t
  if !s.fetching || s.getF .agreed fSlAppfetchState != 2 then ok s
  else if refused then ok (s.fetchFails 2)
  else if !whole || s.slMaster != s.key.fetchMaster || s.upd.session.isSome then ok (s.fetchFails 3)
  else if imageHash (headOf image) ≠ s.wantedApp then ok (s.fetchFails 4)
  else
    let s := (s.putF .agreed fSlAppfetchState 3).writeContainer image
    if !s.allWritten then
      let reason := s.getF .agreed fUpCmdstatReason
      ok ((s.upAbort 1).fetchFails (fetchReason reason))
    else
      let s := s.readback bad false
      if s.getF .agreed fUpStatPhase ≠ 4 then ok (s.fetchFails (fetchReason (s.getF .agreed fUpCmdstatReason)))
      else
        let version := fieldAt ((keyBody s.key.image 3).getD []) 0x30 4
        let told := fun (x : State) => x.raise evAppFetchOk s.slMaster version
        ok (s.activateWith told 3 false f none env)

end Sys2Proof.Machine
end

