-- ==== Sys2Proof/Machine/MonitorText.lean ====
section
/-!
DEFINITION. The text of the service monitor: words, numbers and the command words of R421.
-/
namespace Sys2Proof.Machine

/-- Split a line at spaces and tabs. -/
def wordsFrom (acc : List Byte) : List Byte → List (List Byte)
  | [] => if acc = [] then [] else [acc.reverse]
  | b :: bs =>
    if b = 0x20 ∨ b = 0x09 then (if acc = [] then wordsFrom [] bs else acc.reverse :: wordsFrom [] bs)
    else wordsFrom (b :: acc) bs

/-- The words of a line. -/
def wordsOf (line : List Byte) : List (List Byte) := wordsFrom [] line

/-- A letter as a small one. -/
def lowerByte (b : Byte) : Byte := if 0x41 ≤ b.toNat ∧ b.toNat ≤ 0x5A then b + 0x20 else b

/-- A word as the little-endian number of its small letters. -/
def wordNum (w : List Byte) : Nat := leNat (w.map lowerByte)

/-- Value of a digit in a base of at most 16. -/
def digitOf (base : Nat) (b : Byte) : Option Nat :=
  let c := (lowerByte b).toNat
  let v := if 0x30 ≤ c ∧ c ≤ 0x39 then c - 0x30 else if 0x61 ≤ c ∧ c ≤ 0x66 then c - 0x57 else 99
  if v < base then some v else none

/-- Value of a non-empty string of digits. -/
def digitsOf (base : Nat) (w : List Byte) : Option Nat :=
  if w = [] then none
  else w.foldl (fun a b =>
    match a, digitOf base b with
    | some n, some d => some (base * n + d)
    | _, _ => none) (some 0)

/-- A number, decimal or hexadecimal with 0x (R421). -/
def numberOf (w : List Byte) : Option Nat :=
  match w with
  | a :: b :: rest => if a = 0x30 ∧ lowerByte b = 0x78 then digitsOf 16 rest else digitsOf 10 w
  | _ => digitsOf 10 w

/-- A number that may carry a minus sign. -/
def intOf (w : List Byte) : Option Int :=
  match w with
  | 0x2D :: rest => (numberOf rest).map fun n => -(n : Int)
  | _ => (numberOf w).map fun n => (n : Int)

/-- All of a list of words as numbers. -/
def numbersOf (l : List (List Byte)) : Option (List Nat) :=
  l.foldr (fun w a => match numberOf w, a with | some n, some r => some (n :: r) | _, _ => none) (some [])

/-- The command words of R421. -/
inductive MonCmd where
  | help
  | id
  | status
  | log
  | reg
  | io
  | bus
  | net
  | time
  | sup
  | mem
  | keys
  | auth
  | resp
  | logout
  | start
  | stop
  | hold
  | resume
  | standby
  | reset
  | service
  | leave
  | force
  | unforce
  | set
  | out
  | bustest
  | inject
  | step
  | silclr
  | syslog
  | update
  | activate
  | abort
  | confirm
  | key
  deriving DecidableEq, Repr

/-- A command word as the little-endian number of its characters. -/
def MonCmd.num : MonCmd → Nat
  | .help => 0x706C6568
  | .id => 0x6469
  | .status => 0x737574617473
  | .log => 0x676F6C
  | .reg => 0x676572
  | .io => 0x6F69
  | .bus => 0x737562
  | .net => 0x74656E
  | .time => 0x656D6974
  | .sup => 0x707573
  | .mem => 0x6D656D
  | .keys => 0x7379656B
  | .auth => 0x68747561
  | .resp => 0x70736572
  | .logout => 0x74756F676F6C
  | .start => 0x7472617473
  | .stop => 0x706F7473
  | .hold => 0x646C6F68
  | .resume => 0x656D75736572
  | .standby => 0x7962646E617473
  | .reset => 0x7465736572
  | .service => 0x65636976726573
  | .leave => 0x657661656C
  | .force => 0x6563726F66
  | .unforce => 0x6563726F666E75
  | .set => 0x746573
  | .out => 0x74756F
  | .bustest => 0x74736574737562
  | .inject => 0x7463656A6E69
  | .step => 0x70657473
  | .silclr => 0x726C636C6973
  | .syslog => 0x676F6C737973
  | .update => 0x657461647075
  | .activate => 0x6574617669746361
  | .abort => 0x74726F6261
  | .confirm => 0x6D7269666E6F63
  | .key => 0x79656B

/-- Every command word. -/
def MonCmd.all : List MonCmd :=
  [.help, .id, .status, .log, .reg, .io, .bus, .net, .time, .sup, .mem, .keys,
   .auth, .resp, .logout, .start, .stop, .hold, .resume, .standby, .reset, .service, .leave, .force, .unforce,
   .set, .out, .bustest, .inject, .step, .silclr, .syslog, .update, .activate, .abort, .confirm, .key]

/-- The command a line begins with. -/
def lineCmd (line : List Byte) : Option MonCmd :=
  match wordsOf line with
  | w :: _ => MonCmd.all.find? fun c => c.num == wordNum w
  | [] => none

/-- Words that arguments are made of. -/
def txtOn : Nat := 0x6E6F
def txtOff : Nat := 0x66666F
def txtFree : Nat := 0x65657266
def txtAll : Nat := 0x6C6C61
def txtCold : Nat := 0x646C6F63
def txtFrom : Nat := 0x6D6F7266
def txtCode : Nat := 0x65646F63
def txtTriad : Nat := 0x6461697274
def txtMem : Nat := 0x6D656D
def txtSram : Nat := 0x6D617273
def txtDram : Nat := 0x6D617264
def txtNojury : Nat := 0x7972756A6F6E
def txtProg : Nat := 0x676F7270
def txtRevoke : Nat := 0x656B6F766572
def txtRate : Nat := 0x65746172
def txtSev : Nat := 0x766573

/-- Mast and triad of an argument: their letter or their code. -/
def mastCodeOf (w : List Byte) : Option Nat :=
  match wordNum w with
  | 0x61 => some 0
  | 0x62 => some 1
  | 0x63 => some 2
  | 0x6A => some 3
  | _ => match numberOf w with
    | some n => if n < 4 then some n else none
    | none => none
def triadCodeOf (w : List Byte) : Option Nat :=
  match wordNum w with
  | 0x70 => some 0
  | 0x63 => some 1
  | _ => match numberOf w with
    | some n => if n < 2 then some n else none
    | none => none

/-- A number or a dotted IPv4 address. -/
def addressOf (w : List Byte) : Option Nat :=
  if w.contains 0x2E then
    match numbersOf (wordsOf (w.map fun b => if b = 0x2E then 0x20 else b)) with
    | some [a, b, c, d] => if a < 256 ∧ b < 256 ∧ c < 256 ∧ d < 256 then some (((a * 256 + b) * 256 + c) * 256 + d) else none
    | _ => none
  else match numberOf w with
    | some n => if n < 2 ^ 32 then some n else none
    | none => none

/-- The bytes that groups of 8 hexadecimal digits spell. -/
def groupsOf (l : List (List Byte)) : Option (List Byte) :=
  l.foldr (fun w a =>
    match (if w.length = 8 then digitsOf 16 w else none), a with
    | some n, some r => some (natBe 4 n ++ r)
    | _, _ => none) (some [])

end Sys2Proof.Machine
end

