-- ==== Sys2Proof/Machine/Standby.lean ====
section
/-!
DEFINITION. STANDBY: its entry and the wake from it (R37 to R42).
-/
namespace Sys2Proof.Machine

/-- The mast that stays awake: the one in lane position A, else the first voting one (R37). (DEDUCED, log entry 83) -/
def State.awake (s : State) : Mast :=
  match s.lane.inOrder with
  | m :: _ => m
  | [] => .a

/-! ## Entry (R38, R39) -/

/-- The second named by `MC_WAKESEC_HI` and `MC_WAKESEC_LO`. -/
def State.wakeSecond (s : State) : Nat := s.getF .agreed fMcWakesecHiSecHi * 2 ^ 32 + s.getF .agreed fMcWakesecLoSecLo

/-- Does the timer count as a wake source (R38)? -/
def State.timerCounts (s : State) : Bool :=
  s.getF .agreed fMcWakecfgTimerEn == 1 && decide (s.moduleTime + sec ≤ s.wakeSecond * sec)

/-- The conditions of a STANDBY command (R38). -/
def State.standbyOk (s : State) : Bool :=
  s.getF .agreed fSpStatZero == 1 && s.lane.lane != .joining
    && (s.getF .agreed fMcWakecfgWakenEn == 1 || s.getF .agreed fMcWakecfgPhy1En == 1 || s.getF .agreed fMcWakecfgPhy3En == 1
      || s.timerCounts)

/-- Does an address lie in a checkpoint region? -/
def AppDescriptor.holds (d : AppDescriptor) (a : Nat) : Bool :=
  d.regions.any fun r => decide (r.1 ≤ a) && decide (a < r.1 + r.2 * 4096)

/-- The digest of a mast's checkpoint: its regions' pages and the block state (R38 step 2). -/
def State.checkpointDigest (s : State) (m : Mast) : Nat :=
  ckDigestOf (s.ckMap.map fun p =>
    if p.1 = 7 then (Config.blockPcrc p.2 s.free).toNat
    else (crc32c ((s.mast m).mem.readBytes (s.ckAddr p.1 p.2) 4096)).toNat)

/-- Every voting mast writes its checkpoint (R38 step 2). -/
def State.writeCheckpoint (s : State) : State :=
  let inside := fun (a : Nat) => match s.app.desc with | some d => d.holds a | none => false
  let digest := Per.map (Per.all ()) fun m _ => if s.votes m then some (s.checkpointDigest m) else none
  let cells := Per.map (Per.all ()) fun m _ => if s.votes m then (s.mast m).mem.cells.filter fun c => inside c.1 else []
  { s with
    free := s.free + 1
    app := { s.app with checkpoint := some (s.app.cycle, s.lane.inForce), ckDigest := digest, ckCells := cells } }

/-- The masts of a list whose checkpoint digests agree, at least two of them. -/
def State.checkpointPair (s : State) (l : List Mast) : List Mast :=
  let like := fun (m : Mast) => l.filter fun x => (s.app.ckDigest.get x).isSome && s.app.ckDigest.get x == s.app.ckDigest.get m
  match l.find? fun m => decide (2 ≤ (like m).length) with
  | some m => like m
  | none => []

/-- The retained area of a mast is brought up to date if its shadow has changed (R38 step 2). (DEDUCED, log entry 83) -/
def State.saveRetain (s : State) (m : Mast) : State :=
  match s.app.desc with
  | none => s
  | some d =>
    let r := s.app.retain.get m
    let data := s.shadow m d
    let digest := (crc64 data).toNat
    if d.retainLen = 0 ∨ r.written.isNone ∨ (r.written = some digest ∧ r.writing.isNone) then s
    else
      let bank := match (s.mast m).mem.retained with | some k => 1 - k | none => 0
      let s := s.setMem m ((s.mast m).mem.writeBank bank (s.app.cycle % 2 ^ 32) s.app.hash data)
      let x : RetainMast := { written := some digest }
      let s : State := { s with app := { s.app with retain := s.app.retain.set m x } }
      (s.incF (.mast m) fMcRetainWrites 1).showRetain m

/-- First eight bytes of the hash of the firmware image a mast runs. -/
def State.imageCode (s : State) (m : Mast) : Nat := fieldAt ((s.regionHash m s.activeSlot 1).getD []) 0 8

/-- A mast is powered off with its DRAM in self-refresh (R37). -/
def State.sleepMast (s : State) (m : Mast) : State :=
  let x := s.mast m
  let dram := x.mem.cells.filter fun c => regionOf c.1 == .dram
  let errs := x.mem.errs.filter fun e => regionOf e.1 == .dram
  let s := s.cutPower m
  let y := s.mast m
  let mem : Memory := { y.mem.putCells dram with errs := errs ++ y.mem.errs }
  s.setMast m { y with mem := mem, selfRefresh := true }

/-- The field engine as it loses its power, or restarts (R220): what the module's side holds of it remains. (DESIGN CHOICE, log entry 84) -/
def State.resetField (s : State) (powered : Bool) : State :=
  let f := s.field
  let at' := fun (p : LanePos) =>
    let m := s.lane.holder p
    ({ link := if s.lane.active.get m then some m else none } : FieldPos)
  let masts := f.masts.map fun _ x => { x with cfgIndex := 0, seq := 0, inSeq := none, engineCrc := 0, heard := s.now }
  let field : FieldPart := { fsec := f.fsec, body := f.body, powered := powered, posA := at' .a, posB := at' .b, posC := at' .c
                             masts := masts, relIns := f.relIns, relPairs := f.relPairs }
  ({ s with field := field }).showField

/-- Steps 3 and 4 of R38: everything but the awake mast goes to sleep; what is left of an offset is not corrected (R42). (DEDUCED, log entry 83) -/
def State.goStandby (s : State) : State :=
  let awake := s.awake
  let recorded := (sealValue s.key.sealWord, s.imageCode awake)
  let timer := s.timerCounts
  let s : State := { s with key := { s.key with recorded := some recorded }, standby := { timer := timer } }
  let s := (s.releaseForce none 4).changeMode .standby
  let s := ({ s with app := { s.app with releases := [] } }).putF .agreed fMcInhibitService 0
  let s := (s.raise evStandbyEnter (s.ckMap.length * 4096) 0).logAtInstant
  let x := s.mast awake
  let s := s.setMast awake { x with selfRefresh := true, dramScrub := false }
  let s := (s.lane.inOrder.filter fun m => m != awake).foldl State.sleepMast s
  let s := s.resetField false
  { s with
    time := { s.time with slew := 0 }
    pos := { s.pos with counting := false } }

/-- The entry from an accepted command on (R38, R39). (DEDUCED, log entry 83) -/
def State.enterStandby (s : State) : State :=
  let run := s.ctl.mode == .run
  let s := (s.putF .agreed fMcWakecfgResumeRun (b2n run)).writeCheckpoint
  let s := if run then s.changeMode .stop else s
  if s.checkpointPair s.voters = [] then s.raise evStandbyRefused 1 0
  else (s.voters.foldl State.saveRetain s).goStandby

/-- STANDBY (R38, R46). (DESIGN CHOICE, log entry 84) -/
def execStandby (t : Nat) (writers : Per Bool) (s : State) : Result :=
  let s := s.advance t
  match s.mcGate writers 6 [.stop, .run] with
  | some s => ok s
  | none =>
    if s.standbyOk then ok (s.mcDone 6 1 0xFF).enterStandby
    else ok ((s.mcDone 6 3 0xFF).raise evStandbyRefused 2 0)

/-! ## Wake (R40, R41) -/

/-- Is a wake source enabled: 0 `WAKE_N`, 1 port 1, 2 port 3, 3 the timer, which must have come (R40)? -/
def State.wakes (s : State) (src : Nat) : Bool :=
  match src with
  | 0 => s.getF .agreed fMcWakecfgWakenEn == 1
  | 1 => s.getF .agreed fMcWakecfgPhy1En == 1
  | 2 => s.getF .agreed fMcWakecfgPhy3En == 1
  | 3 => s.standby.timer && s.getF .agreed fMcWakecfgTimerEn == 1 && decide (s.wakeSecond * sec ≤ s.moduleTime)
  | _ => false

/-- The bit of `MC_WAKESRC` of a source. -/
def wakeBit (src : Nat) : Fld := ⟨rMcWakesrc, src, src⟩

/-- A mast is powered with its DRAM contents (R40 steps 2 and 3). -/
def State.wakeMast (s : State) (m : Mast) : State :=
  let x := s.mast m
  let on : MastState := { powered := true, mem := x.mem.clearSram, dieTemp := x.dieTemp, sramScrub := true, dramScrub := true }
  (s.setMast m on).putF (.mast m) fMcIdMast m.code

/-- Does a woken mast pass step 4 of R40: self-tests, and its active image verified? -/
def State.wakePasses (s : State) (f : WakeFinding) (m : Mast) : Bool :=
  f.selftest.get m && f.checkers.get m % 32 == 0 && (s.regionHash m s.activeSlot 1).isSome

/-- Do a mast's seal word and image match those recorded at entry (R41)? -/
def State.wakeCodes (s : State) (f : WakeFinding) (m : Mast) : Bool :=
  sealFrame (f.seals.get m) == 0xA5 && s.key.recorded == some (sealValue (f.seals.get m), s.imageCode m)

/-- The wake fails: a full BOOT follows (R41). -/
def State.wakeFailed (s : State) (step : Nat) (env : BootEnv) : State :=
  ((s.raise evWakeFailed step 0).logAtInstant).moduleReset fMcRstcauseStandbyFault env

/-- A mast takes the agreed checkpoint of another, its block state, time and slot image (R40 step 5). (DEDUCED, log entry 82) -/
def State.loadCheckpoint (s : State) (src awake m : Mast) : State :=
  let x := s.mast m
  let holds := fun (a : Nat) => match s.app.desc with | some d => d.holds a | none => false
  let kept : Memory := { x.mem with cells := x.mem.cells.filter fun c => !holds c.1 }
  let regions := match s.app.desc with | some d => d.regions | none => []
  let mem := regions.foldl (fun (y : Memory) r => y.markRange r.1 (r.2 * 4096)) (kept.putCells (s.app.ckCells.get src))
  let s := s.setMem m mem
  if m = awake then s
  else
    let s := (s.copyBlocks awake m).placeImage m s.key.image
    { s with time := { s.time with tb := s.time.tb.set m (s.time.tb.get awake) } }

/-- The supervisors of the voting masts start anew with the sealed parameters (R252, R256, R258, R270). -/
def State.wakeSupervisors (s : State) : State :=
  if s.sup.params.isNone then s
  else
    let s := s.safetyLoad ((keyBody s.key.image 4).getD []) s.voters
    s.voters.foldl (fun s m => ((s.odoFault m 4 1).showForce m)) s

/-- The bridge may open at the next action instant if its section is in force. -/
def State.bridgeReady (s : State) : State :=
  match keyBody s.key.image 0x40 with
  | none => s
  | some b => if s.slotOk ∧ (checkBridge b).isNone then s.putF .agreed fBbStatState 1 else s

/-- Steps 5 to 7 of R40: the lane is aligned, and the module goes to STOP or RUN. (DESIGN CHOICE, log entry 84) -/
def State.wakeUp (s : State) (millis : Nat) (lead : Mast) : State :=
  let awake := s.awake
  let x := s.mast awake
  let s := s.setMast awake { x with selfRefresh := false, dramScrub := true }
  let s := s.voters.foldl (fun s m => s.loadCheckpoint lead awake m) s
  let s : State := { s with pos := { s.pos with counting := true, query := Per.all none } }
  let s := [1, 2].foldl (fun s ax => s.putF .agreed (fTbAxstatGap.plus (0x20 * (ax - 1))) 1) s
  let s := (s.setServo tbHoldover).putF .agreed fTbStatAcqDone 1
  let s := ((s.resetField true).wakeSupervisors.bridgeReady).firstOwners.firstBeats s.now
  let run := s.getF .agreed fMcWakecfgResumeRun == 1 && s.getF .agreed fMcWakecfgToStop == 0
  let s : State := { s with app := { s.app with resumeNext := true }, standby := {} }
  let s := if run then s.changeMode .stop else s.enterStop 8
  let s := s.fbStart
  let s := if run then s.beginRun false else s
  let s := (s.putF .agreed fMcWakecfgResumeRun 0).putF .agreed fMcWakesrcWakeMs (min 65535 millis)
  s.raise evWake (getBits (s.reg .agreed rMcWakesrc) 3 0) millis

/-- WAKE_EVENT (R40, R41): `millis` milliseconds pass from the event to STOP or RUN; step 4 of R40, whose failures are isolated
then, ends at its latest time. (DESIGN CHOICE, log entry 84) -/
def execWakeEvent (t : Nat) (src : Nat) (f : WakeFinding) (millis : Nat) (env : BootEnv) (s : State) : Result :=
  let s := s.advance t
  if s.ctl.mode ≠ .standby ∨ !s.wakes src then ok s
  else
    let awake := s.awake
    let others := s.lane.inOrder.filter fun m => m != awake
    let ends := s.now + millis * ms
    let s := (s.putF .agreed (wakeBit src) 1).advance (s.now + min millis 275 * ms)
    let s := others.foldl State.wakeMast s
    let s := others.foldl (fun s m => s.bootCheckers f.checkers m) s
    let passed := s.lane.inOrder.filter fun m => m == awake || s.wakePasses f m
    if passed.length < 2 ∨ !passed.all (s.wakeCodes f) then ok (s.wakeFailed 4 env)
    else
      match s.checkpointPair passed with
      | [] => ok (s.wakeFailed 5 env)
      | lead :: _ =>
        let s := (others.filter fun m => !passed.contains m).foldl State.bootIsolate s
        ok ((s.advance ends).wakeUp millis lead)

/-- STANDBY_MAST_FAULT (R41): the awake mast's own supervision finds a fault. (DESIGN CHOICE, log entry 84) -/
def execStandbyMastFault (t : Nat) (env : BootEnv) (s : State) : Result :=
  let s := s.advance t
  if s.ctl.mode = .standby then ok (s.moduleReset fMcRstcauseStandbyFault env) else ok s

end Sys2Proof.Machine
end

