-- ==== Sys2Proof/Machine/Monitor.lean ====
section
/-!
DEFINITION. The service port and its monitor (R417 to R421).

A line that comes in waits; the command row of its first word takes it at the action instant and answers it. What a command
of the monitor writes, every voting mast writes (R418).
-/
namespace Sys2Proof.Machine

/-! ## Lines and answers -/

/-- Is the monitor available (R417)? -/
def State.monOpen (s : State) : Bool := s.ctl.on && !s.panel.holding && s.inMode [.service, .stop, .run, .hold, .safe]

/-- A line or a block has come: the session's idle time starts anew (R420). -/
def State.monTouch (s : State) : State :=
  match s.mon.session with
  | some (k, _) => { s with mon := { s.mon with session := some (k, s.now) } }
  | none => s

/-- Give an answer. (DEDUCED, log entry 46) -/
def State.monAnswer (s : State) (a : MonAnswer) : State := { s with mon := { s.mon with answer := a } }

/-- A line is turned away: counted, and answered with `ERR n`. -/
def State.lineRefused (s : State) (line : List Byte) (n : Nat) : State :=
  (s.incF .agreed fSvLinesDiscarded 1).monAnswer ⟨wordNum ((wordsOf line).headD []), n, []⟩

/-- SERVICE_LINE_RECEIVED (R417, R418): a complete line without its end. (DEDUCED, log entry 88) (DEDUCED, log entry 90) -/
def execServiceLineReceived (t : Nat) (line : List Byte) (s : State) : Result :=
  let s := s.advance t
  if !s.monOpen then ok s
  else
    let s := (s.incF .agreed fSvLinesLines 1).monTouch
    let s : State := { s with mon := { s.mon with echo := line } }
    if 255 < line.length then ok (s.lineRefused line 2)
    else if 4 ≤ s.mon.waiting.length || s.mon.transfer.isSome then ok (s.lineRefused line 6)
    else
      match wordsOf line, lineCmd line with
      | [], _ => ok s
      | w :: _, none => ok (s.monAnswer ⟨wordNum w, 1, []⟩)
      | _, some _ => ok { s with mon := { s.mon with waiting := s.mon.waiting ++ [line] } }

/-- Access of a command (R421): open, in a session, or in a session in SERVICE. -/
inductive MonAccess where
  | open | session | service
  deriving DecidableEq, Repr

/-- What carrying a command out gives: the state, the number n of `ERR n`, and what it shows. -/
abbrev MonOutcome := State × Nat × List (Nat × Nat)

/-- The modes in which the monitor is available. -/
def monModes : List Mode := [.service, .stop, .run, .hold, .safe]

/-- The event of a command that is not open (R421). -/
def State.monEvent (s : State) (c : MonCmd) (n : Nat) : State := s.raise evMonCommand (c.num % 2 ^ 32) n

/-- Answer a command, and raise MON_COMMAND unless it is open. -/
def State.monDone (s : State) (c : MonCmd) (acc : MonAccess) (n : Nat) (shown : List (Nat × Nat)) : State :=
  let s := s.monAnswer ⟨c.num, n, shown⟩
  if acc = .open then s else s.monEvent c n

/-- Why a command may not run: 0 it may, 3 no session, 4 the mode (R418, R421). (DEDUCED, log entry 88) -/
def State.monBar (s : State) (acc : MonAccess) (modes : List Mode) : Nat :=
  if acc ≠ .open ∧ s.mon.session.isNone then 3
  else if acc = .service ∧ s.ctl.mode ≠ .service then 4
  else if s.inMode modes then 0 else 4

/-- The line in front, if it is command `c`'s, with its arguments; the line is taken. (DEDUCED, log entry 88) -/
def State.monTake (s : State) (c : MonCmd) : Option (State × List (List Byte)) :=
  match s.mon.waiting with
  | line :: rest =>
    if s.monOpen && s.instants && lineCmd line == some c then
      some ({ s with mon := { s.mon with waiting := rest } }, (wordsOf line).drop 1)
    else none
  | [] => none

/-- A command of the monitor: its line is taken, its access and mode are checked, and it is carried out and answered. (DEDUCED, log entry 88) -/
def State.monRun (s : State) (c : MonCmd) (acc : MonAccess) (modes : List Mode)
    (run : State → List (List Byte) → MonOutcome) : State :=
  match s.monTake c with
  | none => s
  | some (s, args) =>
    let bar := s.monBar acc modes
    if bar ≠ 0 then s.monDone c acc bar []
    else
      let r := run s args
      r.1.monDone c acc r.2.1 r.2.2

/-- The state a command leaves. -/
def after (r : Result) (s : State) : State :=
  match r with
  | .next s' => s'
  | _ => s

/-- The masts that write what the monitor asks for: every voting one (R418). -/
def State.all (s : State) : Per Bool := s.lane.active

/-- A command without arguments. -/
def plain (f : State → MonOutcome) (s : State) (args : List (List Byte)) : MonOutcome :=
  if args = [] then f s else (s, 2, [])

/-! ## Commands that show (R421) -/

/-- The mast the answer is reported from: the one in lane position A, else the first voting one (R418). -/
def State.monMast (s : State) : Mast :=
  match s.lane.inOrder with
  | m :: _ => m
  | [] => s.lane.posA

/-- Show registers by address. -/
def State.showRegs (s : State) (l : List Nat) : List (Nat × Nat) := l.map fun a => (a, (s.readReg s.monMast .c a).toNat)

/-- The occupied addresses of a block that lie in a range. -/
def regsIn (lo hi : Nat) : List Nat :=
  (blockRows lo).flatMap fun r =>
    ((List.range r.count).map fun k => r.base + k * r.stride).filter fun a => decide (lo ≤ a ∧ a ≤ hi)

/-- Show a range of registers. -/
def State.showRange (s : State) (lo hi : Nat) : MonOutcome := (s, 0, s.showRegs (regsIn lo hi))

/-- MON_HELP. -/
def execMonHelp (t : Nat) (s : State) : Result :=
  ok ((s.advance t).monRun .help .open monModes fun s args =>
    match args with
    | [] => (s, 0, MonCmd.all.map fun c => (c.num, 0))
    | [w] =>
      match MonCmd.all.find? fun c => c.num == wordNum w with
      | some c => (s, 0, [(c.num, 0)])
      | none => (s, 2, [])
    | _ => (s, 2, []))

/-- MON_ID: identity, serial, slot, image versions, CONFIG_VERSION and PARAM_SET_ID; RACK_ID and SLOT_NAME under keys 0 and 1. -/
def execMonId (t : Nat) (s : State) : Result :=
  ok ((s.advance t).monRun .id .open monModes (plain fun s =>
    let name := match keyBody s.key.image 1 with
      | some b => leNat (slice b 8 32)
      | none => 0
    (s, 0, s.showRegs [rMcId, rUpSerialLo, rUpSerialHi, rSlSlotid, rUpFwver0, rUpFwver1, rUpAppver0, rUpAppver1, rSlCfgver,
      rSpParamid] ++ [(0, s.rackId), (1, name), (2, fieldAt ((keyBody s.key.image 3).getD []) 0x30 4)])))

/-- MON_STATUS. -/
def execMonStatus (t : Nat) (s : State) : Result :=
  ok ((s.advance t).monRun .status .open monModes (plain fun s =>
    (s, 0, s.showRegs [rMcMode, rLmStat, rLmOwner, rMcInhibit, rTbStat, rMcBoottime, rMcRestart])))

/-- Arguments of `log`: N, SEQ and C. -/
def logArgs : Option Nat × Option Nat × Option Nat → List (List Byte) → Option (Option Nat × Option Nat × Option Nat)
  | r, [] => some r
  | (n, q, c), w :: v :: rest =>
    if wordNum w = txtFrom then
      match numberOf v with
      | some x => logArgs (n, some x, c) rest
      | none => none
    else if wordNum w = txtCode then
      match numberOf v with
      | some x => logArgs (n, q, some x) rest
      | none => none
    else none
  | _, _ => none

/-- The entries `log` shows: those of the code, from SEQ on or the newest N. -/
def LogPart.pick (l : LogPart) (n q c : Option Nat) : List LogEntry :=
  let fits := fun (x : LogEntry) =>
    match c with
    | some v => if v < 256 then x.event.code / 256 == v else x.event.code == v
    | none => true
  let es := l.entries.filter fits
  match q with
  | some v =>
    let es := es.filter fun x => decide (v ≤ x.seq)
    match n with
    | some k => es.take k
    | none => es
  | none => es.drop (es.length - n.getD 20)

/-- MON_LOG: entries as SEQ and the 32 bytes of the entry as a number. -/
def execMonLog (t : Nat) (s : State) : Result :=
  ok ((s.advance t).monRun .log .open monModes fun s args =>
    let start := match args with
      | w :: rest =>
        match numberOf w with
        | some n => ((some n, none, none), rest)
        | none => ((none, none, none), args)
      | [] => ((none, none, none), [])
    match logArgs start.1 start.2 with
    | some (n, q, c) =>
      if n.getD 20 = 0 ∨ 4096 < n.getD 20 then (s, 2, [])
      else (s, 0, (s.log.pick n q c).map fun x => (x.seq, leNat (entryBytes x)))
    | none => (s, 2, []))

/-- MON_REG. -/
def execMonReg (t : Nat) (s : State) : Result :=
  ok ((s.advance t).monRun .reg .open monModes fun s args =>
    match numbersOf args with
    | some (a :: rest) =>
      let n := rest.headD 1
      if 1 < rest.length ∨ n = 0 ∨ 64 < n ∨ a % 4 ≠ 0 ∨ a < 0xE0000000 ∨ 0xE0110000 < a + 4 * n then (s, 2, [])
      else (s, 0, s.showRegs ((List.range n).map fun k => a + 4 * k))
    | _ => (s, 2, []))

/-- MON_IO. -/
def execMonIo (t : Nat) (s : State) : Result :=
  ok ((s.advance t).monRun .io .open monModes (plain fun s => s.showRange 0xE0080000 0xE008FFFF))

/-- MON_BUS. -/
def execMonBus (t : Nat) (s : State) : Result :=
  ok ((s.advance t).monRun .bus .open monModes fun s args =>
    match numbersOf args with
    | some [b] => if b < 2 then s.showRange (0xE0060000 + 0x800 * b) (0xE00607FF + 0x800 * b) else (s, 2, [])
    | _ => (s, 2, []))

/-- MON_NET. -/
def execMonNet (t : Nat) (s : State) : Result :=
  ok ((s.advance t).monRun .net .open monModes fun s args =>
    match numbersOf args with
    | some [p] =>
      if 1 ≤ p ∧ p ≤ 4 then s.showRange (0xE0050000 + 0x1000 * (p - 1)) (0xE0050FFF + 0x1000 * (p - 1)) else (s, 2, [])
    | _ => (s, 2, []))

/-- MON_TIME. -/
def execMonTime (t : Nat) (s : State) : Result :=
  ok ((s.advance t).monRun .time .open monModes (plain fun s =>
    (s, 0, s.showRegs (regsIn 0xE0040000 0xE004FFFF ++ [rSlTimeofs]))))

/-- MON_SUP: the sealed RECORD stands under key 0. -/
def execMonSup (t : Nat) (s : State) : Result :=
  ok ((s.advance t).monRun .sup .open monModes (plain fun s =>
    (s, 0, s.showRegs (regsIn 0xE0090000 0xE009FFFF) ++ [(0, leNat s.sup.record)])))

/-- MON_MEM. -/
def execMonMem (t : Nat) (s : State) : Result :=
  ok ((s.advance t).monRun .mem .open monModes (plain fun s =>
    (s, 0, s.showRegs (regsIn 0xE0030000 0xE003FFFF ++ [rTdTempall]))))

/-- MON_KEYS. -/
def execMonKeys (t : Nat) (s : State) : Result :=
  ok ((s.advance t).monRun .keys .open monModes (plain fun s => (s, 0, s.showRegs [rUpKeystat])))

/-! ## Sessions (R419, R420) -/

/-- The modes in which a session can be opened. -/
def authModes : List Mode := [.service, .stop, .run, .hold]

/-- MON_AUTH: the port draws a challenge for a key entry. (DEDUCED, log entry 89) -/
def execMonAuth (t : Nat) (s : State) : Result :=
  ok ((s.advance t).monRun .auth .open authModes fun s args =>
    match numbersOf args with
    | some [k] =>
      if 7 < k then (s, 2, [])
      else if s.mon.session.isSome then (s, 6, [])
      else if s.mon.lockedAt.isSome ∨ s.app.desc.isNone then (s, 5, [])
      else
        let c := (List.range 16).map fun i => (Config.challenge s.free)[i]?.getD 0
        let s : State := { s with
          mon := { s.mon with challenge := some (k, c, s.now) }
          free := s.free + 1 }
        (s, 0, (List.range 4).map fun g => (g, beNat (slice c (4 * g) 4)))
    | _ => (s, 2, []))

/-- A maintenance key in a mast's verified application (R419): x‖y of an entry in use. -/
def State.maintenanceKey (s : State) (m : Mast) (k : Nat) : Option (List Byte) :=
  let a := regionBase s.activeSlot 2
  let mem := (s.mast m).mem
  let table := mem.readBytes (a + 0x10000 + leNat (mem.readBytes (a + 0x14) 4) - 776) 776
  if fieldAt table 0 4 = 0x4B4D5054 ∧ fieldAt table 4 4 ≤ 8 ∧ k < fieldAt table 4 4 then some (slice table (8 + 96 * k) 96)
  else none

/-- The message that is signed (R420). (DEDUCED, log entry 92) -/
def State.authMessage (s : State) (c : List Byte) : List Byte :=
  [0x54, 0x50, 0x4D, 0x4D] ++ c ++ natLe 8 s.upd.serial ++ natLe 4 s.rackId ++ natLe 1 (s.getF .agreed fSlSlotidImage)

/-- Does a mast verify an answer? -/
def State.verifies (s : State) (k : Nat) (c sig : List Byte) (m : Mast) : Bool :=
  match s.maintenanceKey m k with
  | some key => Config.ecdsaVerify key (s.authMessage c) sig
  | none => false

/-- A failed answer (R420): the third within 60 s refuses `auth` for 60 s. (DEDUCED, log entry 89) -/
def State.authFailed (s : State) : State :=
  let fails := s.now :: s.mon.fails.filter fun f => decide (s.now < f + 60 * sec)
  let s := s.incF .agreed fSvAuthFailed 1
  let s : State := { s with mon := { s.mon with fails := fails } }
  if 3 ≤ fails.length then
    ({ s with mon := { s.mon with lockedAt := some s.now } }).raise evMonAuthFail (min 255 fails.length) 1
  else s

/-- The session opens. -/
def State.openSession (s : State) (k : Nat) : State :=
  let s : State := { s with mon := { s.mon with session := some (k, s.now), challenge := none } }
  let s := ((s.putF .agreed fSvStatSession 1).putF .agreed fSvStatKey k).incF .agreed fSvAuthOpened 1
  s.raise evMonSession 1 k

/-- MON_RESP: the signed answer to the challenge. (DEDUCED, log entry 89) -/
def execMonResp (t : Nat) (s : State) : Result :=
  ok ((s.advance t).monRun .resp .open authModes fun s args =>
    match groupsOf args with
    | some sig =>
      if sig.length ≠ 96 then (s, 2, [])
      else if s.mon.session.isSome then (s, 6, [])
      else
        match s.mon.challenge with
        | some (k, c, at') =>
          if at' + 120 * sec ≤ s.now then (s, 5, [])
          else if 2 ≤ (s.voters.filter (s.verifies k c sig)).length then (s.openSession k, 0, [])
          else (s.authFailed, 5, [])
        | none => (s, 5, [])
    | none => (s, 2, []))

/-- The session ends, and SERVICE with it (R27, R420). -/
def State.monLogout (s : State) : State :=
  let s := s.endSession
  if s.ctl.mode = .service then s.enterStop 7 else s

/-- MON_LOGOUT. -/
def execMonLogout (t : Nat) (s : State) : Result :=
  ok ((s.advance t).monRun .logout .session monModes (plain fun s => (s.monLogout, 0, [])))

/-- AUTH_CHALLENGE_EXPIRY (R420). -/
def execAuthChallengeExpiry (t : Nat) (s : State) : Result :=
  let s := s.advance t
  match s.mon.challenge with
  | some (_, _, at') =>
    if at' + 120 * sec ≤ s.now then ok { s with mon := { s.mon with challenge := none } } else ok s
  | none => ok s

/-- SESSION_IDLE_TIMEOUT (R420). -/
def execSessionIdleTimeout (t : Nat) (s : State) : Result :=
  let s := s.advance t
  match s.mon.session with
  | some (_, last) => if last + 600 * sec ≤ s.now then ok s.endSession else ok s
  | none => ok s

/-- AUTH_LOCKOUT_END (R420). -/
def execAuthLockoutEnd (t : Nat) (s : State) : Result :=
  let s := s.advance t
  match s.mon.lockedAt with
  | some at' => if at' + 60 * sec ≤ s.now then ok { s with mon := { s.mon with lockedAt := none } } else ok s
  | none => ok s

/-! ## Mode commands (R46) -/

/-- What `MC_CMDSTAT` says of the mode command just made: OK, not in this mode, or refused with result and reason. -/
def State.mcOutcome (s : State) : MonOutcome :=
  let c := Copy.mast s.monMast
  let r := s.getF c fMcCmdstatResult
  if r = 1 then (s, 0, []) else if r = 2 then (s, 4, [])
  else (s, 5, [(0, r), (1, s.getF c fMcCmdstatReason)])

/-- MON_START: `start` or `start cold`. -/
def execMonStart (t : Nat) (s : State) : Result :=
  ok ((s.advance t).monRun .start .session monModes fun s args =>
    match args with
    | [] => (after (execStart s.now s.all s) s).mcOutcome
    | [w] => if wordNum w = txtCold then (after (execStartCold s.now s.all s) s).mcOutcome else (s, 2, [])
    | _ => (s, 2, []))

/-- MON_STOP. -/
def execMonStop (t : Nat) (s : State) : Result :=
  ok ((s.advance t).monRun .stop .session monModes (plain fun s => (after (execStop s.now s.all s) s).mcOutcome))

/-- MON_HOLD. -/
def execMonHold (t : Nat) (s : State) : Result :=
  ok ((s.advance t).monRun .hold .session monModes (plain fun s => (after (execHold s.now s.all s) s).mcOutcome))

/-- MON_RESUME. -/
def execMonResume (t : Nat) (s : State) : Result :=
  ok ((s.advance t).monRun .resume .session monModes (plain fun s => (after (execResume s.now s.all s) s).mcOutcome))

/-- MON_STANDBY. -/
def execMonStandby (t : Nat) (s : State) : Result :=
  ok ((s.advance t).monRun .standby .session monModes (plain fun s => (after (execStandby s.now s.all s) s).mcOutcome))

/-- MON_SERVICE. -/
def execMonService (t : Nat) (s : State) : Result :=
  ok ((s.advance t).monRun .service .session monModes (plain fun s => (after (execService s.now s.all s) s).mcOutcome))

/-- MON_LEAVE. -/
def execMonLeave (t : Nat) (s : State) : Result :=
  ok ((s.advance t).monRun .leave .service monModes (plain fun s => (after (execLeave s.now s.all s) s).mcOutcome))

/-- MON_RESET: the answer goes out before the reset; `env` is what the start after it finds. (DEDUCED, log entry 92) -/
def execMonReset (t : Nat) (env : BootEnv) (s : State) : Result :=
  let s := s.advance t
  match s.monTake .reset with
  | none => ok s
  | some (s, args) =>
    let bar := s.monBar .session monModes
    if bar ≠ 0 then ok (s.monDone .reset .session bar [])
    else if args ≠ [] then ok (s.monDone .reset .session 2 [])
    else
      match s.mcGate s.all 9 [.stop, .service] with
      | some s => ok (s.mcOutcome.1.monDone .reset .session s.mcOutcome.2.1 s.mcOutcome.2.2)
      | none => ok ((s.monDone .reset .session 0 []).moduleReset fMcRstcauseSoftware env)

/-! ## Symbols (R289, R292, R294) -/

/-- MON_FORCE. -/
def execMonForce (t : Nat) (s : State) : Result :=
  ok ((s.advance t).monRun .force .session [.stop, .run, .hold] fun s args =>
    match args with
    | [i, v] =>
      match numberOf i, intOf v with
      | some i, some v =>
        let r := s.forceSymbol i v
        if r.2 = 0 then (r.1, 0, []) else (r.1, 5, [(0, r.2)])
      | _, _ => (s, 2, [])
    | _ => (s, 2, []))

/-- MON_UNFORCE: one symbol or all, at the next action instant. (DEDUCED, log entry 92) -/
def execMonUnforce (t : Nat) (s : State) : Result :=
  ok ((s.advance t).monRun .unforce .session [.stop, .run, .hold] fun s args =>
    match args with
    | [w] =>
      if wordNum w = txtAll then (s.askRelease none 1, 0, [])
      else
        match numberOf w with
        | some i => if s.app.forced i then (s.askRelease (some i) 1, 0, []) else (s, 5, [])
        | none => (s, 2, [])
    | _ => (s, 2, []))

/-- The pairs of `set`, each with the size and type its symbol has. -/
def AppPart.changeItems (a : AppPart) : List (List Byte) → Option (List ChangeItem)
  | [] => some []
  | [_] => none
  | i :: v :: rest =>
    match numberOf i, intOf v, a.changeItems rest with
    | some i, some v, some l =>
      let x := match a.symbol i with
        | some y => (y.size, y.typ)
        | none => (0, 0)
      some (⟨i, x.1, x.2, v⟩ :: l)
    | _, _, _ => none

/-- MON_SET: a change request of 1 to 16 symbols (R289). -/
def execMonSet (t : Nat) (s : State) : Result :=
  ok ((s.advance t).monRun .set .session [.run, .hold] fun s args =>
    match s.app.changeItems args with
    | some l =>
      if l = [] ∨ 16 < l.length then (s, 2, [])
      else
        let r := s.changeRequest true (fieldAt s.app.hash 0 8) l
        if r.2 = 0 then (r.1, 0, []) else (r.1, 5, [(0, r.2)])
    | none => (s, 2, []))

/-! ## SERVICE commands (R421) -/

/-- `on`, `off` and `free` as 1, 0 and 2. -/
def switchWord (w : List Byte) : Option Nat :=
  if wordNum w = txtOn then some 1 else if wordNum w = txtOff then some 0 else if wordNum w = txtFree then some 2 else none

/-- MON_OUT: the service force of an output (`FI_SVC_EN`, `FI_SVC_VAL`). -/
def execMonOut (t : Nat) (s : State) : Result :=
  ok ((s.advance t).monRun .out .service monModes fun s args =>
    match args with
    | [o, w] =>
      match numberOf o, switchWord w with
      | some o, some x =>
        if o = 0 ∨ 24 < o then (s, 2, [])
        else
          let put := fun (s : State) (f : Fld) (b : Bool) => s.putF .agreed f (withBit (s.getF .agreed f) (o - 1) b)
          let s := put s fFiSvcEnEn (x != 2)
          (put s fFiSvcValVal (x == 1), 0, [])
      | _, _ => (s, 2, [])
    | _ => (s, 2, []))

/-- MON_BUSTEST: `FB_CTRLb.TEST`. -/
def execMonBustest (t : Nat) (s : State) : Result :=
  ok ((s.advance t).monRun .bustest .service monModes fun s args =>
    match args with
    | [b, w] =>
      match numberOf b, switchWord w with
      | some b, some x =>
        if 1 < b ∨ x = 2 then (s, 2, [])
        else if x = 1 then (after (execFbTestOn s.now b s.all s) s, 0, [])
        else (after (execFbTestOff s.now b s.all s) s, 0, [])
      | _, _ => (s, 2, [])
    | _ => (s, 2, []))

/-- `inject triad M T CORE KIND`. -/
def State.monInjectTriad (s : State) (m t core kind : List Byte) : MonOutcome :=
  match mastCodeOf m, triadCodeOf t, numberOf core, numberOf kind with
  | some m, some t, some core, some kind =>
    if 3 < core ∨ kind = 0 ∨ 4 < kind then (s, 2, [])
    else
      let s := s.askInject s.all (Mast.ofCode m) (if t = 0 then .p else .c) core kind
      let r := s.getF .agreed fTdInjstatResult
      (s, if r = 1 then 0 else 5, if r = 1 then [] else [(0, r)])
  | _, _, _, _ => (s, 2, [])

/-- `inject mem M sram ADDR BIT KIND`: `MI_INJADDR`, then `MI_INJECT`. -/
def State.monInjectMem (s : State) (m mem addr bit kind : List Byte) : MonOutcome :=
  let dram := wordNum mem == txtDram
  match mastCodeOf m, numberOf addr, numberOf bit, numberOf kind with
  | some m, some a, some bit, some kind =>
    if !(dram || wordNum mem == txtSram) || decide (2 ^ 32 ≤ a) || decide (7 < bit) || decide (kind = 0 ∨ 2 < kind) then (s, 2, [])
    else
      let s := s.putF .agreed fMiInjaddrAddr (a / 8)
      let s := s.memInject (Mast.ofCode m) dram bit kind (a / 8 * 8)
      let r := s.getF .agreed fMiInjstatResult
      (s, if r = 1 then 0 else 5, if r = 1 then [] else [(0, r)])
  | _, _, _, _ => (s, 2, [])

/-- MON_INJECT (R97, R387). -/
def execMonInject (t : Nat) (s : State) : Result :=
  ok ((s.advance t).monRun .inject .service monModes fun s args =>
    match args with
    | [k, m, t, c, n] => if wordNum k = txtTriad then s.monInjectTriad m t c n else (s, 2, [])
    | [k, m, r, a, b, n] => if wordNum k = txtMem then s.monInjectMem m r a b n else (s, 2, [])
    | _ => (s, 2, []))

/-- MON_STEP: a forced step to SEC and NS (R158). -/
def execMonStep (t : Nat) (s : State) : Result :=
  ok ((s.advance t).monRun .step .session [.service, .stop] fun s args =>
    match numbersOf args with
    | some [x, ns] =>
      if 2 ^ 64 ≤ x ∨ sec ≤ ns then (s, 2, [])
      else
        let s := s.putF .agreed fTbStepnsValue ns
        let s := (s.putF .agreed fTbStepsloValue (x % 2 ^ 32)).putF .agreed fTbStepshiValue (x / 2 ^ 32)
        (after (execForcedStep s.now s.all 0x5453 s) s, 0, [])
    | _ => (s, 2, []))

/-- MON_SILCLR: every mast's silence record (R95). -/
def execMonSilclr (t : Nat) (s : State) : Result :=
  ok ((s.advance t).monRun .silclr .session [.service, .stop] (plain fun s =>
    ((s.voters.filter s.triadRuns).foldl (fun s m => s.silClr m 0x54430000) s, 0, [])))

/-- MON_SYSLOG: the EL_ export registers; `store` is the settings store with the matching records (R403). (DEDUCED, log entry 90) -/
def execMonSyslog (t : Nat) (store : List Byte) (s : State) : Result :=
  ok ((s.advance t).monRun .syslog .service monModes fun s args =>
    let save := fun (s : State) => (s.writeStore fun _ => store, 0, [])
    match args with
    | [w] => if wordNum w = txtOff then save (s.putF .agreed fElExportEnable 0) else (s, 2, [])
    | [w, v] =>
      match numberOf v with
      | some n =>
        if wordNum w = txtRate ∧ 1 ≤ n ∧ n ≤ 1000 then save (s.putF .agreed fElExportRate n)
        else if wordNum w = txtSev ∧ 2 ≤ n ∧ n ≤ 7 then save (s.putF .agreed fElExportSevmax n)
        else (s, 2, [])
      | none => (s, 2, [])
    | [a, p, i] =>
      match addressOf a, numberOf p, numberOf i with
      | some a, some p, some i =>
        if 65535 < p ∨ i = 0 ∨ 2 < i then (s, 2, [])
        else
          let s := (s.putF .agreed fElDestIp a).putF .agreed fElDestportPort p
          save ((s.putF .agreed fElDestportIf i).putF .agreed fElExportEnable 1)
      | _, _, _ => (s, 2, [])
    | _ => (s, 2, []))

/-! ## Files, updates and keys (R397 to R402, R421) -/

/-- What `UP_CMDSTAT` says of the update command just made. -/
def State.upOutcome (s : State) : MonOutcome :=
  let r := s.getF .agreed fUpCmdstatResult
  if r = 1 then (s, 0, []) else if r = 2 then (s, 4, [])
  else (s, 5, [(0, r), (1, s.getF .agreed fUpCmdstatReason)])

/-- A file is awaited on the port: the command's line is taken and answered once the file has come. -/
def State.monFile (s : State) (c : MonCmd) (acc : MonAccess) (modes : List Mode) (x : List (List Byte) → Option Transfer) : State :=
  match s.monTake c with
  | none => s
  | some (s, args) =>
    let bar := s.monBar acc modes
    if bar ≠ 0 then s.monDone c acc bar []
    else if s.mon.transfer.isSome then s.monDone c acc 6 []
    else
      match x args with
      | some f => { s with mon := { s.mon with transfer := some f } }
      | none => s.monDone c acc 2 []

/-- MON_UPDATE: one container is awaited. -/
def execMonUpdate (t : Nat) (s : State) : Result :=
  ok ((s.advance t).monFile .update .session upModes fun args => if args = [] then some { kind := 1, slot := 0 } else none)

/-- MON_ACTIVATE: `activate` or `activate nojury`. An activation that resets the module answers before the reset. (DEDUCED, log entry 92) -/
def execMonActivate (t : Nat) (f : JuryFinding) (lost : Option Mast) (env : BootEnv) (s : State) : Result :=
  let s := s.advance t
  match s.monTake .activate with
  | none => ok s
  | some (s, args) =>
    let bar := s.monBar .session monModes
    let skip := match args with
      | [w] => wordNum w == txtNojury
      | _ => false
    if bar ≠ 0 then ok (s.monDone .activate .session bar [])
    else if args ≠ [] ∧ !skip then ok (s.monDone .activate .session 2 [])
    else
      let code := if skip then 4 else 3
      match s.upGate s.all code (if skip then [.service] else [.service, .stop]) [] with
      | some s => ok (s.upOutcome.1.monDone .activate .session s.upOutcome.2.1 s.upOutcome.2.2)
      | none =>
        if s.upd.session.isNone ∨ s.getF .agreed fUpStatPhase ≠ 4 then
          let r := (s.activate code skip f lost env).upOutcome
          ok (r.1.monDone .activate .session r.2.1 r.2.2)
        else ok ((s.monDone .activate .session 0 []).activate code skip f lost env)

/-- MON_ABORT. -/
def execMonAbort (t : Nat) (s : State) : Result :=
  ok ((s.advance t).monRun .abort .session monModes (plain fun s => (after (execAbort s.now s.all s) s).upOutcome))

/-- MON_CONFIRM. -/
def execMonConfirm (t : Nat) (s : State) : Result :=
  ok ((s.advance t).monRun .confirm .session monModes (plain fun s => (after (execConfirm s.now s.all s) s).upOutcome))

/-- MON_KEY: `key revoke S`, or `key prog S`, which awaits the key's file. -/
def execMonKey (t : Nat) (s : State) : Result :=
  let s := s.advance t
  let prog := match s.mon.waiting with
    | line :: _ =>
      match wordsOf line with
      | _ :: w :: _ => wordNum w == txtProg
      | _ => false
    | [] => false
  if prog then
    ok (s.monFile .key .service monModes fun args =>
      match args with
      | [_, n] =>
        match numberOf n with
        | some slot => if slot = 4 ∨ slot = 5 then some { kind := 2, slot := slot } else none
        | none => none
      | _ => none)
  else
    ok (s.monRun .key .service monModes fun s args =>
      match args with
      | [w, n] =>
        match numberOf n with
        | some slot =>
          if wordNum w ≠ txtRevoke ∨ 5 < slot then (s, 2, [])
          else (after (execRevoke s.now s.all (s.putF .agreed fUpKeyselSlot slot)) s).upOutcome
        | none => (s, 2, [])
      | _ => (s, 2, []))

/-- One bit step of the CRC-16 of XMODEM, most significant bit first. -/
def crc16Bit (c : BitVec 16) : BitVec 16 := if 2 ^ 15 ≤ c.toNat then (c <<< 1) ^^^ 0x1021#16 else c <<< 1

/-- One byte of it. -/
def crc16Byte (c : BitVec 16) (b : Byte) : BitVec 16 :=
  let x := c ^^^ (b.setWidth 16 <<< 8)
  crc16Bit (crc16Bit (crc16Bit (crc16Bit (crc16Bit (crc16Bit (crc16Bit (crc16Bit x)))))))

/-- CRC-16 of a block's data. (PRESUMED, log entry 91) -/
def crc16 (bs : List Byte) : BitVec 16 := bs.foldl crc16Byte 0#16

/-- Number and data of a good XMODEM block of 128 or 1 024 bytes. (PRESUMED, log entry 91) -/
def xmodemBlock (f : List Byte) : Option (Nat × List Byte) :=
  let n := match fieldAt f 0 1 with
    | 1 => 128
    | 2 => 1024
    | _ => 0
  let data := slice f 3 n
  if n ≠ 0 ∧ f.length = n + 5 ∧ fieldAt f 1 1 + fieldAt f 2 1 = 255 ∧ beNat (slice f (3 + n) 2) = (crc16 data).toNat then
    some (fieldAt f 1 1, data)
  else none

/-- The file is complete: a container goes through BEGIN and WRITE of every block, a key into its slot. -/
def State.fileDone (s : State) (x : Transfer) : State :=
  let s : State := { s with mon := { s.mon with transfer := none } }
  if x.kind = 1 then
    let s := s.writeContainer x.bytes
    if s.allWritten then s.monDone .update .session 0 []
    else
      let r := s.upOutcome
      r.1.monDone .update .session (if r.2.1 = 0 then 5 else r.2.1) r.2.2
  else if s.ctl.mode ≠ .service then s.monDone .key .service 4 []
  else
    let r := ((s.putF .agreed fUpKeyselSlot x.slot).keyProgram x.slot (x.bytes.take 96)).upOutcome
    r.1.monDone .key .service r.2.1 r.2.2

/-- SERVICE_TRANSFER_BLOCK (R420, R421): a block of the file arrives, or the mark of its end. A block that fails its check or
comes out of turn is not taken. (PRESUMED, log entry 91) -/
def execServiceTransferBlock (t : Nat) (f : List Byte) (s : State) : Result :=
  let s := s.advance t
  match s.monOpen, s.mon.transfer with
  | true, some x =>
    let s := s.monTouch
    if f = [0x04] then ok (s.fileDone x)
    else
      match xmodemBlock f with
      | some (n, data) =>
        if n = x.next % 256 then
          ok { s with mon := { s.mon with transfer := some { x with bytes := x.bytes ++ data, next := x.next + 1 } } }
        else ok s
      | none => ok s
  | _, _ => ok s

end Sys2Proof.Machine
end

