-- ==== Sys2Proof/Machine/Motion.lean ====
section
/-!
DEFINITION. Tachometer edges: the shared front end, the masts' counters and edge logs, position comparators and the supervisors
(R170, R171, R174, R176, R253).
-/
namespace Sys2Proof.Machine

/-- Does an edge cross a target: 1 upward, 2 downward, 0 not (R176)? -/
def crossing (before after target : Int) : Nat :=
  if before < target ∧ target ≤ after then 1 else if target < before ∧ after ≤ target then 2 else 0

/-- An armed position comparator of a mast sees an edge of an axle that took its counter from `before` to `after` (R176). With REL
it compares with the berth reference, and sees nothing without one (R258). -/
def State.cmpEdge (s : State) (m : Mast) (ax : Nat) (before after : Int) (n : Nat) : State :=
  let src := s.cmp m n fTbCmpcfgSrc
  let rel := s.cmp m n fTbCmpcfgRel == 1
  let mine := src == 4 || src == 5 || src == ax + 1
  if s.cmp m n fTbCmpcfgArm = 0 ∨ !mine ∨ (rel && !(s.sp m).berth) then s
  else
    let ref := if rel then ((s.sp m).ax ax).ref else 0
    let dir := crossing (before - ref) (after - ref) (s.cmpPos m n)
    if dir = 0 then s
    else
      let wanted := bitOf (s.cmp m n fTbCmpcfgDir) (dir - 1)
      if src ≠ 4 then if wanted then s.cmpFire m n (s.tbNs m) false false else s
      else
        let old := ((s.pos.across.get m).find? fun e => e.n == n).getD ⟨n, 0, 0⟩
        let mark := if wanted then dir else 0
        let new : CmpAcross := if ax = 1 then { old with ax1 := mark } else { old with ax2 := mark }
        let rest := (s.pos.across.get m).filter fun e => e.n != n
        let s : State := { s with pos := { s.pos with across := s.pos.across.set m (new :: rest) } }
        if mark ≠ 0 ∧ new.ax1 = new.ax2 then s.cmpFire m n (s.tbNs m) false false else s

/-- A mast's counter after an edge, with its log (R170, R174). -/
def AxleCounter.edge (a : AxleCounter) (time : Nat) (step : Int) : AxleCounter :=
  let c := clampPos (a.counter + step)
  let log := (time, c) :: a.log
  match log.drop 65536 with
  | [] => { a with counter := c, log := log }
  | old :: _ => { a with counter := c, log := log.take 65536, base := old.2 }

/-- An edge reaches a mast: its counter moves, and its position comparators look. -/
def State.mastEdge (s : State) (ax : Nat) (step : Int) (m : Mast) : State :=
  if !s.triadRuns m then s
  else
    let a := s.axle m ax
    let b := a.edge s.moduleTime step
    let s := s.setAxle m ax b
    if a.counter = b.counter then s else (List.range 64).foldl (fun s n => s.cmpEdge m ax a.counter b.counter n) s

/-- The edges of the last second. -/
def recentEdges (now : Nat) (l : List Nat) : List Nat := l.filter fun t => decide (now < t + sec)

/-- The front end accepts an edge (R171, R172). (DEDUCED, log entry 86) -/
def TachoFront.edge (f : TachoFront) (time now : Nat) (up : Bool) : TachoFront :=
  let same := if up then f.lastUp else f.lastDown
  let pair := match same with
    | some t => if time - t ≤ sec then (time - t, some time) else (0xFFFFFFFF, none)
    | none => (f.period, f.pairAt)
  let dir := if up then 1 else 2
  let recent := now :: recentEdges now f.recent
  { f with
    net := f.net + if up then 1 else -1
    edges := f.edges + 1
    last := some time
    lastUp := if up then some time else f.lastUp
    lastDown := if up then f.lastDown else some time
    period := pair.1
    pairAt := pair.2
    overSeen := f.overSeen || decide (110000 < recent.length)
    dirChanged := f.dirChanged || (f.lastDir != 0 && f.lastDir != dir)
    lastDir := dir
    recent := recent
    overRate := decide (110000 < recent.length)
    overEnd := if f.overRate && decide (recent.length ≤ 110000) then some now else f.overEnd }

/-- A quadrature error (R171): the edge is discarded, counted and reported, and the supervisors judge it. (DEDUCED, log entry 86) -/
def State.quadratureError (s : State) (ax : Nat) : State :=
  let f := s.pos.front ax
  let s : State := { s with pos := s.pos.setFront ax { f with qerrs := f.qerrs + 1 } }
  let s := s.incF .agreed (fTbAxstatQerr.plus (0x20 * (ax - 1))) 1
  (s.raiseLimited s.lane.active.mask ax evTachoQerr ax f.lastQerrs).spQerr ax

/-- An accepted edge. (DEDUCED, log entry 86) -/
def State.acceptEdge (s : State) (ax : Nat) (up : Bool) : State :=
  let f := s.pos.front ax
  let g := f.edge s.moduleTime s.now up
  let s : State := { s with pos := s.pos.setFront ax g }
  let s := s.putF .agreed (fTbAxstatDir.plus (0x20 * (ax - 1))) g.lastDir
  let s := s.wrapF .agreed (fTbEdgesCount.plus (0x20 * (ax - 1))) 1
  let s := if g.overRate && !f.overRate then
      let s := s.putF .agreed (fTbAxstatOverrate.plus (0x20 * (ax - 1))) 1
      (s.raise evTachoOverrate ax g.recent.length).spOverrate ax
    else s
  let size : Nat := match s.sup.params with | some p => p.step ax | none => 0
  let step : Int := if up then size else -size
  (Mast.all.foldl (fun s m => s.mastEdge ax step m) s).spEdge ax up

/-- TACHO_EDGE (R170, R171): an edge on channel A (0) or B (1) of an axle, whose quadrature order is upward or not before the sealed
direction sign is applied. -/
def execTachoEdge (t : Nat) (ax channel : Nat) (order : Bool) (s : State) : Result :=
  let s := s.advance t
  if !s.tachOn || !(ax == 1 || ax == 2) || 1 < channel || (s.supply.tach ax).isSome then ok s
  else
    let f := s.pos.front ax
    let other := if channel = 0 then f.lastB else f.lastA
    let seen : TachoFront := if channel = 0 then { f with lastA := some s.now } else { f with lastB := some s.now }
    let s : State := { s with pos := s.pos.setFront ax seen }
    let clash := match other with | some o => decide (s.now < o + 2 * us) | none => false
    let sign := match s.sup.params with | some p => bitOf p.dirSign (ax - 1) | none => false
    if clash then ok (s.quadratureError ax) else ok (s.acceptEdge ax (order != sign))

/-- OVERRATE_END (R171): an axle's edges within the last second have fallen to 110 000 or fewer. -/
def execOverrateEnd (t : Nat) (ax : Nat) (s : State) : Result :=
  let s := s.advance t
  if !(ax == 1 || ax == 2) then ok s
  else
    let f := s.pos.front ax
    let recent := recentEdges s.now f.recent
    let on := f.overRate && decide (110000 < recent.length)
    let f : TachoFront := { f with
      recent := recent, overRate := on, overEnd := if f.overRate && !on then some s.now else f.overEnd }
    ok { s with pos := s.pos.setFront ax f }

end Sys2Proof.Machine
end

