-- ==== Sys2Proof/Machine/Transmit.lean ====
section
/-!
DEFINITION. Transmit units: digests, the selector's check, launch times and transmit descriptors (R115 to R118, R147, R148,
R161, R162, R310 to R312, R333).
-/
namespace Sys2Proof.Machine

/-- The digest of a frame's bytes (R115). -/
def frameDigest (b : List Byte) : Nat := (crc32c b).toNat

/-- Is the entry a given frame's? -/
def UnitFrame.is (x : UnitFrame) (seq port cls : Nat) : Bool :=
  x.frame.seq == seq && x.frame.port == port && x.frame.cls == cls

/-- A mast deposits its digest for a frame (R115): the entry of the frame, or a new one behind the others. (DEDUCED, log entry 53) -/
def deposit (m : Mast) (f : TxFrame) (now : Nat) : List UnitFrame → List UnitFrame
  | [] => [{ frame := f, formed := now, deposits := (Per.all none).set m (some (frameDigest f.bytes)), copies := (Per.all none).set m (some f) }]
  | x :: rest =>
    if x.is f.seq f.port f.cls then
      { x with deposits := x.deposits.set m (some (frameDigest f.bytes)), copies := x.copies.set m (some f) } :: rest
    else x :: deposit m f now rest

/-- Is this a frame taken from the queue for which a mast's digest is still to come? -/
def SentFrame.awaits (x : SentFrame) (m : Mast) (f : TxFrame) : Bool :=
  x.seq == f.seq && x.port == f.port && x.cls == f.cls && (x.deposits.get m).isNone

/-- The owner of a unit whose mast has failed an exit check yields it by a normal handover (R148). (DEDUCED, log entry 53) -/
def State.yieldUnit (s : State) (u : Nat) (m : Mast) : State :=
  if (s.unit u).owner ≠ m then s
  else
    let l := { s.lane with active := s.lane.active.set m false }
    match ((l.ownerPositions (s.getF .agreed fLmOwnprefPref))[u]?).join with
    | some p => (s.setUnit u { s.unit u with pendingTo := some (l.holder p) }).showOwners
    | none => s

/-- The digests of the two masts that do not own a frame, against the bytes passed (R116): an owner both differ from is deposed
and voted out; one that differs from the bytes and from the other is voted out. -/
def State.judgeDigests (s : State) (u : Nat) (owner : Mast) (same : Nat → Bool) (others : List (Mast × Nat)) : State :=
  let lose := fun (m : Mast) => s.applyLoss m 6 (s.onsetOf m s.moduleTime)
  match others with
  | [x, y] =>
    if same x.2 && same y.2 then s
    else if same x.2 then lose y.1
    else if same y.2 then lose x.1
    else if s.votes owner then (s.raise evOwnerDeposed u owner.code).applyLoss owner 6 (s.onsetOf owner s.moduleTime)
    else s
  | _ => s

/-- The digests the masts other than a frame's owner have deposited. -/
def State.depositsOf (s : State) (owner : Mast) (d : Per (Option Nat)) : List (Mast × Nat) :=
  (s.voters.filter fun m => m != owner).filterMap fun m => (d.get m).map fun v => (m, v)

/-- The frames taken from a unit's queue for which some voting mast's digest is still to come. -/
def State.keepGone (s : State) (l : List SentFrame) : List SentFrame :=
  l.filter fun g => s.voters.any fun m => (g.deposits.get m).isNone

/-- A digest comes for a frame that has left the queue (R115, R116): the mast's copy is consumed with it, and the digest of a
frame that was passed is compared still. -/
def State.lateDeposit (s : State) (u : Nat) (m : Mast) (f : TxFrame) (g : SentFrame) : State :=
  let g' := { g with deposits := g.deposits.set m (some (frameDigest f.bytes)) }
  let x := s.unit u
  let gone := s.keepGone (x.gone.map fun h => if h = g then g' else h)
  let s := s.setUnit u { x with gone := gone }
  if g.discarded then s
  else s.judgeDigests u g.owner (fun d => g.passed == some d) (s.depositsOf g.owner g'.deposits)

/-- A mast deposits the digest of a frame it has formed with the selector of a unit (R115). -/
def State.depositFrame (s : State) (m : Mast) (u : Nat) (f : TxFrame) : State :=
  match (s.unit u).gone.find? fun g => g.awaits m f with
  | some g => s.lateDeposit u m f g
  | none => s.setUnit u { s.unit u with queue := deposit m f s.now (s.unit u).queue }

/-- The next PRP sequence number of a mast for an interface (R303). -/
def State.prpNext (s : State) (m : Mast) (i : Nat) : Nat :=
  let n := s.net.prpOut.get m
  if i = 0 then n.1 else n.2

/-- A mast counts one more frame of an interface (R303). -/
def State.prpCount (s : State) (m : Mast) (i : Nat) : State :=
  let n := s.net.prpOut.get m
  let n := if i = 0 then ((n.1 + 1) % 65536, n.2) else (n.1, (n.2 + 1) % 65536)
  { s with net := { s.net with prpOut := s.net.prpOut.set m n } }

/-- The frames a mast forms of an item for the network (R146, R303): the value, padded, goes out on one port, or with one PRP
sequence number on both planes of the interface. -/
def State.netFrames (s : State) (m : Mast) (f : TxFrame) : List TxFrame :=
  let body := padFrame f.item.value
  match s.net.sendPorts f.port f.portOnly f.item.value with
  | [p] => [{ f with port := p, bytes := body }]
  | l => l.map fun p => { f with port := p, bytes := withTrailer body (s.prpNext m (ifaceOf p)) (planeOf p) }

/-- A mast deposits the frames it forms for the network, each with the selector of its plane (R303). -/
def State.netDeposit (s : State) (m : Mast) (f : TxFrame) : State :=
  let l := s.netFrames m f
  let s := l.foldl (fun s g => s.depositFrame m (planeOf g.port - 1) g) s
  if 1 < l.length then s.prpCount m (ifaceOf f.port) else s

/-- The units a mast's frame of an item takes: its own, or both planes (R303). -/
def State.frameUnits (s : State) (u : Nat) (f : TxFrame) : List Nat :=
  if u < 2 then (s.net.sendPorts f.port f.portOnly f.item.value).map fun p => planeOf p - 1 else [u]

/-- FRAME_DIGEST_DEPOSIT (R115, R147, R148): a mast checks an item's tag, forms its frame and deposits the digest; on a network
plane for both planes of the interface (R303). (DEDUCED, log entry 53) -/
def execFrameDigestDeposit (t : Nat) (m : Mast) (u : Nat) (f : TxFrame) (s : State) : Result :=
  let s := s.advance t
  if 8 ≤ u || !s.votes m || !(s.mast m).alive || s.lane.mute || (u < 2 && !(s.net.portEnabled f.port && planeOf f.port == u + 1))
  then ok s
  else if !f.item.tagOk then ok ((s.frameUnits u f).foldl (fun s v => s.yieldUnit v m) (s.exitFail m f.item))
  else if u < 2 then ok (s.netDeposit m f)
  else ok (s.depositFrame m u f)

/-- Digests that the masts other than the owner have deposited. (DEDUCED, log entry 53) -/
def State.otherDeposits (s : State) (u : Nat) (x : UnitFrame) : List (Mast × Nat) :=
  s.depositsOf (s.unit u).owner x.deposits

/-- Has the owner formed the frame? Its MAC or controller knows only its own copies. -/
def State.ownCopy (s : State) (u : Nat) (x : UnitFrame) : Bool := (x.copies.get (s.unit u).owner).isSome

/-- Take a frame out of a unit's queue: every mast consumes its copy with it (R115), those that come later too. (DEDUCED, log entry 113) -/
def State.dropFrame (s : State) (u : Nat) (x : UnitFrame) (passed : Option Nat) (discarded : Bool) : State :=
  let v := s.unit u
  let g : SentFrame := { seq := x.frame.seq, port := x.frame.port, cls := x.frame.cls, owner := v.owner, passed := passed
                         discarded := discarded, deposits := x.deposits }
  let rest := v.queue.filter fun y => !(y.is x.frame.seq x.frame.port x.frame.cls)
  s.setUnit u { v with queue := rest, gone := s.keepGone (v.gone ++ [g]) }

/-- The owner's timebase, by which launch times are judged (R162). -/
def State.launchClock (s : State) (u : Nat) : Nat := s.tbNs (s.unit u).owner

/-- FRAME_UNCONFIRMED_TIMEOUT (R115): 100 µs, or the launch time, has passed without a second deposit. (DEDUCED, log entry 113) -/
def execFrameUnconfirmedTimeout (t : Nat) (u seq port cls : Nat) (s : State) : Result :=
  let s := s.advance t
  match (s.unit u).queue.find? fun x => x.is seq port cls with
  | none => ok s
  | some x =>
    let late := match x.frame.launch with | some l => decide (l ≤ s.launchClock u) | none => false
    if 8 ≤ u || !s.ownCopy u x || s.otherDeposits u x != [] || !(late || decide (x.formed + 100 * us ≤ s.now)) then ok s
    else
      let s := (s.dropFrame u x none true).incF .agreed (fLmTxabortUnconfirmed.plus (4 * u)) 1
      let n := (s.unit u).unconfirmed + 1
      let s := s.setUnit u { s.unit u with unconfirmed := n }
      if s.limited s.lane.active.mask evTxUnconfirmed u then ok s
      else ok ((s.raiseLimited s.lane.active.mask u evTxUnconfirmed u n).setUnit u { s.unit u with unconfirmed := 0 })

/-- A network port's frame is discarded at its launch (R312): kind 1 late, 2 gate. -/
def State.lateFrame (s : State) (u : Nat) (x : UnitFrame) (kind : Nat) : State :=
  let p := x.frame.port
  let s := s.dropFrame u x none true
  let s := s.incF .agreed (npF (if kind = 1 then fNpTxlateLate else fNpTxlateGate) p) 1
  s.raiseLimited s.lane.active.mask (256 * p + x.frame.cls) evNpTxLate (256 * p + x.frame.cls) kind

/-- The owner's frames at the head of their classes on a port. -/
def State.portHeads (s : State) (u port : Nat) : List UnitFrame :=
  (List.range 8).filterMap fun c => (s.unit u).queue.find? fun x => x.frame.port == port && x.frame.cls == c && s.ownCopy u x

/-- Does a frame of another class leave room before every waiting launch time of the port (R310)? -/
def State.leavesRoom (s : State) (u : Nat) (x : UnitFrame) : Bool :=
  (s.portHeads u x.frame.port).all fun y =>
    y.frame.cls == x.frame.cls ||
    match y.frame.launch with
    | some l => decide (s.launchClock u + s.frameNs x.frame.port x.frame.bytes.length ≤ l) || decide (l < s.launchClock u)
    | none => true

/-- May a frame of a network port start now (R310)? -/
def State.eligible (s : State) (u : Nat) (x : UnitFrame) : Bool :=
  let now := s.launchClock u
  let due := match x.frame.launch with | some l => decide (l ≤ now) | none => true
  (s.otherDeposits u x != []) && due
    && s.gateAllows x.frame.port x.frame.cls x.frame.bytes.length now && s.leavesRoom u x

/-- A head of the port whose launch time has passed by more than the 10 ns of R162, or comes while its gate does not let it
pass, with the kind of NP_TX_LATE. -/
def State.missedLaunch (s : State) (u port : Nat) : Option (UnitFrame × Nat) :=
  (s.portHeads u port).findSome? fun x =>
    match x.frame.launch with
    | none => none
    | some l =>
      let now := s.launchClock u
      if l + 10 < now then some (x, 1)
      else if l ≤ now ∧ !s.gateAllows port x.frame.cls x.frame.bytes.length now then some (x, 2)
      else none

/-- Is a frame in progress on the port, or its inter-frame gap? -/
def State.wireBusy (s : State) (u port : Nat) : Bool :=
  let gap := if u < 2 then 12 * s.byteNs port else 0
  (s.unit u).wire.any fun w => w.frame.frame.port == port && decide (s.now < w.upTo + gap)

/-- The frame that starts next on a port: of the highest class with an eligible head. -/
def State.nextFrame (s : State) (u port : Nat) : Option UnitFrame :=
  if s.wireBusy u port then none
  else if u < 2 then (s.portHeads u port).reverse.find? (s.eligible u)
  else ((s.unit u).queue.find? (s.ownCopy u)).filter fun x => s.otherDeposits u x != []

/-- Local time at which a frame that starts now ends: 8 ns or 80 ns a byte on a network port, 800 ns on the door bus, 4 ns on the
stay link and the rack bus (R184, R300, R367). (DEDUCED, log entry 53) -/
def State.frameEnd (s : State) (u : Nat) (f : TxFrame) : Nat :=
  let n := 8 + f.bytes.length + 4
  s.now + (if u < 2 then n * s.byteNs f.port else if u < 6 then n * 800 else n * 4)

/-- A frame that has passed with a good FCS: on the medium until its end, and counted (R115, R161). (DEDUCED, log entry 53) -/
def State.sendFrame (s : State) (u : Nat) (x : UnitFrame) (passed : Nat) : State :=
  let s := s.dropFrame u x (some passed) false
  let v := s.unit u
  let wire := (v.wire.filter fun w => decide (s.now < w.upTo)) ++ [{ frame := x, upTo := s.frameEnd u x.frame }]
  let s := s.setUnit u { v with sentGood := v.sentGood + 1, wire := wire }
  let s := if u < 2 then (s.wrapF .agreed (npF fNpTxokCount x.frame.port) 1).darken x.frame.port else s
  match x.frame.stamp with
  | some id => if u < 2 then s.captureStamp x.frame.port id s.moduleTime else s
  | none => s

/-- The selector passes a frame and checks it (R115, R116); `damaged` says that the bytes on the medium differ from the
owner's copy. A frame whose owner is deposed is cut and stays first for the new owner (R118); one that only one other mast has
deposited differently ends with a bad FCS and has left the queue. -/
def State.passFrame (s : State) (u : Nat) (x : UnitFrame) (damaged : Bool) : State :=
  let owner := (s.unit u).owner
  let passed := match x.copies.get owner with | some f => frameDigest f.bytes | none => 0
  let others := s.otherDeposits u x
  let same := fun (d : Nat) => !damaged && d == passed
  if others.any fun d => same d.2 then (s.sendFrame u x passed).judgeDigests u owner same others
  else
    let s := if others.length = 2 then s else s.dropFrame u x (if damaged then none else some passed) false
    let v := s.unit u
    let s := s.setUnit u { v with sentBad := v.sentBad + 1 }
    (s.incF .agreed (fLmTxabortMismatch.plus (4 * u)) 1).judgeDigests u owner same others

/-- FRAME_LAUNCH (R310 to R312, R115, R116): the next frame of a port of unit `u` starts, or is discarded at its launch time. -/
def execFrameLaunch (t : Nat) (u port : Nat) (damaged : Bool) (s : State) : Result :=
  let s := s.advance t
  if 8 ≤ u || s.lane.mute || !s.owned u then ok s
  else
    match (if u < 2 then s.missedLaunch u port else none) with
    | some (x, kind) => ok (s.lateFrame u x kind)
    | none =>
      match s.nextFrame u port with
      | some x => ok (s.passFrame u x damaged)
      | none => ok s

/-! ## Slots of the door buses (R201, R209) -/

/-- A unit's owner whose exit check has failed yields it before the frame starts (R148, R117). -/
def State.yieldNow (s : State) (u : Nat) (m : Mast) : State :=
  let l := { s.lane with active := s.lane.active.set m false }
  match ((l.ownerPositions (s.getF .agreed fLmOwnprefPref))[u]?).join with
  | some p => s.handOver u (l.holder p) false
  | none => s

/-- A channel of a slot's frame: an owner whose check fails yields, and the selector passes the owner's frame if another mast's
deposit agrees with it (R15, R115, R148). -/
def State.slotChannel (s : State) (u : Nat) (fails : Mast → Bool) : State × Bool :=
  let s := if fails (s.unit u).owner then s.yieldNow u (s.unit u).owner else s
  let o := (s.unit u).owner
  (s, !s.lane.mute && s.owned u && !fails o && s.voters.any fun m => m != o && (s.mast m).alive && !fails m)

/-- FB_SLOT_TRANSMIT (R147, R148, R201, R209): a module slot's frame is sent on both channels. `damaged` names the masts whose copy
of the item fails its exit check; they deposit nothing. -/
def execFbSlotTransmit (t : Nat) (b slot : Nat) (damaged : Per Bool) (s : State) : Result :=
  let s := s.advance t
  let x := s.bus b
  match x.sched, x.slot slot with
  | some sc, some e =>
    let granted := sc.slots.any fun g => g.kind == .spareIn && g.link == slot &&
      match x.grant g.slot with | some q => q.first.isSome | none => false
    let own := e.kind == .masterOut || (e.kind == .spareOut && granted)
    if !own || x.state == .off || 1 < b then ok s
    else
      let (typ, payload) := s.slotContent b e
      let item := s.lane.inForce.find? fun i => i.source == 0xA000 + 0x100 * b + e.slot
      let wrong := match item with | some i => !e.gated && i.len == e.payload && !i.tagOk | none => false
      let fails := fun (m : Mast) => typ == 2 && (damaged.get m || wrong)
      let s := match item with
        | some i => s.voters.foldl (fun (s : State) m => if fails m then s.exitFail m i else s) s
        | none => s
      let (s, onX) := s.slotChannel (2 + 2 * b) fails
      let (s, onY) := s.slotChannel (3 + 2 * b) fails
      if !(onX || onY) then ok s
      else
        let x := s.bus b
        let frame := fbFrame 0 slot (x.cycle % 65536) typ x.state.code sc.schedId payload
        let d := x.slotData slot
        let d := if typ = 2 ∧ !e.gated then { d with sent := some payload } else d
        ok (s.setBus b { (x.setSlot d) with lastSent := frame })
  | _, _ => ok s

/-- The transmit units that send what a ring holds (R114, R301, R303, R310). -/
def State.ringUnits (s : State) (n : Nat) (portOnly : Bool) (value : List Byte) : List Nat :=
  if n < 32 then (s.net.sendPorts (n / 8 + 1) portOnly value).map fun p => planeOf p - 1 else [if n = 116 then 6 else 7]

/-- TRANSMIT_DESCRIPTOR (R333): the block takes the descriptor at CONS, checks it and its tag, writes STATUS and advances
CONS. `outcome` is how the sending ended for a descriptor that passes: 0 sent, 1 late, 2 gate closed, 3 unconfirmed,
4 digest mismatch. Ring 116 passes posted writes to the bridge (R361), ring 119 shared-variable blocks to the stay link
(R371). (DESIGN CHOICE, log entry 59) -/
def execTransmitDescriptor (t : Nat) (m : Mast) (n outcome : Nat) (s : State) : Result :=
  let s := s.advance t
  if !s.triadRuns m || !ringSoft n || !s.ringOn m n || s.ringProd m n == s.ringCons m n then ok s
  else
    let cons := s.ringCons m n
    let a := s.ringSlot m n cons
    let d := (s.mast m).mem.readBytes a 32
    let item := s.txItem m d
    let r := match s.txCheck m n d with | 0 => outcome % 5 | e => e
    let s := if r = 5 then s.raiseLimited (2 ^ m.code) (n * 4 + m.code) evQmDescErr n (cons % s.ringSize m n)
             else if r = 6 then (s.ringUnits n (bitOf (fieldAt d 8 4) 3) item.value).foldl (fun s u => s.yieldUnit u m) (s.exitFail m item)
             else if n = 116 ∧ r = 0 then s.queuedWrite m item
             else if n = 119 ∧ r = 0 then s.slQueue m item.value
             else s
    let s := s.fabricStore m (a + 0x14) (natLe 4 (1 + 2 * r))
    let s := s.putF (.mast m) (ringF fQmRingConsCons n) ((cons + 1) % 65536)
    let s := s.interrupt m (s.getF (.mast m) (ringF fQmRingCfgIrq n)) n
    ok (if bitOf (fieldAt d 8 4) 2 then s.interrupt m 2 n else s)

end Sys2Proof.Machine
end

