-- ==== Sys2Proof/Machine/Dispatch.lean ====
section
/-!
DEFINITION. One arm for each command, each one direct call of its meaning.
-/
namespace Sys2Proof.Machine

/-- What command `i` does to everything but the queue. -/
def exec (i : Instr) (s : State) : Host.Outcome State Fault Refusal :=
  match i with
  | .registerWrite t m tr addr value => Sys2Proof.Machine.execRegisterWrite t m tr addr value s
  | .misalignedRegisterAccess t m tr addr size => Sys2Proof.Machine.execMisalignedRegisterAccess t m tr addr size s
  | .unmappedAccess t m tr addr => Sys2Proof.Machine.execUnmappedAccess t m tr addr s
  | .readOnlyRegionWrite t m tr addr => Sys2Proof.Machine.execReadOnlyRegionWrite t m tr addr s
  | .reservedAreaWrite t m tr addr => Sys2Proof.Machine.execReservedAreaWrite t m tr addr s
  | .triadCFencedWrite t m addr => Sys2Proof.Machine.execTriadCFencedWrite t m addr s
  | .summaryEventPeriodEnd t code key => Sys2Proof.Machine.execSummaryEventPeriodEnd t code key s
  | .actionInstant t => Sys2Proof.Machine.execActionInstant t s
  | .commitPoint t => Sys2Proof.Machine.execCommitPoint t s
  | .outputImageSubmit t m items done => Sys2Proof.Machine.execOutputImageSubmit t m items done s
  | .cycleEndMark t m cycle => Sys2Proof.Machine.execCycleEndMark t m cycle s
  | .powerOn t env => Sys2Proof.Machine.execPowerOn t env s
  | .bootTokenWindowEnd t m => Sys2Proof.Machine.execBootTokenWindowEnd t m s
  | .autostart t => Sys2Proof.Machine.execAutostart t s
  | .buttonContactClose t => Sys2Proof.Machine.execButtonContactClose t s
  | .buttonDebounceExpiry t => Sys2Proof.Machine.execButtonDebounceExpiry t s
  | .buttonContactRelease t env => Sys2Proof.Machine.execButtonContactRelease t env s
  | .buttonStuckExpiry t env => Sys2Proof.Machine.execButtonStuckExpiry t env s
  | .buttonOpenExpiry t => Sys2Proof.Machine.execButtonOpenExpiry t s
  | .recoveryBreakBegin t => Sys2Proof.Machine.execRecoveryBreakBegin t s
  | .recoveryBreakExpiry t => Sys2Proof.Machine.execRecoveryBreakExpiry t s
  | .recoveryBreakEnd t => Sys2Proof.Machine.execRecoveryBreakEnd t s
  | .start t writers => Sys2Proof.Machine.execStart t writers s
  | .startCold t writers => Sys2Proof.Machine.execStartCold t writers s
  | .stop t writers => Sys2Proof.Machine.execStop t writers s
  | .hold t writers => Sys2Proof.Machine.execHold t writers s
  | .resume t writers => Sys2Proof.Machine.execResume t writers s
  | .standby t writers => Sys2Proof.Machine.execStandby t writers s
  | .service t writers => Sys2Proof.Machine.execService t writers s
  | .leave t writers => Sys2Proof.Machine.execLeave t writers s
  | .reset t writers env => Sys2Proof.Machine.execReset t writers env s
  | .holdTimeout t => Sys2Proof.Machine.execHoldTimeout t s
  | .wakeEvent t src f millis env => Sys2Proof.Machine.execWakeEvent t src f millis env s
  | .standbyMastFault t env => Sys2Proof.Machine.execStandbyMastFault t env s
  | .sealPoll t word => Sys2Proof.Machine.execSealPoll t word s
  | .appFetchRequest t => Sys2Proof.Machine.execAppFetchRequest t s
  | .appFetchServe t slot hash => Sys2Proof.Machine.execAppFetchServe t slot hash s
  | .appFetchReceived t refused whole image bad f env => Sys2Proof.Machine.execAppFetchReceived t refused whole image bad f env s
  | .mastSupervisionFault t m f => Sys2Proof.Machine.execMastSupervisionFault t m f s
  | .dieTemperatureCrossing t m quarters => Sys2Proof.Machine.execDieTemperatureCrossing t m quarters s
  | .triadVoteDisagree t m tr x y z => Sys2Proof.Machine.execTriadVoteDisagree t m tr x y z s
  | .voterHalfMismatch t m tr bit => Sys2Proof.Machine.execVoterHalfMismatch t m tr bit s
  | .delayStageParityError t m tr output core stage group => Sys2Proof.Machine.execDelayStageParityError t m tr output core stage group s
  | .resyncSelftestDone t m tr pass => Sys2Proof.Machine.execResyncSelftestDone t m tr pass s
  | .resyncPoint t m tr crcOk => Sys2Proof.Machine.execResyncPoint t m tr crcOk s
  | .lockstepTimeout t m tr => Sys2Proof.Machine.execLockstepTimeout t m tr s
  | .lastWordReceived t obs snd record => Sys2Proof.Machine.execLastWordReceived t obs snd record s
  | .tdInjectOutputBit t writers target tr core => Sys2Proof.Machine.execTdInjectOutputBit t writers target tr core s
  | .tdInjectInputParity t writers target tr core => Sys2Proof.Machine.execTdInjectInputParity t writers target tr core s
  | .tdInjectOutputParity t writers target tr core => Sys2Proof.Machine.execTdInjectOutputParity t writers target tr core s
  | .tdInjectVoter t writers target tr core => Sys2Proof.Machine.execTdInjectVoter t writers target tr core s
  | .tdSilclr t m value => Sys2Proof.Machine.execTdSilclr t m value s
  | .heartbeatSend t m => Sys2Proof.Machine.execHeartbeatSend t m s
  | .hb1BeatReceived t obs peer bytes => Sys2Proof.Machine.execHb1BeatReceived t obs peer bytes s
  | .hb2Edge t obs peer => Sys2Proof.Machine.execHb2Edge t obs peer s
  | .heartbeatMissed t obs peer hb1 hb2 => Sys2Proof.Machine.execHeartbeatMissed t obs peer hb1 hb2 s
  | .isolationPowerCheck t percent f => Sys2Proof.Machine.execIsolationPowerCheck t percent f s
  | .joinReady t value => Sys2Proof.Machine.execJoinReady t value s
  | .joinReadyTimeout t => Sys2Proof.Machine.execJoinReadyTimeout t s
  | .joinEntryTimeout t => Sys2Proof.Machine.execJoinEntryTimeout t s
  | .checkpointPageRecord t survivor r => Sys2Proof.Machine.execCheckpointPageRecord t survivor r s
  | .frameDigestDeposit t m u f => Sys2Proof.Machine.execFrameDigestDeposit t m u f s
  | .frameUnconfirmedTimeout t u seq port cls => Sys2Proof.Machine.execFrameUnconfirmedTimeout t u seq port cls s
  | .frameLaunch t u port damaged => Sys2Proof.Machine.execFrameLaunch t u port damaged s
  | .normalHandover t u => Sys2Proof.Machine.execNormalHandover t u s
  | .itemArrival t m item => Sys2Proof.Machine.execItemArrival t m item s
  | .proposalSend t m close => Sys2Proof.Machine.execProposalSend t m close s
  | .proposalReceived t obs bytes => Sys2Proof.Machine.execProposalReceived t obs bytes s
  | .closeTimeout t obs peer => Sys2Proof.Machine.execCloseTimeout t obs peer s
  | .fillReceived t m item => Sys2Proof.Machine.execFillReceived t m item s
  | .fillDeadline t m => Sys2Proof.Machine.execFillDeadline t m s
  | .intakeRelease t => Sys2Proof.Machine.execIntakeRelease t s
  | .readAnswerTimeout t tag => Sys2Proof.Machine.execReadAnswerTimeout t tag s
  | .ptpMessage t gm port proto offset => Sys2Proof.Machine.execPtpMessage t gm port proto offset s
  | .timeSourceLost t => Sys2Proof.Machine.execTimeSourceLost t s
  | .tbOffsetWrite t writers value => Sys2Proof.Machine.execTbOffsetWrite t writers value s
  | .forcedStep t writers key => Sys2Proof.Machine.execForcedStep t writers key s
  | .initialAcquisition t writers key => Sys2Proof.Machine.execInitialAcquisition t writers key s
  | .timeBandCheck t m offset => Sys2Proof.Machine.execTimeBandCheck t m offset s
  | .tbTsqpop t m tr port => Sys2Proof.Machine.execTbTsqpop t m tr port s
  | .tbNownsRead t m tr => Sys2Proof.Machine.execTbNownsRead t m tr s
  | .tbPosloRead t m tr ax => Sys2Proof.Machine.execTbPosloRead t m tr ax s
  | .edgeLogQuery t m value => Sys2Proof.Machine.execEdgeLogQuery t m value s
  | .tachoEdge t ax channel order => Sys2Proof.Machine.execTachoEdge t ax channel order s
  | .timeComparatorFire t m => Sys2Proof.Machine.execTimeComparatorFire t m s
  | .tbCmpcfgWrite t m n value => Sys2Proof.Machine.execTbCmpcfgWrite t m n value s
  | .fbSlotTransmit t b slot damaged => Sys2Proof.Machine.execFbSlotTransmit t b slot damaged s
  | .fbFrameReceived t b ch at' ofs f extra own => Sys2Proof.Machine.execFbFrameReceived t b ch at' ofs f extra own s
  | .fbSlotReport t b => Sys2Proof.Machine.execFbSlotReport t b s
  | .fbIntegrateDone t b => Sys2Proof.Machine.execFbIntegrateDone t b s
  | .fbRecoverDone t b => Sys2Proof.Machine.execFbRecoverDone t b s
  | .fbTestOn t b writers => Sys2Proof.Machine.execFbTestOn t b writers s
  | .fbTestOff t b writers => Sys2Proof.Machine.execFbTestOff t b writers s
  | .fbNodeLost t b node => Sys2Proof.Machine.execFbNodeLost t b node s
  | .fbNodeExcluded t b node => Sys2Proof.Machine.execFbNodeExcluded t b node s
  | .fbNodeReadmitted t b node => Sys2Proof.Machine.execFbNodeReadmitted t b node s
  | .fbGrantWithdraw t b slot => Sys2Proof.Machine.execFbGrantWithdraw t b slot s
  | .fbGrantIdleExpiry t b slot => Sys2Proof.Machine.execFbGrantIdleExpiry t b slot s
  | .fbChannelFault t b ch => Sys2Proof.Machine.execFbChannelFault t b ch s
  | .commandFrameSend t m damaged => Sys2Proof.Machine.execCommandFrameSend t m damaged s
  | .commandFrameReceived t m bytes => Sys2Proof.Machine.execCommandFrameReceived t m bytes s
  | .configFrameReceived t m bytes => Sys2Proof.Machine.execConfigFrameReceived t m bytes s
  | .inputFrameSend t => Sys2Proof.Machine.execInputFrameSend t s
  | .inputFrameReceived t m bytes => Sys2Proof.Machine.execInputFrameReceived t m bytes s
  | .currentLimitExpiry t o millis => Sys2Proof.Machine.execCurrentLimitExpiry t o millis s
  | .thermalTrip t o => Sys2Proof.Machine.execThermalTrip t o s
  | .thermalRetry t o => Sys2Proof.Machine.execThermalRetry t o s
  | .readbackCheck t o rb mid branches excess limit => Sys2Proof.Machine.execReadbackCheck t o rb mid branches excess limit s
  | .switchTestStart t o branch => Sys2Proof.Machine.execSwitchTestStart t o branch s
  | .testStepEnd t mid rb => Sys2Proof.Machine.execTestStepEnd t mid rb s
  | .darkPulseStart t o => Sys2Proof.Machine.execDarkPulseStart t o s
  | .darkPulseEnd t current mid => Sys2Proof.Machine.execDarkPulseEnd t current mid s
  | .linkSilenceDetect t m rejected => Sys2Proof.Machine.execLinkSilenceDetect t m rejected s
  | .linkSilenceTimeout t m => Sys2Proof.Machine.execLinkSilenceTimeout t m s
  | .mastInputFrameTimeout t m => Sys2Proof.Machine.execMastInputFrameTimeout t m s
  | .inputFilterAccept t index level => Sys2Proof.Machine.execInputFilterAccept t index level s
  | .inputInvalid t index => Sys2Proof.Machine.execInputInvalid t index s
  | .pairDiscrepancyTimeout t p => Sys2Proof.Machine.execPairDiscrepancyTimeout t p s
  | .fieldSupplyChange t n st => Sys2Proof.Machine.execFieldSupplyChange t n st s
  | .queuedChangeClear t m n => Sys2Proof.Machine.execQueuedChangeClear t m n s
  | .zeroSpeedDeclare t => Sys2Proof.Machine.execZeroSpeedDeclare t s
  | .slipEndExpiry t => Sys2Proof.Machine.execSlipEndExpiry t s
  | .odoSlipExpiry t => Sys2Proof.Machine.execOdoSlipExpiry t s
  | .speedConfirmExpiry t n => Sys2Proof.Machine.execSpeedConfirmExpiry t n s
  | .limitDelayExpiry t n => Sys2Proof.Machine.execLimitDelayExpiry t n s
  | .spAckWrite t writers value => Sys2Proof.Machine.execSpAckWrite t writers value s
  | .spRefclrWrite t writers value => Sys2Proof.Machine.execSpRefclrWrite t writers value s
  | .appCycleStart t m => Sys2Proof.Machine.execAppCycleStart t m s
  | .cycleLimitExpiry t m => Sys2Proof.Machine.execCycleLimitExpiry t m s
  | .applicationException t m code addr => Sys2Proof.Machine.execApplicationException t m code addr s
  | .onlineChangeRequest t auth hash items => Sys2Proof.Machine.execOnlineChangeRequest t auth hash items s
  | .retainWriteDone t m good => Sys2Proof.Machine.execRetainWriteDone t m good s
  | .scWatchdogExpiry t index => Sys2Proof.Machine.execScWatchdogExpiry t index s
  | .networkFrameReceived t p f fcsOk => Sys2Proof.Machine.execNetworkFrameReceived t p f fcsOk s
  | .prpEntryForget t iface mac seq => Sys2Proof.Machine.execPrpEntryForget t iface mac seq s
  | .linkChange t p speed half energy => Sys2Proof.Machine.execLinkChange t p speed half energy s
  | .pdPublish t telegram => Sys2Proof.Machine.execPdPublish t telegram s
  | .pdPullRequest t telegram => Sys2Proof.Machine.execPdPullRequest t telegram s
  | .mdRequest t comId => Sys2Proof.Machine.execMdRequest t comId s
  | .mdReplyTimeout t session => Sys2Proof.Machine.execMdReplyTimeout t session s
  | .ringProduce t m n value => Sys2Proof.Machine.execRingProduce t m n value s
  | .ringConsume t m n value => Sys2Proof.Machine.execRingConsume t m n value s
  | .poolReturn t m index => Sys2Proof.Machine.execPoolReturn t m index s
  | .transmitDescriptor t m n outcome => Sys2Proof.Machine.execTransmitDescriptor t m n outcome s
  | .dmaDoorbell t m n => Sys2Proof.Machine.execDmaDoorbell t m n s
  | .dmaDescriptorComplete t m n rack => Sys2Proof.Machine.execDmaDescriptorComplete t m n rack s
  | .dmaTargetError t m n written rack => Sys2Proof.Machine.execDmaTargetError t m n written rack s
  | .dmaStoppedClear t m n => Sys2Proof.Machine.execDmaStoppedClear t m n s
  | .cacheClean t m tr dirty => Sys2Proof.Machine.execCacheClean t m tr dirty s
  | .cacheInvalidate t m tr dirty => Sys2Proof.Machine.execCacheInvalidate t m tr dirty s
  | .cacheCleanInvalidate t m tr dirty => Sys2Proof.Machine.execCacheCleanInvalidate t m tr dirty s
  | .cacheOpDone t m tr => Sys2Proof.Machine.execCacheOpDone t m tr s
  | .barrier t m tr => Sys2Proof.Machine.execBarrier t m tr s
  | .rackOutboundAccess t m tr addr size write value => Sys2Proof.Machine.execRackOutboundAccess t m tr addr size write value s
  | .rackTargetRetry t => Sys2Proof.Machine.execRackTargetRetry t s
  | .rackTransactionComplete t ack ad parityOk => Sys2Proof.Machine.execRackTransactionComplete t ack ad parityOk s
  | .rackTransactionTimeout t => Sys2Proof.Machine.execRackTransactionTimeout t s
  | .rackUnconfirmedTimeout t => Sys2Proof.Machine.execRackUnconfirmedTimeout t s
  | .bbPwepop t tr => Sys2Proof.Machine.execBbPwepop t tr s
  | .rackInboundWrite t raddr be ad parityOk => Sys2Proof.Machine.execRackInboundWrite t raddr be ad parityOk s
  | .rackInboundRead t raddr => Sys2Proof.Machine.execRackInboundRead t raddr s
  | .exposeCommit t m mask seq => Sys2Proof.Machine.execExposeCommit t m mask seq s
  | .exposeCopyDone t => Sys2Proof.Machine.execExposeCopyDone t s
  | .intLinePoll t levels => Sys2Proof.Machine.execIntLinePoll t levels s
  | .sidebandPoll t results => Sys2Proof.Machine.execSidebandPoll t results s
  | .stayLinkFrameReceived t f upstream residence => Sys2Proof.Machine.execStayLinkFrameReceived t f upstream residence s
  | .presenceSend t => Sys2Proof.Machine.execPresenceSend t s
  | .memberTimeout t slot => Sys2Proof.Machine.execMemberTimeout t slot s
  | .masterTakeover t slot => Sys2Proof.Machine.execMasterTakeover t slot s
  | .ringWrap t neighbour lost => Sys2Proof.Machine.execRingWrap t neighbour lost s
  | .ringUnwrap t neighbour returned => Sys2Proof.Machine.execRingUnwrap t neighbour returned s
  | .linkdelayExchange t up down => Sys2Proof.Machine.execLinkdelayExchange t up down s
  | .sharedBlockSend t => Sys2Proof.Machine.execSharedBlockSend t s
  | .memoryRead t m src place addr found => Sys2Proof.Machine.execMemoryRead t m src place addr found s
  | .memoryPartialWrite t m tr addr bytes found => Sys2Proof.Machine.execMemoryPartialWrite t m tr addr bytes found s
  | .scrubWord t m dram found => Sys2Proof.Machine.execScrubWord t m dram found s
  | .miInjectSingle t writers target dram bit => Sys2Proof.Machine.execMiInjectSingle t writers target dram bit s
  | .miInjectDouble t writers target dram bit => Sys2Proof.Machine.execMiInjectDouble t writers target dram bit s
  | .begin t writers => Sys2Proof.Machine.execBegin t writers s
  | .write t writers => Sys2Proof.Machine.execWrite t writers s
  | .updateReadback t bad differ => Sys2Proof.Machine.execUpdateReadback t bad differ s
  | .abort t writers => Sys2Proof.Machine.execAbort t writers s
  | .updateIdleTimeout t => Sys2Proof.Machine.execUpdateIdleTimeout t s
  | .activate t writers f lost env => Sys2Proof.Machine.execActivate t writers f lost env s
  | .activateNoJury t writers env => Sys2Proof.Machine.execActivateNoJury t writers env s
  | .confirm t writers => Sys2Proof.Machine.execConfirm t writers s
  | .confirmWindowExpiry t env => Sys2Proof.Machine.execConfirmWindowExpiry t env s
  | .revoke t writers => Sys2Proof.Machine.execRevoke t writers s
  | .keyprog t writers => Sys2Proof.Machine.execKeyprog t writers s
  | .settings t writers => Sys2Proof.Machine.execSettings t writers s
  | .recoveryDownload t via fw app bad f env => Sys2Proof.Machine.execRecoveryDownload t via fw app bad f env s
  | .syslogExport t => Sys2Proof.Machine.execSyslogExport t s
  | .serviceLineReceived t line => Sys2Proof.Machine.execServiceLineReceived t line s
  | .monHelp t => Sys2Proof.Machine.execMonHelp t s
  | .monId t => Sys2Proof.Machine.execMonId t s
  | .monStatus t => Sys2Proof.Machine.execMonStatus t s
  | .monLog t => Sys2Proof.Machine.execMonLog t s
  | .monReg t => Sys2Proof.Machine.execMonReg t s
  | .monIo t => Sys2Proof.Machine.execMonIo t s
  | .monBus t => Sys2Proof.Machine.execMonBus t s
  | .monNet t => Sys2Proof.Machine.execMonNet t s
  | .monTime t => Sys2Proof.Machine.execMonTime t s
  | .monSup t => Sys2Proof.Machine.execMonSup t s
  | .monMem t => Sys2Proof.Machine.execMonMem t s
  | .monKeys t => Sys2Proof.Machine.execMonKeys t s
  | .monAuth t => Sys2Proof.Machine.execMonAuth t s
  | .monResp t => Sys2Proof.Machine.execMonResp t s
  | .monLogout t => Sys2Proof.Machine.execMonLogout t s
  | .monStart t => Sys2Proof.Machine.execMonStart t s
  | .monStop t => Sys2Proof.Machine.execMonStop t s
  | .monHold t => Sys2Proof.Machine.execMonHold t s
  | .monResume t => Sys2Proof.Machine.execMonResume t s
  | .monStandby t => Sys2Proof.Machine.execMonStandby t s
  | .monReset t env => Sys2Proof.Machine.execMonReset t env s
  | .monService t => Sys2Proof.Machine.execMonService t s
  | .monLeave t => Sys2Proof.Machine.execMonLeave t s
  | .monForce t => Sys2Proof.Machine.execMonForce t s
  | .monUnforce t => Sys2Proof.Machine.execMonUnforce t s
  | .monSet t => Sys2Proof.Machine.execMonSet t s
  | .monOut t => Sys2Proof.Machine.execMonOut t s
  | .monBustest t => Sys2Proof.Machine.execMonBustest t s
  | .monInject t => Sys2Proof.Machine.execMonInject t s
  | .monStep t => Sys2Proof.Machine.execMonStep t s
  | .monSilclr t => Sys2Proof.Machine.execMonSilclr t s
  | .monSyslog t store => Sys2Proof.Machine.execMonSyslog t store s
  | .monUpdate t => Sys2Proof.Machine.execMonUpdate t s
  | .monActivate t f lost env => Sys2Proof.Machine.execMonActivate t f lost env s
  | .monAbort t => Sys2Proof.Machine.execMonAbort t s
  | .monConfirm t => Sys2Proof.Machine.execMonConfirm t s
  | .monKey t => Sys2Proof.Machine.execMonKey t s
  | .authChallengeExpiry t => Sys2Proof.Machine.execAuthChallengeExpiry t s
  | .sessionIdleTimeout t => Sys2Proof.Machine.execSessionIdleTimeout t s
  | .authLockoutEnd t => Sys2Proof.Machine.execAuthLockoutEnd t s
  | .supplyLowExpiry t mv => Sys2Proof.Machine.execSupplyLowExpiry t mv s
  | .supplyOverExpiry t mv => Sys2Proof.Machine.execSupplyOverExpiry t mv s
  | .supplyOverRepeat t mv => Sys2Proof.Machine.execSupplyOverRepeat t mv s
  | .supplyInterruptionBegin t mv => Sys2Proof.Machine.execSupplyInterruptionBegin t mv s
  | .supplyInterruptionEnd t mv lowest => Sys2Proof.Machine.execSupplyInterruptionEnd t mv lowest s
  | .holdupCharged t => Sys2Proof.Machine.execHoldupCharged t s
  | .holdupExhausted t => Sys2Proof.Machine.execHoldupExhausted t s
  | .railTempCrossing t left right => Sys2Proof.Machine.execRailTempCrossing t left right s
  | .tachSupplyLimit t ax => Sys2Proof.Machine.execTachSupplyLimit t ax s
  | .tachSupplyRetry t ax => Sys2Proof.Machine.execTachSupplyRetry t ax s
  | .powerDownWaitExpiry t env => Sys2Proof.Machine.execPowerDownWaitExpiry t env s
  | .logicSupplyThreshold t mv => Sys2Proof.Machine.execLogicSupplyThreshold t mv s
  | .overrateEnd t ax => Sys2Proof.Machine.execOverrateEnd t ax s
  | .edgeLogQueryDone t m => Sys2Proof.Machine.execEdgeLogQueryDone t m s
  | .updateBlockWritten t => Sys2Proof.Machine.execUpdateBlockWritten t s
  | .serviceTransferBlock t f => Sys2Proof.Machine.execServiceTransferBlock t f s
  | .proposalRerequest t m pseq => Sys2Proof.Machine.execProposalRerequest t m pseq s
  | .fillRequest t holder peer source seq => Sys2Proof.Machine.execFillRequest t holder peer source seq s
  | .pageRecordRequest t survivor region page => Sys2Proof.Machine.execPageRecordRequest t survivor region page s

end Sys2Proof.Machine
end

