-- ==== Sys2Proof/Machine/Step.lean ====
section
/-!
DEFINITION. One step of the module: the command at the front of the queue acts; with none waiting, a tick of the 4 ns clock
passes (R5).
-/
namespace Sys2Proof.Machine

/-- The step of the block. Where no command waits the local clock moves by one tick and nothing else happens: everything that
happens at a time has a command of its own. (DESIGN CHOICE, log entry 1) (DESIGN CHOICE, log entry 2) -/
def step (s : State) : Host.Outcome State Fault Refusal :=
  match s.pending with
  | [] => .next (s.advance (s.now + 4))
  | c :: rest => exec c { s with pending := rest }

/-- The state with the command a word spells at the front of its queue; the table gives no row any bits, so the state is
unchanged. -/
def State.withFetchWord (s : State) (nbits w : Nat) : State :=
  match Sys2Proof.decodeTableWord nbits w with
  | some c => { s with pending := c :: s.pending }
  | none => s

end Sys2Proof.Machine
end

