-- ==== Sys2Proof/Safety.lean ====
section
/-!
DEFINITION. What counts as a safe run, and the words frames are stated in: which parts of the state, and which registers, a
command leaves as they were.
-/
namespace Sys2Proof.Safety

open Sys2Proof.Machine

/-- The outcome is a next state: no command of this model stops the machine. -/
def completes (r : Result) : Prop := ∃ t, r = .next t

/-- The state after `k` steps with no command waiting longer than it takes to reach the front. -/
def runs (k : Nat) (s : State) : Prop := ∃ t, Host.Core.run ⟨State, Fault, Refusal, step, State.reset⟩ k s = .next t

/-- The parts of the state; `mem` stands for the memories of the four masts, which `masts` holds as well. -/
inductive Part where
  | now | pending | regs | shown | writes | ctl | masts | log | key | lane | intake | time | pos | fb | app | queue | bridge | stay
  | net | sup | field | upd | supply | panel | standby | mon | free | mem
  deriving DecidableEq, Repr

/-- One part is the same in two states. -/
def same (s t : State) : Part → Prop
  | .now => t.now = s.now
  | .pending => t.pending = s.pending
  | .regs => t.regs = s.regs
  | .shown => t.shown = s.shown
  | .writes => t.writes = s.writes
  | .ctl => t.ctl = s.ctl
  | .masts => t.masts = s.masts
  | .log => t.log = s.log
  | .key => t.key = s.key
  | .lane => t.lane = s.lane
  | .intake => t.intake = s.intake
  | .time => t.time = s.time
  | .pos => t.pos = s.pos
  | .fb => t.fb = s.fb
  | .app => t.app = s.app
  | .queue => t.queue = s.queue
  | .bridge => t.bridge = s.bridge
  | .stay => t.stay = s.stay
  | .net => t.net = s.net
  | .sup => t.sup = s.sup
  | .field => t.field = s.field
  | .upd => t.upd = s.upd
  | .supply => t.supply = s.supply
  | .panel => t.panel = s.panel
  | .standby => t.standby = s.standby
  | .mon => t.mon = s.mon
  | .free => t.free = s.free
  | .mem => ∀ m, (t.mast m).mem = (s.mast m).mem

/-- Every part but those listed is the same in both states. -/
def sameBut (l : List Part) (s t : State) : Prop := ∀ p, p ∉ l → same s t p

/-- Registers and memories are in the canonical form: equal contents are equal lists. -/
def canonical (s : State) : Prop := s.regs.wf = true ∧ ∀ m, (s.mast m).mem.wf = true

/-- What going from one state to another keeps: every part but those listed, the canonical form, and the clock's direction. -/
structure Keeps (l : List Part) (s t : State) : Prop where
  frame : sameBut l s t
  canon : canonical s → canonical t
  clock : s.now ≤ t.now

/-- The silence record in a mast's memory (R95). -/
def recordOf (s : State) (m : Mast) : List Byte := (s.mast m).mem.readBytes silenceAddr 32

/-- Mast `m` has gone fail-silent with a cause: both triads held, the token given up, the record written with MAGIC, VALID and the
cause and sent as the last word; everything of the other masts and all its memory but the record is as it was (R92, R93, R95). -/
def wentSilent (s t : State) (m : Mast) (cause : Nat) : Prop :=
  (t.mast m).silent = true ∧ (t.mast m).held = true ∧ (t.mast m).token = false ∧ (t.mast m).lastWord = some (recordOf t m) ∧
  fieldAt (recordOf t m) 0 2 = 0x5352 ∧ fieldAt (recordOf t m) 2 1 = 1 ∧ fieldAt (recordOf t m) 3 1 = cause ∧
  (∀ a, a < silenceAddr ∨ silenceAddr + 32 ≤ a → (t.mast m).mem.readByte a = (s.mast m).mem.readByte a) ∧
  ∀ o, o ≠ m → t.mast o = s.mast o

/-- The silence record of a mast names who and the detail (R95). -/
def recorded (t : State) (m : Mast) (who detail : Nat) : Prop :=
  fieldAt (recordOf t m) 4 4 = who ∧ fieldAt (recordOf t m) 20 4 = detail

/-- Every register but the listed copies reads the same in both states. -/
def regsBut (l : List (Copy × Nat)) (s t : State) : Prop :=
  ∀ c a, a < 2 ^ 32 → (c, a) ∉ l → t.reg c a = s.reg c a

/-- The event is among those that wait for the next action instant, raised by the masts of a mask (R98, R411). -/
def raised (s : State) (src code a1 a2 : Nat) : Prop :=
  ∃ e ∈ s.log.due, e.code = code ∧ e.source = src ∧ e.arg1 = a1 % 2 ^ 32 ∧ e.arg2 = a2 % 2 ^ 32

/-- What each command may change, by part of the state. Parts are whole structures: the statements about one command name its
registers and fields; this table says of every command what lies outside its reach altogether. -/
def touches : Instr → List Part
  | .proposalSend .. | .proposalReceived .. | .proposalRerequest .. | .fillRequest .. =>
    [.now, .intake, .time, .free]
  | .appFetchServe .. =>
    [.now, .key, .time, .free]
  | .heartbeatSend .. | .pageRecordRequest .. =>
    [.now, .lane, .time, .free]
  | .summaryEventPeriodEnd .. | .lastWordReceived .. =>
    [.now, .log, .time, .free]
  | .misalignedRegisterAccess .. | .unmappedAccess .. | .readOnlyRegionWrite .. | .reservedAreaWrite .. =>
    [.now, .masts, .time, .free]
  | .buttonOpenExpiry .. | .dmaStoppedClear .. | .linkdelayExchange .. =>
    [.now, .regs, .time, .free]
  | .cycleLimitExpiry .. | .applicationException .. =>
    [.now, .time, .app, .free]
  | .exposeCommit .. =>
    [.now, .time, .bridge, .free]
  | .inputFrameSend .. | .thermalRetry .. | .switchTestStart .. | .darkPulseStart .. | .queuedChangeClear .. =>
    [.now, .time, .field, .free]
  | .authChallengeExpiry .. | .authLockoutEnd .. =>
    [.now, .time, .mon, .free]
  | .prpEntryForget .. | .pdPublish .. | .pdPullRequest .. =>
    [.now, .time, .net, .free]
  | .buttonContactClose .. =>
    [.now, .time, .panel, .free]
  | .overrateEnd .. =>
    [.now, .time, .pos, .free]
  | .sharedBlockSend .. =>
    [.now, .time, .stay, .free]
  | .tachSupplyRetry .. =>
    [.now, .time, .supply, .free]
  | .intLinePoll .. =>
    [.now, .intake, .time, .bridge, .free]
  | .currentLimitExpiry .. | .thermalTrip .. | .readbackCheck .. | .inputFilterAccept .. | .inputInvalid .. |
    .pairDiscrepancyTimeout .. =>
    [.now, .log, .time, .field, .free]
  | .monHelp .. | .monId .. | .monStatus .. | .monLog .. | .monReg .. | .monIo .. | .monBus .. | .monNet .. | .monTime .. |
    .monSup .. | .monMem .. | .monKeys .. | .monAuth .. | .monUpdate .. =>
    [.now, .log, .time, .mon, .free]
  | .slipEndExpiry .. =>
    [.now, .log, .time, .sup, .free]
  | .supplyOverExpiry .. | .supplyOverRepeat .. | .tachSupplyLimit .. =>
    [.now, .log, .time, .supply, .free]
  | .bootTokenWindowEnd .. =>
    [.now, .masts, .key, .time, .free]
  | .triadCFencedWrite .. =>
    [.now, .masts, .log, .time, .free]
  | .tdSilclr .. =>
    [.now, .masts, .time, .free, .mem]
  | .barrier .. =>
    [.now, .masts, .time, .queue, .free]
  | .ptpMessage .. | .timeSourceLost .. | .tbOffsetWrite .. | .linkChange .. | .ringProduce .. | .syslogExport .. =>
    [.now, .regs, .log, .time, .free]
  | .tbTsqpop .. | .tbNownsRead .. | .tbPosloRead .. =>
    [.now, .regs, .masts, .time, .free]
  | .exposeCopyDone .. =>
    [.now, .regs, .time, .bridge, .free]
  | .serviceLineReceived .. =>
    [.now, .regs, .time, .mon, .free]
  | .mdReplyTimeout .. =>
    [.now, .regs, .time, .net, .free]
  | .recoveryBreakBegin .. | .recoveryBreakEnd .. =>
    [.now, .regs, .time, .panel, .free]
  | .edgeLogQuery .. | .edgeLogQueryDone .. =>
    [.now, .regs, .time, .pos, .free]
  | .supplyInterruptionEnd .. | .logicSupplyThreshold .. =>
    [.now, .regs, .time, .supply, .free]
  | .updateBlockWritten .. =>
    [.now, .regs, .time, .upd, .free]
  | .sidebandPoll .. =>
    [.now, .regs, .intake, .time, .bridge, .free]
  | .fbSlotReport .. =>
    [.now, .regs, .intake, .time, .fb, .free]
  | .cycleEndMark .. =>
    [.now, .regs, .lane, .time, .app, .free]
  | .sealPoll .. =>
    [.now, .regs, .log, .key, .time, .free]
  | .frameUnconfirmedTimeout .. =>
    [.now, .regs, .log, .lane, .time, .free]
  | .onlineChangeRequest .. =>
    [.now, .regs, .log, .time, .app, .free]
  | .rackInboundRead .. =>
    [.now, .regs, .log, .time, .bridge, .free]
  | .fbIntegrateDone .. | .fbRecoverDone .. | .fbTestOn .. | .fbTestOff .. | .fbNodeLost .. | .fbNodeExcluded .. |
    .fbNodeReadmitted .. | .fbGrantWithdraw .. | .fbGrantIdleExpiry .. | .fbChannelFault .. =>
    [.now, .regs, .log, .time, .fb, .free]
  | .commandFrameReceived .. | .configFrameReceived .. | .testStepEnd .. | .darkPulseEnd .. | .linkSilenceDetect .. |
    .linkSilenceTimeout .. | .fieldSupplyChange .. =>
    [.now, .regs, .log, .time, .field, .free]
  | .monResp .. | .monOut .. =>
    [.now, .regs, .log, .time, .mon, .free]
  | .scWatchdogExpiry .. | .mdRequest .. =>
    [.now, .regs, .log, .time, .net, .free]
  | .poolReturn .. | .cacheClean .. | .cacheInvalidate .. | .cacheCleanInvalidate .. =>
    [.now, .regs, .log, .time, .queue, .free]
  | .presenceSend .. | .memberTimeout .. | .masterTakeover .. | .ringWrap .. | .ringUnwrap .. =>
    [.now, .regs, .log, .time, .stay, .free]
  | .zeroSpeedDeclare .. | .odoSlipExpiry .. | .speedConfirmExpiry .. | .limitDelayExpiry .. | .spAckWrite .. |
    .spRefclrWrite .. =>
    [.now, .regs, .log, .time, .sup, .free]
  | .supplyLowExpiry .. | .supplyInterruptionBegin .. | .holdupCharged .. | .railTempCrossing .. =>
    [.now, .regs, .log, .time, .supply, .free]
  | .revoke .. | .keyprog .. =>
    [.now, .regs, .log, .time, .upd, .free]
  | .bbPwepop .. =>
    [.now, .regs, .masts, .time, .bridge, .free]
  | .settings .. =>
    [.now, .regs, .masts, .time, .free, .mem]
  | .monSilclr .. =>
    [.now, .masts, .log, .time, .mon, .free, .mem]
  | .outputImageSubmit .. =>
    [.now, .regs, .lane, .time, .app, .net, .free]
  | .rackInboundWrite .. =>
    [.now, .regs, .log, .intake, .time, .bridge, .free]
  | .fbFrameReceived .. =>
    [.now, .regs, .log, .intake, .time, .fb, .free]
  | .closeTimeout .. =>
    [.now, .regs, .log, .intake, .time, .queue, .free]
  | .stayLinkFrameReceived .. =>
    [.now, .regs, .log, .intake, .time, .stay, .free]
  | .appFetchRequest .. =>
    [.now, .regs, .log, .key, .time, .stay, .free]
  | .normalHandover .. =>
    [.now, .regs, .log, .lane, .time, .bridge, .free]
  | .monForce .. | .monUnforce .. | .monSet .. | .sessionIdleTimeout .. =>
    [.now, .regs, .log, .time, .app, .mon, .free]
  | .monBustest .. =>
    [.now, .regs, .log, .time, .fb, .mon, .free]
  | .monKey .. =>
    [.now, .regs, .log, .time, .upd, .mon, .free]
  | .voterHalfMismatch .. | .delayStageParityError .. | .lockstepTimeout .. | .mastInputFrameTimeout .. =>
    [.now, .regs, .masts, .lane, .time, .free, .mem]
  | .readAnswerTimeout .. =>
    [.now, .regs, .masts, .log, .time, .bridge, .free]
  | .miInjectSingle .. | .miInjectDouble .. | .confirm .. =>
    [.now, .regs, .masts, .log, .time, .free, .mem]
  | .registerWrite .. =>
    [.now, .regs, .writes, .masts, .log, .time, .free]
  | .networkFrameReceived .. =>
    [.now, .regs, .log, .intake, .time, .net, .panel, .free]
  | .commandFrameSend .. =>
    [.now, .regs, .log, .intake, .time, .sup, .field, .free]
  | .rackOutboundAccess .. | .rackTargetRetry .. | .rackTransactionComplete .. | .rackTransactionTimeout .. |
    .rackUnconfirmedTimeout .. =>
    [.now, .regs, .masts, .log, .intake, .time, .bridge, .free]
  | .mastSupervisionFault .. | .dieTemperatureCrossing .. | .triadVoteDisagree .. | .resyncSelftestDone .. | .resyncPoint ..
    | .tdInjectOutputBit .. | .tdInjectInputParity .. | .tdInjectOutputParity .. | .tdInjectVoter .. | .fillDeadline .. |
    .memoryRead .. | .memoryPartialWrite .. | .scrubWord .. =>
    [.now, .regs, .masts, .log, .lane, .time, .free, .mem]
  | .retainWriteDone .. =>
    [.now, .regs, .masts, .log, .time, .app, .free, .mem]
  | .monSyslog .. | .monConfirm .. =>
    [.now, .regs, .masts, .log, .time, .mon, .free, .mem]
  | .begin .. | .write .. | .updateReadback .. | .abort .. | .updateIdleTimeout .. =>
    [.now, .regs, .masts, .log, .time, .upd, .free, .mem]
  | .fbSlotTransmit .. =>
    [.now, .regs, .log, .lane, .intake, .time, .fb, .bridge, .free]
  | .timeBandCheck .. =>
    [.now, .regs, .masts, .log, .lane, .time, .bridge, .free, .mem]
  | .monInject .. =>
    [.now, .regs, .masts, .log, .lane, .time, .mon, .free, .mem]
  | .ringConsume .. | .dmaDoorbell .. | .dmaDescriptorComplete .. | .dmaTargetError .. | .cacheOpDone .. =>
    [.now, .regs, .masts, .log, .lane, .time, .queue, .free, .mem]
  | .monAbort .. | .serviceTransferBlock .. =>
    [.now, .regs, .masts, .log, .time, .upd, .mon, .free, .mem]
  | .fillReceived .. =>
    [.now, .regs, .masts, .log, .lane, .intake, .time, .queue, .free, .mem]
  | .appCycleStart .. =>
    [.now, .regs, .masts, .log, .lane, .time, .app, .net, .free, .mem]
  | .transmitDescriptor .. =>
    [.now, .regs, .masts, .log, .lane, .intake, .time, .bridge, .stay, .free, .mem]
  | .itemArrival .. =>
    [.now, .regs, .masts, .log, .lane, .intake, .time, .queue, .bridge, .free, .mem]
  | .forcedStep .. | .initialAcquisition .. | .timeComparatorFire .. | .tbCmpcfgWrite .. =>
    [.now, .regs, .masts, .log, .lane, .time, .pos, .queue, .field, .free, .mem]
  | .inputFrameReceived .. =>
    [.now, .regs, .masts, .log, .lane, .intake, .time, .queue, .bridge, .field, .free, .mem]
  | .monStep .. =>
    [.now, .regs, .masts, .log, .lane, .time, .pos, .queue, .field, .mon, .free, .mem]
  | .tachoEdge .. =>
    [.now, .regs, .masts, .log, .lane, .time, .pos, .queue, .sup, .field, .free, .mem]
  | .isolationPowerCheck .. | .joinReady .. | .joinReadyTimeout .. | .joinEntryTimeout .. =>
    [.now, .regs, .writes, .masts, .log, .lane, .intake, .time, .queue, .sup, .field, .free, .mem]
  | .intakeRelease .. =>
    [.now, .regs, .masts, .log, .lane, .intake, .time, .pos, .fb, .app, .queue, .bridge, .net, .sup, .field, .free, .mem]
  | .commitPoint .. | .stop .. | .hold .. | .resume .. | .service .. | .leave .. | .holdTimeout .. | .hb1BeatReceived .. |
    .hb2Edge .. | .heartbeatMissed .. | .checkpointPageRecord .. | .frameDigestDeposit .. | .monLogout .. | .monStop .. |
    .monHold .. | .monResume .. | .monService .. | .monLeave .. =>
    [.now, .regs, .writes, .ctl, .masts, .log, .key, .lane, .intake, .time, .fb, .app, .queue, .bridge, .stay, .net, .sup,
    .field, .upd, .mon, .free, .mem]
  | .autostart .. | .recoveryBreakExpiry .. | .start .. | .startCold .. | .frameLaunch .. | .monStart .. =>
    [.now, .regs, .writes, .ctl, .masts, .log, .key, .lane, .intake, .time, .fb, .app, .queue, .bridge, .stay, .net, .sup,
    .field, .upd, .panel, .mon, .free, .mem]
  | .standby .. | .monStandby .. =>
    [.now, .regs, .writes, .ctl, .masts, .log, .key, .lane, .intake, .time, .pos, .fb, .app, .queue, .bridge, .stay, .net,
    .sup, .field, .upd, .standby, .mon, .free, .mem]
  | .actionInstant .. =>
    [.now, .regs, .shown, .writes, .ctl, .masts, .log, .key, .lane, .intake, .time, .pos, .fb, .app, .queue, .bridge, .stay,
    .net, .sup, .field, .upd, .supply, .mon, .free, .mem]
  | .powerOn .. | .buttonDebounceExpiry .. | .buttonContactRelease .. | .buttonStuckExpiry .. | .reset .. | .wakeEvent .. |
    .standbyMastFault .. | .appFetchReceived .. | .activate .. | .activateNoJury .. | .confirmWindowExpiry .. |
    .recoveryDownload .. | .monReset .. | .monActivate .. | .holdupExhausted .. | .powerDownWaitExpiry .. =>
    [.now, .regs, .shown, .writes, .ctl, .masts, .log, .key, .lane, .intake, .time, .pos, .fb, .app, .queue, .bridge, .stay,
    .net, .sup, .field, .upd, .supply, .panel, .standby, .mon, .free, .mem]

/-- The mode changes of R27's table: the mode before and the mode after. The modes STOP, RUN, HOLD, SERVICE and STANDBY are entered
from the listed ones alone. A reset runs BOOT at once, whatever the mode before, and BOOT may end in SAFE or RECOVERY (R20, R30), so
these three are left open here; what leads out of SAFE is `leavesSafe`. -/
def mayFollow : Mode → Mode → Bool
  | _, .boot | _, .safe | _, .recovery => true
  | a, .stop => [.stop, .boot, .run, .hold, .service, .standby].contains a
  | a, .run => [.run, .stop, .hold, .standby].contains a
  | a, .hold => [.hold, .run].contains a
  | a, .service => [.service, .stop].contains a
  | a, .standby => [.standby, .stop, .run].contains a

/-- The commands that may take the module out of SAFE: a power cycle and the reset pushbutton (R27, R28). -/
def leavesSafe : Instr → Bool
  | .powerOn .. | .holdupExhausted .. | .powerDownWaitExpiry .. => true
  | .buttonDebounceExpiry .. | .buttonContactRelease .. | .buttonStuckExpiry .. => true
  | _ => false

end Sys2Proof.Safety
end

