-- ==== Sys2Proof/Certificates/Slice0/Obligations.lean ====
section
/-!
DEFINITION. The statements about the model, for the provers: each formalises rules of the spec, or says of every command and every
state what a reader of the model must be able to rely on. The clauses of one statement are named by the command they are about.
-/


open Sys2Proof Sys2Proof.Machine Sys2Proof.Safety

/-- The effect R77 to R80 give these four commands is to COMPLETE with a bus error. For every state, mast and triad that
executes: unmappedAccess to an address in none of the ranges of R77, readOnlyRegionWrite to boot ROM or NOR flash,
reservedAreaWrite to one of the three areas of R79 and triadCFencedWrite below the fence of TD_FENCE answer a next
state in which that triad has the bus error as its answer; that mast is otherwise as it was, and so is everything
else but the clock. The fenced write raises FENCE_VIOLATION with the address besides. Completion: for every state
and operands that meet the stated conditions on them alone, exec answers the next state of the own effect of
unmappedAccess (UNMAPPED_ACCESS), readOnlyRegionWrite (READ_ONLY_REGION_WRITE), reservedAreaWrite
(RESERVED_AREA_WRITE), triadCFencedWrite (TRIAD_C_FENCED_WRITE). -/
def Obligations.BusErrorAccesses : Prop :=
  (∀ (t : Nat) (m : Mast) (tr : Triad) (addr : Nat) (s : State), s.triadRuns m = true → ((0xFFFF < addr ∧ addr <
   0x10000000) ∨ (0x10BFFFFF < addr ∧ addr < 0x20000000) ∨ (0x200FFFFF < addr ∧ addr < 0x30000000) ∨ (0x33FFFFFF <
   addr ∧ addr < 0x40000000) ∨ (0xBFFFFFFF < addr ∧ addr < 0xE0000000)) → ∃ s', exec (.unmappedAccess t m tr addr) s
   = .next s' ∧ s'.masts = s.masts.set m ((s.mast m).setAnswer tr .busError) ∧ sameBut [.masts] (s.advance t) s') ∧
  (∀ (t : Nat) (m : Mast) (tr : Triad) (addr : Nat) (s : State), s.triadRuns m = true → (addr ≤ 0xFFFF ∨ (0x30000000
   ≤ addr ∧ addr ≤ 0x33FFFFFF)) → ∃ s', exec (.readOnlyRegionWrite t m tr addr) s = .next s' ∧ s'.masts =
   s.masts.set m ((s.mast m).setAnswer tr .busError) ∧ sameBut [.masts] (s.advance t) s') ∧
  (∀ (t : Nat) (m : Mast) (tr : Triad) (addr : Nat) (s : State), s.triadRuns m = true → ((0x10B20000 ≤ addr ∧ addr ≤
   0x10B3FFFF) ∨ (0x10B40000 ≤ addr ∧ addr ≤ 0x10BFFFFF) ∨ (0x200FFFE0 ≤ addr ∧ addr ≤ 0x200FFFFF)) → ∃ s', exec
   (.reservedAreaWrite t m tr addr) s = .next s' ∧ s'.masts = s.masts.set m ((s.mast m).setAnswer tr .busError) ∧
   sameBut [.masts] (s.advance t) s') ∧
  (∀ (t : Nat) (m : Mast) (addr : Nat) (s : State), s.triadRuns m = true → ((0x10000000 ≤ addr ∧ addr ≤ 0x10BFFFFF ∧
   addr < 0x10000000 + s.getF .agreed fTdFenceSram * 0x10000) ∨ (0x40000000 ≤ addr ∧ addr ≤ 0x7FFFFFFF ∧ addr <
   0x40000000 + s.getF .agreed fTdFenceDram * 0x1000000)) → ∃ s', exec (.triadCFencedWrite t m addr) s = .next s' ∧
   s'.masts = s.masts.set m ((s.mast m).setAnswer .c .busError) ∧ raised s' (2 ^ m.code) evFenceViolation addr 0 ∧
   sameBut [.masts, .log] (s.advance t) s')

/-- The effect R7 gives MISALIGNED_REGISTER_ACCESS is that the access COMPLETES with a bus error. For every state and
every triad that executes, and every address from 0xE0000000 upward, register blocks and unoccupied register space
alike: misalignedRegisterAccess that is not aligned or not 32 bits wide answers a next state in which that triad has
the bus error as its answer; that mast is otherwise as it was, and so is everything else but the clock. Completion:
for every state and operands that meet the stated conditions on them alone, exec answers the next state of the own
effect of misalignedRegisterAccess (MISALIGNED_REGISTER_ACCESS). -/
def Obligations.MisalignedRegisterAccesses : Prop :=
  ∀ (t : Nat) (m : Mast) (tr : Triad) (addr size : Nat) (s : State), s.triadRuns m = true → (0xE0000000 ≤ addr ∧
  addr ≤ 0xFFFFFFFF) → (addr % 4 ≠ 0 ∨ size ≠ 4) → ∃ s', exec (.misalignedRegisterAccess t m tr addr size) s = .next
  s' ∧ s'.masts = s.masts.set m ((s.mast m).setAnswer tr .busError) ∧ sameBut [.masts] (s.advance t) s'

/-- For every triad that executes. memoryRead by either triad or a block of an error-free word of SRAM, DRAM or MRAM
delivers the word (to the triad that asked) and changes nothing else; of a DRAM word with one bit in error it
delivers the word, mends it, and shows it in MI_LASTCE and MI_LASTSYN and counts it in MI_CEDRAM; of one with two it
makes MI_UNCORRECTABLE and takes the mast fail-silent with DETAIL 0x0302; of a register, it delivers what the
register reads. memoryPartialWrite by either triad stores exactly its bytes, every other byte of that memory reading
as before. scrubWord moves the scrubber of SRAM or DRAM on by one word over an error-free word, and at the top
counts a pass and begins anew. miInjectSingle and miInjectDouble, agreed, in SERVICE, invert one or two check bits
of the word and say so; without agreement the result is 3 and nothing else changes. Completion: for every state and
operands that meet the stated conditions on them alone, exec answers the next state of the own effect of memoryRead
(MEMORY_READ), memoryPartialWrite (MEMORY_PARTIAL_WRITE), scrubWord (SCRUB_WORD), miInjectSingle (MI_INJECT_SINGLE),
miInjectDouble (MI_INJECT_DOUBLE). -/
def Obligations.MemoryReadsAndWrites : Prop :=
  (∀ (t : Nat) (m : Mast) (src : MemSource) (addr : Nat) (s : State), s.triadRuns m = true → (regionOf addr = .sram
   ∨ regionOf addr = .dram ∨ regionOf addr = .mram) → (s.mast m).mem.errAt addr = [] → ∃ s', exec (.memoryRead t m
   src .memory addr .clean) s = .next s' ∧ s'.masts = (match src.triad
   with | some tr => s.masts.set m (((s.mast m) : MastState).setAnswer tr (.done ((s.mast m).mem.readWord addr))) | none => s.masts.set m (s.mast m))
   ∧ sameBut [.masts] (s.advance t) s') ∧
  (∀ (t : Nat) (m : Mast) (src : MemSource) (addr bit : Nat) (s : State), s.triadRuns m = true → regionOf addr =
   .dram → ((s.mast m).mem.errAt addr = [] ∧ bit < 72) → ∃ s', exec (.memoryRead t m src .memory addr (.single bit))
   s = .next s' ∧ (∀ tr, src.triad = some tr → (s'.mast m).answer tr = .done ((s.mast m).mem.readWord addr)) ∧
   (s'.mast m).mem.errAt addr = [] ∧ (∀ b, (s'.mast m).mem.readByte b = (s.mast m).mem.readByte b) ∧ (s'.mast
   m).silent = false ∧ (∀ o, o ≠ m → s'.mast o = s.mast o) ∧ s'.getF (.mast m) fMiCedramCount = min 0xFFFFFFFF
   (s.getF (.mast m) fMiCedramCount + 1) ∧ s'.getF (.mast m) fMiLastceAddr = wordAddr addr % 4294967296 ∧ s'.getF
   (.mast m) fMiLastsynMem = 1 ∧ s'.getF (.mast m) fMiLastsynSource = src.code ∧ s'.getF (.mast m) fMiLastsynBit =
   bit ∧ regsBut [(.mast m, rMiCedram), (.mast m, rMiLastce), (.mast m, rMiLastsyn), (.mast m, rMiRepeat), (.agreed,
   rMiCeall)] s s' ∧ sameBut [.masts, .mem, .regs, .log] (s.advance t) s') ∧
  (∀ (t : Nat) (m : Mast) (src : MemSource) (addr : Nat) (s : State), s.triadRuns m = true → regionOf addr = .dram →
   (s.mast m).mem.errAt addr = [] → ∃ s', exec (.memoryRead t m src .memory addr .wide) s = .next s' ∧ wentSilent s
   s' m 0x0C ∧ (s'.mast m).mem.readBytes (silenceAddr + 20) 4 = natLe 4 0x0302 ∧ raised s' (2 ^ m.code)
   evMiUncorrectable (256 + src.code) addr ∧ sameBut [.masts, .mem, .log, .lane, .regs, .time] (s.advance t) s') ∧
  (∀ (t : Nat) (m : Mast) (tr : Triad) (addr : Nat) (s : State), s.triadRuns m = true → (0xE0000000 ≤ addr ∧ addr ≤
   0xFFFFFFFF ∧ addr % 4 = 0) → (findReg addr).all (fun r => !ownRead r.name) = true → ∃ s', exec (.memoryRead t m
   (match tr with | .p => .triadP | .c => .triadC) .memory addr .clean) s = .next s' ∧ s'.masts = s.masts.set m
   ((s.mast m).setAnswer tr (.done ((s.advance t).readReg m tr addr).toNat)) ∧ (findReg addr = none → (s'.mast
   m).answer tr = .done 0) ∧ sameBut [.masts] (s.advance t) s') ∧
  (∀ (t : Nat) (m : Mast) (tr : Triad) (addr : Nat) (bytes : List Byte) (s : State), s.triadRuns m = true →
   (regionOf addr = .sram ∨ regionOf addr = .dram ∨ regionOf addr = .mram) → (bytes ≠ [] ∧ bytes.length < 8) →
   wordAddr addr = wordAddr (addr + bytes.length - 1) → (reservedArea addr = false ∧ reservedArea (addr +
   bytes.length - 1) = false) → (tr = .c → s.fenced addr = false) → (s.mast m).mem.errAt addr = [] → ∃ s', exec
   (.memoryPartialWrite t m tr addr bytes .clean) s = .next s' ∧ (s'.mast m).answer tr = .done 0 ∧ (s'.mast
   m).mem.readBytes addr bytes.length = bytes ∧ (∀ b, b < addr ∨ addr + bytes.length ≤ b → (s'.mast m).mem.readByte
   b = (s.mast m).mem.readByte b) ∧ s'.masts = s.masts.set m ({ s.mast m with mem := (s'.mast m).mem }.setAnswer tr
   (.done 0)) ∧ s'.lane = (s.markDirty addr).lane ∧ sameBut [.masts, .mem, .lane] (s.advance t) s') ∧
  (∀ (t : Nat) (m : Mast) (dram : Bool) (a : Nat) (s : State), ((s.mast m).powered = true ∧ (s.mast m).silent =
   false) → (if dram then (s.mast m).dramScrub else (s.mast m).sramScrub) = true → a = s.getF (.mast m) (if dram
   then fMiDramposAddr else fMiSramposAddr) * 8 → (s.mast m).mem.errAt a = [] → (scrubBase dram ≤ a ∧ a < scrubBase
   dram + scrubSize dram) → ∃ s', exec (.scrubWord t m dram .clean) s = .next s' ∧ s'.getF (.mast m) (if dram then
   fMiDramposAddr else fMiSramposAddr) * 8 = (if a + 8 < scrubBase dram + scrubSize dram then a - a % 8 + 8 else
   scrubBase dram) ∧ s'.getF (.mast m) (if dram then fMiPassesDram else fMiPassesSram) = (if a + 8 < scrubBase dram
   + scrubSize dram then s.getF (.mast m) (if dram then fMiPassesDram else fMiPassesSram) else min 65535 (s.getF
   (.mast m) (if dram then fMiPassesDram else fMiPassesSram) + 1)) ∧ regsBut [(.mast m, if dram then rMiDrampos else
   rMiSrampos), (.mast m, rMiPasses)] s s' ∧ sameBut [.regs] (s.advance t) s') ∧
  (∀ (t : Nat) (writers : Per Bool) (m : Mast) (dram : Bool) (bit a : Nat) (s : State), s.agreed writers = true →
   s.ctl.mode = .service → (s.mast m).powered = true → bit < 8 → a = s.getF .agreed fMiInjaddrAddr * 8 → regionOf a
   = (if dram then .dram else .sram) → (dram = true ∨ (s.mast m).mem.isValid a = true) → (s.mast m).mem.errAt a = []
   → ∃ s', exec (.miInjectSingle t writers m dram bit) s = .next s' ∧ (s'.mast m).mem.errAt a = [64 + bit] ∧ (∀ b,
   (s'.mast m).mem.readByte b = (s.mast m).mem.readByte b) ∧ s'.masts = s.masts.set m
   { s.mast m with mem := (s'.mast m).mem } ∧ s'.getF .agreed fMiInjstatResult = 1 ∧ raised s' s.lane.active.mask
   evMiInjectDone (1 + 256 * bit + 4096 * (if dram then 1 else 0) + 65536 * m.code) (wordAddr a) ∧ regsBut
   [(.agreed, rMiInjstat)] s s' ∧ sameBut [.masts, .mem, .regs, .log] (s.advance t) s') ∧
  (∀ (t : Nat) (writers : Per Bool) (m : Mast) (dram : Bool) (bit : Nat) (s : State), s.agreed writers = false → ∃
   s', exec (.miInjectSingle t writers m dram bit) s = .next s' ∧ s'.getF .agreed fMiInjstatResult = 3 ∧ regsBut
   [(.agreed, rMiInjstat)] s s' ∧ sameBut [.regs] (s.advance t) s') ∧
  (∀ (t : Nat) (writers : Per Bool) (m : Mast) (dram : Bool) (bit a : Nat) (s : State), s.agreed writers = true →
   s.ctl.mode = .service → (s.mast m).powered = true → bit < 8 → a = s.getF .agreed fMiInjaddrAddr * 8 → regionOf a
   = (if dram then .dram else .sram) → (dram = true ∨ (s.mast m).mem.isValid a = true) → (s.mast m).mem.errAt a = []
   → ∃ s', exec (.miInjectDouble t writers m dram bit) s = .next s' ∧ (s'.mast m).mem.errAt a = [64 + bit, 64 + (bit
   + 1) % 8] ∧ (∀ b, (s'.mast m).mem.readByte b = (s.mast m).mem.readByte b) ∧ s'.masts = s.masts.set m
   { s.mast m with mem := (s'.mast m).mem } ∧ s'.getF .agreed fMiInjstatResult = 1 ∧ raised s' s.lane.active.mask
   evMiInjectDone (2 + 256 * bit + 4096 * (if dram then 1 else 0) + 65536 * m.code) (wordAddr a) ∧ regsBut
   [(.agreed, rMiInjstat)] s s' ∧ sameBut [.masts, .mem, .regs, .log] (s.advance t) s') ∧
  (∀ (t : Nat) (writers : Per Bool) (m : Mast) (dram : Bool) (bit : Nat) (s : State), s.agreed writers = false → ∃
   s', exec (.miInjectDouble t writers m dram bit) s = .next s' ∧ s'.getF .agreed fMiInjstatResult = 3 ∧ regsBut
   [(.agreed, rMiInjstat)] s s' ∧ sameBut [.regs] (s.advance t) s')

/-- For every triad that executes and every value written: an RW register takes the value, an RO register keeps its
word, a W1C field loses the bits written as 1, an RWS field gains them, an RWL field keeps its word and the write
waits for the action instant in place of that mast's earlier one, and an offset no register occupies, inside the
register blocks or beyond them, ignores the write. Each access completes (registerWrite answers the triad), and
every other register reads as before. The instances are TB_PQSEC, TB_NOWNS, TB_CMPLOCAL_LO, MC_RSTCAUSE and LM_CTRL;
the clause about an unoccupied offset is for every such offset. Completion: for every state and operands that meet
the stated conditions on them alone, exec answers the next state of the own effect of registerWrite
(REGISTER_WRITE). -/
def Obligations.RegisterWritesByFieldType : Prop :=
  (∀ (t : Nat) (m : Mast) (tr : Triad) (addr : Nat) (v : Word) (s : State), s.triadRuns m = true → (0xE0000000 ≤
   addr ∧ addr ≤ 0xFFFFFFFF ∧ addr % 4 = 0) → findReg addr = none → ∃ s', exec (.registerWrite t m tr addr v) s =
   .next s' ∧ (s'.mast m).answer tr = .done 0 ∧ s'.masts = s.masts.set m ((s.mast m).setAnswer tr (.done 0)) ∧
   sameBut [.masts] (s.advance t) s') ∧
  (∀ (t : Nat) (m : Mast) (tr : Triad) (v : Word) (s : State), s.triadRuns m = true → ∃ s', exec (.registerWrite t m
   tr 0xE0040244 v) s = .next s' ∧ (s'.mast m).answer tr = .done 0 ∧ s'.masts = s.masts.set m ((s.mast m).setAnswer
   tr (.done 0)) ∧ sameBut [.masts, .regs, .writes] (s.advance t) s' ∧ s'.reg (.mast m) 0xE0040244 = v ∧ regsBut
   [(.mast m, 0xE0040244)] s s') ∧
  (∀ (t : Nat) (m : Mast) (tr : Triad) (v : Word) (s : State), s.triadRuns m = true → ∃ s', exec (.registerWrite t m
   tr 0xE0040024 v) s = .next s' ∧ (s'.mast m).answer tr = .done 0 ∧ s'.masts = s.masts.set m ((s.mast m).setAnswer
   tr (.done 0)) ∧ sameBut [.masts, .regs, .writes] (s.advance t) s' ∧ s'.writes = s.writes ∧ regsBut [] s s') ∧
  (∀ (t : Nat) (m : Mast) (tr : Triad) (v : Word) (s : State), s.triadRuns m = true → ∃ s', exec (.registerWrite t m
   tr 0xE0040308 v) s = .next s' ∧ (s'.mast m).answer tr = .done 0 ∧ s'.masts = s.masts.set m ((s.mast m).setAnswer
   tr (.done 0)) ∧ sameBut [.masts, .regs, .writes] (s.advance t) s' ∧ s'.reg (.mast m) 0xE0040308 = s.reg (.mast m)
   0xE0040308 &&& ~~~v ∧ regsBut [(.mast m, 0xE0040308)] s s') ∧
  (∀ (t : Nat) (m : Mast) (tr : Triad) (v : Word) (s : State), s.triadRuns m = true → ∃ s', exec (.registerWrite t m
   tr 0xE000001C v) s = .next s' ∧ (s'.mast m).answer tr = .done 0 ∧ s'.masts = s.masts.set m ((s.mast m).setAnswer
   tr (.done 0)) ∧ sameBut [.masts, .regs, .writes] (s.advance t) s' ∧ (getBits v 8 8 = 1 → s'.getF .agreed
   ⟨0xE000001C, 8, 8⟩ = 1) ∧ (s'.writes = s.writes) ∧ (getBits v 8 8 = 0 → s'.getF .agreed ⟨0xE000001C, 8, 8⟩ =
   s.getF .agreed ⟨0xE000001C, 8, 8⟩) ∧ regsBut [(.agreed, 0xE000001C)] s s') ∧
  (∀ (t : Nat) (m : Mast) (tr : Triad) (v : Word) (s : State), s.triadRuns m = true → ∃ s', exec (.registerWrite t m
   tr 0xE0010078 v) s = .next s' ∧ (s'.mast m).answer tr = .done 0 ∧ s'.masts = s.masts.set m ((s.mast m).setAnswer
   tr (.done 0)) ∧ sameBut [.masts, .regs, .writes] (s.advance t) s' ∧ (getBits v 0 0 ≤ 1 → s'.writes =
   s.writes.filter (fun x => !(x.mast == m && x.addr == 0xE0010078)) ++ [⟨m, 0xE0010078, v⟩]) ∧ regsBut [] s s')

/-- For every state in which action instants come and every set of writers with at least two voting masts: START and
START_COLD in STOP without inhibits lead to RUN with the program running, STOP in RUN or HOLD to STOP with cause 2,
HOLD in RUN to HOLD where the slot image permits it and zero speed is reported, RESUME in HOLD to RUN, SERVICE in
STOP with a session open to SERVICE, and LEAVE in SERVICE to STOP with cause 7. Each reports result 1 in MC_CMDSTAT
of every voting mast, shows the new mode in MC_MODE by its code of R23, counts the change there and raises
MODE_CHANGE. Completion: for every state and operands that meet the stated conditions on them alone, exec answers
the next state of the own effect of start (START), startCold (START_COLD), stop (STOP), hold (HOLD), resume
(RESUME), service (SERVICE), leave (LEAVE). -/
def Obligations.ModeCommandsInTheirModes : Prop :=
  (∀ (t : Nat) (writers : Per Bool) (s : State), s.instants = true → s.agreed writers = true → s.ctl.mode = .stop →
   s.inhibits = 0 → ∃ s', exec (.start t writers) s = .next s' ∧ s'.ctl.mode = .run ∧ s'.ctl.prev = .stop ∧ s'.getF
   .agreed fMcModeMode = Mode.code .run ∧ s'.getF .agreed fMcModeChanges = min 65535 (s.ctl.changes + 1) ∧ raised s'
   s.lane.active.mask evModeChange (Mode.code .stop) (Mode.code .run) ∧ (∀ m ∈ s.voters, s'.getF (.mast m)
   fMcCmdstatResult = 1) ∧ s'.app.run = .running) ∧
  (∀ (t : Nat) (writers : Per Bool) (s : State), s.instants = true → s.agreed writers = true → s.ctl.mode = .stop →
   s.inhibits = 0 → ∃ s', exec (.startCold t writers) s = .next s' ∧ s'.ctl.mode = .run ∧ s'.ctl.prev = .stop ∧
   s'.getF .agreed fMcModeMode = Mode.code .run ∧ s'.getF .agreed fMcModeChanges = min 65535 (s.ctl.changes + 1) ∧
   raised s' s.lane.active.mask evModeChange (Mode.code .stop) (Mode.code .run) ∧ (∀ m ∈ s.voters, s'.getF (.mast m)
   fMcCmdstatResult = 1) ∧ s'.app.run = .running ∧ s'.app.changes = []) ∧
  (∀ (t : Nat) (writers : Per Bool) (s : State), s.instants = true → s.agreed writers = true → (s.ctl.mode = .run ∨
   s.ctl.mode = .hold) → ∃ s', exec (.stop t writers) s = .next s' ∧ s'.ctl.mode = .stop ∧ s'.ctl.prev = s.ctl.mode
   ∧ s'.getF .agreed fMcModeMode = Mode.code .stop ∧ s'.getF .agreed fMcModeChanges = min 65535 (s.ctl.changes + 1)
   ∧ raised s' s.lane.active.mask evModeChange (Mode.code s.ctl.mode) (Mode.code .stop) ∧ (∀ m ∈ s.voters, s'.getF
   (.mast m) fMcCmdstatResult = 1) ∧ s'.lane.inForce = [] ∧ s'.getF .agreed fMcStopcauseCause = 2) ∧
  (∀ (t : Nat) (writers : Per Bool) (s : State), s.instants = true → s.agreed writers = true → s.ctl.mode = .run →
   (s.getF .agreed fMcCtrlHoldPermit = 1 ∧ s.getF .agreed fSpStatZero = 1) → ∃ s', exec (.hold t writers) s = .next
   s' ∧ s'.ctl.mode = .hold ∧ s'.ctl.prev = .run ∧ s'.getF .agreed fMcModeMode = Mode.code .hold ∧ s'.getF .agreed
   fMcModeChanges = min 65535 (s.ctl.changes + 1) ∧ raised s' s.lane.active.mask evModeChange (Mode.code .run)
   (Mode.code .hold) ∧ (∀ m ∈ s.voters, s'.getF (.mast m) fMcCmdstatResult = 1) ∧ s'.lane.inForce = s.lane.inForce) ∧
  (∀ (t : Nat) (writers : Per Bool) (s : State), s.instants = true → s.agreed writers = true → s.ctl.mode = .hold →
   ∃ s', exec (.resume t writers) s = .next s' ∧ s'.ctl.mode = .run ∧ s'.ctl.prev = .hold ∧ s'.getF .agreed
   fMcModeMode = Mode.code .run ∧ s'.getF .agreed fMcModeChanges = min 65535 (s.ctl.changes + 1) ∧ raised s'
   s.lane.active.mask evModeChange (Mode.code .hold) (Mode.code .run) ∧ (∀ m ∈ s.voters, s'.getF (.mast m)
   fMcCmdstatResult = 1) ∧ s'.app.run = .running ∧ s'.lane.inForce = s.lane.inForce) ∧
  (∀ (t : Nat) (writers : Per Bool) (s : State), s.instants = true → s.agreed writers = true → s.ctl.mode = .stop →
   s.mon.session.isSome = true → ∃ s', exec (.service t writers) s = .next s' ∧ s'.ctl.mode = .service ∧ s'.ctl.prev
   = .stop ∧ s'.getF .agreed fMcModeMode = Mode.code .service ∧ s'.getF .agreed fMcModeChanges = min 65535
   (s.ctl.changes + 1) ∧ raised s' s.lane.active.mask evModeChange (Mode.code .stop) (Mode.code .service) ∧ (∀ m ∈
   s.voters, s'.getF (.mast m) fMcCmdstatResult = 1) ∧ s'.lane.inForce = []) ∧
  (∀ (t : Nat) (writers : Per Bool) (s : State), s.instants = true → s.agreed writers = true → s.ctl.mode = .service
   → ∃ s', exec (.leave t writers) s = .next s' ∧ s'.ctl.mode = .stop ∧ s'.ctl.prev = .service ∧ s'.getF .agreed
   fMcModeMode = Mode.code .stop ∧ s'.getF .agreed fMcModeChanges = min 65535 (s.ctl.changes + 1) ∧ raised s'
   s.lane.active.mask evModeChange (Mode.code .service) (Mode.code .stop) ∧ (∀ m ∈ s.voters, s'.getF (.mast m)
   fMcCmdstatResult = 1) ∧ s'.getF .agreed fMcStopcauseCause = 7)

/-- Each of the nine mode commands that only one voting mast wrote is discarded with result 4 and CMD_DISCARDED; each
outside the modes R46 lists for it gives result 2; START and START_COLD with any bit of MC_INHIBIT set give result 3
and RUN_REFUSED with the register; HOLD without permission or zero speed gives result 3; SERVICE without a session
gives result 2. In each case everything but MC_CMDSTAT and, where an event is named, the log stays as it was. -/
def Obligations.ModeCommandsTurnedAway : Prop :=
  (∀ (t : Nat) (writers : Per Bool) (s : State), s.instants = true → s.agreeing writers = 1 → ∃ s', exec (.start t
   writers) s = .next s' ∧ raised s' s.lane.active.mask evCmdDiscarded 1 4 ∧ (∀ m ∈ s.voters, s'.getF (.mast m)
   fMcCmdstatResult = 4 ∧ s'.getF (.mast m) fMcCmdstatLastCode = 1) ∧ regsBut [(.mast .a, rMcCmdstat), (.mast .b,
   rMcCmdstat), (.mast .c, rMcCmdstat), (.mast .j, rMcCmdstat)] s s' ∧ sameBut [.regs, .log] (s.advance t) s') ∧
  (∀ (t : Nat) (writers : Per Bool) (s : State), s.instants = true → s.agreeing writers = 1 → ∃ s', exec (.startCold
   t writers) s = .next s' ∧ raised s' s.lane.active.mask evCmdDiscarded 2 4 ∧ (∀ m ∈ s.voters, s'.getF (.mast m)
   fMcCmdstatResult = 4 ∧ s'.getF (.mast m) fMcCmdstatLastCode = 2) ∧ regsBut [(.mast .a, rMcCmdstat), (.mast .b,
   rMcCmdstat), (.mast .c, rMcCmdstat), (.mast .j, rMcCmdstat)] s s' ∧ sameBut [.regs, .log] (s.advance t) s') ∧
  (∀ (t : Nat) (writers : Per Bool) (s : State), s.instants = true → s.agreeing writers = 1 → ∃ s', exec (.stop t
   writers) s = .next s' ∧ raised s' s.lane.active.mask evCmdDiscarded 3 4 ∧ (∀ m ∈ s.voters, s'.getF (.mast m)
   fMcCmdstatResult = 4 ∧ s'.getF (.mast m) fMcCmdstatLastCode = 3) ∧ regsBut [(.mast .a, rMcCmdstat), (.mast .b,
   rMcCmdstat), (.mast .c, rMcCmdstat), (.mast .j, rMcCmdstat)] s s' ∧ sameBut [.regs, .log] (s.advance t) s') ∧
  (∀ (t : Nat) (writers : Per Bool) (s : State), s.instants = true → s.agreeing writers = 1 → ∃ s', exec (.hold t
   writers) s = .next s' ∧ raised s' s.lane.active.mask evCmdDiscarded 4 4 ∧ (∀ m ∈ s.voters, s'.getF (.mast m)
   fMcCmdstatResult = 4 ∧ s'.getF (.mast m) fMcCmdstatLastCode = 4) ∧ regsBut [(.mast .a, rMcCmdstat), (.mast .b,
   rMcCmdstat), (.mast .c, rMcCmdstat), (.mast .j, rMcCmdstat)] s s' ∧ sameBut [.regs, .log] (s.advance t) s') ∧
  (∀ (t : Nat) (writers : Per Bool) (s : State), s.instants = true → s.agreeing writers = 1 → ∃ s', exec (.resume t
   writers) s = .next s' ∧ raised s' s.lane.active.mask evCmdDiscarded 5 4 ∧ (∀ m ∈ s.voters, s'.getF (.mast m)
   fMcCmdstatResult = 4 ∧ s'.getF (.mast m) fMcCmdstatLastCode = 5) ∧ regsBut [(.mast .a, rMcCmdstat), (.mast .b,
   rMcCmdstat), (.mast .c, rMcCmdstat), (.mast .j, rMcCmdstat)] s s' ∧ sameBut [.regs, .log] (s.advance t) s') ∧
  (∀ (t : Nat) (writers : Per Bool) (s : State), s.instants = true → s.agreeing writers = 1 → ∃ s', exec (.standby t
   writers) s = .next s' ∧ raised s' s.lane.active.mask evCmdDiscarded 6 4 ∧ (∀ m ∈ s.voters, s'.getF (.mast m)
   fMcCmdstatResult = 4 ∧ s'.getF (.mast m) fMcCmdstatLastCode = 6) ∧ regsBut [(.mast .a, rMcCmdstat), (.mast .b,
   rMcCmdstat), (.mast .c, rMcCmdstat), (.mast .j, rMcCmdstat)] s s' ∧ sameBut [.regs, .log] (s.advance t) s') ∧
  (∀ (t : Nat) (writers : Per Bool) (s : State), s.instants = true → s.agreeing writers = 1 → ∃ s', exec (.service t
   writers) s = .next s' ∧ raised s' s.lane.active.mask evCmdDiscarded 7 4 ∧ (∀ m ∈ s.voters, s'.getF (.mast m)
   fMcCmdstatResult = 4 ∧ s'.getF (.mast m) fMcCmdstatLastCode = 7) ∧ regsBut [(.mast .a, rMcCmdstat), (.mast .b,
   rMcCmdstat), (.mast .c, rMcCmdstat), (.mast .j, rMcCmdstat)] s s' ∧ sameBut [.regs, .log] (s.advance t) s') ∧
  (∀ (t : Nat) (writers : Per Bool) (s : State), s.instants = true → s.agreeing writers = 1 → ∃ s', exec (.leave t
   writers) s = .next s' ∧ raised s' s.lane.active.mask evCmdDiscarded 8 4 ∧ (∀ m ∈ s.voters, s'.getF (.mast m)
   fMcCmdstatResult = 4 ∧ s'.getF (.mast m) fMcCmdstatLastCode = 8) ∧ regsBut [(.mast .a, rMcCmdstat), (.mast .b,
   rMcCmdstat), (.mast .c, rMcCmdstat), (.mast .j, rMcCmdstat)] s s' ∧ sameBut [.regs, .log] (s.advance t) s') ∧
  (∀ (t : Nat) (writers : Per Bool) (env : BootEnv) (s : State), s.instants = true → s.agreeing writers = 1 → ∃ s',
   exec (.reset t writers env) s = .next s' ∧ raised s' s.lane.active.mask evCmdDiscarded 9 4 ∧ (∀ m ∈ s.voters,
   s'.getF (.mast m) fMcCmdstatResult = 4 ∧ s'.getF (.mast m) fMcCmdstatLastCode = 9) ∧ regsBut [(.mast .a,
   rMcCmdstat), (.mast .b, rMcCmdstat), (.mast .c, rMcCmdstat), (.mast .j, rMcCmdstat)] s s' ∧ sameBut [.regs, .log]
   (s.advance t) s') ∧
  (∀ (t : Nat) (writers : Per Bool) (s : State), s.instants = true → s.agreed writers = true → s.ctl.mode ≠ .stop →
   ∃ s', exec (.start t writers) s = .next s' ∧ (∀ m ∈ s.voters, s'.getF (.mast m) fMcCmdstatResult = 2 ∧ s'.getF
   (.mast m) fMcCmdstatLastCode = 1) ∧ regsBut [(.mast .a, rMcCmdstat), (.mast .b, rMcCmdstat), (.mast .c,
   rMcCmdstat), (.mast .j, rMcCmdstat)] s s' ∧ sameBut [.regs] (s.advance t) s') ∧
  (∀ (t : Nat) (writers : Per Bool) (s : State), s.instants = true → s.agreed writers = true → s.ctl.mode ≠ .stop →
   ∃ s', exec (.startCold t writers) s = .next s' ∧ (∀ m ∈ s.voters, s'.getF (.mast m) fMcCmdstatResult = 2 ∧
   s'.getF (.mast m) fMcCmdstatLastCode = 2) ∧ regsBut [(.mast .a, rMcCmdstat), (.mast .b, rMcCmdstat), (.mast .c,
   rMcCmdstat), (.mast .j, rMcCmdstat)] s s' ∧ sameBut [.regs] (s.advance t) s') ∧
  (∀ (t : Nat) (writers : Per Bool) (s : State), s.instants = true → s.agreed writers = true → (s.ctl.mode ≠ .run ∧
   s.ctl.mode ≠ .hold) → ∃ s', exec (.stop t writers) s = .next s' ∧ (∀ m ∈ s.voters, s'.getF (.mast m)
   fMcCmdstatResult = 2 ∧ s'.getF (.mast m) fMcCmdstatLastCode = 3) ∧ regsBut [(.mast .a, rMcCmdstat), (.mast .b,
   rMcCmdstat), (.mast .c, rMcCmdstat), (.mast .j, rMcCmdstat)] s s' ∧ sameBut [.regs] (s.advance t) s') ∧
  (∀ (t : Nat) (writers : Per Bool) (s : State), s.instants = true → s.agreed writers = true → s.ctl.mode ≠ .run → ∃
   s', exec (.hold t writers) s = .next s' ∧ (∀ m ∈ s.voters, s'.getF (.mast m) fMcCmdstatResult = 2 ∧ s'.getF
   (.mast m) fMcCmdstatLastCode = 4) ∧ regsBut [(.mast .a, rMcCmdstat), (.mast .b, rMcCmdstat), (.mast .c,
   rMcCmdstat), (.mast .j, rMcCmdstat)] s s' ∧ sameBut [.regs] (s.advance t) s') ∧
  (∀ (t : Nat) (writers : Per Bool) (s : State), s.instants = true → s.agreed writers = true → s.ctl.mode ≠ .hold →
   ∃ s', exec (.resume t writers) s = .next s' ∧ (∀ m ∈ s.voters, s'.getF (.mast m) fMcCmdstatResult = 2 ∧ s'.getF
   (.mast m) fMcCmdstatLastCode = 5) ∧ regsBut [(.mast .a, rMcCmdstat), (.mast .b, rMcCmdstat), (.mast .c,
   rMcCmdstat), (.mast .j, rMcCmdstat)] s s' ∧ sameBut [.regs] (s.advance t) s') ∧
  (∀ (t : Nat) (writers : Per Bool) (s : State), s.instants = true → s.agreed writers = true → (s.ctl.mode ≠ .stop ∧
   s.ctl.mode ≠ .run) → ∃ s', exec (.standby t writers) s = .next s' ∧ (∀ m ∈ s.voters, s'.getF (.mast m)
   fMcCmdstatResult = 2 ∧ s'.getF (.mast m) fMcCmdstatLastCode = 6) ∧ regsBut [(.mast .a, rMcCmdstat), (.mast .b,
   rMcCmdstat), (.mast .c, rMcCmdstat), (.mast .j, rMcCmdstat)] s s' ∧ sameBut [.regs] (s.advance t) s') ∧
  (∀ (t : Nat) (writers : Per Bool) (s : State), s.instants = true → s.agreed writers = true → s.ctl.mode ≠ .stop →
   ∃ s', exec (.service t writers) s = .next s' ∧ (∀ m ∈ s.voters, s'.getF (.mast m) fMcCmdstatResult = 2 ∧ s'.getF
   (.mast m) fMcCmdstatLastCode = 7) ∧ regsBut [(.mast .a, rMcCmdstat), (.mast .b, rMcCmdstat), (.mast .c,
   rMcCmdstat), (.mast .j, rMcCmdstat)] s s' ∧ sameBut [.regs] (s.advance t) s') ∧
  (∀ (t : Nat) (writers : Per Bool) (s : State), s.instants = true → s.agreed writers = true → s.ctl.mode ≠ .service
   → ∃ s', exec (.leave t writers) s = .next s' ∧ (∀ m ∈ s.voters, s'.getF (.mast m) fMcCmdstatResult = 2 ∧ s'.getF
   (.mast m) fMcCmdstatLastCode = 8) ∧ regsBut [(.mast .a, rMcCmdstat), (.mast .b, rMcCmdstat), (.mast .c,
   rMcCmdstat), (.mast .j, rMcCmdstat)] s s' ∧ sameBut [.regs] (s.advance t) s') ∧
  (∀ (t : Nat) (writers : Per Bool) (env : BootEnv) (s : State), s.instants = true → s.agreed writers = true →
   (s.ctl.mode ≠ .stop ∧ s.ctl.mode ≠ .service) → ∃ s', exec (.reset t writers env) s = .next s' ∧ (∀ m ∈ s.voters,
   s'.getF (.mast m) fMcCmdstatResult = 2 ∧ s'.getF (.mast m) fMcCmdstatLastCode = 9) ∧ regsBut [(.mast .a,
   rMcCmdstat), (.mast .b, rMcCmdstat), (.mast .c, rMcCmdstat), (.mast .j, rMcCmdstat)] s s' ∧ sameBut [.regs]
   (s.advance t) s') ∧
  (∀ (t : Nat) (writers : Per Bool) (s : State), s.instants = true → s.agreed writers = true → s.ctl.mode = .stop →
   s.inhibits ≠ 0 → ∃ s', exec (.start t writers) s = .next s' ∧ raised s' s.lane.active.mask evRunRefused
   s.inhibits 1 ∧ (∀ m ∈ s.voters, s'.getF (.mast m) fMcCmdstatResult = 3) ∧ regsBut [(.mast .a, rMcCmdstat), (.mast
   .b, rMcCmdstat), (.mast .c, rMcCmdstat), (.mast .j, rMcCmdstat)] s s' ∧ sameBut [.regs, .log] (s.advance t) s') ∧
  (∀ (t : Nat) (writers : Per Bool) (s : State), s.instants = true → s.agreed writers = true → s.ctl.mode = .stop →
   s.inhibits ≠ 0 → ∃ s', exec (.startCold t writers) s = .next s' ∧ raised s' s.lane.active.mask evRunRefused
   s.inhibits 2 ∧ (∀ m ∈ s.voters, s'.getF (.mast m) fMcCmdstatResult = 3) ∧ regsBut [(.mast .a, rMcCmdstat), (.mast
   .b, rMcCmdstat), (.mast .c, rMcCmdstat), (.mast .j, rMcCmdstat)] s s' ∧ sameBut [.regs, .log] (s.advance t) s') ∧
  (∀ (t : Nat) (writers : Per Bool) (s : State), s.instants = true → s.agreed writers = true → s.ctl.mode = .run →
   (s.getF .agreed fMcCtrlHoldPermit = 0 ∨ s.getF .agreed fSpStatZero = 0) → ∃ s', exec (.hold t writers) s = .next
   s' ∧ (∀ m ∈ s.voters, s'.getF (.mast m) fMcCmdstatResult = 3) ∧ regsBut [(.mast .a, rMcCmdstat), (.mast .b,
   rMcCmdstat), (.mast .c, rMcCmdstat), (.mast .j, rMcCmdstat)] s s' ∧ sameBut [.regs] (s.advance t) s') ∧
  (∀ (t : Nat) (writers : Per Bool) (s : State), s.instants = true → s.agreed writers = true → s.ctl.mode = .stop →
   s.mon.session = none → ∃ s', exec (.service t writers) s = .next s' ∧ (∀ m ∈ s.voters, s'.getF (.mast m)
   fMcCmdstatResult = 2) ∧ regsBut [(.mast .a, rMcCmdstat), (.mast .b, rMcCmdstat), (.mast .c, rMcCmdstat), (.mast
   .j, rMcCmdstat)] s s' ∧ sameBut [.regs] (s.advance t) s')

/-- For every state in which the command applies: an agreed RESET in STOP or SERVICE, the supply rising after at least
100 ms without, the release of a debounced press of less than 10 s and a press still held after 10 s each bring the
module into BOOT at that moment, with the bit of its cause set in MC_RSTCAUSE, the events MODULE_RESET or POWER_ON
raised, masts A, B and C powered and J not, SRAM and DRAM cleared; what follows, given by the model's bootRun, is
the start of R29. The fields that outlive a module reset keep their values. Completion: for every state and operands
that meet the stated conditions on them alone, exec answers the next state of the own effect of reset (RESET),
powerOn (POWER_ON), buttonContactRelease (BUTTON_CONTACT_RELEASE), buttonStuckExpiry (BUTTON_STUCK_EXPIRY). -/
def Obligations.ResetsRunBoot : Prop :=
  (∀ (t : Nat) (writers : Per Bool) (env : BootEnv) (s : State), s.instants = true → s.agreed writers = true →
   (s.ctl.mode = .stop ∨ s.ctl.mode = .service) → ∃ s', exec (.reset t writers env) s = .next s' ∧ ∃ u : State, s' =
   u.bootRun env ∧ u.ctl.mode = .boot ∧ u.ctl.on = true ∧ u.ctl.bootFrom = max s.now t ∧ u.getF .agreed
   fMcRstcauseSoftware = 1 ∧ (∀ m, (u.mast m).mem = (s.mast m).mem.clearSram.clearDram ∧ ((u.mast m).powered = true
   ↔ m ≠ .j)) ∧ (∀ f ∈ keptThroughReset, u.getF .agreed f = s.getF .agreed f) ∧ raised u u.lane.active.mask
   evModuleReset (u.reg .agreed rMcRstcause).toNat 0) ∧
  (∀ (t : Nat) (env : BootEnv) (s : State), s.ctl.on = false → s.ctl.offAt.all (fun o => decide (o + 100 * ms ≤ max
   s.now t)) = true → ∃ s', exec (.powerOn t env) s = .next s' ∧ ∃ u : State, s' = u.bootRun env ∧ u.ctl.mode =
   .boot ∧ u.ctl.on = true ∧ u.ctl.bootFrom = max s.now t ∧ u.getF .agreed fMcRstcausePor = 1 ∧ (∀ m, (u.mast m).mem
   = (s.mast m).mem.clearSram.clearDram ∧ ((u.mast m).powered = true ↔ m ≠ .j)) ∧ raised u u.lane.active.mask
   evPowerOn 0 0) ∧
  (∀ (t : Nat) (c : Nat) (env : BootEnv) (s : State), s.panel.holding = true → s.panel.closed = some c → (c ≤ t ∧
   max s.now t < c + 10 * sec) → ∃ s', exec (.buttonContactRelease t env) s = .next s' ∧ ∃ v : State, (∃ u : State,
   v = u.bootRun env ∧ u.ctl.mode = .boot ∧ u.ctl.on = true ∧ u.ctl.bootFrom = max s.now t ∧ u.getF .agreed
   fMcRstcauseButton = 1 ∧ (∀ m, (u.mast m).mem = (s.mast m).mem.clearSram.clearDram ∧ ((u.mast m).powered = true ↔
   m ≠ .j)) ∧ (∀ f ∈ keptThroughReset, u.getF .agreed f = s.getF .agreed f) ∧ raised u u.lane.active.mask
   evModuleReset (u.reg .agreed rMcRstcause).toNat 0) ∧ s'.ctl = v.ctl ∧ s'.panel.closed = none ∧ s'.panel.opened =
   some v.now) ∧
  (∀ (t : Nat) (c : Nat) (env : BootEnv) (s : State), s.panel.holding = true → s.panel.closed = some c → c + 10 *
   sec ≤ t → ∃ s', exec (.buttonStuckExpiry t env) s = .next s' ∧ ∃ v : State, (∃ u : State, v = u.bootRun env ∧
   u.ctl.mode = .boot ∧ u.ctl.on = true ∧ u.ctl.bootFrom = max s.now t ∧ u.getF .agreed fMcRstcauseButton = 1 ∧ (∀
   m, (u.mast m).mem = (s.mast m).mem.clearSram.clearDram ∧ ((u.mast m).powered = true ↔ m ≠ .j)) ∧ (∀ f ∈
   keptThroughReset, u.getF .agreed f = s.getF .agreed f) ∧ raised u u.lane.active.mask evModuleReset (u.reg .agreed
   rMcRstcause).toNat 0) ∧ s'.ctl = v.ctl ∧ s'.getF .agreed fMcRstcauseStuckSeen = 1 ∧ s'.getF .agreed
   fMcButtonIgnored = 1)

/-- A contact that closes is noted with its time; 50 ms later the press shows in MC_BUTTON and holds the module in
reset; an ignored button that has been open for 1 s is heeded again; a break on the service port that begins within
500 ms of the release of reset withholds the start, leads to RECOVERY after 2 s, and frees the start again when it
ends. Completion: for every state and operands that meet the stated conditions on them alone, exec answers the next
state of the own effect of buttonContactClose (BUTTON_CONTACT_CLOSE), buttonDebounceExpiry (BUTTON_DEBOUNCE_EXPIRY),
buttonOpenExpiry (BUTTON_OPEN_EXPIRY), recoveryBreakBegin (RECOVERY_BREAK_BEGIN), recoveryBreakExpiry
(RECOVERY_BREAK_EXPIRY), recoveryBreakEnd (RECOVERY_BREAK_END). -/
def Obligations.PushbuttonAndBreakTimers : Prop :=
  (∀ (t : Nat) (s : State), s.panel.closed = none → ∃ s', exec (.buttonContactClose t) s = .next s' ∧
   s'.panel.closed = some (max s.now t) ∧ s'.panel.opened = none ∧ sameBut [.panel] (s.advance t) s') ∧
  (∀ (t : Nat) (c : Nat) (s : State), (s.ctl.on = true ∧ s.panel.holding = false) → s.panel.closed = some c → c + 50
   * ms ≤ t → s.getF .agreed fMcButtonIgnored = 0 → ∃ s', exec (.buttonDebounceExpiry t) s = .next s' ∧
   s'.panel.holding = true ∧ s'.ctl.on = true ∧ s'.getF .agreed fMcButtonPressed = 1 ∧ s'.panel.closed = some c ∧ (∀
   f ∈ keptThroughReset, f ≠ fMcButtonPressed → s'.getF .agreed f = s.getF .agreed f) ∧ (∀ m, (s'.mast m).powered =
   false ∧ (s'.mast m).mem = (s.mast m).mem.clearSram.clearDram)) ∧
  (∀ (t : Nat) (o : Nat) (s : State), s.panel.opened = some o → o + sec ≤ t → ∃ s', exec (.buttonOpenExpiry t) s =
   .next s' ∧ s'.getF .agreed fMcButtonIgnored = 0 ∧ regsBut [(.agreed, rMcButton)] s s' ∧ sameBut [.regs]
   (s.advance t) s') ∧
  (∀ (t : Nat) (s : State), (s.ctl.on = true ∧ s.panel.holding = false ∧ s.ctl.mode = .boot) → s.panel.breakFrom =
   none → max s.now t ≤ s.releasedFrom + 500 * ms → ∃ s', exec (.recoveryBreakBegin t) s = .next s' ∧
   s'.panel.breakFrom = some (max (max s.now t) s.releasedFrom) ∧ s'.getF .agreed fMcInhibitBreak = 1 ∧ regsBut
   [(.agreed, rMcInhibit)] s s' ∧ sameBut [.regs, .panel] (s.advance t) s') ∧
  (∀ (t : Nat) (b : Nat) (s : State), s.panel.breakFrom = some b → b + 2 * sec ≤ t → (s.ctl.mode = .boot ∨
   s.ctl.mode = .stop) → ∃ s', exec (.recoveryBreakExpiry t) s = .next s' ∧ s'.ctl.mode = .recovery ∧
   s'.panel.breakFrom = none) ∧
  (∀ (t : Nat) (s : State), s.panel.breakFrom.isSome = true → ∃ s', exec (.recoveryBreakEnd t) s = .next s' ∧
   s'.panel.breakFrom = none ∧ s'.getF .agreed fMcInhibitBreak = 0 ∧ regsBut [(.agreed, rMcInhibit)] s s' ∧ sameBut
   [.regs, .panel] (s.advance t) s')

/-- In STOP since BOOT with AUTOSTART set, nothing inhibiting and no break in progress, AUTOSTART leads to RUN; after
600 s of HOLD the module is in STOP with cause 4 and HOLD_TIMEOUT is raised; the boot token is taken from a mast 40
ms after it was given and goes to the next mast. Completion: for every state and operands that meet the stated
conditions on them alone, exec answers the next state of the own effect of autostart (AUTOSTART), holdTimeout
(HOLD_TIMEOUT), bootTokenWindowEnd (BOOT_TOKEN_WINDOW_END). -/
def Obligations.ModeChangesWithoutCommand : Prop :=
  (∀ (t : Nat) (s : State), s.instants = true → (s.ctl.mode = .stop ∧ s.ctl.prev = .boot) → (s.panel.autoDue = true
   ∧ s.panel.breakFrom = none) → s.getF .agreed fMcCtrlAutostart = 1 → s.inhibits = 0 → ∃ s', exec (.autostart t) s
   = .next s' ∧ s'.ctl.mode = .run ∧ s'.app.run = .running ∧ s'.panel.autoDue = false) ∧
  (∀ (t : Nat) (s : State), s.ctl.mode = .hold → s.ctl.since + 600 * sec ≤ t → ∃ s', exec (.holdTimeout t) s = .next
   s' ∧ s'.ctl.mode = .stop ∧ s'.getF .agreed fMcStopcauseCause = 4) ∧
  (∀ (t : Nat) (m : Mast) (s : State), s.ctl.mode = .boot → m ≠ .j → s.key.window = m.code → s.ctl.bootFrom + (220 +
   40 * m.code) * ms ≤ t → ∃ s', exec (.bootTokenWindowEnd t m) s = .next s' ∧ (s'.mast m).token = false ∧
   s'.key.window = m.code + 1 ∧ s'.key.windowFrom = max s.now t ∧ (∀ o, o.code = m.code + 1 → o ≠ .j → s.votes o =
   true → (s.mast o).alive = true → (s'.mast o).token = true) ∧ (∀ o, (s'.mast o).mem = (s.mast o).mem) ∧ sameBut
   [.masts, .key] (s.advance t) s')

/-- For every state in which beats run: heartbeatSend puts out the mast's HB1 bytes, counts its sequence and toggles its
HB2 line and changes nothing else; hb1BeatReceived that passes its check, and hb2Edge, are noted on that path alone,
and a path they restore raises HB_RESTORED; heartbeatMissed counts a miss in LM_HBMISS for each path whose window of
260 us ended without its beat, and the fourth in a row takes the path down. What is then judged (R105 to R107) is
judged on links changed there alone. A beat whose check value is wrong leaves everything as it was, and a second
beat that lists the receiver as isolated takes it fail-silent with cause 0x0C. Completion: for every state and
operands that meet the stated conditions on them alone, exec answers the next state of the own effect of
heartbeatSend (HEARTBEAT_SEND), hb1BeatReceived (HB1_BEAT_RECEIVED), hb2Edge (HB2_EDGE), heartbeatMissed
(HEARTBEAT_MISSED). -/
def Obligations.Heartbeats : Prop :=
  (∀ (t : Nat) (m : Mast) (s : State), s.beating = true → s.beats m = true → (s.mast m).alive = true → ∃ s', exec
   (.heartbeatSend t m) s = .next s' ∧ s'.lane =
   { s.lane with beatOut := s.lane.beatOut.set m ((s.advance t).hb1Bytes m),
                 beatSeq := s.lane.beatSeq.set m ((s.lane.beatSeq.get m + 1) % 65536),
                 hb2Level := s.lane.hb2Level.set m (!s.lane.hb2Level.get m) }
   ∧ sameBut [.lane] (s.advance t) s') ∧
  (∀ (t : Nat) (obs peer : Mast) (bytes : List Byte) (s : State), s.beating = true → obs ≠ peer → s.watches obs =
   true → s.lane.isolated.get peer = false → hb1Good peer bytes = true → bitOf (fieldAt bytes 4 4) (4 + obs.code) =
   false → (∀ m ∈ Mast.all, m ≠ peer → (s.hbLink obs m).listed = 0) → ∃ s', exec (.hb1BeatReceived t obs peer bytes)
   s = .next s' ∧ ∃ u : State, s' = u.judgeBeats.judgeDecisions obs ∧ u.hbLink obs peer =
   { s.hbLink obs peer with hb1 := ((s.hbLink obs peer).hb1.beat (max s.now t) true).1, view := fieldAt bytes 4 4,
                            owners := fieldAt bytes 8 4, commit := fieldAt bytes 12 4, cdig := fieldAt bytes 16 4,
                            sent := fieldAt bytes 20 4 * sec + fieldAt bytes 24 4, listed := 0 }
   ∧ (∀ x y, (x, y) ≠ (obs, peer) → u.hbLink x y = s.hbLink x y) ∧ ((HbPath.beat (s.hbLink obs peer).hb1 (max s.now
   t) true).2 = true → raised u (2 ^ obs.code) evHbRestored peer.code 1) ∧ regsBut [(.mast obs, rLmHbstat)] s u ∧
   sameBut [.lane, .regs, .log] (s.advance t) u) ∧
  (∀ (t : Nat) (obs peer : Mast) (bytes : List Byte) (s : State), hb1Good peer bytes = false → exec
   (.hb1BeatReceived t obs peer bytes) s = .next (s.advance t)) ∧
  (∀ (t : Nat) (obs peer : Mast) (bytes : List Byte) (s : State), s.beating = true → obs ≠ peer → s.watches obs =
   true → s.lane.isolated.get peer = false → ((s.mast obs).powered = true ∧ (s.mast obs).silent = false ∧ (s.mast
   obs).held = false) → hb1Good peer bytes = true → bitOf (fieldAt bytes 4 4) (4 + obs.code) = true → 1 ≤ (s.hbLink
   obs peer).listed → ∃ s', exec (.hb1BeatReceived t obs peer bytes) s = .next s' ∧ wentSilent s s' obs 0x0C) ∧
  (∀ (t : Nat) (obs peer : Mast) (s : State), s.beating = true → obs ≠ peer → s.watches obs = true →
   s.lane.isolated.get peer = false → ∃ s', exec (.hb2Edge t obs peer) s = .next s' ∧ ∃ u : State, s' = u.judgeBeats
   ∧ u.hbLink obs peer = { s.hbLink obs peer with hb2 := ((s.hbLink obs peer).hb2.beat (max s.now t) false).1 } ∧ (∀
   x y, (x, y) ≠ (obs, peer) → u.hbLink x y = s.hbLink x y) ∧ ((HbPath.beat (s.hbLink obs peer).hb2 (max s.now t)
   false).2 = true → raised u (2 ^ obs.code) evHbRestored peer.code 2) ∧ regsBut [(.mast obs, rLmHbstat)] s u ∧
   sameBut [.lane, .regs, .log] (s.advance t) u) ∧
  (∀ (t : Nat) (obs peer : Mast) (hb1 hb2 : Bool) (s : State), s.beating = true → obs ≠ peer → (s.watches obs = true
   ∧ s.awaited peer = true) → (hb1 = true ∨ hb2 = true) → (hb1 = true → (s.hbLink obs peer).hb1.last + 260000 ≤ t) →
   (hb2 = true → (s.hbLink obs peer).hb2.last + 260000 ≤ t) → ∃ s', exec (.heartbeatMissed t obs peer hb1 hb2) s =
   .next s' ∧ ∃ u : State, s' = (u.outcastAlone obs).judgeBeats ∧ u.hbLink obs peer =
   { s.hbLink obs peer with hb1 := if hb1 then { good := 0, missed := min 4 ((s.hbLink obs peer).hb1.missed + 1),
                                                 down := (s.hbLink obs peer).hb1.down || decide (3 ≤ (s.hbLink obs peer).hb1.missed),
                                                 last := (s.hbLink obs peer).hb1.last + 250000 } else (s.hbLink obs peer).hb1,
                            hb2 := if hb2 then { good := 0, missed := min 4 ((s.hbLink obs peer).hb2.missed + 1),
                                                 down := (s.hbLink obs peer).hb2.down || decide (3 ≤ (s.hbLink obs peer).hb2.missed),
                                                 last := (s.hbLink obs peer).hb2.last + 250000 } else (s.hbLink obs peer).hb2 }
   ∧ (∀ p ∈ [(hb1, hbMiss fLmHbmissHb1 peer), (hb2, hbMiss fLmHbmissHb2 peer)], u.getF (.mast obs) p.2 = min 65535
   (s.getF (.mast obs) p.2 + (if p.1 then 1 else 0))) ∧ (∀ x y, (x, y) ≠ (obs, peer) → u.hbLink x y = s.hbLink x y)
   ∧ regsBut [(.mast obs, rLmHbmiss + 4 * peer.code), (.mast obs, rLmHbstat)] s u ∧ sameBut [.lane, .regs, .log]
   (s.advance t) u)

/-- For every state in RUN or HOLD at a commit point not yet held, with no late mast. TRIPLEX: where the three active
masts present images of one cycle and one digest, that image becomes the decision for the next action instant and
the image in force stays; where one mast's digest differs from that of the other two, the image of the two becomes
the decision and the one is lost with cause 2, in exactly that state; where no two are equal, the module goes to
SAFE; where two equal images are present and the third is missing, their image becomes the decision and the third is
noted as late, and a mast noted as late that presents nothing by the next point no longer votes. DUPLEX: two equal
images become the decision, two different ones lead to SAFE with DUPLEX_DISAGREE. A commitPoint outside RUN and HOLD
decides nothing. normalHandover of a waiting unit at its boundary to a voting mast makes that mast owner, ends the
waiting and raises OWNER_CHANGE, every other unit staying as it was; with unit 6 the rack queue is then looked at
again. Completion: for every state and operands that meet the stated conditions on them alone, exec answers the next
state of the own effect of commitPoint (COMMIT_POINT), normalHandover (NORMAL_HANDOVER). -/
def Obligations.CommitAndHandover : Prop :=
  (∀ (t : Nat) (x y z : Mast) (ix iy iz : Submitted) (n : Nat) (s : State), (s.ctl.mode = .run ∨ s.ctl.mode = .hold)
   → (s.lane.lane = .triplex ∧ s.lane.late = none) → (s.advance t).commitDue.isSome = true → s.lane.inOrder = [x, y,
   z] → (∀ m ∈ s.voters, m = x ∨ m = y ∨ m = z) → ((s.mast x).alive = true ∧ (s.mast y).alive = true ∧ (s.mast
   z).alive = true) → (s.lane.images.get x = some ix ∧ s.lane.images.get y = some iy ∧ s.lane.images.get z = some
   iz) → (ix.cycle = n ∧ iy.cycle = n ∧ iz.cycle = n) → (ix.digest = iy.digest ∧ iy.digest = iz.digest) → ∃ s', exec
   (.commitPoint t) s = .next s' ∧ s'.lane.decision = some ⟨n, ix.digest, ix.items⟩ ∧ s'.lane.decided = some (n % 2
   ^ 32, ix.digest % 2 ^ 32, (s.advance t).moduleTime) ∧ s'.lane.inForce = s.lane.inForce ∧ s'.lane.lane =
   s.lane.lane ∧ s'.lane.active = s.lane.active ∧ s'.lane.units = s.lane.units ∧ regsBut [(.agreed, rLmVote)] s s' ∧
   sameBut [.lane, .regs] (s.advance t) s' ∧ s'.lane.late = none) ∧
  (∀ (t : Nat) (x y z : Mast) (ix iy iz : Submitted) (n : Nat) (s : State), (s.ctl.mode = .run ∨ s.ctl.mode = .hold)
   → (s.lane.lane = .triplex ∧ s.lane.late = none) → (s.advance t).commitDue.isSome = true → (s.lane.inOrder = [x,
   y, z] ∨ s.lane.inOrder = [x, z, y] ∨ s.lane.inOrder = [z, x, y]) → (∀ m ∈ s.voters, m = x ∨ m = y ∨ m = z) →
   ((s.mast x).alive = true ∧ (s.mast y).alive = true ∧ (s.mast z).alive = true) → (s.lane.images.get x = some ix ∧
   s.lane.images.get y = some iy ∧ s.lane.images.get z = some iz) → (ix.cycle = n ∧ iy.cycle = n ∧ iz.cycle = n) →
   (ix.digest = iy.digest ∧ iz.digest ≠ ix.digest) → ∃ s', exec (.commitPoint t) s = .next s' ∧ ∃ u : State, s' =
   u.applyLoss z 2 (u.onsetOf z iz.time) ∧ u.lane.decision = some ⟨n, ix.digest, ix.items⟩ ∧ u.lane.decided = some
   (n % 2 ^ 32, ix.digest % 2 ^ 32, (s.advance t).moduleTime) ∧ u.lane.inForce = s.lane.inForce ∧ u.lane.lane =
   s.lane.lane ∧ u.lane.active = s.lane.active ∧ u.lane.units = s.lane.units ∧ regsBut [(.agreed, rLmVote)] s u ∧
   sameBut [.lane, .regs] (s.advance t) u) ∧
  (∀ (t : Nat) (x y z : Mast) (ix iy iz : Submitted) (n : Nat) (s : State), (s.ctl.mode = .run ∨ s.ctl.mode = .hold)
   → (s.lane.lane = .triplex ∧ s.lane.late = none) → (s.advance t).commitDue.isSome = true → s.lane.inOrder = [x, y,
   z] → (∀ m ∈ s.voters, m = x ∨ m = y ∨ m = z) → ((s.mast x).alive = true ∧ (s.mast y).alive = true ∧ (s.mast
   z).alive = true) → (s.lane.images.get x = some ix ∧ s.lane.images.get y = some iy ∧ s.lane.images.get z = some
   iz) → (ix.cycle = n ∧ iy.cycle = n ∧ iz.cycle = n) → (ix.digest ≠ iy.digest ∧ iy.digest ≠ iz.digest ∧ ix.digest ≠
   iz.digest) → ∃ s', exec (.commitPoint t) s = .next s' ∧ s'.ctl.mode = .safe ∧ s'.lane.inForce = [] ∧ raised s'
   s.lane.active.mask evSafeEnter 1 s.lane.lane.code) ∧
  (∀ (t : Nat) (x y z : Mast) (ix iy : Submitted) (n : Nat) (s : State), (s.ctl.mode = .run ∨ s.ctl.mode = .hold) →
   (s.lane.lane = .triplex ∧ s.lane.late = none) → (s.advance t).commitDue.isSome = true → (s.lane.inOrder = [x, y,
   z] ∨ s.lane.inOrder = [x, z, y] ∨ s.lane.inOrder = [z, x, y]) → (∀ m ∈ s.voters, m = x ∨ m = y ∨ m = z) →
   ((s.mast x).alive = true ∧ (s.mast y).alive = true) → (s.lane.images.get x = some ix ∧ s.lane.images.get y = some
   iy ∧ s.lane.images.get z = none) → (ix.cycle = n ∧ iy.cycle = n) → ix.digest = iy.digest → ∃ s', exec
   (.commitPoint t) s = .next s' ∧ s'.lane.late = some (z, n, ix.digest) ∧ s'.lane.decision = some ⟨n, ix.digest,
   ix.items⟩ ∧ s'.lane.decided = some (n % 2 ^ 32, ix.digest % 2 ^ 32, (s.advance t).moduleTime) ∧ s'.lane.inForce =
   s.lane.inForce ∧ s'.lane.lane = s.lane.lane ∧ s'.lane.active = s.lane.active ∧ s'.lane.units = s.lane.units ∧
   regsBut [(.agreed, rLmVote)] s s' ∧ sameBut [.lane, .regs] (s.advance t) s') ∧
  (∀ (t : Nat) (m : Mast) (n : Nat) (d : Nat) (s : State), (s.ctl.mode = .run ∨ s.ctl.mode = .hold) → (s.lane.lane =
   .triplex ∧ s.lane.late = some (m, n, d)) → (s.advance t).commitDue.isSome = true → (s.votes m = true ∧
   s.lane.images.get m = none) → ∃ s', exec (.commitPoint t) s = .next s' ∧ s'.votes m = false ∧ s'.lane.late = none) ∧
  (∀ (t : Nat) (x y : Mast) (ix iy : Submitted) (n : Nat) (s : State), (s.ctl.mode = .run ∨ s.ctl.mode = .hold) →
   (s.lane.lane = .duplex ∧ s.lane.late = none) → (s.advance t).commitDue.isSome = true → s.lane.inOrder = [x, y] →
   (∀ m ∈ s.voters, m = x ∨ m = y) → ((s.mast x).alive = true ∧ (s.mast y).alive = true) → (s.lane.images.get x =
   some ix ∧ s.lane.images.get y = some iy) → (ix.cycle = n ∧ iy.cycle = n) → ix.digest = iy.digest → ∃ s', exec
   (.commitPoint t) s = .next s' ∧ s'.lane.decision = some ⟨n, ix.digest, ix.items⟩ ∧ s'.lane.decided = some (n % 2
   ^ 32, ix.digest % 2 ^ 32, (s.advance t).moduleTime) ∧ s'.lane.inForce = s.lane.inForce ∧ s'.lane.lane =
   s.lane.lane ∧ s'.lane.active = s.lane.active ∧ s'.lane.units = s.lane.units ∧ regsBut [(.agreed, rLmVote)] s s' ∧
   sameBut [.lane, .regs] (s.advance t) s') ∧
  (∀ (t : Nat) (x y : Mast) (ix iy : Submitted) (n : Nat) (s : State), (s.ctl.mode = .run ∨ s.ctl.mode = .hold) →
   (s.lane.lane = .duplex ∧ s.lane.late = none) → (s.advance t).commitDue.isSome = true → s.lane.inOrder = [x, y] →
   (∀ m ∈ s.voters, m = x ∨ m = y) → ((s.mast x).alive = true ∧ (s.mast y).alive = true) → (s.lane.images.get x =
   some ix ∧ s.lane.images.get y = some iy) → (ix.cycle = n ∧ iy.cycle = n) → ix.digest ≠ iy.digest → ∃ s', exec
   (.commitPoint t) s = .next s' ∧ s'.ctl.mode = .safe ∧ s'.lane.inForce = [] ∧ raised s' s.lane.active.mask
   evDuplexDisagree 1 n ∧ raised s' s.lane.active.mask evSafeEnter 4 s.lane.lane.code) ∧
  (∀ (t : Nat) (s : State), (s.ctl.mode ≠ .run ∧ s.ctl.mode ≠ .hold) → ∃ s', exec (.commitPoint t) s = .next s' ∧
   s'.lane = { s.lane with lastPoint := s'.lane.lastPoint } ∧ sameBut [.lane] (s.advance t) s') ∧
  (∀ (t : Nat) (u : Nat) (dst : Mast) (s : State), u ≠ 6 → (u < 8 ∧ s.lane.units.length = 8) → (s.unit u).pendingTo
   = some dst → s.votes dst = true → (∀ w ∈ (s.unit u).wire, w.upTo ≤ t) → ∃ s', exec (.normalHandover t u) s =
   .next s' ∧ (s'.unit u).owner = dst ∧ (s'.unit u).pendingTo = none ∧ (s'.unit u).queue = (s.unit u).queue ∧ (∀ v,
   v ≠ u → s'.unit v = s.unit v) ∧ raised s' s.lane.active.mask evOwnerChange u (dst.code + 256 * (s.unit
   u).owner.code) ∧ s'.getF .agreed fLmOwnerOwner = ((List.range 8).map fun v => (s'.unit v).owner.code * 4 ^ v).sum
   ∧ regsBut [(.agreed, rLmOwner), (.agreed, rLmHandover)] s s' ∧ sameBut [.lane, .regs, .log] (s.advance t) s') ∧
  (∀ (t : Nat) (u : Nat) (dst : Mast) (s : State), u = 6 → (u < 8 ∧ s.lane.units.length = 8) → (s.unit u).pendingTo
   = some dst → s.votes dst = true → (∀ w ∈ (s.unit u).wire, w.upTo ≤ t) → ∃ s', exec (.normalHandover t u) s =
   .next s' ∧ ∃ v : State, s' = v.bridgeKick ∧ (v.unit u).owner = dst ∧ (v.unit u).pendingTo = none ∧ (v.unit
   u).queue = (s.unit u).queue ∧ (∀ w, w ≠ u → v.unit w = s.unit w) ∧ raised v s.lane.active.mask evOwnerChange u
   (dst.code + 256 * (s.unit u).owner.code) ∧ v.getF .agreed fLmOwnerOwner = ((List.range 8).map fun w => (v.unit
   w).owner.code * 4 ^ w).sum ∧ regsBut [(.agreed, rLmOwner), (.agreed, rLmHandover)] s v ∧ sameBut [.lane, .regs,
   .log] (s.advance t) v)

/-- For every state: a mast that may start (it votes, is alive, its program is running and not halted, its last cycle
has ended, the release of a later action instant is complete and LM_CYCGO.GO is 1) begins the cycle after its last
one on a copy of the input image, and the module's cycle number is the larger; a submission within the cycle limit
becomes the mast's pending image with the digest of its items and the cycle's number (its items as given, but for
those of a safe connection, which go out in their containers), one at or over the limit halts the program of that
mast and submits nothing; the cycle-end mark after the submission ends the cycle; the cycle limit and an exception
halt the mast's program with what they found. Other masts' cycles stay as they were. Completion: for every state and
operands that meet the stated conditions on them alone, exec answers the next state of the own effect of
appCycleStart (APP_CYCLE_START), outputImageSubmit (OUTPUT_IMAGE_SUBMIT), cycleEndMark (CYCLE_END_MARK),
cycleLimitExpiry (CYCLE_LIMIT_EXPIRY), applicationException (APPLICATION_EXCEPTION). -/
def Obligations.ApplicationCycles : Prop :=
  (∀ (t : Nat) (m : Mast) (s : State), s.mayStart m = true → ∃ s', exec (.appCycleStart t m) s = .next s' ∧
   s'.app.inCycle.get m = some (s.app.last.get m + 1) ∧ s'.app.last.get m = s.app.last.get m + 1 ∧ s'.app.cycle =
   max s.app.cycle (s.app.last.get m + 1) ∧ s'.app.cycleFrom.get m = max s.now t ∧ s'.app.startedOn.get m =
   s.app.released ∧ s'.app.copied = s.app.image ∧ s'.lane.inForce = s.lane.inForce ∧ s'.ctl = s.ctl ∧ s'.getF
   .agreed fMcCycnumLoNum = s'.app.cycle % 4294967296 ∧ (∀ o, o ≠ m → s'.app.inCycle.get o = s.app.inCycle.get o)) ∧
  (∀ (t : Nat) (m : Mast) (items : List Item) (done n : Nat) (s : State), s.app.inCycle.get m = some n → (s.ctl.mode
   = .run ∨ s.ctl.mode = .hold) → (s.votes m = true ∧ (s.mast m).alive = true ∧ s.app.halted.get m = false) →
   (s.app.sub.get m ≠ n ∧ s.lane.images.get m = none ∧ s.lane.late = none) → done - s.app.cycleFrom.get m <
   s.cycleLimit → ∃ s', exec (.outputImageSubmit t m items done) s = .next s' ∧ s'.lane.images.get m = some ⟨n,
   itemsDigest ((s.advance t).scSend m items).1, ((s.advance t).scSend m items).1, (s.advance t).moduleTime, 0⟩ ∧
   ((∀ i ∈ items, s.scOf i = none) → ((s.advance t).scSend m items).1 = items) ∧ s'.app.sub.get m = n ∧
   s'.app.inCycle = s.app.inCycle ∧ s'.app.halted = s.app.halted ∧ (∀ o, o ≠ m → s'.lane.images.get o =
   s.lane.images.get o) ∧ s'.lane.inForce = s.lane.inForce ∧ regsBut [(.agreed, rMcCyctime), (.agreed, rMcCycwait)]
   s s' ∧ sameBut [.app, .lane, .regs, .net] (s.advance t) s') ∧
  (∀ (t : Nat) (m : Mast) (items : List Item) (done n : Nat) (s : State), s.app.inCycle.get m = some n → (s.ctl.mode
   = .run ∨ s.ctl.mode = .hold) → (s.votes m = true ∧ (s.mast m).alive = true ∧ s.app.halted.get m = false) →
   (s.app.sub.get m ≠ n ∧ s.lane.images.get m = none) → s.cycleLimit ≤ done - s.app.cycleFrom.get m → ∃ s', exec
   (.outputImageSubmit t m items done) s = .next s' ∧ s'.app.halted.get m = true ∧ s'.app.overran.get m = some (done
   - s.app.cycleFrom.get m) ∧ (∀ o, o ≠ m → s'.app.inCycle.get o = s.app.inCycle.get o ∧ s'.app.halted.get o =
   s.app.halted.get o) ∧ sameBut [.app] (s.advance t) s') ∧
  (∀ (t : Nat) (m : Mast) (cycle n : Nat) (s : State), s.app.inCycle.get m = some n → (s.votes m = true ∧ (s.mast
   m).alive = true) → (s.app.sub.get m = n ∧ n % 4294967296 = cycle % 4294967296) → ∃ s', exec (.cycleEndMark t m
   cycle) s = .next s' ∧ s'.app.inCycle.get m = none ∧ s'.app.endedAt.get m = some (max s.now t) ∧
   s'.lane.cycEnd.get m = some n ∧ (∀ o, o ≠ m → s'.app.inCycle.get o = s.app.inCycle.get o ∧ s'.lane.cycEnd.get o =
   s.lane.cycEnd.get o)) ∧
  (∀ (t : Nat) (m : Mast) (n : Nat) (s : State), s.app.inCycle.get m = some n → (s.app.halted.get m = false ∧
   s.app.sub.get m ≠ n) → s.app.cycleFrom.get m + s.cycleLimit ≤ t → ∃ s', exec (.cycleLimitExpiry t m) s = .next s'
   ∧ s'.app.halted.get m = true ∧ s'.app.overran.get m = some s.cycleLimit ∧ (∀ o, o ≠ m → s'.app.inCycle.get o =
   s.app.inCycle.get o ∧ s'.app.halted.get o = s.app.halted.get o) ∧ sameBut [.app] (s.advance t) s') ∧
  (∀ (t : Nat) (m : Mast) (code addr n : Nat) (s : State), s.app.inCycle.get m = some n → s.app.halted.get m = false
   → s.triadRuns m = true → ∃ s', exec (.applicationException t m code addr) s = .next s' ∧ s'.app.halted.get m =
   true ∧ s'.app.faults.get m = some (n, code, addr) ∧ (∀ o, o ≠ m → s'.app.inCycle.get o = s.app.inCycle.get o ∧
   s'.app.halted.get o = s.app.halted.get o) ∧ sameBut [.app] (s.advance t) s')

/-- For every state with an application loaded: a change request whose check finds nothing joins the pending ones for
the cycle after the present one, and one that is refused leaves its status in MC_OLC and raises OLC_REFUSED with it
and changes nothing else. A retained write that succeeds makes the bank it wrote the valid one with the data it
took, and no byte outside that bank changes; a first failure raises RETAIN_WRITE_FAIL and is tried again, a second
ends the write and sets MC_RETAIN.FAILED. A request that is not authenticated is refused with status 9, one outside
RUN and HOLD with status 5. Completion: for every state and operands that meet the stated conditions on them alone,
exec answers the next state of the own effect of onlineChangeRequest (ONLINE_CHANGE_REQUEST), retainWriteDone
(RETAIN_WRITE_DONE). -/
def Obligations.OnlineChangesAndRetainedData : Prop :=
  (∀ (t : Nat) (auth : Bool) (hash : Nat) (items : List ChangeItem) (s : State), s.app.desc.isSome = true →
   s.requestStatus auth hash items = (0, match items with | x :: _ => x.index | [] => 0) → ∃ s', exec
   (.onlineChangeRequest t auth hash items) s = .next s' ∧ s'.app.changes = s.app.changes ++ [⟨items.map fun x =>
   (x.index, x.value), s.app.cycle + 1⟩] ∧ s'.app.values = s.app.values ∧ regsBut [(.agreed, rMcOlc)] s s' ∧ sameBut
   [.app, .regs] (s.advance t) s') ∧
  (∀ (t : Nat) (auth : Bool) (hash : Nat) (items : List ChangeItem) (status symbol : Nat) (s : State),
   s.app.desc.isSome = true → (s.requestStatus auth hash items = (status, symbol) ∧ status ≠ 0) → ∃ s', exec
   (.onlineChangeRequest t auth hash items) s = .next s' ∧ raised s' s.lane.active.mask evOlcRefused status symbol ∧
   s'.getF .agreed fMcOlcLast = status % 256 ∧ regsBut [(.agreed, rMcOlc)] s s' ∧ sameBut [.log, .regs] (s.advance
   t) s') ∧
  (∀ (t : Nat) (m : Mast) (bank cycle : Nat) (again : Bool) (data : List Byte) (s : State), (s.app.retain.get
   m).writing = some (bank, again, cycle, data) → (s.mast m).powered = true → ∃ s', exec (.retainWriteDone t m true)
   s = .next s' ∧ (s'.mast m).mem = (s.mast m).mem.writeBank bank cycle s.app.hash data ∧ (s'.app.retain.get
   m).writing = none ∧ s'.getF (.mast m) fMcRetainFailed = 0 ∧ s'.getF (.mast m) fMcRetainBusy = 0 ∧ (∀ o, o ≠ m →
   s'.mast o = s.mast o) ∧ regsBut [(.mast m, rMcRetain)] s s' ∧ sameBut [.masts, .mem, .app, .regs] (s.advance t)
   s') ∧
  (∀ (t : Nat) (m : Mast) (bank cycle : Nat) (data : List Byte) (s : State), (s.app.retain.get m).writing = some
   (bank, false, cycle, data) → (s.mast m).powered = true → ∃ s', exec (.retainWriteDone t m false) s = .next s' ∧
   raised s' s.lane.active.mask evRetainWriteFail bank m.code ∧ (s'.app.retain.get m).writing = some (bank, true,
   cycle, data) ∧ (∀ o, o ≠ m → s'.mast o = s.mast o) ∧ sameBut [.masts, .mem, .app, .log] (s.advance t) s') ∧
  (∀ (t : Nat) (m : Mast) (bank cycle : Nat) (data : List Byte) (s : State), (s.app.retain.get m).writing = some
   (bank, true, cycle, data) → (s.mast m).powered = true → ∃ s', exec (.retainWriteDone t m false) s = .next s' ∧
   raised s' s.lane.active.mask evRetainWriteFail bank m.code ∧ (s'.app.retain.get m).writing = none ∧ s'.getF
   (.mast m) fMcRetainFailed = 1 ∧ s'.getF (.mast m) fMcRetainBusy = 0 ∧ (∀ o, o ≠ m → s'.mast o = s.mast o) ∧
   regsBut [(.mast m, rMcRetain)] s s' ∧ sameBut [.masts, .mem, .app, .log, .regs] (s.advance t) s') ∧
  (∀ (t : Nat) (auth : Bool) (hash : Nat) (x : ChangeItem) (rest : List ChangeItem) (s : State), s.app.desc.isSome =
   true → auth = false → ∃ s', exec (.onlineChangeRequest t auth hash (x :: rest)) s = .next s' ∧ raised s'
   s.lane.active.mask evOlcRefused 9 x.index ∧ s'.app = s.app ∧ sameBut [.log, .regs] (s.advance t) s') ∧
  (∀ (t : Nat) (auth : Bool) (hash : Nat) (x : ChangeItem) (rest : List ChangeItem) (s : State), s.app.desc.isSome =
   true → auth = true → (s.ctl.mode ≠ .run ∧ s.ctl.mode ≠ .hold) → ∃ s', exec (.onlineChangeRequest t auth hash (x
   :: rest)) s = .next s' ∧ raised s' s.lane.active.mask evOlcRefused 5 x.index ∧ s'.app = s.app ∧ sameBut [.log,
   .regs] (s.advance t) s')

/-- The effect R84, R87, R89, R90 and R76 give these commands is that the mast goes fail-silent. For every mast that
runs: triadVoteDisagree with no two vectors equal while the triad is triple is cause 0x04, with running cores that
differ during a resync 0x05; voterHalfMismatch is 0x01; delayStageParityError in the input path 0x02 and in the
output path 0x03; lockstepTimeout more than 1 ms after the first start of a resync 0x08; mastSupervisionFault of
crystal or PLL 0x09, of a rail 0x0A, of a die above 160 degrees 0x0B. The mast is then silent with both triads held;
its silence record, sent as the last word, names the cause, the triad and (for 0x01, 0x04, 0x05) the first differing
bit; no other mast and no byte of its memory outside the record changes. tdSilclr with its key in SERVICE or STOP
clears VALID and renews the CRC, no other byte; without them it changes nothing. Completion: for every state and
operands that meet the stated conditions on them alone, exec answers the next state of the own effect of
triadVoteDisagree (TRIAD_VOTE_DISAGREE), voterHalfMismatch (VOTER_HALF_MISMATCH), delayStageParityError
(DELAY_STAGE_PARITY_ERROR), lockstepTimeout (LOCKSTEP_TIMEOUT), mastSupervisionFault (MAST_SUPERVISION_FAULT),
tdSilclr (TD_SILCLR). -/
def Obligations.TriadFaults : Prop :=
  (∀ (t : Nat) (m : Mast) (tr : Triad) (x y z : BitVec 64) (s : State), s.triadRuns m = true → ((s.mast m).triad
   tr).resync = none → (x ≠ y ∧ y ≠ z ∧ x ≠ z) → 2 ≤ (minorityCores x y z).length → ∃ s', exec (.triadVoteDisagree t
   m tr x y z) s = .next s' ∧ wentSilent s s' m 4 ∧ recorded s' m (whoOf m tr 0) (lowestBit ((x ^^^ y) ||| (x ^^^
   z))) ∧ sameBut [.masts, .mem, .lane, .regs, .time] (s.advance t) s') ∧
  (∀ (t : Nat) (m : Mast) (tr : Triad) (r : Resync) (x y z : BitVec 64) (s : State), s.triadRuns m = true → ((s.mast
   m).triad tr).resync = some r → (r.core ≤ 2 ∧ (runningPair r.core x y z).1 ≠ (runningPair r.core x y z).2) → ∃ s',
   exec (.triadVoteDisagree t m tr x y z) s = .next s' ∧ wentSilent s s' m 5 ∧ recorded s' m (whoOf m tr r.core)
   (lowestBit ((runningPair r.core x y z).1 ^^^ (runningPair r.core x y z).2)) ∧ sameBut [.masts, .mem, .lane,
   .regs, .time] (s.advance t) s') ∧
  (∀ (t : Nat) (m : Mast) (tr : Triad) (bit : Nat) (s : State), s.triadRuns m = true → bit < 4294967296 → ∃ s', exec
   (.voterHalfMismatch t m tr bit) s = .next s' ∧ wentSilent s s' m 1 ∧ recorded s' m (whoOf m tr 0) bit ∧ sameBut
   [.masts, .mem, .lane, .regs, .time] (s.advance t) s') ∧
  (∀ (t : Nat) (m : Mast) (tr : Triad) (output : Bool) (core stage group : Nat) (s : State), s.triadRuns m = true →
   core ≤ 2 → ∃ s', exec (.delayStageParityError t m tr output core stage group) s = .next s' ∧ wentSilent s s' m
   (if output then 3 else 2) ∧ fieldAt (recordOf s' m) 4 4 = whoOf m tr core ∧ sameBut [.masts, .mem, .lane, .regs,
   .time] (s.advance t) s') ∧
  (∀ (t : Nat) (m : Mast) (tr : Triad) (r : Resync) (s : State), s.triadRuns m = true → ((s.mast m).triad tr).resync
   = some r → r.firstOut + 1000000 < t → r.core ≤ 2 → ∃ s', exec (.lockstepTimeout t m tr) s = .next s' ∧ wentSilent
   s s' m 8 ∧ recorded s' m (whoOf m tr r.core) 0 ∧ sameBut [.masts, .mem, .lane, .regs, .time] (s.advance t) s') ∧
  (∀ (t : Nat) (m : Mast) (s : State), ((s.mast m).powered = true ∧ (s.mast m).silent = false) → ∃ s', exec
   (.mastSupervisionFault t m .crystal) s = .next s' ∧ wentSilent s s' m 9 ∧ fieldAt (recordOf s' m) 20 4 = 0 ∧
   sameBut [.masts, .mem, .lane, .regs, .time] (s.advance t) s') ∧
  (∀ (t : Nat) (m : Mast) (s : State), ((s.mast m).powered = true ∧ (s.mast m).silent = false) → ∃ s', exec
   (.mastSupervisionFault t m .pll) s = .next s' ∧ wentSilent s s' m 9 ∧ fieldAt (recordOf s' m) 20 4 = 0 ∧ sameBut
   [.masts, .mem, .lane, .regs, .time] (s.advance t) s') ∧
  (∀ (t : Nat) (m : Mast) (n : Nat) (s : State), ((s.mast m).powered = true ∧ (s.mast m).silent = false) → ∃ s',
   exec (.mastSupervisionFault t m (.rail n)) s = .next s' ∧ wentSilent s s' m 10 ∧ fieldAt (recordOf s' m) 20 4 = 0
   ∧ sameBut [.masts, .mem, .lane, .regs, .time] (s.advance t) s') ∧
  (∀ (t : Nat) (m : Mast) (q : Int) (s : State), ((s.mast m).powered = true ∧ (s.mast m).silent = false) → q > 640 →
   ∃ s', exec (.mastSupervisionFault t m (.die q)) s = .next s' ∧ (s'.mast m).silent = true ∧ (s'.mast m).held =
   true ∧ fieldAt (recordOf s' m) 3 1 = 11 ∧ (∀ a, a < silenceAddr ∨ silenceAddr + 32 ≤ a → (s'.mast m).mem.readByte
   a = (s.mast m).mem.readByte a) ∧ (∀ o, o ≠ m → s'.mast o = s.mast o) ∧ (s.getF (.mast m) fTdHealthTempWarn = 0 →
   raised s' (2 ^ m.code) evMastTempHigh m.code (unsigned 32 (q / 4))) ∧ sameBut [.masts, .mem, .lane, .regs, .time,
   .log] (s.advance t) s') ∧
  (∀ (t : Nat) (m : Mast) (value : Word) (s : State), s.triadRuns m = true → getBits value 31 16 = 0x5443 →
   (s.ctl.mode = .service ∨ s.ctl.mode = .stop) → ∃ s', exec (.tdSilclr t m value) s = .next s' ∧ (s'.mast
   m).mem.readByte (silenceAddr + 2) = 0 ∧ fieldAt (recordOf s' m) 28 4 = (crc32c ((recordOf s' m).take 28)).toNat ∧
   (∀ a, a < silenceAddr + 2 ∨ (silenceAddr + 2 < a ∧ a < silenceAddr + 28) ∨ silenceAddr + 32 ≤ a → (s'.mast
   m).mem.readByte a = (s.mast m).mem.readByte a) ∧ (∀ o, o ≠ m → s'.mast o = s.mast o) ∧ sameBut [.masts, .mem]
   (s.advance t) s') ∧
  (∀ (t : Nat) (m : Mast) (value : Word) (s : State), (getBits value 31 16 ≠ 0x5443 ∨ (s.ctl.mode ≠ .service ∧
   s.ctl.mode ≠ .stop)) → exec (.tdSilclr t m value) s = .next (s.advance t))

/-- Three equal vectors, and two equal running ones during a resync, are passed on and change nothing else. For every
triple triad that runs with fewer starts in the last second than RESYNC_LIMIT: a core in the minority, not restored
within the last 1 ms, begins a resync while the majority is passed on; a self test that passes marks it, and the
resync point with a right CRC restores the core, counts it in the mast's resync count and raises CORE_RESYNC with
the time it took. In SERVICE an agreed injection of an output bit has the effect of such a minority, and the others,
which is their effect, take the target fail-silent with causes 2, 3 and 1; without agreement the result is 3,
outside SERVICE 2, and nothing else changes. A die temperature is shown; above 145 degrees it raises MAST_TEMP_HIGH
once, below 140 degrees it may do so again, above 160 degrees the mast goes fail-silent with cause 0x0B. The last
word of a silent mast raises MAST_SILENT with its WHO and cause. Completion: for every state and operands that meet
the stated conditions on them alone, exec answers the next state of the own effect of triadVoteDisagree
(TRIAD_VOTE_DISAGREE), resyncSelftestDone (RESYNC_SELFTEST_DONE), resyncPoint (RESYNC_POINT), tdInjectOutputBit
(TD_INJECT_OUTPUT_BIT), tdInjectInputParity (TD_INJECT_INPUT_PARITY), tdInjectOutputParity
(TD_INJECT_OUTPUT_PARITY), tdInjectVoter (TD_INJECT_VOTER), dieTemperatureCrossing (DIE_TEMPERATURE_CROSSING),
lastWordReceived (LAST_WORD_RECEIVED). -/
def Obligations.TriadResyncAndInjection : Prop :=
  (∀ (t : Nat) (m : Mast) (tr : Triad) (x : BitVec 64) (s : State), s.triadRuns m = true → ((s.mast m).triad
   tr).resync = none → ∃ s', exec (.triadVoteDisagree t m tr x x x) s = .next s' ∧ s'.masts = s.masts.set m ((s.mast
   m).setTriad tr { (s.mast m).triad tr with passed := x }) ∧ sameBut [.masts] (s.advance t) s') ∧
  (∀ (t : Nat) (m : Mast) (tr : Triad) (r : Resync) (x y z v : BitVec 64) (s : State), s.triadRuns m = true →
   ((s.mast m).triad tr).resync = some r → runningPair r.core x y z = (v, v) → ∃ s', exec (.triadVoteDisagree t m tr
   x y z) s = .next s' ∧ s'.masts = s.masts.set m ((s.mast m).setTriad tr { (s.mast m).triad tr with passed := v })
   ∧ sameBut [.masts] (s.advance t) s') ∧
  (∀ (t : Nat) (m : Mast) (tr : Triad) (x y z : BitVec 64) (core : Nat) (s : State), s.triadRuns m = true → ((s.mast
   m).triad tr).resync = none → (∀ x ∈ ((s.mast m).triad tr).restored, x.1 = core → x.2.1 + 1000000 < max s.now t) →
   ((core = 0 ∧ y = z ∧ x ≠ y) ∨ (core = 1 ∧ x = z ∧ y ≠ x) ∨ (core = 2 ∧ x = y ∧ z ≠ x)) → ((s.mast m).triad
   tr).starts.length < s.getF .agreed fTdCtrlResyncLimit → ∃ s', exec (.triadVoteDisagree t m tr x y z) s = .next s'
   ∧ s'.masts = s.masts.set m ((s.mast m).setTriad tr
   { (s.mast m).triad tr with resync := some ⟨core, max s.now t, max s.now t, false⟩,
                              starts := max s.now t :: ((s.mast m).triad tr).starts.filter (fun a => decide (max s.now t < a + 1000000000)),
                              restored := ((s.mast m).triad tr).restored.filter (fun r => r.1 != core),
                              passed := if core = 0 then y else x })
   ∧ regsBut [(.mast m, rTdStat)] s s' ∧ sameBut [.masts, .regs] (s.advance t) s') ∧
  (∀ (t : Nat) (m : Mast) (tr : Triad) (r : Resync) (s : State), s.triadRuns m = true → (((s.mast m).triad
   tr).resync = some r ∧ r.tested = false) → ∃ s', exec (.resyncSelftestDone t m tr true) s = .next s' ∧ s'.masts =
   s.masts.set m ((s.mast m).setTriad tr { (s.mast m).triad tr with resync := some { r with tested := true } }) ∧
   regsBut [(.mast m, rTdStat)] s s' ∧ sameBut [.masts, .regs] (s.advance t) s') ∧
  (∀ (t : Nat) (m : Mast) (tr : Triad) (r : Resync) (s : State), s.triadRuns m = true → (((s.mast m).triad
   tr).resync = some r ∧ r.tested = true) → ∃ s', exec (.resyncPoint t m tr true) s = .next s' ∧ s'.masts =
   s.masts.set m ((s.mast m).setTriad tr
   { (s.mast m).triad tr with resync := none,
                              restored := (r.core, max s.now t, r.firstOut) :: ((s.mast m).triad tr).restored.filter (fun x => x.1 != r.core) })
   ∧ raised s' (2 ^ m.code) evCoreResync (whoOf m tr r.core) ((max s.now t - r.began) / 1000) ∧ s'.getF .agreed
   fTdLastrsKind = 1 ∧ s'.getF .agreed (resyncCount m tr) = min 65535 (s.getF .agreed (resyncCount m tr) + 1) ∧
   regsBut [(.mast m, rTdStat), (.agreed, rTdLastrs), (.agreed, (resyncCount m tr).addr)] s s' ∧ sameBut [.masts,
   .regs, .log] (s.advance t) s') ∧
  (∀ (t : Nat) (m : Mast) (tr : Triad) (ok : Bool) (s : State), ((s.mast m).triad tr).resync.all (fun r =>
   !r.tested) = true → exec (.resyncPoint t m tr ok) s = .next (s.advance t)) ∧
  (∀ (t : Nat) (writers : Per Bool) (m : Mast) (tr : Triad) (core : Nat) (s : State), s.agreed writers = true →
   s.ctl.mode = .service → ((s.mast m).alive = true ∧ s.triadRuns m = true) → core ≤ 2 → ((s.mast m).triad
   tr).resync = none → (∀ x ∈ ((s.mast m).triad tr).restored, x.1 = core → x.2.1 + 1000000 < max s.now t) → ((s.mast
   m).triad tr).starts.length < s.getF .agreed fTdCtrlResyncLimit → ∃ s', exec (.tdInjectOutputBit t writers m tr
   core) s = .next s' ∧ s'.masts = s.masts.set m ((s.mast m).setTriad tr
   { (s.mast m).triad tr with resync := some ⟨core, max s.now t, max s.now t, false⟩,
                              starts := max s.now t :: ((s.mast m).triad tr).starts.filter (fun a => decide (max s.now t < a + 1000000000)),
                              restored := ((s.mast m).triad tr).restored.filter (fun r => r.1 != core) })
   ∧ s'.getF .agreed fTdInjstatResult = 1 ∧ raised s' s.lane.active.mask evInjectDone (injectLast m tr core 1) 0 ∧
   regsBut [(.agreed, rTdInjstat), (.mast m, rTdStat)] s s') ∧
  (∀ (t : Nat) (writers : Per Bool) (m : Mast) (tr : Triad) (core : Nat) (s : State), s.agreed writers = true →
   s.ctl.mode = .service → 2 < core → ∃ s', exec (.tdInjectOutputBit t writers m tr core) s = .next s' ∧ s'.getF
   .agreed fTdInjstatResult = 2 ∧ regsBut [(.agreed, rTdInjstat)] s s' ∧ sameBut [.regs] (s.advance t) s') ∧
  (∀ (t : Nat) (writers : Per Bool) (m : Mast) (tr : Triad) (core : Nat) (s : State), s.agreed writers = true →
   s.ctl.mode = .service → ((s.mast m).alive = true ∧ s.triadRuns m = true) → core ≤ 2 → ∃ s', exec
   (.tdInjectInputParity t writers m tr core) s = .next s' ∧ wentSilent s s' m 2 ∧ fieldAt (recordOf s' m) 4 4 =
   whoOf m tr core ∧ s'.getF .agreed fTdInjstatResult = 1 ∧ raised s' s.lane.active.mask evInjectDone (injectLast m
   tr core 2) 0) ∧
  (∀ (t : Nat) (writers : Per Bool) (m : Mast) (tr : Triad) (core : Nat) (s : State), s.agreed writers = true →
   s.ctl.mode = .service → ((s.mast m).alive = true ∧ s.triadRuns m = true) → core ≤ 2 → ∃ s', exec
   (.tdInjectOutputParity t writers m tr core) s = .next s' ∧ wentSilent s s' m 3 ∧ fieldAt (recordOf s' m) 4 4 =
   whoOf m tr core ∧ s'.getF .agreed fTdInjstatResult = 1 ∧ raised s' s.lane.active.mask evInjectDone (injectLast m
   tr core 3) 0) ∧
  (∀ (t : Nat) (writers : Per Bool) (m : Mast) (tr : Triad) (core : Nat) (s : State), s.agreed writers = true →
   s.ctl.mode = .service → ((s.mast m).alive = true ∧ s.triadRuns m = true) → core ≤ 2 → ∃ s', exec (.tdInjectVoter
   t writers m tr core) s = .next s' ∧ wentSilent s s' m 1 ∧ fieldAt (recordOf s' m) 4 4 = whoOf m tr 0 ∧ s'.getF
   .agreed fTdInjstatResult = 1 ∧ raised s' s.lane.active.mask evInjectDone (injectLast m tr core 4) 0) ∧
  (∀ (t : Nat) (writers : Per Bool) (m : Mast) (tr : Triad) (core : Nat) (s : State), s.agreed writers = false → ∃
   s', exec (.tdInjectOutputBit t writers m tr core) s = .next s' ∧ s'.getF .agreed fTdInjstatResult = 3 ∧ regsBut
   [(.agreed, rTdInjstat)] s s' ∧ sameBut [.regs] (s.advance t) s') ∧
  (∀ (t : Nat) (writers : Per Bool) (m : Mast) (tr : Triad) (core : Nat) (s : State), s.agreed writers = true →
   s.ctl.mode ≠ .service → core ≤ 2 → ∃ s', exec (.tdInjectOutputBit t writers m tr core) s = .next s' ∧ s'.getF
   .agreed fTdInjstatResult = 2 ∧ regsBut [(.agreed, rTdInjstat)] s s' ∧ sameBut [.regs] (s.advance t) s') ∧
  (∀ (t : Nat) (writers : Per Bool) (m : Mast) (tr : Triad) (core : Nat) (s : State), s.agreed writers = false → ∃
   s', exec (.tdInjectInputParity t writers m tr core) s = .next s' ∧ s'.getF .agreed fTdInjstatResult = 3 ∧ regsBut
   [(.agreed, rTdInjstat)] s s' ∧ sameBut [.regs] (s.advance t) s') ∧
  (∀ (t : Nat) (writers : Per Bool) (m : Mast) (tr : Triad) (core : Nat) (s : State), s.agreed writers = true →
   s.ctl.mode ≠ .service → core ≤ 2 → ∃ s', exec (.tdInjectInputParity t writers m tr core) s = .next s' ∧ s'.getF
   .agreed fTdInjstatResult = 2 ∧ regsBut [(.agreed, rTdInjstat)] s s' ∧ sameBut [.regs] (s.advance t) s') ∧
  (∀ (t : Nat) (writers : Per Bool) (m : Mast) (tr : Triad) (core : Nat) (s : State), s.agreed writers = false → ∃
   s', exec (.tdInjectOutputParity t writers m tr core) s = .next s' ∧ s'.getF .agreed fTdInjstatResult = 3 ∧
   regsBut [(.agreed, rTdInjstat)] s s' ∧ sameBut [.regs] (s.advance t) s') ∧
  (∀ (t : Nat) (writers : Per Bool) (m : Mast) (tr : Triad) (core : Nat) (s : State), s.agreed writers = true →
   s.ctl.mode ≠ .service → core ≤ 2 → ∃ s', exec (.tdInjectOutputParity t writers m tr core) s = .next s' ∧ s'.getF
   .agreed fTdInjstatResult = 2 ∧ regsBut [(.agreed, rTdInjstat)] s s' ∧ sameBut [.regs] (s.advance t) s') ∧
  (∀ (t : Nat) (writers : Per Bool) (m : Mast) (tr : Triad) (core : Nat) (s : State), s.agreed writers = false → ∃
   s', exec (.tdInjectVoter t writers m tr core) s = .next s' ∧ s'.getF .agreed fTdInjstatResult = 3 ∧ regsBut
   [(.agreed, rTdInjstat)] s s' ∧ sameBut [.regs] (s.advance t) s') ∧
  (∀ (t : Nat) (writers : Per Bool) (m : Mast) (tr : Triad) (core : Nat) (s : State), s.agreed writers = true →
   s.ctl.mode ≠ .service → core ≤ 2 → ∃ s', exec (.tdInjectVoter t writers m tr core) s = .next s' ∧ s'.getF .agreed
   fTdInjstatResult = 2 ∧ regsBut [(.agreed, rTdInjstat)] s s' ∧ sameBut [.regs] (s.advance t) s') ∧
  (∀ (t : Nat) (m : Mast) (q : Int) (s : State), ((s.mast m).powered = true ∧ (s.mast m).silent = false) → (580 < q
   ∧ q ≤ 640) → s.getF (.mast m) fTdHealthTempWarn = 0 → ∃ s', exec (.dieTemperatureCrossing t m q) s = .next s' ∧
   s'.masts = s.masts.set m { s.mast m with dieTemp := q } ∧ s'.getF (.mast m) fTdHealthTemp = unsigned 16 q ∧
   s'.getF (.mast m) fTdHealthTempWarn = 1 ∧ raised s' (2 ^ m.code) evMastTempHigh m.code (unsigned 32 (q / 4)) ∧
   regsBut [(.mast m, rTdHealth)] s s' ∧ sameBut [.masts, .regs, .log] (s.advance t) s') ∧
  (∀ (t : Nat) (m : Mast) (q : Int) (s : State), ((s.mast m).powered = true ∧ (s.mast m).silent = false) → (560 ≤ q
   ∧ q ≤ 580 ∨ 560 ≤ q ∧ q ≤ 640 ∧ s.getF (.mast m) fTdHealthTempWarn = 1) → ∃ s', exec (.dieTemperatureCrossing t m
   q) s = .next s' ∧ s'.masts = s.masts.set m { s.mast m with dieTemp := q } ∧ s'.getF (.mast m) fTdHealthTemp =
   unsigned 16 q ∧ s'.getF (.mast m) fTdHealthTempWarn = s.getF (.mast m) fTdHealthTempWarn ∧ regsBut [(.mast m,
   rTdHealth)] s s' ∧ sameBut [.masts, .regs] (s.advance t) s') ∧
  (∀ (t : Nat) (m : Mast) (q : Int) (s : State), ((s.mast m).powered = true ∧ (s.mast m).silent = false) → q < 560 →
   ∃ s', exec (.dieTemperatureCrossing t m q) s = .next s' ∧ s'.masts = s.masts.set m { s.mast m with dieTemp := q }
   ∧ s'.getF (.mast m) fTdHealthTemp = unsigned 16 q ∧ s'.getF (.mast m) fTdHealthTempWarn = 0 ∧ regsBut [(.mast m,
   rTdHealth)] s s' ∧ sameBut [.masts, .regs] (s.advance t) s') ∧
  (∀ (t : Nat) (m : Mast) (q : Int) (s : State), ((s.mast m).powered = true ∧ (s.mast m).silent = false) → q > 640 →
   ∃ s', exec (.dieTemperatureCrossing t m q) s = .next s' ∧ (s'.mast m).silent = true ∧ (s'.mast m).held = true ∧
   fieldAt (recordOf s' m) 3 1 = 11 ∧ (∀ a, a < silenceAddr ∨ silenceAddr + 32 ≤ a → (s'.mast m).mem.readByte a =
   (s.mast m).mem.readByte a) ∧ (∀ o, o ≠ m → s'.mast o = s.mast o) ∧ (s.getF (.mast m) fTdHealthTempWarn = 0 →
   raised s' (2 ^ m.code) evMastTempHigh m.code (unsigned 32 (q / 4))) ∧ sameBut [.masts, .mem, .lane, .regs, .time,
   .log] (s.advance t) s') ∧
  (∀ (t : Nat) (obs snd : Mast) (record : List Byte) (s : State), (s.mast obs).alive = true → obs ≠ snd → (s.mast
   snd).silent = true → (s.mast snd).lastWord = some record → ∃ s', exec (.lastWordReceived t obs snd record) s =
   .next s' ∧ raised s' (2 ^ obs.code) evMastSilent (fieldAt record 4 4) (fieldAt record 3 1) ∧ sameBut [.log]
   (s.advance t) s') ∧
  (∀ (t : Nat) (obs snd : Mast) (record : List Byte) (s : State), ((s.mast snd).silent = false ∨ (s.mast
   snd).lastWord ≠ some record) → exec (.lastWordReceived t obs snd record) s = .next (s.advance t))

/-- For every state with an isolation whose gate has been open for 250 us: rails below 10 per cent end it with the
mast's power cut and MAST_ISOLATED, and then a ready spare begins a join (phase 2, jury mast powered, JOIN_START,
lane JOINING) while without one nothing else follows; rails at 10 per cent or more raise ISOLATE_POWER_FAIL and
spend the spare. During a join, the jury mast's ROM steps being done, joinReady with its key in phase 4 within 600
ms, from a jury mast in the time band, leads to phase 5, and from one outside the band fails the join with reason 8;
joinReadyTimeout at 600 ms without READY and joinEntryTimeout at 700 ms and one cycle, which have that effect alone,
fail it with reason 4 and 5: the jury mast is off, JOIN_FAILED is raised and the lane is DUPLEX without spare.
Completion: for every state and operands that meet the stated conditions on them alone, exec answers the next state
of the own effect of isolationPowerCheck (ISOLATION_POWER_CHECK), joinReady (JOIN_READY), joinReadyTimeout
(JOIN_READY_TIMEOUT), joinEntryTimeout (JOIN_ENTRY_TIMEOUT). -/
def Obligations.IsolationAndJoin : Prop :=
  (∀ (t : Nat) (percent : Nat) (f : JuryFinding) (i : Isolation) (s : State), s.lane.isolation = some i → i.decided
   + 250000 ≤ t → percent < 10 → s.spareReady = false → ∃ s', exec (.isolationPowerCheck t percent f) s = .next s' ∧
   s'.lane.isolation = none ∧ (s'.mast i.mast).powered = false ∧ raised s' s.lane.active.mask evMastIsolated
   i.mast.code ((max s.now t - i.decided) / 1000) ∧ s'.lane.lane = s.lane.lane ∧ s'.lane.join = s.lane.join ∧ (∀ o,
   o ≠ i.mast → s'.mast o = s.mast o) ∧ s'.lane.inForce = s.lane.inForce ∧ s'.ctl = s.ctl) ∧
  (∀ (t : Nat) (percent : Nat) (f : JuryFinding) (i : Isolation) (s : State), s.lane.isolation = some i → i.decided
   + 250000 ≤ t → percent < 10 → s.spareReady = true → i.mast ≠ .j → ∃ s', exec (.isolationPowerCheck t percent f) s
   = .next s' ∧ s'.lane.isolation = none ∧ (s'.mast i.mast).powered = false ∧ raised s' s.lane.active.mask
   evMastIsolated i.mast.code ((max s.now t - i.decided) / 1000) ∧ s'.lane.lane = .joining ∧ s'.lane.join = some
   { target := i.pos, onset := i.from', phase := 2, poweredAt := max s.now t, rom := 0, find := some f } ∧ (s'.mast
   .j).powered = true ∧ s'.getF .agreed fLmJoinPhase = 2 ∧ s'.getF .agreed fLmJoinTarget = i.pos.code ∧ (∃ e ∈
   s'.log.due, e.code = evJoinStart ∧ e.arg1 = i.pos.code) ∧ (∀ o, o ≠ i.mast → o ≠ .j → s'.mast o = s.mast o) ∧
   s'.lane.inForce = s.lane.inForce ∧ s'.ctl = s.ctl) ∧
  (∀ (t : Nat) (percent : Nat) (f : JuryFinding) (i : Isolation) (s : State), s.lane.isolation = some i → i.decided
   + 250000 ≤ t → 10 ≤ percent → ∃ s', exec (.isolationPowerCheck t percent f) s = .next s' ∧ s'.lane.isolation =
   none ∧ s'.lane.spare = false ∧ raised s' s.lane.active.mask evIsolatePowerFail i.mast.code percent ∧ (∀ o,
   s'.mast o = s.mast o) ∧ sameBut [.lane, .log, .regs] (s.advance t) s') ∧
  (∀ (t : Nat) (value : Word) (j : Join) (s : State), (getBits value 31 16 = 0x4A4E ∧ getBits value 0 0 = 1) →
   (((s.advance t).juryRom true).lane.join = some j ∧ j.phase = 4) → max s.now t ≤ j.onset + 600000000 → ((s.advance
   t).juryRom true).inBand .j = true → ∃ s', exec (.joinReady t value) s = .next s' ∧ s'.lane =
   { ((s.advance t).juryRom true).lane with join := some { j with phase := 5, ready := true, written := [] } } ∧
   s'.getF .agreed fLmJoinPhase = 5 ∧ regsBut [(.agreed, rLmJoin), (.agreed, rLmStat)] ((s.advance t).juryRom true)
   s' ∧ sameBut [.lane, .regs] ((s.advance t).juryRom true) s') ∧
  (∀ (t : Nat) (value : Word) (j : Join) (s : State), (getBits value 31 16 = 0x4A4E ∧ getBits value 0 0 = 1) →
   (((s.advance t).juryRom true).lane.join = some j ∧ j.phase = 4 ∧ j.ended = none) → max s.now t ≤ j.onset +
   600000000 → ((s.advance t).juryRom true).inBand .j = false → ∃ s', exec (.joinReady t value) s = .next s' ∧
   (s'.mast .j).powered = false ∧ s'.lane.lane = .duplex ∧ s'.lane.spare = false ∧ s'.getF .agreed fLmJoinFailReason
   = 8 ∧ (∃ e ∈ s'.log.due, e.code = evJoinFailed ∧ e.arg1 = 8 ∧ e.arg2 = 4)) ∧
  (∀ (t : Nat) (value : Word) (s : State), (getBits value 31 16 ≠ 0x4A4E ∨ getBits value 0 0 ≠ 1) → exec (.joinReady
   t value) s = .next (s.advance t)) ∧
  (∀ (t : Nat) (j : Join) (s : State), (s.lane.join = some j ∧ j.find = none) → (j.ended = none ∧ j.ready = false) →
   j.onset + 600000000 ≤ t → ∃ s', exec (.joinReadyTimeout t) s = .next s' ∧ (s'.mast .j).powered = false ∧ raised
   s' s.lane.active.mask evJoinFailed 4 j.phase ∧ s'.lane.lane = .duplex ∧ s'.lane.spare = false ∧ s'.lane.join =
   some { j with phase := 9, ended := some (max s.now t), reason := 4 } ∧ s'.getF .agreed fLmJoinFailReason = 4 ∧ (∀
   o, o ≠ .j → s'.mast o = s.mast o) ∧ s'.lane.inForce = s.lane.inForce ∧ s'.ctl = s.ctl) ∧
  (∀ (t : Nat) (j : Join) (s : State), ((s.advance t).juryRom false).lane.join = some j → (j.ended = none ∧ j.ready
   = false) → j.onset + 600000000 ≤ max s.now t → ∃ s', exec (.joinReadyTimeout t) s = .next s' ∧ (s'.mast
   .j).powered = false ∧ s'.lane.lane = .duplex ∧ s'.lane.spare = false ∧ s'.getF .agreed fLmJoinFailReason = 4) ∧
  (∀ (t : Nat) (j : Join) (s : State), s.lane.join = some j → j.ended = none → j.onset + 700000000 + s.aiCycle ≤ t →
   ∃ s', exec (.joinEntryTimeout t) s = .next s' ∧ (s'.mast .j).powered = false ∧ raised s' s.lane.active.mask
   evJoinFailed 5 j.phase ∧ s'.lane.lane = .duplex ∧ s'.lane.spare = false ∧ s'.lane.join = some
   { j with phase := 9, ended := some (max s.now t), reason := 5 } ∧ s'.getF .agreed fLmJoinFailReason = 5 ∧ (∀ o, o
   ≠ .j → s'.mast o = s.mast o) ∧ s'.lane.inForce = s.lane.inForce ∧ s'.ctl = s.ctl)

/-- For every state with a join in its checkpoint phases and every record with the MAGIC of R122 and zero reserved
bytes: a page record whose 4096 bytes match its PCRC waits for its twin, and with an equal twin the page is written
into the jury mast's memory; one that is not whole, or differs from its twin, is asked for again and CKPT_RETRY
names the page and the survivor; a whole end record waits for the other survivor's, and with both begins the next
round; two final records with different digests lead to SAFE. pageRecordRequest makes a survivor send the 4096 bytes
of its memory with their CRC. A timeBandCheck within 100 ns shows the offset and trim and clears the mast's count
and flag; the second in a row outside raises TIME_BAND and takes the mast fail-silent with DETAIL 0x0408: in TRIPLEX
that mast, in DUPLEX and JOINING the one of the later lane position. Completion: for every state and operands that
meet the stated conditions on them alone, exec answers the next state of the own effect of checkpointPageRecord
(CHECKPOINT_PAGE_RECORD), pageRecordRequest (PAGE_RECORD_REQUEST), timeBandCheck (TIME_BAND_CHECK). -/
def Obligations.CheckpointPagesAndTimeBand : Prop :=
  (∀ (t : Nat) (survivor : Mast) (r : PageRecord) (j : Join) (s : State), (s.lane.join = some j ∧ 5 ≤ j.phase ∧
   j.phase ≤ 7) → (s.joining = true ∧ s.votes survivor = true) → (r.magic = 0x434B5054 ∧ r.reserved = 0) → r.kind =
   3 → (r.data.length = 4096 ∧ r.pcrc = (crc32c r.data).toNat) → (∃ o ∈ Mast.all, s.votes o = true ∧ o ≠ survivor ∧
   j.bulkEnded.get o = false) → ∃ s', exec (.checkpointPageRecord t survivor r) s = .next s' ∧ s'.lane =
   { s.lane with join := some { j with bulkEnded := j.bulkEnded.set survivor true } } ∧ sameBut [.lane] (s.advance
   t) s') ∧
  (∀ (t : Nat) (survivor : Mast) (r : PageRecord) (j : Join) (s : State), (s.lane.join = some j ∧ 5 ≤ j.phase ∧
   j.phase ≤ 7) → (s.joining = true ∧ s.votes survivor = true) → (r.magic = 0x434B5054 ∧ r.reserved = 0) → r.kind =
   3 → (r.data.length = 4096 ∧ r.pcrc = (crc32c r.data).toNat) → (∀ o ∈ Mast.all, s.votes o = true → o = survivor ∨
   j.bulkEnded.get o = true) → ∃ s', exec (.checkpointPageRecord t survivor r) s = .next s' ∧ s'.lane.join = some
   { j with bulkEnded := Per.all false, phase := if j.phase = 5 then 6 else j.phase, round := j.round + 1,
            requests := [] }
   ∧ s'.getF .agreed fLmJoinPhase = (if j.phase = 5 then 6 else j.phase) ∧ sameBut [.lane, .regs] (s.advance t) s') ∧
  (∀ (t : Nat) (survivor : Mast) (r : PageRecord) (j : Join) (s : State), (s.lane.join = some j ∧ 5 ≤ j.phase ∧
   j.phase ≤ 7) → (s.joining = true ∧ s.votes survivor = true) → (r.magic = 0x434B5054 ∧ r.reserved = 0) → (r.kind =
   1 ∨ r.kind = 2) → r.page < s.ckPages r.region → (r.data.length = 4096 ∧ r.pcrc = (crc32c r.data).toNat) → (∀ w ∈
   j.waiting, w.1 = survivor ∨ w.2.region ≠ r.region ∨ w.2.page ≠ r.page ∨ w.2.round ≠ r.round) → ∃ s', exec
   (.checkpointPageRecord t survivor r) s = .next s' ∧ s'.lane =
   { s.lane with join := some { j with waiting := j.waiting.filter (fun w => !(w.1 == survivor && w.2.region == r.region && w.2.page == r.page)) ++ [(survivor, r)] } }
   ∧ sameBut [.lane] (s.advance t) s') ∧
  (∀ (t : Nat) (survivor o : Mast) (r x : PageRecord) (j : Join) (s : State), (s.lane.join = some j ∧ 5 ≤ j.phase ∧
   j.phase ≤ 7) → (s.joining = true ∧ s.votes survivor = true) → (r.magic = 0x434B5054 ∧ r.reserved = 0) → (r.kind =
   1 ∨ r.kind = 2) → (r.page < s.ckPages r.region ∧ r.region < 7) → (r.data.length = 4096 ∧ r.pcrc = (crc32c
   r.data).toNat) → (j.waiting = [(o, x)] ∧ o ≠ survivor) → (x.region = r.region ∧ x.page = r.page ∧ x.round =
   r.round ∧ x.data = r.data) → ∃ s', exec (.checkpointPageRecord t survivor r) s = .next s' ∧ (s'.mast
   .j).mem.readBytes (s.ckAddr r.region r.page) 4096 = r.data ∧ (∃ k, s'.lane.join = some k ∧ k.waiting = [] ∧
   (r.region, r.page, r.pcrc) ∈ k.pages) ∧ (∀ o, o ≠ .j → s'.mast o = s.mast o) ∧ sameBut [.lane, .masts, .mem,
   .regs] (s.advance t) s') ∧
  (∀ (t : Nat) (survivor : Mast) (r : PageRecord) (j : Join) (s : State), (s.lane.join = some j ∧ 5 ≤ j.phase ∧
   j.phase ≤ 7) → (s.joining = true ∧ s.votes survivor = true) → (r.magic = 0x434B5054 ∧ r.reserved = 0) → (r.kind =
   1 ∨ r.kind = 2) → r.page < s.ckPages r.region → (r.data.length ≠ 4096 ∨ r.pcrc ≠ (crc32c r.data).toNat) →
   (j.waiting = [] ∧ j.requests = []) → ∃ s', exec (.checkpointPageRecord t survivor r) s = .next s' ∧ s'.lane =
   { s.lane with join := some { j with requests := [(r.region, r.page, 1)] } } ∧ raised s' s.lane.active.mask
   evCkptRetry (r.region * 65536 + r.page) survivor.code ∧ sameBut [.lane, .log] (s.advance t) s') ∧
  (∀ (t : Nat) (survivor o : Mast) (r : PageRecord) (j : Join) (d : Nat) (s : State), (s.lane.join = some j ∧ 5 ≤
   j.phase ∧ j.phase ≤ 7) → (s.joining = true ∧ s.votes survivor = true) → (r.magic = 0x434B5054 ∧ r.reserved = 0) →
   (r.kind = 4 ∧ j.final = true) → (r.data.length = 4096 ∧ r.pcrc = (crc32c r.data).toNat) → allZero (r.data.drop 8)
   = true → (∀ x ∈ Mast.all, s.votes x = true ↔ x = survivor ∨ x = o) → (o ≠ survivor ∧ j.digests.get o = some d ∧ d
   ≠ fieldAt r.data 0 8) → s.ctl.mode = .run → ∃ s', exec (.checkpointPageRecord t survivor r) s = .next s' ∧
   s'.ctl.mode = .safe ∧ raised s' s.lane.active.mask evDuplexDisagree 4 (s.getF .agreed fLmCmtcycCycle)) ∧
  (∀ (t : Nat) (survivor : Mast) (region page : Nat) (j : Join) (s : State), (s.lane.join = some j ∧ 5 ≤ j.phase ∧
   j.phase ≤ 7) → s.joining = true → (s.votes survivor = true ∧ (s.mast survivor).alive = true) → (region < 7 ∧ page
   < s.ckPages region) → ∃ s', exec (.pageRecordRequest t survivor region page) s = .next s' ∧ s'.lane =
   { s.lane with pageOut := s.lane.pageOut.set survivor (some { kind := if j.phase = 5 then 1 else 2,
                                                                region := region, page := page,
                                                                cycle := s.app.cycle % 4294967296, round := j.round,
                                                                pcrc := (crc32c ((s.mast survivor).mem.readBytes (s.ckAddr region page) 4096)).toNat,
                                                                data := (s.mast survivor).mem.readBytes (s.ckAddr region page) 4096 }) }
   ∧ sameBut [.lane, .free] (s.advance t) s') ∧
  (∀ (t : Nat) (m : Mast) (offset : Int) (s : State), (s.mast m).alive = true → (-100 ≤ offset ∧ offset ≤ 100) → ∃
   s', exec (.timeBandCheck t m offset) s = .next s' ∧ s'.time.outside = s.time.outside.set m 0 ∧ s'.getF (.mast m)
   fTbLaneOfs = unsigned 16 offset ∧ s'.time.trim.get m = max (-10000) (min 10000 (-(offset * 1000))) ∧ s'.getF
   .agreed ⟨rTbBand, m.code, m.code⟩ = 0 ∧ s'.lane = s.lane ∧ regsBut [(.mast m, rTbLane), (.agreed, rTbBand)] s s'
   ∧ sameBut [.time, .regs] (s.advance t) s') ∧
  (∀ (t : Nat) (m : Mast) (offset : Int) (s : State), ((s.mast m).alive = true ∧ (s.mast m).held = false) → (offset
   < -100 ∨ 100 < offset) → (s.votes m = true ∧ 1 ≤ s.time.outside.get m) → s.lane.lane = .triplex → ∃ s', exec
   (.timeBandCheck t m offset) s = .next s' ∧ raised s' s.lane.active.mask evTimeBand m.code (unsigned 32 offset) ∧
   wentSilent s s' m 0x0C ∧ fieldAt (recordOf s' m) 20 4 = 0x0408) ∧
  (∀ (t : Nat) (m x y : Mast) (offset : Int) (s : State), ((s.mast m).alive = true ∧ (s.mast y).alive = true ∧
   (s.mast y).held = false) → (offset < -100 ∨ 100 < offset) → (s.votes m = true ∧ 1 ≤ s.time.outside.get m) →
   (s.lane.lane ≠ .triplex ∧ s.lane.inOrder = [x, y]) → ∃ s', exec (.timeBandCheck t m offset) s = .next s' ∧ raised
   s' s.lane.active.mask evTimeBand m.code (unsigned 32 offset) ∧ wentSilent s s' y 0x0C ∧ fieldAt (recordOf s' y)
   20 4 = 0x0408)

/-- For every state: an agreed standby in STOP or RUN with zero speed and a wake source that counts either enters
STANDBY with the mast of position A left awake, the others of the lane and the field engine unpowered and the
all-off image in force, or is refused with reason 1 for want of a checkpoint; one whose conditions fail is refused
with result 3 and STANDBY_REFUSED reason 2. wakeEvent of an enabled source in STANDBY notes the source and either
fails at step 4 or 5 of R40 (with no mast but the awake one passing its self-test, at step 4), or wakes into RUN or
STOP, as MC_WAKECFG says. standbyMastFault in STANDBY is a module reset with STANDBY_FAULT. A due sealPoll shows the
word in SL_SEALNOW and SL_SEALFRM, raises nothing for an unchanged sound word and sets SEAL_CHANGED for any other.
appFetchServe answers whether the rack master has the asked application. appFetchRequest, when due, asks the rack
master (STATE 2), or without one fails with reason 1. appFetchReceived fails with reason 2, 3 or 4 for a refusal, a
broken transfer or a foreign hash, and otherwise writes the container and ends in the reset of its activation or in
a failure. Completion: for every state and operands that meet the stated conditions on them alone, exec answers the
next state of the own effect of standby (STANDBY), wakeEvent (WAKE_EVENT), standbyMastFault (STANDBY_MAST_FAULT),
sealPoll (SEAL_POLL), appFetchServe (APP_FETCH_SERVE), appFetchRequest (APP_FETCH_REQUEST), appFetchReceived
(APP_FETCH_RECEIVED). -/
def Obligations.StandbyAndFetch : Prop :=
  (∀ (t : Nat) (writers : Per Bool) (s : State), (s.instants = true ∧ s.agreed writers = true) → (s.ctl.mode = .stop
   ∨ s.ctl.mode = .run) → s.standbyOk = true → ∃ s', exec (.standby t writers) s = .next s' ∧ ((s'.ctl.mode =
   .standby ∧ s'.lane.inForce = [] ∧ s'.field.powered = false ∧ (∀ m ∈ s.lane.inOrder, (s'.mast m).powered = true →
   m = s.awake)) ∨ (s'.ctl.mode = .stop ∧ raised s' s.lane.active.mask evStandbyRefused 1 0)) ∧ s'.getF .agreed
   fMcWakecfgResumeRun = (if s.ctl.mode = .run then 1 else 0)) ∧
  (∀ (t : Nat) (writers : Per Bool) (s : State), (s.instants = true ∧ s.agreed writers = true) → (s.ctl.mode = .stop
   ∨ s.ctl.mode = .run) → s.standbyOk = false → ∃ s', exec (.standby t writers) s = .next s' ∧ s'.ctl = s.ctl ∧
   raised s' s.lane.active.mask evStandbyRefused 2 0 ∧ (∀ m ∈ s.voters, s'.getF (.mast m) fMcCmdstatResult = 3) ∧
   sameBut [.regs, .log] (s.advance t) s') ∧
  (∀ (t : Nat) (src : Nat) (f : WakeFinding) (millis : Nat) (env : BootEnv) (s : State), s.ctl.mode = .standby →
   (s.advance t).wakes src = true → ∃ s', exec (.wakeEvent t src f millis env) s = .next s' ∧ ∃ v : State, v.getF
   .agreed (wakeBit src) = 1 ∧ v.ctl.mode = .standby ∧ ((v.now = max s.now t + min millis 275 * 1000000 ∧ (s' =
   v.wakeFailed 4 env ∨ s' = v.wakeFailed 5 env)) ∨ (v.now = max s.now t + millis * 1000000 ∧ ∃ lead ∈
   s.lane.inOrder, s' = v.wakeUp millis lead))) ∧
  (∀ (t : Nat) (src : Nat) (f : WakeFinding) (millis : Nat) (env : BootEnv) (s : State), s.ctl.mode = .standby →
   (s.advance t).wakes src = true → (∀ m ∈ s.lane.inOrder, m ≠ s.awake → f.selftest.get m = false) → ∃ s', exec
   (.wakeEvent t src f millis env) s = .next s' ∧ ∃ v : State, v.getF .agreed (wakeBit src) = 1 ∧ v.ctl.mode =
   .standby ∧ v.now = max s.now t + min millis 275 * 1000000 ∧ s' = v.wakeFailed 4 env) ∧
  (∀ (t : Nat) (src : Nat) (f : WakeFinding) (millis : Nat) (env : BootEnv) (s : State), (s.ctl.mode ≠ .standby ∨
   (s.advance t).wakes src = false) → exec (.wakeEvent t src f millis env) s = .next (s.advance t)) ∧
  (∀ (t : Nat) (env : BootEnv) (s : State), s.ctl.mode = .standby → ∃ s', exec (.standbyMastFault t env) s = .next
   s' ∧ ∃ u : State, s' = u.bootRun env ∧ u.ctl.mode = .boot ∧ u.ctl.on = true ∧ u.ctl.bootFrom = max s.now t ∧
   u.getF .agreed fMcRstcauseStandbyFault = 1 ∧ (∀ m, (u.mast m).mem = (s.mast m).mem.clearSram.clearDram ∧ ((u.mast
   m).powered = true ↔ m ≠ .j)) ∧ (∀ f ∈ keptThroughReset, u.getF .agreed f = s.getF .agreed f) ∧ raised u
   u.lane.active.mask evModuleReset (u.reg .agreed rMcRstcause).toNat 0) ∧
  (∀ (t : Nat) (word : List Byte) (s : State), s.ctl.on = true → (s.ctl.mode ≠ .standby ∧ s.ctl.mode ≠ .recovery) →
   (s.mast s.lane.posA).alive = true → s.ctl.bootFrom + 300000000 ≤ t → s.key.lastPollAt + 1000000000 ≤ t →
   (sealFrame (sealBytes word) = 0xA5 ∧ sealValue (sealBytes word) = sealValue s.key.sealWord) → ∃ s', exec
   (.sealPoll t word) s = .next s' ∧ s'.key.lastPoll = sealBytes word ∧ s'.key.lastPollAt = max s.now t ∧ s'.getF
   .agreed fSlSealnowValue = sealValue (sealBytes word) ∧ s'.getF .agreed fSlSealfrmFrame = sealFrame (sealBytes
   word) ∧ s'.key = { s.key with lastPoll := sealBytes word, lastPollAt := max s.now t } ∧ regsBut [(.agreed,
   rSlSealnow), (.agreed, rSlSealfrm)] s s' ∧ sameBut [.key, .regs] (s.advance t) s') ∧
  (∀ (t : Nat) (word : List Byte) (s : State), s.ctl.on = true → (s.ctl.mode ≠ .standby ∧ s.ctl.mode ≠ .recovery) →
   (s.mast s.lane.posA).alive = true → s.ctl.bootFrom + 300000000 ≤ t → s.key.lastPollAt + 1000000000 ≤ t →
   (sealFrame (sealBytes word) ≠ 0xA5 ∨ sealValue (sealBytes word) ≠ sealValue s.key.sealWord) → (sealBytes word ≠
   s.key.lastPoll ∧ (sealFrame (sealBytes word) = 0xA5 ∨ sealFrame s.key.lastPoll = 0xA5)) → ∃ s', exec (.sealPoll t
   word) s = .next s' ∧ s'.key.lastPoll = sealBytes word ∧ s'.key.lastPollAt = max s.now t ∧ s'.getF .agreed
   fSlSealnowValue = sealValue (sealBytes word) ∧ s'.getF .agreed fSlSealfrmFrame = sealFrame (sealBytes word) ∧
   s'.getF .agreed fSlKeystatSealChanged = 1 ∧ (if sealFrame (sealBytes word) = 0xA5 then raised s'
   s.lane.active.mask evSealChanged (sealValue s.key.lastPoll) (sealValue (sealBytes word)) else raised s'
   s.lane.active.mask evSealRead (sealFrame (sealBytes word)) s.lane.posA.code) ∧ s'.key =
   { s.key with lastPoll := sealBytes word, lastPollAt := max s.now t, tampered := true } ∧ regsBut [(.agreed,
   rSlSealnow), (.agreed, rSlSealfrm), (.agreed, rSlKeystat)] s s' ∧ sameBut [.key, .regs, .log] (s.advance t) s') ∧
  (∀ (t : Nat) (slot : Nat) (hash : List Byte) (s : State), s.slRole = 2 → ∃ s', exec (.appFetchServe t slot hash) s
   = .next s' ∧ s'.key = { s.key with served := some (slot, s.app.desc.isSome && s.app.hash == hash) } ∧ sameBut
   [.key] (s.advance t) s') ∧
  (∀ (t : Nat) (s : State), s.fetching = true → (match s.key.fetchAt
   with | some a => decide (a + 10000000000 ≤ max s.now t) | none => decide (s.ctl.since < s.time.lastAiLocal)) =
   true → s.getF .agreed fSlAppfetchState ≠ 3 → (s.slRole = 1 ∧ s.slMaster ≠ 0 ∧ s.slMaster ≠ s.ownSlot) → ∃ s',
   exec (.appFetchRequest t) s = .next s' ∧ s'.key =
   { s.key with fetchAt := some (max s.now t), fetchMaster := s.slMaster } ∧ s'.stay = ((s.advance t).slSend 4
   s.slMaster 0 1 s.wantedApp).stay ∧ s'.getF .agreed fSlAppfetchState = 2 ∧ s'.getF .agreed fSlAppfetchAttempts =
   min 65535 (s.getF .agreed fSlAppfetchAttempts + 1) ∧ regsBut [(.agreed, rSlAppfetch)] s s' ∧ sameBut [.key,
   .regs, .stay] (s.advance t) s') ∧
  (∀ (t : Nat) (s : State), s.fetching = true → (match s.key.fetchAt
   with | some a => decide (a + 10000000000 ≤ max s.now t) | none => decide (s.ctl.since < s.time.lastAiLocal)) =
   true → s.getF .agreed fSlAppfetchState ≠ 3 → (s.slRole ≠ 1 ∨ s.slMaster = 0 ∨ s.slMaster = s.ownSlot) → ∃ s',
   exec (.appFetchRequest t) s = .next s' ∧ s'.key =
   { s.key with fetchAt := some (max s.now t), fetchMaster := s.slMaster } ∧ s'.getF .agreed fSlAppfetchLastReason =
   1 ∧ s'.getF .agreed fSlAppfetchState = 1 ∧ raised s' s.lane.active.mask evAppFetchFailed 1 (min 65535 (s.getF
   .agreed fSlAppfetchAttempts + 1)) ∧ s'.app = s.app ∧ s'.ctl = s.ctl ∧ s'.upd = s.upd ∧ regsBut [(.agreed,
   rSlAppfetch)] s s' ∧ sameBut [.key, .regs, .log] (s.advance t) s') ∧
  (∀ (t : Nat) (refused whole : Bool) (image : List Byte) (bad : Per Bool) (f : JuryFinding) (env : BootEnv) (s :
   State), s.fetching = true → s.getF .agreed fSlAppfetchState = 2 → ∃ s', exec (.appFetchReceived t refused whole
   image bad f env) s = .next s' ∧ (refused = true → s'.getF .agreed fSlAppfetchLastReason = 2 ∧ s'.getF .agreed
   fSlAppfetchState = 1 ∧ raised s' s.lane.active.mask evAppFetchFailed 2 (s.getF .agreed fSlAppfetchAttempts) ∧
   s'.app = s.app ∧ s'.ctl = s.ctl ∧ s'.upd = s.upd ∧ regsBut [(.agreed, rSlAppfetch)] s s' ∧ sameBut [.regs, .log]
   (s.advance t) s') ∧ (refused = false ∧ (whole = false ∨ s.slMaster ≠ s.key.fetchMaster ∨ s.upd.session.isSome =
   true) → s'.getF .agreed fSlAppfetchLastReason = 3 ∧ s'.getF .agreed fSlAppfetchState = 1 ∧ raised s'
   s.lane.active.mask evAppFetchFailed 3 (s.getF .agreed fSlAppfetchAttempts) ∧ s'.app = s.app ∧ s'.ctl = s.ctl ∧
   s'.upd = s.upd ∧ regsBut [(.agreed, rSlAppfetch)] s s' ∧ sameBut [.regs, .log] (s.advance t) s') ∧ (refused =
   false ∧ ¬(whole = false ∨ s.slMaster ≠ s.key.fetchMaster ∨ s.upd.session.isSome = true) ∧ imageHash (headOf
   image) ≠ s.wantedApp → s'.getF .agreed fSlAppfetchLastReason = 4 ∧ s'.getF .agreed fSlAppfetchState = 1 ∧ raised
   s' s.lane.active.mask evAppFetchFailed 4 (s.getF .agreed fSlAppfetchAttempts) ∧ s'.app = s.app ∧ s'.ctl = s.ctl ∧
   s'.upd = s.upd ∧ regsBut [(.agreed, rSlAppfetch)] s s' ∧ sameBut [.regs, .log] (s.advance t) s') ∧ ((refused =
   false ∧ ¬(whole = false ∨ s.slMaster ≠ s.key.fetchMaster ∨ s.upd.session.isSome = true) ∧ imageHash (headOf
   image) = s.wantedApp) → (((s.advance t).putF .agreed fSlAppfetchState 3).writeContainer image).allWritten = false
   → s'.upd.session = none ∧ s'.getF .agreed fSlAppfetchState = 1 ∧ ∃ e ∈ s'.log.due, e.code = evAppFetchFailed) ∧
   ((refused = false ∧ ¬(whole = false ∨ s.slMaster ≠ s.key.fetchMaster ∨ s.upd.session.isSome = true) ∧ imageHash
   (headOf image) = s.wantedApp) → (((s.advance t).putF .agreed fSlAppfetchState 3).writeContainer image).allWritten
   = true → ((((s.advance t).putF .agreed fSlAppfetchState 3).writeContainer image).readback bad false).getF .agreed
   fUpStatPhase = 4 → (s.lane.isolated.masts ≠ [] ∨ (f.selftest = true ∧ f.turn = true)) → ∃ u : State, s' =
   u.bootRun env ∧ u.ctl.mode = .boot ∧ u.ctl.on = true ∧ u.getF .agreed fMcRstcauseImage = 1)) ∧
  (∀ (t : Nat) (whole : Bool) (image : List Byte) (bad : Per Bool) (f : JuryFinding) (env : BootEnv) (s : State),
   s.fetching = true → s.getF .agreed fSlAppfetchState = 2 → ∃ s', exec (.appFetchReceived t true whole image bad f
   env) s = .next s' ∧ (true = true → s'.getF .agreed fSlAppfetchLastReason = 2 ∧ s'.getF .agreed fSlAppfetchState =
   1 ∧ raised s' s.lane.active.mask evAppFetchFailed 2 (s.getF .agreed fSlAppfetchAttempts) ∧ s'.app = s.app ∧
   s'.ctl = s.ctl ∧ s'.upd = s.upd ∧ regsBut [(.agreed, rSlAppfetch)] s s' ∧ sameBut [.regs, .log] (s.advance t) s')) ∧
  (∀ (t : Nat) (image : List Byte) (bad : Per Bool) (f : JuryFinding) (env : BootEnv) (s : State), s.fetching = true
   → s.getF .agreed fSlAppfetchState = 2 → ∃ s', exec (.appFetchReceived t false false image bad f env) s = .next s'
   ∧ (true = true → s'.getF .agreed fSlAppfetchLastReason = 3 ∧ s'.getF .agreed fSlAppfetchState = 1 ∧ raised s'
   s.lane.active.mask evAppFetchFailed 3 (s.getF .agreed fSlAppfetchAttempts) ∧ s'.app = s.app ∧ s'.ctl = s.ctl ∧
   s'.upd = s.upd ∧ regsBut [(.agreed, rSlAppfetch)] s s' ∧ sameBut [.regs, .log] (s.advance t) s'))

/-- For every state in which the selectors pass frames. frameDigestDeposit: a voting mast's frame whose item tag is
right joins its unit's queue with the digest of its bytes; on an interface in PRP the frame joins the queues of both
planes, padded and with the trailer of its plane and the mast's next sequence number; one whose tag is wrong joins
no queue and raises TAG_EXIT_FAIL. frameLaunch: the owner's frame at the head of a unit leaves whole and is counted
good where every other deposit has the digest of its bytes; it is cut and counted in LM_TXABORT where it was damaged
or the one other digest differs; where the two others agree against it, the owner no longer votes and OWNER_DEPOSED
is raised; where one of the two agrees, the frame leaves and the mast of the other digest no longer votes; at a
network port the frame that leaves is counted in NP_TXOK, and one whose launch time is past is discarded and counted
in NP_TXLATE. frameUnconfirmedTimeout: a frame of the owner that no other mast confirmed within 100 us or by its
launch time is dropped and counted. Other units stay as they were. Completion: for every state and operands that
meet the stated conditions on them alone, exec answers the next state of the own effect of frameDigestDeposit
(FRAME_DIGEST_DEPOSIT), frameLaunch (FRAME_LAUNCH), frameUnconfirmedTimeout (FRAME_UNCONFIRMED_TIMEOUT). -/
def Obligations.TransmitUnits : Prop :=
  (∀ (t : Nat) (m : Mast) (u : Nat) (f : TxFrame) (s : State), (2 ≤ u ∧ u < 8) → s.lane.units.length = 8 → (s.votes
   m = true ∧ (s.mast m).alive = true) → s.lane.mute = false → f.item.tagOk = true → (∀ g ∈ (s.unit u).gone,
   g.awaits m f = false) → ∃ s', exec (.frameDigestDeposit t m u f) s = .next s' ∧ s'.lane =
   { s.lane with units := s.lane.units.set u { s.unit u with queue := deposit m f (max s.now t) (s.unit u).queue } }
   ∧ sameBut [.lane] (s.advance t) s') ∧
  (∀ (t : Nat) (m : Mast) (u : Nat) (f : TxFrame) (g : SentFrame) (s : State), (2 ≤ u ∧ u < 8) → s.lane.units.length
   = 8 → (s.votes m = true ∧ (s.mast m).alive = true) → s.lane.mute = false → f.item.tagOk = true → ((s.unit u).gone
   = [g] ∧ g.awaits m f = true) → (g.discarded = true ∨ g.passed = some (frameDigest f.bytes) ∧ ∀ o ∈ s.voters, o ≠
   m → o ≠ g.owner → g.deposits.get o = none) → ∃ s', exec (.frameDigestDeposit t m u f) s = .next s' ∧ (s'.unit
   u).queue = (s.unit u).queue ∧ (∀ v, v ≠ u → s'.unit v = s.unit v) ∧ s'.lane.active = s.lane.active ∧ sameBut
   [.lane] (s.advance t) s') ∧
  (∀ (t : Nat) (m : Mast) (f : TxFrame) (s : State), s.lane.units.length = 8 → (s.votes m = true ∧ (s.mast m).alive
   = true) → s.lane.mute = false → f.item.tagOk = true → (1 ≤ f.port ∧ f.port ≤ 4 ∧ s.net.portEnabled f.port = true
   ∧ f.portOnly = false) → ((s.net.iface f.port).mode = 1 ∧ isPtp f.item.value = false) → ((s.unit 0).gone = [] ∧
   (s.unit 1).gone = []) → ∃ s', exec (.frameDigestDeposit t m (planeOf f.port - 1) f) s = .next s' ∧ (∀ k < 2,
   (s'.unit k).queue = deposit m
   { f with port := ifaceOf f.port + 1 + 2 * k,
            bytes := withTrailer (padFrame f.item.value) (s.prpNext m (ifaceOf f.port)) (k + 1) }
   (max s.now t) (s.unit k).queue) ∧ s'.prpNext m (ifaceOf f.port) = (s.prpNext m (ifaceOf f.port) + 1) % 65536 ∧ (∀
   v, 2 ≤ v → s'.unit v = s.unit v) ∧ (∀ o, o ≠ m → s'.net.prpOut.get o = s.net.prpOut.get o) ∧ sameBut [.lane,
   .net] (s.advance t) s') ∧
  (∀ (t : Nat) (m : Mast) (u : Nat) (f : TxFrame) (s : State), (2 ≤ u ∧ u < 8) → (s.votes m = true ∧ (s.mast
   m).alive = true) → s.lane.mute = false → f.item.tagOk = false → (s.unit u).owner ≠ m → s.intake.exitFails = [] →
   ∃ s', exec (.frameDigestDeposit t m u f) s = .next s' ∧ raised s' (2 ^ m.code) evTagExitFail f.item.source m.code
   ∧ s'.lane = s.lane ∧ sameBut [.log, .intake] (s.advance t) s') ∧
  (∀ (t : Nat) (u port : Nat) (x : UnitFrame) (f : TxFrame) (s : State), (2 ≤ u ∧ u < 8) → s.lane.units.length = 8 →
   s.lane.mute = false → s.owned u = true → (s.nextFrame u port = some x ∧ x.copies.get (s.unit u).owner = some f) →
   (∀ d ∈ s.otherDeposits u x, d.2 = frameDigest f.bytes) → ∃ s', exec (.frameLaunch t u port false) s = .next s' ∧
   (s'.unit u).sentGood = (s.unit u).sentGood + 1 ∧ (s'.unit u).sentBad = (s.unit u).sentBad ∧ (∃ w ∈ (s'.unit
   u).wire, w.frame = x ∧ max s.now t < w.upTo) ∧ (s'.unit u).owner = (s.unit u).owner ∧ (s'.unit u).queue = (s.unit
   u).queue.filter (fun y => !(y.is x.frame.seq x.frame.port x.frame.cls)) ∧ (∀ v, v ≠ u → s'.unit v = s.unit v) ∧
   s'.lane.active = s.lane.active ∧ sameBut [.lane] (s.advance t) s') ∧
  (∀ (t : Nat) (u port : Nat) (damaged : Bool) (x : UnitFrame) (f : TxFrame) (o : Mast) (d : Nat) (s : State), (2 ≤
   u ∧ u < 8) → s.lane.units.length = 8 → s.lane.mute = false → s.owned u = true → (s.nextFrame u port = some x ∧
   x.copies.get (s.unit u).owner = some f) → s.otherDeposits u x = [(o, d)] → (damaged = true ∨ d ≠ frameDigest
   f.bytes) → ∃ s', exec (.frameLaunch t u port damaged) s = .next s' ∧ (s'.unit u).sentBad = (s.unit u).sentBad + 1
   ∧ (s'.unit u).sentGood = (s.unit u).sentGood ∧ (s'.unit u).wire = (s.unit u).wire ∧ (s'.unit u).queue = (s.unit
   u).queue.filter (fun y => !(y.is x.frame.seq x.frame.port x.frame.cls)) ∧ s'.getF .agreed
   (fLmTxabortMismatch.plus (4 * u)) = min 65535 (s.getF .agreed (fLmTxabortMismatch.plus (4 * u)) + 1) ∧ (∀ v, v ≠
   u → s'.unit v = s.unit v) ∧ regsBut [(.agreed, rLmTxabort + 4 * u)] s s' ∧ sameBut [.lane, .regs] (s.advance t)
   s') ∧
  (∀ (t : Nat) (u port : Nat) (x : UnitFrame) (f : TxFrame) (o p : Mast) (d e : Nat) (s : State), (2 ≤ u ∧ u < 8) →
   s.lane.units.length = 8 → s.lane.mute = false → s.owned u = true → (s.nextFrame u port = some x ∧ x.copies.get
   (s.unit u).owner = some f) → s.otherDeposits u x = [(o, d), (p, e)] → (d ≠ frameDigest f.bytes ∧ e ≠ frameDigest
   f.bytes) → (s.lane.lane = .triplex ∧ s.ctl.mode = .run ∧ s.lane.inOrder.length = 3 ∧ s.lane.inOrder.contains
   (s.unit u).owner = true) → ∃ s', exec (.frameLaunch t u port false) s = .next s' ∧ s'.votes (s.unit u).owner =
   false ∧ raised s' s.lane.active.mask evOwnerDeposed u (s.unit u).owner.code ∧ s'.lane.lane = .duplex) ∧
  (∀ (t : Nat) (u port : Nat) (x : UnitFrame) (f : TxFrame) (o p : Mast) (d e : Nat) (s : State), (2 ≤ u ∧ u < 8) →
   s.lane.units.length = 8 → s.lane.mute = false → s.owned u = true → (s.nextFrame u port = some x ∧ x.copies.get
   (s.unit u).owner = some f) → s.otherDeposits u x = [(o, d), (p, e)] → (d = frameDigest f.bytes ∧ e ≠ frameDigest
   f.bytes) → (s.lane.lane = .triplex ∧ s.ctl.mode = .run ∧ s.lane.inOrder.length = 3 ∧ s.lane.inOrder.contains p =
   true) → ∃ s', exec (.frameLaunch t u port false) s = .next s' ∧ (s'.unit u).sentGood = (s.unit u).sentGood + 1 ∧
   s'.votes p = false ∧ s'.votes (s.unit u).owner = true ∧ s'.lane.lane = .duplex) ∧
  (∀ (t : Nat) (u port : Nat) (x : UnitFrame) (f : TxFrame) (s : State), (u < 2 ∧ 1 ≤ x.frame.port ∧ x.frame.port ≤
   4) → s.lane.units.length = 8 → s.lane.mute = false → s.owned u = true → (s.nextFrame u port = some x ∧
   x.copies.get (s.unit u).owner = some f) → (s.missedLaunch u port = none ∧ (s.advance t).missedLaunch u port =
   none ∧ (s.advance t).nextFrame u port = some x) → (∀ d ∈ s.otherDeposits u x, d.2 = frameDigest f.bytes) → ∃ s',
   exec (.frameLaunch t u port false) s = .next s' ∧ (s'.unit u).sentGood = (s.unit u).sentGood + 1 ∧ (∃ w ∈
   (s'.unit u).wire, w.frame = x) ∧ (s'.unit u).queue = (s.unit u).queue.filter (fun y => !(y.is x.frame.seq
   x.frame.port x.frame.cls)) ∧ s'.getF .agreed (npF fNpTxokCount x.frame.port) = (s.getF .agreed (npF fNpTxokCount
   x.frame.port) + 1) % 4294967296 ∧ (∀ v, v ≠ u → s'.unit v = s.unit v) ∧ s'.lane.active = s.lane.active ∧ regsBut
   [(.agreed, (npF fNpTxokCount x.frame.port).addr)] s s' ∧ sameBut [.lane, .regs, .time, .panel] (s.advance t) s') ∧
  (∀ (t : Nat) (u port kind : Nat) (x : UnitFrame) (s : State), (u < 2 ∧ 1 ≤ x.frame.port ∧ x.frame.port ≤ 4) →
   s.lane.units.length = 8 → s.lane.mute = false → s.owned u = true → (s.advance t).missedLaunch u port = some (x,
   kind) → ∃ s', exec (.frameLaunch t u port false) s = .next s' ∧ (s'.unit u).sentGood = (s.unit u).sentGood ∧
   (s'.unit u).queue = (s.unit u).queue.filter (fun y => !(y.is x.frame.seq x.frame.port x.frame.cls)) ∧ s'.getF
   .agreed (npF (if kind = 1 then fNpTxlateLate else fNpTxlateGate) x.frame.port) = min 65535 (s.getF .agreed (npF
   (if kind = 1 then fNpTxlateLate else fNpTxlateGate) x.frame.port) + 1) ∧ (∀ v, v ≠ u → s'.unit v = s.unit v) ∧
   regsBut [(.agreed, (npF fNpTxlateLate x.frame.port).addr)] s s' ∧ sameBut [.lane, .regs, .log] (s.advance t) s') ∧
  (∀ (t : Nat) (u seq port cls : Nat) (x : UnitFrame) (s : State), (u < 8 ∧ s.lane.units.length = 8) → (s.unit
   u).queue.find? (fun y => y.is seq port cls) = some x → ((x.copies.get (s.unit u).owner).isSome = true ∧
   s.otherDeposits u x = []) → (x.formed + 100000 ≤ t ∨ (x.frame.launch.any (fun l => decide (l ≤ (s.advance
   t).launchClock u))) = true) → ∃ s', exec (.frameUnconfirmedTimeout t u seq port cls) s = .next s' ∧ (s'.unit
   u).queue = (s.unit u).queue.filter (fun y => !(y.is x.frame.seq x.frame.port x.frame.cls)) ∧ (s'.unit u).sentGood
   = (s.unit u).sentGood ∧ s'.getF .agreed (fLmTxabortUnconfirmed.plus (4 * u)) = min 65535 (s.getF .agreed
   (fLmTxabortUnconfirmed.plus (4 * u)) + 1) ∧ (∀ v, v ≠ u → s'.unit v = s.unit v) ∧ regsBut [(.agreed, rLmTxabort +
   4 * u)] s s' ∧ sameBut [.lane, .regs, .log] (s.advance t) s')

/-- For every mast whose intake runs: an item of a field source whose tag is right, not held, not past and within the
8192 items is staged after the others with the time of its arrival; one of a pooled source is staged with a buffer
of the pool that takes its bytes; one whose tag is wrong, or whose source and sequence are held already, is dropped,
counted in IT_ARRIVAL.TAGFAIL and raises TAG_ARRIVAL_FAIL; one beyond the 8192 is dropped, counted and raises
INTAKE_STAGE_FULL. proposalSend, due after 10 us, with 120 tags or at a CLOSE, carries the tags not yet proposed
under the next PSEQ. proposalReceived adds the message's tags to what the peer has proposed, notes its CLOSE, and
notes what a gap in PSEQ left out; a message that is not whole is ignored. proposalRerequest sends a kept message
again. No other mast's intake changes. Completion: for every state and operands that meet the stated conditions on
them alone, exec answers the next state of the own effect of itemArrival (ITEM_ARRIVAL), proposalSend
(PROPOSAL_SEND), proposalReceived (PROPOSAL_RECEIVED), proposalRerequest (PROPOSAL_REREQUEST). -/
def Obligations.IntakeArrivalAndProposals : Prop :=
  (∀ (t : Nat) (m : Mast) (i : Item) (s : State), s.intakes m = true → (s.ctl.mode = .stop ∨ s.ctl.mode = .run ∨
   s.ctl.mode = .hold ∨ s.ctl.mode = .service) → i.tagOk = true → (0x0101 ≤ i.source ∧ i.source ≤ 0x0180) →
   (s.holdsSame m i = false ∧ s.intake.isPast i = false ∧ (s.intake.masts.get m).staged.length < 8192) → ∃ s', exec
   (.itemArrival t m i) s = .next s' ∧ s'.intake =
   { s.intake with masts := s.intake.masts.set m { (s.intake.masts.get m) with staged := (s.intake.masts.get m).staged ++ [⟨i, 0, max s.now t, false, none⟩] } }
   ∧ sameBut [.intake] (s.advance t) s') ∧
  (∀ (t : Nat) (m : Mast) (i : Item) (b : Nat) (rest : List Nat) (s : State), s.intakes m = true → (s.ctl.mode =
   .stop ∨ s.ctl.mode = .run ∨ s.ctl.mode = .hold ∨ s.ctl.mode = .service) → i.tagOk = true → (0x2000 ≤ i.source ∧
   i.source < 0x3000 ∧ validSource i.source = true) → (s.holdsSame m i = false ∧ s.intake.isPast i = false ∧
   (s.intake.masts.get m).staged.length < 8192) → (s.queue.get m).free = b :: rest → ∃ s', exec (.itemArrival t m i)
   s = .next s' ∧ s'.intake =
   { s.intake with masts := s.intake.masts.set m { (s.intake.masts.get m) with staged := (s.intake.masts.get m).staged ++ [⟨i, 0, max s.now t, false, some b⟩] } }
   ∧ (s'.queue.get m).free = rest ∧ b ∈ (s'.queue.get m).inUse ∧ (∀ o, o ≠ m → s'.queue.get o = s.queue.get o ∧
   s'.mast o = s.mast o) ∧ s'.ctl = s.ctl ∧ s'.log = s.log) ∧
  (∀ (t : Nat) (m : Mast) (i : Item) (s : State), s.intakes m = true → (s.ctl.mode = .stop ∨ s.ctl.mode = .run ∨
   s.ctl.mode = .hold ∨ s.ctl.mode = .service) → (i.tagOk = false ∨ s.holdsSame m i = true) → i.source < 0x1000 →
   s.log.limits = [] → ∃ s', exec (.itemArrival t m i) s = .next s' ∧ s'.intake = s.intake ∧ s'.getF (.mast m)
   fItArrivalTagfail = min 65535 (s.getF (.mast m) fItArrivalTagfail + 1) ∧ s'.getF .agreed fItErrkindKind = 3 ∧
   s'.getF .agreed fItLasterrSource = i.source % 65536 ∧ raised s' (2 ^ m.code) evTagArrivalFail i.source m.code ∧
   regsBut [(.mast m, rItArrival), (.agreed, rItLasterr), (.agreed, rItErrkind)] s s' ∧ sameBut [.regs, .log]
   (s.advance t) s') ∧
  (∀ (t : Nat) (m : Mast) (i : Item) (s : State), s.intakes m = true → (s.ctl.mode = .stop ∨ s.ctl.mode = .run ∨
   s.ctl.mode = .hold ∨ s.ctl.mode = .service) → i.tagOk = true → i.source < 0x1000 → (s.holdsSame m i = false ∧
   s.intake.isPast i = false ∧ 8192 ≤ (s.intake.masts.get m).staged.length) → ∃ s', exec (.itemArrival t m i) s =
   .next s' ∧ s'.intake = s.intake ∧ s'.getF (.mast m) fItArrivalStagefull = min 65535 (s.getF (.mast m)
   fItArrivalStagefull + 1) ∧ s'.getF .agreed fItErrkindKind = 7 ∧ s'.getF .agreed fItLasterrSource = i.source %
   65536 ∧ raised s' (2 ^ m.code) evIntakeStageFull m.code (s'.getF (.mast m) fItArrivalStagefull) ∧ regsBut [(.mast
   m, rItArrival), (.agreed, rItLasterr), (.agreed, rItErrkind)] s s' ∧ sameBut [.regs, .log] (s.advance t) s') ∧
  (∀ (t : Nat) (m : Mast) (i : Item) (s : State), s.intakes m = true → (s.ctl.mode = .stop ∨ s.ctl.mode = .run ∨
   s.ctl.mode = .hold ∨ s.ctl.mode = .service) → i.tagOk = true → i.source < 0x1000 → (s.holdsSame m i = false ∧
   s.intake.isPast i = true) → exec (.itemArrival t m i) s = .next (s.advance t)) ∧
  (∀ (t : Nat) (m : Mast) (close : Bool) (s : State), s.proposes m = true → (close = true ∨ 120 ≤
   (((s.intake.masts.get m).staged.filter fun e => !e.proposed).take 120).length ∨ (s.intake.masts.get
   m).lastProposal + 10000 ≤ t) → ∃ s', exec (.proposalSend t m close) s = .next s' ∧ s'.intake =
   { s.intake with masts := s.intake.masts.set m { (s.intake.masts.get m) with staged := markProposed 120 (s.intake.masts.get m).staged,
                                                                               pseqOut := ((s.intake.masts.get m).pseqOut + 1) % 65536,
                                                                               lastProposal := max s.now t,
                                                                               sent := (((s.intake.masts.get m).pseqOut, proposalBytes (s.senderByte m) ((if close then s.time.aiNumber else s.time.aiNumber + 1) % 4294967296) (s.intake.masts.get m).pseqOut close ((((s.intake.masts.get m).staged.filter fun e => !e.proposed).take 120).map fun e => e.item.tag)) :: (s.intake.masts.get m).sent).take 128 } }
   ∧ sameBut [.intake] (s.advance t) s') ∧
  (∀ (t : Nat) (m : Mast) (bytes : List Byte) (s : State), s.triadRuns m = true → proposalOk m bytes = true →
   fieldAt bytes 8 2 = (s.intake.masts.get m).pseqIn.get (Mast.ofCode (fieldAt bytes 1 1)) → ((Mast.ofCode (fieldAt
   bytes 1 1)), fieldAt bytes 8 2) ∉ (s.intake.masts.get m).missingMsg → ∃ s', exec (.proposalReceived t m bytes) s
   = .next s' ∧ s'.intake =
   { s.intake with masts := s.intake.masts.set m { (s.intake.masts.get m) with heard := (s.intake.masts.get m).heard.set (Mast.ofCode (fieldAt bytes 1 1)) ((s.intake.masts.get m).heard.get (Mast.ofCode (fieldAt bytes 1 1)) ++ (proposalTags bytes).map (fun g => (g, fieldAt bytes 4 4))),
                                                                               closed := if bitOf (fieldAt bytes 10 1) 0 = true then (s.intake.masts.get m).closed.set (Mast.ofCode (fieldAt bytes 1 1)) (some (fieldAt bytes 4 4)) else (s.intake.masts.get m).closed,
                                                                               pseqIn := (s.intake.masts.get m).pseqIn.set (Mast.ofCode (fieldAt bytes 1 1)) ((fieldAt bytes 8 2 + 1) % 65536) } }
   ∧ sameBut [.intake] (s.advance t) s') ∧
  (∀ (t : Nat) (m : Mast) (bytes : List Byte) (k : Nat) (s : State), s.triadRuns m = true → proposalOk m bytes =
   true → (fieldAt bytes 8 2 = ((s.intake.masts.get m).pseqIn.get (Mast.ofCode (fieldAt bytes 1 1)) + k) % 65536 ∧
   (s.intake.masts.get m).pseqIn.get (Mast.ofCode (fieldAt bytes 1 1)) < 65536 ∧ k < 32768) → ((Mast.ofCode (fieldAt
   bytes 1 1)), fieldAt bytes 8 2) ∉ (s.intake.masts.get m).missingMsg → ∃ s', exec (.proposalReceived t m bytes) s
   = .next s' ∧ s'.intake =
   { s.intake with masts := s.intake.masts.set m { (s.intake.masts.get m) with heard := (s.intake.masts.get m).heard.set (Mast.ofCode (fieldAt bytes 1 1)) ((s.intake.masts.get m).heard.get (Mast.ofCode (fieldAt bytes 1 1)) ++ (proposalTags bytes).map (fun g => (g, fieldAt bytes 4 4))),
                                                                               closed := if bitOf (fieldAt bytes 10 1) 0 = true then (s.intake.masts.get m).closed.set (Mast.ofCode (fieldAt bytes 1 1)) (some (fieldAt bytes 4 4)) else (s.intake.masts.get m).closed,
                                                                               pseqIn := (s.intake.masts.get m).pseqIn.set (Mast.ofCode (fieldAt bytes 1 1)) ((fieldAt bytes 8 2 + 1) % 65536),
                                                                               missingMsg := (s.intake.masts.get m).missingMsg ++ (List.range k).map (fun j => ((Mast.ofCode (fieldAt bytes 1 1)), ((s.intake.masts.get m).pseqIn.get (Mast.ofCode (fieldAt bytes 1 1)) + j) % 65536)) } }
   ∧ sameBut [.intake] (s.advance t) s') ∧
  (∀ (t : Nat) (m : Mast) (bytes : List Byte) (s : State), proposalOk m bytes = false → exec (.proposalReceived t m
   bytes) s = .next (s.advance t)) ∧
  (∀ (t : Nat) (m : Mast) (pseq : Nat) (e : Nat × List Byte) (s : State), s.proposes m = true → (s.intake.masts.get
   m).sent.find? (fun e => e.1 == pseq) = some e → ∃ s', exec (.proposalRerequest t m pseq) s = .next s' ∧ s'.intake
   =
   { s.intake with masts := s.intake.masts.set m { (s.intake.masts.get m) with sent := (e :: (s.intake.masts.get m).sent.filter (fun x => x != e)).take 128 } }
   ∧ sameBut [.intake] (s.advance t) s')

/-- For every state with a release pending: 4 us after the instant a peer without CLOSE for it is counted late in
IT_PEER and raises PROPOSAL_LATE, and no item becomes agreed by that; a holder that is asked keeps its staged copy
and sends it; a fill of the right tag is staged as filled in a buffer of the pool and counted, and a wrong one is
asked of the next holder; a mast whose fills have not come after 40 us, or exceed 8 KiB, raises INTAKE_FILL_FAIL and
takes itself out with DETAIL 0x0123; when nothing waits the release completes: the agreed items are the released
ones, IT_RELSTAT shows none pending on every voting mast, IT_RELCNT has counted, and the input image starts with the
number of this instant. Completion: for every state and operands that meet the stated conditions on them alone, exec
answers the next state of the own effect of closeTimeout (CLOSE_TIMEOUT), fillReceived (FILL_RECEIVED), fillDeadline
(FILL_DEADLINE), fillRequest (FILL_REQUEST), intakeRelease (INTAKE_RELEASE). -/
def Obligations.IntakeFillsAndRelease : Prop :=
  (∀ (t : Nat) (obs peer : Mast) (k at' : Nat) (s : State), (s.intake.instant = some (k, at') ∧
   s.intake.releasePending = true) → (s.triadRuns obs = true ∧ obs ≠ peer) → (s.intake.masts.get obs).closed.get
   peer ≠ some (k % 4294967296) → at' + 4000 ≤ t → ∃ s', exec (.closeTimeout t obs peer) s = .next s' ∧ raised s' (2
   ^ obs.code) evProposalLate peer.code (k % 4294967296) ∧ s'.getF (.mast obs) fItPeerLate = min 65535 (s.getF
   (.mast obs) fItPeerLate + 1) ∧ (s'.intake.masts.get obs).closed.get peer = some (k % 4294967296) ∧ (∀ i, i ∈
   s'.intake.agreed → i ∈ s.intake.agreed)) ∧
  (∀ (t : Nat) (obs peer : Mast) (k at' : Nat) (s : State), (s.intake.instant = some (k, at') ∧
   s.intake.releasePending = true) → (s.triadRuns obs = true ∧ obs ≠ peer) → (s.intake.masts.get obs).closed.get
   peer ≠ some (k % 4294967296) → at' + 4000 ≤ t → s.intake.agreed = [] → ∃ s', exec (.closeTimeout t obs peer) s =
   .next s' ∧ raised s' (2 ^ obs.code) evProposalLate peer.code (k % 4294967296) ∧ s'.getF (.mast obs) fItPeerLate =
   min 65535 (s.getF (.mast obs) fItPeerLate + 1) ∧ (s'.intake.masts.get obs).closed.get peer = some (k %
   4294967296) ∧ (∀ i, i ∈ s'.intake.agreed → i ∈ s.intake.agreed) ∧ s'.intake =
   { s.intake with masts := s.intake.masts.set obs { s.intake.masts.get obs with closed := (s.intake.masts.get obs).closed.set peer (some (k % 4294967296)) } }
   ∧ regsBut [(.mast obs, rItPeer)] s s' ∧ sameBut [.intake, .regs, .log] (s.advance t) s') ∧
  (∀ (t : Nat) (m : Mast) (i : Item) (f : FillNeed) (b : Nat) (rest : List Nat) (s : State), s.triadRuns m = true →
   (s.intake.masts.get m).fills.find? (fun f => f.source == i.source && f.seq == i.seq && !f.done && f.holders !=
   []) = some f → (({ i with filled := true } : Item).tagOk = true ∧ i.crc = f.crc) → (s.queue.get m).free = b ::
   rest → ∃ s', exec (.fillReceived t m i) s = .next s' ∧ s'.intake =
   { s.intake with masts := s.intake.masts.set m { (s.intake.masts.get m) with fills := (s.intake.masts.get m).fills.map (fun h => if h = f then { f with done := true } else h),
                                                                               staged := (s.intake.masts.get m).staged ++ [⟨{ i with filled := true }, 0, max s.now t, true, some b⟩] } }
   ∧ (s'.queue.get m).free = rest ∧ b ∈ (s'.queue.get m).inUse ∧ s'.getF (.mast m) fItFillItems = min 65535 (s.getF
   (.mast m) fItFillItems + 1) ∧ (∀ o, o ≠ m → s'.mast o = s.mast o) ∧ s'.ctl = s.ctl) ∧
  (∀ (t : Nat) (m : Mast) (i : Item) (f : FillNeed) (s : State), s.triadRuns m = true → (s.intake.masts.get
   m).fills.find? (fun f => f.source == i.source && f.seq == i.seq && !f.done && f.holders != []) = some f →
   (({ i with filled := true } : Item).tagOk = false ∨ i.crc ≠ f.crc) → ∃ s', exec (.fillReceived t m i) s = .next
   s' ∧ s'.intake =
   { s.intake with masts := s.intake.masts.set m { (s.intake.masts.get m) with fills := (s.intake.masts.get m).fills.map (fun h => if h = f then { f with holders := f.holders.tail } else h) } }
   ∧ sameBut [.intake] (s.advance t) s') ∧
  (∀ (t : Nat) (m : Mast) (k at' : Nat) (s : State), (s.intake.instant = some (k, at') ∧ s.intake.releasePending =
   true) → (s.triadRuns m = true ∧ s.votes m = true) → (s.intake.masts.get m).fillFailed = true → (at' + 40000 ≤ t ∨
   8192 < (s.intake.masts.get m).fillBytes) → ∃ s', exec (.fillDeadline t m) s = .next s' ∧ raised s' (2 ^ m.code)
   evIntakeFillFail m.code (s.intake.masts.get m).fillBytes ∧ wentSilent s s' m 0x0C ∧ fieldAt (recordOf s' m) 20 4
   = 0x0123 ∧ s'.getF .agreed fItErrkindKind = 8 ∧ s'.intake = s.intake ∧ sameBut [.regs, .log, .masts, .mem, .lane,
   .time] (s.advance t) s') ∧
  (∀ (t : Nat) (m : Mast) (peer : Mast) (source seq : Nat) (e : Staged) (s : State), s.triadRuns m = true →
   (s.intake.masts.get m).staged.find? (fun e => e.item.source == source && e.item.seq == seq) = some e → ∃ s', exec
   (.fillRequest t m peer source seq) s = .next s' ∧ s'.intake =
   { s.intake with masts := s.intake.masts.set m { (s.intake.masts.get m) with fillOut := some (peer, e.item) } } ∧
   sameBut [.intake] (s.advance t) s') ∧
  (∀ (t : Nat) (k at' : Nat) (s : State), (s.intake.instant = some (k, at') ∧ s.intake.releasePending = true) → (∀ m
   ∈ s.voters, (s.intake.masts.get m).fillFailed = false) → (s.ctl.mode = .stop ∨ s.ctl.mode = .run ∨ s.ctl.mode =
   .hold ∨ s.ctl.mode = .service) → ∃ s', exec (.intakeRelease t) s = .next s' ∧ s'.intake.releasePending = false ∧
   s'.intake.released = s.intake.agreed ∧ s'.intake.agreed = [] ∧ s'.app.released = some k ∧ s'.app.releasedAt = max
   s.now t ∧ (∃ h ∈ s'.app.image, h.1 = 0 ∧ fieldAt h.2 0 8 = k % 2 ^ 64 ∧ fieldAt h.2 0x14 1 = s.ctl.mode.code) ∧
   (∀ m, s.votes m = true → s.triadRuns m = true → s'.getF (.mast m) fItRelstatPending = 0 ∧ s'.getF (.mast m)
   fItRelstatItems = min 65535 s.intake.agreed.length) ∧ s'.getF .agreed fItRelcntCount = (s.getF .agreed
   fItRelcntCount + 1) % 4294967296 ∧ s'.ctl = s.ctl ∧ s'.lane.inForce = s.lane.inForce)

/-- For every state. rackOutboundAccess: through an open enabled window one transaction a piece joins the bridge and the
next access number is taken; an access within the window width forms one item of source 0xE200 + w with its address,
kind, count and bytes; a second mast's access deposits at the waiting transaction, which is requested once its owner
has deposited; through a disabled window, a closed bridge or across 4 bytes it is a bus error counted in NOWIN.
rackTransactionComplete, with the selector passing the owner: an acknowledged read or non-posted write forms the
answer item of its window with the data read and result 0, a posted write none; no acknowledge forms result 1 and
wrong parity of a read result 2, each counted and raised as BB_OUT_FAIL. rackTargetRetry counts a retry; 20 us after
the request it and rackTransactionTimeout end the transaction with result 3, and rackUnconfirmedTimeout ends one
unconfirmed for 100 us with result 4. readAnswerTimeout: a read with no agreed answer 20 us after it ended completes
with a bus error on every waiting triad. Completion: for every state and operands that meet the stated conditions on
them alone, exec answers the next state of the own effect of rackOutboundAccess (RACK_OUTBOUND_ACCESS),
rackTransactionComplete (RACK_TRANSACTION_COMPLETE), rackTargetRetry (RACK_TARGET_RETRY), rackTransactionTimeout
(RACK_TRANSACTION_TIMEOUT), rackUnconfirmedTimeout (RACK_UNCONFIRMED_TIMEOUT), readAnswerTimeout
(READ_ANSWER_TIMEOUT). -/
def Obligations.RackOutbound : Prop :=
  (∀ (t : Nat) (m : Mast) (tr : Triad) (addr size w : Nat) (write : Bool) (value : Nat) (s : State), s.triadRuns m =
   true → (regionOf addr = .bridge ∧ w = (addr - 0x80000000) / 0x04000000) → (s.bridgeOpen = true ∧ s.getF .agreed
   (owinF fBbOwinCfgEnable w) = 1) → (addr % 4 + size ≤ 4 ∧ size ≠ 0) → (∀ x ∈ s.bridge.done ++ s.bridge.txs,
   x.window ≠ w ∨ x.deposits.get m = true) → s.owinWidth w ≤ addr % s.owinWidth w + size → ∃ s', exec
   (.rackOutboundAccess t m tr addr size write value) s = .next s' ∧ s'.bridge.txs.length = s.bridge.txs.length +
   (pieces (s.owinWidth w) (addr % 0x04000000) size).length ∧ s'.bridge =
   { s.bridge with txs := s'.bridge.txs, nextAccess := s.bridge.nextAccess + 1, seqs := s'.bridge.seqs } ∧ (∀ o,
   (s'.mast o).mem = (s.mast o).mem) ∧ regsBut [(.agreed, rBbStat)] s s' ∧ sameBut [.bridge, .masts, .regs]
   (s.advance t) s') ∧
  (∀ (t : Nat) (m : Mast) (tr : Triad) (addr size w : Nat) (write : Bool) (value : Nat) (s : State), s.triadRuns m =
   true → (regionOf addr = .bridge ∧ w = (addr - 0x80000000) / 0x04000000) → (s.bridgeOpen = true ∧ s.getF .agreed
   (owinF fBbOwinCfgEnable w) = 1) → (addr % 4 + size ≤ 4 ∧ size ≠ 0) → (∀ x ∈ s.bridge.done ++ s.bridge.txs,
   x.window ≠ w ∨ x.deposits.get m = true) → addr % s.owinWidth w + size ≤ s.owinWidth w → (∀ x ∈ s.bridge.txs,
   x.waiting = Per.all none) → ∃ s', exec (.rackOutboundAccess t m tr addr size write value) s = .next s' ∧
   s'.bridge.txs.map OutTx.item = s.bridge.txs.map OutTx.item ++ [Item.form (0xE200 + w) (s.bridge.nextSeq w) 0
   (outValue (s.owinBase w + lowestRule (s.getF .agreed (owinF fBbOwinCfgRule w) == 1) (addr % 0x04000000) size) (if
   write then (if s.getF .agreed (owinF fBbOwinCfgPosted w) = 1 then 2 else 1) else 0) size (if write then natLe
   size value else []))] ∧ s'.bridge.nextSeq w = (s.bridge.nextSeq w + 1) % 65536 ∧ (s'.mast m).answer tr = (if (if
   write then (if s.getF .agreed (owinF fBbOwinCfgPosted w) = 1 then 2 else 1) else 0) = 2 ∧ (s.bridge.txs.filter
   (fun x => x.kind == 2)).length < 32 then .done 0 else .idle) ∧ (∀ o, o ≠ m → s'.mast o = s.mast o) ∧
   s'.bridge.done = s.bridge.done ∧ sameBut [.bridge, .masts, .regs] (s.advance t) s') ∧
  (∀ (t : Nat) (m : Mast) (tr : Triad) (addr size w : Nat) (write : Bool) (value : Nat) (x : OutTx) (rest : List
   OutTx) (s : State), s.triadRuns m = true → (regionOf addr = .bridge ∧ w = (addr - 0x80000000) / 0x04000000) →
   (s.bridgeOpen = true ∧ s.getF .agreed (owinF fBbOwinCfgEnable w) = 1) → (addr % 4 + size ≤ 4 ∧ size ≠ 0) → addr %
   s.owinWidth w + size ≤ s.owinWidth w → (s.bridge.done = [] ∧ s.bridge.txs = x :: rest) → (x.window = w ∧
   x.item.value = (outValue (s.owinBase w + lowestRule (s.getF .agreed (owinF fBbOwinCfgRule w) == 1) (addr %
   0x04000000) size) (if write then (if s.getF .agreed (owinF fBbOwinCfgPosted w) = 1 then 2 else 1) else 0) size
   (if write then natLe size value else [])) ∧ x.deposits.get m = false ∧ x.req = none) → (x ∉ rest ∧ ∀ y ∈ x ::
   rest, y.kind ≠ 2) → (s.owned 6 = true ∧ s.votes m = true ∧ (s.unit 6).owner ≠ m ∧ x.deposits.get (s.unit 6).owner
   = true) → ∃ s', exec (.rackOutboundAccess t m tr addr size write value) s = .next s' ∧ s'.bridge.txs =
   { x with deposits := x.deposits.set m true, waiting := x.waiting.set m (some tr), req := some (max s.now t) } ::
   rest ∧ s'.masts = (s.answer m tr .idle).masts ∧ s'.getF .agreed fBbStatOutPend = 1 ∧ s'.bridge.nextSeq w =
   s.bridge.nextSeq w ∧ s'.bridge.done = [] ∧ regsBut [(.agreed, rBbStat)] s s' ∧ sameBut [.bridge, .masts, .regs]
   (s.advance t) s') ∧
  (∀ (t : Nat) (m : Mast) (tr : Triad) (addr size w : Nat) (write : Bool) (value : Nat) (s : State), s.triadRuns m =
   true → (regionOf addr = .bridge ∧ w = (addr - 0x80000000) / 0x04000000) → (s.bridgeOpen = false ∨ s.getF .agreed
   (owinF fBbOwinCfgEnable w) ≠ 1 ∨ 4 < addr % 4 + size) → ∃ s', exec (.rackOutboundAccess t m tr addr size write
   value) s = .next s' ∧ s'.masts = (s.answer m tr .busError).masts ∧ s'.bridge = s.bridge ∧ s'.getF .agreed
   fBbOuterrNowin = (if s.voters.head? = some m then min 255 (s.getF .agreed fBbOuterrNowin + 1) else s.getF .agreed
   fBbOuterrNowin) ∧ regsBut [(.agreed, rBbOuterr)] s s' ∧ sameBut [.masts, .regs] (s.advance t) s') ∧
  (∀ (t : Nat) (x : OutTx) (rest : List OutTx) (ad : Nat) (parityOk : Bool) (s : State), s.bridge.txs = x :: rest →
   (x.req.isSome = true ∧ s.owned 6 = true) → (x.kind = 0 ∧ parityOk = true ∨ x.kind = 1) → ∃ s', exec
   (.rackTransactionComplete t true ad parityOk) s = .next s' ∧ s'.intake =
   { s.intake with fan := s.intake.fan ++ [Item.form (0x3000 + x.window) (s.intake.nextSeq (0x3000 + x.window)) (s.advance t).moduleTime (answerValue (if x.kind = 0 then readBack (s.getF .agreed (owinF fBbOwinCfgRule x.window) == 1) x ad else 0) 0 x.kind x.raddr x.item.tag)],
                   entrySeq := s'.intake.entrySeq }
   ∧ s'.bridge = { s.bridge with txs := s'.bridge.txs, done := s.bridge.done ++ [{ x with ended := max s.now t }] }
   ∧ s'.bridge.txs.map OutTx.item = rest.map OutTx.item ∧ (∀ o, (s'.mast o).mem = (s.mast o).mem) ∧ regsBut
   [(.agreed, rBbStat), (.agreed, rBbOuterr)] s s' ∧ sameBut [.bridge, .intake, .masts, .regs, .log] (s.advance t)
   s') ∧
  (∀ (t : Nat) (x : OutTx) (rest : List OutTx) (ad : Nat) (parityOk : Bool) (s : State), s.bridge.txs = x :: rest →
   (x.req.isSome = true ∧ s.owned 6 = true) → x.kind = 2 → ∃ s', exec (.rackTransactionComplete t true ad parityOk)
   s = .next s' ∧ s'.bridge.txs.map OutTx.item = rest.map OutTx.item ∧ s'.bridge =
   { s.bridge with txs := s'.bridge.txs } ∧ (∀ o, (s'.mast o).mem = (s.mast o).mem) ∧ regsBut [(.agreed, rBbStat)] s
   s' ∧ sameBut [.bridge, .masts, .regs] (s.advance t) s') ∧
  (∀ (t : Nat) (x : OutTx) (rest : List OutTx) (ad : Nat) (parityOk : Bool) (s : State), s.bridge.txs = x :: rest →
   (x.req.isSome = true ∧ s.owned 6 = true) → x.kind ≠ 2 → s.log.limits = [] → ∃ s', exec (.rackTransactionComplete
   t false ad parityOk) s = .next s' ∧ s'.intake =
   { s.intake with fan := s.intake.fan ++ [Item.form (0x3000 + x.window) (s.intake.nextSeq (0x3000 + x.window)) (s.advance t).moduleTime (answerValue 0 1 x.kind x.raddr x.item.tag)],
                   entrySeq := s'.intake.entrySeq }
   ∧ s'.bridge = { s.bridge with txs := s'.bridge.txs, done := s.bridge.done ++ [{ x with ended := max s.now t }] }
   ∧ s'.bridge.txs.map OutTx.item = rest.map OutTx.item ∧ s'.getF .agreed fBbOuterrTarget = min 255 (s.getF .agreed
   fBbOuterrTarget + 1) ∧ raised s' s.lane.active.mask evBbOutFail (x.window * 256 + 1) x.raddr ∧ (∀ o, (s'.mast
   o).mem = (s.mast o).mem) ∧ regsBut [(.agreed, rBbStat), (.agreed, rBbOuterr)] s s' ∧ sameBut [.bridge, .intake,
   .masts, .regs, .log] (s.advance t) s') ∧
  (∀ (t : Nat) (x : OutTx) (rest : List OutTx) (ad : Nat) (parityOk : Bool) (s : State), s.bridge.txs = x :: rest →
   (x.req.isSome = true ∧ s.owned 6 = true) → x.kind = 2 → s.log.limits = [] → ∃ s', exec (.rackTransactionComplete
   t false ad parityOk) s = .next s' ∧ s'.intake =
   { s.intake with fan := s.intake.fan ++ [Item.form (0x3000 + x.window) (s.intake.nextSeq (0x3000 + x.window)) (s.advance t).moduleTime (answerValue 0 1 x.kind x.raddr x.item.tag)],
                   entrySeq := s'.intake.entrySeq }
   ∧ s'.bridge = { s.bridge with txs := s'.bridge.txs } ∧ s'.bridge.txs.map OutTx.item = rest.map OutTx.item ∧
   raised s' s.lane.active.mask evBbOutFail (x.window * 256 + 1) x.raddr ∧ (∀ o, (s'.mast o).mem = (s.mast o).mem) ∧
   regsBut [(.agreed, rBbStat), (.agreed, rBbOuterr)] s s' ∧ sameBut [.bridge, .intake, .masts, .regs, .log]
   (s.advance t) s') ∧
  (∀ (t : Nat) (x : OutTx) (rest : List OutTx) (ad : Nat) (s : State), s.bridge.txs = x :: rest → (x.req.isSome =
   true ∧ s.owned 6 = true) → x.kind = 0 → s.log.limits = [] → ∃ s', exec (.rackTransactionComplete t true ad false)
   s = .next s' ∧ s'.intake =
   { s.intake with fan := s.intake.fan ++ [Item.form (0x3000 + x.window) (s.intake.nextSeq (0x3000 + x.window)) (s.advance t).moduleTime (answerValue 0 2 x.kind x.raddr x.item.tag)],
                   entrySeq := s'.intake.entrySeq }
   ∧ s'.bridge = { s.bridge with txs := s'.bridge.txs, done := s.bridge.done ++ [{ x with ended := max s.now t }] }
   ∧ s'.bridge.txs.map OutTx.item = rest.map OutTx.item ∧ s'.getF .agreed fBbOuterrParity = min 255 (s.getF .agreed
   fBbOuterrParity + 1) ∧ raised s' s.lane.active.mask evBbOutFail (x.window * 256 + 2) x.raddr ∧ (∀ o, (s'.mast
   o).mem = (s.mast o).mem) ∧ regsBut [(.agreed, rBbStat), (.agreed, rBbOuterr)] s s' ∧ sameBut [.bridge, .intake,
   .masts, .regs, .log] (s.advance t) s') ∧
  (∀ (t : Nat) (x : OutTx) (rest : List OutTx) (a : Nat) (s : State), s.bridge.txs = x :: rest → x.req = some a →
   max s.now t < a + 20000 → ∃ s', exec (.rackTargetRetry t) s = .next s' ∧ s'.getF .agreed fBbRetryReceived = min
   65535 (s.getF .agreed fBbRetryReceived + 1) ∧ s'.bridge = s.bridge ∧ regsBut [(.agreed, rBbRetry)] s s' ∧ sameBut
   [.regs] (s.advance t) s') ∧
  (∀ (t : Nat) (x : OutTx) (rest : List OutTx) (a : Nat) (s : State), s.bridge.txs = x :: rest → (x.req = some a ∧
   x.kind ≠ 2) → a + 20000 ≤ t → s.log.limits = [] → ∃ s', exec (.rackTargetRetry t) s = .next s' ∧ s'.getF .agreed
   fBbRetryReceived = min 65535 (s.getF .agreed fBbRetryReceived + 1) ∧ s'.intake =
   { s.intake with fan := s.intake.fan ++ [Item.form (0x3000 + x.window) (s.intake.nextSeq (0x3000 + x.window)) (s.advance t).moduleTime (answerValue 0 3 x.kind x.raddr x.item.tag)],
                   entrySeq := s'.intake.entrySeq }
   ∧ s'.bridge = { s.bridge with txs := s'.bridge.txs, done := s.bridge.done ++ [{ x with ended := max s.now t }] }
   ∧ s'.bridge.txs.map OutTx.item = rest.map OutTx.item ∧ s'.getF .agreed fBbOuterrTimeout = min 255 (s.getF .agreed
   fBbOuterrTimeout + 1) ∧ raised s' s.lane.active.mask evBbOutFail (x.window * 256 + 3) x.raddr ∧ (∀ o, (s'.mast
   o).mem = (s.mast o).mem) ∧ regsBut [(.agreed, rBbStat), (.agreed, rBbOuterr), (.agreed, rBbRetry)] s s' ∧ sameBut
   [.bridge, .intake, .masts, .regs, .log] (s.advance t) s') ∧
  (∀ (t : Nat) (x : OutTx) (rest : List OutTx) (a : Nat) (s : State), s.bridge.txs = x :: rest → (x.req = some a ∧
   x.kind ≠ 2) → a + 20000 ≤ t → s.log.limits = [] → ∃ s', exec (.rackTransactionTimeout t) s = .next s' ∧ s'.intake
   =
   { s.intake with fan := s.intake.fan ++ [Item.form (0x3000 + x.window) (s.intake.nextSeq (0x3000 + x.window)) (s.advance t).moduleTime (answerValue 0 3 x.kind x.raddr x.item.tag)],
                   entrySeq := s'.intake.entrySeq }
   ∧ s'.bridge = { s.bridge with txs := s'.bridge.txs, done := s.bridge.done ++ [{ x with ended := max s.now t }] }
   ∧ s'.bridge.txs.map OutTx.item = rest.map OutTx.item ∧ s'.getF .agreed fBbOuterrTimeout = min 255 (s.getF .agreed
   fBbOuterrTimeout + 1) ∧ raised s' s.lane.active.mask evBbOutFail (x.window * 256 + 3) x.raddr ∧ (∀ o, (s'.mast
   o).mem = (s.mast o).mem) ∧ regsBut [(.agreed, rBbStat), (.agreed, rBbOuterr)] s s' ∧ sameBut [.bridge, .intake,
   .masts, .regs, .log] (s.advance t) s') ∧
  (∀ (t : Nat) (x : OutTx) (rest : List OutTx) (s : State), s.bridge.txs = x :: rest → (x.req = none ∧ x.kind ≠ 2) →
   x.formed + 100000 ≤ t → s.log.limits = [] → ∃ s', exec (.rackUnconfirmedTimeout t) s = .next s' ∧ s'.intake =
   { s.intake with fan := s.intake.fan ++ [Item.form (0x3000 + x.window) (s.intake.nextSeq (0x3000 + x.window)) (s.advance t).moduleTime (answerValue 0 4 x.kind x.raddr x.item.tag)],
                   entrySeq := s'.intake.entrySeq }
   ∧ s'.bridge = { s.bridge with txs := s'.bridge.txs, done := s.bridge.done ++ [{ x with ended := max s.now t }] }
   ∧ s'.bridge.txs.map OutTx.item = rest.map OutTx.item ∧ s'.getF .agreed fBbOuterrTimeout = min 255 (s.getF .agreed
   fBbOuterrTimeout + 1) ∧ raised s' s.lane.active.mask evBbOutFail (x.window * 256 + 4) x.raddr ∧ (∀ o, (s'.mast
   o).mem = (s.mast o).mem) ∧ regsBut [(.agreed, rBbStat), (.agreed, rBbOuterr)] s s' ∧ sameBut [.bridge, .intake,
   .masts, .regs, .log] (s.advance t) s') ∧
  (∀ (t : Nat) (x : OutTx) (rest : List OutTx) (a : Nat) (s : State), s.bridge.txs = x :: rest → (x.req = some a ∧
   x.kind = 2) → a + 20000 ≤ t → s.log.limits = [] → ∃ s', exec (.rackTransactionTimeout t) s = .next s' ∧ s'.intake
   =
   { s.intake with fan := s.intake.fan ++ [Item.form (0x3000 + x.window) (s.intake.nextSeq (0x3000 + x.window)) (s.advance t).moduleTime (answerValue 0 3 x.kind x.raddr x.item.tag)],
                   entrySeq := s'.intake.entrySeq }
   ∧ s'.bridge = { s.bridge with txs := s'.bridge.txs } ∧ s'.getF .agreed fBbOuterrTimeout = min 255 (s.getF .agreed
   fBbOuterrTimeout + 1) ∧ raised s' s.lane.active.mask evBbOutFail (x.window * 256 + 3) x.raddr ∧ (∀ o, (s'.mast
   o).mem = (s.mast o).mem) ∧ regsBut [(.agreed, rBbStat), (.agreed, rBbOuterr)] s s' ∧ sameBut [.bridge, .intake,
   .masts, .regs, .log] (s.advance t) s') ∧
  (∀ (t : Nat) (tag : Nat) (x : OutTx) (s : State), s.bridge.done.find? (fun x => x.item.tag == tag &&
   x.agreed.isNone && decide (x.ended + 20000 ≤ max s.now t)) = some x → s.bridge.done.find? (fun x => x.item.tag ==
   tag) = some x → x.last = true → (s.bridge.answersTo tag).length ≤ 1 → ∃ s', exec (.readAnswerTimeout t tag) s =
   .next s' ∧ (∀ o tr, x.waiting.get o = some tr → s'.mast o = (s.answer o tr .busError).mast o) ∧ (∀ o,
   x.waiting.get o = none → s'.mast o = s.mast o) ∧ s'.bridge.answers = s.bridge.answers.filter (fun a => fieldAt
   a.item.value 12 8 != tag) ∧ s'.bridge.done = s.bridge.done.map (fun u => if u = x then
   { u with agreed := some (0, 1) } else u) ∧ s'.bridge.txs = s.bridge.txs ∧ (∀ o, (s'.mast o).mem = (s.mast o).mem)
   ∧ sameBut [.bridge, .masts] (s.advance t) s') ∧
  (∀ (t : Nat) (tag : Nat) (x : OutTx) (s : State), s.bridge.done.find? (fun x => x.item.tag == tag &&
   x.agreed.isNone && decide (x.ended + 20000 ≤ max s.now t)) = some x → s.bridge.done.find? (fun x => x.item.tag ==
   tag) = some x → x.last = false → ∃ s', exec (.readAnswerTimeout t tag) s = .next s' ∧ s'.masts = s.masts ∧
   (s'.bridge.accessOf x.access).failed = true ∧ s'.bridge.done = s.bridge.done.map (fun u => if u = x then
   { u with agreed := some (0, 1) } else u) ∧ s'.bridge.txs = s.bridge.txs ∧ sameBut [.bridge, .regs, .log]
   (s.advance t) s')

/-- For every state. rackInboundWrite and rackInboundRead: an address in no window, or a bridge that is not selected, is
not selected; before the bridge is open, with an outbound transaction pending or 64 writes held, a retry is given
and counted; a write with wrong parity is an error and raises BB_INBOUND_PARITY; otherwise the write is
acknowledged, counted and forms one item of its window, with the offset, count and bytes enabled, and the read is
acknowledged with the word the voting masts expose and counted, or is an error counted and raised as
BB_EXPOSE_MISMATCH where two masts differ. bbPwepop takes the oldest entry of the error queue into its registers and
every voting mast reads the word, 0 of an empty queue. exposeCommit notes the commit of one mast; exposeCopyDone
ends the copy, shows its sequence and copies the committed pages. intLinePoll samples the lines and forms an item of
source 0x3040 where an unmasked one changed. sidebandPoll forms an item for each side-band word that changed and
counts failures. Completion: for every state and operands that meet the stated conditions on them alone, exec
answers the next state of the own effect of rackInboundWrite (RACK_INBOUND_WRITE), rackInboundRead
(RACK_INBOUND_READ), bbPwepop (BB_PWEPOP), exposeCommit (EXPOSE_COMMIT), exposeCopyDone (EXPOSE_COPY_DONE),
intLinePoll (INT_LINE_POLL), sidebandPoll (SIDEBAND_POLL). -/
def Obligations.RackInboundAndQueues : Prop :=
  (∀ (t : Nat) (raddr be ad w : Nat) (l : List (Nat × Byte)) (s : State), s.inWindow raddr = some w → (s.inSelected
   = true ∧ (s.advance t).inSelected = true) → (s.inRetry = false ∧ s.bridge.inbuf < 64) → (l = inBytes (s.getF
   .agreed (owinF fBbIwinCfgRule w) == 1) (raddr % 4096) be ad ∧ l ≠ []) → ∃ s', exec (.rackInboundWrite t raddr be
   ad true) s = .next s' ∧ s'.bridge = { s.bridge with lastIn := .ack 0, inbuf := s.bridge.inbuf + 1 } ∧ s'.getF
   .agreed fBbIncntWrites = min 65535 (s.getF .agreed fBbIncntWrites + 1) ∧ s'.intake =
   { s.intake with fan := s.intake.fan ++ [Item.form (0x3010 + w) (s.intake.nextSeq (0x3010 + w)) (s.advance t).moduleTime (natLe 2 ((l.map Prod.fst).head?.getD 0) ++ natLe 1 l.length ++ natLe 1 0 ++ (l.map Prod.snd ++ [0, 0, 0, 0]).take 4)],
                   entrySeq := s'.intake.entrySeq }
   ∧ regsBut [(.agreed, rBbIncnt)] s s' ∧ sameBut [.bridge, .regs, .intake] (s.advance t) s') ∧
  (∀ (t : Nat) (raddr be ad : Nat) (parityOk : Bool) (s : State), (s.inWindow raddr = none ∨ s.inSelected = false ∧
   (s.advance t).inSelected = false) → ∃ s', exec (.rackInboundWrite t raddr be ad parityOk) s = .next s' ∧
   s'.bridge = { s.bridge with lastIn := .notSelected } ∧ sameBut [.bridge] (s.advance t) s') ∧
  (∀ (t : Nat) (raddr be ad w : Nat) (parityOk : Bool) (s : State), s.inWindow raddr = some w → (s.inSelected = true
   ∧ (s.advance t).inSelected = true) → (s.inRetry = true ∨ 64 ≤ s.bridge.inbuf) → ∃ s', exec (.rackInboundWrite t
   raddr be ad parityOk) s = .next s' ∧ s'.bridge = { s.bridge with lastIn := .retry } ∧ s'.getF .agreed
   fBbRetryGiven = min 65535 (s.getF .agreed fBbRetryGiven + 1) ∧ regsBut [(.agreed, rBbRetry)] s s' ∧ sameBut
   [.bridge, .regs] (s.advance t) s') ∧
  (∀ (t : Nat) (raddr be ad w : Nat) (s : State), s.inWindow raddr = some w → (s.inSelected = true ∧ (s.advance
   t).inSelected = true) → (s.inRetry = false ∧ s.bridge.inbuf < 64) → s.log.limits = [] → ∃ s', exec
   (.rackInboundWrite t raddr be ad false) s = .next s' ∧ s'.bridge = { s.bridge with lastIn := .error } ∧ raised s'
   s.lane.active.mask evBbInboundParity w (raddr % 4096) ∧ sameBut [.bridge, .log] (s.advance t) s') ∧
  (∀ (t : Nat) (raddr w : Nat) (v : Word) (s : State), s.inWindow raddr = some w → (s.inSelected = true ∧ (s.advance
   t).inSelected = true) → (s.inRetry = false ∧ (s.bridge.copying.all (fun c => !bitOf c.1 w)) = true) → s.exposed
   (4096 * w + raddr % 4096 / 4 * 4) = some v → ∃ s', exec (.rackInboundRead t raddr) s = .next s' ∧ s'.bridge =
   { s.bridge with lastIn := .ack (onBus (s.getF .agreed (owinF fBbIwinCfgRule w) == 1) v) } ∧ s'.getF .agreed
   fBbIncntReads = min 65535 (s.getF .agreed fBbIncntReads + 1) ∧ regsBut [(.agreed, rBbIncnt)] s s' ∧ sameBut
   [.bridge, .regs] (s.advance t) s') ∧
  (∀ (t : Nat) (raddr : Nat) (s : State), (s.inWindow raddr = none ∨ s.inSelected = false ∧ (s.advance t).inSelected
   = false) → ∃ s', exec (.rackInboundRead t raddr) s = .next s' ∧ s'.bridge =
   { s.bridge with lastIn := .notSelected } ∧ sameBut [.bridge] (s.advance t) s') ∧
  (∀ (t : Nat) (raddr w : Nat) (s : State), s.inWindow raddr = some w → (s.inSelected = true ∧ (s.advance
   t).inSelected = true) → (s.inRetry = true ∨ (s.bridge.copying.any (fun c => bitOf c.1 w)) = true) → ∃ s', exec
   (.rackInboundRead t raddr) s = .next s' ∧ s'.bridge = { s.bridge with lastIn := .retry } ∧ s'.getF .agreed
   fBbRetryGiven = min 65535 (s.getF .agreed fBbRetryGiven + 1) ∧ regsBut [(.agreed, rBbRetry)] s s' ∧ sameBut
   [.bridge, .regs] (s.advance t) s') ∧
  (∀ (t : Nat) (raddr w : Nat) (s : State), s.inWindow raddr = some w → (s.inSelected = true ∧ (s.advance
   t).inSelected = true) → (s.inRetry = false ∧ s.bridge.copying = none) → s.exposed (4096 * w + raddr % 4096 / 4 *
   4) = none → s.log.limits = [] → ∃ s', exec (.rackInboundRead t raddr) s = .next s' ∧ s'.bridge =
   { s.bridge with lastIn := .error } ∧ s'.getF .agreed fBbExpstatMismatch = min 65535 (s.getF .agreed
   fBbExpstatMismatch + 1) ∧ raised s' s.lane.active.mask evBbExposeMismatch w (raddr % 4096) ∧ regsBut [(.agreed,
   rBbExpstat)] s s' ∧ sameBut [.bridge, .regs, .log] (s.advance t) s') ∧
  (∀ (t : Nat) (tr : Triad) (e : PweEntry) (rest : List PweEntry) (s : State), s.bridge.pwe = e :: rest → (e.window
   < 16 ∧ e.result < 8) → ∃ s', exec (.bbPwepop t tr) s = .next s' ∧ s'.bridge = { s.bridge with pwe := rest } ∧
   s'.getF .agreed fBbPwepopWindow = e.window ∧ s'.getF .agreed fBbPwepopResult = e.result ∧ s'.getF .agreed
   fBbPwepopValid = 1 ∧ s'.getF .agreed fBbPweaddrValue = e.raddr % 4294967296 ∧ s'.getF .agreed fBbPwetagloValue =
   e.tag % 4294967296 ∧ s'.getF .agreed fBbPwetaghiValue = e.tag / 4294967296 % 4294967296 ∧ s'.getF .agreed
   fBbPwesecValue = e.time / 1000000000 % 4294967296 ∧ s'.getF .agreed fBbPwensValue = e.time % 1000000000 ∧ (∀ m,
   s'.mast m = if s.votes m && s.triadRuns m then (s.answer m tr (.done (s'.reg .agreed rBbPwepop).toNat)).mast m
   else s.mast m) ∧ regsBut [(.agreed, rBbPwepop), (.agreed, rBbPwestat), (.agreed, rBbPweaddr), (.agreed,
   rBbPwetaglo), (.agreed, rBbPwetaghi), (.agreed, rBbPwesec), (.agreed, rBbPwens)] s s' ∧ sameBut [.bridge, .regs,
   .masts] (s.advance t) s') ∧
  (∀ (t : Nat) (tr : Triad) (s : State), s.bridge.pwe = [] → ∃ s', exec (.bbPwepop t tr) s = .next s' ∧ s'.reg
   .agreed rBbPwepop = 0 ∧ (∀ m, s'.mast m = if s.votes m && s.triadRuns m then (s.answer m tr (.done 0)).mast m
   else s.mast m) ∧ regsBut [(.agreed, rBbPwepop)] s s' ∧ sameBut [.regs, .masts] (s.advance t) s') ∧
  (∀ (t : Nat) (m : Mast) (mask seq : Nat) (s : State), s.triadRuns m = true → ∃ s', exec (.exposeCommit t m mask
   seq) s = .next s' ∧ s'.bridge =
   { s.bridge with commits := s.bridge.commits.set m (some (mask % 16, seq % 65536)) } ∧ sameBut [.bridge]
   (s.advance t) s') ∧
  (∀ (t : Nat) (c : Nat × Nat) (s : State), s.bridge.copying = some c → c.2 < 65536 → ∃ s', exec (.exposeCopyDone t)
   s = .next s' ∧ s'.bridge.copying = none ∧ s'.getF .agreed fBbExpstatSeq = c.2 ∧ (∀ m, s'.bridge.commits.get m =
   if s.bridge.commits.get m = some c then none else s.bridge.commits.get m) ∧ (∀ m, s'.bridge.live.get m = if
   s.votes m then s.copiedLive c.1 m else s.bridge.live.get m) ∧ s'.bridge =
   { s.bridge with copying := none, live := s'.bridge.live, commits := s'.bridge.commits } ∧ regsBut [(.agreed,
   rBbExpstat)] s s' ∧ sameBut [.bridge, .regs] (s.advance t) s') ∧
  (∀ (t : Nat) (levels : Nat) (s : State), s.bridgeOpen = true → ((BitVec.ofNat 8 levels ^^^ BitVec.ofNat 8
   s.bridge.intSample) &&& BitVec.ofNat 8 (s.getF .agreed fBbCtrlIntMask)) ≠ 0 → ∃ s', exec (.intLinePoll t levels)
   s = .next s' ∧ s'.bridge = { s.bridge with intSample := levels % 256 } ∧ s'.intake =
   { s.intake with fan := s.intake.fan ++ [Item.form 0x3040 (s.intake.nextSeq 0x3040) (s.advance t).moduleTime [BitVec.ofNat 8 levels, BitVec.ofNat 8 levels ^^^ BitVec.ofNat 8 s.bridge.intSample, 0, 0]],
                   entrySeq := s'.intake.entrySeq }
   ∧ sameBut [.bridge, .intake] (s.advance t) s') ∧
  (∀ (t : Nat) (levels : Nat) (s : State), s.bridgeOpen = true → ((BitVec.ofNat 8 levels ^^^ BitVec.ofNat 8
   s.bridge.intSample) &&& BitVec.ofNat 8 (s.getF .agreed fBbCtrlIntMask)) = 0 → ∃ s', exec (.intLinePoll t levels)
   s = .next s' ∧ s'.bridge = { s.bridge with intSample := levels % 256 } ∧ sameBut [.bridge] (s.advance t) s') ∧
  (∀ (t : Nat) (value result : Nat) (s : State), (s.bridgeOpen = true ∧ 1 ≤ s.bridge.nSb) →
   ((s.bridge.sideband.find? (fun e => e.1 == 0)).elim (0, 0) (fun e => e.2)) ≠ (if result = 0 then value %
   4294967296 else 0, result) → ∃ s', exec (.sidebandPoll t [(value, result)]) s = .next s' ∧
   s'.bridge.sideband.find? (fun e => e.1 == 0) = some (0, if result = 0 then value % 4294967296 else 0, result) ∧
   s'.bridge = { s.bridge with sideband := s'.bridge.sideband, sbSeq := (s.bridge.sbSeq + 1) % 65536 } ∧ s'.intake =
   { s.intake with fan := s.intake.fan ++ [Item.form 0x3020 (s.intake.nextSeq 0x3020) (s.advance t).moduleTime (natLe 4 (if result = 0 then value % 4294967296 else 0) ++ natLe 1 result ++ natLe 3 0)],
                   entrySeq := s'.intake.entrySeq }
   ∧ (result = 0 → s'.regs = s.regs) ∧ (result = 1 → s'.getF .agreed fBbOuterrTarget = min 255 (s.getF .agreed
   fBbOuterrTarget + 1)) ∧ regsBut [(.agreed, rBbOuterr)] s s' ∧ sameBut [.bridge, .intake, .regs] (s.advance t) s') ∧
  (∀ (t : Nat) (results : List (Nat × Nat)) (s : State), s.bridgeOpen = true → (results.length ≤ s.bridge.nSb ∧
   s.bridge.nSb ≤ 32) → (∀ k < results.length, (s.bridge.sideband.find? (fun e => e.1 == k)).elim (0, 0) (fun e =>
   e.2) ≠ (if (results.getD k (0, 0)).2 = 0 then (results.getD k (0, 0)).1 % 4294967296 else 0, (results.getD k (0,
   0)).2)) → ∃ s', exec (.sidebandPoll t results) s = .next s' ∧ s'.intake.fan.map Item.source = s.intake.fan.map
   Item.source ++ (List.range results.length).map (fun k => 0x3020 + k) ∧ s'.bridge.sbSeq = (s.bridge.sbSeq +
   results.length) % 65536 ∧ regsBut [(.agreed, rBbOuterr)] s s' ∧ sameBut [.bridge, .intake, .regs] (s.advance t)
   s') ∧
  (∀ (t : Nat) (value : Nat) (s : State), (s.bridgeOpen = true ∧ 1 ≤ s.bridge.nSb) → ((s.bridge.sideband.find? (fun
   e => e.1 == 0)).elim (0, 0) (fun e => e.2)) = (value % 4294967296, 0) → ∃ s', exec (.sidebandPoll t [(value, 0)])
   s = .next s' ∧ s'.bridge = { s.bridge with sbSeq := (s.bridge.sbSeq + 1) % 65536 } ∧ sameBut [.bridge] (s.advance
   t) s')

/-- For every state. ptpMessage: a Sync of the grandmaster followed, on the port it is followed on, with a measured
offset, takes UNSET to ACQUIRING with TIME_ACQUIRED; in ACQUIRING an offset within 1 us counts, and the 16th leads
to LOCKED with TIME_LOCKED, another restarts the count; HOLDOVER and REFUSED become LOCKED where the offset lies
within the step limit; an offset beyond it leads from LOCKED, and from ACQUIRING after the acquisition, to REFUSED
with TIME_STEP_REFUSED; an Announce is noted and its grandmaster followed if it is the best, with GM_CHANGE where
another was followed. timeSourceLost: three Sync intervals or three TIME frames without one, or no announcing master
left, take LOCKED or REFUSED to HOLDOVER with TIME_HOLDOVER. tbOffsetWrite: an agreed offset within the step limit
replaces what is still slewed, one beyond it leads to REFUSED; with PROTOCOL 0 or in STANDBY nothing is applied.
forcedStep in SERVICE or STOP moves every powered timebase by the difference to the target, raises TIME_STEPPED,
sets ACQ_DONE and leaves UNSET and ACQUIRING, any other state becoming LOCKED; initialAcquisition does so once in
UNSET or ACQUIRING and leaves the state. Completion: for every state and operands that meet the stated conditions on
them alone, exec answers the next state of the own effect of ptpMessage (PTP_MESSAGE), timeSourceLost
(TIME_SOURCE_LOST), tbOffsetWrite (TB_OFFSET_WRITE), forcedStep (FORCED_STEP), initialAcquisition
(INITIAL_ACQUISITION). -/
def Obligations.TimeServo : Prop :=
  (∀ (t : Nat) (gm port proto : Nat) (off : Int) (s : State), (s.ctl.mode ≠ .boot ∧ s.ctl.mode ≠ .standby ∧ s.voters
   ≠ []) → (s.time.protocol = proto ∧ (proto = 1 ∨ proto = 2)) → s.getF .agreed fSlStatRole ≠ 1 → (s.time.roles[port
   - 1]? = some 1 ∨ s.time.roles[port - 1]? = some 3) → (s.time.accept = [] ∨ s.time.accept.contains gm = true) →
   (s.time.gm = some gm ∧ s.time.gmPort = port) → s.servo = tbAcquiring → (off.natAbs ≤ 1000 ∧ (off.natAbs ≤
   s.stepLimit ∨ s.getF .agreed fTbStatAcqDone = 0)) → s.time.within < 15 → ∃ s', exec (.ptpMessage t gm port proto
   (.sync (some off))) s = .next s' ∧ s'.time =
   { (s.advance t).time with syncAt := max s.now t, following := true, within := s.time.within + 1 } ∧ s'.servo =
   tbAcquiring ∧ s'.getF .agreed fTbStatSrc = proto ∧ regsBut [(.agreed, rTbStat)] s s' ∧ sameBut [.time, .regs]
   (s.advance t) s') ∧
  (∀ (t : Nat) (gm port proto : Nat) (off : Int) (s : State), (s.ctl.mode ≠ .boot ∧ s.ctl.mode ≠ .standby ∧ s.voters
   ≠ []) → (s.time.protocol = proto ∧ (proto = 1 ∨ proto = 2)) → s.getF .agreed fSlStatRole ≠ 1 → (s.time.roles[port
   - 1]? = some 1 ∨ s.time.roles[port - 1]? = some 3) → (s.time.accept = [] ∨ s.time.accept.contains gm = true) →
   (s.time.gm = some gm ∧ s.time.gmPort = port) → s.servo = tbAcquiring → (off.natAbs ≤ 1000 ∧ (off.natAbs ≤
   s.stepLimit ∨ s.getF .agreed fTbStatAcqDone = 0)) → 15 ≤ s.time.within → ∃ s', exec (.ptpMessage t gm port proto
   (.sync (some off))) s = .next s' ∧ s'.time =
   { (s.advance t).time with syncAt := max s.now t, following := true, within := s.time.within + 1,
                             heldFrom := none }
   ∧ s'.servo = tbLocked ∧ raised s' s.lane.active.mask evTimeLocked proto (clampArg off) ∧ s'.getF .agreed
   fTbStatSrc = proto ∧ regsBut [(.agreed, rTbStat)] s s' ∧ sameBut [.time, .regs, .log] (s.advance t) s') ∧
  (∀ (t : Nat) (gm port proto : Nat) (off : Int) (s : State), (s.ctl.mode ≠ .boot ∧ s.ctl.mode ≠ .standby ∧ s.voters
   ≠ []) → (s.time.protocol = proto ∧ (proto = 1 ∨ proto = 2)) → s.getF .agreed fSlStatRole ≠ 1 → (s.time.roles[port
   - 1]? = some 1 ∨ s.time.roles[port - 1]? = some 3) → (s.time.accept = [] ∨ s.time.accept.contains gm = true) →
   (s.time.gm = some gm ∧ s.time.gmPort = port) → s.servo = tbAcquiring → (1000 < off.natAbs ∧ (off.natAbs ≤
   s.stepLimit ∨ s.getF .agreed fTbStatAcqDone = 0)) → ∃ s', exec (.ptpMessage t gm port proto (.sync (some off))) s
   = .next s' ∧ s'.time = { (s.advance t).time with syncAt := max s.now t, following := true, within := 0 } ∧
   s'.servo = tbAcquiring ∧ s'.getF .agreed fTbStatSrc = proto ∧ regsBut [(.agreed, rTbStat)] s s' ∧ sameBut [.time,
   .regs] (s.advance t) s') ∧
  (∀ (t : Nat) (gm port proto : Nat) (off : Int) (s : State), (s.ctl.mode ≠ .boot ∧ s.ctl.mode ≠ .standby ∧ s.voters
   ≠ []) → (s.time.protocol = proto ∧ (proto = 1 ∨ proto = 2)) → s.getF .agreed fSlStatRole ≠ 1 → (s.time.roles[port
   - 1]? = some 1 ∨ s.time.roles[port - 1]? = some 3) → (s.time.accept = [] ∨ s.time.accept.contains gm = true) →
   (s.time.gm = some gm ∧ s.time.gmPort = port) → s.servo = tbUnset → ∃ s', exec (.ptpMessage t gm port proto (.sync
   (some off))) s = .next s' ∧ s'.time =
   { (s.advance t).time with syncAt := max s.now t, following := true, heldFrom := none } ∧ s'.servo = tbAcquiring ∧
   raised s' s.lane.active.mask evTimeAcquired proto (clampArg (off.tdiv 1000000)) ∧ s'.getF .agreed fTbStatSrc =
   proto ∧ regsBut [(.agreed, rTbStat)] s s' ∧ sameBut [.time, .regs, .log] (s.advance t) s') ∧
  (∀ (t : Nat) (gm port proto : Nat) (off : Int) (s : State), (s.ctl.mode ≠ .boot ∧ s.ctl.mode ≠ .standby ∧ s.voters
   ≠ []) → (s.time.protocol = proto ∧ (proto = 1 ∨ proto = 2)) → s.getF .agreed fSlStatRole ≠ 1 → (s.time.roles[port
   - 1]? = some 1 ∨ s.time.roles[port - 1]? = some 3) → (s.time.accept = [] ∨ s.time.accept.contains gm = true) →
   (s.time.gm = some gm ∧ s.time.gmPort = port) → (s.servo = tbHoldover ∨ s.servo = tbRefused) → off.natAbs ≤
   s.stepLimit → ∃ s', exec (.ptpMessage t gm port proto (.sync (some off))) s = .next s' ∧ s'.time =
   { (s.advance t).time with syncAt := max s.now t, following := true, heldFrom := none } ∧ s'.servo = tbLocked ∧
   s'.getF .agreed fTbStatSrc = proto ∧ regsBut [(.agreed, rTbStat)] s s' ∧ sameBut [.time, .regs] (s.advance t) s') ∧
  (∀ (t : Nat) (gm port proto : Nat) (off : Int) (s : State), (s.ctl.mode ≠ .boot ∧ s.ctl.mode ≠ .standby ∧ s.voters
   ≠ []) → (s.time.protocol = proto ∧ (proto = 1 ∨ proto = 2)) → s.getF .agreed fSlStatRole ≠ 1 → (s.time.roles[port
   - 1]? = some 1 ∨ s.time.roles[port - 1]? = some 3) → (s.time.accept = [] ∨ s.time.accept.contains gm = true) →
   (s.time.gm = some gm ∧ s.time.gmPort = port) → (s.servo = tbLocked ∧ off.natAbs ≤ s.stepLimit ∨ s.servo =
   tbRefused ∧ s.stepLimit < off.natAbs) → ∃ s', exec (.ptpMessage t gm port proto (.sync (some off))) s = .next s'
   ∧ s'.time = { (s.advance t).time with syncAt := max s.now t, following := true } ∧ s'.servo = s.servo ∧ s'.getF
   .agreed fTbStatSrc = proto ∧ regsBut [(.agreed, rTbStat)] s s' ∧ sameBut [.time, .regs] (s.advance t) s') ∧
  (∀ (t : Nat) (gm port proto : Nat) (off : Int) (s : State), (s.ctl.mode ≠ .boot ∧ s.ctl.mode ≠ .standby ∧ s.voters
   ≠ []) → (s.time.protocol = proto ∧ (proto = 1 ∨ proto = 2)) → s.getF .agreed fSlStatRole ≠ 1 → (s.time.roles[port
   - 1]? = some 1 ∨ s.time.roles[port - 1]? = some 3) → (s.time.accept = [] ∨ s.time.accept.contains gm = true) →
   (s.time.gm = some gm ∧ s.time.gmPort = port) → (s.servo = tbLocked ∨ s.servo = tbHoldover ∨ s.servo = tbAcquiring
   ∧ s.getF .agreed fTbStatAcqDone = 1) → s.stepLimit < off.natAbs → ∃ s', exec (.ptpMessage t gm port proto (.sync
   (some off))) s = .next s' ∧ s'.time =
   { (s.advance t).time with syncAt := max s.now t, following := true, heldFrom := some (max s.now t) } ∧ s'.servo =
   tbRefused ∧ raised s' s.lane.active.mask evTimeStepRefused (clampArg (off.tdiv 1000)) (s.getF .agreed
   fTbSteplimLimitUs) ∧ s'.getF .agreed fTbStatSrc = proto ∧ regsBut [(.agreed, rTbStat)] s s' ∧ sameBut [.time,
   .regs, .log] (s.advance t) s') ∧
  (∀ (t : Nat) (gm port proto : Nat) (a : Announce) (s : State), (s.ctl.mode ≠ .boot ∧ s.ctl.mode ≠ .standby ∧
   s.voters ≠ []) → (s.time.protocol = proto ∧ (proto = 1 ∨ proto = 2)) → s.getF .agreed fSlStatRole ≠ 1 →
   (s.time.roles[port - 1]? = some 1 ∨ s.time.roles[port - 1]? = some 3) → (s.time.accept = [] ∨
   s.time.accept.contains gm = true) →
   { s.advance t with time := { (s.advance t).time with heard := ⟨gm, port, a, max s.now t⟩ :: s.time.heard.filter (fun h => !(h.gm == gm && h.port == port)) } }.bestMaster
   = some ⟨gm, port, a, max s.now t⟩ → (1 ≤ port ∧ port ≤ 4) → ∃ s', exec (.ptpMessage t gm port proto (.announce
   a)) s = .next s' ∧ s'.time =
   { (s.advance t).time with heard := ⟨gm, port, a, max s.now t⟩ :: s.time.heard.filter (fun h => !(h.gm == gm && h.port == port)),
                             gm := some gm, gmPort := port,
                             syncAt := if s.time.gm = some gm then s.time.syncAt else max s.now t }
   ∧ s'.getF .agreed fTbStatPort = port - 1 ∧ s'.servo = s.servo ∧ (∀ g, s.time.gm = some g → g ≠ gm → raised s'
   s.lane.active.mask evGmChange gm port ∧ s'.getF .agreed fTbStatGmchg = min 255 (s.getF .agreed fTbStatGmchg + 1))
   ∧ regsBut [(.agreed, rTbStat)] s s' ∧ sameBut [.time, .regs, .log] (s.advance t) s') ∧
  (∀ (t : Nat) (s : State), s.time.following = true → (s.servo = tbLocked ∨ s.servo = tbRefused) → (s.getF .agreed
   fTbStatSrc ≠ 3 ∧ s.time.syncAt + 3 * logNs s.time.logSync ≤ t ∨ s.getF .agreed fTbStatSrc = 3 ∧ s.time.frameAt +
   3 * max 1 (s.getF .agreed fTbAicycleCycleUs * 1000) ≤ t) → ∃ s', exec (.timeSourceLost t) s = .next s' ∧ s'.servo
   = tbHoldover ∧ s'.time =
   { (s.advance t).time with following := false, within := 0, heldFrom := some (max s.now t) } ∧ raised s'
   s.lane.active.mask evTimeHoldover (s.getF .agreed fTbStatSrc) 0 ∧ regsBut [(.agreed, rTbStat)] s s' ∧ sameBut
   [.time, .regs, .log] (s.advance t) s') ∧
  (∀ (t : Nat) (s : State), s.time.following = true → (s.servo = tbLocked ∨ s.servo = tbRefused) → s.getF .agreed
   fTbStatSrc ≠ 3 → (∀ h ∈ s.time.heard, h.at' + s.time.annTimeout * logNs s.time.logAnnounce ≤ t) → ∃ s', exec
   (.timeSourceLost t) s = .next s' ∧ s'.servo = tbHoldover ∧ s'.time =
   { (s.advance t).time with following := false, within := 0, heldFrom := some (max s.now t) } ∧ raised s'
   s.lane.active.mask evTimeHoldover (s.getF .agreed fTbStatSrc) 0 ∧ regsBut [(.agreed, rTbStat)] s s' ∧ sameBut
   [.time, .regs, .log] (s.advance t) s') ∧
  (∀ (t : Nat) (s : State), s.time.following = true → (s.servo ≠ tbLocked ∧ s.servo ≠ tbRefused) → (s.getF .agreed
   fTbStatSrc ≠ 3 ∧ s.time.syncAt + 3 * logNs s.time.logSync ≤ t) → ∃ s', exec (.timeSourceLost t) s = .next s' ∧
   s'.time = { (s.advance t).time with following := false, within := 0 } ∧ sameBut [.time] (s.advance t) s') ∧
  (∀ (t : Nat) (writers : Per Bool) (value : Word) (s : State), s.agreed writers = true → (s.ctl.mode ≠ .standby ∧
   s.time.protocol ≠ 0) → value.toInt.natAbs ≤ s.stepLimit → ∃ s', exec (.tbOffsetWrite t writers value) s = .next
   s' ∧ s'.time = { (s.advance t).time with slew := value.toInt * 4294967296 } ∧ s'.getF .agreed fTbSlewremNs =
   value.toNat ∧ regsBut [(.agreed, rTbSlewrem)] s s' ∧ sameBut [.time, .regs] (s.advance t) s') ∧
  (∀ (t : Nat) (writers : Per Bool) (value : Word) (s : State), s.agreed writers = true → (s.ctl.mode ≠ .standby ∧
   s.time.protocol ≠ 0) → s.stepLimit < value.toInt.natAbs → ∃ s', exec (.tbOffsetWrite t writers value) s = .next
   s' ∧ s'.servo = tbRefused ∧ s'.time = { (s.advance t).time with heldFrom := some (max s.now t) } ∧ raised s'
   s.lane.active.mask evTimeStepRefused (clampArg (value.toInt.tdiv 1000)) (s.getF .agreed fTbSteplimLimitUs) ∧
   regsBut [(.agreed, rTbStat)] s s' ∧ sameBut [.time, .regs, .log] (s.advance t) s') ∧
  (∀ (t : Nat) (writers : Per Bool) (value : Word) (s : State), (s.ctl.mode = .standby ∨ s.time.protocol = 0) → ∃
   s', exec (.tbOffsetWrite t writers value) s = .next s' ∧ s' = s.advance t) ∧
  (∀ (t : Nat) (writers : Per Bool) (s : State), s.agreed writers = true → (s.ctl.mode = .service ∨ s.ctl.mode =
   .stop) → ∃ s', exec (.forcedStep t writers 0x5453) s = .next s' ∧ (∀ m, s'.time.tb.get m = if (s.mast m).powered
   then (((s.advance t).time.tb.get m : Int) + ((s.stepTarget : Int) - (s.advance t).moduleTime) * 4294967296).toNat
   else (s.advance t).time.tb.get m) ∧ s'.time.stepped = some 1 ∧ raised s' s.lane.active.mask evTimeStepped
   (clampArg (((s.stepTarget : Int) - (s.advance t).moduleTime).tdiv 1000)) s.ctl.mode.code ∧ s'.servo = (if
   tbLocked ≤ s.servo then tbLocked else s.servo) ∧ s'.getF .agreed fTbStatAcqDone = 1 ∧ sameBut [.time, .regs,
   .log, .pos, .masts, .mem, .lane, .queue, .field] (s.advance t) s') ∧
  (∀ (t : Nat) (writers : Per Bool) (s : State), s.agreed writers = true → (s.ctl.mode = .service ∨ s.ctl.mode =
   .stop) → (∀ m ∈ Mast.all, ∀ n < 64, s.cmp m n fTbCmpcfgArm = 0) → ∃ s', exec (.forcedStep t writers 0x5453) s =
   .next s' ∧ s'.time =
   { (s.advance t).time with tb := s'.time.tb, stepped := some 1, heldFrom := s'.time.heldFrom } ∧ regsBut
   [(.agreed, rTbStat)] s s' ∧ sameBut [.time, .regs, .log] (s.advance t) s') ∧
  (∀ (t : Nat) (writers : Per Bool) (s : State), s.agreed writers = true → (s.servo ≤ tbAcquiring ∧ s.getF .agreed
   fTbStatAcqDone = 0) → ∃ s', exec (.initialAcquisition t writers 0x5453) s = .next s' ∧ (∀ m, s'.time.tb.get m =
   if (s.mast m).powered then (((s.advance t).time.tb.get m : Int) + ((s.stepTarget : Int) - (s.advance
   t).moduleTime) * 4294967296).toNat else (s.advance t).time.tb.get m) ∧ s'.time.stepped = some 2 ∧ raised s'
   s.lane.active.mask evTimeStepped (clampArg (((s.stepTarget : Int) - (s.advance t).moduleTime).tdiv 1000))
   s.ctl.mode.code ∧ s'.servo = s.servo ∧ s'.time.heldFrom = s.time.heldFrom ∧ s'.getF .agreed fTbStatAcqDone = 1 ∧
   sameBut [.time, .regs, .log, .pos, .masts, .mem, .lane, .queue, .field] (s.advance t) s') ∧
  (∀ (t : Nat) (writers : Per Bool) (s : State), s.agreed writers = true → (s.servo ≤ tbAcquiring ∧ s.getF .agreed
   fTbStatAcqDone = 0) → (∀ m ∈ Mast.all, ∀ n < 64, s.cmp m n fTbCmpcfgArm = 0) → ∃ s', exec (.initialAcquisition t
   writers 0x5453) s = .next s' ∧ s'.time =
   { (s.advance t).time with tb := s'.time.tb, stepped := some 2, heldFrom := s'.time.heldFrom } ∧ regsBut
   [(.agreed, rTbStat)] s s' ∧ sameBut [.time, .regs, .log] (s.advance t) s') ∧
  (∀ (t : Nat) (writers : Per Bool) (key : Nat) (s : State), (s.agreed writers = false ∨ key ≠ 0x5453 ∨ s.ctl.mode ≠
   .service ∧ s.ctl.mode ≠ .stop) → exec (.forcedStep t writers key) s = .next (s.advance t))

/-- For every mast whose triads run. tbNownsRead answers with the nanoseconds of its mast's timebase and latches the
seconds in TB_NOWSLO and TB_NOWSHI; tbPosloRead answers with the low word of the axle's position and latches the
high one; tbTsqpop takes the oldest entry of the port's timestamp queue into the registers, shows how many remain
and answers with the valid bit and the identifier, and answers 0 of an empty queue; edgeLogQuery with GO starts a
query of the axle named, without GO it only names the axle; edgeLogQueryDone ends it with result 1 and the position
the log holds for that time, 2 when too old and 3 when in the future. No other register changes. Completion: for
every state and operands that meet the stated conditions on them alone, exec answers the next state of the own
effect of tbNownsRead (TB_NOWNS_READ), tbPosloRead (TB_POSLO_READ), tbTsqpop (TB_TSQPOP), edgeLogQuery
(EDGE_LOG_QUERY), edgeLogQueryDone (EDGE_LOG_QUERY_DONE). -/
def Obligations.TimeReadsAndQueries : Prop :=
  (∀ (t : Nat) (m : Mast) (tr : Triad) (s : State), s.triadRuns m = true → ∃ s', exec (.tbNownsRead t m tr) s =
   .next s' ∧ s'.masts = (s.answer m tr (.done (((s.advance t).tbNs m % 1000000000)))).masts ∧ s'.getF (.mast m)
   fTbNowsloValue = (s.advance t).tbNs m / 1000000000 % 4294967296 ∧ s'.getF (.mast m) fTbNownsValue = (s.advance
   t).tbNs m % 1000000000 ∧ regsBut [(.mast m, rTbNowns), (.mast m, rTbNowslo), (.mast m, rTbNowshi)] s s' ∧ sameBut
   [.masts, .regs] (s.advance t) s') ∧
  (∀ (t : Nat) (m : Mast) (tr : Triad) (ax : Nat) (s : State), s.triadRuns m = true → (ax = 1 ∨ ax = 2) → ∃ s', exec
   (.tbPosloRead t m tr ax) s = .next s' ∧ s'.masts = (s.answer m tr (.done ((posWord (s.axle m ax).counter %
   4294967296)))).masts ∧ s'.getF (.mast m) (fTbPoshiPos.plus (0x20 * (ax - 1))) = posWord (s.axle m ax).counter /
   4294967296 % 65536 ∧ regsBut [(.mast m, rTbPoslo + 0x20 * (ax - 1)), (.mast m, rTbPoshi + 0x20 * (ax - 1))] s s'
   ∧ sameBut [.masts, .regs] (s.advance t) s') ∧
  (∀ (t : Nat) (m : Mast) (tr : Triad) (port : Nat) (q : StampQueue) (e : TxStamp) (rest : List TxStamp) (s :
   State), s.triadRuns m = true → (1 ≤ port ∧ port ≤ 4) → s.time.stamps[port - 1]? = some q → q.queue.get m = e ::
   rest → (e.id < 65536 ∧ rest.length < 16) → ∃ s', exec (.tbTsqpop t m tr port) s = .next s' ∧ s'.masts = (s.answer
   m tr (.done ((2147483648 + e.id)))).masts ∧ s'.reg (.mast m) (rTbTsqpop + 0x20 * (port - 1)) = BitVec.ofNat 32
   (2147483648 + e.id) ∧ s'.getF (.mast m) (tsqF fTbTsqnsValue port) = e.time % 1000000000 ∧ s'.getF (.mast m) (tsqF
   fTbTsqsloValue port) = e.time / 1000000000 % 4294967296 ∧ s'.getF (.mast m) (tsqF fTbTsqshiValue port) = e.time /
   1000000000 / 4294967296 % 65536 ∧ s'.getF (.mast m) (tsqF fTbTsqstatCount port) = rest.length ∧ s'.time =
   { (s.advance t).time with stamps := s.time.stamps.set (port - 1) { q with queue := q.queue.set m rest } } ∧
   regsBut [(.mast m, rTbTsqpop + 0x20 * (port - 1)), (.mast m, (tsqF fTbTsqnsValue port).addr), (.mast m, (tsqF
   fTbTsqsloValue port).addr), (.mast m, (tsqF fTbTsqshiValue port).addr), (.mast m, (tsqF fTbTsqstatCount
   port).addr)] s s' ∧ sameBut [.masts, .regs, .time] (s.advance t) s') ∧
  (∀ (t : Nat) (m : Mast) (tr : Triad) (port : Nat) (q : StampQueue) (s : State), s.triadRuns m = true → (1 ≤ port ∧
   port ≤ 4) → s.time.stamps[port - 1]? = some q → q.queue.get m = [] → ∃ s', exec (.tbTsqpop t m tr port) s = .next
   s' ∧ s'.masts = (s.answer m tr (.done (0))).masts ∧ s'.reg (.mast m) (rTbTsqpop + 0x20 * (port - 1)) = 0 ∧
   regsBut [(.mast m, rTbTsqpop + 0x20 * (port - 1))] s s' ∧ sameBut [.masts, .regs] (s.advance t) s') ∧
  (∀ (t : Nat) (m : Mast) (value : Word) (s : State), s.triadRuns m = true → getBits value 31 31 = 1 → ∃ s', exec
   (.edgeLogQuery t m value) s = .next s' ∧ s'.pos = { s.pos with query := s.pos.query.set m (some (max s.now t)) }
   ∧ s'.getF (.mast m) fTbPqctlResult = 0 ∧ s'.getF (.mast m) fTbPqctlAxle = getBits value 16 16 ∧ regsBut [(.mast
   m, rTbPqctl)] s s' ∧ sameBut [.pos, .regs] (s.advance t) s') ∧
  (∀ (t : Nat) (m : Mast) (value : Word) (s : State), s.triadRuns m = true → getBits value 31 31 = 0 → ∃ s', exec
   (.edgeLogQuery t m value) s = .next s' ∧ s'.getF (.mast m) fTbPqctlAxle = getBits value 16 16 ∧ regsBut [(.mast
   m, rTbPqctl)] s s' ∧ sameBut [.regs] (s.advance t) s') ∧
  (∀ (t : Nat) (m : Mast) (n : Nat) (s : State), s.pos.query.get m = some n → ∃ s', exec (.edgeLogQueryDone t m) s =
   .next s' ∧ s'.pos = { s.pos with query := s.pos.query.set m none } ∧ s'.getF (.mast m) fTbPqctlResult = (match
   (s.axle m (1 + s.getF (.mast m) fTbPqctlAxle)).query (s.askedTime m (s.advance t).moduleTime) (s.advance
   t).moduleTime with | .future => 3 | .tooOld => 2 | .value _ => 1) ∧ (match (s.axle m (1 + s.getF (.mast m)
   fTbPqctlAxle)).query (s.askedTime m (s.advance t).moduleTime) (s.advance t).moduleTime
   with | .value v => decide (s'.getF (.mast m) fTbPqresloPos = posWord v % 4294967296 ∧ s'.getF (.mast m) fTbPqreshiPos = posWord v / 4294967296 % 65536) | _ => decide (s'.reg (.mast m) rTbPqreslo = s.reg (.mast m) rTbPqreslo))
   = true ∧ regsBut [(.mast m, rTbPqctl), (.mast m, rTbPqreslo), (.mast m, rTbPqreshi)] s s' ∧ sameBut [.pos, .regs]
   (s.advance t) s')

/-- For every mast whose triads run. tbCmpcfgWrite: a comparator that is not armed takes the defined fields of the word;
with ARM it is armed, or refused with its reason in TB_CMPST and CMP_ARM_REFUSED; of an armed one, a word that
changes another field is refused with reason 1, and one that clears ARM disarms it. A time target already past fires
at once with LATE and CMP_LATE, or with PAST sets MISSED and clears ARM. timeComparatorFire: an armed time
comparator whose time has come fires once, counts in TB_CMPST, notes its door-bus record, sets its bit of
TB_CMPLOCAL and raises CMP_FIRED where EVT and LOG are set, and disarms, or moves its target on by its period.
tachoEdge: an edge 2 us or more after the other channel's is counted in its axle's front end, TB_EDGES and every
running mast's counter, an earlier one is discarded, counted in TB_AXSTAT and raises TACHO_QERR. overrateEnd: the
over-rate state ends when 110 000 edges or fewer lie in the last second. Completion: for every state and operands
that meet the stated conditions on them alone, exec answers the next state of the own effect of tbCmpcfgWrite
(TB_CMPCFG_WRITE), timeComparatorFire (TIME_COMPARATOR_FIRE), tachoEdge (TACHO_EDGE), overrateEnd (OVERRATE_END). -/
def Obligations.ComparatorsAndTachometer : Prop :=
  (∀ (t : Nat) (m : Mast) (n : Nat) (value : Word) (s : State), s.triadRuns m = true → n ≤ 63 → getBits (s.reg
   (.mast m) (rTbCmpcfg + 0x20 * n)) 0 0 = 0 → (getBits value 0 0 = 0 ∨ (s.setReg (.mast m) (rTbCmpcfg + 0x20 * n)
   (value &&& cmpCfgMask)).armReason m n = 0 ∧ (getBits (value &&& cmpCfgMask) 3 1 ≠ 1 ∨ (s.advance t).tbNs m ≤
   s.cmpTime m n)) → ∃ s', exec (.tbCmpcfgWrite t m n value) s = .next s' ∧ s'.reg (.mast m) (rTbCmpcfg + 0x20 * n)
   = (value &&& cmpCfgMask) ||| (value &&& 1) ∧ regsBut [(.mast m, rTbCmpcfg + 0x20 * n)] s s' ∧ s'.pos =
   { s.pos with across := s'.pos.across } ∧ (∀ o, o ≠ m → s'.pos.across.get o = s.pos.across.get o) ∧ sameBut
   [.regs, .pos] (s.advance t) s') ∧
  (∀ (t : Nat) (m : Mast) (n : Nat) (value : Word) (r : Nat) (s : State), s.triadRuns m = true → n ≤ 63 → getBits
   (s.reg (.mast m) (rTbCmpcfg + 0x20 * n)) 0 0 = 0 → getBits value 0 0 = 1 → ((s.setReg (.mast m) (rTbCmpcfg + 0x20
   * n) (value &&& cmpCfgMask)).armReason m n = r ∧ r ≠ 0) → ∃ s', exec (.tbCmpcfgWrite t m n value) s = .next s' ∧
   s'.getF (.mast m) (cmpF fTbCmpstReason n) = r ∧ raised s' (2 ^ m.code) evCmpArmRefused n r ∧ s'.reg (.mast m)
   (rTbCmpcfg + 0x20 * n) = value &&& cmpCfgMask ∧ regsBut [(.mast m, rTbCmpcfg + 0x20 * n), (.mast m, rTbCmpst +
   0x20 * n)] s s' ∧ sameBut [.regs, .log] (s.advance t) s') ∧
  (∀ (t : Nat) (m : Mast) (n : Nat) (value : Word) (s : State), s.triadRuns m = true → n ≤ 63 → getBits (s.reg
   (.mast m) (rTbCmpcfg + 0x20 * n)) 0 0 = 0 → getBits value 0 0 = 1 → ((s.setReg (.mast m) (rTbCmpcfg + 0x20 * n)
   (value &&& cmpCfgMask)).armReason m n = 0 ∧ getBits (value &&& cmpCfgMask) 3 1 = 1) → s.cmpTime m n < (s.advance
   t).tbNs m → (s.setReg (.mast m) (rTbCmpcfg + 0x20 * n) (value &&& cmpCfgMask)).cmp m n fTbCmpcfgPast = 1 → ∃ s',
   exec (.tbCmpcfgWrite t m n value) s = .next s' ∧ s'.cmp m n fTbCmpstMissed = 1 ∧ s'.cmp m n fTbCmpcfgArm = 0 ∧
   s'.pos.firings = s.pos.firings ∧ regsBut [(.mast m, rTbCmpcfg + 0x20 * n), (.mast m, rTbCmpst + 0x20 * n)] s s' ∧
   sameBut [.regs, .pos] (s.advance t) s') ∧
  (∀ (t : Nat) (m : Mast) (n : Nat) (value : Word) (s : State), s.triadRuns m = true → n ≤ 63 → getBits (s.reg
   (.mast m) (rTbCmpcfg + 0x20 * n)) 0 0 = 0 → getBits value 0 0 = 1 → ((s.setReg (.mast m) (rTbCmpcfg + 0x20 * n)
   (value &&& cmpCfgMask)).armReason m n = 0 ∧ getBits (value &&& cmpCfgMask) 3 1 = 1) → s.cmpTime m n < (s.advance
   t).tbNs m → ((s.setReg (.mast m) (rTbCmpcfg + 0x20 * n) (value &&& cmpCfgMask)).cmp m n fTbCmpcfgPast = 0 ∧
   (s.setReg (.mast m) (rTbCmpcfg + 0x20 * n) (value &&& cmpCfgMask)).cmp m n fTbCmpcfgPeriodic = 0 ∧ (s.setReg
   (.mast m) (rTbCmpcfg + 0x20 * n) (value &&& cmpCfgMask)).cmp m n fTbCmpcfgEvt = 0 ∧ (s.setReg (.mast m)
   (rTbCmpcfg + 0x20 * n) (value &&& cmpCfgMask)).cmp m n fTbCmpcfgDma = 0 ∧ (s.setReg (.mast m) (rTbCmpcfg + 0x20 *
   n) (value &&& cmpCfgMask)).cmp m n fTbCmpcfgOut = 0 ∧ (s.setReg (.mast m) (rTbCmpcfg + 0x20 * n) (value &&&
   cmpCfgMask)).cmp m n fTbCmpcfgDbus = 0) → s.log.limits = [] → ∃ s', exec (.tbCmpcfgWrite t m n value) s = .next
   s' ∧ s'.cmp m n fTbCmpstLate = 1 ∧ s'.cmp m n fTbCmpstFired = 1 ∧ s'.cmp m n fTbCmpcfgArm = 0 ∧ s'.pos.firings =
   s.pos.firings ++ [⟨n, m, (s.advance t).tbNs m, 0, none⟩] ∧ raised s' (2 ^ m.code) evCmpLate n (min 0xFFFFFFFF
   ((s.advance t).tbNs m - s.cmpTime m n)) ∧ regsBut [(.mast m, rTbCmpcfg + 0x20 * n), (.mast m, rTbCmpst + 0x20 *
   n)] s s' ∧ sameBut [.regs, .pos, .log] (s.advance t) s') ∧
  (∀ (t : Nat) (m : Mast) (n : Nat) (value : Word) (s : State), s.triadRuns m = true → n ≤ 63 → getBits (s.reg
   (.mast m) (rTbCmpcfg + 0x20 * n)) 0 0 = 1 → value &&& cmpCfgMask ≠ s.reg (.mast m) (rTbCmpcfg + 0x20 * n) &&&
   cmpCfgMask → ∃ s', exec (.tbCmpcfgWrite t m n value) s = .next s' ∧ s'.getF (.mast m) (cmpF fTbCmpstReason n) = 1
   ∧ raised s' (2 ^ m.code) evCmpArmRefused n 1 ∧ s'.reg (.mast m) (rTbCmpcfg + 0x20 * n) = s.reg (.mast m)
   (rTbCmpcfg + 0x20 * n) ∧ regsBut [(.mast m, rTbCmpst + 0x20 * n)] s s' ∧ sameBut [.regs, .log] (s.advance t) s') ∧
  (∀ (t : Nat) (m : Mast) (n : Nat) (s : State), s.triadRuns m = true → (n < 64 ∧ ∀ k < 64, k ≠ n → s.cmp m k
   fTbCmpcfgArm = 0) → (s.cmpTimed m n = true ∧ s.cmpTime m n ≤ (s.advance t).tbNs m) → (s.cmp m n fTbCmpcfgPeriodic
   = 0 ∧ s.cmp m n fTbCmpcfgEvt = 0 ∧ s.cmp m n fTbCmpcfgDma = 0 ∧ s.cmp m n fTbCmpcfgOut = 0) → ∃ s', exec
   (.timeComparatorFire t m) s = .next s' ∧ s'.cmp m n fTbCmpstFired = 1 ∧ s'.cmp m n fTbCmpstFires = min 65535
   (s.cmp m n fTbCmpstFires + 1) ∧ s'.pos =
   { s.pos with firings := s.pos.firings ++ [⟨n, m, (s.advance t).tbNs m, 0, if s.cmp m n fTbCmpcfgDbus = 1 then some (s.cmp m n fTbCmpcfgArg) else none⟩] }
   ∧ s'.cmp m n fTbCmpcfgArm = 0 ∧ regsBut [(.mast m, rTbCmpcfg + 0x20 * n), (.mast m, rTbCmpst + 0x20 * n)] s s' ∧
   sameBut [.regs, .pos] (s.advance t) s') ∧
  (∀ (t : Nat) (m : Mast) (n : Nat) (s : State), s.triadRuns m = true → (n < 64 ∧ ∀ k < 64, k ≠ n → s.cmp m k
   fTbCmpcfgArm = 0) → (s.cmpTimed m n = true ∧ s.cmpTime m n ≤ (s.advance t).tbNs m) → (s.cmp m n fTbCmpcfgPeriodic
   = 0 ∧ s.cmp m n fTbCmpcfgEvt = 1 ∧ s.cmp m n fTbCmpcfgLog = 1 ∧ s.cmp m n fTbCmpcfgDma = 0 ∧ s.cmp m n
   fTbCmpcfgOut = 0 ∧ s.cmp m n fTbCmpcfgIrqP = 0 ∧ s.cmp m n fTbCmpcfgIrqC = 0) → ∃ s', exec (.timeComparatorFire t
   m) s = .next s' ∧ s'.cmp m n fTbCmpstFired = 1 ∧ s'.cmp m n fTbCmpstFires = min 65535 (s.cmp m n fTbCmpstFires +
   1) ∧ s'.pos =
   { s.pos with firings := s.pos.firings ++ [⟨n, m, (s.advance t).tbNs m, 0, if s.cmp m n fTbCmpcfgDbus = 1 then some (s.cmp m n fTbCmpcfgArg) else none⟩] }
   ∧ s'.cmp m n fTbCmpcfgArm = 0 ∧ s'.getF (.mast m) (if n < 32 then ⟨rTbCmplocalLo, n, n⟩ else ⟨rTbCmplocalHi, n -
   32, n - 32⟩) = 1 ∧ s'.cmp m n fTbCmpfnsValue = (s.advance t).tbNs m % 1000000000 ∧ raised s' (2 ^ m.code)
   evCmpFired n (getBits (s'.reg (.mast m) (rTbCmpst + 0x20 * n)) 3 0) ∧ regsBut [(.mast m, rTbCmpcfg + 0x20 * n),
   (.mast m, rTbCmpst + 0x20 * n), (.mast m, rTbCmplocalLo), (.mast m, rTbCmplocalHi), (.mast m, (cmpF
   fTbCmpfnsValue n).addr), (.mast m, (cmpF fTbCmpfsValue n).addr)] s s' ∧ (∀ o, s'.mast o = s.mast o) ∧ sameBut
   [.regs, .pos, .log] (s.advance t) s') ∧
  (∀ (t : Nat) (m : Mast) (n : Nat) (s : State), s.triadRuns m = true → (n < 64 ∧ ∀ k < 64, k ≠ n → s.cmp m k
   fTbCmpcfgArm = 0) → (s.cmpTimed m n = true ∧ s.cmpTime m n ≤ (s.advance t).tbNs m) → (s.cmp m n fTbCmpcfgPeriodic
   = 1 ∧ s.cmp m n fTbCmpcfgEvt = 0 ∧ s.cmp m n fTbCmpcfgDma = 0 ∧ s.cmp m n fTbCmpcfgOut = 0) → (s.cmp m n
   fTbCmpperNs ≤ 4000000000 ∧ s.cmpTime m n < 2 ^ 62) → ∃ s', exec (.timeComparatorFire t m) s = .next s' ∧ s'.cmp m
   n fTbCmpstFired = 1 ∧ s'.cmp m n fTbCmpstFires = min 65535 (s.cmp m n fTbCmpstFires + 1) ∧ s'.pos =
   { s.pos with firings := s.pos.firings ++ [⟨n, m, (s.advance t).tbNs m, 0, if s.cmp m n fTbCmpcfgDbus = 1 then some (s.cmp m n fTbCmpcfgArg) else none⟩] }
   ∧ s'.cmp m n fTbCmpcfgArm = 1 ∧ s'.cmpTime m n = s.cmpTime m n + s.cmp m n fTbCmpperNs ∧ regsBut [(.mast m,
   rTbCmpcfg + 0x20 * n), (.mast m, rTbCmpst + 0x20 * n), (.mast m, (cmpF fTbCmpt0Value n).addr), (.mast m, (cmpF
   fTbCmpt1Value n).addr), (.mast m, (cmpF fTbCmpt2Value n).addr)] s s' ∧ sameBut [.regs, .pos] (s.advance t) s') ∧
  (∀ (t : Nat) (ax : Nat) (channel : Nat) (order : Bool) (s : State), (s.advance t).tachOn = true → (ax = 1 ∨ ax =
   2) → channel ≤ 1 → s.supply.tach ax = none → ((if channel = 0 then (s.pos.front ax).lastB else (s.pos.front
   ax).lastA).all (fun l => decide (l + 2000 ≤ max s.now t))) = true → ∃ s', exec (.tachoEdge t ax channel order) s
   = .next s' ∧ s'.pos.front ax = TachoFront.edge (if channel = 0 then
   { s.pos.front ax with lastA := some (max s.now t) } else { s.pos.front ax with lastB := some (max s.now t) })
   (s.advance t).moduleTime (max s.now t) (order != (match s.sup.params
   with | some p => bitOf p.dirSign (ax - 1) | none => false)) ∧ s'.pos.front (3 - ax) = s.pos.front (3 - ax) ∧
   s'.getF .agreed (fTbEdgesCount.plus (0x20 * (ax - 1))) = (s.getF .agreed (fTbEdgesCount.plus (0x20 * (ax - 1))) +
   1) % 4294967296 ∧ s'.getF .agreed (fTbAxstatDir.plus (0x20 * (ax - 1))) = (if (order != (match s.sup.params
   with | some p => bitOf p.dirSign (ax - 1) | none => false)) then 1 else 2) ∧ (∀ m, s'.axle m ax = if s.triadRuns
   m then (s.axle m ax).edge (s.advance t).moduleTime (if (order != (match s.sup.params
   with | some p => bitOf p.dirSign (ax - 1) | none => false)) then (match s.sup.params
   with | some p => (p.step ax : Int) | none => 0) else -(match s.sup.params
   with | some p => (p.step ax : Int) | none => 0)) else s.axle m ax) ∧ sameBut [.regs, .masts, .mem, .log, .lane,
   .time, .pos, .queue, .sup, .field] (s.advance t) s') ∧
  (∀ (t : Nat) (ax : Nat) (channel : Nat) (order : Bool) (s : State), (s.advance t).tachOn = true → (ax = 1 ∨ ax =
   2) → channel ≤ 1 → s.supply.tach ax = none → ((if channel = 0 then (s.pos.front ax).lastB else (s.pos.front
   ax).lastA).all (fun l => decide (l + 2000 ≤ max s.now t))) = true → s.sup.params = none → (recentEdges (max s.now
   t) (s.pos.front ax).recent).length < 110000 → ∃ s', exec (.tachoEdge t ax channel order) s = .next s' ∧ regsBut
   [(.agreed, rTbAxstat + 0x20 * (ax - 1)), (.agreed, rTbEdges + 0x20 * (ax - 1))] s s' ∧ sameBut [.regs, .pos]
   (s.advance t) s') ∧
  (∀ (t : Nat) (ax : Nat) (channel : Nat) (order : Bool) (l : Nat) (s : State), (s.advance t).tachOn = true → (ax =
   1 ∨ ax = 2) → channel ≤ 1 → s.supply.tach ax = none → ((if channel = 0 then (s.pos.front ax).lastB else
   (s.pos.front ax).lastA) = some l ∧ max s.now t < l + 2000) → s.log.limits = [] → ∃ s', exec (.tachoEdge t ax
   channel order) s = .next s' ∧ s'.pos.front ax =
   { (if channel = 0 then { s.pos.front ax with lastA := some (max s.now t) } else { s.pos.front ax with lastB := some (max s.now t) }) with qerrs := (s.pos.front ax).qerrs + 1 }
   ∧ s'.pos.front (3 - ax) = s.pos.front (3 - ax) ∧ s'.getF .agreed (fTbAxstatQerr.plus (0x20 * (ax - 1))) = min
   65535 (s.getF .agreed (fTbAxstatQerr.plus (0x20 * (ax - 1))) + 1) ∧ raised s' s.lane.active.mask evTachoQerr ax
   (s.pos.front ax).lastQerrs ∧ s'.pos.ax1 = s.pos.ax1 ∧ s'.pos.ax2 = s.pos.ax2 ∧ sameBut [.regs, .masts, .mem,
   .log, .lane, .pos, .sup, .field] (s.advance t) s') ∧
  (∀ (t : Nat) (ax : Nat) (s : State), (ax = 1 ∨ ax = 2) → (recentEdges (max s.now t) (s.pos.front
   ax).recent).length ≤ 110000 → ∃ s', exec (.overrateEnd t ax) s = .next s' ∧ s'.pos.front ax =
   { s.pos.front ax with recent := recentEdges (max s.now t) (s.pos.front ax).recent, overRate := false,
                         overEnd := if (s.pos.front ax).overRate then some (max s.now t) else (s.pos.front ax).overEnd }
   ∧ s'.pos.front (3 - ax) = s.pos.front (3 - ax) ∧ s'.pos.ax1 = s.pos.ax1 ∧ s'.pos.ax2 = s.pos.ax2 ∧ sameBut [.pos]
   (s.advance t) s')

/-- For both buses. fbIntegrateDone and fbRecoverDone: INTEGRATE ends in NORMAL after 8 cycles sent, RECOVER after 2,
with FB_STATE. fbTestOn and fbTestOff: an agreed request sets or clears TEST on every voting mast and takes a normal
bus to TEST in SERVICE, a bus in TEST to RECOVER. fbSlotTransmit, in a MASTER_OUT or granted SPARE_OUT slot with a
live channel: the committed value of the slot's length in RUN or HOLD, the gate's value in a gated slot, the last
sent where the length differs, the pattern in TEST, NULL otherwise. fbFrameReceived: bytes without preamble are
energy, a collision in the claim slot; an accepted frame becomes one item of its channel and slot with code and
offset; a frame with a fault only notes its code, and of an unlisted or long one no item is formed; outside NORMAL a
frame is counted in SUPPRESSED, before the bus runs in FB_PRE, an own frame that differs in ECHO, a CYCLE_START of
another master in FOREIGN with FB_SECOND_MASTER. fbSlotReport forms one item for each channel with its codes, counts
them and shows them. Commands of one bus leave the other as it was. Completion: for every state and operands that
meet the stated conditions on them alone, exec answers the next state of the own effect of fbIntegrateDone
(FB_INTEGRATE_DONE), fbRecoverDone (FB_RECOVER_DONE), fbTestOn (FB_TEST_ON), fbTestOff (FB_TEST_OFF), fbSlotTransmit
(FB_SLOT_TRANSMIT), fbFrameReceived (FB_FRAME_RECEIVED), fbSlotReport (FB_SLOT_REPORT). -/
def Obligations.DoorBusStatesAndSlots : Prop :=
  (∀ (t : Nat) (b : Nat) (s : State), b < 2 → ((s.bus b).state = .integrate ∧ 8 ≤ (s.bus b).sentCycles) → ∃ s', exec
   (.fbIntegrateDone t b) s = .next s' ∧ (s'.bus b) = { (s.bus b) with state := .normal, sentCycles := 0 } ∧ s'.getF
   .agreed (fbF fFbStatState b) = 2 ∧ raised s' s.lane.active.mask evFbState b 258 ∧ (∀ c, c < 2 → c ≠ b → s'.bus c
   = s.bus c) ∧ regsBut [(.agreed, rFbStat + 0x800 * b)] s s' ∧ sameBut [.fb, .regs, .log] (s.advance t) s') ∧
  (∀ (t : Nat) (b : Nat) (s : State), b < 2 → ((s.bus b).state = .recover ∧ 2 ≤ (s.bus b).sentCycles) → ∃ s', exec
   (.fbRecoverDone t b) s = .next s' ∧ (s'.bus b) = { (s.bus b) with state := .normal, sentCycles := 0 } ∧ s'.getF
   .agreed (fbF fFbStatState b) = 2 ∧ raised s' s.lane.active.mask evFbState b 1026 ∧ (∀ c, c < 2 → c ≠ b → s'.bus c
   = s.bus c) ∧ regsBut [(.agreed, rFbStat + 0x800 * b)] s s' ∧ sameBut [.fb, .regs, .log] (s.advance t) s') ∧
  (∀ (t : Nat) (b : Nat) (writers : Per Bool) (s : State), b < 2 → (s.agreed writers = true ∧ (s.advance t).unlocked
   = true) → s.ctl.mode = .service → (s.bus b).state = .normal → ∃ s', exec (.fbTestOn t b writers) s = .next s' ∧
   (s'.bus b) = { (s.bus b) with state := .test, sentCycles := 0 } ∧ s'.getF .agreed (fbF fFbStatState b) = 3 ∧
   raised s' s.lane.active.mask evFbState b 515 ∧ (∀ c, c < 2 → c ≠ b → s'.bus c = s.bus c) ∧ (∀ m, s.votes m = true
   → s'.getF (.mast m) (fbF fFbCtrlTest b) = 1) ∧ regsBut (Mast.all.map (fun m => (.mast m, rFbCtrl + 0x800 * b)) ++
   [(.agreed, rFbStat + 0x800 * b)]) s s' ∧ sameBut [.fb, .regs, .log] (s.advance t) s') ∧
  (∀ (t : Nat) (b : Nat) (writers : Per Bool) (s : State), b < 2 → (s.agreed writers = true ∧ (s.advance t).unlocked
   = true) → (s.ctl.mode ≠ .service ∨ (s.bus b).state ≠ .normal) → ∃ s', exec (.fbTestOn t b writers) s = .next s' ∧
   (∀ m, s.votes m = true → s'.getF (.mast m) (fbF fFbCtrlTest b) = 1) ∧ regsBut (Mast.all.map (fun m => (.mast m,
   rFbCtrl + 0x800 * b)) ++ [(.agreed, rFbStat + 0x800 * b)]) s s' ∧ sameBut [.regs] (s.advance t) s') ∧
  (∀ (t : Nat) (b : Nat) (writers : Per Bool) (s : State), b < 2 → (s.agreed writers = true ∧ (s.advance t).unlocked
   = true) → (s.bus b).state = .test → ∃ s', exec (.fbTestOff t b writers) s = .next s' ∧ s'.getF .agreed (fbF
   fFbRecovRecovers b) = min 65535 (s.getF .agreed (fbF fFbRecovRecovers b) + 1) ∧ (s'.bus b) =
   { (s.bus b) with state := .recover, sentCycles := 0 } ∧ s'.getF .agreed (fbF fFbStatState b) = 4 ∧ raised s'
   s.lane.active.mask evFbState b 772 ∧ (∀ c, c < 2 → c ≠ b → s'.bus c = s.bus c) ∧ (∀ m, s.votes m = true → s'.getF
   (.mast m) (fbF fFbCtrlTest b) = 0) ∧ regsBut (Mast.all.map (fun m => (.mast m, rFbCtrl + 0x800 * b)) ++
   [(.agreed, rFbStat + 0x800 * b), (.agreed, rFbRecov + 0x800 * b)]) s s' ∧ sameBut [.fb, .regs, .log] (s.advance
   t) s') ∧
  (∀ (t : Nat) (b : Nat) (writers : Per Bool) (s : State), b < 2 → (s.agreed writers = true ∧ (s.advance t).unlocked
   = true) → (s.bus b).state ≠ .test → ∃ s', exec (.fbTestOff t b writers) s = .next s' ∧ (∀ m, s.votes m = true →
   s'.getF (.mast m) (fbF fFbCtrlTest b) = 0) ∧ regsBut (Mast.all.map (fun m => (.mast m, rFbCtrl + 0x800 * b)) ++
   [(.agreed, rFbStat + 0x800 * b)]) s s' ∧ sameBut [.regs] (s.advance t) s') ∧
  (∀ (t : Nat) (b : Nat) (slot : Nat) (damaged : Per Bool) (sc : FbSchedule) (e : FbSlot) (s : State), (b < 2 ∧
   (s.bus b).state ≠ .off) → ((s.bus b).sched = some sc ∧ (s.bus b).slot slot = some e) → ((e.kind = .masterOut ∨
   e.kind = .spareOut ∧ (sc.slots.any (fun g => g.kind == .spareIn && g.link == slot && (((s.bus b).grant
   g.slot).any (fun q => q.first.isSome)))) = true)) → (s.lane.mute = false ∧ ([0, 1].any (fun ch => s.owned (2 + 2
   * b + ch) && s.voters.any (fun m => m != (s.unit (2 + 2 * b + ch)).owner && (s.mast m).alive))) = true) → (s.bus
   b).state ≠ .test → (s.ctl.mode ≠ .run ∧ s.ctl.mode ≠ .hold) → ∃ s', exec (.fbSlotTransmit t b slot damaged) s =
   .next s' ∧ (s'.bus b).lastSent = fbFrame 0 slot ((s.bus b).cycle % 65536) 3 (s.bus b).state.code sc.schedId [] ∧
   (s'.bus b) = { (s.bus b) with slots := (s'.bus b).slots, lastSent := (s'.bus b).lastSent } ∧ (∀ k, k ≠ slot →
   (s'.bus b).slotData k = (s.bus b).slotData k) ∧ (∀ c, c < 2 → c ≠ b → s'.bus c = s.bus c) ∧ sameBut [.fb]
   (s.advance t) s') ∧
  (∀ (t : Nat) (b : Nat) (slot : Nat) (sc : FbSchedule) (e : FbSlot) (i : Item) (s : State), (b < 2 ∧ (s.bus
   b).state ≠ .off) → ((s.bus b).sched = some sc ∧ (s.bus b).slot slot = some e) → ((e.kind = .masterOut ∨ e.kind =
   .spareOut ∧ (sc.slots.any (fun g => g.kind == .spareIn && g.link == slot && (((s.bus b).grant g.slot).any (fun q
   => q.first.isSome)))) = true)) → (s.lane.mute = false ∧ ([0, 1].any (fun ch => s.owned (2 + 2 * b + ch) &&
   s.voters.any (fun m => m != (s.unit (2 + 2 * b + ch)).owner && (s.mast m).alive))) = true) → (s.ctl.mode = .run ∨
   s.ctl.mode = .hold) → (s.bus b).state ≠ .test → (e.gated = false ∧ e.slot = slot) → (s.lane.inForce.find? (fun i
   => i.source == 0xA000 + 0x100 * b + e.slot) = some i ∧ i.len = e.payload ∧ i.tagOk = true) → ∃ s', exec
   (.fbSlotTransmit t b slot (Per.all false)) s = .next s' ∧ (s'.bus b).lastSent = fbFrame 0 slot ((s.bus b).cycle %
   65536) 2 (s.bus b).state.code sc.schedId i.value ∧ ((s'.bus b).slotData slot).sent = some i.value ∧ (s'.bus b) =
   { (s.bus b) with slots := (s'.bus b).slots, lastSent := (s'.bus b).lastSent } ∧ (∀ k, k ≠ slot → (s'.bus
   b).slotData k = (s.bus b).slotData k) ∧ (∀ c, c < 2 → c ≠ b → s'.bus c = s.bus c) ∧ sameBut [.fb] (s.advance t)
   s') ∧
  (∀ (t : Nat) (m : Mast) (b : Nat) (slot : Nat) (sc : FbSchedule) (e : FbSlot) (i : Item) (s : State), (b < 2 ∧
   (s.bus b).state ≠ .off) → ((s.bus b).sched = some sc ∧ (s.bus b).slot slot = some e) → ((e.kind = .masterOut ∨
   e.kind = .spareOut ∧ (sc.slots.any (fun g => g.kind == .spareIn && g.link == slot && (((s.bus b).grant
   g.slot).any (fun q => q.first.isSome)))) = true)) → (s.lane.mute = false ∧ ([0, 1].any (fun ch => s.owned (2 + 2
   * b + ch) && s.voters.any (fun m => m != (s.unit (2 + 2 * b + ch)).owner && (s.mast m).alive))) = true) →
   (s.ctl.mode = .run ∨ s.ctl.mode = .hold) → (s.bus b).state ≠ .test → (e.gated = false ∧ e.slot = slot) →
   (s.lane.inForce.find? (fun i => i.source == 0xA000 + 0x100 * b + e.slot) = some i ∧ i.len = e.payload ∧ i.tagOk =
   true) → (s.votes m = true ∧ (s.unit (2 + 2 * b)).owner ≠ m ∧ (s.unit (3 + 2 * b)).owner ≠ m ∧ s.intake.exitFails
   = []) → (s.owned (2 + 2 * b) = true ∧ (s.voters.any (fun o => o != (s.unit (2 + 2 * b)).owner && (s.mast o).alive
   && o != m)) = true) → ∃ s', exec (.fbSlotTransmit t b slot ((Per.all false).set m true)) s = .next s' ∧ (s'.bus
   b).lastSent = fbFrame 0 slot ((s.bus b).cycle % 65536) 2 (s.bus b).state.code sc.schedId i.value ∧ raised s' (2 ^
   m.code) evTagExitFail i.source m.code ∧ s'.lane = s.lane ∧ (∀ c, c < 2 → c ≠ b → s'.bus c = s.bus c) ∧ sameBut
   [.fb, .intake, .log] (s.advance t) s') ∧
  (∀ (t : Nat) (b : Nat) (slot : Nat) (sc : FbSchedule) (e : FbSlot) (i : Item) (s : State), (b < 2 ∧ (s.bus
   b).state ≠ .off) → ((s.bus b).sched = some sc ∧ (s.bus b).slot slot = some e) → ((e.kind = .masterOut ∨ e.kind =
   .spareOut ∧ (sc.slots.any (fun g => g.kind == .spareIn && g.link == slot && (((s.bus b).grant g.slot).any (fun q
   => q.first.isSome)))) = true)) → (s.lane.mute = false ∧ ([0, 1].any (fun ch => s.owned (2 + 2 * b + ch) &&
   s.voters.any (fun m => m != (s.unit (2 + 2 * b + ch)).owner && (s.mast m).alive))) = true) → (s.ctl.mode = .run ∨
   s.ctl.mode = .hold) → (s.bus b).state ≠ .test → (e.gated = false ∧ e.slot = slot) → (s.lane.inForce.find? (fun i
   => i.source == 0xA000 + 0x100 * b + e.slot) = some i ∧ i.len ≠ e.payload) → ∃ s', exec (.fbSlotTransmit t b slot
   (Per.all false)) s = .next s' ∧ (s'.bus b).lastSent = fbFrame 0 slot ((s.bus b).cycle % 65536) (if ((s.bus
   b).slotData slot).sent.isSome then 2 else 3) (s.bus b).state.code sc.schedId (((s.bus b).slotData slot).sent.getD
   []) ∧ (s'.bus b) = { (s.bus b) with slots := (s'.bus b).slots, lastSent := (s'.bus b).lastSent } ∧ (∀ k, k ≠ slot
   → (s'.bus b).slotData k = (s.bus b).slotData k) ∧ (∀ c, c < 2 → c ≠ b → s'.bus c = s.bus c) ∧ sameBut [.fb]
   (s.advance t) s') ∧
  (∀ (t : Nat) (b : Nat) (slot : Nat) (sc : FbSchedule) (e : FbSlot) (s : State), (b < 2 ∧ (s.bus b).state ≠ .off) →
   ((s.bus b).sched = some sc ∧ (s.bus b).slot slot = some e) → ((e.kind = .masterOut ∨ e.kind = .spareOut ∧
   (sc.slots.any (fun g => g.kind == .spareIn && g.link == slot && (((s.bus b).grant g.slot).any (fun q =>
   q.first.isSome)))) = true)) → (s.lane.mute = false ∧ ([0, 1].any (fun ch => s.owned (2 + 2 * b + ch) &&
   s.voters.any (fun m => m != (s.unit (2 + 2 * b + ch)).owner && (s.mast m).alive))) = true) → (s.ctl.mode = .run ∨
   s.ctl.mode = .hold) → (s.bus b).state ≠ .test → (e.gated = true ∧ e.slot = slot) → ∃ s', exec (.fbSlotTransmit t
   b slot (Per.all false)) s = .next s' ∧ (s'.bus b).lastSent = fbFrame 0 slot ((s.bus b).cycle % 65536) (if ((s.bus
   b).slotData slot).gate.isSome then 2 else 3) (s.bus b).state.code sc.schedId (((s.bus b).slotData slot).gate.getD
   []) ∧ (s'.bus b) = { (s.bus b) with slots := (s'.bus b).slots, lastSent := (s'.bus b).lastSent } ∧ (∀ k, k ≠ slot
   → (s'.bus b).slotData k = (s.bus b).slotData k) ∧ (∀ c, c < 2 → c ≠ b → s'.bus c = s.bus c) ∧ sameBut [.fb]
   (s.advance t) s') ∧
  (∀ (t : Nat) (b : Nat) (slot : Nat) (sc : FbSchedule) (e : FbSlot) (s : State), (b < 2 ∧ (s.bus b).state ≠ .off) →
   ((s.bus b).sched = some sc ∧ (s.bus b).slot slot = some e) → ((e.kind = .masterOut ∨ e.kind = .spareOut ∧
   (sc.slots.any (fun g => g.kind == .spareIn && g.link == slot && (((s.bus b).grant g.slot).any (fun q =>
   q.first.isSome)))) = true)) → (s.lane.mute = false ∧ ([0, 1].any (fun ch => s.owned (2 + 2 * b + ch) &&
   s.voters.any (fun m => m != (s.unit (2 + 2 * b + ch)).owner && (s.mast m).alive))) = true) → (s.ctl.mode = .run ∨
   s.ctl.mode = .hold) → (s.bus b).state ≠ .test → (e.gated = false ∧ s.lane.inForce.find? (fun i => i.source ==
   0xA000 + 0x100 * b + e.slot) = none) → ∃ s', exec (.fbSlotTransmit t b slot (Per.all false)) s = .next s' ∧
   (s'.bus b).lastSent = fbFrame 0 slot ((s.bus b).cycle % 65536) 3 (s.bus b).state.code sc.schedId [] ∧ (s'.bus b)
   = { (s.bus b) with slots := (s'.bus b).slots, lastSent := (s'.bus b).lastSent } ∧ (∀ k, k ≠ slot → (s'.bus
   b).slotData k = (s.bus b).slotData k) ∧ (∀ c, c < 2 → c ≠ b → s'.bus c = s.bus c) ∧ sameBut [.fb] (s.advance t)
   s') ∧
  (∀ (t : Nat) (b : Nat) (slot : Nat) (sc : FbSchedule) (e : FbSlot) (s : State), (b < 2 ∧ (s.bus b).state ≠ .off) →
   ((s.bus b).sched = some sc ∧ (s.bus b).slot slot = some e) → ((e.kind = .masterOut ∨ e.kind = .spareOut ∧
   (sc.slots.any (fun g => g.kind == .spareIn && g.link == slot && (((s.bus b).grant g.slot).any (fun q =>
   q.first.isSome)))) = true)) → (s.lane.mute = false ∧ ([0, 1].any (fun ch => s.owned (2 + 2 * b + ch) &&
   s.voters.any (fun m => m != (s.unit (2 + 2 * b + ch)).owner && (s.mast m).alive))) = true) → (s.bus b).state =
   .test → ∃ s', exec (.fbSlotTransmit t b slot (Per.all false)) s = .next s' ∧ (s'.bus b).lastSent = fbFrame 0 slot
   ((s.bus b).cycle % 65536) 6 (s.bus b).state.code sc.schedId ((List.range e.payload).map (fun i => BitVec.ofNat 8
   i)) ∧ (s'.bus b) = { (s.bus b) with slots := (s'.bus b).slots, lastSent := (s'.bus b).lastSent } ∧ (∀ k, k ≠ slot
   → (s'.bus b).slotData k = (s.bus b).slotData k) ∧ (∀ c, c < 2 → c ≠ b → s'.bus c = s.bus c) ∧ sameBut [.fb]
   (s.advance t) s') ∧
  (∀ (t : Nat) (b : Nat) (ch pos : Nat) (ofs rel : Int) (f g : List Byte) (sc : FbSchedule) (e : FbSlot) (s :
   State), (b < 2 ∧ ch < 2) → (∃ m ∈ s.voters, (s.mast m).powered = true) → f = fbPreamble ++ g → (((s.bus b).slot
   pos).elim 0 (fun p => (p.offset : Int) * 100) + ofs = e.offset * 100 + rel ∧ (s.bus b).ignored ch ≤ e.offset *
   100 + rel) → ((s.bus b).sched = some sc ∧ (s.bus b).state ≠ .off ∧ (s.bus b).reported = false) → e.kind.nodeSide
   = true → (s.bus b).cycState = .normal → ((s.bus b).slot (fieldAt g 1 1) = some e ∧ e.slot = fieldAt g 1 1) →
   (s.bus b).coded ch (fieldAt g 1 1) = false → (fbCrcOk g = true ∧ fieldAt g 5 1 ≤ 32) → (typeLen e.payload
   (fieldAt g 4 1) = some (fieldAt g 5 1) ∧ (s.bus b).allowed e (fieldAt g 0 1) (fieldAt g 4 1) = true) → (fieldAt g
   2 2 = (s.bus b).cycle % 65536 ∧ fieldAt g 8 4 = sc.schedId) → (-1000 ≤ rel ∧ rel ≤ 1000) → ∃ s', exec
   (.fbFrameReceived t b ch pos ofs f false false) s = .next s' ∧ s'.intake =
   { s.intake with fan := s.intake.fan ++ [Item.form (0x2000 + 0x100 * b + 0x80 * ch + e.slot) ((s.bus b).cycle % 65536) (s.time.lastAiTime + e.offset * 100) (natLe 1 (if fieldAt g 4 1 = 2 then 1 else if fieldAt g 4 1 = 3 then 2 else if fieldAt g 4 1 = 4 then 11 else 12) ++ natLe 1 0 ++ natLe 2 (unsigned 16 rel) ++ g.take (16 + fieldAt g 5 1))] }
   ∧ (s'.bus b) = (s.bus b).noteCode ch (fieldAt g 1 1) (if fieldAt g 4 1 = 2 then 1 else if fieldAt g 4 1 = 3 then
   2 else if fieldAt g 4 1 = 4 then 11 else 12) ∧ (∀ c, c < 2 → c ≠ b → s'.bus c = s.bus c) ∧ sameBut [.fb, .intake]
   (s.advance t) s') ∧
  (∀ (t : Nat) (b : Nat) (ch pos : Nat) (ofs rel : Int) (f g : List Byte) (extra : Bool) (sc : FbSchedule) (e :
   FbSlot) (s : State), (b < 2 ∧ ch < 2) → (∃ m ∈ s.voters, (s.mast m).powered = true) → f = fbPreamble ++ g →
   (((s.bus b).slot pos).elim 0 (fun p => (p.offset : Int) * 100) + ofs = e.offset * 100 + rel ∧ (s.bus b).ignored
   ch ≤ e.offset * 100 + rel) → ((s.bus b).sched = some sc ∧ (s.bus b).state ≠ .off ∧ (s.bus b).reported = false) →
   e.kind.nodeSide = true → (s.bus b).cycState = .normal → (fbCrcOk g = false ∧ fieldAt g 5 1 ≤ 32) → ((s.bus
   b).slot pos = some e ∧ (s.bus b).coded ch pos = false) → ∃ s', exec (.fbFrameReceived t b ch pos ofs f extra
   false) s = .next s' ∧ (s'.bus b) = (s.bus b).noteCode ch pos (if e.kind = .claim then 10 else 6) ∧ (∀ c, c < 2 →
   c ≠ b → s'.bus c = s.bus c) ∧ sameBut [.fb] (s.advance t) s') ∧
  (∀ (t : Nat) (b : Nat) (ch pos : Nat) (ofs rel : Int) (f g : List Byte) (extra : Bool) (sc : FbSchedule) (e :
   FbSlot) (s : State), (b < 2 ∧ ch < 2) → (∃ m ∈ s.voters, (s.mast m).powered = true) → f = fbPreamble ++ g →
   (((s.bus b).slot pos).elim 0 (fun p => (p.offset : Int) * 100) + ofs = e.offset * 100 + rel ∧ (s.bus b).ignored
   ch ≤ e.offset * 100 + rel) → ((s.bus b).sched = some sc ∧ (s.bus b).state ≠ .off ∧ (s.bus b).reported = false) →
   e.kind.nodeSide = true → (s.bus b).cycState = .normal → ((s.bus b).slot (fieldAt g 1 1) = some e ∧ e.slot =
   fieldAt g 1 1) → (s.bus b).coded ch (fieldAt g 1 1) = false → (fbCrcOk g = true ∧ fieldAt g 5 1 ≤ 32) → fieldAt g
   4 1 ≠ 1 → ((∃ n ∈ typeLen e.payload (fieldAt g 4 1), fieldAt g 5 1 ≠ n) ∨ extra = true) → ∃ s', exec
   (.fbFrameReceived t b ch pos ofs f extra false) s = .next s' ∧ (s'.bus b) = (s.bus b).noteCode ch (fieldAt g 1 1)
   (if e.kind = .claim then 10 else 7) ∧ (∀ c, c < 2 → c ≠ b → s'.bus c = s.bus c) ∧ sameBut [.fb] (s.advance t) s') ∧
  (∀ (t : Nat) (b : Nat) (ch pos : Nat) (ofs rel : Int) (f g : List Byte) (extra : Bool) (sc : FbSchedule) (e :
   FbSlot) (s : State), (b < 2 ∧ ch < 2) → (∃ m ∈ s.voters, (s.mast m).powered = true) → f = fbPreamble ++ g →
   (((s.bus b).slot pos).elim 0 (fun p => (p.offset : Int) * 100) + ofs = e.offset * 100 + rel ∧ (s.bus b).ignored
   ch ≤ e.offset * 100 + rel) → ((s.bus b).sched = some sc ∧ (s.bus b).state ≠ .off ∧ (s.bus b).reported = false) →
   e.kind.nodeSide = true → (s.bus b).cycState = .normal → ((s.bus b).slot (fieldAt g 1 1) = some e ∧ e.slot =
   fieldAt g 1 1) → (s.bus b).coded ch (fieldAt g 1 1) = false → (fbCrcOk g = true ∧ fieldAt g 5 1 ≤ 32) → fieldAt g
   4 1 ≠ 1 → ((typeLen e.payload (fieldAt g 4 1)).all (fun n => n == fieldAt g 5 1) = true ∧ extra = false) →
   (fieldAt g 2 2 ≠ (s.bus b).cycle % 65536 ∨ fieldAt g 8 4 ≠ sc.schedId) → ∃ s', exec (.fbFrameReceived t b ch pos
   ofs f extra false) s = .next s' ∧ (s'.bus b) = (s.bus b).noteCode ch (fieldAt g 1 1) (if e.kind = .claim then 10
   else 8) ∧ (∀ c, c < 2 → c ≠ b → s'.bus c = s.bus c) ∧ sameBut [.fb] (s.advance t) s') ∧
  (∀ (t : Nat) (b : Nat) (ch pos : Nat) (ofs rel : Int) (f g : List Byte) (extra : Bool) (sc : FbSchedule) (e :
   FbSlot) (s : State), (b < 2 ∧ ch < 2) → (∃ m ∈ s.voters, (s.mast m).powered = true) → f = fbPreamble ++ g →
   (((s.bus b).slot pos).elim 0 (fun p => (p.offset : Int) * 100) + ofs = e.offset * 100 + rel ∧ (s.bus b).ignored
   ch ≤ e.offset * 100 + rel) → ((s.bus b).sched = some sc ∧ (s.bus b).state ≠ .off ∧ (s.bus b).reported = false) →
   e.kind.nodeSide = true → (s.bus b).cycState = .normal → ((s.bus b).slot (fieldAt g 1 1) = some e ∧ e.slot =
   fieldAt g 1 1) → (s.bus b).coded ch (fieldAt g 1 1) = false → (fbCrcOk g = true ∧ fieldAt g 5 1 ≤ 32) → fieldAt g
   4 1 ≠ 1 → ((typeLen e.payload (fieldAt g 4 1)).all (fun n => n == fieldAt g 5 1) = true ∧ extra = false) →
   (fieldAt g 2 2 = (s.bus b).cycle % 65536 ∧ fieldAt g 8 4 = sc.schedId) → (s.bus b).allowed e (fieldAt g 0 1)
   (fieldAt g 4 1) = false → ∃ s', exec (.fbFrameReceived t b ch pos ofs f extra false) s = .next s' ∧ (s'.bus b) =
   (s.bus b).noteCode ch (fieldAt g 1 1) (if e.kind = .claim then 10 else 9) ∧ (∀ c, c < 2 → c ≠ b → s'.bus c =
   s.bus c) ∧ sameBut [.fb] (s.advance t) s') ∧
  (∀ (t : Nat) (b : Nat) (ch pos : Nat) (ofs rel : Int) (f g : List Byte) (extra : Bool) (sc : FbSchedule) (e :
   FbSlot) (s : State), (b < 2 ∧ ch < 2) → (∃ m ∈ s.voters, (s.mast m).powered = true) → f = fbPreamble ++ g →
   (((s.bus b).slot pos).elim 0 (fun p => (p.offset : Int) * 100) + ofs = e.offset * 100 + rel ∧ (s.bus b).ignored
   ch ≤ e.offset * 100 + rel) → ((s.bus b).sched = some sc ∧ (s.bus b).state ≠ .off ∧ (s.bus b).reported = false) →
   e.kind.nodeSide = true → (s.bus b).cycState = .normal → ((s.bus b).slot (fieldAt g 1 1) = some e ∧ e.slot =
   fieldAt g 1 1) → (s.bus b).coded ch (fieldAt g 1 1) = false → (fbCrcOk g = true ∧ fieldAt g 5 1 ≤ 32) → fieldAt g
   4 1 ≠ 1 → ((typeLen e.payload (fieldAt g 4 1)).all (fun n => n == fieldAt g 5 1) = true ∧ extra = false) →
   (fieldAt g 2 2 = (s.bus b).cycle % 65536 ∧ fieldAt g 8 4 = sc.schedId) → (s.bus b).allowed e (fieldAt g 0 1)
   (fieldAt g 4 1) = true → (rel < -1000 ∨ 1000 < rel) → ∃ s', exec (.fbFrameReceived t b ch pos ofs f extra false)
   s = .next s' ∧ (s'.bus b) = (s.bus b).noteCode ch (fieldAt g 1 1) (if e.kind = .claim then 10 else (if rel <
   -1000 then 4 else 5)) ∧ (∀ c, c < 2 → c ≠ b → s'.bus c = s.bus c) ∧ sameBut [.fb] (s.advance t) s') ∧
  (∀ (t : Nat) (b : Nat) (ch pos : Nat) (ofs rel : Int) (f g : List Byte) (extra : Bool) (sc : FbSchedule) (e :
   FbSlot) (s : State), (b < 2 ∧ ch < 2) → (∃ m ∈ s.voters, (s.mast m).powered = true) → f = fbPreamble ++ g →
   (((s.bus b).slot pos).elim 0 (fun p => (p.offset : Int) * 100) + ofs = e.offset * 100 + rel ∧ (s.bus b).ignored
   ch ≤ e.offset * 100 + rel) → ((s.bus b).sched = some sc ∧ (s.bus b).state ≠ .off ∧ (s.bus b).reported = false) →
   e.kind.nodeSide = true → (s.bus b).cycState = .normal → ((s.bus b).slot (fieldAt g 1 1) = some e ∧ e.slot =
   fieldAt g 1 1) → (s.bus b).coded ch (fieldAt g 1 1) = false → 32 < fieldAt g 5 1 → ∃ s', exec (.fbFrameReceived t
   b ch pos ofs f extra false) s = .next s' ∧ (s'.bus b) = ((s.bus b).ignoreSlot ch pos).noteCode ch (fieldAt g 1 1)
   (if e.kind = .claim then 10 else 7) ∧ s'.intake = s.intake ∧ (∀ c, c < 2 → c ≠ b → s'.bus c = s.bus c) ∧ sameBut
   [.fb] (s.advance t) s') ∧
  (∀ (t : Nat) (b : Nat) (ch pos : Nat) (ofs rel : Int) (f g : List Byte) (extra : Bool) (sc : FbSchedule) (e :
   FbSlot) (s : State), (b < 2 ∧ ch < 2) → (∃ m ∈ s.voters, (s.mast m).powered = true) → f = fbPreamble ++ g →
   (((s.bus b).slot pos).elim 0 (fun p => (p.offset : Int) * 100) + ofs = e.offset * 100 + rel ∧ (s.bus b).ignored
   ch ≤ e.offset * 100 + rel) → ((s.bus b).sched = some sc ∧ (s.bus b).state ≠ .off ∧ (s.bus b).reported = false) →
   e.kind.nodeSide = true → (s.bus b).cycState ≠ .normal → ((s.bus b).slot (fieldAt g 1 1) = some e ∧ e.slot =
   fieldAt g 1 1) → (fbCrcOk g = true ∧ fieldAt g 5 1 ≤ 32) → fieldAt g 4 1 ≠ 1 → ∃ s', exec (.fbFrameReceived t b
   ch pos ofs f extra false) s = .next s' ∧ s'.getF .agreed (fbF fFbSuppSuppressed b) = min 65535 (s.getF .agreed
   (fbF fFbSuppSuppressed b) + 1) ∧ (s'.bus b) =
   { (s.bus b) with codesX := (s'.bus b).codesX, codesY := (s'.bus b).codesY } ∧ (∀ c, c < 2 → c ≠ b → s'.bus c =
   s.bus c) ∧ regsBut [(.agreed, rFbSupp + 0x800 * b)] s s' ∧ sameBut [.fb, .regs] (s.advance t) s') ∧
  (∀ (t : Nat) (b : Nat) (ch pos : Nat) (ofs rel : Int) (f g : List Byte) (extra : Bool) (sc : FbSchedule) (e :
   FbSlot) (s : State), (b < 2 ∧ ch < 2) → (∃ m ∈ s.voters, (s.mast m).powered = true) → f = fbPreamble ++ g →
   (((s.bus b).slot pos).elim 0 (fun p => (p.offset : Int) * 100) + ofs = e.offset * 100 + rel ∧ (s.bus b).ignored
   ch ≤ e.offset * 100 + rel) → ((s.bus b).sched = some sc ∧ (s.bus b).state ≠ .off ∧ (s.bus b).reported = false) →
   e.kind.nodeSide = true → (fbCrcOk g = true ∧ fieldAt g 5 1 ≤ 32) → fieldAt g 4 1 = 1 → s.log.limits = [] → (s.bus
   b).cycState = .normal → ∃ s', exec (.fbFrameReceived t b ch pos ofs f extra false) s = .next s' ∧ s'.getF .agreed
   (fbF fFbStaleForeign b) = min 65535 (s.getF .agreed (fbF fFbStaleForeign b) + 1) ∧ raised s' s.lane.active.mask
   evFbSecondMaster b ch ∧ s'.intake = s.intake ∧ (∀ c, c < 2 → c ≠ b → s'.bus c = s.bus c) ∧ regsBut [(.agreed,
   rFbStale + 0x800 * b)] s s' ∧ sameBut [.fb, .regs, .log] (s.advance t) s') ∧
  (∀ (t : Nat) (b : Nat) (ch pos : Nat) (ofs : Int) (f g : List Byte) (extra : Bool) (sc : FbSchedule) (s : State),
   (b < 2 ∧ ch < 2) → (∃ m ∈ s.voters, (s.mast m).powered = true) → f = fbPreamble ++ g → ((s.bus b).sched = some sc
   ∧ (s.bus b).state ≠ .off) → (f ≠ (s.bus b).csFrame ∧ f ≠ (s.bus b).lastSent) → ∃ s', exec (.fbFrameReceived t b
   ch pos ofs f extra true) s = .next s' ∧ s'.getF .agreed (fbF (if ch = 0 then fFbErrxEcho else fFbErryEcho) b) =
   min 255 (s.getF .agreed (fbF (if ch = 0 then fFbErrxEcho else fFbErryEcho) b) + 1) ∧ regsBut [(.agreed, (if ch =
   0 then rFbErrx else rFbErry) + 0x800 * b)] s s' ∧ sameBut [.regs] (s.advance t) s') ∧
  (∀ (t : Nat) (b : Nat) (ch pos : Nat) (ofs : Int) (f : List Byte) (extra : Bool) (sc : FbSchedule) (e : FbSlot) (s
   : State), (b < 2 ∧ ch < 2) → (∃ m ∈ s.voters, (s.mast m).powered = true) → f.take 3 ≠ fbPreamble → ((s.bus
   b).sched = some sc ∧ (s.bus b).state ≠ .off ∧ (s.bus b).reported = false) → ((s.bus b).slot pos = some e ∧ e.kind
   = .claim) → ∃ s', exec (.fbFrameReceived t b ch pos ofs f extra false) s = .next s' ∧ (s'.bus b) = (s.bus
   b).noteCode ch pos 10 ∧ (∀ c, c < 2 → c ≠ b → s'.bus c = s.bus c) ∧ sameBut [.fb] (s.advance t) s') ∧
  (∀ (t : Nat) (b : Nat) (ch pos : Nat) (ofs : Int) (f : List Byte) (extra own : Bool) (s : State), (b < 2 ∧ ch < 2)
   → (∃ m ∈ s.voters, (s.mast m).powered = true) → (s.bus b).state = .off → f.take 3 = fbPreamble → ∃ s', exec
   (.fbFrameReceived t b ch pos ofs f extra own) s = .next s' ∧ s'.getF .agreed (fbF fFbPreCount b) = min 4294967295
   (s.getF .agreed (fbF fFbPreCount b) + 1) ∧ regsBut [(.agreed, rFbPre + 0x800 * b)] s s' ∧ sameBut [.regs]
   (s.advance t) s') ∧
  (∀ (t : Nat) (b : Nat) (s : State), b < 2 → ((s.bus b).state ≠ .off ∧ (s.bus b).reported = false ∧ (s.bus
   b).sched.isSome = true) → ∃ s', exec (.fbSlotReport t b) s = .next s' ∧ (s'.bus b) =
   { (s.bus b) with reported := true } ∧ s'.intake =
   { s.intake with fan := s.intake.fan ++ [Item.form (0x2000 + 0x100 * b + 0x80 * 0) ((s.bus b).cycle % 65536) s.time.lastAiTime (natLe 2 ((s.bus b).cycle % 65536) ++ natLe 1 (s.bus b).cycState.code ++ natLe 1 0 ++ packCodes ((s.bus b).reportCodes 0)), Item.form (0x2000 + 0x100 * b + 0x80 * 1) ((s.bus b).cycle % 65536) s.time.lastAiTime (natLe 2 ((s.bus b).cycle % 65536) ++ natLe 1 (s.bus b).cycState.code ++ natLe 1 0 ++ packCodes ((s.bus b).reportCodes 1))] }
   ∧ s'.getF .agreed (fbF fFbErrxCrc b) = min 65535 (s.getF .agreed (fbF fFbErrxCrc b) + countIn ((s.bus
   b).reportCodes 0) 6) ∧ s'.getF .agreed (fbF fFbErryCrc b) = min 65535 (s.getF .agreed (fbF fFbErryCrc b) +
   countIn ((s.bus b).reportCodes 1) 6) ∧ s'.getF .agreed (fbF fFbErrxEcho b) = s.getF .agreed (fbF fFbErrxEcho b) ∧
   (∀ c, c < 2 → c ≠ b → s'.bus c = s.bus c) ∧ regsBut ([rFbErrx, rFbErry, rFbEmpty, rFbTiming, rFbStale].map (fun a
   => (.agreed, a + 0x800 * b)) ++ (List.range 16).map (fun i => (.agreed, rFbSlotrpt0 + 0x800 * b + 4 * i))) s s' ∧
   sameBut [.fb, .regs, .intake] (s.advance t) s')

/-- For every release in which a report of the bus is agreed. fbNodeLost: an active node whose slots delivered nothing
for its timeout becomes silent with FB_NODE_LOST. fbNodeExcluded: a node with its fourth violation in a row is
excluded with FB_NODE_EXCLUDED. fbNodeReadmitted: a node on probation with its fourth cycle accepted in a row is
active again with FB_NODE_READMITTED. fbGrantWithdraw: a grant carried four times and unused for two cycles more is
withdrawn, its withdrawal waits to be announced, is counted and raises FB_CLAIM_REFUSED with reason 5.
fbGrantIdleExpiry: a used grant without an accepted frame for RELEASE_CYCLES ends with FB_GRANT_RELEASED.
fbChannelFault: a channel that heard nothing for the sixteenth cycle while the other did raises FB_CHANNEL_FAULT.
Only the node or the grant concerned changes, the registers that show it, and the log. Completion: for every state
and operands that meet the stated conditions on them alone, exec answers the next state of the own effect of
fbNodeLost (FB_NODE_LOST), fbNodeExcluded (FB_NODE_EXCLUDED), fbNodeReadmitted (FB_NODE_READMITTED), fbGrantWithdraw
(FB_GRANT_WITHDRAW), fbGrantIdleExpiry (FB_GRANT_IDLE_EXPIRY), fbChannelFault (FB_CHANNEL_FAULT). -/
def Obligations.DoorBusNodesAndGrants : Prop :=
  (∀ (t : Nat) (b : Nat) (k : Nat) (v : FbView) (n : FbNode) (sc : FbSchedule) (s : State), b < 2 → s.fbReleasing b
   = some v → ((s.bus b).node k = some n ∧ n.judged = false ∧ (s.bus b).slotsOf k ≠ []) → n.node = k → n.state = 2 →
   ((s.bus b).slotsOf k).all (fun i => !v.any i) = true → ((v.normal && ((s.bus b).slotsOf k).any v.timing) = false
   ∧ n.viol < 4 ∨ n.viol < 3) → ((s.bus b).sched = some sc ∧ sc.nodeTimeout ≤ n.quiet + 1) → ∃ s', exec (.fbNodeLost
   t b k) s = .next s' ∧ (s'.bus b) = (s.bus b).setNode
   { n with state := 1, age := n.age + 1, quiet := n.quiet + 1,
            viol := n.viol + b2n (v.normal && ((s.bus b).slotsOf k).any v.timing), judged := true }
   ∧ raised s' s.lane.active.mask evFbNodeLost b k ∧ (∀ c, c < 2 → c ≠ b → s'.bus c = s.bus c) ∧ regsBut ([rFbStat,
   rFbExclLo, rFbExclHi, rFbLastclaim, rFbClaim].map (fun a => (.agreed, a + 0x800 * b)) ++ (s.bus b).nodes.map (fun
   e => (.agreed, rFbNode0 + 0x800 * b + 4 * (e.node - 1)))) s s' ∧ sameBut [.fb, .regs, .log] (s.advance t) s') ∧
  (∀ (t : Nat) (b : Nat) (k : Nat) (v : FbView) (n : FbNode) (s : State), b < 2 → s.fbReleasing b = some v → ((s.bus
   b).node k = some n ∧ n.judged = false ∧ (s.bus b).slotsOf k ≠ []) → n.node = k → v.normal = true → (n.state ≠ 3 ∧
   n.state ≠ 4 ∧ n.viol = 3) → (((s.bus b).slotsOf k).all (fun i => !v.any i) = true ∧ ((s.bus b).slotsOf k).any
   v.timing = true) → ∃ s', exec (.fbNodeExcluded t b k) s = .next s' ∧ (s'.bus b) = (s.bus b).setNode
   { n with state := 3, age := n.age + 1, quiet := n.quiet + 1, viol := 4, ignore := 9, okRow := 0, judged := true }
   ∧ raised s' s.lane.active.mask evFbNodeExcluded b k ∧ (∀ c, c < 2 → c ≠ b → s'.bus c = s.bus c) ∧ regsBut
   ([rFbStat, rFbExclLo, rFbExclHi, rFbLastclaim, rFbClaim].map (fun a => (.agreed, a + 0x800 * b)) ++ (s.bus
   b).nodes.map (fun e => (.agreed, rFbNode0 + 0x800 * b + 4 * (e.node - 1)))) s s' ∧ sameBut [.fb, .regs, .log]
   (s.advance t) s') ∧
  (∀ (t : Nat) (b : Nat) (k : Nat) (v : FbView) (n : FbNode) (s : State), b < 2 → s.fbReleasing b = some v → ((s.bus
   b).node k = some n ∧ n.judged = false ∧ (s.bus b).slotsOf k ≠ []) → n.node = k → ((n.state = 3 ∨ n.state = 4) ∧
   n.ignore = 0 ∧ 3 ≤ n.okRow) → ((s.bus b).slotsOf k).any v.any = true → ∃ s', exec (.fbNodeReadmitted t b k) s =
   .next s' ∧ (s'.bus b) = (s.bus b).setNode
   { n with state := 2, age := 0,
            ofs := (((s.bus b).slotsOf k).findSome? v.one).elim n.ofs (fun f => signed 16 (fieldAt f 2 2)),
            viol := 0, okRow := 0, quiet := 0, judged := true }
   ∧ raised s' s.lane.active.mask evFbNodeReadmitted b k ∧ (∀ c, c < 2 → c ≠ b → s'.bus c = s.bus c) ∧ regsBut
   ([rFbStat, rFbExclLo, rFbExclHi, rFbLastclaim, rFbClaim].map (fun a => (.agreed, a + 0x800 * b)) ++ (s.bus
   b).nodes.map (fun e => (.agreed, rFbNode0 + 0x800 * b + 4 * (e.node - 1)))) s s' ∧ sameBut [.fb, .regs, .log]
   (s.advance t) s') ∧
  (∀ (t : Nat) (b : Nat) (k : Nat) (v : FbView) (g : FbGrant) (s : State), b < 2 → s.fbReleasing b = some v →
   ((s.bus b).grant k = some g ∧ g.judged = false) → v.one g.slot = none → (g.seen = false ∧ 4 ≤ g.carried ∧ 0 <
   g.idle) → ∃ s', exec (.fbGrantWithdraw t b k) s = .next s' ∧ (s'.bus b) =
   { (s.bus b).dropGrant g with withdrawn := (s.bus b).withdrawn ++ [⟨4, g.node, g.slot⟩] } ∧ raised s'
   s.lane.active.mask evFbClaimRefused b (g.node * 256 + 5) ∧ s'.getF .agreed (fbF fFbClaimWithdrawn b) = min 255
   (s.getF .agreed (fbF fFbClaimWithdrawn b) + 1) ∧ s'.reg .agreed (rFbLastclaim + 0x800 * b) = BitVec.ofNat 32 (4 *
   16777216 + 0 * 65536 + g.slot * 256 + g.node) ∧ (∀ c, c < 2 → c ≠ b → s'.bus c = s.bus c) ∧ regsBut ([rFbStat,
   rFbExclLo, rFbExclHi, rFbLastclaim, rFbClaim].map (fun a => (.agreed, a + 0x800 * b)) ++ (s.bus b).nodes.map (fun
   e => (.agreed, rFbNode0 + 0x800 * b + 4 * (e.node - 1)))) s s' ∧ sameBut [.fb, .regs, .log] (s.advance t) s') ∧
  (∀ (t : Nat) (b : Nat) (k : Nat) (v : FbView) (g : FbGrant) (sc : FbSchedule) (s : State), b < 2 → s.fbReleasing b
   = some v → ((s.bus b).grant k = some g ∧ g.judged = false) → v.one g.slot = none → g.seen = true → ((s.bus
   b).sched = some sc ∧ sc.releaseCycles ≤ g.idle + 1) → ∃ s', exec (.fbGrantIdleExpiry t b k) s = .next s' ∧
   (s'.bus b) = (s.bus b).dropGrant g ∧ raised s' s.lane.active.mask evFbGrantReleased b (g.node * 256 + g.slot) ∧
   s'.reg .agreed (rFbLastclaim + 0x800 * b) = BitVec.ofNat 32 (5 * 16777216 + 0 * 65536 + g.slot * 256 + g.node) ∧
   (∀ c, c < 2 → c ≠ b → s'.bus c = s.bus c) ∧ regsBut ([rFbStat, rFbExclLo, rFbExclHi, rFbLastclaim, rFbClaim].map
   (fun a => (.agreed, a + 0x800 * b)) ++ (s.bus b).nodes.map (fun e => (.agreed, rFbNode0 + 0x800 * b + 4 * (e.node
   - 1)))) s s' ∧ sameBut [.fb, .regs, .log] (s.advance t) s') ∧
  (∀ (t : Nat) (b : Nat) (ch : Nat) (v : FbView) (s : State), b < 2 → s.fbReleasing b = some v → (v.normal = true ∧
   ch < 2) → ((if ch = 0 then (s.bus b).deafX else (s.bus b).deafY) = 15 ∧ (if ch = 0 then (s.bus b).judgedX else
   (s.bus b).judgedY) = false) → (v.frames.any (fun f => f.1 == ch) = false ∧ v.frames.any (fun f => f.1 != ch) =
   true) → ∃ s', exec (.fbChannelFault t b ch) s = .next s' ∧ (s'.bus b) = (if ch = 0 then
   { (s.bus b) with deafX := 16, judgedX := true } else { (s.bus b) with deafY := 16, judgedY := true }) ∧ s'.getF
   .agreed (fbF (if ch = 0 then fFbStatXfault else fFbStatYfault) b) = 1 ∧ raised s' s.lane.active.mask
   evFbChannelFault b ch ∧ (∀ c, c < 2 → c ≠ b → s'.bus c = s.bus c) ∧ regsBut [(.agreed, rFbStat + 0x800 * b)] s s'
   ∧ sameBut [.fb, .regs, .log] (s.advance t) s')

/-- For every state in which the field engine has power. commandFrameSend: a mast sends its next sequence, its timebase
and the commands of the image in force and of the next one, where the engine reports its configuration CRC, the next
configuration frame otherwise; an output whose item fails its tag keeps its command and raises TAG_EXIT_FAIL.
commandFrameReceived: a frame of the right form and sequence makes the link valid and sets the commands of its
position, unless the link has expired; a wrong one is rejected, counted in ENGERR and ends the link's validity.
configFrameReceived keeps the 32 bytes; where two positions have delivered one body it is adopted. inputFrameSend
sends up to seven waiting items with each link's next sequence. inputFrameReceived: a valid frame is noted and its
items arrive at the mast, a bad one is counted in RXERR, and a mast told its link has expired goes fail-silent;
mastInputFrameTimeout does so after the timeout. linkSilenceDetect marks the link and its position, a rejected frame
also counts; linkSilenceTimeout expires the link with FI_LINK_SILENT and gives a position without a link that long
its silence state. Completion: for every state and operands that meet the stated conditions on them alone, exec
answers the next state of the own effect of commandFrameSend (COMMAND_FRAME_SEND), commandFrameReceived
(COMMAND_FRAME_RECEIVED), configFrameReceived (CONFIG_FRAME_RECEIVED), inputFrameSend (INPUT_FRAME_SEND),
inputFrameReceived (INPUT_FRAME_RECEIVED), mastInputFrameTimeout (MAST_INPUT_FRAME_TIMEOUT), linkSilenceDetect
(LINK_SILENCE_DETECT), linkSilenceTimeout (LINK_SILENCE_TIMEOUT). -/
def Obligations.FieldLinksAndFrames : Prop :=
  (∀ (t : Nat) (m : Mast) (damaged : List Nat) (s : State), s.field.powered = true → (s.mast m).alive = true →
   s.ctl.mode ≠ .boot → (s.field.fsec.isSome = true → (s.field.masts.get m).engineCrc = s.ownCfgCrc) → (s.ctl.mode ≠
   .run ∧ s.ctl.mode ≠ .hold ∨ badOutputs (s.lane.decision.elim s.lane.inForce (fun d => d.items)) ++ damaged = [])
   → (s.sup.react = none ∨ (s.advance t).forceMask m = 0) → ∃ s', exec (.commandFrameSend t m damaged) s = .next s'
   ∧ s'.field.masts = s.field.masts.set m
   { s.field.masts.get m with seq := ((s.field.masts.get m).seq + 1) % 65536,
                              lastFrame := commandFrame (s.senderByte m) (s.field.masts.get m).seq ((s.advance t).time.tb.get m / 4294967296) ((s.advance t).positionCommands m s.lane.inForce (badOutputs s.lane.inForce ++ damaged)) (if s.lane.decision.isSome then (s.advance t).positionCommands m (s.lane.decision.elim s.lane.inForce (fun d => d.items)) (badOutputs (s.lane.decision.elim s.lane.inForce (fun d => d.items)) ++ damaged) else ((s.advance t).positionCommands m s.lane.inForce (badOutputs s.lane.inForce ++ damaged))) s.laneByte s.ownCfgCrc,
                              placed := ((s.advance t).positionCommands m s.lane.inForce (badOutputs s.lane.inForce ++ damaged)) }
   ∧ s'.field = { s.field with masts := s'.field.masts } ∧ s'.getF (.mast m) fFiOutCmdOn = ((s.advance
   t).positionCommands m s.lane.inForce (badOutputs s.lane.inForce ++ damaged)) % 16777216 ∧ regsBut [(.mast m,
   rFiOutCmd)] s s' ∧ sameBut [.field, .regs] (s.advance t) s') ∧
  (∀ (t : Nat) (m : Mast) (k : Nat) (i : Item) (s : State), s.field.powered = true → (s.mast m).alive = true →
   s.ctl.mode ≠ .boot → (s.field.fsec.isSome = true → (s.field.masts.get m).engineCrc = s.ownCfgCrc) → (s.ctl.mode =
   .run ∨ s.ctl.mode = .hold) → ((s.lane.decision.elim s.lane.inForce (fun d => d.items)).filter (fun j => decide
   (0x8001 ≤ j.source ∧ j.source ≤ 0x8018)) = [i]) → (k < 24 ∧ i.source = 0x8001 + k ∧ s.intake.exitFails = []) →
   s.sup.react = none → ∃ s', exec (.commandFrameSend t m [k]) s = .next s' ∧ s'.field.masts = s.field.masts.set m
   { s.field.masts.get m with seq := ((s.field.masts.get m).seq + 1) % 65536,
                              lastFrame := commandFrame (s.senderByte m) (s.field.masts.get m).seq ((s.advance t).time.tb.get m / 4294967296) ((s.advance t).positionCommands m s.lane.inForce (badOutputs s.lane.inForce ++ [k])) (if s.lane.decision.isSome then (s.advance t).positionCommands m (s.lane.decision.elim s.lane.inForce (fun d => d.items)) (badOutputs (s.lane.decision.elim s.lane.inForce (fun d => d.items)) ++ [k]) else ((s.advance t).positionCommands m s.lane.inForce (badOutputs s.lane.inForce ++ [k]))) s.laneByte s.ownCfgCrc,
                              placed := ((s.advance t).positionCommands m s.lane.inForce (badOutputs s.lane.inForce ++ [k])) }
   ∧ s'.field = { s.field with masts := s'.field.masts } ∧ s'.getF (.mast m) fFiOutCmdOn = ((s.advance
   t).positionCommands m s.lane.inForce (badOutputs s.lane.inForce ++ [k])) % 16777216 ∧ raised s' (2 ^ m.code)
   evTagExitFail i.source m.code ∧ regsBut [(.mast m, rFiOutCmd)] s s' ∧ sameBut [.field, .regs, .log, .intake]
   (s.advance t) s') ∧
  (∀ (t : Nat) (m : Mast) (damaged : List Nat) (s : State), s.field.powered = true → (s.mast m).alive = true →
   s.ctl.mode ≠ .boot → (s.field.fsec.isSome = true ∧ (s.field.masts.get m).engineCrc ≠ s.ownCfgCrc) → ∃ s', exec
   (.commandFrameSend t m damaged) s = .next s' ∧ s'.field.masts = s.field.masts.set m
   { s.field.masts.get m with seq := ((s.field.masts.get m).seq + 1) % 65536,
                              cfgIndex := ((s.field.masts.get m).cfgIndex + 1) % 16,
                              lastFrame := configFrame (s.senderByte m) (s.field.masts.get m).seq (s.field.masts.get m).cfgIndex s.field.body }
   ∧ s'.field = { s.field with masts := s'.field.masts } ∧ sameBut [.field] (s.advance t) s') ∧
  (∀ (t : Nat) (m : Mast) (bytes : List Byte) (p : LanePos) (s : State), s.field.powered = true → (frameOk m 0x43 32
   bytes = true ∧ (s.field.links.get m).seqOk (fieldAt bytes 2 2) = true) → ((s.field.links.get m).expired = false ∧
   s.field.adopted.isSome = true) → s.field.posOfLink m = some p → ((s.field.pos p).silence = false ∨ (s.field.pos
   p).fresh = true) → ∃ s', exec (.commandFrameReceived t m bytes) s = .next s' ∧ (s'.field.links.get m) =
   { s.field.links.get m with seq := some (fieldAt bytes 2 2), at' := max s.now t,
                              time := fieldAt bytes 4 4 * 1000000000 + fieldAt bytes 8 4 + Config.linkLatency,
                              onCur := fieldAt bytes 12 4, onAi := fieldAt bytes 16 4, lane := fieldAt bytes 20 1,
                              cfgCrc := fieldAt bytes 24 4, valid := true, silent := none }
   ∧ s'.field.pos p =
   { s.field.pos p with cmd := fieldAt bytes 12 4 % 16777216, lostAt := none, silence := false, fresh := false } ∧
   (∀ q, q ≠ p → s'.field.pos q = s.field.pos q) ∧ (s.field.outs.length = 24 → ∀ o, 1 ≤ o → o ≤ 24 → (s'.out
   o).voted = s'.votedOn o) ∧ (∀ o, o ≠ m → s'.field.links.get o = s.field.links.get o) ∧ s'.field =
   { s.field with links := s'.field.links, posA := s'.field.posA, posB := s'.field.posB, posC := s'.field.posC,
                  time := s'.field.time, timeAt := s'.field.timeAt, outs := s'.field.outs, queue := s'.field.queue,
                  seqs := s'.field.seqs, test := s'.field.test, queueFull := s'.field.queueFull,
                  notFormed := s'.field.notFormed }
   ∧ sameBut [.field, .regs, .log] (s.advance t) s') ∧
  (∀ (t : Nat) (m : Mast) (bytes : List Byte) (s : State), s.field.powered = true → (frameOk m 0x43 32 bytes = true
   ∧ (s.field.links.get m).seqOk (fieldAt bytes 2 2) = true) → ((s.field.links.get m).expired = true ∧
   s.field.adopted.isSome = true) → ∃ s', exec (.commandFrameReceived t m bytes) s = .next s' ∧ (s'.field.links.get
   m) =
   { s.field.links.get m with seq := some (fieldAt bytes 2 2), at' := max s.now t,
                              time := fieldAt bytes 4 4 * 1000000000 + fieldAt bytes 8 4 + Config.linkLatency,
                              onCur := fieldAt bytes 12 4, onAi := fieldAt bytes 16 4, lane := fieldAt bytes 20 1,
                              cfgCrc := fieldAt bytes 24 4, valid := true }
   ∧ (∀ p, s'.field.pos p = s.field.pos p) ∧ s'.field.outs = s.field.outs ∧ (∀ o, o ≠ m → s'.field.links.get o =
   s.field.links.get o) ∧ regsBut [(.agreed, rFiStat), (.agreed, rFiXbar)] s s' ∧ sameBut [.field, .regs] (s.advance
   t) s') ∧
  (∀ (t : Nat) (m : Mast) (bytes : List Byte) (s : State), s.field.powered = true → (frameOk m 0x43 32 bytes = false
   ∨ (s.field.links.get m).seqOk (fieldAt bytes 2 2) = false) → ∃ s', exec (.commandFrameReceived t m bytes) s =
   .next s' ∧ (s'.field.links.get m) =
   { s.field.links.get m with seq := none, valid := false,
                              silent := some ((s.field.links.get m).silent.getD (max s.now t)) }
   ∧ s'.getF (.mast m) fFiLinkEngerr = min 65535 (s.getF (.mast m) fFiLinkEngerr + 1) ∧ (∀ p, s'.field.pos p = if
   s.field.posOfLink m = some p then
   { s.field.pos p with lostAt := some ((s.field.pos p).lostAt.getD (max s.now t)) } else s.field.pos p) ∧
   s'.field.outs = s.field.outs ∧ s'.field.adopted = s.field.adopted ∧ (∀ o, o ≠ m → s'.field.links.get o =
   s.field.links.get o) ∧ regsBut [(.agreed, rFiStat), (.agreed, rFiXbar), (.mast m, rFiLink)] s s' ∧ sameBut
   [.field, .regs, .log] (s.advance t) s') ∧
  (∀ (t : Nat) (m : Mast) (bytes : List Byte) (s : State), s.field.powered = true → (frameOk m 0x47 44 bytes = true
   ∧ (s.field.links.get m).seqOk (fieldAt bytes 2 2) = true ∧ fieldAt bytes 4 1 ≤ 15) → s.field.adopted.isSome =
   true → ∃ s', exec (.configFrameReceived t m bytes) s = .next s' ∧ (s'.field.links.get m) =
   { s.field.links.get m with seq := some (fieldAt bytes 2 2),
                              config := (fieldAt bytes 4 1, slice bytes 8 32) :: (s.field.links.get m).config.filter (fun e => e.1 != fieldAt bytes 4 1),
                              valid := true,
                              silent := if (s.field.links.get m).expired then (s.field.links.get m).silent else none }
   ∧ s'.field =
   { s.field with links := s'.field.links, posA := s'.field.posA, posB := s'.field.posB, posC := s'.field.posC } ∧
   (∀ p, (s'.field.pos p).cmd = (s.field.pos p).cmd ∧ (s'.field.pos p).silence = (s.field.pos p).silence) ∧ (∀ o, o
   ≠ m → s'.field.links.get o = s.field.links.get o) ∧ regsBut [(.agreed, rFiStat), (.agreed, rFiXbar)] s s' ∧
   sameBut [.field, .regs] (s.advance t) s') ∧
  (∀ (t : Nat) (m : Mast) (bytes : List Byte) (o : Mast) (body : List Byte) (s : State), s.field.powered = true →
   (frameOk m 0x47 44 bytes = true ∧ (s.field.links.get m).seqOk (fieldAt bytes 2 2) = true ∧ fieldAt bytes 4 1 ≤
   15) → s.field.adopted = none → (s.field.posA.link = some m ∧ s.field.posB.link = some o ∧ o ≠ m ∧
   s.field.posC.link = none) →
   ({ s.field.links.get m with seq := some (fieldAt bytes 2 2),
                               config := (fieldAt bytes 4 1, slice bytes 8 32) :: (s.field.links.get m).config.filter (fun e => e.1 != fieldAt bytes 4 1),
                               valid := true,
                               silent := if (s.field.links.get m).expired then (s.field.links.get m).silent else none }.delivered
   = some body ∧ (s.field.links.get m).cfgCrc = 0) → ((s.field.links.get o).delivered = some body ∧
   (s.field.links.get o).cfgCrc = 0) → s.field.test = none → ∃ s', exec (.configFrameReceived t m bytes) s = .next
   s' ∧ s'.field.adopted = some (parseField body) ∧ s'.field.adoptedCrc = (crc32c body).toNat ∧ s'.getF .agreed
   fFiCfgcrcCrc = (crc32c body).toNat ∧ s'.getF .agreed fMcInhibitConfig = 0 ∧ s'.getF .agreed fFiStatConfigured = 1
   ∧ (s'.field.links.get m) =
   { s.field.links.get m with seq := some (fieldAt bytes 2 2),
                              config := (fieldAt bytes 4 1, slice bytes 8 32) :: (s.field.links.get m).config.filter (fun e => e.1 != fieldAt bytes 4 1),
                              valid := true,
                              silent := if (s.field.links.get m).expired then (s.field.links.get m).silent else none }
   ∧ (∀ o, o ≠ m → s'.field.links.get o = s.field.links.get o) ∧ sameBut [.field, .regs] (s.advance t) s') ∧
  (∀ (t : Nat) (m : Mast) (bytes : List Byte) (s : State), s.field.powered = true → (frameOk m 0x47 44 bytes = false
   ∨ (s.field.links.get m).seqOk (fieldAt bytes 2 2) = false ∨ 15 < fieldAt bytes 4 1) → ∃ s', exec
   (.configFrameReceived t m bytes) s = .next s' ∧ (s'.field.links.get m) =
   { s.field.links.get m with seq := none, valid := false,
                              silent := some ((s.field.links.get m).silent.getD (max s.now t)) }
   ∧ s'.getF (.mast m) fFiLinkEngerr = min 65535 (s.getF (.mast m) fFiLinkEngerr + 1) ∧ (∀ p, s'.field.pos p = if
   s.field.posOfLink m = some p then
   { s.field.pos p with lostAt := some ((s.field.pos p).lostAt.getD (max s.now t)) } else s.field.pos p) ∧
   s'.field.outs = s.field.outs ∧ s'.field.adopted = s.field.adopted ∧ (∀ o, o ≠ m → s'.field.links.get o =
   s.field.links.get o) ∧ regsBut [(.agreed, rFiStat), (.agreed, rFiXbar), (.mast m, rFiLink)] s s' ∧ sameBut
   [.field, .regs, .log] (s.advance t) s') ∧
  (∀ (t : Nat) (s : State), s.field.powered = true → ∃ s', exec (.inputFrameSend t) s = .next s' ∧ (∀ m,
   s'.field.links.get m = if (s.mast m).powered then
   { s.field.links.get m with outSeq := ((s.field.links.get m).outSeq + 1) % 65536 } else s.field.links.get m) ∧
   s'.field = { s.field with sent := s.field.queue.take 7, queue := s.field.queue.drop 7, links := s'.field.links }
   ∧ sameBut [.field] (s.advance t) s') ∧
  (∀ (t : Nat) (m : Mast) (bytes : List Byte) (s : State), (s.mast m).alive = true → (20 ≤ bytes.length ∧ fieldAt
   bytes 0 1 = 0x52 ∧ fieldAt bytes 1 1 = m.code ∧ fieldAt bytes 12 1 ≤ 7) → fieldAt bytes (bytes.length - 4) 4 =
   (crc32c (bytes.take (bytes.length - 4))).toNat → (bitOf (fieldAt bytes 4 4) (4 + m.code) = false ∨ s.votes m =
   false) → (fieldAt bytes 12 1 = 0 ∨ s.intakes m = false) → ∃ s', exec (.inputFrameReceived t m bytes) s = .next s'
   ∧ s' =
   { s.advance t with field := { s.field with masts := s.field.masts.set m { s.field.masts.get m with heard := max s.now t, inSeq := some (fieldAt bytes 2 2), engineCrc := fieldAt bytes 8 4 } } }) ∧
  (∀ (t : Nat) (m : Mast) (bytes : List Byte) (s : State), (s.mast m).alive = true → (20 ≤ bytes.length ∧ fieldAt
   bytes 0 1 = 0x52 ∧ fieldAt bytes 1 1 = m.code ∧ fieldAt bytes 12 1 ≤ 7) → fieldAt bytes (bytes.length - 4) 4 =
   (crc32c (bytes.take (bytes.length - 4))).toNat → bitOf (fieldAt bytes 4 4) (4 + m.code) = false → s.intakes m =
   true → exec (.inputFrameReceived t m bytes) s = .next ((parseItems (fieldAt bytes 12 1) (bytes.drop 16)).foldl
   (fun z i => z.arrive m i)
   { s.advance t with field := { s.field with masts := s.field.masts.set m { s.field.masts.get m with heard := max s.now t, inSeq := some (fieldAt bytes 2 2), engineCrc := fieldAt bytes 8 4 } } })) ∧
  (∀ (t : Nat) (m : Mast) (bytes : List Byte) (s : State), (s.mast m).alive = true → (20 ≤ bytes.length ∧ fieldAt
   bytes 0 1 = 0x52 ∧ fieldAt bytes 1 1 = m.code ∧ fieldAt bytes 12 1 ≤ 7) → fieldAt bytes (bytes.length - 4) 4 =
   (crc32c (bytes.take (bytes.length - 4))).toNat → (bitOf (fieldAt bytes 4 4) (4 + m.code) = true ∧ s.votes m =
   true) → fieldAt bytes 12 1 = 0 → ∃ s', exec (.inputFrameReceived t m bytes) s = .next s' ∧ wentSilent s s' m 0x0C
   ∧ recorded s' m (whoOf m .p 0) evFiLinkSilent ∧ sameBut [.masts, .mem, .lane, .regs, .time, .field, .bridge,
   .log] (s.advance t) s') ∧
  (∀ (t : Nat) (m : Mast) (bytes : List Byte) (s : State), (s.mast m).alive = true → (bytes.length < 20 ∨ fieldAt
   bytes 0 1 ≠ 0x52 ∨ fieldAt bytes 1 1 ≠ m.code ∨ 7 < fieldAt bytes 12 1 ∨ fieldAt bytes (bytes.length - 4) 4 ≠
   (crc32c (bytes.take (bytes.length - 4))).toNat) → ∃ s', exec (.inputFrameReceived t m bytes) s = .next s' ∧
   s'.getF (.mast m) fFiLinkRxerr = min 65535 (s.getF (.mast m) fFiLinkRxerr + 1) ∧ regsBut [(.mast m, rFiLink)] s
   s' ∧ sameBut [.regs] (s.advance t) s') ∧
  (∀ (t : Nat) (m : Mast) (s : State), s.field.powered = true → ((s.mast m).alive = true ∧ s.votes m = true) →
   (s.field.masts.get m).heard + s.silenceTimeout ≤ t → ∃ s', exec (.mastInputFrameTimeout t m) s = .next s' ∧
   wentSilent s s' m 0x0C ∧ recorded s' m (whoOf m .p 0) evFiLinkSilent ∧ sameBut [.masts, .mem, .lane, .regs,
   .time] (s.advance t) s') ∧
  (∀ (t : Nat) (m : Mast) (s : State), s.field.powered = true → ∃ s', exec (.linkSilenceDetect t m false) s = .next
   s' ∧ (s'.field.links.get m) =
   { s.field.links.get m with valid := false, silent := some ((s.field.links.get m).silent.getD (max s.now t)) } ∧
   (∀ p, s'.field.pos p = if s.field.posOfLink m = some p then
   { s.field.pos p with lostAt := some ((s.field.pos p).lostAt.getD (max s.now t)) } else s.field.pos p) ∧ s'.field
   = { s.field with links := s'.field.links, posA := s'.field.posA, posB := s'.field.posB, posC := s'.field.posC } ∧
   (∀ o, o ≠ m → s'.field.links.get o = s.field.links.get o) ∧ regsBut [(.agreed, rFiStat), (.agreed, rFiXbar)] s s'
   ∧ sameBut [.field, .regs] (s.advance t) s') ∧
  (∀ (t : Nat) (m : Mast) (s : State), s.field.powered = true → ∃ s', exec (.linkSilenceDetect t m true) s = .next
   s' ∧ (s'.field.links.get m) =
   { s.field.links.get m with valid := false, silent := some ((s.field.links.get m).silent.getD (max s.now t)) } ∧
   (∀ p, s'.field.pos p = if s.field.posOfLink m = some p then
   { s.field.pos p with lostAt := some ((s.field.pos p).lostAt.getD (max s.now t)) } else s.field.pos p) ∧ s'.field
   = { s.field with links := s'.field.links, posA := s'.field.posA, posB := s'.field.posB, posC := s'.field.posC } ∧
   (∀ o, o ≠ m → s'.field.links.get o = s.field.links.get o) ∧ s'.getF (.mast m) fFiLinkEngerr = min 65535 (s.getF
   (.mast m) fFiLinkEngerr + 1) ∧ regsBut [(.agreed, rFiStat), (.agreed, rFiXbar), (.mast m, rFiLink)] s s' ∧
   sameBut [.field, .regs, .log] (s.advance t) s') ∧
  (∀ (t : Nat) (m : Mast) (a : Nat) (s : State), s.field.powered = true → ((s.field.links.get m).silent = some a ∧
   (s.field.links.get m).expired = false) → a + s.silenceTimeout ≤ t → (∀ p ∈ [LanePos.a, .b, .c], (s.field.pos
   p).silence = true ∨ (s.field.pos p).lostAt = none) → ∃ s', exec (.linkSilenceTimeout t m) s = .next s' ∧ s'.field
   = { s.field with links := s.field.links.set m { s.field.links.get m with expired := true } } ∧ raised s' (maskOf
   (s.voters.filter (fun o => o != m))) evFiLinkSilent m.code (match s.field.posOfLink m
   with | some p => p.code | none => 3) ∧ regsBut [(.agreed, rFiStat), (.agreed, rFiXbar)] s s' ∧ sameBut [.field,
   .regs, .log] (s.advance t) s') ∧
  (∀ (t : Nat) (m : Mast) (p : LanePos) (a : Nat) (s : State), s.field.powered = true → ((s.field.links.get
   m).silent = none ∨ (s.field.links.get m).expired = true) → ((s.field.pos p).lostAt = some a ∧ (s.field.pos
   p).silence = false ∧ a + s.silenceTimeout ≤ t) → (∀ q ∈ [LanePos.a, .b, .c], q ≠ p → (s.field.pos q).silence =
   true ∨ (s.field.pos q).lostAt = none) → ∃ s', exec (.linkSilenceTimeout t m) s = .next s' ∧ s'.field.pos p =
   { s.field.pos p with silence := true } ∧ (∀ q, q ≠ p → s'.field.pos q = s.field.pos q) ∧ (∀ o, s'.commands p o =
   (if s.silenceOf o = 0 then false else if s.silenceOf o = 1 then true else bitOf (s.field.pos p).cmd (o - 1))) ∧
   (s.field.outs.length = 24 → ∀ o, 1 ≤ o → o ≤ 24 → (s'.out o).voted = s'.votedOn o) ∧ s'.field.links =
   s.field.links ∧ sameBut [.field, .regs, .log] (s.advance t) s')

/-- For every output of the plant with power. currentLimitExpiry: a limit of 10 ms or more is marked and raises
FI_CURRENT_LIMIT. thermalTrip takes the output off, the trip after the tenth retry locks it with FI_OUT_LOCKED;
thermalRetry puts it back after 100 ms and counts while the output is voted on. readbackCheck stores the levels;
from 2 ms after the last command change, with the supply good, it diagnoses a midpoint of an output commanded off as
a switch fault of kind 1, a read-back without midpoint as an external feed, and a missing one of an output voted on
as kind 3. switchTestStart begins the steps of a branch where R237 and R238 allow it, with a step of its own kind
for an output on or off; testStepEnd goes on with the levels found, ends the test passed and counted, or records the
switch that failed with FI_SWITCH_FAULT kind 4, and marks an open load; a test the supervisor stops is discarded.
darkPulseStart opens the one conducting branch; darkPulseEnd passes once current and midpoint are low, and fails at
300 us. An output's item is formed for each change, and held back as not formed where 512 wait. Completion: for
every state and operands that meet the stated conditions on them alone, exec answers the next state of the own
effect of currentLimitExpiry (CURRENT_LIMIT_EXPIRY), thermalTrip (THERMAL_TRIP), thermalRetry (THERMAL_RETRY),
readbackCheck (READBACK_CHECK), switchTestStart (SWITCH_TEST_START), testStepEnd (TEST_STEP_END), darkPulseStart
(DARK_PULSE_START), darkPulseEnd (DARK_PULSE_END). -/
def Obligations.FieldOutputs : Prop :=
  (∀ (t : Nat) (o millis : Nat) (s : State), (1 ≤ o ∧ o ≤ 24 ∧ s.field.outs.length = 24) → s.field.powered = true →
   s.field.queue.length < 512 → (10 ≤ millis ∧ (s.out o).clim = false) → s.log.limits = [] → ∃ s', exec
   (.currentLimitExpiry t o millis) s = .next s' ∧ s'.field =
   { s.field with outs := s.field.outs.set (o - 1) { s.out o with clim := true },
                  queue := s.field.queue ++ [Item.form (0x0160 + o) ((s.field.seqs.find? (fun e => e.1 == 0x0160 + o)).elim 0 (fun e => e.2)) (s.advance t).engineTime (outputItemValue { s.out o with clim := true })],
                  seqs := s'.field.seqs }
   ∧ raised s' s.lane.active.mask evFiCurrentLimit o (min 4294967295 millis) ∧ sameBut [.field, .log] (s.advance t)
   s') ∧
  (∀ (t : Nat) (o millis : Nat) (s : State), (1 ≤ o ∧ o ≤ 24 ∧ s.field.outs.length = 24) → s.field.powered = true →
   512 ≤ s.field.queue.length → (10 ≤ millis ∧ (s.out o).clim = false) → ∃ s', exec (.currentLimitExpiry t o millis)
   s = .next s' ∧ s'.field =
   { s.field with outs := s.field.outs.set (o - 1) { s.out o with clim := true }, queueFull := true,
                  notFormed := s.field.notFormed + 1 }
   ∧ sameBut [.field, .log] (s.advance t) s') ∧
  (∀ (t : Nat) (o : Nat) (s : State), (1 ≤ o ∧ o ≤ 24 ∧ s.field.outs.length = 24) → s.field.powered = true →
   s.field.queue.length < 512 → ((s.out o).tripped = none ∧ (s.out o).locked = false ∧ (s.out o).retries < 10) → ∃
   s', exec (.thermalTrip t o) s = .next s' ∧ s'.field =
   { s.field with outs := s.field.outs.set (o - 1) { s.out o with tripped := some (max s.now t) },
                  queue := s.field.queue ++ [Item.form (0x0160 + o) ((s.field.seqs.find? (fun e => e.1 == 0x0160 + o)).elim 0 (fun e => e.2)) (s.advance t).engineTime (outputItemValue { s.out o with tripped := some (max s.now t) })],
                  seqs := s'.field.seqs }
   ∧ raised s' s.lane.active.mask evFiThermal o (s.out o).retries ∧ sameBut [.field, .log] (s.advance t) s') ∧
  (∀ (t : Nat) (o : Nat) (s : State), (1 ≤ o ∧ o ≤ 24 ∧ s.field.outs.length = 24) → s.field.powered = true →
   s.field.queue.length < 512 → ((s.out o).tripped = none ∧ (s.out o).locked = false ∧ 10 ≤ (s.out o).retries) → ∃
   s', exec (.thermalTrip t o) s = .next s' ∧ s'.field =
   { s.field with outs := s.field.outs.set (o - 1) { s.out o with locked := true, wasOff := false },
                  queue := s.field.queue ++ [Item.form (0x0160 + o) ((s.field.seqs.find? (fun e => e.1 == 0x0160 + o)).elim 0 (fun e => e.2)) (s.advance t).engineTime (outputItemValue { s.out o with locked := true, wasOff := false })],
                  seqs := s'.field.seqs }
   ∧ raised s' s.lane.active.mask evFiThermal o (s.out o).retries ∧ raised s' s.lane.active.mask evFiOutLocked o 0 ∧
   sameBut [.field, .log] (s.advance t) s') ∧
  (∀ (t : Nat) (o a : Nat) (s : State), (1 ≤ o ∧ o ≤ 24 ∧ s.field.outs.length = 24) → s.field.queue.length < 512 →
   (s.out o).tripped = some a → a + 100000000 ≤ t → ∃ s', exec (.thermalRetry t o) s = .next s' ∧ s'.field =
   { s.field with outs := s.field.outs.set (o - 1) { s.out o with tripped := none,
                                                                  retries := if (s.out o).voted then min 10 ((s.out o).retries + 1) else 0 },
                  queue := s.field.queue ++ [Item.form (0x0160 + o) ((s.field.seqs.find? (fun e => e.1 == 0x0160 + o)).elim 0 (fun e => e.2)) (s.advance t).engineTime (outputItemValue { s.out o with tripped := none, retries := if (s.out o).voted then min 10 ((s.out o).retries + 1) else 0 })],
                  seqs := s'.field.seqs }
   ∧ sameBut [.field] (s.advance t) s') ∧
  (∀ (t : Nat) (o : Nat) (rb : Bool) (mid branches : Nat) (excess limit : Bool) (s : State), (1 ≤ o ∧ o ≤ 24 ∧
   s.field.outs.length = 24) → s.field.powered = true → (s.field.test.all (fun y => y.out != o)) = true → (s.groupOk
   o && decide ((s.out o).changed + 2000000 ≤ max s.now t)) = false → ∃ s', exec (.readbackCheck t o rb mid branches
   excess limit) s = .next s' ∧ s'.out o =
   { s.out o with rb := rb, mid := mid % 8, branches := branches % 8, clim := (s.out o).clim && limit,
                  carried := (List.range 3).map (fun j => if bitOf branches j then some (max s.now t) else ((s.out o).carried[j]?).getD none) }
   ∧ s'.field =
   { s.field with outs := s.field.outs.set (o - 1) (s'.out o), queue := s'.field.queue, seqs := s'.field.seqs,
                  queueFull := s'.field.queueFull, notFormed := s'.field.notFormed }
   ∧ sameBut [.field] (s.advance t) s') ∧
  (∀ (t : Nat) (o : Nat) (rb : Bool) (j branches : Nat) (excess limit : Bool) (s : State), (1 ≤ o ∧ o ≤ 24 ∧
   s.field.outs.length = 24) → s.field.powered = true → s.field.queue.length < 512 → (s.field.test.all (fun y =>
   y.out != o)) = true → (s.groupOk o = true ∧ (s.out o).changed + 2000000 ≤ max s.now t) → (s.commands .a o = false
   ∧ s.commands .b o = false ∧ s.commands .c o = false) → (j < 3 ∧ (BitVec.ofNat 6 (s.out o).swFault &&&
   BitVec.ofNat 6 (2 ^ (2 * j))).toNat = 0) → ∃ s', exec (.readbackCheck t o rb (2 ^ j) branches excess limit) s =
   .next s' ∧ (s'.out o).swFault = (BitVec.ofNat 6 (s.out o).swFault ||| BitVec.ofNat 6 (2 ^ (2 * j))).toNat ∧
   (s'.out o).extFeed = false ∧ raised s' s.lane.active.mask evFiSwitchFault o (2 * j * 256 + 1) ∧ s'.field =
   { s.field with outs := s.field.outs.set (o - 1) (s'.out o), queue := s'.field.queue, seqs := s'.field.seqs } ∧
   sameBut [.field, .log] (s.advance t) s') ∧
  (∀ (t : Nat) (o branches : Nat) (excess limit : Bool) (s : State), (1 ≤ o ∧ o ≤ 24 ∧ s.field.outs.length = 24) →
   s.field.powered = true → s.field.queue.length < 512 → (s.field.test.all (fun y => y.out != o)) = true →
   (s.groupOk o = true ∧ (s.out o).changed + 2000000 ≤ max s.now t) → (s.commands .a o = false ∧ s.commands .b o =
   false ∧ s.commands .c o = false) → (s.out o).extFeed = false → ∃ s', exec (.readbackCheck t o true 0 branches
   excess limit) s = .next s' ∧ (s'.out o).extFeed = true ∧ (s'.out o).swFault = (s.out o).swFault ∧ raised s'
   s.lane.active.mask evFiExtFeed o 0 ∧ s'.field =
   { s.field with outs := s.field.outs.set (o - 1) (s'.out o), queue := s'.field.queue, seqs := s'.field.seqs } ∧
   sameBut [.field, .log] (s.advance t) s') ∧
  (∀ (t : Nat) (o mid branches : Nat) (s : State), (1 ≤ o ∧ o ≤ 24 ∧ s.field.outs.length = 24) → s.field.powered =
   true → s.field.queue.length < 512 → (s.field.test.all (fun y => y.out != o)) = true → (s.groupOk o = true ∧
   (s.out o).changed + 2000000 ≤ max s.now t) → ((s.out o).voted = true ∧ (s.out o).noBranch = false) → (s.commands
   .a o = true ∨ s.commands .b o = true ∨ s.commands .c o = true) → ∃ s', exec (.readbackCheck t o false mid
   branches false false) s = .next s' ∧ (s'.out o).noBranch = true ∧ (s'.out o).swFault = (s.out o).swFault ∧ raised
   s' s.lane.active.mask evFiSwitchFault o 65283 ∧ s'.field =
   { s.field with outs := s.field.outs.set (o - 1) (s'.out o), queue := s'.field.queue, seqs := s'.field.seqs } ∧
   sameBut [.field, .log] (s.advance t) s') ∧
  (∀ (t : Nat) (o branch : Nat) (s : State), (s.advance t).mayTest o branch = true → (s.out o).voted = false →
   (s.commands (branchOf branch).1 o = false ∧ s.commands (branchOf branch).2 o = false) → ∃ s', exec
   (.switchTestStart t o branch) s = .next s' ∧ s'.field =
   { s.field with test := some { out := o, branch := branch, step := .o1, began := max s.now t },
                  outs := s.field.outs.set (o - 1) { s.out o with tested := (s.out o).tested.set branch (some (s.advance t).testPeriod) } }
   ∧ sameBut [.field] (s.advance t) s') ∧
  (∀ (t : Nat) (o branch j : Nat) (s : State), (s.advance t).mayTest o branch = true → ((s.out o).voted = true ∧
   s.field.regime ≠ 2) → (j < 3 ∧ j ≠ branch ∧ s.conducts o j = true ∧ (s.advance t).hasCarried o j = true) → ∃ s',
   exec (.switchTestStart t o branch) s = .next s' ∧ s'.field =
   { s.field with test := some { out := o, branch := branch, step := .n1, began := max s.now t },
                  outs := s.field.outs.set (o - 1) { s.out o with tested := (s.out o).tested.set branch (some (s.advance t).testPeriod) } }
   ∧ sameBut [.field] (s.advance t) s') ∧
  (∀ (t : Nat) (rb : Bool) (x : FieldTest) (s : State), (s.field.test = some x ∧ 1 ≤ x.out ∧ x.out ≤ 24 ∧
   s.field.outs.length = 24) → (x.step = .n1 ∧ x.energise = false) → x.began + 100000 ≤ t → ∃ s', exec (.testStepEnd
   t true rb) s = .next s' ∧ s'.field = { s.field with test := some { x with step := .n2, began := max s.now t } } ∧
   sameBut [.field] (s.advance t) s') ∧
  (∀ (t : Nat) (rb : Bool) (x : FieldTest) (s : State), (s.field.test = some x ∧ 1 ≤ x.out ∧ x.out ≤ 24 ∧
   s.field.outs.length = 24) → (x.step = .n2 ∧ x.energise = false) → x.began + 100000 ≤ t → ∃ s', exec (.testStepEnd
   t false rb) s = .next s' ∧ s'.field = { s.field with test := some { x with step := .n3, began := max s.now t } }
   ∧ sameBut [.field] (s.advance t) s') ∧
  (∀ (t : Nat) (rb : Bool) (x : FieldTest) (s : State), (s.field.test = some x ∧ 1 ≤ x.out ∧ x.out ≤ 24 ∧
   s.field.outs.length = 24) → (x.step = .o1 ∧ x.energise = false) → x.began + 100000 ≤ t → ∃ s', exec (.testStepEnd
   t true rb) s = .next s' ∧ s'.field = { s.field with test := some { x with step := .o2, began := max s.now t } } ∧
   sameBut [.field] (s.advance t) s') ∧
  (∀ (t : Nat) (x : FieldTest) (s : State), (s.field.test = some x ∧ 1 ≤ x.out ∧ x.out ≤ 24 ∧ s.field.outs.length =
   24) → (x.step = .o2 ∧ x.energise = false) → x.began + 100000 ≤ t → ∃ s', exec (.testStepEnd t true false) s =
   .next s' ∧ s'.field = { s.field with test := some { x with step := .o3, began := max s.now t } } ∧ sameBut
   [.field] (s.advance t) s') ∧
  (∀ (t : Nat) (rb : Bool) (x : FieldTest) (s : State), (s.field.test = some x ∧ 1 ≤ x.out ∧ x.out ≤ 24 ∧
   s.field.outs.length = 24) → (x.step = .n3 ∧ x.energise = false) → x.began + 100000 ≤ t → s.field.queue.length <
   512 → ∃ s', exec (.testStepEnd t true rb) s = .next s' ∧ s'.field =
   { s.field with outs := s.field.outs.set (x.out - 1) { s.out x.out with testBranch := x.branch, testResult := 1,
                                                                          testDark := x.step == .dark },
                  test := none,
                  queue := s.field.queue ++ [Item.form (0x0160 + x.out) ((s.field.seqs.find? (fun e => e.1 == 0x0160 + x.out)).elim 0 (fun e => e.2)) (s.advance t).engineTime (outputItemValue { s.out x.out with testBranch := x.branch, testResult := 1, testDark := x.step == .dark })],
                  seqs := s'.field.seqs }
   ∧ s'.getF .agreed fFiTestDone = (s.getF .agreed fFiTestDone + 1) % 65536 ∧ regsBut [(.agreed, rFiTest)] s s' ∧
   sameBut [.field, .regs] (s.advance t) s') ∧
  (∀ (t : Nat) (rb : Bool) (x : FieldTest) (s : State), (s.field.test = some x ∧ 1 ≤ x.out ∧ x.out ≤ 24 ∧
   s.field.outs.length = 24) → (x.step = .o3 ∧ x.energise = false) → x.began + 100000 ≤ t → s.field.queue.length <
   512 → ∃ s', exec (.testStepEnd t false rb) s = .next s' ∧ s'.field =
   { s.field with outs := s.field.outs.set (x.out - 1) { s.out x.out with testBranch := x.branch, testResult := 1,
                                                                          testDark := x.step == .dark,
                                                                          openLoad := false }, test := none,
                  queue := s.field.queue ++ [Item.form (0x0160 + x.out) ((s.field.seqs.find? (fun e => e.1 == 0x0160 + x.out)).elim 0 (fun e => e.2)) (s.advance t).engineTime (outputItemValue { s.out x.out with testBranch := x.branch, testResult := 1, testDark := x.step == .dark, openLoad := false })],
                  seqs := s'.field.seqs }
   ∧ s'.getF .agreed fFiTestDone = (s.getF .agreed fFiTestDone + 1) % 65536 ∧ regsBut [(.agreed, rFiTest)] s s' ∧
   sameBut [.field, .regs] (s.advance t) s') ∧
  (∀ (t : Nat) (rb : Bool) (x : FieldTest) (c : FieldConfig) (s : State), (s.field.test = some x ∧ 1 ≤ x.out ∧ x.out
   ≤ 24 ∧ s.field.outs.length = 24) → (x.step = .o3 ∧ x.energise = false) → x.began + 100000 ≤ t →
   s.field.queue.length < 512 → (s.field.adopted = some c ∧ ((c.outputs[x.out - 1]?).all (fun e => !e.2)) = true) →
   ∃ s', exec (.testStepEnd t true rb) s = .next s' ∧ s'.field =
   { s.field with outs := s.field.outs.set (x.out - 1) { s.out x.out with testBranch := x.branch, testResult := 1,
                                                                          testDark := x.step == .dark,
                                                                          openLoad := true }, test := none,
                  queue := s.field.queue ++ [Item.form (0x0160 + x.out) ((s.field.seqs.find? (fun e => e.1 == 0x0160 + x.out)).elim 0 (fun e => e.2)) (s.advance t).engineTime (outputItemValue { s.out x.out with testBranch := x.branch, testResult := 1, testDark := x.step == .dark, openLoad := true })],
                  seqs := s'.field.seqs }
   ∧ s'.getF .agreed fFiTestDone = (s.getF .agreed fFiTestDone + 1) % 65536 ∧ raised s' s.lane.active.mask
   evFiOpenLoad x.out x.branch ∧ regsBut [(.agreed, rFiTest)] s s' ∧ sameBut [.field, .regs, .log] (s.advance t) s') ∧
  (∀ (t : Nat) (rb : Bool) (x : FieldTest) (s : State), (s.field.test = some x ∧ 1 ≤ x.out ∧ x.out ≤ 24 ∧
   s.field.outs.length = 24) → (x.step = .n1 ∧ x.energise = false) → x.began + 100000 ≤ t → s.field.queue.length <
   512 → ∃ s', exec (.testStepEnd t false rb) s = .next s' ∧ s'.field =
   { s.field with outs := s.field.outs.set (x.out - 1) { s.out x.out with testBranch := x.branch, testResult := 2,
                                                                          testDark := x.step == .dark,
                                                                          swFault := (BitVec.ofNat 6 (s.out x.out).swFault ||| BitVec.ofNat 6 (2 ^ (2 * x.branch + 1))).toNat },
                  test := none,
                  queue := s.field.queue ++ [Item.form (0x0160 + x.out) ((s.field.seqs.find? (fun e => e.1 == 0x0160 + x.out)).elim 0 (fun e => e.2)) (s.advance t).engineTime (outputItemValue { s.out x.out with testBranch := x.branch, testResult := 2, testDark := x.step == .dark, swFault := (BitVec.ofNat 6 (s.out x.out).swFault ||| BitVec.ofNat 6 (2 ^ (2 * x.branch + 1))).toNat })],
                  seqs := s'.field.seqs }
   ∧ s'.getF .agreed fFiTestDone = (s.getF .agreed fFiTestDone + 1) % 65536 ∧ s'.getF .agreed fFiTestFailed = min
   255 (s.getF .agreed fFiTestFailed + 1) ∧ raised s' s.lane.active.mask evFiSwitchFault x.out ((2 * x.branch + 1) *
   256 + 4) ∧ regsBut [(.agreed, rFiTest)] s s' ∧ sameBut [.field, .regs, .log] (s.advance t) s') ∧
  (∀ (t : Nat) (rb : Bool) (x : FieldTest) (s : State), (s.field.test = some x ∧ 1 ≤ x.out ∧ x.out ≤ 24 ∧
   s.field.outs.length = 24) → (x.step = .n3 ∧ x.energise = false) → x.began + 100000 ≤ t → s.field.queue.length <
   512 → ∃ s', exec (.testStepEnd t false rb) s = .next s' ∧ s'.field =
   { s.field with outs := s.field.outs.set (x.out - 1) { s.out x.out with testBranch := x.branch, testResult := 2,
                                                                          testDark := x.step == .dark,
                                                                          swFault := (BitVec.ofNat 6 (s.out x.out).swFault ||| BitVec.ofNat 6 (2 ^ (2 * x.branch + 0))).toNat },
                  test := none,
                  queue := s.field.queue ++ [Item.form (0x0160 + x.out) ((s.field.seqs.find? (fun e => e.1 == 0x0160 + x.out)).elim 0 (fun e => e.2)) (s.advance t).engineTime (outputItemValue { s.out x.out with testBranch := x.branch, testResult := 2, testDark := x.step == .dark, swFault := (BitVec.ofNat 6 (s.out x.out).swFault ||| BitVec.ofNat 6 (2 ^ (2 * x.branch + 0))).toNat })],
                  seqs := s'.field.seqs }
   ∧ s'.getF .agreed fFiTestDone = (s.getF .agreed fFiTestDone + 1) % 65536 ∧ s'.getF .agreed fFiTestFailed = min
   255 (s.getF .agreed fFiTestFailed + 1) ∧ raised s' s.lane.active.mask evFiSwitchFault x.out ((2 * x.branch + 0) *
   256 + 4) ∧ regsBut [(.agreed, rFiTest)] s s' ∧ sameBut [.field, .regs, .log] (s.advance t) s') ∧
  (∀ (t : Nat) (rb : Bool) (x : FieldTest) (s : State), (s.field.test = some x ∧ 1 ≤ x.out ∧ x.out ≤ 24 ∧
   s.field.outs.length = 24) → (x.step = .o1 ∧ x.energise = false) → x.began + 100000 ≤ t → s.field.queue.length <
   512 → ∃ s', exec (.testStepEnd t false rb) s = .next s' ∧ s'.field =
   { s.field with outs := s.field.outs.set (x.out - 1) { s.out x.out with testBranch := x.branch, testResult := 2,
                                                                          testDark := x.step == .dark,
                                                                          swFault := (BitVec.ofNat 6 (s.out x.out).swFault ||| BitVec.ofNat 6 (2 ^ (2 * x.branch + 1))).toNat },
                  test := none,
                  queue := s.field.queue ++ [Item.form (0x0160 + x.out) ((s.field.seqs.find? (fun e => e.1 == 0x0160 + x.out)).elim 0 (fun e => e.2)) (s.advance t).engineTime (outputItemValue { s.out x.out with testBranch := x.branch, testResult := 2, testDark := x.step == .dark, swFault := (BitVec.ofNat 6 (s.out x.out).swFault ||| BitVec.ofNat 6 (2 ^ (2 * x.branch + 1))).toNat })],
                  seqs := s'.field.seqs }
   ∧ s'.getF .agreed fFiTestDone = (s.getF .agreed fFiTestDone + 1) % 65536 ∧ s'.getF .agreed fFiTestFailed = min
   255 (s.getF .agreed fFiTestFailed + 1) ∧ raised s' s.lane.active.mask evFiSwitchFault x.out ((2 * x.branch + 1) *
   256 + 4) ∧ regsBut [(.agreed, rFiTest)] s s' ∧ sameBut [.field, .regs, .log] (s.advance t) s') ∧
  (∀ (t : Nat) (rb : Bool) (x : FieldTest) (s : State), (s.field.test = some x ∧ 1 ≤ x.out ∧ x.out ≤ 24 ∧
   s.field.outs.length = 24) → (x.step = .o2 ∧ x.energise = false) → x.began + 100000 ≤ t → s.field.queue.length <
   512 → ∃ s', exec (.testStepEnd t false rb) s = .next s' ∧ s'.field =
   { s.field with outs := s.field.outs.set (x.out - 1) { s.out x.out with testBranch := x.branch, testResult := 2,
                                                                          testDark := x.step == .dark,
                                                                          swFault := (BitVec.ofNat 6 (s.out x.out).swFault ||| BitVec.ofNat 6 (2 ^ (2 * x.branch + 0))).toNat },
                  test := none,
                  queue := s.field.queue ++ [Item.form (0x0160 + x.out) ((s.field.seqs.find? (fun e => e.1 == 0x0160 + x.out)).elim 0 (fun e => e.2)) (s.advance t).engineTime (outputItemValue { s.out x.out with testBranch := x.branch, testResult := 2, testDark := x.step == .dark, swFault := (BitVec.ofNat 6 (s.out x.out).swFault ||| BitVec.ofNat 6 (2 ^ (2 * x.branch + 0))).toNat })],
                  seqs := s'.field.seqs }
   ∧ s'.getF .agreed fFiTestDone = (s.getF .agreed fFiTestDone + 1) % 65536 ∧ s'.getF .agreed fFiTestFailed = min
   255 (s.getF .agreed fFiTestFailed + 1) ∧ raised s' s.lane.active.mask evFiSwitchFault x.out ((2 * x.branch + 0) *
   256 + 4) ∧ regsBut [(.agreed, rFiTest)] s s' ∧ sameBut [.field, .regs, .log] (s.advance t) s') ∧
  (∀ (t : Nat) (x : FieldTest) (s : State), (s.field.test = some x ∧ 1 ≤ x.out ∧ x.out ≤ 24 ∧ s.field.outs.length =
   24) → (x.step = .o2 ∧ x.energise = false) → x.began + 100000 ≤ t → s.field.queue.length < 512 → ∃ s', exec
   (.testStepEnd t true true) s = .next s' ∧ s'.field =
   { s.field with outs := s.field.outs.set (x.out - 1) { s.out x.out with testBranch := x.branch, testResult := 2,
                                                                          testDark := x.step == .dark,
                                                                          swFault := (BitVec.ofNat 6 (s.out x.out).swFault ||| BitVec.ofNat 6 (2 ^ (2 * x.branch + 1))).toNat },
                  test := none,
                  queue := s.field.queue ++ [Item.form (0x0160 + x.out) ((s.field.seqs.find? (fun e => e.1 == 0x0160 + x.out)).elim 0 (fun e => e.2)) (s.advance t).engineTime (outputItemValue { s.out x.out with testBranch := x.branch, testResult := 2, testDark := x.step == .dark, swFault := (BitVec.ofNat 6 (s.out x.out).swFault ||| BitVec.ofNat 6 (2 ^ (2 * x.branch + 1))).toNat })],
                  seqs := s'.field.seqs }
   ∧ s'.getF .agreed fFiTestDone = (s.getF .agreed fFiTestDone + 1) % 65536 ∧ s'.getF .agreed fFiTestFailed = min
   255 (s.getF .agreed fFiTestFailed + 1) ∧ raised s' s.lane.active.mask evFiSwitchFault x.out ((2 * x.branch + 1) *
   256 + 4) ∧ regsBut [(.agreed, rFiTest)] s s' ∧ sameBut [.field, .regs, .log] (s.advance t) s') ∧
  (∀ (t : Nat) (rb : Bool) (x : FieldTest) (s : State), (s.field.test = some x ∧ 1 ≤ x.out ∧ x.out ≤ 24 ∧
   s.field.outs.length = 24) → (x.step = .n2 ∧ x.energise = false) → x.began + 100000 ≤ t → s.field.queue.length <
   512 → ∃ s', exec (.testStepEnd t true rb) s = .next s' ∧ s'.field.test = none ∧ (s'.out x.out).testResult = 2 ∧
   s'.getF .agreed fFiTestDone = (s.getF .agreed fFiTestDone + 1) % 65536 ∧ s'.getF .agreed fFiTestFailed = min 255
   (s.getF .agreed fFiTestFailed + 1) ∧ s'.free = s.free + 1 ∧ regsBut [(.agreed, rFiTest)] s s' ∧ sameBut [.field,
   .regs, .log, .free] (s.advance t) s') ∧
  (∀ (t : Nat) (mid rb : Bool) (x : FieldTest) (s : State), (s.field.test = some x ∧ 1 ≤ x.out ∧ x.out ≤ 24 ∧
   s.field.outs.length = 24) → (x.step ≠ .dark ∧ x.energise = true) → x.began + 100000 ≤ t → s.log.limits = [] →
   s.field.queue.length < 512 → ∃ s', exec (.testStepEnd t mid rb) s = .next s' ∧ s'.field =
   { s.field with outs := s.field.outs.set (x.out - 1) { s.out x.out with testBranch := x.branch, testResult := 3,
                                                                          testDark := x.step == .dark },
                  test := none,
                  queue := s.field.queue ++ [Item.form (0x0160 + x.out) ((s.field.seqs.find? (fun e => e.1 == 0x0160 + x.out)).elim 0 (fun e => e.2)) (s.advance t).engineTime (outputItemValue { s.out x.out with testBranch := x.branch, testResult := 3, testDark := x.step == .dark })],
                  seqs := s'.field.seqs }
   ∧ s'.getF .agreed fFiTestDiscarded = min 255 (s.getF .agreed fFiTestDiscarded + 1) ∧ raised s' s.lane.active.mask
   evFiTestDiscarded x.out 2 ∧ regsBut [(.agreed, rFiTest)] s s' ∧ sameBut [.field, .regs, .log] (s.advance t) s') ∧
  (∀ (t : Nat) (o j : Nat) (s : State), ((s.advance t).mayTest o j = true ∧ s.field.regime = 1 ∧ (s.out o).voted =
   true) → (List.range 3).filter (fun j => s.conducts o j) = [j] → ∃ s', exec (.darkPulseStart t o) s = .next s' ∧
   s'.field =
   { s.field with test := some { out := o, branch := j, step := .dark, began := max s.now t },
                  outs := s.field.outs.set (o - 1) { s.out o with tested := (s.out o).tested.set j (some (s.advance t).testPeriod) } }
   ∧ sameBut [.field] (s.advance t) s') ∧
  (∀ (t : Nat) (x : FieldTest) (s : State), (s.field.test = some x ∧ 1 ≤ x.out ∧ x.out ≤ 24 ∧ s.field.outs.length =
   24) → x.step = .dark → s.field.queue.length < 512 → x.began + 50000 ≤ t → ∃ s', exec (.darkPulseEnd t false
   false) s = .next s' ∧ s'.field =
   { s.field with outs := s.field.outs.set (x.out - 1) { s.out x.out with testBranch := x.branch, testResult := 1,
                                                                          testDark := x.step == .dark },
                  test := none,
                  queue := s.field.queue ++ [Item.form (0x0160 + x.out) ((s.field.seqs.find? (fun e => e.1 == 0x0160 + x.out)).elim 0 (fun e => e.2)) (s.advance t).engineTime (outputItemValue { s.out x.out with testBranch := x.branch, testResult := 1, testDark := x.step == .dark })],
                  seqs := s'.field.seqs }
   ∧ s'.getF .agreed fFiTestDone = (s.getF .agreed fFiTestDone + 1) % 65536 ∧ regsBut [(.agreed, rFiTest)] s s' ∧
   sameBut [.field, .regs] (s.advance t) s') ∧
  (∀ (t : Nat) (current mid : Bool) (x : FieldTest) (s : State), (s.field.test = some x ∧ 1 ≤ x.out ∧ x.out ≤ 24 ∧
   s.field.outs.length = 24) → x.step = .dark → s.field.queue.length < 512 → (current = true ∨ mid = true) → x.began
   + 300000 ≤ t → ∃ s', exec (.darkPulseEnd t current mid) s = .next s' ∧ s'.field =
   { s.field with outs := s.field.outs.set (x.out - 1) { s.out x.out with testBranch := x.branch, testResult := 2,
                                                                          testDark := x.step == .dark,
                                                                          swFault := (BitVec.ofNat 6 (s.out x.out).swFault ||| BitVec.ofNat 6 (2 ^ (2 * x.branch))).toNat },
                  test := none,
                  queue := s.field.queue ++ [Item.form (0x0160 + x.out) ((s.field.seqs.find? (fun e => e.1 == 0x0160 + x.out)).elim 0 (fun e => e.2)) (s.advance t).engineTime (outputItemValue { s.out x.out with testBranch := x.branch, testResult := 2, testDark := x.step == .dark, swFault := (BitVec.ofNat 6 (s.out x.out).swFault ||| BitVec.ofNat 6 (2 ^ (2 * x.branch))).toNat })],
                  seqs := s'.field.seqs }
   ∧ s'.getF .agreed fFiTestDone = (s.getF .agreed fFiTestDone + 1) % 65536 ∧ s'.getF .agreed fFiTestFailed = min
   255 (s.getF .agreed fFiTestFailed + 1) ∧ raised s' s.lane.active.mask evFiSwitchFault x.out (2 * x.branch * 256 +
   4) ∧ regsBut [(.agreed, rFiTest)] s s' ∧ sameBut [.field, .regs, .log] (s.advance t) s')

/-- For every input of the plant with power. inputFilterAccept: a level that has held for its filter time, counted from
the return of the input supply, is the input's with its entry time and forms its item; of the second contact of a
waiting pair within the discrepancy time the pair goes on, of the first contact it waits. inputInvalid: the input
takes the value 0 with its mark, forms its item and raises FI_INPUT_INVALID, and its pair is in discrepancy.
pairDiscrepancyTimeout: a pair that waits for its second contact past the discrepancy time is in discrepancy and
raises FI_PAIR_DISCREPANCY with the state it left. fieldSupplyChange: a field supply's new state is counted in
FI_SUPPLY and forms item 0x0180; FI_SUPPLY is raised for a supply in use; with the input supply missing every input
becomes invalid. queuedChangeClear: clearing a queued change waits for the next action instant. Completion: for
every state and operands that meet the stated conditions on them alone, exec answers the next state of the own
effect of inputFilterAccept (INPUT_FILTER_ACCEPT), inputInvalid (INPUT_INVALID), pairDiscrepancyTimeout
(PAIR_DISCREPANCY_TIMEOUT), fieldSupplyChange (FIELD_SUPPLY_CHANGE), queuedChangeClear (QUEUED_CHANGE_CLEAR). -/
def Obligations.FieldInputsAndPairs : Prop :=
  (∀ (t : Nat) (i : Nat) (level : Bool) (s : State), (1 ≤ i ∧ i ≤ 48 ∧ s.field.ins.length = 48) → s.field.powered =
   true → (s.field.supplies[0]? ≠ some 2 ∧ ((s.inp i).level ≠ level ∨ (s.inp i).invalid = true)) → s.field.backAt +
   s.filterTime i ≤ max s.now t → s.pairOf i = none → s.field.queue.length < 512 → ∃ s', exec (.inputFilterAccept t
   i level) s = .next s' ∧ s'.field =
   { s.field with ins := s.field.ins.set (i - 1) ⟨level, false, ((s.advance t).engineTime - s.filterTime i) / 10000 * 10000⟩,
                  queue := s.field.queue ++ [Item.form (0x0100 + i) ((s.field.seqs.find? (fun e => e.1 == 0x0100 + i)).elim 0 (fun e => e.2)) (((s.advance t).engineTime - s.filterTime i) / 10000 * 10000) (natLe 1 (b2n level) ++ natLe 1 0 ++ natLe 2 0)],
                  seqs := s'.field.seqs }
   ∧ sameBut [.field] (s.advance t) s') ∧
  (∀ (t : Nat) (i p c : Nat) (s : State), (1 ≤ i ∧ i ≤ 48 ∧ s.field.ins.length = 48) → s.field.powered = true →
   (s.field.supplies[0]? ≠ some 2 ∧ ((s.inp i).level ≠ true ∨ (s.inp i).invalid = true)) → s.field.backAt +
   s.filterTime i ≤ max s.now t → (s.pairOf i = some (p, c) ∧ p ≤ s.field.pairs.length ∧ 1 ≤ p) → ((s.pair p).state
   = .off ∧ (c = 0 ∨ (s.pairEntry p).kind ≠ 2)) → (c = 0 ∧ (s.pairEntry p).inA = i ∨ c = 1 ∧ (s.pairEntry p).inB =
   i) → s.field.queue.length < 511 → ∃ s', exec (.inputFilterAccept t i true) s = .next s' ∧ s'.pair p = ⟨.waitOn,
   c, ((s.advance t).engineTime - s.filterTime i) / 10000 * 10000⟩ ∧ s'.inp i = ⟨true, false, ((s.advance
   t).engineTime - s.filterTime i) / 10000 * 10000⟩ ∧ s'.field.queue.map Item.source = s.field.queue.map Item.source
   ++ [0x0100 + i, 0x0140 + p] ∧ s'.field =
   { s.field with ins := s.field.ins.set (i - 1) (s'.inp i), pairs := s.field.pairs.set (p - 1) (s'.pair p),
                  queue := s'.field.queue, seqs := s'.field.seqs }
   ∧ sameBut [.field] (s.advance t) s') ∧
  (∀ (t : Nat) (i p c : Nat) (s : State), (1 ≤ i ∧ i ≤ 48 ∧ s.field.ins.length = 48) → s.field.powered = true →
   (s.field.supplies[0]? ≠ some 2 ∧ ((s.inp i).level ≠ true ∨ (s.inp i).invalid = true)) → s.field.backAt +
   s.filterTime i ≤ max s.now t → (s.pairOf i = some (p, c) ∧ p ≤ s.field.pairs.length ∧ 1 ≤ p) → ((s.pair p).state
   = .waitOn ∧ (s.pair p).first ≠ c ∧ (c = 0 ∨ (s.pairEntry p).kind ≠ 2)) → (c = 0 ∧ (s.pairEntry p).inA = i ∨ c = 1
   ∧ (s.pairEntry p).inB = i) → ((s.advance t).engineTime - s.filterTime i) / 10000 * 10000 ≤ (s.pair p).start +
   (s.pairEntry p).discMs * 1000000 → s.field.queue.length < 511 → ∃ s', exec (.inputFilterAccept t i true) s =
   .next s' ∧ s'.pair p = { s.pair p with state := .on } ∧ s'.inp i = ⟨true, false, ((s.advance t).engineTime -
   s.filterTime i) / 10000 * 10000⟩ ∧ s'.field.queue.map Item.source = s.field.queue.map Item.source ++ [0x0100 + i,
   0x0140 + p] ∧ s'.field =
   { s.field with ins := s.field.ins.set (i - 1) (s'.inp i), pairs := s.field.pairs.set (p - 1) (s'.pair p),
                  queue := s'.field.queue, seqs := s'.field.seqs }
   ∧ sameBut [.field] (s.advance t) s') ∧
  (∀ (t : Nat) (i : Nat) (s : State), (1 ≤ i ∧ i ≤ 48 ∧ s.field.ins.length = 48) → s.field.powered = true → (s.inp
   i).invalid = false → s.field.queue.length < 512 → s.pairOf i = none → ∃ s', exec (.inputInvalid t i) s = .next s'
   ∧ s'.field =
   { s.field with ins := s.field.ins.set (i - 1) ⟨false, true, (s.advance t).engineTime⟩,
                  queue := s.field.queue ++ [Item.form (0x0100 + i) ((s.field.seqs.find? (fun e => e.1 == 0x0100 + i)).elim 0 (fun e => e.2)) (s.advance t).engineTime (natLe 1 0 ++ natLe 1 1 ++ natLe 2 0)],
                  seqs := s'.field.seqs }
   ∧ raised s' s.lane.active.mask evFiInputInvalid i 0 ∧ sameBut [.field, .log] (s.advance t) s') ∧
  (∀ (t : Nat) (i p c : Nat) (s : State), (1 ≤ i ∧ i ≤ 48 ∧ s.field.ins.length = 48) → s.field.powered = true →
   (s.inp i).invalid = false → s.field.queue.length < 511 → (s.pairOf i = some (p, c) ∧ 1 ≤ p ∧ p ≤
   s.field.pairs.length) → (s.pair p).state ≠ .discrepancy → ∃ s', exec (.inputInvalid t i) s = .next s' ∧ s'.inp i
   = ⟨false, true, (s.advance t).engineTime⟩ ∧ s'.pair p = { s.pair p with state := .discrepancy } ∧ raised s'
   s.lane.active.mask evFiInputInvalid i 0 ∧ raised s' s.lane.active.mask evFiPairDiscrepancy p 5 ∧ s'.field =
   { s.field with ins := s.field.ins.set (i - 1) (s'.inp i), pairs := s.field.pairs.set (p - 1) (s'.pair p),
                  queue := s'.field.queue, seqs := s'.field.seqs }
   ∧ sameBut [.field, .log] (s.advance t) s') ∧
  (∀ (t : Nat) (p : Nat) (s : State), (1 ≤ p ∧ p ≤ 24 ∧ s.field.pairs.length = 24) → s.field.powered = true →
   ((s.pair p).state = .waitOn ∨ (s.pair p).state = .waitOff) → (s.pair p).start + (s.pairEntry p).discMs * 1000000
   + max (s.filterTime (s.pairEntry p).inA) (s.filterTime (s.pairEntry p).inB) ≤ (s.advance t).engineTime →
   s.field.queue.length < 512 → ∃ s', exec (.pairDiscrepancyTimeout t p) s = .next s' ∧ s'.field =
   { s.field with pairs := s.field.pairs.set (p - 1) { s.pair p with state := .discrepancy },
                  queue := s'.field.queue, seqs := s'.field.seqs }
   ∧ s'.field.queue.map Item.source = s.field.queue.map Item.source ++ [0x0140 + p] ∧ raised s' s.lane.active.mask
   evFiPairDiscrepancy p (if (s.pair p).state = .waitOn then 1 else 3) ∧ sameBut [.field, .log] (s.advance t) s') ∧
  (∀ (t : Nat) (n : Nat) (st : Nat) (s : State), (n ≤ 3 ∧ st ≤ 2 ∧ s.field.supplies.length = 4) → s.field.powered =
   true → s.field.supplies[n]? ≠ some st → (n ≠ 0 ∨ st ≠ 2) → s.field.queue.length < 512 → ∃ s', exec
   (.fieldSupplyChange t n st) s = .next s' ∧ s'.field =
   { s.field with supplies := s.field.supplies.set n st, backAt := s'.field.backAt, queueFull := s'.field.queueFull,
                  queue := s'.field.queue, seqs := s'.field.seqs }
   ∧ (n ≠ 0 → s'.field.backAt = s.field.backAt) ∧ (n = 0 → s.field.supplies[0]? = some 2 → s'.field.backAt = max
   s.now t) ∧ s'.field.queue.map Item.source = s.field.queue.map Item.source ++ [0x0180] ∧ s'.field.supplies =
   s.field.supplies.set n st ∧ s'.getF .agreed fFiSupplyChanges = min 65535 (s.getF .agreed fFiSupplyChanges + 1) ∧
   ((s.field.adopted.any (fun c => bitOf c.fsupUsed n)) = true → raised s' s.lane.active.mask evFiSupply n st) ∧
   regsBut [(.agreed, rFiSupply)] s s' ∧ sameBut [.field, .regs, .log] (s.advance t) s') ∧
  (∀ (t : Nat) (n : Nat) (st : Nat) (s : State), (n ≤ 3 ∧ st ≤ 2 ∧ s.field.supplies.length = 4) → s.field.powered =
   true → s.field.supplies[n]? ≠ some st → (n = 0 ∧ st = 2 ∧ s.field.ins.length = 48) → ∃ s', exec
   (.fieldSupplyChange t n st) s = .next s' ∧ (∀ i, 1 ≤ i → i ≤ 48 → (s'.inp i).invalid = true) ∧ (∀ i, 1 ≤ i → i ≤
   48 → (s.inp i).invalid = false → (s'.inp i).level = false ∧ raised s' s.lane.active.mask evFiInputInvalid i 0) ∧
   s'.field.outs = s.field.outs ∧ s'.field.supplies = s.field.supplies.set n st ∧ s'.getF .agreed fFiSupplyChanges =
   min 65535 (s.getF .agreed fFiSupplyChanges + 1) ∧ ((s.field.adopted.any (fun c => bitOf c.fsupUsed n)) = true →
   raised s' s.lane.active.mask evFiSupply n st) ∧ regsBut [(.agreed, rFiSupply)] s s' ∧ sameBut [.field, .regs,
   .log] (s.advance t) s') ∧
  (∀ (t : Nat) (m : Mast) (n : Nat) (s : State), s.triadRuns m = true → n < 16 → ∃ s', exec (.queuedChangeClear t m
   n) s = .next s' ∧ s'.field =
   { s.field with masts := s.field.masts.set m { s.field.masts.get m with clearing := (s.field.masts.get m).clearing ++ [n] } }
   ∧ sameBut [.field] (s.advance t) s')

/-- For every mast whose supervisor is active under loaded parameters. zeroSpeedDeclare: after T_ZERO without an edge it
declares zero speed with the standstill points taken and raises SP_ZERO. slipEndExpiry: slip whose difference has
been within its bound for 200 ms ends with SP_SLIP. odoSlipExpiry: slip that has held for ODO_TIME latches the
odometry fault with SP_ODO_FAULT and makes the berth reference invalid. speedConfirmExpiry: a speed above a
supervised limit for CONFIRM_MS since its crossing is latched with SP_SLS_VIOLATION and noted in SP_LASTV, one no
longer above it, or of a limit no longer supervised, ends the crossing. limitDelayExpiry: DELAY_MS after its
selection a limit is supervised and judged at once. spAckWrite: an agreed acknowledgement clears exactly the named
latches whose condition is clear; one that clears none is refused with SP_ACK_REFUSED. spRefclrWrite: an agreed
clear makes the berth reference invalid with SP_BERTH_LOST, reason 3. SP_FORCE shows the outputs forced after each
change; only it and SP_LASTV or SP_COUNT change. Completion: for every state and operands that meet the stated
conditions on them alone, exec answers the next state of the own effect of zeroSpeedDeclare (ZERO_SPEED_DECLARE),
slipEndExpiry (SLIP_END_EXPIRY), odoSlipExpiry (ODO_SLIP_EXPIRY), speedConfirmExpiry (SPEED_CONFIRM_EXPIRY),
limitDelayExpiry (LIMIT_DELAY_EXPIRY), spAckWrite (SP_ACK_WRITE), spRefclrWrite (SP_REFCLR_WRITE). -/
def Obligations.SupervisorTimersAndAcknowledgement : Prop :=
  (∀ (t : Nat) (p : SpParams) (s : State), s.sup.params = some p → ∃ s', exec (.zeroSpeedDeclare t) s = .next s' ∧
   (∀ m ∈ s.spMasts, (s.sp m).zero = false ∧ (s.sp m).quietFrom + p.tZeroMs * ms ≤ max s.now t → (s'.sp m) =
   { (s.sp m) with zero := true, ax1 := { (s.sp m).ax1 with still := (s.axle m 1).counter },
                   ax2 := { (s.sp m).ax2 with still := (s.axle m 2).counter }, permit := (s'.sp m).permit,
                   latchWin := (s'.sp m).latchWin }
   ∧ s'.getF (.mast m) fSpForceForced = s'.forceMask m % 16777216 ∧ raised s' (2 ^ m.code) evSpZero 1 0) ∧ (∀ m, m ∉
   s.spMasts ∨ (s.sp m).zero = true ∨ max s.now t < (s.sp m).quietFrom + p.tZeroMs * ms → (s'.sp m) = (s.sp m)) ∧
   regsBut (Mast.all.map (fun o => (.mast o, rSpForce)) ++ [(.agreed, rSpLastv), (.agreed, rSpCount)]) s s' ∧
   sameBut [.sup, .regs, .log] (s.advance t) s') ∧
  (∀ (t : Nat) (p : SpParams) (s : State), s.sup.params = some p → s.log.limits = [] → ∃ s', exec (.slipEndExpiry t)
   s = .next s' ∧ (∀ m ∈ s.spMasts, (s.sp m).slip.isSome = true → (s.sp m).slipOver p (max s.now t) = true → (s'.sp
   m) = { (s.sp m) with slip := none, within := none } ∧ raised s' (2 ^ m.code) evSpSlip 0 ((s.sp m).diffAt p (max
   s.now t) / 10)) ∧ (∀ m, m ∉ s.spMasts ∨ (s.sp m).slip = none ∨ (s.sp m).slipOver p (max s.now t) = false → (s'.sp
   m) = (s.sp m)) ∧ sameBut [.sup, .log] (s.advance t) s') ∧
  (∀ (t : Nat) (p : SpParams) (s : State), s.sup.params = some p → ∃ s', exec (.odoSlipExpiry t) s = .next s' ∧ (∀ m
   ∈ s.spMasts, (s.sp m).slip.any (fun f => decide (f + p.odoTimeS * sec ≤ max s.now t)) = true → (s.sp m).latchOdo
   = false → (s'.sp m) =
   { (s.sp m) with latchOdo := true, berth := false, permit := (s'.sp m).permit, latchWin := (s'.sp m).latchWin } ∧
   raised s' (2 ^ m.code) evSpOdoFault 1 0 ∧ ((s.sp m).berth = true → raised s' (2 ^ m.code) evSpBerthLost 1
   ((s.advance t).discrepancy m / posUnit)) ∧ s'.getF (.mast m) fSpForceForced = s'.forceMask m % 16777216) ∧ (∀ m,
   m ∉ s.spMasts ∨ (s.sp m).slip = none → (s'.sp m) = (s.sp m)) ∧ regsBut (Mast.all.map (fun o => (.mast o,
   rSpForce)) ++ [(.agreed, rSpLastv), (.agreed, rSpCount)]) s s' ∧ sameBut [.sup, .regs, .log] (s.advance t) s') ∧
  (∀ (t : Nat) (n : Nat) (p : SpParams) (e : SpLimitEntry) (l : SpLimit) (c : Nat) (m : Mast) (s : State),
   s.sup.params = some p → (m ∈ s.spMasts ∧ 1 ≤ n ∧ n ≤ 8) → (p.limits[n - 1]? = some e ∧ (s.sp m).limits[n - 1]? =
   some l) → (l.crossing = some c ∧ l.supervised = true) → (e.mms * 10 < (s.sp m).vAt p (max s.now t) ∧ c +
   p.confirmMs * ms ≤ max s.now t) → bitOf (s.sp m).latchSls (n - 1) = false → ∃ s', exec (.speedConfirmExpiry t n)
   s = .next s' ∧ (s'.sp m) = { (s.sp m) with latchSls := withBit (s.sp m).latchSls (n - 1) true } ∧ raised s' (2 ^
   m.code) evSpSlsViolation n ((s.sp m).vAt p (max s.now t) / 10) ∧ s'.getF .agreed fSpLastvKind = 1 ∧ s'.getF
   .agreed fSpLastvIndex = n ∧ s'.getF (.mast m) fSpForceForced = s'.forceMask m % 16777216 ∧ (∀ o, o ∉ s.spMasts →
   s'.sp o = s.sp o) ∧ regsBut (Mast.all.map (fun o => (.mast o, rSpForce)) ++ [(.agreed, rSpLastv), (.agreed,
   rSpCount)]) s s' ∧ sameBut [.sup, .regs, .log] (s.advance t) s') ∧
  (∀ (t : Nat) (n : Nat) (p : SpParams) (e : SpLimitEntry) (l : SpLimit) (c : Nat) (m : Mast) (s : State),
   s.sup.params = some p → (m ∈ s.spMasts ∧ 1 ≤ n ∧ n ≤ 8) → (p.limits[n - 1]? = some e ∧ (s.sp m).limits[n - 1]? =
   some l) → l.crossing = some c → ((s.sp m).vAt p (max s.now t) ≤ e.mms * 10 ∨ l.supervised = false) → ∃ s', exec
   (.speedConfirmExpiry t n) s = .next s' ∧ (s'.sp m) =
   { (s.sp m) with limits := (s.sp m).limits.set (n - 1) { l with crossing := none } } ∧ (∀ o, o ∉ s.spMasts → s'.sp
   o = s.sp o) ∧ regsBut (Mast.all.map (fun o => (.mast o, rSpForce)) ++ [(.agreed, rSpLastv), (.agreed, rSpCount)])
   s s' ∧ sameBut [.sup, .regs, .log] (s.advance t) s') ∧
  (∀ (t : Nat) (n : Nat) (p : SpParams) (e : SpLimitEntry) (l : SpLimit) (a : Nat) (m : Mast) (s : State),
   s.sup.params = some p → (m ∈ s.spMasts ∧ 1 ≤ n ∧ n ≤ 8) → (p.limits[n - 1]? = some e ∧ (s.sp m).limits[n - 1]? =
   some l) → (l.selected = some a ∧ l.supervised = false) → a + e.delayMs * ms ≤ max s.now t → ∃ s', exec
   (.limitDelayExpiry t n) s = .next s' ∧ ((s'.sp m).limits[n - 1]?).map SpLimit.supervised = some true ∧ ((s'.sp
   m).limits[n - 1]?).map SpLimit.selected = some (some a) ∧ (e.mms * 10 < (s.sp m).vAt p (max s.now t) → l.crossing
   = none → ((s'.sp m).limits[n - 1]?).map SpLimit.crossing = some (some (max s.now t))) ∧ ((s.sp m).vAt p (max
   s.now t) ≤ e.mms * 10 → (s'.sp m) =
   { (s.sp m) with limits := (s.sp m).limits.set (n - 1) { l with supervised := true, crossing := none } }) ∧ (∀ k,
   k ≠ n - 1 → (s'.sp m).limits[k]? = (s.sp m).limits[k]?) ∧ (∀ o, o ∉ s.spMasts → s'.sp o = s.sp o) ∧ regsBut
   (Mast.all.map (fun o => (.mast o, rSpForce)) ++ [(.agreed, rSpLastv), (.agreed, rSpCount)]) s s' ∧ sameBut [.sup,
   .regs, .log] (s.advance t) s') ∧
  (∀ (t : Nat) (writers : Per Bool) (value : Word) (p : SpParams) (s : State), s.sup.params = some p → s.agreed
   writers = true → (getBits value 31 16 = 0x5341 ∧ (p.ackMode = 1 ∨ p.ackMode = 3)) → (∀ m ∈ s.spMasts, (s.sp
   m).latchSls < 256 ∧ (s.sp m).latchWin < 16) → ∃ s', exec (.spAckWrite t writers value) s = .next s' ∧ (∀ m ∈
   s.spMasts, s.votes m = true → ∀ b < 14, bitOf (s'.sp m).latches b = (bitOf (s.sp m).latches b && !(bitOf (getBits
   value 13 0) b && (s.advance t).latchClear m p b))) ∧ (∀ m ∈ s.spMasts, (s'.sp m).berth = (s.sp m).berth ∧ (s'.sp
   m).zero = (s.sp m).zero ∧ (s'.sp m).limits = (s.sp m).limits ∧ s'.getF (.mast m) fSpForceForced = s'.forceMask m
   % 16777216) ∧ (∀ m, m ∉ s.spMasts → (s'.sp m) = (s.sp m)) ∧ regsBut (Mast.all.map (fun o => (.mast o, rSpForce))
   ++ [(.agreed, rSpLastv), (.agreed, rSpCount)]) s s' ∧ sameBut [.sup, .regs, .log] (s.advance t) s') ∧
  (∀ (t : Nat) (writers : Per Bool) (value : Word) (p : SpParams) (m : Mast) (b : Nat) (s : State), s.sup.params =
   some p → s.agreed writers = true → (getBits value 31 16 = 0x5341 ∧ (p.ackMode = 1 ∨ p.ackMode = 3)) → (∀ m ∈
   s.spMasts, (s.sp m).latchSls < 256 ∧ (s.sp m).latchWin < 16) → (m ∈ s.spMasts ∧ s.votes m = true ∧ b < 14 ∧ bitOf
   (s.sp m).latches b = true) → (∀ o ∈ s.spMasts, o ≠ m → (s.sp o).latches = 0) → (getBits value 13 0 = 2 ^ b ∧
   (s.advance t).latchClear m p b = true) → ∃ s', exec (.spAckWrite t writers value) s = .next s' ∧ bitOf (s'.sp
   m).latches b = false ∧ raised s' s.lane.active.mask evSpAck (2 ^ b) 1 ∧ s'.getF .agreed fSpCountAcks = min 255
   (s.getF .agreed fSpCountAcks + 1) ∧ s'.getF .agreed fSpCountRefused = s.getF .agreed fSpCountRefused ∧ regsBut
   (Mast.all.map (fun o => (.mast o, rSpForce)) ++ [(.agreed, rSpLastv), (.agreed, rSpCount)]) s s' ∧ sameBut [.sup,
   .regs, .log] (s.advance t) s') ∧
  (∀ (t : Nat) (writers : Per Bool) (value : Word) (p : SpParams) (m : Mast) (b : Nat) (s : State), s.sup.params =
   some p → s.agreed writers = true → (getBits value 31 16 = 0x5341 ∧ (p.ackMode = 1 ∨ p.ackMode = 3)) → (∀ m ∈
   s.spMasts, (s.sp m).latchSls < 256 ∧ (s.sp m).latchWin < 16) → (m ∈ s.spMasts ∧ s.votes m = true ∧ b < 14 ∧ bitOf
   (s.sp m).latches b = true) → (∀ o ∈ s.spMasts, o ≠ m → (s.sp o).latches = 0) → (getBits value 13 0 = 2 ^ b ∧
   (s.advance t).latchClear m p b = false) → s.log.limits = [] → ∃ s', exec (.spAckWrite t writers value) s = .next
   s' ∧ (s'.sp m) = (s.sp m) ∧ raised s' s.lane.active.mask evSpAckRefused (2 ^ b) 1 ∧ s'.getF .agreed
   fSpCountRefused = min 255 (s.getF .agreed fSpCountRefused + 1) ∧ s'.getF .agreed fSpCountAcks = s.getF .agreed
   fSpCountAcks ∧ regsBut (Mast.all.map (fun o => (.mast o, rSpForce)) ++ [(.agreed, rSpLastv), (.agreed,
   rSpCount)]) s s' ∧ sameBut [.sup, .regs, .log] (s.advance t) s') ∧
  (∀ (t : Nat) (writers : Per Bool) (value : Word) (s : State), s.agreed writers = true → getBits value 31 16 =
   0x5243 → ∃ s', exec (.spRefclrWrite t writers value) s = .next s' ∧ (∀ m ∈ s.spMasts, (s.sp m).berth = true →
   (s'.sp m) = { (s.sp m) with berth := false, permit := (s'.sp m).permit, latchWin := (s'.sp m).latchWin } ∧
   s'.getF (.mast m) fSpForceForced = s'.forceMask m % 16777216 ∧ raised s' (2 ^ m.code) evSpBerthLost 3 ((s.advance
   t).discrepancy m / posUnit)) ∧ (∀ m, m ∉ s.spMasts ∨ (s.sp m).berth = false → (s'.sp m) = (s.sp m)) ∧ regsBut
   (Mast.all.map (fun o => (.mast o, rSpForce)) ++ [(.agreed, rSpLastv), (.agreed, rSpCount)]) s s' ∧ sameBut [.sup,
   .regs, .log] (s.advance t) s')

/-- For every state. actionInstant, where action instants come, two voting masts have seen the edge and module time has
reached a grid point that has not been one: that grid point becomes the last action instant with a higher number, no
event is left waiting, every deposited register write has been taken, no decided image is left over, a HOLD without
zero speed has ended, and the agreed registers are shown as they then stand; with one mast's edge alone nothing
happens. summaryEventPeriodEnd: a summary period that has run a second of its source's clock, or whose clock was
stepped back, raises its event with its count and ends. syslogExport takes the oldest entry not yet sent: with a
token its message is sent to the configured destination and counted, without one it is counted as dropped, one above
the severity let through is passed over, the summary of dropped messages needs no token, and an entry the log no
longer holds is counted as lost. Completion: for every state and operands that meet the stated conditions on them
alone, exec answers the next state of the own effect of actionInstant (ACTION_INSTANT), summaryEventPeriodEnd
(SUMMARY_EVENT_PERIOD_END), syslogExport (SYSLOG_EXPORT). -/
def Obligations.InstantsAndLog : Prop :=
  (∀ (t : Nat) (n : Nat) (x : Nat) (s : State), s.instants = true → (s.advance t).aiDue = some (n, x) → (s.advance
   t).twoEdges n = true → ∃ s', exec (.actionInstant t) s = .next s' ∧ s'.log.due = [] ∧ s'.writes = [] ∧
   s'.lane.decision = none ∧ s'.time.lastIndex = some n ∧ s'.time.lastAiLocal = x ∧ s'.time.lastAiTime = s.aiOffset
   + n * s.aiCycle ∧ (s.time.lastIndex.isSome = true → s.time.aiNumber < s'.time.aiNumber) ∧ (s.ctl.mode = .hold →
   s.getF .agreed fSpStatZero = 0 → s'.ctl.mode ≠ .hold) ∧ s'.shown = some ⟨s'.regs.cells.filter (fun c => c.1 /
   4294967296 == Copy.agreed.num)⟩ ∧ s'.now = max s.now t ∧ s'.pending = s.pending) ∧
  (∀ (t : Nat) (n : Nat) (x : Nat) (s : State), s.instants = true → (s.advance t).aiDue = some (n, x) → (s.advance
   t).twoEdges n = false → exec (.actionInstant t) s = .next (s.advance t)) ∧
  (∀ (t : Nat) (code key : Nat) (p : SummaryPeriod) (s : State), (s.log.periods = [p] ∧ p.code = code ∧ p.key = key)
   → (p.began + sec ≤ (s.advance t).clockOf p.src ∨ (s.advance t).clockOf p.src < p.began) → ∃ s', exec
   (.summaryEventPeriodEnd t code key) s = .next s' ∧ s'.log.periods = [] ∧ raised s' (if p.src = 0 then
   s.lane.active.mask else p.src) code (if code = evQmPoolEmpty ∨ code = evSyslogDropped then p.count else key) (if
   code = evQmPoolEmpty then 0 else if code = evSyslogDropped then s.getF .agreed fElDropLost else p.count) ∧ s'.log
   = { s.log with periods := [], due := s'.log.due } ∧ sameBut [.log] (s.advance t) s') ∧
  (∀ (t : Nat) (n : Nat) (rest : List Nat) (x : LogEntry) (s : State), s.exporting = true → s.log.unsent = n :: rest
   → (s.log.entry n = some x ∧ severityOf x.event.code ≤ s.getF .agreed fElExportSevmax) → x.event.code ≠
   evSyslogDropped → sec ≤ min (s.getF .agreed fElExportRate * sec) (s.log.tokens + s.getF .agreed fElExportRate *
   (max s.now t - s.log.tokensAt)) → ∃ s', exec (.syslogExport t) s = .next s' ∧ s'.log.message = (s.advance
   t).datagram x ∧ s'.log.message.text = (s.advance t).syslogText x ∧ s'.log.message.dest = s.getF .agreed fElDestIp
   ∧ s'.log =
   { s.log with message := s'.log.message, unsent := rest,
                tokens := min (s.getF .agreed fElExportRate * sec) (s.log.tokens + s.getF .agreed fElExportRate * (max s.now t - s.log.tokensAt)) - sec,
                tokensAt := max s.now t }
   ∧ s'.getF .agreed fElSentCount = (s.getF .agreed fElSentCount + 1) % 4294967296 ∧ regsBut [(.agreed, rElSent)] s
   s' ∧ sameBut [.log, .regs] (s.advance t) s') ∧
  (∀ (t : Nat) (n : Nat) (rest : List Nat) (x : LogEntry) (s : State), s.exporting = true → s.log.unsent = n :: rest
   → (s.log.entry n = some x ∧ severityOf x.event.code ≤ s.getF .agreed fElExportSevmax) → x.event.code =
   evSyslogDropped → ∃ s', exec (.syslogExport t) s = .next s' ∧ s'.log.message = (s.advance t).datagram x ∧
   s'.log.message.text = (s.advance t).syslogText x ∧ s'.log.message.dest = s.getF .agreed fElDestIp ∧ s'.log =
   { s.log with message := s'.log.message, unsent := rest,
                tokens := min (s.getF .agreed fElExportRate * sec) (s.log.tokens + s.getF .agreed fElExportRate * (max s.now t - s.log.tokensAt)),
                tokensAt := max s.now t }
   ∧ s'.getF .agreed fElSentCount = (s.getF .agreed fElSentCount + 1) % 4294967296 ∧ regsBut [(.agreed, rElSent)] s
   s' ∧ sameBut [.log, .regs] (s.advance t) s') ∧
  (∀ (t : Nat) (n : Nat) (rest : List Nat) (x : LogEntry) (s : State), s.exporting = true → s.log.unsent = n :: rest
   → (s.log.entry n = some x ∧ severityOf x.event.code ≤ s.getF .agreed fElExportSevmax) → x.event.code ≠
   evSyslogDropped → min (s.getF .agreed fElExportRate * sec) (s.log.tokens + s.getF .agreed fElExportRate * (max
   s.now t - s.log.tokensAt)) < sec → ∃ s', exec (.syslogExport t) s = .next s' ∧ s'.log.message = s.log.message ∧
   s'.log.unsent = rest ∧ s'.log.entries = s.log.entries ∧ s'.getF .agreed fElDropDropped = min 65535 (s.getF
   .agreed fElDropDropped + 1) ∧ s'.log.periods ≠ [] ∧ regsBut [(.agreed, rElDrop)] s s' ∧ sameBut [.log, .regs]
   (s.advance t) s') ∧
  (∀ (t : Nat) (n : Nat) (rest : List Nat) (s : State), s.exporting = true → s.log.unsent = n :: rest → s.log.entry
   n = none → ∃ s', exec (.syslogExport t) s = .next s' ∧ s'.log.message = s.log.message ∧ s'.log.unsent = rest ∧
   s'.log.entries = s.log.entries ∧ s'.getF .agreed fElDropLost = min 65535 (s.getF .agreed fElDropLost + 1) ∧
   regsBut [(.agreed, rElDrop)] s s' ∧ sameBut [.log, .regs] (s.advance t) s') ∧
  (∀ (t : Nat) (n : Nat) (x : LogEntry) (s : State), s.exporting = true → s.log.unsent = [n] → (s.log.entry n = some
   x ∧ s.getF .agreed fElExportSevmax < severityOf x.event.code) → ∃ s', exec (.syslogExport t) s = .next s' ∧
   s'.log.message = s.log.message ∧ s'.log.unsent = [] ∧ s'.log.entries = s.log.entries ∧ sameBut [.log] (s.advance
   t) s')

/-- For every state. linkChange: a link that resolves to an enabled full-duplex speed is shown with NP_LINK, as is one
that goes down, and NP_PLANE where both ports of the plane are down or again one is up; one that resolves to half
duplex is kept down and counted in DUPLEXFAIL. networkFrameReceived: during BOOT until step 8 a frame, and until
step 10 one with a bad FCS, is counted in MC_BOOTDROP, after step 8 an echo request is answered within the limit; in
RUN, HOLD, STOP, SERVICE and SAFE, on an enabled port, a frame with a bad FCS or a wrong length is counted in
NP_RXERR, one not addressed to the module is left, a second copy of a PRP frame is discarded and counted in DUPS,
the first passes without its trailer and is noted, one whose trailer names the wrong LAN is counted, an unsupported
one is counted, one its policer or its admission refuses is counted for its class, and one admitted, from its
reservation or the shared pool, is counted in NP_RXOK and its class counter and forms one item of its port and
class; an ARP request is then answered. prpEntryForget: an entry of the duplicate-discard table goes at its forget
time. Completion: for every state and operands that meet the stated conditions on them alone, exec answers the next
state of the own effect of linkChange (LINK_CHANGE), networkFrameReceived (NETWORK_FRAME_RECEIVED), prpEntryForget
(PRP_ENTRY_FORGET). -/
def Obligations.NetworkPorts : Prop :=
  (∀ (t : Nat) (p speed : Nat) (energy : Bool) (s : State), (1 ≤ p ∧ p ≤ 4) → s.net.portEnabled p = true →
   s.ctl.mode ≠ .standby → (1 ≤ speed ∧ speed ≤ 2 ∧ bitOf (s.net.port p).speeds (speed - 1) = true) → s.getF .agreed
   (npF fNpStatSpeed p) ≠ speed → ∃ s', exec (.linkChange t p speed false energy) s = .next s' ∧ s'.getF .agreed
   (npF fNpStatSpeed p) = speed ∧ s'.getF .agreed (npF fNpStatEnergy p) = b2n energy ∧ raised s' s.lane.active.mask
   evNpLink p speed ∧ (s.planeDown (planeOf p) = true → raised s' s.lane.active.mask evNpPlane (planeOf p) 0) ∧
   regsBut [(.agreed, rNpStat + 0x1000 * (p - 1))] s s' ∧ sameBut [.regs, .log] (s.advance t) s') ∧
  (∀ (t : Nat) (p : Nat) (half energy : Bool) (s : State), (1 ≤ p ∧ p ≤ 4) → s.net.portEnabled p = true → s.ctl.mode
   ≠ .standby → s.getF .agreed (npF fNpStatSpeed p) ≠ 0 → ∃ s', exec (.linkChange t p 0 half energy) s = .next s' ∧
   s'.getF .agreed (npF fNpStatSpeed p) = 0 ∧ s'.getF .agreed (npF fNpStatEnergy p) = b2n energy ∧ raised s'
   s.lane.active.mask evNpLink p 0 ∧ (s.planeDown (planeOf p) = false → s'.planeDown (planeOf p) = true → raised s'
   s.lane.active.mask evNpPlane (planeOf p) 1) ∧ regsBut [(.agreed, rNpStat + 0x1000 * (p - 1))] s s' ∧ sameBut
   [.regs, .log] (s.advance t) s') ∧
  (∀ (t : Nat) (p speed : Nat) (energy : Bool) (s : State), (1 ≤ p ∧ p ≤ 4) → s.net.portEnabled p = true →
   s.ctl.mode ≠ .standby → speed ≤ 2 → s.getF .agreed (npF fNpStatSpeed p) = 0 → ∃ s', exec (.linkChange t p speed
   true energy) s = .next s' ∧ s'.getF .agreed (npF fNpStatSpeed p) = 0 ∧ s'.getF .agreed (npF fNpStatEnergy p) =
   b2n energy ∧ s'.getF .agreed (npF fNpStatDuplexfail p) = min 65535 (s.getF .agreed (npF fNpStatDuplexfail p) + 1)
   ∧ regsBut [(.agreed, rNpStat + 0x1000 * (p - 1))] s s' ∧ sameBut [.regs] (s.advance t) s') ∧
  (∀ (t : Nat) (p : Nat) (f : List Byte) (s : State), (1 ≤ p ∧ p ≤ 4) → s.voters.any (fun m => (s.mast m).powered) =
   true → (s.ctl.mode ≠ .standby ∧ s.ctl.mode ≠ .boot ∧ s.ctl.mode ≠ .recovery) → s.net.portEnabled p = true → (60 ≤
   f.length ∧ f.length ≤ 1524 ∧ s.net.forMe p f = true) → (isPtp f = true ∨ prpTrailer f = none) → supported
   (s.net.iface p) f = true → ((s.net.port p).classes.length = 8 ∧ s.net.ports.length = 4 ∧ (s.net.port p).classOf f
   < 8) → (((s.net.port p).classes[(s.net.port p).classOf f]?.getD {}).police (max s.now t) (f.length + 4)).2 = true
   → ((s.net.port p).classes[(s.net.port p).classOf f]?.getD {}).used < ((s.net.port p).classes[(s.net.port
   p).classOf f]?.getD {}).reserve → ∃ s', exec (.networkFrameReceived t p f true) s = .next s' ∧ s'.intake =
   { s.intake with fan := s.intake.fan ++ [Item.form (0x1000 + 0x100 * p + (s.net.port p).classOf f) (s.intake.nextSeq (0x1000 + 0x100 * p + (s.net.port p).classOf f)) (s.advance t).moduleTime f],
                   entrySeq := s'.intake.entrySeq }
   ∧ s'.getF .agreed (npF fNpRxokCount p) = (s.getF .agreed (npF fNpRxokCount p) + 1) % 4294967296 ∧ s'.getF .agreed
   (npC fNpRxcls1Count p ((s.net.port p).classOf f)) = min 4294967295 (s.getF .agreed (npC fNpRxcls1Count p
   ((s.net.port p).classOf f)) + 1) ∧ ((s'.net.port p).classes[(s.net.port p).classOf f]?).map NetClass.used = some
   (((s.net.port p).classes[(s.net.port p).classOf f]?.getD {}).used + 1) ∧ (s'.net.port p).pool = (s.net.port
   p).pool ∧ (∀ k, k ≠ p - 1 → s'.net.ports[k]? = s.net.ports[k]?) ∧ s'.net.prp = s.net.prp ∧ s'.net.sc = s.net.sc ∧
   s'.net.pd = s.net.pd ∧ sameBut [.net, .intake, .regs, .log, .panel] (s.advance t) s') ∧
  (∀ (t : Nat) (p : Nat) (f : List Byte) (s : State), (1 ≤ p ∧ p ≤ 4) → s.voters.any (fun m => (s.mast m).powered) =
   true → (s.ctl.mode ≠ .standby ∧ s.ctl.mode ≠ .boot ∧ s.ctl.mode ≠ .recovery) → s.net.portEnabled p = true → (60 ≤
   f.length ∧ f.length ≤ 1524 ∧ s.net.forMe p f = true) → (isPtp f = true ∨ prpTrailer f = none) → supported
   (s.net.iface p) f = true → ((s.net.port p).classes.length = 8 ∧ s.net.ports.length = 4 ∧ (s.net.port p).classOf f
   < 8) → (((s.net.port p).classes[(s.net.port p).classOf f]?.getD {}).police (max s.now t) (f.length + 4)).2 = true
   → (((s.net.port p).classes[(s.net.port p).classOf f]?.getD {}).reserve ≤ ((s.net.port p).classes[(s.net.port
   p).classOf f]?.getD {}).used ∧ (s.net.port p).pool * 100 < ((s.net.port p).classes[(s.net.port p).classOf
   f]?.getD {}).thresh * (s.net.port p).poolSize) → ∃ s', exec (.networkFrameReceived t p f true) s = .next s' ∧
   s'.intake =
   { s.intake with fan := s.intake.fan ++ [Item.form (0x1000 + 0x100 * p + (s.net.port p).classOf f) (s.intake.nextSeq (0x1000 + 0x100 * p + (s.net.port p).classOf f)) (s.advance t).moduleTime f],
                   entrySeq := s'.intake.entrySeq }
   ∧ s'.getF .agreed (npF fNpRxokCount p) = (s.getF .agreed (npF fNpRxokCount p) + 1) % 4294967296 ∧ s'.getF .agreed
   (npC fNpRxcls1Count p ((s.net.port p).classOf f)) = min 4294967295 (s.getF .agreed (npC fNpRxcls1Count p
   ((s.net.port p).classOf f)) + 1) ∧ ((s'.net.port p).classes[(s.net.port p).classOf f]?).map NetClass.used = some
   ((s.net.port p).classes[(s.net.port p).classOf f]?.getD {}).used ∧ (s'.net.port p).pool = (s.net.port p).pool + 1
   ∧ (∀ k, k ≠ p - 1 → s'.net.ports[k]? = s.net.ports[k]?) ∧ s'.net.prp = s.net.prp ∧ s'.net.sc = s.net.sc ∧
   s'.net.pd = s.net.pd ∧ sameBut [.net, .intake, .regs, .log, .panel] (s.advance t) s') ∧
  (∀ (t : Nat) (p : Nat) (f : List Byte) (s : State), (1 ≤ p ∧ p ≤ 4) → s.voters.any (fun m => (s.mast m).powered) =
   true → (s.ctl.mode ≠ .standby ∧ s.ctl.mode ≠ .boot ∧ s.ctl.mode ≠ .recovery) → s.net.portEnabled p = true → (60 ≤
   f.length ∧ f.length ≤ 1524 ∧ s.net.forMe p f = true) → (isPtp f = true ∨ prpTrailer f = none) → supported
   (s.net.iface p) f = true → ((s.net.port p).classes.length = 8 ∧ s.net.ports.length = 4 ∧ (s.net.port p).classOf f
   < 8) → (((s.net.port p).classes[(s.net.port p).classOf f]?.getD {}).police (max s.now t) (f.length + 4)).2 =
   false → ∃ s', exec (.networkFrameReceived t p f true) s = .next s' ∧ s'.getF .agreed (npC fNpPoldrop1Count p
   ((s.net.port p).classOf f)) = min 4294967295 (s.getF .agreed (npC fNpPoldrop1Count p ((s.net.port p).classOf f))
   + 1) ∧ s'.intake = s.intake ∧ (∀ k, k ≠ p - 1 → s'.net.ports[k]? = s.net.ports[k]?) ∧ s'.net.prp = s.net.prp ∧
   s'.net.sc = s.net.sc ∧ s'.net.pd = s.net.pd ∧ regsBut [(.agreed, 0xE0050120 + 0x1000 * (p - 1) + 4 * ((s.net.port
   p).classOf f))] s s' ∧ sameBut [.net, .regs, .log, .panel] (s.advance t) s') ∧
  (∀ (t : Nat) (p : Nat) (f : List Byte) (s : State), (1 ≤ p ∧ p ≤ 4) → s.voters.any (fun m => (s.mast m).powered) =
   true → (s.ctl.mode ≠ .standby ∧ s.ctl.mode ≠ .boot ∧ s.ctl.mode ≠ .recovery) → s.net.portEnabled p = true → (60 ≤
   f.length ∧ f.length ≤ 1524 ∧ s.net.forMe p f = true) → (isPtp f = true ∨ prpTrailer f = none) → supported
   (s.net.iface p) f = true → ((s.net.port p).classes.length = 8 ∧ s.net.ports.length = 4 ∧ (s.net.port p).classOf f
   < 8) → (((s.net.port p).classes[(s.net.port p).classOf f]?.getD {}).police (max s.now t) (f.length + 4)).2 = true
   → (((s.net.port p).classes[(s.net.port p).classOf f]?.getD {}).reserve ≤ ((s.net.port p).classes[(s.net.port
   p).classOf f]?.getD {}).used ∧ ((s.net.port p).classes[(s.net.port p).classOf f]?.getD {}).thresh * (s.net.port
   p).poolSize ≤ (s.net.port p).pool * 100) → ∃ s', exec (.networkFrameReceived t p f true) s = .next s' ∧ s'.getF
   .agreed (npC fNpAdmdrop1Count p ((s.net.port p).classOf f)) = min 4294967295 (s.getF .agreed (npC
   fNpAdmdrop1Count p ((s.net.port p).classOf f)) + 1) ∧ s'.intake = s.intake ∧ (∀ k, k ≠ p - 1 → s'.net.ports[k]? =
   s.net.ports[k]?) ∧ s'.net.prp = s.net.prp ∧ s'.net.sc = s.net.sc ∧ s'.net.pd = s.net.pd ∧ regsBut [(.agreed,
   0xE0050140 + 0x1000 * (p - 1) + 4 * ((s.net.port p).classOf f))] s s' ∧ sameBut [.net, .regs, .log, .panel]
   (s.advance t) s') ∧
  (∀ (t : Nat) (p : Nat) (f : List Byte) (s : State), (1 ≤ p ∧ p ≤ 4) → s.voters.any (fun m => (s.mast m).powered) =
   true → (s.ctl.mode ≠ .standby ∧ s.ctl.mode ≠ .boot ∧ s.ctl.mode ≠ .recovery) → s.net.portEnabled p = true → ∃ s',
   exec (.networkFrameReceived t p f false) s = .next s' ∧ s'.getF .agreed (npF fNpRxerrFcs p) = min 65535 (s.getF
   .agreed (npF fNpRxerrFcs p) + 1) ∧ regsBut [(.agreed, rNpRxerr + 0x1000 * (p - 1))] s s' ∧ sameBut [.regs,
   .panel] (s.advance t) s') ∧
  (∀ (t : Nat) (p : Nat) (f : List Byte) (s : State), (1 ≤ p ∧ p ≤ 4) → s.voters.any (fun m => (s.mast m).powered) =
   true → (s.ctl.mode ≠ .standby ∧ s.ctl.mode ≠ .boot ∧ s.ctl.mode ≠ .recovery) → s.net.portEnabled p = true →
   (f.length < 60 ∨ 1524 < f.length) → ∃ s', exec (.networkFrameReceived t p f true) s = .next s' ∧ s'.getF .agreed
   (npF fNpRxerrLength p) = min 255 (s.getF .agreed (npF fNpRxerrLength p) + 1) ∧ regsBut [(.agreed, rNpRxerr +
   0x1000 * (p - 1))] s s' ∧ sameBut [.regs, .panel] (s.advance t) s') ∧
  (∀ (t : Nat) (p : Nat) (f : List Byte) (s : State), (1 ≤ p ∧ p ≤ 4) → s.voters.any (fun m => (s.mast m).powered) =
   true → (s.ctl.mode ≠ .standby ∧ s.ctl.mode ≠ .boot ∧ s.ctl.mode ≠ .recovery) → s.net.portEnabled p = true → (60 ≤
   f.length ∧ f.length ≤ 1524 ∧ s.net.forMe p f = true) → (isPtp f = true ∨ prpTrailer f = none) → (supported
   (s.net.iface p) f = false ∧ udpUnreachable (s.net.iface p) f = false) → ∃ s', exec (.networkFrameReceived t p f
   true) s = .next s' ∧ s'.getF .agreed (npF fNpRxerrUnsup p) = min 255 (s.getF .agreed (npF fNpRxerrUnsup p) + 1) ∧
   regsBut [(.agreed, rNpRxerr + 0x1000 * (p - 1))] s s' ∧ sameBut [.regs, .panel] (s.advance t) s') ∧
  (∀ (t : Nat) (p : Nat) (f : List Byte) (s : State), (1 ≤ p ∧ p ≤ 4) → s.voters.any (fun m => (s.mast m).powered) =
   true → (s.ctl.mode ≠ .standby ∧ s.ctl.mode ≠ .boot ∧ s.ctl.mode ≠ .recovery) → s.net.portEnabled p = true → (60 ≤
   f.length ∧ f.length ≤ 1524 ∧ s.net.forMe p f = false) → ∃ s', exec (.networkFrameReceived t p f true) s = .next
   s' ∧ sameBut [.panel] (s.advance t) s') ∧
  (∀ (t : Nat) (p seq : Nat) (f : List Byte) (s : State), (1 ≤ p ∧ p ≤ 4) → s.voters.any (fun m => (s.mast
   m).powered) = true → (s.ctl.mode ≠ .standby ∧ s.ctl.mode ≠ .boot ∧ s.ctl.mode ≠ .recovery) → s.net.portEnabled p
   = true → (60 ≤ f.length ∧ f.length ≤ 1524 ∧ s.net.forMe p f = true) → (isPtp f = false ∧ prpTrailer f = some
   (seq, if planeOf p = 1 then 0xA else 0xB)) → (s.net.prp[ifaceOf p]?.getD []).any (fun e => decide (max s.now t <
   e.at' + 400 * ms) && e.mac == beAt f 6 6 && e.seq == seq) = true → ∃ s', exec (.networkFrameReceived t p f true)
   s = .next s' ∧ s'.getF .agreed (npF fNpPrpDups p) = min 65535 (s.getF .agreed (npF fNpPrpDups p) + 1) ∧ regsBut
   [(.agreed, rNpPrp + 0x1000 * (p - 1))] s s' ∧ sameBut [.regs, .panel] (s.advance t) s') ∧
  (∀ (t : Nat) (p seq : Nat) (f : List Byte) (s : State), (1 ≤ p ∧ p ≤ 4) → s.voters.any (fun m => (s.mast
   m).powered) = true → (s.ctl.mode ≠ .standby ∧ s.ctl.mode ≠ .boot ∧ s.ctl.mode ≠ .recovery) → s.net.portEnabled p
   = true → (60 ≤ f.length ∧ f.length ≤ 1524 ∧ s.net.forMe p f = true) → (isPtp f = false ∧ prpTrailer f = some
   (seq, if planeOf p = 1 then 0xA else 0xB)) → (s.net.prp[ifaceOf p]?.getD []).any (fun e => decide (max s.now t <
   e.at' + 400 * ms) && e.mac == beAt f 6 6 && e.seq == seq) = false → s.net.prp.length = 2 → supported (s.net.iface
   p) (f.take (f.length - 6)) = true → ((s.net.port p).classes.length = 8 ∧ s.net.ports.length = 4 ∧ (s.net.port
   p).classOf (f.take (f.length - 6)) < 8) → (((s.net.port p).classes[(s.net.port p).classOf (f.take (f.length -
   6))]?.getD {}).police (max s.now t) ((f.take (f.length - 6)).length + 4)).2 = true → ((s.net.port
   p).classes[(s.net.port p).classOf (f.take (f.length - 6))]?.getD {}).used < ((s.net.port p).classes[(s.net.port
   p).classOf (f.take (f.length - 6))]?.getD {}).reserve → ∃ s', exec (.networkFrameReceived t p f true) s = .next
   s' ∧ s'.intake =
   { s.intake with fan := s.intake.fan ++ [Item.form (0x1000 + 0x100 * p + (s.net.port p).classOf (f.take (f.length - 6))) (s.intake.nextSeq (0x1000 + 0x100 * p + (s.net.port p).classOf (f.take (f.length - 6)))) (s.advance t).moduleTime (f.take (f.length - 6))],
                   entrySeq := s'.intake.entrySeq }
   ∧ s'.getF .agreed (npF fNpRxokCount p) = (s.getF .agreed (npF fNpRxokCount p) + 1) % 4294967296 ∧ s'.getF .agreed
   (npC fNpRxcls1Count p ((s.net.port p).classOf (f.take (f.length - 6)))) = min 4294967295 (s.getF .agreed (npC
   fNpRxcls1Count p ((s.net.port p).classOf (f.take (f.length - 6)))) + 1) ∧ (s'.net.prp[ifaceOf p]?.getD []) =
   (⟨beAt f 6 6, seq, max s.now t⟩ :: (s.net.prp[ifaceOf p]?.getD []).filter (fun e => decide (max s.now t < e.at' +
   400 * ms))).take 1024 ∧ sameBut [.net, .intake, .regs, .log, .panel] (s.advance t) s') ∧
  (∀ (t : Nat) (p seq lan : Nat) (f : List Byte) (s : State), (1 ≤ p ∧ p ≤ 4) → s.voters.any (fun m => (s.mast
   m).powered) = true → (s.ctl.mode ≠ .standby ∧ s.ctl.mode ≠ .boot ∧ s.ctl.mode ≠ .recovery) → s.net.portEnabled p
   = true → (60 ≤ f.length ∧ f.length ≤ 1524 ∧ s.net.forMe p f = true) → (isPtp f = false ∧ prpTrailer f = some
   (seq, lan)) → lan ≠ (if planeOf p = 1 then 0xA else 0xB) → s.log.limits = [] → ∃ s', exec (.networkFrameReceived
   t p f true) s = .next s' ∧ s'.getF .agreed (npF fNpPrpWronglan p) = min 65535 (s.getF .agreed (npF fNpPrpWronglan
   p) + 1) ∧ raised s' s.lane.active.mask evNpPrpWrongLan p (beAt f 6 6) ∧ sameBut [.net, .intake, .regs, .log,
   .panel] (s.advance t) s') ∧
  (∀ (t : Nat) (p : Nat) (f : List Byte) (s : State), (1 ≤ p ∧ p ≤ 4) → s.voters.any (fun m => (s.mast m).powered) =
   true → (s.ctl.mode ≠ .standby ∧ s.ctl.mode ≠ .boot ∧ s.ctl.mode ≠ .recovery) → s.net.portEnabled p = true → (60 ≤
   f.length ∧ f.length ≤ 1524 ∧ s.net.forMe p f = true) → (isPtp f = true ∨ prpTrailer f = none) → supported
   (s.net.iface p) f = true → ((s.net.port p).classes.length = 8 ∧ s.net.ports.length = 4 ∧ (s.net.port p).classOf f
   < 8) → (((s.net.port p).classes[(s.net.port p).classOf f]?.getD {}).police (max s.now t) (f.length + 4)).2 = true
   → ((s.net.port p).classes[(s.net.port p).classOf f]?.getD {}).used < ((s.net.port p).classes[(s.net.port
   p).classOf f]?.getD {}).reserve → isArpFor (s.net.iface p) f = true → (s.ctl.mode ≠ .safe ∧ s.ctl.bootFrom +
   s.getF .agreed fMcBoottimeToStop * ms + sec ≤ max s.now t) → s.net.arp.length = 2 → ∃ s', exec
   (.networkFrameReceived t p f true) s = .next s' ∧ s'.intake =
   { s.intake with fan := s.intake.fan ++ [Item.form (0x1000 + 0x100 * p + (s.net.port p).classOf f) (s.intake.nextSeq (0x1000 + 0x100 * p + (s.net.port p).classOf f)) (s.advance t).moduleTime f],
                   entrySeq := s'.intake.entrySeq }
   ∧ s'.getF .agreed (npF fNpRxokCount p) = (s.getF .agreed (npF fNpRxokCount p) + 1) % 4294967296 ∧ s'.getF .agreed
   (npC fNpRxcls1Count p ((s.net.port p).classOf f)) = min 4294967295 (s.getF .agreed (npC fNpRxcls1Count p
   ((s.net.port p).classOf f)) + 1) ∧ s'.net.replies = s.net.replies ++ [.arp (ifaceOf p + 1) false] ∧
   (s'.net.arp[ifaceOf p]?).map List.head? = some (some (beAt f (l3Of f + 14) 4, beAt f (l3Of f + 8) 6)) ∧ sameBut
   [.net, .intake, .regs, .log, .panel] (s.advance t) s') ∧
  (∀ (t : Nat) (p : Nat) (f : List Byte) (s : State), (1 ≤ p ∧ p ≤ 4) → s.voters.any (fun m => (s.mast m).powered) =
   true → (s.ctl.mode ≠ .standby ∧ s.ctl.mode ≠ .boot ∧ s.ctl.mode ≠ .recovery) → s.net.portEnabled p = true → (60 ≤
   f.length ∧ f.length ≤ 1524 ∧ s.net.forMe p f = true) → (isPtp f = true ∨ prpTrailer f = none) → supported
   (s.net.iface p) f = true → ((s.net.port p).classes.length = 8 ∧ s.net.ports.length = 4 ∧ (s.net.port p).classOf f
   < 8) → (((s.net.port p).classes[(s.net.port p).classOf f]?.getD {}).police (max s.now t) (f.length + 4)).2 = true
   → ((s.net.port p).classes[(s.net.port p).classOf f]?.getD {}).used < ((s.net.port p).classes[(s.net.port
   p).classOf f]?.getD {}).reserve → s.ctl.mode = .safe → ∃ s', exec (.networkFrameReceived t p f true) s = .next s'
   ∧ s'.intake =
   { s.intake with fan := s.intake.fan ++ [Item.form (0x1000 + 0x100 * p + (s.net.port p).classOf f) (s.intake.nextSeq (0x1000 + 0x100 * p + (s.net.port p).classOf f)) (s.advance t).moduleTime f],
                   entrySeq := s'.intake.entrySeq }
   ∧ s'.getF .agreed (npF fNpRxokCount p) = (s.getF .agreed (npF fNpRxokCount p) + 1) % 4294967296 ∧ s'.getF .agreed
   (npC fNpRxcls1Count p ((s.net.port p).classOf f)) = min 4294967295 (s.getF .agreed (npC fNpRxcls1Count p
   ((s.net.port p).classOf f)) + 1) ∧ s'.net.replies = s.net.replies ∧ sameBut [.net, .intake, .regs, .log, .panel]
   (s.advance t) s') ∧
  (∀ (t : Nat) (p : Nat) (f : List Byte) (fcsOk : Bool) (s : State), (1 ≤ p ∧ p ≤ 4) → s.voters.any (fun m =>
   (s.mast m).powered) = true → (s.ctl.mode = .boot ∧ max s.now t < s.ctl.stepAt 1150) → (max s.now t < s.ctl.stepAt
   1050 ∨ fcsOk = false ∨ s.net.portEnabled p = false) → ∃ s', exec (.networkFrameReceived t p f fcsOk) s = .next s'
   ∧ s'.getF .agreed (fMcBootdropCount.plus (4 * (p - 1))) = min 4294967295 (s.getF .agreed (fMcBootdropCount.plus
   (4 * (p - 1))) + 1) ∧ regsBut [(.agreed, rMcBootdrop + 4 * (p - 1))] s s' ∧ sameBut [.regs] (s.advance t) s') ∧
  (∀ (t : Nat) (p : Nat) (f : List Byte) (l : List (Nat × Nat)) (s : State), (1 ≤ p ∧ p ≤ 4) → s.voters.any (fun m
   => (s.mast m).powered) = true → (s.ctl.mode = .boot ∧ s.ctl.stepAt 1050 ≤ max s.now t ∧ max s.now t <
   s.ctl.stepAt 1150) → s.net.portEnabled p = true → (isEcho (s.net.iface p) f = true ∧ beAt f 0 6 = (s.net.iface
   p).mac) → rateTake s.net.icmp p (max s.now t) 10 = some l → ∃ s', exec (.networkFrameReceived t p f true) s =
   .next s' ∧ s'.net = { s.net with icmp := l, replies := s.net.replies ++ [.icmpEcho p] } ∧ sameBut [.net]
   (s.advance t) s') ∧
  (∀ (t : Nat) (p : Nat) (f : List Byte) (fcsOk : Bool) (s : State), s.ctl.mode = .standby → exec
   (.networkFrameReceived t p f fcsOk) s = .next (s.advance t)) ∧
  (∀ (t : Nat) (iface mac seq : Nat) (l : List PrpEntry) (s : State), 1 ≤ iface → s.net.prp[iface - 1]? = some l → ∃
   s', exec (.prpEntryForget t iface mac seq) s = .next s' ∧ s'.net =
   { s.net with prp := s.net.prp.set (iface - 1) (l.filter (fun e => decide (max s.now t < e.at' + 400 * ms) || e.mac != mac || e.seq != seq)) }
   ∧ sameBut [.net] (s.advance t) s')

/-- For every state. pdPublish: a publication whose turn it is, whose telegram the image in force holds and whose
station is not lost, is queued for the action instant plus PHASE_US and waits its period again; where the image
holds none it only waits. pdPullRequest is answered with that dataset at the next PHASE_US in RUN and HOLD and with
Me in STOP and SERVICE. mdRequest opens a session while fewer than 256 are open and is refused with NP_MD_LIMIT and
Me otherwise. mdReplyTimeout ends a session without reply at its timeout. scWatchdogExpiry: a safe connection that
has accepted nothing for WATCHDOG_MS expires, accepts any sequence next, is counted and raises SC_TIMEOUT.
outputImageSubmit: the item of a safe publication goes out as the container of its connection, a new one with the
next sequence when the data or FLAGS change or the last is due for renewal, the last one again otherwise (when to
renew and where FLAGS stand in the program's value is the model's choice, log entry 133). Completion: for every
state and operands that meet the stated conditions on them alone, exec answers the next state of the own effect of
pdPublish (PD_PUBLISH), pdPullRequest (PD_PULL_REQUEST), mdRequest (MD_REQUEST), mdReplyTimeout (MD_REPLY_TIMEOUT),
scWatchdogExpiry (SC_WATCHDOG_EXPIRY), outputImageSubmit (OUTPUT_IMAGE_SUBMIT). -/
def Obligations.ProcessAndMessageData : Prop :=
  (∀ (t : Nat) (telegram : Nat) (e : PdEntry) (d : List Byte) (s : State), s.net.pd.find? (fun e => e.telegram ==
   telegram && e.dir == 1) = some e → (∀ x ∈ s.net.pd, x.telegram = telegram → x = e) → e.wait = 0 → (s.ctl.mode =
   .run ∨ s.ctl.mode = .hold) → s.dataset telegram = some d → s.pdHeld e = false → ∃ s', exec (.pdPublish t
   telegram) s = .next s' ∧ s'.net =
   { s.net with publish := s.net.publish ++ [(telegram, s.time.lastAiTime + e.phaseUs * us, d)],
                pd := s.net.pd.map (fun x => if x.telegram == telegram then { e with wait := e.period } else x) }
   ∧ sameBut [.net] (s.advance t) s') ∧
  (∀ (t : Nat) (telegram : Nat) (e : PdEntry) (s : State), s.net.pd.find? (fun e => e.telegram == telegram && e.dir
   == 1) = some e → (∀ x ∈ s.net.pd, x.telegram = telegram → x = e) → e.wait = 0 → (s.ctl.mode = .run ∨ s.ctl.mode =
   .hold) → s.dataset telegram = none → ∃ s', exec (.pdPublish t telegram) s = .next s' ∧ s'.net =
   { s.net with pd := s.net.pd.map (fun x => if x.telegram == telegram then { e with wait := e.period } else x) } ∧
   sameBut [.net] (s.advance t) s') ∧
  (∀ (t : Nat) (telegram : Nat) (e : PdEntry) (d : List Byte) (s : State), s.net.pd.find? (fun e => e.telegram ==
   telegram && e.dir == 1 && bitOf e.flags 1) = some e → (s.ctl.mode = .run ∨ s.ctl.mode = .hold) → s.dataset
   telegram = some d → ∃ s', exec (.pdPullRequest t telegram) s = .next s' ∧ s'.net =
   { s.net with publish := s.net.publish ++ [(telegram, (if (s.advance t).moduleTime < s.time.lastAiTime + e.phaseUs * us then s.time.lastAiTime + e.phaseUs * us else s.time.lastAiTime + e.phaseUs * us + s.aiCycle), d)],
                replies := s.net.replies ++ [.pdPull telegram d] }
   ∧ sameBut [.net] (s.advance t) s') ∧
  (∀ (t : Nat) (telegram : Nat) (e : PdEntry) (s : State), s.net.pd.find? (fun e => e.telegram == telegram && e.dir
   == 1 && bitOf e.flags 1) = some e → (s.ctl.mode = .stop ∨ s.ctl.mode = .service) → ∃ s', exec (.pdPullRequest t
   telegram) s = .next s' ∧ s'.net = { s.net with replies := s.net.replies ++ [.me e.comId] } ∧ sameBut [.net]
   (s.advance t) s') ∧
  (∀ (t : Nat) (comId : Nat) (e : MdEntry) (s : State), s.net.md.find? (fun e => e.comId == comId) = some e →
   s.net.sessions.length < 256 → ∃ s', exec (.mdRequest t comId) s = .next s' ∧ s'.net =
   { s.net with sessions := s.net.sessions ++ [⟨s.net.nextSession, comId, max s.now t, e.timeoutMs⟩],
                nextSession := s.net.nextSession + 1 }
   ∧ s'.getF .agreed fNpMdOpen = s.net.sessions.length + 1 ∧ regsBut [(.agreed, rNpMd)] s s' ∧ sameBut [.net, .regs]
   (s.advance t) s') ∧
  (∀ (t : Nat) (comId : Nat) (e : MdEntry) (s : State), s.net.md.find? (fun e => e.comId == comId) = some e → 256 ≤
   s.net.sessions.length → (s.ctl.mode ≠ .safe ∧ s.ctl.mode ≠ .standby ∧ s.ctl.mode ≠ .recovery) → ∃ s', exec
   (.mdRequest t comId) s = .next s' ∧ raised s' s.lane.active.mask evNpMdLimit comId s.net.sessions.length ∧
   s'.getF .agreed fNpMdRefused = min 65535 (s.getF .agreed fNpMdRefused + 1) ∧ s'.net =
   { s.net with replies := s.net.replies ++ [.me comId] } ∧ regsBut [(.agreed, rNpMd)] s s' ∧ sameBut [.net, .regs,
   .log] (s.advance t) s') ∧
  (∀ (t : Nat) (session : Nat) (s : State), s.net.sessions.length ≤ 256 → ∃ s', exec (.mdReplyTimeout t session) s =
   .next s' ∧ s'.net =
   { s.net with sessions := s.net.sessions.filter (fun e => e.id != session || decide (max s.now t < e.opened + e.timeoutMs * ms)) }
   ∧ s'.getF .agreed fNpMdOpen = s'.net.sessions.length ∧ regsBut [(.agreed, rNpMd)] s s' ∧ sameBut [.net, .regs]
   (s.advance t) s') ∧
  (∀ (t : Nat) (i : Nat) (c : SafeConn) (s : State), s.net.sc[i]? = some c → (c.dir = 2 ∧ c.expired = false) →
   c.acceptedAt + c.watchdog * ms ≤ max s.now t → ∃ s', exec (.scWatchdogExpiry t i) s = .next s' ∧ s'.net =
   { s.net with sc := s.net.sc.set i { c with expired := true, anySeq := true } } ∧ s'.getF .agreed fNpScTimeouts =
   min 65535 (s.getF .agreed fNpScTimeouts + 1) ∧ raised s' s.lane.active.mask evScTimeout c.connId ((max s.now t -
   c.acceptedAt) / ms) ∧ regsBut [(.agreed, rNpSc)] s s' ∧ sameBut [.net, .regs, .log] (s.advance t) s') ∧
  (∀ (t : Nat) (m : Mast) (i : Item) (done n k : Nat) (c : SafeConn) (s : State), s.app.inCycle.get m = some n →
   (s.ctl.mode = .run ∨ s.ctl.mode = .hold) → (s.votes m = true ∧ (s.mast m).alive = true ∧ s.app.halted.get m =
   false) → (s.app.sub.get m ≠ n ∧ s.lane.images.get m = none ∧ s.lane.late = none) → done - s.app.cycleFrom.get m <
   s.cycleLimit → (s.scOf i = some (k, c) ∧ i.tagOk = true) → c.sent.get m = none → ∃ s', exec (.outputImageSubmit t
   m [i] done) s = .next s' ∧ s'.lane.images.get m = some ⟨n, itemsDigest
   [{ i with value := (c.container (fieldAt i.value 0 1 % 2) 1 s.time.lastAiTime (i.value.drop 1)),
             len := ((c.container (fieldAt i.value 0 1 % 2) 1 s.time.lastAiTime (i.value.drop 1))).length,
             crc := ({ i with value := (c.container (fieldAt i.value 0 1 % 2) 1 s.time.lastAiTime (i.value.drop 1)),
                              len := ((c.container (fieldAt i.value 0 1 % 2) 1 s.time.lastAiTime (i.value.drop 1))).length }).goodCrc }],
   [{ i with value := (c.container (fieldAt i.value 0 1 % 2) 1 s.time.lastAiTime (i.value.drop 1)),
             len := ((c.container (fieldAt i.value 0 1 % 2) 1 s.time.lastAiTime (i.value.drop 1))).length,
             crc := ({ i with value := (c.container (fieldAt i.value 0 1 % 2) 1 s.time.lastAiTime (i.value.drop 1)),
                              len := ((c.container (fieldAt i.value 0 1 % 2) 1 s.time.lastAiTime (i.value.drop 1))).length }).goodCrc }],
   (s.advance t).moduleTime, 0⟩ ∧ s'.net =
   { s.net with sc := s.net.sc.set k { c with sent := c.sent.set m (some ⟨1, fieldAt i.value 0 1 % 2, i.value.drop 1, s.time.lastAiTime, (c.container (fieldAt i.value 0 1 % 2) 1 s.time.lastAiTime (i.value.drop 1))⟩) } }
   ∧ sameBut [.app, .lane, .regs, .net] (s.advance t) s') ∧
  (∀ (t : Nat) (m : Mast) (i : Item) (done n k : Nat) (c : SafeConn) (x : ScSent) (s : State), s.app.inCycle.get m =
   some n → (s.ctl.mode = .run ∨ s.ctl.mode = .hold) → (s.votes m = true ∧ (s.mast m).alive = true ∧
   s.app.halted.get m = false) → (s.app.sub.get m ≠ n ∧ s.lane.images.get m = none ∧ s.lane.late = none) → done -
   s.app.cycleFrom.get m < s.cycleLimit → (s.scOf i = some (k, c) ∧ i.tagOk = true) → c.sent.get m = some x →
   (x.flags ≠ fieldAt i.value 0 1 % 2 ∨ x.data ≠ i.value.drop 1 ∨ c.maxAge * ms < 2 * (s.time.lastAiTime + s.aiCycle
   - x.time)) → ∃ s', exec (.outputImageSubmit t m [i] done) s = .next s' ∧ s'.lane.images.get m = some ⟨n,
   itemsDigest
   [{ i with value := (c.container (fieldAt i.value 0 1 % 2) ((x.seq + 1) % 4294967296) s.time.lastAiTime (i.value.drop 1)),
             len := ((c.container (fieldAt i.value 0 1 % 2) ((x.seq + 1) % 4294967296) s.time.lastAiTime (i.value.drop 1))).length,
             crc := ({ i with value := (c.container (fieldAt i.value 0 1 % 2) ((x.seq + 1) % 4294967296) s.time.lastAiTime (i.value.drop 1)),
                              len := ((c.container (fieldAt i.value 0 1 % 2) ((x.seq + 1) % 4294967296) s.time.lastAiTime (i.value.drop 1))).length }).goodCrc }],
   [{ i with value := (c.container (fieldAt i.value 0 1 % 2) ((x.seq + 1) % 4294967296) s.time.lastAiTime (i.value.drop 1)),
             len := ((c.container (fieldAt i.value 0 1 % 2) ((x.seq + 1) % 4294967296) s.time.lastAiTime (i.value.drop 1))).length,
             crc := ({ i with value := (c.container (fieldAt i.value 0 1 % 2) ((x.seq + 1) % 4294967296) s.time.lastAiTime (i.value.drop 1)),
                              len := ((c.container (fieldAt i.value 0 1 % 2) ((x.seq + 1) % 4294967296) s.time.lastAiTime (i.value.drop 1))).length }).goodCrc }],
   (s.advance t).moduleTime, 0⟩ ∧ s'.net =
   { s.net with sc := s.net.sc.set k { c with sent := c.sent.set m (some ⟨((x.seq + 1) % 4294967296), fieldAt i.value 0 1 % 2, i.value.drop 1, s.time.lastAiTime, (c.container (fieldAt i.value 0 1 % 2) ((x.seq + 1) % 4294967296) s.time.lastAiTime (i.value.drop 1))⟩) } }
   ∧ sameBut [.app, .lane, .regs, .net] (s.advance t) s') ∧
  (∀ (t : Nat) (m : Mast) (i : Item) (done n k : Nat) (c : SafeConn) (x : ScSent) (s : State), s.app.inCycle.get m =
   some n → (s.ctl.mode = .run ∨ s.ctl.mode = .hold) → (s.votes m = true ∧ (s.mast m).alive = true ∧
   s.app.halted.get m = false) → (s.app.sub.get m ≠ n ∧ s.lane.images.get m = none ∧ s.lane.late = none) → done -
   s.app.cycleFrom.get m < s.cycleLimit → (s.scOf i = some (k, c) ∧ i.tagOk = true) → c.sent.get m = some x →
   (x.flags = fieldAt i.value 0 1 % 2 ∧ x.data = i.value.drop 1 ∧ 2 * (s.time.lastAiTime + s.aiCycle - x.time) ≤
   c.maxAge * ms) → ∃ s', exec (.outputImageSubmit t m [i] done) s = .next s' ∧ s'.lane.images.get m = some ⟨n,
   itemsDigest
   [{ i with value := x.bytes, len := (x.bytes).length, crc := ({ i with value := x.bytes,
                                                                         len := (x.bytes).length }).goodCrc }],
   [{ i with value := x.bytes, len := (x.bytes).length, crc := ({ i with value := x.bytes,
                                                                         len := (x.bytes).length }).goodCrc }],
   (s.advance t).moduleTime, 0⟩ ∧ s'.net =
   { s.net with sc := s.net.sc.set k { c with sent := c.sent.set m (some x) } } ∧ sameBut [.app, .lane, .regs, .net]
   (s.advance t) s')

/-- For every mast whose triads run. ringProduce: a PROD write on an enabled software-produced ring that advances it by
no more than the ring holds stores the index and nothing else. ringConsume: a CONS write on an enabled
hardware-produced ring that does not pass PROD or go backwards stores the index, and a DMA channel that waits for a
slot writes its record and goes on. Any other index write is discarded, counted in IDXERR and raises QM_INDEX_ERR;
on a hardware-owned ring it is discarded in silence. poolReturn: a buffer in use becomes free, as the last to be
handed out; another raises QM_INDEX_ERR. transmitDescriptor: the queue manager takes the descriptor at CONS of an
enabled ring that is not empty, writes its STATUS word with DONE and the result (descriptor error 5 with
QM_DESC_ERR, tag failed 6 with TAG_EXIT_FAIL, else the outcome of the unit) and advances CONS by one; no other byte
of memory changes. Completion: for every state and operands that meet the stated conditions on them alone, exec
answers the next state of the own effect of ringProduce (RING_PRODUCE), ringConsume (RING_CONSUME), poolReturn
(POOL_RETURN), transmitDescriptor (TRANSMIT_DESCRIPTOR). -/
def Obligations.RingsAndPool : Prop :=
  (∀ (t : Nat) (m : Mast) (n : Nat) (value : Nat) (s : State), s.triadRuns m = true → (ringSoft n = true ∧ s.ringOn
   m n = true) → (usedOf (s.ringProd m n) (s.ringCons m n) ≤ usedOf (value % 65536) (s.ringCons m n) ∧ usedOf (value
   % 65536) (s.ringCons m n) ≤ s.ringSize m n) → ∃ s', exec (.ringProduce t m n value) s = .next s' ∧ s'.ringProd m
   n = value % 65536 ∧ regsBut [(.mast m, rQmRingProd + 0x10 * n)] s s' ∧ sameBut [.regs] (s.advance t) s') ∧
  (∀ (t : Nat) (m : Mast) (n : Nat) (value : Nat) (s : State), s.triadRuns m = true → (n < 128 ∧ ringOwned n =
   false) → (ringSoft n = false ∨ s.ringOn m n = false ∨ usedOf (value % 65536) (s.ringCons m n) < usedOf
   (s.ringProd m n) (s.ringCons m n) ∨ s.ringSize m n < usedOf (value % 65536) (s.ringCons m n)) → s.log.limits = []
   → ∃ s', exec (.ringProduce t m n value) s = .next s' ∧ s'.getF (.mast m) (fQmRingstatIdxerr.plus (4 * n)) = min
   65535 (s.getF (.mast m) (fQmRingstatIdxerr.plus (4 * n)) + 1) ∧ raised s' (2 ^ m.code) evQmIndexErr n value ∧
   regsBut [(.mast m, rQmRingstat + 4 * n)] s s' ∧ sameBut [.regs, .log] (s.advance t) s') ∧
  (∀ (t : Nat) (m : Mast) (n : Nat) (value : Nat) (s : State), s.triadRuns m = true → (n < 128 ∧ ringOwned n =
   false) → (ringHard n = false ∨ s.ringOn m n = false ∨ usedOf (s.ringProd m n) (s.ringCons m n) < usedOf (value %
   65536) (s.ringCons m n)) → s.log.limits = [] → ∃ s', exec (.ringConsume t m n value) s = .next s' ∧ s'.getF
   (.mast m) (fQmRingstatIdxerr.plus (4 * n)) = min 65535 (s.getF (.mast m) (fQmRingstatIdxerr.plus (4 * n)) + 1) ∧
   raised s' (2 ^ m.code) evQmIndexErr n value ∧ regsBut [(.mast m, rQmRingstat + 4 * n)] s s' ∧ sameBut [.regs,
   .log] (s.advance t) s') ∧
  (∀ (t : Nat) (m : Mast) (n : Nat) (value : Nat) (s : State), ringOwned n = true → exec (.ringProduce t m n value)
   s = .next (s.advance t) ∧ exec (.ringConsume t m n value) s = .next (s.advance t)) ∧
  (∀ (t : Nat) (m : Mast) (n : Nat) (value : Nat) (s : State), s.triadRuns m = true → (ringHard n = true ∧ s.ringOn
   m n = true) → usedOf (value % 65536) (s.ringCons m n) ≤ usedOf (s.ringProd m n) (s.ringCons m n) → (n < 64 ∨ 95 <
   n ∨ s.dmaState m (n - 64) ≠ 3 ∨ usedOf (s.ringProd m n) (value % 65536) = s.ringSize m n) → ∃ s', exec
   (.ringConsume t m n value) s = .next s' ∧ s'.ringCons m n = value % 65536 ∧ regsBut [(.mast m, rQmRingCons + 0x10
   * n)] s s' ∧ sameBut [.regs] (s.advance t) s') ∧
  (∀ (t : Nat) (m : Mast) (n : Nat) (value : Nat) (r : List Byte) (s : State), s.triadRuns m = true → (64 ≤ n ∧ n ≤
   95 ∧ s.ringOn m n = true ∧ s.dmaState m (n - 64) = 3) → usedOf (value % 65536) (s.ringCons m n) ≤ usedOf
   (s.ringProd m n) (s.ringCons m n) → usedOf (s.ringProd m n) (value % 65536) ≠ s.ringSize m n → ((s.queue.get
   m).channel (n - 64)).record = some (r, 4) → ∃ s', exec (.ringConsume t m n value) s = .next s' ∧ s'.ringCons m n
   = value % 65536 ∧ s'.ringProd m n = (s.ringProd m n + 1) % 65536 ∧ s'.dmaState m (n - 64) = 4 ∧ ((s'.queue.get
   m).channel (n - 64)).record = none ∧ (∀ o, o ≠ m → s'.queue.get o = s.queue.get o ∧ s'.mast o = s.mast o)) ∧
  (∀ (t : Nat) (m : Mast) (n : Nat) (value : Nat) (r : List Byte) (s : State), s.triadRuns m = true → (64 ≤ n ∧ n ≤
   95 ∧ s.ringOn m n = true ∧ s.dmaState m (n - 64) = 3) → usedOf (value % 65536) (s.ringCons m n) ≤ usedOf
   (s.ringProd m n) (s.ringCons m n) → usedOf (s.ringProd m n) (value % 65536) ≠ s.ringSize m n → ((s.queue.get
   m).channel (n - 64)).record = some (r, 1) → (fieldAt ((s.queue.get m).channel (n - 64)).bytes 0 4 % 2 = 1 ∧
   s.getF (.mast m) (dmaF fDmStatDbpend (n - 64)) = 0) → ∃ s', exec (.ringConsume t m n value) s = .next s' ∧
   s'.ringCons m n = value % 65536 ∧ s'.ringProd m n = (s.ringProd m n + 1) % 65536 ∧ s'.dmaState m (n - 64) = 2 ∧
   ((s'.queue.get m).channel (n - 64)).record = none ∧ (∀ o, o ≠ m → s'.queue.get o = s.queue.get o ∧ s'.mast o =
   s.mast o)) ∧
  (∀ (t : Nat) (m : Mast) (index : Nat) (s : State), s.triadRuns m = true → (s.queue.get m).inUse.contains (index %
   8192) = true → (s.queue.get m).free.length < 8192 → ∃ s', exec (.poolReturn t m index) s = .next s' ∧ s'.queue =
   s.queue.set m
   { s.queue.get m with free := (s.queue.get m).free ++ [index % 8192],
                        inUse := (s.queue.get m).inUse.filter (fun b => b != index % 8192) }
   ∧ s'.getF (.mast m) fQmPoolstatFree = (s.queue.get m).free.length + 1 ∧ regsBut [(.mast m, rQmPoolstat)] s s' ∧
   sameBut [.queue, .regs] (s.advance t) s') ∧
  (∀ (t : Nat) (m : Mast) (index : Nat) (s : State), s.triadRuns m = true → (s.queue.get m).inUse.contains (index %
   8192) = false → s.log.limits = [] → ∃ s', exec (.poolReturn t m index) s = .next s' ∧ raised s' (2 ^ m.code)
   evQmIndexErr 0x100 index ∧ sameBut [.log] (s.advance t) s') ∧
  (∀ (t : Nat) (m : Mast) (n : Nat) (outcome : Nat) (s : State), s.triadRuns m = true → (ringSoft n = true ∧
   s.ringOn m n = true) → s.ringProd m n ≠ s.ringCons m n → (inRam (s.ringSlot m n (s.ringCons m n) + 0x14) = true ∧
   (s.ringSlot m n (s.ringCons m n) + 0x14) % 4 = 0) → s.txCheck m n ((s.mast m).mem.readBytes (s.ringSlot m n
   (s.ringCons m n)) 32) = 0 → ∃ s', exec (.transmitDescriptor t m n outcome) s = .next s' ∧ s'.ringCons m n =
   (s.ringCons m n + 1) % 65536 ∧ s'.ringProd m n = s.ringProd m n ∧ (s'.mast m).mem.readBytes (s.ringSlot m n
   (s.ringCons m n) + 0x14) 4 = natLe 4 (1 + 2 * (outcome % 5)) ∧ (∀ a, a < s.ringSlot m n (s.ringCons m n) + 0x14 ∨
   s.ringSlot m n (s.ringCons m n) + 0x14 + 4 ≤ a → (s'.mast m).mem.readByte a = (s.mast m).mem.readByte a) ∧ (∀ o,
   o ≠ m → s'.mast o = s.mast o) ∧ (n < 32 → regsBut [(.mast m, rQmRingCons + 0x10 * n)] s s' ∧ sameBut [.masts,
   .mem, .lane, .regs] (s.advance t) s')) ∧
  (∀ (t : Nat) (m : Mast) (n : Nat) (outcome : Nat) (s : State), s.triadRuns m = true → (ringSoft n = true ∧
   s.ringOn m n = true) → s.ringProd m n ≠ s.ringCons m n → (inRam (s.ringSlot m n (s.ringCons m n) + 0x14) = true ∧
   (s.ringSlot m n (s.ringCons m n) + 0x14) % 4 = 0) → s.txCheck m n ((s.mast m).mem.readBytes (s.ringSlot m n
   (s.ringCons m n)) 32) = 5 → s.log.limits = [] → ∃ s', exec (.transmitDescriptor t m n outcome) s = .next s' ∧
   s'.ringCons m n = (s.ringCons m n + 1) % 65536 ∧ s'.ringProd m n = s.ringProd m n ∧ (s'.mast m).mem.readBytes
   (s.ringSlot m n (s.ringCons m n) + 0x14) 4 = natLe 4 (1 + 2 * 5) ∧ (∀ a, a < s.ringSlot m n (s.ringCons m n) +
   0x14 ∨ s.ringSlot m n (s.ringCons m n) + 0x14 + 4 ≤ a → (s'.mast m).mem.readByte a = (s.mast m).mem.readByte a) ∧
   (∀ o, o ≠ m → s'.mast o = s.mast o) ∧ raised s' (2 ^ m.code) evQmDescErr n (s.ringCons m n % s.ringSize m n) ∧
   regsBut [(.mast m, rQmRingCons + 0x10 * n)] s s' ∧ sameBut [.masts, .mem, .lane, .regs, .log] (s.advance t) s') ∧
  (∀ (t : Nat) (m : Mast) (n : Nat) (outcome : Nat) (s : State), s.triadRuns m = true → (ringSoft n = true ∧
   s.ringOn m n = true) → s.ringProd m n ≠ s.ringCons m n → (inRam (s.ringSlot m n (s.ringCons m n) + 0x14) = true ∧
   (s.ringSlot m n (s.ringCons m n) + 0x14) % 4 = 0) → s.txCheck m n ((s.mast m).mem.readBytes (s.ringSlot m n
   (s.ringCons m n)) 32) = 6 → s.intake.exitFails = [] → (∀ u ∈ s.ringUnits n (bitOf (fieldAt ((s.mast
   m).mem.readBytes (s.ringSlot m n (s.ringCons m n)) 32) 8 4) 3) (s.txItem m ((s.mast m).mem.readBytes (s.ringSlot
   m n (s.ringCons m n)) 32)).value, (s.unit u).owner ≠ m) → ∃ s', exec (.transmitDescriptor t m n outcome) s =
   .next s' ∧ s'.ringCons m n = (s.ringCons m n + 1) % 65536 ∧ s'.ringProd m n = s.ringProd m n ∧ (s'.mast
   m).mem.readBytes (s.ringSlot m n (s.ringCons m n) + 0x14) 4 = natLe 4 (1 + 2 * 6) ∧ (∀ a, a < s.ringSlot m n
   (s.ringCons m n) + 0x14 ∨ s.ringSlot m n (s.ringCons m n) + 0x14 + 4 ≤ a → (s'.mast m).mem.readByte a = (s.mast
   m).mem.readByte a) ∧ (∀ o, o ≠ m → s'.mast o = s.mast o) ∧ raised s' (2 ^ m.code) evTagExitFail (s.txItem m
   ((s.mast m).mem.readBytes (s.ringSlot m n (s.ringCons m n)) 32)).source m.code ∧ s'.intake.exitFails = [(m,
   (s.txItem m ((s.mast m).mem.readBytes (s.ringSlot m n (s.ringCons m n)) 32)).source, (s.txItem m ((s.mast
   m).mem.readBytes (s.ringSlot m n (s.ringCons m n)) 32)).seq)] ∧ s'.lane.units = s.lane.units ∧ regsBut [(.mast m,
   rQmRingCons + 0x10 * n)] s s' ∧ sameBut [.masts, .mem, .lane, .regs, .log, .intake] (s.advance t) s')

/-- For every mast whose engine runs and every channel. dmaDoorbell: in IDLE with ENABLE set a descriptor that passes
the checks is loaded and the channel runs, one that fails them stops the channel with the result of the first
failure; with ENABLE clear, or in STOPPED, the doorbell is ignored, counted and reported; while the channel runs or
waits it is kept in DBPEND; a parked channel whose NEXT word still ends stays parked. dmaDescriptorComplete: of a
descriptor without a record that ends the chain exactly the bytes of its walk and the STATUS word are stored, and
the channel parks; with END clear it takes up the next descriptor; with a record and a full ring it waits for a
slot. dmaTargetError: the elements written before stay written, the channel stops with result 4 and DM_BUSERR is
raised. dmaStoppedClear: STOPPED goes to IDLE with the error cleared. Completion: for every state and operands that
meet the stated conditions on them alone, exec answers the next state of the own effect of dmaDoorbell
(DMA_DOORBELL), dmaDescriptorComplete (DMA_DESCRIPTOR_COMPLETE), dmaTargetError (DMA_TARGET_ERROR), dmaStoppedClear
(DMA_STOPPED_CLEAR). -/
def Obligations.DmaChannels : Prop :=
  (∀ (t : Nat) (m : Mast) (n : Nat) (s : State), s.triadRuns m = true → n < 32 → (s.dmaState m n = 0 ∧ s.getF (.mast
   m) (dmaF fDmCtrlEnable n) = 1) → s.dmaCheck m n (s.getF (.mast m) (dmaF fDmHeadAddr n) * 64) ((s.mast
   m).mem.readBytes (s.getF (.mast m) (dmaF fDmHeadAddr n) * 64) 64) = 0 → ∃ s', exec (.dmaDoorbell t m n) s = .next
   s' ∧ s'.dmaState m n = 1 ∧ s'.queue = s.queue.set m ((s.queue.get m).setChannel
   { (s.queue.get m).channel n with addr := (s.getF (.mast m) (dmaF fDmHeadAddr n) * 64),
                                    bytes := (s.mast m).mem.readBytes (s.getF (.mast m) (dmaF fDmHeadAddr n) * 64) 64 })
   ∧ s'.getF (.mast m) (dmaF fDmCurAddr n) = s.getF (.mast m) (dmaF fDmHeadAddr n) ∧ regsBut [(.mast m, rDmStat +
   0x40 * n), (.mast m, rDmCur + 0x40 * n), (.mast m, rDmDone + 0x40 * n), (.mast m, rDmActive), (.mast m,
   rDmStopped)] s s' ∧ sameBut [.queue, .regs] (s.advance t) s') ∧
  (∀ (t : Nat) (m : Mast) (n : Nat) (s : State), s.triadRuns m = true → n < 32 → (s.dmaState m n = 0 ∧ s.getF (.mast
   m) (dmaF fDmCtrlEnable n) = 1) → s.dmaCheck m n (s.getF (.mast m) (dmaF fDmHeadAddr n) * 64) ((s.mast
   m).mem.readBytes (s.getF (.mast m) (dmaF fDmHeadAddr n) * 64) 64) ≠ 0 → s.ringOn m (64 + n) = false → ∃ s', exec
   (.dmaDoorbell t m n) s = .next s' ∧ s'.dmaState m n = 4 ∧ s'.getF (.mast m) (dmaF fDmStatErr n) = s.dmaCheck m n
   (s.getF (.mast m) (dmaF fDmHeadAddr n) * 64) ((s.mast m).mem.readBytes (s.getF (.mast m) (dmaF fDmHeadAddr n) *
   64) 64) ∧ s'.getF (.mast m) (dmaF fDmDoneBytes n) = 0 ∧ raised s' (2 ^ m.code) (if s.dmaCheck m n (s.getF (.mast
   m) (dmaF fDmHeadAddr n) * 64) ((s.mast m).mem.readBytes (s.getF (.mast m) (dmaF fDmHeadAddr n) * 64) 64) = 1 then
   evDmDescErr else if s.dmaCheck m n (s.getF (.mast m) (dmaF fDmHeadAddr n) * 64) ((s.mast m).mem.readBytes (s.getF
   (.mast m) (dmaF fDmHeadAddr n) * 64) 64) = 2 then evDmAlign else evDmBuserr) (if s.dmaCheck m n (s.getF (.mast m)
   (dmaF fDmHeadAddr n) * 64) ((s.mast m).mem.readBytes (s.getF (.mast m) (dmaF fDmHeadAddr n) * 64) 64) < 3 then n
   else n * 256 + s.dmaCheck m n (s.getF (.mast m) (dmaF fDmHeadAddr n) * 64) ((s.mast m).mem.readBytes (s.getF
   (.mast m) (dmaF fDmHeadAddr n) * 64) 64)) (s.getF (.mast m) (dmaF fDmHeadAddr n) * 64) ∧ (inRam ((s.getF (.mast
   m) (dmaF fDmHeadAddr n) * 64) + 0x3C) = true → (s'.mast m).mem.readBytes ((s.getF (.mast m) (dmaF fDmHeadAddr n)
   * 64) + 0x3C) 4 = natLe 4 (1 + 2 * s.dmaCheck m n (s.getF (.mast m) (dmaF fDmHeadAddr n) * 64) ((s.mast
   m).mem.readBytes (s.getF (.mast m) (dmaF fDmHeadAddr n) * 64) 64))) ∧ (∀ a, a < (s.getF (.mast m) (dmaF
   fDmHeadAddr n) * 64) + 0x3C ∨ (s.getF (.mast m) (dmaF fDmHeadAddr n) * 64) + 0x40 ≤ a → (s'.mast m).mem.readByte
   a = (s.mast m).mem.readByte a) ∧ (∀ o, o ≠ m → s'.mast o = s.mast o) ∧ (∀ o, o ≠ m → s'.queue.get o = s.queue.get
   o)) ∧
  (∀ (t : Nat) (m : Mast) (n : Nat) (s : State), s.triadRuns m = true → n < 32 → (s.dmaState m n = 4 ∨ s.dmaState m
   n = 0 ∧ s.getF (.mast m) (dmaF fDmCtrlEnable n) = 0) → s.log.limits = [] → ∃ s', exec (.dmaDoorbell t m n) s =
   .next s' ∧ s'.getF (.mast m) (dmaF fDmCntIgnored n) = min 65535 (s.getF (.mast m) (dmaF fDmCntIgnored n) + 1) ∧
   raised s' (2 ^ m.code) evDmDbIgnored n (s.dmaState m n) ∧ regsBut [(.mast m, rDmCnt + 0x40 * n)] s s' ∧ sameBut
   [.regs, .log] (s.advance t) s') ∧
  (∀ (t : Nat) (m : Mast) (n : Nat) (s : State), s.triadRuns m = true → n < 32 → (s.dmaState m n = 1 ∨ s.dmaState m
   n = 3) → ∃ s', exec (.dmaDoorbell t m n) s = .next s' ∧ s'.getF (.mast m) (dmaF fDmStatDbpend n) = 1 ∧
   s'.dmaState m n = s.dmaState m n ∧ regsBut [(.mast m, rDmStat + 0x40 * n)] s s' ∧ sameBut [.regs] (s.advance t)
   s') ∧
  (∀ (t : Nat) (m : Mast) (n : Nat) (s : State), s.triadRuns m = true → n < 32 → s.dmaState m n = 2 → leNat ((s.mast
   m).mem.readBytes ((s.queue.get m).channel n).addr 4) % 2 = 1 → ∃ s', exec (.dmaDoorbell t m n) s = .next s' ∧
   s'.dmaState m n = 2 ∧ regsBut [(.mast m, rDmStat + 0x40 * n), (.mast m, rDmActive), (.mast m, rDmStopped)] s s' ∧
   sameBut [.regs] (s.advance t) s') ∧
  (∀ (t : Nat) (m : Mast) (n : Nat) (s : State), s.triadRuns m = true → n < 32 → s.dmaState m n = 2 → leNat ((s.mast
   m).mem.readBytes ((s.queue.get m).channel n).addr 4) % 2 = 0 → s.dmaCheck m n (leNat ((s.mast m).mem.readBytes
   ((s.queue.get m).channel n).addr 4) / 64 * 64) ((s.mast m).mem.readBytes (leNat ((s.mast m).mem.readBytes
   ((s.queue.get m).channel n).addr 4) / 64 * 64) 64) = 0 → ∃ s', exec (.dmaDoorbell t m n) s = .next s' ∧
   s'.dmaState m n = 1 ∧ ((s'.queue.get m).channel n).addr = (leNat ((s.mast m).mem.readBytes ((s.queue.get
   m).channel n).addr 4) / 64 * 64) ∧ ((s'.queue.get m).channel n).bytes = (s.mast m).mem.readBytes (leNat ((s.mast
   m).mem.readBytes ((s.queue.get m).channel n).addr 4) / 64 * 64) 64 ∧ (∀ o, o ≠ m → s'.queue.get o = s.queue.get
   o) ∧ regsBut [(.mast m, rDmStat + 0x40 * n), (.mast m, rDmCur + 0x40 * n), (.mast m, rDmDone + 0x40 * n), (.mast
   m, rDmActive), (.mast m, rDmStopped)] s s' ∧ sameBut [.queue, .regs] (s.advance t) s') ∧
  (∀ (t : Nat) (m : Mast) (n : Nat) (rack : List Byte) (ch : DmaChannel) (s : State), s.triadRuns m = true → n < 32
   → (s.dmaState m n = 1 ∧ (s.queue.get m).channel n = ch) → (bitOf (fieldAt ch.bytes 4 4) 8 = false ∧ fieldAt
   ch.bytes 0 4 % 2 = 1) → s.getF (.mast m) (dmaF fDmStatDbpend n) = 0 → ((srcWalk ch.bytes).bytes.length = (dstWalk
   ch.bytes).length ∧ (dstWalk ch.bytes).bytes.length = (dstWalk ch.bytes).length ∧ (dstWalk ch.bytes).length <
   4294967296) → (dstWalk ch.bytes).bytes.Nodup → (∀ a ∈ (dstWalk ch.bytes).bytes, inRam a = true ∧ (a < ch.addr +
   0x3C ∨ ch.addr + 0x40 ≤ a)) → inRam (ch.addr + 0x3C) = true → ∃ s', exec (.dmaDescriptorComplete t m n rack) s =
   .next s' ∧ s'.dmaState m n = 2 ∧ (dstWalk ch.bytes).bytes.map (s'.mast m).mem.readByte = gather (s.mast m).mem
   (srcWalk ch.bytes).bytes rack ∧ (s'.mast m).mem.readBytes (ch.addr + 0x3C) 4 = natLe 4 1 ∧ (∀ a, a ∉ (dstWalk
   ch.bytes).bytes → a < ch.addr + 0x3C ∨ ch.addr + 0x40 ≤ a → (s'.mast m).mem.readByte a = (s.mast m).mem.readByte
   a) ∧ (∀ o, o ≠ m → s'.mast o = s.mast o) ∧ s'.getF (.mast m) (dmaF fDmCntDescs n) = min 65535 (s.getF (.mast m)
   (dmaF fDmCntDescs n) + 1) ∧ s'.getF (.mast m) (dmaF fDmDoneBytes n) = (dstWalk ch.bytes).length ∧ (bitOf (fieldAt
   ch.bytes 4 4) 9 = true → s.getF (.mast m) (dmaF fDmCtrlIrqP n) = 1 → (s'.mast m).irqP.contains (0x100 + n) =
   true) ∧ s'.queue = s.queue.set m ((s.queue.get m).setChannel { ch with count := (ch.count + 1) % 4294967296 }) ∧
   regsBut [(.mast m, rDmStat + 0x40 * n), (.mast m, rDmDone + 0x40 * n), (.mast m, rDmCnt + 0x40 * n), (.mast m,
   rDmActive), (.mast m, rDmStopped)] s s' ∧ sameBut [.masts, .mem, .lane, .queue, .regs] (s.advance t) s') ∧
  (∀ (t : Nat) (m : Mast) (n : Nat) (rack : List Byte) (ch : DmaChannel) (s : State), s.triadRuns m = true → n < 32
   → (s.dmaState m n = 1 ∧ (s.queue.get m).channel n = ch) → (bitOf (fieldAt ch.bytes 4 4) 8 = false ∧ fieldAt
   ch.bytes 0 4 % 2 = 0) → ((srcWalk ch.bytes).bytes.length = (dstWalk ch.bytes).length ∧ (dstWalk
   ch.bytes).bytes.length = (dstWalk ch.bytes).length ∧ (dstWalk ch.bytes).length < 4294967296) → (dstWalk
   ch.bytes).bytes.Nodup → (∀ a ∈ (dstWalk ch.bytes).bytes, inRam a = true ∧ (a < ch.addr + 0x3C ∨ ch.addr + 0x40 ≤
   a)) → inRam (ch.addr + 0x3C) = true → ((fieldAt ch.bytes 0 4 / 64 * 64) = ch.addr ∧ ∀ a ∈ (dstWalk
   ch.bytes).bytes, a < ch.addr ∨ ch.addr + 0x40 ≤ a) → (s.mast m).mem.readBytes ch.addr 60 = ch.bytes.take 60 →
   s.dmaCheck m n ch.addr (ch.bytes.take 60 ++ natLe 4 1) = 0 → ∃ s', exec (.dmaDescriptorComplete t m n rack) s =
   .next s' ∧ s'.dmaState m n = 1 ∧ ((s'.queue.get m).channel n).addr = fieldAt ch.bytes 0 4 / 64 * 64 ∧ (dstWalk
   ch.bytes).bytes.map (s'.mast m).mem.readByte = gather (s.mast m).mem (srcWalk ch.bytes).bytes rack ∧ (s'.mast
   m).mem.readBytes (ch.addr + 0x3C) 4 = natLe 4 1 ∧ (∀ a, a ∉ (dstWalk ch.bytes).bytes → a < ch.addr + 0x3C ∨
   ch.addr + 0x40 ≤ a → (s'.mast m).mem.readByte a = (s.mast m).mem.readByte a) ∧ (∀ o, o ≠ m → s'.mast o = s.mast
   o) ∧ s'.getF (.mast m) (dmaF fDmCntDescs n) = min 65535 (s.getF (.mast m) (dmaF fDmCntDescs n) + 1) ∧ s'.getF
   (.mast m) (dmaF fDmDoneBytes n) = 0 ∧ (∀ o, o ≠ m → s'.queue.get o = s.queue.get o)) ∧
  (∀ (t : Nat) (m : Mast) (n : Nat) (rack : List Byte) (ch : DmaChannel) (s : State), s.triadRuns m = true → n < 32
   → (s.dmaState m n = 1 ∧ (s.queue.get m).channel n = ch) → bitOf (fieldAt ch.bytes 4 4) 8 = true → (s.ringOn m (64
   + n) = true ∧ s.ringFull m (64 + n) = true) → ((srcWalk ch.bytes).bytes.length = (dstWalk ch.bytes).length ∧
   (dstWalk ch.bytes).bytes.length = (dstWalk ch.bytes).length ∧ (dstWalk ch.bytes).length < 4294967296) → (dstWalk
   ch.bytes).bytes.Nodup → (∀ a ∈ (dstWalk ch.bytes).bytes, inRam a = true ∧ (a < ch.addr + 0x3C ∨ ch.addr + 0x40 ≤
   a)) → inRam (ch.addr + 0x3C) = true → ∃ s', exec (.dmaDescriptorComplete t m n rack) s = .next s' ∧ s'.dmaState m
   n = 3 ∧ (dstWalk ch.bytes).bytes.map (s'.mast m).mem.readByte = gather (s.mast m).mem (srcWalk ch.bytes).bytes
   rack ∧ (s'.mast m).mem.readBytes (ch.addr + 0x3C) 4 = natLe 4 1 ∧ (∀ a, a ∉ (dstWalk ch.bytes).bytes → a <
   ch.addr + 0x3C ∨ ch.addr + 0x40 ≤ a → (s'.mast m).mem.readByte a = (s.mast m).mem.readByte a) ∧ (∀ o, o ≠ m →
   s'.mast o = s.mast o) ∧ s'.getF (.mast m) (dmaF fDmCntDescs n) = min 65535 (s.getF (.mast m) (dmaF fDmCntDescs n)
   + 1) ∧ s'.getF (.mast m) (dmaF fDmDoneBytes n) = (dstWalk ch.bytes).length ∧ ((s'.queue.get m).channel n).record
   = some ((s.advance t).completionRecord ch.addr 1 (fieldAt ch.bytes 0x38 4) (dstWalk ch.bytes).length ((ch.count +
   1) % 4294967296), 1) ∧ s'.ringProd m (64 + n) = s.ringProd m (64 + n) ∧ (∀ o, o ≠ m → s'.queue.get o =
   s.queue.get o)) ∧
  (∀ (t : Nat) (m : Mast) (n : Nat) (rack : List Byte) (ch : DmaChannel) (s : State), s.triadRuns m = true → n < 32
   → (s.dmaState m n = 1 ∧ (s.queue.get m).channel n = ch) → (bitOf (fieldAt ch.bytes 4 4) 8 = true ∧ fieldAt
   ch.bytes 0 4 % 2 = 1) → s.getF (.mast m) (dmaF fDmStatDbpend n) = 0 → (s.ringOn m (64 + n) = true ∧ s.ringFull m
   (64 + n) = false) → ∃ s', exec (.dmaDescriptorComplete t m n rack) s = .next s' ∧ s'.dmaState m n = 2 ∧
   s'.ringProd m (64 + n) = (s.ringProd m (64 + n) + 1) % 65536 ∧ (inRam (s.ringSlot m (64 + n) (s.ringProd m (64 +
   n))) = true → (s'.mast m).mem.readBytes (s.ringSlot m (64 + n) (s.ringProd m (64 + n))) 28 = (s.advance
   t).completionRecord ch.addr 1 (fieldAt ch.bytes 0x38 4) (dstWalk ch.bytes).length ((ch.count + 1) % 4294967296))
   ∧ (∀ o, o ≠ m → s'.mast o = s.mast o) ∧ (∀ o, o ≠ m → s'.queue.get o = s.queue.get o)) ∧
  (∀ (t : Nat) (m : Mast) (n : Nat) (written : Nat) (rack : List Byte) (ch : DmaChannel) (s : State), s.triadRuns m
   = true → n < 32 → (s.dmaState m n = 1 ∧ (s.queue.get m).channel n = ch) → s.ringOn m (64 + n) = false → inRam
   (ch.addr + 0x3C) = true → ∃ s', exec (.dmaTargetError t m n written rack) s = .next s' ∧ s'.dmaState m n = 4 ∧
   s'.getF (.mast m) (dmaF fDmStatErr n) = 4 ∧ s'.getF (.mast m) (dmaF fDmDoneBytes n) = min (written / (dstWalk
   ch.bytes).width * (dstWalk ch.bytes).width) (dstWalk ch.bytes).length % 4294967296 ∧ raised s' (2 ^ m.code)
   evDmBuserr (n * 256 + 4) ch.addr ∧ (s'.mast m).mem.readBytes (ch.addr + 0x3C) 4 = natLe 4 9 ∧ (∀ a, a ∉ (dstWalk
   ch.bytes).bytes.take (written / (dstWalk ch.bytes).width * (dstWalk ch.bytes).width) → a < ch.addr + 0x3C ∨
   ch.addr + 0x40 ≤ a → (s'.mast m).mem.readByte a = (s.mast m).mem.readByte a) ∧ (∀ o, o ≠ m → s'.mast o = s.mast
   o) ∧ sameBut [.masts, .mem, .lane, .regs, .log] (s.advance t) s') ∧
  (∀ (t : Nat) (m : Mast) (n : Nat) (written : Nat) (rack : List Byte) (ch : DmaChannel) (a b : Nat) (s : State),
   s.triadRuns m = true → n < 32 → (s.dmaState m n = 1 ∧ (s.queue.get m).channel n = ch) → ((dstWalk ch.bytes).bytes
   = [a, b] ∧ (dstWalk ch.bytes).width = 1 ∧ written = 1) → (inRam a = true ∧ (a < ch.addr + 0x3C ∨ ch.addr + 0x40 ≤
   a)) → s.ringOn m (64 + n) = false → (gather (s.mast m).mem (srcWalk ch.bytes).bytes rack).length = 2 → ∃ s', exec
   (.dmaTargetError t m n written rack) s = .next s' ∧ [(s'.mast m).mem.readByte a] = (gather (s.mast m).mem
   (srcWalk ch.bytes).bytes rack).take 1) ∧
  (∀ (t : Nat) (m : Mast) (n : Nat) (s : State), s.triadRuns m = true → n < 32 → s.dmaState m n = 4 → ∃ s', exec
   (.dmaStoppedClear t m n) s = .next s' ∧ s'.dmaState m n = 0 ∧ s'.getF (.mast m) (dmaF fDmStatErr n) = 0 ∧ s'.getF
   (.mast m) (dmaF fDmStatStopped n) = 0 ∧ s'.getF (.mast m) (dmaF fDmStatDbpend n) = 0 ∧ regsBut [(.mast m, rDmStat
   + 0x40 * n), (.mast m, rDmActive), (.mast m, rDmStopped)] s s' ∧ sameBut [.regs] (s.advance t) s')

/-- For every mast whose triads run and either triad. cacheClean, cacheInvalidate, cacheCleanInvalidate: over a range of
1 byte to 16 MiB at QM_CMBASE the operation starts with the dirty lines it must write and shows BUSY; a length above
16 MiB starts nothing and gives ERR with QM_CM_ERR. cacheOpDone: the lines of the operation are in memory and no
other byte is changed, BUSY is clear and a triad that waits in the barrier goes on; a line in an area of R79, or of
Triad C below the fence, is not written. barrier: without an operation in progress it ends at once; with one the
triad waits for it. Completion: for every state and operands that meet the stated conditions on them alone, exec
answers the next state of the own effect of cacheClean (CACHE_CLEAN), cacheInvalidate (CACHE_INVALIDATE),
cacheCleanInvalidate (CACHE_CLEAN_INVALIDATE), cacheOpDone (CACHE_OP_DONE), barrier (BARRIER). -/
def Obligations.CacheOperations : Prop :=
  (∀ (t : Nat) (m : Mast) (tr : Triad) (dirty : List (Nat × List Byte)) (s : State), s.triadRuns m = true → (1 ≤
   s.getF (.triad m tr) fQmCmlenLen ∧ s.getF (.triad m tr) fQmCmlenLen ≤ 16777216) → ∃ s', exec (.cacheClean t m tr
   dirty) s = .next s' ∧ s'.queue = s.queue.set m ((s.queue.get m).setCache tr
   { (s.queue.get m).cache tr with op := some ⟨1, s.getF (.triad m tr) fQmCmbaseAddr, s.getF (.triad m tr) fQmCmlenLen, (((s.queue.get m).cache tr).op.map CacheOp.dirty).getD [] ++ linesToWrite 1 (s.getF (.triad m tr) fQmCmbaseAddr) (s.getF (.triad m tr) fQmCmlenLen) dirty⟩ })
   ∧ s'.getF (.triad m tr) fQmCmstatBusy = 1 ∧ (∀ o x, (o, x) ≠ (m, tr) → (s'.queue.get o).cache x = (s.queue.get
   o).cache x) ∧ regsBut [(.triad m tr, rQmCmstat)] s s' ∧ sameBut [.queue, .regs] (s.advance t) s') ∧
  (∀ (t : Nat) (m : Mast) (tr : Triad) (dirty : List (Nat × List Byte)) (s : State), s.triadRuns m = true → 16777216
   < s.getF (.triad m tr) fQmCmlenLen → ∃ s', exec (.cacheClean t m tr dirty) s = .next s' ∧ s'.getF (.triad m tr)
   fQmCmstatErr = 1 ∧ raised s' (2 ^ m.code) evQmCmErr tr.code (s.getF (.triad m tr) fQmCmlenLen) ∧ regsBut [(.triad
   m tr, rQmCmstat)] s s' ∧ sameBut [.regs, .log] (s.advance t) s') ∧
  (∀ (t : Nat) (m : Mast) (tr : Triad) (dirty : List (Nat × List Byte)) (s : State), s.triadRuns m = true → (1 ≤
   s.getF (.triad m tr) fQmCmlenLen ∧ s.getF (.triad m tr) fQmCmlenLen ≤ 16777216) → ∃ s', exec (.cacheInvalidate t
   m tr dirty) s = .next s' ∧ s'.queue = s.queue.set m ((s.queue.get m).setCache tr
   { (s.queue.get m).cache tr with op := some ⟨2, s.getF (.triad m tr) fQmCmbaseAddr, s.getF (.triad m tr) fQmCmlenLen, (((s.queue.get m).cache tr).op.map CacheOp.dirty).getD [] ++ linesToWrite 2 (s.getF (.triad m tr) fQmCmbaseAddr) (s.getF (.triad m tr) fQmCmlenLen) dirty⟩ })
   ∧ s'.getF (.triad m tr) fQmCmstatBusy = 1 ∧ (∀ o x, (o, x) ≠ (m, tr) → (s'.queue.get o).cache x = (s.queue.get
   o).cache x) ∧ regsBut [(.triad m tr, rQmCmstat)] s s' ∧ sameBut [.queue, .regs] (s.advance t) s') ∧
  (∀ (t : Nat) (m : Mast) (tr : Triad) (dirty : List (Nat × List Byte)) (s : State), s.triadRuns m = true → 16777216
   < s.getF (.triad m tr) fQmCmlenLen → ∃ s', exec (.cacheInvalidate t m tr dirty) s = .next s' ∧ s'.getF (.triad m
   tr) fQmCmstatErr = 1 ∧ raised s' (2 ^ m.code) evQmCmErr tr.code (s.getF (.triad m tr) fQmCmlenLen) ∧ regsBut
   [(.triad m tr, rQmCmstat)] s s' ∧ sameBut [.regs, .log] (s.advance t) s') ∧
  (∀ (t : Nat) (m : Mast) (tr : Triad) (dirty : List (Nat × List Byte)) (s : State), s.triadRuns m = true → (1 ≤
   s.getF (.triad m tr) fQmCmlenLen ∧ s.getF (.triad m tr) fQmCmlenLen ≤ 16777216) → ∃ s', exec
   (.cacheCleanInvalidate t m tr dirty) s = .next s' ∧ s'.queue = s.queue.set m ((s.queue.get m).setCache tr
   { (s.queue.get m).cache tr with op := some ⟨3, s.getF (.triad m tr) fQmCmbaseAddr, s.getF (.triad m tr) fQmCmlenLen, (((s.queue.get m).cache tr).op.map CacheOp.dirty).getD [] ++ linesToWrite 3 (s.getF (.triad m tr) fQmCmbaseAddr) (s.getF (.triad m tr) fQmCmlenLen) dirty⟩ })
   ∧ s'.getF (.triad m tr) fQmCmstatBusy = 1 ∧ (∀ o x, (o, x) ≠ (m, tr) → (s'.queue.get o).cache x = (s.queue.get
   o).cache x) ∧ regsBut [(.triad m tr, rQmCmstat)] s s' ∧ sameBut [.queue, .regs] (s.advance t) s') ∧
  (∀ (t : Nat) (m : Mast) (tr : Triad) (dirty : List (Nat × List Byte)) (s : State), s.triadRuns m = true → 16777216
   < s.getF (.triad m tr) fQmCmlenLen → ∃ s', exec (.cacheCleanInvalidate t m tr dirty) s = .next s' ∧ s'.getF
   (.triad m tr) fQmCmstatErr = 1 ∧ raised s' (2 ^ m.code) evQmCmErr tr.code (s.getF (.triad m tr) fQmCmlenLen) ∧
   regsBut [(.triad m tr, rQmCmstat)] s s' ∧ sameBut [.regs, .log] (s.advance t) s') ∧
  (∀ (t : Nat) (m : Mast) (tr : Triad) (x : CacheOp) (s : State), s.triadRuns m = true → ((s.queue.get m).cache
   tr).op = some x → (∀ l ∈ x.dirty, l.1 % 64 = 0 ∧ inRam l.1 = true ∧ l.2.length = 64 ∧ reservedArea l.1 = false ∧
   (tr = .c → s.fenced l.1 = false)) → (x.dirty.map Prod.fst).Nodup → ∃ s', exec (.cacheOpDone t m tr) s = .next s'
   ∧ (s'.mast m).answer tr = (if ((s.queue.get m).cache tr).barrier then .done 0 else (s.mast m).answer tr) ∧ (∀ o,
   o ≠ m → s'.mast o = s.mast o) ∧ s'.queue = s.queue.set m ((s.queue.get m).setCache tr {}) ∧ s'.getF (.triad m tr)
   fQmCmstatBusy = 0 ∧ (∀ l ∈ x.dirty, (s'.mast m).mem.readBytes l.1 64 = l.2) ∧ (∀ b, (∀ l ∈ x.dirty, b < l.1 ∨ l.1
   + 64 ≤ b) → (s'.mast m).mem.readByte b = (s.mast m).mem.readByte b) ∧ (∀ o x, (o, x) ≠ (m, tr) → (s'.queue.get
   o).cache x = (s.queue.get o).cache x) ∧ regsBut [(.triad m tr, rQmCmstat)] s s' ∧ sameBut [.masts, .mem, .lane,
   .queue, .regs] (s.advance t) s') ∧
  (∀ (t : Nat) (m : Mast) (tr : Triad) (x : CacheOp) (a : Nat) (line : List Byte) (s : State), s.triadRuns m = true
   → (((s.queue.get m).cache tr).op = some x ∧ x.dirty = [(a, line)] ∧ a % 64 = 0) → (reservedArea a = true ∨ tr =
   .c ∧ s.fenced a = true) → ((s.queue.get m).cache tr).barrier = false → ∃ s', exec (.cacheOpDone t m tr) s = .next
   s' ∧ (s'.mast m).answer tr = .busError ∧ s'.queue = s.queue.set m ((s.queue.get m).setCache tr {}) ∧ (∀ b,
   (s'.mast m).mem.readByte b = (s.mast m).mem.readByte b) ∧ (reservedArea a = false → raised s' (2 ^ m.code)
   evFenceViolation a 0) ∧ (∀ o, o ≠ m → s'.mast o = s.mast o) ∧ regsBut [(.triad m tr, rQmCmstat)] s s' ∧ sameBut
   [.masts, .queue, .regs, .log] (s.advance t) s') ∧
  (∀ (t : Nat) (m : Mast) (tr : Triad) (s : State), s.triadRuns m = true → ((s.queue.get m).cache tr).op = none → ∃
   s', exec (.barrier t m tr) s = .next s' ∧ s'.masts = ((s.advance t).answer m tr (.done 0)).masts ∧ sameBut
   [.masts] (s.advance t) s') ∧
  (∀ (t : Nat) (m : Mast) (tr : Triad) (s : State), s.triadRuns m = true → ((s.queue.get m).cache tr).op.isSome =
   true → ∃ s', exec (.barrier t m tr) s = .next s' ∧ s'.masts = ((s.advance t).answer m tr .idle).masts ∧ s'.queue
   = s.queue.set m ((s.queue.get m).setCache tr { (s.queue.get m).cache tr with barrier := true }) ∧ sameBut
   [.masts, .queue] (s.advance t) s')

/-- For every state in which the module has joined the ring. stayLinkFrameReceived: a frame with a bad length or CRC is
counted and goes no further; a passing frame for another slot is forwarded and nothing else; a PRESENCE frame of
another module is forwarded, makes or renews its sender's membership, forms one item of that sender, and a new
member raises SL_JOINED; a TIME frame of the master goes on with residence and link delay added to CORR and its
offset stands in SL_TIMEOFS; a SHARED block of one fragment becomes one item; a PRESENCE frame of a module with the
own slot number takes the module into bypass with SL_SLOT_CONFLICT. presenceSend: while unit 7 has an owner, the
PRESENCE frame carries rank, master, share and cycle. sharedBlockSend: the block queued first and confirmed by two
masts is sent as fragments of up to 1 024 bytes. Completion: for every state and operands that meet the stated
conditions on them alone, exec answers the next state of the own effect of stayLinkFrameReceived
(STAY_LINK_FRAME_RECEIVED), presenceSend (PRESENCE_SEND), sharedBlockSend (SHARED_BLOCK_SEND). -/
def Obligations.StayLinkFrames : Prop :=
  (∀ (t : Nat) (f : List Byte) (up residence : Nat) (s : State), s.slRole ≠ 0 → (20 + fieldAt f 6 2 ≤ f.length ∧
   fieldAt f 6 2 ≤ 1024 ∧ fieldAt f (16 + fieldAt f 6 2) 4 = (crc32c (f.take (16 + fieldAt f 6 2))).toNat) →
   (fieldAt f 0 1 = 2 ∧ fieldAt f 2 1 = 0 ∧ fieldAt f 1 1 ≠ s.ownSlot) → (fieldAt f 1 1 ≠ s.slMaster ∧ s.slMaster ≠
   0 ∧ fieldAt f 17 1 ≠ fieldAt f 1 1) → s.stay.members.all (fun m => m.slot != fieldAt f 1 1) = true → ∃ s', exec
   (.stayLinkFrameReceived t f up residence) s = .next s' ∧ s'.stay.members = ⟨fieldAt f 1 1, fieldAt f 16 1,
   fieldAt f 17 1, fieldAt f 18 2, fieldAt f 20 4, fieldAt f 24 4, max s.now t, 0⟩ :: s.stay.members ∧ s'.slMaster =
   s.slMaster ∧ s'.stay.forwarded.head? = some f ∧ raised s' s.lane.active.mask evSlJoined (fieldAt f 1 1)
   s'.ranks.length ∧ s'.intake.fan = s.intake.fan ++ [Item.form (0x4000 + fieldAt f 1 1) (s.intake.nextSeq (0x4000 +
   fieldAt f 1 1)) (s.advance t).moduleTime (f.take 16 ++ slice f 16 (fieldAt f 6 2))] ∧ regsBut [(.agreed,
   rSlStat), (.agreed, rSlMembers), (.agreed, rSlShare)] s s' ∧ sameBut [.stay, .intake, .regs, .log] (s.advance t)
   s') ∧
  (∀ (t : Nat) (f : List Byte) (up residence : Nat) (x : SlMember) (s : State), s.slRole ≠ 0 → (20 + fieldAt f 6 2 ≤
   f.length ∧ fieldAt f 6 2 ≤ 1024 ∧ fieldAt f (16 + fieldAt f 6 2) 4 = (crc32c (f.take (16 + fieldAt f 6
   2))).toNat) → (fieldAt f 0 1 = 2 ∧ fieldAt f 2 1 = 0 ∧ fieldAt f 1 1 ≠ s.ownSlot) → s.stay.members.find? (fun m
   => m.slot == fieldAt f 1 1) = some x → (fieldAt f 1 1 ≠ s.slMaster ∧ s.slMaster ≠ 0 ∧ fieldAt f 17 1 ≠ fieldAt f
   1 1) → ∃ s', exec (.stayLinkFrameReceived t f up residence) s = .next s' ∧ s'.stay.members = ⟨fieldAt f 1 1,
   fieldAt f 16 1, fieldAt f 17 1, fieldAt f 18 2, fieldAt f 20 4, fieldAt f 24 4, max s.now t, x.instants⟩ ::
   s.stay.members.filter (fun m => m.slot != fieldAt f 1 1) ∧ s'.slMaster = s.slMaster ∧ s'.stay.forwarded.head? =
   some f ∧ s'.intake.fan = s.intake.fan ++ [Item.form (0x4000 + fieldAt f 1 1) (s.intake.nextSeq (0x4000 + fieldAt
   f 1 1)) (s.advance t).moduleTime (f.take 16 ++ slice f 16 (fieldAt f 6 2))] ∧ regsBut [(.agreed, rSlStat),
   (.agreed, rSlMembers), (.agreed, rSlShare)] s s' ∧ sameBut [.stay, .intake, .regs, .log] (s.advance t) s') ∧
  (∀ (t : Nat) (f : List Byte) (up residence : Nat) (s : State), s.slRole ≠ 0 → (20 + fieldAt f 6 2 ≤ f.length ∧
   fieldAt f 6 2 ≤ 1024 ∧ fieldAt f (16 + fieldAt f 6 2) 4 = (crc32c (f.take (16 + fieldAt f 6 2))).toNat) →
   (fieldAt f 0 1 = 1 ∧ fieldAt f 1 1 = s.slMaster ∧ s.slRole = 1 ∧ fieldAt f 1 1 ≠ s.ownSlot) → fieldAt f 2 1 = 0 →
   (s.time.protocol ≠ 0 ∧ s.time.rackMismatch = false ∧ s.servo ≠ tbUnset) → ∃ s', exec (.stayLinkFrameReceived t f
   up residence) s = .next s' ∧ s'.getF .agreed fSlTimeofsNs = clampArg (((fieldAt f 24 8 * sec + fieldAt f 32 4 :
   Nat) : Int) + (signed 32 (fieldAt f 0xC 4) + s.getF .agreed fSlLinkdlyUp) - (s.advance t).moduleTime) %
   4294967296 ∧ s'.getF .agreed fTbStatSrc = 3 ∧ s'.time.frameAt = max s.now t ∧ s'.time.following = true ∧ (∃ g ∈
   s'.stay.forwarded, g = slFrame 1 (fieldAt f 1 1) 0 (fieldAt f 4 2) (fieldAt f 8 2) (fieldAt f 0xA 2) (signed 32
   (fieldAt f 0xC 4) + residence + s.getF .agreed fSlLinkdlyUp) (slice f 16 (fieldAt f 6 2))) ∧ s'.intake.fan =
   s.intake.fan ++ [Item.form (0x4000 + fieldAt f 1 1) (s.intake.nextSeq (0x4000 + fieldAt f 1 1)) (s.advance
   t).moduleTime (f.take 16 ++ slice f 16 (fieldAt f 6 2))] ∧ s'.stay.members = s.stay.members ∧ s'.stay.sent =
   s.stay.sent ∧ sameBut [.stay, .intake, .regs, .log, .time] (s.advance t) s') ∧
  (∀ (t : Nat) (f : List Byte) (up residence : Nat) (s : State), s.slRole ≠ 0 → (20 + fieldAt f 6 2 ≤ f.length ∧
   fieldAt f 6 2 ≤ 1024 ∧ fieldAt f (16 + fieldAt f 6 2) 4 = (crc32c (f.take (16 + fieldAt f 6 2))).toNat) →
   (fieldAt f 0 1 = 3 ∧ fieldAt f 1 1 ≠ s.ownSlot) → (fieldAt f 2 1 = 0 ∨ fieldAt f 2 1 = s.ownSlot) → (fieldAt f 8
   2 = 0 ∧ fieldAt f 0xA 2 = 1) → ∃ s', exec (.stayLinkFrameReceived t f up residence) s = .next s' ∧ s'.intake.fan
   = s.intake.fan ++ [Item.form (0x4000 + fieldAt f 1 1) (s.intake.nextSeq (0x4000 + fieldAt f 1 1)) (s.advance
   t).moduleTime (f.take 16 ++ slice f 16 (fieldAt f 6 2))] ∧ s'.stay.forwarded = (f :: s.stay.forwarded).take 64 ∧
   s'.stay.members = s.stay.members ∧ s'.stay.sent = s.stay.sent ∧ sameBut [.stay, .intake] (s.advance t) s') ∧
  (∀ (t : Nat) (f : List Byte) (up residence : Nat) (s : State), s.slRole ≠ 0 → (20 + fieldAt f 6 2 ≤ f.length ∧
   fieldAt f 6 2 ≤ 1024 ∧ fieldAt f (16 + fieldAt f 6 2) 4 = (crc32c (f.take (16 + fieldAt f 6 2))).toNat) →
   (fieldAt f 0 1 = 2 ∧ fieldAt f 1 1 = s.ownSlot) → (s.stay.sent.contains f = false ∧ s.stay.conflict = false) → ∃
   s', exec (.stayLinkFrameReceived t f up residence) s = .next s' ∧ s'.slRole = 0 ∧ s'.slMaster = 0 ∧ s'.stay =
   { s.stay with members := [], blocks := [], queued := [], conflict := true, shareOver := s'.stay.shareOver } ∧
   raised s' s.lane.active.mask evSlSlotConflict s.ownSlot 0 ∧ regsBut [(.agreed, rSlStat), (.agreed, rSlMembers),
   (.agreed, rSlShare)] s s' ∧ sameBut [.stay, .regs, .log] (s.advance t) s') ∧
  (∀ (t : Nat) (f : List Byte) (up residence : Nat) (s : State), s.slRole ≠ 0 → (¬ (20 + fieldAt f 6 2 ≤ f.length ∧
   fieldAt f 6 2 ≤ 1024 ∧ fieldAt f (16 + fieldAt f 6 2) 4 = (crc32c (f.take (16 + fieldAt f 6 2))).toNat)) → ∃ s',
   exec (.stayLinkFrameReceived t f up residence) s = .next s' ∧ s'.getF .agreed fSlFramesCrc = min 65535 (s.getF
   .agreed fSlFramesCrc + 1) ∧ s'.stay = s.stay ∧ s'.intake = s.intake ∧ regsBut [(.agreed, rSlFrames)] s s' ∧
   sameBut [.regs, .log] (s.advance t) s') ∧
  (∀ (t : Nat) (f : List Byte) (up residence : Nat) (s : State), s.slRole ≠ 0 → (20 + fieldAt f 6 2 ≤ f.length ∧
   fieldAt f 6 2 ≤ 1024 ∧ fieldAt f (16 + fieldAt f 6 2) 4 = (crc32c (f.take (16 + fieldAt f 6 2))).toNat) →
   (fieldAt f 0 1 ≠ 1 ∧ fieldAt f 2 1 ≠ 0 ∧ fieldAt f 2 1 ≠ s.ownSlot ∧ fieldAt f 1 1 ≠ s.ownSlot) → ∃ s', exec
   (.stayLinkFrameReceived t f up residence) s = .next s' ∧ s'.stay.forwarded = (f :: s.stay.forwarded).take 64 ∧
   s'.stay.members = s.stay.members ∧ s'.stay.sent = s.stay.sent ∧ s'.stay.blocks = s.stay.blocks ∧ sameBut [.stay]
   (s.advance t) s') ∧
  (∀ (t : Nat) (s : State), s.slRole ≠ 0 → s.owned 7 = true → (s.slMaster ≠ 0 ∧ s.slIsMember s.slMaster = true ∨ max
   s.now t < s.stay.joinedAt + 3 * ms) → ∃ s', exec (.presenceSend t) s = .next s' ∧ s'.stay.sent = (slFrame 2
   s.ownSlot 0 (((s.stay.seqs.find? (fun e => e.1 == 2)).map Prod.snd).getD 0) 0 1 0 (natLe 1 s.ownRank ++ natLe 1
   s.slMaster ++ natLe 2 (s.getF .agreed fSlShareOwn) ++ natLe 4 (s.getF .agreed fTbAicycleCycleUs) ++ natLe 4
   s.aiOffset) :: s.stay.sent).take 64 ∧ s'.stay = { s.stay with sent := s'.stay.sent, seqs := s'.stay.seqs } ∧
   sameBut [.stay] (s.advance t) s') ∧
  (∀ (t : Nat) (q : SlQueued) (rest : List SlQueued) (s : State), (s.stay.queued = q :: rest ∧ q.value.length ≤
   65536) → s.slRole ≠ 0 → s.owned 7 = true → (s.stay.sentThisCycle = false ∧ 2 ≤ (s.voters.filter (fun m =>
   q.deposits.get m)).length) → s.shareFits = true → (((s.stay.seqs.find? (fun e => e.1 == 3)).map Prod.snd).getD 0)
   < 65536 → ∃ s', exec (.sharedBlockSend t) s = .next s' ∧ s'.stay.queued = rest ∧ s'.stay.sentThisCycle = true ∧
   (s'.stay.sent.take ((q.value.length + 1023) / 1024)).reverse = (List.range ((q.value.length + 1023) / 1024)).map
   (fun k => slFrame 3 s.ownSlot 0 (((((s.stay.seqs.find? (fun e => e.1 == 3)).map Prod.snd).getD 0) + k) % 65536) k
   ((q.value.length + 1023) / 1024) 0 (slice q.value (1024 * k) 1024)) ∧ s'.stay.members = s.stay.members ∧
   s'.stay.forwarded = s.stay.forwarded ∧ sameBut [.stay] (s.advance t) s')

/-- For every state in which the module has joined the ring. memberTimeout: a member without PRESENCE for 3 ms is no
member any more and SL_LEFT is raised; where it was the master, the module holds its time over and names the member
of lowest rank, itself included. presenceSend: a module that has found no master for 3 ms does the same.
masterTakeover: a member of lower rank than the master, or the module itself, takes over after 64 action instants
with SL_MASTER and the election counted; a module that becomes master sends a TIME frame. ringWrap: a link lost
folds the ring with SL_WRAP and the wrap counted. ringUnwrap: 1 s after its return it is undone. linkdelayExchange:
the measured link delays stand in SL_LINKDLY. Completion: for every state and operands that meet the stated
conditions on them alone, exec answers the next state of the own effect of memberTimeout (MEMBER_TIMEOUT),
presenceSend (PRESENCE_SEND), masterTakeover (MASTER_TAKEOVER), ringWrap (RING_WRAP), ringUnwrap (RING_UNWRAP),
linkdelayExchange (LINKDELAY_EXCHANGE). -/
def Obligations.StayLinkRing : Prop :=
  (∀ (t : Nat) (slot : Nat) (x : SlMember) (s : State), s.stay.members.find? (fun m => m.slot == slot) = some x →
   x.heard + 3 * ms ≤ t → slot ≠ s.slMaster → ∃ s', exec (.memberTimeout t slot) s = .next s' ∧ s'.stay.members =
   s.stay.members.filter (fun m => m.slot != slot) ∧ raised s' s.lane.active.mask evSlLeft slot s'.ranks.length ∧
   s'.slMaster = s.slMaster ∧ s'.slRole = s.slRole ∧ regsBut [(.agreed, rSlStat), (.agreed, rSlMembers), (.agreed,
   rSlShare)] s s' ∧ sameBut [.stay, .regs, .log] (s.advance t) s') ∧
  (∀ (t : Nat) (slot next : Nat) (x : SlMember) (s : State), s.slRole ≠ 0 → s.getF .agreed fSlAppfetchState ≠ 2 →
   s.stay.members.find? (fun m => m.slot == slot) = some x → x.heard + 3 * ms ≤ t → (slot = s.slMaster ∧ slot ≠
   s.ownSlot) → (s.getF .agreed fTbStatSrc = 3 ∧ s.servo = tbLocked) → (s.stay.members.filter (fun m => m.slot !=
   slot)).all (fun m => m.master == slot || m.master == 0) = true → (lowestRank (s.ranks.filter (fun r => r.1 !=
   slot)) = some next ∧ next ≠ s.ownSlot ∧ 0 < next ∧ next < 32 ∧ next ≠ slot) → ∃ s', exec (.memberTimeout t slot)
   s = .next s' ∧ s'.stay.members = s.stay.members.filter (fun m => m.slot != slot) ∧ raised s' s.lane.active.mask
   evSlLeft slot s'.ranks.length ∧ s'.slMaster = next ∧ s'.slRole = 1 ∧ s'.servo = tbHoldover ∧ raised s'
   s.lane.active.mask evTimeHoldover 3 0 ∧ raised s' s.lane.active.mask evSlMaster next slot ∧ s'.getF .agreed
   fSlElectElections = min 255 (s.getF .agreed fSlElectElections + 1) ∧ sameBut [.stay, .regs, .log, .time]
   (s.advance t) s') ∧
  (∀ (t : Nat) (slot : Nat) (s : State), s.slRole ≠ 0 → s.getF .agreed fSlAppfetchState ≠ 2 → (s.slMaster = 0 ∧
   s.stay.joinedAt + 3 * ms ≤ max s.now t) → s.stay.members.all (fun m => m.master == 0) = true → (lowestRank
   s.ranks = some slot ∧ slot ≠ s.ownSlot ∧ 0 < slot ∧ slot < 32) → ∃ s', exec (.presenceSend t) s = .next s' ∧
   s'.slMaster = slot ∧ s'.slRole = 1 ∧ raised s' s.lane.active.mask evSlMaster slot 0 ∧ s'.getF .agreed
   fSlElectElections = min 255 (s.getF .agreed fSlElectElections + 1) ∧ s'.stay =
   { s.stay with sent := s'.stay.sent, seqs := s'.stay.seqs } ∧ regsBut [(.agreed, rSlStat), (.agreed, rSlElect)] s
   s' ∧ sameBut [.stay, .regs, .log] (s.advance t) s') ∧
  (∀ (t : Nat) (slot : Nat) (x : SlMember) (s : State), s.slRole ≠ 0 → s.getF .agreed fSlAppfetchState ≠ 2 →
   s.stay.members.find? (fun m => m.slot == slot) = some x → (s.slMaster ≠ 0 ∧ slot ≠ s.slMaster ∧ slot ≠ s.ownSlot
   ∧ slot < 32) → (64 ≤ x.instants ∧ s.ranks.any (fun r => r.1 == s.slMaster && decide (x.rank < r.2)) = true) → ∃
   s', exec (.masterTakeover t slot) s = .next s' ∧ s'.slMaster = slot ∧ s'.slRole = 1 ∧ raised s'
   s.lane.active.mask evSlMaster slot s.slMaster ∧ s'.getF .agreed fSlElectElections = min 255 (s.getF .agreed
   fSlElectElections + 1) ∧ regsBut [(.agreed, rSlStat), (.agreed, rSlElect)] s s' ∧ sameBut [.regs, .log]
   (s.advance t) s') ∧
  (∀ (t : Nat) (slot : Nat) (s : State), s.slRole ≠ 0 → s.getF .agreed fSlAppfetchState ≠ 2 → s.owned 7 = true →
   (s.slMaster ≠ 0 ∧ slot ≠ s.slMaster ∧ slot = s.ownSlot ∧ slot < 32) → (64 ≤ s.stay.ownInstants ∧
   s.time.rackMismatch = false ∧ s.ranks.any (fun r => r.1 == s.slMaster && decide (s.ownRank < r.2)) = true) → ∃
   s', exec (.masterTakeover t slot) s = .next s' ∧ s'.slMaster = slot ∧ s'.slRole = 2 ∧ s'.getF .agreed
   fSlTimeofsNs = 0 ∧ raised s' s.lane.active.mask evSlMaster slot s.slMaster ∧ s'.getF .agreed fSlElectElections =
   min 255 (s.getF .agreed fSlElectElections + 1) ∧ s'.stay.sent.head? = some (slFrame 1 slot 0 (((s.stay.seqs.find?
   (fun e => e.1 == 1)).map Prod.snd).getD 0) 0 1 0 (s.slTimePayload (s.advance t).moduleTime)) ∧ s'.stay =
   { s.stay with sent := s'.stay.sent, seqs := s'.stay.seqs } ∧ regsBut [(.agreed, rSlStat), (.agreed, rSlElect),
   (.agreed, rSlTimeofs)] s s' ∧ sameBut [.stay, .regs, .log] (s.advance t) s') ∧
  (∀ (t : Nat) (neighbour lost : Nat) (s : State), s.slRole ≠ 0 → s.stay.wraps.contains neighbour = false → ∃ s',
   exec (.ringWrap t neighbour lost) s = .next s' ∧ s'.stay = { s.stay with wraps := neighbour :: s.stay.wraps } ∧
   s'.getF .agreed fSlStatWrapped = 1 ∧ s'.getF .agreed fSlElectWraps = min 255 (s.getF .agreed fSlElectWraps + 1) ∧
   s'.getF .agreed fSlFramesDropped = min 65535 (s.getF .agreed fSlFramesDropped + lost) ∧ raised s'
   s.lane.active.mask evSlWrap neighbour 1 ∧ regsBut [(.agreed, rSlStat), (.agreed, rSlElect), (.agreed, rSlFrames)]
   s s' ∧ sameBut [.stay, .regs, .log] (s.advance t) s') ∧
  (∀ (t : Nat) (neighbour returned : Nat) (s : State), s.stay.wraps.contains neighbour = true → returned + sec ≤ t →
   ∃ s', exec (.ringUnwrap t neighbour returned) s = .next s' ∧ s'.stay =
   { s.stay with wraps := s.stay.wraps.filter (fun n => n != neighbour) } ∧ s'.getF .agreed fSlStatWrapped = b2n
   (s'.stay.wraps != []) ∧ raised s' s.lane.active.mask evSlWrap neighbour 0 ∧ regsBut [(.agreed, rSlStat)] s s' ∧
   sameBut [.stay, .regs, .log] (s.advance t) s') ∧
  (∀ (t : Nat) (up down : Nat) (s : State), s.slRole ≠ 0 → ∃ s', exec (.linkdelayExchange t up down) s = .next s' ∧
   s'.getF .agreed fSlLinkdlyUp = min 65535 up ∧ s'.getF .agreed fSlLinkdlyDown = min 65535 down ∧ regsBut
   [(.agreed, rSlLinkdly)] s s' ∧ sameBut [.regs] (s.advance t) s')

/-- For every state in the modes R397 to R402 name and every set of writers that agree on code and parameters. begin:
with no session and no trial it checks the container of every voting mast and, where all pass, erases the region of
the inactive slot, writes header and table, and opens the session in PHASE 1; otherwise the reason is reported and
no flash changes. write: it checks the block on every mast and writes it, or refuses it with UP_REJECTED.
updateBlockWritten: the block is noted. updateReadback: after the last block it leads to PHASE 4 with UP_WRITTEN,
the other region holding the image of the active slot, or ends the session with reason 10 or 11. abort,
updateIdleTimeout (600 s): the session ends with UP_ABORTED. confirm: CONFIRMED records are written. revoke,
keyprog, settings change the key slots and the older settings bank. Each is refused, with the result and reason of
its case, by writers that do not agree, outside its modes, without the session it needs or with one it excludes.
Completion: for every state and operands that meet the stated conditions on them alone, exec answers the next state
of the own effect of begin (BEGIN), write (WRITE), updateBlockWritten (UPDATE_BLOCK_WRITTEN), updateReadback
(UPDATE_READBACK), abort (ABORT), updateIdleTimeout (UPDATE_IDLE_TIMEOUT), confirm (CONFIRM), revoke (REVOKE),
keyprog (KEYPROG), settings (SETTINGS). -/
def Obligations.UpdateSessions : Prop :=
  (∀ (t : Nat) (writers : Per Bool) (m : Mast) (s : State), (s.agreed writers = true ∧ s.paramsEqual writers
   rUpSrcaddr = true) → (s.ctl.mode = .service ∨ s.ctl.mode = .stop ∨ s.ctl.mode = .run ∨ s.ctl.mode = .hold) →
   (s.upd.session = none ∧ s.inTrial = false) → s.voters.head? = some m → ∃ s', exec (.begin t writers) s = .next s'
   ∧ ((∀ m ∈ s.voters, s.upd.checkHead ((s.mast m).mem.head (s.srcAddr m)) (if fieldAt ((s.mast m).mem.head
   (s.srcAddr m)) 8 1 = 2 then 2 else 1) = 0) → s'.upd.session = some
   { kind := (if fieldAt ((s.mast m).mem.head (s.srcAddr m)) 8 1 = 2 then 2 else 1),
     version := fieldAt ((s.mast m).mem.head (s.srcAddr m)) 0xC 4,
     blocks := headBlocks ((s.mast m).mem.head (s.srcAddr m)), last := max s.now t }
   ∧ s'.getF .agreed fUpStatPhase = 1 ∧ raised s' s.lane.active.mask evUpBegin (if fieldAt ((s.mast m).mem.head
   (s.srcAddr m)) 8 1 = 2 then 2 else 1) (fieldAt ((s.mast m).mem.head (s.srcAddr m)) 0xC 4) ∧ s'.getF .agreed
   fUpCmdstatLastCode = 1 ∧ s'.getF .agreed fUpCmdstatResult = 1 ∧ s'.getF .agreed fUpCmdstatReason = 0 ∧ (∀ o ∈
   s.voters, (s'.mast o).mem = ((s.mast o).mem.erase (regionBase (1 - s.activeSlot) (if fieldAt ((s.mast m).mem.head
   (s.srcAddr m)) 8 1 = 2 then 2 else 1)) (regionSize (if fieldAt ((s.mast m).mem.head (s.srcAddr m)) 8 1 = 2 then 2
   else 1))).writeBytes (regionBase (1 - s.activeSlot) (if fieldAt ((s.mast m).mem.head (s.srcAddr m)) 8 1 = 2 then
   2 else 1)) ((s.mast o).mem.head (s.srcAddr o)))) ∧ (¬(∀ m ∈ s.voters, s.upd.checkHead ((s.mast m).mem.head
   (s.srcAddr m)) (if fieldAt ((s.mast m).mem.head (s.srcAddr m)) 8 1 = 2 then 2 else 1) = 0) → s'.upd = s.upd ∧
   s'.getF .agreed fUpCmdstatLastCode = 1 ∧ s'.getF .agreed fUpCmdstatResult = 3 ∧ (∀ o, s'.mast o = s.mast o)) ∧ (∀
   o, o ∉ s.voters → s'.mast o = s.mast o) ∧ sameBut [.upd, .mem, .masts, .regs, .log] (s.advance t) s') ∧
  (∀ (t : Nat) (writers : Per Bool) (s : State), (s.agreed writers = true ∧ s.paramsEqual writers rUpSrcaddr = true)
   → (s.ctl.mode = .service ∨ s.ctl.mode = .stop ∨ s.ctl.mode = .run ∨ s.ctl.mode = .hold) → (s.upd.session.isSome =
   true ∨ s.inTrial = true) → ∃ s', exec (.begin t writers) s = .next s' ∧ s'.getF .agreed fUpCmdstatLastCode = 1 ∧
   s'.getF .agreed fUpCmdstatResult = 3 ∧ s'.getF .agreed fUpCmdstatReason = (if s.upd.session.isSome then 14 else
   15) ∧ regsBut [(.agreed, rUpCmdstat)] s s' ∧ sameBut [.regs] (s.advance t) s') ∧
  (∀ (t : Nat) (writers : Per Bool) (m : Mast) (x : UpSession) (s : State), (s.agreed writers = true ∧ s.paramsEqual
   writers rUpSrcaddr = true ∧ s.paramsEqual writers rUpBlkidx = true) → (s.ctl.mode = .service ∨ s.ctl.mode = .stop
   ∨ s.ctl.mode = .run ∨ s.ctl.mode = .hold) → (s.voters.filter (fun m => writers.get m)).head? = some m →
   (s.upd.session = some x ∧ x.writing = none) → (s.getF .agreed fUpStatPhase = 1 ∧ s.getF (.mast m) fUpBlkidxIndex
   < x.blocks ∧ x.written.contains (s.getF (.mast m) fUpBlkidxIndex) = false) → ∃ s', exec (.write t writers) s =
   .next s' ∧ ((∀ o ∈ s.voters, checkBlock ((s.mast m).mem.head (regionBase (1 - s.activeSlot) x.kind)) (s.getF
   (.mast m) fUpBlkidxIndex) ((s.mast o).mem.readBytes (s.srcAddr o) (blockLen ((s.mast m).mem.head (regionBase (1 -
   s.activeSlot) x.kind)) (s.getF (.mast m) fUpBlkidxIndex))) = 0) → s'.upd.session = some
   { x with writing := some (s.getF (.mast m) fUpBlkidxIndex), last := max s.now t } ∧ s'.getF .agreed fUpStatBusy =
   1 ∧ s'.getF .agreed fUpCmdstatLastCode = 8 ∧ s'.getF .agreed fUpCmdstatResult = 1 ∧ s'.getF .agreed
   fUpCmdstatReason = 0 ∧ (∀ o ∈ s.voters, (s'.mast o).mem = (s.mast o).mem.writeBytes (regionBase (1 -
   s.activeSlot) x.kind + 0x10000 + 65536 * s.getF (.mast m) fUpBlkidxIndex) ((s.mast o).mem.readBytes (s.srcAddr o)
   (blockLen ((s.mast m).mem.head (regionBase (1 - s.activeSlot) x.kind)) (s.getF (.mast m) fUpBlkidxIndex))))) ∧
   (¬(∀ o ∈ s.voters, checkBlock ((s.mast m).mem.head (regionBase (1 - s.activeSlot) x.kind)) (s.getF (.mast m)
   fUpBlkidxIndex) ((s.mast o).mem.readBytes (s.srcAddr o) (blockLen ((s.mast m).mem.head (regionBase (1 -
   s.activeSlot) x.kind)) (s.getF (.mast m) fUpBlkidxIndex))) = 0) → s'.upd.session = some
   { x with last := max s.now t } ∧ s'.getF .agreed fUpCmdstatLastCode = 8 ∧ s'.getF .agreed fUpCmdstatResult = 3 ∧
   (s.log.limits = [] → ∃ e ∈ s'.log.due, e.code = evUpRejected ∧ e.arg2 = s.getF (.mast m) fUpBlkidxIndex) ∧ (∀ o,
   s'.mast o = s.mast o)) ∧ (∀ o, o ∉ s.voters → s'.mast o = s.mast o) ∧ sameBut [.upd, .mem, .masts, .regs, .log]
   (s.advance t) s') ∧
  (∀ (t : Nat) (writers : Per Bool) (m : Mast) (s : State), (s.agreed writers = true ∧ s.paramsEqual writers
   rUpSrcaddr = true ∧ s.paramsEqual writers rUpBlkidx = true) → (s.ctl.mode = .service ∨ s.ctl.mode = .stop ∨
   s.ctl.mode = .run ∨ s.ctl.mode = .hold) → (s.voters.filter (fun m => writers.get m)).head? = some m →
   (s.upd.session = none ∨ s.getF .agreed fUpStatPhase ≠ 1 ∨ s.upd.session.any (fun x => x.writing.isSome || decide
   (x.blocks ≤ s.getF (.mast m) fUpBlkidxIndex)) = true) → ∃ s', exec (.write t writers) s = .next s' ∧ s'.getF
   .agreed fUpCmdstatLastCode = 8 ∧ s'.getF .agreed fUpCmdstatResult = 3 ∧ s'.getF .agreed fUpCmdstatReason = (if
   s.upd.session = none then 13 else if s.getF .agreed fUpStatPhase ≠ 1 ∨ s.upd.session.any (fun x =>
   x.writing.isSome) = true then 14 else 5) ∧ s'.upd = s.upd ∧ regsBut [(.agreed, rUpCmdstat), (.agreed,
   rUpLasterr)] s s' ∧ sameBut [.regs] (s.advance t) s') ∧
  (∀ (t : Nat) (writers : Per Bool) (m : Mast) (x : UpSession) (s : State), (s.agreed writers = true ∧ s.paramsEqual
   writers rUpSrcaddr = true ∧ s.paramsEqual writers rUpBlkidx = true) → (s.ctl.mode = .service ∨ s.ctl.mode = .stop
   ∨ s.ctl.mode = .run ∨ s.ctl.mode = .hold) → (s.voters.filter (fun m => writers.get m)).head? = some m →
   (s.upd.session = some x ∧ x.writing = none) → (s.getF .agreed fUpStatPhase = 1 ∧ s.getF (.mast m) fUpBlkidxIndex
   < x.blocks ∧ x.written.contains (s.getF (.mast m) fUpBlkidxIndex) = true) → ∃ s', exec (.write t writers) s =
   .next s' ∧ s'.upd.session = some { x with last := max s.now t } ∧ s'.getF .agreed fUpCmdstatLastCode = 8 ∧
   s'.getF .agreed fUpCmdstatResult = 1 ∧ s'.getF .agreed fUpCmdstatReason = 0 ∧ sameBut [.upd, .regs] (s.advance t)
   s') ∧
  (∀ (t : Nat) (x : UpSession) (i : Nat) (s : State), (s.upd.session = some x ∧ x.writing = some i) → ∃ s', exec
   (.updateBlockWritten t) s = .next s' ∧ s'.upd.session = some
   { x with written := x.written ++ [i], writing := none } ∧ s'.getF .agreed fUpStatBusy = 0 ∧ s'.getF .agreed
   fUpStatBlocks = min 255 (x.written.length + 1) ∧ s'.upd.keys = s.upd.keys ∧ regsBut [(.agreed, rUpStat)] s s' ∧
   sameBut [.upd, .regs] (s.advance t) s') ∧
  (∀ (t : Nat) (bad : Per Bool) (x : UpSession) (s : State), (s.upd.session = some x ∧ x.writing = none) → (s.getF
   .agreed fUpStatPhase = 1 ∧ (List.range x.blocks).all (fun i => x.written.contains i) = true) → (∀ m ∈ s.voters,
   bad.get m = false) → ∃ s', exec (.updateReadback t bad false) s = .next s' ∧ s'.getF .agreed fUpStatPhase = 4 ∧
   s'.upd = s.upd ∧ raised s' s.lane.active.mask evUpWritten x.kind x.blocks ∧ (∀ m ∈ s.voters, s'.regionHash m (1 -
   s.activeSlot) (3 - x.kind) = s.regionHash m s.activeSlot (3 - x.kind)) ∧ (∀ m, m ∉ s.voters → s'.mast m = s.mast
   m) ∧ sameBut [.mem, .masts, .regs, .log] (s.advance t) s') ∧
  (∀ (t : Nat) (bad : Per Bool) (differ : Bool) (x : UpSession) (s : State), (s.upd.session = some x ∧ x.writing =
   none) → (s.getF .agreed fUpStatPhase = 1 ∧ (List.range x.blocks).all (fun i => x.written.contains i) = true) →
   (s.voters.any bad.get = true ∨ differ = true) → ∃ s', exec (.updateReadback t bad differ) s = .next s' ∧
   s'.upd.session = none ∧ s'.getF .agreed fUpStatPhase = 0 ∧ s'.getF .agreed fUpCmdstatReason = (if s.voters.any
   bad.get then 10 else 11) ∧ s'.getF .agreed fUpLasterrReason = (if s.voters.any bad.get then 10 else 11) ∧ s'.upd
   = { s.upd with session := none } ∧ regsBut [(.agreed, rUpStat), (.agreed, rUpCmdstat), (.agreed, rUpLasterr)] s
   s' ∧ sameBut [.upd, .regs] (s.advance t) s') ∧
  (∀ (t : Nat) (writers : Per Bool) (x : UpSession) (s : State), s.agreed writers = true → (s.ctl.mode = .service ∨
   s.ctl.mode = .stop ∨ s.ctl.mode = .run ∨ s.ctl.mode = .hold) → s.upd.session = some x → ∃ s', exec (.abort t
   writers) s = .next s' ∧ s'.getF .agreed fUpCmdstatLastCode = 2 ∧ s'.getF .agreed fUpCmdstatResult = 1 ∧ s'.getF
   .agreed fUpCmdstatReason = 0 ∧ s'.upd.session = none ∧ s'.getF .agreed fUpStatPhase = 0 ∧ raised s'
   s.lane.active.mask evUpAborted 1 (s.getF .agreed fUpStatPhase) ∧ (∀ m ∈ s.voters, (s'.mast m).mem = (s.mast
   m).mem.writeRecord
   { s.recordOf m with digests := (s.recordOf m).digests.set (digestIndex (1 - s.activeSlot) x.kind) 0 }) ∧ regsBut
   [(.agreed, rUpStat), (.agreed, rUpCmdstat)] s s' ∧ sameBut [.upd, .mem, .masts, .regs, .log] (s.advance t) s') ∧
  (∀ (t : Nat) (writers : Per Bool) (s : State), s.agreed writers = true → (s.ctl.mode = .service ∨ s.ctl.mode =
   .stop ∨ s.ctl.mode = .run ∨ s.ctl.mode = .hold) → s.upd.session = none → ∃ s', exec (.abort t writers) s = .next
   s' ∧ s'.getF .agreed fUpCmdstatLastCode = 2 ∧ s'.getF .agreed fUpCmdstatResult = 3 ∧ s'.getF .agreed
   fUpCmdstatReason = 13 ∧ regsBut [(.agreed, rUpCmdstat)] s s' ∧ sameBut [.regs] (s.advance t) s') ∧
  (∀ (t : Nat) (x : UpSession) (s : State), s.upd.session = some x → x.last + 600 * sec ≤ t → ∃ s', exec
   (.updateIdleTimeout t) s = .next s' ∧ s'.upd.session = none ∧ s'.getF .agreed fUpStatPhase = 0 ∧ raised s'
   s.lane.active.mask evUpAborted 5 (s.getF .agreed fUpStatPhase) ∧ (∀ m ∈ s.voters, (s'.mast m).mem = (s.mast
   m).mem.writeRecord
   { s.recordOf m with digests := (s.recordOf m).digests.set (digestIndex (1 - s.activeSlot) x.kind) 0 }) ∧ regsBut
   [(.agreed, rUpStat), (.agreed, rUpCmdstat)] s s' ∧ sameBut [.upd, .mem, .masts, .regs, .log] (s.advance t) s') ∧
  (∀ (t : Nat) (writers : Per Bool) (s : State), s.agreed writers = true → (s.ctl.mode = .run ∧ s.inTrial = true) →
   ∃ s', exec (.confirm t writers) s = .next s' ∧ s'.getF .agreed fUpCmdstatLastCode = 5 ∧ s'.getF .agreed
   fUpCmdstatResult = 1 ∧ s'.getF .agreed fUpCmdstatReason = 0 ∧ raised s' s.lane.active.mask evUpConfirmed
   s.activeSlot (s.advance t).runSec ∧ (∀ m ∈ s.voters, (s'.mast m).mem = (s.mast m).mem.writeRecord
   { s.recordOf m with trial := false, tries := 0 }) ∧ s'.getF .agreed fUpRunsecSec = 0 ∧ (∀ m, m ∉ s.voters →
   s'.mast m = s.mast m) ∧ sameBut [.mem, .masts, .regs, .log] (s.advance t) s') ∧
  (∀ (t : Nat) (writers : Per Bool) (s : State), s.agreed writers = true → (s.ctl.mode = .run ∧ s.inTrial = false) →
   ∃ s', exec (.confirm t writers) s = .next s' ∧ s'.getF .agreed fUpCmdstatLastCode = 5 ∧ s'.getF .agreed
   fUpCmdstatResult = 3 ∧ s'.getF .agreed fUpCmdstatReason = 0 ∧ regsBut [(.agreed, rUpCmdstat)] s s' ∧ sameBut
   [.regs] (s.advance t) s') ∧
  (∀ (t : Nat) (writers : Per Bool) (s : State), s.agreed writers = true → (s.ctl.mode = .service ∧ s.upd.session =
   none) → s.getF .agreed fUpKeyselSlot ≤ 5 → ∃ s', exec (.revoke t writers) s = .next s' ∧ (if s.revokeRefused
   (s.getF .agreed fUpKeyselSlot) = true then s'.upd = s.upd ∧ s'.getF .agreed fUpCmdstatLastCode = 6 ∧ s'.getF
   .agreed fUpCmdstatResult = 3 ∧ s'.getF .agreed fUpCmdstatReason = 16 else s'.upd.revoked = withBit s.upd.revoked
   (s.getF .agreed fUpKeyselSlot) true ∧ s'.upd.keys = s.upd.keys ∧ raised s' s.lane.active.mask evUpKeyRevoked
   (s.getF .agreed fUpKeyselSlot) 0 ∧ s'.getF .agreed fUpCmdstatLastCode = 6 ∧ s'.getF .agreed fUpCmdstatResult = 1
   ∧ s'.getF .agreed fUpCmdstatReason = 0) ∧ regsBut [(.agreed, rUpCmdstat), (.agreed, rUpKeystat)] s s' ∧ sameBut
   [.upd, .regs, .log] (s.advance t) s') ∧
  (∀ (t : Nat) (writers : Per Bool) (m : Mast) (s : State), (s.agreed writers = true ∧ s.paramsEqual writers
   rUpSrcaddr = true) → (s.ctl.mode = .service ∧ s.upd.session = none) → (s.getF .agreed fUpKeyselSlot = 4 ∨ s.getF
   .agreed fUpKeyselSlot = 5) → (s.upd.keys.length = 6 ∧ s.upd.keys[s.getF .agreed fUpKeyselSlot]? = some []) →
   (s.voters.filter (fun m => writers.get m)).head? = some m → ∃ s', exec (.keyprog t writers) s = .next s' ∧
   s'.upd.keys = s.upd.keys.set (s.getF .agreed fUpKeyselSlot) ((s.mast m).mem.readBytes (s.srcAddr m) 96) ∧
   s'.upd.revoked = s.upd.revoked ∧ raised s' s.lane.active.mask evUpKeyProgrammed (s.getF .agreed fUpKeyselSlot)
   (fieldAt ((s.mast m).mem.readBytes (s.srcAddr m) 96) 0 4) ∧ s'.getF .agreed fUpCmdstatLastCode = 7 ∧ s'.getF
   .agreed fUpCmdstatResult = 1 ∧ s'.getF .agreed fUpCmdstatReason = 0 ∧ regsBut [(.agreed, rUpCmdstat), (.agreed,
   rUpKeystat)] s s' ∧ sameBut [.upd, .regs, .log] (s.advance t) s') ∧
  (∀ (t : Nat) (writers : Per Bool) (s : State), (s.agreed writers = true ∧ s.paramsEqual writers rUpSrcaddr = true)
   → (s.ctl.mode = .service ∨ s.ctl.mode = .stop ∨ s.ctl.mode = .run ∨ s.ctl.mode = .hold) → ∃ s', exec (.settings t
   writers) s = .next s' ∧ (∀ m ∈ s.voters, (s'.mast m).mem = ((s.mast m).mem.erase (bankAddr (s.mast
   m).mem.olderBank) 0x100000).writeBytes (bankAddr (s.mast m).mem.olderBank) (((s.mast m).mem.readBytes (s.srcAddr
   m) (min 0x100000 (40 + leNat ((s.mast m).mem.readBytes (s.srcAddr m + 12) 4)))).take 0x100000)) ∧ (∀ m, m ∉
   s.voters → s'.mast m = s.mast m) ∧ s'.getF .agreed fUpCmdstatLastCode = 9 ∧ s'.getF .agreed fUpCmdstatResult = 1
   ∧ s'.getF .agreed fUpCmdstatReason = 0 ∧ regsBut [(.agreed, rUpCmdstat)] s s' ∧ sameBut [.mem, .masts, .regs]
   (s.advance t) s') ∧
  (∀ (t : Nat) (writers : Per Bool) (s : State), (s.agreed writers = true ∧ s.paramsEqual writers rUpSrcaddr = true)
   → s.ctl.mode = .service → s.upd.session.isSome = true → (∃ s', exec (.revoke t writers) s = .next s' ∧ s'.getF
   .agreed fUpCmdstatLastCode = 6 ∧ s'.getF .agreed fUpCmdstatResult = 3 ∧ s'.getF .agreed fUpCmdstatReason = 14 ∧
   s'.upd = s.upd ∧ sameBut [.regs] (s.advance t) s') ∧ (s.voters.filter (fun m => writers.get m) ≠ [] → ∃ s', exec
   (.keyprog t writers) s = .next s' ∧ s'.getF .agreed fUpCmdstatLastCode = 7 ∧ s'.getF .agreed fUpCmdstatResult = 3
   ∧ s'.getF .agreed fUpCmdstatReason = 14 ∧ s'.upd = s.upd ∧ sameBut [.regs] (s.advance t) s')) ∧
  (∀ (t : Nat) (writers : Per Bool) (s : State), (s.agreed writers = true ∧ s.paramsEqual writers rUpSrcaddr = true)
   → (s.ctl.mode = .service ∧ s.upd.session = none) → s.voters.filter (fun m => writers.get m) ≠ [] → (¬(s.getF
   .agreed fUpKeyselSlot = 4 ∨ s.getF .agreed fUpKeyselSlot = 5) ∨ s.upd.keys[s.getF .agreed fUpKeyselSlot]?.getD []
   ≠ []) → ∃ s', exec (.keyprog t writers) s = .next s' ∧ s'.getF .agreed fUpCmdstatLastCode = 7 ∧ s'.getF .agreed
   fUpCmdstatResult = 3 ∧ s'.getF .agreed fUpCmdstatReason = 0 ∧ s'.upd = s.upd ∧ regsBut [(.agreed, rUpCmdstat)] s
   s' ∧ sameBut [.regs] (s.advance t) s') ∧
  (∀ (t : Nat) (writers : Per Bool) (f : JuryFinding) (lost : Option Mast) (env : BootEnv) (s : State), s.agreed
   writers = false → ∀ x ∈ [(Instr.begin t writers, 1), (Instr.abort t writers, 2), (Instr.activate t writers f lost
   env, 3), (Instr.activateNoJury t writers env, 4), (Instr.confirm t writers, 5), (Instr.revoke t writers, 6),
   (Instr.keyprog t writers, 7), (Instr.write t writers, 8), (Instr.settings t writers, 9)], ∃ s', exec x.1 s =
   .next s' ∧ s'.getF .agreed fUpCmdstatLastCode = x.2 ∧ s'.getF .agreed fUpCmdstatResult = 4 ∧ s'.getF .agreed
   fUpCmdstatReason = 0 ∧ regsBut [(.agreed, rUpCmdstat)] s s' ∧ sameBut [.regs] (s.advance t) s') ∧
  (∀ (t : Nat) (writers : Per Bool) (f : JuryFinding) (lost : Option Mast) (env : BootEnv) (s : State), (s.agreed
   writers = true ∧ s.paramsEqual writers rUpSrcaddr = true ∧ s.paramsEqual writers rUpBlkidx = true) → s.inMode
   [.service, .stop, .run, .hold] = false → ∀ x ∈ [(Instr.begin t writers, 1), (Instr.abort t writers, 2),
   (Instr.activate t writers f lost env, 3), (Instr.activateNoJury t writers env, 4), (Instr.confirm t writers, 5),
   (Instr.revoke t writers, 6), (Instr.keyprog t writers, 7), (Instr.write t writers, 8), (Instr.settings t writers,
   9)], ∃ s', exec x.1 s = .next s' ∧ s'.getF .agreed fUpCmdstatLastCode = x.2 ∧ s'.getF .agreed fUpCmdstatResult =
   2 ∧ s'.getF .agreed fUpCmdstatReason = 0 ∧ regsBut [(.agreed, rUpCmdstat)] s s' ∧ sameBut [.regs] (s.advance t)
   s')

/-- For every state. activate: agreed in STOP or SERVICE with a session in PHASE 4 it brings the module into BOOT with
MC_RSTCAUSE.IMAGE, after TRIAL records with three starts that make the other slot active where the jury turn
succeeds or is skipped, with the records unchanged where the turn fails; a mast lost during the turn leads to SAFE;
outside PHASE 4, or without a session, it is refused. activateNoJury: the same in SERVICE without a turn.
confirmWindowExpiry: the end of CONFIRM_S in RUN without a CONFIRM does so after records that go back to the
previous slot with the trial slot rejected. recoveryDownload: one whose images verify on two masts is followed by
BOOT with MC_RSTCAUSE.IMAGE and UP_RECOVERY, and one whose images do not leaves the module in RECOVERY with what the
masts have kept. Completion: for every state and operands that meet the stated conditions on them alone, exec
answers the next state of the own effect of activate (ACTIVATE), activateNoJury (ACTIVATE_NO_JURY),
confirmWindowExpiry (CONFIRM_WINDOW_EXPIRY), recoveryDownload (RECOVERY_DOWNLOAD). -/
def Obligations.UpdateActivation : Prop :=
  (∀ (t : Nat) (writers : Per Bool) (f : JuryFinding) (env : BootEnv) (s : State), s.agreed writers = true →
   (s.ctl.mode = .service ∨ s.ctl.mode = .stop) → (s.upd.session.isSome = true ∧ s.getF .agreed fUpStatPhase = 4) →
   s.lane.isolated.masts ≠ [] → ∃ s', exec (.activate t writers f none env) s = .next s' ∧ ∃ u : State, s' =
   u.bootRun env ∧ u.ctl.mode = .boot ∧ u.ctl.on = true ∧ u.ctl.bootFrom = max s.now t ∧ u.getF .agreed
   fMcRstcauseImage = 1 ∧ (∀ m ∈ s.voters, ∀ c < 2, (u.mast m).mem.readBytes (recordAddr c) 64 = ((s.mast
   m).mem.writeRecord { s.recordOf m with active := 1 - s.activeSlot, trial := true, tries := 3 }).readBytes
   (recordAddr c) 64)) ∧
  (∀ (t : Nat) (writers : Per Bool) (f : JuryFinding) (env : BootEnv) (s : State), s.agreed writers = true →
   (s.ctl.mode = .service ∨ s.ctl.mode = .stop) → (s.upd.session.isSome = true ∧ s.getF .agreed fUpStatPhase = 4) →
   s.lane.isolated.masts = [] → (f.selftest = true ∧ f.turn = true) → ∃ s', exec (.activate t writers f none env) s
   = .next s' ∧ ∃ u : State, s' = u.bootRun env ∧ u.ctl.mode = .boot ∧ u.ctl.on = true ∧ u.ctl.bootFrom = max s.now
   t ∧ u.getF .agreed fMcRstcauseImage = 1 ∧ (∀ m ∈ s.voters, m ≠ s.lane.posC → ∀ c < 2, (u.mast m).mem.readBytes
   (recordAddr c) 64 = ((s.mast m).mem.writeRecord
   { s.recordOf m with active := 1 - s.activeSlot, trial := true, tries := 3 }).readBytes (recordAddr c) 64) ∧ (∀ m
   ∈ (s.voters.filter (fun m => m != s.lane.posC)).take 1, ∀ k < 0x1800000, (u.mast .j).mem.readByte (regionBase (1
   - s.activeSlot) 1 + k) = (s.mast m).mem.readByte (regionBase (1 - s.activeSlot) 1 + k))) ∧
  (∀ (t : Nat) (writers : Per Bool) (f : JuryFinding) (env : BootEnv) (s : State), s.agreed writers = true →
   (s.ctl.mode = .service ∨ s.ctl.mode = .stop) → (s.upd.session.isSome = true ∧ s.getF .agreed fUpStatPhase = 4) →
   s.lane.isolated.masts = [] → (f.selftest = false ∨ f.turn = false) → ∃ s', exec (.activate t writers f none env)
   s = .next s' ∧ ∃ u : State, s' = u.bootRun env ∧ u.ctl.mode = .boot ∧ u.ctl.on = true ∧ u.ctl.bootFrom = max
   s.now t ∧ u.getF .agreed fMcRstcauseImage = 1 ∧ (∀ m, (u.mast m).mem.record = (s.mast m).mem.record)) ∧
  (∀ (t : Nat) (writers : Per Bool) (f : JuryFinding) (m : Mast) (env : BootEnv) (s : State), s.agreed writers =
   true → (s.ctl.mode = .service ∨ s.ctl.mode = .stop) → (s.upd.session.isSome = true ∧ s.getF .agreed fUpStatPhase
   = 4) → (s.lane.isolated.masts = [] ∧ s.lane.lane = .triplex) → (s.votes m = true ∧ m ≠ s.lane.posC) → ∃ s', exec
   (.activate t writers f (some m) env) s = .next s' ∧ s'.ctl.mode = .safe ∧ s'.upd.session = none ∧ s'.lane.lane =
   .duplex) ∧
  (∀ (t : Nat) (writers : Per Bool) (f : JuryFinding) (lost : Option Mast) (env : BootEnv) (s : State), s.agreed
   writers = true → (s.ctl.mode = .service ∨ s.ctl.mode = .stop) → (s.upd.session = none ∨ s.getF .agreed
   fUpStatPhase ≠ 4) → ∃ s', exec (.activate t writers f lost env) s = .next s' ∧ s'.getF .agreed fUpCmdstatLastCode
   = 3 ∧ s'.getF .agreed fUpCmdstatResult = 3 ∧ s'.getF .agreed fUpCmdstatReason = (if s.upd.session = none then 13
   else 14) ∧ regsBut [(.agreed, rUpCmdstat)] s s' ∧ sameBut [.regs] (s.advance t) s') ∧
  (∀ (t : Nat) (writers : Per Bool) (env : BootEnv) (s : State), s.agreed writers = true → s.ctl.mode = .service →
   (s.upd.session.isSome = true ∧ s.getF .agreed fUpStatPhase = 4) → ∃ s', exec (.activateNoJury t writers env) s =
   .next s' ∧ ∃ u : State, s' = u.bootRun env ∧ u.ctl.mode = .boot ∧ u.ctl.on = true ∧ u.ctl.bootFrom = max s.now t
   ∧ u.getF .agreed fMcRstcauseImage = 1 ∧ (∀ m ∈ s.voters, ∀ c < 2, (u.mast m).mem.readBytes (recordAddr c) 64 =
   ((s.mast m).mem.writeRecord
   { s.recordOf m with active := 1 - s.activeSlot, trial := true, tries := 3 }).readBytes (recordAddr c) 64)) ∧
  (∀ (t : Nat) (env : BootEnv) (s : State), (s.ctl.mode = .run ∧ s.inTrial = true) → s.getF .agreed fUpCtrlConfirmS
   ≤ (s.advance t).runSec → ∃ s', exec (.confirmWindowExpiry t env) s = .next s' ∧ ∃ u : State, s' = u.bootRun env ∧
   u.ctl.mode = .boot ∧ u.ctl.on = true ∧ u.ctl.bootFrom = max s.now t ∧ u.getF .agreed fMcRstcauseImage = 1 ∧
   (s.upd.session = none → (∀ m ∈ s.voters, ∀ c < 2, (u.mast m).mem.readBytes (recordAddr c) 64 = ((s.mast
   m).mem.writeRecord
   { s.recordOf m with active := 1 - s.activeSlot, trial := false, tries := 0,
                       reject := withBit (s.recordOf m).reject s.activeSlot true }).readBytes
   (recordAddr c) 64))) ∧
  (∀ (t : Nat) (via : Nat) (fw app : List Byte) (bad : Per Bool) (f : JuryFinding) (env : BootEnv) (s : State),
   s.ctl.mode = .recovery → ∃ s', exec (.recoveryDownload t via fw app bad f env) s = .next s' ∧ ∃ (u : State) (k :
   Nat), k ≤ 1 ∧ (k = 1 - s.activeSlot ∨ k = 0) ∧ u = (s.voters.filter (fun m => !bad.get m)).foldl (fun s m => if
   app = [] then s.keepContainer m k 1 fw else (s.keepContainer m k 1 fw).keepContainer m k 2 app) (s.advance t) ∧
   sameBut [.mem, .masts] (s.advance t) u ∧ (if (2 ≤ (s.voters.filter (fun m => u.regionHash m k 1 == some
   (imageHash (headOf fw)))).length ∧ (app = [] ∨ 2 ≤ (s.voters.filter (fun m => u.regionHash m k 2 == some
   (imageHash (headOf app)))).length)) then ∃ v : State, s' = (v.moduleReset fMcRstcauseImage env).raise
   evUpRecovery via (fw.length + app.length) ∧ v.upd = s.upd else s' = u))

/-- For every state in which the monitor is available. serviceLineReceived: a line of 255 bytes or less with a known
first word waits while fewer than four do and no file is awaited; a longer one is answered ERR 2, a fifth ERR 6, an
unknown word ERR 1. monAuth: draws a challenge for the key entry; it is refused in the lock-out and while a session
is open. monResp: opens a session with MON_SESSION exactly when two voting masts verify the answer and counts a
failure otherwise, the third within 60 s starting the lock-out with MON_AUTH_FAIL. monLogout and sessionIdleTimeout
(600 s without a line): the session ends, SERVICE goes to STOP, the release of all forces is asked for.
authChallengeExpiry, authLockoutEnd: the challenge, the lock-out end. serviceTransferBlock: a good block in its turn
joins the file awaited, another is ignored, and the end of a key file programs the key. Where the monitor is not
available a line changes nothing. Completion: for every state and operands that meet the stated conditions on them
alone, exec answers the next state of the own effect of serviceLineReceived (SERVICE_LINE_RECEIVED), monAuth
(MON_AUTH), monResp (MON_RESP), monLogout (MON_LOGOUT), authChallengeExpiry (AUTH_CHALLENGE_EXPIRY),
sessionIdleTimeout (SESSION_IDLE_TIMEOUT), authLockoutEnd (AUTH_LOCKOUT_END), serviceTransferBlock
(SERVICE_TRANSFER_BLOCK). -/
def Obligations.MonitorLinesAndSessions : Prop :=
  (∀ (t : Nat) (line w : List Byte) (ws : List (List Byte)) (c : MonCmd) (s : State), s.monOpen = true →
   (line.length ≤ 255 ∧ wordsOf line = w :: ws ∧ lineCmd line = some c) → (s.mon.waiting.length < 4 ∧ s.mon.transfer
   = none) → ∃ s', exec (.serviceLineReceived t line) s = .next s' ∧ s'.mon.waiting = s.mon.waiting ++ [line] ∧
   s'.mon.answer = s.mon.answer ∧ s'.mon.session = s.mon.session.map (fun x => (x.1, max s.now t)) ∧ s'.getF .agreed
   fSvLinesLines = min 65535 (s.getF .agreed fSvLinesLines + 1) ∧ regsBut [(.agreed, rSvLines)] s s' ∧ sameBut
   [.mon, .regs] (s.advance t) s') ∧
  (∀ (t : Nat) (line : List Byte) (s : State), s.monOpen = true → 255 < line.length → ∃ s', exec
   (.serviceLineReceived t line) s = .next s' ∧ s'.mon.waiting = s.mon.waiting ∧ s'.mon.answer.result = 2 ∧ s'.getF
   .agreed fSvLinesDiscarded = min 65535 (s.getF .agreed fSvLinesDiscarded + 1) ∧ regsBut [(.agreed, rSvLines)] s s'
   ∧ sameBut [.mon, .regs] (s.advance t) s') ∧
  (∀ (t : Nat) (line w : List Byte) (ws : List (List Byte)) (s : State), s.monOpen = true → (line.length ≤ 255 ∧
   wordsOf line = w :: ws ∧ lineCmd line = none) → (s.mon.waiting.length < 4 ∧ s.mon.transfer = none) → ∃ s', exec
   (.serviceLineReceived t line) s = .next s' ∧ s'.mon.waiting = s.mon.waiting ∧ s'.mon.answer = ⟨wordNum w, 1, []⟩
   ∧ regsBut [(.agreed, rSvLines)] s s' ∧ sameBut [.mon, .regs] (s.advance t) s') ∧
  (∀ (t : Nat) (line : List Byte) (s : State), s.monOpen = true → (line.length ≤ 255 ∧ (4 ≤ s.mon.waiting.length ∨
   s.mon.transfer.isSome = true)) → ∃ s', exec (.serviceLineReceived t line) s = .next s' ∧ s'.mon.waiting =
   s.mon.waiting ∧ s'.mon.answer.result = 6 ∧ s'.getF .agreed fSvLinesDiscarded = min 65535 (s.getF .agreed
   fSvLinesDiscarded + 1) ∧ regsBut [(.agreed, rSvLines)] s s' ∧ sameBut [.mon, .regs] (s.advance t) s') ∧
  (∀ (t : Nat) (line : List Byte) (s : State), s.monOpen = false → exec (.serviceLineReceived t line) s = .next
   (s.advance t)) ∧
  (∀ (t : Nat) (line : List Byte) (rest : List (List Byte)) (w : List Byte) (k : Nat) (s : State), s.mon.waiting =
   line :: rest → (s.monOpen = true ∧ s.instants = true) → lineCmd line = some .auth → ((wordsOf line).drop 1 = [w]
   ∧ numberOf w = some k ∧ k ≤ 7) → (s.ctl.mode = .service ∨ s.ctl.mode = .stop ∨ s.ctl.mode = .run ∨ s.ctl.mode =
   .hold) → (s.mon.session = none ∧ s.mon.lockedAt = none ∧ s.app.desc.isSome = true) → ∃ s', exec (.monAuth t) s =
   .next s' ∧ s'.mon.waiting = rest ∧ s'.mon.answer = ⟨MonCmd.auth.num, 0, (List.range 4).map (fun g => (g, beNat
   (slice ((List.range 16).map (fun i => (Config.challenge s.free)[i]?.getD 0)) (4 * g) 4)))⟩ ∧ s'.mon.challenge =
   some (k, ((List.range 16).map (fun i => (Config.challenge s.free)[i]?.getD 0)), max s.now t) ∧ s'.mon.session =
   none ∧ s'.free = s.free + 1 ∧ sameBut [.mon, .free] (s.advance t) s') ∧
  (∀ (t : Nat) (line : List Byte) (rest : List (List Byte)) (w : List Byte) (k : Nat) (s : State), s.mon.waiting =
   line :: rest → (s.monOpen = true ∧ s.instants = true) → lineCmd line = some .auth → ((wordsOf line).drop 1 = [w]
   ∧ numberOf w = some k ∧ k ≤ 7) → (s.ctl.mode = .service ∨ s.ctl.mode = .stop ∨ s.ctl.mode = .run ∨ s.ctl.mode =
   .hold) → (s.mon.session.isSome = true ∨ s.mon.lockedAt.isSome = true ∨ s.app.desc = none) → ∃ s', exec (.monAuth
   t) s = .next s' ∧ s'.mon =
   { s.mon with waiting := rest, answer := ⟨MonCmd.auth.num, if s.mon.session.isSome then 6 else 5, []⟩ } ∧ sameBut
   [.mon] (s.advance t) s') ∧
  (∀ (t : Nat) (line : List Byte) (rest : List (List Byte)) (sig c : List Byte) (k n : Nat) (s : State),
   s.mon.waiting = line :: rest → (s.monOpen = true ∧ s.instants = true) → lineCmd line = some .resp → (groupsOf
   ((wordsOf line).drop 1) = some sig ∧ sig.length = 96) → (s.ctl.mode = .service ∨ s.ctl.mode = .stop ∨ s.ctl.mode
   = .run ∨ s.ctl.mode = .hold) → (s.mon.session = none ∧ s.mon.challenge = some (k, c, n)) → max s.now t < n + 120
   * sec → s.mon.fails = [] → ∃ s', exec (.monResp t) s = .next s' ∧ s'.mon.waiting = rest ∧ (if 2 ≤
   (s.voters.filter (s.verifies k c sig)).length then s'.mon.session = some (k, max s.now t) ∧ s'.mon.challenge =
   none ∧ s'.mon.answer = ⟨MonCmd.resp.num, 0, []⟩ ∧ raised s' s.lane.active.mask evMonSession 1 k ∧ s'.getF .agreed
   fSvStatSession = 1 else s'.mon.session = none ∧ s'.mon.fails = [max s.now t] ∧ s'.mon.answer = ⟨MonCmd.resp.num,
   5, []⟩ ∧ s'.getF .agreed fSvAuthFailed = min 65535 (s.getF .agreed fSvAuthFailed + 1)) ∧ regsBut [(.agreed,
   rSvStat), (.agreed, rSvAuth)] s s' ∧ sameBut [.mon, .regs, .log] (s.advance t) s') ∧
  (∀ (t : Nat) (line : List Byte) (rest : List (List Byte)) (sig c : List Byte) (k n a b : Nat) (s : State),
   s.mon.waiting = line :: rest → (s.monOpen = true ∧ s.instants = true) → lineCmd line = some .resp → (groupsOf
   ((wordsOf line).drop 1) = some sig ∧ sig.length = 96) → (s.ctl.mode = .service ∨ s.ctl.mode = .stop ∨ s.ctl.mode
   = .run ∨ s.ctl.mode = .hold) → (s.mon.session = none ∧ s.mon.challenge = some (k, c, n)) → max s.now t < n + 120
   * sec → (s.mon.fails = [a, b] ∧ max s.now t < a + 60 * sec ∧ max s.now t < b + 60 * sec) → ∃ s', exec (.monResp
   t) s = .next s' ∧ (2 ≤ (s.voters.filter (s.verifies k c sig)).length ∨ s'.mon =
   { s.mon with waiting := rest, fails := [max s.now t, a, b], lockedAt := some (max s.now t),
                answer := ⟨MonCmd.resp.num, 5, []⟩ }
   ∧ raised s' s.lane.active.mask evMonAuthFail 3 1)) ∧
  (∀ (t : Nat) (line : List Byte) (rest : List (List Byte)) (k n : Nat) (s : State), s.mon.waiting = line :: rest →
   (s.monOpen = true ∧ s.instants = true) → lineCmd line = some .logout → (wordsOf line).drop 1 = [] → s.mon.session
   = some (k, n) → s.ctl.mode ≠ .service → ∃ s', exec (.monLogout t) s = .next s' ∧ s'.mon.waiting = rest ∧
   s'.mon.answer = ⟨MonCmd.logout.num, 0, []⟩ ∧ s'.mon.session = none ∧ s'.mon.transfer = none ∧ s'.getF .agreed
   fSvStatSession = 0 ∧ raised s' s.lane.active.mask evMonSession 0 k ∧ raised s' s.lane.active.mask evMonCommand
   (MonCmd.logout.num % 2 ^ 32) 0 ∧ s'.app =
   { s.app with releases := if s.app.forces = [] then s.app.releases else s.app.releases ++ [(none, 2)] } ∧ s'.getF
   .agreed fMcInhibitService = (if s.app.forces = [] then s.getF .agreed fMcInhibitService else 1) ∧ regsBut
   [(.agreed, rSvStat), (.agreed, rMcInhibit)] s s' ∧ sameBut [.mon, .app, .regs, .log] (s.advance t) s') ∧
  (∀ (t : Nat) (line : List Byte) (rest : List (List Byte)) (k n : Nat) (s : State), s.mon.waiting = line :: rest →
   (s.monOpen = true ∧ s.instants = true) → lineCmd line = some .logout → (wordsOf line).drop 1 = [] → s.mon.session
   = some (k, n) → s.ctl.mode = .service → ∃ s', exec (.monLogout t) s = .next s' ∧ s'.ctl.mode = .stop ∧ s'.getF
   .agreed fMcStopcauseCause = 7 ∧ s'.mon.session = none ∧ s'.mon.transfer = none ∧ s'.getF .agreed fSvStatSession =
   0 ∧ raised s' s.lane.active.mask evMonSession 0 k) ∧
  (∀ (t : Nat) (k n : Nat) (c : List Byte) (s : State), s.mon.challenge = some (k, c, n) → n + 120 * sec ≤ t → ∃ s',
   exec (.authChallengeExpiry t) s = .next s' ∧ s'.mon = { s.mon with challenge := none } ∧ sameBut [.mon]
   (s.advance t) s') ∧
  (∀ (t : Nat) (k n : Nat) (s : State), s.mon.session = some (k, n) → n + 600 * sec ≤ t → ∃ s', exec
   (.sessionIdleTimeout t) s = .next s' ∧ s'.mon.session = none ∧ s'.mon.transfer = none ∧ s'.getF .agreed
   fSvStatSession = 0 ∧ raised s' s.lane.active.mask evMonSession 0 k ∧ s'.app =
   { s.app with releases := if s.app.forces = [] then s.app.releases else s.app.releases ++ [(none, 2)] } ∧ s'.getF
   .agreed fMcInhibitService = (if s.app.forces = [] then s.getF .agreed fMcInhibitService else 1) ∧ s'.mon.waiting
   = s.mon.waiting ∧ regsBut [(.agreed, rSvStat), (.agreed, rMcInhibit)] s s' ∧ sameBut [.mon, .app, .regs, .log]
   (s.advance t) s') ∧
  (∀ (t : Nat) (n : Nat) (s : State), s.mon.lockedAt = some n → n + 60 * sec ≤ t → ∃ s', exec (.authLockoutEnd t) s
   = .next s' ∧ s'.mon = { s.mon with lockedAt := none } ∧ sameBut [.mon] (s.advance t) s') ∧
  (∀ (t : Nat) (f data : List Byte) (n : Nat) (x : Transfer) (s : State), (s.monOpen = true ∧ s.mon.transfer = some
   x) → (f ≠ [0x04] ∧ xmodemBlock f = some (n, data) ∧ n = x.next % 256) → ∃ s', exec (.serviceTransferBlock t f) s
   = .next s' ∧ s'.mon.transfer = some { x with bytes := x.bytes ++ data, next := x.next + 1 } ∧ s'.mon.session =
   s.mon.session.map (fun y => (y.1, max s.now t)) ∧ s'.mon.waiting = s.mon.waiting ∧ s'.mon.answer = s.mon.answer ∧
   sameBut [.mon] (s.advance t) s') ∧
  (∀ (t : Nat) (f : List Byte) (x : Transfer) (s : State), (s.monOpen = true ∧ s.mon.transfer = some x) → (f ≠
   [0x04] ∧ (xmodemBlock f).all (fun y => y.1 != x.next % 256) = true) → ∃ s', exec (.serviceTransferBlock t f) s =
   .next s' ∧ s'.mon = { s.mon with session := s.mon.session.map (fun y => (y.1, max s.now t)) } ∧ sameBut [.mon]
   (s.advance t) s') ∧
  (∀ (t : Nat) (x : Transfer) (s : State), (s.monOpen = true ∧ s.mon.transfer = some x) → (x.kind = 2 ∧ (x.slot = 4
   ∨ x.slot = 5)) → (s.ctl.mode = .service ∧ s.upd.session = none) → (s.upd.keys.length = 6 ∧ s.upd.keys[x.slot]? =
   some []) → ∃ s', exec (.serviceTransferBlock t [0x04]) s = .next s' ∧ s'.upd =
   { s.upd with keys := s.upd.keys.set x.slot (x.bytes.take 96) } ∧ s'.mon.transfer = none ∧ s'.mon.answer =
   ⟨MonCmd.key.num, 0, []⟩ ∧ raised s' s.lane.active.mask evUpKeyProgrammed x.slot (fieldAt (x.bytes.take 96) 0 4) ∧
   raised s' s.lane.active.mask evMonCommand (MonCmd.key.num % 2 ^ 32) 0 ∧ sameBut [.mon, .upd, .regs, .log]
   (s.advance t) s')

/-- For every state in which the monitor is available and the action instant comes, and every waiting line that is one
of help, id, status, log, reg, io, bus, net, time, sup, mem or keys (monHelp, monId, monStatus, monLog, monReg,
monIo, monBus, monNet, monTime, monSup, monMem, monKeys) with the arguments R421 allows: the line is taken and
answered OK with the words, registers or log entries R421 names, as the mast in lane position A reads them, and
nothing else changes; arguments it does not allow are answered ERR 2. Completion: for every state and operands that
meet the stated conditions on them alone, exec answers the next state of the own effect of monHelp (MON_HELP), monId
(MON_ID), monStatus (MON_STATUS), monLog (MON_LOG), monReg (MON_REG), monIo (MON_IO), monBus (MON_BUS), monNet
(MON_NET), monTime (MON_TIME), monSup (MON_SUP), monMem (MON_MEM), monKeys (MON_KEYS). -/
def Obligations.MonitorShows : Prop :=
  (∀ (t : Nat) (line : List Byte) (rest : List (List Byte)) (s : State), s.mon.waiting = line :: rest → (s.monOpen =
   true ∧ s.instants = true) → lineCmd line = some .help → (wordsOf line).drop 1 = [] → ∃ s', exec (.monHelp t) s =
   .next s' ∧ s'.mon.waiting = rest ∧ s'.mon.answer = ⟨MonCmd.help.num, 0, MonCmd.all.map (fun c => (c.num, 0))⟩ ∧
   s'.mon.session = s.mon.session ∧ s'.mon.transfer = s.mon.transfer ∧ sameBut [.mon] (s.advance t) s') ∧
  (∀ (t : Nat) (line : List Byte) (rest : List (List Byte)) (s : State), s.mon.waiting = line :: rest → (s.monOpen =
   true ∧ s.instants = true) → lineCmd line = some .id → (wordsOf line).drop 1 = [] → ∃ s', exec (.monId t) s =
   .next s' ∧ s'.mon.waiting = rest ∧ s'.mon.answer = ⟨MonCmd.id.num, 0, (s.advance t).showRegs [rMcId, rUpSerialLo,
   rUpSerialHi, rSlSlotid, rUpFwver0, rUpFwver1, rUpAppver0, rUpAppver1, rSlCfgver, rSpParamid] ++ [(0, s.rackId),
   (1, ((keyBody s.key.image 1).map (fun b => leNat (slice b 8 32))).getD 0), (2, fieldAt ((keyBody s.key.image
   3).getD []) 0x30 4)]⟩ ∧ s'.mon.session = s.mon.session ∧ s'.mon.transfer = s.mon.transfer ∧ sameBut [.mon]
   (s.advance t) s') ∧
  (∀ (t : Nat) (line : List Byte) (rest : List (List Byte)) (s : State), s.mon.waiting = line :: rest → (s.monOpen =
   true ∧ s.instants = true) → lineCmd line = some .status → (wordsOf line).drop 1 = [] → ∃ s', exec (.monStatus t)
   s = .next s' ∧ s'.mon.waiting = rest ∧ s'.mon.answer = ⟨MonCmd.status.num, 0, (s.advance t).showRegs [rMcMode,
   rLmStat, rLmOwner, rMcInhibit, rTbStat, rMcBoottime, rMcRestart]⟩ ∧ s'.mon.session = s.mon.session ∧
   s'.mon.transfer = s.mon.transfer ∧ sameBut [.mon] (s.advance t) s') ∧
  (∀ (t : Nat) (line : List Byte) (rest : List (List Byte)) (s : State), s.mon.waiting = line :: rest → (s.monOpen =
   true ∧ s.instants = true) → lineCmd line = some .log → (wordsOf line).drop 1 = [] → ∃ s', exec (.monLog t) s =
   .next s' ∧ s'.mon.waiting = rest ∧ s'.mon.answer = ⟨MonCmd.log.num, 0, (s.log.entries.drop (s.log.entries.length
   - 20)).map (fun x => (x.seq, leNat (entryBytes x)))⟩ ∧ s'.mon.session = s.mon.session ∧ s'.mon.transfer =
   s.mon.transfer ∧ sameBut [.mon] (s.advance t) s') ∧
  (∀ (t : Nat) (line : List Byte) (rest : List (List Byte)) (w v : List Byte) (a n : Nat) (s : State), s.mon.waiting
   = line :: rest → (s.monOpen = true ∧ s.instants = true) → lineCmd line = some .reg → ((wordsOf line).drop 1 = [w,
   v] ∧ numberOf w = some a ∧ numberOf v = some n) → (1 ≤ n ∧ n ≤ 64 ∧ a % 4 = 0 ∧ 0xE0000000 ≤ a ∧ a + 4 * n ≤
   0xE0110000) → ∃ s', exec (.monReg t) s = .next s' ∧ s'.mon.waiting = rest ∧ s'.mon.answer = ⟨MonCmd.reg.num, 0,
   (List.range n).map (fun k => (a + 4 * k, ((s.advance t).readReg s.monMast .c (a + 4 * k)).toNat))⟩ ∧
   s'.mon.session = s.mon.session ∧ s'.mon.transfer = s.mon.transfer ∧ sameBut [.mon] (s.advance t) s') ∧
  (∀ (t : Nat) (line : List Byte) (rest : List (List Byte)) (s : State), s.mon.waiting = line :: rest → (s.monOpen =
   true ∧ s.instants = true) → lineCmd line = some .io → (wordsOf line).drop 1 = [] → ∃ s', exec (.monIo t) s =
   .next s' ∧ s'.mon.waiting = rest ∧ s'.mon.answer = ⟨MonCmd.io.num, 0, (s.advance t).showRegs (regsIn 0xE0080000
   0xE008FFFF)⟩ ∧ s'.mon.session = s.mon.session ∧ s'.mon.transfer = s.mon.transfer ∧ sameBut [.mon] (s.advance t)
   s') ∧
  (∀ (t : Nat) (line : List Byte) (rest : List (List Byte)) (w : List Byte) (b : Nat) (s : State), s.mon.waiting =
   line :: rest → (s.monOpen = true ∧ s.instants = true) → lineCmd line = some .bus → ((wordsOf line).drop 1 = [w] ∧
   numberOf w = some b ∧ b < 2) → ∃ s', exec (.monBus t) s = .next s' ∧ s'.mon.waiting = rest ∧ s'.mon.answer =
   ⟨MonCmd.bus.num, 0, (s.advance t).showRegs (regsIn (0xE0060000 + 0x800 * b) (0xE00607FF + 0x800 * b))⟩ ∧
   s'.mon.session = s.mon.session ∧ s'.mon.transfer = s.mon.transfer ∧ sameBut [.mon] (s.advance t) s') ∧
  (∀ (t : Nat) (line : List Byte) (rest : List (List Byte)) (w : List Byte) (p : Nat) (s : State), s.mon.waiting =
   line :: rest → (s.monOpen = true ∧ s.instants = true) → lineCmd line = some .net → ((wordsOf line).drop 1 = [w] ∧
   numberOf w = some p ∧ 1 ≤ p ∧ p ≤ 4) → ∃ s', exec (.monNet t) s = .next s' ∧ s'.mon.waiting = rest ∧
   s'.mon.answer = ⟨MonCmd.net.num, 0, (s.advance t).showRegs (regsIn (0xE0050000 + 0x1000 * (p - 1)) (0xE0050FFF +
   0x1000 * (p - 1)))⟩ ∧ s'.mon.session = s.mon.session ∧ s'.mon.transfer = s.mon.transfer ∧ sameBut [.mon]
   (s.advance t) s') ∧
  (∀ (t : Nat) (line : List Byte) (rest : List (List Byte)) (s : State), s.mon.waiting = line :: rest → (s.monOpen =
   true ∧ s.instants = true) → lineCmd line = some .time → (wordsOf line).drop 1 = [] → ∃ s', exec (.monTime t) s =
   .next s' ∧ s'.mon.waiting = rest ∧ s'.mon.answer = ⟨MonCmd.time.num, 0, (s.advance t).showRegs (regsIn 0xE0040000
   0xE004FFFF ++ [rSlTimeofs])⟩ ∧ s'.mon.session = s.mon.session ∧ s'.mon.transfer = s.mon.transfer ∧ sameBut [.mon]
   (s.advance t) s') ∧
  (∀ (t : Nat) (line : List Byte) (rest : List (List Byte)) (s : State), s.mon.waiting = line :: rest → (s.monOpen =
   true ∧ s.instants = true) → lineCmd line = some .sup → (wordsOf line).drop 1 = [] → ∃ s', exec (.monSup t) s =
   .next s' ∧ s'.mon.waiting = rest ∧ s'.mon.answer = ⟨MonCmd.sup.num, 0, (s.advance t).showRegs (regsIn 0xE0090000
   0xE009FFFF) ++ [(0, leNat s.sup.record)]⟩ ∧ s'.mon.session = s.mon.session ∧ s'.mon.transfer = s.mon.transfer ∧
   sameBut [.mon] (s.advance t) s') ∧
  (∀ (t : Nat) (line : List Byte) (rest : List (List Byte)) (s : State), s.mon.waiting = line :: rest → (s.monOpen =
   true ∧ s.instants = true) → lineCmd line = some .mem → (wordsOf line).drop 1 = [] → ∃ s', exec (.monMem t) s =
   .next s' ∧ s'.mon.waiting = rest ∧ s'.mon.answer = ⟨MonCmd.mem.num, 0, (s.advance t).showRegs (regsIn 0xE0030000
   0xE003FFFF ++ [rTdTempall])⟩ ∧ s'.mon.session = s.mon.session ∧ s'.mon.transfer = s.mon.transfer ∧ sameBut [.mon]
   (s.advance t) s') ∧
  (∀ (t : Nat) (line : List Byte) (rest : List (List Byte)) (s : State), s.mon.waiting = line :: rest → (s.monOpen =
   true ∧ s.instants = true) → lineCmd line = some .keys → (wordsOf line).drop 1 = [] → ∃ s', exec (.monKeys t) s =
   .next s' ∧ s'.mon.waiting = rest ∧ s'.mon.answer = ⟨MonCmd.keys.num, 0, (s.advance t).showRegs [rUpKeystat]⟩ ∧
   s'.mon.session = s.mon.session ∧ s'.mon.transfer = s.mon.transfer ∧ sameBut [.mon] (s.advance t) s') ∧
  (∀ (t : Nat) (line : List Byte) (rest : List (List Byte)) (w : List Byte) (s : State), s.mon.waiting = line ::
   rest → (s.monOpen = true ∧ s.instants = true) → lineCmd line = some .help → ((wordsOf line).drop 1 = [w] ∧
   MonCmd.all.any (fun c => c.num == wordNum w) = true) → ∃ s', exec (.monHelp t) s = .next s' ∧ s'.mon.waiting =
   rest ∧ s'.mon.answer = ⟨MonCmd.help.num, 0, [(wordNum w, 0)]⟩ ∧ s'.mon.session = s.mon.session ∧ s'.mon.transfer
   = s.mon.transfer ∧ sameBut [.mon] (s.advance t) s') ∧
  (∀ (t : Nat) (line : List Byte) (rest : List (List Byte)) (w : List Byte) (n : Nat) (s : State), s.mon.waiting =
   line :: rest → (s.monOpen = true ∧ s.instants = true) → lineCmd line = some .log → ((wordsOf line).drop 1 = [w] ∧
   numberOf w = some n ∧ 1 ≤ n ∧ n ≤ 4096) → ∃ s', exec (.monLog t) s = .next s' ∧ s'.mon.waiting = rest ∧
   s'.mon.answer = ⟨MonCmd.log.num, 0, (s.log.entries.drop (s.log.entries.length - n)).map (fun x => (x.seq, leNat
   (entryBytes x)))⟩ ∧ s'.mon.session = s.mon.session ∧ s'.mon.transfer = s.mon.transfer ∧ sameBut [.mon] (s.advance
   t) s') ∧
  (∀ (t : Nat) (line : List Byte) (rest : List (List Byte)) (w y : List Byte) (n : Nat) (s : State), s.mon.waiting =
   line :: rest → (s.monOpen = true ∧ s.instants = true) → lineCmd line = some .log → ((wordsOf line).drop 1 = [w,
   y] ∧ wordNum w = txtFrom ∧ numberOf w = none ∧ numberOf y = some n) → ∃ s', exec (.monLog t) s = .next s' ∧
   s'.mon.waiting = rest ∧ s'.mon.answer = ⟨MonCmd.log.num, 0, (s.log.entries.filter (fun x => decide (n ≤
   x.seq))).map (fun x => (x.seq, leNat (entryBytes x)))⟩ ∧ s'.mon.session = s.mon.session ∧ s'.mon.transfer =
   s.mon.transfer ∧ sameBut [.mon] (s.advance t) s') ∧
  (∀ (t : Nat) (line : List Byte) (rest : List (List Byte)) (w : List Byte) (a : Nat) (s : State), s.mon.waiting =
   line :: rest → (s.monOpen = true ∧ s.instants = true) → lineCmd line = some .reg → ((wordsOf line).drop 1 = [w] ∧
   numberOf w = some a ∧ a % 4 = 0 ∧ 0xE0000000 ≤ a ∧ a + 4 ≤ 0xE0110000) → ∃ s', exec (.monReg t) s = .next s' ∧
   s'.mon.waiting = rest ∧ s'.mon.answer = ⟨MonCmd.reg.num, 0, [(a, ((s.advance t).readReg s.monMast .c a).toNat)]⟩
   ∧ s'.mon.session = s.mon.session ∧ s'.mon.transfer = s.mon.transfer ∧ sameBut [.mon] (s.advance t) s') ∧
  (∀ (t : Nat) (line : List Byte) (rest : List (List Byte)) (s : State), s.mon.waiting = line :: rest → (s.monOpen =
   true ∧ s.instants = true) → lineCmd line = some .id → (wordsOf line).drop 1 ≠ [] → ∃ s', exec (.monId t) s =
   .next s' ∧ s'.mon.waiting = rest ∧ s'.mon.answer = ⟨MonCmd.id.num, 2, []⟩ ∧ s'.mon.session = s.mon.session ∧
   s'.mon.transfer = s.mon.transfer ∧ sameBut [.mon] (s.advance t) s') ∧
  (∀ (t : Nat) (line : List Byte) (rest : List (List Byte)) (s : State), s.mon.waiting = line :: rest → (s.monOpen =
   true ∧ s.instants = true) → lineCmd line = some .status → (wordsOf line).drop 1 ≠ [] → ∃ s', exec (.monStatus t)
   s = .next s' ∧ s'.mon.waiting = rest ∧ s'.mon.answer = ⟨MonCmd.status.num, 2, []⟩ ∧ s'.mon.session =
   s.mon.session ∧ s'.mon.transfer = s.mon.transfer ∧ sameBut [.mon] (s.advance t) s') ∧
  (∀ (t : Nat) (line : List Byte) (rest : List (List Byte)) (s : State), s.mon.waiting = line :: rest → (s.monOpen =
   true ∧ s.instants = true) → lineCmd line = some .io → (wordsOf line).drop 1 ≠ [] → ∃ s', exec (.monIo t) s =
   .next s' ∧ s'.mon.waiting = rest ∧ s'.mon.answer = ⟨MonCmd.io.num, 2, []⟩ ∧ s'.mon.session = s.mon.session ∧
   s'.mon.transfer = s.mon.transfer ∧ sameBut [.mon] (s.advance t) s') ∧
  (∀ (t : Nat) (line : List Byte) (rest : List (List Byte)) (s : State), s.mon.waiting = line :: rest → (s.monOpen =
   true ∧ s.instants = true) → lineCmd line = some .time → (wordsOf line).drop 1 ≠ [] → ∃ s', exec (.monTime t) s =
   .next s' ∧ s'.mon.waiting = rest ∧ s'.mon.answer = ⟨MonCmd.time.num, 2, []⟩ ∧ s'.mon.session = s.mon.session ∧
   s'.mon.transfer = s.mon.transfer ∧ sameBut [.mon] (s.advance t) s') ∧
  (∀ (t : Nat) (line : List Byte) (rest : List (List Byte)) (s : State), s.mon.waiting = line :: rest → (s.monOpen =
   true ∧ s.instants = true) → lineCmd line = some .sup → (wordsOf line).drop 1 ≠ [] → ∃ s', exec (.monSup t) s =
   .next s' ∧ s'.mon.waiting = rest ∧ s'.mon.answer = ⟨MonCmd.sup.num, 2, []⟩ ∧ s'.mon.session = s.mon.session ∧
   s'.mon.transfer = s.mon.transfer ∧ sameBut [.mon] (s.advance t) s') ∧
  (∀ (t : Nat) (line : List Byte) (rest : List (List Byte)) (s : State), s.mon.waiting = line :: rest → (s.monOpen =
   true ∧ s.instants = true) → lineCmd line = some .mem → (wordsOf line).drop 1 ≠ [] → ∃ s', exec (.monMem t) s =
   .next s' ∧ s'.mon.waiting = rest ∧ s'.mon.answer = ⟨MonCmd.mem.num, 2, []⟩ ∧ s'.mon.session = s.mon.session ∧
   s'.mon.transfer = s.mon.transfer ∧ sameBut [.mon] (s.advance t) s') ∧
  (∀ (t : Nat) (line : List Byte) (rest : List (List Byte)) (s : State), s.mon.waiting = line :: rest → (s.monOpen =
   true ∧ s.instants = true) → lineCmd line = some .keys → (wordsOf line).drop 1 ≠ [] → ∃ s', exec (.monKeys t) s =
   .next s' ∧ s'.mon.waiting = rest ∧ s'.mon.answer = ⟨MonCmd.keys.num, 2, []⟩ ∧ s'.mon.session = s.mon.session ∧
   s'.mon.transfer = s.mon.transfer ∧ sameBut [.mon] (s.advance t) s') ∧
  (∀ (t : Nat) (line : List Byte) (rest : List (List Byte)) (s : State), s.mon.waiting = line :: rest → (s.monOpen =
   true ∧ s.instants = true) → lineCmd line = some .reg → (wordsOf line).drop 1 = [] → ∃ s', exec (.monReg t) s =
   .next s' ∧ s'.mon.waiting = rest ∧ s'.mon.answer = ⟨MonCmd.reg.num, 2, []⟩ ∧ s'.mon.session = s.mon.session ∧
   s'.mon.transfer = s.mon.transfer ∧ sameBut [.mon] (s.advance t) s') ∧
  (∀ (t : Nat) (line : List Byte) (rest : List (List Byte)) (s : State), s.mon.waiting = line :: rest → (s.monOpen =
   true ∧ s.instants = true) → lineCmd line = some .bus → (wordsOf line).drop 1 = [] → ∃ s', exec (.monBus t) s =
   .next s' ∧ s'.mon.waiting = rest ∧ s'.mon.answer = ⟨MonCmd.bus.num, 2, []⟩ ∧ s'.mon.session = s.mon.session ∧
   s'.mon.transfer = s.mon.transfer ∧ sameBut [.mon] (s.advance t) s') ∧
  (∀ (t : Nat) (line : List Byte) (rest : List (List Byte)) (s : State), s.mon.waiting = line :: rest → (s.monOpen =
   true ∧ s.instants = true) → lineCmd line = some .net → (wordsOf line).drop 1 = [] → ∃ s', exec (.monNet t) s =
   .next s' ∧ s'.mon.waiting = rest ∧ s'.mon.answer = ⟨MonCmd.net.num, 2, []⟩ ∧ s'.mon.session = s.mon.session ∧
   s'.mon.transfer = s.mon.transfer ∧ sameBut [.mon] (s.advance t) s')

/-- For every state with a session open, at least two voting masts and a waiting line that is start, stop, hold, resume,
standby, service, leave or reset: (monStart, monStop, monHold, monResume, monStandby, monService, monLeave,
monReset) in a mode that lists the command and under the conditions of the register command the monitor does what
that command does, answers OK and raises MON_COMMAND with result 0 (the reset ends in BOOT; standby is refused where
no two checkpoints agree); without a session the answer is ERR 3 and nothing but the answer changes; in a mode that
does not list the command it is ERR 4 and the mode stays. Completion: for every state and operands that meet the
stated conditions on them alone, exec answers the next state of the own effect of monStart (MON_START), monStop
(MON_STOP), monHold (MON_HOLD), monResume (MON_RESUME), monStandby (MON_STANDBY), monService (MON_SERVICE), monLeave
(MON_LEAVE), monReset (MON_RESET). -/
def Obligations.MonitorModeCommands : Prop :=
  (∀ (t : Nat) (line : List Byte) (rest : List (List Byte)) (s : State), s.mon.waiting = line :: rest → (s.monOpen =
   true ∧ s.instants = true) → lineCmd line = some .start → (wordsOf line).drop 1 = [] → s.mon.session.isSome = true
   → s.agreed s.lane.active = true → s.ctl.mode = .stop → s.inhibits = 0 → ∃ s', exec (.monStart t) s = .next s' ∧
   s'.ctl.mode = .run ∧ s'.app.run = .running ∧ s'.mon.waiting = rest ∧ s'.mon.answer = ⟨MonCmd.start.num, 0, []⟩ ∧
   raised s' s.lane.active.mask evMonCommand (MonCmd.start.num % 2 ^ 32) 0) ∧
  (∀ (t : Nat) (line : List Byte) (rest : List (List Byte)) (s : State), s.mon.waiting = line :: rest → (s.monOpen =
   true ∧ s.instants = true) → lineCmd line = some .stop → (wordsOf line).drop 1 = [] → s.mon.session.isSome = true
   → s.agreed s.lane.active = true → (s.ctl.mode = .run ∨ s.ctl.mode = .hold) → ∃ s', exec (.monStop t) s = .next s'
   ∧ s'.ctl.mode = .stop ∧ s'.getF .agreed fMcStopcauseCause = 2 ∧ s'.mon.waiting = rest ∧ s'.mon.answer =
   ⟨MonCmd.stop.num, 0, []⟩ ∧ raised s' s.lane.active.mask evMonCommand (MonCmd.stop.num % 2 ^ 32) 0) ∧
  (∀ (t : Nat) (line : List Byte) (rest : List (List Byte)) (s : State), s.mon.waiting = line :: rest → (s.monOpen =
   true ∧ s.instants = true) → lineCmd line = some .hold → (wordsOf line).drop 1 = [] → s.mon.session.isSome = true
   → s.agreed s.lane.active = true → s.ctl.mode = .run → (s.getF .agreed fMcCtrlHoldPermit = 1 ∧ s.getF .agreed
   fSpStatZero = 1) → ∃ s', exec (.monHold t) s = .next s' ∧ s'.ctl.mode = .hold ∧ s'.mon.waiting = rest ∧
   s'.mon.answer = ⟨MonCmd.hold.num, 0, []⟩ ∧ raised s' s.lane.active.mask evMonCommand (MonCmd.hold.num % 2 ^ 32) 0) ∧
  (∀ (t : Nat) (line : List Byte) (rest : List (List Byte)) (s : State), s.mon.waiting = line :: rest → (s.monOpen =
   true ∧ s.instants = true) → lineCmd line = some .resume → (wordsOf line).drop 1 = [] → s.mon.session.isSome =
   true → s.agreed s.lane.active = true → s.ctl.mode = .hold → ∃ s', exec (.monResume t) s = .next s' ∧ s'.ctl.mode
   = .run ∧ s'.app.run = .running ∧ s'.mon.waiting = rest ∧ s'.mon.answer = ⟨MonCmd.resume.num, 0, []⟩ ∧ raised s'
   s.lane.active.mask evMonCommand (MonCmd.resume.num % 2 ^ 32) 0) ∧
  (∀ (t : Nat) (line : List Byte) (rest : List (List Byte)) (s : State), s.mon.waiting = line :: rest → (s.monOpen =
   true ∧ s.instants = true) → lineCmd line = some .standby → (wordsOf line).drop 1 = [] → s.mon.session.isSome =
   true → s.agreed s.lane.active = true → s.ctl.mode = .stop → s.standbyOk = true → ∃ s', exec (.monStandby t) s =
   .next s' ∧ (s'.ctl.mode = .standby ∨ raised s' s.lane.active.mask evStandbyRefused 1 0) ∧ s'.mon.answer.word =
   MonCmd.standby.num ∧ s'.ctl.on = true) ∧
  (∀ (t : Nat) (line : List Byte) (rest : List (List Byte)) (s : State), s.mon.waiting = line :: rest → (s.monOpen =
   true ∧ s.instants = true) → lineCmd line = some .service → (wordsOf line).drop 1 = [] → s.mon.session.isSome =
   true → s.agreed s.lane.active = true → s.ctl.mode = .stop → ∃ s', exec (.monService t) s = .next s' ∧ s'.ctl.mode
   = .service ∧ s'.mon.waiting = rest ∧ s'.mon.answer = ⟨MonCmd.service.num, 0, []⟩ ∧ raised s' s.lane.active.mask
   evMonCommand (MonCmd.service.num % 2 ^ 32) 0) ∧
  (∀ (t : Nat) (line : List Byte) (rest : List (List Byte)) (s : State), s.mon.waiting = line :: rest → (s.monOpen =
   true ∧ s.instants = true) → lineCmd line = some .leave → (wordsOf line).drop 1 = [] → s.mon.session.isSome = true
   → s.agreed s.lane.active = true → s.ctl.mode = .service → ∃ s', exec (.monLeave t) s = .next s' ∧ s'.ctl.mode =
   .stop ∧ s'.getF .agreed fMcStopcauseCause = 7 ∧ s'.mon.waiting = rest ∧ s'.mon.answer = ⟨MonCmd.leave.num, 0, []⟩
   ∧ raised s' s.lane.active.mask evMonCommand (MonCmd.leave.num % 2 ^ 32) 0) ∧
  (∀ (t : Nat) (env : BootEnv) (line : List Byte) (rest : List (List Byte)) (s : State), s.mon.waiting = line ::
   rest → (s.monOpen = true ∧ s.instants = true) → lineCmd line = some .reset → (wordsOf line).drop 1 = [] →
   s.mon.session.isSome = true → s.agreed s.lane.active = true → (s.ctl.mode = .stop ∨ s.ctl.mode = .service) → ∃
   s', exec (.monReset t env) s = .next s' ∧ ∃ u : State, s' = u.bootRun env ∧ u.ctl.mode = .boot ∧ u.ctl.bootFrom =
   max s.now t ∧ u.getF .agreed fMcRstcauseSoftware = 1) ∧
  (∀ (t : Nat) (line : List Byte) (rest : List (List Byte)) (w : List Byte) (s : State), s.mon.waiting = line ::
   rest → (s.monOpen = true ∧ s.instants = true) → lineCmd line = some .start → ((wordsOf line).drop 1 = [w] ∧
   wordNum w = txtCold) → s.mon.session.isSome = true → s.agreed s.lane.active = true → s.ctl.mode = .stop →
   s.inhibits = 0 → ∃ s', exec (.monStart t) s = .next s' ∧ s'.ctl.mode = .run ∧ s'.app.run = .running ∧
   s'.app.changes = [] ∧ s'.mon.waiting = rest ∧ s'.mon.answer = ⟨MonCmd.start.num, 0, []⟩ ∧ raised s'
   s.lane.active.mask evMonCommand (MonCmd.start.num % 2 ^ 32) 0) ∧
  (∀ (t : Nat) (line : List Byte) (rest : List (List Byte)) (s : State), s.mon.waiting = line :: rest → (s.monOpen =
   true ∧ s.instants = true) → lineCmd line = some .start → s.mon.session = none → ∃ s', exec (.monStart t) s =
   .next s' ∧ s'.mon.waiting = rest ∧ s'.mon.answer = ⟨MonCmd.start.num, 3, []⟩ ∧ raised s' s.lane.active.mask
   evMonCommand (MonCmd.start.num % 2 ^ 32) 3 ∧ s'.mon.session = none ∧ sameBut [.mon, .log] (s.advance t) s') ∧
  (∀ (t : Nat) (line : List Byte) (rest : List (List Byte)) (s : State), s.mon.waiting = line :: rest → (s.monOpen =
   true ∧ s.instants = true) → lineCmd line = some .stop → s.mon.session = none → ∃ s', exec (.monStop t) s = .next
   s' ∧ s'.mon.waiting = rest ∧ s'.mon.answer = ⟨MonCmd.stop.num, 3, []⟩ ∧ raised s' s.lane.active.mask evMonCommand
   (MonCmd.stop.num % 2 ^ 32) 3 ∧ s'.mon.session = none ∧ sameBut [.mon, .log] (s.advance t) s') ∧
  (∀ (t : Nat) (line : List Byte) (rest : List (List Byte)) (s : State), s.mon.waiting = line :: rest → (s.monOpen =
   true ∧ s.instants = true) → lineCmd line = some .hold → s.mon.session = none → ∃ s', exec (.monHold t) s = .next
   s' ∧ s'.mon.waiting = rest ∧ s'.mon.answer = ⟨MonCmd.hold.num, 3, []⟩ ∧ raised s' s.lane.active.mask evMonCommand
   (MonCmd.hold.num % 2 ^ 32) 3 ∧ s'.mon.session = none ∧ sameBut [.mon, .log] (s.advance t) s') ∧
  (∀ (t : Nat) (line : List Byte) (rest : List (List Byte)) (s : State), s.mon.waiting = line :: rest → (s.monOpen =
   true ∧ s.instants = true) → lineCmd line = some .resume → s.mon.session = none → ∃ s', exec (.monResume t) s =
   .next s' ∧ s'.mon.waiting = rest ∧ s'.mon.answer = ⟨MonCmd.resume.num, 3, []⟩ ∧ raised s' s.lane.active.mask
   evMonCommand (MonCmd.resume.num % 2 ^ 32) 3 ∧ s'.mon.session = none ∧ sameBut [.mon, .log] (s.advance t) s') ∧
  (∀ (t : Nat) (line : List Byte) (rest : List (List Byte)) (s : State), s.mon.waiting = line :: rest → (s.monOpen =
   true ∧ s.instants = true) → lineCmd line = some .standby → s.mon.session = none → ∃ s', exec (.monStandby t) s =
   .next s' ∧ s'.mon.waiting = rest ∧ s'.mon.answer = ⟨MonCmd.standby.num, 3, []⟩ ∧ raised s' s.lane.active.mask
   evMonCommand (MonCmd.standby.num % 2 ^ 32) 3 ∧ s'.mon.session = none ∧ sameBut [.mon, .log] (s.advance t) s') ∧
  (∀ (t : Nat) (line : List Byte) (rest : List (List Byte)) (s : State), s.mon.waiting = line :: rest → (s.monOpen =
   true ∧ s.instants = true) → lineCmd line = some .service → s.mon.session = none → ∃ s', exec (.monService t) s =
   .next s' ∧ s'.mon.waiting = rest ∧ s'.mon.answer = ⟨MonCmd.service.num, 3, []⟩ ∧ raised s' s.lane.active.mask
   evMonCommand (MonCmd.service.num % 2 ^ 32) 3 ∧ s'.mon.session = none ∧ sameBut [.mon, .log] (s.advance t) s') ∧
  (∀ (t : Nat) (line : List Byte) (rest : List (List Byte)) (s : State), s.mon.waiting = line :: rest → (s.monOpen =
   true ∧ s.instants = true) → lineCmd line = some .leave → s.mon.session = none → ∃ s', exec (.monLeave t) s =
   .next s' ∧ s'.mon.waiting = rest ∧ s'.mon.answer = ⟨MonCmd.leave.num, 3, []⟩ ∧ raised s' s.lane.active.mask
   evMonCommand (MonCmd.leave.num % 2 ^ 32) 3 ∧ s'.mon.session = none ∧ sameBut [.mon, .log] (s.advance t) s') ∧
  (∀ (t : Nat) (env : BootEnv) (line : List Byte) (rest : List (List Byte)) (s : State), s.mon.waiting = line ::
   rest → (s.monOpen = true ∧ s.instants = true) → lineCmd line = some .reset → s.mon.session = none → ∃ s', exec
   (.monReset t env) s = .next s' ∧ s'.mon.waiting = rest ∧ s'.mon.answer = ⟨MonCmd.reset.num, 3, []⟩ ∧ raised s'
   s.lane.active.mask evMonCommand (MonCmd.reset.num % 2 ^ 32) 3 ∧ s'.mon.session = none ∧ sameBut [.mon, .log]
   (s.advance t) s') ∧
  (∀ (t : Nat) (line : List Byte) (rest : List (List Byte)) (s : State), s.mon.waiting = line :: rest → (s.monOpen =
   true ∧ s.instants = true) → lineCmd line = some .start → (wordsOf line).drop 1 = [] → s.mon.session.isSome = true
   → s.agreed s.lane.active = true → s.ctl.mode ≠ .stop → ∃ s', exec (.monStart t) s = .next s' ∧ s'.mon.waiting =
   rest ∧ s'.mon.answer = ⟨MonCmd.start.num, 4, []⟩ ∧ raised s' s.lane.active.mask evMonCommand (MonCmd.start.num %
   2 ^ 32) 4 ∧ s'.ctl = s.ctl ∧ s'.app = s.app ∧ sameBut [.mon, .regs, .log] (s.advance t) s') ∧
  (∀ (t : Nat) (line : List Byte) (rest : List (List Byte)) (s : State), s.mon.waiting = line :: rest → (s.monOpen =
   true ∧ s.instants = true) → lineCmd line = some .stop → (wordsOf line).drop 1 = [] → s.mon.session.isSome = true
   → s.agreed s.lane.active = true → (s.ctl.mode ≠ .run ∧ s.ctl.mode ≠ .hold) → ∃ s', exec (.monStop t) s = .next s'
   ∧ s'.mon.waiting = rest ∧ s'.mon.answer = ⟨MonCmd.stop.num, 4, []⟩ ∧ raised s' s.lane.active.mask evMonCommand
   (MonCmd.stop.num % 2 ^ 32) 4 ∧ s'.ctl = s.ctl ∧ s'.app = s.app ∧ sameBut [.mon, .regs, .log] (s.advance t) s') ∧
  (∀ (t : Nat) (line : List Byte) (rest : List (List Byte)) (s : State), s.mon.waiting = line :: rest → (s.monOpen =
   true ∧ s.instants = true) → lineCmd line = some .hold → (wordsOf line).drop 1 = [] → s.mon.session.isSome = true
   → s.agreed s.lane.active = true → s.ctl.mode ≠ .run → ∃ s', exec (.monHold t) s = .next s' ∧ s'.mon.waiting =
   rest ∧ s'.mon.answer = ⟨MonCmd.hold.num, 4, []⟩ ∧ raised s' s.lane.active.mask evMonCommand (MonCmd.hold.num % 2
   ^ 32) 4 ∧ s'.ctl = s.ctl ∧ s'.app = s.app ∧ sameBut [.mon, .regs, .log] (s.advance t) s') ∧
  (∀ (t : Nat) (line : List Byte) (rest : List (List Byte)) (s : State), s.mon.waiting = line :: rest → (s.monOpen =
   true ∧ s.instants = true) → lineCmd line = some .resume → (wordsOf line).drop 1 = [] → s.mon.session.isSome =
   true → s.agreed s.lane.active = true → s.ctl.mode ≠ .hold → ∃ s', exec (.monResume t) s = .next s' ∧
   s'.mon.waiting = rest ∧ s'.mon.answer = ⟨MonCmd.resume.num, 4, []⟩ ∧ raised s' s.lane.active.mask evMonCommand
   (MonCmd.resume.num % 2 ^ 32) 4 ∧ s'.ctl = s.ctl ∧ s'.app = s.app ∧ sameBut [.mon, .regs, .log] (s.advance t) s') ∧
  (∀ (t : Nat) (line : List Byte) (rest : List (List Byte)) (s : State), s.mon.waiting = line :: rest → (s.monOpen =
   true ∧ s.instants = true) → lineCmd line = some .standby → (wordsOf line).drop 1 = [] → s.mon.session.isSome =
   true → s.agreed s.lane.active = true → (s.ctl.mode ≠ .stop ∧ s.ctl.mode ≠ .run) → ∃ s', exec (.monStandby t) s =
   .next s' ∧ s'.mon.waiting = rest ∧ s'.mon.answer = ⟨MonCmd.standby.num, 4, []⟩ ∧ raised s' s.lane.active.mask
   evMonCommand (MonCmd.standby.num % 2 ^ 32) 4 ∧ s'.ctl = s.ctl ∧ s'.app = s.app ∧ sameBut [.mon, .regs, .log]
   (s.advance t) s') ∧
  (∀ (t : Nat) (line : List Byte) (rest : List (List Byte)) (s : State), s.mon.waiting = line :: rest → (s.monOpen =
   true ∧ s.instants = true) → lineCmd line = some .service → (wordsOf line).drop 1 = [] → s.mon.session.isSome =
   true → s.agreed s.lane.active = true → s.ctl.mode ≠ .stop → ∃ s', exec (.monService t) s = .next s' ∧
   s'.mon.waiting = rest ∧ s'.mon.answer = ⟨MonCmd.service.num, 4, []⟩ ∧ raised s' s.lane.active.mask evMonCommand
   (MonCmd.service.num % 2 ^ 32) 4 ∧ s'.ctl = s.ctl ∧ s'.app = s.app ∧ sameBut [.mon, .regs, .log] (s.advance t) s') ∧
  (∀ (t : Nat) (line : List Byte) (rest : List (List Byte)) (s : State), s.mon.waiting = line :: rest → (s.monOpen =
   true ∧ s.instants = true) → lineCmd line = some .leave → (wordsOf line).drop 1 = [] → s.mon.session.isSome = true
   → s.agreed s.lane.active = true → s.ctl.mode ≠ .service → ∃ s', exec (.monLeave t) s = .next s' ∧ s'.mon.waiting
   = rest ∧ s'.mon.answer = ⟨MonCmd.leave.num, 4, []⟩ ∧ raised s' s.lane.active.mask evMonCommand (MonCmd.leave.num
   % 2 ^ 32) 4 ∧ s'.ctl = s.ctl ∧ s'.app = s.app ∧ sameBut [.mon, .regs, .log] (s.advance t) s') ∧
  (∀ (t : Nat) (line : List Byte) (rest : List (List Byte)) (s : State), s.mon.waiting = line :: rest → (s.monOpen =
   true ∧ s.instants = true) → lineCmd line = some .hold → (wordsOf line).drop 1 = [] → s.mon.session.isSome = true
   → s.agreed s.lane.active = true → s.ctl.mode = .run → s.getF .agreed fMcCtrlHoldPermit = 0 → ∃ s', exec (.monHold
   t) s = .next s' ∧ s'.ctl.mode = .run ∧ s'.mon.waiting = rest ∧ s'.mon.answer.result = 5)

/-- For every state with a session open, at least two voting masts and a waiting line that is force, unforce, set, out,
bustest, inject, step, silclr, syslog, update, activate, abort, confirm or key (monForce, monUnforce, monSet,
monOut, monBustest, monInject, monStep, monSilclr, monSyslog, monUpdate, monActivate, monAbort, monConfirm, monKey)
with the arguments R421 allows, in the mode it requires: the monitor does what the matching register commands do,
answers OK and raises MON_COMMAND with result 0 (update and key prog await a file and answer at its end; activate
ends in BOOT). Without a session each is answered ERR 3, and one of access V outside SERVICE ERR 4, with no other
effect. Completion: for every state and operands that meet the stated conditions on them alone, exec answers the
next state of the own effect of monForce (MON_FORCE), monUnforce (MON_UNFORCE), monSet (MON_SET), monOut (MON_OUT),
monBustest (MON_BUSTEST), monInject (MON_INJECT), monStep (MON_STEP), monSilclr (MON_SILCLR), monSyslog
(MON_SYSLOG), monUpdate (MON_UPDATE), monActivate (MON_ACTIVATE), monAbort (MON_ABORT), monConfirm (MON_CONFIRM),
monKey (MON_KEY), monLogout (MON_LOGOUT). -/
def Obligations.MonitorSessionCommands : Prop :=
  (∀ (t : Nat) (line : List Byte) (rest : List (List Byte)) (w y : List Byte) (i : Nat) (v : Int) (s : State),
   s.mon.waiting = line :: rest → (s.monOpen = true ∧ s.instants = true) → lineCmd line = some .force → ((wordsOf
   line).drop 1 = [w, y] ∧ numberOf w = some i ∧ intOf y = some v) → s.mon.session.isSome = true → s.agreed
   s.lane.active = true → (s.ctl.mode = .stop ∨ s.ctl.mode = .run ∨ s.ctl.mode = .hold) → (s.app.valueStatus i v = 0
   ∧ (s.app.forced i = true ∨ s.app.forces.length < 256)) → ∃ s', exec (.monForce t) s = .next s' ∧ s'.app.forces =
   s.app.forces.filter (fun f => f.1 != i) ++ [(i, v)] ∧ raised s' s.lane.active.mask evForceSet i
   s'.app.forces.length ∧ s'.ctl = s.ctl ∧ raised s' s.lane.active.mask evMonCommand (MonCmd.force.num % 2 ^ 32) 0 ∧
   s'.mon.waiting = rest ∧ s'.mon.answer = ⟨MonCmd.force.num, 0, []⟩) ∧
  (∀ (t : Nat) (line : List Byte) (rest : List (List Byte)) (w : List Byte) (s : State), s.mon.waiting = line ::
   rest → (s.monOpen = true ∧ s.instants = true) → lineCmd line = some .unforce → ((wordsOf line).drop 1 = [w] ∧
   wordNum w = txtAll) → s.mon.session.isSome = true → s.agreed s.lane.active = true → (s.ctl.mode = .stop ∨
   s.ctl.mode = .run ∨ s.ctl.mode = .hold) → s.app.forces ≠ [] → ∃ s', exec (.monUnforce t) s = .next s' ∧ s'.app =
   { s.app with releases := s.app.releases ++ [(none, 1)] } ∧ raised s' s.lane.active.mask evMonCommand
   (MonCmd.unforce.num % 2 ^ 32) 0 ∧ sameBut [.mon, .app, .log] (s.advance t) s' ∧ s'.mon.waiting = rest ∧
   s'.mon.answer = ⟨MonCmd.unforce.num, 0, []⟩) ∧
  (∀ (t : Nat) (line : List Byte) (rest : List (List Byte)) (x : ChangeItem) (s : State), s.mon.waiting = line ::
   rest → (s.monOpen = true ∧ s.instants = true) → lineCmd line = some .set → s.mon.session.isSome = true → s.agreed
   s.lane.active = true → (s.ctl.mode = .run ∨ s.ctl.mode = .hold) → (s.app.desc.isSome = true ∧ s.app.changeItems
   ((wordsOf line).drop 1) = some [x]) → s.requestStatus true (fieldAt s.app.hash 0 8) [x] = (0, x.index) → ∃ s',
   exec (.monSet t) s = .next s' ∧ s'.app.changes = s.app.changes ++ [⟨[(x.index, x.value)], s.app.cycle + 1⟩] ∧
   raised s' s.lane.active.mask evMonCommand (MonCmd.set.num % 2 ^ 32) 0 ∧ regsBut [(.agreed, rMcOlc)] s s' ∧
   sameBut [.mon, .app, .regs, .log] (s.advance t) s' ∧ s'.mon.waiting = rest ∧ s'.mon.answer = ⟨MonCmd.set.num, 0,
   []⟩) ∧
  (∀ (t : Nat) (line : List Byte) (rest : List (List Byte)) (w : List Byte) (i : Nat) (s : State), s.mon.waiting =
   line :: rest → (s.monOpen = true ∧ s.instants = true) → lineCmd line = some .unforce → ((wordsOf line).drop 1 =
   [w] ∧ wordNum w ≠ txtAll ∧ numberOf w = some i) → s.mon.session.isSome = true → s.agreed s.lane.active = true →
   (s.ctl.mode = .stop ∨ s.ctl.mode = .run ∨ s.ctl.mode = .hold) → s.app.forced i = true → ∃ s', exec (.monUnforce
   t) s = .next s' ∧ s'.app = { s.app with releases := s.app.releases ++ [(some i, 1)] } ∧ raised s'
   s.lane.active.mask evMonCommand (MonCmd.unforce.num % 2 ^ 32) 0 ∧ sameBut [.mon, .app, .log] (s.advance t) s' ∧
   s'.mon.waiting = rest ∧ s'.mon.answer = ⟨MonCmd.unforce.num, 0, []⟩) ∧
  (∀ (t : Nat) (line : List Byte) (rest : List (List Byte)) (w y : List Byte) (o : Nat) (s : State), s.mon.waiting =
   line :: rest → (s.monOpen = true ∧ s.instants = true) → lineCmd line = some .out → ((wordsOf line).drop 1 = [w,
   y] ∧ numberOf w = some o ∧ 1 ≤ o ∧ o ≤ 24 ∧ wordNum y = txtOn) → s.mon.session.isSome = true → s.agreed
   s.lane.active = true → s.ctl.mode = .service → ∃ s', exec (.monOut t) s = .next s' ∧ s'.getF .agreed fFiSvcEnEn =
   withBit (s.getF .agreed fFiSvcEnEn) (o - 1) true ∧ s'.getF .agreed fFiSvcValVal = withBit (s.getF .agreed
   fFiSvcValVal) (o - 1) true ∧ raised s' s.lane.active.mask evMonCommand (MonCmd.out.num % 2 ^ 32) 0 ∧ regsBut
   [(.agreed, rFiSvcEn), (.agreed, rFiSvcVal)] s s' ∧ sameBut [.mon, .regs, .log] (s.advance t) s' ∧ s'.mon.waiting
   = rest ∧ s'.mon.answer = ⟨MonCmd.out.num, 0, []⟩) ∧
  (∀ (t : Nat) (line : List Byte) (rest : List (List Byte)) (w y : List Byte) (b : Nat) (s : State), s.mon.waiting =
   line :: rest → (s.monOpen = true ∧ s.instants = true) → lineCmd line = some .bustest → ((wordsOf line).drop 1 =
   [w, y] ∧ numberOf w = some b ∧ b < 2 ∧ wordNum y = txtOn) → s.mon.session.isSome = true → s.agreed s.lane.active
   = true → (s.ctl.mode = .service ∧ s.ctl.since < max s.now t ∧ (s.bus b).state = .normal) → ∃ s', exec
   (.monBustest t) s = .next s' ∧ (s'.bus b).state = .test ∧ raised s' s.lane.active.mask evFbState b 515 ∧ raised
   s' s.lane.active.mask evMonCommand (MonCmd.bustest.num % 2 ^ 32) 0 ∧ sameBut [.mon, .fb, .regs, .log] (s.advance
   t) s' ∧ s'.mon.waiting = rest ∧ s'.mon.answer = ⟨MonCmd.bustest.num, 0, []⟩) ∧
  (∀ (t : Nat) (line : List Byte) (rest : List (List Byte)) (w y : List Byte) (o : Nat) (s : State), s.mon.waiting =
   line :: rest → (s.monOpen = true ∧ s.instants = true) → lineCmd line = some .out → ((wordsOf line).drop 1 = [w,
   y] ∧ numberOf w = some o ∧ 1 ≤ o ∧ o ≤ 24 ∧ wordNum y = txtOff) → s.mon.session.isSome = true → s.agreed
   s.lane.active = true → s.ctl.mode = .service → ∃ s', exec (.monOut t) s = .next s' ∧ s'.getF .agreed fFiSvcEnEn =
   withBit (s.getF .agreed fFiSvcEnEn) (o - 1) true ∧ s'.getF .agreed fFiSvcValVal = withBit (s.getF .agreed
   fFiSvcValVal) (o - 1) false ∧ raised s' s.lane.active.mask evMonCommand (MonCmd.out.num % 2 ^ 32) 0 ∧ regsBut
   [(.agreed, rFiSvcEn), (.agreed, rFiSvcVal)] s s' ∧ sameBut [.mon, .regs, .log] (s.advance t) s' ∧ s'.mon.waiting
   = rest ∧ s'.mon.answer = ⟨MonCmd.out.num, 0, []⟩) ∧
  (∀ (t : Nat) (line : List Byte) (rest : List (List Byte)) (w y : List Byte) (o : Nat) (s : State), s.mon.waiting =
   line :: rest → (s.monOpen = true ∧ s.instants = true) → lineCmd line = some .out → ((wordsOf line).drop 1 = [w,
   y] ∧ numberOf w = some o ∧ 1 ≤ o ∧ o ≤ 24 ∧ wordNum y = txtFree) → s.mon.session.isSome = true → s.agreed
   s.lane.active = true → s.ctl.mode = .service → ∃ s', exec (.monOut t) s = .next s' ∧ s'.getF .agreed fFiSvcEnEn =
   withBit (s.getF .agreed fFiSvcEnEn) (o - 1) false ∧ s'.getF .agreed fFiSvcValVal = withBit (s.getF .agreed
   fFiSvcValVal) (o - 1) false ∧ raised s' s.lane.active.mask evMonCommand (MonCmd.out.num % 2 ^ 32) 0 ∧ regsBut
   [(.agreed, rFiSvcEn), (.agreed, rFiSvcVal)] s s' ∧ sameBut [.mon, .regs, .log] (s.advance t) s' ∧ s'.mon.waiting
   = rest ∧ s'.mon.answer = ⟨MonCmd.out.num, 0, []⟩) ∧
  (∀ (t : Nat) (line : List Byte) (rest : List (List Byte)) (w y : List Byte) (b : Nat) (s : State), s.mon.waiting =
   line :: rest → (s.monOpen = true ∧ s.instants = true) → lineCmd line = some .bustest → ((wordsOf line).drop 1 =
   [w, y] ∧ numberOf w = some b ∧ b < 2 ∧ wordNum y = txtOff) → s.mon.session.isSome = true → s.agreed s.lane.active
   = true → (s.ctl.mode = .service ∧ s.ctl.since < max s.now t ∧ (s.bus b).state = .test) → ∃ s', exec (.monBustest
   t) s = .next s' ∧ (s'.bus b).state = .recover ∧ raised s' s.lane.active.mask evMonCommand (MonCmd.bustest.num % 2
   ^ 32) 0 ∧ sameBut [.mon, .fb, .regs, .log] (s.advance t) s' ∧ s'.mon.waiting = rest ∧ s'.mon.answer =
   ⟨MonCmd.bustest.num, 0, []⟩) ∧
  (∀ (t : Nat) (line : List Byte) (rest : List (List Byte)) (k x r a b y : List Byte) (m : Mast) (addr bit kind :
   Nat) (s : State), s.mon.waiting = line :: rest → (s.monOpen = true ∧ s.instants = true) → lineCmd line = some
   .inject → ((wordsOf line).drop 1 = [k, x, r, a, b, y] ∧ wordNum k = txtMem ∧ mastCodeOf x = some m.code ∧ wordNum
   r = txtSram) → (numberOf a = some addr ∧ numberOf b = some bit ∧ bit ≤ 7 ∧ numberOf y = some kind ∧ (kind = 1 ∨
   kind = 2)) → (regionOf (addr / 8 * 8) = .sram ∧ addr < 4294967296 ∧ (s.mast m).powered = true) →
   s.mon.session.isSome = true → s.agreed s.lane.active = true → s.ctl.mode = .service → ((s.mast m).mem.errAt (addr
   / 8 * 8) = [] ∧ (s.mast m).mem.isValid (addr / 8 * 8) = true) → ∃ s', exec (.monInject t) s = .next s' ∧ (s'.mast
   m).mem.errAt (addr / 8 * 8) = (if kind = 1 then [64 + bit] else [64 + bit, 64 + (bit + 1) % 8]) ∧ s'.getF .agreed
   fMiInjstatResult = 1 ∧ raised s' s.lane.active.mask evMiInjectDone (kind + 256 * bit + 65536 * m.code) (wordAddr
   (addr / 8 * 8)) ∧ (∀ o, o ≠ m → s'.mast o = s.mast o) ∧ raised s' s.lane.active.mask evMonCommand
   (MonCmd.inject.num % 2 ^ 32) 0 ∧ sameBut [.mon, .mem, .masts, .regs, .log] (s.advance t) s' ∧ s'.mon.waiting =
   rest ∧ s'.mon.answer = ⟨MonCmd.inject.num, 0, []⟩) ∧
  (∀ (t : Nat) (line : List Byte) (rest : List (List Byte)) (k x w a y : List Byte) (m : Mast) (core kind : Nat) (s
   : State), s.mon.waiting = line :: rest → (s.monOpen = true ∧ s.instants = true) → lineCmd line = some .inject →
   ((wordsOf line).drop 1 = [k, x, w, a, y] ∧ wordNum k = txtTriad ∧ mastCodeOf x = some m.code ∧ triadCodeOf w =
   some 1) → (numberOf a = some core ∧ core ≤ 2 ∧ numberOf y = some kind ∧ 1 ≤ kind ∧ kind ≤ 4) →
   s.mon.session.isSome = true → s.agreed s.lane.active = true → s.ctl.mode = .service → ∃ s', exec (.monInject t) s
   = .next s' ∧ s'.getF .agreed fTdInjstatLast = injectLast m .c core kind ∧ s'.getF .agreed fTdInjstatResult = 1 ∧
   raised s' s.lane.active.mask evMonCommand (MonCmd.inject.num % 2 ^ 32) 0 ∧ s'.mon.waiting = rest ∧ s'.mon.answer
   = ⟨MonCmd.inject.num, 0, []⟩) ∧
  (∀ (t : Nat) (line : List Byte) (rest : List (List Byte)) (k x r a b y : List Byte) (m : Mast) (addr bit : Nat) (s
   : State), s.mon.waiting = line :: rest → (s.monOpen = true ∧ s.instants = true) → lineCmd line = some .inject →
   ((wordsOf line).drop 1 = [k, x, r, a, b, y] ∧ wordNum k = txtMem ∧ mastCodeOf x = some m.code ∧ wordNum r =
   txtDram) → (numberOf a = some addr ∧ numberOf b = some bit ∧ bit ≤ 7 ∧ numberOf y = some 1) → (0x40000000 ≤ addr
   ∧ addr < 0x80000000 ∧ (s.mast m).powered = true) → s.mon.session.isSome = true → s.agreed s.lane.active = true →
   s.ctl.mode = .service → (s.mast m).mem.errAt (addr / 8 * 8) = [] → ∃ s', exec (.monInject t) s = .next s' ∧
   (s'.mast m).mem.errAt (addr / 8 * 8) = [64 + bit] ∧ s'.getF .agreed fMiInjstatResult = 1 ∧ raised s'
   s.lane.active.mask evMiInjectDone (1 + 256 * bit + 4096 + 65536 * m.code) (wordAddr (addr / 8 * 8)) ∧ (∀ o, o ≠ m
   → s'.mast o = s.mast o) ∧ raised s' s.lane.active.mask evMonCommand (MonCmd.inject.num % 2 ^ 32) 0 ∧ sameBut
   [.mon, .mem, .masts, .regs, .log] (s.advance t) s' ∧ s'.mon.waiting = rest ∧ s'.mon.answer = ⟨MonCmd.inject.num,
   0, []⟩) ∧
  (∀ (t : Nat) (line : List Byte) (rest : List (List Byte)) (w y : List Byte) (x z : Nat) (s : State), s.mon.waiting
   = line :: rest → (s.monOpen = true ∧ s.instants = true) → lineCmd line = some .step → ((wordsOf line).drop 1 =
   [w, y] ∧ numberOf w = some x ∧ numberOf y = some z ∧ x < 2 ^ 64 ∧ z < sec) → s.mon.session.isSome = true →
   s.agreed s.lane.active = true → (s.ctl.mode = .service ∨ s.ctl.mode = .stop) → ∃ s', exec (.monStep t) s = .next
   s' ∧ (∀ m, (s.mast m).powered = true → s'.time.tb.get m = (((s.advance t).time.tb.get m : Int) + (((x * sec + z :
   Nat) : Int) - (s.advance t).moduleTime) * 4294967296).toNat) ∧ s'.ctl = s.ctl ∧ raised s' s.lane.active.mask
   evMonCommand (MonCmd.step.num % 2 ^ 32) 0 ∧ s'.mon.waiting = rest ∧ s'.mon.answer = ⟨MonCmd.step.num, 0, []⟩) ∧
  (∀ (t : Nat) (line : List Byte) (rest : List (List Byte)) (s : State), s.mon.waiting = line :: rest → (s.monOpen =
   true ∧ s.instants = true) → lineCmd line = some .silclr → (wordsOf line).drop 1 = [] → s.mon.session.isSome =
   true → s.agreed s.lane.active = true → (s.ctl.mode = .service ∨ s.ctl.mode = .stop) → ∃ s', exec (.monSilclr t) s
   = .next s' ∧ (∀ m ∈ s.voters, s.triadRuns m = true → (s'.mast m).mem = (s.mast m).mem.clearSilence) ∧ (∀ m, m ∉
   s.voters → s'.mast m = s.mast m) ∧ raised s' s.lane.active.mask evMonCommand (MonCmd.silclr.num % 2 ^ 32) 0 ∧
   sameBut [.mon, .mem, .masts, .log] (s.advance t) s' ∧ s'.mon.waiting = rest ∧ s'.mon.answer = ⟨MonCmd.silclr.num,
   0, []⟩) ∧
  (∀ (t : Nat) (store : List Byte) (line : List Byte) (rest : List (List Byte)) (w y : List Byte) (n : Nat) (s :
   State), s.mon.waiting = line :: rest → (s.monOpen = true ∧ s.instants = true) → lineCmd line = some .syslog →
   ((wordsOf line).drop 1 = [w, y] ∧ numberOf y = some n ∧ wordNum w = txtRate ∧ 1 ≤ n ∧ n ≤ 1000) →
   s.mon.session.isSome = true → s.ctl.mode = .service → ∃ s', exec (.monSyslog t store) s = .next s' ∧ s'.getF
   .agreed fElExportRate = n ∧ (∀ m ∈ s.voters, (s'.mast m).mem = ((s.mast m).mem.erase (bankAddr (s.mast
   m).mem.olderBank) 0x100000).writeBytes (bankAddr (s.mast m).mem.olderBank) (store.take 0x100000)) ∧ (∀ m, m ∉
   s.voters → s'.mast m = s.mast m) ∧ s'.mon.waiting = rest ∧ s'.mon.answer = ⟨MonCmd.syslog.num, 0, []⟩ ∧ raised s'
   s.lane.active.mask evMonCommand (MonCmd.syslog.num % 2 ^ 32) 0 ∧ regsBut [(.agreed, rElExport)] s s' ∧ sameBut
   [.mon, .mem, .masts, .regs, .log] (s.advance t) s') ∧
  (∀ (t : Nat) (store : List Byte) (line : List Byte) (rest : List (List Byte)) (w y : List Byte) (n : Nat) (s :
   State), s.mon.waiting = line :: rest → (s.monOpen = true ∧ s.instants = true) → lineCmd line = some .syslog →
   ((wordsOf line).drop 1 = [w, y] ∧ numberOf y = some n ∧ wordNum w = txtSev ∧ 2 ≤ n ∧ n ≤ 7) →
   s.mon.session.isSome = true → s.ctl.mode = .service → ∃ s', exec (.monSyslog t store) s = .next s' ∧ s'.getF
   .agreed fElExportSevmax = n ∧ (∀ m ∈ s.voters, (s'.mast m).mem = ((s.mast m).mem.erase (bankAddr (s.mast
   m).mem.olderBank) 0x100000).writeBytes (bankAddr (s.mast m).mem.olderBank) (store.take 0x100000)) ∧ (∀ m, m ∉
   s.voters → s'.mast m = s.mast m) ∧ s'.mon.waiting = rest ∧ s'.mon.answer = ⟨MonCmd.syslog.num, 0, []⟩ ∧ raised s'
   s.lane.active.mask evMonCommand (MonCmd.syslog.num % 2 ^ 32) 0 ∧ regsBut [(.agreed, rElExport)] s s' ∧ sameBut
   [.mon, .mem, .masts, .regs, .log] (s.advance t) s') ∧
  (∀ (t : Nat) (store : List Byte) (line : List Byte) (rest : List (List Byte)) (w : List Byte) (s : State),
   s.mon.waiting = line :: rest → (s.monOpen = true ∧ s.instants = true) → lineCmd line = some .syslog → ((wordsOf
   line).drop 1 = [w] ∧ wordNum w = txtOff) → s.mon.session.isSome = true → s.ctl.mode = .service → ∃ s', exec
   (.monSyslog t store) s = .next s' ∧ s'.getF .agreed fElExportEnable = 0 ∧ (∀ m ∈ s.voters, (s'.mast m).mem =
   ((s.mast m).mem.erase (bankAddr (s.mast m).mem.olderBank) 0x100000).writeBytes (bankAddr (s.mast
   m).mem.olderBank) (store.take 0x100000)) ∧ (∀ m, m ∉ s.voters → s'.mast m = s.mast m) ∧ s'.mon.waiting = rest ∧
   s'.mon.answer = ⟨MonCmd.syslog.num, 0, []⟩ ∧ raised s' s.lane.active.mask evMonCommand (MonCmd.syslog.num % 2 ^
   32) 0 ∧ regsBut [(.agreed, rElExport)] s s' ∧ sameBut [.mon, .mem, .masts, .regs, .log] (s.advance t) s') ∧
  (∀ (t : Nat) (store : List Byte) (line : List Byte) (rest : List (List Byte)) (w y z : List Byte) (a p i : Nat) (s
   : State), s.mon.waiting = line :: rest → (s.monOpen = true ∧ s.instants = true) → lineCmd line = some .syslog →
   ((wordsOf line).drop 1 = [w, y, z] ∧ addressOf w = some a ∧ numberOf y = some p ∧ p ≤ 65535 ∧ numberOf z = some i
   ∧ (i = 1 ∨ i = 2)) → s.mon.session.isSome = true → s.ctl.mode = .service → ∃ s', exec (.monSyslog t store) s =
   .next s' ∧ s'.getF .agreed fElDestIp = a % 4294967296 ∧ s'.getF .agreed fElDestportPort = p ∧ s'.getF .agreed
   fElDestportIf = i ∧ s'.getF .agreed fElExportEnable = 1 ∧ (∀ m ∈ s.voters, (s'.mast m).mem = ((s.mast
   m).mem.erase (bankAddr (s.mast m).mem.olderBank) 0x100000).writeBytes (bankAddr (s.mast m).mem.olderBank)
   (store.take 0x100000)) ∧ (∀ m, m ∉ s.voters → s'.mast m = s.mast m) ∧ s'.mon.waiting = rest ∧ s'.mon.answer =
   ⟨MonCmd.syslog.num, 0, []⟩ ∧ raised s' s.lane.active.mask evMonCommand (MonCmd.syslog.num % 2 ^ 32) 0 ∧ regsBut
   [(.agreed, rElExport), (.agreed, rElDest), (.agreed, rElDestport)] s s' ∧ sameBut [.mon, .mem, .masts, .regs,
   .log] (s.advance t) s') ∧
  (∀ (t : Nat) (line : List Byte) (rest : List (List Byte)) (s : State), s.mon.waiting = line :: rest → (s.monOpen =
   true ∧ s.instants = true) → lineCmd line = some .update → (wordsOf line).drop 1 = [] → s.mon.session.isSome =
   true → s.agreed s.lane.active = true → s.mon.transfer = none → (s.ctl.mode = .service ∨ s.ctl.mode = .stop ∨
   s.ctl.mode = .run ∨ s.ctl.mode = .hold) → ∃ s', exec (.monUpdate t) s = .next s' ∧ s'.mon.transfer = some
   { kind := 1, slot := 0 } ∧ s'.mon.session = s.mon.session ∧ s'.mon.answer = s.mon.answer ∧ sameBut [.mon]
   (s.advance t) s' ∧ s'.mon.waiting = rest) ∧
  (∀ (t : Nat) (f : JuryFinding) (env : BootEnv) (line : List Byte) (rest : List (List Byte)) (s : State),
   s.mon.waiting = line :: rest → (s.monOpen = true ∧ s.instants = true) → lineCmd line = some .activate → (wordsOf
   line).drop 1 = [] → s.mon.session.isSome = true → s.agreed s.lane.active = true → (s.ctl.mode = .service ∨
   s.ctl.mode = .stop) → (s.upd.session.isSome = true ∧ s.getF .agreed fUpStatPhase = 4) → (s.lane.isolated.masts ≠
   [] ∨ (f.selftest = true ∧ f.turn = true)) → ∃ s', exec (.monActivate t f none env) s = .next s' ∧ ∃ u : State, s'
   = u.bootRun env ∧ u.ctl.mode = .boot ∧ u.ctl.bootFrom = max s.now t ∧ u.getF .agreed fMcRstcauseImage = 1) ∧
  (∀ (t : Nat) (line : List Byte) (rest : List (List Byte)) (s : State), s.mon.waiting = line :: rest → (s.monOpen =
   true ∧ s.instants = true) → lineCmd line = some .abort → (wordsOf line).drop 1 = [] → s.mon.session.isSome = true
   → s.agreed s.lane.active = true → (s.ctl.mode = .service ∨ s.ctl.mode = .stop ∨ s.ctl.mode = .run ∨ s.ctl.mode =
   .hold) → s.upd.session.isSome = true → ∃ s', exec (.monAbort t) s = .next s' ∧ s'.upd.session = none ∧ s'.getF
   .agreed fUpStatPhase = 0 ∧ raised s' s.lane.active.mask evUpAborted 1 (s.getF .agreed fUpStatPhase) ∧ raised s'
   s.lane.active.mask evMonCommand (MonCmd.abort.num % 2 ^ 32) 0 ∧ s'.mon.waiting = rest ∧ s'.mon.answer =
   ⟨MonCmd.abort.num, 0, []⟩) ∧
  (∀ (t : Nat) (line : List Byte) (rest : List (List Byte)) (s : State), s.mon.waiting = line :: rest → (s.monOpen =
   true ∧ s.instants = true) → lineCmd line = some .confirm → (wordsOf line).drop 1 = [] → s.mon.session.isSome =
   true → s.agreed s.lane.active = true → (s.ctl.mode = .run ∧ s.inTrial = true) → ∃ s', exec (.monConfirm t) s =
   .next s' ∧ raised s' s.lane.active.mask evUpConfirmed s.activeSlot (s.advance t).runSec ∧ (∀ m ∈ s.voters,
   (s'.mast m).mem = (s.mast m).mem.writeRecord { s.recordOf m with trial := false, tries := 0 }) ∧ raised s'
   s.lane.active.mask evMonCommand (MonCmd.confirm.num % 2 ^ 32) 0 ∧ s'.mon.waiting = rest ∧ s'.mon.answer =
   ⟨MonCmd.confirm.num, 0, []⟩) ∧
  (∀ (t : Nat) (line : List Byte) (rest : List (List Byte)) (w y : List Byte) (s : State), s.mon.waiting = line ::
   rest → (s.monOpen = true ∧ s.instants = true) → lineCmd line = some .key → ((wordsOf line).drop 1 = [w, y] ∧
   wordNum w = txtProg ∧ (numberOf y = some 4 ∨ numberOf y = some 5)) → s.mon.session.isSome = true → s.agreed
   s.lane.active = true → s.ctl.mode = .service → s.mon.transfer = none → ∃ s', exec (.monKey t) s = .next s' ∧
   s'.mon.transfer = some { kind := 2, slot := (numberOf y).getD 0 } ∧ s'.mon.session = s.mon.session ∧
   s'.mon.answer = s.mon.answer ∧ sameBut [.mon] (s.advance t) s' ∧ s'.mon.waiting = rest) ∧
  (∀ (t : Nat) (line : List Byte) (rest : List (List Byte)) (w y : List Byte) (k : Nat) (s : State), s.mon.waiting =
   line :: rest → (s.monOpen = true ∧ s.instants = true) → lineCmd line = some .key → ((wordsOf line).drop 1 = [w,
   y] ∧ wordNum w = txtRevoke ∧ numberOf y = some k ∧ k ≤ 5) → s.mon.session.isSome = true → s.agreed s.lane.active
   = true → (s.ctl.mode = .service ∧ s.upd.session = none) → ∃ s', exec (.monKey t) s = .next s' ∧ s'.getF .agreed
   fUpKeyselSlot = k ∧ s'.mon.waiting = rest ∧ (if s.revokeRefused k = true then s'.upd = s.upd ∧
   s'.mon.answer.result = 5 else s'.upd = { s.upd with revoked := withBit s.upd.revoked k true } ∧ raised s'
   s.lane.active.mask evUpKeyRevoked k 0 ∧ s'.mon.answer = ⟨MonCmd.key.num, 0, []⟩ ∧ raised s' s.lane.active.mask
   evMonCommand (MonCmd.key.num % 2 ^ 32) 0) ∧ sameBut [.mon, .upd, .regs, .log] (s.advance t) s') ∧
  (∀ (t : Nat) (f : JuryFinding) (lost : Option Mast) (env : BootEnv) (line : List Byte) (rest : List (List Byte))
   (w : List Byte) (s : State), s.mon.waiting = line :: rest → (s.monOpen = true ∧ s.instants = true) → lineCmd line
   = some .activate → ((wordsOf line).drop 1 = [w] ∧ wordNum w = txtNojury) → s.mon.session.isSome = true → s.agreed
   s.lane.active = true → s.ctl.mode = .service → (s.upd.session.isSome = true ∧ s.getF .agreed fUpStatPhase = 4) →
   ∃ s', exec (.monActivate t f lost env) s = .next s' ∧ ∃ u : State, s' = u.bootRun env ∧ u.ctl.mode = .boot ∧
   u.ctl.bootFrom = max s.now t ∧ u.getF .agreed fMcRstcauseImage = 1) ∧
  (∀ (t : Nat) (line : List Byte) (rest : List (List Byte)) (s : State), s.mon.waiting = line :: rest → (s.monOpen =
   true ∧ s.instants = true) → lineCmd line = some .force → s.mon.session = none → ∃ s', exec (.monForce t) s =
   .next s' ∧ s'.mon.waiting = rest ∧ s'.mon.answer = ⟨MonCmd.force.num, 3, []⟩ ∧ raised s' s.lane.active.mask
   evMonCommand (MonCmd.force.num % 2 ^ 32) 3 ∧ s'.mon.session = none ∧ sameBut [.mon, .log] (s.advance t) s') ∧
  (∀ (t : Nat) (line : List Byte) (rest : List (List Byte)) (s : State), s.mon.waiting = line :: rest → (s.monOpen =
   true ∧ s.instants = true) → lineCmd line = some .unforce → s.mon.session = none → ∃ s', exec (.monUnforce t) s =
   .next s' ∧ s'.mon.waiting = rest ∧ s'.mon.answer = ⟨MonCmd.unforce.num, 3, []⟩ ∧ raised s' s.lane.active.mask
   evMonCommand (MonCmd.unforce.num % 2 ^ 32) 3 ∧ s'.mon.session = none ∧ sameBut [.mon, .log] (s.advance t) s') ∧
  (∀ (t : Nat) (line : List Byte) (rest : List (List Byte)) (s : State), s.mon.waiting = line :: rest → (s.monOpen =
   true ∧ s.instants = true) → lineCmd line = some .set → s.mon.session = none → ∃ s', exec (.monSet t) s = .next s'
   ∧ s'.mon.waiting = rest ∧ s'.mon.answer = ⟨MonCmd.set.num, 3, []⟩ ∧ raised s' s.lane.active.mask evMonCommand
   (MonCmd.set.num % 2 ^ 32) 3 ∧ s'.mon.session = none ∧ sameBut [.mon, .log] (s.advance t) s') ∧
  (∀ (t : Nat) (line : List Byte) (rest : List (List Byte)) (s : State), s.mon.waiting = line :: rest → (s.monOpen =
   true ∧ s.instants = true) → lineCmd line = some .out → s.mon.session = none → ∃ s', exec (.monOut t) s = .next s'
   ∧ s'.mon.waiting = rest ∧ s'.mon.answer = ⟨MonCmd.out.num, 3, []⟩ ∧ raised s' s.lane.active.mask evMonCommand
   (MonCmd.out.num % 2 ^ 32) 3 ∧ s'.mon.session = none ∧ sameBut [.mon, .log] (s.advance t) s') ∧
  (∀ (t : Nat) (line : List Byte) (rest : List (List Byte)) (s : State), s.mon.waiting = line :: rest → (s.monOpen =
   true ∧ s.instants = true) → lineCmd line = some .bustest → s.mon.session = none → ∃ s', exec (.monBustest t) s =
   .next s' ∧ s'.mon.waiting = rest ∧ s'.mon.answer = ⟨MonCmd.bustest.num, 3, []⟩ ∧ raised s' s.lane.active.mask
   evMonCommand (MonCmd.bustest.num % 2 ^ 32) 3 ∧ s'.mon.session = none ∧ sameBut [.mon, .log] (s.advance t) s') ∧
  (∀ (t : Nat) (line : List Byte) (rest : List (List Byte)) (s : State), s.mon.waiting = line :: rest → (s.monOpen =
   true ∧ s.instants = true) → lineCmd line = some .inject → s.mon.session = none → ∃ s', exec (.monInject t) s =
   .next s' ∧ s'.mon.waiting = rest ∧ s'.mon.answer = ⟨MonCmd.inject.num, 3, []⟩ ∧ raised s' s.lane.active.mask
   evMonCommand (MonCmd.inject.num % 2 ^ 32) 3 ∧ s'.mon.session = none ∧ sameBut [.mon, .log] (s.advance t) s') ∧
  (∀ (t : Nat) (line : List Byte) (rest : List (List Byte)) (s : State), s.mon.waiting = line :: rest → (s.monOpen =
   true ∧ s.instants = true) → lineCmd line = some .step → s.mon.session = none → ∃ s', exec (.monStep t) s = .next
   s' ∧ s'.mon.waiting = rest ∧ s'.mon.answer = ⟨MonCmd.step.num, 3, []⟩ ∧ raised s' s.lane.active.mask evMonCommand
   (MonCmd.step.num % 2 ^ 32) 3 ∧ s'.mon.session = none ∧ sameBut [.mon, .log] (s.advance t) s') ∧
  (∀ (t : Nat) (line : List Byte) (rest : List (List Byte)) (s : State), s.mon.waiting = line :: rest → (s.monOpen =
   true ∧ s.instants = true) → lineCmd line = some .silclr → s.mon.session = none → ∃ s', exec (.monSilclr t) s =
   .next s' ∧ s'.mon.waiting = rest ∧ s'.mon.answer = ⟨MonCmd.silclr.num, 3, []⟩ ∧ raised s' s.lane.active.mask
   evMonCommand (MonCmd.silclr.num % 2 ^ 32) 3 ∧ s'.mon.session = none ∧ sameBut [.mon, .log] (s.advance t) s') ∧
  (∀ (t : Nat) (line : List Byte) (rest : List (List Byte)) (s : State), s.mon.waiting = line :: rest → (s.monOpen =
   true ∧ s.instants = true) → lineCmd line = some .update → s.mon.session = none → ∃ s', exec (.monUpdate t) s =
   .next s' ∧ s'.mon.waiting = rest ∧ s'.mon.answer = ⟨MonCmd.update.num, 3, []⟩ ∧ raised s' s.lane.active.mask
   evMonCommand (MonCmd.update.num % 2 ^ 32) 3 ∧ s'.mon.session = none ∧ sameBut [.mon, .log] (s.advance t) s') ∧
  (∀ (t : Nat) (line : List Byte) (rest : List (List Byte)) (s : State), s.mon.waiting = line :: rest → (s.monOpen =
   true ∧ s.instants = true) → lineCmd line = some .abort → s.mon.session = none → ∃ s', exec (.monAbort t) s =
   .next s' ∧ s'.mon.waiting = rest ∧ s'.mon.answer = ⟨MonCmd.abort.num, 3, []⟩ ∧ raised s' s.lane.active.mask
   evMonCommand (MonCmd.abort.num % 2 ^ 32) 3 ∧ s'.mon.session = none ∧ sameBut [.mon, .log] (s.advance t) s') ∧
  (∀ (t : Nat) (line : List Byte) (rest : List (List Byte)) (s : State), s.mon.waiting = line :: rest → (s.monOpen =
   true ∧ s.instants = true) → lineCmd line = some .confirm → s.mon.session = none → ∃ s', exec (.monConfirm t) s =
   .next s' ∧ s'.mon.waiting = rest ∧ s'.mon.answer = ⟨MonCmd.confirm.num, 3, []⟩ ∧ raised s' s.lane.active.mask
   evMonCommand (MonCmd.confirm.num % 2 ^ 32) 3 ∧ s'.mon.session = none ∧ sameBut [.mon, .log] (s.advance t) s') ∧
  (∀ (t : Nat) (line : List Byte) (rest : List (List Byte)) (s : State), s.mon.waiting = line :: rest → (s.monOpen =
   true ∧ s.instants = true) → lineCmd line = some .key → s.mon.session = none → ∃ s', exec (.monKey t) s = .next s'
   ∧ s'.mon.waiting = rest ∧ s'.mon.answer = ⟨MonCmd.key.num, 3, []⟩ ∧ raised s' s.lane.active.mask evMonCommand
   (MonCmd.key.num % 2 ^ 32) 3 ∧ s'.mon.session = none ∧ sameBut [.mon, .log] (s.advance t) s') ∧
  (∀ (t : Nat) (line : List Byte) (rest : List (List Byte)) (s : State), s.mon.waiting = line :: rest → (s.monOpen =
   true ∧ s.instants = true) → lineCmd line = some .logout → s.mon.session = none → ∃ s', exec (.monLogout t) s =
   .next s' ∧ s'.mon.waiting = rest ∧ s'.mon.answer = ⟨MonCmd.logout.num, 3, []⟩ ∧ raised s' s.lane.active.mask
   evMonCommand (MonCmd.logout.num % 2 ^ 32) 3 ∧ s'.mon.session = none ∧ sameBut [.mon, .log] (s.advance t) s') ∧
  (∀ (t : Nat) (store : List Byte) (line : List Byte) (rest : List (List Byte)) (s : State), s.mon.waiting = line ::
   rest → (s.monOpen = true ∧ s.instants = true) → lineCmd line = some .syslog → s.mon.session = none → ∃ s', exec
   (.monSyslog t store) s = .next s' ∧ s'.mon.waiting = rest ∧ s'.mon.answer = ⟨MonCmd.syslog.num, 3, []⟩ ∧ raised
   s' s.lane.active.mask evMonCommand (MonCmd.syslog.num % 2 ^ 32) 3 ∧ s'.mon.session = none ∧ sameBut [.mon, .log]
   (s.advance t) s') ∧
  (∀ (t : Nat) (f : JuryFinding) (lost : Option Mast) (env : BootEnv) (line : List Byte) (rest : List (List Byte))
   (s : State), s.mon.waiting = line :: rest → (s.monOpen = true ∧ s.instants = true) → lineCmd line = some
   .activate → s.mon.session = none → ∃ s', exec (.monActivate t f lost env) s = .next s' ∧ s'.mon.waiting = rest ∧
   s'.mon.answer = ⟨MonCmd.activate.num, 3, []⟩ ∧ raised s' s.lane.active.mask evMonCommand (MonCmd.activate.num % 2
   ^ 32) 3 ∧ s'.mon.session = none ∧ sameBut [.mon, .log] (s.advance t) s') ∧
  (∀ (t : Nat) (line : List Byte) (rest : List (List Byte)) (s : State), s.mon.waiting = line :: rest → (s.monOpen =
   true ∧ s.instants = true) → lineCmd line = some .out → s.mon.session.isSome = true → s.ctl.mode ≠ .service → ∃
   s', exec (.monOut t) s = .next s' ∧ s'.mon.waiting = rest ∧ s'.mon.answer = ⟨MonCmd.out.num, 4, []⟩ ∧ raised s'
   s.lane.active.mask evMonCommand (MonCmd.out.num % 2 ^ 32) 4 ∧ sameBut [.mon, .log] (s.advance t) s') ∧
  (∀ (t : Nat) (line : List Byte) (rest : List (List Byte)) (s : State), s.mon.waiting = line :: rest → (s.monOpen =
   true ∧ s.instants = true) → lineCmd line = some .bustest → s.mon.session.isSome = true → s.ctl.mode ≠ .service →
   ∃ s', exec (.monBustest t) s = .next s' ∧ s'.mon.waiting = rest ∧ s'.mon.answer = ⟨MonCmd.bustest.num, 4, []⟩ ∧
   raised s' s.lane.active.mask evMonCommand (MonCmd.bustest.num % 2 ^ 32) 4 ∧ sameBut [.mon, .log] (s.advance t) s') ∧
  (∀ (t : Nat) (line : List Byte) (rest : List (List Byte)) (s : State), s.mon.waiting = line :: rest → (s.monOpen =
   true ∧ s.instants = true) → lineCmd line = some .inject → s.mon.session.isSome = true → s.ctl.mode ≠ .service → ∃
   s', exec (.monInject t) s = .next s' ∧ s'.mon.waiting = rest ∧ s'.mon.answer = ⟨MonCmd.inject.num, 4, []⟩ ∧
   raised s' s.lane.active.mask evMonCommand (MonCmd.inject.num % 2 ^ 32) 4 ∧ sameBut [.mon, .log] (s.advance t) s')

/-- For every module that is powered. logicSupplyThreshold: a voltage below 16.8 V starts the time of R423 and is noted
as the lowest, one above 30.2 V starts that of R424, one from 16.8 V to below 29.8 V ends both, and an excursion
that was reported goes on down to 29.8 V. supplyLowExpiry: after 100 ms below 16.8 V SUPPLY_LOW is raised once per
excursion and counted. supplyOverExpiry, supplyOverRepeat: after 1 s above 30.2 V and every further minute
SUPPLY_OVER is raised with the highest voltage and the time above. Mode, lane, masts, outputs and application stay
as they were. Completion: for every state and operands that meet the stated conditions on them alone, exec answers
the next state of the own effect of logicSupplyThreshold (LOGIC_SUPPLY_THRESHOLD), supplyLowExpiry
(SUPPLY_LOW_EXPIRY), supplyOverExpiry (SUPPLY_OVER_EXPIRY), supplyOverRepeat (SUPPLY_OVER_REPEAT). -/
def Obligations.LogicSupplyExcursions : Prop :=
  (∀ (t : Nat) (mv : Nat) (s : State), s.ctl.on = true → (mv < 16800 ∧ s.supply.cut = none) → ∃ s', exec
   (.logicSupplyThreshold t mv) s = .next s' ∧ s'.supply.lowFrom = some (s.supply.lowFrom.getD (max s.now t)) ∧
   s'.supply.lowTold = s.supply.lowTold ∧ s'.supply.volt = mv ∧ s'.supply.overFrom = none ∧ s'.supply.overTold =
   none ∧ s'.getF .agreed fMcSupplyMin = min (s.getF .agreed fMcSupplyMin) (mv / 10) ∧ regsBut [(.agreed,
   rMcSupply)] s s' ∧ sameBut [.supply, .regs] (s.advance t) s') ∧
  (∀ (t : Nat) (mv : Nat) (s : State), s.ctl.on = true → 30200 < mv → ∃ s', exec (.logicSupplyThreshold t mv) s =
   .next s' ∧ s'.supply =
   { s.supply with volt := mv, overFrom := some (s.supply.overFrom.getD (max s.now t)),
                   overMax := max s.supply.overMax mv, lowFrom := none, lowTold := false }
   ∧ regsBut [(.agreed, rMcSupply)] s s' ∧ sameBut [.supply, .regs] (s.advance t) s') ∧
  (∀ (t : Nat) (mv : Nat) (s : State), s.ctl.on = true → (16800 ≤ mv ∧ mv < 29800 ∨ 16800 ≤ mv ∧ mv ≤ 30200 ∧
   s.supply.overTold = none) → ∃ s', exec (.logicSupplyThreshold t mv) s = .next s' ∧ s'.supply =
   { s.supply with volt := mv, lowFrom := none, lowTold := false, overFrom := none, overTold := none, overMax := 0 }
   ∧ regsBut [(.agreed, rMcSupply)] s s' ∧ sameBut [.supply, .regs] (s.advance t) s') ∧
  (∀ (t : Nat) (mv : Nat) (s : State), s.ctl.on = true → (29800 ≤ mv ∧ mv ≤ 30200 ∧ s.supply.overTold.isSome = true)
   → ∃ s', exec (.logicSupplyThreshold t mv) s = .next s' ∧ s'.supply =
   { s.supply with volt := mv, lowFrom := none, lowTold := false } ∧ regsBut [(.agreed, rMcSupply)] s s' ∧ sameBut
   [.supply, .regs] (s.advance t) s') ∧
  (∀ (t : Nat) (mv f : Nat) (s : State), s.ctl.on = true → (s.supply.lowFrom = some f ∧ s.supply.lowTold = false ∧
   s.supply.cut = none) → f + 100 * ms ≤ t → s.log.limits = [] → ∃ s', exec (.supplyLowExpiry t mv) s = .next s' ∧
   s'.supply = { s.supply with lowTold := true, volt := mv } ∧ raised s' s.lane.active.mask evSupplyLow mv ((max
   s.now t - f) / ms) ∧ s'.getF .agreed fMcSupplyevLow = min 255 (s.getF .agreed fMcSupplyevLow + 1) ∧ s'.getF
   .agreed fMcSupplyMin = min (s.getF .agreed fMcSupplyMin) (mv / 10) ∧ regsBut [(.agreed, rMcSupply), (.agreed,
   rMcSupplyev)] s s' ∧ sameBut [.supply, .regs, .log] (s.advance t) s') ∧
  (∀ (t : Nat) (mv f : Nat) (s : State), s.ctl.on = true → (s.supply.overFrom = some f ∧ s.supply.overTold = none) →
   f + sec ≤ t → ∃ s', exec (.supplyOverExpiry t mv) s = .next s' ∧ s'.supply =
   { s.supply with overTold := some (max s.now t), overMax := max s.supply.overMax mv, volt := mv } ∧ raised s'
   s.lane.active.mask evSupplyOver (max s.supply.overMax mv) ((max s.now t - f) / ms) ∧ sameBut [.supply, .log]
   (s.advance t) s') ∧
  (∀ (t : Nat) (mv f n : Nat) (s : State), s.ctl.on = true → (s.supply.overFrom = some f ∧ s.supply.overTold = some
   n ∧ 30200 < s.supply.volt) → n + 60 * sec ≤ t → ∃ s', exec (.supplyOverRepeat t mv) s = .next s' ∧ s'.supply =
   { s.supply with overTold := some (max s.now t), overMax := max s.supply.overMax mv, volt := mv } ∧ raised s'
   s.lane.active.mask evSupplyOver (max s.supply.overMax mv) ((max s.now t - f) / ms) ∧ sameBut [.supply, .log]
   (s.advance t) s')

/-- For every module that is powered. supplyInterruptionBegin: an interruption begins below 14.4 V or above 36 V and
changes nothing but the supply's own account. supplyInterruptionEnd: its end within that range is kept for the next
action instant. holdupCharged: a charged store shows READY. holdupExhausted: a store that runs out during an
interruption powers the module down, which loses every volatile state but keeps the keys and the queue.
powerDownWaitExpiry: at the end of 100 ms without power above 16.8 V the start of R29 begins with MC_RSTCAUSE.POR.
railTempCrossing: the first rail above 125 C raises INTERFACE_TEMP once until both are below 120 C. tachSupplyLimit,
tachSupplyRetry: a tachometer supply in limit is switched off with TACH_SUPPLY and on again after 1 s. Completion:
for every state and operands that meet the stated conditions on them alone, exec answers the next state of the own
effect of supplyInterruptionBegin (SUPPLY_INTERRUPTION_BEGIN), supplyInterruptionEnd (SUPPLY_INTERRUPTION_END),
holdupCharged (HOLDUP_CHARGED), holdupExhausted (HOLDUP_EXHAUSTED), powerDownWaitExpiry (POWER_DOWN_WAIT_EXPIRY),
railTempCrossing (RAIL_TEMP_CROSSING), tachSupplyLimit (TACH_SUPPLY_LIMIT), tachSupplyRetry (TACH_SUPPLY_RETRY). -/
def Obligations.HoldupAndPowerDown : Prop :=
  (∀ (t : Nat) (mv : Nat) (s : State), s.ctl.on = true → ((mv < 14400 ∨ 36000 < mv) ∧ s.supply.cut = none ∧
   s.supply.checked = true) → ∃ s', exec (.supplyInterruptionBegin t mv) s = .next s' ∧ s'.supply.cut = some (max
   s.now t, mv) ∧ s'.supply.full = false ∧ s'.getF .agreed fMcHoldupReady = 0 ∧ regsBut [(.agreed, rMcHoldup)] s s'
   ∧ sameBut [.supply, .regs] (s.advance t) s') ∧
  (∀ (t : Nat) (mv lowest f low : Nat) (s : State), s.ctl.on = true → (14400 ≤ mv ∧ mv ≤ 36000 ∧ s.supply.cut = some
   (f, low)) → ∃ s', exec (.supplyInterruptionEnd t mv lowest) s = .next s' ∧ s'.supply.cut = none ∧ s'.supply =
   { s.supply.judge mv (max s.now t) with cut := none,
                                          ridden := s.supply.ridden ++ [(max s.now t - f, min low lowest)] }
   ∧ s'.supply.volt = mv ∧ regsBut [(.agreed, rMcSupply)] s s' ∧ sameBut [.supply, .regs] (s.advance t) s') ∧
  (∀ (t : Nat) (s : State), s.ctl.on = true → (s.supply.cut = none ∧ s.supply.checked = true) → ∃ s', exec
   (.holdupCharged t) s = .next s' ∧ s'.supply = { s.supply with full := true, store := 45000 } ∧ s'.getF .agreed
   fMcHoldupReady = 1 ∧ s'.getF .agreed fMcHoldupStore = 4500 ∧ regsBut [(.agreed, rMcHoldup)] s s' ∧ sameBut
   [.supply, .regs] (s.advance t) s') ∧
  (∀ (t : Nat) (s : State), s.ctl.on = true → s.supply.cut.isSome = true → ∃ s', exec (.holdupExhausted t) s = .next
   s' ∧ s'.ctl.on = false ∧ s'.ctl.offAt = some (max s.now t) ∧ s'.upd.session = none ∧ s'.log.entries = [] ∧
   s'.lane.inForce = [] ∧ (∀ m, (s'.mast m).powered = false) ∧ s'.upd.keys = s.upd.keys ∧ s'.pending = s.pending) ∧
  (∀ (t : Nat) (env : BootEnv) (o : Nat) (s : State), (s.ctl.on = false ∧ s.ctl.offAt = some o) → (o + 100 * ms ≤ t
   ∧ 16800 < s.supply.volt) → ∃ s', exec (.powerDownWaitExpiry t env) s = .next s' ∧ ∃ u : State, s' = u.bootRun env
   ∧ u.ctl.mode = .boot ∧ u.ctl.on = true ∧ u.ctl.bootFrom = max s.now t ∧ u.getF .agreed fMcRstcausePor = 1 ∧
   raised u u.lane.active.mask evPowerOn 0 0 ∧ u.upd.keys = s.upd.keys ∧ (∀ m, (u.mast m).powered = true ↔ m ≠ .j)) ∧
  (∀ (t : Nat) (left right : Int) (s : State), s.ctl.on = true → (500 < left ∧ left < 800 ∧ -240 ≤ right ∧ right <
   800) → s.supply.railsOver = false → ∃ s', exec (.railTempCrossing t left right) s = .next s' ∧ raised s'
   s.lane.active.mask evInterfaceTemp 1 (left.toNat / 4) ∧ s'.supply = { s.supply with railsOver := true } ∧ s'.getF
   .agreed fMcIftempRail1 = left.toNat ∧ regsBut [(.agreed, rMcIftemp)] s s' ∧ sameBut [.supply, .regs, .log]
   (s.advance t) s') ∧
  (∀ (t : Nat) (left right : Int) (s : State), s.ctl.on = true → (-240 ≤ left ∧ left ≤ 500 ∧ 500 < right ∧ right <
   800) → s.supply.railsOver = false → ∃ s', exec (.railTempCrossing t left right) s = .next s' ∧ raised s'
   s.lane.active.mask evInterfaceTemp 2 (right.toNat / 4) ∧ s'.supply = { s.supply with railsOver := true } ∧
   s'.getF .agreed fMcIftempRail2 = right.toNat ∧ regsBut [(.agreed, rMcIftemp)] s s' ∧ sameBut [.supply, .regs,
   .log] (s.advance t) s') ∧
  (∀ (t : Nat) (left right : Int) (s : State), s.ctl.on = true → (s.supply.railsOver = true ∨ left ≤ 500 ∧ right ≤
   500) → ∃ s', exec (.railTempCrossing t left right) s = .next s' ∧ s'.supply =
   { s.supply with railsOver := s.supply.railsOver && !decide (left < 480 ∧ right < 480) } ∧ regsBut [(.agreed,
   rMcIftemp)] s s' ∧ sameBut [.supply, .regs] (s.advance t) s') ∧
  (∀ (t : Nat) (ax : Nat) (s : State), ((s.advance t).tachOn = true ∧ (ax = 1 ∨ ax = 2) ∧ s.supply.tach ax = none) →
   s.log.limits = [] → ∃ s', exec (.tachSupplyLimit t ax) s = .next s' ∧ s'.supply = s.supply.setTach ax (some (max
   s.now t)) ∧ s'.supply.tach ax = some (max s.now t) ∧ s'.supply.tach (3 - ax) = s.supply.tach (3 - ax) ∧ raised s'
   s.lane.active.mask evTachSupply ax 0 ∧ sameBut [.supply, .log] (s.advance t) s') ∧
  (∀ (t : Nat) (ax : Nat) (o : Nat) (s : State), ((ax = 1 ∨ ax = 2) ∧ s.supply.tach ax = some o) → o + sec ≤ t → ∃
   s', exec (.tachSupplyRetry t ax) s = .next s' ∧ s'.supply = s.supply.setTach ax none ∧ s'.supply.tach ax = none ∧
   s'.supply.tach (3 - ax) = s.supply.tach (3 - ax) ∧ sameBut [.supply] (s.advance t) s')

/-- For every command c, every rest and every state: step of the state with c in front of its queue is exec of c on that
state with the rest as its queue. On an empty queue (the model's choice) a step moves the clock one 4 ns cycle and
does nothing else. The idle step is the model's choice (assumption log, the entry on the idle step). -/
def Obligations.StepRunsTheFrontCommand : Prop :=
  (∀ (c : Instr) (rest : List Instr) (s : State), step { s with pending := c :: rest } = exec c
   { s with pending := rest }) ∧
  (∀ (s : State), s.pending = [] → step s = .next (s.advance (s.now + 4)))

/-- For every command of the table with any operands, and every state: exec answers a next state, in which the queue of
waiting commands is the one before and the time of the module is not earlier. No command stops the block. -/
def Obligations.EveryCommandCompletes : Prop :=
  ∀ (c : Instr) (s : State), ∃ s', exec c s = .next s' ∧ s'.pending = s.pending ∧ s.now ≤ s'.now

/-- For every command with any operands and every state: when exec answers a next state, every part of the state but
those Safety.touches lists for that command (registers, masts, memories, lane manager, intake, timebases, position
engine, door bus, application, queues, bridge, stay link, network, supervisors, field engine, update block, supply,
panel, monitor, log) is as it was. -/
def Obligations.CommandsKeepTheFrame : Prop :=
  ∀ (c : Instr) (s s' : State), exec c s = .next s' → sameBut (touches c) s s'

/-- For every state whose register file and memories are lists with strictly rising keys and no entry equal to what an
unlisted one reads: when step answers a next state, they still are. So equal contents of registers and memories are
equal data after every step. -/
def Obligations.StepKeepsCanonicalForm : Prop :=
  ∀ (s s' : State), canonical s → step s = .next s' → canonical s'

/-- State.reset lists nothing twice and nothing equal to what an unlisted register or byte reads as; no command waits,
and no mast is powered. -/
def Obligations.ResetIsCanonical : Prop :=
  canonical State.reset ∧ State.reset.pending = [] ∧ ∀ m, (State.reset.mast m).powered = false

/-- For every command and every state: when exec answers a next state of another mode, that mode may follow on the one
before (Safety.mayFollow): STOP only on BOOT, RUN, HOLD, SERVICE or STANDBY, RUN only on STOP, HOLD or STANDBY, HOLD
only on RUN, SERVICE only on STOP, STANDBY only on STOP or RUN. -/
def Obligations.ModesAreEnteredOnlyFrom : Prop :=
  ∀ (c : Instr) (s s' : State), exec c s = .next s' → s'.ctl.mode ≠ s.ctl.mode → mayFollow s.ctl.mode s'.ctl.mode =
  true

/-- For every state in SAFE and every command: when exec answers a next state, the mode is SAFE still, unless the
command is one of the three of a power cycle or of the three that end a press of the reset pushbutton
(Safety.leavesSafe). -/
def Obligations.SafeIsLeftOnlyByPowerOrButton : Prop :=
  ∀ (c : Instr) (s s' : State), s.ctl.mode = .safe → leavesSafe c = false → exec c s = .next s' → s'.ctl.mode =
  .safe

/-- For every state with a session open in STOP, RUN or HOLD and a waiting line force I V of an application symbol: when
R289 gives the value a status other than 0, or 256 forces are set already and the symbol has none (status 10),
FORCE_REFUSED is raised with the symbol index and that status, the monitor answers ERR 5 followed by the status, and
nothing but the monitor's line and the log changes: no force, and MC_FORCE.COUNT reads as before. -/
def Obligations.RefusedForces : Prop :=
  (∀ (t : Nat) (line : List Byte) (rest : List (List Byte)) (w y : List Byte) (i : Nat) (v : Int) (st : Nat) (s :
   State), s.mon.waiting = line :: rest → (s.monOpen = true ∧ s.instants = true) → lineCmd line = some .force →
   ((wordsOf line).drop 1 = [w, y] ∧ numberOf w = some i ∧ intOf y = some v) → s.mon.session.isSome = true →
   (s.ctl.mode = .stop ∨ s.ctl.mode = .run ∨ s.ctl.mode = .hold) → (s.app.valueStatus i v = st ∧ st ≠ 0) → ∃ s',
   exec (.monForce t) s = .next s' ∧ s'.mon.waiting = rest ∧ s'.mon.answer = ⟨MonCmd.force.num, 5, [(0, st)]⟩ ∧
   raised s' s.lane.active.mask evForceRefused i st ∧ s'.app.forces = s.app.forces ∧ s'.getF .agreed fMcForceCount =
   s.getF .agreed fMcForceCount ∧ sameBut [.mon, .log] (s.advance t) s') ∧
  (∀ (t : Nat) (line : List Byte) (rest : List (List Byte)) (w y : List Byte) (i : Nat) (v : Int) (s : State),
   s.mon.waiting = line :: rest → (s.monOpen = true ∧ s.instants = true) → lineCmd line = some .force → ((wordsOf
   line).drop 1 = [w, y] ∧ numberOf w = some i ∧ intOf y = some v) → s.mon.session.isSome = true → (s.ctl.mode =
   .stop ∨ s.ctl.mode = .run ∨ s.ctl.mode = .hold) → (s.app.valueStatus i v = 0 ∧ s.app.forced i = false ∧ 256 ≤
   s.app.forces.length) → ∃ s', exec (.monForce t) s = .next s' ∧ s'.mon.waiting = rest ∧ s'.mon.answer =
   ⟨MonCmd.force.num, 5, [(0, 10)]⟩ ∧ raised s' s.lane.active.mask evForceRefused i 10 ∧ s'.app.forces =
   s.app.forces ∧ s'.getF .agreed fMcForceCount = s.getF .agreed fMcForceCount ∧ sameBut [.mon, .log] (s.advance t)
   s')

/-- For every triad that executes and every write of 1 to 7 bytes within one SRAM or DRAM word outside the reserved
areas and the fence: over a word without error, or with one correctable bit, exactly its bytes are stored, every
other byte reads as before and the access is done; over an uncorrectable error no byte is stored, MI_UNCORRECTABLE
is raised with the address and the mast goes fail-silent with cause 0x0C. Completion: for every state and operands
that meet the stated conditions on them alone, exec answers the next state of the own effect of memoryPartialWrite
(MEMORY_PARTIAL_WRITE). -/
def Obligations.PartialWrites : Prop :=
  (∀ (t : Nat) (m : Mast) (tr : Triad) (addr : Nat) (bytes : List Byte) (found : MemFinding) (s : State),
   s.triadRuns m = true → (regionOf addr = .dram ∨ regionOf addr = .sram) → (bytes ≠ [] ∧ bytes.length < 8) →
   wordAddr addr = wordAddr (addr + bytes.length - 1) → (reservedArea addr = false ∧ reservedArea (addr +
   bytes.length - 1) = false) → (tr = .c → s.fenced addr = false) → checkWord (s.mast m).mem addr found = .good → ∃
   s', exec (.memoryPartialWrite t m tr addr bytes found) s = .next s' ∧ (s'.mast m).answer tr = .done 0 ∧ (s'.mast
   m).mem.readBytes addr bytes.length = bytes ∧ (∀ a, a < addr ∨ addr + bytes.length ≤ a → (s'.mast m).mem.readByte
   a = (s.mast m).mem.readByte a) ∧ (∀ o, o ≠ m → s'.mast o = s.mast o) ∧ sameBut [.masts, .mem, .lane] (s.advance
   t) s') ∧
  (∀ (t : Nat) (m : Mast) (tr : Triad) (addr : Nat) (bytes : List Byte) (found : MemFinding) (bit : Nat) (s :
   State), s.triadRuns m = true → (regionOf addr = .dram ∨ regionOf addr = .sram) → (bytes ≠ [] ∧ bytes.length < 8)
   → wordAddr addr = wordAddr (addr + bytes.length - 1) → (reservedArea addr = false ∧ reservedArea (addr +
   bytes.length - 1) = false) → (tr = .c → s.fenced addr = false) → checkWord (s.mast m).mem addr found = .fixed bit
   → ∃ s', exec (.memoryPartialWrite t m tr addr bytes found) s = .next s' ∧ (s'.mast m).answer tr = .done 0 ∧
   (s'.mast m).mem.readBytes addr bytes.length = bytes ∧ (∀ a, a < addr ∨ addr + bytes.length ≤ a → (s'.mast
   m).mem.readByte a = (s.mast m).mem.readByte a) ∧ (∀ o, o ≠ m → s'.mast o = s.mast o) ∧ sameBut [.masts, .mem,
   .lane, .regs, .log] (s.advance t) s') ∧
  (∀ (t : Nat) (m : Mast) (tr : Triad) (addr : Nat) (bytes : List Byte) (found : MemFinding) (s : State),
   s.triadRuns m = true → (regionOf addr = .dram ∨ regionOf addr = .sram) → (bytes ≠ [] ∧ bytes.length < 8) →
   wordAddr addr = wordAddr (addr + bytes.length - 1) → (reservedArea addr = false ∧ reservedArea (addr +
   bytes.length - 1) = false) → (tr = .c → s.fenced addr = false) → checkWord (s.mast m).mem addr found = .lost → ∃
   s', exec (.memoryPartialWrite t m tr addr bytes found) s = .next s' ∧ wentSilent s s' m 0x0C ∧ raised s' (2 ^
   m.code) evMiUncorrectable (memNumber .memory addr * 256 + (tr.code + 1)) addr ∧ sameBut [.masts, .mem, .lane,
   .regs, .time, .log] (s.advance t) s')

/-- For every triad that executes with a core in resync that has not failed within 1 s and with fewer starts in the last
second than RESYNC_LIMIT: a self-test that fails (resyncSelftestDone), a bad CRC of the state copy (resyncPoint),
and a restored core found in the minority again within 1 ms of its restart (triadVoteDisagree) each raise
RESYNC_FAILED with the kind 1, 2 or 3, count in TD_RSFAIL of that mast, and leave the triad in a resync of the same
core begun at that moment from step 1, its out-of-lockstep time counted from the first start; a second failure of
the same core within 1 s takes the mast fail-silent with cause 0x06 (R87). -/
def Obligations.FailedResync : Prop :=
  (∀ (t : Nat) (m : Mast) (tr : Triad) (r : Resync) (s : State), s.triadRuns m = true → (((s.mast m).triad
   tr).resync = some r ∧ r.tested = false) → (((s.mast m).triad tr).starts.length < s.getF .agreed
   fTdCtrlResyncLimit ∧ ((s.mast m).triad tr).fails = []) → ∃ s', exec (.resyncSelftestDone t m tr false) s = .next
   s' ∧ ((s'.mast m).triad tr).resync = some ⟨r.core, r.firstOut, max s.now t, false⟩ ∧ raised s' (2 ^ m.code)
   evResyncFailed (whoOf m tr (r.core)) 1 ∧ s'.getF .agreed (rsfailOf m) = min 255 (s.getF .agreed (rsfailOf m) + 1)
   ∧ (s'.mast m).silent = false ∧ (∀ o, o ≠ m → s'.mast o = s.mast o)) ∧
  (∀ (t : Nat) (m : Mast) (tr : Triad) (r : Resync) (s : State), s.triadRuns m = true → (((s.mast m).triad
   tr).resync = some r ∧ r.tested = true) → (((s.mast m).triad tr).starts.length < s.getF .agreed fTdCtrlResyncLimit
   ∧ ((s.mast m).triad tr).fails = []) → ∃ s', exec (.resyncPoint t m tr false) s = .next s' ∧ ((s'.mast m).triad
   tr).resync = some ⟨r.core, r.firstOut, max s.now t, false⟩ ∧ raised s' (2 ^ m.code) evResyncFailed (whoOf m tr
   (r.core)) 2 ∧ s'.getF .agreed (rsfailOf m) = min 255 (s.getF .agreed (rsfailOf m) + 1) ∧ (s'.mast m).silent =
   false ∧ (∀ o, o ≠ m → s'.mast o = s.mast o)) ∧
  (∀ (t : Nat) (m : Mast) (tr : Triad) (x y z : BitVec 64) (core b first : Nat) (s : State), s.triadRuns m = true →
   ((s.mast m).triad tr).resync = none → ((s.mast m).triad tr).restored.find? (fun e => e.1 == core && decide (max
   s.now t ≤ e.2.1 + 1000000)) = some (core, b, first) → minorityCores x y z = [core] → (((s.mast m).triad
   tr).starts.length < s.getF .agreed fTdCtrlResyncLimit ∧ ((s.mast m).triad tr).fails = []) → ∃ s', exec
   (.triadVoteDisagree t m tr x y z) s = .next s' ∧ ((s'.mast m).triad tr).resync = some ⟨core, first, max s.now t,
   false⟩ ∧ raised s' (2 ^ m.code) evResyncFailed (whoOf m tr (core)) 3 ∧ s'.getF .agreed (rsfailOf m) = min 255
   (s.getF .agreed (rsfailOf m) + 1) ∧ (s'.mast m).silent = false ∧ (∀ o, o ≠ m → s'.mast o = s.mast o)) ∧
  (∀ (t : Nat) (m : Mast) (tr : Triad) (r : Resync) (s : State), s.triadRuns m = true → (((s.mast m).triad
   tr).resync = some r ∧ r.tested = false) → ((s.mast m).triad tr).fails.any (fun f => f.1 == r.core && decide (max
   s.now t < f.2 + 1000000000)) = true → ∃ s', exec (.resyncSelftestDone t m tr false) s = .next s' ∧ raised s' (2 ^
   m.code) evResyncFailed (whoOf m tr r.core) 1 ∧ wentSilent s s' m 0x06 ∧ recorded s' m (whoOf m tr r.core) 0)

/-- In State.reset the fields read what their register tables state for reset: on every mast hardware type 0x4830, issue
1, no reason in MC_CMDSTAT (0xFF) and lowest supply 0xFFFF; mode BOOT in MC_MODE and inhibit CONFIG alone set;
overrun limit 100 ms, resync limit 4, owner table and preference 0xA944, checkpoint total 16, action-instant cycle
2000 us, poll interval 10 us, confirm window 300 s, export rate 200 to port 514, test round 10 and link timeout 50. -/
def Obligations.ResetRegisterValues : Prop :=
  State.reset.getF .agreed fMcModeMode = 0 ∧ State.reset.getF .agreed fMcCyclimLimitMs = 100 ∧ State.reset.getF
  .agreed fTdCtrlResyncLimit = 4 ∧ State.reset.getF .agreed fLmOwnerOwner = 0xA944 ∧ State.reset.getF .agreed
  fLmOwnprefPref = 0xA944 ∧ State.reset.getF .agreed fLmCkstatTotal = 16 ∧ State.reset.getF .agreed
  fTbAicycleCycleUs = 2000 ∧ State.reset.getF .agreed fBbCtrlPollUs = 10 ∧ State.reset.getF .agreed fUpCtrlConfirmS
  = 300 ∧ State.reset.getF .agreed fElExportRate = 200 ∧ State.reset.getF .agreed fElDestportPort = 514 ∧
  State.reset.getF .agreed fFiCfgTestRound = 10 ∧ State.reset.getF .agreed fFiCfgTimeout = 50 ∧ State.reset.reg
  .agreed rMcInhibit = 0x20 ∧ (∀ m, State.reset.getF (.mast m) fMcIdHwtype = 0x4830 ∧ State.reset.getF (.mast m)
  fMcIdIssue = 1 ∧ State.reset.getF (.mast m) fMcCmdstatReason = 0xFF ∧ State.reset.getF (.mast m) fMcSupplyMin =
  0xFFFF) ∧ State.reset.ctl.mode = .boot
end

