-- ==== Sys2Proof/Laws/Bits.lean ====
section
/-!
SUPPORT. Reading a bit field after writing one, and the round trip of little-endian bytes.
-/
namespace Sys2Proof.Machine

theorem two_pow_split (hi lo : Nat) (h : lo ≤ hi) : 2 ^ (hi + 1) = 2 ^ (hi + 1 - lo) * 2 ^ lo := by
  rw [← pow_add]; congr 1; omega

/-- The three pieces a written word is put together from stay within the width of the word. -/
theorem pieces_lt (n hi lo v : Nat) (hn : n < 2 ^ 32) (hh : hi < 32) (hl : lo ≤ hi) :
    n / 2 ^ (hi + 1) * 2 ^ (hi + 1) + v % 2 ^ (hi + 1 - lo) * 2 ^ lo + n % 2 ^ lo < 2 ^ 32 := by
  have h1 : v % 2 ^ (hi + 1 - lo) < 2 ^ (hi + 1 - lo) := Nat.mod_lt _ (by positivity)
  have h2 : n % 2 ^ lo < 2 ^ lo := Nat.mod_lt _ (by positivity)
  have h3 := two_pow_split hi lo hl
  have h4 : v % 2 ^ (hi + 1 - lo) * 2 ^ lo + n % 2 ^ lo < 2 ^ (hi + 1) := by
    have h7 := Nat.mul_le_mul_right (2 ^ lo) (Nat.succ_le_of_lt h1)
    rw [h3, Nat.succ_mul] at *
    omega
  have h5 : (n / 2 ^ (hi + 1) + 1) * 2 ^ (hi + 1) ≤ 2 ^ 32 := by
    have h6 : 2 ^ 32 = 2 ^ (32 - (hi + 1)) * 2 ^ (hi + 1) := by rw [← pow_add]; congr 1; omega
    rw [h6]
    apply Nat.mul_le_mul_right
    have : n / 2 ^ (hi + 1) < 2 ^ (32 - (hi + 1)) := by
      rw [Nat.div_lt_iff_lt_mul (by positivity), ← h6]; exact hn
    omega
  nlinarith

theorem setBits_toNat (w : Word) (hi lo v : Nat) (hh : hi < 32) (hl : lo ≤ hi) :
    (setBits w hi lo v).toNat =
      w.toNat / 2 ^ (hi + 1) * 2 ^ (hi + 1) + v % 2 ^ (hi + 1 - lo) * 2 ^ lo + w.toNat % 2 ^ lo := by
  simp only [setBits, BitVec.toNat_ofNat]
  exact Nat.mod_eq_of_lt (pieces_lt _ hi lo v w.isLt hh hl)

theorem setBits_low (w : Word) (hi lo v : Nat) (hh : hi < 32) (hl : lo ≤ hi) :
    (setBits w hi lo v).toNat % 2 ^ lo = w.toNat % 2 ^ lo := by
  rw [setBits_toNat w hi lo v hh hl, two_pow_split hi lo hl]
  have : w.toNat / (2 ^ (hi + 1 - lo) * 2 ^ lo) * (2 ^ (hi + 1 - lo) * 2 ^ lo) + v % 2 ^ (hi + 1 - lo) * 2 ^ lo +
      w.toNat % 2 ^ lo =
      w.toNat % 2 ^ lo + 2 ^ lo * (w.toNat / (2 ^ (hi + 1 - lo) * 2 ^ lo) * 2 ^ (hi + 1 - lo) + v % 2 ^ (hi + 1 - lo)) := by
    ring
  rw [this, Nat.add_mul_mod_self_left, Nat.mod_mod]

theorem setBits_shift (w : Word) (hi lo v : Nat) (hh : hi < 32) (hl : lo ≤ hi) :
    (setBits w hi lo v).toNat / 2 ^ lo =
      w.toNat / 2 ^ (hi + 1) * 2 ^ (hi + 1 - lo) + v % 2 ^ (hi + 1 - lo) := by
  rw [setBits_toNat w hi lo v hh hl, two_pow_split hi lo hl]
  have : w.toNat / (2 ^ (hi + 1 - lo) * 2 ^ lo) * (2 ^ (hi + 1 - lo) * 2 ^ lo) + v % 2 ^ (hi + 1 - lo) * 2 ^ lo +
      w.toNat % 2 ^ lo =
      w.toNat % 2 ^ lo + 2 ^ lo * (w.toNat / (2 ^ (hi + 1 - lo) * 2 ^ lo) * 2 ^ (hi + 1 - lo) + v % 2 ^ (hi + 1 - lo)) := by
    ring
  rw [this, Nat.add_mul_div_left _ _ (by positivity), Nat.div_eq_of_lt (Nat.mod_lt _ (by positivity))]
  simp

theorem setBits_high (w : Word) (hi lo v : Nat) (hh : hi < 32) (hl : lo ≤ hi) :
    (setBits w hi lo v).toNat / 2 ^ (hi + 1) = w.toNat / 2 ^ (hi + 1) := by
  have h := setBits_shift w hi lo v hh hl
  have e : 2 ^ (hi + 1) = 2 ^ lo * 2 ^ (hi + 1 - lo) := by rw [two_pow_split hi lo hl, Nat.mul_comm]
  rw [e, ← Nat.div_div_eq_div_mul, h, Nat.mul_comm (w.toNat / _) , Nat.mul_add_div (by positivity),
    Nat.div_eq_of_lt (Nat.mod_lt _ (by positivity)), ← e]
  simp

/-- A field that was just written reads as its value, cut to the field's width. -/
theorem getBits_setBits (w : Word) (hi lo v : Nat) (hh : hi < 32) (hl : lo ≤ hi) :
    getBits (setBits w hi lo v) hi lo = v % 2 ^ (hi + 1 - lo) := by
  simp only [getBits, setBits_shift w hi lo v hh hl]
  rw [Nat.add_comm, Nat.add_mul_mod_self_right, Nat.mod_mod]

/-- A field that does not share a bit with the one written reads as before. -/
theorem getBits_setBits_apart (w : Word) (hi lo v hi' lo' : Nat) (hh : hi < 32) (hl : lo ≤ hi) (hl' : lo' ≤ hi')
    (ha : hi' < lo ∨ hi < lo') : getBits (setBits w hi lo v) hi' lo' = getBits w hi' lo' := by
  simp only [getBits]
  rcases ha with ha | ha
  · have key : ∀ n : Nat, n / 2 ^ lo' % 2 ^ (hi' + 1 - lo') = n % 2 ^ lo / 2 ^ lo' % 2 ^ (hi' + 1 - lo') := by
      intro n
      have e : lo = lo' + (lo - lo') := by omega
      have d : 2 ^ (hi' + 1 - lo') ∣ 2 ^ (lo - lo') := pow_dvd_pow 2 (by omega)
      rw [e, pow_add, Nat.mod_mul_right_div_self, Nat.mod_mod_of_dvd _ d]
    rw [key (setBits w hi lo v).toNat, key w.toNat, setBits_low w hi lo v hh hl]
  · have key : ∀ n : Nat, n / 2 ^ lo' = n / 2 ^ (hi + 1) / 2 ^ (lo' - (hi + 1)) := by
      intro n
      rw [Nat.div_div_eq_div_mul, ← pow_add]; congr 2; omega
    rw [key (setBits w hi lo v).toNat, key w.toNat, setBits_high w hi lo v hh hl]

/-- A field's value is below the power of two of its width. -/
theorem getBits_lt (w : Word) (hi lo : Nat) : getBits w hi lo < 2 ^ (hi + 1 - lo) := Nat.mod_lt _ (by positivity)

theorem natLe_length (n v : Nat) : (natLe n v).length = n := by
  induction n generalizing v with
  | zero => rfl
  | succ n ih => simp [natLe, ih]

/-- Reading back the little-endian bytes of a number gives its low bytes (R4). -/
theorem leNat_natLe (n v : Nat) : leNat (natLe n v) = v % 256 ^ n := by
  induction n generalizing v with
  | zero => simp [natLe, leNat, Nat.mod_one]
  | succ n ih =>
    simp only [natLe, leNat, ih, BitVec.toNat_ofNat]
    have e : 256 ^ (n + 1) = 256 * 256 ^ n := by rw [pow_succ, Nat.mul_comm]
    rw [e, Nat.mod_mul]

@[simp] theorem b2n_true : b2n true = 1 := rfl
@[simp] theorem b2n_false : b2n false = 0 := rfl

end Sys2Proof.Machine
end

