-- ==== Sys2Proof/Laws/Cells.lean ====
section
/-!
SUPPORT. Lists of cells: reading what was stored, and the order of the keys that storing and erasing keep.
-/
namespace Sys2Proof.Machine

variable {β : Type}

theorem cellLookup_insert_same (l : List (Nat × β)) (q : Nat) (v : β) : cellLookup (cellInsert l q v) q = some v := by
  induction l with
  | nil => simp [cellInsert, cellLookup]
  | cons x l ih =>
    obtain ⟨k, w⟩ := x
    simp only [cellInsert]
    split
    · simp [cellLookup]
    · split
      · next h => simp [cellLookup, h]
      · next h => simp [cellLookup, h, ih]

theorem cellLookup_insert_other (l : List (Nat × β)) (q r : Nat) (v : β) (h : r ≠ q) :
    cellLookup (cellInsert l q v) r = cellLookup l r := by
  induction l with
  | nil => simp [cellInsert, cellLookup, h]
  | cons x l ih =>
    obtain ⟨k, w⟩ := x
    simp only [cellInsert]
    split
    · simp [cellLookup, h]
    · split
      · next e => subst e; simp [cellLookup, h]
      · simp [cellLookup, ih]

theorem cellLookup_erase_same (l : List (Nat × β)) (q : Nat) : cellLookup (cellErase l q) q = none := by
  induction l with
  | nil => rfl
  | cons x l ih =>
    obtain ⟨k, w⟩ := x
    simp only [cellErase]
    split
    · exact ih
    · next h => simp [cellLookup, h, ih]

theorem cellLookup_erase_other (l : List (Nat × β)) (q r : Nat) (h : r ≠ q) :
    cellLookup (cellErase l q) r = cellLookup l r := by
  induction l with
  | nil => rfl
  | cons x l ih =>
    obtain ⟨k, w⟩ := x
    simp only [cellErase]
    split
    · next e => subst e; simp [cellLookup, h, ih]
    · simp [cellLookup, ih]

/-- Storing removes the entry or inserts it. -/
theorem cellPut_eq [DecidableEq β] (l : List (Nat × β)) (q : Nat) (d v : β) :
    cellPut l q d v = if v = d then cellErase l q else cellInsert l q v := by
  cases l <;> simp [cellPut, cellErase, cellInsert]

/-- The order of the keys, as a pairwise relation. -/
theorem cellsSorted_iff (l : List (Nat × β)) : cellsSorted l = true ↔ l.Pairwise fun x y => x.1 < y.1 := by
  induction l with
  | nil => simp [cellsSorted]
  | cons x l ih =>
    cases l with
    | nil => simp [cellsSorted]
    | cons y l =>
      obtain ⟨k, v⟩ := x
      obtain ⟨k', v'⟩ := y
      simp only [cellsSorted, Bool.and_eq_true, decide_eq_true_eq, ih]
      constructor
      · rintro ⟨h, hp⟩
        refine List.Pairwise.cons ?_ hp
        intro z hz
        rcases List.mem_cons.1 hz with rfl | hz
        · exact h
        · exact lt_trans h ((List.pairwise_cons.1 hp).1 z hz)
      · intro hp
        exact ⟨(List.pairwise_cons.1 hp).1 (k', v') (by simp), (List.pairwise_cons.1 hp).2⟩

theorem mem_cellErase (l : List (Nat × β)) (q : Nat) (x : Nat × β) (h : x ∈ cellErase l q) : x ∈ l ∧ x.1 ≠ q := by
  induction l with
  | nil => simp [cellErase] at h
  | cons y l ih =>
    obtain ⟨k, w⟩ := y
    simp only [cellErase] at h
    split at h
    · have := ih h; exact ⟨List.mem_cons_of_mem _ this.1, this.2⟩
    · next e =>
      rcases List.mem_cons.1 h with rfl | h
      · exact ⟨by simp, fun c => e c.symm⟩
      · have := ih h; exact ⟨List.mem_cons_of_mem _ this.1, this.2⟩

theorem mem_cellInsert (l : List (Nat × β)) (q : Nat) (v : β) (x : Nat × β) (h : x ∈ cellInsert l q v) :
    x ∈ l ∨ x = (q, v) := by
  induction l with
  | nil => simp [cellInsert] at h; exact Or.inr h
  | cons y l ih =>
    obtain ⟨k, w⟩ := y
    simp only [cellInsert] at h
    split at h
    · rcases List.mem_cons.1 h with rfl | h
      · exact Or.inr rfl
      · exact Or.inl h
    · split at h
      · next e =>
        rcases List.mem_cons.1 h with rfl | h
        · exact Or.inr (by rw [e])
        · exact Or.inl (List.mem_cons_of_mem _ h)
      · rcases List.mem_cons.1 h with rfl | h
        · exact Or.inl (by simp)
        · rcases ih h with h | h
          · exact Or.inl (List.mem_cons_of_mem _ h)
          · exact Or.inr h

theorem cellErase_sorted (l : List (Nat × β)) (q : Nat) (h : cellsSorted l = true) : cellsSorted (cellErase l q) = true := by
  rw [cellsSorted_iff] at *
  induction l with
  | nil => simp [cellErase]
  | cons y l ih =>
    obtain ⟨k, w⟩ := y
    have hp := List.pairwise_cons.1 h
    simp only [cellErase]
    split
    · exact ih hp.2
    · exact List.Pairwise.cons (fun z hz => hp.1 z (mem_cellErase l q z hz).1) (ih hp.2)

theorem cellInsert_sorted (l : List (Nat × β)) (q : Nat) (v : β) (h : cellsSorted l = true) :
    cellsSorted (cellInsert l q v) = true := by
  rw [cellsSorted_iff] at *
  induction l with
  | nil => simp [cellInsert]
  | cons y l ih =>
    obtain ⟨k, w⟩ := y
    have hp := List.pairwise_cons.1 h
    simp only [cellInsert]
    split
    · next hq =>
      refine List.Pairwise.cons ?_ h
      intro z hz
      rcases List.mem_cons.1 hz with rfl | hz
      · exact hq
      · exact lt_trans hq (hp.1 z hz)
    · split
      · exact List.Pairwise.cons (fun z hz => hp.1 z hz) hp.2
      · next h1 h2 =>
        refine List.Pairwise.cons ?_ (ih hp.2)
        intro z hz
        rcases mem_cellInsert l q v z hz with hz | rfl
        · exact hp.1 z hz
        · show k < q; omega

theorem filter_sorted (l : List (Nat × β)) (p : Nat × β → Bool) (h : cellsSorted l = true) :
    cellsSorted (l.filter p) = true := by
  rw [cellsSorted_iff] at *; exact h.filter p

/-! ## The register file -/

@[simp] theorem RegFile.get_set_same (f : RegFile) (k : Nat) (w : Word) : (f.set k w).get k = w := by
  unfold RegFile.get RegFile.set
  rw [cellPut_eq]
  by_cases h : w = resetOfKey k
  · simp [h, cellLookup_erase_same]
  · simp [h, cellLookup_insert_same]

theorem RegFile.get_set_other (f : RegFile) (k k' : Nat) (w : Word) (h : k' ≠ k) : (f.set k w).get k' = f.get k' := by
  unfold RegFile.get RegFile.set
  rw [cellPut_eq]
  by_cases e : w = resetOfKey k
  · simp [e, cellLookup_erase_other _ _ _ h]
  · simp [e, cellLookup_insert_other _ _ _ _ h]

/-- Storing a register keeps the canonical form. -/
theorem RegFile.wf_set (f : RegFile) (k : Nat) (w : Word) (h : f.wf = true) : (f.set k w).wf = true := by
  unfold RegFile.wf RegFile.set at *
  rw [cellPut_eq]
  rw [Bool.and_eq_true, List.all_eq_true] at *
  by_cases e : w = resetOfKey k
  · simp only [e, ite_true]
    exact ⟨cellErase_sorted _ _ h.1, fun x hx => h.2 x (mem_cellErase _ _ _ hx).1⟩
  · simp only [e, ite_false]
    refine ⟨cellInsert_sorted _ _ _ h.1, fun x hx => ?_⟩
    rcases mem_cellInsert _ _ _ _ hx with hx | rfl
    · exact h.2 x hx
    · simpa using e

end Sys2Proof.Machine
end

