-- ==== Sys2Proof/Laws/Memory.lean ====
section
/-!
SUPPORT. The memory of a mast: reading what was written, and the canonical form that every memory operation keeps.
-/
namespace Sys2Proof.Machine

@[simp] theorem Memory.readByte_writeByte_same (m : Memory) (a : Nat) (b : Byte) : (m.writeByte a b).readByte a = b := by
  unfold Memory.readByte Memory.writeByte
  rw [cellPut_eq]
  by_cases h : b = unlistedByte a
  · simp [h, cellLookup_erase_same]
  · simp [h, cellLookup_insert_same]

theorem Memory.readByte_writeByte_other (m : Memory) (a c : Nat) (b : Byte) (h : c ≠ a) :
    (m.writeByte a b).readByte c = m.readByte c := by
  unfold Memory.readByte Memory.writeByte
  rw [cellPut_eq]
  by_cases e : b = unlistedByte a
  · simp [e, cellLookup_erase_other _ _ _ h]
  · simp [e, cellLookup_insert_other _ _ _ _ h]

/-- Bytes outside a written range read as before. -/
theorem Memory.readByte_writeBytes_outside (m : Memory) (a c : Nat) (bs : List Byte) (h : c < a ∨ a + bs.length ≤ c) :
    (m.writeBytes a bs).readByte c = m.readByte c := by
  induction bs generalizing m a with
  | nil => rfl
  | cons b bs ih =>
    simp only [List.length_cons] at h
    simp only [Memory.writeBytes]
    rw [ih _ _ (by omega), Memory.readByte_writeByte_other _ _ _ _ (by omega)]

/-- A byte inside a written range reads as the byte written there. -/
theorem Memory.readByte_writeBytes_inside (m : Memory) (a i : Nat) (bs : List Byte) (h : i < bs.length) :
    (m.writeBytes a bs).readByte (a + i) = bs[i] := by
  induction bs generalizing m a i with
  | nil => simp at h
  | cons b bs ih =>
    simp only [Memory.writeBytes]
    cases i with
    | zero => rw [Nat.add_zero, Memory.readByte_writeBytes_outside _ _ _ _ (Or.inl (by omega))]; simp
    | succ i =>
      have : a + (i + 1) = a + 1 + i := by omega
      rw [this, ih _ _ _ (by simpa using h)]; simp

/-- Reading a range back gives the bytes written. -/
theorem Memory.readBytes_writeBytes (m : Memory) (a : Nat) (bs : List Byte) :
    (m.writeBytes a bs).readBytes a bs.length = bs := by
  apply List.ext_getElem
  · simp [Memory.readBytes]
  · intro i h1 h2
    simp only [Memory.readBytes, List.getElem_map, List.getElem_range]
    exact Memory.readByte_writeBytes_inside m a i bs h2

theorem Memory.wf_iff (m : Memory) :
    m.wf = true ↔ cellsSorted m.cells = true ∧ (∀ x ∈ m.cells, x.2 ≠ unlistedByte x.1) ∧ cellsSorted m.valid = true := by
  simp [Memory.wf, and_assoc]

theorem Memory.wf_writeByte (m : Memory) (a : Nat) (b : Byte) (h : m.wf = true) : (m.writeByte a b).wf = true := by
  rw [Memory.wf_iff] at *
  unfold Memory.writeByte
  rw [cellPut_eq]
  by_cases e : b = unlistedByte a
  · simp only [e, ite_true]
    exact ⟨cellErase_sorted _ _ h.1, fun x hx => h.2.1 x (mem_cellErase _ _ _ hx).1, h.2.2⟩
  · simp only [e, ite_false]
    refine ⟨cellInsert_sorted _ _ _ h.1, fun x hx => ?_, h.2.2⟩
    rcases mem_cellInsert _ _ _ _ hx with hx | rfl
    · exact h.2.1 x hx
    · exact e

theorem Memory.wf_writeBytes (m : Memory) (a : Nat) (bs : List Byte) (h : m.wf = true) : (m.writeBytes a bs).wf = true := by
  induction bs generalizing m a with
  | nil => exact h
  | cons b bs ih => exact ih _ _ (Memory.wf_writeByte m a b h)

theorem Memory.wf_markValid (m : Memory) (a : Nat) (h : m.wf = true) : (m.markValid a).wf = true := by
  unfold Memory.markValid
  split
  · rw [Memory.wf_iff] at *; exact ⟨h.1, h.2.1, cellInsert_sorted _ _ _ h.2.2⟩
  · exact h

theorem foldl_keeps {σ α : Type} (P : σ → Prop) (f : σ → α → σ) (h : ∀ s x, P s → P (f s x)) (l : List α) (s : σ)
    (hs : P s) : P (l.foldl f s) := by
  induction l generalizing s with
  | nil => exact hs
  | cons x l ih => exact ih _ (h _ _ hs)

theorem Memory.wf_markRange (m : Memory) (a n : Nat) (h : m.wf = true) : (m.markRange a n).wf = true := by
  unfold Memory.markRange
  split
  · exact h
  · exact foldl_keeps (fun m : Memory => m.wf = true) _ (fun m i hm => Memory.wf_markValid m _ hm) _ _ h

theorem Memory.wf_setErr (m : Memory) (a : Nat) (bits : List Nat) (h : m.wf = true) : (m.setErr a bits).wf = true := by
  rw [Memory.wf_iff] at *; exact h

theorem Memory.wf_clearSram (m : Memory) (h : m.wf = true) : m.clearSram.wf = true := by
  rw [Memory.wf_iff] at *
  exact ⟨filter_sorted _ _ h.1, fun x hx => h.2.1 x (List.mem_of_mem_filter hx), rfl⟩

theorem Memory.wf_clearDram (m : Memory) (h : m.wf = true) : m.clearDram.wf = true := by
  rw [Memory.wf_iff] at *
  exact ⟨filter_sorted _ _ h.1, fun x hx => h.2.1 x (List.mem_of_mem_filter hx), h.2.2⟩

@[simp] theorem Memory.readByte_markValid (m : Memory) (a c : Nat) : (m.markValid a).readByte c = m.readByte c := by
  unfold Memory.markValid; split <;> rfl

@[simp] theorem Memory.readByte_markRange (m : Memory) (a n c : Nat) : (m.markRange a n).readByte c = m.readByte c := by
  unfold Memory.markRange
  split
  · rfl
  · exact foldl_keeps (fun x : Memory => x.readByte c = m.readByte c) _ (fun x i hx => by simpa using hx) _ _ rfl

end Sys2Proof.Machine
end

