-- ==== Sys2Proof/Laws/State.lean ====
section
/-!
SUPPORT. What the named operations leave as it was, field by field, and what they change.
-/
namespace Sys2Proof.Machine

variable (s : State)

/-! ## `State.setReg` -/

@[simp] theorem State.setReg_now (c : Copy) (addr : Nat) (w : Word) : (s.setReg c addr w).now = s.now := rfl
@[simp] theorem State.setReg_pending (c : Copy) (addr : Nat) (w : Word) :
    (s.setReg c addr w).pending = s.pending := rfl
@[simp] theorem State.setReg_shown (c : Copy) (addr : Nat) (w : Word) : (s.setReg c addr w).shown = s.shown := rfl
@[simp] theorem State.setReg_writes (c : Copy) (addr : Nat) (w : Word) : (s.setReg c addr w).writes = s.writes := rfl
@[simp] theorem State.setReg_ctl (c : Copy) (addr : Nat) (w : Word) : (s.setReg c addr w).ctl = s.ctl := rfl
@[simp] theorem State.setReg_masts (c : Copy) (addr : Nat) (w : Word) : (s.setReg c addr w).masts = s.masts := rfl
@[simp] theorem State.setReg_log (c : Copy) (addr : Nat) (w : Word) : (s.setReg c addr w).log = s.log := rfl
@[simp] theorem State.setReg_key (c : Copy) (addr : Nat) (w : Word) : (s.setReg c addr w).key = s.key := rfl
@[simp] theorem State.setReg_lane (c : Copy) (addr : Nat) (w : Word) : (s.setReg c addr w).lane = s.lane := rfl
@[simp] theorem State.setReg_intake (c : Copy) (addr : Nat) (w : Word) : (s.setReg c addr w).intake = s.intake := rfl
@[simp] theorem State.setReg_time (c : Copy) (addr : Nat) (w : Word) : (s.setReg c addr w).time = s.time := rfl
@[simp] theorem State.setReg_pos (c : Copy) (addr : Nat) (w : Word) : (s.setReg c addr w).pos = s.pos := rfl
@[simp] theorem State.setReg_fb (c : Copy) (addr : Nat) (w : Word) : (s.setReg c addr w).fb = s.fb := rfl
@[simp] theorem State.setReg_app (c : Copy) (addr : Nat) (w : Word) : (s.setReg c addr w).app = s.app := rfl
@[simp] theorem State.setReg_queue (c : Copy) (addr : Nat) (w : Word) : (s.setReg c addr w).queue = s.queue := rfl
@[simp] theorem State.setReg_bridge (c : Copy) (addr : Nat) (w : Word) : (s.setReg c addr w).bridge = s.bridge := rfl
@[simp] theorem State.setReg_stay (c : Copy) (addr : Nat) (w : Word) : (s.setReg c addr w).stay = s.stay := rfl
@[simp] theorem State.setReg_net (c : Copy) (addr : Nat) (w : Word) : (s.setReg c addr w).net = s.net := rfl
@[simp] theorem State.setReg_sup (c : Copy) (addr : Nat) (w : Word) : (s.setReg c addr w).sup = s.sup := rfl
@[simp] theorem State.setReg_field (c : Copy) (addr : Nat) (w : Word) : (s.setReg c addr w).field = s.field := rfl
@[simp] theorem State.setReg_upd (c : Copy) (addr : Nat) (w : Word) : (s.setReg c addr w).upd = s.upd := rfl
@[simp] theorem State.setReg_supply (c : Copy) (addr : Nat) (w : Word) : (s.setReg c addr w).supply = s.supply := rfl
@[simp] theorem State.setReg_panel (c : Copy) (addr : Nat) (w : Word) : (s.setReg c addr w).panel = s.panel := rfl
@[simp] theorem State.setReg_standby (c : Copy) (addr : Nat) (w : Word) :
    (s.setReg c addr w).standby = s.standby := rfl
@[simp] theorem State.setReg_mon (c : Copy) (addr : Nat) (w : Word) : (s.setReg c addr w).mon = s.mon := rfl
@[simp] theorem State.setReg_free (c : Copy) (addr : Nat) (w : Word) : (s.setReg c addr w).free = s.free := rfl

/-! ## `State.putF` -/

@[simp] theorem State.putF_now (c : Copy) (f : Fld) (v : Nat) : (s.putF c f v).now = s.now := rfl
@[simp] theorem State.putF_pending (c : Copy) (f : Fld) (v : Nat) : (s.putF c f v).pending = s.pending := rfl
@[simp] theorem State.putF_shown (c : Copy) (f : Fld) (v : Nat) : (s.putF c f v).shown = s.shown := rfl
@[simp] theorem State.putF_writes (c : Copy) (f : Fld) (v : Nat) : (s.putF c f v).writes = s.writes := rfl
@[simp] theorem State.putF_ctl (c : Copy) (f : Fld) (v : Nat) : (s.putF c f v).ctl = s.ctl := rfl
@[simp] theorem State.putF_masts (c : Copy) (f : Fld) (v : Nat) : (s.putF c f v).masts = s.masts := rfl
@[simp] theorem State.putF_log (c : Copy) (f : Fld) (v : Nat) : (s.putF c f v).log = s.log := rfl
@[simp] theorem State.putF_key (c : Copy) (f : Fld) (v : Nat) : (s.putF c f v).key = s.key := rfl
@[simp] theorem State.putF_lane (c : Copy) (f : Fld) (v : Nat) : (s.putF c f v).lane = s.lane := rfl
@[simp] theorem State.putF_intake (c : Copy) (f : Fld) (v : Nat) : (s.putF c f v).intake = s.intake := rfl
@[simp] theorem State.putF_time (c : Copy) (f : Fld) (v : Nat) : (s.putF c f v).time = s.time := rfl
@[simp] theorem State.putF_pos (c : Copy) (f : Fld) (v : Nat) : (s.putF c f v).pos = s.pos := rfl
@[simp] theorem State.putF_fb (c : Copy) (f : Fld) (v : Nat) : (s.putF c f v).fb = s.fb := rfl
@[simp] theorem State.putF_app (c : Copy) (f : Fld) (v : Nat) : (s.putF c f v).app = s.app := rfl
@[simp] theorem State.putF_queue (c : Copy) (f : Fld) (v : Nat) : (s.putF c f v).queue = s.queue := rfl
@[simp] theorem State.putF_bridge (c : Copy) (f : Fld) (v : Nat) : (s.putF c f v).bridge = s.bridge := rfl
@[simp] theorem State.putF_stay (c : Copy) (f : Fld) (v : Nat) : (s.putF c f v).stay = s.stay := rfl
@[simp] theorem State.putF_net (c : Copy) (f : Fld) (v : Nat) : (s.putF c f v).net = s.net := rfl
@[simp] theorem State.putF_sup (c : Copy) (f : Fld) (v : Nat) : (s.putF c f v).sup = s.sup := rfl
@[simp] theorem State.putF_field (c : Copy) (f : Fld) (v : Nat) : (s.putF c f v).field = s.field := rfl
@[simp] theorem State.putF_upd (c : Copy) (f : Fld) (v : Nat) : (s.putF c f v).upd = s.upd := rfl
@[simp] theorem State.putF_supply (c : Copy) (f : Fld) (v : Nat) : (s.putF c f v).supply = s.supply := rfl
@[simp] theorem State.putF_panel (c : Copy) (f : Fld) (v : Nat) : (s.putF c f v).panel = s.panel := rfl
@[simp] theorem State.putF_standby (c : Copy) (f : Fld) (v : Nat) : (s.putF c f v).standby = s.standby := rfl
@[simp] theorem State.putF_mon (c : Copy) (f : Fld) (v : Nat) : (s.putF c f v).mon = s.mon := rfl
@[simp] theorem State.putF_free (c : Copy) (f : Fld) (v : Nat) : (s.putF c f v).free = s.free := rfl

/-! ## `State.incF` -/

@[simp] theorem State.incF_now (c : Copy) (f : Fld) (n : Nat) : (s.incF c f n).now = s.now := rfl
@[simp] theorem State.incF_pending (c : Copy) (f : Fld) (n : Nat) : (s.incF c f n).pending = s.pending := rfl
@[simp] theorem State.incF_shown (c : Copy) (f : Fld) (n : Nat) : (s.incF c f n).shown = s.shown := rfl
@[simp] theorem State.incF_writes (c : Copy) (f : Fld) (n : Nat) : (s.incF c f n).writes = s.writes := rfl
@[simp] theorem State.incF_ctl (c : Copy) (f : Fld) (n : Nat) : (s.incF c f n).ctl = s.ctl := rfl
@[simp] theorem State.incF_masts (c : Copy) (f : Fld) (n : Nat) : (s.incF c f n).masts = s.masts := rfl
@[simp] theorem State.incF_log (c : Copy) (f : Fld) (n : Nat) : (s.incF c f n).log = s.log := rfl
@[simp] theorem State.incF_key (c : Copy) (f : Fld) (n : Nat) : (s.incF c f n).key = s.key := rfl
@[simp] theorem State.incF_lane (c : Copy) (f : Fld) (n : Nat) : (s.incF c f n).lane = s.lane := rfl
@[simp] theorem State.incF_intake (c : Copy) (f : Fld) (n : Nat) : (s.incF c f n).intake = s.intake := rfl
@[simp] theorem State.incF_time (c : Copy) (f : Fld) (n : Nat) : (s.incF c f n).time = s.time := rfl
@[simp] theorem State.incF_pos (c : Copy) (f : Fld) (n : Nat) : (s.incF c f n).pos = s.pos := rfl
@[simp] theorem State.incF_fb (c : Copy) (f : Fld) (n : Nat) : (s.incF c f n).fb = s.fb := rfl
@[simp] theorem State.incF_app (c : Copy) (f : Fld) (n : Nat) : (s.incF c f n).app = s.app := rfl
@[simp] theorem State.incF_queue (c : Copy) (f : Fld) (n : Nat) : (s.incF c f n).queue = s.queue := rfl
@[simp] theorem State.incF_bridge (c : Copy) (f : Fld) (n : Nat) : (s.incF c f n).bridge = s.bridge := rfl
@[simp] theorem State.incF_stay (c : Copy) (f : Fld) (n : Nat) : (s.incF c f n).stay = s.stay := rfl
@[simp] theorem State.incF_net (c : Copy) (f : Fld) (n : Nat) : (s.incF c f n).net = s.net := rfl
@[simp] theorem State.incF_sup (c : Copy) (f : Fld) (n : Nat) : (s.incF c f n).sup = s.sup := rfl
@[simp] theorem State.incF_field (c : Copy) (f : Fld) (n : Nat) : (s.incF c f n).field = s.field := rfl
@[simp] theorem State.incF_upd (c : Copy) (f : Fld) (n : Nat) : (s.incF c f n).upd = s.upd := rfl
@[simp] theorem State.incF_supply (c : Copy) (f : Fld) (n : Nat) : (s.incF c f n).supply = s.supply := rfl
@[simp] theorem State.incF_panel (c : Copy) (f : Fld) (n : Nat) : (s.incF c f n).panel = s.panel := rfl
@[simp] theorem State.incF_standby (c : Copy) (f : Fld) (n : Nat) : (s.incF c f n).standby = s.standby := rfl
@[simp] theorem State.incF_mon (c : Copy) (f : Fld) (n : Nat) : (s.incF c f n).mon = s.mon := rfl
@[simp] theorem State.incF_free (c : Copy) (f : Fld) (n : Nat) : (s.incF c f n).free = s.free := rfl

/-! ## `State.wrapF` -/

@[simp] theorem State.wrapF_now (c : Copy) (f : Fld) (n : Nat) : (s.wrapF c f n).now = s.now := rfl
@[simp] theorem State.wrapF_pending (c : Copy) (f : Fld) (n : Nat) : (s.wrapF c f n).pending = s.pending := rfl
@[simp] theorem State.wrapF_shown (c : Copy) (f : Fld) (n : Nat) : (s.wrapF c f n).shown = s.shown := rfl
@[simp] theorem State.wrapF_writes (c : Copy) (f : Fld) (n : Nat) : (s.wrapF c f n).writes = s.writes := rfl
@[simp] theorem State.wrapF_ctl (c : Copy) (f : Fld) (n : Nat) : (s.wrapF c f n).ctl = s.ctl := rfl
@[simp] theorem State.wrapF_masts (c : Copy) (f : Fld) (n : Nat) : (s.wrapF c f n).masts = s.masts := rfl
@[simp] theorem State.wrapF_log (c : Copy) (f : Fld) (n : Nat) : (s.wrapF c f n).log = s.log := rfl
@[simp] theorem State.wrapF_key (c : Copy) (f : Fld) (n : Nat) : (s.wrapF c f n).key = s.key := rfl
@[simp] theorem State.wrapF_lane (c : Copy) (f : Fld) (n : Nat) : (s.wrapF c f n).lane = s.lane := rfl
@[simp] theorem State.wrapF_intake (c : Copy) (f : Fld) (n : Nat) : (s.wrapF c f n).intake = s.intake := rfl
@[simp] theorem State.wrapF_time (c : Copy) (f : Fld) (n : Nat) : (s.wrapF c f n).time = s.time := rfl
@[simp] theorem State.wrapF_pos (c : Copy) (f : Fld) (n : Nat) : (s.wrapF c f n).pos = s.pos := rfl
@[simp] theorem State.wrapF_fb (c : Copy) (f : Fld) (n : Nat) : (s.wrapF c f n).fb = s.fb := rfl
@[simp] theorem State.wrapF_app (c : Copy) (f : Fld) (n : Nat) : (s.wrapF c f n).app = s.app := rfl
@[simp] theorem State.wrapF_queue (c : Copy) (f : Fld) (n : Nat) : (s.wrapF c f n).queue = s.queue := rfl
@[simp] theorem State.wrapF_bridge (c : Copy) (f : Fld) (n : Nat) : (s.wrapF c f n).bridge = s.bridge := rfl
@[simp] theorem State.wrapF_stay (c : Copy) (f : Fld) (n : Nat) : (s.wrapF c f n).stay = s.stay := rfl
@[simp] theorem State.wrapF_net (c : Copy) (f : Fld) (n : Nat) : (s.wrapF c f n).net = s.net := rfl
@[simp] theorem State.wrapF_sup (c : Copy) (f : Fld) (n : Nat) : (s.wrapF c f n).sup = s.sup := rfl
@[simp] theorem State.wrapF_field (c : Copy) (f : Fld) (n : Nat) : (s.wrapF c f n).field = s.field := rfl
@[simp] theorem State.wrapF_upd (c : Copy) (f : Fld) (n : Nat) : (s.wrapF c f n).upd = s.upd := rfl
@[simp] theorem State.wrapF_supply (c : Copy) (f : Fld) (n : Nat) : (s.wrapF c f n).supply = s.supply := rfl
@[simp] theorem State.wrapF_panel (c : Copy) (f : Fld) (n : Nat) : (s.wrapF c f n).panel = s.panel := rfl
@[simp] theorem State.wrapF_standby (c : Copy) (f : Fld) (n : Nat) : (s.wrapF c f n).standby = s.standby := rfl
@[simp] theorem State.wrapF_mon (c : Copy) (f : Fld) (n : Nat) : (s.wrapF c f n).mon = s.mon := rfl
@[simp] theorem State.wrapF_free (c : Copy) (f : Fld) (n : Nat) : (s.wrapF c f n).free = s.free := rfl

/-! ## `State.maxF` -/

@[simp] theorem State.maxF_now (c : Copy) (f : Fld) (v : Nat) : (s.maxF c f v).now = s.now := rfl
@[simp] theorem State.maxF_pending (c : Copy) (f : Fld) (v : Nat) : (s.maxF c f v).pending = s.pending := rfl
@[simp] theorem State.maxF_shown (c : Copy) (f : Fld) (v : Nat) : (s.maxF c f v).shown = s.shown := rfl
@[simp] theorem State.maxF_writes (c : Copy) (f : Fld) (v : Nat) : (s.maxF c f v).writes = s.writes := rfl
@[simp] theorem State.maxF_ctl (c : Copy) (f : Fld) (v : Nat) : (s.maxF c f v).ctl = s.ctl := rfl
@[simp] theorem State.maxF_masts (c : Copy) (f : Fld) (v : Nat) : (s.maxF c f v).masts = s.masts := rfl
@[simp] theorem State.maxF_log (c : Copy) (f : Fld) (v : Nat) : (s.maxF c f v).log = s.log := rfl
@[simp] theorem State.maxF_key (c : Copy) (f : Fld) (v : Nat) : (s.maxF c f v).key = s.key := rfl
@[simp] theorem State.maxF_lane (c : Copy) (f : Fld) (v : Nat) : (s.maxF c f v).lane = s.lane := rfl
@[simp] theorem State.maxF_intake (c : Copy) (f : Fld) (v : Nat) : (s.maxF c f v).intake = s.intake := rfl
@[simp] theorem State.maxF_time (c : Copy) (f : Fld) (v : Nat) : (s.maxF c f v).time = s.time := rfl
@[simp] theorem State.maxF_pos (c : Copy) (f : Fld) (v : Nat) : (s.maxF c f v).pos = s.pos := rfl
@[simp] theorem State.maxF_fb (c : Copy) (f : Fld) (v : Nat) : (s.maxF c f v).fb = s.fb := rfl
@[simp] theorem State.maxF_app (c : Copy) (f : Fld) (v : Nat) : (s.maxF c f v).app = s.app := rfl
@[simp] theorem State.maxF_queue (c : Copy) (f : Fld) (v : Nat) : (s.maxF c f v).queue = s.queue := rfl
@[simp] theorem State.maxF_bridge (c : Copy) (f : Fld) (v : Nat) : (s.maxF c f v).bridge = s.bridge := rfl
@[simp] theorem State.maxF_stay (c : Copy) (f : Fld) (v : Nat) : (s.maxF c f v).stay = s.stay := rfl
@[simp] theorem State.maxF_net (c : Copy) (f : Fld) (v : Nat) : (s.maxF c f v).net = s.net := rfl
@[simp] theorem State.maxF_sup (c : Copy) (f : Fld) (v : Nat) : (s.maxF c f v).sup = s.sup := rfl
@[simp] theorem State.maxF_field (c : Copy) (f : Fld) (v : Nat) : (s.maxF c f v).field = s.field := rfl
@[simp] theorem State.maxF_upd (c : Copy) (f : Fld) (v : Nat) : (s.maxF c f v).upd = s.upd := rfl
@[simp] theorem State.maxF_supply (c : Copy) (f : Fld) (v : Nat) : (s.maxF c f v).supply = s.supply := rfl
@[simp] theorem State.maxF_panel (c : Copy) (f : Fld) (v : Nat) : (s.maxF c f v).panel = s.panel := rfl
@[simp] theorem State.maxF_standby (c : Copy) (f : Fld) (v : Nat) : (s.maxF c f v).standby = s.standby := rfl
@[simp] theorem State.maxF_mon (c : Copy) (f : Fld) (v : Nat) : (s.maxF c f v).mon = s.mon := rfl
@[simp] theorem State.maxF_free (c : Copy) (f : Fld) (v : Nat) : (s.maxF c f v).free = s.free := rfl

/-! ## `State.setMast` -/

@[simp] theorem State.setMast_now (m : Mast) (x : MastState) : (s.setMast m x).now = s.now := rfl
@[simp] theorem State.setMast_pending (m : Mast) (x : MastState) : (s.setMast m x).pending = s.pending := rfl
@[simp] theorem State.setMast_regs (m : Mast) (x : MastState) : (s.setMast m x).regs = s.regs := rfl
@[simp] theorem State.setMast_shown (m : Mast) (x : MastState) : (s.setMast m x).shown = s.shown := rfl
@[simp] theorem State.setMast_writes (m : Mast) (x : MastState) : (s.setMast m x).writes = s.writes := rfl
@[simp] theorem State.setMast_ctl (m : Mast) (x : MastState) : (s.setMast m x).ctl = s.ctl := rfl
@[simp] theorem State.setMast_log (m : Mast) (x : MastState) : (s.setMast m x).log = s.log := rfl
@[simp] theorem State.setMast_key (m : Mast) (x : MastState) : (s.setMast m x).key = s.key := rfl
@[simp] theorem State.setMast_lane (m : Mast) (x : MastState) : (s.setMast m x).lane = s.lane := rfl
@[simp] theorem State.setMast_intake (m : Mast) (x : MastState) : (s.setMast m x).intake = s.intake := rfl
@[simp] theorem State.setMast_time (m : Mast) (x : MastState) : (s.setMast m x).time = s.time := rfl
@[simp] theorem State.setMast_pos (m : Mast) (x : MastState) : (s.setMast m x).pos = s.pos := rfl
@[simp] theorem State.setMast_fb (m : Mast) (x : MastState) : (s.setMast m x).fb = s.fb := rfl
@[simp] theorem State.setMast_app (m : Mast) (x : MastState) : (s.setMast m x).app = s.app := rfl
@[simp] theorem State.setMast_queue (m : Mast) (x : MastState) : (s.setMast m x).queue = s.queue := rfl
@[simp] theorem State.setMast_bridge (m : Mast) (x : MastState) : (s.setMast m x).bridge = s.bridge := rfl
@[simp] theorem State.setMast_stay (m : Mast) (x : MastState) : (s.setMast m x).stay = s.stay := rfl
@[simp] theorem State.setMast_net (m : Mast) (x : MastState) : (s.setMast m x).net = s.net := rfl
@[simp] theorem State.setMast_sup (m : Mast) (x : MastState) : (s.setMast m x).sup = s.sup := rfl
@[simp] theorem State.setMast_field (m : Mast) (x : MastState) : (s.setMast m x).field = s.field := rfl
@[simp] theorem State.setMast_upd (m : Mast) (x : MastState) : (s.setMast m x).upd = s.upd := rfl
@[simp] theorem State.setMast_supply (m : Mast) (x : MastState) : (s.setMast m x).supply = s.supply := rfl
@[simp] theorem State.setMast_panel (m : Mast) (x : MastState) : (s.setMast m x).panel = s.panel := rfl
@[simp] theorem State.setMast_standby (m : Mast) (x : MastState) : (s.setMast m x).standby = s.standby := rfl
@[simp] theorem State.setMast_mon (m : Mast) (x : MastState) : (s.setMast m x).mon = s.mon := rfl
@[simp] theorem State.setMast_free (m : Mast) (x : MastState) : (s.setMast m x).free = s.free := rfl

/-! ## `State.setMem` -/

@[simp] theorem State.setMem_now (m : Mast) (x : Memory) : (s.setMem m x).now = s.now := rfl
@[simp] theorem State.setMem_pending (m : Mast) (x : Memory) : (s.setMem m x).pending = s.pending := rfl
@[simp] theorem State.setMem_regs (m : Mast) (x : Memory) : (s.setMem m x).regs = s.regs := rfl
@[simp] theorem State.setMem_shown (m : Mast) (x : Memory) : (s.setMem m x).shown = s.shown := rfl
@[simp] theorem State.setMem_writes (m : Mast) (x : Memory) : (s.setMem m x).writes = s.writes := rfl
@[simp] theorem State.setMem_ctl (m : Mast) (x : Memory) : (s.setMem m x).ctl = s.ctl := rfl
@[simp] theorem State.setMem_log (m : Mast) (x : Memory) : (s.setMem m x).log = s.log := rfl
@[simp] theorem State.setMem_key (m : Mast) (x : Memory) : (s.setMem m x).key = s.key := rfl
@[simp] theorem State.setMem_lane (m : Mast) (x : Memory) : (s.setMem m x).lane = s.lane := rfl
@[simp] theorem State.setMem_intake (m : Mast) (x : Memory) : (s.setMem m x).intake = s.intake := rfl
@[simp] theorem State.setMem_time (m : Mast) (x : Memory) : (s.setMem m x).time = s.time := rfl
@[simp] theorem State.setMem_pos (m : Mast) (x : Memory) : (s.setMem m x).pos = s.pos := rfl
@[simp] theorem State.setMem_fb (m : Mast) (x : Memory) : (s.setMem m x).fb = s.fb := rfl
@[simp] theorem State.setMem_app (m : Mast) (x : Memory) : (s.setMem m x).app = s.app := rfl
@[simp] theorem State.setMem_queue (m : Mast) (x : Memory) : (s.setMem m x).queue = s.queue := rfl
@[simp] theorem State.setMem_bridge (m : Mast) (x : Memory) : (s.setMem m x).bridge = s.bridge := rfl
@[simp] theorem State.setMem_stay (m : Mast) (x : Memory) : (s.setMem m x).stay = s.stay := rfl
@[simp] theorem State.setMem_net (m : Mast) (x : Memory) : (s.setMem m x).net = s.net := rfl
@[simp] theorem State.setMem_sup (m : Mast) (x : Memory) : (s.setMem m x).sup = s.sup := rfl
@[simp] theorem State.setMem_field (m : Mast) (x : Memory) : (s.setMem m x).field = s.field := rfl
@[simp] theorem State.setMem_upd (m : Mast) (x : Memory) : (s.setMem m x).upd = s.upd := rfl
@[simp] theorem State.setMem_supply (m : Mast) (x : Memory) : (s.setMem m x).supply = s.supply := rfl
@[simp] theorem State.setMem_panel (m : Mast) (x : Memory) : (s.setMem m x).panel = s.panel := rfl
@[simp] theorem State.setMem_standby (m : Mast) (x : Memory) : (s.setMem m x).standby = s.standby := rfl
@[simp] theorem State.setMem_mon (m : Mast) (x : Memory) : (s.setMem m x).mon = s.mon := rfl
@[simp] theorem State.setMem_free (m : Mast) (x : Memory) : (s.setMem m x).free = s.free := rfl

/-! ## `State.answer` -/

@[simp] theorem State.answer_now (m : Mast) (t : Triad) (a : BusAnswer) : (s.answer m t a).now = s.now := rfl
@[simp] theorem State.answer_pending (m : Mast) (t : Triad) (a : BusAnswer) :
    (s.answer m t a).pending = s.pending := rfl
@[simp] theorem State.answer_regs (m : Mast) (t : Triad) (a : BusAnswer) : (s.answer m t a).regs = s.regs := rfl
@[simp] theorem State.answer_shown (m : Mast) (t : Triad) (a : BusAnswer) : (s.answer m t a).shown = s.shown := rfl
@[simp] theorem State.answer_writes (m : Mast) (t : Triad) (a : BusAnswer) : (s.answer m t a).writes = s.writes := rfl
@[simp] theorem State.answer_ctl (m : Mast) (t : Triad) (a : BusAnswer) : (s.answer m t a).ctl = s.ctl := rfl
@[simp] theorem State.answer_log (m : Mast) (t : Triad) (a : BusAnswer) : (s.answer m t a).log = s.log := rfl
@[simp] theorem State.answer_key (m : Mast) (t : Triad) (a : BusAnswer) : (s.answer m t a).key = s.key := rfl
@[simp] theorem State.answer_lane (m : Mast) (t : Triad) (a : BusAnswer) : (s.answer m t a).lane = s.lane := rfl
@[simp] theorem State.answer_intake (m : Mast) (t : Triad) (a : BusAnswer) : (s.answer m t a).intake = s.intake := rfl
@[simp] theorem State.answer_time (m : Mast) (t : Triad) (a : BusAnswer) : (s.answer m t a).time = s.time := rfl
@[simp] theorem State.answer_pos (m : Mast) (t : Triad) (a : BusAnswer) : (s.answer m t a).pos = s.pos := rfl
@[simp] theorem State.answer_fb (m : Mast) (t : Triad) (a : BusAnswer) : (s.answer m t a).fb = s.fb := rfl
@[simp] theorem State.answer_app (m : Mast) (t : Triad) (a : BusAnswer) : (s.answer m t a).app = s.app := rfl
@[simp] theorem State.answer_queue (m : Mast) (t : Triad) (a : BusAnswer) : (s.answer m t a).queue = s.queue := rfl
@[simp] theorem State.answer_bridge (m : Mast) (t : Triad) (a : BusAnswer) : (s.answer m t a).bridge = s.bridge := rfl
@[simp] theorem State.answer_stay (m : Mast) (t : Triad) (a : BusAnswer) : (s.answer m t a).stay = s.stay := rfl
@[simp] theorem State.answer_net (m : Mast) (t : Triad) (a : BusAnswer) : (s.answer m t a).net = s.net := rfl
@[simp] theorem State.answer_sup (m : Mast) (t : Triad) (a : BusAnswer) : (s.answer m t a).sup = s.sup := rfl
@[simp] theorem State.answer_field (m : Mast) (t : Triad) (a : BusAnswer) : (s.answer m t a).field = s.field := rfl
@[simp] theorem State.answer_upd (m : Mast) (t : Triad) (a : BusAnswer) : (s.answer m t a).upd = s.upd := rfl
@[simp] theorem State.answer_supply (m : Mast) (t : Triad) (a : BusAnswer) : (s.answer m t a).supply = s.supply := rfl
@[simp] theorem State.answer_panel (m : Mast) (t : Triad) (a : BusAnswer) : (s.answer m t a).panel = s.panel := rfl
@[simp] theorem State.answer_standby (m : Mast) (t : Triad) (a : BusAnswer) :
    (s.answer m t a).standby = s.standby := rfl
@[simp] theorem State.answer_mon (m : Mast) (t : Triad) (a : BusAnswer) : (s.answer m t a).mon = s.mon := rfl
@[simp] theorem State.answer_free (m : Mast) (t : Triad) (a : BusAnswer) : (s.answer m t a).free = s.free := rfl

/-! ## `State.interrupt` -/

@[simp] theorem State.interrupt_now (m : Mast) (which source : Nat) : (s.interrupt m which source).now = s.now := rfl
@[simp] theorem State.interrupt_pending (m : Mast) (which source : Nat) :
    (s.interrupt m which source).pending = s.pending := rfl
@[simp] theorem State.interrupt_regs (m : Mast) (which source : Nat) :
    (s.interrupt m which source).regs = s.regs := rfl
@[simp] theorem State.interrupt_shown (m : Mast) (which source : Nat) :
    (s.interrupt m which source).shown = s.shown := rfl
@[simp] theorem State.interrupt_writes (m : Mast) (which source : Nat) :
    (s.interrupt m which source).writes = s.writes := rfl
@[simp] theorem State.interrupt_ctl (m : Mast) (which source : Nat) : (s.interrupt m which source).ctl = s.ctl := rfl
@[simp] theorem State.interrupt_log (m : Mast) (which source : Nat) : (s.interrupt m which source).log = s.log := rfl
@[simp] theorem State.interrupt_key (m : Mast) (which source : Nat) : (s.interrupt m which source).key = s.key := rfl
@[simp] theorem State.interrupt_lane (m : Mast) (which source : Nat) :
    (s.interrupt m which source).lane = s.lane := rfl
@[simp] theorem State.interrupt_intake (m : Mast) (which source : Nat) :
    (s.interrupt m which source).intake = s.intake := rfl
@[simp] theorem State.interrupt_time (m : Mast) (which source : Nat) :
    (s.interrupt m which source).time = s.time := rfl
@[simp] theorem State.interrupt_pos (m : Mast) (which source : Nat) : (s.interrupt m which source).pos = s.pos := rfl
@[simp] theorem State.interrupt_fb (m : Mast) (which source : Nat) : (s.interrupt m which source).fb = s.fb := rfl
@[simp] theorem State.interrupt_app (m : Mast) (which source : Nat) : (s.interrupt m which source).app = s.app := rfl
@[simp] theorem State.interrupt_queue (m : Mast) (which source : Nat) :
    (s.interrupt m which source).queue = s.queue := rfl
@[simp] theorem State.interrupt_bridge (m : Mast) (which source : Nat) :
    (s.interrupt m which source).bridge = s.bridge := rfl
@[simp] theorem State.interrupt_stay (m : Mast) (which source : Nat) :
    (s.interrupt m which source).stay = s.stay := rfl
@[simp] theorem State.interrupt_net (m : Mast) (which source : Nat) : (s.interrupt m which source).net = s.net := rfl
@[simp] theorem State.interrupt_sup (m : Mast) (which source : Nat) : (s.interrupt m which source).sup = s.sup := rfl
@[simp] theorem State.interrupt_field (m : Mast) (which source : Nat) :
    (s.interrupt m which source).field = s.field := rfl
@[simp] theorem State.interrupt_upd (m : Mast) (which source : Nat) : (s.interrupt m which source).upd = s.upd := rfl
@[simp] theorem State.interrupt_supply (m : Mast) (which source : Nat) :
    (s.interrupt m which source).supply = s.supply := rfl
@[simp] theorem State.interrupt_panel (m : Mast) (which source : Nat) :
    (s.interrupt m which source).panel = s.panel := rfl
@[simp] theorem State.interrupt_standby (m : Mast) (which source : Nat) :
    (s.interrupt m which source).standby = s.standby := rfl
@[simp] theorem State.interrupt_mon (m : Mast) (which source : Nat) : (s.interrupt m which source).mon = s.mon := rfl
@[simp] theorem State.interrupt_free (m : Mast) (which source : Nat) :
    (s.interrupt m which source).free = s.free := rfl

/-! ## `State.goSilent` -/

/-- What cutting frames changes: transmit units, counters and timestamp queues. -/
def State.cuts (l : LanePart) (r : RegFile) (tm : TimePart) : State := { s with lane := l, regs := r, time := tm }

theorem State.cuts_cuts (l l' : LanePart) (r r' : RegFile) (tm tm' : TimePart) :
    (s.cuts l r tm).cuts l' r' tm' = s.cuts l' r' tm' := rfl

theorem State.uncount_cuts (f : TxFrame) : ∃ l r tm, s.uncount f = s.cuts l r tm := by
  unfold State.uncount
  dsimp only
  split
  · exact ⟨_, _, _, rfl⟩
  · exact ⟨_, _, _, rfl⟩

/-- A fold of operations that each cut is one that cuts. -/
theorem State.cuts_foldl {α : Type} (f : State → α → State) (h : ∀ s x, ∃ l r tm, f s x = s.cuts l r tm) (xs : List α) :
    ∀ s : State, ∃ l r tm, xs.foldl f s = s.cuts l r tm := by
  induction xs with
  | nil => exact fun s => ⟨s.lane, s.regs, s.time, rfl⟩
  | cons x xs ih =>
    intro s
    obtain ⟨l, r, tm, e⟩ := h s x
    obtain ⟨l', r', tm', e'⟩ := ih (f s x)
    exact ⟨l', r', tm', by rw [List.foldl_cons, e', e, State.cuts_cuts]⟩

theorem State.cutUnit_cuts (u : Nat) : ∃ l r tm, s.cutUnit u = s.cuts l r tm := by
  unfold State.cutUnit
  dsimp only
  split
  · obtain ⟨l, r, tm, e⟩ := State.cuts_foldl (fun s w => s.uncount w.frame.frame) (fun s w => s.uncount_cuts w.frame.frame)
      ((s.unit u).wire.filter fun w => decide (s.now < w.upTo)) (s.setUnit u ((s.unit u).cut s.now))
    exact ⟨l, r, tm, e⟩
  · exact ⟨_, _, _, rfl⟩

theorem State.cutFrames_cuts (m : Mast) : ∃ l r tm, s.cutFrames m = s.cuts l r tm := by
  unfold State.cutFrames
  refine State.cuts_foldl _ (fun s u => ?_) _ s
  split
  · exact s.cutUnit_cuts u
  · exact ⟨s.lane, s.regs, s.time, rfl⟩

/-- Going fail-silent replaces that mast's state and cuts its frames, or does nothing where it is silent or unpowered already (R92,
R94). -/
theorem State.goSilent_cases (m : Mast) (cause who detail : Nat) :
    s.goSilent m cause who detail = s ∨ ∃ x l r tm, s.goSilent m cause who detail = (s.setMast m x).cuts l r tm := by
  unfold State.goSilent
  dsimp only
  split
  · exact Or.inl rfl
  · obtain ⟨l, r, tm, e⟩ := State.cutFrames_cuts _ m
    exact Or.inr ⟨_, l, r, tm, e⟩

@[simp] theorem State.cutFrames_masts (m : Mast) : (s.cutFrames m).masts = s.masts := by
  obtain ⟨l, r, tm, e⟩ := s.cutFrames_cuts m
  rw [e]; rfl

@[simp] theorem State.cutFrames_mast (m n : Mast) : (s.cutFrames m).mast n = s.mast n := by
  simp [State.mast]

@[simp] theorem State.goSilent_now (m : Mast) (cause who detail : Nat) :
    (s.goSilent m cause who detail).now = s.now := by rcases s.goSilent_cases m cause who detail with h | ⟨x, l, r, tm, h⟩ <;> rw [h]; rfl
@[simp] theorem State.goSilent_pending (m : Mast) (cause who detail : Nat) :
    (s.goSilent m cause who detail).pending = s.pending := by rcases s.goSilent_cases m cause who detail with h | ⟨x, l, r, tm, h⟩ <;> rw [h]; rfl
@[simp] theorem State.goSilent_shown (m : Mast) (cause who detail : Nat) :
    (s.goSilent m cause who detail).shown = s.shown := by rcases s.goSilent_cases m cause who detail with h | ⟨x, l, r, tm, h⟩ <;> rw [h]; rfl
@[simp] theorem State.goSilent_writes (m : Mast) (cause who detail : Nat) :
    (s.goSilent m cause who detail).writes = s.writes := by rcases s.goSilent_cases m cause who detail with h | ⟨x, l, r, tm, h⟩ <;> rw [h]; rfl
@[simp] theorem State.goSilent_ctl (m : Mast) (cause who detail : Nat) :
    (s.goSilent m cause who detail).ctl = s.ctl := by rcases s.goSilent_cases m cause who detail with h | ⟨x, l, r, tm, h⟩ <;> rw [h]; rfl
@[simp] theorem State.goSilent_log (m : Mast) (cause who detail : Nat) :
    (s.goSilent m cause who detail).log = s.log := by rcases s.goSilent_cases m cause who detail with h | ⟨x, l, r, tm, h⟩ <;> rw [h]; rfl
@[simp] theorem State.goSilent_key (m : Mast) (cause who detail : Nat) :
    (s.goSilent m cause who detail).key = s.key := by rcases s.goSilent_cases m cause who detail with h | ⟨x, l, r, tm, h⟩ <;> rw [h]; rfl
@[simp] theorem State.goSilent_intake (m : Mast) (cause who detail : Nat) :
    (s.goSilent m cause who detail).intake = s.intake := by rcases s.goSilent_cases m cause who detail with h | ⟨x, l, r, tm, h⟩ <;> rw [h]; rfl
@[simp] theorem State.goSilent_pos (m : Mast) (cause who detail : Nat) :
    (s.goSilent m cause who detail).pos = s.pos := by rcases s.goSilent_cases m cause who detail with h | ⟨x, l, r, tm, h⟩ <;> rw [h]; rfl
@[simp] theorem State.goSilent_fb (m : Mast) (cause who detail : Nat) :
    (s.goSilent m cause who detail).fb = s.fb := by rcases s.goSilent_cases m cause who detail with h | ⟨x, l, r, tm, h⟩ <;> rw [h]; rfl
@[simp] theorem State.goSilent_app (m : Mast) (cause who detail : Nat) :
    (s.goSilent m cause who detail).app = s.app := by rcases s.goSilent_cases m cause who detail with h | ⟨x, l, r, tm, h⟩ <;> rw [h]; rfl
@[simp] theorem State.goSilent_queue (m : Mast) (cause who detail : Nat) :
    (s.goSilent m cause who detail).queue = s.queue := by rcases s.goSilent_cases m cause who detail with h | ⟨x, l, r, tm, h⟩ <;> rw [h]; rfl
@[simp] theorem State.goSilent_bridge (m : Mast) (cause who detail : Nat) :
    (s.goSilent m cause who detail).bridge = s.bridge := by rcases s.goSilent_cases m cause who detail with h | ⟨x, l, r, tm, h⟩ <;> rw [h]; rfl
@[simp] theorem State.goSilent_stay (m : Mast) (cause who detail : Nat) :
    (s.goSilent m cause who detail).stay = s.stay := by rcases s.goSilent_cases m cause who detail with h | ⟨x, l, r, tm, h⟩ <;> rw [h]; rfl
@[simp] theorem State.goSilent_net (m : Mast) (cause who detail : Nat) :
    (s.goSilent m cause who detail).net = s.net := by rcases s.goSilent_cases m cause who detail with h | ⟨x, l, r, tm, h⟩ <;> rw [h]; rfl
@[simp] theorem State.goSilent_sup (m : Mast) (cause who detail : Nat) :
    (s.goSilent m cause who detail).sup = s.sup := by rcases s.goSilent_cases m cause who detail with h | ⟨x, l, r, tm, h⟩ <;> rw [h]; rfl
@[simp] theorem State.goSilent_field (m : Mast) (cause who detail : Nat) :
    (s.goSilent m cause who detail).field = s.field := by rcases s.goSilent_cases m cause who detail with h | ⟨x, l, r, tm, h⟩ <;> rw [h]; rfl
@[simp] theorem State.goSilent_upd (m : Mast) (cause who detail : Nat) :
    (s.goSilent m cause who detail).upd = s.upd := by rcases s.goSilent_cases m cause who detail with h | ⟨x, l, r, tm, h⟩ <;> rw [h]; rfl
@[simp] theorem State.goSilent_supply (m : Mast) (cause who detail : Nat) :
    (s.goSilent m cause who detail).supply = s.supply := by rcases s.goSilent_cases m cause who detail with h | ⟨x, l, r, tm, h⟩ <;> rw [h]; rfl
@[simp] theorem State.goSilent_panel (m : Mast) (cause who detail : Nat) :
    (s.goSilent m cause who detail).panel = s.panel := by rcases s.goSilent_cases m cause who detail with h | ⟨x, l, r, tm, h⟩ <;> rw [h]; rfl
@[simp] theorem State.goSilent_standby (m : Mast) (cause who detail : Nat) :
    (s.goSilent m cause who detail).standby = s.standby := by rcases s.goSilent_cases m cause who detail with h | ⟨x, l, r, tm, h⟩ <;> rw [h]; rfl
@[simp] theorem State.goSilent_mon (m : Mast) (cause who detail : Nat) :
    (s.goSilent m cause who detail).mon = s.mon := by rcases s.goSilent_cases m cause who detail with h | ⟨x, l, r, tm, h⟩ <;> rw [h]; rfl
@[simp] theorem State.goSilent_free (m : Mast) (cause who detail : Nat) :
    (s.goSilent m cause who detail).free = s.free := by rcases s.goSilent_cases m cause who detail with h | ⟨x, l, r, tm, h⟩ <;> rw [h]; rfl

/-! ## `State.requestSilent` -/

@[simp] theorem State.requestSilent_now (m : Mast) (code : Nat) :
    (s.requestSilent m code).now = s.now := by exact State.goSilent_now s _ _ _ _
@[simp] theorem State.requestSilent_pending (m : Mast) (code : Nat) :
    (s.requestSilent m code).pending = s.pending := by exact State.goSilent_pending s _ _ _ _
@[simp] theorem State.requestSilent_shown (m : Mast) (code : Nat) :
    (s.requestSilent m code).shown = s.shown := by exact State.goSilent_shown s _ _ _ _
@[simp] theorem State.requestSilent_writes (m : Mast) (code : Nat) :
    (s.requestSilent m code).writes = s.writes := by exact State.goSilent_writes s _ _ _ _
@[simp] theorem State.requestSilent_ctl (m : Mast) (code : Nat) :
    (s.requestSilent m code).ctl = s.ctl := by exact State.goSilent_ctl s _ _ _ _
@[simp] theorem State.requestSilent_log (m : Mast) (code : Nat) :
    (s.requestSilent m code).log = s.log := by exact State.goSilent_log s _ _ _ _
@[simp] theorem State.requestSilent_key (m : Mast) (code : Nat) :
    (s.requestSilent m code).key = s.key := by exact State.goSilent_key s _ _ _ _
@[simp] theorem State.requestSilent_intake (m : Mast) (code : Nat) :
    (s.requestSilent m code).intake = s.intake := by exact State.goSilent_intake s _ _ _ _
@[simp] theorem State.requestSilent_pos (m : Mast) (code : Nat) :
    (s.requestSilent m code).pos = s.pos := by exact State.goSilent_pos s _ _ _ _
@[simp] theorem State.requestSilent_fb (m : Mast) (code : Nat) :
    (s.requestSilent m code).fb = s.fb := by exact State.goSilent_fb s _ _ _ _
@[simp] theorem State.requestSilent_app (m : Mast) (code : Nat) :
    (s.requestSilent m code).app = s.app := by exact State.goSilent_app s _ _ _ _
@[simp] theorem State.requestSilent_queue (m : Mast) (code : Nat) :
    (s.requestSilent m code).queue = s.queue := by exact State.goSilent_queue s _ _ _ _
@[simp] theorem State.requestSilent_bridge (m : Mast) (code : Nat) :
    (s.requestSilent m code).bridge = s.bridge := by exact State.goSilent_bridge s _ _ _ _
@[simp] theorem State.requestSilent_stay (m : Mast) (code : Nat) :
    (s.requestSilent m code).stay = s.stay := by exact State.goSilent_stay s _ _ _ _
@[simp] theorem State.requestSilent_net (m : Mast) (code : Nat) :
    (s.requestSilent m code).net = s.net := by exact State.goSilent_net s _ _ _ _
@[simp] theorem State.requestSilent_sup (m : Mast) (code : Nat) :
    (s.requestSilent m code).sup = s.sup := by exact State.goSilent_sup s _ _ _ _
@[simp] theorem State.requestSilent_field (m : Mast) (code : Nat) :
    (s.requestSilent m code).field = s.field := by exact State.goSilent_field s _ _ _ _
@[simp] theorem State.requestSilent_upd (m : Mast) (code : Nat) :
    (s.requestSilent m code).upd = s.upd := by exact State.goSilent_upd s _ _ _ _
@[simp] theorem State.requestSilent_supply (m : Mast) (code : Nat) :
    (s.requestSilent m code).supply = s.supply := by exact State.goSilent_supply s _ _ _ _
@[simp] theorem State.requestSilent_panel (m : Mast) (code : Nat) :
    (s.requestSilent m code).panel = s.panel := by exact State.goSilent_panel s _ _ _ _
@[simp] theorem State.requestSilent_standby (m : Mast) (code : Nat) :
    (s.requestSilent m code).standby = s.standby := by exact State.goSilent_standby s _ _ _ _
@[simp] theorem State.requestSilent_mon (m : Mast) (code : Nat) :
    (s.requestSilent m code).mon = s.mon := by exact State.goSilent_mon s _ _ _ _
@[simp] theorem State.requestSilent_free (m : Mast) (code : Nat) :
    (s.requestSilent m code).free = s.free := by exact State.goSilent_free s _ _ _ _

/-! ## `State.raiseAt` -/

@[simp] theorem State.raiseAt_now (stamp src code a1 a2 : Nat) (held : Bool) :
    (s.raiseAt stamp src code a1 a2 held).now = s.now := rfl
@[simp] theorem State.raiseAt_pending (stamp src code a1 a2 : Nat) (held : Bool) :
    (s.raiseAt stamp src code a1 a2 held).pending = s.pending := rfl
@[simp] theorem State.raiseAt_regs (stamp src code a1 a2 : Nat) (held : Bool) :
    (s.raiseAt stamp src code a1 a2 held).regs = s.regs := rfl
@[simp] theorem State.raiseAt_shown (stamp src code a1 a2 : Nat) (held : Bool) :
    (s.raiseAt stamp src code a1 a2 held).shown = s.shown := rfl
@[simp] theorem State.raiseAt_writes (stamp src code a1 a2 : Nat) (held : Bool) :
    (s.raiseAt stamp src code a1 a2 held).writes = s.writes := rfl
@[simp] theorem State.raiseAt_ctl (stamp src code a1 a2 : Nat) (held : Bool) :
    (s.raiseAt stamp src code a1 a2 held).ctl = s.ctl := rfl
@[simp] theorem State.raiseAt_masts (stamp src code a1 a2 : Nat) (held : Bool) :
    (s.raiseAt stamp src code a1 a2 held).masts = s.masts := rfl
@[simp] theorem State.raiseAt_key (stamp src code a1 a2 : Nat) (held : Bool) :
    (s.raiseAt stamp src code a1 a2 held).key = s.key := rfl
@[simp] theorem State.raiseAt_lane (stamp src code a1 a2 : Nat) (held : Bool) :
    (s.raiseAt stamp src code a1 a2 held).lane = s.lane := rfl
@[simp] theorem State.raiseAt_intake (stamp src code a1 a2 : Nat) (held : Bool) :
    (s.raiseAt stamp src code a1 a2 held).intake = s.intake := rfl
@[simp] theorem State.raiseAt_time (stamp src code a1 a2 : Nat) (held : Bool) :
    (s.raiseAt stamp src code a1 a2 held).time = s.time := rfl
@[simp] theorem State.raiseAt_pos (stamp src code a1 a2 : Nat) (held : Bool) :
    (s.raiseAt stamp src code a1 a2 held).pos = s.pos := rfl
@[simp] theorem State.raiseAt_fb (stamp src code a1 a2 : Nat) (held : Bool) :
    (s.raiseAt stamp src code a1 a2 held).fb = s.fb := rfl
@[simp] theorem State.raiseAt_app (stamp src code a1 a2 : Nat) (held : Bool) :
    (s.raiseAt stamp src code a1 a2 held).app = s.app := rfl
@[simp] theorem State.raiseAt_queue (stamp src code a1 a2 : Nat) (held : Bool) :
    (s.raiseAt stamp src code a1 a2 held).queue = s.queue := rfl
@[simp] theorem State.raiseAt_bridge (stamp src code a1 a2 : Nat) (held : Bool) :
    (s.raiseAt stamp src code a1 a2 held).bridge = s.bridge := rfl
@[simp] theorem State.raiseAt_stay (stamp src code a1 a2 : Nat) (held : Bool) :
    (s.raiseAt stamp src code a1 a2 held).stay = s.stay := rfl
@[simp] theorem State.raiseAt_net (stamp src code a1 a2 : Nat) (held : Bool) :
    (s.raiseAt stamp src code a1 a2 held).net = s.net := rfl
@[simp] theorem State.raiseAt_sup (stamp src code a1 a2 : Nat) (held : Bool) :
    (s.raiseAt stamp src code a1 a2 held).sup = s.sup := rfl
@[simp] theorem State.raiseAt_field (stamp src code a1 a2 : Nat) (held : Bool) :
    (s.raiseAt stamp src code a1 a2 held).field = s.field := rfl
@[simp] theorem State.raiseAt_upd (stamp src code a1 a2 : Nat) (held : Bool) :
    (s.raiseAt stamp src code a1 a2 held).upd = s.upd := rfl
@[simp] theorem State.raiseAt_supply (stamp src code a1 a2 : Nat) (held : Bool) :
    (s.raiseAt stamp src code a1 a2 held).supply = s.supply := rfl
@[simp] theorem State.raiseAt_panel (stamp src code a1 a2 : Nat) (held : Bool) :
    (s.raiseAt stamp src code a1 a2 held).panel = s.panel := rfl
@[simp] theorem State.raiseAt_standby (stamp src code a1 a2 : Nat) (held : Bool) :
    (s.raiseAt stamp src code a1 a2 held).standby = s.standby := rfl
@[simp] theorem State.raiseAt_mon (stamp src code a1 a2 : Nat) (held : Bool) :
    (s.raiseAt stamp src code a1 a2 held).mon = s.mon := rfl
@[simp] theorem State.raiseAt_free (stamp src code a1 a2 : Nat) (held : Bool) :
    (s.raiseAt stamp src code a1 a2 held).free = s.free := rfl

/-! ## `State.raiseBy` -/

@[simp] theorem State.raiseBy_now (src code a1 a2 : Nat) : (s.raiseBy src code a1 a2).now = s.now := rfl
@[simp] theorem State.raiseBy_pending (src code a1 a2 : Nat) : (s.raiseBy src code a1 a2).pending = s.pending := rfl
@[simp] theorem State.raiseBy_regs (src code a1 a2 : Nat) : (s.raiseBy src code a1 a2).regs = s.regs := rfl
@[simp] theorem State.raiseBy_shown (src code a1 a2 : Nat) : (s.raiseBy src code a1 a2).shown = s.shown := rfl
@[simp] theorem State.raiseBy_writes (src code a1 a2 : Nat) : (s.raiseBy src code a1 a2).writes = s.writes := rfl
@[simp] theorem State.raiseBy_ctl (src code a1 a2 : Nat) : (s.raiseBy src code a1 a2).ctl = s.ctl := rfl
@[simp] theorem State.raiseBy_masts (src code a1 a2 : Nat) : (s.raiseBy src code a1 a2).masts = s.masts := rfl
@[simp] theorem State.raiseBy_key (src code a1 a2 : Nat) : (s.raiseBy src code a1 a2).key = s.key := rfl
@[simp] theorem State.raiseBy_lane (src code a1 a2 : Nat) : (s.raiseBy src code a1 a2).lane = s.lane := rfl
@[simp] theorem State.raiseBy_intake (src code a1 a2 : Nat) : (s.raiseBy src code a1 a2).intake = s.intake := rfl
@[simp] theorem State.raiseBy_time (src code a1 a2 : Nat) : (s.raiseBy src code a1 a2).time = s.time := rfl
@[simp] theorem State.raiseBy_pos (src code a1 a2 : Nat) : (s.raiseBy src code a1 a2).pos = s.pos := rfl
@[simp] theorem State.raiseBy_fb (src code a1 a2 : Nat) : (s.raiseBy src code a1 a2).fb = s.fb := rfl
@[simp] theorem State.raiseBy_app (src code a1 a2 : Nat) : (s.raiseBy src code a1 a2).app = s.app := rfl
@[simp] theorem State.raiseBy_queue (src code a1 a2 : Nat) : (s.raiseBy src code a1 a2).queue = s.queue := rfl
@[simp] theorem State.raiseBy_bridge (src code a1 a2 : Nat) : (s.raiseBy src code a1 a2).bridge = s.bridge := rfl
@[simp] theorem State.raiseBy_stay (src code a1 a2 : Nat) : (s.raiseBy src code a1 a2).stay = s.stay := rfl
@[simp] theorem State.raiseBy_net (src code a1 a2 : Nat) : (s.raiseBy src code a1 a2).net = s.net := rfl
@[simp] theorem State.raiseBy_sup (src code a1 a2 : Nat) : (s.raiseBy src code a1 a2).sup = s.sup := rfl
@[simp] theorem State.raiseBy_field (src code a1 a2 : Nat) : (s.raiseBy src code a1 a2).field = s.field := rfl
@[simp] theorem State.raiseBy_upd (src code a1 a2 : Nat) : (s.raiseBy src code a1 a2).upd = s.upd := rfl
@[simp] theorem State.raiseBy_supply (src code a1 a2 : Nat) : (s.raiseBy src code a1 a2).supply = s.supply := rfl
@[simp] theorem State.raiseBy_panel (src code a1 a2 : Nat) : (s.raiseBy src code a1 a2).panel = s.panel := rfl
@[simp] theorem State.raiseBy_standby (src code a1 a2 : Nat) : (s.raiseBy src code a1 a2).standby = s.standby := rfl
@[simp] theorem State.raiseBy_mon (src code a1 a2 : Nat) : (s.raiseBy src code a1 a2).mon = s.mon := rfl
@[simp] theorem State.raiseBy_free (src code a1 a2 : Nat) : (s.raiseBy src code a1 a2).free = s.free := rfl

/-! ## `State.raiseM` -/

@[simp] theorem State.raiseM_now (m : Mast) (code a1 a2 : Nat) : (s.raiseM m code a1 a2).now = s.now := rfl
@[simp] theorem State.raiseM_pending (m : Mast) (code a1 a2 : Nat) :
    (s.raiseM m code a1 a2).pending = s.pending := rfl
@[simp] theorem State.raiseM_regs (m : Mast) (code a1 a2 : Nat) : (s.raiseM m code a1 a2).regs = s.regs := rfl
@[simp] theorem State.raiseM_shown (m : Mast) (code a1 a2 : Nat) : (s.raiseM m code a1 a2).shown = s.shown := rfl
@[simp] theorem State.raiseM_writes (m : Mast) (code a1 a2 : Nat) : (s.raiseM m code a1 a2).writes = s.writes := rfl
@[simp] theorem State.raiseM_ctl (m : Mast) (code a1 a2 : Nat) : (s.raiseM m code a1 a2).ctl = s.ctl := rfl
@[simp] theorem State.raiseM_masts (m : Mast) (code a1 a2 : Nat) : (s.raiseM m code a1 a2).masts = s.masts := rfl
@[simp] theorem State.raiseM_key (m : Mast) (code a1 a2 : Nat) : (s.raiseM m code a1 a2).key = s.key := rfl
@[simp] theorem State.raiseM_lane (m : Mast) (code a1 a2 : Nat) : (s.raiseM m code a1 a2).lane = s.lane := rfl
@[simp] theorem State.raiseM_intake (m : Mast) (code a1 a2 : Nat) : (s.raiseM m code a1 a2).intake = s.intake := rfl
@[simp] theorem State.raiseM_time (m : Mast) (code a1 a2 : Nat) : (s.raiseM m code a1 a2).time = s.time := rfl
@[simp] theorem State.raiseM_pos (m : Mast) (code a1 a2 : Nat) : (s.raiseM m code a1 a2).pos = s.pos := rfl
@[simp] theorem State.raiseM_fb (m : Mast) (code a1 a2 : Nat) : (s.raiseM m code a1 a2).fb = s.fb := rfl
@[simp] theorem State.raiseM_app (m : Mast) (code a1 a2 : Nat) : (s.raiseM m code a1 a2).app = s.app := rfl
@[simp] theorem State.raiseM_queue (m : Mast) (code a1 a2 : Nat) : (s.raiseM m code a1 a2).queue = s.queue := rfl
@[simp] theorem State.raiseM_bridge (m : Mast) (code a1 a2 : Nat) : (s.raiseM m code a1 a2).bridge = s.bridge := rfl
@[simp] theorem State.raiseM_stay (m : Mast) (code a1 a2 : Nat) : (s.raiseM m code a1 a2).stay = s.stay := rfl
@[simp] theorem State.raiseM_net (m : Mast) (code a1 a2 : Nat) : (s.raiseM m code a1 a2).net = s.net := rfl
@[simp] theorem State.raiseM_sup (m : Mast) (code a1 a2 : Nat) : (s.raiseM m code a1 a2).sup = s.sup := rfl
@[simp] theorem State.raiseM_field (m : Mast) (code a1 a2 : Nat) : (s.raiseM m code a1 a2).field = s.field := rfl
@[simp] theorem State.raiseM_upd (m : Mast) (code a1 a2 : Nat) : (s.raiseM m code a1 a2).upd = s.upd := rfl
@[simp] theorem State.raiseM_supply (m : Mast) (code a1 a2 : Nat) : (s.raiseM m code a1 a2).supply = s.supply := rfl
@[simp] theorem State.raiseM_panel (m : Mast) (code a1 a2 : Nat) : (s.raiseM m code a1 a2).panel = s.panel := rfl
@[simp] theorem State.raiseM_standby (m : Mast) (code a1 a2 : Nat) :
    (s.raiseM m code a1 a2).standby = s.standby := rfl
@[simp] theorem State.raiseM_mon (m : Mast) (code a1 a2 : Nat) : (s.raiseM m code a1 a2).mon = s.mon := rfl
@[simp] theorem State.raiseM_free (m : Mast) (code a1 a2 : Nat) : (s.raiseM m code a1 a2).free = s.free := rfl

/-! ## `State.raise` -/

@[simp] theorem State.raise_now (code a1 a2 : Nat) : (s.raise code a1 a2).now = s.now := rfl
@[simp] theorem State.raise_pending (code a1 a2 : Nat) : (s.raise code a1 a2).pending = s.pending := rfl
@[simp] theorem State.raise_regs (code a1 a2 : Nat) : (s.raise code a1 a2).regs = s.regs := rfl
@[simp] theorem State.raise_shown (code a1 a2 : Nat) : (s.raise code a1 a2).shown = s.shown := rfl
@[simp] theorem State.raise_writes (code a1 a2 : Nat) : (s.raise code a1 a2).writes = s.writes := rfl
@[simp] theorem State.raise_ctl (code a1 a2 : Nat) : (s.raise code a1 a2).ctl = s.ctl := rfl
@[simp] theorem State.raise_masts (code a1 a2 : Nat) : (s.raise code a1 a2).masts = s.masts := rfl
@[simp] theorem State.raise_key (code a1 a2 : Nat) : (s.raise code a1 a2).key = s.key := rfl
@[simp] theorem State.raise_lane (code a1 a2 : Nat) : (s.raise code a1 a2).lane = s.lane := rfl
@[simp] theorem State.raise_intake (code a1 a2 : Nat) : (s.raise code a1 a2).intake = s.intake := rfl
@[simp] theorem State.raise_time (code a1 a2 : Nat) : (s.raise code a1 a2).time = s.time := rfl
@[simp] theorem State.raise_pos (code a1 a2 : Nat) : (s.raise code a1 a2).pos = s.pos := rfl
@[simp] theorem State.raise_fb (code a1 a2 : Nat) : (s.raise code a1 a2).fb = s.fb := rfl
@[simp] theorem State.raise_app (code a1 a2 : Nat) : (s.raise code a1 a2).app = s.app := rfl
@[simp] theorem State.raise_queue (code a1 a2 : Nat) : (s.raise code a1 a2).queue = s.queue := rfl
@[simp] theorem State.raise_bridge (code a1 a2 : Nat) : (s.raise code a1 a2).bridge = s.bridge := rfl
@[simp] theorem State.raise_stay (code a1 a2 : Nat) : (s.raise code a1 a2).stay = s.stay := rfl
@[simp] theorem State.raise_net (code a1 a2 : Nat) : (s.raise code a1 a2).net = s.net := rfl
@[simp] theorem State.raise_sup (code a1 a2 : Nat) : (s.raise code a1 a2).sup = s.sup := rfl
@[simp] theorem State.raise_field (code a1 a2 : Nat) : (s.raise code a1 a2).field = s.field := rfl
@[simp] theorem State.raise_upd (code a1 a2 : Nat) : (s.raise code a1 a2).upd = s.upd := rfl
@[simp] theorem State.raise_supply (code a1 a2 : Nat) : (s.raise code a1 a2).supply = s.supply := rfl
@[simp] theorem State.raise_panel (code a1 a2 : Nat) : (s.raise code a1 a2).panel = s.panel := rfl
@[simp] theorem State.raise_standby (code a1 a2 : Nat) : (s.raise code a1 a2).standby = s.standby := rfl
@[simp] theorem State.raise_mon (code a1 a2 : Nat) : (s.raise code a1 a2).mon = s.mon := rfl
@[simp] theorem State.raise_free (code a1 a2 : Nat) : (s.raise code a1 a2).free = s.free := rfl

/-! ## `State.markLimit` -/

@[simp] theorem State.markLimit_now (src code key : Nat) : (s.markLimit src code key).now = s.now := rfl
@[simp] theorem State.markLimit_pending (src code key : Nat) : (s.markLimit src code key).pending = s.pending := rfl
@[simp] theorem State.markLimit_regs (src code key : Nat) : (s.markLimit src code key).regs = s.regs := rfl
@[simp] theorem State.markLimit_shown (src code key : Nat) : (s.markLimit src code key).shown = s.shown := rfl
@[simp] theorem State.markLimit_writes (src code key : Nat) : (s.markLimit src code key).writes = s.writes := rfl
@[simp] theorem State.markLimit_ctl (src code key : Nat) : (s.markLimit src code key).ctl = s.ctl := rfl
@[simp] theorem State.markLimit_masts (src code key : Nat) : (s.markLimit src code key).masts = s.masts := rfl
@[simp] theorem State.markLimit_key (src code key : Nat) : (s.markLimit src code key).key = s.key := rfl
@[simp] theorem State.markLimit_lane (src code key : Nat) : (s.markLimit src code key).lane = s.lane := rfl
@[simp] theorem State.markLimit_intake (src code key : Nat) : (s.markLimit src code key).intake = s.intake := rfl
@[simp] theorem State.markLimit_time (src code key : Nat) : (s.markLimit src code key).time = s.time := rfl
@[simp] theorem State.markLimit_pos (src code key : Nat) : (s.markLimit src code key).pos = s.pos := rfl
@[simp] theorem State.markLimit_fb (src code key : Nat) : (s.markLimit src code key).fb = s.fb := rfl
@[simp] theorem State.markLimit_app (src code key : Nat) : (s.markLimit src code key).app = s.app := rfl
@[simp] theorem State.markLimit_queue (src code key : Nat) : (s.markLimit src code key).queue = s.queue := rfl
@[simp] theorem State.markLimit_bridge (src code key : Nat) : (s.markLimit src code key).bridge = s.bridge := rfl
@[simp] theorem State.markLimit_stay (src code key : Nat) : (s.markLimit src code key).stay = s.stay := rfl
@[simp] theorem State.markLimit_net (src code key : Nat) : (s.markLimit src code key).net = s.net := rfl
@[simp] theorem State.markLimit_sup (src code key : Nat) : (s.markLimit src code key).sup = s.sup := rfl
@[simp] theorem State.markLimit_field (src code key : Nat) : (s.markLimit src code key).field = s.field := rfl
@[simp] theorem State.markLimit_upd (src code key : Nat) : (s.markLimit src code key).upd = s.upd := rfl
@[simp] theorem State.markLimit_supply (src code key : Nat) : (s.markLimit src code key).supply = s.supply := rfl
@[simp] theorem State.markLimit_panel (src code key : Nat) : (s.markLimit src code key).panel = s.panel := rfl
@[simp] theorem State.markLimit_standby (src code key : Nat) : (s.markLimit src code key).standby = s.standby := rfl
@[simp] theorem State.markLimit_mon (src code key : Nat) : (s.markLimit src code key).mon = s.mon := rfl
@[simp] theorem State.markLimit_free (src code key : Nat) : (s.markLimit src code key).free = s.free := rfl

/-! ## `State.raiseLimited` -/

@[simp] theorem State.raiseLimited_now (src key code a1 a2 : Nat) :
    (s.raiseLimited src key code a1 a2).now = s.now := by unfold State.raiseLimited; split <;> rfl
@[simp] theorem State.raiseLimited_pending (src key code a1 a2 : Nat) :
    (s.raiseLimited src key code a1 a2).pending = s.pending := by unfold State.raiseLimited; split <;> rfl
@[simp] theorem State.raiseLimited_regs (src key code a1 a2 : Nat) :
    (s.raiseLimited src key code a1 a2).regs = s.regs := by unfold State.raiseLimited; split <;> rfl
@[simp] theorem State.raiseLimited_shown (src key code a1 a2 : Nat) :
    (s.raiseLimited src key code a1 a2).shown = s.shown := by unfold State.raiseLimited; split <;> rfl
@[simp] theorem State.raiseLimited_writes (src key code a1 a2 : Nat) :
    (s.raiseLimited src key code a1 a2).writes = s.writes := by unfold State.raiseLimited; split <;> rfl
@[simp] theorem State.raiseLimited_ctl (src key code a1 a2 : Nat) :
    (s.raiseLimited src key code a1 a2).ctl = s.ctl := by unfold State.raiseLimited; split <;> rfl
@[simp] theorem State.raiseLimited_masts (src key code a1 a2 : Nat) :
    (s.raiseLimited src key code a1 a2).masts = s.masts := by unfold State.raiseLimited; split <;> rfl
@[simp] theorem State.raiseLimited_key (src key code a1 a2 : Nat) :
    (s.raiseLimited src key code a1 a2).key = s.key := by unfold State.raiseLimited; split <;> rfl
@[simp] theorem State.raiseLimited_lane (src key code a1 a2 : Nat) :
    (s.raiseLimited src key code a1 a2).lane = s.lane := by unfold State.raiseLimited; split <;> rfl
@[simp] theorem State.raiseLimited_intake (src key code a1 a2 : Nat) :
    (s.raiseLimited src key code a1 a2).intake = s.intake := by unfold State.raiseLimited; split <;> rfl
@[simp] theorem State.raiseLimited_time (src key code a1 a2 : Nat) :
    (s.raiseLimited src key code a1 a2).time = s.time := by unfold State.raiseLimited; split <;> rfl
@[simp] theorem State.raiseLimited_pos (src key code a1 a2 : Nat) :
    (s.raiseLimited src key code a1 a2).pos = s.pos := by unfold State.raiseLimited; split <;> rfl
@[simp] theorem State.raiseLimited_fb (src key code a1 a2 : Nat) :
    (s.raiseLimited src key code a1 a2).fb = s.fb := by unfold State.raiseLimited; split <;> rfl
@[simp] theorem State.raiseLimited_app (src key code a1 a2 : Nat) :
    (s.raiseLimited src key code a1 a2).app = s.app := by unfold State.raiseLimited; split <;> rfl
@[simp] theorem State.raiseLimited_queue (src key code a1 a2 : Nat) :
    (s.raiseLimited src key code a1 a2).queue = s.queue := by unfold State.raiseLimited; split <;> rfl
@[simp] theorem State.raiseLimited_bridge (src key code a1 a2 : Nat) :
    (s.raiseLimited src key code a1 a2).bridge = s.bridge := by unfold State.raiseLimited; split <;> rfl
@[simp] theorem State.raiseLimited_stay (src key code a1 a2 : Nat) :
    (s.raiseLimited src key code a1 a2).stay = s.stay := by unfold State.raiseLimited; split <;> rfl
@[simp] theorem State.raiseLimited_net (src key code a1 a2 : Nat) :
    (s.raiseLimited src key code a1 a2).net = s.net := by unfold State.raiseLimited; split <;> rfl
@[simp] theorem State.raiseLimited_sup (src key code a1 a2 : Nat) :
    (s.raiseLimited src key code a1 a2).sup = s.sup := by unfold State.raiseLimited; split <;> rfl
@[simp] theorem State.raiseLimited_field (src key code a1 a2 : Nat) :
    (s.raiseLimited src key code a1 a2).field = s.field := by unfold State.raiseLimited; split <;> rfl
@[simp] theorem State.raiseLimited_upd (src key code a1 a2 : Nat) :
    (s.raiseLimited src key code a1 a2).upd = s.upd := by unfold State.raiseLimited; split <;> rfl
@[simp] theorem State.raiseLimited_supply (src key code a1 a2 : Nat) :
    (s.raiseLimited src key code a1 a2).supply = s.supply := by unfold State.raiseLimited; split <;> rfl
@[simp] theorem State.raiseLimited_panel (src key code a1 a2 : Nat) :
    (s.raiseLimited src key code a1 a2).panel = s.panel := by unfold State.raiseLimited; split <;> rfl
@[simp] theorem State.raiseLimited_standby (src key code a1 a2 : Nat) :
    (s.raiseLimited src key code a1 a2).standby = s.standby := by unfold State.raiseLimited; split <;> rfl
@[simp] theorem State.raiseLimited_mon (src key code a1 a2 : Nat) :
    (s.raiseLimited src key code a1 a2).mon = s.mon := by unfold State.raiseLimited; split <;> rfl
@[simp] theorem State.raiseLimited_free (src key code a1 a2 : Nat) :
    (s.raiseLimited src key code a1 a2).free = s.free := by unfold State.raiseLimited; split <;> rfl

/-! ## `State.noteSummary` -/

@[simp] theorem State.noteSummary_now (src code key : Nat) :
    (s.noteSummary src code key).now = s.now := by unfold State.noteSummary; split <;> rfl
@[simp] theorem State.noteSummary_pending (src code key : Nat) :
    (s.noteSummary src code key).pending = s.pending := by unfold State.noteSummary; split <;> rfl
@[simp] theorem State.noteSummary_regs (src code key : Nat) :
    (s.noteSummary src code key).regs = s.regs := by unfold State.noteSummary; split <;> rfl
@[simp] theorem State.noteSummary_shown (src code key : Nat) :
    (s.noteSummary src code key).shown = s.shown := by unfold State.noteSummary; split <;> rfl
@[simp] theorem State.noteSummary_writes (src code key : Nat) :
    (s.noteSummary src code key).writes = s.writes := by unfold State.noteSummary; split <;> rfl
@[simp] theorem State.noteSummary_ctl (src code key : Nat) :
    (s.noteSummary src code key).ctl = s.ctl := by unfold State.noteSummary; split <;> rfl
@[simp] theorem State.noteSummary_masts (src code key : Nat) :
    (s.noteSummary src code key).masts = s.masts := by unfold State.noteSummary; split <;> rfl
@[simp] theorem State.noteSummary_key (src code key : Nat) :
    (s.noteSummary src code key).key = s.key := by unfold State.noteSummary; split <;> rfl
@[simp] theorem State.noteSummary_lane (src code key : Nat) :
    (s.noteSummary src code key).lane = s.lane := by unfold State.noteSummary; split <;> rfl
@[simp] theorem State.noteSummary_intake (src code key : Nat) :
    (s.noteSummary src code key).intake = s.intake := by unfold State.noteSummary; split <;> rfl
@[simp] theorem State.noteSummary_time (src code key : Nat) :
    (s.noteSummary src code key).time = s.time := by unfold State.noteSummary; split <;> rfl
@[simp] theorem State.noteSummary_pos (src code key : Nat) :
    (s.noteSummary src code key).pos = s.pos := by unfold State.noteSummary; split <;> rfl
@[simp] theorem State.noteSummary_fb (src code key : Nat) :
    (s.noteSummary src code key).fb = s.fb := by unfold State.noteSummary; split <;> rfl
@[simp] theorem State.noteSummary_app (src code key : Nat) :
    (s.noteSummary src code key).app = s.app := by unfold State.noteSummary; split <;> rfl
@[simp] theorem State.noteSummary_queue (src code key : Nat) :
    (s.noteSummary src code key).queue = s.queue := by unfold State.noteSummary; split <;> rfl
@[simp] theorem State.noteSummary_bridge (src code key : Nat) :
    (s.noteSummary src code key).bridge = s.bridge := by unfold State.noteSummary; split <;> rfl
@[simp] theorem State.noteSummary_stay (src code key : Nat) :
    (s.noteSummary src code key).stay = s.stay := by unfold State.noteSummary; split <;> rfl
@[simp] theorem State.noteSummary_net (src code key : Nat) :
    (s.noteSummary src code key).net = s.net := by unfold State.noteSummary; split <;> rfl
@[simp] theorem State.noteSummary_sup (src code key : Nat) :
    (s.noteSummary src code key).sup = s.sup := by unfold State.noteSummary; split <;> rfl
@[simp] theorem State.noteSummary_field (src code key : Nat) :
    (s.noteSummary src code key).field = s.field := by unfold State.noteSummary; split <;> rfl
@[simp] theorem State.noteSummary_upd (src code key : Nat) :
    (s.noteSummary src code key).upd = s.upd := by unfold State.noteSummary; split <;> rfl
@[simp] theorem State.noteSummary_supply (src code key : Nat) :
    (s.noteSummary src code key).supply = s.supply := by unfold State.noteSummary; split <;> rfl
@[simp] theorem State.noteSummary_panel (src code key : Nat) :
    (s.noteSummary src code key).panel = s.panel := by unfold State.noteSummary; split <;> rfl
@[simp] theorem State.noteSummary_standby (src code key : Nat) :
    (s.noteSummary src code key).standby = s.standby := by unfold State.noteSummary; split <;> rfl
@[simp] theorem State.noteSummary_mon (src code key : Nat) :
    (s.noteSummary src code key).mon = s.mon := by unfold State.noteSummary; split <;> rfl
@[simp] theorem State.noteSummary_free (src code key : Nat) :
    (s.noteSummary src code key).free = s.free := by unfold State.noteSummary; split <;> rfl

/-! ## `State.advance` -/

@[simp] theorem State.advance_pending (t : Nat) : (s.advance t).pending = s.pending := rfl
@[simp] theorem State.advance_regs (t : Nat) : (s.advance t).regs = s.regs := rfl
@[simp] theorem State.advance_shown (t : Nat) : (s.advance t).shown = s.shown := rfl
@[simp] theorem State.advance_writes (t : Nat) : (s.advance t).writes = s.writes := rfl
@[simp] theorem State.advance_ctl (t : Nat) : (s.advance t).ctl = s.ctl := rfl
@[simp] theorem State.advance_masts (t : Nat) : (s.advance t).masts = s.masts := rfl
@[simp] theorem State.advance_log (t : Nat) : (s.advance t).log = s.log := rfl
@[simp] theorem State.advance_key (t : Nat) : (s.advance t).key = s.key := rfl
@[simp] theorem State.advance_lane (t : Nat) : (s.advance t).lane = s.lane := rfl
@[simp] theorem State.advance_intake (t : Nat) : (s.advance t).intake = s.intake := rfl
@[simp] theorem State.advance_pos (t : Nat) : (s.advance t).pos = s.pos := rfl
@[simp] theorem State.advance_fb (t : Nat) : (s.advance t).fb = s.fb := rfl
@[simp] theorem State.advance_app (t : Nat) : (s.advance t).app = s.app := rfl
@[simp] theorem State.advance_queue (t : Nat) : (s.advance t).queue = s.queue := rfl
@[simp] theorem State.advance_bridge (t : Nat) : (s.advance t).bridge = s.bridge := rfl
@[simp] theorem State.advance_stay (t : Nat) : (s.advance t).stay = s.stay := rfl
@[simp] theorem State.advance_net (t : Nat) : (s.advance t).net = s.net := rfl
@[simp] theorem State.advance_sup (t : Nat) : (s.advance t).sup = s.sup := rfl
@[simp] theorem State.advance_field (t : Nat) : (s.advance t).field = s.field := rfl
@[simp] theorem State.advance_upd (t : Nat) : (s.advance t).upd = s.upd := rfl
@[simp] theorem State.advance_supply (t : Nat) : (s.advance t).supply = s.supply := rfl
@[simp] theorem State.advance_panel (t : Nat) : (s.advance t).panel = s.panel := rfl
@[simp] theorem State.advance_standby (t : Nat) : (s.advance t).standby = s.standby := rfl
@[simp] theorem State.advance_mon (t : Nat) : (s.advance t).mon = s.mon := rfl

/-! ## The values of one mast each -/

@[simp] theorem per_get_set_same {α : Type} (p : Per α) (m : Mast) (v : α) : (p.set m v).get m = v := by
  cases m <;> rfl

theorem per_get_set_other {α : Type} (p : Per α) (m n : Mast) (v : α) (h : n ≠ m) : (p.set m v).get n = p.get n := by
  cases m <;> cases n <;> first | rfl | exact absurd rfl h

@[simp] theorem per_get_map {α β : Type} (p : Per α) (f : Mast → α → β) (m : Mast) : (p.map f).get m = f m (p.get m) := by
  cases m <;> rfl

@[simp] theorem per_get_all {α : Type} (v : α) (m : Mast) : (Per.all v).get m = v := by
  cases m <;> rfl

/-! ## Registers -/

@[simp] theorem State.setReg_regs (c : Copy) (addr : Nat) (w : Word) :
    (s.setReg c addr w).regs = s.regs.set (regKey c addr) w := rfl

/-- A register that was just stored reads as stored. -/
@[simp] theorem State.reg_setReg_same (c : Copy) (addr : Nat) (w : Word) : (s.setReg c addr w).reg c addr = w := by
  simp [State.reg]

/-- A register under another key reads as before. -/
theorem State.reg_setReg_other (c c' : Copy) (addr addr' : Nat) (w : Word) (h : regKey c' addr' ≠ regKey c addr) :
    (s.setReg c addr w).reg c' addr' = s.reg c' addr' := by
  simp [State.reg, RegFile.get_set_other _ _ _ _ h]

/-- Two registers at different addresses have different keys, whichever copies they are. -/
theorem regKey_ne_of_addr {c c' : Copy} {a a' : Nat} (h : a ≠ a') (ha : a < 2 ^ 32) (ha' : a' < 2 ^ 32) :
    regKey c a ≠ regKey c' a' := by
  unfold regKey; omega

/-- Copies with different numbers have different keys. -/
theorem regKey_ne_of_copy {c c' : Copy} {a a' : Nat} (h : c.num ≠ c'.num) (ha : a < 2 ^ 32) (ha' : a' < 2 ^ 32) :
    regKey c a ≠ regKey c' a' := by
  unfold regKey; omega

/-- A field that was just put reads as its value, cut to the field's width. -/
theorem State.getF_putF (c : Copy) (f : Fld) (v : Nat) (hh : f.hi < 32) (hl : f.lo ≤ f.hi) :
    (s.putF c f v).getF c f = v % 2 ^ (f.hi + 1 - f.lo) := by
  simp [State.getF, State.putF, getBits_setBits _ _ _ _ hh hl]

/-- A field of a register under another key reads as before. -/
theorem State.getF_putF_key (c c' : Copy) (f g : Fld) (v : Nat) (h : regKey c' g.addr ≠ regKey c f.addr) :
    (s.putF c f v).getF c' g = s.getF c' g := by
  simp [State.getF, State.putF, State.reg_setReg_other _ _ _ _ _ _ h]

/-- A field of the same register that shares no bit with the one put reads as before. -/
theorem State.getF_putF_bits (c : Copy) (f g : Fld) (v : Nat) (ha : g.addr = f.addr) (hh : f.hi < 32) (hl : f.lo ≤ f.hi)
    (hl' : g.lo ≤ g.hi) (h : g.hi < f.lo ∨ f.hi < g.lo) : (s.putF c f v).getF c g = s.getF c g := by
  simp [State.getF, State.putF, ha, getBits_setBits_apart _ _ _ _ _ _ hh hl hl' h]

/-- A register under another key is not changed by putting a field. -/
theorem State.reg_putF_key (c c' : Copy) (f : Fld) (a v : Nat) (h : regKey c' a ≠ regKey c f.addr) :
    (s.putF c f v).reg c' a = s.reg c' a := State.reg_setReg_other s _ _ _ _ _ h

theorem State.getF_incF (c : Copy) (f : Fld) (n : Nat) (hh : f.hi < 32) (hl : f.lo ≤ f.hi) :
    (s.incF c f n).getF c f = satAdd (2 ^ (f.hi + 1 - f.lo) - 1) (s.getF c f) n := by
  unfold State.incF
  rw [State.getF_putF _ _ _ _ hh hl]
  apply Nat.mod_eq_of_lt
  have : 0 < 2 ^ (f.hi + 1 - f.lo) := by positivity
  unfold satAdd; omega

theorem State.getF_incF_key (c c' : Copy) (f g : Fld) (n : Nat) (h : regKey c' g.addr ≠ regKey c f.addr) :
    (s.incF c f n).getF c' g = s.getF c' g := State.getF_putF_key s _ _ _ _ _ h

/-- A field's value fits its width. -/
theorem State.getF_lt (c : Copy) (f : Fld) : s.getF c f < 2 ^ (f.hi + 1 - f.lo) := getBits_lt _ _ _

/-- Every operation on registers keeps the canonical form of the register file. -/
theorem State.wf_setReg (c : Copy) (addr : Nat) (w : Word) (h : s.regs.wf = true) : (s.setReg c addr w).regs.wf = true :=
  RegFile.wf_set _ _ _ h

theorem State.wf_putF (c : Copy) (f : Fld) (v : Nat) (h : s.regs.wf = true) : (s.putF c f v).regs.wf = true :=
  State.wf_setReg s _ _ _ h

@[simp] theorem State.reg_of_regs {s t : State} (h : t.regs = s.regs) (c : Copy) (a : Nat) : t.reg c a = s.reg c a := by
  simp [State.reg, h]

theorem State.getF_of_regs {s t : State} (h : t.regs = s.regs) (c : Copy) (f : Fld) : t.getF c f = s.getF c f := by
  simp [State.getF, State.reg, h]

/-! ## Masts -/

@[simp] theorem State.mast_setMast_same (m : Mast) (x : MastState) : (s.setMast m x).mast m = x := by
  simp [State.mast, State.setMast]

theorem State.mast_setMast_other (m n : Mast) (x : MastState) (h : n ≠ m) : (s.setMast m x).mast n = s.mast n := by
  simp [State.mast, State.setMast, per_get_set_other _ _ _ _ h]

theorem State.mast_of_masts {s t : State} (h : t.masts = s.masts) (m : Mast) : t.mast m = s.mast m := by
  simp [State.mast, h]

/-- A mast that works goes fail-silent (R92): silent, its triads held, and no other mast touched. -/
theorem State.goSilent_silent (m : Mast) (cause who detail : Nat) (hp : (s.mast m).powered = true) :
    ((s.goSilent m cause who detail).mast m).silent = true := by
  unfold State.goSilent
  cases hs : (s.mast m).silent <;> simp [hp, hs]

theorem State.goSilent_held (m : Mast) (cause who detail : Nat) (hp : (s.mast m).powered = true)
    (hs : (s.mast m).silent = false) : ((s.goSilent m cause who detail).mast m).held = true := by
  unfold State.goSilent; simp [hp, hs]

theorem State.goSilent_other (m n : Mast) (cause who detail : Nat) (h : n ≠ m) :
    (s.goSilent m cause who detail).mast n = s.mast n := by
  rcases s.goSilent_cases m cause who detail with e | ⟨x, l, r, tm, e⟩ <;> rw [e]
  exact State.mast_setMast_other _ _ _ _ h

/-! ## Events -/

@[simp] theorem State.raiseAt_due (stamp src code a1 a2 : Nat) (held : Bool) :
    (s.raiseAt stamp src code a1 a2 held).log.due =
      s.log.due ++ [⟨stamp, code, src, a1 % 2 ^ 32, a2 % 2 ^ 32, held⟩] := rfl

@[simp] theorem State.raiseBy_due (src code a1 a2 : Nat) :
    (s.raiseBy src code a1 a2).log.due =
      s.log.due ++ [⟨s.moduleTime, code, src, a1 % 2 ^ 32, a2 % 2 ^ 32, s.heldNow⟩] := rfl

@[simp] theorem State.raiseM_due (m : Mast) (code a1 a2 : Nat) :
    (s.raiseM m code a1 a2).log.due =
      s.log.due ++ [⟨s.moduleTime, code, 2 ^ m.code, a1 % 2 ^ 32, a2 % 2 ^ 32, s.heldNow⟩] := rfl

@[simp] theorem State.raise_due (code a1 a2 : Nat) :
    (s.raise code a1 a2).log.due =
      s.log.due ++ [⟨s.moduleTime, code, s.lane.active.mask, a1 % 2 ^ 32, a2 % 2 ^ 32, s.heldNow⟩] := rfl

@[simp] theorem State.markLimit_due (src code key : Nat) : (s.markLimit src code key).log.due = s.log.due := rfl

/-! ## The clock -/

@[simp] theorem State.advance_now (t : Nat) : (s.advance t).now = max s.now t := rfl

/-- Only the clock, the timebases with what is left of a slew, and the count of free values move with time. -/
theorem State.advance_same (t : Nat) :
    s.advance t = { s with now := (s.advance t).now, time := (s.advance t).time, free := (s.advance t).free } := rfl

@[simp] theorem State.advance_reg (t : Nat) (c : Copy) (a : Nat) : (s.advance t).reg c a = s.reg c a := rfl
@[simp] theorem State.advance_getF (t : Nat) (c : Copy) (f : Fld) : (s.advance t).getF c f = s.getF c f := rfl
@[simp] theorem State.advance_mast (t : Nat) (m : Mast) : (s.advance t).mast m = s.mast m := rfl
@[simp] theorem State.advance_voters (t : Nat) : (s.advance t).voters = s.voters := rfl
@[simp] theorem State.advance_votes (t : Nat) (m : Mast) : (s.advance t).votes m = s.votes m := rfl

end Sys2Proof.Machine
end

