-- ==== Sys2Proof/Laws/Frames.lean ====
section
/-!
SUPPORT. Frames put together: what one operation after another leaves as it was.
-/
namespace Sys2Proof.Safety

open Sys2Proof.Machine

theorem same_refl (s : State) (p : Part) : same s s p := by
  cases p
  case mem => exact fun _ => rfl
  all_goals rfl

theorem same_trans {s t u : State} {p : Part} (h : same s t p) (g : same t u p) : same s u p := by
  cases p
  case mem => exact fun m => (g m).trans (h m)
  all_goals exact Eq.trans g h

theorem sameBut_refl (l : List Part) (s : State) : sameBut l s s := fun p _ => same_refl s p

theorem sameBut_trans {l : List Part} {s t u : State} (h : sameBut l s t) (g : sameBut l t u) : sameBut l s u :=
  fun p hp => same_trans (h p hp) (g p hp)

theorem sameBut_mono {l k : List Part} {s t : State} (h : sameBut l s t) (hk : ∀ p ∈ l, p ∈ k) : sameBut k s t :=
  fun p hp => h p fun c => hp (hk p c)

/-- A chain of operations that each keep the frame keeps it. -/
theorem sameBut_foldl {α : Type} {l : List Part} (f : State → α → State) (h : ∀ s x, sameBut l s (f s x)) (xs : List α)
    (s : State) : sameBut l s (xs.foldl f s) := by
  induction xs generalizing s with
  | nil => exact sameBut_refl l s
  | cons x xs ih => exact sameBut_trans (h s x) (ih _)

/-- A frame, checked part by part. -/
theorem sameBut_of {l : List Part} {s t : State} (h : ∀ p, p ∈ l ∨ same s t p) : sameBut l s t :=
  fun p hp => (h p).resolve_left hp

/-- A frame written out part by part. -/
theorem sameBut_iff (l : List Part) (s t : State) : sameBut l s t ↔
      (.now ∈ l ∨ t.now = s.now) ∧ (.pending ∈ l ∨ t.pending = s.pending) ∧ (.regs ∈ l ∨ t.regs = s.regs) ∧
      (.shown ∈ l ∨ t.shown = s.shown) ∧ (.writes ∈ l ∨ t.writes = s.writes) ∧ (.ctl ∈ l ∨ t.ctl = s.ctl) ∧ (.masts ∈ l ∨ t.masts = s.masts) ∧ (.log ∈ l ∨ t.log
      = s.log) ∧ (.key ∈ l ∨ t.key = s.key) ∧ (.lane ∈ l ∨ t.lane = s.lane) ∧ (.intake ∈ l ∨ t.intake = s.intake) ∧
      (.time ∈ l ∨ t.time = s.time) ∧ (.pos ∈ l ∨ t.pos = s.pos) ∧ (.fb ∈ l ∨ t.fb = s.fb) ∧ (.app ∈ l ∨ t.app =
      s.app) ∧ (.queue ∈ l ∨ t.queue = s.queue) ∧ (.bridge ∈ l ∨ t.bridge = s.bridge) ∧ (.stay ∈ l ∨ t.stay =
      s.stay) ∧ (.net ∈ l ∨ t.net = s.net) ∧ (.sup ∈ l ∨ t.sup = s.sup) ∧ (.field ∈ l ∨ t.field = s.field) ∧ (.upd ∈
      l ∨ t.upd = s.upd) ∧ (.supply ∈ l ∨ t.supply = s.supply) ∧ (.panel ∈ l ∨ t.panel = s.panel) ∧ (.standby ∈ l ∨
      t.standby = s.standby) ∧ (.mon ∈ l ∨ t.mon = s.mon) ∧ (.free ∈ l ∨ t.free = s.free) ∧ (.mem ∈ l ∨ ∀ m, (t.mast
      m).mem = (s.mast m).mem) := by
  constructor
  · intro h
    refine ⟨?_, ?_, ?_, ?_, ?_, ?_, ?_, ?_, ?_, ?_, ?_, ?_, ?_, ?_, ?_, ?_, ?_, ?_, ?_, ?_, ?_, ?_, ?_, ?_, ?_, ?_, ?_, ?_⟩ <;> exact Classical.or_iff_not_imp_left.2 (h _)
  · rintro ⟨h0, h1, h2, h3, h4, h5, h6, h7, h8, h9, h10, h11, h12, h13, h14, h15, h16, h17, h18, h19, h20, h21, h22, h23, h24, h25, h26, h27⟩ p hp
    cases p
    · exact h0.resolve_left hp
    · exact h1.resolve_left hp
    · exact h2.resolve_left hp
    · exact h3.resolve_left hp
    · exact h4.resolve_left hp
    · exact h5.resolve_left hp
    · exact h6.resolve_left hp
    · exact h7.resolve_left hp
    · exact h8.resolve_left hp
    · exact h9.resolve_left hp
    · exact h10.resolve_left hp
    · exact h11.resolve_left hp
    · exact h12.resolve_left hp
    · exact h13.resolve_left hp
    · exact h14.resolve_left hp
    · exact h15.resolve_left hp
    · exact h16.resolve_left hp
    · exact h17.resolve_left hp
    · exact h18.resolve_left hp
    · exact h19.resolve_left hp
    · exact h20.resolve_left hp
    · exact h21.resolve_left hp
    · exact h22.resolve_left hp
    · exact h23.resolve_left hp
    · exact h24.resolve_left hp
    · exact h25.resolve_left hp
    · exact h26.resolve_left hp
    · exact h27.resolve_left hp

theorem regsBut_refl (l : List (Copy × Nat)) (s : State) : regsBut l s s := fun _ _ _ _ => rfl

theorem regsBut_trans {l : List (Copy × Nat)} {s t u : State} (h : regsBut l s t) (g : regsBut l t u) : regsBut l s u :=
  fun c a ha hn => (g c a ha hn).trans (h c a ha hn)

theorem regsBut_mono {l k : List (Copy × Nat)} {s t : State} (h : regsBut l s t) (hk : ∀ x ∈ l, x ∈ k) : regsBut k s t :=
  fun c a ha hn => h c a ha fun x => hn (hk _ x)

theorem regsBut_of_regs {l : List (Copy × Nat)} {s t : State} (h : t.regs = s.regs) : regsBut l s t :=
  fun c a _ _ => State.reg_of_regs h c a

/-- Different copies have different numbers. -/
theorem copy_num_inj {c c' : Copy} (h : c.num = c'.num) : c = c' := by
  cases c with
  | mast m => cases c' with
    | mast n => cases m <;> cases n <;> first | rfl | simp [Copy.num, Mast.code] at h
    | agreed => cases m <;> simp [Copy.num, Mast.code] at h
    | triad n u => cases m <;> cases n <;> cases u <;> simp [Copy.num, Mast.code, Triad.code] at h
  | agreed => cases c' with
    | mast n => cases n <;> simp [Copy.num, Mast.code] at h
    | agreed => rfl
    | triad n u => cases n <;> cases u <;> simp [Copy.num, Mast.code, Triad.code] at h
  | triad m t => cases c' with
    | mast n => cases m <;> cases t <;> cases n <;> simp [Copy.num, Mast.code, Triad.code] at h
    | agreed => cases m <;> cases t <;> simp [Copy.num, Mast.code, Triad.code] at h
    | triad n u =>
      cases m <;> cases t <;> cases n <;> cases u <;> first | rfl | simp [Copy.num, Mast.code, Triad.code] at h

/-- Different registers, or different copies of one, have different keys. -/
theorem regKey_ne {c c' : Copy} {a a' : Nat} (h : (c, a) ≠ (c', a')) (ha : a < 2 ^ 32) (ha' : a' < 2 ^ 32) :
    regKey c a ≠ regKey c' a' := by
  by_cases e : a = a'
  · subst e
    exact regKey_ne_of_copy (fun hn => h (by rw [copy_num_inj hn])) ha ha'
  · exact regKey_ne_of_addr e ha ha'

/-- Storing one register leaves the others. -/
theorem regsBut_setReg {l : List (Copy × Nat)} (s : State) (c : Copy) (a : Nat) (w : Word) (ha : a < 2 ^ 32)
    (hm : (c, a) ∈ l) : regsBut l s (s.setReg c a w) := by
  intro c' a' ha' hn
  refine State.reg_setReg_other s c c' a a' w (regKey_ne ?_ ha' ha)
  intro e
  exact hn (e ▸ hm)

theorem regsBut_putF {l : List (Copy × Nat)} (s : State) (c : Copy) (f : Fld) (v : Nat) (ha : f.addr < 2 ^ 32)
    (hm : (c, f.addr) ∈ l) : regsBut l s (s.putF c f v) := regsBut_setReg s c f.addr _ ha hm

theorem raised_mono {s t : State} {src code a1 a2 : Nat} (h : raised s src code a1 a2)
    (hl : ∀ e ∈ s.log.due, e ∈ t.log.due) : raised t src code a1 a2 := by
  obtain ⟨e, he, r⟩ := h
  exact ⟨e, hl e he, r⟩

@[simp] theorem raised_raiseBy (s : State) (src code a1 a2 : Nat) : raised (s.raiseBy src code a1 a2) src code a1 a2 :=
  ⟨_, by rw [State.raiseBy_due]; exact List.mem_append_right _ (List.mem_singleton.2 rfl), rfl, rfl, rfl, rfl⟩

@[simp] theorem raised_raiseM (s : State) (m : Mast) (code a1 a2 : Nat) :
    raised (s.raiseM m code a1 a2) (2 ^ m.code) code a1 a2 := raised_raiseBy s _ code a1 a2

@[simp] theorem raised_raise (s : State) (code a1 a2 : Nat) :
    raised (s.raise code a1 a2) s.lane.active.mask code a1 a2 := raised_raiseBy s _ code a1 a2

/-- An event that waits is not touched by anything that leaves the log alone. -/
theorem raised_of_log {s t : State} (h : t.log = s.log) (src code a1 a2 : Nat) :
    raised t src code a1 a2 ↔ raised s src code a1 a2 := by
  unfold raised; rw [h]

end Sys2Proof.Safety
end

