-- ==== Sys2Proof/Laws/Keeps.lean ====
section
/-!
SUPPORT. What every operation keeps: the parts it does not touch, the canonical form of registers and memories, and the
direction of the clock. The building blocks, and the operations everything is made of.
-/
namespace Sys2Proof.Safety

open Sys2Proof.Machine

/-- Every part of one list stands in another. -/
def within (k l : List Part) : Bool := k.all fun p => l.contains p

theorem within_mem {k l : List Part} (h : within k l = true) : ∀ p ∈ k, p ∈ l := by
  simpa [within, List.all_eq_true] using h

theorem Keeps.refl (l : List Part) (s : State) : Keeps l s s := ⟨sameBut_refl _ _, id, Nat.le_refl _⟩

/-- One more operation. -/
theorem Keeps.next {k l : List Part} {s0 s t : State} (h : Keeps k s t) (hk : within k l = true) (g : Keeps l s0 s) : Keeps l s0 t :=
  ⟨sameBut_trans g.frame (sameBut_mono h.frame (within_mem hk)), fun c => h.canon (g.canon c), Nat.le_trans g.clock h.clock⟩

theorem Keeps.ite {l : List Part} {c : Prop} [Decidable c] {s0 a b : State} (h : Keeps l s0 a) (g : Keeps l s0 b) :
    Keeps l s0 (if c then a else b) := by split <;> assumption

theorem Keeps.fold {α : Type} {l : List Part} {f : State → α → State} {xs : List α} {s0 s : State}
    (h : ∀ s x, Keeps l s0 s → Keeps l s0 (f s x)) (g : Keeps l s0 s) : Keeps l s0 (xs.foldl f s) := by
  induction xs generalizing s with
  | nil => exact g
  | cons x xs ih => exact ih (h s x g)

/-- An operation that stores no register and no memory keeps the canonical form. -/
theorem Keeps.of_same {l : List Part} {s t : State} (h : sameBut l s t) (hr : .regs ∉ l) (hm : .mem ∉ l) (hn : .now ∉ l) :
    Keeps l s t := by
  refine ⟨h, fun c => ⟨?_, fun m => ?_⟩, Nat.le_of_eq ?_⟩
  · have : t.regs = s.regs := h .regs hr
    rw [this]; exact c.1
  · have : (t.mast m).mem = (s.mast m).mem := h .mem hm m
    rw [this]; exact c.2 m
  · exact (show t.now = s.now from h .now hn).symm

/-- One mast is replaced, its memory staying as it was. -/
theorem Keeps.setMast {l : List Part} {s0 s : State} (m : Mast) (x : MastState) (hx : x.mem = (s.mast m).mem)
    (hk : within [Part.masts] l = true) (g : Keeps l s0 s) : Keeps l s0 (s.setMast m x) := by
  refine Keeps.next (k := [.masts]) (s := s) (Keeps.of_same ?_ (by decide) (by decide) (by decide)) hk g
  rw [sameBut_iff]
  simp
  intro o
  by_cases e : o = m
  · subst e; simp [hx]
  · rw [State.mast_setMast_other _ _ _ _ e]

/-- One mast is replaced, with a memory in canonical form. -/
theorem Keeps.setMast_mem {l : List Part} {s0 s : State} (m : Mast) (x : MastState) (hx : canonical s → x.mem.wf = true)
    (hk : within [Part.masts, Part.mem] l = true) (g : Keeps l s0 s) : Keeps l s0 (s.setMast m x) := by
  refine Keeps.next (k := [.masts, .mem]) (s := s) ⟨?_, fun c => ⟨c.1, fun o => ?_⟩, Nat.le_refl _⟩ hk g
  · rw [sameBut_iff]; simp
  · by_cases e : o = m
    · subst e; simp [hx c]
    · rw [State.mast_setMast_other _ _ _ _ e]; exact c.2 o

/-- One mast's memory is replaced by one in canonical form. -/
theorem Keeps.setMem {l : List Part} {s0 s : State} (m : Mast) (x : Memory) (hx : canonical s → x.wf = true)
    (hk : within [Part.masts, Part.mem] l = true) (g : Keeps l s0 s) : Keeps l s0 (s.setMem m x) :=
  Keeps.setMast_mem m _ hx hk g

theorem Keeps.upd_app {l : List Part} {s0 s : State} (x0 : AppPart) (hk : within [Part.app] l = true)
    (g : Keeps l s0 s) : Keeps l s0 { s with app := x0 } := by
  refine Keeps.next (k := [.app]) (s := s) (Keeps.of_same ?_ (by decide) (by decide) (by decide)) hk g
  intro p hp
  cases p <;> first | rfl | exact fun _ => rfl | exact absurd (by decide) hp

theorem Keeps.upd_app_free {l : List Part} {s0 s : State} (x0 : AppPart) (x1 : Nat) (hk : within [Part.app, .free] l = true)
    (g : Keeps l s0 s) : Keeps l s0 { s with app := x0, free := x1 } := by
  refine Keeps.next (k := [.app, .free]) (s := s) (Keeps.of_same ?_ (by decide) (by decide) (by decide)) hk g
  intro p hp
  cases p <;> first | rfl | exact fun _ => rfl | exact absurd (by decide) hp

theorem Keeps.upd_app_net {l : List Part} {s0 s : State} (x0 : AppPart) (x1 : NetPart) (hk : within [Part.app, .net] l = true)
    (g : Keeps l s0 s) : Keeps l s0 { s with app := x0, net := x1 } := by
  refine Keeps.next (k := [.app, .net]) (s := s) (Keeps.of_same ?_ (by decide) (by decide) (by decide)) hk g
  intro p hp
  cases p <;> first | rfl | exact fun _ => rfl | exact absurd (by decide) hp

theorem Keeps.upd_app_standby {l : List Part} {s0 s : State} (x0 : AppPart) (x1 : StandbyPart) (hk : within [Part.app, .standby] l = true)
    (g : Keeps l s0 s) : Keeps l s0 { s with app := x0, standby := x1 } := by
  refine Keeps.next (k := [.app, .standby]) (s := s) (Keeps.of_same ?_ (by decide) (by decide) (by decide)) hk g
  intro p hp
  cases p <;> first | rfl | exact fun _ => rfl | exact absurd (by decide) hp

theorem Keeps.upd_app_upd_panel {l : List Part} {s0 s : State} (x0 : AppPart) (x1 : UpdatePart) (x2 : PanelPart) (hk : within [Part.app, .upd, .panel] l = true)
    (g : Keeps l s0 s) : Keeps l s0 { s with app := x0, upd := x1, panel := x2 } := by
  refine Keeps.next (k := [.app, .upd, .panel]) (s := s) (Keeps.of_same ?_ (by decide) (by decide) (by decide)) hk g
  intro p hp
  cases p <;> first | rfl | exact fun _ => rfl | exact absurd (by decide) hp

theorem Keeps.upd_bridge {l : List Part} {s0 s : State} (x0 : BridgePart) (hk : within [Part.bridge] l = true)
    (g : Keeps l s0 s) : Keeps l s0 { s with bridge := x0 } := by
  refine Keeps.next (k := [.bridge]) (s := s) (Keeps.of_same ?_ (by decide) (by decide) (by decide)) hk g
  intro p hp
  cases p <;> first | rfl | exact fun _ => rfl | exact absurd (by decide) hp

theorem Keeps.upd_ctl {l : List Part} {s0 s : State} (x0 : Control) (hk : within [Part.ctl] l = true)
    (g : Keeps l s0 s) : Keeps l s0 { s with ctl := x0 } := by
  refine Keeps.next (k := [.ctl]) (s := s) (Keeps.of_same ?_ (by decide) (by decide) (by decide)) hk g
  intro p hp
  cases p <;> first | rfl | exact fun _ => rfl | exact absurd (by decide) hp

theorem Keeps.upd_ctl_field {l : List Part} {s0 s : State} (x0 : Control) (x1 : FieldPart) (hk : within [Part.ctl, .field] l = true)
    (g : Keeps l s0 s) : Keeps l s0 { s with ctl := x0, field := x1 } := by
  refine Keeps.next (k := [.ctl, .field]) (s := s) (Keeps.of_same ?_ (by decide) (by decide) (by decide)) hk g
  intro p hp
  cases p <;> first | rfl | exact fun _ => rfl | exact absurd (by decide) hp

theorem Keeps.upd_ctl_lane {l : List Part} {s0 s : State} (x0 : Control) (x1 : LanePart) (hk : within [Part.ctl, .lane] l = true)
    (g : Keeps l s0 s) : Keeps l s0 { s with ctl := x0, lane := x1 } := by
  refine Keeps.next (k := [.ctl, .lane]) (s := s) (Keeps.of_same ?_ (by decide) (by decide) (by decide)) hk g
  intro p hp
  cases p <;> first | rfl | exact fun _ => rfl | exact absurd (by decide) hp

theorem Keeps.upd_ctl_panel {l : List Part} {s0 s : State} (x0 : Control) (x1 : PanelPart) (hk : within [Part.ctl, .panel] l = true)
    (g : Keeps l s0 s) : Keeps l s0 { s with ctl := x0, panel := x1 } := by
  refine Keeps.next (k := [.ctl, .panel]) (s := s) (Keeps.of_same ?_ (by decide) (by decide) (by decide)) hk g
  intro p hp
  cases p <;> first | rfl | exact fun _ => rfl | exact absurd (by decide) hp

theorem Keeps.upd_ctl_supply {l : List Part} {s0 s : State} (x0 : Control) (x1 : SupplyPart) (hk : within [Part.ctl, .supply] l = true)
    (g : Keeps l s0 s) : Keeps l s0 { s with ctl := x0, supply := x1 } := by
  refine Keeps.next (k := [.ctl, .supply]) (s := s) (Keeps.of_same ?_ (by decide) (by decide) (by decide)) hk g
  intro p hp
  cases p <;> first | rfl | exact fun _ => rfl | exact absurd (by decide) hp

theorem Keeps.upd_fb {l : List Part} {s0 s : State} (x0 : FbPart) (hk : within [Part.fb] l = true)
    (g : Keeps l s0 s) : Keeps l s0 { s with fb := x0 } := by
  refine Keeps.next (k := [.fb]) (s := s) (Keeps.of_same ?_ (by decide) (by decide) (by decide)) hk g
  intro p hp
  cases p <;> first | rfl | exact fun _ => rfl | exact absurd (by decide) hp

theorem Keeps.upd_field {l : List Part} {s0 s : State} (x0 : FieldPart) (hk : within [Part.field] l = true)
    (g : Keeps l s0 s) : Keeps l s0 { s with field := x0 } := by
  refine Keeps.next (k := [.field]) (s := s) (Keeps.of_same ?_ (by decide) (by decide) (by decide)) hk g
  intro p hp
  cases p <;> first | rfl | exact fun _ => rfl | exact absurd (by decide) hp

theorem Keeps.upd_free {l : List Part} {s0 s : State} (x0 : Nat) (hk : within [Part.free] l = true)
    (g : Keeps l s0 s) : Keeps l s0 { s with free := x0 } := by
  refine Keeps.next (k := [.free]) (s := s) (Keeps.of_same ?_ (by decide) (by decide) (by decide)) hk g
  intro p hp
  cases p <;> first | rfl | exact fun _ => rfl | exact absurd (by decide) hp

theorem Keeps.upd_intake {l : List Part} {s0 s : State} (x0 : IntakePart) (hk : within [Part.intake] l = true)
    (g : Keeps l s0 s) : Keeps l s0 { s with intake := x0 } := by
  refine Keeps.next (k := [.intake]) (s := s) (Keeps.of_same ?_ (by decide) (by decide) (by decide)) hk g
  intro p hp
  cases p <;> first | rfl | exact fun _ => rfl | exact absurd (by decide) hp

theorem Keeps.upd_intake_app {l : List Part} {s0 s : State} (x0 : IntakePart) (x1 : AppPart) (hk : within [Part.intake, .app] l = true)
    (g : Keeps l s0 s) : Keeps l s0 { s with intake := x0, app := x1 } := by
  refine Keeps.next (k := [.intake, .app]) (s := s) (Keeps.of_same ?_ (by decide) (by decide) (by decide)) hk g
  intro p hp
  cases p <;> first | rfl | exact fun _ => rfl | exact absurd (by decide) hp

theorem Keeps.upd_intake_pos {l : List Part} {s0 s : State} (x0 : IntakePart) (x1 : PosPart) (hk : within [Part.intake, .pos] l = true)
    (g : Keeps l s0 s) : Keeps l s0 { s with intake := x0, pos := x1 } := by
  refine Keeps.next (k := [.intake, .pos]) (s := s) (Keeps.of_same ?_ (by decide) (by decide) (by decide)) hk g
  intro p hp
  cases p <;> first | rfl | exact fun _ => rfl | exact absurd (by decide) hp

theorem Keeps.upd_key {l : List Part} {s0 s : State} (x0 : KeyPart) (hk : within [Part.key] l = true)
    (g : Keeps l s0 s) : Keeps l s0 { s with key := x0 } := by
  refine Keeps.next (k := [.key]) (s := s) (Keeps.of_same ?_ (by decide) (by decide) (by decide)) hk g
  intro p hp
  cases p <;> first | rfl | exact fun _ => rfl | exact absurd (by decide) hp

theorem Keeps.upd_key_standby {l : List Part} {s0 s : State} (x0 : KeyPart) (x1 : StandbyPart) (hk : within [Part.key, .standby] l = true)
    (g : Keeps l s0 s) : Keeps l s0 { s with key := x0, standby := x1 } := by
  refine Keeps.next (k := [.key, .standby]) (s := s) (Keeps.of_same ?_ (by decide) (by decide) (by decide)) hk g
  intro p hp
  cases p <;> first | rfl | exact fun _ => rfl | exact absurd (by decide) hp

theorem Keeps.upd_lane {l : List Part} {s0 s : State} (x0 : LanePart) (hk : within [Part.lane] l = true)
    (g : Keeps l s0 s) : Keeps l s0 { s with lane := x0 } := by
  refine Keeps.next (k := [.lane]) (s := s) (Keeps.of_same ?_ (by decide) (by decide) (by decide)) hk g
  intro p hp
  cases p <;> first | rfl | exact fun _ => rfl | exact absurd (by decide) hp

theorem Keeps.upd_lane_app {l : List Part} {s0 s : State} (x0 : LanePart) (x1 : AppPart) (hk : within [Part.lane, .app] l = true)
    (g : Keeps l s0 s) : Keeps l s0 { s with lane := x0, app := x1 } := by
  refine Keeps.next (k := [.lane, .app]) (s := s) (Keeps.of_same ?_ (by decide) (by decide) (by decide)) hk g
  intro p hp
  cases p <;> first | rfl | exact fun _ => rfl | exact absurd (by decide) hp

theorem Keeps.upd_lane_free {l : List Part} {s0 s : State} (x0 : LanePart) (x1 : Nat) (hk : within [Part.lane, .free] l = true)
    (g : Keeps l s0 s) : Keeps l s0 { s with lane := x0, free := x1 } := by
  refine Keeps.next (k := [.lane, .free]) (s := s) (Keeps.of_same ?_ (by decide) (by decide) (by decide)) hk g
  intro p hp
  cases p <;> first | rfl | exact fun _ => rfl | exact absurd (by decide) hp

theorem Keeps.upd_log {l : List Part} {s0 s : State} (x0 : LogPart) (hk : within [Part.log] l = true)
    (g : Keeps l s0 s) : Keeps l s0 { s with log := x0 } := by
  refine Keeps.next (k := [.log]) (s := s) (Keeps.of_same ?_ (by decide) (by decide) (by decide)) hk g
  intro p hp
  cases p <;> first | rfl | exact fun _ => rfl | exact absurd (by decide) hp

theorem Keeps.upd_mon {l : List Part} {s0 s : State} (x0 : MonPart) (hk : within [Part.mon] l = true)
    (g : Keeps l s0 s) : Keeps l s0 { s with mon := x0 } := by
  refine Keeps.next (k := [.mon]) (s := s) (Keeps.of_same ?_ (by decide) (by decide) (by decide)) hk g
  intro p hp
  cases p <;> first | rfl | exact fun _ => rfl | exact absurd (by decide) hp

theorem Keeps.upd_net {l : List Part} {s0 s : State} (x0 : NetPart) (hk : within [Part.net] l = true)
    (g : Keeps l s0 s) : Keeps l s0 { s with net := x0 } := by
  refine Keeps.next (k := [.net]) (s := s) (Keeps.of_same ?_ (by decide) (by decide) (by decide)) hk g
  intro p hp
  cases p <;> first | rfl | exact fun _ => rfl | exact absurd (by decide) hp

theorem Keeps.upd_panel {l : List Part} {s0 s : State} (x0 : PanelPart) (hk : within [Part.panel] l = true)
    (g : Keeps l s0 s) : Keeps l s0 { s with panel := x0 } := by
  refine Keeps.next (k := [.panel]) (s := s) (Keeps.of_same ?_ (by decide) (by decide) (by decide)) hk g
  intro p hp
  cases p <;> first | rfl | exact fun _ => rfl | exact absurd (by decide) hp

theorem Keeps.upd_pos {l : List Part} {s0 s : State} (x0 : PosPart) (hk : within [Part.pos] l = true)
    (g : Keeps l s0 s) : Keeps l s0 { s with pos := x0 } := by
  refine Keeps.next (k := [.pos]) (s := s) (Keeps.of_same ?_ (by decide) (by decide) (by decide)) hk g
  intro p hp
  cases p <;> first | rfl | exact fun _ => rfl | exact absurd (by decide) hp

theorem Keeps.upd_pos_panel {l : List Part} {s0 s : State} (x0 : PosPart) (x1 : PanelPart) (hk : within [Part.pos, .panel] l = true)
    (g : Keeps l s0 s) : Keeps l s0 { s with pos := x0, panel := x1 } := by
  refine Keeps.next (k := [.pos, .panel]) (s := s) (Keeps.of_same ?_ (by decide) (by decide) (by decide)) hk g
  intro p hp
  cases p <;> first | rfl | exact fun _ => rfl | exact absurd (by decide) hp

theorem Keeps.upd_queue {l : List Part} {s0 s : State} (x0 : Per QueueMast) (hk : within [Part.queue] l = true)
    (g : Keeps l s0 s) : Keeps l s0 { s with queue := x0 } := by
  refine Keeps.next (k := [.queue]) (s := s) (Keeps.of_same ?_ (by decide) (by decide) (by decide)) hk g
  intro p hp
  cases p <;> first | rfl | exact fun _ => rfl | exact absurd (by decide) hp

theorem Keeps.upd_shown {l : List Part} {s0 s : State} (x0 : Option RegFile) (hk : within [Part.shown] l = true)
    (g : Keeps l s0 s) : Keeps l s0 { s with shown := x0 } := by
  refine Keeps.next (k := [.shown]) (s := s) (Keeps.of_same ?_ (by decide) (by decide) (by decide)) hk g
  intro p hp
  cases p <;> first | rfl | exact fun _ => rfl | exact absurd (by decide) hp

theorem Keeps.upd_stay {l : List Part} {s0 s : State} (x0 : StayPart) (hk : within [Part.stay] l = true)
    (g : Keeps l s0 s) : Keeps l s0 { s with stay := x0 } := by
  refine Keeps.next (k := [.stay]) (s := s) (Keeps.of_same ?_ (by decide) (by decide) (by decide)) hk g
  intro p hp
  cases p <;> first | rfl | exact fun _ => rfl | exact absurd (by decide) hp

theorem Keeps.upd_stay_panel {l : List Part} {s0 s : State} (x0 : StayPart) (x1 : PanelPart) (hk : within [Part.stay, .panel] l = true)
    (g : Keeps l s0 s) : Keeps l s0 { s with stay := x0, panel := x1 } := by
  refine Keeps.next (k := [.stay, .panel]) (s := s) (Keeps.of_same ?_ (by decide) (by decide) (by decide)) hk g
  intro p hp
  cases p <;> first | rfl | exact fun _ => rfl | exact absurd (by decide) hp

theorem Keeps.upd_sup {l : List Part} {s0 s : State} (x0 : SupPart) (hk : within [Part.sup] l = true)
    (g : Keeps l s0 s) : Keeps l s0 { s with sup := x0 } := by
  refine Keeps.next (k := [.sup]) (s := s) (Keeps.of_same ?_ (by decide) (by decide) (by decide)) hk g
  intro p hp
  cases p <;> first | rfl | exact fun _ => rfl | exact absurd (by decide) hp

theorem Keeps.upd_supply {l : List Part} {s0 s : State} (x0 : SupplyPart) (hk : within [Part.supply] l = true)
    (g : Keeps l s0 s) : Keeps l s0 { s with supply := x0 } := by
  refine Keeps.next (k := [.supply]) (s := s) (Keeps.of_same ?_ (by decide) (by decide) (by decide)) hk g
  intro p hp
  cases p <;> first | rfl | exact fun _ => rfl | exact absurd (by decide) hp

theorem Keeps.upd_supply_panel {l : List Part} {s0 s : State} (x0 : SupplyPart) (x1 : PanelPart) (hk : within [Part.supply, .panel] l = true)
    (g : Keeps l s0 s) : Keeps l s0 { s with supply := x0, panel := x1 } := by
  refine Keeps.next (k := [.supply, .panel]) (s := s) (Keeps.of_same ?_ (by decide) (by decide) (by decide)) hk g
  intro p hp
  cases p <;> first | rfl | exact fun _ => rfl | exact absurd (by decide) hp

theorem Keeps.upd_time {l : List Part} {s0 s : State} (x0 : TimePart) (hk : within [Part.time] l = true)
    (g : Keeps l s0 s) : Keeps l s0 { s with time := x0 } := by
  refine Keeps.next (k := [.time]) (s := s) (Keeps.of_same ?_ (by decide) (by decide) (by decide)) hk g
  intro p hp
  cases p <;> first | rfl | exact fun _ => rfl | exact absurd (by decide) hp

theorem Keeps.upd_time_pos {l : List Part} {s0 s : State} (x0 : TimePart) (x1 : PosPart) (hk : within [Part.time, .pos] l = true)
    (g : Keeps l s0 s) : Keeps l s0 { s with time := x0, pos := x1 } := by
  refine Keeps.next (k := [.time, .pos]) (s := s) (Keeps.of_same ?_ (by decide) (by decide) (by decide)) hk g
  intro p hp
  cases p <;> first | rfl | exact fun _ => rfl | exact absurd (by decide) hp

theorem Keeps.upd_upd {l : List Part} {s0 s : State} (x0 : UpdatePart) (hk : within [Part.upd] l = true)
    (g : Keeps l s0 s) : Keeps l s0 { s with upd := x0 } := by
  refine Keeps.next (k := [.upd]) (s := s) (Keeps.of_same ?_ (by decide) (by decide) (by decide)) hk g
  intro p hp
  cases p <;> first | rfl | exact fun _ => rfl | exact absurd (by decide) hp

theorem Keeps.upd_writes {l : List Part} {s0 s : State} (x0 : List CombWrite) (hk : within [Part.writes] l = true)
    (g : Keeps l s0 s) : Keeps l s0 { s with writes := x0 } := by
  refine Keeps.next (k := [.writes]) (s := s) (Keeps.of_same ?_ (by decide) (by decide) (by decide)) hk g
  intro p hp
  cases p <;> first | rfl | exact fun _ => rfl | exact absurd (by decide) hp

end Sys2Proof.Safety

namespace Sys2Proof.Machine

open Sys2Proof.Safety

/-! ## Memories -/

theorem Memory.wf_filter (m : Memory) (p : Host.Cell → Bool) (h : m.wf = true) :
    ({ m with cells := m.cells.filter p } : Memory).wf = true := by
  rw [Memory.wf_iff] at h ⊢
  refine ⟨filter_sorted _ _ h.1, fun c hc => h.2.1 c (List.mem_of_mem_filter hc), h.2.2⟩

theorem Memory.wf_errs (m : Memory) (e : List (Nat × List Nat)) (h : m.wf = true) : ({ m with errs := e } : Memory).wf = true := h

theorem Memory.wf_putCells (m : Memory) (l : List Host.Cell) (h : m.wf = true) : (m.putCells l).wf = true := by
  unfold Memory.putCells
  induction l generalizing m with
  | nil => exact h
  | cons c l ih => exact ih _ (Memory.wf_writeByte m c.1 c.2 h)

theorem Memory.wf_erase (m : Memory) (a n : Nat) (h : m.wf = true) : (m.erase a n).wf = true := Memory.wf_filter m _ h

theorem Memory.wf_takeRange (m src : Memory) (a n : Nat) (h : m.wf = true) : (m.takeRange src a n).wf = true :=
  Memory.wf_putCells _ _ (Memory.wf_filter m _ h)

theorem Memory.wf_writeStore (m : Memory) (b : List Byte) (h : m.wf = true) : (m.writeStore b).wf = true :=
  Memory.wf_writeBytes _ _ _ (Memory.wf_erase _ _ _ h)

theorem Memory.wf_writeBank (m : Memory) (bank cycle : Nat) (hash data : List Byte) (h : m.wf = true) :
    (m.writeBank bank cycle hash data).wf = true := Memory.wf_writeBytes _ _ _ (Memory.wf_writeBytes _ _ _ h)

theorem Memory.wf_writeRecord (m : Memory) (r : BootRecord) (h : m.wf = true) : (m.writeRecord r).wf = true := by
  unfold Memory.writeRecord
  split <;> exact Memory.wf_writeBytes _ _ _ h

theorem Memory.wf_clearSilence (m : Memory) (h : m.wf = true) : m.clearSilence.wf = true := Memory.wf_writeBytes _ _ _ h

theorem State.loadCheckpoint_mem (kept : Memory) (l : List Host.Cell) (r : List (Nat × Nat)) (h : kept.wf = true) :
    (r.foldl (fun (y : Memory) r => y.markRange r.1 (r.2 * 4096)) (kept.putCells l)).wf = true :=
  foldl_keeps (fun y : Memory => y.wf = true) _ (fun y x hy => Memory.wf_markRange _ _ _ hy) _ _ (Memory.wf_putCells _ _ h)

/-! ## Registers -/

theorem RegFile.wf_filter (f : RegFile) (p : Nat × Word → Bool) (h : f.wf = true) : (⟨f.cells.filter p⟩ : RegFile).wf = true := by
  simp only [RegFile.wf, Bool.and_eq_true, List.all_eq_true] at h ⊢
  exact ⟨filter_sorted _ _ h.1, fun c hc => h.2 c (List.mem_of_mem_filter hc)⟩

theorem RegFile.wf_copyMast (f : RegFile) (src dst : Mast) (h : f.wf = true) : (f.copyMast src dst).wf = true := by
  unfold RegFile.copyMast
  exact foldl_keeps (fun x : RegFile => x.wf = true) _ (fun x c hx => RegFile.wf_set _ _ _ hx) _ _ (RegFile.wf_filter f _ h)

theorem State.setReg_keeps {l : List Part} {s0 s : State} (c : Copy) (a : Nat) (w : Word) (hk : within [Part.regs] l = true)
    (g : Keeps l s0 s) : Keeps l s0 (s.setReg c a w) := by
  refine Keeps.next (k := [.regs]) (s := s) ⟨?_, fun x => ⟨RegFile.wf_set _ _ _ x.1, x.2⟩, Nat.le_refl _⟩ hk g
  rw [sameBut_iff]; simp; exact fun _ => rfl

theorem State.advance_keeps {l : List Part} {s0 s : State} (t : Nat) (hk : within [Part.now, .free, .time] l = true)
    (g : Keeps l s0 s) : Keeps l s0 (s.advance t) := by
  refine Keeps.next (k := [.now, .free, .time]) (s := s) ⟨?_, id, Nat.le_max_left _ _⟩ hk g
  rw [sameBut_iff]; simp

end Sys2Proof.Machine
end

