-- ==== Sys2Proof/Laws/Operations1.lean ====
section
/-!
SUPPORT. One lemma for each operation of the machine, in the order in which they rest on one another (part 1 of 4): the
operation touches at most the parts named, keeps registers and memories canonical and turns no clock back. Cite it in
place of unfolding the operation.
-/
namespace Sys2Proof.Machine

open Sys2Proof.Safety

theorem State.putF_keeps {l : List Part} {s0 s : State} (a1 : Copy) (a2 : Fld) (a3 : Nat)
    (hk : within [Part.regs] l = true) (g : Keeps l s0 s) : Keeps l s0 (State.putF s a1 a2 a3) := by
  refine Keeps.next (k := [Part.regs]) (s := s) ?_ hk g
  clear hk g s0 l
  delta State.putF
  try beta_reduce
  repeat' first
    | intro _
    | (with_reducible first | assumption | exact Keeps.refl _ _ | apply Keeps.ite | apply Keeps.fold | apply State.setReg_keeps)
    | split
    | (clear_value *; split)
  all_goals first | rfl

theorem State.askRelease_keeps {l : List Part} {s0 s : State} (a1 : Option Nat) (a2 : Nat)
    (hk : within [Part.regs, .app] l = true) (g : Keeps l s0 s) : Keeps l s0 (State.askRelease s a1 a2) := by
  refine Keeps.next (k := [Part.regs, .app]) (s := s) ?_ hk g
  clear hk g s0 l
  delta State.askRelease
  try beta_reduce
  try lift_lets -underBinder
  repeat' first
    | (intro x; first | (have hx : Keeps [Part.regs, .app] s x := (by unfold x; (repeat' first | intro _ | (with_reducible first | assumption | exact Keeps.refl _ _ | apply Keeps.ite | apply Keeps.fold | apply State.putF_keeps) | lift_lets -underBinder | split | (clear_value *; split) | (with_reducible apply Keeps.upd_app)) <;> first | rfl); clear_value x) | skip)
    | (with_reducible first | assumption | exact Keeps.refl _ _ | apply Keeps.ite | apply Keeps.fold | apply State.putF_keeps)
    | lift_lets -underBinder
    | split
    | (clear_value *; split)
    | (with_reducible apply Keeps.upd_app)
  all_goals first | rfl

theorem State.raiseAt_keeps {l : List Part} {s0 s : State} (a1 : Nat) (a2 : Nat) (a3 : Nat) (a4 : Nat) (a5 : Nat) (a6 : Bool)
    (hk : within [Part.log] l = true) (g : Keeps l s0 s) : Keeps l s0 (State.raiseAt s a1 a2 a3 a4 a5 a6) := by
  refine Keeps.next (k := [Part.log]) (s := s) ?_ hk g
  clear hk g s0 l
  delta State.raiseAt
  try beta_reduce
  try lift_lets -underBinder
  repeat' first
    | (intro x; first | (have hx : Keeps [Part.log] s x := (by unfold x; (repeat' first | intro _ | (with_reducible first | assumption | exact Keeps.refl _ _ | apply Keeps.ite | apply Keeps.fold) | lift_lets -underBinder | split | (clear_value *; split) | (with_reducible apply Keeps.upd_log)) <;> first | rfl); clear_value x) | skip)
    | (with_reducible first | assumption | exact Keeps.refl _ _ | apply Keeps.ite | apply Keeps.fold)
    | lift_lets -underBinder
    | split
    | (clear_value *; split)
    | (with_reducible apply Keeps.upd_log)
  all_goals first | rfl

theorem State.raiseBy_keeps {l : List Part} {s0 s : State} (a1 : Nat) (a2 : Nat) (a3 : Nat) (a4 : Nat)
    (hk : within [Part.log] l = true) (g : Keeps l s0 s) : Keeps l s0 (State.raiseBy s a1 a2 a3 a4) := by
  refine Keeps.next (k := [Part.log]) (s := s) ?_ hk g
  clear hk g s0 l
  delta State.raiseBy
  try beta_reduce
  repeat' first
    | intro _
    | (with_reducible first | assumption | exact Keeps.refl _ _ | apply Keeps.ite | apply Keeps.fold | apply State.raiseAt_keeps)
    | split
    | (clear_value *; split)
  all_goals first | rfl

theorem State.raise_keeps {l : List Part} {s0 s : State} (a1 : Nat) (a2 : Nat) (a3 : Nat)
    (hk : within [Part.log] l = true) (g : Keeps l s0 s) : Keeps l s0 (State.raise s a1 a2 a3) := by
  refine Keeps.next (k := [Part.log]) (s := s) ?_ hk g
  clear hk g s0 l
  delta State.raise
  try beta_reduce
  repeat' first
    | intro _
    | (with_reducible first | assumption | exact Keeps.refl _ _ | apply Keeps.ite | apply Keeps.fold | apply State.raiseBy_keeps)
    | split
    | (clear_value *; split)
  all_goals first | rfl

theorem State.incF_keeps {l : List Part} {s0 s : State} (a1 : Copy) (a2 : Fld) (a3 : Nat)
    (hk : within [Part.regs] l = true) (g : Keeps l s0 s) : Keeps l s0 (State.incF s a1 a2 a3) := by
  refine Keeps.next (k := [Part.regs]) (s := s) ?_ hk g
  clear hk g s0 l
  delta State.incF
  try beta_reduce
  repeat' first
    | intro _
    | (with_reducible first | assumption | exact Keeps.refl _ _ | apply Keeps.ite | apply Keeps.fold | apply State.putF_keeps)
    | split
    | (clear_value *; split)
  all_goals first | rfl

theorem State.setBus_keeps {l : List Part} {s0 s : State} (a1 : Nat) (a2 : FbBus)
    (hk : within [Part.fb] l = true) (g : Keeps l s0 s) : Keeps l s0 (State.setBus s a1 a2) := by
  refine Keeps.next (k := [Part.fb]) (s := s) ?_ hk g
  clear hk g s0 l
  delta State.setBus
  try beta_reduce
  try lift_lets -underBinder
  repeat' first
    | (intro x; first | (have hx : Keeps [Part.fb] s x := (by unfold x; (repeat' first | intro _ | (with_reducible first | assumption | exact Keeps.refl _ _ | apply Keeps.ite | apply Keeps.fold) | lift_lets -underBinder | split | (clear_value *; split) | (with_reducible apply Keeps.upd_fb)) <;> first | rfl); clear_value x) | skip)
    | (with_reducible first | assumption | exact Keeps.refl _ _ | apply Keeps.ite | apply Keeps.fold)
    | lift_lets -underBinder
    | split
    | (clear_value *; split)
    | (with_reducible apply Keeps.upd_fb)
  all_goals first | rfl

theorem State.fbState_keeps {l : List Part} {s0 s : State} (a1 : Nat) (a2 : BusState)
    (hk : within [Part.regs, .log, .fb] l = true) (g : Keeps l s0 s) : Keeps l s0 (State.fbState s a1 a2) := by
  refine Keeps.next (k := [Part.regs, .log, .fb]) (s := s) ?_ hk g
  clear hk g s0 l
  delta State.fbState
  try beta_reduce
  try lift_lets -underBinder
  repeat' first
    | (intro x; first | (have hx : Keeps [Part.regs, .log, .fb] s x := (by unfold x; (repeat' first | intro _ | (with_reducible first | assumption | exact Keeps.refl _ _ | apply Keeps.ite | apply Keeps.fold | apply State.raise_keeps | apply State.incF_keeps | apply State.setBus_keeps | apply State.putF_keeps) | lift_lets -underBinder | split | (clear_value *; split)) <;> first | rfl); clear_value x) | skip)
    | (with_reducible first | assumption | exact Keeps.refl _ _ | apply Keeps.ite | apply Keeps.fold | apply State.raise_keeps | apply State.incF_keeps | apply State.setBus_keeps | apply State.putF_keeps)
    | lift_lets -underBinder
    | split
    | (clear_value *; split)
  all_goals first | rfl

theorem State.fbLeaveService_keeps {l : List Part} {s0 s : State}
    (hk : within [Part.regs, .log, .fb] l = true) (g : Keeps l s0 s) : Keeps l s0 (State.fbLeaveService s) := by
  refine Keeps.next (k := [Part.regs, .log, .fb]) (s := s) ?_ hk g
  clear hk g s0 l
  delta State.fbLeaveService
  try beta_reduce
  repeat' first
    | intro _
    | (with_reducible first | assumption | exact Keeps.refl _ _ | apply Keeps.ite | apply Keeps.fold | apply State.fbState_keeps)
    | split
    | (clear_value *; split)
  all_goals first | rfl

theorem State.leaveMode_keeps {l : List Part} {s0 s : State}
    (hk : within [Part.regs, .log, .key, .fb, .app, .upd] l = true) (g : Keeps l s0 s) : Keeps l s0 (State.leaveMode s) := by
  refine Keeps.next (k := [Part.regs, .log, .key, .fb, .app, .upd]) (s := s) ?_ hk g
  clear hk g s0 l
  delta State.leaveMode
  try beta_reduce
  try lift_lets -underBinder
  repeat' first
    | (intro x; first | (have hx : Keeps [Part.regs, .log, .key, .fb, .app, .upd] s x := (by unfold x; (repeat' first | intro _ | (with_reducible first | assumption | exact Keeps.refl _ _ | apply Keeps.ite | apply Keeps.fold | apply State.putF_keeps | apply State.askRelease_keeps | apply State.fbLeaveService_keeps) | lift_lets -underBinder | split | (clear_value *; split) | (with_reducible apply Keeps.upd_upd) | (with_reducible apply Keeps.upd_key)) <;> first | rfl); clear_value x) | skip)
    | (with_reducible first | assumption | exact Keeps.refl _ _ | apply Keeps.ite | apply Keeps.fold | apply State.putF_keeps | apply State.askRelease_keeps | apply State.fbLeaveService_keeps)
    | lift_lets -underBinder
    | split
    | (clear_value *; split)
    | (with_reducible apply Keeps.upd_upd)
    | (with_reducible apply Keeps.upd_key)
  all_goals first | rfl

theorem State.noteReply_keeps {l : List Part} {s0 s : State} (a1 : NetReply)
    (hk : within [Part.net] l = true) (g : Keeps l s0 s) : Keeps l s0 (State.noteReply s a1) := by
  refine Keeps.next (k := [Part.net]) (s := s) ?_ hk g
  clear hk g s0 l
  delta State.noteReply
  try beta_reduce
  try lift_lets -underBinder
  repeat' first
    | (intro x; first | (have hx : Keeps [Part.net] s x := (by unfold x; (repeat' first | intro _ | (with_reducible first | assumption | exact Keeps.refl _ _ | apply Keeps.ite | apply Keeps.fold) | lift_lets -underBinder | split | (clear_value *; split) | (with_reducible apply Keeps.upd_net)) <;> first | rfl); clear_value x) | skip)
    | (with_reducible first | assumption | exact Keeps.refl _ _ | apply Keeps.ite | apply Keeps.fold)
    | lift_lets -underBinder
    | split
    | (clear_value *; split)
    | (with_reducible apply Keeps.upd_net)
  all_goals first | rfl

theorem State.netReply_keeps {l : List Part} {s0 s : State} (a1 : NetReply)
    (hk : within [Part.net] l = true) (g : Keeps l s0 s) : Keeps l s0 (State.netReply s a1) := by
  refine Keeps.next (k := [Part.net]) (s := s) ?_ hk g
  clear hk g s0 l
  delta State.netReply
  try beta_reduce
  repeat' first
    | intro _
    | (with_reducible first | assumption | exact Keeps.refl _ _ | apply Keeps.ite | apply Keeps.fold | apply State.noteReply_keeps)
    | split
    | (clear_value *; split)
  all_goals first | rfl

theorem State.scForget_keeps {l : List Part} {s0 s : State}
    (hk : within [Part.net] l = true) (g : Keeps l s0 s) : Keeps l s0 (State.scForget s) := by
  refine Keeps.next (k := [Part.net]) (s := s) ?_ hk g
  clear hk g s0 l
  delta State.scForget
  try beta_reduce
  try lift_lets -underBinder
  repeat' first
    | (intro x; first | (have hx : Keeps [Part.net] s x := (by unfold x; (repeat' first | intro _ | (with_reducible first | assumption | exact Keeps.refl _ _ | apply Keeps.ite | apply Keeps.fold) | lift_lets -underBinder | split | (clear_value *; split) | (with_reducible apply Keeps.upd_net)) <;> first | rfl); clear_value x) | skip)
    | (with_reducible first | assumption | exact Keeps.refl _ _ | apply Keeps.ite | apply Keeps.fold)
    | lift_lets -underBinder
    | split
    | (clear_value *; split)
    | (with_reducible apply Keeps.upd_net)
  all_goals first | rfl

theorem State.netEnterStop_keeps {l : List Part} {s0 s : State}
    (hk : within [Part.app, .net] l = true) (g : Keeps l s0 s) : Keeps l s0 (State.netEnterStop s) := by
  refine Keeps.next (k := [Part.app, .net]) (s := s) ?_ hk g
  clear hk g s0 l
  delta State.netEnterStop
  try beta_reduce
  try lift_lets -underBinder
  repeat' first
    | (intro x; first | (have hx : Keeps [Part.app, .net] s x := (by unfold x; (repeat' first | intro _ | (with_reducible first | assumption | exact Keeps.refl _ _ | apply Keeps.ite | apply Keeps.fold | apply State.netReply_keeps | apply State.scForget_keeps) | lift_lets -underBinder | split | (clear_value *; split) | (with_reducible apply Keeps.upd_app_net)) <;> first | rfl); clear_value x) | skip)
    | (with_reducible first | assumption | exact Keeps.refl _ _ | apply Keeps.ite | apply Keeps.fold | apply State.netReply_keeps | apply State.scForget_keeps)
    | lift_lets -underBinder
    | split
    | (clear_value *; split)
    | (with_reducible apply Keeps.upd_app_net)
  all_goals first | rfl

theorem State.fbForget_keeps {l : List Part} {s0 s : State}
    (hk : within [Part.fb] l = true) (g : Keeps l s0 s) : Keeps l s0 (State.fbForget s) := by
  refine Keeps.next (k := [Part.fb]) (s := s) ?_ hk g
  clear hk g s0 l
  delta State.fbForget
  try beta_reduce
  try lift_lets -underBinder
  repeat' first
    | (intro x; first | (have hx : Keeps [Part.fb] s x := (by unfold x; (repeat' first | intro _ | (with_reducible first | assumption | exact Keeps.refl _ _ | apply Keeps.ite | apply Keeps.fold | apply State.setBus_keeps) | lift_lets -underBinder | split | (clear_value *; split)) <;> first | rfl); clear_value x) | skip)
    | (with_reducible first | assumption | exact Keeps.refl _ _ | apply Keeps.ite | apply Keeps.fold | apply State.setBus_keeps)
    | lift_lets -underBinder
    | split
    | (clear_value *; split)
  all_goals first | rfl

theorem State.queuedDrop_keeps {l : List Part} {s0 s : State} (a1 : Sys2Proof.Mast) (a2 : List Nat)
    (hk : within [Part.regs, .field] l = true) (g : Keeps l s0 s) : Keeps l s0 (State.queuedDrop s a1 a2) := by
  refine Keeps.next (k := [Part.regs, .field]) (s := s) ?_ hk g
  clear hk g s0 l
  delta State.queuedDrop
  try beta_reduce
  try lift_lets -underBinder
  repeat' first
    | (intro x; first | (have hx : Keeps [Part.regs, .field] s x := (by unfold x; (repeat' first | intro _ | (with_reducible first | assumption | exact Keeps.refl _ _ | apply Keeps.ite | apply Keeps.fold | apply State.putF_keeps) | lift_lets -underBinder | split | (clear_value *; split) | (with_reducible apply Keeps.upd_field)) <;> first | rfl); clear_value x) | skip)
    | (with_reducible first | assumption | exact Keeps.refl _ _ | apply Keeps.ite | apply Keeps.fold | apply State.putF_keeps)
    | lift_lets -underBinder
    | split
    | (clear_value *; split)
    | (with_reducible apply Keeps.upd_field)
  all_goals first | rfl

theorem State.queuedClearAll_keeps {l : List Part} {s0 s : State}
    (hk : within [Part.regs, .field] l = true) (g : Keeps l s0 s) : Keeps l s0 (State.queuedClearAll s) := by
  refine Keeps.next (k := [Part.regs, .field]) (s := s) ?_ hk g
  clear hk g s0 l
  delta State.queuedClearAll
  try beta_reduce
  repeat' first
    | intro _
    | (with_reducible first | assumption | exact Keeps.refl _ _ | apply Keeps.ite | apply Keeps.fold | apply State.queuedDrop_keeps)
    | split
    | (clear_value *; split)
  all_goals first | rfl

theorem State.setRun_keeps {l : List Part} {s0 s : State} (a1 : AppRun)
    (hk : within [Part.regs, .app] l = true) (g : Keeps l s0 s) : Keeps l s0 (State.setRun s a1) := by
  refine Keeps.next (k := [Part.regs, .app]) (s := s) ?_ hk g
  clear hk g s0 l
  delta State.setRun
  try beta_reduce
  try lift_lets -underBinder
  repeat' first
    | (intro x; first | (have hx : Keeps [Part.regs, .app] s x := (by unfold x; (repeat' first | intro _ | (with_reducible first | assumption | exact Keeps.refl _ _ | apply Keeps.ite | apply Keeps.fold | apply State.putF_keeps) | lift_lets -underBinder | split | (clear_value *; split) | (with_reducible apply Keeps.upd_app)) <;> first | rfl); clear_value x) | skip)
    | (with_reducible first | assumption | exact Keeps.refl _ _ | apply Keeps.ite | apply Keeps.fold | apply State.putF_keeps)
    | lift_lets -underBinder
    | split
    | (clear_value *; split)
    | (with_reducible apply Keeps.upd_app)
  all_goals first | rfl

theorem State.appStop_keeps {l : List Part} {s0 s : State}
    (hk : within [Part.regs, .lane, .app] l = true) (g : Keeps l s0 s) : Keeps l s0 (State.appStop s) := by
  refine Keeps.next (k := [Part.regs, .lane, .app]) (s := s) ?_ hk g
  clear hk g s0 l
  delta State.appStop
  try beta_reduce
  try lift_lets -underBinder
  repeat' first
    | (intro x; first | (have hx : Keeps [Part.regs, .lane, .app] s x := (by unfold x; (repeat' first | intro _ | (with_reducible first | assumption | exact Keeps.refl _ _ | apply Keeps.ite | apply Keeps.fold | apply State.setRun_keeps) | lift_lets -underBinder | split | (clear_value *; split) | (with_reducible apply Keeps.upd_lane_app)) <;> first | rfl); clear_value x) | skip)
    | (with_reducible first | assumption | exact Keeps.refl _ _ | apply Keeps.ite | apply Keeps.fold | apply State.setRun_keeps)
    | lift_lets -underBinder
    | split
    | (clear_value *; split)
    | (with_reducible apply Keeps.upd_lane_app)
  all_goals first | rfl

theorem State.answer_keeps {l : List Part} {s0 s : State} (a1 : Mast) (a2 : Triad) (a3 : BusAnswer)
    (hk : within [Part.masts] l = true) (g : Keeps l s0 s) : Keeps l s0 (State.answer s a1 a2 a3) :=
  Keeps.setMast a1 _ (by cases a2 <;> rfl) hk g

theorem State.answerWaiting_keeps {l : List Part} {s0 s : State} (a1 : Sys2Proof.Per (Option Sys2Proof.Triad)) (a2 : BusAnswer)
    (hk : within [Part.masts] l = true) (g : Keeps l s0 s) : Keeps l s0 (State.answerWaiting s a1 a2) := by
  refine Keeps.next (k := [Part.masts]) (s := s) ?_ hk g
  clear hk g s0 l
  delta State.answerWaiting
  try beta_reduce
  repeat' first
    | intro _
    | (with_reducible first | assumption | exact Keeps.refl _ _ | apply Keeps.ite | apply Keeps.fold | apply State.answer_keeps)
    | split
    | (clear_value *; split)
  all_goals first | rfl

theorem State.showBridge_keeps {l : List Part} {s0 s : State}
    (hk : within [Part.regs] l = true) (g : Keeps l s0 s) : Keeps l s0 (State.showBridge s) := by
  refine Keeps.next (k := [Part.regs]) (s := s) ?_ hk g
  clear hk g s0 l
  delta State.showBridge
  try beta_reduce
  repeat' first
    | intro _
    | (with_reducible first | assumption | exact Keeps.refl _ _ | apply Keeps.ite | apply Keeps.fold | apply State.putF_keeps)
    | split
    | (clear_value *; split)
  all_goals first | rfl

theorem State.bridgeClose_keeps {l : List Part} {s0 s : State} (a1 : Nat)
    (hk : within [Part.regs, .masts, .bridge] l = true) (g : Keeps l s0 s) : Keeps l s0 (State.bridgeClose s a1) := by
  refine Keeps.next (k := [Part.regs, .masts, .bridge]) (s := s) ?_ hk g
  clear hk g s0 l
  delta State.bridgeClose
  try beta_reduce
  try lift_lets -underBinder
  repeat' first
    | (intro x; first | (have hx : Keeps [Part.regs, .masts, .bridge] s x := (by unfold x; (repeat' first | intro _ | (with_reducible first | assumption | exact Keeps.refl _ _ | apply Keeps.ite | apply Keeps.fold | apply State.answerWaiting_keeps | apply State.putF_keeps | apply State.showBridge_keeps) | lift_lets -underBinder | split | (clear_value *; split) | (with_reducible apply Keeps.upd_bridge)) <;> first | rfl); clear_value x) | skip)
    | (with_reducible first | assumption | exact Keeps.refl _ _ | apply Keeps.ite | apply Keeps.fold | apply State.answerWaiting_keeps | apply State.putF_keeps | apply State.showBridge_keeps)
    | lift_lets -underBinder
    | split
    | (clear_value *; split)
    | (with_reducible apply Keeps.upd_bridge)
  all_goals first | rfl

theorem State.showForce_keeps {l : List Part} {s0 s : State} (a1 : Sys2Proof.Mast)
    (hk : within [Part.regs] l = true) (g : Keeps l s0 s) : Keeps l s0 (State.showForce s a1) := by
  refine Keeps.next (k := [Part.regs]) (s := s) ?_ hk g
  clear hk g s0 l
  delta State.showForce
  try beta_reduce
  repeat' first
    | intro _
    | (with_reducible first | assumption | exact Keeps.refl _ _ | apply Keeps.ite | apply Keeps.fold | apply State.putF_keeps)
    | split
    | (clear_value *; split)
  all_goals first | rfl

theorem State.spStop_keeps {l : List Part} {s0 s : State}
    (hk : within [Part.regs, .sup] l = true) (g : Keeps l s0 s) : Keeps l s0 (State.spStop s) := by
  refine Keeps.next (k := [Part.regs, .sup]) (s := s) ?_ hk g
  clear hk g s0 l
  delta State.spStop
  try beta_reduce
  try lift_lets -underBinder
  repeat' first
    | (intro x; first | (have hx : Keeps [Part.regs, .sup] s x := (by unfold x; (repeat' first | intro _ | (with_reducible first | assumption | exact Keeps.refl _ _ | apply Keeps.ite | apply Keeps.fold | apply State.putF_keeps | apply State.showForce_keeps) | lift_lets -underBinder | split | (clear_value *; split) | (with_reducible apply Keeps.upd_sup)) <;> first | rfl); clear_value x) | skip)
    | (with_reducible first | assumption | exact Keeps.refl _ _ | apply Keeps.ite | apply Keeps.fold | apply State.putF_keeps | apply State.showForce_keeps)
    | lift_lets -underBinder
    | split
    | (clear_value *; split)
    | (with_reducible apply Keeps.upd_sup)
  all_goals first | rfl

theorem State.showMembers_keeps {l : List Part} {s0 s : State}
    (hk : within [Part.regs, .log, .stay] l = true) (g : Keeps l s0 s) : Keeps l s0 (State.showMembers s) := by
  refine Keeps.next (k := [Part.regs, .log, .stay]) (s := s) ?_ hk g
  clear hk g s0 l
  delta State.showMembers
  try beta_reduce
  try lift_lets -underBinder
  repeat' first
    | (intro x; first | (have hx : Keeps [Part.regs, .log, .stay] s x := (by unfold x; (repeat' first | intro _ | (with_reducible first | assumption | exact Keeps.refl _ _ | apply Keeps.ite | apply Keeps.fold | apply State.putF_keeps | apply State.setReg_keeps | apply State.raise_keeps) | lift_lets -underBinder | split | (clear_value *; split) | (with_reducible apply Keeps.upd_stay)) <;> first | rfl); clear_value x) | skip)
    | (with_reducible first | assumption | exact Keeps.refl _ _ | apply Keeps.ite | apply Keeps.fold | apply State.putF_keeps | apply State.setReg_keeps | apply State.raise_keeps)
    | lift_lets -underBinder
    | split
    | (clear_value *; split)
    | (with_reducible apply Keeps.upd_stay)
  all_goals first | rfl

theorem State.slBypass_keeps {l : List Part} {s0 s : State}
    (hk : within [Part.regs, .log, .stay] l = true) (g : Keeps l s0 s) : Keeps l s0 (State.slBypass s) := by
  refine Keeps.next (k := [Part.regs, .log, .stay]) (s := s) ?_ hk g
  clear hk g s0 l
  delta State.slBypass
  try beta_reduce
  try lift_lets -underBinder
  repeat' first
    | (intro x; first | (have hx : Keeps [Part.regs, .log, .stay] s x := (by unfold x; (repeat' first | intro _ | (with_reducible first | assumption | exact Keeps.refl _ _ | apply Keeps.ite | apply Keeps.fold | apply State.putF_keeps | apply State.showMembers_keeps) | lift_lets -underBinder | split | (clear_value *; split) | (with_reducible apply Keeps.upd_stay)) <;> first | rfl); clear_value x) | skip)
    | (with_reducible first | assumption | exact Keeps.refl _ _ | apply Keeps.ite | apply Keeps.fold | apply State.putF_keeps | apply State.showMembers_keeps)
    | lift_lets -underBinder
    | split
    | (clear_value *; split)
    | (with_reducible apply Keeps.upd_stay)
  all_goals first | rfl

theorem State.fbOff_keeps {l : List Part} {s0 s : State}
    (hk : within [Part.regs, .log, .fb] l = true) (g : Keeps l s0 s) : Keeps l s0 (State.fbOff s) := by
  refine Keeps.next (k := [Part.regs, .log, .fb]) (s := s) ?_ hk g
  clear hk g s0 l
  delta State.fbOff
  try beta_reduce
  try lift_lets -underBinder
  repeat' first
    | (intro x; first | (have hx : Keeps [Part.regs, .log, .fb] s x := (by unfold x; (repeat' first | intro _ | (with_reducible first | assumption | exact Keeps.refl _ _ | apply Keeps.ite | apply Keeps.fold | apply State.fbState_keeps | apply State.setBus_keeps) | lift_lets -underBinder | split | (clear_value *; split)) <;> first | rfl); clear_value x) | skip)
    | (with_reducible first | assumption | exact Keeps.refl _ _ | apply Keeps.ite | apply Keeps.fold | apply State.fbState_keeps | apply State.setBus_keeps)
    | lift_lets -underBinder
    | split
    | (clear_value *; split)
  all_goals first | rfl

theorem State.setQueue_keeps {l : List Part} {s0 s : State} (a1 : Sys2Proof.Mast) (a2 : QueueMast)
    (hk : within [Part.queue] l = true) (g : Keeps l s0 s) : Keeps l s0 (State.setQueue s a1 a2) := by
  refine Keeps.next (k := [Part.queue]) (s := s) ?_ hk g
  clear hk g s0 l
  delta State.setQueue
  try beta_reduce
  try lift_lets -underBinder
  repeat' first
    | (intro x; first | (have hx : Keeps [Part.queue] s x := (by unfold x; (repeat' first | intro _ | (with_reducible first | assumption | exact Keeps.refl _ _ | apply Keeps.ite | apply Keeps.fold) | lift_lets -underBinder | split | (clear_value *; split) | (with_reducible apply Keeps.upd_queue)) <;> first | rfl); clear_value x) | skip)
    | (with_reducible first | assumption | exact Keeps.refl _ _ | apply Keeps.ite | apply Keeps.fold)
    | lift_lets -underBinder
    | split
    | (clear_value *; split)
    | (with_reducible apply Keeps.upd_queue)
  all_goals first | rfl

theorem State.setDma_keeps {l : List Part} {s0 s : State} (a1 : Sys2Proof.Mast) (a2 : Nat) (a3 : Nat)
    (hk : within [Part.regs] l = true) (g : Keeps l s0 s) : Keeps l s0 (State.setDma s a1 a2 a3) := by
  refine Keeps.next (k := [Part.regs]) (s := s) ?_ hk g
  clear hk g s0 l
  delta State.setDma
  try beta_reduce
  try lift_lets -underBinder
  repeat' first
    | (intro x; first | (have hx : Keeps [Part.regs] s x := (by unfold x; (repeat' first | intro _ | (with_reducible first | assumption | exact Keeps.refl _ _ | apply Keeps.ite | apply Keeps.fold | apply State.putF_keeps) | lift_lets -underBinder | split | (clear_value *; split)) <;> first | rfl); clear_value x) | skip)
    | (with_reducible first | assumption | exact Keeps.refl _ _ | apply Keeps.ite | apply Keeps.fold | apply State.putF_keeps)
    | lift_lets -underBinder
    | split
    | (clear_value *; split)
  all_goals first | rfl

theorem State.dmaIdle_keeps {l : List Part} {s0 s : State} (a1 : Sys2Proof.Mast)
    (hk : within [Part.regs, .queue] l = true) (g : Keeps l s0 s) : Keeps l s0 (State.dmaIdle s a1) := by
  refine Keeps.next (k := [Part.regs, .queue]) (s := s) ?_ hk g
  clear hk g s0 l
  delta State.dmaIdle
  try beta_reduce
  try lift_lets -underBinder
  repeat' first
    | (intro x; first | (have hx : Keeps [Part.regs, .queue] s x := (by unfold x; (repeat' first | intro _ | (with_reducible first | assumption | exact Keeps.refl _ _ | apply Keeps.ite | apply Keeps.fold | apply State.setQueue_keeps | apply State.setDma_keeps | apply State.putF_keeps) | lift_lets -underBinder | split | (clear_value *; split)) <;> first | rfl); clear_value x) | skip)
    | (with_reducible first | assumption | exact Keeps.refl _ _ | apply Keeps.ite | apply Keeps.fold | apply State.setQueue_keeps | apply State.setDma_keeps | apply State.putF_keeps)
    | lift_lets -underBinder
    | split
    | (clear_value *; split)
  all_goals first | rfl

theorem State.endSession_keeps {l : List Part} {s0 s : State}
    (hk : within [Part.regs, .log, .app, .mon] l = true) (g : Keeps l s0 s) : Keeps l s0 (State.endSession s) := by
  refine Keeps.next (k := [Part.regs, .log, .app, .mon]) (s := s) ?_ hk g
  clear hk g s0 l
  delta State.endSession
  try beta_reduce
  try lift_lets -underBinder
  repeat' first
    | (intro x; first | (have hx : Keeps [Part.regs, .log, .app, .mon] s x := (by unfold x; (repeat' first | intro _ | (with_reducible first | assumption | exact Keeps.refl _ _ | apply Keeps.ite | apply Keeps.fold | apply State.putF_keeps | apply State.askRelease_keeps | apply State.raise_keeps) | lift_lets -underBinder | split | (clear_value *; split) | (with_reducible apply Keeps.upd_mon)) <;> first | rfl); clear_value x) | skip)
    | (with_reducible first | assumption | exact Keeps.refl _ _ | apply Keeps.ite | apply Keeps.fold | apply State.putF_keeps | apply State.askRelease_keeps | apply State.raise_keeps)
    | lift_lets -underBinder
    | split
    | (clear_value *; split)
    | (with_reducible apply Keeps.upd_mon)
  all_goals first | rfl

theorem State.changeRecord_keeps {l : List Part} {s0 s : State} (a1 : List Sys2Proof.Mast) (a2 : BootRecord → BootRecord)
    (hk : within [Part.masts, .mem] l = true) (g : Keeps l s0 s) : Keeps l s0 (State.changeRecord s a1 a2) := by
  refine Keeps.next (k := [Part.masts, .mem]) (s := s) ?_ hk g
  clear hk g s0 l
  delta State.changeRecord
  try beta_reduce
  repeat' first
    | intro _
    | (with_reducible first | assumption | exact Keeps.refl _ _ | apply Keeps.ite | apply Keeps.fold | apply Keeps.setMem)
    | split
    | (clear_value *; split)
  all_goals first | rfl | (have hh := ‹canonical _›; simp only [Memory.wf_writeBytes, Memory.wf_writeBank, Memory.wf_erase, Memory.wf_markRange, Memory.wf_setErr, Memory.wf_clearSilence, Memory.wf_takeRange, Memory.wf_writeStore, Memory.wf_writeRecord, Memory.wf_putCells, hh.2])

theorem State.setPhase_keeps {l : List Part} {s0 s : State} (a1 : Nat)
    (hk : within [Part.regs] l = true) (g : Keeps l s0 s) : Keeps l s0 (State.setPhase s a1) := by
  refine Keeps.next (k := [Part.regs]) (s := s) ?_ hk g
  clear hk g s0 l
  delta State.setPhase
  try beta_reduce
  repeat' first
    | intro _
    | (with_reducible first | assumption | exact Keeps.refl _ _ | apply Keeps.ite | apply Keeps.fold | apply State.putF_keeps)
    | split
    | (clear_value *; split)
  all_goals first | rfl

theorem State.setSession_keeps {l : List Part} {s0 s : State} (a1 : Option UpSession)
    (hk : within [Part.regs, .upd] l = true) (g : Keeps l s0 s) : Keeps l s0 (State.setSession s a1) := by
  refine Keeps.next (k := [Part.regs, .upd]) (s := s) ?_ hk g
  clear hk g s0 l
  delta State.setSession
  try beta_reduce
  try lift_lets -underBinder
  repeat' first
    | (intro x; first | (have hx : Keeps [Part.regs, .upd] s x := (by unfold x; (repeat' first | intro _ | (with_reducible first | assumption | exact Keeps.refl _ _ | apply Keeps.ite | apply Keeps.fold | apply State.putF_keeps) | lift_lets -underBinder | split | (clear_value *; split) | (with_reducible apply Keeps.upd_upd)) <;> first | rfl); clear_value x) | skip)
    | (with_reducible first | assumption | exact Keeps.refl _ _ | apply Keeps.ite | apply Keeps.fold | apply State.putF_keeps)
    | lift_lets -underBinder
    | split
    | (clear_value *; split)
    | (with_reducible apply Keeps.upd_upd)
  all_goals first | rfl

theorem State.upAbort_keeps {l : List Part} {s0 s : State} (a1 : Nat)
    (hk : within [Part.regs, .masts, .log, .upd, .mem] l = true) (g : Keeps l s0 s) : Keeps l s0 (State.upAbort s a1) := by
  refine Keeps.next (k := [Part.regs, .masts, .log, .upd, .mem]) (s := s) ?_ hk g
  clear hk g s0 l
  delta State.upAbort
  try beta_reduce
  try lift_lets -underBinder
  repeat' first
    | (intro x; first | (have hx : Keeps [Part.regs, .masts, .log, .upd, .mem] s x := (by unfold x; (repeat' first | intro _ | (with_reducible first | assumption | exact Keeps.refl _ _ | apply Keeps.ite | apply Keeps.fold | apply State.raise_keeps | apply State.changeRecord_keeps | apply State.putF_keeps | apply State.setPhase_keeps | apply State.setSession_keeps) | lift_lets -underBinder | split | (clear_value *; split)) <;> first | rfl); clear_value x) | skip)
    | (with_reducible first | assumption | exact Keeps.refl _ _ | apply Keeps.ite | apply Keeps.fold | apply State.raise_keeps | apply State.changeRecord_keeps | apply State.putF_keeps | apply State.setPhase_keeps | apply State.setSession_keeps)
    | lift_lets -underBinder
    | split
    | (clear_value *; split)
  all_goals first | rfl

theorem State.showField_keeps {l : List Part} {s0 s : State}
    (hk : within [Part.regs] l = true) (g : Keeps l s0 s) : Keeps l s0 (State.showField s) := by
  refine Keeps.next (k := [Part.regs]) (s := s) ?_ hk g
  clear hk g s0 l
  delta State.showField
  try beta_reduce
  try lift_lets -underBinder
  repeat' first
    | (intro x; first | (have hx : Keeps [Part.regs] s x := (by unfold x; (repeat' first | intro _ | (with_reducible first | assumption | exact Keeps.refl _ _ | apply Keeps.ite | apply Keeps.fold | apply State.putF_keeps) | lift_lets -underBinder | split | (clear_value *; split)) <;> first | rfl); clear_value x) | skip)
    | (with_reducible first | assumption | exact Keeps.refl _ _ | apply Keeps.ite | apply Keeps.fold | apply State.putF_keeps)
    | lift_lets -underBinder
    | split
    | (clear_value *; split)
  all_goals first | rfl

theorem State.setOut_keeps {l : List Part} {s0 s : State} (a1 : Nat) (a2 : FieldOut)
    (hk : within [Part.field] l = true) (g : Keeps l s0 s) : Keeps l s0 (State.setOut s a1 a2) := by
  refine Keeps.next (k := [Part.field]) (s := s) ?_ hk g
  clear hk g s0 l
  delta State.setOut
  try beta_reduce
  try lift_lets -underBinder
  repeat' first
    | (intro x; first | (have hx : Keeps [Part.field] s x := (by unfold x; (repeat' first | intro _ | (with_reducible first | assumption | exact Keeps.refl _ _ | apply Keeps.ite | apply Keeps.fold) | lift_lets -underBinder | split | (clear_value *; split) | (with_reducible apply Keeps.upd_field)) <;> first | rfl); clear_value x) | skip)
    | (with_reducible first | assumption | exact Keeps.refl _ _ | apply Keeps.ite | apply Keeps.fold)
    | lift_lets -underBinder
    | split
    | (clear_value *; split)
    | (with_reducible apply Keeps.upd_field)
  all_goals first | rfl

theorem State.fieldItem_keeps {l : List Part} {s0 s : State} (a1 : Nat) (a2 : Nat) (a3 : List Sys2Proof.Byte)
    (hk : within [Part.field] l = true) (g : Keeps l s0 s) : Keeps l s0 (State.fieldItem s a1 a2 a3) := by
  refine Keeps.next (k := [Part.field]) (s := s) ?_ hk g
  clear hk g s0 l
  delta State.fieldItem
  try beta_reduce
  try lift_lets -underBinder
  repeat' first
    | (intro x; first | (have hx : Keeps [Part.field] s x := (by unfold x; (repeat' first | intro _ | (with_reducible first | assumption | exact Keeps.refl _ _ | apply Keeps.ite | apply Keeps.fold) | lift_lets -underBinder | split | (clear_value *; split) | (with_reducible apply Keeps.upd_field)) <;> first | rfl); clear_value x) | skip)
    | (with_reducible first | assumption | exact Keeps.refl _ _ | apply Keeps.ite | apply Keeps.fold)
    | lift_lets -underBinder
    | split
    | (clear_value *; split)
    | (with_reducible apply Keeps.upd_field)
  all_goals first | rfl

theorem State.outItem_keeps {l : List Part} {s0 s : State} (a1 : Nat)
    (hk : within [Part.field] l = true) (g : Keeps l s0 s) : Keeps l s0 (State.outItem s a1) := by
  refine Keeps.next (k := [Part.field]) (s := s) ?_ hk g
  clear hk g s0 l
  delta State.outItem
  try beta_reduce
  repeat' first
    | intro _
    | (with_reducible first | assumption | exact Keeps.refl _ _ | apply Keeps.ite | apply Keeps.fold | apply State.fieldItem_keeps)
    | split
    | (clear_value *; split)
  all_goals first | rfl

theorem State.markLimit_keeps {l : List Part} {s0 s : State} (a1 : Nat) (a2 : Nat) (a3 : Nat)
    (hk : within [Part.log] l = true) (g : Keeps l s0 s) : Keeps l s0 (State.markLimit s a1 a2 a3) := by
  refine Keeps.next (k := [Part.log]) (s := s) ?_ hk g
  clear hk g s0 l
  delta State.markLimit
  try beta_reduce
  try lift_lets -underBinder
  repeat' first
    | (intro x; first | (have hx : Keeps [Part.log] s x := (by unfold x; (repeat' first | intro _ | (with_reducible first | assumption | exact Keeps.refl _ _ | apply Keeps.ite | apply Keeps.fold) | lift_lets -underBinder | split | (clear_value *; split) | (with_reducible apply Keeps.upd_log)) <;> first | rfl); clear_value x) | skip)
    | (with_reducible first | assumption | exact Keeps.refl _ _ | apply Keeps.ite | apply Keeps.fold)
    | lift_lets -underBinder
    | split
    | (clear_value *; split)
    | (with_reducible apply Keeps.upd_log)
  all_goals first | rfl

theorem State.raiseLimited_keeps {l : List Part} {s0 s : State} (a1 : Nat) (a2 : Nat) (a3 : Nat) (a4 : Nat) (a5 : Nat)
    (hk : within [Part.log] l = true) (g : Keeps l s0 s) : Keeps l s0 (State.raiseLimited s a1 a2 a3 a4 a5) := by
  refine Keeps.next (k := [Part.log]) (s := s) ?_ hk g
  clear hk g s0 l
  delta State.raiseLimited
  try beta_reduce
  repeat' first
    | intro _
    | (with_reducible first | assumption | exact Keeps.refl _ _ | apply Keeps.ite | apply Keeps.fold | apply State.markLimit_keeps | apply State.raiseBy_keeps)
    | split
    | (clear_value *; split)
  all_goals first | rfl

theorem State.discardTest_keeps {l : List Part} {s0 s : State} (a1 : Nat)
    (hk : within [Part.regs, .log, .field] l = true) (g : Keeps l s0 s) : Keeps l s0 (State.discardTest s a1) := by
  refine Keeps.next (k := [Part.regs, .log, .field]) (s := s) ?_ hk g
  clear hk g s0 l
  delta State.discardTest
  try beta_reduce
  try lift_lets -underBinder
  repeat' first
    | (intro x; first | (have hx : Keeps [Part.regs, .log, .field] s x := (by unfold x; (repeat' first | intro _ | (with_reducible first | assumption | exact Keeps.refl _ _ | apply Keeps.ite | apply Keeps.fold | apply State.setOut_keeps | apply State.incF_keeps | apply State.outItem_keeps | apply State.raiseLimited_keeps) | lift_lets -underBinder | split | (clear_value *; split) | (with_reducible apply Keeps.upd_field)) <;> first | rfl); clear_value x) | skip)
    | (with_reducible first | assumption | exact Keeps.refl _ _ | apply Keeps.ite | apply Keeps.fold | apply State.setOut_keeps | apply State.incF_keeps | apply State.outItem_keeps | apply State.raiseLimited_keeps)
    | lift_lets -underBinder
    | split
    | (clear_value *; split)
    | (with_reducible apply Keeps.upd_field)
  all_goals first | rfl

theorem State.fieldRegime_keeps {l : List Part} {s0 s : State}
    (hk : within [Part.regs, .log, .field] l = true) (g : Keeps l s0 s) : Keeps l s0 (State.fieldRegime s) := by
  refine Keeps.next (k := [Part.regs, .log, .field]) (s := s) ?_ hk g
  clear hk g s0 l
  delta State.fieldRegime
  try beta_reduce
  try lift_lets -underBinder
  repeat' first
    | (intro x; first | (have hx : Keeps [Part.regs, .log, .field] s x := (by unfold x; (repeat' first | intro _ | (with_reducible first | assumption | exact Keeps.refl _ _ | apply Keeps.ite | apply Keeps.fold | apply State.showField_keeps | apply State.discardTest_keeps) | lift_lets -underBinder | split | (clear_value *; split) | (with_reducible apply Keeps.upd_field)) <;> first | rfl); clear_value x) | skip)
    | (with_reducible first | assumption | exact Keeps.refl _ _ | apply Keeps.ite | apply Keeps.fold | apply State.showField_keeps | apply State.discardTest_keeps)
    | lift_lets -underBinder
    | split
    | (clear_value *; split)
    | (with_reducible apply Keeps.upd_field)
  all_goals first | rfl

theorem State.cutPower_keeps {l : List Part} {s0 s : State} (a1 : Mast)
    (hk : within [Part.regs, .writes, .masts, .intake, .queue, .sup, .mem] l = true) (g : Keeps l s0 s) : Keeps l s0 (State.cutPower s a1) := by
  refine Keeps.next (k := [Part.regs, .writes, .masts, .intake, .queue, .sup, .mem]) (s := s) ?_ hk g
  delta State.cutPower
  lift_lets -underBinder
  intro x off s1 s2
  have h1 : Keeps [Part.regs, .writes, .masts, .intake, .queue, .sup, .mem] s s1 :=
    Keeps.setMast_mem _ _ (fun h => Memory.wf_clearDram _ (Memory.wf_clearSram _ (h.2 a1))) rfl (Keeps.refl _ _)
  have h2 : Keeps [Part.regs, .writes, .masts, .intake, .queue, .sup, .mem] s s2 :=
    Keeps.fold (fun s o h => State.putF_keeps _ _ _ rfl h) h1
  refine ⟨sameBut_trans h2.frame ?_, fun c => ⟨RegFile.wf_filter _ _ (h2.canon c).1, (h2.canon c).2⟩, h2.clock⟩
  rw [sameBut_iff]; simp

theorem State.abandonJoin_keeps {l : List Part} {s0 s : State}
    (hk : within [Part.regs, .writes, .masts, .lane, .intake, .queue, .sup, .mem] l = true) (g : Keeps l s0 s) : Keeps l s0 (State.abandonJoin s) := by
  refine Keeps.next (k := [Part.regs, .writes, .masts, .lane, .intake, .queue, .sup, .mem]) (s := s) ?_ hk g
  clear hk g s0 l
  delta State.abandonJoin
  try beta_reduce
  try lift_lets -underBinder
  repeat' first
    | (intro x; first | (have hx : Keeps [Part.regs, .writes, .masts, .lane, .intake, .queue, .sup, .mem] s x := (by unfold x; (repeat' first | intro _ | (with_reducible first | assumption | exact Keeps.refl _ _ | apply Keeps.ite | apply Keeps.fold | apply State.putF_keeps | apply State.cutPower_keeps) | lift_lets -underBinder | split | (clear_value *; split) | (with_reducible apply Keeps.upd_lane)) <;> first | rfl); clear_value x) | skip)
    | (with_reducible first | assumption | exact Keeps.refl _ _ | apply Keeps.ite | apply Keeps.fold | apply State.putF_keeps | apply State.cutPower_keeps)
    | lift_lets -underBinder
    | split
    | (clear_value *; split)
    | (with_reducible apply Keeps.upd_lane)
  all_goals first | rfl

theorem State.enterMode_keeps {l : List Part} {s0 s : State} (a1 : Mode)
    (hk : within [Part.regs, .writes, .masts, .log, .lane, .intake, .fb, .app, .queue, .bridge, .stay, .net, .sup, .field, .upd, .mon, .mem] l = true) (g : Keeps l s0 s) : Keeps l s0 (State.enterMode s a1) := by
  refine Keeps.next (k := [Part.regs, .writes, .masts, .log, .lane, .intake, .fb, .app, .queue, .bridge, .stay, .net, .sup, .field, .upd, .mon, .mem]) (s := s) ?_ hk g
  clear hk g s0 l
  delta State.enterMode
  try beta_reduce
  try lift_lets -underBinder
  repeat' first
    | (intro x; first | (have hx : Keeps [Part.regs, .writes, .masts, .log, .lane, .intake, .fb, .app, .queue, .bridge, .stay, .net, .sup, .field, .upd, .mon, .mem] s x := (by unfold x; (repeat' first | intro _ | (with_reducible first | assumption | exact Keeps.refl _ _ | apply Keeps.ite | apply Keeps.fold | apply State.netEnterStop_keeps | apply State.fbForget_keeps | apply State.queuedClearAll_keeps | apply State.appStop_keeps | apply State.bridgeClose_keeps | apply State.spStop_keeps | apply State.slBypass_keeps | apply State.fbOff_keeps | apply State.dmaIdle_keeps | apply State.endSession_keeps | apply State.upAbort_keeps | apply State.fieldRegime_keeps | apply State.abandonJoin_keeps) | lift_lets -underBinder | split | (clear_value *; split)) <;> first | rfl); clear_value x) | skip)
    | (with_reducible first | assumption | exact Keeps.refl _ _ | apply Keeps.ite | apply Keeps.fold | apply State.netEnterStop_keeps | apply State.fbForget_keeps | apply State.queuedClearAll_keeps | apply State.appStop_keeps | apply State.bridgeClose_keeps | apply State.spStop_keeps | apply State.slBypass_keeps | apply State.fbOff_keeps | apply State.dmaIdle_keeps | apply State.endSession_keeps | apply State.upAbort_keeps | apply State.fieldRegime_keeps | apply State.abandonJoin_keeps)
    | lift_lets -underBinder
    | split
    | (clear_value *; split)
  all_goals first | rfl

theorem State.changeMode_keeps {l : List Part} {s0 s : State} (a1 : Mode)
    (hk : within [Part.regs, .writes, .ctl, .masts, .log, .key, .lane, .intake, .fb, .app, .queue, .bridge, .stay, .net, .sup, .field, .upd, .mon, .mem] l = true) (g : Keeps l s0 s) : Keeps l s0 (State.changeMode s a1) := by
  refine Keeps.next (k := [Part.regs, .writes, .ctl, .masts, .log, .key, .lane, .intake, .fb, .app, .queue, .bridge, .stay, .net, .sup, .field, .upd, .mon, .mem]) (s := s) ?_ hk g
  clear hk g s0 l
  delta State.changeMode
  try beta_reduce
  try lift_lets -underBinder
  repeat' first
    | (intro x; first | (have hx : Keeps [Part.regs, .writes, .ctl, .masts, .log, .key, .lane, .intake, .fb, .app, .queue, .bridge, .stay, .net, .sup, .field, .upd, .mon, .mem] s x := (by unfold x; (repeat' first | intro _ | (with_reducible first | assumption | exact Keeps.refl _ _ | apply Keeps.ite | apply Keeps.fold | apply State.leaveMode_keeps | apply State.putF_keeps | apply State.raise_keeps | apply State.enterMode_keeps) | lift_lets -underBinder | split | (clear_value *; split) | (with_reducible apply Keeps.upd_ctl_lane)) <;> first | rfl); clear_value x) | skip)
    | (with_reducible first | assumption | exact Keeps.refl _ _ | apply Keeps.ite | apply Keeps.fold | apply State.leaveMode_keeps | apply State.putF_keeps | apply State.raise_keeps | apply State.enterMode_keeps)
    | lift_lets -underBinder
    | split
    | (clear_value *; split)
    | (with_reducible apply Keeps.upd_ctl_lane)
  all_goals first | rfl

theorem State.enterStop_keeps {l : List Part} {s0 s : State} (a1 : Nat)
    (hk : within [Part.regs, .writes, .ctl, .masts, .log, .key, .lane, .intake, .fb, .app, .queue, .bridge, .stay, .net, .sup, .field, .upd, .mon, .mem] l = true) (g : Keeps l s0 s) : Keeps l s0 (State.enterStop s a1) := by
  refine Keeps.next (k := [Part.regs, .writes, .ctl, .masts, .log, .key, .lane, .intake, .fb, .app, .queue, .bridge, .stay, .net, .sup, .field, .upd, .mon, .mem]) (s := s) ?_ hk g
  clear hk g s0 l
  delta State.enterStop
  try beta_reduce
  repeat' first
    | intro _
    | (with_reducible first | assumption | exact Keeps.refl _ _ | apply Keeps.ite | apply Keeps.fold | apply State.putF_keeps | apply State.changeMode_keeps)
    | split
    | (clear_value *; split)
  all_goals first | rfl

theorem State.engineUnconfigured_keeps {l : List Part} {s0 s : State}
    (hk : within [Part.log] l = true) (g : Keeps l s0 s) : Keeps l s0 (State.engineUnconfigured s) := by
  refine Keeps.next (k := [Part.log]) (s := s) ?_ hk g
  clear hk g s0 l
  delta State.engineUnconfigured
  try beta_reduce
  repeat' first
    | intro _
    | (with_reducible first | assumption | exact Keeps.refl _ _ | apply Keeps.ite | apply Keeps.fold | apply State.raise_keeps)
    | split
    | (clear_value *; split)
  all_goals first | rfl

theorem State.reachStop_keeps {l : List Part} {s0 s : State}
    (hk : within [Part.regs, .writes, .ctl, .masts, .log, .key, .lane, .intake, .fb, .app, .queue, .bridge, .stay, .net, .sup, .field, .upd, .mon, .mem] l = true) (g : Keeps l s0 s) : Keeps l s0 (State.reachStop s) := by
  refine Keeps.next (k := [Part.regs, .writes, .ctl, .masts, .log, .key, .lane, .intake, .fb, .app, .queue, .bridge, .stay, .net, .sup, .field, .upd, .mon, .mem]) (s := s) ?_ hk g
  clear hk g s0 l
  delta State.reachStop
  try beta_reduce
  try lift_lets -underBinder
  repeat' first
    | (intro x; first | (have hx : Keeps [Part.regs, .writes, .ctl, .masts, .log, .key, .lane, .intake, .fb, .app, .queue, .bridge, .stay, .net, .sup, .field, .upd, .mon, .mem] s x := (by unfold x; (repeat' first | intro _ | (with_reducible first | assumption | exact Keeps.refl _ _ | apply Keeps.ite | apply Keeps.fold | apply State.enterStop_keeps | apply State.engineUnconfigured_keeps | apply State.putF_keeps | apply State.raise_keeps) | lift_lets -underBinder | split | (clear_value *; split) | (with_reducible apply Keeps.upd_log)) <;> first | rfl); clear_value x) | skip)
    | (with_reducible first | assumption | exact Keeps.refl _ _ | apply Keeps.ite | apply Keeps.fold | apply State.enterStop_keeps | apply State.engineUnconfigured_keeps | apply State.putF_keeps | apply State.raise_keeps)
    | lift_lets -underBinder
    | split
    | (clear_value *; split)
    | (with_reducible apply Keeps.upd_log)
  all_goals first | rfl

theorem State.modeAtInstant_keeps {l : List Part} {s0 s : State}
    (hk : within [Part.regs, .writes, .ctl, .masts, .log, .key, .lane, .intake, .fb, .app, .queue, .bridge, .stay, .net, .sup, .field, .upd, .mon, .mem] l = true) (g : Keeps l s0 s) : Keeps l s0 (State.modeAtInstant s) := by
  refine Keeps.next (k := [Part.regs, .writes, .ctl, .masts, .log, .key, .lane, .intake, .fb, .app, .queue, .bridge, .stay, .net, .sup, .field, .upd, .mon, .mem]) (s := s) ?_ hk g
  clear hk g s0 l
  delta State.modeAtInstant
  try beta_reduce
  repeat' first
    | intro _
    | (with_reducible first | assumption | exact Keeps.refl _ _ | apply Keeps.ite | apply Keeps.fold | apply State.reachStop_keeps | apply State.enterStop_keeps)
    | split
    | (clear_value *; split)
  all_goals first | rfl

theorem State.setHb_keeps {l : List Part} {s0 s : State} (a1 : Sys2Proof.Mast) (a2 : Sys2Proof.Mast) (a3 : HbLink)
    (hk : within [Part.regs, .lane] l = true) (g : Keeps l s0 s) : Keeps l s0 (State.setHb s a1 a2 a3) := by
  refine Keeps.next (k := [Part.regs, .lane]) (s := s) ?_ hk g
  clear hk g s0 l
  delta State.setHb
  try beta_reduce
  try lift_lets -underBinder
  repeat' first
    | (intro x; first | (have hx : Keeps [Part.regs, .lane] s x := (by unfold x; (repeat' first | intro _ | (with_reducible first | assumption | exact Keeps.refl _ _ | apply Keeps.ite | apply Keeps.fold | apply State.putF_keeps) | lift_lets -underBinder | split | (clear_value *; split) | (with_reducible apply Keeps.upd_lane)) <;> first | rfl); clear_value x) | skip)
    | (with_reducible first | assumption | exact Keeps.refl _ _ | apply Keeps.ite | apply Keeps.fold | apply State.putF_keeps)
    | lift_lets -underBinder
    | split
    | (clear_value *; split)
    | (with_reducible apply Keeps.upd_lane)
  all_goals first | rfl

theorem State.startBeats_keeps {l : List Part} {s0 s : State} (a1 : Sys2Proof.Mast) (a2 : Sys2Proof.Mast) (a3 : Nat)
    (hk : within [Part.regs, .lane] l = true) (g : Keeps l s0 s) : Keeps l s0 (State.startBeats s a1 a2 a3) := by
  refine Keeps.next (k := [Part.regs, .lane]) (s := s) ?_ hk g
  clear hk g s0 l
  delta State.startBeats
  try beta_reduce
  try lift_lets -underBinder
  repeat' first
    | (intro x; first | (have hx : Keeps [Part.regs, .lane] s x := (by unfold x; (repeat' first | intro _ | (with_reducible first | assumption | exact Keeps.refl _ _ | apply Keeps.ite | apply Keeps.fold | apply State.setHb_keeps) | lift_lets -underBinder | split | (clear_value *; split)) <;> first | rfl); clear_value x) | skip)
    | (with_reducible first | assumption | exact Keeps.refl _ _ | apply Keeps.ite | apply Keeps.fold | apply State.setHb_keeps)
    | lift_lets -underBinder
    | split
    | (clear_value *; split)
  all_goals first | rfl

theorem State.juryLinks_keeps {l : List Part} {s0 s : State}
    (hk : within [Part.regs, .lane, .time] l = true) (g : Keeps l s0 s) : Keeps l s0 (State.juryLinks s) := by
  refine Keeps.next (k := [Part.regs, .lane, .time]) (s := s) ?_ hk g
  clear hk g s0 l
  delta State.juryLinks
  try beta_reduce
  try lift_lets -underBinder
  repeat' first
    | (intro x; first | (have hx : Keeps [Part.regs, .lane, .time] s x := (by unfold x; (repeat' first | intro _ | (with_reducible first | assumption | exact Keeps.refl _ _ | apply Keeps.ite | apply Keeps.fold | apply State.startBeats_keeps) | lift_lets -underBinder | split | (clear_value *; split) | (with_reducible apply Keeps.upd_time)) <;> first | rfl); clear_value x) | skip)
    | (with_reducible first | assumption | exact Keeps.refl _ _ | apply Keeps.ite | apply Keeps.fold | apply State.startBeats_keeps)
    | lift_lets -underBinder
    | split
    | (clear_value *; split)
    | (with_reducible apply Keeps.upd_time)
  all_goals first | rfl

theorem State.fbEcho_keeps {l : List Part} {s0 s : State} (a1 : Nat) (a2 : Nat) (a3 : List Sys2Proof.Byte)
    (hk : within [Part.regs] l = true) (g : Keeps l s0 s) : Keeps l s0 (State.fbEcho s a1 a2 a3) := by
  refine Keeps.next (k := [Part.regs]) (s := s) ?_ hk g
  clear hk g s0 l
  delta State.fbEcho
  try beta_reduce
  try lift_lets -underBinder
  repeat' first
    | (intro x; first | (have hx : Keeps [Part.regs] s x := (by unfold x; (repeat' first | intro _ | (with_reducible first | assumption | exact Keeps.refl _ _ | apply Keeps.ite | apply Keeps.fold | apply State.incF_keeps) | lift_lets -underBinder | split | (clear_value *; split)) <;> first | rfl); clear_value x) | skip)
    | (with_reducible first | assumption | exact Keeps.refl _ _ | apply Keeps.ite | apply Keeps.fold | apply State.incF_keeps)
    | lift_lets -underBinder
    | split
    | (clear_value *; split)
  all_goals first | rfl

theorem State.showKeys_keeps {l : List Part} {s0 s : State}
    (hk : within [Part.regs] l = true) (g : Keeps l s0 s) : Keeps l s0 (State.showKeys s) := by
  refine Keeps.next (k := [Part.regs]) (s := s) ?_ hk g
  clear hk g s0 l
  delta State.showKeys
  try beta_reduce
  try lift_lets -underBinder
  repeat' first
    | (intro x; first | (have hx : Keeps [Part.regs] s x := (by unfold x; (repeat' first | intro _ | (with_reducible first | assumption | exact Keeps.refl _ _ | apply Keeps.ite | apply Keeps.fold | apply State.putF_keeps) | lift_lets -underBinder | split | (clear_value *; split)) <;> first | rfl); clear_value x) | skip)
    | (with_reducible first | assumption | exact Keeps.refl _ _ | apply Keeps.ite | apply Keeps.fold | apply State.putF_keeps)
    | lift_lets -underBinder
    | split
    | (clear_value *; split)
  all_goals first | rfl

theorem State.showTriad_keeps {l : List Part} {s0 s : State} (a1 : Sys2Proof.Mast) (a2 : Sys2Proof.Triad)
    (hk : within [Part.regs] l = true) (g : Keeps l s0 s) : Keeps l s0 (State.showTriad s a1 a2) := by
  refine Keeps.next (k := [Part.regs]) (s := s) ?_ hk g
  clear hk g s0 l
  delta State.showTriad
  try beta_reduce
  try lift_lets -underBinder
  repeat' first
    | (intro x; first | (have hx : Keeps [Part.regs] s x := (by unfold x; (repeat' first | intro _ | (with_reducible first | assumption | exact Keeps.refl _ _ | apply Keeps.ite | apply Keeps.fold | apply State.putF_keeps) | lift_lets -underBinder | split | (clear_value *; split)) <;> first | rfl); clear_value x) | skip)
    | (with_reducible first | assumption | exact Keeps.refl _ _ | apply Keeps.ite | apply Keeps.fold | apply State.putF_keeps)
    | lift_lets -underBinder
    | split
    | (clear_value *; split)
  all_goals first | rfl

theorem State.setTriad_keeps {l : List Part} {s0 s : State} (a1 : Mast) (a2 : Triad) (a3 : TriadState)
    (hk : within [Part.regs, .masts] l = true) (g : Keeps l s0 s) : Keeps l s0 (State.setTriad s a1 a2 a3) := by
  refine Keeps.next (k := [Part.regs, .masts]) (s := s) ?_ hk g
  exact State.showTriad_keeps _ _ rfl (Keeps.setMast _ _ (by cases a2 <;> rfl) rfl (Keeps.refl _ _))

theorem State.raiseM_keeps {l : List Part} {s0 s : State} (a1 : Sys2Proof.Mast) (a2 : Nat) (a3 : Nat) (a4 : Nat)
    (hk : within [Part.log] l = true) (g : Keeps l s0 s) : Keeps l s0 (State.raiseM s a1 a2 a3 a4) := by
  refine Keeps.next (k := [Part.log]) (s := s) ?_ hk g
  clear hk g s0 l
  delta State.raiseM
  try beta_reduce
  repeat' first
    | intro _
    | (with_reducible first | assumption | exact Keeps.refl _ _ | apply Keeps.ite | apply Keeps.fold | apply State.raiseBy_keeps)
    | split
    | (clear_value *; split)
  all_goals first | rfl

theorem State.setUnit_keeps {l : List Part} {s0 s : State} (a1 : Nat) (a2 : TxUnit)
    (hk : within [Part.lane] l = true) (g : Keeps l s0 s) : Keeps l s0 (State.setUnit s a1 a2) := by
  refine Keeps.next (k := [Part.lane]) (s := s) ?_ hk g
  clear hk g s0 l
  delta State.setUnit
  try beta_reduce
  try lift_lets -underBinder
  repeat' first
    | (intro x; first | (have hx : Keeps [Part.lane] s x := (by unfold x; (repeat' first | intro _ | (with_reducible first | assumption | exact Keeps.refl _ _ | apply Keeps.ite | apply Keeps.fold) | lift_lets -underBinder | split | (clear_value *; split) | (with_reducible apply Keeps.upd_lane)) <;> first | rfl); clear_value x) | skip)
    | (with_reducible first | assumption | exact Keeps.refl _ _ | apply Keeps.ite | apply Keeps.fold)
    | lift_lets -underBinder
    | split
    | (clear_value *; split)
    | (with_reducible apply Keeps.upd_lane)
  all_goals first | rfl

theorem State.wrapF_keeps {l : List Part} {s0 s : State} (a1 : Copy) (a2 : Fld) (a3 : Nat)
    (hk : within [Part.regs] l = true) (g : Keeps l s0 s) : Keeps l s0 (State.wrapF s a1 a2 a3) := by
  refine Keeps.next (k := [Part.regs]) (s := s) ?_ hk g
  clear hk g s0 l
  delta State.wrapF
  try beta_reduce
  repeat' first
    | intro _
    | (with_reducible first | assumption | exact Keeps.refl _ _ | apply Keeps.ite | apply Keeps.fold | apply State.putF_keeps)
    | split
    | (clear_value *; split)
  all_goals first | rfl

theorem State.uncount_keeps {l : List Part} {s0 s : State} (a1 : Sys2Proof.TxFrame)
    (hk : within [Part.regs, .time] l = true) (g : Keeps l s0 s) : Keeps l s0 (State.uncount s a1) := by
  refine Keeps.next (k := [Part.regs, .time]) (s := s) ?_ hk g
  clear hk g s0 l
  delta State.uncount
  try beta_reduce
  try lift_lets -underBinder
  repeat' first
    | (intro x; first | (have hx : Keeps [Part.regs, .time] s x := (by unfold x; (repeat' first | intro _ | (with_reducible first | assumption | exact Keeps.refl _ _ | apply Keeps.ite | apply Keeps.fold | apply State.wrapF_keeps) | lift_lets -underBinder | split | (clear_value *; split) | (with_reducible apply Keeps.upd_time)) <;> first | rfl); clear_value x) | skip)
    | (with_reducible first | assumption | exact Keeps.refl _ _ | apply Keeps.ite | apply Keeps.fold | apply State.wrapF_keeps)
    | lift_lets -underBinder
    | split
    | (clear_value *; split)
    | (with_reducible apply Keeps.upd_time)
  all_goals first | rfl

theorem State.cutUnit_keeps {l : List Part} {s0 s : State} (a1 : Nat)
    (hk : within [Part.regs, .lane, .time] l = true) (g : Keeps l s0 s) : Keeps l s0 (State.cutUnit s a1) := by
  refine Keeps.next (k := [Part.regs, .lane, .time]) (s := s) ?_ hk g
  clear hk g s0 l
  delta State.cutUnit
  try beta_reduce
  try lift_lets -underBinder
  repeat' first
    | (intro x; first | (have hx : Keeps [Part.regs, .lane, .time] s x := (by unfold x; (repeat' first | intro _ | (with_reducible first | assumption | exact Keeps.refl _ _ | apply Keeps.ite | apply Keeps.fold | apply State.setUnit_keeps | apply State.uncount_keeps) | lift_lets -underBinder | split | (clear_value *; split)) <;> first | rfl); clear_value x) | skip)
    | (with_reducible first | assumption | exact Keeps.refl _ _ | apply Keeps.ite | apply Keeps.fold | apply State.setUnit_keeps | apply State.uncount_keeps)
    | lift_lets -underBinder
    | split
    | (clear_value *; split)
  all_goals first | rfl

theorem State.cutFrames_keeps {l : List Part} {s0 s : State} (a1 : Sys2Proof.Mast)
    (hk : within [Part.regs, .lane, .time] l = true) (g : Keeps l s0 s) : Keeps l s0 (State.cutFrames s a1) := by
  refine Keeps.next (k := [Part.regs, .lane, .time]) (s := s) ?_ hk g
  clear hk g s0 l
  delta State.cutFrames
  try beta_reduce
  repeat' first
    | intro _
    | (with_reducible first | assumption | exact Keeps.refl _ _ | apply Keeps.ite | apply Keeps.fold | apply State.cutUnit_keeps)
    | split
    | (clear_value *; split)
  all_goals first | rfl

theorem State.goSilent_keeps {l : List Part} {s0 s : State} (a1 : Mast) (a2 a3 a4 : Nat)
    (hk : within [Part.regs, .masts, .lane, .time, .mem] l = true) (g : Keeps l s0 s) : Keeps l s0 (State.goSilent s a1 a2 a3 a4) := by
  refine Keeps.next (k := [Part.regs, .masts, .lane, .time, .mem]) (s := s) ?_ hk g
  delta State.goSilent
  lift_lets
  intro x
  refine Keeps.ite (Keeps.refl _ _) (State.cutFrames_keeps _ rfl ?_)
  exact Keeps.setMast_mem _ _ (fun h => Memory.wf_writeBytes _ _ _ (h.2 a1)) rfl (Keeps.refl _ _)

theorem State.triadFault_keeps {l : List Part} {s0 s : State} (a1 : Sys2Proof.Mast) (a2 : Sys2Proof.Triad) (a3 : Nat) (a4 : Nat) (a5 : Nat)
    (hk : within [Part.regs, .masts, .lane, .time, .mem] l = true) (g : Keeps l s0 s) : Keeps l s0 (State.triadFault s a1 a2 a3 a4 a5) := by
  refine Keeps.next (k := [Part.regs, .masts, .lane, .time, .mem]) (s := s) ?_ hk g
  clear hk g s0 l
  delta State.triadFault
  try beta_reduce
  repeat' first
    | intro _
    | (with_reducible first | assumption | exact Keeps.refl _ _ | apply Keeps.ite | apply Keeps.fold | apply State.goSilent_keeps)
    | split
    | (clear_value *; split)
  all_goals first | rfl

theorem State.startResync_keeps {l : List Part} {s0 s : State} (a1 : Sys2Proof.Mast) (a2 : Sys2Proof.Triad) (a3 : Nat) (a4 : Nat)
    (hk : within [Part.regs, .masts, .lane, .time, .mem] l = true) (g : Keeps l s0 s) : Keeps l s0 (State.startResync s a1 a2 a3 a4) := by
  refine Keeps.next (k := [Part.regs, .masts, .lane, .time, .mem]) (s := s) ?_ hk g
  clear hk g s0 l
  delta State.startResync
  try beta_reduce
  try lift_lets -underBinder
  repeat' first
    | (intro x; first | (have hx : Keeps [Part.regs, .masts, .lane, .time, .mem] s x := (by unfold x; (repeat' first | intro _ | (with_reducible first | assumption | exact Keeps.refl _ _ | apply Keeps.ite | apply Keeps.fold | apply State.setTriad_keeps | apply State.triadFault_keeps) | lift_lets -underBinder | split | (clear_value *; split)) <;> first | rfl); clear_value x) | skip)
    | (with_reducible first | assumption | exact Keeps.refl _ _ | apply Keeps.ite | apply Keeps.fold | apply State.setTriad_keeps | apply State.triadFault_keeps)
    | lift_lets -underBinder
    | split
    | (clear_value *; split)
  all_goals first | rfl

theorem State.failResync_keeps {l : List Part} {s0 s : State} (a1 : Sys2Proof.Mast) (a2 : Sys2Proof.Triad) (a3 : Nat) (a4 : Nat) (a5 : Nat) (a6 : Nat)
    (hk : within [Part.regs, .masts, .log, .lane, .time, .mem] l = true) (g : Keeps l s0 s) : Keeps l s0 (State.failResync s a1 a2 a3 a4 a5 a6) := by
  refine Keeps.next (k := [Part.regs, .masts, .log, .lane, .time, .mem]) (s := s) ?_ hk g
  clear hk g s0 l
  delta State.failResync
  try beta_reduce
  try lift_lets -underBinder
  repeat' first
    | (intro x; first | (have hx : Keeps [Part.regs, .masts, .log, .lane, .time, .mem] s x := (by unfold x; (repeat' first | intro _ | (with_reducible first | assumption | exact Keeps.refl _ _ | apply Keeps.ite | apply Keeps.fold | apply State.setTriad_keeps | apply State.raiseM_keeps | apply State.incF_keeps | apply State.putF_keeps | apply State.triadFault_keeps | apply State.startResync_keeps) | lift_lets -underBinder | split | (clear_value *; split)) <;> first | rfl); clear_value x) | skip)
    | (with_reducible first | assumption | exact Keeps.refl _ _ | apply Keeps.ite | apply Keeps.fold | apply State.setTriad_keeps | apply State.raiseM_keeps | apply State.incF_keeps | apply State.putF_keeps | apply State.triadFault_keeps | apply State.startResync_keeps)
    | lift_lets -underBinder
    | split
    | (clear_value *; split)
  all_goals first | rfl

theorem State.minority_keeps {l : List Part} {s0 s : State} (a1 : Sys2Proof.Mast) (a2 : Sys2Proof.Triad) (a3 : Nat)
    (hk : within [Part.regs, .masts, .log, .lane, .time, .mem] l = true) (g : Keeps l s0 s) : Keeps l s0 (State.minority s a1 a2 a3) := by
  refine Keeps.next (k := [Part.regs, .masts, .log, .lane, .time, .mem]) (s := s) ?_ hk g
  clear hk g s0 l
  delta State.minority
  try beta_reduce
  repeat' first
    | intro _
    | (with_reducible first | assumption | exact Keeps.refl _ _ | apply Keeps.ite | apply Keeps.fold | apply State.failResync_keeps | apply State.startResync_keeps)
    | split
    | (clear_value *; split)
  all_goals first | rfl

theorem State.injectEffect_keeps {l : List Part} {s0 s : State} (a1 : Sys2Proof.Mast) (a2 : Sys2Proof.Triad) (a3 : Nat) (a4 : Nat)
    (hk : within [Part.regs, .masts, .log, .lane, .time, .mem] l = true) (g : Keeps l s0 s) : Keeps l s0 (State.injectEffect s a1 a2 a3 a4) := by
  refine Keeps.next (k := [Part.regs, .masts, .log, .lane, .time, .mem]) (s := s) ?_ hk g
  clear hk g s0 l
  delta State.injectEffect
  try beta_reduce
  repeat' first
    | intro _
    | (with_reducible first | assumption | exact Keeps.refl _ _ | apply Keeps.ite | apply Keeps.fold | apply State.minority_keeps | apply State.triadFault_keeps)
    | split
    | (clear_value *; split)
  all_goals first | rfl

theorem State.triadInject_keeps {l : List Part} {s0 s : State} (a1 : Sys2Proof.Mast) (a2 : Sys2Proof.Triad) (a3 : Nat) (a4 : Nat)
    (hk : within [Part.regs, .masts, .log, .lane, .time, .free, .mem] l = true) (g : Keeps l s0 s) : Keeps l s0 (State.triadInject s a1 a2 a3 a4) := by
  refine Keeps.next (k := [Part.regs, .masts, .log, .lane, .time, .free, .mem]) (s := s) ?_ hk g
  clear hk g s0 l
  delta State.triadInject
  try beta_reduce
  try lift_lets -underBinder
  repeat' first
    | (intro x; first | (have hx : Keeps [Part.regs, .masts, .log, .lane, .time, .free, .mem] s x := (by unfold x; (repeat' first | intro _ | (with_reducible first | assumption | exact Keeps.refl _ _ | apply Keeps.ite | apply Keeps.fold | apply State.putF_keeps | apply State.raise_keeps | apply State.injectEffect_keeps) | lift_lets -underBinder | split | (clear_value *; split) | (with_reducible apply Keeps.upd_free)) <;> first | rfl); clear_value x) | skip)
    | (with_reducible first | assumption | exact Keeps.refl _ _ | apply Keeps.ite | apply Keeps.fold | apply State.putF_keeps | apply State.raise_keeps | apply State.injectEffect_keeps)
    | lift_lets -underBinder
    | split
    | (clear_value *; split)
    | (with_reducible apply Keeps.upd_free)
  all_goals first | rfl

theorem State.setServo_keeps {l : List Part} {s0 s : State} (a1 : Nat)
    (hk : within [Part.regs, .time] l = true) (g : Keeps l s0 s) : Keeps l s0 (State.setServo s a1) := by
  refine Keeps.next (k := [Part.regs, .time]) (s := s) ?_ hk g
  clear hk g s0 l
  delta State.setServo
  try beta_reduce
  try lift_lets -underBinder
  repeat' first
    | (intro x; first | (have hx : Keeps [Part.regs, .time] s x := (by unfold x; (repeat' first | intro _ | (with_reducible first | assumption | exact Keeps.refl _ _ | apply Keeps.ite | apply Keeps.fold | apply State.putF_keeps) | lift_lets -underBinder | split | (clear_value *; split) | (with_reducible apply Keeps.upd_time)) <;> first | rfl); clear_value x) | skip)
    | (with_reducible first | assumption | exact Keeps.refl _ _ | apply Keeps.ite | apply Keeps.fold | apply State.putF_keeps)
    | lift_lets -underBinder
    | split
    | (clear_value *; split)
    | (with_reducible apply Keeps.upd_time)
  all_goals first | rfl

theorem State.sourceLost_keeps {l : List Part} {s0 s : State}
    (hk : within [Part.regs, .log, .time] l = true) (g : Keeps l s0 s) : Keeps l s0 (State.sourceLost s) := by
  refine Keeps.next (k := [Part.regs, .log, .time]) (s := s) ?_ hk g
  clear hk g s0 l
  delta State.sourceLost
  try beta_reduce
  try lift_lets -underBinder
  repeat' first
    | (intro x; first | (have hx : Keeps [Part.regs, .log, .time] s x := (by unfold x; (repeat' first | intro _ | (with_reducible first | assumption | exact Keeps.refl _ _ | apply Keeps.ite | apply Keeps.fold | apply State.raise_keeps | apply State.setServo_keeps) | lift_lets -underBinder | split | (clear_value *; split) | (with_reducible apply Keeps.upd_time)) <;> first | rfl); clear_value x) | skip)
    | (with_reducible first | assumption | exact Keeps.refl _ _ | apply Keeps.ite | apply Keeps.fold | apply State.raise_keeps | apply State.setServo_keeps)
    | lift_lets -underBinder
    | split
    | (clear_value *; split)
    | (with_reducible apply Keeps.upd_time)
  all_goals first | rfl

theorem State.bootCheckers_keeps {l : List Part} {s0 s : State} (a1 : Sys2Proof.Per Nat) (a2 : Sys2Proof.Mast)
    (hk : within [Part.regs, .log, .free] l = true) (g : Keeps l s0 s) : Keeps l s0 (State.bootCheckers s a1 a2) := by
  refine Keeps.next (k := [Part.regs, .log, .free]) (s := s) ?_ hk g
  clear hk g s0 l
  delta State.bootCheckers
  try beta_reduce
  try lift_lets -underBinder
  repeat' first
    | (intro x; first | (have hx : Keeps [Part.regs, .log, .free] s x := (by unfold x; (repeat' first | intro _ | (with_reducible first | assumption | exact Keeps.refl _ _ | apply Keeps.ite | apply Keeps.fold | apply State.putF_keeps | apply State.raiseM_keeps) | lift_lets -underBinder | split | (clear_value *; split) | (with_reducible apply Keeps.upd_free)) <;> first | rfl); clear_value x) | skip)
    | (with_reducible first | assumption | exact Keeps.refl _ _ | apply Keeps.ite | apply Keeps.fold | apply State.putF_keeps | apply State.raiseM_keeps)
    | lift_lets -underBinder
    | split
    | (clear_value *; split)
    | (with_reducible apply Keeps.upd_free)
  all_goals first | rfl

theorem State.votedChange_keeps {l : List Part} {s0 s : State} (a1 : Nat) (a2 : Bool) (a3 : List Bool)
    (hk : within [Part.regs, .log, .field] l = true) (g : Keeps l s0 s) : Keeps l s0 (State.votedChange s a1 a2 a3) := by
  refine Keeps.next (k := [Part.regs, .log, .field]) (s := s) ?_ hk g
  clear hk g s0 l
  delta State.votedChange
  try beta_reduce
  try lift_lets -underBinder
  repeat' first
    | (intro x; first | (have hx : Keeps [Part.regs, .log, .field] s x := (by unfold x; (repeat' first | intro _ | (with_reducible first | assumption | exact Keeps.refl _ _ | apply Keeps.ite | apply Keeps.fold | apply State.setOut_keeps | apply State.discardTest_keeps | apply State.outItem_keeps) | lift_lets -underBinder | split | (clear_value *; split) | (with_reducible apply Keeps.upd_field)) <;> first | rfl); clear_value x) | skip)
    | (with_reducible first | assumption | exact Keeps.refl _ _ | apply Keeps.ite | apply Keeps.fold | apply State.setOut_keeps | apply State.discardTest_keeps | apply State.outItem_keeps)
    | lift_lets -underBinder
    | split
    | (clear_value *; split)
    | (with_reducible apply Keeps.upd_field)
  all_goals first | rfl

theorem State.revote_keeps {l : List Part} {s0 s : State} (a1 : Nat → List Bool)
    (hk : within [Part.regs, .log, .field] l = true) (g : Keeps l s0 s) : Keeps l s0 (State.revote s a1) := by
  refine Keeps.next (k := [Part.regs, .log, .field]) (s := s) ?_ hk g
  clear hk g s0 l
  delta State.revote
  try beta_reduce
  try lift_lets -underBinder
  repeat' first
    | (intro x; first | (have hx : Keeps [Part.regs, .log, .field] s x := (by unfold x; (repeat' first | intro _ | (with_reducible first | assumption | exact Keeps.refl _ _ | apply Keeps.ite | apply Keeps.fold | apply State.setOut_keeps | apply State.votedChange_keeps) | lift_lets -underBinder | split | (clear_value *; split)) <;> first | rfl); clear_value x) | skip)
    | (with_reducible first | assumption | exact Keeps.refl _ _ | apply Keeps.ite | apply Keeps.fold | apply State.setOut_keeps | apply State.votedChange_keeps)
    | lift_lets -underBinder
    | split
    | (clear_value *; split)
  all_goals first | rfl

theorem State.crossbar_keeps {l : List Part} {s0 s : State} (a1 : Sys2Proof.LanePos) (a2 : Option Sys2Proof.Mast)
    (hk : within [Part.regs, .log, .field] l = true) (g : Keeps l s0 s) : Keeps l s0 (State.crossbar s a1 a2) := by
  refine Keeps.next (k := [Part.regs, .log, .field]) (s := s) ?_ hk g
  clear hk g s0 l
  delta State.crossbar
  try beta_reduce
  try lift_lets -underBinder
  repeat' first
    | (intro x; first | (have hx : Keeps [Part.regs, .log, .field] s x := (by unfold x; (repeat' first | intro _ | (with_reducible first | assumption | exact Keeps.refl _ _ | apply Keeps.ite | apply Keeps.fold | apply State.showField_keeps | apply State.raise_keeps | apply State.revote_keeps) | lift_lets -underBinder | split | (clear_value *; split) | (with_reducible apply Keeps.upd_field)) <;> first | rfl); clear_value x) | skip)
    | (with_reducible first | assumption | exact Keeps.refl _ _ | apply Keeps.ite | apply Keeps.fold | apply State.showField_keeps | apply State.raise_keeps | apply State.revote_keeps)
    | lift_lets -underBinder
    | split
    | (clear_value *; split)
    | (with_reducible apply Keeps.upd_field)
  all_goals first | rfl

theorem State.showLane_keeps {l : List Part} {s0 s : State}
    (hk : within [Part.regs] l = true) (g : Keeps l s0 s) : Keeps l s0 (State.showLane s) := by
  refine Keeps.next (k := [Part.regs]) (s := s) ?_ hk g
  clear hk g s0 l
  delta State.showLane
  try beta_reduce
  try lift_lets -underBinder
  repeat' first
    | (intro x; first | (have hx : Keeps [Part.regs] s x := (by unfold x; (repeat' first | intro _ | (with_reducible first | assumption | exact Keeps.refl _ _ | apply Keeps.ite | apply Keeps.fold | apply State.putF_keeps) | lift_lets -underBinder | split | (clear_value *; split)) <;> first | rfl); clear_value x) | skip)
    | (with_reducible first | assumption | exact Keeps.refl _ _ | apply Keeps.ite | apply Keeps.fold | apply State.putF_keeps)
    | lift_lets -underBinder
    | split
    | (clear_value *; split)
  all_goals first | rfl

theorem State.setLane_keeps {l : List Part} {s0 s : State} (a1 : Lane)
    (hk : within [Part.regs, .log, .lane, .field] l = true) (g : Keeps l s0 s) : Keeps l s0 (State.setLane s a1) := by
  refine Keeps.next (k := [Part.regs, .log, .lane, .field]) (s := s) ?_ hk g
  clear hk g s0 l
  delta State.setLane
  try beta_reduce
  try lift_lets -underBinder
  repeat' first
    | (intro x; first | (have hx : Keeps [Part.regs, .log, .lane, .field] s x := (by unfold x; (repeat' first | intro _ | (with_reducible first | assumption | exact Keeps.refl _ _ | apply Keeps.ite | apply Keeps.fold | apply State.showLane_keeps | apply State.fieldRegime_keeps | apply State.raise_keeps) | lift_lets -underBinder | split | (clear_value *; split) | (with_reducible apply Keeps.upd_lane)) <;> first | rfl); clear_value x) | skip)
    | (with_reducible first | assumption | exact Keeps.refl _ _ | apply Keeps.ite | apply Keeps.fold | apply State.showLane_keeps | apply State.fieldRegime_keeps | apply State.raise_keeps)
    | lift_lets -underBinder
    | split
    | (clear_value *; split)
    | (with_reducible apply Keeps.upd_lane)
  all_goals first | rfl

theorem State.bootIsolate_keeps {l : List Part} {s0 s : State} (a1 : Sys2Proof.Mast)
    (hk : within [Part.regs, .masts, .log, .lane, .field] l = true) (g : Keeps l s0 s) : Keeps l s0 (State.bootIsolate s a1) := by
  refine Keeps.next (k := [Part.regs, .masts, .log, .lane, .field]) (s := s) ?_ hk g
  clear hk g s0 l
  delta State.bootIsolate
  try beta_reduce
  try lift_lets -underBinder
  repeat' first
    | (intro x; first | (have hx : Keeps [Part.regs, .masts, .log, .lane, .field] s x := (by unfold x; (repeat' first | intro _ | (with_reducible first | assumption | exact Keeps.refl _ _ | apply Keeps.ite | apply Keeps.fold | apply Keeps.setMast | apply State.crossbar_keeps | apply State.setLane_keeps) | lift_lets -underBinder | split | (clear_value *; split) | (with_reducible apply Keeps.upd_lane)) <;> first | rfl); clear_value x) | skip)
    | (with_reducible first | assumption | exact Keeps.refl _ _ | apply Keeps.ite | apply Keeps.fold | apply Keeps.setMast | apply State.crossbar_keeps | apply State.setLane_keeps)
    | lift_lets -underBinder
    | split
    | (clear_value *; split)
    | (with_reducible apply Keeps.upd_lane)
  all_goals first | rfl

theorem State.bootSilence_keeps {l : List Part} {s0 s : State} (a1 : Sys2Proof.Mast)
    (hk : within [Part.regs, .log] l = true) (g : Keeps l s0 s) : Keeps l s0 (State.bootSilence s a1) := by
  refine Keeps.next (k := [Part.regs, .log]) (s := s) ?_ hk g
  clear hk g s0 l
  delta State.bootSilence
  try beta_reduce
  try lift_lets -underBinder
  repeat' first
    | (intro x; first | (have hx : Keeps [Part.regs, .log] s x := (by unfold x; (repeat' first | intro _ | (with_reducible first | assumption | exact Keeps.refl _ _ | apply Keeps.ite | apply Keeps.fold | apply State.putF_keeps | apply State.raiseM_keeps) | lift_lets -underBinder | split | (clear_value *; split)) <;> first | rfl); clear_value x) | skip)
    | (with_reducible first | assumption | exact Keeps.refl _ _ | apply Keeps.ite | apply Keeps.fold | apply State.putF_keeps | apply State.raiseM_keeps)
    | lift_lets -underBinder
    | split
    | (clear_value *; split)
  all_goals first | rfl

theorem State.powerMast_keeps {l : List Part} {s0 s : State} (a1 : Mast)
    (hk : within [Part.regs, .masts, .mem] l = true) (g : Keeps l s0 s) : Keeps l s0 (State.powerMast s a1) :=
  Keeps.next (k := [Part.regs, .masts, .mem]) (s := s) (State.putF_keeps _ _ _ rfl
    (Keeps.setMast_mem _ _ (fun h => Memory.wf_clearDram _ (Memory.wf_clearSram _ (h.2 a1))) rfl (Keeps.refl _ _))) hk g

theorem State.bootPair_keeps {l : List Part} {s0 s : State} (a1 : Sys2Proof.Mast) (a2 : Sys2Proof.BootEnv)
    (hk : within [Part.regs, .writes, .ctl, .masts, .log, .key, .lane, .intake, .fb, .app, .queue, .bridge, .stay, .net, .sup, .field, .upd, .mon, .free, .mem] l = true) (g : Keeps l s0 s) : Keeps l s0 (State.bootPair s a1 a2) := by
  refine Keeps.next (k := [Part.regs, .writes, .ctl, .masts, .log, .key, .lane, .intake, .fb, .app, .queue, .bridge, .stay, .net, .sup, .field, .upd, .mon, .free, .mem]) (s := s) ?_ hk g
  clear hk g s0 l
  delta State.bootPair
  try beta_reduce
  try lift_lets -underBinder
  repeat' first
    | (intro x; first | (have hx : Keeps [Part.regs, .writes, .ctl, .masts, .log, .key, .lane, .intake, .fb, .app, .queue, .bridge, .stay, .net, .sup, .field, .upd, .mon, .free, .mem] s x := (by unfold x; (repeat' first | intro _ | (with_reducible first | assumption | exact Keeps.refl _ _ | apply Keeps.ite | apply Keeps.fold | apply State.cutPower_keeps | apply Keeps.setMast | apply State.bootCheckers_keeps | apply State.bootSilence_keeps | apply State.powerMast_keeps | apply State.changeMode_keeps | apply State.crossbar_keeps | apply State.setLane_keeps) | lift_lets -underBinder | split | (clear_value *; split) | (with_reducible apply Keeps.upd_lane)) <;> first | rfl); clear_value x) | skip)
    | (with_reducible first | assumption | exact Keeps.refl _ _ | apply Keeps.ite | apply Keeps.fold | apply State.cutPower_keeps | apply Keeps.setMast | apply State.bootCheckers_keeps | apply State.bootSilence_keeps | apply State.powerMast_keeps | apply State.changeMode_keeps | apply State.crossbar_keeps | apply State.setLane_keeps)
    | lift_lets -underBinder
    | split
    | (clear_value *; split)
    | (with_reducible apply Keeps.upd_lane)
  all_goals first | rfl

theorem State.bootSelftests_keeps {l : List Part} {s0 s : State} (a1 : Sys2Proof.BootEnv)
    (hk : within [Part.regs, .writes, .ctl, .masts, .log, .key, .lane, .intake, .fb, .app, .queue, .bridge, .stay, .net, .sup, .field, .upd, .mon, .free, .mem] l = true) (g : Keeps l s0 s) : Keeps l s0 (State.bootSelftests s a1) := by
  refine Keeps.next (k := [Part.regs, .writes, .ctl, .masts, .log, .key, .lane, .intake, .fb, .app, .queue, .bridge, .stay, .net, .sup, .field, .upd, .mon, .free, .mem]) (s := s) ?_ hk g
  clear hk g s0 l
  delta State.bootSelftests
  try beta_reduce
  try lift_lets -underBinder
  repeat' first
    | (intro x; first | (have hx : Keeps [Part.regs, .writes, .ctl, .masts, .log, .key, .lane, .intake, .fb, .app, .queue, .bridge, .stay, .net, .sup, .field, .upd, .mon, .free, .mem] s x := (by unfold x; (repeat' first | intro _ | (with_reducible first | assumption | exact Keeps.refl _ _ | apply Keeps.ite | apply Keeps.fold | apply State.bootCheckers_keeps | apply State.bootIsolate_keeps | apply State.bootPair_keeps | apply State.changeMode_keeps) | lift_lets -underBinder | split | (clear_value *; split)) <;> first | rfl); clear_value x) | skip)
    | (with_reducible first | assumption | exact Keeps.refl _ _ | apply Keeps.ite | apply Keeps.fold | apply State.bootCheckers_keeps | apply State.bootIsolate_keeps | apply State.bootPair_keeps | apply State.changeMode_keeps)
    | lift_lets -underBinder
    | split
    | (clear_value *; split)
  all_goals first | rfl

theorem State.pushStamp_keeps {l : List Part} {s0 s : State} (a1 : Sys2Proof.Mast) (a2 : Nat) (a3 : TxStamp)
    (hk : within [Part.regs, .log, .time] l = true) (g : Keeps l s0 s) : Keeps l s0 (State.pushStamp s a1 a2 a3) := by
  refine Keeps.next (k := [Part.regs, .log, .time]) (s := s) ?_ hk g
  clear hk g s0 l
  delta State.pushStamp
  try beta_reduce
  try lift_lets -underBinder
  repeat' first
    | (intro x; first | (have hx : Keeps [Part.regs, .log, .time] s x := (by unfold x; (repeat' first | intro _ | (with_reducible first | assumption | exact Keeps.refl _ _ | apply Keeps.ite | apply Keeps.fold | apply State.incF_keeps | apply State.putF_keeps | apply State.raiseLimited_keeps) | lift_lets -underBinder | split | (clear_value *; split) | (with_reducible apply Keeps.upd_time)) <;> first | rfl); clear_value x) | skip)
    | (with_reducible first | assumption | exact Keeps.refl _ _ | apply Keeps.ite | apply Keeps.fold | apply State.incF_keeps | apply State.putF_keeps | apply State.raiseLimited_keeps)
    | lift_lets -underBinder
    | split
    | (clear_value *; split)
    | (with_reducible apply Keeps.upd_time)
  all_goals first | rfl

theorem State.interrupt_keeps {l : List Part} {s0 s : State} (a1 : Sys2Proof.Mast) (a2 : Nat) (a3 : Nat)
    (hk : within [Part.masts] l = true) (g : Keeps l s0 s) : Keeps l s0 (State.interrupt s a1 a2 a3) := by
  refine Keeps.next (k := [Part.masts]) (s := s) ?_ hk g
  clear hk g s0 l
  delta State.interrupt
  try beta_reduce
  try lift_lets -underBinder
  repeat' first
    | (intro x; first | (have hx : Keeps [Part.masts] s x := (by unfold x; (repeat' first | intro _ | (with_reducible first | assumption | exact Keeps.refl _ _ | apply Keeps.ite | apply Keeps.fold | apply Keeps.setMast) | lift_lets -underBinder | split | (clear_value *; split)) <;> first | rfl); clear_value x) | skip)
    | (with_reducible first | assumption | exact Keeps.refl _ _ | apply Keeps.ite | apply Keeps.fold | apply Keeps.setMast)
    | lift_lets -underBinder
    | split
    | (clear_value *; split)
  all_goals first | rfl

theorem State.cmpEvent_keeps {l : List Part} {s0 s : State} (a1 : Sys2Proof.Mast) (a2 : Nat) (a3 : Nat)
    (hk : within [Part.regs, .masts, .log] l = true) (g : Keeps l s0 s) : Keeps l s0 (State.cmpEvent s a1 a2 a3) := by
  refine Keeps.next (k := [Part.regs, .masts, .log]) (s := s) ?_ hk g
  clear hk g s0 l
  delta State.cmpEvent
  try beta_reduce
  try lift_lets -underBinder
  repeat' first
    | (intro x; first | (have hx : Keeps [Part.regs, .masts, .log] s x := (by unfold x; (repeat' first | intro _ | (with_reducible first | assumption | exact Keeps.refl _ _ | apply Keeps.ite | apply Keeps.fold | apply State.putF_keeps | apply State.interrupt_keeps | apply State.raiseM_keeps) | lift_lets -underBinder | split | (clear_value *; split)) <;> first | rfl); clear_value x) | skip)
    | (with_reducible first | assumption | exact Keeps.refl _ _ | apply Keeps.ite | apply Keeps.fold | apply State.putF_keeps | apply State.interrupt_keeps | apply State.raiseM_keeps)
    | lift_lets -underBinder
    | split
    | (clear_value *; split)
  all_goals first | rfl

theorem State.showPhase_keeps {l : List Part} {s0 s : State} (a1 : Nat)
    (hk : within [Part.regs] l = true) (g : Keeps l s0 s) : Keeps l s0 (State.showPhase s a1) := by
  refine Keeps.next (k := [Part.regs]) (s := s) ?_ hk g
  clear hk g s0 l
  delta State.showPhase
  try beta_reduce
  repeat' first
    | intro _
    | (with_reducible first | assumption | exact Keeps.refl _ _ | apply Keeps.ite | apply Keeps.fold | apply State.putF_keeps)
    | split
    | (clear_value *; split)
  all_goals first | rfl

theorem State.joinFail_keeps {l : List Part} {s0 s : State} (a1 : Nat)
    (hk : within [Part.regs, .writes, .masts, .log, .lane, .intake, .queue, .sup, .field, .mem] l = true) (g : Keeps l s0 s) : Keeps l s0 (State.joinFail s a1) := by
  refine Keeps.next (k := [Part.regs, .writes, .masts, .log, .lane, .intake, .queue, .sup, .field, .mem]) (s := s) ?_ hk g
  clear hk g s0 l
  delta State.joinFail
  try beta_reduce
  try lift_lets -underBinder
  repeat' first
    | (intro x; first | (have hx : Keeps [Part.regs, .writes, .masts, .log, .lane, .intake, .queue, .sup, .field, .mem] s x := (by unfold x; (repeat' first | intro _ | (with_reducible first | assumption | exact Keeps.refl _ _ | apply Keeps.ite | apply Keeps.fold | apply State.raise_keeps | apply State.putF_keeps | apply State.incF_keeps | apply State.setLane_keeps | apply State.showPhase_keeps | apply State.cutPower_keeps) | lift_lets -underBinder | split | (clear_value *; split) | (with_reducible apply Keeps.upd_lane)) <;> first | rfl); clear_value x) | skip)
    | (with_reducible first | assumption | exact Keeps.refl _ _ | apply Keeps.ite | apply Keeps.fold | apply State.raise_keeps | apply State.putF_keeps | apply State.incF_keeps | apply State.setLane_keeps | apply State.showPhase_keeps | apply State.cutPower_keeps)
    | lift_lets -underBinder
    | split
    | (clear_value *; split)
    | (with_reducible apply Keeps.upd_lane)
  all_goals first | rfl

theorem State.setJoin_keeps {l : List Part} {s0 s : State} (a1 : Join)
    (hk : within [Part.lane] l = true) (g : Keeps l s0 s) : Keeps l s0 (State.setJoin s a1) := by
  refine Keeps.next (k := [Part.lane]) (s := s) ?_ hk g
  clear hk g s0 l
  delta State.setJoin
  try beta_reduce
  try lift_lets -underBinder
  repeat' first
    | (intro x; first | (have hx : Keeps [Part.lane] s x := (by unfold x; (repeat' first | intro _ | (with_reducible first | assumption | exact Keeps.refl _ _ | apply Keeps.ite | apply Keeps.fold) | lift_lets -underBinder | split | (clear_value *; split) | (with_reducible apply Keeps.upd_lane)) <;> first | rfl); clear_value x) | skip)
    | (with_reducible first | assumption | exact Keeps.refl _ _ | apply Keeps.ite | apply Keeps.fold)
    | lift_lets -underBinder
    | split
    | (clear_value *; split)
    | (with_reducible apply Keeps.upd_lane)
  all_goals first | rfl

theorem State.retryPage_keeps {l : List Part} {s0 s : State} (a1 : Join) (a2 : Sys2Proof.Mast) (a3 : Nat) (a4 : Nat)
    (hk : within [Part.regs, .writes, .masts, .log, .lane, .intake, .queue, .sup, .field, .mem] l = true) (g : Keeps l s0 s) : Keeps l s0 (State.retryPage s a1 a2 a3 a4) := by
  refine Keeps.next (k := [Part.regs, .writes, .masts, .log, .lane, .intake, .queue, .sup, .field, .mem]) (s := s) ?_ hk g
  clear hk g s0 l
  delta State.retryPage
  try beta_reduce
  try lift_lets -underBinder
  repeat' first
    | (intro x; first | (have hx : Keeps [Part.regs, .writes, .masts, .log, .lane, .intake, .queue, .sup, .field, .mem] s x := (by unfold x; (repeat' first | intro _ | (with_reducible first | assumption | exact Keeps.refl _ _ | apply Keeps.ite | apply Keeps.fold | apply State.joinFail_keeps | apply State.setJoin_keeps | apply State.raise_keeps) | lift_lets -underBinder | split | (clear_value *; split)) <;> first | rfl); clear_value x) | skip)
    | (with_reducible first | assumption | exact Keeps.refl _ _ | apply Keeps.ite | apply Keeps.fold | apply State.joinFail_keeps | apply State.setJoin_keeps | apply State.raise_keeps)
    | lift_lets -underBinder
    | split
    | (clear_value *; split)
  all_goals first | rfl

theorem State.startRetain_keeps {l : List Part} {s0 s : State} (a1 : Sys2Proof.Mast) (a2 : Nat)
    (hk : within [Part.regs, .app] l = true) (g : Keeps l s0 s) : Keeps l s0 (State.startRetain s a1 a2) := by
  refine Keeps.next (k := [Part.regs, .app]) (s := s) ?_ hk g
  clear hk g s0 l
  delta State.startRetain
  try beta_reduce
  try lift_lets -underBinder
  repeat' first
    | (intro x; first | (have hx : Keeps [Part.regs, .app] s x := (by unfold x; (repeat' first | intro _ | (with_reducible first | assumption | exact Keeps.refl _ _ | apply Keeps.ite | apply Keeps.fold | apply State.putF_keeps) | lift_lets -underBinder | split | (clear_value *; split) | (with_reducible apply Keeps.upd_app)) <;> first | rfl); clear_value x) | skip)
    | (with_reducible first | assumption | exact Keeps.refl _ _ | apply Keeps.ite | apply Keeps.fold | apply State.putF_keeps)
    | lift_lets -underBinder
    | split
    | (clear_value *; split)
    | (with_reducible apply Keeps.upd_app)
  all_goals first | rfl

theorem State.showForces_keeps {l : List Part} {s0 s : State}
    (hk : within [Part.regs] l = true) (g : Keeps l s0 s) : Keeps l s0 (State.showForces s) := by
  refine Keeps.next (k := [Part.regs]) (s := s) ?_ hk g
  clear hk g s0 l
  delta State.showForces
  try beta_reduce
  repeat' first
    | intro _
    | (with_reducible first | assumption | exact Keeps.refl _ _ | apply Keeps.ite | apply Keeps.fold | apply State.putF_keeps)
    | split
    | (clear_value *; split)
  all_goals first | rfl

theorem State.releaseForce_keeps {l : List Part} {s0 s : State} (a1 : Option Nat) (a2 : Nat)
    (hk : within [Part.regs, .log, .app] l = true) (g : Keeps l s0 s) : Keeps l s0 (State.releaseForce s a1 a2) := by
  refine Keeps.next (k := [Part.regs, .log, .app]) (s := s) ?_ hk g
  clear hk g s0 l
  delta State.releaseForce
  try beta_reduce
  try lift_lets -underBinder
  repeat' first
    | (intro x; first | (have hx : Keeps [Part.regs, .log, .app] s x := (by unfold x; (repeat' first | intro _ | (with_reducible first | assumption | exact Keeps.refl _ _ | apply Keeps.ite | apply Keeps.fold | apply State.raise_keeps | apply State.showForces_keeps) | lift_lets -underBinder | split | (clear_value *; split) | (with_reducible apply Keeps.upd_app)) <;> first | rfl); clear_value x) | skip)
    | (with_reducible first | assumption | exact Keeps.refl _ _ | apply Keeps.ite | apply Keeps.fold | apply State.raise_keeps | apply State.showForces_keeps)
    | lift_lets -underBinder
    | split
    | (clear_value *; split)
    | (with_reducible apply Keeps.upd_app)
  all_goals first | rfl

theorem State.setRegion_keeps {l : List Part} {s0 s : State} (a1 : Mast) (a2 : Nat × Nat) (a3 : List Byte)
    (hk : within [Part.masts, .mem] l = true) (g : Keeps l s0 s) : Keeps l s0 (State.setRegion s a1 a2 a3) :=
  Keeps.setMem a1 _ (fun h => Memory.wf_markRange _ _ _ (Memory.wf_writeBytes _ _ _ (Memory.wf_filter _ _ (h.2 a1)))) hk g

theorem State.initRegions_keeps {l : List Part} {s0 s : State}
    (hk : within [Part.masts, .mem] l = true) (g : Keeps l s0 s) : Keeps l s0 (State.initRegions s) := by
  refine Keeps.next (k := [Part.masts, .mem]) (s := s) ?_ hk g
  clear hk g s0 l
  delta State.initRegions
  try beta_reduce
  repeat' first
    | intro _
    | (with_reducible first | assumption | exact Keeps.refl _ _ | apply Keeps.ite | apply Keeps.fold | apply State.setRegion_keeps)
    | split
    | (clear_value *; split)
  all_goals first | rfl

theorem State.showRetain_keeps {l : List Part} {s0 s : State} (a1 : Sys2Proof.Mast)
    (hk : within [Part.regs] l = true) (g : Keeps l s0 s) : Keeps l s0 (State.showRetain s a1) := by
  refine Keeps.next (k := [Part.regs]) (s := s) ?_ hk g
  clear hk g s0 l
  delta State.showRetain
  try beta_reduce
  try lift_lets -underBinder
  repeat' first
    | (intro x; first | (have hx : Keeps [Part.regs] s x := (by unfold x; (repeat' first | intro _ | (with_reducible first | assumption | exact Keeps.refl _ _ | apply Keeps.ite | apply Keeps.fold | apply State.putF_keeps) | lift_lets -underBinder | split | (clear_value *; split)) <;> first | rfl); clear_value x) | skip)
    | (with_reducible first | assumption | exact Keeps.refl _ _ | apply Keeps.ite | apply Keeps.fold | apply State.putF_keeps)
    | lift_lets -underBinder
    | split
    | (clear_value *; split)
  all_goals first | rfl

theorem State.store_keeps {l : List Part} {s0 s : State} (a1 : Mast) (a2 : Nat) (a3 : List Byte)
    (hk : within [Part.masts, .mem] l = true) (g : Keeps l s0 s) : Keeps l s0 (State.store s a1 a2 a3) :=
  Keeps.setMem a1 _ (fun h => Memory.wf_markRange _ _ _ (Memory.wf_writeBytes _ _ _ (h.2 a1))) hk g

theorem State.setShadow_keeps {l : List Part} {s0 s : State} (a1 : Sys2Proof.Mast) (a2 : List Sys2Proof.Byte)
    (hk : within [Part.masts, .app, .mem] l = true) (g : Keeps l s0 s) : Keeps l s0 (State.setShadow s a1 a2) := by
  refine Keeps.next (k := [Part.masts, .app, .mem]) (s := s) ?_ hk g
  clear hk g s0 l
  delta State.setShadow
  try beta_reduce
  try lift_lets -underBinder
  repeat' first
    | (intro x; first | (have hx : Keeps [Part.masts, .app, .mem] s x := (by unfold x; (repeat' first | intro _ | (with_reducible first | assumption | exact Keeps.refl _ _ | apply Keeps.ite | apply Keeps.fold | apply State.store_keeps) | lift_lets -underBinder | split | (clear_value *; split) | (with_reducible apply Keeps.upd_app)) <;> first | rfl); clear_value x) | skip)
    | (with_reducible first | assumption | exact Keeps.refl _ _ | apply Keeps.ite | apply Keeps.fold | apply State.store_keeps)
    | lift_lets -underBinder
    | split
    | (clear_value *; split)
    | (with_reducible apply Keeps.upd_app)
  all_goals first | rfl

theorem State.showChanges_keeps {l : List Part} {s0 s : State}
    (hk : within [Part.regs] l = true) (g : Keeps l s0 s) : Keeps l s0 (State.showChanges s) := by
  refine Keeps.next (k := [Part.regs]) (s := s) ?_ hk g
  clear hk g s0 l
  delta State.showChanges
  try beta_reduce
  repeat' first
    | intro _
    | (with_reducible first | assumption | exact Keeps.refl _ _ | apply Keeps.ite | apply Keeps.fold | apply State.putF_keeps)
    | split
    | (clear_value *; split)
  all_goals first | rfl

theorem State.coldStart_keeps {l : List Part} {s0 s : State}
    (hk : within [Part.regs, .masts, .log, .app, .mem] l = true) (g : Keeps l s0 s) : Keeps l s0 (State.coldStart s) := by
  refine Keeps.next (k := [Part.regs, .masts, .log, .app, .mem]) (s := s) ?_ hk g
  clear hk g s0 l
  delta State.coldStart
  try beta_reduce
  try lift_lets -underBinder
  repeat' first
    | (intro x; first | (have hx : Keeps [Part.regs, .masts, .log, .app, .mem] s x := (by unfold x; (repeat' first | intro _ | (with_reducible first | assumption | exact Keeps.refl _ _ | apply Keeps.ite | apply Keeps.fold | apply State.releaseForce_keeps | apply State.initRegions_keeps | apply State.showRetain_keeps | apply State.setShadow_keeps | apply Keeps.setMem | apply State.showChanges_keeps) | lift_lets -underBinder | split | (clear_value *; split) | (with_reducible apply Keeps.upd_app)) <;> first | rfl | (have hh := ‹canonical _›; simp only [Memory.wf_writeBytes, Memory.wf_writeBank, Memory.wf_erase, Memory.wf_markRange, Memory.wf_setErr, Memory.wf_clearSilence, Memory.wf_takeRange, Memory.wf_writeStore, Memory.wf_writeRecord, Memory.wf_putCells, hh.2])); clear_value x) | skip)
    | (with_reducible first | assumption | exact Keeps.refl _ _ | apply Keeps.ite | apply Keeps.fold | apply State.releaseForce_keeps | apply State.initRegions_keeps | apply State.showRetain_keeps | apply State.setShadow_keeps | apply Keeps.setMem | apply State.showChanges_keeps)
    | lift_lets -underBinder
    | split
    | (clear_value *; split)
    | (with_reducible apply Keeps.upd_app)
  all_goals first | rfl | (have hh := ‹canonical _›; simp only [Memory.wf_writeBytes, Memory.wf_writeBank, Memory.wf_erase, Memory.wf_markRange, Memory.wf_setErr, Memory.wf_clearSilence, Memory.wf_takeRange, Memory.wf_writeStore, Memory.wf_writeRecord, Memory.wf_putCells, hh.2])

theorem State.warmStart_keeps {l : List Part} {s0 s : State}
    (hk : within [Part.regs, .masts, .log, .app, .mem] l = true) (g : Keeps l s0 s) : Keeps l s0 (State.warmStart s) := by
  refine Keeps.next (k := [Part.regs, .masts, .log, .app, .mem]) (s := s) ?_ hk g
  clear hk g s0 l
  delta State.warmStart
  try beta_reduce
  try lift_lets -underBinder
  repeat' first
    | (intro x; first | (have hx : Keeps [Part.regs, .masts, .log, .app, .mem] s x := (by unfold x; (repeat' first | intro _ | (with_reducible first | assumption | exact Keeps.refl _ _ | apply Keeps.ite | apply Keeps.fold | apply State.initRegions_keeps | apply State.raise_keeps | apply State.showRetain_keeps | apply Keeps.setMem | apply State.setShadow_keeps) | lift_lets -underBinder | split | (clear_value *; split) | (with_reducible apply Keeps.upd_app)) <;> first | rfl | (have hh := ‹canonical _›; simp only [Memory.wf_writeBytes, Memory.wf_writeBank, Memory.wf_erase, Memory.wf_markRange, Memory.wf_setErr, Memory.wf_clearSilence, Memory.wf_takeRange, Memory.wf_writeStore, Memory.wf_writeRecord, Memory.wf_putCells, hh.2])); clear_value x) | skip)
    | (with_reducible first | assumption | exact Keeps.refl _ _ | apply Keeps.ite | apply Keeps.fold | apply State.initRegions_keeps | apply State.raise_keeps | apply State.showRetain_keeps | apply Keeps.setMem | apply State.setShadow_keeps)
    | lift_lets -underBinder
    | split
    | (clear_value *; split)
    | (with_reducible apply Keeps.upd_app)
  all_goals first | rfl | (have hh := ‹canonical _›; simp only [Memory.wf_writeBytes, Memory.wf_writeBank, Memory.wf_erase, Memory.wf_markRange, Memory.wf_setErr, Memory.wf_clearSilence, Memory.wf_takeRange, Memory.wf_writeStore, Memory.wf_writeRecord, Memory.wf_putCells, hh.2])

theorem State.resumeStart_keeps {l : List Part} {s0 s : State}
    (hk : within [Part.lane, .app] l = true) (g : Keeps l s0 s) : Keeps l s0 (State.resumeStart s) := by
  refine Keeps.next (k := [Part.lane, .app]) (s := s) ?_ hk g
  clear hk g s0 l
  delta State.resumeStart
  try beta_reduce
  try lift_lets -underBinder
  repeat' first
    | (intro x; first | (have hx : Keeps [Part.lane, .app] s x := (by unfold x; (repeat' first | intro _ | (with_reducible first | assumption | exact Keeps.refl _ _ | apply Keeps.ite | apply Keeps.fold) | lift_lets -underBinder | split | (clear_value *; split) | (with_reducible apply Keeps.upd_lane_app)) <;> first | rfl); clear_value x) | skip)
    | (with_reducible first | assumption | exact Keeps.refl _ _ | apply Keeps.ite | apply Keeps.fold)
    | lift_lets -underBinder
    | split
    | (clear_value *; split)
    | (with_reducible apply Keeps.upd_lane_app)
  all_goals first | rfl

theorem State.beginRun_keeps {l : List Part} {s0 s : State} (a1 : Bool)
    (hk : within [Part.regs, .writes, .ctl, .masts, .log, .key, .lane, .intake, .fb, .app, .queue, .bridge, .stay, .net, .sup, .field, .upd, .panel, .mon, .mem] l = true) (g : Keeps l s0 s) : Keeps l s0 (State.beginRun s a1) := by
  refine Keeps.next (k := [Part.regs, .writes, .ctl, .masts, .log, .key, .lane, .intake, .fb, .app, .queue, .bridge, .stay, .net, .sup, .field, .upd, .panel, .mon, .mem]) (s := s) ?_ hk g
  clear hk g s0 l
  delta State.beginRun
  try beta_reduce
  try lift_lets -underBinder
  repeat' first
    | (intro x; first | (have hx : Keeps [Part.regs, .writes, .ctl, .masts, .log, .key, .lane, .intake, .fb, .app, .queue, .bridge, .stay, .net, .sup, .field, .upd, .panel, .mon, .mem] s x := (by unfold x; (repeat' first | intro _ | (with_reducible first | assumption | exact Keeps.refl _ _ | apply Keeps.ite | apply Keeps.fold | apply State.changeMode_keeps | apply State.coldStart_keeps | apply State.warmStart_keeps | apply State.resumeStart_keeps | apply State.raise_keeps | apply State.putF_keeps | apply State.setRun_keeps | apply State.scForget_keeps) | lift_lets -underBinder | split | (clear_value *; split) | (with_reducible apply Keeps.upd_app_upd_panel)) <;> first | rfl); clear_value x) | skip)
    | (with_reducible first | assumption | exact Keeps.refl _ _ | apply Keeps.ite | apply Keeps.fold | apply State.changeMode_keeps | apply State.coldStart_keeps | apply State.warmStart_keeps | apply State.resumeStart_keeps | apply State.raise_keeps | apply State.putF_keeps | apply State.setRun_keeps | apply State.scForget_keeps)
    | lift_lets -underBinder
    | split
    | (clear_value *; split)
    | (with_reducible apply Keeps.upd_app_upd_panel)
  all_goals first | rfl

theorem State.autostart_keeps {l : List Part} {s0 s : State}
    (hk : within [Part.regs, .writes, .ctl, .masts, .log, .key, .lane, .intake, .fb, .app, .queue, .bridge, .stay, .net, .sup, .field, .upd, .panel, .mon, .mem] l = true) (g : Keeps l s0 s) : Keeps l s0 (State.autostart s) := by
  refine Keeps.next (k := [Part.regs, .writes, .ctl, .masts, .log, .key, .lane, .intake, .fb, .app, .queue, .bridge, .stay, .net, .sup, .field, .upd, .panel, .mon, .mem]) (s := s) ?_ hk g
  clear hk g s0 l
  delta State.autostart
  try beta_reduce
  try lift_lets -underBinder
  repeat' first
    | (intro x; first | (have hx : Keeps [Part.regs, .writes, .ctl, .masts, .log, .key, .lane, .intake, .fb, .app, .queue, .bridge, .stay, .net, .sup, .field, .upd, .panel, .mon, .mem] s x := (by unfold x; (repeat' first | intro _ | (with_reducible first | assumption | exact Keeps.refl _ _ | apply Keeps.ite | apply Keeps.fold | apply State.raise_keeps | apply State.beginRun_keeps) | lift_lets -underBinder | split | (clear_value *; split) | (with_reducible apply Keeps.upd_panel)) <;> first | rfl); clear_value x) | skip)
    | (with_reducible first | assumption | exact Keeps.refl _ _ | apply Keeps.ite | apply Keeps.fold | apply State.raise_keeps | apply State.beginRun_keeps)
    | lift_lets -underBinder
    | split
    | (clear_value *; split)
    | (with_reducible apply Keeps.upd_panel)
  all_goals first | rfl

theorem State.arpLearn_keeps {l : List Part} {s0 s : State} (a1 : Nat) (a2 : List Sys2Proof.Byte)
    (hk : within [Part.regs, .net] l = true) (g : Keeps l s0 s) : Keeps l s0 (State.arpLearn s a1 a2) := by
  refine Keeps.next (k := [Part.regs, .net]) (s := s) ?_ hk g
  clear hk g s0 l
  delta State.arpLearn
  try beta_reduce
  try lift_lets -underBinder
  repeat' first
    | (intro x; first | (have hx : Keeps [Part.regs, .net] s x := (by unfold x; (repeat' first | intro _ | (with_reducible first | assumption | exact Keeps.refl _ _ | apply Keeps.ite | apply Keeps.fold | apply State.putF_keeps) | lift_lets -underBinder | split | (clear_value *; split) | (with_reducible apply Keeps.upd_net)) <;> first | rfl); clear_value x) | skip)
    | (with_reducible first | assumption | exact Keeps.refl _ _ | apply Keeps.ite | apply Keeps.fold | apply State.putF_keeps)
    | lift_lets -underBinder
    | split
    | (clear_value *; split)
    | (with_reducible apply Keeps.upd_net)
  all_goals first | rfl

theorem State.arpReply_keeps {l : List Part} {s0 s : State} (a1 : Nat)
    (hk : within [Part.regs, .net] l = true) (g : Keeps l s0 s) : Keeps l s0 (State.arpReply s a1) := by
  refine Keeps.next (k := [Part.regs, .net]) (s := s) ?_ hk g
  clear hk g s0 l
  delta State.arpReply
  try beta_reduce
  try lift_lets -underBinder
  repeat' first
    | (intro x; first | (have hx : Keeps [Part.regs, .net] s x := (by unfold x; (repeat' first | intro _ | (with_reducible first | assumption | exact Keeps.refl _ _ | apply Keeps.ite | apply Keeps.fold | apply State.netReply_keeps | apply State.incF_keeps) | lift_lets -underBinder | split | (clear_value *; split) | (with_reducible apply Keeps.upd_net)) <;> first | rfl); clear_value x) | skip)
    | (with_reducible first | assumption | exact Keeps.refl _ _ | apply Keeps.ite | apply Keeps.fold | apply State.netReply_keeps | apply State.incF_keeps)
    | lift_lets -underBinder
    | split
    | (clear_value *; split)
    | (with_reducible apply Keeps.upd_net)
  all_goals first | rfl

theorem State.icmpReply_keeps {l : List Part} {s0 s : State} (a1 : Nat) (a2 : NetReply)
    (hk : within [Part.regs, .net] l = true) (g : Keeps l s0 s) : Keeps l s0 (State.icmpReply s a1 a2) := by
  refine Keeps.next (k := [Part.regs, .net]) (s := s) ?_ hk g
  clear hk g s0 l
  delta State.icmpReply
  try beta_reduce
  try lift_lets -underBinder
  repeat' first
    | (intro x; first | (have hx : Keeps [Part.regs, .net] s x := (by unfold x; (repeat' first | intro _ | (with_reducible first | assumption | exact Keeps.refl _ _ | apply Keeps.ite | apply Keeps.fold | apply State.netReply_keeps | apply State.incF_keeps) | lift_lets -underBinder | split | (clear_value *; split) | (with_reducible apply Keeps.upd_net)) <;> first | rfl); clear_value x) | skip)
    | (with_reducible first | assumption | exact Keeps.refl _ _ | apply Keeps.ite | apply Keeps.fold | apply State.netReply_keeps | apply State.incF_keeps)
    | lift_lets -underBinder
    | split
    | (clear_value *; split)
    | (with_reducible apply Keeps.upd_net)
  all_goals first | rfl

theorem State.netAnswer_keeps {l : List Part} {s0 s : State} (a1 : Nat) (a2 : List Sys2Proof.Byte)
    (hk : within [Part.regs, .log, .net] l = true) (g : Keeps l s0 s) : Keeps l s0 (State.netAnswer s a1 a2) := by
  refine Keeps.next (k := [Part.regs, .log, .net]) (s := s) ?_ hk g
  clear hk g s0 l
  delta State.netAnswer
  try beta_reduce
  try lift_lets -underBinder
  repeat' first
    | (intro x; first | (have hx : Keeps [Part.regs, .log, .net] s x := (by unfold x; (repeat' first | intro _ | (with_reducible first | assumption | exact Keeps.refl _ _ | apply Keeps.ite | apply Keeps.fold | apply State.raise_keeps | apply State.incF_keeps | apply State.arpLearn_keeps | apply State.arpReply_keeps | apply State.icmpReply_keeps) | lift_lets -underBinder | split | (clear_value *; split)) <;> first | rfl); clear_value x) | skip)
    | (with_reducible first | assumption | exact Keeps.refl _ _ | apply Keeps.ite | apply Keeps.fold | apply State.raise_keeps | apply State.incF_keeps | apply State.arpLearn_keeps | apply State.arpReply_keeps | apply State.icmpReply_keeps)
    | lift_lets -underBinder
    | split
    | (clear_value *; split)
  all_goals first | rfl

theorem State.monTake_keeps {l : List Part} {s0 s t : State} {c : MonCmd} {b : List (List Byte)}
    (e : State.monTake s c = some (t, b)) (hk : within [Part.mon] l = true) (g : Keeps l s0 s) : Keeps l s0 t := by
  refine Keeps.next (k := [Part.mon]) (s := s) ?_ hk g
  unfold State.monTake at e
  split at e
  · split at e
    · cases e; exact Keeps.upd_mon _ rfl (Keeps.refl _ _)
    · cases e
  · cases e

theorem State.monAnswer_keeps {l : List Part} {s0 s : State} (a1 : MonAnswer)
    (hk : within [Part.mon] l = true) (g : Keeps l s0 s) : Keeps l s0 (State.monAnswer s a1) := by
  refine Keeps.next (k := [Part.mon]) (s := s) ?_ hk g
  clear hk g s0 l
  delta State.monAnswer
  try beta_reduce
  try lift_lets -underBinder
  repeat' first
    | (intro x; first | (have hx : Keeps [Part.mon] s x := (by unfold x; (repeat' first | intro _ | (with_reducible first | assumption | exact Keeps.refl _ _ | apply Keeps.ite | apply Keeps.fold) | lift_lets -underBinder | split | (clear_value *; split) | (with_reducible apply Keeps.upd_mon)) <;> first | rfl); clear_value x) | skip)
    | (with_reducible first | assumption | exact Keeps.refl _ _ | apply Keeps.ite | apply Keeps.fold)
    | lift_lets -underBinder
    | split
    | (clear_value *; split)
    | (with_reducible apply Keeps.upd_mon)
  all_goals first | rfl

theorem State.monEvent_keeps {l : List Part} {s0 s : State} (a1 : MonCmd) (a2 : Nat)
    (hk : within [Part.log] l = true) (g : Keeps l s0 s) : Keeps l s0 (State.monEvent s a1 a2) := by
  refine Keeps.next (k := [Part.log]) (s := s) ?_ hk g
  clear hk g s0 l
  delta State.monEvent
  try beta_reduce
  repeat' first
    | intro _
    | (with_reducible first | assumption | exact Keeps.refl _ _ | apply Keeps.ite | apply Keeps.fold | apply State.raise_keeps)
    | split
    | (clear_value *; split)
  all_goals first | rfl

theorem State.monDone_keeps {l : List Part} {s0 s : State} (a1 : MonCmd) (a2 : MonAccess) (a3 : Nat) (a4 : List (Nat × Nat))
    (hk : within [Part.log, .mon] l = true) (g : Keeps l s0 s) : Keeps l s0 (State.monDone s a1 a2 a3 a4) := by
  refine Keeps.next (k := [Part.log, .mon]) (s := s) ?_ hk g
  clear hk g s0 l
  delta State.monDone
  try beta_reduce
  try lift_lets -underBinder
  repeat' first
    | (intro x; first | (have hx : Keeps [Part.log, .mon] s x := (by unfold x; (repeat' first | intro _ | (with_reducible first | assumption | exact Keeps.refl _ _ | apply Keeps.ite | apply Keeps.fold | apply State.monAnswer_keeps | apply State.monEvent_keeps) | lift_lets -underBinder | split | (clear_value *; split)) <;> first | rfl); clear_value x) | skip)
    | (with_reducible first | assumption | exact Keeps.refl _ _ | apply Keeps.ite | apply Keeps.fold | apply State.monAnswer_keeps | apply State.monEvent_keeps)
    | lift_lets -underBinder
    | split
    | (clear_value *; split)
  all_goals first | rfl

theorem State.monFile_keeps {l : List Part} {s0 s : State} (a1 : MonCmd) (a2 : MonAccess) (a3 : List Mode) (a4 : List (List Sys2Proof.Byte) → Option Transfer)
    (hk : within [Part.log, .mon] l = true) (g : Keeps l s0 s) : Keeps l s0 (State.monFile s a1 a2 a3 a4) := by
  refine Keeps.next (k := [Part.log, .mon]) (s := s) ?_ hk g
  clear hk g s0 l
  delta State.monFile
  try beta_reduce
  try lift_lets -underBinder
  repeat' first
    | (intro x; first | (have hx : Keeps [Part.log, .mon] s x := (by unfold x; (repeat' first | intro _ | (with_reducible first | assumption | exact Keeps.refl _ _ | apply Keeps.ite | apply Keeps.fold | refine State.monTake_keeps (by assumption) ?_ ?_ | apply State.monDone_keeps) | lift_lets -underBinder | split | (clear_value *; split) | (with_reducible apply Keeps.upd_mon)) <;> first | rfl); clear_value x) | skip)
    | (with_reducible first | assumption | exact Keeps.refl _ _ | apply Keeps.ite | apply Keeps.fold | refine State.monTake_keeps (by assumption) ?_ ?_ | apply State.monDone_keeps)
    | lift_lets -underBinder
    | split
    | (clear_value *; split)
    | (with_reducible apply Keeps.upd_mon)
  all_goals first | rfl

theorem State.itErr_keeps {l : List Part} {s0 s : State} (a1 : Nat) (a2 : Nat) (a3 : Nat) (a4 : Nat)
    (hk : within [Part.regs] l = true) (g : Keeps l s0 s) : Keeps l s0 (State.itErr s a1 a2 a3 a4) := by
  refine Keeps.next (k := [Part.regs]) (s := s) ?_ hk g
  clear hk g s0 l
  delta State.itErr
  try beta_reduce
  try lift_lets -underBinder
  repeat' first
    | (intro x; first | (have hx : Keeps [Part.regs] s x := (by unfold x; (repeat' first | intro _ | (with_reducible first | assumption | exact Keeps.refl _ _ | apply Keeps.ite | apply Keeps.fold | apply State.putF_keeps) | lift_lets -underBinder | split | (clear_value *; split)) <;> first | rfl); clear_value x) | skip)
    | (with_reducible first | assumption | exact Keeps.refl _ _ | apply Keeps.ite | apply Keeps.fold | apply State.putF_keeps)
    | lift_lets -underBinder
    | split
    | (clear_value *; split)
  all_goals first | rfl

theorem State.answersDiffer_keeps {l : List Part} {s0 s : State} (a1 : List RackAnswer)
    (hk : within [Part.regs, .log] l = true) (g : Keeps l s0 s) : Keeps l s0 (State.answersDiffer s a1) := by
  refine Keeps.next (k := [Part.regs, .log]) (s := s) ?_ hk g
  clear hk g s0 l
  delta State.answersDiffer
  try beta_reduce
  try lift_lets -underBinder
  repeat' first
    | (intro x; first | (have hx : Keeps [Part.regs, .log] s x := (by unfold x; (repeat' first | intro _ | (with_reducible first | assumption | exact Keeps.refl _ _ | apply Keeps.ite | apply Keeps.fold | apply State.itErr_keeps | apply State.incF_keeps | apply State.raiseLimited_keeps) | lift_lets -underBinder | split | (clear_value *; split)) <;> first | rfl); clear_value x) | skip)
    | (with_reducible first | assumption | exact Keeps.refl _ _ | apply Keeps.ite | apply Keeps.fold | apply State.itErr_keeps | apply State.incF_keeps | apply State.raiseLimited_keeps)
    | lift_lets -underBinder
    | split
    | (clear_value *; split)
  all_goals first | rfl

theorem State.placeStrobe_keeps {l : List Part} {s0 s : State} (a1 : Sys2Proof.Mast) (a2 : Int)
    (hk : within [Part.time] l = true) (g : Keeps l s0 s) : Keeps l s0 (State.placeStrobe s a1 a2) := by
  refine Keeps.next (k := [Part.time]) (s := s) ?_ hk g
  clear hk g s0 l
  delta State.placeStrobe
  try beta_reduce
  try lift_lets -underBinder
  repeat' first
    | (intro x; first | (have hx : Keeps [Part.time] s x := (by unfold x; (repeat' first | intro _ | (with_reducible first | assumption | exact Keeps.refl _ _ | apply Keeps.ite | apply Keeps.fold) | lift_lets -underBinder | split | (clear_value *; split) | (with_reducible apply Keeps.upd_time)) <;> first | rfl); clear_value x) | skip)
    | (with_reducible first | assumption | exact Keeps.refl _ _ | apply Keeps.ite | apply Keeps.fold)
    | lift_lets -underBinder
    | split
    | (clear_value *; split)
    | (with_reducible apply Keeps.upd_time)
  all_goals first | rfl

theorem State.showPwe_keeps {l : List Part} {s0 s : State}
    (hk : within [Part.regs] l = true) (g : Keeps l s0 s) : Keeps l s0 (State.showPwe s) := by
  refine Keeps.next (k := [Part.regs]) (s := s) ?_ hk g
  clear hk g s0 l
  delta State.showPwe
  try beta_reduce
  repeat' first
    | intro _
    | (with_reducible first | assumption | exact Keeps.refl _ _ | apply Keeps.ite | apply Keeps.fold | apply State.putF_keeps)
    | split
    | (clear_value *; split)
  all_goals first | rfl

theorem State.pweEnter_keeps {l : List Part} {s0 s : State} (a1 : Sys2Proof.Item)
    (hk : within [Part.regs, .log, .bridge] l = true) (g : Keeps l s0 s) : Keeps l s0 (State.pweEnter s a1) := by
  refine Keeps.next (k := [Part.regs, .log, .bridge]) (s := s) ?_ hk g
  clear hk g s0 l
  delta State.pweEnter
  try beta_reduce
  try lift_lets -underBinder
  repeat' first
    | (intro x; first | (have hx : Keeps [Part.regs, .log, .bridge] s x := (by unfold x; (repeat' first | intro _ | (with_reducible first | assumption | exact Keeps.refl _ _ | apply Keeps.ite | apply Keeps.fold | apply State.putF_keeps | apply State.incF_keeps | apply State.raise_keeps | apply State.showPwe_keeps | apply State.raiseLimited_keeps) | lift_lets -underBinder | split | (clear_value *; split) | (with_reducible apply Keeps.upd_bridge)) <;> first | rfl); clear_value x) | skip)
    | (with_reducible first | assumption | exact Keeps.refl _ _ | apply Keeps.ite | apply Keeps.fold | apply State.putF_keeps | apply State.incF_keeps | apply State.raise_keeps | apply State.showPwe_keeps | apply State.raiseLimited_keeps)
    | lift_lets -underBinder
    | split
    | (clear_value *; split)
    | (with_reducible apply Keeps.upd_bridge)
  all_goals first | rfl

theorem State.bridgeRelease_keeps {l : List Part} {s0 s : State} (a1 : Sys2Proof.Item)
    (hk : within [Part.regs, .log, .bridge] l = true) (g : Keeps l s0 s) : Keeps l s0 (State.bridgeRelease s a1) := by
  refine Keeps.next (k := [Part.regs, .log, .bridge]) (s := s) ?_ hk g
  clear hk g s0 l
  delta State.bridgeRelease
  try beta_reduce
  try lift_lets -underBinder
  repeat' first
    | (intro x; first | (have hx : Keeps [Part.regs, .log, .bridge] s x := (by unfold x; (repeat' first | intro _ | (with_reducible first | assumption | exact Keeps.refl _ _ | apply Keeps.ite | apply Keeps.fold | apply State.pweEnter_keeps | apply State.putF_keeps | apply State.raiseLimited_keeps) | lift_lets -underBinder | split | (clear_value *; split) | (with_reducible apply Keeps.upd_bridge)) <;> first | rfl); clear_value x) | skip)
    | (with_reducible first | assumption | exact Keeps.refl _ _ | apply Keeps.ite | apply Keeps.fold | apply State.pweEnter_keeps | apply State.putF_keeps | apply State.raiseLimited_keeps)
    | lift_lets -underBinder
    | split
    | (clear_value *; split)
    | (with_reducible apply Keeps.upd_bridge)
  all_goals first | rfl

theorem State.mcDone_keeps {l : List Part} {s0 s : State} (a1 : Nat) (a2 : Nat) (a3 : Nat)
    (hk : within [Part.regs] l = true) (g : Keeps l s0 s) : Keeps l s0 (State.mcDone s a1 a2 a3) := by
  refine Keeps.next (k := [Part.regs]) (s := s) ?_ hk g
  clear hk g s0 l
  delta State.mcDone
  try beta_reduce
  try lift_lets -underBinder
  repeat' first
    | (intro x; first | (have hx : Keeps [Part.regs] s x := (by unfold x; (repeat' first | intro _ | (with_reducible first | assumption | exact Keeps.refl _ _ | apply Keeps.ite | apply Keeps.fold | apply State.putF_keeps) | lift_lets -underBinder | split | (clear_value *; split)) <;> first | rfl); clear_value x) | skip)
    | (with_reducible first | assumption | exact Keeps.refl _ _ | apply Keeps.ite | apply Keeps.fold | apply State.putF_keeps)
    | lift_lets -underBinder
    | split
    | (clear_value *; split)
  all_goals first | rfl

theorem State.upDone_keeps {l : List Part} {s0 s : State} (a1 : Nat) (a2 : Nat) (a3 : Nat)
    (hk : within [Part.regs] l = true) (g : Keeps l s0 s) : Keeps l s0 (State.upDone s a1 a2 a3) := by
  refine Keeps.next (k := [Part.regs]) (s := s) ?_ hk g
  clear hk g s0 l
  delta State.upDone
  try beta_reduce
  try lift_lets -underBinder
  repeat' first
    | (intro x; first | (have hx : Keeps [Part.regs] s x := (by unfold x; (repeat' first | intro _ | (with_reducible first | assumption | exact Keeps.refl _ _ | apply Keeps.ite | apply Keeps.fold | apply State.putF_keeps) | lift_lets -underBinder | split | (clear_value *; split)) <;> first | rfl); clear_value x) | skip)
    | (with_reducible first | assumption | exact Keeps.refl _ _ | apply Keeps.ite | apply Keeps.fold | apply State.putF_keeps)
    | lift_lets -underBinder
    | split
    | (clear_value *; split)
  all_goals first | rfl

theorem State.showOwners_keeps {l : List Part} {s0 s : State}
    (hk : within [Part.regs] l = true) (g : Keeps l s0 s) : Keeps l s0 (State.showOwners s) := by
  refine Keeps.next (k := [Part.regs]) (s := s) ?_ hk g
  clear hk g s0 l
  delta State.showOwners
  try beta_reduce
  try lift_lets -underBinder
  repeat' first
    | (intro x; first | (have hx : Keeps [Part.regs] s x := (by unfold x; (repeat' first | intro _ | (with_reducible first | assumption | exact Keeps.refl _ _ | apply Keeps.ite | apply Keeps.fold | apply State.putF_keeps) | lift_lets -underBinder | split | (clear_value *; split)) <;> first | rfl); clear_value x) | skip)
    | (with_reducible first | assumption | exact Keeps.refl _ _ | apply Keeps.ite | apply Keeps.fold | apply State.putF_keeps)
    | lift_lets -underBinder
    | split
    | (clear_value *; split)
  all_goals first | rfl

theorem State.normalHandovers_keeps {l : List Part} {s0 s : State}
    (hk : within [Part.regs, .lane] l = true) (g : Keeps l s0 s) : Keeps l s0 (State.normalHandovers s) := by
  refine Keeps.next (k := [Part.regs, .lane]) (s := s) ?_ hk g
  clear hk g s0 l
  delta State.normalHandovers
  try beta_reduce
  try lift_lets -underBinder
  repeat' first
    | (intro x; first | (have hx : Keeps [Part.regs, .lane] s x := (by unfold x; (repeat' first | intro _ | (with_reducible first | assumption | exact Keeps.refl _ _ | apply Keeps.ite | apply Keeps.fold | apply State.showOwners_keeps | apply State.setUnit_keeps) | lift_lets -underBinder | split | (clear_value *; split)) <;> first | rfl); clear_value x) | skip)
    | (with_reducible first | assumption | exact Keeps.refl _ _ | apply Keeps.ite | apply Keeps.fold | apply State.showOwners_keeps | apply State.setUnit_keeps)
    | lift_lets -underBinder
    | split
    | (clear_value *; split)
  all_goals first | rfl

theorem State.showTotal_keeps {l : List Part} {s0 s : State}
    (hk : within [Part.regs] l = true) (g : Keeps l s0 s) : Keeps l s0 (State.showTotal s) := by
  refine Keeps.next (k := [Part.regs]) (s := s) ?_ hk g
  clear hk g s0 l
  delta State.showTotal
  try beta_reduce
  repeat' first
    | intro _
    | (with_reducible first | assumption | exact Keeps.refl _ _ | apply Keeps.ite | apply Keeps.fold | apply State.putF_keeps)
    | split
    | (clear_value *; split)
  all_goals first | rfl

theorem State.showPool_keeps {l : List Part} {s0 s : State} (a1 : Sys2Proof.Mast)
    (hk : within [Part.regs] l = true) (g : Keeps l s0 s) : Keeps l s0 (State.showPool s a1) := by
  refine Keeps.next (k := [Part.regs]) (s := s) ?_ hk g
  clear hk g s0 l
  delta State.showPool
  try beta_reduce
  repeat' first
    | intro _
    | (with_reducible first | assumption | exact Keeps.refl _ _ | apply Keeps.ite | apply Keeps.fold | apply State.putF_keeps)
    | split
    | (clear_value *; split)
  all_goals first | rfl

theorem State.poolEnable_keeps {l : List Part} {s0 s : State} (a1 : Sys2Proof.Mast)
    (hk : within [Part.regs, .queue] l = true) (g : Keeps l s0 s) : Keeps l s0 (State.poolEnable s a1) := by
  refine Keeps.next (k := [Part.regs, .queue]) (s := s) ?_ hk g
  clear hk g s0 l
  delta State.poolEnable
  try beta_reduce
  repeat' first
    | intro _
    | (with_reducible first | assumption | exact Keeps.refl _ _ | apply Keeps.ite | apply Keeps.fold | apply State.showPool_keeps | apply State.setQueue_keeps)
    | split
    | (clear_value *; split)
  all_goals first | rfl

theorem State.enabled_keeps {l : List Part} {s0 s : State} (a1 : RegRow) (a2 : Nat) (a3 : Sys2Proof.Mast → Nat)
    (hk : within [Part.regs, .queue] l = true) (g : Keeps l s0 s) : Keeps l s0 (State.enabled s a1 a2 a3) := by
  refine Keeps.next (k := [Part.regs, .queue]) (s := s) ?_ hk g
  clear hk g s0 l
  delta State.enabled
  try beta_reduce
  try lift_lets -underBinder
  repeat' first
    | (intro x; first | (have hx : Keeps [Part.regs, .queue] s x := (by unfold x; (repeat' first | intro _ | (with_reducible first | assumption | exact Keeps.refl _ _ | apply Keeps.ite | apply Keeps.fold | apply State.setReg_keeps | apply State.poolEnable_keeps | apply State.showPool_keeps | apply State.setQueue_keeps) | lift_lets -underBinder | split | (clear_value *; split)) <;> first | rfl); clear_value x) | skip)
    | (with_reducible first | assumption | exact Keeps.refl _ _ | apply Keeps.ite | apply Keeps.fold | apply State.setReg_keeps | apply State.poolEnable_keeps | apply State.showPool_keeps | apply State.setQueue_keeps)
    | lift_lets -underBinder
    | split
    | (clear_value *; split)
  all_goals first | rfl

theorem State.writeAgreed_keeps {l : List Part} {s0 s : State} (a1 : RegRow) (a2 : Nat) (a3 : Sys2Proof.Word)
    (hk : within [Part.regs, .lane, .queue] l = true) (g : Keeps l s0 s) : Keeps l s0 (State.writeAgreed s a1 a2 a3) := by
  refine Keeps.next (k := [Part.regs, .lane, .queue]) (s := s) ?_ hk g
  clear hk g s0 l
  delta State.writeAgreed
  try beta_reduce
  try lift_lets -underBinder
  repeat' first
    | (intro x; first | (have hx : Keeps [Part.regs, .lane, .queue] s x := (by unfold x; (repeat' first | intro _ | (with_reducible first | assumption | exact Keeps.refl _ _ | apply Keeps.ite | apply Keeps.fold | apply State.mcDone_keeps | apply State.upDone_keeps | apply State.setReg_keeps | apply State.normalHandovers_keeps | apply State.showTotal_keeps | apply State.enabled_keeps) | lift_lets -underBinder | split | (clear_value *; split)) <;> first | rfl); clear_value x) | skip)
    | (with_reducible first | assumption | exact Keeps.refl _ _ | apply Keeps.ite | apply Keeps.fold | apply State.mcDone_keeps | apply State.upDone_keeps | apply State.setReg_keeps | apply State.normalHandovers_keeps | apply State.showTotal_keeps | apply State.enabled_keeps)
    | lift_lets -underBinder
    | split
    | (clear_value *; split)
  all_goals first | rfl

theorem State.writeDisagreed_keeps {l : List Part} {s0 s : State} (a1 : RegRow) (a2 : List CombWrite)
    (hk : within [Part.regs, .log] l = true) (g : Keeps l s0 s) : Keeps l s0 (State.writeDisagreed s a1 a2) := by
  refine Keeps.next (k := [Part.regs, .log]) (s := s) ?_ hk g
  clear hk g s0 l
  delta State.writeDisagreed
  try beta_reduce
  try lift_lets -underBinder
  repeat' first
    | (intro x; first | (have hx : Keeps [Part.regs, .log] s x := (by unfold x; (repeat' first | intro _ | (with_reducible first | assumption | exact Keeps.refl _ _ | apply Keeps.ite | apply Keeps.fold | apply State.raise_keeps | apply State.mcDone_keeps | apply State.upDone_keeps) | lift_lets -underBinder | split | (clear_value *; split)) <;> first | rfl); clear_value x) | skip)
    | (with_reducible first | assumption | exact Keeps.refl _ _ | apply Keeps.ite | apply Keeps.fold | apply State.raise_keeps | apply State.mcDone_keeps | apply State.upDone_keeps)
    | lift_lets -underBinder
    | split
    | (clear_value *; split)
  all_goals first | rfl

theorem State.combine_keeps {l : List Part} {s0 s : State} (a1 : Nat)
    (hk : within [Part.regs, .log, .lane, .queue] l = true) (g : Keeps l s0 s) : Keeps l s0 (State.combine s a1) := by
  refine Keeps.next (k := [Part.regs, .log, .lane, .queue]) (s := s) ?_ hk g
  clear hk g s0 l
  delta State.combine
  try beta_reduce
  repeat' first
    | intro _
    | (with_reducible first | assumption | exact Keeps.refl _ _ | apply Keeps.ite | apply Keeps.fold | apply State.writeAgreed_keeps | apply State.writeDisagreed_keeps)
    | split
    | (clear_value *; split)
  all_goals first | rfl

theorem State.formItem_keeps {l : List Part} {s0 s : State} (a1 : Nat) (a2 : Nat) (a3 : List Sys2Proof.Byte)
    (hk : within [Part.intake] l = true) (g : Keeps l s0 s) : Keeps l s0 (State.formItem s a1 a2 a3) := by
  refine Keeps.next (k := [Part.intake]) (s := s) ?_ hk g
  clear hk g s0 l
  delta State.formItem
  try beta_reduce
  try lift_lets -underBinder
  repeat' first
    | (intro x; first | (have hx : Keeps [Part.intake] s x := (by unfold x; (repeat' first | intro _ | (with_reducible first | assumption | exact Keeps.refl _ _ | apply Keeps.ite | apply Keeps.fold) | lift_lets -underBinder | split | (clear_value *; split) | (with_reducible apply Keeps.upd_intake)) <;> first | rfl); clear_value x) | skip)
    | (with_reducible first | assumption | exact Keeps.refl _ _ | apply Keeps.ite | apply Keeps.fold)
    | lift_lets -underBinder
    | split
    | (clear_value *; split)
    | (with_reducible apply Keeps.upd_intake)
  all_goals first | rfl

theorem State.slItem_keeps {l : List Part} {s0 s : State} (a1 : List Sys2Proof.Byte) (a2 : List Sys2Proof.Byte)
    (hk : within [Part.intake] l = true) (g : Keeps l s0 s) : Keeps l s0 (State.slItem s a1 a2) := by
  refine Keeps.next (k := [Part.intake]) (s := s) ?_ hk g
  clear hk g s0 l
  delta State.slItem
  try beta_reduce
  repeat' first
    | intro _
    | (with_reducible first | assumption | exact Keeps.refl _ _ | apply Keeps.ite | apply Keeps.fold | apply State.formItem_keeps)
    | split
    | (clear_value *; split)
  all_goals first | rfl

theorem State.saveRetain_keeps {l : List Part} {s0 s : State} (a1 : Sys2Proof.Mast)
    (hk : within [Part.regs, .masts, .app, .mem] l = true) (g : Keeps l s0 s) : Keeps l s0 (State.saveRetain s a1) := by
  refine Keeps.next (k := [Part.regs, .masts, .app, .mem]) (s := s) ?_ hk g
  clear hk g s0 l
  delta State.saveRetain
  try beta_reduce
  try lift_lets -underBinder
  repeat' first
    | (intro x; first | (have hx : Keeps [Part.regs, .masts, .app, .mem] s x := (by unfold x; (repeat' first | intro _ | (with_reducible first | assumption | exact Keeps.refl _ _ | apply Keeps.ite | apply Keeps.fold | apply Keeps.setMem | apply State.showRetain_keeps | apply State.incF_keeps) | lift_lets -underBinder | split | (clear_value *; split) | (with_reducible apply Keeps.upd_app)) <;> first | rfl | (have hh := ‹canonical _›; simp only [Memory.wf_writeBytes, Memory.wf_writeBank, Memory.wf_erase, Memory.wf_markRange, Memory.wf_setErr, Memory.wf_clearSilence, Memory.wf_takeRange, Memory.wf_writeStore, Memory.wf_writeRecord, Memory.wf_putCells, hh.2])); clear_value x) | skip)
    | (with_reducible first | assumption | exact Keeps.refl _ _ | apply Keeps.ite | apply Keeps.fold | apply Keeps.setMem | apply State.showRetain_keeps | apply State.incF_keeps)
    | lift_lets -underBinder
    | split
    | (clear_value *; split)
    | (with_reducible apply Keeps.upd_app)
  all_goals first | rfl | (have hh := ‹canonical _›; simp only [Memory.wf_writeBytes, Memory.wf_writeBank, Memory.wf_erase, Memory.wf_markRange, Memory.wf_setErr, Memory.wf_clearSilence, Memory.wf_takeRange, Memory.wf_writeStore, Memory.wf_writeRecord, Memory.wf_putCells, hh.2])

theorem State.aiTick_keeps {l : List Part} {s0 s : State} (a1 : Nat) (a2 : Nat)
    (hk : within [Part.regs, .log, .time] l = true) (g : Keeps l s0 s) : Keeps l s0 (State.aiTick s a1 a2) := by
  refine Keeps.next (k := [Part.regs, .log, .time]) (s := s) ?_ hk g
  clear hk g s0 l
  delta State.aiTick
  try beta_reduce
  try lift_lets -underBinder
  repeat' first
    | (intro x; first | (have hx : Keeps [Part.regs, .log, .time] s x := (by unfold x; (repeat' first | intro _ | (with_reducible first | assumption | exact Keeps.refl _ _ | apply Keeps.ite | apply Keeps.fold | apply State.incF_keeps | apply State.putF_keeps | apply State.raise_keeps) | lift_lets -underBinder | split | (clear_value *; split) | (with_reducible apply Keeps.upd_time)) <;> first | rfl); clear_value x) | skip)
    | (with_reducible first | assumption | exact Keeps.refl _ _ | apply Keeps.ite | apply Keeps.fold | apply State.incF_keeps | apply State.putF_keeps | apply State.raise_keeps)
    | lift_lets -underBinder
    | split
    | (clear_value *; split)
    | (with_reducible apply Keeps.upd_time)
  all_goals first | rfl

theorem State.nextStep_keeps {l : List Part} {s0 s : State} (a1 : FieldTest) (a2 : TestStep)
    (hk : within [Part.field] l = true) (g : Keeps l s0 s) : Keeps l s0 (State.nextStep s a1 a2) := by
  refine Keeps.next (k := [Part.field]) (s := s) ?_ hk g
  clear hk g s0 l
  delta State.nextStep
  try beta_reduce
  try lift_lets -underBinder
  repeat' first
    | (intro x; first | (have hx : Keeps [Part.field] s x := (by unfold x; (repeat' first | intro _ | (with_reducible first | assumption | exact Keeps.refl _ _ | apply Keeps.ite | apply Keeps.fold) | lift_lets -underBinder | split | (clear_value *; split) | (with_reducible apply Keeps.upd_field)) <;> first | rfl); clear_value x) | skip)
    | (with_reducible first | assumption | exact Keeps.refl _ _ | apply Keeps.ite | apply Keeps.fold)
    | lift_lets -underBinder
    | split
    | (clear_value *; split)
    | (with_reducible apply Keeps.upd_field)
  all_goals first | rfl

theorem State.combineAll_keeps {l : List Part} {s0 s : State}
    (hk : within [Part.regs, .writes, .log, .lane, .queue] l = true) (g : Keeps l s0 s) : Keeps l s0 (State.combineAll s) := by
  refine Keeps.next (k := [Part.regs, .writes, .log, .lane, .queue]) (s := s) ?_ hk g
  clear hk g s0 l
  delta State.combineAll
  try beta_reduce
  try lift_lets -underBinder
  repeat' first
    | (intro x; first | (have hx : Keeps [Part.regs, .writes, .log, .lane, .queue] s x := (by unfold x; (repeat' first | intro _ | (with_reducible first | assumption | exact Keeps.refl _ _ | apply Keeps.ite | apply Keeps.fold | apply State.combine_keeps) | lift_lets -underBinder | split | (clear_value *; split) | (with_reducible apply Keeps.upd_writes)) <;> first | rfl); clear_value x) | skip)
    | (with_reducible first | assumption | exact Keeps.refl _ _ | apply Keeps.ite | apply Keeps.fold | apply State.combine_keeps)
    | lift_lets -underBinder
    | split
    | (clear_value *; split)
    | (with_reducible apply Keeps.upd_writes)
  all_goals first | rfl

theorem State.setCmpTime_keeps {l : List Part} {s0 s : State} (a1 : Sys2Proof.Mast) (a2 : Nat) (a3 : Nat)
    (hk : within [Part.regs] l = true) (g : Keeps l s0 s) : Keeps l s0 (State.setCmpTime s a1 a2 a3) := by
  refine Keeps.next (k := [Part.regs]) (s := s) ?_ hk g
  clear hk g s0 l
  delta State.setCmpTime
  try beta_reduce
  try lift_lets -underBinder
  repeat' first
    | (intro x; first | (have hx : Keeps [Part.regs] s x := (by unfold x; (repeat' first | intro _ | (with_reducible first | assumption | exact Keeps.refl _ _ | apply Keeps.ite | apply Keeps.fold | apply State.putF_keeps) | lift_lets -underBinder | split | (clear_value *; split)) <;> first | rfl); clear_value x) | skip)
    | (with_reducible first | assumption | exact Keeps.refl _ _ | apply Keeps.ite | apply Keeps.fold | apply State.putF_keeps)
    | lift_lets -underBinder
    | split
    | (clear_value *; split)
  all_goals first | rfl

theorem State.markDirty_keeps {l : List Part} {s0 s : State} (a1 : Nat)
    (hk : within [Part.lane] l = true) (g : Keeps l s0 s) : Keeps l s0 (State.markDirty s a1) := by
  refine Keeps.next (k := [Part.lane]) (s := s) ?_ hk g
  clear hk g s0 l
  delta State.markDirty
  try beta_reduce
  try lift_lets -underBinder
  repeat' first
    | (intro x; first | (have hx : Keeps [Part.lane] s x := (by unfold x; (repeat' first | intro _ | (with_reducible first | assumption | exact Keeps.refl _ _ | apply Keeps.ite | apply Keeps.fold) | lift_lets -underBinder | split | (clear_value *; split) | (with_reducible apply Keeps.upd_lane)) <;> first | rfl); clear_value x) | skip)
    | (with_reducible first | assumption | exact Keeps.refl _ _ | apply Keeps.ite | apply Keeps.fold)
    | lift_lets -underBinder
    | split
    | (clear_value *; split)
    | (with_reducible apply Keeps.upd_lane)
  all_goals first | rfl

end Sys2Proof.Machine
end

