-- ==== Sys2Proof/Laws/Operations2.lean ====
section
/-!
SUPPORT. One lemma for each operation of the machine, in the order in which they rest on one another (part 2 of 4): the
operation touches at most the parts named, keeps registers and memories canonical and turns no clock back. Cite it in
place of unfolding the operation.
-/
namespace Sys2Proof.Machine

open Sys2Proof.Safety

theorem State.fabricStore_keeps {l : List Part} {s0 s : State} (a1 : Sys2Proof.Mast) (a2 : Nat) (a3 : List Sys2Proof.Byte)
    (hk : within [Part.masts, .lane, .mem] l = true) (g : Keeps l s0 s) : Keeps l s0 (State.fabricStore s a1 a2 a3) := by
  refine Keeps.next (k := [Part.masts, .lane, .mem]) (s := s) ?_ hk g
  clear hk g s0 l
  delta State.fabricStore
  try beta_reduce
  repeat' first
    | intro _
    | (with_reducible first | assumption | exact Keeps.refl _ _ | apply Keeps.ite | apply Keeps.fold | apply State.markDirty_keeps | apply State.store_keeps)
    | split
    | (clear_value *; split)
  all_goals first | rfl

theorem State.dmaStatus_keeps {l : List Part} {s0 s : State} (a1 : Sys2Proof.Mast) (a2 : Nat) (a3 : Nat)
    (hk : within [Part.masts, .lane, .mem] l = true) (g : Keeps l s0 s) : Keeps l s0 (State.dmaStatus s a1 a2 a3) := by
  refine Keeps.next (k := [Part.masts, .lane, .mem]) (s := s) ?_ hk g
  clear hk g s0 l
  delta State.dmaStatus
  try beta_reduce
  repeat' first
    | intro _
    | (with_reducible first | assumption | exact Keeps.refl _ _ | apply Keeps.ite | apply Keeps.fold | apply State.fabricStore_keeps)
    | split
    | (clear_value *; split)
  all_goals first | rfl

theorem State.dmaStopEvent_keeps {l : List Part} {s0 s : State} (a1 : Sys2Proof.Mast) (a2 : Nat) (a3 : Nat) (a4 : Nat)
    (hk : within [Part.log] l = true) (g : Keeps l s0 s) : Keeps l s0 (State.dmaStopEvent s a1 a2 a3 a4) := by
  refine Keeps.next (k := [Part.log]) (s := s) ?_ hk g
  clear hk g s0 l
  delta State.dmaStopEvent
  try beta_reduce
  repeat' first
    | intro _
    | (with_reducible first | assumption | exact Keeps.refl _ _ | apply Keeps.ite | apply Keeps.fold | apply State.raiseM_keeps)
    | split
    | (clear_value *; split)
  all_goals first | rfl

theorem State.ringPush_keeps {l : List Part} {s0 s : State} (a1 : Sys2Proof.Mast) (a2 : Nat) (a3 : List Sys2Proof.Byte)
    (hk : within [Part.regs, .masts, .lane, .mem] l = true) (g : Keeps l s0 s) : Keeps l s0 (State.ringPush s a1 a2 a3) := by
  refine Keeps.next (k := [Part.regs, .masts, .lane, .mem]) (s := s) ?_ hk g
  clear hk g s0 l
  delta State.ringPush
  try beta_reduce
  try lift_lets -underBinder
  repeat' first
    | (intro x; first | (have hx : Keeps [Part.regs, .masts, .lane, .mem] s x := (by unfold x; (repeat' first | intro _ | (with_reducible first | assumption | exact Keeps.refl _ _ | apply Keeps.ite | apply Keeps.fold | apply State.fabricStore_keeps | apply State.putF_keeps | apply State.interrupt_keeps) | lift_lets -underBinder | split | (clear_value *; split)) <;> first | rfl); clear_value x) | skip)
    | (with_reducible first | assumption | exact Keeps.refl _ _ | apply Keeps.ite | apply Keeps.fold | apply State.fabricStore_keeps | apply State.putF_keeps | apply State.interrupt_keeps)
    | lift_lets -underBinder
    | split
    | (clear_value *; split)
  all_goals first | rfl

theorem State.dmaRecord_keeps {l : List Part} {s0 s : State} (a1 : Sys2Proof.Mast) (a2 : Nat) (a3 : Option (List Sys2Proof.Byte)) (a4 : Nat)
    (hk : within [Part.regs, .masts, .lane, .queue, .mem] l = true) (g : Keeps l s0 s) : Keeps l s0 (State.dmaRecord s a1 a2 a3 a4).1 := by
  refine Keeps.next (k := [Part.regs, .masts, .lane, .queue, .mem]) (s := s) ?_ hk g
  clear hk g s0 l
  delta State.dmaRecord
  try beta_reduce
  try lift_lets -underBinder
  repeat' first
    | (intro x; first | (have hx : Keeps [Part.regs, .masts, .lane, .queue, .mem] s x := (by unfold x; (repeat' first | intro _ | (with_reducible first | assumption | exact Keeps.refl _ _ | apply Keeps.ite | apply Keeps.fold | apply State.setDma_keeps | apply State.setQueue_keeps | apply State.ringPush_keeps) | lift_lets -underBinder | split | (clear_value *; split)) <;> first | rfl); clear_value x) | skip)
    | (with_reducible first | assumption | exact Keeps.refl _ _ | apply Keeps.ite | apply Keeps.fold | apply State.setDma_keeps | apply State.setQueue_keeps | apply State.ringPush_keeps)
    | lift_lets -underBinder
    | split
    | (clear_value *; split)
  all_goals first | rfl

theorem State.dmaRecord_keeps_of {l : List Part} {s0 s t : State} {a1 : Sys2Proof.Mast} {a2 : Nat} {a3 : Option (List Sys2Proof.Byte)} {a4 : Nat} {b} (e : State.dmaRecord s a1 a2 a3 a4 = (t, b))
    (hk : within [Part.regs, .masts, .lane, .queue, .mem] l = true) (g : Keeps l s0 s) : Keeps l s0 t := by
  have h := State.dmaRecord_keeps a1 a2 a3 a4 hk g
  rw [e] at h; exact h

theorem State.dmaInterrupt_keeps {l : List Part} {s0 s : State} (a1 : Sys2Proof.Mast) (a2 : Nat)
    (hk : within [Part.masts] l = true) (g : Keeps l s0 s) : Keeps l s0 (State.dmaInterrupt s a1 a2) := by
  refine Keeps.next (k := [Part.masts]) (s := s) ?_ hk g
  clear hk g s0 l
  delta State.dmaInterrupt
  try beta_reduce
  repeat' first
    | intro _
    | (with_reducible first | assumption | exact Keeps.refl _ _ | apply Keeps.ite | apply Keeps.fold | apply State.interrupt_keeps)
    | split
    | (clear_value *; split)
  all_goals first | rfl

theorem State.dmaStop_keeps {l : List Part} {s0 s : State} (a1 : Sys2Proof.Mast) (a2 : Nat) (a3 : Nat) (a4 : Nat)
    (hk : within [Part.regs, .masts, .log, .lane, .queue, .mem] l = true) (g : Keeps l s0 s) : Keeps l s0 (State.dmaStop s a1 a2 a3 a4) := by
  refine Keeps.next (k := [Part.regs, .masts, .log, .lane, .queue, .mem]) (s := s) ?_ hk g
  clear hk g s0 l
  delta State.dmaStop
  try beta_reduce
  try lift_lets -underBinder
  repeat' first
    | (intro x; first | (have hx : Keeps [Part.regs, .masts, .log, .lane, .queue, .mem] s x := (by unfold x; (repeat' first | intro _ | (with_reducible first | assumption | exact Keeps.refl _ _ | apply Keeps.ite | apply Keeps.fold | apply State.dmaStatus_keeps | apply State.putF_keeps | apply State.dmaStopEvent_keeps | apply State.dmaRecord_keeps | refine State.dmaRecord_keeps_of (by assumption) ?_ ?_ | apply State.dmaInterrupt_keeps) | lift_lets -underBinder | split | (clear_value *; split)) <;> first | rfl); clear_value x) | skip)
    | (with_reducible first | assumption | exact Keeps.refl _ _ | apply Keeps.ite | apply Keeps.fold | apply State.dmaStatus_keeps | apply State.putF_keeps | apply State.dmaStopEvent_keeps | apply State.dmaRecord_keeps | refine State.dmaRecord_keeps_of (by assumption) ?_ ?_ | apply State.dmaInterrupt_keeps)
    | lift_lets -underBinder
    | split
    | (clear_value *; split)
  all_goals first | rfl

theorem State.dmaLoad_keeps {l : List Part} {s0 s : State} (a1 : Sys2Proof.Mast) (a2 : Nat) (a3 : Nat)
    (hk : within [Part.regs, .masts, .log, .lane, .queue, .mem] l = true) (g : Keeps l s0 s) : Keeps l s0 (State.dmaLoad s a1 a2 a3) := by
  refine Keeps.next (k := [Part.regs, .masts, .log, .lane, .queue, .mem]) (s := s) ?_ hk g
  clear hk g s0 l
  delta State.dmaLoad
  try beta_reduce
  try lift_lets -underBinder
  repeat' first
    | (intro x; first | (have hx : Keeps [Part.regs, .masts, .log, .lane, .queue, .mem] s x := (by unfold x; (repeat' first | intro _ | (with_reducible first | assumption | exact Keeps.refl _ _ | apply Keeps.ite | apply Keeps.fold | apply State.setQueue_keeps | apply State.putF_keeps | apply State.setDma_keeps | apply State.dmaStop_keeps) | lift_lets -underBinder | split | (clear_value *; split)) <;> first | rfl); clear_value x) | skip)
    | (with_reducible first | assumption | exact Keeps.refl _ _ | apply Keeps.ite | apply Keeps.fold | apply State.setQueue_keeps | apply State.putF_keeps | apply State.setDma_keeps | apply State.dmaStop_keeps)
    | lift_lets -underBinder
    | split
    | (clear_value *; split)
  all_goals first | rfl

theorem State.dmaReread_keeps {l : List Part} {s0 s : State} (a1 : Sys2Proof.Mast) (a2 : Nat)
    (hk : within [Part.regs, .masts, .log, .lane, .queue, .mem] l = true) (g : Keeps l s0 s) : Keeps l s0 (State.dmaReread s a1 a2) := by
  refine Keeps.next (k := [Part.regs, .masts, .log, .lane, .queue, .mem]) (s := s) ?_ hk g
  clear hk g s0 l
  delta State.dmaReread
  try beta_reduce
  try lift_lets -underBinder
  repeat' first
    | (intro x; first | (have hx : Keeps [Part.regs, .masts, .log, .lane, .queue, .mem] s x := (by unfold x; (repeat' first | intro _ | (with_reducible first | assumption | exact Keeps.refl _ _ | apply Keeps.ite | apply Keeps.fold | apply State.setDma_keeps | apply State.dmaLoad_keeps) | lift_lets -underBinder | split | (clear_value *; split)) <;> first | rfl); clear_value x) | skip)
    | (with_reducible first | assumption | exact Keeps.refl _ _ | apply Keeps.ite | apply Keeps.fold | apply State.setDma_keeps | apply State.dmaLoad_keeps)
    | lift_lets -underBinder
    | split
    | (clear_value *; split)
  all_goals first | rfl

theorem State.dmaDoorbell_keeps {l : List Part} {s0 s : State} (a1 : Sys2Proof.Mast) (a2 : Nat)
    (hk : within [Part.regs, .masts, .log, .lane, .queue, .mem] l = true) (g : Keeps l s0 s) : Keeps l s0 (State.dmaDoorbell s a1 a2) := by
  refine Keeps.next (k := [Part.regs, .masts, .log, .lane, .queue, .mem]) (s := s) ?_ hk g
  clear hk g s0 l
  delta State.dmaDoorbell
  try beta_reduce
  try lift_lets -underBinder
  repeat' first
    | (intro x; first | (have hx : Keeps [Part.regs, .masts, .log, .lane, .queue, .mem] s x := (by unfold x; (repeat' first | intro _ | (with_reducible first | assumption | exact Keeps.refl _ _ | apply Keeps.ite | apply Keeps.fold | apply State.raiseLimited_keeps | apply State.incF_keeps | apply State.dmaLoad_keeps | apply State.dmaReread_keeps | apply State.putF_keeps) | lift_lets -underBinder | split | (clear_value *; split)) <;> first | rfl); clear_value x) | skip)
    | (with_reducible first | assumption | exact Keeps.refl _ _ | apply Keeps.ite | apply Keeps.fold | apply State.raiseLimited_keeps | apply State.incF_keeps | apply State.dmaLoad_keeps | apply State.dmaReread_keeps | apply State.putF_keeps)
    | lift_lets -underBinder
    | split
    | (clear_value *; split)
  all_goals first | rfl

theorem State.queuedFire_keeps {l : List Part} {s0 s : State} (a1 : Sys2Proof.Mast) (a2 : Nat) (a3 : Nat)
    (hk : within [Part.regs, .log, .field] l = true) (g : Keeps l s0 s) : Keeps l s0 (State.queuedFire s a1 a2 a3) := by
  refine Keeps.next (k := [Part.regs, .log, .field]) (s := s) ?_ hk g
  clear hk g s0 l
  delta State.queuedFire
  try beta_reduce
  try lift_lets -underBinder
  repeat' first
    | (intro x; first | (have hx : Keeps [Part.regs, .log, .field] s x := (by unfold x; (repeat' first | intro _ | (with_reducible first | assumption | exact Keeps.refl _ _ | apply Keeps.ite | apply Keeps.fold | apply State.raiseM_keeps | apply State.putF_keeps) | lift_lets -underBinder | split | (clear_value *; split) | (with_reducible apply Keeps.upd_field)) <;> first | rfl); clear_value x) | skip)
    | (with_reducible first | assumption | exact Keeps.refl _ _ | apply Keeps.ite | apply Keeps.fold | apply State.raiseM_keeps | apply State.putF_keeps)
    | lift_lets -underBinder
    | split
    | (clear_value *; split)
    | (with_reducible apply Keeps.upd_field)
  all_goals first | rfl

theorem State.cmpFire_keeps {l : List Part} {s0 s : State} (a1 : Sys2Proof.Mast) (a2 : Nat) (a3 : Nat) (a4 : Bool) (a5 : Bool)
    (hk : within [Part.regs, .masts, .log, .lane, .pos, .queue, .field, .mem] l = true) (g : Keeps l s0 s) : Keeps l s0 (State.cmpFire s a1 a2 a3 a4 a5) := by
  refine Keeps.next (k := [Part.regs, .masts, .log, .lane, .pos, .queue, .field, .mem]) (s := s) ?_ hk g
  clear hk g s0 l
  delta State.cmpFire
  try beta_reduce
  try lift_lets -underBinder
  repeat' first
    | (intro x; first | (have hx : Keeps [Part.regs, .masts, .log, .lane, .pos, .queue, .field, .mem] s x := (by unfold x; (repeat' first | intro _ | (with_reducible first | assumption | exact Keeps.refl _ _ | apply Keeps.ite | apply Keeps.fold | apply State.putF_keeps | apply State.incF_keeps | apply State.setCmpTime_keeps | apply State.cmpEvent_keeps | apply State.dmaDoorbell_keeps | apply State.queuedFire_keeps) | lift_lets -underBinder | split | (clear_value *; split) | (with_reducible apply Keeps.upd_pos)) <;> first | rfl); clear_value x) | skip)
    | (with_reducible first | assumption | exact Keeps.refl _ _ | apply Keeps.ite | apply Keeps.fold | apply State.putF_keeps | apply State.incF_keeps | apply State.setCmpTime_keeps | apply State.cmpEvent_keeps | apply State.dmaDoorbell_keeps | apply State.queuedFire_keeps)
    | lift_lets -underBinder
    | split
    | (clear_value *; split)
    | (with_reducible apply Keeps.upd_pos)
  all_goals first | rfl

theorem State.cmpStep_keeps {l : List Part} {s0 s : State} (a1 : Sys2Proof.Mast) (a2 : Nat) (a3 : Nat)
    (hk : within [Part.regs, .masts, .log, .lane, .pos, .queue, .field, .mem] l = true) (g : Keeps l s0 s) : Keeps l s0 (State.cmpStep s a1 a2 a3) := by
  refine Keeps.next (k := [Part.regs, .masts, .log, .lane, .pos, .queue, .field, .mem]) (s := s) ?_ hk g
  clear hk g s0 l
  delta State.cmpStep
  try beta_reduce
  try lift_lets -underBinder
  repeat' first
    | (intro x; first | (have hx : Keeps [Part.regs, .masts, .log, .lane, .pos, .queue, .field, .mem] s x := (by unfold x; (repeat' first | intro _ | (with_reducible first | assumption | exact Keeps.refl _ _ | apply Keeps.ite | apply Keeps.fold | apply State.cmpFire_keeps | apply State.setCmpTime_keeps) | lift_lets -underBinder | split | (clear_value *; split)) <;> first | rfl); clear_value x) | skip)
    | (with_reducible first | assumption | exact Keeps.refl _ _ | apply Keeps.ite | apply Keeps.fold | apply State.cmpFire_keeps | apply State.setCmpTime_keeps)
    | lift_lets -underBinder
    | split
    | (clear_value *; split)
  all_goals first | rfl

theorem State.stepBy_keeps {l : List Part} {s0 s : State} (a1 : Int) (a2 : Nat)
    (hk : within [Part.regs, .masts, .log, .lane, .time, .pos, .queue, .field, .mem] l = true) (g : Keeps l s0 s) : Keeps l s0 (State.stepBy s a1 a2) := by
  refine Keeps.next (k := [Part.regs, .masts, .log, .lane, .time, .pos, .queue, .field, .mem]) (s := s) ?_ hk g
  clear hk g s0 l
  delta State.stepBy
  try beta_reduce
  try lift_lets -underBinder
  repeat' first
    | (intro x; first | (have hx : Keeps [Part.regs, .masts, .log, .lane, .time, .pos, .queue, .field, .mem] s x := (by unfold x; (repeat' first | intro _ | (with_reducible first | assumption | exact Keeps.refl _ _ | apply Keeps.ite | apply Keeps.fold | apply State.putF_keeps | apply State.raise_keeps | apply State.cmpStep_keeps) | lift_lets -underBinder | split | (clear_value *; split) | (with_reducible apply Keeps.upd_time)) <;> first | rfl); clear_value x) | skip)
    | (with_reducible first | assumption | exact Keeps.refl _ _ | apply Keeps.ite | apply Keeps.fold | apply State.putF_keeps | apply State.raise_keeps | apply State.cmpStep_keeps)
    | lift_lets -underBinder
    | split
    | (clear_value *; split)
    | (with_reducible apply Keeps.upd_time)
  all_goals first | rfl

theorem State.stepToTarget_keeps {l : List Part} {s0 s : State} (a1 : Nat)
    (hk : within [Part.regs, .masts, .log, .lane, .time, .pos, .queue, .field, .mem] l = true) (g : Keeps l s0 s) : Keeps l s0 (State.stepToTarget s a1) := by
  refine Keeps.next (k := [Part.regs, .masts, .log, .lane, .time, .pos, .queue, .field, .mem]) (s := s) ?_ hk g
  clear hk g s0 l
  delta State.stepToTarget
  try beta_reduce
  repeat' first
    | intro _
    | (with_reducible first | assumption | exact Keeps.refl _ _ | apply Keeps.ite | apply Keeps.fold | apply State.stepBy_keeps)
    | split
    | (clear_value *; split)
  all_goals first | rfl

theorem State.setPort_keeps {l : List Part} {s0 s : State} (a1 : Nat) (a2 : NetPort)
    (hk : within [Part.net] l = true) (g : Keeps l s0 s) : Keeps l s0 (State.setPort s a1 a2) := by
  refine Keeps.next (k := [Part.net]) (s := s) ?_ hk g
  clear hk g s0 l
  delta State.setPort
  try beta_reduce
  try lift_lets -underBinder
  repeat' first
    | (intro x; first | (have hx : Keeps [Part.net] s x := (by unfold x; (repeat' first | intro _ | (with_reducible first | assumption | exact Keeps.refl _ _ | apply Keeps.ite | apply Keeps.fold) | lift_lets -underBinder | split | (clear_value *; split) | (with_reducible apply Keeps.upd_net)) <;> first | rfl); clear_value x) | skip)
    | (with_reducible first | assumption | exact Keeps.refl _ _ | apply Keeps.ite | apply Keeps.fold)
    | lift_lets -underBinder
    | split
    | (clear_value *; split)
    | (with_reducible apply Keeps.upd_net)
  all_goals first | rfl

theorem State.noteSummary_keeps {l : List Part} {s0 s : State} (a1 : Nat) (a2 : Nat) (a3 : Nat)
    (hk : within [Part.log] l = true) (g : Keeps l s0 s) : Keeps l s0 (State.noteSummary s a1 a2 a3) := by
  refine Keeps.next (k := [Part.log]) (s := s) ?_ hk g
  clear hk g s0 l
  delta State.noteSummary
  try beta_reduce
  try lift_lets -underBinder
  repeat' first
    | (intro x; first | (have hx : Keeps [Part.log] s x := (by unfold x; (repeat' first | intro _ | (with_reducible first | assumption | exact Keeps.refl _ _ | apply Keeps.ite | apply Keeps.fold) | lift_lets -underBinder | split | (clear_value *; split) | (with_reducible apply Keeps.upd_log)) <;> first | rfl); clear_value x) | skip)
    | (with_reducible first | assumption | exact Keeps.refl _ _ | apply Keeps.ite | apply Keeps.fold)
    | lift_lets -underBinder
    | split
    | (clear_value *; split)
    | (with_reducible apply Keeps.upd_log)
  all_goals first | rfl

theorem State.maxF_keeps {l : List Part} {s0 s : State} (a1 : Copy) (a2 : Fld) (a3 : Nat)
    (hk : within [Part.regs] l = true) (g : Keeps l s0 s) : Keeps l s0 (State.maxF s a1 a2 a3) := by
  refine Keeps.next (k := [Part.regs]) (s := s) ?_ hk g
  clear hk g s0 l
  delta State.maxF
  try beta_reduce
  repeat' first
    | intro _
    | (with_reducible first | assumption | exact Keeps.refl _ _ | apply Keeps.ite | apply Keeps.fold | apply State.putF_keeps)
    | split
    | (clear_value *; split)
  all_goals first | rfl

theorem State.netAdmit_keeps {l : List Part} {s0 s : State} (a1 : Nat) (a2 : List Sys2Proof.Byte) (a3 : Nat)
    (hk : within [Part.regs, .log, .intake, .net] l = true) (g : Keeps l s0 s) : Keeps l s0 (State.netAdmit s a1 a2 a3) := by
  refine Keeps.next (k := [Part.regs, .log, .intake, .net]) (s := s) ?_ hk g
  clear hk g s0 l
  delta State.netAdmit
  try beta_reduce
  try lift_lets -underBinder
  repeat' first
    | (intro x; first | (have hx : Keeps [Part.regs, .log, .intake, .net] s x := (by unfold x; (repeat' first | intro _ | (with_reducible first | assumption | exact Keeps.refl _ _ | apply Keeps.ite | apply Keeps.fold | apply State.setPort_keeps | apply State.noteSummary_keeps | apply State.incF_keeps | apply State.maxF_keeps | apply State.wrapF_keeps | apply State.formItem_keeps | apply State.netAnswer_keeps) | lift_lets -underBinder | split | (clear_value *; split)) <;> first | rfl); clear_value x) | skip)
    | (with_reducible first | assumption | exact Keeps.refl _ _ | apply Keeps.ite | apply Keeps.fold | apply State.setPort_keeps | apply State.noteSummary_keeps | apply State.incF_keeps | apply State.maxF_keeps | apply State.wrapF_keeps | apply State.formItem_keeps | apply State.netAnswer_keeps)
    | lift_lets -underBinder
    | split
    | (clear_value *; split)
  all_goals first | rfl

theorem State.cmpDisagree_keeps {l : List Part} {s0 s : State}
    (hk : within [Part.log] l = true) (g : Keeps l s0 s) : Keeps l s0 (State.cmpDisagree s) := by
  refine Keeps.next (k := [Part.log]) (s := s) ?_ hk g
  clear hk g s0 l
  delta State.cmpDisagree
  try beta_reduce
  try lift_lets -underBinder
  repeat' first
    | (intro x; first | (have hx : Keeps [Part.log] s x := (by unfold x; (repeat' first | intro _ | (with_reducible first | assumption | exact Keeps.refl _ _ | apply Keeps.ite | apply Keeps.fold | apply State.raise_keeps) | lift_lets -underBinder | split | (clear_value *; split)) <;> first | rfl); clear_value x) | skip)
    | (with_reducible first | assumption | exact Keeps.refl _ _ | apply Keeps.ite | apply Keeps.fold | apply State.raise_keeps)
    | lift_lets -underBinder
    | split
    | (clear_value *; split)
  all_goals first | rfl

theorem State.cmpAtInstant_keeps {l : List Part} {s0 s : State}
    (hk : within [Part.regs, .log, .pos] l = true) (g : Keeps l s0 s) : Keeps l s0 (State.cmpAtInstant s) := by
  refine Keeps.next (k := [Part.regs, .log, .pos]) (s := s) ?_ hk g
  clear hk g s0 l
  delta State.cmpAtInstant
  try beta_reduce
  try lift_lets -underBinder
  repeat' first
    | (intro x; first | (have hx : Keeps [Part.regs, .log, .pos] s x := (by unfold x; (repeat' first | intro _ | (with_reducible first | assumption | exact Keeps.refl _ _ | apply Keeps.ite | apply Keeps.fold | apply State.putF_keeps | apply State.cmpDisagree_keeps) | lift_lets -underBinder | split | (clear_value *; split) | (with_reducible apply Keeps.upd_pos)) <;> first | rfl); clear_value x) | skip)
    | (with_reducible first | assumption | exact Keeps.refl _ _ | apply Keeps.ite | apply Keeps.fold | apply State.putF_keeps | apply State.cmpDisagree_keeps)
    | lift_lets -underBinder
    | split
    | (clear_value *; split)
    | (with_reducible apply Keeps.upd_pos)
  all_goals first | rfl

theorem State.markPast_keeps {l : List Part} {s0 s : State} (a1 : Sys2Proof.Item)
    (hk : within [Part.intake] l = true) (g : Keeps l s0 s) : Keeps l s0 (State.markPast s a1) := by
  refine Keeps.next (k := [Part.intake]) (s := s) ?_ hk g
  clear hk g s0 l
  delta State.markPast
  try beta_reduce
  try lift_lets -underBinder
  repeat' first
    | (intro x; first | (have hx : Keeps [Part.intake] s x := (by unfold x; (repeat' first | intro _ | (with_reducible first | assumption | exact Keeps.refl _ _ | apply Keeps.ite | apply Keeps.fold) | lift_lets -underBinder | split | (clear_value *; split) | (with_reducible apply Keeps.upd_intake)) <;> first | rfl); clear_value x) | skip)
    | (with_reducible first | assumption | exact Keeps.refl _ _ | apply Keeps.ite | apply Keeps.fold)
    | lift_lets -underBinder
    | split
    | (clear_value *; split)
    | (with_reducible apply Keeps.upd_intake)
  all_goals first | rfl

theorem State.holdOver_keeps {l : List Part} {s0 s : State} (a1 : List Sys2Proof.Mast) (a2 : Nat)
    (hk : within [Part.intake] l = true) (g : Keeps l s0 s) : Keeps l s0 (State.holdOver s a1 a2) := by
  refine Keeps.next (k := [Part.intake]) (s := s) ?_ hk g
  clear hk g s0 l
  delta State.holdOver
  try beta_reduce
  try lift_lets -underBinder
  repeat' first
    | (intro x; first | (have hx : Keeps [Part.intake] s x := (by unfold x; (repeat' first | intro _ | (with_reducible first | assumption | exact Keeps.refl _ _ | apply Keeps.ite | apply Keeps.fold) | lift_lets -underBinder | split | (clear_value *; split) | (with_reducible apply Keeps.upd_intake)) <;> first | rfl); clear_value x) | skip)
    | (with_reducible first | assumption | exact Keeps.refl _ _ | apply Keeps.ite | apply Keeps.fold)
    | lift_lets -underBinder
    | split
    | (clear_value *; split)
    | (with_reducible apply Keeps.upd_intake)
  all_goals first | rfl

theorem State.freeBuffer_keeps {l : List Part} {s0 s : State} (a1 : Sys2Proof.Mast) (a2 : Nat)
    (hk : within [Part.regs, .queue] l = true) (g : Keeps l s0 s) : Keeps l s0 (State.freeBuffer s a1 a2) := by
  refine Keeps.next (k := [Part.regs, .queue]) (s := s) ?_ hk g
  clear hk g s0 l
  delta State.freeBuffer
  try beta_reduce
  try lift_lets -underBinder
  repeat' first
    | (intro x; first | (have hx : Keeps [Part.regs, .queue] s x := (by unfold x; (repeat' first | intro _ | (with_reducible first | assumption | exact Keeps.refl _ _ | apply Keeps.ite | apply Keeps.fold | apply State.showPool_keeps | apply State.setQueue_keeps) | lift_lets -underBinder | split | (clear_value *; split)) <;> first | rfl); clear_value x) | skip)
    | (with_reducible first | assumption | exact Keeps.refl _ _ | apply Keeps.ite | apply Keeps.fold | apply State.showPool_keeps | apply State.setQueue_keeps)
    | lift_lets -underBinder
    | split
    | (clear_value *; split)
  all_goals first | rfl

theorem State.freeHeld_keeps {l : List Part} {s0 s : State} (a1 : Sys2Proof.Mast) (a2 : Option Nat)
    (hk : within [Part.regs, .queue] l = true) (g : Keeps l s0 s) : Keeps l s0 (State.freeHeld s a1 a2) := by
  refine Keeps.next (k := [Part.regs, .queue]) (s := s) ?_ hk g
  clear hk g s0 l
  delta State.freeHeld
  try beta_reduce
  repeat' first
    | intro _
    | (with_reducible first | assumption | exact Keeps.refl _ _ | apply Keeps.ite | apply Keeps.fold | apply State.freeBuffer_keeps)
    | split
    | (clear_value *; split)
  all_goals first | rfl

theorem State.setIntake_keeps {l : List Part} {s0 s : State} (a1 : Sys2Proof.Mast) (a2 : IntakeMast)
    (hk : within [Part.intake] l = true) (g : Keeps l s0 s) : Keeps l s0 (State.setIntake s a1 a2) := by
  refine Keeps.next (k := [Part.intake]) (s := s) ?_ hk g
  clear hk g s0 l
  delta State.setIntake
  try beta_reduce
  try lift_lets -underBinder
  repeat' first
    | (intro x; first | (have hx : Keeps [Part.intake] s x := (by unfold x; (repeat' first | intro _ | (with_reducible first | assumption | exact Keeps.refl _ _ | apply Keeps.ite | apply Keeps.fold) | lift_lets -underBinder | split | (clear_value *; split) | (with_reducible apply Keeps.upd_intake)) <;> first | rfl); clear_value x) | skip)
    | (with_reducible first | assumption | exact Keeps.refl _ _ | apply Keeps.ite | apply Keeps.fold)
    | lift_lets -underBinder
    | split
    | (clear_value *; split)
    | (with_reducible apply Keeps.upd_intake)
  all_goals first | rfl

theorem State.unstageOn_keeps {l : List Part} {s0 s : State} (a1 : List Sys2Proof.Mast) (a2 : Nat)
    (hk : within [Part.regs, .intake, .queue] l = true) (g : Keeps l s0 s) : Keeps l s0 (State.unstageOn s a1 a2) := by
  refine Keeps.next (k := [Part.regs, .intake, .queue]) (s := s) ?_ hk g
  clear hk g s0 l
  delta State.unstageOn
  try beta_reduce
  try lift_lets -underBinder
  repeat' first
    | (intro x; first | (have hx : Keeps [Part.regs, .intake, .queue] s x := (by unfold x; (repeat' first | intro _ | (with_reducible first | assumption | exact Keeps.refl _ _ | apply Keeps.ite | apply Keeps.fold | apply State.freeHeld_keeps | apply State.setIntake_keeps) | lift_lets -underBinder | split | (clear_value *; split)) <;> first | rfl); clear_value x) | skip)
    | (with_reducible first | assumption | exact Keeps.refl _ _ | apply Keeps.ite | apply Keeps.fold | apply State.freeHeld_keeps | apply State.setIntake_keeps)
    | lift_lets -underBinder
    | split
    | (clear_value *; split)
  all_goals first | rfl

theorem State.unstage_keeps {l : List Part} {s0 s : State} (a1 : Nat)
    (hk : within [Part.regs, .intake, .queue] l = true) (g : Keeps l s0 s) : Keeps l s0 (State.unstage s a1) := by
  refine Keeps.next (k := [Part.regs, .intake, .queue]) (s := s) ?_ hk g
  clear hk g s0 l
  delta State.unstage
  try beta_reduce
  repeat' first
    | intro _
    | (with_reducible first | assumption | exact Keeps.refl _ _ | apply Keeps.ite | apply Keeps.fold | apply State.unstageOn_keeps)
    | split
    | (clear_value *; split)
  all_goals first | rfl

theorem State.applyVerdict_keeps {l : List Part} {s0 s : State} (a1 : Verdict) (a2 : List Sys2Proof.Mast) (a3 : Sys2Proof.Item)
    (hk : within [Part.regs, .log, .intake, .queue] l = true) (g : Keeps l s0 s) : Keeps l s0 (State.applyVerdict s a1 a2 a3) := by
  refine Keeps.next (k := [Part.regs, .log, .intake, .queue]) (s := s) ?_ hk g
  clear hk g s0 l
  delta State.applyVerdict
  try beta_reduce
  try lift_lets -underBinder
  repeat' first
    | (intro x; first | (have hx : Keeps [Part.regs, .log, .intake, .queue] s x := (by unfold x; (repeat' first | intro _ | (with_reducible first | assumption | exact Keeps.refl _ _ | apply Keeps.ite | apply Keeps.fold | apply State.markPast_keeps | apply State.holdOver_keeps | apply State.unstage_keeps | apply State.itErr_keeps | apply State.incF_keeps | apply State.unstageOn_keeps | apply State.raiseLimited_keeps) | lift_lets -underBinder | split | (clear_value *; split)) <;> first | rfl); clear_value x) | skip)
    | (with_reducible first | assumption | exact Keeps.refl _ _ | apply Keeps.ite | apply Keeps.fold | apply State.markPast_keeps | apply State.holdOver_keeps | apply State.unstage_keeps | apply State.itErr_keeps | apply State.incF_keeps | apply State.unstageOn_keeps | apply State.raiseLimited_keeps)
    | lift_lets -underBinder
    | split
    | (clear_value *; split)
  all_goals first | rfl

theorem State.noteFills_keeps {l : List Part} {s0 s : State}
    (hk : within [Part.regs, .intake] l = true) (g : Keeps l s0 s) : Keeps l s0 (State.noteFills s) := by
  refine Keeps.next (k := [Part.regs, .intake]) (s := s) ?_ hk g
  clear hk g s0 l
  delta State.noteFills
  try beta_reduce
  try lift_lets -underBinder
  repeat' first
    | (intro x; first | (have hx : Keeps [Part.regs, .intake] s x := (by unfold x; (repeat' first | intro _ | (with_reducible first | assumption | exact Keeps.refl _ _ | apply Keeps.ite | apply Keeps.fold | apply State.putF_keeps | apply State.maxF_keeps | apply State.setIntake_keeps) | lift_lets -underBinder | split | (clear_value *; split)) <;> first | rfl); clear_value x) | skip)
    | (with_reducible first | assumption | exact Keeps.refl _ _ | apply Keeps.ite | apply Keeps.fold | apply State.putF_keeps | apply State.maxF_keeps | apply State.setIntake_keeps)
    | lift_lets -underBinder
    | split
    | (clear_value *; split)
  all_goals first | rfl

theorem State.intakeDecide_keeps {l : List Part} {s0 s : State}
    (hk : within [Part.regs, .log, .intake, .queue] l = true) (g : Keeps l s0 s) : Keeps l s0 (State.intakeDecide s) := by
  refine Keeps.next (k := [Part.regs, .log, .intake, .queue]) (s := s) ?_ hk g
  clear hk g s0 l
  delta State.intakeDecide
  try beta_reduce
  try lift_lets -underBinder
  repeat' first
    | (intro x; first | (have hx : Keeps [Part.regs, .log, .intake, .queue] s x := (by unfold x; (repeat' first | intro _ | (with_reducible first | assumption | exact Keeps.refl _ _ | apply Keeps.ite | apply Keeps.fold | apply State.applyVerdict_keeps | apply State.noteFills_keeps | apply State.putF_keeps) | lift_lets -underBinder | split | (clear_value *; split) | (with_reducible apply Keeps.upd_intake)) <;> first | rfl); clear_value x) | skip)
    | (with_reducible first | assumption | exact Keeps.refl _ _ | apply Keeps.ite | apply Keeps.fold | apply State.applyVerdict_keeps | apply State.noteFills_keeps | apply State.putF_keeps)
    | lift_lets -underBinder
    | split
    | (clear_value *; split)
    | (with_reducible apply Keeps.upd_intake)
  all_goals first | rfl

theorem State.during_keeps {l : List Part} {s0 s : State} (k : Nat) (f : State → State)
    (hk : within [Part.time] l = true) (hf : ∀ s0 s, Keeps (Part.now :: l) s0 s → Keeps (Part.now :: l) s0 (f s))
    (g : Keeps l s0 s) : Keeps l s0 (State.during s k f) := by
  have ht : Part.time ∈ l := by simpa [within] using hk
  have key : ∀ (n : Nat) (x : TimePart) (y : State → TimePart),
      Keeps l s (let u := f { s with now := n, time := x }; { u with now := s.now, time := y u }) := by
    intro n x y
    have h := hf _ _ (Keeps.refl (Part.now :: l) { s with now := n, time := x })
    generalize f { s with now := n, time := x } = u at h ⊢
    refine ⟨fun p hp => ?_, fun c => h.canon c, Nat.le_refl _⟩
    by_cases e : p = .now
    · subst e; rfl
    · by_cases e' : p = .time
      · subst e'; exact absurd ht hp
      · have m : p ∉ Part.now :: l := by simp [e, hp]
        have c := h.frame p m
        cases p <;> first | exact c | exact absurd rfl e | exact absurd rfl e'
  have h := key (s.ctl.stepAt k) { s.time with
    tb := s.time.tb.map fun m v => if (s.masts.get m).powered then (s.ctl.stepAt k - s.ctl.bootFrom) * 2 ^ 32 else v }
    (fun u => { u.time with tb := s.time.tb })
  exact Keeps.next h (by simp [within]) g

theorem State.bootOtp_keeps {l : List Part} {s0 s : State} (a1 : Sys2Proof.BootEnv)
    (hk : within [Part.regs, .upd] l = true) (g : Keeps l s0 s) : Keeps l s0 (State.bootOtp s a1) := by
  refine Keeps.next (k := [Part.regs, .upd]) (s := s) ?_ hk g
  clear hk g s0 l
  delta State.bootOtp
  try beta_reduce
  try lift_lets -underBinder
  repeat' first
    | (intro x; first | (have hx : Keeps [Part.regs, .upd] s x := (by unfold x; (repeat' first | intro _ | (with_reducible first | assumption | exact Keeps.refl _ _ | apply Keeps.ite | apply Keeps.fold | apply State.putF_keeps | apply State.showKeys_keeps) | lift_lets -underBinder | split | (clear_value *; split) | (with_reducible apply Keeps.upd_upd)) <;> first | rfl); clear_value x) | skip)
    | (with_reducible first | assumption | exact Keeps.refl _ _ | apply Keeps.ite | apply Keeps.fold | apply State.putF_keeps | apply State.showKeys_keeps)
    | lift_lets -underBinder
    | split
    | (clear_value *; split)
    | (with_reducible apply Keeps.upd_upd)
  all_goals first | rfl

theorem State.grantToken_keeps {l : List Part} {s0 s : State}
    (hk : within [Part.masts, .key] l = true) (g : Keeps l s0 s) : Keeps l s0 (State.grantToken s) := by
  refine Keeps.next (k := [Part.masts, .key]) (s := s) ?_ hk g
  clear hk g s0 l
  delta State.grantToken
  try beta_reduce
  try lift_lets -underBinder
  repeat' first
    | (intro x; first | (have hx : Keeps [Part.masts, .key] s x := (by unfold x; (repeat' first | intro _ | (with_reducible first | assumption | exact Keeps.refl _ _ | apply Keeps.ite | apply Keeps.fold | apply Keeps.setMast) | lift_lets -underBinder | split | (clear_value *; split) | (with_reducible apply Keeps.upd_key)) <;> first | rfl); clear_value x) | skip)
    | (with_reducible first | assumption | exact Keeps.refl _ _ | apply Keeps.ite | apply Keeps.fold | apply Keeps.setMast)
    | lift_lets -underBinder
    | split
    | (clear_value *; split)
    | (with_reducible apply Keeps.upd_key)
  all_goals first | rfl

theorem State.showRecord_keeps {l : List Part} {s0 s : State}
    (hk : within [Part.regs] l = true) (g : Keeps l s0 s) : Keeps l s0 (State.showRecord s) := by
  refine Keeps.next (k := [Part.regs]) (s := s) ?_ hk g
  clear hk g s0 l
  delta State.showRecord
  try beta_reduce
  try lift_lets -underBinder
  repeat' first
    | (intro x; first | (have hx : Keeps [Part.regs] s x := (by unfold x; (repeat' first | intro _ | (with_reducible first | assumption | exact Keeps.refl _ _ | apply Keeps.ite | apply Keeps.fold | apply State.putF_keeps) | lift_lets -underBinder | split | (clear_value *; split)) <;> first | rfl); clear_value x) | skip)
    | (with_reducible first | assumption | exact Keeps.refl _ _ | apply Keeps.ite | apply Keeps.fold | apply State.putF_keeps)
    | lift_lets -underBinder
    | split
    | (clear_value *; split)
  all_goals first | rfl

theorem State.bootRecords_keeps {l : List Part} {s0 s : State}
    (hk : within [Part.regs, .masts, .log, .mem] l = true) (g : Keeps l s0 s) : Keeps l s0 (State.bootRecords s) := by
  refine Keeps.next (k := [Part.regs, .masts, .log, .mem]) (s := s) ?_ hk g
  clear hk g s0 l
  delta State.bootRecords
  try beta_reduce
  try lift_lets -underBinder
  repeat' first
    | (intro x; first | (have hx : Keeps [Part.regs, .masts, .log, .mem] s x := (by unfold x; (repeat' first | intro _ | (with_reducible first | assumption | exact Keeps.refl _ _ | apply Keeps.ite | apply Keeps.fold | apply State.changeRecord_keeps | apply State.raiseBy_keeps | apply State.showRecord_keeps) | lift_lets -underBinder | split | (clear_value *; split)) <;> first | rfl); clear_value x) | skip)
    | (with_reducible first | assumption | exact Keeps.refl _ _ | apply Keeps.ite | apply Keeps.fold | apply State.changeRecord_keeps | apply State.raiseBy_keeps | apply State.showRecord_keeps)
    | lift_lets -underBinder
    | split
    | (clear_value *; split)
  all_goals first | rfl

theorem State.inhibit_keeps {l : List Part} {s0 s : State} (a1 : Fld)
    (hk : within [Part.regs] l = true) (g : Keeps l s0 s) : Keeps l s0 (State.inhibit s a1) := by
  refine Keeps.next (k := [Part.regs]) (s := s) ?_ hk g
  clear hk g s0 l
  delta State.inhibit
  try beta_reduce
  repeat' first
    | intro _
    | (with_reducible first | assumption | exact Keeps.refl _ _ | apply Keeps.ite | apply Keeps.fold | apply State.putF_keeps)
    | split
    | (clear_value *; split)
  all_goals first | rfl

theorem State.bootFormat_keeps {l : List Part} {s0 s : State} (a1 : Sys2Proof.KeyRead) (a2 : Nat)
    (hk : within [Part.regs, .log] l = true) (g : Keeps l s0 s) : Keeps l s0 (State.bootFormat s a1 a2) := by
  refine Keeps.next (k := [Part.regs, .log]) (s := s) ?_ hk g
  clear hk g s0 l
  delta State.bootFormat
  try beta_reduce
  try lift_lets -underBinder
  repeat' first
    | (intro x; first | (have hx : Keeps [Part.regs, .log] s x := (by unfold x; (repeat' first | intro _ | (with_reducible first | assumption | exact Keeps.refl _ _ | apply Keeps.ite | apply Keeps.fold | apply State.raise_keeps | apply State.inhibit_keeps | apply State.putF_keeps) | lift_lets -underBinder | split | (clear_value *; split)) <;> first | rfl); clear_value x) | skip)
    | (with_reducible first | assumption | exact Keeps.refl _ _ | apply Keeps.ite | apply Keeps.fold | apply State.raise_keeps | apply State.inhibit_keeps | apply State.putF_keeps)
    | lift_lets -underBinder
    | split
    | (clear_value *; split)
  all_goals first | rfl

theorem State.bootChecks_keeps {l : List Part} {s0 s : State} (a1 : Option Sys2Proof.KeyRead) (a2 : Nat)
    (hk : within [Part.now, .regs, .log, .time] l = true) (g : Keeps l s0 s) : Keeps l s0 (State.bootChecks s a1 a2) := by
  refine Keeps.next (k := [Part.now, .regs, .log, .time]) (s := s) ?_ hk g
  clear hk g s0 l
  delta State.bootChecks
  try beta_reduce
  repeat' first
    | intro _
    | (with_reducible first | assumption | exact Keeps.refl _ _ | apply Keeps.ite | apply Keeps.fold | apply State.during_keeps | apply State.bootFormat_keeps)
    | split
    | (clear_value *; split)
  all_goals first | rfl

theorem State.bootMinority_keeps {l : List Part} {s0 s : State} (a1 : List Sys2Proof.Mast)
    (hk : within [Part.regs, .masts, .log, .lane, .field] l = true) (g : Keeps l s0 s) : Keeps l s0 (State.bootMinority s a1) := by
  refine Keeps.next (k := [Part.regs, .masts, .log, .lane, .field]) (s := s) ?_ hk g
  clear hk g s0 l
  delta State.bootMinority
  try beta_reduce
  repeat' first
    | intro _
    | (with_reducible first | assumption | exact Keeps.refl _ _ | apply Keeps.ite | apply Keeps.fold | apply State.bootIsolate_keeps)
    | split
    | (clear_value *; split)
  all_goals first | rfl

theorem State.placeImage_keeps {l : List Part} {s0 s : State} (a1 : Mast) (a2 : List Byte)
    (hk : within [Part.masts, .mem] l = true) (g : Keeps l s0 s) : Keeps l s0 (State.placeImage s a1 a2) :=
  Keeps.setMem a1 _ (fun h => foldl_keeps (fun y : Memory => y.wf = true) _ (fun y x hy => Memory.wf_markValid _ _ hy) _ _
    (Memory.wf_writeBytes _ _ _ (h.2 a1))) hk g

theorem State.acceptKey_keeps {l : List Part} {s0 s : State} (a1 : Sys2Proof.KeyRead) (a2 : List Sys2Proof.Mast)
    (hk : within [Part.regs, .masts, .log, .key, .mem] l = true) (g : Keeps l s0 s) : Keeps l s0 (State.acceptKey s a1 a2) := by
  refine Keeps.next (k := [Part.regs, .masts, .log, .key, .mem]) (s := s) ?_ hk g
  clear hk g s0 l
  delta State.acceptKey
  try beta_reduce
  try lift_lets -underBinder
  repeat' first
    | (intro x; first | (have hx : Keeps [Part.regs, .masts, .log, .key, .mem] s x := (by unfold x; (repeat' first | intro _ | (with_reducible first | assumption | exact Keeps.refl _ _ | apply Keeps.ite | apply Keeps.fold | apply State.putF_keeps | apply State.placeImage_keeps | apply State.raise_keeps) | lift_lets -underBinder | split | (clear_value *; split) | (with_reducible apply Keeps.upd_key)) <;> first | rfl); clear_value x) | skip)
    | (with_reducible first | assumption | exact Keeps.refl _ _ | apply Keeps.ite | apply Keeps.fold | apply State.putF_keeps | apply State.placeImage_keeps | apply State.raise_keeps)
    | lift_lets -underBinder
    | split
    | (clear_value *; split)
    | (with_reducible apply Keeps.upd_key)
  all_goals first | rfl

theorem State.bootKey_keeps {l : List Part} {s0 s : State} (a1 : Sys2Proof.BootEnv)
    (hk : within [Part.regs, .masts, .log, .key, .lane, .field, .mem] l = true) (g : Keeps l s0 s) : Keeps l s0 (State.bootKey s a1) := by
  refine Keeps.next (k := [Part.regs, .masts, .log, .key, .lane, .field, .mem]) (s := s) ?_ hk g
  clear hk g s0 l
  delta State.bootKey
  try beta_reduce
  try lift_lets -underBinder
  repeat' first
    | (intro x; first | (have hx : Keeps [Part.regs, .masts, .log, .key, .lane, .field, .mem] s x := (by unfold x; (repeat' first | intro _ | (with_reducible first | assumption | exact Keeps.refl _ _ | apply Keeps.ite | apply Keeps.fold | apply State.putF_keeps | apply State.raise_keeps | apply State.inhibit_keeps | apply State.bootMinority_keeps | apply State.acceptKey_keeps) | lift_lets -underBinder | split | (clear_value *; split) | (with_reducible apply Keeps.upd_key)) <;> first | rfl); clear_value x) | skip)
    | (with_reducible first | assumption | exact Keeps.refl _ _ | apply Keeps.ite | apply Keeps.fold | apply State.putF_keeps | apply State.raise_keeps | apply State.inhibit_keeps | apply State.bootMinority_keeps | apply State.acceptKey_keeps)
    | lift_lets -underBinder
    | split
    | (clear_value *; split)
    | (with_reducible apply Keeps.upd_key)
  all_goals first | rfl

theorem State.enterRecovery_keeps {l : List Part} {s0 s : State}
    (hk : within [Part.regs, .writes, .ctl, .masts, .log, .key, .lane, .intake, .fb, .app, .queue, .bridge, .stay, .net, .sup, .field, .upd, .mon, .mem] l = true) (g : Keeps l s0 s) : Keeps l s0 (State.enterRecovery s) := by
  refine Keeps.next (k := [Part.regs, .writes, .ctl, .masts, .log, .key, .lane, .intake, .fb, .app, .queue, .bridge, .stay, .net, .sup, .field, .upd, .mon, .mem]) (s := s) ?_ hk g
  clear hk g s0 l
  delta State.enterRecovery
  try beta_reduce
  repeat' first
    | intro _
    | (with_reducible first | assumption | exact Keeps.refl _ _ | apply Keeps.ite | apply Keeps.fold | apply State.changeMode_keeps)
    | split
    | (clear_value *; split)
  all_goals first | rfl

theorem State.bootFirmware_keeps {l : List Part} {s0 s : State}
    (hk : within [Part.regs, .writes, .ctl, .masts, .log, .key, .lane, .intake, .fb, .app, .queue, .bridge, .stay, .net, .sup, .field, .upd, .mon, .mem] l = true) (g : Keeps l s0 s) : Keeps l s0 (State.bootFirmware s) := by
  refine Keeps.next (k := [Part.regs, .writes, .ctl, .masts, .log, .key, .lane, .intake, .fb, .app, .queue, .bridge, .stay, .net, .sup, .field, .upd, .mon, .mem]) (s := s) ?_ hk g
  clear hk g s0 l
  delta State.bootFirmware
  try beta_reduce
  try lift_lets -underBinder
  repeat' first
    | (intro x; first | (have hx : Keeps [Part.regs, .writes, .ctl, .masts, .log, .key, .lane, .intake, .fb, .app, .queue, .bridge, .stay, .net, .sup, .field, .upd, .mon, .mem] s x := (by unfold x; (repeat' first | intro _ | (with_reducible first | assumption | exact Keeps.refl _ _ | apply Keeps.ite | apply Keeps.fold | apply State.bootMinority_keeps | apply State.putF_keeps | apply State.raise_keeps | apply State.enterRecovery_keeps) | lift_lets -underBinder | split | (clear_value *; split) | (with_reducible apply Keeps.upd_ctl)) <;> first | rfl); clear_value x) | skip)
    | (with_reducible first | assumption | exact Keeps.refl _ _ | apply Keeps.ite | apply Keeps.fold | apply State.bootMinority_keeps | apply State.putF_keeps | apply State.raise_keeps | apply State.enterRecovery_keeps)
    | lift_lets -underBinder
    | split
    | (clear_value *; split)
    | (with_reducible apply Keeps.upd_ctl)
  all_goals first | rfl

theorem State.showVersions_keeps {l : List Part} {s0 s : State}
    (hk : within [Part.regs] l = true) (g : Keeps l s0 s) : Keeps l s0 (State.showVersions s) := by
  refine Keeps.next (k := [Part.regs]) (s := s) ?_ hk g
  clear hk g s0 l
  delta State.showVersions
  try beta_reduce
  try lift_lets -underBinder
  repeat' first
    | (intro x; first | (have hx : Keeps [Part.regs] s x := (by unfold x; (repeat' first | intro _ | (with_reducible first | assumption | exact Keeps.refl _ _ | apply Keeps.ite | apply Keeps.fold | apply State.putF_keeps) | lift_lets -underBinder | split | (clear_value *; split)) <;> first | rfl); clear_value x) | skip)
    | (with_reducible first | assumption | exact Keeps.refl _ _ | apply Keeps.ite | apply Keeps.fold | apply State.putF_keeps)
    | lift_lets -underBinder
    | split
    | (clear_value *; split)
  all_goals first | rfl

theorem State.takeApp_keeps {l : List Part} {s0 s : State} (a1 : AppDescriptor) (a2 : Sys2Proof.BootEnv)
    (hk : within [Part.regs, .app] l = true) (g : Keeps l s0 s) : Keeps l s0 (State.takeApp s a1 a2) := by
  refine Keeps.next (k := [Part.regs, .app]) (s := s) ?_ hk g
  clear hk g s0 l
  delta State.takeApp
  try beta_reduce
  try lift_lets -underBinder
  repeat' first
    | (intro x; first | (have hx : Keeps [Part.regs, .app] s x := (by unfold x; (repeat' first | intro _ | (with_reducible first | assumption | exact Keeps.refl _ _ | apply Keeps.ite | apply Keeps.fold | apply State.putF_keeps | apply State.setRun_keeps) | lift_lets -underBinder | split | (clear_value *; split) | (with_reducible apply Keeps.upd_app)) <;> first | rfl); clear_value x) | skip)
    | (with_reducible first | assumption | exact Keeps.refl _ _ | apply Keeps.ite | apply Keeps.fold | apply State.putF_keeps | apply State.setRun_keeps)
    | lift_lets -underBinder
    | split
    | (clear_value *; split)
    | (with_reducible apply Keeps.upd_app)
  all_goals first | rfl

theorem State.bootApplication_keeps {l : List Part} {s0 s : State} (a1 : Sys2Proof.BootEnv)
    (hk : within [Part.regs, .masts, .log, .lane, .app, .field] l = true) (g : Keeps l s0 s) : Keeps l s0 (State.bootApplication s a1) := by
  refine Keeps.next (k := [Part.regs, .masts, .log, .lane, .app, .field]) (s := s) ?_ hk g
  clear hk g s0 l
  delta State.bootApplication
  try beta_reduce
  try lift_lets -underBinder
  repeat' first
    | (intro x; first | (have hx : Keeps [Part.regs, .masts, .log, .lane, .app, .field] s x := (by unfold x; (repeat' first | intro _ | (with_reducible first | assumption | exact Keeps.refl _ _ | apply Keeps.ite | apply Keeps.fold | apply State.inhibit_keeps | apply State.bootMinority_keeps | apply State.putF_keeps | apply State.raise_keeps | apply State.takeApp_keeps) | lift_lets -underBinder | split | (clear_value *; split) | (with_reducible apply Keeps.upd_app)) <;> first | rfl); clear_value x) | skip)
    | (with_reducible first | assumption | exact Keeps.refl _ _ | apply Keeps.ite | apply Keeps.fold | apply State.inhibit_keeps | apply State.bootMinority_keeps | apply State.putF_keeps | apply State.raise_keeps | apply State.takeApp_keeps)
    | lift_lets -underBinder
    | split
    | (clear_value *; split)
    | (with_reducible apply Keeps.upd_app)
  all_goals first | rfl

theorem State.loadWord_keeps {l : List Part} {s0 s : State} (a1 : Nat) (a2 : Sys2Proof.Word)
    (hk : within [Part.regs] l = true) (g : Keeps l s0 s) : Keeps l s0 (State.loadWord s a1 a2) := by
  refine Keeps.next (k := [Part.regs]) (s := s) ?_ hk g
  clear hk g s0 l
  delta State.loadWord
  try beta_reduce
  repeat' first
    | intro _
    | (with_reducible first | assumption | exact Keeps.refl _ _ | apply Keeps.ite | apply Keeps.fold | apply State.setReg_keeps)
    | split
    | (clear_value *; split)
  all_goals first | rfl

theorem State.bootSettings_keeps {l : List Part} {s0 s : State} (a1 : SettingsFinding)
    (hk : within [Part.regs, .masts, .log, .mem] l = true) (g : Keeps l s0 s) : Keeps l s0 (State.bootSettings s a1) := by
  refine Keeps.next (k := [Part.regs, .masts, .log, .mem]) (s := s) ?_ hk g
  have hw : ∀ (v : List Mast) (t : State), Keeps [Part.regs, .masts, .log, .mem] s t → Keeps [Part.regs, .masts, .log, .mem] s
      (v.foldl (fun s x => s.setMem x ((s.mast x).mem.writeStore a1.store)) t) := fun v t h =>
    Keeps.fold (fun s x h => Keeps.setMem _ _ (fun c => Memory.wf_writeStore _ _ (c.2 x)) rfl h) h
  unfold State.bootSettings
  split
  · exact Keeps.refl _ _
  · lift_lets -underBinder
    intro mem image found s1 own
    have h1 : Keeps [Part.regs, .masts, .log, .mem] s s1 :=
      State.putF_keeps _ _ _ rfl (State.putF_keeps _ _ _ rfl (Keeps.refl _ _))
    clear_value s1
    intro sa sb s2
    have h2 : Keeps [Part.regs, .masts, .log, .mem] s s2 := by
      refine Keeps.ite h1 (Keeps.fold (fun s x h => State.raise_keeps _ _ _ rfl h) (State.raise_keeps _ _ _ rfl ?_))
      exact hw _ _ (State.putF_keeps _ _ _ rfl (State.putF_keeps _ _ _ rfl h1))
    clear_value s2
    intro s3
    have h3 : Keeps [Part.regs, .masts, .log, .mem] s s3 := by
      unfold s3
      split
      · exact h2
      · split
        · exact State.raise_keeps _ _ _ rfl (Keeps.setMem _ _ (fun c => Memory.wf_takeRange _ _ _ _ (c.2 _)) rfl h2)
        · exact h2
    clear_value s3
    intro sc s4
    have h4 : Keeps [Part.regs, .masts, .log, .mem] s s4 := Keeps.ite (State.raise_keeps _ _ _ rfl (hw _ _ h3)) h3
    clear_value s4
    exact Keeps.fold (fun s x h => State.loadWord_keeps _ _ rfl h) h4

theorem State.badSection_keeps {l : List Part} {s0 s : State} (a1 : Nat) (a2 : Nat) (a3 : Nat)
    (hk : within [Part.regs, .log] l = true) (g : Keeps l s0 s) : Keeps l s0 (State.badSection s a1 a2 a3) := by
  refine Keeps.next (k := [Part.regs, .log]) (s := s) ?_ hk g
  clear hk g s0 l
  delta State.badSection
  try beta_reduce
  repeat' first
    | intro _
    | (with_reducible first | assumption | exact Keeps.refl _ _ | apply Keeps.ite | apply Keeps.fold | apply State.inhibit_keeps | apply State.raise_keeps)
    | split
    | (clear_value *; split)
  all_goals first | rfl

theorem State.loadSection_keeps {l : List Part} {s0 s : State} (typ ev : Nat) (check : List Byte → Finding)
    (load : State → List Byte → State) (hk : within [Part.regs, .log] l = true) (hl : ∀ s b, Keeps l s0 s → Keeps l s0 (load s b))
    (g : Keeps l s0 s) : Keeps l s0 (State.loadSection s typ ev check load) := by
  unfold State.loadSection
  split
  · exact g
  · split
    · exact State.badSection_keeps _ _ _ hk g
    · exact hl _ _ g

theorem State.timeLoad_keeps {l : List Part} {s0 s : State} (a1 : List Sys2Proof.Byte)
    (hk : within [Part.regs, .time] l = true) (g : Keeps l s0 s) : Keeps l s0 (State.timeLoad s a1) := by
  refine Keeps.next (k := [Part.regs, .time]) (s := s) ?_ hk g
  clear hk g s0 l
  delta State.timeLoad
  try beta_reduce
  try lift_lets -underBinder
  repeat' first
    | (intro x; first | (have hx : Keeps [Part.regs, .time] s x := (by unfold x; (repeat' first | intro _ | (with_reducible first | assumption | exact Keeps.refl _ _ | apply Keeps.ite | apply Keeps.fold | apply State.putF_keeps) | lift_lets -underBinder | split | (clear_value *; split) | (with_reducible apply Keeps.upd_time)) <;> first | rfl); clear_value x) | skip)
    | (with_reducible first | assumption | exact Keeps.refl _ _ | apply Keeps.ite | apply Keeps.fold | apply State.putF_keeps)
    | lift_lets -underBinder
    | split
    | (clear_value *; split)
    | (with_reducible apply Keeps.upd_time)
  all_goals first | rfl

theorem State.netLoad_keeps {l : List Part} {s0 s : State} (a1 : NetPart)
    (hk : within [Part.regs, .net] l = true) (g : Keeps l s0 s) : Keeps l s0 (State.netLoad s a1) := by
  refine Keeps.next (k := [Part.regs, .net]) (s := s) ?_ hk g
  clear hk g s0 l
  delta State.netLoad
  try beta_reduce
  try lift_lets -underBinder
  repeat' first
    | (intro x; first | (have hx : Keeps [Part.regs, .net] s x := (by unfold x; (repeat' first | intro _ | (with_reducible first | assumption | exact Keeps.refl _ _ | apply Keeps.ite | apply Keeps.fold | apply State.putF_keeps) | lift_lets -underBinder | split | (clear_value *; split) | (with_reducible apply Keeps.upd_net)) <;> first | rfl); clear_value x) | skip)
    | (with_reducible first | assumption | exact Keeps.refl _ _ | apply Keeps.ite | apply Keeps.fold | apply State.putF_keeps)
    | lift_lets -underBinder
    | split
    | (clear_value *; split)
    | (with_reducible apply Keeps.upd_net)
  all_goals first | rfl

theorem State.showNodes_keeps {l : List Part} {s0 s : State} (a1 : Nat)
    (hk : within [Part.regs] l = true) (g : Keeps l s0 s) : Keeps l s0 (State.showNodes s a1) := by
  refine Keeps.next (k := [Part.regs]) (s := s) ?_ hk g
  clear hk g s0 l
  delta State.showNodes
  try beta_reduce
  try lift_lets -underBinder
  repeat' first
    | (intro x; first | (have hx : Keeps [Part.regs] s x := (by unfold x; (repeat' first | intro _ | (with_reducible first | assumption | exact Keeps.refl _ _ | apply Keeps.ite | apply Keeps.fold | apply State.setReg_keeps | apply State.putF_keeps) | lift_lets -underBinder | split | (clear_value *; split)) <;> first | rfl); clear_value x) | skip)
    | (with_reducible first | assumption | exact Keeps.refl _ _ | apply Keeps.ite | apply Keeps.fold | apply State.setReg_keeps | apply State.putF_keeps)
    | lift_lets -underBinder
    | split
    | (clear_value *; split)
  all_goals first | rfl

theorem State.fbLoad_keeps {l : List Part} {s0 s : State} (a1 : Nat) (a2 : FbSchedule)
    (hk : within [Part.regs, .fb] l = true) (g : Keeps l s0 s) : Keeps l s0 (State.fbLoad s a1 a2) := by
  refine Keeps.next (k := [Part.regs, .fb]) (s := s) ?_ hk g
  clear hk g s0 l
  delta State.fbLoad
  try beta_reduce
  try lift_lets -underBinder
  repeat' first
    | (intro x; first | (have hx : Keeps [Part.regs, .fb] s x := (by unfold x; (repeat' first | intro _ | (with_reducible first | assumption | exact Keeps.refl _ _ | apply Keeps.ite | apply Keeps.fold | apply State.setBus_keeps | apply State.putF_keeps | apply State.showNodes_keeps) | lift_lets -underBinder | split | (clear_value *; split)) <;> first | rfl); clear_value x) | skip)
    | (with_reducible first | assumption | exact Keeps.refl _ _ | apply Keeps.ite | apply Keeps.fold | apply State.setBus_keeps | apply State.putF_keeps | apply State.showNodes_keeps)
    | lift_lets -underBinder
    | split
    | (clear_value *; split)
  all_goals first | rfl

theorem State.loadBus_keeps {l : List Part} {s0 s : State} (a1 : Nat) (a2 : Nat)
    (hk : within [Part.regs, .log, .fb] l = true) (g : Keeps l s0 s) : Keeps l s0 (State.loadBus s a1 a2) := by
  refine Keeps.next (k := [Part.regs, .log, .fb]) (s := s) ?_ hk g
  clear hk g s0 l
  delta State.loadBus
  try beta_reduce
  repeat' first
    | intro _
    | (with_reducible first | assumption | exact Keeps.refl _ _ | apply Keeps.ite | apply Keeps.fold | apply State.badSection_keeps | apply State.fbLoad_keeps)
    | split
    | (clear_value *; split)
  all_goals first | rfl

theorem State.bridgeLoad_keeps {l : List Part} {s0 s : State} (a1 : List Sys2Proof.Byte)
    (hk : within [Part.regs, .bridge] l = true) (g : Keeps l s0 s) : Keeps l s0 (State.bridgeLoad s a1) := by
  refine Keeps.next (k := [Part.regs, .bridge]) (s := s) ?_ hk g
  clear hk g s0 l
  delta State.bridgeLoad
  try beta_reduce
  try lift_lets -underBinder
  repeat' first
    | (intro x; first | (have hx : Keeps [Part.regs, .bridge] s x := (by unfold x; (repeat' first | intro _ | (with_reducible first | assumption | exact Keeps.refl _ _ | apply Keeps.ite | apply Keeps.fold | apply State.putF_keeps) | lift_lets -underBinder | split | (clear_value *; split) | (with_reducible apply Keeps.upd_bridge)) <;> first | rfl); clear_value x) | skip)
    | (with_reducible first | assumption | exact Keeps.refl _ _ | apply Keeps.ite | apply Keeps.fold | apply State.putF_keeps)
    | lift_lets -underBinder
    | split
    | (clear_value *; split)
    | (with_reducible apply Keeps.upd_bridge)
  all_goals first | rfl

theorem State.slLoad_keeps {l : List Part} {s0 s : State} (a1 : List Sys2Proof.Byte)
    (hk : within [Part.regs, .stay] l = true) (g : Keeps l s0 s) : Keeps l s0 (State.slLoad s a1) := by
  refine Keeps.next (k := [Part.regs, .stay]) (s := s) ?_ hk g
  clear hk g s0 l
  delta State.slLoad
  try beta_reduce
  try lift_lets -underBinder
  repeat' first
    | (intro x; first | (have hx : Keeps [Part.regs, .stay] s x := (by unfold x; (repeat' first | intro _ | (with_reducible first | assumption | exact Keeps.refl _ _ | apply Keeps.ite | apply Keeps.fold | apply State.putF_keeps) | lift_lets -underBinder | split | (clear_value *; split) | (with_reducible apply Keeps.upd_stay)) <;> first | rfl); clear_value x) | skip)
    | (with_reducible first | assumption | exact Keeps.refl _ _ | apply Keeps.ite | apply Keeps.fold | apply State.putF_keeps)
    | lift_lets -underBinder
    | split
    | (clear_value *; split)
    | (with_reducible apply Keeps.upd_stay)
  all_goals first | rfl

theorem State.loadBinding_keeps {l : List Part} {s0 s : State}
    (hk : within [Part.regs, .log] l = true) (g : Keeps l s0 s) : Keeps l s0 (State.loadBinding s) := by
  refine Keeps.next (k := [Part.regs, .log]) (s := s) ?_ hk g
  clear hk g s0 l
  delta State.loadBinding
  try beta_reduce
  try lift_lets -underBinder
  repeat' first
    | (intro x; first | (have hx : Keeps [Part.regs, .log] s x := (by unfold x; (repeat' first | intro _ | (with_reducible first | assumption | exact Keeps.refl _ _ | apply Keeps.ite | apply Keeps.fold | apply State.inhibit_keeps | apply State.raise_keeps) | lift_lets -underBinder | split | (clear_value *; split)) <;> first | rfl); clear_value x) | skip)
    | (with_reducible first | assumption | exact Keeps.refl _ _ | apply Keeps.ite | apply Keeps.fold | apply State.inhibit_keeps | apply State.raise_keeps)
    | lift_lets -underBinder
    | split
    | (clear_value *; split)
  all_goals first | rfl

theorem State.loadControl_keeps {l : List Part} {s0 s : State}
    (hk : within [Part.regs, .stay, .panel] l = true) (g : Keeps l s0 s) : Keeps l s0 (State.loadControl s) := by
  refine Keeps.next (k := [Part.regs, .stay, .panel]) (s := s) ?_ hk g
  clear hk g s0 l
  delta State.loadControl
  try beta_reduce
  try lift_lets -underBinder
  repeat' first
    | (intro x; first | (have hx : Keeps [Part.regs, .stay, .panel] s x := (by unfold x; (repeat' first | intro _ | (with_reducible first | assumption | exact Keeps.refl _ _ | apply Keeps.ite | apply Keeps.fold | apply State.putF_keeps) | lift_lets -underBinder | split | (clear_value *; split) | (with_reducible apply Keeps.upd_stay_panel)) <;> first | rfl); clear_value x) | skip)
    | (with_reducible first | assumption | exact Keeps.refl _ _ | apply Keeps.ite | apply Keeps.fold | apply State.putF_keeps)
    | lift_lets -underBinder
    | split
    | (clear_value *; split)
    | (with_reducible apply Keeps.upd_stay_panel)
  all_goals first | rfl

theorem State.fieldLoad_keeps {l : List Part} {s0 s : State} (a1 : List Sys2Proof.Byte)
    (hk : within [Part.regs, .field] l = true) (g : Keeps l s0 s) : Keeps l s0 (State.fieldLoad s a1) := by
  refine Keeps.next (k := [Part.regs, .field]) (s := s) ?_ hk g
  clear hk g s0 l
  delta State.fieldLoad
  try beta_reduce
  try lift_lets -underBinder
  repeat' first
    | (intro x; first | (have hx : Keeps [Part.regs, .field] s x := (by unfold x; (repeat' first | intro _ | (with_reducible first | assumption | exact Keeps.refl _ _ | apply Keeps.ite | apply Keeps.fold | apply State.putF_keeps) | lift_lets -underBinder | split | (clear_value *; split) | (with_reducible apply Keeps.upd_field)) <;> first | rfl); clear_value x) | skip)
    | (with_reducible first | assumption | exact Keeps.refl _ _ | apply Keeps.ite | apply Keeps.fold | apply State.putF_keeps)
    | lift_lets -underBinder
    | split
    | (clear_value *; split)
    | (with_reducible apply Keeps.upd_field)
  all_goals first | rfl

theorem State.setSp_keeps {l : List Part} {s0 s : State} (a1 : Sys2Proof.Mast) (a2 : SpMast)
    (hk : within [Part.sup] l = true) (g : Keeps l s0 s) : Keeps l s0 (State.setSp s a1 a2) := by
  refine Keeps.next (k := [Part.sup]) (s := s) ?_ hk g
  clear hk g s0 l
  delta State.setSp
  try beta_reduce
  try lift_lets -underBinder
  repeat' first
    | (intro x; first | (have hx : Keeps [Part.sup] s x := (by unfold x; (repeat' first | intro _ | (with_reducible first | assumption | exact Keeps.refl _ _ | apply Keeps.ite | apply Keeps.fold) | lift_lets -underBinder | split | (clear_value *; split) | (with_reducible apply Keeps.upd_sup)) <;> first | rfl); clear_value x) | skip)
    | (with_reducible first | assumption | exact Keeps.refl _ _ | apply Keeps.ite | apply Keeps.fold)
    | lift_lets -underBinder
    | split
    | (clear_value *; split)
    | (with_reducible apply Keeps.upd_sup)
  all_goals first | rfl

theorem State.spActivate_keeps {l : List Part} {s0 s : State} (a1 : Sys2Proof.Mast)
    (hk : within [Part.regs, .log, .sup] l = true) (g : Keeps l s0 s) : Keeps l s0 (State.spActivate s a1) := by
  refine Keeps.next (k := [Part.regs, .log, .sup]) (s := s) ?_ hk g
  clear hk g s0 l
  delta State.spActivate
  try beta_reduce
  try lift_lets -underBinder
  repeat' first
    | (intro x; first | (have hx : Keeps [Part.regs, .log, .sup] s x := (by unfold x; (repeat' first | intro _ | (with_reducible first | assumption | exact Keeps.refl _ _ | apply Keeps.ite | apply Keeps.fold | apply State.setSp_keeps | apply State.showForce_keeps | apply State.raiseM_keeps) | lift_lets -underBinder | split | (clear_value *; split)) <;> first | rfl); clear_value x) | skip)
    | (with_reducible first | assumption | exact Keeps.refl _ _ | apply Keeps.ite | apply Keeps.fold | apply State.setSp_keeps | apply State.showForce_keeps | apply State.raiseM_keeps)
    | lift_lets -underBinder
    | split
    | (clear_value *; split)
  all_goals first | rfl

theorem State.safetyLoad_keeps {l : List Part} {s0 s : State} (a1 : List Sys2Proof.Byte) (a2 : List Sys2Proof.Mast)
    (hk : within [Part.regs, .log, .sup] l = true) (g : Keeps l s0 s) : Keeps l s0 (State.safetyLoad s a1 a2) := by
  refine Keeps.next (k := [Part.regs, .log, .sup]) (s := s) ?_ hk g
  clear hk g s0 l
  delta State.safetyLoad
  try beta_reduce
  try lift_lets -underBinder
  repeat' first
    | (intro x; first | (have hx : Keeps [Part.regs, .log, .sup] s x := (by unfold x; (repeat' first | intro _ | (with_reducible first | assumption | exact Keeps.refl _ _ | apply Keeps.ite | apply Keeps.fold | apply State.putF_keeps | apply State.spActivate_keeps | apply State.raise_keeps) | lift_lets -underBinder | split | (clear_value *; split) | (with_reducible apply Keeps.upd_sup)) <;> first | rfl); clear_value x) | skip)
    | (with_reducible first | assumption | exact Keeps.refl _ _ | apply Keeps.ite | apply Keeps.fold | apply State.putF_keeps | apply State.spActivate_keeps | apply State.raise_keeps)
    | lift_lets -underBinder
    | split
    | (clear_value *; split)
    | (with_reducible apply Keeps.upd_sup)
  all_goals first | rfl

theorem State.loadSafety_keeps {l : List Part} {s0 s : State}
    (hk : within [Part.regs, .log, .sup, .field] l = true) (g : Keeps l s0 s) : Keeps l s0 (State.loadSafety s) := by
  refine Keeps.next (k := [Part.regs, .log, .sup, .field]) (s := s) ?_ hk g
  clear hk g s0 l
  delta State.loadSafety
  try beta_reduce
  try lift_lets -underBinder
  repeat' first
    | (intro x; first | (have hx : Keeps [Part.regs, .log, .sup, .field] s x := (by unfold x; (repeat' first | intro _ | (with_reducible first | assumption | exact Keeps.refl _ _ | apply Keeps.ite | apply Keeps.fold | apply State.putF_keeps | apply State.badSection_keeps | apply State.fieldLoad_keeps | apply State.inhibit_keeps | apply State.raise_keeps | apply State.safetyLoad_keeps) | lift_lets -underBinder | split | (clear_value *; split)) <;> first | rfl); clear_value x) | skip)
    | (with_reducible first | assumption | exact Keeps.refl _ _ | apply Keeps.ite | apply Keeps.fold | apply State.putF_keeps | apply State.badSection_keeps | apply State.fieldLoad_keeps | apply State.inhibit_keeps | apply State.raise_keeps | apply State.safetyLoad_keeps)
    | lift_lets -underBinder
    | split
    | (clear_value *; split)
  all_goals first | rfl

theorem State.bootConfig_keeps {l : List Part} {s0 s : State}
    (hk : within [Part.regs, .log, .time, .fb, .bridge, .stay, .net, .sup, .field, .panel] l = true) (g : Keeps l s0 s) : Keeps l s0 (State.bootConfig s) := by
  refine Keeps.next (k := [Part.regs, .log, .time, .fb, .bridge, .stay, .net, .sup, .field, .panel]) (s := s) ?_ hk g
  clear hk g s0 l
  delta State.bootConfig
  try beta_reduce
  try lift_lets -underBinder
  repeat' first
    | (intro x; first | (have hx : Keeps [Part.regs, .log, .time, .fb, .bridge, .stay, .net, .sup, .field, .panel] s x := (by unfold x; (repeat' first | intro _ | (with_reducible first | assumption | exact Keeps.refl _ _ | apply Keeps.ite | apply Keeps.fold | apply State.loadSection_keeps | apply State.timeLoad_keeps | apply State.netLoad_keeps | apply State.loadBus_keeps | apply State.putF_keeps | apply State.bridgeLoad_keeps | apply State.slLoad_keeps | apply State.loadBinding_keeps | apply State.loadControl_keeps | apply State.loadSafety_keeps) | lift_lets -underBinder | split | (clear_value *; split)) <;> first | rfl); clear_value x) | skip)
    | (with_reducible first | assumption | exact Keeps.refl _ _ | apply Keeps.ite | apply Keeps.fold | apply State.loadSection_keeps | apply State.timeLoad_keeps | apply State.netLoad_keeps | apply State.loadBus_keeps | apply State.putF_keeps | apply State.bridgeLoad_keeps | apply State.slLoad_keeps | apply State.loadBinding_keeps | apply State.loadControl_keeps | apply State.loadSafety_keeps)
    | lift_lets -underBinder
    | split
    | (clear_value *; split)
  all_goals first | rfl

theorem State.firstBeats_keeps {l : List Part} {s0 s : State} (a1 : Nat)
    (hk : within [Part.regs, .lane] l = true) (g : Keeps l s0 s) : Keeps l s0 (State.firstBeats s a1) := by
  refine Keeps.next (k := [Part.regs, .lane]) (s := s) ?_ hk g
  clear hk g s0 l
  delta State.firstBeats
  try beta_reduce
  try lift_lets -underBinder
  repeat' first
    | (intro x; first | (have hx : Keeps [Part.regs, .lane] s x := (by unfold x; (repeat' first | intro _ | (with_reducible first | assumption | exact Keeps.refl _ _ | apply Keeps.ite | apply Keeps.fold | apply State.startBeats_keeps) | lift_lets -underBinder | split | (clear_value *; split)) <;> first | rfl); clear_value x) | skip)
    | (with_reducible first | assumption | exact Keeps.refl _ _ | apply Keeps.ite | apply Keeps.fold | apply State.startBeats_keeps)
    | lift_lets -underBinder
    | split
    | (clear_value *; split)
  all_goals first | rfl

theorem State.firstOwners_keeps {l : List Part} {s0 s : State}
    (hk : within [Part.regs, .lane] l = true) (g : Keeps l s0 s) : Keeps l s0 (State.firstOwners s) := by
  refine Keeps.next (k := [Part.regs, .lane]) (s := s) ?_ hk g
  clear hk g s0 l
  delta State.firstOwners
  try beta_reduce
  repeat' first
    | intro _
    | (with_reducible first | assumption | exact Keeps.refl _ _ | apply Keeps.ite | apply Keeps.fold | apply State.showOwners_keeps | apply State.setUnit_keeps)
    | split
    | (clear_value *; split)
  all_goals first | rfl

theorem State.bootLane_keeps {l : List Part} {s0 s : State} (a1 : Sys2Proof.BootEnv)
    (hk : within [Part.regs, .lane, .pos, .panel] l = true) (g : Keeps l s0 s) : Keeps l s0 (State.bootLane s a1) := by
  refine Keeps.next (k := [Part.regs, .lane, .pos, .panel]) (s := s) ?_ hk g
  clear hk g s0 l
  delta State.bootLane
  try beta_reduce
  try lift_lets -underBinder
  repeat' first
    | (intro x; first | (have hx : Keeps [Part.regs, .lane, .pos, .panel] s x := (by unfold x; (repeat' first | intro _ | (with_reducible first | assumption | exact Keeps.refl _ _ | apply Keeps.ite | apply Keeps.fold | apply State.firstBeats_keeps | apply State.firstOwners_keeps) | lift_lets -underBinder | split | (clear_value *; split) | (with_reducible apply Keeps.upd_pos_panel)) <;> first | rfl); clear_value x) | skip)
    | (with_reducible first | assumption | exact Keeps.refl _ _ | apply Keeps.ite | apply Keeps.fold | apply State.firstBeats_keeps | apply State.firstOwners_keeps)
    | lift_lets -underBinder
    | split
    | (clear_value *; split)
    | (with_reducible apply Keeps.upd_pos_panel)
  all_goals first | rfl

theorem State.bootRun_keeps {l : List Part} {s0 s : State} (a1 : Sys2Proof.BootEnv)
    (hk : within [Part.now, .regs, .writes, .ctl, .masts, .log, .key, .lane, .intake, .time, .pos, .fb, .app, .queue, .bridge, .stay, .net, .sup, .field, .upd, .panel, .mon, .free, .mem] l = true) (g : Keeps l s0 s) : Keeps l s0 (State.bootRun s a1) := by
  refine Keeps.next (k := [Part.now, .regs, .writes, .ctl, .masts, .log, .key, .lane, .intake, .time, .pos, .fb, .app, .queue, .bridge, .stay, .net, .sup, .field, .upd, .panel, .mon, .free, .mem]) (s := s) ?_ hk g
  clear hk g s0 l
  delta State.bootRun
  try beta_reduce
  try lift_lets -underBinder
  repeat' first
    | (intro x; first | (have hx : Keeps [Part.now, .regs, .writes, .ctl, .masts, .log, .key, .lane, .intake, .time, .pos, .fb, .app, .queue, .bridge, .stay, .net, .sup, .field, .upd, .panel, .mon, .free, .mem] s x := (by unfold x; (repeat' first | intro _ | (with_reducible first | assumption | exact Keeps.refl _ _ | apply Keeps.ite | apply Keeps.fold | apply State.during_keeps | apply State.bootSilence_keeps | apply State.bootOtp_keeps | apply State.bootSelftests_keeps | apply State.grantToken_keeps | apply State.bootRecords_keeps | apply State.bootChecks_keeps | apply State.bootKey_keeps | apply State.bootFirmware_keeps | apply State.showVersions_keeps | apply State.bootApplication_keeps | apply State.bootSettings_keeps | apply State.bootConfig_keeps | apply State.bootLane_keeps) | lift_lets -underBinder | split | (clear_value *; split)) <;> first | rfl); clear_value x) | skip)
    | (with_reducible first | assumption | exact Keeps.refl _ _ | apply Keeps.ite | apply Keeps.fold | apply State.during_keeps | apply State.bootSilence_keeps | apply State.bootOtp_keeps | apply State.bootSelftests_keeps | apply State.grantToken_keeps | apply State.bootRecords_keeps | apply State.bootChecks_keeps | apply State.bootKey_keeps | apply State.bootFirmware_keeps | apply State.showVersions_keeps | apply State.bootApplication_keeps | apply State.bootSettings_keeps | apply State.bootConfig_keeps | apply State.bootLane_keeps)
    | lift_lets -underBinder
    | split
    | (clear_value *; split)
  all_goals first | rfl

theorem State.upError_keeps {l : List Part} {s0 s : State} (a1 : Nat) (a2 : Nat) (a3 : List Sys2Proof.Mast)
    (hk : within [Part.regs] l = true) (g : Keeps l s0 s) : Keeps l s0 (State.upError s a1 a2 a3) := by
  refine Keeps.next (k := [Part.regs]) (s := s) ?_ hk g
  clear hk g s0 l
  delta State.upError
  try beta_reduce
  try lift_lets -underBinder
  repeat' first
    | (intro x; first | (have hx : Keeps [Part.regs] s x := (by unfold x; (repeat' first | intro _ | (with_reducible first | assumption | exact Keeps.refl _ _ | apply Keeps.ite | apply Keeps.fold | apply State.putF_keeps) | lift_lets -underBinder | split | (clear_value *; split)) <;> first | rfl); clear_value x) | skip)
    | (with_reducible first | assumption | exact Keeps.refl _ _ | apply Keeps.ite | apply Keeps.fold | apply State.putF_keeps)
    | lift_lets -underBinder
    | split
    | (clear_value *; split)
  all_goals first | rfl

theorem State.upBegin_keeps {l : List Part} {s0 s : State} (a1 : Sys2Proof.Mast → List Sys2Proof.Byte)
    (hk : within [Part.regs, .masts, .log, .upd, .mem] l = true) (g : Keeps l s0 s) : Keeps l s0 (State.upBegin s a1) := by
  refine Keeps.next (k := [Part.regs, .masts, .log, .upd, .mem]) (s := s) ?_ hk g
  clear hk g s0 l
  delta State.upBegin
  try beta_reduce
  try lift_lets -underBinder
  repeat' first
    | (intro x; first | (have hx : Keeps [Part.regs, .masts, .log, .upd, .mem] s x := (by unfold x; (repeat' first | intro _ | (with_reducible first | assumption | exact Keeps.refl _ _ | apply Keeps.ite | apply Keeps.fold | apply State.upDone_keeps | apply State.upError_keeps | apply Keeps.setMem | apply State.setSession_keeps | apply State.putF_keeps | apply State.setPhase_keeps | apply State.raise_keeps) | lift_lets -underBinder | split | (clear_value *; split)) <;> first | rfl | (have hh := ‹canonical _›; simp only [Memory.wf_writeBytes, Memory.wf_writeBank, Memory.wf_erase, Memory.wf_markRange, Memory.wf_setErr, Memory.wf_clearSilence, Memory.wf_takeRange, Memory.wf_writeStore, Memory.wf_writeRecord, Memory.wf_putCells, hh.2])); clear_value x) | skip)
    | (with_reducible first | assumption | exact Keeps.refl _ _ | apply Keeps.ite | apply Keeps.fold | apply State.upDone_keeps | apply State.upError_keeps | apply Keeps.setMem | apply State.setSession_keeps | apply State.putF_keeps | apply State.setPhase_keeps | apply State.raise_keeps)
    | lift_lets -underBinder
    | split
    | (clear_value *; split)
  all_goals first | rfl | (have hh := ‹canonical _›; simp only [Memory.wf_writeBytes, Memory.wf_writeBank, Memory.wf_erase, Memory.wf_markRange, Memory.wf_setErr, Memory.wf_clearSilence, Memory.wf_takeRange, Memory.wf_writeStore, Memory.wf_writeRecord, Memory.wf_putCells, hh.2])

theorem State.blockWritten_keeps {l : List Part} {s0 s : State}
    (hk : within [Part.regs, .upd] l = true) (g : Keeps l s0 s) : Keeps l s0 (State.blockWritten s) := by
  refine Keeps.next (k := [Part.regs, .upd]) (s := s) ?_ hk g
  clear hk g s0 l
  delta State.blockWritten
  try beta_reduce
  repeat' first
    | intro _
    | (with_reducible first | assumption | exact Keeps.refl _ _ | apply Keeps.ite | apply Keeps.fold | apply State.setSession_keeps)
    | split
    | (clear_value *; split)
  all_goals first | rfl

theorem State.upWrite_keeps {l : List Part} {s0 s : State} (a1 : Sys2Proof.Mast) (a2 : Nat) (a3 : Sys2Proof.Mast → Nat → List Sys2Proof.Byte)
    (hk : within [Part.regs, .masts, .log, .upd, .mem] l = true) (g : Keeps l s0 s) : Keeps l s0 (State.upWrite s a1 a2 a3) := by
  refine Keeps.next (k := [Part.regs, .masts, .log, .upd, .mem]) (s := s) ?_ hk g
  clear hk g s0 l
  delta State.upWrite
  try beta_reduce
  try lift_lets -underBinder
  repeat' first
    | (intro x; first | (have hx : Keeps [Part.regs, .masts, .log, .upd, .mem] s x := (by unfold x; (repeat' first | intro _ | (with_reducible first | assumption | exact Keeps.refl _ _ | apply Keeps.ite | apply Keeps.fold | apply State.upDone_keeps | apply State.upError_keeps | apply State.setSession_keeps | apply State.raiseLimited_keeps | apply Keeps.setMem) | lift_lets -underBinder | split | (clear_value *; split)) <;> first | rfl | (have hh := ‹canonical _›; simp only [Memory.wf_writeBytes, Memory.wf_writeBank, Memory.wf_erase, Memory.wf_markRange, Memory.wf_setErr, Memory.wf_clearSilence, Memory.wf_takeRange, Memory.wf_writeStore, Memory.wf_writeRecord, Memory.wf_putCells, hh.2])); clear_value x) | skip)
    | (with_reducible first | assumption | exact Keeps.refl _ _ | apply Keeps.ite | apply Keeps.fold | apply State.upDone_keeps | apply State.upError_keeps | apply State.setSession_keeps | apply State.raiseLimited_keeps | apply Keeps.setMem)
    | lift_lets -underBinder
    | split
    | (clear_value *; split)
  all_goals first | rfl | (have hh := ‹canonical _›; simp only [Memory.wf_writeBytes, Memory.wf_writeBank, Memory.wf_erase, Memory.wf_markRange, Memory.wf_setErr, Memory.wf_clearSilence, Memory.wf_takeRange, Memory.wf_writeStore, Memory.wf_writeRecord, Memory.wf_putCells, hh.2])

theorem State.writeContainer_keeps {l : List Part} {s0 s : State} (a1 : List Sys2Proof.Byte)
    (hk : within [Part.regs, .masts, .log, .upd, .mem] l = true) (g : Keeps l s0 s) : Keeps l s0 (State.writeContainer s a1) := by
  refine Keeps.next (k := [Part.regs, .masts, .log, .upd, .mem]) (s := s) ?_ hk g
  clear hk g s0 l
  delta State.writeContainer
  try beta_reduce
  try lift_lets -underBinder
  repeat' first
    | (intro x; first | (have hx : Keeps [Part.regs, .masts, .log, .upd, .mem] s x := (by unfold x; (repeat' first | intro _ | (with_reducible first | assumption | exact Keeps.refl _ _ | apply Keeps.ite | apply Keeps.fold | apply State.upBegin_keeps | apply State.blockWritten_keeps | apply State.upWrite_keeps) | lift_lets -underBinder | split | (clear_value *; split)) <;> first | rfl); clear_value x) | skip)
    | (with_reducible first | assumption | exact Keeps.refl _ _ | apply Keeps.ite | apply Keeps.fold | apply State.upBegin_keeps | apply State.blockWritten_keeps | apply State.upWrite_keeps)
    | lift_lets -underBinder
    | split
    | (clear_value *; split)
  all_goals first | rfl

theorem State.upOutcome_keeps {l : List Part} {s0 s : State}
    (hk : within [] l = true) (g : Keeps l s0 s) : Keeps l s0 (State.upOutcome s).1 := by
  refine Keeps.next (k := []) (s := s) ?_ hk g
  clear hk g s0 l
  delta State.upOutcome
  try beta_reduce
  try lift_lets -underBinder
  repeat' first
    | (intro x; first | (have hx : Keeps [] s x := (by unfold x; (repeat' first | intro _ | (with_reducible first | assumption | exact Keeps.refl _ _ | apply Keeps.ite | apply Keeps.fold) | lift_lets -underBinder | split | (clear_value *; split)) <;> first | rfl); clear_value x) | skip)
    | (with_reducible first | assumption | exact Keeps.refl _ _ | apply Keeps.ite | apply Keeps.fold)
    | lift_lets -underBinder
    | split
    | (clear_value *; split)
  all_goals first | rfl

theorem State.upOutcome_keeps_of {l : List Part} {s0 s t : State} {b} (e : State.upOutcome s = (t, b))
    (hk : within [] l = true) (g : Keeps l s0 s) : Keeps l s0 t := by
  have h := State.upOutcome_keeps hk g
  rw [e] at h; exact h

theorem State.keyProgram_keeps {l : List Part} {s0 s : State} (a1 : Nat) (a2 : List Sys2Proof.Byte)
    (hk : within [Part.regs, .log, .upd] l = true) (g : Keeps l s0 s) : Keeps l s0 (State.keyProgram s a1 a2) := by
  refine Keeps.next (k := [Part.regs, .log, .upd]) (s := s) ?_ hk g
  clear hk g s0 l
  delta State.keyProgram
  try beta_reduce
  try lift_lets -underBinder
  repeat' first
    | (intro x; first | (have hx : Keeps [Part.regs, .log, .upd] s x := (by unfold x; (repeat' first | intro _ | (with_reducible first | assumption | exact Keeps.refl _ _ | apply Keeps.ite | apply Keeps.fold | apply State.upDone_keeps | apply State.raise_keeps | apply State.showKeys_keeps) | lift_lets -underBinder | split | (clear_value *; split) | (with_reducible apply Keeps.upd_upd)) <;> first | rfl); clear_value x) | skip)
    | (with_reducible first | assumption | exact Keeps.refl _ _ | apply Keeps.ite | apply Keeps.fold | apply State.upDone_keeps | apply State.raise_keeps | apply State.showKeys_keeps)
    | lift_lets -underBinder
    | split
    | (clear_value *; split)
    | (with_reducible apply Keeps.upd_upd)
  all_goals first | rfl

theorem State.fileDone_keeps {l : List Part} {s0 s : State} (a1 : Transfer)
    (hk : within [Part.regs, .masts, .log, .upd, .mon, .mem] l = true) (g : Keeps l s0 s) : Keeps l s0 (State.fileDone s a1) := by
  refine Keeps.next (k := [Part.regs, .masts, .log, .upd, .mon, .mem]) (s := s) ?_ hk g
  clear hk g s0 l
  delta State.fileDone
  try beta_reduce
  try lift_lets -underBinder
  repeat' first
    | (intro x; first | (have hx : Keeps [Part.regs, .masts, .log, .upd, .mon, .mem] s x := (by unfold x; (repeat' first | intro _ | (with_reducible first | assumption | exact Keeps.refl _ _ | apply Keeps.ite | apply Keeps.fold | apply State.writeContainer_keeps | apply State.monDone_keeps | apply State.upOutcome_keeps | refine State.upOutcome_keeps_of (by assumption) ?_ ?_ | apply State.keyProgram_keeps | apply State.putF_keeps) | lift_lets -underBinder | split | (clear_value *; split) | (with_reducible apply Keeps.upd_mon)) <;> first | rfl); clear_value x) | skip)
    | (with_reducible first | assumption | exact Keeps.refl _ _ | apply Keeps.ite | apply Keeps.fold | apply State.writeContainer_keeps | apply State.monDone_keeps | apply State.upOutcome_keeps | refine State.upOutcome_keeps_of (by assumption) ?_ ?_ | apply State.keyProgram_keeps | apply State.putF_keeps)
    | lift_lets -underBinder
    | split
    | (clear_value *; split)
    | (with_reducible apply Keeps.upd_mon)
  all_goals first | rfl

theorem State.bridgeKick_keeps {l : List Part} {s0 s : State}
    (hk : within [Part.regs, .bridge] l = true) (g : Keeps l s0 s) : Keeps l s0 (State.bridgeKick s) := by
  refine Keeps.next (k := [Part.regs, .bridge]) (s := s) ?_ hk g
  clear hk g s0 l
  delta State.bridgeKick
  try beta_reduce
  try lift_lets -underBinder
  repeat' first
    | (intro x; first | (have hx : Keeps [Part.regs, .bridge] s x := (by unfold x; (repeat' first | intro _ | (with_reducible first | assumption | exact Keeps.refl _ _ | apply Keeps.ite | apply Keeps.fold | apply State.showBridge_keeps) | lift_lets -underBinder | split | (clear_value *; split) | (with_reducible apply Keeps.upd_bridge)) <;> first | rfl); clear_value x) | skip)
    | (with_reducible first | assumption | exact Keeps.refl _ _ | apply Keeps.ite | apply Keeps.fold | apply State.showBridge_keeps)
    | lift_lets -underBinder
    | split
    | (clear_value *; split)
    | (with_reducible apply Keeps.upd_bridge)
  all_goals first | rfl

theorem State.handOver_keeps {l : List Part} {s0 s : State} (a1 : Nat) (a2 : Sys2Proof.Mast) (a3 : Bool)
    (hk : within [Part.regs, .log, .lane, .bridge] l = true) (g : Keeps l s0 s) : Keeps l s0 (State.handOver s a1 a2 a3) := by
  refine Keeps.next (k := [Part.regs, .log, .lane, .bridge]) (s := s) ?_ hk g
  clear hk g s0 l
  delta State.handOver
  try beta_reduce
  try lift_lets -underBinder
  repeat' first
    | (intro x; first | (have hx : Keeps [Part.regs, .log, .lane, .bridge] s x := (by unfold x; (repeat' first | intro _ | (with_reducible first | assumption | exact Keeps.refl _ _ | apply Keeps.ite | apply Keeps.fold | apply State.setUnit_keeps | apply State.incF_keeps | apply State.putF_keeps | apply State.showOwners_keeps | apply State.raise_keeps | apply State.bridgeKick_keeps) | lift_lets -underBinder | split | (clear_value *; split) | (with_reducible apply Keeps.upd_lane)) <;> first | rfl); clear_value x) | skip)
    | (with_reducible first | assumption | exact Keeps.refl _ _ | apply Keeps.ite | apply Keeps.fold | apply State.setUnit_keeps | apply State.incF_keeps | apply State.putF_keeps | apply State.showOwners_keeps | apply State.raise_keeps | apply State.bridgeKick_keeps)
    | lift_lets -underBinder
    | split
    | (clear_value *; split)
    | (with_reducible apply Keeps.upd_lane)
  all_goals first | rfl

theorem State.yieldUnits_keeps {l : List Part} {s0 s : State} (a1 : Sys2Proof.Mast)
    (hk : within [Part.regs, .log, .lane, .bridge] l = true) (g : Keeps l s0 s) : Keeps l s0 (State.yieldUnits s a1) := by
  refine Keeps.next (k := [Part.regs, .log, .lane, .bridge]) (s := s) ?_ hk g
  clear hk g s0 l
  delta State.yieldUnits
  try beta_reduce
  try lift_lets -underBinder
  repeat' first
    | (intro x; first | (have hx : Keeps [Part.regs, .log, .lane, .bridge] s x := (by unfold x; (repeat' first | intro _ | (with_reducible first | assumption | exact Keeps.refl _ _ | apply Keeps.ite | apply Keeps.fold | apply State.handOver_keeps) | lift_lets -underBinder | split | (clear_value *; split)) <;> first | rfl); clear_value x) | skip)
    | (with_reducible first | assumption | exact Keeps.refl _ _ | apply Keeps.ite | apply Keeps.fold | apply State.handOver_keeps)
    | lift_lets -underBinder
    | split
    | (clear_value *; split)
  all_goals first | rfl

theorem State.fbSecondMaster_keeps {l : List Part} {s0 s : State} (a1 : Nat) (a2 : Nat)
    (hk : within [Part.regs, .log] l = true) (g : Keeps l s0 s) : Keeps l s0 (State.fbSecondMaster s a1 a2) := by
  refine Keeps.next (k := [Part.regs, .log]) (s := s) ?_ hk g
  clear hk g s0 l
  delta State.fbSecondMaster
  try beta_reduce
  repeat' first
    | intro _
    | (with_reducible first | assumption | exact Keeps.refl _ _ | apply Keeps.ite | apply Keeps.fold | apply State.incF_keeps | apply State.raiseLimited_keeps)
    | split
    | (clear_value *; split)
  all_goals first | rfl

theorem State.ringDrop_keeps {l : List Part} {s0 s : State} (a1 : Sys2Proof.Mast) (a2 : Nat)
    (hk : within [Part.regs, .log] l = true) (g : Keeps l s0 s) : Keeps l s0 (State.ringDrop s a1 a2) := by
  refine Keeps.next (k := [Part.regs, .log]) (s := s) ?_ hk g
  clear hk g s0 l
  delta State.ringDrop
  try beta_reduce
  repeat' first
    | intro _
    | (with_reducible first | assumption | exact Keeps.refl _ _ | apply Keeps.ite | apply Keeps.fold | apply State.noteSummary_keeps | apply State.incF_keeps)
    | split
    | (clear_value *; split)
  all_goals first | rfl

theorem State.exportPush_keeps {l : List Part} {s0 s : State} (a1 : Sys2Proof.Mast) (a2 : LogEntry)
    (hk : within [Part.regs, .masts, .log, .lane, .mem] l = true) (g : Keeps l s0 s) : Keeps l s0 (State.exportPush s a1 a2) := by
  refine Keeps.next (k := [Part.regs, .masts, .log, .lane, .mem]) (s := s) ?_ hk g
  clear hk g s0 l
  delta State.exportPush
  try beta_reduce
  repeat' first
    | intro _
    | (with_reducible first | assumption | exact Keeps.refl _ _ | apply Keeps.ite | apply Keeps.fold | apply State.ringDrop_keeps | apply State.ringPush_keeps)
    | split
    | (clear_value *; split)
  all_goals first | rfl

theorem State.logEvent_keeps {l : List Part} {s0 s : State} (a1 : Event)
    (hk : within [Part.regs, .masts, .log, .lane, .mem] l = true) (g : Keeps l s0 s) : Keeps l s0 (State.logEvent s a1) := by
  refine Keeps.next (k := [Part.regs, .masts, .log, .lane, .mem]) (s := s) ?_ hk g
  clear hk g s0 l
  delta State.logEvent
  try beta_reduce
  try lift_lets -underBinder
  repeat' first
    | (intro x; first | (have hx : Keeps [Part.regs, .masts, .log, .lane, .mem] s x := (by unfold x; (repeat' first | intro _ | (with_reducible first | assumption | exact Keeps.refl _ _ | apply Keeps.ite | apply Keeps.fold | apply State.putF_keeps | apply State.exportPush_keeps | apply State.store_keeps) | lift_lets -underBinder | split | (clear_value *; split) | (with_reducible apply Keeps.upd_log)) <;> first | rfl); clear_value x) | skip)
    | (with_reducible first | assumption | exact Keeps.refl _ _ | apply Keeps.ite | apply Keeps.fold | apply State.putF_keeps | apply State.exportPush_keeps | apply State.store_keeps)
    | lift_lets -underBinder
    | split
    | (clear_value *; split)
    | (with_reducible apply Keeps.upd_log)
  all_goals first | rfl

theorem State.logAtInstant_keeps {l : List Part} {s0 s : State}
    (hk : within [Part.regs, .masts, .log, .lane, .mem] l = true) (g : Keeps l s0 s) : Keeps l s0 (State.logAtInstant s) := by
  refine Keeps.next (k := [Part.regs, .masts, .log, .lane, .mem]) (s := s) ?_ hk g
  clear hk g s0 l
  delta State.logAtInstant
  try beta_reduce
  try lift_lets -underBinder
  repeat' first
    | (intro x; first | (have hx : Keeps [Part.regs, .masts, .log, .lane, .mem] s x := (by unfold x; (repeat' first | intro _ | (with_reducible first | assumption | exact Keeps.refl _ _ | apply Keeps.ite | apply Keeps.fold | apply State.logEvent_keeps) | lift_lets -underBinder | split | (clear_value *; split) | (with_reducible apply Keeps.upd_log)) <;> first | rfl); clear_value x) | skip)
    | (with_reducible first | assumption | exact Keeps.refl _ _ | apply Keeps.ite | apply Keeps.fold | apply State.logEvent_keeps)
    | lift_lets -underBinder
    | split
    | (clear_value *; split)
    | (with_reducible apply Keeps.upd_log)
  all_goals first | rfl

theorem State.sleepMast_keeps {l : List Part} {s0 s : State} (a1 : Mast)
    (hk : within [Part.regs, .writes, .masts, .intake, .queue, .sup, .mem] l = true) (g : Keeps l s0 s) : Keeps l s0 (State.sleepMast s a1) := by
  refine Keeps.next (k := [Part.regs, .writes, .masts, .intake, .queue, .sup, .mem]) (s := s) ?_ hk g
  exact Keeps.setMast_mem _ _ (fun h => Memory.wf_errs _ _ (Memory.wf_putCells _ _ (h.2 a1))) rfl (State.cutPower_keeps _ rfl (Keeps.refl _ _))

theorem State.resetField_keeps {l : List Part} {s0 s : State} (a1 : Bool)
    (hk : within [Part.regs, .field] l = true) (g : Keeps l s0 s) : Keeps l s0 (State.resetField s a1) := by
  refine Keeps.next (k := [Part.regs, .field]) (s := s) ?_ hk g
  clear hk g s0 l
  delta State.resetField
  try beta_reduce
  try lift_lets -underBinder
  repeat' first
    | (intro x; first | (have hx : Keeps [Part.regs, .field] s x := (by unfold x; (repeat' first | intro _ | (with_reducible first | assumption | exact Keeps.refl _ _ | apply Keeps.ite | apply Keeps.fold | apply State.showField_keeps) | lift_lets -underBinder | split | (clear_value *; split) | (with_reducible apply Keeps.upd_field)) <;> first | rfl); clear_value x) | skip)
    | (with_reducible first | assumption | exact Keeps.refl _ _ | apply Keeps.ite | apply Keeps.fold | apply State.showField_keeps)
    | lift_lets -underBinder
    | split
    | (clear_value *; split)
    | (with_reducible apply Keeps.upd_field)
  all_goals first | rfl

theorem State.goStandby_keeps {l : List Part} {s0 s : State}
    (hk : within [Part.regs, .writes, .ctl, .masts, .log, .key, .lane, .intake, .time, .pos, .fb, .app, .queue, .bridge, .stay, .net, .sup, .field, .upd, .standby, .mon, .mem] l = true) (g : Keeps l s0 s) : Keeps l s0 (State.goStandby s) := by
  refine Keeps.next (k := [Part.regs, .writes, .ctl, .masts, .log, .key, .lane, .intake, .time, .pos, .fb, .app, .queue, .bridge, .stay, .net, .sup, .field, .upd, .standby, .mon, .mem]) (s := s) ?_ hk g
  clear hk g s0 l
  delta State.goStandby
  try beta_reduce
  try lift_lets -underBinder
  repeat' first
    | (intro x; first | (have hx : Keeps [Part.regs, .writes, .ctl, .masts, .log, .key, .lane, .intake, .time, .pos, .fb, .app, .queue, .bridge, .stay, .net, .sup, .field, .upd, .standby, .mon, .mem] s x := (by unfold x; (repeat' first | intro _ | (with_reducible first | assumption | exact Keeps.refl _ _ | apply Keeps.ite | apply Keeps.fold | apply State.changeMode_keeps | apply State.releaseForce_keeps | apply State.putF_keeps | apply State.logAtInstant_keeps | apply State.raise_keeps | apply Keeps.setMast | apply State.sleepMast_keeps | apply State.resetField_keeps) | lift_lets -underBinder | split | (clear_value *; split) | (with_reducible apply Keeps.upd_time_pos) | (with_reducible apply Keeps.upd_app) | (with_reducible apply Keeps.upd_key_standby)) <;> first | rfl); clear_value x) | skip)
    | (with_reducible first | assumption | exact Keeps.refl _ _ | apply Keeps.ite | apply Keeps.fold | apply State.changeMode_keeps | apply State.releaseForce_keeps | apply State.putF_keeps | apply State.logAtInstant_keeps | apply State.raise_keeps | apply Keeps.setMast | apply State.sleepMast_keeps | apply State.resetField_keeps)
    | lift_lets -underBinder
    | split
    | (clear_value *; split)
    | (with_reducible apply Keeps.upd_time_pos)
    | (with_reducible apply Keeps.upd_app)
    | (with_reducible apply Keeps.upd_key_standby)
  all_goals first | rfl

theorem State.dmaGoOn_keeps {l : List Part} {s0 s : State} (a1 : Sys2Proof.Mast) (a2 : Nat)
    (hk : within [Part.regs, .masts, .log, .lane, .queue, .mem] l = true) (g : Keeps l s0 s) : Keeps l s0 (State.dmaGoOn s a1 a2) := by
  refine Keeps.next (k := [Part.regs, .masts, .log, .lane, .queue, .mem]) (s := s) ?_ hk g
  clear hk g s0 l
  delta State.dmaGoOn
  try beta_reduce
  try lift_lets -underBinder
  repeat' first
    | (intro x; first | (have hx : Keeps [Part.regs, .masts, .log, .lane, .queue, .mem] s x := (by unfold x; (repeat' first | intro _ | (with_reducible first | assumption | exact Keeps.refl _ _ | apply Keeps.ite | apply Keeps.fold | apply State.dmaLoad_keeps | apply State.dmaReread_keeps | apply State.setDma_keeps | apply State.putF_keeps) | lift_lets -underBinder | split | (clear_value *; split)) <;> first | rfl); clear_value x) | skip)
    | (with_reducible first | assumption | exact Keeps.refl _ _ | apply Keeps.ite | apply Keeps.fold | apply State.dmaLoad_keeps | apply State.dmaReread_keeps | apply State.setDma_keeps | apply State.putF_keeps)
    | lift_lets -underBinder
    | split
    | (clear_value *; split)
  all_goals first | rfl

theorem State.dropMast_keeps {l : List Part} {s0 s : State} (a1 : Sys2Proof.Mast)
    (hk : within [Part.lane, .app] l = true) (g : Keeps l s0 s) : Keeps l s0 (State.dropMast s a1) := by
  refine Keeps.next (k := [Part.lane, .app]) (s := s) ?_ hk g
  clear hk g s0 l
  delta State.dropMast
  try beta_reduce
  try lift_lets -underBinder
  repeat' first
    | (intro x; first | (have hx : Keeps [Part.lane, .app] s x := (by unfold x; (repeat' first | intro _ | (with_reducible first | assumption | exact Keeps.refl _ _ | apply Keeps.ite | apply Keeps.fold) | lift_lets -underBinder | split | (clear_value *; split) | (with_reducible apply Keeps.upd_lane_app)) <;> first | rfl); clear_value x) | skip)
    | (with_reducible first | assumption | exact Keeps.refl _ _ | apply Keeps.ite | apply Keeps.fold)
    | lift_lets -underBinder
    | split
    | (clear_value *; split)
    | (with_reducible apply Keeps.upd_lane_app)
  all_goals first | rfl

theorem State.noteLoss_keeps {l : List Part} {s0 s : State} (a1 : Sys2Proof.Mast) (a2 : Nat) (a3 : Nat)
    (hk : within [Part.regs, .log] l = true) (g : Keeps l s0 s) : Keeps l s0 (State.noteLoss s a1 a2 a3) := by
  refine Keeps.next (k := [Part.regs, .log]) (s := s) ?_ hk g
  clear hk g s0 l
  delta State.noteLoss
  try beta_reduce
  try lift_lets -underBinder
  repeat' first
    | (intro x; first | (have hx : Keeps [Part.regs, .log] s x := (by unfold x; (repeat' first | intro _ | (with_reducible first | assumption | exact Keeps.refl _ _ | apply Keeps.ite | apply Keeps.fold | apply State.putF_keeps | apply State.incF_keeps | apply State.raiseBy_keeps) | lift_lets -underBinder | split | (clear_value *; split)) <;> first | rfl); clear_value x) | skip)
    | (with_reducible first | assumption | exact Keeps.refl _ _ | apply Keeps.ite | apply Keeps.fold | apply State.putF_keeps | apply State.incF_keeps | apply State.raiseBy_keeps)
    | lift_lets -underBinder
    | split
    | (clear_value *; split)
  all_goals first | rfl

theorem State.retarget_keeps {l : List Part} {s0 s : State} (a1 : Nat)
    (hk : within [Part.regs, .lane] l = true) (g : Keeps l s0 s) : Keeps l s0 (State.retarget s a1) := by
  refine Keeps.next (k := [Part.regs, .lane]) (s := s) ?_ hk g
  clear hk g s0 l
  delta State.retarget
  try beta_reduce
  try lift_lets -underBinder
  repeat' first
    | (intro x; first | (have hx : Keeps [Part.regs, .lane] s x := (by unfold x; (repeat' first | intro _ | (with_reducible first | assumption | exact Keeps.refl _ _ | apply Keeps.ite | apply Keeps.fold | apply State.showOwners_keeps | apply State.setUnit_keeps) | lift_lets -underBinder | split | (clear_value *; split)) <;> first | rfl); clear_value x) | skip)
    | (with_reducible first | assumption | exact Keeps.refl _ _ | apply Keeps.ite | apply Keeps.fold | apply State.showOwners_keeps | apply State.setUnit_keeps)
    | lift_lets -underBinder
    | split
    | (clear_value *; split)
  all_goals first | rfl

theorem State.forcedHandovers_keeps {l : List Part} {s0 s : State} (a1 : Sys2Proof.Mast)
    (hk : within [Part.regs, .log, .lane, .time, .bridge] l = true) (g : Keeps l s0 s) : Keeps l s0 (State.forcedHandovers s a1) := by
  refine Keeps.next (k := [Part.regs, .log, .lane, .time, .bridge]) (s := s) ?_ hk g
  clear hk g s0 l
  delta State.forcedHandovers
  try beta_reduce
  try lift_lets -underBinder
  repeat' first
    | (intro x; first | (have hx : Keeps [Part.regs, .log, .lane, .time, .bridge] s x := (by unfold x; (repeat' first | intro _ | (with_reducible first | assumption | exact Keeps.refl _ _ | apply Keeps.ite | apply Keeps.fold | apply State.cutFrames_keeps | apply State.handOver_keeps | apply State.retarget_keeps) | lift_lets -underBinder | split | (clear_value *; split)) <;> first | rfl); clear_value x) | skip)
    | (with_reducible first | assumption | exact Keeps.refl _ _ | apply Keeps.ite | apply Keeps.fold | apply State.cutFrames_keeps | apply State.handOver_keeps | apply State.retarget_keeps)
    | lift_lets -underBinder
    | split
    | (clear_value *; split)
  all_goals first | rfl

theorem State.joinAhead_keeps {l : List Part} {s0 s : State} (a1 : Sys2Proof.LanePos)
    (hk : within [Part.regs] l = true) (g : Keeps l s0 s) : Keeps l s0 (State.joinAhead s a1) := by
  refine Keeps.next (k := [Part.regs]) (s := s) ?_ hk g
  clear hk g s0 l
  delta State.joinAhead
  try beta_reduce
  try lift_lets -underBinder
  repeat' first
    | (intro x; first | (have hx : Keeps [Part.regs] s x := (by unfold x; (repeat' first | intro _ | (with_reducible first | assumption | exact Keeps.refl _ _ | apply Keeps.ite | apply Keeps.fold | apply State.showPhase_keeps | apply State.putF_keeps) | lift_lets -underBinder | split | (clear_value *; split)) <;> first | rfl); clear_value x) | skip)
    | (with_reducible first | assumption | exact Keeps.refl _ _ | apply Keeps.ite | apply Keeps.fold | apply State.showPhase_keeps | apply State.putF_keeps)
    | lift_lets -underBinder
    | split
    | (clear_value *; split)
  all_goals first | rfl

theorem State.loseTriplex_keeps {l : List Part} {s0 s : State} (a1 : Sys2Proof.Mast) (a2 : Nat) (a3 : Nat)
    (hk : within [Part.regs, .masts, .log, .lane, .time, .app, .bridge, .field, .upd, .mem] l = true) (g : Keeps l s0 s) : Keeps l s0 (State.loseTriplex s a1 a2 a3) := by
  refine Keeps.next (k := [Part.regs, .masts, .log, .lane, .time, .app, .bridge, .field, .upd, .mem]) (s := s) ?_ hk g
  clear hk g s0 l
  delta State.loseTriplex
  try beta_reduce
  try lift_lets -underBinder
  repeat' first
    | (intro x; first | (have hx : Keeps [Part.regs, .masts, .log, .lane, .time, .app, .bridge, .field, .upd, .mem] s x := (by unfold x; (repeat' first | intro _ | (with_reducible first | assumption | exact Keeps.refl _ _ | apply Keeps.ite | apply Keeps.fold | apply State.dropMast_keeps | apply State.noteLoss_keeps | apply Keeps.setMast | apply State.crossbar_keeps | apply State.forcedHandovers_keeps | apply State.setLane_keeps | apply State.upAbort_keeps | apply State.joinAhead_keeps) | lift_lets -underBinder | split | (clear_value *; split) | (with_reducible apply Keeps.upd_lane)) <;> first | rfl); clear_value x) | skip)
    | (with_reducible first | assumption | exact Keeps.refl _ _ | apply Keeps.ite | apply Keeps.fold | apply State.dropMast_keeps | apply State.noteLoss_keeps | apply Keeps.setMast | apply State.crossbar_keeps | apply State.forcedHandovers_keeps | apply State.setLane_keeps | apply State.upAbort_keeps | apply State.joinAhead_keeps)
    | lift_lets -underBinder
    | split
    | (clear_value *; split)
    | (with_reducible apply Keeps.upd_lane)
  all_goals first | rfl

theorem State.enterSafe_keeps {l : List Part} {s0 s : State} (a1 : Nat)
    (hk : within [Part.regs, .writes, .ctl, .masts, .log, .key, .lane, .intake, .fb, .app, .queue, .bridge, .stay, .net, .sup, .field, .upd, .mon, .mem] l = true) (g : Keeps l s0 s) : Keeps l s0 (State.enterSafe s a1) := by
  refine Keeps.next (k := [Part.regs, .writes, .ctl, .masts, .log, .key, .lane, .intake, .fb, .app, .queue, .bridge, .stay, .net, .sup, .field, .upd, .mon, .mem]) (s := s) ?_ hk g
  clear hk g s0 l
  delta State.enterSafe
  try beta_reduce
  repeat' first
    | intro _
    | (with_reducible first | assumption | exact Keeps.refl _ _ | apply Keeps.ite | apply Keeps.fold | apply State.changeMode_keeps | apply State.raise_keeps)
    | split
    | (clear_value *; split)
  all_goals first | rfl

theorem State.applyLoss_keeps {l : List Part} {s0 s : State} (a1 : Sys2Proof.Mast) (a2 : Nat) (a3 : Nat)
    (hk : within [Part.regs, .writes, .ctl, .masts, .log, .key, .lane, .intake, .time, .fb, .app, .queue, .bridge, .stay, .net, .sup, .field, .upd, .mon, .mem] l = true) (g : Keeps l s0 s) : Keeps l s0 (State.applyLoss s a1 a2 a3) := by
  refine Keeps.next (k := [Part.regs, .writes, .ctl, .masts, .log, .key, .lane, .intake, .time, .fb, .app, .queue, .bridge, .stay, .net, .sup, .field, .upd, .mon, .mem]) (s := s) ?_ hk g
  clear hk g s0 l
  delta State.applyLoss
  try beta_reduce
  repeat' first
    | intro _
    | (with_reducible first | assumption | exact Keeps.refl _ _ | apply Keeps.ite | apply Keeps.fold | apply State.loseTriplex_keeps | apply State.enterSafe_keeps | apply State.noteLoss_keeps)
    | split
    | (clear_value *; split)
  all_goals first | rfl

theorem State.judgeDigests_keeps {l : List Part} {s0 s : State} (a1 : Nat) (a2 : Sys2Proof.Mast) (a3 : Nat → Bool) (a4 : List (Sys2Proof.Mast × Nat))
    (hk : within [Part.regs, .writes, .ctl, .masts, .log, .key, .lane, .intake, .time, .fb, .app, .queue, .bridge, .stay, .net, .sup, .field, .upd, .mon, .mem] l = true) (g : Keeps l s0 s) : Keeps l s0 (State.judgeDigests s a1 a2 a3 a4) := by
  refine Keeps.next (k := [Part.regs, .writes, .ctl, .masts, .log, .key, .lane, .intake, .time, .fb, .app, .queue, .bridge, .stay, .net, .sup, .field, .upd, .mon, .mem]) (s := s) ?_ hk g
  clear hk g s0 l
  delta State.judgeDigests
  try beta_reduce
  try lift_lets -underBinder
  repeat' first
    | (intro x; first | (have hx : Keeps [Part.regs, .writes, .ctl, .masts, .log, .key, .lane, .intake, .time, .fb, .app, .queue, .bridge, .stay, .net, .sup, .field, .upd, .mon, .mem] s x := (by unfold x; (repeat' first | intro _ | (with_reducible first | assumption | exact Keeps.refl _ _ | apply Keeps.ite | apply Keeps.fold | apply State.applyLoss_keeps | apply State.raise_keeps) | lift_lets -underBinder | split | (clear_value *; split)) <;> first | rfl); clear_value x) | skip)
    | (with_reducible first | assumption | exact Keeps.refl _ _ | apply Keeps.ite | apply Keeps.fold | apply State.applyLoss_keeps | apply State.raise_keeps)
    | lift_lets -underBinder
    | split
    | (clear_value *; split)
  all_goals first | rfl

theorem State.lateDeposit_keeps {l : List Part} {s0 s : State} (a1 : Nat) (a2 : Sys2Proof.Mast) (a3 : Sys2Proof.TxFrame) (a4 : SentFrame)
    (hk : within [Part.regs, .writes, .ctl, .masts, .log, .key, .lane, .intake, .time, .fb, .app, .queue, .bridge, .stay, .net, .sup, .field, .upd, .mon, .mem] l = true) (g : Keeps l s0 s) : Keeps l s0 (State.lateDeposit s a1 a2 a3 a4) := by
  refine Keeps.next (k := [Part.regs, .writes, .ctl, .masts, .log, .key, .lane, .intake, .time, .fb, .app, .queue, .bridge, .stay, .net, .sup, .field, .upd, .mon, .mem]) (s := s) ?_ hk g
  clear hk g s0 l
  delta State.lateDeposit
  try beta_reduce
  try lift_lets -underBinder
  repeat' first
    | (intro x; first | (have hx : Keeps [Part.regs, .writes, .ctl, .masts, .log, .key, .lane, .intake, .time, .fb, .app, .queue, .bridge, .stay, .net, .sup, .field, .upd, .mon, .mem] s x := (by unfold x; (repeat' first | intro _ | (with_reducible first | assumption | exact Keeps.refl _ _ | apply Keeps.ite | apply Keeps.fold | apply State.setUnit_keeps | apply State.judgeDigests_keeps) | lift_lets -underBinder | split | (clear_value *; split)) <;> first | rfl); clear_value x) | skip)
    | (with_reducible first | assumption | exact Keeps.refl _ _ | apply Keeps.ite | apply Keeps.fold | apply State.setUnit_keeps | apply State.judgeDigests_keeps)
    | lift_lets -underBinder
    | split
    | (clear_value *; split)
  all_goals first | rfl

theorem State.depositFrame_keeps {l : List Part} {s0 s : State} (a1 : Sys2Proof.Mast) (a2 : Nat) (a3 : Sys2Proof.TxFrame)
    (hk : within [Part.regs, .writes, .ctl, .masts, .log, .key, .lane, .intake, .time, .fb, .app, .queue, .bridge, .stay, .net, .sup, .field, .upd, .mon, .mem] l = true) (g : Keeps l s0 s) : Keeps l s0 (State.depositFrame s a1 a2 a3) := by
  refine Keeps.next (k := [Part.regs, .writes, .ctl, .masts, .log, .key, .lane, .intake, .time, .fb, .app, .queue, .bridge, .stay, .net, .sup, .field, .upd, .mon, .mem]) (s := s) ?_ hk g
  clear hk g s0 l
  delta State.depositFrame
  try beta_reduce
  repeat' first
    | intro _
    | (with_reducible first | assumption | exact Keeps.refl _ _ | apply Keeps.ite | apply Keeps.fold | apply State.lateDeposit_keeps | apply State.setUnit_keeps)
    | split
    | (clear_value *; split)
  all_goals first | rfl

theorem State.prpCount_keeps {l : List Part} {s0 s : State} (a1 : Sys2Proof.Mast) (a2 : Nat)
    (hk : within [Part.net] l = true) (g : Keeps l s0 s) : Keeps l s0 (State.prpCount s a1 a2) := by
  refine Keeps.next (k := [Part.net]) (s := s) ?_ hk g
  clear hk g s0 l
  delta State.prpCount
  try beta_reduce
  try lift_lets -underBinder
  repeat' first
    | (intro x; first | (have hx : Keeps [Part.net] s x := (by unfold x; (repeat' first | intro _ | (with_reducible first | assumption | exact Keeps.refl _ _ | apply Keeps.ite | apply Keeps.fold) | lift_lets -underBinder | split | (clear_value *; split) | (with_reducible apply Keeps.upd_net)) <;> first | rfl); clear_value x) | skip)
    | (with_reducible first | assumption | exact Keeps.refl _ _ | apply Keeps.ite | apply Keeps.fold)
    | lift_lets -underBinder
    | split
    | (clear_value *; split)
    | (with_reducible apply Keeps.upd_net)
  all_goals first | rfl

theorem State.netDeposit_keeps {l : List Part} {s0 s : State} (a1 : Sys2Proof.Mast) (a2 : Sys2Proof.TxFrame)
    (hk : within [Part.regs, .writes, .ctl, .masts, .log, .key, .lane, .intake, .time, .fb, .app, .queue, .bridge, .stay, .net, .sup, .field, .upd, .mon, .mem] l = true) (g : Keeps l s0 s) : Keeps l s0 (State.netDeposit s a1 a2) := by
  refine Keeps.next (k := [Part.regs, .writes, .ctl, .masts, .log, .key, .lane, .intake, .time, .fb, .app, .queue, .bridge, .stay, .net, .sup, .field, .upd, .mon, .mem]) (s := s) ?_ hk g
  clear hk g s0 l
  delta State.netDeposit
  try beta_reduce
  try lift_lets -underBinder
  repeat' first
    | (intro x; first | (have hx : Keeps [Part.regs, .writes, .ctl, .masts, .log, .key, .lane, .intake, .time, .fb, .app, .queue, .bridge, .stay, .net, .sup, .field, .upd, .mon, .mem] s x := (by unfold x; (repeat' first | intro _ | (with_reducible first | assumption | exact Keeps.refl _ _ | apply Keeps.ite | apply Keeps.fold | apply State.depositFrame_keeps | apply State.prpCount_keeps) | lift_lets -underBinder | split | (clear_value *; split)) <;> first | rfl); clear_value x) | skip)
    | (with_reducible first | assumption | exact Keeps.refl _ _ | apply Keeps.ite | apply Keeps.fold | apply State.depositFrame_keeps | apply State.prpCount_keeps)
    | lift_lets -underBinder
    | split
    | (clear_value *; split)
  all_goals first | rfl

theorem State.cmpEdge_keeps {l : List Part} {s0 s : State} (a1 : Sys2Proof.Mast) (a2 : Nat) (a3 : Int) (a4 : Int) (a5 : Nat)
    (hk : within [Part.regs, .masts, .log, .lane, .pos, .queue, .field, .mem] l = true) (g : Keeps l s0 s) : Keeps l s0 (State.cmpEdge s a1 a2 a3 a4 a5) := by
  refine Keeps.next (k := [Part.regs, .masts, .log, .lane, .pos, .queue, .field, .mem]) (s := s) ?_ hk g
  clear hk g s0 l
  delta State.cmpEdge
  try beta_reduce
  try lift_lets -underBinder
  repeat' first
    | (intro x; first | (have hx : Keeps [Part.regs, .masts, .log, .lane, .pos, .queue, .field, .mem] s x := (by unfold x; (repeat' first | intro _ | (with_reducible first | assumption | exact Keeps.refl _ _ | apply Keeps.ite | apply Keeps.fold | apply State.cmpFire_keeps) | lift_lets -underBinder | split | (clear_value *; split) | (with_reducible apply Keeps.upd_pos)) <;> first | rfl); clear_value x) | skip)
    | (with_reducible first | assumption | exact Keeps.refl _ _ | apply Keeps.ite | apply Keeps.fold | apply State.cmpFire_keeps)
    | lift_lets -underBinder
    | split
    | (clear_value *; split)
    | (with_reducible apply Keeps.upd_pos)
  all_goals first | rfl

theorem State.putPos_keeps {l : List Part} {s0 s : State} (a1 : Copy) (a2 : Nat) (a3 : Nat) (a4 : Int)
    (hk : within [Part.regs] l = true) (g : Keeps l s0 s) : Keeps l s0 (State.putPos s a1 a2 a3 a4) := by
  refine Keeps.next (k := [Part.regs]) (s := s) ?_ hk g
  clear hk g s0 l
  delta State.putPos
  try beta_reduce
  try lift_lets -underBinder
  repeat' first
    | (intro x; first | (have hx : Keeps [Part.regs] s x := (by unfold x; (repeat' first | intro _ | (with_reducible first | assumption | exact Keeps.refl _ _ | apply Keeps.ite | apply Keeps.fold | apply State.setReg_keeps) | lift_lets -underBinder | split | (clear_value *; split)) <;> first | rfl); clear_value x) | skip)
    | (with_reducible first | assumption | exact Keeps.refl _ _ | apply Keeps.ite | apply Keeps.fold | apply State.setReg_keeps)
    | lift_lets -underBinder
    | split
    | (clear_value *; split)
  all_goals first | rfl

theorem State.spPublish_keeps {l : List Part} {s0 s : State} (a1 : SpParams) (a2 : List Sys2Proof.Mast)
    (hk : within [Part.regs] l = true) (g : Keeps l s0 s) : Keeps l s0 (State.spPublish s a1 a2) := by
  refine Keeps.next (k := [Part.regs]) (s := s) ?_ hk g
  clear hk g s0 l
  delta State.spPublish
  try beta_reduce
  try lift_lets -underBinder
  repeat' first
    | (intro x; first | (have hx : Keeps [Part.regs] s x := (by unfold x; (repeat' first | intro _ | (with_reducible first | assumption | exact Keeps.refl _ _ | apply Keeps.ite | apply Keeps.fold | apply State.setReg_keeps | apply State.incF_keeps | apply State.putF_keeps | apply State.maxF_keeps | apply State.putPos_keeps) | lift_lets -underBinder | split | (clear_value *; split)) <;> first | rfl); clear_value x) | skip)
    | (with_reducible first | assumption | exact Keeps.refl _ _ | apply Keeps.ite | apply Keeps.fold | apply State.setReg_keeps | apply State.incF_keeps | apply State.putF_keeps | apply State.maxF_keeps | apply State.putPos_keeps)
    | lift_lets -underBinder
    | split
    | (clear_value *; split)
  all_goals first | rfl

theorem State.commitImage_keeps {l : List Part} {s0 s : State} (a1 : Sys2Proof.Mast)
    (hk : within [Part.lane] l = true) (g : Keeps l s0 s) : Keeps l s0 (State.commitImage s a1) := by
  refine Keeps.next (k := [Part.lane]) (s := s) ?_ hk g
  clear hk g s0 l
  delta State.commitImage
  try beta_reduce
  try lift_lets -underBinder
  repeat' first
    | (intro x; first | (have hx : Keeps [Part.lane] s x := (by unfold x; (repeat' first | intro _ | (with_reducible first | assumption | exact Keeps.refl _ _ | apply Keeps.ite | apply Keeps.fold) | lift_lets -underBinder | split | (clear_value *; split) | (with_reducible apply Keeps.upd_lane)) <;> first | rfl); clear_value x) | skip)
    | (with_reducible first | assumption | exact Keeps.refl _ _ | apply Keeps.ite | apply Keeps.fold)
    | lift_lets -underBinder
    | split
    | (clear_value *; split)
    | (with_reducible apply Keeps.upd_lane)
  all_goals first | rfl

theorem State.noCommit_keeps {l : List Part} {s0 s : State}
    (hk : within [Part.regs] l = true) (g : Keeps l s0 s) : Keeps l s0 (State.noCommit s) := by
  refine Keeps.next (k := [Part.regs]) (s := s) ?_ hk g
  clear hk g s0 l
  delta State.noCommit
  try beta_reduce
  repeat' first
    | intro _
    | (with_reducible first | assumption | exact Keeps.refl _ _ | apply Keeps.ite | apply Keeps.fold | apply State.incF_keeps)
    | split
    | (clear_value *; split)
  all_goals first | rfl

theorem State.disagree_keeps {l : List Part} {s0 s : State} (a1 : Nat) (a2 : Nat)
    (hk : within [Part.regs, .writes, .ctl, .masts, .log, .key, .lane, .intake, .fb, .app, .queue, .bridge, .stay, .net, .sup, .field, .upd, .mon, .mem] l = true) (g : Keeps l s0 s) : Keeps l s0 (State.disagree s a1 a2) := by
  refine Keeps.next (k := [Part.regs, .writes, .ctl, .masts, .log, .key, .lane, .intake, .fb, .app, .queue, .bridge, .stay, .net, .sup, .field, .upd, .mon, .mem]) (s := s) ?_ hk g
  clear hk g s0 l
  delta State.disagree
  try beta_reduce
  repeat' first
    | intro _
    | (with_reducible first | assumption | exact Keeps.refl _ _ | apply Keeps.ite | apply Keeps.fold | apply State.enterSafe_keeps | apply State.raise_keeps)
    | split
    | (clear_value *; split)
  all_goals first | rfl

theorem State.commitTriplex_keeps {l : List Part} {s0 s : State} (a1 : Nat) (a2 : List Sys2Proof.Mast)
    (hk : within [Part.regs, .writes, .ctl, .masts, .log, .key, .lane, .intake, .time, .fb, .app, .queue, .bridge, .stay, .net, .sup, .field, .upd, .mon, .mem] l = true) (g : Keeps l s0 s) : Keeps l s0 (State.commitTriplex s a1 a2) := by
  refine Keeps.next (k := [Part.regs, .writes, .ctl, .masts, .log, .key, .lane, .intake, .time, .fb, .app, .queue, .bridge, .stay, .net, .sup, .field, .upd, .mon, .mem]) (s := s) ?_ hk g
  clear hk g s0 l
  delta State.commitTriplex
  try beta_reduce
  try lift_lets -underBinder
  repeat' first
    | (intro x; first | (have hx : Keeps [Part.regs, .writes, .ctl, .masts, .log, .key, .lane, .intake, .time, .fb, .app, .queue, .bridge, .stay, .net, .sup, .field, .upd, .mon, .mem] s x := (by unfold x; (repeat' first | intro _ | (with_reducible first | assumption | exact Keeps.refl _ _ | apply Keeps.ite | apply Keeps.fold | apply State.commitImage_keeps | apply State.applyLoss_keeps | apply State.enterSafe_keeps | apply State.noCommit_keeps | apply State.disagree_keeps) | lift_lets -underBinder | split | (clear_value *; split) | (with_reducible apply Keeps.upd_lane)) <;> first | rfl); clear_value x) | skip)
    | (with_reducible first | assumption | exact Keeps.refl _ _ | apply Keeps.ite | apply Keeps.fold | apply State.commitImage_keeps | apply State.applyLoss_keeps | apply State.enterSafe_keeps | apply State.noCommit_keeps | apply State.disagree_keeps)
    | lift_lets -underBinder
    | split
    | (clear_value *; split)
    | (with_reducible apply Keeps.upd_lane)
  all_goals first | rfl

theorem State.setAxle_keeps {l : List Part} {s0 s : State} (a1 : Sys2Proof.Mast) (a2 : Nat) (a3 : AxleCounter)
    (hk : within [Part.pos] l = true) (g : Keeps l s0 s) : Keeps l s0 (State.setAxle s a1 a2 a3) := by
  refine Keeps.next (k := [Part.pos]) (s := s) ?_ hk g
  clear hk g s0 l
  delta State.setAxle
  try beta_reduce
  try lift_lets -underBinder
  repeat' first
    | (intro x; first | (have hx : Keeps [Part.pos] s x := (by unfold x; (repeat' first | intro _ | (with_reducible first | assumption | exact Keeps.refl _ _ | apply Keeps.ite | apply Keeps.fold) | lift_lets -underBinder | split | (clear_value *; split) | (with_reducible apply Keeps.upd_pos)) <;> first | rfl); clear_value x) | skip)
    | (with_reducible first | assumption | exact Keeps.refl _ _ | apply Keeps.ite | apply Keeps.fold)
    | lift_lets -underBinder
    | split
    | (clear_value *; split)
    | (with_reducible apply Keeps.upd_pos)
  all_goals first | rfl

theorem State.tryAdopt_keeps {l : List Part} {s0 s : State}
    (hk : within [Part.regs, .log, .field] l = true) (g : Keeps l s0 s) : Keeps l s0 (State.tryAdopt s) := by
  refine Keeps.next (k := [Part.regs, .log, .field]) (s := s) ?_ hk g
  clear hk g s0 l
  delta State.tryAdopt
  try beta_reduce
  try lift_lets -underBinder
  repeat' first
    | (intro x; first | (have hx : Keeps [Part.regs, .log, .field] s x := (by unfold x; (repeat' first | intro _ | (with_reducible first | assumption | exact Keeps.refl _ _ | apply Keeps.ite | apply Keeps.fold | apply State.putF_keeps | apply State.showField_keeps | apply State.fieldRegime_keeps) | lift_lets -underBinder | split | (clear_value *; split) | (with_reducible apply Keeps.upd_field)) <;> first | rfl); clear_value x) | skip)
    | (with_reducible first | assumption | exact Keeps.refl _ _ | apply Keeps.ite | apply Keeps.fold | apply State.putF_keeps | apply State.showField_keeps | apply State.fieldRegime_keeps)
    | lift_lets -underBinder
    | split
    | (clear_value *; split)
    | (with_reducible apply Keeps.upd_field)
  all_goals first | rfl

theorem State.slForward_keeps {l : List Part} {s0 s : State} (a1 : List Sys2Proof.Byte) (a2 : Nat)
    (hk : within [Part.stay] l = true) (g : Keeps l s0 s) : Keeps l s0 (State.slForward s a1 a2) := by
  refine Keeps.next (k := [Part.stay]) (s := s) ?_ hk g
  clear hk g s0 l
  delta State.slForward
  try beta_reduce
  try lift_lets -underBinder
  repeat' first
    | (intro x; first | (have hx : Keeps [Part.stay] s x := (by unfold x; (repeat' first | intro _ | (with_reducible first | assumption | exact Keeps.refl _ _ | apply Keeps.ite | apply Keeps.fold) | lift_lets -underBinder | split | (clear_value *; split) | (with_reducible apply Keeps.upd_stay)) <;> first | rfl); clear_value x) | skip)
    | (with_reducible first | assumption | exact Keeps.refl _ _ | apply Keeps.ite | apply Keeps.fold)
    | lift_lets -underBinder
    | split
    | (clear_value *; split)
    | (with_reducible apply Keeps.upd_stay)
  all_goals first | rfl

theorem State.pdReject_keeps {l : List Part} {s0 s : State} (a1 : PdEntry) (a2 : Nat)
    (hk : within [Part.regs, .log] l = true) (g : Keeps l s0 s) : Keeps l s0 (State.pdReject s a1 a2) := by
  refine Keeps.next (k := [Part.regs, .log]) (s := s) ?_ hk g
  clear hk g s0 l
  delta State.pdReject
  try beta_reduce
  try lift_lets -underBinder
  repeat' first
    | (intro x; first | (have hx : Keeps [Part.regs, .log] s x := (by unfold x; (repeat' first | intro _ | (with_reducible first | assumption | exact Keeps.refl _ _ | apply Keeps.ite | apply Keeps.fold | apply State.raiseLimited_keeps | apply State.incF_keeps) | lift_lets -underBinder | split | (clear_value *; split)) <;> first | rfl); clear_value x) | skip)
    | (with_reducible first | assumption | exact Keeps.refl _ _ | apply Keeps.ite | apply Keeps.fold | apply State.raiseLimited_keeps | apply State.incF_keeps)
    | lift_lets -underBinder
    | split
    | (clear_value *; split)
  all_goals first | rfl

theorem State.setPd_keeps {l : List Part} {s0 s : State} (a1 : PdEntry)
    (hk : within [Part.net] l = true) (g : Keeps l s0 s) : Keeps l s0 (State.setPd s a1) := by
  refine Keeps.next (k := [Part.net]) (s := s) ?_ hk g
  clear hk g s0 l
  delta State.setPd
  try beta_reduce
  try lift_lets -underBinder
  repeat' first
    | (intro x; first | (have hx : Keeps [Part.net] s x := (by unfold x; (repeat' first | intro _ | (with_reducible first | assumption | exact Keeps.refl _ _ | apply Keeps.ite | apply Keeps.fold) | lift_lets -underBinder | split | (clear_value *; split) | (with_reducible apply Keeps.upd_net)) <;> first | rfl); clear_value x) | skip)
    | (with_reducible first | assumption | exact Keeps.refl _ _ | apply Keeps.ite | apply Keeps.fold)
    | lift_lets -underBinder
    | split
    | (clear_value *; split)
    | (with_reducible apply Keeps.upd_net)
  all_goals first | rfl

theorem State.pdPlace_keeps {l : List Part} {s0 s : State} (a1 : Sys2Proof.Item) (a2 : PdEntry)
    (hk : within [Part.regs, .log, .net] l = true) (g : Keeps l s0 s) : Keeps l s0 (State.pdPlace s a1 a2) := by
  refine Keeps.next (k := [Part.regs, .log, .net]) (s := s) ?_ hk g
  clear hk g s0 l
  delta State.pdPlace
  try beta_reduce
  try lift_lets -underBinder
  repeat' first
    | (intro x; first | (have hx : Keeps [Part.regs, .log, .net] s x := (by unfold x; (repeat' first | intro _ | (with_reducible first | assumption | exact Keeps.refl _ _ | apply Keeps.ite | apply Keeps.fold | apply State.pdReject_keeps | apply State.setPd_keeps) | lift_lets -underBinder | split | (clear_value *; split)) <;> first | rfl); clear_value x) | skip)
    | (with_reducible first | assumption | exact Keeps.refl _ _ | apply Keeps.ite | apply Keeps.fold | apply State.pdReject_keeps | apply State.setPd_keeps)
    | lift_lets -underBinder
    | split
    | (clear_value *; split)
  all_goals first | rfl

theorem State.endTest_keeps {l : List Part} {s0 s : State} (a1 : FieldTest) (a2 : Bool)
    (hk : within [Part.regs, .field] l = true) (g : Keeps l s0 s) : Keeps l s0 (State.endTest s a1 a2) := by
  refine Keeps.next (k := [Part.regs, .field]) (s := s) ?_ hk g
  clear hk g s0 l
  delta State.endTest
  try beta_reduce
  try lift_lets -underBinder
  repeat' first
    | (intro x; first | (have hx : Keeps [Part.regs, .field] s x := (by unfold x; (repeat' first | intro _ | (with_reducible first | assumption | exact Keeps.refl _ _ | apply Keeps.ite | apply Keeps.fold | apply State.setOut_keeps | apply State.wrapF_keeps | apply State.outItem_keeps | apply State.incF_keeps) | lift_lets -underBinder | split | (clear_value *; split) | (with_reducible apply Keeps.upd_field)) <;> first | rfl); clear_value x) | skip)
    | (with_reducible first | assumption | exact Keeps.refl _ _ | apply Keeps.ite | apply Keeps.fold | apply State.setOut_keeps | apply State.wrapF_keeps | apply State.outItem_keeps | apply State.incF_keeps)
    | lift_lets -underBinder
    | split
    | (clear_value *; split)
    | (with_reducible apply Keeps.upd_field)
  all_goals first | rfl

theorem State.bare_keeps {l : List Part} {s0 s : State}
    (hk : within [Part.regs, .shown, .writes, .ctl, .masts, .log, .key, .lane, .intake, .time, .pos, .fb, .app, .queue, .bridge, .stay, .net, .sup, .field, .upd, .supply, .panel, .standby, .mon, .mem] l = true) (g : Keeps l s0 s) : Keeps l s0 (State.bare s) := by
  refine Keeps.next (k := [Part.regs, .shown, .writes, .ctl, .masts, .log, .key, .lane, .intake, .time, .pos, .fb, .app, .queue, .bridge, .stay, .net, .sup, .field, .upd, .supply, .panel, .standby, .mon, .mem]) (s := s) ⟨?_, ?_, Nat.le_refl _⟩ hk g
  · rw [sameBut_iff]; simp [State.bare]
  · intro h
    refine ⟨rfl, fun o => ?_⟩
    have : ((s.bare).mast o).mem = (s.mast o).mem.clearSram.clearDram := by cases o <;> rfl
    rw [this]
    exact Memory.wf_clearDram _ (Memory.wf_clearSram _ (h.2 o))

theorem State.showHoldup_keeps {l : List Part} {s0 s : State}
    (hk : within [Part.regs] l = true) (g : Keeps l s0 s) : Keeps l s0 (State.showHoldup s) := by
  refine Keeps.next (k := [Part.regs]) (s := s) ?_ hk g
  clear hk g s0 l
  delta State.showHoldup
  try beta_reduce
  repeat' first
    | intro _
    | (with_reducible first | assumption | exact Keeps.refl _ _ | apply Keeps.ite | apply Keeps.fold | apply State.putF_keeps)
    | split
    | (clear_value *; split)
  all_goals first | rfl

theorem State.bootPower_keeps {l : List Part} {s0 s : State}
    (hk : within [Part.regs, .ctl, .masts, .field, .mem] l = true) (g : Keeps l s0 s) : Keeps l s0 (State.bootPower s) := by
  refine Keeps.next (k := [Part.regs, .ctl, .masts, .field, .mem]) (s := s) ?_ hk g
  clear hk g s0 l
  delta State.bootPower
  try beta_reduce
  try lift_lets -underBinder
  repeat' first
    | (intro x; first | (have hx : Keeps [Part.regs, .ctl, .masts, .field, .mem] s x := (by unfold x; (repeat' first | intro _ | (with_reducible first | assumption | exact Keeps.refl _ _ | apply Keeps.ite | apply Keeps.fold | apply State.powerMast_keeps | apply State.showHoldup_keeps | apply State.showLane_keeps) | lift_lets -underBinder | split | (clear_value *; split) | (with_reducible apply Keeps.upd_ctl_field)) <;> first | rfl); clear_value x) | skip)
    | (with_reducible first | assumption | exact Keeps.refl _ _ | apply Keeps.ite | apply Keeps.fold | apply State.powerMast_keeps | apply State.showHoldup_keeps | apply State.showLane_keeps)
    | lift_lets -underBinder
    | split
    | (clear_value *; split)
    | (with_reducible apply Keeps.upd_ctl_field)
  all_goals first | rfl

theorem State.moduleReset_keeps {l : List Part} {s0 s : State} (a1 : Fld) (a2 : Sys2Proof.BootEnv)
    (hk : within [Part.now, .regs, .shown, .writes, .ctl, .masts, .log, .key, .lane, .intake, .time, .pos, .fb, .app, .queue, .bridge, .stay, .net, .sup, .field, .upd, .supply, .panel, .standby, .mon, .free, .mem] l = true) (g : Keeps l s0 s) : Keeps l s0 (State.moduleReset s a1 a2) := by
  refine Keeps.next (k := [Part.now, .regs, .shown, .writes, .ctl, .masts, .log, .key, .lane, .intake, .time, .pos, .fb, .app, .queue, .bridge, .stay, .net, .sup, .field, .upd, .supply, .panel, .standby, .mon, .free, .mem]) (s := s) ?_ hk g
  clear hk g s0 l
  delta State.moduleReset
  try beta_reduce
  try lift_lets -underBinder
  repeat' first
    | (intro x; first | (have hx : Keeps [Part.now, .regs, .shown, .writes, .ctl, .masts, .log, .key, .lane, .intake, .time, .pos, .fb, .app, .queue, .bridge, .stay, .net, .sup, .field, .upd, .supply, .panel, .standby, .mon, .free, .mem] s x := (by unfold x; (repeat' first | intro _ | (with_reducible first | assumption | exact Keeps.refl _ _ | apply Keeps.ite | apply Keeps.fold | apply State.upAbort_keeps | apply State.putF_keeps | apply State.bare_keeps | apply State.bootPower_keeps | apply State.bootRun_keeps | apply State.raise_keeps) | lift_lets -underBinder | split | (clear_value *; split)) <;> first | rfl); clear_value x) | skip)
    | (with_reducible first | assumption | exact Keeps.refl _ _ | apply Keeps.ite | apply Keeps.fold | apply State.upAbort_keeps | apply State.putF_keeps | apply State.bare_keeps | apply State.bootPower_keeps | apply State.bootRun_keeps | apply State.raise_keeps)
    | lift_lets -underBinder
    | split
    | (clear_value *; split)
  all_goals first | rfl

theorem State.wakeFailed_keeps {l : List Part} {s0 s : State} (a1 : Nat) (a2 : Sys2Proof.BootEnv)
    (hk : within [Part.now, .regs, .shown, .writes, .ctl, .masts, .log, .key, .lane, .intake, .time, .pos, .fb, .app, .queue, .bridge, .stay, .net, .sup, .field, .upd, .supply, .panel, .standby, .mon, .free, .mem] l = true) (g : Keeps l s0 s) : Keeps l s0 (State.wakeFailed s a1 a2) := by
  refine Keeps.next (k := [Part.now, .regs, .shown, .writes, .ctl, .masts, .log, .key, .lane, .intake, .time, .pos, .fb, .app, .queue, .bridge, .stay, .net, .sup, .field, .upd, .supply, .panel, .standby, .mon, .free, .mem]) (s := s) ?_ hk g
  clear hk g s0 l
  delta State.wakeFailed
  try beta_reduce
  repeat' first
    | intro _
    | (with_reducible first | assumption | exact Keeps.refl _ _ | apply Keeps.ite | apply Keeps.fold | apply State.moduleReset_keeps | apply State.logAtInstant_keeps | apply State.raise_keeps)
    | split
    | (clear_value *; split)
  all_goals first | rfl

theorem State.readback_keeps {l : List Part} {s0 s : State} (a1 : Sys2Proof.Per Bool) (a2 : Bool)
    (hk : within [Part.regs, .masts, .log, .upd, .mem] l = true) (g : Keeps l s0 s) : Keeps l s0 (State.readback s a1 a2) := by
  refine Keeps.next (k := [Part.regs, .masts, .log, .upd, .mem]) (s := s) ?_ hk g
  clear hk g s0 l
  delta State.readback
  try beta_reduce
  try lift_lets -underBinder
  repeat' first
    | (intro x; first | (have hx : Keeps [Part.regs, .masts, .log, .upd, .mem] s x := (by unfold x; (repeat' first | intro _ | (with_reducible first | assumption | exact Keeps.refl _ _ | apply Keeps.ite | apply Keeps.fold | apply State.putF_keeps | apply State.upError_keeps | apply State.setPhase_keeps | apply State.setSession_keeps | apply State.raise_keeps | apply Keeps.setMem | apply State.changeRecord_keeps | apply State.showVersions_keeps) | lift_lets -underBinder | split | (clear_value *; split)) <;> first | rfl | (have hh := ‹canonical _›; simp only [Memory.wf_writeBytes, Memory.wf_writeBank, Memory.wf_erase, Memory.wf_markRange, Memory.wf_setErr, Memory.wf_clearSilence, Memory.wf_takeRange, Memory.wf_writeStore, Memory.wf_writeRecord, Memory.wf_putCells, hh.2])); clear_value x) | skip)
    | (with_reducible first | assumption | exact Keeps.refl _ _ | apply Keeps.ite | apply Keeps.fold | apply State.putF_keeps | apply State.upError_keeps | apply State.setPhase_keeps | apply State.setSession_keeps | apply State.raise_keeps | apply Keeps.setMem | apply State.changeRecord_keeps | apply State.showVersions_keeps)
    | lift_lets -underBinder
    | split
    | (clear_value *; split)
  all_goals first | rfl | (have hh := ‹canonical _›; simp only [Memory.wf_writeBytes, Memory.wf_writeBank, Memory.wf_erase, Memory.wf_markRange, Memory.wf_setErr, Memory.wf_clearSilence, Memory.wf_takeRange, Memory.wf_writeStore, Memory.wf_writeRecord, Memory.wf_putCells, hh.2])

theorem State.cmpArm_keeps {l : List Part} {s0 s : State} (a1 : Sys2Proof.Mast) (a2 : Nat)
    (hk : within [Part.regs, .masts, .log, .lane, .pos, .queue, .field, .mem] l = true) (g : Keeps l s0 s) : Keeps l s0 (State.cmpArm s a1 a2) := by
  refine Keeps.next (k := [Part.regs, .masts, .log, .lane, .pos, .queue, .field, .mem]) (s := s) ?_ hk g
  clear hk g s0 l
  delta State.cmpArm
  try beta_reduce
  try lift_lets -underBinder
  repeat' first
    | (intro x; first | (have hx : Keeps [Part.regs, .masts, .log, .lane, .pos, .queue, .field, .mem] s x := (by unfold x; (repeat' first | intro _ | (with_reducible first | assumption | exact Keeps.refl _ _ | apply Keeps.ite | apply Keeps.fold | apply State.putF_keeps | apply State.cmpFire_keeps | apply State.raiseLimited_keeps) | lift_lets -underBinder | split | (clear_value *; split) | (with_reducible apply Keeps.upd_pos)) <;> first | rfl); clear_value x) | skip)
    | (with_reducible first | assumption | exact Keeps.refl _ _ | apply Keeps.ite | apply Keeps.fold | apply State.putF_keeps | apply State.cmpFire_keeps | apply State.raiseLimited_keeps)
    | lift_lets -underBinder
    | split
    | (clear_value *; split)
    | (with_reducible apply Keeps.upd_pos)
  all_goals first | rfl

theorem State.clearLatch_keeps {l : List Part} {s0 s : State} (a1 : Sys2Proof.Mast) (a2 : Nat)
    (hk : within [Part.sup] l = true) (g : Keeps l s0 s) : Keeps l s0 (State.clearLatch s a1 a2) := by
  refine Keeps.next (k := [Part.sup]) (s := s) ?_ hk g
  clear hk g s0 l
  delta State.clearLatch
  try beta_reduce
  try lift_lets -underBinder
  repeat' first
    | (intro x; first | (have hx : Keeps [Part.sup] s x := (by unfold x; (repeat' first | intro _ | (with_reducible first | assumption | exact Keeps.refl _ _ | apply Keeps.ite | apply Keeps.fold | apply State.setSp_keeps) | lift_lets -underBinder | split | (clear_value *; split)) <;> first | rfl); clear_value x) | skip)
    | (with_reducible first | assumption | exact Keeps.refl _ _ | apply Keeps.ite | apply Keeps.fold | apply State.setSp_keeps)
    | lift_lets -underBinder
    | split
    | (clear_value *; split)
  all_goals first | rfl

end Sys2Proof.Machine
end

