-- ==== Sys2Proof/Laws/Operations3.lean ====
section
/-!
SUPPORT. One lemma for each operation of the machine, in the order in which they rest on one another (part 3 of 4): the
operation touches at most the parts named, keeps registers and memories canonical and turns no clock back. Cite it in
place of unfolding the operation.
-/
namespace Sys2Proof.Machine

open Sys2Proof.Safety

theorem State.applyLosses_keeps {l : List Part} {s0 s : State} (a1 : List (Sys2Proof.Mast × Nat × Nat))
    (hk : within [Part.regs, .writes, .ctl, .masts, .log, .key, .lane, .intake, .time, .fb, .app, .queue, .bridge, .stay, .net, .sup, .field, .upd, .mon, .mem] l = true) (g : Keeps l s0 s) : Keeps l s0 (State.applyLosses s a1) := by
  refine Keeps.next (k := [Part.regs, .writes, .ctl, .masts, .log, .key, .lane, .intake, .time, .fb, .app, .queue, .bridge, .stay, .net, .sup, .field, .upd, .mon, .mem]) (s := s) ?_ hk g
  clear hk g s0 l
  delta State.applyLosses
  try beta_reduce
  repeat' first
    | intro _
    | (with_reducible first | assumption | exact Keeps.refl _ _ | apply Keeps.ite | apply Keeps.fold | apply State.applyLoss_keeps | apply State.enterSafe_keeps | apply State.noteLoss_keeps)
    | split
    | (clear_value *; split)
  all_goals first | rfl

theorem State.exitFail_keeps {l : List Part} {s0 s : State} (a1 : Sys2Proof.Mast) (a2 : Sys2Proof.Item)
    (hk : within [Part.log, .intake] l = true) (g : Keeps l s0 s) : Keeps l s0 (State.exitFail s a1 a2) := by
  refine Keeps.next (k := [Part.log, .intake]) (s := s) ?_ hk g
  clear hk g s0 l
  delta State.exitFail
  try beta_reduce
  try lift_lets -underBinder
  repeat' first
    | (intro x; first | (have hx : Keeps [Part.log, .intake] s x := (by unfold x; (repeat' first | intro _ | (with_reducible first | assumption | exact Keeps.refl _ _ | apply Keeps.ite | apply Keeps.fold | apply State.raiseM_keeps) | lift_lets -underBinder | split | (clear_value *; split) | (with_reducible apply Keeps.upd_intake)) <;> first | rfl); clear_value x) | skip)
    | (with_reducible first | assumption | exact Keeps.refl _ _ | apply Keeps.ite | apply Keeps.fold | apply State.raiseM_keeps)
    | lift_lets -underBinder
    | split
    | (clear_value *; split)
    | (with_reducible apply Keeps.upd_intake)
  all_goals first | rfl

theorem State.writeCheckpoint_keeps {l : List Part} {s0 s : State}
    (hk : within [Part.app, .free] l = true) (g : Keeps l s0 s) : Keeps l s0 (State.writeCheckpoint s) := by
  refine Keeps.next (k := [Part.app, .free]) (s := s) ?_ hk g
  clear hk g s0 l
  delta State.writeCheckpoint
  try beta_reduce
  try lift_lets -underBinder
  repeat' first
    | (intro x; first | (have hx : Keeps [Part.app, .free] s x := (by unfold x; (repeat' first | intro _ | (with_reducible first | assumption | exact Keeps.refl _ _ | apply Keeps.ite | apply Keeps.fold) | lift_lets -underBinder | split | (clear_value *; split) | (with_reducible apply Keeps.upd_app_free)) <;> first | rfl); clear_value x) | skip)
    | (with_reducible first | assumption | exact Keeps.refl _ _ | apply Keeps.ite | apply Keeps.fold)
    | lift_lets -underBinder
    | split
    | (clear_value *; split)
    | (with_reducible apply Keeps.upd_app_free)
  all_goals first | rfl

theorem State.enterStandby_keeps {l : List Part} {s0 s : State}
    (hk : within [Part.regs, .writes, .ctl, .masts, .log, .key, .lane, .intake, .time, .pos, .fb, .app, .queue, .bridge, .stay, .net, .sup, .field, .upd, .standby, .mon, .free, .mem] l = true) (g : Keeps l s0 s) : Keeps l s0 (State.enterStandby s) := by
  refine Keeps.next (k := [Part.regs, .writes, .ctl, .masts, .log, .key, .lane, .intake, .time, .pos, .fb, .app, .queue, .bridge, .stay, .net, .sup, .field, .upd, .standby, .mon, .free, .mem]) (s := s) ?_ hk g
  clear hk g s0 l
  delta State.enterStandby
  try beta_reduce
  try lift_lets -underBinder
  repeat' first
    | (intro x; first | (have hx : Keeps [Part.regs, .writes, .ctl, .masts, .log, .key, .lane, .intake, .time, .pos, .fb, .app, .queue, .bridge, .stay, .net, .sup, .field, .upd, .standby, .mon, .free, .mem] s x := (by unfold x; (repeat' first | intro _ | (with_reducible first | assumption | exact Keeps.refl _ _ | apply Keeps.ite | apply Keeps.fold | apply State.writeCheckpoint_keeps | apply State.putF_keeps | apply State.changeMode_keeps | apply State.raise_keeps | apply State.goStandby_keeps | apply State.saveRetain_keeps) | lift_lets -underBinder | split | (clear_value *; split)) <;> first | rfl); clear_value x) | skip)
    | (with_reducible first | assumption | exact Keeps.refl _ _ | apply Keeps.ite | apply Keeps.fold | apply State.writeCheckpoint_keeps | apply State.putF_keeps | apply State.changeMode_keeps | apply State.raise_keeps | apply State.goStandby_keeps | apply State.saveRetain_keeps)
    | lift_lets -underBinder
    | split
    | (clear_value *; split)
  all_goals first | rfl

theorem State.dmaResume_keeps {l : List Part} {s0 s : State} (a1 : Sys2Proof.Mast) (a2 : Nat)
    (hk : within [Part.regs, .masts, .log, .lane, .queue, .mem] l = true) (g : Keeps l s0 s) : Keeps l s0 (State.dmaResume s a1 a2) := by
  refine Keeps.next (k := [Part.regs, .masts, .log, .lane, .queue, .mem]) (s := s) ?_ hk g
  clear hk g s0 l
  delta State.dmaResume
  try beta_reduce
  try lift_lets -underBinder
  repeat' first
    | (intro x; first | (have hx : Keeps [Part.regs, .masts, .log, .lane, .queue, .mem] s x := (by unfold x; (repeat' first | intro _ | (with_reducible first | assumption | exact Keeps.refl _ _ | apply Keeps.ite | apply Keeps.fold | apply State.setQueue_keeps | apply State.dmaRecord_keeps | refine State.dmaRecord_keeps_of (by assumption) ?_ ?_ | apply State.dmaGoOn_keeps) | lift_lets -underBinder | split | (clear_value *; split)) <;> first | rfl); clear_value x) | skip)
    | (with_reducible first | assumption | exact Keeps.refl _ _ | apply Keeps.ite | apply Keeps.fold | apply State.setQueue_keeps | apply State.dmaRecord_keeps | refine State.dmaRecord_keeps_of (by assumption) ?_ ?_ | apply State.dmaGoOn_keeps)
    | lift_lets -underBinder
    | split
    | (clear_value *; split)
  all_goals first | rfl

theorem State.noteViolation_keeps {l : List Part} {s0 s : State} (a1 : Nat) (a2 : Nat) (a3 : Nat)
    (hk : within [Part.regs, .sup] l = true) (g : Keeps l s0 s) : Keeps l s0 (State.noteViolation s a1 a2 a3) := by
  refine Keeps.next (k := [Part.regs, .sup]) (s := s) ?_ hk g
  clear hk g s0 l
  delta State.noteViolation
  try beta_reduce
  try lift_lets -underBinder
  repeat' first
    | (intro x; first | (have hx : Keeps [Part.regs, .sup] s x := (by unfold x; (repeat' first | intro _ | (with_reducible first | assumption | exact Keeps.refl _ _ | apply Keeps.ite | apply Keeps.fold | apply State.putF_keeps) | lift_lets -underBinder | split | (clear_value *; split) | (with_reducible apply Keeps.upd_sup)) <;> first | rfl); clear_value x) | skip)
    | (with_reducible first | assumption | exact Keeps.refl _ _ | apply Keeps.ite | apply Keeps.fold | apply State.putF_keeps)
    | lift_lets -underBinder
    | split
    | (clear_value *; split)
    | (with_reducible apply Keeps.upd_sup)
  all_goals first | rfl

theorem State.latchSpeed_keeps {l : List Part} {s0 s : State} (a1 : Sys2Proof.Mast) (a2 : Nat) (a3 : Nat) (a4 : Nat)
    (hk : within [Part.regs, .log, .sup] l = true) (g : Keeps l s0 s) : Keeps l s0 (State.latchSpeed s a1 a2 a3 a4) := by
  refine Keeps.next (k := [Part.regs, .log, .sup]) (s := s) ?_ hk g
  clear hk g s0 l
  delta State.latchSpeed
  try beta_reduce
  try lift_lets -underBinder
  repeat' first
    | (intro x; first | (have hx : Keeps [Part.regs, .log, .sup] s x := (by unfold x; (repeat' first | intro _ | (with_reducible first | assumption | exact Keeps.refl _ _ | apply Keeps.ite | apply Keeps.fold | apply State.noteViolation_keeps | apply State.raiseM_keeps | apply State.setSp_keeps) | lift_lets -underBinder | split | (clear_value *; split)) <;> first | rfl); clear_value x) | skip)
    | (with_reducible first | assumption | exact Keeps.refl _ _ | apply Keeps.ite | apply Keeps.fold | apply State.noteViolation_keeps | apply State.raiseM_keeps | apply State.setSp_keeps)
    | lift_lets -underBinder
    | split
    | (clear_value *; split)
  all_goals first | rfl

theorem State.judgeLimit_keeps {l : List Part} {s0 s : State} (a1 : Sys2Proof.Mast) (a2 : SpParams) (a3 : Nat)
    (hk : within [Part.regs, .log, .sup] l = true) (g : Keeps l s0 s) : Keeps l s0 (State.judgeLimit s a1 a2 a3) := by
  refine Keeps.next (k := [Part.regs, .log, .sup]) (s := s) ?_ hk g
  clear hk g s0 l
  delta State.judgeLimit
  try beta_reduce
  try lift_lets -underBinder
  repeat' first
    | (intro x; first | (have hx : Keeps [Part.regs, .log, .sup] s x := (by unfold x; (repeat' first | intro _ | (with_reducible first | assumption | exact Keeps.refl _ _ | apply Keeps.ite | apply Keeps.fold | apply State.setSp_keeps | apply State.latchSpeed_keeps) | lift_lets -underBinder | split | (clear_value *; split)) <;> first | rfl); clear_value x) | skip)
    | (with_reducible first | assumption | exact Keeps.refl _ _ | apply Keeps.ite | apply Keeps.fold | apply State.setSp_keeps | apply State.latchSpeed_keeps)
    | lift_lets -underBinder
    | split
    | (clear_value *; split)
  all_goals first | rfl

theorem State.spCopy_keeps {l : List Part} {s0 s : State} (a1 : Sys2Proof.Mast) (a2 : Sys2Proof.Mast)
    (hk : within [Part.pos, .sup] l = true) (g : Keeps l s0 s) : Keeps l s0 (State.spCopy s a1 a2) := by
  refine Keeps.next (k := [Part.pos, .sup]) (s := s) ?_ hk g
  clear hk g s0 l
  delta State.spCopy
  try beta_reduce
  try lift_lets -underBinder
  repeat' first
    | (intro x; first | (have hx : Keeps [Part.pos, .sup] s x := (by unfold x; (repeat' first | intro _ | (with_reducible first | assumption | exact Keeps.refl _ _ | apply Keeps.ite | apply Keeps.fold | apply State.setSp_keeps | apply State.setAxle_keeps) | lift_lets -underBinder | split | (clear_value *; split)) <;> first | rfl); clear_value x) | skip)
    | (with_reducible first | assumption | exact Keeps.refl _ _ | apply Keeps.ite | apply Keeps.fold | apply State.setSp_keeps | apply State.setAxle_keeps)
    | lift_lets -underBinder
    | split
    | (clear_value *; split)
  all_goals first | rfl

theorem State.copyBlocks_keeps {l : List Part} {s0 s : State} (a1 a2 : Mast)
    (hk : within [Part.regs, .masts, .lane, .intake, .time, .pos, .app, .queue, .net, .sup, .field, .mem] l = true) (g : Keeps l s0 s) : Keeps l s0 (State.copyBlocks s a1 a2) := by
  refine Keeps.next (k := [Part.regs, .masts, .lane, .intake, .time, .pos, .app, .queue, .net, .sup, .field, .mem]) (s := s) ?_ hk g
  delta State.copyBlocks
  lift_lets -underBinder
  intro s1 i own mine s2
  have h1 : Keeps [Part.regs, .masts, .lane, .intake, .time, .pos, .app, .queue, .net, .sup, .field, .mem] s s1 := State.spCopy_keeps a1 a2 rfl (Keeps.refl _ _)
  have h2 : Keeps [Part.regs, .masts, .lane, .intake, .time, .pos, .app, .queue, .net, .sup, .field, .mem] s s2 := by
    refine Keeps.fold (fun s e h => ?_) h1
    split
    · exact State.fabricStore_keeps _ _ _ rfl h
    · exact h
  clear_value s2
  refine ⟨sameBut_trans h2.frame ?_, fun c => ⟨RegFile.wf_copyMast _ _ _ (h2.canon c).1, (h2.canon c).2⟩, h2.clock⟩
  rw [sameBut_iff]; simp

theorem State.settleHold_keeps {l : List Part} {s0 s : State}
    (hk : within [Part.regs, .app] l = true) (g : Keeps l s0 s) : Keeps l s0 (State.settleHold s) := by
  refine Keeps.next (k := [Part.regs, .app]) (s := s) ?_ hk g
  clear hk g s0 l
  delta State.settleHold
  try beta_reduce
  try lift_lets -underBinder
  repeat' first
    | (intro x; first | (have hx : Keeps [Part.regs, .app] s x := (by unfold x; (repeat' first | intro _ | (with_reducible first | assumption | exact Keeps.refl _ _ | apply Keeps.ite | apply Keeps.fold | apply State.setRun_keeps) | lift_lets -underBinder | split | (clear_value *; split) | (with_reducible apply Keeps.upd_app)) <;> first | rfl); clear_value x) | skip)
    | (with_reducible first | assumption | exact Keeps.refl _ _ | apply Keeps.ite | apply Keeps.fold | apply State.setRun_keeps)
    | lift_lets -underBinder
    | split
    | (clear_value *; split)
    | (with_reducible apply Keeps.upd_app)
  all_goals first | rfl

theorem State.noteVolt_keeps {l : List Part} {s0 s : State} (a1 : Nat)
    (hk : within [Part.regs] l = true) (g : Keeps l s0 s) : Keeps l s0 (State.noteVolt s a1) := by
  refine Keeps.next (k := [Part.regs]) (s := s) ?_ hk g
  clear hk g s0 l
  delta State.noteVolt
  try beta_reduce
  repeat' first
    | intro _
    | (with_reducible first | assumption | exact Keeps.refl _ _ | apply Keeps.ite | apply Keeps.fold | apply State.putF_keeps)
    | split
    | (clear_value *; split)
  all_goals first | rfl

theorem State.refuseStep_keeps {l : List Part} {s0 s : State} (a1 : Int)
    (hk : within [Part.regs, .log, .time] l = true) (g : Keeps l s0 s) : Keeps l s0 (State.refuseStep s a1) := by
  refine Keeps.next (k := [Part.regs, .log, .time]) (s := s) ?_ hk g
  clear hk g s0 l
  delta State.refuseStep
  try beta_reduce
  repeat' first
    | intro _
    | (with_reducible first | assumption | exact Keeps.refl _ _ | apply Keeps.ite | apply Keeps.fold | apply State.raise_keeps | apply State.setServo_keeps)
    | split
    | (clear_value *; split)
  all_goals first | rfl

theorem State.sendEnds_keeps {l : List Part} {s0 s : State} (a1 : Join) (a2 : Bool)
    (hk : within [Part.lane, .free] l = true) (g : Keeps l s0 s) : Keeps l s0 (State.sendEnds s a1 a2) := by
  refine Keeps.next (k := [Part.lane, .free]) (s := s) ?_ hk g
  clear hk g s0 l
  delta State.sendEnds
  try beta_reduce
  try lift_lets -underBinder
  repeat' first
    | (intro x; first | (have hx : Keeps [Part.lane, .free] s x := (by unfold x; (repeat' first | intro _ | (with_reducible first | assumption | exact Keeps.refl _ _ | apply Keeps.ite | apply Keeps.fold) | lift_lets -underBinder | split | (clear_value *; split) | (with_reducible apply Keeps.upd_lane_free)) <;> first | rfl); clear_value x) | skip)
    | (with_reducible first | assumption | exact Keeps.refl _ _ | apply Keeps.ite | apply Keeps.fold)
    | lift_lets -underBinder
    | split
    | (clear_value *; split)
    | (with_reducible apply Keeps.upd_lane_free)
  all_goals first | rfl

theorem State.scatter_keeps {l : List Part} {s0 s : State} (m : Mast) (a : List Nat) (b : List Byte)
    (hk : within [Part.masts, .lane, .mem] l = true) (g : Keeps l s0 s) : Keeps l s0 (State.scatter s m a b) := by
  induction a generalizing s b with
  | nil => cases b <;> exact g
  | cons a as ih =>
    cases b with
    | nil => exact g
    | cons b bs => exact ih _ (State.fabricStore_keeps _ _ _ hk g)

theorem State.poolEmpty_keeps {l : List Part} {s0 s : State} (a1 : Sys2Proof.Mast)
    (hk : within [Part.regs, .log] l = true) (g : Keeps l s0 s) : Keeps l s0 (State.poolEmpty s a1) := by
  refine Keeps.next (k := [Part.regs, .log]) (s := s) ?_ hk g
  clear hk g s0 l
  delta State.poolEmpty
  try beta_reduce
  repeat' first
    | intro _
    | (with_reducible first | assumption | exact Keeps.refl _ _ | apply Keeps.ite | apply Keeps.fold | apply State.noteSummary_keeps | apply State.incF_keeps)
    | split
    | (clear_value *; split)
  all_goals first | rfl

theorem State.takeBuffer_keeps {l : List Part} {s0 s : State} (a1 : Sys2Proof.Mast) (a2 : Sys2Proof.Item)
    (hk : within [Part.regs, .masts, .log, .lane, .queue, .mem] l = true) (g : Keeps l s0 s) : Keeps l s0 (State.takeBuffer s a1 a2).2 := by
  refine Keeps.next (k := [Part.regs, .masts, .log, .lane, .queue, .mem]) (s := s) ?_ hk g
  clear hk g s0 l
  delta State.takeBuffer
  try beta_reduce
  try lift_lets -underBinder
  repeat' first
    | (intro x; first | (have hx : Keeps [Part.regs, .masts, .log, .lane, .queue, .mem] s x := (by unfold x; (repeat' first | intro _ | (with_reducible first | assumption | exact Keeps.refl _ _ | apply Keeps.ite | apply Keeps.fold | apply State.poolEmpty_keeps | apply State.showPool_keeps | apply State.setQueue_keeps | apply State.fabricStore_keeps) | lift_lets -underBinder | split | (clear_value *; split)) <;> first | rfl); clear_value x) | skip)
    | (with_reducible first | assumption | exact Keeps.refl _ _ | apply Keeps.ite | apply Keeps.fold | apply State.poolEmpty_keeps | apply State.showPool_keeps | apply State.setQueue_keeps | apply State.fabricStore_keeps)
    | lift_lets -underBinder
    | split
    | (clear_value *; split)
  all_goals first | rfl

theorem State.takeBuffer_keeps_of {l : List Part} {s0 s t : State} {a1 : Sys2Proof.Mast} {a2 : Sys2Proof.Item} {b} (e : State.takeBuffer s a1 a2 = (b, t))
    (hk : within [Part.regs, .masts, .log, .lane, .queue, .mem] l = true) (g : Keeps l s0 s) : Keeps l s0 t := by
  have h := State.takeBuffer_keeps a1 a2 hk g
  rw [e] at h; exact h

theorem State.ringItem_keeps {l : List Part} {s0 s : State} (a1 : Sys2Proof.Mast) (a2 : Nat) (a3 : Sys2Proof.Item) (a4 : Option Nat) (a5 : Nat)
    (hk : within [Part.regs, .masts, .log, .lane, .queue, .mem] l = true) (g : Keeps l s0 s) : Keeps l s0 (State.ringItem s a1 a2 a3 a4 a5) := by
  refine Keeps.next (k := [Part.regs, .masts, .log, .lane, .queue, .mem]) (s := s) ?_ hk g
  clear hk g s0 l
  delta State.ringItem
  try beta_reduce
  repeat' first
    | intro _
    | (with_reducible first | assumption | exact Keeps.refl _ _ | apply Keeps.ite | apply Keeps.fold | apply State.freeHeld_keeps | apply State.ringDrop_keeps | apply State.ringPush_keeps | apply State.takeBuffer_keeps | refine State.takeBuffer_keeps_of (by assumption) ?_ ?_)
    | split
    | (clear_value *; split)
  all_goals first | rfl

theorem State.forgetStaged_keeps {l : List Part} {s0 s : State} (a1 : Sys2Proof.Mast) (a2 : Sys2Proof.Item)
    (hk : within [Part.intake] l = true) (g : Keeps l s0 s) : Keeps l s0 (State.forgetStaged s a1 a2) := by
  refine Keeps.next (k := [Part.intake]) (s := s) ?_ hk g
  clear hk g s0 l
  delta State.forgetStaged
  try beta_reduce
  try lift_lets -underBinder
  repeat' first
    | (intro x; first | (have hx : Keeps [Part.intake] s x := (by unfold x; (repeat' first | intro _ | (with_reducible first | assumption | exact Keeps.refl _ _ | apply Keeps.ite | apply Keeps.fold | apply State.setIntake_keeps) | lift_lets -underBinder | split | (clear_value *; split)) <;> first | rfl); clear_value x) | skip)
    | (with_reducible first | assumption | exact Keeps.refl _ _ | apply Keeps.ite | apply Keeps.fold | apply State.setIntake_keeps)
    | lift_lets -underBinder
    | split
    | (clear_value *; split)
  all_goals first | rfl

theorem State.releaseRing_keeps {l : List Part} {s0 s : State} (a1 : Nat) (a2 : List Sys2Proof.Mast) (a3 : Sys2Proof.Item)
    (hk : within [Part.regs, .masts, .log, .lane, .intake, .queue, .mem] l = true) (g : Keeps l s0 s) : Keeps l s0 (State.releaseRing s a1 a2 a3) := by
  refine Keeps.next (k := [Part.regs, .masts, .log, .lane, .intake, .queue, .mem]) (s := s) ?_ hk g
  clear hk g s0 l
  delta State.releaseRing
  try beta_reduce
  try lift_lets -underBinder
  repeat' first
    | (intro x; first | (have hx : Keeps [Part.regs, .masts, .log, .lane, .intake, .queue, .mem] s x := (by unfold x; (repeat' first | intro _ | (with_reducible first | assumption | exact Keeps.refl _ _ | apply Keeps.ite | apply Keeps.fold | apply State.unstage_keeps | apply State.ringItem_keeps | apply State.forgetStaged_keeps) | lift_lets -underBinder | split | (clear_value *; split)) <;> first | rfl); clear_value x) | skip)
    | (with_reducible first | assumption | exact Keeps.refl _ _ | apply Keeps.ite | apply Keeps.fold | apply State.unstage_keeps | apply State.ringItem_keeps | apply State.forgetStaged_keeps)
    | lift_lets -underBinder
    | split
    | (clear_value *; split)
  all_goals first | rfl

theorem State.lineRefused_keeps {l : List Part} {s0 s : State} (a1 : List Sys2Proof.Byte) (a2 : Nat)
    (hk : within [Part.regs, .mon] l = true) (g : Keeps l s0 s) : Keeps l s0 (State.lineRefused s a1 a2) := by
  refine Keeps.next (k := [Part.regs, .mon]) (s := s) ?_ hk g
  clear hk g s0 l
  delta State.lineRefused
  try beta_reduce
  repeat' first
    | intro _
    | (with_reducible first | assumption | exact Keeps.refl _ _ | apply Keeps.ite | apply Keeps.fold | apply State.monAnswer_keeps | apply State.incF_keeps)
    | split
    | (clear_value *; split)
  all_goals first | rfl

theorem State.roundEnds_keeps {l : List Part} {s0 s : State} (a1 : Join) (a2 : Sys2Proof.Mast)
    (hk : within [Part.regs, .lane] l = true) (g : Keeps l s0 s) : Keeps l s0 (State.roundEnds s a1 a2) := by
  refine Keeps.next (k := [Part.regs, .lane]) (s := s) ?_ hk g
  clear hk g s0 l
  delta State.roundEnds
  try beta_reduce
  try lift_lets -underBinder
  repeat' first
    | (intro x; first | (have hx : Keeps [Part.regs, .lane] s x := (by unfold x; (repeat' first | intro _ | (with_reducible first | assumption | exact Keeps.refl _ _ | apply Keeps.ite | apply Keeps.fold | apply State.showPhase_keeps | apply State.setJoin_keeps) | lift_lets -underBinder | split | (clear_value *; split)) <;> first | rfl); clear_value x) | skip)
    | (with_reducible first | assumption | exact Keeps.refl _ _ | apply Keeps.ite | apply Keeps.fold | apply State.showPhase_keeps | apply State.setJoin_keeps)
    | lift_lets -underBinder
    | split
    | (clear_value *; split)
  all_goals first | rfl

theorem State.trialRecords_keeps {l : List Part} {s0 s : State} (a1 : Nat)
    (hk : within [Part.masts, .mem] l = true) (g : Keeps l s0 s) : Keeps l s0 (State.trialRecords s a1) := by
  refine Keeps.next (k := [Part.masts, .mem]) (s := s) ?_ hk g
  clear hk g s0 l
  delta State.trialRecords
  try beta_reduce
  repeat' first
    | intro _
    | (with_reducible first | assumption | exact Keeps.refl _ _ | apply Keeps.ite | apply Keeps.fold | apply State.changeRecord_keeps)
    | split
    | (clear_value *; split)
  all_goals first | rfl

theorem State.linkHeard_keeps {l : List Part} {s0 s : State} (a1 : Sys2Proof.Mast) (a2 : FieldLink)
    (hk : within [Part.field] l = true) (g : Keeps l s0 s) : Keeps l s0 (State.linkHeard s a1 a2) := by
  refine Keeps.next (k := [Part.field]) (s := s) ?_ hk g
  clear hk g s0 l
  delta State.linkHeard
  try beta_reduce
  try lift_lets -underBinder
  repeat' first
    | (intro x; first | (have hx : Keeps [Part.field] s x := (by unfold x; (repeat' first | intro _ | (with_reducible first | assumption | exact Keeps.refl _ _ | apply Keeps.ite | apply Keeps.fold) | lift_lets -underBinder | split | (clear_value *; split) | (with_reducible apply Keeps.upd_field)) <;> first | rfl); clear_value x) | skip)
    | (with_reducible first | assumption | exact Keeps.refl _ _ | apply Keeps.ite | apply Keeps.fold)
    | lift_lets -underBinder
    | split
    | (clear_value *; split)
    | (with_reducible apply Keeps.upd_field)
  all_goals first | rfl

theorem State.fetchFails_keeps {l : List Part} {s0 s : State} (a1 : Nat)
    (hk : within [Part.regs, .log] l = true) (g : Keeps l s0 s) : Keeps l s0 (State.fetchFails s a1) := by
  refine Keeps.next (k := [Part.regs, .log]) (s := s) ?_ hk g
  clear hk g s0 l
  delta State.fetchFails
  try beta_reduce
  try lift_lets -underBinder
  repeat' first
    | (intro x; first | (have hx : Keeps [Part.regs, .log] s x := (by unfold x; (repeat' first | intro _ | (with_reducible first | assumption | exact Keeps.refl _ _ | apply Keeps.ite | apply Keeps.fold | apply State.putF_keeps | apply State.raise_keeps) | lift_lets -underBinder | split | (clear_value *; split)) <;> first | rfl); clear_value x) | skip)
    | (with_reducible first | assumption | exact Keeps.refl _ _ | apply Keeps.ite | apply Keeps.fold | apply State.putF_keeps | apply State.raise_keeps)
    | lift_lets -underBinder
    | split
    | (clear_value *; split)
  all_goals first | rfl

theorem State.fetchInterrupted_keeps {l : List Part} {s0 s : State}
    (hk : within [Part.regs, .log] l = true) (g : Keeps l s0 s) : Keeps l s0 (State.fetchInterrupted s) := by
  refine Keeps.next (k := [Part.regs, .log]) (s := s) ?_ hk g
  clear hk g s0 l
  delta State.fetchInterrupted
  try beta_reduce
  repeat' first
    | intro _
    | (with_reducible first | assumption | exact Keeps.refl _ _ | apply Keeps.ite | apply Keeps.fold | apply State.fetchFails_keeps)
    | split
    | (clear_value *; split)
  all_goals first | rfl

theorem State.slSend_keeps {l : List Part} {s0 s : State} (a1 : Nat) (a2 : Nat) (a3 : Nat) (a4 : Nat) (a5 : List Sys2Proof.Byte)
    (hk : within [Part.stay] l = true) (g : Keeps l s0 s) : Keeps l s0 (State.slSend s a1 a2 a3 a4 a5) := by
  refine Keeps.next (k := [Part.stay]) (s := s) ?_ hk g
  clear hk g s0 l
  delta State.slSend
  try beta_reduce
  try lift_lets -underBinder
  repeat' first
    | (intro x; first | (have hx : Keeps [Part.stay] s x := (by unfold x; (repeat' first | intro _ | (with_reducible first | assumption | exact Keeps.refl _ _ | apply Keeps.ite | apply Keeps.fold) | lift_lets -underBinder | split | (clear_value *; split) | (with_reducible apply Keeps.upd_stay)) <;> first | rfl); clear_value x) | skip)
    | (with_reducible first | assumption | exact Keeps.refl _ _ | apply Keeps.ite | apply Keeps.fold)
    | lift_lets -underBinder
    | split
    | (clear_value *; split)
    | (with_reducible apply Keeps.upd_stay)
  all_goals first | rfl

theorem State.slSetMaster_keeps {l : List Part} {s0 s : State} (a1 : Nat)
    (hk : within [Part.regs, .log, .stay] l = true) (g : Keeps l s0 s) : Keeps l s0 (State.slSetMaster s a1) := by
  refine Keeps.next (k := [Part.regs, .log, .stay]) (s := s) ?_ hk g
  clear hk g s0 l
  delta State.slSetMaster
  try beta_reduce
  try lift_lets -underBinder
  repeat' first
    | (intro x; first | (have hx : Keeps [Part.regs, .log, .stay] s x := (by unfold x; (repeat' first | intro _ | (with_reducible first | assumption | exact Keeps.refl _ _ | apply Keeps.ite | apply Keeps.fold | apply State.fetchInterrupted_keeps | apply State.incF_keeps | apply State.raise_keeps | apply State.putF_keeps | apply State.slSend_keeps) | lift_lets -underBinder | split | (clear_value *; split)) <;> first | rfl); clear_value x) | skip)
    | (with_reducible first | assumption | exact Keeps.refl _ _ | apply Keeps.ite | apply Keeps.fold | apply State.fetchInterrupted_keeps | apply State.incF_keeps | apply State.raise_keeps | apply State.putF_keeps | apply State.slSend_keeps)
    | lift_lets -underBinder
    | split
    | (clear_value *; split)
  all_goals first | rfl

theorem State.slElect_keeps {l : List Part} {s0 s : State}
    (hk : within [Part.regs, .log, .stay] l = true) (g : Keeps l s0 s) : Keeps l s0 (State.slElect s) := by
  refine Keeps.next (k := [Part.regs, .log, .stay]) (s := s) ?_ hk g
  clear hk g s0 l
  delta State.slElect
  try beta_reduce
  repeat' first
    | intro _
    | (with_reducible first | assumption | exact Keeps.refl _ _ | apply Keeps.ite | apply Keeps.fold | apply State.slSetMaster_keeps)
    | split
    | (clear_value *; split)
  all_goals first | rfl

theorem State.pdQueue_keeps {l : List Part} {s0 s : State} (a1 : Nat) (a2 : Nat) (a3 : List Sys2Proof.Byte)
    (hk : within [Part.net] l = true) (g : Keeps l s0 s) : Keeps l s0 (State.pdQueue s a1 a2 a3) := by
  refine Keeps.next (k := [Part.net]) (s := s) ?_ hk g
  clear hk g s0 l
  delta State.pdQueue
  try beta_reduce
  try lift_lets -underBinder
  repeat' first
    | (intro x; first | (have hx : Keeps [Part.net] s x := (by unfold x; (repeat' first | intro _ | (with_reducible first | assumption | exact Keeps.refl _ _ | apply Keeps.ite | apply Keeps.fold) | lift_lets -underBinder | split | (clear_value *; split) | (with_reducible apply Keeps.upd_net)) <;> first | rfl); clear_value x) | skip)
    | (with_reducible first | assumption | exact Keeps.refl _ _ | apply Keeps.ite | apply Keeps.fold)
    | lift_lets -underBinder
    | split
    | (clear_value *; split)
    | (with_reducible apply Keeps.upd_net)
  all_goals first | rfl

theorem State.answerQuery_keeps {l : List Part} {s0 s : State} (a1 : Sys2Proof.Mast) (a2 : LogAnswer)
    (hk : within [Part.regs] l = true) (g : Keeps l s0 s) : Keeps l s0 (State.answerQuery s a1 a2) := by
  refine Keeps.next (k := [Part.regs]) (s := s) ?_ hk g
  clear hk g s0 l
  delta State.answerQuery
  try beta_reduce
  try lift_lets -underBinder
  repeat' first
    | (intro x; first | (have hx : Keeps [Part.regs] s x := (by unfold x; (repeat' first | intro _ | (with_reducible first | assumption | exact Keeps.refl _ _ | apply Keeps.ite | apply Keeps.fold | apply State.putF_keeps) | lift_lets -underBinder | split | (clear_value *; split)) <;> first | rfl); clear_value x) | skip)
    | (with_reducible first | assumption | exact Keeps.refl _ _ | apply Keeps.ite | apply Keeps.fold | apply State.putF_keeps)
    | lift_lets -underBinder
    | split
    | (clear_value *; split)
  all_goals first | rfl

theorem State.acceptPage_keeps {l : List Part} {s0 s : State} (a1 : Join) (a2 : Sys2Proof.PageRecord)
    (hk : within [Part.masts, .lane, .mem] l = true) (g : Keeps l s0 s) : Keeps l s0 (State.acceptPage s a1 a2) := by
  refine Keeps.next (k := [Part.masts, .lane, .mem]) (s := s) ?_ hk g
  clear hk g s0 l
  delta State.acceptPage
  try beta_reduce
  try lift_lets -underBinder
  repeat' first
    | (intro x; first | (have hx : Keeps [Part.masts, .lane, .mem] s x := (by unfold x; (repeat' first | intro _ | (with_reducible first | assumption | exact Keeps.refl _ _ | apply Keeps.ite | apply Keeps.fold | apply State.setJoin_keeps | apply State.store_keeps) | lift_lets -underBinder | split | (clear_value *; split)) <;> first | rfl); clear_value x) | skip)
    | (with_reducible first | assumption | exact Keeps.refl _ _ | apply Keeps.ite | apply Keeps.fold | apply State.setJoin_keeps | apply State.store_keeps)
    | lift_lets -underBinder
    | split
    | (clear_value *; split)
  all_goals first | rfl

theorem State.juryImage_keeps {l : List Part} {s0 s t : State} {k : KeyRead} {c : Bool}
    (e : State.juryImage s k c = some t) (hk : within [Part.regs, .masts, .log, .mem] l = true) (g : Keeps l s0 s) : Keeps l s0 t := by
  refine Keeps.next (k := [Part.regs, .masts, .log, .mem]) (s := s) ?_ hk g
  unfold State.juryImage at e
  split at e
  · cases e
  · split at e
    · cases e; exact State.placeImage_keeps _ _ rfl (Keeps.refl _ _)
    · split at e
      · cases e
        exact State.raise_keeps _ _ _ rfl (State.putF_keeps _ _ _ rfl (State.placeImage_keeps _ _ rfl (Keeps.refl _ _)))
      · cases e

theorem State.juryRecord_keeps {l : List Part} {s0 s : State} (a1 : Nat)
    (hk : within [Part.masts, .mem] l = true) (g : Keeps l s0 s) : Keeps l s0 (State.juryRecord s a1) := by
  refine Keeps.next (k := [Part.masts, .mem]) (s := s) ?_ hk g
  clear hk g s0 l
  delta State.juryRecord
  try beta_reduce
  try lift_lets -underBinder
  repeat' first
    | (intro x; first | (have hx : Keeps [Part.masts, .mem] s x := (by unfold x; (repeat' first | intro _ | (with_reducible first | assumption | exact Keeps.refl _ _ | apply Keeps.ite | apply Keeps.fold | apply Keeps.setMem) | lift_lets -underBinder | split | (clear_value *; split)) <;> first | rfl | (have hh := ‹canonical _›; simp only [Memory.wf_writeBytes, Memory.wf_writeBank, Memory.wf_erase, Memory.wf_markRange, Memory.wf_setErr, Memory.wf_clearSilence, Memory.wf_takeRange, Memory.wf_writeStore, Memory.wf_writeRecord, Memory.wf_putCells, hh.2])); clear_value x) | skip)
    | (with_reducible first | assumption | exact Keeps.refl _ _ | apply Keeps.ite | apply Keeps.fold | apply Keeps.setMem)
    | lift_lets -underBinder
    | split
    | (clear_value *; split)
  all_goals first | rfl | (have hh := ‹canonical _›; simp only [Memory.wf_writeBytes, Memory.wf_writeBank, Memory.wf_erase, Memory.wf_markRange, Memory.wf_setErr, Memory.wf_clearSilence, Memory.wf_takeRange, Memory.wf_writeStore, Memory.wf_writeRecord, Memory.wf_putCells, hh.2])

theorem State.romStep_keeps {l : List Part} {s0 s : State} (a1 : Join) (a2 : Sys2Proof.JuryFinding)
    (hk : within [Part.regs, .writes, .masts, .log, .lane, .intake, .time, .queue, .sup, .field, .mem] l = true) (g : Keeps l s0 s) : Keeps l s0 (State.romStep s a1 a2) := by
  refine Keeps.next (k := [Part.regs, .writes, .masts, .log, .lane, .intake, .time, .queue, .sup, .field, .mem]) (s := s) ?_ hk g
  clear hk g s0 l
  delta State.romStep
  try beta_reduce
  repeat' first
    | intro _
    | (with_reducible first | assumption | exact Keeps.refl _ _ | apply Keeps.ite | apply Keeps.fold | apply State.bootSilence_keeps | apply State.showPhase_keeps | apply State.setJoin_keeps | apply State.juryLinks_keeps | apply State.joinFail_keeps | refine State.juryImage_keeps (by assumption) ?_ ?_ | apply State.juryRecord_keeps)
    | split
    | (clear_value *; split)
  all_goals first | rfl

theorem State.putInputBit_keeps {l : List Part} {s0 s : State} (a1 : Nat) (a2 : Nat) (a3 : Nat) (a4 : Bool)
    (hk : within [Part.regs] l = true) (g : Keeps l s0 s) : Keeps l s0 (State.putInputBit s a1 a2 a3 a4) := by
  refine Keeps.next (k := [Part.regs]) (s := s) ?_ hk g
  clear hk g s0 l
  delta State.putInputBit
  try beta_reduce
  try lift_lets -underBinder
  repeat' first
    | (intro x; first | (have hx : Keeps [Part.regs] s x := (by unfold x; (repeat' first | intro _ | (with_reducible first | assumption | exact Keeps.refl _ _ | apply Keeps.ite | apply Keeps.fold | apply State.setReg_keeps) | lift_lets -underBinder | split | (clear_value *; split)) <;> first | rfl); clear_value x) | skip)
    | (with_reducible first | assumption | exact Keeps.refl _ _ | apply Keeps.ite | apply Keeps.fold | apply State.setReg_keeps)
    | lift_lets -underBinder
    | split
    | (clear_value *; split)
  all_goals first | rfl

theorem State.evalWindows_keeps {l : List Part} {s0 s : State} (a1 : Sys2Proof.Mast)
    (hk : within [Part.regs, .log, .sup] l = true) (g : Keeps l s0 s) : Keeps l s0 (State.evalWindows s a1) := by
  refine Keeps.next (k := [Part.regs, .log, .sup]) (s := s) ?_ hk g
  clear hk g s0 l
  delta State.evalWindows
  try beta_reduce
  try lift_lets -underBinder
  repeat' first
    | (intro x; first | (have hx : Keeps [Part.regs, .log, .sup] s x := (by unfold x; (repeat' first | intro _ | (with_reducible first | assumption | exact Keeps.refl _ _ | apply Keeps.ite | apply Keeps.fold | apply State.setSp_keeps | apply State.noteViolation_keeps | apply State.raiseM_keeps) | lift_lets -underBinder | split | (clear_value *; split)) <;> first | rfl); clear_value x) | skip)
    | (with_reducible first | assumption | exact Keeps.refl _ _ | apply Keeps.ite | apply Keeps.fold | apply State.setSp_keeps | apply State.noteViolation_keeps | apply State.raiseM_keeps)
    | lift_lets -underBinder
    | split
    | (clear_value *; split)
  all_goals first | rfl

theorem State.berthLost_keeps {l : List Part} {s0 s : State} (a1 : Sys2Proof.Mast) (a2 : Nat)
    (hk : within [Part.regs, .log, .sup] l = true) (g : Keeps l s0 s) : Keeps l s0 (State.berthLost s a1 a2) := by
  refine Keeps.next (k := [Part.regs, .log, .sup]) (s := s) ?_ hk g
  clear hk g s0 l
  delta State.berthLost
  try beta_reduce
  try lift_lets -underBinder
  repeat' first
    | (intro x; first | (have hx : Keeps [Part.regs, .log, .sup] s x := (by unfold x; (repeat' first | intro _ | (with_reducible first | assumption | exact Keeps.refl _ _ | apply Keeps.ite | apply Keeps.fold | apply State.evalWindows_keeps | apply State.raiseM_keeps | apply State.setSp_keeps) | lift_lets -underBinder | split | (clear_value *; split)) <;> first | rfl); clear_value x) | skip)
    | (with_reducible first | assumption | exact Keeps.refl _ _ | apply Keeps.ite | apply Keeps.fold | apply State.evalWindows_keeps | apply State.raiseM_keeps | apply State.setSp_keeps)
    | lift_lets -underBinder
    | split
    | (clear_value *; split)
  all_goals first | rfl

theorem State.checkDiscrepancy_keeps {l : List Part} {s0 s : State} (a1 : Sys2Proof.Mast)
    (hk : within [Part.regs, .log, .sup] l = true) (g : Keeps l s0 s) : Keeps l s0 (State.checkDiscrepancy s a1) := by
  refine Keeps.next (k := [Part.regs, .log, .sup]) (s := s) ?_ hk g
  clear hk g s0 l
  delta State.checkDiscrepancy
  try beta_reduce
  try lift_lets -underBinder
  repeat' first
    | (intro x; first | (have hx : Keeps [Part.regs, .log, .sup] s x := (by unfold x; (repeat' first | intro _ | (with_reducible first | assumption | exact Keeps.refl _ _ | apply Keeps.ite | apply Keeps.fold | apply State.berthLost_keeps) | lift_lets -underBinder | split | (clear_value *; split)) <;> first | rfl); clear_value x) | skip)
    | (with_reducible first | assumption | exact Keeps.refl _ _ | apply Keeps.ite | apply Keeps.fold | apply State.berthLost_keeps)
    | lift_lets -underBinder
    | split
    | (clear_value *; split)
  all_goals first | rfl

theorem State.spReference_keeps {l : List Part} {s0 s : State} (a1 : Nat)
    (hk : within [Part.regs, .log, .sup] l = true) (g : Keeps l s0 s) : Keeps l s0 (State.spReference s a1) := by
  refine Keeps.next (k := [Part.regs, .log, .sup]) (s := s) ?_ hk g
  clear hk g s0 l
  delta State.spReference
  try beta_reduce
  try lift_lets -underBinder
  repeat' first
    | (intro x; first | (have hx : Keeps [Part.regs, .log, .sup] s x := (by unfold x; (repeat' first | intro _ | (with_reducible first | assumption | exact Keeps.refl _ _ | apply Keeps.ite | apply Keeps.fold | apply State.showForce_keeps | apply State.berthLost_keeps | apply State.setSp_keeps | apply State.raiseM_keeps | apply State.evalWindows_keeps | apply State.checkDiscrepancy_keeps) | lift_lets -underBinder | split | (clear_value *; split)) <;> first | rfl); clear_value x) | skip)
    | (with_reducible first | assumption | exact Keeps.refl _ _ | apply Keeps.ite | apply Keeps.fold | apply State.showForce_keeps | apply State.berthLost_keeps | apply State.setSp_keeps | apply State.raiseM_keeps | apply State.evalWindows_keeps | apply State.checkDiscrepancy_keeps)
    | lift_lets -underBinder
    | split
    | (clear_value *; split)
  all_goals first | rfl

theorem State.spInput_keeps {l : List Part} {s0 s : State} (a1 : Nat) (a2 : Bool) (a3 : Bool) (a4 : Nat)
    (hk : within [Part.regs, .log, .sup] l = true) (g : Keeps l s0 s) : Keeps l s0 (State.spInput s a1 a2 a3 a4) := by
  refine Keeps.next (k := [Part.regs, .log, .sup]) (s := s) ?_ hk g
  clear hk g s0 l
  delta State.spInput
  try beta_reduce
  try lift_lets -underBinder
  repeat' first
    | (intro x; first | (have hx : Keeps [Part.regs, .log, .sup] s x := (by unfold x; (repeat' first | intro _ | (with_reducible first | assumption | exact Keeps.refl _ _ | apply Keeps.ite | apply Keeps.fold | apply State.spReference_keeps) | lift_lets -underBinder | split | (clear_value *; split) | (with_reducible apply Keeps.upd_sup)) <;> first | rfl); clear_value x) | skip)
    | (with_reducible first | assumption | exact Keeps.refl _ _ | apply Keeps.ite | apply Keeps.fold | apply State.spReference_keeps)
    | lift_lets -underBinder
    | split
    | (clear_value *; split)
    | (with_reducible apply Keeps.upd_sup)
  all_goals first | rfl

theorem State.spPair_keeps {l : List Part} {s0 s : State} (a1 : Nat) (a2 : Bool)
    (hk : within [Part.sup] l = true) (g : Keeps l s0 s) : Keeps l s0 (State.spPair s a1 a2) := by
  refine Keeps.next (k := [Part.sup]) (s := s) ?_ hk g
  clear hk g s0 l
  delta State.spPair
  try beta_reduce
  try lift_lets -underBinder
  repeat' first
    | (intro x; first | (have hx : Keeps [Part.sup] s x := (by unfold x; (repeat' first | intro _ | (with_reducible first | assumption | exact Keeps.refl _ _ | apply Keeps.ite | apply Keeps.fold) | lift_lets -underBinder | split | (clear_value *; split) | (with_reducible apply Keeps.upd_sup)) <;> first | rfl); clear_value x) | skip)
    | (with_reducible first | assumption | exact Keeps.refl _ _ | apply Keeps.ite | apply Keeps.fold)
    | lift_lets -underBinder
    | split
    | (clear_value *; split)
    | (with_reducible apply Keeps.upd_sup)
  all_goals first | rfl

theorem State.fieldRelease_keeps {l : List Part} {s0 s : State} (a1 : Sys2Proof.Item)
    (hk : within [Part.regs, .log, .sup, .field] l = true) (g : Keeps l s0 s) : Keeps l s0 (State.fieldRelease s a1) := by
  refine Keeps.next (k := [Part.regs, .log, .sup, .field]) (s := s) ?_ hk g
  clear hk g s0 l
  delta State.fieldRelease
  try beta_reduce
  try lift_lets -underBinder
  repeat' first
    | (intro x; first | (have hx : Keeps [Part.regs, .log, .sup, .field] s x := (by unfold x; (repeat' first | intro _ | (with_reducible first | assumption | exact Keeps.refl _ _ | apply Keeps.ite | apply Keeps.fold | apply State.putInputBit_keeps | apply State.spInput_keeps | apply State.putF_keeps | apply State.spPair_keeps | apply State.raiseLimited_keeps) | lift_lets -underBinder | split | (clear_value *; split) | (with_reducible apply Keeps.upd_field)) <;> first | rfl); clear_value x) | skip)
    | (with_reducible first | assumption | exact Keeps.refl _ _ | apply Keeps.ite | apply Keeps.fold | apply State.putInputBit_keeps | apply State.spInput_keeps | apply State.putF_keeps | apply State.spPair_keeps | apply State.raiseLimited_keeps)
    | lift_lets -underBinder
    | split
    | (clear_value *; split)
    | (with_reducible apply Keeps.upd_field)
  all_goals first | rfl

theorem State.lastClaim_keeps {l : List Part} {s0 s : State} (a1 : Nat) (a2 : Nat) (a3 : Nat) (a4 : Nat) (a5 : Nat)
    (hk : within [Part.regs] l = true) (g : Keeps l s0 s) : Keeps l s0 (State.lastClaim s a1 a2 a3 a4 a5) := by
  refine Keeps.next (k := [Part.regs]) (s := s) ?_ hk g
  clear hk g s0 l
  delta State.lastClaim
  try beta_reduce
  repeat' first
    | intro _
    | (with_reducible first | assumption | exact Keeps.refl _ _ | apply Keeps.ite | apply Keeps.fold | apply State.setReg_keeps)
    | split
    | (clear_value *; split)
  all_goals first | rfl

theorem State.fbJudgeGrant_keeps {l : List Part} {s0 s : State} (a1 : Nat) (a2 : FbView) (a3 : Nat)
    (hk : within [Part.regs, .log, .fb] l = true) (g : Keeps l s0 s) : Keeps l s0 (State.fbJudgeGrant s a1 a2 a3) := by
  refine Keeps.next (k := [Part.regs, .log, .fb]) (s := s) ?_ hk g
  clear hk g s0 l
  delta State.fbJudgeGrant
  try beta_reduce
  try lift_lets -underBinder
  repeat' first
    | (intro x; first | (have hx : Keeps [Part.regs, .log, .fb] s x := (by unfold x; (repeat' first | intro _ | (with_reducible first | assumption | exact Keeps.refl _ _ | apply Keeps.ite | apply Keeps.fold | apply State.setBus_keeps | apply State.incF_keeps | apply State.lastClaim_keeps | apply State.raise_keeps) | lift_lets -underBinder | split | (clear_value *; split)) <;> first | rfl); clear_value x) | skip)
    | (with_reducible first | assumption | exact Keeps.refl _ _ | apply Keeps.ite | apply Keeps.fold | apply State.setBus_keeps | apply State.incF_keeps | apply State.lastClaim_keeps | apply State.raise_keeps)
    | lift_lets -underBinder
    | split
    | (clear_value *; split)
  all_goals first | rfl

theorem State.recoveryFrame_keeps {l : List Part} {s0 s : State} (a1 : Nat) (a2 : List Sys2Proof.Byte) (a3 : Bool)
    (hk : within [Part.net] l = true) (g : Keeps l s0 s) : Keeps l s0 (State.recoveryFrame s a1 a2 a3) := by
  refine Keeps.next (k := [Part.net]) (s := s) ?_ hk g
  clear hk g s0 l
  delta State.recoveryFrame
  try beta_reduce
  try lift_lets -underBinder
  repeat' first
    | (intro x; first | (have hx : Keeps [Part.net] s x := (by unfold x; (repeat' first | intro _ | (with_reducible first | assumption | exact Keeps.refl _ _ | apply Keeps.ite | apply Keeps.fold | apply State.noteReply_keeps) | lift_lets -underBinder | split | (clear_value *; split)) <;> first | rfl); clear_value x) | skip)
    | (with_reducible first | assumption | exact Keeps.refl _ _ | apply Keeps.ite | apply Keeps.fold | apply State.noteReply_keeps)
    | lift_lets -underBinder
    | split
    | (clear_value *; split)
  all_goals first | rfl

theorem State.wakeMast_keeps {l : List Part} {s0 s : State} (a1 : Mast)
    (hk : within [Part.regs, .masts, .mem] l = true) (g : Keeps l s0 s) : Keeps l s0 (State.wakeMast s a1) :=
  Keeps.next (k := [Part.regs, .masts, .mem]) (s := s) (State.putF_keeps _ _ _ rfl
    (Keeps.setMast_mem _ _ (fun h => Memory.wf_clearSram _ (h.2 a1)) rfl (Keeps.refl _ _))) hk g

theorem State.endUpdate_keeps {l : List Part} {s0 s : State}
    (hk : within [Part.regs, .upd] l = true) (g : Keeps l s0 s) : Keeps l s0 (State.endUpdate s) := by
  refine Keeps.next (k := [Part.regs, .upd]) (s := s) ?_ hk g
  clear hk g s0 l
  delta State.endUpdate
  try beta_reduce
  repeat' first
    | intro _
    | (with_reducible first | assumption | exact Keeps.refl _ _ | apply Keeps.ite | apply Keeps.fold | apply State.setPhase_keeps | apply State.setSession_keeps)
    | split
    | (clear_value *; split)
  all_goals first | rfl

theorem State.activateSlot_keeps {l : List Part} {s0 s : State} (a1 : State → State) (a2 : Nat) (a3 : BootEnv)
    (ht : ∀ s, Keeps [Part.now, .regs, .shown, .writes, .ctl, .masts, .log, .key, .lane, .intake, .time, .pos, .fb, .app, .queue, .bridge, .stay, .net, .sup, .field, .upd, .supply, .panel, .standby, .mon, .free, .mem] s (a1 s))
    (hk : within [Part.now, .regs, .shown, .writes, .ctl, .masts, .log, .key, .lane, .intake, .time, .pos, .fb, .app, .queue, .bridge, .stay, .net, .sup, .field, .upd, .supply, .panel, .standby, .mon, .free, .mem] l = true) (g : Keeps l s0 s) : Keeps l s0 (State.activateSlot s a1 a2 a3) := by
  refine Keeps.next (k := [Part.now, .regs, .shown, .writes, .ctl, .masts, .log, .key, .lane, .intake, .time, .pos, .fb, .app, .queue, .bridge, .stay, .net, .sup, .field, .upd, .supply, .panel, .standby, .mon, .free, .mem]) (s := s) ?_ hk g
  unfold State.activateSlot
  refine State.moduleReset_keeps _ _ rfl (State.endUpdate_keeps rfl (Keeps.next (ht _) rfl ?_))
  exact State.raise_keeps _ _ _ rfl (State.trialRecords_keeps _ rfl (Keeps.refl _ _))

theorem State.stepAside_keeps {l : List Part} {s0 s : State}
    (hk : within [Part.regs, .writes, .masts, .log, .lane, .intake, .time, .app, .queue, .bridge, .sup, .field, .mem] l = true) (g : Keeps l s0 s) : Keeps l s0 (State.stepAside s) := by
  refine Keeps.next (k := [Part.regs, .writes, .masts, .log, .lane, .intake, .time, .app, .queue, .bridge, .sup, .field, .mem]) (s := s) ?_ hk g
  clear hk g s0 l
  delta State.stepAside
  try beta_reduce
  try lift_lets -underBinder
  repeat' first
    | (intro x; first | (have hx : Keeps [Part.regs, .writes, .masts, .log, .lane, .intake, .time, .app, .queue, .bridge, .sup, .field, .mem] s x := (by unfold x; (repeat' first | intro _ | (with_reducible first | assumption | exact Keeps.refl _ _ | apply Keeps.ite | apply Keeps.fold | apply State.dropMast_keeps | apply Keeps.setMast | apply State.cutPower_keeps | apply State.crossbar_keeps | apply State.forcedHandovers_keeps | apply State.setLane_keeps) | lift_lets -underBinder | split | (clear_value *; split) | (with_reducible apply Keeps.upd_lane)) <;> first | rfl); clear_value x) | skip)
    | (with_reducible first | assumption | exact Keeps.refl _ _ | apply Keeps.ite | apply Keeps.fold | apply State.dropMast_keeps | apply Keeps.setMast | apply State.cutPower_keeps | apply State.crossbar_keeps | apply State.forcedHandovers_keeps | apply State.setLane_keeps)
    | lift_lets -underBinder
    | split
    | (clear_value *; split)
    | (with_reducible apply Keeps.upd_lane)
  all_goals first | rfl

theorem State.juryWrites_keeps {l : List Part} {s0 s : State} (a1 : Nat)
    (hk : within [Part.masts, .mem] l = true) (g : Keeps l s0 s) : Keeps l s0 (State.juryWrites s a1) := by
  refine Keeps.next (k := [Part.masts, .mem]) (s := s) ?_ hk g
  clear hk g s0 l
  delta State.juryWrites
  try beta_reduce
  repeat' first
    | intro _
    | (with_reducible first | assumption | exact Keeps.refl _ _ | apply Keeps.ite | apply Keeps.fold | apply Keeps.setMem)
    | split
    | (clear_value *; split)
  all_goals first | rfl | (have hh := ‹canonical _›; simp only [Memory.wf_writeBytes, Memory.wf_writeBank, Memory.wf_erase, Memory.wf_markRange, Memory.wf_setErr, Memory.wf_clearSilence, Memory.wf_takeRange, Memory.wf_writeStore, Memory.wf_writeRecord, Memory.wf_putCells, hh.2])

theorem State.juryTurn_keeps {l : List Part} {s0 s : State} (a1 : Nat) (a2 : Sys2Proof.JuryFinding)
    (hk : within [Part.regs, .writes, .masts, .log, .lane, .intake, .time, .app, .queue, .bridge, .sup, .field, .mem] l = true) (g : Keeps l s0 s) : Keeps l s0 (State.juryTurn s a1 a2).1 := by
  refine Keeps.next (k := [Part.regs, .writes, .masts, .log, .lane, .intake, .time, .app, .queue, .bridge, .sup, .field, .mem]) (s := s) ?_ hk g
  clear hk g s0 l
  delta State.juryTurn
  try beta_reduce
  try lift_lets -underBinder
  repeat' first
    | (intro x; first | (have hx : Keeps [Part.regs, .writes, .masts, .log, .lane, .intake, .time, .app, .queue, .bridge, .sup, .field, .mem] s x := (by unfold x; (repeat' first | intro _ | (with_reducible first | assumption | exact Keeps.refl _ _ | apply Keeps.ite | apply Keeps.fold | apply State.stepAside_keeps | apply State.raise_keeps | apply State.juryWrites_keeps) | lift_lets -underBinder | split | (clear_value *; split)) <;> first | rfl); clear_value x) | skip)
    | (with_reducible first | assumption | exact Keeps.refl _ _ | apply Keeps.ite | apply Keeps.fold | apply State.stepAside_keeps | apply State.raise_keeps | apply State.juryWrites_keeps)
    | lift_lets -underBinder
    | split
    | (clear_value *; split)
  all_goals first | rfl

theorem State.juryTurn_keeps_of {l : List Part} {s0 s t : State} {a1 : Nat} {a2 : Sys2Proof.JuryFinding} {b} (e : State.juryTurn s a1 a2 = (t, b))
    (hk : within [Part.regs, .writes, .masts, .log, .lane, .intake, .time, .app, .queue, .bridge, .sup, .field, .mem] l = true) (g : Keeps l s0 s) : Keeps l s0 t := by
  have h := State.juryTurn_keeps a1 a2 hk g
  rw [e] at h; exact h

theorem State.activateWith_keeps {l : List Part} {s0 s : State} (a1 : State → State) (a2 : Nat) (a3 : Bool) (a4 : JuryFinding)
    (a5 : Option Mast) (a6 : BootEnv) (ht : ∀ s, Keeps [Part.now, .regs, .shown, .writes, .ctl, .masts, .log, .key, .lane, .intake, .time, .pos, .fb, .app, .queue, .bridge, .stay, .net, .sup, .field, .upd, .supply, .panel, .standby, .mon, .free, .mem] s (a1 s))
    (hk : within [Part.now, .regs, .shown, .writes, .ctl, .masts, .log, .key, .lane, .intake, .time, .pos, .fb, .app, .queue, .bridge, .stay, .net, .sup, .field, .upd, .supply, .panel, .standby, .mon, .free, .mem] l = true) (g : Keeps l s0 s) : Keeps l s0 (State.activateWith s a1 a2 a3 a4 a5 a6) := by
  refine Keeps.next (k := [Part.now, .regs, .shown, .writes, .ctl, .masts, .log, .key, .lane, .intake, .time, .pos, .fb, .app, .queue, .bridge, .stay, .net, .sup, .field, .upd, .supply, .panel, .standby, .mon, .free, .mem]) (s := s) ?_ hk g
  unfold State.activateWith
  split
  · exact State.upDone_keeps _ _ _ rfl (Keeps.refl _ _)
  · split
    · exact State.upDone_keeps _ _ _ rfl (Keeps.refl _ _)
    · split
      · exact State.activateSlot_keeps _ _ _ ht rfl (State.upDone_keeps _ _ _ rfl (Keeps.refl _ _))
      · split
        · exact State.applyLoss_keeps _ _ _ rfl (State.stepAside_keeps rfl (Keeps.refl _ _))
        · dsimp only
          have h := State.juryTurn_keeps (s0 := s) (s := s) (l := [Part.now, .regs, .shown, .writes, .ctl, .masts, .log, .key, .lane, .intake, .time, .pos, .fb, .app, .queue, .bridge, .stay, .net, .sup, .field, .upd, .supply, .panel, .standby, .mon, .free, .mem]) (1 - s.activeSlot) a4 rfl (Keeps.refl _ _)
          split
          · exact State.activateSlot_keeps _ _ _ ht rfl (State.upDone_keeps _ _ _ rfl h)
          · exact State.moduleReset_keeps _ _ rfl (State.endUpdate_keeps rfl (State.upDone_keeps _ _ _ rfl h))

theorem State.activate_keeps {l : List Part} {s0 s : State} (a1 : Nat) (a2 : Bool) (a3 : JuryFinding) (a4 : Option Mast)
    (a5 : BootEnv) (hk : within [Part.now, .regs, .shown, .writes, .ctl, .masts, .log, .key, .lane, .intake, .time, .pos, .fb, .app, .queue, .bridge, .stay, .net, .sup, .field, .upd, .supply, .panel, .standby, .mon, .free, .mem] l = true) (g : Keeps l s0 s) : Keeps l s0 (State.activate s a1 a2 a3 a4 a5) :=
  State.activateWith_keeps _ _ _ _ _ _ (fun _ => Keeps.refl _ _) hk g

theorem State.requestSilent_keeps {l : List Part} {s0 s : State} (a1 : Sys2Proof.Mast) (a2 : Nat)
    (hk : within [Part.regs, .masts, .lane, .time, .mem] l = true) (g : Keeps l s0 s) : Keeps l s0 (State.requestSilent s a1 a2) := by
  refine Keeps.next (k := [Part.regs, .masts, .lane, .time, .mem]) (s := s) ?_ hk g
  clear hk g s0 l
  delta State.requestSilent
  try beta_reduce
  repeat' first
    | intro _
    | (with_reducible first | assumption | exact Keeps.refl _ _ | apply Keeps.ite | apply Keeps.fold | apply State.goSilent_keeps)
    | split
    | (clear_value *; split)
  all_goals first | rfl

theorem State.posRepair_keeps {l : List Part} {s0 s : State} (a1 : Sys2Proof.Mast) (a2 : Nat) (a3 : Nat) (a4 : Int)
    (hk : within [Part.regs, .masts, .log, .lane, .time, .pos, .mem] l = true) (g : Keeps l s0 s) : Keeps l s0 (State.posRepair s a1 a2 a3 a4) := by
  refine Keeps.next (k := [Part.regs, .masts, .log, .lane, .time, .pos, .mem]) (s := s) ?_ hk g
  clear hk g s0 l
  delta State.posRepair
  try beta_reduce
  try lift_lets -underBinder
  repeat' first
    | (intro x; first | (have hx : Keeps [Part.regs, .masts, .log, .lane, .time, .pos, .mem] s x := (by unfold x; (repeat' first | intro _ | (with_reducible first | assumption | exact Keeps.refl _ _ | apply Keeps.ite | apply Keeps.fold | apply State.setAxle_keeps | apply State.incF_keeps | apply State.raiseM_keeps | apply State.requestSilent_keeps) | lift_lets -underBinder | split | (clear_value *; split)) <;> first | rfl); clear_value x) | skip)
    | (with_reducible first | assumption | exact Keeps.refl _ _ | apply Keeps.ite | apply Keeps.fold | apply State.setAxle_keeps | apply State.incF_keeps | apply State.raiseM_keeps | apply State.requestSilent_keeps)
    | lift_lets -underBinder
    | split
    | (clear_value *; split)
  all_goals first | rfl

theorem State.posRelease_keeps {l : List Part} {s0 s : State} (a1 : Sys2Proof.Item)
    (hk : within [Part.regs, .masts, .log, .lane, .time, .pos, .mem] l = true) (g : Keeps l s0 s) : Keeps l s0 (State.posRelease s a1) := by
  refine Keeps.next (k := [Part.regs, .masts, .log, .lane, .time, .pos, .mem]) (s := s) ?_ hk g
  clear hk g s0 l
  delta State.posRelease
  try beta_reduce
  try lift_lets -underBinder
  repeat' first
    | (intro x; first | (have hx : Keeps [Part.regs, .masts, .log, .lane, .time, .pos, .mem] s x := (by unfold x; (repeat' first | intro _ | (with_reducible first | assumption | exact Keeps.refl _ _ | apply Keeps.ite | apply Keeps.fold | apply State.posRepair_keeps) | lift_lets -underBinder | split | (clear_value *; split)) <;> first | rfl); clear_value x) | skip)
    | (with_reducible first | assumption | exact Keeps.refl _ _ | apply Keeps.ite | apply Keeps.fold | apply State.posRepair_keeps)
    | lift_lets -underBinder
    | split
    | (clear_value *; split)
  all_goals first | rfl

theorem State.inputChange_keeps {l : List Part} {s0 s : State} (a1 : Nat) (a2 : FieldIn)
    (hk : within [Part.field] l = true) (g : Keeps l s0 s) : Keeps l s0 (State.inputChange s a1 a2) := by
  refine Keeps.next (k := [Part.field]) (s := s) ?_ hk g
  clear hk g s0 l
  delta State.inputChange
  try beta_reduce
  try lift_lets -underBinder
  repeat' first
    | (intro x; first | (have hx : Keeps [Part.field] s x := (by unfold x; (repeat' first | intro _ | (with_reducible first | assumption | exact Keeps.refl _ _ | apply Keeps.ite | apply Keeps.fold | apply State.fieldItem_keeps) | lift_lets -underBinder | split | (clear_value *; split) | (with_reducible apply Keeps.upd_field)) <;> first | rfl); clear_value x) | skip)
    | (with_reducible first | assumption | exact Keeps.refl _ _ | apply Keeps.ite | apply Keeps.fold | apply State.fieldItem_keeps)
    | lift_lets -underBinder
    | split
    | (clear_value *; split)
    | (with_reducible apply Keeps.upd_field)
  all_goals first | rfl

theorem State.cmpRefuse_keeps {l : List Part} {s0 s : State} (a1 : Sys2Proof.Mast) (a2 : Nat) (a3 : Nat)
    (hk : within [Part.regs, .log] l = true) (g : Keeps l s0 s) : Keeps l s0 (State.cmpRefuse s a1 a2 a3) := by
  refine Keeps.next (k := [Part.regs, .log]) (s := s) ?_ hk g
  clear hk g s0 l
  delta State.cmpRefuse
  try beta_reduce
  repeat' first
    | intro _
    | (with_reducible first | assumption | exact Keeps.refl _ _ | apply Keeps.ite | apply Keeps.fold | apply State.raiseM_keeps | apply State.putF_keeps)
    | split
    | (clear_value *; split)
  all_goals first | rfl

theorem State.releaseHold_keeps {l : List Part} {s0 s : State}
    (hk : within [Part.regs, .lane] l = true) (g : Keeps l s0 s) : Keeps l s0 (State.releaseHold s) := by
  refine Keeps.next (k := [Part.regs, .lane]) (s := s) ?_ hk g
  clear hk g s0 l
  delta State.releaseHold
  try beta_reduce
  try lift_lets -underBinder
  repeat' first
    | (intro x; first | (have hx : Keeps [Part.regs, .lane] s x := (by unfold x; (repeat' first | intro _ | (with_reducible first | assumption | exact Keeps.refl _ _ | apply Keeps.ite | apply Keeps.fold | apply State.putF_keeps) | lift_lets -underBinder | split | (clear_value *; split) | (with_reducible apply Keeps.upd_lane)) <;> first | rfl); clear_value x) | skip)
    | (with_reducible first | assumption | exact Keeps.refl _ _ | apply Keeps.ite | apply Keeps.fold | apply State.putF_keeps)
    | lift_lets -underBinder
    | split
    | (clear_value *; split)
    | (with_reducible apply Keeps.upd_lane)
  all_goals first | rfl

theorem State.enterJury_keeps {l : List Part} {s0 s : State} (a1 : Join)
    (hk : within [Part.regs, .masts, .log, .lane, .intake, .time, .pos, .app, .queue, .net, .sup, .field, .mem] l = true) (g : Keeps l s0 s) : Keeps l s0 (State.enterJury s a1) := by
  refine Keeps.next (k := [Part.regs, .masts, .log, .lane, .intake, .time, .pos, .app, .queue, .net, .sup, .field, .mem]) (s := s) ?_ hk g
  clear hk g s0 l
  delta State.enterJury
  try beta_reduce
  try lift_lets -underBinder
  repeat' first
    | (intro x; first | (have hx : Keeps [Part.regs, .masts, .log, .lane, .intake, .time, .pos, .app, .queue, .net, .sup, .field, .mem] s x := (by unfold x; (repeat' first | intro _ | (with_reducible first | assumption | exact Keeps.refl _ _ | apply Keeps.ite | apply Keeps.fold | apply State.copyBlocks_keeps | apply State.crossbar_keeps | apply State.setLane_keeps | apply State.releaseHold_keeps | apply State.normalHandovers_keeps | apply State.putF_keeps | apply State.incF_keeps | apply State.raise_keeps | apply State.showPhase_keeps) | lift_lets -underBinder | split | (clear_value *; split) | (with_reducible apply Keeps.upd_lane)) <;> first | rfl); clear_value x) | skip)
    | (with_reducible first | assumption | exact Keeps.refl _ _ | apply Keeps.ite | apply Keeps.fold | apply State.copyBlocks_keeps | apply State.crossbar_keeps | apply State.setLane_keeps | apply State.releaseHold_keeps | apply State.normalHandovers_keeps | apply State.putF_keeps | apply State.incF_keeps | apply State.raise_keeps | apply State.showPhase_keeps)
    | lift_lets -underBinder
    | split
    | (clear_value *; split)
    | (with_reducible apply Keeps.upd_lane)
  all_goals first | rfl

theorem State.exitAtInstant_keeps {l : List Part} {s0 s : State}
    (hk : within [Part.regs, .masts, .log, .lane, .intake, .time, .mem] l = true) (g : Keeps l s0 s) : Keeps l s0 (State.exitAtInstant s) := by
  refine Keeps.next (k := [Part.regs, .masts, .log, .lane, .intake, .time, .mem]) (s := s) ?_ hk g
  clear hk g s0 l
  delta State.exitAtInstant
  try beta_reduce
  try lift_lets -underBinder
  repeat' first
    | (intro x; first | (have hx : Keeps [Part.regs, .masts, .log, .lane, .intake, .time, .mem] s x := (by unfold x; (repeat' first | intro _ | (with_reducible first | assumption | exact Keeps.refl _ _ | apply Keeps.ite | apply Keeps.fold | apply State.requestSilent_keeps | apply State.itErr_keeps | apply State.incF_keeps | apply State.raise_keeps) | lift_lets -underBinder | split | (clear_value *; split) | (with_reducible apply Keeps.upd_intake) | (with_reducible apply Keeps.upd_lane)) <;> first | rfl); clear_value x) | skip)
    | (with_reducible first | assumption | exact Keeps.refl _ _ | apply Keeps.ite | apply Keeps.fold | apply State.requestSilent_keeps | apply State.itErr_keeps | apply State.incF_keeps | apply State.raise_keeps)
    | lift_lets -underBinder
    | split
    | (clear_value *; split)
    | (with_reducible apply Keeps.upd_intake)
    | (with_reducible apply Keeps.upd_lane)
  all_goals first | rfl

theorem State.writeLater_keeps {l : List Part} {s0 s : State} (a1 : Sys2Proof.Mast) (a2 : Nat) (a3 : Sys2Proof.Word)
    (hk : within [Part.writes] l = true) (g : Keeps l s0 s) : Keeps l s0 (State.writeLater s a1 a2 a3) := by
  refine Keeps.next (k := [Part.writes]) (s := s) ?_ hk g
  clear hk g s0 l
  delta State.writeLater
  try beta_reduce
  try lift_lets -underBinder
  repeat' first
    | (intro x; first | (have hx : Keeps [Part.writes] s x := (by unfold x; (repeat' first | intro _ | (with_reducible first | assumption | exact Keeps.refl _ _ | apply Keeps.ite | apply Keeps.fold) | lift_lets -underBinder | split | (clear_value *; split) | (with_reducible apply Keeps.upd_writes)) <;> first | rfl); clear_value x) | skip)
    | (with_reducible first | assumption | exact Keeps.refl _ _ | apply Keeps.ite | apply Keeps.fold)
    | lift_lets -underBinder
    | split
    | (clear_value *; split)
    | (with_reducible apply Keeps.upd_writes)
  all_goals first | rfl

theorem State.stage_keeps {l : List Part} {s0 s : State} (a1 : Sys2Proof.Mast) (a2 : Sys2Proof.Item) (a3 : Option Nat)
    (hk : within [Part.intake] l = true) (g : Keeps l s0 s) : Keeps l s0 (State.stage s a1 a2 a3) := by
  refine Keeps.next (k := [Part.intake]) (s := s) ?_ hk g
  clear hk g s0 l
  delta State.stage
  try beta_reduce
  try lift_lets -underBinder
  repeat' first
    | (intro x; first | (have hx : Keeps [Part.intake] s x := (by unfold x; (repeat' first | intro _ | (with_reducible first | assumption | exact Keeps.refl _ _ | apply Keeps.ite | apply Keeps.fold | apply State.setIntake_keeps) | lift_lets -underBinder | split | (clear_value *; split)) <;> first | rfl); clear_value x) | skip)
    | (with_reducible first | assumption | exact Keeps.refl _ _ | apply Keeps.ite | apply Keeps.fold | apply State.setIntake_keeps)
    | lift_lets -underBinder
    | split
    | (clear_value *; split)
  all_goals first | rfl

theorem State.followMaster_keeps {l : List Part} {s0 s : State} (a1 : Heard)
    (hk : within [Part.regs, .log, .time] l = true) (g : Keeps l s0 s) : Keeps l s0 (State.followMaster s a1) := by
  refine Keeps.next (k := [Part.regs, .log, .time]) (s := s) ?_ hk g
  clear hk g s0 l
  delta State.followMaster
  try beta_reduce
  try lift_lets -underBinder
  repeat' first
    | (intro x; first | (have hx : Keeps [Part.regs, .log, .time] s x := (by unfold x; (repeat' first | intro _ | (with_reducible first | assumption | exact Keeps.refl _ _ | apply Keeps.ite | apply Keeps.fold | apply State.putF_keeps | apply State.raise_keeps | apply State.incF_keeps) | lift_lets -underBinder | split | (clear_value *; split) | (with_reducible apply Keeps.upd_time)) <;> first | rfl); clear_value x) | skip)
    | (with_reducible first | assumption | exact Keeps.refl _ _ | apply Keeps.ite | apply Keeps.fold | apply State.putF_keeps | apply State.raise_keeps | apply State.incF_keeps)
    | lift_lets -underBinder
    | split
    | (clear_value *; split)
    | (with_reducible apply Keeps.upd_time)
  all_goals first | rfl

theorem State.judgeDirection_keeps {l : List Part} {s0 s : State} (a1 : Sys2Proof.Mast) (a2 : SpParams) (a3 : Nat)
    (hk : within [Part.regs, .log, .sup] l = true) (g : Keeps l s0 s) : Keeps l s0 (State.judgeDirection s a1 a2 a3) := by
  refine Keeps.next (k := [Part.regs, .log, .sup]) (s := s) ?_ hk g
  clear hk g s0 l
  delta State.judgeDirection
  try beta_reduce
  try lift_lets -underBinder
  repeat' first
    | (intro x; first | (have hx : Keeps [Part.regs, .log, .sup] s x := (by unfold x; (repeat' first | intro _ | (with_reducible first | assumption | exact Keeps.refl _ _ | apply Keeps.ite | apply Keeps.fold | apply State.setSp_keeps | apply State.noteViolation_keeps | apply State.raiseM_keeps) | lift_lets -underBinder | split | (clear_value *; split)) <;> first | rfl); clear_value x) | skip)
    | (with_reducible first | assumption | exact Keeps.refl _ _ | apply Keeps.ite | apply Keeps.fold | apply State.setSp_keeps | apply State.noteViolation_keeps | apply State.raiseM_keeps)
    | lift_lets -underBinder
    | split
    | (clear_value *; split)
  all_goals first | rfl

theorem State.arrivalTrunc_keeps {l : List Part} {s0 s : State} (a1 : Mast) (a2 : Item)
    (hk : within [Part.regs, .masts, .log, .lane, .queue, .mem] l = true) (g : Keeps l s0 s) : Keeps l s0 (State.arrivalTrunc s a1 a2) := by
  refine Keeps.next (k := [Part.regs, .masts, .log, .lane, .queue, .mem]) (s := s) ?_ hk g
  delta State.arrivalTrunc
  lift_lets -underBinder
  intro cut s1
  have h1 : Keeps [Part.regs, .masts, .log, .lane, .queue, .mem] s s1 := by
    unfold s1
    split
    · exact State.freeBuffer_keeps _ _ rfl (State.takeBuffer_keeps_of (by assumption) rfl (Keeps.refl _ _))
    · exact State.takeBuffer_keeps_of (by assumption) rfl (Keeps.refl _ _)
  intros
  refine Keeps.ite (State.raiseLimited_keeps _ _ _ _ _ rfl ?_) h1
  exact State.putF_keeps _ _ _ rfl (State.putF_keeps _ _ _ rfl (State.incF_keeps _ _ _ rfl h1))

theorem State.arrivalFail_keeps {l : List Part} {s0 s : State} (a1 : Sys2Proof.Mast) (a2 : Sys2Proof.Item)
    (hk : within [Part.regs, .log] l = true) (g : Keeps l s0 s) : Keeps l s0 (State.arrivalFail s a1 a2) := by
  refine Keeps.next (k := [Part.regs, .log]) (s := s) ?_ hk g
  clear hk g s0 l
  delta State.arrivalFail
  try beta_reduce
  try lift_lets -underBinder
  repeat' first
    | (intro x; first | (have hx : Keeps [Part.regs, .log] s x := (by unfold x; (repeat' first | intro _ | (with_reducible first | assumption | exact Keeps.refl _ _ | apply Keeps.ite | apply Keeps.fold | apply State.itErr_keeps | apply State.incF_keeps | apply State.raiseLimited_keeps) | lift_lets -underBinder | split | (clear_value *; split)) <;> first | rfl); clear_value x) | skip)
    | (with_reducible first | assumption | exact Keeps.refl _ _ | apply Keeps.ite | apply Keeps.fold | apply State.itErr_keeps | apply State.incF_keeps | apply State.raiseLimited_keeps)
    | lift_lets -underBinder
    | split
    | (clear_value *; split)
  all_goals first | rfl

theorem State.answerTaken_keeps {l : List Part} {s0 s : State} (a1 : Sys2Proof.Per Bool) (a2 : Sys2Proof.Item)
    (hk : within [Part.regs, .intake] l = true) (g : Keeps l s0 s) : Keeps l s0 (State.answerTaken s a1 a2) := by
  refine Keeps.next (k := [Part.regs, .intake]) (s := s) ?_ hk g
  clear hk g s0 l
  delta State.answerTaken
  try beta_reduce
  try lift_lets -underBinder
  repeat' first
    | (intro x; first | (have hx : Keeps [Part.regs, .intake] s x := (by unfold x; (repeat' first | intro _ | (with_reducible first | assumption | exact Keeps.refl _ _ | apply Keeps.ite | apply Keeps.fold | apply State.incF_keeps) | lift_lets -underBinder | split | (clear_value *; split) | (with_reducible apply Keeps.upd_intake)) <;> first | rfl); clear_value x) | skip)
    | (with_reducible first | assumption | exact Keeps.refl _ _ | apply Keeps.ite | apply Keeps.fold | apply State.incF_keeps)
    | lift_lets -underBinder
    | split
    | (clear_value *; split)
    | (with_reducible apply Keeps.upd_intake)
  all_goals first | rfl

theorem State.answerAgreed_keeps {l : List Part} {s0 s : State} (a1 : Nat) (a2 : Nat) (a3 : Nat)
    (hk : within [Part.masts, .bridge] l = true) (g : Keeps l s0 s) : Keeps l s0 (State.answerAgreed s a1 a2 a3) := by
  refine Keeps.next (k := [Part.masts, .bridge]) (s := s) ?_ hk g
  clear hk g s0 l
  delta State.answerAgreed
  try beta_reduce
  try lift_lets -underBinder
  repeat' first
    | (intro x; first | (have hx : Keeps [Part.masts, .bridge] s x := (by unfold x; (repeat' first | intro _ | (with_reducible first | assumption | exact Keeps.refl _ _ | apply Keeps.ite | apply Keeps.fold | apply State.answerWaiting_keeps) | lift_lets -underBinder | split | (clear_value *; split) | (with_reducible apply Keeps.upd_bridge)) <;> first | rfl); clear_value x) | skip)
    | (with_reducible first | assumption | exact Keeps.refl _ _ | apply Keeps.ite | apply Keeps.fold | apply State.answerWaiting_keeps)
    | lift_lets -underBinder
    | split
    | (clear_value *; split)
    | (with_reducible apply Keeps.upd_bridge)
  all_goals first | rfl

theorem State.answerArrives_keeps {l : List Part} {s0 s : State} (a1 : Sys2Proof.Mast) (a2 : Sys2Proof.Item)
    (hk : within [Part.regs, .masts, .intake, .bridge] l = true) (g : Keeps l s0 s) : Keeps l s0 (State.answerArrives s a1 a2) := by
  refine Keeps.next (k := [Part.regs, .masts, .intake, .bridge]) (s := s) ?_ hk g
  clear hk g s0 l
  delta State.answerArrives
  try beta_reduce
  try lift_lets -underBinder
  repeat' first
    | (intro x; first | (have hx : Keeps [Part.regs, .masts, .intake, .bridge] s x := (by unfold x; (repeat' first | intro _ | (with_reducible first | assumption | exact Keeps.refl _ _ | apply Keeps.ite | apply Keeps.fold | apply State.answerTaken_keeps | apply State.answerAgreed_keeps) | lift_lets -underBinder | split | (clear_value *; split) | (with_reducible apply Keeps.upd_bridge)) <;> first | rfl); clear_value x) | skip)
    | (with_reducible first | assumption | exact Keeps.refl _ _ | apply Keeps.ite | apply Keeps.fold | apply State.answerTaken_keeps | apply State.answerAgreed_keeps)
    | lift_lets -underBinder
    | split
    | (clear_value *; split)
    | (with_reducible apply Keeps.upd_bridge)
  all_goals first | rfl

theorem State.arrive_keeps {l : List Part} {s0 s : State} (a1 : Sys2Proof.Mast) (a2 : Sys2Proof.Item)
    (hk : within [Part.regs, .masts, .log, .lane, .intake, .queue, .bridge, .mem] l = true) (g : Keeps l s0 s) : Keeps l s0 (State.arrive s a1 a2) := by
  refine Keeps.next (k := [Part.regs, .masts, .log, .lane, .intake, .queue, .bridge, .mem]) (s := s) ?_ hk g
  clear hk g s0 l
  delta State.arrive
  try beta_reduce
  try lift_lets -underBinder
  repeat' first
    | (intro x; first | (have hx : Keeps [Part.regs, .masts, .log, .lane, .intake, .queue, .bridge, .mem] s x := (by unfold x; (repeat' first | intro _ | (with_reducible first | assumption | exact Keeps.refl _ _ | apply Keeps.ite | apply Keeps.fold | apply State.arrivalTrunc_keeps | apply State.arrivalFail_keeps | apply State.answerArrives_keeps | apply State.itErr_keeps | apply State.incF_keeps | apply State.raiseM_keeps | apply State.takeBuffer_keeps | refine State.takeBuffer_keeps_of (by assumption) ?_ ?_ | apply State.stage_keeps) | lift_lets -underBinder | split | (clear_value *; split)) <;> first | rfl); clear_value x) | skip)
    | (with_reducible first | assumption | exact Keeps.refl _ _ | apply Keeps.ite | apply Keeps.fold | apply State.arrivalTrunc_keeps | apply State.arrivalFail_keeps | apply State.answerArrives_keeps | apply State.itErr_keeps | apply State.incF_keeps | apply State.raiseM_keeps | apply State.takeBuffer_keeps | refine State.takeBuffer_keeps_of (by assumption) ?_ ?_ | apply State.stage_keeps)
    | lift_lets -underBinder
    | split
    | (clear_value *; split)
  all_goals first | rfl

theorem State.bridgeAtInstant_keeps {l : List Part} {s0 s : State}
    (hk : within [Part.bridge] l = true) (g : Keeps l s0 s) : Keeps l s0 (State.bridgeAtInstant s) := by
  refine Keeps.next (k := [Part.bridge]) (s := s) ?_ hk g
  clear hk g s0 l
  delta State.bridgeAtInstant
  try beta_reduce
  try lift_lets -underBinder
  repeat' first
    | (intro x; first | (have hx : Keeps [Part.bridge] s x := (by unfold x; (repeat' first | intro _ | (with_reducible first | assumption | exact Keeps.refl _ _ | apply Keeps.ite | apply Keeps.fold) | lift_lets -underBinder | split | (clear_value *; split) | (with_reducible apply Keeps.upd_bridge)) <;> first | rfl); clear_value x) | skip)
    | (with_reducible first | assumption | exact Keeps.refl _ _ | apply Keeps.ite | apply Keeps.fold)
    | lift_lets -underBinder
    | split
    | (clear_value *; split)
    | (with_reducible apply Keeps.upd_bridge)
  all_goals first | rfl

theorem State.inAnswer_keeps {l : List Part} {s0 s : State} (a1 : InAnswer)
    (hk : within [Part.regs, .bridge] l = true) (g : Keeps l s0 s) : Keeps l s0 (State.inAnswer s a1) := by
  refine Keeps.next (k := [Part.regs, .bridge]) (s := s) ?_ hk g
  clear hk g s0 l
  delta State.inAnswer
  try beta_reduce
  try lift_lets -underBinder
  repeat' first
    | (intro x; first | (have hx : Keeps [Part.regs, .bridge] s x := (by unfold x; (repeat' first | intro _ | (with_reducible first | assumption | exact Keeps.refl _ _ | apply Keeps.ite | apply Keeps.fold | apply State.incF_keeps) | lift_lets -underBinder | split | (clear_value *; split) | (with_reducible apply Keeps.upd_bridge)) <;> first | rfl); clear_value x) | skip)
    | (with_reducible first | assumption | exact Keeps.refl _ _ | apply Keeps.ite | apply Keeps.fold | apply State.incF_keeps)
    | lift_lets -underBinder
    | split
    | (clear_value *; split)
    | (with_reducible apply Keeps.upd_bridge)
  all_goals first | rfl

theorem State.odoFault_keeps {l : List Part} {s0 s : State} (a1 : Sys2Proof.Mast) (a2 : Nat) (a3 : Nat)
    (hk : within [Part.regs, .log, .sup] l = true) (g : Keeps l s0 s) : Keeps l s0 (State.odoFault s a1 a2 a3) := by
  refine Keeps.next (k := [Part.regs, .log, .sup]) (s := s) ?_ hk g
  clear hk g s0 l
  delta State.odoFault
  try beta_reduce
  try lift_lets -underBinder
  repeat' first
    | (intro x; first | (have hx : Keeps [Part.regs, .log, .sup] s x := (by unfold x; (repeat' first | intro _ | (with_reducible first | assumption | exact Keeps.refl _ _ | apply Keeps.ite | apply Keeps.fold | apply State.raiseM_keeps | apply State.setSp_keeps | apply State.berthLost_keeps | apply State.noteViolation_keeps) | lift_lets -underBinder | split | (clear_value *; split)) <;> first | rfl); clear_value x) | skip)
    | (with_reducible first | assumption | exact Keeps.refl _ _ | apply Keeps.ite | apply Keeps.fold | apply State.raiseM_keeps | apply State.setSp_keeps | apply State.berthLost_keeps | apply State.noteViolation_keeps)
    | lift_lets -underBinder
    | split
    | (clear_value *; split)
  all_goals first | rfl

theorem State.wakeSupervisors_keeps {l : List Part} {s0 s : State}
    (hk : within [Part.regs, .log, .sup] l = true) (g : Keeps l s0 s) : Keeps l s0 (State.wakeSupervisors s) := by
  refine Keeps.next (k := [Part.regs, .log, .sup]) (s := s) ?_ hk g
  clear hk g s0 l
  delta State.wakeSupervisors
  try beta_reduce
  try lift_lets -underBinder
  repeat' first
    | (intro x; first | (have hx : Keeps [Part.regs, .log, .sup] s x := (by unfold x; (repeat' first | intro _ | (with_reducible first | assumption | exact Keeps.refl _ _ | apply Keeps.ite | apply Keeps.fold | apply State.safetyLoad_keeps | apply State.showForce_keeps | apply State.odoFault_keeps) | lift_lets -underBinder | split | (clear_value *; split)) <;> first | rfl); clear_value x) | skip)
    | (with_reducible first | assumption | exact Keeps.refl _ _ | apply Keeps.ite | apply Keeps.fold | apply State.safetyLoad_keeps | apply State.showForce_keeps | apply State.odoFault_keeps)
    | lift_lets -underBinder
    | split
    | (clear_value *; split)
  all_goals first | rfl

theorem State.alone_keeps {l : List Part} {s0 s : State}
    (hk : within [Part.regs, .masts, .lane, .time, .mem] l = true) (g : Keeps l s0 s) : Keeps l s0 (State.alone s) := by
  refine Keeps.next (k := [Part.regs, .masts, .lane, .time, .mem]) (s := s) ?_ hk g
  clear hk g s0 l
  delta State.alone
  try beta_reduce
  repeat' first
    | intro _
    | (with_reducible first | assumption | exact Keeps.refl _ _ | apply Keeps.ite | apply Keeps.fold | apply State.requestSilent_keeps)
    | split
    | (clear_value *; split)
  all_goals first | rfl

theorem State.slConflict_keeps {l : List Part} {s0 s : State}
    (hk : within [Part.regs, .log, .stay] l = true) (g : Keeps l s0 s) : Keeps l s0 (State.slConflict s) := by
  refine Keeps.next (k := [Part.regs, .log, .stay]) (s := s) ?_ hk g
  clear hk g s0 l
  delta State.slConflict
  try beta_reduce
  try lift_lets -underBinder
  repeat' first
    | (intro x; first | (have hx : Keeps [Part.regs, .log, .stay] s x := (by unfold x; (repeat' first | intro _ | (with_reducible first | assumption | exact Keeps.refl _ _ | apply Keeps.ite | apply Keeps.fold | apply State.slBypass_keeps | apply State.raise_keeps) | lift_lets -underBinder | split | (clear_value *; split) | (with_reducible apply Keeps.upd_stay)) <;> first | rfl); clear_value x) | skip)
    | (with_reducible first | assumption | exact Keeps.refl _ _ | apply Keeps.ite | apply Keeps.fold | apply State.slBypass_keeps | apply State.raise_keeps)
    | lift_lets -underBinder
    | split
    | (clear_value *; split)
    | (with_reducible apply Keeps.upd_stay)
  all_goals first | rfl

theorem State.posTake_keeps {l : List Part} {s0 s : State} (a1 : Sys2Proof.LanePos) (a2 : Nat)
    (hk : within [Part.regs, .log, .field] l = true) (g : Keeps l s0 s) : Keeps l s0 (State.posTake s a1 a2) := by
  refine Keeps.next (k := [Part.regs, .log, .field]) (s := s) ?_ hk g
  clear hk g s0 l
  delta State.posTake
  try beta_reduce
  try lift_lets -underBinder
  repeat' first
    | (intro x; first | (have hx : Keeps [Part.regs, .log, .field] s x := (by unfold x; (repeat' first | intro _ | (with_reducible first | assumption | exact Keeps.refl _ _ | apply Keeps.ite | apply Keeps.fold | apply State.revote_keeps) | lift_lets -underBinder | split | (clear_value *; split) | (with_reducible apply Keeps.upd_field)) <;> first | rfl); clear_value x) | skip)
    | (with_reducible first | assumption | exact Keeps.refl _ _ | apply Keeps.ite | apply Keeps.fold | apply State.revote_keeps)
    | lift_lets -underBinder
    | split
    | (clear_value *; split)
    | (with_reducible apply Keeps.upd_field)
  all_goals first | rfl

theorem State.slMismatch_keeps {l : List Part} {s0 s : State} (a1 : SlMember)
    (hk : within [Part.regs, .log, .time] l = true) (g : Keeps l s0 s) : Keeps l s0 (State.slMismatch s a1) := by
  refine Keeps.next (k := [Part.regs, .log, .time]) (s := s) ?_ hk g
  clear hk g s0 l
  delta State.slMismatch
  try beta_reduce
  try lift_lets -underBinder
  repeat' first
    | (intro x; first | (have hx : Keeps [Part.regs, .log, .time] s x := (by unfold x; (repeat' first | intro _ | (with_reducible first | assumption | exact Keeps.refl _ _ | apply Keeps.ite | apply Keeps.fold | apply State.raise_keeps | apply State.putF_keeps) | lift_lets -underBinder | split | (clear_value *; split) | (with_reducible apply Keeps.upd_time)) <;> first | rfl); clear_value x) | skip)
    | (with_reducible first | assumption | exact Keeps.refl _ _ | apply Keeps.ite | apply Keeps.fold | apply State.raise_keeps | apply State.putF_keeps)
    | lift_lets -underBinder
    | split
    | (clear_value *; split)
    | (with_reducible apply Keeps.upd_time)
  all_goals first | rfl

theorem State.keepContainer_keeps {l : List Part} {s0 s : State} (a1 : Sys2Proof.Mast) (a2 : Nat) (a3 : Nat) (a4 : List Sys2Proof.Byte)
    (hk : within [Part.masts, .mem] l = true) (g : Keeps l s0 s) : Keeps l s0 (State.keepContainer s a1 a2 a3 a4) := by
  refine Keeps.next (k := [Part.masts, .mem]) (s := s) ?_ hk g
  clear hk g s0 l
  delta State.keepContainer
  try beta_reduce
  try lift_lets -underBinder
  repeat' first
    | (intro x; first | (have hx : Keeps [Part.masts, .mem] s x := (by unfold x; (repeat' first | intro _ | (with_reducible first | assumption | exact Keeps.refl _ _ | apply Keeps.ite | apply Keeps.fold | apply Keeps.setMem) | lift_lets -underBinder | split | (clear_value *; split)) <;> first | rfl | (have hh := ‹canonical _›; simp only [Memory.wf_writeBytes, Memory.wf_writeBank, Memory.wf_erase, Memory.wf_markRange, Memory.wf_setErr, Memory.wf_clearSilence, Memory.wf_takeRange, Memory.wf_writeStore, Memory.wf_writeRecord, Memory.wf_putCells, hh.2])); clear_value x) | skip)
    | (with_reducible first | assumption | exact Keeps.refl _ _ | apply Keeps.ite | apply Keeps.fold | apply Keeps.setMem)
    | lift_lets -underBinder
    | split
    | (clear_value *; split)
  all_goals first | rfl | (have hh := ‹canonical _›; simp only [Memory.wf_writeBytes, Memory.wf_writeBank, Memory.wf_erase, Memory.wf_markRange, Memory.wf_setErr, Memory.wf_clearSilence, Memory.wf_takeRange, Memory.wf_writeStore, Memory.wf_writeRecord, Memory.wf_putCells, hh.2])

theorem State.fbCommit_keeps {l : List Part} {s0 s : State} (a1 : List Sys2Proof.Item)
    (hk : within [Part.regs, .log, .fb] l = true) (g : Keeps l s0 s) : Keeps l s0 (State.fbCommit s a1) := by
  refine Keeps.next (k := [Part.regs, .log, .fb]) (s := s) ?_ hk g
  clear hk g s0 l
  delta State.fbCommit
  try beta_reduce
  try lift_lets -underBinder
  repeat' first
    | (intro x; first | (have hx : Keeps [Part.regs, .log, .fb] s x := (by unfold x; (repeat' first | intro _ | (with_reducible first | assumption | exact Keeps.refl _ _ | apply Keeps.ite | apply Keeps.fold | apply State.incF_keeps | apply State.raiseLimited_keeps | apply State.setBus_keeps) | lift_lets -underBinder | split | (clear_value *; split)) <;> first | rfl); clear_value x) | skip)
    | (with_reducible first | assumption | exact Keeps.refl _ _ | apply Keeps.ite | apply Keeps.fold | apply State.incF_keeps | apply State.raiseLimited_keeps | apply State.setBus_keeps)
    | lift_lets -underBinder
    | split
    | (clear_value *; split)
  all_goals first | rfl

theorem State.commitAtInstant_keeps {l : List Part} {s0 s : State}
    (hk : within [Part.regs, .log, .lane, .fb] l = true) (g : Keeps l s0 s) : Keeps l s0 (State.commitAtInstant s) := by
  refine Keeps.next (k := [Part.regs, .log, .lane, .fb]) (s := s) ?_ hk g
  clear hk g s0 l
  delta State.commitAtInstant
  try beta_reduce
  try lift_lets -underBinder
  repeat' first
    | (intro x; first | (have hx : Keeps [Part.regs, .log, .lane, .fb] s x := (by unfold x; (repeat' first | intro _ | (with_reducible first | assumption | exact Keeps.refl _ _ | apply Keeps.ite | apply Keeps.fold | apply State.putF_keeps | apply State.fbCommit_keeps) | lift_lets -underBinder | split | (clear_value *; split) | (with_reducible apply Keeps.upd_lane)) <;> first | rfl); clear_value x) | skip)
    | (with_reducible first | assumption | exact Keeps.refl _ _ | apply Keeps.ite | apply Keeps.fold | apply State.putF_keeps | apply State.fbCommit_keeps)
    | lift_lets -underBinder
    | split
    | (clear_value *; split)
    | (with_reducible apply Keeps.upd_lane)
  all_goals first | rfl

theorem State.forcesAtInstant_keeps {l : List Part} {s0 s : State}
    (hk : within [Part.regs, .log, .app] l = true) (g : Keeps l s0 s) : Keeps l s0 (State.forcesAtInstant s) := by
  refine Keeps.next (k := [Part.regs, .log, .app]) (s := s) ?_ hk g
  clear hk g s0 l
  delta State.forcesAtInstant
  try beta_reduce
  try lift_lets -underBinder
  repeat' first
    | (intro x; first | (have hx : Keeps [Part.regs, .log, .app] s x := (by unfold x; (repeat' first | intro _ | (with_reducible first | assumption | exact Keeps.refl _ _ | apply Keeps.ite | apply Keeps.fold | apply State.putF_keeps | apply State.releaseForce_keeps) | lift_lets -underBinder | split | (clear_value *; split) | (with_reducible apply Keeps.upd_app)) <;> first | rfl); clear_value x) | skip)
    | (with_reducible first | assumption | exact Keeps.refl _ _ | apply Keeps.ite | apply Keeps.fold | apply State.putF_keeps | apply State.releaseForce_keeps)
    | lift_lets -underBinder
    | split
    | (clear_value *; split)
    | (with_reducible apply Keeps.upd_app)
  all_goals first | rfl

theorem State.appAtInstant_keeps {l : List Part} {s0 s : State}
    (hk : within [Part.regs, .writes, .ctl, .masts, .log, .key, .lane, .intake, .fb, .app, .queue, .bridge, .stay, .net, .sup, .field, .upd, .mon, .mem] l = true) (g : Keeps l s0 s) : Keeps l s0 (State.appAtInstant s) := by
  refine Keeps.next (k := [Part.regs, .writes, .ctl, .masts, .log, .key, .lane, .intake, .fb, .app, .queue, .bridge, .stay, .net, .sup, .field, .upd, .mon, .mem]) (s := s) ?_ hk g
  clear hk g s0 l
  delta State.appAtInstant
  try beta_reduce
  try lift_lets -underBinder
  repeat' first
    | (intro x; first | (have hx : Keeps [Part.regs, .writes, .ctl, .masts, .log, .key, .lane, .intake, .fb, .app, .queue, .bridge, .stay, .net, .sup, .field, .upd, .mon, .mem] s x := (by unfold x; (repeat' first | intro _ | (with_reducible first | assumption | exact Keeps.refl _ _ | apply Keeps.ite | apply Keeps.fold | apply State.putF_keeps | apply State.enterStop_keeps | apply State.setRun_keeps | apply State.raise_keeps) | lift_lets -underBinder | split | (clear_value *; split) | (with_reducible apply Keeps.upd_app)) <;> first | rfl); clear_value x) | skip)
    | (with_reducible first | assumption | exact Keeps.refl _ _ | apply Keeps.ite | apply Keeps.fold | apply State.putF_keeps | apply State.enterStop_keeps | apply State.setRun_keeps | apply State.raise_keeps)
    | lift_lets -underBinder
    | split
    | (clear_value *; split)
    | (with_reducible apply Keeps.upd_app)
  all_goals first | rfl

theorem State.deferJoin_keeps {l : List Part} {s0 s : State} (a1 : Join) (a2 : Bool)
    (hk : within [Part.regs, .log, .lane] l = true) (g : Keeps l s0 s) : Keeps l s0 (State.deferJoin s a1 a2) := by
  refine Keeps.next (k := [Part.regs, .log, .lane]) (s := s) ?_ hk g
  clear hk g s0 l
  delta State.deferJoin
  try beta_reduce
  try lift_lets -underBinder
  repeat' first
    | (intro x; first | (have hx : Keeps [Part.regs, .log, .lane] s x := (by unfold x; (repeat' first | intro _ | (with_reducible first | assumption | exact Keeps.refl _ _ | apply Keeps.ite | apply Keeps.fold | apply State.raise_keeps | apply State.putF_keeps | apply State.incF_keeps | apply State.setJoin_keeps | apply State.showPhase_keeps | apply State.releaseHold_keeps) | lift_lets -underBinder | split | (clear_value *; split)) <;> first | rfl); clear_value x) | skip)
    | (with_reducible first | assumption | exact Keeps.refl _ _ | apply Keeps.ite | apply Keeps.fold | apply State.raise_keeps | apply State.putF_keeps | apply State.incF_keeps | apply State.setJoin_keeps | apply State.showPhase_keeps | apply State.releaseHold_keeps)
    | lift_lets -underBinder
    | split
    | (clear_value *; split)
  all_goals first | rfl

theorem State.joinBoundary_keeps {l : List Part} {s0 s : State} (a1 : Join)
    (hk : within [Part.regs, .lane, .free] l = true) (g : Keeps l s0 s) : Keeps l s0 (State.joinBoundary s a1) := by
  refine Keeps.next (k := [Part.regs, .lane, .free]) (s := s) ?_ hk g
  clear hk g s0 l
  delta State.joinBoundary
  try beta_reduce
  try lift_lets -underBinder
  repeat' first
    | (intro x; first | (have hx : Keeps [Part.regs, .lane, .free] s x := (by unfold x; (repeat' first | intro _ | (with_reducible first | assumption | exact Keeps.refl _ _ | apply Keeps.ite | apply Keeps.fold | apply State.setJoin_keeps | apply State.sendEnds_keeps | apply State.putF_keeps | apply State.showPhase_keeps) | lift_lets -underBinder | split | (clear_value *; split) | (with_reducible apply Keeps.upd_lane)) <;> first | rfl); clear_value x) | skip)
    | (with_reducible first | assumption | exact Keeps.refl _ _ | apply Keeps.ite | apply Keeps.fold | apply State.setJoin_keeps | apply State.sendEnds_keeps | apply State.putF_keeps | apply State.showPhase_keeps)
    | lift_lets -underBinder
    | split
    | (clear_value *; split)
    | (with_reducible apply Keeps.upd_lane)
  all_goals first | rfl

theorem State.trailingRound_keeps {l : List Part} {s0 s : State} (a1 : Join)
    (hk : within [Part.lane, .free] l = true) (g : Keeps l s0 s) : Keeps l s0 (State.trailingRound s a1) := by
  refine Keeps.next (k := [Part.lane, .free]) (s := s) ?_ hk g
  clear hk g s0 l
  delta State.trailingRound
  try beta_reduce
  repeat' first
    | intro _
    | (with_reducible first | assumption | exact Keeps.refl _ _ | apply Keeps.ite | apply Keeps.fold | apply State.sendEnds_keeps | apply State.setJoin_keeps)
    | split
    | (clear_value *; split)
  all_goals first | rfl

theorem State.roundsAtInstant_keeps {l : List Part} {s0 s : State}
    (hk : within [Part.regs, .masts, .log, .lane, .intake, .time, .pos, .app, .queue, .net, .sup, .field, .free, .mem] l = true) (g : Keeps l s0 s) : Keeps l s0 (State.roundsAtInstant s) := by
  refine Keeps.next (k := [Part.regs, .masts, .log, .lane, .intake, .time, .pos, .app, .queue, .net, .sup, .field, .free, .mem]) (s := s) ?_ hk g
  clear hk g s0 l
  delta State.roundsAtInstant
  try beta_reduce
  repeat' first
    | intro _
    | (with_reducible first | assumption | exact Keeps.refl _ _ | apply Keeps.ite | apply Keeps.fold | apply State.deferJoin_keeps | apply State.enterJury_keeps | apply State.joinBoundary_keeps | apply State.trailingRound_keeps)
    | split
    | (clear_value *; split)
  all_goals first | rfl

theorem State.juryRom_keeps {l : List Part} {s0 s : State} (a1 : Bool)
    (hk : within [Part.regs, .writes, .masts, .log, .lane, .intake, .time, .queue, .sup, .field, .mem] l = true) (g : Keeps l s0 s) : Keeps l s0 (State.juryRom s a1) := by
  refine Keeps.next (k := [Part.regs, .writes, .masts, .log, .lane, .intake, .time, .queue, .sup, .field, .mem]) (s := s) ?_ hk g
  clear hk g s0 l
  delta State.juryRom
  try beta_reduce
  repeat' first
    | intro _
    | (with_reducible first | assumption | exact Keeps.refl _ _ | apply Keeps.ite | apply Keeps.fold | apply State.romStep_keeps)
    | split
    | (clear_value *; split)
  all_goals first | rfl

theorem State.joinAtInstant_keeps {l : List Part} {s0 s : State}
    (hk : within [Part.regs, .writes, .masts, .log, .lane, .intake, .time, .pos, .app, .queue, .net, .sup, .field, .free, .mem] l = true) (g : Keeps l s0 s) : Keeps l s0 (State.joinAtInstant s) := by
  refine Keeps.next (k := [Part.regs, .writes, .masts, .log, .lane, .intake, .time, .pos, .app, .queue, .net, .sup, .field, .free, .mem]) (s := s) ?_ hk g
  clear hk g s0 l
  delta State.joinAtInstant
  try beta_reduce
  repeat' first
    | intro _
    | (with_reducible first | assumption | exact Keeps.refl _ _ | apply Keeps.ite | apply Keeps.fold | apply State.roundsAtInstant_keeps | apply State.juryRom_keeps | apply State.putF_keeps)
    | split
    | (clear_value *; split)
  all_goals first | rfl

theorem State.fieldAtInstant_keeps {l : List Part} {s0 s : State} (a1 : Nat)
    (hk : within [Part.regs, .log, .field] l = true) (g : Keeps l s0 s) : Keeps l s0 (State.fieldAtInstant s a1) := by
  refine Keeps.next (k := [Part.regs, .log, .field]) (s := s) ?_ hk g
  clear hk g s0 l
  delta State.fieldAtInstant
  try beta_reduce
  try lift_lets -underBinder
  repeat' first
    | (intro x; first | (have hx : Keeps [Part.regs, .log, .field] s x := (by unfold x; (repeat' first | intro _ | (with_reducible first | assumption | exact Keeps.refl _ _ | apply Keeps.ite | apply Keeps.fold | apply State.posTake_keeps | apply State.queuedDrop_keeps) | lift_lets -underBinder | split | (clear_value *; split)) <;> first | rfl); clear_value x) | skip)
    | (with_reducible first | assumption | exact Keeps.refl _ _ | apply Keeps.ite | apply Keeps.fold | apply State.posTake_keeps | apply State.queuedDrop_keeps)
    | lift_lets -underBinder
    | split
    | (clear_value *; split)
  all_goals first | rfl

theorem State.fbGate_keeps {l : List Part} {s0 s : State} (a1 : Nat)
    (hk : within [Part.fb] l = true) (g : Keeps l s0 s) : Keeps l s0 (State.fbGate s a1) := by
  refine Keeps.next (k := [Part.fb]) (s := s) ?_ hk g
  clear hk g s0 l
  delta State.fbGate
  try beta_reduce
  try lift_lets -underBinder
  repeat' first
    | (intro x; first | (have hx : Keeps [Part.fb] s x := (by unfold x; (repeat' first | intro _ | (with_reducible first | assumption | exact Keeps.refl _ _ | apply Keeps.ite | apply Keeps.fold | apply State.setBus_keeps) | lift_lets -underBinder | split | (clear_value *; split)) <;> first | rfl); clear_value x) | skip)
    | (with_reducible first | assumption | exact Keeps.refl _ _ | apply Keeps.ite | apply Keeps.fold | apply State.setBus_keeps)
    | lift_lets -underBinder
    | split
    | (clear_value *; split)
  all_goals first | rfl

theorem State.fbCycleStart_keeps {l : List Part} {s0 s : State} (a1 : Nat) (a2 : Bool)
    (hk : within [Part.regs, .log, .fb] l = true) (g : Keeps l s0 s) : Keeps l s0 (State.fbCycleStart s a1 a2) := by
  refine Keeps.next (k := [Part.regs, .log, .fb]) (s := s) ?_ hk g
  clear hk g s0 l
  delta State.fbCycleStart
  try beta_reduce
  try lift_lets -underBinder
  repeat' first
    | (intro x; first | (have hx : Keeps [Part.regs, .log, .fb] s x := (by unfold x; (repeat' first | intro _ | (with_reducible first | assumption | exact Keeps.refl _ _ | apply Keeps.ite | apply Keeps.fold | apply State.incF_keeps | apply State.raise_keeps | apply State.fbState_keeps | apply State.setBus_keeps | apply State.putF_keeps) | lift_lets -underBinder | split | (clear_value *; split)) <;> first | rfl); clear_value x) | skip)
    | (with_reducible first | assumption | exact Keeps.refl _ _ | apply Keeps.ite | apply Keeps.fold | apply State.incF_keeps | apply State.raise_keeps | apply State.fbState_keeps | apply State.setBus_keeps | apply State.putF_keeps)
    | lift_lets -underBinder
    | split
    | (clear_value *; split)
  all_goals first | rfl

theorem State.fbAtInstant_keeps {l : List Part} {s0 s : State} (a1 : List Nat) (a2 : Bool)
    (hk : within [Part.regs, .log, .fb] l = true) (g : Keeps l s0 s) : Keeps l s0 (State.fbAtInstant s a1 a2) := by
  refine Keeps.next (k := [Part.regs, .log, .fb]) (s := s) ?_ hk g
  clear hk g s0 l
  delta State.fbAtInstant
  try beta_reduce
  try lift_lets -underBinder
  repeat' first
    | (intro x; first | (have hx : Keeps [Part.regs, .log, .fb] s x := (by unfold x; (repeat' first | intro _ | (with_reducible first | assumption | exact Keeps.refl _ _ | apply Keeps.ite | apply Keeps.fold | apply State.fbGate_keeps | apply State.fbState_keeps | apply State.fbCycleStart_keeps) | lift_lets -underBinder | split | (clear_value *; split)) <;> first | rfl); clear_value x) | skip)
    | (with_reducible first | assumption | exact Keeps.refl _ _ | apply Keeps.ite | apply Keeps.fold | apply State.fbGate_keeps | apply State.fbState_keeps | apply State.fbCycleStart_keeps)
    | lift_lets -underBinder
    | split
    | (clear_value *; split)
  all_goals first | rfl

theorem State.slAtInstant_keeps {l : List Part} {s0 s : State}
    (hk : within [Part.stay] l = true) (g : Keeps l s0 s) : Keeps l s0 (State.slAtInstant s) := by
  refine Keeps.next (k := [Part.stay]) (s := s) ?_ hk g
  clear hk g s0 l
  delta State.slAtInstant
  try beta_reduce
  try lift_lets -underBinder
  repeat' first
    | (intro x; first | (have hx : Keeps [Part.stay] s x := (by unfold x; (repeat' first | intro _ | (with_reducible first | assumption | exact Keeps.refl _ _ | apply Keeps.ite | apply Keeps.fold | apply State.slSend_keeps) | lift_lets -underBinder | split | (clear_value *; split) | (with_reducible apply Keeps.upd_stay)) <;> first | rfl); clear_value x) | skip)
    | (with_reducible first | assumption | exact Keeps.refl _ _ | apply Keeps.ite | apply Keeps.fold | apply State.slSend_keeps)
    | lift_lets -underBinder
    | split
    | (clear_value *; split)
    | (with_reducible apply Keeps.upd_stay)
  all_goals first | rfl

theorem State.slJoin_keeps {l : List Part} {s0 s : State}
    (hk : within [Part.regs, .log, .stay] l = true) (g : Keeps l s0 s) : Keeps l s0 (State.slJoin s) := by
  refine Keeps.next (k := [Part.regs, .log, .stay]) (s := s) ?_ hk g
  clear hk g s0 l
  delta State.slJoin
  try beta_reduce
  try lift_lets -underBinder
  repeat' first
    | (intro x; first | (have hx : Keeps [Part.regs, .log, .stay] s x := (by unfold x; (repeat' first | intro _ | (with_reducible first | assumption | exact Keeps.refl _ _ | apply Keeps.ite | apply Keeps.fold | apply State.putF_keeps | apply State.raise_keeps | apply State.showMembers_keeps) | lift_lets -underBinder | split | (clear_value *; split) | (with_reducible apply Keeps.upd_stay)) <;> first | rfl); clear_value x) | skip)
    | (with_reducible first | assumption | exact Keeps.refl _ _ | apply Keeps.ite | apply Keeps.fold | apply State.putF_keeps | apply State.raise_keeps | apply State.showMembers_keeps)
    | lift_lets -underBinder
    | split
    | (clear_value *; split)
    | (with_reducible apply Keeps.upd_stay)
  all_goals first | rfl

theorem State.openInterfaces_keeps {l : List Part} {s0 s : State}
    (hk : within [Part.regs, .log, .stay] l = true) (g : Keeps l s0 s) : Keeps l s0 (State.openInterfaces s) := by
  refine Keeps.next (k := [Part.regs, .log, .stay]) (s := s) ?_ hk g
  clear hk g s0 l
  delta State.openInterfaces
  try beta_reduce
  try lift_lets -underBinder
  repeat' first
    | (intro x; first | (have hx : Keeps [Part.regs, .log, .stay] s x := (by unfold x; (repeat' first | intro _ | (with_reducible first | assumption | exact Keeps.refl _ _ | apply Keeps.ite | apply Keeps.fold | apply State.putF_keeps | apply State.slJoin_keeps) | lift_lets -underBinder | split | (clear_value *; split)) <;> first | rfl); clear_value x) | skip)
    | (with_reducible first | assumption | exact Keeps.refl _ _ | apply Keeps.ite | apply Keeps.fold | apply State.putF_keeps | apply State.slJoin_keeps)
    | lift_lets -underBinder
    | split
    | (clear_value *; split)
  all_goals first | rfl

theorem State.netAtInstant_keeps {l : List Part} {s0 s : State}
    (hk : within [Part.regs, .net] l = true) (g : Keeps l s0 s) : Keeps l s0 (State.netAtInstant s) := by
  refine Keeps.next (k := [Part.regs, .net]) (s := s) ?_ hk g
  clear hk g s0 l
  delta State.netAtInstant
  try beta_reduce
  try lift_lets -underBinder
  repeat' first
    | (intro x; first | (have hx : Keeps [Part.regs, .net] s x := (by unfold x; (repeat' first | intro _ | (with_reducible first | assumption | exact Keeps.refl _ _ | apply Keeps.ite | apply Keeps.fold | apply State.putF_keeps) | lift_lets -underBinder | split | (clear_value *; split) | (with_reducible apply Keeps.upd_net)) <;> first | rfl); clear_value x) | skip)
    | (with_reducible first | assumption | exact Keeps.refl _ _ | apply Keeps.ite | apply Keeps.fold | apply State.putF_keeps)
    | lift_lets -underBinder
    | split
    | (clear_value *; split)
    | (with_reducible apply Keeps.upd_net)
  all_goals first | rfl

theorem State.fbStart_keeps {l : List Part} {s0 s : State}
    (hk : within [Part.regs, .log, .fb] l = true) (g : Keeps l s0 s) : Keeps l s0 (State.fbStart s) := by
  refine Keeps.next (k := [Part.regs, .log, .fb]) (s := s) ?_ hk g
  clear hk g s0 l
  delta State.fbStart
  try beta_reduce
  repeat' first
    | intro _
    | (with_reducible first | assumption | exact Keeps.refl _ _ | apply Keeps.ite | apply Keeps.fold | apply State.fbState_keeps)
    | split
    | (clear_value *; split)
  all_goals first | rfl

theorem State.publish_keeps {l : List Part} {s0 s : State}
    (hk : within [Part.shown] l = true) (g : Keeps l s0 s) : Keeps l s0 (State.publish s) := by
  refine Keeps.next (k := [Part.shown]) (s := s) ?_ hk g
  clear hk g s0 l
  delta State.publish
  try beta_reduce
  try lift_lets -underBinder
  repeat' first
    | (intro x; first | (have hx : Keeps [Part.shown] s x := (by unfold x; (repeat' first | intro _ | (with_reducible first | assumption | exact Keeps.refl _ _ | apply Keeps.ite | apply Keeps.fold) | lift_lets -underBinder | split | (clear_value *; split) | (with_reducible apply Keeps.upd_shown)) <;> first | rfl); clear_value x) | skip)
    | (with_reducible first | assumption | exact Keeps.refl _ _ | apply Keeps.ite | apply Keeps.fold)
    | lift_lets -underBinder
    | split
    | (clear_value *; split)
    | (with_reducible apply Keeps.upd_shown)
  all_goals first | rfl

theorem State.showTemps_keeps {l : List Part} {s0 s : State}
    (hk : within [Part.regs] l = true) (g : Keeps l s0 s) : Keeps l s0 (State.showTemps s) := by
  refine Keeps.next (k := [Part.regs]) (s := s) ?_ hk g
  clear hk g s0 l
  delta State.showTemps
  try beta_reduce
  repeat' first
    | intro _
    | (with_reducible first | assumption | exact Keeps.refl _ _ | apply Keeps.ite | apply Keeps.fold | apply State.putF_keeps)
    | split
    | (clear_value *; split)
  all_goals first | rfl

theorem State.holdupCheck_keeps {l : List Part} {s0 s : State}
    (hk : within [Part.regs, .log, .supply] l = true) (g : Keeps l s0 s) : Keeps l s0 (State.holdupCheck s) := by
  refine Keeps.next (k := [Part.regs, .log, .supply]) (s := s) ?_ hk g
  clear hk g s0 l
  delta State.holdupCheck
  try beta_reduce
  try lift_lets -underBinder
  repeat' first
    | (intro x; first | (have hx : Keeps [Part.regs, .log, .supply] s x := (by unfold x; (repeat' first | intro _ | (with_reducible first | assumption | exact Keeps.refl _ _ | apply Keeps.ite | apply Keeps.fold | apply State.raise_keeps | apply State.putF_keeps) | lift_lets -underBinder | split | (clear_value *; split) | (with_reducible apply Keeps.upd_supply)) <;> first | rfl); clear_value x) | skip)
    | (with_reducible first | assumption | exact Keeps.refl _ _ | apply Keeps.ite | apply Keeps.fold | apply State.raise_keeps | apply State.putF_keeps)
    | lift_lets -underBinder
    | split
    | (clear_value *; split)
    | (with_reducible apply Keeps.upd_supply)
  all_goals first | rfl

theorem State.supplyAtInstant_keeps {l : List Part} {s0 s : State}
    (hk : within [Part.regs, .log, .supply] l = true) (g : Keeps l s0 s) : Keeps l s0 (State.supplyAtInstant s) := by
  refine Keeps.next (k := [Part.regs, .log, .supply]) (s := s) ?_ hk g
  clear hk g s0 l
  delta State.supplyAtInstant
  try beta_reduce
  try lift_lets -underBinder
  repeat' first
    | (intro x; first | (have hx : Keeps [Part.regs, .log, .supply] s x := (by unfold x; (repeat' first | intro _ | (with_reducible first | assumption | exact Keeps.refl _ _ | apply Keeps.ite | apply Keeps.fold | apply State.holdupCheck_keeps | apply State.noteVolt_keeps | apply State.putF_keeps | apply State.maxF_keeps | apply State.incF_keeps | apply State.raise_keeps) | lift_lets -underBinder | split | (clear_value *; split) | (with_reducible apply Keeps.upd_supply)) <;> first | rfl); clear_value x) | skip)
    | (with_reducible first | assumption | exact Keeps.refl _ _ | apply Keeps.ite | apply Keeps.fold | apply State.holdupCheck_keeps | apply State.noteVolt_keeps | apply State.putF_keeps | apply State.maxF_keeps | apply State.incF_keeps | apply State.raise_keeps)
    | lift_lets -underBinder
    | split
    | (clear_value *; split)
    | (with_reducible apply Keeps.upd_supply)
  all_goals first | rfl

theorem State.tachoItem_keeps {l : List Part} {s0 s : State} (a1 : Nat)
    (hk : within [Part.intake, .pos] l = true) (g : Keeps l s0 s) : Keeps l s0 (State.tachoItem s a1) := by
  refine Keeps.next (k := [Part.intake, .pos]) (s := s) ?_ hk g
  clear hk g s0 l
  delta State.tachoItem
  try beta_reduce
  try lift_lets -underBinder
  repeat' first
    | (intro x; first | (have hx : Keeps [Part.intake, .pos] s x := (by unfold x; (repeat' first | intro _ | (with_reducible first | assumption | exact Keeps.refl _ _ | apply Keeps.ite | apply Keeps.fold) | lift_lets -underBinder | split | (clear_value *; split) | (with_reducible apply Keeps.upd_intake_pos)) <;> first | rfl); clear_value x) | skip)
    | (with_reducible first | assumption | exact Keeps.refl _ _ | apply Keeps.ite | apply Keeps.fold)
    | lift_lets -underBinder
    | split
    | (clear_value *; split)
    | (with_reducible apply Keeps.upd_intake_pos)
  all_goals first | rfl

theorem State.tachoAtInstant_keeps {l : List Part} {s0 s : State}
    (hk : within [Part.intake, .pos] l = true) (g : Keeps l s0 s) : Keeps l s0 (State.tachoAtInstant s) := by
  refine Keeps.next (k := [Part.intake, .pos]) (s := s) ?_ hk g
  clear hk g s0 l
  delta State.tachoAtInstant
  try beta_reduce
  repeat' first
    | intro _
    | (with_reducible first | assumption | exact Keeps.refl _ _ | apply Keeps.ite | apply Keeps.fold | apply State.tachoItem_keeps)
    | split
    | (clear_value *; split)
  all_goals first | rfl

theorem State.acknowledge_keeps {l : List Part} {s0 s : State} (a1 a2 : Nat)
    (hk : within [Part.regs, .log, .sup] l = true) (g : Keeps l s0 s) : Keeps l s0 (State.acknowledge s a1 a2) := by
  refine Keeps.next (k := [Part.regs, .log, .sup]) (s := s) ?_ hk g
  unfold State.acknowledge
  split
  · exact Keeps.refl _ _
  · have hf : ∀ (f : State × Nat × Nat → Mast × Nat → State × Nat × Nat) (l : List (Mast × Nat)) (acc : State × Nat × Nat),
        (∀ acc e, Keeps [Part.regs, .log, .sup] s acc.1 → Keeps [Part.regs, .log, .sup] s (f acc e).1) →
        Keeps [Part.regs, .log, .sup] s acc.1 → Keeps [Part.regs, .log, .sup] s (l.foldl f acc).1 := by
      intro f l acc h g
      induction l generalizing acc with
      | nil => exact g
      | cons x xs ih => exact ih _ (h _ _ g)
    refine Keeps.fold (fun s m h => State.showForce_keeps _ rfl h) ?_
    refine Keeps.ite (State.incF_keeps _ _ _ rfl (State.raiseLimited_keeps _ _ _ _ _ rfl ?_)) ?_ <;>
    refine Keeps.ite (State.incF_keeps _ _ _ rfl (State.raise_keeps _ _ _ rfl ?_)) ?_ <;>
    · refine hf _ _ _ (fun acc e h => ?_) (Keeps.refl _ _)
      dsimp only
      split
      · exact h
      · split
        · exact State.clearLatch_keeps _ _ rfl h
        · exact h

theorem State.spSelect_keeps {l : List Part} {s0 s : State} (a1 : Sys2Proof.Mast) (a2 : SpParams)
    (hk : within [Part.regs, .log, .sup] l = true) (g : Keeps l s0 s) : Keeps l s0 (State.spSelect s a1 a2) := by
  refine Keeps.next (k := [Part.regs, .log, .sup]) (s := s) ?_ hk g
  clear hk g s0 l
  delta State.spSelect
  try beta_reduce
  try lift_lets -underBinder
  repeat' first
    | (intro x; first | (have hx : Keeps [Part.regs, .log, .sup] s x := (by unfold x; (repeat' first | intro _ | (with_reducible first | assumption | exact Keeps.refl _ _ | apply Keeps.ite | apply Keeps.fold | apply State.judgeLimit_keeps | apply State.setSp_keeps) | lift_lets -underBinder | split | (clear_value *; split)) <;> first | rfl); clear_value x) | skip)
    | (with_reducible first | assumption | exact Keeps.refl _ _ | apply Keeps.ite | apply Keeps.fold | apply State.judgeLimit_keeps | apply State.setSp_keeps)
    | lift_lets -underBinder
    | split
    | (clear_value *; split)
  all_goals first | rfl

theorem State.spDisagree_keeps {l : List Part} {s0 s : State} (a1 : SpParams) (a2 : List Sys2Proof.Mast) (a3 : Sys2Proof.Mast)
    (hk : within [Part.regs, .masts, .log, .lane, .time, .sup, .mem] l = true) (g : Keeps l s0 s) : Keeps l s0 (State.spDisagree s a1 a2 a3) := by
  refine Keeps.next (k := [Part.regs, .masts, .log, .lane, .time, .sup, .mem]) (s := s) ?_ hk g
  clear hk g s0 l
  delta State.spDisagree
  try beta_reduce
  try lift_lets -underBinder
  repeat' first
    | (intro x; first | (have hx : Keeps [Part.regs, .masts, .log, .lane, .time, .sup, .mem] s x := (by unfold x; (repeat' first | intro _ | (with_reducible first | assumption | exact Keeps.refl _ _ | apply Keeps.ite | apply Keeps.fold | apply State.setSp_keeps | apply State.putF_keeps | apply State.incF_keeps | apply State.raise_keeps | apply State.requestSilent_keeps) | lift_lets -underBinder | split | (clear_value *; split)) <;> first | rfl); clear_value x) | skip)
    | (with_reducible first | assumption | exact Keeps.refl _ _ | apply Keeps.ite | apply Keeps.fold | apply State.setSp_keeps | apply State.putF_keeps | apply State.incF_keeps | apply State.raise_keeps | apply State.requestSilent_keeps)
    | lift_lets -underBinder
    | split
    | (clear_value *; split)
  all_goals first | rfl

theorem State.spAtInstant_keeps {l : List Part} {s0 s : State}
    (hk : within [Part.regs, .masts, .log, .lane, .time, .sup, .mem] l = true) (g : Keeps l s0 s) : Keeps l s0 (State.spAtInstant s) := by
  refine Keeps.next (k := [Part.regs, .masts, .log, .lane, .time, .sup, .mem]) (s := s) ?_ hk g
  clear hk g s0 l
  delta State.spAtInstant
  try beta_reduce
  try lift_lets -underBinder
  repeat' first
    | (intro x; first | (have hx : Keeps [Part.regs, .masts, .log, .lane, .time, .sup, .mem] s x := (by unfold x; (repeat' first | intro _ | (with_reducible first | assumption | exact Keeps.refl _ _ | apply Keeps.ite | apply Keeps.fold | apply State.acknowledge_keeps | apply State.showForce_keeps | apply State.spSelect_keeps | apply State.putF_keeps | apply State.spPublish_keeps | apply State.spDisagree_keeps) | lift_lets -underBinder | split | (clear_value *; split) | (with_reducible apply Keeps.upd_sup)) <;> first | rfl); clear_value x) | skip)
    | (with_reducible first | assumption | exact Keeps.refl _ _ | apply Keeps.ite | apply Keeps.fold | apply State.acknowledge_keeps | apply State.showForce_keeps | apply State.spSelect_keeps | apply State.putF_keeps | apply State.spPublish_keeps | apply State.spDisagree_keeps)
    | lift_lets -underBinder
    | split
    | (clear_value *; split)
    | (with_reducible apply Keeps.upd_sup)
  all_goals first | rfl

theorem State.instant_keeps {l : List Part} {s0 s : State} (a1 : Nat) (a2 : Nat)
    (hk : within [Part.regs, .shown, .writes, .ctl, .masts, .log, .key, .lane, .intake, .time, .pos, .fb, .app, .queue, .bridge, .stay, .net, .sup, .field, .upd, .supply, .mon, .free, .mem] l = true) (g : Keeps l s0 s) : Keeps l s0 (State.instant s a1 a2) := by
  refine Keeps.next (k := [Part.regs, .shown, .writes, .ctl, .masts, .log, .key, .lane, .intake, .time, .pos, .fb, .app, .queue, .bridge, .stay, .net, .sup, .field, .upd, .supply, .mon, .free, .mem]) (s := s) ?_ hk g
  clear hk g s0 l
  delta State.instant
  try beta_reduce
  try lift_lets -underBinder
  repeat' first
    | (intro x; first | (have hx : Keeps [Part.regs, .shown, .writes, .ctl, .masts, .log, .key, .lane, .intake, .time, .pos, .fb, .app, .queue, .bridge, .stay, .net, .sup, .field, .upd, .supply, .mon, .free, .mem] s x := (by unfold x; (repeat' first | intro _ | (with_reducible first | assumption | exact Keeps.refl _ _ | apply Keeps.ite | apply Keeps.fold | apply State.combineAll_keeps | apply State.aiTick_keeps | apply State.intakeDecide_keeps | apply State.commitAtInstant_keeps | apply State.forcesAtInstant_keeps | apply State.appAtInstant_keeps | apply State.joinAtInstant_keeps | apply State.modeAtInstant_keeps | apply State.fieldAtInstant_keeps | apply State.fbAtInstant_keeps | apply State.bridgeAtInstant_keeps | apply State.slAtInstant_keeps | apply State.openInterfaces_keeps | apply State.netAtInstant_keeps | apply State.fbStart_keeps | apply State.publish_keeps | apply State.showTemps_keeps | apply State.logAtInstant_keeps | apply State.supplyAtInstant_keeps | apply State.tachoAtInstant_keeps | apply State.cmpAtInstant_keeps | apply State.exitAtInstant_keeps | apply State.spAtInstant_keeps) | lift_lets -underBinder | split | (clear_value *; split)) <;> first | rfl); clear_value x) | skip)
    | (with_reducible first | assumption | exact Keeps.refl _ _ | apply Keeps.ite | apply Keeps.fold | apply State.combineAll_keeps | apply State.aiTick_keeps | apply State.intakeDecide_keeps | apply State.commitAtInstant_keeps | apply State.forcesAtInstant_keeps | apply State.appAtInstant_keeps | apply State.joinAtInstant_keeps | apply State.modeAtInstant_keeps | apply State.fieldAtInstant_keeps | apply State.fbAtInstant_keeps | apply State.bridgeAtInstant_keeps | apply State.slAtInstant_keeps | apply State.openInterfaces_keeps | apply State.netAtInstant_keeps | apply State.fbStart_keeps | apply State.publish_keeps | apply State.showTemps_keeps | apply State.logAtInstant_keeps | apply State.supplyAtInstant_keeps | apply State.tachoAtInstant_keeps | apply State.cmpAtInstant_keeps | apply State.exitAtInstant_keeps | apply State.spAtInstant_keeps)
    | lift_lets -underBinder
    | split
    | (clear_value *; split)
  all_goals first | rfl

theorem State.deliver_keeps {l : List Part} {s0 s : State} (a1 : Sys2Proof.Mast) (a2 : Sys2Proof.MemSource) (a3 : Nat)
    (hk : within [Part.masts] l = true) (g : Keeps l s0 s) : Keeps l s0 (State.deliver s a1 a2 a3) := by
  refine Keeps.next (k := [Part.masts]) (s := s) ?_ hk g
  clear hk g s0 l
  delta State.deliver
  try beta_reduce
  repeat' first
    | intro _
    | (with_reducible first | assumption | exact Keeps.refl _ _ | apply Keeps.ite | apply Keeps.fold | apply State.answer_keeps)
    | split
    | (clear_value *; split)
  all_goals first | rfl

theorem State.corrected_keeps {l : List Part} {s0 s : State} (a1 : Mast) (a2 a3 a4 a5 : Nat)
    (hk : within [Part.regs, .masts, .log, .mem] l = true) (g : Keeps l s0 s) : Keeps l s0 (State.corrected s a1 a2 a3 a4 a5) := by
  refine Keeps.next (k := [Part.regs, .masts, .log, .mem]) (s := s) ?_ hk g
  have hc : ∀ t : State, Keeps [Part.regs, .masts, .log, .mem] s t → Keeps [Part.regs, .masts, .log, .mem] s
      (t.setMem a1 ((t.mast a1).mem.setErr a4 [])) := fun t h => Keeps.setMem _ _ (fun c => Memory.wf_setErr _ _ _ (c.2 a1)) rfl h
  delta State.corrected
  lift_lets -underBinder
  intro c s1 s2 s3 s4
  have h1 : Keeps [Part.regs, .masts, .log, .mem] s s1 := by
    unfold s1
    repeat' first | exact Keeps.refl _ _ | apply State.incF_keeps | apply Keeps.ite
    all_goals rfl
  have h4 : Keeps [Part.regs, .masts, .log, .mem] s s4 :=
    State.raiseLimited_keeps _ _ _ _ _ rfl (State.putF_keeps _ _ _ rfl (State.putF_keeps _ _ _ rfl (State.putF_keeps _ _ _ rfl
      (State.putF_keeps _ _ _ rfl h1))))
  clear_value s4
  clear h1 s3 s2 s1
  intro s5 s7 s6
  have h5 : Keeps [Part.regs, .masts, .log, .mem] s s5 := Keeps.ite (State.incF_keeps _ _ _ rfl h4) h4
  have h6 : Keeps [Part.regs, .masts, .log, .mem] s s6 := Keeps.setMast_mem _ _ (fun c => Memory.wf_setErr _ _ _ (c.2 a1)) rfl h5
  clear_value s6
  exact Keeps.ite (Keeps.ite (State.raiseM_keeps _ _ _ _ rfl (State.incF_keeps _ _ _ rfl h6)) h6) (Keeps.ite (hc _ h4) h4)

theorem State.uncorrectable_keeps {l : List Part} {s0 s : State} (a1 : Sys2Proof.Mast) (a2 : Nat) (a3 : Nat) (a4 : Nat)
    (hk : within [Part.regs, .masts, .log, .lane, .time, .mem] l = true) (g : Keeps l s0 s) : Keeps l s0 (State.uncorrectable s a1 a2 a3 a4) := by
  refine Keeps.next (k := [Part.regs, .masts, .log, .lane, .time, .mem]) (s := s) ?_ hk g
  clear hk g s0 l
  delta State.uncorrectable
  try beta_reduce
  repeat' first
    | intro _
    | (with_reducible first | assumption | exact Keeps.refl _ _ | apply Keeps.ite | apply Keeps.fold | apply State.requestSilent_keeps | apply State.raiseM_keeps)
    | split
    | (clear_value *; split)
  all_goals first | rfl

theorem State.memoryRead_keeps {l : List Part} {s0 s : State} (a1 : Sys2Proof.Mast) (a2 : Sys2Proof.MemSource) (a3 : Sys2Proof.MemPlace) (a4 : Nat) (a5 : Sys2Proof.MemFinding)
    (hk : within [Part.regs, .masts, .log, .lane, .time, .mem] l = true) (g : Keeps l s0 s) : Keeps l s0 (State.memoryRead s a1 a2 a3 a4 a5) := by
  refine Keeps.next (k := [Part.regs, .masts, .log, .lane, .time, .mem]) (s := s) ?_ hk g
  clear hk g s0 l
  delta State.memoryRead
  try beta_reduce
  try lift_lets -underBinder
  repeat' first
    | (intro x; first | (have hx : Keeps [Part.regs, .masts, .log, .lane, .time, .mem] s x := (by unfold x; (repeat' first | intro _ | (with_reducible first | assumption | exact Keeps.refl _ _ | apply Keeps.ite | apply Keeps.fold | apply State.deliver_keeps | apply State.corrected_keeps | apply State.uncorrectable_keeps | apply State.raiseM_keeps | apply State.incF_keeps) | lift_lets -underBinder | split | (clear_value *; split)) <;> first | rfl); clear_value x) | skip)
    | (with_reducible first | assumption | exact Keeps.refl _ _ | apply Keeps.ite | apply Keeps.fold | apply State.deliver_keeps | apply State.corrected_keeps | apply State.uncorrectable_keeps | apply State.raiseM_keeps | apply State.incF_keeps)
    | lift_lets -underBinder
    | split
    | (clear_value *; split)
  all_goals first | rfl

theorem State.shadowWrite_keeps {l : List Part} {s0 s : State} (a1 : Sys2Proof.Mast) (a2 : Nat) (a3 : Sys2Proof.Word)
    (hk : within [Part.regs] l = true) (g : Keeps l s0 s) : Keeps l s0 (State.shadowWrite s a1 a2 a3) := by
  refine Keeps.next (k := [Part.regs]) (s := s) ?_ hk g
  clear hk g s0 l
  delta State.shadowWrite
  try beta_reduce
  try lift_lets -underBinder
  repeat' first
    | (intro x; first | (have hx : Keeps [Part.regs] s x := (by unfold x; (repeat' first | intro _ | (with_reducible first | assumption | exact Keeps.refl _ _ | apply Keeps.ite | apply Keeps.fold | apply State.incF_keeps | apply State.setReg_keeps) | lift_lets -underBinder | split | (clear_value *; split)) <;> first | rfl); clear_value x) | skip)
    | (with_reducible first | assumption | exact Keeps.refl _ _ | apply Keeps.ite | apply Keeps.fold | apply State.incF_keeps | apply State.setReg_keeps)
    | lift_lets -underBinder
    | split
    | (clear_value *; split)
  all_goals first | rfl

theorem State.setPair_keeps {l : List Part} {s0 s : State} (a1 : Nat) (a2 : FieldPair) (a3 : Nat)
    (hk : within [Part.field] l = true) (g : Keeps l s0 s) : Keeps l s0 (State.setPair s a1 a2 a3) := by
  refine Keeps.next (k := [Part.field]) (s := s) ?_ hk g
  clear hk g s0 l
  delta State.setPair
  try beta_reduce
  try lift_lets -underBinder
  repeat' first
    | (intro x; first | (have hx : Keeps [Part.field] s x := (by unfold x; (repeat' first | intro _ | (with_reducible first | assumption | exact Keeps.refl _ _ | apply Keeps.ite | apply Keeps.fold | apply State.fieldItem_keeps) | lift_lets -underBinder | split | (clear_value *; split) | (with_reducible apply Keeps.upd_field)) <;> first | rfl); clear_value x) | skip)
    | (with_reducible first | assumption | exact Keeps.refl _ _ | apply Keeps.ite | apply Keeps.fold | apply State.fieldItem_keeps)
    | lift_lets -underBinder
    | split
    | (clear_value *; split)
    | (with_reducible apply Keeps.upd_field)
  all_goals first | rfl

theorem State.bootFrame_keeps {l : List Part} {s0 s : State} (a1 : Nat) (a2 : List Sys2Proof.Byte) (a3 : Bool)
    (hk : within [Part.regs, .net] l = true) (g : Keeps l s0 s) : Keeps l s0 (State.bootFrame s a1 a2 a3) := by
  refine Keeps.next (k := [Part.regs, .net]) (s := s) ?_ hk g
  clear hk g s0 l
  delta State.bootFrame
  try beta_reduce
  try lift_lets -underBinder
  repeat' first
    | (intro x; first | (have hx : Keeps [Part.regs, .net] s x := (by unfold x; (repeat' first | intro _ | (with_reducible first | assumption | exact Keeps.refl _ _ | apply Keeps.ite | apply Keeps.fold | apply State.incF_keeps | apply State.arpReply_keeps | apply State.icmpReply_keeps) | lift_lets -underBinder | split | (clear_value *; split)) <;> first | rfl); clear_value x) | skip)
    | (with_reducible first | assumption | exact Keeps.refl _ _ | apply Keeps.ite | apply Keeps.fold | apply State.incF_keeps | apply State.arpReply_keeps | apply State.icmpReply_keeps)
    | lift_lets -underBinder
    | split
    | (clear_value *; split)
  all_goals first | rfl

theorem State.refuseChange_keeps {l : List Part} {s0 s : State} (a1 : Nat) (a2 : Nat)
    (hk : within [Part.regs, .log] l = true) (g : Keeps l s0 s) : Keeps l s0 (State.refuseChange s a1 a2) := by
  refine Keeps.next (k := [Part.regs, .log]) (s := s) ?_ hk g
  clear hk g s0 l
  delta State.refuseChange
  try beta_reduce
  repeat' first
    | intro _
    | (with_reducible first | assumption | exact Keeps.refl _ _ | apply Keeps.ite | apply Keeps.fold | apply State.raise_keeps | apply State.putF_keeps)
    | split
    | (clear_value *; split)
  all_goals first | rfl

theorem State.applyRequest_keeps {l : List Part} {s0 s : State} (a1 : ChangeReq)
    (hk : within [Part.regs, .log, .app] l = true) (g : Keeps l s0 s) : Keeps l s0 (State.applyRequest s a1).1 := by
  refine Keeps.next (k := [Part.regs, .log, .app]) (s := s) ?_ hk g
  clear hk g s0 l
  delta State.applyRequest
  try beta_reduce
  try lift_lets -underBinder
  repeat' first
    | (intro x; first | (have hx : Keeps [Part.regs, .log, .app] s x := (by unfold x; (repeat' first | intro _ | (with_reducible first | assumption | exact Keeps.refl _ _ | apply Keeps.ite | apply Keeps.fold | apply State.refuseChange_keeps | apply State.incF_keeps | apply State.putF_keeps | apply State.raise_keeps) | lift_lets -underBinder | split | (clear_value *; split) | (with_reducible apply Keeps.upd_app)) <;> first | rfl); clear_value x) | skip)
    | (with_reducible first | assumption | exact Keeps.refl _ _ | apply Keeps.ite | apply Keeps.fold | apply State.refuseChange_keeps | apply State.incF_keeps | apply State.putF_keeps | apply State.raise_keeps)
    | lift_lets -underBinder
    | split
    | (clear_value *; split)
    | (with_reducible apply Keeps.upd_app)
  all_goals first | rfl

theorem State.applyRequest_keeps_of {l : List Part} {s0 s t : State} {a1 : ChangeReq} {b} (e : State.applyRequest s a1 = (t, b))
    (hk : within [Part.regs, .log, .app] l = true) (g : Keeps l s0 s) : Keeps l s0 t := by
  have h := State.applyRequest_keeps a1 hk g
  rw [e] at h; exact h

theorem State.dueWrites_keeps {l : List Part} {s0 s : State} (a1 : Nat)
    (hk : within [Part.regs, .log, .app] l = true) (g : Keeps l s0 s) : Keeps l s0 (State.dueWrites s a1).1 := by
  refine Keeps.next (k := [Part.regs, .log, .app]) (s := s) ?_ hk g
  have hf : ∀ (f : State × List (Nat × Int) → ChangeReq → State × List (Nat × Int)) (l : List ChangeReq) (acc : State × List (Nat × Int)),
      (∀ acc e, Keeps [Part.regs, .log, .app] s acc.1 → Keeps [Part.regs, .log, .app] s (f acc e).1) →
      Keeps [Part.regs, .log, .app] s acc.1 → Keeps [Part.regs, .log, .app] s (l.foldl f acc).1 := by
    intro f l acc h g
    induction l generalizing acc with
    | nil => exact g
    | cons x xs ih => exact ih _ (h _ _ g)
  unfold State.dueWrites
  split
  · exact Keeps.refl _ _
  · refine Keeps.upd_app _ rfl (hf _ _ _ (fun acc e h => State.applyRequest_keeps _ rfl h) ?_)
    exact State.showChanges_keeps rfl (Keeps.upd_app _ rfl (Keeps.refl _ _))

theorem State.dueWrites_keeps_of {l : List Part} {s0 s t : State} {a1 : Nat} {b} (e : State.dueWrites s a1 = (t, b))
    (hk : within [Part.regs, .log, .app] l = true) (g : Keeps l s0 s) : Keeps l s0 t := by
  have h := State.dueWrites_keeps a1 hk g
  rw [e] at h; exact h

theorem State.fbJudgeChannel_keeps {l : List Part} {s0 s : State} (a1 : Nat) (a2 : FbView) (a3 : Nat)
    (hk : within [Part.regs, .log, .fb] l = true) (g : Keeps l s0 s) : Keeps l s0 (State.fbJudgeChannel s a1 a2 a3) := by
  refine Keeps.next (k := [Part.regs, .log, .fb]) (s := s) ?_ hk g
  clear hk g s0 l
  delta State.fbJudgeChannel
  try beta_reduce
  try lift_lets -underBinder
  repeat' first
    | (intro x; first | (have hx : Keeps [Part.regs, .log, .fb] s x := (by unfold x; (repeat' first | intro _ | (with_reducible first | assumption | exact Keeps.refl _ _ | apply Keeps.ite | apply Keeps.fold | apply State.setBus_keeps | apply State.putF_keeps | apply State.raise_keeps) | lift_lets -underBinder | split | (clear_value *; split)) <;> first | rfl); clear_value x) | skip)
    | (with_reducible first | assumption | exact Keeps.refl _ _ | apply Keeps.ite | apply Keeps.fold | apply State.setBus_keeps | apply State.putF_keeps | apply State.raise_keeps)
    | lift_lets -underBinder
    | split
    | (clear_value *; split)
  all_goals first | rfl

theorem State.fbJudgeNode_keeps {l : List Part} {s0 s : State} (a1 : Nat) (a2 : FbView) (a3 : Nat)
    (hk : within [Part.log, .fb] l = true) (g : Keeps l s0 s) : Keeps l s0 (State.fbJudgeNode s a1 a2 a3) := by
  refine Keeps.next (k := [Part.log, .fb]) (s := s) ?_ hk g
  clear hk g s0 l
  delta State.fbJudgeNode
  try beta_reduce
  try lift_lets -underBinder
  repeat' first
    | (intro x; first | (have hx : Keeps [Part.log, .fb] s x := (by unfold x; (repeat' first | intro _ | (with_reducible first | assumption | exact Keeps.refl _ _ | apply Keeps.ite | apply Keeps.fold | apply State.setBus_keeps | apply State.raise_keeps) | lift_lets -underBinder | split | (clear_value *; split)) <;> first | rfl); clear_value x) | skip)
    | (with_reducible first | assumption | exact Keeps.refl _ _ | apply Keeps.ite | apply Keeps.fold | apply State.setBus_keeps | apply State.raise_keeps)
    | lift_lets -underBinder
    | split
    | (clear_value *; split)
  all_goals first | rfl

theorem State.fbMergeSlot_keeps {l : List Part} {s0 s : State} (a1 : Nat) (a2 : FbView) (a3 : FbSlot)
    (hk : within [Part.regs, .log, .fb] l = true) (g : Keeps l s0 s) : Keeps l s0 (State.fbMergeSlot s a1 a2 a3) := by
  refine Keeps.next (k := [Part.regs, .log, .fb]) (s := s) ?_ hk g
  clear hk g s0 l
  delta State.fbMergeSlot
  try beta_reduce
  try lift_lets -underBinder
  repeat' first
    | (intro x; first | (have hx : Keeps [Part.regs, .log, .fb] s x := (by unfold x; (repeat' first | intro _ | (with_reducible first | assumption | exact Keeps.refl _ _ | apply Keeps.ite | apply Keeps.fold | apply State.incF_keeps | apply State.raiseLimited_keeps | apply State.setBus_keeps) | lift_lets -underBinder | split | (clear_value *; split)) <;> first | rfl); clear_value x) | skip)
    | (with_reducible first | assumption | exact Keeps.refl _ _ | apply Keeps.ite | apply Keeps.fold | apply State.incF_keeps | apply State.raiseLimited_keeps | apply State.setBus_keeps)
    | lift_lets -underBinder
    | split
    | (clear_value *; split)
  all_goals first | rfl

theorem State.fbClaim_keeps {l : List Part} {s0 s : State} (a1 : Nat) (a2 : FbView)
    (hk : within [Part.regs, .log, .fb] l = true) (g : Keeps l s0 s) : Keeps l s0 (State.fbClaim s a1 a2) := by
  refine Keeps.next (k := [Part.regs, .log, .fb]) (s := s) ?_ hk g
  clear hk g s0 l
  delta State.fbClaim
  try beta_reduce
  try lift_lets -underBinder
  repeat' first
    | (intro x; first | (have hx : Keeps [Part.regs, .log, .fb] s x := (by unfold x; (repeat' first | intro _ | (with_reducible first | assumption | exact Keeps.refl _ _ | apply Keeps.ite | apply Keeps.fold | apply State.setBus_keeps | apply State.incF_keeps | apply State.raise_keeps | apply State.lastClaim_keeps) | lift_lets -underBinder | split | (clear_value *; split)) <;> first | rfl); clear_value x) | skip)
    | (with_reducible first | assumption | exact Keeps.refl _ _ | apply Keeps.ite | apply Keeps.fold | apply State.setBus_keeps | apply State.incF_keeps | apply State.raise_keeps | apply State.lastClaim_keeps)
    | lift_lets -underBinder
    | split
    | (clear_value *; split)
  all_goals first | rfl

theorem State.fbRelease_keeps {l : List Part} {s0 s : State} (a1 : Nat)
    (hk : within [Part.regs, .masts, .log, .fb] l = true) (g : Keeps l s0 s) : Keeps l s0 (State.fbRelease s a1) := by
  refine Keeps.next (k := [Part.regs, .masts, .log, .fb]) (s := s) ?_ hk g
  clear hk g s0 l
  delta State.fbRelease
  try beta_reduce
  try lift_lets -underBinder
  repeat' first
    | (intro x; first | (have hx : Keeps [Part.regs, .masts, .log, .fb] s x := (by unfold x; (repeat' first | intro _ | (with_reducible first | assumption | exact Keeps.refl _ _ | apply Keeps.ite | apply Keeps.fold | apply State.fbJudgeChannel_keeps | apply State.fbJudgeNode_keeps | apply State.fbMergeSlot_keeps | apply State.fbJudgeGrant_keeps | apply State.showNodes_keeps | apply State.fbClaim_keeps | apply State.interrupt_keeps) | lift_lets -underBinder | split | (clear_value *; split)) <;> first | rfl); clear_value x) | skip)
    | (with_reducible first | assumption | exact Keeps.refl _ _ | apply Keeps.ite | apply Keeps.fold | apply State.fbJudgeChannel_keeps | apply State.fbJudgeNode_keeps | apply State.fbMergeSlot_keeps | apply State.fbJudgeGrant_keeps | apply State.showNodes_keeps | apply State.fbClaim_keeps | apply State.interrupt_keeps)
    | lift_lets -underBinder
    | split
    | (clear_value *; split)
  all_goals first | rfl

theorem State.holdTimeout_keeps {l : List Part} {s0 s : State}
    (hk : within [Part.regs, .writes, .ctl, .masts, .log, .key, .lane, .intake, .fb, .app, .queue, .bridge, .stay, .net, .sup, .field, .upd, .mon, .mem] l = true) (g : Keeps l s0 s) : Keeps l s0 (State.holdTimeout s) := by
  refine Keeps.next (k := [Part.regs, .writes, .ctl, .masts, .log, .key, .lane, .intake, .fb, .app, .queue, .bridge, .stay, .net, .sup, .field, .upd, .mon, .mem]) (s := s) ?_ hk g
  clear hk g s0 l
  delta State.holdTimeout
  try beta_reduce
  repeat' first
    | intro _
    | (with_reducible first | assumption | exact Keeps.refl _ _ | apply Keeps.ite | apply Keeps.fold | apply State.enterStop_keeps | apply State.raise_keeps)
    | split
    | (clear_value *; split)
  all_goals first | rfl

theorem State.switchFault_keeps {l : List Part} {s0 s : State} (a1 : Nat) (a2 : Nat) (a3 : Nat) (a4 : Nat)
    (hk : within [Part.log, .field] l = true) (g : Keeps l s0 s) : Keeps l s0 (State.switchFault s a1 a2 a3 a4) := by
  refine Keeps.next (k := [Part.log, .field]) (s := s) ?_ hk g
  clear hk g s0 l
  delta State.switchFault
  try beta_reduce
  try lift_lets -underBinder
  repeat' first
    | (intro x; first | (have hx : Keeps [Part.log, .field] s x := (by unfold x; (repeat' first | intro _ | (with_reducible first | assumption | exact Keeps.refl _ _ | apply Keeps.ite | apply Keeps.fold | apply State.raise_keeps | apply State.setOut_keeps) | lift_lets -underBinder | split | (clear_value *; split)) <;> first | rfl); clear_value x) | skip)
    | (with_reducible first | assumption | exact Keeps.refl _ _ | apply Keeps.ite | apply Keeps.fold | apply State.raise_keeps | apply State.setOut_keeps)
    | lift_lets -underBinder
    | split
    | (clear_value *; split)
  all_goals first | rfl

end Sys2Proof.Machine
end

