-- ==== Sys2Proof/Laws/Operations4.lean ====
section
/-!
SUPPORT. One lemma for each operation of the machine, in the order in which they rest on one another (part 4 of 4): the
operation touches at most the parts named, keeps registers and memories canonical and turns no clock back. Cite it in
place of unfolding the operation.
-/
namespace Sys2Proof.Machine

open Sys2Proof.Safety

theorem State.failTest_keeps {l : List Part} {s0 s : State} (a1 : FieldTest) (a2 : Nat)
    (hk : within [Part.regs, .log, .field] l = true) (g : Keeps l s0 s) : Keeps l s0 (State.failTest s a1 a2) := by
  refine Keeps.next (k := [Part.regs, .log, .field]) (s := s) ?_ hk g
  clear hk g s0 l
  delta State.failTest
  try beta_reduce
  try lift_lets -underBinder
  repeat' first
    | (intro x; first | (have hx : Keeps [Part.regs, .log, .field] s x := (by unfold x; (repeat' first | intro _ | (with_reducible first | assumption | exact Keeps.refl _ _ | apply Keeps.ite | apply Keeps.fold | apply State.endTest_keeps | apply State.switchFault_keeps) | lift_lets -underBinder | split | (clear_value *; split)) <;> first | rfl); clear_value x) | skip)
    | (with_reducible first | assumption | exact Keeps.refl _ _ | apply Keeps.ite | apply Keeps.fold | apply State.endTest_keeps | apply State.switchFault_keeps)
    | lift_lets -underBinder
    | split
    | (clear_value *; split)
  all_goals first | rfl

theorem State.darken_keeps {l : List Part} {s0 s : State} (a1 : Nat)
    (hk : within [Part.panel] l = true) (g : Keeps l s0 s) : Keeps l s0 (State.darken s a1) := by
  refine Keeps.next (k := [Part.panel]) (s := s) ?_ hk g
  clear hk g s0 l
  delta State.darken
  try beta_reduce
  try lift_lets -underBinder
  repeat' first
    | (intro x; first | (have hx : Keeps [Part.panel] s x := (by unfold x; (repeat' first | intro _ | (with_reducible first | assumption | exact Keeps.refl _ _ | apply Keeps.ite | apply Keeps.fold) | lift_lets -underBinder | split | (clear_value *; split) | (with_reducible apply Keeps.upd_panel)) <;> first | rfl); clear_value x) | skip)
    | (with_reducible first | assumption | exact Keeps.refl _ _ | apply Keeps.ite | apply Keeps.fold)
    | lift_lets -underBinder
    | split
    | (clear_value *; split)
    | (with_reducible apply Keeps.upd_panel)
  all_goals first | rfl

theorem State.scrubNext_keeps {l : List Part} {s0 s : State} (a1 : Sys2Proof.Mast) (a2 : Bool) (a3 : Nat)
    (hk : within [Part.regs] l = true) (g : Keeps l s0 s) : Keeps l s0 (State.scrubNext s a1 a2 a3) := by
  refine Keeps.next (k := [Part.regs]) (s := s) ?_ hk g
  clear hk g s0 l
  delta State.scrubNext
  try beta_reduce
  try lift_lets -underBinder
  repeat' first
    | (intro x; first | (have hx : Keeps [Part.regs] s x := (by unfold x; (repeat' first | intro _ | (with_reducible first | assumption | exact Keeps.refl _ _ | apply Keeps.ite | apply Keeps.fold | apply State.putF_keeps | apply State.incF_keeps) | lift_lets -underBinder | split | (clear_value *; split)) <;> first | rfl); clear_value x) | skip)
    | (with_reducible first | assumption | exact Keeps.refl _ _ | apply Keeps.ite | apply Keeps.fold | apply State.putF_keeps | apply State.incF_keeps)
    | lift_lets -underBinder
    | split
    | (clear_value *; split)
  all_goals first | rfl

theorem State.diagnose_keeps {l : List Part} {s0 s : State} (a1 : Nat) (a2 : Bool) (a3 : Bool)
    (hk : within [Part.log, .field] l = true) (g : Keeps l s0 s) : Keeps l s0 (State.diagnose s a1 a2 a3) := by
  refine Keeps.next (k := [Part.log, .field]) (s := s) ?_ hk g
  clear hk g s0 l
  delta State.diagnose
  try beta_reduce
  try lift_lets -underBinder
  repeat' first
    | (intro x; first | (have hx : Keeps [Part.log, .field] s x := (by unfold x; (repeat' first | intro _ | (with_reducible first | assumption | exact Keeps.refl _ _ | apply Keeps.ite | apply Keeps.fold | apply State.switchFault_keeps | apply State.raise_keeps | apply State.setOut_keeps) | lift_lets -underBinder | split | (clear_value *; split)) <;> first | rfl); clear_value x) | skip)
    | (with_reducible first | assumption | exact Keeps.refl _ _ | apply Keeps.ite | apply Keeps.fold | apply State.switchFault_keeps | apply State.raise_keeps | apply State.setOut_keeps)
    | lift_lets -underBinder
    | split
    | (clear_value *; split)
  all_goals first | rfl

theorem State.registerRead_keeps {l : List Part} {s0 s : State} (a1 : Sys2Proof.Mast) (a2 : Sys2Proof.MemSource) (a3 : Nat)
    (hk : within [Part.masts] l = true) (g : Keeps l s0 s) : Keeps l s0 (State.registerRead s a1 a2 a3) := by
  refine Keeps.next (k := [Part.masts]) (s := s) ?_ hk g
  clear hk g s0 l
  delta State.registerRead
  try beta_reduce
  repeat' first
    | intro _
    | (with_reducible first | assumption | exact Keeps.refl _ _ | apply Keeps.ite | apply Keeps.fold | apply State.answer_keeps)
    | split
    | (clear_value *; split)
  all_goals first | rfl

theorem State.judgeStill_keeps {l : List Part} {s0 s : State} (a1 : Sys2Proof.Mast) (a2 : SpParams) (a3 : Nat)
    (hk : within [Part.log, .sup] l = true) (g : Keeps l s0 s) : Keeps l s0 (State.judgeStill s a1 a2 a3) := by
  refine Keeps.next (k := [Part.log, .sup]) (s := s) ?_ hk g
  clear hk g s0 l
  delta State.judgeStill
  try beta_reduce
  try lift_lets -underBinder
  repeat' first
    | (intro x; first | (have hx : Keeps [Part.log, .sup] s x := (by unfold x; (repeat' first | intro _ | (with_reducible first | assumption | exact Keeps.refl _ _ | apply Keeps.ite | apply Keeps.fold | apply State.raiseM_keeps | apply State.setSp_keeps) | lift_lets -underBinder | split | (clear_value *; split)) <;> first | rfl); clear_value x) | skip)
    | (with_reducible first | assumption | exact Keeps.refl _ _ | apply Keeps.ite | apply Keeps.fold | apply State.raiseM_keeps | apply State.setSp_keeps)
    | lift_lets -underBinder
    | split
    | (clear_value *; split)
  all_goals first | rfl

theorem State.showRange_keeps {l : List Part} {s0 s : State} (a1 : Nat) (a2 : Nat)
    (hk : within [] l = true) (g : Keeps l s0 s) : Keeps l s0 (State.showRange s a1 a2).1 := by
  refine Keeps.next (k := []) (s := s) ?_ hk g
  clear hk g s0 l
  delta State.showRange
  try beta_reduce
  repeat' first
    | intro _
    | (with_reducible first | assumption | exact Keeps.refl _ _ | apply Keeps.ite | apply Keeps.fold)
    | split
    | (clear_value *; split)
  all_goals first | rfl

theorem State.showRange_keeps_of {l : List Part} {s0 s t : State} {a1 : Nat} {a2 : Nat} {b} (e : State.showRange s a1 a2 = (t, b))
    (hk : within [] l = true) (g : Keeps l s0 s) : Keeps l s0 t := by
  have h := State.showRange_keeps a1 a2 hk g
  rw [e] at h; exact h

theorem State.lineStore_keeps {l : List Part} {s0 s : State} (a1 : Sys2Proof.Mast) (a2 : Sys2Proof.Triad) (a3 : Nat) (a4 : List Sys2Proof.Byte)
    (hk : within [Part.masts, .log, .lane, .mem] l = true) (g : Keeps l s0 s) : Keeps l s0 (State.lineStore s a1 a2 a3 a4) := by
  refine Keeps.next (k := [Part.masts, .log, .lane, .mem]) (s := s) ?_ hk g
  clear hk g s0 l
  delta State.lineStore
  try beta_reduce
  repeat' first
    | intro _
    | (with_reducible first | assumption | exact Keeps.refl _ _ | apply Keeps.ite | apply Keeps.fold | apply State.answer_keeps | apply State.raiseM_keeps | apply State.fabricStore_keeps)
    | split
    | (clear_value *; split)
  all_goals first | rfl

theorem State.countCodes_keeps {l : List Part} {s0 s : State} (a1 : Nat) (a2 : Nat) (a3 : List Nat)
    (hk : within [Part.regs] l = true) (g : Keeps l s0 s) : Keeps l s0 (State.countCodes s a1 a2 a3) := by
  refine Keeps.next (k := [Part.regs]) (s := s) ?_ hk g
  clear hk g s0 l
  delta State.countCodes
  try beta_reduce
  try lift_lets -underBinder
  repeat' first
    | (intro x; first | (have hx : Keeps [Part.regs] s x := (by unfold x; (repeat' first | intro _ | (with_reducible first | assumption | exact Keeps.refl _ _ | apply Keeps.ite | apply Keeps.fold | apply State.incF_keeps) | lift_lets -underBinder | split | (clear_value *; split)) <;> first | rfl); clear_value x) | skip)
    | (with_reducible first | assumption | exact Keeps.refl _ _ | apply Keeps.ite | apply Keeps.fold | apply State.incF_keeps)
    | lift_lets -underBinder
    | split
    | (clear_value *; split)
  all_goals first | rfl

theorem State.slQueue_keeps {l : List Part} {s0 s : State} (a1 : Sys2Proof.Mast) (a2 : List Sys2Proof.Byte)
    (hk : within [Part.stay] l = true) (g : Keeps l s0 s) : Keeps l s0 (State.slQueue s a1 a2) := by
  refine Keeps.next (k := [Part.stay]) (s := s) ?_ hk g
  clear hk g s0 l
  delta State.slQueue
  try beta_reduce
  try lift_lets -underBinder
  repeat' first
    | (intro x; first | (have hx : Keeps [Part.stay] s x := (by unfold x; (repeat' first | intro _ | (with_reducible first | assumption | exact Keeps.refl _ _ | apply Keeps.ite | apply Keeps.fold) | lift_lets -underBinder | split | (clear_value *; split) | (with_reducible apply Keeps.upd_stay)) <;> first | rfl); clear_value x) | skip)
    | (with_reducible first | assumption | exact Keeps.refl _ _ | apply Keeps.ite | apply Keeps.fold)
    | lift_lets -underBinder
    | split
    | (clear_value *; split)
    | (with_reducible apply Keeps.upd_stay)
  all_goals first | rfl

theorem State.yieldNow_keeps {l : List Part} {s0 s : State} (a1 : Nat) (a2 : Sys2Proof.Mast)
    (hk : within [Part.regs, .log, .lane, .bridge] l = true) (g : Keeps l s0 s) : Keeps l s0 (State.yieldNow s a1 a2) := by
  refine Keeps.next (k := [Part.regs, .log, .lane, .bridge]) (s := s) ?_ hk g
  clear hk g s0 l
  delta State.yieldNow
  try beta_reduce
  try lift_lets -underBinder
  repeat' first
    | (intro x; first | (have hx : Keeps [Part.regs, .log, .lane, .bridge] s x := (by unfold x; (repeat' first | intro _ | (with_reducible first | assumption | exact Keeps.refl _ _ | apply Keeps.ite | apply Keeps.fold | apply State.handOver_keeps) | lift_lets -underBinder | split | (clear_value *; split)) <;> first | rfl); clear_value x) | skip)
    | (with_reducible first | assumption | exact Keeps.refl _ _ | apply Keeps.ite | apply Keeps.fold | apply State.handOver_keeps)
    | lift_lets -underBinder
    | split
    | (clear_value *; split)
  all_goals first | rfl

theorem State.slotChannel_keeps {l : List Part} {s0 s : State} (a1 : Nat) (a2 : Sys2Proof.Mast → Bool)
    (hk : within [Part.regs, .log, .lane, .bridge] l = true) (g : Keeps l s0 s) : Keeps l s0 (State.slotChannel s a1 a2).1 := by
  refine Keeps.next (k := [Part.regs, .log, .lane, .bridge]) (s := s) ?_ hk g
  clear hk g s0 l
  delta State.slotChannel
  try beta_reduce
  try lift_lets -underBinder
  repeat' first
    | (intro x; first | (have hx : Keeps [Part.regs, .log, .lane, .bridge] s x := (by unfold x; (repeat' first | intro _ | (with_reducible first | assumption | exact Keeps.refl _ _ | apply Keeps.ite | apply Keeps.fold | apply State.yieldNow_keeps) | lift_lets -underBinder | split | (clear_value *; split)) <;> first | rfl); clear_value x) | skip)
    | (with_reducible first | assumption | exact Keeps.refl _ _ | apply Keeps.ite | apply Keeps.fold | apply State.yieldNow_keeps)
    | lift_lets -underBinder
    | split
    | (clear_value *; split)
  all_goals first | rfl

theorem State.slotChannel_keeps_of {l : List Part} {s0 s t : State} {a1 : Nat} {a2 : Sys2Proof.Mast → Bool} {b} (e : State.slotChannel s a1 a2 = (t, b))
    (hk : within [Part.regs, .log, .lane, .bridge] l = true) (g : Keeps l s0 s) : Keeps l s0 t := by
  have h := State.slotChannel_keeps a1 a2 hk g
  rw [e] at h; exact h

theorem State.fbNoise_keeps {l : List Part} {s0 s : State} (a1 : Nat) (a2 : Nat) (a3 : Nat)
    (hk : within [Part.fb] l = true) (g : Keeps l s0 s) : Keeps l s0 (State.fbNoise s a1 a2 a3) := by
  refine Keeps.next (k := [Part.fb]) (s := s) ?_ hk g
  clear hk g s0 l
  delta State.fbNoise
  try beta_reduce
  try lift_lets -underBinder
  repeat' first
    | (intro x; first | (have hx : Keeps [Part.fb] s x := (by unfold x; (repeat' first | intro _ | (with_reducible first | assumption | exact Keeps.refl _ _ | apply Keeps.ite | apply Keeps.fold | apply State.setBus_keeps) | lift_lets -underBinder | split | (clear_value *; split)) <;> first | rfl); clear_value x) | skip)
    | (with_reducible first | assumption | exact Keeps.refl _ _ | apply Keeps.ite | apply Keeps.fold | apply State.setBus_keeps)
    | lift_lets -underBinder
    | split
    | (clear_value *; split)
  all_goals first | rfl

theorem State.countOutErr_keeps {l : List Part} {s0 s : State} (a1 : Nat)
    (hk : within [Part.regs] l = true) (g : Keeps l s0 s) : Keeps l s0 (State.countOutErr s a1) := by
  refine Keeps.next (k := [Part.regs]) (s := s) ?_ hk g
  clear hk g s0 l
  delta State.countOutErr
  try beta_reduce
  repeat' first
    | intro _
    | (with_reducible first | assumption | exact Keeps.refl _ _ | apply Keeps.ite | apply Keeps.fold | apply State.incF_keeps)
    | split
    | (clear_value *; split)
  all_goals first | rfl

theorem State.scReject_keeps {l : List Part} {s0 s : State} (a1 : Nat) (a2 : Nat)
    (hk : within [Part.regs, .log] l = true) (g : Keeps l s0 s) : Keeps l s0 (State.scReject s a1 a2) := by
  refine Keeps.next (k := [Part.regs, .log]) (s := s) ?_ hk g
  clear hk g s0 l
  delta State.scReject
  try beta_reduce
  repeat' first
    | intro _
    | (with_reducible first | assumption | exact Keeps.refl _ _ | apply Keeps.ite | apply Keeps.fold | apply State.raiseLimited_keeps | apply State.incF_keeps)
    | split
    | (clear_value *; split)
  all_goals first | rfl

theorem State.mcGate_keeps {l : List Part} {s0 s t : State} {w : Per Bool} {code : Nat} {modes : List Mode}
    (e : State.mcGate s w code modes = some t) (hk : within [Part.regs, .log] l = true) (g : Keeps l s0 s) : Keeps l s0 t := by
  refine Keeps.next (k := [Part.regs, .log]) (s := s) ?_ hk g
  unfold State.mcGate at e
  split at e
  · cases e; exact Keeps.refl _ _
  · split at e
    · cases e; exact State.raise_keeps _ _ _ rfl (State.mcDone_keeps _ _ _ rfl (Keeps.refl _ _))
    · split at e
      · cases e; exact State.mcDone_keeps _ _ _ rfl (Keeps.refl _ _)
      · cases e

theorem State.pairDiscrepancy_keeps {l : List Part} {s0 s : State} (a1 : Nat) (a2 : Nat) (a3 : Nat)
    (hk : within [Part.log, .field] l = true) (g : Keeps l s0 s) : Keeps l s0 (State.pairDiscrepancy s a1 a2 a3) := by
  refine Keeps.next (k := [Part.log, .field]) (s := s) ?_ hk g
  clear hk g s0 l
  delta State.pairDiscrepancy
  try beta_reduce
  repeat' first
    | intro _
    | (with_reducible first | assumption | exact Keeps.refl _ _ | apply Keeps.ite | apply Keeps.fold | apply State.raise_keeps | apply State.setPair_keeps)
    | split
    | (clear_value *; split)
  all_goals first | rfl

theorem State.pairChange_keeps {l : List Part} {s0 s : State} (a1 : Nat) (a2 : Nat) (a3 : Nat)
    (hk : within [Part.log, .field] l = true) (g : Keeps l s0 s) : Keeps l s0 (State.pairChange s a1 a2 a3) := by
  refine Keeps.next (k := [Part.log, .field]) (s := s) ?_ hk g
  clear hk g s0 l
  delta State.pairChange
  try beta_reduce
  try lift_lets -underBinder
  repeat' first
    | (intro x; first | (have hx : Keeps [Part.log, .field] s x := (by unfold x; (repeat' first | intro _ | (with_reducible first | assumption | exact Keeps.refl _ _ | apply Keeps.ite | apply Keeps.fold | apply State.setPair_keeps | apply State.pairDiscrepancy_keeps | apply State.raise_keeps) | lift_lets -underBinder | split | (clear_value *; split)) <;> first | rfl); clear_value x) | skip)
    | (with_reducible first | assumption | exact Keeps.refl _ _ | apply Keeps.ite | apply Keeps.fold | apply State.setPair_keeps | apply State.pairDiscrepancy_keeps | apply State.raise_keeps)
    | lift_lets -underBinder
    | split
    | (clear_value *; split)
  all_goals first | rfl

theorem State.passOn_keeps {l : List Part} {s0 s : State} (a1 : Mast) (a2 : Triad) (a3 : BitVec 64)
    (hk : within [Part.masts] l = true) (g : Keeps l s0 s) : Keeps l s0 (State.passOn s a1 a2 a3) :=
  Keeps.setMast a1 _ (by cases a2 <;> rfl) hk g

theorem State.measured_keeps {l : List Part} {s0 s : State} (a1 : Nat) (a2 : Int)
    (hk : within [Part.regs, .log, .time] l = true) (g : Keeps l s0 s) : Keeps l s0 (State.measured s a1 a2) := by
  refine Keeps.next (k := [Part.regs, .log, .time]) (s := s) ?_ hk g
  clear hk g s0 l
  delta State.measured
  try beta_reduce
  try lift_lets -underBinder
  repeat' first
    | (intro x; first | (have hx : Keeps [Part.regs, .log, .time] s x := (by unfold x; (repeat' first | intro _ | (with_reducible first | assumption | exact Keeps.refl _ _ | apply Keeps.ite | apply Keeps.fold | apply State.putF_keeps | apply State.raise_keeps | apply State.setServo_keeps | apply State.refuseStep_keeps) | lift_lets -underBinder | split | (clear_value *; split) | (with_reducible apply Keeps.upd_time)) <;> first | rfl); clear_value x) | skip)
    | (with_reducible first | assumption | exact Keeps.refl _ _ | apply Keeps.ite | apply Keeps.fold | apply State.putF_keeps | apply State.raise_keeps | apply State.setServo_keeps | apply State.refuseStep_keeps)
    | lift_lets -underBinder
    | split
    | (clear_value *; split)
    | (with_reducible apply Keeps.upd_time)
  all_goals first | rfl

theorem State.slTime_keeps {l : List Part} {s0 s : State} (a1 : List Sys2Proof.Byte)
    (hk : within [Part.regs, .log, .time] l = true) (g : Keeps l s0 s) : Keeps l s0 (State.slTime s a1) := by
  refine Keeps.next (k := [Part.regs, .log, .time]) (s := s) ?_ hk g
  clear hk g s0 l
  delta State.slTime
  try beta_reduce
  try lift_lets -underBinder
  repeat' first
    | (intro x; first | (have hx : Keeps [Part.regs, .log, .time] s x := (by unfold x; (repeat' first | intro _ | (with_reducible first | assumption | exact Keeps.refl _ _ | apply Keeps.ite | apply Keeps.fold | apply State.putF_keeps | apply State.measured_keeps) | lift_lets -underBinder | split | (clear_value *; split) | (with_reducible apply Keeps.upd_time)) <;> first | rfl); clear_value x) | skip)
    | (with_reducible first | assumption | exact Keeps.refl _ _ | apply Keeps.ite | apply Keeps.fold | apply State.putF_keeps | apply State.measured_keeps)
    | lift_lets -underBinder
    | split
    | (clear_value *; split)
    | (with_reducible apply Keeps.upd_time)
  all_goals first | rfl

theorem State.slPresence_keeps {l : List Part} {s0 s : State} (a1 : List Sys2Proof.Byte)
    (hk : within [Part.regs, .log, .time, .stay] l = true) (g : Keeps l s0 s) : Keeps l s0 (State.slPresence s a1) := by
  refine Keeps.next (k := [Part.regs, .log, .time, .stay]) (s := s) ?_ hk g
  clear hk g s0 l
  delta State.slPresence
  try beta_reduce
  try lift_lets -underBinder
  repeat' first
    | (intro x; first | (have hx : Keeps [Part.regs, .log, .time, .stay] s x := (by unfold x; (repeat' first | intro _ | (with_reducible first | assumption | exact Keeps.refl _ _ | apply Keeps.ite | apply Keeps.fold | apply State.showMembers_keeps | apply State.raise_keeps | apply State.slSetMaster_keeps | apply State.slMismatch_keeps) | lift_lets -underBinder | split | (clear_value *; split) | (with_reducible apply Keeps.upd_stay)) <;> first | rfl); clear_value x) | skip)
    | (with_reducible first | assumption | exact Keeps.refl _ _ | apply Keeps.ite | apply Keeps.fold | apply State.showMembers_keeps | apply State.raise_keeps | apply State.slSetMaster_keeps | apply State.slMismatch_keeps)
    | lift_lets -underBinder
    | split
    | (clear_value *; split)
    | (with_reducible apply Keeps.upd_stay)
  all_goals first | rfl

theorem State.slFragment_keeps {l : List Part} {s0 s : State} (a1 : List Sys2Proof.Byte) (a2 : List Sys2Proof.Byte)
    (hk : within [Part.intake, .stay] l = true) (g : Keeps l s0 s) : Keeps l s0 (State.slFragment s a1 a2) := by
  refine Keeps.next (k := [Part.intake, .stay]) (s := s) ?_ hk g
  clear hk g s0 l
  delta State.slFragment
  try beta_reduce
  try lift_lets -underBinder
  repeat' first
    | (intro x; first | (have hx : Keeps [Part.intake, .stay] s x := (by unfold x; (repeat' first | intro _ | (with_reducible first | assumption | exact Keeps.refl _ _ | apply Keeps.ite | apply Keeps.fold | apply State.slItem_keeps) | lift_lets -underBinder | split | (clear_value *; split) | (with_reducible apply Keeps.upd_stay)) <;> first | rfl); clear_value x) | skip)
    | (with_reducible first | assumption | exact Keeps.refl _ _ | apply Keeps.ite | apply Keeps.fold | apply State.slItem_keeps)
    | lift_lets -underBinder
    | split
    | (clear_value *; split)
    | (with_reducible apply Keeps.upd_stay)
  all_goals first | rfl

theorem State.slDeliver_keeps {l : List Part} {s0 s : State} (a1 : List Sys2Proof.Byte) (a2 : List Sys2Proof.Byte)
    (hk : within [Part.regs, .log, .intake, .time, .stay] l = true) (g : Keeps l s0 s) : Keeps l s0 (State.slDeliver s a1 a2) := by
  refine Keeps.next (k := [Part.regs, .log, .intake, .time, .stay]) (s := s) ?_ hk g
  clear hk g s0 l
  delta State.slDeliver
  try beta_reduce
  try lift_lets -underBinder
  repeat' first
    | (intro x; first | (have hx : Keeps [Part.regs, .log, .intake, .time, .stay] s x := (by unfold x; (repeat' first | intro _ | (with_reducible first | assumption | exact Keeps.refl _ _ | apply Keeps.ite | apply Keeps.fold | apply State.slItem_keeps | apply State.slTime_keeps | apply State.slPresence_keeps | apply State.slFragment_keeps | apply State.wrapF_keeps) | lift_lets -underBinder | split | (clear_value *; split)) <;> first | rfl); clear_value x) | skip)
    | (with_reducible first | assumption | exact Keeps.refl _ _ | apply Keeps.ite | apply Keeps.fold | apply State.slItem_keeps | apply State.slTime_keeps | apply State.slPresence_keeps | apply State.slFragment_keeps | apply State.wrapF_keeps)
    | lift_lets -underBinder
    | split
    | (clear_value *; split)
  all_goals first | rfl

theorem State.checkLate_keeps {l : List Part} {s0 s : State}
    (hk : within [Part.regs, .writes, .ctl, .masts, .log, .key, .lane, .intake, .time, .fb, .app, .queue, .bridge, .stay, .net, .sup, .field, .upd, .mon, .mem] l = true) (g : Keeps l s0 s) : Keeps l s0 (State.checkLate s) := by
  refine Keeps.next (k := [Part.regs, .writes, .ctl, .masts, .log, .key, .lane, .intake, .time, .fb, .app, .queue, .bridge, .stay, .net, .sup, .field, .upd, .mon, .mem]) (s := s) ?_ hk g
  clear hk g s0 l
  delta State.checkLate
  try beta_reduce
  try lift_lets -underBinder
  repeat' first
    | (intro x; first | (have hx : Keeps [Part.regs, .writes, .ctl, .masts, .log, .key, .lane, .intake, .time, .fb, .app, .queue, .bridge, .stay, .net, .sup, .field, .upd, .mon, .mem] s x := (by unfold x; (repeat' first | intro _ | (with_reducible first | assumption | exact Keeps.refl _ _ | apply Keeps.ite | apply Keeps.fold | apply State.applyLoss_keeps) | lift_lets -underBinder | split | (clear_value *; split) | (with_reducible apply Keeps.upd_lane)) <;> first | rfl); clear_value x) | skip)
    | (with_reducible first | assumption | exact Keeps.refl _ _ | apply Keeps.ite | apply Keeps.fold | apply State.applyLoss_keeps)
    | lift_lets -underBinder
    | split
    | (clear_value *; split)
    | (with_reducible apply Keeps.upd_lane)
  all_goals first | rfl

theorem State.showBadKey_keeps {l : List Part} {s0 s : State} (a1 : Nat) (a2 : Sys2Proof.Word)
    (hk : within [Part.regs] l = true) (g : Keeps l s0 s) : Keeps l s0 (State.showBadKey s a1 a2) := by
  refine Keeps.next (k := [Part.regs]) (s := s) ?_ hk g
  clear hk g s0 l
  delta State.showBadKey
  try beta_reduce
  repeat' first
    | intro _
    | (with_reducible first | assumption | exact Keeps.refl _ _ | apply Keeps.ite | apply Keeps.fold | apply State.putF_keeps)
    | split
    | (clear_value *; split)
  all_goals first | rfl

theorem State.setSc_keeps {l : List Part} {s0 s : State} (a1 : Nat) (a2 : SafeConn)
    (hk : within [Part.net] l = true) (g : Keeps l s0 s) : Keeps l s0 (State.setSc s a1 a2) := by
  refine Keeps.next (k := [Part.net]) (s := s) ?_ hk g
  clear hk g s0 l
  delta State.setSc
  try beta_reduce
  try lift_lets -underBinder
  repeat' first
    | (intro x; first | (have hx : Keeps [Part.net] s x := (by unfold x; (repeat' first | intro _ | (with_reducible first | assumption | exact Keeps.refl _ _ | apply Keeps.ite | apply Keeps.fold) | lift_lets -underBinder | split | (clear_value *; split) | (with_reducible apply Keeps.upd_net)) <;> first | rfl); clear_value x) | skip)
    | (with_reducible first | assumption | exact Keeps.refl _ _ | apply Keeps.ite | apply Keeps.fold)
    | lift_lets -underBinder
    | split
    | (clear_value *; split)
    | (with_reducible apply Keeps.upd_net)
  all_goals first | rfl

theorem State.stuckButton_keeps {l : List Part} {s0 s : State} (a1 : Nat)
    (hk : within [Part.regs, .log] l = true) (g : Keeps l s0 s) : Keeps l s0 (State.stuckButton s a1) := by
  refine Keeps.next (k := [Part.regs, .log]) (s := s) ?_ hk g
  clear hk g s0 l
  delta State.stuckButton
  try beta_reduce
  try lift_lets -underBinder
  repeat' first
    | (intro x; first | (have hx : Keeps [Part.regs, .log] s x := (by unfold x; (repeat' first | intro _ | (with_reducible first | assumption | exact Keeps.refl _ _ | apply Keeps.ite | apply Keeps.fold | apply State.putF_keeps | apply State.raise_keeps) | lift_lets -underBinder | split | (clear_value *; split)) <;> first | rfl); clear_value x) | skip)
    | (with_reducible first | assumption | exact Keeps.refl _ _ | apply Keeps.ite | apply Keeps.fold | apply State.putF_keeps | apply State.raise_keeps)
    | lift_lets -underBinder
    | split
    | (clear_value *; split)
  all_goals first | rfl

theorem State.powerUp_keeps {l : List Part} {s0 s : State} (a1 : Sys2Proof.BootEnv)
    (hk : within [Part.now, .regs, .shown, .writes, .ctl, .masts, .log, .key, .lane, .intake, .time, .pos, .fb, .app, .queue, .bridge, .stay, .net, .sup, .field, .upd, .supply, .panel, .standby, .mon, .free, .mem] l = true) (g : Keeps l s0 s) : Keeps l s0 (State.powerUp s a1) := by
  refine Keeps.next (k := [Part.now, .regs, .shown, .writes, .ctl, .masts, .log, .key, .lane, .intake, .time, .pos, .fb, .app, .queue, .bridge, .stay, .net, .sup, .field, .upd, .supply, .panel, .standby, .mon, .free, .mem]) (s := s) ?_ hk g
  clear hk g s0 l
  delta State.powerUp
  try beta_reduce
  try lift_lets -underBinder
  repeat' first
    | (intro x; first | (have hx : Keeps [Part.now, .regs, .shown, .writes, .ctl, .masts, .log, .key, .lane, .intake, .time, .pos, .fb, .app, .queue, .bridge, .stay, .net, .sup, .field, .upd, .supply, .panel, .standby, .mon, .free, .mem] s x := (by unfold x; (repeat' first | intro _ | (with_reducible first | assumption | exact Keeps.refl _ _ | apply Keeps.ite | apply Keeps.fold | apply State.bare_keeps | apply State.bootPower_keeps | apply State.putF_keeps | apply State.raise_keeps | apply State.stuckButton_keeps | apply State.bootRun_keeps) | lift_lets -underBinder | split | (clear_value *; split) | (with_reducible apply Keeps.upd_supply_panel)) <;> first | rfl); clear_value x) | skip)
    | (with_reducible first | assumption | exact Keeps.refl _ _ | apply Keeps.ite | apply Keeps.fold | apply State.bare_keeps | apply State.bootPower_keeps | apply State.putF_keeps | apply State.raise_keeps | apply State.stuckButton_keeps | apply State.bootRun_keeps)
    | lift_lets -underBinder
    | split
    | (clear_value *; split)
    | (with_reducible apply Keeps.upd_supply_panel)
  all_goals first | rfl

theorem State.portInterrupts_keeps {l : List Part} {s0 s : State} (a1 : List Sys2Proof.Mast) (a2 : List Sys2Proof.Item)
    (hk : within [Part.masts] l = true) (g : Keeps l s0 s) : Keeps l s0 (State.portInterrupts s a1 a2) := by
  refine Keeps.next (k := [Part.masts]) (s := s) ?_ hk g
  clear hk g s0 l
  delta State.portInterrupts
  try beta_reduce
  repeat' first
    | intro _
    | (with_reducible first | assumption | exact Keeps.refl _ _ | apply Keeps.ite | apply Keeps.fold | apply State.interrupt_keeps)
    | split
    | (clear_value *; split)
  all_goals first | rfl

theorem State.outDeposit_keeps {l : List Part} {s0 s : State} (a1 : Sys2Proof.Mast) (a2 : Option Sys2Proof.Triad) (a3 : Nat) (a4 : Nat) (a5 : Nat) (a6 : Nat) (a7 : Nat) (a8 : Bool) (a9 : Nat) (a10 : List Sys2Proof.Byte)
    (hk : within [Part.masts, .log, .intake, .bridge] l = true) (g : Keeps l s0 s) : Keeps l s0 (State.outDeposit s a1 a2 a3 a4 a5 a6 a7 a8 a9 a10) := by
  refine Keeps.next (k := [Part.masts, .log, .intake, .bridge]) (s := s) ?_ hk g
  clear hk g s0 l
  delta State.outDeposit
  try beta_reduce
  try lift_lets -underBinder
  repeat' first
    | (intro x; first | (have hx : Keeps [Part.masts, .log, .intake, .bridge] s x := (by unfold x; (repeat' first | intro _ | (with_reducible first | assumption | exact Keeps.refl _ _ | apply Keeps.ite | apply Keeps.fold | apply State.answer_keeps | apply State.exitFail_keeps) | lift_lets -underBinder | split | (clear_value *; split) | (with_reducible apply Keeps.upd_bridge)) <;> first | rfl); clear_value x) | skip)
    | (with_reducible first | assumption | exact Keeps.refl _ _ | apply Keeps.ite | apply Keeps.fold | apply State.answer_keeps | apply State.exitFail_keeps)
    | lift_lets -underBinder
    | split
    | (clear_value *; split)
    | (with_reducible apply Keeps.upd_bridge)
  all_goals first | rfl

theorem State.postedComplete_keeps {l : List Part} {s0 s : State}
    (hk : within [Part.masts, .bridge] l = true) (g : Keeps l s0 s) : Keeps l s0 (State.postedComplete s) := by
  refine Keeps.next (k := [Part.masts, .bridge]) (s := s) ?_ hk g
  clear hk g s0 l
  delta State.postedComplete
  try beta_reduce
  try lift_lets -underBinder
  repeat' first
    | (intro x; first | (have hx : Keeps [Part.masts, .bridge] s x := (by unfold x; (repeat' first | intro _ | (with_reducible first | assumption | exact Keeps.refl _ _ | apply Keeps.ite | apply Keeps.fold | apply State.answerWaiting_keeps) | lift_lets -underBinder | split | (clear_value *; split) | (with_reducible apply Keeps.upd_bridge)) <;> first | rfl); clear_value x) | skip)
    | (with_reducible first | assumption | exact Keeps.refl _ _ | apply Keeps.ite | apply Keeps.fold | apply State.answerWaiting_keeps)
    | lift_lets -underBinder
    | split
    | (clear_value *; split)
    | (with_reducible apply Keeps.upd_bridge)
  all_goals first | rfl

theorem State.outAccess_keeps {l : List Part} {s0 s : State} (a1 : Sys2Proof.Mast) (a2 : Option Sys2Proof.Triad) (a3 : Nat) (a4 : Nat) (a5 : Nat) (a6 : Nat) (a7 : List Sys2Proof.Byte) (a8 : Nat)
    (hk : within [Part.regs, .masts, .log, .intake, .bridge] l = true) (g : Keeps l s0 s) : Keeps l s0 (State.outAccess s a1 a2 a3 a4 a5 a6 a7 a8) := by
  refine Keeps.next (k := [Part.regs, .masts, .log, .intake, .bridge]) (s := s) ?_ hk g
  clear hk g s0 l
  delta State.outAccess
  try beta_reduce
  try lift_lets -underBinder
  repeat' first
    | (intro x; first | (have hx : Keeps [Part.regs, .masts, .log, .intake, .bridge] s x := (by unfold x; (repeat' first | intro _ | (with_reducible first | assumption | exact Keeps.refl _ _ | apply Keeps.ite | apply Keeps.fold | apply State.outDeposit_keeps | apply State.bridgeKick_keeps | apply State.postedComplete_keeps) | lift_lets -underBinder | split | (clear_value *; split) | (with_reducible apply Keeps.upd_bridge)) <;> first | rfl); clear_value x) | skip)
    | (with_reducible first | assumption | exact Keeps.refl _ _ | apply Keeps.ite | apply Keeps.fold | apply State.outDeposit_keeps | apply State.bridgeKick_keeps | apply State.postedComplete_keeps)
    | lift_lets -underBinder
    | split
    | (clear_value *; split)
    | (with_reducible apply Keeps.upd_bridge)
  all_goals first | rfl

theorem State.commitDuplex_keeps {l : List Part} {s0 s : State} (a1 : Nat) (a2 : List Sys2Proof.Mast)
    (hk : within [Part.regs, .writes, .ctl, .masts, .log, .key, .lane, .intake, .fb, .app, .queue, .bridge, .stay, .net, .sup, .field, .upd, .mon, .mem] l = true) (g : Keeps l s0 s) : Keeps l s0 (State.commitDuplex s a1 a2) := by
  refine Keeps.next (k := [Part.regs, .writes, .ctl, .masts, .log, .key, .lane, .intake, .fb, .app, .queue, .bridge, .stay, .net, .sup, .field, .upd, .mon, .mem]) (s := s) ?_ hk g
  clear hk g s0 l
  delta State.commitDuplex
  try beta_reduce
  repeat' first
    | intro _
    | (with_reducible first | assumption | exact Keeps.refl _ _ | apply Keeps.ite | apply Keeps.fold | apply State.commitImage_keeps | apply State.disagree_keeps | apply State.noCommit_keeps)
    | split
    | (clear_value *; split)
  all_goals first | rfl

theorem State.spOverrate_keeps {l : List Part} {s0 s : State} (a1 : Nat)
    (hk : within [Part.regs, .log, .sup] l = true) (g : Keeps l s0 s) : Keeps l s0 (State.spOverrate s a1) := by
  refine Keeps.next (k := [Part.regs, .log, .sup]) (s := s) ?_ hk g
  clear hk g s0 l
  delta State.spOverrate
  try beta_reduce
  repeat' first
    | intro _
    | (with_reducible first | assumption | exact Keeps.refl _ _ | apply Keeps.ite | apply Keeps.fold | apply State.showForce_keeps | apply State.odoFault_keeps)
    | split
    | (clear_value *; split)
  all_goals first | rfl

theorem State.refillTokens_keeps {l : List Part} {s0 s : State}
    (hk : within [Part.log] l = true) (g : Keeps l s0 s) : Keeps l s0 (State.refillTokens s) := by
  refine Keeps.next (k := [Part.log]) (s := s) ?_ hk g
  clear hk g s0 l
  delta State.refillTokens
  try beta_reduce
  try lift_lets -underBinder
  repeat' first
    | (intro x; first | (have hx : Keeps [Part.log] s x := (by unfold x; (repeat' first | intro _ | (with_reducible first | assumption | exact Keeps.refl _ _ | apply Keeps.ite | apply Keeps.fold) | lift_lets -underBinder | split | (clear_value *; split) | (with_reducible apply Keeps.upd_log)) <;> first | rfl); clear_value x) | skip)
    | (with_reducible first | assumption | exact Keeps.refl _ _ | apply Keeps.ite | apply Keeps.fold)
    | lift_lets -underBinder
    | split
    | (clear_value *; split)
    | (with_reducible apply Keeps.upd_log)
  all_goals first | rfl

theorem State.dieLimit_keeps {l : List Part} {s0 s : State} (a1 : Sys2Proof.Mast) (a2 : Int)
    (hk : within [Part.regs, .masts, .lane, .time, .mem] l = true) (g : Keeps l s0 s) : Keeps l s0 (State.dieLimit s a1 a2) := by
  refine Keeps.next (k := [Part.regs, .masts, .lane, .time, .mem]) (s := s) ?_ hk g
  clear hk g s0 l
  delta State.dieLimit
  try beta_reduce
  repeat' first
    | intro _
    | (with_reducible first | assumption | exact Keeps.refl _ _ | apply Keeps.ite | apply Keeps.fold | apply State.goSilent_keeps)
    | split
    | (clear_value *; split)
  all_goals first | rfl

theorem State.indexError_keeps {l : List Part} {s0 s : State} (a1 : Sys2Proof.Mast) (a2 : Nat) (a3 : Nat)
    (hk : within [Part.regs, .log] l = true) (g : Keeps l s0 s) : Keeps l s0 (State.indexError s a1 a2 a3) := by
  refine Keeps.next (k := [Part.regs, .log]) (s := s) ?_ hk g
  clear hk g s0 l
  delta State.indexError
  try beta_reduce
  repeat' first
    | intro _
    | (with_reducible first | assumption | exact Keeps.refl _ _ | apply Keeps.ite | apply Keeps.fold | apply State.raiseLimited_keeps | apply State.incF_keeps)
    | split
    | (clear_value *; split)
  all_goals first | rfl

theorem State.gapCheck_keeps {l : List Part} {s0 s : State} (a1 : Sys2Proof.Item)
    (hk : within [Part.regs, .log, .intake] l = true) (g : Keeps l s0 s) : Keeps l s0 (State.gapCheck s a1) := by
  refine Keeps.next (k := [Part.regs, .log, .intake]) (s := s) ?_ hk g
  clear hk g s0 l
  delta State.gapCheck
  try beta_reduce
  try lift_lets -underBinder
  repeat' first
    | (intro x; first | (have hx : Keeps [Part.regs, .log, .intake] s x := (by unfold x; (repeat' first | intro _ | (with_reducible first | assumption | exact Keeps.refl _ _ | apply Keeps.ite | apply Keeps.fold | apply State.itErr_keeps | apply State.incF_keeps | apply State.raiseLimited_keeps) | lift_lets -underBinder | split | (clear_value *; split) | (with_reducible apply Keeps.upd_intake)) <;> first | rfl); clear_value x) | skip)
    | (with_reducible first | assumption | exact Keeps.refl _ _ | apply Keeps.ite | apply Keeps.fold | apply State.itErr_keeps | apply State.incF_keeps | apply State.raiseLimited_keeps)
    | lift_lets -underBinder
    | split
    | (clear_value *; split)
    | (with_reducible apply Keeps.upd_intake)
  all_goals first | rfl

theorem State.captureStamp_keeps {l : List Part} {s0 s : State} (a1 : Nat) (a2 : Nat) (a3 : Nat)
    (hk : within [Part.time] l = true) (g : Keeps l s0 s) : Keeps l s0 (State.captureStamp s a1 a2 a3) := by
  refine Keeps.next (k := [Part.time]) (s := s) ?_ hk g
  clear hk g s0 l
  delta State.captureStamp
  try beta_reduce
  try lift_lets -underBinder
  repeat' first
    | (intro x; first | (have hx : Keeps [Part.time] s x := (by unfold x; (repeat' first | intro _ | (with_reducible first | assumption | exact Keeps.refl _ _ | apply Keeps.ite | apply Keeps.fold) | lift_lets -underBinder | split | (clear_value *; split) | (with_reducible apply Keeps.upd_time)) <;> first | rfl); clear_value x) | skip)
    | (with_reducible first | assumption | exact Keeps.refl _ _ | apply Keeps.ite | apply Keeps.fold)
    | lift_lets -underBinder
    | split
    | (clear_value *; split)
    | (with_reducible apply Keeps.upd_time)
  all_goals first | rfl

theorem State.overrun_keeps {l : List Part} {s0 s : State} (a1 : Sys2Proof.Mast) (a2 : Nat)
    (hk : within [Part.app] l = true) (g : Keeps l s0 s) : Keeps l s0 (State.overrun s a1 a2) := by
  refine Keeps.next (k := [Part.app]) (s := s) ?_ hk g
  clear hk g s0 l
  delta State.overrun
  try beta_reduce
  try lift_lets -underBinder
  repeat' first
    | (intro x; first | (have hx : Keeps [Part.app] s x := (by unfold x; (repeat' first | intro _ | (with_reducible first | assumption | exact Keeps.refl _ _ | apply Keeps.ite | apply Keeps.fold) | lift_lets -underBinder | split | (clear_value *; split) | (with_reducible apply Keeps.upd_app)) <;> first | rfl); clear_value x) | skip)
    | (with_reducible first | assumption | exact Keeps.refl _ _ | apply Keeps.ite | apply Keeps.fold)
    | lift_lets -underBinder
    | split
    | (clear_value *; split)
    | (with_reducible apply Keeps.upd_app)
  all_goals first | rfl

theorem State.loadCheckpoint_keeps {l : List Part} {s0 s : State} (a1 a2 a3 : Mast)
    (hk : within [Part.regs, .masts, .lane, .intake, .time, .pos, .app, .queue, .net, .sup, .field, .mem] l = true) (g : Keeps l s0 s) :
    Keeps l s0 (State.loadCheckpoint s a1 a2 a3) := by
  refine Keeps.next (k := [Part.regs, .masts, .lane, .intake, .time, .pos, .app, .queue, .net, .sup, .field, .mem]) (s := s) ?_ hk g
  have h1 : ∀ (kept : Memory) (x : List Host.Cell) (r : List (Nat × Nat)), (canonical s → kept.wf = true) → Keeps [Part.regs, .masts, .lane, .intake, .time, .pos, .app, .queue, .net, .sup, .field, .mem] s
      (s.setMem a3 (r.foldl (fun (y : Memory) r => y.markRange r.1 (r.2 * 4096)) (kept.putCells x))) := fun kept x r hw =>
    Keeps.setMem _ _ (fun h => State.loadCheckpoint_mem _ _ _ (hw h)) rfl (Keeps.refl _ _)
  delta State.loadCheckpoint
  refine Keeps.ite (h1 _ _ _ fun h => Memory.wf_filter _ _ (h.2 a3)) ?_
  exact Keeps.upd_time _ rfl (State.placeImage_keeps _ _ rfl (State.copyBlocks_keeps _ _ rfl (h1 _ _ _ fun h => Memory.wf_filter _ _ (h.2 a3))))

theorem State.forceSymbol_keeps {l : List Part} {s0 s : State} (a1 : Nat) (a2 : Int)
    (hk : within [Part.regs, .log, .app] l = true) (g : Keeps l s0 s) : Keeps l s0 (State.forceSymbol s a1 a2).1 := by
  refine Keeps.next (k := [Part.regs, .log, .app]) (s := s) ?_ hk g
  clear hk g s0 l
  delta State.forceSymbol
  try beta_reduce
  try lift_lets -underBinder
  repeat' first
    | (intro x; first | (have hx : Keeps [Part.regs, .log, .app] s x := (by unfold x; (repeat' first | intro _ | (with_reducible first | assumption | exact Keeps.refl _ _ | apply Keeps.ite | apply Keeps.fold | apply State.raise_keeps | apply State.showForces_keeps | apply State.incF_keeps) | lift_lets -underBinder | split | (clear_value *; split) | (with_reducible apply Keeps.upd_app)) <;> first | rfl); clear_value x) | skip)
    | (with_reducible first | assumption | exact Keeps.refl _ _ | apply Keeps.ite | apply Keeps.fold | apply State.raise_keeps | apply State.showForces_keeps | apply State.incF_keeps)
    | lift_lets -underBinder
    | split
    | (clear_value *; split)
    | (with_reducible apply Keeps.upd_app)
  all_goals first | rfl

theorem State.forceSymbol_keeps_of {l : List Part} {s0 s t : State} {a1 : Nat} {a2 : Int} {b} (e : State.forceSymbol s a1 a2 = (t, b))
    (hk : within [Part.regs, .log, .app] l = true) (g : Keeps l s0 s) : Keeps l s0 t := by
  have h := State.forceSymbol_keeps a1 a2 hk g
  rw [e] at h; exact h

theorem State.memInject_keeps {l : List Part} {s0 s : State} (a1 : Mast) (a2 : Bool) (a3 a4 a5 : Nat)
    (hk : within [Part.regs, .masts, .log, .mem] l = true) (g : Keeps l s0 s) : Keeps l s0 (State.memInject s a1 a2 a3 a4 a5) := by
  refine Keeps.next (k := [Part.regs, .masts, .log, .mem]) (s := s) ?_ hk g
  delta State.memInject
  lift_lets -underBinder
  intros
  refine Keeps.ite (State.putF_keeps _ _ _ rfl (Keeps.refl _ _)) ?_
  exact State.raise_keeps _ _ _ rfl (State.putF_keeps _ _ _ rfl
    (Keeps.setMem _ _ (fun h => Memory.wf_setErr _ _ _ (h.2 a1)) rfl (Keeps.refl _ _)))

theorem State.monInjectMem_keeps {l : List Part} {s0 s : State} (a1 : List Sys2Proof.Byte) (a2 : List Sys2Proof.Byte) (a3 : List Sys2Proof.Byte) (a4 : List Sys2Proof.Byte) (a5 : List Sys2Proof.Byte)
    (hk : within [Part.regs, .masts, .log, .mem] l = true) (g : Keeps l s0 s) : Keeps l s0 (State.monInjectMem s a1 a2 a3 a4 a5).1 := by
  refine Keeps.next (k := [Part.regs, .masts, .log, .mem]) (s := s) ?_ hk g
  clear hk g s0 l
  delta State.monInjectMem
  try beta_reduce
  try lift_lets -underBinder
  repeat' first
    | (intro x; first | (have hx : Keeps [Part.regs, .masts, .log, .mem] s x := (by unfold x; (repeat' first | intro _ | (with_reducible first | assumption | exact Keeps.refl _ _ | apply Keeps.ite | apply Keeps.fold | apply State.putF_keeps | apply State.memInject_keeps) | lift_lets -underBinder | split | (clear_value *; split)) <;> first | rfl); clear_value x) | skip)
    | (with_reducible first | assumption | exact Keeps.refl _ _ | apply Keeps.ite | apply Keeps.fold | apply State.putF_keeps | apply State.memInject_keeps)
    | lift_lets -underBinder
    | split
    | (clear_value *; split)
  all_goals first | rfl

theorem State.monInjectMem_keeps_of {l : List Part} {s0 s t : State} {a1 : List Sys2Proof.Byte} {a2 : List Sys2Proof.Byte} {a3 : List Sys2Proof.Byte} {a4 : List Sys2Proof.Byte} {a5 : List Sys2Proof.Byte} {b} (e : State.monInjectMem s a1 a2 a3 a4 a5 = (t, b))
    (hk : within [Part.regs, .masts, .log, .mem] l = true) (g : Keeps l s0 s) : Keeps l s0 t := by
  have h := State.monInjectMem_keeps a1 a2 a3 a4 a5 hk g
  rw [e] at h; exact h

theorem State.outcastAlone_keeps {l : List Part} {s0 s : State} (a1 : Sys2Proof.Mast)
    (hk : within [Part.regs, .masts, .lane, .time, .mem] l = true) (g : Keeps l s0 s) : Keeps l s0 (State.outcastAlone s a1) := by
  refine Keeps.next (k := [Part.regs, .masts, .lane, .time, .mem]) (s := s) ?_ hk g
  clear hk g s0 l
  delta State.outcastAlone
  try beta_reduce
  repeat' first
    | intro _
    | (with_reducible first | assumption | exact Keeps.refl _ _ | apply Keeps.ite | apply Keeps.fold | apply State.requestSilent_keeps)
    | split
    | (clear_value *; split)
  all_goals first | rfl

theorem State.queuedWrite_keeps {l : List Part} {s0 s : State} (a1 : Sys2Proof.Mast) (a2 : Sys2Proof.Item)
    (hk : within [Part.regs, .masts, .log, .intake, .bridge] l = true) (g : Keeps l s0 s) : Keeps l s0 (State.queuedWrite s a1 a2) := by
  refine Keeps.next (k := [Part.regs, .masts, .log, .intake, .bridge]) (s := s) ?_ hk g
  clear hk g s0 l
  delta State.queuedWrite
  try beta_reduce
  try lift_lets -underBinder
  repeat' first
    | (intro x; first | (have hx : Keeps [Part.regs, .masts, .log, .intake, .bridge] s x := (by unfold x; (repeat' first | intro _ | (with_reducible first | assumption | exact Keeps.refl _ _ | apply Keeps.ite | apply Keeps.fold | apply State.outAccess_keeps) | lift_lets -underBinder | split | (clear_value *; split)) <;> first | rfl); clear_value x) | skip)
    | (with_reducible first | assumption | exact Keeps.refl _ _ | apply Keeps.ite | apply Keeps.fold | apply State.outAccess_keeps)
    | lift_lets -underBinder
    | split
    | (clear_value *; split)
  all_goals first | rfl

theorem State.holdReset_keeps {l : List Part} {s0 s : State}
    (hk : within [Part.regs, .shown, .writes, .ctl, .masts, .log, .key, .lane, .intake, .time, .pos, .fb, .app, .queue, .bridge, .stay, .net, .sup, .field, .upd, .supply, .panel, .standby, .mon, .mem] l = true) (g : Keeps l s0 s) : Keeps l s0 (State.holdReset s) := by
  refine Keeps.next (k := [Part.regs, .shown, .writes, .ctl, .masts, .log, .key, .lane, .intake, .time, .pos, .fb, .app, .queue, .bridge, .stay, .net, .sup, .field, .upd, .supply, .panel, .standby, .mon, .mem]) (s := s) ?_ hk g
  clear hk g s0 l
  delta State.holdReset
  try beta_reduce
  try lift_lets -underBinder
  repeat' first
    | (intro x; first | (have hx : Keeps [Part.regs, .shown, .writes, .ctl, .masts, .log, .key, .lane, .intake, .time, .pos, .fb, .app, .queue, .bridge, .stay, .net, .sup, .field, .upd, .supply, .panel, .standby, .mon, .mem] s x := (by unfold x; (repeat' first | intro _ | (with_reducible first | assumption | exact Keeps.refl _ _ | apply Keeps.ite | apply Keeps.fold | apply State.upAbort_keeps | apply State.putF_keeps | apply State.bare_keeps) | lift_lets -underBinder | split | (clear_value *; split) | (with_reducible apply Keeps.upd_ctl_panel)) <;> first | rfl); clear_value x) | skip)
    | (with_reducible first | assumption | exact Keeps.refl _ _ | apply Keeps.ite | apply Keeps.fold | apply State.upAbort_keeps | apply State.putF_keeps | apply State.bare_keeps)
    | lift_lets -underBinder
    | split
    | (clear_value *; split)
    | (with_reducible apply Keeps.upd_ctl_panel)
  all_goals first | rfl

theorem State.finalEnds_keeps {l : List Part} {s0 s : State} (a1 : Join) (a2 : Sys2Proof.Mast) (a3 : Nat)
    (hk : within [Part.regs, .writes, .ctl, .masts, .log, .key, .lane, .intake, .fb, .app, .queue, .bridge, .stay, .net, .sup, .field, .upd, .mon, .mem] l = true) (g : Keeps l s0 s) : Keeps l s0 (State.finalEnds s a1 a2 a3) := by
  refine Keeps.next (k := [Part.regs, .writes, .ctl, .masts, .log, .key, .lane, .intake, .fb, .app, .queue, .bridge, .stay, .net, .sup, .field, .upd, .mon, .mem]) (s := s) ?_ hk g
  clear hk g s0 l
  delta State.finalEnds
  try beta_reduce
  try lift_lets -underBinder
  repeat' first
    | (intro x; first | (have hx : Keeps [Part.regs, .writes, .ctl, .masts, .log, .key, .lane, .intake, .fb, .app, .queue, .bridge, .stay, .net, .sup, .field, .upd, .mon, .mem] s x := (by unfold x; (repeat' first | intro _ | (with_reducible first | assumption | exact Keeps.refl _ _ | apply Keeps.ite | apply Keeps.fold | apply State.setJoin_keeps | apply State.disagree_keeps | apply State.joinFail_keeps) | lift_lets -underBinder | split | (clear_value *; split)) <;> first | rfl); clear_value x) | skip)
    | (with_reducible first | assumption | exact Keeps.refl _ _ | apply Keeps.ite | apply Keeps.fold | apply State.setJoin_keeps | apply State.disagree_keeps | apply State.joinFail_keeps)
    | lift_lets -underBinder
    | split
    | (clear_value *; split)
  all_goals first | rfl

theorem State.scAccept_keeps {l : List Part} {s0 s : State} (a1 : Nat) (a2 : SafeConn) (a3 : List Sys2Proof.Byte)
    (hk : within [Part.log, .net] l = true) (g : Keeps l s0 s) : Keeps l s0 (State.scAccept s a1 a2 a3) := by
  refine Keeps.next (k := [Part.log, .net]) (s := s) ?_ hk g
  clear hk g s0 l
  delta State.scAccept
  try beta_reduce
  try lift_lets -underBinder
  repeat' first
    | (intro x; first | (have hx : Keeps [Part.log, .net] s x := (by unfold x; (repeat' first | intro _ | (with_reducible first | assumption | exact Keeps.refl _ _ | apply Keeps.ite | apply Keeps.fold | apply State.raise_keeps | apply State.setSc_keeps) | lift_lets -underBinder | split | (clear_value *; split)) <;> first | rfl); clear_value x) | skip)
    | (with_reducible first | assumption | exact Keeps.refl _ _ | apply Keeps.ite | apply Keeps.fold | apply State.raise_keeps | apply State.setSc_keeps)
    | lift_lets -underBinder
    | split
    | (clear_value *; split)
  all_goals first | rfl

theorem State.scReceive_keeps {l : List Part} {s0 s : State} (a1 : List Sys2Proof.Byte) (a2 : Nat)
    (hk : within [Part.regs, .log, .net] l = true) (g : Keeps l s0 s) : Keeps l s0 (State.scReceive s a1 a2) := by
  refine Keeps.next (k := [Part.regs, .log, .net]) (s := s) ?_ hk g
  clear hk g s0 l
  delta State.scReceive
  try beta_reduce
  try lift_lets -underBinder
  repeat' first
    | (intro x; first | (have hx : Keeps [Part.regs, .log, .net] s x := (by unfold x; (repeat' first | intro _ | (with_reducible first | assumption | exact Keeps.refl _ _ | apply Keeps.ite | apply Keeps.fold | apply State.scReject_keeps | apply State.setSc_keeps | apply State.scAccept_keeps) | lift_lets -underBinder | split | (clear_value *; split)) <;> first | rfl); clear_value x) | skip)
    | (with_reducible first | assumption | exact Keeps.refl _ _ | apply Keeps.ite | apply Keeps.fold | apply State.scReject_keeps | apply State.setSc_keeps | apply State.scAccept_keeps)
    | lift_lets -underBinder
    | split
    | (clear_value *; split)
  all_goals first | rfl

theorem State.monLogout_keeps {l : List Part} {s0 s : State}
    (hk : within [Part.regs, .writes, .ctl, .masts, .log, .key, .lane, .intake, .fb, .app, .queue, .bridge, .stay, .net, .sup, .field, .upd, .mon, .mem] l = true) (g : Keeps l s0 s) : Keeps l s0 (State.monLogout s) := by
  refine Keeps.next (k := [Part.regs, .writes, .ctl, .masts, .log, .key, .lane, .intake, .fb, .app, .queue, .bridge, .stay, .net, .sup, .field, .upd, .mon, .mem]) (s := s) ?_ hk g
  clear hk g s0 l
  delta State.monLogout
  try beta_reduce
  try lift_lets -underBinder
  repeat' first
    | (intro x; first | (have hx : Keeps [Part.regs, .writes, .ctl, .masts, .log, .key, .lane, .intake, .fb, .app, .queue, .bridge, .stay, .net, .sup, .field, .upd, .mon, .mem] s x := (by unfold x; (repeat' first | intro _ | (with_reducible first | assumption | exact Keeps.refl _ _ | apply Keeps.ite | apply Keeps.fold | apply State.endSession_keeps | apply State.enterStop_keeps) | lift_lets -underBinder | split | (clear_value *; split)) <;> first | rfl); clear_value x) | skip)
    | (with_reducible first | assumption | exact Keeps.refl _ _ | apply Keeps.ite | apply Keeps.fold | apply State.endSession_keeps | apply State.enterStop_keeps)
    | lift_lets -underBinder
    | split
    | (clear_value *; split)
  all_goals first | rfl

theorem State.prpDiscard_keeps {l : List Part} {s0 s : State} (a1 : Nat) (a2 : List Sys2Proof.Byte)
    (hk : within [Part.regs, .log, .net] l = true) (g : Keeps l s0 s) : Keeps l s0 (State.prpDiscard s a1 a2).2 := by
  refine Keeps.next (k := [Part.regs, .log, .net]) (s := s) ?_ hk g
  clear hk g s0 l
  delta State.prpDiscard
  try beta_reduce
  try lift_lets -underBinder
  repeat' first
    | (intro x; first | (have hx : Keeps [Part.regs, .log, .net] s x := (by unfold x; (repeat' first | intro _ | (with_reducible first | assumption | exact Keeps.refl _ _ | apply Keeps.ite | apply Keeps.fold | apply State.raiseLimited_keeps | apply State.incF_keeps) | lift_lets -underBinder | split | (clear_value *; split) | (with_reducible apply Keeps.upd_net)) <;> first | rfl); clear_value x) | skip)
    | (with_reducible first | assumption | exact Keeps.refl _ _ | apply Keeps.ite | apply Keeps.fold | apply State.raiseLimited_keeps | apply State.incF_keeps)
    | lift_lets -underBinder
    | split
    | (clear_value *; split)
    | (with_reducible apply Keeps.upd_net)
  all_goals first | rfl

theorem State.prpDiscard_keeps_of {l : List Part} {s0 s t : State} {a1 : Nat} {a2 : List Sys2Proof.Byte} {b} (e : State.prpDiscard s a1 a2 = (b, t))
    (hk : within [Part.regs, .log, .net] l = true) (g : Keeps l s0 s) : Keeps l s0 t := by
  have h := State.prpDiscard_keeps a1 a2 hk g
  rw [e] at h; exact h

theorem State.askInject_keeps {l : List Part} {s0 s : State} (a1 : Sys2Proof.Per Bool) (a2 : Sys2Proof.Mast) (a3 : Sys2Proof.Triad) (a4 : Nat) (a5 : Nat)
    (hk : within [Part.regs, .masts, .log, .lane, .time, .free, .mem] l = true) (g : Keeps l s0 s) : Keeps l s0 (State.askInject s a1 a2 a3 a4 a5) := by
  refine Keeps.next (k := [Part.regs, .masts, .log, .lane, .time, .free, .mem]) (s := s) ?_ hk g
  clear hk g s0 l
  delta State.askInject
  try beta_reduce
  repeat' first
    | intro _
    | (with_reducible first | assumption | exact Keeps.refl _ _ | apply Keeps.ite | apply Keeps.fold | apply State.putF_keeps | apply State.triadInject_keeps)
    | split
    | (clear_value *; split)
  all_goals first | rfl

theorem State.announced_keeps {l : List Part} {s0 s : State} (a1 : Nat) (a2 : Nat) (a3 : Sys2Proof.Announce)
    (hk : within [Part.regs, .log, .time] l = true) (g : Keeps l s0 s) : Keeps l s0 (State.announced s a1 a2 a3) := by
  refine Keeps.next (k := [Part.regs, .log, .time]) (s := s) ?_ hk g
  clear hk g s0 l
  delta State.announced
  try beta_reduce
  try lift_lets -underBinder
  repeat' first
    | (intro x; first | (have hx : Keeps [Part.regs, .log, .time] s x := (by unfold x; (repeat' first | intro _ | (with_reducible first | assumption | exact Keeps.refl _ _ | apply Keeps.ite | apply Keeps.fold | apply State.followMaster_keeps) | lift_lets -underBinder | split | (clear_value *; split) | (with_reducible apply Keeps.upd_time)) <;> first | rfl); clear_value x) | skip)
    | (with_reducible first | assumption | exact Keeps.refl _ _ | apply Keeps.ite | apply Keeps.fold | apply State.followMaster_keeps)
    | lift_lets -underBinder
    | split
    | (clear_value *; split)
    | (with_reducible apply Keeps.upd_time)
  all_goals first | rfl

theorem State.dropFrame_keeps {l : List Part} {s0 s : State} (a1 : Nat) (a2 : UnitFrame) (a3 : Option Nat) (a4 : Bool)
    (hk : within [Part.lane] l = true) (g : Keeps l s0 s) : Keeps l s0 (State.dropFrame s a1 a2 a3 a4) := by
  refine Keeps.next (k := [Part.lane]) (s := s) ?_ hk g
  clear hk g s0 l
  delta State.dropFrame
  try beta_reduce
  try lift_lets -underBinder
  repeat' first
    | (intro x; first | (have hx : Keeps [Part.lane] s x := (by unfold x; (repeat' first | intro _ | (with_reducible first | assumption | exact Keeps.refl _ _ | apply Keeps.ite | apply Keeps.fold | apply State.setUnit_keeps) | lift_lets -underBinder | split | (clear_value *; split)) <;> first | rfl); clear_value x) | skip)
    | (with_reducible first | assumption | exact Keeps.refl _ _ | apply Keeps.ite | apply Keeps.fold | apply State.setUnit_keeps)
    | lift_lets -underBinder
    | split
    | (clear_value *; split)
  all_goals first | rfl

theorem State.monRun_keeps {l : List Part} {s0 s : State} (c : MonCmd) (acc : MonAccess) (modes : List Mode)
    (run : State → List (List Byte) → MonOutcome) (hr : ∀ s x, Keeps l s0 s → Keeps l s0 (run s x).1)
    (hk : within [Part.log, .mon] l = true) (g : Keeps l s0 s) : Keeps l s0 (State.monRun s c acc modes run) := by
  have hm : within [Part.mon] l = true := by
    revert hk; simp [within]
  unfold State.monRun
  split
  · exact g
  · rename_i t b e
    have h := State.monTake_keeps e hm g
    dsimp only
    split
    · exact State.monDone_keeps _ _ _ _ hk h
    · exact State.monDone_keeps _ _ _ _ hk (hr _ _ h)

theorem State.releaseItem_keeps {l : List Part} {s0 s : State} (a1 : Sys2Proof.Item)
    (hk : within [Part.regs, .masts, .log, .lane, .time, .pos, .bridge, .sup, .field, .mem] l = true) (g : Keeps l s0 s) : Keeps l s0 (State.releaseItem s a1) := by
  refine Keeps.next (k := [Part.regs, .masts, .log, .lane, .time, .pos, .bridge, .sup, .field, .mem]) (s := s) ?_ hk g
  clear hk g s0 l
  delta State.releaseItem
  try beta_reduce
  try lift_lets -underBinder
  repeat' first
    | (intro x; first | (have hx : Keeps [Part.regs, .masts, .log, .lane, .time, .pos, .bridge, .sup, .field, .mem] s x := (by unfold x; (repeat' first | intro _ | (with_reducible first | assumption | exact Keeps.refl _ _ | apply Keeps.ite | apply Keeps.fold | apply State.posRelease_keeps | apply State.bridgeRelease_keeps | apply State.fieldRelease_keeps) | lift_lets -underBinder | split | (clear_value *; split)) <;> first | rfl); clear_value x) | skip)
    | (with_reducible first | assumption | exact Keeps.refl _ _ | apply Keeps.ite | apply Keeps.fold | apply State.posRelease_keeps | apply State.bridgeRelease_keeps | apply State.fieldRelease_keeps)
    | lift_lets -underBinder
    | split
    | (clear_value *; split)
  all_goals first | rfl

theorem State.sendFrame_keeps {l : List Part} {s0 s : State} (a1 : Nat) (a2 : UnitFrame) (a3 : Nat)
    (hk : within [Part.regs, .lane, .time, .panel] l = true) (g : Keeps l s0 s) : Keeps l s0 (State.sendFrame s a1 a2 a3) := by
  refine Keeps.next (k := [Part.regs, .lane, .time, .panel]) (s := s) ?_ hk g
  clear hk g s0 l
  delta State.sendFrame
  try beta_reduce
  try lift_lets -underBinder
  repeat' first
    | (intro x; first | (have hx : Keeps [Part.regs, .lane, .time, .panel] s x := (by unfold x; (repeat' first | intro _ | (with_reducible first | assumption | exact Keeps.refl _ _ | apply Keeps.ite | apply Keeps.fold | apply State.dropFrame_keeps | apply State.setUnit_keeps | apply State.darken_keeps | apply State.wrapF_keeps | apply State.captureStamp_keeps) | lift_lets -underBinder | split | (clear_value *; split)) <;> first | rfl); clear_value x) | skip)
    | (with_reducible first | assumption | exact Keeps.refl _ _ | apply Keeps.ite | apply Keeps.fold | apply State.dropFrame_keeps | apply State.setUnit_keeps | apply State.darken_keeps | apply State.wrapF_keeps | apply State.captureStamp_keeps)
    | lift_lets -underBinder
    | split
    | (clear_value *; split)
  all_goals first | rfl

theorem State.judgeDecisions_keeps {l : List Part} {s0 s : State} (a1 : Sys2Proof.Mast)
    (hk : within [Part.regs, .writes, .ctl, .masts, .log, .key, .lane, .intake, .time, .fb, .app, .queue, .bridge, .stay, .net, .sup, .field, .upd, .mon, .mem] l = true) (g : Keeps l s0 s) : Keeps l s0 (State.judgeDecisions s a1) := by
  refine Keeps.next (k := [Part.regs, .writes, .ctl, .masts, .log, .key, .lane, .intake, .time, .fb, .app, .queue, .bridge, .stay, .net, .sup, .field, .upd, .mon, .mem]) (s := s) ?_ hk g
  clear hk g s0 l
  delta State.judgeDecisions
  try beta_reduce
  try lift_lets -underBinder
  repeat' first
    | (intro x; first | (have hx : Keeps [Part.regs, .writes, .ctl, .masts, .log, .key, .lane, .intake, .time, .fb, .app, .queue, .bridge, .stay, .net, .sup, .field, .upd, .mon, .mem] s x := (by unfold x; (repeat' first | intro _ | (with_reducible first | assumption | exact Keeps.refl _ _ | apply Keeps.ite | apply Keeps.fold | apply State.applyLoss_keeps | apply State.disagree_keeps) | lift_lets -underBinder | split | (clear_value *; split)) <;> first | rfl); clear_value x) | skip)
    | (with_reducible first | assumption | exact Keeps.refl _ _ | apply Keeps.ite | apply Keeps.fold | apply State.applyLoss_keeps | apply State.disagree_keeps)
    | lift_lets -underBinder
    | split
    | (clear_value *; split)
  all_goals first | rfl

theorem State.ageTelegrams_keeps {l : List Part} {s0 s : State}
    (hk : within [Part.net] l = true) (g : Keeps l s0 s) : Keeps l s0 (State.ageTelegrams s) := by
  refine Keeps.next (k := [Part.net]) (s := s) ?_ hk g
  clear hk g s0 l
  delta State.ageTelegrams
  try beta_reduce
  try lift_lets -underBinder
  repeat' first
    | (intro x; first | (have hx : Keeps [Part.net] s x := (by unfold x; (repeat' first | intro _ | (with_reducible first | assumption | exact Keeps.refl _ _ | apply Keeps.ite | apply Keeps.fold) | lift_lets -underBinder | split | (clear_value *; split) | (with_reducible apply Keeps.upd_net)) <;> first | rfl); clear_value x) | skip)
    | (with_reducible first | assumption | exact Keeps.refl _ _ | apply Keeps.ite | apply Keeps.fold)
    | lift_lets -underBinder
    | split
    | (clear_value *; split)
    | (with_reducible apply Keeps.upd_net)
  all_goals first | rfl

theorem State.tellOver_keeps {l : List Part} {s0 s : State} (a1 : Nat)
    (hk : within [Part.log, .supply] l = true) (g : Keeps l s0 s) : Keeps l s0 (State.tellOver s a1) := by
  refine Keeps.next (k := [Part.log, .supply]) (s := s) ?_ hk g
  clear hk g s0 l
  delta State.tellOver
  try beta_reduce
  try lift_lets -underBinder
  repeat' first
    | (intro x; first | (have hx : Keeps [Part.log, .supply] s x := (by unfold x; (repeat' first | intro _ | (with_reducible first | assumption | exact Keeps.refl _ _ | apply Keeps.ite | apply Keeps.fold | apply State.raise_keeps) | lift_lets -underBinder | split | (clear_value *; split) | (with_reducible apply Keeps.upd_supply)) <;> first | rfl); clear_value x) | skip)
    | (with_reducible first | assumption | exact Keeps.refl _ _ | apply Keeps.ite | apply Keeps.fold | apply State.raise_keeps)
    | lift_lets -underBinder
    | split
    | (clear_value *; split)
    | (with_reducible apply Keeps.upd_supply)
  all_goals first | rfl

theorem State.dmaMove_keeps {l : List Part} {s0 s : State} (a1 : Sys2Proof.Mast) (a2 : List Sys2Proof.Byte) (a3 : Nat) (a4 : List Sys2Proof.Byte)
    (hk : within [Part.masts, .lane, .mem] l = true) (g : Keeps l s0 s) : Keeps l s0 (State.dmaMove s a1 a2 a3 a4) := by
  refine Keeps.next (k := [Part.masts, .lane, .mem]) (s := s) ?_ hk g
  clear hk g s0 l
  delta State.dmaMove
  try beta_reduce
  repeat' first
    | intro _
    | (with_reducible first | assumption | exact Keeps.refl _ _ | apply Keeps.ite | apply Keeps.fold | apply State.scatter_keeps)
    | split
    | (clear_value *; split)
  all_goals first | rfl

theorem State.fbItem_keeps {l : List Part} {s0 s : State} (a1 : Nat) (a2 : Nat) (a3 : FbSlot) (a4 : Nat) (a5 : Int) (a6 : List Sys2Proof.Byte)
    (hk : within [Part.intake] l = true) (g : Keeps l s0 s) : Keeps l s0 (State.fbItem s a1 a2 a3 a4 a5 a6) := by
  refine Keeps.next (k := [Part.intake]) (s := s) ?_ hk g
  clear hk g s0 l
  delta State.fbItem
  try beta_reduce
  try lift_lets -underBinder
  repeat' first
    | (intro x; first | (have hx : Keeps [Part.intake] s x := (by unfold x; (repeat' first | intro _ | (with_reducible first | assumption | exact Keeps.refl _ _ | apply Keeps.ite | apply Keeps.fold) | lift_lets -underBinder | split | (clear_value *; split) | (with_reducible apply Keeps.upd_intake)) <;> first | rfl); clear_value x) | skip)
    | (with_reducible first | assumption | exact Keeps.refl _ _ | apply Keeps.ite | apply Keeps.fold)
    | lift_lets -underBinder
    | split
    | (clear_value *; split)
    | (with_reducible apply Keeps.upd_intake)
  all_goals first | rfl

theorem State.fbHear_keeps {l : List Part} {s0 s : State} (a1 : Nat) (a2 : Nat) (a3 : Nat) (a4 : Int) (a5 : FbSchedule) (a6 : List Sys2Proof.Byte) (a7 : Bool)
    (hk : within [Part.regs, .log, .intake, .fb] l = true) (g : Keeps l s0 s) : Keeps l s0 (State.fbHear s a1 a2 a3 a4 a5 a6 a7) := by
  refine Keeps.next (k := [Part.regs, .log, .intake, .fb]) (s := s) ?_ hk g
  clear hk g s0 l
  delta State.fbHear
  try beta_reduce
  try lift_lets -underBinder
  repeat' first
    | (intro x; first | (have hx : Keeps [Part.regs, .log, .intake, .fb] s x := (by unfold x; (repeat' first | intro _ | (with_reducible first | assumption | exact Keeps.refl _ _ | apply Keeps.ite | apply Keeps.fold | apply State.fbSecondMaster_keeps | apply State.setBus_keeps | apply State.incF_keeps | apply State.fbItem_keeps) | lift_lets -underBinder | split | (clear_value *; split)) <;> first | rfl); clear_value x) | skip)
    | (with_reducible first | assumption | exact Keeps.refl _ _ | apply Keeps.ite | apply Keeps.fold | apply State.fbSecondMaster_keeps | apply State.setBus_keeps | apply State.incF_keeps | apply State.fbItem_keeps)
    | lift_lets -underBinder
    | split
    | (clear_value *; split)
  all_goals first | rfl

theorem State.outFinish_keeps {l : List Part} {s0 s : State} (a1 : OutTx) (a2 : Nat) (a3 : Nat)
    (hk : within [Part.regs, .masts, .log, .intake, .bridge] l = true) (g : Keeps l s0 s) : Keeps l s0 (State.outFinish s a1 a2 a3) := by
  refine Keeps.next (k := [Part.regs, .masts, .log, .intake, .bridge]) (s := s) ?_ hk g
  clear hk g s0 l
  delta State.outFinish
  try beta_reduce
  try lift_lets -underBinder
  repeat' first
    | (intro x; first | (have hx : Keeps [Part.regs, .masts, .log, .intake, .bridge] s x := (by unfold x; (repeat' first | intro _ | (with_reducible first | assumption | exact Keeps.refl _ _ | apply Keeps.ite | apply Keeps.fold | apply State.raiseLimited_keeps | apply State.countOutErr_keeps | apply State.formItem_keeps | apply State.bridgeKick_keeps | apply State.postedComplete_keeps) | lift_lets -underBinder | split | (clear_value *; split) | (with_reducible apply Keeps.upd_bridge)) <;> first | rfl); clear_value x) | skip)
    | (with_reducible first | assumption | exact Keeps.refl _ _ | apply Keeps.ite | apply Keeps.fold | apply State.raiseLimited_keeps | apply State.countOutErr_keeps | apply State.formItem_keeps | apply State.bridgeKick_keeps | apply State.postedComplete_keeps)
    | lift_lets -underBinder
    | split
    | (clear_value *; split)
    | (with_reducible apply Keeps.upd_bridge)
  all_goals first | rfl

theorem State.raiseSummary_keeps {l : List Part} {s0 s : State} (a1 : SummaryPeriod)
    (hk : within [Part.log] l = true) (g : Keeps l s0 s) : Keeps l s0 (State.raiseSummary s a1) := by
  refine Keeps.next (k := [Part.log]) (s := s) ?_ hk g
  clear hk g s0 l
  delta State.raiseSummary
  try beta_reduce
  try lift_lets -underBinder
  repeat' first
    | (intro x; first | (have hx : Keeps [Part.log] s x := (by unfold x; (repeat' first | intro _ | (with_reducible first | assumption | exact Keeps.refl _ _ | apply Keeps.ite | apply Keeps.fold | apply State.raiseBy_keeps) | lift_lets -underBinder | split | (clear_value *; split)) <;> first | rfl); clear_value x) | skip)
    | (with_reducible first | assumption | exact Keeps.refl _ _ | apply Keeps.ite | apply Keeps.fold | apply State.raiseBy_keeps)
    | lift_lets -underBinder
    | split
    | (clear_value *; split)
  all_goals first | rfl

theorem State.scSend_keeps {l : List Part} {s0 s : State} (a1 : Mast) (a2 : List Item)
    (hk : within [Part.net] l = true) (g : Keeps l s0 s) : Keeps l s0 (State.scSend s a1 a2).2 := by
  induction a2 generalizing s with
  | nil => exact g
  | cons i rest ih =>
    rw [State.scSend]
    split
    · exact ih g
    · exact ih (State.setSc_keeps _ _ hk g)

theorem State.scSend_keeps_of {l : List Part} {s0 s t : State} {a1 : Mast} {a2 : List Item} {b} (e : State.scSend s a1 a2 = (b, t))
    (hk : within [Part.net] l = true) (g : Keeps l s0 s) : Keeps l s0 t := by
  have h := State.scSend_keeps a1 a2 hk g
  rw [e] at h; exact h

theorem State.endBreak_keeps {l : List Part} {s0 s : State}
    (hk : within [Part.regs, .panel] l = true) (g : Keeps l s0 s) : Keeps l s0 (State.endBreak s) := by
  refine Keeps.next (k := [Part.regs, .panel]) (s := s) ?_ hk g
  clear hk g s0 l
  delta State.endBreak
  try beta_reduce
  try lift_lets -underBinder
  repeat' first
    | (intro x; first | (have hx : Keeps [Part.regs, .panel] s x := (by unfold x; (repeat' first | intro _ | (with_reducible first | assumption | exact Keeps.refl _ _ | apply Keeps.ite | apply Keeps.fold | apply State.putF_keeps) | lift_lets -underBinder | split | (clear_value *; split) | (with_reducible apply Keeps.upd_panel)) <;> first | rfl); clear_value x) | skip)
    | (with_reducible first | assumption | exact Keeps.refl _ _ | apply Keeps.ite | apply Keeps.fold | apply State.putF_keeps)
    | lift_lets -underBinder
    | split
    | (clear_value *; split)
    | (with_reducible apply Keeps.upd_panel)
  all_goals first | rfl

theorem State.lateFrame_keeps {l : List Part} {s0 s : State} (a1 : Nat) (a2 : UnitFrame) (a3 : Nat)
    (hk : within [Part.regs, .log, .lane] l = true) (g : Keeps l s0 s) : Keeps l s0 (State.lateFrame s a1 a2 a3) := by
  refine Keeps.next (k := [Part.regs, .log, .lane]) (s := s) ?_ hk g
  clear hk g s0 l
  delta State.lateFrame
  try beta_reduce
  try lift_lets -underBinder
  repeat' first
    | (intro x; first | (have hx : Keeps [Part.regs, .log, .lane] s x := (by unfold x; (repeat' first | intro _ | (with_reducible first | assumption | exact Keeps.refl _ _ | apply Keeps.ite | apply Keeps.fold | apply State.dropFrame_keeps | apply State.incF_keeps | apply State.raiseLimited_keeps) | lift_lets -underBinder | split | (clear_value *; split)) <;> first | rfl); clear_value x) | skip)
    | (with_reducible first | assumption | exact Keeps.refl _ _ | apply Keeps.ite | apply Keeps.fold | apply State.dropFrame_keeps | apply State.incF_keeps | apply State.raiseLimited_keeps)
    | lift_lets -underBinder
    | split
    | (clear_value *; split)
  all_goals first | rfl

theorem State.placeTelegrams_keeps {l : List Part} {s0 s : State} (a1 : List Sys2Proof.Item)
    (hk : within [Part.regs, .log, .net] l = true) (g : Keeps l s0 s) : Keeps l s0 (State.placeTelegrams s a1) := by
  refine Keeps.next (k := [Part.regs, .log, .net]) (s := s) ?_ hk g
  clear hk g s0 l
  delta State.placeTelegrams
  try beta_reduce
  repeat' first
    | intro _
    | (with_reducible first | assumption | exact Keeps.refl _ _ | apply Keeps.ite | apply Keeps.fold | apply State.pdPlace_keeps)
    | split
    | (clear_value *; split)
  all_goals first | rfl

theorem State.slotRecords_keeps {l : List Part} {s0 s : State} (a1 : Nat) (a2 : List Sys2Proof.Mast) (a3 : Nat)
    (hk : within [Part.regs, .masts, .log, .lane, .queue, .mem] l = true) (g : Keeps l s0 s) : Keeps l s0 (State.slotRecords s a1 a2 a3) := by
  refine Keeps.next (k := [Part.regs, .masts, .log, .lane, .queue, .mem]) (s := s) ?_ hk g
  clear hk g s0 l
  delta State.slotRecords
  try beta_reduce
  try lift_lets -underBinder
  repeat' first
    | (intro x; first | (have hx : Keeps [Part.regs, .masts, .log, .lane, .queue, .mem] s x := (by unfold x; (repeat' first | intro _ | (with_reducible first | assumption | exact Keeps.refl _ _ | apply Keeps.ite | apply Keeps.fold | apply State.ringItem_keeps) | lift_lets -underBinder | split | (clear_value *; split)) <;> first | rfl); clear_value x) | skip)
    | (with_reducible first | assumption | exact Keeps.refl _ _ | apply Keeps.ite | apply Keeps.fold | apply State.ringItem_keeps)
    | lift_lets -underBinder
    | split
    | (clear_value *; split)
  all_goals first | rfl

theorem State.judgeStation_keeps {l : List Part} {s0 s : State} (a1 : Station)
    (hk : within [Part.regs, .log, .app] l = true) (g : Keeps l s0 s) : Keeps l s0 (State.judgeStation s a1) := by
  refine Keeps.next (k := [Part.regs, .log, .app]) (s := s) ?_ hk g
  clear hk g s0 l
  delta State.judgeStation
  try beta_reduce
  try lift_lets -underBinder
  repeat' first
    | (intro x; first | (have hx : Keeps [Part.regs, .log, .app] s x := (by unfold x; (repeat' first | intro _ | (with_reducible first | assumption | exact Keeps.refl _ _ | apply Keeps.ite | apply Keeps.fold | apply State.raiseLimited_keeps | apply State.incF_keeps) | lift_lets -underBinder | split | (clear_value *; split) | (with_reducible apply Keeps.upd_app)) <;> first | rfl); clear_value x) | skip)
    | (with_reducible first | assumption | exact Keeps.refl _ _ | apply Keeps.ite | apply Keeps.fold | apply State.raiseLimited_keeps | apply State.incF_keeps)
    | lift_lets -underBinder
    | split
    | (clear_value *; split)
    | (with_reducible apply Keeps.upd_app)
  all_goals first | rfl

theorem State.judgeStations_keeps {l : List Part} {s0 s : State}
    (hk : within [Part.regs, .log, .app] l = true) (g : Keeps l s0 s) : Keeps l s0 (State.judgeStations s) := by
  refine Keeps.next (k := [Part.regs, .log, .app]) (s := s) ?_ hk g
  clear hk g s0 l
  delta State.judgeStations
  try beta_reduce
  try lift_lets -underBinder
  repeat' first
    | (intro x; first | (have hx : Keeps [Part.regs, .log, .app] s x := (by unfold x; (repeat' first | intro _ | (with_reducible first | assumption | exact Keeps.refl _ _ | apply Keeps.ite | apply Keeps.fold | apply State.judgeStation_keeps | apply State.putF_keeps) | lift_lets -underBinder | split | (clear_value *; split)) <;> first | rfl); clear_value x) | skip)
    | (with_reducible first | assumption | exact Keeps.refl _ _ | apply Keeps.ite | apply Keeps.fold | apply State.judgeStation_keeps | apply State.putF_keeps)
    | lift_lets -underBinder
    | split
    | (clear_value *; split)
  all_goals first | rfl

theorem State.releaseStamps_keeps {l : List Part} {s0 s : State}
    (hk : within [Part.regs, .log, .time] l = true) (g : Keeps l s0 s) : Keeps l s0 (State.releaseStamps s) := by
  refine Keeps.next (k := [Part.regs, .log, .time]) (s := s) ?_ hk g
  clear hk g s0 l
  delta State.releaseStamps
  try beta_reduce
  try lift_lets -underBinder
  repeat' first
    | (intro x; first | (have hx : Keeps [Part.regs, .log, .time] s x := (by unfold x; (repeat' first | intro _ | (with_reducible first | assumption | exact Keeps.refl _ _ | apply Keeps.ite | apply Keeps.fold | apply State.pushStamp_keeps) | lift_lets -underBinder | split | (clear_value *; split) | (with_reducible apply Keeps.upd_time)) <;> first | rfl); clear_value x) | skip)
    | (with_reducible first | assumption | exact Keeps.refl _ _ | apply Keeps.ite | apply Keeps.fold | apply State.pushStamp_keeps)
    | lift_lets -underBinder
    | split
    | (clear_value *; split)
    | (with_reducible apply Keeps.upd_time)
  all_goals first | rfl

theorem State.completeRelease_keeps {l : List Part} {s0 s : State} (a1 : Nat) (a2 : Nat)
    (hk : within [Part.regs, .masts, .log, .lane, .intake, .time, .pos, .fb, .app, .queue, .bridge, .net, .sup, .field, .mem] l = true) (g : Keeps l s0 s) : Keeps l s0 (State.completeRelease s a1 a2) := by
  refine Keeps.next (k := [Part.regs, .masts, .log, .lane, .intake, .time, .pos, .fb, .app, .queue, .bridge, .net, .sup, .field, .mem]) (s := s) ?_ hk g
  clear hk g s0 l
  delta State.completeRelease
  try beta_reduce
  try lift_lets -underBinder
  repeat' first
    | (intro x; first | (have hx : Keeps [Part.regs, .masts, .log, .lane, .intake, .time, .pos, .fb, .app, .queue, .bridge, .net, .sup, .field, .mem] s x := (by unfold x; (repeat' first | intro _ | (with_reducible first | assumption | exact Keeps.refl _ _ | apply Keeps.ite | apply Keeps.fold | apply State.gapCheck_keeps | apply State.placeTelegrams_keeps | apply State.ageTelegrams_keeps | apply State.fbRelease_keeps | apply State.slotRecords_keeps | apply State.releaseRing_keeps | apply State.judgeStations_keeps | apply State.releaseStamps_keeps | apply State.releaseItem_keeps | apply State.portInterrupts_keeps | apply State.putF_keeps | apply State.interrupt_keeps | apply State.wrapF_keeps) | lift_lets -underBinder | split | (clear_value *; split) | (with_reducible apply Keeps.upd_intake_app)) <;> first | rfl); clear_value x) | skip)
    | (with_reducible first | assumption | exact Keeps.refl _ _ | apply Keeps.ite | apply Keeps.fold | apply State.gapCheck_keeps | apply State.placeTelegrams_keeps | apply State.ageTelegrams_keeps | apply State.fbRelease_keeps | apply State.slotRecords_keeps | apply State.releaseRing_keeps | apply State.judgeStations_keeps | apply State.releaseStamps_keeps | apply State.releaseItem_keeps | apply State.portInterrupts_keeps | apply State.putF_keeps | apply State.interrupt_keeps | apply State.wrapF_keeps)
    | lift_lets -underBinder
    | split
    | (clear_value *; split)
    | (with_reducible apply Keeps.upd_intake_app)
  all_goals first | rfl

theorem State.judgeBeats_keeps {l : List Part} {s0 s : State}
    (hk : within [Part.regs, .writes, .ctl, .masts, .log, .key, .lane, .intake, .time, .fb, .app, .queue, .bridge, .stay, .net, .sup, .field, .upd, .mon, .mem] l = true) (g : Keeps l s0 s) : Keeps l s0 (State.judgeBeats s) := by
  refine Keeps.next (k := [Part.regs, .writes, .ctl, .masts, .log, .key, .lane, .intake, .time, .fb, .app, .queue, .bridge, .stay, .net, .sup, .field, .upd, .mon, .mem]) (s := s) ?_ hk g
  clear hk g s0 l
  delta State.judgeBeats
  try beta_reduce
  repeat' first
    | intro _
    | (with_reducible first | assumption | exact Keeps.refl _ _ | apply Keeps.ite | apply Keeps.fold | apply State.applyLoss_keeps | apply State.raise_keeps | apply State.alone_keeps | apply State.applyLosses_keeps | apply State.enterSafe_keeps | apply State.noteLoss_keeps | apply State.joinFail_keeps)
    | split
    | (clear_value *; split)
  all_goals first | rfl

theorem State.commandWrite_keeps {l : List Part} {s0 s : State} (a1 : Sys2Proof.Mast) (a2 : Nat) (a3 : Sys2Proof.Word)
    (hk : within [Part.regs, .writes] l = true) (g : Keeps l s0 s) : Keeps l s0 (State.commandWrite s a1 a2 a3) := by
  refine Keeps.next (k := [Part.regs, .writes]) (s := s) ?_ hk g
  clear hk g s0 l
  delta State.commandWrite
  try beta_reduce
  try lift_lets -underBinder
  repeat' first
    | (intro x; first | (have hx : Keeps [Part.regs, .writes] s x := (by unfold x; (repeat' first | intro _ | (with_reducible first | assumption | exact Keeps.refl _ _ | apply Keeps.ite | apply Keeps.fold | apply State.putF_keeps | apply State.upDone_keeps | apply State.writeLater_keeps) | lift_lets -underBinder | split | (clear_value *; split)) <;> first | rfl); clear_value x) | skip)
    | (with_reducible first | assumption | exact Keeps.refl _ _ | apply Keeps.ite | apply Keeps.fold | apply State.putF_keeps | apply State.upDone_keeps | apply State.writeLater_keeps)
    | lift_lets -underBinder
    | split
    | (clear_value *; split)
  all_goals first | rfl

theorem State.writeNow_keeps {l : List Part} {s0 s : State} (a1 : Sys2Proof.Mast) (a2 : Sys2Proof.Triad) (a3 : RegRow) (a4 : Nat) (a5 : Sys2Proof.Word)
    (hk : within [Part.regs] l = true) (g : Keeps l s0 s) : Keeps l s0 (State.writeNow s a1 a2 a3 a4 a5) := by
  refine Keeps.next (k := [Part.regs]) (s := s) ?_ hk g
  clear hk g s0 l
  delta State.writeNow
  try beta_reduce
  try lift_lets -underBinder
  repeat' first
    | (intro x; first | (have hx : Keeps [Part.regs] s x := (by unfold x; (repeat' first | intro _ | (with_reducible first | assumption | exact Keeps.refl _ _ | apply Keeps.ite | apply Keeps.fold | apply State.setReg_keeps) | lift_lets -underBinder | split | (clear_value *; split)) <;> first | rfl); clear_value x) | skip)
    | (with_reducible first | assumption | exact Keeps.refl _ _ | apply Keeps.ite | apply Keeps.fold | apply State.setReg_keeps)
    | lift_lets -underBinder
    | split
    | (clear_value *; split)
  all_goals first | rfl

theorem State.writeReg_keeps {l : List Part} {s0 s : State} (a1 : Sys2Proof.Mast) (a2 : Sys2Proof.Triad) (a3 : RegRow) (a4 : Nat) (a5 : Sys2Proof.Word)
    (hk : within [Part.regs, .writes, .log] l = true) (g : Keeps l s0 s) : Keeps l s0 (State.writeReg s a1 a2 a3 a4 a5) := by
  refine Keeps.next (k := [Part.regs, .writes, .log]) (s := s) ?_ hk g
  clear hk g s0 l
  delta State.writeReg
  try beta_reduce
  try lift_lets -underBinder
  repeat' first
    | (intro x; first | (have hx : Keeps [Part.regs, .writes, .log] s x := (by unfold x; (repeat' first | intro _ | (with_reducible first | assumption | exact Keeps.refl _ _ | apply Keeps.ite | apply Keeps.fold | apply State.commandWrite_keeps | apply State.showBadKey_keeps | apply State.cmpRefuse_keeps | apply State.shadowWrite_keeps | apply State.writeNow_keeps | apply State.writeLater_keeps) | lift_lets -underBinder | split | (clear_value *; split)) <;> first | rfl); clear_value x) | skip)
    | (with_reducible first | assumption | exact Keeps.refl _ _ | apply Keeps.ite | apply Keeps.fold | apply State.commandWrite_keeps | apply State.showBadKey_keeps | apply State.cmpRefuse_keeps | apply State.shadowWrite_keeps | apply State.writeNow_keeps | apply State.writeLater_keeps)
    | lift_lets -underBinder
    | split
    | (clear_value *; split)
  all_goals first | rfl

theorem State.putTest_keeps {l : List Part} {s0 s : State} (a1 : Nat) (a2 : Nat)
    (hk : within [Part.regs] l = true) (g : Keeps l s0 s) : Keeps l s0 (State.putTest s a1 a2) := by
  refine Keeps.next (k := [Part.regs]) (s := s) ?_ hk g
  clear hk g s0 l
  delta State.putTest
  try beta_reduce
  repeat' first
    | intro _
    | (with_reducible first | assumption | exact Keeps.refl _ _ | apply Keeps.ite | apply Keeps.fold | apply State.putF_keeps)
    | split
    | (clear_value *; split)
  all_goals first | rfl

theorem State.monTouch_keeps {l : List Part} {s0 s : State}
    (hk : within [Part.mon] l = true) (g : Keeps l s0 s) : Keeps l s0 (State.monTouch s) := by
  refine Keeps.next (k := [Part.mon]) (s := s) ?_ hk g
  clear hk g s0 l
  delta State.monTouch
  try beta_reduce
  try lift_lets -underBinder
  repeat' first
    | (intro x; first | (have hx : Keeps [Part.mon] s x := (by unfold x; (repeat' first | intro _ | (with_reducible first | assumption | exact Keeps.refl _ _ | apply Keeps.ite | apply Keeps.fold) | lift_lets -underBinder | split | (clear_value *; split) | (with_reducible apply Keeps.upd_mon)) <;> first | rfl); clear_value x) | skip)
    | (with_reducible first | assumption | exact Keeps.refl _ _ | apply Keeps.ite | apply Keeps.fold)
    | lift_lets -underBinder
    | split
    | (clear_value *; split)
    | (with_reducible apply Keeps.upd_mon)
  all_goals first | rfl

theorem State.stuckReset_keeps {l : List Part} {s0 s : State} (a1 : Sys2Proof.BootEnv)
    (hk : within [Part.now, .regs, .shown, .writes, .ctl, .masts, .log, .key, .lane, .intake, .time, .pos, .fb, .app, .queue, .bridge, .stay, .net, .sup, .field, .upd, .supply, .panel, .standby, .mon, .free, .mem] l = true) (g : Keeps l s0 s) : Keeps l s0 (State.stuckReset s a1) := by
  refine Keeps.next (k := [Part.now, .regs, .shown, .writes, .ctl, .masts, .log, .key, .lane, .intake, .time, .pos, .fb, .app, .queue, .bridge, .stay, .net, .sup, .field, .upd, .supply, .panel, .standby, .mon, .free, .mem]) (s := s) ?_ hk g
  clear hk g s0 l
  delta State.stuckReset
  try beta_reduce
  repeat' first
    | intro _
    | (with_reducible first | assumption | exact Keeps.refl _ _ | apply Keeps.ite | apply Keeps.fold | apply State.stuckButton_keeps | apply State.moduleReset_keeps)
    | split
    | (clear_value *; split)
  all_goals first | rfl

theorem State.linkSilent_keeps {l : List Part} {s0 s : State} (a1 : Sys2Proof.Mast)
    (hk : within [Part.regs, .field] l = true) (g : Keeps l s0 s) : Keeps l s0 (State.linkSilent s a1) := by
  refine Keeps.next (k := [Part.regs, .field]) (s := s) ?_ hk g
  clear hk g s0 l
  delta State.linkSilent
  try beta_reduce
  try lift_lets -underBinder
  repeat' first
    | (intro x; first | (have hx : Keeps [Part.regs, .field] s x := (by unfold x; (repeat' first | intro _ | (with_reducible first | assumption | exact Keeps.refl _ _ | apply Keeps.ite | apply Keeps.fold | apply State.showField_keeps) | lift_lets -underBinder | split | (clear_value *; split) | (with_reducible apply Keeps.upd_field)) <;> first | rfl); clear_value x) | skip)
    | (with_reducible first | assumption | exact Keeps.refl _ _ | apply Keeps.ite | apply Keeps.fold | apply State.showField_keeps)
    | lift_lets -underBinder
    | split
    | (clear_value *; split)
    | (with_reducible apply Keeps.upd_field)
  all_goals first | rfl

theorem State.bridgeReady_keeps {l : List Part} {s0 s : State}
    (hk : within [Part.regs] l = true) (g : Keeps l s0 s) : Keeps l s0 (State.bridgeReady s) := by
  refine Keeps.next (k := [Part.regs]) (s := s) ?_ hk g
  clear hk g s0 l
  delta State.bridgeReady
  try beta_reduce
  repeat' first
    | intro _
    | (with_reducible first | assumption | exact Keeps.refl _ _ | apply Keeps.ite | apply Keeps.fold | apply State.putF_keeps)
    | split
    | (clear_value *; split)
  all_goals first | rfl

theorem State.wakeUp_keeps {l : List Part} {s0 s : State} (a1 : Nat) (a2 : Sys2Proof.Mast)
    (hk : within [Part.regs, .writes, .ctl, .masts, .log, .key, .lane, .intake, .time, .pos, .fb, .app, .queue, .bridge, .stay, .net, .sup, .field, .upd, .panel, .standby, .mon, .mem] l = true) (g : Keeps l s0 s) : Keeps l s0 (State.wakeUp s a1 a2) := by
  refine Keeps.next (k := [Part.regs, .writes, .ctl, .masts, .log, .key, .lane, .intake, .time, .pos, .fb, .app, .queue, .bridge, .stay, .net, .sup, .field, .upd, .panel, .standby, .mon, .mem]) (s := s) ?_ hk g
  clear hk g s0 l
  delta State.wakeUp
  try beta_reduce
  try lift_lets -underBinder
  repeat' first
    | (intro x; first | (have hx : Keeps [Part.regs, .writes, .ctl, .masts, .log, .key, .lane, .intake, .time, .pos, .fb, .app, .queue, .bridge, .stay, .net, .sup, .field, .upd, .panel, .standby, .mon, .mem] s x := (by unfold x; (repeat' first | intro _ | (with_reducible first | assumption | exact Keeps.refl _ _ | apply Keeps.ite | apply Keeps.fold | apply Keeps.setMast | apply State.loadCheckpoint_keeps | apply State.putF_keeps | apply State.setServo_keeps | apply State.firstBeats_keeps | apply State.firstOwners_keeps | apply State.bridgeReady_keeps | apply State.wakeSupervisors_keeps | apply State.resetField_keeps | apply State.changeMode_keeps | apply State.enterStop_keeps | apply State.fbStart_keeps | apply State.beginRun_keeps | apply State.raise_keeps) | lift_lets -underBinder | split | (clear_value *; split) | (with_reducible apply Keeps.upd_app_standby) | (with_reducible apply Keeps.upd_pos)) <;> first | rfl); clear_value x) | skip)
    | (with_reducible first | assumption | exact Keeps.refl _ _ | apply Keeps.ite | apply Keeps.fold | apply Keeps.setMast | apply State.loadCheckpoint_keeps | apply State.putF_keeps | apply State.setServo_keeps | apply State.firstBeats_keeps | apply State.firstOwners_keeps | apply State.bridgeReady_keeps | apply State.wakeSupervisors_keeps | apply State.resetField_keeps | apply State.changeMode_keeps | apply State.enterStop_keeps | apply State.fbStart_keeps | apply State.beginRun_keeps | apply State.raise_keeps)
    | lift_lets -underBinder
    | split
    | (clear_value *; split)
    | (with_reducible apply Keeps.upd_app_standby)
    | (with_reducible apply Keeps.upd_pos)
  all_goals first | rfl

theorem State.yieldUnit_keeps {l : List Part} {s0 s : State} (a1 : Nat) (a2 : Sys2Proof.Mast)
    (hk : within [Part.regs, .lane] l = true) (g : Keeps l s0 s) : Keeps l s0 (State.yieldUnit s a1 a2) := by
  refine Keeps.next (k := [Part.regs, .lane]) (s := s) ?_ hk g
  clear hk g s0 l
  delta State.yieldUnit
  try beta_reduce
  try lift_lets -underBinder
  repeat' first
    | (intro x; first | (have hx : Keeps [Part.regs, .lane] s x := (by unfold x; (repeat' first | intro _ | (with_reducible first | assumption | exact Keeps.refl _ _ | apply Keeps.ite | apply Keeps.fold | apply State.showOwners_keeps | apply State.setUnit_keeps) | lift_lets -underBinder | split | (clear_value *; split)) <;> first | rfl); clear_value x) | skip)
    | (with_reducible first | assumption | exact Keeps.refl _ _ | apply Keeps.ite | apply Keeps.fold | apply State.showOwners_keeps | apply State.setUnit_keeps)
    | lift_lets -underBinder
    | split
    | (clear_value *; split)
  all_goals first | rfl

theorem State.pageArrives_keeps {l : List Part} {s0 s : State} (a1 : Join) (a2 : Sys2Proof.Mast) (a3 : Sys2Proof.PageRecord)
    (hk : within [Part.regs, .writes, .masts, .log, .lane, .intake, .queue, .sup, .field, .mem] l = true) (g : Keeps l s0 s) : Keeps l s0 (State.pageArrives s a1 a2 a3) := by
  refine Keeps.next (k := [Part.regs, .writes, .masts, .log, .lane, .intake, .queue, .sup, .field, .mem]) (s := s) ?_ hk g
  clear hk g s0 l
  delta State.pageArrives
  try beta_reduce
  try lift_lets -underBinder
  repeat' first
    | (intro x; first | (have hx : Keeps [Part.regs, .writes, .masts, .log, .lane, .intake, .queue, .sup, .field, .mem] s x := (by unfold x; (repeat' first | intro _ | (with_reducible first | assumption | exact Keeps.refl _ _ | apply Keeps.ite | apply Keeps.fold | apply State.retryPage_keeps | apply State.setJoin_keeps | apply State.acceptPage_keeps) | lift_lets -underBinder | split | (clear_value *; split)) <;> first | rfl); clear_value x) | skip)
    | (with_reducible first | assumption | exact Keeps.refl _ _ | apply Keeps.ite | apply Keeps.fold | apply State.retryPage_keeps | apply State.setJoin_keeps | apply State.acceptPage_keeps)
    | lift_lets -underBinder
    | split
    | (clear_value *; split)
  all_goals first | rfl

theorem State.checkContainers_keeps {l : List Part} {s0 s : State}
    (hk : within [Part.regs, .log, .net] l = true) (g : Keeps l s0 s) : Keeps l s0 (State.checkContainers s) := by
  refine Keeps.next (k := [Part.regs, .log, .net]) (s := s) ?_ hk g
  clear hk g s0 l
  delta State.checkContainers
  try beta_reduce
  repeat' first
    | intro _
    | (with_reducible first | assumption | exact Keeps.refl _ _ | apply Keeps.ite | apply Keeps.fold | apply State.scReceive_keeps)
    | split
    | (clear_value *; split)
  all_goals first | rfl

theorem State.cacheStart_keeps {l : List Part} {s0 s : State} (a1 : Sys2Proof.Mast) (a2 : Sys2Proof.Triad) (a3 : Nat) (a4 : List (Nat × List Sys2Proof.Byte))
    (hk : within [Part.regs, .log, .queue] l = true) (g : Keeps l s0 s) : Keeps l s0 (State.cacheStart s a1 a2 a3 a4) := by
  refine Keeps.next (k := [Part.regs, .log, .queue]) (s := s) ?_ hk g
  clear hk g s0 l
  delta State.cacheStart
  try beta_reduce
  try lift_lets -underBinder
  repeat' first
    | (intro x; first | (have hx : Keeps [Part.regs, .log, .queue] s x := (by unfold x; (repeat' first | intro _ | (with_reducible first | assumption | exact Keeps.refl _ _ | apply Keeps.ite | apply Keeps.fold | apply State.raiseM_keeps | apply State.putF_keeps | apply State.setQueue_keeps) | lift_lets -underBinder | split | (clear_value *; split)) <;> first | rfl); clear_value x) | skip)
    | (with_reducible first | assumption | exact Keeps.refl _ _ | apply Keeps.ite | apply Keeps.fold | apply State.raiseM_keeps | apply State.putF_keeps | apply State.setQueue_keeps)
    | lift_lets -underBinder
    | split
    | (clear_value *; split)
  all_goals first | rfl

theorem State.showMd_keeps {l : List Part} {s0 s : State}
    (hk : within [Part.regs] l = true) (g : Keeps l s0 s) : Keeps l s0 (State.showMd s) := by
  refine Keeps.next (k := [Part.regs]) (s := s) ?_ hk g
  clear hk g s0 l
  delta State.showMd
  try beta_reduce
  repeat' first
    | intro _
    | (with_reducible first | assumption | exact Keeps.refl _ _ | apply Keeps.ite | apply Keeps.fold | apply State.putF_keeps)
    | split
    | (clear_value *; split)
  all_goals first | rfl

theorem State.mastEdge_keeps {l : List Part} {s0 s : State} (a1 : Nat) (a2 : Int) (a3 : Sys2Proof.Mast)
    (hk : within [Part.regs, .masts, .log, .lane, .pos, .queue, .field, .mem] l = true) (g : Keeps l s0 s) : Keeps l s0 (State.mastEdge s a1 a2 a3) := by
  refine Keeps.next (k := [Part.regs, .masts, .log, .lane, .pos, .queue, .field, .mem]) (s := s) ?_ hk g
  clear hk g s0 l
  delta State.mastEdge
  try beta_reduce
  try lift_lets -underBinder
  repeat' first
    | (intro x; first | (have hx : Keeps [Part.regs, .masts, .log, .lane, .pos, .queue, .field, .mem] s x := (by unfold x; (repeat' first | intro _ | (with_reducible first | assumption | exact Keeps.refl _ _ | apply Keeps.ite | apply Keeps.fold | apply State.setAxle_keeps | apply State.cmpEdge_keeps) | lift_lets -underBinder | split | (clear_value *; split)) <;> first | rfl); clear_value x) | skip)
    | (with_reducible first | assumption | exact Keeps.refl _ _ | apply Keeps.ite | apply Keeps.fold | apply State.setAxle_keeps | apply State.cmpEdge_keeps)
    | lift_lets -underBinder
    | split
    | (clear_value *; split)
  all_goals first | rfl

theorem State.silClr_keeps {l : List Part} {s0 s : State} (a1 : Sys2Proof.Mast) (a2 : Sys2Proof.Word)
    (hk : within [Part.masts, .mem] l = true) (g : Keeps l s0 s) : Keeps l s0 (State.silClr s a1 a2) := by
  refine Keeps.next (k := [Part.masts, .mem]) (s := s) ?_ hk g
  clear hk g s0 l
  delta State.silClr
  try beta_reduce
  repeat' first
    | intro _
    | (with_reducible first | assumption | exact Keeps.refl _ _ | apply Keeps.ite | apply Keeps.fold | apply Keeps.setMem)
    | split
    | (clear_value *; split)
  all_goals first | rfl | (have hh := ‹canonical _›; simp only [Memory.wf_writeBytes, Memory.wf_writeBank, Memory.wf_erase, Memory.wf_markRange, Memory.wf_setErr, Memory.wf_clearSilence, Memory.wf_takeRange, Memory.wf_writeStore, Memory.wf_writeRecord, Memory.wf_putCells, hh.2])

theorem State.mcOutcome_keeps {l : List Part} {s0 s : State}
    (hk : within [] l = true) (g : Keeps l s0 s) : Keeps l s0 (State.mcOutcome s).1 := by
  refine Keeps.next (k := []) (s := s) ?_ hk g
  clear hk g s0 l
  delta State.mcOutcome
  try beta_reduce
  try lift_lets -underBinder
  repeat' first
    | (intro x; first | (have hx : Keeps [] s x := (by unfold x; (repeat' first | intro _ | (with_reducible first | assumption | exact Keeps.refl _ _ | apply Keeps.ite | apply Keeps.fold) | lift_lets -underBinder | split | (clear_value *; split)) <;> first | rfl); clear_value x) | skip)
    | (with_reducible first | assumption | exact Keeps.refl _ _ | apply Keeps.ite | apply Keeps.fold)
    | lift_lets -underBinder
    | split
    | (clear_value *; split)
  all_goals first | rfl

theorem State.mcOutcome_keeps_of {l : List Part} {s0 s t : State} {b} (e : State.mcOutcome s = (t, b))
    (hk : within [] l = true) (g : Keeps l s0 s) : Keeps l s0 t := by
  have h := State.mcOutcome_keeps hk g
  rw [e] at h; exact h

theorem State.withoutPeer_keeps {l : List Part} {s0 s : State} (a1 : List Staged) (a2 : Sys2Proof.Mast) (a3 : Sys2Proof.Item)
    (hk : within [Part.regs, .log, .intake, .queue] l = true) (g : Keeps l s0 s) : Keeps l s0 (State.withoutPeer s a1 a2 a3) := by
  refine Keeps.next (k := [Part.regs, .log, .intake, .queue]) (s := s) ?_ hk g
  clear hk g s0 l
  delta State.withoutPeer
  try beta_reduce
  try lift_lets -underBinder
  repeat' first
    | (intro x; first | (have hx : Keeps [Part.regs, .log, .intake, .queue] s x := (by unfold x; (repeat' first | intro _ | (with_reducible first | assumption | exact Keeps.refl _ _ | apply Keeps.ite | apply Keeps.fold | apply State.applyVerdict_keeps | apply State.incF_keeps) | lift_lets -underBinder | split | (clear_value *; split) | (with_reducible apply Keeps.upd_intake)) <;> first | rfl); clear_value x) | skip)
    | (with_reducible first | assumption | exact Keeps.refl _ _ | apply Keeps.ite | apply Keeps.fold | apply State.applyVerdict_keeps | apply State.incF_keeps)
    | lift_lets -underBinder
    | split
    | (clear_value *; split)
    | (with_reducible apply Keeps.upd_intake)
  all_goals first | rfl

theorem State.changeRequest_keeps {l : List Part} {s0 s : State} (a1 : Bool) (a2 : Nat) (a3 : List Sys2Proof.ChangeItem)
    (hk : within [Part.regs, .log, .app] l = true) (g : Keeps l s0 s) : Keeps l s0 (State.changeRequest s a1 a2 a3).1 := by
  refine Keeps.next (k := [Part.regs, .log, .app]) (s := s) ?_ hk g
  clear hk g s0 l
  delta State.changeRequest
  try beta_reduce
  try lift_lets -underBinder
  repeat' first
    | (intro x; first | (have hx : Keeps [Part.regs, .log, .app] s x := (by unfold x; (repeat' first | intro _ | (with_reducible first | assumption | exact Keeps.refl _ _ | apply Keeps.ite | apply Keeps.fold | apply State.refuseChange_keeps | apply State.showChanges_keeps) | lift_lets -underBinder | split | (clear_value *; split) | (with_reducible apply Keeps.upd_app)) <;> first | rfl); clear_value x) | skip)
    | (with_reducible first | assumption | exact Keeps.refl _ _ | apply Keeps.ite | apply Keeps.fold | apply State.refuseChange_keeps | apply State.showChanges_keeps)
    | lift_lets -underBinder
    | split
    | (clear_value *; split)
    | (with_reducible apply Keeps.upd_app)
  all_goals first | rfl

theorem State.changeRequest_keeps_of {l : List Part} {s0 s t : State} {a1 : Bool} {a2 : Nat} {a3 : List Sys2Proof.ChangeItem} {b} (e : State.changeRequest s a1 a2 a3 = (t, b))
    (hk : within [Part.regs, .log, .app] l = true) (g : Keeps l s0 s) : Keeps l s0 t := by
  have h := State.changeRequest_keeps a1 a2 a3 hk g
  rw [e] at h; exact h

theorem State.powerDown_keeps {l : List Part} {s0 s : State}
    (hk : within [Part.regs, .shown, .writes, .ctl, .masts, .log, .key, .lane, .intake, .time, .pos, .fb, .app, .queue, .bridge, .stay, .net, .sup, .field, .upd, .supply, .panel, .standby, .mon, .mem] l = true) (g : Keeps l s0 s) : Keeps l s0 (State.powerDown s) := by
  refine Keeps.next (k := [Part.regs, .shown, .writes, .ctl, .masts, .log, .key, .lane, .intake, .time, .pos, .fb, .app, .queue, .bridge, .stay, .net, .sup, .field, .upd, .supply, .panel, .standby, .mon, .mem]) (s := s) ?_ hk g
  clear hk g s0 l
  delta State.powerDown
  try beta_reduce
  try lift_lets -underBinder
  repeat' first
    | (intro x; first | (have hx : Keeps [Part.regs, .shown, .writes, .ctl, .masts, .log, .key, .lane, .intake, .time, .pos, .fb, .app, .queue, .bridge, .stay, .net, .sup, .field, .upd, .supply, .panel, .standby, .mon, .mem] s x := (by unfold x; (repeat' first | intro _ | (with_reducible first | assumption | exact Keeps.refl _ _ | apply Keeps.ite | apply Keeps.fold | apply State.bare_keeps | apply State.upAbort_keeps) | lift_lets -underBinder | split | (clear_value *; split) | (with_reducible apply Keeps.upd_ctl_supply)) <;> first | rfl); clear_value x) | skip)
    | (with_reducible first | assumption | exact Keeps.refl _ _ | apply Keeps.ite | apply Keeps.fold | apply State.bare_keeps | apply State.upAbort_keeps)
    | lift_lets -underBinder
    | split
    | (clear_value *; split)
    | (with_reducible apply Keeps.upd_ctl_supply)
  all_goals first | rfl

theorem State.writeSymbols_keeps {l : List Part} {s0 s : State} (a1 : Sys2Proof.Mast) (a2 : List (Nat × Int))
    (hk : within [Part.masts, .lane, .mem] l = true) (g : Keeps l s0 s) : Keeps l s0 (State.writeSymbols s a1 a2) := by
  refine Keeps.next (k := [Part.masts, .lane, .mem]) (s := s) ?_ hk g
  clear hk g s0 l
  delta State.writeSymbols
  try beta_reduce
  repeat' first
    | intro _
    | (with_reducible first | assumption | exact Keeps.refl _ _ | apply Keeps.ite | apply Keeps.fold | apply State.markDirty_keeps | apply State.store_keeps)
    | split
    | (clear_value *; split)
  all_goals first | rfl

theorem plain_keeps {l : List Part} {s0 s : State} (f : State → MonOutcome) (x : List (List Byte))
    (hf : ∀ s, Keeps l s0 s → Keeps l s0 (f s).1) (g : Keeps l s0 s) : Keeps l s0 (plain f s x).1 := by
  unfold plain
  split
  · exact hf s g
  · exact g

theorem State.judgeLimits_keeps {l : List Part} {s0 s : State} (a1 : Sys2Proof.Mast) (a2 : SpParams)
    (hk : within [Part.regs, .log, .sup] l = true) (g : Keeps l s0 s) : Keeps l s0 (State.judgeLimits s a1 a2) := by
  refine Keeps.next (k := [Part.regs, .log, .sup]) (s := s) ?_ hk g
  clear hk g s0 l
  delta State.judgeLimits
  try beta_reduce
  repeat' first
    | intro _
    | (with_reducible first | assumption | exact Keeps.refl _ _ | apply Keeps.ite | apply Keeps.fold | apply State.judgeLimit_keeps)
    | split
    | (clear_value *; split)
  all_goals first | rfl

theorem State.judgeSlip_keeps {l : List Part} {s0 s : State} (a1 : Sys2Proof.Mast) (a2 : SpParams)
    (hk : within [Part.log, .sup] l = true) (g : Keeps l s0 s) : Keeps l s0 (State.judgeSlip s a1 a2) := by
  refine Keeps.next (k := [Part.log, .sup]) (s := s) ?_ hk g
  clear hk g s0 l
  delta State.judgeSlip
  try beta_reduce
  try lift_lets -underBinder
  repeat' first
    | (intro x; first | (have hx : Keeps [Part.log, .sup] s x := (by unfold x; (repeat' first | intro _ | (with_reducible first | assumption | exact Keeps.refl _ _ | apply Keeps.ite | apply Keeps.fold | apply State.setSp_keeps | apply State.raiseLimited_keeps) | lift_lets -underBinder | split | (clear_value *; split)) <;> first | rfl); clear_value x) | skip)
    | (with_reducible first | assumption | exact Keeps.refl _ _ | apply Keeps.ite | apply Keeps.fold | apply State.setSp_keeps | apply State.raiseLimited_keeps)
    | lift_lets -underBinder
    | split
    | (clear_value *; split)
  all_goals first | rfl

theorem State.spEdgeOn_keeps {l : List Part} {s0 s : State} (a1 : Sys2Proof.Mast) (a2 : SpParams) (a3 : Nat) (a4 : Bool)
    (hk : within [Part.regs, .log, .sup] l = true) (g : Keeps l s0 s) : Keeps l s0 (State.spEdgeOn s a1 a2 a3 a4) := by
  refine Keeps.next (k := [Part.regs, .log, .sup]) (s := s) ?_ hk g
  clear hk g s0 l
  delta State.spEdgeOn
  try beta_reduce
  try lift_lets -underBinder
  repeat' first
    | (intro x; first | (have hx : Keeps [Part.regs, .log, .sup] s x := (by unfold x; (repeat' first | intro _ | (with_reducible first | assumption | exact Keeps.refl _ _ | apply Keeps.ite | apply Keeps.fold | apply State.setSp_keeps | apply State.judgeStill_keeps | apply State.judgeLimits_keeps | apply State.judgeSlip_keeps | apply State.checkDiscrepancy_keeps | apply State.judgeDirection_keeps | apply State.showForce_keeps | apply State.evalWindows_keeps) | lift_lets -underBinder | split | (clear_value *; split)) <;> first | rfl); clear_value x) | skip)
    | (with_reducible first | assumption | exact Keeps.refl _ _ | apply Keeps.ite | apply Keeps.fold | apply State.setSp_keeps | apply State.judgeStill_keeps | apply State.judgeLimits_keeps | apply State.judgeSlip_keeps | apply State.checkDiscrepancy_keeps | apply State.judgeDirection_keeps | apply State.showForce_keeps | apply State.evalWindows_keeps)
    | lift_lets -underBinder
    | split
    | (clear_value *; split)
  all_goals first | rfl

theorem State.spEdge_keeps {l : List Part} {s0 s : State} (a1 : Nat) (a2 : Bool)
    (hk : within [Part.regs, .log, .sup] l = true) (g : Keeps l s0 s) : Keeps l s0 (State.spEdge s a1 a2) := by
  refine Keeps.next (k := [Part.regs, .log, .sup]) (s := s) ?_ hk g
  clear hk g s0 l
  delta State.spEdge
  try beta_reduce
  repeat' first
    | intro _
    | (with_reducible first | assumption | exact Keeps.refl _ _ | apply Keeps.ite | apply Keeps.fold | apply State.spEdgeOn_keeps)
    | split
    | (clear_value *; split)
  all_goals first | rfl

theorem State.beginTest_keeps {l : List Part} {s0 s : State} (a1 : Nat) (a2 : Nat) (a3 : TestStep)
    (hk : within [Part.field] l = true) (g : Keeps l s0 s) : Keeps l s0 (State.beginTest s a1 a2 a3) := by
  refine Keeps.next (k := [Part.field]) (s := s) ?_ hk g
  clear hk g s0 l
  delta State.beginTest
  try beta_reduce
  try lift_lets -underBinder
  repeat' first
    | (intro x; first | (have hx : Keeps [Part.field] s x := (by unfold x; (repeat' first | intro _ | (with_reducible first | assumption | exact Keeps.refl _ _ | apply Keeps.ite | apply Keeps.fold | apply State.setOut_keeps) | lift_lets -underBinder | split | (clear_value *; split) | (with_reducible apply Keeps.upd_field)) <;> first | rfl); clear_value x) | skip)
    | (with_reducible first | assumption | exact Keeps.refl _ _ | apply Keeps.ite | apply Keeps.fold | apply State.setOut_keeps)
    | lift_lets -underBinder
    | split
    | (clear_value *; split)
    | (with_reducible apply Keeps.upd_field)
  all_goals first | rfl

theorem State.spQerr_keeps {l : List Part} {s0 s : State} (a1 : Nat)
    (hk : within [Part.regs, .log, .sup] l = true) (g : Keeps l s0 s) : Keeps l s0 (State.spQerr s a1) := by
  refine Keeps.next (k := [Part.regs, .log, .sup]) (s := s) ?_ hk g
  clear hk g s0 l
  delta State.spQerr
  try beta_reduce
  try lift_lets -underBinder
  repeat' first
    | (intro x; first | (have hx : Keeps [Part.regs, .log, .sup] s x := (by unfold x; (repeat' first | intro _ | (with_reducible first | assumption | exact Keeps.refl _ _ | apply Keeps.ite | apply Keeps.fold | apply State.setSp_keeps | apply State.showForce_keeps | apply State.odoFault_keeps) | lift_lets -underBinder | split | (clear_value *; split)) <;> first | rfl); clear_value x) | skip)
    | (with_reducible first | assumption | exact Keeps.refl _ _ | apply Keeps.ite | apply Keeps.fold | apply State.setSp_keeps | apply State.showForce_keeps | apply State.odoFault_keeps)
    | lift_lets -underBinder
    | split
    | (clear_value *; split)
  all_goals first | rfl

theorem State.acceptEdge_keeps {l : List Part} {s0 s : State} (a1 : Nat) (a2 : Bool)
    (hk : within [Part.regs, .masts, .log, .lane, .pos, .queue, .sup, .field, .mem] l = true) (g : Keeps l s0 s) : Keeps l s0 (State.acceptEdge s a1 a2) := by
  refine Keeps.next (k := [Part.regs, .masts, .log, .lane, .pos, .queue, .sup, .field, .mem]) (s := s) ?_ hk g
  clear hk g s0 l
  delta State.acceptEdge
  try beta_reduce
  try lift_lets -underBinder
  repeat' first
    | (intro x; first | (have hx : Keeps [Part.regs, .masts, .log, .lane, .pos, .queue, .sup, .field, .mem] s x := (by unfold x; (repeat' first | intro _ | (with_reducible first | assumption | exact Keeps.refl _ _ | apply Keeps.ite | apply Keeps.fold | apply State.putF_keeps | apply State.wrapF_keeps | apply State.spOverrate_keeps | apply State.raise_keeps | apply State.spEdge_keeps | apply State.mastEdge_keeps) | lift_lets -underBinder | split | (clear_value *; split) | (with_reducible apply Keeps.upd_pos)) <;> first | rfl); clear_value x) | skip)
    | (with_reducible first | assumption | exact Keeps.refl _ _ | apply Keeps.ite | apply Keeps.fold | apply State.putF_keeps | apply State.wrapF_keeps | apply State.spOverrate_keeps | apply State.raise_keeps | apply State.spEdge_keeps | apply State.mastEdge_keeps)
    | lift_lets -underBinder
    | split
    | (clear_value *; split)
    | (with_reducible apply Keeps.upd_pos)
  all_goals first | rfl

theorem State.startCommand_keeps {l : List Part} {s0 s : State} (a1 : Bool) (a2 : Nat)
    (hk : within [Part.regs, .writes, .ctl, .masts, .log, .key, .lane, .intake, .fb, .app, .queue, .bridge, .stay, .net, .sup, .field, .upd, .panel, .mon, .mem] l = true) (g : Keeps l s0 s) : Keeps l s0 (State.startCommand s a1 a2) := by
  refine Keeps.next (k := [Part.regs, .writes, .ctl, .masts, .log, .key, .lane, .intake, .fb, .app, .queue, .bridge, .stay, .net, .sup, .field, .upd, .panel, .mon, .mem]) (s := s) ?_ hk g
  clear hk g s0 l
  delta State.startCommand
  try beta_reduce
  try lift_lets -underBinder
  repeat' first
    | (intro x; first | (have hx : Keeps [Part.regs, .writes, .ctl, .masts, .log, .key, .lane, .intake, .fb, .app, .queue, .bridge, .stay, .net, .sup, .field, .upd, .panel, .mon, .mem] s x := (by unfold x; (repeat' first | intro _ | (with_reducible first | assumption | exact Keeps.refl _ _ | apply Keeps.ite | apply Keeps.fold | apply State.raise_keeps | apply State.mcDone_keeps | apply State.beginRun_keeps) | lift_lets -underBinder | split | (clear_value *; split)) <;> first | rfl); clear_value x) | skip)
    | (with_reducible first | assumption | exact Keeps.refl _ _ | apply Keeps.ite | apply Keeps.fold | apply State.raise_keeps | apply State.mcDone_keeps | apply State.beginRun_keeps)
    | lift_lets -underBinder
    | split
    | (clear_value *; split)
  all_goals first | rfl

theorem State.nodeEvent_keeps {l : List Part} {s0 s : State} (a1 : Nat) (a2 : Nat) (a3 : NodeTurn)
    (hk : within [Part.regs, .log, .fb] l = true) (g : Keeps l s0 s) : Keeps l s0 (State.nodeEvent s a1 a2 a3) := by
  refine Keeps.next (k := [Part.regs, .log, .fb]) (s := s) ?_ hk g
  clear hk g s0 l
  delta State.nodeEvent
  try beta_reduce
  repeat' first
    | intro _
    | (with_reducible first | assumption | exact Keeps.refl _ _ | apply Keeps.ite | apply Keeps.fold | apply State.showNodes_keeps | apply State.fbJudgeNode_keeps)
    | split
    | (clear_value *; split)
  all_goals first | rfl

theorem State.grantEvent_keeps {l : List Part} {s0 s : State} (a1 : Nat) (a2 : Nat) (a3 : GrantTurn)
    (hk : within [Part.regs, .log, .fb] l = true) (g : Keeps l s0 s) : Keeps l s0 (State.grantEvent s a1 a2 a3) := by
  refine Keeps.next (k := [Part.regs, .log, .fb]) (s := s) ?_ hk g
  clear hk g s0 l
  delta State.grantEvent
  try beta_reduce
  repeat' first
    | intro _
    | (with_reducible first | assumption | exact Keeps.refl _ _ | apply Keeps.ite | apply Keeps.fold | apply State.showNodes_keeps | apply State.fbJudgeGrant_keeps)
    | split
    | (clear_value *; split)
  all_goals first | rfl

theorem State.upGate_keeps {l : List Part} {s0 s t : State} {w : Per Bool} {code : Nat} {modes : List Mode} {params : List Nat}
    (e : State.upGate s w code modes params = some t) (hk : within [Part.regs] l = true) (g : Keeps l s0 s) : Keeps l s0 t := by
  refine Keeps.next (k := [Part.regs]) (s := s) ?_ hk g
  unfold State.upGate at e
  split at e
  · cases e; exact State.upDone_keeps _ _ _ rfl (Keeps.refl _ _)
  · split at e
    · cases e; exact State.upDone_keeps _ _ _ rfl (Keeps.refl _ _)
    · cases e

theorem State.startJoin_keeps {l : List Part} {s0 s : State} (a1 : Sys2Proof.LanePos) (a2 : Nat) (a3 : Sys2Proof.JuryFinding)
    (hk : within [Part.regs, .masts, .log, .lane, .field, .mem] l = true) (g : Keeps l s0 s) : Keeps l s0 (State.startJoin s a1 a2 a3) := by
  refine Keeps.next (k := [Part.regs, .masts, .log, .lane, .field, .mem]) (s := s) ?_ hk g
  clear hk g s0 l
  delta State.startJoin
  try beta_reduce
  try lift_lets -underBinder
  repeat' first
    | (intro x; first | (have hx : Keeps [Part.regs, .masts, .log, .lane, .field, .mem] s x := (by unfold x; (repeat' first | intro _ | (with_reducible first | assumption | exact Keeps.refl _ _ | apply Keeps.ite | apply Keeps.fold | apply State.powerMast_keeps | apply State.setJoin_keeps | apply State.putF_keeps | apply State.setLane_keeps | apply State.showPhase_keeps | apply State.raise_keeps) | lift_lets -underBinder | split | (clear_value *; split)) <;> first | rfl); clear_value x) | skip)
    | (with_reducible first | assumption | exact Keeps.refl _ _ | apply Keeps.ite | apply Keeps.fold | apply State.powerMast_keeps | apply State.setJoin_keeps | apply State.putF_keeps | apply State.setLane_keeps | apply State.showPhase_keeps | apply State.raise_keeps)
    | lift_lets -underBinder
    | split
    | (clear_value *; split)
  all_goals first | rfl

theorem State.linkReject_keeps {l : List Part} {s0 s : State} (a1 : Sys2Proof.Mast)
    (hk : within [Part.regs, .log, .field] l = true) (g : Keeps l s0 s) : Keeps l s0 (State.linkReject s a1) := by
  refine Keeps.next (k := [Part.regs, .log, .field]) (s := s) ?_ hk g
  clear hk g s0 l
  delta State.linkReject
  try beta_reduce
  repeat' first
    | intro _
    | (with_reducible first | assumption | exact Keeps.refl _ _ | apply Keeps.ite | apply Keeps.fold | apply State.linkSilent_keeps | apply State.noteSummary_keeps | apply State.incF_keeps)
    | split
    | (clear_value *; split)
  all_goals first | rfl

theorem State.holdAt_keeps {l : List Part} {s0 s : State} (a1 : Sys2Proof.Mast) (a2 : Nat)
    (hk : within [Part.regs, .lane] l = true) (g : Keeps l s0 s) : Keeps l s0 (State.holdAt s a1 a2) := by
  refine Keeps.next (k := [Part.regs, .lane]) (s := s) ?_ hk g
  clear hk g s0 l
  delta State.holdAt
  try beta_reduce
  try lift_lets -underBinder
  repeat' first
    | (intro x; first | (have hx : Keeps [Part.regs, .lane] s x := (by unfold x; (repeat' first | intro _ | (with_reducible first | assumption | exact Keeps.refl _ _ | apply Keeps.ite | apply Keeps.fold | apply State.setJoin_keeps | apply State.putF_keeps) | lift_lets -underBinder | split | (clear_value *; split) | (with_reducible apply Keeps.upd_lane)) <;> first | rfl); clear_value x) | skip)
    | (with_reducible first | assumption | exact Keeps.refl _ _ | apply Keeps.ite | apply Keeps.fold | apply State.setJoin_keeps | apply State.putF_keeps)
    | lift_lets -underBinder
    | split
    | (clear_value *; split)
    | (with_reducible apply Keeps.upd_lane)
  all_goals first | rfl

theorem State.authFailed_keeps {l : List Part} {s0 s : State}
    (hk : within [Part.regs, .log, .mon] l = true) (g : Keeps l s0 s) : Keeps l s0 (State.authFailed s) := by
  refine Keeps.next (k := [Part.regs, .log, .mon]) (s := s) ?_ hk g
  clear hk g s0 l
  delta State.authFailed
  try beta_reduce
  try lift_lets -underBinder
  repeat' first
    | (intro x; first | (have hx : Keeps [Part.regs, .log, .mon] s x := (by unfold x; (repeat' first | intro _ | (with_reducible first | assumption | exact Keeps.refl _ _ | apply Keeps.ite | apply Keeps.fold | apply State.incF_keeps | apply State.raise_keeps) | lift_lets -underBinder | split | (clear_value *; split) | (with_reducible apply Keeps.upd_mon)) <;> first | rfl); clear_value x) | skip)
    | (with_reducible first | assumption | exact Keeps.refl _ _ | apply Keeps.ite | apply Keeps.fold | apply State.incF_keeps | apply State.raise_keeps)
    | lift_lets -underBinder
    | split
    | (clear_value *; split)
    | (with_reducible apply Keeps.upd_mon)
  all_goals first | rfl

theorem State.positionTimeouts_keeps {l : List Part} {s0 s : State}
    (hk : within [Part.regs, .log, .field] l = true) (g : Keeps l s0 s) : Keeps l s0 (State.positionTimeouts s) := by
  refine Keeps.next (k := [Part.regs, .log, .field]) (s := s) ?_ hk g
  clear hk g s0 l
  delta State.positionTimeouts
  try beta_reduce
  try lift_lets -underBinder
  repeat' first
    | (intro x; first | (have hx : Keeps [Part.regs, .log, .field] s x := (by unfold x; (repeat' first | intro _ | (with_reducible first | assumption | exact Keeps.refl _ _ | apply Keeps.ite | apply Keeps.fold | apply State.revote_keeps) | lift_lets -underBinder | split | (clear_value *; split) | (with_reducible apply Keeps.upd_field)) <;> first | rfl); clear_value x) | skip)
    | (with_reducible first | assumption | exact Keeps.refl _ _ | apply Keeps.ite | apply Keeps.fold | apply State.revote_keeps)
    | lift_lets -underBinder
    | split
    | (clear_value *; split)
    | (with_reducible apply Keeps.upd_field)
  all_goals first | rfl

theorem State.dieReads_keeps {l : List Part} {s0 s : State} (a1 : Sys2Proof.Mast) (a2 : Int)
    (hk : within [Part.regs, .masts, .log] l = true) (g : Keeps l s0 s) : Keeps l s0 (State.dieReads s a1 a2) := by
  refine Keeps.next (k := [Part.regs, .masts, .log]) (s := s) ?_ hk g
  clear hk g s0 l
  delta State.dieReads
  try beta_reduce
  try lift_lets -underBinder
  repeat' first
    | (intro x; first | (have hx : Keeps [Part.regs, .masts, .log] s x := (by unfold x; (repeat' first | intro _ | (with_reducible first | assumption | exact Keeps.refl _ _ | apply Keeps.ite | apply Keeps.fold | apply State.putF_keeps | apply Keeps.setMast | apply State.raiseM_keeps) | lift_lets -underBinder | split | (clear_value *; split)) <;> first | rfl); clear_value x) | skip)
    | (with_reducible first | assumption | exact Keeps.refl _ _ | apply Keeps.ite | apply Keeps.fold | apply State.putF_keeps | apply Keeps.setMast | apply State.raiseM_keeps)
    | lift_lets -underBinder
    | split
    | (clear_value *; split)
  all_goals first | rfl

theorem State.sendEntry_keeps {l : List Part} {s0 s : State} (a1 : LogEntry) (a2 : Nat)
    (hk : within [Part.regs, .log] l = true) (g : Keeps l s0 s) : Keeps l s0 (State.sendEntry s a1 a2) := by
  refine Keeps.next (k := [Part.regs, .log]) (s := s) ?_ hk g
  clear hk g s0 l
  delta State.sendEntry
  try beta_reduce
  try lift_lets -underBinder
  repeat' first
    | (intro x; first | (have hx : Keeps [Part.regs, .log] s x := (by unfold x; (repeat' first | intro _ | (with_reducible first | assumption | exact Keeps.refl _ _ | apply Keeps.ite | apply Keeps.fold | apply State.wrapF_keeps) | lift_lets -underBinder | split | (clear_value *; split) | (with_reducible apply Keeps.upd_log)) <;> first | rfl); clear_value x) | skip)
    | (with_reducible first | assumption | exact Keeps.refl _ _ | apply Keeps.ite | apply Keeps.fold | apply State.wrapF_keeps)
    | lift_lets -underBinder
    | split
    | (clear_value *; split)
    | (with_reducible apply Keeps.upd_log)
  all_goals first | rfl

theorem State.showVote_keeps {l : List Part} {s0 s : State} (a1 : Nat) (a2 : List Sys2Proof.Mast)
    (hk : within [Part.regs] l = true) (g : Keeps l s0 s) : Keeps l s0 (State.showVote s a1 a2) := by
  refine Keeps.next (k := [Part.regs]) (s := s) ?_ hk g
  clear hk g s0 l
  delta State.showVote
  try beta_reduce
  try lift_lets -underBinder
  repeat' first
    | (intro x; first | (have hx : Keeps [Part.regs] s x := (by unfold x; (repeat' first | intro _ | (with_reducible first | assumption | exact Keeps.refl _ _ | apply Keeps.ite | apply Keeps.fold | apply State.putF_keeps) | lift_lets -underBinder | split | (clear_value *; split)) <;> first | rfl); clear_value x) | skip)
    | (with_reducible first | assumption | exact Keeps.refl _ _ | apply Keeps.ite | apply Keeps.fold | apply State.putF_keeps)
    | lift_lets -underBinder
    | split
    | (clear_value *; split)
  all_goals first | rfl

theorem State.openSession_keeps {l : List Part} {s0 s : State} (a1 : Nat)
    (hk : within [Part.regs, .log, .mon] l = true) (g : Keeps l s0 s) : Keeps l s0 (State.openSession s a1) := by
  refine Keeps.next (k := [Part.regs, .log, .mon]) (s := s) ?_ hk g
  clear hk g s0 l
  delta State.openSession
  try beta_reduce
  try lift_lets -underBinder
  repeat' first
    | (intro x; first | (have hx : Keeps [Part.regs, .log, .mon] s x := (by unfold x; (repeat' first | intro _ | (with_reducible first | assumption | exact Keeps.refl _ _ | apply Keeps.ite | apply Keeps.fold | apply State.incF_keeps | apply State.putF_keeps | apply State.raise_keeps) | lift_lets -underBinder | split | (clear_value *; split) | (with_reducible apply Keeps.upd_mon)) <;> first | rfl); clear_value x) | skip)
    | (with_reducible first | assumption | exact Keeps.refl _ _ | apply Keeps.ite | apply Keeps.fold | apply State.incF_keeps | apply State.putF_keeps | apply State.raise_keeps)
    | lift_lets -underBinder
    | split
    | (clear_value *; split)
    | (with_reducible apply Keeps.upd_mon)
  all_goals first | rfl

theorem State.sideband_keeps {l : List Part} {s0 s : State} (a1 : Nat) (a2 : Nat) (a3 : Nat)
    (hk : within [Part.regs, .intake, .bridge] l = true) (g : Keeps l s0 s) : Keeps l s0 (State.sideband s a1 a2 a3) := by
  refine Keeps.next (k := [Part.regs, .intake, .bridge]) (s := s) ?_ hk g
  clear hk g s0 l
  delta State.sideband
  try beta_reduce
  try lift_lets -underBinder
  repeat' first
    | (intro x; first | (have hx : Keeps [Part.regs, .intake, .bridge] s x := (by unfold x; (repeat' first | intro _ | (with_reducible first | assumption | exact Keeps.refl _ _ | apply Keeps.ite | apply Keeps.fold | apply State.countOutErr_keeps | apply State.formItem_keeps) | lift_lets -underBinder | split | (clear_value *; split) | (with_reducible apply Keeps.upd_bridge)) <;> first | rfl); clear_value x) | skip)
    | (with_reducible first | assumption | exact Keeps.refl _ _ | apply Keeps.ite | apply Keeps.fold | apply State.countOutErr_keeps | apply State.formItem_keeps)
    | lift_lets -underBinder
    | split
    | (clear_value *; split)
    | (with_reducible apply Keeps.upd_bridge)
  all_goals first | rfl

theorem State.monInjectTriad_keeps {l : List Part} {s0 s : State} (a1 : List Sys2Proof.Byte) (a2 : List Sys2Proof.Byte) (a3 : List Sys2Proof.Byte) (a4 : List Sys2Proof.Byte)
    (hk : within [Part.regs, .masts, .log, .lane, .time, .free, .mem] l = true) (g : Keeps l s0 s) : Keeps l s0 (State.monInjectTriad s a1 a2 a3 a4).1 := by
  refine Keeps.next (k := [Part.regs, .masts, .log, .lane, .time, .free, .mem]) (s := s) ?_ hk g
  clear hk g s0 l
  delta State.monInjectTriad
  try beta_reduce
  try lift_lets -underBinder
  repeat' first
    | (intro x; first | (have hx : Keeps [Part.regs, .masts, .log, .lane, .time, .free, .mem] s x := (by unfold x; (repeat' first | intro _ | (with_reducible first | assumption | exact Keeps.refl _ _ | apply Keeps.ite | apply Keeps.fold | apply State.askInject_keeps) | lift_lets -underBinder | split | (clear_value *; split)) <;> first | rfl); clear_value x) | skip)
    | (with_reducible first | assumption | exact Keeps.refl _ _ | apply Keeps.ite | apply Keeps.fold | apply State.askInject_keeps)
    | lift_lets -underBinder
    | split
    | (clear_value *; split)
  all_goals first | rfl

theorem State.monInjectTriad_keeps_of {l : List Part} {s0 s t : State} {a1 : List Sys2Proof.Byte} {a2 : List Sys2Proof.Byte} {a3 : List Sys2Proof.Byte} {a4 : List Sys2Proof.Byte} {b} (e : State.monInjectTriad s a1 a2 a3 a4 = (t, b))
    (hk : within [Part.regs, .masts, .log, .lane, .time, .free, .mem] l = true) (g : Keeps l s0 s) : Keeps l s0 t := by
  have h := State.monInjectTriad_keeps a1 a2 a3 a4 hk g
  rw [e] at h; exact h

theorem State.cmpDisarm_keeps {l : List Part} {s0 s : State} (a1 : Sys2Proof.Mast) (a2 : Nat)
    (hk : within [Part.regs, .masts, .log, .lane, .pos, .queue, .field, .mem] l = true) (g : Keeps l s0 s) : Keeps l s0 (State.cmpDisarm s a1 a2) := by
  refine Keeps.next (k := [Part.regs, .masts, .log, .lane, .pos, .queue, .field, .mem]) (s := s) ?_ hk g
  clear hk g s0 l
  delta State.cmpDisarm
  try beta_reduce
  try lift_lets -underBinder
  repeat' first
    | (intro x; first | (have hx : Keeps [Part.regs, .masts, .log, .lane, .pos, .queue, .field, .mem] s x := (by unfold x; (repeat' first | intro _ | (with_reducible first | assumption | exact Keeps.refl _ _ | apply Keeps.ite | apply Keeps.fold | apply State.cmpFire_keeps | apply State.putF_keeps) | lift_lets -underBinder | split | (clear_value *; split)) <;> first | rfl); clear_value x) | skip)
    | (with_reducible first | assumption | exact Keeps.refl _ _ | apply Keeps.ite | apply Keeps.fold | apply State.cmpFire_keeps | apply State.putF_keeps)
    | lift_lets -underBinder
    | split
    | (clear_value *; split)
  all_goals first | rfl

theorem State.passFrame_keeps {l : List Part} {s0 s : State} (a1 : Nat) (a2 : UnitFrame) (a3 : Bool)
    (hk : within [Part.regs, .writes, .ctl, .masts, .log, .key, .lane, .intake, .time, .fb, .app, .queue, .bridge, .stay, .net, .sup, .field, .upd, .panel, .mon, .mem] l = true) (g : Keeps l s0 s) : Keeps l s0 (State.passFrame s a1 a2 a3) := by
  refine Keeps.next (k := [Part.regs, .writes, .ctl, .masts, .log, .key, .lane, .intake, .time, .fb, .app, .queue, .bridge, .stay, .net, .sup, .field, .upd, .panel, .mon, .mem]) (s := s) ?_ hk g
  clear hk g s0 l
  delta State.passFrame
  try beta_reduce
  try lift_lets -underBinder
  repeat' first
    | (intro x; first | (have hx : Keeps [Part.regs, .writes, .ctl, .masts, .log, .key, .lane, .intake, .time, .fb, .app, .queue, .bridge, .stay, .net, .sup, .field, .upd, .panel, .mon, .mem] s x := (by unfold x; (repeat' first | intro _ | (with_reducible first | assumption | exact Keeps.refl _ _ | apply Keeps.ite | apply Keeps.fold | apply State.judgeDigests_keeps | apply State.sendFrame_keeps | apply State.dropFrame_keeps | apply State.setUnit_keeps | apply State.incF_keeps) | lift_lets -underBinder | split | (clear_value *; split)) <;> first | rfl); clear_value x) | skip)
    | (with_reducible first | assumption | exact Keeps.refl _ _ | apply Keeps.ite | apply Keeps.fold | apply State.judgeDigests_keeps | apply State.sendFrame_keeps | apply State.dropFrame_keeps | apply State.setUnit_keeps | apply State.incF_keeps)
    | lift_lets -underBinder
    | split
    | (clear_value *; split)
  all_goals first | rfl

theorem after_keeps {l : List Part} {s0 s u : State} {r : Result} (e : r = .next u) (h : Keeps l s0 u) : Keeps l s0 (after r s) := by
  subst e; exact h

theorem State.formEngineTime_keeps {l : List Part} {s0 s : State}
    (hk : within [Part.field] l = true) (g : Keeps l s0 s) : Keeps l s0 (State.formEngineTime s) := by
  refine Keeps.next (k := [Part.field]) (s := s) ?_ hk g
  clear hk g s0 l
  delta State.formEngineTime
  try beta_reduce
  try lift_lets -underBinder
  repeat' first
    | (intro x; first | (have hx : Keeps [Part.field] s x := (by unfold x; (repeat' first | intro _ | (with_reducible first | assumption | exact Keeps.refl _ _ | apply Keeps.ite | apply Keeps.fold) | lift_lets -underBinder | split | (clear_value *; split) | (with_reducible apply Keeps.upd_field)) <;> first | rfl); clear_value x) | skip)
    | (with_reducible first | assumption | exact Keeps.refl _ _ | apply Keeps.ite | apply Keeps.fold)
    | lift_lets -underBinder
    | split
    | (clear_value *; split)
    | (with_reducible apply Keeps.upd_field)
  all_goals first | rfl

theorem State.noJoin_keeps {l : List Part} {s0 s : State}
    (hk : within [Part.regs] l = true) (g : Keeps l s0 s) : Keeps l s0 (State.noJoin s) := by
  refine Keeps.next (k := [Part.regs]) (s := s) ?_ hk g
  clear hk g s0 l
  delta State.noJoin
  try beta_reduce
  repeat' first
    | intro _
    | (with_reducible first | assumption | exact Keeps.refl _ _ | apply Keeps.ite | apply Keeps.fold | apply State.showPhase_keeps)
    | split
    | (clear_value *; split)
  all_goals first | rfl

theorem State.passOver_keeps {l : List Part} {s0 s : State}
    (hk : within [Part.log] l = true) (g : Keeps l s0 s) : Keeps l s0 (State.passOver s) := by
  refine Keeps.next (k := [Part.log]) (s := s) ?_ hk g
  clear hk g s0 l
  delta State.passOver
  try beta_reduce
  try lift_lets -underBinder
  repeat' first
    | (intro x; first | (have hx : Keeps [Part.log] s x := (by unfold x; (repeat' first | intro _ | (with_reducible first | assumption | exact Keeps.refl _ _ | apply Keeps.ite | apply Keeps.fold) | lift_lets -underBinder | split | (clear_value *; split) | (with_reducible apply Keeps.upd_log)) <;> first | rfl); clear_value x) | skip)
    | (with_reducible first | assumption | exact Keeps.refl _ _ | apply Keeps.ite | apply Keeps.fold)
    | lift_lets -underBinder
    | split
    | (clear_value *; split)
    | (with_reducible apply Keeps.upd_log)
  all_goals first | rfl

theorem State.quadratureError_keeps {l : List Part} {s0 s : State} (a1 : Nat)
    (hk : within [Part.regs, .log, .pos, .sup] l = true) (g : Keeps l s0 s) : Keeps l s0 (State.quadratureError s a1) := by
  refine Keeps.next (k := [Part.regs, .log, .pos, .sup]) (s := s) ?_ hk g
  clear hk g s0 l
  delta State.quadratureError
  try beta_reduce
  try lift_lets -underBinder
  repeat' first
    | (intro x; first | (have hx : Keeps [Part.regs, .log, .pos, .sup] s x := (by unfold x; (repeat' first | intro _ | (with_reducible first | assumption | exact Keeps.refl _ _ | apply Keeps.ite | apply Keeps.fold | apply State.incF_keeps | apply State.spQerr_keeps | apply State.raiseLimited_keeps) | lift_lets -underBinder | split | (clear_value *; split) | (with_reducible apply Keeps.upd_pos)) <;> first | rfl); clear_value x) | skip)
    | (with_reducible first | assumption | exact Keeps.refl _ _ | apply Keeps.ite | apply Keeps.fold | apply State.incF_keeps | apply State.spQerr_keeps | apply State.raiseLimited_keeps)
    | lift_lets -underBinder
    | split
    | (clear_value *; split)
    | (with_reducible apply Keeps.upd_pos)
  all_goals first | rfl

theorem State.inputInvalid_keeps {l : List Part} {s0 s : State} (a1 : Nat)
    (hk : within [Part.log, .field] l = true) (g : Keeps l s0 s) : Keeps l s0 (State.inputInvalid s a1) := by
  refine Keeps.next (k := [Part.log, .field]) (s := s) ?_ hk g
  clear hk g s0 l
  delta State.inputInvalid
  try beta_reduce
  try lift_lets -underBinder
  repeat' first
    | (intro x; first | (have hx : Keeps [Part.log, .field] s x := (by unfold x; (repeat' first | intro _ | (with_reducible first | assumption | exact Keeps.refl _ _ | apply Keeps.ite | apply Keeps.fold | apply State.raise_keeps | apply State.inputChange_keeps | apply State.pairDiscrepancy_keeps) | lift_lets -underBinder | split | (clear_value *; split)) <;> first | rfl); clear_value x) | skip)
    | (with_reducible first | assumption | exact Keeps.refl _ _ | apply Keeps.ite | apply Keeps.fold | apply State.raise_keeps | apply State.inputChange_keeps | apply State.pairDiscrepancy_keeps)
    | lift_lets -underBinder
    | split
    | (clear_value *; split)
  all_goals first | rfl

theorem State.writeStore_keeps {l : List Part} {s0 s : State} (a1 : Sys2Proof.Mast → List Sys2Proof.Byte)
    (hk : within [Part.masts, .mem] l = true) (g : Keeps l s0 s) : Keeps l s0 (State.writeStore s a1) := by
  refine Keeps.next (k := [Part.masts, .mem]) (s := s) ?_ hk g
  clear hk g s0 l
  delta State.writeStore
  try beta_reduce
  try lift_lets -underBinder
  repeat' first
    | (intro x; first | (have hx : Keeps [Part.masts, .mem] s x := (by unfold x; (repeat' first | intro _ | (with_reducible first | assumption | exact Keeps.refl _ _ | apply Keeps.ite | apply Keeps.fold | apply Keeps.setMem) | lift_lets -underBinder | split | (clear_value *; split)) <;> first | rfl | (have hh := ‹canonical _›; simp only [Memory.wf_writeBytes, Memory.wf_writeBank, Memory.wf_erase, Memory.wf_markRange, Memory.wf_setErr, Memory.wf_clearSilence, Memory.wf_takeRange, Memory.wf_writeStore, Memory.wf_writeRecord, Memory.wf_putCells, hh.2])); clear_value x) | skip)
    | (with_reducible first | assumption | exact Keeps.refl _ _ | apply Keeps.ite | apply Keeps.fold | apply Keeps.setMem)
    | lift_lets -underBinder
    | split
    | (clear_value *; split)
  all_goals first | rfl | (have hh := ‹canonical _›; simp only [Memory.wf_writeBytes, Memory.wf_writeBank, Memory.wf_erase, Memory.wf_markRange, Memory.wf_setErr, Memory.wf_clearSilence, Memory.wf_takeRange, Memory.wf_writeStore, Memory.wf_writeRecord, Memory.wf_putCells, hh.2])

end Sys2Proof.Machine
end

