-- ==== Sys2Proof/Machine/Leds.lean ====
section
/-!
DEFINITION. The front-panel LEDs (R441): what each of them shows, from the state at least two masts agree on.
-/
namespace Sys2Proof.Machine

/-- The LEDs of the front panel: one per mast, RUN, SAFE, SEAL and LINK 1 to 4. -/
inductive LedName where
  | mast (m : Mast)
  | run
  | safe
  | sealed
  | link (port : Nat)
  deriving DecidableEq, Repr

/-- The colours of the table of R441. -/
inductive LedColour where
  | green | yellow | red
  deriving DecidableEq, Repr

/-- What an LED shows: nothing; light in a colour the spec does not give, as in the lamp test; a colour; a colour flashing `hz` times
a second at 50 % duty; or a colour for 50 ms every 5 s. (DESIGN CHOICE, log entry 134) -/
inductive LedShow where
  | off
  | lit
  | steady (c : LedColour)
  | flash (c : LedColour) (hz : Nat)
  | wink (c : LedColour)
  deriving DecidableEq, Repr

/-- The lamp test of step 2 of R29: 100 ms from the release of reset. -/
def State.lampTest (s : State) : Bool :=
  s.ctl.mode == .boot && decide (s.releasedFrom ≤ s.now ∧ s.now < s.releasedFrom + 100 * ms)

/-- MAST A, B, C and J: voting; isolated or fail-silent; powered and not yet voting; unpowered. -/
def State.mastLed (s : State) (m : Mast) : LedShow :=
  if s.votes m && (s.mast m).alive then .steady .green
  else if s.lane.isolated.get m || (s.mast m).silent then .steady .red
  else if (s.mast m).powered then .flash .green 2
  else .off

/-- RUN: the mode. -/
def State.runLed (s : State) : LedShow :=
  match s.ctl.mode with
  | .run => .steady .green
  | .stop => .flash .green 1
  | .hold => .flash .green 4
  | .service => .steady .yellow
  | .boot => .flash .yellow 1
  | .recovery => .flash .yellow 4
  | .standby => .wink .green
  | .safe => .off

/-- SAFE: the mode, or one further fault leads to it. -/
def State.safeLed (s : State) : LedShow :=
  if s.ctl.mode = .safe then .steady .red
  else if s.lane.lane = .duplex ∧ s.getF .agreed fLmStatSpare = 0 then .flash .red 1
  else .off

/-- SEAL: MC_INHIBIT.SEAL (R65), or what the polls have found since BOOT (R67). -/
def State.sealLed (s : State) : LedShow :=
  if s.getF .agreed fMcInhibitSeal = 1 then .steady .red else if s.key.tampered then .flash .red 1 else .off

/-- LINK 1 to 4: the port's link, dark for 30 ms at a frame. -/
def State.linkLed (s : State) (p : Nat) : LedShow :=
  let dark := match s.panel.dark[p - 1]?.getD none with | some d => decide (s.now < d + 30 * ms) | none => false
  if !s.net.portEnabled p || dark then .off
  else match s.getF .agreed (npF fNpStatSpeed p) with
    | 2 => .steady .green
    | 1 => .steady .yellow
    | _ => .off

/-- What an LED shows (R441): nothing without power or while reset is held. (DESIGN CHOICE, log entry 134) -/
def State.led (s : State) (l : LedName) : LedShow :=
  if !s.ctl.on || s.panel.holding then .off
  else if s.lampTest then .lit
  else if s.ctl.mode = .standby then (if l = .run then s.runLed else .off)
  else match l with
    | .mast m => s.mastLed m
    | .run => s.runLed
    | .safe => s.safeLed
    | .sealed => s.sealLed
    | .link p => s.linkLed p

end Sys2Proof.Machine
end

