-- ==== Sys2Proof/WellFormed.lean ====
section
/-!
DEFINITION. Which commands are well formed: every number lies in the range the manual gives the thing it names. The machine
takes ill-formed commands too (they find nothing to act on), so no statement needs this beyond naming real things.
-/
namespace Sys2Proof

/-- A header's fields fit their widths, and the value is no longer than LEN says (R134). -/
def Item.wf (i : Item) : Bool :=
  decide (i.source < 2 ^ 16 ∧ i.seq < 2 ^ 16 ∧ i.crc < 2 ^ 32 ∧ i.esec < 2 ^ 32 ∧ i.ens < 1000000000 ∧ i.len < 2 ^ 16) &&
    (if i.trunc then decide (i.value.length < i.len) else decide (i.value.length = i.len))

/-- What one mast reads of the slot key: the seal word has 40 bits (R64). -/
def KeyRead.wf (k : KeyRead) : Bool := !k.answered || decide (k.sealWord.length = 5)

/-- The surroundings of a start name real things: five slot-id pins, and at most six OTP key slots with a revocation bit each (R396). -/
def BootEnv.wf (e : BootEnv) : Bool :=
  e.keys.a.wf && e.keys.b.wf && e.keys.c.wf && e.keys.j.wf && decide (e.pins < 32) && decide (e.otpKeys.length ≤ 6) && decide (e.revoked < 64)

/-- A flipped bit is one of the 72 of a word (R376). -/
def MemFinding.wf : MemFinding → Bool
  | .single b => decide (b < 72)
  | _ => true

/-- Register space lies from 0xE0000000 to 0xE010FFFF; a register access is aligned (R7, R77). -/
def registerAddr (a : Nat) : Bool := decide (0xE0000000 ≤ a ∧ a ≤ 0xE010FFFF) && decide (a % 4 = 0)

/-- Sizes of an access by a triad. -/
def accessSize (n : Nat) : Bool := decide (1 ≤ n ∧ n ≤ 8)

/-- Axles 1 and 2 (R170). -/
def axleNumber (n : Nat) : Bool := n == 1 || n == 2

/-- Outputs 1 to 24 (R227). -/
def outputNumber (n : Nat) : Bool := decide (1 ≤ n ∧ n ≤ 24)

/-- Slot numbers are what five slot-id pins give, 0 being invalid (`SL_SLOTID`). -/
def slotNumber (n : Nat) : Bool := decide (1 ≤ n ∧ n ≤ 31)

/-- Dirty cache lines start at multiples of 64 bytes and are that long (R346). -/
def lines (l : List (Nat × List Byte)) : Bool := l.all fun e => decide (e.1 % 64 = 0) && decide (e.2.length = 64)

/-- Is a command well formed? -/
def Instr.wf : Instr → Bool
  | .registerWrite _ _ _ addr _ => registerAddr addr
  | .misalignedRegisterAccess _ _ _ addr size => decide (addr < 2 ^ 32) && accessSize size && (decide (addr % 4 ≠ 0) || decide (size ≠ 4))
  | .unmappedAccess _ _ _ addr => decide (addr < 2 ^ 32)
  | .readOnlyRegionWrite _ _ _ addr => decide (addr < 2 ^ 32)
  | .reservedAreaWrite _ _ _ addr => decide (addr < 2 ^ 32)
  | .triadCFencedWrite _ _ addr => decide (addr < 2 ^ 32)
  | .summaryEventPeriodEnd _ code _ => decide (code < 2 ^ 16)
  | .actionInstant _ => true
  | .commitPoint _ => true
  | .outputImageSubmit _ _ items _ => items.all Item.wf
  | .cycleEndMark _ _ _ => true
  | .powerOn _ env => env.wf
  | .bootTokenWindowEnd _ _ => true
  | .autostart _ => true
  | .buttonContactClose _ => true
  | .buttonDebounceExpiry _ => true
  | .buttonContactRelease _ env => env.wf
  | .buttonStuckExpiry _ env => env.wf
  | .buttonOpenExpiry _ => true
  | .recoveryBreakBegin _ => true
  | .recoveryBreakExpiry _ => true
  | .recoveryBreakEnd _ => true
  | .start _ _ => true
  | .startCold _ _ => true
  | .stop _ _ => true
  | .hold _ _ => true
  | .resume _ _ => true
  | .standby _ _ => true
  | .service _ _ => true
  | .leave _ _ => true
  | .reset _ _ env => env.wf
  | .holdTimeout _ => true
  | .wakeEvent _ src _ _ env => decide (src < 4) && env.wf
  | .standbyMastFault _ env => env.wf
  | .sealPoll _ word => decide (word.length = 5)
  | .appFetchRequest _ => true
  | .appFetchServe _ slot hash => slotNumber slot && decide (hash.length = 48)
  | .appFetchReceived _ _ _ _ _ _ env => env.wf
  | .mastSupervisionFault _ _ _ => true
  | .dieTemperatureCrossing _ _ _ => true
  | .triadVoteDisagree _ _ _ _ _ _ => true
  | .voterHalfMismatch _ _ _ bit => decide (bit < 64)
  | .delayStageParityError _ _ _ _ core _ _ => decide (core < 3)
  | .resyncSelftestDone _ _ _ _ => true
  | .resyncPoint _ _ _ _ => true
  | .lockstepTimeout _ _ _ => true
  | .lastWordReceived _ obs snd record => decide (obs ≠ snd) && decide (record.length = 32)
  | .tdInjectOutputBit _ _ _ _ core => decide (core < 3)
  | .tdInjectInputParity _ _ _ _ core => decide (core < 3)
  | .tdInjectOutputParity _ _ _ _ core => decide (core < 3)
  | .tdInjectVoter _ _ _ _ core => decide (core < 3)
  | .tdSilclr _ _ _ => true
  | .heartbeatSend _ _ => true
  | .hb1BeatReceived _ obs peer bytes => decide (obs ≠ peer) && decide (bytes.length = 32)
  | .hb2Edge _ obs peer => decide (obs ≠ peer)
  | .heartbeatMissed _ obs peer _ _ => decide (obs ≠ peer)
  | .isolationPowerCheck _ percent _ => decide (percent ≤ 100)
  | .joinReady _ _ => true
  | .joinReadyTimeout _ => true
  | .joinEntryTimeout _ => true
  | .checkpointPageRecord _ _ r => decide (r.region < 8) && decide (r.data.length = 4096)
  | .frameDigestDeposit _ _ u f => decide (u < 8) && f.item.wf
  | .frameUnconfirmedTimeout _ u _ _ _ => decide (u < 8)
  | .frameLaunch _ u port _ => decide (u < 8) && decide (port < 3)
  | .normalHandover _ u => decide (u < 8)
  | .itemArrival _ _ item => item.wf
  | .proposalSend _ _ _ => true
  | .proposalReceived _ _ bytes => decide (16 ≤ bytes.length)
  | .closeTimeout _ obs peer => decide (obs ≠ peer)
  | .fillReceived _ _ item => item.wf
  | .fillDeadline _ _ => true
  | .intakeRelease _ => true
  | .readAnswerTimeout _ _ => true
  | .ptpMessage _ _ port proto _ => (port == 1 || port == 2 || port == 3 || port == 4) && (proto == 1 || proto == 2)
  | .timeSourceLost _ => true
  | .tbOffsetWrite _ _ _ => true
  | .forcedStep _ _ _ => true
  | .initialAcquisition _ _ _ => true
  | .timeBandCheck _ _ _ => true
  | .tbTsqpop _ _ _ port => decide (1 ≤ port ∧ port ≤ 4)
  | .tbNownsRead _ _ _ => true
  | .tbPosloRead _ _ _ ax => axleNumber ax
  | .edgeLogQuery _ _ _ => true
  | .tachoEdge _ ax channel _ => axleNumber ax && decide (channel < 2)
  | .timeComparatorFire _ _ => true
  | .tbCmpcfgWrite _ _ n _ => decide (n < 64)
  | .fbSlotTransmit _ b _ _ => decide (b < 2)
  | .fbFrameReceived _ b ch _ _ _ _ _ => decide (b < 2) && decide (ch < 2)
  | .fbSlotReport _ b => decide (b < 2)
  | .fbIntegrateDone _ b => decide (b < 2)
  | .fbRecoverDone _ b => decide (b < 2)
  | .fbTestOn _ b _ => decide (b < 2)
  | .fbTestOff _ b _ => decide (b < 2)
  | .fbNodeLost _ b node => decide (b < 2) && decide (1 ≤ node ∧ node ≤ 127)
  | .fbNodeExcluded _ b node => decide (b < 2) && decide (1 ≤ node ∧ node ≤ 127)
  | .fbNodeReadmitted _ b node => decide (b < 2) && decide (1 ≤ node ∧ node ≤ 127)
  | .fbGrantWithdraw _ b _ => decide (b < 2)
  | .fbGrantIdleExpiry _ b _ => decide (b < 2)
  | .fbChannelFault _ b ch => decide (b < 2) && decide (ch < 2)
  | .commandFrameSend _ _ damaged => damaged.all outputNumber
  | .commandFrameReceived _ _ _ => true
  | .configFrameReceived _ _ _ => true
  | .inputFrameSend _ => true
  | .inputFrameReceived _ _ _ => true
  | .currentLimitExpiry _ o _ => outputNumber o
  | .thermalTrip _ o => outputNumber o
  | .thermalRetry _ o => outputNumber o
  | .readbackCheck _ o _ mid branches _ _ => outputNumber o && decide (mid < 8) && decide (branches < 8)
  | .switchTestStart _ o branch => outputNumber o && decide (branch < 3)
  | .testStepEnd _ _ _ => true
  | .darkPulseStart _ o => outputNumber o
  | .darkPulseEnd _ _ _ => true
  | .linkSilenceDetect _ _ _ => true
  | .linkSilenceTimeout _ _ => true
  | .mastInputFrameTimeout _ _ => true
  | .inputFilterAccept _ index _ => decide (1 ≤ index ∧ index ≤ 48)
  | .inputInvalid _ index => decide (1 ≤ index ∧ index ≤ 48)
  | .pairDiscrepancyTimeout _ p => decide (1 ≤ p ∧ p ≤ 24)
  | .fieldSupplyChange _ n st => decide (n < 4) && decide (st < 3)
  | .queuedChangeClear _ _ n => decide (n < 16)
  | .zeroSpeedDeclare _ => true
  | .slipEndExpiry _ => true
  | .odoSlipExpiry _ => true
  | .speedConfirmExpiry _ n => decide (1 ≤ n ∧ n ≤ 8)
  | .limitDelayExpiry _ n => decide (1 ≤ n ∧ n ≤ 8)
  | .spAckWrite _ _ _ => true
  | .spRefclrWrite _ _ _ => true
  | .appCycleStart _ _ => true
  | .cycleLimitExpiry _ _ => true
  | .applicationException _ _ _ _ => true
  | .onlineChangeRequest _ _ _ items => decide (items.length ≤ 16)
  | .retainWriteDone _ _ _ => true
  | .scWatchdogExpiry _ _ => true
  | .networkFrameReceived _ p _ _ => decide (1 ≤ p ∧ p ≤ 4)
  | .prpEntryForget _ iface mac seq => (iface == 1 || iface == 2) && decide (mac < 2 ^ 48) && decide (seq < 2 ^ 16)
  | .linkChange _ p speed _ _ => decide (1 ≤ p ∧ p ≤ 4) && decide (speed < 3)
  | .pdPublish _ _ => true
  | .pdPullRequest _ _ => true
  | .mdRequest _ _ => true
  | .mdReplyTimeout _ _ => true
  | .ringProduce _ _ n _ => decide (n < 128)
  | .ringConsume _ _ n _ => decide (n < 128)
  | .poolReturn _ _ _ => true
  | .transmitDescriptor _ _ n outcome => decide (n < 128) && decide (outcome < 5)
  | .dmaDoorbell _ _ n => decide (n < 32)
  | .dmaDescriptorComplete _ _ n _ => decide (n < 32)
  | .dmaTargetError _ _ n _ _ => decide (n < 32)
  | .dmaStoppedClear _ _ n => decide (n < 32)
  | .cacheClean _ _ _ dirty => lines dirty
  | .cacheInvalidate _ _ _ dirty => lines dirty
  | .cacheCleanInvalidate _ _ _ dirty => lines dirty
  | .cacheOpDone _ _ _ => true
  | .barrier _ _ _ => true
  | .rackOutboundAccess _ _ _ addr size _ _ => decide (addr < 2 ^ 32) && accessSize size
  | .rackTargetRetry _ => true
  | .rackTransactionComplete _ _ ad _ => decide (ad < 2 ^ 32)
  | .rackTransactionTimeout _ => true
  | .rackUnconfirmedTimeout _ => true
  | .bbPwepop _ _ => true
  | .rackInboundWrite _ raddr be ad _ => decide (raddr < 2 ^ 32) && decide (be < 16) && decide (ad < 2 ^ 32)
  | .rackInboundRead _ raddr => decide (raddr < 2 ^ 32)
  | .exposeCommit _ _ mask seq => decide (mask < 16) && decide (seq < 2 ^ 16)
  | .exposeCopyDone _ => true
  | .intLinePoll _ levels => decide (levels < 256)
  | .sidebandPoll _ results => decide (results.length ≤ 32)
  | .stayLinkFrameReceived _ _ _ _ => true
  | .presenceSend _ => true
  | .memberTimeout _ slot => slotNumber slot
  | .masterTakeover _ slot => slotNumber slot
  | .ringWrap _ neighbour _ => slotNumber neighbour
  | .ringUnwrap _ neighbour _ => slotNumber neighbour
  | .linkdelayExchange _ _ _ => true
  | .sharedBlockSend _ => true
  | .memoryRead _ _ _ _ addr found => decide (addr < 2 ^ 32) && found.wf
  | .memoryPartialWrite _ _ _ addr bytes found => decide (addr < 2 ^ 32) && decide (1 ≤ bytes.length ∧ bytes.length ≤ 7) && found.wf
  | .scrubWord _ _ _ found => found.wf
  | .miInjectSingle _ _ _ _ bit => decide (bit < 72)
  | .miInjectDouble _ _ _ _ bit => decide (bit < 72)
  | .begin _ _ => true
  | .write _ _ => true
  | .updateReadback _ _ _ => true
  | .abort _ _ => true
  | .updateIdleTimeout _ => true
  | .activate _ _ _ _ env => env.wf
  | .activateNoJury _ _ env => env.wf
  | .confirm _ _ => true
  | .confirmWindowExpiry _ env => env.wf
  | .revoke _ _ => true
  | .keyprog _ _ => true
  | .settings _ _ => true
  | .recoveryDownload _ via _ _ _ _ env => (via == 1 || via == 2) && env.wf
  | .syslogExport _ => true
  | .serviceLineReceived _ _ => true
  | .monHelp _ => true
  | .monId _ => true
  | .monStatus _ => true
  | .monLog _ => true
  | .monReg _ => true
  | .monIo _ => true
  | .monBus _ => true
  | .monNet _ => true
  | .monTime _ => true
  | .monSup _ => true
  | .monMem _ => true
  | .monKeys _ => true
  | .monAuth _ => true
  | .monResp _ => true
  | .monLogout _ => true
  | .monStart _ => true
  | .monStop _ => true
  | .monHold _ => true
  | .monResume _ => true
  | .monStandby _ => true
  | .monReset _ env => env.wf
  | .monService _ => true
  | .monLeave _ => true
  | .monForce _ => true
  | .monUnforce _ => true
  | .monSet _ => true
  | .monOut _ => true
  | .monBustest _ => true
  | .monInject _ => true
  | .monStep _ => true
  | .monSilclr _ => true
  | .monSyslog _ _ => true
  | .monUpdate _ => true
  | .monActivate _ _ _ env => env.wf
  | .monAbort _ => true
  | .monConfirm _ => true
  | .monKey _ => true
  | .authChallengeExpiry _ => true
  | .sessionIdleTimeout _ => true
  | .authLockoutEnd _ => true
  | .supplyLowExpiry _ _ => true
  | .supplyOverExpiry _ _ => true
  | .supplyOverRepeat _ _ => true
  | .supplyInterruptionBegin _ _ => true
  | .supplyInterruptionEnd _ _ _ => true
  | .holdupCharged _ => true
  | .holdupExhausted _ => true
  | .railTempCrossing _ _ _ => true
  | .tachSupplyLimit _ ax => axleNumber ax
  | .tachSupplyRetry _ ax => axleNumber ax
  | .powerDownWaitExpiry _ env => env.wf
  | .logicSupplyThreshold _ _ => true
  | .overrateEnd _ ax => axleNumber ax
  | .edgeLogQueryDone _ _ => true
  | .updateBlockWritten _ => true
  | .serviceTransferBlock _ f => decide (1 ≤ f.length)
  | .proposalRerequest _ _ pseq => decide (pseq < 2 ^ 16)
  | .fillRequest _ holder peer source seq => decide (holder ≠ peer) && decide (source < 2 ^ 16) && decide (seq < 2 ^ 16)
  | .pageRecordRequest _ _ region _ => decide (region < 8)

end Sys2Proof
end

