-- ==== Sys2Proof/Tests/Slice0.lean ====
section
/-!
SUPPORT. Tests: an ill-formed command for each check of `Instr.wf`, single steps with results worked out from the spec, and for each
statement with hypotheses concrete states and operands that meet them.
-/
namespace Sys2Proof.Tests

open Sys2Proof Sys2Proof.Machine Sys2Proof.Safety

section

set_option Elab.async false

/-! ## States the tests start from -/

/-- A mast with supply, its triads running. -/
def mastOn : MastState := { powered := true }

/-- The module in a mode, masts A, B and C running in TRIPLEX, the timebases seeded. -/
def upIn (m : Mode) : State :=
  { State.reset with
    ctl := { State.reset.ctl with mode := m, on := true }
    masts := ⟨mastOn, mastOn, mastOn, {}⟩
    time := { State.reset.time with seeded := true } }

def runState : State := upIn .run
def stopState : State := upIn .stop
def cleanStop : State := stopState.setReg .agreed rMcInhibit 0
def serviceState : State := upIn .service
def bootState : State := upIn .boot
def limitState : State := (runState.putF .agreed fTdCtrlResyncLimit 4)
def resyncOf (tested : Bool) : State := { runState with masts := runState.masts.set .a { mastOn with triadC := { resync := some ⟨0, 0, 0, tested⟩ } } }
def resyncState : State := resyncOf false
def testedState : State := resyncOf true
def serviceInject : State := serviceState.putF .agreed fTdCtrlResyncLimit 4
def holdState : State := (runState.putF .agreed fMcCtrlHoldPermit 1).putF .agreed fSpStatZero 1
def scrubState : State := { runState with masts := runState.masts.set .a { mastOn with dramScrub := true } }.putF (.mast .a) fMiDramposAddr 0x8000000
def injectState : State := serviceState.putF .agreed fMiInjaddrAddr 0x8000000
def handoverState : State := runState.setUnit 0 { owner := .a, pendingTo := some .b }
def twoStates (x y z : Submitted) : State := { runState with lane := { runState.lane with images := ⟨some x, some y, some z, none⟩ } }
def commitState : State := twoStates ⟨7, 9, [], 0, 0⟩ ⟨7, 9, [], 0, 0⟩ ⟨7, 9, [], 0, 0⟩
def commitStateThird : State := twoStates ⟨7, 9, [], 0, 0⟩ ⟨7, 9, [], 0, 0⟩ ⟨7, 10, [], 0, 0⟩
def startableState : State := { runState with app := { runState.app with run := .running, released := some 5 } }
def cycleState : State := { runState with app := { runState.app with run := .running, inCycle := ⟨some 1, some 1, some 1, none⟩, last := ⟨1, 1, 1, 0⟩, cycle := 1 } }.putF .agreed fMcCyclimLimitMs 20
def submittedState : State := { cycleState with app := { cycleState.app with sub := ⟨1, 1, 1, 0⟩ } }
def loadedRunState : State := { runState with app := { runState.app with desc := some ⟨0, 20, 0, 0, 0, []⟩ } }
def retainState : State := { runState with app := { runState.app with retain := runState.app.retain.set .a { writing := some (0, false, 1, []) } } }
def plainEnv : BootEnv :=
  { selftest := Per.all true, checkers := Per.all 0, keys := Per.all ⟨false, [], []⟩, pins := 0, serial := 0, otpKeys := [], revoked := 0
    button := false, settings := ⟨(0, 0), [], none, false, [], []⟩, symbols := [], initial := [], overran := 0, statics := [], constants := [] }
def pressedState : State := { runState with panel := { runState.panel with holding := true, closed := some 0 } }
def closedState : State := { runState with panel := { runState.panel with closed := some 0 } }
def openState : State := { runState with panel := { runState.panel with opened := some 0 } }
def breakState : State := { bootState with panel := { bootState.panel with breakFrom := some 0 } }
def autoState : State := ({ stopState with panel := { stopState.panel with autoDue := true } }.putF .agreed fMcCtrlAutostart 1).setReg .agreed rMcInhibit 0
def heldState : State := upIn .hold
def isoState (d : Nat) : State := { runState with lane := { runState.lane with lane := .duplex, active := ⟨true, true, false, false⟩, isolation := some ⟨.c, .c, 0, 0, d⟩ } }
def joinOf (j : Join) : State :=
  { runState with
    masts := ⟨mastOn, mastOn, { mastOn with powered := false, isolated := true }, mastOn⟩
    lane := { runState.lane with lane := .joining, active := ⟨true, true, false, false⟩, join := some j } }
def joinState : State := joinOf { target := .c, onset := 0, phase := 4 }
def bulkState : State := joinOf { target := .c, onset := 0, phase := 5 }
def bulkPages : State := bulkState.putF .agreed fLmCklenPages 2
def otherRound : State := joinOf { target := .c, onset := 0, phase := 5, bulkEnded := ⟨false, true, false, false⟩ }
def standbyReady : State := (stopState.putF .agreed fSpStatZero 1).putF .agreed fMcWakecfgWakenEn 1
def fetchMasterState : State := stopState.putF .agreed fSlStatRole 2
def plainFrame : TxFrame := ⟨1, ⟨0x2000, 1, 0, 0, 0, 0, false, false, []⟩, [1, 2, 3], none, 0, 0, none, false⟩
def tagged : Item := { (⟨0x2000, 1, 0, 0, 0, 0, false, false, []⟩ : Item) with crc := (⟨0x2000, 1, 0, 0, 0, 0, false, false, []⟩ : Item).goodCrc }
def goodFrame : TxFrame := { plainFrame with item := tagged }
def unitOf (deps : Per (Option Nat)) : State :=
  { runState with lane := { runState.lane with mute := false } }.setUnit 2 { owner := .a, queue := [⟨goodFrame, 0, deps, ⟨some goodFrame, none, none, none⟩⟩] }
def quietUnits : State := { runState with lane := { runState.lane with mute := false } }
def outsideState : State := { runState with time := { runState.time with outside := ⟨1, 0, 0, 0⟩ } }
def keyWithFetch : List Byte := (List.range 128).map fun i => if i = 0xC then 1 else if i = 0x20 then 3 else if i = 0x24 then 0x40 else if i = 0x28 then 0x38 else if i = 0x74 then 1 else 0
def fetchState : State :=
  ((({ stopState with key := { stopState.key with image := keyWithFetch }, time := { stopState.time with lastAiLocal := 1 } }).putF .agreed fMcInhibitAppMismatch 1).putF
    .agreed fSlStatRole 1).putF .agreed fSlStatMaster 5
def asleepState : State := (upIn .standby).putF .agreed fMcWakecfgWakenEn 1
def depositedUnit : State := unitOf ⟨some (frameDigest [1, 2, 3]), some (frameDigest [1, 2, 3]), none, none⟩
def aloneUnit : State := unitOf ⟨some (frameDigest [1, 2, 3]), none, none, none⟩
def ringState (n : Nat) : State := (((runState.putF (.mast .a) (ringF fQmRingBaseBase n) (0x10000000 / 32)).putF (.mast .a) (ringF fQmRingCfgEnable n) 1).putF (.mast .a) (ringF fQmRingCfgSize n) 4).putF (.mast .a) (ringF fQmRingProdProd n) 1
def fieldItem : Item := { (⟨0x0101, 1, 0, 0, 0, 0, false, false, []⟩ : Item) with crc := (⟨0x0101, 1, 0, 0, 0, 0, false, false, []⟩ : Item).goodCrc }
def intakeOf (x : IntakePart) : State := { runState with intake := x }
def stagedState : State := intakeOf { masts := ⟨{ staged := [⟨fieldItem, 0, 0, false, none⟩] }, {}, {}, {}⟩ }
def releasing : State := intakeOf { agreed := [fieldItem], instant := some (4, 0), releasePending := true }
def peersLate : State := intakeOf { instant := some (4, 0), releasePending := true }
def needOf : FillNeed := ⟨0x0101, 1, fieldItem.crc, 0, [.b, .c], false⟩
def needyState : State := intakeOf { masts := ⟨{ fills := [needOf] }, {}, {}, {}⟩, instant := some (4, 0), releasePending := true }
def pooledState : State := { needyState with queue := needyState.queue.set .a { free := [3, 4] } }
def sentState : State := intakeOf { masts := ⟨{ sent := [(7, [1]), (6, [2])] }, {}, {}, {}⟩ }
def rackTx (req : Option Nat) : OutTx :=
  { access := 0, off := 0, count := 4, last := true, window := 2, x := 0, raddr := 0x40, kind := 0, item := tagged
    deposits := ⟨true, true, false, false⟩, waiting := ⟨some .p, none, none, none⟩, formed := 0, req := req }
def rackState (x : OutTx) : State := { runState with bridge := { runState.bridge with txs := [x] } }.putF .agreed fBbStatState 2
def openRack : State := runState.putF .agreed fBbStatState 2
def winRack : State := (openRack.putF .agreed (owinF fBbOwinCfgEnable 0) 1).putF .agreed (owinF fBbOwinCfgWidth 0) 2
def inRack : State := (openRack.putF .agreed (owinF fBbIwinCfgEnable 1) 1).putF .agreed (owinF fBbIwinBaseRbase 1) 5
def answeredRack : State :=
  { openRack with bridge := { openRack.bridge with
      done := [rackTx (some 0)]
      answers := [⟨Item.form 0x3002 0 0 (answerValue 0 0 0 0x40 tagged.tag), ⟨true, false, false, false⟩, 0⟩] } }
def pweState : State := { runState with bridge := { runState.bridge with pwe := [⟨3, 1, 0x44, 0x500000002, 7000000009⟩, ⟨4, 2, 0, 0, 0⟩] } }
def copyState : State := { runState with bridge := { runState.bridge with copying := some (1, 77) } }
def slaveState : State := { runState with time := { runState.time with roles := [0, 1, 0, 0], protocol := 1 } }
def acquiring : State := slaveState.putF .agreed fTbStatState 1
def lockedState : State := { runState with time := { runState.time with following := true } }.putF .agreed fTbStatState 2
def stampState : State := { runState with time := { runState.time with stamps := [{}, { queue := ⟨[⟨5, 7000000009, 0⟩], [], [], []⟩ }, {}, {}] } }
def countingState : State := { runState with pos := { runState.pos with counting := true } }
def queryState : State := { runState with pos := { runState.pos with query := ⟨some 0, none, none, none⟩ }, time := { runState.time with tb := Per.all (9000000000 * 2 ^ 32) } }.putF (.mast .a) fTbPqsecValue 9
def stepState : State := stopState.putF .agreed fTbStepsloValue 5
def overState : State := { runState with pos := { runState.pos with front1 := { recent := [], overRate := true } } }
def timerState : State := { (((runState.setReg (.mast .a) (rTbCmpcfg + 0x20 * 3) 0).putF (.mast .a) (cmpF fTbCmpcfgSrc 3) 1).putF (.mast .a) (cmpF fTbCmpcfgArm 3) 1) with time := { runState.time with tb := Per.all (9 * 2 ^ 32) } }
def doorSched : FbSchedule :=
  { schedId := 9, nodeTimeout := 2, cycleUs := 1000, releaseCycles := 16, claimSlot := 4, nodes := [(5, false)]
    slots := [⟨0, .cycleStart, 0, 32, 0, false, 0⟩, ⟨1, .masterOut, 5, 4, 600, false, 0⟩, ⟨2, .nodeIn, 5, 4, 1000, false, 0⟩,
      ⟨3, .spareIn, 0, 4, 1400, false, 0⟩, ⟨4, .claim, 0, 8, 1800, false, 0⟩] }
def doorValue : List Byte := natLe 2 0 ++ [2, 0] ++ List.replicate 64 0
def doorFrameItem (ch slot code : Nat) : Item := Item.form (0x2000 + 0x80 * ch + slot) 0 0 (natLe 1 code ++ List.replicate 3 0)
def doorOf (x : FbBus) (l : List Item) : State :=
  { runState with
    fb := { bus0 := { x with sched := some doorSched } }
    lane := { runState.lane with mute := false }
    intake := { runState.intake with agreed := Item.form 0x2000 0 0 doorValue :: l, releasePending := true } }
def doorNormal : FbBus := { state := .normal, cycState := .normal }
def doorNode (n : FbNode) : FbBus := { doorNormal with nodes := [n] }
def doorView (l : List (Nat × Nat × List Byte)) : FbView := ⟨unpackCodes doorValue, [], true, 0, l⟩
def doorTiming : List Byte := natLe 2 0 ++ [2, 0] ++ [0, 4] ++ List.replicate 62 0
def plantOf (x : FieldPart) : State := { runState with field := { x with powered := true } }
def plainConfig : FieldConfig := ⟨20, 60, 0, List.replicate 48 10, List.replicate 24 {}, List.replicate 24 (0, false)⟩
def plant : State := plantOf { adopted := some plainConfig }
def outState (x : FieldOut) : State := plantOf { adopted := some plainConfig, outs := x :: List.replicate 23 {} }
def testState (x : FieldTest) : State := plantOf { adopted := some plainConfig, test := some x }
def onState : State :=
  plantOf { adopted := some plainConfig, regime := 1, posA := { link := some .a, cmd := 1 }, posB := { link := some .b, cmd := 1 }, outs := { voted := true } :: List.replicate 23 {} }
def invisibleState : State :=
  plantOf { adopted := some plainConfig, regime := 0, posA := { link := some .a, cmd := 1 }, posB := { link := some .b, cmd := 1 }, posC := { link := some .c, cmd := 1 },
            outs := { voted := true, carried := [some 0, some 0, some 0] } :: List.replicate 23 {} }
def pairState : State :=
  plantOf { adopted := some { plainConfig with pairs := ⟨1, 1, 2, 5⟩ :: List.replicate 23 {} }, pairs := ⟨.waitOn, 0, 0⟩ :: List.replicate 23 {}, time := 20000000 }
def queuedItems : State := plantOf { adopted := some plainConfig, queue := [fieldItem, fieldItem] }
def sealedPlant : State := plantOf { adopted := some plainConfig, adoptedCrc := (crc32c (List.replicate 32 0)).toNat, fsec := some plainConfig, body := List.replicate 32 0 }
def unsealedPlant : State := plantOf { fsec := some plainConfig, body := List.replicate 32 1 }
def answerFrame (seq : Nat) : List Byte :=
  let body : List Byte := [0x52, 0] ++ natLe 2 seq ++ natLe 4 0 ++ natLe 4 0 ++ natLe 4 0
  body ++ natLe 4 (crc32c body).toNat
def heardPlant : State := (plantOf { adopted := some plainConfig }).putF .agreed fFiCfgTimeout 20
def spParams : SpParams :=
  { step1 := 1048576, step2 := 1048576, dirSign := 0, refInput := 1, refEdge := 1, confirmMs := 1, tZeroMs := 500, stillDist := 200, slipMin := 100
    slipPct := 10, odoTimeS := 2, discAbs := 1000, discRel := 0, ackMode := 1, ackPair := 0, odoMask := 1, dirMask := 2, dirTol := 2000, pairUp := 0
    pairDown := 0, dirApp := true, limits := { mms := 100, always := true, mask := 1 } :: (List.replicate 6 {} ++ [{ mms := 700, delayMs := 5 }])
    windows := List.replicate 4 {}, setId := 1 }
def spState (x : SpMast) : State :=
  { runState with sup := { params := some spParams, masts := ⟨{ x with active := true }, { x with active := true }, {}, {}⟩ } }
def exportState (tokens : Nat) : State :=
  ({ runState with log := { runState.log with begun := true, entries := [⟨4096, ⟨5, 0, 1, 0, 0, false⟩⟩], seq := 4096, unsent := [4096], tokens := tokens } }.putF
    .agreed fElExportEnable 1).putF .agreed fElExportSevmax 7
def pubEntry : PdEntry := { comId := 77, dir := 1, station := 0, iface := 1, flags := 2, peer := 0, period := 10, timeoutMs := 0, phaseUs := 500, len := 4, telegram := 9, sc := 0xFFFF }
def safeConn : SafeConn := { connId := 3, dir := 2, maxGap := 4, maxAge := 20, watchdog := 50, key := [], expired := false, ever := true }
def netPort : NetPort := { speeds := 3, budget := 64, classes := List.replicate 8 { reserve := 2 } }
def netState : State :=
  { runState with
    net := { runState.net with enabled := true, ifaces := [{ mode := 1, ip := 5 }, { mode := 1, ip := 6 }], ports := List.replicate 4 netPort, pd := [pubEntry]
                               md := [⟨5, 0, 1, 1, 100, 64⟩], sc := [safeConn], prp := [[⟨0, 7, 0⟩], []] }
    lane := { runState.lane with inForce := [Item.form 0xC009 0 0 [1, 2, 3, 4]] } }
def ptpFrame : List Byte := List.replicate 12 0 ++ [0x88, 0xF7] ++ List.replicate 46 0
def prpFrame : List Byte := List.replicate 12 0 ++ [0x08, 0x00] ++ List.replicate 40 0 ++ [0, 7, 0xB0, 46, 0x88, 0xFB]
def ringHardState (n prod cons : Nat) : State :=
  (((runState.putF (.mast .a) (ringF fQmRingCfgEnable n) 1).putF (.mast .a) (ringF fQmRingCfgSize n) 4).putF (.mast .a) (ringF fQmRingProdProd n) prod).putF
    (.mast .a) (ringF fQmRingConsCons n) cons
def dmaDesc : List Byte :=
  natLe 4 1 ++ natLe 4 0 ++ natLe 4 0x40001000 ++ natLe 2 4 ++ natLe 2 1 ++ natLe 2 1 ++ natLe 2 0 ++ natLe 4 1 ++ natLe 4 0 ++ natLe 4 0
    ++ natLe 4 0x40002000 ++ natLe 2 4 ++ natLe 2 1 ++ natLe 2 1 ++ natLe 2 0 ++ natLe 4 1 ++ natLe 4 0 ++ natLe 4 0 ++ natLe 4 7 ++ natLe 4 0
def dmaBase (n : Nat) (desc : List Byte) (ch : DmaChannel) : State :=
  let s := ((runState.store .a 0x40000000 desc).store .a 0x40001000 [1, 2, 3, 4]).setQueue .a { channels := [ch] }
  let s := (s.putF (.mast .a) (dmaF fDmHeadAddr n) 0x1000000).putF (.mast .a) (dmaF fDmCtrlEnable n) 1
  let s := (s.putF (.mast .a) (dmaF fDmSrloAddr n) 0).putF (.mast .a) (dmaF fDmDrloAddr n) 0
  (s.putF (.mast .a) (dmaF fDmSrhiAddr n) 0xFFFFFFFF).putF (.mast .a) (dmaF fDmDrhiAddr n) 0xFFFFFFFF
def dmaIdleState : State := dmaBase 31 dmaDesc { n := 31 }
def dmaRunState : State := (dmaBase 31 dmaDesc { n := 31, addr := 0x40000000, bytes := dmaDesc }).setDma .a 31 1
def dmaStopState : State := (dmaBase 31 dmaDesc { n := 31, addr := 0x40000000, bytes := dmaDesc }).setDma .a 31 4
def dmaWaitState : State :=
  (((((runState.putF (.mast .a) (ringF fQmRingCfgEnable 95) 1).putF (.mast .a) (ringF fQmRingCfgSize 95) 4).putF (.mast .a) (ringF fQmRingProdProd 95) 16).setQueue .a
    { channels := [{ n := 31, record := some ([1], 4) }] }).setDma .a 31 3)
def cacheState (base len : Nat) (x : CacheUnit) : State :=
  ((runState.setQueue .a { cacheC := x }).putF (.triad .a .c) fQmCmbaseAddr base).putF (.triad .a .c) fQmCmlenLen len
def slMemberOf (slot rank master instants : Nat) : SlMember := ⟨slot, rank, master, 100, 1000, 0, 0, instants⟩
def stayOf (x : StayPart) (role master : Nat) : State :=
  (({ runState with stay := x }.putF .agreed fSlSlotidPins 3).putF .agreed fSlStatRole role).putF .agreed fSlStatMaster master
def stayState : State := stayOf { members := [slMemberOf 5 37 5 10, slMemberOf 6 6 5 64] } 1 5
def loneStay : State := stayOf { members := [slMemberOf 6 6 0 64] } 1 0
def blockStay : State := stayOf { queued := [⟨[1, 2, 3], ⟨true, true, false, false⟩⟩] } 1 5
def presence (slot : Nat) : List Byte :=
  slFrame 2 slot 0 0 0 1 0 (natLe 1 (slot + 32) ++ natLe 1 5 ++ natLe 2 200 ++ natLe 4 1000 ++ natLe 4 0)
def sessionOf (x : UpSession) (phase : Nat) : State := { stopState with upd := { stopState.upd with session := some x } }.putF .agreed fUpStatPhase phase
def openSession : State := sessionOf ⟨1, 7, 2, [0], none, 0⟩ 1
def readySession : State := sessionOf ⟨1, 7, 2, [0, 1], none, 0⟩ 4
def trialState : State := runState.putF .agreed fUpStatTrial 1
def trialLate : State := (trialState.putF .agreed fUpCtrlConfirmS 1)
def goodTurn : JuryFinding := ⟨true, ⟨false, [], []⟩, true, true⟩
def sramSource (s : State) : State :=
  [Mast.a, .b, .c].foldl (fun s m => s.putF (.mast m) fUpSrcaddrAddr (0x10000000 / 8)) s
/-- A state whose flash regions hold small heads, so that reading one is short. -/
def headed (s : State) : State :=
  [Mast.a, .b, .c].foldl (fun s m => [regionBase 0 1, regionBase 0 2, regionBase 1 1, regionBase 1 2].foldl (fun s a =>
    s.setMem m ((((s.mast m).mem.writeBytes (a + 0x12) [2, 0]).writeBytes (a + 0x1004) [4, 0, 0, 0]).writeBytes (a + 0x1044) [4, 0, 0, 0])) s) s
def monOf (s : State) (line : List Byte) : State := { s with mon := { s.mon with session := some (1, 0), waiting := [line] } }
def openMon (s : State) (line : List Byte) : State := { s with mon := { s.mon with waiting := [line] } }
def transferOf (x : Transfer) : State := { serviceState with mon := { serviceState.mon with session := some (1, 0), transfer := some x } }
def symbolState : State := { loadedRunState with app := { loadedRunState.app with symbols := [⟨3, 0x40000000, 2, 5, -32768, 32767, false, false⟩] } }
def supplyOf (x : SupplyPart) : State := { runState with supply := x }
def nextOf (c : Instr) (s : State) : State := match exec c s with | .next u => u | _ => s
def outcastState : State :=
  let x := runState.hbLink .b .a
  let s := runState.setHb .b .a { x with listed := 1 }
  { s with lane := { s.lane with isolated := ⟨false, true, false, false⟩ } }
def bulkTwin (x : PageRecord) : State := (joinOf { target := .c, onset := 0, phase := 5, waiting := [(.b, x)] }).putF .agreed fLmCklenPages 2
def poolState : State := { runState with queue := runState.queue.set .a { free := [3, 4] } }
def fullStage : State := intakeOf { masts := ⟨{ staged := List.replicate 8192 ⟨{ fieldItem with seq := 2 }, 0, 0, false, none⟩ }, {}, {}, {}⟩ }
def dmaTwo : List Byte :=
  natLe 4 1 ++ natLe 4 0 ++ natLe 4 0x40001000 ++ natLe 2 2 ++ natLe 2 1 ++ natLe 2 1 ++ natLe 2 0 ++ natLe 4 1 ++ natLe 4 0 ++ natLe 4 0
    ++ natLe 4 0x40002000 ++ natLe 2 2 ++ natLe 2 1 ++ natLe 2 1 ++ natLe 2 0 ++ natLe 4 1 ++ natLe 4 0 ++ natLe 4 0 ++ natLe 4 7 ++ natLe 4 0
def txGood : Item :=
  let x : Item := ⟨0xC703, 1, 0, 0, 0, 14, false, false, List.replicate 14 1⟩
  { x with crc := x.goodCrc }
def txBad : Item := { txGood with crc := txGood.goodCrc ^^^ 1 }
def txRing (x : Option Item) : State :=
  let base := ringState 31
  let base := { base with lane := { base.lane with units := List.replicate 8 { owner := .b } } }
  match x with
  | none => base
  | some i => ((base.store .a 0x10000000 (natLe 4 0x10001000 ++ natLe 2 i.value.length)).store .a 0x10001000 i.bytes)
def resetU (x : State) : State :=
  let old := x.upAbort 4
  let s := keptThroughReset.foldl (fun s f => s.putF .agreed f (old.getF .agreed f)) old.bare
  let s := (s.putF .agreed fMcRstcauseImage 1).bootPower
  s.raise evModuleReset (s.reg .agreed rMcRstcause).toNat 0
def powerU (x : State) : State :=
  let s := x.bare
  let s : State := { s with panel := { closed := none, opened := some s.now }, supply := { s.supply with volt := max 16800 s.supply.volt, cut := none } }
  ((s.putF .agreed fMcRstcausePor 1).bootPower).raise evPowerOn 0 0

/-! ## Each check of well-formedness refuses an ill-formed command -/

def badItem : Item := ⟨2 ^ 16, 0, 0, 0, 0, 0, false, false, []⟩
def goodItem : Item := ⟨0x2000, 1, 0, 0, 0, 0, false, false, []⟩
def goodEnv : BootEnv := plainEnv
def badEnv : BootEnv := { plainEnv with pins := 32 }

theorem test_wf_item : [badItem, { goodItem with seq := 2 ^ 16 }, { goodItem with crc := 2 ^ 32 }, { goodItem with esec := 2 ^ 32 },
    { goodItem with ens := 1000000000 }, { goodItem with len := 2 ^ 16 }, { goodItem with len := 1 },
    { goodItem with trunc := true }].all (fun i => !i.wf) = true ∧ goodItem.wf = true := by decide

theorem test_wf_env : [badEnv, { plainEnv with keys := Per.all ⟨true, [], []⟩ }, { plainEnv with otpKeys := List.replicate 7 [] },
    { plainEnv with revoked := 64 }].all (fun e => !e.wf) = true ∧ goodEnv.wf = true := by decide

theorem test_wf_places : registerAddr 0xE0110000 = false ∧ registerAddr 0xE0000001 = false ∧ registerAddr 0xE0000004 = true ∧
    lines [(64, [])] = false ∧ lines [(1, List.replicate 64 0)] = false := by decide

theorem test_wf_refuses_1 : ([
    .registerWrite 0 .a .p 0xE0000002 0,
    .misalignedRegisterAccess 0 .a .p 4294967296 4,
    .misalignedRegisterAccess 0 .a .p 0xE0000000 9,
    .misalignedRegisterAccess 0 .a .p 0xE0000000 4,
    .unmappedAccess 0 .a .p 4294967296,
    .readOnlyRegionWrite 0 .a .p 4294967296,
    .reservedAreaWrite 0 .a .p 4294967296,
    .triadCFencedWrite 0 .a 4294967296,
    .summaryEventPeriodEnd 0 65536 0,
    .outputImageSubmit 0 .a [badItem] 0,
    .powerOn 0 badEnv,
    .buttonContactRelease 0 badEnv] : List Instr).all (fun i => !i.wf) = true := by decide

theorem test_wf_refuses_2 : ([
    .buttonStuckExpiry 0 badEnv,
    .reset 0 (Per.all false) badEnv,
    .wakeEvent 0 4 ⟨Per.all true, Per.all 0, Per.all []⟩ 0 goodEnv,
    .wakeEvent 0 0 ⟨Per.all true, Per.all 0, Per.all []⟩ 0 badEnv,
    .standbyMastFault 0 badEnv,
    .sealPoll 0 [],
    .appFetchServe 0 32 (List.replicate 48 0),
    .appFetchServe 0 1 [],
    .appFetchReceived 0 false false [] (Per.all false) ⟨false, ⟨false, [], []⟩, false, false⟩ badEnv,
    .voterHalfMismatch 0 .a .p 64,
    .delayStageParityError 0 .a .p false 3 0 0,
    .lastWordReceived 0 .a .a (List.replicate 32 0)] : List Instr).all (fun i => !i.wf) = true := by decide

theorem test_wf_refuses_3 : ([
    .lastWordReceived 0 .a .b [],
    .tdInjectOutputBit 0 (Per.all false) .a .p 3,
    .tdInjectInputParity 0 (Per.all false) .a .p 3,
    .tdInjectOutputParity 0 (Per.all false) .a .p 3,
    .tdInjectVoter 0 (Per.all false) .a .p 3,
    .hb1BeatReceived 0 .a .a (List.replicate 32 0),
    .hb1BeatReceived 0 .a .b [],
    .hb2Edge 0 .a .a,
    .heartbeatMissed 0 .a .a false false,
    .isolationPowerCheck 0 101 ⟨false, ⟨false, [], []⟩, false, false⟩,
    .checkpointPageRecord 0 .a ⟨0, 0, 0, 8, 0, 0, 0, 0, List.replicate 4096 0⟩,
    .checkpointPageRecord 0 .a ⟨0, 0, 0, 0, 0, 0, 0, 0, []⟩] : List Instr).all (fun i => !i.wf) = true := by decide

theorem test_wf_refuses_4 : ([
    .frameDigestDeposit 0 .a 8 ⟨0, goodItem, [], none, 0, 0, none, false⟩,
    .frameDigestDeposit 0 .a 0 ⟨0, badItem, [], none, 0, 0, none, false⟩,
    .frameUnconfirmedTimeout 0 8 0 0 0,
    .frameLaunch 0 8 0 false,
    .frameLaunch 0 0 3 false,
    .normalHandover 0 8,
    .itemArrival 0 .a badItem,
    .proposalReceived 0 .a [],
    .closeTimeout 0 .a .a,
    .fillReceived 0 .a badItem,
    .ptpMessage 0 0 5 1 (.sync none),
    .ptpMessage 0 0 1 5 (.sync none)] : List Instr).all (fun i => !i.wf) = true := by decide

theorem test_wf_refuses_5 : ([
    .tbTsqpop 0 .a .p 5,
    .tbPosloRead 0 .a .p 3,
    .tachoEdge 0 3 0 false,
    .tachoEdge 0 1 2 false,
    .tbCmpcfgWrite 0 .a 64 0,
    .fbSlotTransmit 0 2 0 (Per.all false),
    .fbFrameReceived 0 2 0 0 0 [] false false,
    .fbFrameReceived 0 0 2 0 0 [] false false,
    .fbSlotReport 0 2,
    .fbIntegrateDone 0 2,
    .fbRecoverDone 0 2,
    .fbTestOn 0 2 (Per.all false)] : List Instr).all (fun i => !i.wf) = true := by decide

theorem test_wf_refuses_6 : ([
    .fbTestOff 0 2 (Per.all false),
    .fbNodeLost 0 2 1,
    .fbNodeLost 0 0 128,
    .fbNodeExcluded 0 2 1,
    .fbNodeExcluded 0 0 128,
    .fbNodeReadmitted 0 2 1,
    .fbNodeReadmitted 0 0 128,
    .fbGrantWithdraw 0 2 0,
    .fbGrantIdleExpiry 0 2 0,
    .fbChannelFault 0 2 0,
    .fbChannelFault 0 0 2,
    .commandFrameSend 0 .a [25]] : List Instr).all (fun i => !i.wf) = true := by decide

theorem test_wf_refuses_7 : ([
    .currentLimitExpiry 0 25 0,
    .thermalTrip 0 25,
    .thermalRetry 0 25,
    .readbackCheck 0 25 false 0 0 false false,
    .readbackCheck 0 1 false 8 0 false false,
    .readbackCheck 0 1 false 0 8 false false,
    .switchTestStart 0 25 0,
    .switchTestStart 0 1 3,
    .darkPulseStart 0 25,
    .inputFilterAccept 0 49 false,
    .inputInvalid 0 49,
    .pairDiscrepancyTimeout 0 25] : List Instr).all (fun i => !i.wf) = true := by decide

theorem test_wf_refuses_8 : ([
    .fieldSupplyChange 0 4 0,
    .fieldSupplyChange 0 0 3,
    .queuedChangeClear 0 .a 16,
    .speedConfirmExpiry 0 9,
    .limitDelayExpiry 0 9,
    .onlineChangeRequest 0 false 0 (List.replicate 17 ⟨0, 0, 0, 0⟩),
    .networkFrameReceived 0 5 [] false,
    .prpEntryForget 0 5 0 0,
    .prpEntryForget 0 1 281474976710656 0,
    .prpEntryForget 0 1 0 65536,
    .linkChange 0 5 0 false false,
    .linkChange 0 1 3 false false] : List Instr).all (fun i => !i.wf) = true := by decide

theorem test_wf_refuses_9 : ([
    .ringProduce 0 .a 128 0,
    .ringConsume 0 .a 128 0,
    .transmitDescriptor 0 .a 128 0,
    .transmitDescriptor 0 .a 0 5,
    .dmaDoorbell 0 .a 32,
    .dmaDescriptorComplete 0 .a 32 [],
    .dmaTargetError 0 .a 32 0 [],
    .dmaStoppedClear 0 .a 32,
    .cacheClean 0 .a .p [(1, [])],
    .cacheInvalidate 0 .a .p [(1, [])],
    .cacheCleanInvalidate 0 .a .p [(1, [])],
    .rackOutboundAccess 0 .a .p 4294967296 4 false 0] : List Instr).all (fun i => !i.wf) = true := by decide

theorem test_wf_refuses_10 : ([
    .rackOutboundAccess 0 .a .p 0xE0000000 9 false 0,
    .rackTransactionComplete 0 false 4294967296 false,
    .rackInboundWrite 0 4294967296 0 0 false,
    .rackInboundWrite 0 0 16 0 false,
    .rackInboundWrite 0 0 0 4294967296 false,
    .rackInboundRead 0 4294967296,
    .exposeCommit 0 .a 16 0,
    .exposeCommit 0 .a 0 65536,
    .intLinePoll 0 256,
    .sidebandPoll 0 (List.replicate 33 (0, 0)),
    .memberTimeout 0 32,
    .masterTakeover 0 32] : List Instr).all (fun i => !i.wf) = true := by decide

theorem test_wf_refuses_11 : ([
    .ringWrap 0 32 0,
    .ringUnwrap 0 32 0,
    .memoryRead 0 .a .block .memory 4294967296 .clean,
    .memoryRead 0 .a .block .memory 0xE0000000 (.single 72),
    .memoryPartialWrite 0 .a .p 4294967296 [0] .clean,
    .memoryPartialWrite 0 .a .p 0xE0000000 [] .clean,
    .memoryPartialWrite 0 .a .p 0xE0000000 [0] (.single 72),
    .scrubWord 0 .a false (.single 72),
    .miInjectSingle 0 (Per.all false) .a false 72,
    .miInjectDouble 0 (Per.all false) .a false 72,
    .activate 0 (Per.all false) ⟨false, ⟨false, [], []⟩, false, false⟩ none badEnv,
    .activateNoJury 0 (Per.all false) badEnv] : List Instr).all (fun i => !i.wf) = true := by decide

theorem test_wf_refuses_12 : ([
    .confirmWindowExpiry 0 badEnv,
    .recoveryDownload 0 5 [] [] (Per.all false) ⟨false, ⟨false, [], []⟩, false, false⟩ goodEnv,
    .recoveryDownload 0 1 [] [] (Per.all false) ⟨false, ⟨false, [], []⟩, false, false⟩ badEnv,
    .monReset 0 badEnv,
    .monActivate 0 ⟨false, ⟨false, [], []⟩, false, false⟩ none badEnv,
    .tachSupplyLimit 0 3,
    .tachSupplyRetry 0 3,
    .powerDownWaitExpiry 0 badEnv,
    .overrateEnd 0 3,
    .serviceTransferBlock 0 [],
    .proposalRerequest 0 .a 65536,
    .fillRequest 0 .a .a 0 0] : List Instr).all (fun i => !i.wf) = true := by decide

theorem test_wf_refuses_13 : ([
    .fillRequest 0 .a .b 65536 0,
    .fillRequest 0 .a .b 0 65536,
    .pageRecordRequest 0 .a 8 0] : List Instr).all (fun i => !i.wf) = true := by decide

/-! ## Single steps, with results worked out from the spec -/

/-- The next state of a command, by name. -/
def after1 (c : Instr) (s : State) : State := nextOf c s

/-- STOP in RUN (R27): mode STOP with cause 2. -/
theorem test_stop_in_run : (after1 (.stop 0 ⟨true, true, false, false⟩) runState).ctl.mode = .stop ∧
    (after1 (.stop 0 ⟨true, true, false, false⟩) runState).getF .agreed fMcStopcauseCause = 2 := by decide +kernel

/-- STOP in STOP (R27): a refusal with no effect on the mode. -/
theorem test_stop_in_stop : (after1 (.stop 0 ⟨true, true, false, false⟩) stopState).ctl.mode = .stop ∧
    (after1 (.stop 0 ⟨true, true, false, false⟩) stopState).getF (.mast .a) fMcCmdstatResult = 2 := by decide +kernel

/-- A command written by one mast alone is discarded (R45). -/
theorem test_one_writer : (after1 (.stop 0 ⟨true, false, false, false⟩) runState).ctl.mode = .run := by decide +kernel

/-- A 16-bit access to a register (R7): bus error. -/
theorem test_halfword : ((after1 (.misalignedRegisterAccess 0 .a .p 0xE0000000 2) runState).mast .a).answer .p = .busError := by
  decide +kernel

/-- A write to a read-only register changes nothing (R9). -/
theorem test_read_only : (after1 (.registerWrite 0 .a .p 0xE0000000 0xFFFFFFFF) runState).getF .agreed fMcIdHwtype = 0x4830 := by
  decide +kernel

/-- A one-byte write merges into its word (R377): the byte beside it keeps its value. -/
theorem test_partial_write :
    ((after1 (.memoryPartialWrite 0 .a .p 0x40000001 [0xAB] .clean) runState).mast .a).mem.readByte 0x40000001 = 0xAB ∧
    ((after1 (.memoryPartialWrite 0 .a .p 0x40000001 [0xAB] .clean) runState).mast .a).mem.readByte 0x40000000 =
      (runState.mast .a).mem.readByte 0x40000000 := by decide +kernel

/-- A wide error takes the mast, and only that mast, fail-silent (R382). -/
theorem test_wide_error : ((after1 (.memoryRead 0 .a .triadP .memory 0x40000000 .wide) runState).mast .a).silent = true ∧
    ((after1 (.memoryRead 0 .a .triadP .memory 0x40000000 .wide) runState).mast .b).silent = false := by decide +kernel

/-- The CRC-32C of nine ASCII digits, the check value published for the polynomial 0x1EDC6F41. -/
theorem test_crc32c : crc32c [0x31, 0x32, 0x33, 0x34, 0x35, 0x36, 0x37, 0x38, 0x39] = 0xE3069283 := by decide +kernel

/-- The CRC-16 of XMODEM over the same digits, the check value published for the polynomial 0x1021. -/
theorem test_crc16 : crc16 [0x31, 0x32, 0x33, 0x34, 0x35, 0x36, 0x37, 0x38, 0x39] = 0x31C3 := by decide +kernel

/-- A step with nothing waiting moves the clock one cycle. -/
theorem test_idle : ∃ u, step State.reset = .next u ∧ u.now = 4 := ⟨_, rfl, by decide⟩

/-! ## The hypotheses of each statement are met -/

theorem crc16_zeros (n : Nat) : crc16 (List.replicate n 0) = 0 := by
  unfold crc16
  induction n with
  | zero => rfl
  | succ n ih => rw [List.replicate_succ, List.foldl_cons, show crc16Byte 0#16 0 = 0#16 by decide]; exact ih
theorem block_zeros : xmodemBlock ([1, 1, 254] ++ List.replicate 130 0) = some (1, List.replicate 128 0) := by
  have h : slice ([1, 1, 254] ++ List.replicate 130 (0 : Byte)) 3 128 = List.replicate 128 0 := by decide +kernel
  unfold xmodemBlock
  simp only [show fieldAt ([1, 1, 254] ++ List.replicate 130 (0 : Byte)) 0 1 = 1 by decide +kernel]
  rw [if_pos ⟨by decide, by decide +kernel, by decide +kernel, by rw [h, crc16_zeros]; decide +kernel⟩, h]
  rfl
theorem allZero_zeros (n k : Nat) : allZero ((List.replicate n (0 : Byte)).drop k) = true := by
  rw [List.drop_replicate]; unfold allZero; simp

theorem witness_BusErrorAccesses :
    (∃ (m : Mast) (addr : Nat) (s : State), s.triadRuns m = true ∧ ((0xFFFF < addr ∧ addr < 0x10000000) ∨
     (0x10BFFFFF < addr ∧ addr < 0x20000000) ∨ (0x200FFFFF < addr ∧ addr < 0x30000000) ∨ (0x33FFFFFF < addr ∧ addr <
     0x40000000) ∨ (0xBFFFFFFF < addr ∧ addr < 0xE0000000))) ∧
    (∃ (m : Mast) (addr : Nat) (s : State), s.triadRuns m = true ∧ (addr ≤ 0xFFFF ∨ (0x30000000 ≤ addr ∧ addr ≤
     0x33FFFFFF))) ∧
    (∃ (m : Mast) (addr : Nat) (s : State), s.triadRuns m = true ∧ ((0x10B20000 ≤ addr ∧ addr ≤ 0x10B3FFFF) ∨
     (0x10B40000 ≤ addr ∧ addr ≤ 0x10BFFFFF) ∨ (0x200FFFE0 ≤ addr ∧ addr ≤ 0x200FFFFF))) ∧
    (∃ (m : Mast) (addr : Nat) (s : State), s.triadRuns m = true ∧ ((0x10000000 ≤ addr ∧ addr ≤ 0x10BFFFFF ∧ addr <
     0x10000000 + s.getF .agreed fTdFenceSram * 0x10000) ∨ (0x40000000 ≤ addr ∧ addr ≤ 0x7FFFFFFF ∧ addr <
     0x40000000 + s.getF .agreed fTdFenceDram * 0x1000000))) :=
  ⟨⟨.a, 0x10000, runState, by decide +kernel⟩,
   ⟨.a, 0x33FFFFFF, runState, by decide +kernel⟩,
   ⟨.a, 0x10B3FFFF, runState, by decide +kernel⟩,
   ⟨.a, 0x10000000, (runState.putF .agreed fTdFenceSram 1), by decide +kernel⟩⟩

theorem witness_MisalignedRegisterAccesses :
    ∃ (m : Mast) (addr size : Nat) (s : State), s.triadRuns m = true ∧ (0xE0000000 ≤ addr ∧ addr ≤ 0xFFFFFFFF) ∧
    (addr % 4 ≠ 0 ∨ size ≠ 4) :=
  ⟨.a, 0xFFFFFFFF, 4, runState, by decide +kernel⟩

theorem witness_MemoryReadsAndWrites :
    (∃ (m : Mast) (addr : Nat) (s : State), s.triadRuns m = true ∧ (regionOf addr = .sram ∨ regionOf addr = .dram ∨
     regionOf addr = .mram) ∧ (s.mast m).mem.errAt addr = []) ∧
    (∃ (m : Mast) (addr bit : Nat) (s : State), s.triadRuns m = true ∧ regionOf addr = .dram ∧ ((s.mast m).mem.errAt
     addr = [] ∧ bit < 72)) ∧
    (∃ (m : Mast) (addr : Nat) (s : State), s.triadRuns m = true ∧ regionOf addr = .dram ∧ (s.mast m).mem.errAt addr
     = []) ∧
    (∃ (m : Mast) (addr : Nat) (s : State), s.triadRuns m = true ∧ (0xE0000000 ≤ addr ∧ addr ≤ 0xFFFFFFFF ∧ addr % 4
     = 0) ∧ (findReg addr).all (fun r => !ownRead r.name) = true) ∧
    (∃ (m : Mast) (tr : Triad) (addr : Nat) (bytes : List Byte) (s : State), s.triadRuns m = true ∧ (regionOf addr =
     .sram ∨ regionOf addr = .dram ∨ regionOf addr = .mram) ∧ (bytes ≠ [] ∧ bytes.length < 8) ∧ wordAddr addr =
     wordAddr (addr + bytes.length - 1) ∧ (reservedArea addr = false ∧ reservedArea (addr + bytes.length - 1) =
     false) ∧ (tr = .c → s.fenced addr = false) ∧ (s.mast m).mem.errAt addr = []) ∧
    (∃ (m : Mast) (dram : Bool) (a : Nat) (s : State), ((s.mast m).powered = true ∧ (s.mast m).silent = false) ∧ (if
     dram then (s.mast m).dramScrub else (s.mast m).sramScrub) = true ∧ a = s.getF (.mast m) (if dram then
     fMiDramposAddr else fMiSramposAddr) * 8 ∧ (s.mast m).mem.errAt a = [] ∧ (scrubBase dram ≤ a ∧ a < scrubBase
     dram + scrubSize dram)) ∧
    (∃ (writers : Per Bool) (m : Mast) (dram : Bool) (bit a : Nat) (s : State), s.agreed writers = true ∧ s.ctl.mode
     = .service ∧ (s.mast m).powered = true ∧ bit < 8 ∧ a = s.getF .agreed fMiInjaddrAddr * 8 ∧ regionOf a = (if
     dram then .dram else .sram) ∧ (dram = true ∨ (s.mast m).mem.isValid a = true) ∧ (s.mast m).mem.errAt a = []) ∧
    (∃ (writers : Per Bool) (s : State), s.agreed writers = false) ∧
    (∃ (writers : Per Bool) (m : Mast) (dram : Bool) (bit a : Nat) (s : State), s.agreed writers = true ∧ s.ctl.mode
     = .service ∧ (s.mast m).powered = true ∧ bit < 8 ∧ a = s.getF .agreed fMiInjaddrAddr * 8 ∧ regionOf a = (if
     dram then .dram else .sram) ∧ (dram = true ∨ (s.mast m).mem.isValid a = true) ∧ (s.mast m).mem.errAt a = []) ∧
    (∃ (writers : Per Bool) (s : State), s.agreed writers = false) :=
  ⟨⟨.a, 0x200FFFFF, runState, by decide +kernel⟩,
   ⟨.a, 0x40000008, 71, runState, by decide +kernel⟩,
   ⟨.a, 0x7FFFFFFF, runState, by decide +kernel⟩,
   ⟨.a, 0xE000001C, runState, by decide +kernel⟩,
   ⟨.a, .c, 0x7FFFFFF9, [1, 2, 3, 4, 5, 6, 7], runState, by decide +kernel⟩,
   ⟨.a, true, 0x40000000, scrubState, by decide +kernel⟩,
   ⟨⟨true, true, false, false⟩, .a, true, 7, 0x40000000, injectState, by decide +kernel⟩,
   ⟨⟨true, false, false, false⟩, runState, by decide +kernel⟩,
   ⟨⟨true, true, false, false⟩, .a, true, 7, 0x40000000, injectState, by decide +kernel⟩,
   ⟨⟨true, false, false, false⟩, runState, by decide +kernel⟩⟩

theorem witness_RegisterWritesByFieldType :
    (∃ (m : Mast) (addr : Nat) (s : State), s.triadRuns m = true ∧ (0xE0000000 ≤ addr ∧ addr ≤ 0xFFFFFFFF ∧ addr % 4
     = 0) ∧ findReg addr = none) ∧
    (∃ (m : Mast) (s : State), s.triadRuns m = true) ∧
    (∃ (m : Mast) (s : State), s.triadRuns m = true) ∧
    (∃ (m : Mast) (s : State), s.triadRuns m = true) ∧
    (∃ (m : Mast) (s : State), s.triadRuns m = true) ∧
    (∃ (m : Mast) (s : State), s.triadRuns m = true) :=
  ⟨⟨.a, 0xE010FFFC, runState, by decide +kernel⟩,
   ⟨.a, runState, by decide +kernel⟩,
   ⟨.a, runState, by decide +kernel⟩,
   ⟨.a, runState, by decide +kernel⟩,
   ⟨.a, runState, by decide +kernel⟩,
   ⟨.a, runState, by decide +kernel⟩⟩

theorem witness_ModeCommandsInTheirModes :
    (∃ (writers : Per Bool) (s : State), s.instants = true ∧ s.agreed writers = true ∧ s.ctl.mode = .stop ∧
     s.inhibits = 0) ∧
    (∃ (writers : Per Bool) (s : State), s.instants = true ∧ s.agreed writers = true ∧ s.ctl.mode = .stop ∧
     s.inhibits = 0) ∧
    (∃ (writers : Per Bool) (s : State), s.instants = true ∧ s.agreed writers = true ∧ (s.ctl.mode = .run ∨
     s.ctl.mode = .hold)) ∧
    (∃ (writers : Per Bool) (s : State), s.instants = true ∧ s.agreed writers = true ∧ s.ctl.mode = .run ∧ (s.getF
     .agreed fMcCtrlHoldPermit = 1 ∧ s.getF .agreed fSpStatZero = 1)) ∧
    (∃ (writers : Per Bool) (s : State), s.instants = true ∧ s.agreed writers = true ∧ s.ctl.mode = .hold) ∧
    (∃ (writers : Per Bool) (s : State), s.instants = true ∧ s.agreed writers = true ∧ s.ctl.mode = .stop ∧
     s.mon.session.isSome = true) ∧
    (∃ (writers : Per Bool) (s : State), s.instants = true ∧ s.agreed writers = true ∧ s.ctl.mode = .service) :=
  ⟨⟨⟨true, true, false, false⟩, cleanStop, by decide +kernel⟩,
   ⟨⟨true, true, false, false⟩, cleanStop, by decide +kernel⟩,
   ⟨⟨true, true, false, false⟩, runState, by decide +kernel⟩,
   ⟨⟨true, true, false, false⟩, holdState, by decide +kernel⟩,
   ⟨⟨true, true, false, false⟩, { runState with ctl := { runState.ctl with mode := .hold } }, by decide +kernel⟩,
   ⟨⟨true, true, false, false⟩, { stopState with mon := { stopState.mon with session := some (1, 0) } }, by decide +kernel⟩,
   ⟨⟨true, true, false, false⟩, serviceState, by decide +kernel⟩⟩

theorem witness_ModeCommandsTurnedAway :
    (∃ (writers : Per Bool) (s : State), s.instants = true ∧ s.agreeing writers = 1) ∧
    (∃ (writers : Per Bool) (s : State), s.instants = true ∧ s.agreeing writers = 1) ∧
    (∃ (writers : Per Bool) (s : State), s.instants = true ∧ s.agreeing writers = 1) ∧
    (∃ (writers : Per Bool) (s : State), s.instants = true ∧ s.agreeing writers = 1) ∧
    (∃ (writers : Per Bool) (s : State), s.instants = true ∧ s.agreeing writers = 1) ∧
    (∃ (writers : Per Bool) (s : State), s.instants = true ∧ s.agreeing writers = 1) ∧
    (∃ (writers : Per Bool) (s : State), s.instants = true ∧ s.agreeing writers = 1) ∧
    (∃ (writers : Per Bool) (s : State), s.instants = true ∧ s.agreeing writers = 1) ∧
    (∃ (writers : Per Bool) (s : State), s.instants = true ∧ s.agreeing writers = 1) ∧
    (∃ (writers : Per Bool) (s : State), s.instants = true ∧ s.agreed writers = true ∧ s.ctl.mode ≠ .stop) ∧
    (∃ (writers : Per Bool) (s : State), s.instants = true ∧ s.agreed writers = true ∧ s.ctl.mode ≠ .stop) ∧
    (∃ (writers : Per Bool) (s : State), s.instants = true ∧ s.agreed writers = true ∧ (s.ctl.mode ≠ .run ∧
     s.ctl.mode ≠ .hold)) ∧
    (∃ (writers : Per Bool) (s : State), s.instants = true ∧ s.agreed writers = true ∧ s.ctl.mode ≠ .run) ∧
    (∃ (writers : Per Bool) (s : State), s.instants = true ∧ s.agreed writers = true ∧ s.ctl.mode ≠ .hold) ∧
    (∃ (writers : Per Bool) (s : State), s.instants = true ∧ s.agreed writers = true ∧ (s.ctl.mode ≠ .stop ∧
     s.ctl.mode ≠ .run)) ∧
    (∃ (writers : Per Bool) (s : State), s.instants = true ∧ s.agreed writers = true ∧ s.ctl.mode ≠ .stop) ∧
    (∃ (writers : Per Bool) (s : State), s.instants = true ∧ s.agreed writers = true ∧ s.ctl.mode ≠ .service) ∧
    (∃ (writers : Per Bool) (s : State), s.instants = true ∧ s.agreed writers = true ∧ (s.ctl.mode ≠ .stop ∧
     s.ctl.mode ≠ .service)) ∧
    (∃ (writers : Per Bool) (s : State), s.instants = true ∧ s.agreed writers = true ∧ s.ctl.mode = .stop ∧
     s.inhibits ≠ 0) ∧
    (∃ (writers : Per Bool) (s : State), s.instants = true ∧ s.agreed writers = true ∧ s.ctl.mode = .stop ∧
     s.inhibits ≠ 0) ∧
    (∃ (writers : Per Bool) (s : State), s.instants = true ∧ s.agreed writers = true ∧ s.ctl.mode = .run ∧ (s.getF
     .agreed fMcCtrlHoldPermit = 0 ∨ s.getF .agreed fSpStatZero = 0)) ∧
    (∃ (writers : Per Bool) (s : State), s.instants = true ∧ s.agreed writers = true ∧ s.ctl.mode = .stop ∧
     s.mon.session = none) :=
  ⟨⟨⟨true, false, false, true⟩, runState, by decide +kernel⟩,
   ⟨⟨true, false, false, true⟩, runState, by decide +kernel⟩,
   ⟨⟨true, false, false, true⟩, runState, by decide +kernel⟩,
   ⟨⟨true, false, false, true⟩, runState, by decide +kernel⟩,
   ⟨⟨true, false, false, true⟩, runState, by decide +kernel⟩,
   ⟨⟨true, false, false, true⟩, runState, by decide +kernel⟩,
   ⟨⟨true, false, false, true⟩, runState, by decide +kernel⟩,
   ⟨⟨true, false, false, true⟩, runState, by decide +kernel⟩,
   ⟨⟨true, false, false, true⟩, runState, by decide +kernel⟩,
   ⟨⟨true, true, false, false⟩, runState, by decide +kernel⟩,
   ⟨⟨true, true, false, false⟩, runState, by decide +kernel⟩,
   ⟨⟨true, true, false, false⟩, serviceState, by decide +kernel⟩,
   ⟨⟨true, true, false, false⟩, serviceState, by decide +kernel⟩,
   ⟨⟨true, true, false, false⟩, runState, by decide +kernel⟩,
   ⟨⟨true, true, false, false⟩, serviceState, by decide +kernel⟩,
   ⟨⟨true, true, false, false⟩, runState, by decide +kernel⟩,
   ⟨⟨true, true, false, false⟩, runState, by decide +kernel⟩,
   ⟨⟨true, true, false, false⟩, runState, by decide +kernel⟩,
   ⟨⟨true, true, false, false⟩, (stopState.putF .agreed fMcInhibitNoApp 1), by decide +kernel⟩,
   ⟨⟨true, true, false, false⟩, (stopState.putF .agreed fMcInhibitNoApp 1), by decide +kernel⟩,
   ⟨⟨true, true, false, false⟩, runState, by decide +kernel⟩,
   ⟨⟨true, true, false, false⟩, stopState, by decide +kernel⟩⟩

theorem witness_ResetsRunBoot :
    (∃ (writers : Per Bool) (s : State), s.instants = true ∧ s.agreed writers = true ∧ (s.ctl.mode = .stop ∨
     s.ctl.mode = .service)) ∧
    (∃ (t : Nat) (s : State), s.ctl.on = false ∧ s.ctl.offAt.all (fun o => decide (o + 100 * ms ≤ max s.now t)) =
     true) ∧
    (∃ (t : Nat) (c : Nat) (s : State), s.panel.holding = true ∧ s.panel.closed = some c ∧ (c ≤ t ∧ max s.now t < c
     + 10 * sec)) ∧
    (∃ (t : Nat) (c : Nat) (s : State), s.panel.holding = true ∧ s.panel.closed = some c ∧ c + 10 * sec ≤ t) :=
  ⟨⟨⟨true, true, false, false⟩, stopState, by decide +kernel⟩,
   ⟨0, { State.reset with ctl := { State.reset.ctl with offAt := some 0 }, now := 100000000 }, by decide +kernel⟩,
   ⟨1000000000, 0, pressedState, by decide +kernel⟩,
   ⟨10000000000, 0, pressedState, by decide +kernel⟩⟩

theorem witness_PushbuttonAndBreakTimers :
    (∃ (s : State), s.panel.closed = none) ∧
    (∃ (t : Nat) (c : Nat) (s : State), (s.ctl.on = true ∧ s.panel.holding = false) ∧ s.panel.closed = some c ∧ c +
     50 * ms ≤ t ∧ s.getF .agreed fMcButtonIgnored = 0) ∧
    (∃ (t : Nat) (o : Nat) (s : State), s.panel.opened = some o ∧ o + sec ≤ t) ∧
    (∃ (t : Nat) (s : State), (s.ctl.on = true ∧ s.panel.holding = false ∧ s.ctl.mode = .boot) ∧ s.panel.breakFrom =
     none ∧ max s.now t ≤ s.releasedFrom + 500 * ms) ∧
    (∃ (t : Nat) (b : Nat) (s : State), s.panel.breakFrom = some b ∧ b + 2 * sec ≤ t ∧ (s.ctl.mode = .boot ∨
     s.ctl.mode = .stop)) ∧
    (∃ (s : State), s.panel.breakFrom.isSome = true) :=
  ⟨⟨runState, by decide +kernel⟩,
   ⟨50000000, 0, closedState, by decide +kernel⟩,
   ⟨1000000000, 0, openState, by decide +kernel⟩,
   ⟨0, bootState, by decide +kernel⟩,
   ⟨2000000000, 0, breakState, by decide +kernel⟩,
   ⟨breakState, by decide +kernel⟩⟩

theorem witness_ModeChangesWithoutCommand :
    (∃ (s : State), s.instants = true ∧ (s.ctl.mode = .stop ∧ s.ctl.prev = .boot) ∧ (s.panel.autoDue = true ∧
     s.panel.breakFrom = none) ∧ s.getF .agreed fMcCtrlAutostart = 1 ∧ s.inhibits = 0) ∧
    (∃ (t : Nat) (s : State), s.ctl.mode = .hold ∧ s.ctl.since + 600 * sec ≤ t) ∧
    (∃ (t : Nat) (m : Mast) (s : State), s.ctl.mode = .boot ∧ m ≠ .j ∧ s.key.window = m.code ∧ s.ctl.bootFrom + (220
     + 40 * m.code) * ms ≤ t) :=
  ⟨⟨autoState, by decide +kernel⟩,
   ⟨600000000000, heldState, by decide +kernel⟩,
   ⟨220000000, .a, bootState, by decide +kernel⟩⟩

theorem witness_Heartbeats :
    (∃ (m : Mast) (s : State), s.beating = true ∧ s.beats m = true ∧ (s.mast m).alive = true) ∧
    (∃ (obs peer : Mast) (bytes : List Byte) (s : State), s.beating = true ∧ obs ≠ peer ∧ s.watches obs = true ∧
     s.lane.isolated.get peer = false ∧ hb1Good peer bytes = true ∧ bitOf (fieldAt bytes 4 4) (4 + obs.code) = false
     ∧ (∀ m ∈ Mast.all, m ≠ peer → (s.hbLink obs m).listed = 0)) ∧
    (∃ (peer : Mast) (bytes : List Byte), hb1Good peer bytes = false) ∧
    (∃ (obs peer : Mast) (bytes : List Byte) (s : State), s.beating = true ∧ obs ≠ peer ∧ s.watches obs = true ∧
     s.lane.isolated.get peer = false ∧ ((s.mast obs).powered = true ∧ (s.mast obs).silent = false ∧ (s.mast
     obs).held = false) ∧ hb1Good peer bytes = true ∧ bitOf (fieldAt bytes 4 4) (4 + obs.code) = true ∧ 1 ≤
     (s.hbLink obs peer).listed) ∧
    (∃ (obs peer : Mast) (s : State), s.beating = true ∧ obs ≠ peer ∧ s.watches obs = true ∧ s.lane.isolated.get
     peer = false) ∧
    (∃ (t : Nat) (obs peer : Mast) (hb1 hb2 : Bool) (s : State), s.beating = true ∧ obs ≠ peer ∧ (s.watches obs =
     true ∧ s.awaited peer = true) ∧ (hb1 = true ∨ hb2 = true) ∧ (hb1 = true → (s.hbLink obs peer).hb1.last + 260000
     ≤ t) ∧ (hb2 = true → (s.hbLink obs peer).hb2.last + 260000 ≤ t)) :=
  ⟨⟨.a, runState, by decide +kernel⟩,
   ⟨.a, .b, (State.reset.hb1Bytes .b), runState, by decide +kernel⟩,
   ⟨.b, [], by decide +kernel⟩,
   ⟨.b, .a, (outcastState.hb1Bytes .a), outcastState, by decide +kernel⟩,
   ⟨.a, .b, runState, by decide +kernel⟩,
   ⟨260000, .a, .b, true, false, runState, by decide +kernel⟩⟩

theorem witness_CommitAndHandover :
    (∃ (t : Nat) (x y z : Mast) (ix iy iz : Submitted) (n : Nat) (s : State), (s.ctl.mode = .run ∨ s.ctl.mode =
     .hold) ∧ (s.lane.lane = .triplex ∧ s.lane.late = none) ∧ (s.advance t).commitDue.isSome = true ∧ s.lane.inOrder
     = [x, y, z] ∧ (∀ m ∈ s.voters, m = x ∨ m = y ∨ m = z) ∧ ((s.mast x).alive = true ∧ (s.mast y).alive = true ∧
     (s.mast z).alive = true) ∧ (s.lane.images.get x = some ix ∧ s.lane.images.get y = some iy ∧ s.lane.images.get z
     = some iz) ∧ (ix.cycle = n ∧ iy.cycle = n ∧ iz.cycle = n) ∧ (ix.digest = iy.digest ∧ iy.digest = iz.digest)) ∧
    (∃ (t : Nat) (x y z : Mast) (ix iy iz : Submitted) (n : Nat) (s : State), (s.ctl.mode = .run ∨ s.ctl.mode =
     .hold) ∧ (s.lane.lane = .triplex ∧ s.lane.late = none) ∧ (s.advance t).commitDue.isSome = true ∧
     (s.lane.inOrder = [x, y, z] ∨ s.lane.inOrder = [x, z, y] ∨ s.lane.inOrder = [z, x, y]) ∧ (∀ m ∈ s.voters, m = x
     ∨ m = y ∨ m = z) ∧ ((s.mast x).alive = true ∧ (s.mast y).alive = true ∧ (s.mast z).alive = true) ∧
     (s.lane.images.get x = some ix ∧ s.lane.images.get y = some iy ∧ s.lane.images.get z = some iz) ∧ (ix.cycle = n
     ∧ iy.cycle = n ∧ iz.cycle = n) ∧ (ix.digest = iy.digest ∧ iz.digest ≠ ix.digest)) ∧
    (∃ (t : Nat) (x y z : Mast) (ix iy iz : Submitted) (n : Nat) (s : State), (s.ctl.mode = .run ∨ s.ctl.mode =
     .hold) ∧ (s.lane.lane = .triplex ∧ s.lane.late = none) ∧ (s.advance t).commitDue.isSome = true ∧ s.lane.inOrder
     = [x, y, z] ∧ (∀ m ∈ s.voters, m = x ∨ m = y ∨ m = z) ∧ ((s.mast x).alive = true ∧ (s.mast y).alive = true ∧
     (s.mast z).alive = true) ∧ (s.lane.images.get x = some ix ∧ s.lane.images.get y = some iy ∧ s.lane.images.get z
     = some iz) ∧ (ix.cycle = n ∧ iy.cycle = n ∧ iz.cycle = n) ∧ (ix.digest ≠ iy.digest ∧ iy.digest ≠ iz.digest ∧
     ix.digest ≠ iz.digest)) ∧
    (∃ (t : Nat) (x y z : Mast) (ix iy : Submitted) (n : Nat) (s : State), (s.ctl.mode = .run ∨ s.ctl.mode = .hold)
     ∧ (s.lane.lane = .triplex ∧ s.lane.late = none) ∧ (s.advance t).commitDue.isSome = true ∧ (s.lane.inOrder = [x,
     y, z] ∨ s.lane.inOrder = [x, z, y] ∨ s.lane.inOrder = [z, x, y]) ∧ (∀ m ∈ s.voters, m = x ∨ m = y ∨ m = z) ∧
     ((s.mast x).alive = true ∧ (s.mast y).alive = true) ∧ (s.lane.images.get x = some ix ∧ s.lane.images.get y =
     some iy ∧ s.lane.images.get z = none) ∧ (ix.cycle = n ∧ iy.cycle = n) ∧ ix.digest = iy.digest) ∧
    (∃ (t : Nat) (m : Mast) (n : Nat) (d : Nat) (s : State), (s.ctl.mode = .run ∨ s.ctl.mode = .hold) ∧ (s.lane.lane
     = .triplex ∧ s.lane.late = some (m, n, d)) ∧ (s.advance t).commitDue.isSome = true ∧ (s.votes m = true ∧
     s.lane.images.get m = none)) ∧
    (∃ (t : Nat) (x y : Mast) (ix iy : Submitted) (n : Nat) (s : State), (s.ctl.mode = .run ∨ s.ctl.mode = .hold) ∧
     (s.lane.lane = .duplex ∧ s.lane.late = none) ∧ (s.advance t).commitDue.isSome = true ∧ s.lane.inOrder = [x, y]
     ∧ (∀ m ∈ s.voters, m = x ∨ m = y) ∧ ((s.mast x).alive = true ∧ (s.mast y).alive = true) ∧ (s.lane.images.get x
     = some ix ∧ s.lane.images.get y = some iy) ∧ (ix.cycle = n ∧ iy.cycle = n) ∧ ix.digest = iy.digest) ∧
    (∃ (t : Nat) (x y : Mast) (ix iy : Submitted) (n : Nat) (s : State), (s.ctl.mode = .run ∨ s.ctl.mode = .hold) ∧
     (s.lane.lane = .duplex ∧ s.lane.late = none) ∧ (s.advance t).commitDue.isSome = true ∧ s.lane.inOrder = [x, y]
     ∧ (∀ m ∈ s.voters, m = x ∨ m = y) ∧ ((s.mast x).alive = true ∧ (s.mast y).alive = true) ∧ (s.lane.images.get x
     = some ix ∧ s.lane.images.get y = some iy) ∧ (ix.cycle = n ∧ iy.cycle = n) ∧ ix.digest ≠ iy.digest) ∧
    (∃ (s : State), (s.ctl.mode ≠ .run ∧ s.ctl.mode ≠ .hold)) ∧
    (∃ (t : Nat) (u : Nat) (dst : Mast) (s : State), u ≠ 6 ∧ (u < 8 ∧ s.lane.units.length = 8) ∧ (s.unit
     u).pendingTo = some dst ∧ s.votes dst = true ∧ (∀ w ∈ (s.unit u).wire, w.upTo ≤ t)) ∧
    (∃ (t : Nat) (u : Nat) (dst : Mast) (s : State), u = 6 ∧ (u < 8 ∧ s.lane.units.length = 8) ∧ (s.unit
     u).pendingTo = some dst ∧ s.votes dst = true ∧ (∀ w ∈ (s.unit u).wire, w.upTo ≤ t)) :=
  ⟨⟨0, .a, .b, .c, ⟨7, 9, [], 0, 0⟩, ⟨7, 9, [], 0, 0⟩, ⟨7, 9, [], 0, 0⟩, 7, commitState, by decide +kernel⟩,
   ⟨0, .a, .b, .c, ⟨7, 9, [], 0, 0⟩, ⟨7, 9, [], 0, 0⟩, ⟨7, 10, [], 0, 0⟩, 7, commitStateThird, by decide +kernel⟩,
   ⟨0, .a, .b, .c, ⟨7, 9, [], 0, 0⟩, ⟨7, 8, [], 0, 0⟩, ⟨7, 10, [], 0, 0⟩, 7, (twoStates ⟨7, 9, [], 0, 0⟩ ⟨7, 8, [], 0, 0⟩ ⟨7, 10, [], 0, 0⟩), by decide +kernel⟩,
   ⟨0, .a, .b, .c, ⟨7, 9, [], 0, 0⟩, ⟨7, 9, [], 0, 0⟩, 7, { runState with lane := { runState.lane with images := ⟨some ⟨7, 9, [], 0, 0⟩, some ⟨7, 9, [], 0, 0⟩, none, none⟩ } }, by decide +kernel⟩,
   ⟨0, .c, 7, 9, { runState with lane := { runState.lane with late := some (.c, 7, 9) } }, by decide +kernel⟩,
   ⟨0, .a, .b, ⟨7, 9, [], 0, 0⟩, ⟨7, 9, [], 0, 0⟩, 7, (let z := twoStates ⟨7, 9, [], 0, 0⟩ ⟨7, 9, [], 0, 0⟩ ⟨7, 9, [], 0, 0⟩; { z with lane := { z.lane with lane := .duplex, active := ⟨true, true, false, false⟩ } }), by decide +kernel⟩,
   ⟨0, .a, .b, ⟨7, 9, [], 0, 0⟩, ⟨7, 8, [], 0, 0⟩, 7, (let z := twoStates ⟨7, 9, [], 0, 0⟩ ⟨7, 8, [], 0, 0⟩ ⟨7, 9, [], 0, 0⟩; { z with lane := { z.lane with lane := .duplex, active := ⟨true, true, false, false⟩ } }), by decide +kernel⟩,
   ⟨stopState, by decide +kernel⟩,
   ⟨0, 0, .b, handoverState, by decide +kernel⟩,
   ⟨0, 6, .b, (runState.setUnit 6 { owner := .a, pendingTo := some .b }), by decide +kernel⟩⟩

theorem witness_ApplicationCycles :
    (∃ (m : Mast) (s : State), s.mayStart m = true) ∧
    (∃ (m : Mast) (done n : Nat) (s : State), s.app.inCycle.get m = some n ∧ (s.ctl.mode = .run ∨ s.ctl.mode =
     .hold) ∧ (s.votes m = true ∧ (s.mast m).alive = true ∧ s.app.halted.get m = false) ∧ (s.app.sub.get m ≠ n ∧
     s.lane.images.get m = none ∧ s.lane.late = none) ∧ done - s.app.cycleFrom.get m < s.cycleLimit) ∧
    (∃ (m : Mast) (done n : Nat) (s : State), s.app.inCycle.get m = some n ∧ (s.ctl.mode = .run ∨ s.ctl.mode =
     .hold) ∧ (s.votes m = true ∧ (s.mast m).alive = true ∧ s.app.halted.get m = false) ∧ (s.app.sub.get m ≠ n ∧
     s.lane.images.get m = none) ∧ s.cycleLimit ≤ done - s.app.cycleFrom.get m) ∧
    (∃ (m : Mast) (cycle n : Nat) (s : State), s.app.inCycle.get m = some n ∧ (s.votes m = true ∧ (s.mast m).alive =
     true) ∧ (s.app.sub.get m = n ∧ n % 4294967296 = cycle % 4294967296)) ∧
    (∃ (t : Nat) (m : Mast) (n : Nat) (s : State), s.app.inCycle.get m = some n ∧ (s.app.halted.get m = false ∧
     s.app.sub.get m ≠ n) ∧ s.app.cycleFrom.get m + s.cycleLimit ≤ t) ∧
    (∃ (m : Mast) (n : Nat) (s : State), s.app.inCycle.get m = some n ∧ s.app.halted.get m = false ∧ s.triadRuns m =
     true) :=
  ⟨⟨.a, startableState, by decide +kernel⟩,
   ⟨.a, 0, 1, cycleState, by decide +kernel⟩,
   ⟨.a, 40000000, 1, cycleState, by decide +kernel⟩,
   ⟨.a, 1, 1, submittedState, by decide +kernel⟩,
   ⟨30000000, .a, 1, cycleState, by decide +kernel⟩,
   ⟨.a, 1, cycleState, by decide +kernel⟩⟩

theorem witness_OnlineChangesAndRetainedData :
    (∃ (auth : Bool) (hash : Nat) (items : List ChangeItem) (s : State), s.app.desc.isSome = true ∧ s.requestStatus
     auth hash items = (0, match items with | x :: _ => x.index | [] => 0)) ∧
    (∃ (auth : Bool) (hash : Nat) (items : List ChangeItem) (status symbol : Nat) (s : State), s.app.desc.isSome =
     true ∧ (s.requestStatus auth hash items = (status, symbol) ∧ status ≠ 0)) ∧
    (∃ (m : Mast) (bank cycle : Nat) (again : Bool) (data : List Byte) (s : State), (s.app.retain.get m).writing =
     some (bank, again, cycle, data) ∧ (s.mast m).powered = true) ∧
    (∃ (m : Mast) (bank cycle : Nat) (data : List Byte) (s : State), (s.app.retain.get m).writing = some (bank,
     false, cycle, data) ∧ (s.mast m).powered = true) ∧
    (∃ (m : Mast) (bank cycle : Nat) (data : List Byte) (s : State), (s.app.retain.get m).writing = some (bank,
     true, cycle, data) ∧ (s.mast m).powered = true) ∧
    (∃ (auth : Bool) (s : State), s.app.desc.isSome = true ∧ auth = false) ∧
    (∃ (auth : Bool) (s : State), s.app.desc.isSome = true ∧ auth = true ∧ (s.ctl.mode ≠ .run ∧ s.ctl.mode ≠ .hold)) :=
  ⟨⟨true, 0, [], loadedRunState, by decide +kernel⟩,
   ⟨false, 0, [], 9, 0, loadedRunState, by decide +kernel⟩,
   ⟨.a, 0, 1, false, [], retainState, by decide +kernel⟩,
   ⟨.a, 0, 1, [], retainState, by decide +kernel⟩,
   ⟨.a, 0, 1, [], { retainState with app := { retainState.app with retain := retainState.app.retain.set .a { writing := some (0, true, 1, []) } } }, by decide +kernel⟩,
   ⟨false, loadedRunState, by decide +kernel⟩,
   ⟨true, { loadedRunState with ctl := { loadedRunState.ctl with mode := .stop } }, by decide +kernel⟩⟩

theorem witness_TriadFaults :
    (∃ (m : Mast) (tr : Triad) (x y z : BitVec 64) (s : State), s.triadRuns m = true ∧ ((s.mast m).triad tr).resync
     = none ∧ (x ≠ y ∧ y ≠ z ∧ x ≠ z) ∧ 2 ≤ (minorityCores x y z).length) ∧
    (∃ (m : Mast) (tr : Triad) (r : Resync) (x y z : BitVec 64) (s : State), s.triadRuns m = true ∧ ((s.mast
     m).triad tr).resync = some r ∧ (r.core ≤ 2 ∧ (runningPair r.core x y z).1 ≠ (runningPair r.core x y z).2)) ∧
    (∃ (m : Mast) (bit : Nat) (s : State), s.triadRuns m = true ∧ bit < 4294967296) ∧
    (∃ (m : Mast) (core : Nat) (s : State), s.triadRuns m = true ∧ core ≤ 2) ∧
    (∃ (t : Nat) (m : Mast) (tr : Triad) (r : Resync) (s : State), s.triadRuns m = true ∧ ((s.mast m).triad
     tr).resync = some r ∧ r.firstOut + 1000000 < t ∧ r.core ≤ 2) ∧
    (∃ (m : Mast) (s : State), ((s.mast m).powered = true ∧ (s.mast m).silent = false)) ∧
    (∃ (m : Mast) (s : State), ((s.mast m).powered = true ∧ (s.mast m).silent = false)) ∧
    (∃ (m : Mast) (s : State), ((s.mast m).powered = true ∧ (s.mast m).silent = false)) ∧
    (∃ (m : Mast) (q : Int) (s : State), ((s.mast m).powered = true ∧ (s.mast m).silent = false) ∧ q > 640) ∧
    (∃ (m : Mast) (value : Word) (s : State), s.triadRuns m = true ∧ getBits value 31 16 = 0x5443 ∧ (s.ctl.mode =
     .service ∨ s.ctl.mode = .stop)) ∧
    (∃ (value : Word) (s : State), (getBits value 31 16 ≠ 0x5443 ∨ (s.ctl.mode ≠ .service ∧ s.ctl.mode ≠ .stop))) :=
  ⟨⟨.a, .c, 1, 2, 4, runState, by decide +kernel⟩,
   ⟨.a, .c, ⟨0, 0, 0, false⟩, 0, 1, 2, resyncState, by decide +kernel⟩,
   ⟨.a, 63, runState, by decide +kernel⟩,
   ⟨.a, 2, runState, by decide +kernel⟩,
   ⟨1000001, .a, .c, ⟨0, 0, 0, false⟩, resyncState, by decide +kernel⟩,
   ⟨.a, runState, by decide +kernel⟩,
   ⟨.a, runState, by decide +kernel⟩,
   ⟨.a, runState, by decide +kernel⟩,
   ⟨.a, 641, runState, by decide +kernel⟩,
   ⟨.a, 0x54430000, stopState, by decide +kernel⟩,
   ⟨0x54430000, runState, by decide +kernel⟩⟩

theorem witness_TriadResyncAndInjection :
    (∃ (m : Mast) (tr : Triad) (s : State), s.triadRuns m = true ∧ ((s.mast m).triad tr).resync = none) ∧
    (∃ (m : Mast) (tr : Triad) (r : Resync) (x y z v : BitVec 64) (s : State), s.triadRuns m = true ∧ ((s.mast
     m).triad tr).resync = some r ∧ runningPair r.core x y z = (v, v)) ∧
    (∃ (t : Nat) (m : Mast) (tr : Triad) (x y z : BitVec 64) (core : Nat) (s : State), s.triadRuns m = true ∧
     ((s.mast m).triad tr).resync = none ∧ (∀ x ∈ ((s.mast m).triad tr).restored, x.1 = core → x.2.1 + 1000000 < max
     s.now t) ∧ ((core = 0 ∧ y = z ∧ x ≠ y) ∨ (core = 1 ∧ x = z ∧ y ≠ x) ∨ (core = 2 ∧ x = y ∧ z ≠ x)) ∧ ((s.mast
     m).triad tr).starts.length < s.getF .agreed fTdCtrlResyncLimit) ∧
    (∃ (m : Mast) (tr : Triad) (r : Resync) (s : State), s.triadRuns m = true ∧ (((s.mast m).triad tr).resync = some
     r ∧ r.tested = false)) ∧
    (∃ (m : Mast) (tr : Triad) (r : Resync) (s : State), s.triadRuns m = true ∧ (((s.mast m).triad tr).resync = some
     r ∧ r.tested = true)) ∧
    (∃ (m : Mast) (tr : Triad) (s : State), ((s.mast m).triad tr).resync.all (fun r => !r.tested) = true) ∧
    (∃ (t : Nat) (writers : Per Bool) (m : Mast) (tr : Triad) (core : Nat) (s : State), s.agreed writers = true ∧
     s.ctl.mode = .service ∧ ((s.mast m).alive = true ∧ s.triadRuns m = true) ∧ core ≤ 2 ∧ ((s.mast m).triad
     tr).resync = none ∧ (∀ x ∈ ((s.mast m).triad tr).restored, x.1 = core → x.2.1 + 1000000 < max s.now t) ∧
     ((s.mast m).triad tr).starts.length < s.getF .agreed fTdCtrlResyncLimit) ∧
    (∃ (writers : Per Bool) (core : Nat) (s : State), s.agreed writers = true ∧ s.ctl.mode = .service ∧ 2 < core) ∧
    (∃ (writers : Per Bool) (m : Mast) (core : Nat) (s : State), s.agreed writers = true ∧ s.ctl.mode = .service ∧
     ((s.mast m).alive = true ∧ s.triadRuns m = true) ∧ core ≤ 2) ∧
    (∃ (writers : Per Bool) (m : Mast) (core : Nat) (s : State), s.agreed writers = true ∧ s.ctl.mode = .service ∧
     ((s.mast m).alive = true ∧ s.triadRuns m = true) ∧ core ≤ 2) ∧
    (∃ (writers : Per Bool) (m : Mast) (core : Nat) (s : State), s.agreed writers = true ∧ s.ctl.mode = .service ∧
     ((s.mast m).alive = true ∧ s.triadRuns m = true) ∧ core ≤ 2) ∧
    (∃ (writers : Per Bool) (s : State), s.agreed writers = false) ∧
    (∃ (writers : Per Bool) (core : Nat) (s : State), s.agreed writers = true ∧ s.ctl.mode ≠ .service ∧ core ≤ 2) ∧
    (∃ (writers : Per Bool) (s : State), s.agreed writers = false) ∧
    (∃ (writers : Per Bool) (core : Nat) (s : State), s.agreed writers = true ∧ s.ctl.mode ≠ .service ∧ core ≤ 2) ∧
    (∃ (writers : Per Bool) (s : State), s.agreed writers = false) ∧
    (∃ (writers : Per Bool) (core : Nat) (s : State), s.agreed writers = true ∧ s.ctl.mode ≠ .service ∧ core ≤ 2) ∧
    (∃ (writers : Per Bool) (s : State), s.agreed writers = false) ∧
    (∃ (writers : Per Bool) (core : Nat) (s : State), s.agreed writers = true ∧ s.ctl.mode ≠ .service ∧ core ≤ 2) ∧
    (∃ (m : Mast) (q : Int) (s : State), ((s.mast m).powered = true ∧ (s.mast m).silent = false) ∧ (580 < q ∧ q ≤
     640) ∧ s.getF (.mast m) fTdHealthTempWarn = 0) ∧
    (∃ (m : Mast) (q : Int) (s : State), ((s.mast m).powered = true ∧ (s.mast m).silent = false) ∧ (560 ≤ q ∧ q ≤
     580 ∨ 560 ≤ q ∧ q ≤ 640 ∧ s.getF (.mast m) fTdHealthTempWarn = 1)) ∧
    (∃ (m : Mast) (q : Int) (s : State), ((s.mast m).powered = true ∧ (s.mast m).silent = false) ∧ q < 560) ∧
    (∃ (m : Mast) (q : Int) (s : State), ((s.mast m).powered = true ∧ (s.mast m).silent = false) ∧ q > 640) ∧
    (∃ (obs snd : Mast) (record : List Byte) (s : State), (s.mast obs).alive = true ∧ obs ≠ snd ∧ (s.mast
     snd).silent = true ∧ (s.mast snd).lastWord = some record) ∧
    (∃ (snd : Mast) (record : List Byte) (s : State), ((s.mast snd).silent = false ∨ (s.mast snd).lastWord ≠ some
     record)) :=
  ⟨⟨.a, .c, runState, by decide +kernel⟩,
   ⟨.a, .c, ⟨0, 0, 0, false⟩, 0, 1, 1, 1, resyncState, by decide +kernel⟩,
   ⟨0, .a, .c, 1, 0, 0, 0, limitState, by decide +kernel⟩,
   ⟨.a, .c, ⟨0, 0, 0, false⟩, resyncState, by decide +kernel⟩,
   ⟨.a, .c, ⟨0, 0, 0, true⟩, testedState, by decide +kernel⟩,
   ⟨.a, .c, resyncState, by decide +kernel⟩,
   ⟨0, ⟨true, true, false, false⟩, .a, .c, 2, serviceInject, by decide +kernel⟩,
   ⟨⟨true, true, false, false⟩, 3, serviceInject, by decide +kernel⟩,
   ⟨⟨true, true, false, false⟩, .a, 2, serviceInject, by decide +kernel⟩,
   ⟨⟨true, true, false, false⟩, .a, 2, serviceInject, by decide +kernel⟩,
   ⟨⟨true, true, false, false⟩, .a, 2, serviceInject, by decide +kernel⟩,
   ⟨⟨true, false, false, false⟩, runState, by decide +kernel⟩,
   ⟨⟨true, true, false, false⟩, 2, runState, by decide +kernel⟩,
   ⟨⟨true, false, false, false⟩, runState, by decide +kernel⟩,
   ⟨⟨true, true, false, false⟩, 2, runState, by decide +kernel⟩,
   ⟨⟨true, false, false, false⟩, runState, by decide +kernel⟩,
   ⟨⟨true, true, false, false⟩, 2, runState, by decide +kernel⟩,
   ⟨⟨true, false, false, false⟩, runState, by decide +kernel⟩,
   ⟨⟨true, true, false, false⟩, 2, runState, by decide +kernel⟩,
   ⟨.a, 581, runState, by decide +kernel⟩,
   ⟨.a, 560, runState, by decide +kernel⟩,
   ⟨.a, -1, runState, by decide +kernel⟩,
   ⟨.a, 641, runState, by decide +kernel⟩,
   ⟨.a, .b, [1], { runState with masts := runState.masts.set .b { mastOn with silent := true, held := true, lastWord := some [1] } }, by decide +kernel⟩,
   ⟨.b, [1], runState, by decide +kernel⟩⟩

theorem witness_IsolationAndJoin :
    (∃ (t : Nat) (percent : Nat) (i : Isolation) (s : State), s.lane.isolation = some i ∧ i.decided + 250000 ≤ t ∧
     percent < 10 ∧ s.spareReady = false) ∧
    (∃ (t : Nat) (percent : Nat) (i : Isolation) (s : State), s.lane.isolation = some i ∧ i.decided + 250000 ≤ t ∧
     percent < 10 ∧ s.spareReady = true ∧ i.mast ≠ .j) ∧
    (∃ (t : Nat) (percent : Nat) (i : Isolation) (s : State), s.lane.isolation = some i ∧ i.decided + 250000 ≤ t ∧
     10 ≤ percent) ∧
    (∃ (t : Nat) (value : Word) (j : Join) (s : State), (getBits value 31 16 = 0x4A4E ∧ getBits value 0 0 = 1) ∧
     (((s.advance t).juryRom true).lane.join = some j ∧ j.phase = 4) ∧ max s.now t ≤ j.onset + 600000000 ∧
     ((s.advance t).juryRom true).inBand .j = true) ∧
    (∃ (t : Nat) (value : Word) (j : Join) (s : State), (getBits value 31 16 = 0x4A4E ∧ getBits value 0 0 = 1) ∧
     (((s.advance t).juryRom true).lane.join = some j ∧ j.phase = 4 ∧ j.ended = none) ∧ max s.now t ≤ j.onset +
     600000000 ∧ ((s.advance t).juryRom true).inBand .j = false) ∧
    (∃ (value : Word), (getBits value 31 16 ≠ 0x4A4E ∨ getBits value 0 0 ≠ 1)) ∧
    (∃ (t : Nat) (j : Join) (s : State), (s.lane.join = some j ∧ j.find = none) ∧ (j.ended = none ∧ j.ready = false)
     ∧ j.onset + 600000000 ≤ t) ∧
    (∃ (t : Nat) (j : Join) (s : State), ((s.advance t).juryRom false).lane.join = some j ∧ (j.ended = none ∧
     j.ready = false) ∧ j.onset + 600000000 ≤ max s.now t) ∧
    (∃ (t : Nat) (j : Join) (s : State), s.lane.join = some j ∧ j.ended = none ∧ j.onset + 700000000 + s.aiCycle ≤ t) :=
  ⟨⟨250000, 9, ⟨.c, .c, 0, 0, 0⟩, { isoState 0 with lane := { (isoState 0).lane with spare := false } }, by decide +kernel⟩,
   ⟨250000, 9, ⟨.c, .c, 0, 0, 0⟩, ((isoState 0).putF .agreed fLmCtrlSpareEn 1), by decide +kernel⟩,
   ⟨250000, 10, ⟨.c, .c, 0, 0, 0⟩, isoState 0, by decide +kernel⟩,
   ⟨0, 0x4A4E0001, { target := .c, onset := 0, phase := 4 }, joinState, by decide +kernel⟩,
   ⟨0, 0x4A4E0001, { target := .c, onset := 0, phase := 4 }, { joinState with time := { joinState.time with tb := ⟨0, 0, 0, 101 * 2 ^ 32⟩ } }, by decide +kernel⟩,
   ⟨0x4A4E0000, by decide +kernel⟩,
   ⟨600000000, { target := .c, onset := 0, phase := 4 }, joinState, by decide +kernel⟩,
   ⟨600000000, { target := .c, onset := 0, phase := 4 }, joinState, by decide +kernel⟩,
   ⟨800000000, { target := .c, onset := 0, phase := 4 }, joinState, by decide +kernel⟩⟩

theorem witness_CheckpointPagesAndTimeBand :
    (∃ (survivor : Mast) (r : PageRecord) (j : Join) (s : State), (s.lane.join = some j ∧ 5 ≤ j.phase ∧ j.phase ≤ 7)
     ∧ (s.joining = true ∧ s.votes survivor = true) ∧ (r.magic = 0x434B5054 ∧ r.reserved = 0) ∧ r.kind = 3 ∧
     (r.data.length = 4096 ∧ r.pcrc = (crc32c r.data).toNat) ∧ (∃ o ∈ Mast.all, s.votes o = true ∧ o ≠ survivor ∧
     j.bulkEnded.get o = false)) ∧
    (∃ (survivor : Mast) (r : PageRecord) (j : Join) (s : State), (s.lane.join = some j ∧ 5 ≤ j.phase ∧ j.phase ≤ 7)
     ∧ (s.joining = true ∧ s.votes survivor = true) ∧ (r.magic = 0x434B5054 ∧ r.reserved = 0) ∧ r.kind = 3 ∧
     (r.data.length = 4096 ∧ r.pcrc = (crc32c r.data).toNat) ∧ (∀ o ∈ Mast.all, s.votes o = true → o = survivor ∨
     j.bulkEnded.get o = true)) ∧
    (∃ (survivor : Mast) (r : PageRecord) (j : Join) (s : State), (s.lane.join = some j ∧ 5 ≤ j.phase ∧ j.phase ≤ 7)
     ∧ (s.joining = true ∧ s.votes survivor = true) ∧ (r.magic = 0x434B5054 ∧ r.reserved = 0) ∧ (r.kind = 1 ∨ r.kind
     = 2) ∧ r.page < s.ckPages r.region ∧ (r.data.length = 4096 ∧ r.pcrc = (crc32c r.data).toNat) ∧ (∀ w ∈
     j.waiting, w.1 = survivor ∨ w.2.region ≠ r.region ∨ w.2.page ≠ r.page ∨ w.2.round ≠ r.round)) ∧
    (∃ (survivor o : Mast) (r x : PageRecord) (j : Join) (s : State), (s.lane.join = some j ∧ 5 ≤ j.phase ∧ j.phase
     ≤ 7) ∧ (s.joining = true ∧ s.votes survivor = true) ∧ (r.magic = 0x434B5054 ∧ r.reserved = 0) ∧ (r.kind = 1 ∨
     r.kind = 2) ∧ (r.page < s.ckPages r.region ∧ r.region < 7) ∧ (r.data.length = 4096 ∧ r.pcrc = (crc32c
     r.data).toNat) ∧ (j.waiting = [(o, x)] ∧ o ≠ survivor) ∧ (x.region = r.region ∧ x.page = r.page ∧ x.round =
     r.round ∧ x.data = r.data)) ∧
    (∃ (survivor : Mast) (r : PageRecord) (j : Join) (s : State), (s.lane.join = some j ∧ 5 ≤ j.phase ∧ j.phase ≤ 7)
     ∧ (s.joining = true ∧ s.votes survivor = true) ∧ (r.magic = 0x434B5054 ∧ r.reserved = 0) ∧ (r.kind = 1 ∨ r.kind
     = 2) ∧ r.page < s.ckPages r.region ∧ (r.data.length ≠ 4096 ∨ r.pcrc ≠ (crc32c r.data).toNat) ∧ (j.waiting = []
     ∧ j.requests = [])) ∧
    (∃ (survivor o : Mast) (r : PageRecord) (j : Join) (d : Nat) (s : State), (s.lane.join = some j ∧ 5 ≤ j.phase ∧
     j.phase ≤ 7) ∧ (s.joining = true ∧ s.votes survivor = true) ∧ (r.magic = 0x434B5054 ∧ r.reserved = 0) ∧ (r.kind
     = 4 ∧ j.final = true) ∧ (r.data.length = 4096 ∧ r.pcrc = (crc32c r.data).toNat) ∧ allZero (r.data.drop 8) =
     true ∧ (∀ x ∈ Mast.all, s.votes x = true ↔ x = survivor ∨ x = o) ∧ (o ≠ survivor ∧ j.digests.get o = some d ∧ d
     ≠ fieldAt r.data 0 8) ∧ s.ctl.mode = .run) ∧
    (∃ (survivor : Mast) (region page : Nat) (j : Join) (s : State), (s.lane.join = some j ∧ 5 ≤ j.phase ∧ j.phase ≤
     7) ∧ s.joining = true ∧ (s.votes survivor = true ∧ (s.mast survivor).alive = true) ∧ (region < 7 ∧ page <
     s.ckPages region)) ∧
    (∃ (m : Mast) (offset : Int) (s : State), (s.mast m).alive = true ∧ (-100 ≤ offset ∧ offset ≤ 100)) ∧
    (∃ (m : Mast) (offset : Int) (s : State), ((s.mast m).alive = true ∧ (s.mast m).held = false) ∧ (offset < -100 ∨
     100 < offset) ∧ (s.votes m = true ∧ 1 ≤ s.time.outside.get m) ∧ s.lane.lane = .triplex) ∧
    (∃ (m x y : Mast) (offset : Int) (s : State), ((s.mast m).alive = true ∧ (s.mast y).alive = true ∧ (s.mast
     y).held = false) ∧ (offset < -100 ∨ 100 < offset) ∧ (s.votes m = true ∧ 1 ≤ s.time.outside.get m) ∧
     (s.lane.lane ≠ .triplex ∧ s.lane.inOrder = [x, y])) :=
  ⟨⟨.a, { kind := 3, region := 0, page := 0, cycle := 0, round := 0, pcrc := (crc32c (List.replicate 4096 0)).toNat, data := List.replicate 4096 0 }, { target := .c, onset := 0, phase := 5 }, bulkState, ⟨rfl, by decide, by decide⟩, by decide +kernel, by decide +kernel, by decide +kernel, ⟨List.length_replicate, by dsimp only⟩, by decide +kernel⟩,
   ⟨.a, { kind := 3, region := 0, page := 0, cycle := 0, round := 0, pcrc := (crc32c (List.replicate 4096 0)).toNat, data := List.replicate 4096 0 }, { target := .c, onset := 0, phase := 5, bulkEnded := ⟨false, true, false, false⟩ }, otherRound, ⟨rfl, by decide, by decide⟩, by decide +kernel, by decide +kernel, by decide +kernel, ⟨List.length_replicate, by dsimp only⟩, by decide +kernel⟩,
   ⟨.a, { kind := 1, region := 0, page := 0, cycle := 0, round := 0, pcrc := (crc32c (List.replicate 4096 0)).toNat, data := List.replicate 4096 0 }, { target := .c, onset := 0, phase := 5 }, bulkPages, ⟨rfl, by decide, by decide⟩, by decide +kernel, by decide +kernel, by decide +kernel, by decide +kernel, ⟨List.length_replicate, by dsimp only⟩, by decide +kernel⟩,
   ⟨.a, .b, { kind := 1, region := 0, page := 0, cycle := 0, round := 0, pcrc := (crc32c (List.replicate 4096 0)).toNat, data := List.replicate 4096 0 }, { kind := 1, region := 0, page := 0, cycle := 0, round := 0, pcrc := (crc32c (List.replicate 4096 0)).toNat, data := List.replicate 4096 0 }, { target := .c, onset := 0, phase := 5, waiting := [(.b, { kind := 1, region := 0, page := 0, cycle := 0, round := 0, pcrc := (crc32c (List.replicate 4096 0)).toNat, data := List.replicate 4096 0 })] }, bulkTwin { kind := 1, region := 0, page := 0, cycle := 0, round := 0, pcrc := (crc32c (List.replicate 4096 0)).toNat, data := List.replicate 4096 0 }, ⟨rfl, by decide, by decide⟩, by decide +kernel, by decide +kernel, by decide +kernel, by decide +kernel, ⟨List.length_replicate, by dsimp only⟩, ⟨rfl, by decide⟩, ⟨rfl, rfl, rfl, rfl⟩⟩,
   ⟨.a, { kind := 1, region := 0, page := 1, cycle := 0, round := 0, pcrc := 0, data := [] }, { target := .c, onset := 0, phase := 5 }, bulkPages, ⟨rfl, by decide, by decide⟩, by decide +kernel, by decide +kernel, by decide +kernel, by decide +kernel, by decide +kernel, by decide +kernel⟩,
   ⟨.a, .b, { kind := 4, region := 0, page := 0, cycle := 0, round := 0, pcrc := (crc32c (List.replicate 4096 0)).toNat, data := List.replicate 4096 0 }, { target := .c, onset := 0, phase := 7, final := true, digests := ⟨none, some 1, none, none⟩ }, 1, (joinOf { target := .c, onset := 0, phase := 7, final := true, digests := ⟨none, some 1, none, none⟩ }), ⟨rfl, by decide, by decide⟩, by decide +kernel, by decide +kernel, by decide +kernel, ⟨List.length_replicate, by dsimp only⟩, allZero_zeros 4096 8, by decide +kernel, by decide +kernel, by decide +kernel⟩,
   ⟨.a, 0, 1, { target := .c, onset := 0, phase := 5 }, bulkPages, by decide +kernel⟩,
   ⟨.a, -100, runState, by decide +kernel⟩,
   ⟨.a, 101, outsideState, by decide +kernel⟩,
   ⟨.a, .a, .b, 101, { outsideState with lane := { outsideState.lane with lane := .duplex, active := ⟨true, true, false, false⟩ } }, by decide +kernel⟩⟩

theorem witness_StandbyAndFetch :
    (∃ (writers : Per Bool) (s : State), (s.instants = true ∧ s.agreed writers = true) ∧ (s.ctl.mode = .stop ∨
     s.ctl.mode = .run) ∧ s.standbyOk = true) ∧
    (∃ (writers : Per Bool) (s : State), (s.instants = true ∧ s.agreed writers = true) ∧ (s.ctl.mode = .stop ∨
     s.ctl.mode = .run) ∧ s.standbyOk = false) ∧
    (∃ (t : Nat) (src : Nat) (s : State), s.ctl.mode = .standby ∧ (s.advance t).wakes src = true) ∧
    (∃ (t : Nat) (src : Nat) (f : WakeFinding) (s : State), s.ctl.mode = .standby ∧ (s.advance t).wakes src = true ∧
     (∀ m ∈ s.lane.inOrder, m ≠ s.awake → f.selftest.get m = false)) ∧
    (∃ (t : Nat) (src : Nat) (s : State), (s.ctl.mode ≠ .standby ∨ (s.advance t).wakes src = false)) ∧
    (∃ (s : State), s.ctl.mode = .standby) ∧
    (∃ (t : Nat) (word : List Byte) (s : State), s.ctl.on = true ∧ (s.ctl.mode ≠ .standby ∧ s.ctl.mode ≠ .recovery)
     ∧ (s.mast s.lane.posA).alive = true ∧ s.ctl.bootFrom + 300000000 ≤ t ∧ s.key.lastPollAt + 1000000000 ≤ t ∧
     (sealFrame (sealBytes word) = 0xA5 ∧ sealValue (sealBytes word) = sealValue s.key.sealWord)) ∧
    (∃ (t : Nat) (word : List Byte) (s : State), s.ctl.on = true ∧ (s.ctl.mode ≠ .standby ∧ s.ctl.mode ≠ .recovery)
     ∧ (s.mast s.lane.posA).alive = true ∧ s.ctl.bootFrom + 300000000 ≤ t ∧ s.key.lastPollAt + 1000000000 ≤ t ∧
     (sealFrame (sealBytes word) ≠ 0xA5 ∨ sealValue (sealBytes word) ≠ sealValue s.key.sealWord) ∧ (sealBytes word ≠
     s.key.lastPoll ∧ (sealFrame (sealBytes word) = 0xA5 ∨ sealFrame s.key.lastPoll = 0xA5))) ∧
    (∃ (s : State), s.slRole = 2) ∧
    (∃ (t : Nat) (s : State), s.fetching = true ∧ (match s.key.fetchAt
     with | some a => decide (a + 10000000000 ≤ max s.now t) | none => decide (s.ctl.since < s.time.lastAiLocal)) =
     true ∧ s.getF .agreed fSlAppfetchState ≠ 3 ∧ (s.slRole = 1 ∧ s.slMaster ≠ 0 ∧ s.slMaster ≠ s.ownSlot)) ∧
    (∃ (t : Nat) (s : State), s.fetching = true ∧ (match s.key.fetchAt
     with | some a => decide (a + 10000000000 ≤ max s.now t) | none => decide (s.ctl.since < s.time.lastAiLocal)) =
     true ∧ s.getF .agreed fSlAppfetchState ≠ 3 ∧ (s.slRole ≠ 1 ∨ s.slMaster = 0 ∨ s.slMaster = s.ownSlot)) ∧
    (∃ (s : State), s.fetching = true ∧ s.getF .agreed fSlAppfetchState = 2) ∧
    (∃ (s : State), s.fetching = true ∧ s.getF .agreed fSlAppfetchState = 2) ∧
    (∃ (s : State), s.fetching = true ∧ s.getF .agreed fSlAppfetchState = 2) :=
  ⟨⟨⟨true, true, false, false⟩, standbyReady, by decide +kernel⟩,
   ⟨⟨true, true, false, false⟩, stopState, by decide +kernel⟩,
   ⟨0, 0, asleepState, by decide +kernel⟩,
   ⟨0, 0, ⟨Per.all false, Per.all 0, Per.all []⟩, asleepState, by decide +kernel⟩,
   ⟨0, 0, runState, by decide +kernel⟩,
   ⟨asleepState, by decide +kernel⟩,
   ⟨1000000000, [0xA5, 0, 0, 0, 0], runState, by decide +kernel⟩,
   ⟨1000000000, [0xA5, 0, 0, 0, 1], runState, by decide +kernel⟩,
   ⟨fetchMasterState, by decide +kernel⟩,
   ⟨0, fetchState, by decide +kernel⟩,
   ⟨0, (fetchState.putF .agreed fSlStatMaster 0), by decide +kernel⟩,
   ⟨(fetchState.putF .agreed fSlAppfetchState 2), by decide +kernel⟩,
   ⟨(fetchState.putF .agreed fSlAppfetchState 2), by decide +kernel⟩,
   ⟨(fetchState.putF .agreed fSlAppfetchState 2), by decide +kernel⟩⟩

theorem witness_TransmitUnits :
    (∃ (m : Mast) (u : Nat) (f : TxFrame) (s : State), (2 ≤ u ∧ u < 8) ∧ s.lane.units.length = 8 ∧ (s.votes m = true
     ∧ (s.mast m).alive = true) ∧ s.lane.mute = false ∧ f.item.tagOk = true ∧ (∀ g ∈ (s.unit u).gone, g.awaits m f =
     false)) ∧
    (∃ (m : Mast) (u : Nat) (f : TxFrame) (g : SentFrame) (s : State), (2 ≤ u ∧ u < 8) ∧ s.lane.units.length = 8 ∧
     (s.votes m = true ∧ (s.mast m).alive = true) ∧ s.lane.mute = false ∧ f.item.tagOk = true ∧ ((s.unit u).gone =
     [g] ∧ g.awaits m f = true) ∧ (g.discarded = true ∨ g.passed = some (frameDigest f.bytes) ∧ ∀ o ∈ s.voters, o ≠
     m → o ≠ g.owner → g.deposits.get o = none)) ∧
    (∃ (m : Mast) (f : TxFrame) (s : State), s.lane.units.length = 8 ∧ (s.votes m = true ∧ (s.mast m).alive = true)
     ∧ s.lane.mute = false ∧ f.item.tagOk = true ∧ (1 ≤ f.port ∧ f.port ≤ 4 ∧ s.net.portEnabled f.port = true ∧
     f.portOnly = false) ∧ ((s.net.iface f.port).mode = 1 ∧ isPtp f.item.value = false) ∧ ((s.unit 0).gone = [] ∧
     (s.unit 1).gone = [])) ∧
    (∃ (m : Mast) (u : Nat) (f : TxFrame) (s : State), (2 ≤ u ∧ u < 8) ∧ (s.votes m = true ∧ (s.mast m).alive =
     true) ∧ s.lane.mute = false ∧ f.item.tagOk = false ∧ (s.unit u).owner ≠ m ∧ s.intake.exitFails = []) ∧
    (∃ (u port : Nat) (x : UnitFrame) (f : TxFrame) (s : State), (2 ≤ u ∧ u < 8) ∧ s.lane.units.length = 8 ∧
     s.lane.mute = false ∧ s.owned u = true ∧ (s.nextFrame u port = some x ∧ x.copies.get (s.unit u).owner = some f)
     ∧ (∀ d ∈ s.otherDeposits u x, d.2 = frameDigest f.bytes)) ∧
    (∃ (u port : Nat) (damaged : Bool) (x : UnitFrame) (f : TxFrame) (o : Mast) (d : Nat) (s : State), (2 ≤ u ∧ u <
     8) ∧ s.lane.units.length = 8 ∧ s.lane.mute = false ∧ s.owned u = true ∧ (s.nextFrame u port = some x ∧
     x.copies.get (s.unit u).owner = some f) ∧ s.otherDeposits u x = [(o, d)] ∧ (damaged = true ∨ d ≠ frameDigest
     f.bytes)) ∧
    (∃ (u port : Nat) (x : UnitFrame) (f : TxFrame) (o p : Mast) (d e : Nat) (s : State), (2 ≤ u ∧ u < 8) ∧
     s.lane.units.length = 8 ∧ s.lane.mute = false ∧ s.owned u = true ∧ (s.nextFrame u port = some x ∧ x.copies.get
     (s.unit u).owner = some f) ∧ s.otherDeposits u x = [(o, d), (p, e)] ∧ (d ≠ frameDigest f.bytes ∧ e ≠
     frameDigest f.bytes) ∧ (s.lane.lane = .triplex ∧ s.ctl.mode = .run ∧ s.lane.inOrder.length = 3 ∧
     s.lane.inOrder.contains (s.unit u).owner = true)) ∧
    (∃ (u port : Nat) (x : UnitFrame) (f : TxFrame) (o p : Mast) (d e : Nat) (s : State), (2 ≤ u ∧ u < 8) ∧
     s.lane.units.length = 8 ∧ s.lane.mute = false ∧ s.owned u = true ∧ (s.nextFrame u port = some x ∧ x.copies.get
     (s.unit u).owner = some f) ∧ s.otherDeposits u x = [(o, d), (p, e)] ∧ (d = frameDigest f.bytes ∧ e ≠
     frameDigest f.bytes) ∧ (s.lane.lane = .triplex ∧ s.ctl.mode = .run ∧ s.lane.inOrder.length = 3 ∧
     s.lane.inOrder.contains p = true)) ∧
    (∃ (t : Nat) (u port : Nat) (x : UnitFrame) (f : TxFrame) (s : State), (u < 2 ∧ 1 ≤ x.frame.port ∧ x.frame.port
     ≤ 4) ∧ s.lane.units.length = 8 ∧ s.lane.mute = false ∧ s.owned u = true ∧ (s.nextFrame u port = some x ∧
     x.copies.get (s.unit u).owner = some f) ∧ (s.missedLaunch u port = none ∧ (s.advance t).missedLaunch u port =
     none ∧ (s.advance t).nextFrame u port = some x) ∧ (∀ d ∈ s.otherDeposits u x, d.2 = frameDigest f.bytes)) ∧
    (∃ (t : Nat) (u port kind : Nat) (x : UnitFrame) (s : State), (u < 2 ∧ 1 ≤ x.frame.port ∧ x.frame.port ≤ 4) ∧
     s.lane.units.length = 8 ∧ s.lane.mute = false ∧ s.owned u = true ∧ (s.advance t).missedLaunch u port = some (x,
     kind)) ∧
    (∃ (t : Nat) (u seq port cls : Nat) (x : UnitFrame) (s : State), (u < 8 ∧ s.lane.units.length = 8) ∧ (s.unit
     u).queue.find? (fun y => y.is seq port cls) = some x ∧ ((x.copies.get (s.unit u).owner).isSome = true ∧
     s.otherDeposits u x = []) ∧ (x.formed + 100000 ≤ t ∨ (x.frame.launch.any (fun l => decide (l ≤ (s.advance
     t).launchClock u))) = true)) :=
  ⟨⟨.a, 7, goodFrame, quietUnits, by decide +kernel⟩,
   ⟨.b, 2, goodFrame, ⟨1, 0, 0, .a, some (frameDigest [1, 2, 3]), false, ⟨some 0, none, none, none⟩⟩, (quietUnits.setUnit 2 { owner := .a, gone := [⟨1, 0, 0, .a, some (frameDigest [1, 2, 3]), false, ⟨some 0, none, none, none⟩⟩] }), by decide +kernel⟩,
   ⟨.a, { goodFrame with port := 3 }, { netState with lane := { netState.lane with mute := false } }, by decide +kernel⟩,
   ⟨.b, 2, plainFrame, quietUnits, by decide +kernel⟩,
   ⟨2, 0, ⟨goodFrame, 0, ⟨some (frameDigest [1, 2, 3]), some (frameDigest [1, 2, 3]), none, none⟩, ⟨some goodFrame, none, none, none⟩⟩, goodFrame, unitOf ⟨some (frameDigest [1, 2, 3]), some (frameDigest [1, 2, 3]), none, none⟩, by decide +kernel⟩,
   ⟨2, 0, false, ⟨goodFrame, 0, ⟨some (frameDigest [1, 2, 3]), some 7, none, none⟩, ⟨some goodFrame, none, none, none⟩⟩, goodFrame, .b, 7, unitOf ⟨some (frameDigest [1, 2, 3]), some 7, none, none⟩, by decide +kernel⟩,
   ⟨2, 0, ⟨goodFrame, 0, ⟨some (frameDigest [1, 2, 3]), some 7, some 7, none⟩, ⟨some goodFrame, none, none, none⟩⟩, goodFrame, .b, .c, 7, 7, unitOf ⟨some (frameDigest [1, 2, 3]), some 7, some 7, none⟩, by decide +kernel⟩,
   ⟨2, 0, ⟨goodFrame, 0, ⟨some (frameDigest [1, 2, 3]), some (frameDigest [1, 2, 3]), some 7, none⟩, ⟨some goodFrame, none, none, none⟩⟩, goodFrame, .b, .c, (frameDigest [1, 2, 3]), 7, unitOf ⟨some (frameDigest [1, 2, 3]), some (frameDigest [1, 2, 3]), some 7, none⟩, by decide +kernel⟩,
   ⟨0, 0, 1, { frame := { goodFrame with port := 1 }, formed := 0, deposits := ⟨some (frameDigest [1, 2, 3]), some (frameDigest [1, 2, 3]), none, none⟩, copies := ⟨some goodFrame, none, none, none⟩ }, goodFrame, (let z := unitOf ⟨none, none, none, none⟩; z.setUnit 0 { owner := .a, queue := [{ frame := { goodFrame with port := 1 }, formed := 0, deposits := ⟨some (frameDigest [1, 2, 3]), some (frameDigest [1, 2, 3]), none, none⟩, copies := ⟨some goodFrame, none, none, none⟩ }] }), by decide +kernel⟩,
   ⟨1000000000, 0, 1, 1, { frame := { goodFrame with port := 1, launch := some 5 }, formed := 0, deposits := ⟨some (frameDigest [1, 2, 3]), some (frameDigest [1, 2, 3]), none, none⟩, copies := ⟨some goodFrame, none, none, none⟩ }, (let z := unitOf ⟨none, none, none, none⟩; z.setUnit 0 { owner := .a, queue := [{ frame := { goodFrame with port := 1, launch := some 5 }, formed := 0, deposits := ⟨some (frameDigest [1, 2, 3]), some (frameDigest [1, 2, 3]), none, none⟩, copies := ⟨some goodFrame, none, none, none⟩ }] }), by decide +kernel⟩,
   ⟨100000, 2, 1, 0, 0, ⟨goodFrame, 0, ⟨some (frameDigest [1, 2, 3]), none, none, none⟩, ⟨some goodFrame, none, none, none⟩⟩, aloneUnit, by decide +kernel⟩⟩

theorem witness_IntakeArrivalAndProposals :
    (∃ (m : Mast) (i : Item) (s : State), s.intakes m = true ∧ (s.ctl.mode = .stop ∨ s.ctl.mode = .run ∨ s.ctl.mode
     = .hold ∨ s.ctl.mode = .service) ∧ i.tagOk = true ∧ (0x0101 ≤ i.source ∧ i.source ≤ 0x0180) ∧ (s.holdsSame m i
     = false ∧ s.intake.isPast i = false ∧ (s.intake.masts.get m).staged.length < 8192)) ∧
    (∃ (m : Mast) (i : Item) (b : Nat) (rest : List Nat) (s : State), s.intakes m = true ∧ (s.ctl.mode = .stop ∨
     s.ctl.mode = .run ∨ s.ctl.mode = .hold ∨ s.ctl.mode = .service) ∧ i.tagOk = true ∧ (0x2000 ≤ i.source ∧
     i.source < 0x3000 ∧ validSource i.source = true) ∧ (s.holdsSame m i = false ∧ s.intake.isPast i = false ∧
     (s.intake.masts.get m).staged.length < 8192) ∧ (s.queue.get m).free = b :: rest) ∧
    (∃ (m : Mast) (i : Item) (s : State), s.intakes m = true ∧ (s.ctl.mode = .stop ∨ s.ctl.mode = .run ∨ s.ctl.mode
     = .hold ∨ s.ctl.mode = .service) ∧ (i.tagOk = false ∨ s.holdsSame m i = true) ∧ i.source < 0x1000 ∧
     s.log.limits = []) ∧
    (∃ (m : Mast) (i : Item) (s : State), s.intakes m = true ∧ (s.ctl.mode = .stop ∨ s.ctl.mode = .run ∨ s.ctl.mode
     = .hold ∨ s.ctl.mode = .service) ∧ i.tagOk = true ∧ i.source < 0x1000 ∧ (s.holdsSame m i = false ∧
     s.intake.isPast i = false ∧ 8192 ≤ (s.intake.masts.get m).staged.length)) ∧
    (∃ (m : Mast) (i : Item) (s : State), s.intakes m = true ∧ (s.ctl.mode = .stop ∨ s.ctl.mode = .run ∨ s.ctl.mode
     = .hold ∨ s.ctl.mode = .service) ∧ i.tagOk = true ∧ i.source < 0x1000 ∧ (s.holdsSame m i = false ∧
     s.intake.isPast i = true)) ∧
    (∃ (t : Nat) (m : Mast) (close : Bool) (s : State), s.proposes m = true ∧ (close = true ∨ 120 ≤
     (((s.intake.masts.get m).staged.filter fun e => !e.proposed).take 120).length ∨ (s.intake.masts.get
     m).lastProposal + 10000 ≤ t)) ∧
    (∃ (m : Mast) (bytes : List Byte) (s : State), s.triadRuns m = true ∧ proposalOk m bytes = true ∧ fieldAt bytes
     8 2 = (s.intake.masts.get m).pseqIn.get (Mast.ofCode (fieldAt bytes 1 1)) ∧ ((Mast.ofCode (fieldAt bytes 1 1)),
     fieldAt bytes 8 2) ∉ (s.intake.masts.get m).missingMsg) ∧
    (∃ (m : Mast) (bytes : List Byte) (k : Nat) (s : State), s.triadRuns m = true ∧ proposalOk m bytes = true ∧
     (fieldAt bytes 8 2 = ((s.intake.masts.get m).pseqIn.get (Mast.ofCode (fieldAt bytes 1 1)) + k) % 65536 ∧
     (s.intake.masts.get m).pseqIn.get (Mast.ofCode (fieldAt bytes 1 1)) < 65536 ∧ k < 32768) ∧ ((Mast.ofCode
     (fieldAt bytes 1 1)), fieldAt bytes 8 2) ∉ (s.intake.masts.get m).missingMsg) ∧
    (∃ (m : Mast) (bytes : List Byte), proposalOk m bytes = false) ∧
    (∃ (m : Mast) (pseq : Nat) (e : Nat × List Byte) (s : State), s.proposes m = true ∧ (s.intake.masts.get
     m).sent.find? (fun e => e.1 == pseq) = some e) :=
  ⟨⟨.a, fieldItem, runState, by decide +kernel⟩,
   ⟨.a, tagged, 3, [4], poolState, by decide +kernel⟩,
   ⟨.a, ⟨0x0101, 1, 5, 0, 0, 0, false, false, [1]⟩, runState, by decide +kernel⟩,
   ⟨.a, fieldItem, fullStage, by decide +kernel⟩,
   ⟨.a, fieldItem, (intakeOf { past := [(0x0101, 1, 4)] }), by decide +kernel⟩,
   ⟨10000, .a, false, stagedState, by decide +kernel⟩,
   ⟨.a, (proposalBytes 1 1 0 true [5]), runState, by decide +kernel⟩,
   ⟨.a, (proposalBytes 1 1 2 false [5]), 2, runState, by decide +kernel⟩,
   ⟨.a, [], by decide +kernel⟩,
   ⟨.a, 6, (6, [2]), sentState, by decide +kernel⟩⟩

theorem witness_IntakeFillsAndRelease :
    (∃ (t : Nat) (obs peer : Mast) (k at' : Nat) (s : State), (s.intake.instant = some (k, at') ∧
     s.intake.releasePending = true) ∧ (s.triadRuns obs = true ∧ obs ≠ peer) ∧ (s.intake.masts.get obs).closed.get
     peer ≠ some (k % 4294967296) ∧ at' + 4000 ≤ t) ∧
    (∃ (t : Nat) (obs peer : Mast) (k at' : Nat) (s : State), (s.intake.instant = some (k, at') ∧
     s.intake.releasePending = true) ∧ (s.triadRuns obs = true ∧ obs ≠ peer) ∧ (s.intake.masts.get obs).closed.get
     peer ≠ some (k % 4294967296) ∧ at' + 4000 ≤ t ∧ s.intake.agreed = []) ∧
    (∃ (m : Mast) (i : Item) (f : FillNeed) (b : Nat) (rest : List Nat) (s : State), s.triadRuns m = true ∧
     (s.intake.masts.get m).fills.find? (fun f => f.source == i.source && f.seq == i.seq && !f.done && f.holders !=
     []) = some f ∧ (({ i with filled := true } : Item).tagOk = true ∧ i.crc = f.crc) ∧ (s.queue.get m).free = b ::
     rest) ∧
    (∃ (m : Mast) (i : Item) (f : FillNeed) (s : State), s.triadRuns m = true ∧ (s.intake.masts.get m).fills.find?
     (fun f => f.source == i.source && f.seq == i.seq && !f.done && f.holders != []) = some f ∧
     (({ i with filled := true } : Item).tagOk = false ∨ i.crc ≠ f.crc)) ∧
    (∃ (t : Nat) (m : Mast) (k at' : Nat) (s : State), (s.intake.instant = some (k, at') ∧ s.intake.releasePending =
     true) ∧ (s.triadRuns m = true ∧ s.votes m = true) ∧ (s.intake.masts.get m).fillFailed = true ∧ (at' + 40000 ≤ t
     ∨ 8192 < (s.intake.masts.get m).fillBytes)) ∧
    (∃ (m : Mast) (source seq : Nat) (e : Staged) (s : State), s.triadRuns m = true ∧ (s.intake.masts.get
     m).staged.find? (fun e => e.item.source == source && e.item.seq == seq) = some e) ∧
    (∃ (k at' : Nat) (s : State), (s.intake.instant = some (k, at') ∧ s.intake.releasePending = true) ∧ (∀ m ∈
     s.voters, (s.intake.masts.get m).fillFailed = false) ∧ (s.ctl.mode = .stop ∨ s.ctl.mode = .run ∨ s.ctl.mode =
     .hold ∨ s.ctl.mode = .service)) :=
  ⟨⟨4000, .a, .b, 4, 0, peersLate, by decide +kernel⟩,
   ⟨4000, .a, .b, 4, 0, peersLate, by decide +kernel⟩,
   ⟨.a, fieldItem, needOf, 3, [4], pooledState, by decide +kernel⟩,
   ⟨.a, { fieldItem with crc := 7 }, needOf, pooledState, by decide +kernel⟩,
   ⟨40000, .a, 4, 0, needyState, by decide +kernel⟩,
   ⟨.a, 0x0101, 1, ⟨fieldItem, 0, 0, false, none⟩, stagedState, by decide +kernel⟩,
   ⟨4, 0, releasing, by decide +kernel⟩⟩

theorem witness_RackOutbound :
    (∃ (m : Mast) (addr size w : Nat) (s : State), s.triadRuns m = true ∧ (regionOf addr = .bridge ∧ w = (addr -
     0x80000000) / 0x04000000) ∧ (s.bridgeOpen = true ∧ s.getF .agreed (owinF fBbOwinCfgEnable w) = 1) ∧ (addr % 4 +
     size ≤ 4 ∧ size ≠ 0) ∧ (∀ x ∈ s.bridge.done ++ s.bridge.txs, x.window ≠ w ∨ x.deposits.get m = true) ∧
     s.owinWidth w ≤ addr % s.owinWidth w + size) ∧
    (∃ (m : Mast) (addr size w : Nat) (s : State), s.triadRuns m = true ∧ (regionOf addr = .bridge ∧ w = (addr -
     0x80000000) / 0x04000000) ∧ (s.bridgeOpen = true ∧ s.getF .agreed (owinF fBbOwinCfgEnable w) = 1) ∧ (addr % 4 +
     size ≤ 4 ∧ size ≠ 0) ∧ (∀ x ∈ s.bridge.done ++ s.bridge.txs, x.window ≠ w ∨ x.deposits.get m = true) ∧ addr %
     s.owinWidth w + size ≤ s.owinWidth w ∧ (∀ x ∈ s.bridge.txs, x.waiting = Per.all none)) ∧
    (∃ (m : Mast) (addr size w : Nat) (write : Bool) (value : Nat) (x : OutTx) (rest : List OutTx) (s : State),
     s.triadRuns m = true ∧ (regionOf addr = .bridge ∧ w = (addr - 0x80000000) / 0x04000000) ∧ (s.bridgeOpen = true
     ∧ s.getF .agreed (owinF fBbOwinCfgEnable w) = 1) ∧ (addr % 4 + size ≤ 4 ∧ size ≠ 0) ∧ addr % s.owinWidth w +
     size ≤ s.owinWidth w ∧ (s.bridge.done = [] ∧ s.bridge.txs = x :: rest) ∧ (x.window = w ∧ x.item.value =
     (outValue (s.owinBase w + lowestRule (s.getF .agreed (owinF fBbOwinCfgRule w) == 1) (addr % 0x04000000) size)
     (if write then (if s.getF .agreed (owinF fBbOwinCfgPosted w) = 1 then 2 else 1) else 0) size (if write then
     natLe size value else [])) ∧ x.deposits.get m = false ∧ x.req = none) ∧ (x ∉ rest ∧ ∀ y ∈ x :: rest, y.kind ≠
     2) ∧ (s.owned 6 = true ∧ s.votes m = true ∧ (s.unit 6).owner ≠ m ∧ x.deposits.get (s.unit 6).owner = true)) ∧
    (∃ (m : Mast) (addr size w : Nat) (s : State), s.triadRuns m = true ∧ (regionOf addr = .bridge ∧ w = (addr -
     0x80000000) / 0x04000000) ∧ (s.bridgeOpen = false ∨ s.getF .agreed (owinF fBbOwinCfgEnable w) ≠ 1 ∨ 4 < addr %
     4 + size)) ∧
    (∃ (x : OutTx) (rest : List OutTx) (parityOk : Bool) (s : State), s.bridge.txs = x :: rest ∧ (x.req.isSome =
     true ∧ s.owned 6 = true) ∧ (x.kind = 0 ∧ parityOk = true ∨ x.kind = 1)) ∧
    (∃ (x : OutTx) (rest : List OutTx) (s : State), s.bridge.txs = x :: rest ∧ (x.req.isSome = true ∧ s.owned 6 =
     true) ∧ x.kind = 2) ∧
    (∃ (x : OutTx) (rest : List OutTx) (s : State), s.bridge.txs = x :: rest ∧ (x.req.isSome = true ∧ s.owned 6 =
     true) ∧ x.kind ≠ 2 ∧ s.log.limits = []) ∧
    (∃ (x : OutTx) (rest : List OutTx) (s : State), s.bridge.txs = x :: rest ∧ (x.req.isSome = true ∧ s.owned 6 =
     true) ∧ x.kind = 2 ∧ s.log.limits = []) ∧
    (∃ (x : OutTx) (rest : List OutTx) (s : State), s.bridge.txs = x :: rest ∧ (x.req.isSome = true ∧ s.owned 6 =
     true) ∧ x.kind = 0 ∧ s.log.limits = []) ∧
    (∃ (t : Nat) (x : OutTx) (rest : List OutTx) (a : Nat) (s : State), s.bridge.txs = x :: rest ∧ x.req = some a ∧
     max s.now t < a + 20000) ∧
    (∃ (t : Nat) (x : OutTx) (rest : List OutTx) (a : Nat) (s : State), s.bridge.txs = x :: rest ∧ (x.req = some a ∧
     x.kind ≠ 2) ∧ a + 20000 ≤ t ∧ s.log.limits = []) ∧
    (∃ (t : Nat) (x : OutTx) (rest : List OutTx) (a : Nat) (s : State), s.bridge.txs = x :: rest ∧ (x.req = some a ∧
     x.kind ≠ 2) ∧ a + 20000 ≤ t ∧ s.log.limits = []) ∧
    (∃ (t : Nat) (x : OutTx) (rest : List OutTx) (s : State), s.bridge.txs = x :: rest ∧ (x.req = none ∧ x.kind ≠ 2)
     ∧ x.formed + 100000 ≤ t ∧ s.log.limits = []) ∧
    (∃ (t : Nat) (x : OutTx) (rest : List OutTx) (a : Nat) (s : State), s.bridge.txs = x :: rest ∧ (x.req = some a ∧
     x.kind = 2) ∧ a + 20000 ≤ t ∧ s.log.limits = []) ∧
    (∃ (t : Nat) (tag : Nat) (x : OutTx) (s : State), s.bridge.done.find? (fun x => x.item.tag == tag &&
     x.agreed.isNone && decide (x.ended + 20000 ≤ max s.now t)) = some x ∧ s.bridge.done.find? (fun x => x.item.tag
     == tag) = some x ∧ x.last = true ∧ (s.bridge.answersTo tag).length ≤ 1) ∧
    (∃ (t : Nat) (tag : Nat) (x : OutTx) (s : State), s.bridge.done.find? (fun x => x.item.tag == tag &&
     x.agreed.isNone && decide (x.ended + 20000 ≤ max s.now t)) = some x ∧ s.bridge.done.find? (fun x => x.item.tag
     == tag) = some x ∧ x.last = false) :=
  ⟨⟨.a, 0x80000000, 4, 0, (winRack.putF .agreed (owinF fBbOwinCfgWidth 0) 0), by decide +kernel⟩,
   ⟨.a, 0x80000000, 4, 0, ((winRack.putF .agreed (owinF fBbOwinCfgPosted 0) 1).putF .agreed (owinF fBbOwinBaseRbase 0) 3), by decide +kernel⟩,
   ⟨.a, 0x80000000, 4, 0, false, 0, ⟨0, 0, 4, true, 0, 0, 0, 0, Item.form 0xE200 0 0 (outValue 0 0 4 []), ⟨false, true, true, false⟩, ⟨none, some .p, some .p, none⟩, 0, none, 0, none⟩, [], { winRack with bridge := { winRack.bridge with txs := [⟨0, 0, 4, true, 0, 0, 0, 0, Item.form 0xE200 0 0 (outValue 0 0 4 []), ⟨false, true, true, false⟩, ⟨none, some .p, some .p, none⟩, 0, none, 0, none⟩] } }, by decide +kernel⟩,
   ⟨.a, 0x80000000, 4, 0, openRack, by decide +kernel⟩,
   ⟨{ rackTx (some 0) with kind := 0 }, [], true, rackState ({ rackTx (some 0) with kind := 0 }), by decide +kernel⟩,
   ⟨{ rackTx (some 0) with kind := 2 }, [], rackState ({ rackTx (some 0) with kind := 2 }), by decide +kernel⟩,
   ⟨{ rackTx (some 0) with kind := 1 }, [], rackState ({ rackTx (some 0) with kind := 1 }), by decide +kernel⟩,
   ⟨{ rackTx (some 0) with kind := 2 }, [], rackState ({ rackTx (some 0) with kind := 2 }), by decide +kernel⟩,
   ⟨{ rackTx (some 0) with kind := 0 }, [], rackState ({ rackTx (some 0) with kind := 0 }), by decide +kernel⟩,
   ⟨0, { rackTx (some 0) with kind := 0 }, [], 0, rackState ({ rackTx (some 0) with kind := 0 }), by decide +kernel⟩,
   ⟨20000, { rackTx (some 0) with kind := 0 }, [], 0, rackState ({ rackTx (some 0) with kind := 0 }), by decide +kernel⟩,
   ⟨20000, { rackTx (some 0) with kind := 0 }, [], 0, rackState ({ rackTx (some 0) with kind := 0 }), by decide +kernel⟩,
   ⟨100000, { rackTx (none) with kind := 0 }, [], rackState ({ rackTx (none) with kind := 0 }), by decide +kernel⟩,
   ⟨20000, { rackTx (some 0) with kind := 2 }, [], 0, rackState ({ rackTx (some 0) with kind := 2 }), by decide +kernel⟩,
   ⟨20000, tagged.tag, rackTx (some 0), answeredRack, by decide +kernel⟩,
   ⟨20000, tagged.tag, { rackTx (some 0) with last := false }, { openRack with bridge := { openRack.bridge with done := [{ rackTx (some 0) with last := false }] } }, by decide +kernel⟩⟩

theorem witness_RackInboundAndQueues :
    (∃ (t : Nat) (raddr be ad w : Nat) (l : List (Nat × Byte)) (s : State), s.inWindow raddr = some w ∧
     (s.inSelected = true ∧ (s.advance t).inSelected = true) ∧ (s.inRetry = false ∧ s.bridge.inbuf < 64) ∧ (l =
     inBytes (s.getF .agreed (owinF fBbIwinCfgRule w) == 1) (raddr % 4096) be ad ∧ l ≠ [])) ∧
    (∃ (t : Nat) (raddr : Nat) (s : State), (s.inWindow raddr = none ∨ s.inSelected = false ∧ (s.advance
     t).inSelected = false)) ∧
    (∃ (t : Nat) (raddr w : Nat) (s : State), s.inWindow raddr = some w ∧ (s.inSelected = true ∧ (s.advance
     t).inSelected = true) ∧ (s.inRetry = true ∨ 64 ≤ s.bridge.inbuf)) ∧
    (∃ (t : Nat) (raddr w : Nat) (s : State), s.inWindow raddr = some w ∧ (s.inSelected = true ∧ (s.advance
     t).inSelected = true) ∧ (s.inRetry = false ∧ s.bridge.inbuf < 64) ∧ s.log.limits = []) ∧
    (∃ (t : Nat) (raddr w : Nat) (v : Word) (s : State), s.inWindow raddr = some w ∧ (s.inSelected = true ∧
     (s.advance t).inSelected = true) ∧ (s.inRetry = false ∧ (s.bridge.copying.all (fun c => !bitOf c.1 w)) = true)
     ∧ s.exposed (4096 * w + raddr % 4096 / 4 * 4) = some v) ∧
    (∃ (t : Nat) (raddr : Nat) (s : State), (s.inWindow raddr = none ∨ s.inSelected = false ∧ (s.advance
     t).inSelected = false)) ∧
    (∃ (t : Nat) (raddr w : Nat) (s : State), s.inWindow raddr = some w ∧ (s.inSelected = true ∧ (s.advance
     t).inSelected = true) ∧ (s.inRetry = true ∨ (s.bridge.copying.any (fun c => bitOf c.1 w)) = true)) ∧
    (∃ (t : Nat) (raddr w : Nat) (s : State), s.inWindow raddr = some w ∧ (s.inSelected = true ∧ (s.advance
     t).inSelected = true) ∧ (s.inRetry = false ∧ s.bridge.copying = none) ∧ s.exposed (4096 * w + raddr % 4096 / 4
     * 4) = none ∧ s.log.limits = []) ∧
    (∃ (e : PweEntry) (rest : List PweEntry) (s : State), s.bridge.pwe = e :: rest ∧ (e.window < 16 ∧ e.result < 8)) ∧
    (∃ (s : State), s.bridge.pwe = []) ∧
    (∃ (m : Mast) (s : State), s.triadRuns m = true) ∧
    (∃ (c : Nat × Nat) (s : State), s.bridge.copying = some c ∧ c.2 < 65536) ∧
    (∃ (levels : Nat) (s : State), s.bridgeOpen = true ∧ ((BitVec.ofNat 8 levels ^^^ BitVec.ofNat 8
     s.bridge.intSample) &&& BitVec.ofNat 8 (s.getF .agreed fBbCtrlIntMask)) ≠ 0) ∧
    (∃ (levels : Nat) (s : State), s.bridgeOpen = true ∧ ((BitVec.ofNat 8 levels ^^^ BitVec.ofNat 8
     s.bridge.intSample) &&& BitVec.ofNat 8 (s.getF .agreed fBbCtrlIntMask)) = 0) ∧
    (∃ (value result : Nat) (s : State), (s.bridgeOpen = true ∧ 1 ≤ s.bridge.nSb) ∧ ((s.bridge.sideband.find? (fun e
     => e.1 == 0)).elim (0, 0) (fun e => e.2)) ≠ (if result = 0 then value % 4294967296 else 0, result)) ∧
    (∃ (results : List (Nat × Nat)) (s : State), s.bridgeOpen = true ∧ (results.length ≤ s.bridge.nSb ∧ s.bridge.nSb
     ≤ 32) ∧ (∀ k < results.length, (s.bridge.sideband.find? (fun e => e.1 == k)).elim (0, 0) (fun e => e.2) ≠ (if
     (results.getD k (0, 0)).2 = 0 then (results.getD k (0, 0)).1 % 4294967296 else 0, (results.getD k (0, 0)).2))) ∧
    (∃ (value : Nat) (s : State), (s.bridgeOpen = true ∧ 1 ≤ s.bridge.nSb) ∧ ((s.bridge.sideband.find? (fun e => e.1
     == 0)).elim (0, 0) (fun e => e.2)) = (value % 4294967296, 0)) :=
  ⟨⟨0, 0x5010, 15, 7, 1, (inBytes false 0x10 15 7), inRack, by decide +kernel⟩,
   ⟨0, 0x6000, inRack, by decide +kernel⟩,
   ⟨0, 0x5010, 1, { inRack with bridge := { inRack.bridge with inbuf := 64 } }, by decide +kernel⟩,
   ⟨0, 0x5010, 1, inRack, by decide +kernel⟩,
   ⟨0, 0x5010, 1, 0, inRack, by decide +kernel⟩,
   ⟨0, 0x6000, inRack, by decide +kernel⟩,
   ⟨0, 0x5010, 1, { inRack with bridge := { inRack.bridge with copying := some (2, 9) } }, by decide +kernel⟩,
   ⟨0, 0x5010, 1, { inRack with lane := { inRack.lane with lane := .duplex, active := ⟨true, true, false, false⟩ }, bridge := { inRack.bridge with live := ⟨[(4112, 5)], [], [], []⟩ } }, by decide +kernel⟩,
   ⟨⟨3, 1, 0x44, 0x500000002, 7000000009⟩, [⟨4, 2, 0, 0, 0⟩], pweState, by decide +kernel⟩,
   ⟨runState, by decide +kernel⟩,
   ⟨.a, runState, by decide +kernel⟩,
   ⟨(1, 77), copyState, by decide +kernel⟩,
   ⟨0x101, (openRack.putF .agreed fBbCtrlIntMask 1), by decide +kernel⟩,
   ⟨0x101, (openRack.putF .agreed fBbCtrlIntMask 0), by decide +kernel⟩,
   ⟨7, 1, { openRack with bridge := { openRack.bridge with nSb := 1 } }, by decide +kernel⟩,
   ⟨[(7, 0), (0, 1)], { openRack with bridge := { openRack.bridge with nSb := 2 } }, by decide +kernel⟩,
   ⟨0, { openRack with bridge := { openRack.bridge with nSb := 1 } }, by decide +kernel⟩⟩

theorem witness_TimeServo :
    (∃ (gm port proto : Nat) (off : Int) (s : State), (s.ctl.mode ≠ .boot ∧ s.ctl.mode ≠ .standby ∧ s.voters ≠ []) ∧
     (s.time.protocol = proto ∧ (proto = 1 ∨ proto = 2)) ∧ s.getF .agreed fSlStatRole ≠ 1 ∧ (s.time.roles[port - 1]?
     = some 1 ∨ s.time.roles[port - 1]? = some 3) ∧ (s.time.accept = [] ∨ s.time.accept.contains gm = true) ∧
     (s.time.gm = some gm ∧ s.time.gmPort = port) ∧ s.servo = tbAcquiring ∧ (off.natAbs ≤ 1000 ∧ (off.natAbs ≤
     s.stepLimit ∨ s.getF .agreed fTbStatAcqDone = 0)) ∧ s.time.within < 15) ∧
    (∃ (gm port proto : Nat) (off : Int) (s : State), (s.ctl.mode ≠ .boot ∧ s.ctl.mode ≠ .standby ∧ s.voters ≠ []) ∧
     (s.time.protocol = proto ∧ (proto = 1 ∨ proto = 2)) ∧ s.getF .agreed fSlStatRole ≠ 1 ∧ (s.time.roles[port - 1]?
     = some 1 ∨ s.time.roles[port - 1]? = some 3) ∧ (s.time.accept = [] ∨ s.time.accept.contains gm = true) ∧
     (s.time.gm = some gm ∧ s.time.gmPort = port) ∧ s.servo = tbAcquiring ∧ (off.natAbs ≤ 1000 ∧ (off.natAbs ≤
     s.stepLimit ∨ s.getF .agreed fTbStatAcqDone = 0)) ∧ 15 ≤ s.time.within) ∧
    (∃ (gm port proto : Nat) (off : Int) (s : State), (s.ctl.mode ≠ .boot ∧ s.ctl.mode ≠ .standby ∧ s.voters ≠ []) ∧
     (s.time.protocol = proto ∧ (proto = 1 ∨ proto = 2)) ∧ s.getF .agreed fSlStatRole ≠ 1 ∧ (s.time.roles[port - 1]?
     = some 1 ∨ s.time.roles[port - 1]? = some 3) ∧ (s.time.accept = [] ∨ s.time.accept.contains gm = true) ∧
     (s.time.gm = some gm ∧ s.time.gmPort = port) ∧ s.servo = tbAcquiring ∧ (1000 < off.natAbs ∧ (off.natAbs ≤
     s.stepLimit ∨ s.getF .agreed fTbStatAcqDone = 0))) ∧
    (∃ (gm port proto : Nat) (s : State), (s.ctl.mode ≠ .boot ∧ s.ctl.mode ≠ .standby ∧ s.voters ≠ []) ∧
     (s.time.protocol = proto ∧ (proto = 1 ∨ proto = 2)) ∧ s.getF .agreed fSlStatRole ≠ 1 ∧ (s.time.roles[port - 1]?
     = some 1 ∨ s.time.roles[port - 1]? = some 3) ∧ (s.time.accept = [] ∨ s.time.accept.contains gm = true) ∧
     (s.time.gm = some gm ∧ s.time.gmPort = port) ∧ s.servo = tbUnset) ∧
    (∃ (gm port proto : Nat) (off : Int) (s : State), (s.ctl.mode ≠ .boot ∧ s.ctl.mode ≠ .standby ∧ s.voters ≠ []) ∧
     (s.time.protocol = proto ∧ (proto = 1 ∨ proto = 2)) ∧ s.getF .agreed fSlStatRole ≠ 1 ∧ (s.time.roles[port - 1]?
     = some 1 ∨ s.time.roles[port - 1]? = some 3) ∧ (s.time.accept = [] ∨ s.time.accept.contains gm = true) ∧
     (s.time.gm = some gm ∧ s.time.gmPort = port) ∧ (s.servo = tbHoldover ∨ s.servo = tbRefused) ∧ off.natAbs ≤
     s.stepLimit) ∧
    (∃ (gm port proto : Nat) (off : Int) (s : State), (s.ctl.mode ≠ .boot ∧ s.ctl.mode ≠ .standby ∧ s.voters ≠ []) ∧
     (s.time.protocol = proto ∧ (proto = 1 ∨ proto = 2)) ∧ s.getF .agreed fSlStatRole ≠ 1 ∧ (s.time.roles[port - 1]?
     = some 1 ∨ s.time.roles[port - 1]? = some 3) ∧ (s.time.accept = [] ∨ s.time.accept.contains gm = true) ∧
     (s.time.gm = some gm ∧ s.time.gmPort = port) ∧ (s.servo = tbLocked ∧ off.natAbs ≤ s.stepLimit ∨ s.servo =
     tbRefused ∧ s.stepLimit < off.natAbs)) ∧
    (∃ (gm port proto : Nat) (off : Int) (s : State), (s.ctl.mode ≠ .boot ∧ s.ctl.mode ≠ .standby ∧ s.voters ≠ []) ∧
     (s.time.protocol = proto ∧ (proto = 1 ∨ proto = 2)) ∧ s.getF .agreed fSlStatRole ≠ 1 ∧ (s.time.roles[port - 1]?
     = some 1 ∨ s.time.roles[port - 1]? = some 3) ∧ (s.time.accept = [] ∨ s.time.accept.contains gm = true) ∧
     (s.time.gm = some gm ∧ s.time.gmPort = port) ∧ (s.servo = tbLocked ∨ s.servo = tbHoldover ∨ s.servo =
     tbAcquiring ∧ s.getF .agreed fTbStatAcqDone = 1) ∧ s.stepLimit < off.natAbs) ∧
    (∃ (t : Nat) (gm port proto : Nat) (a : Announce) (s : State), (s.ctl.mode ≠ .boot ∧ s.ctl.mode ≠ .standby ∧
     s.voters ≠ []) ∧ (s.time.protocol = proto ∧ (proto = 1 ∨ proto = 2)) ∧ s.getF .agreed fSlStatRole ≠ 1 ∧
     (s.time.roles[port - 1]? = some 1 ∨ s.time.roles[port - 1]? = some 3) ∧ (s.time.accept = [] ∨
     s.time.accept.contains gm = true) ∧
     { s.advance t with time := { (s.advance t).time with heard := ⟨gm, port, a, max s.now t⟩ :: s.time.heard.filter (fun h => !(h.gm == gm && h.port == port)) } }.bestMaster
     = some ⟨gm, port, a, max s.now t⟩ ∧ (1 ≤ port ∧ port ≤ 4)) ∧
    (∃ (t : Nat) (s : State), s.time.following = true ∧ (s.servo = tbLocked ∨ s.servo = tbRefused) ∧ (s.getF .agreed
     fTbStatSrc ≠ 3 ∧ s.time.syncAt + 3 * logNs s.time.logSync ≤ t ∨ s.getF .agreed fTbStatSrc = 3 ∧ s.time.frameAt
     + 3 * max 1 (s.getF .agreed fTbAicycleCycleUs * 1000) ≤ t)) ∧
    (∃ (t : Nat) (s : State), s.time.following = true ∧ (s.servo = tbLocked ∨ s.servo = tbRefused) ∧ s.getF .agreed
     fTbStatSrc ≠ 3 ∧ (∀ h ∈ s.time.heard, h.at' + s.time.annTimeout * logNs s.time.logAnnounce ≤ t)) ∧
    (∃ (t : Nat) (s : State), s.time.following = true ∧ (s.servo ≠ tbLocked ∧ s.servo ≠ tbRefused) ∧ (s.getF .agreed
     fTbStatSrc ≠ 3 ∧ s.time.syncAt + 3 * logNs s.time.logSync ≤ t)) ∧
    (∃ (writers : Per Bool) (value : Word) (s : State), s.agreed writers = true ∧ (s.ctl.mode ≠ .standby ∧
     s.time.protocol ≠ 0) ∧ value.toInt.natAbs ≤ s.stepLimit) ∧
    (∃ (writers : Per Bool) (value : Word) (s : State), s.agreed writers = true ∧ (s.ctl.mode ≠ .standby ∧
     s.time.protocol ≠ 0) ∧ s.stepLimit < value.toInt.natAbs) ∧
    (∃ (s : State), (s.ctl.mode = .standby ∨ s.time.protocol = 0)) ∧
    (∃ (writers : Per Bool) (s : State), s.agreed writers = true ∧ (s.ctl.mode = .service ∨ s.ctl.mode = .stop)) ∧
    (∃ (writers : Per Bool) (s : State), s.agreed writers = true ∧ (s.ctl.mode = .service ∨ s.ctl.mode = .stop) ∧ (∀
     m ∈ Mast.all, ∀ n < 64, s.cmp m n fTbCmpcfgArm = 0)) ∧
    (∃ (writers : Per Bool) (s : State), s.agreed writers = true ∧ (s.servo ≤ tbAcquiring ∧ s.getF .agreed
     fTbStatAcqDone = 0)) ∧
    (∃ (writers : Per Bool) (s : State), s.agreed writers = true ∧ (s.servo ≤ tbAcquiring ∧ s.getF .agreed
     fTbStatAcqDone = 0) ∧ (∀ m ∈ Mast.all, ∀ n < 64, s.cmp m n fTbCmpcfgArm = 0)) ∧
    (∃ (writers : Per Bool) (key : Nat) (s : State), (s.agreed writers = false ∨ key ≠ 0x5453 ∨ s.ctl.mode ≠
     .service ∧ s.ctl.mode ≠ .stop)) :=
  ⟨⟨7, 2, 1, -1000, (({ slaveState with time := { slaveState.time with gm := some 7, gmPort := 2, within := 14 } }.putF .agreed fTbStatState 1).putF .agreed fTbSteplimLimitUs 100), by decide +kernel⟩,
   ⟨7, 2, 1, -1000, (({ slaveState with time := { slaveState.time with gm := some 7, gmPort := 2, within := 15 } }.putF .agreed fTbStatState 1).putF .agreed fTbSteplimLimitUs 100), by decide +kernel⟩,
   ⟨7, 2, 1, 1001, (({ slaveState with time := { slaveState.time with gm := some 7, gmPort := 2, within := 9 } }.putF .agreed fTbStatState 1).putF .agreed fTbSteplimLimitUs 100), by decide +kernel⟩,
   ⟨7, 2, 1, (({ slaveState with time := { slaveState.time with gm := some 7, gmPort := 2, within := 0 } }.putF .agreed fTbStatState 0).putF .agreed fTbSteplimLimitUs 100), by decide +kernel⟩,
   ⟨7, 2, 1, 100000, (({ slaveState with time := { slaveState.time with gm := some 7, gmPort := 2, within := 0 } }.putF .agreed fTbStatState tbHoldover).putF .agreed fTbSteplimLimitUs 100), by decide +kernel⟩,
   ⟨7, 2, 1, 100000, (({ slaveState with time := { slaveState.time with gm := some 7, gmPort := 2, within := 0 } }.putF .agreed fTbStatState tbLocked).putF .agreed fTbSteplimLimitUs 100), by decide +kernel⟩,
   ⟨7, 2, 1, 100001, (({ slaveState with time := { slaveState.time with gm := some 7, gmPort := 2, within := 0 } }.putF .agreed fTbStatState tbLocked).putF .agreed fTbSteplimLimitUs 100), by decide +kernel⟩,
   ⟨0, 9, 2, 1, ⟨1, 6, 0x20, 0, 1, 0⟩, { slaveState with time := { slaveState.time with gm := some 7, gmPort := 2, roles := [0, 3, 0, 0] } }, by decide +kernel⟩,
   ⟨3000000000, lockedState, by decide +kernel⟩,
   ⟨1, lockedState, by decide +kernel⟩,
   ⟨3000000000, lockedState.putF .agreed fTbStatState 1, by decide +kernel⟩,
   ⟨⟨true, true, false, false⟩, 0xFFFFFFFF, ({ runState with time := { runState.time with protocol := 1 } }.putF .agreed fTbSteplimLimitUs 1), by decide +kernel⟩,
   ⟨⟨true, true, false, false⟩, 1001, ({ runState with time := { runState.time with protocol := 1 } }.putF .agreed fTbSteplimLimitUs 1), by decide +kernel⟩,
   ⟨runState, by decide +kernel⟩,
   ⟨⟨true, true, false, false⟩, stepState, by decide +kernel⟩,
   ⟨⟨true, true, false, false⟩, stepState, by decide +kernel⟩,
   ⟨⟨true, true, false, false⟩, stepState, by decide +kernel⟩,
   ⟨⟨true, true, false, false⟩, stepState, by decide +kernel⟩,
   ⟨⟨true, true, false, false⟩, 0x5453, runState, by decide +kernel⟩⟩

theorem witness_TimeReadsAndQueries :
    (∃ (m : Mast) (s : State), s.triadRuns m = true) ∧
    (∃ (m : Mast) (ax : Nat) (s : State), s.triadRuns m = true ∧ (ax = 1 ∨ ax = 2)) ∧
    (∃ (m : Mast) (port : Nat) (q : StampQueue) (e : TxStamp) (rest : List TxStamp) (s : State), s.triadRuns m =
     true ∧ (1 ≤ port ∧ port ≤ 4) ∧ s.time.stamps[port - 1]? = some q ∧ q.queue.get m = e :: rest ∧ (e.id < 65536 ∧
     rest.length < 16)) ∧
    (∃ (m : Mast) (port : Nat) (q : StampQueue) (s : State), s.triadRuns m = true ∧ (1 ≤ port ∧ port ≤ 4) ∧
     s.time.stamps[port - 1]? = some q ∧ q.queue.get m = []) ∧
    (∃ (m : Mast) (value : Word) (s : State), s.triadRuns m = true ∧ getBits value 31 31 = 1) ∧
    (∃ (m : Mast) (value : Word) (s : State), s.triadRuns m = true ∧ getBits value 31 31 = 0) ∧
    (∃ (m : Mast) (n : Nat) (s : State), s.pos.query.get m = some n) :=
  ⟨⟨.a, runState, by decide +kernel⟩,
   ⟨.a, 2, runState, by decide +kernel⟩,
   ⟨.a, 2, { queue := ⟨[⟨5, 7000000009, 0⟩], [], [], []⟩ }, ⟨5, 7000000009, 0⟩, [], stampState, by decide +kernel⟩,
   ⟨.a, 1, {}, stampState, by decide +kernel⟩,
   ⟨.a, 0x80010000, runState, by decide +kernel⟩,
   ⟨.a, 0x00010000, runState, by decide +kernel⟩,
   ⟨.a, 0, queryState, by decide +kernel⟩⟩

theorem witness_ComparatorsAndTachometer :
    (∃ (t : Nat) (m : Mast) (n : Nat) (value : Word) (s : State), s.triadRuns m = true ∧ n ≤ 63 ∧ getBits (s.reg
     (.mast m) (rTbCmpcfg + 0x20 * n)) 0 0 = 0 ∧ (getBits value 0 0 = 0 ∨ (s.setReg (.mast m) (rTbCmpcfg + 0x20 * n)
     (value &&& cmpCfgMask)).armReason m n = 0 ∧ (getBits (value &&& cmpCfgMask) 3 1 ≠ 1 ∨ (s.advance t).tbNs m ≤
     s.cmpTime m n))) ∧
    (∃ (m : Mast) (n : Nat) (value : Word) (r : Nat) (s : State), s.triadRuns m = true ∧ n ≤ 63 ∧ getBits (s.reg
     (.mast m) (rTbCmpcfg + 0x20 * n)) 0 0 = 0 ∧ getBits value 0 0 = 1 ∧ ((s.setReg (.mast m) (rTbCmpcfg + 0x20 * n)
     (value &&& cmpCfgMask)).armReason m n = r ∧ r ≠ 0)) ∧
    (∃ (t : Nat) (m : Mast) (n : Nat) (value : Word) (s : State), s.triadRuns m = true ∧ n ≤ 63 ∧ getBits (s.reg
     (.mast m) (rTbCmpcfg + 0x20 * n)) 0 0 = 0 ∧ getBits value 0 0 = 1 ∧ ((s.setReg (.mast m) (rTbCmpcfg + 0x20 * n)
     (value &&& cmpCfgMask)).armReason m n = 0 ∧ getBits (value &&& cmpCfgMask) 3 1 = 1) ∧ s.cmpTime m n <
     (s.advance t).tbNs m ∧ (s.setReg (.mast m) (rTbCmpcfg + 0x20 * n) (value &&& cmpCfgMask)).cmp m n fTbCmpcfgPast
     = 1) ∧
    (∃ (t : Nat) (m : Mast) (n : Nat) (value : Word) (s : State), s.triadRuns m = true ∧ n ≤ 63 ∧ getBits (s.reg
     (.mast m) (rTbCmpcfg + 0x20 * n)) 0 0 = 0 ∧ getBits value 0 0 = 1 ∧ ((s.setReg (.mast m) (rTbCmpcfg + 0x20 * n)
     (value &&& cmpCfgMask)).armReason m n = 0 ∧ getBits (value &&& cmpCfgMask) 3 1 = 1) ∧ s.cmpTime m n <
     (s.advance t).tbNs m ∧ ((s.setReg (.mast m) (rTbCmpcfg + 0x20 * n) (value &&& cmpCfgMask)).cmp m n
     fTbCmpcfgPast = 0 ∧ (s.setReg (.mast m) (rTbCmpcfg + 0x20 * n) (value &&& cmpCfgMask)).cmp m n
     fTbCmpcfgPeriodic = 0 ∧ (s.setReg (.mast m) (rTbCmpcfg + 0x20 * n) (value &&& cmpCfgMask)).cmp m n fTbCmpcfgEvt
     = 0 ∧ (s.setReg (.mast m) (rTbCmpcfg + 0x20 * n) (value &&& cmpCfgMask)).cmp m n fTbCmpcfgDma = 0 ∧ (s.setReg
     (.mast m) (rTbCmpcfg + 0x20 * n) (value &&& cmpCfgMask)).cmp m n fTbCmpcfgOut = 0 ∧ (s.setReg (.mast m)
     (rTbCmpcfg + 0x20 * n) (value &&& cmpCfgMask)).cmp m n fTbCmpcfgDbus = 0) ∧ s.log.limits = []) ∧
    (∃ (m : Mast) (n : Nat) (value : Word) (s : State), s.triadRuns m = true ∧ n ≤ 63 ∧ getBits (s.reg (.mast m)
     (rTbCmpcfg + 0x20 * n)) 0 0 = 1 ∧ value &&& cmpCfgMask ≠ s.reg (.mast m) (rTbCmpcfg + 0x20 * n) &&& cmpCfgMask) ∧
    (∃ (t : Nat) (m : Mast) (n : Nat) (s : State), s.triadRuns m = true ∧ (n < 64 ∧ ∀ k < 64, k ≠ n → s.cmp m k
     fTbCmpcfgArm = 0) ∧ (s.cmpTimed m n = true ∧ s.cmpTime m n ≤ (s.advance t).tbNs m) ∧ (s.cmp m n
     fTbCmpcfgPeriodic = 0 ∧ s.cmp m n fTbCmpcfgEvt = 0 ∧ s.cmp m n fTbCmpcfgDma = 0 ∧ s.cmp m n fTbCmpcfgOut = 0)) ∧
    (∃ (t : Nat) (m : Mast) (n : Nat) (s : State), s.triadRuns m = true ∧ (n < 64 ∧ ∀ k < 64, k ≠ n → s.cmp m k
     fTbCmpcfgArm = 0) ∧ (s.cmpTimed m n = true ∧ s.cmpTime m n ≤ (s.advance t).tbNs m) ∧ (s.cmp m n
     fTbCmpcfgPeriodic = 0 ∧ s.cmp m n fTbCmpcfgEvt = 1 ∧ s.cmp m n fTbCmpcfgLog = 1 ∧ s.cmp m n fTbCmpcfgDma = 0 ∧
     s.cmp m n fTbCmpcfgOut = 0 ∧ s.cmp m n fTbCmpcfgIrqP = 0 ∧ s.cmp m n fTbCmpcfgIrqC = 0)) ∧
    (∃ (t : Nat) (m : Mast) (n : Nat) (s : State), s.triadRuns m = true ∧ (n < 64 ∧ ∀ k < 64, k ≠ n → s.cmp m k
     fTbCmpcfgArm = 0) ∧ (s.cmpTimed m n = true ∧ s.cmpTime m n ≤ (s.advance t).tbNs m) ∧ (s.cmp m n
     fTbCmpcfgPeriodic = 1 ∧ s.cmp m n fTbCmpcfgEvt = 0 ∧ s.cmp m n fTbCmpcfgDma = 0 ∧ s.cmp m n fTbCmpcfgOut = 0) ∧
     (s.cmp m n fTbCmpperNs ≤ 4000000000 ∧ s.cmpTime m n < 2 ^ 62)) ∧
    (∃ (t : Nat) (ax : Nat) (channel : Nat) (s : State), (s.advance t).tachOn = true ∧ (ax = 1 ∨ ax = 2) ∧ channel ≤
     1 ∧ s.supply.tach ax = none ∧ ((if channel = 0 then (s.pos.front ax).lastB else (s.pos.front ax).lastA).all
     (fun l => decide (l + 2000 ≤ max s.now t))) = true) ∧
    (∃ (t : Nat) (ax : Nat) (channel : Nat) (s : State), (s.advance t).tachOn = true ∧ (ax = 1 ∨ ax = 2) ∧ channel ≤
     1 ∧ s.supply.tach ax = none ∧ ((if channel = 0 then (s.pos.front ax).lastB else (s.pos.front ax).lastA).all
     (fun l => decide (l + 2000 ≤ max s.now t))) = true ∧ s.sup.params = none ∧ (recentEdges (max s.now t)
     (s.pos.front ax).recent).length < 110000) ∧
    (∃ (t : Nat) (ax : Nat) (channel : Nat) (l : Nat) (s : State), (s.advance t).tachOn = true ∧ (ax = 1 ∨ ax = 2) ∧
     channel ≤ 1 ∧ s.supply.tach ax = none ∧ ((if channel = 0 then (s.pos.front ax).lastB else (s.pos.front
     ax).lastA) = some l ∧ max s.now t < l + 2000) ∧ s.log.limits = []) ∧
    (∃ (t : Nat) (ax : Nat) (s : State), (ax = 1 ∨ ax = 2) ∧ (recentEdges (max s.now t) (s.pos.front
     ax).recent).length ≤ 110000) :=
  ⟨⟨0, .a, 63, 3, ((runState.setReg (.mast .a) (rTbCmpcfg + 0x20 * 63) 0).putF (.mast .a) (cmpF fTbCmpt1Value 63) 9), by decide +kernel⟩,
   ⟨.a, 63, 1, 4, (runState.setReg (.mast .a) (rTbCmpcfg + 0x20 * 63) 0), by decide +kernel⟩,
   ⟨0, .a, 63, (BitVec.ofNat 32 (3 + 2 ^ fTbCmpcfgPast.lo)), (((({ runState with time := { runState.time with tb := Per.all (9 * 4294967296) } }.setReg (.mast .a) (rTbCmpcfg + 0x20 * 63) 0).setReg (.mast .a) (cmpF fTbCmpt1Value 63).addr 0).setReg (.mast .a) (cmpF fTbCmpt2Value 63).addr 0).putF (.mast .a) (cmpF fTbCmpt0Value 63) 5), by decide +kernel⟩,
   ⟨0, .a, 63, 3, (((({ runState with time := { runState.time with tb := Per.all (9 * 4294967296) } }.setReg (.mast .a) (rTbCmpcfg + 0x20 * 63) 0).setReg (.mast .a) (cmpF fTbCmpt1Value 63).addr 0).setReg (.mast .a) (cmpF fTbCmpt2Value 63).addr 0).putF (.mast .a) (cmpF fTbCmpt0Value 63) 5), by decide +kernel⟩,
   ⟨.a, 3, 0xFFFFFFFF, timerState, by decide +kernel⟩,
   ⟨9, .a, 3, timerState, by decide +kernel⟩,
   ⟨9, .a, 3, ((timerState.putF (.mast .a) (cmpF fTbCmpcfgEvt 3) 1).putF (.mast .a) (cmpF fTbCmpcfgLog 3) 1), by decide +kernel⟩,
   ⟨9, .a, 3, ((timerState.putF (.mast .a) (cmpF fTbCmpcfgPeriodic 3) 1).putF (.mast .a) (cmpF fTbCmpperNs 3) 1000), by decide +kernel⟩,
   ⟨0, 1, 1, countingState, by decide +kernel⟩,
   ⟨0, 1, 0, countingState, by decide +kernel⟩,
   ⟨0, 1, 0, 0, { countingState with pos := { countingState.pos with front1 := { lastB := some 0 } } }, by decide +kernel⟩,
   ⟨0, 1, overState, by decide +kernel⟩⟩

theorem witness_DoorBusStatesAndSlots :
    (∃ (b : Nat) (s : State), b < 2 ∧ ((s.bus b).state = .integrate ∧ 8 ≤ (s.bus b).sentCycles)) ∧
    (∃ (b : Nat) (s : State), b < 2 ∧ ((s.bus b).state = .recover ∧ 2 ≤ (s.bus b).sentCycles)) ∧
    (∃ (t : Nat) (b : Nat) (writers : Per Bool) (s : State), b < 2 ∧ (s.agreed writers = true ∧ (s.advance
     t).unlocked = true) ∧ s.ctl.mode = .service ∧ (s.bus b).state = .normal) ∧
    (∃ (t : Nat) (b : Nat) (writers : Per Bool) (s : State), b < 2 ∧ (s.agreed writers = true ∧ (s.advance
     t).unlocked = true) ∧ (s.ctl.mode ≠ .service ∨ (s.bus b).state ≠ .normal)) ∧
    (∃ (t : Nat) (b : Nat) (writers : Per Bool) (s : State), b < 2 ∧ (s.agreed writers = true ∧ (s.advance
     t).unlocked = true) ∧ (s.bus b).state = .test) ∧
    (∃ (t : Nat) (b : Nat) (writers : Per Bool) (s : State), b < 2 ∧ (s.agreed writers = true ∧ (s.advance
     t).unlocked = true) ∧ (s.bus b).state ≠ .test) ∧
    (∃ (b : Nat) (slot : Nat) (sc : FbSchedule) (e : FbSlot) (s : State), (b < 2 ∧ (s.bus b).state ≠ .off) ∧ ((s.bus
     b).sched = some sc ∧ (s.bus b).slot slot = some e) ∧ ((e.kind = .masterOut ∨ e.kind = .spareOut ∧ (sc.slots.any
     (fun g => g.kind == .spareIn && g.link == slot && (((s.bus b).grant g.slot).any (fun q => q.first.isSome)))) =
     true)) ∧ (s.lane.mute = false ∧ ([0, 1].any (fun ch => s.owned (2 + 2 * b + ch) && s.voters.any (fun m => m !=
     (s.unit (2 + 2 * b + ch)).owner && (s.mast m).alive))) = true) ∧ (s.bus b).state ≠ .test ∧ (s.ctl.mode ≠ .run ∧
     s.ctl.mode ≠ .hold)) ∧
    (∃ (b : Nat) (slot : Nat) (sc : FbSchedule) (e : FbSlot) (i : Item) (s : State), (b < 2 ∧ (s.bus b).state ≠
     .off) ∧ ((s.bus b).sched = some sc ∧ (s.bus b).slot slot = some e) ∧ ((e.kind = .masterOut ∨ e.kind = .spareOut
     ∧ (sc.slots.any (fun g => g.kind == .spareIn && g.link == slot && (((s.bus b).grant g.slot).any (fun q =>
     q.first.isSome)))) = true)) ∧ (s.lane.mute = false ∧ ([0, 1].any (fun ch => s.owned (2 + 2 * b + ch) &&
     s.voters.any (fun m => m != (s.unit (2 + 2 * b + ch)).owner && (s.mast m).alive))) = true) ∧ (s.ctl.mode = .run
     ∨ s.ctl.mode = .hold) ∧ (s.bus b).state ≠ .test ∧ (e.gated = false ∧ e.slot = slot) ∧ (s.lane.inForce.find?
     (fun i => i.source == 0xA000 + 0x100 * b + e.slot) = some i ∧ i.len = e.payload ∧ i.tagOk = true)) ∧
    (∃ (m : Mast) (b : Nat) (slot : Nat) (sc : FbSchedule) (e : FbSlot) (i : Item) (s : State), (b < 2 ∧ (s.bus
     b).state ≠ .off) ∧ ((s.bus b).sched = some sc ∧ (s.bus b).slot slot = some e) ∧ ((e.kind = .masterOut ∨ e.kind
     = .spareOut ∧ (sc.slots.any (fun g => g.kind == .spareIn && g.link == slot && (((s.bus b).grant g.slot).any
     (fun q => q.first.isSome)))) = true)) ∧ (s.lane.mute = false ∧ ([0, 1].any (fun ch => s.owned (2 + 2 * b + ch)
     && s.voters.any (fun m => m != (s.unit (2 + 2 * b + ch)).owner && (s.mast m).alive))) = true) ∧ (s.ctl.mode =
     .run ∨ s.ctl.mode = .hold) ∧ (s.bus b).state ≠ .test ∧ (e.gated = false ∧ e.slot = slot) ∧
     (s.lane.inForce.find? (fun i => i.source == 0xA000 + 0x100 * b + e.slot) = some i ∧ i.len = e.payload ∧ i.tagOk
     = true) ∧ (s.votes m = true ∧ (s.unit (2 + 2 * b)).owner ≠ m ∧ (s.unit (3 + 2 * b)).owner ≠ m ∧
     s.intake.exitFails = []) ∧ (s.owned (2 + 2 * b) = true ∧ (s.voters.any (fun o => o != (s.unit (2 + 2 *
     b)).owner && (s.mast o).alive && o != m)) = true)) ∧
    (∃ (b : Nat) (slot : Nat) (sc : FbSchedule) (e : FbSlot) (i : Item) (s : State), (b < 2 ∧ (s.bus b).state ≠
     .off) ∧ ((s.bus b).sched = some sc ∧ (s.bus b).slot slot = some e) ∧ ((e.kind = .masterOut ∨ e.kind = .spareOut
     ∧ (sc.slots.any (fun g => g.kind == .spareIn && g.link == slot && (((s.bus b).grant g.slot).any (fun q =>
     q.first.isSome)))) = true)) ∧ (s.lane.mute = false ∧ ([0, 1].any (fun ch => s.owned (2 + 2 * b + ch) &&
     s.voters.any (fun m => m != (s.unit (2 + 2 * b + ch)).owner && (s.mast m).alive))) = true) ∧ (s.ctl.mode = .run
     ∨ s.ctl.mode = .hold) ∧ (s.bus b).state ≠ .test ∧ (e.gated = false ∧ e.slot = slot) ∧ (s.lane.inForce.find?
     (fun i => i.source == 0xA000 + 0x100 * b + e.slot) = some i ∧ i.len ≠ e.payload)) ∧
    (∃ (b : Nat) (slot : Nat) (sc : FbSchedule) (e : FbSlot) (s : State), (b < 2 ∧ (s.bus b).state ≠ .off) ∧ ((s.bus
     b).sched = some sc ∧ (s.bus b).slot slot = some e) ∧ ((e.kind = .masterOut ∨ e.kind = .spareOut ∧ (sc.slots.any
     (fun g => g.kind == .spareIn && g.link == slot && (((s.bus b).grant g.slot).any (fun q => q.first.isSome)))) =
     true)) ∧ (s.lane.mute = false ∧ ([0, 1].any (fun ch => s.owned (2 + 2 * b + ch) && s.voters.any (fun m => m !=
     (s.unit (2 + 2 * b + ch)).owner && (s.mast m).alive))) = true) ∧ (s.ctl.mode = .run ∨ s.ctl.mode = .hold) ∧
     (s.bus b).state ≠ .test ∧ (e.gated = true ∧ e.slot = slot)) ∧
    (∃ (b : Nat) (slot : Nat) (sc : FbSchedule) (e : FbSlot) (s : State), (b < 2 ∧ (s.bus b).state ≠ .off) ∧ ((s.bus
     b).sched = some sc ∧ (s.bus b).slot slot = some e) ∧ ((e.kind = .masterOut ∨ e.kind = .spareOut ∧ (sc.slots.any
     (fun g => g.kind == .spareIn && g.link == slot && (((s.bus b).grant g.slot).any (fun q => q.first.isSome)))) =
     true)) ∧ (s.lane.mute = false ∧ ([0, 1].any (fun ch => s.owned (2 + 2 * b + ch) && s.voters.any (fun m => m !=
     (s.unit (2 + 2 * b + ch)).owner && (s.mast m).alive))) = true) ∧ (s.ctl.mode = .run ∨ s.ctl.mode = .hold) ∧
     (s.bus b).state ≠ .test ∧ (e.gated = false ∧ s.lane.inForce.find? (fun i => i.source == 0xA000 + 0x100 * b +
     e.slot) = none)) ∧
    (∃ (b : Nat) (slot : Nat) (sc : FbSchedule) (e : FbSlot) (s : State), (b < 2 ∧ (s.bus b).state ≠ .off) ∧ ((s.bus
     b).sched = some sc ∧ (s.bus b).slot slot = some e) ∧ ((e.kind = .masterOut ∨ e.kind = .spareOut ∧ (sc.slots.any
     (fun g => g.kind == .spareIn && g.link == slot && (((s.bus b).grant g.slot).any (fun q => q.first.isSome)))) =
     true)) ∧ (s.lane.mute = false ∧ ([0, 1].any (fun ch => s.owned (2 + 2 * b + ch) && s.voters.any (fun m => m !=
     (s.unit (2 + 2 * b + ch)).owner && (s.mast m).alive))) = true) ∧ (s.bus b).state = .test) ∧
    (∃ (b : Nat) (ch pos : Nat) (ofs rel : Int) (f g : List Byte) (sc : FbSchedule) (e : FbSlot) (s : State), (b < 2
     ∧ ch < 2) ∧ (∃ m ∈ s.voters, (s.mast m).powered = true) ∧ f = fbPreamble ++ g ∧ (((s.bus b).slot pos).elim 0
     (fun p => (p.offset : Int) * 100) + ofs = e.offset * 100 + rel ∧ (s.bus b).ignored ch ≤ e.offset * 100 + rel) ∧
     ((s.bus b).sched = some sc ∧ (s.bus b).state ≠ .off ∧ (s.bus b).reported = false) ∧ e.kind.nodeSide = true ∧
     (s.bus b).cycState = .normal ∧ ((s.bus b).slot (fieldAt g 1 1) = some e ∧ e.slot = fieldAt g 1 1) ∧ (s.bus
     b).coded ch (fieldAt g 1 1) = false ∧ (fbCrcOk g = true ∧ fieldAt g 5 1 ≤ 32) ∧ (typeLen e.payload (fieldAt g 4
     1) = some (fieldAt g 5 1) ∧ (s.bus b).allowed e (fieldAt g 0 1) (fieldAt g 4 1) = true) ∧ (fieldAt g 2 2 =
     (s.bus b).cycle % 65536 ∧ fieldAt g 8 4 = sc.schedId) ∧ (-1000 ≤ rel ∧ rel ≤ 1000)) ∧
    (∃ (b : Nat) (ch pos : Nat) (ofs rel : Int) (f g : List Byte) (sc : FbSchedule) (e : FbSlot) (s : State), (b < 2
     ∧ ch < 2) ∧ (∃ m ∈ s.voters, (s.mast m).powered = true) ∧ f = fbPreamble ++ g ∧ (((s.bus b).slot pos).elim 0
     (fun p => (p.offset : Int) * 100) + ofs = e.offset * 100 + rel ∧ (s.bus b).ignored ch ≤ e.offset * 100 + rel) ∧
     ((s.bus b).sched = some sc ∧ (s.bus b).state ≠ .off ∧ (s.bus b).reported = false) ∧ e.kind.nodeSide = true ∧
     (s.bus b).cycState = .normal ∧ (fbCrcOk g = false ∧ fieldAt g 5 1 ≤ 32) ∧ ((s.bus b).slot pos = some e ∧ (s.bus
     b).coded ch pos = false)) ∧
    (∃ (b : Nat) (ch pos : Nat) (ofs rel : Int) (f g : List Byte) (extra : Bool) (sc : FbSchedule) (e : FbSlot) (s :
     State), (b < 2 ∧ ch < 2) ∧ (∃ m ∈ s.voters, (s.mast m).powered = true) ∧ f = fbPreamble ++ g ∧ (((s.bus b).slot
     pos).elim 0 (fun p => (p.offset : Int) * 100) + ofs = e.offset * 100 + rel ∧ (s.bus b).ignored ch ≤ e.offset *
     100 + rel) ∧ ((s.bus b).sched = some sc ∧ (s.bus b).state ≠ .off ∧ (s.bus b).reported = false) ∧
     e.kind.nodeSide = true ∧ (s.bus b).cycState = .normal ∧ ((s.bus b).slot (fieldAt g 1 1) = some e ∧ e.slot =
     fieldAt g 1 1) ∧ (s.bus b).coded ch (fieldAt g 1 1) = false ∧ (fbCrcOk g = true ∧ fieldAt g 5 1 ≤ 32) ∧ fieldAt
     g 4 1 ≠ 1 ∧ ((∃ n ∈ typeLen e.payload (fieldAt g 4 1), fieldAt g 5 1 ≠ n) ∨ extra = true)) ∧
    (∃ (b : Nat) (ch pos : Nat) (ofs rel : Int) (f g : List Byte) (extra : Bool) (sc : FbSchedule) (e : FbSlot) (s :
     State), (b < 2 ∧ ch < 2) ∧ (∃ m ∈ s.voters, (s.mast m).powered = true) ∧ f = fbPreamble ++ g ∧ (((s.bus b).slot
     pos).elim 0 (fun p => (p.offset : Int) * 100) + ofs = e.offset * 100 + rel ∧ (s.bus b).ignored ch ≤ e.offset *
     100 + rel) ∧ ((s.bus b).sched = some sc ∧ (s.bus b).state ≠ .off ∧ (s.bus b).reported = false) ∧
     e.kind.nodeSide = true ∧ (s.bus b).cycState = .normal ∧ ((s.bus b).slot (fieldAt g 1 1) = some e ∧ e.slot =
     fieldAt g 1 1) ∧ (s.bus b).coded ch (fieldAt g 1 1) = false ∧ (fbCrcOk g = true ∧ fieldAt g 5 1 ≤ 32) ∧ fieldAt
     g 4 1 ≠ 1 ∧ ((typeLen e.payload (fieldAt g 4 1)).all (fun n => n == fieldAt g 5 1) = true ∧ extra = false) ∧
     (fieldAt g 2 2 ≠ (s.bus b).cycle % 65536 ∨ fieldAt g 8 4 ≠ sc.schedId)) ∧
    (∃ (b : Nat) (ch pos : Nat) (ofs rel : Int) (f g : List Byte) (extra : Bool) (sc : FbSchedule) (e : FbSlot) (s :
     State), (b < 2 ∧ ch < 2) ∧ (∃ m ∈ s.voters, (s.mast m).powered = true) ∧ f = fbPreamble ++ g ∧ (((s.bus b).slot
     pos).elim 0 (fun p => (p.offset : Int) * 100) + ofs = e.offset * 100 + rel ∧ (s.bus b).ignored ch ≤ e.offset *
     100 + rel) ∧ ((s.bus b).sched = some sc ∧ (s.bus b).state ≠ .off ∧ (s.bus b).reported = false) ∧
     e.kind.nodeSide = true ∧ (s.bus b).cycState = .normal ∧ ((s.bus b).slot (fieldAt g 1 1) = some e ∧ e.slot =
     fieldAt g 1 1) ∧ (s.bus b).coded ch (fieldAt g 1 1) = false ∧ (fbCrcOk g = true ∧ fieldAt g 5 1 ≤ 32) ∧ fieldAt
     g 4 1 ≠ 1 ∧ ((typeLen e.payload (fieldAt g 4 1)).all (fun n => n == fieldAt g 5 1) = true ∧ extra = false) ∧
     (fieldAt g 2 2 = (s.bus b).cycle % 65536 ∧ fieldAt g 8 4 = sc.schedId) ∧ (s.bus b).allowed e (fieldAt g 0 1)
     (fieldAt g 4 1) = false) ∧
    (∃ (b : Nat) (ch pos : Nat) (ofs rel : Int) (f g : List Byte) (extra : Bool) (sc : FbSchedule) (e : FbSlot) (s :
     State), (b < 2 ∧ ch < 2) ∧ (∃ m ∈ s.voters, (s.mast m).powered = true) ∧ f = fbPreamble ++ g ∧ (((s.bus b).slot
     pos).elim 0 (fun p => (p.offset : Int) * 100) + ofs = e.offset * 100 + rel ∧ (s.bus b).ignored ch ≤ e.offset *
     100 + rel) ∧ ((s.bus b).sched = some sc ∧ (s.bus b).state ≠ .off ∧ (s.bus b).reported = false) ∧
     e.kind.nodeSide = true ∧ (s.bus b).cycState = .normal ∧ ((s.bus b).slot (fieldAt g 1 1) = some e ∧ e.slot =
     fieldAt g 1 1) ∧ (s.bus b).coded ch (fieldAt g 1 1) = false ∧ (fbCrcOk g = true ∧ fieldAt g 5 1 ≤ 32) ∧ fieldAt
     g 4 1 ≠ 1 ∧ ((typeLen e.payload (fieldAt g 4 1)).all (fun n => n == fieldAt g 5 1) = true ∧ extra = false) ∧
     (fieldAt g 2 2 = (s.bus b).cycle % 65536 ∧ fieldAt g 8 4 = sc.schedId) ∧ (s.bus b).allowed e (fieldAt g 0 1)
     (fieldAt g 4 1) = true ∧ (rel < -1000 ∨ 1000 < rel)) ∧
    (∃ (b : Nat) (ch pos : Nat) (ofs rel : Int) (f g : List Byte) (sc : FbSchedule) (e : FbSlot) (s : State), (b < 2
     ∧ ch < 2) ∧ (∃ m ∈ s.voters, (s.mast m).powered = true) ∧ f = fbPreamble ++ g ∧ (((s.bus b).slot pos).elim 0
     (fun p => (p.offset : Int) * 100) + ofs = e.offset * 100 + rel ∧ (s.bus b).ignored ch ≤ e.offset * 100 + rel) ∧
     ((s.bus b).sched = some sc ∧ (s.bus b).state ≠ .off ∧ (s.bus b).reported = false) ∧ e.kind.nodeSide = true ∧
     (s.bus b).cycState = .normal ∧ ((s.bus b).slot (fieldAt g 1 1) = some e ∧ e.slot = fieldAt g 1 1) ∧ (s.bus
     b).coded ch (fieldAt g 1 1) = false ∧ 32 < fieldAt g 5 1) ∧
    (∃ (b : Nat) (ch pos : Nat) (ofs rel : Int) (f g : List Byte) (sc : FbSchedule) (e : FbSlot) (s : State), (b < 2
     ∧ ch < 2) ∧ (∃ m ∈ s.voters, (s.mast m).powered = true) ∧ f = fbPreamble ++ g ∧ (((s.bus b).slot pos).elim 0
     (fun p => (p.offset : Int) * 100) + ofs = e.offset * 100 + rel ∧ (s.bus b).ignored ch ≤ e.offset * 100 + rel) ∧
     ((s.bus b).sched = some sc ∧ (s.bus b).state ≠ .off ∧ (s.bus b).reported = false) ∧ e.kind.nodeSide = true ∧
     (s.bus b).cycState ≠ .normal ∧ ((s.bus b).slot (fieldAt g 1 1) = some e ∧ e.slot = fieldAt g 1 1) ∧ (fbCrcOk g
     = true ∧ fieldAt g 5 1 ≤ 32) ∧ fieldAt g 4 1 ≠ 1) ∧
    (∃ (b : Nat) (ch pos : Nat) (ofs rel : Int) (f g : List Byte) (sc : FbSchedule) (e : FbSlot) (s : State), (b < 2
     ∧ ch < 2) ∧ (∃ m ∈ s.voters, (s.mast m).powered = true) ∧ f = fbPreamble ++ g ∧ (((s.bus b).slot pos).elim 0
     (fun p => (p.offset : Int) * 100) + ofs = e.offset * 100 + rel ∧ (s.bus b).ignored ch ≤ e.offset * 100 + rel) ∧
     ((s.bus b).sched = some sc ∧ (s.bus b).state ≠ .off ∧ (s.bus b).reported = false) ∧ e.kind.nodeSide = true ∧
     (fbCrcOk g = true ∧ fieldAt g 5 1 ≤ 32) ∧ fieldAt g 4 1 = 1 ∧ s.log.limits = [] ∧ (s.bus b).cycState = .normal) ∧
    (∃ (b : Nat) (ch : Nat) (f g : List Byte) (sc : FbSchedule) (s : State), (b < 2 ∧ ch < 2) ∧ (∃ m ∈ s.voters,
     (s.mast m).powered = true) ∧ f = fbPreamble ++ g ∧ ((s.bus b).sched = some sc ∧ (s.bus b).state ≠ .off) ∧ (f ≠
     (s.bus b).csFrame ∧ f ≠ (s.bus b).lastSent)) ∧
    (∃ (b : Nat) (ch pos : Nat) (f : List Byte) (sc : FbSchedule) (e : FbSlot) (s : State), (b < 2 ∧ ch < 2) ∧ (∃ m
     ∈ s.voters, (s.mast m).powered = true) ∧ f.take 3 ≠ fbPreamble ∧ ((s.bus b).sched = some sc ∧ (s.bus b).state ≠
     .off ∧ (s.bus b).reported = false) ∧ ((s.bus b).slot pos = some e ∧ e.kind = .claim)) ∧
    (∃ (b : Nat) (ch : Nat) (f : List Byte) (s : State), (b < 2 ∧ ch < 2) ∧ (∃ m ∈ s.voters, (s.mast m).powered =
     true) ∧ (s.bus b).state = .off ∧ f.take 3 = fbPreamble) ∧
    (∃ (b : Nat) (s : State), b < 2 ∧ ((s.bus b).state ≠ .off ∧ (s.bus b).reported = false ∧ (s.bus b).sched.isSome
     = true)) :=
  ⟨⟨0, (doorOf { state := .integrate, sentCycles := 8 } []), by decide +kernel⟩,
   ⟨0, (doorOf { state := .recover, sentCycles := 2 } []), by decide +kernel⟩,
   ⟨1, 0, ⟨true, true, false, false⟩, { doorOf doorNormal [] with ctl := serviceState.ctl }, by decide +kernel⟩,
   ⟨1, 0, ⟨true, true, false, false⟩, { doorOf doorNormal [] with ctl := stopState.ctl }, by decide +kernel⟩,
   ⟨1, 0, ⟨true, true, false, false⟩, { doorOf { state := .test } [] with ctl := serviceState.ctl }, by decide +kernel⟩,
   ⟨1, 0, ⟨true, true, false, false⟩, { doorOf doorNormal [] with ctl := serviceState.ctl }, by decide +kernel⟩,
   ⟨0, 1, doorSched, ⟨1, .masterOut, 5, 4, 600, false, 0⟩, { doorOf doorNormal [] with ctl := stopState.ctl }, by decide +kernel⟩,
   ⟨0, 1, doorSched, ⟨1, .masterOut, 5, 4, 600, false, 0⟩, (Item.form 0xA001 0 0 [1, 2, 3, 4]), { doorOf doorNormal [] with lane := { (doorOf doorNormal []).lane with inForce := [Item.form 0xA001 0 0 [1, 2, 3, 4]] } }, by decide +kernel⟩,
   ⟨.c, 0, 1, doorSched, ⟨1, .masterOut, 5, 4, 600, false, 0⟩, (Item.form 0xA001 0 0 [1, 2, 3, 4]), { doorOf doorNormal [] with lane := { (doorOf doorNormal []).lane with inForce := [Item.form 0xA001 0 0 [1, 2, 3, 4]] } }, by decide +kernel⟩,
   ⟨0, 1, doorSched, ⟨1, .masterOut, 5, 4, 600, false, 0⟩, (Item.form 0xA001 0 0 [1, 2, 3]), { doorOf doorNormal [] with lane := { (doorOf doorNormal []).lane with inForce := [Item.form 0xA001 0 0 [1, 2, 3]] } }, by decide +kernel⟩,
   ⟨0, 1, { doorSched with slots := [⟨1, .masterOut, 5, 4, 600, true, 0⟩] }, ⟨1, .masterOut, 5, 4, 600, true, 0⟩, (let z := doorOf doorNormal []; { z with fb := { z.fb with bus0 := { doorNormal with sched := some { doorSched with slots := [⟨1, .masterOut, 5, 4, 600, true, 0⟩] }, slots := [{ slot := 1, gate := some [9, 8, 7, 6] }] } } }), by decide +kernel⟩,
   ⟨0, 1, doorSched, ⟨1, .masterOut, 5, 4, 600, false, 0⟩, (doorOf doorNormal []), by decide +kernel⟩,
   ⟨0, 1, doorSched, ⟨1, .masterOut, 5, 4, 600, false, 0⟩, (doorOf { state := .test } []), by decide +kernel⟩,
   ⟨0, 1, 2, -1000, -1000, (fbFrame 5 2 0 2 0 9 [1, 2, 3, 4]), ((fbFrame 5 2 0 2 0 9 [1, 2, 3, 4]).drop 3), doorSched, ⟨2, .nodeIn, 5, 4, 1000, false, 0⟩, (doorOf doorNormal []), by decide +kernel⟩,
   ⟨0, 1, 2, -1000, -1000, (fbPreamble ++ List.replicate 16 0), (List.replicate 16 0), doorSched, ⟨2, .nodeIn, 5, 4, 1000, false, 0⟩, (doorOf doorNormal []), by decide +kernel⟩,
   ⟨0, 1, 2, -1000, -1000, (fbFrame 5 2 0 2 0 9 [1, 2, 3]), ((fbFrame 5 2 0 2 0 9 [1, 2, 3]).drop 3), false, doorSched, ⟨2, .nodeIn, 5, 4, 1000, false, 0⟩, (doorOf doorNormal []), by decide +kernel⟩,
   ⟨0, 1, 2, -1000, -1000, (fbFrame 5 2 1 2 0 9 [1, 2, 3, 4]), ((fbFrame 5 2 1 2 0 9 [1, 2, 3, 4]).drop 3), false, doorSched, ⟨2, .nodeIn, 5, 4, 1000, false, 0⟩, (doorOf doorNormal []), by decide +kernel⟩,
   ⟨0, 1, 2, -1000, -1000, (fbFrame 6 2 0 2 0 9 [1, 2, 3, 4]), ((fbFrame 6 2 0 2 0 9 [1, 2, 3, 4]).drop 3), false, doorSched, ⟨2, .nodeIn, 5, 4, 1000, false, 0⟩, (doorOf doorNormal []), by decide +kernel⟩,
   ⟨0, 1, 2, 1001, 1001, (fbFrame 5 2 0 2 0 9 [1, 2, 3, 4]), ((fbFrame 5 2 0 2 0 9 [1, 2, 3, 4]).drop 3), false, doorSched, ⟨2, .nodeIn, 5, 4, 1000, false, 0⟩, (doorOf doorNormal []), by decide +kernel⟩,
   ⟨0, 1, 2, -1000, -1000, (fbPreamble ++ [5, 2, 0, 0, 2, 33, 0, 0]), ([5, 2, 0, 0, 2, 33, 0, 0]), doorSched, ⟨2, .nodeIn, 5, 4, 1000, false, 0⟩, (doorOf doorNormal []), by decide +kernel⟩,
   ⟨0, 1, 2, -1000, -1000, (fbFrame 5 2 0 2 0 9 [1, 2, 3, 4]), ((fbFrame 5 2 0 2 0 9 [1, 2, 3, 4]).drop 3), doorSched, ⟨2, .nodeIn, 5, 4, 1000, false, 0⟩, (doorOf { state := .integrate, cycState := .integrate } []), by decide +kernel⟩,
   ⟨0, 1, 2, -1000, -1000, (fbFrame 0 0 0 1 2 9 (List.replicate 32 0)), ((fbFrame 0 0 0 1 2 9 (List.replicate 32 0)).drop 3), doorSched, ⟨2, .nodeIn, 5, 4, 1000, false, 0⟩, (doorOf doorNormal []), by decide +kernel⟩,
   ⟨0, 1, (fbFrame 5 2 0 2 0 9 [1, 2, 3, 4]), ((fbFrame 5 2 0 2 0 9 [1, 2, 3, 4]).drop 3), doorSched, (doorOf doorNormal []), by decide +kernel⟩,
   ⟨0, 1, 4, [1], doorSched, ⟨4, .claim, 0, 8, 1800, false, 0⟩, (doorOf doorNormal []), by decide +kernel⟩,
   ⟨0, 0, fbPreamble, runState, by decide +kernel⟩,
   ⟨0, (doorOf doorNormal []), by decide +kernel⟩⟩

theorem witness_DoorBusNodesAndGrants :
    (∃ (b : Nat) (k : Nat) (v : FbView) (n : FbNode) (sc : FbSchedule) (s : State), b < 2 ∧ s.fbReleasing b = some v
     ∧ ((s.bus b).node k = some n ∧ n.judged = false ∧ (s.bus b).slotsOf k ≠ []) ∧ n.node = k ∧ n.state = 2 ∧
     ((s.bus b).slotsOf k).all (fun i => !v.any i) = true ∧ ((v.normal && ((s.bus b).slotsOf k).any v.timing) =
     false ∧ n.viol < 4 ∨ n.viol < 3) ∧ ((s.bus b).sched = some sc ∧ sc.nodeTimeout ≤ n.quiet + 1)) ∧
    (∃ (b : Nat) (k : Nat) (v : FbView) (n : FbNode) (s : State), b < 2 ∧ s.fbReleasing b = some v ∧ ((s.bus b).node
     k = some n ∧ n.judged = false ∧ (s.bus b).slotsOf k ≠ []) ∧ n.node = k ∧ v.normal = true ∧ (n.state ≠ 3 ∧
     n.state ≠ 4 ∧ n.viol = 3) ∧ (((s.bus b).slotsOf k).all (fun i => !v.any i) = true ∧ ((s.bus b).slotsOf k).any
     v.timing = true)) ∧
    (∃ (b : Nat) (k : Nat) (v : FbView) (n : FbNode) (s : State), b < 2 ∧ s.fbReleasing b = some v ∧ ((s.bus b).node
     k = some n ∧ n.judged = false ∧ (s.bus b).slotsOf k ≠ []) ∧ n.node = k ∧ ((n.state = 3 ∨ n.state = 4) ∧
     n.ignore = 0 ∧ 3 ≤ n.okRow) ∧ ((s.bus b).slotsOf k).any v.any = true) ∧
    (∃ (b : Nat) (k : Nat) (v : FbView) (g : FbGrant) (s : State), b < 2 ∧ s.fbReleasing b = some v ∧ ((s.bus
     b).grant k = some g ∧ g.judged = false) ∧ v.one g.slot = none ∧ (g.seen = false ∧ 4 ≤ g.carried ∧ 0 < g.idle)) ∧
    (∃ (b : Nat) (k : Nat) (v : FbView) (g : FbGrant) (sc : FbSchedule) (s : State), b < 2 ∧ s.fbReleasing b = some
     v ∧ ((s.bus b).grant k = some g ∧ g.judged = false) ∧ v.one g.slot = none ∧ g.seen = true ∧ ((s.bus b).sched =
     some sc ∧ sc.releaseCycles ≤ g.idle + 1)) ∧
    (∃ (b : Nat) (ch : Nat) (v : FbView) (s : State), b < 2 ∧ s.fbReleasing b = some v ∧ (v.normal = true ∧ ch < 2)
     ∧ ((if ch = 0 then (s.bus b).deafX else (s.bus b).deafY) = 15 ∧ (if ch = 0 then (s.bus b).judgedX else (s.bus
     b).judgedY) = false) ∧ (v.frames.any (fun f => f.1 == ch) = false ∧ v.frames.any (fun f => f.1 != ch) = true)) :=
  ⟨⟨0, 5, (doorView []), { node := 5, late := false, state := 2, quiet := 1 }, doorSched, (doorOf (doorNode { node := 5, late := false, state := 2, quiet := 1 }) []), by decide +kernel⟩,
   ⟨0, 5, { doorView [] with codesX := unpackCodes doorTiming }, { node := 5, late := false, state := 2, viol := 3 }, { doorOf (doorNode { node := 5, late := false, state := 2, viol := 3 }) [] with intake := { runState.intake with agreed := [Item.form 0x2000 0 0 doorTiming], releasePending := true } }, by decide +kernel⟩,
   ⟨0, 5, (doorView [(0, 2, natLe 1 1 ++ List.replicate 3 0)]), { node := 5, late := false, state := 4, okRow := 3 }, (doorOf (doorNode { node := 5, late := false, state := 4, okRow := 3 }) [doorFrameItem 0 2 1]), by decide +kernel⟩,
   ⟨0, 3, (doorView []), { slot := 3, node := 5, carried := 4, idle := 1 }, (doorOf { doorNormal with grants := [{ slot := 3, node := 5, carried := 4, idle := 1 }] } []), by decide +kernel⟩,
   ⟨0, 3, (doorView []), { slot := 3, node := 5, seen := true, idle := 15 }, doorSched, (doorOf { doorNormal with grants := [{ slot := 3, node := 5, seen := true, idle := 15 }] } []), by decide +kernel⟩,
   ⟨0, 0, (doorView [(1, 2, natLe 1 1 ++ List.replicate 3 0)]), (doorOf { doorNormal with deafX := 15 } [doorFrameItem 1 2 1]), by decide +kernel⟩⟩

theorem witness_FieldLinksAndFrames :
    (∃ (t : Nat) (m : Mast) (damaged : List Nat) (s : State), s.field.powered = true ∧ (s.mast m).alive = true ∧
     s.ctl.mode ≠ .boot ∧ (s.field.fsec.isSome = true → (s.field.masts.get m).engineCrc = s.ownCfgCrc) ∧ (s.ctl.mode
     ≠ .run ∧ s.ctl.mode ≠ .hold ∨ badOutputs (s.lane.decision.elim s.lane.inForce (fun d => d.items)) ++ damaged =
     []) ∧ (s.sup.react = none ∨ (s.advance t).forceMask m = 0)) ∧
    (∃ (m : Mast) (k : Nat) (i : Item) (s : State), s.field.powered = true ∧ (s.mast m).alive = true ∧ s.ctl.mode ≠
     .boot ∧ (s.field.fsec.isSome = true → (s.field.masts.get m).engineCrc = s.ownCfgCrc) ∧ (s.ctl.mode = .run ∨
     s.ctl.mode = .hold) ∧ ((s.lane.decision.elim s.lane.inForce (fun d => d.items)).filter (fun j => decide (0x8001
     ≤ j.source ∧ j.source ≤ 0x8018)) = [i]) ∧ (k < 24 ∧ i.source = 0x8001 + k ∧ s.intake.exitFails = []) ∧
     s.sup.react = none) ∧
    (∃ (m : Mast) (s : State), s.field.powered = true ∧ (s.mast m).alive = true ∧ s.ctl.mode ≠ .boot ∧
     (s.field.fsec.isSome = true ∧ (s.field.masts.get m).engineCrc ≠ s.ownCfgCrc)) ∧
    (∃ (m : Mast) (bytes : List Byte) (p : LanePos) (s : State), s.field.powered = true ∧ (frameOk m 0x43 32 bytes =
     true ∧ (s.field.links.get m).seqOk (fieldAt bytes 2 2) = true) ∧ ((s.field.links.get m).expired = false ∧
     s.field.adopted.isSome = true) ∧ s.field.posOfLink m = some p ∧ ((s.field.pos p).silence = false ∨ (s.field.pos
     p).fresh = true)) ∧
    (∃ (m : Mast) (bytes : List Byte) (s : State), s.field.powered = true ∧ (frameOk m 0x43 32 bytes = true ∧
     (s.field.links.get m).seqOk (fieldAt bytes 2 2) = true) ∧ ((s.field.links.get m).expired = true ∧
     s.field.adopted.isSome = true)) ∧
    (∃ (m : Mast) (bytes : List Byte) (s : State), s.field.powered = true ∧ (frameOk m 0x43 32 bytes = false ∨
     (s.field.links.get m).seqOk (fieldAt bytes 2 2) = false)) ∧
    (∃ (m : Mast) (bytes : List Byte) (s : State), s.field.powered = true ∧ (frameOk m 0x47 44 bytes = true ∧
     (s.field.links.get m).seqOk (fieldAt bytes 2 2) = true ∧ fieldAt bytes 4 1 ≤ 15) ∧ s.field.adopted.isSome =
     true) ∧
    (∃ (m : Mast) (bytes : List Byte) (o : Mast) (body : List Byte) (s : State), s.field.powered = true ∧ (frameOk m
     0x47 44 bytes = true ∧ (s.field.links.get m).seqOk (fieldAt bytes 2 2) = true ∧ fieldAt bytes 4 1 ≤ 15) ∧
     s.field.adopted = none ∧ (s.field.posA.link = some m ∧ s.field.posB.link = some o ∧ o ≠ m ∧ s.field.posC.link =
     none) ∧
     ({ s.field.links.get m with seq := some (fieldAt bytes 2 2),
                                 config := (fieldAt bytes 4 1, slice bytes 8 32) :: (s.field.links.get m).config.filter (fun e => e.1 != fieldAt bytes 4 1),
                                 valid := true,
                                 silent := if (s.field.links.get m).expired then (s.field.links.get m).silent else none }.delivered
     = some body ∧ (s.field.links.get m).cfgCrc = 0) ∧ ((s.field.links.get o).delivered = some body ∧
     (s.field.links.get o).cfgCrc = 0) ∧ s.field.test = none) ∧
    (∃ (m : Mast) (bytes : List Byte) (s : State), s.field.powered = true ∧ (frameOk m 0x47 44 bytes = false ∨
     (s.field.links.get m).seqOk (fieldAt bytes 2 2) = false ∨ 15 < fieldAt bytes 4 1)) ∧
    (∃ (s : State), s.field.powered = true) ∧
    (∃ (m : Mast) (bytes : List Byte) (s : State), (s.mast m).alive = true ∧ (20 ≤ bytes.length ∧ fieldAt bytes 0 1
     = 0x52 ∧ fieldAt bytes 1 1 = m.code ∧ fieldAt bytes 12 1 ≤ 7) ∧ fieldAt bytes (bytes.length - 4) 4 = (crc32c
     (bytes.take (bytes.length - 4))).toNat ∧ (bitOf (fieldAt bytes 4 4) (4 + m.code) = false ∨ s.votes m = false) ∧
     (fieldAt bytes 12 1 = 0 ∨ s.intakes m = false)) ∧
    (∃ (m : Mast) (bytes : List Byte) (s : State), (s.mast m).alive = true ∧ (20 ≤ bytes.length ∧ fieldAt bytes 0 1
     = 0x52 ∧ fieldAt bytes 1 1 = m.code ∧ fieldAt bytes 12 1 ≤ 7) ∧ fieldAt bytes (bytes.length - 4) 4 = (crc32c
     (bytes.take (bytes.length - 4))).toNat ∧ bitOf (fieldAt bytes 4 4) (4 + m.code) = false ∧ s.intakes m = true) ∧
    (∃ (m : Mast) (bytes : List Byte) (s : State), (s.mast m).alive = true ∧ (20 ≤ bytes.length ∧ fieldAt bytes 0 1
     = 0x52 ∧ fieldAt bytes 1 1 = m.code ∧ fieldAt bytes 12 1 ≤ 7) ∧ fieldAt bytes (bytes.length - 4) 4 = (crc32c
     (bytes.take (bytes.length - 4))).toNat ∧ (bitOf (fieldAt bytes 4 4) (4 + m.code) = true ∧ s.votes m = true) ∧
     fieldAt bytes 12 1 = 0) ∧
    (∃ (m : Mast) (bytes : List Byte) (s : State), (s.mast m).alive = true ∧ (bytes.length < 20 ∨ fieldAt bytes 0 1
     ≠ 0x52 ∨ fieldAt bytes 1 1 ≠ m.code ∨ 7 < fieldAt bytes 12 1 ∨ fieldAt bytes (bytes.length - 4) 4 ≠ (crc32c
     (bytes.take (bytes.length - 4))).toNat)) ∧
    (∃ (t : Nat) (m : Mast) (s : State), s.field.powered = true ∧ ((s.mast m).alive = true ∧ s.votes m = true) ∧
     (s.field.masts.get m).heard + s.silenceTimeout ≤ t) ∧
    (∃ (s : State), s.field.powered = true) ∧
    (∃ (s : State), s.field.powered = true) ∧
    (∃ (t : Nat) (m : Mast) (a : Nat) (s : State), s.field.powered = true ∧ ((s.field.links.get m).silent = some a ∧
     (s.field.links.get m).expired = false) ∧ a + s.silenceTimeout ≤ t ∧ (∀ p ∈ [LanePos.a, .b, .c], (s.field.pos
     p).silence = true ∨ (s.field.pos p).lostAt = none)) ∧
    (∃ (t : Nat) (m : Mast) (p : LanePos) (a : Nat) (s : State), s.field.powered = true ∧ ((s.field.links.get
     m).silent = none ∨ (s.field.links.get m).expired = true) ∧ ((s.field.pos p).lostAt = some a ∧ (s.field.pos
     p).silence = false ∧ a + s.silenceTimeout ≤ t) ∧ (∀ q ∈ [LanePos.a, .b, .c], q ≠ p → (s.field.pos q).silence =
     true ∨ (s.field.pos q).lostAt = none)) :=
  ⟨⟨0, .a, [2], { sealedPlant with ctl := stopState.ctl, field := { sealedPlant.field with masts := Per.all { engineCrc := sealedPlant.ownCfgCrc } } }, by decide +kernel⟩,
   ⟨.a, 0, (Item.form 0x8001 0 0 [1, 0, 0, 0]), { plant with lane := { plant.lane with inForce := [(Item.form 0x8001 0 0 [1, 0, 0, 0])] } }, by decide +kernel⟩,
   ⟨.a, unsealedPlant, by decide +kernel⟩,
   ⟨.a, (commandFrame 0 7 0 0x1000005 5 0 0), .a, plant, by decide +kernel⟩,
   ⟨.a, (commandFrame 0 7 0 0x1000005 5 0 0), plantOf { adopted := some plainConfig, links := ⟨{ expired := true }, {}, {}, {}⟩ }, by decide +kernel⟩,
   ⟨.a, [], plant, by decide +kernel⟩,
   ⟨.a, (configFrame 0 7 3 []), plant, by decide +kernel⟩,
   ⟨.a, (configFrame 0 7 3 []), .b, (List.replicate 496 0), plantOf { links := ⟨{ config := (List.range 16).map fun i => (i, List.replicate 32 0) }, { config := (List.range 16).map fun i => (i, List.replicate 32 0) }, {}, {}⟩, posC := { link := none } }, by decide +kernel⟩,
   ⟨.a, [], plant, by decide +kernel⟩,
   ⟨queuedItems, by decide +kernel⟩,
   ⟨.a, answerFrame 7, plant, by decide +kernel⟩,
   ⟨.a, answerFrame 7, plant, by decide +kernel⟩,
   ⟨.a, (let body : List Byte := [0x52, 0] ++ natLe 2 7 ++ natLe 4 16 ++ natLe 4 0 ++ natLe 4 0; body ++ natLe 4 (crc32c body).toNat), plant, by decide +kernel⟩,
   ⟨.a, [], plant, by decide +kernel⟩,
   ⟨2000000, .a, heardPlant, by decide +kernel⟩,
   ⟨plant, by decide +kernel⟩,
   ⟨plant, by decide +kernel⟩,
   ⟨9000000, .a, 0, (plantOf { adopted := some plainConfig, links := ⟨{ silent := some 0 }, {}, {}, {}⟩ }), by decide +kernel⟩,
   ⟨9000000, .a, .b, 0, (plantOf { adopted := some plainConfig, posB := { link := some .b, lostAt := some 0, cmd := 5 } }), by decide +kernel⟩⟩

theorem witness_FieldOutputs :
    (∃ (o millis : Nat) (s : State), (1 ≤ o ∧ o ≤ 24 ∧ s.field.outs.length = 24) ∧ s.field.powered = true ∧
     s.field.queue.length < 512 ∧ (10 ≤ millis ∧ (s.out o).clim = false) ∧ s.log.limits = []) ∧
    (∃ (o millis : Nat) (s : State), (1 ≤ o ∧ o ≤ 24 ∧ s.field.outs.length = 24) ∧ s.field.powered = true ∧ 512 ≤
     s.field.queue.length ∧ (10 ≤ millis ∧ (s.out o).clim = false)) ∧
    (∃ (o : Nat) (s : State), (1 ≤ o ∧ o ≤ 24 ∧ s.field.outs.length = 24) ∧ s.field.powered = true ∧
     s.field.queue.length < 512 ∧ ((s.out o).tripped = none ∧ (s.out o).locked = false ∧ (s.out o).retries < 10)) ∧
    (∃ (o : Nat) (s : State), (1 ≤ o ∧ o ≤ 24 ∧ s.field.outs.length = 24) ∧ s.field.powered = true ∧
     s.field.queue.length < 512 ∧ ((s.out o).tripped = none ∧ (s.out o).locked = false ∧ 10 ≤ (s.out o).retries)) ∧
    (∃ (t : Nat) (o a : Nat) (s : State), (1 ≤ o ∧ o ≤ 24 ∧ s.field.outs.length = 24) ∧ s.field.queue.length < 512 ∧
     (s.out o).tripped = some a ∧ a + 100000000 ≤ t) ∧
    (∃ (t : Nat) (o : Nat) (s : State), (1 ≤ o ∧ o ≤ 24 ∧ s.field.outs.length = 24) ∧ s.field.powered = true ∧
     (s.field.test.all (fun y => y.out != o)) = true ∧ (s.groupOk o && decide ((s.out o).changed + 2000000 ≤ max
     s.now t)) = false) ∧
    (∃ (t : Nat) (o : Nat) (j : Nat) (s : State), (1 ≤ o ∧ o ≤ 24 ∧ s.field.outs.length = 24) ∧ s.field.powered =
     true ∧ s.field.queue.length < 512 ∧ (s.field.test.all (fun y => y.out != o)) = true ∧ (s.groupOk o = true ∧
     (s.out o).changed + 2000000 ≤ max s.now t) ∧ (s.commands .a o = false ∧ s.commands .b o = false ∧ s.commands .c
     o = false) ∧ (j < 3 ∧ (BitVec.ofNat 6 (s.out o).swFault &&& BitVec.ofNat 6 (2 ^ (2 * j))).toNat = 0)) ∧
    (∃ (t : Nat) (o : Nat) (s : State), (1 ≤ o ∧ o ≤ 24 ∧ s.field.outs.length = 24) ∧ s.field.powered = true ∧
     s.field.queue.length < 512 ∧ (s.field.test.all (fun y => y.out != o)) = true ∧ (s.groupOk o = true ∧ (s.out
     o).changed + 2000000 ≤ max s.now t) ∧ (s.commands .a o = false ∧ s.commands .b o = false ∧ s.commands .c o =
     false) ∧ (s.out o).extFeed = false) ∧
    (∃ (t : Nat) (o : Nat) (s : State), (1 ≤ o ∧ o ≤ 24 ∧ s.field.outs.length = 24) ∧ s.field.powered = true ∧
     s.field.queue.length < 512 ∧ (s.field.test.all (fun y => y.out != o)) = true ∧ (s.groupOk o = true ∧ (s.out
     o).changed + 2000000 ≤ max s.now t) ∧ ((s.out o).voted = true ∧ (s.out o).noBranch = false) ∧ (s.commands .a o
     = true ∨ s.commands .b o = true ∨ s.commands .c o = true)) ∧
    (∃ (t : Nat) (o branch : Nat) (s : State), (s.advance t).mayTest o branch = true ∧ (s.out o).voted = false ∧
     (s.commands (branchOf branch).1 o = false ∧ s.commands (branchOf branch).2 o = false)) ∧
    (∃ (t : Nat) (o branch j : Nat) (s : State), (s.advance t).mayTest o branch = true ∧ ((s.out o).voted = true ∧
     s.field.regime ≠ 2) ∧ (j < 3 ∧ j ≠ branch ∧ s.conducts o j = true ∧ (s.advance t).hasCarried o j = true)) ∧
    (∃ (t : Nat) (x : FieldTest) (s : State), (s.field.test = some x ∧ 1 ≤ x.out ∧ x.out ≤ 24 ∧ s.field.outs.length
     = 24) ∧ (x.step = .n1 ∧ x.energise = false) ∧ x.began + 100000 ≤ t) ∧
    (∃ (t : Nat) (x : FieldTest) (s : State), (s.field.test = some x ∧ 1 ≤ x.out ∧ x.out ≤ 24 ∧ s.field.outs.length
     = 24) ∧ (x.step = .n2 ∧ x.energise = false) ∧ x.began + 100000 ≤ t) ∧
    (∃ (t : Nat) (x : FieldTest) (s : State), (s.field.test = some x ∧ 1 ≤ x.out ∧ x.out ≤ 24 ∧ s.field.outs.length
     = 24) ∧ (x.step = .o1 ∧ x.energise = false) ∧ x.began + 100000 ≤ t) ∧
    (∃ (t : Nat) (x : FieldTest) (s : State), (s.field.test = some x ∧ 1 ≤ x.out ∧ x.out ≤ 24 ∧ s.field.outs.length
     = 24) ∧ (x.step = .o2 ∧ x.energise = false) ∧ x.began + 100000 ≤ t) ∧
    (∃ (t : Nat) (x : FieldTest) (s : State), (s.field.test = some x ∧ 1 ≤ x.out ∧ x.out ≤ 24 ∧ s.field.outs.length
     = 24) ∧ (x.step = .n3 ∧ x.energise = false) ∧ x.began + 100000 ≤ t ∧ s.field.queue.length < 512) ∧
    (∃ (t : Nat) (x : FieldTest) (s : State), (s.field.test = some x ∧ 1 ≤ x.out ∧ x.out ≤ 24 ∧ s.field.outs.length
     = 24) ∧ (x.step = .o3 ∧ x.energise = false) ∧ x.began + 100000 ≤ t ∧ s.field.queue.length < 512) ∧
    (∃ (t : Nat) (x : FieldTest) (c : FieldConfig) (s : State), (s.field.test = some x ∧ 1 ≤ x.out ∧ x.out ≤ 24 ∧
     s.field.outs.length = 24) ∧ (x.step = .o3 ∧ x.energise = false) ∧ x.began + 100000 ≤ t ∧ s.field.queue.length <
     512 ∧ (s.field.adopted = some c ∧ ((c.outputs[x.out - 1]?).all (fun e => !e.2)) = true)) ∧
    (∃ (t : Nat) (x : FieldTest) (s : State), (s.field.test = some x ∧ 1 ≤ x.out ∧ x.out ≤ 24 ∧ s.field.outs.length
     = 24) ∧ (x.step = .n1 ∧ x.energise = false) ∧ x.began + 100000 ≤ t ∧ s.field.queue.length < 512) ∧
    (∃ (t : Nat) (x : FieldTest) (s : State), (s.field.test = some x ∧ 1 ≤ x.out ∧ x.out ≤ 24 ∧ s.field.outs.length
     = 24) ∧ (x.step = .n3 ∧ x.energise = false) ∧ x.began + 100000 ≤ t ∧ s.field.queue.length < 512) ∧
    (∃ (t : Nat) (x : FieldTest) (s : State), (s.field.test = some x ∧ 1 ≤ x.out ∧ x.out ≤ 24 ∧ s.field.outs.length
     = 24) ∧ (x.step = .o1 ∧ x.energise = false) ∧ x.began + 100000 ≤ t ∧ s.field.queue.length < 512) ∧
    (∃ (t : Nat) (x : FieldTest) (s : State), (s.field.test = some x ∧ 1 ≤ x.out ∧ x.out ≤ 24 ∧ s.field.outs.length
     = 24) ∧ (x.step = .o2 ∧ x.energise = false) ∧ x.began + 100000 ≤ t ∧ s.field.queue.length < 512) ∧
    (∃ (t : Nat) (x : FieldTest) (s : State), (s.field.test = some x ∧ 1 ≤ x.out ∧ x.out ≤ 24 ∧ s.field.outs.length
     = 24) ∧ (x.step = .o2 ∧ x.energise = false) ∧ x.began + 100000 ≤ t ∧ s.field.queue.length < 512) ∧
    (∃ (t : Nat) (x : FieldTest) (s : State), (s.field.test = some x ∧ 1 ≤ x.out ∧ x.out ≤ 24 ∧ s.field.outs.length
     = 24) ∧ (x.step = .n2 ∧ x.energise = false) ∧ x.began + 100000 ≤ t ∧ s.field.queue.length < 512) ∧
    (∃ (t : Nat) (x : FieldTest) (s : State), (s.field.test = some x ∧ 1 ≤ x.out ∧ x.out ≤ 24 ∧ s.field.outs.length
     = 24) ∧ (x.step ≠ .dark ∧ x.energise = true) ∧ x.began + 100000 ≤ t ∧ s.log.limits = [] ∧ s.field.queue.length
     < 512) ∧
    (∃ (t : Nat) (o j : Nat) (s : State), ((s.advance t).mayTest o j = true ∧ s.field.regime = 1 ∧ (s.out o).voted =
     true) ∧ (List.range 3).filter (fun j => s.conducts o j) = [j]) ∧
    (∃ (t : Nat) (x : FieldTest) (s : State), (s.field.test = some x ∧ 1 ≤ x.out ∧ x.out ≤ 24 ∧ s.field.outs.length
     = 24) ∧ x.step = .dark ∧ s.field.queue.length < 512 ∧ x.began + 50000 ≤ t) ∧
    (∃ (t : Nat) (current mid : Bool) (x : FieldTest) (s : State), (s.field.test = some x ∧ 1 ≤ x.out ∧ x.out ≤ 24 ∧
     s.field.outs.length = 24) ∧ x.step = .dark ∧ s.field.queue.length < 512 ∧ (current = true ∨ mid = true) ∧
     x.began + 300000 ≤ t) :=
  ⟨⟨24, 10, plant, by decide +kernel⟩,
   ⟨24, 10, plantOf { adopted := some plainConfig, queue := List.replicate 512 fieldItem }, by decide +kernel⟩,
   ⟨1, plant, by decide +kernel⟩,
   ⟨1, outState { retries := 10 }, by decide +kernel⟩,
   ⟨100000000, 1, 0, outState { tripped := some 0, voted := true, retries := 3 }, by decide +kernel⟩,
   ⟨0, 1, plant, by decide +kernel⟩,
   ⟨2000000, 1, 2, plant, by decide +kernel⟩,
   ⟨2000000, 1, plant, by decide +kernel⟩,
   ⟨2000000, 1, onState, by decide +kernel⟩,
   ⟨0, 1, 2, plant, by decide +kernel⟩,
   ⟨0, 1, 0, 1, invisibleState, by decide +kernel⟩,
   ⟨100000, ⟨1, 0, .n1, 0, false, []⟩, (testState ⟨1, 0, .n1, 0, false, []⟩), by decide +kernel⟩,
   ⟨100000, ⟨1, 0, .n2, 0, false, []⟩, (testState ⟨1, 0, .n2, 0, false, []⟩), by decide +kernel⟩,
   ⟨100000, ⟨1, 0, .o1, 0, false, []⟩, (testState ⟨1, 0, .o1, 0, false, []⟩), by decide +kernel⟩,
   ⟨100000, ⟨1, 0, .o2, 0, false, []⟩, (testState ⟨1, 0, .o2, 0, false, []⟩), by decide +kernel⟩,
   ⟨100000, ⟨1, 0, .n3, 0, false, []⟩, (testState ⟨1, 0, .n3, 0, false, []⟩), by decide +kernel⟩,
   ⟨100000, ⟨1, 0, .o3, 0, false, []⟩, (testState ⟨1, 0, .o3, 0, false, []⟩), by decide +kernel⟩,
   ⟨100000, ⟨1, 0, .o3, 0, false, []⟩, plainConfig, (testState ⟨1, 0, .o3, 0, false, []⟩), by decide +kernel⟩,
   ⟨100000, ⟨1, 0, .n1, 0, false, []⟩, (testState ⟨1, 0, .n1, 0, false, []⟩), by decide +kernel⟩,
   ⟨100000, ⟨1, 0, .n3, 0, false, []⟩, (testState ⟨1, 0, .n3, 0, false, []⟩), by decide +kernel⟩,
   ⟨100000, ⟨1, 0, .o1, 0, false, []⟩, (testState ⟨1, 0, .o1, 0, false, []⟩), by decide +kernel⟩,
   ⟨100000, ⟨1, 0, .o2, 0, false, []⟩, (testState ⟨1, 0, .o2, 0, false, []⟩), by decide +kernel⟩,
   ⟨100000, ⟨1, 0, .o2, 0, false, []⟩, (testState ⟨1, 0, .o2, 0, false, []⟩), by decide +kernel⟩,
   ⟨100000, ⟨1, 0, .n2, 0, false, []⟩, (testState ⟨1, 0, .n2, 0, false, []⟩), by decide +kernel⟩,
   ⟨100000, ⟨1, 0, .n1, 0, true, []⟩, (testState ⟨1, 0, .n1, 0, true, []⟩), by decide +kernel⟩,
   ⟨1000000, 1, 0, { onState with time := { onState.time with tb := Per.all (20000000 * 4294967296) } }, by decide +kernel⟩,
   ⟨50000, ⟨1, 0, .dark, 0, false, []⟩, (testState ⟨1, 0, .dark, 0, false, []⟩), by decide +kernel⟩,
   ⟨300000, true, false, ⟨1, 0, .dark, 0, false, []⟩, (testState ⟨1, 0, .dark, 0, false, []⟩), by decide +kernel⟩⟩

theorem witness_FieldInputsAndPairs :
    (∃ (t : Nat) (i : Nat) (level : Bool) (s : State), (1 ≤ i ∧ i ≤ 48 ∧ s.field.ins.length = 48) ∧ s.field.powered
     = true ∧ (s.field.supplies[0]? ≠ some 2 ∧ ((s.inp i).level ≠ level ∨ (s.inp i).invalid = true)) ∧
     s.field.backAt + s.filterTime i ≤ max s.now t ∧ s.pairOf i = none ∧ s.field.queue.length < 512) ∧
    (∃ (t : Nat) (i p c : Nat) (s : State), (1 ≤ i ∧ i ≤ 48 ∧ s.field.ins.length = 48) ∧ s.field.powered = true ∧
     (s.field.supplies[0]? ≠ some 2 ∧ ((s.inp i).level ≠ true ∨ (s.inp i).invalid = true)) ∧ s.field.backAt +
     s.filterTime i ≤ max s.now t ∧ (s.pairOf i = some (p, c) ∧ p ≤ s.field.pairs.length ∧ 1 ≤ p) ∧ ((s.pair
     p).state = .off ∧ (c = 0 ∨ (s.pairEntry p).kind ≠ 2)) ∧ (c = 0 ∧ (s.pairEntry p).inA = i ∨ c = 1 ∧ (s.pairEntry
     p).inB = i) ∧ s.field.queue.length < 511) ∧
    (∃ (t : Nat) (i p c : Nat) (s : State), (1 ≤ i ∧ i ≤ 48 ∧ s.field.ins.length = 48) ∧ s.field.powered = true ∧
     (s.field.supplies[0]? ≠ some 2 ∧ ((s.inp i).level ≠ true ∨ (s.inp i).invalid = true)) ∧ s.field.backAt +
     s.filterTime i ≤ max s.now t ∧ (s.pairOf i = some (p, c) ∧ p ≤ s.field.pairs.length ∧ 1 ≤ p) ∧ ((s.pair
     p).state = .waitOn ∧ (s.pair p).first ≠ c ∧ (c = 0 ∨ (s.pairEntry p).kind ≠ 2)) ∧ (c = 0 ∧ (s.pairEntry p).inA
     = i ∨ c = 1 ∧ (s.pairEntry p).inB = i) ∧ ((s.advance t).engineTime - s.filterTime i) / 10000 * 10000 ≤ (s.pair
     p).start + (s.pairEntry p).discMs * 1000000 ∧ s.field.queue.length < 511) ∧
    (∃ (i : Nat) (s : State), (1 ≤ i ∧ i ≤ 48 ∧ s.field.ins.length = 48) ∧ s.field.powered = true ∧ (s.inp
     i).invalid = false ∧ s.field.queue.length < 512 ∧ s.pairOf i = none) ∧
    (∃ (i p c : Nat) (s : State), (1 ≤ i ∧ i ≤ 48 ∧ s.field.ins.length = 48) ∧ s.field.powered = true ∧ (s.inp
     i).invalid = false ∧ s.field.queue.length < 511 ∧ (s.pairOf i = some (p, c) ∧ 1 ≤ p ∧ p ≤ s.field.pairs.length)
     ∧ (s.pair p).state ≠ .discrepancy) ∧
    (∃ (t : Nat) (p : Nat) (s : State), (1 ≤ p ∧ p ≤ 24 ∧ s.field.pairs.length = 24) ∧ s.field.powered = true ∧
     ((s.pair p).state = .waitOn ∨ (s.pair p).state = .waitOff) ∧ (s.pair p).start + (s.pairEntry p).discMs *
     1000000 + max (s.filterTime (s.pairEntry p).inA) (s.filterTime (s.pairEntry p).inB) ≤ (s.advance t).engineTime
     ∧ s.field.queue.length < 512) ∧
    (∃ (n : Nat) (st : Nat) (s : State), (n ≤ 3 ∧ st ≤ 2 ∧ s.field.supplies.length = 4) ∧ s.field.powered = true ∧
     s.field.supplies[n]? ≠ some st ∧ (n ≠ 0 ∨ st ≠ 2) ∧ s.field.queue.length < 512) ∧
    (∃ (n : Nat) (st : Nat) (s : State), (n ≤ 3 ∧ st ≤ 2 ∧ s.field.supplies.length = 4) ∧ s.field.powered = true ∧
     s.field.supplies[n]? ≠ some st ∧ (n = 0 ∧ st = 2 ∧ s.field.ins.length = 48)) ∧
    (∃ (m : Mast) (n : Nat) (s : State), s.triadRuns m = true ∧ n < 16) :=
  ⟨⟨1000000, 48, true, plant, by decide +kernel⟩,
   ⟨1000000, 1, 1, 0, plantOf { adopted := some { plainConfig with pairs := ⟨1, 1, 2, 5⟩ :: List.replicate 23 {} } }, by decide +kernel⟩,
   ⟨1000000, 2, 1, 1, { pairState with field := { pairState.field with time := 0, timeAt := 1000000 } }, by decide +kernel⟩,
   ⟨1, plant, by decide +kernel⟩,
   ⟨2, 1, 1, pairState, by decide +kernel⟩,
   ⟨0, 1, pairState, by decide +kernel⟩,
   ⟨3, 2, plantOf { adopted := some { plainConfig with fsupUsed := 8 } }, by decide +kernel⟩,
   ⟨0, 2, plant, by decide +kernel⟩,
   ⟨.a, 15, plant, by decide +kernel⟩⟩

theorem witness_SupervisorTimersAndAcknowledgement :
    (∃ (p : SpParams) (s : State), s.sup.params = some p) ∧
    (∃ (p : SpParams) (s : State), s.sup.params = some p ∧ s.log.limits = []) ∧
    (∃ (p : SpParams) (s : State), s.sup.params = some p) ∧
    (∃ (t : Nat) (n : Nat) (p : SpParams) (e : SpLimitEntry) (l : SpLimit) (c : Nat) (m : Mast) (s : State),
     s.sup.params = some p ∧ (m ∈ s.spMasts ∧ 1 ≤ n ∧ n ≤ 8) ∧ (p.limits[n - 1]? = some e ∧ (s.sp m).limits[n - 1]?
     = some l) ∧ (l.crossing = some c ∧ l.supervised = true) ∧ (e.mms * 10 < (s.sp m).vAt p (max s.now t) ∧ c +
     p.confirmMs * ms ≤ max s.now t) ∧ bitOf (s.sp m).latchSls (n - 1) = false) ∧
    (∃ (t : Nat) (n : Nat) (p : SpParams) (e : SpLimitEntry) (l : SpLimit) (c : Nat) (m : Mast) (s : State),
     s.sup.params = some p ∧ (m ∈ s.spMasts ∧ 1 ≤ n ∧ n ≤ 8) ∧ (p.limits[n - 1]? = some e ∧ (s.sp m).limits[n - 1]?
     = some l) ∧ l.crossing = some c ∧ ((s.sp m).vAt p (max s.now t) ≤ e.mms * 10 ∨ l.supervised = false)) ∧
    (∃ (t : Nat) (n : Nat) (p : SpParams) (e : SpLimitEntry) (l : SpLimit) (a : Nat) (m : Mast) (s : State),
     s.sup.params = some p ∧ (m ∈ s.spMasts ∧ 1 ≤ n ∧ n ≤ 8) ∧ (p.limits[n - 1]? = some e ∧ (s.sp m).limits[n - 1]?
     = some l) ∧ (l.selected = some a ∧ l.supervised = false) ∧ a + e.delayMs * ms ≤ max s.now t) ∧
    (∃ (writers : Per Bool) (value : Word) (p : SpParams) (s : State), s.sup.params = some p ∧ s.agreed writers =
     true ∧ (getBits value 31 16 = 0x5341 ∧ (p.ackMode = 1 ∨ p.ackMode = 3)) ∧ (∀ m ∈ s.spMasts, (s.sp m).latchSls <
     256 ∧ (s.sp m).latchWin < 16)) ∧
    (∃ (t : Nat) (writers : Per Bool) (value : Word) (p : SpParams) (m : Mast) (b : Nat) (s : State), s.sup.params =
     some p ∧ s.agreed writers = true ∧ (getBits value 31 16 = 0x5341 ∧ (p.ackMode = 1 ∨ p.ackMode = 3)) ∧ (∀ m ∈
     s.spMasts, (s.sp m).latchSls < 256 ∧ (s.sp m).latchWin < 16) ∧ (m ∈ s.spMasts ∧ s.votes m = true ∧ b < 14 ∧
     bitOf (s.sp m).latches b = true) ∧ (∀ o ∈ s.spMasts, o ≠ m → (s.sp o).latches = 0) ∧ (getBits value 13 0 = 2 ^
     b ∧ (s.advance t).latchClear m p b = true)) ∧
    (∃ (t : Nat) (writers : Per Bool) (value : Word) (p : SpParams) (m : Mast) (b : Nat) (s : State), s.sup.params =
     some p ∧ s.agreed writers = true ∧ (getBits value 31 16 = 0x5341 ∧ (p.ackMode = 1 ∨ p.ackMode = 3)) ∧ (∀ m ∈
     s.spMasts, (s.sp m).latchSls < 256 ∧ (s.sp m).latchWin < 16) ∧ (m ∈ s.spMasts ∧ s.votes m = true ∧ b < 14 ∧
     bitOf (s.sp m).latches b = true) ∧ (∀ o ∈ s.spMasts, o ≠ m → (s.sp o).latches = 0) ∧ (getBits value 13 0 = 2 ^
     b ∧ (s.advance t).latchClear m p b = false) ∧ s.log.limits = []) ∧
    (∃ (writers : Per Bool) (value : Word) (s : State), s.agreed writers = true ∧ getBits value 31 16 = 0x5243) :=
  ⟨⟨spParams, spState {}, by decide +kernel⟩,
   ⟨spParams, spState { slip := some 0, within := some 0 }, by decide +kernel⟩,
   ⟨spParams, spState { slip := some 0, berth := true }, by decide +kernel⟩,
   ⟨1000000, 1, spParams, { mms := 100, always := true, mask := 1 }, ⟨some 0, true, some 0⟩, 0, .b, spState { ax1 := { speed := 2000000, last := some 1000000 }, limits := ⟨some 0, true, some 0⟩ :: List.replicate 7 {} }, by decide +kernel⟩,
   ⟨1000000, 1, spParams, { mms := 100, always := true, mask := 1 }, ⟨some 0, true, some 0⟩, 0, .b, spState { limits := ⟨some 0, true, some 0⟩ :: List.replicate 7 {} }, by decide +kernel⟩,
   ⟨5000000, 8, spParams, { mms := 700, delayMs := 5 }, ⟨some 0, false, none⟩, 0, .a, spState { limits := List.replicate 7 {} ++ [⟨some 0, false, none⟩] }, by decide +kernel⟩,
   ⟨⟨true, true, false, false⟩, 0x53413FFF, spParams, spState { latchSls := 1, latchDir := true, latchOdo := true, latchWin := 1 }, by decide +kernel⟩,
   ⟨0, ⟨true, true, false, false⟩, 0x53410001, spParams, .b, 0, (let z := spState {}; { z with sup := { z.sup with masts := z.sup.masts.set .b { z.sup.masts.b with latchSls := 1 } } }), by decide +kernel⟩,
   ⟨0, ⟨true, true, false, false⟩, 0x53412000, spParams, .b, 13, (let z := spState {}; { z with sup := { z.sup with masts := z.sup.masts.set .b { z.sup.masts.b with latchOdo := true } } }), by decide +kernel⟩,
   ⟨⟨true, true, false, false⟩, 0x52430000, spState { berth := true }, by decide +kernel⟩⟩

theorem witness_InstantsAndLog :
    (∃ (t : Nat) (n : Nat) (x : Nat) (s : State), s.instants = true ∧ (s.advance t).aiDue = some (n, x) ∧ (s.advance
     t).twoEdges n = true) ∧
    (∃ (t : Nat) (n : Nat) (x : Nat) (s : State), s.instants = true ∧ (s.advance t).aiDue = some (n, x) ∧ (s.advance
     t).twoEdges n = false) ∧
    (∃ (t : Nat) (code key : Nat) (p : SummaryPeriod) (s : State), (s.log.periods = [p] ∧ p.code = code ∧ p.key =
     key) ∧ (p.began + sec ≤ (s.advance t).clockOf p.src ∨ (s.advance t).clockOf p.src < p.began)) ∧
    (∃ (t : Nat) (n : Nat) (rest : List Nat) (x : LogEntry) (s : State), s.exporting = true ∧ s.log.unsent = n ::
     rest ∧ (s.log.entry n = some x ∧ severityOf x.event.code ≤ s.getF .agreed fElExportSevmax) ∧ x.event.code ≠
     evSyslogDropped ∧ sec ≤ min (s.getF .agreed fElExportRate * sec) (s.log.tokens + s.getF .agreed fElExportRate *
     (max s.now t - s.log.tokensAt))) ∧
    (∃ (n : Nat) (rest : List Nat) (x : LogEntry) (s : State), s.exporting = true ∧ s.log.unsent = n :: rest ∧
     (s.log.entry n = some x ∧ severityOf x.event.code ≤ s.getF .agreed fElExportSevmax) ∧ x.event.code =
     evSyslogDropped) ∧
    (∃ (t : Nat) (n : Nat) (rest : List Nat) (x : LogEntry) (s : State), s.exporting = true ∧ s.log.unsent = n ::
     rest ∧ (s.log.entry n = some x ∧ severityOf x.event.code ≤ s.getF .agreed fElExportSevmax) ∧ x.event.code ≠
     evSyslogDropped ∧ min (s.getF .agreed fElExportRate * sec) (s.log.tokens + s.getF .agreed fElExportRate * (max
     s.now t - s.log.tokensAt)) < sec) ∧
    (∃ (n : Nat) (rest : List Nat) (s : State), s.exporting = true ∧ s.log.unsent = n :: rest ∧ s.log.entry n = none) ∧
    (∃ (n : Nat) (x : LogEntry) (s : State), s.exporting = true ∧ s.log.unsent = [n] ∧ (s.log.entry n = some x ∧
     s.getF .agreed fElExportSevmax < severityOf x.event.code)) :=
  ⟨⟨1500000, 1, 1000000, (stopState.putF .agreed fTbAicycleCycleUs 1000), by decide +kernel⟩,
   ⟨1500000, 1, 1000000, (let z := stopState.putF .agreed fTbAicycleCycleUs 1000; { z with masts := ⟨{ mastOn with silent := true }, { mastOn with silent := true }, mastOn, {}⟩ }), by decide +kernel⟩,
   ⟨1000000000, 5, 7, ⟨0, 5, 7, 0, 3⟩, { runState with log := { runState.log with periods := [⟨0, 5, 7, 0, 3⟩] } }, by decide +kernel⟩,
   ⟨0, 4096, [], ⟨4096, ⟨5, 0, 1, 0, 0, false⟩⟩, exportState sec, by decide +kernel⟩,
   ⟨4096, [], ⟨4096, ⟨5, evSyslogDropped, 1, 0, 0, false⟩⟩, (let z := exportState 0; { z with log := { z.log with entries := [⟨4096, ⟨5, evSyslogDropped, 1, 0, 0, false⟩⟩] } }), by decide +kernel⟩,
   ⟨0, 4096, [], ⟨4096, ⟨5, 0, 1, 0, 0, false⟩⟩, ((exportState 0).putF .agreed fElExportRate 0), by decide +kernel⟩,
   ⟨7, [], { exportState 0 with log := { (exportState 0).log with unsent := [7] } }, by decide +kernel⟩,
   ⟨4096, ⟨4096, ⟨5, 0, 1, 0, 0, false⟩⟩, ((exportState sec).putF .agreed fElExportSevmax 0), by decide +kernel⟩⟩

theorem witness_NetworkPorts :
    (∃ (p speed : Nat) (s : State), (1 ≤ p ∧ p ≤ 4) ∧ s.net.portEnabled p = true ∧ s.ctl.mode ≠ .standby ∧ (1 ≤
     speed ∧ speed ≤ 2 ∧ bitOf (s.net.port p).speeds (speed - 1) = true) ∧ s.getF .agreed (npF fNpStatSpeed p) ≠
     speed) ∧
    (∃ (p : Nat) (s : State), (1 ≤ p ∧ p ≤ 4) ∧ s.net.portEnabled p = true ∧ s.ctl.mode ≠ .standby ∧ s.getF .agreed
     (npF fNpStatSpeed p) ≠ 0) ∧
    (∃ (p speed : Nat) (s : State), (1 ≤ p ∧ p ≤ 4) ∧ s.net.portEnabled p = true ∧ s.ctl.mode ≠ .standby ∧ speed ≤ 2
     ∧ s.getF .agreed (npF fNpStatSpeed p) = 0) ∧
    (∃ (t : Nat) (p : Nat) (f : List Byte) (s : State), (1 ≤ p ∧ p ≤ 4) ∧ s.voters.any (fun m => (s.mast m).powered)
     = true ∧ (s.ctl.mode ≠ .standby ∧ s.ctl.mode ≠ .boot ∧ s.ctl.mode ≠ .recovery) ∧ s.net.portEnabled p = true ∧
     (60 ≤ f.length ∧ f.length ≤ 1524 ∧ s.net.forMe p f = true) ∧ (isPtp f = true ∨ prpTrailer f = none) ∧ supported
     (s.net.iface p) f = true ∧ ((s.net.port p).classes.length = 8 ∧ s.net.ports.length = 4 ∧ (s.net.port p).classOf
     f < 8) ∧ (((s.net.port p).classes[(s.net.port p).classOf f]?.getD {}).police (max s.now t) (f.length + 4)).2 =
     true ∧ ((s.net.port p).classes[(s.net.port p).classOf f]?.getD {}).used < ((s.net.port p).classes[(s.net.port
     p).classOf f]?.getD {}).reserve) ∧
    (∃ (t : Nat) (p : Nat) (f : List Byte) (s : State), (1 ≤ p ∧ p ≤ 4) ∧ s.voters.any (fun m => (s.mast m).powered)
     = true ∧ (s.ctl.mode ≠ .standby ∧ s.ctl.mode ≠ .boot ∧ s.ctl.mode ≠ .recovery) ∧ s.net.portEnabled p = true ∧
     (60 ≤ f.length ∧ f.length ≤ 1524 ∧ s.net.forMe p f = true) ∧ (isPtp f = true ∨ prpTrailer f = none) ∧ supported
     (s.net.iface p) f = true ∧ ((s.net.port p).classes.length = 8 ∧ s.net.ports.length = 4 ∧ (s.net.port p).classOf
     f < 8) ∧ (((s.net.port p).classes[(s.net.port p).classOf f]?.getD {}).police (max s.now t) (f.length + 4)).2 =
     true ∧ (((s.net.port p).classes[(s.net.port p).classOf f]?.getD {}).reserve ≤ ((s.net.port
     p).classes[(s.net.port p).classOf f]?.getD {}).used ∧ (s.net.port p).pool * 100 < ((s.net.port
     p).classes[(s.net.port p).classOf f]?.getD {}).thresh * (s.net.port p).poolSize)) ∧
    (∃ (t : Nat) (p : Nat) (f : List Byte) (s : State), (1 ≤ p ∧ p ≤ 4) ∧ s.voters.any (fun m => (s.mast m).powered)
     = true ∧ (s.ctl.mode ≠ .standby ∧ s.ctl.mode ≠ .boot ∧ s.ctl.mode ≠ .recovery) ∧ s.net.portEnabled p = true ∧
     (60 ≤ f.length ∧ f.length ≤ 1524 ∧ s.net.forMe p f = true) ∧ (isPtp f = true ∨ prpTrailer f = none) ∧ supported
     (s.net.iface p) f = true ∧ ((s.net.port p).classes.length = 8 ∧ s.net.ports.length = 4 ∧ (s.net.port p).classOf
     f < 8) ∧ (((s.net.port p).classes[(s.net.port p).classOf f]?.getD {}).police (max s.now t) (f.length + 4)).2 =
     false) ∧
    (∃ (t : Nat) (p : Nat) (f : List Byte) (s : State), (1 ≤ p ∧ p ≤ 4) ∧ s.voters.any (fun m => (s.mast m).powered)
     = true ∧ (s.ctl.mode ≠ .standby ∧ s.ctl.mode ≠ .boot ∧ s.ctl.mode ≠ .recovery) ∧ s.net.portEnabled p = true ∧
     (60 ≤ f.length ∧ f.length ≤ 1524 ∧ s.net.forMe p f = true) ∧ (isPtp f = true ∨ prpTrailer f = none) ∧ supported
     (s.net.iface p) f = true ∧ ((s.net.port p).classes.length = 8 ∧ s.net.ports.length = 4 ∧ (s.net.port p).classOf
     f < 8) ∧ (((s.net.port p).classes[(s.net.port p).classOf f]?.getD {}).police (max s.now t) (f.length + 4)).2 =
     true ∧ (((s.net.port p).classes[(s.net.port p).classOf f]?.getD {}).reserve ≤ ((s.net.port
     p).classes[(s.net.port p).classOf f]?.getD {}).used ∧ ((s.net.port p).classes[(s.net.port p).classOf f]?.getD
     {}).thresh * (s.net.port p).poolSize ≤ (s.net.port p).pool * 100)) ∧
    (∃ (p : Nat) (s : State), (1 ≤ p ∧ p ≤ 4) ∧ s.voters.any (fun m => (s.mast m).powered) = true ∧ (s.ctl.mode ≠
     .standby ∧ s.ctl.mode ≠ .boot ∧ s.ctl.mode ≠ .recovery) ∧ s.net.portEnabled p = true) ∧
    (∃ (p : Nat) (f : List Byte) (s : State), (1 ≤ p ∧ p ≤ 4) ∧ s.voters.any (fun m => (s.mast m).powered) = true ∧
     (s.ctl.mode ≠ .standby ∧ s.ctl.mode ≠ .boot ∧ s.ctl.mode ≠ .recovery) ∧ s.net.portEnabled p = true ∧ (f.length
     < 60 ∨ 1524 < f.length)) ∧
    (∃ (p : Nat) (f : List Byte) (s : State), (1 ≤ p ∧ p ≤ 4) ∧ s.voters.any (fun m => (s.mast m).powered) = true ∧
     (s.ctl.mode ≠ .standby ∧ s.ctl.mode ≠ .boot ∧ s.ctl.mode ≠ .recovery) ∧ s.net.portEnabled p = true ∧ (60 ≤
     f.length ∧ f.length ≤ 1524 ∧ s.net.forMe p f = true) ∧ (isPtp f = true ∨ prpTrailer f = none) ∧ (supported
     (s.net.iface p) f = false ∧ udpUnreachable (s.net.iface p) f = false)) ∧
    (∃ (p : Nat) (f : List Byte) (s : State), (1 ≤ p ∧ p ≤ 4) ∧ s.voters.any (fun m => (s.mast m).powered) = true ∧
     (s.ctl.mode ≠ .standby ∧ s.ctl.mode ≠ .boot ∧ s.ctl.mode ≠ .recovery) ∧ s.net.portEnabled p = true ∧ (60 ≤
     f.length ∧ f.length ≤ 1524 ∧ s.net.forMe p f = false)) ∧
    (∃ (t : Nat) (p seq : Nat) (f : List Byte) (s : State), (1 ≤ p ∧ p ≤ 4) ∧ s.voters.any (fun m => (s.mast
     m).powered) = true ∧ (s.ctl.mode ≠ .standby ∧ s.ctl.mode ≠ .boot ∧ s.ctl.mode ≠ .recovery) ∧ s.net.portEnabled
     p = true ∧ (60 ≤ f.length ∧ f.length ≤ 1524 ∧ s.net.forMe p f = true) ∧ (isPtp f = false ∧ prpTrailer f = some
     (seq, if planeOf p = 1 then 0xA else 0xB)) ∧ (s.net.prp[ifaceOf p]?.getD []).any (fun e => decide (max s.now t
     < e.at' + 400 * ms) && e.mac == beAt f 6 6 && e.seq == seq) = true) ∧
    (∃ (t : Nat) (p seq : Nat) (f : List Byte) (s : State), (1 ≤ p ∧ p ≤ 4) ∧ s.voters.any (fun m => (s.mast
     m).powered) = true ∧ (s.ctl.mode ≠ .standby ∧ s.ctl.mode ≠ .boot ∧ s.ctl.mode ≠ .recovery) ∧ s.net.portEnabled
     p = true ∧ (60 ≤ f.length ∧ f.length ≤ 1524 ∧ s.net.forMe p f = true) ∧ (isPtp f = false ∧ prpTrailer f = some
     (seq, if planeOf p = 1 then 0xA else 0xB)) ∧ (s.net.prp[ifaceOf p]?.getD []).any (fun e => decide (max s.now t
     < e.at' + 400 * ms) && e.mac == beAt f 6 6 && e.seq == seq) = false ∧ s.net.prp.length = 2 ∧ supported
     (s.net.iface p) (f.take (f.length - 6)) = true ∧ ((s.net.port p).classes.length = 8 ∧ s.net.ports.length = 4 ∧
     (s.net.port p).classOf (f.take (f.length - 6)) < 8) ∧ (((s.net.port p).classes[(s.net.port p).classOf (f.take
     (f.length - 6))]?.getD {}).police (max s.now t) ((f.take (f.length - 6)).length + 4)).2 = true ∧ ((s.net.port
     p).classes[(s.net.port p).classOf (f.take (f.length - 6))]?.getD {}).used < ((s.net.port p).classes[(s.net.port
     p).classOf (f.take (f.length - 6))]?.getD {}).reserve) ∧
    (∃ (p seq lan : Nat) (f : List Byte) (s : State), (1 ≤ p ∧ p ≤ 4) ∧ s.voters.any (fun m => (s.mast m).powered) =
     true ∧ (s.ctl.mode ≠ .standby ∧ s.ctl.mode ≠ .boot ∧ s.ctl.mode ≠ .recovery) ∧ s.net.portEnabled p = true ∧ (60
     ≤ f.length ∧ f.length ≤ 1524 ∧ s.net.forMe p f = true) ∧ (isPtp f = false ∧ prpTrailer f = some (seq, lan)) ∧
     lan ≠ (if planeOf p = 1 then 0xA else 0xB) ∧ s.log.limits = []) ∧
    (∃ (t : Nat) (p : Nat) (f : List Byte) (s : State), (1 ≤ p ∧ p ≤ 4) ∧ s.voters.any (fun m => (s.mast m).powered)
     = true ∧ (s.ctl.mode ≠ .standby ∧ s.ctl.mode ≠ .boot ∧ s.ctl.mode ≠ .recovery) ∧ s.net.portEnabled p = true ∧
     (60 ≤ f.length ∧ f.length ≤ 1524 ∧ s.net.forMe p f = true) ∧ (isPtp f = true ∨ prpTrailer f = none) ∧ supported
     (s.net.iface p) f = true ∧ ((s.net.port p).classes.length = 8 ∧ s.net.ports.length = 4 ∧ (s.net.port p).classOf
     f < 8) ∧ (((s.net.port p).classes[(s.net.port p).classOf f]?.getD {}).police (max s.now t) (f.length + 4)).2 =
     true ∧ ((s.net.port p).classes[(s.net.port p).classOf f]?.getD {}).used < ((s.net.port p).classes[(s.net.port
     p).classOf f]?.getD {}).reserve ∧ isArpFor (s.net.iface p) f = true ∧ (s.ctl.mode ≠ .safe ∧ s.ctl.bootFrom +
     s.getF .agreed fMcBoottimeToStop * ms + sec ≤ max s.now t) ∧ s.net.arp.length = 2) ∧
    (∃ (t : Nat) (p : Nat) (f : List Byte) (s : State), (1 ≤ p ∧ p ≤ 4) ∧ s.voters.any (fun m => (s.mast m).powered)
     = true ∧ (s.ctl.mode ≠ .standby ∧ s.ctl.mode ≠ .boot ∧ s.ctl.mode ≠ .recovery) ∧ s.net.portEnabled p = true ∧
     (60 ≤ f.length ∧ f.length ≤ 1524 ∧ s.net.forMe p f = true) ∧ (isPtp f = true ∨ prpTrailer f = none) ∧ supported
     (s.net.iface p) f = true ∧ ((s.net.port p).classes.length = 8 ∧ s.net.ports.length = 4 ∧ (s.net.port p).classOf
     f < 8) ∧ (((s.net.port p).classes[(s.net.port p).classOf f]?.getD {}).police (max s.now t) (f.length + 4)).2 =
     true ∧ ((s.net.port p).classes[(s.net.port p).classOf f]?.getD {}).used < ((s.net.port p).classes[(s.net.port
     p).classOf f]?.getD {}).reserve ∧ s.ctl.mode = .safe) ∧
    (∃ (t : Nat) (p : Nat) (fcsOk : Bool) (s : State), (1 ≤ p ∧ p ≤ 4) ∧ s.voters.any (fun m => (s.mast m).powered)
     = true ∧ (s.ctl.mode = .boot ∧ max s.now t < s.ctl.stepAt 1150) ∧ (max s.now t < s.ctl.stepAt 1050 ∨ fcsOk =
     false ∨ s.net.portEnabled p = false)) ∧
    (∃ (t : Nat) (p : Nat) (f : List Byte) (l : List (Nat × Nat)) (s : State), (1 ≤ p ∧ p ≤ 4) ∧ s.voters.any (fun m
     => (s.mast m).powered) = true ∧ (s.ctl.mode = .boot ∧ s.ctl.stepAt 1050 ≤ max s.now t ∧ max s.now t <
     s.ctl.stepAt 1150) ∧ s.net.portEnabled p = true ∧ (isEcho (s.net.iface p) f = true ∧ beAt f 0 6 = (s.net.iface
     p).mac) ∧ rateTake s.net.icmp p (max s.now t) 10 = some l) ∧
    (∃ (s : State), s.ctl.mode = .standby) ∧
    (∃ (iface : Nat) (l : List PrpEntry) (s : State), 1 ≤ iface ∧ s.net.prp[iface - 1]? = some l) :=
  ⟨⟨4, 2, netState, by decide +kernel⟩,
   ⟨4, (netState.putF .agreed (npF fNpStatSpeed 4) 1), by decide +kernel⟩,
   ⟨4, 2, netState, by decide +kernel⟩,
   ⟨0, 4, ptpFrame, netState, by decide +kernel⟩,
   ⟨0, 4, ptpFrame, { netState with net := { netState.net with ports := List.replicate 4 { netPort with classes := List.replicate 8 {} } } }, by decide +kernel⟩,
   ⟨0, 4, ptpFrame, { netState with net := { netState.net with ports := List.replicate 4 { netPort with classes := List.replicate 8 { rate := 1, burst := 0 } } } }, by decide +kernel⟩,
   ⟨0, 4, ptpFrame, { netState with net := { netState.net with ports := List.replicate 4 { netPort with classes := List.replicate 8 { thresh := 0 } } } }, by decide +kernel⟩,
   ⟨4, netState, by decide +kernel⟩,
   ⟨4, List.replicate 59 0, netState, by decide +kernel⟩,
   ⟨4, (List.replicate 6 255 ++ List.replicate 54 0), netState, by decide +kernel⟩,
   ⟨4, (1 :: List.replicate 59 0), netState, by decide +kernel⟩,
   ⟨0, 3, 7, prpFrame, netState, by decide +kernel⟩,
   ⟨0, 1, 8, ((List.replicate 6 255) ++ List.replicate 6 3 ++ [0x08, 0x06] ++ [0, 1, 8, 0, 6, 4, 0, 1] ++ List.replicate 6 3 ++ [0, 0, 0, 9] ++ List.replicate 6 0 ++ [0, 0, 0, 5] ++ List.replicate 12 0 ++ [0, 8, 0xA0, 46, 0x88, 0xFB]), { netState with net := { netState.net with ifaces := [{ mode := 1, ip := 5 }, { mode := 1, ip := 6 }] } }, by decide +kernel⟩,
   ⟨3, 8, 10, ((List.replicate 6 255) ++ List.replicate 6 3 ++ [0x08, 0x06] ++ [0, 1, 8, 0, 6, 4, 0, 1] ++ List.replicate 6 3 ++ [0, 0, 0, 9] ++ List.replicate 6 0 ++ [0, 0, 0, 5] ++ List.replicate 12 0 ++ [0, 8, 0xA0, 46, 0x88, 0xFB]), { netState with net := { netState.net with ifaces := [{ mode := 1, ip := 5 }, { mode := 1, ip := 6 }] } }, by decide +kernel⟩,
   ⟨1000000000, 1, ((List.replicate 6 255) ++ List.replicate 6 3 ++ [0x08, 0x06] ++ [0, 1, 8, 0, 6, 4, 0, 1] ++ List.replicate 6 3 ++ [0, 0, 0, 9] ++ List.replicate 6 0 ++ [0, 0, 0, 5] ++ List.replicate 12 0 ++ List.replicate 6 0), netState, by decide +kernel⟩,
   ⟨1000000000, 1, ((List.replicate 6 255) ++ List.replicate 6 3 ++ [0x08, 0x06] ++ [0, 1, 8, 0, 6, 4, 0, 1] ++ List.replicate 6 3 ++ [0, 0, 0, 9] ++ List.replicate 6 0 ++ [0, 0, 0, 5] ++ List.replicate 12 0 ++ List.replicate 6 0), { netState with ctl := { netState.ctl with mode := .safe } }, by decide +kernel⟩,
   ⟨0, 4, true, bootState, by decide +kernel⟩,
   ⟨(netState.ctl.stepAt 1050), 1, (List.replicate 12 0 ++ [0x08, 0x00] ++ [0x45] ++ List.replicate 8 0 ++ [1] ++ List.replicate 6 0 ++ [0, 0, 0, 5] ++ [8] ++ List.replicate 25 0), [(1050000000, 1), (0, 0), (0, 0), (0, 0)], { netState with ctl := bootState.ctl }, by decide +kernel⟩,
   ⟨{ netState with ctl := { netState.ctl with mode := .standby } }, by decide +kernel⟩,
   ⟨1, [⟨0, 7, 0⟩], netState, by decide +kernel⟩⟩

theorem witness_ProcessAndMessageData :
    (∃ (telegram : Nat) (e : PdEntry) (d : List Byte) (s : State), s.net.pd.find? (fun e => e.telegram == telegram
     && e.dir == 1) = some e ∧ (∀ x ∈ s.net.pd, x.telegram = telegram → x = e) ∧ e.wait = 0 ∧ (s.ctl.mode = .run ∨
     s.ctl.mode = .hold) ∧ s.dataset telegram = some d ∧ s.pdHeld e = false) ∧
    (∃ (telegram : Nat) (e : PdEntry) (s : State), s.net.pd.find? (fun e => e.telegram == telegram && e.dir == 1) =
     some e ∧ (∀ x ∈ s.net.pd, x.telegram = telegram → x = e) ∧ e.wait = 0 ∧ (s.ctl.mode = .run ∨ s.ctl.mode =
     .hold) ∧ s.dataset telegram = none) ∧
    (∃ (telegram : Nat) (e : PdEntry) (d : List Byte) (s : State), s.net.pd.find? (fun e => e.telegram == telegram
     && e.dir == 1 && bitOf e.flags 1) = some e ∧ (s.ctl.mode = .run ∨ s.ctl.mode = .hold) ∧ s.dataset telegram =
     some d) ∧
    (∃ (telegram : Nat) (e : PdEntry) (s : State), s.net.pd.find? (fun e => e.telegram == telegram && e.dir == 1 &&
     bitOf e.flags 1) = some e ∧ (s.ctl.mode = .stop ∨ s.ctl.mode = .service)) ∧
    (∃ (comId : Nat) (e : MdEntry) (s : State), s.net.md.find? (fun e => e.comId == comId) = some e ∧
     s.net.sessions.length < 256) ∧
    (∃ (comId : Nat) (e : MdEntry) (s : State), s.net.md.find? (fun e => e.comId == comId) = some e ∧ 256 ≤
     s.net.sessions.length ∧ (s.ctl.mode ≠ .safe ∧ s.ctl.mode ≠ .standby ∧ s.ctl.mode ≠ .recovery)) ∧
    (∃ (s : State), s.net.sessions.length ≤ 256) ∧
    (∃ (t : Nat) (i : Nat) (c : SafeConn) (s : State), s.net.sc[i]? = some c ∧ (c.dir = 2 ∧ c.expired = false) ∧
     c.acceptedAt + c.watchdog * ms ≤ max s.now t) ∧
    (∃ (m : Mast) (i : Item) (done n k : Nat) (c : SafeConn) (s : State), s.app.inCycle.get m = some n ∧ (s.ctl.mode
     = .run ∨ s.ctl.mode = .hold) ∧ (s.votes m = true ∧ (s.mast m).alive = true ∧ s.app.halted.get m = false) ∧
     (s.app.sub.get m ≠ n ∧ s.lane.images.get m = none ∧ s.lane.late = none) ∧ done - s.app.cycleFrom.get m <
     s.cycleLimit ∧ (s.scOf i = some (k, c) ∧ i.tagOk = true) ∧ c.sent.get m = none) ∧
    (∃ (m : Mast) (i : Item) (done n k : Nat) (c : SafeConn) (x : ScSent) (s : State), s.app.inCycle.get m = some n
     ∧ (s.ctl.mode = .run ∨ s.ctl.mode = .hold) ∧ (s.votes m = true ∧ (s.mast m).alive = true ∧ s.app.halted.get m =
     false) ∧ (s.app.sub.get m ≠ n ∧ s.lane.images.get m = none ∧ s.lane.late = none) ∧ done - s.app.cycleFrom.get m
     < s.cycleLimit ∧ (s.scOf i = some (k, c) ∧ i.tagOk = true) ∧ c.sent.get m = some x ∧ (x.flags ≠ fieldAt i.value
     0 1 % 2 ∨ x.data ≠ i.value.drop 1 ∨ c.maxAge * ms < 2 * (s.time.lastAiTime + s.aiCycle - x.time))) ∧
    (∃ (m : Mast) (i : Item) (done n k : Nat) (c : SafeConn) (x : ScSent) (s : State), s.app.inCycle.get m = some n
     ∧ (s.ctl.mode = .run ∨ s.ctl.mode = .hold) ∧ (s.votes m = true ∧ (s.mast m).alive = true ∧ s.app.halted.get m =
     false) ∧ (s.app.sub.get m ≠ n ∧ s.lane.images.get m = none ∧ s.lane.late = none) ∧ done - s.app.cycleFrom.get m
     < s.cycleLimit ∧ (s.scOf i = some (k, c) ∧ i.tagOk = true) ∧ c.sent.get m = some x ∧ (x.flags = fieldAt i.value
     0 1 % 2 ∧ x.data = i.value.drop 1 ∧ 2 * (s.time.lastAiTime + s.aiCycle - x.time) ≤ c.maxAge * ms)) :=
  ⟨⟨9, pubEntry, [1, 2, 3, 4], netState, by decide +kernel⟩,
   ⟨9, pubEntry, { netState with lane := { netState.lane with inForce := [] } }, by decide +kernel⟩,
   ⟨9, pubEntry, [1, 2, 3, 4], netState, by decide +kernel⟩,
   ⟨9, pubEntry, { netState with ctl := stopState.ctl }, by decide +kernel⟩,
   ⟨5, ⟨5, 0, 1, 1, 100, 64⟩, netState, by decide +kernel⟩,
   ⟨5, ⟨5, 0, 1, 1, 100, 64⟩, { netState with net := { netState.net with sessions := List.replicate 256 ⟨0, 5, 0, 100⟩ } }, by decide +kernel⟩,
   ⟨{ netState with net := { netState.net with sessions := [⟨0, 5, 0, 100⟩] } }, by decide +kernel⟩,
   ⟨50000000, 0, safeConn, netState, by decide +kernel⟩,
   ⟨.a, (Item.form 0xC009 0 0 [0, 1, 2]), 0, 1, 0, { safeConn with dir := 1, sent := ⟨none, none, none, none⟩ }, { cycleState with net := { netState.net with pd := [{ pubEntry with flags := 1, sc := 0 }], sc := [{ safeConn with dir := 1, sent := ⟨none, none, none, none⟩ }] } }, by decide +kernel⟩,
   ⟨.a, (Item.form 0xC009 0 0 [0, 1, 2]), 0, 1, 0, { safeConn with dir := 1, sent := ⟨some ⟨4294967295, 1, [1, 2], 0, []⟩, none, none, none⟩ }, ⟨4294967295, 1, [1, 2], 0, []⟩, { cycleState with net := { netState.net with pd := [{ pubEntry with flags := 1, sc := 0 }], sc := [{ safeConn with dir := 1, sent := ⟨some ⟨4294967295, 1, [1, 2], 0, []⟩, none, none, none⟩ }] } }, by decide +kernel⟩,
   ⟨.a, (Item.form 0xC009 0 0 [0, 1, 2]), 0, 1, 0, { safeConn with dir := 1, sent := ⟨some ⟨9, 0, [1, 2], 0, [7]⟩, none, none, none⟩ }, ⟨9, 0, [1, 2], 0, [7]⟩, { cycleState with net := { netState.net with pd := [{ pubEntry with flags := 1, sc := 0 }], sc := [{ safeConn with dir := 1, sent := ⟨some ⟨9, 0, [1, 2], 0, [7]⟩, none, none, none⟩ }] } }, by decide +kernel⟩⟩

theorem witness_RingsAndPool :
    (∃ (m : Mast) (n : Nat) (value : Nat) (s : State), s.triadRuns m = true ∧ (ringSoft n = true ∧ s.ringOn m n =
     true) ∧ (usedOf (s.ringProd m n) (s.ringCons m n) ≤ usedOf (value % 65536) (s.ringCons m n) ∧ usedOf (value %
     65536) (s.ringCons m n) ≤ s.ringSize m n)) ∧
    (∃ (m : Mast) (n : Nat) (value : Nat) (s : State), s.triadRuns m = true ∧ (n < 128 ∧ ringOwned n = false) ∧
     (ringSoft n = false ∨ s.ringOn m n = false ∨ usedOf (value % 65536) (s.ringCons m n) < usedOf (s.ringProd m n)
     (s.ringCons m n) ∨ s.ringSize m n < usedOf (value % 65536) (s.ringCons m n)) ∧ s.log.limits = []) ∧
    (∃ (m : Mast) (n : Nat) (value : Nat) (s : State), s.triadRuns m = true ∧ (n < 128 ∧ ringOwned n = false) ∧
     (ringHard n = false ∨ s.ringOn m n = false ∨ usedOf (s.ringProd m n) (s.ringCons m n) < usedOf (value % 65536)
     (s.ringCons m n)) ∧ s.log.limits = []) ∧
    (∃ (n : Nat), ringOwned n = true) ∧
    (∃ (m : Mast) (n : Nat) (value : Nat) (s : State), s.triadRuns m = true ∧ (ringHard n = true ∧ s.ringOn m n =
     true) ∧ usedOf (value % 65536) (s.ringCons m n) ≤ usedOf (s.ringProd m n) (s.ringCons m n) ∧ (n < 64 ∨ 95 < n ∨
     s.dmaState m (n - 64) ≠ 3 ∨ usedOf (s.ringProd m n) (value % 65536) = s.ringSize m n)) ∧
    (∃ (m : Mast) (n : Nat) (value : Nat) (r : List Byte) (s : State), s.triadRuns m = true ∧ (64 ≤ n ∧ n ≤ 95 ∧
     s.ringOn m n = true ∧ s.dmaState m (n - 64) = 3) ∧ usedOf (value % 65536) (s.ringCons m n) ≤ usedOf (s.ringProd
     m n) (s.ringCons m n) ∧ usedOf (s.ringProd m n) (value % 65536) ≠ s.ringSize m n ∧ ((s.queue.get m).channel (n
     - 64)).record = some (r, 4)) ∧
    (∃ (m : Mast) (n : Nat) (value : Nat) (r : List Byte) (s : State), s.triadRuns m = true ∧ (64 ≤ n ∧ n ≤ 95 ∧
     s.ringOn m n = true ∧ s.dmaState m (n - 64) = 3) ∧ usedOf (value % 65536) (s.ringCons m n) ≤ usedOf (s.ringProd
     m n) (s.ringCons m n) ∧ usedOf (s.ringProd m n) (value % 65536) ≠ s.ringSize m n ∧ ((s.queue.get m).channel (n
     - 64)).record = some (r, 1) ∧ (fieldAt ((s.queue.get m).channel (n - 64)).bytes 0 4 % 2 = 1 ∧ s.getF (.mast m)
     (dmaF fDmStatDbpend (n - 64)) = 0)) ∧
    (∃ (m : Mast) (index : Nat) (s : State), s.triadRuns m = true ∧ (s.queue.get m).inUse.contains (index % 8192) =
     true ∧ (s.queue.get m).free.length < 8192) ∧
    (∃ (m : Mast) (index : Nat) (s : State), s.triadRuns m = true ∧ (s.queue.get m).inUse.contains (index % 8192) =
     false ∧ s.log.limits = []) ∧
    (∃ (m : Mast) (n : Nat) (s : State), s.triadRuns m = true ∧ (ringSoft n = true ∧ s.ringOn m n = true) ∧
     s.ringProd m n ≠ s.ringCons m n ∧ (inRam (s.ringSlot m n (s.ringCons m n) + 0x14) = true ∧ (s.ringSlot m n
     (s.ringCons m n) + 0x14) % 4 = 0) ∧ s.txCheck m n ((s.mast m).mem.readBytes (s.ringSlot m n (s.ringCons m n))
     32) = 0) ∧
    (∃ (m : Mast) (n : Nat) (s : State), s.triadRuns m = true ∧ (ringSoft n = true ∧ s.ringOn m n = true) ∧
     s.ringProd m n ≠ s.ringCons m n ∧ (inRam (s.ringSlot m n (s.ringCons m n) + 0x14) = true ∧ (s.ringSlot m n
     (s.ringCons m n) + 0x14) % 4 = 0) ∧ s.txCheck m n ((s.mast m).mem.readBytes (s.ringSlot m n (s.ringCons m n))
     32) = 5 ∧ s.log.limits = []) ∧
    (∃ (m : Mast) (n : Nat) (s : State), s.triadRuns m = true ∧ (ringSoft n = true ∧ s.ringOn m n = true) ∧
     s.ringProd m n ≠ s.ringCons m n ∧ (inRam (s.ringSlot m n (s.ringCons m n) + 0x14) = true ∧ (s.ringSlot m n
     (s.ringCons m n) + 0x14) % 4 = 0) ∧ s.txCheck m n ((s.mast m).mem.readBytes (s.ringSlot m n (s.ringCons m n))
     32) = 6 ∧ s.intake.exitFails = [] ∧ (∀ u ∈ s.ringUnits n (bitOf (fieldAt ((s.mast m).mem.readBytes (s.ringSlot
     m n (s.ringCons m n)) 32) 8 4) 3) (s.txItem m ((s.mast m).mem.readBytes (s.ringSlot m n (s.ringCons m n))
     32)).value, (s.unit u).owner ≠ m)) :=
  ⟨⟨.a, 119, 16, ringState 119, by decide +kernel⟩,
   ⟨.a, 119, 17, ringState 119, by decide +kernel⟩,
   ⟨.a, 121, 5, runState, by decide +kernel⟩,
   ⟨122, by decide +kernel⟩,
   ⟨.a, 32, 5, (ringHardState 32 5 65530), by decide +kernel⟩,
   ⟨.a, 95, 1, [1], dmaWaitState, by decide +kernel⟩,
   ⟨.a, 95, 1, [1], { dmaWaitState with queue := dmaWaitState.queue.set .a { channels := [{ n := 31, bytes := dmaDesc, record := some ([1], 1) }] } }, by decide +kernel⟩,
   ⟨.a, 8191, { runState with queue := runState.queue.set .a { free := [3], inUse := [8191, 2] } }, by decide +kernel⟩,
   ⟨.a, 7, runState, by decide +kernel⟩,
   ⟨.a, 31, txRing (some txGood), by decide +kernel⟩,
   ⟨.a, 31, txRing none, by decide +kernel⟩,
   ⟨.a, 31, txRing (some txBad), by decide +kernel⟩⟩

theorem witness_DmaChannels :
    (∃ (m : Mast) (n : Nat) (s : State), s.triadRuns m = true ∧ n < 32 ∧ (s.dmaState m n = 0 ∧ s.getF (.mast m)
     (dmaF fDmCtrlEnable n) = 1) ∧ s.dmaCheck m n (s.getF (.mast m) (dmaF fDmHeadAddr n) * 64) ((s.mast
     m).mem.readBytes (s.getF (.mast m) (dmaF fDmHeadAddr n) * 64) 64) = 0) ∧
    (∃ (m : Mast) (n : Nat) (s : State), s.triadRuns m = true ∧ n < 32 ∧ (s.dmaState m n = 0 ∧ s.getF (.mast m)
     (dmaF fDmCtrlEnable n) = 1) ∧ s.dmaCheck m n (s.getF (.mast m) (dmaF fDmHeadAddr n) * 64) ((s.mast
     m).mem.readBytes (s.getF (.mast m) (dmaF fDmHeadAddr n) * 64) 64) ≠ 0 ∧ s.ringOn m (64 + n) = false) ∧
    (∃ (m : Mast) (n : Nat) (s : State), s.triadRuns m = true ∧ n < 32 ∧ (s.dmaState m n = 4 ∨ s.dmaState m n = 0 ∧
     s.getF (.mast m) (dmaF fDmCtrlEnable n) = 0) ∧ s.log.limits = []) ∧
    (∃ (m : Mast) (n : Nat) (s : State), s.triadRuns m = true ∧ n < 32 ∧ (s.dmaState m n = 1 ∨ s.dmaState m n = 3)) ∧
    (∃ (m : Mast) (n : Nat) (s : State), s.triadRuns m = true ∧ n < 32 ∧ s.dmaState m n = 2 ∧ leNat ((s.mast
     m).mem.readBytes ((s.queue.get m).channel n).addr 4) % 2 = 1) ∧
    (∃ (m : Mast) (n : Nat) (s : State), s.triadRuns m = true ∧ n < 32 ∧ s.dmaState m n = 2 ∧ leNat ((s.mast
     m).mem.readBytes ((s.queue.get m).channel n).addr 4) % 2 = 0 ∧ s.dmaCheck m n (leNat ((s.mast m).mem.readBytes
     ((s.queue.get m).channel n).addr 4) / 64 * 64) ((s.mast m).mem.readBytes (leNat ((s.mast m).mem.readBytes
     ((s.queue.get m).channel n).addr 4) / 64 * 64) 64) = 0) ∧
    (∃ (m : Mast) (n : Nat) (ch : DmaChannel) (s : State), s.triadRuns m = true ∧ n < 32 ∧ (s.dmaState m n = 1 ∧
     (s.queue.get m).channel n = ch) ∧ (bitOf (fieldAt ch.bytes 4 4) 8 = false ∧ fieldAt ch.bytes 0 4 % 2 = 1) ∧
     s.getF (.mast m) (dmaF fDmStatDbpend n) = 0 ∧ ((srcWalk ch.bytes).bytes.length = (dstWalk ch.bytes).length ∧
     (dstWalk ch.bytes).bytes.length = (dstWalk ch.bytes).length ∧ (dstWalk ch.bytes).length < 4294967296) ∧
     (dstWalk ch.bytes).bytes.Nodup ∧ (∀ a ∈ (dstWalk ch.bytes).bytes, inRam a = true ∧ (a < ch.addr + 0x3C ∨
     ch.addr + 0x40 ≤ a)) ∧ inRam (ch.addr + 0x3C) = true) ∧
    (∃ (m : Mast) (n : Nat) (ch : DmaChannel) (s : State), s.triadRuns m = true ∧ n < 32 ∧ (s.dmaState m n = 1 ∧
     (s.queue.get m).channel n = ch) ∧ (bitOf (fieldAt ch.bytes 4 4) 8 = false ∧ fieldAt ch.bytes 0 4 % 2 = 0) ∧
     ((srcWalk ch.bytes).bytes.length = (dstWalk ch.bytes).length ∧ (dstWalk ch.bytes).bytes.length = (dstWalk
     ch.bytes).length ∧ (dstWalk ch.bytes).length < 4294967296) ∧ (dstWalk ch.bytes).bytes.Nodup ∧ (∀ a ∈ (dstWalk
     ch.bytes).bytes, inRam a = true ∧ (a < ch.addr + 0x3C ∨ ch.addr + 0x40 ≤ a)) ∧ inRam (ch.addr + 0x3C) = true ∧
     ((fieldAt ch.bytes 0 4 / 64 * 64) = ch.addr ∧ ∀ a ∈ (dstWalk ch.bytes).bytes, a < ch.addr ∨ ch.addr + 0x40 ≤ a)
     ∧ (s.mast m).mem.readBytes ch.addr 60 = ch.bytes.take 60 ∧ s.dmaCheck m n ch.addr (ch.bytes.take 60 ++ natLe 4
     1) = 0) ∧
    (∃ (m : Mast) (n : Nat) (ch : DmaChannel) (s : State), s.triadRuns m = true ∧ n < 32 ∧ (s.dmaState m n = 1 ∧
     (s.queue.get m).channel n = ch) ∧ bitOf (fieldAt ch.bytes 4 4) 8 = true ∧ (s.ringOn m (64 + n) = true ∧
     s.ringFull m (64 + n) = true) ∧ ((srcWalk ch.bytes).bytes.length = (dstWalk ch.bytes).length ∧ (dstWalk
     ch.bytes).bytes.length = (dstWalk ch.bytes).length ∧ (dstWalk ch.bytes).length < 4294967296) ∧ (dstWalk
     ch.bytes).bytes.Nodup ∧ (∀ a ∈ (dstWalk ch.bytes).bytes, inRam a = true ∧ (a < ch.addr + 0x3C ∨ ch.addr + 0x40
     ≤ a)) ∧ inRam (ch.addr + 0x3C) = true) ∧
    (∃ (m : Mast) (n : Nat) (ch : DmaChannel) (s : State), s.triadRuns m = true ∧ n < 32 ∧ (s.dmaState m n = 1 ∧
     (s.queue.get m).channel n = ch) ∧ (bitOf (fieldAt ch.bytes 4 4) 8 = true ∧ fieldAt ch.bytes 0 4 % 2 = 1) ∧
     s.getF (.mast m) (dmaF fDmStatDbpend n) = 0 ∧ (s.ringOn m (64 + n) = true ∧ s.ringFull m (64 + n) = false)) ∧
    (∃ (m : Mast) (n : Nat) (ch : DmaChannel) (s : State), s.triadRuns m = true ∧ n < 32 ∧ (s.dmaState m n = 1 ∧
     (s.queue.get m).channel n = ch) ∧ s.ringOn m (64 + n) = false ∧ inRam (ch.addr + 0x3C) = true) ∧
    (∃ (m : Mast) (n : Nat) (written : Nat) (rack : List Byte) (ch : DmaChannel) (a b : Nat) (s : State),
     s.triadRuns m = true ∧ n < 32 ∧ (s.dmaState m n = 1 ∧ (s.queue.get m).channel n = ch) ∧ ((dstWalk
     ch.bytes).bytes = [a, b] ∧ (dstWalk ch.bytes).width = 1 ∧ written = 1) ∧ (inRam a = true ∧ (a < ch.addr + 0x3C
     ∨ ch.addr + 0x40 ≤ a)) ∧ s.ringOn m (64 + n) = false ∧ (gather (s.mast m).mem (srcWalk ch.bytes).bytes
     rack).length = 2) ∧
    (∃ (m : Mast) (n : Nat) (s : State), s.triadRuns m = true ∧ n < 32 ∧ s.dmaState m n = 4) :=
  ⟨⟨.a, 31, dmaIdleState, by decide +kernel⟩,
   ⟨.a, 31, (dmaIdleState.store .a 0x40000000 (natLe 4 3)), by decide +kernel⟩,
   ⟨.a, 31, dmaStopState, by decide +kernel⟩,
   ⟨.a, 31, dmaRunState, by decide +kernel⟩,
   ⟨.a, 31, (dmaRunState.setDma .a 31 2), by decide +kernel⟩,
   ⟨.a, 31, (((dmaRunState.store .a 0x40000040 dmaDesc).store .a 0x40000000 (natLe 4 0x40000040)).setDma .a 31 2), by decide +kernel⟩,
   ⟨.a, 31, { n := 31, addr := 0x40000000, bytes := dmaDesc }, dmaRunState, by decide +kernel⟩,
   ⟨.a, 31, { n := 31, addr := 0x40000000, bytes := (natLe 4 0x40000000 ++ dmaDesc.drop 4) }, ((dmaRunState.store .a 0x40000000 (natLe 4 0x40000000 ++ dmaDesc.drop 4)).setQueue .a { channels := [{ n := 31, addr := 0x40000000, bytes := (natLe 4 0x40000000 ++ dmaDesc.drop 4) }] }), by decide +kernel⟩,
   ⟨.a, 31, { n := 31, addr := 0x40000000, bytes := (natLe 4 1 ++ natLe 4 0x100 ++ dmaDesc.drop 8) }, ((((((dmaRunState.setQueue .a { channels := [{ n := 31, addr := 0x40000000, bytes := (natLe 4 1 ++ natLe 4 0x100 ++ dmaDesc.drop 8) }] }).putF (.mast .a) (ringF fQmRingCfgEnable 95) 1).putF (.mast .a) (ringF fQmRingCfgSize 95) 4).putF (.mast .a) (ringF fQmRingProdProd 95) 16))), by decide +kernel⟩,
   ⟨.a, 31, { n := 31, addr := 0x40000000, bytes := (natLe 4 1 ++ natLe 4 0x100 ++ dmaDesc.drop 8) }, (((((dmaRunState.setQueue .a { channels := [{ n := 31, addr := 0x40000000, bytes := (natLe 4 1 ++ natLe 4 0x100 ++ dmaDesc.drop 8) }] }).putF (.mast .a) (ringF fQmRingBaseBase 95) 0x800000).putF (.mast .a) (ringF fQmRingCfgEnable 95) 1).putF (.mast .a) (ringF fQmRingCfgSize 95) 4).putF (.mast .a) (ringF fQmRingProdProd 95) 15), by decide +kernel⟩,
   ⟨.a, 31, { n := 31, addr := 0x40000000, bytes := dmaDesc }, dmaRunState, by decide +kernel⟩,
   ⟨.a, 31, 1, [], { n := 31, addr := 0x40000000, bytes := dmaTwo }, 0x40002000, 0x40002001, (dmaRunState.setQueue .a { channels := [{ n := 31, addr := 0x40000000, bytes := dmaTwo }] }), by decide +kernel⟩,
   ⟨.a, 31, dmaStopState, by decide +kernel⟩⟩

theorem witness_CacheOperations :
    (∃ (m : Mast) (tr : Triad) (s : State), s.triadRuns m = true ∧ (1 ≤ s.getF (.triad m tr) fQmCmlenLen ∧ s.getF
     (.triad m tr) fQmCmlenLen ≤ 16777216)) ∧
    (∃ (m : Mast) (tr : Triad) (s : State), s.triadRuns m = true ∧ 16777216 < s.getF (.triad m tr) fQmCmlenLen) ∧
    (∃ (m : Mast) (tr : Triad) (s : State), s.triadRuns m = true ∧ (1 ≤ s.getF (.triad m tr) fQmCmlenLen ∧ s.getF
     (.triad m tr) fQmCmlenLen ≤ 16777216)) ∧
    (∃ (m : Mast) (tr : Triad) (s : State), s.triadRuns m = true ∧ 16777216 < s.getF (.triad m tr) fQmCmlenLen) ∧
    (∃ (m : Mast) (tr : Triad) (s : State), s.triadRuns m = true ∧ (1 ≤ s.getF (.triad m tr) fQmCmlenLen ∧ s.getF
     (.triad m tr) fQmCmlenLen ≤ 16777216)) ∧
    (∃ (m : Mast) (tr : Triad) (s : State), s.triadRuns m = true ∧ 16777216 < s.getF (.triad m tr) fQmCmlenLen) ∧
    (∃ (m : Mast) (tr : Triad) (x : CacheOp) (s : State), s.triadRuns m = true ∧ ((s.queue.get m).cache tr).op =
     some x ∧ (∀ l ∈ x.dirty, l.1 % 64 = 0 ∧ inRam l.1 = true ∧ l.2.length = 64 ∧ reservedArea l.1 = false ∧ (tr =
     .c → s.fenced l.1 = false)) ∧ (x.dirty.map Prod.fst).Nodup) ∧
    (∃ (m : Mast) (tr : Triad) (x : CacheOp) (a : Nat) (line : List Byte) (s : State), s.triadRuns m = true ∧
     (((s.queue.get m).cache tr).op = some x ∧ x.dirty = [(a, line)] ∧ a % 64 = 0) ∧ (reservedArea a = true ∨ tr =
     .c ∧ s.fenced a = true) ∧ ((s.queue.get m).cache tr).barrier = false) ∧
    (∃ (m : Mast) (tr : Triad) (s : State), s.triadRuns m = true ∧ ((s.queue.get m).cache tr).op = none) ∧
    (∃ (m : Mast) (tr : Triad) (s : State), s.triadRuns m = true ∧ ((s.queue.get m).cache tr).op.isSome = true) :=
  ⟨⟨.a, .c, cacheState 0x40000000 100 {}, by decide +kernel⟩,
   ⟨.a, .c, cacheState 0 16777217 {}, by decide +kernel⟩,
   ⟨.a, .c, cacheState 0x40000000 100 {}, by decide +kernel⟩,
   ⟨.a, .c, cacheState 0 16777217 {}, by decide +kernel⟩,
   ⟨.a, .c, cacheState 0x40000000 100 {}, by decide +kernel⟩,
   ⟨.a, .c, cacheState 0 16777217 {}, by decide +kernel⟩,
   ⟨.a, .c, ⟨1, 0x40000000, 128, [(0x40000040, List.replicate 64 6), (0x40000000, List.replicate 64 5)]⟩, cacheState 0x40000000 128 { op := some ⟨1, 0x40000000, 128, [(0x40000040, List.replicate 64 6), (0x40000000, List.replicate 64 5)]⟩, barrier := true }, by decide +kernel⟩,
   ⟨.a, .c, ⟨1, 0x10000000, 64, [(0x10000000, List.replicate 64 5)]⟩, 0x10000000, (List.replicate 64 5), ((cacheState 0x10000000 64 { op := some ⟨1, 0x10000000, 64, [(0x10000000, List.replicate 64 5)]⟩ }).putF .agreed fTdFenceSram 1), by decide +kernel⟩,
   ⟨.a, .c, runState, by decide +kernel⟩,
   ⟨.a, .c, cacheState 0x40000000 64 { op := some ⟨1, 0x40000000, 64, []⟩ }, by decide +kernel⟩⟩

theorem witness_StayLinkFrames :
    (∃ (f : List Byte) (s : State), s.slRole ≠ 0 ∧ (20 + fieldAt f 6 2 ≤ f.length ∧ fieldAt f 6 2 ≤ 1024 ∧ fieldAt f
     (16 + fieldAt f 6 2) 4 = (crc32c (f.take (16 + fieldAt f 6 2))).toNat) ∧ (fieldAt f 0 1 = 2 ∧ fieldAt f 2 1 = 0
     ∧ fieldAt f 1 1 ≠ s.ownSlot) ∧ (fieldAt f 1 1 ≠ s.slMaster ∧ s.slMaster ≠ 0 ∧ fieldAt f 17 1 ≠ fieldAt f 1 1) ∧
     s.stay.members.all (fun m => m.slot != fieldAt f 1 1) = true) ∧
    (∃ (f : List Byte) (x : SlMember) (s : State), s.slRole ≠ 0 ∧ (20 + fieldAt f 6 2 ≤ f.length ∧ fieldAt f 6 2 ≤
     1024 ∧ fieldAt f (16 + fieldAt f 6 2) 4 = (crc32c (f.take (16 + fieldAt f 6 2))).toNat) ∧ (fieldAt f 0 1 = 2 ∧
     fieldAt f 2 1 = 0 ∧ fieldAt f 1 1 ≠ s.ownSlot) ∧ s.stay.members.find? (fun m => m.slot == fieldAt f 1 1) = some
     x ∧ (fieldAt f 1 1 ≠ s.slMaster ∧ s.slMaster ≠ 0 ∧ fieldAt f 17 1 ≠ fieldAt f 1 1)) ∧
    (∃ (f : List Byte) (s : State), s.slRole ≠ 0 ∧ (20 + fieldAt f 6 2 ≤ f.length ∧ fieldAt f 6 2 ≤ 1024 ∧ fieldAt f
     (16 + fieldAt f 6 2) 4 = (crc32c (f.take (16 + fieldAt f 6 2))).toNat) ∧ (fieldAt f 0 1 = 1 ∧ fieldAt f 1 1 =
     s.slMaster ∧ s.slRole = 1 ∧ fieldAt f 1 1 ≠ s.ownSlot) ∧ fieldAt f 2 1 = 0 ∧ (s.time.protocol ≠ 0 ∧
     s.time.rackMismatch = false ∧ s.servo ≠ tbUnset)) ∧
    (∃ (f : List Byte) (s : State), s.slRole ≠ 0 ∧ (20 + fieldAt f 6 2 ≤ f.length ∧ fieldAt f 6 2 ≤ 1024 ∧ fieldAt f
     (16 + fieldAt f 6 2) 4 = (crc32c (f.take (16 + fieldAt f 6 2))).toNat) ∧ (fieldAt f 0 1 = 3 ∧ fieldAt f 1 1 ≠
     s.ownSlot) ∧ (fieldAt f 2 1 = 0 ∨ fieldAt f 2 1 = s.ownSlot) ∧ (fieldAt f 8 2 = 0 ∧ fieldAt f 0xA 2 = 1)) ∧
    (∃ (f : List Byte) (s : State), s.slRole ≠ 0 ∧ (20 + fieldAt f 6 2 ≤ f.length ∧ fieldAt f 6 2 ≤ 1024 ∧ fieldAt f
     (16 + fieldAt f 6 2) 4 = (crc32c (f.take (16 + fieldAt f 6 2))).toNat) ∧ (fieldAt f 0 1 = 2 ∧ fieldAt f 1 1 =
     s.ownSlot) ∧ (s.stay.sent.contains f = false ∧ s.stay.conflict = false)) ∧
    (∃ (f : List Byte) (s : State), s.slRole ≠ 0 ∧ (¬ (20 + fieldAt f 6 2 ≤ f.length ∧ fieldAt f 6 2 ≤ 1024 ∧
     fieldAt f (16 + fieldAt f 6 2) 4 = (crc32c (f.take (16 + fieldAt f 6 2))).toNat))) ∧
    (∃ (f : List Byte) (s : State), s.slRole ≠ 0 ∧ (20 + fieldAt f 6 2 ≤ f.length ∧ fieldAt f 6 2 ≤ 1024 ∧ fieldAt f
     (16 + fieldAt f 6 2) 4 = (crc32c (f.take (16 + fieldAt f 6 2))).toNat) ∧ (fieldAt f 0 1 ≠ 1 ∧ fieldAt f 2 1 ≠ 0
     ∧ fieldAt f 2 1 ≠ s.ownSlot ∧ fieldAt f 1 1 ≠ s.ownSlot)) ∧
    (∃ (t : Nat) (s : State), s.slRole ≠ 0 ∧ s.owned 7 = true ∧ (s.slMaster ≠ 0 ∧ s.slIsMember s.slMaster = true ∨
     max s.now t < s.stay.joinedAt + 3 * ms)) ∧
    (∃ (q : SlQueued) (rest : List SlQueued) (s : State), (s.stay.queued = q :: rest ∧ q.value.length ≤ 65536) ∧
     s.slRole ≠ 0 ∧ s.owned 7 = true ∧ (s.stay.sentThisCycle = false ∧ 2 ≤ (s.voters.filter (fun m => q.deposits.get
     m)).length) ∧ s.shareFits = true ∧ (((s.stay.seqs.find? (fun e => e.1 == 3)).map Prod.snd).getD 0) < 65536) :=
  ⟨⟨presence 7, stayState, by decide +kernel⟩,
   ⟨presence 6, slMemberOf 6 6 5 64, stayState, by decide +kernel⟩,
   ⟨(slFrame 1 5 0 0 0 1 0 (natLe 8 7 ++ natLe 8 3 ++ natLe 4 5 ++ natLe 1 3 ++ natLe 3 0)), { stayState.putF .agreed fTbStatState 2 with time := { stayState.time with protocol := 1 } }, by decide +kernel⟩,
   ⟨(slFrame 3 6 0 0 0 1 0 [1, 2]), stayState, by decide +kernel⟩,
   ⟨presence 3, stayState, by decide +kernel⟩,
   ⟨(presence 7).set 19 9, stayState, by decide +kernel⟩,
   ⟨(slFrame 4 7 9 0 0 1 0 [1, 2]), stayState, by decide +kernel⟩,
   ⟨0, stayState, by decide +kernel⟩,
   ⟨⟨[1, 2, 3], ⟨true, true, false, false⟩⟩, [], blockStay, by decide +kernel⟩⟩

theorem witness_StayLinkRing :
    (∃ (t : Nat) (slot : Nat) (x : SlMember) (s : State), s.stay.members.find? (fun m => m.slot == slot) = some x ∧
     x.heard + 3 * ms ≤ t ∧ slot ≠ s.slMaster) ∧
    (∃ (t : Nat) (slot next : Nat) (x : SlMember) (s : State), s.slRole ≠ 0 ∧ s.getF .agreed fSlAppfetchState ≠ 2 ∧
     s.stay.members.find? (fun m => m.slot == slot) = some x ∧ x.heard + 3 * ms ≤ t ∧ (slot = s.slMaster ∧ slot ≠
     s.ownSlot) ∧ (s.getF .agreed fTbStatSrc = 3 ∧ s.servo = tbLocked) ∧ (s.stay.members.filter (fun m => m.slot !=
     slot)).all (fun m => m.master == slot || m.master == 0) = true ∧ (lowestRank (s.ranks.filter (fun r => r.1 !=
     slot)) = some next ∧ next ≠ s.ownSlot ∧ 0 < next ∧ next < 32 ∧ next ≠ slot)) ∧
    (∃ (t : Nat) (slot : Nat) (s : State), s.slRole ≠ 0 ∧ s.getF .agreed fSlAppfetchState ≠ 2 ∧ (s.slMaster = 0 ∧
     s.stay.joinedAt + 3 * ms ≤ max s.now t) ∧ s.stay.members.all (fun m => m.master == 0) = true ∧ (lowestRank
     s.ranks = some slot ∧ slot ≠ s.ownSlot ∧ 0 < slot ∧ slot < 32)) ∧
    (∃ (slot : Nat) (x : SlMember) (s : State), s.slRole ≠ 0 ∧ s.getF .agreed fSlAppfetchState ≠ 2 ∧
     s.stay.members.find? (fun m => m.slot == slot) = some x ∧ (s.slMaster ≠ 0 ∧ slot ≠ s.slMaster ∧ slot ≠
     s.ownSlot ∧ slot < 32) ∧ (64 ≤ x.instants ∧ s.ranks.any (fun r => r.1 == s.slMaster && decide (x.rank < r.2)) =
     true)) ∧
    (∃ (slot : Nat) (s : State), s.slRole ≠ 0 ∧ s.getF .agreed fSlAppfetchState ≠ 2 ∧ s.owned 7 = true ∧ (s.slMaster
     ≠ 0 ∧ slot ≠ s.slMaster ∧ slot = s.ownSlot ∧ slot < 32) ∧ (64 ≤ s.stay.ownInstants ∧ s.time.rackMismatch =
     false ∧ s.ranks.any (fun r => r.1 == s.slMaster && decide (s.ownRank < r.2)) = true)) ∧
    (∃ (neighbour : Nat) (s : State), s.slRole ≠ 0 ∧ s.stay.wraps.contains neighbour = false) ∧
    (∃ (t : Nat) (neighbour returned : Nat) (s : State), s.stay.wraps.contains neighbour = true ∧ returned + sec ≤ t) ∧
    (∃ (s : State), s.slRole ≠ 0) :=
  ⟨⟨3000000, 6, slMemberOf 6 6 5 64, stayState, by decide +kernel⟩,
   ⟨3000000, 5, 6, slMemberOf 5 2 5 10, (((stayOf { members := [slMemberOf 5 2 5 10, slMemberOf 6 6 5 64] } 1 5).putF .agreed fTbStatSrc 3).putF .agreed fTbStatState tbLocked), by decide +kernel⟩,
   ⟨3000000, 6, loneStay, by decide +kernel⟩,
   ⟨6, slMemberOf 6 6 5 64, stayState, by decide +kernel⟩,
   ⟨3, stayOf { members := [slMemberOf 5 37 5 10], ownInstants := 64 } 1 5, by decide +kernel⟩,
   ⟨2, stayState, by decide +kernel⟩,
   ⟨1000000000, 2, 0, stayOf { wraps := [2] } 1 5, by decide +kernel⟩,
   ⟨stayState, by decide +kernel⟩⟩

theorem witness_UpdateSessions :
    (∃ (writers : Per Bool) (m : Mast) (s : State), (s.agreed writers = true ∧ s.paramsEqual writers rUpSrcaddr =
     true) ∧ (s.ctl.mode = .service ∨ s.ctl.mode = .stop ∨ s.ctl.mode = .run ∨ s.ctl.mode = .hold) ∧ (s.upd.session
     = none ∧ s.inTrial = false) ∧ s.voters.head? = some m) ∧
    (∃ (writers : Per Bool) (s : State), (s.agreed writers = true ∧ s.paramsEqual writers rUpSrcaddr = true) ∧
     (s.ctl.mode = .service ∨ s.ctl.mode = .stop ∨ s.ctl.mode = .run ∨ s.ctl.mode = .hold) ∧ (s.upd.session.isSome =
     true ∨ s.inTrial = true)) ∧
    (∃ (writers : Per Bool) (m : Mast) (x : UpSession) (s : State), (s.agreed writers = true ∧ s.paramsEqual writers
     rUpSrcaddr = true ∧ s.paramsEqual writers rUpBlkidx = true) ∧ (s.ctl.mode = .service ∨ s.ctl.mode = .stop ∨
     s.ctl.mode = .run ∨ s.ctl.mode = .hold) ∧ (s.voters.filter (fun m => writers.get m)).head? = some m ∧
     (s.upd.session = some x ∧ x.writing = none) ∧ (s.getF .agreed fUpStatPhase = 1 ∧ s.getF (.mast m)
     fUpBlkidxIndex < x.blocks ∧ x.written.contains (s.getF (.mast m) fUpBlkidxIndex) = false)) ∧
    (∃ (writers : Per Bool) (m : Mast) (s : State), (s.agreed writers = true ∧ s.paramsEqual writers rUpSrcaddr =
     true ∧ s.paramsEqual writers rUpBlkidx = true) ∧ (s.ctl.mode = .service ∨ s.ctl.mode = .stop ∨ s.ctl.mode =
     .run ∨ s.ctl.mode = .hold) ∧ (s.voters.filter (fun m => writers.get m)).head? = some m ∧ (s.upd.session = none
     ∨ s.getF .agreed fUpStatPhase ≠ 1 ∨ s.upd.session.any (fun x => x.writing.isSome || decide (x.blocks ≤ s.getF
     (.mast m) fUpBlkidxIndex)) = true)) ∧
    (∃ (writers : Per Bool) (m : Mast) (x : UpSession) (s : State), (s.agreed writers = true ∧ s.paramsEqual writers
     rUpSrcaddr = true ∧ s.paramsEqual writers rUpBlkidx = true) ∧ (s.ctl.mode = .service ∨ s.ctl.mode = .stop ∨
     s.ctl.mode = .run ∨ s.ctl.mode = .hold) ∧ (s.voters.filter (fun m => writers.get m)).head? = some m ∧
     (s.upd.session = some x ∧ x.writing = none) ∧ (s.getF .agreed fUpStatPhase = 1 ∧ s.getF (.mast m)
     fUpBlkidxIndex < x.blocks ∧ x.written.contains (s.getF (.mast m) fUpBlkidxIndex) = true)) ∧
    (∃ (x : UpSession) (i : Nat) (s : State), (s.upd.session = some x ∧ x.writing = some i)) ∧
    (∃ (bad : Per Bool) (x : UpSession) (s : State), (s.upd.session = some x ∧ x.writing = none) ∧ (s.getF .agreed
     fUpStatPhase = 1 ∧ (List.range x.blocks).all (fun i => x.written.contains i) = true) ∧ (∀ m ∈ s.voters, bad.get
     m = false)) ∧
    (∃ (bad : Per Bool) (differ : Bool) (x : UpSession) (s : State), (s.upd.session = some x ∧ x.writing = none) ∧
     (s.getF .agreed fUpStatPhase = 1 ∧ (List.range x.blocks).all (fun i => x.written.contains i) = true) ∧
     (s.voters.any bad.get = true ∨ differ = true)) ∧
    (∃ (writers : Per Bool) (x : UpSession) (s : State), s.agreed writers = true ∧ (s.ctl.mode = .service ∨
     s.ctl.mode = .stop ∨ s.ctl.mode = .run ∨ s.ctl.mode = .hold) ∧ s.upd.session = some x) ∧
    (∃ (writers : Per Bool) (s : State), s.agreed writers = true ∧ (s.ctl.mode = .service ∨ s.ctl.mode = .stop ∨
     s.ctl.mode = .run ∨ s.ctl.mode = .hold) ∧ s.upd.session = none) ∧
    (∃ (t : Nat) (x : UpSession) (s : State), s.upd.session = some x ∧ x.last + 600 * sec ≤ t) ∧
    (∃ (writers : Per Bool) (s : State), s.agreed writers = true ∧ (s.ctl.mode = .run ∧ s.inTrial = true)) ∧
    (∃ (writers : Per Bool) (s : State), s.agreed writers = true ∧ (s.ctl.mode = .run ∧ s.inTrial = false)) ∧
    (∃ (writers : Per Bool) (s : State), s.agreed writers = true ∧ (s.ctl.mode = .service ∧ s.upd.session = none) ∧
     s.getF .agreed fUpKeyselSlot ≤ 5) ∧
    (∃ (writers : Per Bool) (m : Mast) (s : State), (s.agreed writers = true ∧ s.paramsEqual writers rUpSrcaddr =
     true) ∧ (s.ctl.mode = .service ∧ s.upd.session = none) ∧ (s.getF .agreed fUpKeyselSlot = 4 ∨ s.getF .agreed
     fUpKeyselSlot = 5) ∧ (s.upd.keys.length = 6 ∧ s.upd.keys[s.getF .agreed fUpKeyselSlot]? = some []) ∧
     (s.voters.filter (fun m => writers.get m)).head? = some m) ∧
    (∃ (writers : Per Bool) (s : State), (s.agreed writers = true ∧ s.paramsEqual writers rUpSrcaddr = true) ∧
     (s.ctl.mode = .service ∨ s.ctl.mode = .stop ∨ s.ctl.mode = .run ∨ s.ctl.mode = .hold)) ∧
    (∃ (writers : Per Bool) (s : State), (s.agreed writers = true ∧ s.paramsEqual writers rUpSrcaddr = true) ∧
     s.ctl.mode = .service ∧ s.upd.session.isSome = true) ∧
    (∃ (writers : Per Bool) (s : State), (s.agreed writers = true ∧ s.paramsEqual writers rUpSrcaddr = true) ∧
     (s.ctl.mode = .service ∧ s.upd.session = none) ∧ s.voters.filter (fun m => writers.get m) ≠ [] ∧ (¬(s.getF
     .agreed fUpKeyselSlot = 4 ∨ s.getF .agreed fUpKeyselSlot = 5) ∨ s.upd.keys[s.getF .agreed fUpKeyselSlot]?.getD
     [] ≠ [])) ∧
    (∃ (writers : Per Bool) (s : State), s.agreed writers = false) ∧
    (∃ (writers : Per Bool) (s : State), (s.agreed writers = true ∧ s.paramsEqual writers rUpSrcaddr = true ∧
     s.paramsEqual writers rUpBlkidx = true) ∧ s.inMode [.service, .stop, .run, .hold] = false) :=
  ⟨⟨⟨true, true, false, false⟩, .a, sramSource stopState, by decide +kernel⟩,
   ⟨⟨true, true, false, false⟩, headed openSession, by decide +kernel⟩,
   ⟨⟨true, true, false, false⟩, .a, ⟨1, 7, 2, [1], none, 0⟩, headed (sramSource (sessionOf ⟨1, 7, 2, [1], none, 0⟩ 1)), by decide +kernel⟩,
   ⟨⟨true, true, false, false⟩, .a, headed ((openSession.putF (.mast .a) fUpBlkidxIndex 9).putF (.mast .b) fUpBlkidxIndex 9), by decide +kernel⟩,
   ⟨⟨true, true, false, false⟩, .a, ⟨1, 7, 2, [0], none, 0⟩, headed openSession, by decide +kernel⟩,
   ⟨⟨1, 7, 2, [0], some 1, 0⟩, 1, sessionOf ⟨1, 7, 2, [0], some 1, 0⟩ 1, by decide +kernel⟩,
   ⟨⟨false, false, false, true⟩, ⟨1, 7, 2, [0, 1], none, 0⟩, headed (sessionOf ⟨1, 7, 2, [0, 1], none, 0⟩ 1), by decide +kernel⟩,
   ⟨⟨true, false, false, true⟩, false, ⟨1, 7, 2, [0, 1], none, 0⟩, headed (sessionOf ⟨1, 7, 2, [0, 1], none, 0⟩ 1), by decide +kernel⟩,
   ⟨⟨true, true, false, false⟩, ⟨1, 7, 2, [0], none, 0⟩, headed openSession, by decide +kernel⟩,
   ⟨⟨true, true, false, false⟩, sramSource stopState, by decide +kernel⟩,
   ⟨600000000000, ⟨1, 7, 2, [0], none, 0⟩, headed openSession, by decide +kernel⟩,
   ⟨⟨true, true, false, false⟩, trialState, by decide +kernel⟩,
   ⟨⟨true, true, false, false⟩, runState, by decide +kernel⟩,
   ⟨⟨true, true, false, false⟩, headed serviceState, by decide +kernel⟩,
   ⟨⟨true, true, false, false⟩, .a, sramSource (serviceState.putF .agreed fUpKeyselSlot 4), by decide +kernel⟩,
   ⟨⟨true, true, false, false⟩, sramSource stopState, by decide +kernel⟩,
   ⟨⟨true, true, false, false⟩, { readySession with ctl := serviceState.ctl }, by decide +kernel⟩,
   ⟨⟨true, true, false, false⟩, sramSource (serviceState.putF .agreed fUpKeyselSlot 3), by decide +kernel⟩,
   ⟨⟨true, false, false, false⟩, sramSource stopState, by decide +kernel⟩,
   ⟨⟨true, true, false, false⟩, upIn .recovery, by decide +kernel⟩⟩

theorem witness_UpdateActivation :
    (∃ (writers : Per Bool) (s : State), s.agreed writers = true ∧ (s.ctl.mode = .service ∨ s.ctl.mode = .stop) ∧
     (s.upd.session.isSome = true ∧ s.getF .agreed fUpStatPhase = 4) ∧ s.lane.isolated.masts ≠ []) ∧
    (∃ (writers : Per Bool) (f : JuryFinding) (s : State), s.agreed writers = true ∧ (s.ctl.mode = .service ∨
     s.ctl.mode = .stop) ∧ (s.upd.session.isSome = true ∧ s.getF .agreed fUpStatPhase = 4) ∧ s.lane.isolated.masts =
     [] ∧ (f.selftest = true ∧ f.turn = true)) ∧
    (∃ (writers : Per Bool) (f : JuryFinding) (s : State), s.agreed writers = true ∧ (s.ctl.mode = .service ∨
     s.ctl.mode = .stop) ∧ (s.upd.session.isSome = true ∧ s.getF .agreed fUpStatPhase = 4) ∧ s.lane.isolated.masts =
     [] ∧ (f.selftest = false ∨ f.turn = false)) ∧
    (∃ (writers : Per Bool) (m : Mast) (s : State), s.agreed writers = true ∧ (s.ctl.mode = .service ∨ s.ctl.mode =
     .stop) ∧ (s.upd.session.isSome = true ∧ s.getF .agreed fUpStatPhase = 4) ∧ (s.lane.isolated.masts = [] ∧
     s.lane.lane = .triplex) ∧ (s.votes m = true ∧ m ≠ s.lane.posC)) ∧
    (∃ (writers : Per Bool) (s : State), s.agreed writers = true ∧ (s.ctl.mode = .service ∨ s.ctl.mode = .stop) ∧
     (s.upd.session = none ∨ s.getF .agreed fUpStatPhase ≠ 4)) ∧
    (∃ (writers : Per Bool) (s : State), s.agreed writers = true ∧ s.ctl.mode = .service ∧ (s.upd.session.isSome =
     true ∧ s.getF .agreed fUpStatPhase = 4)) ∧
    (∃ (t : Nat) (s : State), (s.ctl.mode = .run ∧ s.inTrial = true) ∧ s.getF .agreed fUpCtrlConfirmS ≤ (s.advance
     t).runSec) ∧
    (∃ (s : State), s.ctl.mode = .recovery) :=
  ⟨⟨⟨true, true, false, false⟩, { readySession with lane := { readySession.lane with isolated := ⟨false, false, true, false⟩, active := ⟨true, true, false, false⟩ } }, by decide +kernel⟩,
   ⟨⟨true, true, false, false⟩, goodTurn, readySession, by decide +kernel⟩,
   ⟨⟨true, true, false, false⟩, { goodTurn with turn := false }, readySession, by decide +kernel⟩,
   ⟨⟨true, true, false, false⟩, .a, readySession, by decide +kernel⟩,
   ⟨⟨true, true, false, false⟩, openSession, by decide +kernel⟩,
   ⟨⟨true, true, false, false⟩, { readySession with ctl := serviceState.ctl }, by decide +kernel⟩,
   ⟨1000000000, trialLate, by decide +kernel⟩,
   ⟨upIn .recovery, by decide +kernel⟩⟩

theorem witness_MonitorLinesAndSessions :
    (∃ (line w : List Byte) (ws : List (List Byte)) (c : MonCmd) (s : State), s.monOpen = true ∧ (line.length ≤ 255
     ∧ wordsOf line = w :: ws ∧ lineCmd line = some c) ∧ (s.mon.waiting.length < 4 ∧ s.mon.transfer = none)) ∧
    (∃ (line : List Byte) (s : State), s.monOpen = true ∧ 255 < line.length) ∧
    (∃ (line w : List Byte) (ws : List (List Byte)) (s : State), s.monOpen = true ∧ (line.length ≤ 255 ∧ wordsOf
     line = w :: ws ∧ lineCmd line = none) ∧ (s.mon.waiting.length < 4 ∧ s.mon.transfer = none)) ∧
    (∃ (line : List Byte) (s : State), s.monOpen = true ∧ (line.length ≤ 255 ∧ (4 ≤ s.mon.waiting.length ∨
     s.mon.transfer.isSome = true))) ∧
    (∃ (s : State), s.monOpen = false) ∧
    (∃ (line : List Byte) (rest : List (List Byte)) (w : List Byte) (k : Nat) (s : State), s.mon.waiting = line ::
     rest ∧ (s.monOpen = true ∧ s.instants = true) ∧ lineCmd line = some .auth ∧ ((wordsOf line).drop 1 = [w] ∧
     numberOf w = some k ∧ k ≤ 7) ∧ (s.ctl.mode = .service ∨ s.ctl.mode = .stop ∨ s.ctl.mode = .run ∨ s.ctl.mode =
     .hold) ∧ (s.mon.session = none ∧ s.mon.lockedAt = none ∧ s.app.desc.isSome = true)) ∧
    (∃ (line : List Byte) (rest : List (List Byte)) (w : List Byte) (k : Nat) (s : State), s.mon.waiting = line ::
     rest ∧ (s.monOpen = true ∧ s.instants = true) ∧ lineCmd line = some .auth ∧ ((wordsOf line).drop 1 = [w] ∧
     numberOf w = some k ∧ k ≤ 7) ∧ (s.ctl.mode = .service ∨ s.ctl.mode = .stop ∨ s.ctl.mode = .run ∨ s.ctl.mode =
     .hold) ∧ (s.mon.session.isSome = true ∨ s.mon.lockedAt.isSome = true ∨ s.app.desc = none)) ∧
    (∃ (t : Nat) (line : List Byte) (rest : List (List Byte)) (sig c : List Byte) (k n : Nat) (s : State),
     s.mon.waiting = line :: rest ∧ (s.monOpen = true ∧ s.instants = true) ∧ lineCmd line = some .resp ∧ (groupsOf
     ((wordsOf line).drop 1) = some sig ∧ sig.length = 96) ∧ (s.ctl.mode = .service ∨ s.ctl.mode = .stop ∨
     s.ctl.mode = .run ∨ s.ctl.mode = .hold) ∧ (s.mon.session = none ∧ s.mon.challenge = some (k, c, n)) ∧ max s.now
     t < n + 120 * sec ∧ s.mon.fails = []) ∧
    (∃ (t : Nat) (line : List Byte) (rest : List (List Byte)) (sig c : List Byte) (k n a b : Nat) (s : State),
     s.mon.waiting = line :: rest ∧ (s.monOpen = true ∧ s.instants = true) ∧ lineCmd line = some .resp ∧ (groupsOf
     ((wordsOf line).drop 1) = some sig ∧ sig.length = 96) ∧ (s.ctl.mode = .service ∨ s.ctl.mode = .stop ∨
     s.ctl.mode = .run ∨ s.ctl.mode = .hold) ∧ (s.mon.session = none ∧ s.mon.challenge = some (k, c, n)) ∧ max s.now
     t < n + 120 * sec ∧ (s.mon.fails = [a, b] ∧ max s.now t < a + 60 * sec ∧ max s.now t < b + 60 * sec)) ∧
    (∃ (line : List Byte) (rest : List (List Byte)) (k n : Nat) (s : State), s.mon.waiting = line :: rest ∧
     (s.monOpen = true ∧ s.instants = true) ∧ lineCmd line = some .logout ∧ (wordsOf line).drop 1 = [] ∧
     s.mon.session = some (k, n) ∧ s.ctl.mode ≠ .service) ∧
    (∃ (line : List Byte) (rest : List (List Byte)) (k n : Nat) (s : State), s.mon.waiting = line :: rest ∧
     (s.monOpen = true ∧ s.instants = true) ∧ lineCmd line = some .logout ∧ (wordsOf line).drop 1 = [] ∧
     s.mon.session = some (k, n) ∧ s.ctl.mode = .service) ∧
    (∃ (t : Nat) (k n : Nat) (c : List Byte) (s : State), s.mon.challenge = some (k, c, n) ∧ n + 120 * sec ≤ t) ∧
    (∃ (t : Nat) (k n : Nat) (s : State), s.mon.session = some (k, n) ∧ n + 600 * sec ≤ t) ∧
    (∃ (t : Nat) (n : Nat) (s : State), s.mon.lockedAt = some n ∧ n + 60 * sec ≤ t) ∧
    (∃ (f data : List Byte) (n : Nat) (x : Transfer) (s : State), (s.monOpen = true ∧ s.mon.transfer = some x) ∧ (f
     ≠ [0x04] ∧ xmodemBlock f = some (n, data) ∧ n = x.next % 256)) ∧
    (∃ (f : List Byte) (x : Transfer) (s : State), (s.monOpen = true ∧ s.mon.transfer = some x) ∧ (f ≠ [0x04] ∧
     (xmodemBlock f).all (fun y => y.1 != x.next % 256) = true)) ∧
    (∃ (x : Transfer) (s : State), (s.monOpen = true ∧ s.mon.transfer = some x) ∧ (x.kind = 2 ∧ (x.slot = 4 ∨ x.slot
     = 5)) ∧ (s.ctl.mode = .service ∧ s.upd.session = none) ∧ (s.upd.keys.length = 6 ∧ s.upd.keys[x.slot]? = some
     [])) :=
  ⟨⟨[0x69, 0x64], [0x69, 0x64], [], .id, runState, by decide +kernel⟩,
   ⟨(List.replicate 256 0x41), runState, by decide +kernel⟩,
   ⟨[0x78, 0x79, 0x7A, 0x20, 0x31], [0x78, 0x79, 0x7A], [[0x31]], runState, by decide +kernel⟩,
   ⟨[0x69, 0x64], { runState with mon := { runState.mon with waiting := List.replicate 4 [] } }, by decide +kernel⟩,
   ⟨upIn .recovery, by decide +kernel⟩,
   ⟨[0x61, 0x75, 0x74, 0x68, 0x20, 0x37], [], [0x37], 7, openMon loadedRunState [0x61, 0x75, 0x74, 0x68, 0x20, 0x37], by decide +kernel⟩,
   ⟨[0x61, 0x75, 0x74, 0x68, 0x20, 0x37], [], [0x37], 7, { runState with mon := { runState.mon with waiting := [[0x61, 0x75, 0x74, 0x68, 0x20, 0x37]], lockedAt := some 0 } }, by decide +kernel⟩,
   ⟨0, [0x72, 0x65, 0x73, 0x70, 0x20, 0x30, 0x30, 0x30, 0x30, 0x30, 0x30, 0x30, 0x30, 0x20, 0x30, 0x30, 0x30, 0x30, 0x30, 0x30, 0x30, 0x30, 0x20, 0x30, 0x30, 0x30, 0x30, 0x30, 0x30, 0x30, 0x30, 0x20, 0x30, 0x30, 0x30, 0x30, 0x30, 0x30, 0x30, 0x30, 0x20, 0x30, 0x30, 0x30, 0x30, 0x30, 0x30, 0x30, 0x30, 0x20, 0x30, 0x30, 0x30, 0x30, 0x30, 0x30, 0x30, 0x30, 0x20, 0x30, 0x30, 0x30, 0x30, 0x30, 0x30, 0x30, 0x30, 0x20, 0x30, 0x30, 0x30, 0x30, 0x30, 0x30, 0x30, 0x30, 0x20, 0x30, 0x30, 0x30, 0x30, 0x30, 0x30, 0x30, 0x30, 0x20, 0x30, 0x30, 0x30, 0x30, 0x30, 0x30, 0x30, 0x30, 0x20, 0x30, 0x30, 0x30, 0x30, 0x30, 0x30, 0x30, 0x30, 0x20, 0x30, 0x30, 0x30, 0x30, 0x30, 0x30, 0x30, 0x30, 0x20, 0x30, 0x30, 0x30, 0x30, 0x30, 0x30, 0x30, 0x30, 0x20, 0x30, 0x30, 0x30, 0x30, 0x30, 0x30, 0x30, 0x30, 0x20, 0x30, 0x30, 0x30, 0x30, 0x30, 0x30, 0x30, 0x30, 0x20, 0x30, 0x30, 0x30, 0x30, 0x30, 0x30, 0x30, 0x30, 0x20, 0x30, 0x30, 0x30, 0x30, 0x30, 0x30, 0x30, 0x30, 0x20, 0x30, 0x30, 0x30, 0x30, 0x30, 0x30, 0x30, 0x30, 0x20, 0x30, 0x30, 0x30, 0x30, 0x30, 0x30, 0x30, 0x30, 0x20, 0x30, 0x30, 0x30, 0x30, 0x30, 0x30, 0x30, 0x30, 0x20, 0x30, 0x30, 0x30, 0x30, 0x30, 0x30, 0x30, 0x30, 0x20, 0x30, 0x30, 0x30, 0x30, 0x30, 0x30, 0x30, 0x30, 0x20, 0x30, 0x30, 0x30, 0x30, 0x30, 0x30, 0x30, 0x30, 0x20, 0x30, 0x30, 0x30, 0x30, 0x30, 0x30, 0x30, 0x30], [], (List.replicate 96 0), [1], 1, 0, { loadedRunState with mon := { loadedRunState.mon with waiting := [[0x72, 0x65, 0x73, 0x70, 0x20, 0x30, 0x30, 0x30, 0x30, 0x30, 0x30, 0x30, 0x30, 0x20, 0x30, 0x30, 0x30, 0x30, 0x30, 0x30, 0x30, 0x30, 0x20, 0x30, 0x30, 0x30, 0x30, 0x30, 0x30, 0x30, 0x30, 0x20, 0x30, 0x30, 0x30, 0x30, 0x30, 0x30, 0x30, 0x30, 0x20, 0x30, 0x30, 0x30, 0x30, 0x30, 0x30, 0x30, 0x30, 0x20, 0x30, 0x30, 0x30, 0x30, 0x30, 0x30, 0x30, 0x30, 0x20, 0x30, 0x30, 0x30, 0x30, 0x30, 0x30, 0x30, 0x30, 0x20, 0x30, 0x30, 0x30, 0x30, 0x30, 0x30, 0x30, 0x30, 0x20, 0x30, 0x30, 0x30, 0x30, 0x30, 0x30, 0x30, 0x30, 0x20, 0x30, 0x30, 0x30, 0x30, 0x30, 0x30, 0x30, 0x30, 0x20, 0x30, 0x30, 0x30, 0x30, 0x30, 0x30, 0x30, 0x30, 0x20, 0x30, 0x30, 0x30, 0x30, 0x30, 0x30, 0x30, 0x30, 0x20, 0x30, 0x30, 0x30, 0x30, 0x30, 0x30, 0x30, 0x30, 0x20, 0x30, 0x30, 0x30, 0x30, 0x30, 0x30, 0x30, 0x30, 0x20, 0x30, 0x30, 0x30, 0x30, 0x30, 0x30, 0x30, 0x30, 0x20, 0x30, 0x30, 0x30, 0x30, 0x30, 0x30, 0x30, 0x30, 0x20, 0x30, 0x30, 0x30, 0x30, 0x30, 0x30, 0x30, 0x30, 0x20, 0x30, 0x30, 0x30, 0x30, 0x30, 0x30, 0x30, 0x30, 0x20, 0x30, 0x30, 0x30, 0x30, 0x30, 0x30, 0x30, 0x30, 0x20, 0x30, 0x30, 0x30, 0x30, 0x30, 0x30, 0x30, 0x30, 0x20, 0x30, 0x30, 0x30, 0x30, 0x30, 0x30, 0x30, 0x30, 0x20, 0x30, 0x30, 0x30, 0x30, 0x30, 0x30, 0x30, 0x30, 0x20, 0x30, 0x30, 0x30, 0x30, 0x30, 0x30, 0x30, 0x30, 0x20, 0x30, 0x30, 0x30, 0x30, 0x30, 0x30, 0x30, 0x30]], challenge := some (1, [1], 0) } }, by decide +kernel⟩,
   ⟨0, [0x72, 0x65, 0x73, 0x70, 0x20, 0x30, 0x30, 0x30, 0x30, 0x30, 0x30, 0x30, 0x30, 0x20, 0x30, 0x30, 0x30, 0x30, 0x30, 0x30, 0x30, 0x30, 0x20, 0x30, 0x30, 0x30, 0x30, 0x30, 0x30, 0x30, 0x30, 0x20, 0x30, 0x30, 0x30, 0x30, 0x30, 0x30, 0x30, 0x30, 0x20, 0x30, 0x30, 0x30, 0x30, 0x30, 0x30, 0x30, 0x30, 0x20, 0x30, 0x30, 0x30, 0x30, 0x30, 0x30, 0x30, 0x30, 0x20, 0x30, 0x30, 0x30, 0x30, 0x30, 0x30, 0x30, 0x30, 0x20, 0x30, 0x30, 0x30, 0x30, 0x30, 0x30, 0x30, 0x30, 0x20, 0x30, 0x30, 0x30, 0x30, 0x30, 0x30, 0x30, 0x30, 0x20, 0x30, 0x30, 0x30, 0x30, 0x30, 0x30, 0x30, 0x30, 0x20, 0x30, 0x30, 0x30, 0x30, 0x30, 0x30, 0x30, 0x30, 0x20, 0x30, 0x30, 0x30, 0x30, 0x30, 0x30, 0x30, 0x30, 0x20, 0x30, 0x30, 0x30, 0x30, 0x30, 0x30, 0x30, 0x30, 0x20, 0x30, 0x30, 0x30, 0x30, 0x30, 0x30, 0x30, 0x30, 0x20, 0x30, 0x30, 0x30, 0x30, 0x30, 0x30, 0x30, 0x30, 0x20, 0x30, 0x30, 0x30, 0x30, 0x30, 0x30, 0x30, 0x30, 0x20, 0x30, 0x30, 0x30, 0x30, 0x30, 0x30, 0x30, 0x30, 0x20, 0x30, 0x30, 0x30, 0x30, 0x30, 0x30, 0x30, 0x30, 0x20, 0x30, 0x30, 0x30, 0x30, 0x30, 0x30, 0x30, 0x30, 0x20, 0x30, 0x30, 0x30, 0x30, 0x30, 0x30, 0x30, 0x30, 0x20, 0x30, 0x30, 0x30, 0x30, 0x30, 0x30, 0x30, 0x30, 0x20, 0x30, 0x30, 0x30, 0x30, 0x30, 0x30, 0x30, 0x30, 0x20, 0x30, 0x30, 0x30, 0x30, 0x30, 0x30, 0x30, 0x30, 0x20, 0x30, 0x30, 0x30, 0x30, 0x30, 0x30, 0x30, 0x30], [], (List.replicate 96 0), [1], 1, 0, 0, 0, { loadedRunState with mon := { loadedRunState.mon with waiting := [[0x72, 0x65, 0x73, 0x70, 0x20, 0x30, 0x30, 0x30, 0x30, 0x30, 0x30, 0x30, 0x30, 0x20, 0x30, 0x30, 0x30, 0x30, 0x30, 0x30, 0x30, 0x30, 0x20, 0x30, 0x30, 0x30, 0x30, 0x30, 0x30, 0x30, 0x30, 0x20, 0x30, 0x30, 0x30, 0x30, 0x30, 0x30, 0x30, 0x30, 0x20, 0x30, 0x30, 0x30, 0x30, 0x30, 0x30, 0x30, 0x30, 0x20, 0x30, 0x30, 0x30, 0x30, 0x30, 0x30, 0x30, 0x30, 0x20, 0x30, 0x30, 0x30, 0x30, 0x30, 0x30, 0x30, 0x30, 0x20, 0x30, 0x30, 0x30, 0x30, 0x30, 0x30, 0x30, 0x30, 0x20, 0x30, 0x30, 0x30, 0x30, 0x30, 0x30, 0x30, 0x30, 0x20, 0x30, 0x30, 0x30, 0x30, 0x30, 0x30, 0x30, 0x30, 0x20, 0x30, 0x30, 0x30, 0x30, 0x30, 0x30, 0x30, 0x30, 0x20, 0x30, 0x30, 0x30, 0x30, 0x30, 0x30, 0x30, 0x30, 0x20, 0x30, 0x30, 0x30, 0x30, 0x30, 0x30, 0x30, 0x30, 0x20, 0x30, 0x30, 0x30, 0x30, 0x30, 0x30, 0x30, 0x30, 0x20, 0x30, 0x30, 0x30, 0x30, 0x30, 0x30, 0x30, 0x30, 0x20, 0x30, 0x30, 0x30, 0x30, 0x30, 0x30, 0x30, 0x30, 0x20, 0x30, 0x30, 0x30, 0x30, 0x30, 0x30, 0x30, 0x30, 0x20, 0x30, 0x30, 0x30, 0x30, 0x30, 0x30, 0x30, 0x30, 0x20, 0x30, 0x30, 0x30, 0x30, 0x30, 0x30, 0x30, 0x30, 0x20, 0x30, 0x30, 0x30, 0x30, 0x30, 0x30, 0x30, 0x30, 0x20, 0x30, 0x30, 0x30, 0x30, 0x30, 0x30, 0x30, 0x30, 0x20, 0x30, 0x30, 0x30, 0x30, 0x30, 0x30, 0x30, 0x30, 0x20, 0x30, 0x30, 0x30, 0x30, 0x30, 0x30, 0x30, 0x30, 0x20, 0x30, 0x30, 0x30, 0x30, 0x30, 0x30, 0x30, 0x30]], challenge := some (1, [1], 0), fails := [0, 0] } }, by decide +kernel⟩,
   ⟨[0x6C, 0x6F, 0x67, 0x6F, 0x75, 0x74], [], 1, 0, monOf runState [0x6C, 0x6F, 0x67, 0x6F, 0x75, 0x74], by decide +kernel⟩,
   ⟨[0x6C, 0x6F, 0x67, 0x6F, 0x75, 0x74], [], 1, 0, monOf serviceState [0x6C, 0x6F, 0x67, 0x6F, 0x75, 0x74], by decide +kernel⟩,
   ⟨120000000000, 1, 0, [], { runState with mon := { runState.mon with challenge := some (1, [], 0) } }, by decide +kernel⟩,
   ⟨600000000000, 1, 0, { runState with mon := { runState.mon with session := some (1, 0) } }, by decide +kernel⟩,
   ⟨60000000000, 0, { runState with mon := { runState.mon with lockedAt := some 0 } }, by decide +kernel⟩,
   ⟨[1, 1, 254] ++ List.replicate 130 0, List.replicate 128 0, 1, { kind := 1, slot := 0 }, transferOf { kind := 1, slot := 0 }, by decide +kernel, by decide, block_zeros, rfl⟩,
   ⟨[1, 2, 3], { kind := 1, slot := 0 }, transferOf { kind := 1, slot := 0 }, by decide +kernel⟩,
   ⟨{ kind := 2, slot := 5, bytes := [1, 2] }, ({ transferOf { kind := 2, slot := 5, bytes := [1, 2] } with upd := { (transferOf { kind := 2, slot := 5, bytes := [1, 2] }).upd with keys := List.replicate 6 [] } }), by decide +kernel⟩⟩

theorem witness_MonitorShows :
    (∃ (line : List Byte) (rest : List (List Byte)) (s : State), s.mon.waiting = line :: rest ∧ (s.monOpen = true ∧
     s.instants = true) ∧ lineCmd line = some .help ∧ (wordsOf line).drop 1 = []) ∧
    (∃ (line : List Byte) (rest : List (List Byte)) (s : State), s.mon.waiting = line :: rest ∧ (s.monOpen = true ∧
     s.instants = true) ∧ lineCmd line = some .id ∧ (wordsOf line).drop 1 = []) ∧
    (∃ (line : List Byte) (rest : List (List Byte)) (s : State), s.mon.waiting = line :: rest ∧ (s.monOpen = true ∧
     s.instants = true) ∧ lineCmd line = some .status ∧ (wordsOf line).drop 1 = []) ∧
    (∃ (line : List Byte) (rest : List (List Byte)) (s : State), s.mon.waiting = line :: rest ∧ (s.monOpen = true ∧
     s.instants = true) ∧ lineCmd line = some .log ∧ (wordsOf line).drop 1 = []) ∧
    (∃ (line : List Byte) (rest : List (List Byte)) (w v : List Byte) (a n : Nat) (s : State), s.mon.waiting = line
     :: rest ∧ (s.monOpen = true ∧ s.instants = true) ∧ lineCmd line = some .reg ∧ ((wordsOf line).drop 1 = [w, v] ∧
     numberOf w = some a ∧ numberOf v = some n) ∧ (1 ≤ n ∧ n ≤ 64 ∧ a % 4 = 0 ∧ 0xE0000000 ≤ a ∧ a + 4 * n ≤
     0xE0110000)) ∧
    (∃ (line : List Byte) (rest : List (List Byte)) (s : State), s.mon.waiting = line :: rest ∧ (s.monOpen = true ∧
     s.instants = true) ∧ lineCmd line = some .io ∧ (wordsOf line).drop 1 = []) ∧
    (∃ (line : List Byte) (rest : List (List Byte)) (w : List Byte) (b : Nat) (s : State), s.mon.waiting = line ::
     rest ∧ (s.monOpen = true ∧ s.instants = true) ∧ lineCmd line = some .bus ∧ ((wordsOf line).drop 1 = [w] ∧
     numberOf w = some b ∧ b < 2)) ∧
    (∃ (line : List Byte) (rest : List (List Byte)) (w : List Byte) (p : Nat) (s : State), s.mon.waiting = line ::
     rest ∧ (s.monOpen = true ∧ s.instants = true) ∧ lineCmd line = some .net ∧ ((wordsOf line).drop 1 = [w] ∧
     numberOf w = some p ∧ 1 ≤ p ∧ p ≤ 4)) ∧
    (∃ (line : List Byte) (rest : List (List Byte)) (s : State), s.mon.waiting = line :: rest ∧ (s.monOpen = true ∧
     s.instants = true) ∧ lineCmd line = some .time ∧ (wordsOf line).drop 1 = []) ∧
    (∃ (line : List Byte) (rest : List (List Byte)) (s : State), s.mon.waiting = line :: rest ∧ (s.monOpen = true ∧
     s.instants = true) ∧ lineCmd line = some .sup ∧ (wordsOf line).drop 1 = []) ∧
    (∃ (line : List Byte) (rest : List (List Byte)) (s : State), s.mon.waiting = line :: rest ∧ (s.monOpen = true ∧
     s.instants = true) ∧ lineCmd line = some .mem ∧ (wordsOf line).drop 1 = []) ∧
    (∃ (line : List Byte) (rest : List (List Byte)) (s : State), s.mon.waiting = line :: rest ∧ (s.monOpen = true ∧
     s.instants = true) ∧ lineCmd line = some .keys ∧ (wordsOf line).drop 1 = []) ∧
    (∃ (line : List Byte) (rest : List (List Byte)) (w : List Byte) (s : State), s.mon.waiting = line :: rest ∧
     (s.monOpen = true ∧ s.instants = true) ∧ lineCmd line = some .help ∧ ((wordsOf line).drop 1 = [w] ∧
     MonCmd.all.any (fun c => c.num == wordNum w) = true)) ∧
    (∃ (line : List Byte) (rest : List (List Byte)) (w : List Byte) (n : Nat) (s : State), s.mon.waiting = line ::
     rest ∧ (s.monOpen = true ∧ s.instants = true) ∧ lineCmd line = some .log ∧ ((wordsOf line).drop 1 = [w] ∧
     numberOf w = some n ∧ 1 ≤ n ∧ n ≤ 4096)) ∧
    (∃ (line : List Byte) (rest : List (List Byte)) (w y : List Byte) (n : Nat) (s : State), s.mon.waiting = line ::
     rest ∧ (s.monOpen = true ∧ s.instants = true) ∧ lineCmd line = some .log ∧ ((wordsOf line).drop 1 = [w, y] ∧
     wordNum w = txtFrom ∧ numberOf w = none ∧ numberOf y = some n)) ∧
    (∃ (line : List Byte) (rest : List (List Byte)) (w : List Byte) (a : Nat) (s : State), s.mon.waiting = line ::
     rest ∧ (s.monOpen = true ∧ s.instants = true) ∧ lineCmd line = some .reg ∧ ((wordsOf line).drop 1 = [w] ∧
     numberOf w = some a ∧ a % 4 = 0 ∧ 0xE0000000 ≤ a ∧ a + 4 ≤ 0xE0110000)) ∧
    (∃ (line : List Byte) (rest : List (List Byte)) (s : State), s.mon.waiting = line :: rest ∧ (s.monOpen = true ∧
     s.instants = true) ∧ lineCmd line = some .id ∧ (wordsOf line).drop 1 ≠ []) ∧
    (∃ (line : List Byte) (rest : List (List Byte)) (s : State), s.mon.waiting = line :: rest ∧ (s.monOpen = true ∧
     s.instants = true) ∧ lineCmd line = some .status ∧ (wordsOf line).drop 1 ≠ []) ∧
    (∃ (line : List Byte) (rest : List (List Byte)) (s : State), s.mon.waiting = line :: rest ∧ (s.monOpen = true ∧
     s.instants = true) ∧ lineCmd line = some .io ∧ (wordsOf line).drop 1 ≠ []) ∧
    (∃ (line : List Byte) (rest : List (List Byte)) (s : State), s.mon.waiting = line :: rest ∧ (s.monOpen = true ∧
     s.instants = true) ∧ lineCmd line = some .time ∧ (wordsOf line).drop 1 ≠ []) ∧
    (∃ (line : List Byte) (rest : List (List Byte)) (s : State), s.mon.waiting = line :: rest ∧ (s.monOpen = true ∧
     s.instants = true) ∧ lineCmd line = some .sup ∧ (wordsOf line).drop 1 ≠ []) ∧
    (∃ (line : List Byte) (rest : List (List Byte)) (s : State), s.mon.waiting = line :: rest ∧ (s.monOpen = true ∧
     s.instants = true) ∧ lineCmd line = some .mem ∧ (wordsOf line).drop 1 ≠ []) ∧
    (∃ (line : List Byte) (rest : List (List Byte)) (s : State), s.mon.waiting = line :: rest ∧ (s.monOpen = true ∧
     s.instants = true) ∧ lineCmd line = some .keys ∧ (wordsOf line).drop 1 ≠ []) ∧
    (∃ (line : List Byte) (rest : List (List Byte)) (s : State), s.mon.waiting = line :: rest ∧ (s.monOpen = true ∧
     s.instants = true) ∧ lineCmd line = some .reg ∧ (wordsOf line).drop 1 = []) ∧
    (∃ (line : List Byte) (rest : List (List Byte)) (s : State), s.mon.waiting = line :: rest ∧ (s.monOpen = true ∧
     s.instants = true) ∧ lineCmd line = some .bus ∧ (wordsOf line).drop 1 = []) ∧
    (∃ (line : List Byte) (rest : List (List Byte)) (s : State), s.mon.waiting = line :: rest ∧ (s.monOpen = true ∧
     s.instants = true) ∧ lineCmd line = some .net ∧ (wordsOf line).drop 1 = []) :=
  ⟨⟨[0x68, 0x65, 0x6C, 0x70], [], openMon runState [0x68, 0x65, 0x6C, 0x70], by decide +kernel⟩,
   ⟨[0x69, 0x64], [], openMon runState [0x69, 0x64], by decide +kernel⟩,
   ⟨[0x53, 0x54, 0x41, 0x54, 0x55, 0x53], [], openMon runState [0x53, 0x54, 0x41, 0x54, 0x55, 0x53], by decide +kernel⟩,
   ⟨[0x6C, 0x6F, 0x67], [], openMon (exportState 0) [0x6C, 0x6F, 0x67], by decide +kernel⟩,
   ⟨[0x72, 0x65, 0x67, 0x20, 0x30, 0x78, 0x45, 0x30, 0x31, 0x30, 0x46, 0x46, 0x46, 0x43, 0x20, 0x31], [], [0x30, 0x78, 0x45, 0x30, 0x31, 0x30, 0x46, 0x46, 0x46, 0x43], [0x31], 0xE010FFFC, 1, openMon runState [0x72, 0x65, 0x67, 0x20, 0x30, 0x78, 0x45, 0x30, 0x31, 0x30, 0x46, 0x46, 0x46, 0x43, 0x20, 0x31], by decide +kernel⟩,
   ⟨[0x69, 0x6F], [], openMon runState [0x69, 0x6F], by decide +kernel⟩,
   ⟨[0x62, 0x75, 0x73, 0x20, 0x31], [], [0x31], 1, openMon runState [0x62, 0x75, 0x73, 0x20, 0x31], by decide +kernel⟩,
   ⟨[0x6E, 0x65, 0x74, 0x20, 0x34], [], [0x34], 4, openMon runState [0x6E, 0x65, 0x74, 0x20, 0x34], by decide +kernel⟩,
   ⟨[0x74, 0x69, 0x6D, 0x65], [], openMon runState [0x74, 0x69, 0x6D, 0x65], by decide +kernel⟩,
   ⟨[0x73, 0x75, 0x70], [], openMon runState [0x73, 0x75, 0x70], by decide +kernel⟩,
   ⟨[0x6D, 0x65, 0x6D], [], openMon runState [0x6D, 0x65, 0x6D], by decide +kernel⟩,
   ⟨[0x6B, 0x65, 0x79, 0x73], [], openMon runState [0x6B, 0x65, 0x79, 0x73], by decide +kernel⟩,
   ⟨[0x68, 0x65, 0x6C, 0x70, 0x20, 0x6C, 0x6F, 0x67], [], [0x6C, 0x6F, 0x67], openMon runState [0x68, 0x65, 0x6C, 0x70, 0x20, 0x6C, 0x6F, 0x67], by decide +kernel⟩,
   ⟨[0x6C, 0x6F, 0x67, 0x20, 0x31], [], [0x31], 1, openMon (exportState 0) [0x6C, 0x6F, 0x67, 0x20, 0x31], by decide +kernel⟩,
   ⟨[0x6C, 0x6F, 0x67, 0x20, 0x66, 0x72, 0x6F, 0x6D, 0x20, 0x31], [], [0x66, 0x72, 0x6F, 0x6D], [0x31], 1, openMon (exportState 0) [0x6C, 0x6F, 0x67, 0x20, 0x66, 0x72, 0x6F, 0x6D, 0x20, 0x31], by decide +kernel⟩,
   ⟨[0x72, 0x65, 0x67, 0x20, 0x30, 0x78, 0x45, 0x30, 0x30, 0x30, 0x30, 0x30, 0x30, 0x30], [], [0x30, 0x78, 0x45, 0x30, 0x30, 0x30, 0x30, 0x30, 0x30, 0x30], 0xE0000000, openMon runState [0x72, 0x65, 0x67, 0x20, 0x30, 0x78, 0x45, 0x30, 0x30, 0x30, 0x30, 0x30, 0x30, 0x30], by decide +kernel⟩,
   ⟨[0x69, 0x64, 0x20, 0x31], [], openMon runState [0x69, 0x64, 0x20, 0x31], by decide +kernel⟩,
   ⟨[0x73, 0x74, 0x61, 0x74, 0x75, 0x73, 0x20, 0x31], [], openMon runState [0x73, 0x74, 0x61, 0x74, 0x75, 0x73, 0x20, 0x31], by decide +kernel⟩,
   ⟨[0x69, 0x6F, 0x20, 0x31], [], openMon runState [0x69, 0x6F, 0x20, 0x31], by decide +kernel⟩,
   ⟨[0x74, 0x69, 0x6D, 0x65, 0x20, 0x31], [], openMon runState [0x74, 0x69, 0x6D, 0x65, 0x20, 0x31], by decide +kernel⟩,
   ⟨[0x73, 0x75, 0x70, 0x20, 0x31], [], openMon runState [0x73, 0x75, 0x70, 0x20, 0x31], by decide +kernel⟩,
   ⟨[0x6D, 0x65, 0x6D, 0x20, 0x31], [], openMon runState [0x6D, 0x65, 0x6D, 0x20, 0x31], by decide +kernel⟩,
   ⟨[0x6B, 0x65, 0x79, 0x73, 0x20, 0x31], [], openMon runState [0x6B, 0x65, 0x79, 0x73, 0x20, 0x31], by decide +kernel⟩,
   ⟨[0x72, 0x65, 0x67], [], openMon runState [0x72, 0x65, 0x67], by decide +kernel⟩,
   ⟨[0x62, 0x75, 0x73], [], openMon runState [0x62, 0x75, 0x73], by decide +kernel⟩,
   ⟨[0x6E, 0x65, 0x74], [], openMon runState [0x6E, 0x65, 0x74], by decide +kernel⟩⟩

theorem witness_MonitorModeCommands :
    (∃ (line : List Byte) (rest : List (List Byte)) (s : State), s.mon.waiting = line :: rest ∧ (s.monOpen = true ∧
     s.instants = true) ∧ lineCmd line = some .start ∧ (wordsOf line).drop 1 = [] ∧ s.mon.session.isSome = true ∧
     s.agreed s.lane.active = true ∧ s.ctl.mode = .stop ∧ s.inhibits = 0) ∧
    (∃ (line : List Byte) (rest : List (List Byte)) (s : State), s.mon.waiting = line :: rest ∧ (s.monOpen = true ∧
     s.instants = true) ∧ lineCmd line = some .stop ∧ (wordsOf line).drop 1 = [] ∧ s.mon.session.isSome = true ∧
     s.agreed s.lane.active = true ∧ (s.ctl.mode = .run ∨ s.ctl.mode = .hold)) ∧
    (∃ (line : List Byte) (rest : List (List Byte)) (s : State), s.mon.waiting = line :: rest ∧ (s.monOpen = true ∧
     s.instants = true) ∧ lineCmd line = some .hold ∧ (wordsOf line).drop 1 = [] ∧ s.mon.session.isSome = true ∧
     s.agreed s.lane.active = true ∧ s.ctl.mode = .run ∧ (s.getF .agreed fMcCtrlHoldPermit = 1 ∧ s.getF .agreed
     fSpStatZero = 1)) ∧
    (∃ (line : List Byte) (rest : List (List Byte)) (s : State), s.mon.waiting = line :: rest ∧ (s.monOpen = true ∧
     s.instants = true) ∧ lineCmd line = some .resume ∧ (wordsOf line).drop 1 = [] ∧ s.mon.session.isSome = true ∧
     s.agreed s.lane.active = true ∧ s.ctl.mode = .hold) ∧
    (∃ (line : List Byte) (rest : List (List Byte)) (s : State), s.mon.waiting = line :: rest ∧ (s.monOpen = true ∧
     s.instants = true) ∧ lineCmd line = some .standby ∧ (wordsOf line).drop 1 = [] ∧ s.mon.session.isSome = true ∧
     s.agreed s.lane.active = true ∧ s.ctl.mode = .stop ∧ s.standbyOk = true) ∧
    (∃ (line : List Byte) (rest : List (List Byte)) (s : State), s.mon.waiting = line :: rest ∧ (s.monOpen = true ∧
     s.instants = true) ∧ lineCmd line = some .service ∧ (wordsOf line).drop 1 = [] ∧ s.mon.session.isSome = true ∧
     s.agreed s.lane.active = true ∧ s.ctl.mode = .stop) ∧
    (∃ (line : List Byte) (rest : List (List Byte)) (s : State), s.mon.waiting = line :: rest ∧ (s.monOpen = true ∧
     s.instants = true) ∧ lineCmd line = some .leave ∧ (wordsOf line).drop 1 = [] ∧ s.mon.session.isSome = true ∧
     s.agreed s.lane.active = true ∧ s.ctl.mode = .service) ∧
    (∃ (line : List Byte) (rest : List (List Byte)) (s : State), s.mon.waiting = line :: rest ∧ (s.monOpen = true ∧
     s.instants = true) ∧ lineCmd line = some .reset ∧ (wordsOf line).drop 1 = [] ∧ s.mon.session.isSome = true ∧
     s.agreed s.lane.active = true ∧ (s.ctl.mode = .stop ∨ s.ctl.mode = .service)) ∧
    (∃ (line : List Byte) (rest : List (List Byte)) (w : List Byte) (s : State), s.mon.waiting = line :: rest ∧
     (s.monOpen = true ∧ s.instants = true) ∧ lineCmd line = some .start ∧ ((wordsOf line).drop 1 = [w] ∧ wordNum w
     = txtCold) ∧ s.mon.session.isSome = true ∧ s.agreed s.lane.active = true ∧ s.ctl.mode = .stop ∧ s.inhibits = 0) ∧
    (∃ (line : List Byte) (rest : List (List Byte)) (s : State), s.mon.waiting = line :: rest ∧ (s.monOpen = true ∧
     s.instants = true) ∧ lineCmd line = some .start ∧ s.mon.session = none) ∧
    (∃ (line : List Byte) (rest : List (List Byte)) (s : State), s.mon.waiting = line :: rest ∧ (s.monOpen = true ∧
     s.instants = true) ∧ lineCmd line = some .stop ∧ s.mon.session = none) ∧
    (∃ (line : List Byte) (rest : List (List Byte)) (s : State), s.mon.waiting = line :: rest ∧ (s.monOpen = true ∧
     s.instants = true) ∧ lineCmd line = some .hold ∧ s.mon.session = none) ∧
    (∃ (line : List Byte) (rest : List (List Byte)) (s : State), s.mon.waiting = line :: rest ∧ (s.monOpen = true ∧
     s.instants = true) ∧ lineCmd line = some .resume ∧ s.mon.session = none) ∧
    (∃ (line : List Byte) (rest : List (List Byte)) (s : State), s.mon.waiting = line :: rest ∧ (s.monOpen = true ∧
     s.instants = true) ∧ lineCmd line = some .standby ∧ s.mon.session = none) ∧
    (∃ (line : List Byte) (rest : List (List Byte)) (s : State), s.mon.waiting = line :: rest ∧ (s.monOpen = true ∧
     s.instants = true) ∧ lineCmd line = some .service ∧ s.mon.session = none) ∧
    (∃ (line : List Byte) (rest : List (List Byte)) (s : State), s.mon.waiting = line :: rest ∧ (s.monOpen = true ∧
     s.instants = true) ∧ lineCmd line = some .leave ∧ s.mon.session = none) ∧
    (∃ (line : List Byte) (rest : List (List Byte)) (s : State), s.mon.waiting = line :: rest ∧ (s.monOpen = true ∧
     s.instants = true) ∧ lineCmd line = some .reset ∧ s.mon.session = none) ∧
    (∃ (line : List Byte) (rest : List (List Byte)) (s : State), s.mon.waiting = line :: rest ∧ (s.monOpen = true ∧
     s.instants = true) ∧ lineCmd line = some .start ∧ (wordsOf line).drop 1 = [] ∧ s.mon.session.isSome = true ∧
     s.agreed s.lane.active = true ∧ s.ctl.mode ≠ .stop) ∧
    (∃ (line : List Byte) (rest : List (List Byte)) (s : State), s.mon.waiting = line :: rest ∧ (s.monOpen = true ∧
     s.instants = true) ∧ lineCmd line = some .stop ∧ (wordsOf line).drop 1 = [] ∧ s.mon.session.isSome = true ∧
     s.agreed s.lane.active = true ∧ (s.ctl.mode ≠ .run ∧ s.ctl.mode ≠ .hold)) ∧
    (∃ (line : List Byte) (rest : List (List Byte)) (s : State), s.mon.waiting = line :: rest ∧ (s.monOpen = true ∧
     s.instants = true) ∧ lineCmd line = some .hold ∧ (wordsOf line).drop 1 = [] ∧ s.mon.session.isSome = true ∧
     s.agreed s.lane.active = true ∧ s.ctl.mode ≠ .run) ∧
    (∃ (line : List Byte) (rest : List (List Byte)) (s : State), s.mon.waiting = line :: rest ∧ (s.monOpen = true ∧
     s.instants = true) ∧ lineCmd line = some .resume ∧ (wordsOf line).drop 1 = [] ∧ s.mon.session.isSome = true ∧
     s.agreed s.lane.active = true ∧ s.ctl.mode ≠ .hold) ∧
    (∃ (line : List Byte) (rest : List (List Byte)) (s : State), s.mon.waiting = line :: rest ∧ (s.monOpen = true ∧
     s.instants = true) ∧ lineCmd line = some .standby ∧ (wordsOf line).drop 1 = [] ∧ s.mon.session.isSome = true ∧
     s.agreed s.lane.active = true ∧ (s.ctl.mode ≠ .stop ∧ s.ctl.mode ≠ .run)) ∧
    (∃ (line : List Byte) (rest : List (List Byte)) (s : State), s.mon.waiting = line :: rest ∧ (s.monOpen = true ∧
     s.instants = true) ∧ lineCmd line = some .service ∧ (wordsOf line).drop 1 = [] ∧ s.mon.session.isSome = true ∧
     s.agreed s.lane.active = true ∧ s.ctl.mode ≠ .stop) ∧
    (∃ (line : List Byte) (rest : List (List Byte)) (s : State), s.mon.waiting = line :: rest ∧ (s.monOpen = true ∧
     s.instants = true) ∧ lineCmd line = some .leave ∧ (wordsOf line).drop 1 = [] ∧ s.mon.session.isSome = true ∧
     s.agreed s.lane.active = true ∧ s.ctl.mode ≠ .service) ∧
    (∃ (line : List Byte) (rest : List (List Byte)) (s : State), s.mon.waiting = line :: rest ∧ (s.monOpen = true ∧
     s.instants = true) ∧ lineCmd line = some .hold ∧ (wordsOf line).drop 1 = [] ∧ s.mon.session.isSome = true ∧
     s.agreed s.lane.active = true ∧ s.ctl.mode = .run ∧ s.getF .agreed fMcCtrlHoldPermit = 0) :=
  ⟨⟨[0x73, 0x74, 0x61, 0x72, 0x74], [], monOf cleanStop [0x73, 0x74, 0x61, 0x72, 0x74], by decide +kernel⟩,
   ⟨[0x73, 0x74, 0x6F, 0x70], [], monOf runState [0x73, 0x74, 0x6F, 0x70], by decide +kernel⟩,
   ⟨[0x68, 0x6F, 0x6C, 0x64], [], monOf holdState [0x68, 0x6F, 0x6C, 0x64], by decide +kernel⟩,
   ⟨[0x72, 0x65, 0x73, 0x75, 0x6D, 0x65], [], monOf heldState [0x72, 0x65, 0x73, 0x75, 0x6D, 0x65], by decide +kernel⟩,
   ⟨[0x73, 0x74, 0x61, 0x6E, 0x64, 0x62, 0x79], [], monOf standbyReady [0x73, 0x74, 0x61, 0x6E, 0x64, 0x62, 0x79], by decide +kernel⟩,
   ⟨[0x73, 0x65, 0x72, 0x76, 0x69, 0x63, 0x65], [], monOf stopState [0x73, 0x65, 0x72, 0x76, 0x69, 0x63, 0x65], by decide +kernel⟩,
   ⟨[0x6C, 0x65, 0x61, 0x76, 0x65], [], monOf serviceState [0x6C, 0x65, 0x61, 0x76, 0x65], by decide +kernel⟩,
   ⟨[0x72, 0x65, 0x73, 0x65, 0x74], [], monOf stopState [0x72, 0x65, 0x73, 0x65, 0x74], by decide +kernel⟩,
   ⟨[0x73, 0x74, 0x61, 0x72, 0x74, 0x20, 0x63, 0x6F, 0x6C, 0x64], [], [0x63, 0x6F, 0x6C, 0x64], monOf cleanStop [0x73, 0x74, 0x61, 0x72, 0x74, 0x20, 0x63, 0x6F, 0x6C, 0x64], by decide +kernel⟩,
   ⟨[0x73, 0x74, 0x61, 0x72, 0x74], [], openMon stopState [0x73, 0x74, 0x61, 0x72, 0x74], by decide +kernel⟩,
   ⟨[0x73, 0x74, 0x6F, 0x70], [], openMon stopState [0x73, 0x74, 0x6F, 0x70], by decide +kernel⟩,
   ⟨[0x68, 0x6F, 0x6C, 0x64], [], openMon stopState [0x68, 0x6F, 0x6C, 0x64], by decide +kernel⟩,
   ⟨[0x72, 0x65, 0x73, 0x75, 0x6D, 0x65], [], openMon stopState [0x72, 0x65, 0x73, 0x75, 0x6D, 0x65], by decide +kernel⟩,
   ⟨[0x73, 0x74, 0x61, 0x6E, 0x64, 0x62, 0x79], [], openMon stopState [0x73, 0x74, 0x61, 0x6E, 0x64, 0x62, 0x79], by decide +kernel⟩,
   ⟨[0x73, 0x65, 0x72, 0x76, 0x69, 0x63, 0x65], [], openMon stopState [0x73, 0x65, 0x72, 0x76, 0x69, 0x63, 0x65], by decide +kernel⟩,
   ⟨[0x6C, 0x65, 0x61, 0x76, 0x65], [], openMon stopState [0x6C, 0x65, 0x61, 0x76, 0x65], by decide +kernel⟩,
   ⟨[0x72, 0x65, 0x73, 0x65, 0x74], [], openMon stopState [0x72, 0x65, 0x73, 0x65, 0x74], by decide +kernel⟩,
   ⟨[0x73, 0x74, 0x61, 0x72, 0x74], [], monOf (upIn .run) [0x73, 0x74, 0x61, 0x72, 0x74], by decide +kernel⟩,
   ⟨[0x73, 0x74, 0x6F, 0x70], [], monOf (upIn .service) [0x73, 0x74, 0x6F, 0x70], by decide +kernel⟩,
   ⟨[0x68, 0x6F, 0x6C, 0x64], [], monOf (upIn .service) [0x68, 0x6F, 0x6C, 0x64], by decide +kernel⟩,
   ⟨[0x72, 0x65, 0x73, 0x75, 0x6D, 0x65], [], monOf (upIn .run) [0x72, 0x65, 0x73, 0x75, 0x6D, 0x65], by decide +kernel⟩,
   ⟨[0x73, 0x74, 0x61, 0x6E, 0x64, 0x62, 0x79], [], monOf (upIn .service) [0x73, 0x74, 0x61, 0x6E, 0x64, 0x62, 0x79], by decide +kernel⟩,
   ⟨[0x73, 0x65, 0x72, 0x76, 0x69, 0x63, 0x65], [], monOf (upIn .run) [0x73, 0x65, 0x72, 0x76, 0x69, 0x63, 0x65], by decide +kernel⟩,
   ⟨[0x6C, 0x65, 0x61, 0x76, 0x65], [], monOf (upIn .run) [0x6C, 0x65, 0x61, 0x76, 0x65], by decide +kernel⟩,
   ⟨[0x68, 0x6F, 0x6C, 0x64], [], monOf runState [0x68, 0x6F, 0x6C, 0x64], by decide +kernel⟩⟩

theorem witness_MonitorSessionCommands :
    (∃ (line : List Byte) (rest : List (List Byte)) (w y : List Byte) (i : Nat) (v : Int) (s : State), s.mon.waiting
     = line :: rest ∧ (s.monOpen = true ∧ s.instants = true) ∧ lineCmd line = some .force ∧ ((wordsOf line).drop 1 =
     [w, y] ∧ numberOf w = some i ∧ intOf y = some v) ∧ s.mon.session.isSome = true ∧ s.agreed s.lane.active = true
     ∧ (s.ctl.mode = .stop ∨ s.ctl.mode = .run ∨ s.ctl.mode = .hold) ∧ (s.app.valueStatus i v = 0 ∧ (s.app.forced i
     = true ∨ s.app.forces.length < 256))) ∧
    (∃ (line : List Byte) (rest : List (List Byte)) (w : List Byte) (s : State), s.mon.waiting = line :: rest ∧
     (s.monOpen = true ∧ s.instants = true) ∧ lineCmd line = some .unforce ∧ ((wordsOf line).drop 1 = [w] ∧ wordNum
     w = txtAll) ∧ s.mon.session.isSome = true ∧ s.agreed s.lane.active = true ∧ (s.ctl.mode = .stop ∨ s.ctl.mode =
     .run ∨ s.ctl.mode = .hold) ∧ s.app.forces ≠ []) ∧
    (∃ (line : List Byte) (rest : List (List Byte)) (x : ChangeItem) (s : State), s.mon.waiting = line :: rest ∧
     (s.monOpen = true ∧ s.instants = true) ∧ lineCmd line = some .set ∧ s.mon.session.isSome = true ∧ s.agreed
     s.lane.active = true ∧ (s.ctl.mode = .run ∨ s.ctl.mode = .hold) ∧ (s.app.desc.isSome = true ∧ s.app.changeItems
     ((wordsOf line).drop 1) = some [x]) ∧ s.requestStatus true (fieldAt s.app.hash 0 8) [x] = (0, x.index)) ∧
    (∃ (line : List Byte) (rest : List (List Byte)) (w : List Byte) (i : Nat) (s : State), s.mon.waiting = line ::
     rest ∧ (s.monOpen = true ∧ s.instants = true) ∧ lineCmd line = some .unforce ∧ ((wordsOf line).drop 1 = [w] ∧
     wordNum w ≠ txtAll ∧ numberOf w = some i) ∧ s.mon.session.isSome = true ∧ s.agreed s.lane.active = true ∧
     (s.ctl.mode = .stop ∨ s.ctl.mode = .run ∨ s.ctl.mode = .hold) ∧ s.app.forced i = true) ∧
    (∃ (line : List Byte) (rest : List (List Byte)) (w y : List Byte) (o : Nat) (s : State), s.mon.waiting = line ::
     rest ∧ (s.monOpen = true ∧ s.instants = true) ∧ lineCmd line = some .out ∧ ((wordsOf line).drop 1 = [w, y] ∧
     numberOf w = some o ∧ 1 ≤ o ∧ o ≤ 24 ∧ wordNum y = txtOn) ∧ s.mon.session.isSome = true ∧ s.agreed
     s.lane.active = true ∧ s.ctl.mode = .service) ∧
    (∃ (t : Nat) (line : List Byte) (rest : List (List Byte)) (w y : List Byte) (b : Nat) (s : State), s.mon.waiting
     = line :: rest ∧ (s.monOpen = true ∧ s.instants = true) ∧ lineCmd line = some .bustest ∧ ((wordsOf line).drop 1
     = [w, y] ∧ numberOf w = some b ∧ b < 2 ∧ wordNum y = txtOn) ∧ s.mon.session.isSome = true ∧ s.agreed
     s.lane.active = true ∧ (s.ctl.mode = .service ∧ s.ctl.since < max s.now t ∧ (s.bus b).state = .normal)) ∧
    (∃ (line : List Byte) (rest : List (List Byte)) (w y : List Byte) (o : Nat) (s : State), s.mon.waiting = line ::
     rest ∧ (s.monOpen = true ∧ s.instants = true) ∧ lineCmd line = some .out ∧ ((wordsOf line).drop 1 = [w, y] ∧
     numberOf w = some o ∧ 1 ≤ o ∧ o ≤ 24 ∧ wordNum y = txtOff) ∧ s.mon.session.isSome = true ∧ s.agreed
     s.lane.active = true ∧ s.ctl.mode = .service) ∧
    (∃ (line : List Byte) (rest : List (List Byte)) (w y : List Byte) (o : Nat) (s : State), s.mon.waiting = line ::
     rest ∧ (s.monOpen = true ∧ s.instants = true) ∧ lineCmd line = some .out ∧ ((wordsOf line).drop 1 = [w, y] ∧
     numberOf w = some o ∧ 1 ≤ o ∧ o ≤ 24 ∧ wordNum y = txtFree) ∧ s.mon.session.isSome = true ∧ s.agreed
     s.lane.active = true ∧ s.ctl.mode = .service) ∧
    (∃ (t : Nat) (line : List Byte) (rest : List (List Byte)) (w y : List Byte) (b : Nat) (s : State), s.mon.waiting
     = line :: rest ∧ (s.monOpen = true ∧ s.instants = true) ∧ lineCmd line = some .bustest ∧ ((wordsOf line).drop 1
     = [w, y] ∧ numberOf w = some b ∧ b < 2 ∧ wordNum y = txtOff) ∧ s.mon.session.isSome = true ∧ s.agreed
     s.lane.active = true ∧ (s.ctl.mode = .service ∧ s.ctl.since < max s.now t ∧ (s.bus b).state = .test)) ∧
    (∃ (line : List Byte) (rest : List (List Byte)) (k x r a b y : List Byte) (m : Mast) (addr bit kind : Nat) (s :
     State), s.mon.waiting = line :: rest ∧ (s.monOpen = true ∧ s.instants = true) ∧ lineCmd line = some .inject ∧
     ((wordsOf line).drop 1 = [k, x, r, a, b, y] ∧ wordNum k = txtMem ∧ mastCodeOf x = some m.code ∧ wordNum r =
     txtSram) ∧ (numberOf a = some addr ∧ numberOf b = some bit ∧ bit ≤ 7 ∧ numberOf y = some kind ∧ (kind = 1 ∨
     kind = 2)) ∧ (regionOf (addr / 8 * 8) = .sram ∧ addr < 4294967296 ∧ (s.mast m).powered = true) ∧
     s.mon.session.isSome = true ∧ s.agreed s.lane.active = true ∧ s.ctl.mode = .service ∧ ((s.mast m).mem.errAt
     (addr / 8 * 8) = [] ∧ (s.mast m).mem.isValid (addr / 8 * 8) = true)) ∧
    (∃ (line : List Byte) (rest : List (List Byte)) (k x w a y : List Byte) (m : Mast) (core kind : Nat) (s :
     State), s.mon.waiting = line :: rest ∧ (s.monOpen = true ∧ s.instants = true) ∧ lineCmd line = some .inject ∧
     ((wordsOf line).drop 1 = [k, x, w, a, y] ∧ wordNum k = txtTriad ∧ mastCodeOf x = some m.code ∧ triadCodeOf w =
     some 1) ∧ (numberOf a = some core ∧ core ≤ 2 ∧ numberOf y = some kind ∧ 1 ≤ kind ∧ kind ≤ 4) ∧
     s.mon.session.isSome = true ∧ s.agreed s.lane.active = true ∧ s.ctl.mode = .service) ∧
    (∃ (line : List Byte) (rest : List (List Byte)) (k x r a b y : List Byte) (m : Mast) (addr bit : Nat) (s :
     State), s.mon.waiting = line :: rest ∧ (s.monOpen = true ∧ s.instants = true) ∧ lineCmd line = some .inject ∧
     ((wordsOf line).drop 1 = [k, x, r, a, b, y] ∧ wordNum k = txtMem ∧ mastCodeOf x = some m.code ∧ wordNum r =
     txtDram) ∧ (numberOf a = some addr ∧ numberOf b = some bit ∧ bit ≤ 7 ∧ numberOf y = some 1) ∧ (0x40000000 ≤
     addr ∧ addr < 0x80000000 ∧ (s.mast m).powered = true) ∧ s.mon.session.isSome = true ∧ s.agreed s.lane.active =
     true ∧ s.ctl.mode = .service ∧ (s.mast m).mem.errAt (addr / 8 * 8) = []) ∧
    (∃ (line : List Byte) (rest : List (List Byte)) (w y : List Byte) (x z : Nat) (s : State), s.mon.waiting = line
     :: rest ∧ (s.monOpen = true ∧ s.instants = true) ∧ lineCmd line = some .step ∧ ((wordsOf line).drop 1 = [w, y]
     ∧ numberOf w = some x ∧ numberOf y = some z ∧ x < 2 ^ 64 ∧ z < sec) ∧ s.mon.session.isSome = true ∧ s.agreed
     s.lane.active = true ∧ (s.ctl.mode = .service ∨ s.ctl.mode = .stop)) ∧
    (∃ (line : List Byte) (rest : List (List Byte)) (s : State), s.mon.waiting = line :: rest ∧ (s.monOpen = true ∧
     s.instants = true) ∧ lineCmd line = some .silclr ∧ (wordsOf line).drop 1 = [] ∧ s.mon.session.isSome = true ∧
     s.agreed s.lane.active = true ∧ (s.ctl.mode = .service ∨ s.ctl.mode = .stop)) ∧
    (∃ (line : List Byte) (rest : List (List Byte)) (w y : List Byte) (n : Nat) (s : State), s.mon.waiting = line ::
     rest ∧ (s.monOpen = true ∧ s.instants = true) ∧ lineCmd line = some .syslog ∧ ((wordsOf line).drop 1 = [w, y] ∧
     numberOf y = some n ∧ wordNum w = txtRate ∧ 1 ≤ n ∧ n ≤ 1000) ∧ s.mon.session.isSome = true ∧ s.ctl.mode =
     .service) ∧
    (∃ (line : List Byte) (rest : List (List Byte)) (w y : List Byte) (n : Nat) (s : State), s.mon.waiting = line ::
     rest ∧ (s.monOpen = true ∧ s.instants = true) ∧ lineCmd line = some .syslog ∧ ((wordsOf line).drop 1 = [w, y] ∧
     numberOf y = some n ∧ wordNum w = txtSev ∧ 2 ≤ n ∧ n ≤ 7) ∧ s.mon.session.isSome = true ∧ s.ctl.mode = .service) ∧
    (∃ (line : List Byte) (rest : List (List Byte)) (w : List Byte) (s : State), s.mon.waiting = line :: rest ∧
     (s.monOpen = true ∧ s.instants = true) ∧ lineCmd line = some .syslog ∧ ((wordsOf line).drop 1 = [w] ∧ wordNum w
     = txtOff) ∧ s.mon.session.isSome = true ∧ s.ctl.mode = .service) ∧
    (∃ (line : List Byte) (rest : List (List Byte)) (w y z : List Byte) (a p i : Nat) (s : State), s.mon.waiting =
     line :: rest ∧ (s.monOpen = true ∧ s.instants = true) ∧ lineCmd line = some .syslog ∧ ((wordsOf line).drop 1 =
     [w, y, z] ∧ addressOf w = some a ∧ numberOf y = some p ∧ p ≤ 65535 ∧ numberOf z = some i ∧ (i = 1 ∨ i = 2)) ∧
     s.mon.session.isSome = true ∧ s.ctl.mode = .service) ∧
    (∃ (line : List Byte) (rest : List (List Byte)) (s : State), s.mon.waiting = line :: rest ∧ (s.monOpen = true ∧
     s.instants = true) ∧ lineCmd line = some .update ∧ (wordsOf line).drop 1 = [] ∧ s.mon.session.isSome = true ∧
     s.agreed s.lane.active = true ∧ s.mon.transfer = none ∧ (s.ctl.mode = .service ∨ s.ctl.mode = .stop ∨
     s.ctl.mode = .run ∨ s.ctl.mode = .hold)) ∧
    (∃ (f : JuryFinding) (line : List Byte) (rest : List (List Byte)) (s : State), s.mon.waiting = line :: rest ∧
     (s.monOpen = true ∧ s.instants = true) ∧ lineCmd line = some .activate ∧ (wordsOf line).drop 1 = [] ∧
     s.mon.session.isSome = true ∧ s.agreed s.lane.active = true ∧ (s.ctl.mode = .service ∨ s.ctl.mode = .stop) ∧
     (s.upd.session.isSome = true ∧ s.getF .agreed fUpStatPhase = 4) ∧ (s.lane.isolated.masts ≠ [] ∨ (f.selftest =
     true ∧ f.turn = true))) ∧
    (∃ (line : List Byte) (rest : List (List Byte)) (s : State), s.mon.waiting = line :: rest ∧ (s.monOpen = true ∧
     s.instants = true) ∧ lineCmd line = some .abort ∧ (wordsOf line).drop 1 = [] ∧ s.mon.session.isSome = true ∧
     s.agreed s.lane.active = true ∧ (s.ctl.mode = .service ∨ s.ctl.mode = .stop ∨ s.ctl.mode = .run ∨ s.ctl.mode =
     .hold) ∧ s.upd.session.isSome = true) ∧
    (∃ (line : List Byte) (rest : List (List Byte)) (s : State), s.mon.waiting = line :: rest ∧ (s.monOpen = true ∧
     s.instants = true) ∧ lineCmd line = some .confirm ∧ (wordsOf line).drop 1 = [] ∧ s.mon.session.isSome = true ∧
     s.agreed s.lane.active = true ∧ (s.ctl.mode = .run ∧ s.inTrial = true)) ∧
    (∃ (line : List Byte) (rest : List (List Byte)) (w y : List Byte) (s : State), s.mon.waiting = line :: rest ∧
     (s.monOpen = true ∧ s.instants = true) ∧ lineCmd line = some .key ∧ ((wordsOf line).drop 1 = [w, y] ∧ wordNum w
     = txtProg ∧ (numberOf y = some 4 ∨ numberOf y = some 5)) ∧ s.mon.session.isSome = true ∧ s.agreed s.lane.active
     = true ∧ s.ctl.mode = .service ∧ s.mon.transfer = none) ∧
    (∃ (line : List Byte) (rest : List (List Byte)) (w y : List Byte) (k : Nat) (s : State), s.mon.waiting = line ::
     rest ∧ (s.monOpen = true ∧ s.instants = true) ∧ lineCmd line = some .key ∧ ((wordsOf line).drop 1 = [w, y] ∧
     wordNum w = txtRevoke ∧ numberOf y = some k ∧ k ≤ 5) ∧ s.mon.session.isSome = true ∧ s.agreed s.lane.active =
     true ∧ (s.ctl.mode = .service ∧ s.upd.session = none)) ∧
    (∃ (line : List Byte) (rest : List (List Byte)) (w : List Byte) (s : State), s.mon.waiting = line :: rest ∧
     (s.monOpen = true ∧ s.instants = true) ∧ lineCmd line = some .activate ∧ ((wordsOf line).drop 1 = [w] ∧ wordNum
     w = txtNojury) ∧ s.mon.session.isSome = true ∧ s.agreed s.lane.active = true ∧ s.ctl.mode = .service ∧
     (s.upd.session.isSome = true ∧ s.getF .agreed fUpStatPhase = 4)) ∧
    (∃ (line : List Byte) (rest : List (List Byte)) (s : State), s.mon.waiting = line :: rest ∧ (s.monOpen = true ∧
     s.instants = true) ∧ lineCmd line = some .force ∧ s.mon.session = none) ∧
    (∃ (line : List Byte) (rest : List (List Byte)) (s : State), s.mon.waiting = line :: rest ∧ (s.monOpen = true ∧
     s.instants = true) ∧ lineCmd line = some .unforce ∧ s.mon.session = none) ∧
    (∃ (line : List Byte) (rest : List (List Byte)) (s : State), s.mon.waiting = line :: rest ∧ (s.monOpen = true ∧
     s.instants = true) ∧ lineCmd line = some .set ∧ s.mon.session = none) ∧
    (∃ (line : List Byte) (rest : List (List Byte)) (s : State), s.mon.waiting = line :: rest ∧ (s.monOpen = true ∧
     s.instants = true) ∧ lineCmd line = some .out ∧ s.mon.session = none) ∧
    (∃ (line : List Byte) (rest : List (List Byte)) (s : State), s.mon.waiting = line :: rest ∧ (s.monOpen = true ∧
     s.instants = true) ∧ lineCmd line = some .bustest ∧ s.mon.session = none) ∧
    (∃ (line : List Byte) (rest : List (List Byte)) (s : State), s.mon.waiting = line :: rest ∧ (s.monOpen = true ∧
     s.instants = true) ∧ lineCmd line = some .inject ∧ s.mon.session = none) ∧
    (∃ (line : List Byte) (rest : List (List Byte)) (s : State), s.mon.waiting = line :: rest ∧ (s.monOpen = true ∧
     s.instants = true) ∧ lineCmd line = some .step ∧ s.mon.session = none) ∧
    (∃ (line : List Byte) (rest : List (List Byte)) (s : State), s.mon.waiting = line :: rest ∧ (s.monOpen = true ∧
     s.instants = true) ∧ lineCmd line = some .silclr ∧ s.mon.session = none) ∧
    (∃ (line : List Byte) (rest : List (List Byte)) (s : State), s.mon.waiting = line :: rest ∧ (s.monOpen = true ∧
     s.instants = true) ∧ lineCmd line = some .update ∧ s.mon.session = none) ∧
    (∃ (line : List Byte) (rest : List (List Byte)) (s : State), s.mon.waiting = line :: rest ∧ (s.monOpen = true ∧
     s.instants = true) ∧ lineCmd line = some .abort ∧ s.mon.session = none) ∧
    (∃ (line : List Byte) (rest : List (List Byte)) (s : State), s.mon.waiting = line :: rest ∧ (s.monOpen = true ∧
     s.instants = true) ∧ lineCmd line = some .confirm ∧ s.mon.session = none) ∧
    (∃ (line : List Byte) (rest : List (List Byte)) (s : State), s.mon.waiting = line :: rest ∧ (s.monOpen = true ∧
     s.instants = true) ∧ lineCmd line = some .key ∧ s.mon.session = none) ∧
    (∃ (line : List Byte) (rest : List (List Byte)) (s : State), s.mon.waiting = line :: rest ∧ (s.monOpen = true ∧
     s.instants = true) ∧ lineCmd line = some .logout ∧ s.mon.session = none) ∧
    (∃ (line : List Byte) (rest : List (List Byte)) (s : State), s.mon.waiting = line :: rest ∧ (s.monOpen = true ∧
     s.instants = true) ∧ lineCmd line = some .syslog ∧ s.mon.session = none) ∧
    (∃ (line : List Byte) (rest : List (List Byte)) (s : State), s.mon.waiting = line :: rest ∧ (s.monOpen = true ∧
     s.instants = true) ∧ lineCmd line = some .activate ∧ s.mon.session = none) ∧
    (∃ (line : List Byte) (rest : List (List Byte)) (s : State), s.mon.waiting = line :: rest ∧ (s.monOpen = true ∧
     s.instants = true) ∧ lineCmd line = some .out ∧ s.mon.session.isSome = true ∧ s.ctl.mode ≠ .service) ∧
    (∃ (line : List Byte) (rest : List (List Byte)) (s : State), s.mon.waiting = line :: rest ∧ (s.monOpen = true ∧
     s.instants = true) ∧ lineCmd line = some .bustest ∧ s.mon.session.isSome = true ∧ s.ctl.mode ≠ .service) ∧
    (∃ (line : List Byte) (rest : List (List Byte)) (s : State), s.mon.waiting = line :: rest ∧ (s.monOpen = true ∧
     s.instants = true) ∧ lineCmd line = some .inject ∧ s.mon.session.isSome = true ∧ s.ctl.mode ≠ .service) :=
  ⟨⟨[0x66, 0x6F, 0x72, 0x63, 0x65, 0x20, 0x33, 0x20, 0x2D, 0x35], [], [0x33], [0x2D, 0x35], 3, -5, monOf symbolState [0x66, 0x6F, 0x72, 0x63, 0x65, 0x20, 0x33, 0x20, 0x2D, 0x35], by decide +kernel⟩,
   ⟨[0x75, 0x6E, 0x66, 0x6F, 0x72, 0x63, 0x65, 0x20, 0x61, 0x6C, 0x6C], [], [0x61, 0x6C, 0x6C], monOf ({ symbolState with app := { symbolState.app with forces := [(3, 1)] } }) [0x75, 0x6E, 0x66, 0x6F, 0x72, 0x63, 0x65, 0x20, 0x61, 0x6C, 0x6C], by decide +kernel⟩,
   ⟨[0x73, 0x65, 0x74, 0x20, 0x33, 0x20, 0x2D, 0x35], [], ⟨3, 2, 5, -5⟩, monOf symbolState [0x73, 0x65, 0x74, 0x20, 0x33, 0x20, 0x2D, 0x35], by decide +kernel⟩,
   ⟨[0x75, 0x6E, 0x66, 0x6F, 0x72, 0x63, 0x65, 0x20, 0x33], [], [0x33], 3, monOf ({ symbolState with app := { symbolState.app with forces := [(3, 1)] } }) [0x75, 0x6E, 0x66, 0x6F, 0x72, 0x63, 0x65, 0x20, 0x33], by decide +kernel⟩,
   ⟨[0x6F, 0x75, 0x74, 0x20, 0x32, 0x34, 0x20, 0x6F, 0x6E], [], [0x32, 0x34], [0x6F, 0x6E], 24, monOf serviceState [0x6F, 0x75, 0x74, 0x20, 0x32, 0x34, 0x20, 0x6F, 0x6E], by decide +kernel⟩,
   ⟨1, [0x62, 0x75, 0x73, 0x74, 0x65, 0x73, 0x74, 0x20, 0x30, 0x20, 0x6F, 0x6E], [], [0x30], [0x6F, 0x6E], 0, monOf ({ doorOf doorNormal [] with ctl := serviceState.ctl }) [0x62, 0x75, 0x73, 0x74, 0x65, 0x73, 0x74, 0x20, 0x30, 0x20, 0x6F, 0x6E], by decide +kernel⟩,
   ⟨[0x6F, 0x75, 0x74, 0x20, 0x32, 0x34, 0x20, 0x6F, 0x66, 0x66], [], [0x32, 0x34], [0x6F, 0x66, 0x66], 24, monOf serviceState [0x6F, 0x75, 0x74, 0x20, 0x32, 0x34, 0x20, 0x6F, 0x66, 0x66], by decide +kernel⟩,
   ⟨[0x6F, 0x75, 0x74, 0x20, 0x32, 0x34, 0x20, 0x66, 0x72, 0x65, 0x65], [], [0x32, 0x34], [0x66, 0x72, 0x65, 0x65], 24, monOf serviceState [0x6F, 0x75, 0x74, 0x20, 0x32, 0x34, 0x20, 0x66, 0x72, 0x65, 0x65], by decide +kernel⟩,
   ⟨1, [0x62, 0x75, 0x73, 0x74, 0x65, 0x73, 0x74, 0x20, 0x30, 0x20, 0x6F, 0x66, 0x66], [], [0x30], [0x6F, 0x66, 0x66], 0, monOf ({ doorOf { doorNormal with state := .test } [] with ctl := serviceState.ctl }) [0x62, 0x75, 0x73, 0x74, 0x65, 0x73, 0x74, 0x20, 0x30, 0x20, 0x6F, 0x66, 0x66], by decide +kernel⟩,
   ⟨[0x69, 0x6E, 0x6A, 0x65, 0x63, 0x74, 0x20, 0x6D, 0x65, 0x6D, 0x20, 0x42, 0x20, 0x73, 0x72, 0x61, 0x6D, 0x20, 0x30, 0x78, 0x31, 0x30, 0x30, 0x30, 0x30, 0x30, 0x30, 0x38, 0x20, 0x37, 0x20, 0x32], [], [0x6D, 0x65, 0x6D], [0x42], [0x73, 0x72, 0x61, 0x6D], [0x30, 0x78, 0x31, 0x30, 0x30, 0x30, 0x30, 0x30, 0x30, 0x38], [0x37], [0x32], .b, 0x10000008, 7, 2, monOf (serviceState.store .b 0x10000008 [0, 0, 0, 0, 0, 0, 0, 0]) [0x69, 0x6E, 0x6A, 0x65, 0x63, 0x74, 0x20, 0x6D, 0x65, 0x6D, 0x20, 0x42, 0x20, 0x73, 0x72, 0x61, 0x6D, 0x20, 0x30, 0x78, 0x31, 0x30, 0x30, 0x30, 0x30, 0x30, 0x30, 0x38, 0x20, 0x37, 0x20, 0x32], by decide +kernel⟩,
   ⟨[0x69, 0x6E, 0x6A, 0x65, 0x63, 0x74, 0x20, 0x74, 0x72, 0x69, 0x61, 0x64, 0x20, 0x42, 0x20, 0x43, 0x20, 0x31, 0x20, 0x31], [], [0x74, 0x72, 0x69, 0x61, 0x64], [0x42], [0x43], [0x31], [0x31], .b, 1, 1, monOf serviceState [0x69, 0x6E, 0x6A, 0x65, 0x63, 0x74, 0x20, 0x74, 0x72, 0x69, 0x61, 0x64, 0x20, 0x42, 0x20, 0x43, 0x20, 0x31, 0x20, 0x31], by decide +kernel⟩,
   ⟨[0x69, 0x6E, 0x6A, 0x65, 0x63, 0x74, 0x20, 0x6D, 0x65, 0x6D, 0x20, 0x42, 0x20, 0x64, 0x72, 0x61, 0x6D, 0x20, 0x30, 0x78, 0x34, 0x30, 0x30, 0x30, 0x30, 0x30, 0x30, 0x38, 0x20, 0x37, 0x20, 0x31], [], [0x6D, 0x65, 0x6D], [0x42], [0x64, 0x72, 0x61, 0x6D], [0x30, 0x78, 0x34, 0x30, 0x30, 0x30, 0x30, 0x30, 0x30, 0x38], [0x37], [0x31], .b, 0x40000008, 7, monOf serviceState [0x69, 0x6E, 0x6A, 0x65, 0x63, 0x74, 0x20, 0x6D, 0x65, 0x6D, 0x20, 0x42, 0x20, 0x64, 0x72, 0x61, 0x6D, 0x20, 0x30, 0x78, 0x34, 0x30, 0x30, 0x30, 0x30, 0x30, 0x30, 0x38, 0x20, 0x37, 0x20, 0x31], by decide +kernel⟩,
   ⟨[0x73, 0x74, 0x65, 0x70, 0x20, 0x35, 0x20, 0x37], [], [0x35], [0x37], 5, 7, monOf stopState [0x73, 0x74, 0x65, 0x70, 0x20, 0x35, 0x20, 0x37], by decide +kernel⟩,
   ⟨[0x73, 0x69, 0x6C, 0x63, 0x6C, 0x72], [], monOf stopState [0x73, 0x69, 0x6C, 0x63, 0x6C, 0x72], by decide +kernel⟩,
   ⟨[0x73, 0x79, 0x73, 0x6C, 0x6F, 0x67, 0x20, 0x72, 0x61, 0x74, 0x65, 0x20, 0x31, 0x30, 0x30, 0x30], [], [0x72, 0x61, 0x74, 0x65], [0x31, 0x30, 0x30, 0x30], 1000, monOf serviceState [0x73, 0x79, 0x73, 0x6C, 0x6F, 0x67, 0x20, 0x72, 0x61, 0x74, 0x65, 0x20, 0x31, 0x30, 0x30, 0x30], by decide +kernel⟩,
   ⟨[0x73, 0x79, 0x73, 0x6C, 0x6F, 0x67, 0x20, 0x73, 0x65, 0x76, 0x20, 0x37], [], [0x73, 0x65, 0x76], [0x37], 7, monOf serviceState [0x73, 0x79, 0x73, 0x6C, 0x6F, 0x67, 0x20, 0x73, 0x65, 0x76, 0x20, 0x37], by decide +kernel⟩,
   ⟨[0x73, 0x79, 0x73, 0x6C, 0x6F, 0x67, 0x20, 0x6F, 0x66, 0x66], [], [0x6F, 0x66, 0x66], monOf serviceState [0x73, 0x79, 0x73, 0x6C, 0x6F, 0x67, 0x20, 0x6F, 0x66, 0x66], by decide +kernel⟩,
   ⟨[0x73, 0x79, 0x73, 0x6C, 0x6F, 0x67, 0x20, 0x31, 0x30, 0x2E, 0x30, 0x2E, 0x30, 0x2E, 0x31, 0x20, 0x35, 0x31, 0x34, 0x20, 0x32], [], [0x31, 0x30, 0x2E, 0x30, 0x2E, 0x30, 0x2E, 0x31], [0x35, 0x31, 0x34], [0x32], 0x0A000001, 514, 2, monOf serviceState [0x73, 0x79, 0x73, 0x6C, 0x6F, 0x67, 0x20, 0x31, 0x30, 0x2E, 0x30, 0x2E, 0x30, 0x2E, 0x31, 0x20, 0x35, 0x31, 0x34, 0x20, 0x32], by decide +kernel⟩,
   ⟨[0x75, 0x70, 0x64, 0x61, 0x74, 0x65], [], monOf stopState [0x75, 0x70, 0x64, 0x61, 0x74, 0x65], by decide +kernel⟩,
   ⟨goodTurn, [0x61, 0x63, 0x74, 0x69, 0x76, 0x61, 0x74, 0x65], [], monOf readySession [0x61, 0x63, 0x74, 0x69, 0x76, 0x61, 0x74, 0x65], by decide +kernel⟩,
   ⟨[0x61, 0x62, 0x6F, 0x72, 0x74], [], monOf openSession [0x61, 0x62, 0x6F, 0x72, 0x74], by decide +kernel⟩,
   ⟨[0x63, 0x6F, 0x6E, 0x66, 0x69, 0x72, 0x6D], [], monOf trialState [0x63, 0x6F, 0x6E, 0x66, 0x69, 0x72, 0x6D], by decide +kernel⟩,
   ⟨[0x6B, 0x65, 0x79, 0x20, 0x70, 0x72, 0x6F, 0x67, 0x20, 0x35], [], [0x70, 0x72, 0x6F, 0x67], [0x35], monOf serviceState [0x6B, 0x65, 0x79, 0x20, 0x70, 0x72, 0x6F, 0x67, 0x20, 0x35], by decide +kernel⟩,
   ⟨[0x6B, 0x65, 0x79, 0x20, 0x72, 0x65, 0x76, 0x6F, 0x6B, 0x65, 0x20, 0x35], [], [0x72, 0x65, 0x76, 0x6F, 0x6B, 0x65], [0x35], 5, monOf (headed serviceState) [0x6B, 0x65, 0x79, 0x20, 0x72, 0x65, 0x76, 0x6F, 0x6B, 0x65, 0x20, 0x35], by decide +kernel⟩,
   ⟨[0x61, 0x63, 0x74, 0x69, 0x76, 0x61, 0x74, 0x65, 0x20, 0x6E, 0x6F, 0x6A, 0x75, 0x72, 0x79], [], [0x6E, 0x6F, 0x6A, 0x75, 0x72, 0x79], monOf ({ readySession with ctl := serviceState.ctl }) [0x61, 0x63, 0x74, 0x69, 0x76, 0x61, 0x74, 0x65, 0x20, 0x6E, 0x6F, 0x6A, 0x75, 0x72, 0x79], by decide +kernel⟩,
   ⟨[0x66, 0x6F, 0x72, 0x63, 0x65], [], openMon stopState [0x66, 0x6F, 0x72, 0x63, 0x65], by decide +kernel⟩,
   ⟨[0x75, 0x6E, 0x66, 0x6F, 0x72, 0x63, 0x65], [], openMon stopState [0x75, 0x6E, 0x66, 0x6F, 0x72, 0x63, 0x65], by decide +kernel⟩,
   ⟨[0x73, 0x65, 0x74], [], openMon stopState [0x73, 0x65, 0x74], by decide +kernel⟩,
   ⟨[0x6F, 0x75, 0x74], [], openMon stopState [0x6F, 0x75, 0x74], by decide +kernel⟩,
   ⟨[0x62, 0x75, 0x73, 0x74, 0x65, 0x73, 0x74], [], openMon stopState [0x62, 0x75, 0x73, 0x74, 0x65, 0x73, 0x74], by decide +kernel⟩,
   ⟨[0x69, 0x6E, 0x6A, 0x65, 0x63, 0x74], [], openMon stopState [0x69, 0x6E, 0x6A, 0x65, 0x63, 0x74], by decide +kernel⟩,
   ⟨[0x73, 0x74, 0x65, 0x70], [], openMon stopState [0x73, 0x74, 0x65, 0x70], by decide +kernel⟩,
   ⟨[0x73, 0x69, 0x6C, 0x63, 0x6C, 0x72], [], openMon stopState [0x73, 0x69, 0x6C, 0x63, 0x6C, 0x72], by decide +kernel⟩,
   ⟨[0x75, 0x70, 0x64, 0x61, 0x74, 0x65], [], openMon stopState [0x75, 0x70, 0x64, 0x61, 0x74, 0x65], by decide +kernel⟩,
   ⟨[0x61, 0x62, 0x6F, 0x72, 0x74], [], openMon stopState [0x61, 0x62, 0x6F, 0x72, 0x74], by decide +kernel⟩,
   ⟨[0x63, 0x6F, 0x6E, 0x66, 0x69, 0x72, 0x6D], [], openMon stopState [0x63, 0x6F, 0x6E, 0x66, 0x69, 0x72, 0x6D], by decide +kernel⟩,
   ⟨[0x6B, 0x65, 0x79], [], openMon stopState [0x6B, 0x65, 0x79], by decide +kernel⟩,
   ⟨[0x6C, 0x6F, 0x67, 0x6F, 0x75, 0x74], [], openMon stopState [0x6C, 0x6F, 0x67, 0x6F, 0x75, 0x74], by decide +kernel⟩,
   ⟨[0x73, 0x79, 0x73, 0x6C, 0x6F, 0x67], [], openMon stopState [0x73, 0x79, 0x73, 0x6C, 0x6F, 0x67], by decide +kernel⟩,
   ⟨[0x61, 0x63, 0x74, 0x69, 0x76, 0x61, 0x74, 0x65], [], openMon stopState [0x61, 0x63, 0x74, 0x69, 0x76, 0x61, 0x74, 0x65], by decide +kernel⟩,
   ⟨[0x6F, 0x75, 0x74], [], monOf stopState [0x6F, 0x75, 0x74], by decide +kernel⟩,
   ⟨[0x62, 0x75, 0x73, 0x74, 0x65, 0x73, 0x74], [], monOf stopState [0x62, 0x75, 0x73, 0x74, 0x65, 0x73, 0x74], by decide +kernel⟩,
   ⟨[0x69, 0x6E, 0x6A, 0x65, 0x63, 0x74], [], monOf stopState [0x69, 0x6E, 0x6A, 0x65, 0x63, 0x74], by decide +kernel⟩⟩

theorem witness_LogicSupplyExcursions :
    (∃ (mv : Nat) (s : State), s.ctl.on = true ∧ (mv < 16800 ∧ s.supply.cut = none)) ∧
    (∃ (mv : Nat) (s : State), s.ctl.on = true ∧ 30200 < mv) ∧
    (∃ (mv : Nat) (s : State), s.ctl.on = true ∧ (16800 ≤ mv ∧ mv < 29800 ∨ 16800 ≤ mv ∧ mv ≤ 30200 ∧
     s.supply.overTold = none)) ∧
    (∃ (mv : Nat) (s : State), s.ctl.on = true ∧ (29800 ≤ mv ∧ mv ≤ 30200 ∧ s.supply.overTold.isSome = true)) ∧
    (∃ (t : Nat) (f : Nat) (s : State), s.ctl.on = true ∧ (s.supply.lowFrom = some f ∧ s.supply.lowTold = false ∧
     s.supply.cut = none) ∧ f + 100 * ms ≤ t ∧ s.log.limits = []) ∧
    (∃ (t : Nat) (f : Nat) (s : State), s.ctl.on = true ∧ (s.supply.overFrom = some f ∧ s.supply.overTold = none) ∧
     f + sec ≤ t) ∧
    (∃ (t : Nat) (f n : Nat) (s : State), s.ctl.on = true ∧ (s.supply.overFrom = some f ∧ s.supply.overTold = some n
     ∧ 30200 < s.supply.volt) ∧ n + 60 * sec ≤ t) :=
  ⟨⟨16799, runState, by decide +kernel⟩,
   ⟨30201, runState, by decide +kernel⟩,
   ⟨29799, supplyOf { overFrom := some 0, overTold := some 5, lowTold := true }, by decide +kernel⟩,
   ⟨29800, supplyOf { overFrom := some 0, overTold := some 5 }, by decide +kernel⟩,
   ⟨100000000, 0, supplyOf { lowFrom := some 0 }, by decide +kernel⟩,
   ⟨1000000000, 0, supplyOf { overFrom := some 0, overMax := 31000 }, by decide +kernel⟩,
   ⟨61000000000, 0, 1000000000, supplyOf { overFrom := some 0, overMax := 31000, overTold := some 1000000000, volt := 31000 }, by decide +kernel⟩⟩

theorem witness_HoldupAndPowerDown :
    (∃ (mv : Nat) (s : State), s.ctl.on = true ∧ ((mv < 14400 ∨ 36000 < mv) ∧ s.supply.cut = none ∧ s.supply.checked
     = true)) ∧
    (∃ (mv f low : Nat) (s : State), s.ctl.on = true ∧ (14400 ≤ mv ∧ mv ≤ 36000 ∧ s.supply.cut = some (f, low))) ∧
    (∃ (s : State), s.ctl.on = true ∧ (s.supply.cut = none ∧ s.supply.checked = true)) ∧
    (∃ (s : State), s.ctl.on = true ∧ s.supply.cut.isSome = true) ∧
    (∃ (t : Nat) (o : Nat) (s : State), (s.ctl.on = false ∧ s.ctl.offAt = some o) ∧ (o + 100 * ms ≤ t ∧ 16800 <
     s.supply.volt)) ∧
    (∃ (left right : Int) (s : State), s.ctl.on = true ∧ (500 < left ∧ left < 800 ∧ -240 ≤ right ∧ right < 800) ∧
     s.supply.railsOver = false) ∧
    (∃ (left right : Int) (s : State), s.ctl.on = true ∧ (-240 ≤ left ∧ left ≤ 500 ∧ 500 < right ∧ right < 800) ∧
     s.supply.railsOver = false) ∧
    (∃ (left right : Int) (s : State), s.ctl.on = true ∧ (s.supply.railsOver = true ∨ left ≤ 500 ∧ right ≤ 500)) ∧
    (∃ (t : Nat) (ax : Nat) (s : State), ((s.advance t).tachOn = true ∧ (ax = 1 ∨ ax = 2) ∧ s.supply.tach ax = none)
     ∧ s.log.limits = []) ∧
    (∃ (t : Nat) (ax : Nat) (o : Nat) (s : State), ((ax = 1 ∨ ax = 2) ∧ s.supply.tach ax = some o) ∧ o + sec ≤ t) :=
  ⟨⟨14399, supplyOf { checked := true, full := true, store := 45000 }, by decide +kernel⟩,
   ⟨24000, 0, 9000, supplyOf { cut := some (0, 9000) }, by decide +kernel⟩,
   ⟨supplyOf { checked := true }, by decide +kernel⟩,
   ⟨supplyOf { cut := some (0, 9000) }, by decide +kernel⟩,
   ⟨100000000, 0, { State.reset with ctl := { State.reset.ctl with offAt := some 0 }, supply := { volt := 24000 } }, by decide +kernel⟩,
   ⟨501, -220, runState, by decide +kernel⟩,
   ⟨-220, 501, runState, by decide +kernel⟩,
   ⟨480, 479, supplyOf { railsOver := true }, by decide +kernel⟩,
   ⟨0, 2, countingState, by decide +kernel⟩,
   ⟨1000000000, 2, 0, supplyOf { tach2 := some 0 }, by decide +kernel⟩⟩

theorem witness_StepRunsTheFrontCommand :
    ∃ (s : State), s.pending = [] :=
  ⟨runState, by decide +kernel⟩

theorem witness_CommandsKeepTheFrame :
    ∃ (c : Instr) (s s' : State), exec c s = .next s' :=
  ⟨.monHelp 0, runState, _, rfl⟩

theorem witness_StepKeepsCanonicalForm :
    ∃ (s s' : State), canonical s ∧ step s = .next s' :=
  ⟨State.reset, State.reset.advance 4, ⟨by decide, fun m => by cases m <;> decide⟩, rfl⟩

theorem witness_ModesAreEnteredOnlyFrom :
    ∃ (c : Instr) (s s' : State), exec c s = .next s' ∧ s'.ctl.mode ≠ s.ctl.mode :=
  ⟨.stop 0 ⟨true, true, false, false⟩, runState, nextOf (.stop 0 ⟨true, true, false, false⟩) runState, rfl, by decide +kernel⟩

theorem witness_SafeIsLeftOnlyByPowerOrButton :
    ∃ (c : Instr) (s s' : State), s.ctl.mode = .safe ∧ leavesSafe c = false ∧ exec c s = .next s' :=
  ⟨.stop 0 ⟨true, true, false, false⟩, upIn .safe, nextOf (.stop 0 ⟨true, true, false, false⟩) (upIn .safe), rfl, rfl, rfl⟩

theorem witness_RefusedForces :
    (∃ (line : List Byte) (rest : List (List Byte)) (w y : List Byte) (i : Nat) (v : Int) (st : Nat) (s : State),
     s.mon.waiting = line :: rest ∧ (s.monOpen = true ∧ s.instants = true) ∧ lineCmd line = some .force ∧ ((wordsOf
     line).drop 1 = [w, y] ∧ numberOf w = some i ∧ intOf y = some v) ∧ s.mon.session.isSome = true ∧ (s.ctl.mode =
     .stop ∨ s.ctl.mode = .run ∨ s.ctl.mode = .hold) ∧ (s.app.valueStatus i v = st ∧ st ≠ 0)) ∧
    (∃ (line : List Byte) (rest : List (List Byte)) (w y : List Byte) (i : Nat) (v : Int) (s : State), s.mon.waiting
     = line :: rest ∧ (s.monOpen = true ∧ s.instants = true) ∧ lineCmd line = some .force ∧ ((wordsOf line).drop 1 =
     [w, y] ∧ numberOf w = some i ∧ intOf y = some v) ∧ s.mon.session.isSome = true ∧ (s.ctl.mode = .stop ∨
     s.ctl.mode = .run ∨ s.ctl.mode = .hold) ∧ (s.app.valueStatus i v = 0 ∧ s.app.forced i = false ∧ 256 ≤
     s.app.forces.length)) :=
  ⟨⟨[0x66, 0x6F, 0x72, 0x63, 0x65, 0x20, 0x39, 0x20, 0x2D, 0x35], [], [0x39], [0x2D, 0x35], 9, -5, 2, monOf symbolState [0x66, 0x6F, 0x72, 0x63, 0x65, 0x20, 0x39, 0x20, 0x2D, 0x35], by decide +kernel⟩,
   ⟨[0x66, 0x6F, 0x72, 0x63, 0x65, 0x20, 0x33, 0x20, 0x2D, 0x35], [], [0x33], [0x2D, 0x35], 3, -5, monOf { symbolState with app := { symbolState.app with forces := List.replicate 256 (4, 0) } } [0x66, 0x6F, 0x72, 0x63, 0x65, 0x20, 0x33, 0x20, 0x2D, 0x35], rfl, by decide +kernel, by decide +kernel, by decide +kernel, by decide +kernel, by decide +kernel, by decide +kernel, by show (List.replicate 256 ((4 : Nat), (0 : Int))).any (fun f => f.1 == 3) = false; rw [List.any_replicate]; rfl, Nat.le_of_eq List.length_replicate.symm⟩⟩

theorem witness_PartialWrites :
    (∃ (m : Mast) (tr : Triad) (addr : Nat) (bytes : List Byte) (found : MemFinding) (s : State), s.triadRuns m =
     true ∧ (regionOf addr = .dram ∨ regionOf addr = .sram) ∧ (bytes ≠ [] ∧ bytes.length < 8) ∧ wordAddr addr =
     wordAddr (addr + bytes.length - 1) ∧ (reservedArea addr = false ∧ reservedArea (addr + bytes.length - 1) =
     false) ∧ (tr = .c → s.fenced addr = false) ∧ checkWord (s.mast m).mem addr found = .good) ∧
    (∃ (m : Mast) (tr : Triad) (addr : Nat) (bytes : List Byte) (found : MemFinding) (bit : Nat) (s : State),
     s.triadRuns m = true ∧ (regionOf addr = .dram ∨ regionOf addr = .sram) ∧ (bytes ≠ [] ∧ bytes.length < 8) ∧
     wordAddr addr = wordAddr (addr + bytes.length - 1) ∧ (reservedArea addr = false ∧ reservedArea (addr +
     bytes.length - 1) = false) ∧ (tr = .c → s.fenced addr = false) ∧ checkWord (s.mast m).mem addr found = .fixed
     bit) ∧
    (∃ (m : Mast) (tr : Triad) (addr : Nat) (bytes : List Byte) (found : MemFinding) (s : State), s.triadRuns m =
     true ∧ (regionOf addr = .dram ∨ regionOf addr = .sram) ∧ (bytes ≠ [] ∧ bytes.length < 8) ∧ wordAddr addr =
     wordAddr (addr + bytes.length - 1) ∧ (reservedArea addr = false ∧ reservedArea (addr + bytes.length - 1) =
     false) ∧ (tr = .c → s.fenced addr = false) ∧ checkWord (s.mast m).mem addr found = .lost) :=
  ⟨⟨.a, .c, 0x7FFFFFF9, [1, 2, 3, 4, 5, 6, 7], .clean, runState, by decide +kernel⟩,
   ⟨.a, .c, 0x7FFFFFF9, [1, 2, 3, 4, 5, 6, 7], .clean, 64, { runState with masts := runState.masts.set .a { mastOn with mem := mastOn.mem.setErr 0x7FFFFFF8 [64] } }, by decide +kernel⟩,
   ⟨.a, .c, 0x7FFFFFF9, [1, 2, 3, 4, 5, 6, 7], .wide, runState, by decide +kernel⟩⟩

theorem witness_FailedResync :
    (∃ (m : Mast) (tr : Triad) (r : Resync) (s : State), s.triadRuns m = true ∧ (((s.mast m).triad tr).resync = some
     r ∧ r.tested = false) ∧ (((s.mast m).triad tr).starts.length < s.getF .agreed fTdCtrlResyncLimit ∧ ((s.mast
     m).triad tr).fails = [])) ∧
    (∃ (m : Mast) (tr : Triad) (r : Resync) (s : State), s.triadRuns m = true ∧ (((s.mast m).triad tr).resync = some
     r ∧ r.tested = true) ∧ (((s.mast m).triad tr).starts.length < s.getF .agreed fTdCtrlResyncLimit ∧ ((s.mast
     m).triad tr).fails = [])) ∧
    (∃ (t : Nat) (m : Mast) (tr : Triad) (x y z : BitVec 64) (core b first : Nat) (s : State), s.triadRuns m = true
     ∧ ((s.mast m).triad tr).resync = none ∧ ((s.mast m).triad tr).restored.find? (fun e => e.1 == core && decide
     (max s.now t ≤ e.2.1 + 1000000)) = some (core, b, first) ∧ minorityCores x y z = [core] ∧ (((s.mast m).triad
     tr).starts.length < s.getF .agreed fTdCtrlResyncLimit ∧ ((s.mast m).triad tr).fails = [])) ∧
    (∃ (t : Nat) (m : Mast) (tr : Triad) (r : Resync) (s : State), s.triadRuns m = true ∧ (((s.mast m).triad
     tr).resync = some r ∧ r.tested = false) ∧ ((s.mast m).triad tr).fails.any (fun f => f.1 == r.core && decide
     (max s.now t < f.2 + 1000000000)) = true) :=
  ⟨⟨.a, .c, ⟨0, 0, 0, false⟩, { limitState with masts := limitState.masts.set .a { mastOn with triadC := { resync := some ⟨0, 0, 0, false⟩ } } }, by decide +kernel⟩,
   ⟨.a, .c, ⟨2, 0, 0, true⟩, { limitState with masts := limitState.masts.set .a { mastOn with triadC := { resync := some ⟨2, 0, 0, true⟩ } } }, by decide +kernel⟩,
   ⟨1000000, .a, .c, 1, 0, 0, 0, 0, 0, { limitState with masts := limitState.masts.set .a { mastOn with triadC := { restored := [(1, 5, 5), (0, 0, 0)] } } }, by decide +kernel⟩,
   ⟨0, .a, .c, ⟨0, 0, 0, false⟩, { limitState with masts := limitState.masts.set .a { mastOn with triadC := { resync := some ⟨0, 0, 0, false⟩, fails := [(0, 0)] } } }, by decide +kernel⟩⟩

end

end Sys2Proof.Tests
end

/-!
# The frame of every command

A command's effect is a composition of state operations, each with a `_keeps` lemma. `Framed c` says that `c` answers a
next state with nothing changed outside its row of `touches`; it is proved once a command (`registerWrite_framed`, …) and
collected in `framed`, from which both scope obligations follow.
-/

namespace Sys2Proof.Safety
open Sys2Proof.Machine

theorem Keeps.upd_mon_free {l : List Part} {s0 s : State} (x0 : MonPart) (x1 : Nat)
    (hk : within [Part.mon, .free] l = true) (g : Keeps l s0 s) : Keeps l s0 { s with mon := x0, free := x1 } := by
  have step : Keeps [.mon, .free] s { s with mon := x0, free := x1 } :=
    .of_same
      (fun p hp => by
        cases p
        case mon => exact absurd (by decide) hp
        case free => exact absurd (by decide) hp
        case mem => exact fun _ => rfl
        all_goals rfl)
      (by decide) (by decide) (by decide)
  exact step.next hk g

end Sys2Proof.Safety

namespace Sys2Proof.Machine
open Sys2Proof.Safety

/-- The answer is a next state, and every part of the state outside `l` is as it was in `s`. -/
def Answers (l : List Part) (s : State) (r : Result) : Prop := ∃ u, r = .next u ∧ Keeps l s u

section
variable {l : List Part} {s0 s : State}

theorem Answers.ok {u : State} (h : Keeps l s0 u) : Answers l s0 (ok u) := ⟨u, rfl, h⟩

theorem Answers.ite {c : Prop} [Decidable c] {a b : Result} (ha : Answers l s0 a) (hb : Answers l s0 b) :
    Answers l s0 (if c then a else b) := by split <;> assumption

/-- A command of the service monitor that takes no arguments keeps what its own effect keeps. -/
theorem plainRun_keeps {c : MonCmd} {acc : MonAccess} {modes : List Mode} {f : State → MonOutcome}
    (hf : ∀ u, Keeps l s0 u → Keeps l s0 (f u).1) (hk : within [Part.log, .mon] l = true) (h : Keeps l s0 s) :
    Keeps l s0 (s.monRun c acc modes (plain f)) :=
  State.monRun_keeps _ _ _ _ (fun _ _ g => plain_keeps _ _ hf g) hk h

end

/-- From every state the command answers, and changes nothing outside its row of the table of frames. -/
def Framed (c : Instr) : Prop := ∀ s, Answers (touches c) s (exec c s)

/-- Every command first moves the clock to its local time `t`. -/
theorem Framed.intro {c : Instr} (t : Nat) (hk : within [.now, .free, .time] (touches c) = true)
    (h : ∀ s, Keeps (touches c) s (s.advance t) → Answers (touches c) s (exec c s)) : Framed c :=
  fun s => h s (State.advance_keeps t hk (.refl _ s))

/-- A command that carries out another one (the monitor's do) stays in a frame that contains the other's. -/
theorem Framed.after {c : Instr} {l : List Part} {s0 s : State} (hc : Framed c) (hk : within (touches c) l = true)
    (g : Keeps l s0 s) : Keeps l s0 (after (exec c s) s) := by
  obtain ⟨u, e, h⟩ := hc s
  exact after_keeps e (h.next hk g)

/-! ### Register and memory accesses -/

theorem registerWrite_framed (t m tr addr value) : Framed (.registerWrite t m tr addr value) := by
  refine .intro t rfl fun _ h => ?_
  dsimp only [exec, execRegisterWrite]
  refine .ite (.ok h) ?_
  refine .ite (.ok (State.answer_keeps _ _ _ rfl h)) ?_
  split
  · exact .ok (State.answer_keeps _ _ _ rfl h)
  · exact .ok (State.writeReg_keeps _ _ _ _ _ rfl (State.answer_keeps _ _ _ rfl h))

theorem misalignedRegisterAccess_framed (t m tr addr size) : Framed (.misalignedRegisterAccess t m tr addr size) :=
  .intro t rfl fun _ h => .ite (.ok h) (.ite (.ok (State.answer_keeps _ _ _ rfl h)) (.ok h))

theorem unmappedAccess_framed (t m tr addr) : Framed (.unmappedAccess t m tr addr) :=
  .intro t rfl fun _ h => .ite (.ok (State.answer_keeps _ _ _ rfl h)) (.ok h)

theorem readOnlyRegionWrite_framed (t m tr addr) : Framed (.readOnlyRegionWrite t m tr addr) :=
  .intro t rfl fun _ h => .ite (.ok (State.answer_keeps _ _ _ rfl h)) (.ok h)

theorem reservedAreaWrite_framed (t m tr addr) : Framed (.reservedAreaWrite t m tr addr) :=
  .intro t rfl fun _ h => .ite (.ok (State.answer_keeps _ _ _ rfl h)) (.ok h)

theorem triadCFencedWrite_framed (t m addr) : Framed (.triadCFencedWrite t m addr) :=
  .intro t rfl fun _ h => .ite (.ok (State.answer_keeps _ _ _ rfl (State.raiseM_keeps _ _ _ _ rfl h))) (.ok h)

/-! ### Summary events, action instants and the output commit -/

theorem summaryEventPeriodEnd_framed (t code key) : Framed (.summaryEventPeriodEnd t code key) :=
  .intro t rfl fun _ h => .ok (.fold (fun _ _ g => State.raiseSummary_keeps _ rfl g) (Keeps.upd_log _ rfl h))

theorem actionInstant_framed (t) : Framed (.actionInstant t) := by
  refine .intro t rfl fun _ h => ?_
  dsimp only [exec, execActionInstant]
  split
  · exact .ite (.ok (State.instant_keeps _ _ rfl h)) (.ok h)
  · exact .ok h

theorem commitPoint_framed (t) : Framed (.commitPoint t) := by
  refine .intro t rfl fun s h => ?_
  dsimp -zeta only [exec, execCommitPoint]
  extract_lets s1
  split
  · exact .ok h
  · extract_lets s2 s3 s4
    have h3 : Keeps _ s s3 := State.checkLate_keeps rfl (Keeps.upd_lane _ rfl h)
    have h4 : Keeps _ s s4 := Keeps.upd_lane _ rfl h3
    refine .ite (.ok (Keeps.upd_lane _ rfl h)) (.ite (.ok h3) ?_)
    split
    · exact .ok h4
    · exact .ite (.ok (State.commitTriplex_keeps _ _ rfl (State.showVote_keeps _ _ rfl h4)))
        (.ok (State.commitDuplex_keeps _ _ rfl (State.showVote_keeps _ _ rfl h4)))

theorem outputImageSubmit_framed (t m items done) : Framed (.outputImageSubmit t m items done) := by
  refine .intro t rfl fun s h => ?_
  dsimp -zeta only [exec, execOutputImageSubmit]
  extract_lets s1 _ _ s2 s3
  split
  · exact .ok h
  · extract_lets s4
    have h2 : Keeps _ s s2 := State.maxF_keeps _ _ _ rfl (State.putF_keeps _ _ _ rfl h)
    have h3 : Keeps _ s s3 := .ite (.ite (State.incF_keeps _ _ _ rfl h2) h2) h
    have h4 : Keeps _ s s4 := Keeps.upd_app _ rfl (State.scSend_keeps _ _ rfl h3)
    exact .ite (.ok h) <|
      .ite (.ok (State.overrun_keeps _ _ rfl h)) <|
      .ite (.ok (Keeps.upd_lane _ rfl h4)) (.ok (Keeps.upd_lane _ rfl h4))

theorem cycleEndMark_framed (t m cycle) : Framed (.cycleEndMark t m cycle) := by
  refine .intro t rfl fun _ h => ?_
  dsimp only [exec, execCycleEndMark]
  split
  · exact .ok h
  · exact .ite (.ok h) <|
      .ok <|
      State.settleHold_keeps rfl <|
      State.holdAt_keeps _ _ rfl <|
      State.startRetain_keeps _ _ rfl <|
      .ite (Keeps.upd_lane _ rfl (State.maxF_keeps _ _ _ rfl (Keeps.upd_lane_app _ _ rfl h))) <|
      Keeps.upd_lane_app _ _ rfl h

/-! ### Boot, reset and recovery -/

theorem powerOn_framed (t env) : Framed (.powerOn t env) :=
  .intro t rfl fun _ h => .ite (.ok h) (.ok (State.powerUp_keeps _ rfl h))

theorem bootTokenWindowEnd_framed (t m) : Framed (.bootTokenWindowEnd t m) :=
  .intro t rfl fun _ h =>
    .ite (.ok h) <|
    .ok <|
    Keeps.upd_key _ rfl (.ite (Keeps.setMast _ _ rfl rfl (Keeps.setMast _ _ rfl rfl h)) (Keeps.setMast _ _ rfl rfl h))

theorem autostart_framed (t) : Framed (.autostart t) :=
  .intro t rfl fun _ h => .ok (State.autostart_keeps rfl h)

theorem buttonContactClose_framed (t) : Framed (.buttonContactClose t) :=
  .intro t rfl fun _ h => .ite (.ok h) (.ok (Keeps.upd_panel _ rfl h))

theorem buttonDebounceExpiry_framed (t) : Framed (.buttonDebounceExpiry t) :=
  .intro t rfl fun _ h =>
    .ite (.ok h) <|
    .ite (.ok (State.putF_keeps _ _ _ rfl h)) (.ok (State.holdReset_keeps rfl (State.putF_keeps _ _ _ rfl h)))

theorem buttonContactRelease_framed (t env) : Framed (.buttonContactRelease t env) :=
  .intro t rfl fun _ h =>
    .ite (.ok h) <|
    .ok <|
    State.putF_keeps _ _ _ rfl <|
    Keeps.upd_panel _ rfl (.ite h (.ite (State.moduleReset_keeps _ _ rfl h) (State.stuckReset_keeps _ rfl h)))

theorem buttonStuckExpiry_framed (t env) : Framed (.buttonStuckExpiry t env) :=
  .intro t rfl fun _ h => .ite (.ok h) (.ok (State.stuckReset_keeps _ rfl h))

theorem buttonOpenExpiry_framed (t) : Framed (.buttonOpenExpiry t) :=
  .intro t rfl fun _ h => .ite (.ok h) (.ok (State.putF_keeps _ _ _ rfl h))

theorem recoveryBreakBegin_framed (t) : Framed (.recoveryBreakBegin t) :=
  .intro t rfl fun _ h => .ite (.ok h) (.ok (State.putF_keeps _ _ _ rfl (Keeps.upd_panel _ rfl h)))

theorem recoveryBreakExpiry_framed (t) : Framed (.recoveryBreakExpiry t) := by
  refine .intro t rfl fun _ h => ?_
  dsimp only [exec, execRecoveryBreakExpiry]
  split
  · exact .ok h
  · exact .ite (.ok h) (.ok (State.enterRecovery_keeps rfl (State.endBreak_keeps rfl h)))

theorem recoveryBreakEnd_framed (t) : Framed (.recoveryBreakEnd t) :=
  .intro t rfl fun _ h => .ite (.ok h) (.ok (State.endBreak_keeps rfl h))

/-! ### Mode commands, standby and wake -/

theorem start_framed (t writers) : Framed (.start t writers) := by
  refine .intro t rfl fun _ h => ?_
  dsimp only [exec, execStart]
  split
  · next e => exact .ok (State.mcGate_keeps e rfl h)
  · exact .ok (State.startCommand_keeps _ _ rfl h)

theorem startCold_framed (t writers) : Framed (.startCold t writers) := by
  refine .intro t rfl fun _ h => ?_
  dsimp only [exec, execStartCold]
  split
  · next e => exact .ok (State.mcGate_keeps e rfl h)
  · exact .ok (State.startCommand_keeps _ _ rfl h)

theorem stop_framed (t writers) : Framed (.stop t writers) := by
  refine .intro t rfl fun _ h => ?_
  dsimp only [exec, execStop]
  split
  · next e => exact .ok (State.mcGate_keeps e rfl h)
  · exact .ok (State.enterStop_keeps _ rfl (State.mcDone_keeps _ _ _ rfl h))

theorem hold_framed (t writers) : Framed (.hold t writers) := by
  refine .intro t rfl fun _ h => ?_
  dsimp only [exec, execHold]
  split
  · next e => exact .ok (State.mcGate_keeps e rfl h)
  · exact .ite (.ok (State.mcDone_keeps _ _ _ rfl h)) <|
      .ok <|
      State.settleHold_keeps rfl (Keeps.upd_app _ rfl (State.changeMode_keeps _ rfl (State.mcDone_keeps _ _ _ rfl h)))

theorem resume_framed (t writers) : Framed (.resume t writers) := by
  refine .intro t rfl fun _ h => ?_
  dsimp only [exec, execResume]
  split
  · next e => exact .ok (State.mcGate_keeps e rfl h)
  · exact .ok <|
      State.setRun_keeps _ rfl (Keeps.upd_app _ rfl (State.changeMode_keeps _ rfl (State.mcDone_keeps _ _ _ rfl h)))

theorem standby_framed (t writers) : Framed (.standby t writers) := by
  refine .intro t rfl fun _ h => ?_
  dsimp only [exec, execStandby]
  split
  · next e => exact .ok (State.mcGate_keeps e rfl h)
  · exact .ite (.ok (State.enterStandby_keeps rfl (State.mcDone_keeps _ _ _ rfl h))) <|
      .ok (State.raise_keeps _ _ _ rfl (State.mcDone_keeps _ _ _ rfl h))

theorem service_framed (t writers) : Framed (.service t writers) := by
  refine .intro t rfl fun _ h => ?_
  dsimp only [exec, execService]
  split
  · next e => exact .ok (State.mcGate_keeps e rfl h)
  · exact .ite (.ok (State.mcDone_keeps _ _ _ rfl h)) <|
      .ok (State.changeMode_keeps _ rfl (State.mcDone_keeps _ _ _ rfl h))

theorem leave_framed (t writers) : Framed (.leave t writers) := by
  refine .intro t rfl fun _ h => ?_
  dsimp only [exec, execLeave]
  split
  · next e => exact .ok (State.mcGate_keeps e rfl h)
  · exact .ok (State.enterStop_keeps _ rfl (State.mcDone_keeps _ _ _ rfl h))

theorem reset_framed (t writers env) : Framed (.reset t writers env) := by
  refine .intro t rfl fun _ h => ?_
  dsimp only [exec, execReset]
  split
  · next e => exact .ok (State.mcGate_keeps e rfl h)
  · exact .ok (State.moduleReset_keeps _ _ rfl h)

theorem holdTimeout_framed (t) : Framed (.holdTimeout t) :=
  .intro t rfl fun _ h => .ok (State.holdTimeout_keeps rfl h)

theorem wakeEvent_framed (t src f millis env) : Framed (.wakeEvent t src f millis env) := by
  refine .intro t rfl fun s h => ?_
  dsimp -zeta only [exec, execWakeEvent]
  extract_lets s1 awake others ends s2 s3 s4 passed s5
  have h4 : Keeps _ s s4 :=
    .fold (fun _ _ g => State.bootCheckers_keeps _ _ rfl g) <|
    .fold (fun _ _ g => State.wakeMast_keeps _ rfl g) <|
    State.advance_keeps _ rfl (State.putF_keeps _ _ _ rfl h)
  have h5 : Keeps _ s s5 := .fold (fun _ _ g => State.bootIsolate_keeps _ rfl g) h4
  refine .ite (.ok h) (.ite (.ok (State.wakeFailed_keeps _ _ rfl h4)) ?_)
  split
  · exact .ok (State.wakeFailed_keeps _ _ rfl h4)
  · exact .ok (State.wakeUp_keeps _ _ rfl (State.advance_keeps _ rfl h5))

theorem standbyMastFault_framed (t env) : Framed (.standbyMastFault t env) :=
  .intro t rfl fun _ h => .ite (.ok (State.moduleReset_keeps _ _ rfl h)) (.ok h)

/-! ### Seal, application fetch and mast faults -/

theorem sealPoll_framed (t word) : Framed (.sealPoll t word) := by
  refine .intro t rfl fun s h => ?_
  dsimp -zeta only [exec, execSealPoll]
  extract_lets s1 m due old w _ s2 s3 bad _ s4 s5
  have h3 : Keeps _ s s3 := State.putF_keeps _ _ _ rfl (State.putF_keeps _ _ _ rfl (Keeps.upd_key _ rfl h))
  have h5 : Keeps _ s s5 := State.putF_keeps _ _ _ rfl (Keeps.upd_key _ rfl h3)
  exact .ite (.ok h) <|
    .ite (.ok h3) <|
    .ite (.ok h5) <|
    .ite (.ok (State.raise_keeps _ _ _ rfl h5)) (.ok (State.raise_keeps _ _ _ rfl h5))

theorem appFetchRequest_framed (t) : Framed (.appFetchRequest t) :=
  .intro t rfl fun _ h =>
    .ite (.ok h) <|
    .ite (.ok (State.fetchFails_keeps _ rfl (State.incF_keeps _ _ _ rfl (Keeps.upd_key _ rfl h)))) <|
    .ok <|
    State.putF_keeps _ _ _ rfl (State.slSend_keeps _ _ _ _ _ rfl (State.incF_keeps _ _ _ rfl (Keeps.upd_key _ rfl h)))

theorem appFetchServe_framed (t slot hash) : Framed (.appFetchServe t slot hash) :=
  .intro t rfl fun _ h => .ite (.ok h) (.ok (Keeps.upd_key _ rfl h))

theorem appFetchReceived_framed (t refused whole image bad f env) :
    Framed (.appFetchReceived t refused whole image bad f env) := by
  refine .intro t rfl fun s h => ?_
  dsimp -zeta only [exec, execAppFetchReceived]
  extract_lets s1 s2 reason s3 version told
  have h2 : Keeps _ s s2 := State.writeContainer_keeps _ rfl (State.putF_keeps _ _ _ rfl h)
  have h3 : Keeps _ s s3 := State.readback_keeps _ _ rfl h2
  exact .ite (.ok h) <|
    .ite (.ok (State.fetchFails_keeps _ rfl h)) <|
    .ite (.ok (State.fetchFails_keeps _ rfl h)) <|
    .ite (.ok (State.fetchFails_keeps _ rfl h)) <|
    .ite (.ok (State.fetchFails_keeps _ rfl (State.upAbort_keeps _ rfl h2))) <|
    .ite (.ok (State.fetchFails_keeps _ rfl h3)) <|
    .ok (State.activateWith_keeps _ _ _ _ _ _ (fun _ => State.raise_keeps _ _ _ rfl (.refl _ _)) rfl h3)

theorem mastSupervisionFault_framed (t m f) : Framed (.mastSupervisionFault t m f) := by
  refine .intro t rfl fun _ h => ?_
  dsimp only [exec, execMastSupervisionFault]
  refine .ite (.ok h) ?_
  split
  · exact .ok (State.goSilent_keeps _ _ _ _ rfl (State.putF_keeps _ _ _ rfl h))
  · exact .ok (State.goSilent_keeps _ _ _ _ rfl (State.putF_keeps _ _ _ rfl h))
  · exact .ok <|
      State.goSilent_keeps _ _ _ _ rfl <|
      .ite (State.putF_keeps _ _ _ rfl h) (.ite (State.putF_keeps _ _ _ rfl h) (State.putF_keeps _ _ _ rfl h))
  · exact .ite (.ok (State.dieLimit_keeps _ _ rfl (State.dieReads_keeps _ _ rfl h))) (.ok h)

theorem dieTemperatureCrossing_framed (t m quarters) : Framed (.dieTemperatureCrossing t m quarters) :=
  .intro t rfl fun _ h => .ite (.ok h) (.ok (State.dieLimit_keeps _ _ rfl (State.dieReads_keeps _ _ rfl h)))

/-! ### Triads -/

theorem triadVoteDisagree_framed (t m tr x y z) : Framed (.triadVoteDisagree t m tr x y z) := by
  refine .intro t rfl fun _ h => ?_
  dsimp only [exec, execTriadVoteDisagree]
  refine .ite (.ok h) ?_
  split
  · exact .ite (.ok (State.passOn_keeps _ _ _ rfl h)) (.ok (State.triadFault_keeps _ _ _ _ _ rfl h))
  · split
    · exact .ok (State.passOn_keeps _ _ _ rfl h)
    · exact .ok (State.minority_keeps _ _ _ rfl (State.passOn_keeps _ _ _ rfl h))
    · exact .ok (State.triadFault_keeps _ _ _ _ _ rfl h)

theorem voterHalfMismatch_framed (t m tr bit) : Framed (.voterHalfMismatch t m tr bit) :=
  .intro t rfl fun _ h => .ite (.ok (State.triadFault_keeps _ _ _ _ _ rfl h)) (.ok h)

theorem delayStageParityError_framed (t m tr output core stage group) :
    Framed (.delayStageParityError t m tr output core stage group) :=
  .intro t rfl fun _ h => .ite (.ok (State.triadFault_keeps _ _ _ _ _ rfl h)) (.ok h)

theorem resyncSelftestDone_framed (t m tr pass) : Framed (.resyncSelftestDone t m tr pass) := by
  refine .intro t rfl fun _ h => ?_
  dsimp only [exec, execResyncSelftestDone]
  refine .ite (.ok h) ?_
  split
  · exact .ok h
  · exact .ite (.ok h) <|
      .ite (.ok (State.setTriad_keeps _ _ _ rfl h)) (.ok (State.failResync_keeps _ _ _ _ _ _ rfl h))

theorem resyncPoint_framed (t m tr crcOk) : Framed (.resyncPoint t m tr crcOk) := by
  refine .intro t rfl fun _ h => ?_
  dsimp only [exec, execResyncPoint]
  refine .ite (.ok h) ?_
  split
  · exact .ok h
  · exact .ite (.ok h) <|
      .ite
        (.ok <|
           State.putF_keeps _ _ _ rfl <|
           State.putF_keeps _ _ _ rfl <|
           State.putF_keeps _ _ _ rfl <|
           State.incF_keeps _ _ _ rfl (State.raiseM_keeps _ _ _ _ rfl (State.setTriad_keeps _ _ _ rfl h)))
        (.ok (State.failResync_keeps _ _ _ _ _ _ rfl h))

theorem lockstepTimeout_framed (t m tr) : Framed (.lockstepTimeout t m tr) := by
  refine .intro t rfl fun _ h => ?_
  dsimp only [exec, execLockstepTimeout]
  split
  · exact .ok h
  · exact .ite (.ok (State.triadFault_keeps _ _ _ _ _ rfl h)) (.ok h)

theorem lastWordReceived_framed (t obs snd record) : Framed (.lastWordReceived t obs snd record) :=
  .intro t rfl fun _ h => .ite (.ok (State.raiseM_keeps _ _ _ _ rfl h)) (.ok h)

theorem tdInjectOutputBit_framed (t writers target tr core) : Framed (.tdInjectOutputBit t writers target tr core) :=
  .intro t rfl fun _ h => .ok (State.askInject_keeps _ _ _ _ _ rfl h)

theorem tdInjectInputParity_framed (t writers target tr core) :
    Framed (.tdInjectInputParity t writers target tr core) :=
  .intro t rfl fun _ h => .ok (State.askInject_keeps _ _ _ _ _ rfl h)

theorem tdInjectOutputParity_framed (t writers target tr core) :
    Framed (.tdInjectOutputParity t writers target tr core) :=
  .intro t rfl fun _ h => .ok (State.askInject_keeps _ _ _ _ _ rfl h)

theorem tdInjectVoter_framed (t writers target tr core) : Framed (.tdInjectVoter t writers target tr core) :=
  .intro t rfl fun _ h => .ok (State.askInject_keeps _ _ _ _ _ rfl h)

theorem tdSilclr_framed (t m value) : Framed (.tdSilclr t m value) :=
  .intro t rfl fun _ h => .ite (.ok (State.silClr_keeps _ _ rfl h)) (.ok h)

/-! ### Heartbeats, isolation and joining -/

theorem heartbeatSend_framed (t m) : Framed (.heartbeatSend t m) :=
  .intro t rfl fun _ h => .ite (.ok h) (.ok (Keeps.upd_lane _ rfl h))

theorem hb1BeatReceived_framed (t obs peer bytes) : Framed (.hb1BeatReceived t obs peer bytes) := by
  refine .intro t rfl fun s h => ?_
  dsimp -zeta only [exec, execHb1BeatReceived]
  extract_lets s1 x p view listed y s2 s3 told
  have h2 : Keeps _ s s2 := State.setHb_keeps _ _ _ rfl h
  have h3 : Keeps _ s s3 := .ite (State.raiseM_keeps _ _ _ _ rfl h2) h2
  exact .ite (.ok h) <|
    .ite (.ok (State.requestSilent_keeps _ _ rfl h3)) <|
    .ok (State.judgeDecisions_keeps _ rfl (State.judgeBeats_keeps rfl h3))

theorem hb2Edge_framed (t obs peer) : Framed (.hb2Edge t obs peer) :=
  .intro t rfl fun _ h =>
    .ite (.ok h) <|
    .ok <|
    State.judgeBeats_keeps rfl <|
    .ite (State.raiseM_keeps _ _ _ _ rfl (State.setHb_keeps _ _ _ rfl h)) (State.setHb_keeps _ _ _ rfl h)

theorem heartbeatMissed_framed (t obs peer hb1 hb2) : Framed (.heartbeatMissed t obs peer hb1 hb2) := by
  refine .intro t rfl fun s h => ?_
  dsimp -zeta only [exec, execHeartbeatMissed]
  extract_lets s1 x one two p q s2 s3 s4 told s5 s6
  have h2 : Keeps _ s s2 := .ite (State.incF_keeps _ _ _ rfl h) h
  have h4 : Keeps _ s s4 := State.setHb_keeps _ _ _ rfl (.ite (State.incF_keeps _ _ _ rfl h2) h2)
  have h5 : Keeps _ s s5 := .ite (State.raiseM_keeps _ _ _ _ rfl h4) h4
  have h6 : Keeps _ s s6 := .ite (State.raiseM_keeps _ _ _ _ rfl h5) h5
  exact .ite (.ok h) (.ok (State.judgeBeats_keeps rfl (State.outcastAlone_keeps _ rfl h6)))

theorem isolationPowerCheck_framed (t percent f) : Framed (.isolationPowerCheck t percent f) := by
  refine .intro t rfl fun _ h => ?_
  dsimp only [exec, execIsolationPowerCheck]
  split
  · exact .ok h
  · exact .ite (.ok h) <|
      .ite
        (.ite
           (.ok <|
              State.startJoin_keeps _ _ _ rfl <|
              State.raise_keeps _ _ _ rfl (State.cutPower_keeps _ rfl (Keeps.upd_lane _ rfl h)))
           (.ok <|
              State.noJoin_keeps rfl <|
              State.raise_keeps _ _ _ rfl (State.cutPower_keeps _ rfl (Keeps.upd_lane _ rfl h))))
        (.ok <|
           State.showLane_keeps rfl <|
           State.noJoin_keeps rfl (Keeps.upd_lane _ rfl (State.raise_keeps _ _ _ rfl (Keeps.upd_lane _ rfl h))))

theorem joinReady_framed (t value) : Framed (.joinReady t value) := by
  refine .intro t rfl fun s h => ?_
  dsimp -zeta only [exec, execJoinReady]
  extract_lets s1 s2
  have h2 : Keeps _ s s2 := .ite (State.juryRom_keeps _ rfl h) h
  split
  · exact .ok h2
  · exact .ite (.ok h2) <|
      .ite (.ok (State.joinFail_keeps _ rfl h2)) <|
      .ite (.ok (State.joinFail_keeps _ rfl h2)) <|
      .ok (State.showPhase_keeps _ rfl (State.setJoin_keeps _ rfl h2))

theorem joinReadyTimeout_framed (t) : Framed (.joinReadyTimeout t) := by
  refine .intro t rfl fun _ h => ?_
  dsimp only [exec, execJoinReadyTimeout]
  split
  · exact .ok (State.juryRom_keeps _ rfl h)
  · exact .ite (.ok (State.joinFail_keeps _ rfl (State.juryRom_keeps _ rfl h))) (.ok (State.juryRom_keeps _ rfl h))

theorem joinEntryTimeout_framed (t) : Framed (.joinEntryTimeout t) := by
  refine .intro t rfl fun _ h => ?_
  dsimp only [exec, execJoinEntryTimeout]
  split
  · exact .ok h
  · exact .ite (.ok (State.joinFail_keeps _ rfl h)) (.ok h)

theorem checkpointPageRecord_framed (t survivor r) : Framed (.checkpointPageRecord t survivor r) := by
  refine .intro t rfl fun _ h => ?_
  dsimp only [exec, execCheckpointPageRecord]
  split
  · exact .ok h
  · exact .ite (.ok h) <|
      .ite (.ok (State.retryPage_keeps _ _ _ _ rfl h)) <|
      .ite (.ok (State.pageArrives_keeps _ _ _ rfl h)) <|
      .ite (.ok (State.roundEnds_keeps _ _ rfl h)) (.ite (.ok (State.finalEnds_keeps _ _ _ rfl h)) (.ok h))

/-! ### Transmit units -/

theorem frameDigestDeposit_framed (t m u f) : Framed (.frameDigestDeposit t m u f) :=
  .intro t rfl fun _ h =>
    .ite (.ok h) <|
    .ite (.ok (.fold (fun _ _ g => State.yieldUnit_keeps _ _ rfl g) (State.exitFail_keeps _ _ rfl h))) <|
    .ite (.ok (State.netDeposit_keeps _ _ rfl h)) (.ok (State.depositFrame_keeps _ _ _ rfl h))

theorem frameUnconfirmedTimeout_framed (t u seq port cls) : Framed (.frameUnconfirmedTimeout t u seq port cls) := by
  refine .intro t rfl fun s h => ?_
  dsimp -zeta only [exec, execFrameUnconfirmedTimeout]
  extract_lets s1
  split
  · exact .ok h
  · extract_lets late s2 n _ s3
    have h3 : Keeps _ s s3 :=
      State.setUnit_keeps _ _ rfl (State.incF_keeps _ _ _ rfl (State.dropFrame_keeps _ _ _ _ rfl h))
    exact .ite (.ok h) <|
      .ite (.ok h3) (.ok (State.setUnit_keeps _ _ rfl (State.raiseLimited_keeps _ _ _ _ _ rfl h3)))

theorem frameLaunch_framed (t u port damaged) : Framed (.frameLaunch t u port damaged) := by
  refine .intro t rfl fun _ h => ?_
  dsimp only [exec, execFrameLaunch]
  refine .ite (.ok h) ?_
  split
  · exact .ok (State.lateFrame_keeps _ _ _ rfl h)
  · split
    · exact .ok (State.passFrame_keeps _ _ _ rfl h)
    · exact .ok h

theorem normalHandover_framed (t u) : Framed (.normalHandover t u) := by
  refine .intro t rfl fun _ h => ?_
  dsimp only [exec, execNormalHandover]
  split
  · exact .ite (.ok (State.handOver_keeps _ _ _ rfl h)) (.ok h)
  · exact .ok h

/-! ### Intake -/

theorem itemArrival_framed (t m item) : Framed (.itemArrival t m item) :=
  .intro t rfl fun _ h => .ite (.ok (State.arrive_keeps _ _ rfl h)) (.ok h)

theorem proposalSend_framed (t m close) : Framed (.proposalSend t m close) :=
  .intro t rfl fun _ h => .ite (.ok h) (.ite (.ok h) (.ok (State.setIntake_keeps _ _ rfl h)))

theorem proposalReceived_framed (t obs bytes) : Framed (.proposalReceived t obs bytes) :=
  .intro t rfl fun _ h =>
    .ite (.ok h) (.ite (.ok h) (.ite (.ok (State.setIntake_keeps _ _ rfl h)) (.ok (State.setIntake_keeps _ _ rfl h))))

theorem closeTimeout_framed (t obs peer) : Framed (.closeTimeout t obs peer) := by
  refine .intro t rfl fun _ h => ?_
  dsimp only [exec, execCloseTimeout]
  split
  · exact .ok h
  · exact .ite (.ok h) <|
      .ok <|
      Keeps.upd_intake _ rfl <|
      .fold (fun _ _ g => State.withoutPeer_keeps _ _ _ rfl g) <|
      State.setIntake_keeps _ _ rfl (State.raiseM_keeps _ _ _ _ rfl (State.incF_keeps _ _ _ rfl h))

theorem fillReceived_framed (t m item) : Framed (.fillReceived t m item) := by
  refine .intro t rfl fun _ h => ?_
  dsimp only [exec, execFillReceived]
  split
  · exact .ok h
  · next e =>
      refine .ite (.ok h) ?_
      refine .ite (.ok (State.setIntake_keeps _ _ rfl h)) ?_
      split
      · next e => exact .ok (State.setIntake_keeps _ _ rfl (State.takeBuffer_keeps_of e rfl h))
      · next e => exact .ok <|
          State.incF_keeps _ _ _ rfl (State.setIntake_keeps _ _ rfl (State.takeBuffer_keeps_of e rfl h))

theorem fillDeadline_framed (t m) : Framed (.fillDeadline t m) := by
  refine .intro t rfl fun _ h => ?_
  dsimp only [exec, execFillDeadline]
  split
  · exact .ok h
  · exact .ite
      (.ok (State.requestSilent_keeps _ _ rfl (State.itErr_keeps _ _ _ _ rfl (State.raiseM_keeps _ _ _ _ rfl h))))
      (.ok h)

theorem intakeRelease_framed (t) : Framed (.intakeRelease t) := by
  refine .intro t rfl fun _ h => ?_
  dsimp only [exec, execIntakeRelease]
  split
  · exact .ok h
  · exact .ite (.ok h) (.ok (State.completeRelease_keeps _ _ rfl h))

theorem readAnswerTimeout_framed (t tag) : Framed (.readAnswerTimeout t tag) := by
  refine .intro t rfl fun _ h => ?_
  dsimp only [exec, execReadAnswerTimeout]
  split
  · exact .ok h
  · exact .ok (State.answerAgreed_keeps _ _ _ rfl (Keeps.upd_bridge _ rfl (State.answersDiffer_keeps _ rfl h)))

/-! ### Timebases, position and comparators -/

theorem ptpMessage_framed (t gm port proto body) : Framed (.ptpMessage t gm port proto body) := by
  refine .intro t rfl fun _ h => ?_
  dsimp only [exec, execPtpMessage]
  refine .ite (.ok h) ?_
  split
  · exact .ok (State.announced_keeps _ _ _ rfl h)
  · refine .ite (.ok h) ?_
    split
    · exact .ok (State.measured_keeps _ _ rfl (Keeps.upd_time _ rfl h))
    · exact .ok (Keeps.upd_time _ rfl h)

theorem timeSourceLost_framed (t) : Framed (.timeSourceLost t) :=
  .intro t rfl fun _ h => .ite (.ok (State.sourceLost_keeps rfl h)) (.ok h)

theorem tbOffsetWrite_framed (t writers value) : Framed (.tbOffsetWrite t writers value) :=
  .intro t rfl fun _ h =>
    .ite (.ok h) <|
    .ite (.ok (State.refuseStep_keeps _ rfl h)) (.ok (State.putF_keeps _ _ _ rfl (Keeps.upd_time _ rfl h)))

theorem forcedStep_framed (t writers key) : Framed (.forcedStep t writers key) :=
  .intro t rfl fun _ h =>
    .ite
      (.ite (.ok (State.setServo_keeps _ rfl (State.stepToTarget_keeps _ rfl h))) <|
         .ok (State.stepToTarget_keeps _ rfl h))
      (.ok h)

theorem initialAcquisition_framed (t writers key) : Framed (.initialAcquisition t writers key) :=
  .intro t rfl fun _ h => .ite (.ok (State.stepToTarget_keeps _ rfl h)) (.ok h)

theorem timeBandCheck_framed (t m offset) : Framed (.timeBandCheck t m offset) := by
  refine .intro t rfl fun s h => ?_
  dsimp -zeta only [exec, execTimeBandCheck]
  extract_lets s1 c s2 trim shown s3 out n _ s4 flag s5 s6
  have h3 : Keeps _ s s3 :=
    State.putF_keeps _ _ _ rfl (State.putF_keeps _ _ _ rfl (State.placeStrobe_keeps _ _ rfl h))
  have h4 : Keeps _ s s4 := Keeps.upd_time _ rfl h3
  have h6 : Keeps _ s s6 :=
    State.raise_keeps _ _ _ rfl (State.incF_keeps _ _ _ rfl (State.putF_keeps _ _ _ rfl h4))
  refine .ite (.ok h) ?_
  refine .ite (.ok (.ite (State.putF_keeps _ _ _ rfl h4) h4)) ?_
  refine .ite (.ok (State.requestSilent_keeps _ _ rfl (State.yieldUnits_keeps _ rfl h6))) ?_
  split
  · exact .ok (State.requestSilent_keeps _ _ rfl h6)
  · exact .ok h6

theorem tbTsqpop_framed (t m tr port) : Framed (.tbTsqpop t m tr port) := by
  refine .intro t rfl fun _ h => ?_
  dsimp only [exec, execTbTsqpop]
  refine .ite (.ok h) ?_
  split
  · exact .ok h
  · split
    · exact .ok (State.answer_keeps _ _ _ rfl (State.setReg_keeps _ _ _ rfl h))
    · exact .ok <|
        State.answer_keeps _ _ _ rfl <|
        State.setReg_keeps _ _ _ rfl <|
        State.putF_keeps _ _ _ rfl <|
        State.putF_keeps _ _ _ rfl (State.putF_keeps _ _ _ rfl (State.putF_keeps _ _ _ rfl (Keeps.upd_time _ rfl h)))

theorem tbNownsRead_framed (t m tr) : Framed (.tbNownsRead t m tr) :=
  .intro t rfl fun _ h =>
    .ite (.ok h) <|
    .ok <|
    State.answer_keeps _ _ _ rfl <|
    State.putF_keeps _ _ _ rfl (State.putF_keeps _ _ _ rfl (State.putF_keeps _ _ _ rfl h))

theorem tbPosloRead_framed (t m tr ax) : Framed (.tbPosloRead t m tr ax) :=
  .intro t rfl fun _ h =>
    .ite (.ok h) (.ok (State.answer_keeps _ _ _ rfl (State.putF_keeps _ _ _ rfl (State.putF_keeps _ _ _ rfl h))))

theorem edgeLogQuery_framed (t m value) : Framed (.edgeLogQuery t m value) :=
  .intro t rfl fun _ h =>
    .ite (.ok h) <|
    .ite (.ok (State.putF_keeps _ _ _ rfl h)) <|
    .ok (Keeps.upd_pos _ rfl (State.putF_keeps _ _ _ rfl (State.putF_keeps _ _ _ rfl h)))

theorem tachoEdge_framed (t ax channel order) : Framed (.tachoEdge t ax channel order) :=
  .intro t rfl fun _ h =>
    .ite (.ok h) <|
    .ite (.ok (State.quadratureError_keeps _ rfl (Keeps.upd_pos _ rfl h))) <|
    .ok (State.acceptEdge_keeps _ _ rfl (Keeps.upd_pos _ rfl h))

theorem timeComparatorFire_framed (t m) : Framed (.timeComparatorFire t m) :=
  .intro t rfl fun _ h => .ite (.ok h) (.ok (.fold (fun _ _ g => .ite (State.cmpFire_keeps _ _ _ _ _ rfl g) g) h))

theorem tbCmpcfgWrite_framed (t m n value) : Framed (.tbCmpcfgWrite t m n value) :=
  .intro t rfl fun _ h =>
    .ite (.ok h) <|
    .ite (.ite (.ok (State.cmpRefuse_keeps _ _ _ rfl h)) (.ite (.ok (State.cmpDisarm_keeps _ _ rfl h)) (.ok h))) <|
    .ite (.ok (State.setReg_keeps _ _ _ rfl h)) <|
    .ite (.ok (State.cmpArm_keeps _ _ rfl (State.setReg_keeps _ _ _ rfl h))) <|
    .ok (State.cmpRefuse_keeps _ _ _ rfl (State.setReg_keeps _ _ _ rfl h))

/-! ### Door buses -/

theorem fbSlotTransmit_framed (t b slot damaged) : Framed (.fbSlotTransmit t b slot damaged) := by
  refine .intro t rfl fun s h => ?_
  dsimp -zeta only [exec, execFbSlotTransmit]
  extract_lets s1
  split
  · extract_lets granted own item wrong fails s2
    have h2 : Keeps (touches (.fbSlotTransmit t b slot damaged)) s s2 := by
      unfold s2
      generalize item = found
      cases found with
      | none => exact h
      | some i => exact .fold (fun _ _ g => .ite (State.exitFail_keeps _ _ rfl g) g) h
    have h4 := State.slotChannel_keeps (3 + 2 * b) fails rfl (State.slotChannel_keeps (2 + 2 * b) fails rfl h2)
    exact .ite (.ok h) (.ite (.ok h4) (.ok (State.setBus_keeps _ _ rfl h4)))
  · exact .ok h

theorem fbFrameReceived_framed (t b ch at' ofs f extra own) :
    Framed (.fbFrameReceived t b ch at' ofs f extra own) := by
  refine .intro t rfl fun _ h => ?_
  dsimp only [exec, execFbFrameReceived]
  refine .ite (.ok h) ?_
  split
  · exact .ok h
  · exact .ok h
  · exact .ok (.ite h (State.fbNoise_keeps _ _ _ rfl h))
  · exact .ok (State.incF_keeps _ _ _ rfl h)
  · exact .ok h
  · exact .ite (.ok (State.fbEcho_keeps _ _ _ rfl h)) (.ite (.ok h) (.ok (State.fbHear_keeps _ _ _ _ _ _ _ rfl h)))

theorem fbSlotReport_framed (t b) : Framed (.fbSlotReport t b) :=
  .intro t rfl fun _ h =>
    .ite (.ok h) <|
    .ok <|
    Keeps.upd_intake _ rfl <|
    State.setBus_keeps _ _ rfl <|
    .fold (fun _ _ g => State.setReg_keeps _ _ _ rfl g) <|
    State.incF_keeps _ _ _ rfl (State.countCodes_keeps _ _ _ rfl (State.countCodes_keeps _ _ _ rfl h))

theorem fbIntegrateDone_framed (t b) : Framed (.fbIntegrateDone t b) :=
  .intro t rfl fun _ h => .ite (.ok (State.fbState_keeps _ _ rfl h)) (.ok h)

theorem fbRecoverDone_framed (t b) : Framed (.fbRecoverDone t b) :=
  .intro t rfl fun _ h => .ite (.ok (State.fbState_keeps _ _ rfl h)) (.ok h)

theorem fbTestOn_framed (t b writers) : Framed (.fbTestOn t b writers) :=
  .intro t rfl fun _ h =>
    .ite
      (.ite (.ok (State.fbState_keeps _ _ rfl (State.putTest_keeps _ _ rfl h))) (.ok (State.putTest_keeps _ _ rfl h)))
      (.ok h)

theorem fbTestOff_framed (t b writers) : Framed (.fbTestOff t b writers) :=
  .intro t rfl fun _ h =>
    .ite
      (.ite (.ok (State.fbState_keeps _ _ rfl (State.putTest_keeps _ _ rfl h))) (.ok (State.putTest_keeps _ _ rfl h)))
      (.ok h)

theorem fbNodeLost_framed (t b node) : Framed (.fbNodeLost t b node) :=
  .intro t rfl fun _ h => .ok (State.nodeEvent_keeps _ _ _ rfl h)

theorem fbNodeExcluded_framed (t b node) : Framed (.fbNodeExcluded t b node) :=
  .intro t rfl fun _ h => .ok (State.nodeEvent_keeps _ _ _ rfl h)

theorem fbNodeReadmitted_framed (t b node) : Framed (.fbNodeReadmitted t b node) :=
  .intro t rfl fun _ h => .ok (State.nodeEvent_keeps _ _ _ rfl h)

theorem fbGrantWithdraw_framed (t b slot) : Framed (.fbGrantWithdraw t b slot) :=
  .intro t rfl fun _ h => .ok (State.grantEvent_keeps _ _ _ rfl h)

theorem fbGrantIdleExpiry_framed (t b slot) : Framed (.fbGrantIdleExpiry t b slot) :=
  .intro t rfl fun _ h => .ok (State.grantEvent_keeps _ _ _ rfl h)

theorem fbChannelFault_framed (t b ch) : Framed (.fbChannelFault t b ch) := by
  refine .intro t rfl fun _ h => ?_
  dsimp only [exec, execFbChannelFault]
  split
  · exact .ite (.ok (State.fbJudgeChannel_keeps _ _ _ rfl h)) (.ok h)
  · exact .ok h

/-! ### Field engine -/

theorem commandFrameSend_framed (t m damaged) : Framed (.commandFrameSend t m damaged) := by
  refine .intro t rfl fun s h => ?_
  dsimp -zeta only [exec, execCommandFrameSend]
  extract_lets s1 x sender put cfg next bad cur ai failed s2 _ s3
  have h2 : Keeps _ s s2 := .fold (fun _ _ g => State.exitFail_keeps _ _ rfl g) h
  have h3 : Keeps (touches (.commandFrameSend t m damaged)) s s3 := by
    unfold s3
    split
    · exact .ite h2 (Keeps.upd_sup _ rfl (State.putF_keeps _ _ _ rfl h2))
    · exact h2
  exact .ite (.ok h) <|
    .ite (.ok (Keeps.upd_field _ rfl h)) (.ok (State.putF_keeps _ _ _ rfl (Keeps.upd_field _ rfl h3)))

theorem commandFrameReceived_framed (t m bytes) : Framed (.commandFrameReceived t m bytes) := by
  refine .intro t rfl fun s h => ?_
  dsimp -zeta only [exec, execCommandFrameReceived]
  extract_lets s1 l seq _ y s2
  have h2 : Keeps _ s s2 :=
    State.formEngineTime_keeps rfl (State.tryAdopt_keeps rfl (State.linkHeard_keeps _ _ rfl h))
  refine .ite (.ok h) ?_
  refine .ite (.ok (State.linkReject_keeps _ rfl (Keeps.upd_field _ rfl h))) ?_
  split
  · exact .ite (.ok (State.showField_keeps rfl h2)) (.ok (State.showField_keeps rfl (State.posTake_keeps _ _ rfl h2)))
  · exact .ok (State.showField_keeps rfl h2)

theorem configFrameReceived_framed (t m bytes) : Framed (.configFrameReceived t m bytes) :=
  .intro t rfl fun _ h =>
    .ite (.ok h) <|
    .ite (.ok (State.linkReject_keeps _ rfl (Keeps.upd_field _ rfl h))) <|
    .ok (State.showField_keeps rfl (State.tryAdopt_keeps rfl (State.linkHeard_keeps _ _ rfl h)))

theorem inputFrameSend_framed (t) : Framed (.inputFrameSend t) :=
  .intro t rfl fun _ h => .ite (.ok h) (.ok (Keeps.upd_field _ rfl h))

theorem inputFrameReceived_framed (t m bytes) : Framed (.inputFrameReceived t m bytes) := by
  refine .intro t rfl fun s h => ?_
  dsimp -zeta only [exec, execInputFrameReceived]
  extract_lets s1 n x _ s2 items s3
  have h2 : Keeps _ s s2 := Keeps.upd_field _ rfl h
  have h3 : Keeps _ s s3 := .ite (.fold (fun _ _ g => State.arrive_keeps _ _ rfl g) h2) h2
  exact .ite (.ok h) <|
    .ite (.ok (State.incF_keeps _ _ _ rfl h)) <|
    .ite (.ok (State.requestSilent_keeps _ _ rfl h3)) (.ok h3)

theorem currentLimitExpiry_framed (t o millis) : Framed (.currentLimitExpiry t o millis) :=
  .intro t rfl fun _ h =>
    .ite (.ok h) <|
    .ok (State.outItem_keeps _ rfl (State.raiseLimited_keeps _ _ _ _ _ rfl (State.setOut_keeps _ _ rfl h)))

theorem thermalTrip_framed (t o) : Framed (.thermalTrip t o) :=
  .intro t rfl fun _ h =>
    .ite (.ok h) <|
    .ite
      (.ok <|
         State.outItem_keeps _ rfl <|
         State.raise_keeps _ _ _ rfl (State.setOut_keeps _ _ rfl (State.raise_keeps _ _ _ rfl h)))
      (.ok (State.outItem_keeps _ rfl (State.setOut_keeps _ _ rfl (State.raise_keeps _ _ _ rfl h))))

theorem thermalRetry_framed (t o) : Framed (.thermalRetry t o) := by
  refine .intro t rfl fun _ h => ?_
  dsimp only [exec, execThermalRetry]
  split
  · exact .ite (.ok h) (.ok (State.outItem_keeps _ rfl (State.setOut_keeps _ _ rfl h)))
  · exact .ok h

theorem readbackCheck_framed (t o rb mid branches excess limit) :
    Framed (.readbackCheck t o rb mid branches excess limit) := by
  refine .intro t rfl fun s h => ?_
  dsimp -zeta only [exec, execReadbackCheck]
  extract_lets s1 x testing y s2 s3 z
  have h2 : Keeps _ s s2 := State.setOut_keeps _ _ rfl h
  have h3 : Keeps _ s s3 := .ite (State.diagnose_keeps _ _ _ rfl h2) h2
  exact .ite (.ok h) (.ite (.ok h) (.ite (.ok h3) (.ok (State.outItem_keeps _ rfl h3))))

theorem switchTestStart_framed (t o branch) : Framed (.switchTestStart t o branch) :=
  .intro t rfl fun _ h =>
    .ite (.ok h) <|
    .ite (.ite (.ok (State.beginTest_keeps _ _ _ rfl h)) (.ok h)) <|
    .ite (.ok h) (.ok (State.beginTest_keeps _ _ _ rfl h))

theorem testStepEnd_framed (t mid rb) : Framed (.testStepEnd t mid rb) := by
  refine .intro t rfl fun _ h => ?_
  dsimp only [exec, execTestStepEnd]
  split
  · exact .ok h
  · refine .ite (.ok h) ?_
    refine .ite (.ok (State.discardTest_keeps _ rfl h)) ?_
    split
    · exact .ite (.ok (State.nextStep_keeps _ _ rfl h)) (.ok (State.failTest_keeps _ _ rfl h))
    · exact .ite (.ok (State.nextStep_keeps _ _ rfl h)) (.ok (State.failTest_keeps _ _ rfl (Keeps.upd_free _ rfl h)))
    · exact .ite (.ok (State.endTest_keeps _ _ rfl h)) (.ok (State.failTest_keeps _ _ rfl h))
    · exact .ite (.ok (State.nextStep_keeps _ _ rfl h)) (.ok (State.failTest_keeps _ _ rfl h))
    · exact .ite (.ok (State.failTest_keeps _ _ rfl h)) <|
        .ite (.ok (State.failTest_keeps _ _ rfl h)) (.ok (State.nextStep_keeps _ _ rfl h))
    · exact .ite (.ok (State.endTest_keeps _ _ rfl (State.raise_keeps _ _ _ rfl (State.setOut_keeps _ _ rfl h)))) <|
        .ok (State.endTest_keeps _ _ rfl (State.setOut_keeps _ _ rfl h))
    · exact .ok h

theorem darkPulseStart_framed (t o) : Framed (.darkPulseStart t o) := by
  refine .intro t rfl fun _ h => ?_
  dsimp only [exec, execDarkPulseStart]
  split
  · exact .ite (.ok (State.beginTest_keeps _ _ _ rfl h)) (.ok h)
  · exact .ok h

theorem darkPulseEnd_framed (t current mid) : Framed (.darkPulseEnd t current mid) := by
  refine .intro t rfl fun _ h => ?_
  dsimp only [exec, execDarkPulseEnd]
  split
  · exact .ok h
  · exact .ite (.ok h) <|
      .ite (.ok (State.endTest_keeps _ _ rfl h)) (.ite (.ok (State.failTest_keeps _ _ rfl h)) (.ok h))

theorem linkSilenceDetect_framed (t m rejected) : Framed (.linkSilenceDetect t m rejected) :=
  .intro t rfl fun _ h =>
    .ite (.ok h) (.ite (.ok (State.linkReject_keeps _ rfl h)) (.ok (State.linkSilent_keeps _ rfl h)))

theorem linkSilenceTimeout_framed (t m) : Framed (.linkSilenceTimeout t m) :=
  .intro t rfl fun _ h =>
    .ite (.ok h) <|
    .ok <|
    State.showField_keeps rfl <|
    State.positionTimeouts_keeps rfl (.ite (State.raiseBy_keeps _ _ _ _ rfl (Keeps.upd_field _ rfl h)) h)

theorem mastInputFrameTimeout_framed (t m) : Framed (.mastInputFrameTimeout t m) :=
  .intro t rfl fun _ h => .ite (.ok (State.requestSilent_keeps _ _ rfl h)) (.ok h)

theorem inputFilterAccept_framed (t index level) : Framed (.inputFilterAccept t index level) := by
  refine .intro t rfl fun _ h => ?_
  dsimp only [exec, execInputFilterAccept]
  refine .ite (.ok h) ?_
  split
  · exact .ok (State.pairChange_keeps _ _ _ rfl (State.inputChange_keeps _ _ rfl h))
  · exact .ok (State.inputChange_keeps _ _ rfl h)

theorem inputInvalid_framed (t index) : Framed (.inputInvalid t index) :=
  .intro t rfl fun _ h => .ite (.ok h) (.ok (State.inputInvalid_keeps _ rfl h))

theorem pairDiscrepancyTimeout_framed (t p) : Framed (.pairDiscrepancyTimeout t p) :=
  .intro t rfl fun _ h =>
    .ite (.ok h) <|
    .ite (.ok (State.pairDiscrepancy_keeps _ _ _ rfl h)) <|
    .ite (.ok (State.pairDiscrepancy_keeps _ _ _ rfl h)) (.ok h)

theorem fieldSupplyChange_framed (t n st) : Framed (.fieldSupplyChange t n st) := by
  refine .intro t rfl fun s h => ?_
  dsimp -zeta only [exec, execFieldSupplyChange]
  extract_lets s1 back _ s2 s3 byte0 mark s4 _ s5 used s6
  have h4 : Keeps _ s s4 :=
    State.fieldItem_keeps _ _ _ rfl (State.incF_keeps _ _ _ rfl (Keeps.upd_field _ rfl h))
  have h5 : Keeps _ s s5 := .ite (Keeps.upd_field _ rfl h4) h4
  have h6 : Keeps _ s s6 := .ite (State.raise_keeps _ _ _ rfl h5) h5
  exact .ite (.ok h) (.ite (.ok (.fold (fun _ _ g => State.inputInvalid_keeps _ rfl g) h6)) (.ok h6))

theorem queuedChangeClear_framed (t m n) : Framed (.queuedChangeClear t m n) :=
  .intro t rfl fun _ h => .ite (.ok (Keeps.upd_field _ rfl h)) (.ok h)

/-! ### Speed supervision -/

theorem zeroSpeedDeclare_framed (t) : Framed (.zeroSpeedDeclare t) := by
  refine .intro t rfl fun _ h => ?_
  dsimp only [exec, execZeroSpeedDeclare]
  split
  · exact .ok h
  · exact .ok <|
      .fold (fun _ _ g =>
        .ite
          (State.showForce_keeps _ rfl <|
            State.evalWindows_keeps _ rfl (State.raiseM_keeps _ _ _ _ rfl (State.setSp_keeps _ _ rfl g))) g) h

theorem slipEndExpiry_framed (t) : Framed (.slipEndExpiry t) := by
  refine .intro t rfl fun _ h => ?_
  dsimp only [exec, execSlipEndExpiry]
  split
  · exact .ok h
  · exact .ok (.fold (fun _ _ g => .ite (State.raiseLimited_keeps _ _ _ _ _ rfl (State.setSp_keeps _ _ rfl g)) g) h)

theorem odoSlipExpiry_framed (t) : Framed (.odoSlipExpiry t) := by
  refine .intro t rfl fun _ h => ?_
  dsimp only [exec, execOdoSlipExpiry]
  split
  · exact .ok h
  · refine .ok (.fold (fun _ _ g => ?_) h)
    split
    · exact .ite (State.showForce_keeps _ rfl (State.odoFault_keeps _ _ _ rfl g)) g
    · exact g

theorem speedConfirmExpiry_framed (t n) : Framed (.speedConfirmExpiry t n) := by
  refine .intro t rfl fun _ h => ?_
  dsimp only [exec, execSpeedConfirmExpiry]
  split
  · exact .ok h
  · refine .ok (.fold (fun _ _ g => ?_) h)
    split
    · split
      · exact .ite (State.setSp_keeps _ _ rfl g) <|
          .ite (State.showForce_keeps _ rfl (State.latchSpeed_keeps _ _ _ _ rfl g)) g
      · exact g
    · exact g

theorem limitDelayExpiry_framed (t n) : Framed (.limitDelayExpiry t n) := by
  refine .intro t rfl fun _ h => ?_
  dsimp only [exec, execLimitDelayExpiry]
  split
  · exact .ok h
  · refine .ok (.fold (fun _ _ g => ?_) h)
    split
    · split
      · exact .ite (State.showForce_keeps _ rfl (State.judgeLimit_keeps _ _ _ rfl (State.setSp_keeps _ _ rfl g))) g
      · exact g
    · exact g

theorem spAckWrite_framed (t writers value) : Framed (.spAckWrite t writers value) := by
  refine .intro t rfl fun _ h => ?_
  dsimp only [exec, execSpAckWrite]
  split
  · exact .ok h
  · exact .ite (.ok (State.acknowledge_keeps _ _ rfl h)) (.ok h)

theorem spRefclrWrite_framed (t writers value) : Framed (.spRefclrWrite t writers value) :=
  .intro t rfl fun _ h =>
    .ite (.ok (.fold (fun _ _ g => State.showForce_keeps _ rfl (State.berthLost_keeps _ _ rfl g)) h)) (.ok h)

/-! ### Application -/

theorem appCycleStart_framed (t m) : Framed (.appCycleStart t m) := by
  refine .intro t rfl fun s h => ?_
  dsimp -zeta only [exec, execAppCycleStart]
  extract_lets s1 n waited s2 first _ s3 s4 s5 x
  have h2 : Keeps _ s s2 := .ite (State.incF_keeps _ _ _ rfl h) h
  have h4 : Keeps _ s s4 := State.putF_keeps _ _ _ rfl (State.putF_keeps _ _ _ rfl (Keeps.upd_app _ rfl h2))
  have h5 : Keeps _ s s5 := .ite (State.checkContainers_keeps rfl h4) h4
  exact .ite (.ok h) (.ok (State.writeSymbols_keeps _ _ rfl (State.dueWrites_keeps _ rfl h5)))

theorem cycleLimitExpiry_framed (t m) : Framed (.cycleLimitExpiry t m) := by
  refine .intro t rfl fun _ h => ?_
  dsimp only [exec, execCycleLimitExpiry]
  split
  · exact .ok h
  · exact .ite (.ok h) (.ok (State.overrun_keeps _ _ rfl h))

theorem applicationException_framed (t m code addr) : Framed (.applicationException t m code addr) := by
  refine .intro t rfl fun _ h => ?_
  dsimp only [exec, execApplicationException]
  split
  · exact .ok h
  · exact .ite (.ok h) (.ok (Keeps.upd_app _ rfl h))

theorem onlineChangeRequest_framed (t auth hash items) : Framed (.onlineChangeRequest t auth hash items) :=
  .intro t rfl fun _ h => .ite (.ok h) (.ok (State.changeRequest_keeps _ _ _ rfl h))

theorem retainWriteDone_framed (t m good) : Framed (.retainWriteDone t m good) := by
  refine .intro t rfl fun s h => ?_
  dsimp -zeta only [exec, execRetainWriteDone]
  extract_lets s1 r c
  split
  · exact .ok h
  · extract_lets s2 x _ s3 s4 s5 y _ s6
    have h2 : Keeps _ s s2 := Keeps.setMem _ _ (fun k => Memory.wf_writeBank _ _ _ _ _ (k.2 m)) rfl h
    have h4 : Keeps _ s s4 := Keeps.setMem _ _ (fun k => Memory.wf_writeBytes _ _ _ (k.2 m)) rfl h
    have h6 : Keeps _ s s6 := Keeps.upd_app _ rfl (State.raise_keeps _ _ _ rfl h4)
    exact .ite (.ok h) <|
      .ite
        (.ok <|
          State.showRetain_keeps _ rfl <|
          State.putF_keeps _ _ _ rfl (State.incF_keeps _ _ _ rfl (Keeps.upd_app _ rfl h2)))
        (.ok (.ite (State.showRetain_keeps _ rfl (State.putF_keeps _ _ _ rfl h6)) h6))

theorem scWatchdogExpiry_framed (t index) : Framed (.scWatchdogExpiry t index) := by
  refine .intro t rfl fun _ h => ?_
  dsimp only [exec, execScWatchdogExpiry]
  split
  · exact .ok h
  · exact .ite (.ok (State.raise_keeps _ _ _ rfl (State.incF_keeps _ _ _ rfl (State.setSc_keeps _ _ rfl h)))) (.ok h)

/-! ### Network -/

theorem networkFrameReceived_framed (t p f fcsOk) : Framed (.networkFrameReceived t p f fcsOk) := by
  refine .intro t rfl fun s h => ?_
  dsimp -zeta only [exec, execNetworkFrameReceived]
  extract_lets s1 s2
  have h2 : Keeps _ s s2 := State.darken_keeps _ rfl h
  refine .ite (.ok h) ?_
  refine .ite (.ok (State.recoveryFrame_keeps _ _ _ rfl h)) ?_
  refine .ite (.ok (State.bootFrame_keeps _ _ _ rfl h)) ?_
  refine .ite (.ok h) ?_
  refine .ite (.ok (State.incF_keeps _ _ _ rfl h2)) ?_
  refine .ite (.ok (State.incF_keeps _ _ _ rfl h2)) ?_
  refine .ite (.ok h2) ?_
  split
  · next e => exact .ok (State.prpDiscard_keeps_of e rfl h2)
  · next e =>
      have h3 := State.prpDiscard_keeps_of e rfl h2
      have h4 := State.incF_keeps .agreed (npF fNpRxerrUnsup p) 1 rfl h3
      exact .ite (.ok (.ite (State.icmpReply_keeps _ _ rfl h4) h4)) (.ok (State.netAdmit_keeps _ _ _ rfl h3))

theorem prpEntryForget_framed (t iface mac seq) : Framed (.prpEntryForget t iface mac seq) :=
  .intro t rfl fun _ h => .ite (.ok h) (.ok (Keeps.upd_net _ rfl h))

theorem linkChange_framed (t p speed half energy) : Framed (.linkChange t p speed half energy) := by
  refine .intro t rfl fun s h => ?_
  dsimp -zeta only [exec, execLinkChange]
  extract_lets s1 s2 s3 up v plane was s4
  have h2 : Keeps _ s s2 := State.putF_keeps _ _ _ rfl h
  have h3 : Keeps _ s s3 := .ite (State.incF_keeps _ _ _ rfl h2) h2
  have h4 : Keeps _ s s4 := State.raise_keeps _ _ _ rfl (State.putF_keeps _ _ _ rfl h3)
  exact .ite (.ok h) <|
    .ite (.ok (.ite (State.putF_keeps _ _ _ rfl h) h)) <|
    .ite (.ok h3) <|
    .ite (.ok h4) (.ok (State.raise_keeps _ _ _ rfl h4))

theorem pdPublish_framed (t telegram) : Framed (.pdPublish t telegram) := by
  refine .intro t rfl fun _ h => ?_
  dsimp only [exec, execPdPublish]
  split
  · exact .ok h
  · refine .ite (.ok h) ?_
    split
    · exact .ite (.ok (State.setPd_keeps _ rfl h)) (.ok (State.pdQueue_keeps _ _ _ rfl (State.setPd_keeps _ rfl h)))
    · exact .ok (State.setPd_keeps _ rfl h)

theorem pdPullRequest_framed (t telegram) : Framed (.pdPullRequest t telegram) := by
  refine .intro t rfl fun _ h => ?_
  dsimp only [exec, execPdPullRequest]
  split
  · exact .ok h
  · refine .ite (.ok (State.netReply_keeps _ rfl h)) ?_
    refine .ite (.ok h) ?_
    split
    · exact .ok h
    · exact .ok (State.netReply_keeps _ rfl (State.pdQueue_keeps _ _ _ rfl h))

theorem mdRequest_framed (t comId) : Framed (.mdRequest t comId) := by
  refine .intro t rfl fun _ h => ?_
  dsimp only [exec, execMdRequest]
  split
  · exact .ok h
  · exact .ite (.ok (State.raise_keeps _ _ _ rfl (State.netReply_keeps _ rfl (State.incF_keeps _ _ _ rfl h)))) <|
      .ok (State.showMd_keeps rfl (Keeps.upd_net _ rfl h))

theorem mdReplyTimeout_framed (t session) : Framed (.mdReplyTimeout t session) :=
  .intro t rfl fun _ h => .ok (State.showMd_keeps rfl (Keeps.upd_net _ rfl h))

/-! ### Queues, DMA and caches -/

theorem ringProduce_framed (t m n value) : Framed (.ringProduce t m n value) :=
  .intro t rfl fun _ h =>
    .ite (.ok h) (.ite (.ok (State.putF_keeps _ _ _ rfl h)) (.ok (State.indexError_keeps _ _ _ rfl h)))

theorem ringConsume_framed (t m n value) : Framed (.ringConsume t m n value) :=
  .intro t rfl fun _ h =>
    .ite (.ok h) <|
    .ite
      (.ite (.ok (State.dmaResume_keeps _ _ rfl (State.putF_keeps _ _ _ rfl h))) (.ok (State.putF_keeps _ _ _ rfl h)))
      (.ok (State.indexError_keeps _ _ _ rfl h))

theorem poolReturn_framed (t m index) : Framed (.poolReturn t m index) :=
  .intro t rfl fun _ h =>
    .ite (.ok h) (.ite (.ok (State.freeBuffer_keeps _ _ rfl h)) (.ok (State.raiseLimited_keeps _ _ _ _ _ rfl h)))

theorem transmitDescriptor_framed (t m n outcome) : Framed (.transmitDescriptor t m n outcome) := by
  refine .intro t rfl fun s h => ?_
  dsimp -zeta only [exec, execTransmitDescriptor]
  extract_lets s1 cons a d item r s2 s3 s4 s5
  have h2 : Keeps _ s s2 :=
    .ite (State.raiseLimited_keeps _ _ _ _ _ rfl h) <|
    .ite (.fold (fun _ _ g => State.yieldUnit_keeps _ _ rfl g) (State.exitFail_keeps _ _ rfl h)) <|
    .ite (State.queuedWrite_keeps _ _ rfl h) (.ite (State.slQueue_keeps _ _ rfl h) h)
  have h5 : Keeps _ s s5 :=
    State.interrupt_keeps _ _ _ rfl (State.putF_keeps _ _ _ rfl (State.fabricStore_keeps _ _ _ rfl h2))
  exact .ite (.ok h) (.ok (.ite (State.interrupt_keeps _ _ _ rfl h5) h5))

theorem dmaDoorbell_framed (t m n) : Framed (.dmaDoorbell t m n) :=
  .intro t rfl fun _ h => .ite (.ok (State.dmaDoorbell_keeps _ _ rfl h)) (.ok h)

theorem dmaDescriptorComplete_framed (t m n rack) : Framed (.dmaDescriptorComplete t m n rack) := by
  refine .intro t rfl fun s h => ?_
  dsimp -zeta only [exec, execDmaDescriptorComplete]
  extract_lets s1 c ch len s2 s3 count q s4 ctrl s5 record
  have h4 : Keeps _ s s4 :=
    State.setQueue_keeps _ _ rfl <|
    State.incF_keeps _ _ _ rfl <|
    State.putF_keeps _ _ _ rfl (State.dmaStatus_keeps _ _ _ rfl (State.dmaMove_keeps _ _ _ _ rfl h))
  have h5 : Keeps _ s s5 := .ite (State.dmaInterrupt_keeps _ _ rfl h4) h4
  refine .ite (.ok h) ?_
  split
  · next e => exact .ok (State.dmaGoOn_keeps _ _ rfl (State.dmaRecord_keeps_of e rfl h5))
  · next e => exact .ok (State.dmaRecord_keeps_of e rfl h5)

theorem dmaTargetError_framed (t m n written rack) : Framed (.dmaTargetError t m n written rack) :=
  .intro t rfl fun _ h => .ite (.ok h) (.ok (State.dmaStop_keeps _ _ _ _ rfl (State.dmaMove_keeps _ _ _ _ rfl h)))

theorem dmaStoppedClear_framed (t m n) : Framed (.dmaStoppedClear t m n) :=
  .intro t rfl fun _ h =>
    .ite (.ok (State.setDma_keeps _ _ _ rfl (State.putF_keeps _ _ _ rfl (State.putF_keeps _ _ _ rfl h)))) (.ok h)

theorem cacheClean_framed (t m tr dirty) : Framed (.cacheClean t m tr dirty) :=
  .intro t rfl fun _ h => .ite (.ok (State.cacheStart_keeps _ _ _ _ rfl h)) (.ok h)

theorem cacheInvalidate_framed (t m tr dirty) : Framed (.cacheInvalidate t m tr dirty) :=
  .intro t rfl fun _ h => .ite (.ok (State.cacheStart_keeps _ _ _ _ rfl h)) (.ok h)

theorem cacheCleanInvalidate_framed (t m tr dirty) : Framed (.cacheCleanInvalidate t m tr dirty) :=
  .intro t rfl fun _ h => .ite (.ok (State.cacheStart_keeps _ _ _ _ rfl h)) (.ok h)

theorem cacheOpDone_framed (t m tr) : Framed (.cacheOpDone t m tr) := by
  refine .intro t rfl fun _ h => ?_
  dsimp only [exec, execCacheOpDone]
  split
  · exact .ok h
  · exact .ite (.ok h) <|
      .ite
        (.ok <|
           State.answer_keeps _ _ _ rfl <|
           State.putF_keeps _ _ _ rfl <|
           State.setQueue_keeps _ _ rfl (.fold (fun _ _ g => State.lineStore_keeps _ _ _ _ rfl g) h))
        (.ok <|
           State.putF_keeps _ _ _ rfl <|
           State.setQueue_keeps _ _ rfl (.fold (fun _ _ g => State.lineStore_keeps _ _ _ _ rfl g) h))

theorem barrier_framed (t m tr) : Framed (.barrier t m tr) :=
  .intro t rfl fun _ h =>
    .ite (.ok h) <|
    .ite (.ok (State.answer_keeps _ _ _ rfl (State.setQueue_keeps _ _ rfl h))) (.ok (State.answer_keeps _ _ _ rfl h))

/-! ### Rack bridge -/

theorem rackOutboundAccess_framed (t m tr addr size write value) :
    Framed (.rackOutboundAccess t m tr addr size write value) :=
  .intro t rfl fun _ h =>
    .ite (.ok h) <|
    .ite (.ok (State.answer_keeps _ _ _ rfl (.ite (State.incF_keeps _ _ _ rfl h) h))) <|
    .ok (State.outAccess_keeps _ _ _ _ _ _ _ _ rfl (State.answer_keeps _ _ _ rfl h))

theorem rackTargetRetry_framed (t) : Framed (.rackTargetRetry t) := by
  refine .intro t rfl fun _ h => ?_
  dsimp only [exec, execRackTargetRetry]
  split
  · exact .ok h
  · split
    · exact .ok h
    · exact .ite (.ok (State.outFinish_keeps _ _ _ rfl (State.incF_keeps _ _ _ rfl h))) <|
        .ok (State.incF_keeps _ _ _ rfl h)

theorem rackTransactionComplete_framed (t ack ad parityOk) : Framed (.rackTransactionComplete t ack ad parityOk) := by
  refine .intro t rfl fun _ h => ?_
  dsimp only [exec, execRackTransactionComplete]
  split
  · exact .ok h
  · exact .ite (.ok h) <|
      .ite (.ok (State.outFinish_keeps _ _ _ rfl h)) <|
      .ite (.ok (State.outFinish_keeps _ _ _ rfl h)) (.ok (State.outFinish_keeps _ _ _ rfl h))

theorem rackTransactionTimeout_framed (t) : Framed (.rackTransactionTimeout t) := by
  refine .intro t rfl fun _ h => ?_
  dsimp only [exec, execRackTransactionTimeout]
  split
  · exact .ok h
  · split
    · exact .ok h
    · exact .ite (.ok (State.outFinish_keeps _ _ _ rfl h)) (.ok h)

theorem rackUnconfirmedTimeout_framed (t) : Framed (.rackUnconfirmedTimeout t) := by
  refine .intro t rfl fun _ h => ?_
  dsimp only [exec, execRackUnconfirmedTimeout]
  split
  · exact .ok h
  · exact .ite (.ok (State.outFinish_keeps _ _ _ rfl h)) (.ok h)

theorem bbPwepop_framed (t tr) : Framed (.bbPwepop t tr) := by
  refine .intro t rfl fun _ h => ?_
  dsimp only [exec, execBbPwepop]
  refine .ok (.fold (fun _ _ g => .ite (State.answer_keeps _ _ _ rfl g) g) ?_)
  split
  · exact State.setReg_keeps _ _ _ rfl h
  · exact State.putF_keeps _ _ _ rfl <|
      State.putF_keeps _ _ _ rfl <|
      State.putF_keeps _ _ _ rfl <|
      State.putF_keeps _ _ _ rfl <|
      State.putF_keeps _ _ _ rfl <|
      State.putF_keeps _ _ _ rfl <|
      State.putF_keeps _ _ _ rfl (State.putF_keeps _ _ _ rfl (State.showPwe_keeps rfl (Keeps.upd_bridge _ rfl h)))

theorem rackInboundWrite_framed (t raddr be ad parityOk) : Framed (.rackInboundWrite t raddr be ad parityOk) := by
  refine .intro t rfl fun _ h => ?_
  dsimp only [exec, execRackInboundWrite]
  split
  · exact .ok (State.inAnswer_keeps _ rfl h)
  · exact .ite (.ok (State.inAnswer_keeps _ rfl h)) <|
      .ite (.ok (State.inAnswer_keeps _ rfl h)) <|
      .ite (.ok (State.raiseLimited_keeps _ _ _ _ _ rfl (State.inAnswer_keeps _ rfl h))) <|
      .ok <|
      State.formItem_keeps _ _ _ rfl <|
      Keeps.upd_bridge _ rfl (State.incF_keeps _ _ _ rfl (State.inAnswer_keeps _ rfl h))

theorem rackInboundRead_framed (t raddr) : Framed (.rackInboundRead t raddr) := by
  refine .intro t rfl fun _ h => ?_
  dsimp only [exec, execRackInboundRead]
  split
  · exact .ok (State.inAnswer_keeps _ rfl h)
  · refine .ite (.ok (State.inAnswer_keeps _ rfl h)) ?_
    refine .ite (.ok (State.inAnswer_keeps _ rfl h)) ?_
    split
    · exact .ok (State.incF_keeps _ _ _ rfl (State.inAnswer_keeps _ rfl h))
    · exact .ok (State.raiseLimited_keeps _ _ _ _ _ rfl (State.incF_keeps _ _ _ rfl (State.inAnswer_keeps _ rfl h)))

theorem exposeCommit_framed (t m mask seq) : Framed (.exposeCommit t m mask seq) :=
  .intro t rfl fun _ h => .ite (.ok (Keeps.upd_bridge _ rfl h)) (.ok h)

theorem exposeCopyDone_framed (t) : Framed (.exposeCopyDone t) := by
  refine .intro t rfl fun _ h => ?_
  dsimp only [exec, execExposeCopyDone]
  split
  · exact .ok h
  · exact .ok (State.putF_keeps _ _ _ rfl (Keeps.upd_bridge _ rfl h))

theorem intLinePoll_framed (t levels) : Framed (.intLinePoll t levels) :=
  .intro t rfl fun _ h =>
    .ite (.ok h) <|
    .ite (.ok (Keeps.upd_bridge _ rfl h)) (.ok (State.formItem_keeps _ _ _ rfl (Keeps.upd_bridge _ rfl h)))

theorem sidebandPoll_framed (t results) : Framed (.sidebandPoll t results) :=
  .intro t rfl fun _ h => .ite (.ok h) (.ok (.fold (fun _ _ g => .ite (State.sideband_keeps _ _ _ rfl g) g) h))

/-! ### Stay link -/

theorem stayLinkFrameReceived_framed (t f upstream residence) :
    Framed (.stayLinkFrameReceived t f upstream residence) :=
  .intro t rfl fun _ h =>
    .ite (.ite (.ok (State.slConflict_keeps rfl h)) (.ok h)) <|
    .ite (.ok (State.noteSummary_keeps _ _ _ rfl (State.incF_keeps _ _ _ rfl h))) <|
    .ite (.ite (.ok (State.slConflict_keeps rfl h)) (.ok h)) <|
    .ite (.ok (State.slDeliver_keeps _ _ rfl (State.slForward_keeps _ _ rfl h))) <|
    .ok (State.slForward_keeps _ _ rfl h)

theorem presenceSend_framed (t) : Framed (.presenceSend t) :=
  .intro t rfl fun _ h => .ite (.ok h) (.ok (State.slSend_keeps _ _ _ _ _ rfl (.ite (State.slElect_keeps rfl h) h)))

theorem memberTimeout_framed (t slot) : Framed (.memberTimeout t slot) := by
  refine .intro t rfl fun s h => ?_
  dsimp -zeta only [exec, execMemberTimeout]
  extract_lets s1 _ s2 s3 s4 s5
  split
  · exact .ok h
  · have h4 : Keeps _ s s4 := State.raise_keeps _ _ _ rfl (State.showMembers_keeps rfl (Keeps.upd_stay _ rfl h))
    exact .ite (.ok h) (.ite (.ok (State.slElect_keeps rfl (.ite (State.sourceLost_keeps rfl h4) h4))) (.ok h4))

theorem masterTakeover_framed (t slot) : Framed (.masterTakeover t slot) := by
  refine .intro t rfl fun _ h => ?_
  dsimp only [exec, execMasterTakeover]
  refine .ite (.ok h) ?_
  refine .ite (.ite (.ok (State.slSetMaster_keeps _ rfl h)) (.ok h)) ?_
  split
  · exact .ite (.ok (State.slSetMaster_keeps _ rfl h)) (.ok h)
  · exact .ok h

theorem ringWrap_framed (t neighbour lost) : Framed (.ringWrap t neighbour lost) :=
  .intro t rfl fun _ h =>
    .ite (.ok h) <|
    .ok <|
    State.raise_keeps _ _ _ rfl <|
    State.incF_keeps _ _ _ rfl (State.incF_keeps _ _ _ rfl (State.putF_keeps _ _ _ rfl (Keeps.upd_stay _ rfl h)))

theorem ringUnwrap_framed (t neighbour returned) : Framed (.ringUnwrap t neighbour returned) :=
  .intro t rfl fun _ h =>
    .ite (.ok h) (.ok (State.raise_keeps _ _ _ rfl (State.putF_keeps _ _ _ rfl (Keeps.upd_stay _ rfl h))))

theorem linkdelayExchange_framed (t up down) : Framed (.linkdelayExchange t up down) :=
  .intro t rfl fun _ h => .ite (.ok h) (.ok (State.putF_keeps _ _ _ rfl (State.putF_keeps _ _ _ rfl h)))

theorem sharedBlockSend_framed (t) : Framed (.sharedBlockSend t) := by
  refine .intro t rfl fun _ h => ?_
  dsimp only [exec, execSharedBlockSend]
  split
  · exact .ok h
  · exact .ite (.ok h) (.ok (.fold (fun _ _ g => State.slSend_keeps _ _ _ _ _ rfl g) (Keeps.upd_stay _ rfl h)))

/-! ### Memory faults -/

theorem memoryRead_framed (t m src place addr found) : Framed (.memoryRead t m src place addr found) :=
  .intro t rfl fun _ h =>
    .ite (.ok h) <|
    .ite (.ok (State.registerRead_keeps _ _ _ rfl h)) (.ite (.ok (State.memoryRead_keeps _ _ _ _ _ rfl h)) (.ok h))

theorem memoryPartialWrite_framed (t m tr addr bytes found) :
    Framed (.memoryPartialWrite t m tr addr bytes found) := by
  refine .intro t rfl fun _ h => ?_
  dsimp only [exec, execMemoryPartialWrite]
  refine .ite (.ok h) ?_
  refine .ite (.ok h) ?_
  refine .ite (.ok (State.answer_keeps _ _ _ rfl h)) ?_
  refine .ite (.ok (State.answer_keeps _ _ _ rfl (State.raiseM_keeps _ _ _ _ rfl h))) ?_
  split
  · split
    · exact .ok (State.uncorrectable_keeps _ _ _ _ rfl h)
    · exact .ok <|
        State.answer_keeps _ _ _ rfl <|
        State.markDirty_keeps _ rfl (State.store_keeps _ _ _ rfl (State.corrected_keeps _ _ _ _ _ rfl h))
    · exact .ok (State.answer_keeps _ _ _ rfl (State.markDirty_keeps _ rfl (State.store_keeps _ _ _ rfl h)))
  · split
    · exact .ok (State.uncorrectable_keeps _ _ _ _ rfl h)
    · exact .ok <|
        State.answer_keeps _ _ _ rfl <|
        State.markDirty_keeps _ rfl (State.store_keeps _ _ _ rfl (State.corrected_keeps _ _ _ _ _ rfl h))
    · exact .ok (State.answer_keeps _ _ _ rfl (State.markDirty_keeps _ rfl (State.store_keeps _ _ _ rfl h)))
  · exact .ok (State.answer_keeps _ _ _ rfl (State.markDirty_keeps _ rfl (State.store_keeps _ _ _ rfl h)))
  · exact .ok (State.answer_keeps _ _ _ rfl h)
  · exact .ok (State.answer_keeps _ _ _ rfl h)
  · exact .ok (State.answer_keeps _ _ _ rfl h)
  · exact .ite (.ok (State.answer_keeps _ _ _ rfl h)) (.ok (State.answer_keeps _ _ _ rfl h))
  · exact .ite (.ok h) (.ok (State.answer_keeps _ _ _ rfl h))
  · exact .ok h

theorem scrubWord_framed (t m dram found) : Framed (.scrubWord t m dram found) := by
  refine .intro t rfl fun _ h => ?_
  dsimp only [exec, execScrubWord]
  refine .ite (.ok h) ?_
  split
  · exact .ok (State.scrubNext_keeps _ _ _ rfl h)
  · exact .ok (State.scrubNext_keeps _ _ _ rfl (State.corrected_keeps _ _ _ _ _ rfl h))
  · exact .ok (State.uncorrectable_keeps _ _ _ _ rfl h)

theorem miInjectSingle_framed (t writers target dram bit) : Framed (.miInjectSingle t writers target dram bit) :=
  .intro t rfl fun _ h => .ite (.ok (State.putF_keeps _ _ _ rfl h)) (.ok (State.memInject_keeps _ _ _ _ _ rfl h))

theorem miInjectDouble_framed (t writers target dram bit) : Framed (.miInjectDouble t writers target dram bit) :=
  .intro t rfl fun _ h => .ite (.ok (State.putF_keeps _ _ _ rfl h)) (.ok (State.memInject_keeps _ _ _ _ _ rfl h))

/-! ### Update block -/

theorem begin_framed (t writers) : Framed (.begin t writers) := by
  refine .intro t rfl fun _ h => ?_
  dsimp only [exec, execBegin]
  split
  · next e => exact .ok (State.upGate_keeps e rfl h)
  · exact .ok (State.upBegin_keeps _ rfl h)

theorem write_framed (t writers) : Framed (.write t writers) := by
  refine .intro t rfl fun _ h => ?_
  dsimp only [exec, execWrite]
  split
  · next e => exact .ok (State.upGate_keeps e rfl h)
  · split
    · exact .ok (State.upWrite_keeps _ _ _ rfl h)
    · exact .ok h

theorem updateReadback_framed (t bad differ) : Framed (.updateReadback t bad differ) :=
  .intro t rfl fun _ h => .ok (State.readback_keeps _ _ rfl h)

theorem abort_framed (t writers) : Framed (.abort t writers) := by
  refine .intro t rfl fun _ h => ?_
  dsimp only [exec, execAbort]
  split
  · next e => exact .ok (State.upGate_keeps e rfl h)
  · exact .ite (.ok (State.upDone_keeps _ _ _ rfl (State.upAbort_keeps _ rfl h))) <|
      .ok (State.upDone_keeps _ _ _ rfl h)

theorem updateIdleTimeout_framed (t) : Framed (.updateIdleTimeout t) := by
  refine .intro t rfl fun _ h => ?_
  dsimp only [exec, execUpdateIdleTimeout]
  split
  · exact .ite (.ok (State.upAbort_keeps _ rfl h)) (.ok h)
  · exact .ok h

theorem activate_framed (t writers f lost env) : Framed (.activate t writers f lost env) := by
  refine .intro t rfl fun _ h => ?_
  dsimp only [exec, execActivate]
  split
  · next e => exact .ok (State.upGate_keeps e rfl h)
  · exact .ok (State.activate_keeps _ _ _ _ _ rfl h)

theorem activateNoJury_framed (t writers env) : Framed (.activateNoJury t writers env) := by
  refine .intro t rfl fun _ h => ?_
  dsimp only [exec, execActivateNoJury]
  split
  · next e => exact .ok (State.upGate_keeps e rfl h)
  · exact .ok (State.activate_keeps _ _ _ _ _ rfl h)

theorem confirm_framed (t writers) : Framed (.confirm t writers) := by
  refine .intro t rfl fun _ h => ?_
  dsimp only [exec, execConfirm]
  split
  · next e => exact .ok (State.upGate_keeps e rfl h)
  · exact .ite (.ok (State.upDone_keeps _ _ _ rfl h)) <|
      .ok <|
      State.upDone_keeps _ _ _ rfl <|
      State.putF_keeps _ _ _ rfl <|
      State.showRecord_keeps rfl (State.raise_keeps _ _ _ rfl (State.changeRecord_keeps _ _ rfl h))

theorem confirmWindowExpiry_framed (t env) : Framed (.confirmWindowExpiry t env) :=
  .intro t rfl fun _ h =>
    .ite (.ok h) <|
    .ok (State.moduleReset_keeps _ _ rfl (State.raise_keeps _ _ _ rfl (State.changeRecord_keeps _ _ rfl h)))

theorem revoke_framed (t writers) : Framed (.revoke t writers) := by
  refine .intro t rfl fun _ h => ?_
  dsimp only [exec, execRevoke]
  split
  · next e => exact .ok (State.upGate_keeps e rfl h)
  · exact .ite (.ok (State.upDone_keeps _ _ _ rfl h)) <|
      .ite (.ok (State.upDone_keeps _ _ _ rfl h)) <|
      .ok <|
      State.upDone_keeps _ _ _ rfl (State.raise_keeps _ _ _ rfl (State.showKeys_keeps rfl (Keeps.upd_upd _ rfl h)))

theorem keyprog_framed (t writers) : Framed (.keyprog t writers) := by
  refine .intro t rfl fun _ h => ?_
  dsimp only [exec, execKeyprog]
  split
  · next e => exact .ok (State.upGate_keeps e rfl h)
  · split
    · exact .ok (State.keyProgram_keeps _ _ rfl h)
    · exact .ok h

theorem settings_framed (t writers) : Framed (.settings t writers) := by
  refine .intro t rfl fun _ h => ?_
  dsimp only [exec, execSettings]
  split
  · next e => exact .ok (State.upGate_keeps e rfl h)
  · exact .ok (State.upDone_keeps _ _ _ rfl (State.writeStore_keeps _ rfl h))

theorem recoveryDownload_framed (t via fw app bad f env) : Framed (.recoveryDownload t via fw app bad f env) := by
  refine .intro t rfl fun s h => ?_
  dsimp -zeta only [exec, execRecoveryDownload]
  extract_lets s1 active verified slot s2 good x s3
  have h2 : Keeps _ s s2 :=
    .fold (fun _ _ g =>
      .ite (State.keepContainer_keeps _ _ _ _ rfl g)
        (State.keepContainer_keeps _ _ _ _ rfl (State.keepContainer_keeps _ _ _ _ rfl g))) h
  have hx : Keeps (touches (.recoveryDownload t via fw app bad f env)) s x.1 := by
    unfold x
    split
    · exact State.juryTurn_keeps _ _ rfl h2
    · exact h2
  have h3 : Keeps _ s s3 := .ite (State.trialRecords_keeps _ rfl hx) hx
  exact .ite (.ok h) <|
    .ite (.ok h2) (.ok (State.raise_keeps _ _ _ rfl (State.moduleReset_keeps _ _ rfl h3)))

/-! ### Log export -/

theorem syslogExport_framed (t) : Framed (.syslogExport t) := by
  refine .intro t rfl fun s h => ?_
  dsimp -zeta only [exec, execSyslogExport]
  extract_lets s1 s2
  have h2 : Keeps _ s s2 := State.passOver_keeps rfl (State.refillTokens_keeps rfl h)
  refine .ite (.ok h) ?_
  split
  · exact .ok h2
  · extract_lets s3
    have h3 : Keeps _ s s3 := Keeps.upd_log _ rfl h2
    clear_value s3
    split
    · exact .ok (State.incF_keeps _ _ _ rfl h3)
    · exact .ite (.ok (State.sendEntry_keeps _ _ rfl h3)) <|
        .ite (.ok (State.sendEntry_keeps _ _ rfl h3)) <|
        .ok (State.noteSummary_keeps _ _ _ rfl (State.incF_keeps _ _ _ rfl h3))

/-! ### Service monitor -/

theorem serviceLineReceived_framed (t line) : Framed (.serviceLineReceived t line) := by
  refine .intro t rfl fun s h => ?_
  dsimp -zeta only [exec, execServiceLineReceived]
  extract_lets s1 s2 _ s3
  have h3 : Keeps _ s s3 := Keeps.upd_mon _ rfl (State.monTouch_keeps rfl (State.incF_keeps _ _ _ rfl h))
  refine .ite (.ok h) ?_
  refine .ite (.ok (State.lineRefused_keeps _ _ rfl h3)) ?_
  refine .ite (.ok (State.lineRefused_keeps _ _ rfl h3)) ?_
  split
  · exact .ok h3
  · exact .ok (State.monAnswer_keeps _ rfl h3)
  · exact .ok (Keeps.upd_mon _ rfl h3)

theorem monHelp_framed (t) : Framed (.monHelp t) := by
  refine .intro t rfl fun _ h => ?_
  dsimp only [exec, execMonHelp]
  refine .ok (State.monRun_keeps _ _ _ _ (fun _ _ g => ?_) rfl h)
  split
  · exact g
  · split
    · exact g
    · exact g
  · exact g

theorem monId_framed (t) : Framed (.monId t) :=
  .intro t rfl fun _ h => .ok (plainRun_keeps (fun _ g => g) rfl h)

theorem monStatus_framed (t) : Framed (.monStatus t) :=
  .intro t rfl fun _ h => .ok (plainRun_keeps (fun _ g => g) rfl h)

theorem monLog_framed (t) : Framed (.monLog t) := by
  refine .intro t rfl fun _ h => ?_
  dsimp only [exec, execMonLog]
  refine .ok (State.monRun_keeps _ _ _ _ (fun _ _ g => ?_) rfl h)
  split
  · split
    · exact g
    · exact g
  · exact g

theorem monReg_framed (t) : Framed (.monReg t) := by
  refine .intro t rfl fun _ h => ?_
  dsimp only [exec, execMonReg]
  refine .ok (State.monRun_keeps _ _ _ _ (fun _ _ g => ?_) rfl h)
  split
  · split
    · exact g
    · exact g
  · exact g

theorem monIo_framed (t) : Framed (.monIo t) :=
  .intro t rfl fun _ h => .ok (plainRun_keeps (fun _ g => State.showRange_keeps _ _ rfl g) rfl h)

theorem monBus_framed (t) : Framed (.monBus t) := by
  refine .intro t rfl fun _ h => ?_
  dsimp only [exec, execMonBus]
  refine .ok (State.monRun_keeps _ _ _ _ (fun _ _ g => ?_) rfl h)
  split
  · split
    · exact State.showRange_keeps _ _ rfl g
    · exact g
  · exact g

theorem monNet_framed (t) : Framed (.monNet t) := by
  refine .intro t rfl fun _ h => ?_
  dsimp only [exec, execMonNet]
  refine .ok (State.monRun_keeps _ _ _ _ (fun _ _ g => ?_) rfl h)
  split
  · split
    · exact State.showRange_keeps _ _ rfl g
    · exact g
  · exact g

theorem monTime_framed (t) : Framed (.monTime t) :=
  .intro t rfl fun _ h => .ok (plainRun_keeps (fun _ g => g) rfl h)

theorem monSup_framed (t) : Framed (.monSup t) :=
  .intro t rfl fun _ h => .ok (plainRun_keeps (fun _ g => g) rfl h)

theorem monMem_framed (t) : Framed (.monMem t) :=
  .intro t rfl fun _ h => .ok (plainRun_keeps (fun _ g => g) rfl h)

theorem monKeys_framed (t) : Framed (.monKeys t) :=
  .intro t rfl fun _ h => .ok (plainRun_keeps (fun _ g => g) rfl h)

theorem monAuth_framed (t) : Framed (.monAuth t) := by
  refine .intro t rfl fun _ h => ?_
  dsimp only [exec, execMonAuth]
  refine .ok (State.monRun_keeps _ _ _ _ (fun _ _ g => ?_) rfl h)
  split
  · split
    · exact g
    · split
      · exact g
      · split
        · exact g
        · exact Keeps.upd_mon_free _ _ rfl g
  · exact g

theorem monResp_framed (t) : Framed (.monResp t) := by
  refine .intro t rfl fun _ h => ?_
  dsimp only [exec, execMonResp]
  refine .ok (State.monRun_keeps _ _ _ _ (fun _ _ g => ?_) rfl h)
  split
  · split
    · exact g
    · split
      · exact g
      · split
        · split
          · exact g
          · split
            · exact State.openSession_keeps _ rfl g
            · exact State.authFailed_keeps rfl g
        · exact g
  · exact g

theorem monLogout_framed (t) : Framed (.monLogout t) :=
  .intro t rfl fun _ h => .ok (plainRun_keeps (fun _ g => State.monLogout_keeps rfl g) rfl h)

theorem monStart_framed (t) : Framed (.monStart t) := by
  refine .intro t rfl fun _ h => ?_
  dsimp only [exec, execMonStart]
  refine .ok (State.monRun_keeps _ _ _ _ (fun _ _ g => ?_) rfl h)
  split
  · exact State.mcOutcome_keeps rfl ((start_framed _ _).after rfl g)
  · split
    · exact State.mcOutcome_keeps rfl ((startCold_framed _ _).after rfl g)
    · exact g
  · exact g

theorem monStop_framed (t) : Framed (.monStop t) :=
  .intro t rfl fun _ h =>
    .ok (plainRun_keeps (fun _ g => State.mcOutcome_keeps rfl ((stop_framed _ _).after rfl g)) rfl h)

theorem monHold_framed (t) : Framed (.monHold t) :=
  .intro t rfl fun _ h =>
    .ok (plainRun_keeps (fun _ g => State.mcOutcome_keeps rfl ((hold_framed _ _).after rfl g)) rfl h)

theorem monResume_framed (t) : Framed (.monResume t) :=
  .intro t rfl fun _ h =>
    .ok (plainRun_keeps (fun _ g => State.mcOutcome_keeps rfl ((resume_framed _ _).after rfl g)) rfl h)

theorem monStandby_framed (t) : Framed (.monStandby t) :=
  .intro t rfl fun _ h =>
    .ok (plainRun_keeps (fun _ g => State.mcOutcome_keeps rfl ((standby_framed _ _).after rfl g)) rfl h)

theorem monReset_framed (t env) : Framed (.monReset t env) := by
  refine .intro t rfl fun s h => ?_
  dsimp only [exec, execMonReset]
  split
  · exact .ok h
  · next e =>
      have hm := State.monTake_keeps e rfl h
      refine .ite (.ok (State.monDone_keeps _ _ _ _ rfl hm)) ?_
      refine .ite (.ok (State.monDone_keeps _ _ _ _ rfl hm)) ?_
      split
      · next e =>
          exact .ok (State.monDone_keeps _ _ _ _ rfl (State.mcOutcome_keeps rfl (State.mcGate_keeps e rfl hm)))
      · exact .ok (State.moduleReset_keeps _ _ rfl (State.monDone_keeps _ _ _ _ rfl hm))

theorem monService_framed (t) : Framed (.monService t) :=
  .intro t rfl fun _ h =>
    .ok (plainRun_keeps (fun _ g => State.mcOutcome_keeps rfl ((service_framed _ _).after rfl g)) rfl h)

theorem monLeave_framed (t) : Framed (.monLeave t) :=
  .intro t rfl fun _ h =>
    .ok (plainRun_keeps (fun _ g => State.mcOutcome_keeps rfl ((leave_framed _ _).after rfl g)) rfl h)

theorem monForce_framed (t) : Framed (.monForce t) := by
  refine .intro t rfl fun _ h => ?_
  dsimp only [exec, execMonForce]
  refine .ok (State.monRun_keeps _ _ _ _ (fun _ _ g => ?_) rfl h)
  split
  · split
    · split
      · exact State.forceSymbol_keeps _ _ rfl g
      · exact State.forceSymbol_keeps _ _ rfl g
    · exact g
  · exact g

theorem monUnforce_framed (t) : Framed (.monUnforce t) := by
  refine .intro t rfl fun _ h => ?_
  dsimp only [exec, execMonUnforce]
  refine .ok (State.monRun_keeps _ _ _ _ (fun _ _ g => ?_) rfl h)
  split
  · split
    · exact State.askRelease_keeps none _ rfl g
    · split
      · split
        · exact State.askRelease_keeps (some _) _ rfl g
        · exact g
      · exact g
  · exact g

theorem monSet_framed (t) : Framed (.monSet t) := by
  refine .intro t rfl fun _ h => ?_
  dsimp only [exec, execMonSet]
  refine .ok (State.monRun_keeps _ _ _ _ (fun _ _ g => ?_) rfl h)
  split
  · split
    · exact g
    · split
      · exact State.changeRequest_keeps _ _ _ rfl g
      · exact State.changeRequest_keeps _ _ _ rfl g
  · exact g

theorem monOut_framed (t) : Framed (.monOut t) := by
  refine .intro t rfl fun _ h => ?_
  dsimp only [exec, execMonOut]
  refine .ok (State.monRun_keeps _ _ _ _ (fun _ _ g => ?_) rfl h)
  split
  · split
    · split
      · exact g
      · exact State.putF_keeps _ _ _ rfl (State.putF_keeps _ _ _ rfl g)
    · exact g
  · exact g

theorem monBustest_framed (t) : Framed (.monBustest t) := by
  refine .intro t rfl fun _ h => ?_
  dsimp only [exec, execMonBustest]
  refine .ok (State.monRun_keeps _ _ _ _ (fun _ _ g => ?_) rfl h)
  split
  · split
    · split
      · exact g
      · split
        · exact (fbTestOn_framed _ _ _).after rfl g
        · exact (fbTestOff_framed _ _ _).after rfl g
    · exact g
  · exact g

theorem monInject_framed (t) : Framed (.monInject t) := by
  refine .intro t rfl fun _ h => ?_
  dsimp only [exec, execMonInject]
  refine .ok (State.monRun_keeps _ _ _ _ (fun _ _ g => ?_) rfl h)
  split
  · split
    · exact State.monInjectTriad_keeps _ _ _ _ rfl g
    · exact g
  · split
    · exact State.monInjectMem_keeps _ _ _ _ _ rfl g
    · exact g
  · exact g

theorem monStep_framed (t) : Framed (.monStep t) := by
  refine .intro t rfl fun _ h => ?_
  dsimp only [exec, execMonStep]
  refine .ok (State.monRun_keeps _ _ _ _ (fun _ _ g => ?_) rfl h)
  split
  · split
    · exact g
    · exact (forcedStep_framed _ _ _).after rfl <|
        State.putF_keeps _ _ _ rfl (State.putF_keeps _ _ _ rfl (State.putF_keeps _ _ _ rfl g))
  · exact g

theorem monSilclr_framed (t) : Framed (.monSilclr t) :=
  .intro t rfl fun _ h =>
    .ok (plainRun_keeps (fun _ g => .fold (fun _ _ g => State.silClr_keeps _ _ rfl g) g) rfl h)

theorem monSyslog_framed (t store) : Framed (.monSyslog t store) := by
  refine .intro t rfl fun _ h => ?_
  dsimp only [exec, execMonSyslog]
  refine .ok (State.monRun_keeps _ _ _ _ (fun _ _ g => ?_) rfl h)
  split
  · split
    · exact State.writeStore_keeps _ rfl (State.putF_keeps _ _ _ rfl g)
    · exact g
  · split
    · split
      · exact State.writeStore_keeps _ rfl (State.putF_keeps _ _ _ rfl g)
      · split
        · exact State.writeStore_keeps _ rfl (State.putF_keeps _ _ _ rfl g)
        · exact g
    · exact g
  · split
    · split
      · exact g
      · exact State.writeStore_keeps _ rfl <|
          State.putF_keeps _ _ _ rfl <|
          State.putF_keeps _ _ _ rfl (State.putF_keeps _ _ _ rfl (State.putF_keeps _ _ _ rfl g))
    · exact g
  · exact g

theorem monUpdate_framed (t) : Framed (.monUpdate t) :=
  .intro t rfl fun _ h => .ok (State.monFile_keeps _ _ _ _ rfl h)

theorem monActivate_framed (t f lost env) : Framed (.monActivate t f lost env) := by
  refine .intro t rfl fun s h => ?_
  dsimp only [exec, execMonActivate]
  split
  · exact .ok h
  · next e =>
      have hm := State.monTake_keeps e rfl h
      refine .ite (.ok (State.monDone_keeps _ _ _ _ rfl hm)) ?_
      refine .ite (.ok (State.monDone_keeps _ _ _ _ rfl hm)) ?_
      split
      · next e =>
          exact .ok (State.monDone_keeps _ _ _ _ rfl (State.upOutcome_keeps rfl (State.upGate_keeps e rfl hm)))
      · exact .ite
          (.ok (State.monDone_keeps _ _ _ _ rfl (State.upOutcome_keeps rfl (State.activate_keeps _ _ _ _ _ rfl hm))))
          (.ok (State.activate_keeps _ _ _ _ _ rfl (State.monDone_keeps _ _ _ _ rfl hm)))

theorem monAbort_framed (t) : Framed (.monAbort t) :=
  .intro t rfl fun _ h =>
    .ok (plainRun_keeps (fun _ g => State.upOutcome_keeps rfl ((abort_framed _ _).after rfl g)) rfl h)

theorem monConfirm_framed (t) : Framed (.monConfirm t) :=
  .intro t rfl fun _ h =>
    .ok (plainRun_keeps (fun _ g => State.upOutcome_keeps rfl ((confirm_framed _ _).after rfl g)) rfl h)

theorem monKey_framed (t) : Framed (.monKey t) := by
  refine .intro t rfl fun _ h => ?_
  dsimp only [exec, execMonKey]
  refine .ite (.ok (State.monFile_keeps _ _ _ _ rfl h)) ?_
  refine .ok (State.monRun_keeps _ _ _ _ (fun u _ g => ?_) rfl h)
  split
  · split
    · split
      · exact g
      · next n _ _ =>
          obtain ⟨v, e, k⟩ := revoke_framed u.now u.all (u.putF .agreed fUpKeyselSlot n)
          have hn := k.next rfl (State.putF_keeps _ _ _ rfl g)
          exact State.upOutcome_keeps rfl (after_keeps e hn)
    · exact g
  · exact g

theorem authChallengeExpiry_framed (t) : Framed (.authChallengeExpiry t) := by
  refine .intro t rfl fun _ h => ?_
  dsimp only [exec, execAuthChallengeExpiry]
  split
  · exact .ite (.ok (Keeps.upd_mon _ rfl h)) (.ok h)
  · exact .ok h

theorem sessionIdleTimeout_framed (t) : Framed (.sessionIdleTimeout t) := by
  refine .intro t rfl fun _ h => ?_
  dsimp only [exec, execSessionIdleTimeout]
  split
  · exact .ite (.ok (State.endSession_keeps rfl h)) (.ok h)
  · exact .ok h

theorem authLockoutEnd_framed (t) : Framed (.authLockoutEnd t) := by
  refine .intro t rfl fun _ h => ?_
  dsimp only [exec, execAuthLockoutEnd]
  split
  · exact .ite (.ok (Keeps.upd_mon _ rfl h)) (.ok h)
  · exact .ok h

/-! ### Power supply -/

theorem supplyLowExpiry_framed (t mv) : Framed (.supplyLowExpiry t mv) := by
  refine .intro t rfl fun s h => ?_
  dsimp -zeta only [exec, execSupplyLowExpiry]
  extract_lets s1 _ s2 s3
  have h3 : Keeps _ s s3 := State.noteVolt_keeps _ rfl (Keeps.upd_supply _ rfl h)
  exact .ite (.ok h) <|
    .ite (.ok h3) (.ok (State.raiseLimited_keeps _ _ _ _ _ rfl (State.incF_keeps _ _ _ rfl h3)))

theorem supplyOverExpiry_framed (t mv) : Framed (.supplyOverExpiry t mv) :=
  .intro t rfl fun _ h => .ite (.ok h) (.ok (State.tellOver_keeps _ rfl h))

theorem supplyOverRepeat_framed (t mv) : Framed (.supplyOverRepeat t mv) :=
  .intro t rfl fun _ h => .ite (.ok h) (.ok (State.tellOver_keeps _ rfl h))

theorem supplyInterruptionBegin_framed (t mv) : Framed (.supplyInterruptionBegin t mv) :=
  .intro t rfl fun _ h =>
    .ite (.ok h) <|
    .ok <|
    .ite (State.showHoldup_keeps rfl (Keeps.upd_supply _ rfl (State.holdupCheck_keeps rfl h))) <|
    Keeps.upd_supply _ rfl (State.holdupCheck_keeps rfl h)

theorem supplyInterruptionEnd_framed (t mv lowest) : Framed (.supplyInterruptionEnd t mv lowest) := by
  refine .intro t rfl fun _ h => ?_
  dsimp only [exec, execSupplyInterruptionEnd]
  split
  · exact .ok h
  · exact .ite (.ok h) (.ok (.ite (State.noteVolt_keeps _ rfl (Keeps.upd_supply _ rfl h)) (Keeps.upd_supply _ rfl h)))

theorem holdupCharged_framed (t) : Framed (.holdupCharged t) :=
  .intro t rfl fun _ h =>
    .ite (.ok h) (.ok (State.showHoldup_keeps rfl (Keeps.upd_supply _ rfl (State.holdupCheck_keeps rfl h))))

theorem holdupExhausted_framed (t) : Framed (.holdupExhausted t) :=
  .intro t rfl fun _ h => .ite (.ok h) (.ok (State.powerDown_keeps rfl h))

theorem railTempCrossing_framed (t left right) : Framed (.railTempCrossing t left right) := by
  refine .intro t rfl fun _ h => ?_
  dsimp only [exec, execRailTempCrossing]
  refine .ite (.ok h) ?_
  split
  · exact .ok <|
      State.raise_keeps _ _ _ rfl (Keeps.upd_supply _ rfl (State.putF_keeps _ _ _ rfl (State.putF_keeps _ _ _ rfl h)))
  · exact .ok (Keeps.upd_supply _ rfl (State.putF_keeps _ _ _ rfl (State.putF_keeps _ _ _ rfl h)))

theorem tachSupplyLimit_framed (t ax) : Framed (.tachSupplyLimit t ax) :=
  .intro t rfl fun _ h => .ite (.ok h) (.ok (State.raiseLimited_keeps _ _ _ _ _ rfl (Keeps.upd_supply _ rfl h)))

theorem tachSupplyRetry_framed (t ax) : Framed (.tachSupplyRetry t ax) :=
  .intro t rfl fun _ h => .ite (.ok h) (.ok (Keeps.upd_supply _ rfl h))

theorem powerDownWaitExpiry_framed (t env) : Framed (.powerDownWaitExpiry t env) := by
  refine .intro t rfl fun _ h => ?_
  dsimp only [exec, execPowerDownWaitExpiry]
  split
  · exact .ok h
  · exact .ite (.ok h) (.ok (State.powerUp_keeps _ rfl h))

theorem logicSupplyThreshold_framed (t mv) : Framed (.logicSupplyThreshold t mv) :=
  .intro t rfl fun _ h =>
    .ite (.ok (State.noteVolt_keeps _ rfl (Keeps.upd_supply _ rfl h))) (.ok (Keeps.upd_supply _ rfl h))

/-! ### Completions of commands begun earlier -/

theorem overrateEnd_framed (t ax) : Framed (.overrateEnd t ax) :=
  .intro t rfl fun _ h => .ite (.ok h) (.ok (Keeps.upd_pos _ rfl h))

theorem edgeLogQueryDone_framed (t m) : Framed (.edgeLogQueryDone t m) := by
  refine .intro t rfl fun _ h => ?_
  dsimp only [exec, execEdgeLogQueryDone]
  split
  · exact .ok h
  · exact .ok (State.answerQuery_keeps _ _ rfl (Keeps.upd_pos _ rfl h))

theorem updateBlockWritten_framed (t) : Framed (.updateBlockWritten t) :=
  .intro t rfl fun _ h => .ok (State.blockWritten_keeps rfl h)

theorem serviceTransferBlock_framed (t f) : Framed (.serviceTransferBlock t f) := by
  refine .intro t rfl fun _ h => ?_
  dsimp only [exec, execServiceTransferBlock]
  split
  · refine .ite (.ok (State.fileDone_keeps _ rfl (State.monTouch_keeps rfl h))) ?_
    split
    · exact .ite (.ok (Keeps.upd_mon _ rfl (State.monTouch_keeps rfl h))) (.ok (State.monTouch_keeps rfl h))
    · exact .ok (State.monTouch_keeps rfl h)
  · exact .ok h

theorem proposalRerequest_framed (t m pseq) : Framed (.proposalRerequest t m pseq) := by
  refine .intro t rfl fun _ h => ?_
  dsimp only [exec, execProposalRerequest]
  split
  · exact .ok (State.setIntake_keeps _ _ rfl h)
  · exact .ok h

theorem fillRequest_framed (t holder peer source seq) : Framed (.fillRequest t holder peer source seq) := by
  refine .intro t rfl fun _ h => ?_
  dsimp only [exec, execFillRequest]
  split
  · exact .ok (State.setIntake_keeps _ _ rfl h)
  · exact .ok h

theorem pageRecordRequest_framed (t survivor region page) : Framed (.pageRecordRequest t survivor region page) := by
  refine .intro t rfl fun _ h => ?_
  dsimp only [exec, execPageRecordRequest]
  split
  · exact .ok h
  · exact .ite (.ok h) (.ok (Keeps.upd_lane_free _ _ rfl h))
/-! ### All commands -/

/-- Every command of the table answers within its frame. -/
theorem framed : ∀ c, Framed c
  | .registerWrite .. => registerWrite_framed _ _ _ _ _
  | .misalignedRegisterAccess .. => misalignedRegisterAccess_framed _ _ _ _ _
  | .unmappedAccess .. => unmappedAccess_framed _ _ _ _
  | .readOnlyRegionWrite .. => readOnlyRegionWrite_framed _ _ _ _
  | .reservedAreaWrite .. => reservedAreaWrite_framed _ _ _ _
  | .triadCFencedWrite .. => triadCFencedWrite_framed _ _ _
  | .summaryEventPeriodEnd .. => summaryEventPeriodEnd_framed _ _ _
  | .actionInstant .. => actionInstant_framed _
  | .commitPoint .. => commitPoint_framed _
  | .outputImageSubmit .. => outputImageSubmit_framed _ _ _ _
  | .cycleEndMark .. => cycleEndMark_framed _ _ _
  | .powerOn .. => powerOn_framed _ _
  | .bootTokenWindowEnd .. => bootTokenWindowEnd_framed _ _
  | .autostart .. => autostart_framed _
  | .buttonContactClose .. => buttonContactClose_framed _
  | .buttonDebounceExpiry .. => buttonDebounceExpiry_framed _
  | .buttonContactRelease .. => buttonContactRelease_framed _ _
  | .buttonStuckExpiry .. => buttonStuckExpiry_framed _ _
  | .buttonOpenExpiry .. => buttonOpenExpiry_framed _
  | .recoveryBreakBegin .. => recoveryBreakBegin_framed _
  | .recoveryBreakExpiry .. => recoveryBreakExpiry_framed _
  | .recoveryBreakEnd .. => recoveryBreakEnd_framed _
  | .start .. => start_framed _ _
  | .startCold .. => startCold_framed _ _
  | .stop .. => stop_framed _ _
  | .hold .. => hold_framed _ _
  | .resume .. => resume_framed _ _
  | .standby .. => standby_framed _ _
  | .service .. => service_framed _ _
  | .leave .. => leave_framed _ _
  | .reset .. => reset_framed _ _ _
  | .holdTimeout .. => holdTimeout_framed _
  | .wakeEvent .. => wakeEvent_framed _ _ _ _ _
  | .standbyMastFault .. => standbyMastFault_framed _ _
  | .sealPoll .. => sealPoll_framed _ _
  | .appFetchRequest .. => appFetchRequest_framed _
  | .appFetchServe .. => appFetchServe_framed _ _ _
  | .appFetchReceived .. => appFetchReceived_framed _ _ _ _ _ _ _
  | .mastSupervisionFault .. => mastSupervisionFault_framed _ _ _
  | .dieTemperatureCrossing .. => dieTemperatureCrossing_framed _ _ _
  | .triadVoteDisagree .. => triadVoteDisagree_framed _ _ _ _ _ _
  | .voterHalfMismatch .. => voterHalfMismatch_framed _ _ _ _
  | .delayStageParityError .. => delayStageParityError_framed _ _ _ _ _ _ _
  | .resyncSelftestDone .. => resyncSelftestDone_framed _ _ _ _
  | .resyncPoint .. => resyncPoint_framed _ _ _ _
  | .lockstepTimeout .. => lockstepTimeout_framed _ _ _
  | .lastWordReceived .. => lastWordReceived_framed _ _ _ _
  | .tdInjectOutputBit .. => tdInjectOutputBit_framed _ _ _ _ _
  | .tdInjectInputParity .. => tdInjectInputParity_framed _ _ _ _ _
  | .tdInjectOutputParity .. => tdInjectOutputParity_framed _ _ _ _ _
  | .tdInjectVoter .. => tdInjectVoter_framed _ _ _ _ _
  | .tdSilclr .. => tdSilclr_framed _ _ _
  | .heartbeatSend .. => heartbeatSend_framed _ _
  | .hb1BeatReceived .. => hb1BeatReceived_framed _ _ _ _
  | .hb2Edge .. => hb2Edge_framed _ _ _
  | .heartbeatMissed .. => heartbeatMissed_framed _ _ _ _ _
  | .isolationPowerCheck .. => isolationPowerCheck_framed _ _ _
  | .joinReady .. => joinReady_framed _ _
  | .joinReadyTimeout .. => joinReadyTimeout_framed _
  | .joinEntryTimeout .. => joinEntryTimeout_framed _
  | .checkpointPageRecord .. => checkpointPageRecord_framed _ _ _
  | .frameDigestDeposit .. => frameDigestDeposit_framed _ _ _ _
  | .frameUnconfirmedTimeout .. => frameUnconfirmedTimeout_framed _ _ _ _ _
  | .frameLaunch .. => frameLaunch_framed _ _ _ _
  | .normalHandover .. => normalHandover_framed _ _
  | .itemArrival .. => itemArrival_framed _ _ _
  | .proposalSend .. => proposalSend_framed _ _ _
  | .proposalReceived .. => proposalReceived_framed _ _ _
  | .closeTimeout .. => closeTimeout_framed _ _ _
  | .fillReceived .. => fillReceived_framed _ _ _
  | .fillDeadline .. => fillDeadline_framed _ _
  | .intakeRelease .. => intakeRelease_framed _
  | .readAnswerTimeout .. => readAnswerTimeout_framed _ _
  | .ptpMessage .. => ptpMessage_framed _ _ _ _ _
  | .timeSourceLost .. => timeSourceLost_framed _
  | .tbOffsetWrite .. => tbOffsetWrite_framed _ _ _
  | .forcedStep .. => forcedStep_framed _ _ _
  | .initialAcquisition .. => initialAcquisition_framed _ _ _
  | .timeBandCheck .. => timeBandCheck_framed _ _ _
  | .tbTsqpop .. => tbTsqpop_framed _ _ _ _
  | .tbNownsRead .. => tbNownsRead_framed _ _ _
  | .tbPosloRead .. => tbPosloRead_framed _ _ _ _
  | .edgeLogQuery .. => edgeLogQuery_framed _ _ _
  | .tachoEdge .. => tachoEdge_framed _ _ _ _
  | .timeComparatorFire .. => timeComparatorFire_framed _ _
  | .tbCmpcfgWrite .. => tbCmpcfgWrite_framed _ _ _ _
  | .fbSlotTransmit .. => fbSlotTransmit_framed _ _ _ _
  | .fbFrameReceived .. => fbFrameReceived_framed _ _ _ _ _ _ _ _
  | .fbSlotReport .. => fbSlotReport_framed _ _
  | .fbIntegrateDone .. => fbIntegrateDone_framed _ _
  | .fbRecoverDone .. => fbRecoverDone_framed _ _
  | .fbTestOn .. => fbTestOn_framed _ _ _
  | .fbTestOff .. => fbTestOff_framed _ _ _
  | .fbNodeLost .. => fbNodeLost_framed _ _ _
  | .fbNodeExcluded .. => fbNodeExcluded_framed _ _ _
  | .fbNodeReadmitted .. => fbNodeReadmitted_framed _ _ _
  | .fbGrantWithdraw .. => fbGrantWithdraw_framed _ _ _
  | .fbGrantIdleExpiry .. => fbGrantIdleExpiry_framed _ _ _
  | .fbChannelFault .. => fbChannelFault_framed _ _ _
  | .commandFrameSend .. => commandFrameSend_framed _ _ _
  | .commandFrameReceived .. => commandFrameReceived_framed _ _ _
  | .configFrameReceived .. => configFrameReceived_framed _ _ _
  | .inputFrameSend .. => inputFrameSend_framed _
  | .inputFrameReceived .. => inputFrameReceived_framed _ _ _
  | .currentLimitExpiry .. => currentLimitExpiry_framed _ _ _
  | .thermalTrip .. => thermalTrip_framed _ _
  | .thermalRetry .. => thermalRetry_framed _ _
  | .readbackCheck .. => readbackCheck_framed _ _ _ _ _ _ _
  | .switchTestStart .. => switchTestStart_framed _ _ _
  | .testStepEnd .. => testStepEnd_framed _ _ _
  | .darkPulseStart .. => darkPulseStart_framed _ _
  | .darkPulseEnd .. => darkPulseEnd_framed _ _ _
  | .linkSilenceDetect .. => linkSilenceDetect_framed _ _ _
  | .linkSilenceTimeout .. => linkSilenceTimeout_framed _ _
  | .mastInputFrameTimeout .. => mastInputFrameTimeout_framed _ _
  | .inputFilterAccept .. => inputFilterAccept_framed _ _ _
  | .inputInvalid .. => inputInvalid_framed _ _
  | .pairDiscrepancyTimeout .. => pairDiscrepancyTimeout_framed _ _
  | .fieldSupplyChange .. => fieldSupplyChange_framed _ _ _
  | .queuedChangeClear .. => queuedChangeClear_framed _ _ _
  | .zeroSpeedDeclare .. => zeroSpeedDeclare_framed _
  | .slipEndExpiry .. => slipEndExpiry_framed _
  | .odoSlipExpiry .. => odoSlipExpiry_framed _
  | .speedConfirmExpiry .. => speedConfirmExpiry_framed _ _
  | .limitDelayExpiry .. => limitDelayExpiry_framed _ _
  | .spAckWrite .. => spAckWrite_framed _ _ _
  | .spRefclrWrite .. => spRefclrWrite_framed _ _ _
  | .appCycleStart .. => appCycleStart_framed _ _
  | .cycleLimitExpiry .. => cycleLimitExpiry_framed _ _
  | .applicationException .. => applicationException_framed _ _ _ _
  | .onlineChangeRequest .. => onlineChangeRequest_framed _ _ _ _
  | .retainWriteDone .. => retainWriteDone_framed _ _ _
  | .scWatchdogExpiry .. => scWatchdogExpiry_framed _ _
  | .networkFrameReceived .. => networkFrameReceived_framed _ _ _ _
  | .prpEntryForget .. => prpEntryForget_framed _ _ _ _
  | .linkChange .. => linkChange_framed _ _ _ _ _
  | .pdPublish .. => pdPublish_framed _ _
  | .pdPullRequest .. => pdPullRequest_framed _ _
  | .mdRequest .. => mdRequest_framed _ _
  | .mdReplyTimeout .. => mdReplyTimeout_framed _ _
  | .ringProduce .. => ringProduce_framed _ _ _ _
  | .ringConsume .. => ringConsume_framed _ _ _ _
  | .poolReturn .. => poolReturn_framed _ _ _
  | .transmitDescriptor .. => transmitDescriptor_framed _ _ _ _
  | .dmaDoorbell .. => dmaDoorbell_framed _ _ _
  | .dmaDescriptorComplete .. => dmaDescriptorComplete_framed _ _ _ _
  | .dmaTargetError .. => dmaTargetError_framed _ _ _ _ _
  | .dmaStoppedClear .. => dmaStoppedClear_framed _ _ _
  | .cacheClean .. => cacheClean_framed _ _ _ _
  | .cacheInvalidate .. => cacheInvalidate_framed _ _ _ _
  | .cacheCleanInvalidate .. => cacheCleanInvalidate_framed _ _ _ _
  | .cacheOpDone .. => cacheOpDone_framed _ _ _
  | .barrier .. => barrier_framed _ _ _
  | .rackOutboundAccess .. => rackOutboundAccess_framed _ _ _ _ _ _ _
  | .rackTargetRetry .. => rackTargetRetry_framed _
  | .rackTransactionComplete .. => rackTransactionComplete_framed _ _ _ _
  | .rackTransactionTimeout .. => rackTransactionTimeout_framed _
  | .rackUnconfirmedTimeout .. => rackUnconfirmedTimeout_framed _
  | .bbPwepop .. => bbPwepop_framed _ _
  | .rackInboundWrite .. => rackInboundWrite_framed _ _ _ _ _
  | .rackInboundRead .. => rackInboundRead_framed _ _
  | .exposeCommit .. => exposeCommit_framed _ _ _ _
  | .exposeCopyDone .. => exposeCopyDone_framed _
  | .intLinePoll .. => intLinePoll_framed _ _
  | .sidebandPoll .. => sidebandPoll_framed _ _
  | .stayLinkFrameReceived .. => stayLinkFrameReceived_framed _ _ _ _
  | .presenceSend .. => presenceSend_framed _
  | .memberTimeout .. => memberTimeout_framed _ _
  | .masterTakeover .. => masterTakeover_framed _ _
  | .ringWrap .. => ringWrap_framed _ _ _
  | .ringUnwrap .. => ringUnwrap_framed _ _ _
  | .linkdelayExchange .. => linkdelayExchange_framed _ _ _
  | .sharedBlockSend .. => sharedBlockSend_framed _
  | .memoryRead .. => memoryRead_framed _ _ _ _ _ _
  | .memoryPartialWrite .. => memoryPartialWrite_framed _ _ _ _ _ _
  | .scrubWord .. => scrubWord_framed _ _ _ _
  | .miInjectSingle .. => miInjectSingle_framed _ _ _ _ _
  | .miInjectDouble .. => miInjectDouble_framed _ _ _ _ _
  | .begin .. => begin_framed _ _
  | .write .. => write_framed _ _
  | .updateReadback .. => updateReadback_framed _ _ _
  | .abort .. => abort_framed _ _
  | .updateIdleTimeout .. => updateIdleTimeout_framed _
  | .activate .. => activate_framed _ _ _ _ _
  | .activateNoJury .. => activateNoJury_framed _ _ _
  | .confirm .. => confirm_framed _ _
  | .confirmWindowExpiry .. => confirmWindowExpiry_framed _ _
  | .revoke .. => revoke_framed _ _
  | .keyprog .. => keyprog_framed _ _
  | .settings .. => settings_framed _ _
  | .recoveryDownload .. => recoveryDownload_framed _ _ _ _ _ _ _
  | .syslogExport .. => syslogExport_framed _
  | .serviceLineReceived .. => serviceLineReceived_framed _ _
  | .monHelp .. => monHelp_framed _
  | .monId .. => monId_framed _
  | .monStatus .. => monStatus_framed _
  | .monLog .. => monLog_framed _
  | .monReg .. => monReg_framed _
  | .monIo .. => monIo_framed _
  | .monBus .. => monBus_framed _
  | .monNet .. => monNet_framed _
  | .monTime .. => monTime_framed _
  | .monSup .. => monSup_framed _
  | .monMem .. => monMem_framed _
  | .monKeys .. => monKeys_framed _
  | .monAuth .. => monAuth_framed _
  | .monResp .. => monResp_framed _
  | .monLogout .. => monLogout_framed _
  | .monStart .. => monStart_framed _
  | .monStop .. => monStop_framed _
  | .monHold .. => monHold_framed _
  | .monResume .. => monResume_framed _
  | .monStandby .. => monStandby_framed _
  | .monReset .. => monReset_framed _ _
  | .monService .. => monService_framed _
  | .monLeave .. => monLeave_framed _
  | .monForce .. => monForce_framed _
  | .monUnforce .. => monUnforce_framed _
  | .monSet .. => monSet_framed _
  | .monOut .. => monOut_framed _
  | .monBustest .. => monBustest_framed _
  | .monInject .. => monInject_framed _
  | .monStep .. => monStep_framed _
  | .monSilclr .. => monSilclr_framed _
  | .monSyslog .. => monSyslog_framed _ _
  | .monUpdate .. => monUpdate_framed _
  | .monActivate .. => monActivate_framed _ _ _ _
  | .monAbort .. => monAbort_framed _
  | .monConfirm .. => monConfirm_framed _
  | .monKey .. => monKey_framed _
  | .authChallengeExpiry .. => authChallengeExpiry_framed _
  | .sessionIdleTimeout .. => sessionIdleTimeout_framed _
  | .authLockoutEnd .. => authLockoutEnd_framed _
  | .supplyLowExpiry .. => supplyLowExpiry_framed _ _
  | .supplyOverExpiry .. => supplyOverExpiry_framed _ _
  | .supplyOverRepeat .. => supplyOverRepeat_framed _ _
  | .supplyInterruptionBegin .. => supplyInterruptionBegin_framed _ _
  | .supplyInterruptionEnd .. => supplyInterruptionEnd_framed _ _ _
  | .holdupCharged .. => holdupCharged_framed _
  | .holdupExhausted .. => holdupExhausted_framed _
  | .railTempCrossing .. => railTempCrossing_framed _ _ _
  | .tachSupplyLimit .. => tachSupplyLimit_framed _ _
  | .tachSupplyRetry .. => tachSupplyRetry_framed _ _
  | .powerDownWaitExpiry .. => powerDownWaitExpiry_framed _ _
  | .logicSupplyThreshold .. => logicSupplyThreshold_framed _ _
  | .overrateEnd .. => overrateEnd_framed _ _
  | .edgeLogQueryDone .. => edgeLogQueryDone_framed _ _
  | .updateBlockWritten .. => updateBlockWritten_framed _
  | .serviceTransferBlock .. => serviceTransferBlock_framed _ _
  | .proposalRerequest .. => proposalRerequest_framed _ _ _
  | .fillRequest .. => fillRequest_framed _ _ _ _ _
  | .pageRecordRequest .. => pageRecordRequest_framed _ _ _ _

theorem pending_not_mem_touches (c : Instr) : Part.pending ∉ touches c := by
  have h : (touches c).contains .pending = false := by cases c <;> rfl
  simpa using h

/-- Settles O51: each command's `_framed` lemma gives the frame. -/
theorem commandsKeepTheFrame : Obligations.CommandsKeepTheFrame := by
  unfold Obligations.CommandsKeepTheFrame
  intro c s s' he
  obtain ⟨u, e, h⟩ := framed c s
  obtain rfl : u = s' := by simpa [e] using he
  exact h.frame

/-- Settles O50: the answer and the clock come from `framed`, and no row of the table of frames lists the queue. -/
theorem everyCommandCompletes : Obligations.EveryCommandCompletes := by
  unfold Obligations.EveryCommandCompletes
  intro c s
  obtain ⟨u, e, h⟩ := framed c s
  exact ⟨u, e, h.frame .pending (pending_not_mem_touches c), h.clock⟩

end Sys2Proof.Machine

/-!
# The front command, the reset values and register accesses

What a step and a reset do, and the accesses of a triad to register space by the type of the field they write (R7 to R9).
-/

namespace Sys2Proof.Machine
open Sys2Proof.Safety

/-- Settles O49: both halves are the two branches of `step`. -/
theorem stepRunsTheFrontCommand : Obligations.StepRunsTheFrontCommand := by
  unfold Obligations.StepRunsTheFrontCommand
  refine ⟨fun c rest s => rfl, fun s h => ?_⟩
  simp only [step, h]

/-- Settles O59: at reset no register is stored, so each field is evaluated from its row in the register table. -/
theorem resetRegisterValues : Obligations.ResetRegisterValues := by
  unfold Obligations.ResetRegisterValues
  refine ⟨by decide, by decide, by decide, by decide, by decide, by decide, by decide, by decide, by decide, by decide,
    by decide, by decide, by decide, by decide, fun m => ?_, rfl⟩
  cases m <;> decide

/-! ## Register space and the answer to a triad -/

theorem regionOf_register_or_unoccupied {a : Nat} (h : 0xE0000000 ≤ a) (h' : a ≤ 0xFFFFFFFF) :
    regionOf a = .register ∨ regionOf a = .unoccupied := by
  unfold regionOf
  split_ifs <;> first | omega | simp

theorem registerSpace_of_window {a : Nat} (h : 0xE0000000 ≤ a) (h' : a ≤ 0xFFFFFFFF) : registerSpace a = true := by
  rcases regionOf_register_or_unoccupied h h' with e | e <;> simp [registerSpace, e]

@[simp] theorem State.advance_triadRuns (s : State) (t : Nat) (m : Mast) :
    (s.advance t).triadRuns m = s.triadRuns m := rfl

@[simp] theorem MastState.answer_setAnswer (x : MastState) (tr : Triad) (a : BusAnswer) :
    (x.setAnswer tr a).answer tr = a := by cases tr <;> rfl

theorem State.answer_masts (s : State) (m : Mast) (tr : Triad) (a : BusAnswer) :
    (s.answer m tr a).masts = s.masts.set m ((s.mast m).setAnswer tr a) := rfl

theorem State.answer_sameBut (s : State) (m : Mast) (tr : Triad) (a : BusAnswer) :
    sameBut [.masts] s (s.answer m tr a) :=
  (State.answer_keeps m tr a rfl (.refl [.masts] s)).frame

/-- What a triad is answered stands through anything that changes registers and waiting writes alone. -/
theorem answered_of_keeps {s u : State} {m : Mast} {tr : Triad} {a : BusAnswer}
    (h : Keeps [.regs, .writes] (s.answer m tr a) u) :
    (u.mast m).answer tr = a ∧ u.masts = s.masts.set m ((s.mast m).setAnswer tr a) ∧
      sameBut [.masts, .regs, .writes] s u := by
  have hm : u.masts = (s.answer m tr a).masts := h.frame .masts (by decide)
  refine ⟨?_, hm, ?_⟩
  · rw [State.mast_of_masts hm]
    simp [State.answer]
  · exact sameBut_trans (sameBut_mono (State.answer_sameBut s m tr a) (by simp)) (sameBut_mono h.frame (by simp))

/-- Settles O2: the addresses from 0xE0000000 upward are all register space. -/
theorem misalignedRegisterAccesses : Obligations.MisalignedRegisterAccesses := by
  unfold Obligations.MisalignedRegisterAccesses
  intro t m tr addr size s hr ⟨hlo, hhi⟩ hmis
  have he : exec (.misalignedRegisterAccess t m tr addr size) s = .next ((s.advance t).answer m tr .busError) := by
    simp [exec, execMisalignedRegisterAccess, hr, regionOf_register_or_unoccupied hlo hhi, hmis, ok]
  exact ⟨_, he, rfl, State.answer_sameBut _ m tr .busError⟩

/-! ## Words and bit fields -/

theorem getBits_le_max (w : Word) (hi lo : Nat) : getBits w hi lo ≤ 0xFFFFFFFF := by
  have h : getBits w hi lo ≤ w.toNat := (Nat.mod_le _ _).trans (Nat.div_le_self _ _)
  omega

theorem getBits_full (w : Word) : getBits w 31 0 = w.toNat := by
  simp only [getBits]
  omega

theorem setBits_full (w : Word) (v : Nat) : setBits w 31 0 v = BitVec.ofNat 32 v := by
  apply BitVec.eq_of_toNat_eq
  rw [setBits_toNat w 31 0 v (by decide) (by decide), BitVec.toNat_ofNat]
  omega

/-! ## The write of a register by the types of its fields (R9) -/

/-- The copy of the register that a triad of mast `m` writes. -/
def RegRow.copyFor (r : RegRow) (m : Mast) (tr : Triad) : Copy :=
  match r.scope with
  | .agreed => .agreed
  | .perMast => .mast m
  | .perTriad => .triad m tr

/-- The word a write of `w` at once leaves where `old` stood. -/
def RegRow.newWord (r : RegRow) (old w : Word) : Word := r.bitwise (r.take (if r.comb then [] else [.rw]) old w) w

theorem State.writeNow_eq (s : State) (m : Mast) (tr : Triad) (r : RegRow) (addr : Nat) (w : Word) :
    s.writeNow m tr r addr w =
      s.setReg (r.copyFor m tr) addr (r.newWord (s.reg (r.copyFor m tr) addr) w) := rfl

/-- The registers for which a write looks at more than its fields (commands, discarded writes, window shadows). -/
def specialWrite : List String :=
  ["MC_CMD", "UP_CMD", "LM_OWNPREF", "TB_RATE", "QM_RING_BASE", "QM_RING_CFG", "FI_QMASK", "FI_QVAL", "DM_HEAD",
    "BB_SBADDR", "BB_EXPOSE0_", "BB_EXPOSE1_", "BB_EXPOSE2_", "BB_EXPOSE3_"]

/-- Is a write decided by the types of the fields alone? So it is where the register is no command, key, comparator target
or shadow, its writes are never discarded, and no field has a range. -/
def RegRow.ordinary (r : RegRow) (addr : Nat) : Bool :=
  !specialWrite.contains r.name && !ownRow r.name && !cmpTarget r.name && addr != rTdInject && addr != rMiInject &&
  r.fields.all fun f => f.least == 0 && f.most == 0xFFFFFFFF

theorem RegRow.inRange_of_unbounded {r : RegRow} (h : ∀ f ∈ r.fields, f.least = 0 ∧ f.most = 0xFFFFFFFF) (w : Word) :
    r.inRange w = true := by
  simp only [RegRow.inRange, List.all_eq_true]
  intro f hf
  obtain ⟨hl, hm⟩ := h f hf
  simp [hl, hm, getBits_le_max]

theorem State.writeReg_of_ordinary {r : RegRow} {addr : Nat} (h : r.ordinary addr = true) (s : State) (m : Mast)
    (tr : Triad) (w : Word) :
    s.writeReg m tr r addr w =
      if r.combines && !ownCombined r.name then (s.writeNow m tr r addr w).writeLater m addr w
      else s.writeNow m tr r addr w := by
  simp only [RegRow.ordinary, Bool.and_eq_true, Bool.not_eq_true', bne_iff_ne, ne_eq, List.all_eq_true, beq_iff_eq] at h
  obtain ⟨⟨⟨⟨⟨hname, hown⟩, hcmp⟩, htd⟩, hmi⟩, hfields⟩ := h
  have hkey : badInjectKey addr w = false := by simp [badInjectKey, htd, hmi]
  have hrange : r.inRange w = true := RegRow.inRange_of_unbounded hfields w
  simp only [specialWrite, List.contains_eq_mem, List.mem_cons, List.not_mem_nil, or_false, decide_eq_false_iff_not,
    not_or] at hname
  have hdis : s.discarded m r addr w = false := by simp [State.discarded, hname]
  simp [State.writeReg, hname, hkey, hrange, hdis, hown, hcmp]

theorem regsBut_setReg_self {l : List (Copy × Nat)} (s : State) (c : Copy) (a : Nat) :
    regsBut l s (s.setReg c a (s.reg c a)) := by
  intro c' a' _ _
  by_cases e : regKey c' a' = regKey c a
  · simp [State.reg, e]
  · exact State.reg_setReg_other s _ _ _ _ _ e

/-- REGISTER_WRITE where no register lies: the write is ignored (R9). -/
theorem exec_registerWrite_of_findReg_none {s : State} {m : Mast} {addr : Nat} (t : Nat) (tr : Triad) (v : Word)
    (hr : s.triadRuns m = true) (hw : 0xE0000000 ≤ addr ∧ addr ≤ 0xFFFFFFFF ∧ addr % 4 = 0)
    (hf : findReg addr = none) :
    exec (.registerWrite t m tr addr v) s = .next ((s.advance t).answer m tr (.done 0)) := by
  obtain ⟨hlo, hhi, hal⟩ := hw
  simp [exec, execRegisterWrite, hr, registerSpace_of_window hlo hhi, hal, hf, ok]

theorem exec_registerWrite_of_findReg {s : State} {m : Mast} {addr : Nat} {r : RegRow} (t : Nat) (tr : Triad) (v : Word)
    (hr : s.triadRuns m = true) (hw : 0xE0000000 ≤ addr ∧ addr ≤ 0xFFFFFFFF ∧ addr % 4 = 0)
    (hf : findReg addr = some r) :
    exec (.registerWrite t m tr addr v) s = .next (((s.advance t).answer m tr (.done 0)).writeReg m tr r addr v) := by
  obtain ⟨hlo, hhi, hal⟩ := hw
  simp [exec, execRegisterWrite, hr, registerSpace_of_window hlo hhi, hal, hf, ok]

/-- What a write to an ordinary register does: its answer, its frame, the new word and the write that waits. -/
def WritesByType (r : RegRow) (c : Copy) (t : Nat) (m : Mast) (tr : Triad) (addr : Nat) (v : Word) (s s' : State) :
    Prop :=
  exec (.registerWrite t m tr addr v) s = .next s' ∧ (s'.mast m).answer tr = .done 0 ∧
  s'.masts = s.masts.set m ((s.mast m).setAnswer tr (.done 0)) ∧ sameBut [.masts, .regs, .writes] (s.advance t) s' ∧
  s'.regs = (s.setReg c addr (r.newWord (s.reg c addr) v)).regs ∧
  s'.writes = if r.combines && !ownCombined r.name then (s.writeLater m addr v).writes else s.writes

theorem exists_writesByType {s : State} {m : Mast} {addr : Nat} {r : RegRow} (t : Nat) (tr : Triad) (v : Word)
    (hr : s.triadRuns m = true) (hw : 0xE0000000 ≤ addr ∧ addr ≤ 0xFFFFFFFF ∧ addr % 4 = 0)
    (hf : findReg addr = some r) (ho : r.ordinary addr = true) :
    ∃ s', WritesByType r (r.copyFor m tr) t m tr addr v s s' := by
  have hk : Keeps [.regs, .writes] ((s.advance t).answer m tr (.done 0))
      (((s.advance t).answer m tr (.done 0)).writeReg m tr r addr v) := by
    rw [State.writeReg_of_ordinary ho]
    have hnow := State.writeNow_keeps m tr r addr v rfl (.refl [.regs, .writes] ((s.advance t).answer m tr (.done 0)))
    exact .ite (State.writeLater_keeps _ _ _ rfl hnow) hnow
  obtain ⟨hans, hmasts, hsame⟩ := answered_of_keeps hk
  refine ⟨_, exec_registerWrite_of_findReg t tr v hr hw hf, hans, hmasts, hsame, ?_, ?_⟩
  · rw [State.writeReg_of_ordinary ho]
    split <;> rfl
  · rw [State.writeReg_of_ordinary ho]
    split <;> rfl

section
variable {r : RegRow} {c : Copy} {t : Nat} {m : Mast} {tr : Triad} {addr : Nat} {v : Word} {s s' : State}

theorem WritesByType.reg (h : WritesByType r c t m tr addr v s s') :
    s'.reg c addr = r.newWord (s.reg c addr) v := by
  obtain ⟨-, -, -, -, hregs, -⟩ := h
  rw [State.reg_of_regs hregs, State.reg_setReg_same]

theorem WritesByType.keeps_other_regs (h : WritesByType r c t m tr addr v s s') (ha : addr < 2 ^ 32) :
    regsBut [(c, addr)] s s' := by
  obtain ⟨-, -, -, -, hregs, -⟩ := h
  exact regsBut_trans (regsBut_setReg s c addr _ ha (by simp)) (regsBut_of_regs hregs)

theorem WritesByType.keeps_regs (h : WritesByType r c t m tr addr v s s')
    (hn : ∀ old, r.newWord old v = old) : regsBut [] s s' := by
  obtain ⟨-, -, -, -, hregs, -⟩ := h
  rw [hn] at hregs
  exact regsBut_trans (regsBut_setReg_self s c addr) (regsBut_of_regs hregs)

end

/-! ## A register of each type -/

/-- `TB_PQSEC`, an RW register of each mast. -/
def tbPqsecRow : RegRow := ⟨"TB_PQSEC", 0xE0040244, 1, 0x4, .perMast, false, [⟨"VALUE", 31, 0, .rw, 0, 0, 0xFFFFFFFF⟩]⟩

/-- `TB_NOWNS`, an RO register of each mast. -/
def tbNownsRow : RegRow := ⟨"TB_NOWNS", 0xE0040024, 1, 0x4, .perMast, false, [⟨"VALUE", 31, 0, .ro, 0, 0, 0xFFFFFFFF⟩]⟩

/-- `TB_CMPLOCAL_LO`, a W1C register of each mast. -/
def tbCmplocalLoRow : RegRow :=
  ⟨"TB_CMPLOCAL_LO", 0xE0040308, 1, 0x4, .perMast, false, [⟨"FIRED", 31, 0, .w1c, 0, 0, 0xFFFFFFFF⟩]⟩

/-- `MC_RSTCAUSE`, the module's register with the RWS field `STUCK_SEEN`. -/
def mcRstcauseRow : RegRow :=
  ⟨"MC_RSTCAUSE", 0xE000001C, 1, 0x4, .agreed, false,
    [⟨"STUCK_SEEN", 8, 8, .rws, 0, 0, 0xFFFFFFFF⟩, ⟨"STANDBY_FAULT", 4, 4, .ro, 0, 0, 0xFFFFFFFF⟩,
     ⟨"IMAGE", 3, 3, .ro, 0, 0, 0xFFFFFFFF⟩, ⟨"SOFTWARE", 2, 2, .ro, 0, 0, 0xFFFFFFFF⟩,
     ⟨"BUTTON", 1, 1, .ro, 0, 0, 0xFFFFFFFF⟩, ⟨"POR", 0, 0, .ro, 0, 0, 0xFFFFFFFF⟩]⟩

/-- `LM_CTRL`, the module's register with the RWL field `SPARE_EN`. -/
def lmCtrlRow : RegRow := ⟨"LM_CTRL", 0xE0010078, 1, 0x4, .agreed, false, [⟨"SPARE_EN", 0, 0, .rwl, 1, 0, 0xFFFFFFFF⟩]⟩

theorem findReg_tbPqsec : findReg 0xE0040244 = some tbPqsecRow := rfl
theorem findReg_tbNowns : findReg 0xE0040024 = some tbNownsRow := rfl
theorem findReg_tbCmplocalLo : findReg 0xE0040308 = some tbCmplocalLoRow := rfl
theorem findReg_mcRstcause : findReg 0xE000001C = some mcRstcauseRow := rfl
theorem findReg_lmCtrl : findReg 0xE0010078 = some lmCtrlRow := rfl

theorem tbPqsecRow_newWord (old w : Word) : tbPqsecRow.newWord old w = w := by
  calc tbPqsecRow.newWord old w = setBits old 31 0 (getBits w 31 0) := rfl
    _ = w := by simp [setBits_full, getBits_full]

theorem tbNownsRow_newWord (old w : Word) : tbNownsRow.newWord old w = old := rfl

theorem tbCmplocalLoRow_newWord (old w : Word) : tbCmplocalLoRow.newWord old w = old &&& ~~~w := by
  calc tbCmplocalLoRow.newWord old w =
        setBits old 31 0 (BitVec.ofNat 32 (getBits old 31 0) &&& ~~~(BitVec.ofNat 32 (getBits w 31 0))).toNat := rfl
    _ = old &&& ~~~w := by simp only [setBits_full, getBits_full, BitVec.ofNat_toNat, BitVec.setWidth_eq]

theorem lmCtrlRow_newWord (old w : Word) : lmCtrlRow.newWord old w = old := rfl

theorem getBits_mcRstcauseRow_newWord (old w : Word) :
    getBits (mcRstcauseRow.newWord old w) 8 8 =
      (BitVec.ofNat 32 (getBits old 8 8) ||| BitVec.ofNat 32 (getBits w 8 8)).toNat % 2 :=
  getBits_setBits old 8 8 _ (by decide) (by decide)

/-- A bit of a word is 0 or 1. -/
theorem getBits_bit (w : Word) (n : Nat) : getBits w n n = 0 ∨ getBits w n n = 1 := by
  have h := getBits_lt w n n
  rw [Nat.add_sub_cancel_left] at h
  omega

theorem getBits_mcRstcauseRow_newWord_of_one {w : Word} (old : Word) (hw : getBits w 8 8 = 1) :
    getBits (mcRstcauseRow.newWord old w) 8 8 = 1 := by
  rw [getBits_mcRstcauseRow_newWord, hw]
  rcases getBits_bit old 8 with h | h <;> simp [h]

theorem getBits_mcRstcauseRow_newWord_of_zero {w : Word} (old : Word) (hw : getBits w 8 8 = 0) :
    getBits (mcRstcauseRow.newWord old w) 8 8 = getBits old 8 8 := by
  rw [getBits_mcRstcauseRow_newWord, hw]
  rcases getBits_bit old 8 with h | h <;> simp [h]

/-- Settles O4: the unoccupied offsets by `exec_registerWrite_of_findReg_none`, each other clause by `exists_writesByType` on
the row of its register. -/
theorem registerWritesByFieldType : Obligations.RegisterWritesByFieldType := by
  unfold Obligations.RegisterWritesByFieldType
  refine ⟨fun t m tr addr v s hr hw hf => ?_, fun t m tr v s hr => ?_, fun t m tr v s hr => ?_, fun t m tr v s hr => ?_,
    fun t m tr v s hr => ?_, fun t m tr v s hr => ?_⟩
  · exact ⟨_, exec_registerWrite_of_findReg_none t tr v hr hw hf, by simp [State.answer], rfl,
      State.answer_sameBut _ m tr _⟩
  · obtain ⟨s', h⟩ := exists_writesByType t tr v hr (by decide) findReg_tbPqsec (by decide)
    have ⟨he, ha, hm, hs, _, _⟩ := h
    exact ⟨s', he, ha, hm, hs, h.reg.trans (tbPqsecRow_newWord _ v), h.keeps_other_regs (by decide)⟩
  · obtain ⟨s', h⟩ := exists_writesByType t tr v hr (by decide) findReg_tbNowns (by decide)
    have ⟨he, ha, hm, hs, _, hw⟩ := h
    exact ⟨s', he, ha, hm, hs, hw, h.keeps_regs fun old => tbNownsRow_newWord old v⟩
  · obtain ⟨s', h⟩ := exists_writesByType t tr v hr (by decide) findReg_tbCmplocalLo (by decide)
    have ⟨he, ha, hm, hs, _, _⟩ := h
    exact ⟨s', he, ha, hm, hs, h.reg.trans (tbCmplocalLoRow_newWord _ v), h.keeps_other_regs (by decide)⟩
  · obtain ⟨s', h⟩ := exists_writesByType t tr v hr (by decide) findReg_mcRstcause (by decide)
    have ⟨he, ha, hm, hs, _, hw⟩ := h
    have hfield : s'.getF .agreed ⟨0xE000001C, 8, 8⟩ =
        getBits (mcRstcauseRow.newWord (s.reg .agreed 0xE000001C) v) 8 8 := congrArg (getBits · 8 8) h.reg
    exact ⟨s', he, ha, hm, hs, fun h1 => hfield.trans (getBits_mcRstcauseRow_newWord_of_one _ h1), hw,
      fun h0 => hfield.trans (getBits_mcRstcauseRow_newWord_of_zero _ h0), h.keeps_other_regs (by decide)⟩
  · obtain ⟨s', h⟩ := exists_writesByType t tr v hr (by decide) findReg_lmCtrl (by decide)
    have ⟨he, ha, hm, hs, _, hw⟩ := h
    exact ⟨s', he, ha, hm, hs, fun _ => hw, h.keeps_regs fun old => lmCtrlRow_newWord old v⟩

end Sys2Proof.Machine

/-!
# Modes

What each operation and each command makes of the mode of the module. `Turns ms s t` says that the mode of `t` is the one of `s` or
one of `ms`; most operations leave module control alone (`allButControl`), which their `_keeps` lemmas say. `steered` collects
the commands; the mode table (O54) and what leaves SAFE (O55) are read off it.
-/

namespace Sys2Proof.Machine
open Sys2Proof.Safety

/-- Every part but module control, which holds the mode. -/
def allButControl : List Part :=
  [.now, .pending, .regs, .shown, .writes, .masts, .log, .key, .lane, .intake, .time, .pos, .fb, .app, .queue, .bridge, .stay, .net,
   .sup, .field, .upd, .supply, .panel, .standby, .mon, .free, .mem]

theorem ctl_of_keeps {s t : State} (h : Keeps allButControl s t) : t.ctl = s.ctl := h.frame .ctl (by decide)

/-- The mode is as it was, or one of `ms`. -/
def Turns (ms : List Mode) (s t : State) : Prop := t.ctl.mode = s.ctl.mode ∨ t.ctl.mode ∈ ms

section
variable {ms : List Mode} {s0 s t : State}

theorem Turns.refl (ms : List Mode) (s : State) : Turns ms s s := .inl rfl

theorem Turns.trans (h : Turns ms s0 s) (g : Turns ms s t) : Turns ms s0 t := by
  obtain e | e := g
  · exact h.imp (e.trans ·) (e ▸ ·)
  · exact .inr e

theorem Turns.keeps (k : Keeps allButControl s t) (h : Turns ms s0 s) : Turns ms s0 t :=
  h.trans (.inl (congrArg _ (ctl_of_keeps k)))

theorem Turns.ite {c : Prop} [Decidable c] {a b : State} (ha : Turns ms s0 a) (hb : Turns ms s0 b) :
    Turns ms s0 (if c then a else b) := by split <;> assumption

/-- A mode that is one of `ms` or the one before, and is not the one before, is one of `ms`. -/
theorem Turns.mem (h : Turns ms s t) (hs : s.ctl.mode ∈ ms) : t.ctl.mode ∈ ms := h.elim (· ▸ hs) id

end

/-! ### The operations that enter a mode -/

theorem State.changeMode_mode (s : State) (m : Mode) : (s.changeMode m).ctl.mode = m := by
  unfold State.changeMode
  split
  · assumption
  · rw [ctl_of_keeps (State.enterMode_keeps _ rfl (.refl _ _))]; rfl

theorem State.enterStop_mode (s : State) (cause : Nat) : (s.enterStop cause).ctl.mode = .stop := s.changeMode_mode .stop

theorem State.enterRecovery_mode (s : State) : s.enterRecovery.ctl.mode = .recovery := s.changeMode_mode .recovery

section
variable {ms : List Mode} {s0 s : State}

theorem State.changeMode_turns (m : Mode) (hm : m ∈ ms) : Turns ms s0 (s.changeMode m) :=
  .inr ((s.changeMode_mode m).symm ▸ hm)

theorem State.enterSafe_turns (c : Nat) (hm : .safe ∈ ms) (h : Turns ms s0 s) : Turns ms s0 (s.enterSafe c) :=
  .ite (State.changeMode_turns _ hm) h

/-! ### Losses, disagreements and the join: at most SAFE is entered -/

theorem State.applyLoss_turns (m : Mast) (c o : Nat) (hm : .safe ∈ ms) (h : Turns ms s0 s) : Turns ms s0 (s.applyLoss m c o) :=
  .ite h <|
  .ite (.keeps (State.loseTriplex_keeps _ _ _ rfl (.refl _ s)) h) <|
  State.enterSafe_turns _ hm (.keeps (State.noteLoss_keeps _ _ _ rfl (.refl _ s)) h)

theorem State.applyLosses_turns (l : List (Mast × Nat × Nat)) (hm : .safe ∈ ms) (h : Turns ms s0 s) :
    Turns ms s0 (s.applyLosses l) := by
  unfold State.applyLosses
  split
  · exact h
  · exact State.applyLoss_turns _ _ _ hm h
  · exact State.enterSafe_turns _ hm (.keeps (.fold (fun _ _ g => State.noteLoss_keeps _ _ _ rfl g) (.refl _ s)) h)

theorem State.disagree_turns (o c : Nat) (hm : .safe ∈ ms) (h : Turns ms s0 s) : Turns ms s0 (s.disagree o c) :=
  State.enterSafe_turns _ hm (.keeps (State.raise_keeps _ _ _ rfl (.refl _ s)) h)

theorem State.judgeBeats_turns (hm : .safe ∈ ms) (h : Turns ms s0 s) : Turns ms s0 s.judgeBeats := by
  have lost (m c o) : Turns ms s0 ((s.noteLoss m c o).enterSafe 5) :=
    State.enterSafe_turns _ hm (.keeps (State.noteLoss_keeps _ _ _ rfl (.refl _ s)) h)
  have alone : Turns ms s0 s.alone := .keeps (State.alone_keeps rfl (.refl _ s)) h
  unfold State.judgeBeats
  refine .ite h ?_
  split
  · split
    · exact State.applyLoss_turns _ _ _ hm (.keeps (State.raise_keeps _ _ _ rfl (.refl _ s)) h)
    · exact alone
    · exact State.applyLosses_turns _ hm alone
  · exact .ite (lost _ _ _) (.ite (lost _ _ _) (.ite (.keeps (State.joinFail_keeps _ rfl (.refl _ s)) h) h))
  · exact h

theorem State.judgeDecisions_turns (obs : Mast) (hm : .safe ∈ ms) (h : Turns ms s0 s) : Turns ms s0 (s.judgeDecisions obs) := by
  have lost (m c o) : Turns ms s0 (s.applyLoss m c o) := State.applyLoss_turns _ _ _ hm h
  unfold State.judgeDecisions
  refine .ite h ?_
  split
  · exact .ite (lost _ _ _) (.ite (lost _ _ _) (.ite (lost _ _ _) h))
  · exact h
  · exact .ite (State.disagree_turns _ _ hm h) (.ite (State.disagree_turns _ _ hm h) h)
  · exact h

theorem State.checkLate_turns (hm : .safe ∈ ms) (h : Turns ms s0 s) : Turns ms s0 s.checkLate := by
  unfold State.checkLate
  split
  · exact h
  · have hl (x) : Turns ms s0 { s with lane := x } := .keeps (Keeps.upd_lane x rfl (.refl _ s)) h
    exact .ite (hl _) (State.applyLoss_turns _ _ _ hm (hl _))

theorem State.noCommit_turns (h : Turns ms s0 s) : Turns ms s0 s.noCommit := .keeps (State.noCommit_keeps rfl (.refl _ s)) h

theorem State.commitImage_turns (m : Mast) (h : Turns ms s0 s) : Turns ms s0 (s.commitImage m) :=
  .keeps (State.commitImage_keeps _ rfl (.refl _ s)) h

theorem State.commitDuplex_turns (n : Nat) (l : List Mast) (hm : .safe ∈ ms) (h : Turns ms s0 s) :
    Turns ms s0 (s.commitDuplex n l) := by
  have differ : Turns ms s0 (s.noCommit.disagree 1 n) := State.disagree_turns _ _ hm (State.noCommit_turns h)
  unfold State.commitDuplex
  split
  · exact .ite (State.commitImage_turns _ h) differ
  · exact .ite differ (State.noCommit_turns h)
  · exact h

theorem State.commitTriplex_turns (n : Nat) (l : List Mast) (hm : .safe ∈ ms) (h : Turns ms s0 s) :
    Turns ms s0 (s.commitTriplex n l) := by
  have outvoted (x m c o) : Turns ms s0 ((s.commitImage x).applyLoss m c o) :=
    State.applyLoss_turns _ _ _ hm (State.commitImage_turns _ h)
  unfold State.commitTriplex
  dsimp only
  split
  · exact .ite (State.commitImage_turns _ h) <|
      .ite (outvoted _ _ _ _) (.ite (outvoted _ _ _ _) (.ite (outvoted _ _ _ _)
        (State.enterSafe_turns _ hm (State.noCommit_turns h))))
  · split
    · exact .ite (.keeps (Keeps.upd_lane _ rfl (.refl _ _)) (State.commitImage_turns _ h)) <|
        .ite (State.disagree_turns _ _ hm (State.applyLoss_turns _ _ _ hm (State.noCommit_turns h))) (State.noCommit_turns h)
    · exact h
  · exact .ite (State.applyLoss_turns _ _ _ hm (State.noCommit_turns h)) (State.noCommit_turns h)
  · exact h

theorem State.finalEnds_turns (j : Join) (m : Mast) (d : Nat) (hm : .safe ∈ ms) (h : Turns ms s0 s) :
    Turns ms s0 (s.finalEnds j m d) := by
  have set (j) : Turns ms s0 (s.setJoin j) := .keeps (State.setJoin_keeps _ rfl (.refl _ s)) h
  unfold State.finalEnds
  dsimp only
  split
  · exact .ite (State.disagree_turns _ _ hm (set _)) <|
      .ite (.keeps (State.setJoin_keeps _ rfl (.refl _ _)) (set _)) (.keeps (State.joinFail_keeps _ rfl (.refl _ _)) (set _))
  · exact set _

/-! ### Digests of frames: at most SAFE is entered -/

theorem State.judgeDigests_turns (u : Nat) (o : Mast) (same : Nat → Bool) (l : List (Mast × Nat)) (hm : .safe ∈ ms)
    (h : Turns ms s0 s) : Turns ms s0 (s.judgeDigests u o same l) := by
  have lose (m c o) : Turns ms s0 (s.applyLoss m c o) := State.applyLoss_turns _ _ _ hm h
  unfold State.judgeDigests
  dsimp only
  split
  · exact .ite h <| .ite (lose _ _ _) <| .ite (lose _ _ _) <|
      .ite (State.applyLoss_turns _ _ _ hm (.keeps (State.raise_keeps _ _ _ rfl (.refl _ s)) h)) h
  · exact h

theorem State.depositFrame_turns (m : Mast) (u : Nat) (f : TxFrame) (hm : .safe ∈ ms) (h : Turns ms s0 s) :
    Turns ms s0 (s.depositFrame m u f) := by
  have set (x) : Turns ms s0 (s.setUnit u x) := .keeps (State.setUnit_keeps _ _ rfl (.refl _ s)) h
  unfold State.depositFrame
  split
  · exact .ite (set _) (State.judgeDigests_turns _ _ _ _ hm (set _))
  · exact set _

theorem State.netDeposit_turns (m : Mast) (f : TxFrame) (hm : .safe ∈ ms) (h : Turns ms s0 s) :
    Turns ms s0 (s.netDeposit m f) := by
  have deposits (l : List TxFrame) : Turns ms s0 (l.foldl (fun s g => s.depositFrame m (planeOf g.port - 1) g) s) := by
    induction l generalizing s with
    | nil => exact h
    | cons g l ih => exact ih (State.depositFrame_turns _ _ _ hm h)
  exact .ite (.keeps (State.prpCount_keeps _ _ rfl (.refl _ _)) (deposits _)) (deposits _)

theorem State.passFrame_turns (u : Nat) (x : UnitFrame) (d : Bool) (hm : .safe ∈ ms) (h : Turns ms s0 s) :
    Turns ms s0 (s.passFrame u x d) :=
  .ite (State.judgeDigests_turns _ _ _ _ hm (.keeps (State.sendFrame_keeps _ _ _ rfl (.refl _ s)) h)) <|
  State.judgeDigests_turns _ _ _ _ hm <|
  .keeps
    (State.incF_keeps _ _ _ rfl <|
      State.setUnit_keeps _ _ rfl <|
      .ite (.refl _ s) (State.dropFrame_keeps _ _ _ _ rfl (.refl _ s)))
    h

end
end Sys2Proof.Machine

namespace Sys2Proof.Machine
open Sys2Proof.Safety

/-! ### The start: BOOT, SAFE or RECOVERY -/

section
variable {ms : List Mode} {s0 s : State}

theorem State.during_turns (k : Nat) {f : State → State} (hf : ∀ u, Turns ms u (f u)) (h : Turns ms s0 s) :
    Turns ms s0 (s.during k f) := h.trans (hf _)

theorem State.during_turns_of_keeps (k : Nat) {f : State → State}
    (hf : ∀ u0 u, Keeps (.now :: allButControl) u0 u → Keeps (.now :: allButControl) u0 (f u))
    (h : Turns ms s0 s) : Turns ms s0 (s.during k f) :=
  .keeps (State.during_keeps k f rfl hf (.refl _ s)) h

theorem State.bootPair_turns (m : Mast) (env : BootEnv) (hm : .safe ∈ ms) (h : Turns ms s0 s) :
    Turns ms s0 (s.bootPair m env) := by
  dsimp -zeta only [State.bootPair]
  extract_lets lost s1 iso _ s2 s3 _ l active s4 s5
  have h1 : Turns ms s0 s1 :=
    .keeps (.fold (fun _ _ g => State.cutPower_keeps _ rfl (Keeps.setMast _ _ rfl rfl g)) (.refl _ s)) h
  have h3 : Turns ms s0 s3 :=
    .keeps
      (State.bootCheckers_keeps _ _ rfl <| State.bootSilence_keeps _ rfl <| State.powerMast_keeps _ rfl <|
        Keeps.upd_lane _ rfl (.refl _ s1))
      h1
  exact .ite (State.changeMode_turns _ hm) <|
    .keeps (State.setLane_keeps _ rfl (.fold (fun _ _ g => State.crossbar_keeps _ _ rfl g) (Keeps.upd_lane _ rfl (.refl _ s3)))) h3

theorem State.bootSelftests_turns (env : BootEnv) (hm : .safe ∈ ms) (h : Turns ms s0 s) : Turns ms s0 (s.bootSelftests env) := by
  have checked : Turns ms s0 ([Mast.a, .b, .c].foldl (fun s m => s.bootCheckers env.checkers m) s) :=
    .keeps (.fold (fun _ _ g => State.bootCheckers_keeps _ _ rfl g) (.refl _ s)) h
  unfold State.bootSelftests
  dsimp only
  split
  · exact checked
  · split
    · exact .keeps (State.bootIsolate_keeps _ rfl (.refl _ _)) checked
    · exact checked
  · exact State.bootPair_turns _ _ hm checked
  · exact State.changeMode_turns _ hm

theorem State.bootFirmware_turns (hm : .recovery ∈ ms) (h : Turns ms s0 s) : Turns ms s0 s.bootFirmware := by
  unfold State.bootFirmware
  dsimp only
  split
  · exact .keeps (State.bootMinority_keeps _ rfl (State.putF_keeps _ _ _ rfl (.refl _ s))) h
  · exact .keeps (State.bootMinority_keeps _ rfl (State.putF_keeps _ _ _ rfl (State.raise_keeps _ _ _ rfl (.refl _ _)))) <|
      h.trans (.inl rfl)
  · exact .inr (s.enterRecovery_mode ▸ hm)

theorem State.bootRun_turns (env : BootEnv) (hs : .safe ∈ ms) (hr : .recovery ∈ ms) : Turns ms s (s.bootRun env) := by
  dsimp -zeta only [State.bootRun]
  extract_lets s1 s2 s3 s4 s5 taken s6 s7 s8 s9
  have h1 : Turns ms s s1 :=
    State.during_turns_of_keeps _ (fun _ _ g => .fold (fun _ _ g => State.bootSilence_keeps _ rfl g) g) (.refl _ s)
  have h3 : Turns ms s s3 :=
    State.during_turns _ (fun _ => State.bootSelftests_turns _ hs (.refl _ _)) (.keeps (State.bootOtp_keeps _ rfl (.refl _ s1)) h1)
  have h5 : Turns ms s s5 :=
    State.during_turns_of_keeps _ (fun _ _ g => State.bootRecords_keeps rfl g) (.keeps (State.grantToken_keeps rfl (.refl _ s3)) h3)
  have h6 : Turns ms s s6 :=
    .keeps (State.bootChecks_keeps _ _ rfl (.refl _ _))
      (State.during_turns_of_keeps _ (fun _ _ g => State.bootKey_keeps _ rfl g) h5)
  have h7 : Turns ms s s7 := State.during_turns _ (fun _ => State.bootFirmware_turns hr (.refl _ _)) h6
  have h9 : Turns ms s s9 :=
    State.during_turns_of_keeps _ (fun _ _ g => State.bootConfig_keeps rfl g) <|
    State.during_turns_of_keeps _
      (fun _ _ g => State.showVersions_keeps rfl (State.bootApplication_keeps _ rfl (State.bootSettings_keeps _ rfl g))) h7
  exact .ite h3 (.ite h7 (.keeps (State.bootLane_keeps _ rfl (.refl _ s9)) h9))

end

/-- The modes a reset may end in (R29, R30). -/
def resetModes : List Mode := [.boot, .safe, .recovery]

theorem State.bootPower_mode (s : State) : s.bootPower.ctl.mode = .boot := by
  unfold State.bootPower
  rw [ctl_of_keeps (State.showHoldup_keeps rfl <| State.showLane_keeps rfl <|
    .fold (fun _ _ g => State.powerMast_keeps _ rfl g) (.refl _ _))]

theorem State.bootRun_mode {s t : State} (env : BootEnv) (hs : s.ctl.mode = .boot) (k : Keeps allButControl s t) :
    (t.bootRun env).ctl.mode ∈ resetModes :=
  Turns.mem (s := s) (.trans (.keeps k (.refl _ s)) (State.bootRun_turns env (by decide) (by decide))) (hs ▸ by decide)

theorem State.moduleReset_mode (s : State) (f : Fld) (env : BootEnv) : (s.moduleReset f env).ctl.mode ∈ resetModes :=
  State.bootRun_mode env (State.bootPower_mode _) (State.raise_keeps _ _ _ rfl (.refl _ _))

theorem State.stuckReset_mode (s : State) (env : BootEnv) : (s.stuckReset env).ctl.mode ∈ resetModes := by
  unfold State.stuckReset
  rw [ctl_of_keeps (State.stuckButton_keeps _ rfl (.refl _ _))]
  exact s.moduleReset_mode _ env

theorem State.powerUp_mode (s : State) (env : BootEnv) : (s.powerUp env).ctl.mode ∈ resetModes := by
  dsimp -zeta only [State.powerUp]
  extract_lets s1 panel _ s2 s3 s4 s5
  have h4 : Keeps allButControl s3 s4 := State.raise_keeps _ _ _ rfl (.refl _ s3)
  have h5 : Keeps allButControl s3 s5 := .ite (State.stuckButton_keeps _ rfl (State.putF_keeps _ _ _ rfl h4)) h4
  exact State.bootRun_mode env (State.bootPower_mode _) h5

theorem State.bare_ctl (s : State) : s.bare.ctl = {} := rfl

theorem State.powerDown_mode (s : State) : s.powerDown.ctl.mode = .boot := by
  unfold State.powerDown
  dsimp only
  rw [State.bare_ctl]

theorem State.holdReset_mode (s : State) : s.holdReset.ctl.mode = .boot := by
  unfold State.holdReset
  dsimp only
  rw [ctl_of_keeps (.fold (fun _ _ g => State.putF_keeps _ _ _ rfl g) (.refl _ _)), State.bare_ctl]

/-! ### Activation, STANDBY and wake -/

section
variable {ms : List Mode} {s0 s : State}

theorem State.activateWith_turns (told : State → State) (code : Nat) (skip : Bool) (f : JuryFinding) (lost : Option Mast)
    (env : BootEnv) : Turns resetModes s (s.activateWith told code skip f lost env) := by
  have reset (u : State) (x : Fld) : Turns resetModes s (u.moduleReset x env) := .inr (u.moduleReset_mode x env)
  have done (r x : Nat) : Turns resetModes s (s.upDone code r x) := .keeps (State.upDone_keeps _ _ _ rfl (.refl _ s)) (.refl _ s)
  unfold State.activateWith
  dsimp only
  refine .ite (done _ _) (.ite (done _ _) (.ite (reset _ _) ?_))
  split
  · exact State.applyLoss_turns _ _ _ (by decide) (.keeps (State.stepAside_keeps rfl (.refl _ s)) (.refl _ s))
  · exact .ite (reset _ _) (reset _ _)

theorem State.goStandby_mode (s : State) : s.goStandby.ctl.mode = .standby := by
  dsimp -zeta only [State.goStandby]
  extract_lets awake recorded timer _ s1 s2 _ s3 s4 x s5 s6 s7
  have h : s7.ctl = s2.ctl :=
    ctl_of_keeps <|
    State.resetField_keeps _ rfl <|
    .fold (fun _ _ g => State.sleepMast_keeps _ rfl g) <|
    Keeps.setMast _ _ rfl rfl <|
    State.logAtInstant_keeps rfl <|
    State.raise_keeps _ _ _ rfl <|
    State.putF_keeps _ _ _ rfl <|
    Keeps.upd_app _ rfl (.refl _ s2)
  show s7.ctl.mode = .standby
  rw [h]
  exact State.changeMode_mode _ _

theorem State.enterStandby_turns : Turns [.stop, .standby] s s.enterStandby := by
  have ready : Turns [.stop, .standby] s ((s.putF .agreed fMcWakecfgResumeRun (b2n (s.ctl.mode == .run))).writeCheckpoint) :=
    .keeps (State.writeCheckpoint_keeps rfl (State.putF_keeps _ _ _ rfl (.refl _ s))) (.refl _ s)
  exact .ite
    (.keeps (State.raise_keeps _ _ _ rfl (.refl _ _)) (.ite (State.changeMode_turns .stop (by decide)) ready))
    (.inr ((State.goStandby_mode _).symm ▸ by decide))

theorem State.restart_keeps (cold : Nat) :
    Keeps allButControl s (if cold = 1 then s.coldStart else if cold = 2 then s.warmStart else s.resumeStart) :=
  .ite (State.coldStart_keeps rfl (.refl _ s))
    (.ite (State.warmStart_keeps rfl (.refl _ s)) (State.resumeStart_keeps rfl (.refl _ s)))

theorem State.beginRun_ctl (s : State) (cold : Bool) : (s.beginRun cold).ctl = (s.changeMode .run).ctl := by
  dsimp -zeta only [State.beginRun]
  extract_lets r s1 s2 n started _ _ _ s3 c s4 s5 s6
  have h2 : s2.ctl = s1.ctl := ctl_of_keeps (State.restart_keeps r.1)
  have h5 : s5.ctl = s3.ctl :=
    ctl_of_keeps <| State.putF_keeps _ _ _ rfl <| State.putF_keeps _ _ _ rfl <| State.raise_keeps _ _ _ rfl <|
    State.putF_keeps _ _ _ rfl <| State.putF_keeps _ _ _ rfl (.refl _ s3)
  have h6 : s6.ctl = s5.ctl := ctl_of_keeps (.ite (State.putF_keeps _ _ _ rfl (.refl _ s5)) (.refl _ s5))
  rw [ctl_of_keeps (State.setRun_keeps _ rfl (State.scForget_keeps rfl (.refl _ s6))), h6, h5, show s3.ctl = s2.ctl from rfl, h2]

theorem State.beginRun_mode (s : State) (cold : Bool) : (s.beginRun cold).ctl.mode = .run := by
  rw [State.beginRun_ctl, State.changeMode_mode]

theorem State.wakeUp_mode (s : State) (n : Nat) (m : Mast) : (s.wakeUp n m).ctl.mode ∈ [Mode.stop, .run] := by
  dsimp -zeta only [State.wakeUp]
  extract_lets awake x s1 s2 _ s3 s4 s5 s6 run _ s7 s8 s9 s10 s11
  have h8 : s8.ctl.mode = .stop := by
    unfold s8
    split
    · exact State.changeMode_mode _ _
    · exact State.enterStop_mode _ _
  have h9 : s9.ctl.mode = .stop := (congrArg _ (ctl_of_keeps (State.fbStart_keeps rfl (.refl _ s8)))).trans h8
  have h10 : s10.ctl.mode ∈ [Mode.stop, .run] := by
    unfold s10
    split
    · rw [State.beginRun_mode]; decide
    · rw [h9]; decide
  rwa [ctl_of_keeps (State.raise_keeps _ _ _ rfl (State.putF_keeps _ _ _ rfl (State.putF_keeps _ _ _ rfl (.refl _ s10))))]

theorem State.wakeFailed_mode (s : State) (n : Nat) (env : BootEnv) : (s.wakeFailed n env).ctl.mode ∈ resetModes :=
  State.moduleReset_mode _ _ env

/-! ### The action instant and the monitor's logout -/

/-- The modes that an action instant ends with STOP (R27). -/
def stopsAtInstant : List Mode := [.boot, .service, .run, .hold]

theorem State.reachStop_turns : Turns [.stop] s s.reachStop := by
  dsimp -zeta only [State.reachStop]
  split
  · exact .refl _ s
  · extract_lets s1 took s2 s3
    have h1 : Turns [.stop] s s1 := .inr ((State.enterStop_mode _ _).symm ▸ by decide)
    have h2 : Turns [.stop] s s2 := .keeps (State.putF_keeps _ _ _ rfl (.refl _ s1)) h1
    exact .keeps (Keeps.upd_log _ rfl (.refl _ s3)) (.ite (.keeps (State.raise_keeps _ _ _ rfl (.refl _ s2)) h2) h2)

theorem State.modeAtInstant_turns : Turns [.stop] s s.modeAtInstant := by
  unfold State.modeAtInstant
  split
  · exact State.reachStop_turns
  · exact .ite (.inr ((State.enterStop_mode _ _).symm ▸ by decide)) (.refl _ s)
  · exact .ite (.inr ((State.enterStop_mode _ _).symm ▸ by decide)) (.refl _ s)
  · exact .refl _ s

theorem State.appAtInstant_turns : Turns [.stop] s s.appAtInstant := by
  have stops (u : State) (n : Nat) : Turns [.stop] s (u.enterStop n) := .inr ((u.enterStop_mode n).symm ▸ by decide)
  unfold State.appAtInstant
  refine .ite (.refl _ s) ?_
  dsimp only
  split
  · exact stops _ _
  · split
    · exact .ite (stops _ _) (.keeps (Keeps.upd_app _ rfl (.refl _ s)) (.refl _ s))
    · exact .keeps (Keeps.upd_app _ rfl (.refl _ s)) (.refl _ s)

/-- What an action instant may make of a mode: STOP, of one of those it may end. -/
def instantModes (m : Mode) : List Mode := if stopsAtInstant.contains m then [.stop] else []

theorem State.modesAtInstant_turns : Turns (instantModes s.ctl.mode) s s.modeAtInstant.joinAtInstant.appAtInstant := by
  have join (u : State) : u.joinAtInstant.ctl = u.ctl := ctl_of_keeps (State.joinAtInstant_keeps rfl (.refl _ u))
  unfold instantModes
  split
  · exact State.modeAtInstant_turns.trans (.trans (.inl (congrArg _ (join _))) State.appAtInstant_turns)
  · next h =>
    have hm : s.modeAtInstant = s := by
      unfold State.modeAtInstant
      split <;> simp_all [stopsAtInstant]
    have ha : s.joinAtInstant.appAtInstant = s.joinAtInstant := by
      unfold State.appAtInstant State.inMode
      rw [join]
      refine if_pos ?_
      revert h
      cases s.ctl.mode <;> decide
    rw [hm, ha]
    exact .inl (congrArg _ (join s))

theorem State.instant_turns (n at' : Nat) : Turns (instantModes s.ctl.mode) s (s.instant n at') := by
  dsimp -zeta only [State.instant]
  extract_lets previous long s1 boot s2 gates s3 s4
  have h1 : s1.ctl = s.ctl := ctl_of_keeps (State.combineAll_keeps rfl (State.aiTick_keeps _ _ rfl (.refl _ s)))
  have h2 : Turns (instantModes s.ctl.mode) s s2 :=
    .keeps (State.intakeDecide_keeps rfl (State.commitAtInstant_keeps rfl (State.forcesAtInstant_keeps rfl (.refl _ _)))) <|
    .trans (.inl (congrArg _ h1)) (h1 ▸ State.modesAtInstant_turns)
  have h3 : Keeps allButControl s2 s3 :=
    State.fieldAtInstant_keeps _ rfl <| State.fbAtInstant_keeps _ _ rfl <| State.bridgeAtInstant_keeps rfl <|
    State.slAtInstant_keeps rfl <| State.openInterfaces_keeps rfl <| State.netAtInstant_keeps rfl (.refl _ s2)
  have h4 : Keeps allButControl s2 s4 := .ite (State.fbStart_keeps rfl h3) h3
  exact .keeps
    (State.publish_keeps rfl <| State.showTemps_keeps rfl <| State.logAtInstant_keeps rfl <| State.supplyAtInstant_keeps rfl <|
      State.tachoAtInstant_keeps rfl <| State.cmpAtInstant_keeps rfl <| State.exitAtInstant_keeps rfl <|
      State.spAtInstant_keeps rfl h4)
    h2

end
end Sys2Proof.Machine

namespace Sys2Proof.Machine
open Sys2Proof.Safety

/-! ### What each command does to the mode -/

/-- Mode `b` may follow on mode `a` at command `c`: R27's table allows it, and SAFE is left by power or pushbutton alone. -/
def mayTurn (c : Instr) (a b : Mode) : Bool := mayFollow a b && (leavesSafe c || a != .safe || b == .safe)

theorem mayTurn_self (c : Instr) (a : Mode) : mayTurn c a a = true := by
  unfold mayTurn
  cases leavesSafe c <;> cases a <;> rfl

theorem mayTurn_safe (c : Instr) (a : Mode) : mayTurn c a .safe = true := by simp [mayTurn, mayFollow]

/-- What follows the answer is a mode that may follow. -/
def Steers (c : Instr) (s : State) (r : Result) : Prop := ∀ t, r = .next t → mayTurn c s.ctl.mode t.ctl.mode = true

/-- Whatever the state, the command leads to a mode that may follow. -/
def Steered (c : Instr) : Prop := ∀ s, Steers c s (exec c s)

section
variable {c : Instr} {s t : State}

theorem Steers.turns {ms : List Mode} (h : Turns ms s t) (hm : ms.all (mayTurn c s.ctl.mode) = true) : Steers c s (ok t) := by
  intro u e
  cases e
  exact h.elim (fun e => e ▸ mayTurn_self c _) (List.all_eq_true.1 hm _)

theorem Steers.keeps (k : Keeps allButControl s t) : Steers c s (ok t) := .turns (ms := []) (.keeps k (.refl _ s)) rfl

/-- A command that leads to SAFE at most. -/
theorem Steers.safe (h : Turns [.safe] s t) : Steers c s (ok t) :=
  .turns h (by simp [mayTurn_safe])

theorem Steers.ite {p : Prop} [Decidable p] {a b : Result} (ha : Steers c s a) (hb : Steers c s b) :
    Steers c s (if p then a else b) := by split <;> assumption

/-- A reset from a mode other than SAFE, or at a command that may leave SAFE. -/
theorem Steers.reset (h : Turns resetModes s t) (hs : leavesSafe c = true ∨ s.ctl.mode ≠ .safe) : Steers c s (ok t) :=
  .turns h (by obtain h | h := hs <;> simp [resetModes, mayTurn, mayFollow, h])

/-- The clock has moved: nothing of it reaches the mode. -/
theorem advance_allButControl (s : State) (t : Nat) : Keeps allButControl s (s.advance t) := State.advance_keeps t rfl (.refl _ s)

/-- A command outside whose frame module control lies. -/
theorem Steered.of_framed (h : Part.ctl ∉ touches c) : Steered c := fun s u e => by
  obtain ⟨t, e', k⟩ := framed c s
  cases e.symm.trans e'
  rw [show u.ctl = s.ctl from k.frame .ctl h]
  exact mayTurn_self c _

end

theorem mode_of_inMode {s : State} {l : List Mode} (h : s.inMode l = true) : s.ctl.mode ∈ l := List.contains_iff_mem.1 h

theorem State.mcGate_none {s : State} {w : Per Bool} {code : Nat} {modes : List Mode} (h : s.mcGate w code modes = none) :
    s.ctl.mode ∈ modes := by
  unfold State.mcGate at h
  split at h
  · cases h
  · split at h
    · cases h
    · split at h
      · cases h
      · next hn => exact mode_of_inMode (by simpa using hn)

theorem State.upGate_none {s : State} {w : Per Bool} {code : Nat} {modes : List Mode} {l : List Nat}
    (h : s.upGate w code modes l = none) : s.ctl.mode ∈ modes := by
  unfold State.upGate at h
  split at h
  · cases h
  · split at h
    · cases h
    · next hn => exact mode_of_inMode (by simpa using hn)

/-! #### Boot, reset and recovery -/

theorem powerOn_steered (t env) : Steered (.powerOn t env) := fun s =>
  .ite (.keeps (advance_allButControl s t)) (.reset (.inr (State.powerUp_mode _ env)) (.inl rfl))

theorem autostart_steered (t) : Steered (.autostart t) := by
  intro s
  show Steers _ s (ok (s.advance t).autostart)
  unfold State.autostart
  split
  · exact .keeps (advance_allButControl s t)
  · next h =>
    have hs : s.ctl.mode = .stop := by simpa using not_or.1 h |>.1
    have idle (x) : Keeps allButControl s { s.advance t with panel := x } := Keeps.upd_panel x rfl (advance_allButControl s t)
    dsimp only
    split
    · exact .keeps (idle _)
    · split
      · exact .keeps (State.raise_keeps _ _ _ rfl (idle _))
      · exact .turns (ms := [.run]) (.inr ((State.beginRun_mode _ _).symm ▸ by decide)) (by rw [hs]; rfl)

theorem buttonDebounceExpiry_steered (t) : Steered (.buttonDebounceExpiry t) := fun s =>
  have pressed := State.putF_keeps .agreed fMcButtonPressed 1 rfl (advance_allButControl s t)
  .ite (.keeps (advance_allButControl s t)) <|
  .ite (.keeps pressed) (.reset (.inr ((State.holdReset_mode _).symm ▸ by decide)) (.inl rfl))

theorem buttonContactRelease_steered (t env) : Steered (.buttonContactRelease t env) := fun s =>
  .ite (.keeps (advance_allButControl s t)) <|
  .reset
    (.keeps (State.putF_keeps _ _ _ rfl (Keeps.upd_panel _ rfl (.refl _ _))) <|
      .ite (.keeps (advance_allButControl s t) (.refl _ s)) <|
      .ite (.inr (State.moduleReset_mode _ _ env)) (.inr (State.stuckReset_mode _ env)))
    (.inl rfl)

theorem buttonStuckExpiry_steered (t env) : Steered (.buttonStuckExpiry t env) := fun s =>
  .ite (.keeps (advance_allButControl s t)) (.reset (.inr (State.stuckReset_mode _ env)) (.inl rfl))

theorem recoveryBreakExpiry_steered (t) : Steered (.recoveryBreakExpiry t) := by
  intro s
  dsimp only [exec, execRecoveryBreakExpiry]
  split
  · exact .keeps (advance_allButControl s t)
  · split
    · exact .keeps (advance_allButControl s t)
    · next h =>
      have hs : s.ctl.mode ∈ [Mode.boot, .stop] := mode_of_inMode (s := s.advance t) (by simpa using not_or.1 h |>.2)
      refine .reset (.inr ((State.enterRecovery_mode _).symm ▸ by decide)) (.inr fun e => ?_)
      exact absurd (e ▸ hs) (by decide)

/-! #### Mode commands, STANDBY and wake -/

/-- Past the gate of a command for the modes `modes`, one of them stood before. -/
theorem Steers.gated {c : Instr} {s u v : State} {w : Per Bool} {code : Nat} {modes ms : List Mode} (k : Keeps allButControl s u)
    (hg : u.mcGate w code modes = none) (h : Turns ms s v) (hm : modes.all (fun a => ms.all (mayTurn c a)) = true) :
    Steers c s (ok v) :=
  .turns h (List.all_eq_true.1 hm _ (ctl_of_keeps k ▸ State.mcGate_none hg))

theorem startCommand_steers {c : Instr} {s u : State} {w : Per Bool} {code : Nat} (k : Keeps allButControl s u)
    (hg : u.mcGate w code [.stop] = none) (cold : Bool) : Steers c s (ok (u.startCommand cold code)) := by
  have turns (v) (h : Turns [.run] s v) : Steers c s (ok v) := .gated k hg h (by simp [mayTurn, mayFollow])
  unfold State.startCommand
  dsimp only
  split
  · exact .keeps (State.raise_keeps _ _ _ rfl (State.mcDone_keeps _ _ _ rfl k))
  · exact turns _ (.inr ((State.beginRun_mode _ _).symm ▸ by decide))

theorem start_steered (t w) : Steered (.start t w) := by
  intro s
  dsimp only [exec, execStart]
  split
  · next e => exact .keeps (State.mcGate_keeps e rfl (advance_allButControl s t))
  · next e => exact startCommand_steers (advance_allButControl s t) e _

theorem startCold_steered (t w) : Steered (.startCold t w) := by
  intro s
  dsimp only [exec, execStartCold]
  split
  · next e => exact .keeps (State.mcGate_keeps e rfl (advance_allButControl s t))
  · next e => exact startCommand_steers (advance_allButControl s t) e _

theorem stop_steered (t w) : Steered (.stop t w) := by
  intro s
  dsimp only [exec, execStop]
  split
  · next e => exact .keeps (State.mcGate_keeps e rfl (advance_allButControl s t))
  · next e =>
    exact .gated (ms := [.stop]) (advance_allButControl s t) e (.inr ((State.enterStop_mode _ _).symm ▸ by decide)) rfl

theorem hold_steered (t w) : Steered (.hold t w) := by
  intro s
  dsimp only [exec, execHold]
  split
  · next e => exact .keeps (State.mcGate_keeps e rfl (advance_allButControl s t))
  · next e =>
    refine .ite (.keeps (State.mcDone_keeps _ _ _ rfl (advance_allButControl s t))) ?_
    refine .gated (ms := [.hold]) (advance_allButControl s t) e ?_ rfl
    exact .keeps (State.settleHold_keeps rfl (Keeps.upd_app _ rfl (.refl _ _))) (State.changeMode_turns _ (by decide))

theorem resume_steered (t w) : Steered (.resume t w) := by
  intro s
  dsimp only [exec, execResume]
  split
  · next e => exact .keeps (State.mcGate_keeps e rfl (advance_allButControl s t))
  · next e =>
    refine .gated (ms := [.run]) (advance_allButControl s t) e ?_ rfl
    exact .keeps (State.setRun_keeps _ rfl (Keeps.upd_app _ rfl (.refl _ _))) (State.changeMode_turns _ (by decide))

theorem standby_steered (t w) : Steered (.standby t w) := by
  intro s
  dsimp only [exec, execStandby]
  split
  · next e => exact .keeps (State.mcGate_keeps e rfl (advance_allButControl s t))
  · next e =>
    have done (r x) : Keeps allButControl s ((s.advance t).mcDone 6 r x) := State.mcDone_keeps _ _ _ rfl (advance_allButControl s t)
    refine .ite ?_ (.keeps (State.raise_keeps _ _ _ rfl (done _ _)))
    exact .gated (advance_allButControl s t) e (.trans (.keeps (done _ _) (.refl _ s)) State.enterStandby_turns) rfl

theorem service_steered (t w) : Steered (.service t w) := by
  intro s
  dsimp only [exec, execService]
  split
  · next e => exact .keeps (State.mcGate_keeps e rfl (advance_allButControl s t))
  · next e =>
    refine .ite (.keeps (State.mcDone_keeps _ _ _ rfl (advance_allButControl s t))) ?_
    exact .gated (ms := [.service]) (advance_allButControl s t) e (State.changeMode_turns _ (by decide)) rfl

theorem leave_steered (t w) : Steered (.leave t w) := by
  intro s
  dsimp only [exec, execLeave]
  split
  · next e => exact .keeps (State.mcGate_keeps e rfl (advance_allButControl s t))
  · next e =>
    exact .gated (ms := [.stop]) (advance_allButControl s t) e (.inr ((State.enterStop_mode _ _).symm ▸ by decide)) rfl

/-- Past the gate of RESET the mode is STOP or SERVICE. -/
theorem Steers.resetGated {c : Instr} {s u : State} {w : Per Bool} {code : Nat} (k : Keeps allButControl s u)
    (hg : u.mcGate w code [.stop, .service] = none) (v : State) (f : Fld) (env : BootEnv) :
    Steers c s (ok (v.moduleReset f env)) := by
  refine .reset (.inr (State.moduleReset_mode _ _ env)) (.inr fun e => ?_)
  exact absurd (e ▸ ctl_of_keeps k ▸ State.mcGate_none hg) (by decide)

theorem reset_steered (t w env) : Steered (.reset t w env) := by
  intro s
  dsimp only [exec, execReset]
  split
  · next e => exact .keeps (State.mcGate_keeps e rfl (advance_allButControl s t))
  · next e => exact .resetGated (advance_allButControl s t) e _ _ env

theorem holdTimeout_steered (t) : Steered (.holdTimeout t) := by
  intro s
  show Steers _ s (ok (s.advance t).holdTimeout)
  unfold State.holdTimeout
  split
  · exact .keeps (advance_allButControl s t)
  · next h =>
    have hs : s.ctl.mode = .hold := by simpa using not_or.1 h |>.1
    exact .turns (ms := [.stop]) (.inr ((State.enterStop_mode _ _).symm ▸ by decide)) (by rw [hs]; rfl)

theorem wakeEvent_steered (t src f n env) : Steered (.wakeEvent t src f n env) := by
  intro s
  dsimp only [exec, execWakeEvent]
  split
  · exact .keeps (advance_allButControl s t)
  · next h =>
    have hs : s.ctl.mode = .standby := by simpa using not_or.1 h |>.1
    have fails (u : State) (x) : Steers (.wakeEvent t src f n env) s (ok (u.wakeFailed x env)) :=
      .reset (.inr (State.wakeFailed_mode _ _ env)) (.inr fun e => nomatch e.symm.trans hs)
    refine .ite (fails _ _) ?_
    split
    · exact fails _ _
    · exact .turns (.inr (State.wakeUp_mode _ _ _)) (by rw [hs]; rfl)

theorem standbyMastFault_steered (t env) : Steered (.standbyMastFault t env) := by
  intro s
  dsimp only [exec, execStandbyMastFault]
  split
  · next hs => exact .reset (.inr (State.moduleReset_mode _ _ env)) (.inr fun e => nomatch e.symm.trans hs)
  · exact .keeps (advance_allButControl s t)

/-! #### Instants, commits, beats and frames -/

theorem instantModes_mayTurn (t : Nat) (m : Mode) : (instantModes m).all (mayTurn (.actionInstant t) m) = true := by
  cases m <;> rfl

theorem actionInstant_steered (t) : Steered (.actionInstant t) := by
  intro s
  dsimp only [exec, execActionInstant]
  split
  · refine .ite ?_ (.keeps (advance_allButControl s t))
    exact .turns (.trans (.keeps (advance_allButControl s t) (.refl _ s)) (State.instant_turns _ _)) (instantModes_mayTurn t _)
  · exact .keeps (advance_allButControl s t)

theorem commitPoint_steered (t) : Steered (.commitPoint t) := by
  intro s
  dsimp -zeta only [exec, execCommitPoint]
  extract_lets s1
  have h1 : Keeps allButControl s s1 := advance_allButControl s t
  split
  · exact .keeps h1
  · extract_lets s2 s3 s4
    have h2 : Keeps allButControl s s2 := Keeps.upd_lane _ rfl h1
    have h3 : Turns [.safe] s s3 := State.checkLate_turns (by decide) (.keeps h2 (.refl _ s))
    have h4 : Turns [.safe] s s4 := .keeps (Keeps.upd_lane _ rfl (.refl _ s3)) h3
    refine .ite (.keeps h2) (.ite (.safe h3) ?_)
    split
    · exact .safe h4
    · have shown (n l) : Turns [.safe] s (s4.showVote n l) := .keeps (State.showVote_keeps _ _ rfl (.refl _ s4)) h4
      exact .ite (.safe (State.commitTriplex_turns _ _ (by decide) (shown _ _)))
        (.safe (State.commitDuplex_turns _ _ (by decide) (shown _ _)))

end Sys2Proof.Machine

namespace Sys2Proof.Machine
open Sys2Proof.Safety

theorem hb1BeatReceived_steered (t obs peer bytes) : Steered (.hb1BeatReceived t obs peer bytes) := by
  intro s
  dsimp -zeta only [exec, execHb1BeatReceived]
  extract_lets s1 x p view listed y s2 s3 told
  have h1 : Keeps allButControl s s1 := advance_allButControl s t
  have h2 : Keeps allButControl s s2 := State.setHb_keeps _ _ _ rfl h1
  have h3 : Keeps allButControl s s3 := .ite (State.raiseM_keeps _ _ _ _ rfl h2) h2
  exact .ite (.keeps h1) <|
    .ite (.keeps (State.requestSilent_keeps _ _ rfl h3)) <|
    .safe (State.judgeDecisions_turns _ (by decide) (State.judgeBeats_turns (by decide) (.keeps h3 (.refl _ s))))

theorem hb2Edge_steered (t obs peer) : Steered (.hb2Edge t obs peer) := fun s =>
  have beat (x) := State.setHb_keeps obs peer x rfl (advance_allButControl s t)
  .ite (.keeps (advance_allButControl s t)) <|
  .safe (State.judgeBeats_turns (by decide) (.keeps (.ite (State.raiseM_keeps _ _ _ _ rfl (beat _)) (beat _)) (.refl _ s)))

theorem heartbeatMissed_steered (t obs peer hb1 hb2) : Steered (.heartbeatMissed t obs peer hb1 hb2) := by
  intro s
  dsimp -zeta only [exec, execHeartbeatMissed]
  extract_lets s1 x one two p q s2 s3 s4 told s5 s6
  have h1 : Keeps allButControl s s1 := advance_allButControl s t
  have h2 : Keeps allButControl s s2 := .ite (State.incF_keeps _ _ _ rfl h1) h1
  have h4 : Keeps allButControl s s4 := State.setHb_keeps _ _ _ rfl (.ite (State.incF_keeps _ _ _ rfl h2) h2)
  have h5 : Keeps allButControl s s5 := .ite (State.raiseM_keeps _ _ _ _ rfl h4) h4
  have h6 : Keeps allButControl s s6 := .ite (State.raiseM_keeps _ _ _ _ rfl h5) h5
  exact .ite (.keeps h1) (.safe (State.judgeBeats_turns (by decide) (.keeps (State.outcastAlone_keeps _ rfl h6) (.refl _ s))))

theorem checkpointPageRecord_steered (t m r) : Steered (.checkpointPageRecord t m r) := by
  intro s
  have h := advance_allButControl s t
  dsimp only [exec, execCheckpointPageRecord]
  split
  · exact .keeps h
  · exact .ite (.keeps h) <|
      .ite (.keeps (State.retryPage_keeps _ _ _ _ rfl h)) <|
      .ite (.keeps (State.pageArrives_keeps _ _ _ rfl h)) <|
      .ite (.keeps (State.roundEnds_keeps _ _ rfl h)) <|
      .ite (.safe (State.finalEnds_turns _ _ _ (by decide) (.keeps h (.refl _ s)))) (.keeps h)

theorem frameDigestDeposit_steered (t m u f) : Steered (.frameDigestDeposit t m u f) := fun s =>
  have h := advance_allButControl s t
  .ite (.keeps h) <|
  .ite (.keeps (.fold (fun _ _ g => State.yieldUnit_keeps _ _ rfl g) (State.exitFail_keeps _ _ rfl h))) <|
  .ite (.safe (State.netDeposit_turns _ _ (by decide) (.keeps h (.refl _ s))))
    (.safe (State.depositFrame_turns _ _ _ (by decide) (.keeps h (.refl _ s))))

theorem frameLaunch_steered (t u port damaged) : Steered (.frameLaunch t u port damaged) := by
  intro s
  have h := advance_allButControl s t
  dsimp only [exec, execFrameLaunch]
  refine .ite (.keeps h) ?_
  split
  · exact .keeps (State.lateFrame_keeps _ _ _ rfl h)
  · split
    · exact .safe (State.passFrame_turns _ _ _ (by decide) (.keeps h (.refl _ s)))
    · exact .keeps h

/-! #### The service monitor -/

section
variable {c : Instr} {s u : State}

/-- A monitor command steers as what it carries out does, wherever that is carried out in the same mode. -/
theorem Steers.monRun {d : MonCmd} {acc : MonAccess} {modes : List Mode} {run : State → List (List Byte) → MonOutcome}
    (h : ∀ v x, Keeps allButControl s v → Steers c s (ok (run v x).1)) (k : Keeps allButControl s u) :
    Steers c s (ok (u.monRun d acc modes run)) := by
  unfold State.monRun
  split
  · exact .keeps k
  · next v x e =>
    have hv := State.monTake_keeps e rfl k
    dsimp only
    split
    · exact .keeps (State.monDone_keeps _ _ _ _ rfl hv)
    · intro w e
      cases e
      rw [ctl_of_keeps (State.monDone_keeps _ _ _ _ rfl (.refl _ _))]
      exact h v x hv _ rfl

theorem Steers.plainRun {d : MonCmd} {acc : MonAccess} {modes : List Mode} {f : State → MonOutcome}
    (h : ∀ v, Keeps allButControl s v → Steers c s (ok (f v).1)) (k : Keeps allButControl s u) :
    Steers c s (ok (u.monRun d acc modes (plain f))) :=
  .monRun (fun v x hv => by
    unfold plain
    split
    · exact h v hv
    · exact .keeps hv) k

theorem State.mcOutcome_state (s : State) : s.mcOutcome.1 = s := by
  unfold State.mcOutcome
  dsimp only
  split
  · rfl
  · split <;> rfl

/-- The monitor carries out a mode command and reads its outcome. -/
theorem Steered.byMonitor {d : Instr} (hd : Steered d) (e : leavesSafe d = leavesSafe c) (k : Keeps allButControl s u) :
    Steers c s (ok (after (exec d u) u).mcOutcome.1) := by
  rw [State.mcOutcome_state]
  intro v ev
  cases ev
  obtain ⟨w, ew, -⟩ := framed d u
  have h := hd u w ew
  rw [mayTurn, e, ctl_of_keeps k] at h
  rw [ew]
  exact h

end

theorem monLogout_steered (t) : Steered (.monLogout t) := fun s =>
  .plainRun (fun v hv => by
    have he : Keeps allButControl s v.endSession := State.endSession_keeps rfl hv
    unfold State.monLogout
    dsimp only
    split
    · next h =>
      refine .turns (ms := [.stop]) (.inr ((State.enterStop_mode _ _).symm ▸ by decide)) ?_
      rw [← congrArg Control.mode (ctl_of_keeps he), h]
      rfl
    · exact .keeps he) (advance_allButControl s t)

theorem monStart_steered (t) : Steered (.monStart t) := fun s =>
  .monRun (fun v x hv => by
    split
    · exact (start_steered _ _).byMonitor rfl hv
    · split
      · exact (startCold_steered _ _).byMonitor rfl hv
      · exact .keeps hv
    · exact .keeps hv) (advance_allButControl s t)

theorem monStop_steered (t) : Steered (.monStop t) := fun s =>
  .plainRun (fun _ hv => (stop_steered _ _).byMonitor rfl hv) (advance_allButControl s t)

theorem monHold_steered (t) : Steered (.monHold t) := fun s =>
  .plainRun (fun _ hv => (hold_steered _ _).byMonitor rfl hv) (advance_allButControl s t)

theorem monResume_steered (t) : Steered (.monResume t) := fun s =>
  .plainRun (fun _ hv => (resume_steered _ _).byMonitor rfl hv) (advance_allButControl s t)

theorem monStandby_steered (t) : Steered (.monStandby t) := fun s =>
  .plainRun (fun _ hv => (standby_steered _ _).byMonitor rfl hv) (advance_allButControl s t)

theorem monService_steered (t) : Steered (.monService t) := fun s =>
  .plainRun (fun _ hv => (service_steered _ _).byMonitor rfl hv) (advance_allButControl s t)

theorem monLeave_steered (t) : Steered (.monLeave t) := fun s =>
  .plainRun (fun _ hv => (leave_steered _ _).byMonitor rfl hv) (advance_allButControl s t)

theorem monReset_steered (t env) : Steered (.monReset t env) := by
  intro s
  dsimp only [exec, execMonReset]
  split
  · exact .keeps (advance_allButControl s t)
  · next e =>
    have hm := State.monTake_keeps e rfl (advance_allButControl s t)
    refine .ite (.keeps (State.monDone_keeps _ _ _ _ rfl hm)) ?_
    refine .ite (.keeps (State.monDone_keeps _ _ _ _ rfl hm)) ?_
    split
    · next e => exact .keeps (State.monDone_keeps _ _ _ _ rfl (State.mcOutcome_keeps rfl (State.mcGate_keeps e rfl hm)))
    · next e => exact .resetGated hm e _ _ env

/-! #### Updates, downloads and the supply -/

/-- An activation past its gate, in SERVICE or STOP. -/
theorem Steers.activated {c : Instr} {s u v : State} {w : Per Bool} {code : Nat} {modes : List Mode} (k : Keeps allButControl s u)
    (hg : u.upGate w code modes [] = none) (hm : Mode.safe ∉ modes) (h : Turns resetModes s v) : Steers c s (ok v) :=
  .reset h (.inr fun e => hm (e ▸ ctl_of_keeps k ▸ State.upGate_none hg))

theorem State.activate_turns {s u : State} (k : Keeps allButControl s u) (code : Nat) (skip : Bool) (f : JuryFinding)
    (lost : Option Mast) (env : BootEnv) : Turns resetModes s (u.activate code skip f lost env) :=
  .trans (.keeps k (.refl _ s)) (State.activateWith_turns _ _ _ _ _ _)

theorem activate_steered (t w f lost env) : Steered (.activate t w f lost env) := by
  intro s
  dsimp only [exec, execActivate]
  split
  · next e => exact .keeps (State.upGate_keeps e rfl (advance_allButControl s t))
  · next e =>
    exact .activated (advance_allButControl s t) e (by decide) (State.activate_turns (advance_allButControl s t) _ _ _ _ env)

theorem activateNoJury_steered (t w env) : Steered (.activateNoJury t w env) := by
  intro s
  dsimp only [exec, execActivateNoJury]
  split
  · next e => exact .keeps (State.upGate_keeps e rfl (advance_allButControl s t))
  · next e =>
    exact .activated (advance_allButControl s t) e (by decide) (State.activate_turns (advance_allButControl s t) _ _ _ _ env)

theorem monActivate_steered (t f lost env) : Steered (.monActivate t f lost env) := by
  intro s
  dsimp only [exec, execMonActivate]
  split
  · exact .keeps (advance_allButControl s t)
  · next e =>
    have hm := State.monTake_keeps e rfl (advance_allButControl s t)
    refine .ite (.keeps (State.monDone_keeps _ _ _ _ rfl hm)) ?_
    refine .ite (.keeps (State.monDone_keeps _ _ _ _ rfl hm)) ?_
    split
    · next e => exact .keeps (State.monDone_keeps _ _ _ _ rfl (State.upOutcome_keeps rfl (State.upGate_keeps e rfl hm)))
    · next e =>
      have notSafe : ∀ b : Bool, Mode.safe ∉ if b = true then [Mode.service] else [Mode.service, .stop] := by decide
      have running (v) (h : Turns resetModes s v) : Steers (.monActivate t f lost env) s (ok v) :=
        .activated hm e (notSafe _) h
      exact .ite
        (running _ (.keeps (State.monDone_keeps _ _ _ _ rfl (State.upOutcome_keeps rfl (.refl _ _)))
          (State.activate_turns hm _ _ _ _ env)))
        (running _ (State.activate_turns (State.monDone_keeps _ _ _ _ rfl hm) _ _ _ _ env))

theorem appFetchReceived_steered (t refused whole image bad f env) :
    Steered (.appFetchReceived t refused whole image bad f env) := by
  intro s
  dsimp -zeta only [exec, execAppFetchReceived]
  extract_lets s1 s2 reason s3 version told
  have h1 : Keeps allButControl s s1 := advance_allButControl s t
  have h2 : Keeps allButControl s s2 := State.writeContainer_keeps _ rfl (State.putF_keeps _ _ _ rfl h1)
  have h3 : Keeps allButControl s s3 := State.readback_keeps _ _ rfl h2
  split
  · exact .keeps h1
  · next h =>
    have hs : s.ctl.mode = .stop := by
      simp only [State.fetching, Bool.or_eq_true, Bool.not_eq_true', not_or, Bool.not_eq_false, Bool.and_eq_true, beq_iff_eq] at h
      obtain ⟨⟨⟨hs, -⟩, -⟩, -⟩ := h
      exact hs
    exact .ite (.keeps (State.fetchFails_keeps _ rfl h1)) <|
      .ite (.keeps (State.fetchFails_keeps _ rfl h1)) <|
      .ite (.keeps (State.fetchFails_keeps _ rfl h1)) <|
      .ite (.keeps (State.fetchFails_keeps _ rfl (State.upAbort_keeps _ rfl h2))) <|
      .ite (.keeps (State.fetchFails_keeps _ rfl h3)) <|
      .reset (.trans (.keeps h3 (.refl _ s)) (State.activateWith_turns _ _ _ _ _ _)) (.inr fun e => nomatch e.symm.trans hs)

theorem confirmWindowExpiry_steered (t env) : Steered (.confirmWindowExpiry t env) := by
  intro s
  dsimp only [exec, execConfirmWindowExpiry]
  split
  · exact .keeps (advance_allButControl s t)
  · next h =>
    have hs : s.ctl.mode = .run := by simpa using not_or.1 h |>.1
    exact .reset (.inr (State.moduleReset_mode _ _ env)) (.inr fun e => nomatch e.symm.trans hs)

theorem recoveryDownload_steered (t via fw app bad f env) : Steered (.recoveryDownload t via fw app bad f env) := by
  intro s
  dsimp -zeta only [exec, execRecoveryDownload]
  extract_lets s1 active verified slot s2 good x s3
  have h1 : Keeps allButControl s s1 := advance_allButControl s t
  have h2 : Keeps allButControl s s2 :=
    .fold (fun _ _ g =>
      .ite (State.keepContainer_keeps _ _ _ _ rfl g)
        (State.keepContainer_keeps _ _ _ _ rfl (State.keepContainer_keeps _ _ _ _ rfl g))) h1
  split
  · exact .keeps h1
  · next h =>
    have hs : s.ctl.mode = .recovery := not_not.1 h
    refine .ite (.keeps h2) (.reset ?_ (.inr fun e => nomatch e.symm.trans hs))
    exact .keeps (State.raise_keeps _ _ _ rfl (.refl _ _)) (.inr (State.moduleReset_mode _ _ env))

theorem holdupExhausted_steered (t) : Steered (.holdupExhausted t) := fun s =>
  .ite (.keeps (advance_allButControl s t)) (.reset (.inr ((State.powerDown_mode _).symm ▸ by decide)) (.inl rfl))

theorem powerDownWaitExpiry_steered (t env) : Steered (.powerDownWaitExpiry t env) := by
  intro s
  dsimp only [exec, execPowerDownWaitExpiry]
  split
  · exact .keeps (advance_allButControl s t)
  · exact .ite (.keeps (advance_allButControl s t)) (.reset (.inr (State.powerUp_mode _ env)) (.inl rfl))

/-- Every command of the table leads to a mode that may follow: by its own lemma where its frame holds module control, by its
frame elsewhere. -/
theorem steered (c : Instr) : Steered c := by
  cases c
  case powerOn => exact powerOn_steered _ _
  case autostart => exact autostart_steered _
  case buttonDebounceExpiry => exact buttonDebounceExpiry_steered _
  case buttonContactRelease => exact buttonContactRelease_steered _ _
  case buttonStuckExpiry => exact buttonStuckExpiry_steered _ _
  case recoveryBreakExpiry => exact recoveryBreakExpiry_steered _
  case start => exact start_steered _ _
  case startCold => exact startCold_steered _ _
  case stop => exact stop_steered _ _
  case hold => exact hold_steered _ _
  case resume => exact resume_steered _ _
  case standby => exact standby_steered _ _
  case service => exact service_steered _ _
  case leave => exact leave_steered _ _
  case reset => exact reset_steered _ _ _
  case holdTimeout => exact holdTimeout_steered _
  case wakeEvent => exact wakeEvent_steered _ _ _ _ _
  case standbyMastFault => exact standbyMastFault_steered _ _
  case actionInstant => exact actionInstant_steered _
  case commitPoint => exact commitPoint_steered _
  case hb1BeatReceived => exact hb1BeatReceived_steered _ _ _ _
  case hb2Edge => exact hb2Edge_steered _ _ _
  case heartbeatMissed => exact heartbeatMissed_steered _ _ _ _ _
  case checkpointPageRecord => exact checkpointPageRecord_steered _ _ _
  case frameDigestDeposit => exact frameDigestDeposit_steered _ _ _ _
  case frameLaunch => exact frameLaunch_steered _ _ _ _
  case monLogout => exact monLogout_steered _
  case monStart => exact monStart_steered _
  case monStop => exact monStop_steered _
  case monHold => exact monHold_steered _
  case monResume => exact monResume_steered _
  case monStandby => exact monStandby_steered _
  case monService => exact monService_steered _
  case monLeave => exact monLeave_steered _
  case monReset => exact monReset_steered _ _
  case monActivate => exact monActivate_steered _ _ _ _
  case activate => exact activate_steered _ _ _ _ _
  case activateNoJury => exact activateNoJury_steered _ _ _
  case appFetchReceived => exact appFetchReceived_steered _ _ _ _ _ _ _
  case confirmWindowExpiry => exact confirmWindowExpiry_steered _ _
  case recoveryDownload => exact recoveryDownload_steered _ _ _ _ _ _ _
  case holdupExhausted => exact holdupExhausted_steered _
  case powerDownWaitExpiry => exact powerDownWaitExpiry_steered _ _
  all_goals exact .of_framed (by simp [touches])

/-- Settles O54: `steered` bounds the mode after each command by R27's table. -/
theorem modesAreEnteredOnlyFrom : Obligations.ModesAreEnteredOnlyFrom := by
  unfold Obligations.ModesAreEnteredOnlyFrom
  intro c s s' h _
  exact (Bool.and_eq_true_iff.1 (steered c s s' h)).1

/-- Settles O55: `steered` again, with SAFE before and a command that may not leave it. -/
theorem safeIsLeftOnlyByPowerOrButton : Obligations.SafeIsLeftOnlyByPowerOrButton := by
  unfold Obligations.SafeIsLeftOnlyByPowerOrButton
  intro c s s' hs hc h
  have hm := (Bool.and_eq_true_iff.1 (steered c s s' h)).2
  simpa [hs, hc] using hm

end Sys2Proof.Machine

/-!
# The outcome of a mode command

Every mode command passes `State.mcGate`; `Gated` says so of a command, and what the gate turns away is proved once for all nine.
-/

namespace Sys2Proof.Safety
open Sys2Proof.Machine

theorem regsBut_foldl {α : Type} {l : List (Copy × Nat)} {f : State → α → State} (h : ∀ s x, regsBut l s (f s x))
    (xs : List α)
    (s : State) : regsBut l s (xs.foldl f s) := by
  induction xs generalizing s with
  | nil => exact regsBut_refl l s
  | cons x xs ih => exact regsBut_trans (h s x) (ih _)

end Sys2Proof.Safety

namespace Sys2Proof.Machine
open Sys2Proof.Safety

/-- The registers that show a mode command's outcome, on every mast. -/
def cmdstatRegs : List (Copy × Nat) :=
  [(.mast .a, rMcCmdstat), (.mast .b, rMcCmdstat), (.mast .c, rMcCmdstat), (.mast .j, rMcCmdstat)]

theorem mem_cmdstatRegs (m : Mast) : (Copy.mast m, rMcCmdstat) ∈ cmdstatRegs := by cases m <;> decide

/-- Mast `m` shows the outcome of a mode command. -/
def State.showCmdstat (s : State) (code result reason : Nat) (m : Mast) : State :=
  ((s.putF (.mast m) fMcCmdstatLastCode code).putF (.mast m) fMcCmdstatResult result).putF (.mast m) fMcCmdstatReason reason

theorem State.mcDone_eq (s : State) (code result reason : Nat) :
    s.mcDone code result reason = s.voters.foldl (fun s m => s.showCmdstat code result reason m) s := rfl

section
variable (s : State) (code result reason : Nat) (m : Mast)

theorem State.showCmdstat_regsBut : regsBut cmdstatRegs s (s.showCmdstat code result reason m) :=
  have put (s : State) (f : Fld) (v : Nat) (h : f.addr = rMcCmdstat) : regsBut cmdstatRegs s (s.putF (.mast m) f v) :=
    regsBut_putF s _ f v (h ▸ by decide) (h ▸ mem_cmdstatRegs m)
  regsBut_trans (regsBut_trans (put _ _ _ rfl) (put _ _ _ rfl)) (put _ _ _ rfl)

theorem State.showCmdstat_result : (s.showCmdstat code result reason m).getF (.mast m) fMcCmdstatResult = result % 8 := by
  unfold State.showCmdstat
  rw [State.getF_putF_bits _ _ fMcCmdstatReason fMcCmdstatResult _ rfl (by decide) (by decide) (by decide) (by decide)]
  exact State.getF_putF _ _ fMcCmdstatResult _ (by decide) (by decide)

theorem State.showCmdstat_lastCode : (s.showCmdstat code result reason m).getF (.mast m) fMcCmdstatLastCode = code % 256 := by
  unfold State.showCmdstat
  rw [State.getF_putF_bits _ _ fMcCmdstatReason fMcCmdstatLastCode _ rfl (by decide) (by decide) (by decide) (by decide),
    State.getF_putF_bits _ _ fMcCmdstatResult fMcCmdstatLastCode _ rfl (by decide) (by decide) (by decide) (by decide)]
  exact State.getF_putF _ _ fMcCmdstatLastCode _ (by decide) (by decide)

/-- What one mast shows does not depend on another's. -/
theorem State.showCmdstat_other {m n : Mast} (h : n ≠ m) (f : Fld) (hf : f.addr < 2 ^ 32) :
    (s.showCmdstat code result reason m).getF (.mast n) f = s.getF (.mast n) f := by
  have apart (g : Fld) (hg : g.addr < 2 ^ 32) : regKey (.mast n) f.addr ≠ regKey (.mast m) g.addr :=
    regKey_ne (by simpa using fun e => absurd e h) hf hg
  unfold State.showCmdstat
  rw [State.getF_putF_key _ _ _ _ _ _ (apart _ (by decide)), State.getF_putF_key _ _ _ _ _ _ (apart _ (by decide)),
    State.getF_putF_key _ _ _ _ _ _ (apart _ (by decide))]

/-- `MC_CMDSTAT` of a mast shows a result and the code of the command. -/
def State.shows (s : State) (m : Mast) (code result : Nat) : Prop :=
  s.getF (.mast m) fMcCmdstatResult = result ∧ s.getF (.mast m) fMcCmdstatLastCode = code

theorem State.showCmdstat_shows (hc : code < 256) (hr : result < 8) (n : Mast) (h : n = m ∨ s.shows n code result) :
    (s.showCmdstat code result reason m).shows n code result := by
  by_cases e : n = m
  · subst e
    exact ⟨(State.showCmdstat_result ..).trans (Nat.mod_eq_of_lt hr),
      (State.showCmdstat_lastCode ..).trans (Nat.mod_eq_of_lt hc)⟩
  · obtain ⟨h1, h2⟩ := h.resolve_left e
    exact ⟨(State.showCmdstat_other s _ _ _ e _ (by decide)).trans h1,
      (State.showCmdstat_other s _ _ _ e _ (by decide)).trans h2⟩

theorem State.mcDone_shows (hc : code < 256) (hr : result < 8) (hm : m ∈ s.voters) :
    (s.mcDone code result reason).shows m code result := by
  have later (l : List Mast) (u : State) (h : m ∈ l ∨ u.shows m code result) :
      (l.foldl (fun s x => s.showCmdstat code result reason x) u).shows m code result := by
    induction l generalizing u with
    | nil => exact h.resolve_left (by simp)
    | cons x l ih =>
      refine ih _ (or_iff_not_imp_left.2 fun hl => u.showCmdstat_shows _ _ _ _ hc hr m ?_)
      exact h.imp_left fun h => (List.mem_cons.1 h).resolve_right hl
  exact later _ s (.inl hm)

theorem State.mcDone_regsBut : regsBut cmdstatRegs s (s.mcDone code result reason) :=
  regsBut_foldl (fun s m => s.showCmdstat_regsBut code result reason m) _ s

theorem State.mcDone_sameBut : sameBut [.regs] s (s.mcDone code result reason) :=
  (State.mcDone_keeps _ _ _ rfl (.refl _ s)).frame

end

/-! ### The gate -/

section
variable {s : State} {w : Per Bool} {modes : List Mode}

/-- Instants that come still come later. -/
theorem State.instants_advance (t : Nat) (h : s.instants = true) : (s.advance t).instants = true := by
  simp only [State.instants, Bool.and_eq_true] at h ⊢
  obtain ⟨⟨⟨ho, hh⟩, hs⟩, hm⟩ := h
  exact ⟨⟨⟨ho, hh⟩, by simp [State.advance, hs]⟩, hm⟩

theorem State.mcGate_of_one (code : Nat) (modes : List Mode) (hi : s.instants = true) (ha : s.agreeing w = 1) :
    s.mcGate w code modes = some ((s.mcDone code 4 0xFF).raise evCmdDiscarded code 4) := by
  simp [State.mcGate, State.agreed, hi, ha]

theorem State.mcGate_of_agreed (code : Nat) (modes : List Mode) (hi : s.instants = true) (ha : s.agreed w = true) :
    s.mcGate w code modes = if s.ctl.mode ∈ modes then none else some (s.mcDone code 2 0xFF) := by
  have h2 : 2 ≤ s.agreeing w := of_decide_eq_true ha
  have h0 : s.agreeing w ≠ 0 := by omega
  by_cases hm : s.ctl.mode ∈ modes <;> simp [State.mcGate, State.inMode, hi, ha, h0, hm]

end

/-- A mode command with its code and the modes that list it: what its gate answers is the outcome. -/
def Gated (c : Nat → Per Bool → Instr) (code : Nat) (modes : List Mode) : Prop :=
  ∀ t w s u, (s.advance t).mcGate w code modes = some u → exec (c t w) s = .next u

theorem start_gated : Gated .start 1 [.stop] := fun t w s u h => by simp only [exec, execStart, h]; rfl
theorem startCold_gated : Gated .startCold 2 [.stop] := fun t w s u h => by simp only [exec, execStartCold, h]; rfl
theorem stop_gated : Gated .stop 3 [.run, .hold] := fun t w s u h => by simp only [exec, execStop, h]; rfl
theorem hold_gated : Gated .hold 4 [.run] := fun t w s u h => by simp only [exec, execHold, h]; rfl
theorem resume_gated : Gated .resume 5 [.hold] := fun t w s u h => by simp only [exec, execResume, h]; rfl
theorem standby_gated : Gated .standby 6 [.stop, .run] := fun t w s u h => by simp only [exec, execStandby, h]; rfl
theorem service_gated : Gated .service 7 [.stop] := fun t w s u h => by simp only [exec, execService, h]; rfl
theorem leave_gated : Gated .leave 8 [.service] := fun t w s u h => by simp only [exec, execLeave, h]; rfl
theorem reset_gated (env : BootEnv) : Gated (.reset · · env) 9 [.stop, .service] := fun t w s u h => by
  simp only [exec, execReset, h]; rfl

section
variable {c : Nat → Per Bool → Instr} {code : Nat} {modes : List Mode} {s : State} {w : Per Bool}

/-- The outcome of a mode command and an event, with nothing else changed. -/
theorem State.mcDone_raise (s : State) (t code result reason ev a1 a2 : Nat) (hc : code < 256) (hr : result < 8) :
    let u := ((s.advance t).mcDone code result reason).raise ev a1 a2
    raised u s.lane.active.mask ev a1 a2 ∧ (∀ m ∈ s.voters, u.shows m code result) ∧ regsBut cmdstatRegs s u ∧
      sameBut [.regs, .log] (s.advance t) u :=
  have k := State.mcDone_keeps (l := [.regs, .log]) code result reason rfl (.refl _ (s.advance t))
  have hl : ((s.advance t).mcDone code result reason).lane = s.lane := k.frame .lane (by decide)
  ⟨hl ▸ raised_raise _ ev a1 a2, fun m hm => (s.advance t).mcDone_shows code result reason m hc hr hm,
    (s.advance t).mcDone_regsBut code result reason, (State.raise_keeps _ _ _ rfl k).frame⟩

/-- A mode command that one mast alone wrote is discarded (R45). -/
theorem Gated.discarded (h : Gated c code modes) (hc : code < 256) (t : Nat) (hi : s.instants = true) (ha : s.agreeing w = 1) :
    ∃ s', exec (c t w) s = .next s' ∧ raised s' s.lane.active.mask evCmdDiscarded code 4 ∧
      (∀ m ∈ s.voters, s'.shows m code 4) ∧ regsBut cmdstatRegs s s' ∧ sameBut [.regs, .log] (s.advance t) s' :=
  ⟨_, h t w s _ (State.mcGate_of_one code modes (State.instants_advance t hi) ha),
    s.mcDone_raise t code 4 0xFF _ _ _ hc (by decide)⟩

/-- An agreed mode command outside the modes that list it (R46). -/
theorem Gated.refused (h : Gated c code modes) (hc : code < 256) (t : Nat) (hi : s.instants = true) (ha : s.agreed w = true)
    (hm : s.ctl.mode ∉ modes) :
    ∃ s', exec (c t w) s = .next s' ∧ (∀ m ∈ s.voters, s'.shows m code 2) ∧ regsBut cmdstatRegs s s' ∧
      sameBut [.regs] (s.advance t) s' :=
  have e := (State.mcGate_of_agreed (s := s.advance t) code modes (State.instants_advance t hi) ha).trans (if_neg hm)
  ⟨_, h t w s _ e, fun m hm => (s.advance t).mcDone_shows code 2 0xFF m hc (by decide) hm,
    (s.advance t).mcDone_regsBut code 2 0xFF, (s.advance t).mcDone_sameBut code 2 0xFF⟩

theorem State.mcGate_passes (code : Nat) (t : Nat) (hi : s.instants = true) (ha : s.agreed w = true) (hm : s.ctl.mode ∈ modes) :
    (s.advance t).mcGate w code modes = none :=
  (State.mcGate_of_agreed (s := s.advance t) code modes (State.instants_advance t hi) ha).trans (if_pos hm)

end

/-! ### The commands past their gate -/

section
variable {s : State} {w : Per Bool}

theorem exec_start_of_passes {t : Nat} (h : (s.advance t).mcGate w 1 [.stop] = none) :
    exec (.start t w) s = .next ((s.advance t).startCommand false 1) := by simp only [exec, execStart, h]; rfl

theorem exec_startCold_of_passes {t : Nat} (h : (s.advance t).mcGate w 2 [.stop] = none) :
    exec (.startCold t w) s = .next ((s.advance t).startCommand true 2) := by simp only [exec, execStartCold, h]; rfl

theorem State.startCommand_inhibited (cold : Bool) (code : Nat) (h : s.inhibits ≠ 0) :
    s.startCommand cold code = (s.mcDone code 3 (lowestInhibit s.inhibits)).raise evRunRefused s.inhibits code := if_pos h

theorem exec_hold_of_passes {t : Nat} (h : (s.advance t).mcGate w 4 [.run] = none)
    (hp : s.getF .agreed fMcCtrlHoldPermit = 0 ∨ s.getF .agreed fSpStatZero = 0) :
    exec (.hold t w) s = .next ((s.advance t).mcDone 4 3 0xFF) := by
  simp only [exec, execHold, h]
  exact if_pos hp

theorem exec_service_of_passes {t : Nat} (h : (s.advance t).mcGate w 7 [.stop] = none) (hs : s.mon.session = none) :
    exec (.service t w) s = .next ((s.advance t).mcDone 7 2 0xFF) := by
  simp only [exec, execService, h]
  exact if_pos (Option.isNone_iff_eq_none.2 hs)

end

/-- Settles O6: `Gated.discarded` for one writer, `Gated.refused` for the other modes, and what each command past its gate still
refuses. -/
theorem modeCommandsTurnedAway : Obligations.ModeCommandsTurnedAway := by
  unfold Obligations.ModeCommandsTurnedAway
  refine ⟨fun t w s hi ha => start_gated.discarded (by decide) t hi ha,
    fun t w s hi ha => startCold_gated.discarded (by decide) t hi ha,
    fun t w s hi ha => stop_gated.discarded (by decide) t hi ha,
    fun t w s hi ha => hold_gated.discarded (by decide) t hi ha,
    fun t w s hi ha => resume_gated.discarded (by decide) t hi ha,
    fun t w s hi ha => standby_gated.discarded (by decide) t hi ha,
    fun t w s hi ha => service_gated.discarded (by decide) t hi ha,
    fun t w s hi ha => leave_gated.discarded (by decide) t hi ha,
    fun t w env s hi ha => (reset_gated env).discarded (by decide) t hi ha,
    fun t w s hi ha hm => start_gated.refused (by decide) t hi ha (by simpa using hm),
    fun t w s hi ha hm => startCold_gated.refused (by decide) t hi ha (by simpa using hm),
    fun t w s hi ha hm => stop_gated.refused (by decide) t hi ha (by simpa using hm),
    fun t w s hi ha hm => hold_gated.refused (by decide) t hi ha (by simpa using hm),
    fun t w s hi ha hm => resume_gated.refused (by decide) t hi ha (by simpa using hm),
    fun t w s hi ha hm => standby_gated.refused (by decide) t hi ha (by simpa using hm),
    fun t w s hi ha hm => service_gated.refused (by decide) t hi ha (by simpa using hm),
    fun t w s hi ha hm => leave_gated.refused (by decide) t hi ha (by simpa using hm),
    fun t w env s hi ha hm => (reset_gated env).refused (by decide) t hi ha (by simpa using hm),
    fun t w s hi ha hm hn => ?_, fun t w s hi ha hm hn => ?_, fun t w s hi ha hm hp => ?_, fun t w s hi ha hm hs => ?_⟩
  · have e := exec_start_of_passes (State.mcGate_passes 1 t hi ha (by simp [hm]))
    rw [State.startCommand_inhibited (s := s.advance t) false 1 hn] at e
    obtain ⟨h1, h2, h3, h4⟩ := s.mcDone_raise t 1 3 (lowestInhibit s.inhibits) evRunRefused s.inhibits 1 (by decide) (by decide)
    exact ⟨_, e, h1, fun m hm => (h2 m hm).1, h3, h4⟩
  · have e := exec_startCold_of_passes (State.mcGate_passes 2 t hi ha (by simp [hm]))
    rw [State.startCommand_inhibited (s := s.advance t) true 2 hn] at e
    obtain ⟨h1, h2, h3, h4⟩ := s.mcDone_raise t 2 3 (lowestInhibit s.inhibits) evRunRefused s.inhibits 2 (by decide) (by decide)
    exact ⟨_, e, h1, fun m hm => (h2 m hm).1, h3, h4⟩
  · exact ⟨_, exec_hold_of_passes (State.mcGate_passes 4 t hi ha (by simp [hm])) hp,
      fun m hv => ((s.advance t).mcDone_shows 4 3 0xFF m (by decide) (by decide) hv).1,
      (s.advance t).mcDone_regsBut 4 3 0xFF, (s.advance t).mcDone_sameBut 4 3 0xFF⟩
  · exact ⟨_, exec_service_of_passes (State.mcGate_passes 7 t hi ha (by simp [hm])) hs,
      fun m hv => ((s.advance t).mcDone_shows 7 2 0xFF m (by decide) (by decide) hv).1,
      (s.advance t).mcDone_regsBut 7 2 0xFF, (s.advance t).mcDone_sameBut 7 2 0xFF⟩

end Sys2Proof.Machine

/-!
# Entering a mode by command

`Spares A` carries registers and waiting events through the operations that follow a change of mode; `Entered` is what such a
change shows (R23), and it outlives everything that spares `MC_MODE`.
-/

namespace Sys2Proof.Machine
open Sys2Proof.Safety

/-! ### Registers that an operation leaves alone -/

/-- Every copy of the registers at the addresses `A` reads as before, and the events that wait still wait. -/
def Spares (A : List Nat) (s t : State) : Prop :=
  (∀ c, ∀ a ∈ A, t.reg c a = s.reg c a) ∧ ∀ e ∈ s.log.due, e ∈ t.log.due

/-- A register at another address than those of `A`, whichever copy it is. -/
abbrev apartFrom (A : List Nat) (addr : Nat) : Prop := ∀ a ∈ A, a % 2 ^ 32 ≠ addr % 2 ^ 32

/-- Every part but the registers and the log. -/
def allButRegsLog : List Part :=
  [.now, .pending, .shown, .writes, .ctl, .masts, .key, .lane, .intake, .time, .pos, .fb, .app, .queue, .bridge, .stay, .net,
   .sup, .field, .upd, .supply, .panel, .standby, .mon, .free, .mem]

section
variable {A : List Nat} {s0 s t : State}

theorem Spares.refl (A : List Nat) (s : State) : Spares A s s := ⟨fun _ _ _ => rfl, fun _ h => h⟩

theorem Spares.trans (h : Spares A s0 s) (g : Spares A s t) : Spares A s0 t :=
  ⟨fun c a ha => (g.1 c a ha).trans (h.1 c a ha), fun e he => g.2 e (h.2 e he)⟩

theorem Spares.same (hr : t.regs = s.regs) (hl : t.log = s.log) (h : Spares A s0 s) : Spares A s0 t :=
  h.trans ⟨fun c a _ => State.reg_of_regs hr c a, fun _ he => hl ▸ he⟩

theorem Spares.keeps (k : Keeps allButRegsLog s t) (h : Spares A s0 s) : Spares A s0 t :=
  h.same (k.frame .regs (by decide)) (k.frame .log (by decide))

theorem Spares.ite {c : Prop} [Decidable c] {a b : State} (ha : Spares A s0 a) (hb : Spares A s0 b) :
    Spares A s0 (if c then a else b) := by split <;> assumption

theorem Spares.fold {α : Type} {f : State → α → State} {xs : List α} (hf : ∀ s x, Spares A s0 s → Spares A s0 (f s x))
    (h : Spares A s0 s) : Spares A s0 (xs.foldl f s) := by
  induction xs generalizing s with
  | nil => exact h
  | cons x xs ih => exact ih (hf s x h)

theorem regKey_mod (c : Copy) (a : Nat) : regKey c a % 2 ^ 32 = a % 2 ^ 32 := Nat.mul_add_mod_self_right _ _ _

theorem Spares.putF (c : Copy) (f : Fld) (v : Nat) (hf : apartFrom A f.addr) (h : Spares A s0 s) : Spares A s0 (s.putF c f v) :=
  h.trans ⟨fun c' a ha => State.reg_putF_key s c c' f a v fun e => hf a ha <| by
    rw [← regKey_mod c' a, ← regKey_mod c f.addr, e], fun _ he => he⟩

theorem Spares.incF (c : Copy) (f : Fld) (n : Nat) (hf : apartFrom A f.addr) (h : Spares A s0 s) : Spares A s0 (s.incF c f n) :=
  h.putF c f _ hf

theorem Spares.raiseBy (src code a1 a2 : Nat) (h : Spares A s0 s) : Spares A s0 (s.raiseBy src code a1 a2) :=
  h.trans ⟨fun _ _ _ => rfl, fun _ he => List.mem_append_left _ he⟩

theorem Spares.raise (code a1 a2 : Nat) (h : Spares A s0 s) : Spares A s0 (s.raise code a1 a2) := h.raiseBy _ code a1 a2

theorem Spares.getF {c : Copy} {f : Fld} (h : Spares A s t) (hf : f.addr ∈ A) : t.getF c f = s.getF c f :=
  congrArg (getBits · f.hi f.lo) (h.1 c _ hf)

theorem Spares.raised {src code a1 a2 : Nat} (h : Spares A s t) (hr : raised s src code a1 a2) : raised t src code a1 a2 :=
  raised_mono hr h.2

end

/-- `MC_MODE` and `MC_CMDSTAT`. -/
def modeRegs : List Nat := [rMcMode, rMcCmdstat]

section
variable {s0 s : State}

theorem State.setRun_spares (r : AppRun) (h : Spares modeRegs s0 s) : Spares modeRegs s0 (s.setRun r) :=
  (h.same rfl rfl).putF _ _ _ (by decide)

theorem State.appStop_spares (h : Spares modeRegs s0 s) : Spares modeRegs s0 s.appStop :=
  State.setRun_spares _ (h.same rfl rfl)

/-- The registers `FI_QCTL` lie 16 bytes apart, on other words of a line than `MC_MODE` and `MC_CMDSTAT`. -/
theorem State.queuedClearAll_spares (h : Spares modeRegs s0 s) : Spares modeRegs s0 s.queuedClearAll := by
  have apart (n : Nat) : apartFrom modeRegs (fFiQctlFired.plus (0x10 * n)).addr := by
    simp only [apartFrom, modeRegs, List.forall_mem_cons, Fld.plus, fFiQctlFired, rMcMode, rMcCmdstat]
    refine ⟨by omega, by omega, by simp⟩
  exact .fold (fun _ _ g => .fold (fun _ n g => g.putF _ _ _ (apart n)) (g.same rfl rfl)) h

theorem State.askRelease_spares (i : Option Nat) (cause : Nat) (h : Spares modeRegs s0 s) :
    Spares modeRegs s0 (s.askRelease i cause) :=
  .ite h (.ite ((h.same rfl rfl).putF _ _ _ (by decide)) (h.same rfl rfl))

theorem State.fbState_spares (b : Nat) (x : BusState) (hb : b < 2) (h : Spares modeRegs s0 s) :
    Spares modeRegs s0 (s.fbState b x) := by
  have apart (f : Fld) (hf : f = fFbRecovRecovers ∨ f = fFbStatState) : apartFrom modeRegs (fbF f b).addr := by
    obtain rfl | rfl : b = 0 ∨ b = 1 := by omega
    all_goals obtain rfl | rfl := hf <;> decide
  have told := h.raise evFbState b ((s.bus b).state.code * 256 + x.code)
  unfold State.fbState
  exact .ite h <|
    .putF _ _ _ (apart _ (.inr rfl)) <|
    .keeps (State.setBus_keeps _ _ rfl (.refl _ _)) <|
    .ite (told.incF _ _ _ (apart _ (.inl rfl))) told

theorem State.fbLeaveService_spares (h : Spares modeRegs s0 s) : Spares modeRegs s0 s.fbLeaveService :=
  have leave (b : Nat) (hb : b < 2) (s : State) (h : Spares modeRegs s0 s) :
      Spares modeRegs s0 (if (s.bus b).state = .test then s.fbState b .recover else s) :=
    .ite (State.fbState_spares b _ hb h) h
  leave 1 (by decide) _ (leave 0 (by decide) _ h)

theorem State.leaveMode_spares (h : Spares modeRegs s0 s) : Spares modeRegs s0 s.leaveMode := by
  unfold State.leaveMode
  split
  · exact h.same rfl rfl
  · exact State.askRelease_spares _ _ (State.fbLeaveService_spares ((h.putF _ _ _ (by decide)).putF _ _ _ (by decide)))
  · exact (h.same rfl rfl).putF _ _ _ (by decide)
  · exact h

/-- The modes that a command enters with the program and the module's interfaces in place. -/
def workingModes : List Mode := [.stop, .service, .run, .hold]

theorem State.enterMode_spares {m : Mode} (hm : m ∈ workingModes) (h : Spares modeRegs s0 s) :
    Spares modeRegs s0 (s.enterMode m) := by
  have stops : Spares modeRegs s0 s.appStop.queuedClearAll.fbForget :=
    .keeps (State.fbForget_keeps rfl (.refl _ _)) (State.queuedClearAll_spares (State.appStop_spares h))
  simp only [workingModes, List.mem_cons, List.not_mem_nil, or_false] at hm
  obtain rfl | rfl | rfl | rfl := hm
  · exact .keeps (State.netEnterStop_keeps rfl (.refl _ _)) stops
  · exact stops
  · exact h
  · exact h

/-! ### The change of mode -/

/-- The module in `u` has gone from the mode of `s` to mode `m`, and shows and tells it (R23). -/
structure Entered (s u : State) (m : Mode) : Prop where
  mode : u.ctl.mode = m
  prev : u.ctl.prev = s.ctl.mode
  shown : u.getF .agreed fMcModeMode = m.code
  changes : u.getF .agreed fMcModeChanges = min 65535 (s.ctl.changes + 1)
  told : raised u s.lane.active.mask evModeChange s.ctl.mode.code m.code

theorem Entered.keep {s u v : State} {m : Mode} (h : Entered s u m) (hc : v.ctl = u.ctl) (g : Spares modeRegs u v) :
    Entered s v m :=
  ⟨hc ▸ h.mode, hc ▸ h.prev, (g.getF (by decide)).trans h.shown, (g.getF (by decide)).trans h.changes, g.raised h.told⟩

theorem Mode.code_lt (m : Mode) : m.code < 8 := by cases m <;> decide

/-- Module control takes the new mode. -/
def State.markMode (s : State) (m : Mode) : State :=
  let old := s.leaveMode
  { old with
    ctl := { old.ctl with prev := s.ctl.mode, mode := m, since := old.now, changes := satAdd 65535 old.ctl.changes 1 }
    lane := { old.lane with mute := !([Mode.service, .stop, .run, .hold].contains m) } }

/-- The registers of the new mode are written. -/
def State.writeMode (s : State) (m : Mode) : State :=
  let u := s.markMode m
  ((u.putF .agreed fMcModeMode m.code).putF .agreed fMcModePrev s.ctl.mode.code).putF .agreed fMcModeChanges u.ctl.changes

/-- The change as it is shown and told, before what entering the mode brings. -/
def State.showMode (s : State) (m : Mode) : State := (s.writeMode m).raise evModeChange s.ctl.mode.code m.code

theorem State.changeMode_eq {m : Mode} (h : s.ctl.mode ≠ m) : s.changeMode m = (s.showMode m).enterMode m := if_neg h

theorem State.leaveMode_keeps_ctl_lane (s : State) : s.leaveMode.ctl = s.ctl ∧ s.leaveMode.lane = s.lane :=
  have k := State.leaveMode_keeps (l := [.regs, .log, .key, .fb, .app, .upd]) rfl (.refl _ s)
  ⟨k.frame .ctl (by decide), k.frame .lane (by decide)⟩

theorem State.writeMode_mode (s : State) (m : Mode) : (s.writeMode m).getF .agreed fMcModeMode = m.code := by
  unfold State.writeMode
  rw [State.getF_putF_bits _ _ fMcModeChanges fMcModeMode _ rfl (by decide) (by decide) (by decide) (by decide),
    State.getF_putF_bits _ _ fMcModePrev fMcModeMode _ rfl (by decide) (by decide) (by decide) (by decide),
    State.getF_putF _ _ fMcModeMode _ (by decide) (by decide)]
  exact Nat.mod_eq_of_lt m.code_lt

theorem State.writeMode_changes (s : State) (m : Mode) :
    (s.writeMode m).getF .agreed fMcModeChanges = min 65535 (s.ctl.changes + 1) := by
  unfold State.writeMode
  rw [State.getF_putF _ _ fMcModeChanges _ (by decide) (by decide), ← s.leaveMode_keeps_ctl_lane.1]
  exact Nat.mod_eq_of_lt (Nat.lt_succ_of_le (Nat.min_le_left _ _))

theorem State.showMode_entered (s : State) (m : Mode) : Entered s (s.showMode m) m := by
  have hr : (s.showMode m).regs = (s.writeMode m).regs := by rw [State.showMode, State.raise_regs]
  have hc : (s.showMode m).ctl = (s.markMode m).ctl := by rw [State.showMode, State.raise_ctl]; rfl
  have hl : (s.writeMode m).lane.active = s.lane.active := by rw [← s.leaveMode_keeps_ctl_lane.2]; rfl
  refine ⟨by rw [hc]; rfl, by rw [hc]; rfl, ?_, ?_, ?_⟩
  · rw [State.getF_of_regs hr, State.writeMode_mode]
  · rw [State.getF_of_regs hr, State.writeMode_changes]
  · rw [State.showMode, ← hl]
    exact raised_raise _ _ _ _

theorem State.showMode_spares (s : State) (m : Mode) : Spares [rMcCmdstat] s (s.showMode m) :=
  have left : Spares [rMcCmdstat] s s.leaveMode :=
    ⟨fun c _ ha => (State.leaveMode_spares (.refl _ s)).1 c _ (List.mem_cons_of_mem _ ha),
      (State.leaveMode_spares (.refl _ s)).2⟩
  ((((left.same (t := s.markMode m) rfl rfl).putF _ _ _ (by decide)).putF _ _ _ (by decide)).putF _ _ _ (by decide)).raise _ _ _

end

/-- A command has brought the module from the mode of `s` to mode `m`, with result 1 on every voting mast (R23, R46). -/
def Commanded (s u : State) (m : Mode) : Prop := Entered s u m ∧ ∀ x ∈ s.voters, u.getF (.mast x) fMcCmdstatResult = 1

theorem Commanded.keep {s u v : State} {m : Mode} (h : Commanded s u m) (hc : v.ctl = u.ctl) (g : Spares modeRegs u v) :
    Commanded s v m := ⟨h.1.keep hc g, fun x hx => (g.getF (by decide)).trans (h.2 x hx)⟩

/-- An agreed command past its gate, from one working mode to another. -/
theorem State.commanded (s : State) (t : Nat) {code : Nat} (hc : code < 256) {m : Mode} (hm : m ∈ workingModes)
    (h : s.ctl.mode ≠ m) : Commanded s (((s.advance t).mcDone code 1 0xFF).changeMode m) m := by
  have k := State.mcDone_keeps (l := [.regs]) code 1 0xFF rfl (.refl _ (s.advance t))
  have hctl : ((s.advance t).mcDone code 1 0xFF).ctl = s.ctl := k.frame .ctl (by decide)
  have hlane : ((s.advance t).mcDone code 1 0xFF).lane = s.lane := k.frame .lane (by decide)
  generalize hu : (s.advance t).mcDone code 1 0xFF = u at hctl hlane ⊢
  have he : Entered s (u.showMode m) m := by
    obtain ⟨h1, h2, h3, h4, h5⟩ := u.showMode_entered m
    rw [hctl] at h2 h4 h5
    rw [hlane] at h5
    exact ⟨h1, h2, h3, h4, h5⟩
  have hs : Commanded s (u.showMode m) m := ⟨he, fun x hx => by
    rw [(u.showMode_spares m).getF (by decide), ← hu]
    exact ((s.advance t).mcDone_shows code 1 0xFF x hc (by decide) hx).1⟩
  rw [State.changeMode_eq (by rw [hctl]; exact h)]
  exact hs.keep (ctl_of_keeps (State.enterMode_keeps _ rfl (.refl _ _))) (State.enterMode_spares hm (.refl _ _))

/-! ### What the modes bring -/

section
variable {s0 s : State}

theorem State.appStop_inForce (s : State) : s.appStop.lane.inForce = [] := rfl

theorem State.enterMode_stop_inForce (s : State) : (s.enterMode .stop).lane.inForce = [] := by
  have k : Keeps [.regs, .field, .fb, .app, .net] s.appStop (s.enterMode .stop) :=
    State.netEnterStop_keeps rfl (State.fbForget_keeps rfl (State.queuedClearAll_keeps rfl (.refl _ _)))
  rw [k.frame .lane (by decide)]
  exact s.appStop_inForce

theorem State.enterMode_service_inForce (s : State) : (s.enterMode .service).lane.inForce = [] := by
  have k : Keeps [.regs, .field, .fb] s.appStop (s.enterMode .service) :=
    State.fbForget_keeps rfl (State.queuedClearAll_keeps rfl (.refl _ _))
  rw [k.frame .lane (by decide)]
  exact s.appStop_inForce

/-- RUN and HOLD leave the image in force as it is (R26). -/
theorem State.changeMode_inForce {m : Mode} (hm : m = .run ∨ m = .hold) : (s.changeMode m).lane.inForce = s.lane.inForce := by
  have hl : (s.showMode m).lane.inForce = s.lane.inForce := by
    rw [← s.leaveMode_keeps_ctl_lane.2]
    rfl
  by_cases h : s.ctl.mode = m
  · rw [State.changeMode, if_pos h]
  · rw [State.changeMode_eq h]
    obtain rfl | rfl := hm <;> exact hl

theorem State.mcDone_inForce (s : State) (t code r x : Nat) : ((s.advance t).mcDone code r x).lane.inForce = s.lane.inForce :=
  congrArg LanePart.inForce
    (show _ = (s.advance t).lane from (State.mcDone_keeps (l := [.regs]) code r x rfl (.refl _ _)).frame .lane (by decide))

theorem State.showRetain_spares (m : Mast) (h : Spares modeRegs s0 s) : Spares modeRegs s0 (s.showRetain m) :=
  ((h.putF _ _ _ (by decide)).putF _ _ _ (by decide)).putF _ _ _ (by decide)

theorem State.releaseForce_spares (i : Option Nat) (cause : Nat) (h : Spares modeRegs s0 s) :
    Spares modeRegs s0 (s.releaseForce i cause) :=
  .ite h (((h.same rfl rfl).putF _ _ _ (by decide)).raise _ _ _)

theorem State.coldStart_spares (h : Spares modeRegs s0 s) : Spares modeRegs s0 s.coldStart := by
  have mast (u : State) (m : Mast) (mem : Memory) (data : List Byte) (g : Spares modeRegs s0 u) :
      Spares modeRegs s0 (((u.setMem m mem).setShadow m data).showRetain m) :=
    State.showRetain_spares m <| .keeps (State.setShadow_keeps _ _ rfl (.refl _ _)) (g.same rfl rfl)
  dsimp -zeta only [State.coldStart]
  extract_lets s1 data cycle _ s2 s3 s4
  have h3 : Spares modeRegs s0 s3 :=
    .keeps (State.initRegions_keeps rfl (.refl _ _)) ((State.releaseForce_spares _ _ h).same (t := s2) rfl rfl)
  exact .putF _ _ _ (by decide) (.fold (fun u m g => mast u m _ _ g) h3)

theorem State.warmStart_spares (h : Spares modeRegs s0 s) : Spares modeRegs s0 s.warmStart := by
  dsimp -zeta only [State.warmStart]
  extract_lets pair _ s1 s2
  have h2 : Spares modeRegs s0 s2 := .keeps (State.initRegions_keeps rfl (.refl _ _)) (h.same (t := s1) rfl rfl)
  clear_value pair
  split
  · exact h2
  · split
    · exact h2
    · refine .fold (fun u m g => ?_) h2
      exact .keeps (State.setShadow_keeps _ _ rfl (.refl _ _)) <|
        .ite g (.raise _ _ _ (State.showRetain_spares _ (g.same rfl rfl)))

theorem State.beginRun_spares (s : State) (cold : Bool) : Spares modeRegs (s.changeMode .run) (s.beginRun cold) := by
  dsimp -zeta only [State.beginRun]
  extract_lets r s1 s2 n started _ _ _ s3 c s4 s5 s6
  have h1 : Spares modeRegs s1 s1 := .refl _ _
  have h2 : Spares modeRegs s1 s2 :=
    .ite (State.coldStart_spares h1) <|
    .ite (State.warmStart_spares h1) (.keeps (State.resumeStart_keeps rfl (.refl _ _)) h1)
  have h5 : Spares modeRegs s1 s5 :=
    ((((h2.same (t := s3) rfl rfl).putF _ _ _ (by decide)).putF _ _ _ (by decide)).raise _ _ _
      |>.putF _ _ _ (by decide)).putF _ _ _ (by decide)
  have h6 : Spares modeRegs s1 s6 := .ite (h5.putF _ _ _ (by decide)) h5
  exact State.setRun_spares _ (.keeps (State.scForget_keeps rfl (.refl _ _)) h6)

theorem State.setRun_run (s : State) (r : AppRun) : (s.setRun r).app.run = r := rfl

theorem State.beginRun_run (s : State) (cold : Bool) : (s.beginRun cold).app.run = .running := State.setRun_run _ _

theorem State.setShadow_changes (s : State) (m : Mast) (data : List Byte) : (s.setShadow m data).app.changes = s.app.changes := by
  unfold State.setShadow
  split
  · rfl
  · dsimp only
    split
    · split <;> rfl
    · rfl

/-- A cold restart releases the on-line changes (R294). -/
theorem State.coldStart_changes (s : State) : s.coldStart.app.changes = [] := by
  dsimp -zeta only [State.coldStart]
  extract_lets s1 data cycle _ s2 s3 s4
  have h3 : s3.app = s2.app := (State.initRegions_keeps (l := [.masts, .mem]) rfl (.refl _ s2)).frame .app (by decide)
  have masts (l : List Mast) (u : State) (hu : u.app.changes = []) (mem : State → Mast → Memory) :
      (l.foldl (fun s m => ((s.setMem m (mem s m)).setShadow m data).showRetain m) u).app.changes = [] := by
    induction l generalizing u with
    | nil => exact hu
    | cons m l ih =>
      refine ih _ ?_
      rw [show (((u.setMem m (mem u m)).setShadow m data).showRetain m).app = ((u.setMem m (mem u m)).setShadow m data).app from
        (State.showRetain_keeps (l := [.regs]) _ rfl (.refl _ _)).frame .app (by decide), State.setShadow_changes]
      exact hu
  exact masts _ s3 (by rw [h3]) fun s m =>
    ((s.mast m).mem.writeBank 0 cycle s.app.hash data).writeBank 1 cycle s.app.hash data

theorem State.beginRun_cold_changes (s : State) : (s.beginRun true).app.changes = [] := by
  dsimp -zeta only [State.beginRun]
  extract_lets r s1 s2 n started _ _ _ s3 c s4 s5 s6
  have h2 : s2 = s1.coldStart := rfl
  have h3 : s3.app.changes = [] := (congrArg (·.app.changes) h2).trans s1.coldStart_changes
  have h5 : s5.app = s3.app := rfl
  have h6 : s6.app = s5.app := by unfold s6; split <;> rfl
  show s6.app.changes = []
  rw [h6, h5, h3]

end

/-! ### The mode commands in their modes -/

section
variable {s : State} {t : Nat} {w : Per Bool}

theorem State.startCommand_free (cold : Bool) (code : Nat) (h : s.inhibits = 0) :
    s.startCommand cold code = (s.mcDone code 1 0xFF).beginRun cold := if_neg (not_not.2 h)

theorem exec_stop_of_passes (h : (s.advance t).mcGate w 3 [.run, .hold] = none) :
    exec (.stop t w) s = .next (((s.advance t).mcDone 3 1 0xFF).enterStop 2) := by simp only [exec, execStop, h]; rfl

theorem exec_hold_of_permitted (h : (s.advance t).mcGate w 4 [.run] = none) (hp : s.getF .agreed fMcCtrlHoldPermit = 1)
    (hz : s.getF .agreed fSpStatZero = 1) :
    let u := ((s.advance t).mcDone 4 1 0xFF).changeMode .hold
    exec (.hold t w) s = .next ({ u with app := { u.app with halting := true } }).settleHold := by
  simp only [exec, execHold, h]
  exact if_neg (by rw [State.advance_getF, State.advance_getF, hp, hz]; decide)

theorem exec_resume_of_passes (h : (s.advance t).mcGate w 5 [.hold] = none) :
    let u := ((s.advance t).mcDone 5 1 0xFF).changeMode .run
    exec (.resume t w) s =
      .next (({ u with app := { u.app with halting := false, startedOn := Per.all none } }).setRun .running) := by
  simp only [exec, execResume, h]; rfl

theorem exec_service_of_session (h : (s.advance t).mcGate w 7 [.stop] = none) (hs : s.mon.session.isSome = true) :
    exec (.service t w) s = .next (((s.advance t).mcDone 7 1 0xFF).changeMode .service) := by
  simp only [exec, execService, h]
  exact if_neg fun e : s.mon.session.isNone = true => by simp [Option.isNone_iff_eq_none.1 e] at hs

theorem exec_leave_of_passes (h : (s.advance t).mcGate w 8 [.service] = none) :
    exec (.leave t w) s = .next (((s.advance t).mcDone 8 1 0xFF).enterStop 7) := by simp only [exec, execLeave, h]; rfl

/-- START and START_COLD without inhibits. -/
theorem State.beginRun_commanded (s : State) (t : Nat) {code : Nat} (hc : code < 256) (cold : Bool) (hm : s.ctl.mode = .stop) :
    Commanded s (((s.advance t).mcDone code 1 0xFF).beginRun cold) .run :=
  (s.commanded t hc (m := .run) (by decide) (hm ▸ by decide)).keep (State.beginRun_ctl _ _) (State.beginRun_spares _ _)

/-- A command that ends in STOP: the outputs are off and the cause is shown. -/
theorem State.enterStop_commanded (s : State) (t : Nat) {code : Nat} (hc : code < 256) (cause : Nat) (hm : s.ctl.mode ≠ .stop)
    (hv : cause < 256) :
    let u := ((s.advance t).mcDone code 1 0xFF).enterStop cause
    Commanded s u .stop ∧ u.lane.inForce = [] ∧ u.getF .agreed fMcStopcauseCause = cause := by
  have hmode : ((s.advance t).mcDone code 1 0xFF).ctl.mode ≠ .stop := by
    rwa [show ((s.advance t).mcDone code 1 0xFF).ctl = s.ctl from
      (State.mcDone_keeps (l := [.regs]) _ _ _ rfl (.refl _ (s.advance t))).frame .ctl (by decide)]
  refine ⟨(s.commanded t hc (by decide) hm).keep rfl ((Spares.refl _ _).putF _ _ _ (by decide)), ?_, ?_⟩
  · show (((s.advance t).mcDone code 1 0xFF).changeMode .stop).lane.inForce = []
    rw [State.changeMode_eq hmode]
    exact State.enterMode_stop_inForce _
  · exact (State.getF_putF _ _ fMcStopcauseCause _ (by decide) (by decide)).trans (Nat.mod_eq_of_lt hv)

end

/-- Settles O5: each command passes its gate, and `State.commanded` gives the new mode; what follows in the command spares it. -/
theorem modeCommandsInTheirModes : Obligations.ModeCommandsInTheirModes := by
  unfold Obligations.ModeCommandsInTheirModes
  refine ⟨fun t w s hi ha hm hn => ?_, fun t w s hi ha hm hn => ?_, fun t w s hi ha hm => ?_, fun t w s hi ha hm hp => ?_,
    fun t w s hi ha hm => ?_, fun t w s hi ha hm hs => ?_, fun t w s hi ha hm => ?_⟩
  · have e := exec_start_of_passes (State.mcGate_passes 1 t hi ha (by simp [hm]))
    rw [State.startCommand_free (s := s.advance t) false 1 hn] at e
    obtain ⟨⟨h1, h2, h3, h4, h5⟩, h6⟩ := s.beginRun_commanded t (code := 1) (by decide) false hm
    rw [hm] at h2 h5
    exact ⟨_, e, h1, h2, h3, h4, h5, h6, State.beginRun_run _ _⟩
  · have e := exec_startCold_of_passes (State.mcGate_passes 2 t hi ha (by simp [hm]))
    rw [State.startCommand_free (s := s.advance t) true 2 hn] at e
    obtain ⟨⟨h1, h2, h3, h4, h5⟩, h6⟩ := s.beginRun_commanded t (code := 2) (by decide) true hm
    rw [hm] at h2 h5
    exact ⟨_, e, h1, h2, h3, h4, h5, h6, State.beginRun_run _ _, State.beginRun_cold_changes _⟩
  · have hm' : s.ctl.mode ≠ .stop := by obtain h | h := hm <;> simp [h]
    obtain ⟨⟨⟨h1, h2, h3, h4, h5⟩, h6⟩, h7, h8⟩ := s.enterStop_commanded t (code := 3) (by decide) 2 hm' (by decide)
    exact ⟨_, exec_stop_of_passes (State.mcGate_passes 3 t hi ha (by simpa using hm)), h1, h2, h3, h4, h5, h6, h7, h8⟩
  · obtain ⟨hp, hz⟩ := hp
    have hc := s.commanded t (code := 4) (by decide) (m := .hold) (by decide) (hm ▸ by decide)
    generalize hu : ((s.advance t).mcDone 4 1 0xFF).changeMode .hold = u at hc
    have k : Keeps [.regs, .app] u ({ u with app := { u.app with halting := true } }).settleHold :=
      State.settleHold_keeps rfl (Keeps.upd_app _ rfl (.refl _ u))
    have g : Spares modeRegs u ({ u with app := { u.app with halting := true } }).settleHold :=
      .ite (State.setRun_spares _ (Spares.same rfl rfl (.refl _ u))) (Spares.same rfl rfl (.refl _ u))
    obtain ⟨⟨h1, h2, h3, h4, h5⟩, h6⟩ := hc.keep (k.frame .ctl (by decide)) g
    rw [hm] at h2 h5
    have hl : ({ u with app := { u.app with halting := true } } : State).settleHold.lane.inForce = s.lane.inForce := by
      rw [k.frame .lane (by decide), ← hu, State.changeMode_inForce (.inr rfl), State.mcDone_inForce]
    refine ⟨_, ?_, h1, h2, h3, h4, h5, h6, hl⟩
    rw [← hu]
    exact exec_hold_of_permitted (State.mcGate_passes 4 t hi ha (by simp [hm])) hp hz
  · have hc := s.commanded t (code := 5) (by decide) (m := .run) (by decide) (hm ▸ by decide)
    have e := exec_resume_of_passes (State.mcGate_passes 5 t hi ha (by simp [hm]))
    have hl := (((s.advance t).mcDone 5 1 0xFF).changeMode_inForce (.inl rfl)).trans (s.mcDone_inForce t 5 1 0xFF)
    generalize ((s.advance t).mcDone 5 1 0xFF).changeMode .run = u at hc e hl
    have g : Spares modeRegs u ({ u with app := { u.app with halting := false, startedOn := Per.all none } } : State) :=
      Spares.same rfl rfl (.refl _ u)
    obtain ⟨⟨h1, h2, h3, h4, h5⟩, h6⟩ := hc.keep (by rfl) (State.setRun_spares .running g)
    rw [hm] at h2 h5
    exact ⟨_, e, h1, h2, h3, h4, h5, h6, rfl, hl⟩
  · obtain ⟨⟨h1, h2, h3, h4, h5⟩, h6⟩ :=
      s.commanded t (code := 7) (by decide) (m := .service) (by decide) (hm ▸ by decide)
    rw [hm] at h2 h5
    refine ⟨_, exec_service_of_session (State.mcGate_passes 7 t hi ha (by simp [hm])) hs, h1, h2, h3, h4, h5, h6, ?_⟩
    have hmode : ((s.advance t).mcDone 7 1 0xFF).ctl.mode ≠ .service := by
      rw [show ((s.advance t).mcDone 7 1 0xFF).ctl = s.ctl from
        (State.mcDone_keeps (l := [.regs]) _ _ _ rfl (.refl _ (s.advance t))).frame .ctl (by decide), hm]
      decide
    rw [State.changeMode_eq hmode]
    exact State.enterMode_service_inForce _
  · obtain ⟨⟨⟨h1, h2, h3, h4, h5⟩, h6⟩, -, h8⟩ :=
      s.enterStop_commanded t (code := 8) (by decide) 7 (hm ▸ by decide) (by decide)
    rw [hm] at h2 h5
    exact ⟨_, exec_leave_of_passes (State.mcGate_passes 8 t hi ha (by simp [hm])), h1, h2, h3, h4, h5, h6, h8⟩

end Sys2Proof.Machine

/-!
# Resets with an update session open

A reset first aborts an open update session, and `State.upAbort` clears the session's digest in the boot record, which lies in
flash: a mast's memory after the reset is then not its memory before with SRAM and DRAM cleared. So the memory clauses of O7
and O8 fail.
-/

namespace Sys2Proof.Machine
open Sys2Proof.Safety

/-- An update session in which nothing has been written. -/
def openUpdate : UpSession := { kind := 1, version := 0, blocks := 0, last := 0 }

/-- The module runs with the button's contact closed and an update session open. -/
def closedInUpdate : State :=
  { State.reset with ctl := { mode := .stop, on := true }, panel := { closed := some 0 }, upd := { session := some openUpdate } }

/-- Refutes O8: in `closedInUpdate`, 50 ms after the contact closed, the reset aborts the update session, and mast A's flash holds
a boot record that it did not hold before. -/
theorem not_pushbuttonAndBreakTimers : ¬ Obligations.PushbuttonAndBreakTimers := by
  unfold Obligations.PushbuttonAndBreakTimers
  rintro ⟨-, h, -⟩
  obtain ⟨s', e, -, -, -, -, -, hm⟩ := h (50 * ms) 0 closedInUpdate ⟨rfl, rfl⟩ rfl (by decide) (by decide)
  cases e
  exact absurd (hm .a).2 (by decide +kernel)

/-! ### A start whose self-tests fail on every mast -/

/-- The findings of a start in which no mast passes its self-tests (R30). -/
def failedTests : BootEnv :=
  { selftest := Per.all false, checkers := Per.all 0, keys := Per.all ⟨false, [], []⟩
    pins := 0, serial := 0, otpKeys := [], revoked := 0, button := false
    settings := ⟨(0, 0), [], none, false, [], []⟩, symbols := [], initial := [], overran := 0, statics := [], constants := [] }

/-- A state at another time. -/
def State.withClock (s : State) (now : Nat) (time : TimePart) : State := { s with now := now, time := time }

/-- The state a step of the start is worked out in: the clock and the timebases stand at that step. -/
def State.atStep (s : State) (k : Nat) : State :=
  let tb := s.time.tb.map fun m v => if (s.masts.get m).powered then (s.ctl.stepAt k - s.ctl.bootFrom) * 2 ^ 32 else v
  s.withClock (s.ctl.stepAt k) { s.time with tb := tb }

section
variable (s : State) (k : Nat) (f : State → State)

theorem State.during_ctl : (s.during k f).ctl = (f (s.atStep k)).ctl := rfl
theorem State.during_masts : (s.during k f).masts = (f (s.atStep k)).masts := rfl
theorem State.during_log : (s.during k f).log = (f (s.atStep k)).log := rfl

end

/-- Such a start up to the end of the self-tests, before SAFE is entered. -/
def State.untilTests (s : State) : State :=
  [Mast.a, .b, .c].foldl (fun s m => s.bootCheckers failedTests.checkers m)
    (((s.during 30 fun s => [Mast.a, .b, .c].foldl State.bootSilence s).bootOtp failedTests).atStep 180)

/-- No mast passes: SAFE. -/
theorem State.bootSelftests_failedTests (s : State) :
    s.bootSelftests failedTests =
      ([Mast.a, .b, .c].foldl (fun s m => s.bootCheckers failedTests.checkers m) s).changeMode .safe := rfl

/-- The start ends in SAFE; its masts and its log are those of the entry into SAFE. -/
theorem State.bootRun_failedTests (s : State) :
    (s.bootRun failedTests).masts = (s.untilTests.changeMode .safe).masts ∧
      (s.bootRun failedTests).log = (s.untilTests.changeMode .safe).log := by
  dsimp -zeta only [State.bootRun]
  extract_lets s1 s2 s3
  have hmode : s3.ctl.mode = .safe := by
    unfold s3
    rw [State.during_ctl, State.bootSelftests_failedTests, State.changeMode_mode]
  rw [if_pos (by rw [hmode]; decide)]
  unfold s3
  rw [State.during_masts, State.during_log, State.bootSelftests_failedTests]
  exact ⟨rfl, rfl⟩

/-- Mode, masts and update session are the same in both states: so it is up to the entry into SAFE. -/
def State.sameCore (s t : State) : Prop := t.ctl = s.ctl ∧ t.masts = s.masts ∧ t.upd.session = s.upd.session

theorem State.sameCore.trans {s t u : State} (h : s.sameCore t) (g : t.sameCore u) : s.sameCore u :=
  ⟨g.1.trans h.1, g.2.1.trans h.2.1, g.2.2.trans h.2.2⟩

theorem State.sameCore_of_keeps {s t : State}
    (k : Keeps [.now, .time, .regs, .log, .key, .fb, .app, .free, .lane] s t) : s.sameCore t :=
  ⟨k.frame .ctl (by decide), k.frame .masts (by decide), congrArg (·.session) (k.frame .upd (by decide))⟩

theorem State.silence_sameCore (s : State) : s.sameCore (s.during 30 fun s => [Mast.a, .b, .c].foldl State.bootSilence s) :=
  State.sameCore_of_keeps <|
    State.during_keeps _ _ rfl (fun _ _ g => .fold (fun _ _ g => State.bootSilence_keeps _ rfl g) g) (.refl _ s)

theorem State.bootOtp_sameCore (s : State) (env : BootEnv) : s.sameCore (s.bootOtp env) := by
  have k : Keeps [.regs, .upd] s (s.bootOtp env) := State.bootOtp_keeps _ rfl (.refl _ s)
  refine ⟨k.frame .ctl (by decide), k.frame .masts (by decide), ?_⟩
  unfold State.bootOtp
  dsimp only
  split <;> rfl

theorem State.withClock_sameCore (s : State) (now : Nat) (time : TimePart) : s.sameCore (s.withClock now time) :=
  ⟨rfl, rfl, rfl⟩

theorem State.atStep_sameCore (s : State) (k : Nat) : s.sameCore (s.atStep k) := s.withClock_sameCore _ _

theorem State.checkers_sameCore (s : State) (checkers : Per Nat) (ms : List Mast) :
    s.sameCore (ms.foldl (fun s m => s.bootCheckers checkers m) s) :=
  State.sameCore_of_keeps (.fold (fun _ _ g => State.bootCheckers_keeps _ _ rfl g) (.refl _ _))

theorem State.untilTests_sameCore (s : State) : s.sameCore s.untilTests := by
  unfold State.untilTests
  exact (((State.silence_sameCore s).trans (State.bootOtp_sameCore _ _)).trans (State.atStep_sameCore _ _)).trans
    (State.checkers_sameCore _ _ _)

theorem State.leaveMode_boot {s : State} (h : s.ctl.mode = .boot) : s.leaveMode = s := by
  unfold State.leaveMode
  rw [h]

/-- The announcement of a mode leaves memories and session. -/
theorem State.showMode_masts_upd {s : State} (h : s.ctl.mode = .boot) (m : Mode) :
    (s.showMode m).masts = s.masts ∧ (s.showMode m).upd = s.upd := by
  have k : Keeps [.regs, .log] (s.markMode m) (s.showMode m) :=
    State.raise_keeps _ _ _ rfl <| State.putF_keeps _ _ _ rfl <| State.putF_keeps _ _ _ rfl <|
    State.putF_keeps _ _ _ rfl (.refl _ _)
  have hm : (s.markMode m).masts = s.leaveMode.masts := rfl
  have hu : (s.markMode m).upd = s.leaveMode.upd := rfl
  rw [State.leaveMode_boot h] at hm hu
  exact ⟨(k.frame .masts (by decide)).trans hm, (k.frame .upd (by decide)).trans hu⟩

/-! ### The entry into SAFE and the open session -/

/-- What SAFE brings up to where an open update session is aborted. -/
def State.closeForSafe (s : State) : State := (s.appStop.queuedClearAll.fbOff.slBypass.spStop).bridgeClose 3

/-- What SAFE brings after that. -/
def State.settleSafe (s : State) : State := (Mast.all.foldl State.dmaIdle s.endSession).abandonJoin.fieldRegime

theorem State.enterMode_safe (s : State) : s.enterMode .safe = (s.closeForSafe.upAbort 3).settleSafe := by
  dsimp only [State.enterMode, State.closeForSafe, State.settleSafe]

theorem State.closeForSafe_keeps (s : State) :
    Keeps [.regs, .masts, .log, .lane, .fb, .app, .bridge, .stay, .sup, .field] s s.closeForSafe :=
  State.bridgeClose_keeps _ rfl <| State.spStop_keeps rfl <| State.slBypass_keeps rfl <| State.fbOff_keeps rfl <|
  State.queuedClearAll_keeps rfl <| State.appStop_keeps rfl (.refl _ s)

/-- An event that waits goes on waiting. -/
theorem Spares.of_log {s t : State} (h : t.log = s.log) : Spares [] s t :=
  ⟨fun _ _ h => absurd h (by simp), fun _ he => h ▸ he⟩

theorem State.raiseLimited_spares (s : State) (src key code a1 a2 : Nat) : Spares [] s (s.raiseLimited src key code a1 a2) :=
  .ite (.refl _ s) ((Spares.refl [] s).raiseBy src code a1 a2)

theorem State.discardTest_spares (s : State) (n : Nat) : Spares [] s (s.discardTest n) := by
  delta State.discardTest
  split
  case h_1 => exact .refl _ s
  case h_2 x hx =>
    extract_lets o f s1 s2 s3
    have k : Keeps [.regs, .field] s s3 := State.incF_keeps _ _ _ rfl <| State.setOut_keeps _ _ rfl <| .upd_field _ rfl (.refl _ s)
    have k' : Keeps [.field] (s3.raiseLimited s3.lane.active.mask x.out evFiTestDiscarded x.out n) _ :=
      State.outItem_keeps x.out rfl (.refl _ _)
    exact ((Spares.of_log (k.frame .log (by decide))).trans (State.raiseLimited_spares ..)).trans
      (.of_log (k'.frame .log (by decide)))

theorem State.fieldRegime_spares (s : State) : Spares [] s s.fieldRegime := by
  unfold State.fieldRegime
  extract_lets r
  refine .ite (.refl _ s) ?_
  generalize hu : ({ s with field := { s.field with regime := r } } : State) = u
  have hl : u.log = s.log := hu ▸ rfl
  have k : Keeps [.regs] (u.discardTest 3) (u.discardTest 3).showField := State.showField_keeps rfl (.refl _ _)
  exact ((Spares.of_log hl).trans (u.discardTest_spares 3)).trans (.of_log (k.frame .log (by decide)))

theorem State.endSession_spares (s : State) : Spares [] s s.endSession := by
  delta State.endSession
  split
  case h_1 => exact .refl _ s
  case h_2 key _ _ =>
    extract_lets p s1 s2
    have k : Keeps [.regs, .mon] s s2 :=
      State.putF_keeps _ _ _ rfl <| State.putF_keeps _ _ _ rfl <| State.putF_keeps _ _ _ rfl <| .upd_mon _ rfl (.refl _ s)
    have k' : Keeps [.regs, .app] (s2.raise evMonSession 0 key) _ := State.askRelease_keeps none 2 rfl (.refl _ _)
    exact ((Spares.of_log (k.frame .log (by decide))).raise ..).trans (.of_log (k'.frame .log (by decide)))

theorem State.settleSafe_spares (s : State) : Spares [] s s.settleSafe := by
  have k : Keeps [.regs, .writes, .masts, .lane, .intake, .queue, .sup, .mem] s.endSession
      (Mast.all.foldl State.dmaIdle s.endSession).abandonJoin :=
    State.abandonJoin_keeps rfl <| .fold (fun _ _ g => State.dmaIdle_keeps _ rfl g) (.refl _ _)
  exact ((State.endSession_spares s).trans (.of_log (k.frame .log (by decide)))).trans (State.fieldRegime_spares _)

theorem State.upAbort_some {s : State} {x : UpSession} (h : s.upd.session = some x) (cause : Nat) :
    ∃ e ∈ (s.upAbort cause).log.due, e.code = evUpAborted := by
  unfold State.upAbort
  rw [h]
  dsimp only
  obtain ⟨e, he, hc, -⟩ := raised_raise s evUpAborted cause (s.getF .agreed fUpStatPhase)
  generalize s.raise evUpAborted cause (s.getF .agreed fUpStatPhase) = u at he ⊢
  have k : ∀ f, Keeps [.regs, .masts, .upd, .mem] u
      ((((u.changeRecord u.voters f).setSession none).setPhase 0).putF .agreed fUpCmdstatReason 13) :=
    fun f => State.putF_keeps _ _ _ rfl <| State.setPhase_keeps _ rfl <| State.setSession_keeps _ rfl <|
      State.changeRecord_keeps _ _ rfl (.refl _ _)
  refine ⟨e, ?_, hc⟩
  rw [show (_ : State).log = u.log from (k _).frame .log (by decide)]
  exact he

/-- With a session open, the entry into SAFE tells its abortion. -/
theorem State.enterMode_safe_tells {s : State} {x : UpSession} (h : s.upd.session = some x) :
    ∃ e ∈ (s.enterMode .safe).log.due, e.code = evUpAborted := by
  have hc : s.closeForSafe.upd.session = some x := by rw [s.closeForSafe_keeps.frame .upd (by decide), h]
  obtain ⟨e, he, hcode⟩ := State.upAbort_some hc 3
  rw [State.enterMode_safe]
  exact ⟨e, (State.settleSafe_spares _).2 e he, hcode⟩

/-! ### The entry into SAFE without a session -/

theorem State.lose_mast (s : State) (m : Mast) (regs : RegFile) (writes : List CombWrite) (queue : Per QueueMast)
    (intake : IntakePart) (sup : SupPart) :
    State.mast { s with regs := regs, writes := writes, queue := queue, intake := intake, sup := sup } m = s.mast m := rfl

theorem State.cutPower_mast_other (s : State) {m o : Mast} (h : o ≠ m) : (s.cutPower m).mast o = s.mast o := by
  have k (x : State) : Keeps [.regs] x
      (Mast.all.foldl (fun s obs => s.putF (.mast obs) ⟨rLmHbstat, 4 * m.code + 3, 4 * m.code⟩ 0) x) :=
    .fold (fun _ _ q => State.putF_keeps _ _ _ rfl q) (.refl _ _)
  unfold State.cutPower
  exact (State.lose_mast _ _ _ _ _ _ _).trans
    ((State.mast_of_masts ((k _).frame .masts (by decide)) o).trans (State.mast_setMast_other _ _ _ _ h))

/-- Only the jury mast is powered off with a join. -/
theorem State.abandonJoin_mast (s : State) {m : Mast} (h : m ≠ .j) : s.abandonJoin.mast m = s.mast m := by
  unfold State.abandonJoin
  split
  case h_1 => rfl
  case h_2 j _ =>
    dsimp only
    split
    · rfl
    · exact State.cutPower_mast_other _ h

theorem State.settleSafe_mem (s : State) {m : Mast} (h : m ≠ .j) : (s.settleSafe.mast m).mem = (s.mast m).mem := by
  have k1 : Keeps [.regs, .log, .app, .mon, .queue] s (Mast.all.foldl State.dmaIdle s.endSession) :=
    .fold (fun _ _ g => State.dmaIdle_keeps _ rfl g) (State.endSession_keeps rfl (.refl _ s))
  have k2 (u : State) : Keeps [.regs, .log, .field] u u.fieldRegime := State.fieldRegime_keeps rfl (.refl _ u)
  exact ((k2 _).frame .mem (by decide) m).trans
    ((congrArg MastState.mem (State.abandonJoin_mast _ h)).trans (k1.frame .mem (by decide) m))

theorem State.upAbort_none {s : State} (h : s.upd.session = none) (cause : Nat) : s.upAbort cause = s := by
  unfold State.upAbort
  rw [h]

theorem State.enterMode_safe_mem {s : State} {m : Mast} (h : s.upd.session = none) (hm : m ≠ .j) :
    ((s.enterMode .safe).mast m).mem = (s.mast m).mem := by
  have k := s.closeForSafe_keeps
  have hc : s.closeForSafe.upd.session = none := by rw [k.frame .upd (by decide), h]
  rw [State.enterMode_safe, State.upAbort_none hc, State.settleSafe_mem _ hm]
  exact k.frame .mem (by decide) m

/-! ### A failed start shows whether a session was open at its beginning -/

/-- It enters SAFE from a state of the same memories and session. -/
theorem State.bootRun_failedTests_enters {s : State} (h : s.ctl.mode = .boot) :
    ∃ v : State, v.masts = s.masts ∧ v.upd.session = s.upd.session ∧
      (s.bootRun failedTests).masts = (v.enterMode .safe).masts ∧ (s.bootRun failedTests).log = (v.enterMode .safe).log := by
  obtain ⟨hctl, hmasts, hses⟩ := s.untilTests_sameCore
  have hmode : s.untilTests.ctl.mode = .boot := by rw [hctl, h]
  obtain ⟨h1, h2⟩ := State.showMode_masts_upd hmode .safe
  refine ⟨s.untilTests.showMode .safe, h1.trans hmasts, (congrArg (·.session) h2).trans hses, ?_⟩
  rw [← State.changeMode_eq (by rw [hmode]; decide)]
  exact s.bootRun_failedTests

theorem State.bootRun_failedTests_tells {s : State} {x : UpSession} (h : s.ctl.mode = .boot) (hs : s.upd.session = some x) :
    ∃ e ∈ (s.bootRun failedTests).log.due, e.code = evUpAborted := by
  obtain ⟨v, -, hv, -, hl⟩ := State.bootRun_failedTests_enters h
  rw [hl]
  exact State.enterMode_safe_tells (hv.trans hs)

theorem State.bootRun_failedTests_mem {s : State} {m : Mast} (h : s.ctl.mode = .boot) (hs : s.upd.session = none) (hm : m ≠ .j) :
    ((s.bootRun failedTests).mast m).mem = (s.mast m).mem := by
  obtain ⟨v, hmasts, hv, hl, -⟩ := State.bootRun_failedTests_enters h
  calc ((s.bootRun failedTests).mast m).mem
      = ((v.enterMode .safe).mast m).mem := congrArg MastState.mem (State.mast_of_masts hl m)
    _ = (v.mast m).mem := State.enterMode_safe_mem (hv.trans hs) hm
    _ = (s.mast m).mem := congrArg MastState.mem (State.mast_of_masts hmasts m)

/-- The module is in STOP with the timebases seeded and an update session open; masts A, B and C vote. -/
def stoppedInUpdate : State :=
  { State.reset with ctl := { mode := .stop, on := true }, time := { State.reset.time with seeded := true }
                     upd := { session := some openUpdate } }

/-- RESET in that state, at once, with a start that fails its self-tests. -/
def resetInUpdate : State := (stoppedInUpdate.advance 0).moduleReset fMcRstcauseSoftware failedTests

theorem exec_reset_stoppedInUpdate : exec (.reset 0 (Per.all true) failedTests) stoppedInUpdate = .next resetInUpdate := rfl

/-- The start follows on the state that the reset leaves, in which no session is open: it tells of no abortion. -/
theorem resetInUpdate_untold : ∀ e ∈ resetInUpdate.log.due, e.code ≠ evUpAborted := by decide +kernel

/-- Mast A's flash holds the boot record that the reset wrote when it aborted the session. -/
theorem resetInUpdate_mem : (resetInUpdate.mast .a).mem ≠ (stoppedInUpdate.mast .a).mem.clearSram.clearDram := by decide +kernel

/-- Refutes O7: a RESET in `stoppedInUpdate` aborts the session and leaves a boot record in mast A's flash. No state whose memories
are the former ones without SRAM and DRAM starts up to the next state: with a session open the start would tell of its abortion,
and without one mast A's memory would come through as it was. -/
theorem not_resetsRunBoot : ¬ Obligations.ResetsRunBoot := by
  unfold Obligations.ResetsRunBoot
  rintro ⟨h, -⟩
  obtain ⟨s', e, u, hs', hmode, -, -, -, hm, -⟩ :=
    h 0 (Per.all true) failedTests stoppedInUpdate (by decide) (by decide) (.inl rfl)
  have hu : resetInUpdate = u.bootRun failedTests :=
    (Host.Outcome.next.inj (exec_reset_stoppedInUpdate.symm.trans e)).trans hs'
  cases hses : u.upd.session with
  | some x =>
    obtain ⟨ev, hev, hcode⟩ := State.bootRun_failedTests_tells hmode hses
    exact resetInUpdate_untold ev (hu ▸ hev) hcode
  | none =>
    refine resetInUpdate_mem ?_
    rw [hu, State.bootRun_failedTests_mem hmode hses (by decide)]
    exact (hm .a).1

end Sys2Proof.Machine

/-!
# The policer and the PRP trailer

The policer judges a frame by its length as received. O34 judges the first copy of a PRP frame by its length without the trailer:
a class whose tokens last for the one and not for the other refutes it.
-/

namespace Sys2Proof.Machine

/-- An ARP frame of 60 bytes that ends in a PRP trailer of LAN A with sequence number 1. -/
def trailedFrame : List Byte :=
  List.replicate 12 0 ++ [0x08, 0x06] ++ List.replicate 40 0 ++ [0x00, 0x01, 0xA0, 0x2E, 0x88, 0xFB]

/-- A class with tokens for 62.5 bytes: the frame has 64 with its FCS, and 58 without the trailer. -/
def scantClass : NetClass := { rate := 1, reserve := 1, tokens := 5000000 }

/-- In STOP with all masts powered, port 1 is enabled and its class 0 is the scant one. -/
def scantPort : State :=
  { State.reset with
    ctl := { mode := .stop, on := true }
    masts := Per.all { powered := true }
    net := { enabled := true, ifaces := [{ mode := 1 }, {}]
             ports := [{ speeds := 1, classes := scantClass :: List.replicate 7 {} }, {}, {}, {}] } }

/-- The frame's first copy is refused by the policer: it forms no item. -/
theorem scantPort_polices :
    ∃ s', exec (.networkFrameReceived 0 1 trailedFrame true) scantPort = .next s' ∧ s'.intake.fan = [] :=
  ⟨_, rfl, by decide +kernel⟩

/-- Refutes O34: by its length without the trailer the policer would let the frame in, and the statement has it form an item. -/
theorem not_networkPorts : ¬ Obligations.NetworkPorts := by
  unfold Obligations.NetworkPorts
  rintro ⟨-, -, -, -, -, -, -, -, -, -, -, -, firstCopy, -⟩
  obtain ⟨s', e, hitem, -⟩ := firstCopy 0 1 1 trailedFrame scantPort
    (by decide) (by decide) (by decide) (by decide) (by decide +kernel)
    (by decide +kernel) (by decide +kernel) rfl (by decide +kernel) (by decide +kernel) (by decide +kernel) (by decide +kernel)
  obtain ⟨u, e', hfan⟩ := scantPort_polices
  cases Host.Outcome.next.inj (e.symm.trans e')
  rw [hitem] at hfan
  exact absurd (congrArg List.length hfan) (by simp)

end Sys2Proof.Machine

/-!
# Canonical form and bus errors

Every command keeps the canonical form of registers and memories (`framed`), and so does an idle step. The accesses that the address
map refuses (R77 to R80) change nothing but the answer to the triad.
-/

namespace Sys2Proof.Machine
open Sys2Proof.Safety

/-- Settles O52: an idle step stores nothing, and of each command `framed` says that it keeps the form. -/
theorem stepKeepsCanonicalForm : Obligations.StepKeepsCanonicalForm := by
  unfold Obligations.StepKeepsCanonicalForm
  intro s s' hc he
  unfold step at he
  split at he
  · obtain rfl := Host.Outcome.next.inj he
    exact (State.advance_keeps _ rfl (.refl [.now, .free, .time] s)).canon hc
  · next c rest _ =>
    obtain ⟨u, e, k⟩ := framed c { s with pending := rest }
    obtain rfl := Host.Outcome.next.inj (e.symm.trans he)
    exact k.canon hc

section
variable {s : State} {t addr : Nat} {m : Mast} {tr : Triad}

theorem regionOf_eq_nowhere (h : (0xFFFF < addr ∧ addr < 0x10000000) ∨ (0x10BFFFFF < addr ∧ addr < 0x20000000) ∨
    (0x200FFFFF < addr ∧ addr < 0x30000000) ∨ (0x33FFFFFF < addr ∧ addr < 0x40000000) ∨
    (0xBFFFFFFF < addr ∧ addr < 0xE0000000)) : regionOf addr = .nowhere := by
  unfold regionOf
  iterate 8 rw [if_neg (by omega)]

theorem regionOf_eq_rom_or_flash (h : addr ≤ 0xFFFF ∨ (0x30000000 ≤ addr ∧ addr ≤ 0x33FFFFFF)) :
    regionOf addr = .rom ∨ regionOf addr = .flash := by
  unfold regionOf
  split_ifs <;> simp <;> omega

theorem regionOf_eq_sram (h : 0x10000000 ≤ addr) (h' : addr ≤ 0x10BFFFFF) : regionOf addr = .sram := by
  rw [regionOf, if_neg (by omega), if_pos ⟨h, h'⟩]

theorem regionOf_eq_dram (h : 0x40000000 ≤ addr) (h' : addr ≤ 0x7FFFFFFF) : regionOf addr = .dram := by
  unfold regionOf
  iterate 4 rw [if_neg (by omega)]
  exact if_pos ⟨h, h'⟩

theorem reservedArea_of_R79 (h : (0x10B20000 ≤ addr ∧ addr ≤ 0x10B3FFFF) ∨ (0x10B40000 ≤ addr ∧ addr ≤ 0x10BFFFFF) ∨
    (0x200FFFE0 ≤ addr ∧ addr ≤ 0x200FFFFF)) : reservedArea addr = true := by
  simp only [reservedArea, Bool.or_eq_true, decide_eq_true_eq]
  omega

theorem State.fenced_of_below
    (h : (0x10000000 ≤ addr ∧ addr ≤ 0x10BFFFFF ∧ addr < 0x10000000 + s.getF .agreed fTdFenceSram * 0x10000) ∨
      (0x40000000 ≤ addr ∧ addr ≤ 0x7FFFFFFF ∧ addr < 0x40000000 + s.getF .agreed fTdFenceDram * 0x1000000)) :
    s.fenced addr = true := by
  rcases h with ⟨hlo, hhi, h⟩ | ⟨hlo, hhi, h⟩
  · simp [State.fenced, regionOf_eq_sram hlo hhi, h]
  · simp [State.fenced, regionOf_eq_dram hlo hhi, h]

@[simp] theorem State.advance_fenced (s : State) (t a : Nat) : (s.advance t).fenced a = s.fenced a := rfl

theorem exec_unmappedAccess_of_nowhere (hr : s.triadRuns m = true) (h : regionOf addr = .nowhere) :
    exec (.unmappedAccess t m tr addr) s = .next ((s.advance t).answer m tr .busError) := by
  simp [exec, execUnmappedAccess, hr, h, ok]

theorem exec_readOnlyRegionWrite_of_rom_or_flash (hr : s.triadRuns m = true)
    (h : regionOf addr = .rom ∨ regionOf addr = .flash) :
    exec (.readOnlyRegionWrite t m tr addr) s = .next ((s.advance t).answer m tr .busError) := by
  simp [exec, execReadOnlyRegionWrite, hr, h, ok]

theorem exec_reservedAreaWrite_of_reserved (hr : s.triadRuns m = true) (h : reservedArea addr = true) :
    exec (.reservedAreaWrite t m tr addr) s = .next ((s.advance t).answer m tr .busError) := by
  simp [exec, execReservedAreaWrite, hr, h, ok]

theorem exec_triadCFencedWrite_of_fenced (hr : s.triadRuns m = true) (h : s.fenced addr = true) :
    exec (.triadCFencedWrite t m addr) s =
      .next (((s.advance t).raiseM m evFenceViolation addr 0).answer m .c .busError) := by
  simp [exec, execTriadCFencedWrite, hr, h, ok]

end

/-- Settles O1: each address lies where its command's check looks, and the answer is then all that changes. -/
theorem busErrorAccesses : Obligations.BusErrorAccesses := by
  unfold Obligations.BusErrorAccesses
  refine ⟨fun t m tr addr s hr h => ?_, fun t m tr addr s hr h => ?_, fun t m tr addr s hr h => ?_, fun t m addr s hr h => ?_⟩
  · exact ⟨_, exec_unmappedAccess_of_nowhere hr (regionOf_eq_nowhere h), rfl, State.answer_sameBut _ m tr _⟩
  · exact ⟨_, exec_readOnlyRegionWrite_of_rom_or_flash hr (regionOf_eq_rom_or_flash h), rfl, State.answer_sameBut _ m tr _⟩
  · exact ⟨_, exec_reservedAreaWrite_of_reserved hr (reservedArea_of_R79 h), rfl, State.answer_sameBut _ m tr _⟩
  · exact ⟨_, exec_triadCFencedWrite_of_fenced hr (State.fenced_of_below h), rfl,
      (raised_of_log rfl ..).2 (raised_raiseM ..),
      (State.answer_keeps m .c _ rfl (State.raiseM_keeps m _ _ _ rfl (.refl [.masts, .log] _))).frame⟩

end Sys2Proof.Machine

/-!
# Going fail-silent

What the silence record holds (R95), and what a working mast leaves when it goes fail-silent (R92, R93): `wentSilent_of_exec_goSilent` says
it once for every command whose effect it is.
-/

namespace Sys2Proof.Machine
open Sys2Proof.Safety

/-! ### The silence record -/

theorem silenceBytes_length (valid cause who stamp detail silences : Nat) :
    (silenceBytes valid cause who stamp detail silences).length = 32 := by
  simp [silenceBytes, natLe_length]

/-- Past a first piece of the record, a field is one of the rest. -/
theorem fieldAt_append_right {xs : List Byte} {k : Nat} (h : xs.length = k) (ys : List Byte) (off n : Nat) :
    fieldAt (xs ++ ys) (k + off) n = fieldAt ys off n := by
  rw [fieldAt, fieldAt, slice, slice, ← List.drop_drop, List.drop_left' h]

theorem fieldAt_natLe (n v : Nat) (ys : List Byte) : fieldAt (natLe n v ++ ys) 0 n = v % 256 ^ n := by
  rw [fieldAt, slice, List.drop_zero, List.take_left' (natLe_length n v), leNat_natLe]

theorem leNat_lt (bs : List Byte) : leNat bs < 256 ^ bs.length := by
  induction bs with
  | nil => simp [leNat]
  | cons b bs ih =>
    have hb := b.isLt
    rw [leNat, List.length_cons, pow_succ]
    omega

/-- A field of `n` bytes holds no greater number than they do. -/
theorem fieldAt_lt (bs : List Byte) (off n : Nat) : fieldAt bs off n < 256 ^ n :=
  (leNat_lt _).trans_le (Nat.pow_le_pow_right (by decide) (List.length_take_le ..))

section
variable (valid cause who stamp detail silences : Nat)

theorem silenceBytes_fields :
    fieldAt (silenceBytes valid cause who stamp detail silences) 0 2 = 0x5352 ∧
    fieldAt (silenceBytes valid cause who stamp detail silences) 2 1 = valid % 256 ∧
    fieldAt (silenceBytes valid cause who stamp detail silences) 3 1 = cause % 256 ∧
    fieldAt (silenceBytes valid cause who stamp detail silences) 4 4 = who % 2 ^ 32 ∧
    fieldAt (silenceBytes valid cause who stamp detail silences) 20 4 = detail % 2 ^ 32 := by
  simp only [silenceBytes, List.append_assoc]
  have past (n v off k : Nat) (ys : List Byte) : fieldAt (natLe n v ++ ys) (n + off) k = fieldAt ys off k :=
    fieldAt_append_right (natLe_length n v) ys off k
  refine ⟨fieldAt_natLe 2 _ _, ?_, ?_, ?_, ?_⟩
  · exact (past 2 _ 0 1 _).trans (fieldAt_natLe 1 _ _)
  · exact (past 2 _ 1 1 _).trans ((past 1 _ 0 1 _).trans (fieldAt_natLe 1 _ _))
  · exact (past 2 _ 2 4 _).trans ((past 1 _ 1 4 _).trans ((past 1 _ 0 4 _).trans (fieldAt_natLe 4 _ _)))
  · exact (past 2 _ 18 4 _).trans ((past 1 _ 17 4 _).trans ((past 1 _ 16 4 _).trans ((past 4 _ 12 4 _).trans
      ((past 8 _ 4 4 _).trans ((past 4 _ 0 4 _).trans (fieldAt_natLe 4 _ _))))))

end

/-! ### A mast that goes fail-silent -/

section
variable (s : State) (m : Mast) (cause who detail : Nat)

/-- The record that mast `m` writes as it goes fail-silent. -/
def State.silenceRecord : List Byte :=
  silenceBytes 1 cause who s.moduleTime detail (satAdd 0xFFFFFFFF (s.mast m).mem.silences 1)

theorem State.silenceRecord_length : (s.silenceRecord m cause who detail).length = 32 := silenceBytes_length ..

/-- The mast as it stands once it has gone fail-silent. -/
def State.silencedMast : MastState :=
  { s.mast m with
    silent := true
    held := true
    token := false
    lastWord := some (s.silenceRecord m cause who detail)
    mem := (s.mast m).mem.writeBytes silenceAddr (s.silenceRecord m cause who detail) }

variable {s m}

theorem State.goSilent_mast (hp : (s.mast m).powered = true) (hs : (s.mast m).silent = false) :
    (s.goSilent m cause who detail).mast m = s.silencedMast m cause who detail := by
  simp [State.goSilent, hp, hs, State.silencedMast, State.silenceRecord]

theorem State.goSilent_recordOf (hp : (s.mast m).powered = true) (hs : (s.mast m).silent = false) :
    Safety.recordOf (s.goSilent m cause who detail) m = s.silenceRecord m cause who detail := by
  rw [Safety.recordOf, State.goSilent_mast cause who detail hp hs, ← State.silenceRecord_length s m cause who detail]
  exact Memory.readBytes_writeBytes _ _ _

theorem State.goSilent_wentSilent (hp : (s.mast m).powered = true) (hs : (s.mast m).silent = false) (hc : cause < 256) :
    wentSilent s (s.goSilent m cause who detail) m cause := by
  obtain ⟨hmagic, hvalid, hcause, -, -⟩ := silenceBytes_fields 1 cause who s.moduleTime detail
    (satAdd 0xFFFFFFFF (s.mast m).mem.silences 1)
  unfold wentSilent
  rw [State.goSilent_recordOf cause who detail hp hs, State.goSilent_mast cause who detail hp hs]
  refine ⟨rfl, rfl, rfl, rfl, hmagic, hvalid, hcause.trans (Nat.mod_eq_of_lt hc), fun a ha => ?_, fun o ho => ?_⟩
  · exact Memory.readByte_writeBytes_outside _ _ _ _ ((State.silenceRecord_length s m cause who detail).symm ▸ ha)
  · exact State.goSilent_other s m o _ _ _ ho

theorem State.goSilent_recorded (hp : (s.mast m).powered = true) (hs : (s.mast m).silent = false) (hw : who < 2 ^ 32)
    (hd : detail < 2 ^ 32) : recorded (s.goSilent m cause who detail) m who detail := by
  obtain ⟨-, -, -, hwho, hdetail⟩ := silenceBytes_fields 1 cause who s.moduleTime detail
    (satAdd 0xFFFFFFFF (s.mast m).mem.silences 1)
  rw [recorded, State.goSilent_recordOf cause who detail hp hs]
  exact ⟨hwho.trans (Nat.mod_eq_of_lt hw), hdetail.trans (Nat.mod_eq_of_lt hd)⟩

end

/-- The mast that WHO names, with a core that exists, fits the field. -/
theorem whoOf_lt {core : Nat} (m : Mast) (tr : Triad) (h : core ≤ 2) : whoOf m tr core < 2 ^ 32 := by
  cases m <;> cases tr <;> simp only [whoOf, Mast.code, Triad.code] <;> omega

theorem wentSilent_of_masts {s u t : State} {m : Mast} {cause : Nat} (h : u.masts = s.masts) (hw : wentSilent u t m cause) :
    wentSilent s t m cause := by
  simpa only [wentSilent, State.mast, h] using hw

theorem State.powered_of_triadRuns {s : State} {m : Mast} (h : s.triadRuns m = true) :
    (s.mast m).powered = true ∧ (s.mast m).silent = false := by
  simp only [State.triadRuns, Bool.and_eq_true, Bool.not_eq_true'] at h
  obtain ⟨⟨⟨hp, hs⟩, -⟩, -⟩ := h
  exact ⟨hp, hs⟩

/-- A command that, past the clock and registers, makes a working mast go fail-silent. -/
theorem wentSilent_of_exec_goSilent {c : Instr} {s u : State} {t cause who detail : Nat} {m : Mast}
    (he : exec c s = .next (u.goSilent m cause who detail)) (hu : sameBut [.regs] (s.advance t) u)
    (hm : (s.mast m).powered = true ∧ (s.mast m).silent = false) (hc : cause < 256) (hw : who < 2 ^ 32) (hd : detail < 2 ^ 32) :
    ∃ s', exec c s = .next s' ∧ wentSilent s s' m cause ∧ recorded s' m who detail ∧
      sameBut [.masts, .mem, .lane, .regs, .time] (s.advance t) s' := by
  have hmasts : u.masts = s.masts := hu .masts (by decide)
  obtain ⟨hp, hs⟩ := State.mast_of_masts hmasts m ▸ hm
  refine ⟨_, he, wentSilent_of_masts hmasts (State.goSilent_wentSilent _ _ _ hp hs hc),
    State.goSilent_recorded _ _ _ hp hs hw hd, sameBut_trans (sameBut_mono hu (by decide)) ?_⟩
  exact (State.goSilent_keeps m _ _ _ rfl (.refl _ u)).frame

/-- The same of a mast whose triads run. -/
theorem wentSilent_of_exec_triadFault {c : Instr} {s : State} {t cause core detail : Nat} {m : Mast} {tr : Triad}
    (he : exec c s = .next ((s.advance t).triadFault m tr cause core detail)) (hr : s.triadRuns m = true) (hc : cause < 256)
    (hcore : core ≤ 2) (hd : detail < 2 ^ 32) :
    ∃ s', exec c s = .next s' ∧ wentSilent s s' m cause ∧ recorded s' m (whoOf m tr core) detail ∧
      sameBut [.masts, .mem, .lane, .regs, .time] (s.advance t) s' :=
  wentSilent_of_exec_goSilent he (sameBut_refl _ _) (State.powered_of_triadRuns hr) hc (whoOf_lt m tr hcore) hd

end Sys2Proof.Machine

/-!
# Masts and triads: faults

The faults of R76 to R91 that take a mast fail-silent, the die temperature (R76), and the clearing of a silence record (R95).
-/

namespace Sys2Proof.Machine
open Sys2Proof.Safety

/-! ### The die temperature -/

section
variable (s : State) (m : Mast) (q : Int)

/-- Mast `m` shows a die temperature, before anything is made of it. -/
def State.showDie : State := (s.setMast m { s.mast m with dieTemp := q }).putF (.mast m) fTdHealthTemp (unsigned 16 q)

theorem State.showDie_warn : (s.showDie m q).getF (.mast m) fTdHealthTempWarn = s.getF (.mast m) fTdHealthTempWarn :=
  (State.getF_putF_bits _ _ fTdHealthTemp fTdHealthTempWarn _ rfl (by decide) (by decide) (by decide) (by decide)).trans
    (State.getF_of_regs (State.setMast_regs ..) _ _)

theorem State.showDie_temp : (s.showDie m q).getF (.mast m) fTdHealthTemp = unsigned 16 q := by
  have h : unsigned 16 q < 2 ^ 16 := by unfold unsigned; omega
  exact (State.getF_putF _ _ fTdHealthTemp _ (by decide) (by decide)).trans (Nat.mod_eq_of_lt h)

theorem State.dieReads_eq : s.dieReads m q =
    if 580 < q ∧ s.getF (.mast m) fTdHealthTempWarn = 0 then
      ((s.showDie m q).putF (.mast m) fTdHealthTempWarn 1).raiseM m evMastTempHigh m.code (unsigned 32 (q / 4))
    else if q < 560 then (s.showDie m q).putF (.mast m) fTdHealthTempWarn 0
    else s.showDie m q := by
  rw [← State.showDie_warn s m q]
  rfl

theorem State.dieReads_masts : (s.dieReads m q).masts = s.masts.set m { s.mast m with dieTemp := q } := by
  rw [State.dieReads_eq]
  split_ifs <;> rfl

theorem State.dieReads_warns (h : 580 < q) (hw : s.getF (.mast m) fTdHealthTempWarn = 0) :
    raised (s.dieReads m q) (2 ^ m.code) evMastTempHigh m.code (unsigned 32 (q / 4)) := by
  rw [State.dieReads_eq, if_pos ⟨h, hw⟩]
  exact raised_raiseM ..

end

/-- A working mast whose die reads more than 160 °C (R76): it shows that, and goes fail-silent with cause 0x0B. -/
theorem silent_of_exec_dieLimit {c : Instr} {s : State} {t : Nat} {m : Mast} {q : Int}
    (he : exec c s = .next (((s.advance t).dieReads m q).dieLimit m q))
    (hm : (s.mast m).powered = true ∧ (s.mast m).silent = false) (hq : q > 640) :
    ∃ s', exec c s = .next s' ∧ (s'.mast m).silent = true ∧ (s'.mast m).held = true ∧ fieldAt (Safety.recordOf s' m) 3 1 = 11 ∧
      (∀ a, a < silenceAddr ∨ silenceAddr + 32 ≤ a → (s'.mast m).mem.readByte a = (s.mast m).mem.readByte a) ∧
      (∀ o, o ≠ m → s'.mast o = s.mast o) ∧
      (s.getF (.mast m) fTdHealthTempWarn = 0 → raised s' (2 ^ m.code) evMastTempHigh m.code (unsigned 32 (q / 4))) ∧
      sameBut [.masts, .mem, .lane, .regs, .time, .log] (s.advance t) s' := by
  set u := (s.advance t).dieReads m q with hu
  have hmasts : u.masts = s.masts.set m { s.mast m with dieTemp := q } := State.dieReads_masts ..
  have hself : u.mast m = { s.mast m with dieTemp := q } := by simp [State.mast, hmasts]
  have hlim : u.dieLimit m q = u.goSilent m 0x0B (whoOf m .p 0) 0 := if_pos hq
  obtain ⟨hsil, hheld, -, -, -, -, hcause, hmem, hother⟩ :=
    State.goSilent_wentSilent (s := u) (m := m) 0x0B (whoOf m .p 0) 0 (by simp [hself, hm.1]) (by simp [hself, hm.2]) (by decide)
  rw [hlim] at he
  refine ⟨_, he, hsil, hheld, hcause, fun a ha => ?_, fun o ho => ?_, fun hw => ?_, ?_⟩
  · rw [hmem a ha, hself]
  · rw [hother o ho, State.mast, hmasts, per_get_set_other _ _ _ _ ho]
    rfl
  · exact (raised_of_log (State.goSilent_log ..) ..).2 (State.dieReads_warns _ m q (by omega) hw)
  · exact (State.goSilent_keeps m _ _ _ rfl (State.dieReads_keeps m q rfl (.refl _ _))).frame

/-! ### Clearing VALID in a silence record -/

section
variable (x : Memory)

/-- The first 28 bytes of a cleared record. -/
def Memory.clearedBody : List Byte := x.readBytes silenceAddr 2 ++ [0] ++ x.readBytes (silenceAddr + 3) 25

theorem Memory.clearedBody_length : x.clearedBody.length = 28 := by simp [Memory.clearedBody, Memory.readBytes]

theorem Memory.clearSilence_eq :
    x.clearSilence = x.writeBytes silenceAddr (x.clearedBody ++ natLe 4 (crc32c x.clearedBody).toNat) := rfl

theorem Memory.clearSilence_readBytes :
    x.clearSilence.readBytes silenceAddr 32 = x.clearedBody ++ natLe 4 (crc32c x.clearedBody).toNat := by
  have h : (x.clearedBody ++ natLe 4 (crc32c x.clearedBody).toNat).length = 32 := by
    simp [Memory.clearedBody_length, natLe_length]
  have e := Memory.readBytes_writeBytes x silenceAddr (x.clearedBody ++ natLe 4 (crc32c x.clearedBody).toNat)
  rwa [h] at e

theorem Memory.clearSilence_readByte_inside {i : Nat} (h : i < 28) :
    x.clearSilence.readByte (silenceAddr + i) = if i = 2 then 0 else x.readByte (silenceAddr + i) := by
  have hi : i < (x.clearedBody ++ natLe 4 (crc32c x.clearedBody).toNat).length := by
    simp [Memory.clearedBody_length, natLe_length]
    omega
  rw [Memory.clearSilence_eq, Memory.readByte_writeBytes_inside _ _ _ _ hi,
    List.getElem_append_left (by simpa [Memory.clearedBody_length] using h)]
  simp only [Memory.clearedBody, Memory.readBytes]
  rcases lt_trichotomy i 2 with h2 | rfl | h2
  · simp [h2, h2.ne]
  · simp
  · obtain ⟨j, rfl⟩ : ∃ j, i = j + 3 := ⟨i - 3, by omega⟩
    rw [List.getElem_append_right (by simp)]
    simp [Nat.add_assoc, Nat.add_comm j 3, show 3 + j ≠ 2 by omega]

theorem Memory.clearSilence_readByte_outside {a : Nat} (h : a < silenceAddr ∨ silenceAddr + 32 ≤ a) :
    x.clearSilence.readByte a = x.readByte a :=
  Memory.readByte_writeBytes_outside _ _ _ _ (by simpa [Memory.readBytes, natLe_length] using h)

/-- Only VALID and the CRC change. -/
theorem Memory.clearSilence_readByte_elsewhere {a : Nat}
    (h : a < silenceAddr + 2 ∨ (silenceAddr + 2 < a ∧ a < silenceAddr + 28) ∨ silenceAddr + 32 ≤ a) :
    x.clearSilence.readByte a = x.readByte a := by
  by_cases ho : a < silenceAddr ∨ silenceAddr + 32 ≤ a
  · exact x.clearSilence_readByte_outside ho
  · obtain ⟨i, rfl⟩ := Nat.exists_eq_add_of_le (show silenceAddr ≤ a by omega)
    rw [Memory.clearSilence_readByte_inside x (by omega), if_neg (by omega)]

theorem Memory.clearSilence_crc : fieldAt (x.clearSilence.readBytes silenceAddr 32) 28 4 =
    (crc32c ((x.clearSilence.readBytes silenceAddr 32).take 28)).toNat := by
  rw [Memory.clearSilence_readBytes, List.take_left' x.clearedBody_length]
  have h := fieldAt_append_right x.clearedBody_length (natLe 4 (crc32c x.clearedBody).toNat) 0 4
  rw [h, ← List.append_nil (natLe 4 _), fieldAt_natLe]
  exact Nat.mod_eq_of_lt (crc32c x.clearedBody).isLt

end

theorem State.setMem_mast_mem (s : State) (m : Mast) (x : Memory) : ((s.setMem m x).mast m).mem = x := by
  simp [State.setMem]

/-! ### The commands -/

section
variable {s : State} {m : Mast} {tr : Triad} {t : Nat}

theorem exec_triadVoteDisagree_of_three {x y z : BitVec 64} (hr : s.triadRuns m = true)
    (hn : ((s.mast m).triad tr).resync = none) (h : 2 ≤ (minorityCores x y z).length) :
    exec (.triadVoteDisagree t m tr x y z) s =
      .next ((s.advance t).triadFault m tr 0x04 0 (lowestBit ((x ^^^ y) ||| (x ^^^ z)))) := by
  simp only [exec, execTriadVoteDisagree, State.advance_triadRuns, State.advance_mast, hr, hn]
  match hc : minorityCores x y z with
  | [] => simp [hc] at h
  | [_] => simp [hc] at h
  | _ :: _ :: _ => rfl

theorem exec_triadVoteDisagree_of_two {r : Resync} {x y z : BitVec 64} (hr : s.triadRuns m = true)
    (hn : ((s.mast m).triad tr).resync = some r) (h : (runningPair r.core x y z).1 ≠ (runningPair r.core x y z).2) :
    exec (.triadVoteDisagree t m tr x y z) s = .next ((s.advance t).triadFault m tr 0x05 r.core
      (lowestBit ((runningPair r.core x y z).1 ^^^ (runningPair r.core x y z).2))) := by
  simp [exec, execTriadVoteDisagree, hr, hn, h, ok]

theorem exec_voterHalfMismatch_of_runs {bit : Nat} (hr : s.triadRuns m = true) :
    exec (.voterHalfMismatch t m tr bit) s = .next ((s.advance t).triadFault m tr 0x01 0 bit) := by
  simp [exec, execVoterHalfMismatch, hr, ok]

theorem exec_delayStageParityError_of_runs {output : Bool} {core stage group : Nat} (hr : s.triadRuns m = true) :
    exec (.delayStageParityError t m tr output core stage group) s = .next ((s.advance t).triadFault m tr
      (if output then 3 else 2) core (Config.stageDetail stage group core).toNat) := by
  simp [exec, execDelayStageParityError, hr, ok]

theorem exec_lockstepTimeout_of_late {r : Resync} (hr : s.triadRuns m = true) (hn : ((s.mast m).triad tr).resync = some r)
    (h : r.firstOut + 1000000 < t) :
    exec (.lockstepTimeout t m tr) s = .next ((s.advance t).triadFault m tr 0x08 r.core 0) := by
  simp [exec, execLockstepTimeout, hr, hn, ok, ms, h]

theorem exec_mastSupervisionFault_crystal (hp : (s.mast m).powered = true) (hs : (s.mast m).silent = false) :
    exec (.mastSupervisionFault t m .crystal) s =
      .next (((s.advance t).putF (.mast m) fTdClkstatXtalOk 0).goSilent m 0x09 (whoOf m .p 0) 0) := by
  simp [exec, execMastSupervisionFault, hp, hs, ok]

theorem exec_mastSupervisionFault_pll (hp : (s.mast m).powered = true) (hs : (s.mast m).silent = false) :
    exec (.mastSupervisionFault t m .pll) s =
      .next (((s.advance t).putF (.mast m) fTdClkstatPllLock 0).goSilent m 0x09 (whoOf m .p 0) 0) := by
  simp [exec, execMastSupervisionFault, hp, hs, ok]

/-- The field of `TD_HEALTH` that shows a rail. -/
def railOk (n : Nat) : Fld := if n = 0 then fTdHealthVcoreOk else if n = 1 then fTdHealthVioOk else fTdHealthVddrOk

theorem exec_mastSupervisionFault_rail (n : Nat) (hp : (s.mast m).powered = true) (hs : (s.mast m).silent = false) :
    exec (.mastSupervisionFault t m (.rail n)) s =
      .next (((s.advance t).putF (.mast m) (railOk n) 0).goSilent m 0x0A (whoOf m .p 0) 0) := by
  simp only [exec, execMastSupervisionFault, State.advance_mast, hp, hs, railOk]
  split_ifs <;> simp_all [ok]

theorem exec_mastSupervisionFault_die {q : Int} (hp : (s.mast m).powered = true) (hs : (s.mast m).silent = false)
    (hq : q > 640) :
    exec (.mastSupervisionFault t m (.die q)) s = .next (((s.advance t).dieReads m q).dieLimit m q) := by
  simp [exec, execMastSupervisionFault, hp, hs, ok, hq]

theorem exec_tdSilclr_of_key {value : Word} (hr : s.triadRuns m = true) (hk : getBits value 31 16 = 0x5443)
    (hm : s.ctl.mode = .service ∨ s.ctl.mode = .stop) :
    exec (.tdSilclr t m value) s = .next ((s.advance t).setMem m (s.mast m).mem.clearSilence) := by
  simp [exec, execTdSilclr, hr, State.silClr, hk, hm, ok]

theorem exec_tdSilclr_of_refused {value : Word}
    (h : getBits value 31 16 ≠ 0x5443 ∨ (s.ctl.mode ≠ .service ∧ s.ctl.mode ≠ .stop)) :
    exec (.tdSilclr t m value) s = .next (s.advance t) := by
  have hc : ¬(getBits value 31 16 = 0x5443 ∧ (s.ctl.mode = .service ∨ s.ctl.mode = .stop)) := by tauto
  have hq : (s.advance t).silClr m value = s.advance t := if_neg hc
  simp [exec, execTdSilclr, hq, ok]

end

theorem lowestBit_lt (v : BitVec 64) : lowestBit v < 2 ^ 32 := by
  unfold lowestBit
  cases h : (List.range 64).find? fun i => bitOf v.toNat i with
  | none => simp
  | some i =>
    have := List.mem_range.1 (List.mem_of_find?_eq_some h)
    simp
    omega

/-- The fault of a clock or a rail, shown in one field. -/
theorem wentSilent_of_exec_supervision {c : Instr} {s : State} {t cause : Nat} {m : Mast} {f : Fld}
    (he : exec c s = .next (((s.advance t).putF (.mast m) f 0).goSilent m cause (whoOf m .p 0) 0))
    (hm : (s.mast m).powered = true ∧ (s.mast m).silent = false) (hc : cause < 256) :
    ∃ s', exec c s = .next s' ∧ wentSilent s s' m cause ∧ fieldAt (Safety.recordOf s' m) 20 4 = 0 ∧
      sameBut [.masts, .mem, .lane, .regs, .time] (s.advance t) s' := by
  have hf : sameBut [.regs] (s.advance t) ((s.advance t).putF (.mast m) f 0) := (State.putF_keeps _ _ _ rfl (.refl _ _)).frame
  obtain ⟨s', he', hw, ⟨-, hd⟩, hs⟩ := wentSilent_of_exec_goSilent he hf hm hc (whoOf_lt m .p (by decide)) (by decide)
  exact ⟨s', he', hw, hd, hs⟩

/-- Settles O14: each fault goes through `wentSilent_of_exec_triadFault`, `wentSilent_of_exec_supervision` or
`silent_of_exec_dieLimit`; TD_SILCLR rewrites the record
alone. Whom a cause without a core names is log entry 96. -/
theorem triadFaults : Obligations.TriadFaults := by
  unfold Obligations.TriadFaults
  refine ⟨fun t m tr x y z s hr hn _ h => ?_, fun t m tr r x y z s hr hn h => ?_, fun t m tr bit s hr h => ?_,
    fun t m tr output core stage group s hr h => ?_, fun t m tr r s hr hn hl h => ?_, fun t m s hm => ?_, fun t m s hm => ?_,
    fun t m n s hm => ?_, fun t m q s hm hq => ?_, fun t m value s hr hk hm => ?_,
    fun t m value s h => exec_tdSilclr_of_refused h⟩
  · exact wentSilent_of_exec_triadFault (exec_triadVoteDisagree_of_three hr hn h) hr (by decide) (by decide) (lowestBit_lt _)
  · exact wentSilent_of_exec_triadFault (exec_triadVoteDisagree_of_two hr hn h.2) hr (by decide) h.1 (lowestBit_lt _)
  · exact wentSilent_of_exec_triadFault (exec_voterHalfMismatch_of_runs hr) hr (by decide) (by decide) h
  · obtain ⟨s', he, hw, ⟨hwho, -⟩, hs⟩ := wentSilent_of_exec_triadFault (exec_delayStageParityError_of_runs (group := group) hr) hr
      (by split <;> decide) h (Config.stageDetail stage group core).isLt
    exact ⟨s', he, hw, hwho, hs⟩
  · exact wentSilent_of_exec_triadFault (exec_lockstepTimeout_of_late hr hn hl) hr (by decide) h (by decide)
  · exact wentSilent_of_exec_supervision (exec_mastSupervisionFault_crystal hm.1 hm.2) hm (by decide)
  · exact wentSilent_of_exec_supervision (exec_mastSupervisionFault_pll hm.1 hm.2) hm (by decide)
  · exact wentSilent_of_exec_supervision (exec_mastSupervisionFault_rail n hm.1 hm.2) hm (by decide)
  · exact silent_of_exec_dieLimit (exec_mastSupervisionFault_die hm.1 hm.2 hq) hm hq
  · refine ⟨_, exec_tdSilclr_of_key hr hk hm, ?_, ?_, fun a ha => ?_, fun o ho => ?_, ?_⟩
    · rw [State.setMem_mast_mem]
      exact Memory.clearSilence_readByte_inside _ (by decide)
    · rw [Safety.recordOf, State.setMem_mast_mem]
      exact Memory.clearSilence_crc _
    · rw [State.setMem_mast_mem]
      exact Memory.clearSilence_readByte_elsewhere _ ha
    · exact State.mast_setMast_other _ _ _ _ ho
    · exact (Keeps.setMem m _ (fun hc => Memory.wf_clearSilence _ (hc.2 m)) rfl (.refl [.masts, .mem] (s.advance t))).frame

end Sys2Proof.Machine

/-!
# Votes, resynchronisation and fault injection

A triple triad in which one core is in the minority begins a resync of it (R84, R85); the steps of a resync, the agreed injections
of R97, the die temperature below its limit (R76) and the last word of a silent mast (R93).
-/

namespace Sys2Proof.Machine
open Sys2Proof.Safety

/-! ### The state of one triad -/

theorem State.getF_of_regsBut {l : List (Copy × Nat)} {s t : State} {c : Copy} {f : Fld} (h : regsBut l s t)
    (ha : f.addr < 2 ^ 32) (hn : (c, f.addr) ∉ l) : t.getF c f = s.getF c f :=
  congrArg (getBits · f.hi f.lo) (h c f.addr ha hn)

theorem regsBut_putF_self {a : Nat} (s : State) (c : Copy) (f : Fld) (v : Nat) (h : f.addr = a) (ha : a < 2 ^ 32) :
    regsBut [(c, a)] s (s.putF c f v) :=
  regsBut_putF s c f v (h ▸ ha) (by simp [h])

@[simp] theorem per_set_set {α : Type} (p : Per α) (m : Mast) (v w : α) : (p.set m v).set m w = p.set m w := by
  cases m <;> rfl

@[simp] theorem MastState.triad_setTriad (x : MastState) (tr : Triad) (y : TriadState) : (x.setTriad tr y).triad tr = y := by
  cases tr <;> rfl

@[simp] theorem MastState.setTriad_setTriad (x : MastState) (tr : Triad) (y z : TriadState) :
    (x.setTriad tr y).setTriad tr z = x.setTriad tr z := by
  cases tr <;> rfl

section
variable (s : State) (m : Mast) (tr : Triad) (x : TriadState)

theorem State.setTriad_masts : (s.setTriad m tr x).masts = s.masts.set m ((s.mast m).setTriad tr x) := by
  cases tr <;> rfl

theorem State.setTriad_frame : sameBut [.masts, .regs] s (s.setTriad m tr x) :=
  (State.setTriad_keeps m tr x rfl (.refl _ s)).frame

theorem State.setTriad_regsBut : regsBut [(.mast m, rTdStat)] s (s.setTriad m tr x) := by
  have hset : regsBut [(.mast m, rTdStat)] s (s.setMast m ((s.mast m).setTriad tr x)) := regsBut_of_regs rfl
  cases tr
  · exact regsBut_trans hset (regsBut_trans (regsBut_putF_self _ _ fTdStatStateP _ rfl (by decide))
      (regsBut_putF_self _ _ fTdStatOutP _ rfl (by decide)))
  · exact regsBut_trans hset (regsBut_trans (regsBut_putF_self _ _ fTdStatStateC _ rfl (by decide))
      (regsBut_putF_self _ _ fTdStatOutC _ rfl (by decide)))

theorem State.setTriad_getF_agreed (f : Fld) (h : f.addr < 2 ^ 32) : (s.setTriad m tr x).getF .agreed f = s.getF .agreed f :=
  State.getF_of_regsBut (s.setTriad_regsBut m tr x) h (by simp)

theorem State.passOn_triad (v : BitVec 64) :
    ((s.passOn m tr v).mast m).triad tr = { (s.mast m).triad tr with passed := v } := by
  simp [State.passOn]

theorem State.passOn_frame (v : BitVec 64) : sameBut [.masts] s (s.passOn m tr v) :=
  (State.passOn_keeps m tr v rfl (.refl _ s)).frame

end

/-! ### The vote -/

/-- Two equal vectors are the majority, whatever the third. -/
theorem majority_of_two {x y z v : BitVec 64} (h : (y = v ∧ z = v) ∨ (x = v ∧ z = v) ∨ (x = v ∧ y = v)) : majority x y z = v := by
  apply BitVec.eq_of_getLsbD_eq
  intro i _
  simp only [majority, BitVec.getLsbD_or, BitVec.getLsbD_and]
  rcases h with ⟨rfl, rfl⟩ | ⟨rfl, rfl⟩ | ⟨rfl, rfl⟩
  · cases z.getLsbD i <;> simp
  · cases z.getLsbD i <;> simp
  · cases y.getLsbD i <;> simp

theorem minorityCores_of_equal (x : BitVec 64) : minorityCores x x x = [] := by
  simp [minorityCores, majority_of_two (x := x) (y := x) (z := x) (.inl ⟨rfl, rfl⟩)]

/-- One core against two equal ones: it is the minority, and the two are passed on. -/
theorem minorityCores_of_one {x y z : BitVec 64} {core : Nat}
    (h : (core = 0 ∧ y = z ∧ x ≠ y) ∨ (core = 1 ∧ x = z ∧ y ≠ x) ∨ (core = 2 ∧ x = y ∧ z ≠ x)) :
    minorityCores x y z = [core] ∧ majority x y z = if core = 0 then y else x := by
  rcases h with ⟨rfl, rfl, hne⟩ | ⟨rfl, rfl, hne⟩ | ⟨rfl, rfl, hne⟩
  · simp [minorityCores, majority_of_two (x := x) (y := y) (z := y) (.inl ⟨rfl, rfl⟩), hne]
  · simp [minorityCores, majority_of_two (x := x) (y := y) (z := x) (.inr (.inl ⟨rfl, rfl⟩)), hne]
  · simp [minorityCores, majority_of_two (x := x) (y := x) (z := z) (.inr (.inr ⟨rfl, rfl⟩)), hne]

/-! ### A resync begins -/

/-- The triad at the start of a resync of `core` at time `now` (R85 step 1). -/
def TriadState.inResync (x : TriadState) (core firstOut now : Nat) : TriadState :=
  { x with
    resync := some ⟨core, firstOut, now, false⟩
    starts := now :: x.starts.filter fun a => decide (now < a + 1000000000)
    restored := x.restored.filter fun r => r.1 != core }

section
variable {s : State} {m : Mast} {tr : Triad} {core : Nat}

/-- With fewer starts in the last second than `RESYNC_LIMIT`, the start of a resync is no fault (R87). -/
theorem State.startResync_eq (firstOut : Nat) (h : ((s.mast m).triad tr).starts.length < s.getF .agreed fTdCtrlResyncLimit) :
    s.startResync m tr core firstOut = s.setTriad m tr (((s.mast m).triad tr).inResync core firstOut s.now) := by
  have hlen : ¬ (s.setTriad m tr (((s.mast m).triad tr).inResync core firstOut s.now)).getF .agreed fTdCtrlResyncLimit <
      (((s.mast m).triad tr).inResync core firstOut s.now).starts.length := by
    have hfew := List.length_filter_le (fun a => decide (s.now < a + 1000000000)) ((s.mast m).triad tr).starts
    rw [State.setTriad_getF_agreed _ _ _ _ _ (by decide), TriadState.inResync, List.length_cons]
    omega
  exact if_neg hlen

/-- A core in the minority that was not restored within the last 1 ms begins a resync (R84). -/
theorem State.minority_eq (hold : ∀ x ∈ ((s.mast m).triad tr).restored, x.1 = core → x.2.1 + 1000000 < s.now)
    (h : ((s.mast m).triad tr).starts.length < s.getF .agreed fTdCtrlResyncLimit) :
    s.minority m tr core = s.setTriad m tr (((s.mast m).triad tr).inResync core s.now s.now) := by
  have hnone : (((s.mast m).triad tr).restored.find? fun r => r.1 == core && decide (s.now ≤ r.2.1 + ms)) = none := by
    rw [List.find?_eq_none]
    intro x hx hp
    obtain ⟨hcore, hlate⟩ : x.1 = core ∧ s.now ≤ x.2.1 + ms := by simpa using hp
    exact absurd (hold x hx hcore) (not_lt.2 hlate)
  rw [State.minority, hnone]
  exact State.startResync_eq s.now h

end

/-! ### Votes and the steps of a resync as commands -/

section
variable {s : State} {m : Mast} {tr : Triad} {t : Nat}

theorem exec_triadVoteDisagree_of_equal {x : BitVec 64} (hr : s.triadRuns m = true)
    (hn : ((s.mast m).triad tr).resync = none) :
    exec (.triadVoteDisagree t m tr x x x) s = .next ((s.advance t).passOn m tr x) := by
  simp [exec, execTriadVoteDisagree, hr, hn, minorityCores_of_equal, ok]

theorem exec_triadVoteDisagree_of_pair {r : Resync} {x y z v : BitVec 64} (hr : s.triadRuns m = true)
    (hn : ((s.mast m).triad tr).resync = some r) (h : runningPair r.core x y z = (v, v)) :
    exec (.triadVoteDisagree t m tr x y z) s = .next ((s.advance t).passOn m tr v) := by
  simp [exec, execTriadVoteDisagree, hr, hn, h, ok]

theorem exec_triadVoteDisagree_of_minority {x y z : BitVec 64} {core : Nat} (hr : s.triadRuns m = true)
    (hn : ((s.mast m).triad tr).resync = none) (h : minorityCores x y z = [core]) :
    exec (.triadVoteDisagree t m tr x y z) s =
      .next (((s.advance t).passOn m tr (majority x y z)).minority m tr core) := by
  simp [exec, execTriadVoteDisagree, hr, hn, h, ok]

theorem exec_resyncSelftestDone_of_pass {r : Resync} (hr : s.triadRuns m = true)
    (hn : ((s.mast m).triad tr).resync = some r) (ht : r.tested = false) :
    exec (.resyncSelftestDone t m tr true) s = .next ((s.advance t).setTriad m tr
      { (s.mast m).triad tr with resync := some { r with tested := true } }) := by
  simp [exec, execResyncSelftestDone, hr, hn, ht, ok]

/-- The triad once the core in resync `r` is restored at time `now` (R85 step 4). -/
def TriadState.restoredAt (x : TriadState) (r : Resync) (now : Nat) : TriadState :=
  { x with
    resync := none
    restored := (r.core, now, r.firstOut) :: x.restored.filter fun y => y.1 != r.core }

/-- `TD_LASTRS` shows a resync that was completed. -/
def State.showRestored (s : State) (took who : Nat) : State :=
  ((s.putF .agreed fTdLastrsDuration (min 65535 took)).putF .agreed fTdLastrsKind 1).putF .agreed fTdLastrsWho who

theorem exec_resyncPoint_of_crc {r : Resync} (hr : s.triadRuns m = true)
    (hn : ((s.mast m).triad tr).resync = some r) (ht : r.tested = true) :
    exec (.resyncPoint t m tr true) s = .next
      (((((s.advance t).setTriad m tr (((s.mast m).triad tr).restoredAt r (max s.now t))).raiseM m evCoreResync
        (whoOf m tr r.core) ((max s.now t - r.began) / 1000)).incF .agreed (resyncCount m tr) 1).showRestored
        ((max s.now t - r.began) / 1000) (whoOf m tr r.core)) := by
  simp only [exec, execResyncPoint, State.advance_triadRuns, State.advance_mast, hr, hn, ht, Bool.not_true, Bool.false_eq_true,
    if_false, if_true]
  rfl

theorem exec_resyncPoint_of_untested (ok' : Bool) (h : ((s.mast m).triad tr).resync.all (fun r => !r.tested) = true) :
    exec (.resyncPoint t m tr ok') s = .next (s.advance t) := by
  cases hn : ((s.mast m).triad tr).resync with
  | none => simp [exec, execResyncPoint, hn, ok]
  | some r =>
    have ht : r.tested = false := by simpa [hn] using h
    simp [exec, execResyncPoint, hn, ht, ok]

end

section
variable (s : State) (took who : Nat)

theorem State.showRestored_kind : (s.showRestored took who).getF .agreed fTdLastrsKind = 1 :=
  (State.getF_putF_bits _ _ fTdLastrsWho fTdLastrsKind _ rfl (by decide) (by decide) (by decide) (by decide)).trans
    (State.getF_putF _ _ fTdLastrsKind _ (by decide) (by decide))

theorem State.showRestored_regsBut : regsBut [(.agreed, rTdLastrs)] s (s.showRestored took who) :=
  regsBut_trans (regsBut_putF_self _ _ fTdLastrsDuration _ rfl (by decide)) <|
    regsBut_trans (regsBut_putF_self _ _ fTdLastrsKind _ rfl (by decide)) (regsBut_putF_self _ _ fTdLastrsWho _ rfl (by decide))

theorem State.showRestored_keeps {l : List Part} {s0 : State} (hk : within [Part.regs] l = true) (h : Keeps l s0 s) :
    Keeps l s0 (s.showRestored took who) :=
  State.putF_keeps _ _ _ hk (State.putF_keeps _ _ _ hk (State.putF_keeps _ _ _ hk h))

end

theorem State.resyncCount_incF (s : State) (m : Mast) (tr : Triad) :
    (s.incF .agreed (resyncCount m tr) 1).getF .agreed (resyncCount m tr) =
      min 65535 (s.getF .agreed (resyncCount m tr) + 1) := by
  obtain ⟨hh, hl, hw⟩ : (resyncCount m tr).hi < 32 ∧ (resyncCount m tr).lo ≤ (resyncCount m tr).hi ∧
      (resyncCount m tr).hi + 1 - (resyncCount m tr).lo = 16 := by cases m <;> cases tr <;> decide
  rw [State.getF_incF _ _ _ _ hh hl, hw]
  rfl

/-! ### Registers that a fail-silent mast's cut frames spare -/

section
variable (s : State) {a : Nat} (h : a < fNpTxokCount.addr)
include h

/-- The frames that are cut are taken from the counts of the network ports (`NP_TXOK`), which lie above. -/
theorem State.uncount_reg_agreed (f : TxFrame) : (s.uncount f).reg .agreed a = s.reg .agreed a := by
  have hkey : regKey .agreed a ≠ regKey .agreed (fNpTxokCount.plus (0x1000 * (f.port - 1))).addr := by
    simp only [regKey, Fld.plus]
    omega
  unfold State.uncount
  dsimp only
  split
  · exact State.reg_putF_key _ _ _ _ _ _ hkey
  · exact State.reg_putF_key _ _ _ _ _ _ hkey

theorem State.cutUnit_reg_agreed (u : Nat) : (s.cutUnit u).reg .agreed a = s.reg .agreed a := by
  unfold State.cutUnit
  dsimp only
  split
  · exact foldl_keeps (fun v : State => v.reg .agreed a = s.reg .agreed a) _
      (fun v w hv => (v.uncount_reg_agreed h w.frame.frame).trans hv) _ _ rfl
  · rfl

theorem State.cutFrames_reg_agreed (m : Mast) : (s.cutFrames m).reg .agreed a = s.reg .agreed a := by
  refine foldl_keeps (fun v : State => v.reg .agreed a = s.reg .agreed a) _ (fun v u hv => ?_) _ _ rfl
  split
  · exact (v.cutUnit_reg_agreed h u).trans hv
  · exact hv

theorem State.goSilent_reg_agreed (m : Mast) (cause who detail : Nat) :
    (s.goSilent m cause who detail).reg .agreed a = s.reg .agreed a := by
  unfold State.goSilent
  dsimp only
  split
  · rfl
  · exact State.cutFrames_reg_agreed _ h m

end

/-! ### Injections (R97) -/

section
variable (s : State) (m : Mast) (tr : Triad) (core kind : Nat)

/-- An agreed injection in SERVICE, before its effect: `TD_INJSTAT` shows it and INJECT_DONE is raised. -/
def State.showInjected : State :=
  ((s.putF .agreed fTdInjstatLast (injectLast m tr core kind)).putF .agreed fTdInjstatResult 1).raise evInjectDone
    (injectLast m tr core kind) 0

theorem State.putF_injstatResult (v : Nat) (h : v < 8) : (s.putF .agreed fTdInjstatResult v).getF .agreed fTdInjstatResult = v :=
  (State.getF_putF _ _ fTdInjstatResult _ (by decide) (by decide)).trans (Nat.mod_eq_of_lt h)

theorem State.showInjected_regsBut : regsBut [(.agreed, rTdInjstat)] s (s.showInjected m tr core kind) :=
  regsBut_trans (regsBut_putF_self s _ fTdInjstatLast _ rfl (by decide)) <|
    regsBut_trans (regsBut_putF_self _ _ fTdInjstatResult 1 rfl (by decide)) (regsBut_of_regs rfl)

theorem State.showInjected_result : (s.showInjected m tr core kind).getF .agreed fTdInjstatResult = 1 :=
  (State.getF_of_regs (State.raise_regs ..) ..).trans (State.putF_injstatResult _ 1 (by decide))

theorem State.showInjected_raised :
    raised (s.showInjected m tr core kind) s.lane.active.mask evInjectDone (injectLast m tr core kind) 0 := raised_raise ..

variable {s m tr core kind} {c : Instr} {w : Per Bool} {t : Nat}

/-- Asked for without agreement, an injection shows result 3 and does nothing else. -/
theorem injection_without_agreement (he : exec c s = .next ((s.advance t).askInject w m tr core kind)) (ha : s.agreed w = false) :
    ∃ s', exec c s = .next s' ∧ s'.getF .agreed fTdInjstatResult = 3 ∧ regsBut [(.agreed, rTdInjstat)] s s' ∧
      sameBut [.regs] (s.advance t) s' := by
  have ha' : (s.advance t).agreed w = false := ha
  have hq : (s.advance t).askInject w m tr core kind = ((s.advance t).putF .agreed fTdInjstatResult 3).putF .agreed fTdInjstatLast
      (injectLast m tr core kind) := by simp [State.askInject, ha']
  rw [hq] at he
  refine ⟨_, he, ?_, ?_, (State.putF_keeps _ _ _ rfl (State.putF_keeps _ _ _ rfl (.refl _ _))).frame⟩
  · exact (State.getF_putF_bits _ _ fTdInjstatLast fTdInjstatResult _ rfl (by decide) (by decide) (by decide) (by decide)).trans
      (State.putF_injstatResult _ 3 (by decide))
  · exact regsBut_trans (regsBut_putF_self (s.advance t) _ fTdInjstatResult 3 rfl (by decide))
      (regsBut_putF_self _ _ fTdInjstatLast _ rfl (by decide))

/-- Agreed, but outside SERVICE or for a core that is none, it shows result 2 and does nothing else. -/
theorem injection_refused (he : exec c s = .next ((s.advance t).askInject w m tr core kind)) (ha : s.agreed w = true)
    (hm : s.ctl.mode ≠ .service ∨ 2 < core) (hk : core ≤ 2 ∨ kind = 1) :
    ∃ s', exec c s = .next s' ∧ s'.getF .agreed fTdInjstatResult = 2 ∧ regsBut [(.agreed, rTdInjstat)] s s' ∧
      sameBut [.regs] (s.advance t) s' := by
  have ha' : (s.advance t).agreed w = true := ha
  have hrange : ¬(2 < core ∧ kind ≠ 1) := by omega
  have hno : s.ctl.mode ≠ .service ∨ kind = 0 ∨ 4 < kind ∨ 2 < core := by tauto
  have hq : (s.advance t).askInject w m tr core kind = ((s.advance t).putF .agreed fTdInjstatLast
      (injectLast m tr core kind)).putF .agreed fTdInjstatResult 2 := by
    simp [State.askInject, ha', State.triadInject, hrange, hno]
  rw [hq] at he
  refine ⟨_, he, State.putF_injstatResult _ 2 (by decide), ?_,
    (State.putF_keeps _ _ _ rfl (State.putF_keeps _ _ _ rfl (.refl _ _))).frame⟩
  exact regsBut_trans (regsBut_putF_self (s.advance t) _ fTdInjstatLast _ rfl (by decide))
    (regsBut_putF_self _ _ fTdInjstatResult 2 rfl (by decide))

/-- Agreed in SERVICE, of a kind and core that exist, it is carried out. -/
theorem State.askInject_eq (ha : s.agreed w = true) (hm : s.ctl.mode = .service) (hk : 1 ≤ kind ∧ kind ≤ 4) (hc : core ≤ 2) :
    s.askInject w m tr core kind = { (s.showInjected m tr core kind).injectEffect m tr core kind with free := s.free + 1 } := by
  have hrange : ¬(2 < core ∧ kind ≠ 1) := by omega
  have hyes : ¬(s.ctl.mode ≠ .service ∨ kind = 0 ∨ 4 < kind ∨ 2 < core) := by
    simp only [hm, ne_eq, not_true_eq_false, false_or]
    omega
  rw [State.askInject, ha, Bool.not_true, if_neg Bool.false_ne_true, State.triadInject, if_neg hrange]
  exact if_neg hyes

/-! The effects of the kinds 2, 3 and 4, which take the target fail-silent. -/

theorem State.injectEffect_inputParity (u : State) (hr : u.triadRuns m = true) :
    u.injectEffect m tr core 2 = u.goSilent m 0x02 (whoOf m tr core) (Config.stageDetail 1 0 core).toNat := by
  simp [State.injectEffect, hr, State.triadFault]

theorem State.injectEffect_outputParity (u : State) (hr : u.triadRuns m = true) :
    u.injectEffect m tr core 3 = u.goSilent m 0x03 (whoOf m tr core) (Config.stageDetail 1 0 core).toNat := by
  simp [State.injectEffect, hr, State.triadFault]

theorem State.injectEffect_voter (u : State) (hr : u.triadRuns m = true) :
    u.injectEffect m tr core 4 = u.goSilent m 0x01 (whoOf m tr 0) ((Config.freeValue u.free).toNat % 64) := by
  simp [State.injectEffect, hr, State.triadFault]

/-- An injection whose effect is that the mast goes fail-silent. -/
theorem injection_silences {cause who detail : Nat} (he : exec c s = .next ((s.advance t).askInject w m tr core kind))
    (ha : s.agreed w = true) (hm : s.ctl.mode = .service) (hr : s.triadRuns m = true) (hk : 1 ≤ kind ∧ kind ≤ 4) (hc : core ≤ 2)
    (heff : ∀ u : State, u.triadRuns m = true → u.free = (s.advance t).free →
      u.injectEffect m tr core kind = u.goSilent m cause who detail)
    (hcause : cause < 256) (hwho : who < 2 ^ 32) (hdet : detail < 2 ^ 32) :
    ∃ s', exec c s = .next s' ∧ wentSilent s s' m cause ∧ fieldAt (Safety.recordOf s' m) 4 4 = who ∧
      s'.getF .agreed fTdInjstatResult = 1 ∧ raised s' s.lane.active.mask evInjectDone (injectLast m tr core kind) 0 := by
  set u := (s.advance t).showInjected m tr core kind with hu
  obtain ⟨hp, hs⟩ := State.powered_of_triadRuns (s := u) hr
  have hq : (s.advance t).askInject w m tr core kind = { u.goSilent m cause who detail with free := (s.advance t).free + 1 } := by
    rw [State.askInject_eq (s := s.advance t) ha hm hk hc, ← hu, heff u hr rfl]
  obtain ⟨hrec, -⟩ := State.goSilent_recorded cause who detail hp hs hwho hdet
  rw [hq] at he
  refine ⟨_, he, ?_, hrec, ?_, ?_⟩
  · exact wentSilent_of_masts (u := u) rfl (State.goSilent_wentSilent cause who detail hp hs hcause)
  · exact (congrArg (getBits · 18 16) (State.goSilent_reg_agreed u (by decide) m cause who detail)).trans
      (State.showInjected_result ..)
  · exact (raised_of_log (State.goSilent_log ..) ..).2 (State.showInjected_raised ..)

/-- An output bit injected into a triple triad makes its core the minority. -/
theorem injection_of_output_bit (he : exec c s = .next ((s.advance t).askInject w m tr core 1)) (ha : s.agreed w = true)
    (hm : s.ctl.mode = .service) (hr : s.triadRuns m = true) (hc : core ≤ 2) (hn : ((s.mast m).triad tr).resync = none)
    (hold : ∀ x ∈ ((s.mast m).triad tr).restored, x.1 = core → x.2.1 + 1000000 < max s.now t)
    (hl : ((s.mast m).triad tr).starts.length < s.getF .agreed fTdCtrlResyncLimit) :
    ∃ s', exec c s = .next s' ∧
      s'.masts = s.masts.set m ((s.mast m).setTriad tr (((s.mast m).triad tr).inResync core (max s.now t) (max s.now t))) ∧
      s'.getF .agreed fTdInjstatResult = 1 ∧ raised s' s.lane.active.mask evInjectDone (injectLast m tr core 1) 0 ∧
      regsBut [(.agreed, rTdInjstat), (.mast m, rTdStat)] s s' := by
  set u := (s.advance t).showInjected m tr core 1 with hu
  have hreg : regsBut [(.agreed, rTdInjstat)] s u := State.showInjected_regsBut (s.advance t) m tr core 1
  have hlim : ((u.mast m).triad tr).starts.length < u.getF .agreed fTdCtrlResyncLimit := by
    rw [State.getF_of_regsBut hreg (by decide) (by decide)]
    exact hl
  have heff : u.injectEffect m tr core 1 = u.minority m tr core := by
    have hr' : u.triadRuns m = true := hr
    have hn' : ((u.mast m).triad tr).resync = none := hn
    simp [State.injectEffect, hr', hn']
  rw [State.askInject_eq (s := s.advance t) ha hm (by decide) hc, ← hu, heff, State.minority_eq (s := u) hold hlim] at he
  refine ⟨_, he, State.setTriad_masts u m tr _, ?_, ?_, ?_⟩
  · exact (State.setTriad_getF_agreed u m tr _ fTdInjstatResult (by decide)).trans (State.showInjected_result ..)
  · exact (raised_of_log (State.setTriad_frame u m tr _ .log (by decide)) ..).2 (State.showInjected_raised ..)
  · exact regsBut_trans (regsBut_mono hreg (by simp)) (regsBut_mono (State.setTriad_regsBut u m tr _) (by simp))

end

/-! ### The die temperature below its limit, and the last word -/

section
variable (s : State) (m : Mast) (q : Int)

theorem State.showDie_regsBut : regsBut [(.mast m, rTdHealth)] s (s.showDie m q) :=
  regsBut_trans (regsBut_of_regs (State.setMast_regs s m _)) (regsBut_putF_self _ _ fTdHealthTemp _ rfl (by decide))

theorem State.showDie_keeps : Keeps [.masts, .regs] s (s.showDie m q) :=
  State.putF_keeps _ _ _ rfl (Keeps.setMast m _ rfl rfl (.refl _ s))

theorem State.showDie_temp_of_warn (v : Nat) :
    ((s.showDie m q).putF (.mast m) fTdHealthTempWarn v).getF (.mast m) fTdHealthTemp = unsigned 16 q :=
  (State.getF_putF_bits _ _ fTdHealthTempWarn fTdHealthTemp _ rfl (by decide) (by decide) (by decide) (by decide)).trans
    (s.showDie_temp m q)

theorem State.putF_tempWarn (v : Nat) (h : v < 2) :
    (s.putF (.mast m) fTdHealthTempWarn v).getF (.mast m) fTdHealthTempWarn = v :=
  (State.getF_putF _ _ fTdHealthTempWarn _ (by decide) (by decide)).trans (Nat.mod_eq_of_lt h)

variable {s m q} {t : Nat}

theorem exec_dieTemperatureCrossing_of_working (hm : (s.mast m).powered = true ∧ (s.mast m).silent = false) :
    exec (.dieTemperatureCrossing t m q) s = .next (((s.advance t).dieReads m q).dieLimit m q) := by
  simp [exec, execDieTemperatureCrossing, hm, ok]

theorem exec_dieTemperatureCrossing_of_limit (hm : (s.mast m).powered = true ∧ (s.mast m).silent = false) (hq : q ≤ 640) :
    exec (.dieTemperatureCrossing t m q) s = .next ((s.advance t).dieReads m q) := by
  rw [exec_dieTemperatureCrossing_of_working hm, State.dieLimit, if_neg (not_lt.2 hq)]

theorem exec_lastWordReceived_of_silent {obs snd : Mast} {record : List Byte} (ha : (s.mast obs).alive = true) (hne : obs ≠ snd)
    (hs : (s.mast snd).silent = true) (hw : (s.mast snd).lastWord = some record) :
    exec (.lastWordReceived t obs snd record) s =
      .next ((s.advance t).raiseM obs evMastSilent (fieldAt record 4 4) (fieldAt record 3 1)) := by
  simp [exec, execLastWordReceived, ha, hne, hs, hw, ok]

theorem exec_lastWordReceived_of_other {obs snd : Mast} {record : List Byte}
    (h : (s.mast snd).silent = false ∨ (s.mast snd).lastWord ≠ some record) :
    exec (.lastWordReceived t obs snd record) s = .next (s.advance t) := by
  rcases h with h | h <;> simp [exec, execLastWordReceived, h, ok]

end

/-! ### What each of these commands leaves -/

section
variable {s : State} {m : Mast} {tr : Triad} {t : Nat}

/-- A vote with one core in the minority: the majority is passed on, and the resync of that core begins. -/
theorem triadVoteDisagree_begins_resync {x y z : BitVec 64} {core : Nat} (hr : s.triadRuns m = true)
    (hn : ((s.mast m).triad tr).resync = none)
    (hold : ∀ x ∈ ((s.mast m).triad tr).restored, x.1 = core → x.2.1 + 1000000 < max s.now t)
    (h : (core = 0 ∧ y = z ∧ x ≠ y) ∨ (core = 1 ∧ x = z ∧ y ≠ x) ∨ (core = 2 ∧ x = y ∧ z ≠ x))
    (hl : ((s.mast m).triad tr).starts.length < s.getF .agreed fTdCtrlResyncLimit) :
    ∃ s', exec (.triadVoteDisagree t m tr x y z) s = .next s' ∧
      s'.masts = s.masts.set m ((s.mast m).setTriad tr { ((s.mast m).triad tr).inResync core (max s.now t) (max s.now t) with
        passed := if core = 0 then y else x }) ∧
      regsBut [(.mast m, rTdStat)] s s' ∧ sameBut [.masts, .regs] (s.advance t) s' := by
  obtain ⟨hcores, hmaj⟩ := minorityCores_of_one h
  have he := exec_triadVoteDisagree_of_minority (t := t) hr hn hcores
  rw [hmaj] at he
  set u := (s.advance t).passOn m tr (if core = 0 then y else x) with hu
  have hx : (u.mast m).triad tr = { (s.mast m).triad tr with passed := if core = 0 then y else x } := State.passOn_triad ..
  rw [State.minority_eq (s := u) (by rw [hx]; exact hold) (by rw [hx]; exact hl)] at he
  refine ⟨_, he, ?_, regsBut_trans (regsBut_of_regs rfl) (State.setTriad_regsBut u m tr _), ?_⟩
  · rw [State.setTriad_masts, hx]
    simp [hu, State.passOn, State.setMast, State.mast, TriadState.inResync]
  · exact sameBut_trans (sameBut_mono (State.passOn_frame _ m tr _) (by simp)) (State.setTriad_frame u m tr _)

theorem resyncCount_not_lastrs (m : Mast) (tr : Triad) : (Copy.agreed, (resyncCount m tr).addr) ∉ [(Copy.agreed, rTdLastrs)] := by
  cases m <;> cases tr <;> decide

theorem resyncCount_addr_lt (m : Mast) (tr : Triad) : (resyncCount m tr).addr < 2 ^ 32 := by
  cases m <;> cases tr <;> decide

/-- The resync point with a right CRC restores the core, counts and reports it. -/
theorem resyncPoint_restores {r : Resync} (hr : s.triadRuns m = true) (hn : ((s.mast m).triad tr).resync = some r)
    (ht : r.tested = true) :
    ∃ s', exec (.resyncPoint t m tr true) s = .next s' ∧
      s'.masts = s.masts.set m ((s.mast m).setTriad tr (((s.mast m).triad tr).restoredAt r (max s.now t))) ∧
      raised s' (2 ^ m.code) evCoreResync (whoOf m tr r.core) ((max s.now t - r.began) / 1000) ∧
      s'.getF .agreed fTdLastrsKind = 1 ∧
      s'.getF .agreed (resyncCount m tr) = min 65535 (s.getF .agreed (resyncCount m tr) + 1) ∧
      regsBut [(.mast m, rTdStat), (.agreed, rTdLastrs), (.agreed, (resyncCount m tr).addr)] s s' ∧
      sameBut [.masts, .regs, .log] (s.advance t) s' := by
  set took := (max s.now t - r.began) / 1000
  set u := (s.advance t).setTriad m tr (((s.mast m).triad tr).restoredAt r (max s.now t))
  set v := u.raiseM m evCoreResync (whoOf m tr r.core) took
  have hu_regs : regsBut [(.mast m, rTdStat)] s u := State.setTriad_regsBut (s.advance t) m tr _
  have hv_regs : regsBut [(.mast m, rTdStat)] s v := regsBut_trans hu_regs (regsBut_of_regs rfl)
  have hinc : regsBut [(.agreed, (resyncCount m tr).addr)] v (v.incF .agreed (resyncCount m tr) 1) :=
    regsBut_putF v _ _ _ (resyncCount_addr_lt m tr) (by simp)
  have hshow := State.showRestored_regsBut (v.incF .agreed (resyncCount m tr) 1) took (whoOf m tr r.core)
  refine ⟨_, exec_resyncPoint_of_crc hr hn ht, State.setTriad_masts (s.advance t) m tr _, ?_, State.showRestored_kind .., ?_,
    regsBut_trans (regsBut_mono hv_regs (by simp)) (regsBut_trans (regsBut_mono hinc (by simp)) (regsBut_mono hshow (by simp))), ?_⟩
  · exact (raised_of_log rfl ..).2 (raised_raiseM u m evCoreResync _ took)
  · rw [State.getF_of_regsBut hshow (resyncCount_addr_lt m tr) (resyncCount_not_lastrs m tr), State.resyncCount_incF,
      State.getF_of_regsBut hv_regs (resyncCount_addr_lt m tr) (by simp)]
  · exact (State.showRestored_keeps _ _ _ rfl (State.incF_keeps _ _ _ rfl (State.raiseM_keeps _ _ _ _ rfl
      (State.setTriad_keeps m tr _ rfl (.refl _ (s.advance t)))))).frame

end

section
variable {s : State} {m : Mast} {q : Int} {t : Nat}

/-- Above 145 °C for the first time: MAST_TEMP_HIGH. -/
theorem dieTemperatureCrossing_warns (hm : (s.mast m).powered = true ∧ (s.mast m).silent = false) (hq : 580 < q ∧ q ≤ 640)
    (hw : s.getF (.mast m) fTdHealthTempWarn = 0) :
    ∃ s', exec (.dieTemperatureCrossing t m q) s = .next s' ∧ s'.masts = s.masts.set m { s.mast m with dieTemp := q } ∧
      s'.getF (.mast m) fTdHealthTemp = unsigned 16 q ∧ s'.getF (.mast m) fTdHealthTempWarn = 1 ∧
      raised s' (2 ^ m.code) evMastTempHigh m.code (unsigned 32 (q / 4)) ∧ regsBut [(.mast m, rTdHealth)] s s' ∧
      sameBut [.masts, .regs, .log] (s.advance t) s' := by
  have he := exec_dieTemperatureCrossing_of_limit (t := t) hm hq.2
  refine ⟨_, he, State.dieReads_masts .., ?_, ?_, State.dieReads_warns _ m q hq.1 hw, ?_, (State.dieReads_keeps m q rfl (.refl _ _)).frame⟩
  all_goals rw [State.dieReads_eq, if_pos ⟨hq.1, hw⟩]
  · exact (State.getF_of_regs (State.raiseM_regs ..) ..).trans (State.showDie_temp_of_warn _ m q 1)
  · exact (State.getF_of_regs (State.raiseM_regs ..) ..).trans (State.putF_tempWarn _ m 1 (by decide))
  · exact regsBut_trans (State.showDie_regsBut (s.advance t) m q) <|
      regsBut_trans (regsBut_putF_self _ _ fTdHealthTempWarn 1 rfl (by decide)) (regsBut_of_regs (State.raiseM_regs ..))

/-- Between 140 °C and the warning, or warned already: the temperature is shown and no more. -/
theorem dieTemperatureCrossing_shows (hm : (s.mast m).powered = true ∧ (s.mast m).silent = false)
    (hq : 560 ≤ q ∧ q ≤ 580 ∨ 560 ≤ q ∧ q ≤ 640 ∧ s.getF (.mast m) fTdHealthTempWarn = 1) :
    ∃ s', exec (.dieTemperatureCrossing t m q) s = .next s' ∧ s'.masts = s.masts.set m { s.mast m with dieTemp := q } ∧
      s'.getF (.mast m) fTdHealthTemp = unsigned 16 q ∧
      s'.getF (.mast m) fTdHealthTempWarn = s.getF (.mast m) fTdHealthTempWarn ∧ regsBut [(.mast m, rTdHealth)] s s' ∧
      sameBut [.masts, .regs] (s.advance t) s' := by
  have hnone : ¬(580 < q ∧ (s.advance t).getF (.mast m) fTdHealthTempWarn = 0) := by
    rw [State.advance_getF]
    omega
  have he := exec_dieTemperatureCrossing_of_limit (t := t) hm (show q ≤ 640 by omega)
  rw [State.dieReads_eq, if_neg hnone, if_neg (by omega)] at he
  exact ⟨_, he, rfl, State.showDie_temp .., State.showDie_warn (s.advance t) m q, State.showDie_regsBut (s.advance t) m q,
    (State.showDie_keeps _ m q).frame⟩

/-- Below 140 °C the warning is cleared. -/
theorem dieTemperatureCrossing_rearms (hm : (s.mast m).powered = true ∧ (s.mast m).silent = false) (hq : q < 560) :
    ∃ s', exec (.dieTemperatureCrossing t m q) s = .next s' ∧ s'.masts = s.masts.set m { s.mast m with dieTemp := q } ∧
      s'.getF (.mast m) fTdHealthTemp = unsigned 16 q ∧ s'.getF (.mast m) fTdHealthTempWarn = 0 ∧
      regsBut [(.mast m, rTdHealth)] s s' ∧ sameBut [.masts, .regs] (s.advance t) s' := by
  have he := exec_dieTemperatureCrossing_of_limit (t := t) hm (show q ≤ 640 by omega)
  rw [State.dieReads_eq, if_neg (by omega), if_pos hq] at he
  exact ⟨_, he, rfl, State.showDie_temp_of_warn _ m q 0, State.putF_tempWarn _ m 0 (by decide),
    regsBut_trans (State.showDie_regsBut (s.advance t) m q) (regsBut_putF_self _ _ fTdHealthTempWarn 0 rfl (by decide)),
    (State.putF_keeps _ _ _ rfl (State.showDie_keeps _ m q)).frame⟩

end

/-- Settles O15: a clause is the lemma of its command, or of the injection's outcome. Who raises the events of a resync, what its WHO
names, what the resync counts count and which result comes first are log entries 97, 96, 122 and 124. -/
theorem triadResyncAndInjection : Obligations.TriadResyncAndInjection := by
  unfold Obligations.TriadResyncAndInjection
  refine ⟨fun t m tr x s hr hn => ⟨_, exec_triadVoteDisagree_of_equal hr hn, rfl, State.passOn_frame _ m tr x⟩,
    fun t m tr r x y z v s hr hn h => ⟨_, exec_triadVoteDisagree_of_pair hr hn h, rfl, State.passOn_frame _ m tr v⟩,
    fun t m tr x y z core s hr hn hold h hl => triadVoteDisagree_begins_resync hr hn hold h hl,
    fun t m tr r s hr ⟨hn, ht⟩ => ⟨_, exec_resyncSelftestDone_of_pass hr hn ht, State.setTriad_masts ..,
      State.setTriad_regsBut (s.advance t) m tr _, State.setTriad_frame _ m tr _⟩,
    fun t m tr r s hr ⟨hn, ht⟩ => resyncPoint_restores hr hn ht,
    fun t m tr ok s h => exec_resyncPoint_of_untested ok h,
    fun t w m tr core s ha hm hr hc hn hold hl => injection_of_output_bit rfl ha hm hr.2 hc hn hold hl,
    fun t w m tr core s ha _ hc => injection_refused rfl ha (.inr hc) (.inr rfl),
    fun t w m tr core s ha hm hr hc => ?inputParity, fun t w m tr core s ha hm hr hc => ?outputParity,
    fun t w m tr core s ha hm hr hc => ?voter,
    fun t w m tr core s ha => injection_without_agreement rfl ha,
    fun t w m tr core s ha hm hc => injection_refused rfl ha (.inl hm) (.inl hc),
    fun t w m tr core s ha => injection_without_agreement rfl ha,
    fun t w m tr core s ha hm hc => injection_refused rfl ha (.inl hm) (.inl hc),
    fun t w m tr core s ha => injection_without_agreement rfl ha,
    fun t w m tr core s ha hm hc => injection_refused rfl ha (.inl hm) (.inl hc),
    fun t w m tr core s ha => injection_without_agreement rfl ha,
    fun t w m tr core s ha hm hc => injection_refused rfl ha (.inl hm) (.inl hc),
    fun t m q s hm hq hw => dieTemperatureCrossing_warns hm hq hw, fun t m q s hm hq => dieTemperatureCrossing_shows hm hq,
    fun t m q s hm hq => dieTemperatureCrossing_rearms hm hq,
    fun t m q s hm hq => silent_of_exec_dieLimit (exec_dieTemperatureCrossing_of_working hm) hm hq,
    fun t obs snd record s ha hne hs hw => ?lastWord, fun t obs snd record s h => exec_lastWordReceived_of_other h⟩
  case inputParity =>
    exact injection_silences rfl ha hm hr.2 (by decide) hc (fun u hu _ => u.injectEffect_inputParity hu) (by decide)
      (whoOf_lt m tr hc) (BitVec.isLt _)
  case outputParity =>
    exact injection_silences rfl ha hm hr.2 (by decide) hc (fun u hu _ => u.injectEffect_outputParity hu) (by decide)
      (whoOf_lt m tr hc) (BitVec.isLt _)
  case voter =>
    exact injection_silences rfl ha hm hr.2 (by decide) hc (fun u hu hfree => hfree ▸ u.injectEffect_voter hu) (by decide)
      (whoOf_lt m tr (by decide)) (by omega)
  case lastWord =>
    exact ⟨_, exec_lastWordReceived_of_silent ha hne hs hw, raised_raiseM .., (State.raiseM_keeps _ _ _ _ rfl (.refl _ _)).frame⟩

end Sys2Proof.Machine

/-!
# A failed resync

O58 has the silence record name the core of a second failure within 1 s, whatever core the resync is of. The record's WHO has 32 bits:
of a core number that does not fit beside mast and triad it names another, and the statement fails there.
-/

namespace Sys2Proof.Machine
open Sys2Proof.Safety

/-- A resync of a core whose number leaves no room in the 32 bits of WHO. -/
def strayResync : Resync := { core := 2 ^ 24, firstOut := 0, began := 0, tested := false }

/-- In RUN, Triad C of every mast is in that resync, and one of the same core has failed at this moment. -/
def strayFailure : State :=
  { State.reset with
    ctl := { mode := .run, on := true }
    masts := Per.all { powered := true, triadC := { resync := some strayResync, fails := [(strayResync.core, 0)] } } }

theorem whoOf_strayResync : whoOf .a .c strayResync.core = 2 ^ 32 + 16 := rfl

/-- Refutes O58: in `strayFailure` mast A goes fail-silent with a record whose WHO cannot name the core. For the cores of a triad
(0 to 2) WHO fits (`whoOf_lt`); the statement's last clause lacks that premise. -/
theorem not_failedResync : ¬ Obligations.FailedResync := by
  unfold Obligations.FailedResync
  rintro ⟨-, -, -, again⟩
  obtain ⟨s', -, -, -, hwho, -⟩ := again 0 .a .c strayResync strayFailure (by decide) (by decide) (by decide)
  have hlt := fieldAt_lt (Safety.recordOf s' .a) 4 4
  rw [hwho, whoOf_strayResync] at hlt
  exact absurd hlt (by decide)

end Sys2Proof.Machine

/-!
# A late mast at no lane position

O11 has a mast noted as late, which presents nothing by the next commit point, vote no more. The loss of a mast is carried out for
the lane position it holds (R102): of a voting mast that holds none nothing is lost, and the statement has no premise against it.
-/

namespace Sys2Proof.Machine

/-- In RUN and TRIPLEX with all masts powered, the jury mast votes as well, holds no lane position and is noted as late. -/
def lateJury : State :=
  { State.reset with
    ctl := { mode := .run, on := true }
    masts := Per.all { powered := true }
    lane := { active := Per.all true, late := some (.j, 0, 0) } }

/-- Does a mast vote in the state a command answers? -/
def votesAfter (r : Result) (m : Mast) : Bool :=
  match r with
  | .next u => u.votes m
  | _ => false

theorem lateJury_commitDue : (lateJury.advance 0).commitDue.isSome = true := by decide

theorem lateJury_votesAfter : votesAfter (exec (.commitPoint 0) lateJury) .j = true := by decide +kernel

/-- Refutes O11: in `lateJury` the late mast presents nothing and votes on after the commit point. -/
theorem not_commitAndHandover : ¬ Obligations.CommitAndHandover := by
  unfold Obligations.CommitAndHandover
  rintro ⟨-, -, -, -, late, -⟩
  obtain ⟨s', e, hgone, -⟩ := late 0 .j 0 0 lateJury (.inl rfl) ⟨rfl, rfl⟩ lateJury_commitDue ⟨rfl, rfl⟩
  have hvotes := lateJury_votesAfter
  rw [e] at hvotes
  exact Bool.false_ne_true (hgone.symm.trans hvotes)

end Sys2Proof.Machine

/-!
# Heartbeats

The beats of R103 to R107: `State.noteBeat` is what a beat on one path leaves before losses are judged, and a window that ends
without its beat is counted and may take its path down.
-/

namespace Sys2Proof.Machine
open Sys2Proof.Safety

/-! ### What one mast keeps of another -/

section
variable {s u : State} {obs peer o p : Mast}

theorem State.hbLink_of_lane (h : u.lane = s.lane) (o p : Mast) : u.hbLink o p = s.hbLink o p := by
  simp only [State.hbLink, h]

variable (s obs peer) (x : HbLink)

theorem State.setHb_hbLink_same : (s.setHb obs peer x).hbLink obs peer = x := by
  simp [State.setHb, State.hbLink]

theorem State.setHb_hbLink_other (h : (o, p) ≠ (obs, peer)) : (s.setHb obs peer x).hbLink o p = s.hbLink o p := by
  by_cases ho : o = obs
  · subst ho
    have hp : p ≠ peer := fun e => h (e ▸ rfl)
    simp [State.setHb, State.hbLink, per_get_set_other _ _ _ _ hp]
  · simp [State.setHb, State.hbLink, per_get_set_other _ _ _ _ ho]

theorem State.setHb_regsBut : regsBut [(.mast obs, rLmHbstat)] s (s.setHb obs peer x) :=
  regsBut_trans (regsBut_of_regs (t := { s with lane := _ }) rfl) (regsBut_putF_self _ _ _ _ rfl (by decide))

end

/-! ### A beat on one path -/

/-- A beat of `peer` is noted by `obs`; a path that it restores is told as number `path`. -/
def State.noteBeat (s : State) (obs peer : Mast) (x : HbLink) (up : Bool) (path : Nat) : State :=
  if up then (s.setHb obs peer x).raiseM obs evHbRestored peer.code path else s.setHb obs peer x

section
variable (s : State) (obs peer : Mast) (x : HbLink) (up : Bool) (path : Nat)

theorem State.noteBeat_keeps : Keeps [.log] (s.setHb obs peer x) (s.noteBeat obs peer x up path) :=
  .ite (State.raiseM_keeps _ _ _ _ rfl (.refl _ _)) (.refl _ _)

theorem State.noteBeat_hbLink (o p : Mast) : (s.noteBeat obs peer x up path).hbLink o p = (s.setHb obs peer x).hbLink o p :=
  State.hbLink_of_lane ((s.noteBeat_keeps obs peer x up path).frame .lane (by decide)) o p

theorem State.noteBeat_masts : (s.noteBeat obs peer x up path).masts = s.masts :=
  (State.noteBeat_keeps ..).frame .masts (by decide)

/-- A beat changes what its receiver keeps of its sender alone, shows it, and tells a path that it restores. -/
theorem State.noteBeat_leaves :
    (s.noteBeat obs peer x up path).hbLink obs peer = x ∧
    (∀ o p, (o, p) ≠ (obs, peer) → (s.noteBeat obs peer x up path).hbLink o p = s.hbLink o p) ∧
    (up = true → raised (s.noteBeat obs peer x up path) (2 ^ obs.code) evHbRestored peer.code path) ∧
    regsBut [(.mast obs, rLmHbstat)] s (s.noteBeat obs peer x up path) ∧
    sameBut [.lane, .regs, .log] s (s.noteBeat obs peer x up path) := by
  have k := s.noteBeat_keeps obs peer x up path
  refine ⟨?_, fun o p h => ?_, ?_, ?_, ?_⟩
  · rw [State.noteBeat_hbLink, State.setHb_hbLink_same]
  · rw [State.noteBeat_hbLink, State.setHb_hbLink_other _ _ _ _ h]
  · rintro rfl
    exact raised_raiseM ..
  · exact regsBut_trans (s.setHb_regsBut obs peer x) (regsBut_of_regs (k.frame .regs (by decide)))
  · have hset : Keeps [.lane, .regs] s (s.setHb obs peer x) := State.setHb_keeps _ _ _ rfl (.refl _ s)
    exact sameBut_trans (sameBut_mono hset.frame (by decide)) (sameBut_mono k.frame (by decide))

end

/-! ### Beats sent and received -/

/-- What an HB1 beat with a right check value leaves of its sender; `n` is the count of its beats that list the receiver. -/
def HbLink.hear (x : HbLink) (bytes : List Byte) (now n : Nat) : HbLink :=
  { x with
    hb1 := (x.hb1.beat now true).1, view := fieldAt bytes 4 4, owners := fieldAt bytes 8 4, commit := fieldAt bytes 12 4
    cdig := fieldAt bytes 16 4, sent := fieldAt bytes 20 4 * sec + fieldAt bytes 24 4, listed := min 2 n }

/-- How often the last beats from all peers together have listed the mast as isolated. -/
def State.told (s : State) (obs : Mast) : Nat :=
  (Mast.all.map fun m => if m = obs then 0 else (s.hbLink obs m).listed).sum

theorem State.told_eq_zero {s : State} {obs : Mast} (h : ∀ m ∈ Mast.all, (s.hbLink obs m).listed = 0) : s.told obs = 0 := by
  have hzero : (Mast.all.map fun m => if m = obs then 0 else (s.hbLink obs m).listed) = Mast.all.map fun _ => 0 :=
    List.map_congr_left fun m hm => by rw [h m hm, ite_self]
  rw [State.told, hzero]
  rfl

theorem State.listed_le_told (s : State) {obs peer : Mast} (h : obs ≠ peer) : (s.hbLink obs peer).listed ≤ s.told obs := by
  have hmem : (s.hbLink obs peer).listed ∈ Mast.all.map fun m => if m = obs then 0 else (s.hbLink obs m).listed :=
    List.mem_map.2 ⟨peer, by cases peer <;> decide, if_neg h.symm⟩
  exact List.le_sum_of_mem hmem

section
variable {s : State} {obs peer : Mast} {bytes : List Byte} {t : Nat}

theorem exec_heartbeatSend {m : Mast} (hr : s.beating = true) (hb : s.beats m = true) (ha : (s.mast m).alive = true) :
    exec (.heartbeatSend t m) s = .next { s.advance t with lane :=
      { s.lane with
        beatOut := s.lane.beatOut.set m ((s.advance t).hb1Bytes m)
        beatSeq := s.lane.beatSeq.set m ((s.lane.beatSeq.get m + 1) % 65536)
        hb2Level := s.lane.hb2Level.set m (!s.lane.hb2Level.get m) } } := by
  have hr' : (s.advance t).beating = true := hr
  have hb' : (s.advance t).beats m = true := hb
  simp only [exec, execHeartbeatSend, hr', hb', State.advance_mast, ha, Bool.not_true, Bool.or_self, Bool.false_eq_true, if_false]
  rfl

/-- An HB1 beat on a path its receiver watches: it is noted, and one that lists the receiver again takes that fail-silent. -/
theorem exec_hb1BeatReceived_of_good (hr : s.beating = true) (hne : obs ≠ peer) (hw : s.watches obs = true)
    (hi : s.lane.isolated.get peer = false) (hg : hb1Good peer bytes = true) :
    let n := if bitOf (fieldAt bytes 4 4) (4 + obs.code) then (s.hbLink obs peer).listed + 1 else 0
    let u := (s.advance t).noteBeat obs peer ((s.hbLink obs peer).hear bytes (max s.now t) n)
      ((s.hbLink obs peer).hb1.beat (max s.now t) true).2 1
    exec (.hb1BeatReceived t obs peer bytes) s = .next
      (if 2 ≤ u.told obs then u.requestSilent obs evMastLost else u.judgeBeats.judgeDecisions obs) := by
  have hno : (!(s.advance t).beating || obs == peer || !(s.advance t).watches obs || (s.advance t).lane.isolated.get peer ||
      !hb1Good peer bytes) = false := by
    have hr' : (s.advance t).beating = true := hr
    have hw' : (s.advance t).watches obs = true := hw
    simp [hr', hw', hi, hg, hne]
  intro n u
  simp only [exec, execHb1BeatReceived, hno, Bool.false_eq_true, if_false]
  exact (apply_ite Host.Outcome.next _ _ _).symm

theorem exec_hb1BeatReceived_of_bad (hg : hb1Good peer bytes = false) :
    exec (.hb1BeatReceived t obs peer bytes) s = .next (s.advance t) := by
  simp [exec, execHb1BeatReceived, hg, ok]

theorem exec_hb2Edge_of_watched (hr : s.beating = true) (hne : obs ≠ peer) (hw : s.watches obs = true)
    (hi : s.lane.isolated.get peer = false) :
    exec (.hb2Edge t obs peer) s = .next ((s.advance t).noteBeat obs peer
      { s.hbLink obs peer with hb2 := ((s.hbLink obs peer).hb2.beat (max s.now t) false).1 }
      ((s.hbLink obs peer).hb2.beat (max s.now t) false).2 2).judgeBeats := by
  have hno : (!(s.advance t).beating || obs == peer || !(s.advance t).watches obs || (s.advance t).lane.isolated.get peer) =
      false := by
    have hr' : (s.advance t).beating = true := hr
    have hw' : (s.advance t).watches obs = true := hw
    simp [hr', hw', hi, hne]
  simp only [exec, execHb2Edge, hno, Bool.false_eq_true, if_false]
  rfl

/-- A beat that does not list its receiver, where no other peer's last beat does. -/
theorem hb1BeatReceived_notes (hr : s.beating = true) (hne : obs ≠ peer) (hw : s.watches obs = true)
    (hi : s.lane.isolated.get peer = false) (hg : hb1Good peer bytes = true)
    (hb : bitOf (fieldAt bytes 4 4) (4 + obs.code) = false) (hl : ∀ m ∈ Mast.all, m ≠ peer → (s.hbLink obs m).listed = 0) :
    exec (.hb1BeatReceived t obs peer bytes) s = .next ((((s.advance t).noteBeat obs peer
      ((s.hbLink obs peer).hear bytes (max s.now t) 0)
      ((s.hbLink obs peer).hb1.beat (max s.now t) true).2 1).judgeBeats).judgeDecisions obs) := by
  have e := exec_hb1BeatReceived_of_good (t := t) hr hne hw hi hg
  simp only [hb, Bool.false_eq_true, if_false] at e
  obtain ⟨hlink, hother, -⟩ := (s.advance t).noteBeat_leaves obs peer ((s.hbLink obs peer).hear bytes (max s.now t) 0)
    ((s.hbLink obs peer).hb1.beat (max s.now t) true).2 1
  rw [State.told_eq_zero, if_neg (by decide)] at e
  · exact e
  · intro m hm
    by_cases h : m = peer
    · subst h
      rw [hlink]
      rfl
    · rw [hother obs m (by simp [h])]
      exact hl m hm h

/-- The second beat that lists its receiver (R107). -/
theorem hb1BeatReceived_silences (hr : s.beating = true) (hne : obs ≠ peer) (hw : s.watches obs = true)
    (hi : s.lane.isolated.get peer = false) (hm : (s.mast obs).powered = true ∧ (s.mast obs).silent = false)
    (hg : hb1Good peer bytes = true) (hb : bitOf (fieldAt bytes 4 4) (4 + obs.code) = true)
    (hl : 1 ≤ (s.hbLink obs peer).listed) :
    ∃ s', exec (.hb1BeatReceived t obs peer bytes) s = .next s' ∧ wentSilent s s' obs 0x0C := by
  have e := exec_hb1BeatReceived_of_good (t := t) hr hne hw hi hg
  simp only [hb, if_true] at e
  set x := (s.hbLink obs peer).hear bytes (max s.now t) ((s.hbLink obs peer).listed + 1) with hx
  set u := (s.advance t).noteBeat obs peer x ((s.hbLink obs peer).hb1.beat (max s.now t) true).2 1
  have hlink : u.hbLink obs peer = x := ((s.advance t).noteBeat_leaves obs peer x _ 1).1
  have htold : 2 ≤ u.told obs := by
    have hle := u.listed_le_told hne
    have hlisted : x.listed = min 2 ((s.hbLink obs peer).listed + 1) := rfl
    rw [hlink, hlisted] at hle
    omega
  rw [if_pos htold] at e
  have hmasts : u.masts = s.masts := State.noteBeat_masts ..
  obtain ⟨hp, hs⟩ := State.mast_of_masts hmasts obs ▸ hm
  exact ⟨_, e, wentSilent_of_masts hmasts (State.goSilent_wentSilent _ _ _ hp hs (by decide))⟩

end

/-! ### Windows that end without their beat -/

theorem HbPath.miss_fst (p : HbPath) : p.miss.1 =
    { good := 0, missed := min 4 (p.missed + 1), down := p.down || decide (3 ≤ p.missed), last := p.last + 250000 } := by
  have h : (min 4 (p.missed + 1) == 4) = decide (3 ≤ p.missed) := by
    rw [Bool.eq_iff_iff, beq_iff_eq, decide_eq_true_iff]
    omega
  simp only [HbPath.miss, h]
  rfl

section
variable (s : State) (c : Copy) {f g : Fld} (b : Bool) (n : Nat)

/-- A 16-bit count of one of several alike registers goes up. -/
theorem State.getF_incF_plus (hh : f.hi < 32) (hl : f.lo ≤ f.hi) (hw : f.hi + 1 - f.lo = 16) :
    (s.incF c (f.plus n) 1).getF c (f.plus n) = min 65535 (s.getF c (f.plus n) + 1) := by
  rw [State.getF_incF _ _ (f.plus n) _ hh hl, show (f.plus n).hi + 1 - (f.plus n).lo = 16 from hw]
  rfl

/-- Such a count goes up where `b` says so. -/
theorem State.getF_incF_if (hh : f.hi < 32) (hl : f.lo ≤ f.hi) (hw : f.hi + 1 - f.lo = 16) :
    (if b then s.incF c (f.plus n) 1 else s).getF c (f.plus n) = min 65535 (s.getF c (f.plus n) + if b then 1 else 0) := by
  cases b
  · have h : s.getF c (f.plus n) < 2 ^ (f.hi + 1 - f.lo) := s.getF_lt c (f.plus n)
    rw [hw] at h
    exact (Nat.min_eq_right (Nat.le_of_lt_succ h)).symm
  · exact State.getF_incF_plus s c n hh hl hw

/-- The other count of the same register stays. -/
theorem State.getF_incF_if_bits (ha : g.addr = f.addr) (hh : f.hi < 32) (hl : f.lo ≤ f.hi) (hl' : g.lo ≤ g.hi)
    (h : g.hi < f.lo ∨ f.hi < g.lo) : (if b then s.incF c (f.plus n) 1 else s).getF c (g.plus n) = s.getF c (g.plus n) := by
  cases b
  · rfl
  · exact State.getF_putF_bits _ _ (f.plus n) (g.plus n) _ (congrArg (· + n) ha) hh hl hl' h

theorem State.regsBut_incF_if {a : Nat} (h : (f.plus n).addr = a) (ha : a < 2 ^ 32) :
    regsBut [(c, a)] s (if b then s.incF c (f.plus n) 1 else s) := by
  cases b
  · exact regsBut_refl _ s
  · exact regsBut_putF_self _ _ _ _ h ha

end

theorem hbMiss_addr_lt (peer : Mast) : rLmHbmiss + 4 * peer.code < 2 ^ 32 := by cases peer <;> decide

theorem hbMiss_not_hbstat (obs peer : Mast) : (Copy.mast obs, rLmHbmiss + 4 * peer.code) ∉ [(Copy.mast obs, rLmHbstat)] := by
  cases peer <;> simp [rLmHbmiss, rLmHbstat, Mast.code]

/-- Both counts of missed beats of a peer go up as the windows that ended say. -/
def State.countMisses (s : State) (obs peer : Mast) (hb1 hb2 : Bool) : State :=
  let u := if hb1 then s.incF (.mast obs) (hbMiss fLmHbmissHb1 peer) 1 else s
  if hb2 then u.incF (.mast obs) (hbMiss fLmHbmissHb2 peer) 1 else u

section
variable (s : State) (obs peer : Mast) (hb1 hb2 : Bool)

theorem State.countMisses_keeps : Keeps [.regs] s (s.countMisses obs peer hb1 hb2) :=
  have k : Keeps [.regs] s (if hb1 then s.incF (.mast obs) (hbMiss fLmHbmissHb1 peer) 1 else s) :=
    .ite (State.incF_keeps _ _ _ rfl (.refl _ s)) (.refl _ s)
  .ite (State.incF_keeps _ _ _ rfl k) k

theorem State.countMisses_regsBut :
    regsBut [(.mast obs, rLmHbmiss + 4 * peer.code)] s (s.countMisses obs peer hb1 hb2) :=
  regsBut_trans (State.regsBut_incF_if _ _ _ _ rfl (hbMiss_addr_lt peer))
    (State.regsBut_incF_if _ _ _ _ rfl (hbMiss_addr_lt peer))

theorem State.countMisses_hb1 : (s.countMisses obs peer hb1 hb2).getF (.mast obs) (hbMiss fLmHbmissHb1 peer) =
    min 65535 (s.getF (.mast obs) (hbMiss fLmHbmissHb1 peer) + if hb1 then 1 else 0) :=
  (State.getF_incF_if_bits (f := fLmHbmissHb2) (g := fLmHbmissHb1) _ _ _ _ rfl (by decide) (by decide) (by decide)
    (by decide)).trans (State.getF_incF_if _ _ _ _ (by decide) (by decide) (by decide))

theorem State.countMisses_hb2 : (s.countMisses obs peer hb1 hb2).getF (.mast obs) (hbMiss fLmHbmissHb2 peer) =
    min 65535 (s.getF (.mast obs) (hbMiss fLmHbmissHb2 peer) + if hb2 then 1 else 0) :=
  (State.getF_incF_if _ _ _ _ (by decide) (by decide) (by decide)).trans <|
    congrArg (fun v => min 65535 (v + if hb2 then 1 else 0))
      (State.getF_incF_if_bits _ _ _ _ rfl (by decide) (by decide) (by decide) (by decide))

end

/-- What is left of a peer once the windows of the named paths have ended. -/
def HbLink.miss (x : HbLink) (hb1 hb2 : Bool) : HbLink :=
  { x with hb1 := if hb1 then x.hb1.miss.1 else x.hb1, hb2 := if hb2 then x.hb2.miss.1 else x.hb2 }

/-- The missed beats counted and noted, before the path that has just gone down is told. -/
def State.noteMiss (s : State) (obs peer : Mast) (hb1 hb2 : Bool) : State :=
  (s.countMisses obs peer hb1 hb2).setHb obs peer ((s.hbLink obs peer).miss hb1 hb2)

section
variable {s : State} {obs peer : Mast} {hb1 hb2 : Bool} {t : Nat}

/-- The windows of the named paths have ended: the misses are counted, a path that is down may be told, and losses are judged. -/
theorem exec_heartbeatMissed_of_due (hr : s.beating = true) (hne : obs ≠ peer)
    (hw : s.watches obs = true ∧ s.awaited peer = true) (hany : hb1 = true ∨ hb2 = true)
    (h1 : hb1 = true → (s.hbLink obs peer).hb1.last + 260000 ≤ t)
    (h2 : hb2 = true → (s.hbLink obs peer).hb2.last + 260000 ≤ t) :
    ∃ u, exec (.heartbeatMissed t obs peer hb1 hb2) s = .next (u.outcastAlone obs).judgeBeats ∧
      Keeps [.log] ((s.advance t).noteMiss obs peer hb1 hb2) u := by
  have late (b : Bool) (p : HbPath) (h : b = true → p.last + 260000 ≤ t) :
      (b && decide (p.last + 260 * us ≤ (s.advance t).now)) = b := by
    cases b
    · rfl
    · have hle : p.last + 260 * us ≤ (s.advance t).now := (h rfl).trans (le_max_right _ _)
      rw [decide_eq_true hle]
      rfl
  have hno : (!(s.advance t).beating || obs == peer || !(s.advance t).watches obs || !(s.advance t).awaited peer ||
      !(hb1 || hb2)) = false := by
    obtain ⟨ho, hp⟩ := hw
    have hr' : (s.advance t).beating = true := hr
    have ho' : (s.advance t).watches obs = true := ho
    have hp' : (s.advance t).awaited peer = true := hp
    have hor : (hb1 || hb2) = true := Bool.or_eq_true_iff.2 hany
    simp [hr', ho', hp', hne, hor, -Bool.not_or]
  have l1 := late hb1 ((s.advance t).hbLink obs peer).hb1 h1
  have l2 := late hb2 ((s.advance t).hbLink obs peer).hb2 h2
  dsimp -zeta only [exec, execHeartbeatMissed]
  extract_lets s1 x one two p q s2 s3 s4 told s5 s6
  have h5 : Keeps [.log] s4 s5 := .ite (State.raiseM_keeps _ _ _ _ rfl (.refl _ s4)) (.refl _ s4)
  have h6 : Keeps [.log] s4 s6 := .ite (State.raiseM_keeps _ _ _ _ rfl h5) h5
  have e1 : one = hb1 := l1
  have e2 : two = hb2 := l2
  have hp : p.1 = if hb1 then x.hb1.miss.1 else x.hb1 := by
    rw [show p = if one then x.hb1.miss else (x.hb1, false) from rfl, e1]
    cases hb1 <;> rfl
  have hq : q.1 = if hb2 then x.hb2.miss.1 else x.hb2 := by
    rw [show q = if two then x.hb2.miss else (x.hb2, false) from rfl, e2]
    cases hb2 <;> rfl
  have h4 : s4 = s1.noteMiss obs peer hb1 hb2 := by
    rw [show s4 = s3.setHb obs peer { x with hb1 := p.1, hb2 := q.1 } from rfl, hp, hq,
      show s3 = if two then s2.incF (.mast obs) (hbMiss fLmHbmissHb2 peer) 1 else s2 from rfl,
      show s2 = if one then s1.incF (.mast obs) (hbMiss fLmHbmissHb1 peer) 1 else s1 from rfl, e1, e2]
    rfl
  refine ⟨s6, ?_, h4 ▸ h6⟩
  rw [if_neg (by rw [e1, e2, hno]; decide)]
  rfl

theorem State.noteMiss_leaves (s : State) (obs peer : Mast) (hb1 hb2 : Bool) {u : State}
    (k : Keeps [.log] (s.noteMiss obs peer hb1 hb2) u) :
    u.hbLink obs peer = (s.hbLink obs peer).miss hb1 hb2 ∧
    (∀ p ∈ [(hb1, hbMiss fLmHbmissHb1 peer), (hb2, hbMiss fLmHbmissHb2 peer)],
      u.getF (.mast obs) p.2 = min 65535 (s.getF (.mast obs) p.2 + if p.1 then 1 else 0)) ∧
    (∀ o p, (o, p) ≠ (obs, peer) → u.hbLink o p = s.hbLink o p) ∧
    regsBut [(.mast obs, rLmHbmiss + 4 * peer.code), (.mast obs, rLmHbstat)] s u ∧ sameBut [.lane, .regs, .log] s u := by
  have kc := s.countMisses_keeps obs peer hb1 hb2
  have hlane : u.lane = (s.noteMiss obs peer hb1 hb2).lane := k.frame .lane (by decide)
  have hset := State.setHb_regsBut (s.countMisses obs peer hb1 hb2) obs peer ((s.hbLink obs peer).miss hb1 hb2)
  have hregs : regsBut [(.mast obs, rLmHbstat)] (s.countMisses obs peer hb1 hb2) u :=
    regsBut_trans hset (regsBut_of_regs (k.frame .regs (by decide)))
  have hcount (f : Fld) (hf : f = fLmHbmissHb1 ∨ f = fLmHbmissHb2) :
      u.getF (.mast obs) (hbMiss f peer) = (s.countMisses obs peer hb1 hb2).getF (.mast obs) (hbMiss f peer) := by
    have ha : (hbMiss f peer).addr = rLmHbmiss + 4 * peer.code := by obtain rfl | rfl := hf <;> rfl
    exact State.getF_of_regsBut hregs (ha ▸ hbMiss_addr_lt peer) (ha ▸ hbMiss_not_hbstat obs peer)
  refine ⟨?_, ?_, fun o p h => ?_, ?_, ?_⟩
  · rw [State.hbLink_of_lane hlane]
    exact State.setHb_hbLink_same ..
  · simp only [List.forall_mem_cons, List.not_mem_nil, false_implies, implies_true, and_true]
    exact ⟨(hcount _ (.inl rfl)).trans (s.countMisses_hb1 ..), (hcount _ (.inr rfl)).trans (s.countMisses_hb2 ..)⟩
  · rw [State.hbLink_of_lane hlane]
    exact (State.setHb_hbLink_other _ _ _ _ h).trans (State.hbLink_of_lane (kc.frame .lane (by decide)) o p)
  · exact regsBut_trans (regsBut_mono (s.countMisses_regsBut _ _ _ _) (by simp)) (regsBut_mono hregs (by simp))
  · have hk : Keeps [.lane, .regs] s (s.noteMiss obs peer hb1 hb2) :=
      State.setHb_keeps _ _ _ rfl (Keeps.next kc rfl (.refl _ s))
    exact sameBut_trans (sameBut_mono hk.frame (by decide)) (sameBut_mono k.frame (by decide))

end

/-- Settles O10: a beat is `State.noteBeat`, a missed window `State.noteMiss`. That a beat which does not list its receiver sets the
count of listings from that peer to 0 is log entry 125, and what a beat outside its window counts is log entry 48. -/
theorem heartbeats : Obligations.Heartbeats := by
  unfold Obligations.Heartbeats
  refine ⟨fun t m s hr hb ha => ⟨_, exec_heartbeatSend hr hb ha, rfl, (Keeps.upd_lane _ rfl (.refl _ _)).frame⟩,
    fun t obs peer bytes s hr hne hw hi hg hb hl => ?_, fun t obs peer bytes s hg => exec_hb1BeatReceived_of_bad hg,
    fun t obs peer bytes s hr hne hw hi ⟨hp, hs, _⟩ hg hb hl => hb1BeatReceived_silences hr hne hw hi ⟨hp, hs⟩ hg hb hl,
    fun t obs peer s hr hne hw hi => ?_, fun t obs peer hb1 hb2 s hr hne hw hany h1 h2 => ?_⟩
  · exact ⟨_, hb1BeatReceived_notes hr hne hw hi hg hb hl, _, rfl, (s.advance t).noteBeat_leaves obs peer _ _ _⟩
  · exact ⟨_, exec_hb2Edge_of_watched hr hne hw hi, _, rfl, (s.advance t).noteBeat_leaves obs peer _ _ _⟩
  · obtain ⟨u, e, k⟩ := exec_heartbeatMissed_of_due (t := t) hr hne hw hany h1 h2
    obtain ⟨hlink, hleaves⟩ := State.noteMiss_leaves (s.advance t) obs peer hb1 hb2 k
    rw [HbLink.miss, HbPath.miss_fst, HbPath.miss_fst] at hlink
    exact ⟨_, e, u, rfl, hlink, hleaves⟩

end Sys2Proof.Machine

/-!
# Isolation and the join of the jury mast

The end of an isolation (R112, R113), the start of a join, its readiness and its failures (R119, R120, R125): what cutting a mast's
power, `State.startJoin` and `State.joinFail` leave is said once, and the commands are read off it.
-/

namespace Sys2Proof.Machine
open Sys2Proof.Safety

/-! ### A mast without power -/

theorem cellLookup_filter {β : Type} (l : List (Nat × β)) (p : Nat × β → Bool) (k : Nat) (h : ∀ v, p (k, v) = true) :
    cellLookup (l.filter p) k = cellLookup l k := by
  induction l with
  | nil => rfl
  | cons x l ih =>
    obtain ⟨q, v⟩ := x
    by_cases hk : k = q
    · subst hk
      simp [h, cellLookup]
    · by_cases hp : p (q, v) = true <;> simp [hp, cellLookup, hk, ih]

/-- The agreed registers are no mast's copies. -/
theorem RegFile.get_dropMast_agreed (f : RegFile) (m : Mast) {a : Nat} (h : a < 2 ^ 32) :
    (f.dropMast m).get (regKey .agreed a) = f.get (regKey .agreed a) := by
  have hnum : regKey .agreed a / 2 ^ 32 = 4 := by
    simp only [regKey, Copy.num]
    omega
  have hkeep : [m.code, 5 + 2 * m.code, 6 + 2 * m.code].contains 4 = false := by cases m <;> decide
  simp only [RegFile.get, RegFile.dropMast]
  rw [cellLookup_filter _ _ _ fun _ => by simp only [hnum, hkeep, Bool.not_false]]

section
variable (s : State) (m : Mast)

theorem State.cutPower_reg_agreed {a : Nat} (h : a < 2 ^ 32) : (s.cutPower m).reg .agreed a = s.reg .agreed a := by
  refine (RegFile.get_dropMast_agreed _ m h).trans ?_
  refine foldl_keeps (fun u : State => u.reg .agreed a = s.reg .agreed a) _ (fun u o hu => ?_) _ _ rfl
  refine (State.reg_putF_key _ _ _ _ _ _ ?_).trans hu
  exact regKey_ne (by simp) h (show rLmHbstat < 2 ^ 32 by decide)

theorem State.cutPower_getF_agreed (f : Fld) (h : f.addr < 2 ^ 32) : (s.cutPower m).getF .agreed f = s.getF .agreed f :=
  congrArg (getBits · f.hi f.lo) (s.cutPower_reg_agreed m h)

theorem State.cutPower_powered : ((s.cutPower m).mast m).powered = false := by
  have k (u : State) : Keeps [.regs] u
      (Mast.all.foldl (fun s obs => s.putF (.mast obs) ⟨rLmHbstat, 4 * m.code + 3, 4 * m.code⟩ 0) u) :=
    .fold (fun _ _ q => State.putF_keeps _ _ _ rfl q) (.refl _ _)
  unfold State.cutPower
  dsimp only
  rw [State.lose_mast, State.mast_of_masts ((k _).frame .masts (by decide)), State.mast_setMast_same]

/-- No isolation is under way any more. -/
def State.clearIsolation : State := { s with lane := { s.lane with isolation := none } }

/-- The isolation ends with the mast's power cut (R112 step 3). -/
def State.endIsolation (i : Isolation) : State :=
  (s.clearIsolation.cutPower i.mast).raise evMastIsolated i.mast.code ((s.now - i.decided) / us)

variable (i : Isolation)

theorem State.clearIsolation_cutPower_keeps :
    Keeps [.regs, .writes, .masts, .intake, .queue, .sup, .mem] s.clearIsolation (s.clearIsolation.cutPower m) :=
  State.cutPower_keeps m rfl (.refl _ _)

theorem State.endIsolation_keeps :
    Keeps [.regs, .writes, .masts, .intake, .queue, .sup, .mem, .log, .lane] s (s.endIsolation i) :=
  State.raise_keeps _ _ _ rfl (State.cutPower_keeps _ rfl (Keeps.upd_lane _ rfl (.refl _ s)))

theorem State.endIsolation_lane : (s.endIsolation i).lane = { s.lane with isolation := none } := by
  rw [State.endIsolation, State.raise_lane]
  exact (s.clearIsolation_cutPower_keeps i.mast).frame .lane (by decide)

theorem State.endIsolation_masts : ((s.endIsolation i).mast i.mast).powered = false ∧
    ∀ o, o ≠ i.mast → (s.endIsolation i).mast o = s.mast o := by
  have h (o : Mast) : (s.endIsolation i).mast o = (s.clearIsolation.cutPower i.mast).mast o :=
    State.mast_of_masts (State.raise_masts ..) o
  refine ⟨?_, fun o ho => ?_⟩
  · rw [h, State.cutPower_powered]
  · rw [h, State.cutPower_mast_other _ ho]
    rfl

theorem State.endIsolation_raised :
    raised (s.endIsolation i) s.lane.active.mask evMastIsolated i.mast.code ((s.now - i.decided) / 1000) := by
  have hl : (s.clearIsolation.cutPower i.mast).lane = s.clearIsolation.lane :=
    (s.clearIsolation_cutPower_keeps i.mast).frame .lane (by decide)
  have h := raised_raise (s.clearIsolation.cutPower i.mast) evMastIsolated i.mast.code ((s.now - i.decided) / us)
  rw [hl] at h
  exact h

theorem State.endIsolation_spareReady : (s.endIsolation i).spareReady = s.spareReady := by
  have hl := s.endIsolation_lane i
  have hc : (s.endIsolation i).ctl = s.ctl := (s.endIsolation_keeps i).frame .ctl (by decide)
  have hf : (s.endIsolation i).getF .agreed fLmCtrlSpareEn = s.getF .agreed fLmCtrlSpareEn :=
    (State.getF_of_regs (State.raise_regs ..) ..).trans (State.cutPower_getF_agreed s.clearIsolation _ _ (by decide))
  simp only [State.spareReady, State.inMode, hl, hc, hf]

end

/-! ### `LM_JOIN` and the lane state -/

section
variable {s0 s : State}

theorem State.discardTest_sparesJoin (n : Nat) (h : Spares [rLmJoin] s0 s) : Spares [rLmJoin] s0 (s.discardTest n) := by
  delta State.discardTest
  split
  case h_1 => exact h
  case h_2 x hx =>
    extract_lets o f s1 s2 s3
    have h2 : Spares [rLmJoin] s0 s2 := .keeps (State.setOut_keeps _ _ rfl (.refl _ s1)) (h.same rfl rfl)
    have h3 : Spares [rLmJoin] s0 s3 := h2.incF _ _ _ (by decide)
    exact .keeps (State.outItem_keeps _ rfl (.refl _ _)) (.ite h3 (h3.raiseBy ..))

theorem State.showField_sparesJoin (h : Spares [rLmJoin] s0 s) : Spares [rLmJoin] s0 s.showField := by
  unfold State.showField
  exact (((((((h.putF _ _ _ (by decide)).putF _ _ _ (by decide)).putF _ _ _ (by decide)).putF _ _ _ (by decide)).putF _ _ _
    (by decide)).putF _ _ _ (by decide)).putF _ _ _ (by decide)).putF _ _ _ (by decide)

theorem State.fieldRegime_sparesJoin (h : Spares [rLmJoin] s0 s) : Spares [rLmJoin] s0 s.fieldRegime :=
  .ite h (State.showField_sparesJoin (State.discardTest_sparesJoin 3 (h.same rfl rfl)))

theorem State.showLane_sparesJoin (h : Spares [rLmJoin] s0 s) : Spares [rLmJoin] s0 s.showLane := by
  unfold State.showLane
  refine .fold (fun u m g => .ite ((g.putF _ _ _ (by decide)).putF _ _ _ (by decide)) g) ?_
  exact (((((((h.putF _ _ _ (by decide)).putF _ _ _ (by decide)).putF _ _ _ (by decide)).putF _ _ _ (by decide)).putF _ _ _
    (by decide)).putF _ _ _ (by decide)).putF _ _ _ (by decide)).putF _ _ _ (by decide)

/-- The lane state's change leaves `LM_JOIN` and tells what it tells beside the events that wait. -/
theorem State.setLane_sparesJoin (l : Lane) (h : Spares [rLmJoin] s0 s) : Spares [rLmJoin] s0 (s.setLane l) :=
  .ite (State.showLane_sparesJoin h) <|
    State.showLane_sparesJoin (State.fieldRegime_sparesJoin (.raise _ _ _ (h.same rfl rfl)))

end

section
variable (s : State)

theorem State.setLane_lane (l : Lane) : (s.setLane l).lane = { s.lane with lane := l } := by
  unfold State.setLane
  split
  next h =>
    rw [show s.showLane.lane = s.lane from (State.showLane_keeps (l := [.regs]) rfl (.refl _ s)).frame .lane (by decide), ← h]
  next =>
    exact (State.showLane_keeps (l := [.regs, .log, .field]) rfl <| State.fieldRegime_keeps rfl <| State.raise_keeps _ _ _ rfl <|
      .refl _ _).frame .lane (by decide)

theorem State.showPhase_phase {p : Nat} (h : p < 16) : (s.showPhase p).getF .agreed fLmJoinPhase = p :=
  (State.getF_putF_key _ _ _ _ _ _ (by decide)).trans <|
    (State.getF_putF _ _ fLmJoinPhase _ (by decide) (by decide)).trans (Nat.mod_eq_of_lt h)

/-- The other fields of `LM_JOIN` stay. -/
theorem State.showPhase_join (p : Nat) {f : Fld} (ha : f.addr = rLmJoin) (hl : f.lo ≤ f.hi) (h : 3 < f.lo) :
    (s.showPhase p).getF .agreed f = s.getF .agreed f :=
  (State.getF_putF_key _ _ _ _ _ _ (by rw [ha]; decide)).trans
    (State.getF_putF_bits _ _ fLmJoinPhase f _ ha (by decide) (by decide) hl (.inr h))

theorem State.showPhase_regsBut (p : Nat) : regsBut [(.agreed, rLmJoin), (.agreed, rLmStat)] s (s.showPhase p) :=
  regsBut_trans (regsBut_putF _ _ fLmJoinPhase _ (by decide) (by decide))
    (regsBut_putF _ _ fLmStatJoinPhase _ (by decide) (by decide))

end

/-! ### The start of a join -/

section
variable (s : State) (pos : LanePos) (onset : Nat) (f : JuryFinding)

/-- The join of the jury mast as it begins. -/
def State.freshJoin : Join := { target := pos, onset := onset, phase := 2, poweredAt := s.now, rom := 0, find := some f }

/-- `LM_JOIN` shows the join's target and phase, before the lane state changes. -/
def State.showStart : State :=
  ((((s.powerMast .j).setJoin (s.freshJoin pos onset f)).putF .agreed fLmJoinTarget pos.code |>.putF .agreed fLmJoinFailReason 0
    |>.putF .agreed fLmJoinElapsed ((s.now - onset) / ms))).showPhase 2

theorem State.startJoin_eq : s.startJoin pos onset f =
    ((s.showStart pos onset f).setLane .joining).raise evJoinStart pos.code
      (((s.showStart pos onset f).setLane .joining).getF .agreed fLmCkstatTotal) := rfl

theorem State.showStart_target : (s.showStart pos onset f).getF .agreed fLmJoinTarget = pos.code := by
  have hp : pos.code < 2 ^ 2 := by cases pos <;> decide
  rw [State.showStart, State.showPhase_join _ 2 (f := fLmJoinTarget) rfl (by decide) (by decide),
    State.getF_putF_bits _ _ fLmJoinElapsed fLmJoinTarget _ rfl (by decide) (by decide) (by decide) (by decide),
    State.getF_putF_bits _ _ fLmJoinFailReason fLmJoinTarget _ rfl (by decide) (by decide) (by decide) (by decide),
    State.getF_putF _ _ fLmJoinTarget _ (by decide) (by decide)]
  exact Nat.mod_eq_of_lt hp

/-- What the start of a join leaves (R112 step 4, R119 step 2). -/
theorem State.startJoin_leaves :
    (s.startJoin pos onset f).lane = { s.lane with lane := .joining, join := some (s.freshJoin pos onset f) } ∧
    ((s.startJoin pos onset f).mast .j).powered = true ∧ (∀ o, o ≠ .j → (s.startJoin pos onset f).mast o = s.mast o) ∧
    (s.startJoin pos onset f).getF .agreed fLmJoinPhase = 2 ∧
    (s.startJoin pos onset f).getF .agreed fLmJoinTarget = pos.code ∧
    (∃ e ∈ (s.startJoin pos onset f).log.due, e.code = evJoinStart ∧ e.arg1 = pos.code) ∧
    ∀ e ∈ s.log.due, e ∈ (s.startJoin pos onset f).log.due := by
  have kshow : Keeps [.regs] ((s.powerMast .j).setJoin (s.freshJoin pos onset f)) (s.showStart pos onset f) :=
    State.showPhase_keeps _ rfl <| State.putF_keeps _ _ _ rfl <| State.putF_keeps _ _ _ rfl <| State.putF_keeps _ _ _ rfl <|
      .refl _ _
  have kset : Keeps [.regs, .log, .lane, .field] (s.showStart pos onset f) ((s.showStart pos onset f).setLane .joining) :=
    State.setLane_keeps _ rfl (.refl _ _)
  have hspare : Spares [rLmJoin] (s.showStart pos onset f) (s.startJoin pos onset f) :=
    .raise _ _ _ (State.setLane_sparesJoin _ (.refl _ _))
  have hmasts : (s.startJoin pos onset f).masts = (s.powerMast .j).masts :=
    Eq.trans (kset.frame .masts (by decide)) (kshow.frame .masts (by decide))
  have hpower : (s.powerMast .j).log = s.log ∧ (s.powerMast .j).lane = s.lane := ⟨rfl, rfl⟩
  have hlog : (s.showStart pos onset f).log = s.log := kshow.frame .log (by decide)
  have hlane : (s.showStart pos onset f).lane = { s.lane with join := some (s.freshJoin pos onset f) } :=
    kshow.frame .lane (by decide)
  refine ⟨?_, ?_, fun o ho => ?_, ?_, ?_, ?_, fun e he => hspare.2 e (hlog ▸ he)⟩
  · rw [State.startJoin_eq, State.raise_lane, State.setLane_lane, hlane]
  · rw [State.mast_of_masts hmasts]
    rw [State.powerMast, State.mast_of_masts (State.putF_masts ..), State.mast_setMast_same]
  · rw [State.mast_of_masts hmasts]
    exact State.mast_setMast_other _ _ _ _ ho
  · exact (hspare.getF (by decide)).trans (State.showPhase_phase _ (by decide))
  · exact (hspare.getF (by decide)).trans (s.showStart_target pos onset f)
  · obtain ⟨e, he, hcode, -, harg, -⟩ := raised_raise ((s.showStart pos onset f).setLane .joining) evJoinStart pos.code
      (((s.showStart pos onset f).setLane .joining).getF .agreed fLmCkstatTotal)
    refine ⟨e, he, hcode, harg.trans (Nat.mod_eq_of_lt ?_)⟩
    cases pos <;> decide

end

/-! ### A join that fails -/

section
variable (s : State) (j : Join) (reason : Nat)

/-- The join as it has failed. -/
def State.failedJoin : Join := { j with phase := 9, ended := some s.now, reason := reason }

/-- A failing join is told and closed, and the jury mast's power cut, before the phase and the lane state are shown (R125). -/
def State.closeJoin : State :=
  let u := s.raise evJoinFailed reason j.phase
  let u : State := { u with lane := { u.lane with join := some (s.failedJoin j reason), spare := false, go := Per.all true } }
  let u := Mast.all.foldl (fun u m => u.putF (.mast m) fLmCycgoGo 1) u
  ((((u.putF .agreed fLmJoinElapsed (min 65535 ((s.now - j.onset) / ms))).putF .agreed fLmJoinFailReason reason).incF .agreed
    fLmJoinstatFails 1).cutPower .j)

variable {s j reason}

theorem State.joinFail_eq (hj : s.lane.join = some j) (he : j.ended = none) :
    s.joinFail reason = ((s.closeJoin j reason).showPhase 9).setLane .duplex := by
  simp only [State.joinFail, hj, he, Option.isSome_none, Bool.false_eq_true, if_false]
  rfl

variable (s j reason)

theorem State.closeJoin_keeps : Keeps [.regs, .writes, .masts, .intake, .queue, .sup, .mem, .log, .lane] s
    (s.closeJoin j reason) :=
  State.cutPower_keeps _ rfl <| State.incF_keeps _ _ _ rfl <| State.putF_keeps _ _ _ rfl <| State.putF_keeps _ _ _ rfl <|
    .fold (fun _ _ g => State.putF_keeps _ _ _ rfl g) <| .upd_lane _ rfl <| State.raise_keeps _ _ _ rfl (.refl _ s)

theorem State.closeJoin_log : (s.closeJoin j reason).log = (s.raise evJoinFailed reason j.phase).log :=
  have k : Keeps [.regs, .writes, .masts, .intake, .queue, .sup, .mem, .lane] (s.raise evJoinFailed reason j.phase)
      (s.closeJoin j reason) :=
    State.cutPower_keeps _ rfl <| State.incF_keeps _ _ _ rfl <| State.putF_keeps _ _ _ rfl <| State.putF_keeps _ _ _ rfl <|
      .fold (fun _ _ g => State.putF_keeps _ _ _ rfl g) <| .upd_lane _ rfl (.refl _ _)
  k.frame .log (by decide)

theorem State.closeJoin_lane : (s.closeJoin j reason).lane =
    { s.lane with join := some (s.failedJoin j reason), spare := false, go := Per.all true } :=
  (State.cutPower_keeps (l := [.regs, .writes, .masts, .intake, .queue, .sup, .mem]) _ rfl <| State.incF_keeps _ _ _ rfl <|
    State.putF_keeps _ _ _ rfl <| State.putF_keeps _ _ _ rfl <| .fold (fun _ _ g => State.putF_keeps _ _ _ rfl g)
      (.refl _ _)).frame .lane (by decide)

theorem State.closeJoin_mast_other {o : Mast} (h : o ≠ .j) : (s.closeJoin j reason).mast o = s.mast o := by
  have k (u : State) (a b : Nat) : Keeps [.regs] u (((Mast.all.foldl (fun u m => u.putF (.mast m) fLmCycgoGo 1) u).putF .agreed
      fLmJoinElapsed a).putF .agreed fLmJoinFailReason b |>.incF .agreed fLmJoinstatFails 1) :=
    State.incF_keeps _ _ _ rfl <| State.putF_keeps _ _ _ rfl <| State.putF_keeps _ _ _ rfl <|
      .fold (fun _ _ g => State.putF_keeps _ _ _ rfl g) (.refl _ _)
  exact (State.cutPower_mast_other _ h).trans (State.mast_of_masts ((k _ _ _).frame .masts (by decide)) o)

theorem State.closeJoin_failReason (h : reason < 256) : (s.closeJoin j reason).getF .agreed fLmJoinFailReason = reason := by
  refine (State.cutPower_getF_agreed _ _ _ (by decide)).trans ?_
  refine (State.getF_incF_key _ _ _ fLmJoinstatFails fLmJoinFailReason _ (by decide)).trans ?_
  exact (State.getF_putF _ _ fLmJoinFailReason _ (by decide) (by decide)).trans (Nat.mod_eq_of_lt h)

variable {s j reason}

/-- What the failure of a join leaves (R125). -/
theorem State.joinFail_leaves (hj : s.lane.join = some j) (he : j.ended = none) (hr : reason < 256) :
    ((s.joinFail reason).mast .j).powered = false ∧
    raised (s.joinFail reason) s.lane.active.mask evJoinFailed reason j.phase ∧
    (s.joinFail reason).lane = { s.lane with
      lane := .duplex, join := some (s.failedJoin j reason), spare := false, go := Per.all true } ∧
    (s.joinFail reason).getF .agreed fLmJoinFailReason = reason ∧ (∀ o, o ≠ .j → (s.joinFail reason).mast o = s.mast o) ∧
    (s.joinFail reason).ctl = s.ctl := by
  have kshow : Keeps [.regs] (s.closeJoin j reason) ((s.closeJoin j reason).showPhase 9) :=
    State.showPhase_keeps _ rfl (.refl _ _)
  have kset : Keeps [.regs, .log, .lane, .field] (s.closeJoin j reason) (((s.closeJoin j reason).showPhase 9).setLane .duplex) :=
    State.setLane_keeps _ rfl (kshow.next rfl (.refl _ _))
  have hspare : Spares [rLmJoin] ((s.closeJoin j reason).showPhase 9) (((s.closeJoin j reason).showPhase 9).setLane .duplex) :=
    State.setLane_sparesJoin _ (.refl _ _)
  have hmasts : (((s.closeJoin j reason).showPhase 9).setLane .duplex).masts = (s.closeJoin j reason).masts :=
    kset.frame .masts (by decide)
  have hlane : ((s.closeJoin j reason).showPhase 9).lane = (s.closeJoin j reason).lane := kshow.frame .lane (by decide)
  have hlog : ((s.closeJoin j reason).showPhase 9).log = (s.raise evJoinFailed reason j.phase).log :=
    Eq.trans (kshow.frame .log (by decide)) (s.closeJoin_log j reason)
  rw [State.joinFail_eq hj he]
  refine ⟨?_, ?_, ?_, ?_, fun o ho => ?_, ?_⟩
  · rw [State.mast_of_masts hmasts]
    exact State.cutPower_powered _ _
  · exact hspare.raised ((raised_of_log hlog ..).2 (raised_raise ..))
  · rw [State.setLane_lane, hlane, State.closeJoin_lane]
  · rw [hspare.getF (by decide), State.showPhase_join _ 9 (f := fLmJoinFailReason) rfl (by decide) (by decide)]
    exact s.closeJoin_failReason j reason hr
  · rw [State.mast_of_masts hmasts]
    exact s.closeJoin_mast_other j reason ho
  · exact Eq.trans (kset.frame .ctl (by decide)) ((s.closeJoin_keeps j reason).frame .ctl (by decide))

end

/-! ### The commands -/

section
variable {s : State} {t : Nat}

theorem exec_isolationPowerCheck_of_low {percent : Nat} {f : JuryFinding} {i : Isolation} (hi : s.lane.isolation = some i)
    (ht : i.decided + 250000 ≤ t) (hp : percent < 10) :
    exec (.isolationPowerCheck t percent f) s = .next
      (if s.spareReady then ((s.advance t).endIsolation i).startJoin i.pos i.from' f else ((s.advance t).endIsolation i).noJoin) := by
  have hi' : (s.advance t).lane.isolation = some i := hi
  have hnow : ¬ (s.advance t).now < i.decided + 250 * us := not_lt.2 (ht.trans (le_max_right _ _))
  have hready : ((s.advance t).endIsolation i).spareReady = s.spareReady := State.endIsolation_spareReady (s.advance t) i
  simp only [exec, execIsolationPowerCheck, hi', if_neg hnow, if_pos hp]
  rw [← hready]
  exact (apply_ite Host.Outcome.next _ _ _).symm

theorem exec_isolationPowerCheck_of_high {percent : Nat} {f : JuryFinding} {i : Isolation} (hi : s.lane.isolation = some i)
    (ht : i.decided + 250000 ≤ t) (hp : 10 ≤ percent) :
    exec (.isolationPowerCheck t percent f) s = .next
      (({ (s.advance t).raise evIsolatePowerFail i.mast.code percent with
        lane := { s.lane with isolation := none, spare := false } } : State).noJoin.showLane) := by
  have hi' : (s.advance t).lane.isolation = some i := hi
  have hnow : ¬ (s.advance t).now < i.decided + 250 * us := not_lt.2 (ht.trans (le_max_right _ _))
  simp only [exec, execIsolationPowerCheck, hi', if_neg hnow, if_neg (not_lt.2 hp)]
  rfl

theorem State.juryRom_of_settled {j : Join} (all : Bool) (hj : s.lane.join = some j) (hf : j.find = none) :
    s.juryRom all = s :=
  List.foldl_fixed' (fun _ => by simp only [hj, hf]) _

variable {value : Word} {j : Join}

theorem exec_joinReady_of_other (h : getBits value 31 16 ≠ 0x4A4E ∨ getBits value 0 0 ≠ 1) :
    exec (.joinReady t value) s = .next (s.advance t) := by
  have hno : ¬(getBits value 31 16 = 0x4A4E ∧ getBits value 0 0 = 1) := not_and_or.2 h
  simp only [exec, execJoinReady, if_neg hno]
  split
  · rfl
  · exact if_pos (.inr h)

/-- The jury mast's firmware is ready in phase 4 and in time: what is left is its timebase. -/
theorem exec_joinReady_of_key {u : State} (hu : (s.advance t).juryRom true = u)
    (hk : getBits value 31 16 = 0x4A4E ∧ getBits value 0 0 = 1) (hj : u.lane.join = some j) (hp : j.phase = 4)
    (ht : max s.now t ≤ j.onset + 600000000) :
    exec (.joinReady t value) s = .next (if u.inBand .j then
      (u.setJoin { j with phase := 5, ready := true, written := [] }).showPhase 5 else u.joinFail 8) := by
  have hnow : u.now = max s.now t := hu ▸
    (State.juryRom_keeps (l := [.regs, .writes, .masts, .log, .lane, .intake, .time, .queue, .sup, .field, .mem]) true rfl
      (.refl _ (s.advance t))).frame .now (by decide)
  have hgo : ¬(j.phase ≠ 4 ∨ getBits value 31 16 ≠ 0x4A4E ∨ getBits value 0 0 ≠ 1) := by simp [hp, hk]
  have hin : ¬ j.onset + 600 * ms < u.now := not_lt.2 (hnow ▸ ht)
  simp only [exec, execJoinReady, if_pos hk, hu, hj, if_neg hgo, if_neg hin]
  cases u.inBand .j <;> rfl

theorem exec_joinReadyTimeout_of_due (hj : ((s.advance t).juryRom false).lane.join = some j)
    (he : j.ended = none ∧ j.ready = false) (ht : j.onset + 600000000 ≤ max s.now t) :
    exec (.joinReadyTimeout t) s = .next (((s.advance t).juryRom false).joinFail 4) := by
  have hnow : ((s.advance t).juryRom false).now = max s.now t :=
    (State.juryRom_keeps (l := [.regs, .writes, .masts, .log, .lane, .intake, .time, .queue, .sup, .field, .mem]) false rfl
      (.refl _ (s.advance t))).frame .now (by decide)
  obtain ⟨hend, hready⟩ := he
  simp only [exec, execJoinReadyTimeout, hj]
  exact if_pos ⟨by simp [hend], by simp [hready], hnow ▸ ht⟩

theorem exec_joinEntryTimeout_of_due (hj : s.lane.join = some j) (he : j.ended = none)
    (ht : j.onset + 700000000 + s.aiCycle ≤ t) :
    exec (.joinEntryTimeout t) s = .next ((s.advance t).joinFail 5) := by
  have hj' : (s.advance t).lane.join = some j := hj
  simp only [exec, execJoinEntryTimeout, hj']
  exact if_pos ⟨by simp [he], ht.trans (le_max_right _ _)⟩

/-- Rails below 10 per cent without a spare: the isolation ends, and that is all. -/
theorem isolationPowerCheck_ends {percent : Nat} {f : JuryFinding} {i : Isolation} (hi : s.lane.isolation = some i)
    (ht : i.decided + 250000 ≤ t) (hp : percent < 10) (hr : s.spareReady = false) :
    ∃ s', exec (.isolationPowerCheck t percent f) s = .next s' ∧ s'.lane.isolation = none ∧ (s'.mast i.mast).powered = false ∧
      raised s' s.lane.active.mask evMastIsolated i.mast.code ((max s.now t - i.decided) / 1000) ∧
      s'.lane.lane = s.lane.lane ∧ s'.lane.join = s.lane.join ∧ (∀ o, o ≠ i.mast → s'.mast o = s.mast o) ∧
      s'.lane.inForce = s.lane.inForce ∧ s'.ctl = s.ctl := by
  have e := exec_isolationPowerCheck_of_low (f := f) hi ht hp
  rw [hr, if_neg Bool.false_ne_true] at e
  have k : Keeps [.regs] ((s.advance t).endIsolation i) ((s.advance t).endIsolation i).noJoin := State.noJoin_keeps rfl (.refl _ _)
  have hlane : ((s.advance t).endIsolation i).noJoin.lane = { s.lane with isolation := none } :=
    Eq.trans (k.frame .lane (by decide)) ((s.advance t).endIsolation_lane i)
  have hmast (o : Mast) : ((s.advance t).endIsolation i).noJoin.mast o = ((s.advance t).endIsolation i).mast o :=
    State.mast_of_masts (k.frame .masts (by decide)) o
  obtain ⟨hoff, hother⟩ := (s.advance t).endIsolation_masts i
  refine ⟨_, e, by rw [hlane], by rw [hmast, hoff], ?_, by rw [hlane], by rw [hlane],
    fun o ho => (hmast o).trans (hother o ho), by rw [hlane], ?_⟩
  · exact (raised_of_log (k.frame .log (by decide)) ..).2 ((s.advance t).endIsolation_raised i)
  · exact Eq.trans (k.frame .ctl (by decide)) (((s.advance t).endIsolation_keeps i).frame .ctl (by decide))

/-- Rails below 10 per cent with a ready spare: the isolation ends, and the jury mast's join begins. -/
theorem isolationPowerCheck_joins {percent : Nat} {f : JuryFinding} {i : Isolation} (hi : s.lane.isolation = some i)
    (ht : i.decided + 250000 ≤ t) (hp : percent < 10) (hr : s.spareReady = true) (hj : i.mast ≠ .j) :
    ∃ s', exec (.isolationPowerCheck t percent f) s = .next s' ∧ s'.lane.isolation = none ∧ (s'.mast i.mast).powered = false ∧
      raised s' s.lane.active.mask evMastIsolated i.mast.code ((max s.now t - i.decided) / 1000) ∧
      s'.lane.lane = .joining ∧ s'.lane.join = some
        { target := i.pos, onset := i.from', phase := 2, poweredAt := max s.now t, rom := 0, find := some f } ∧
      (s'.mast .j).powered = true ∧ s'.getF .agreed fLmJoinPhase = 2 ∧ s'.getF .agreed fLmJoinTarget = i.pos.code ∧
      (∃ e ∈ s'.log.due, e.code = evJoinStart ∧ e.arg1 = i.pos.code) ∧ (∀ o, o ≠ i.mast → o ≠ .j → s'.mast o = s.mast o) ∧
      s'.lane.inForce = s.lane.inForce ∧ s'.ctl = s.ctl := by
  have e := exec_isolationPowerCheck_of_low (f := f) hi ht hp
  rw [hr, if_pos rfl] at e
  have hnow : ((s.advance t).endIsolation i).now = max s.now t := ((s.advance t).endIsolation_keeps i).frame .now (by decide)
  have hlane : ((s.advance t).endIsolation i).lane = { s.lane with isolation := none } := (s.advance t).endIsolation_lane i
  have hctl : (((s.advance t).endIsolation i).startJoin i.pos i.from' f).ctl = s.ctl :=
    Eq.trans
      ((State.startJoin_keeps (l := [.regs, .masts, .log, .lane, .field, .mem]) _ _ _ rfl (.refl _ _)).frame .ctl (by decide))
      (((s.advance t).endIsolation_keeps i).frame .ctl (by decide))
  obtain ⟨hoff, hother⟩ := (s.advance t).endIsolation_masts i
  obtain ⟨hl, hon, hmast, hphase, htarget, hstart, hdue⟩ :=
    ((s.advance t).endIsolation i).startJoin_leaves i.pos i.from' f
  rw [hlane, State.freshJoin, hnow] at hl
  refine ⟨_, e, by rw [hl], by rw [hmast _ hj, hoff], raised_mono ((s.advance t).endIsolation_raised i) hdue, by rw [hl],
    by rw [hl], hon, hphase, htarget, hstart, fun o ho hoj => (hmast o hoj).trans (hother o ho), by rw [hl], hctl⟩

/-- Rails at 10 per cent or more: the spare is spent. -/
theorem isolationPowerCheck_fails {percent : Nat} {f : JuryFinding} {i : Isolation} (hi : s.lane.isolation = some i)
    (ht : i.decided + 250000 ≤ t) (hp : 10 ≤ percent) :
    ∃ s', exec (.isolationPowerCheck t percent f) s = .next s' ∧ s'.lane.isolation = none ∧ s'.lane.spare = false ∧
      raised s' s.lane.active.mask evIsolatePowerFail i.mast.code percent ∧ (∀ o, s'.mast o = s.mast o) ∧
      sameBut [.lane, .log, .regs] (s.advance t) s' := by
  set v : State := { (s.advance t).raise evIsolatePowerFail i.mast.code percent with
    lane := { s.lane with isolation := none, spare := false } } with hv
  have k : Keeps [.regs] v v.noJoin.showLane := State.showLane_keeps rfl (State.noJoin_keeps rfl (.refl _ v))
  have hlane : v.noJoin.showLane.lane = v.lane := k.frame .lane (by decide)
  have kv : Keeps [.lane, .log] (s.advance t) v :=
    Keeps.upd_lane _ rfl (State.raise_keeps evIsolatePowerFail i.mast.code percent rfl (.refl _ _))
  refine ⟨_, exec_isolationPowerCheck_of_high hi ht hp, by rw [hlane], by rw [hlane], ?_,
    fun o => State.mast_of_masts (k.frame .masts (by decide)) o,
    sameBut_trans (sameBut_mono kv.frame (by decide)) (sameBut_mono k.frame (by decide))⟩
  exact (raised_of_log (k.frame .log (by decide)) ..).2 (raised_raise (s.advance t) ..)

/-- Ready in time and within the time band (R119 step 7). -/
theorem joinReady_enters (hk : getBits value 31 16 = 0x4A4E ∧ getBits value 0 0 = 1)
    (hj : ((s.advance t).juryRom true).lane.join = some j) (hp : j.phase = 4) (ht : max s.now t ≤ j.onset + 600000000)
    (hb : ((s.advance t).juryRom true).inBand .j = true) :
    ∃ s', exec (.joinReady t value) s = .next s' ∧ s'.lane =
        { ((s.advance t).juryRom true).lane with join := some { j with phase := 5, ready := true, written := [] } } ∧
      s'.getF .agreed fLmJoinPhase = 5 ∧ regsBut [(.agreed, rLmJoin), (.agreed, rLmStat)] ((s.advance t).juryRom true) s' ∧
      sameBut [.lane, .regs] ((s.advance t).juryRom true) s' := by
  have e := exec_joinReady_of_key rfl hk hj hp ht
  rw [hb, if_pos rfl] at e
  set u := (s.advance t).juryRom true
  have k : Keeps [.regs] (u.setJoin { j with phase := 5, ready := true, written := [] }) _ :=
    State.showPhase_keeps 5 rfl (.refl _ _)
  refine ⟨_, e, k.frame .lane (by decide), State.showPhase_phase _ (by decide),
    regsBut_trans (regsBut_of_regs (t := u.setJoin _) rfl) (State.showPhase_regsBut _ 5), ?_⟩
  exact (State.showPhase_keeps 5 rfl (State.setJoin_keeps _ rfl (.refl [.lane, .regs] u))).frame

/-- A command whose effect is the failure of the join that is under way in `u`. -/
theorem joinFails_of_exec {c : Instr} {u : State} {reason : Nat} (e : exec c s = .next (u.joinFail reason))
    (hj : u.lane.join = some j) (he : j.ended = none) (hr : reason < 256) :
    ∃ s', exec c s = .next s' ∧ (s'.mast .j).powered = false ∧ raised s' u.lane.active.mask evJoinFailed reason j.phase ∧
      s'.lane.lane = .duplex ∧ s'.lane.spare = false ∧
      s'.lane.join = some { j with phase := 9, ended := some u.now, reason := reason } ∧
      s'.getF .agreed fLmJoinFailReason = reason ∧ (∀ o, o ≠ .j → s'.mast o = u.mast o) ∧
      s'.lane.inForce = u.lane.inForce ∧ s'.ctl = u.ctl := by
  obtain ⟨hoff, htold, hl, hreason, hmast, hctl⟩ := State.joinFail_leaves hj he hr
  exact ⟨_, e, hoff, htold, by rw [hl], by rw [hl], by rw [hl]; rfl, hreason, hmast, by rw [hl], hctl⟩

end

/-- Settles O16: the isolation ends by `State.endIsolation`, a join begins by `State.startJoin_leaves` and fails by
`joinFails_of_exec`. ISOLATE_POWER_FAIL is R113; that SPARE_EN is tested once and that the steps of the ROM are one operand are log
entries 126 and 57. -/
theorem isolationAndJoin : Obligations.IsolationAndJoin := by
  unfold Obligations.IsolationAndJoin
  refine ⟨fun t percent f i s hi ht hp hr => isolationPowerCheck_ends hi ht hp hr,
    fun t percent f i s hi ht hp hr hj => isolationPowerCheck_joins hi ht hp hr hj,
    fun t percent f i s hi ht hp => isolationPowerCheck_fails hi ht hp,
    fun t value j s hk ⟨hj, hp⟩ ht hb => joinReady_enters hk hj hp ht hb,
    fun t value j s hk ⟨hj, hp, he⟩ ht hb => ?_, fun t value s h => exec_joinReady_of_other h,
    fun t j s ⟨hj, hf⟩ he ht => ?_, fun t j s hj he ht => ?_, fun t j s hj he ht => ?_⟩
  · have e := exec_joinReady_of_key rfl hk hj hp ht
    rw [hb, if_neg Bool.false_ne_true] at e
    obtain ⟨s', e', hoff, ⟨ev, hmem, hcode, -, harg1, harg2⟩, hl, hs, -, hreason, -⟩ := joinFails_of_exec e hj he (by decide)
    exact ⟨s', e', hoff, hl, hs, hreason, ev, hmem, hcode, harg1, harg2.trans (by simp [hp])⟩
  · have hrom : (s.advance t).juryRom false = s.advance t := State.juryRom_of_settled false hj hf
    have e := exec_joinReadyTimeout_of_due (s := s) (t := t) (by rw [hrom]; exact hj) he (ht.trans (le_max_right _ _))
    rw [hrom] at e
    exact joinFails_of_exec (u := s.advance t) e hj he.1 (by decide)
  · obtain ⟨s', e', hoff, -, hl, hs, -, hreason, -⟩ :=
      joinFails_of_exec (exec_joinReadyTimeout_of_due hj he ht) hj he.1 (by decide)
    exact ⟨s', e', hoff, hl, hs, hreason⟩
  · exact joinFails_of_exec (u := s.advance t) (exec_joinEntryTimeout_of_due hj he ht) hj he (by decide)

end Sys2Proof.Machine

/-!
# A mast lost in TRIPLEX

What the loss of a mast leaves of the lane state, of the events that wait and of the transmit units it does not own (R102, R112, R118).
-/

namespace Sys2Proof.Machine
open Sys2Proof.Safety

/-! ### Transmit units -/

section
variable {s t : State} {u v : Nat} {x : TxUnit}

theorem State.unit_of_lane (h : t.lane = s.lane) (v : Nat) : t.unit v = s.unit v := by
  simp only [State.unit, h]

theorem State.unit_of_units (h : t.lane.units = s.lane.units) (v : Nat) : t.unit v = s.unit v := by
  simp only [State.unit, h]

theorem State.setUnit_unit_same (h : u < s.lane.units.length) : (s.setUnit u x).unit u = x := by
  simp [State.setUnit, State.unit, h]

theorem State.setUnit_unit_other (h : v ≠ u) : (s.setUnit u x).unit v = s.unit v := by
  simp [State.setUnit, State.unit, List.getElem?_set_ne h.symm]

/-- A unit beyond the list stays what it reads as. -/
theorem State.setUnit_unit_cases (s : State) (u : Nat) (x : TxUnit) :
    (s.setUnit u x).unit u = x ∨ (s.setUnit u x).unit u = s.unit u := by
  by_cases h : u < s.lane.units.length
  · exact .inl (State.setUnit_unit_same h)
  · right
    simp only [State.setUnit, State.unit, List.set_eq_of_length_le (not_lt.1 h)]

theorem State.setUnit_length : (s.setUnit u x).lane.units.length = s.lane.units.length := List.length_set

theorem State.setUnit_setUnit (s : State) (u : Nat) (x y : TxUnit) : (s.setUnit u x).setUnit u y = s.setUnit u y := by
  simp only [State.setUnit, List.set_set]

end

/-! ### Owners pass from a lost mast -/

/-- From `s` to `t` frames were cut and units passed on, but none that another mast than `lost` owns. -/
structure PassesFrom (lost : Mast) (s t : State) : Prop where
  lane : ∃ us since, t.lane = { s.lane with units := us, ownersAt := since }
  told : ∀ e ∈ s.log.due, e ∈ t.log.due
  kept : ∀ u, (s.unit u).owner ≠ lost → (t.unit u).owner = (s.unit u).owner ∧ (t.unit u).sentGood = (s.unit u).sentGood

section
variable {lost : Mast} {s0 s t : State}

theorem PassesFrom.refl (lost : Mast) (s : State) : PassesFrom lost s s :=
  ⟨⟨_, _, rfl⟩, fun _ h => h, fun _ _ => ⟨rfl, rfl⟩⟩

theorem PassesFrom.trans (h : PassesFrom lost s0 s) (g : PassesFrom lost s t) : PassesFrom lost s0 t := by
  obtain ⟨⟨us, a, hl⟩, htold, hkept⟩ := h
  obtain ⟨⟨us', a', hl'⟩, htold', hkept'⟩ := g
  refine ⟨⟨us', a', by rw [hl', hl]⟩, fun e he => htold' e (htold e he), fun u hu => ?_⟩
  obtain ⟨ho, hg⟩ := hkept u hu
  obtain ⟨ho', hg'⟩ := hkept' u (ho ▸ hu)
  exact ⟨ho'.trans ho, hg'.trans hg⟩

theorem PassesFrom.ite {c : Prop} [Decidable c] {x y : State} (hx : c → PassesFrom lost s0 x) (hy : PassesFrom lost s0 y) :
    PassesFrom lost s0 (if c then x else y) := by
  split
  next h => exact hx h
  next => exact hy

theorem PassesFrom.fold {α : Type} {f : State → α → State} {xs : List α} (hf : ∀ s x, PassesFrom lost s (f s x)) (s : State) :
    PassesFrom lost s (xs.foldl f s) :=
  foldl_keeps (PassesFrom lost s) f (fun t x h => h.trans (hf t x)) xs s (.refl lost s)

/-- Registers and other parts beside the lane and the log. -/
theorem PassesFrom.keeps (k : Keeps [.regs, .time, .bridge] s t) : PassesFrom lost s t := by
  have hl : t.lane = s.lane := k.frame .lane (by decide)
  have hlog : t.log = s.log := k.frame .log (by decide)
  exact ⟨⟨_, _, hl⟩, fun _ he => hlog ▸ he, fun u _ => by rw [State.unit_of_lane hl]; exact ⟨rfl, rfl⟩⟩

/-- One unit is replaced, which the lost mast owned or whose owner and count stay. -/
theorem State.setUnit_passesFrom (s : State) (u : Nat) (x : TxUnit)
    (h : (s.unit u).owner = lost ∨ x.owner = (s.unit u).owner ∧ x.sentGood = (s.unit u).sentGood) :
    PassesFrom lost s (s.setUnit u x) := by
  refine ⟨⟨_, _, rfl⟩, fun _ he => he, fun v hv => ?_⟩
  by_cases e : v = u
  · subst e
    obtain hx | hs := s.setUnit_unit_cases v x
    · rw [hx]
      exact h.resolve_left hv
    · rw [hs]
      exact ⟨rfl, rfl⟩
  · rw [State.setUnit_unit_other e]
    exact ⟨rfl, rfl⟩

theorem State.cutUnit_passesFrom {u : Nat} (h : (s.unit u).owner = lost) : PassesFrom lost s (s.cutUnit u) := by
  refine (s.setUnit_passesFrom u ((s.unit u).cut s.now) (.inl h)).trans ?_
  exact .ite (fun _ => .fold (fun _ _ => .keeps (State.uncount_keeps _ rfl (.refl _ _))) _) (.refl _ _)

theorem State.cutFrames_passesFrom (s : State) (lost : Mast) : PassesFrom lost s (s.cutFrames lost) :=
  .fold (fun _ _ => .ite State.cutUnit_passesFrom (.refl _ _)) s

theorem State.handOver_passesFrom {u : Nat} (next : Mast) (forced : Bool) (h : (s.unit u).owner = lost) :
    PassesFrom lost s (s.handOver u next forced) := by
  dsimp -zeta only [State.handOver]
  extract_lets old x s1 l s2 c s3 s4 s5 s6
  have h1 : PassesFrom lost s s1 := s.setUnit_passesFrom u _ (.inl h)
  have h2 : PassesFrom lost s1 s2 := ⟨⟨_, _, rfl⟩, fun _ he => he, fun v _ => by
    rw [State.unit_of_units (show s2.lane.units = s1.lane.units from rfl)]; exact ⟨rfl, rfl⟩⟩
  have h5 : PassesFrom lost s2 s5 := .keeps <| State.putF_keeps _ _ _ rfl <| State.putF_keeps _ _ _ rfl <|
    State.putF_keeps _ _ _ rfl <| State.putF_keeps _ _ _ rfl <| State.incF_keeps _ _ _ rfl (.refl _ s2)
  have htell : PassesFrom lost s5 (s5.raise evOwnerChange u (next.code + 256 * old.code + 65536 * b2n forced)) :=
    ⟨⟨_, _, rfl⟩, fun _ he => List.mem_append_left _ he, fun v _ => ⟨rfl, rfl⟩⟩
  have h6 : PassesFrom lost s5 s6 := htell.trans (.keeps (State.showOwners_keeps rfl (.refl _ _)))
  have h16 : PassesFrom lost s s6 := ((h1.trans h2).trans h5).trans h6
  exact .ite (fun _ => h16.trans (.keeps (State.bridgeKick_keeps rfl (.refl _ _)))) h16

theorem State.retarget_passesFrom (s : State) (u : Nat) : PassesFrom lost s (s.retarget u) := by
  unfold State.retarget
  dsimp only
  split
  · exact .refl _ s
  · refine .ite (fun _ => .refl _ s) ?_
    refine PassesFrom.trans (s.setUnit_passesFrom u _ (.inr ?_)) (.keeps (State.showOwners_keeps rfl (.refl _ _)))
    exact ⟨rfl, rfl⟩

theorem State.forcedHandovers_passesFrom (s : State) (lost : Mast) : PassesFrom lost s (s.forcedHandovers lost) := by
  refine (s.cutFrames_passesFrom lost).trans (.fold (fun v u => ?_) _)
  extract_lets w
  have hw : PassesFrom lost v w := by
    refine .ite (fun h => ?_) (.refl _ v)
    split
    · exact State.handOver_passesFrom _ _ h
    · exact .refl _ v
  exact hw.trans (w.retarget_passesFrom u)

end

/-! ### Events that wait while a mast is lost -/

section
variable {s : State}

theorem Spares.toNil {A : List Nat} {t : State} (h : Spares A s t) : Spares [] s t := ⟨fun _ _ h => absurd h (by simp), h.2⟩

theorem State.votedChange_spares (s : State) (o : Nat) (on : Bool) (before : List Bool) :
    Spares [] s (s.votedChange o on before) := by
  dsimp -zeta only [State.votedChange]
  extract_lets x y z s1 f s2
  have h1 : Spares [] s s1 := .of_log ((State.setOut_keeps (l := [.field]) _ _ rfl (.refl _ s)).frame .log (by decide))
  have h2 : Spares [] s s2 := by
    refine h1.trans ?_
    unfold s2
    split
    · exact .ite (.refl _ s1) (.ite (s1.discardTest_spares 1) (.of_log rfl))
    · exact .refl _ s1
  exact h2.trans (.of_log ((State.outItem_keeps (l := [.field]) o rfl (.refl _ s2)).frame .log (by decide)))

theorem State.revote_spares (s : State) (before : Nat → List Bool) : Spares [] s (s.revote before) := by
  refine .fold (fun v k h => h.trans ?_) (.refl _ s)
  extract_lets o now x w on
  have hw : Spares [] v w :=
    .ite (.refl _ v) (.of_log ((State.setOut_keeps (l := [.field]) _ _ rfl (.refl _ v)).frame .log (by decide)))
  exact .ite hw (hw.trans (w.votedChange_spares o on (before o)))

theorem State.crossbar_spares (s : State) (p : LanePos) : Spares [] s (s.crossbar p none) := by
  dsimp -zeta only [State.crossbar]
  extract_lets x y before s1 s2
  have h2 : Spares [] s s2 := .of_log rfl
  have h3 := (h2.trans (s2.revote_spares before)).raise evFiXbar p.code 0xFF
  exact h3.trans (.of_log ((State.showField_keeps (l := [.regs]) rfl (.refl _ _)).frame .log (by decide)))

theorem State.upAbort_spares (s : State) (cause : Nat) : Spares [] s (s.upAbort cause) := by
  unfold State.upAbort
  split
  · exact .refl _ s
  · dsimp only
    have k (v : State) (f : BootRecord → BootRecord) : Keeps [.regs, .masts, .upd, .mem] v
        ((((v.changeRecord v.voters f).setSession none).setPhase 0).putF .agreed fUpCmdstatReason 13) :=
      State.putF_keeps _ _ _ rfl <| State.setPhase_keeps _ rfl <| State.setSession_keeps _ rfl <|
        State.changeRecord_keeps _ _ rfl (.refl _ v)
    exact ((Spares.refl [] s).raise ..).trans (.of_log ((k _ _).frame .log (by decide)))

theorem State.noteLoss_spares (s : State) (m : Mast) (cause onset : Nat) : Spares [] s (s.noteLoss m cause onset) := by
  dsimp -zeta only [State.noteLoss]
  extract_lets pos c s1 s2
  exact .raiseBy _ _ _ _ (.of_log rfl)

end

/-! ### The loss -/

section
variable (s : State) (m : Mast) (p : LanePos) (cause onset : Nat)

/-- The lost mast's gate is open and the lane DUPLEX, before its units pass on (R112 step 1). -/
def State.openGate : State :=
  let v := (s.noteLoss m cause onset).dropMast m
  let v : State := { v with lane := { v.lane with
    isolated := v.lane.isolated.set m true, isolation := some ⟨m, p, onset, s.now - (s.moduleTime - onset), s.now⟩ } }
  (v.setMast m { v.mast m with isolated := true }).setLane .duplex

theorem State.loseTriplex_eq (h : s.lane.posOf m = some p) : s.loseTriplex m cause onset =
    ((((s.openGate m p cause onset).forcedHandovers m).crossbar p none).joinAhead p).upAbort 2 := by
  simp only [State.loseTriplex, h]
  rfl

theorem State.noteLoss_lane : (s.noteLoss m cause onset).lane = s.lane :=
  (State.noteLoss_keeps (l := [.regs, .log]) m cause onset rfl (.refl _ s)).frame .lane (by decide)

theorem State.dropMast_unit (u : Nat) : (s.dropMast m).unit u = (s.unit u).without m := by
  simp only [State.unit, State.dropMast, List.getElem?_map]
  cases s.lane.units[u]? <;> rfl

theorem State.openGate_lane : ∃ l : LanePart, (s.openGate m p cause onset).lane = { l with lane := .duplex } ∧
    l.active = s.lane.active.set m false ∧ l.units = ((s.noteLoss m cause onset).dropMast m).lane.units := by
  refine ⟨_, State.setLane_lane _ _, ?_, rfl⟩
  show (s.noteLoss m cause onset).lane.active.set m false = _
  rw [State.noteLoss_lane]

theorem State.openGate_unit (u : Nat) : (s.openGate m p cause onset).unit u = (s.unit u).without m := by
  obtain ⟨l, hl, -, hu⟩ := s.openGate_lane m p cause onset
  rw [State.unit_of_units (s := (s.noteLoss m cause onset).dropMast m) (by rw [hl, ← hu]), State.dropMast_unit,
    State.unit_of_lane (s.noteLoss_lane m cause onset)]

theorem State.openGate_spares : Spares [] s (s.openGate m p cause onset) := by
  dsimp -zeta only [State.openGate]
  extract_lets v iso w
  have k : Keeps [.lane, .app, .masts] (s.noteLoss m cause onset) (w.setMast m { w.mast m with isolated := true }) :=
    .setMast _ _ rfl rfl (.upd_lane _ rfl (State.dropMast_keeps m rfl (.refl _ _)))
  have h := (s.noteLoss_spares m cause onset).trans (.of_log (k.frame .log (by decide)))
  exact h.trans (State.setLane_sparesJoin .duplex (.refl _ _)).toNil

variable {p}

/-- What the loss of a mast in TRIPLEX leaves (R102, R112 steps 1 and 2). -/
theorem State.loseTriplex_leaves (h : s.lane.posOf m = some p) :
    (s.loseTriplex m cause onset).lane.lane = .duplex ∧
    (s.loseTriplex m cause onset).lane.active = s.lane.active.set m false ∧
    (∀ e ∈ s.log.due, e ∈ (s.loseTriplex m cause onset).log.due) ∧
    ∀ u, (s.unit u).owner ≠ m → ((s.loseTriplex m cause onset).unit u).sentGood = (s.unit u).sentGood := by
  rw [State.loseTriplex_eq s m p cause onset h]
  obtain ⟨l, hgate, hactive, -⟩ := s.openGate_lane m p cause onset
  have hspare := s.openGate_spares m p cause onset
  have hunit := s.openGate_unit m p cause onset
  generalize s.openGate m p cause onset = v at hgate hspare hunit ⊢
  obtain ⟨⟨us, since, hpass⟩, htold, hkept⟩ := v.forcedHandovers_passesFrom m
  generalize v.forcedHandovers m = w at hpass htold hkept ⊢
  have k : Keeps [.regs, .masts, .log, .field, .upd, .mem] w (((w.crossbar p none).joinAhead p).upAbort 2) :=
    State.upAbort_keeps _ rfl (State.joinAhead_keeps _ rfl (State.crossbar_keeps _ _ rfl (.refl _ w)))
  have hlane : (((w.crossbar p none).joinAhead p).upAbort 2).lane = w.lane := k.frame .lane (by decide)
  have hahead (x : State) : Spares [] x (x.joinAhead p) :=
    .of_log ((State.joinAhead_keeps (l := [.regs]) _ rfl (.refl _ x)).frame .log (by decide))
  refine ⟨by rw [hlane, hpass, hgate], by rw [hlane, hpass, hgate, hactive], fun e he => ?_, fun u hu => ?_⟩
  · exact (((w.crossbar_spares p).trans (hahead _)).trans (State.upAbort_spares _ 2)).2 e (htold e (hspare.2 e he))
  · rw [State.unit_of_lane hlane, (hkept u (by rw [hunit]; exact hu)).2, hunit]
    rfl

end

theorem LanePart.posOf_of_inOrder {l : LanePart} {m : Mast} (h : l.inOrder.contains m = true) : ∃ p, l.posOf m = some p := by
  have hm : m ∈ [l.posA, l.posB, l.posC] := List.mem_of_mem_filter (List.contains_iff_mem.1 h)
  simp only [List.mem_cons, List.not_mem_nil, or_false] at hm
  unfold LanePart.posOf
  split_ifs
  · exact ⟨_, rfl⟩
  · exact ⟨_, rfl⟩
  · exact ⟨_, rfl⟩
  · simp_all [eq_comm]

theorem State.applyLoss_triplex {s : State} {m : Mast} (cause onset : Nat) (hv : s.votes m = true) (hm : s.ctl.mode = .run)
    (hl : s.lane.lane = .triplex) : s.applyLoss m cause onset = s.loseTriplex m cause onset := by
  have hmode : s.inMode safeFrom = true := by simp [State.inMode, hm, safeFrom]
  simp [State.applyLoss, hv, hmode, hl]

end Sys2Proof.Machine

/-!
# Transmit units

Frames that join and leave the queues of the transmit units (R115, R116, R303, R312). `State.takenUnit` is a unit after a frame has
left its queue, `State.sentUnit` one whose frame goes out whole; a frame that is judged costs a mast its vote by the rules of a loss
in TRIPLEX.
-/

namespace Sys2Proof.Machine
open Sys2Proof.Safety

/-! ### Judged digests -/

section
variable {s : State} {u : Nat} {x : UnitFrame} {owner o p : Mast} {d e : Nat} {same : Nat → Bool} {l : List (Mast × Nat)}

/-- A deposit of another mast than the owner is a voting mast's. -/
theorem State.mem_depositsOf {ds : Per (Option Nat)} (h : (o, d) ∈ s.depositsOf owner ds) :
    s.votes o = true ∧ o ≠ owner ∧ ds.get o = some d := by
  obtain ⟨v, hv, hd⟩ := List.mem_filterMap.1 h
  obtain ⟨hvoter, hne⟩ := List.mem_filter.1 hv
  obtain ⟨n, hn, hpair⟩ := Option.map_eq_some_iff.1 hd
  obtain ⟨rfl, rfl⟩ := Prod.mk.inj hpair
  exact ⟨(List.mem_filter.1 hvoter).2, bne_iff_ne.1 hne, hn⟩

theorem State.judgeDigests_of_agreed (h : ∀ x ∈ l, same x.2 = true) : s.judgeDigests u owner same l = s := by
  unfold State.judgeDigests
  dsimp only
  split
  next x y => rw [h x (by simp), h y (by simp)]; rfl
  next => rfl

theorem State.judgeDigests_of_one : s.judgeDigests u owner same [(o, d)] = s := rfl

theorem State.judgeDigests_of_second (hd : same d = true) (he : same e = false) :
    s.judgeDigests u owner same [(o, d), (p, e)] = s.applyLoss p 6 (s.onsetOf p s.moduleTime) := by
  simp only [State.judgeDigests, hd, he]
  rfl

theorem State.judgeDigests_of_neither (hd : same d = false) (he : same e = false) (ho : s.votes owner = true) :
    s.judgeDigests u owner same [(o, d), (p, e)] =
      (s.raise evOwnerDeposed u owner.code).applyLoss owner 6 (s.onsetOf owner s.moduleTime) := by
  simp only [State.judgeDigests, hd, he, ho]
  rfl

end

/-! ### Units whose frame has left -/

section
variable (s : State) (u : Nat) (x : UnitFrame) (passed : Option Nat) (discarded : Bool)

/-- A unit from whose queue a frame has been taken. -/
def State.takenUnit : TxUnit :=
  let v := s.unit u
  { v with
    queue := v.queue.filter fun y => !(y.is x.frame.seq x.frame.port x.frame.cls)
    gone := s.keepGone (v.gone ++ [{ seq := x.frame.seq, port := x.frame.port, cls := x.frame.cls, owner := v.owner, passed := passed
                                     discarded := discarded, deposits := x.deposits }]) }

theorem State.dropFrame_eq : s.dropFrame u x passed discarded = s.setUnit u (s.takenUnit u x passed discarded) := rfl

/-- A unit whose frame goes out whole. -/
def State.sentUnit (digest : Nat) : TxUnit :=
  let v := s.takenUnit u x (some digest) false
  { v with
    sentGood := v.sentGood + 1
    wire := (v.wire.filter fun w => decide (s.now < w.upTo)) ++ [{ frame := x, upTo := s.frameEnd u x.frame }] }

/-- A unit whose frame has been cut with a bad FCS. -/
def TxUnit.cutBad (y : TxUnit) : TxUnit := { y with sentBad := y.sentBad + 1 }

variable {s u x}

/-- What a lane reads in which one unit was replaced. -/
theorem State.unit_of_setUnit {t : State} {y : TxUnit} (h : t.lane = (s.setUnit u y).lane) (hu : u < s.lane.units.length) :
    t.unit u = y ∧ (∀ v, v ≠ u → t.unit v = s.unit v) ∧ t.lane.active = s.lane.active := by
  refine ⟨?_, fun v hv => ?_, by rw [h]; rfl⟩
  · rw [State.unit_of_lane h, State.setUnit_unit_same hu]
  · rw [State.unit_of_lane h, State.setUnit_unit_other hv]

theorem State.sendFrame_of_bus {digest : Nat} (hu : 2 ≤ u) (hl : u < s.lane.units.length) :
    s.sendFrame u x digest = s.setUnit u (s.sentUnit u x digest) := by
  have hbus : ¬ u < 2 := by omega
  simp only [State.sendFrame, State.dropFrame_eq, State.setUnit_unit_same hl, State.setUnit_setUnit, if_neg hbus]
  split <;> rfl

/-- At a network port the frame that leaves is counted, and its LED and its timestamp are the rest. -/
theorem State.sendFrame_of_port {digest : Nat} (hu : u < 2) (hl : u < s.lane.units.length) :
    Keeps [.time, .panel] ((s.setUnit u (s.sentUnit u x digest)).wrapF .agreed (npF fNpTxokCount x.frame.port) 1)
      (s.sendFrame u x digest) := by
  simp only [State.sendFrame, State.dropFrame_eq, State.setUnit_unit_same hl, State.setUnit_setUnit, if_pos hu]
  have hled := State.darken_keeps (l := [.time, .panel]) x.frame.port rfl
    (.refl _ ((s.setUnit u (s.sentUnit u x digest)).wrapF .agreed (npF fNpTxokCount x.frame.port) 1))
  split
  · exact State.captureStamp_keeps _ _ _ rfl hled
  · exact hled

theorem State.lt_frameEnd {f : TxFrame} (hu : 2 ≤ u) : s.now < s.frameEnd u f := by
  have hbus : ¬ u < 2 := by omega
  simp only [State.frameEnd, if_neg hbus]
  split <;> omega

end

/-! ### The frame that starts next -/

section
variable {s : State} {t u port : Nat} {x : UnitFrame}

theorem State.otherDeposits_ne_nil (h : s.nextFrame u port = some x) : s.otherDeposits u x ≠ [] := by
  unfold State.nextFrame at h
  split_ifs at h
  · have he : s.eligible u x = true := List.find?_some h
    simp only [State.eligible, Bool.and_eq_true] at he
    exact bne_iff_ne.1 he.1.1.1
  · exact bne_iff_ne.1 (Option.filter_eq_some_iff.1 h).2

/-- On a medium without gaps time does not take the turn from the frame that starts next. -/
theorem State.nextFrame_advance (hu : 2 ≤ u) (h : s.nextFrame u port = some x) : (s.advance t).nextFrame u port = some x := by
  have hbus : ¬ u < 2 := by omega
  unfold State.nextFrame at h ⊢
  have hfree : (s.advance t).wireBusy u port = false := by
    have hs : s.wireBusy u port = false := by
      by_contra hb
      simp [hb] at h
    simp only [State.wireBusy, if_neg hbus, List.any_eq_false, Bool.and_eq_true, decide_eq_true_eq, State.advance_now] at hs ⊢
    intro w hw hbusy
    exact hs w hw ⟨hbusy.1, by omega⟩
  simp only [hfree, if_neg hbus, Bool.false_eq_true, if_false] at h ⊢
  split_ifs at h
  exact h

end

/-! ### Frames that pass -/

section
variable {s : State} {u : Nat} {x : UnitFrame} {f : TxFrame} {o p : Mast} {d e : Nat}

/-- A unit whose frame has been cut, with the cut frame counted (R116). -/
def State.countCut (s : State) (u : Nat) (y : TxUnit) : State :=
  (s.setUnit u y.cutBad).incF .agreed (fLmTxabortMismatch.plus (4 * u)) 1

theorem State.passFrame_of_confirmed (hf : x.copies.get (s.unit u).owner = some f) (hne : s.otherDeposits u x ≠ [])
    (h : ∀ d ∈ s.otherDeposits u x, d.2 = frameDigest f.bytes) :
    s.passFrame u x false = s.sendFrame u x (frameDigest f.bytes) := by
  obtain ⟨y, hy⟩ := List.exists_mem_of_ne_nil _ hne
  have hany : (s.otherDeposits u x).any (fun d => !false && d.2 == frameDigest f.bytes) = true :=
    List.any_eq_true.2 ⟨y, hy, by simp [h y hy]⟩
  simp only [State.passFrame, hf, hany, if_true]
  exact State.judgeDigests_of_agreed fun y hy => by simp [h y hy]

theorem State.passFrame_of_second (hf : x.copies.get (s.unit u).owner = some f) (hl : s.otherDeposits u x = [(o, d), (p, e)])
    (hd : d = frameDigest f.bytes) (he : e ≠ frameDigest f.bytes) :
    ∃ onset, s.passFrame u x false = (s.sendFrame u x (frameDigest f.bytes)).applyLoss p 6 onset := by
  simp only [State.passFrame, hf, hl, List.any_cons, hd, beq_self_eq_true, Bool.not_false, Bool.and_self, Bool.true_or, if_true]
  exact ⟨_, State.judgeDigests_of_second (by simp) (by simp [he])⟩

theorem State.passFrame_of_one {damaged : Bool} (hf : x.copies.get (s.unit u).owner = some f) (hl : s.otherDeposits u x = [(o, d)])
    (h : damaged = true ∨ d ≠ frameDigest f.bytes) (hu : u < s.lane.units.length) :
    ∃ passed, s.passFrame u x damaged = s.countCut u (s.takenUnit u x passed false) := by
  have hdiffer : (!damaged && d == frameDigest f.bytes) = false := by
    obtain rfl | hne := h
    · rfl
    · simp [hne]
  refine ⟨if damaged then none else some (frameDigest f.bytes), ?_⟩
  simp only [State.passFrame, hf, hl, List.any_cons, List.any_nil, hdiffer, Bool.or_self, Bool.false_eq_true, if_false,
    List.length_singleton, OfNat.one_ne_ofNat, State.judgeDigests_of_one, State.dropFrame_eq, State.setUnit_unit_same hu,
    State.setUnit_setUnit]
  rfl

theorem State.passFrame_of_neither (hf : x.copies.get (s.unit u).owner = some f) (hl : s.otherDeposits u x = [(o, d), (p, e)])
    (hd : d ≠ frameDigest f.bytes) (he : e ≠ frameDigest f.bytes) (ho : s.votes (s.unit u).owner = true) :
    ∃ onset, s.passFrame u x false =
      ((s.countCut u (s.unit u)).raise evOwnerDeposed u (s.unit u).owner.code).applyLoss (s.unit u).owner 6 onset := by
  have hd' : (!false && d == frameDigest f.bytes) = false := by simp [hd]
  have he' : (!false && e == frameDigest f.bytes) = false := by simp [he]
  simp only [State.passFrame, hf, hl, List.any_cons, List.any_nil, hd', he', Bool.or_self, Bool.false_eq_true, if_false,
    List.length_cons, List.length_nil]
  exact ⟨_, State.judgeDigests_of_neither hd' he' ho⟩

/-- A voting mast at a lane position that is lost in TRIPLEX (R102, R112). -/
theorem State.applyLoss_leaves {s : State} {m : Mast} (cause onset : Nat) (hv : s.votes m = true) (hm : s.ctl.mode = .run)
    (hl : s.lane.lane = .triplex) (hp : s.lane.inOrder.contains m = true) :
    (s.applyLoss m cause onset).lane.lane = .duplex ∧
    (∀ o, (s.applyLoss m cause onset).votes o = (s.votes o && o != m)) ∧
    (∀ e ∈ s.log.due, e ∈ (s.applyLoss m cause onset).log.due) ∧
    ∀ u, (s.unit u).owner ≠ m → ((s.applyLoss m cause onset).unit u).sentGood = (s.unit u).sentGood := by
  obtain ⟨pos, hpos⟩ := LanePart.posOf_of_inOrder hp
  obtain ⟨hlane, hactive, htold, hsent⟩ := State.loseTriplex_leaves s m cause onset hpos
  rw [State.applyLoss_triplex cause onset hv hm hl]
  refine ⟨hlane, fun o => ?_, htold, hsent⟩
  rw [State.votes, hactive]
  by_cases ho : o = m
  · subst ho
    simp
  · rw [per_get_set_other _ _ _ _ ho, bne_iff_ne.2 ho, Bool.and_true]
    rfl

end

/-! ### Commands -/

section
variable {s : State} {t u port : Nat} {x : UnitFrame} {f : TxFrame} {m : Mast}

theorem exec_frameLaunch {damaged : Bool} (hu : u < 8) (hmute : s.lane.mute = false) (ho : s.owned u = true)
    (hmiss : 2 ≤ u ∨ (s.advance t).missedLaunch u port = none) (hn : (s.advance t).nextFrame u port = some x) :
    exec (.frameLaunch t u port damaged) s = .next ((s.advance t).passFrame u x damaged) := by
  have howned : (s.advance t).owned u = true := ho
  have hunits : ¬ 8 ≤ u := by omega
  have hnone : (if u < 2 then (s.advance t).missedLaunch u port else none) = none := by
    obtain h | h := hmiss
    · exact if_neg (by omega)
    · rw [h, ite_self]
  simp only [exec, execFrameLaunch, State.advance_lane, hmute, howned, hunits, hnone, hn, decide_false, Bool.not_true, Bool.or_self,
    Bool.false_eq_true, if_false]
  rfl

theorem exec_frameLaunch_of_missed {kind : Nat} {damaged : Bool} (hu : u < 2) (hmute : s.lane.mute = false) (ho : s.owned u = true)
    (hmiss : (s.advance t).missedLaunch u port = some (x, kind)) :
    exec (.frameLaunch t u port damaged) s = .next ((s.advance t).lateFrame u x kind) := by
  have howned : (s.advance t).owned u = true := ho
  have hunits : ¬ 8 ≤ u := by omega
  simp only [exec, execFrameLaunch, State.advance_lane, hmute, howned, hunits, hmiss, if_pos hu, decide_false, Bool.not_true,
    Bool.or_self, Bool.false_eq_true, if_false]
  rfl

theorem exec_frameDigestDeposit_of_bus (hu : 2 ≤ u ∧ u < 8) (hv : s.votes m = true) (ha : (s.mast m).alive = true)
    (hmute : s.lane.mute = false) (hf : f.item.tagOk = true) :
    exec (.frameDigestDeposit t m u f) s = .next ((s.advance t).depositFrame m u f) := by
  have hunits : ¬ 8 ≤ u := by omega
  have hbus : ¬ u < 2 := by omega
  simp only [exec, execFrameDigestDeposit, State.advance_votes, State.advance_mast, State.advance_lane, hv, ha, hmute, hf, hunits, hbus,
    decide_false, Bool.not_true, Bool.or_self, Bool.false_and, Bool.false_eq_true, if_false]
  rfl

theorem exec_frameDigestDeposit_of_port (hv : s.votes m = true) (ha : (s.mast m).alive = true) (hmute : s.lane.mute = false)
    (hf : f.item.tagOk = true) (hp : f.port ≤ 4) (he : s.net.portEnabled f.port = true) :
    exec (.frameDigestDeposit t m (planeOf f.port - 1) f) s = .next ((s.advance t).netDeposit m f) := by
  have hplane : planeOf f.port - 1 < 2 := by
    unfold planeOf
    omega
  have hunits : ¬ 8 ≤ planeOf f.port - 1 := by omega
  have hback : planeOf f.port - 1 + 1 = planeOf f.port := by
    unfold planeOf
    omega
  simp only [exec, execFrameDigestDeposit, State.advance_votes, State.advance_mast, State.advance_lane, State.advance_net, hv, ha, hmute,
    hf, he, hunits, hplane, hback, decide_false, Bool.not_true, Bool.or_self, Bool.and_true, beq_self_eq_true, Bool.and_false,
    Bool.false_eq_true, if_false, if_true]
  rfl

theorem exec_frameDigestDeposit_of_failed (hu : 2 ≤ u ∧ u < 8) (hv : s.votes m = true) (ha : (s.mast m).alive = true)
    (hmute : s.lane.mute = false) (hf : f.item.tagOk = false) (ho : (s.unit u).owner ≠ m) :
    exec (.frameDigestDeposit t m u f) s = .next ((s.advance t).exitFail m f.item) := by
  have hunits : ¬ 8 ≤ u := by omega
  have hbus : ¬ u < 2 := by omega
  have hlane : ((s.advance t).exitFail m f.item).lane = s.lane :=
    (State.exitFail_keeps (l := [.log, .intake]) _ _ rfl (.refl _ (s.advance t))).frame .lane (by decide)
  have howner : (((s.advance t).exitFail m f.item).unit u).owner ≠ m := by rwa [State.unit_of_lane hlane]
  simp only [exec, execFrameDigestDeposit, State.advance_votes, State.advance_mast, State.advance_lane, hv, ha, hmute, hf, hunits, hbus,
    decide_false, Bool.not_true, Bool.or_self, Bool.false_and, Bool.false_eq_true, if_false, State.frameUnits, Bool.not_false, if_true,
    List.foldl_cons, List.foldl_nil, State.yieldUnit, ne_eq, howner, not_false_eq_true]
  rfl

end

/-! ### Frames that no other mast confirms -/

section
variable {s : State} {t u seq port cls : Nat} {x : UnitFrame}

/-- One frame more has been discarded unconfirmed (R115): TX_UNCONFIRMED carries their number, where it is not limited. -/
def State.noteUnconfirmed (s : State) (u : Nat) : State :=
  let n := (s.unit u).unconfirmed + 1
  let v := s.setUnit u { s.unit u with unconfirmed := n }
  if v.limited v.lane.active.mask evTxUnconfirmed u then v
  else (v.raiseLimited v.lane.active.mask u evTxUnconfirmed u n).setUnit u { v.unit u with unconfirmed := 0 }

theorem State.noteUnconfirmed_keeps (s : State) (u : Nat) : Keeps [.lane, .log] s (s.noteUnconfirmed u) :=
  .ite (State.setUnit_keeps _ _ rfl (.refl _ s)) <|
    State.setUnit_keeps _ _ rfl <| State.raiseLimited_keeps _ _ _ _ _ rfl <| State.setUnit_keeps _ _ rfl (.refl _ s)

theorem State.noteUnconfirmed_lane (hl : u < s.lane.units.length) :
    ∃ n, (s.noteUnconfirmed u).lane = (s.setUnit u { s.unit u with unconfirmed := n }).lane := by
  unfold State.noteUnconfirmed
  simp only [State.setUnit_unit_same hl]
  split
  · exact ⟨_, rfl⟩
  · exact ⟨0, by simp only [State.setUnit, State.raiseLimited_lane, List.set_set]⟩

theorem exec_frameUnconfirmedTimeout (hu : u < 8) (hx : (s.unit u).queue.find? (fun y => y.is seq port cls) = some x)
    (hown : (x.copies.get (s.unit u).owner).isSome = true) (hn : s.otherDeposits u x = [])
    (hdue : x.formed + 100000 ≤ t ∨ (x.frame.launch.any fun l => decide (l ≤ (s.advance t).launchClock u)) = true) :
    exec (.frameUnconfirmedTimeout t u seq port cls) s = .next
      ((((s.advance t).setUnit u (s.takenUnit u x none true)).incF .agreed (fLmTxabortUnconfirmed.plus (4 * u)) 1).noteUnconfirmed
        u) := by
  have hunits : ¬ 8 ≤ u := by omega
  have hcopy : (s.advance t).ownCopy u x = true := hown
  have hothers : (s.advance t).otherDeposits u x = [] := hn
  have hfind : ((s.advance t).unit u).queue.find? (fun y => y.is seq port cls) = some x := hx
  have hlate : ((match x.frame.launch with | some l => decide (l ≤ (s.advance t).launchClock u) | none => false) ||
      decide (x.formed + 100 * us ≤ (s.advance t).now)) = true := by
    rw [Bool.or_eq_true, decide_eq_true_iff, State.advance_now]
    obtain h | h := hdue
    · exact .inr (show x.formed + 100000 ≤ _ by omega)
    · left
      cases hlaunch : x.frame.launch with
      | none => rw [hlaunch] at h; cases h
      | some l => rw [hlaunch] at h; exact h
  simp only [exec, execFrameUnconfirmedTimeout, hfind]
  refine (if_neg fun h => ?_).trans (apply_ite ok _ _ _).symm
  simp only [hunits, hcopy, hothers, decide_false, Bool.not_true, bne_self_eq_false, Bool.or_self, Bool.false_or,
    Bool.not_eq_true'] at h
  exact Bool.noConfusion (hlate.symm.trans h)

end

end Sys2Proof.Machine

/-!
# What the transmit units do

The frames deposited, launched and timed out, case by case (R115, R116, R148, R303, R310 to R312).
-/

namespace Sys2Proof.Machine
open Sys2Proof.Safety

/-! ### Deposits -/

section
variable {s : State} {t u : Nat} {m : Mast} {f : TxFrame} {g : SentFrame}

theorem State.depositFrame_of_new (h : ∀ g ∈ (s.unit u).gone, g.awaits m f = false) :
    s.depositFrame m u f = s.setUnit u { s.unit u with queue := deposit m f s.now (s.unit u).queue } := by
  have hnone : (s.unit u).gone.find? (fun g => g.awaits m f) = none :=
    List.find?_eq_none.2 fun g hg => by rw [h g hg]; exact Bool.false_ne_true
  simp only [State.depositFrame, hnone]

/-- A late deposit that agrees with the frame that was passed, or comes for a discarded one, is only noted (R115). -/
theorem State.depositFrame_of_late (hg : (s.unit u).gone = [g]) (ha : g.awaits m f = true)
    (h : g.discarded = true ∨ g.passed = some (frameDigest f.bytes) ∧
      ∀ o ∈ s.voters, o ≠ m → o ≠ g.owner → g.deposits.get o = none) :
    ∃ gone, s.depositFrame m u f = s.setUnit u { s.unit u with gone := gone } := by
  have hfind : (s.unit u).gone.find? (fun g => g.awaits m f) = some g := by rw [hg, List.find?_singleton, if_pos ha]
  simp only [State.depositFrame, hfind, State.lateDeposit]
  obtain hd | ⟨hp, hothers⟩ := h
  · exact ⟨_, if_pos hd⟩
  · refine ⟨_, ite_eq_left_iff.2 fun _ => State.judgeDigests_of_agreed fun ⟨o, d⟩ hd => ?_⟩
    obtain ⟨hv, hne, hget⟩ := State.mem_depositsOf hd
    have hom : o = m := by
      by_contra hom
      rw [per_get_set_other _ _ _ _ hom] at hget
      rw [hothers o (List.mem_filter.2 ⟨by cases o <;> decide, hv⟩) hom hne] at hget
      cases hget
    subst hom
    rw [per_get_set_same] at hget
    rw [hp, hget]
    exact beq_self_eq_true _

theorem frameDigestDeposit_joins (hu : 2 ≤ u ∧ u < 8) (hv : s.votes m = true)
    (ha : (s.mast m).alive = true) (hmute : s.lane.mute = false) (hf : f.item.tagOk = true)
    (hg : ∀ g ∈ (s.unit u).gone, g.awaits m f = false) :
    ∃ s', exec (.frameDigestDeposit t m u f) s = .next s' ∧
      s'.lane =
        { s.lane with units := s.lane.units.set u { s.unit u with queue := deposit m f (max s.now t) (s.unit u).queue } } ∧
      sameBut [.lane] (s.advance t) s' := by
  refine ⟨_, exec_frameDigestDeposit_of_bus hu hv ha hmute hf, ?_⟩
  rw [State.depositFrame_of_new (s := s.advance t) hg]
  exact ⟨rfl, (State.setUnit_keeps (l := [.lane]) _ _ rfl (.refl _ _)).frame⟩

theorem frameDigestDeposit_late (hu : 2 ≤ u ∧ u < 8) (hl : s.lane.units.length = 8) (hv : s.votes m = true)
    (ha : (s.mast m).alive = true) (hmute : s.lane.mute = false) (hf : f.item.tagOk = true)
    (hg : (s.unit u).gone = [g]) (hw : g.awaits m f = true)
    (h : g.discarded = true ∨ g.passed = some (frameDigest f.bytes) ∧
      ∀ o ∈ s.voters, o ≠ m → o ≠ g.owner → g.deposits.get o = none) :
    ∃ s', exec (.frameDigestDeposit t m u f) s = .next s' ∧ (s'.unit u).queue = (s.unit u).queue ∧
      (∀ v, v ≠ u → s'.unit v = s.unit v) ∧ s'.lane.active = s.lane.active ∧ sameBut [.lane] (s.advance t) s' := by
  obtain ⟨gone, hd⟩ := State.depositFrame_of_late (s := s.advance t) hg hw h
  refine ⟨_, exec_frameDigestDeposit_of_bus hu hv ha hmute hf, ?_⟩
  rw [hd]
  obtain ⟨hunit, hother, hactive⟩ := State.unit_of_setUnit (s := s.advance t) (u := u) rfl (hl.symm ▸ hu.2)
  exact ⟨by rw [hunit]; rfl, hother, hactive, (State.setUnit_keeps (l := [.lane]) _ _ rfl (.refl _ _)).frame⟩

theorem frameDigestDeposit_fails (hu : 2 ≤ u ∧ u < 8) (hv : s.votes m = true) (ha : (s.mast m).alive = true)
    (hmute : s.lane.mute = false) (hf : f.item.tagOk = false) (ho : (s.unit u).owner ≠ m) (he : s.intake.exitFails = []) :
    ∃ s', exec (.frameDigestDeposit t m u f) s = .next s' ∧ raised s' (2 ^ m.code) evTagExitFail f.item.source m.code ∧
      s'.lane = s.lane ∧ sameBut [.log, .intake] (s.advance t) s' := by
  have k : Keeps [.log, .intake] (s.advance t) ((s.advance t).exitFail m f.item) := State.exitFail_keeps _ _ rfl (.refl _ _)
  refine ⟨_, exec_frameDigestDeposit_of_failed hu hv ha hmute hf ho, ?_, k.frame .lane (by decide), k.frame⟩
  have hnew : (s.advance t).intake.exitFails.contains (m, f.item.source, f.item.seq) = false := by
    rw [State.advance_intake, he]
    rfl
  simp only [State.exitFail, hnew, Bool.false_eq_true, if_false]
  exact raised_raiseM (s.advance t) m evTagExitFail f.item.source m.code

/-- The frame of one plane of an interface in PRP (R303), of plane `k + 1`. -/
def State.prpFrame (s : State) (m : Mast) (f : TxFrame) (k : Nat) : TxFrame :=
  { f with port := ifaceOf f.port + 1 + 2 * k
           bytes := withTrailer (padFrame f.item.value) (s.prpNext m (ifaceOf f.port)) (k + 1) }

theorem ifaceOf_lt (p : Nat) : ifaceOf p < 2 := Nat.mod_lt _ (by decide)

/-- Both ports of an interface are of that interface, and of plane 1 and 2 (R301). -/
theorem ports_of_iface {i k : Nat} (hi : i < 2) : ifaceOf (i + 1 + 2 * k) = i ∧ planeOf (i + 1 + 2 * k) = k + 1 := by
  constructor
  · unfold ifaceOf
    omega
  · unfold planeOf
    omega

theorem State.netFrames_of_prp (hm : (s.net.iface f.port).mode = 1) (hp : isPtp f.item.value = false) (ho : f.portOnly = false) :
    s.netFrames m f = [s.prpFrame m f 0, s.prpFrame m f 1] := by
  obtain ⟨hi0, hp0⟩ := ports_of_iface (k := 0) (ifaceOf_lt f.port)
  obtain ⟨hi1, hp1⟩ := ports_of_iface (k := 1) (ifaceOf_lt f.port)
  have hports : s.net.sendPorts f.port f.portOnly f.item.value = [ifaceOf f.port + 1 + 2 * 0, ifaceOf f.port + 1 + 2 * 1] := by
    simp [NetPart.sendPorts, hm, hp, ho]
  simp only [State.netFrames, hports, List.map_cons, List.map_nil, hi0, hp0, hi1, hp1]
  rfl

theorem State.prpCount_prpNext {i : Nat} : (s.prpCount m i).prpNext m i = (s.prpNext m i + 1) % 65536 := by
  simp only [State.prpCount, State.prpNext, per_get_set_same]
  split <;> rfl

/-- What a lane reads in which the units of both planes were replaced. -/
theorem State.unit_of_setPlanes {v : State} {x y : TxUnit} (h : v.lane = ((s.setUnit 0 x).setUnit 1 y).lane)
    (hl : s.lane.units.length = 8) : v.unit 0 = x ∧ v.unit 1 = y ∧ ∀ n, 2 ≤ n → v.unit n = s.unit n := by
  have hl0 : (s.setUnit 0 x).lane.units.length = 8 := State.setUnit_length.trans hl
  obtain ⟨hunit, hother, -⟩ := State.unit_of_setUnit h (by omega)
  refine ⟨?_, hunit, fun n hn => ?_⟩
  · rw [hother 0 (by decide), State.setUnit_unit_same (by omega)]
  · rw [hother n (by omega), State.setUnit_unit_other (by omega)]

/-- On an interface in PRP the frame joins the queues of both planes (R303). -/
theorem State.netDeposit_of_prp (hm : (s.net.iface f.port).mode = 1) (hp : isPtp f.item.value = false) (ho : f.portOnly = false)
    (h0 : (s.unit 0).gone = []) (h1 : (s.unit 1).gone = []) :
    s.netDeposit m f =
      ((s.setUnit 0 { s.unit 0 with queue := deposit m (s.prpFrame m f 0) s.now (s.unit 0).queue }).setUnit 1
        { s.unit 1 with queue := deposit m (s.prpFrame m f 1) s.now (s.unit 1).queue }).prpCount m (ifaceOf f.port) := by
  obtain ⟨-, hp0⟩ := ports_of_iface (k := 0) (ifaceOf_lt f.port)
  obtain ⟨-, hp1⟩ := ports_of_iface (k := 1) (ifaceOf_lt f.port)
  have hu0 : planeOf (s.prpFrame m f 0).port - 1 = 0 := by rw [State.prpFrame, hp0]
  have hu1 : planeOf (s.prpFrame m f 1).port - 1 = 1 := by rw [State.prpFrame, hp1]
  have hd0 := State.depositFrame_of_new (s := s) (u := 0) (m := m) (f := s.prpFrame m f 0) (by simp [h0])
  have hother (y : TxUnit) : (s.setUnit 0 y).unit 1 = s.unit 1 := State.setUnit_unit_other (by decide)
  have hd1 (y : TxUnit) := State.depositFrame_of_new (s := s.setUnit 0 y) (u := 1) (m := m) (f := s.prpFrame m f 1)
    (by simp [hother, h1])
  simp only [State.netDeposit, State.netFrames_of_prp hm hp ho, List.foldl_cons, List.foldl_nil, hu0, hu1, hd0, hd1, hother]
  rfl

theorem frameDigestDeposit_prp (hl : s.lane.units.length = 8) (hv : s.votes m = true) (ha : (s.mast m).alive = true)
    (hmute : s.lane.mute = false) (hf : f.item.tagOk = true)
    (hport : 1 ≤ f.port ∧ f.port ≤ 4 ∧ s.net.portEnabled f.port = true ∧ f.portOnly = false)
    (hprp : (s.net.iface f.port).mode = 1 ∧ isPtp f.item.value = false) (hg : (s.unit 0).gone = [] ∧ (s.unit 1).gone = []) :
    ∃ s', exec (.frameDigestDeposit t m (planeOf f.port - 1) f) s = .next s' ∧
      (∀ k < 2, (s'.unit k).queue = deposit m (s.prpFrame m f k) (max s.now t) (s.unit k).queue) ∧
      s'.prpNext m (ifaceOf f.port) = (s.prpNext m (ifaceOf f.port) + 1) % 65536 ∧ (∀ v, 2 ≤ v → s'.unit v = s.unit v) ∧
      (∀ o, o ≠ m → s'.net.prpOut.get o = s.net.prpOut.get o) ∧ sameBut [.lane, .net] (s.advance t) s' := by
  obtain ⟨-, hp4, henabled, honly⟩ := hport
  refine ⟨_, exec_frameDigestDeposit_of_port hv ha hmute hf hp4 henabled, ?_⟩
  rw [State.netDeposit_of_prp (s := s.advance t) hprp.1 hprp.2 honly hg.1 hg.2]
  have k (w : State) (x y : TxUnit) : Keeps [.lane, .net] w (((w.setUnit 0 x).setUnit 1 y).prpCount m (ifaceOf f.port)) :=
    State.prpCount_keeps _ _ rfl (State.setUnit_keeps _ _ rfl (State.setUnit_keeps _ _ rfl (.refl _ w)))
  obtain ⟨hunit0, hunit1, hother⟩ := State.unit_of_setPlanes (s := s.advance t) rfl hl
  refine ⟨fun k hk => ?_, State.prpCount_prpNext, hother, fun o ho => per_get_set_other _ _ _ _ ho, (k _ _ _).frame⟩
  interval_cases k
  · exact congrArg TxUnit.queue hunit0
  · exact congrArg TxUnit.queue hunit1

end

end Sys2Proof.Machine

/-!
# Frames launched and discarded

What a launch, a missed launch time and the time without a second deposit leave (R115, R116, R310 to R312).
-/

namespace Sys2Proof.Machine
open Sys2Proof.Safety

section
variable {s : State} {t u port : Nat} {x : UnitFrame} {f : TxFrame} {o p : Mast} {d e : Nat}

/-! ### Counts of one unit or port -/

theorem lmTxabort_addr_lt (hu : u < 8) : rLmTxabort + 4 * u < 2 ^ 32 := by
  unfold rLmTxabort
  omega

theorem npAddr_lt (hp : x.frame.port ≤ 4) {g : Fld} (hg : g.addr ≤ 0xE0050020) : (npF g x.frame.port).addr < 2 ^ 32 := by
  show g.addr + 0x1000 * (x.frame.port - 1) < 2 ^ 32
  omega

/-! ### Launches -/

/-- The owner of a unit whose frames pass votes. -/
theorem State.votes_of_owned (h : s.owned u = true) : s.votes (s.unit u).owner = true := by
  simp only [State.owned, Bool.and_eq_true] at h
  exact h.1.1

theorem State.mem_otherDeposits (h : (o, d) ∈ s.otherDeposits u x) : s.votes o = true ∧ o ≠ (s.unit u).owner :=
  let ⟨hv, hne, _⟩ := State.mem_depositsOf h
  ⟨hv, hne⟩

theorem frameLaunch_bus (hu : 2 ≤ u ∧ u < 8) (hl : s.lane.units.length = 8) (hmute : s.lane.mute = false) (ho : s.owned u = true)
    (hn : s.nextFrame u port = some x) (hf : x.copies.get (s.unit u).owner = some f)
    (hd : ∀ d ∈ s.otherDeposits u x, d.2 = frameDigest f.bytes) :
    ∃ s', exec (.frameLaunch t u port false) s = .next s' ∧ (s'.unit u).sentGood = (s.unit u).sentGood + 1 ∧
      (s'.unit u).sentBad = (s.unit u).sentBad ∧ (∃ w ∈ (s'.unit u).wire, w.frame = x ∧ max s.now t < w.upTo) ∧
      (s'.unit u).owner = (s.unit u).owner ∧
      (s'.unit u).queue = (s.unit u).queue.filter (fun y => !(y.is x.frame.seq x.frame.port x.frame.cls)) ∧
      (∀ v, v ≠ u → s'.unit v = s.unit v) ∧ s'.lane.active = s.lane.active ∧ sameBut [.lane] (s.advance t) s' := by
  have hin : u < (s.advance t).lane.units.length := hl.symm ▸ hu.2
  have hnext : (s.advance t).nextFrame u port = some x := State.nextFrame_advance hu.1 hn
  refine ⟨_, exec_frameLaunch hu.2 hmute ho (.inl hu.1) hnext, ?_⟩
  rw [State.passFrame_of_confirmed (s := s.advance t) hf (State.otherDeposits_ne_nil hnext) hd, State.sendFrame_of_bus hu.1 hin]
  obtain ⟨hunit, hother, hactive⟩ := State.unit_of_setUnit rfl hin
  rw [hunit]
  exact ⟨rfl, rfl, ⟨_, List.mem_append_right _ (List.mem_singleton_self _), rfl, State.lt_frameEnd (s := s.advance t) hu.1⟩, rfl, rfl,
    hother, hactive, (State.setUnit_keeps (l := [.lane]) _ _ rfl (.refl _ _)).frame⟩

theorem frameLaunch_port (hu : u < 2) (hp : 1 ≤ x.frame.port ∧ x.frame.port ≤ 4) (hl : s.lane.units.length = 8)
    (hmute : s.lane.mute = false) (ho : s.owned u = true) (hf : x.copies.get (s.unit u).owner = some f)
    (hmiss : (s.advance t).missedLaunch u port = none) (hn : (s.advance t).nextFrame u port = some x)
    (hd : ∀ d ∈ s.otherDeposits u x, d.2 = frameDigest f.bytes) :
    ∃ s', exec (.frameLaunch t u port false) s = .next s' ∧ (s'.unit u).sentGood = (s.unit u).sentGood + 1 ∧
      (∃ w ∈ (s'.unit u).wire, w.frame = x) ∧
      (s'.unit u).queue = (s.unit u).queue.filter (fun y => !(y.is x.frame.seq x.frame.port x.frame.cls)) ∧
      s'.getF .agreed (npF fNpTxokCount x.frame.port) = (s.getF .agreed (npF fNpTxokCount x.frame.port) + 1) % 4294967296 ∧
      (∀ v, v ≠ u → s'.unit v = s.unit v) ∧ s'.lane.active = s.lane.active ∧
      regsBut [(.agreed, (npF fNpTxokCount x.frame.port).addr)] s s' ∧ sameBut [.lane, .regs, .time, .panel] (s.advance t) s' := by
  have hin : u < (s.advance t).lane.units.length := by rw [State.advance_lane, hl]; omega
  refine ⟨_, exec_frameLaunch (by omega) hmute ho (.inr hmiss) hn, ?_⟩
  rw [State.passFrame_of_confirmed (s := s.advance t) hf (State.otherDeposits_ne_nil hn) hd]
  have k := State.sendFrame_of_port (s := s.advance t) (x := x) (digest := frameDigest f.bytes) hu hin
  have kset : Keeps [.lane, .regs] (s.advance t) (((s.advance t).setUnit u ((s.advance t).sentUnit u x (frameDigest f.bytes))).wrapF
      .agreed (npF fNpTxokCount x.frame.port) 1) := State.wrapF_keeps _ _ _ rfl (State.setUnit_keeps _ _ rfl (.refl _ _))
  have hregs := k.frame .regs (by decide)
  obtain ⟨hunit, hother, hactive⟩ := State.unit_of_setUnit (k.frame .lane (by decide)) hin
  rw [hunit]
  refine ⟨rfl, ⟨_, List.mem_append_right _ (List.mem_singleton_self _), rfl⟩, rfl, ?_, hother, hactive, ?_,
    sameBut_trans (sameBut_mono kset.frame (by decide)) (sameBut_mono k.frame (by decide))⟩
  · rw [State.getF_of_regs hregs, State.wrapF, State.getF_putF _ _ _ _ (show 31 < 32 by decide) (show 0 ≤ 31 by decide)]
    exact Nat.mod_mod _ _
  · refine regsBut_trans (regsBut_putF_self s .agreed (npF fNpTxokCount x.frame.port) _ rfl (npAddr_lt hp.2 (by decide)))
      (regsBut_of_regs hregs)

theorem frameLaunch_missed {kind : Nat} (hu : u < 2) (hp : 1 ≤ x.frame.port ∧ x.frame.port ≤ 4) (hl : s.lane.units.length = 8)
    (hmute : s.lane.mute = false) (ho : s.owned u = true) (hmiss : (s.advance t).missedLaunch u port = some (x, kind)) :
    ∃ s', exec (.frameLaunch t u port false) s = .next s' ∧ (s'.unit u).sentGood = (s.unit u).sentGood ∧
      (s'.unit u).queue = (s.unit u).queue.filter (fun y => !(y.is x.frame.seq x.frame.port x.frame.cls)) ∧
      s'.getF .agreed (npF (if kind = 1 then fNpTxlateLate else fNpTxlateGate) x.frame.port) =
        min 65535 (s.getF .agreed (npF (if kind = 1 then fNpTxlateLate else fNpTxlateGate) x.frame.port) + 1) ∧
      (∀ v, v ≠ u → s'.unit v = s.unit v) ∧ regsBut [(.agreed, (npF fNpTxlateLate x.frame.port).addr)] s s' ∧
      sameBut [.lane, .regs, .log] (s.advance t) s' := by
  have hin : u < (s.advance t).lane.units.length := by rw [State.advance_lane, hl]; omega
  refine ⟨_, exec_frameLaunch_of_missed hu hmute ho hmiss, ?_⟩
  generalize hg : (if kind = 1 then fNpTxlateLate else fNpTxlateGate) = g
  have haddr : g.addr = fNpTxlateLate.addr ∧ g.hi < 32 ∧ g.lo ≤ g.hi ∧ g.hi + 1 - g.lo = 16 := by
    rw [← hg]
    split <;> decide
  obtain ⟨ha, hh, hlo, hw⟩ := haddr
  have hlane : ((s.advance t).lateFrame u x kind).lane =
      ((s.advance t).setUnit u ((s.advance t).takenUnit u x none true)).lane := State.raiseLimited_lane _ _ _ _ _ _
  have hregs : ((s.advance t).lateFrame u x kind).regs = (s.incF .agreed (npF g x.frame.port) 1).regs := by
    rw [← hg]
    exact State.raiseLimited_regs _ _ _ _ _ _
  obtain ⟨hunit, hother, -⟩ := State.unit_of_setUnit hlane hin
  rw [hunit]
  refine ⟨rfl, rfl, ?_, hother, ?_, (State.lateFrame_keeps (l := [.lane, .regs, .log]) _ _ _ rfl (.refl _ _)).frame⟩
  · rw [State.getF_of_regs hregs]
    exact State.getF_incF_plus s .agreed _ hh hlo hw
  · have hsame : (npF g x.frame.port).addr = (npF fNpTxlateLate x.frame.port).addr := congrArg (· + 0x1000 * (x.frame.port - 1)) ha
    exact regsBut_trans (regsBut_putF_self s .agreed (npF g x.frame.port) _ hsame (npAddr_lt hp.2 (by decide))) (regsBut_of_regs hregs)

theorem frameLaunch_cut {damaged : Bool} (hu : 2 ≤ u ∧ u < 8) (hl : s.lane.units.length = 8) (hmute : s.lane.mute = false)
    (ho : s.owned u = true) (hn : s.nextFrame u port = some x) (hf : x.copies.get (s.unit u).owner = some f)
    (hothers : s.otherDeposits u x = [(o, d)]) (hd : damaged = true ∨ d ≠ frameDigest f.bytes) :
    ∃ s', exec (.frameLaunch t u port damaged) s = .next s' ∧ (s'.unit u).sentBad = (s.unit u).sentBad + 1 ∧
      (s'.unit u).sentGood = (s.unit u).sentGood ∧ (s'.unit u).wire = (s.unit u).wire ∧
      (s'.unit u).queue = (s.unit u).queue.filter (fun y => !(y.is x.frame.seq x.frame.port x.frame.cls)) ∧
      s'.getF .agreed (fLmTxabortMismatch.plus (4 * u)) = min 65535 (s.getF .agreed (fLmTxabortMismatch.plus (4 * u)) + 1) ∧
      (∀ v, v ≠ u → s'.unit v = s.unit v) ∧ regsBut [(.agreed, rLmTxabort + 4 * u)] s s' ∧
      sameBut [.lane, .regs] (s.advance t) s' := by
  have hin : u < (s.advance t).lane.units.length := hl.symm ▸ hu.2
  obtain ⟨passed, hpass⟩ := State.passFrame_of_one (s := s.advance t) hf hothers hd hin
  refine ⟨_, exec_frameLaunch hu.2 hmute ho (.inl hu.1) (State.nextFrame_advance hu.1 hn), ?_⟩
  rw [hpass]
  obtain ⟨hunit, hother, -⟩ := State.unit_of_setUnit (s := s.advance t) (u := u)
    (t := (s.advance t).countCut u ((s.advance t).takenUnit u x passed false)) rfl hin
  rw [hunit]
  have k : Keeps [.lane, .regs] (s.advance t) ((s.advance t).countCut u ((s.advance t).takenUnit u x passed false)) :=
    State.incF_keeps _ _ _ rfl (State.setUnit_keeps _ _ rfl (.refl _ _))
  exact ⟨rfl, rfl, rfl, rfl, State.getF_incF_plus s .agreed (4 * u) (by decide) (by decide) (by decide), hother,
    regsBut_putF_self s .agreed (fLmTxabortMismatch.plus (4 * u)) _ rfl (lmTxabort_addr_lt hu.2), k.frame⟩

theorem frameLaunch_deposes (hu : 2 ≤ u ∧ u < 8) (hmute : s.lane.mute = false)
    (ho : s.owned u = true) (hn : s.nextFrame u port = some x) (hf : x.copies.get (s.unit u).owner = some f)
    (hothers : s.otherDeposits u x = [(o, d), (p, e)]) (hd : d ≠ frameDigest f.bytes) (he : e ≠ frameDigest f.bytes)
    (htriplex : s.lane.lane = .triplex) (hm : s.ctl.mode = .run) (hp : s.lane.inOrder.contains (s.unit u).owner = true) :
    ∃ s', exec (.frameLaunch t u port false) s = .next s' ∧ s'.votes (s.unit u).owner = false ∧
      raised s' s.lane.active.mask evOwnerDeposed u (s.unit u).owner.code ∧ s'.lane.lane = .duplex := by
  have hv : s.votes (s.unit u).owner = true := State.votes_of_owned ho
  obtain ⟨onset, hpass⟩ := State.passFrame_of_neither (s := s.advance t) hf hothers hd he hv
  refine ⟨_, exec_frameLaunch hu.2 hmute ho (.inl hu.1) (State.nextFrame_advance hu.1 hn), ?_⟩
  rw [hpass]
  obtain ⟨hlane, hvotes, htold, -⟩ := State.applyLoss_leaves
    (s := ((s.advance t).countCut u (s.unit u)).raise evOwnerDeposed u (s.unit u).owner.code) 6 onset hv hm htriplex hp
  refine ⟨?_, raised_mono (raised_raise ((s.advance t).countCut u (s.unit u)) _ _ _) htold, hlane⟩
  refine (hvotes _).trans ?_
  simp

theorem frameLaunch_outvotes (hu : 2 ≤ u ∧ u < 8) (hl : s.lane.units.length = 8) (hmute : s.lane.mute = false)
    (ho : s.owned u = true) (hn : s.nextFrame u port = some x) (hf : x.copies.get (s.unit u).owner = some f)
    (hothers : s.otherDeposits u x = [(o, d), (p, e)]) (hd : d = frameDigest f.bytes) (he : e ≠ frameDigest f.bytes)
    (htriplex : s.lane.lane = .triplex) (hm : s.ctl.mode = .run) (hp : s.lane.inOrder.contains p = true) :
    ∃ s', exec (.frameLaunch t u port false) s = .next s' ∧ (s'.unit u).sentGood = (s.unit u).sentGood + 1 ∧
      s'.votes p = false ∧ s'.votes (s.unit u).owner = true ∧ s'.lane.lane = .duplex := by
  have hin : u < (s.advance t).lane.units.length := hl.symm ▸ hu.2
  obtain ⟨hv, hne⟩ := State.mem_otherDeposits (s := s) (u := u) (x := x) (o := p) (d := e) (by simp [hothers])
  obtain ⟨onset, hpass⟩ := State.passFrame_of_second (s := s.advance t) hf hothers hd he
  refine ⟨_, exec_frameLaunch hu.2 hmute ho (.inl hu.1) (State.nextFrame_advance hu.1 hn), ?_⟩
  rw [hpass, State.sendFrame_of_bus hu.1 hin]
  obtain ⟨hunit, -, -⟩ := State.unit_of_setUnit (s := s.advance t) (y := (s.advance t).sentUnit u x (frameDigest f.bytes)) rfl hin
  obtain ⟨hlane, hvotes, -, hsent⟩ := State.applyLoss_leaves
    (s := (s.advance t).setUnit u ((s.advance t).sentUnit u x (frameDigest f.bytes))) 6 onset hv hm htriplex hp
  refine ⟨?_, (hvotes p).trans (by simp), (hvotes _).trans ?_, hlane⟩
  · rw [hsent u (by rw [hunit]; exact hne.symm), hunit]
    rfl
  · rw [bne_iff_ne.2 hne.symm, Bool.and_true]
    exact State.votes_of_owned ho

/-! ### Frames unconfirmed -/

theorem frameUnconfirmedTimeout_drops {seq port cls : Nat} (hu : u < 8) (hl : s.lane.units.length = 8)
    (hx : (s.unit u).queue.find? (fun y => y.is seq port cls) = some x) (hown : (x.copies.get (s.unit u).owner).isSome = true)
    (hn : s.otherDeposits u x = [])
    (hdue : x.formed + 100000 ≤ t ∨ (x.frame.launch.any fun l => decide (l ≤ (s.advance t).launchClock u)) = true) :
    ∃ s', exec (.frameUnconfirmedTimeout t u seq port cls) s = .next s' ∧
      (s'.unit u).queue = (s.unit u).queue.filter (fun y => !(y.is x.frame.seq x.frame.port x.frame.cls)) ∧
      (s'.unit u).sentGood = (s.unit u).sentGood ∧
      s'.getF .agreed (fLmTxabortUnconfirmed.plus (4 * u)) =
        min 65535 (s.getF .agreed (fLmTxabortUnconfirmed.plus (4 * u)) + 1) ∧
      (∀ v, v ≠ u → s'.unit v = s.unit v) ∧ regsBut [(.agreed, rLmTxabort + 4 * u)] s s' ∧
      sameBut [.lane, .regs, .log] (s.advance t) s' := by
  have hin : u < (s.advance t).lane.units.length := hl.symm ▸ hu
  refine ⟨_, exec_frameUnconfirmedTimeout hu hx hown hn hdue, ?_⟩
  generalize hv : ((s.advance t).setUnit u (s.takenUnit u x none true)).incF .agreed (fLmTxabortUnconfirmed.plus (4 * u)) 1 = v
  have hregs : v.regs = (s.incF .agreed (fLmTxabortUnconfirmed.plus (4 * u)) 1).regs := hv ▸ rfl
  have hlane : v.lane = ((s.advance t).setUnit u (s.takenUnit u x none true)).lane := hv ▸ rfl
  have kset : Keeps [.lane, .regs] (s.advance t) v := hv ▸ State.incF_keeps _ _ _ rfl (State.setUnit_keeps _ _ rfl (.refl _ _))
  have k := v.noteUnconfirmed_keeps u
  have hregs' := (k.frame .regs (by decide)).trans hregs
  obtain ⟨hunit, hother, -⟩ := State.unit_of_setUnit hlane hin
  have hin' : u < v.lane.units.length := by rw [hlane, State.setUnit_length]; exact hin
  obtain ⟨n, hnoted⟩ := v.noteUnconfirmed_lane hin'
  obtain ⟨hunit', hother', -⟩ := State.unit_of_setUnit hnoted hin'
  rw [hunit', hunit]
  refine ⟨rfl, rfl, ?_, fun w hw => (hother' w hw).trans (hother w hw), ?_,
    sameBut_trans (sameBut_mono kset.frame (by decide)) (sameBut_mono k.frame (by decide))⟩
  · rw [State.getF_of_regs hregs']
    exact State.getF_incF_plus s .agreed (4 * u) (by decide) (by decide) (by decide)
  · exact regsBut_trans (regsBut_putF_self s .agreed (fLmTxabortUnconfirmed.plus (4 * u)) _ rfl (lmTxabort_addr_lt hu))
      (regsBut_of_regs hregs')

end

/-- Settles O19: frames are deposited, launched and dropped as R115, R116, R148, R303, R304 and R310 to R312 say; what a mast's
yielded units and the digests that come late mean rests on log entries 53 and 113. -/
theorem transmitUnits : Obligations.TransmitUnits := by
  unfold Obligations.TransmitUnits
  refine ⟨?joins, ?late, ?prp, ?fails, ?bus, ?cut, ?deposes, ?outvotes, ?port, ?missed, ?drops⟩
  case joins =>
    rintro t m u f s hu - ⟨hv, ha⟩ hmute hf hg
    exact frameDigestDeposit_joins hu hv ha hmute hf hg
  case late =>
    rintro t m u f g s hu hl ⟨hv, ha⟩ hmute hf ⟨hg, hw⟩ h
    exact frameDigestDeposit_late hu hl hv ha hmute hf hg hw h
  case prp =>
    rintro t m f s hl ⟨hv, ha⟩ hmute hf hport hprp hg
    exact frameDigestDeposit_prp hl hv ha hmute hf hport hprp hg
  case fails =>
    rintro t m u f s hu ⟨hv, ha⟩ hmute hf ho he
    exact frameDigestDeposit_fails hu hv ha hmute hf ho he
  case bus =>
    rintro t u port x f s hu hl hmute ho ⟨hn, hf⟩ hd
    exact frameLaunch_bus hu hl hmute ho hn hf hd
  case cut =>
    rintro t u port damaged x f o d s hu hl hmute ho ⟨hn, hf⟩ hothers hd
    exact frameLaunch_cut hu hl hmute ho hn hf hothers hd
  case deposes =>
    rintro t u port x f o p d e s hu - hmute ho ⟨hn, hf⟩ hothers ⟨hd, he⟩ ⟨htriplex, hm, -, hp⟩
    exact frameLaunch_deposes hu hmute ho hn hf hothers hd he htriplex hm hp
  case outvotes =>
    rintro t u port x f o p d e s hu hl hmute ho ⟨hn, hf⟩ hothers ⟨hd, he⟩ ⟨htriplex, hm, -, hp⟩
    exact frameLaunch_outvotes hu hl hmute ho hn hf hothers hd he htriplex hm hp
  case port =>
    rintro t u port x f s ⟨hu, hp⟩ hl hmute ho ⟨-, hf⟩ ⟨-, hmiss, hn⟩ hd
    exact frameLaunch_port hu hp hl hmute ho hf hmiss hn hd
  case missed =>
    rintro t u port kind x s ⟨hu, hp⟩ hl hmute ho hmiss
    exact frameLaunch_missed hu hp hl hmute ho hmiss
  case drops =>
    rintro t u seq port cls x s ⟨hu, hl⟩ hx ⟨hown, hn⟩ hdue
    exact frameUnconfirmedTimeout_drops hu hl hx hown hn hdue

end Sys2Proof.Machine

/-!
# A node of a number no door bus has

O21 has `IT_RELCNT` count one at a release. At the release `FB_NODEb_n` shows a bus's nodes, each 4 bytes beyond the one before: of a
node numbered far beyond 64 it is a register of another block, and the statement has no premise against such a node.
-/

namespace Sys2Proof.Machine

/-- A node whose number takes its `FB_NODE0_n` to `IT_RELCNT`. -/
def strayNode : FbNode := { node := (rItRelcnt - rFbNode0) / 4 + 1, late := false }

/-- In RUN with all masts powered, a report of bus 0 waits to be released, and the bus holds the stray node. -/
def strayRelease : State :=
  { State.reset with
    ctl := { mode := .run, on := true }
    masts := Per.all { powered := true }
    fb := { bus0 := { sched := some ⟨9, 2, 1000, 16, 0, [], []⟩, nodes := [strayNode] } }
    intake := { agreed := [Item.form 0x2000 0 0 []], instant := some (4, 0), releasePending := true } }

/-- The node's register leaves its state, 1, in `IT_RELCNT`, and the release counts on from there. -/
theorem strayRelease_relcnt :
    ∃ s', exec (.intakeRelease 0) strayRelease = .next s' ∧ s'.getF .agreed fItRelcntCount = 2 :=
  ⟨_, rfl, by decide +kernel⟩

/-- Refutes O21: in `strayRelease` no release has been counted, and `IT_RELCNT` shows 2 after the first. A bus takes node
numbers up to 64 from its section (R196), and for these the nodes' registers stay below `IT_RELCNT`; the statement's last clause
lacks that premise. -/
theorem not_intakeFillsAndRelease : ¬ Obligations.IntakeFillsAndRelease := by
  unfold Obligations.IntakeFillsAndRelease
  rintro ⟨-, -, -, -, -, -, release⟩
  obtain ⟨s', e, -, -, -, -, -, -, -, hcount, -⟩ :=
    release 0 4 0 strayRelease ⟨rfl, rfl⟩ (by decide) (.inr (.inl rfl))
  obtain ⟨u, e', hu⟩ := strayRelease_relcnt
  cases Host.Outcome.next.inj (e.symm.trans e')
  rw [hu] at hcount
  exact absurd hcount (by decide)

end Sys2Proof.Machine

/-!
# The time servo

`TB_STAT` shows the servo's state and its source (R156). `Serves` is what one measurement leaves of it: every case of R156 first
shows the source (`State.follows`), then may take a new state and tell it.
-/

namespace Sys2Proof.Machine
open Sys2Proof.Safety

/-! ### The servo's state -/

/-- A counter field of eight bits. -/
theorem State.getF_incF_byte (s : State) (c : Copy) (f : Fld) (hh : f.hi < 32) (hl : f.lo ≤ f.hi) (hw : f.hi + 1 - f.lo = 8) :
    (s.incF c f 1).getF c f = min 255 (s.getF c f + 1) := by
  rw [State.getF_incF _ _ _ _ hh hl, hw]
  rfl

theorem State.getF_raise (s : State) (code a1 a2 : Nat) (c : Copy) (f : Fld) : (s.raise code a1 a2).getF c f = s.getF c f :=
  State.getF_of_regs (State.raise_regs s ..) c f

section
variable {s : State}

theorem State.setServo_servo {st : Nat} (h : st < 8) : (s.setServo st).servo = st :=
  (State.getF_putF _ _ fTbStatState _ (by decide) (by decide)).trans (Nat.mod_eq_of_lt h)

/-- The other fields of `TB_STAT` stay. -/
theorem State.setServo_getF (st : Nat) {f : Fld} (ha : f.addr = rTbStat) (hl : f.lo ≤ f.hi) (h : 2 < f.lo) :
    (s.setServo st).getF .agreed f = s.getF .agreed f :=
  State.getF_putF_bits s .agreed fTbStatState f st ha (by decide) (by decide) hl (.inr h)

theorem State.setServo_regsBut (st : Nat) : regsBut [(.agreed, rTbStat)] s (s.setServo st) :=
  regsBut_putF_self s .agreed fTbStatState st rfl (by decide)

/-- Fields of `TB_STAT` beside the servo's state do not change it. -/
theorem State.putF_servo {f : Fld} (v : Nat) (ha : f.addr = rTbStat) (hh : f.hi < 32) (hl : f.lo ≤ f.hi) (h : 2 < f.lo) :
    (s.putF .agreed f v).servo = s.servo :=
  State.getF_putF_bits s .agreed f fTbStatState v ha.symm hh hl (by decide) (.inl h)

end

/-! ### One measurement -/

/-- From `s` to `u` the servo has taken a source, a state and a time part; of the registers only `TB_STAT` has changed. -/
structure Serves (l : List Part) (s u : State) (src st : Nat) (x : TimePart) : Prop where
  time : u.time = x
  servo : u.servo = st
  source : u.getF .agreed fTbStatSrc = src
  regs : regsBut [(.agreed, rTbStat)] s u
  keeps : Keeps l s u

section
variable {l : List Part} {s u : State} {src st : Nat} {x : TimePart}

theorem Serves.setTime (h : Serves l s u src st x) (y : TimePart) (hk : within [Part.time] l = true) :
    Serves l s { u with time := y } src st y :=
  ⟨rfl, h.servo, h.source, h.regs, h.keeps.upd_time y hk⟩

theorem Serves.setServo (h : Serves l s u src st x) {st' : Nat} (hst : st' < 8) (hk : within [Part.regs, .time] l = true) :
    Serves l s (u.setServo st') src st'
      { x with heldFrom := if st' = tbHoldover ∨ st' = tbRefused then some u.now else none } where
  time := h.time ▸ rfl
  servo := State.setServo_servo hst
  source := (State.setServo_getF st' rfl (by decide) (by decide)).trans h.source
  regs := regsBut_trans h.regs (State.setServo_regsBut st')
  keeps := State.setServo_keeps st' hk h.keeps

theorem Serves.raise (h : Serves l s u src st x) (code a1 a2 : Nat) (hk : within [Part.log] l = true) :
    Serves l s (u.raise code a1 a2) src st x :=
  ⟨h.time, h.servo, h.source, h.regs, State.raise_keeps code a1 a2 hk h.keeps⟩

end

/-- The servo's source is shown and followed. -/
def State.follows (s : State) (src : Nat) : State :=
  { s.putF .agreed fTbStatSrc src with time := { s.time with following := true } }

/-- A Sync of the grandmaster followed has come (R449). -/
def State.synced (s : State) : State := { s with time := { s.time with syncAt := s.now } }

section
variable {l : List Part} {s s0 : State} {src : Nat} {off : Int}

theorem State.synced_follows_serves (s : State) (hsrc : src < 8) (hk : within [Part.regs, .time] l = true) :
    Serves l s (s.synced.follows src) src s.servo { s.time with syncAt := s.now, following := true } where
  time := rfl
  servo := State.putF_servo (s := s) src rfl (by decide) (by decide) (by decide)
  source := (State.getF_putF s .agreed fTbStatSrc src (by decide) (by decide)).trans (Nat.mod_eq_of_lt hsrc)
  regs := regsBut_putF_self s .agreed fTbStatSrc src rfl (by decide)
  keeps :=
    have hr : within [Part.regs] l = true := by simp_all [within]
    have ht : within [Part.time] l = true := by simp_all [within]
    Keeps.upd_time _ ht (State.putF_keeps _ _ _ hr (Keeps.upd_time _ ht (.refl l s)))

theorem State.follows_servo : (s.follows src).servo = s.servo :=
  State.putF_servo src rfl (by decide) (by decide) (by decide)

theorem State.follows_acqDone : (s.follows src).getF .agreed fTbStatAcqDone = s.getF .agreed fTbStatAcqDone :=
  State.getF_putF_bits s .agreed fTbStatSrc fTbStatAcqDone src rfl (by decide) (by decide) (by decide) (.inr (by decide))

theorem State.follows_stepLimit : (s.follows src).stepLimit = s.stepLimit :=
  congrArg (· * 1000) (State.getF_putF_key _ _ _ _ _ _ (by decide))

/-! The cases of a measurement. -/

theorem State.measured_of_unset (h : s.servo = tbUnset) : s.measured src off =
    ((s.follows src).setServo tbAcquiring).raise evTimeAcquired src (clampArg (off.tdiv 1000000)) :=
  if_pos (State.follows_servo.trans h)

theorem State.measured_of_acquiring (h : s.servo = tbAcquiring)
    (hb : off.natAbs ≤ s.stepLimit ∨ s.getF .agreed fTbStatAcqDone = 0) :
    s.measured src off = if off.natAbs ≤ 1000 then
      if 16 ≤ s.time.within + 1 then
        (({ s.follows src with time := { (s.follows src).time with within := s.time.within + 1 } } : State).setServo tbLocked).raise
          evTimeLocked src (clampArg off)
      else { s.follows src with time := { (s.follows src).time with within := s.time.within + 1 } }
    else { s.follows src with time := { (s.follows src).time with within := 0 } } := by
  have hs : (s.follows src).servo = tbAcquiring := State.follows_servo.trans h
  have hb' : ¬ (decide ((s.follows src).stepLimit < off.natAbs) && (s.follows src).getF .agreed fTbStatAcqDone == 1) = true := by
    rw [State.follows_stepLimit, State.follows_acqDone]
    simp only [Bool.and_eq_true, decide_eq_true_eq, beq_iff_eq]
    omega
  exact (if_neg (hs ▸ by decide)).trans ((if_pos hs).trans (if_neg hb'))

theorem State.measured_of_returning (h : s.servo = tbHoldover ∨ s.servo = tbRefused) (hb : off.natAbs ≤ s.stepLimit) :
    s.measured src off = (s.follows src).setServo tbLocked := by
  have hs : (s.follows src).servo = s.servo := State.follows_servo
  have hb' : ¬ decide ((s.follows src).stepLimit < off.natAbs) = true := by
    rw [State.follows_stepLimit, decide_eq_true_eq]
    omega
  obtain h | h := h
  · rw [h] at hs
    exact (if_neg (hs ▸ by decide)).trans <| (if_neg (hs ▸ by decide)).trans <| (if_neg (hs ▸ by decide)).trans <|
      (if_neg hb').trans (if_pos hs)
  · rw [h] at hs
    exact (if_neg (hs ▸ by decide)).trans <| (if_neg (hs ▸ by decide)).trans <| (if_pos hs).trans (if_neg hb')

theorem State.measured_of_staying
    (h : s.servo = tbLocked ∧ off.natAbs ≤ s.stepLimit ∨ s.servo = tbRefused ∧ s.stepLimit < off.natAbs) :
    s.measured src off = s.follows src := by
  have hs : (s.follows src).servo = s.servo := State.follows_servo
  have hb : decide ((s.follows src).stepLimit < off.natAbs) = decide (s.stepLimit < off.natAbs) := by
    rw [State.follows_stepLimit]
  obtain ⟨h, hl⟩ | ⟨h, hl⟩ := h
  · rw [h] at hs
    have hb' : ¬ decide ((s.follows src).stepLimit < off.natAbs) = true := by simpa [hb] using hl
    exact (if_neg (hs ▸ by decide)).trans <| (if_neg (hs ▸ by decide)).trans <| (if_neg (hs ▸ by decide)).trans <|
      (if_neg hb').trans (if_neg (hs ▸ by decide))
  · rw [h] at hs
    have hb' : decide ((s.follows src).stepLimit < off.natAbs) = true := by simpa [hb] using hl
    exact (if_neg (hs ▸ by decide)).trans <| (if_neg (hs ▸ by decide)).trans <| (if_pos hs).trans (if_pos hb')

theorem State.measured_of_beyond (hb : s.stepLimit < off.natAbs)
    (h : s.servo = tbLocked ∨ s.servo = tbHoldover ∨ s.servo = tbAcquiring ∧ s.getF .agreed fTbStatAcqDone = 1) :
    s.measured src off = (s.follows src).refuseStep off := by
  have hs : (s.follows src).servo = s.servo := State.follows_servo
  have hb' : decide ((s.follows src).stepLimit < off.natAbs) = true := by
    rwa [State.follows_stepLimit, decide_eq_true_eq]
  obtain h | h | ⟨h, hd⟩ := h
  · rw [h] at hs
    exact (if_neg (hs ▸ by decide)).trans <| (if_neg (hs ▸ by decide)).trans <| (if_neg (hs ▸ by decide)).trans (if_pos hb')
  · rw [h] at hs
    exact (if_neg (hs ▸ by decide)).trans <| (if_neg (hs ▸ by decide)).trans <| (if_neg (hs ▸ by decide)).trans (if_pos hb')
  · rw [h] at hs
    have hd' : (decide ((s.follows src).stepLimit < off.natAbs) && (s.follows src).getF .agreed fTbStatAcqDone == 1) = true := by
      rw [hb', State.follows_acqDone, hd]
      rfl
    exact (if_neg (hs ▸ by decide)).trans <| (if_pos hs).trans (if_pos hd')

end

/-! ### PTP messages that the module takes -/

/-- The module takes PTP messages of `gm` on a port by a protocol (R42, R155, R169): it follows that protocol and is not the rack's
ring member that takes its time from the stay link; the port's role listens, and the grandmaster is an acceptable one. -/
structure State.HearsPtp (s : State) (gm port proto : Nat) : Prop where
  working : s.ctl.mode ≠ .boot ∧ s.ctl.mode ≠ .standby ∧ s.voters ≠ []
  protocol : s.time.protocol = proto ∧ (proto = 1 ∨ proto = 2)
  noMember : s.getF .agreed fSlStatRole ≠ 1
  role : s.time.roles[port - 1]? = some 1 ∨ s.time.roles[port - 1]? = some 3
  accept : s.time.accept = [] ∨ s.time.accept.contains gm = true

section
variable {t gm port proto : Nat} {s : State}

theorem State.HearsPtp.passes (h : s.HearsPtp gm port proto) :
    ¬ ((s.advance t).ctl.mode = .boot ∨ (s.advance t).ctl.mode = .standby ∨ (s.advance t).voters = [] ∨
      (s.advance t).time.protocol ≠ proto ∨ proto = 0 ∨ 2 < proto ∨ (s.advance t).getF .agreed fSlStatRole = 1 ∨
      ((s.advance t).time.roles[port - 1]?.getD 0 ≠ 1 ∧ (s.advance t).time.roles[port - 1]?.getD 0 ≠ 3) ∨
      ((s.advance t).time.accept ≠ [] ∧ !(s.advance t).time.accept.contains gm)) := by
  obtain ⟨⟨hboot, hstandby, hvoters⟩, ⟨hproto, hp⟩, hmember, hrole, haccept⟩ := h
  have hrole' : s.time.roles[port - 1]?.getD 0 = 1 ∨ s.time.roles[port - 1]?.getD 0 = 3 :=
    hrole.imp (fun e => by rw [e]; rfl) (fun e => by rw [e]; rfl)
  rintro (e | e | e | e | e | e | e | ⟨e1, e3⟩ | ⟨e1, e2⟩)
  · exact hboot e
  · exact hstandby e
  · exact hvoters e
  · exact e hproto
  · omega
  · omega
  · exact hmember e
  · exact hrole'.elim e1 e3
  · have e2' : (!s.time.accept.contains gm) = true := e2
    exact haccept.elim e1 fun e => absurd e2' (by rw [e]; decide)

theorem exec_ptpMessage_sync (h : s.HearsPtp gm port proto) (hgm : s.time.gm = some gm ∧ s.time.gmPort = port) (off : Int) :
    exec (.ptpMessage t gm port proto (.sync (some off))) s = .next ((s.advance t).synced.measured proto off) :=
  (if_neg h.passes).trans (if_neg (by rintro (e | e); exacts [e hgm.1, e hgm.2]))

theorem exec_ptpMessage_announce (h : s.HearsPtp gm port proto) (a : Announce) :
    exec (.ptpMessage t gm port proto (.announce a)) s = .next ((s.advance t).announced gm port a) :=
  if_neg h.passes

end

/-! ### The grandmaster that is followed -/

/-- An Announce of `gm` on a port is the newest the module has heard (R155). -/
def State.hearAnnounce (s : State) (gm port : Nat) (a : Announce) : State :=
  { s with time := { s.time with
    heard := ⟨gm, port, a, s.now⟩ :: s.time.heard.filter fun h => !(h.gm == gm && h.port == port) } }

/-- Another grandmaster is followed than `gm`. -/
def State.followsOther (s : State) (gm : Nat) : Bool := s.time.gm.any (· != gm)

/-- The port followed is shown, and a change of grandmaster counted and told. -/
def State.showMaster (s : State) (h : Heard) : State :=
  if s.followsOther h.gm then
    ((s.putF .agreed fTbStatPort (h.port - 1)).incF .agreed fTbStatGmchg 1).raise evGmChange h.gm h.port
  else s.putF .agreed fTbStatPort (h.port - 1)

section
variable (s : State) {h : Heard}

theorem State.followMaster_eq : s.followMaster h = { s.showMaster h with time := { s.time with
    gm := some h.gm, gmPort := h.port, syncAt := if s.time.gm = some h.gm then s.time.syncAt else s.now } } := by
  unfold State.followMaster State.showMaster State.followsOther
  cases hg : s.time.gm with
  | none => simp [hg]
  | some g => by_cases e : g = h.gm <;> simp [e, hg]

/-- Showing the grandmaster changes `TB_STAT` alone, not the state in it, and tells a change of grandmaster. -/
theorem State.showMaster_leaves (hp : h.port - 1 < 4) :
    (s.showMaster h).getF .agreed fTbStatPort = h.port - 1 ∧ (s.showMaster h).servo = s.servo ∧
    (s.followsOther h.gm = true → raised (s.showMaster h) s.lane.active.mask evGmChange h.gm h.port ∧
      (s.showMaster h).getF .agreed fTbStatGmchg = min 255 (s.getF .agreed fTbStatGmchg + 1)) ∧
    regsBut [(.agreed, rTbStat)] s (s.showMaster h) ∧ Keeps [.time, .regs, .log] s (s.showMaster h) := by
  let u := s.putF .agreed fTbStatPort (h.port - 1)
  let v := u.incF .agreed fTbStatGmchg 1
  have e : s.showMaster h = if s.followsOther h.gm then v.raise evGmChange h.gm h.port else u := rfl
  have uport : u.getF .agreed fTbStatPort = h.port - 1 :=
    (State.getF_putF s .agreed fTbStatPort _ (by decide) (by decide)).trans (Nat.mod_eq_of_lt hp)
  have uservo : u.servo = s.servo := State.putF_servo _ rfl (by decide) (by decide) (by decide)
  have uregs : regsBut [(.agreed, rTbStat)] s u := regsBut_putF_self s .agreed fTbStatPort _ rfl (by decide)
  have ukeeps : Keeps [.time, .regs, .log] s u := State.putF_keeps _ _ _ rfl (.refl _ s)
  have ugmchg : u.getF .agreed fTbStatGmchg = s.getF .agreed fTbStatGmchg :=
    State.getF_putF_bits s .agreed fTbStatPort fTbStatGmchg _ rfl (by decide) (by decide) (by decide) (.inr (by decide))
  have vgmchg : v.getF .agreed fTbStatGmchg = min 255 (s.getF .agreed fTbStatGmchg + 1) :=
    (State.getF_incF_byte u .agreed fTbStatGmchg (by decide) (by decide) rfl).trans (congrArg (fun n => min 255 (n + 1)) ugmchg)
  have vport : v.getF .agreed fTbStatPort = h.port - 1 :=
    (State.getF_putF_bits u .agreed fTbStatGmchg fTbStatPort _ rfl (by decide) (by decide) (by decide) (.inl (by decide))).trans
      uport
  have vservo : v.servo = s.servo := (State.putF_servo _ rfl (by decide) (by decide) (by decide)).trans uservo
  have vregs : regsBut [(.agreed, rTbStat)] s v :=
    regsBut_trans uregs (regsBut_putF_self u .agreed fTbStatGmchg _ rfl (by decide))
  have vkeeps : Keeps [.time, .regs, .log] s v := State.incF_keeps _ _ _ rfl ukeeps
  rw [e]
  split
  · exact ⟨(v.getF_raise ..).trans vport, (v.getF_raise ..).trans vservo,
      fun _ => ⟨raised_raise v _ _ _, (v.getF_raise ..).trans vgmchg⟩,
      regsBut_trans vregs (regsBut_of_regs (State.raise_regs v ..)), State.raise_keeps _ _ _ rfl vkeeps⟩
  · next hn => exact ⟨uport, uservo, fun ho => absurd ho hn, uregs, ukeeps⟩

theorem State.announced_of_best {gm port : Nat} {a : Announce}
    (hb : (s.hearAnnounce gm port a).bestMaster = some ⟨gm, port, a, s.now⟩) :
    s.announced gm port a = (s.hearAnnounce gm port a).followMaster ⟨gm, port, a, s.now⟩ := by
  unfold State.announced
  have hb' := hb
  unfold State.hearAnnounce at hb' ⊢
  dsimp only
  rw [hb']

end

/-! ### The source is lost -/

section
variable {s : State}

theorem State.sourceLost_of_following (h : s.servo = tbLocked ∨ s.servo = tbRefused) :
    s.sourceLost = (({ s with time := { s.time with following := false, within := 0 } } : State).setServo tbHoldover).raise
      evTimeHoldover (s.getF .agreed fTbStatSrc) 0 :=
  if_pos h

/-- A servo that followed goes to HOLDOVER and tells it (R156, R449). -/
theorem State.sourceLost_leaves (h : s.servo = tbLocked ∨ s.servo = tbRefused) :
    s.sourceLost.servo = tbHoldover ∧
    s.sourceLost.time = { s.time with following := false, within := 0, heldFrom := some s.now } ∧
    raised s.sourceLost s.lane.active.mask evTimeHoldover (s.getF .agreed fTbStatSrc) 0 ∧
    regsBut [(.agreed, rTbStat)] s s.sourceLost ∧ Keeps [.time, .regs, .log] s s.sourceLost := by
  rw [State.sourceLost_of_following h]
  exact ⟨State.setServo_servo (by decide), rfl, raised_raise _ _ _ _, State.setServo_regsBut tbHoldover,
    State.raise_keeps _ _ _ rfl (State.setServo_keeps _ rfl (Keeps.upd_time _ rfl (.refl _ s)))⟩

theorem exec_timeSourceLost_of_due {t : Nat} (hf : s.time.following = true) (hd : (s.advance t).lossDue = true) :
    exec (.timeSourceLost t) s = .next (s.advance t).sourceLost :=
  if_pos (by rw [show (s.advance t).time.following = true from hf, hd]; rfl)

theorem State.sourceLost_of_free (h : s.servo ≠ tbLocked ∧ s.servo ≠ tbRefused) :
    s.sourceLost = { s with time := { s.time with following := false, within := 0 } } :=
  if_neg (by rintro (e | e); exacts [h.1 e, h.2 e])

/-- Three Sync intervals, or on the stay link three cycles, without one (R449). -/
theorem State.lossDue_of_silence {t : Nat}
    (h : s.getF .agreed fTbStatSrc ≠ 3 ∧ s.time.syncAt + 3 * logNs s.time.logSync ≤ t ∨
      s.getF .agreed fTbStatSrc = 3 ∧ s.time.frameAt + 3 * max 1 (s.getF .agreed fTbAicycleCycleUs * 1000) ≤ t) :
    (s.advance t).lossDue = true := by
  have hnow : t ≤ (s.advance t).now := Nat.le_max_right _ _
  unfold State.lossDue
  obtain ⟨hs, h⟩ | ⟨hs, h⟩ := h
  · rw [State.advance_getF, if_neg hs, Bool.or_eq_true, decide_eq_true_eq]
    exact .inl (Nat.le_trans h hnow)
  · rw [State.advance_getF, if_pos hs, decide_eq_true_eq]
    exact Nat.le_trans h hnow

/-- No grandmaster announces itself any more. -/
theorem State.lossDue_of_unheard {t : Nat} (hs : s.getF .agreed fTbStatSrc ≠ 3)
    (h : ∀ x ∈ s.time.heard, x.at' + s.time.annTimeout * logNs s.time.logAnnounce ≤ t) : (s.advance t).lossDue = true := by
  have hgone : ∀ x ∈ s.time.heard, (s.advance t).heardNow x = false := fun x hx =>
    decide_eq_false (Nat.not_lt.2 (Nat.le_trans (h x hx) (Nat.le_max_right _ _)))
  have hbest : (s.advance t).bestMaster = none := by
    have hnil : ((s.advance t).time.heard.filter fun x => (s.advance t).heardNow x &&
        ((s.advance t).time.roles[x.port - 1]?.getD 0 == 3 || listBefore x.rank (s.advance t).ownRankPtp)) = [] :=
      List.filter_eq_nil_iff.2 fun x hx => by simp [hgone x hx]
    exact (congrArg bestHeard hnil).trans rfl
  have hnone : ((s.advance t).time.heard.any fun x => some x.gm == (s.advance t).time.gm && (s.advance t).heardNow x) = false :=
    List.any_eq_false.2 fun x hx => by simp [hgone x hx]
  unfold State.lossDue
  rw [State.advance_getF, if_neg hs, hbest, hnone]
  simp

end

/-! ### `TB_OFFSET` -/

section
variable {s : State} {t : Nat} {writers : Per Bool} {value : Word}

theorem State.agreed_advance (s : State) (t : Nat) (writers : Per Bool) : (s.advance t).agreed writers = s.agreed writers := rfl

theorem exec_tbOffsetWrite_of_applied (ha : s.agreed writers = true) (hm : s.ctl.mode ≠ .standby ∧ s.time.protocol ≠ 0) :
    exec (.tbOffsetWrite t writers value) s =
      if s.stepLimit < value.toInt.natAbs then .next ((s.advance t).refuseStep value.toInt)
      else .next (({ s.advance t with time := { (s.advance t).time with slew := value.toInt * (2 ^ 32 : Nat) } } : State).putF
        .agreed fTbSlewremNs value.toNat) :=
  if_neg (by
    rintro (e | e | e)
    · rw [State.agreed_advance, ha] at e
      exact absurd e (by decide)
    · exact hm.1 e
    · exact hm.2 e)

theorem exec_tbOffsetWrite_of_unused (h : s.ctl.mode = .standby ∨ s.time.protocol = 0) :
    exec (.tbOffsetWrite t writers value) s = .next (s.advance t) :=
  if_pos (.inr h)

/-- A step beyond the limit is refused and told (R156, R157). -/
theorem State.refuseStep_leaves (s : State) (off : Int) :
    (s.refuseStep off).servo = tbRefused ∧ (s.refuseStep off).time = { s.time with heldFrom := some s.now } ∧
    raised (s.refuseStep off) s.lane.active.mask evTimeStepRefused (clampArg (off.tdiv 1000)) (s.getF .agreed fTbSteplimLimitUs) ∧
    regsBut [(.agreed, rTbStat)] s (s.refuseStep off) ∧ Keeps [.time, .regs, .log] s (s.refuseStep off) :=
  ⟨State.setServo_servo (by decide), rfl, raised_raise _ _ _ _, State.setServo_regsBut tbRefused,
    State.raise_keeps _ _ _ rfl (State.setServo_keeps _ rfl (.refl _ s))⟩

end
end Sys2Proof.Machine

/-!
# Steps of module time

A step moves the timebases, shows ACQ_DONE and is told (`State.stepClocks`); then the time comparators that it passes fire. What
these fire leaves `TB_STAT`, the timebases and the events that wait as they are, and without an armed comparator nothing more
happens.
-/

namespace Sys2Proof.Machine
open Sys2Proof.Safety

/-! ### What a comparator fires spares `TB_STAT` -/

theorem Spares.fold_mem {α : Type} {A : List Nat} {s0 s : State} {f : State → α → State} {xs : List α}
    (hf : ∀ s, ∀ x ∈ xs, Spares A s0 s → Spares A s0 (f s x)) (h : Spares A s0 s) : Spares A s0 (xs.foldl f s) := by
  induction xs generalizing s with
  | nil => exact h
  | cons x xs ih =>
    exact ih (fun u y hy => hf u y (List.mem_cons_of_mem _ hy)) (hf s x List.mem_cons_self h)

section
variable {s0 s : State} {m : Mast} {n : Nat}

/-- The registers of the DMA channels but `DM_CTRL` lie on other words of a 64-byte line than `TB_STAT`. -/
theorem dmaF_apart {f : Fld} (n : Nat) (h : f.addr % 64 ≠ 0) : apartFrom [rTbStat] (dmaF f n).addr := by
  simp only [apartFrom, List.forall_mem_singleton, dmaF, Fld.plus, rTbStat]
  omega

theorem cmpF_apart {f : Fld} (hn : n < 64) (h : 0xE0041000 ≤ f.addr ∧ f.addr < 0xE0041020) :
    apartFrom [rTbStat] (cmpF f n).addr := by
  simp only [apartFrom, List.forall_mem_singleton, cmpF, Fld.plus, rTbStat]
  omega

theorem Spares.raiseLimited {A : List Nat} {src key code a1 a2 : Nat} (h : Spares A s0 s) :
    Spares A s0 (s.raiseLimited src key code a1 a2) :=
  have told : Spares A s0 (s.raiseBy src code a1 a2) := h.raiseBy ..
  .ite h told

theorem State.setDma_spares (st : Nat) (h : Spares [rTbStat] s0 s) : Spares [rTbStat] s0 (s.setDma m n st) := by
  unfold State.setDma
  exact (((h.putF _ _ _ (dmaF_apart n (by decide))).putF _ _ _ (dmaF_apart n (by decide))).putF _ _ _ (by decide)).putF _ _ _
    (by decide)

theorem State.ringPush_spares (k : Nat) (d : List Byte) (h : Spares [rTbStat] s0 s) : Spares [rTbStat] s0 (s.ringPush m k d) := by
  have apart : apartFrom [rTbStat] (ringF fQmRingProdProd k).addr := by
    simp only [apartFrom, List.forall_mem_singleton, ringF, Fld.plus, fQmRingProdProd, rTbStat]
    omega
  exact .keeps (State.interrupt_keeps _ _ _ rfl (.refl _ _)) <|
    .putF _ _ _ apart <| .keeps (State.fabricStore_keeps _ _ _ rfl (.refl _ s)) h

theorem State.dmaRecord_spares (r : Option (List Byte)) (st : Nat) (h : Spares [rTbStat] s0 s) :
    Spares [rTbStat] s0 (s.dmaRecord m n r st).1 := by
  unfold State.dmaRecord
  split
  · exact State.setDma_spares st h
  · split
    · exact State.setDma_spares st h
    · split
      · exact State.setDma_spares 3 (.keeps (State.setQueue_keeps _ _ rfl (.refl _ s)) h)
      · exact State.setDma_spares st (State.ringPush_spares _ _ h)

theorem State.dmaStop_spares (r bytes : Nat) (h : Spares [rTbStat] s0 s) : Spares [rTbStat] s0 (s.dmaStop m n r bytes) := by
  dsimp -zeta only [State.dmaStop]
  extract_lets c ch status s1 s2 s3 s4
  have h1 : Spares [rTbStat] s0 s1 := .keeps (State.dmaStatus_keeps _ _ _ rfl (.refl _ s)) h
  have h2 : Spares [rTbStat] s0 s2 := (h1.putF _ _ _ (dmaF_apart n (by decide))).putF _ _ _ (dmaF_apart n (by decide))
  have told (u : State) (hu : Spares [rTbStat] s0 u) : Spares [rTbStat] s0 (u.dmaStopEvent m n r ch.addr) :=
    .ite (hu.raiseBy ..) (.ite (hu.raiseBy ..) (hu.raiseBy ..))
  have h3 : Spares [rTbStat] s0 s3 := told _ (h2.putF _ _ _ (dmaF_apart n (by decide)))
  exact .keeps (State.dmaInterrupt_keeps _ _ rfl (.refl _ _)) (State.dmaRecord_spares _ _ h3)

theorem State.dmaLoad_spares (addr : Nat) (h : Spares [rTbStat] s0 s) : Spares [rTbStat] s0 (s.dmaLoad m n addr) := by
  dsimp -zeta only [State.dmaLoad]
  extract_lets c d q x s1 s2
  have h1 : Spares [rTbStat] s0 s1 := .keeps (State.setQueue_keeps _ _ rfl (.refl _ s)) h
  have h2 : Spares [rTbStat] s0 s2 := (h1.putF _ _ _ (dmaF_apart n (by decide))).putF _ _ _ (dmaF_apart n (by decide))
  split
  · exact State.setDma_spares 1 h2
  · exact State.dmaStop_spares _ 0 h2

theorem State.dmaDoorbell_spares (h : Spares [rTbStat] s0 s) : Spares [rTbStat] s0 (s.dmaDoorbell m n) := by
  dsimp -zeta only [State.dmaDoorbell]
  extract_lets c st ignored
  have hi : Spares [rTbStat] s0 ignored := by
    exact Spares.raiseLimited (h.incF _ _ _ (dmaF_apart n (by decide)))
  exact .ite (.ite (State.dmaLoad_spares _ h) hi) <| .ite hi <|
    .ite (.ite (State.setDma_spares 2 h) (State.dmaLoad_spares _ h)) (h.putF _ _ _ (dmaF_apart n (by decide)))

theorem State.queuedFire_spares (arg cmp : Nat) (h : Spares [rTbStat] s0 s) : Spares [rTbStat] s0 (s.queuedFire m arg cmp) := by
  delta State.queuedFire
  extract_lets c
  split
  · exact h.raiseBy ..
  · next ha =>
    have apart {f : Fld} (hf : f.addr = 0xE0080100) : apartFrom [rTbStat] (f.plus (0x10 * arg)).addr := by
      simp only [apartFrom, List.forall_mem_singleton, Fld.plus, rTbStat, hf]
      omega
    exact (((h.same rfl rfl).putF _ _ _ (apart rfl)).putF _ _ _ (apart rfl)).raiseBy ..

theorem State.setCmpTime_spares (hn : n < 64) (v : Nat) (h : Spares [rTbStat] s0 s) :
    Spares [rTbStat] s0 (s.setCmpTime m n v) :=
  ((h.putF _ _ _ (cmpF_apart hn (by decide))).putF _ _ _ (cmpF_apart hn (by decide))).putF _ _ _ (cmpF_apart hn (by decide))

theorem State.cmpEvent_spares (hn : n < 64) (time : Nat) (h : Spares [rTbStat] s0 s) :
    Spares [rTbStat] s0 (s.cmpEvent m n time) := by
  dsimp -zeta only [State.cmpEvent]
  extract_lets c f s1 s2 s3 s4
  have hf : apartFrom [rTbStat] f.addr := by
    unfold f
    split
    · show apartFrom [rTbStat] rTbCmplocalLo
      decide
    · show apartFrom [rTbStat] rTbCmplocalHi
      decide
  have h3 : Spares [rTbStat] s0 s3 :=
    ((h.putF _ _ _ hf).putF _ _ _ (cmpF_apart hn (by decide))).putF _ _ _ (cmpF_apart hn (by decide))
  have h4 : Spares [rTbStat] s0 s4 := .keeps (State.interrupt_keeps _ _ _ rfl (.refl _ s3)) h3
  exact .ite (h4.raiseBy ..) h4

theorem State.cmpFire_spares (hn : n < 64) (time : Nat) (stepped late : Bool) (h : Spares [rTbStat] s0 s) :
    Spares [rTbStat] s0 (s.cmpFire m n time stepped late) := by
  dsimp -zeta only [State.cmpFire]
  extract_lets c s1 s2 s3 s4 s5 s6 s7 s8 dbus
  have h2 : Spares [rTbStat] s0 s2 := (h.putF _ _ _ (cmpF_apart hn (by decide))).incF _ _ _ (cmpF_apart hn (by decide))
  have h3 : Spares [rTbStat] s0 s3 := .ite (h2.putF _ _ _ (cmpF_apart hn (by decide))) h2
  have h4 : Spares [rTbStat] s0 s4 := .ite (h3.putF _ _ _ (cmpF_apart hn (by decide))) h3
  have h5 : Spares [rTbStat] s0 s5 := .ite (State.setCmpTime_spares hn _ h4) (h4.putF _ _ _ (cmpF_apart hn (by decide)))
  have h6 : Spares [rTbStat] s0 s6 := .ite (State.cmpEvent_spares hn time h5) h5
  have h7 : Spares [rTbStat] s0 s7 := .ite (State.dmaDoorbell_spares h6) h6
  have h8 : Spares [rTbStat] s0 s8 := .ite (State.queuedFire_spares _ _ h7) h7
  exact h8.same rfl rfl

theorem State.cmpStep_spares (before after : Nat) (h : Spares [rTbStat] s0 s) :
    Spares [rTbStat] s0 (s.cmpStep m before after) := by
  refine .fold_mem (fun u k hk g => ?_) h
  have hk' : k < 64 := List.mem_range.1 hk
  have hfire : Spares [rTbStat] s0 (u.cmpFire m k after true false) := State.cmpFire_spares hk' _ _ _ g
  exact .ite (.ite (State.setCmpTime_spares hk' _ hfire) hfire) g

end

theorem foldl_fixed {α β : Type} {f : β → α → β} {b : β} {xs : List α} (h : ∀ x ∈ xs, f b x = b) : xs.foldl f b = b := by
  induction xs with
  | nil => rfl
  | cons x xs ih =>
    rw [List.foldl_cons, h x List.mem_cons_self]
    exact ih fun y hy => h y (List.mem_cons_of_mem _ hy)

/-- No time target is passed where no comparator is armed. -/
theorem State.cmpStep_of_unarmed {s : State} {m : Mast} (h : ∀ n < 64, s.cmp m n fTbCmpcfgArm = 0) (before after : Nat) :
    s.cmpStep m before after = s := by
  refine foldl_fixed fun n hn => if_neg ?_
  have hn' : n < 64 := List.mem_range.1 hn
  simp [State.cmpTimed, h n hn']

/-! ### The step -/

/-- The timebases of the powered masts move by `delta` ns. -/
def State.movedTb (s : State) (delta : Int) : Per Nat :=
  s.time.tb.map fun m v => if (s.masts.get m).powered then ((v : Int) + delta * (2 ^ 32 : Nat)).toNat else v

/-- The timebases have moved; ACQ_DONE shows it, and TIME_STEPPED tells it. -/
def State.stepClocks (s : State) (delta : Int) (kind : Nat) : State :=
  (({ s with time := { s.time with tb := s.movedTb delta, stepped := some kind } } : State).putF .agreed fTbStatAcqDone 1).raise
    evTimeStepped (clampArg (delta.tdiv 1000)) s.ctl.mode.code

/-- The time comparators that a step passes fire. -/
def State.firePassed (s : State) (old tb : Per Nat) : State :=
  Mast.all.foldl (fun s m => if s.triadRuns m then s.cmpStep m (old.get m / 2 ^ 32) (tb.get m / 2 ^ 32) else s) s

section
variable (s : State) (delta : Int) (kind : Nat)

theorem State.stepBy_eq : s.stepBy delta kind = (s.stepClocks delta kind).firePassed s.time.tb (s.movedTb delta) := rfl

theorem State.movedTb_get (m : Mast) : (s.movedTb delta).get m =
    if (s.mast m).powered then ((s.time.tb.get m : Int) + delta * 4294967296).toNat else s.time.tb.get m :=
  per_get_map ..

theorem State.stepClocks_servo : (s.stepClocks delta kind).servo = s.servo :=
  (State.getF_raise ..).trans (State.putF_servo 1 rfl (by decide) (by decide) (by decide))

theorem State.stepClocks_acqDone : (s.stepClocks delta kind).getF .agreed fTbStatAcqDone = 1 :=
  (State.getF_raise ..).trans (State.getF_putF _ _ fTbStatAcqDone 1 (by decide) (by decide))

theorem State.stepClocks_raised :
    raised (s.stepClocks delta kind) s.lane.active.mask evTimeStepped (clampArg (delta.tdiv 1000)) s.ctl.mode.code :=
  raised_raise _ _ _ _

theorem State.stepClocks_regsBut : regsBut [(.agreed, rTbStat)] s (s.stepClocks delta kind) :=
  regsBut_putF_self s .agreed fTbStatAcqDone 1 rfl (by decide)

theorem State.stepClocks_keeps {l : List Part} (hr : within [.regs] l = true) (hl : within [.log] l = true)
    (ht : within [.time] l = true) : Keeps l s (s.stepClocks delta kind) :=
  State.raise_keeps _ _ _ hl (State.putF_keeps _ _ _ hr (Keeps.upd_time _ ht (.refl _ s)))

end

section
variable {s s0 : State} {old tb : Per Nat}

theorem State.firePassed_spares (h : Spares [rTbStat] s0 s) : Spares [rTbStat] s0 (s.firePassed old tb) :=
  .fold (fun _ _ g => .ite (State.cmpStep_spares _ _ g) g) h

theorem State.firePassed_keeps {l : List Part}
    (hk : within [Part.regs, .masts, .log, .lane, .pos, .queue, .field, .mem] l = true) (h : Keeps l s0 s) :
    Keeps l s0 (s.firePassed old tb) :=
  .fold (fun _ _ g => .ite (State.cmpStep_keeps _ _ _ hk g) g) h

theorem State.firePassed_of_unarmed (h : ∀ m ∈ Mast.all, ∀ n < 64, s.cmp m n fTbCmpcfgArm = 0) : s.firePassed old tb = s :=
  foldl_fixed fun m hm => by rw [State.cmpStep_of_unarmed (h m hm), ite_self]

/-- A step leaves the events that wait, and of `TB_STAT` all but ACQ_DONE; the timebases move with the powered masts. -/
structure Stepped (s u : State) (delta : Int) (kind : Nat) : Prop where
  tb : ∀ m, u.time.tb.get m =
    if (s.mast m).powered then ((s.time.tb.get m : Int) + delta * 4294967296).toNat else s.time.tb.get m
  stepped : u.time.stepped = some kind
  held : u.time.heldFrom = s.time.heldFrom
  told : raised u s.lane.active.mask evTimeStepped (clampArg (delta.tdiv 1000)) s.ctl.mode.code
  servo : u.servo = s.servo
  acqDone : u.getF .agreed fTbStatAcqDone = 1
  keeps : Keeps [.time, .regs, .log, .pos, .masts, .mem, .lane, .queue, .field] s u

theorem State.stepBy_stepped (s : State) (delta : Int) (kind : Nat) : Stepped s (s.stepBy delta kind) delta kind := by
  let v := s.stepClocks delta kind
  have e := s.stepBy_eq delta kind
  have hs : Spares [rTbStat] v (s.stepBy delta kind) := e ▸ State.firePassed_spares (.refl _ v)
  have hk : Keeps [.regs, .masts, .log, .lane, .pos, .queue, .field, .mem] v (s.stepBy delta kind) :=
    e ▸ State.firePassed_keeps rfl (.refl _ v)
  have ht : (s.stepBy delta kind).time = v.time := hk.frame .time (by decide)
  refine ⟨fun m => ?_, ht ▸ rfl, ht ▸ rfl, hs.raised (s.stepClocks_raised delta kind), ?_, ?_, ?_⟩
  · rw [ht]
    exact s.movedTb_get delta m
  · exact (hs.getF (by decide)).trans (s.stepClocks_servo delta kind)
  · exact (hs.getF (by decide)).trans (s.stepClocks_acqDone delta kind)
  · rw [e]
    exact State.firePassed_keeps rfl (s.stepClocks_keeps delta kind rfl rfl rfl)

theorem State.stepBy_of_unarmed (h : ∀ m ∈ Mast.all, ∀ n < 64, s.cmp m n fTbCmpcfgArm = 0) (delta : Int) (kind : Nat) :
    s.stepBy delta kind = s.stepClocks delta kind := by
  refine State.firePassed_of_unarmed fun m hm n hn => .trans ?_ (h m hm n hn)
  refine State.getF_of_regsBut (s.stepClocks_regsBut delta kind) ?_ (by simp)
  simp only [cmpF, Fld.plus, fTbCmpcfgArm]
  omega

end

section
variable {s : State} {t : Nat} {writers : Per Bool}

theorem exec_forcedStep_of_stopped (ha : s.agreed writers = true) (hm : s.ctl.mode = .service ∨ s.ctl.mode = .stop) :
    exec (.forcedStep t writers 0x5453) s =
      if tbLocked ≤ ((s.advance t).stepToTarget 1).servo then .next (((s.advance t).stepToTarget 1).setServo tbLocked)
      else .next ((s.advance t).stepToTarget 1) := by
  have hm' : (s.advance t).inMode [.service, .stop] = true := by
    obtain h | h := hm <;> simp [State.inMode, State.advance, h]
  have ha' : (s.advance t).agreed writers = true := ha
  exact if_pos (by rw [ha', hm']; rfl)

theorem exec_initialAcquisition_of_new (ha : s.agreed writers = true)
    (hs : s.servo ≤ tbAcquiring ∧ s.getF .agreed fTbStatAcqDone = 0) :
    exec (.initialAcquisition t writers 0x5453) s = .next ((s.advance t).stepToTarget 2) := by
  have ha' : (s.advance t).agreed writers = true := ha
  have hs' : decide ((s.advance t).servo ≤ tbAcquiring) = true := decide_eq_true hs.1
  have hd : (s.advance t).getF .agreed fTbStatAcqDone = 0 := hs.2
  exact if_pos (by rw [ha', hs', hd]; rfl)

theorem exec_forcedStep_discarded {key : Nat}
    (h : s.agreed writers = false ∨ key ≠ 0x5453 ∨ s.ctl.mode ≠ .service ∧ s.ctl.mode ≠ .stop) :
    exec (.forcedStep t writers key) s = .next (s.advance t) := by
  refine if_neg fun e => ?_
  simp only [Bool.and_eq_true, beq_iff_eq, State.agreed_advance] at e
  obtain ⟨⟨ha, hk⟩, hm⟩ := e
  obtain h | h | ⟨h1, h2⟩ := h
  · rw [h] at ha
    exact absurd ha (by decide)
  · exact h hk
  · have hm' : [Mode.service, .stop].contains s.ctl.mode = true := hm
    simp_all

end
end Sys2Proof.Machine

/-!
# What each message does to the servo

Every case of R156 as one `Serves`, and with these the statement on the time servo.
-/

namespace Sys2Proof.Machine
open Sys2Proof.Safety

section
variable (s : State) {src : Nat} {off : Int}

theorem State.serves_counting (hsrc : src < 8) (h : s.servo = tbAcquiring) (ho : off.natAbs ≤ 1000)
    (hb : off.natAbs ≤ s.stepLimit ∨ s.getF .agreed fTbStatAcqDone = 0) (hn : s.time.within < 15) :
    Serves [.time, .regs] s (s.synced.measured src off) src tbAcquiring
      { s.time with syncAt := s.now, following := true, within := s.time.within + 1 } := by
  have hn' : ¬ 16 ≤ s.synced.time.within + 1 := Nat.not_le.2 (Nat.succ_lt_succ hn)
  rw [State.measured_of_acquiring (s := s.synced) h hb, if_pos ho, if_neg hn']
  exact h ▸ (s.synced_follows_serves hsrc rfl).setTime _ rfl

theorem State.serves_locking (hsrc : src < 8) (h : s.servo = tbAcquiring) (ho : off.natAbs ≤ 1000)
    (hb : off.natAbs ≤ s.stepLimit ∨ s.getF .agreed fTbStatAcqDone = 0) (hn : 15 ≤ s.time.within) :
    Serves [.time, .regs, .log] s (s.synced.measured src off) src tbLocked
      { s.time with syncAt := s.now, following := true, within := s.time.within + 1, heldFrom := none } ∧
    raised (s.synced.measured src off) s.lane.active.mask evTimeLocked src (clampArg off) := by
  have hn' : 16 ≤ s.synced.time.within + 1 := Nat.succ_le_succ hn
  rw [State.measured_of_acquiring (s := s.synced) h hb, if_pos ho, if_pos hn']
  exact ⟨(((s.synced_follows_serves hsrc rfl).setTime _ rfl).setServo (by decide) rfl).raise _ _ _ rfl, raised_raise _ _ _ _⟩

theorem State.serves_restart (hsrc : src < 8) (h : s.servo = tbAcquiring) (ho : 1000 < off.natAbs)
    (hb : off.natAbs ≤ s.stepLimit ∨ s.getF .agreed fTbStatAcqDone = 0) :
    Serves [.time, .regs] s (s.synced.measured src off) src tbAcquiring
      { s.time with syncAt := s.now, following := true, within := 0 } := by
  rw [State.measured_of_acquiring (s := s.synced) h hb, if_neg (Nat.not_le.2 ho)]
  exact h ▸ (s.synced_follows_serves hsrc rfl).setTime _ rfl

theorem State.serves_first (hsrc : src < 8) (h : s.servo = tbUnset) :
    Serves [.time, .regs, .log] s (s.synced.measured src off) src tbAcquiring
      { s.time with syncAt := s.now, following := true, heldFrom := none } ∧
    raised (s.synced.measured src off) s.lane.active.mask evTimeAcquired src (clampArg (off.tdiv 1000000)) := by
  rw [State.measured_of_unset (s := s.synced) h]
  exact ⟨((s.synced_follows_serves hsrc rfl).setServo (by decide) rfl).raise _ _ _ rfl, raised_raise _ _ _ _⟩

theorem State.serves_return (hsrc : src < 8) (h : s.servo = tbHoldover ∨ s.servo = tbRefused)
    (hb : off.natAbs ≤ s.stepLimit) :
    Serves [.time, .regs] s (s.synced.measured src off) src tbLocked
      { s.time with syncAt := s.now, following := true, heldFrom := none } := by
  rw [State.measured_of_returning (s := s.synced) h hb]
  exact (s.synced_follows_serves hsrc rfl).setServo (by decide) rfl

theorem State.serves_staying (hsrc : src < 8)
    (h : s.servo = tbLocked ∧ off.natAbs ≤ s.stepLimit ∨ s.servo = tbRefused ∧ s.stepLimit < off.natAbs) :
    Serves [.time, .regs] s (s.synced.measured src off) src s.servo
      { s.time with syncAt := s.now, following := true } := by
  rw [State.measured_of_staying (s := s.synced) h]
  exact s.synced_follows_serves hsrc rfl

theorem State.serves_refusal (hsrc : src < 8) (hb : s.stepLimit < off.natAbs)
    (h : s.servo = tbLocked ∨ s.servo = tbHoldover ∨ s.servo = tbAcquiring ∧ s.getF .agreed fTbStatAcqDone = 1) :
    Serves [.time, .regs, .log] s (s.synced.measured src off) src tbRefused
      { s.time with syncAt := s.now, following := true, heldFrom := some s.now } ∧
    raised (s.synced.measured src off) s.lane.active.mask evTimeStepRefused (clampArg (off.tdiv 1000))
      (s.getF .agreed fTbSteplimLimitUs) := by
  have hlim : (s.synced.follows src).getF .agreed fTbSteplimLimitUs = s.getF .agreed fTbSteplimLimitUs :=
    State.getF_putF_key _ _ _ _ _ _ (by decide)
  obtain ⟨-, -, told, -⟩ := (s.synced.follows src).refuseStep_leaves off
  rw [State.measured_of_beyond (s := s.synced) hb h]
  exact ⟨((s.synced_follows_serves hsrc rfl).setServo (by decide) rfl).raise _ _ _ rfl, hlim ▸ told⟩

end

section
variable {s : State}

/-- A step by command, with LOCKED shown where the servo has left ACQUIRING. -/
theorem Stepped.setLocked {u : State} {delta : Int} {kind : Nat} (h : Stepped s u delta kind) :
    (u.setServo tbLocked).time = { u.time with heldFrom := none } ∧ (u.setServo tbLocked).servo = tbLocked ∧
    (u.setServo tbLocked).getF .agreed fTbStatAcqDone = 1 ∧
    Keeps [.time, .regs, .log, .pos, .masts, .mem, .lane, .queue, .field] s (u.setServo tbLocked) :=
  ⟨rfl, State.setServo_servo (by decide), (State.setServo_getF tbLocked rfl (by decide) (by decide)).trans h.acqDone,
    State.setServo_keeps _ rfl h.keeps⟩

end

end Sys2Proof.Machine

/-! # The time servo's statement -/

namespace Sys2Proof.Machine
open Sys2Proof.Safety

section
variable {t gm port proto : Nat} {off : Int} {s : State}

theorem State.HearsPtp.proto_lt (h : s.HearsPtp gm port proto) : proto < 8 := by
  obtain ⟨-, hp⟩ := h.protocol
  omega

end

/-- Settles O24: each message is one case of R156, shown by what it leaves of the servo (`Serves`, `Stepped`). -/
theorem timeServo : Obligations.TimeServo := by
  unfold Obligations.TimeServo
  refine ⟨?counting, ?locking, ?restart, ?first, ?returning, ?staying, ?refusal, ?announce, ?lost, ?unheard, ?free, ?offset,
    ?offsetBeyond, ?offsetUnused, ?forced, ?forcedQuiet, ?initial, ?initialQuiet, ?discarded⟩
  case counting =>
    intro t gm port proto off s hw hp hm hr ha hg hs ⟨ho, hb⟩ hn
    have hears : s.HearsPtp gm port proto := ⟨hw, hp, hm, hr, ha⟩
    have k := (s.advance t).serves_counting hears.proto_lt hs ho hb hn
    exact ⟨_, exec_ptpMessage_sync hears hg off, k.time, k.servo, k.source, k.regs, k.keeps.frame⟩
  case locking =>
    intro t gm port proto off s hw hp hm hr ha hg hs ⟨ho, hb⟩ hn
    have hears : s.HearsPtp gm port proto := ⟨hw, hp, hm, hr, ha⟩
    obtain ⟨k, told⟩ := (s.advance t).serves_locking hears.proto_lt hs ho hb hn
    exact ⟨_, exec_ptpMessage_sync hears hg off, k.time, k.servo, told, k.source, k.regs, k.keeps.frame⟩
  case restart =>
    intro t gm port proto off s hw hp hm hr ha hg hs ⟨ho, hb⟩
    have hears : s.HearsPtp gm port proto := ⟨hw, hp, hm, hr, ha⟩
    have k := (s.advance t).serves_restart hears.proto_lt hs ho hb
    exact ⟨_, exec_ptpMessage_sync hears hg off, k.time, k.servo, k.source, k.regs, k.keeps.frame⟩
  case first =>
    intro t gm port proto off s hw hp hm hr ha hg hs
    have hears : s.HearsPtp gm port proto := ⟨hw, hp, hm, hr, ha⟩
    obtain ⟨k, told⟩ := (s.advance t).serves_first (off := off) hears.proto_lt hs
    exact ⟨_, exec_ptpMessage_sync hears hg off, k.time, k.servo, told, k.source, k.regs, k.keeps.frame⟩
  case returning =>
    intro t gm port proto off s hw hp hm hr ha hg hs hb
    have hears : s.HearsPtp gm port proto := ⟨hw, hp, hm, hr, ha⟩
    have k := (s.advance t).serves_return hears.proto_lt hs hb
    exact ⟨_, exec_ptpMessage_sync hears hg off, k.time, k.servo, k.source, k.regs, k.keeps.frame⟩
  case staying =>
    intro t gm port proto off s hw hp hm hr ha hg hs
    have hears : s.HearsPtp gm port proto := ⟨hw, hp, hm, hr, ha⟩
    have k := (s.advance t).serves_staying hears.proto_lt hs
    exact ⟨_, exec_ptpMessage_sync hears hg off, k.time, k.servo, k.source, k.regs, k.keeps.frame⟩
  case refusal =>
    intro t gm port proto off s hw hp hm hr ha hg hs hb
    have hears : s.HearsPtp gm port proto := ⟨hw, hp, hm, hr, ha⟩
    obtain ⟨k, told⟩ := (s.advance t).serves_refusal hears.proto_lt hb hs
    exact ⟨_, exec_ptpMessage_sync hears hg off, k.time, k.servo, told, k.source, k.regs, k.keeps.frame⟩
  case announce =>
    intro t gm port proto a s hw hp hm hr ha hb hport
    have hears : s.HearsPtp gm port proto := ⟨hw, hp, hm, hr, ha⟩
    let u := (s.advance t).hearAnnounce gm port a
    let h : Heard := ⟨gm, port, a, (s.advance t).now⟩
    obtain ⟨shown, servo, told, regs, keeps⟩ := u.showMaster_leaves (h := h) (show port - 1 < 4 by omega)
    refine ⟨_, exec_ptpMessage_announce hears a, ?_⟩
    rw [State.announced_of_best _ hb, State.followMaster_eq]
    have k : Keeps [.time, .regs, .log] (s.advance t) u := Keeps.upd_time _ rfl (.refl _ _)
    refine ⟨rfl, shown, servo, fun g hg hne => told ?_, regs, sameBut_trans k.frame (Keeps.upd_time _ rfl keeps).frame⟩
    have e : u.time.gm = some g := hg
    simpa [State.followsOther, e] using hne
  case lost =>
    intro t s hf hs hd
    obtain ⟨servo, time, told, regs, keeps⟩ := (s.advance t).sourceLost_leaves hs
    exact ⟨_, exec_timeSourceLost_of_due hf (State.lossDue_of_silence hd), servo, time, told, regs, keeps.frame⟩
  case unheard =>
    intro t s hf hs hsrc hd
    obtain ⟨servo, time, told, regs, keeps⟩ := (s.advance t).sourceLost_leaves hs
    exact ⟨_, exec_timeSourceLost_of_due hf (State.lossDue_of_unheard hsrc hd), servo, time, told, regs, keeps.frame⟩
  case free =>
    intro t s hf hs hd
    refine ⟨_, exec_timeSourceLost_of_due hf (State.lossDue_of_silence (.inl hd)), ?_⟩
    rw [State.sourceLost_of_free (s := s.advance t) hs]
    have k : Keeps [.time] (s.advance t)
        { s.advance t with time := { (s.advance t).time with following := false, within := 0 } } :=
      Keeps.upd_time _ rfl (.refl _ _)
    exact ⟨rfl, k.frame⟩
  case offset =>
    intro t writers value s ha hm hb
    let u : State := { s.advance t with time := { (s.advance t).time with slew := value.toInt * (2 ^ 32 : Nat) } }
    have k : Keeps [.time, .regs] (s.advance t) (u.putF .agreed fTbSlewremNs value.toNat) :=
      State.putF_keeps _ _ _ rfl (Keeps.upd_time _ rfl (.refl _ _))
    exact ⟨_, (exec_tbOffsetWrite_of_applied ha hm).trans (if_neg (Nat.not_lt.2 hb)), rfl,
      (State.getF_putF u .agreed fTbSlewremNs _ (by decide) (by decide)).trans (Nat.mod_eq_of_lt value.isLt),
      regsBut_putF_self u .agreed fTbSlewremNs _ rfl (by decide), k.frame⟩
  case offsetBeyond =>
    intro t writers value s ha hm hb
    obtain ⟨servo, time, told, regs, keeps⟩ := (s.advance t).refuseStep_leaves value.toInt
    exact ⟨_, (exec_tbOffsetWrite_of_applied ha hm).trans (if_pos hb), servo, time, told, regs, keeps.frame⟩
  case offsetUnused =>
    intro t writers value s h
    exact ⟨_, exec_tbOffsetWrite_of_unused h, rfl⟩
  case forced =>
    intro t writers s ha hm
    have k := (s.advance t).stepBy_stepped ((s.advance t).stepTarget - (s.advance t).moduleTime) 1
    obtain ⟨time, servo, acqDone, keeps⟩ := k.setLocked
    have hu : ((s.advance t).stepToTarget 1).servo = s.servo := k.servo
    rw [exec_forcedStep_of_stopped ha hm, hu]
    by_cases hl : tbLocked ≤ s.servo
    · rw [if_pos hl, if_pos hl]
      exact ⟨_, rfl, k.tb, k.stepped, k.told, servo, acqDone, keeps.frame⟩
    · rw [if_neg hl, if_neg hl]
      exact ⟨_, rfl, k.tb, k.stepped, k.told, k.servo, k.acqDone, k.keeps.frame⟩
  case forcedQuiet =>
    intro t writers s ha hm hc
    let delta : Int := (s.advance t).stepTarget - (s.advance t).moduleTime
    have e : (s.advance t).stepToTarget 1 = (s.advance t).stepClocks delta 1 :=
      State.stepBy_of_unarmed (s := s.advance t) hc delta 1
    have regs := (s.advance t).stepClocks_regsBut delta 1
    have keeps : Keeps [.time, .regs, .log] (s.advance t) ((s.advance t).stepClocks delta 1) :=
      State.stepClocks_keeps _ _ _ rfl rfl rfl
    rw [exec_forcedStep_of_stopped ha hm, e]
    split
    · exact ⟨_, rfl, rfl, regsBut_trans regs (State.setServo_regsBut tbLocked), (State.setServo_keeps _ rfl keeps).frame⟩
    · exact ⟨_, rfl, rfl, regs, keeps.frame⟩
  case initial =>
    intro t writers s ha hs
    have k := (s.advance t).stepBy_stepped ((s.advance t).stepTarget - (s.advance t).moduleTime) 2
    exact ⟨_, exec_initialAcquisition_of_new ha hs, k.tb, k.stepped, k.told, k.servo, k.held, k.acqDone, k.keeps.frame⟩
  case initialQuiet =>
    intro t writers s ha hs hc
    refine ⟨_, exec_initialAcquisition_of_new ha hs, ?_⟩
    unfold State.stepToTarget
    rw [State.stepBy_of_unarmed (s := s.advance t) hc]
    exact ⟨rfl, State.stepClocks_regsBut _ _ _, (State.stepClocks_keeps _ _ _ rfl rfl rfl).frame⟩
  case discarded =>
    intro t writers key s h
    exact exec_forcedStep_discarded h

end Sys2Proof.Machine

/-!
# The ring's members and its master

A change of master names it (`State.namesMaster`); the module then becomes a member (role 1) or the master (role 2), which sends a
TIME frame.
-/

namespace Sys2Proof.Machine
open Sys2Proof.Safety

/-! ### Sending and showing -/

section
variable (s : State)

theorem State.getF_incF_half (c : Copy) (f : Fld) (n : Nat) (hh : f.hi < 32) (hl : f.lo ≤ f.hi) (hw : f.hi + 1 - f.lo = 16) :
    (s.incF c f n).getF c f = min 65535 (s.getF c f + n) := by
  rw [State.getF_incF _ _ _ _ hh hl, hw]
  rfl

/-- Sending a ring frame changes what has been sent and the sequence numbers alone. -/
theorem State.slSend_leaves (typ dst frag frags : Nat) (payload : List Byte) :
    (s.slSend typ dst frag frags payload).stay =
      { s.stay with
        sent := (s.slSend typ dst frag frags payload).stay.sent
        seqs := (s.slSend typ dst frag frags payload).stay.seqs } ∧
    (s.slSend typ dst frag frags payload).regs = s.regs ∧ (s.slSend typ dst frag frags payload).log = s.log := by
  unfold State.slSend
  split <;> exact ⟨rfl, rfl, rfl⟩

theorem State.slSend_sent (h : s.owned 7 = true) (typ dst frag frags : Nat) (payload : List Byte) :
    (s.slSend typ dst frag frags payload).stay.sent.head? = some (slFrame typ s.ownSlot dst
      (((s.stay.seqs.find? fun e => e.1 == typ).map Prod.snd).getD 0) frag frags 0 payload) := by
  have hn : ¬ (!s.owned 7) = true := by simp [h]
  unfold State.slSend
  rw [if_neg hn]
  cases s.stay.seqs.find? fun e => e.1 == typ <;> rfl

/-- From `s` to `u` who is a member is shown anew: the members themselves, the role and the master stay. -/
structure ShowsMembers (s u : State) : Prop where
  members : u.stay.members = s.stay.members
  pref : u.stay.pref = s.stay.pref
  master : u.slMaster = s.slMaster
  role : u.slRole = s.slRole
  regs : regsBut [(.agreed, rSlStat), (.agreed, rSlMembers), (.agreed, rSlShare)] s u

theorem ShowsMembers.same {s u v : State} (h : ShowsMembers s u) (hr : v.regs = u.regs)
    (hm : v.stay.members = u.stay.members) (hp : v.stay.pref = u.stay.pref) : ShowsMembers s v :=
  ⟨hm.trans h.members, hp.trans h.pref, (State.getF_of_regs hr ..).trans h.master, (State.getF_of_regs hr ..).trans h.role,
    regsBut_trans h.regs (regsBut_of_regs hr)⟩

theorem State.showMembers_shows : ShowsMembers s s.showMembers := by
  delta State.showMembers
  extract_lets s1 s2 s3 is x s4
  have first : regsBut [(.agreed, rSlStat)] s s1 := regsBut_putF_self s .agreed fSlStatMembers _ rfl (by decide)
  have later : regsBut [(.agreed, rSlMembers), (.agreed, rSlShare)] s1 s3 :=
    regsBut_trans (regsBut_setReg s1 .agreed rSlMembers _ (by decide) (by decide))
      (regsBut_putF s2 .agreed fSlShareTotal _ (by decide) (by decide))
  have stat {f : Fld} (ha : f.addr = rSlStat) (hl : f.lo ≤ f.hi) (hf : f.hi < 16) : s3.getF .agreed f = s.getF .agreed f :=
    (State.getF_of_regsBut later (ha ▸ by decide) (ha ▸ by decide)).trans
      (State.getF_putF_bits s .agreed fSlStatMembers f _ ha (by decide) (by decide) hl (.inl hf))
  have h3 : ShowsMembers s s3 :=
    ⟨rfl, rfl, stat rfl (by decide) (by decide), stat rfl (by decide) (by decide),
      regsBut_trans (regsBut_mono first (by decide)) (regsBut_mono later (by decide))⟩
  have h4 : ShowsMembers s s4 := h3.same rfl rfl rfl
  split
  · exact h3
  · split
    · exact h4.same (State.raise_regs ..) rfl rfl
    · exact h4

theorem ShowsMembers.ownSlot {s u : State} (h : ShowsMembers s u) : u.ownSlot = s.ownSlot :=
  State.getF_of_regsBut h.regs (by decide) (by decide)

theorem State.ranks_congr {s u : State} (hm : u.stay.members = s.stay.members) (hp : u.stay.pref = s.stay.pref)
    (ho : u.ownSlot = s.ownSlot) (hr : u.slRole = 0 ↔ s.slRole = 0) : u.ranks = s.ranks := by
  unfold State.ranks State.ownRank
  simp only [hm, hp, ho, hr]

end

/-! ### A change of master -/

/-- The new master is shown, told and counted (R164, R369). -/
def State.namesMaster (s : State) (slot : Nat) : State :=
  ((s.raise evSlMaster slot s.slMaster).incF .agreed fSlElectElections 1).putF .agreed fSlStatMaster slot

/-- From `s` to `u` the master has become `slot` and the module's role `role`. -/
structure TakesMaster (s u : State) (slot role : Nat) : Prop where
  master : u.slMaster = slot
  role : u.slRole = role
  told : raised u s.lane.active.mask evSlMaster slot s.slMaster
  elections : u.getF .agreed fSlElectElections = min 255 (s.getF .agreed fSlElectElections + 1)

section
variable (s : State) {slot : Nat}

theorem State.namesMaster_regsBut : regsBut [(.agreed, rSlStat), (.agreed, rSlElect)] s (s.namesMaster slot) := by
  let u := s.raise evSlMaster slot s.slMaster
  have hu : regsBut [(.agreed, rSlStat), (.agreed, rSlElect)] s u := regsBut_of_regs (State.raise_regs s ..)
  exact regsBut_trans hu <| regsBut_trans (regsBut_putF u .agreed fSlElectElections _ (by decide) (by decide))
    (regsBut_putF _ .agreed fSlStatMaster _ (by decide) (by decide))

theorem State.namesMaster_keeps {l : List Part} (hr : within [.regs] l = true) (hl : within [.log] l = true) :
    Keeps l s (s.namesMaster slot) :=
  State.putF_keeps _ _ _ hr <| State.incF_keeps _ _ _ hr <| State.raise_keeps _ _ _ hl (.refl _ s)

theorem State.namesMaster_elections :
    (s.namesMaster slot).getF .agreed fSlElectElections = min 255 (s.getF .agreed fSlElectElections + 1) := by
  refine (State.getF_putF_key _ _ _ _ _ _ (by decide)).trans ?_
  rw [State.getF_incF_byte _ .agreed fSlElectElections (by decide) (by decide) rfl, State.getF_raise]

theorem State.namesMaster_putRole (hs : slot < 32) {role : Nat} (hr : role < 4) :
    TakesMaster s ((s.namesMaster slot).putF .agreed fSlStatRole role) slot role where
  master :=
    (State.getF_putF_bits _ .agreed fSlStatRole fSlStatMaster _ rfl (by decide) (by decide) (by decide) (.inr (by decide))).trans <|
      (State.getF_putF _ .agreed fSlStatMaster _ (by decide) (by decide)).trans (Nat.mod_eq_of_lt hs)
  role := (State.getF_putF _ .agreed fSlStatRole _ (by decide) (by decide)).trans (Nat.mod_eq_of_lt hr)
  told := (raised_raise s evSlMaster slot s.slMaster)
  elections := (State.getF_putF_key _ _ _ _ _ _ (by decide)).trans s.namesMaster_elections

/-- No application is being fetched, so a change of master interrupts nothing (R71). -/
theorem State.fetchInterrupted_of_idle (h : s.getF .agreed fSlAppfetchState ≠ 2) : s.fetchInterrupted = s := if_neg h

theorem State.slSetMaster_of_other (hm : s.slMaster ≠ slot) (hf : s.getF .agreed fSlAppfetchState ≠ 2) (ho : slot ≠ s.ownSlot) :
    s.slSetMaster slot = (s.namesMaster slot).putF .agreed fSlStatRole 1 := by
  have own : (s.namesMaster slot).ownSlot = s.ownSlot := State.getF_of_regsBut s.namesMaster_regsBut (by decide) (by decide)
  have hn : ¬ slot = (s.namesMaster slot).ownSlot := own ▸ ho
  unfold State.slSetMaster
  rw [s.fetchInterrupted_of_idle hf]
  exact (if_neg hm).trans (if_neg hn)

/-- The module is master: its offset is 0 (R370). -/
def State.becomesMaster (s : State) (slot : Nat) : State :=
  ((s.namesMaster slot).putF .agreed fSlStatRole 2).putF .agreed fSlTimeofsNs 0

theorem State.slSetMaster_of_own (hm : s.slMaster ≠ slot) (hf : s.getF .agreed fSlAppfetchState ≠ 2) (ho : slot = s.ownSlot) :
    s.slSetMaster slot = (s.becomesMaster slot).slSend 1 0 0 1
      ((s.becomesMaster slot).slTimePayload (s.becomesMaster slot).moduleTime) := by
  have own : (s.namesMaster slot).ownSlot = s.ownSlot := State.getF_of_regsBut s.namesMaster_regsBut (by decide) (by decide)
  have hn : slot = (s.namesMaster slot).ownSlot := own ▸ ho
  unfold State.slSetMaster
  rw [s.fetchInterrupted_of_idle hf]
  exact (if_neg hm).trans (if_pos hn)

/-- Another member becomes master. -/
theorem State.slSetMaster_other_takes (hm : s.slMaster ≠ slot) (hf : s.getF .agreed fSlAppfetchState ≠ 2)
    (ho : slot ≠ s.ownSlot) (hs : slot < 32) :
    TakesMaster s (s.slSetMaster slot) slot 1 ∧
    regsBut [(.agreed, rSlStat), (.agreed, rSlElect)] s (s.slSetMaster slot) ∧
    Keeps [.regs, .log] s (s.slSetMaster slot) := by
  rw [s.slSetMaster_of_other hm hf ho]
  exact ⟨s.namesMaster_putRole hs (by decide),
    regsBut_trans s.namesMaster_regsBut (regsBut_putF _ .agreed fSlStatRole _ (by decide) (by decide)),
    State.putF_keeps _ _ _ rfl (s.namesMaster_keeps rfl rfl)⟩

/-- The module becomes master. -/
theorem State.becomesMaster_takes (hs : slot < 32) :
    TakesMaster s (s.becomesMaster slot) slot 2 ∧ (s.becomesMaster slot).getF .agreed fSlTimeofsNs = 0 ∧
    regsBut [(.agreed, rSlStat), (.agreed, rSlElect), (.agreed, rSlTimeofs)] s (s.becomesMaster slot) ∧
    Keeps [.stay, .regs, .log] s (s.becomesMaster slot) := by
  have take := s.namesMaster_putRole hs (role := 2) (by decide)
  have last : regsBut [(.agreed, rSlTimeofs)] ((s.namesMaster slot).putF .agreed fSlStatRole 2) (s.becomesMaster slot) :=
    regsBut_putF_self _ .agreed fSlTimeofsNs _ rfl (by decide)
  have regs : regsBut [(.agreed, rSlStat), (.agreed, rSlElect)] s ((s.namesMaster slot).putF .agreed fSlStatRole 2) :=
    regsBut_trans s.namesMaster_regsBut (regsBut_putF _ .agreed fSlStatRole _ (by decide) (by decide))
  refine ⟨⟨?_, ?_, (raised_of_log (State.putF_log ..) ..).2 take.told, ?_⟩,
    State.getF_putF _ .agreed fSlTimeofsNs 0 (by decide) (by decide),
    regsBut_trans (regsBut_mono regs (by decide)) (regsBut_mono last (by decide)), ?_⟩
  · exact (State.getF_of_regsBut last (by decide) (by decide)).trans take.master
  · exact (State.getF_of_regsBut last (by decide) (by decide)).trans take.role
  · exact (State.getF_of_regsBut last (by decide) (by decide)).trans take.elections
  · exact State.putF_keeps _ _ _ rfl <| State.putF_keeps _ _ _ rfl (s.namesMaster_keeps rfl rfl)

/-- What sending changes is nothing of a new master. -/
theorem TakesMaster.slSend {s u : State} {slot role : Nat} (h : TakesMaster s u slot role) (typ dst frag frags : Nat)
    (payload : List Byte) : TakesMaster s (u.slSend typ dst frag frags payload) slot role := by
  obtain ⟨-, hr, hl⟩ := u.slSend_leaves typ dst frag frags payload
  exact ⟨(State.getF_of_regs hr ..).trans h.master, (State.getF_of_regs hr ..).trans h.role,
    (raised_of_log hl ..).2 h.told, (State.getF_of_regs hr ..).trans h.elections⟩

/-- A module that becomes master sends a TIME frame (R370). -/
theorem State.slSetMaster_own_takes (hm : s.slMaster ≠ slot) (hf : s.getF .agreed fSlAppfetchState ≠ 2) (ho : slot = s.ownSlot)
    (hs : slot < 32) :
    TakesMaster s (s.slSetMaster slot) slot 2 ∧ (s.slSetMaster slot).getF .agreed fSlTimeofsNs = 0 ∧
    (s.slSetMaster slot).stay =
      { s.stay with sent := (s.slSetMaster slot).stay.sent, seqs := (s.slSetMaster slot).stay.seqs } ∧
    (s.owned 7 = true → (s.slSetMaster slot).stay.sent.head? = some (slFrame 1 slot 0
      (((s.stay.seqs.find? fun e => e.1 == 1).map Prod.snd).getD 0) 0 1 0 (s.slTimePayload s.moduleTime))) ∧
    regsBut [(.agreed, rSlStat), (.agreed, rSlElect), (.agreed, rSlTimeofs)] s (s.slSetMaster slot) ∧
    Keeps [.stay, .regs, .log] s (s.slSetMaster slot) := by
  obtain ⟨take, ofs, regs, keeps⟩ := s.becomesMaster_takes hs
  have servo : (s.becomesMaster slot).servo = s.servo := State.getF_of_regsBut regs (by decide) (by decide)
  have own : (s.becomesMaster slot).ownSlot = slot := (State.getF_of_regsBut regs (by decide) (by decide)).trans ho.symm
  have payload : (s.becomesMaster slot).slTimePayload (s.becomesMaster slot).moduleTime = s.slTimePayload s.moduleTime := by
    unfold State.slTimePayload
    rw [servo]
    rfl
  rw [s.slSetMaster_of_own hm hf ho, payload]
  obtain ⟨stay, hr, hl⟩ := (s.becomesMaster slot).slSend_leaves 1 0 0 1 (s.slTimePayload s.moduleTime)
  refine ⟨take.slSend .., (State.getF_of_regs hr ..).trans ofs, stay, fun hown => ?_,
    regsBut_trans regs (regsBut_of_regs hr), State.slSend_keeps _ _ _ _ _ rfl keeps⟩
  have sent := (s.becomesMaster slot).slSend_sent hown 1 0 0 1 (s.slTimePayload s.moduleTime)
  rwa [own] at sent

end
end Sys2Proof.Machine

/-!
# Elections, and the ring's links

A member that leaves may leave the ring without a master; the module then names the member of lowest rank (`State.slElect`).
-/

namespace Sys2Proof.Machine
open Sys2Proof.Safety

section
variable {s u : State} {slot : Nat}

/-! ### Elections -/

theorem State.slElect_of_unled (hr : s.slRole ≠ 0) (hm : s.slMaster = 0 ∨ s.slIsMember s.slMaster = false)
    (hn : ∀ m ∈ s.stay.members, m.master = 0 ∨ s.slIsMember m.master = false) (hl : lowestRank s.ranks = some slot) :
    s.slElect = s.slSetMaster slot := by
  have hgo : ¬ (s.slRole = 0 ∨ (s.slMaster ≠ 0 ∧ s.slIsMember s.slMaster = true)) := by
    rintro (e | ⟨e, e'⟩)
    · exact hr e
    · exact hm.elim e fun h => by simp [h] at e'
  have hnamed : (s.stay.members.find? fun m => m.master != 0 && s.slIsMember m.master) = none :=
    List.find?_eq_none.2 fun m h => by
      obtain e | e := hn m h <;> simp [e]
  unfold State.slElect
  rw [if_neg hgo, hnamed, hl]

theorem State.sourceLost_spares (h : s.servo = tbLocked ∨ s.servo = tbRefused) : Spares [] s s.sourceLost := by
  rw [State.sourceLost_of_following h]
  have shown : Spares [] s (s.putF .agreed fTbStatState tbHoldover) := (Spares.refl [] s).putF _ _ _ (by simp [apartFrom])
  exact (Spares.same (t := ({ s with time := { s.time with following := false, within := 0 } } : State).setServo tbHoldover)
    rfl rfl shown).raise ..

/-- Another member that becomes master leaves the events that wait. -/
theorem State.slSetMaster_other_spares (hm : s.slMaster ≠ slot) (hf : s.getF .agreed fSlAppfetchState ≠ 2) (ho : slot ≠ s.ownSlot) :
    Spares [] s (s.slSetMaster slot) := by
  have apart (a : Nat) : apartFrom [] a := by simp [apartFrom]
  rw [s.slSetMaster_of_other hm hf ho]
  exact ((((Spares.refl [] s).raise ..).incF _ _ _ (apart _)).putF _ _ _ (apart _)).putF _ _ _ (apart _)

/-! ### A member leaves -/

/-- The member is one no more. -/
def State.dropMember (s : State) (slot : Nat) : State :=
  { s with stay := { s.stay with members := s.stay.members.filter fun m => m.slot != slot } }

/-- That the member has left is shown and told. -/
def State.memberLeaves (s : State) (slot : Nat) : State :=
  (s.dropMember slot).showMembers.raise evSlLeft slot (s.dropMember slot).showMembers.ranks.length

theorem exec_memberTimeout_of_silent {t : Nat} {x : SlMember} (h : s.stay.members.find? (fun m => m.slot == slot) = some x)
    (ht : x.heard + 3 * ms ≤ t) : exec (.memberTimeout t slot) s =
      if ((s.advance t).memberLeaves slot).slMaster = slot then
        .next (if ((s.advance t).memberLeaves slot).getF .agreed fTbStatSrc = 3 then ((s.advance t).memberLeaves slot).sourceLost
          else (s.advance t).memberLeaves slot).slElect
      else .next ((s.advance t).memberLeaves slot) := by
  have h' : (s.advance t).stay.members.find? (fun m => m.slot == slot) = some x := h
  have hlate : ¬ (s.advance t).now < x.heard + 3 * ms := Nat.not_lt.2 (Nat.le_trans ht (Nat.le_max_right _ _))
  show execMemberTimeout t slot s = _
  unfold execMemberTimeout
  simp only [h', if_neg hlate]
  rfl

theorem State.memberLeaves_shows : ShowsMembers (s.dropMember slot) (s.memberLeaves slot) :=
  (s.dropMember slot).showMembers_shows.same (State.raise_regs ..) rfl rfl

theorem State.memberLeaves_keeps : Keeps [.stay, .regs, .log] s (s.memberLeaves slot) :=
  State.raise_keeps _ _ _ rfl <| State.showMembers_keeps rfl <| Keeps.upd_stay _ rfl (.refl _ s)

/-- The members that are left, with their ranks. -/
theorem State.memberLeaves_ranks (hn : slot ≠ s.ownSlot) : (s.memberLeaves slot).ranks = s.ranks.filter fun r => r.1 != slot := by
  have k : ShowsMembers (s.dropMember slot) (s.memberLeaves slot) := State.memberLeaves_shows
  have hown : (s.ownSlot != slot) = true := by simpa using Ne.symm hn
  rw [State.ranks_congr k.members k.pref k.ownSlot (by rw [k.role])]
  show (if s.slRole = 0 then [] else [(s.ownSlot, s.ownRank)]) ++ ((s.stay.members.filter fun m => m.slot != slot).map
    fun m => (m.slot, m.rank)) = _
  unfold State.ranks
  rw [List.filter_append, List.filter_map]
  congr 1
  split <;> simp [hown]

theorem State.memberLeaves_told {v : State} (hr : v.ranks = (s.memberLeaves slot).ranks) (hs : Spares [] (s.memberLeaves slot) v) :
    raised v s.lane.active.mask evSlLeft slot v.ranks.length := by
  have lane : (s.dropMember slot).showMembers.lane = s.lane :=
    (State.showMembers_keeps (l := [.regs, .log, .stay]) rfl (.refl _ (s.dropMember slot))).frame .lane (by decide)
  have told := raised_raise (s.dropMember slot).showMembers evSlLeft slot (s.dropMember slot).showMembers.ranks.length
  have same : v.ranks = (s.dropMember slot).showMembers.ranks := hr
  rw [lane] at told
  refine hs.raised ?_
  rw [same]
  exact told

end
end Sys2Proof.Machine

/-! # The ring's statement -/

namespace Sys2Proof.Machine
open Sys2Proof.Safety

section
variable {s : State} {t slot : Nat}

/-- The PRESENCE payload (R369). -/
def State.presencePayload (s : State) : List Byte :=
  natLe 1 s.ownRank ++ natLe 1 s.slMaster ++ natLe 2 (s.getF .agreed fSlShareOwn) ++
    natLe 4 (s.getF .agreed fTbAicycleCycleUs) ++ natLe 4 s.aiOffset

theorem exec_presenceSend_of_unled (hr : s.slRole ≠ 0) (h : s.stay.joinedAt + 3 * ms ≤ max s.now t) :
    exec (.presenceSend t) s =
      .next ((s.advance t).slElect.slSend 2 0 0 1 (s.advance t).slElect.presencePayload) := by
  have elects : (if (s.advance t).stay.joinedAt + 3 * ms ≤ (s.advance t).now then (s.advance t).slElect else s.advance t) =
      (s.advance t).slElect := if_pos h
  exact (if_neg hr).trans (congrArg (fun u : State => ok (u.slSend 2 0 0 1 u.presencePayload)) elects)

/-- The new master's rank is lower than the running one's (R369). -/
def State.outranks (s : State) (rank : Nat) : Bool := s.ranks.any fun r => r.1 == s.slMaster && decide (rank < r.2)

theorem exec_masterTakeover_of_own (hr : s.slRole ≠ 0) (hm : s.slMaster ≠ 0 ∧ slot ≠ s.slMaster) (ho : slot = s.ownSlot)
    (h : 64 ≤ s.stay.ownInstants ∧ s.time.rackMismatch = false ∧ s.outranks s.ownRank = true) :
    exec (.masterTakeover t slot) s = .next ((s.advance t).slSetMaster slot) := by
  obtain ⟨hi, hx, hl⟩ := h
  refine (if_neg (by rintro (e | e | e); exacts [hr e, hm.1 e, hm.2 e])).trans ((if_pos ho).trans (if_pos ?_))
  have hi' : decide (64 ≤ (s.advance t).stay.ownInstants) = true := decide_eq_true hi
  have hx' : (s.advance t).time.rackMismatch = false := hx
  rw [hi', hx']
  exact Bool.and_true _ ▸ hl

theorem exec_masterTakeover_of_member {x : SlMember} (hr : s.slRole ≠ 0) (hm : s.slMaster ≠ 0 ∧ slot ≠ s.slMaster)
    (ho : slot ≠ s.ownSlot) (hf : s.stay.members.find? (fun m => m.slot == slot) = some x)
    (h : 64 ≤ x.instants ∧ s.outranks x.rank = true) :
    exec (.masterTakeover t slot) s = .next ((s.advance t).slSetMaster slot) := by
  have hf' : (s.advance t).stay.members.find? (fun m => m.slot == slot) = some x := hf
  have hi : decide (64 ≤ x.instants) = true := decide_eq_true h.1
  refine (if_neg (by rintro (e | e | e); exacts [hr e, hm.1 e, hm.2 e])).trans ((if_neg ho).trans ?_)
  rw [hf']
  refine if_pos ?_
  rw [hi]
  exact h.2

/-! ### The ring's links -/

/-- A fold is shown and counted, with the frames lost (R367). -/
def State.foldsRing (s : State) (neighbour lost : Nat) : State :=
  ((({ s with stay := { s.stay with wraps := neighbour :: s.stay.wraps } } : State).putF .agreed fSlStatWrapped 1).incF .agreed
    fSlElectWraps 1).incF .agreed fSlFramesDropped lost

theorem exec_ringWrap_of_whole {neighbour lost : Nat} (hr : s.slRole ≠ 0) (hw : s.stay.wraps.contains neighbour = false) :
    exec (.ringWrap t neighbour lost) s = .next (((s.advance t).foldsRing neighbour lost).raise evSlWrap neighbour 1) :=
  if_neg (by rintro (e | e); exacts [hr e, Bool.false_ne_true (hw.symm.trans e)])

theorem State.foldsRing_leaves (s : State) (neighbour lost : Nat) :
    (s.foldsRing neighbour lost).getF .agreed fSlStatWrapped = 1 ∧
    (s.foldsRing neighbour lost).getF .agreed fSlElectWraps = min 255 (s.getF .agreed fSlElectWraps + 1) ∧
    (s.foldsRing neighbour lost).getF .agreed fSlFramesDropped = min 65535 (s.getF .agreed fSlFramesDropped + lost) ∧
    regsBut [(.agreed, rSlStat), (.agreed, rSlElect), (.agreed, rSlFrames)] s (s.foldsRing neighbour lost) ∧
    Keeps [.stay, .regs, .log] s (s.foldsRing neighbour lost) := by
  let u : State := ({ s with stay := { s.stay with wraps := neighbour :: s.stay.wraps } } : State).putF .agreed fSlStatWrapped 1
  let v := u.incF .agreed fSlElectWraps 1
  let w := v.incF .agreed fSlFramesDropped lost
  have hu : regsBut [(.agreed, rSlStat)] s u := regsBut_putF_self s .agreed fSlStatWrapped 1 rfl (by decide)
  have hv : regsBut [(.agreed, rSlElect)] u v := regsBut_putF_self u .agreed fSlElectWraps _ rfl (by decide)
  have hw : regsBut [(.agreed, rSlFrames)] v w := regsBut_putF_self v .agreed fSlFramesDropped _ rfl (by decide)
  have wraps : v.getF .agreed fSlElectWraps = min 255 (s.getF .agreed fSlElectWraps + 1) := by
    rw [u.getF_incF_byte .agreed fSlElectWraps (by decide) (by decide) rfl, State.getF_of_regsBut hu (by decide) (by decide)]
  have dropped : w.getF .agreed fSlFramesDropped = min 65535 (s.getF .agreed fSlFramesDropped + lost) := by
    rw [v.getF_incF_half .agreed fSlFramesDropped lost (by decide) (by decide) rfl,
      State.getF_of_regsBut hv (by decide) (by decide), State.getF_of_regsBut hu (by decide) (by decide)]
  have wrapped : u.getF .agreed fSlStatWrapped = 1 := State.getF_putF _ .agreed fSlStatWrapped 1 (by decide) (by decide)
  exact ⟨(State.getF_of_regsBut hw (by decide) (by decide)).trans <|
      (State.getF_of_regsBut hv (by decide) (by decide)).trans wrapped,
    (State.getF_of_regsBut hw (by decide) (by decide)).trans wraps, dropped,
    regsBut_trans (regsBut_mono hu (by decide)) (regsBut_trans (regsBut_mono hv (by decide)) (regsBut_mono hw (by decide))),
    State.incF_keeps _ _ _ rfl <| State.incF_keeps _ _ _ rfl <| State.putF_keeps _ _ _ rfl <| Keeps.upd_stay _ rfl (.refl _ s)⟩

/-- The fold towards a neighbour is undone. -/
def State.unfoldsRing (s : State) (neighbour : Nat) : State :=
  ({ s with stay := { s.stay with wraps := s.stay.wraps.filter (· != neighbour) } } : State).putF .agreed fSlStatWrapped
    (b2n ((s.stay.wraps.filter (· != neighbour)) != []))

theorem exec_ringUnwrap_of_returned {neighbour returned : Nat} (hw : s.stay.wraps.contains neighbour = true)
    (h : returned + sec ≤ t) :
    exec (.ringUnwrap t neighbour returned) s = .next (((s.advance t).unfoldsRing neighbour).raise evSlWrap neighbour 0) := by
  have hw' : (s.advance t).stay.wraps.contains neighbour = true := hw
  have hlate : decide ((s.advance t).now < returned + sec) = false :=
    decide_eq_false (Nat.not_lt.2 (Nat.le_trans h (Nat.le_max_right _ _)))
  refine if_neg ?_
  rw [hw', hlate]
  decide

/-- The link delays are shown. -/
def State.showDelays (s : State) (up down : Nat) : State :=
  (s.putF .agreed fSlLinkdlyUp (min 65535 up)).putF .agreed fSlLinkdlyDown (min 65535 down)

theorem exec_linkdelayExchange_of_joined {up down : Nat} (hr : s.slRole ≠ 0) :
    exec (.linkdelayExchange t up down) s = .next ((s.advance t).showDelays up down) := if_neg hr

theorem State.showDelays_leaves (s : State) (up down : Nat) :
    (s.showDelays up down).getF .agreed fSlLinkdlyUp = min 65535 up ∧
    (s.showDelays up down).getF .agreed fSlLinkdlyDown = min 65535 down ∧
    regsBut [(.agreed, rSlLinkdly)] s (s.showDelays up down) ∧ Keeps [.regs] s (s.showDelays up down) := by
  let u := s.putF .agreed fSlLinkdlyUp (min 65535 up)
  have small (n : Nat) : min 65535 n < 2 ^ 16 := by omega
  have up' : u.getF .agreed fSlLinkdlyUp = min 65535 up :=
    (State.getF_putF s .agreed fSlLinkdlyUp _ (by decide) (by decide)).trans (Nat.mod_eq_of_lt (small up))
  exact ⟨(State.getF_putF_bits u .agreed fSlLinkdlyDown fSlLinkdlyUp _ rfl (by decide) (by decide) (by decide)
      (.inl (by decide))).trans up',
    (State.getF_putF u .agreed fSlLinkdlyDown _ (by decide) (by decide)).trans (Nat.mod_eq_of_lt (small down)),
    regsBut_trans (regsBut_putF_self s .agreed fSlLinkdlyUp _ rfl (by decide))
      (regsBut_putF_self u .agreed fSlLinkdlyDown _ rfl (by decide)),
    State.putF_keeps _ _ _ rfl <| State.putF_keeps _ _ _ rfl (.refl _ s)⟩

end

/-- From `s` to `v` the master at `slot` has left the ring, and the module holds its time over. -/
structure HoldsOver (s v : State) (slot : Nat) : Prop where
  master : v.slMaster = slot
  role : v.slRole = s.slRole
  ownSlot : v.ownSlot = s.ownSlot
  fetch : v.getF .agreed fSlAppfetchState = s.getF .agreed fSlAppfetchState
  elections : v.getF .agreed fSlElectElections = s.getF .agreed fSlElectElections
  members : v.stay.members = s.stay.members.filter fun m => m.slot != slot
  ranks : v.ranks = s.ranks.filter fun r => r.1 != slot
  shown : v.ranks = (s.memberLeaves slot).ranks
  servo : v.servo = tbHoldover
  told : raised v s.lane.active.mask evTimeHoldover 3 0
  spares : Spares [] (s.memberLeaves slot) v
  keeps : Keeps [.stay, .regs, .log, .time] s v

theorem State.memberLeaves_holdsOver (hm : slot = s.slMaster) (hown : slot ≠ s.ownSlot) (hsrc : s.getF .agreed fTbStatSrc = 3)
    (hservo : s.servo = tbLocked) :
    ((s.memberLeaves slot).slMaster = slot ∧ (s.memberLeaves slot).getF .agreed fTbStatSrc = 3) ∧
    HoldsOver s (s.memberLeaves slot).sourceLost slot := by
  let w := s.memberLeaves slot
  let v := w.sourceLost
  have k : ShowsMembers (s.dropMember slot) w := State.memberLeaves_shows
  have keep {f : Fld} (ha : f.addr < 2 ^ 32)
      (hn : (Copy.agreed, f.addr) ∉ [(Copy.agreed, rSlStat), (Copy.agreed, rSlMembers), (Copy.agreed, rSlShare)]) :
      w.getF .agreed f = s.getF .agreed f := State.getF_of_regsBut k.regs ha hn
  have wmaster : w.slMaster = slot := k.master.trans hm.symm
  have wsrc : w.getF .agreed fTbStatSrc = 3 := (keep (by decide) (by decide)).trans hsrc
  have wservo : w.servo = tbLocked := (keep (by decide) (by decide)).trans hservo
  have wlane : w.lane = s.lane := State.memberLeaves_keeps.frame .lane (by decide)
  obtain ⟨servo, -, told, regs, keeps⟩ := w.sourceLost_leaves (.inl wservo)
  have stay : v.stay = w.stay := keeps.frame .stay (by decide)
  have same {f : Fld} (ha : f.addr < 2 ^ 32) (hn : (Copy.agreed, f.addr) ∉ [(Copy.agreed, rTbStat)]) :
      v.getF .agreed f = w.getF .agreed f := State.getF_of_regsBut regs ha hn
  have shown : v.ranks = w.ranks := State.ranks_congr (congrArg StayPart.members stay) (congrArg StayPart.pref stay)
    (same (by decide) (by decide)) (iff_of_eq (congrArg (· = 0) (same (by decide) (by decide))))
  refine ⟨⟨wmaster, wsrc⟩, ?_⟩
  exact {
    master := (same (by decide) (by decide)).trans wmaster
    role := (same (by decide) (by decide)).trans k.role
    ownSlot := (same (by decide) (by decide)).trans k.ownSlot
    fetch := (same (by decide) (by decide)).trans (keep (by decide) (by decide))
    elections := (same (by decide) (by decide)).trans (keep (by decide) (by decide))
    members := (congrArg StayPart.members stay).trans k.members
    ranks := shown.trans (State.memberLeaves_ranks hown)
    shown := shown
    servo := servo
    told := wsrc ▸ wlane ▸ told
    spares := State.sourceLost_spares (.inl wservo)
    keeps := keeps.next rfl (State.memberLeaves_keeps.next rfl (.refl _ s)) }

/-- Where the master was the member that left, the one of lowest rank is named. -/
theorem State.slElect_of_left {s u : State} {slot next : Nat} (hr : u.slRole ≠ 0) (hm : u.slMaster = slot)
    (hranks : u.ranks = s.ranks.filter fun r => r.1 != slot)
    (hn : u.stay.members.all (fun m => m.master == slot || m.master == 0) = true)
    (hl : lowestRank (s.ranks.filter fun r => r.1 != slot) = some next) : u.slElect = u.slSetMaster next := by
  have gone : u.slIsMember slot = false := by
    unfold State.slIsMember
    rw [hranks, List.any_filter]
    exact List.any_eq_false.2 fun r _ => by simp
  refine State.slElect_of_unled hr (.inr (hm ▸ gone)) (fun m h => ?_) (hranks ▸ hl)
  have e : m.master = slot ∨ m.master = 0 := by simpa using List.all_eq_true.1 hn m h
  exact e.symm.imp_right fun h => by rw [h, gone]

/-- Settles O40: a member's end is shown first (`State.memberLeaves`), and every change of master is a `TakesMaster`. -/
theorem stayLinkRing : Obligations.StayLinkRing := by
  unfold Obligations.StayLinkRing
  refine ⟨?member, ?master, ?unled, ?takeover, ?takeoverOwn, ?wrap, ?unwrap, ?delays⟩
  case member =>
    intro t slot x s hf ht hm
    have k : ShowsMembers ((s.advance t).dropMember slot) ((s.advance t).memberLeaves slot) := State.memberLeaves_shows
    have hm' : ¬ ((s.advance t).memberLeaves slot).slMaster = slot := fun e => hm (e.symm.trans k.master)
    exact ⟨_, (exec_memberTimeout_of_silent hf ht).trans (if_neg hm'), k.members,
      State.memberLeaves_told (s := s.advance t) rfl (.refl _ _), k.master, k.role, k.regs, State.memberLeaves_keeps.frame⟩
  case master =>
    intro t slot next x s hr hfetch hf ht ⟨hm, hown⟩ ⟨hsrc, hservo⟩ hnamed ⟨hl, hnown, hpos, hlt, hne⟩
    let w := (s.advance t).memberLeaves slot
    obtain ⟨⟨wmaster, wsrc⟩, k⟩ := State.memberLeaves_holdsOver (s := s.advance t) hm hown hsrc hservo
    let v := w.sourceLost
    have vrole : v.slRole ≠ 0 := k.role ▸ hr
    have elects : v.slElect = v.slSetMaster next := State.slElect_of_left vrole k.master k.ranks (k.members ▸ hnamed) hl
    have hne' : v.slMaster ≠ next := k.master ▸ hne.symm
    have hfetch' : v.getF .agreed fSlAppfetchState ≠ 2 := k.fetch ▸ hfetch
    have hnown' : next ≠ v.ownSlot := k.ownSlot ▸ hnown
    obtain ⟨take, regs, keeps⟩ := v.slSetMaster_other_takes hne' hfetch' hnown' hlt
    have spares := State.slSetMaster_other_spares hne' hfetch' hnown'
    let u := v.slSetMaster next
    have stay : u.stay = v.stay := keeps.frame .stay (by decide)
    have ranks : u.ranks = v.ranks := State.ranks_congr (congrArg StayPart.members stay) (congrArg StayPart.pref stay)
      (State.getF_of_regsBut regs (by decide) (by decide)) (by rw [take.role]; simp [vrole])
    have lane : v.lane = s.lane := k.keeps.frame .lane (by decide)
    have result : exec (.memberTimeout t slot) s = .next u := by
      rw [exec_memberTimeout_of_silent hf ht, if_pos wmaster, if_pos wsrc, elects]
    exact ⟨u, result, (congrArg StayPart.members stay).trans k.members,
      State.memberLeaves_told (s := s.advance t) (ranks.trans k.shown) (k.spares.trans spares), take.master, take.role,
      (State.getF_of_regsBut regs (by decide) (by decide)).trans k.servo, spares.raised k.told,
      k.master ▸ lane ▸ take.told, k.elections ▸ take.elections, (keeps.next rfl k.keeps).frame⟩
  case unled =>
    intro t slot s hr hfetch ⟨hm, ht⟩ hnamed ⟨hl, hnown, hpos, hlt⟩
    have elects : (s.advance t).slElect = (s.advance t).slSetMaster slot :=
      State.slElect_of_unled (s := s.advance t) hr (.inl hm) (fun m h => .inl (by simpa using List.all_eq_true.1 hnamed m h)) hl
    obtain ⟨take, regs, keeps⟩ := (s.advance t).slSetMaster_other_takes (slot := slot) (fun e => hpos.ne (hm.symm.trans e)) hfetch
      hnown hlt
    let u := (s.advance t).slSetMaster slot
    obtain ⟨stay, hr', hl'⟩ := u.slSend_leaves 2 0 0 1 u.presencePayload
    have ustay : u.stay = s.stay := keeps.frame .stay (by decide)
    rw [ustay] at stay
    have sent := take.slSend 2 0 0 1 u.presencePayload
    rw [exec_presenceSend_of_unled hr ht, elects]
    have told := sent.told
    rw [show (s.advance t).slMaster = 0 from hm] at told
    exact ⟨_, rfl, sent.master, sent.role, told, sent.elections, stay, regsBut_trans regs (regsBut_of_regs hr'),
      (State.slSend_keeps _ _ _ _ _ rfl (State.slSetMaster_keeps (l := [.stay, .regs, .log]) _ rfl (.refl _ _))).frame⟩
  case takeover =>
    intro t slot x s hr hfetch hf ⟨hm, hne, hnown, hlt⟩ h
    obtain ⟨take, regs, keeps⟩ := (s.advance t).slSetMaster_other_takes (slot := slot) hne.symm hfetch hnown hlt
    exact ⟨_, exec_masterTakeover_of_member hr ⟨hm, hne⟩ hnown hf h, take.master, take.role, take.told, take.elections, regs,
      keeps.frame⟩
  case takeoverOwn =>
    intro t slot s hr hfetch howned ⟨hm, hne, hown, hlt⟩ h
    obtain ⟨take, ofs, stay, sent, regs, keeps⟩ := (s.advance t).slSetMaster_own_takes (slot := slot) hne.symm hfetch hown hlt
    exact ⟨_, exec_masterTakeover_of_own hr ⟨hm, hne⟩ hown h, take.master, take.role, ofs, take.told, take.elections, sent howned,
      stay, regs, keeps.frame⟩
  case wrap =>
    intro t neighbour lost s hr hw
    obtain ⟨wrapped, wraps, dropped, regs, keeps⟩ := (s.advance t).foldsRing_leaves neighbour lost
    exact ⟨_, exec_ringWrap_of_whole hr hw, rfl, (State.getF_raise ..).trans wrapped, (State.getF_raise ..).trans wraps,
      (State.getF_raise ..).trans dropped, raised_raise _ _ _ _, regsBut_trans regs (regsBut_of_regs (State.raise_regs ..)),
      (State.raise_keeps _ _ _ rfl keeps).frame⟩
  case unwrap =>
    intro t neighbour returned s hw ht
    let u := (s.advance t).unfoldsRing neighbour
    have regs : regsBut [(.agreed, rSlStat)] (s.advance t) u :=
      regsBut_putF_self (s.advance t) .agreed fSlStatWrapped _ rfl (by decide)
    have keeps : Keeps [.stay, .regs, .log] (s.advance t) u := State.putF_keeps _ _ _ rfl <| Keeps.upd_stay _ rfl (.refl _ _)
    have bit (b : Bool) : b2n b < 2 ^ 1 := by cases b <;> decide
    exact ⟨_, exec_ringUnwrap_of_returned hw ht, rfl,
      (State.getF_raise ..).trans <| (State.getF_putF _ .agreed fSlStatWrapped _ (by decide) (by decide)).trans
        (Nat.mod_eq_of_lt (bit _)),
      raised_raise _ _ _ _, regsBut_trans regs (regsBut_of_regs (State.raise_regs ..)), (State.raise_keeps _ _ _ rfl keeps).frame⟩
  case delays =>
    intro t up down s hr
    obtain ⟨hup, hdown, regs, keeps⟩ := (s.advance t).showDelays_leaves up down
    exact ⟨_, exec_linkdelayExchange_of_joined hr, hup, hdown, regs, keeps.frame⟩

end Sys2Proof.Machine

/-!
# Summary events and the syslog messages

The formatter takes the oldest entry that is not passed over (`State.takeEntry`) and sends it, or counts it as dropped or lost.
-/

namespace Sys2Proof.Machine
open Sys2Proof.Safety

section
variable {s : State} {t : Nat}

/-! ### The end of a summary period -/

/-- No summary period is running. -/
def State.endPeriods (s : State) : State := { s with log := { s.log with periods := [] } }

theorem exec_summaryEventPeriodEnd_of_only {p : SummaryPeriod} (hp : s.log.periods = [p])
    (h : p.began + sec ≤ (s.advance t).clockOf p.src ∨ (s.advance t).clockOf p.src < p.began) :
    exec (.summaryEventPeriodEnd t p.code p.key) s = .next ((s.advance t).endPeriods.raiseSummary p) := by
  have hp' : (s.advance t).log.periods = [p] := hp
  have passed : secondPassed p.began ((s.advance t).clockOf p.src) = true := decide_eq_true h
  show execSummaryEventPeriodEnd t p.code p.key s = _
  unfold execSummaryEventPeriodEnd
  simp only [hp', passed, beq_self_eq_true, Bool.and_true, List.filter_cons, List.filter_nil, if_true, Bool.not_true,
    Bool.false_eq_true, if_false, List.foldl_cons, List.foldl_nil]
  rfl

/-- What a summary event tells of its period (R447). -/
theorem State.raiseSummary_eq (p : SummaryPeriod) : s.raiseSummary p =
    s.raiseBy (if p.src = 0 then s.lane.active.mask else p.src) p.code
      (if p.code = evQmPoolEmpty ∨ p.code = evSyslogDropped then p.count else p.key)
      (if p.code = evQmPoolEmpty then 0 else if p.code = evSyslogDropped then s.getF .agreed fElDropLost else p.count) := by
  unfold State.raiseSummary
  by_cases h1 : p.code = evQmPoolEmpty
  · simp only [h1, if_true, true_or]
  · by_cases h2 : p.code = evSyslogDropped
    · simp only [if_neg h1, if_pos h2, if_pos (Or.inr h2)]
    · simp only [if_neg h1, if_neg h2, if_neg (not_or.2 ⟨h1, h2⟩)]

/-! ### The entry that is exported -/

/-- The tokens there are once those that have come in are counted (R416). -/
def State.filledTokens (s : State) : Nat :=
  min (s.getF .agreed fElExportRate * sec) (s.log.tokens + s.getF .agreed fElExportRate * (s.now - s.log.tokensAt))

/-- So many tokens there are now. -/
def State.holdTokens (s : State) (k : Nat) : State := { s with log := { s.log with tokens := k, tokensAt := s.now } }

theorem State.refillTokens_eq : s.refillTokens = s.holdTokens s.filledTokens := by
  delta State.refillTokens State.holdTokens State.filledTokens
  exact Eq.refl _

/-- The unsent entries are `rest`. -/
def State.leaveUnsent (s : State) (rest : List Nat) : State := { s with log := { s.log with unsent := rest } }

/-- What becomes of the entry with sequence number `n` (R414, R416). -/
def State.exportEntry (s : State) (n : Nat) : State :=
  match s.log.entry n with
  | none => s.incF .agreed fElDropLost 1
  | some x =>
    if x.event.code = evSyslogDropped then s.sendEntry x 0
    else if sec ≤ s.log.tokens then s.sendEntry x sec
    else (s.incF .agreed fElDropDropped 1).noteSummary 0 evSyslogDropped 0

/-- The oldest unsent entry is exported. -/
def State.exportFirst (s : State) : State :=
  match s.log.unsent with
  | [] => s
  | n :: rest => (s.leaveUnsent rest).exportEntry n

/-- Is the entry above the severity let through? -/
def State.passesOver (s : State) (n : Nat) : Bool :=
  match s.log.entry n with
  | some x => decide (s.getF .agreed fElExportSevmax < severityOf x.event.code)
  | none => false

theorem State.passOver_eq : s.passOver = s.leaveUnsent (s.log.unsent.dropWhile s.passesOver) := rfl

theorem State.exportEntry_ok (n : Nat) :
    (match s.log.entry n with
      | none => ok (s.incF .agreed fElDropLost 1)
      | some x =>
        if x.event.code = evSyslogDropped then ok (s.sendEntry x 0)
        else if sec ≤ s.log.tokens then ok (s.sendEntry x sec)
        else ok ((s.incF .agreed fElDropDropped 1).noteSummary 0 evSyslogDropped 0)) = ok (s.exportEntry n) := by
  unfold State.exportEntry
  split
  · rfl
  · split
    · rfl
    · split <;> rfl

theorem exec_syslogExport_of_running (hx : s.exporting = true) :
    exec (.syslogExport t) s = .next (s.advance t).refillTokens.passOver.exportFirst := by
  have hn : (s.advance t).exporting = true := hx
  show execSyslogExport t s = _
  delta execSyslogExport
  extract_lets u v
  rw [if_neg (by rw [hn]; decide)]
  show _ = ok v.exportFirst
  clear_value v
  unfold State.exportFirst
  cases v.log.unsent with
  | nil => rfl
  | cons n rest => exact State.exportEntry_ok n

theorem State.passOver_of_due {n : Nat} {rest : List Nat} (hu : s.log.unsent = n :: rest) (hp : s.passesOver n = false) :
    s.passOver = s := by
  rw [State.passOver_eq, hu, List.dropWhile_cons_of_neg (by simp [hp]), ← hu]
  rfl

theorem State.filledTokens_advance : (s.advance t).filledTokens =
    min (s.getF .agreed fElExportRate * sec)
      (s.log.tokens + s.getF .agreed fElExportRate * (max s.now t - s.log.tokensAt)) := by
  unfold State.filledTokens
  rw [State.advance_getF, State.advance_log, State.advance_now]

theorem State.holdTokens_passesOver (k n : Nat) : (s.holdTokens k).passesOver n = s.passesOver n := rfl

theorem State.advance_passesOver (n : Nat) : (s.advance t).passesOver n = s.passesOver n := rfl

theorem State.holdTokens_unsent (k : Nat) : (s.holdTokens k).log.unsent = s.log.unsent := rfl

/-- The entry `n`, with so many tokens at hand, is taken off the unsent ones. -/
def State.takeEntry (s : State) (k : Nat) (rest : List Nat) : State := (s.holdTokens k).leaveUnsent rest

theorem State.exportFirst_of_due {n : Nat} {rest : List Nat} (hu : s.log.unsent = n :: rest) (hp : s.passesOver n = false) :
    s.passOver.exportFirst = (s.leaveUnsent rest).exportEntry n := by
  rw [State.passOver_of_due hu hp]
  unfold State.exportFirst
  rw [hu]

theorem exec_syslogExport_of_taken {n : Nat} {rest : List Nat} (hx : s.exporting = true) (hu : s.log.unsent = n :: rest)
    (hp : s.passesOver n = false) :
    exec (.syslogExport t) s = .next (((s.advance t).takeEntry (s.advance t).filledTokens rest).exportEntry n) := by
  rw [exec_syslogExport_of_running hx, State.refillTokens_eq]
  generalize (s.advance t).filledTokens = k
  unfold State.takeEntry
  rw [State.exportFirst_of_due]
  · rw [State.holdTokens_unsent, State.advance_log, hu]
  · rw [State.holdTokens_passesOver, State.advance_passesOver, hp]

theorem State.exportFirst_of_above {n : Nat} (hu : s.log.unsent = [n]) (hp : s.passesOver n = true) :
    s.passOver.exportFirst = s.leaveUnsent [] := by
  rw [State.passOver_eq, hu, List.dropWhile_cons_of_pos hp]
  rfl

/-- An entry above the severity let through is passed over. -/
theorem exec_syslogExport_of_above {n : Nat} (hx : s.exporting = true) (hu : s.log.unsent = [n]) (hp : s.passesOver n = true) :
    exec (.syslogExport t) s = .next ((s.advance t).takeEntry (s.advance t).filledTokens []) := by
  rw [exec_syslogExport_of_running hx, State.refillTokens_eq]
  generalize (s.advance t).filledTokens = k
  unfold State.takeEntry
  rw [State.exportFirst_of_above (n := n)]
  · rw [State.holdTokens_unsent, State.advance_log, hu]
  · rw [State.holdTokens_passesOver, State.advance_passesOver, hp]

/-! The entry is lost, sent or dropped. -/

theorem State.exportEntry_of_none {n : Nat} (h : s.log.entry n = none) : s.exportEntry n = s.incF .agreed fElDropLost 1 := by
  unfold State.exportEntry
  rw [h]

theorem State.exportEntry_of_free {n : Nat} {x : LogEntry} (h : s.log.entry n = some x) (hc : x.event.code = evSyslogDropped) :
    s.exportEntry n = s.sendEntry x 0 := by
  unfold State.exportEntry
  rw [h]
  exact if_pos hc

theorem State.exportEntry_of_paid {n : Nat} {x : LogEntry} (h : s.log.entry n = some x) (hc : x.event.code ≠ evSyslogDropped)
    (hk : sec ≤ s.log.tokens) : s.exportEntry n = s.sendEntry x sec := by
  unfold State.exportEntry
  rw [h]
  exact (if_neg hc).trans (if_pos hk)

theorem State.exportEntry_of_unpaid {n : Nat} {x : LogEntry} (h : s.log.entry n = some x) (hc : x.event.code ≠ evSyslogDropped)
    (hk : s.log.tokens < sec) : s.exportEntry n = (s.incF .agreed fElDropDropped 1).noteSummary 0 evSyslogDropped 0 := by
  unfold State.exportEntry
  rw [h]
  exact (if_neg hc).trans (if_neg (Nat.not_le.2 hk))

/-- Sending takes the tokens and counts the message. -/
theorem State.sendEntry_leaves (x : LogEntry) (cost : Nat) :
    (s.sendEntry x cost).log = { s.log with message := s.datagram x, tokens := s.log.tokens - cost } ∧
    (s.sendEntry x cost).getF .agreed fElSentCount = (s.getF .agreed fElSentCount + 1) % 4294967296 ∧
    regsBut [(.agreed, rElSent)] s (s.sendEntry x cost) ∧ Keeps [.log, .regs] s (s.sendEntry x cost) := by
  let u : State := { s with log := { s.log with message := s.datagram x, tokens := s.log.tokens - cost } }
  exact ⟨rfl, (State.getF_putF u .agreed fElSentCount _ (by decide) (by decide)).trans (Nat.mod_mod _ _),
    regsBut_putF_self u .agreed fElSentCount _ rfl (by decide),
    State.wrapF_keeps _ _ _ rfl (Keeps.upd_log _ rfl (.refl _ s))⟩

/-- A summary event that occurs has its period. -/
theorem State.noteSummary_periods (src code key : Nat) : (s.noteSummary src code key).log.periods ≠ [] := by
  unfold State.noteSummary
  split
  · next h =>
    intro e
    have e' : s.log.periods = [] := List.map_eq_nil_iff.1 e
    rw [e'] at h
    simp at h
  · exact List.append_ne_nil_of_right_ne_nil _ (by simp)

theorem State.noteSummary_leaves (src code key : Nat) :
    (s.noteSummary src code key).log.message = s.log.message ∧ (s.noteSummary src code key).log.unsent = s.log.unsent ∧
    (s.noteSummary src code key).log.entries = s.log.entries ∧ (s.noteSummary src code key).regs = s.regs := by
  unfold State.noteSummary
  split <;> exact ⟨rfl, rfl, rfl, rfl⟩

/-! From the state before, with so many tokens at hand. -/

section
variable (t : Nat) (k : Nat) (rest : List Nat)

theorem State.takeEntry_keeps {l : List Part} (hl : within [.log] l = true) :
    Keeps l (s.advance t) ((s.advance t).takeEntry k rest) :=
  Keeps.upd_log _ hl (Keeps.upd_log _ hl (.refl _ _))

theorem State.takeEntry_tokens : ((s.advance t).takeEntry k rest).log.tokens = k := rfl

theorem State.takeEntry_entry (n : Nat) : ((s.advance t).takeEntry k rest).log.entry n = s.log.entry n := rfl

/-- The entry's message has been sent to the configured destination, for so many tokens. -/
theorem State.takeEntry_sends (x : LogEntry) (cost : Nat) :
    let u := ((s.advance t).takeEntry k rest).sendEntry x cost
    u.log.message = (s.advance t).datagram x ∧ u.log.message.text = (s.advance t).syslogText x ∧
    u.log.message.dest = s.getF .agreed fElDestIp ∧
    u.log = { s.log with message := u.log.message, unsent := rest, tokens := k - cost, tokensAt := max s.now t } ∧
    u.getF .agreed fElSentCount = (s.getF .agreed fElSentCount + 1) % 4294967296 ∧ regsBut [(.agreed, rElSent)] s u ∧
    sameBut [.log, .regs] (s.advance t) u := by
  obtain ⟨-, count, regs, -⟩ := State.sendEntry_leaves (s := (s.advance t).takeEntry k rest) x cost
  have keeps : Keeps [.log, .regs] (s.advance t) (((s.advance t).takeEntry k rest).sendEntry x cost) :=
    State.sendEntry_keeps _ _ rfl (State.takeEntry_keeps t k rest rfl)
  exact ⟨rfl, rfl, rfl, rfl, count, regs, keeps.frame⟩

theorem State.takeEntry_passes :
    let u := (s.advance t).takeEntry k rest
    u.log.message = s.log.message ∧ u.log.unsent = rest ∧ u.log.entries = s.log.entries ∧ sameBut [.log] (s.advance t) u :=
  ⟨rfl, rfl, rfl, (State.takeEntry_keeps t k rest rfl).frame⟩

theorem State.takeEntry_loses :
    let u := ((s.advance t).takeEntry k rest).incF .agreed fElDropLost 1
    u.log.message = s.log.message ∧ u.log.unsent = rest ∧ u.log.entries = s.log.entries ∧
    u.getF .agreed fElDropLost = min 65535 (s.getF .agreed fElDropLost + 1) ∧ regsBut [(.agreed, rElDrop)] s u ∧
    sameBut [.log, .regs] (s.advance t) u := by
  let v := (s.advance t).takeEntry k rest
  have keeps : Keeps [.log, .regs] (s.advance t) (v.incF .agreed fElDropLost 1) :=
    State.incF_keeps _ _ _ rfl (State.takeEntry_keeps t k rest rfl)
  exact ⟨rfl, rfl, rfl, v.getF_incF_half .agreed fElDropLost 1 (by decide) (by decide) rfl,
    regsBut_putF_self v .agreed fElDropLost _ rfl (by decide), keeps.frame⟩

theorem State.takeEntry_drops :
    let u := (((s.advance t).takeEntry k rest).incF .agreed fElDropDropped 1).noteSummary 0 evSyslogDropped 0
    u.log.message = s.log.message ∧ u.log.unsent = rest ∧ u.log.entries = s.log.entries ∧
    u.getF .agreed fElDropDropped = min 65535 (s.getF .agreed fElDropDropped + 1) ∧ u.log.periods ≠ [] ∧
    regsBut [(.agreed, rElDrop)] s u ∧ sameBut [.log, .regs] (s.advance t) u := by
  let v := (s.advance t).takeEntry k rest
  let w := v.incF .agreed fElDropDropped 1
  obtain ⟨message, unsent, entries, regs⟩ := State.noteSummary_leaves (s := w) 0 evSyslogDropped 0
  have keeps : Keeps [.log, .regs] (s.advance t) (w.noteSummary 0 evSyslogDropped 0) :=
    State.noteSummary_keeps _ _ _ rfl (State.incF_keeps _ _ _ rfl (State.takeEntry_keeps t k rest rfl))
  exact ⟨message, unsent, entries,
    (State.getF_of_regs regs ..).trans (v.getF_incF_half .agreed fElDropDropped 1 (by decide) (by decide) rfl),
    State.noteSummary_periods _ _ _,
    regsBut_trans (regsBut_putF_self v .agreed fElDropDropped _ rfl (by decide)) (regsBut_of_regs regs), keeps.frame⟩

end

/-- An entry at or below the severity let through is not passed over. -/
theorem State.passesOver_of_entry {n : Nat} {x : LogEntry} (h : s.log.entry n = some x) :
    s.passesOver n = decide (s.getF .agreed fElExportSevmax < severityOf x.event.code) := by
  unfold State.passesOver
  rw [h]

theorem State.passesOver_of_none {n : Nat} (h : s.log.entry n = none) : s.passesOver n = false := by
  unfold State.passesOver
  rw [h]

/-! ### What becomes of one entry -/

section
variable {n : Nat} {rest : List Nat} {x : LogEntry}

theorem exec_syslogExport_of_lost (hx : s.exporting = true) (hu : s.log.unsent = n :: rest) (h : s.log.entry n = none) :
    exec (.syslogExport t) s =
      .next (((s.advance t).takeEntry (s.advance t).filledTokens rest).incF .agreed fElDropLost 1) := by
  have h' := (State.takeEntry_entry t (s.advance t).filledTokens rest n).trans h
  rw [exec_syslogExport_of_taken hx hu (State.passesOver_of_none h), State.exportEntry_of_none h']

theorem exec_syslogExport_of_entry (hx : s.exporting = true) (hu : s.log.unsent = n :: rest)
    (h : s.log.entry n = some x ∧ severityOf x.event.code ≤ s.getF .agreed fElExportSevmax) :
    exec (.syslogExport t) s = .next (((s.advance t).takeEntry (s.advance t).filledTokens rest).exportEntry n) :=
  exec_syslogExport_of_taken hx hu <| (State.passesOver_of_entry h.1).trans (decide_eq_false (Nat.not_lt.2 h.2))

theorem exec_syslogExport_of_free (hx : s.exporting = true) (hu : s.log.unsent = n :: rest)
    (h : s.log.entry n = some x ∧ severityOf x.event.code ≤ s.getF .agreed fElExportSevmax) (hc : x.event.code = evSyslogDropped) :
    exec (.syslogExport t) s = .next (((s.advance t).takeEntry (s.advance t).filledTokens rest).sendEntry x 0) := by
  have h' := (State.takeEntry_entry t (s.advance t).filledTokens rest n).trans h.1
  rw [exec_syslogExport_of_entry hx hu h, State.exportEntry_of_free h' hc]

theorem exec_syslogExport_of_paid (hx : s.exporting = true) (hu : s.log.unsent = n :: rest)
    (h : s.log.entry n = some x ∧ severityOf x.event.code ≤ s.getF .agreed fElExportSevmax) (hc : x.event.code ≠ evSyslogDropped)
    (hk : sec ≤ (s.advance t).filledTokens) :
    exec (.syslogExport t) s = .next (((s.advance t).takeEntry (s.advance t).filledTokens rest).sendEntry x sec) := by
  have h' := (State.takeEntry_entry t (s.advance t).filledTokens rest n).trans h.1
  rw [exec_syslogExport_of_entry hx hu h, State.exportEntry_of_paid h' hc (by rwa [State.takeEntry_tokens])]

theorem exec_syslogExport_of_unpaid (hx : s.exporting = true) (hu : s.log.unsent = n :: rest)
    (h : s.log.entry n = some x ∧ severityOf x.event.code ≤ s.getF .agreed fElExportSevmax) (hc : x.event.code ≠ evSyslogDropped)
    (hk : (s.advance t).filledTokens < sec) :
    exec (.syslogExport t) s = .next ((((s.advance t).takeEntry (s.advance t).filledTokens rest).incF .agreed fElDropDropped
      1).noteSummary 0 evSyslogDropped 0) := by
  have h' := (State.takeEntry_entry t (s.advance t).filledTokens rest n).trans h.1
  rw [exec_syslogExport_of_entry hx hu h, State.exportEntry_of_unpaid h' hc (by rwa [State.takeEntry_tokens])]

end
end
end Sys2Proof.Machine

/-!
# What an action instant leaves

After the writes of the interval are taken nothing deposits another, and nothing but the tick itself moves the mark of the last
action instant (`Marked`); after the commit nothing decides another image (`Settled`).
-/

namespace Sys2Proof.Machine
open Sys2Proof.Safety

/-- The last action instant: its index, local time, module time and number. -/
def TimePart.mark (x : TimePart) : Option Nat × Nat × Nat × Nat := (x.lastIndex, x.lastAiLocal, x.lastAiTime, x.aiNumber)

theorem TimePart.of_mark {x : TimePart} {i : Option Nat} {l m k : Nat} (h : x.mark = (i, l, m, k)) :
    x.lastIndex = i ∧ x.lastAiLocal = l ∧ x.lastAiTime = m ∧ x.aiNumber = k := by
  simpa [TimePart.mark] using h

/-- From `s` to `t` no write is deposited, and the last action instant is the same. -/
structure Marked (s t : State) : Prop where
  writes : s.writes = [] → t.writes = []
  mark : t.time.mark = s.time.mark

/-- All parts but those that `Marked` speaks of. -/
def allButMarks : List Part :=
  [.regs, .shown, .ctl, .masts, .log, .key, .lane, .intake, .pos, .fb, .app, .queue, .bridge, .stay, .net, .sup, .field, .upd,
    .supply, .panel, .standby, .mon, .free, .mem]

section
variable {s0 s t : State}

theorem Marked.refl (s : State) : Marked s s := ⟨fun h => h, rfl⟩

theorem Marked.trans (h : Marked s0 s) (g : Marked s t) : Marked s0 t := ⟨fun e => g.writes (h.writes e), g.mark.trans h.mark⟩

theorem Marked.keeps (k : Keeps allButMarks s t) (h : Marked s0 s) : Marked s0 t :=
  h.trans ⟨fun e => (k.frame .writes (by decide)).trans e, congrArg TimePart.mark (k.frame .time (by decide))⟩

theorem Marked.of_time {l : List Part} (k : Keeps l s t) (hl : Part.writes ∉ l) (hm : t.time.mark = s.time.mark) : Marked s t :=
  ⟨fun e => (k.frame .writes hl).trans e, hm⟩

theorem Marked.ite {c : Prop} [Decidable c] {a b : State} (ha : Marked s0 a) (hb : Marked s0 b) :
    Marked s0 (if c then a else b) := by split <;> assumption

theorem Marked.fold {α : Type} {f : State → α → State} {xs : List α} (hf : ∀ s x, Marked s (f s x)) (h : Marked s0 s) :
    Marked s0 (xs.foldl f s) := by
  induction xs generalizing s with
  | nil => exact h
  | cons x xs ih => exact ih (h.trans (hf s x))

/-! ### STOP -/

theorem State.enterMode_stop_marked : Marked s (s.enterMode .stop) :=
  .keeps (State.netEnterStop_keeps rfl <| State.fbForget_keeps rfl <| State.queuedClearAll_keeps rfl <|
    State.appStop_keeps rfl (.refl _ s)) (.refl s)

theorem State.changeMode_stop_marked : Marked s (s.changeMode .stop) := by
  dsimp -zeta only [State.changeMode]
  split
  · exact .refl s
  · extract_lets from' s1 mute ctl lane s2 s3 s4
    have h1 : Marked s s1 := .keeps (State.leaveMode_keeps rfl (.refl _ s)) (.refl s)
    have h2 : Marked s s2 := h1.trans ⟨fun e => e, rfl⟩
    have h4 : Marked s s4 :=
      .keeps (State.raise_keeps _ _ _ rfl <| State.putF_keeps _ _ _ rfl <| State.putF_keeps _ _ _ rfl <|
        State.putF_keeps _ _ _ rfl (.refl _ s2)) h2
    exact h4.trans State.enterMode_stop_marked

theorem State.enterStop_marked (cause : Nat) : Marked s (s.enterStop cause) :=
  .keeps (State.putF_keeps _ _ _ rfl (.refl _ _)) State.changeMode_stop_marked

theorem State.reachStop_marked : Marked s s.reachStop := by
  dsimp -zeta only [State.reachStop]
  split
  · exact .refl s
  · extract_lets s1 took s2 s3
    have h1 : Marked s s1 :=
      (Marked.keeps (State.engineUnconfigured_keeps rfl (.refl _ s)) (.refl s)).trans (State.enterStop_marked 1)
    have h2 : Marked s s2 := .keeps (State.putF_keeps _ _ _ rfl (.refl _ s1)) h1
    exact .keeps (Keeps.upd_log _ rfl (.refl _ s3)) (.ite (.keeps (State.raise_keeps _ _ _ rfl (.refl _ s2)) h2) h2)

theorem State.modeAtInstant_marked : Marked s s.modeAtInstant := by
  unfold State.modeAtInstant
  split
  · exact State.reachStop_marked
  · exact .ite (State.enterStop_marked 7) (.refl s)
  · exact .ite (State.enterStop_marked 5) (.refl s)
  · exact .refl s

theorem State.appAtInstant_marked : Marked s s.appAtInstant := by
  unfold State.appAtInstant
  refine .ite (.refl s) ?_
  dsimp only
  split
  · refine Marked.trans ?_ (State.enterStop_marked 6)
    exact .keeps (State.setRun_keeps _ rfl <| State.raise_keeps _ _ _ rfl <| State.putF_keeps _ _ _ rfl <|
      State.putF_keeps _ _ _ rfl <| State.putF_keeps _ _ _ rfl (.refl _ s)) (.refl s)
  · split
    · refine .ite (Marked.trans ?_ (State.enterStop_marked 3)) ⟨fun e => e, rfl⟩
      exact .keeps (State.raise_keeps _ _ _ rfl (Keeps.upd_app _ rfl (.refl _ s))) (.refl s)
    · exact ⟨fun e => e, rfl⟩

/-! ### A join -/

theorem State.cutPower_marked (m : Mast) : Marked s (s.cutPower m) := by
  have hk : Keeps [.regs, .writes, .masts, .intake, .queue, .sup, .mem] s (s.cutPower m) := State.cutPower_keeps m rfl (.refl _ s)
  refine ⟨fun e => ?_, congrArg TimePart.mark (hk.frame .time (by decide))⟩
  delta State.cutPower
  extract_lets x off s1 s2
  have h2 : Keeps [.regs] s1 s2 := .fold (fun _ _ g => State.putF_keeps _ _ _ rfl g) (.refl _ s1)
  have e2 : s2.writes = [] := (h2.frame .writes (by decide)).trans e
  exact (congrArg (List.filter _) e2).trans rfl

theorem State.joinFail_marked (reason : Nat) : Marked s (s.joinFail reason) := by
  delta State.joinFail
  split
  · exact .refl s
  · refine .ite (.refl s) ?_
    extract_lets elapsed s1 done lane s2 s3 c s4
    have h4 : Marked s s4 :=
      .keeps (State.incF_keeps _ _ _ rfl <| State.putF_keeps _ _ _ rfl <| State.putF_keeps _ _ _ rfl <|
        .fold (fun _ _ g => State.putF_keeps _ _ _ rfl g) <| Keeps.upd_lane _ rfl <| State.raise_keeps _ _ _ rfl (.refl _ s))
        (.refl s)
    exact .keeps (State.setLane_keeps _ rfl <| State.showPhase_keeps _ rfl (.refl _ _)) (h4.trans (State.cutPower_marked .j))

theorem State.juryLinks_marked : Marked s s.juryLinks := by
  delta State.juryLinks
  extract_lets x s1
  exact .keeps (.fold (fun _ _ g => State.startBeats_keeps _ _ _ rfl g) (.refl _ s1)) ⟨fun e => e, rfl⟩

theorem State.romStep_marked (j : Join) (f : JuryFinding) : Marked s (s.romStep j f) := by
  have join (u : State) (k : Join) : Marked u (u.setJoin k) := .keeps (State.setJoin_keeps _ rfl (.refl _ u)) (.refl u)
  delta State.romStep
  split
  · exact .keeps (State.bootSilence_keeps _ rfl <| State.showPhase_keeps _ rfl (.refl _ _)) (join s _)
  · exact .ite ((join s _).trans State.juryLinks_marked) (State.joinFail_marked 1)
  · split
    · exact State.joinFail_marked 2
    · next u hu => exact (Marked.keeps (State.juryImage_keeps hu rfl (.refl _ s)) (.refl s)).trans (join u _)
  · split
    · exact State.joinFail_marked 3
    · next k _ =>
      have h : Marked s (s.juryRecord k) := .keeps (State.juryRecord_keeps _ rfl (.refl _ s)) (.refl s)
      exact .keeps (State.showPhase_keeps _ rfl (.refl _ _)) (h.trans (join _ _))

theorem State.juryRom_marked (all : Bool) : Marked s (s.juryRom all) := by
  refine .fold (fun u _ => ?_) (.refl s)
  split
  · exact .refl u
  · split
    · exact .refl u
    · exact .ite (State.romStep_marked _ _) (.refl u)

theorem State.copyBlocks_marked (src dst : Mast) : Marked s (s.copyBlocks src dst) := by
  have hk : Keeps [.regs, .masts, .lane, .intake, .time, .pos, .app, .queue, .net, .sup, .field, .mem] s (s.copyBlocks src dst) :=
    State.copyBlocks_keeps _ _ rfl (.refl _ s)
  refine .of_time hk (by decide) ?_
  delta State.copyBlocks
  extract_lets s1 i own mine s2
  have h2 : Keeps [.pos, .sup, .masts, .lane, .mem] s s2 := by
    refine .fold (fun u e g => ?_) (State.spCopy_keeps _ _ rfl (.refl _ s))
    split
    · exact State.fabricStore_keeps _ _ _ rfl g
    · exact g
  have ht : s2.time.mark = s.time.mark := congrArg TimePart.mark (h2.frame .time (by decide))
  exact ht

theorem State.enterJury_marked (j : Join) : Marked s (s.enterJury j) := by
  delta State.enterJury
  extract_lets elapsed l l' s1 done lane s2 s3 s4 c
  have h1 : Marked s s1 := by
    unfold s1
    split
    · exact State.copyBlocks_marked _ _
    · exact .refl s
  exact .keeps (State.raise_keeps _ _ _ rfl <| State.showPhase_keeps _ rfl <| State.putF_keeps _ _ _ rfl <|
    State.incF_keeps _ _ _ rfl <| State.putF_keeps _ _ _ rfl <| State.releaseHold_keeps rfl <| State.normalHandovers_keeps rfl <|
    State.crossbar_keeps _ _ rfl <| State.setLane_keeps _ rfl <| Keeps.upd_lane _ rfl (.refl _ s1)) h1

theorem State.roundsAtInstant_marked : Marked s s.roundsAtInstant := by
  unfold State.roundsAtInstant
  split
  · exact .refl s
  · next j _ =>
    have defer (b : Bool) : Marked s (s.deferJoin j b) := .keeps (State.deferJoin_keeps _ _ rfl (.refl _ s)) (.refl s)
    refine .ite (.refl s) (.ite (.ite (defer true) (.ite (State.enterJury_marked j) (defer false))) (.ite (.ite ?_ ?_) (.refl s)))
    · exact .keeps (State.joinBoundary_keeps _ rfl (.refl _ s)) (.refl s)
    · exact .keeps (State.trailingRound_keeps _ rfl (.refl _ s)) (.refl s)

theorem State.joinAtInstant_marked : Marked s s.joinAtInstant := by
  unfold State.joinAtInstant
  split
  · exact .refl s
  · exact .ite (.refl s) <| (Marked.keeps (State.putF_keeps _ _ _ rfl (.refl _ s)) (.refl s)).trans <|
      (State.juryRom_marked false).trans State.roundsAtInstant_marked

end
end Sys2Proof.Machine

/-! # After the commit -/

namespace Sys2Proof.Machine
open Sys2Proof.Safety

/-- From `s` to `t` moreover no image is decided. -/
structure Settled (s t : State) : Prop extends Marked s t where
  decision : s.lane.decision = none → t.lane.decision = none

/-- All parts but those that `Settled` speaks of. -/
def allButSettled : List Part :=
  [.regs, .shown, .ctl, .masts, .log, .key, .intake, .pos, .fb, .app, .queue, .bridge, .stay, .net, .sup, .field, .upd, .supply,
    .panel, .standby, .mon, .free, .mem]

section
variable {s0 s t : State}

theorem Settled.refl (s : State) : Settled s s := ⟨.refl s, fun h => h⟩

theorem Settled.trans (h : Settled s0 s) (g : Settled s t) : Settled s0 t :=
  ⟨h.toMarked.trans g.toMarked, fun e => g.decision (h.decision e)⟩

theorem Settled.same (hw : t.writes = s.writes) (hm : t.time.mark = s.time.mark) (hd : t.lane.decision = s.lane.decision) :
    Settled s t := ⟨⟨fun e => hw.trans e, hm⟩, fun e => hd.trans e⟩

theorem Settled.keeps (k : Keeps allButSettled s t) (h : Settled s0 s) : Settled s0 t :=
  h.trans <| .same (k.frame .writes (by decide)) (congrArg TimePart.mark (k.frame .time (by decide)))
    (congrArg LanePart.decision (k.frame .lane (by decide)))

theorem Settled.ite {c : Prop} [Decidable c] {a b : State} (ha : Settled s0 a) (hb : Settled s0 b) :
    Settled s0 (if c then a else b) := by split <;> assumption

theorem Settled.fold {α : Type} {f : State → α → State} {xs : List α} (hf : ∀ s x, Settled s (f s x)) (h : Settled s0 s) :
    Settled s0 (xs.foldl f s) := by
  induction xs generalizing s with
  | nil => exact h
  | cons x xs ih => exact ih (h.trans (hf s x))

/-! ### A mast that goes silent -/

theorem State.uncount_settled (f : TxFrame) : Settled s (s.uncount f) := by
  unfold State.uncount
  split <;> exact .same rfl rfl rfl

theorem State.cutUnit_settled (u : Nat) : Settled s (s.cutUnit u) :=
  have cut : Settled s (s.setUnit u ((s.unit u).cut s.now)) := .same rfl rfl rfl
  .ite (.fold (fun _ _ => State.uncount_settled _) cut) cut

theorem State.cutFrames_settled (m : Mast) : Settled s (s.cutFrames m) :=
  .fold (fun _ _ => .ite (State.cutUnit_settled _) (.refl _)) (.refl s)

theorem State.goSilent_settled (m : Mast) (cause who detail : Nat) : Settled s (s.goSilent m cause who detail) := by
  delta State.goSilent
  refine .ite (.refl s) ?_
  exact Settled.trans (s := s.setMast m _) (.same rfl rfl rfl) (State.cutFrames_settled m)

theorem State.requestSilent_settled (m : Mast) (code : Nat) : Settled s (s.requestSilent m code) := State.goSilent_settled ..

/-! ### The masts' stores -/

theorem State.markDirty_settled (a : Nat) : Settled s (s.markDirty a) := by
  unfold State.markDirty
  split
  · exact .refl s
  · exact .same rfl rfl rfl

theorem State.store_settled (m : Mast) (a : Nat) (bs : List Byte) : Settled s (s.store m a bs) :=
  .keeps (State.store_keeps _ _ _ rfl (.refl _ s)) (.refl s)

theorem State.fabricStore_settled (m : Mast) (a : Nat) (bs : List Byte) : Settled s (s.fabricStore m a bs) :=
  .ite (((State.store_settled m a bs).trans (State.markDirty_settled _)).trans (State.markDirty_settled _)) (.refl s)

/-! ### The parts of the instant -/

theorem State.commitAtInstant_settled : Settled s s.commitAtInstant ∧ s.commitAtInstant.lane.decision = none := by
  have hk : Keeps [.regs, .log, .lane, .fb] s s.commitAtInstant := State.commitAtInstant_keeps rfl (.refl _ s)
  have hd : s.commitAtInstant.lane.decision = none := by
    delta State.commitAtInstant
    split
    · next h => exact h
    · next d h =>
      extract_lets gone images lane s1 c s2
      have hk : Keeps [.regs, .log, .fb] s1 ((s2.putF c fLmCmtdigHiDigHi (d.digest / 2 ^ 32)).fbCommit d.items) :=
        State.fbCommit_keeps _ rfl <| State.putF_keeps _ _ _ rfl <| State.putF_keeps _ _ _ rfl <| State.putF_keeps _ _ _ rfl
          (.refl _ s1)
      exact (congrArg LanePart.decision (hk.frame .lane (by decide))).trans rfl
  exact ⟨⟨⟨fun e => (hk.frame .writes (by decide)).trans e, congrArg TimePart.mark (hk.frame .time (by decide))⟩, fun _ => hd⟩, hd⟩

theorem State.spDisagree_settled (p : SpParams) (who : List Mast) (m : Mast) : Settled s (s.spDisagree p who m) := by
  delta State.spDisagree
  extract_lets d x n s1 s2 s3
  have h2 : Settled s s2 := .keeps (State.putF_keeps _ _ _ rfl <| State.setSp_keeps _ _ rfl (.refl _ s)) (.refl s)
  have h3 : Settled s s3 := .keeps (State.incF_keeps _ _ _ rfl <| State.raise_keeps _ _ _ rfl (.refl _ s2)) h2
  exact .ite (.ite (h3.trans (State.requestSilent_settled _ _)) h3) h2

theorem State.spAtInstant_settled : Settled s s.spAtInstant := by
  delta State.spAtInstant
  split
  · exact .refl s
  · next p _ =>
    extract_lets sup s1 s2 who s3 s4 s5 bits
    have h1 : Settled s s1 :=
      .ite (.keeps (State.acknowledge_keeps _ _ rfl (Keeps.upd_sup _ rfl (.refl _ s))) (.refl s)) (.refl s)
    have h2 : Settled s s2 := .fold (fun u m => .keeps (State.showForce_keeps _ rfl <| State.spSelect_keeps _ _ rfl (.refl _ u))
      (.refl u)) h1
    have h3 : Settled s s3 := .fold (fun u m => .keeps (State.putF_keeps _ _ _ rfl <| State.putF_keeps _ _ _ rfl (.refl _ u))
      (.refl u)) h2
    have h4 : Settled s s4 := .keeps (State.spPublish_keeps _ _ rfl (.refl _ s3)) h3
    exact .keeps (State.putF_keeps _ _ _ rfl (.refl _ s5)) (.fold (fun u m => State.spDisagree_settled _ _ _) h4)

theorem State.exitAtInstant_settled : Settled s s.exitAtInstant := by
  delta State.exitAtInstant
  extract_lets keys s1
  have h1 : Settled s s1 := by
    refine .fold (fun u k => ?_) (.refl s)
    dsimp only
    split
    · exact .trans (.keeps (State.itErr_keeps _ _ _ _ rfl <| State.incF_keeps _ _ _ rfl (.refl _ u)) (.refl u))
        (State.requestSilent_settled _ _)
    · refine Settled.trans (s := ((u.incF .agreed fItExitAgreed 1).itErr k.1 k.2 _ 6).raise evTagExitAgreed k.1 k.2) ?_
        (.same rfl rfl rfl)
      exact .keeps (State.raise_keeps _ _ _ rfl <| State.itErr_keeps _ _ _ _ rfl <| State.incF_keeps _ _ _ rfl (.refl _ u))
        (.refl u)
  exact h1.trans (.same rfl rfl rfl)

/-! ### The log -/

/-- From `s` to `t` moreover the same events wait. -/
structure Logged (s t : State) : Prop extends Settled s t where
  due : t.log.due = s.log.due

theorem Logged.refl (s : State) : Logged s s := ⟨.refl s, rfl⟩

theorem Logged.trans (h : Logged s0 s) (g : Logged s t) : Logged s0 t := ⟨h.toSettled.trans g.toSettled, g.due.trans h.due⟩

theorem Logged.of_log {l : List Part} (k : Keeps l s t) (hl : Part.log ∉ l) (h : Settled s t) : Logged s t :=
  ⟨h, congrArg LogPart.due (k.frame .log hl)⟩

theorem Logged.fold {α : Type} {f : State → α → State} {xs : List α} (hf : ∀ s x, Logged s (f s x)) (h : Logged s0 s) :
    Logged s0 (xs.foldl f s) := by
  induction xs generalizing s with
  | nil => exact h
  | cons x xs ih => exact ih (h.trans (hf s x))

theorem State.ringDrop_logged (m : Mast) (n : Nat) : Logged s (s.ringDrop m n) := by
  have due : (s.ringDrop m n).log.due = s.log.due := by
    unfold State.ringDrop State.noteSummary
    split <;> rfl
  exact ⟨.keeps (State.ringDrop_keeps _ _ rfl (.refl _ s)) (.refl s), due⟩

theorem State.ringPush_logged (m : Mast) (k : Nat) (d : List Byte) : Logged s (s.ringPush m k d) :=
  .of_log (State.ringPush_keeps (l := [.regs, .masts, .lane, .mem]) _ _ _ rfl (.refl _ s)) (by decide) <|
    .keeps (State.interrupt_keeps _ _ _ rfl <| State.putF_keeps _ _ _ rfl (.refl _ _)) (State.fabricStore_settled _ _ _)

theorem State.exportPush_logged (m : Mast) (x : LogEntry) : Logged s (s.exportPush m x) := by
  unfold State.exportPush
  split
  · exact .refl s
  · split
    · exact State.ringDrop_logged _ _
    · exact State.ringPush_logged _ _ _

theorem State.store_logged (m : Mast) (a : Nat) (bs : List Byte) : Logged s (s.store m a bs) :=
  .of_log (State.store_keeps (l := [.masts, .mem]) _ _ _ rfl (.refl _ s)) (by decide) (State.store_settled m a bs)

theorem State.logEvent_logged (e : Event) : Logged s (s.logEvent e) := by
  delta State.logEvent
  extract_lets x full gone entries running unsent log s1 s2 s3 s4
  have h1 : Logged s s1 := ⟨.same rfl rfl rfl, rfl⟩
  have h3 : Keeps [.regs] s1 s3 :=
    State.putF_keeps _ _ _ rfl <| State.putF_keeps _ _ _ rfl <| State.putF_keeps _ _ _ rfl (.refl _ s1)
  have h4 : Keeps [.regs] s1 s4 := .ite (State.putF_keeps _ _ _ rfl h3) h3
  have h4' : Logged s1 s4 := .of_log h4 (by decide) (.keeps (h4.next rfl (.refl _ s1)) (.refl s1))
  exact .fold (fun u m => (State.store_logged _ _ _).trans (State.exportPush_logged _ _)) (h1.trans h4')

/-- The log takes every event that waits (R411). -/
theorem State.logAtInstant_leaves : Settled s s.logAtInstant ∧ s.logAtInstant.log.due = [] := by
  let u : State := { s with log := { s.log with due := [] } }
  have h : Logged u s.logAtInstant := .fold (fun _ _ => State.logEvent_logged _) (.refl u)
  exact ⟨Settled.trans (s := u) (.same rfl rfl rfl) h.toSettled, h.due⟩

end
end Sys2Proof.Machine

/-!
# The tick and the combined writes

Neither changes `SP_STAT`, by which the instant then judges HOLD: its fields are read-only, and no other register's effects reach
it.
-/

namespace Sys2Proof.Machine
open Sys2Proof.Safety

/-! ### The tick -/

section
variable {s0 s : State}

theorem Spares.setReg {A : List Nat} (c : Copy) (a : Nat) (w : Word) (ha : apartFrom A a) (h : Spares A s0 s) :
    Spares A s0 (s.setReg c a w) :=
  h.trans ⟨fun c' a' hm => State.reg_setReg_other s c c' a a' w fun e => ha a' hm <| by
    rw [← regKey_mod c' a', ← regKey_mod c a, e], fun _ he => he⟩

/-- The tick marks the action instant, with a number above the last one's, and leaves `SP_STAT` (R167). -/
theorem State.aiTick_leaves (s : State) (n at' : Nat) :
    (∃ k, (s.aiTick n at').time.mark = (some n, at', s.aiOffset + n * s.aiCycle, k) ∧
      (s.time.lastIndex.isSome = true → s.time.aiNumber < k)) ∧
    Spares [rSpStat] s (s.aiTick n at') := by
  dsimp -zeta only [State.aiTick]
  extract_lets first number bias gap u1 u2 s2 past time s3 s4 s5 s6 s7 s8
  have h2 : Spares [rTbAioffset, rTbAicycle, rSpStat] s s2 := by
    unfold s2
    split
    · exact .refl _ s
    · exact .ite ((((Spares.refl _ s).incF _ _ _ (by decide)).putF _ _ _ (by decide)).raise ..) (.refl _ s)
  have hoff : s2.aiOffset = s.aiOffset := h2.getF (by decide)
  have hcyc : s2.aiCycle = s.aiCycle := congrArg (fun c => max 1 (c * 1000)) (h2.getF (by decide))
  have h3 : Spares [rSpStat] s s3 := .same rfl rfl ⟨fun c a ha => h2.1 c a (by simp_all), h2.2⟩
  refine ⟨⟨n + bias, ?_, fun hl => ?_⟩, ?_⟩
  · rw [← hoff, ← hcyc]
    rfl
  · have hf : first = false := by simpa [first] using hl
    show s.time.aiNumber < n + bias
    simp only [bias, hf, number, Bool.not_false, Bool.true_and, decide_eq_true_eq]
    split <;> omega
  · exact (((((h3.putF _ _ _ (by decide)).putF _ _ _ (by decide)).putF _ _ _ (by decide)).putF _ _ _ (by decide)).putF _ _ _
      (by decide)).putF _ _ _ (by decide)

end

/-! ### Registers that the combination may write -/

/-- A register lies below the end of the address space. -/
theorem findReg_lt {addr : Nat} {r : RegRow} (h : findReg addr = some r) : addr < 2 ^ 32 := by
  unfold findReg at h
  split at h
  · by_contra hn
    obtain ⟨k, hk⟩ : ∃ k, (addr - 0xE0000000) / 0x10000 = k + 17 := Nat.exists_eq_add_of_le' (by omega)
    have hb : blockRows addr = [] := by
      unfold blockRows
      rw [hk]
      rfl
    rw [hb] at h
    exact absurd h (by simp)
  · exact absurd h (by simp)

/-- `SP_STAT`. -/
def spStatRow : RegRow :=
  ⟨"SP_STAT", 0xE0090000, 1, 0x4, .agreed, false,
    [⟨"DIR_SEL", 7, 7, .ro, 0, 0, 0xFFFFFFFF⟩, ⟨"ODO", 6, 6, .ro, 0, 0, 0xFFFFFFFF⟩, ⟨"SLIP", 5, 5, .ro, 0, 0, 0xFFFFFFFF⟩,
     ⟨"BERTH", 4, 4, .ro, 0, 0, 0xFFFFFFFF⟩, ⟨"ZERO", 3, 3, .ro, 0, 0, 0xFFFFFFFF⟩, ⟨"LATCHED", 2, 2, .ro, 0, 0, 0xFFFFFFFF⟩,
     ⟨"SELFTEST", 1, 1, .ro, 0, 0, 0xFFFFFFFF⟩, ⟨"ACTIVE", 0, 0, .ro, 0, 0, 0xFFFFFFFF⟩]⟩

theorem findReg_spStat : findReg rSpStat = some spStatRow := rfl

/-- What is written of `SP_STAT` without its read-only fields is nothing. -/
theorem spStatRow_take {types : List FieldType} (h : types.contains .ro = false) (old w : Word) :
    spStatRow.take types old w = old := by
  simp only [RegRow.take, spStatRow, List.foldl, h]
  rfl

section
variable {s0 s : State} {addr : Nat} {r : RegRow}

theorem apartFrom_spStat (h : findReg addr = some r) (hn : addr ≠ rSpStat) : apartFrom [rSpStat] addr := by
  have hlt := findReg_lt h
  simp only [apartFrom, List.forall_mem_singleton, rSpStat] at hn ⊢
  omega

/-- A register set to what it holds reads as before. -/
theorem Spares.setReg_self {A : List Nat} (c : Copy) (a : Nat) (hA : ∀ x ∈ A, x < 2 ^ 32) (h : Spares A s0 s) :
    Spares A s0 (s.setReg c a (s.reg c a)) :=
  h.trans ⟨fun c' a' hm => regsBut_setReg_self (l := []) s c a c' a' (hA a' hm) (by simp), fun _ he => he⟩

/-- The software fields of a register are written in every copy. -/
theorem State.setCopies_spares (h : findReg addr = some r) {types : List FieldType} (ht : types.contains .ro = false) (w : Word)
    (cs : List Copy) : Spares [rSpStat] s (cs.foldl (fun s c => s.setReg c addr (r.take types (s.reg c addr) w)) s) := by
  refine .fold (fun u c g => ?_) (.refl _ s)
  by_cases e : addr = rSpStat
  · subst e
    obtain rfl : spStatRow = r := Option.some.inj (findReg_spStat.symm.trans h)
    rw [spStatRow_take ht]
    exact g.setReg_self c _ (by decide)
  · exact g.setReg c addr _ (apartFrom_spStat h e)

/-! ### The combination -/

theorem State.mcDone_spares (code result reason : Nat) : Spares [rSpStat] s (s.mcDone code result reason) :=
  .fold (fun _ _ g => ((g.putF _ _ _ (by decide)).putF _ _ _ (by decide)).putF _ _ _ (by decide)) (.refl _ s)

theorem State.upDone_spares (code result reason : Nat) : Spares [rSpStat] s (s.upDone code result reason) :=
  (((Spares.refl _ s).putF _ _ _ (by decide)).putF _ _ _ (by decide)).putF _ _ _ (by decide)

theorem State.normalHandovers_spares : Spares [rSpStat] s s.normalHandovers :=
  have h : Spares [rSpStat] s ((List.range 8).foldl (fun s u =>
      s.setUnit u { s.unit u with
        pendingTo := if s.rightOwner u = some (s.unit u).owner then none else s.rightOwner u }) s) :=
    .fold (fun _ _ g => .same rfl rfl g) (.refl _ s)
  (h.putF _ _ _ (by decide)).putF _ _ _ (by decide)

theorem State.showPool_spares (m : Mast) (h : Spares [rSpStat] s0 s) : Spares [rSpStat] s0 (s.showPool m) :=
  h.putF _ _ _ (by decide)

/-- No register lies a word or two below `SP_STAT`. -/
theorem apartFrom_spStat_add (h : findReg addr = some r) {k : Nat} (hk : k = 4 ∨ k = 8) : apartFrom [rSpStat] (addr + k) := by
  have hlt := findReg_lt h
  simp only [apartFrom, List.forall_mem_singleton, rSpStat]
  intro e
  obtain rfl | rfl := hk
  · have ha : addr = 0xE008FFFC := by omega
    rw [ha, show findReg 0xE008FFFC = none from rfl] at h
    exact absurd h (by simp)
  · have ha : addr = 0xE008FFF8 := by omega
    rw [ha, show findReg 0xE008FFF8 = none from rfl] at h
    exact absurd h (by simp)

theorem State.enabled_spares (h : findReg addr = some r) (was : Mast → Nat) : Spares [rSpStat] s (s.enabled r addr was) := by
  delta State.enabled
  extract_lets bit
  refine .fold (fun u m g => ?_) (.refl _ s)
  extract_lets on
  have drained : Spares [rSpStat] s ((u.setReg (.mast m) (addr + 4) 0).setReg (.mast m) (addr + 8) 0) :=
    (g.setReg _ _ _ (apartFrom_spStat_add h (.inl rfl))).setReg _ _ _ (apartFrom_spStat_add h (.inr rfl))
  exact .ite (.ite drained g) <|
    .ite (State.showPool_spares m (.same rfl rfl g)) (.ite (State.showPool_spares m (.same rfl rfl g)) g)

theorem State.writeAgreed_spares (h : findReg addr = some r) (w : Word) : Spares [rSpStat] s (s.writeAgreed r addr w) := by
  delta State.writeAgreed
  refine .ite (State.mcDone_spares ..) (.ite (State.upDone_spares ..) (.ite (.refl _ s) ?_))
  extract_lets types before u
  have ht : types.contains .ro = false := by
    unfold types
    split <;> split <;> rfl
  have hu : Spares [rSpStat] s u := State.setCopies_spares h ht w _
  exact .ite (hu.trans State.normalHandovers_spares) <| .ite (hu.putF _ _ _ (by decide)) <|
    .ite (hu.trans (State.enabled_spares h _)) <| .ite (hu.trans (State.enabled_spares h _)) hu

theorem State.writeDisagreed_spares (l : List CombWrite) : Spares [rSpStat] s (s.writeDisagreed r l) := by
  delta State.writeDisagreed
  extract_lets code
  exact .ite (.refl _ s) <| .ite ((State.mcDone_spares ..).raise ..) (.ite (State.upDone_spares ..) (.refl _ s))

theorem State.combine_spares (addr : Nat) : Spares [rSpStat] s (s.combine addr) := by
  unfold State.combine
  split
  · exact .refl _ s
  · next r h =>
    split
    · exact State.writeAgreed_spares h _
    · exact State.writeDisagreed_spares _

/-- The combination takes every deposited write (R45). -/
theorem State.combineAll_leaves (s : State) : s.combineAll.writes = [] ∧ s.combineAll.time = s.time ∧ s.combineAll.ctl = s.ctl ∧
    Spares [rSpStat] s s.combineAll := by
  have hk : Keeps [.regs, .writes, .log, .lane, .queue] s s.combineAll := State.combineAll_keeps rfl (.refl _ s)
  have hs : Spares [rSpStat] s (s.writtenTo.foldl State.combine s) :=
    .fold (fun _ a g => g.trans (State.combine_spares a)) (.refl _ s)
  exact ⟨rfl, hk.frame .time (by decide), hk.frame .ctl (by decide), .same rfl rfl hs⟩

end
end Sys2Proof.Machine

/-! # The whole instant -/

namespace Sys2Proof.Machine
open Sys2Proof.Safety

section
variable {s0 s : State}

/-- A HOLD without zero speed ends at the instant (R27). -/
theorem State.modeAtInstant_of_hold (hm : s.ctl.mode = .hold) (hz : s.getF .agreed fSpStatZero = 0) :
    s.modeAtInstant.ctl.mode = .stop := by
  unfold State.modeAtInstant
  rw [hm]
  exact (congrArg (fun u : State => u.ctl.mode) (if_pos hz)).trans (State.enterStop_mode _ _)

/-- Mode changes, the join, the program, forces and the commit of an instant, up to the judgement of the intake (R26). -/
def State.instantFirst (s : State) : State :=
  s.modeAtInstant.joinAtInstant.appAtInstant.forcesAtInstant.commitAtInstant.intakeDecide

theorem State.intakeDecide_settled : Settled s s.intakeDecide := .keeps (State.intakeDecide_keeps rfl (.refl _ s)) (.refl s)

theorem State.instantFirst_marked : Marked s s.instantFirst := by
  have h1 : Marked s s.modeAtInstant.joinAtInstant.appAtInstant :=
    (State.modeAtInstant_marked.trans State.joinAtInstant_marked).trans State.appAtInstant_marked
  have h2 : Marked s s.modeAtInstant.joinAtInstant.appAtInstant.forcesAtInstant :=
    .keeps (State.forcesAtInstant_keeps rfl (.refl _ _)) h1
  exact (h2.trans State.commitAtInstant_settled.1.toMarked).trans State.intakeDecide_settled.toMarked

theorem State.instantFirst_decision : s.instantFirst.lane.decision = none := by
  unfold State.instantFirst
  exact State.intakeDecide_settled.decision State.commitAtInstant_settled.2

theorem State.instantFirst_of_hold (hm : s.ctl.mode = .hold) (hz : s.getF .agreed fSpStatZero = 0) :
    s.instantFirst.ctl.mode = .stop := by
  have h : Turns [.stop] s.modeAtInstant s.instantFirst := by
    unfold State.instantFirst
    exact .keeps (State.intakeDecide_keeps rfl <| State.commitAtInstant_keeps rfl <| State.forcesAtInstant_keeps rfl (.refl _ _)) <|
      .trans (.keeps (State.joinAtInstant_keeps rfl (.refl _ _)) (.refl _ _)) State.appAtInstant_turns
  obtain h | h := h
  · exact h.trans (State.modeAtInstant_of_hold hm hz)
  · simpa using h

/-- The last part of an instant, from the speed supervisor to the registers shown. -/
def State.instantEnd (s : State) : State :=
  s.spAtInstant.exitAtInstant.cmpAtInstant.tachoAtInstant.supplyAtInstant.logAtInstant.showTemps.publish

theorem State.publish_leaves (s : State) : Settled s s.publish ∧ s.publish.log = s.log ∧
    s.publish.shown = some ⟨s.publish.regs.cells.filter fun c => c.1 / 4294967296 == Copy.agreed.num⟩ :=
  ⟨.same rfl rfl rfl, rfl, rfl⟩

/-- The log takes the events that wait; the temperatures and the registers are shown after it. -/
theorem State.logAndPublish_leaves (s : State) :
    Settled s s.logAtInstant.showTemps.publish ∧ s.logAtInstant.showTemps.publish.log.due = [] := by
  obtain ⟨logged, due⟩ := State.logAtInstant_leaves (s := s)
  have temps : Keeps [.regs] s.logAtInstant s.logAtInstant.showTemps := State.showTemps_keeps rfl (.refl _ _)
  obtain ⟨last, log, -⟩ := s.logAtInstant.showTemps.publish_leaves
  have log' : s.logAtInstant.showTemps.log = s.logAtInstant.log := temps.frame .log (by decide)
  refine ⟨Settled.trans (.keeps (temps.next rfl (.refl _ _)) logged) last, ?_⟩
  rw [log, log', due]

theorem State.instantEnd_leaves : Settled s s.instantEnd ∧ s.instantEnd.log.due = [] := by
  have h1 : Settled s s.spAtInstant.exitAtInstant := State.spAtInstant_settled.trans State.exitAtInstant_settled
  have h2 : Settled s s.spAtInstant.exitAtInstant.cmpAtInstant.tachoAtInstant.supplyAtInstant :=
    .keeps (State.supplyAtInstant_keeps rfl <| State.tachoAtInstant_keeps rfl <| State.cmpAtInstant_keeps rfl (.refl _ _)) h1
  obtain ⟨h3, due⟩ := State.logAndPublish_leaves s.spAtInstant.exitAtInstant.cmpAtInstant.tachoAtInstant.supplyAtInstant
  unfold State.instantEnd
  exact ⟨h2.trans h3, due⟩

theorem State.instantEnd_ctl : s.instantEnd.ctl = s.ctl :=
  ctl_of_keeps <| State.publish_keeps rfl <| State.showTemps_keeps rfl <| State.logAtInstant_keeps rfl <|
    State.supplyAtInstant_keeps rfl <| State.tachoAtInstant_keeps rfl <| State.cmpAtInstant_keeps rfl <|
    State.exitAtInstant_keeps rfl <| State.spAtInstant_keeps rfl (.refl _ s)

/-- The agreed registers are shown as they stand. -/
theorem State.instantEnd_shown : s.instantEnd.shown =
    some ⟨s.instantEnd.regs.cells.filter fun c => c.1 / 4294967296 == Copy.agreed.num⟩ :=
  (State.publish_leaves _).2.2

/-- Between the two parts the interfaces, the doors and the field bus have their turn, which decides nothing. -/
theorem State.instant_eq (n at' : Nat) : ∃ u, s.instant n at' = u.instantEnd ∧
    Keeps [.regs, .log, .net, .stay, .bridge, .fb, .field] ((s.aiTick n at').combineAll.instantFirst) u := by
  dsimp -zeta only [State.instant]
  extract_lets previous long s1 boot s2 gates s3 s4
  have h3 : Keeps [.regs, .log, .net, .stay, .bridge, .fb, .field] s2 s3 :=
    State.fieldAtInstant_keeps _ rfl <| State.fbAtInstant_keeps _ _ rfl <| State.bridgeAtInstant_keeps rfl <|
    State.slAtInstant_keeps rfl <| State.openInterfaces_keeps rfl <| State.netAtInstant_keeps rfl (.refl _ s2)
  exact ⟨s4, rfl, .ite (State.fbStart_keeps rfl h3) h3⟩

/-- What an action instant leaves (R26, R165). -/
structure Instant (s u : State) (n at' : Nat) : Prop where
  due : u.log.due = []
  writes : u.writes = []
  decision : u.lane.decision = none
  index : u.time.lastIndex = some n
  localTime : u.time.lastAiLocal = at'
  moduleTime : u.time.lastAiTime = s.aiOffset + n * s.aiCycle
  number : s.time.lastIndex.isSome = true → s.time.aiNumber < u.time.aiNumber
  hold : s.ctl.mode = .hold → s.getF .agreed fSpStatZero = 0 → u.ctl.mode = .stop
  shown : u.shown = some ⟨u.regs.cells.filter fun c => c.1 / 4294967296 == Copy.agreed.num⟩

theorem State.instant_leaves (n at' : Nat) : Instant s (s.instant n at') n at' := by
  obtain ⟨⟨k, hk, hlast⟩, tick⟩ := s.aiTick_leaves n at'
  obtain ⟨writes, time, ctl, combine⟩ := (s.aiTick n at').combineAll_leaves
  obtain ⟨u, e, keeps⟩ := State.instant_eq (s := s) n at'
  let v := (s.aiTick n at').combineAll
  have modes : Marked v v.instantFirst := State.instantFirst_marked
  have rest : Settled v.instantFirst u := .keeps (keeps.next rfl (.refl _ _)) (.refl _)
  obtain ⟨last, due⟩ := State.instantEnd_leaves (s := u)
  have marked : Marked v u.instantEnd := modes.trans (rest.trans last).toMarked
  have vctl : v.ctl = s.ctl := ctl.trans (ctl_of_keeps (State.aiTick_keeps n at' rfl (.refl _ s)))
  have zero : v.getF .agreed fSpStatZero = s.getF .agreed fSpStatZero := (tick.trans combine).getF (by decide)
  obtain ⟨index, localTime, moduleTime, number⟩ := TimePart.of_mark ((marked.mark.trans (congrArg TimePart.mark time)).trans hk)
  rw [e]
  exact {
    due := due
    writes := marked.writes writes
    decision := (rest.trans last).decision State.instantFirst_decision
    index := index
    localTime := localTime
    moduleTime := moduleTime
    number := fun hl => (hlast hl).trans_eq number.symm
    hold := fun hm hz => by
      rw [State.instantEnd_ctl, ctl_of_keeps (keeps.next rfl (.refl _ _))]
      exact State.instantFirst_of_hold (vctl ▸ hm) (zero.trans hz)
    shown := State.instantEnd_shown }

end
end Sys2Proof.Machine

/-! # The statement on action instants and the log -/

namespace Sys2Proof.Machine
open Sys2Proof.Safety

section
variable {s : State} {t n x : Nat}

theorem exec_actionInstant_of_due (hi : s.instants = true) (hd : (s.advance t).aiDue = some (n, x)) :
    exec (.actionInstant t) s =
      if (s.advance t).twoEdges n then .next ((s.advance t).instant n x) else .next (s.advance t) := by
  have hi' : (s.advance t).instants = true := State.instants_advance t hi
  show execActionInstant t s = _
  dsimp -zeta only [execActionInstant]
  extract_lets u
  rw [hi', hd]
  rfl

end

/-- Settles O33: the parts of an instant keep what the tick, the combination and the commit leave (`Instant`); an entry of the log
is taken off the unsent ones and sent, dropped, lost or passed over. -/
theorem instantsAndLog : Obligations.InstantsAndLog := by
  unfold Obligations.InstantsAndLog
  refine ⟨?instant, ?oneEdge, ?period, ?sent, ?sentFree, ?dropped, ?lost, ?above⟩
  case instant =>
    intro t n x s hi hd he
    have h : Instant (s.advance t) ((s.advance t).instant n x) n x := State.instant_leaves n x
    have frame := State.instant_keeps (l := .writes :: .time :: allButMarks) n x rfl (.refl _ (s.advance t))
    exact ⟨_, (exec_actionInstant_of_due hi hd).trans (if_pos he), h.due, h.writes, h.decision, h.index, h.localTime, h.moduleTime,
      h.number, fun hm hz e => absurd ((h.hold hm hz).symm.trans e) (by decide), h.shown, frame.frame .now (by decide),
      frame.frame .pending (by decide)⟩
  case oneEdge =>
    intro t n x s hi hd he
    exact (exec_actionInstant_of_due hi hd).trans (if_neg (by simp [he]))
  case period =>
    intro t code key p s ⟨hp, hcode, hkey⟩ hpassed
    subst hcode hkey
    refine ⟨_, exec_summaryEventPeriodEnd_of_only hp hpassed, ?_⟩
    rw [State.raiseSummary_eq]
    exact ⟨rfl, raised_raiseBy _ _ _ _ _, rfl,
      (State.raiseBy_keeps (l := [.log]) _ _ _ _ rfl (Keeps.upd_log _ rfl (.refl _ _))).frame⟩
  case sent =>
    intro t n rest x s hx hu h hc hk
    rw [← State.filledTokens_advance] at hk ⊢
    exact ⟨_, exec_syslogExport_of_paid hx hu h hc hk, State.takeEntry_sends t _ rest x sec⟩
  case sentFree =>
    intro t n rest x s hx hu h hc
    rw [← State.filledTokens_advance]
    exact ⟨_, exec_syslogExport_of_free hx hu h hc, State.takeEntry_sends t _ rest x 0⟩
  case dropped =>
    intro t n rest x s hx hu h hc hk
    rw [← State.filledTokens_advance] at hk
    exact ⟨_, exec_syslogExport_of_unpaid hx hu h hc hk, State.takeEntry_drops t _ rest⟩
  case lost =>
    intro t n rest s hx hu h
    exact ⟨_, exec_syslogExport_of_lost hx hu h, State.takeEntry_loses t _ rest⟩
  case above =>
    intro t n x s hx hu ⟨h, hs⟩
    have hp : s.passesOver n = true := (State.passesOver_of_entry h).trans (decide_eq_true hs)
    exact ⟨_, exec_syslogExport_of_above hx hu hp, State.takeEntry_passes t _ []⟩

end Sys2Proof.Machine

/-!
# A node whose register wraps around

O28 lists the registers that show a bus's nodes, `FB_NODEb_n` 4 bytes beyond the one before, whatever the nodes' numbers. A bus takes
node numbers up to 64 from its section (R196); the register of a node numbered far beyond that lies past the 32-bit register
space, where the register file holds another copy.
-/

namespace Sys2Proof.Machine

/-- A node whose number takes its `FB_NODE0_n` a whole copy of the register space, 2³² bytes, beyond that of node 1. -/
def wrappingNode : FbNode := { node := 2 ^ 30 + 1, late := true }

/-- Node 5: active, and for one cycle without DATA or NULL. -/
def fadingNode : FbNode := { node := 5, late := false, state := 2, quiet := 1 }

/-- The schedule of the counterexample: one slot of node 5, and a timeout of two cycles. -/
def fadingSchedule : FbSchedule := ⟨9, 2, 1000, 16, 0, [(5, false)], [⟨2, .nodeIn, 5, 4, 1000, false, 0⟩]⟩

/-- A release at which node 5 is lost, on a bus that holds the wrapping node too. -/
def wrappingRelease : State :=
  { State.reset with
    fb := { bus0 := { sched := some fadingSchedule, nodes := [fadingNode, wrappingNode] } }
    intake := { agreed := [Item.form 0x2000 0 0 []], releasePending := true } }

/-- What is agreed of the bus at that release: an empty report of X. -/
def silentView : FbView := ⟨[], [], false, 0, []⟩

theorem wrappingRelease_view : wrappingRelease.fbReleasing 0 = some silentView := by decide +kernel

/-- The wrapping node's register is stored under the key of the copy that mast A's Triad P has of `FB_NODE0_1`. -/
theorem wrappingRelease_triadCopy :
    ∃ s', exec (.fbNodeLost 0 0 5) wrappingRelease = .next s' ∧
      s'.reg (.triad .a .p) rFbNode0 ≠ wrappingRelease.reg (.triad .a .p) rFbNode0 :=
  ⟨_, rfl, by decide +kernel⟩

/-- Refutes O28: showing the nodes of the bus of `wrappingRelease` stores a word in Triad P's copy of `FB_NODE0_1` on mast A, which is
none of the registers listed. -/
theorem not_doorBusNodesAndGrants : ¬ Obligations.DoorBusNodesAndGrants := by
  unfold Obligations.DoorBusNodesAndGrants
  rintro ⟨lost, -⟩
  obtain ⟨s', e, -, -, -, hregs, -⟩ :=
    lost 0 0 5 silentView fadingNode fadingSchedule wrappingRelease (by decide) wrappingRelease_view
      (by decide +kernel) rfl rfl (by decide +kernel) (.inr (by decide)) ⟨rfl, by decide⟩
  obtain ⟨u, e', hu⟩ := wrappingRelease_triadCopy
  cases Host.Outcome.next.inj (e.symm.trans e')
  exact hu (hregs (.triad .a .p) rFbNode0 (by decide) (by decide +kernel))

end Sys2Proof.Machine

/-!
## The buses, their registers, states and TEST
-/
namespace Sys2Proof.Machine
open Sys2Proof.Safety

/-! ### Both buses -/

section
variable (s : State) {b : Nat} (x : FbBus)

@[simp] theorem State.bus_setBus_same : (s.setBus b x).bus b = x := by
  by_cases h : b = 0 <;> simp [State.setBus, State.bus, h]

theorem State.bus_setBus_other (hb : b < 2) : ∀ c, c < 2 → c ≠ b → (s.setBus b x).bus c = s.bus c := by
  intro c hc hne
  obtain ⟨rfl, rfl⟩ | ⟨rfl, rfl⟩ : b = 0 ∧ c = 1 ∨ b = 1 ∧ c = 0 := by omega
  all_goals rfl

/-- Replacing a bus is a change of the part of the buses alone. -/
theorem State.setBus_eq : s.setBus b x = { s with fb := (s.setBus b x).fb } := by
  unfold State.setBus
  split <;> rfl

@[simp] theorem State.setBus_bus : s.setBus b (s.bus b) = s := by
  by_cases h : b = 0 <;> simp [State.setBus, State.bus, h]

@[simp] theorem State.setBus_setBus (y : FbBus) : (s.setBus b y).setBus b x = s.setBus b x := by
  by_cases h : b = 0 <;> simp [State.setBus, h]

@[simp] theorem State.setBus_regs : (s.setBus b x).regs = s.regs := by rw [State.setBus_eq]
@[simp] theorem State.setBus_log : (s.setBus b x).log = s.log := by rw [State.setBus_eq]
@[simp] theorem State.setBus_intake : (s.setBus b x).intake = s.intake := by rw [State.setBus_eq]
@[simp] theorem State.setBus_time : (s.setBus b x).time = s.time := by rw [State.setBus_eq]

theorem State.setBus_sameBut : sameBut [.fb] s (s.setBus b x) := (State.setBus_keeps _ _ rfl (.refl _ s)).frame

variable {s}

theorem State.bus_of_fb {t : State} (h : t.fb = s.fb) (b : Nat) : t.bus b = s.bus b := by simp only [State.bus, h]

end

/-! ### The registers of a bus -/

section
variable {s : State} {b a : Nat} {f : Fld}

/-- The register blocks of both buses lie within the register space. -/
theorem fbF_addr_lt (hb : b < 2) (hf : f.addr = a) (ha : a < 0xE0060800) : (fbF f b).addr < 2 ^ 32 := by
  simp only [fbF, Fld.plus, hf]
  omega

theorem regsBut_putF_fbF (c : Copy) (v : Nat) (hb : b < 2) (hf : f.addr = a) (ha : a < 0xE0060800) :
    regsBut [(c, a + 0x800 * b)] s (s.putF c (fbF f b) v) :=
  regsBut_putF s c (fbF f b) v (fbF_addr_lt hb hf ha) (by simp [fbF, Fld.plus, hf])

theorem regsBut_incF_fbF (c : Copy) (n : Nat) (hb : b < 2) (hf : f.addr = a) (ha : a < 0xE0060800) :
    regsBut [(c, a + 0x800 * b)] s (s.incF c (fbF f b) n) := regsBut_putF_fbF c _ hb hf ha

/-- A value that fits its field is what the field shows. -/
theorem State.getF_putF_fbF (c : Copy) {v : Nat} (hh : f.hi < 32) (hl : f.lo ≤ f.hi) (hv : v < 2 ^ (f.hi + 1 - f.lo)) :
    (s.putF c (fbF f b) v).getF c (fbF f b) = v :=
  (State.getF_putF s c (fbF f b) v hh hl).trans (Nat.mod_eq_of_lt hv)

/-- A counter of a bus goes up, no further than its field goes. -/
theorem State.getF_incF_fbF (c : Copy) (n : Nat) {top : Nat} (hh : f.hi < 32) (hl : f.lo ≤ f.hi)
    (hw : 2 ^ (f.hi + 1 - f.lo) - 1 = top) :
    (s.incF c (fbF f b) n).getF c (fbF f b) = min top (s.getF c (fbF f b) + n) := by
  subst hw
  exact State.getF_incF s c (fbF f b) n hh hl

end

/-! ### The state of a bus -/

theorem BusState.code_lt (st : BusState) : st.code < 8 := by cases st <;> decide

/-- Bus `b` has gone from its state in `s` to state `st`, and shows and tells it (R199); the other bus is as it was. -/
structure TakesState (b : Nat) (st : BusState) (s t : State) : Prop where
  bus : t.bus b = { s.bus b with state := st, sentCycles := 0 }
  shown : t.getF .agreed (fbF fFbStatState b) = st.code
  told : raised t s.lane.active.mask evFbState b ((s.bus b).state.code * 256 + st.code)
  others : ∀ c, c < 2 → c ≠ b → t.bus c = s.bus c

theorem TakesState.tells {b : Nat} {old st : BusState} {s t : State} (h : TakesState b st s t) (ho : (s.bus b).state = old) :
    raised t s.lane.active.mask evFbState b (old.code * 256 + st.code) := ho ▸ h.told

section
variable {s : State} {b : Nat} {st : BusState}

/-- The change of state is told, and a new recovery counted. -/
def State.tellState (s : State) (b : Nat) (st : BusState) : State :=
  let u := s.raise evFbState b ((s.bus b).state.code * 256 + st.code)
  if st = .recover then u.incF .agreed (fbF fFbRecovRecovers b) 1 else u

theorem State.fbState_eq (h : (s.bus b).state ≠ st) :
    s.fbState b st = ((s.tellState b st).setBus b { s.bus b with state := st, sentCycles := 0 }).putF .agreed
      (fbF fFbStatState b) st.code := if_neg h

theorem State.tellState_log (s : State) : (s.tellState b st).log =
    (s.raise evFbState b ((s.bus b).state.code * 256 + st.code)).log := by
  unfold State.tellState
  split <;> rfl

theorem State.tellState_fb (s : State) : (s.tellState b st).fb = s.fb := by
  unfold State.tellState
  split <;> rfl

theorem State.fbState_takes (hb : b < 2) (h : (s.bus b).state ≠ st) : TakesState b st s (s.fbState b st) := by
  rw [State.fbState_eq h]
  refine ⟨State.bus_setBus_same _ _, State.getF_putF_fbF _ (by decide) (by decide) st.code_lt, ?_, fun c hc hne => ?_⟩
  · exact (raised_of_log ((State.setBus_log _ _).trans s.tellState_log) ..).2 (raised_raise ..)
  · exact (State.bus_setBus_other _ _ hb c hc hne).trans (State.bus_of_fb s.tellState_fb c)

theorem State.fbState_sameBut (s : State) : sameBut [.fb, .regs, .log] s (s.fbState b st) :=
  (State.fbState_keeps _ _ rfl (.refl _ s)).frame

/-- Any state but RECOVER shows in `FB_STAT` alone. -/
theorem State.fbState_regsBut (hb : b < 2) (h : (s.bus b).state ≠ st) (hr : st ≠ .recover) :
    regsBut [(.agreed, rFbStat + 0x800 * b)] s (s.fbState b st) := by
  rw [State.fbState_eq h]
  refine regsBut_trans (regsBut_of_regs ?_) (regsBut_putF_fbF _ _ hb rfl (by decide))
  rw [State.setBus_regs, State.tellState, if_neg hr]
  rfl

theorem State.tellState_regsBut (hb : b < 2) : regsBut [(.agreed, rFbRecov + 0x800 * b)] s (s.tellState b st) := by
  unfold State.tellState
  split
  · exact regsBut_incF_fbF (s := s.raise ..) .agreed 1 hb rfl (by decide)
  · exact regsBut_refl _ s

/-- RECOVER is counted besides. -/
theorem State.fbState_regsBut_counted (hb : b < 2) (h : (s.bus b).state ≠ st) :
    regsBut [(.agreed, rFbStat + 0x800 * b), (.agreed, rFbRecov + 0x800 * b)] s (s.fbState b st) := by
  rw [State.fbState_eq h]
  exact regsBut_trans (regsBut_trans (regsBut_mono (s.tellState_regsBut hb) (by simp)) (regsBut_of_regs (State.setBus_regs _ _)))
    (regsBut_mono (regsBut_putF_fbF (a := rFbStat) _ _ hb rfl (by decide)) (by simp))

theorem State.fbState_recovers (hb : b < 2) (h : (s.bus b).state ≠ .recover) :
    (s.fbState b .recover).getF .agreed (fbF fFbRecovRecovers b) =
      min 65535 (s.getF .agreed (fbF fFbRecovRecovers b) + 1) := by
  rw [State.fbState_eq h]
  calc _ = (s.tellState b .recover).getF .agreed (fbF fFbRecovRecovers b) := by
        rw [State.getF_putF_key, State.getF_of_regs (State.setBus_regs _ _)]
        exact regKey_ne (by simp [fbF, Fld.plus, fFbRecovRecovers, fFbStatState])
          (fbF_addr_lt hb rfl (by decide)) (fbF_addr_lt hb rfl (by decide))
    _ = _ := State.getF_incF_fbF (s := s.raise ..) .agreed 1 (by decide) (by decide) rfl

end

/-! ### States by count -/

section
variable {s : State} {b : Nat} (t : Nat)

theorem exec_fbIntegrateDone_of_sent (hb : b < 2) (h : (s.bus b).state = .integrate ∧ 8 ≤ (s.bus b).sentCycles) :
    exec (.fbIntegrateDone t b) s = .next ((s.advance t).fbState b .normal) := if_pos ⟨hb, h⟩

theorem exec_fbRecoverDone_of_sent (hb : b < 2) (h : (s.bus b).state = .recover ∧ 2 ≤ (s.bus b).sentCycles) :
    exec (.fbRecoverDone t b) s = .next ((s.advance t).fbState b .normal) := if_pos ⟨hb, h⟩

end

/-! ### TEST -/

section
variable {s : State} {b : Nat} (t : Nat)

/-- The request of one mast. -/
def State.putTestOf (s : State) (b v : Nat) (m : Mast) : State :=
  if s.votes m then s.putF (.mast m) (fbF fFbCtrlTest b) v else s

theorem State.putTestOf_votes (s : State) (b v : Nat) (m n : Mast) : (s.putTestOf b v m).votes n = s.votes n := by
  unfold State.putTestOf
  split <;> rfl

theorem mem_mast_all (m : Mast) : m ∈ Mast.all := by cases m <;> decide

theorem State.putTestOf_regsBut (hb : b < 2) (v : Nat) (m : Mast) :
    regsBut [(.mast m, rFbCtrl + 0x800 * b)] s (s.putTestOf b v m) := by
  unfold State.putTestOf
  split
  · exact regsBut_putF_fbF _ _ hb rfl (by decide)
  · exact regsBut_refl _ s

theorem State.putTest_regsBut (hb : b < 2) (v : Nat) :
    regsBut (Mast.all.map fun m => (.mast m, rFbCtrl + 0x800 * b)) s (s.putTest b v) :=
  regsBut_foldl (fun s m => regsBut_mono (s.putTestOf_regsBut hb v m) fun _ hx =>
    List.mem_map.2 ⟨m, mem_mast_all m, (List.mem_singleton.1 hx).symm⟩) _ s

theorem State.putTestOf_test {v : Nat} {m : Mast} (hv : v < 2) (hm : s.votes m = true) :
    (s.putTestOf b v m).getF (.mast m) (fbF fFbCtrlTest b) = v := by
  rw [State.putTestOf, if_pos hm]
  exact State.getF_putF_fbF _ (by decide) (by decide) hv

/-- A mast that votes holds the request: it is written once, and no other mast's is written over it. -/
theorem State.putTest_test {v : Nat} (hb : b < 2) (hv : v < 2) (m : Mast) (hm : s.votes m = true) :
    (s.putTest b v).getF (.mast m) (fbF fFbCtrlTest b) = v := by
  have later (l : List Mast) (u : State) (hu : u.votes m = true)
      (h : m ∈ l ∨ u.getF (.mast m) (fbF fFbCtrlTest b) = v) :
      (l.foldl (fun s m => s.putTestOf b v m) u).getF (.mast m) (fbF fFbCtrlTest b) = v := by
    induction l generalizing u with
    | nil => exact h.resolve_left (by simp)
    | cons n l ih =>
      refine ih _ ((u.putTestOf_votes b v n m).trans hu) (or_iff_not_imp_left.2 fun hl => ?_)
      by_cases e : n = m
      · subst e
        exact State.putTestOf_test hv hu
      · rw [State.getF_of_regsBut (u.putTestOf_regsBut hb v n) (fbF_addr_lt hb rfl (by decide))
          (by simpa using fun h => absurd h.symm e)]
        exact h.resolve_left fun hm => (List.mem_cons.1 hm).elim (fun h => e h.symm) hl
  exact later _ s hm (.inl (mem_mast_all m))

theorem State.putTest_sameBut (s : State) (b v : Nat) : sameBut [.regs] s (s.putTest b v) :=
  (State.putTest_keeps _ _ rfl (.refl _ s)).frame

theorem State.putTest_bus (s : State) (b v : Nat) : (s.putTest b v).bus b = s.bus b :=
  State.bus_of_fb ((s.putTest_sameBut b v) .fb (by decide)) b

/-! A bus that takes a state as TEST is requested, or no longer. -/

variable {v : Nat} {st : BusState}

theorem State.putTest_fbState_takes (hb : b < 2) (h : (s.bus b).state ≠ st) :
    TakesState b st s ((s.putTest b v).fbState b st) := by
  have hf : (s.putTest b v).fb = s.fb := (s.putTest_sameBut b v) .fb (by decide)
  have hl : (s.putTest b v).lane = s.lane := (s.putTest_sameBut b v) .lane (by decide)
  obtain ⟨bus, shown, told, others⟩ := State.fbState_takes (s := s.putTest b v) hb ((s.putTest_bus b v).symm ▸ h)
  rw [State.putTest_bus] at bus told
  exact ⟨bus, shown, hl ▸ told, fun c hc hne => (others c hc hne).trans (State.bus_of_fb hf c)⟩

theorem State.putTest_fbState_test (hb : b < 2) (hv : v < 2) (h : (s.bus b).state ≠ st) (m : Mast) (hm : s.votes m = true) :
    ((s.putTest b v).fbState b st).getF (.mast m) (fbF fFbCtrlTest b) = v := by
  rw [State.getF_of_regsBut (State.fbState_regsBut_counted hb ((s.putTest_bus b v).symm ▸ h)) (fbF_addr_lt hb rfl (by decide))
    (by simp)]
  exact State.putTest_test hb hv m hm

theorem State.putTest_fbState_sameBut (s : State) : sameBut [.fb, .regs, .log] s ((s.putTest b v).fbState b st) :=
  sameBut_trans (sameBut_mono (s.putTest_sameBut b v) (by decide)) (State.fbState_sameBut _)

theorem State.putTest_fbState_regsBut {l : List (Copy × Nat)} (hb : b < 2)
    (h : regsBut l (s.putTest b v) ((s.putTest b v).fbState b st)) :
    regsBut (Mast.all.map (fun m => (.mast m, rFbCtrl + 0x800 * b)) ++ l) s ((s.putTest b v).fbState b st) :=
  regsBut_trans (regsBut_mono (State.putTest_regsBut hb v) fun _ hx => List.mem_append_left _ hx)
    (regsBut_mono h fun _ hx => List.mem_append_right _ hx)

variable {w : Per Bool}

/-- An agreed request sets TEST; a bus in NORMAL goes to TEST in SERVICE. -/
theorem exec_fbTestOn_of_agreed (hb : b < 2) (h : s.agreed w = true ∧ (s.advance t).unlocked = true) :
    exec (.fbTestOn t b w) s =
      if s.ctl.mode = .service ∧ (s.bus b).state = .normal then .next (((s.advance t).putTest b 1).fbState b .test)
      else .next ((s.advance t).putTest b 1) := by
  obtain ⟨ha, hu⟩ := h
  have ha : (s.advance t).agreed w = true := ha
  have hc : ((s.advance t).putTest b 1).ctl = s.ctl := ((s.advance t).putTest_sameBut b 1) .ctl (by decide)
  have hbus : ((s.advance t).putTest b 1).bus b = s.bus b := (s.advance t).putTest_bus b 1
  simp [exec, execFbTestOn, ok, ha, hu, hb, hc, hbus]

/-- An agreed request clears TEST; a bus in TEST goes to RECOVER. -/
theorem exec_fbTestOff_of_agreed (hb : b < 2) (h : s.agreed w = true ∧ (s.advance t).unlocked = true) :
    exec (.fbTestOff t b w) s =
      if (s.bus b).state = .test then .next (((s.advance t).putTest b 0).fbState b .recover)
      else .next ((s.advance t).putTest b 0) := by
  obtain ⟨ha, hu⟩ := h
  have ha : (s.advance t).agreed w = true := ha
  have hbus : ((s.advance t).putTest b 0).bus b = s.bus b := (s.advance t).putTest_bus b 0
  simp [exec, execFbTestOff, ok, ha, hu, hb, hbus]

end
end Sys2Proof.Machine

/-!
## The module's own slots
-/
namespace Sys2Proof.Machine
open Sys2Proof.Safety

/-- A slot the module sends in now: MASTER_OUT, or SPARE_OUT of a grant in effect, on a running bus with a live channel (R201). -/
structure SlotSends (s : State) (b slot : Nat) (sc : FbSchedule) (e : FbSlot) : Prop where
  runs : b < 2 ∧ (s.bus b).state ≠ .off
  table : (s.bus b).sched = some sc ∧ (s.bus b).slot slot = some e
  own : e.kind = .masterOut ∨ e.kind = .spareOut ∧ (sc.slots.any fun g => g.kind == .spareIn && g.link == slot &&
    (((s.bus b).grant g.slot).any fun q => q.first.isSome)) = true

section
variable (s : State) (b : Nat) (e : FbSlot) (damaged : Per Bool)

/-- The item of the image in force that a slot sends (R209). -/
def State.slotItem : Option Item := s.lane.inForce.find? fun i => i.source == 0xA000 + 0x100 * b + e.slot

/-- Is the slot's item sent, and its tag wrong? -/
def State.slotItemBad : Bool :=
  match s.slotItem b e with
  | some i => !e.gated && i.len == e.payload && !i.tagOk
  | none => false

/-- Does mast `m`'s copy of what the slot sends fail its exit check (R148)? -/
def State.slotFails (m : Mast) : Bool := (s.slotContent b e).1 == 2 && (damaged.get m || s.slotItemBad b e)

/-- The masts whose copies fail their exit check note it. -/
def State.slotExits : State :=
  match s.slotItem b e with
  | some i => s.voters.foldl (fun (u : State) m => if s.slotFails b e damaged m then u.exitFail m i else u) s
  | none => s

/-- Does the channel of unit `u` send: its owner works, and another mast's deposit agrees with it (R15, R115)? -/
def State.slotPasses (u : Nat) : Bool :=
  !s.lane.mute && s.owned u &&
    s.voters.any fun m => m != (s.unit u).owner && (s.mast m).alive && !s.slotFails b e damaged m

/-- What is kept of a slot that has sent: the DATA, unless it is gated (R209, R210). -/
def FbBus.sentData (x : FbBus) (slot typ : Nat) (payload : List Byte) : FbSlotData :=
  let d := x.slotData slot
  if typ = 2 ∧ !e.gated then { d with sent := some payload } else d

/-- The slot's frame goes out with what the slot sends. -/
def State.sendSlot (slot : Nat) (sc : FbSchedule) (typ : Nat) (payload : List Byte) : State :=
  let x := s.bus b
  s.setBus b { (x.setSlot (x.sentData e slot typ payload)) with
    lastSent := fbFrame 0 slot (x.cycle % 65536) typ x.state.code sc.schedId payload }

end

section
variable {s u : State} {b slot : Nat} {sc : FbSchedule} {e : FbSlot} {damaged : Per Bool}

/-- A channel whose owner's copy is good takes no handover. -/
theorem State.slotChannel_of_sound {n : Nat} {fails : Mast → Bool} (h : fails (u.unit n).owner = false) :
    u.slotChannel n fails = (u, !u.lane.mute && u.owned n &&
      u.voters.any fun m => m != (u.unit n).owner && (u.mast m).alive && !fails m) := by
  simp [State.slotChannel, h]

theorem State.slotExits_keeps (s : State) : Keeps [.log, .intake] s (s.slotExits b e damaged) := by
  unfold State.slotExits
  split
  · exact .fold (fun _ _ g => .ite (State.exitFail_keeps _ _ rfl g) g) (.refl _ s)
  · exact .refl _ s

/-- Masts whose exit checks fail change neither the owners nor who works. -/
theorem State.slotPasses_of_keeps {l : List Part} {n : Nat} {fails : Mast → Bool} (k : Keeps l s u)
    (hl : Part.lane ∉ l) (hm : Part.masts ∉ l) :
    u.unit n = s.unit n ∧ u.owned n = s.owned n ∧ u.lane = s.lane ∧
      (u.voters.any fun m => m != (u.unit n).owner && (u.mast m).alive && !fails m) =
        s.voters.any fun m => m != (s.unit n).owner && (s.mast m).alive && !fails m := by
  have lane : u.lane = s.lane := k.frame .lane hl
  have masts : u.masts = s.masts := k.frame .masts hm
  have unit : u.unit n = s.unit n := by simp only [State.unit, lane]
  have mast : u.mast = s.mast := funext fun m => State.mast_of_masts masts m
  have voters : u.voters = s.voters := by simp only [State.voters, lane]
  have votes : u.votes = s.votes := by funext m; simp only [State.votes, lane]
  refine ⟨unit, ?_, lane, ?_⟩
  · simp only [State.owned, unit, mast, voters, votes]
  · rw [unit, mast, voters]

/-- A channel whose owner's copy is good sends where another mast's is. -/
theorem State.slotExits_channel {n : Nat} (t : Nat) (h : s.slotFails b e damaged (s.unit n).owner = false) :
    ((s.advance t).slotExits b e damaged).slotChannel n (s.slotFails b e damaged) =
      ((s.advance t).slotExits b e damaged, s.slotPasses b e damaged n) := by
  obtain ⟨unit, owned, lane, deposits⟩ :=
    State.slotPasses_of_keeps (n := n) (fails := s.slotFails b e damaged)
      ((s.advance t).slotExits_keeps (b := b) (e := e) (damaged := damaged)) (by decide) (by decide)
  have sound : s.slotFails b e damaged (((s.advance t).slotExits b e damaged).unit n).owner = false := by
    rw [unit]; exact h
  rw [State.slotChannel_of_sound sound, owned, deposits, lane]
  rfl

theorem exec_fbSlotTransmit_of_sends (t : Nat) (h : SlotSends s b slot sc e)
    (hown : ∀ ch, ch < 2 → s.slotFails b e damaged (s.unit (2 + 2 * b + ch)).owner = false)
    (hlive : [0, 1].any (fun ch => s.slotPasses b e damaged (2 + 2 * b + ch)) = true) :
    exec (.fbSlotTransmit t b slot damaged) s =
      .next (((s.advance t).slotExits b e damaged).sendSlot b e slot sc (s.slotContent b e).1 (s.slotContent b e).2) := by
  obtain ⟨⟨hb, hstate⟩, ⟨hs, he⟩, hkind⟩ := h
  have hs : ((s.advance t).bus b).sched = some sc := hs
  have he : ((s.advance t).bus b).slot slot = some e := he
  dsimp -zeta only [exec, execFbSlotTransmit]
  extract_lets u x
  have hs : x.sched = some sc := hs
  have he : x.slot slot = some e := he
  rw [hs, he]
  dsimp -zeta only
  extract_lets +onlyGivenNames granted own item wrong fails v
  have hfails : fails = s.slotFails b e damaged := rfl
  have hv : v = u.slotExits b e damaged := rfl
  have hgranted : granted = sc.slots.any fun g => g.kind == .spareIn && g.link == slot &&
      (((s.bus b).grant g.slot).any fun q => q.first.isSome) := by
    refine congrArg sc.slots.any (funext fun g => congrArg _ ?_)
    show (match (s.bus b).grant g.slot with | some q => q.first.isSome | none => false) = _
    cases (s.bus b).grant g.slot <;> rfl
  have howned : own = true := by
    rcases hkind with hk | ⟨hk, hg⟩
    · simp [own, hk]
    · simp [own, hk, hgranted, hg]
  have hruns : (x.state == .off) = false := beq_eq_false_iff_ne.2 hstate
  have chan (ch : Nat) (hch : ch < 2) : v.slotChannel (2 + 2 * b + ch) fails = (v, s.slotPasses b e damaged (2 + 2 * b + ch)) :=
    State.slotExits_channel t (hown ch hch)
  have chanX := chan 0 (by decide)
  have chanY : v.slotChannel (3 + 2 * b) fails = (v, s.slotPasses b e damaged (2 + 2 * b + 1)) := by
    rw [← chan 1 (by decide), show 3 + 2 * b = 2 + 2 * b + 1 by omega]
  have hlive : (s.slotPasses b e damaged (2 + 2 * b + 0) || s.slotPasses b e damaged (2 + 2 * b + 1)) = true := by
    simpa using hlive
  simp only [Nat.add_zero] at chanX hlive
  rw [howned, hruns, decide_eq_false (by omega), chanX]
  dsimp only
  rw [chanY]
  dsimp only
  rw [hlive]
  rfl

/-! ### What the slot's frame leaves -/

@[simp] theorem FbBus.slotData_slot (x : FbBus) (n : Nat) : (x.slotData n).slot = n := by
  unfold FbBus.slotData
  cases h : x.slots.find? fun e => e.slot == n with
  | none => rfl
  | some d => exact eq_of_beq (List.find?_some (p := fun e : FbSlotData => e.slot == n) h)

theorem FbBus.slotData_setSlot_same (x : FbBus) {d : FbSlotData} {n : Nat} (h : d.slot = n) : (x.setSlot d).slotData n = d := by
  simp [FbBus.slotData, FbBus.setSlot, h]

theorem FbBus.slotData_setSlot_other (x : FbBus) {d : FbSlotData} {n : Nat} (h : n ≠ d.slot) :
    (x.setSlot d).slotData n = x.slotData n := by
  have hd : (d.slot == n) = false := beq_eq_false_iff_ne.2 h.symm
  have keep : ∀ y : FbSlotData, decide ((y.slot != d.slot) = true ∧ (y.slot == n) = true) = (y.slot == n) := by
    intro y
    by_cases e : y.slot = n <;> simp [e, h]
  simp only [FbBus.slotData, FbBus.setSlot, List.find?_cons, hd, List.find?_filter, keep]

/-- Slot `slot` of bus `b` has sent a frame: the frame, and what is kept of the slot, are all that is new. -/
structure SlotSent (b slot : Nat) (frame : List Byte) (s t : State) : Prop where
  last : (t.bus b).lastSent = frame
  bus : t.bus b = { s.bus b with slots := (t.bus b).slots, lastSent := (t.bus b).lastSent }
  slots : ∀ k, k ≠ slot → (t.bus b).slotData k = (s.bus b).slotData k
  others : ∀ c, c < 2 → c ≠ b → t.bus c = s.bus c
  frame : sameBut [.fb] s t

variable {typ : Nat} {payload : List Byte}

theorem FbBus.sentData_slot (x : FbBus) : (x.sentData e slot typ payload).slot = slot := by
  unfold FbBus.sentData
  dsimp only
  split <;> exact x.slotData_slot slot

theorem State.sendSlot_sent (hb : b < 2) :
    SlotSent b slot (fbFrame 0 slot ((s.bus b).cycle % 65536) typ (s.bus b).state.code sc.schedId payload) s
      (s.sendSlot b e slot sc typ payload) := by
  have bus : (s.sendSlot b e slot sc typ payload).bus b = _ := State.bus_setBus_same s _
  refine ⟨congrArg FbBus.lastSent bus, ?_, fun k hk => ?_, State.bus_setBus_other _ _ hb, State.setBus_sameBut _ _⟩
  · rw [bus]
    rfl
  · rw [bus]
    exact FbBus.slotData_setSlot_other _ ((FbBus.sentData_slot _).symm ▸ hk)

/-- An ungated slot keeps the DATA it has sent (R209). -/
theorem State.sendSlot_keeps_sent (hg : e.gated = false) :
    (((s.sendSlot b e slot sc 2 payload).bus b).slotData slot).sent = some payload := by
  have bus : (s.sendSlot b e slot sc 2 payload).bus b = _ := State.bus_setBus_same s _
  have data : ((s.sendSlot b e slot sc 2 payload).bus b).slotData slot = (s.bus b).sentData e slot 2 payload := by
    rw [bus]
    exact FbBus.slotData_setSlot_same _ (FbBus.sentData_slot _)
  rw [data, FbBus.sentData, hg]
  rfl

/-! ### Copies that pass their exit checks -/

theorem State.slotExits_of_sound (h : ∀ m, s.slotFails b e damaged m = false) : s.slotExits b e damaged = s := by
  unfold State.slotExits
  split
  · simp [h]
  · rfl

/-- Some channel of the bus is live: not muted, and with an owner and another mast that work. -/
def State.slotLive (s : State) (b : Nat) : Prop :=
  s.lane.mute = false ∧ [0, 1].any (fun ch => s.owned (2 + 2 * b + ch) &&
    s.voters.any (fun m => m != (s.unit (2 + 2 * b + ch)).owner && (s.mast m).alive)) = true

theorem State.slotPasses_of_sound {n : Nat} (hm : s.lane.mute = false) (h : ∀ m, s.slotFails b e damaged m = false) :
    s.slotPasses b e damaged n =
      (s.owned n && s.voters.any fun m => m != (s.unit n).owner && (s.mast m).alive) := by
  simp [State.slotPasses, hm, h]

/-- Where every copy passes, the slot's frame goes out with what the slot sends. -/
theorem exec_fbSlotTransmit_of_sound (t : Nat) (h : SlotSends s b slot sc e) (hl : s.slotLive b)
    (hf : ∀ m, s.slotFails b e damaged m = false) (hc : s.slotContent b e = (typ, payload)) :
    exec (.fbSlotTransmit t b slot damaged) s = .next ((s.advance t).sendSlot b e slot sc typ payload) := by
  obtain ⟨hmute, hlive⟩ := hl
  have sound : (s.advance t).slotExits b e damaged = s.advance t := State.slotExits_of_sound hf
  rw [exec_fbSlotTransmit_of_sends t h (fun _ _ => hf _), sound, hc]
  simpa only [State.slotPasses_of_sound hmute hf] using hlive

theorem exists_slotSent_of_sound (t : Nat) (h : SlotSends s b slot sc e) (hl : s.slotLive b)
    (hf : ∀ m, s.slotFails b e damaged m = false) (hc : s.slotContent b e = (typ, payload)) :
    ∃ s', exec (.fbSlotTransmit t b slot damaged) s = .next s' ∧
      (s'.bus b).lastSent = fbFrame 0 slot ((s.bus b).cycle % 65536) typ (s.bus b).state.code sc.schedId payload ∧
      s'.bus b = { s.bus b with slots := (s'.bus b).slots, lastSent := (s'.bus b).lastSent } ∧
      (∀ k, k ≠ slot → (s'.bus b).slotData k = (s.bus b).slotData k) ∧
      (∀ c, c < 2 → c ≠ b → s'.bus c = s.bus c) ∧ sameBut [.fb] (s.advance t) s' :=
  have sent := State.sendSlot_sent (s := s.advance t) h.runs.1
  ⟨_, exec_fbSlotTransmit_of_sound t h hl hf hc, sent.last, sent.bus, sent.slots, sent.others, sent.frame⟩

/-- A frame without DATA is no item's. -/
theorem State.slotFails_of_typ (hc : s.slotContent b e = (typ, payload)) (ht : typ ≠ 2) (m : Mast) :
    s.slotFails b e damaged m = false := by
  simp [State.slotFails, hc, ht]

theorem State.slotFails_of_undamaged (hbad : s.slotItemBad b e = false) (m : Mast) :
    s.slotFails b e (Per.all false) m = false := by
  simp [State.slotFails, hbad]

theorem State.slotItemBad_of_gated (hg : e.gated = true) : s.slotItemBad b e = false := by
  unfold State.slotItemBad
  split <;> simp [hg]

theorem State.slotItemBad_of_tag {i : Item} (hi : s.slotItem b e = some i) (htag : i.tagOk = true) :
    s.slotItemBad b e = false := by
  simp [State.slotItemBad, hi, htag]

theorem State.slotItemBad_of_misfit {i : Item} (hi : s.slotItem b e = some i) (hlen : i.len ≠ e.payload) :
    s.slotItemBad b e = false := by
  simp [State.slotItemBad, hi, hlen]

/-! ### What a slot sends (R201, R209, R210) -/

/-- DATA where there is a value, NULL otherwise. -/
def dataOrNull (v : Option (List Byte)) : Nat × List Byte := (if v.isSome then 2 else 3, v.getD [])

theorem State.slotContent_of_test (h : (s.bus b).state = .test) :
    s.slotContent b e = (6, (List.range e.payload).map fun i => BitVec.ofNat 8 i) := if_pos h

theorem State.slotContent_of_idle (h : (s.bus b).state ≠ .test) (hm : s.ctl.mode ≠ .run ∧ s.ctl.mode ≠ .hold) :
    s.slotContent b e = (3, []) := by
  simp [State.slotContent, State.inMode, h, hm]

section
variable (h : (s.bus b).state ≠ .test) (hm : s.ctl.mode = .run ∨ s.ctl.mode = .hold)
include h hm

theorem State.slotContent_of_running :
    s.slotContent b e = if e.gated then dataOrNull ((s.bus b).slotData e.slot).gate else
      match s.slotItem b e with
      | none => (3, [])
      | some i => if i.len = e.payload then (2, i.value) else dataOrNull ((s.bus b).slotData e.slot).sent := by
  have hmode : s.inMode [.run, .hold] = true := by rcases hm with hm | hm <;> simp [State.inMode, hm]
  have orNull (v : Option (List Byte)) :
      (match v with | some v => (2, v) | none => (3, [])) = dataOrNull v := by cases v <;> rfl
  simp only [State.slotContent, h, hmode, ← orNull]
  rfl

theorem State.slotContent_of_gated (hg : e.gated = true) :
    s.slotContent b e = dataOrNull ((s.bus b).slotData e.slot).gate := by
  rw [State.slotContent_of_running h hm, if_pos hg]

theorem State.slotContent_of_none (hg : e.gated = false) (hi : s.slotItem b e = none) : s.slotContent b e = (3, []) := by
  rw [State.slotContent_of_running h hm, hg, hi]
  rfl

theorem State.slotContent_of_item {i : Item} (hg : e.gated = false) (hi : s.slotItem b e = some i)
    (hlen : i.len = e.payload) : s.slotContent b e = (2, i.value) := by
  rw [State.slotContent_of_running h hm, hg, hi]
  exact if_pos hlen

theorem State.slotContent_of_misfit {i : Item} (hg : e.gated = false) (hi : s.slotItem b e = some i)
    (hlen : i.len ≠ e.payload) : s.slotContent b e = dataOrNull ((s.bus b).slotData e.slot).sent := by
  rw [State.slotContent_of_running h hm, hg, hi]
  exact if_neg hlen

end

/-! ### One mast's damaged copy -/

section
variable {i : Item} {m : Mast}

theorem State.exitFail_tells (h : s.intake.exitFails = []) :
    raised (s.exitFail m i) (2 ^ m.code) evTagExitFail i.source m.code := by
  have new : s.exitFail m i = { s.raiseM m evTagExitFail i.source m.code with
      intake := { s.intake with exitFails := s.intake.exitFails ++ [(m, i.source, i.seq)] } } := if_neg (by simp [h])
  rw [new]
  exact (raised_of_log rfl ..).2 (raised_raiseM s m evTagExitFail i.source m.code)

/-- What has been told stays told as another mast's copy fails. -/
theorem State.exitFail_raised {o : Mast} {src code a1 a2 : Nat} (h : raised s src code a1 a2) :
    raised (s.exitFail o i) src code a1 a2 := by
  unfold State.exitFail
  split
  · exact h
  · exact raised_mono h fun _ => List.mem_append_left _

/-- The first mast whose copy fails tells it, if no failure was noted before. -/
theorem State.foldl_exitFail_tells {fails : Mast → Bool} (h : s.intake.exitFails = []) (hf : ∀ o, fails o = true ↔ o = m)
    {l : List Mast} (hm : m ∈ l) :
    raised (l.foldl (fun (u : State) o => if fails o then u.exitFail o i else u) s) (2 ^ m.code) evTagExitFail i.source
      m.code := by
  induction l with
  | nil => exact absurd hm (by simp)
  | cons o l ih =>
    rw [List.foldl_cons]
    by_cases e : o = m
    · subst e
      rw [if_pos ((hf o).2 rfl)]
      refine foldl_keeps (fun u : State => raised u (2 ^ o.code) evTagExitFail i.source o.code) _ (fun u o hu => ?_) _ _
        (State.exitFail_tells h)
      split
      · exact State.exitFail_raised hu
      · exact hu
    · rw [if_neg (mt (hf o).1 e)]
      exact ih ((List.mem_cons.1 hm).resolve_left fun h => e h.symm)

/-- The masts whose copies of DATA fail are those whose copies are damaged. -/
theorem State.slotFails_of_data (hc : s.slotContent b e = (2, payload)) (hbad : s.slotItemBad b e = false) (o : Mast) :
    s.slotFails b e damaged o = damaged.get o := by
  simp [State.slotFails, hc, hbad]

theorem damaged_iff (m o : Mast) : ((Per.all false).set m true).get o = true ↔ o = m := by
  by_cases e : o = m
  · simp [e]
  · simp [per_get_set_other _ _ _ _ e, e]

theorem exec_fbSlotTransmit_of_damaged (t : Nat) (h : SlotSends s b slot sc e) (hc : s.slotContent b e = (2, payload))
    (hi : s.slotItem b e = some i) (hbad : s.slotItemBad b e = false)
    (hm : s.votes m = true ∧ (s.unit (2 + 2 * b)).owner ≠ m ∧ (s.unit (3 + 2 * b)).owner ≠ m ∧ s.intake.exitFails = [])
    (hmute : s.lane.mute = false) (hx : s.owned (2 + 2 * b) = true ∧
      (s.voters.any fun o => o != (s.unit (2 + 2 * b)).owner && (s.mast o).alive && o != m) = true) :
    ∃ u, exec (.fbSlotTransmit t b slot ((Per.all false).set m true)) s = .next (u.sendSlot b e slot sc 2 payload) ∧
      raised u (2 ^ m.code) evTagExitFail i.source m.code ∧ Keeps [.log, .intake] (s.advance t) u := by
  obtain ⟨hv, hownX, hownY, hexit⟩ := hm
  obtain ⟨howned, hother⟩ := hx
  have fails (o : Mast) : s.slotFails b e ((Per.all false).set m true) o = ((Per.all false).set m true).get o :=
    State.slotFails_of_data hc hbad o
  have spared {o : Mast} (ho : o ≠ m) : s.slotFails b e ((Per.all false).set m true) o = false :=
    (fails o).trans (Bool.eq_false_iff.2 (mt (damaged_iff m o).1 ho))
  have passes : s.slotPasses b e ((Per.all false).set m true) (2 + 2 * b) = true := by
    have keep (o : Mast) : (!s.slotFails b e ((Per.all false).set m true) o) = (o != m) := by
      rw [fails, Bool.eq_iff_iff]
      simp [← damaged_iff m o]
    simp only [State.slotPasses, hmute, howned, keep, hother]
    rfl
  refine ⟨(s.advance t).slotExits b e ((Per.all false).set m true), ?_, ?_, State.slotExits_keeps _⟩
  · refine (exec_fbSlotTransmit_of_sends t h (fun ch hch => ?_) ?_).trans (by rw [hc])
    · obtain rfl | rfl : ch = 0 ∨ ch = 1 := by omega
      · exact spared hownX
      · exact spared (by rwa [show 2 + 2 * b + 1 = 3 + 2 * b by omega])
    · simp [passes]
  · have hi : (s.advance t).slotItem b e = some i := hi
    have hf (o : Mast) : (s.advance t).slotFails b e ((Per.all false).set m true) o = true ↔ o = m := by
      rw [show (s.advance t).slotFails b e ((Per.all false).set m true) o = _ from fails o]
      exact damaged_iff m o
    rw [State.slotExits, hi]
    exact State.foldl_exitFail_tells (s := s.advance t) hexit hf (List.mem_filter.2 ⟨mem_mast_all m, hv⟩)

end
end
end Sys2Proof.Machine

/-!
## Frames heard
-/
namespace Sys2Proof.Machine
open Sys2Proof.Safety

/-! ### From the wire to the slot -/

/-- Channel `ch` of a running bus hears a frame `g` from a node's side, `rel` nanoseconds after the start of slot `e`
(R184, R185). -/
structure Hears (s : State) (b ch pos : Nat) (ofs rel : Int) (f g : List Byte) (sc : FbSchedule) (e : FbSlot) : Prop where
  channel : b < 2 ∧ ch < 2
  powered : ∃ m ∈ s.voters, (s.mast m).powered = true
  wire : f = fbPreamble ++ g
  start : ((s.bus b).slot pos).elim 0 (fun p => (p.offset : Int) * 100) + ofs = e.offset * 100 + rel ∧
    (s.bus b).ignored ch ≤ e.offset * 100 + rel
  runs : (s.bus b).sched = some sc ∧ (s.bus b).state ≠ .off ∧ (s.bus b).reported = false
  side : e.kind.nodeSide = true

theorem fbEnvelope_of_preamble (g : List Byte) : fbEnvelope (fbPreamble ++ g) = some g := by
  simp [fbEnvelope, fbPreamble]

theorem fbEnvelope_of_other {f : List Byte} (h : f.take 3 ≠ fbPreamble) : fbEnvelope f = none := if_neg h

section
variable {s : State} {b ch pos : Nat} {ofs rel : Int} {f g : List Byte} {sc : FbSchedule} {e : FbSlot}
  {extra own : Bool} (t : Nat)

/-- The command is carried out where a powered mast hears the channel. -/
theorem fbFrameReceived_heard (hb : b < 2 ∧ ch < 2) (hp : ∃ m ∈ s.voters, (s.mast m).powered = true) :
    ¬ (1 < b ∨ 1 < ch ∨ (!(s.advance t).voters.any fun m => ((s.advance t).mast m).powered) = true) := by
  obtain ⟨m, hm, hpow⟩ := hp
  have live : (s.advance t).voters.any (fun m => ((s.advance t).mast m).powered) = true := List.any_eq_true.2 ⟨m, hm, hpow⟩
  simp only [live, Bool.not_true, Bool.false_eq_true, or_false, not_or]
  omega

/-- A bus that does not run counts frames in `FB_PRE`. -/
theorem exec_fbFrameReceived_of_off (hb : b < 2 ∧ ch < 2) (hp : ∃ m ∈ s.voters, (s.mast m).powered = true)
    (ho : (s.bus b).state = .off) (hf : fbEnvelope f = some g) :
    exec (.fbFrameReceived t b ch pos ofs f extra own) s = .next ((s.advance t).incF .agreed (fbF fFbPreCount b) 1) := by
  have ho : ((s.advance t).bus b).state = .off := ho
  dsimp only [exec, execFbFrameReceived]
  rw [if_neg (fbFrameReceived_heard t hb hp), hf, ho]
  rfl

/-- Bytes without a frame start are noise on a running bus. -/
theorem exec_fbFrameReceived_of_noise (hb : b < 2 ∧ ch < 2) (hp : ∃ m ∈ s.voters, (s.mast m).powered = true)
    (hs : (s.bus b).sched = some sc) (ho : (s.bus b).state ≠ .off) (hf : fbEnvelope f = none) :
    exec (.fbFrameReceived t b ch pos ofs f extra false) s = .next ((s.advance t).fbNoise b ch pos) := by
  have hs : ((s.advance t).bus b).sched = some sc := hs
  have ho : ((s.advance t).bus b).state ≠ .off := ho
  dsimp only [exec, execFbFrameReceived]
  rw [if_neg (fbFrameReceived_heard t hb hp), hf, hs]
  cases st : ((s.advance t).bus b).state
  case off => exact absurd st ho
  all_goals rfl

/-- The module compares its own frames with what it sent. -/
theorem exec_fbFrameReceived_of_own (hb : b < 2 ∧ ch < 2) (hp : ∃ m ∈ s.voters, (s.mast m).powered = true)
    (hs : (s.bus b).sched = some sc) (ho : (s.bus b).state ≠ .off) (hf : fbEnvelope f = some g) :
    exec (.fbFrameReceived t b ch pos ofs f extra true) s = .next ((s.advance t).fbEcho b ch f) := by
  have hs : ((s.advance t).bus b).sched = some sc := hs
  have ho : ((s.advance t).bus b).state ≠ .off := ho
  dsimp only [exec, execFbFrameReceived]
  rw [if_neg (fbFrameReceived_heard t hb hp), hf, hs]
  cases st : ((s.advance t).bus b).state
  case off => exact absurd st ho
  all_goals rfl

theorem exec_fbFrameReceived_of_heard (h : Hears s b ch pos ofs rel f g sc e) :
    exec (.fbFrameReceived t b ch pos ofs f extra false) s =
      .next ((s.advance t).fbHear b ch pos (e.offset * 100 + rel) sc g extra) := by
  obtain ⟨hs, ho, -⟩ := h.runs
  obtain ⟨hstart, hignored⟩ := h.start
  have hs : ((s.advance t).bus b).sched = some sc := hs
  have ho : ((s.advance t).bus b).state ≠ .off := ho
  have hslot : (match ((s.advance t).bus b).slot pos with | some e => (e.offset : Int) * 100 | none => 0) + ofs =
      e.offset * 100 + rel := by
    rw [← hstart]
    show (match (s.bus b).slot pos with | some e => (e.offset : Int) * 100 | none => 0) + ofs = _
    cases (s.bus b).slot pos <;> rfl
  have hlate : ¬ ((e.offset : Int) * 100 + rel < ((s.advance t).bus b).ignored ch) := not_lt.2 hignored
  dsimp only [exec, execFbFrameReceived]
  rw [if_neg (fbFrameReceived_heard t h.channel h.powered), h.wire, fbEnvelope_of_preamble, hs]
  cases st : ((s.advance t).bus b).state
  case off => exact absurd st ho
  all_goals exact (congrArg (fun x : Int => if x < ((s.advance t).bus b).ignored ch then ok (s.advance t) else
    ok ((s.advance t).fbHear b ch pos x sc g extra)) hslot).trans (if_neg hlate)
end

/-! ### What a slot makes of a frame -/

/-- Is this the code of an accepted frame (R203)? -/
def isAccepted (code : Nat) : Bool := code == 1 || code == 2 || code == 0xB || code == 0xC

/-- The code of a frame against the slot it is heard in (R203). -/
def FbBus.heardCode (x : FbBus) (sc : FbSchedule) (e : FbSlot) (f : List Byte) (rel : Int) (extra : Bool) : Nat :=
  if decide (32 < fieldAt f 5 1) then 7 else if !fbCrcOk f then 6 else x.judge sc.schedId e f rel extra

/-- The code noted of a slot: in the claim slot anything but an accepted frame is a collision. -/
def FbSlot.notes (e : FbSlot) (code : Nat) : Nat := if e.kind == .claim && !isAccepted code then 0xA else code

section
variable (s : State) (b ch slot : Nat) (e : FbSlot) (here : Int) (sc : FbSchedule) (f : List Byte) (extra second : Bool)

/-- The frame's code is noted of bus `x`, and an accepted one becomes an item in a NORMAL cycle. -/
def State.noteHeard (x : FbBus) (normal : Bool) : State :=
  let rel := here - e.offset * 100
  let code := x.heardCode sc e f rel extra
  let y := x.noteCode ch slot (e.notes code)
  let u := s.setBus b (if second && e.notes code == 9 then { y with counted := (ch, slot) :: y.counted } else y)
  if isAccepted code && normal then u.fbItem b ch e (e.notes code) rel f else u

/-- A frame in a slot: outside NORMAL it is counted, and the first of a slot counts. -/
def State.hearSlot : State :=
  let x := s.bus b
  match x.slot slot with
  | none => s
  | some e =>
    if !e.kind.nodeSide || x.reported then s
    else
      let u := if x.cycState == .normal then s else s.incF .agreed (fbF fFbSuppSuppressed b) 1
      if x.coded ch slot then u else u.noteHeard b ch slot e here sc f extra second x (x.cycState == .normal)

theorem State.fbHear_eq (pos : Nat) : s.fbHear b ch pos here sc f extra =
    let long := decide (32 < fieldAt f 5 1)
    let second := fbCrcOk f && !long && fieldAt f 4 1 == 1
    let u := if second then s.fbSecondMaster b ch else s
    let u := if long then u.setBus b ((u.bus b).ignoreSlot ch pos) else u
    u.hearSlot b ch (if long || fbCrcOk f then fieldAt f 1 1 else pos) here sc f extra second := by
  unfold State.fbHear State.hearSlot State.noteHeard
  rfl

end

section
variable {s : State} {b ch pos slot : Nat} {e : FbSlot} {here : Int} {sc : FbSchedule} {f : List Byte} {extra : Bool}

/-! A frame is heard in the slot it names, where its CRC agrees or its LEN is above 32. -/

theorem State.fbHear_of_damaged (hcrc : fbCrcOk f = false) (hlen : fieldAt f 5 1 ≤ 32) :
    s.fbHear b ch pos here sc f extra = s.hearSlot b ch pos here sc f extra false := by
  rw [State.fbHear_eq, hcrc, decide_eq_false (not_lt.2 hlen)]
  rfl

theorem State.fbHear_of_whole (hcrc : fbCrcOk f = true) (hlen : fieldAt f 5 1 ≤ 32) (ht : fieldAt f 4 1 ≠ 1) :
    s.fbHear b ch pos here sc f extra = s.hearSlot b ch (fieldAt f 1 1) here sc f extra false := by
  rw [State.fbHear_eq, hcrc, decide_eq_false (not_lt.2 hlen), beq_eq_false_iff_ne.2 ht]
  rfl

theorem State.fbHear_of_long (hlen : 32 < fieldAt f 5 1) :
    s.fbHear b ch pos here sc f extra =
      (s.setBus b ((s.bus b).ignoreSlot ch pos)).hearSlot b ch (fieldAt f 1 1) here sc f extra false := by
  rw [State.fbHear_eq, decide_eq_true hlen]
  simp

theorem State.fbHear_of_cycleStart (hcrc : fbCrcOk f = true) (hlen : fieldAt f 5 1 ≤ 32) (ht : fieldAt f 4 1 = 1) :
    s.fbHear b ch pos here sc f extra = (s.fbSecondMaster b ch).hearSlot b ch (fieldAt f 1 1) here sc f extra true := by
  rw [State.fbHear_eq, hcrc, decide_eq_false (not_lt.2 hlen), ht]
  rfl

/-! ### The code of a frame -/

section
variable {x : FbBus} {rel : Int}

theorem FbBus.heardCode_of_long (hlen : 32 < fieldAt f 5 1) : x.heardCode sc e f rel extra = 7 := by
  simp [FbBus.heardCode, hlen]

theorem FbBus.heardCode_of_damaged (hcrc : fbCrcOk f = false) (hlen : fieldAt f 5 1 ≤ 32) :
    x.heardCode sc e f rel extra = 6 := by
  simp [FbBus.heardCode, hcrc, not_lt.2 hlen]

theorem FbBus.heardCode_of_whole (hcrc : fbCrcOk f = true) (hlen : fieldAt f 5 1 ≤ 32) :
    x.heardCode sc e f rel extra = x.judge sc.schedId e f rel extra := by
  simp [FbBus.heardCode, hcrc, not_lt.2 hlen]

/-- The frame's length is that of its type in the slot, and the line went quiet. -/
def lengthOk (e : FbSlot) (f : List Byte) (extra : Bool) : Prop :=
  (typeLen e.payload (fieldAt f 4 1)).all (fun n => n == fieldAt f 5 1) = true ∧ extra = false

/-- The frame is of this cycle and schedule. -/
def cycleOk (x : FbBus) (sc : FbSchedule) (f : List Byte) : Prop :=
  fieldAt f 2 2 = x.cycle % 65536 ∧ fieldAt f 8 4 = sc.schedId

theorem FbBus.judge_of_length {n : Nat}
    (h : (∃ n ∈ typeLen e.payload (fieldAt f 4 1), fieldAt f 5 1 ≠ n) ∨ extra = true) : x.judge n e f rel extra = 7 := by
  unfold FbBus.judge
  dsimp only
  refine if_pos ?_
  obtain ⟨n, hn, hne⟩ | hx := h
  · rw [Option.mem_def.1 hn]
    simp [hne]
  · simp [hx]

theorem FbBus.judge_of_lengthOk {n : Nat} (h : lengthOk e f extra) : x.judge n e f rel extra =
    if fieldAt f 2 2 ≠ x.cycle % 65536 ∨ fieldAt f 8 4 ≠ n then 8
    else if !x.allowed e (fieldAt f 0 1) (fieldAt f 4 1) then 9
    else if rel < -1000 then 4
    else if 1000 < rel then 5
    else acceptedCode (fieldAt f 4 1) := by
  obtain ⟨hlen, rfl⟩ := h
  unfold FbBus.judge
  dsimp only
  refine if_neg ?_
  cases htyp : typeLen e.payload (fieldAt f 4 1) with
  | none => simp
  | some n =>
    rw [htyp] at hlen
    simpa using (eq_of_beq hlen).symm

theorem FbBus.judge_of_otherCycle (h : lengthOk e f extra)
    (hc : fieldAt f 2 2 ≠ x.cycle % 65536 ∨ fieldAt f 8 4 ≠ sc.schedId) : x.judge sc.schedId e f rel extra = 8 := by
  rw [FbBus.judge_of_lengthOk h, if_pos hc]

theorem FbBus.judge_of_cycleOk (h : lengthOk e f extra) (hc : cycleOk x sc f) : x.judge sc.schedId e f rel extra =
    if !x.allowed e (fieldAt f 0 1) (fieldAt f 4 1) then 9
    else if rel < -1000 then 4
    else if 1000 < rel then 5
    else acceptedCode (fieldAt f 4 1) := by
  rw [FbBus.judge_of_lengthOk h, if_neg (by simp [hc.1, hc.2])]

theorem FbBus.judge_of_unlisted (h : lengthOk e f extra) (hc : cycleOk x sc f)
    (ha : x.allowed e (fieldAt f 0 1) (fieldAt f 4 1) = false) : x.judge sc.schedId e f rel extra = 9 := by
  rw [FbBus.judge_of_cycleOk h hc, ha, if_pos (by decide)]

theorem FbBus.judge_of_allowed (h : lengthOk e f extra) (hc : cycleOk x sc f)
    (ha : x.allowed e (fieldAt f 0 1) (fieldAt f 4 1) = true) : x.judge sc.schedId e f rel extra =
    if rel < -1000 then 4 else if 1000 < rel then 5 else acceptedCode (fieldAt f 4 1) := by
  rw [FbBus.judge_of_cycleOk h hc, ha, if_neg (by decide)]

theorem FbBus.judge_of_mistimed (h : lengthOk e f extra) (hc : cycleOk x sc f)
    (ha : x.allowed e (fieldAt f 0 1) (fieldAt f 4 1) = true) (hr : rel < -1000 ∨ 1000 < rel) :
    x.judge sc.schedId e f rel extra = if rel < -1000 then 4 else 5 := by
  rw [FbBus.judge_of_allowed h hc ha]
  split
  · rfl
  · exact if_pos (by tauto)

theorem FbBus.judge_of_timely (h : lengthOk e f extra) (hc : cycleOk x sc f)
    (ha : x.allowed e (fieldAt f 0 1) (fieldAt f 4 1) = true) (hr : -1000 ≤ rel ∧ rel ≤ 1000) :
    x.judge sc.schedId e f rel extra = acceptedCode (fieldAt f 4 1) := by
  rw [FbBus.judge_of_allowed h hc ha, if_neg (not_lt.2 hr.1), if_neg (not_lt.2 hr.2)]

theorem acceptedCode_eq (typ : Nat) :
    acceptedCode typ = if typ = 2 then 1 else if typ = 3 then 2 else if typ = 4 then 11 else 12 := by
  unfold acceptedCode
  split
  · rfl
  · rfl
  · rfl
  · simp_all

theorem isAccepted_acceptedCode (typ : Nat) : isAccepted (acceptedCode typ) = true := by
  unfold acceptedCode
  split <;> rfl

/-- No node sends a CYCLE_START (R186). -/
theorem FbBus.allowed_of_cycleStart (n : Nat) : x.allowed e n 1 = false := by
  unfold FbBus.allowed
  split
  · simp
  · split <;> simp
  · simp
  · rfl

theorem FbBus.judge_of_cycleStart {n : Nat} (ht : fieldAt f 4 1 = 1) : isAccepted (x.judge n e f rel extra) = false := by
  have faults (p q : Prop) [Decidable p] [Decidable q] : isAccepted (if p then 7 else if q then 8 else 9) = false := by
    split
    · rfl
    · split <;> rfl
  unfold FbBus.judge
  simp only [ht, FbBus.allowed_of_cycleStart, Bool.not_false, if_true]
  exact faults _ _

end

/-! ### What is noted of a slot -/

theorem FbSlot.notes_of_accepted {code : Nat} (h : isAccepted code = true) : e.notes code = code := by
  simp [FbSlot.notes, h]

theorem FbSlot.notes_of_fault {code : Nat} (h : isAccepted code = false) :
    e.notes code = if e.kind = .claim then 10 else code := by
  simp [FbSlot.notes, h]

theorem State.hearSlot_of_node {second : Bool} (hs : (s.bus b).slot slot = some e) (hk : e.kind.nodeSide = true)
    (hr : (s.bus b).reported = false) : s.hearSlot b ch slot here sc f extra second =
      let u := if (s.bus b).cycState == .normal then s else s.incF .agreed (fbF fFbSuppSuppressed b) 1
      if (s.bus b).coded ch slot then u
      else u.noteHeard b ch slot e here sc f extra second (s.bus b) ((s.bus b).cycState == .normal) := by
  unfold State.hearSlot
  dsimp only
  rw [hs]
  dsimp only
  rw [hk, hr]
  rfl

/-- The first frame of a slot in a NORMAL cycle. -/
theorem State.hearSlot_of_first {second : Bool} (hs : (s.bus b).slot slot = some e) (hk : e.kind.nodeSide = true)
    (hr : (s.bus b).reported = false) (hn : (s.bus b).cycState = .normal) (hc : (s.bus b).coded ch slot = false) :
    s.hearSlot b ch slot here sc f extra second = s.noteHeard b ch slot e here sc f extra second (s.bus b) true := by
  rw [State.hearSlot_of_node hs hk hr, hn, hc]
  rfl

section
variable {x : FbBus} {rel : Int} {code : Nat} {normal : Bool}

/-- A frame with a fault only notes its code. -/
theorem State.noteHeard_of_fault (hx : x.heardCode sc e f rel extra = code) (hcode : isAccepted code = false) :
    s.noteHeard b ch slot e (e.offset * 100 + rel) sc f extra false x normal =
      s.setBus b (x.noteCode ch slot (if e.kind = .claim then 10 else code)) := by
  unfold State.noteHeard
  dsimp only
  rw [add_sub_cancel_left, hx, hcode, FbSlot.notes_of_fault hcode]
  rfl

/-- An accepted frame of a NORMAL cycle becomes an item besides. -/
theorem State.noteHeard_of_accepted (hx : x.heardCode sc e f rel extra = code) (hcode : isAccepted code = true) :
    s.noteHeard b ch slot e (e.offset * 100 + rel) sc f extra false x true =
      (s.setBus b (x.noteCode ch slot code)).fbItem b ch e code rel f := by
  unfold State.noteHeard
  dsimp only
  rw [add_sub_cancel_left, hx, hcode, FbSlot.notes_of_accepted hcode]
  rfl

end

theorem FbBus.noteCode_eq (x : FbBus) (code : Nat) : x.noteCode ch slot code =
    { x with codesX := (x.noteCode ch slot code).codesX, codesY := (x.noteCode ch slot code).codesY } := by
  unfold FbBus.noteCode
  split <;> rfl

theorem FbBus.ignoreSlot_eq (x : FbBus) : x.ignoreSlot ch pos =
    { x with ignoreX := (x.ignoreSlot ch pos).ignoreX, ignoreY := (x.ignoreSlot ch pos).ignoreY } := by
  unfold FbBus.ignoreSlot
  split
  · rfl
  · split <;> rfl

/-- Outside a NORMAL cycle no item is formed: nothing but a bus is replaced. -/
theorem State.noteHeard_of_suppressed {x : FbBus} (u : State) : u.noteHeard b ch slot e here sc f extra false x false =
    u.setBus b (x.noteCode ch slot (e.notes (x.heardCode sc e f (here - e.offset * 100) extra))) := by
  unfold State.noteHeard
  simp

/-- A CYCLE_START in a node's slot is a fault of the slot: no item is formed. -/
theorem State.hearSlot_of_cycleStart (hcrc : fbCrcOk f = true) (hlen : fieldAt f 5 1 ≤ 32) (ht : fieldAt f 4 1 = 1)
    (hn : (s.bus b).cycState = .normal) : ∃ y, s.hearSlot b ch slot here sc f extra true = s.setBus b y := by
  unfold State.hearSlot
  dsimp only
  split
  · exact ⟨_, (State.setBus_bus s).symm⟩
  next e _ =>
    rw [hn]
    split
    · exact ⟨_, (State.setBus_bus s).symm⟩
    · split
      · exact ⟨_, (State.setBus_bus s).symm⟩
      · unfold State.noteHeard
        dsimp only
        rw [FbBus.heardCode_of_whole hcrc hlen, FbBus.judge_of_cycleStart ht]
        exact ⟨_, rfl⟩

end

/-! ### What hearing a frame leaves -/

section
variable {s : State} {b ch pos : Nat} {ofs rel : Int} {f g : List Byte} {sc : FbSchedule} {e : FbSlot} {extra : Bool} (t : Nat)

/-- Where hearing replaces the bus alone, the rest is as it was. -/
theorem exists_heard_of_setBus {x : FbBus} (h : Hears s b ch pos ofs rel f g sc e)
    (hx : (s.advance t).fbHear b ch pos (e.offset * 100 + rel) sc g extra = (s.advance t).setBus b x) :
    ∃ s', exec (.fbFrameReceived t b ch pos ofs f extra false) s = .next s' ∧ s'.bus b = x ∧
      (∀ c, c < 2 → c ≠ b → s'.bus c = s.bus c) ∧ sameBut [.fb] (s.advance t) s' :=
  ⟨_, (exec_fbFrameReceived_of_heard t h).trans (congrArg _ hx), State.bus_setBus_same _ _,
    State.bus_setBus_other (s.advance t) _ h.channel.1, State.setBus_sameBut _ _⟩

/-- A whole frame with a fault, the first in the slot it names, only notes its code. -/
theorem exists_heard_of_fault (h : Hears s b ch pos ofs rel f g sc e) (hn : (s.bus b).cycState = .normal)
    (hs : (s.bus b).slot (fieldAt g 1 1) = some e ∧ e.slot = fieldAt g 1 1) (hc : (s.bus b).coded ch (fieldAt g 1 1) = false)
    (hg : fbCrcOk g = true ∧ fieldAt g 5 1 ≤ 32) (ht : fieldAt g 4 1 ≠ 1) {code : Nat}
    (hcode : (s.bus b).judge sc.schedId e g rel extra = code) (hfault : isAccepted code = false) :
    ∃ s', exec (.fbFrameReceived t b ch pos ofs f extra false) s = .next s' ∧
      s'.bus b = (s.bus b).noteCode ch (fieldAt g 1 1) (if e.kind = .claim then 10 else code) ∧
      (∀ c, c < 2 → c ≠ b → s'.bus c = s.bus c) ∧ sameBut [.fb] (s.advance t) s' := by
  obtain ⟨hcrc, hlen⟩ := hg
  refine exists_heard_of_setBus t h ?_
  rw [State.fbHear_of_whole hcrc hlen ht, State.hearSlot_of_first (s := s.advance t) hs.1 h.side h.runs.2.2 hn hc]
  exact State.noteHeard_of_fault ((FbBus.heardCode_of_whole hcrc hlen).trans hcode) hfault

/-- The item of an accepted frame (R202). -/
def State.frameItem (s : State) (b ch : Nat) (e : FbSlot) (code : Nat) (rel : Int) (f : List Byte) : Item :=
  Item.form (0x2000 + 0x100 * b + 0x80 * ch + e.slot) ((s.bus b).cycle % 65536) (s.time.lastAiTime + e.offset * 100)
    (natLe 1 code ++ natLe 1 0 ++ natLe 2 (unsigned 16 rel) ++ f.take (16 + fieldAt f 5 1))

theorem State.fbItem_eq (code : Nat) : s.fbItem b ch e code rel f =
    { s with intake := { s.intake with fan := s.intake.fan ++ [s.frameItem b ch e code rel f] } } := rfl

/-- Noting a code does not change what the item says of the cycle. -/
theorem State.frameItem_setBus (slot code : Nat) :
    (s.setBus b ((s.bus b).noteCode ch slot code)).frameItem b ch e code rel f = s.frameItem b ch e code rel f := by
  unfold State.frameItem
  rw [State.bus_setBus_same, FbBus.noteCode_eq, State.setBus_time]

/-- A timely frame of a node that may send it becomes an item, and its code is noted. -/
theorem exists_heard_of_accepted (h : Hears s b ch pos ofs rel f g sc e) (hn : (s.bus b).cycState = .normal)
    (hs : (s.bus b).slot (fieldAt g 1 1) = some e) (hc : (s.bus b).coded ch (fieldAt g 1 1) = false)
    (hg : fbCrcOk g = true ∧ fieldAt g 5 1 ≤ 32) (ht : fieldAt g 4 1 ≠ 1) {code : Nat}
    (hcode : (s.bus b).judge sc.schedId e g rel extra = code) (hgood : isAccepted code = true) :
    ∃ s', exec (.fbFrameReceived t b ch pos ofs f extra false) s = .next s' ∧
      s'.intake = { s.intake with fan := s.intake.fan ++ [s.frameItem b ch e code rel g] } ∧
      s'.bus b = (s.bus b).noteCode ch (fieldAt g 1 1) code ∧ (∀ c, c < 2 → c ≠ b → s'.bus c = s.bus c) ∧
      sameBut [.fb, .intake] (s.advance t) s' := by
  obtain ⟨hcrc, hlen⟩ := hg
  have hear : (s.advance t).fbHear b ch pos (e.offset * 100 + rel) sc g extra =
      ((s.advance t).setBus b ((s.bus b).noteCode ch (fieldAt g 1 1) code)).fbItem b ch e code rel g := by
    rw [State.fbHear_of_whole hcrc hlen ht, State.hearSlot_of_first (s := s.advance t) hs h.side h.runs.2.2 hn hc]
    exact State.noteHeard_of_accepted ((FbBus.heardCode_of_whole hcrc hlen).trans hcode) hgood
  refine ⟨_, (exec_fbFrameReceived_of_heard t h).trans (congrArg _ hear), ?_, State.bus_setBus_same _ _,
    State.bus_setBus_other (s.advance t) _ h.channel.1, ?_⟩
  · rw [State.fbItem_eq, State.setBus_intake, show (s.bus b) = (s.advance t).bus b from rfl, State.frameItem_setBus]
    rfl
  · exact (State.fbItem_keeps _ _ _ _ _ _ rfl (State.setBus_keeps _ _ rfl (.refl _ _))).frame

/-- A frame whose LEN is too long is a fault of the slot it names, and makes the receiver ignore the one it is in (R185). -/
theorem State.fbHear_of_long_first (hs : (s.bus b).slot (fieldAt f 1 1) = some e) (hk : e.kind.nodeSide = true)
    (hr : (s.bus b).reported = false) (hn : (s.bus b).cycState = .normal) (hc : (s.bus b).coded ch (fieldAt f 1 1) = false)
    (hlen : 32 < fieldAt f 5 1) : s.fbHear b ch pos (e.offset * 100 + rel) sc f extra =
      s.setBus b (((s.bus b).ignoreSlot ch pos).noteCode ch (fieldAt f 1 1) (if e.kind = .claim then 10 else 7)) := by
  have bus : (s.setBus b ((s.bus b).ignoreSlot ch pos)).bus b =
      { s.bus b with ignoreX := ((s.bus b).ignoreSlot ch pos).ignoreX, ignoreY := ((s.bus b).ignoreSlot ch pos).ignoreY } :=
    (State.bus_setBus_same _ _).trans (FbBus.ignoreSlot_eq _)
  rw [State.fbHear_of_long hlen, State.hearSlot_of_first (e := e) (by rw [bus]; exact hs) hk (by rw [bus]; exact hr)
    (by rw [bus]; exact hn) (by rw [bus]; exact hc),
    State.noteHeard_of_fault (FbBus.heardCode_of_long hlen) rfl, State.setBus_setBus, State.bus_setBus_same]

/-- Outside NORMAL a frame is counted, and at most its code noted. -/
theorem State.hearSlot_of_suppressed {here : Int} {slot : Nat} (hs : (s.bus b).slot slot = some e) (hk : e.kind.nodeSide = true)
    (hr : (s.bus b).reported = false) (hn : (s.bus b).cycState ≠ .normal) :
    ∃ y, s.hearSlot b ch slot here sc f extra false = (s.incF .agreed (fbF fFbSuppSuppressed b) 1).setBus b y ∧
      y = { s.bus b with codesX := y.codesX, codesY := y.codesY } := by
  rw [State.hearSlot_of_node hs hk hr, beq_eq_false_iff_ne.2 hn]
  dsimp only
  by_cases hc : (s.bus b).coded ch slot = true
  · exact ⟨s.bus b, (if_pos hc).trans (State.setBus_bus (s.incF .agreed (fbF fFbSuppSuppressed b) 1)).symm, rfl⟩
  · exact ⟨_, (if_neg hc).trans (State.noteHeard_of_suppressed _), FbBus.noteCode_eq _ _⟩

/-! ### A CYCLE_START of another master (R206) -/

theorem State.raiseLimited_of_fresh {src key code a1 a2 : Nat} (h : s.log.limits = []) :
    s.raiseLimited src key code a1 a2 = (s.raiseBy src code a1 a2).markLimit src code key := by
  simp [State.raiseLimited, State.limited, h]

theorem State.fbSecondMaster_told (h : s.log.limits = []) :
    raised (s.fbSecondMaster b ch) s.lane.active.mask evFbSecondMaster b ch := by
  have told : raised (s.raiseLimited s.lane.active.mask b evFbSecondMaster b ch) s.lane.active.mask evFbSecondMaster b ch := by
    rw [State.raiseLimited_of_fresh h]
    exact raised_mono (raised_raiseBy ..) fun _ he => he
  exact (raised_of_log rfl ..).2 told

theorem State.fbSecondMaster_counts :
    (s.fbSecondMaster b ch).getF .agreed (fbF fFbStaleForeign b) = min 65535 (s.getF .agreed (fbF fFbStaleForeign b) + 1) := by
  rw [State.fbSecondMaster, State.getF_incF_fbF (top := 65535) _ _ (by decide) (by decide) rfl,
    State.getF_of_regs (State.raiseLimited_regs s ..)]

theorem State.fbSecondMaster_regsBut (hb : b < 2) : regsBut [(.agreed, rFbStale + 0x800 * b)] s (s.fbSecondMaster b ch) :=
  regsBut_trans (regsBut_of_regs (State.raiseLimited_regs s ..)) (regsBut_incF_fbF _ _ hb rfl (by decide))

theorem State.fbSecondMaster_bus (c : Nat) : (s.fbSecondMaster b ch).bus c = s.bus c :=
  State.bus_of_fb (State.raiseLimited_fb s ..) c

/-! ### The module's own frames, and noise -/

/-- A frame that is not what the module sent is an echo error (R201). -/
theorem State.fbEcho_of_other (h : f ≠ (s.bus b).csFrame ∧ f ≠ (s.bus b).lastSent) :
    s.fbEcho b ch f = s.incF .agreed (fbF (if ch = 0 then fFbErrxEcho else fFbErryEcho) b) 1 := by
  obtain ⟨hcs, hlast⟩ := h
  unfold State.fbEcho
  refine if_neg (not_or.2 ⟨hcs, ?_⟩)
  split
  · exact hcs
  · exact hlast

/-- Energy in the claim slot is a collision (R203). -/
theorem State.fbNoise_of_claim (hs : (s.bus b).slot pos = some e) (hk : e.kind = .claim) (hr : (s.bus b).reported = false) :
    s.fbNoise b ch pos = s.setBus b ((s.bus b).noteCode ch pos 10) := by
  simp [State.fbNoise, hs, hk, hr]

end
end Sys2Proof.Machine

/-!
## The slot report
-/
namespace Sys2Proof.Machine
open Sys2Proof.Safety

/-! ### A list of counts -/

/-- Fields with no bit in common. -/
def Fld.apart (f g : Fld) : Bool := f.addr != g.addr || g.hi < f.lo || f.hi < g.lo

/-- A field of a register of a bus. -/
def Fld.ofBus (f : Fld) : Bool := f.addr < 0xE0060800 && f.hi < 32 && f.lo ≤ f.hi

/-- Count each field of bus `b` up by its amount. -/
def State.tally (b : Nat) (counts : List (Fld × Nat)) (s : State) : State :=
  counts.foldl (fun s c => s.incF .agreed (fbF c.1 b) c.2) s

section
variable {s : State} {b : Nat} {f g : Fld} {counts pre post : List (Fld × Nat)}

theorem Fld.ofBus_iff : f.ofBus = true ↔ f.addr < 0xE0060800 ∧ f.hi < 32 ∧ f.lo ≤ f.hi := by
  simp [Fld.ofBus, and_assoc]

theorem State.getF_incF_apart (hb : b < 2) (n : Nat) (hf : f.ofBus = true) (hg : g.ofBus = true) (h : f.apart g = true) :
    (s.incF .agreed (fbF f b) n).getF .agreed (fbF g b) = s.getF .agreed (fbF g b) := by
  obtain ⟨fa, fh, fl⟩ := Fld.ofBus_iff.1 hf
  obtain ⟨ga, -, gl⟩ := Fld.ofBus_iff.1 hg
  simp only [Fld.apart, Bool.or_eq_true, bne_iff_ne, ne_eq, decide_eq_true_eq] at h
  by_cases ha : g.addr = f.addr
  · exact State.getF_putF_bits s _ _ _ _ (by simp [fbF, Fld.plus, ha]) fh fl gl (by tauto)
  · exact State.getF_putF_key s _ _ _ _ _
      (regKey_ne (by simp [fbF, Fld.plus, ha]) (fbF_addr_lt hb rfl ga) (fbF_addr_lt hb rfl fa))

/-- A field is left by every count of fields apart from it. -/
theorem State.getF_tally_apart (hb : b < 2) (hg : g.ofBus = true)
    (h : (counts.map Prod.fst).all (fun f => f.ofBus && f.apart g) = true) :
    (s.tally b counts).getF .agreed (fbF g b) = s.getF .agreed (fbF g b) := by
  induction counts generalizing s with
  | nil => rfl
  | cons c counts ih =>
    simp only [List.map_cons, List.all_cons, Bool.and_eq_true] at h
    obtain ⟨⟨hf, ha⟩, hl⟩ := h
    exact (ih hl).trans (State.getF_incF_apart hb _ hf hg ha)

/-- A field counted once goes up by its amount. -/
theorem State.getF_tally_once {n top : Nat} (hb : b < 2) (hg : g.ofBus = true) (hw : 2 ^ (g.hi + 1 - g.lo) - 1 = top)
    (hpre : (pre.map Prod.fst).all (fun f => f.ofBus && f.apart g) = true)
    (hpost : (post.map Prod.fst).all (fun f => f.ofBus && f.apart g) = true) :
    (s.tally b (pre ++ (g, n) :: post)).getF .agreed (fbF g b) = min top (s.getF .agreed (fbF g b) + n) := by
  obtain ⟨-, gh, gl⟩ := Fld.ofBus_iff.1 hg
  calc _ = (((s.tally b pre).incF .agreed (fbF g b) n).tally b post).getF .agreed (fbF g b) := by simp [State.tally]
    _ = ((s.tally b pre).incF .agreed (fbF g b) n).getF .agreed (fbF g b) := State.getF_tally_apart hb hg hpost
    _ = min top ((s.tally b pre).getF .agreed (fbF g b) + n) := State.getF_incF_fbF _ n gh gl hw
    _ = _ := by rw [State.getF_tally_apart hb hg hpre]

/-- Steps that each store registers of a list leave the others. -/
theorem regsBut_foldl_mem {α : Type} {l : List (Copy × Nat)} {step : State → α → State} {xs : List α}
    (h : ∀ x ∈ xs, ∀ s, regsBut l s (step s x)) (s : State) : regsBut l s (xs.foldl step s) := by
  induction xs generalizing s with
  | nil => exact regsBut_refl l s
  | cons x xs ih => exact regsBut_trans (h x (by simp) s) (ih (fun y hy => h y (by simp [hy])) _)

theorem State.tally_regsBut {regs : List Nat} (hb : b < 2)
    (h : (counts.map Prod.fst).all (fun f => f.ofBus && decide (f.addr ∈ regs)) = true) :
    regsBut (regs.map fun a => (.agreed, a + 0x800 * b)) s (s.tally b counts) := by
  refine regsBut_foldl_mem (fun c hc u => ?_) s
  have hm := List.all_eq_true.1 h c.1 (List.mem_map_of_mem hc)
  simp only [Bool.and_eq_true, decide_eq_true_eq] at hm
  obtain ⟨hf, ha⟩ := hm
  exact regsBut_mono (regsBut_incF_fbF _ _ hb rfl (Fld.ofBus_iff.1 hf).1)
    fun _ hx => List.mem_map.2 ⟨_, ha, (List.mem_singleton.1 hx).symm⟩

theorem State.tally_sameBut (s : State) (b : Nat) (counts : List (Fld × Nat)) : sameBut [.regs] s (s.tally b counts) :=
  (Keeps.fold (fun _ _ g => State.incF_keeps _ _ _ rfl g) (.refl _ s)).frame

end

/-! ### What a report counts and shows -/

/-- The counts of a channel's codes (R203). -/
def FbBus.codeCounts (x : FbBus) (ch : Nat) : List (Fld × Nat) :=
  let n := countIn (x.reportCodes ch)
  let timing := x.cycState == .normal
  [(if ch = 0 then fFbErrxCrc else fFbErryCrc, n 6), (if ch = 0 then fFbErrxLength else fFbErryLength, n 7),
    (fFbTimingEarly, if timing then n 4 else 0), (fFbTimingLate, if timing then n 5 else 0), (fFbStaleStale, n 8),
    (fFbStaleForeign, n 9 - (x.counted.filter fun c => c.1 == ch).length)]

/-- The codes of a slot on both channels. -/
def FbBus.slotCodes (x : FbBus) : List (Nat × Nat) := (x.reportCodes 0).zip (x.reportCodes 1)

/-- How many node slots delivered nothing on either channel. -/
def FbBus.emptySlots (x : FbBus) : Nat :=
  ((x.slotCodes.mapIdx fun i c =>
    match x.slot i with
    | some e => e.kind.nodeSide && e.kind != .claim && c.1 == 3 && c.2 == 3
    | none => false).filter id).length

/-- All a report counts. -/
def FbBus.reportCounts (x : FbBus) : List (Fld × Nat) :=
  x.codeCounts 0 ++ x.codeCounts 1 ++ [(fFbEmptyCount, x.emptySlots)]

/-- The word of a report register: eight slots' codes. -/
def FbBus.reportWord (x : FbBus) (i : Nat) : Word :=
  BitVec.ofNat 32 (leNat (packCodes (((x.slotCodes.map fun c => shownCode c.1 c.2).drop (8 * i)).take 8)))

/-- Show the codes in the report registers. -/
def State.showReport (s : State) (b : Nat) (x : FbBus) : State :=
  (List.range 16).foldl
    (fun s i => s.setReg .agreed ((if b = 0 then rFbSlotrpt0 else rFbSlotrpt1) + 4 * i) (x.reportWord i)) s

/-- The item of a channel's report. -/
def FbBus.reportItem (x : FbBus) (b ch at' : Nat) : Item :=
  Item.form (0x2000 + 0x100 * b + 0x80 * ch) (x.cycle % 65536) at'
    (natLe 2 (x.cycle % 65536) ++ natLe 1 x.cycState.code ++ natLe 1 0 ++ packCodes (x.reportCodes ch))

/-- The codes are counted and shown. -/
def State.countReport (s : State) (b : Nat) : State := (s.tally b (s.bus b).reportCounts).showReport b (s.bus b)

/-- The report is formed: counted, shown, and fanned out once. -/
def State.formReport (s : State) (b : Nat) : State :=
  let u := (s.countReport b).setBus b { s.bus b with reported := true }
  { u with intake := { u.intake with fan := u.intake.fan ++
      [(s.bus b).reportItem b 0 (s.countReport b).time.lastAiTime,
        (s.bus b).reportItem b 1 (s.countReport b).time.lastAiTime] } }

section
variable {s : State} {b : Nat} {x : FbBus}

theorem State.countCodes_eq (ch : Nat) (hx : s.bus b = x) :
    s.countCodes b ch (x.reportCodes ch) = s.tally b (x.codeCounts ch) := by
  subst hx
  rfl

theorem State.tally_bus (counts : List (Fld × Nat)) : (s.tally b counts).bus b = s.bus b :=
  State.bus_of_fb (s.tally_sameBut b counts .fb (by decide)) b

theorem State.tally_reportCounts (hx : s.bus b = x) :
    (((s.countCodes b 0 (x.reportCodes 0)).countCodes b 1 (x.reportCodes 1)).incF .agreed (fbF fFbEmptyCount b)
      x.emptySlots) = s.tally b x.reportCounts := by
  rw [State.countCodes_eq 0 hx, State.countCodes_eq 1 ((State.tally_bus _).trans hx)]
  simp [State.tally, FbBus.reportCounts]

theorem State.showReport_regsBut (hb : b < 2) :
    regsBut ((List.range 16).map fun i => (.agreed, rFbSlotrpt0 + 0x800 * b + 4 * i)) s (s.showReport b x) := by
  refine regsBut_foldl_mem (fun i hi u => ?_) s
  have first : (if b = 0 then rFbSlotrpt0 else rFbSlotrpt1) = rFbSlotrpt0 + 0x800 * b := by
    obtain rfl | rfl : b = 0 ∨ b = 1 := by omega
    all_goals rfl
  rw [first]
  have low : rFbSlotrpt0 + 0x800 * b + 4 * i < 2 ^ 32 := by
    have := List.mem_range.1 hi
    simp only [rFbSlotrpt0]
    omega
  exact regsBut_setReg u _ _ _ low (List.mem_map.2 ⟨i, hi, rfl⟩)

/-- The report registers hold no counter. -/
theorem State.getF_showReport {f : Fld} (hb : b < 2) (hf : f.addr < rFbSlotrpt0) :
    (s.showReport b x).getF .agreed (fbF f b) = s.getF .agreed (fbF f b) := by
  refine State.getF_of_regsBut (State.showReport_regsBut hb)
    (fbF_addr_lt hb rfl (hf.trans (by decide))) fun hm => ?_
  obtain ⟨i, -, hi⟩ := List.mem_map.1 hm
  simp only [Prod.mk.injEq, true_and, fbF, Fld.plus] at hi
  omega

theorem State.countReport_sameBut (s : State) (b : Nat) : sameBut [.regs] s (s.countReport b) :=
  sameBut_trans (s.tally_sameBut b _) (Keeps.fold (fun _ _ g => State.setReg_keeps _ _ _ rfl g) (.refl _ _)).frame

theorem State.formReport_sameBut (s : State) (b : Nat) : sameBut [.fb, .regs, .intake] s (s.formReport b) :=
  sameBut_trans (sameBut_mono (s.countReport_sameBut b) (by decide))
    (Keeps.upd_intake _ rfl (State.setBus_keeps _ _ rfl (.refl _ _))).frame

theorem State.formReport_bus : (s.formReport b).bus b = { s.bus b with reported := true } :=
  State.bus_setBus_same (s.countReport b) _

theorem State.formReport_intake : (s.formReport b).intake =
    { s.intake with fan := s.intake.fan ++
      [(s.bus b).reportItem b 0 s.time.lastAiTime, (s.bus b).reportItem b 1 s.time.lastAiTime] } := by
  have hi : (s.countReport b).intake = s.intake := s.countReport_sameBut b .intake (by decide)
  have ht : (s.countReport b).time = s.time := s.countReport_sameBut b .time (by decide)
  simp [State.formReport, hi, ht]

theorem State.formReport_others (hb : b < 2) : ∀ c, c < 2 → c ≠ b → (s.formReport b).bus c = s.bus c := fun c hc hne =>
  (State.bus_setBus_other (s.countReport b) _ hb c hc hne).trans
    (State.bus_of_fb (s.countReport_sameBut b .fb (by decide)) c)

theorem State.formReport_regs : (s.formReport b).regs = (s.countReport b).regs := State.setBus_regs _ _

/-- A counter shows what the report's counts made of it. -/
theorem State.formReport_getF {f : Fld} (hb : b < 2) (hf : f.addr < rFbSlotrpt0) :
    (s.formReport b).getF .agreed (fbF f b) = (s.tally b (s.bus b).reportCounts).getF .agreed (fbF f b) :=
  (State.getF_of_regs State.formReport_regs ..).trans (State.getF_showReport hb hf)

theorem State.formReport_errxCrc (hb : b < 2) : (s.formReport b).getF .agreed (fbF fFbErrxCrc b) =
    min 65535 (s.getF .agreed (fbF fFbErrxCrc b) + countIn ((s.bus b).reportCodes 0) 6) :=
  (State.formReport_getF hb (by decide)).trans (State.getF_tally_once (pre := []) hb rfl rfl rfl rfl)

theorem State.formReport_erryCrc (hb : b < 2) : (s.formReport b).getF .agreed (fbF fFbErryCrc b) =
    min 65535 (s.getF .agreed (fbF fFbErryCrc b) + countIn ((s.bus b).reportCodes 1) 6) :=
  (State.formReport_getF hb (by decide)).trans (State.getF_tally_once (pre := (s.bus b).codeCounts 0) hb rfl rfl rfl rfl)

theorem State.formReport_errxEcho (hb : b < 2) :
    (s.formReport b).getF .agreed (fbF fFbErrxEcho b) = s.getF .agreed (fbF fFbErrxEcho b) :=
  (State.formReport_getF hb (by decide)).trans (State.getF_tally_apart hb rfl rfl)

theorem State.formReport_regsBut (hb : b < 2) :
    regsBut ([rFbErrx, rFbErry, rFbEmpty, rFbTiming, rFbStale].map (fun a => (.agreed, a + 0x800 * b)) ++
      (List.range 16).map (fun i => (.agreed, rFbSlotrpt0 + 0x800 * b + 4 * i))) s (s.formReport b) :=
  regsBut_trans
    (regsBut_trans (regsBut_mono (State.tally_regsBut hb rfl) fun _ hx => List.mem_append_left _ hx)
      (regsBut_mono (State.showReport_regsBut hb) fun _ hx => List.mem_append_right _ hx))
    (regsBut_of_regs State.formReport_regs)

/-- A report that is due is formed (R203). -/
theorem exec_fbSlotReport_of_due (t : Nat) (hb : b < 2)
    (h : (s.bus b).state ≠ .off ∧ (s.bus b).reported = false ∧ (s.bus b).sched.isSome = true) :
    exec (.fbSlotReport t b) s = .next ((s.advance t).formReport b) := by
  obtain ⟨hrun, hnew, hsched⟩ := h
  have due : ¬ (((s.advance t).bus b).state = .off ∨ ((s.advance t).bus b).reported = true ∨
      ((s.advance t).bus b).sched.isNone = true ∨ 1 < b) := by
    rintro (off | old | none | high)
    · exact hrun off
    · exact absurd (hnew.symm.trans old) (by decide)
    · exact Option.not_isSome_iff_eq_none.2 (Option.isNone_iff_eq_none.1 none) hsched
    · omega
  rw [State.formReport, State.countReport, ← State.tally_reportCounts rfl]
  exact if_neg due

end
end Sys2Proof.Machine

/-!
## The door buses' states and slots
-/
namespace Sys2Proof.Machine
open Sys2Proof.Safety

/-- Settles O27: a command of a bus replaces that bus, counts in its registers and fans out items, and its conditions
select one branch: of the states by count (`TakesState`), of what a slot sends (`SlotSent`), of what hearing makes of a
frame (`State.hearSlot`), and the report (`State.formReport`). -/
theorem doorBusStatesAndSlots : Obligations.DoorBusStatesAndSlots := by
  unfold Obligations.DoorBusStatesAndSlots
  refine ⟨?integrated, ?recovered, ?testOn, ?testAsked, ?testOff, ?testDropped, ?idle, ?data, ?damaged, ?misfit, ?gated,
    ?empty, ?pattern, ?accepted, ?crc, ?length, ?cycle, ?sender, ?timing, ?long, ?suppressed, ?foreign, ?echo, ?energy,
    ?before, ?report⟩
  case integrated =>
    intro t b s hb h
    have hne : (s.bus b).state ≠ .normal := by simp [h.1]
    have takes := State.fbState_takes (s := s.advance t) hb hne
    exact ⟨_, exec_fbIntegrateDone_of_sent t hb h, takes.bus, takes.shown, takes.tells h.1, takes.others,
      State.fbState_regsBut (s := s.advance t) hb hne (by decide), State.fbState_sameBut _⟩
  case recovered =>
    intro t b s hb h
    have hne : (s.bus b).state ≠ .normal := by simp [h.1]
    have takes := State.fbState_takes (s := s.advance t) hb hne
    exact ⟨_, exec_fbRecoverDone_of_sent t hb h, takes.bus, takes.shown, takes.tells h.1, takes.others,
      State.fbState_regsBut (s := s.advance t) hb hne (by decide), State.fbState_sameBut _⟩
  case testOn =>
    intro t b w s hb h hm hn
    have hne : (s.bus b).state ≠ .test := by simp [hn]
    have hne' : (((s.advance t).putTest b 1).bus b).state ≠ .test := ((s.advance t).putTest_bus b 1).symm ▸ hne
    have takes := State.putTest_fbState_takes (s := s.advance t) (v := 1) hb hne
    exact ⟨_, (exec_fbTestOn_of_agreed t hb h).trans (if_pos ⟨hm, hn⟩), takes.bus, takes.shown,
      takes.tells hn, takes.others,
      State.putTest_fbState_test (s := s.advance t) hb (by decide) hne,
      State.putTest_fbState_regsBut (s := s.advance t) hb (State.fbState_regsBut hb hne' (by decide)),
      State.putTest_fbState_sameBut _⟩
  case testAsked =>
    intro t b w s hb h hn
    exact ⟨_, (exec_fbTestOn_of_agreed t hb h).trans (if_neg (by tauto)),
      State.putTest_test (s := s.advance t) hb (by decide),
      regsBut_mono (State.putTest_regsBut (s := s.advance t) hb 1) fun _ hx => List.mem_append_left _ hx,
      State.putTest_sameBut _ _ _⟩
  case testOff =>
    intro t b w s hb h hn
    have hne : (s.bus b).state ≠ .recover := by simp [hn]
    have hne' : (((s.advance t).putTest b 0).bus b).state ≠ .recover := ((s.advance t).putTest_bus b 0).symm ▸ hne
    have takes := State.putTest_fbState_takes (s := s.advance t) (v := 0) hb hne
    have before : ((s.advance t).putTest b 0).getF .agreed (fbF fFbRecovRecovers b) = s.getF .agreed (fbF fFbRecovRecovers b) :=
      State.getF_of_regsBut (State.putTest_regsBut (s := s.advance t) hb 0) (fbF_addr_lt hb rfl (by decide)) (by simp)
    exact ⟨_, (exec_fbTestOff_of_agreed t hb h).trans (if_pos hn), before ▸ State.fbState_recovers hb hne',
      takes.bus, takes.shown, takes.tells hn, takes.others,
      State.putTest_fbState_test (s := s.advance t) hb (by decide) hne,
      State.putTest_fbState_regsBut (s := s.advance t) hb (State.fbState_regsBut_counted hb hne'),
      State.putTest_fbState_sameBut _⟩
  case testDropped =>
    intro t b w s hb h hn
    exact ⟨_, (exec_fbTestOff_of_agreed t hb h).trans (if_neg hn),
      State.putTest_test (s := s.advance t) hb (by decide),
      regsBut_mono (State.putTest_regsBut (s := s.advance t) hb 0) fun _ hx => List.mem_append_left _ hx,
      State.putTest_sameBut _ _ _⟩
  case idle =>
    intro t b slot damaged sc e s hb ht hk hl hs hm
    have hc : s.slotContent b e = (3, []) := State.slotContent_of_idle hs hm
    exact exists_slotSent_of_sound t ⟨hb, ht, hk⟩ hl (State.slotFails_of_typ hc (by decide)) hc
  case data =>
    intro t b slot sc e i s hb ht hk hl hm hs ⟨hg, _⟩ ⟨hi, hlen, htag⟩
    have hc : s.slotContent b e = (2, i.value) := State.slotContent_of_item hs hm hg hi hlen
    have sound := State.slotFails_of_undamaged (State.slotItemBad_of_tag hi htag)
    have sent := State.sendSlot_sent (s := s.advance t) (slot := slot) (e := e) (sc := sc) (typ := 2) (payload := i.value) hb.1
    exact ⟨_, exec_fbSlotTransmit_of_sound t ⟨hb, ht, hk⟩ hl sound hc, sent.last, State.sendSlot_keeps_sent hg, sent.bus,
      sent.slots, sent.others, sent.frame⟩
  case damaged =>
    intro t m b slot sc e i s hb ht hk hl hm hs ⟨hg, _⟩ ⟨hi, hlen, htag⟩ hv hx
    have hc : s.slotContent b e = (2, i.value) := State.slotContent_of_item hs hm hg hi hlen
    obtain ⟨u, hexec, told, k⟩ :=
      exec_fbSlotTransmit_of_damaged t ⟨hb, ht, hk⟩ hc hi (State.slotItemBad_of_tag hi htag) hv hl.1 hx
    have hu : ∀ c, u.bus c = s.bus c := State.bus_of_fb (k.frame .fb (by decide))
    have sent := State.sendSlot_sent (s := u) (slot := slot) (e := e) (sc := sc) (typ := 2) (payload := i.value) hb.1
    rw [hu] at sent
    exact ⟨_, hexec, sent.last, (raised_of_log (sent.frame .log (by decide)) ..).2 told,
      (sent.frame .lane (by decide)).trans (k.frame .lane (by decide)), fun c hc hne => (sent.others c hc hne).trans (hu c),
      sameBut_trans (sameBut_mono k.frame (by decide)) (sameBut_mono sent.frame (by decide))⟩
  case misfit =>
    intro t b slot sc e i s hb ht hk hl hm hs ⟨hg, he⟩ ⟨hi, hlen⟩
    have sound := State.slotFails_of_undamaged (State.slotItemBad_of_misfit hi hlen)
    exact exists_slotSent_of_sound t ⟨hb, ht, hk⟩ hl sound (he ▸ State.slotContent_of_misfit hs hm hg hi hlen)
  case gated =>
    intro t b slot sc e s hb ht hk hl hm hs ⟨hg, he⟩
    have sound := State.slotFails_of_undamaged (s := s) (b := b) (State.slotItemBad_of_gated hg)
    exact exists_slotSent_of_sound t ⟨hb, ht, hk⟩ hl sound (he ▸ State.slotContent_of_gated hs hm hg)
  case empty =>
    intro t b slot sc e s hb ht hk hl hm hs ⟨hg, hi⟩
    have hc : s.slotContent b e = (3, []) := State.slotContent_of_none hs hm hg hi
    exact exists_slotSent_of_sound t ⟨hb, ht, hk⟩ hl (State.slotFails_of_typ hc (by decide)) hc
  case pattern =>
    intro t b slot sc e s hb ht hk hl hs
    have hc := State.slotContent_of_test (e := e) hs
    exact exists_slotSent_of_sound t ⟨hb, ht, hk⟩ hl (State.slotFails_of_typ hc (by decide)) hc
  case accepted =>
    intro t b ch pos ofs rel f g sc e s hb hp hf hst hr hk hn hs hc ⟨hcrc, hlen⟩ ⟨htyp, ha⟩ hcyc hrel
    have h : Hears s b ch pos ofs rel f g sc e := ⟨hb, hp, hf, hst, hr, hk⟩
    have ht : fieldAt g 4 1 ≠ 1 := fun e1 => by simp [e1, FbBus.allowed_of_cycleStart] at ha
    have hl : lengthOk e g false := ⟨by simp [htyp], rfl⟩
    have hcode := (FbBus.judge_of_timely hl hcyc ha hrel).trans (acceptedCode_eq _)
    exact exists_heard_of_accepted t h hn hs.1 hc ⟨hcrc, hlen⟩ ht hcode (acceptedCode_eq _ ▸ isAccepted_acceptedCode _)
  case crc =>
    intro t b ch pos ofs rel f g extra sc e s hb hp hf hst hr hk hn ⟨hcrc, hlen⟩ ⟨hs, hc⟩
    have h : Hears s b ch pos ofs rel f g sc e := ⟨hb, hp, hf, hst, hr, hk⟩
    refine exists_heard_of_setBus t h ?_
    rw [State.fbHear_of_damaged hcrc hlen, State.hearSlot_of_first (s := s.advance t) hs hk hr.2.2 hn hc]
    exact State.noteHeard_of_fault (FbBus.heardCode_of_damaged hcrc hlen) rfl
  case length =>
    intro t b ch pos ofs rel f g extra sc e s hb hp hf hst hr hk hn hs hc hg ht hl
    exact exists_heard_of_fault t ⟨hb, hp, hf, hst, hr, hk⟩ hn hs hc hg ht (FbBus.judge_of_length hl) rfl
  case cycle =>
    intro t b ch pos ofs rel f g extra sc e s hb hp hf hst hr hk hn hs hc hg ht hl hcyc
    exact exists_heard_of_fault t ⟨hb, hp, hf, hst, hr, hk⟩ hn hs hc hg ht (FbBus.judge_of_otherCycle hl hcyc) rfl
  case sender =>
    intro t b ch pos ofs rel f g extra sc e s hb hp hf hst hr hk hn hs hc hg ht hl hcyc ha
    exact exists_heard_of_fault t ⟨hb, hp, hf, hst, hr, hk⟩ hn hs hc hg ht (FbBus.judge_of_unlisted hl hcyc ha) rfl
  case timing =>
    intro t b ch pos ofs rel f g extra sc e s hb hp hf hst hr hk hn hs hc hg ht hl hcyc ha hrel
    refine exists_heard_of_fault t ⟨hb, hp, hf, hst, hr, hk⟩ hn hs hc hg ht (FbBus.judge_of_mistimed hl hcyc ha hrel) ?_
    split <;> rfl
  case long =>
    intro t b ch pos ofs rel f g extra sc e s hb hp hf hst hr hk hn hs hc hlen
    have h : Hears s b ch pos ofs rel f g sc e := ⟨hb, hp, hf, hst, hr, hk⟩
    have hear := State.fbHear_of_long_first (s := s.advance t) (ch := ch) (pos := pos) (rel := rel) (sc := sc) (extra := extra)
      hs.1 hk hr.2.2 hn hc hlen
    obtain ⟨s', hexec, bus, others, frame⟩ := exists_heard_of_setBus t h hear
    exact ⟨s', hexec, bus, frame .intake (by decide), others, frame⟩
  case suppressed =>
    intro t b ch pos ofs rel f g extra sc e s hb hp hf hst hr hk hn hs ⟨hcrc, hlen⟩ ht
    have h : Hears s b ch pos ofs rel f g sc e := ⟨hb, hp, hf, hst, hr, hk⟩
    obtain ⟨y, hear, hy⟩ := State.hearSlot_of_suppressed (s := s.advance t) (ch := ch)
      (here := e.offset * 100 + rel) (sc := sc) (f := g) (extra := extra) hs.1 hk hr.2.2 hn
    have counted : regsBut [(.agreed, rFbSupp + 0x800 * b)] s ((s.advance t).incF .agreed (fbF fFbSuppSuppressed b) 1) :=
      regsBut_incF_fbF (s := s.advance t) _ _ hb.1 rfl (by decide)
    refine ⟨_, (exec_fbFrameReceived_of_heard t h).trans
      (congrArg _ ((State.fbHear_of_whole hcrc hlen ht).trans hear)), ?_, ?_, State.bus_setBus_other _ _ hb.1, ?_, ?_⟩
    · rw [State.getF_of_regs (State.setBus_regs _ _)]
      exact State.getF_incF_fbF (s := s.advance t) _ _ (by decide) (by decide) rfl
    · rw [State.bus_setBus_same]
      exact hy
    · exact regsBut_trans counted (regsBut_of_regs (State.setBus_regs _ _))
    · exact (State.setBus_keeps _ _ rfl (State.incF_keeps _ _ _ rfl (.refl _ _))).frame
  case foreign =>
    intro t b ch pos ofs rel f g extra sc e s hb hp hf hst hr hk ⟨hcrc, hlen⟩ ht hlim hn
    have h : Hears s b ch pos ofs rel f g sc e := ⟨hb, hp, hf, hst, hr, hk⟩
    obtain ⟨y, hear⟩ := State.hearSlot_of_cycleStart (s := (s.advance t).fbSecondMaster b ch) (ch := ch)
      (slot := fieldAt g 1 1) (here := e.offset * 100 + rel) (sc := sc) (extra := extra) hcrc hlen ht
      ((congrArg FbBus.cycState (State.fbSecondMaster_bus b)).trans hn)
    refine ⟨_, (exec_fbFrameReceived_of_heard t h).trans
      (congrArg _ ((State.fbHear_of_cycleStart hcrc hlen ht).trans hear)), ?_, ?_, ?_, ?_, ?_, ?_⟩
    · rw [State.getF_of_regs (State.setBus_regs _ _)]
      exact State.fbSecondMaster_counts
    · exact (raised_of_log (State.setBus_log _ _) ..).2 (State.fbSecondMaster_told (s := s.advance t) hlim)
    · exact (State.setBus_intake _ _).trans (State.raiseLimited_intake (s.advance t) ..)
    · exact fun c hc hne => (State.bus_setBus_other _ _ hb.1 c hc hne).trans (State.fbSecondMaster_bus c)
    · exact regsBut_trans (State.fbSecondMaster_regsBut (s := s.advance t) hb.1) (regsBut_of_regs (State.setBus_regs _ _))
    · exact (State.setBus_keeps _ _ rfl (State.fbSecondMaster_keeps _ _ rfl (.refl _ _))).frame
  case echo =>
    intro t b ch pos ofs f g extra sc s hb hp hf ⟨hs, ho⟩ hne
    subst hf
    refine ⟨_, (exec_fbFrameReceived_of_own t hb hp hs ho (fbEnvelope_of_preamble g)).trans
      (congrArg _ (State.fbEcho_of_other (s := s.advance t) hne)), ?_, ?_, (State.incF_keeps _ _ _ rfl (.refl _ _)).frame⟩
    · split <;> exact State.getF_incF_fbF (s := s.advance t) _ _ (by decide) (by decide) rfl
    · split <;> exact regsBut_incF_fbF (s := s.advance t) _ _ hb.1 rfl (by decide)
  case energy =>
    intro t b ch pos ofs f extra sc e s hb hp hf ⟨hs, ho, hr⟩ ⟨he, hk⟩
    exact ⟨_, (exec_fbFrameReceived_of_noise t hb hp hs ho (fbEnvelope_of_other hf)).trans
      (congrArg _ (State.fbNoise_of_claim (s := s.advance t) he hk hr)), State.bus_setBus_same _ _,
      State.bus_setBus_other (s.advance t) _ hb.1, State.setBus_sameBut _ _⟩
  case before =>
    intro t b ch pos ofs f extra own s hb hp ho hf
    exact ⟨_, exec_fbFrameReceived_of_off t hb hp ho (if_pos hf),
      State.getF_incF_fbF (s := s.advance t) _ _ (by decide) (by decide) rfl,
      regsBut_incF_fbF (s := s.advance t) _ _ hb.1 rfl (by decide), (State.incF_keeps _ _ _ rfl (.refl _ _)).frame⟩
  case report =>
    intro t b s hb h
    exact ⟨_, exec_fbSlotReport_of_due t hb h, State.formReport_bus, State.formReport_intake, State.formReport_errxCrc hb,
      State.formReport_erryCrc hb, State.formReport_errxEcho hb, State.formReport_others hb, State.formReport_regsBut hb,
      State.formReport_sameBut _ _⟩

end Sys2Proof.Machine

/-!
# Field inputs and pairs

What the field engine makes of a change of an input, of a pair and of a supply (R243 to R247): each forms an item, which waits in
its queue while that has room (R225).
-/

namespace Sys2Proof.Machine
open Sys2Proof.Safety

/-! ### Items the field engine forms (R225) -/

section
variable {s u : State} {source time : Nat} {value : List Byte}

/-- The sequence number that the next item of a source takes. -/
def FieldPart.nextSeq (f : FieldPart) (source : Nat) : Nat := (f.seqs.find? fun e => e.1 == source).elim 0 fun e => e.2

/-- The field engine with one more item waiting. -/
def FieldPart.withItem (f : FieldPart) (source time : Nat) (value : List Byte) : FieldPart :=
  { f with
    queue := f.queue ++ [Item.form source (f.nextSeq source) time value]
    seqs := (source, (f.nextSeq source + 1) % 65536) :: f.seqs.filter fun e => e.1 != source }

theorem State.fieldItem_of_room (h : s.field.queue.length < 512) :
    s.fieldItem source time value = { s with field := s.field.withItem source time value } := by
  unfold State.fieldItem
  rw [if_neg (Nat.not_le.2 h)]
  cases e : s.field.seqs.find? fun e => e.1 == source <;>
    simp only [FieldPart.withItem, FieldPart.nextSeq, e, Option.elim]

theorem State.fieldItem_of_full (h : 512 ≤ s.field.queue.length) : s.fieldItem source time value =
    { s with field := { s.field with queueFull := true, notFormed := s.field.notFormed + 1 } } := if_pos h

/-- Whether or not an item is formed, the queue, its sequence numbers and its marks are all that changes. -/
theorem State.fieldItem_field : (s.fieldItem source time value).field =
    { s.field with
      queue := (s.fieldItem source time value).field.queue, seqs := (s.fieldItem source time value).field.seqs
      queueFull := (s.fieldItem source time value).field.queueFull
      notFormed := (s.fieldItem source time value).field.notFormed } := by
  by_cases h : 512 ≤ s.field.queue.length
  · rw [State.fieldItem_of_full h]
  · rw [State.fieldItem_of_room (Nat.not_le.1 h)]
    rfl

theorem State.fieldItem_sameBut (s : State) : sameBut [.field] s (s.fieldItem source time value) :=
  (State.fieldItem_keeps _ _ _ rfl (.refl _ s)).frame

/-- An event of the module tells the masts that vote, and stands in the log alone. -/
theorem raised_of_raise {code a1 a2 : Nat} (hl : s.lane = u.lane) : raised (s.raise code a1 a2) u.lane.active.mask code a1 a2 :=
  hl ▸ raised_raise s code a1 a2

end

/-! ### One input, one pair -/

section
variable {s u : State} {i p c time : Nat} {x : FieldIn} {y : FieldPair}

/-- The field engine with one input replaced. -/
def FieldPart.withIn (f : FieldPart) (i : Nat) (x : FieldIn) : FieldPart := { f with ins := f.ins.set (i - 1) x }

/-- The field engine with one pair replaced. -/
def FieldPart.withPair (f : FieldPart) (p : Nat) (y : FieldPair) : FieldPart := { f with pairs := f.pairs.set (p - 1) y }

/-- The value of an input's item (R243). -/
def inputItemValue (x : FieldIn) : List Byte := natLe 1 (b2n x.level) ++ natLe 1 (b2n x.invalid) ++ natLe 2 0

theorem State.inputChange_of_room (h : s.field.queue.length < 512) : s.inputChange i x =
    { s with field := (s.field.withIn i x).withItem (0x0100 + i) x.entry (inputItemValue x) } :=
  State.fieldItem_of_room (s := { s with field := s.field.withIn i x }) h

theorem State.setPair_of_room (h : s.field.queue.length < 512) : ∃ value, s.setPair p y time =
    { s with field := (s.field.withPair p y).withItem (0x0140 + p) time value } :=
  ⟨_, State.fieldItem_of_room (s := { s with field := s.field.withPair p y }) h⟩

/-- Input `i` has become `x` and its pair `p` has become `y`, and the items of both wait. -/
structure InputWithPair (i p : Nat) (x : FieldIn) (y : FieldPair) (s u : State) : Prop where
  inp : u.inp i = x
  pair : u.pair p = y
  sources : u.field.queue.map Item.source = s.field.queue.map Item.source ++ [0x0100 + i, 0x0140 + p]
  field : u.field = { s.field with
    ins := s.field.ins.set (i - 1) (u.inp i), pairs := s.field.pairs.set (p - 1) (u.pair p)
    queue := u.field.queue, seqs := u.field.seqs }

theorem InputWithPair.of_field {v : State} (h : InputWithPair i p x y s u) (hv : v.field = u.field) :
    InputWithPair i p x y s v := by
  obtain ⟨inp, pair, sources, field⟩ := h
  have hi : v.inp i = u.inp i := by simp only [State.inp, hv]
  have hp : v.pair p = u.pair p := by simp only [State.pair, hv]
  exact ⟨hi.trans inp, hp.trans pair, hv ▸ sources, by rw [hi, hp, hv]; exact field⟩

/-- The state after the change of an input, whatever it did to the log, takes the change of its pair. -/
theorem State.setPair_inputWithPair (hi : 1 ≤ i ∧ i ≤ 48 ∧ s.field.ins.length = 48)
    (hp : 1 ≤ p ∧ p ≤ s.field.pairs.length) (hq : s.field.queue.length < 511) (hu : u.field = (s.inputChange i x).field) :
    InputWithPair i p x y s (u.setPair p y time) := by
  rw [State.inputChange_of_room (by omega)] at hu
  change u.field = (s.field.withIn i x).withItem (0x0100 + i) x.entry (inputItemValue x) at hu
  have room : u.field.queue.length < 512 := by
    simp only [hu, FieldPart.withItem, FieldPart.withIn, List.length_append, List.length_singleton]
    omega
  obtain ⟨value, e⟩ := State.setPair_of_room (p := p) (y := y) (time := time) room
  rw [e]
  set v : State := { u with field := (u.field.withPair p y).withItem (0x0140 + p) time value }
  have hv : v.field = (((s.field.withIn i x).withItem (0x0100 + i) x.entry (inputItemValue x)).withPair p y).withItem
      (0x0140 + p) time value := by rw [← hu]
  have inp : v.inp i = x := by
    show (v.field.ins[i - 1]?).getD {} = x
    rw [hv]
    show ((s.field.ins.set (i - 1) x)[i - 1]?).getD {} = x
    rw [List.getElem?_set_self (by omega)]
    rfl
  have pair : v.pair p = y := by
    show (v.field.pairs[p - 1]?).getD {} = y
    rw [hv]
    show ((s.field.pairs.set (p - 1) y)[p - 1]?).getD {} = y
    rw [List.getElem?_set_self (by omega)]
    rfl
  refine ⟨inp, pair, ?_, ?_⟩
  · simp [hv, FieldPart.withItem, FieldPart.withPair, FieldPart.withIn, Item.form]
  · rw [inp, pair, hv]
    rfl

end

/-! ### A pair acts on its contacts (R245) -/

section
variable {s : State} {i p c time : Nat}

/-- Does contact `c` of a pair (0 IN_A, 1 IN_B) show its safe level? -/
def State.contactSafe (s : State) (p c : Nat) : Bool :=
  if c = 0 then !(s.inp (s.pairEntry p).inA).level
  else if (s.pairEntry p).kind = 2 then (s.inp (s.pairEntry p).inB).level else !(s.inp (s.pairEntry p).inB).level

theorem State.contactSafe_of_high (hl : (s.inp i).level = true) (hk : c = 0 ∨ (s.pairEntry p).kind ≠ 2)
    (hc : c = 0 ∧ (s.pairEntry p).inA = i ∨ c = 1 ∧ (s.pairEntry p).inB = i) : s.contactSafe p c = false := by
  obtain ⟨rfl, hi⟩ | ⟨rfl, hi⟩ := hc
  · simp [State.contactSafe, hi, hl]
  · simp [State.contactSafe, hi, hl, hk.resolve_left one_ne_zero]

/-- Of a pair at rest the first contact to move makes it wait for the other. -/
theorem State.pairChange_of_first (hs : (s.pair p).state = .off) (hc : s.contactSafe p c = false) :
    s.pairChange p c time = s.setPair p ⟨.waitOn, c, time⟩ time := by
  unfold State.pairChange
  dsimp only
  rw [hs]
  exact if_neg (Bool.eq_false_iff.1 hc)

/-- The other contact, moving in time, sets the pair on. -/
theorem State.pairChange_of_second (hs : (s.pair p).state = .waitOn) (hf : (s.pair p).first ≠ c)
    (hc : s.contactSafe p c = false) (ht : time ≤ (s.pair p).start + (s.pairEntry p).discMs * ms) :
    s.pairChange p c time = s.setPair p { s.pair p with state := .on } time := by
  unfold State.pairChange
  dsimp only
  rw [hs]
  exact (if_neg (Ne.symm hf)).trans ((if_neg (Bool.eq_false_iff.1 hc)).trans (if_pos ht))

end

/-! ### A level is accepted (R243, R244) -/

section
variable {s : State} {i p c : Nat} {level : Bool}

/-- The entry time of a level accepted now: the filter time before, on the grid of 10 µs (R244). -/
def State.acceptTime (s : State) (i : Nat) : Nat := (s.engineTime - s.filterTime i) / (10 * us) * (10 * us)

/-- The input as it stands once a level is accepted. -/
def State.accepted (s : State) (i : Nat) (level : Bool) : FieldIn := ⟨level, false, s.acceptTime i⟩

/-- The level is the input's, and its pair acts on it. -/
def State.inputAccept (s : State) (i : Nat) (level : Bool) : State :=
  let u := s.inputChange i (s.accepted i level)
  (s.pairOf i).elim u fun e => u.pairChange e.1 e.2 (s.acceptTime i)

theorem State.adopted_inputChange (x : FieldIn) : (s.inputChange i x).field.adopted = s.field.adopted := by
  rw [State.inputChange, State.fieldItem_field]

theorem State.pairEntry_of_adopted {u : State} (h : u.field.adopted = s.field.adopted) : u.pairEntry = s.pairEntry := by
  funext p
  rw [State.pairEntry, h]
  rfl

theorem State.pairOf_inputChange (x : FieldIn) : (s.inputChange i x).pairOf i = s.pairOf i := by
  rw [State.pairOf, State.pairEntry_of_adopted (State.adopted_inputChange x)]
  rfl

theorem State.pair_inputChange (x : FieldIn) : (s.inputChange i x).pair p = s.pair p := by
  rw [State.pair, State.inputChange, State.fieldItem_field]
  rfl

theorem State.inp_inputChange (x : FieldIn) (hi : 1 ≤ i ∧ i ≤ 48 ∧ s.field.ins.length = 48) :
    (s.inputChange i x).inp i = x := by
  rw [State.inp, State.inputChange, State.fieldItem_field]
  dsimp only
  rw [List.getElem?_set_self (by omega)]
  rfl

/-- A contact whose input has gone high is not safe. -/
theorem State.contactSafe_inputChange {x : FieldIn} (hi : 1 ≤ i ∧ i ≤ 48 ∧ s.field.ins.length = 48) (hx : x.level = true)
    (hk : c = 0 ∨ (s.pairEntry p).kind ≠ 2) (hc : c = 0 ∧ (s.pairEntry p).inA = i ∨ c = 1 ∧ (s.pairEntry p).inB = i) :
    (s.inputChange i x).contactSafe p c = false := by
  have entry := State.pairEntry_of_adopted (State.adopted_inputChange (s := s) (i := i) x)
  refine State.contactSafe_of_high ((congrArg FieldIn.level (State.inp_inputChange x hi)).trans hx) ?_ ?_
  · rwa [entry]
  · rwa [entry]

theorem State.inputAccept_of_pair (h : s.pairOf i = some (p, c)) : s.inputAccept i level =
    (s.inputChange i (s.accepted i level)).pairChange p c (s.acceptTime i) := by
  rw [State.inputAccept, h]
  rfl

theorem exec_inputFilterAccept_of_held (t : Nat) (hi : 1 ≤ i ∧ i ≤ 48) (hp : s.field.powered = true)
    (hs : s.field.supplies[0]? ≠ some 2 ∧ ((s.inp i).level ≠ level ∨ (s.inp i).invalid = true))
    (ht : s.field.backAt + s.filterTime i ≤ max s.now t) :
    exec (.inputFilterAccept t i level) s = .next ((s.advance t).inputAccept i level) := by
  obtain ⟨hs, hl⟩ := hs
  have hx : ¬ ((s.inp i).level = level ∧ (!(s.inp i).invalid) = true) := by
    rcases hl with hl | hl <;> simp [hl]
  have guard : ¬ (i = 0 ∨ 48 < i ∨ (!s.field.powered) = true ∨ s.field.supplies[0]? = some 2 ∨
      ((s.inp i).level = level ∧ (!(s.inp i).invalid) = true) ∨ max s.now t < s.field.backAt + s.filterTime i) := by
    rintro (h | h | h | h | h | h)
    · omega
    · omega
    · simp [hp] at h
    · exact hs h
    · exact hx h
    · omega
  refine (if_neg guard).trans ?_
  rw [State.inputAccept, State.pairOf_inputChange]
  cases (s.advance t).pairOf i <;> rfl

end

/-! ### An input becomes invalid (R243) -/

section
variable {s : State} {i p c : Nat}

/-- The input as it stands once it is invalid. -/
def State.lostInput (s : State) : FieldIn := ⟨false, true, s.engineTime⟩

theorem State.inputInvalid_of_invalid (h : (s.inp i).invalid = true) : s.inputInvalid i = s := if_pos h

theorem State.inputInvalid_of_valid (h : (s.inp i).invalid = false) : s.inputInvalid i =
    (s.pairOf i).elim ((s.inputChange i s.lostInput).raise evFiInputInvalid i 0) fun e =>
      ((s.inputChange i s.lostInput).raise evFiInputInvalid i 0).pairDiscrepancy e.1 5 s.engineTime := by
  have hp : ((s.inputChange i s.lostInput).raise evFiInputInvalid i 0).pairOf i = s.pairOf i :=
    State.pairOf_inputChange s.lostInput
  refine (if_neg (Bool.eq_false_iff.1 h)).trans ?_
  show (match ((s.inputChange i s.lostInput).raise evFiInputInvalid i 0).pairOf i with
    | some (p, _) => _ | none => _) = _
  rw [hp]
  cases s.pairOf i <;> rfl

theorem exec_inputInvalid_of_powered (t : Nat) (hi : 1 ≤ i ∧ i ≤ 48) (hp : s.field.powered = true) :
    exec (.inputInvalid t i) s = .next ((s.advance t).inputInvalid i) := by
  refine if_neg ?_
  rintro (h | h | h)
  · omega
  · omega
  · simp [hp] at h

theorem State.pairDiscrepancy_of_agreeing {left time : Nat} (h : (s.pair p).state ≠ .discrepancy) :
    s.pairDiscrepancy p left time =
      (s.setPair p { s.pair p with state := .discrepancy } time).raise evFiPairDiscrepancy p left := if_neg h

end

/-! ### A pair waits too long (R245) -/

section
variable {s : State} {p : Nat}

/-- The time by which a waiting pair's second contact has to follow. -/
def State.pairLimit (s : State) (p : Nat) : Nat := (s.pair p).start + (s.pairEntry p).discMs * ms

theorem exec_pairDiscrepancyTimeout_of_due (t : Nat) (hp : 1 ≤ p ∧ p ≤ 24) (hpow : s.field.powered = true)
    (hw : (s.pair p).state = .waitOn ∨ (s.pair p).state = .waitOff)
    (ht : s.pairLimit p + max (s.filterTime (s.pairEntry p).inA) (s.filterTime (s.pairEntry p).inB) ≤
      (s.advance t).engineTime) :
    exec (.pairDiscrepancyTimeout t p) s = .next ((s.advance t).pairDiscrepancy p
      (if (s.pair p).state = .waitOn then 1 else 3) (s.pairLimit p)) := by
  refine (if_neg ?_).trans ?_
  · rintro (h | h | h | h)
    · omega
    · omega
    · simp [hpow] at h
    · exact Nat.not_lt.2 ht h
  · rcases hw with hw | hw
    · rw [if_pos hw]
      exact if_pos hw
    · have hne : (s.pair p).state ≠ .waitOn := by simp [hw]
      rw [if_neg hne]
      exact (if_neg hne).trans (if_pos hw)

end

/-! ### A supply takes a state (R247) -/

section
variable {s : State} {n st : Nat}

/-- A supply takes a state, and the change is counted. -/
def State.takeSupply (s : State) (n st : Nat) : State :=
  ({ s with field := { s.field with
    supplies := s.field.supplies.set n st
    backAt := if n = 0 ∧ s.field.supplies[0]? = some 2 then s.now else s.field.backAt } }).incF .agreed fFiSupplyChanges 1

/-- The item of the supplies is formed; it carries the mark that the queue was full, which then is cleared. -/
def State.supplyItem (s : State) : State :=
  let byte0 := (s.field.supplies.zipIdx.map fun e => e.1 * 4 ^ e.2).foldl (· + ·) 0
  let mark := s.field.queueFull && decide (s.field.queue.length < 512)
  let u := s.fieldItem 0x0180 s.engineTime (natLe 1 byte0 ++ natLe 1 (128 * b2n mark) ++ natLe 2 0)
  if mark then { u with field := { u.field with queueFull := false } } else u

/-- A supply in use tells its state. -/
def State.tellSupply (s : State) (n st : Nat) : State :=
  if (s.field.adopted.any fun c => bitOf c.fsupUsed n) = true then s.raise evFiSupply n st else s

/-- The state of a supply is taken, formed as an item, and told. -/
def State.supplyChange (s : State) (n st : Nat) : State := (s.takeSupply n st).supplyItem.tellSupply n st

theorem exec_fieldSupplyChange_of_new (t : Nat) (hn : n ≤ 3 ∧ st ≤ 2) (hp : s.field.powered = true)
    (hs : s.field.supplies[n]? ≠ some st) : exec (.fieldSupplyChange t n st) s =
      if n = 0 ∧ st = 2 then
        .next ((List.range 48).foldl (fun s k => s.inputInvalid (k + 1)) ((s.advance t).supplyChange n st))
      else .next ((s.advance t).supplyChange n st) := by
  have used (o : Option FieldConfig) :
      (match o with | some c => bitOf c.fsupUsed n | none => false) = o.any fun c => bitOf c.fsupUsed n := by
    cases o <;> rfl
  refine (if_neg ?_).trans ?_
  · rintro (h | h | h | h)
    · omega
    · omega
    · simp [hp] at h
    · exact hs h
  · simp only [State.supplyChange, State.tellSupply, ← used]
    rfl

/-- What the supplies' item leaves: the queue, its sequence numbers and its marks are all that changes. -/
theorem State.supplyItem_field : s.supplyItem.field = { s.field with
    queue := s.supplyItem.field.queue, seqs := s.supplyItem.field.seqs
    queueFull := s.supplyItem.field.queueFull, notFormed := s.supplyItem.field.notFormed } := by
  unfold State.supplyItem
  dsimp only
  split
  · conv_lhs => rw [State.fieldItem_field]
  · exact State.fieldItem_field

theorem State.supplyItem_of_room (h : s.field.queue.length < 512) :
    s.supplyItem.field.notFormed = s.field.notFormed ∧
      s.supplyItem.field.queue.map Item.source = s.field.queue.map Item.source ++ [0x0180] := by
  unfold State.supplyItem
  dsimp only
  rw [State.fieldItem_of_room h]
  split <;> exact ⟨rfl, by simp [FieldPart.withItem, Item.form]⟩

theorem State.supplyItem_sameBut (s : State) : sameBut [.field] s s.supplyItem := by
  unfold State.supplyItem
  dsimp only
  split
  · exact (Keeps.upd_field _ rfl (State.fieldItem_keeps _ _ _ rfl (.refl _ s))).frame
  · exact s.fieldItem_sameBut

theorem State.tellSupply_sameBut (s : State) : sameBut [.log] s (s.tellSupply n st) :=
  (Keeps.ite (State.raise_keeps _ _ _ rfl (.refl _ s)) (.refl _ s)).frame

theorem State.supplyChange_field : (s.supplyChange n st).field = { s.field with
    supplies := s.field.supplies.set n st
    backAt := if n = 0 ∧ s.field.supplies[0]? = some 2 then s.now else s.field.backAt
    queue := (s.supplyChange n st).field.queue, seqs := (s.supplyChange n st).field.seqs
    queueFull := (s.supplyChange n st).field.queueFull, notFormed := (s.supplyChange n st).field.notFormed } := by
  have e : (s.supplyChange n st).field = (s.takeSupply n st).supplyItem.field := State.tellSupply_sameBut _ .field (by decide)
  rw [e]
  exact State.supplyItem_field

/-- The registers hold one change more. -/
theorem State.supplyChange_regs : (s.supplyChange n st).regs = (s.takeSupply n st).regs :=
  (State.tellSupply_sameBut _ .regs (by decide)).trans ((s.takeSupply n st).supplyItem_sameBut .regs (by decide))

theorem State.supplyChange_counts : (s.supplyChange n st).getF .agreed fFiSupplyChanges =
    min 65535 (s.getF .agreed fFiSupplyChanges + 1) :=
  (State.getF_of_regs State.supplyChange_regs ..).trans
    (State.getF_incF { s with field := _ } .agreed fFiSupplyChanges 1 (by decide) (by decide))

theorem State.supplyChange_regsBut (s : State) : regsBut [(.agreed, rFiSupply)] s (s.supplyChange n st) := by
  refine regsBut_trans ?_ (regsBut_of_regs State.supplyChange_regs)
  exact regsBut_putF_self { s with field := _ } .agreed fFiSupplyChanges _ rfl (by decide)

theorem State.supplyChange_sameBut (s : State) : sameBut [.field, .regs, .log] s (s.supplyChange n st) := by
  have take : sameBut [.field, .regs, .log] s (s.takeSupply n st) :=
    (State.incF_keeps _ _ _ rfl (Keeps.upd_field _ rfl (.refl _ s))).frame
  exact sameBut_trans take (sameBut_trans (sameBut_mono (State.supplyItem_sameBut _) (by decide))
    (sameBut_mono (State.tellSupply_sameBut _) (by decide)))

theorem State.supplyChange_tells (h : (s.field.adopted.any fun c => bitOf c.fsupUsed n) = true) :
    raised (s.supplyChange n st) s.lane.active.mask evFiSupply n st := by
  have adopted : (s.takeSupply n st).supplyItem.field.adopted = s.field.adopted := by
    rw [State.supplyItem_field]
    rfl
  rw [State.supplyChange, State.tellSupply, if_pos (adopted.symm ▸ h)]
  exact raised_of_raise ((s.takeSupply n st).supplyItem_sameBut .lane (by decide))

end

/-! ### Every input becomes invalid (R243, R247) -/

section
variable {s u : State} {i n : Nat}

/-- An input that becomes invalid leaves outputs, supplies and the other inputs as they were, and what was told stays told. -/
structure InputLost (i : Nat) (s u : State) : Prop where
  ins : u.field.ins = s.field.ins.set (i - 1) s.lostInput
  outs : u.field.outs = s.field.outs
  supplies : u.field.supplies = s.field.supplies
  told : raised u s.lane.active.mask evFiInputInvalid i 0
  due : ∀ e ∈ s.log.due, e ∈ u.log.due

theorem State.pairDiscrepancy_log (p left time : Nat) : ∀ e ∈ s.log.due, e ∈ (s.pairDiscrepancy p left time).log.due := by
  intro e he
  unfold State.pairDiscrepancy
  split
  · exact he
  · have hl : (s.setPair p { s.pair p with state := .discrepancy } time).log = s.log :=
      State.fieldItem_sameBut { s with field := _ } .log (by decide)
    rw [State.raise_due, hl]
    exact List.mem_append_left _ he

theorem State.pairDiscrepancy_field (p left time : Nat) :
    (s.pairDiscrepancy p left time).field.ins = s.field.ins ∧ (s.pairDiscrepancy p left time).field.outs = s.field.outs ∧
      (s.pairDiscrepancy p left time).field.supplies = s.field.supplies := by
  unfold State.pairDiscrepancy
  split
  · exact ⟨rfl, rfl, rfl⟩
  · rw [State.raise_field, State.setPair, State.fieldItem_field]
    exact ⟨rfl, rfl, rfl⟩

theorem State.inputInvalid_lost (h : (s.inp i).invalid = false) : InputLost i s (s.inputInvalid i) := by
  have changed : InputLost i s ((s.inputChange i s.lostInput).raise evFiInputInvalid i 0) := by
    have frame : sameBut [.field] s (s.inputChange i s.lostInput) := (State.inputChange_keeps _ _ rfl (.refl _ s)).frame
    have field : (s.inputChange i s.lostInput).field = _ := State.fieldItem_field
    refine ⟨?_, ?_, ?_, raised_of_raise (frame .lane (by decide)), fun e he => ?_⟩
    · rw [State.raise_field, field]
    · rw [State.raise_field, field]
    · rw [State.raise_field, field]
    · rw [State.raise_due, frame .log (by decide)]
      exact List.mem_append_left _ he
  rw [State.inputInvalid_of_valid h]
  cases s.pairOf i with
  | none => exact changed
  | some e =>
    obtain ⟨ins, outs, supplies, told, due⟩ := changed
    obtain ⟨hins, houts, hsupplies⟩ :=
      ((s.inputChange i s.lostInput).raise evFiInputInvalid i 0).pairDiscrepancy_field e.1 5 s.engineTime
    exact ⟨hins.trans ins, houts.trans outs, hsupplies.trans supplies,
      raised_mono told (State.pairDiscrepancy_log _ _ _), fun x hx => State.pairDiscrepancy_log _ _ _ x (due x hx)⟩

/-- The inputs up to `n` have become invalid, each telling it where it was not; the others are as they were. -/
structure InputsLost (n : Nat) (s u : State) : Prop where
  length : u.field.ins.length = s.field.ins.length
  lost : ∀ i, 1 ≤ i → i ≤ n → (u.inp i).invalid = true
  told : ∀ i, 1 ≤ i → i ≤ n → (s.inp i).invalid = false →
    (u.inp i).level = false ∧ raised u s.lane.active.mask evFiInputInvalid i 0
  rest : ∀ i, n < i → u.inp i = s.inp i
  outs : u.field.outs = s.field.outs
  supplies : u.field.supplies = s.field.supplies
  due : ∀ e ∈ s.log.due, e ∈ u.log.due
  frame : sameBut [.field, .log] s u

theorem InputsLost.next (hn : n < s.field.ins.length) (h : InputsLost n s u) :
    InputsLost (n + 1) s (u.inputInvalid (n + 1)) := by
  obtain ⟨length, lost, told, rest, outs, supplies, due, frame⟩ := h
  have here : u.inp (n + 1) = s.inp (n + 1) := rest _ (Nat.lt_succ_self n)
  by_cases hv : (s.inp (n + 1)).invalid = true
  · rw [State.inputInvalid_of_invalid (here ▸ hv)]
    refine ⟨length, fun i h1 hi => ?_, fun i h1 hi hf => ?_, fun i hi => rest i (by omega), outs, supplies, due, frame⟩
    · obtain hi | rfl := Nat.le_succ_iff.1 hi
      · exact lost i h1 hi
      · rw [here, hv]
    · obtain hi | rfl := Nat.le_succ_iff.1 hi
      · exact told i h1 hi hf
      · exact absurd hv (Bool.eq_false_iff.1 hf)
  · have hv : (s.inp (n + 1)).invalid = false := Bool.eq_false_iff.2 hv
    obtain ⟨ins, houts, hsupplies, htold, hdue⟩ := State.inputInvalid_lost (s := u) (here ▸ hv)
    have self : (u.inputInvalid (n + 1)).inp (n + 1) = u.lostInput := by
      rw [State.inp, ins, List.getElem?_set_self (by simpa [length] using hn)]
      rfl
    have other {i : Nat} (h1 : 1 ≤ i) (hi : i ≠ n + 1) : (u.inputInvalid (n + 1)).inp i = u.inp i := by
      rw [State.inp, ins, List.getElem?_set_ne (by omega), State.inp]
    have lane : u.lane = s.lane := frame .lane (by decide)
    refine ⟨by rw [ins, List.length_set, length], fun i h1 hi => ?_, fun i h1 hi hf => ?_, fun i hi => ?_,
      houts.trans outs, hsupplies.trans supplies, fun e he => hdue e (due e he),
      sameBut_trans frame (State.inputInvalid_keeps _ rfl (.refl _ u)).frame⟩
    · obtain hi | rfl := Nat.le_succ_iff.1 hi
      · rw [other h1 (by omega)]
        exact lost i h1 hi
      · rw [self]
        rfl
    · obtain hi | rfl := Nat.le_succ_iff.1 hi
      · rw [other h1 (by omega)]
        exact ⟨(told i h1 hi hf).1, raised_mono (told i h1 hi hf).2 hdue⟩
      · rw [self]
        exact ⟨rfl, lane ▸ htold⟩
    · rw [other (by omega) (by omega)]
      exact rest i (by omega)

theorem State.inputsLost (hn : n ≤ s.field.ins.length) :
    InputsLost n s ((List.range n).foldl (fun s k => s.inputInvalid (k + 1)) s) := by
  induction n with
  | zero =>
    exact ⟨rfl, fun i h1 hi => absurd hi (by omega), fun i h1 hi => absurd hi (by omega), fun _ _ => rfl, rfl, rfl,
      fun _ h => h, sameBut_refl _ s⟩
  | succ n ih =>
    rw [List.range_succ, List.foldl_append]
    exact (ih (by omega)).next hn

end

/-- Settles O31: each command's exec is taken to the operation of R243 to R247 it carries out; what that leaves is read off the
lemmas above, the missing input supply by the induction over the inputs. -/
theorem fieldInputsAndPairs : Obligations.FieldInputsAndPairs := by
  unfold Obligations.FieldInputsAndPairs
  refine ⟨?alone, ?first, ?second, ?invalid, ?invalidPair, ?timeout, ?supply, ?missing, ?clear⟩
  case alone =>
    intro t i level s ⟨h1, h48, hlen⟩ hp hs ht hpair hq
    have hacc : (s.advance t).inputAccept i level = (s.advance t).inputChange i ((s.advance t).accepted i level) := by
      rw [State.inputAccept, show (s.advance t).pairOf i = none from hpair]
      rfl
    refine ⟨_, exec_inputFilterAccept_of_held t ⟨h1, h48⟩ hp hs ht, ?_, ?_⟩
    · rw [hacc, State.inputChange_of_room (s := s.advance t) hq]
      rfl
    · rw [hacc]
      exact (State.inputChange_keeps _ _ rfl (.refl _ _)).frame
  case first =>
    intro t i p c s ⟨h1, h48, hlen⟩ hp hs ht ⟨hpair, hple, h1p⟩ ⟨hoff, hkind⟩ hc hq
    have safe := State.contactSafe_inputChange (s := s.advance t) (x := (s.advance t).accepted i true) ⟨h1, h48, hlen⟩ rfl hkind hc
    have hacc : (s.advance t).inputAccept i true = _ := (State.inputAccept_of_pair (s := s.advance t) hpair).trans
      (State.pairChange_of_first (time := (s.advance t).acceptTime i) (by rw [State.pair_inputChange]; exact hoff) safe)
    obtain ⟨inp, pair, sources, field⟩ := State.setPair_inputWithPair (s := s.advance t) (i := i) (p := p)
      (x := (s.advance t).accepted i true) (y := ⟨.waitOn, c, (s.advance t).acceptTime i⟩)
      (time := (s.advance t).acceptTime i) ⟨h1, h48, hlen⟩ ⟨h1p, hple⟩ hq rfl
    refine ⟨_, exec_inputFilterAccept_of_held t ⟨h1, h48⟩ hp hs ht, ?_⟩
    rw [hacc]
    exact ⟨pair, inp, sources, field,
      (State.setPair_keeps _ _ _ rfl (State.inputChange_keeps _ _ rfl (.refl _ _))).frame⟩
  case second =>
    intro t i p c s ⟨h1, h48, hlen⟩ hp hs ht ⟨hpair, hple, h1p⟩ ⟨hon, hfirst, hkind⟩ hc htime hq
    have safe := State.contactSafe_inputChange (s := s.advance t) (x := (s.advance t).accepted i true) ⟨h1, h48, hlen⟩ rfl hkind hc
    have hpr : ((s.advance t).inputChange i ((s.advance t).accepted i true)).pair p = s.pair p := State.pair_inputChange _
    have hen : ((s.advance t).inputChange i ((s.advance t).accepted i true)).pairEntry p = s.pairEntry p :=
      congrFun (State.pairEntry_of_adopted (State.adopted_inputChange (s := s.advance t) _)) p
    have hacc : (s.advance t).inputAccept i true = _ := (State.inputAccept_of_pair (s := s.advance t) hpair).trans
      (State.pairChange_of_second (time := (s.advance t).acceptTime i) (by rw [hpr]; exact hon) (by rw [hpr]; exact hfirst) safe
        (by rw [hpr, hen]; exact htime))
    rw [hpr] at hacc
    obtain ⟨inp, pair, sources, field⟩ := State.setPair_inputWithPair (s := s.advance t) (i := i) (p := p)
      (x := (s.advance t).accepted i true) (y := { s.pair p with state := .on })
      (time := (s.advance t).acceptTime i) ⟨h1, h48, hlen⟩ ⟨h1p, hple⟩ hq rfl
    refine ⟨_, exec_inputFilterAccept_of_held t ⟨h1, h48⟩ hp hs ht, ?_⟩
    rw [hacc]
    exact ⟨pair, inp, sources, field,
      (State.setPair_keeps _ _ _ rfl (State.inputChange_keeps _ _ rfl (.refl _ _))).frame⟩
  case invalid =>
    intro t i s ⟨h1, h48, hlen⟩ hp hv hq hpair
    have hlost : (s.advance t).inputInvalid i =
        ((s.advance t).inputChange i (s.advance t).lostInput).raise evFiInputInvalid i 0 := by
      rw [State.inputInvalid_of_valid (s := s.advance t) hv, show (s.advance t).pairOf i = none from hpair]
      rfl
    refine ⟨_, exec_inputInvalid_of_powered t ⟨h1, h48⟩ hp, ?_, ?_, (State.inputInvalid_keeps _ rfl (.refl _ _)).frame⟩
    · rw [hlost, State.inputChange_of_room (s := s.advance t) hq]
      rfl
    · exact (State.inputInvalid_lost (s := s.advance t) hv).told
  case invalidPair =>
    intro t i p c s ⟨h1, h48, hlen⟩ hp hv hq ⟨hpair, h1p, hple⟩ hne
    have hpr : (((s.advance t).inputChange i (s.advance t).lostInput).raise evFiInputInvalid i 0).pair p = s.pair p :=
      State.pair_inputChange (s := s.advance t) _
    have hlost : (s.advance t).inputInvalid i = _ := (State.inputInvalid_of_valid (s := s.advance t) hv).trans
      (by rw [show (s.advance t).pairOf i = some (p, c) from hpair])
    have hdisc : (s.advance t).inputInvalid i = _ := hlost.trans (State.pairDiscrepancy_of_agreeing (by rw [hpr]; exact hne))
    rw [hpr] at hdisc
    obtain ⟨inp, pair, -, field⟩ := (State.setPair_inputWithPair (s := s.advance t) (i := i) (p := p)
      (u := ((s.advance t).inputChange i (s.advance t).lostInput).raise evFiInputInvalid i 0)
      (x := (s.advance t).lostInput) (y := { s.pair p with state := .discrepancy }) (time := (s.advance t).engineTime)
      ⟨h1, h48, hlen⟩ ⟨h1p, hple⟩ hq rfl).of_field ((congrArg State.field hdisc).trans (State.raise_field ..))
    refine ⟨_, exec_inputInvalid_of_powered t ⟨h1, h48⟩ hp, inp, pair,
      (State.inputInvalid_lost (s := s.advance t) hv).told, ?_, field, (State.inputInvalid_keeps _ rfl (.refl _ _)).frame⟩
    rw [hdisc]
    exact raised_of_raise (((State.setPair_keeps (l := [.field, .log]) _ _ _ rfl (State.raise_keeps _ _ _ rfl
      (State.inputChange_keeps _ _ rfl (.refl _ (s.advance t))))).frame .lane (by decide)))
  case timeout =>
    intro t p s ⟨h1, h24, hlen⟩ hp hw ht hq
    have hne : ((s.advance t).pair p).state ≠ .discrepancy := by
      rcases hw with hw | hw <;> exact fun h => absurd (hw.symm.trans h) (by decide)
    obtain ⟨value, e⟩ := State.setPair_of_room (s := s.advance t) (p := p)
      (y := { (s.advance t).pair p with state := .discrepancy }) (time := s.pairLimit p) hq
    refine ⟨_, exec_pairDiscrepancyTimeout_of_due t ⟨h1, h24⟩ hp hw ht, ?_, ?_, ?_,
      (State.pairDiscrepancy_keeps _ _ _ rfl (.refl _ _)).frame⟩
    · rw [State.pairDiscrepancy_of_agreeing hne, e]
      rfl
    · rw [State.pairDiscrepancy_of_agreeing hne, e]
      simp [FieldPart.withItem, FieldPart.withPair, Item.form]
    · rw [State.pairDiscrepancy_of_agreeing hne, e]
      exact raised_of_raise rfl
  case supply =>
    intro t n st s ⟨hn, hst, hlen⟩ hp hs hin hq
    obtain ⟨formed, sources⟩ := State.supplyItem_of_room (s := (s.advance t).takeSupply n st) hq
    have ho : ((s.advance t).supplyChange n st).field = (((s.advance t).takeSupply n st).supplyItem).field :=
      State.tellSupply_sameBut _ .field (by decide)
    have field : ((s.advance t).supplyChange n st).field = _ := State.supplyChange_field
    refine ⟨_, (exec_fieldSupplyChange_of_new t ⟨hn, hst⟩ hp hs).trans (if_neg (by omega)), ?_, fun h0 => ?_, fun h0 h2 => ?_,
      ?_, ?_, State.supplyChange_counts, State.supplyChange_tells (s := s.advance t),
      State.supplyChange_regsBut (s.advance t), State.supplyChange_sameBut _⟩
    · have back : ((s.advance t).supplyChange n st).field.backAt = _ := congrArg FieldPart.backAt field
      have held : ((s.advance t).supplyChange n st).field.notFormed = s.field.notFormed :=
        (congrArg FieldPart.notFormed ho).trans formed
      rw [back]
      refine field.trans ?_
      rw [held]
      rfl
    · rw [field]
      exact if_neg fun h => h0 h.1
    · rw [field]
      exact if_pos ⟨h0, h2⟩
    · rw [ho]
      exact sources
    · rw [field]
      rfl
  case missing =>
    intro t n st s ⟨hn, hst, hlen⟩ hp hs ⟨h0, h2, hins⟩
    have field : ((s.advance t).supplyChange n st).field = _ := State.supplyChange_field
    have inp (i : Nat) : ((s.advance t).supplyChange n st).inp i = s.inp i := by
      rw [State.inp, field]
      rfl
    have frame : sameBut [.field, .regs, .log] (s.advance t) ((s.advance t).supplyChange n st) := State.supplyChange_sameBut _
    have lane : ((s.advance t).supplyChange n st).lane = s.lane := frame .lane (by decide)
    obtain ⟨-, lost, told, -, outs, supplies, due, kept⟩ :=
      State.inputsLost (n := 48) (s := (s.advance t).supplyChange n st) (by rw [field]; exact hins.ge)
    refine ⟨_, (exec_fieldSupplyChange_of_new t ⟨hn, hst⟩ hp hs).trans (if_pos ⟨h0, h2⟩), lost, fun i h1 hi hv => ?_, ?_, ?_,
      ?_, fun hu => ?_, ?_, sameBut_trans frame (sameBut_mono kept (by decide))⟩
    · exact lane ▸ told i h1 hi ((inp i).symm ▸ hv)
    · rw [outs, field]
      rfl
    · rw [supplies, field]
      rfl
    · exact (State.getF_of_regs (kept .regs (by decide)) ..).trans State.supplyChange_counts
    · exact raised_mono (State.supplyChange_tells (s := s.advance t) hu) due
    · exact regsBut_trans (State.supplyChange_regsBut (s.advance t)) (regsBut_of_regs (kept .regs (by decide)))
  case clear =>
    intro t m n s hr hn
    exact ⟨_, if_pos (by simpa [hn] using hr), rfl, (Keeps.upd_field _ rfl (.refl _ _)).frame⟩

end Sys2Proof.Machine

/-!
# A test step that fails while the time slews
-/

namespace Sys2Proof.Machine
open Sys2Proof.Safety

/-- Step N2 of a test of output 1's branch A-B has run its 100 µs at local time 100 000 ns, while a time offset is being slewed away
(R157). -/
def slewingTest : State :=
  { time := { slew := 1 }
    field := { powered := true, test := some { out := 1, branch := 0, step := .n2, began := 0 } } }

/-- Two free values are used up: the slew rate as the clock runs on (`State.advance`), and the switch that the failed step names. -/
theorem slewingTest_fails :
    ∃ s', exec (.testStepEnd 100000 true false) slewingTest = .next s' ∧ s'.free = slewingTest.free + 2 := ⟨_, rfl, rfl⟩

/-- Refutes O30: in `slewingTest` the failed N2 leaves `free` two higher. The statement's clause for a failed N2 has it one higher
than in the state before the command, though the clock itself uses a free value wherever an offset is being slewed away. -/
theorem not_fieldOutputs : ¬ Obligations.FieldOutputs := by
  unfold Obligations.FieldOutputs
  rintro ⟨-, -, -, -, -, -, -, -, -, -, -, -, -, -, -, -, -, -, -, -, -, -, -, failedN2, -⟩
  obtain ⟨s', e, -, -, -, -, hfree, -⟩ := failedN2 100000 false _ slewingTest ⟨rfl, by decide, by decide, rfl⟩ ⟨rfl, rfl⟩
    (by decide) (by decide)
  obtain ⟨u, e', hu⟩ := slewingTest_fails
  cases Host.Outcome.next.inj (e.symm.trans e')
  rw [hu] at hfree
  exact absurd hfree (by decide)

end Sys2Proof.Machine

/-!
# Field links and frames

The frames between the masts and the field engine (R221 to R225), the silence of links and positions (R240, R241), and the votes
that a change of commands forms again (R233).
-/

namespace Sys2Proof.Machine
open Sys2Proof.Safety

/-! ### Positions and links -/

section
variable (f : FieldPart) (p q : LanePos) (x : FieldPos)

@[simp] theorem FieldPart.pos_setPos_same : (f.setPos p x).pos p = x := by cases p <;> rfl

variable {p q} in
theorem FieldPart.pos_setPos_other (h : q ≠ p) : (f.setPos p x).pos q = f.pos q := by
  cases p <;> cases q
  case a.a | b.b | c.c => exact absurd rfl h
  all_goals rfl

/-- The links keep their positions where the positions keep their links. -/
theorem FieldPart.posOfLink_of_links {f g : FieldPart} (h : ∀ p, (g.pos p).link = (f.pos p).link) (m : Mast) :
    g.posOfLink m = f.posOfLink m := by
  have hA : g.posA.link = f.posA.link := h .a
  have hB : g.posB.link = f.posB.link := h .b
  have hC : g.posC.link = f.posC.link := h .c
  simp only [FieldPart.posOfLink, hA, hB, hC]

theorem lanePos_mem (p : LanePos) : p ∈ [LanePos.a, .b, .c] := by cases p <;> decide

end

/-! ### The registers that show the field engine -/

section
variable {s t : State} {l : List (Copy × Nat)}

theorem regsBut_putF_after {c : Copy} {f : Fld} {v : Nat} (h : regsBut l s t) (ha : f.addr < 2 ^ 32) (hm : (c, f.addr) ∈ l) :
    regsBut l s (t.putF c f v) := regsBut_trans h (regsBut_putF t c f v ha hm)

@[simp] theorem State.showField_field (s : State) : s.showField.field = s.field := rfl
theorem State.showField_out (s : State) : s.showField.out = s.out := rfl
theorem State.showField_commands (s : State) : s.showField.commands = s.commands := rfl
theorem State.showField_votedOn (s : State) : s.showField.votedOn = s.votedOn := rfl

theorem State.showField_sameBut (s : State) : sameBut [.regs] s s.showField := (State.showField_keeps rfl (.refl _ s)).frame

/-- Showing the field engine writes `FI_XBAR` and `FI_STAT`. -/
theorem State.showField_regsBut (s : State) : regsBut [(.agreed, rFiStat), (.agreed, rFiXbar)] s s.showField := by
  have xbar : (.agreed, rFiXbar) ∈ [(Copy.agreed, rFiStat), (.agreed, rFiXbar)] := by decide
  have stat : (.agreed, rFiStat) ∈ [(Copy.agreed, rFiStat), (.agreed, rFiXbar)] := by decide
  exact regsBut_putF_after (regsBut_putF_after (regsBut_putF_after (regsBut_putF_after (regsBut_putF_after
    (regsBut_putF_after (regsBut_putF_after (regsBut_putF s .agreed fFiXbarPosA _ (by decide) xbar) (by decide) xbar)
      (by decide) xbar) (by decide) xbar) (by decide) stat) (by decide) stat) (by decide) stat) (by decide) stat

theorem State.showField_configured (s : State) : s.showField.getF .agreed fFiStatConfigured = b2n s.field.adopted.isSome := by
  refine (State.getF_putF _ .agreed fFiStatConfigured _ (by decide) (by decide)).trans (Nat.mod_eq_of_lt ?_)
  cases s.field.adopted.isSome <;> decide

/-- A register of a mast, or an agreed one other than the two, reads as before the field engine is shown. -/
theorem State.showField_getF {c : Copy} {f : Fld} (s : State) (ha : f.addr < 2 ^ 32)
    (hn : (c, f.addr) ∉ [(Copy.agreed, rFiStat), (.agreed, rFiXbar)]) : s.showField.getF c f = s.getF c f :=
  State.getF_of_regsBut s.showField_regsBut ha hn

end

/-! ### A link falls silent (R240) -/

section
variable {s : State} (f : FieldPart) (m : Mast) (now : Nat)

/-- The link is silent since the first time it fell so, and its position has been without a source since then. -/
def FieldPart.loseLink : FieldPart :=
  let l := f.links.get m
  let g := { f with links := f.links.set m { l with valid := false, silent := some (l.silent.getD now) } }
  (f.posOfLink m).elim g fun p => g.setPos p { f.pos p with lostAt := some ((f.pos p).lostAt.getD now) }

/-- Of the field engine a lost link changes the links and the positions alone. -/
theorem FieldPart.loseLink_eq : f.loseLink m now =
    { f with
      links := (f.loseLink m now).links, posA := (f.loseLink m now).posA, posB := (f.loseLink m now).posB
      posC := (f.loseLink m now).posC } := by
  unfold FieldPart.loseLink
  cases f.posOfLink m with
  | none => rfl
  | some p => cases p <;> rfl

theorem FieldPart.loseLink_set : (f.loseLink m now).links =
    f.links.set m { f.links.get m with valid := false, silent := some ((f.links.get m).silent.getD now) } := by
  unfold FieldPart.loseLink
  cases f.posOfLink m with
  | none => rfl
  | some p => cases p <;> rfl

theorem FieldPart.loseLink_pos (p : LanePos) : (f.loseLink m now).pos p =
    if f.posOfLink m = some p then { f.pos p with lostAt := some ((f.pos p).lostAt.getD now) } else f.pos p := by
  unfold FieldPart.loseLink
  cases f.posOfLink m with
  | none => rfl
  | some q =>
    by_cases h : p = q
    · subst h
      rw [if_pos rfl]
      exact FieldPart.pos_setPos_same _ p _
    · rw [if_neg fun e => h (Option.some.inj e).symm]
      exact FieldPart.pos_setPos_other _ _ h

theorem FieldPart.loseLink_link : (f.loseLink m now).links.get m =
    { f.links.get m with valid := false, silent := some ((f.links.get m).silent.getD now) } := by
  rw [FieldPart.loseLink_set]
  exact per_get_set_same _ _ _

theorem FieldPart.loseLink_links : ∀ o, o ≠ m → (f.loseLink m now).links.get o = f.links.get o := by
  intro o ho
  rw [FieldPart.loseLink_set]
  exact per_get_set_other _ _ _ _ ho

variable {m}

theorem State.linkSilent_eq : s.linkSilent m = State.showField { s with field := s.field.loseLink m s.now } := by
  unfold State.linkSilent
  extract_lets l l' f u v
  have same : u.field.posOfLink m = s.field.posOfLink m := rfl
  have lost : v = { s with field := s.field.loseLink m s.now } := by
    unfold v FieldPart.loseLink
    rw [same]
    cases s.field.posOfLink m with
    | none => rfl
    | some p => cases p <;> rfl
  rw [lost]

/-- A rejected frame is counted and noted, and the link falls silent. -/
theorem State.linkReject_field : (s.linkReject m).field = s.field.loseLink m s.now := by
  rw [State.linkReject, State.linkSilent_eq, State.showField_field]
  dsimp only
  rw [State.noteSummary_field, State.noteSummary_now]
  rfl

theorem State.linkReject_counts :
    (s.linkReject m).getF (.mast m) fFiLinkEngerr = min 65535 (s.getF (.mast m) fFiLinkEngerr + 1) := by
  rw [State.linkReject, State.linkSilent_eq, State.showField_getF _ (by decide) (by simp)]
  exact (State.getF_of_regs (State.noteSummary_regs ..) ..).trans
    (State.getF_incF_half s _ _ _ (by decide) (by decide) rfl)

theorem State.linkReject_regsBut :
    regsBut [(.agreed, rFiStat), (.agreed, rFiXbar), (.mast m, rFiLink)] s (s.linkReject m) := by
  have counted : regsBut [(.agreed, rFiStat), (.agreed, rFiXbar), (.mast m, rFiLink)] s (s.incF (.mast m) fFiLinkEngerr 1) :=
    regsBut_putF s _ _ _ (by decide) (by simp [fFiLinkEngerr, rFiLink])
  have noted : ((s.incF (.mast m) fFiLinkEngerr 1).noteSummary 0 evFiLinkErr m.code).regs = _ := State.noteSummary_regs ..
  rw [State.linkReject, State.linkSilent_eq]
  refine regsBut_trans counted (regsBut_trans (regsBut_of_regs noted) (regsBut_trans (regsBut_of_regs ?_)
    (regsBut_mono (State.showField_regsBut _) (by simp))))
  rfl

end

/-! ### Outputs one by one (R232, R233, R246) -/

section
variable {s u v : State} {o : Nat}

theorem State.setOut_out_same (x : FieldOut) (ho : 1 ≤ o ∧ o ≤ s.field.outs.length) : (s.setOut o x).out o = x := by
  rw [State.out, State.setOut]
  dsimp only
  rw [List.getElem?_set_self (by omega)]
  rfl

/-- The field engine `f` with what a vote may change as it is in `g`: the outputs, the test and the items that wait. -/
def FieldPart.votedAs (f g : FieldPart) : FieldPart :=
  { f with
    outs := g.outs, test := g.test, queue := g.queue, seqs := g.seqs, queueFull := g.queueFull, notFormed := g.notFormed }

/-- Output `o` has taken part in a vote: of the outputs it alone may have changed, and else the test and the items that wait. -/
structure OutVoted (o : Nat) (s u : State) : Prop where
  field : u.field = s.field.votedAs u.field
  length : u.field.outs.length = s.field.outs.length
  others : ∀ k, 1 ≤ k → 1 ≤ o → k ≠ o → u.out k = s.out k

theorem OutVoted.refl (o : Nat) (s : State) : OutVoted o s s := ⟨rfl, rfl, fun _ _ _ _ => rfl⟩

theorem FieldPart.votedAs_trans {f g h : FieldPart} (hg : g = f.votedAs g) (hh : h = g.votedAs h) : h = f.votedAs h := by
  rw [hg] at hh
  exact hh

theorem OutVoted.trans (h : OutVoted o s u) (g : OutVoted o u v) : OutVoted o s v :=
  ⟨FieldPart.votedAs_trans h.field g.field, g.length.trans h.length,
    fun k hk ho hne => (g.others k hk ho hne).trans (h.others k hk ho hne)⟩

/-- What leaves the outputs as they were, and else changes no more than a vote may. -/
theorem OutVoted.of_field (hf : u.field = s.field.votedAs u.field) (ho : u.field.outs = s.field.outs) : OutVoted o s u :=
  ⟨hf, congrArg List.length ho, fun k _ _ _ => by rw [State.out, ho, State.out]⟩

theorem State.setOut_outVoted (s : State) (o : Nat) (x : FieldOut) : OutVoted o s (s.setOut o x) := by
  refine ⟨rfl, List.length_set, fun k hk ho hne => ?_⟩
  rw [State.out, State.setOut]
  dsimp only
  rw [List.getElem?_set_ne (by omega)]
  rfl

theorem State.fieldItem_outs {source time : Nat} {value : List Byte} :
    (s.fieldItem source time value).field.outs = s.field.outs := by
  rw [State.fieldItem_field]

theorem State.outItem_outVoted (s : State) (o k : Nat) : OutVoted k s (s.outItem o) := by
  refine .of_field ?_ State.fieldItem_outs
  unfold State.outItem
  by_cases h : 512 ≤ s.field.queue.length
  · rw [State.fieldItem_of_full h]
    rfl
  · rw [State.fieldItem_of_room (Nat.not_le.1 h)]
    rfl

theorem State.outItem_out (s : State) (o k : Nat) : (s.outItem o).out k = s.out k := by
  rw [State.out, State.outItem, State.fieldItem_outs, State.out]

/-- A test of output `o` that is discarded marks it, and no other. -/
theorem State.discardTest_outVoted (s : State) (n : Nat) (h : ∀ y, s.field.test = some y → y.out = o) :
    OutVoted o s (s.discardTest n) ∧
      (1 ≤ o ∧ o ≤ s.field.outs.length → ((s.discardTest n).out o).voted = (s.out o).voted) := by
  unfold State.discardTest
  cases hx : s.field.test with
  | none => exact ⟨.refl o s, fun _ => rfl⟩
  | some x =>
    obtain rfl := h x hx
    dsimp -zeta only
    extract_lets y f u v w
    have hu : OutVoted x.out s u := .of_field rfl rfl
    have hv : OutVoted x.out u v := u.setOut_outVoted _ _
    have hw : w.field = v.field := State.incF_field ..
    have hr : (w.raiseLimited w.lane.active.mask x.out evFiTestDiscarded x.out n).field = v.field :=
      (State.raiseLimited_field ..).trans hw
    have noted : OutVoted x.out v (w.raiseLimited w.lane.active.mask x.out evFiTestDiscarded x.out n) :=
      .of_field (by rw [hr]; rfl) (congrArg FieldPart.outs hr)
    refine ⟨((hu.trans hv).trans noted).trans (State.outItem_outVoted _ _ _), fun ho => ?_⟩
    have marked : v.out x.out = { y with testBranch := x.branch, testResult := 3, testDark := x.step == .dark } :=
      State.setOut_out_same (s := u) _ ho
    rw [State.outItem_out, State.out, hr]
    show (v.out x.out).voted = y.voted
    rw [marked]

/-- The output as its voted command turns (R232). -/
def FieldOut.turned (x : FieldOut) (on : Bool) : FieldOut :=
  let x := { x with voted := on }
  if on then (if x.locked && x.wasOff then { x with locked := false, wasOff := false, retries := 0 } else x)
  else { x with retries := 0, wasOff := x.locked }

theorem FieldOut.turned_voted (x : FieldOut) (on : Bool) : (x.turned on).voted = on := by
  unfold FieldOut.turned
  dsimp only
  split
  · split <;> rfl
  · rfl

/-- A test of the output gives way to the change of its voted command (R239). -/
def State.testGivesWay (s : State) (o : Nat) (on : Bool) (before : List Bool) : State :=
  match s.field.test with
  | some y =>
    if y.out ≠ o then s
    else if !on then s.discardTest 1
    else { s with field := { s.field with test := some { y with energise := true, held := before } } }
  | none => s

theorem State.votedChange_eq (on : Bool) (before : List Bool) :
    s.votedChange o on before = ((s.setOut o ((s.out o).turned on)).testGivesWay o on before).outItem o := rfl

theorem State.testGivesWay_outVoted (s : State) (o : Nat) (on : Bool) (before : List Bool) :
    OutVoted o s (s.testGivesWay o on before) ∧
      (1 ≤ o ∧ o ≤ s.field.outs.length → ((s.testGivesWay o on before).out o).voted = (s.out o).voted) := by
  unfold State.testGivesWay
  cases hy : s.field.test with
  | none => exact ⟨.refl o s, fun _ => rfl⟩
  | some y =>
    dsimp only
    split
    · exact ⟨.refl o s, fun _ => rfl⟩
    · next ho =>
      split
      · exact s.discardTest_outVoted 1 fun z hz => by
          cases hy.symm.trans hz
          exact not_not.1 ho
      · exact ⟨.of_field rfl rfl, fun _ => rfl⟩

/-- The vote of one output changes it alone, and leaves it voted on as the change says. -/
theorem State.votedChange_outVoted (s : State) (o : Nat) (on : Bool) (before : List Bool) :
    OutVoted o s (s.votedChange o on before) ∧
      (1 ≤ o ∧ o ≤ s.field.outs.length → ((s.votedChange o on before).out o).voted = on) := by
  rw [State.votedChange_eq]
  have set := s.setOut_outVoted o ((s.out o).turned on)
  obtain ⟨gave, kept⟩ := (s.setOut o ((s.out o).turned on)).testGivesWay_outVoted o on before
  refine ⟨(set.trans gave).trans (State.outItem_outVoted _ _ _), fun ho => ?_⟩
  calc _ = (((s.setOut o ((s.out o).turned on)).testGivesWay o on before).out o).voted :=
        congrArg FieldOut.voted (State.outItem_out _ _ _)
    _ = ((s.setOut o ((s.out o).turned on)).out o).voted := kept (by rw [set.length]; exact ho)
    _ = on := by rw [State.setOut_out_same _ ho, FieldOut.turned_voted]

end

/-! ### All votes (R233) -/

section
variable {s u : State} {before : Nat → List Bool} {n o : Nat}

/-- What a vote changes is no part of the commands. -/
theorem State.commands_of_voted (h : u.field = s.field.votedAs u.field) : u.commands = s.commands := by
  funext p o
  have hp : u.field.pos p = s.field.pos p := by
    rw [h]
    cases p <;> rfl
  have hs : u.silenceOf o = s.silenceOf o := by
    rw [State.silenceOf, h]
    rfl
  have hpow : u.field.powered = s.field.powered := by rw [h]; rfl
  simp only [State.commands, hp, hs, hpow]

theorem State.votedOn_of_commands (h : u.commands = s.commands) : u.votedOn = s.votedOn := by
  funext o
  rw [State.votedOn, h]
  rfl

/-- The change of any command of an output is timed. -/
def State.timeChange (before : Nat → List Bool) (s : State) (o : Nat) : State :=
  if s.allCommands o = before o then s else s.setOut o { s.out o with changed := s.now }

/-- One output's vote is formed again. -/
def State.voteOut (before : Nat → List Bool) (s : State) (o : Nat) : State :=
  let u := s.timeChange before o
  if u.votedOn o = (u.out o).voted then u else u.votedChange o (u.votedOn o) (before o)

theorem State.revote_eq : s.revote before = (List.range 24).foldl (fun s k => s.voteOut before (k + 1)) s := rfl

theorem State.timeChange_outVoted (s : State) (o : Nat) : OutVoted o s (s.timeChange before o) := by
  unfold State.timeChange
  split
  · exact .refl o s
  · exact s.setOut_outVoted _ _

theorem State.voteOut_outVoted (s : State) (o : Nat) :
    OutVoted o s (s.voteOut before o) ∧
      (1 ≤ o ∧ o ≤ s.field.outs.length → ((s.voteOut before o).out o).voted = s.votedOn o) := by
  have timed := s.timeChange_outVoted (before := before) o
  have same : (s.timeChange before o).votedOn o = s.votedOn o :=
    congrFun (State.votedOn_of_commands (State.commands_of_voted timed.field)) o
  unfold State.voteOut
  dsimp only
  split
  · next h => exact ⟨timed, fun _ => h.symm.trans same⟩
  · obtain ⟨changed, voted⟩ := (s.timeChange before o).votedChange_outVoted o ((s.timeChange before o).votedOn o) (before o)
    exact ⟨timed.trans changed, fun ho => (voted (by rw [timed.length]; exact ho)).trans same⟩

/-- The outputs up to `n` are voted on as the positions command, and nothing has changed but what votes may. -/
structure VotedUpTo (n : Nat) (s u : State) : Prop where
  field : u.field = s.field.votedAs u.field
  length : u.field.outs.length = s.field.outs.length
  voted : n ≤ s.field.outs.length → ∀ o, 1 ≤ o → o ≤ n → (u.out o).voted = s.votedOn o

theorem State.votes_upTo (s : State) (n : Nat) :
    VotedUpTo n s ((List.range n).foldl (fun s k => s.voteOut before (k + 1)) s) := by
  induction n with
  | zero => exact ⟨rfl, rfl, fun _ o h1 h0 => absurd h0 (by omega)⟩
  | succ n ih =>
    rw [List.range_succ, List.foldl_append, List.foldl_cons, List.foldl_nil]
    obtain ⟨field, length, voted⟩ := ih
    set u := (List.range n).foldl (fun s k => s.voteOut before (k + 1)) s
    obtain ⟨⟨field', length', others⟩, here⟩ := u.voteOut_outVoted (before := before) (n + 1)
    refine ⟨FieldPart.votedAs_trans field field', length'.trans length, fun hn o h1 ho => ?_⟩
    obtain ho | rfl := Nat.le_succ_iff.1 ho
    · rw [others o h1 (by omega) (by omega)]
      exact voted (by omega) o h1 ho
    · rw [here ⟨by omega, by omega⟩, State.votedOn_of_commands (State.commands_of_voted field)]

theorem State.revote_voted (s : State) (before : Nat → List Bool) : VotedUpTo 24 s (s.revote before) := by
  rw [State.revote_eq]
  exact s.votes_upTo 24

/-- Once the votes are formed every output is voted on as the positions command it then. -/
theorem State.revote_votes (hl : s.field.outs.length = 24) :
    ∀ o, 1 ≤ o → o ≤ 24 → ((s.revote before).out o).voted = (s.revote before).votedOn o := by
  obtain ⟨field, -, voted⟩ := s.revote_voted before
  intro o h1 ho
  rw [voted hl.ge o h1 ho, State.votedOn_of_commands (State.commands_of_voted field)]

theorem State.revote_pos (p : LanePos) : (s.revote before).field.pos p = s.field.pos p := by
  rw [(s.revote_voted before).field]
  cases p <;> rfl

end

/-! ### A link is heard (R240) -/

section
variable {s : State} (f : FieldPart) (m : Mast) (l : FieldLink)

/-- The link as a valid frame leaves it: a silence whose timeout has not expired ends. -/
def FieldLink.heard : FieldLink := { l with valid := true, silent := if l.expired then l.silent else none }

theorem FieldLink.heard_of_alive {l : FieldLink} (h : l.expired = false) : l.heard = { l with valid := true, silent := none } := by
  simp [FieldLink.heard, h]

theorem FieldLink.heard_of_expired {l : FieldLink} (h : l.expired = true) : l.heard = { l with valid := true } := by
  simp [FieldLink.heard, h]

/-- The position `x` as a valid frame of its link leaves it: a source again, unless its timeout has passed or the link is new. -/
def FieldPos.heard (x : FieldPos) : FieldPos := if l.expired ∨ x.silence ∨ x.fresh then x else { x with lostAt := none }

/-- The link is heard, and so is its position. -/
def FieldPart.hearLink : FieldPart :=
  let g := { f with links := f.links.set m l.heard }
  (f.posOfLink m).elim g fun p => g.setPos p ((f.pos p).heard l)

@[simp] theorem FieldPart.setPos_pos (p : LanePos) : f.setPos p (f.pos p) = f := by cases p <;> rfl

theorem State.linkHeard_eq : s.linkHeard m l = { s with field := s.field.hearLink m l } := by
  unfold State.linkHeard
  extract_lets l' g u
  have same : u.field.posOfLink m = s.field.posOfLink m := rfl
  unfold FieldPart.hearLink
  rw [same]
  cases s.field.posOfLink m with
  | none => rfl
  | some p =>
    show (if _ then u else _) = { s with field := u.field.setPos p ((s.field.pos p).heard l) }
    have hp : u.field.pos p = s.field.pos p := by cases p <;> rfl
    rw [hp, FieldPos.heard]
    have he : l'.expired = l.expired := rfl
    rw [he]
    split
    · rw [← hp, FieldPart.setPos_pos]
    · rfl

/-- Of the field engine a link that is heard changes the links and the positions alone. -/
theorem FieldPart.hearLink_eq : f.hearLink m l =
    { f with
      links := (f.hearLink m l).links, posA := (f.hearLink m l).posA, posB := (f.hearLink m l).posB
      posC := (f.hearLink m l).posC } := by
  unfold FieldPart.hearLink
  cases f.posOfLink m with
  | none => rfl
  | some p => cases p <;> rfl

theorem FieldPart.hearLink_set : (f.hearLink m l).links = f.links.set m l.heard := by
  unfold FieldPart.hearLink
  cases f.posOfLink m with
  | none => rfl
  | some p => cases p <;> rfl

theorem FieldPart.hearLink_pos (p : LanePos) :
    (f.hearLink m l).pos p = if f.posOfLink m = some p then (f.pos p).heard l else f.pos p := by
  unfold FieldPart.hearLink
  cases f.posOfLink m with
  | none => rfl
  | some q =>
    by_cases h : p = q
    · subst h
      rw [if_pos rfl]
      exact FieldPart.pos_setPos_same _ p _
    · rw [if_neg fun e => h (Option.some.inj e).symm]
      exact FieldPart.pos_setPos_other _ _ h

theorem FieldPart.hearLink_link : (f.hearLink m l).links.get m = l.heard := by
  rw [FieldPart.hearLink_set]
  exact per_get_set_same _ _ _

theorem FieldPart.hearLink_links : ∀ o, o ≠ m → (f.hearLink m l).links.get o = f.links.get o := by
  intro o ho
  rw [FieldPart.hearLink_set]
  exact per_get_set_other _ _ _ _ ho

theorem FieldPos.heard_cases (x : FieldPos) : x.heard l = x ∨ x.heard l = { x with lostAt := none } := by
  unfold FieldPos.heard
  split
  · exact .inl rfl
  · exact .inr rfl

/-- Hearing a link leaves the commands, the silence and the link of every position. -/
theorem FieldPart.hearLink_pos_same (p : LanePos) : ((f.hearLink m l).pos p).cmd = (f.pos p).cmd ∧
    ((f.hearLink m l).pos p).silence = (f.pos p).silence ∧ ((f.hearLink m l).pos p).link = (f.pos p).link := by
  rw [FieldPart.hearLink_pos]
  split
  · rcases FieldPos.heard_cases l (f.pos p) with h | h <;> rw [h] <;> exact ⟨rfl, rfl, rfl⟩
  · exact ⟨rfl, rfl, rfl⟩

theorem FieldPart.hearLink_posOfLink : (f.hearLink m l).posOfLink m = f.posOfLink m :=
  FieldPart.posOfLink_of_links (fun p => (f.hearLink_pos_same m l p).2.2) m

theorem FieldPart.hearLink_adopted : (f.hearLink m l).adopted = f.adopted := by rw [FieldPart.hearLink_eq]

variable {l}

/-- A link whose timeout has expired changes no position. -/
theorem FieldPart.hearLink_pos_expired (h : l.expired = true) (p : LanePos) : (f.hearLink m l).pos p = f.pos p := by
  rw [FieldPart.hearLink_pos, FieldPos.heard, if_pos (Or.inl h), ite_self]

end

/-! ### The field engine's time, and what is adopted already -/

section
variable {s : State}

theorem State.formEngineTime_field : s.formEngineTime.field =
    { s.field with time := s.formEngineTime.field.time, timeAt := s.formEngineTime.field.timeAt } := by
  unfold State.formEngineTime
  dsimp only
  split <;> rfl

theorem State.tryAdopt_of_adopted (h : s.field.adopted.isSome = true) : s.tryAdopt = s := if_pos h

end

/-! ### A command frame is received (R224, R227, R229) -/

section
variable {s : State} {m : Mast} {bytes : List Byte} {p : LanePos}

/-- The link `l` with what a command frame says. -/
def FieldLink.commanded (l : FieldLink) (now : Nat) (bytes : List Byte) : FieldLink :=
  { l with
    seq := some (fieldAt bytes 2 2), at' := now, time := fieldAt bytes 4 4 * sec + fieldAt bytes 8 4 + Config.linkLatency
    onCur := fieldAt bytes 0xC 4, onAi := fieldAt bytes 0x10 4, lane := fieldAt bytes 0x14 1, cfgCrc := fieldAt bytes 0x18 4 }

/-- The field engine has heard a command frame and formed its time. -/
def State.hearCommands (s : State) (m : Mast) (bytes : List Byte) : State :=
  ({ s with field := s.field.hearLink m ((s.field.links.get m).commanded s.now bytes) }).formEngineTime

theorem State.hearCommands_field : (s.hearCommands m bytes).field =
    { s.field.hearLink m ((s.field.links.get m).commanded s.now bytes) with
      time := (s.hearCommands m bytes).field.time, timeAt := (s.hearCommands m bytes).field.timeAt } :=
  State.formEngineTime_field (s := { s with field := s.field.hearLink m ((s.field.links.get m).commanded s.now bytes) })

theorem State.hearCommands_pos (p : LanePos) : (s.hearCommands m bytes).field.pos p =
    (s.field.hearLink m ((s.field.links.get m).commanded s.now bytes)).pos p := by
  rw [State.hearCommands_field]
  cases p <;> rfl

theorem State.hearCommands_sameBut : sameBut [.field] s (s.hearCommands m bytes) :=
  (State.formEngineTime_keeps rfl (Keeps.upd_field _ rfl (.refl _ s))).frame

/-- A position takes what the frame commands, where the link is connected and in use. -/
def State.takeCommands (s : State) (p : LanePos) (l : FieldLink) : State :=
  if l.expired || ((s.field.pos p).silence && !(s.field.pos p).fresh) then s else s.posTake p l.onCur

theorem exec_commandFrameReceived_of_good (t : Nat) (hp : s.field.powered = true)
    (hf : frameOk m 0x43 32 bytes = true ∧ (s.field.links.get m).seqOk (fieldAt bytes 2 2) = true)
    (ha : s.field.adopted.isSome = true) : exec (.commandFrameReceived t m bytes) s =
      .next ((s.field.posOfLink m).elim ((s.advance t).hearCommands m bytes) fun p =>
        ((s.advance t).hearCommands m bytes).takeCommands p
          ((s.field.links.get m).commanded (max s.now t) bytes)).showField := by
  obtain ⟨hframe, hseq⟩ := hf
  dsimp -zeta only [exec, execCommandFrameReceived]
  extract_lets u l seq f l' v
  rw [if_neg (show ¬(!u.field.powered) = true by simp [u, hp]), if_neg (by
    simp only [hframe, show l.seqOk seq = true from hseq]
    decide)]
  have heard : v = (s.advance t).hearCommands m bytes := by
    unfold v
    rw [State.linkHeard_eq, State.tryAdopt_of_adopted]
    · rfl
    · exact (congrArg Option.isSome (FieldPart.hearLink_adopted ..)).trans ha
  have pos : v.field.posOfLink m = s.field.posOfLink m := by
    rw [heard, State.hearCommands_field]
    exact FieldPart.hearLink_posOfLink _ _ _
  rw [← pos, ← heard]
  clear_value v
  cases v.field.posOfLink m with
  | none => rfl
  | some p => exact (apply_ite (fun w : State => ok w.showField) _ v (v.posTake p l'.onCur)).symm

/-- What a position holds once it has taken commands. -/
def FieldPos.taking (x : FieldPos) (cmd : Nat) : FieldPos :=
  { x with
    cmd := cmd, fresh := false
    silence := if x.fresh then false else x.silence, lostAt := if x.fresh then none else x.lostAt }

theorem State.posTake_eq {cmd : Nat} (ha : s.field.adopted.isSome = true) : s.posTake p cmd =
    ({ s with field := s.field.setPos p ((s.field.pos p).taking (cmd % 2 ^ 24)) }).revote s.allCommands := by
  unfold State.posTake
  dsimp only
  rw [if_pos ha]
  cases hfresh : (s.field.pos p).fresh
  · simp [FieldPos.taking, hfresh]
  · simp [FieldPos.taking, hfresh]

end

/-! ### What a rejected frame leaves (R240) -/

section
variable {s : State} {m : Mast} {bytes : List Byte} (t : Nat)

/-- The link has lost its sequence. -/
def State.forgetSeq (s : State) (m : Mast) : State :=
  { s with field := { s.field with links := s.field.links.set m { s.field.links.get m with seq := none } } }

theorem exec_commandFrameReceived_of_bad (hp : s.field.powered = true)
    (hf : frameOk m 0x43 32 bytes = false ∨ (s.field.links.get m).seqOk (fieldAt bytes 2 2) = false) :
    exec (.commandFrameReceived t m bytes) s = .next (((s.advance t).forgetSeq m).linkReject m) := by
  refine (if_neg (by simp [hp])).trans (if_pos ?_)
  rcases hf with h | h <;> simp [h]

theorem exec_configFrameReceived_of_bad (hp : s.field.powered = true)
    (hf : frameOk m 0x47 44 bytes = false ∨ (s.field.links.get m).seqOk (fieldAt bytes 2 2) = false ∨ 15 < fieldAt bytes 4 1) :
    exec (.configFrameReceived t m bytes) s = .next (((s.advance t).forgetSeq m).linkReject m) := by
  refine (if_neg (by simp [hp])).trans (if_pos ?_)
  rcases hf with h | h | h <;> simp [h]

/-- Of a link without its sequence that falls silent: the link, its position, and nothing else of the field engine. -/
theorem FieldPart.loseLink_forgotten (f : FieldPart) (now : Nat) :
    let g := ({ f with links := f.links.set m { f.links.get m with seq := none } } : FieldPart).loseLink m now
    g.links.get m = { f.links.get m with
      seq := none, valid := false, silent := some ((f.links.get m).silent.getD now) } ∧
    (∀ p, g.pos p =
      if f.posOfLink m = some p then { f.pos p with lostAt := some ((f.pos p).lostAt.getD now) } else f.pos p) ∧
    g.outs = f.outs ∧ g.adopted = f.adopted ∧ ∀ o, o ≠ m → g.links.get o = f.links.get o := by
  intro g
  have eq : g = _ := FieldPart.loseLink_eq _ m now
  refine ⟨?_, fun p => ?_, ?_, ?_, fun o ho => ?_⟩
  · refine (FieldPart.loseLink_link _ m now).trans ?_
    rw [per_get_set_same]
  · refine (FieldPart.loseLink_pos _ m now p).trans ?_
    cases p <;> rfl
  · rw [eq]
  · rw [eq]
  · exact (FieldPart.loseLink_links _ m now o ho).trans (per_get_set_other _ _ _ _ ho)

theorem exists_rejected {c : Instr} (he : exec c s = .next (((s.advance t).forgetSeq m).linkReject m)) :
    ∃ s', exec c s = .next s' ∧ s'.field.links.get m =
      { s.field.links.get m with
        seq := none, valid := false, silent := some ((s.field.links.get m).silent.getD (max s.now t)) } ∧
      s'.getF (.mast m) fFiLinkEngerr = min 65535 (s.getF (.mast m) fFiLinkEngerr + 1) ∧
      (∀ p, s'.field.pos p = if s.field.posOfLink m = some p then
        { s.field.pos p with lostAt := some ((s.field.pos p).lostAt.getD (max s.now t)) } else s.field.pos p) ∧
      s'.field.outs = s.field.outs ∧ s'.field.adopted = s.field.adopted ∧
      (∀ o, o ≠ m → s'.field.links.get o = s.field.links.get o) ∧
      regsBut [(.agreed, rFiStat), (.agreed, rFiXbar), (.mast m, rFiLink)] s s' ∧
      sameBut [.field, .regs, .log] (s.advance t) s' := by
  obtain ⟨link, pos, outs, adopted, links⟩ := FieldPart.loseLink_forgotten (m := m) s.field (max s.now t)
  refine ⟨_, he, ?_⟩
  rw [show (((s.advance t).forgetSeq m).linkReject m).field = _ from State.linkReject_field]
  exact ⟨link, State.linkReject_counts, pos, outs, adopted, links,
    regsBut_trans (regsBut_of_regs rfl) State.linkReject_regsBut,
    (State.linkReject_keeps _ rfl (Keeps.upd_field _ rfl (.refl _ (s.advance t)))).frame⟩

end

/-! ### A configuration is delivered (R223) -/

section
variable {s : State} {m o : Mast} {bytes body : List Byte}

/-- The link `l` with what a configuration frame delivers. -/
def FieldLink.configured (l : FieldLink) (bytes : List Byte) : FieldLink :=
  { l with
    seq := some (fieldAt bytes 2 2)
    config := (fieldAt bytes 4 1, slice bytes 8 32) :: l.config.filter fun e => e.1 != fieldAt bytes 4 1 }

/-- The field engine has heard a configuration frame. -/
def State.hearConfig (s : State) (m : Mast) (bytes : List Byte) : State :=
  { s with field := s.field.hearLink m ((s.field.links.get m).configured bytes) }

theorem exec_configFrameReceived_of_good (t : Nat) (hp : s.field.powered = true)
    (hf : frameOk m 0x47 44 bytes = true ∧ (s.field.links.get m).seqOk (fieldAt bytes 2 2) = true ∧ fieldAt bytes 4 1 ≤ 15) :
    exec (.configFrameReceived t m bytes) s = .next ((s.advance t).hearConfig m bytes).tryAdopt.showField := by
  obtain ⟨hframe, hseq, hi⟩ := hf
  refine (if_neg (by simp [hp])).trans ((if_neg ?_).trans ?_)
  · simp [hframe, hseq, hi]
  · show ok (((s.advance t).linkHeard m ((s.field.links.get m).configured bytes)).tryAdopt.showField) = _
    rw [State.linkHeard_eq]
    rfl

/-- A configuration is adopted, and the module learns its CRC. -/
def State.adopt (s : State) (body : List Byte) : State :=
  let u := { s with field := { s.field with adopted := some (parseField body), adoptedCrc := (crc32c body).toNat } }
  (u.putF .agreed fFiCfgcrcCrc (crc32c body).toNat).putF .agreed fMcInhibitConfig 0

/-- The silence states of the outputs are shown. -/
def State.showSilence (s : State) (c : FieldConfig) : State :=
  c.outputs.zipIdx.foldl (fun s e => s.putF .agreed (fFiOutSilence.plus (4 * e.2)) e.1.1) s

/-- Two positions whose links have delivered one body, and no third link: the body is adopted. -/
theorem State.tryAdopt_of_delivered (ha : s.field.adopted = none)
    (hl : s.field.posA.link = some m ∧ s.field.posB.link = some o ∧ s.field.posC.link = none)
    (hm : (s.field.links.get m).delivered = some body ∧ (s.field.links.get m).cfgCrc = 0)
    (ho : (s.field.links.get o).delivered = some body ∧ (s.field.links.get o).cfgCrc = 0) :
    s.tryAdopt = ((s.adopt body).showSilence (parseField body)).fieldRegime.showField := by
  obtain ⟨hA, hB, hC⟩ := hl
  obtain ⟨hm, hmc⟩ := hm
  obtain ⟨ho, hoc⟩ := ho
  unfold State.tryAdopt
  rw [if_neg (by simp [ha])]
  simp only [List.filterMap_cons, List.filterMap_nil, hA, hB, hC, hm, ho, hmc, hoc, true_or, if_true, List.find?_cons,
    List.filter_cons, beq_self_eq_true, List.filter_nil, List.length_cons, List.length_nil]
  rfl

/-- With no test under way the regime changes alone, and is shown. -/
theorem State.fieldRegime_of_idle (h : s.field.test = none) :
    s.fieldRegime = s ∨ ∃ r, s.fieldRegime = State.showField { s with field := { s.field with regime := r } } := by
  unfold State.fieldRegime
  extract_lets r
  split
  · exact .inl rfl
  · refine .inr ⟨r, ?_⟩
    rw [State.discardTest]
    dsimp only
    rw [h]

/-- The registers that show the outputs. -/
def outRegs : List (Copy × Nat) := (List.range 24).map fun k => (.agreed, rFiOut + 4 * k)

theorem State.showSilence_regsBut (s : State) (body : List Byte) : regsBut outRegs s (s.showSilence (parseField body)) := by
  refine regsBut_foldl_mem (fun e he u => ?_) s
  have hk : e.2 < 24 := by
    have := List.snd_lt_of_mem_zipIdx he
    simpa [parseField] using this
  have haddr : (fFiOutSilence.plus (4 * e.2)).addr = rFiOut + 4 * e.2 := rfl
  refine regsBut_putF u _ _ _ ?_ ?_
  · rw [haddr, rFiOut]
    omega
  · rw [haddr]
    exact List.mem_map.2 ⟨e.2, List.mem_range.2 hk, rfl⟩

theorem State.showSilence_sameBut (s : State) (c : FieldConfig) : sameBut [.regs] s (s.showSilence c) :=
  (Keeps.fold (fun _ _ g => State.putF_keeps _ _ _ rfl g) (.refl _ s)).frame

/-- What an adoption with no test under way leaves. -/
structure Adopted (body : List Byte) (s u : State) : Prop where
  field : u.field = { s.field with
    adopted := some (parseField body), adoptedCrc := (crc32c body).toNat, regime := u.field.regime }
  crc : u.getF .agreed fFiCfgcrcCrc = (crc32c body).toNat
  inhibit : u.getF .agreed fMcInhibitConfig = 0
  frame : sameBut [.field, .regs] s u

theorem State.adopt_adopted (s : State) (body : List Byte) : Adopted body s (s.adopt body) := by
  refine ⟨rfl, ?_, ?_, ?_⟩
  · rw [State.adopt, State.getF_putF_key _ _ _ _ _ _ (regKey_ne (by decide) (by decide) (by decide)),
      State.getF_putF _ _ _ _ (by decide) (by decide)]
    exact Nat.mod_eq_of_lt (crc32c body).isLt
  · exact State.getF_putF _ .agreed fMcInhibitConfig 0 (by decide) (by decide)
  · exact (State.putF_keeps _ _ _ rfl (State.putF_keeps _ _ _ rfl (Keeps.upd_field _ rfl (.refl _ s)))).frame

theorem Adopted.showSilence {u : State} (h : Adopted body s u) : Adopted body s (u.showSilence (parseField body)) := by
  obtain ⟨field, crc, inhibit, frame⟩ := h
  have shown := u.showSilence_sameBut (parseField body)
  have hf : (u.showSilence (parseField body)).field = u.field := shown .field (by decide)
  refine ⟨by rw [hf]; exact field, ?_, ?_, sameBut_trans frame (sameBut_mono shown (by decide))⟩
  · exact (State.getF_of_regsBut (u.showSilence_regsBut body) (by decide) (by decide)).trans crc
  · exact (State.getF_of_regsBut (u.showSilence_regsBut body) (by decide) (by decide)).trans inhibit

theorem Adopted.showField {u : State} (h : Adopted body s u) : Adopted body s u.showField := by
  obtain ⟨field, crc, inhibit, frame⟩ := h
  exact ⟨field, (State.showField_getF u (by decide) (by decide)).trans crc,
    (State.showField_getF u (by decide) (by decide)).trans inhibit,
    sameBut_trans frame (sameBut_mono u.showField_sameBut (by decide))⟩

theorem Adopted.fieldRegime {u : State} (h : Adopted body s u) (ht : s.field.test = none) : Adopted body s u.fieldRegime := by
  have hu : u.field.test = none := by rw [h.field]; exact ht
  rcases State.fieldRegime_of_idle hu with e | ⟨r, e⟩ <;> rw [e]
  · exact h
  · obtain ⟨field, crc, inhibit, frame⟩ := h
    refine Adopted.showField ⟨?_, crc, inhibit, sameBut_trans frame (Keeps.upd_field _ rfl (.refl _ u)).frame⟩
    show { u.field with regime := r } = _
    rw [field]

/-- An adoption by two links that have delivered one body. -/
theorem State.tryAdopt_adopted (ha : s.field.adopted = none) (ht : s.field.test = none)
    (hl : s.field.posA.link = some m ∧ s.field.posB.link = some o ∧ s.field.posC.link = none)
    (hm : (s.field.links.get m).delivered = some body ∧ (s.field.links.get m).cfgCrc = 0)
    (ho : (s.field.links.get o).delivered = some body ∧ (s.field.links.get o).cfgCrc = 0) :
    Adopted body s s.tryAdopt := by
  rw [State.tryAdopt_of_delivered ha hl hm ho]
  exact ((s.adopt_adopted body).showSilence.fieldRegime ht).showField

end

/-! ### A mast sends its commands (R221 to R223, R228, R229) -/

section
variable {s u : State} {m : Mast} {damaged : List Nat}

/-- The image a mast's next commands come from: the decided one, or else the one in force. -/
def State.nextImage (s : State) : List Item := s.lane.decision.elim s.lane.inForce fun d => d.items

/-- The commands of mast `m` on the image in force. -/
def State.commandsNow (s : State) (m : Mast) (damaged : List Nat) : Nat :=
  s.positionCommands m s.lane.inForce (badOutputs s.lane.inForce ++ damaged)

/-- The commands of mast `m` from the next action instant on. -/
def State.commandsNext (s : State) (m : Mast) (damaged : List Nat) : Nat :=
  if s.lane.decision.isSome then s.positionCommands m s.nextImage (badOutputs s.nextImage ++ damaged) else s.commandsNow m damaged

/-- The output items of the next image that fail the mast's exit check. -/
def State.failedExits (s : State) (damaged : List Nat) : List Item :=
  if s.inMode [.run, .hold] then s.nextImage.filter fun i =>
    decide (0x8001 ≤ i.source ∧ i.source ≤ 0x8018) && (badOutputs s.nextImage ++ damaged).contains (i.source - 0x8001)
  else []

/-- The masts' exit checks have noted what fails. -/
def State.noteExits (s : State) (m : Mast) (damaged : List Nat) : State :=
  (s.failedExits damaged).foldl (fun s i => s.exitFail m i) s

/-- The field I/O block of a mast that has sent its commands. -/
def State.commandsSent (s : State) (m : Mast) (damaged : List Nat) : FieldMast :=
  { s.field.masts.get m with
    seq := ((s.field.masts.get m).seq + 1) % 65536
    lastFrame := commandFrame (s.senderByte m) (s.field.masts.get m).seq (s.time.tb.get m / 2 ^ 32) (s.commandsNow m damaged)
      (s.commandsNext m damaged) s.laneByte s.ownCfgCrc
    placed := s.commandsNow m damaged }

/-- The mast's commands have gone out, and `FI_OUTCMD` shows them. -/
def State.sendCommands (u : State) (m : Mast) (x : FieldMast) : State :=
  ({ u with field := { u.field with masts := u.field.masts.set m x } }).putF (.mast m) fFiOutCmdOn x.placed

/-- The mast has to send its configuration: it holds a FIELD section, and the engine reports another CRC (R223). -/
def State.sendsConfig (s : State) (m : Mast) : Bool :=
  s.field.fsec.isSome && (s.field.masts.get m).engineCrc != s.ownCfgCrc

/-- A mast that works has a field engine with power to send to, past the boot. -/
def State.mayFrame (s : State) (m : Mast) : Prop := s.field.powered = true ∧ (s.mast m).alive = true ∧ s.ctl.mode ≠ .boot

theorem State.mayFrame.linksConfigured (h : s.mayFrame m) : s.linksConfigured = true := by
  simp [State.linksConfigured, h.2.2]

theorem State.noteExits_keeps (s : State) : Keeps [.log, .intake] s (s.noteExits m damaged) :=
  .fold (fun _ _ g => State.exitFail_keeps _ _ rfl g) (.refl _ s)

theorem State.noteExits_of_none (h : s.failedExits damaged = []) : s.noteExits m damaged = s := by
  rw [State.noteExits, h]
  rfl

theorem State.noteExits_of_one {i : Item} (h : s.failedExits damaged = [i]) : s.noteExits m damaged = s.exitFail m i := by
  rw [State.noteExits, h]
  rfl

theorem State.laneByte_of_keeps (h : Keeps [.log, .intake] s u) : u.laneByte = s.laneByte := by
  have regs : u.regs = s.regs := h.frame .regs (by decide)
  have ctl : u.ctl = s.ctl := h.frame .ctl (by decide)
  have lane : u.lane = s.lane := h.frame .lane (by decide)
  simp only [State.laneByte, State.inMode, ctl, lane, State.getF_of_regs regs]

theorem exec_commandFrameSend_of_commands (t : Nat) (h : s.mayFrame m) (hc : s.sendsConfig m = false)
    (hr : s.sup.react = none ∨ s.failedExits damaged = [] ∧ (s.advance t).forceMask m = 0) :
    exec (.commandFrameSend t m damaged) s =
      .next (((s.advance t).noteExits m damaged).sendCommands m ((s.advance t).commandsSent m damaged)) := by
  have links : (s.advance t).linksConfigured = true := State.mayFrame.linksConfigured (s := s.advance t) h
  obtain ⟨hp, ha, -⟩ := h
  dsimp -zeta only [exec, execCommandFrameSend]
  extract_lets v x sender put cfg next bad cur ai failed w old v' frame
  have hnext : next = v.nextImage := by
    unfold next State.nextImage
    cases v.lane.decision <;> rfl
  have hai : ai = v.commandsNext m damaged := by
    unfold ai State.commandsNext
    rw [hnext]
    rfl
  have hw : w = v.noteExits m damaged := by
    unfold w failed
    rw [hnext]
    rfl
  have kept : Keeps [.log, .intake] v w := hw ▸ v.noteExits_keeps
  have sup : w.sup = s.sup := kept.frame .sup (by decide)
  have hw' : v' = w := by
    unfold v' old
    rw [sup]
    rcases hr with hr | ⟨hf, hr⟩
    · rw [hr]
    · have same : w = v := hw.trans (State.noteExits_of_none (s := v) hf)
      rw [same]
      cases s.sup.react with
      | none => rfl
      | some c => exact if_pos hr
  have hframe : frame = (v.commandsSent m damaged).lastFrame := by
    have time : w.time = v.time := kept.frame .time (by decide)
    unfold frame
    rw [hw', State.laneByte_of_keeps kept, hai, time]
    rfl
  have hv : ¬ (!v.field.powered || !(v.mast m).alive || !v.linksConfigured) = true := by
    rw [show v.field.powered = true from hp, show (v.mast m).alive = true from ha, show v.linksConfigured = true from links]
    decide
  have hcfg : ¬ (v.field.fsec.isSome && x.engineCrc != cfg) = true := Bool.eq_false_iff.1 hc
  rw [if_neg hcfg, hframe, hw', hw]
  exact if_neg hv

/-- A mast that has to send its configuration sends the next frame of it. -/
theorem exec_commandFrameSend_of_config (t : Nat) (h : s.mayFrame m) (hc : s.sendsConfig m = true) :
    exec (.commandFrameSend t m damaged) s = .next { s.advance t with field := { s.field with
      masts := s.field.masts.set m { s.field.masts.get m with
        seq := ((s.field.masts.get m).seq + 1) % 65536, cfgIndex := ((s.field.masts.get m).cfgIndex + 1) % 16
        lastFrame := configFrame (s.senderByte m) (s.field.masts.get m).seq (s.field.masts.get m).cfgIndex s.field.body } } } := by
  have links : (s.advance t).linksConfigured = true := State.mayFrame.linksConfigured (s := s.advance t) h
  obtain ⟨hp, ha, -⟩ := h
  exact (if_neg (by simp [hp, ha, links])).trans (if_pos hc)

theorem State.sendsConfig_of_agreeing (h : s.field.fsec.isSome = true → (s.field.masts.get m).engineCrc = s.ownCfgCrc) :
    s.sendsConfig m = false := by
  unfold State.sendsConfig
  cases hf : s.field.fsec.isSome
  · rfl
  · simp [h hf]

/-- With nothing damaged, or with no image in force, no exit check fails. -/
theorem State.failedExits_of_sound
    (h : s.ctl.mode ≠ .run ∧ s.ctl.mode ≠ .hold ∨ badOutputs s.nextImage ++ damaged = []) : s.failedExits damaged = [] := by
  unfold State.failedExits
  rcases h with ⟨hr, hh⟩ | h
  · exact if_neg (by simp [State.inMode, hr, hh])
  · simp [h]

/-- The one output item of the next image whose output is damaged fails. -/
theorem State.failedExits_of_damaged {k : Nat} {i : Item} (hm : s.ctl.mode = .run ∨ s.ctl.mode = .hold)
    (hi : s.nextImage.filter (fun j => decide (0x8001 ≤ j.source ∧ j.source ≤ 0x8018)) = [i]) (hk : i.source = 0x8001 + k) :
    s.failedExits [k] = [i] := by
  have hmode : s.inMode [.run, .hold] = true := by rcases hm with h | h <;> simp [State.inMode, h]
  have hbad : (badOutputs s.nextImage ++ [k]).contains (i.source - 0x8001) = true := by simp [hk]
  unfold State.failedExits
  rw [if_pos hmode, List.filter_congr fun j _ => Bool.and_comm .., ← List.filter_filter, hi, List.filter_cons, if_pos hbad,
    List.filter_nil]

/-- What sending commands leaves, after the exit checks. -/
theorem State.sendCommands_sent (x : FieldMast) : (u.sendCommands m x).field.masts = u.field.masts.set m x ∧
    (u.sendCommands m x).field = { u.field with masts := (u.sendCommands m x).field.masts } ∧
    (u.sendCommands m x).getF (.mast m) fFiOutCmdOn = x.placed % 16777216 ∧
    regsBut [(.mast m, rFiOutCmd)] u (u.sendCommands m x) ∧ sameBut [.field, .regs] u (u.sendCommands m x) :=
  ⟨rfl, rfl, State.getF_putF _ (.mast m) fFiOutCmdOn _ (by decide) (by decide),
    regsBut_putF_self { u with field := _ } (.mast m) fFiOutCmdOn _ rfl (by decide),
    (State.putF_keeps _ _ _ rfl (Keeps.upd_field _ rfl (.refl _ u))).frame⟩

end

/-! ### A mast receives its input frame (R135, R224, R241) -/

section
variable {s : State} {m : Mast} {bytes : List Byte}

/-- The form of an input frame for mast `m` (R224). -/
def inputForm (m : Mast) (bytes : List Byte) : Prop :=
  20 ≤ bytes.length ∧ fieldAt bytes 0 1 = 0x52 ∧ fieldAt bytes 1 1 = m.code ∧ fieldAt bytes 12 1 ≤ 7

/-- The CRC an input frame ends with is its own. -/
def inputCrc (bytes : List Byte) : Prop :=
  fieldAt bytes (bytes.length - 4) 4 = (crc32c (bytes.take (bytes.length - 4))).toNat

/-- A valid frame is noted. -/
def State.noteFrame (s : State) (m : Mast) (bytes : List Byte) : State :=
  { s with field := { s.field with masts := s.field.masts.set m { s.field.masts.get m with
    heard := s.now, inSeq := some (fieldAt bytes 2 2), engineCrc := fieldAt bytes 8 4 } } }

/-- A valid frame is noted, and its items arrive at a mast that takes in items. -/
def State.takeFrame (s : State) (m : Mast) (bytes : List Byte) : State :=
  if s.intakes m then
    (parseItems (fieldAt bytes 12 1) (bytes.drop 16)).foldl (fun z i => z.arrive m i) (s.noteFrame m bytes)
  else s.noteFrame m bytes

theorem exec_inputFrameReceived_of_good (t : Nat) (ha : (s.mast m).alive = true) (hf : inputForm m bytes)
    (hc : inputCrc bytes) : exec (.inputFrameReceived t m bytes) s =
      if bitOf (fieldAt bytes 4 4) (4 + m.code) ∧ ((s.advance t).takeFrame m bytes).votes m then
        .next (((s.advance t).takeFrame m bytes).requestSilent m evFiLinkSilent)
      else .next ((s.advance t).takeFrame m bytes) := by
  obtain ⟨hlen, htyp, hcode, hcount⟩ := hf
  have hc : fieldAt bytes (bytes.length - 4) 4 = (crc32c (bytes.take (bytes.length - 4))).toNat := hc
  refine (if_neg (by simp [ha])).trans ((if_neg ?_).trans rfl)
  simp [htyp, hcode, hc, Nat.not_lt.2 hlen, Nat.not_lt.2 hcount]

theorem exec_inputFrameReceived_of_bad (t : Nat) (ha : (s.mast m).alive = true)
    (hf : bytes.length < 20 ∨ fieldAt bytes 0 1 ≠ 0x52 ∨ fieldAt bytes 1 1 ≠ m.code ∨ 7 < fieldAt bytes 12 1 ∨
      ¬ inputCrc bytes) :
    exec (.inputFrameReceived t m bytes) s = .next ((s.advance t).incF (.mast m) fFiLinkRxerr 1) := by
  refine (if_neg (by simp [ha])).trans (if_pos ?_)
  rcases hf with h | h | h | h | h
  · simp [h]
  · simp [h]
  · simp [h]
  · simp [h]
  · simp [show fieldAt bytes (bytes.length - 4) 4 ≠ (crc32c (bytes.take (bytes.length - 4))).toNat from h]

/-- A frame without items, or one for a mast that takes in none, is noted and no more. -/
theorem State.takeFrame_of_no_items (h : fieldAt bytes 12 1 = 0 ∨ s.intakes m = false) :
    s.takeFrame m bytes = s.noteFrame m bytes := by
  unfold State.takeFrame
  rcases h with h | h
  · rw [h]
    exact ite_self _
  · exact if_neg (by simp [h])

theorem State.powered_of_alive (h : (s.mast m).alive = true) : (s.mast m).powered = true ∧ (s.mast m).silent = false := by
  simp only [MastState.alive, Bool.and_eq_true, Bool.not_eq_true'] at h
  obtain ⟨⟨hp, hs⟩, -⟩ := h
  exact ⟨hp, hs⟩

end

/-! ### Timeouts (R240) -/

section
variable {s u : State} {m : Mast} {p : LanePos}

/-- A position whose source has been missing for the silence timeout takes its silence states. -/
def State.positionTimeout (s : State) (p : LanePos) : State :=
  let x := s.field.pos p
  match x.lostAt with
  | some a =>
    if a + s.silenceTimeout ≤ s.now ∧ !x.silence then
      let before := s.allCommands
      ({ s with field := s.field.setPos p { x with silence := true } }).revote before
    else s
  | none => s

theorem State.positionTimeouts_eq : s.positionTimeouts = ((s.positionTimeout .a).positionTimeout .b).positionTimeout .c := rfl

theorem State.positionTimeout_of_idle (h : (s.field.pos p).silence = true ∨ (s.field.pos p).lostAt = none) :
    s.positionTimeout p = s := by
  unfold State.positionTimeout
  dsimp only
  rcases h with h | h
  · split
    · exact if_neg (by simp [h])
    · rfl
  · rw [h]

/-- The position takes its silence states, and the votes are formed again. -/
def State.silencePos (s : State) (p : LanePos) : State :=
  ({ s with field := s.field.setPos p { s.field.pos p with silence := true } }).revote s.allCommands

theorem State.positionTimeout_of_due {a : Nat} (h : (s.field.pos p).lostAt = some a ∧ (s.field.pos p).silence = false)
    (ht : a + s.silenceTimeout ≤ s.now) : s.positionTimeout p = s.silencePos p := by
  obtain ⟨hl, hs⟩ := h
  unfold State.positionTimeout State.silencePos
  dsimp only
  rw [hl, hs]
  dsimp only
  rw [if_pos ⟨ht, rfl⟩]

theorem State.silencePos_pos_same : (s.silencePos p).field.pos p = { s.field.pos p with silence := true } :=
  (State.revote_pos p).trans (FieldPart.pos_setPos_same _ p _)

theorem State.silencePos_pos_other : ∀ q, q ≠ p → (s.silencePos p).field.pos q = s.field.pos q := fun q h =>
  (State.revote_pos q).trans (FieldPart.pos_setPos_other _ _ h)

theorem State.positionTimeouts_of_idle (h : ∀ p, (s.field.pos p).silence = true ∨ (s.field.pos p).lostAt = none) :
    s.positionTimeouts = s := by
  rw [State.positionTimeouts_eq, State.positionTimeout_of_idle (h .a), State.positionTimeout_of_idle (h .b),
    State.positionTimeout_of_idle (h .c)]

/-- Where one position alone is due, it takes its silence states. -/
theorem State.positionTimeouts_of_due {a : Nat} (h : (s.field.pos p).lostAt = some a ∧ (s.field.pos p).silence = false)
    (ht : a + s.silenceTimeout ≤ s.now)
    (hq : ∀ q, q ≠ p → (s.field.pos q).silence = true ∨ (s.field.pos q).lostAt = none) :
    s.positionTimeouts = s.silencePos p := by
  have due := State.positionTimeout_of_due h ht
  have before {q : LanePos} (hne : q ≠ p) : s.positionTimeout q = s := State.positionTimeout_of_idle (hq q hne)
  have after {q : LanePos} (hne : q ≠ p) : (s.silencePos p).positionTimeout q = s.silencePos p :=
    State.positionTimeout_of_idle (by rw [State.silencePos_pos_other q hne]; exact hq q hne)
  rw [State.positionTimeouts_eq]
  cases p with
  | a => rw [due, after (by decide), after (by decide)]
  | b => rw [before (by decide), due, after (by decide)]
  | c => rw [before (by decide), before (by decide), due]

/-- A link whose silence timeout is due expires, and the masts but its own tell it (R240). -/
def State.expireLink (s : State) (m : Mast) : State :=
  ({ s with field := { s.field with links := s.field.links.set m { s.field.links.get m with expired := true } } }).raiseBy
    (maskOf (s.voters.filter (· != m))) evFiLinkSilent m.code
    (match s.field.posOfLink m with | some p => p.code | none => 3)

/-- The silence timeout of the link is due. -/
def State.linkDue (s : State) (m : Mast) : Bool :=
  (s.field.links.get m).silent.any fun a => decide (a + s.silenceTimeout ≤ s.now) && !(s.field.links.get m).expired

theorem exec_linkSilenceTimeout_of_powered (t : Nat) (hp : s.field.powered = true) : exec (.linkSilenceTimeout t m) s =
    .next (if (s.advance t).linkDue m then (s.advance t).expireLink m else s.advance t).positionTimeouts.showField := by
  dsimp -zeta only [exec, execLinkSilenceTimeout]
  extract_lets v l due l' u pos w
  have hv : ¬ (!v.field.powered) = true := by
    rw [show v.field.powered = true from hp]
    decide
  have hdue : due = v.linkDue m := by
    unfold due State.linkDue
    show _ = Option.any _ l.silent
    cases l.silent <;> rfl
  unfold w
  rw [if_neg hv, hdue]
  rfl

theorem State.linkDue_of_due {a : Nat} (h : (s.field.links.get m).silent = some a ∧ (s.field.links.get m).expired = false)
    (ht : a + s.silenceTimeout ≤ s.now) : s.linkDue m = true := by
  obtain ⟨hs, he⟩ := h
  simp [State.linkDue, hs, he, ht]

theorem State.linkDue_of_expired (h : (s.field.links.get m).silent = none ∨ (s.field.links.get m).expired = true) :
    s.linkDue m = false := by
  rcases h with h | h <;> simp [State.linkDue, h]

end

/-! ### What a command frame leaves -/

section
variable {s : State} {m : Mast} {p : LanePos} {bytes : List Byte} {l : FieldLink}

/-- A position in use takes the commands of its link's frame and has its source again. -/
theorem FieldPos.taking_heard {x : FieldPos} (he : l.expired = false) (hx : x.silence = false ∨ x.fresh = true) (cmd : Nat) :
    (x.heard l).taking cmd = { x with cmd := cmd, lostAt := none, silence := false, fresh := false } := by
  unfold FieldPos.heard FieldPos.taking
  cases hf : x.fresh
  · have hs : x.silence = false := hx.resolve_right (by simp [hf])
    simp [he, hs]
  · simp [hf]

theorem FieldPos.heard_used {x : FieldPos} (hx : x.silence = false ∨ x.fresh = true) :
    (x.heard l).silence = false ∨ (x.heard l).fresh = true := by
  rcases x.heard_cases l with h | h <;> rw [h] <;> exact hx

/-- The field engine `f` with what a command frame may change as it is in `g`: the links and positions, the time, and what votes
change. -/
def FieldPart.commandedAs (f g : FieldPart) : FieldPart :=
  { f with
    links := g.links, posA := g.posA, posB := g.posB, posC := g.posC, time := g.time, timeAt := g.timeAt, outs := g.outs
    test := g.test, queue := g.queue, seqs := g.seqs, queueFull := g.queueFull, notFormed := g.notFormed }

theorem FieldPart.eq_commandedAs {f g h : FieldPart} {x : FieldPos}
    (hg : g = { f with
      links := g.links, posA := g.posA, posB := g.posB, posC := g.posC, time := g.time, timeAt := g.timeAt })
    (hh : h = (g.setPos p x).votedAs h) : h = f.commandedAs h := by
  rw [hh, hg]
  cases p <;> rfl

theorem State.hearCommands_eq : (s.hearCommands m bytes).field =
    { s.field with
      links := (s.hearCommands m bytes).field.links
      posA := (s.hearCommands m bytes).field.posA, posB := (s.hearCommands m bytes).field.posB
      posC := (s.hearCommands m bytes).field.posC
      time := (s.hearCommands m bytes).field.time, timeAt := (s.hearCommands m bytes).field.timeAt } := by
  rw [State.hearCommands_field, FieldPart.hearLink_eq]

theorem State.hearCommands_link :
    (s.hearCommands m bytes).field.links.get m = ((s.field.links.get m).commanded s.now bytes).heard := by
  rw [State.hearCommands_field]
  exact FieldPart.hearLink_link _ _ _

theorem State.hearCommands_links : ∀ o, o ≠ m → (s.hearCommands m bytes).field.links.get o = s.field.links.get o := by
  rw [State.hearCommands_field]
  exact FieldPart.hearLink_links _ _ _

/-- The position `p` of the field engine takes `cmd`, and the votes are formed again. -/
def State.takeAt (s : State) (p : LanePos) (cmd : Nat) : State :=
  ({ s with field := s.field.setPos p ((s.field.pos p).taking (cmd % 2 ^ 24)) }).revote s.allCommands

theorem State.takeCommands_of_used (ha : s.field.adopted.isSome = true) (he : l.expired = false)
    (hx : (s.field.pos p).silence = false ∨ (s.field.pos p).fresh = true) : s.takeCommands p l = s.takeAt p l.onCur := by
  refine (if_neg ?_).trans (State.posTake_eq ha)
  rcases hx with h | h <;> simp [he, h]

theorem State.takeCommands_of_expired (he : l.expired = true) : s.takeCommands p l = s := if_pos (by simp [he])

theorem State.takeAt_pos (cmd : Nat) : (s.takeAt p cmd).field.pos p = (s.field.pos p).taking (cmd % 2 ^ 24) :=
  (State.revote_pos p).trans (FieldPart.pos_setPos_same _ p _)

theorem State.takeAt_pos_other (cmd : Nat) : ∀ q, q ≠ p → (s.takeAt p cmd).field.pos q = s.field.pos q := fun q h =>
  (State.revote_pos q).trans (FieldPart.pos_setPos_other _ _ h)

theorem State.takeAt_field (cmd : Nat) : (s.takeAt p cmd).field =
    (s.field.setPos p ((s.field.pos p).taking (cmd % 2 ^ 24))).votedAs (s.takeAt p cmd).field :=
  (State.revote_voted _ _).field

theorem State.takeAt_links (cmd : Nat) : (s.takeAt p cmd).field.links = s.field.links := by
  rw [State.takeAt_field]
  cases p <;> rfl

theorem State.takeAt_votes (cmd : Nat) (hl : s.field.outs.length = 24) :
    ∀ o, 1 ≤ o → o ≤ 24 → ((s.takeAt p cmd).out o).voted = (s.takeAt p cmd).votedOn o :=
  State.revote_votes (by rw [← hl]; cases p <;> rfl)

theorem State.takeAt_sameBut (cmd : Nat) : sameBut [.field, .regs, .log] s (s.takeAt p cmd) :=
  (State.revote_keeps _ rfl (Keeps.upd_field _ rfl (.refl _ s))).frame

/-- The link's frame is heard, and its position, which is in use, takes the commands. -/
def State.obey (s : State) (m : Mast) (bytes : List Byte) (p : LanePos) : State :=
  (s.hearCommands m bytes).takeAt p (fieldAt bytes 12 4)

theorem State.hearCommands_pos_same (hpos : s.field.posOfLink m = some p) :
    (s.hearCommands m bytes).field.pos p = (s.field.pos p).heard ((s.field.links.get m).commanded s.now bytes) := by
  rw [State.hearCommands_pos, FieldPart.hearLink_pos, if_pos hpos]

theorem State.hearCommands_pos_other (hpos : s.field.posOfLink m = some p) :
    ∀ q, q ≠ p → (s.hearCommands m bytes).field.pos q = s.field.pos q := by
  intro q h
  rw [State.hearCommands_pos, FieldPart.hearLink_pos, if_neg fun e => h (Option.some.inj (e.symm.trans hpos))]

theorem State.takeCommands_hearCommands (hpos : s.field.posOfLink m = some p)
    (h : (s.field.links.get m).expired = false ∧ s.field.adopted.isSome = true)
    (hx : (s.field.pos p).silence = false ∨ (s.field.pos p).fresh = true) :
    (s.hearCommands m bytes).takeCommands p ((s.field.links.get m).commanded s.now bytes) = s.obey m bytes p := by
  obtain ⟨he, ha⟩ := h
  refine State.takeCommands_of_used ?_ he ?_
  · rw [State.hearCommands_eq]
    exact ha
  · rw [State.hearCommands_pos_same hpos]
    exact FieldPos.heard_used hx

theorem State.obey_pos (hpos : s.field.posOfLink m = some p) (he : (s.field.links.get m).expired = false)
    (hx : (s.field.pos p).silence = false ∨ (s.field.pos p).fresh = true) : (s.obey m bytes p).field.pos p =
      { s.field.pos p with cmd := fieldAt bytes 12 4 % 16777216, lostAt := none, silence := false, fresh := false } := by
  rw [State.obey, State.takeAt_pos, State.hearCommands_pos_same hpos]
  exact FieldPos.taking_heard he hx _

theorem State.obey_links : (s.obey m bytes p).field.links = (s.hearCommands m bytes).field.links := by
  rw [State.obey, State.takeAt_links]

theorem State.obey_link (he : (s.field.links.get m).expired = false) : (s.obey m bytes p).field.links.get m =
    { (s.field.links.get m).commanded s.now bytes with valid := true, silent := none } := by
  rw [State.obey_links, State.hearCommands_link]
  exact FieldLink.heard_of_alive he

theorem State.obey_link_other : ∀ o, o ≠ m → (s.obey m bytes p).field.links.get o = s.field.links.get o := by
  rw [State.obey_links]
  exact State.hearCommands_links

theorem State.obey_field : (s.obey m bytes p).field = s.field.commandedAs (s.obey m bytes p).field := by
  unfold State.obey
  exact FieldPart.eq_commandedAs State.hearCommands_eq (State.takeAt_field _)

theorem State.obey_sameBut : sameBut [.field, .regs, .log] s (s.obey m bytes p) := by
  unfold State.obey
  exact sameBut_trans (sameBut_mono State.hearCommands_sameBut (by decide)) (State.takeAt_sameBut _)

theorem State.obey_pos_other (hpos : s.field.posOfLink m = some p) :
    ∀ q, q ≠ p → (s.obey m bytes p).field.pos q = s.field.pos q := by
  intro q h
  rw [State.obey, State.takeAt_pos_other _ q h, State.hearCommands_pos_other hpos q h]

theorem State.obey_votes (hl : s.field.outs.length = 24) :
    ∀ o, 1 ≤ o → o ≤ 24 → ((s.obey m bytes p).out o).voted = (s.obey m bytes p).votedOn o := by
  unfold State.obey
  exact State.takeAt_votes _ (by rw [State.hearCommands_eq]; exact hl)

end

/-! ### What the position's silence leaves -/

section
variable {s : State} {p : LanePos}

theorem State.silencePos_field : (s.silencePos p).field =
    (s.field.setPos p { s.field.pos p with silence := true }).votedAs (s.silencePos p).field :=
  (State.revote_voted _ _).field

theorem State.silencePos_links : (s.silencePos p).field.links = s.field.links := by
  rw [State.silencePos_field]
  cases p <;> rfl

theorem State.silencePos_votes (hl : s.field.outs.length = 24) :
    ∀ o, 1 ≤ o → o ≤ 24 → ((s.silencePos p).out o).voted = (s.silencePos p).votedOn o :=
  State.revote_votes (by rw [← hl]; cases p <;> rfl)

/-- A silent position commands what the configuration gives each output for it. -/
theorem State.silencePos_commands (hp : s.field.powered = true) (o : Nat) : (s.silencePos p).commands p o =
    if s.silenceOf o = 0 then false else if s.silenceOf o = 1 then true else bitOf (s.field.pos p).cmd (o - 1) := by
  set u : State := { s with field := s.field.setPos p { s.field.pos p with silence := true } }
  have commands : (s.silencePos p).commands = u.commands := State.commands_of_voted (State.revote_voted u _).field
  have pos : u.field.pos p = { s.field.pos p with silence := true } := FieldPart.pos_setPos_same _ p _
  have powered : u.field.powered = true := by
    rw [← hp]
    cases p <;> rfl
  have silence : u.silenceOf o = s.silenceOf o := by cases p <;> rfl
  rw [commands, State.commands, pos, powered, silence]
  rfl

end

/-- Settles O29: each command's exec is taken to the operation of R221 to R241 it carries out; the votes that a change of commands
forms again are followed output by output. -/
theorem fieldLinksAndFrames : Obligations.FieldLinksAndFrames := by
  unfold Obligations.FieldLinksAndFrames
  refine ⟨?send, ?damaged, ?sendConfig, ?command, ?commandExpired, ?commandBad, ?config, ?adoption, ?configBad, ?inputSend,
    ?inputNoted, ?inputArrives, ?inputSilent, ?inputBad, ?inputTimeout, ?silent, ?rejected, ?linkExpires, ?posExpires⟩
  case send =>
    intro t m damaged s hp ha hb hc hsound hr
    have e := exec_commandFrameSend_of_commands (damaged := damaged) t (s := s) (m := m) ⟨hp, ha, hb⟩
      (State.sendsConfig_of_agreeing hc) (hr.imp_right fun h => ⟨State.failedExits_of_sound hsound, h⟩)
    rw [State.noteExits_of_none (State.failedExits_of_sound (s := s.advance t) hsound)] at e
    obtain ⟨masts, field, shown, regs, frame⟩ :=
      State.sendCommands_sent (u := s.advance t) (m := m) ((s.advance t).commandsSent m damaged)
    exact ⟨_, e, masts, field, shown, regsBut_trans (regsBut_of_regs rfl) regs, frame⟩
  case damaged =>
    intro t m k i s hp ha hb hc hmode hi ⟨hk, hki, hnone⟩ hr
    have e := exec_commandFrameSend_of_commands (damaged := [k]) t (s := s) (m := m) ⟨hp, ha, hb⟩
      (State.sendsConfig_of_agreeing hc) (.inl hr)
    rw [State.noteExits_of_one (State.failedExits_of_damaged (s := s.advance t) hmode hi hki)] at e
    have noted : Keeps [.log, .intake] (s.advance t) ((s.advance t).exitFail m i) := State.exitFail_keeps _ _ rfl (.refl _ _)
    have hfield : ((s.advance t).exitFail m i).field = s.field := noted.frame .field (by decide)
    obtain ⟨masts, field, shown, regs, frame⟩ :=
      State.sendCommands_sent (u := (s.advance t).exitFail m i) (m := m) ((s.advance t).commandsSent m [k])
    rw [hfield] at masts field
    exact ⟨_, e, masts, field, shown,
      (raised_of_log (frame .log (by decide)) ..).2 (State.exitFail_tells (s := s.advance t) hnone),
      regsBut_trans (regsBut_of_regs (noted.frame .regs (by decide))) regs,
      sameBut_trans (sameBut_mono noted.frame (by decide)) (sameBut_mono frame (by decide))⟩
  case sendConfig =>
    intro t m damaged s hp ha hb ⟨hfsec, hcrc⟩
    exact ⟨_, exec_commandFrameSend_of_config t ⟨hp, ha, hb⟩ (by simp [State.sendsConfig, hfsec, hcrc]), rfl, rfl,
      (Keeps.upd_field _ rfl (.refl _ (s.advance t))).frame⟩
  case command =>
    intro t m bytes p s hp hf ⟨he, ha⟩ hpos hx
    have e : exec (.commandFrameReceived t m bytes) s = .next ((s.advance t).obey m bytes p).showField := by
      rw [exec_commandFrameReceived_of_good t hp hf ha, hpos, Option.elim_some]
      exact congrArg (fun u : State => Host.Outcome.next u.showField)
        (State.takeCommands_hearCommands (s := s.advance t) hpos ⟨he, ha⟩ hx)
    refine ⟨_, e, ?_⟩
    rw [State.showField_field, State.showField_out, State.showField_votedOn]
    exact ⟨State.obey_link (s := s.advance t) he, State.obey_pos (s := s.advance t) hpos he hx,
      State.obey_pos_other (s := s.advance t) hpos, State.obey_votes (s := s.advance t),
      State.obey_link_other (s := s.advance t), State.obey_field (s := s.advance t),
      sameBut_trans State.obey_sameBut (sameBut_mono (State.showField_sameBut _) (by decide))⟩
  case commandExpired =>
    intro t m bytes s hp hf ⟨he, ha⟩
    have e : exec (.commandFrameReceived t m bytes) s = .next ((s.advance t).hearCommands m bytes).showField := by
      rw [exec_commandFrameReceived_of_good t hp hf ha]
      cases s.field.posOfLink m with
      | none => rfl
      | some p => exact congrArg (fun u : State => Host.Outcome.next u.showField) (State.takeCommands_of_expired he)
    have frame : sameBut [.field] (s.advance t) ((s.advance t).hearCommands m bytes) := State.hearCommands_sameBut
    refine ⟨_, e, ?_, fun p => ?_, ?_, fun o ho => ?_, ?_, ?_⟩
    · rw [State.showField_field, State.hearCommands_link]
      exact FieldLink.heard_of_expired he
    · rw [State.showField_field, State.hearCommands_pos]
      exact FieldPart.hearLink_pos_expired s.field m (l := (s.field.links.get m).commanded (max s.now t) bytes) he p
    · rw [State.showField_field, State.hearCommands_eq]
      rfl
    · rw [State.showField_field]
      exact State.hearCommands_links (s := s.advance t) o ho
    · exact regsBut_trans (regsBut_of_regs (frame .regs (by decide))) (State.showField_regsBut _)
    · exact sameBut_trans (sameBut_mono frame (by decide)) (sameBut_mono (State.showField_sameBut _) (by decide))
  case commandBad =>
    intro t m bytes s hp hf
    exact exists_rejected t (exec_commandFrameReceived_of_bad t hp hf)
  case config =>
    intro t m bytes s hp hf ha
    have adopted : ((s.advance t).hearConfig m bytes).field.adopted.isSome = true :=
      (congrArg Option.isSome (FieldPart.hearLink_adopted s.field m _)).trans ha
    have heard : ((s.advance t).hearConfig m bytes).field = s.field.hearLink m ((s.field.links.get m).configured bytes) := rfl
    have e := exec_configFrameReceived_of_good t hp hf
    rw [State.tryAdopt_of_adopted adopted] at e
    refine ⟨_, e, ?_⟩
    rw [State.showField_field, heard]
    refine ⟨FieldPart.hearLink_link _ _ _, FieldPart.hearLink_eq _ _ _, fun p => ?_, FieldPart.hearLink_links _ _ _,
      regsBut_trans (regsBut_of_regs rfl) (State.showField_regsBut _),
      sameBut_trans (Keeps.upd_field _ rfl (.refl _ (s.advance t))).frame (sameBut_mono (State.showField_sameBut _) (by decide))⟩
    obtain ⟨cmd, silence, -⟩ := FieldPart.hearLink_pos_same s.field m ((s.field.links.get m).configured bytes) p
    exact ⟨cmd, silence⟩
  case adoption =>
    intro t m bytes o body s hp hf ha ⟨hA, hB, hne, hC⟩ ⟨hm, hmc⟩ ho htest
    set u := (s.advance t).hearConfig m bytes
    have field : u.field = _ := FieldPart.hearLink_eq s.field m ((s.field.links.get m).configured bytes)
    have link (q : LanePos) : (u.field.pos q).link = (s.field.pos q).link := (FieldPart.hearLink_pos_same s.field m _ q).2.2
    have here : u.field.links.get m = _ := FieldPart.hearLink_link s.field m _
    have there : u.field.links.get o = _ := FieldPart.hearLink_links s.field m _ o hne
    obtain ⟨now, crc, inhibit, frame⟩ := (State.tryAdopt_adopted (s := u) (m := m) (o := o) (body := body)
      ((FieldPart.hearLink_adopted s.field m _).trans ha) (by rw [field]; exact htest)
      ⟨(link .a).trans hA, (link .b).trans hB, (link .c).trans hC⟩ (by rw [here]; exact ⟨hm, hmc⟩)
      (by rw [there]; exact ho)).showField
    refine ⟨_, exec_configFrameReceived_of_good t hp hf, congrArg FieldPart.adopted now, congrArg FieldPart.adoptedCrc now, crc,
      inhibit, ?_, ?_, fun q hq => ?_, sameBut_trans (Keeps.upd_field _ rfl (.refl _ (s.advance t))).frame frame⟩
    · rw [State.showField_configured, ← State.showField_field, now]
      rfl
    · rw [now]
      exact here
    · rw [now]
      exact FieldPart.hearLink_links s.field m _ q hq
  case configBad =>
    intro t m bytes s hp hf
    exact exists_rejected t (exec_configFrameReceived_of_bad t hp hf)
  case inputSend =>
    intro t s hp
    exact ⟨_, if_neg (by simp [hp]), fun m => per_get_map _ _ m, rfl, (Keeps.upd_field _ rfl (.refl _ (s.advance t))).frame⟩
  case inputNoted =>
    intro t m bytes s ha hf hc hbit hnone
    have e := exec_inputFrameReceived_of_good t ha hf hc
    rw [State.takeFrame_of_no_items (s := s.advance t) hnone] at e
    refine ⟨_, e.trans (if_neg ?_), rfl⟩
    rintro ⟨hb, hv⟩
    rcases hbit with h | h
    · exact absurd hb (by simp [h])
    · exact absurd hv (by simp [show ((s.advance t).noteFrame m bytes).votes m = false from h])
  case inputArrives =>
    intro t m bytes s ha hf hc hbit hin
    have e := exec_inputFrameReceived_of_good t ha hf hc
    rw [State.takeFrame, if_pos (show (s.advance t).intakes m = true from hin)] at e
    exact e.trans (if_neg (by simp [hbit]))
  case inputSilent =>
    intro t m bytes s ha hf hc ⟨hbit, hv⟩ hnone
    have e := exec_inputFrameReceived_of_good t ha hf hc
    rw [State.takeFrame_of_no_items (s := s.advance t) (.inl hnone)] at e
    obtain ⟨hp, hs⟩ := State.powered_of_alive ha
    refine ⟨_, e.trans (if_pos ⟨hbit, hv⟩), ?_, ?_, ?_⟩
    · exact State.goSilent_wentSilent (s := (s.advance t).noteFrame m bytes) _ _ _ hp hs (by decide)
    · exact State.goSilent_recorded (s := (s.advance t).noteFrame m bytes) _ _ _ hp hs (whoOf_lt m .p (by decide)) (by decide)
    · exact (State.requestSilent_keeps _ _ rfl (Keeps.upd_field _ rfl (.refl _ (s.advance t)))).frame
  case inputBad =>
    intro t m bytes s ha hf
    exact ⟨_, exec_inputFrameReceived_of_bad t ha hf,
      State.getF_incF_half (s := s.advance t) _ _ _ (by decide) (by decide) rfl,
      regsBut_trans (regsBut_of_regs rfl) (regsBut_putF_self (s.advance t) _ _ _ rfl (by decide)),
      (State.incF_keeps _ _ _ rfl (.refl _ _)).frame⟩
  case inputTimeout =>
    intro t m s hp ⟨ha, hv⟩ ht
    have ht : (s.field.masts.get m).heard + s.silenceTimeout ≤ (s.advance t).now := ht.trans (le_max_right ..)
    refine wentSilent_of_exec_goSilent (u := s.advance t) (if_pos ?_) (sameBut_refl _ _) (State.powered_of_alive ha) (by decide)
      (whoOf_lt m .p (by decide)) (by decide)
    simp only [Bool.and_eq_true, decide_eq_true_eq]
    exact ⟨⟨⟨hp, ha⟩, hv⟩, ht⟩
  case silent =>
    intro t m s hp
    have e : exec (.linkSilenceDetect t m false) s = .next ((s.advance t).linkSilent m) := if_neg (by simp [hp])
    rw [State.linkSilent_eq] at e
    refine ⟨_, e, ?_⟩
    rw [State.showField_field]
    exact ⟨FieldPart.loseLink_link _ _ _, FieldPart.loseLink_pos _ _ _, FieldPart.loseLink_eq _ _ _,
      FieldPart.loseLink_links _ _ _, regsBut_trans (regsBut_of_regs rfl) (State.showField_regsBut _),
      sameBut_trans (Keeps.upd_field _ rfl (.refl _ (s.advance t))).frame (sameBut_mono (State.showField_sameBut _) (by decide))⟩
  case rejected =>
    intro t m s hp
    have e : exec (.linkSilenceDetect t m true) s = .next ((s.advance t).linkReject m) := if_neg (by simp [hp])
    refine ⟨_, e, ?_⟩
    rw [State.linkReject_field]
    exact ⟨FieldPart.loseLink_link _ _ _, FieldPart.loseLink_pos _ _ _, FieldPart.loseLink_eq _ _ _,
      FieldPart.loseLink_links _ _ _, State.linkReject_counts,
      regsBut_trans (regsBut_of_regs rfl) State.linkReject_regsBut, (State.linkReject_keeps _ rfl (.refl _ _)).frame⟩
  case linkExpires =>
    intro t m a s hp hl ht hidle
    have ht : a + s.silenceTimeout ≤ (s.advance t).now := ht.trans (le_max_right ..)
    have e := exec_linkSilenceTimeout_of_powered t (m := m) hp
    rw [if_pos (State.linkDue_of_due (s := s.advance t) hl ht), State.positionTimeouts_of_idle] at e
    · exact ⟨_, e, rfl, raised_raiseBy _ _ _ _ _, regsBut_trans (regsBut_of_regs rfl) (State.showField_regsBut _),
        (State.showField_keeps rfl (State.raiseBy_keeps _ _ _ _ rfl (Keeps.upd_field _ rfl (.refl _ (s.advance t))))).frame⟩
    · intro p
      have idle := hidle p (lanePos_mem p)
      cases p <;> exact idle
  case posExpires =>
    intro t m p a s hp hl ⟨hlost, hsil, ht⟩ hidle
    have ht : a + s.silenceTimeout ≤ (s.advance t).now := ht.trans (le_max_right ..)
    have e := exec_linkSilenceTimeout_of_powered t (m := m) hp
    rw [if_neg (Bool.eq_false_iff.1 (State.linkDue_of_expired (s := s.advance t) hl)),
      State.positionTimeouts_of_due (s := s.advance t) ⟨hlost, hsil⟩ ht fun q => hidle q (lanePos_mem q)] at e
    refine ⟨_, e, ?_⟩
    rw [State.showField_field, State.showField_out, State.showField_votedOn, State.showField_commands, State.silencePos_links]
    exact ⟨State.silencePos_pos_same, State.silencePos_pos_other, State.silencePos_commands (s := s.advance t) hp,
      State.silencePos_votes (s := s.advance t), rfl,
      (State.showField_keeps rfl (State.revote_keeps _ rfl (Keeps.upd_field _ rfl (.refl _ (s.advance t))))).frame⟩

end Sys2Proof.Machine
